-- ==== Sys2Proof/Word.lean ====
section
/-! DEFINITION. The word types of the block: a byte, a 32-bit register word (01 R24) and a 64-bit Petal
operand (05 R151). -/

namespace Sys2Proof

/-- One byte. -/
abbrev Byte := BitVec 8

/-- One register of the service window (R24). -/
abbrev Word := BitVec 32

/-- One entry of a Petal operand stack (R151). -/
abbrev Quad := BitVec 64

end Sys2Proof
end

