-- ==== Sys2Proof/Data.lean ====
section
/-! DEFINITION. The data that commands carry, and the parts of the state that a resync carries whole (11 R359). -/

namespace Sys2Proof

/-- Where a mailbox request comes from (03 R74, R82): an external session by its index, or a Petal engine. -/
inductive Src where
  | host (session : Nat)
  | petal (engine : Nat)
deriving DecidableEq, Repr

/-- A mailbox message as it arrives (R80): the header fields other than FAMILY and COMMAND, the payload, and the
time in ns from the instant its response class counts from to its final response or class A action (R94). -/
structure Req where
  src : Src
  seq : Nat
  flags : Nat
  status : Nat
  length : Nat
  segment : Nat
  segCount : Nat
  payload : List Byte
  elapsedNs : Nat
deriving DecidableEq, Repr

/-- A Hollyhock frame as it arrives on a port (12 R371): the header fields, and whether its tag verified under the
current key or the previous one (R373). -/
structure HhkHdr where
  port : Nat
  srcSlot : Nat
  flags : Nat
  segment : Nat
  dst : Nat
  counter : Nat
  frame : Nat
  tagOk : Bool
  underOldKey : Bool
deriving DecidableEq, Repr

/-- What a heartbeat tells of its sender's time (12 R372, 02 R43, R49, R65; log entry 131): the effective PRIO, CLASS and
EST_ERR, whether time is valid, and TAI-UTC with its pending leap. -/
structure HbTime where
  prio : Nat
  cls : Nat
  err : Nat
  valid : Bool
  known : Bool
  tai : Nat
  leap61 : Bool
  leap59 : Bool
deriving DecidableEq, Repr

/-- The extension of an IRIG-B frame (02 R50): the local offset in s, whether a leap second is pending, and whether the
time quality is worse than 1 us. -/
structure IrigExt where
  localOfs : Int
  leapPending : Bool
  badQuality : Bool
deriving DecidableEq, Repr

/-- The classes of the integer opcodes, in the order of their low two bits (05 R157). -/
inductive IClass where
  | i32 | i64 | u32 | u64
deriving DecidableEq, Repr

/-- The classes of the floating-point opcodes: even and odd (05 R157). -/
inductive FClass where
  | f32 | f64
deriving DecidableEq, Repr

/-- A fabric access (15 R429-R434): the master (01 R19), whether a DMA transfer was requested on rings 220-239, the
mode of a UM core, KIND 0 read, 1 write, 2 execute, the address, log2 of the bytes per beat, the beats, the data of a
write, and the symbols found in error where a DRAM line is read (14 R412). -/
structure FabAcc where
  master : Nat
  secureRing : Bool
  user : Bool
  kind : Nat
  addr : Nat
  sizeLog2 : Nat
  beats : Nat
  data : List Byte
  badSymbols : List Nat
deriving DecidableEq, Repr

/-! ### What a snapshot carries (11 R350) -/

/-- What a named frame brings (04 R139). -/
inductive Named where
  /-- The program starts, in the given RUN mode. -/
  | start (mode : Nat)
  | stop
  | swap
  /-- Ownership moves (11 R347). -/
  | handover
  /-- The joiner runs its first frame Q (11 R360). -/
  | join
deriving DecidableEq, Repr

/-- A force (04 R135): KIND 0 input, 1 output, 2 instance variable. -/
structure Force where
  symbol : Nat
  type : Nat
  kind : Nat
  value : Nat
deriving DecidableEq, Repr

/-- A force change with the frame in which it takes effect (04 R137); `clear` releases it. -/
structure ForceChange where
  frame : Nat
  clear : Bool
  force : Force
deriving DecidableEq, Repr

/-- A value of a source (05 R183): SRC_KIND, SRC_REF and the bytes an image item of it receives. -/
structure SnapItem where
  kind : Nat
  ref : Nat
  /-- TYPE of the input item, which decodes a GOOSE member (08 R271); 0 for every other source. -/
  type : Nat
  value : List Byte
deriving DecidableEq, Repr

/-- A sample of a stream in a batch (06 R192): its place, second times rate plus smpCnt, and its quantities, each a
value with its flags at their places of R204 in the low 16 bits, bit 0 telling that the quantity is used, and its
quality word above them; `usable` tells that its smpSynch is (R190). -/
structure BatchRow where
  stream : Nat
  place : Nat
  usable : Bool
  vals : List (Int × Nat)
deriving DecidableEq, Repr

/-- A wavefront report (07 R233): of a local group or, `remote`, of a subscription. -/
structure WfReport where
  remote : Bool
  src : Nat
  term : Nat
  seq : Nat
  time : Nat
  cls : Nat
  err : Nat
  dir : Nat
  pol : Int
  mode : Nat
  amp : Nat
  flags : Nat
deriving DecidableEq, Repr

/-- A snapshot (11 R350). -/
structure Snapshot where
  /-- The frame it feeds. -/
  frame : Nat := 0
  /-- The time record of R56 for that frame, and whether the slew that it may carry holds the counter back. -/
  timeRec : List Byte := List.replicate 16 0
  slewBack : Bool := false
  named : List (Nat × Named) := []
  /-- Stations alive, and the AGE of input blocks (04 R131). -/
  alive : Nat := 0
  ages : List (Nat × Nat) := []
  /-- Stations that dropped out and that returned since the previous snapshot (04 R130, 08 R276). -/
  drops : Nat := 0
  returns : Nat := 0
  /-- Publications whose release is discarded (08 R268). -/
  discards : Nat := 0
  /-- What the pair status item takes from the member that froze it (R353). -/
  ownerRole : Nat := 0
  paired : Bool := false
  mismatch : Bool := false
  moved : Nat := 0
  batch : List BatchRow := []
  items : List SnapItem := []
  /-- Larkspur reports pending, with the frame in whose snapshot each entered (07 R236). -/
  reports : List (WfReport × Nat) := []
  /-- The reports that enter in it. -/
  entered : List WfReport := []
  changes : List ForceChange := []
  /-- SYS_DROP and SYS_REJECT by TASKS position (04 R124). -/
  counts : List (Nat × Nat × Nat) := []
deriving DecidableEq, Repr


/-! ### What the field, the buses and the networks deliver -/

/-- What the field stages measure at a field sample instant (09 R283): terminal voltages of DI and DO and FLD24 in mV,
per AI the sum and the number of the 24-bit conversions of the 250 us, mean AO currents in 10 nA, the AI limiters that act (a bitmap), and per AO the voltage across the regulating
element in mV, the stage temperature in 0.1 degrees, whether the sense element is open or shorted (a bitmap) and the
stage's own current in 10 nA. -/
structure FieldSample where
  di : List Int
  dout : List Int
  fld24 : Nat
  ai : List (Int × Nat)
  aiLimit : Nat
  aoRead : List Nat
  aoHead : List Nat
  aoTemp : List Int
  aoSense : Nat
  aoOwn : List Nat
deriving DecidableEq, Repr

/-- A frame on a CAN bus (10 R318): the flags IDE, FDF, BRS, ESI and RTR, its data, the module time of its SOF, and
the error that destroyed it: 0 none, 1 to 5 as REASON of R322, 6 a CRC error; `extra` counts the further increments of
8 that ISO 11898-1 prescribes for it. -/
structure CanFrame where
  flags : Nat
  id : Nat
  data : List Byte
  sof : Nat
  err : Nat
  extra : Nat
deriving DecidableEq, Repr

/-- An ASDU of a sampled-value frame (06 R186): smpCnt, SmpRate where present, smpSynch, the values and their quality
words. -/
structure SvAsdu where
  smpCnt : Nat
  smpRate : Option Nat
  smpSynch : Nat
  vals : List Int
  quals : List Nat
deriving DecidableEq, Repr

/-- A frame as it comes in on a network port (08 R253, R259, R260, R273, R281): the port, the source address, the length,
whether its FCS holds and a receive buffer is free, its MACsec protection (0 none, 1 intact, 2 failed) with its packet
number, and the LAN (0 lower, 1 upper port's) and sequence number of its PRP trailer or HSR tag. -/
structure Ingress where
  port : Nat
  src : Nat
  length : Nat
  fcsOk : Bool
  buffer : Bool
  macsec : Nat
  pn : Nat
  tag : Option (Nat × Nat)
deriving DecidableEq, Repr

/-- A sampled-value frame as the network engine delivers it: how it came in, addressing and svID, the simulation bit, its
authentication (0 none, 1 its MAC holds, 2 it fails) with its KEY_ID, its ASDUs and its arrival in module time. -/
structure SvFrame where
  inn : Ingress
  mac : Nat
  appid : Nat
  vlan : Nat
  svId : List Byte
  confRev : Nat
  sim : Bool
  auth : Nat
  keyId : Nat
  asdus : List SvAsdu
  arrival : Nat
deriving DecidableEq, Repr

/-- A GOOSE frame (08 R265-R270): how it came in, addressing, references, the members as TYPE code of 05 R153 and value
bytes (of a utc-time the eight octets of UtcTime as they stand in the frame), the sequence fields, timeAllowedtoLive in ms, authentication as for SvFrame, and its arrival in module time. -/
structure GooseFrame where
  inn : Ingress
  mac : Nat
  appid : Nat
  vlan : Nat
  ref : List Byte
  datSet : List Byte
  goId : List Byte
  confRev : Nat
  members : List (Nat × List Byte)
  sim : Bool
  test : Bool
  ndsCom : Bool
  st : Nat
  sq : Nat
  tal : Nat
  auth : Nat
  keyId : Nat
  arrival : Nat
deriving DecidableEq, Repr

/-- A PTP message as it arrives (02 R46): what it is. Sync, delay responses and announces act by their own commands. -/
inductive PtpKind where
  | sync
  | delayResp
  | pdelayReq
  | pdelayResp
  | announce
  | management
deriving DecidableEq, Repr

/-- A PTP message on a port: its transport (over UDP/IPv4 or not), domain, sequence number and kind (02 R46). -/
structure PtpFrame where
  udp : Bool
  domain : Nat
  seq : Nat
  kind : PtpKind
deriving DecidableEq, Repr

/-- What a frame on a network port carries beside GOOSE, sampled values and R-GOOSE (08 R254, R258). -/
inductive NetKind where
  | arp (ip : Nat)
  | echo (ip : Nat) (data : List Byte)
  | fragment
  | supervision
  | ptp (p : PtpFrame)
  | other
deriving DecidableEq, Repr

/-- A frame on a network port (08 R254-R260): how it came in, and what it carries. -/
structure NetFrame where
  inn : Ingress
  kind : NetKind
deriving DecidableEq, Repr

/-- A character received on a lane (07 R220): a data byte, K28.5, another control character, or one with a code or
disparity error. -/
inductive LaneChar where
  | data (b : Byte)
  | comma
  | control
  | bad
deriving DecidableEq, Repr

/-- A sample pair of five characters (R220). -/
structure LanePair where
  c0 : LaneChar
  c1 : LaneChar
  c2 : LaneChar
  c3 : LaneChar
  c4 : LaneChar
deriving DecidableEq, Repr

/-- A sample as stored (R221, R242): its 16 bits, 0x8000 where it is invalid, and OVR, FE_FAULT and TEST as bits 2 to
0. -/
structure LaneSample where
  code : Nat
  flags : Nat
deriving DecidableEq, Repr

/-- A lane frame in the raw ring. -/
structure LaneFrm where
  frame : Nat
  samples : List LaneSample
deriving DecidableEq, Repr

/-- A mark edge: its frame, its module time t_S in ps, and N of the frame before it (R223, R224). -/
structure MarkRec where
  frame : Nat
  tS : Nat
  count : Nat
deriving DecidableEq, Repr

/-- The group processor of a lane group (R226, R227), in numbers of its own: per phase the last two inputs and outputs
of the filter, sigma squared of the modes alpha, beta and zero, the samples that sigma is formed from, the samples since
the last invalid or TEST one, and the frame it takes next. -/
structure GrpProc where
  filt : List (Nat × Nat × Nat × Nat) := [(0, 0, 0, 0), (0, 0, 0, 0), (0, 0, 0, 0)]
  sig2 : List Nat := [0, 0, 0]
  seen : Nat := 0
  quiet : Nat := 49
  next : Nat := 0
deriving DecidableEq, Repr

/-- A sample after the filter: its frame and number, the three modes with sigma of each, whether detection is not
suppressed at it, whether it carries OVR, and whether it is invalid. -/
structure ModeSample where
  frame : Nat
  n : Nat
  modes : List Nat
  sigma : List Nat
  ok : Bool
  ovr : Bool
  inv : Bool
deriving DecidableEq, Repr

/-- A sample as a detector of one signal sees it: its value, its threshold, not suppressed, OVR, invalid. -/
structure Probe where
  m : Nat
  th : Nat
  ok : Bool
  ovr : Bool
  inv : Bool
deriving DecidableEq, Repr

/-- A calibration under way (R251): its start frame, LANE_MASK, the requests issued, the onsets measured per lane in ns,
the request that waits for it, and per lane the filter that has run since it began. -/
structure CalSt where
  start : Nat
  mask : Nat
  issued : Nat := 0
  onsets : List (List Int) := List.replicate 12 []
  req : Option (Nat × Nat) := none
  filts : List (Nat × Nat × Nat × Nat) := []
deriving DecidableEq, Repr

/-- A channel of a COMTRADE record (R244). -/
structure CffChan where
  name : String
  unit : String
  mult : Nat
  offset : Nat
deriving DecidableEq, Repr

/-- What a COMTRADE record tells beside its samples (R244): the revision year, the data format and its code for
missing data, the channels, the rates, the UTC start and trigger in us, timemult as a fraction, the time codes, tmq_code,
leapsec, and of the .hdr section the exact TAI of the first sample, the trigger's source, EVT_SEQ,
TAG and the lane records' FE_DELAY_NS, CABLE_NS and SENSOR_NS. -/
structure Cff where
  revYear : Nat
  format : String
  missing : Nat
  chans : List CffChan
  nrates : Nat
  samp : Nat
  startUs : Int
  triggerUs : Int
  timemult : Nat × Nat
  timeCode : String
  localCode : String
  tmq : Nat
  leap : Bool
  first : Nat
  source : Nat
  manual : Bool
  seq : Nat
  tag : List Byte
  delays : List (Int × Nat × Int)
  rows : Nat
deriving DecidableEq, Repr

/-- A wavefront as the group processor finds it (07 R228, R229): the fitted onset in module time before R225, the
polarity, mode 0 to 2, AMP as REAL bits, RISE_NS, whether the peak is at least 20 sigma, whether the edge holds OVR
samples and the event's samples invalid ones. -/
structure WfDet where
  group : Nat
  raw : Nat
  pol : Int
  mode : Nat
  amp : Nat
  rise : Nat
  strong : Bool
  saturated : Bool
  laneFault : Bool
deriving DecidableEq, Repr

/-- A received R-GOOSE report (07 R233, R235): how it came in, addressing, the KEY_ID it names, whether its MAC verified, the test flag, whether it is a
heartbeat of a held state, its time allowed to live in ms, its dataset and its arrival in module time. -/
structure RgReport where
  inn : Ingress
  appid : Nat
  srcIp : Nat
  ref : List Byte
  dstIp : Nat
  keyId : Nat
  macOk : Bool
  test : Bool
  heartbeat : Bool
  tal : Nat
  rep : WfReport
  arrival : Nat
deriving DecidableEq, Repr

/-- A role of a certificate's role extension (03 R87): its IEC 62351-8 value and its validity period in s of UTC. -/
structure CertRole where
  role : Int
  validFrom : Nat
  validTo : Nat
deriving DecidableEq, Repr

/-- A TLS handshake as its own messages show it (03 R86-R89): the port, 4 for SVC, the source IPv4 address, the TCP port,
the version, cipher suite, group and signature by their codes of RFC 8446, the authentication (0 mutual by certificate, 1
any other way), the ALPN (1 "dx880-mbx", 2 "dx880-mbx-s", 0 any other or none), the client's certificate chain, leaf first,
the validity period of the certificate in s of UTC and its roles. -/
structure Handshake where
  port : Nat
  addr : Nat
  tcp : Nat
  version : Nat
  suite : Nat
  group : Nat
  sig : Nat
  auth : Nat
  alpn : Nat
  cert : List Byte
  certFrom : Nat
  certTo : Nat
  roles : List CertRole
deriving DecidableEq, Repr

/-- What a FORWARD frame carries between members (04 R139, 16 R455, R463, R464, 17 R487). -/
inductive Fwd where
  /-- An accepted settings object, with the frame the owner named. -/
  | settings (obj frame : Nat) (bytes : List Byte)
  /-- ASTER.SET_STREAMING. -/
  | streaming (frame mask on : Nat)
  | startChange (unit : Nat)
  | abortChange
  /-- A whole load unit. -/
  | loadUnit (bytes : List Byte)
  /-- A member's RESULT of admission. -/
  | unitResult (result : Nat)
  /-- The owner has refused the unit: it is discarded. -/
  | unitRefused
  /-- LARKSPUR.CALIBRATE: its start frame and the lanes it selects. -/
  | calibrate (frame mask : Nat)
  /-- The channels and groups of LARKSPUR.MANUAL_TRIGGER. -/
  | trigger (payload : List Byte)
  | stage (obj : Nat) (bytes : List Byte)
  | discard (obj : Nat)
  /-- A member asks the owner for an object, and the owner's answer. -/
  | objectAsk (obj : Nat)
  | object (obj : Nat) (bytes : List Byte)
  /-- The update lock: a BEGIN at another member, and the owner's answer. -/
  | lockAsk (holder : Nat)
  | lockAnswer (holder : Nat) (status : Nat)
  | lockFree
  /-- A group update: the bundle with its digest and BEGIN's FLAGS and window, and its progress. -/
  | bundle (flags window : Nat) (digest bytes : List Byte)
  | groupStep (step slot : Nat)
  /-- REDUNDANCY.RESYNC TARGET 1: the member goes SYNCING (11 R366). -/
  | resync (slot : Nat)
  /-- The owner's answer to a JOIN (11 R359, 13 R404, 16 R465). -/
  | joinAnswer (slot : Nat) (accepted : Bool)
  /-- A member's certificate request, and the certificate returned to it with its not-after in s. -/
  | enrolRequest (slot : Nat) (request : List Byte)
  | certificate (slot : Nat) (chain : List Byte) (notAfter : Nat)
deriving DecidableEq, Repr

/-- A request across a crossing between clock domains (19 R525, R528): the master that issues it, the domain it comes from,
the domain it goes to, and whether that side has accepted it. -/
structure InFlight where
  master : Nat
  source : Nat
  dest : Nat
  accepted : Bool
deriving DecidableEq, Repr

/-- A codeword as the array gives it (17 R478): its bit errors, and whether what the decoder makes of it passes the CRC. -/
structure WordRead where
  bits : Nat
  crcOk : Bool
deriving DecidableEq, Repr

/-- What the reads of a page find, codeword by codeword (17 R479): the hard read at the tracked offset, the hard re-reads in
their order, and the soft read. -/
structure PageRead where
  hard : List WordRead
  rereads : List (List WordRead)
  soft : List WordRead
deriving DecidableEq, Repr

/-- A page the refresh sweep reads (17 R479, R481): its region copy and package, its block and its place in it, what the
reads find, whether an erase or program of the block fails (R483), the progress of the pass in percent, and whether it is
complete. -/
structure SweepPage where
  copy : Nat
  package : Nat
  block : Nat
  page : Nat
  read : PageRead
  fails : Bool
  percent : Nat
  passDone : Bool
deriving DecidableEq, Repr

end Sys2Proof

namespace Sys2Proof.Machine

/-- The RETAIN copy in CONF (04 R123): values by symbol, and the second it was written in. -/
structure RetainCopy where
  values : List (Nat × List Byte)
  savedAt : Nat
deriving DecidableEq, Repr

/-- A held checkpoint of a singleton (R362); `at` is its arrival on `mono`. -/
structure Ckpt where
  seq : Nat
  frame : Nat
  content : List Byte
  arrived : Nat
deriving DecidableEq, Repr

/-- The program states of R138. -/
inductive ProgState where
  | empty | stopped | starting | run | changing
deriving DecidableEq, Repr

/-- A TYPES entry (R178). -/
structure TypeRow where
  kind : Nat
  engine : Nat
  args : Nat
  rets : Nat
  codeOff : Nat
  codeLen : Nat
  instSize : Nat
  localSize : Nat
  wcet : Nat
  typeId : Nat
deriving DecidableEq, Repr

/-- An INSTANCES entry (R179). -/
structure InstRow where
  id : Nat
  type : Nat
  bankOff : Nat
  size : Nat
  initOff : Nat
  engine : Nat
deriving DecidableEq, Repr

/-- A TASKS entry (R181). -/
structure TaskRow where
  task : Nat
  engine : Nat
  kind : Nat
  safety : Nat
  period : Nat
  phase : Nat
  segments : Nat
  faultMode : Nat
  reserve : Nat
  inBytes : Nat
  outBytes : Nat
  offsets : List Nat
  wcets : List Nat
  inst : Nat
deriving DecidableEq, Repr

/-- A station record of IMAGE_MAP (R183). -/
structure StationRow where
  station : Nat
  mode : Nat
  configRef : Nat
  substOff : Nat
  substLen : Nat
deriving DecidableEq, Repr

/-- An input item of IMAGE_MAP (R183). -/
structure InItem where
  symbol : Nat
  task : Nat
  type : Nat
  station : Nat
  srcKind : Nat
  srcRef : Nat
  imgOff : Nat
  size : Nat
  statusOff : Nat
deriving DecidableEq, Repr

/-- An output item of IMAGE_MAP (R183). -/
structure OutItem where
  symbol : Nat
  task : Nat
  type : Nat
  station : Nat
  dstKind : Nat
  dstRef : Nat
  imgOff : Nat
  size : Nat
  stopAction : Nat
  stopValue : Nat
deriving DecidableEq, Repr

/-- A SYMBOLS entry (R184). -/
structure SymRow where
  id : Nat
  type : Nat
  kind : Nat
  flags : Nat
  elem : Nat
  loc : Nat
  offset : Nat
  size : Nat
  name : List Byte
deriving DecidableEq, Repr

/-- An engine image of CODE (R177). -/
structure CodeImage where
  engine : Nat
  code : List Byte
  consts : List Byte
deriving DecidableEq, Repr

/-- A load unit (R175-R185). -/
structure LoadUnit where
  id : Nat
  split : Bool
  /-- The build time and the tool version as the header holds them (05 R176). -/
  built : List Byte
  tool : List Byte
  ringLog2 : List Nat
  images : List CodeImage
  types : List TypeRow
  insts : List InstRow
  init : List Byte
  tasks : List TaskRow
  planH : Nat
  plan : List (Nat × Nat)
  stations : List StationRow
  ins : List InItem
  outs : List OutItem
  syms : List SymRow
  /-- The size of each engine's local stack, as the loader derives it (05 R179, R168). -/
  locals : List Nat
deriving DecidableEq, Repr

/-- The last value of an output that the unit before wrote and the active one does not (04 R146). -/
structure HeldOut where
  kind : Nat
  ref : Nat
  type : Nat
  value : List Byte
deriving DecidableEq, Repr

/-- A task beside its TASKS entry: its record in the image area (04 R119, R149; 05 R162). -/
structure TaskSt where
  halted : Bool := false
  /-- PERIOD_COUNT: periods started since RUN. -/
  periods : Nat := 0
  lastFault : Nat := 0
  faults : Nat := 0
  drop : Nat := 0
  reject : Nat := 0
  /-- Periods whose outputs were discarded under R132. -/
  discards : Nat := 0
  ovf : Bool := false
  divz : Bool := false
  /-- A period is under way, its next segment, and where that segment starts. -/
  alive : Bool := false
  nextSeg : Nat := 0
  pc : Nat := 0
  maxCycles : Nat := 0
  first : Bool := false
  afterSwap : Bool := false
  aged : Bool := false
  /-- Stations that changed since the previous period start (R121). -/
  changed : Nat := 0
  /-- The output image was copied in this frame (R122). -/
  copied : Bool := false
  /-- Stations found dropped since the input copy of the period (R132). -/
  droppedIn : Nat := 0
deriving DecidableEq, Repr

/-- A stream's state of R191 as the batches alone show it (R193): 1 WAIT, 2 ALIGNED, 3 LOST; the places from which and
up to which, newest first, it was ALIGNED and LOST. -/
structure Track where
  phase : Nat := 1
  run : Nat := 0
  next : Nat := 0
  last : Nat := 0
  spans : List (Nat × Option Nat) := []
  losts : List (Nat × Option Nat) := []
deriving DecidableEq, Repr

/-- A sampled-value stream beside its registers (R189-R196); places count samples from 1970-01-01 TAI. -/
structure StreamSt where
  /-- Consecutive usable samples, and the place after the last of them. -/
  run : Nat := 0
  runNext : Nat := 0
  /-- The place after the latest accepted sample, 0 none, and whether a run of missing samples is under way. -/
  nextPlace : Nat := 0
  gap : Bool := false
  /-- The nominal instant of the last usable sample, in ns. -/
  lastNom : Nat := 0
  /-- Accepted samples that wait for a batch, and those of the batches received, by rising place. -/
  waiting : List BatchRow := []
  held : List BatchRow := []
  track : Track := {}
deriving DecidableEq, Repr

/-- An estimate of E(k) (R206): its two REALs, its flag word and AGE. -/
structure EstSt where
  a : Nat := 0
  b : Nat := 0
  flags : Nat := 0
  age : Nat := 0
deriving DecidableEq, Repr

/-- A frequency reference beside its registers (R201, R202). -/
structure RefSt where
  est : EstSt := {}
  fallback : Bool := false
  /-- Frames in a row the primary has been VALID, and frames left of SETTLING. -/
  primRun : Nat := 0
  settle : Nat := 0
  /-- The tracked frequency f_t, that of the latest E(k), and psi(k) and f(k) by frame, newest first (R201), as the
  estimator's own numbers. -/
  ft : Nat := 0
  ftUsed : Nat := 0
  psis : List (Nat × Nat) := []
  freqs : List (Nat × Nat) := []
  /-- Frames in a row in which the lower and the upper demodulator exceeded the middle one. -/
  below : Nat := 0
  above : Nat := 0
deriving DecidableEq, Repr

/-- A PMU stream beside its register (R207-R211). -/
structure PmuSt where
  /-- The instant on `mono`, plus 1, of the last change to it (R211). -/
  changedAt : Nat := 0
deriving DecidableEq, Repr

/-- Aster beside its registers (06). -/
structure AstSt where
  streams : List StreamSt := List.replicate 24 {}
  chans : List EstSt := List.replicate 192 {}
  /-- X1, X2, X0 of each set. -/
  comps : List EstSt := List.replicate 192 {}
  refs : List RefSt := List.replicate 8 {}
  /-- The instants in ns from which channels, sets and references settle after a change of their records (R214). -/
  chSettle : List Nat := List.replicate 192 0
  setSettle : List Nat := List.replicate 64 0
  refSettle : List Nat := List.replicate 8 0
  /-- Frames whose time record carried SLEWING, newest first (R204). -/
  slews : List Nat := []
  /-- The frame of the latest E(k). -/
  estFrame : Nat := 0
  pmus : List PmuSt := List.replicate 16 {}
  /-- SET_STREAMING commands that wait for their frame: the frame, MASK and ON (04 R139). -/
  next : List (Nat × Nat × Nat) := []
  /-- Batch entries a triad's agreement has left out once (12 R384). -/
  kept : List (Nat × BatchRow) := []
deriving DecidableEq, Repr

/-- A line's share of an event: the location record's values (R237, R238, R246). -/
structure LineRes where
  line : Nat := 0xFF
  xde : Nat := 0
  xse : Nat := 0
  ude : Nat := 0
  dt : Int := 0
  remoteSeq : Nat := 0
  flags : Nat := 0
  /-- The line's record when the event entered its snapshot, and whether a remote report is still awaited. -/
  record : List Byte := []
  waits : Bool := false
deriving DecidableEq, Repr

/-- A wavefront event (R229, R250). -/
structure LspEvt where
  seq : Nat := 0
  group : Nat
  time : Nat
  pol : Int
  mode : Nat
  amp : Nat
  rise : Nat
  err : Nat
  cls : Nat
  dir : Nat
  flags : Nat
  refl : List (Nat × Int) := []
  opened : Bool := true
  /-- The instant at which it closes (R229), and the group's and the lines' records as it opened (R249). -/
  close : Nat := 0
  grp : List Byte := []
  lineRecs : List (Nat × List Byte) := []
  /-- RECORD_FLAGS and REMOTE_WAIT_MS as it opened (R249). -/
  recFlags : Nat := 0
  waitMs : Nat := 0
  /-- Closed, and its reflections not yet in a snapshot (R229, R238). -/
  seDue : Bool := false
  lines : List LineRes := []
  recId : Nat := 0
deriving DecidableEq, Repr

/-- A COMTRADE record being captured or staged (R243, R245). -/
structure LspRec where
  manual : Bool
  group : Nat
  lanes : Nat
  seq : Nat
  trigger : Nat
  start : Nat
  stop : Nat
  extended : Bool
  tag : List Byte
  /-- The events that triggered or extended it, by group and time. -/
  events : List (Nat × Nat) := []
  /-- Captured: the description of R244, and a row per sample, its instant in ns from the first and its codes. -/
  info : Option Cff := none
  rows : List (Nat × List Nat) := []
deriving DecidableEq, Repr

/-- The wavefront record of a group, the location record of a line (R246), and the frame of their last change. -/
structure ImgRec where
  bytes : List Byte := List.replicate 32 0
  changedAt : Nat := 0
deriving DecidableEq, Repr

/-- Larkspur beside its registers (07). -/
structure LspSt where
  /-- The mark edges of the last 100 ms, newest first (R224), and the instant of the last one in thirds of a ns of the
  OCXO's time (R218). -/
  marks : List MarkRec := []
  edge : Option Nat := none
  /-- The raw ring: per lane the lane frames of the last 100 ms, newest first (R242), and the flag byte of its last
  pair (R220). -/
  ring : List (List LaneFrm) := List.replicate 12 []
  lastFlags : List Nat := List.replicate 12 0
  /-- The group processors, before and after the last lane frame they took. -/
  procs : List (GrpProc × GrpProc) := List.replicate 4 ({}, {})
  /-- Detections of late: group, frame and sample number, then the stamp, mode and polarity (R230). -/
  dets : List ((Nat × Nat × Nat) × Nat × Nat × Int) := []
  cal : Option CalSt := none
  /-- Lanes whose FE_DELAY_NS the next configuration takes from a passed CALIBRATE; a bitmap. -/
  calPass : Nat := 0
  /-- A step of the counter sends every lane to HUNT at the next mark edge (R222). -/
  huntDue : Bool := false
  /-- The lane records in effect since the last mark edge (R249), and FE_DELAY_NS of the last passed CALIBRATE. -/
  laneRecs : List Byte := List.replicate 192 0
  calFe : List (Option Nat) := List.replicate 12 none
  /-- Open events by group, and the recent ones, oldest first. -/
  opens : List (Option LspEvt) := [none, none, none, none]
  events : List LspEvt := []
  /-- A changed group record waits for its open event's close (R249); a bitmap. -/
  reformDue : Nat := 0
  /-- Reports that wait to enter a snapshot, and those pending with the frame they entered in (R236). -/
  waiting : List WfReport := []
  pend : List (WfReport × Nat) := []
  /-- Reports a triad's agreement has left out once (12 R384). -/
  kept : List (Nat × WfReport) := []
  waves : List ImgRec := List.replicate 4 {}
  lines : List ImgRec := List.replicate 8 {}
  /-- Reports received: TermId and EvtSeq (R234). -/
  seen : List (Nat × Nat) := []
  /-- When each subscription's report ceases to be alive, in ns. -/
  subUntil : List Nat := List.replicate 8 0
  /-- The publisher (R234): stNum, sqNum, the reports due at the next release, the last one, those of the last 200 ms,
  and the retransmissions made. -/
  stNum : Nat := 0
  sqNum : Nat := 0
  due : List WfReport := []
  last : Option WfReport := none
  recent : List (Nat × WfReport) := []
  retx : Nat := 0
  /-- When the last report is sent again, in ns (R234). -/
  retxAt : Nat := 0
  /-- Records open, and captures staged (R245). -/
  recs : List LspRec := []
  staged : List LspRec := []
deriving DecidableEq, Repr

/-- The sequence state of a publication (R267, R268): t in ns, its last released values, the frame of its next
transmission, and the spacing's exponent. -/
structure GPub where
  st : Nat := 1
  sq : Nat := 0
  t : Nat := 0
  /-- TimeQuality of `t` (02 R56). -/
  tq : Nat := 0
  vals : List (List Byte) := []
  next : Nat := 0
  j : Nat := 0
  /-- A value has been released since the start. -/
  begun : Bool := false
  /-- The configuration changed the record: the next release takes stNum + 1 (R280). -/
  restart : Bool := false
  /-- A transmission leaves in the frame, with its timeAllowedtoLive in ms. -/
  going : Option Nat := none
deriving DecidableEq, Repr

/-- What a resync copies beside the memory pages (11 R359): the unit and the state of the program, RETAIN, forces, Aster,
Larkspur, GOOSE sequence states, station states and checkpoints. -/
structure Replica where
  unit : Option LoadUnit
  state : ProgState
  live : Nat
  tasks : List TaskSt
  seqs : List (List Nat)
  outVals : List (Nat × List Byte)
  heldOuts : List HeldOut
  stopPersisted : Bool
  /-- A reset has come since the last STOP, and the RETAIN values are from an aged copy (04 R123, R149). -/
  resetSinceStop : Bool
  retainAged : Bool
  retain : Option RetainCopy
  forces : List Force
  ast : AstSt
  lsp : LspSt
  /-- The count from which EVT_SEQ is assigned (07 R240). -/
  lastSeq : Nat
  /-- LSP_GRPg and LSP_GRP_THRg of each lane group, and LSP_STATUS.ARMED. -/
  groups : List (Nat × Nat)
  armed : Nat
  /-- The stations dropped, a bitmap (08 R276). -/
  dropped : Nat
  pubs : List GPub
  ages : List (Nat × Nat)
  ckpts : List (Option Ckpt)
deriving DecidableEq, Repr

end Sys2Proof.Machine
end

