-- ==== Sys2Proof/Syntax.lean ====
section
/-! DEFINITION. The commands of the block (spec/opcode_table.json). -/

namespace Sys2Proof

open Sys2Proof.Machine (Replica)

/-- The commands of the block: one constructor per row of the opcode table, in its order. -/
inductive Instr where
  /-- TICK (R60): The frame tick T0 falls on the TIME counter; tasks due in the frame receive their input images and the engines start running segments. -/
  | tick
  /-- FRAME_SYNC_EDGE (R66): A follower receives a FRAME_SYNC edge and measures it against its own tick into TIM_SYNC_PHASE. -/
  | frameSyncEdge (phaseNs : Int)
  /-- SYNC_FAULT (R67): A 16th consecutive SYNC_MISS while TIME_BUS words stay valid makes the follower flag FAULT and steer by its own best source. -/
  | syncFault
  /-- TIME_BUS_WORD (R63): The 128-bit TIME_BUS word of a frame is arbitrated, received and checked; the winner is decided, followers take the time, TAI-UTC and leap flags, and count mismatches are handled. -/
  | timeBusWord (others : List (Nat × Nat)) (word : Nat)
  /-- TIME_BUS_WORD_MISSING (R66): No valid TIME_BUS word has arrived for 4 frames after feed on, and the module becomes CANDIDATE. -/
  | timeBusWordMissing
  /-- TICK_ELIGIBLE (R64): The module's own selected source has been locked for 60 s without a time fault, so it becomes eligible and may arbitrate for the tick. -/
  | tickEligible
  /-- SLEW_CORRECTION (R39): A 125th TIME cycle adds or removes one slew nanosecond and moves TIM_SLEW_REM towards 0, or defers the correction by one cycle on a carry or borrow. -/
  | slewCorrection
  /-- PTP_OFFSET_SAMPLE (R47): A PTP offset sample is received and either discarded as a jump or accepted into the filtered offset, with coarse lock, source selection and servo step or slew decided. -/
  | ptpOffsetSample (port domain : Nat) (ofs : Int)
  /-- FINE_LOCK (R47): The filtered offset has stayed within half the profile bound for 10 s and the PTP source reaches fine lock. -/
  | fineLock (src : Nat)
  /-- LOCK_LOSS (R47): No valid offset sample has arrived for 3 s, or the announce receipt timeout expires, and the source loses its lock. -/
  | lockLoss (src : Nat)
  /-- IRIGB_FRAME (R51): An IRIG-B frame is received on IRIGB_IN, converted to TAI and counted towards its 4-frame lock. -/
  | irigbFrame (localSec : Nat) (x : IrigExt)
  /-- PPS_EDGE (R52): The selected edge arrives on PPS_IN, is assigned to the nearest whole second or discarded as a jump, and counts towards lock. -/
  | ppsEdge (falling : Bool)
  /-- DISAGREE (R67): Two locked sources have differed by more than DISAGREE_NS for 4 s, DISAGREE is set and the selection may move to the best agreeing source. -/
  | disagree
  /-- OCXO_STOPPED (R67): The missing-edge monitor finds the OCXO stopped within 1 us and the module goes FAILED. -/
  | ocxoStopped
  /-- OCXO_FREQ_CHECK (R67): The once-per-second cross-check of the OCXO, the other domain clocks and the SEC oscillator runs, and a deviation over 200 ppm makes the module FAILED. -/
  | ocxoFreqCheck (which ppm : Nat)
  /-- OCXO_DRIFTING (R67): Servo demand has been beyond 40 ppm for 10 s, OCXO_FAULT is set and the module becomes ineligible. -/
  | ocxoDrifting
  /-- LEAP_APPLY (R49): The TAI instant of a pending leap second is reached and the TAI-UTC offset changes without touching the counter. -/
  | leapApply
  /-- TIM_SLEW_REM_WRITE (R58): A new value written to TIM_SLEW_REM replaces the slew remainder. -/
  | timSlewRemWrite (value : Int)
  /-- TIM_RATE_ADJ_WRITE (R40): A write to TIM_RATE_ADJ sets the rate correction, clamped to 429 497. -/
  | timRateAdjWrite (value : Int)
  /-- DI_SINK_WINDOW (R288): From T0+175 us the DI sink current flows and each enabled channel's sink current is checked against 2.5 mA plus or minus 20 %. -/
  | diSinkWindow (ua : List Nat) (mv : List Int)
  /-- FIELD_SAMPLE_INSTANT (R283): At T0+195 us DI, DO readback, FLD24, AI and AO readback are sampled, debounce and AI classes are formed, and the readback and AO status conditions are evaluated. -/
  | fieldSampleInstant (x : FieldSample)
  /-- WETTING_PULSE_END (R290): The 1 ms wetting pulse of a channel ends. -/
  | wettingPulseEnd
  /-- EXECUTION_WINDOW_END (R128): T0+200 us is reached: a running segment faults with WINDOW, unstarted segments fault, and fixed hardware lateness is judged. -/
  | executionWindowEnd
  /-- STATE_SIG_COMPARE (R401): By T0+205 us the signature unit compares the two STATE_SIG values of every comparing unit, and a difference acts under R395. -/
  | stateSigCompare (differ : Nat)
  /-- VOTE_RECORD_SEND (R385): By T0+209 us a triad member sends its 96-byte vote record to both peers. -/
  | voteRecordSend
  /-- VOTE (R385): At T0+212 us each triad member votes DO, AO setpoints and release over the vote records it holds. -/
  | vote
  /-- OUTPUT_RELEASE (R261): At T0+215 us the owner releases the frame's group-owned traffic in the order of R262 and each member sends its signature record. -/
  | outputRelease
  /-- TX_LATE (R263): A released frame that has not started by T1+215 us is sent late and NET_EVENT.TX_LATE is set. -/
  | txLate (port : Nat)
  /-- FIELD_UPDATE (R283): At T0+216 us the DO and AO stages take the values commanded for the frame under the module's role. -/
  | fieldUpdate
  /-- ERROR_TASK_RUN (R130): An engine's error task runs once in the error-task slot when a task faulted or a station transition appeared in the frame. -/
  | errorTaskRun (e : Nat)
  /-- BANK_SWAP (R147): At T0+222 us of frame S-1 the write log closes, the final catch-up is applied and the banks swap if S is eligible, or the swap is postponed or aborted. -/
  | bankSwap
  /-- INJECTED_COMPARATOR_TEST (R398): From T0+224 us the test unit inverts every compared bit of each comparing unit for one cycle and checks that mismatch and agreement are reported. -/
  | injectedComparatorTest (failed real : Nat)
  /-- CUT_OFF (R62): At T0+225 us the snapshot for the next frame is frozen with the time record, station states, sample batch, estimates, Larkspur content, field values, CAN objects, forces and SYS counts. -/
  | cutOff
  /-- SNAPSHOT_SELECT (R352): At T1-3 us the standby selects the owner's snapshot or its own and the image DMA writes the input pool. -/
  | snapshotSelect
  /-- SIG_MISS (R355): A peer's signature record is absent at T0+200 us of the next frame, and after 4 in a row Hollyhock is treated as lost. -/
  | sigMiss
  /-- NOP (R157): Instruction NOP does nothing. -/
  | pNop (e : Nat)
  /-- DUP (R157): Instruction DUP duplicates the top of the operand stack. -/
  | pDup (e : Nat)
  /-- DROP (R157): Instruction DROP pops the top entry. -/
  | pDrop (e : Nat)
  /-- SWAP (R157): Instruction SWAP exchanges the two top entries. -/
  | pSwap (e : Nat)
  /-- OVER (R157): Instruction OVER pushes a copy of the second entry. -/
  | pOver (e : Nat)
  /-- ROT (R157): Instruction ROT rotates the three top entries. -/
  | pRot (e : Nat)
  /-- PICK (R157): Instruction PICK pushes a copy of the entry n below the top. -/
  | pPick (e n : Nat)
  /-- PUSH0 (R157): Instruction PUSH0 pushes 0. -/
  | pPush0 (e : Nat)
  /-- PUSH1 (R157): Instruction PUSH1 pushes 1. -/
  | pPush1 (e : Nat)
  /-- PUSHB (R157): Instruction PUSHB pushes its byte operand sign-extended. -/
  | pPushb (e b : Nat)
  /-- PUSHW (R157): Instruction PUSHW pushes its word operand sign-extended. -/
  | pPushw (e w : Nat)
  /-- LDK (R157): Instruction LDK pushes a constant of the engine's constant pool. -/
  | pLdk (e idx : Nat)
  /-- LDL (R163): Instruction LDL loads a value of type t from the local frame. -/
  | pLdl (e t off : Nat)
  /-- STL (R163): Instruction STL stores a value of type t to the local frame. -/
  | pStl (e t off : Nat)
  /-- LDI (R163): Instruction LDI loads a value of type t from the instance. -/
  | pLdi (e t off : Nat)
  /-- STI (R163): Instruction STI stores a value of type t to the instance, wrapping with OVF where needed, as an instance write. -/
  | pSti (e t off : Nat)
  /-- LDIN (R163): Instruction LDIN loads a value from the input image or error record. -/
  | pLdin (e t off : Nat)
  /-- LDOUT (R163): Instruction LDOUT loads a value from the output image. -/
  | pLdout (e t off : Nat)
  /-- STOUT (R163): Instruction STOUT stores a value to the output image. -/
  | pStout (e t off : Nat)
  /-- LDXL (R164): Instruction LDXL loads element i of a local array, faulting BOUNDS outside 0 to cnt-1. -/
  | pLdxl (e t off cnt : Nat)
  /-- STXL (R164): Instruction STXL stores element i of a local array. -/
  | pStxl (e t off cnt : Nat)
  /-- LDXI (R164): Instruction LDXI loads element i of an instance array. -/
  | pLdxi (e t off cnt : Nat)
  /-- STXI (R164): Instruction STXI stores element i of an instance array. -/
  | pStxi (e t off cnt : Nat)
  /-- LDXIN (R164): Instruction LDXIN loads element i of an input image array. -/
  | pLdxin (e t off cnt : Nat)
  /-- LDXOUT (R164): Instruction LDXOUT loads element i of an output image array. -/
  | pLdxout (e t off cnt : Nat)
  /-- STXOUT (R164): Instruction STXOUT stores element i of an output image array. -/
  | pStxout (e t off cnt : Nat)
  /-- COPY (R164): Instruction COPY copies len bytes between spaces as if through a buffer. -/
  | pCopy (e spaces len : Nat)
  /-- ADD (R158): Integer instruction ADD adds two operands in its class, setting OVF out of range. -/
  | pAdd (e : Nat) (c : IClass)
  /-- SUB (R158): Integer instruction SUB subtracts in its class. -/
  | pSub (e : Nat) (c : IClass)
  /-- MUL (R158): Integer instruction MUL multiplies in its class. -/
  | pMul (e : Nat) (c : IClass)
  /-- DIV (R158): Integer instruction DIV divides, truncating toward 0, with the decided cases for 0 and -1. -/
  | pDiv (e : Nat) (c : IClass)
  /-- MOD (R158): Integer instruction MOD forms the remainder with the decided cases. -/
  | pMod (e : Nat) (c : IClass)
  /-- NEG (R158): Integer instruction NEG negates. -/
  | pNeg (e : Nat) (wide : Bool)
  /-- ABS (R158): Integer instruction ABS forms the absolute value. -/
  | pAbs (e : Nat) (wide : Bool)
  /-- ADD_F (R159): Floating-point ADD in F32 or F64. -/
  | pAddF (e : Nat) (c : FClass)
  /-- SUB_F (R159): Floating-point SUB. -/
  | pSubF (e : Nat) (c : FClass)
  /-- MUL_F (R159): Floating-point MUL. -/
  | pMulF (e : Nat) (c : FClass)
  /-- DIV_F (R159): Floating-point DIV, setting DIVZ for a zero divisor. -/
  | pDivF (e : Nat) (c : FClass)
  /-- NEG_F (R159): Floating-point NEG. -/
  | pNegF (e : Nat) (c : FClass)
  /-- ABS_F (R159): Floating-point ABS. -/
  | pAbsF (e : Nat) (c : FClass)
  /-- SQRT (R159): Floating-point SQRT. -/
  | pSqrt (e : Nat) (c : FClass)
  /-- MIN_F (R159): Floating-point MIN under minimumNumber. -/
  | pMinF (e : Nat) (c : FClass)
  /-- MAX_F (R159): Floating-point MAX under maximumNumber. -/
  | pMaxF (e : Nat) (c : FClass)
  /-- SIN (R160): Instruction SIN.F64, correctly rounded. -/
  | pSin (e : Nat)
  /-- COS (R160): Instruction COS.F64, correctly rounded. -/
  | pCos (e : Nat)
  /-- ATAN2 (R160): Instruction ATAN2.F64, correctly rounded. -/
  | pAtan2 (e : Nat)
  /-- EXP (R160): Instruction EXP.F64, correctly rounded. -/
  | pExp (e : Nat)
  /-- LN (R160): Instruction LN.F64, correctly rounded. -/
  | pLn (e : Nat)
  /-- EQ (R157): Integer compare EQ over 64 bits. -/
  | pEq (e : Nat)
  /-- NE (R157): Integer compare NE over 64 bits. -/
  | pNe (e : Nat)
  /-- LT_S (R157): Signed 64-bit compare LT.S. -/
  | pLtS (e : Nat)
  /-- LE_S (R157): Signed 64-bit compare LE.S. -/
  | pLeS (e : Nat)
  /-- GT_S (R157): Signed 64-bit compare GT.S. -/
  | pGtS (e : Nat)
  /-- GE_S (R157): Signed 64-bit compare GE.S. -/
  | pGeS (e : Nat)
  /-- LT_U (R157): Unsigned 64-bit compare LT.U. -/
  | pLtU (e : Nat)
  /-- LE_U (R157): Unsigned 64-bit compare LE.U. -/
  | pLeU (e : Nat)
  /-- GT_U (R157): Unsigned 64-bit compare GT.U. -/
  | pGtU (e : Nat)
  /-- GE_U (R157): Unsigned 64-bit compare GE.U. -/
  | pGeU (e : Nat)
  /-- EQ_F (R159): Quiet floating-point compare EQ. -/
  | pEqF (e : Nat) (c : FClass)
  /-- NE_F (R159): Quiet floating-point compare NE. -/
  | pNeF (e : Nat) (c : FClass)
  /-- LT_F (R159): Quiet floating-point compare LT. -/
  | pLtF (e : Nat) (c : FClass)
  /-- LE_F (R159): Quiet floating-point compare LE. -/
  | pLeF (e : Nat) (c : FClass)
  /-- GT_F (R159): Quiet floating-point compare GT. -/
  | pGtF (e : Nat) (c : FClass)
  /-- GE_F (R159): Quiet floating-point compare GE. -/
  | pGeF (e : Nat) (c : FClass)
  /-- MIN_S (R157): Signed 64-bit minimum. -/
  | pMinS (e : Nat)
  /-- MAX_S (R157): Signed 64-bit maximum. -/
  | pMaxS (e : Nat)
  /-- MIN_U (R157): Unsigned 64-bit minimum. -/
  | pMinU (e : Nat)
  /-- MAX_U (R157): Unsigned 64-bit maximum. -/
  | pMaxU (e : Nat)
  /-- SEL (R157): Instruction SEL selects a1 if g is non-zero, else a0. -/
  | pSel (e : Nat)
  /-- AND (R157): Bitwise AND over 64 bits. -/
  | pAnd (e : Nat)
  /-- OR (R157): Bitwise OR over 64 bits. -/
  | pOr (e : Nat)
  /-- XOR (R157): Bitwise XOR over 64 bits. -/
  | pXor (e : Nat)
  /-- NOT (R157): Complement of the low w bits. -/
  | pNot (e w : Nat)
  /-- BNOT (R157): Boolean not: 1 if a is 0, else 0. -/
  | pBnot (e : Nat)
  /-- SHL (R157): Shift of the low w bits left. -/
  | pShl (e w : Nat)
  /-- SHR (R157): Logical shift of the low w bits right. -/
  | pShr (e w : Nat)
  /-- SAR (R157): Arithmetic shift of the low w bits right. -/
  | pSar (e w : Nat)
  /-- ROL (R157): Rotation of the low w bits left. -/
  | pRol (e w : Nat)
  /-- ROR (R157): Rotation of the low w bits right. -/
  | pRor (e w : Nat)
  /-- BITGET (R157): Instruction BITGET pushes bit n of a. -/
  | pBitget (e n : Nat)
  /-- BITSET (R157): Instruction BITSET sets or clears bit n of a. -/
  | pBitset (e n : Nat)
  /-- CVT (R161): Instruction CVT converts from type t1 to t2, rounding floats to nearest even. -/
  | pCvt (e t1 t2 : Nat)
  /-- CVTT (R161): Instruction CVTT converts as CVT but truncates float to integer toward zero. -/
  | pCvtt (e t1 t2 : Nat)
  /-- BR (R157): Unconditional forward branch. -/
  | pBr (e d : Nat)
  /-- BRZ (R157): Forward branch if the popped value is 0. -/
  | pBrz (e d : Nat)
  /-- BRNZ (R157): Forward branch if the popped value is not 0. -/
  | pBrnz (e d : Nat)
  /-- BRL (R157): Long forward branch. -/
  | pBrl (e lo hi : Nat)
  /-- LOOP (R166): Instruction LOOP pops the count and opens a loop level, skips the body for 0, or faults BOUNDS above max. -/
  | pLoop (e max len : Nat)
  /-- ENDLOOP (R166): Instruction ENDLOOP increments the index and returns to the body start or closes the level. -/
  | pEndloop (e : Nat)
  /-- LIDX (R157): Instruction LIDX pushes the index of loop level n. -/
  | pLidx (e n : Nat)
  /-- CALLFB (R168): Instruction CALLFB saves a call level, enters the child instance, opens a cleared local frame and jumps to the FB code. -/
  | pCallfb (e off idx : Nat)
  /-- CALLFN (R168): Instruction CALLFN saves a call level, pops ARGS into a local frame and jumps to the function. -/
  | pCallfn (e idx : Nat)
  /-- RET (R168): Instruction RET restores the saved call level. -/
  | pRet (e : Nat)
  /-- SEG (R170): Instruction SEG ends the current segment, rings the segment's request doorbells and moves to the next due segment. -/
  | pSeg (e : Nat)
  /-- END (R170): Instruction END ends the task's last segment, rings doorbells and copies the output image into the output pool. -/
  | pEnd (e : Nat)
  /-- UNASSIGNED_OPCODE (R173): An unassigned opcode or uncorrectable code word is fetched and the task faults with OPCODE. -/
  | pUnassignedOpcode (e : Nat) (uncorrectable : Bool)
  /-- CYCLE_FAULT (R128): A segment exceeds its derived WCET in cycles and the task faults with CYCLE. -/
  | pCycleFault (e : Nat)
  /-- GETFLAGS (R171): SYS GETFLAGS pushes OVF and DIVZ. -/
  | pGetflags (e : Nat)
  /-- CLRFLAGS (R171): SYS CLRFLAGS clears the flags selected by m. -/
  | pClrflags (e : Nat)
  /-- FRAMETIME (R171): SYS FRAMETIME pushes T0 of the current frame in ns since 1970 TAI. -/
  | pFrametime (e : Nat)
  /-- SEGINFO (R171): SYS SEGINFO pushes the task and segment index. -/
  | pSeginfo (e : Nat)
  /-- ALARM (R172): SYS ALARM writes a DIAG.RAISE_ALARM descriptor within the frame quota and pushes the posting status. -/
  | pAlarm (e off len : Nat)
  /-- LOGEVT (R172): SYS LOGEVT writes an ARCHIVE.LOG_EVENT descriptor within the frame quota and pushes the posting status. -/
  | pLogevt (e off len : Nat)
  /-- LTRIG (R172): SYS LTRIG writes a LARKSPUR.MANUAL_TRIGGER descriptor within the frame quota and pushes the posting status. -/
  | pLtrig (e off len : Nat)
  /-- CANTX (R172): SYS CANTX writes a CANAUX.TX_ENQUEUE descriptor within the frame quota and pushes the posting status. -/
  | pCantx (e off len : Nat)
  /-- RCB_DOORBELL_WRITE (R75): A producer writes a new PROD to a ring doorbell, which is accepted or ignored with OVERFLOW, and the consumer interrupt may be raised. -/
  | rcbDoorbellWrite (master ring newProd : Nat)
  /-- RCB_CONS_WRITE (R76): A consumer writes CONS, freeing ring entries, taking effect before a doorbell in the same cycle. -/
  | rcbConsWrite (ring cons : Nat)
  /-- RING_INTERRUPT_TIMER (R77): The oldest pending descriptor has waited TIME_US and the ring engine raises the consumer's interrupt. -/
  | ringInterruptTimer (ring : Nat)
  /-- TLS_HANDSHAKE (R88): A TLS 1.3 handshake on port 4880 opens a session of its world, or fails, counts towards lockout or is refused. -/
  | tlsHandshake (x : Handshake)
  /-- HANDSHAKE_LOCKOUT_END (R89): The 60 s refusal of a source address after eight failed handshakes ends. -/
  | handshakeLockoutEnd (addr : Nat)
  /-- MESSAGE_SEGMENT (R85): A segment of a segmented TLS message arrives and is checked; the message is acted on after its last segment or rejected MALFORMED. -/
  | messageSegment (fam cmd : Nat) (r : Req)
  /-- SEG_TIMEOUT (R85): The last segment has not arrived 10 s after the first; the message is discarded and answered SEG_TIMEOUT. -/
  | segTimeout (sess seq : Nat)
  /-- CANCEL (R96): A CANCEL message ends an outstanding class D command with CANCELLED, or is answered NO_SUCH_SEQ or STATE_CONFLICT. -/
  | cancel (fam cmd : Nat) (r : Req)
  /-- PROGRESS_MESSAGE (R95): A class D command sends an IN_PROGRESS progress message at least every 1 s. -/
  | progressMessage (sess seq : Nat)
  /-- SESSION_IDLE_TIMEOUT (R91): A session without a received message for its idle timeout closes. -/
  | sessionIdleTimeout (sess : Nat)
  /-- SESSION_LOSS (R91): Loss of TCP or TLS closes a session, discarding responses of running class A to C commands and cancelling class D commands. -/
  | sessionLoss (sess : Nat)
  /-- IDENT_GET_IDENT (R101): Returns the 96-byte identity record. -/
  | identGetIdent (r : Req)
  /-- IDENT_GET_BLOCK_VERSIONS (R101): Returns the 16 block _ID registers. -/
  | identGetBlockVersions (r : Req)
  /-- IDENT_GET_CERTIFICATES (R474): Returns the selected certificates. -/
  | identGetCertificates (r : Req)
  /-- SESSION_GET_INFO (R102): Returns the session record. -/
  | sessionGetInfo (r : Req)
  /-- SESSION_SET_ACTIVE_ROLES (R102): Reduces the session's active roles to a non-empty subset of the held roles. -/
  | sessionSetActiveRoles (r : Req)
  /-- SESSION_KEEPALIVE (R102): Keeps the session alive. -/
  | sessionKeepalive (r : Req)
  /-- SESSION_SET_IDLE (R102): Sets the session idle timeout from 10 s to 3600 s. -/
  | sessionSetIdle (r : Req)
  /-- SESSION_SUBSCRIBE (R102): Subscribes the session to notifications of selected register blocks. -/
  | sessionSubscribe (r : Req)
  /-- SESSION_CLOSE (R102): Closes the session with TLS close_notify. -/
  | sessionClose (r : Req)
  /-- SESSION_LIST_SESSIONS (R102): Returns 16 session records. -/
  | sessionListSessions (r : Req)
  /-- SESSION_TERMINATE (R102): Terminates another session by index. -/
  | sessionTerminate (r : Req)
  /-- CONFIG_GET_ACTIVE (R469): Returns the list of stored settings objects. -/
  | configGetActive (r : Req)
  /-- CONFIG_READ_SETTINGS (R469): Returns a settings object in its stored form. -/
  | configReadSettings (r : Req)
  /-- CONFIG_STAGE_SETTINGS (R469): Stages a network or boot configuration object after checking its length and signature. -/
  | configStageSettings (r : Req)
  /-- CONFIG_ACTIVATE (R469): Activates the staged object, naming an effective frame or the next warm reset. -/
  | configActivate (r : Req)
  /-- CONFIG_DISCARD_STAGED (R469): Discards a staged object. -/
  | configDiscardStaged (r : Req)
  /-- PROGRAM_GET_STATUS (R149): Returns the 40-byte program status record. -/
  | programGetStatus (r : Req)
  /-- PROGRAM_LOAD_UNIT (R149): Receives load-unit chunks and, on the final chunk, verifies and admits the unit under R116, returning the admission report. -/
  | programLoadUnit (r : Req)
  /-- PROGRAM_START_CHANGE (R142): Starts installation or online change of the staged unit with migration into the change bank. -/
  | programStartChange (r : Req)
  /-- MIGRATION_COMPLETE (R142): The new instance image has been built in the change bank and the member reports ready. -/
  | migrationComplete
  /-- PROGRAM_ABORT_CHANGE (R148): Aborts an online change if it enters a snapshot no later than the cut-off of frame S-2. -/
  | programAbortChange (r : Req)
  /-- PROGRAM_RUN (R149): Starts the program in WARM, COLD or HOT mode at a named start frame F. -/
  | programRun (r : Req)
  /-- PROGRAM_STOP (R149): Stops the program at a named stop frame F. -/
  | programStop (r : Req)
  /-- PROGRAM_START_FRAME (R138): The named start frame F begins; the program goes from STARTING to RUN and first periods start with FIRST_PERIOD. -/
  | programStartFrame
  /-- PROGRAM_STOP_FRAME (R138): The named stop frame F begins; no task runs, outputs take their stop action, RETAIN is saved and STOP is persisted. -/
  | programStopFrame
  /-- PROGRAM_GET_TASK_STATS (R149): Returns task records. -/
  | programGetTaskStats (r : Req)
  /-- PROGRAM_READ_VAR (R149): Returns up to 32 variable values sampled at one output gather. -/
  | programReadVar (r : Req)
  /-- RETAIN_SAVE (R123): At the end of a 60 s interval in which RETAIN variables changed, the module writes them to CONF. -/
  | retainSave
  /-- FORCE_LIST (R150): Returns the force table. -/
  | forceList (r : Req)
  /-- FORCE_SET (R150): Sets or replaces a force, effective in a named frame. -/
  | forceSet (r : Req)
  /-- FORCE_RELEASE (R150): Releases a force, effective in a named frame. -/
  | forceRelease (r : Req)
  /-- FORCE_RELEASE_ALL (R150): Releases every force. -/
  | forceReleaseAll (r : Req)
  /-- DIAG_READ_REGS (R104): Reads up to 1024 register words as one sample, clearing each RC field once. -/
  | diagReadRegs (r : Req)
  /-- DIAG_WRITE_REGS (R105): Checks then writes up to 64 masked register words in ascending order and returns the read-back. -/
  | diagWriteRegs (r : Req) (sets : List (Nat × Nat))
  /-- DIAG_GET_HEALTH (R107): Returns the 24-byte health record. -/
  | diagGetHealth (r : Req)
  /-- DIAG_RAISE_ALARM (R108): Enters a Petal alarm number and value in the event log. -/
  | diagRaiseAlarm (r : Req)
  /-- TIME_GET_STATUS (R69): Returns the 36-byte time status record. -/
  | timeGetStatus (r : Req)
  /-- TIME_GET_SOURCES (R68): Returns the six source records. -/
  | timeGetSources (r : Req)
  /-- TIME_GET_CONFIG (R70): Returns TIME_CONFIG. -/
  | timeGetConfig (r : Req)
  /-- TIME_SET_CONFIG (R70): Checks and accepts a new TIME_CONFIG. -/
  | timeSetConfig (r : Req)
  /-- TIME_STEP (R57): Steps the counter to a given time while RUN_LOCK is 0, or is refused. -/
  | timeStep (r : Req)
  /-- TIME_SET_TAI_UTC (R68): Sets the TAI-UTC offset and leap flags. -/
  | timeSetTaiUtc (r : Req)
  /-- UPDATE_GET_STATUS (R470): Returns the update status record and the fallback report. -/
  | updateGetStatus (r : Req)
  /-- UPDATE_BEGIN (R458): Takes the update lock and starts receiving a bundle into the inactive slot. -/
  | updateBegin (r : Req)
  /-- UPDATE_TRANSFER (R470): Receives a contiguous chunk of the bundle. -/
  | updateTransfer (r : Req)
  /-- UPDATE_INSTALL (R458): Verifies the bundle, writes both BOOT copies and marks the slot TRIAL. -/
  | updateInstall (r : Req)
  /-- INSTALL_RESTART (R458): 1 s after INSTALL's final response the module warm-resets into the trial slot. -/
  | installRestart
  /-- UPDATE_CONFIRM (R459): Confirms a healthy trial bundle, writing the record then raising the anti-rollback counter. -/
  | updateConfirm (r : Req)
  /-- UPDATE_ABORT (R458): Aborts a receiving update or a trial, causing fallback. -/
  | updateAbort (r : Req)
  /-- UPDATE_GROUP_UPDATE (R464): Updates every member of the group in turn with a handover, without output interruption beyond the no-owner interval. -/
  | updateGroupUpdate (r : Req)
  /-- TRIAL_HEALTHY (R457): A trial bundle meets all three health criteria, and with AUTO_CONFIRM the trial is confirmed. -/
  | trialHealthy
  /-- TRIAL_WINDOW_EXPIRY (R458): The trial window expires without confirmation and the module falls back. -/
  | trialWindowExpiry
  /-- UPDATE_LOCK_EXPIRY (R463): 600 s after the lock holder's last session closed in RECEIVING, the lock expires and the partial bundle is discarded. -/
  | updateLockExpiry
  /-- ARCHIVE_LIST (R495): Returns archive directory entries. -/
  | archiveList (r : Req)
  /-- ARCHIVE_EXPORT (R495): Exports a record in progress payloads with a final digest. -/
  | archiveExport (r : Req)
  /-- ARCHIVE_DELETE (R495): Deletes an archive record. -/
  | archiveDelete (r : Req)
  /-- ARCHIVE_LOG_EVENT (R489): Enters a Petal event in the log through the log budget. -/
  | archiveLogEvent (r : Req)
  /-- ARCHIVE_READ_LOG (R495): Returns event log entries. -/
  | archiveReadLog (r : Req)
  /-- SECURITY_GET_STATE (R471): Returns the 128-byte security state. -/
  | securityGetState (r : Req)
  /-- SECURITY_SET_TRUST_ANCHORS (R472): Replaces every trust store entry of one KIND. -/
  | securitySetTrustAnchors (r : Req)
  /-- SECURITY_LOAD_CRL (R472): Replaces or adds a CRL in the CRL store. -/
  | securityLoadCrl (r : Req)
  /-- SECURITY_ENROL (R471): Exports a request, installs a certificate, renews by EST or sets EST parameters. -/
  | securityEnrol (r : Req)
  /-- SECURITY_SET_ROLE_MAP (R471): Sets the UPDATER role value. -/
  | securitySetRoleMap (r : Req)
  /-- SECURITY_REVOKE_ROOT_SLOT (R473): Blows the REVOKED fuse of a root-key slot. -/
  | securityRevokeRootSlot (r : Req)
  /-- SECURITY_ROTATE_GROUP_KEYS (R456): Agrees new Hollyhock keys for the whole group. -/
  | securityRotateGroupKeys (r : Req)
  /-- REDUNDANCY_GET_STATUS (R366): Returns the 64-byte redundancy status record. -/
  | redundancyGetStatus (r : Req)
  /-- REDUNDANCY_HANDOVER (R346): Names a handover frame H to move ownership to the standby. -/
  | redundancyHandover (r : Req)
  /-- REDUNDANCY_LEAVE_GROUP (R366): Makes a non-owner leave the group. -/
  | redundancyLeaveGroup (r : Req)
  /-- REDUNDANCY_REMOVE_REQUEST (R364): Runs the removal request sequence. -/
  | redundancyRemoveRequest (r : Req)
  /-- REDUNDANCY_RESYNC (R366): Requests resync of this module or the peer. -/
  | redundancyResync (r : Req)
  /-- REDUNDANCY_GET_SIGNATURES (R366): Returns the latest signature comparison records. -/
  | redundancyGetSignatures (r : Req)
  /-- ASTER_GET_STATUS (R215): Returns the Aster status words. -/
  | asterGetStatus (r : Req)
  /-- ASTER_GET_CONFIG (R215): Returns the applied Aster configuration. -/
  | asterGetConfig (r : Req)
  /-- ASTER_SET_CONFIG (R214): Checks an Aster configuration and names its effective frame. -/
  | asterSetConfig (r : Req)
  /-- ASTER_GET_PHASORS (R215): Returns records of the latest estimate set. -/
  | asterGetPhasors (r : Req)
  /-- ASTER_SET_STREAMING (R215): Turns PMU streams on or off from the next reporting instant. -/
  | asterSetStreaming (r : Req)
  /-- LARKSPUR_GET_STATUS (R250): Returns the Larkspur status words. -/
  | larkspurGetStatus (r : Req)
  /-- LARKSPUR_GET_CONFIG (R250): Returns the applied Larkspur configuration. -/
  | larkspurGetConfig (r : Req)
  /-- LARKSPUR_SET_CONFIG (R249): Checks a Larkspur configuration and names its effective frame. -/
  | larkspurSetConfig (r : Req)
  /-- LARKSPUR_GET_EVENTS (R250): Returns wavefront event entries. -/
  | larkspurGetEvents (r : Req)
  /-- LARKSPUR_CALIBRATE (R251): Injects 64 calibration steps and sets FE_DELAY_NS of passing lanes. -/
  | larkspurCalibrate (r : Req)
  /-- LARKSPUR_MANUAL_TRIGGER (R243): Triggers a COMTRADE record on selected groups or all lanes. -/
  | larkspurManualTrigger (r : Req)
  /-- FIELDIO_GET_STATUS (R310): Returns the field-I/O status words. -/
  | fieldioGetStatus (r : Req)
  /-- FIELDIO_GET_CONFIG (R310): Returns the applied field-I/O configuration. -/
  | fieldioGetConfig (r : Req)
  /-- FIELDIO_SET_CONFIG (R309): Checks a field-I/O configuration and names its effective frame. -/
  | fieldioSetConfig (r : Req)
  /-- FIELDIO_CLEAR_FAULT (R310): Clears DIO_FAULT and or every FIO_EVENT flag on this module. -/
  | fieldioClearFault (r : Req)
  /-- CANAUX_GET_STATUS (R333): Returns the CAN status words. -/
  | canauxGetStatus (r : Req)
  /-- CANAUX_GET_CONFIG (R333): Returns the applied CAN configuration. -/
  | canauxGetConfig (r : Req)
  /-- CANAUX_SET_CONFIG (R332): Checks a CAN configuration and names its effective frame. -/
  | canauxSetConfig (r : Req)
  /-- CANAUX_TX_ENQUEUE (R323): Queues or replaces a frame in a TX object on the owner. -/
  | canauxTxEnqueue (r : Req)
  /-- CANAUX_RECOVER (R327): Starts bus-off recovery of a controller. -/
  | canauxRecover (r : Req)
  /-- CANAUX_READ_RX (R333): Returns receive log entries. -/
  | canauxReadRx (r : Req)
  /-- LIFETIME_GET_SUMMARY (R496): Returns the lifetime summary. -/
  | lifetimeGetSummary (r : Req)
  /-- LIFETIME_READ_RECORDS (R496): Returns lifetime records in progress payloads. -/
  | lifetimeReadRecords (r : Req)
  /-- LIFETIME_ADD_NOTE (R496): Adds a NOTE lifetime record. -/
  | lifetimeAddNote (r : Req)
  /-- CONFIG_EFFECTIVE_FRAME (R139): The frame named by the owner for a forwarded configuration command begins and every member applies it. -/
  | configEffectiveFrame
  /-- SV_FRAME_RX (R187): A sampled-value frame arrives, is checked against its stream record and its samples are placed on the TAI second and accepted or rejected. -/
  | svFrameRx (f : SvFrame)
  /-- STREAM_LOST (R191): No usable sample has arrived for LOST_FRAMES frames and the stream goes LOST. -/
  | streamLost (n : Nat)
  /-- ESTIMATE_SET_COMPLETE (R193): Aster completes the estimate set E(k), frequency and ROCOF for all channels and references. -/
  | estimateSetComplete (ns : Nat)
  /-- C37118_COMMAND (R207): A C37.118.2 command frame is received and controls transmission or configuration frames. -/
  | c37118Command (stream client cmd : Nat)
  /-- MARK_EDGE (R218): The owner launches the LSP_SYNC mark edge of a frame and records t_S(k). -/
  | markEdge
  /-- LANE_FRAME (R222): A marked pair arrives on a lane and the lane frame is checked, moving the lane between HUNT, CHECK and LOCKED. -/
  | laneFrame (lane : Nat) (pairs : List LanePair) (mark : Bool)
  /-- GROUP_ARMED (R227): After 65 536 samples since enable or record change, a lane group's noise floor is formed and the group is armed. -/
  | groupArmed (g : Nat)
  /-- WAVEFRONT_DETECT (R228): CONFIRM samples exceed the threshold with one sign; the onset is fitted, an event opens or a reflection is entered, and the report goes to Utlos. -/
  | wavefrontDetect (g k n : Nat) (lanes : List (List LanePair))
  /-- EVENT_CLOSE (R229): An open wavefront event reaches its hold time and closes, reporting its reflection list. -/
  | eventClose (g : Nat)
  /-- RGOOSE_RETRANSMIT (R234): A wavefront report is retransmitted at 1, 2, 4 and 8 ms and then as a 1 s heartbeat. -/
  | rgooseRetransmit
  /-- RGOOSE_REPORT_RX (R235): A remote R-GOOSE wavefront report is received, authenticated and kept pending or discarded. -/
  | rgooseReportRx (x : RgReport)
  /-- REMOTE_WAIT_EXPIRY (R236): A pending report or event reaches REMOTE_WAIT_MS unmatched and sets NO_REMOTE. -/
  | remoteWaitExpiry
  /-- RECORD_COMPLETE (R243): A COMTRADE record reaches 4 ms after its last trigger or 20 ms total and is captured into staging. -/
  | recordComplete
  /-- RECORD_STORED (R491): The archive writer finishes storing a record to ARCH and deletes old records when space is low. -/
  | recordStored
  /-- GOOSE_FRAME_RX (R269): A GOOSE frame is received, authenticated and checked against its subscription and accepted or rejected. -/
  | gooseFrameRx (f : GooseFrame)
  /-- GOOSE_TAL_EXPIRY (R274): A subscription's timeAllowedtoLive expires without a new frame and it is no longer alive. -/
  | gooseTalExpiry (i : Nat)
  /-- NET_FRAME_RX (R254): A frame arrives on a network port and is handled: duplicate discard, HSR forwarding, ARP, ICMP echo or fragment discard. -/
  | netFrameRx (f : NetFrame)
  /-- LINK_CHANGE (R281): A port link goes up or down. -/
  | linkChange (port : Nat) (up : Bool) (speed : Nat) (seated fault : Bool)
  /-- PRP_SUPERVISION (R259): A PRP or HSR supervision frame is sent every LIFE_CHECK_MS. -/
  | prpSupervision (pair : Nat)
  /-- NODE_FORGET (R259): A node not heard for NODE_FORGET_MS leaves the node table. -/
  | nodeForget (pair mac : Nat)
  /-- ENTRY_FORGET (R259): The duplicate-discard entry of a frame expires after ENTRY_FORGET_MS. -/
  | entryForget (pair src seq : Nat)
  /-- MACSEC_DOWN (R273): A port's MACsec secure channel goes down and the port stops sending. -/
  | macsecDown (port : Nat)
  /-- MACSEC_UP (R273): A port's MACsec secure channel comes up through MKA. -/
  | macsecUp (port : Nat)
  /-- MMS_ASSOCIATE (R277): An MMS client associates. -/
  | mmsAssociate (x : Handshake)
  /-- MMS_CONCLUDE (R277): An MMS association concludes. -/
  | mmsConclude (assoc : Nat)
  /-- MMS_ABORT (R277): An MMS association is aborted. -/
  | mmsAbort (assoc : Nat)
  /-- MMS_GET_NAME_LIST (R277): MMS GetNameList service. -/
  | mmsGetNameList (assoc : Nat)
  /-- MMS_IDENTIFY (R277): MMS Identify service. -/
  | mmsIdentify (assoc : Nat)
  /-- MMS_READ (R278): MMS Read service from the module's own output gather. -/
  | mmsRead (assoc index : Nat)
  /-- MMS_GET_VARIABLE_ACCESS_ATTRIBUTES (R277): MMS GetVariableAccessAttributes service. -/
  | mmsGetVariableAccessAttributes (assoc index : Nat)
  /-- MMS_GET_NAMED_VAR_LIST_ATTRIBUTES (R277): MMS GetNamedVariableListAttributes service. -/
  | mmsGetNamedVarListAttributes (assoc : Nat) (list : List Byte)
  /-- MMS_WRITE_RCB (R277): MMS Write of a report control block. -/
  | mmsWriteRcb (assoc rcb : Nat) (enable : Bool) (value : List Byte)
  /-- MMS_FILE_DIRECTORY (R277): MMS FileDirectory over the COMTRADE records. -/
  | mmsFileDirectory (assoc : Nat)
  /-- MMS_FILE_OPEN (R277): MMS FileOpen of a COMTRADE record. -/
  | mmsFileOpen (assoc recId : Nat)
  /-- MMS_FILE_READ (R277): MMS FileRead of an open record. -/
  | mmsFileRead (assoc frsm count : Nat)
  /-- MMS_FILE_CLOSE (R277): MMS FileClose. -/
  | mmsFileClose (assoc frsm : Nat)
  /-- FLD_LOW (R284): FLD24 has been below 19.2 V for 50 us and the supply state becomes LOW. -/
  | fldLow
  /-- FLD_NORMAL (R284): FLD24 has been at or above 19.6 V for 50 us and the supply state becomes NORMAL. -/
  | fldNormal
  /-- LOCKOUT (R284): FLD24 has been below 15 V for 10 us; DO stages switch off, AO go to 0 mA and LOCKOUT is entered. -/
  | lockout
  /-- LOCKOUT_END (R284): FLD24 has been at or above 17 V for 10 us and LOCKOUT ends, with stages re-enabled at the next T0+216 us. -/
  | lockoutEnd (mv : Nat)
  /-- DO_LATCH_OFF (R292): A DO stage has been in current limitation for 1 ms, latches off and sets DIO_FAULT. -/
  | doLatchOff (n : Nat)
  /-- STAGE_HOLD_END (R302): 1 ms after releasing OWN the stages take the drive of the module's new role. -/
  | stageHoldEnd
  /-- CAN_FRAME_RX (R314): A frame seen on the CAN bus is logged and given to the matching RX object, or a protocol exception occurs. -/
  | canFrameRx (c : Nat) (f : CanFrame)
  /-- CAN_BUS_IDLE (R316): At bus idle the controller offers its highest-priority pending object, failing it with DEADLINE if its deadline has passed. -/
  | canBusIdle (c sof : Nat) (lost : Bool)
  /-- CAN_TX_DONE (R321): A one-shot transmission attempt ends sent or failed with its REASON, updating TEC and the error state. -/
  | canTxDone (c reason bitPos : Nat) (dominant : Bool) (extra : Nat)
  /-- CAN_RECOVERY_COMPLETE (R325): 128 occurrences of 11 recessive bits have been counted and the controller returns to ACTIVE. -/
  | canRecoveryComplete (c : Nat)
  /-- CAN_BUS_INTEGRATION (R329): After taking OWN the controller integrates on 11 recessive bits and enters normal operation. -/
  | canBusIntegration (c : Nat)
  /-- FIRMWARE_UP (R336): Firmware comes up, joins an owner, claims OWN by rank or waits for the peer. -/
  | firmwareUp (absent : List Nat) (selfTest : Bool)
  /-- PEER_WAIT_EXPIRY (R336): No peer has answered on Hollyhock for 10 s; the module claims as ALONE or becomes ALONE-standby. -/
  | peerWaitExpiry
  /-- OWN_LINE_FALL (R339): OWN is sensed low while ARMED and the quiet count restarts. -/
  | ownLineFall
  /-- QUIET_TIME_EXPIRY (R339): OWN has been high for the quiet time and the armed claim logic drives OWN low. -/
  | quietTimeExpiry
  /-- CLAIM_CONFIRM (R339): 100 ns after driving OWN the claim logic confirms HELD and opens the gates, or records OWN_FAULT. -/
  | claimConfirm (low : Bool) (gapNs : Nat)
  /-- OWN_FAULT (R339): OWN has been sensed high for 100 ns while held; the driver is turned off and the module goes FAILED. -/
  | ownFault
  /-- PEER_KILL_OUT_ASSERT (R342): 10 us after a takeover claim the owner asserts PEER_KILL_OUT. -/
  | peerKillOutAssert
  /-- PEER_KILL_IN (R342): PEER_KILL_IN is asserted; stages switch off, the OWN driver and PAIR_OK_OUT are disabled and the module goes FAILED. -/
  | peerKillIn
  /-- PEER_KILL_IN_RELEASE (R342): PEER_KILL_IN is released and the module may drive again. -/
  | peerKillInRelease
  /-- PAIR_OK_MISSING (R341): PAIR_OK_IN has had no edge for 1.5 us, establishing a takeover cause or setting PAIR_LINE. -/
  | pairOkMissing
  /-- FAILED_RESTART (R343): 1 s after entering FAILED for a restart-permitting class, the module warm-resets if fewer than 3 restarts fell in 60 min. -/
  | failedRestart
  /-- HEARTBEAT_TX (R341): A Hollyhock heartbeat leaves each port every 2 us. -/
  | heartbeatTx
  /-- HEARTBEAT (R374): A heartbeat is received with the peer's role and state, or sets MISWIRE. -/
  | heartbeat (h : HhkHdr) (groupId slot rank role : Nat) (taint : Bool) (time : HbTime)
  /-- HOLLYHOCK_LOST (R357): No authenticated frame has arrived on either port for 10 us and the roles react under R357. -/
  | hollyhockLost
  /-- SNAPSHOT_FRAME (R351): A snapshot segment arrives authenticated over Hollyhock. -/
  | snapshotFrame (h : HhkHdr) (part : Snapshot)
  /-- SIGNATURE_FRAME (R356): A peer's signature record arrives and is compared; a mismatch is arbitrated and a resync attempt may complete at Q. -/
  | signatureFrame (h : HhkHdr) (slots : List (Nat × Nat)) (held : Nat) (peerFault : Bool)
  /-- VOTE_FRAME (R385): A peer's vote record arrives for the vote at T0+212 us. -/
  | voteFrame (h : HhkHdr) (sigs : List Nat) (doVals held : Nat) (ao : List Nat)
  /-- JOIN (R359): A JOIN arrives at the owner, which accepts it, releases PEER_KILL_OUT and starts resync, or defers or refuses it. -/
  | join (h : HhkHdr) (split : Bool) (bundleVersion stFormat stUpMin : Nat)
  /-- LEAVE (R336): A LEAVE arrives and the owner becomes ALONE. -/
  | leave (h : HhkHdr)
  /-- FAILED (R343): A FAILED message arrives from a peer, which changes roles. -/
  | failed (h : HhkHdr) (cls : Nat)
  /-- READY (R142): A member reports ready for the swap over Hollyhock. -/
  | ready (h : HhkHdr) (ok : Bool)
  /-- ACK (R347): A peer acknowledges a final checkpoint or control message. -/
  | ack (h : HhkHdr) (singleton : Nat)
  /-- TAINT_RELEASE (R406): A tainted owner announces its release of OWN and the peer claims without a takeover. -/
  | taintRelease (h : HhkHdr)
  /-- RESYNC_PAGE (R360): A resync page arrives and the joiner applies it. -/
  | resyncPage (h : HhkHdr) (address : Nat) (data : List Byte) (replica : Option Replica)
  /-- RESYNC_LINES (R360): Marked resync lines arrive and the joiner applies them in frame order. -/
  | resyncLines (h : HhkHdr) (lines : List (Nat × List Byte)) (q : Option Nat)
  /-- RESYNC_TIMEOUT (R360): No frame's marked lines fell to 16 KiB within 5 s, the attempt fails and a new one starts, the third making the joiner FAILED. -/
  | resyncTimeout
  /-- CHECKPOINT_SEND (R362): The owner sends a checkpoint of each running singleton every 100 ms. -/
  | checkpointSend
  /-- CHECKPOINT (R362): A singleton checkpoint arrives at the standby and is kept. -/
  | checkpoint (h : HhkHdr) (singleton seqNo frame : Nat) (content : List Byte)
  /-- SINGLETON_RESTART (R363): Within 50 ms of a claim the new owner restarts each singleton from its latest checkpoint. -/
  | singletonRestart
  /-- HANDOVER_PREPARE (R347): At T0 of frame H-8 the owner stops singletons and sends final checkpoints. -/
  | handoverPrepare
  /-- HANDOVER_RELEASE (R347): At T0+217 us of frame H-1 the owner releases OWN and arms a longer quiet time, or postpones the handover. -/
  | handoverRelease
  /-- HANDOVER_FRAME (R347): Frame H begins; the former owner becomes STANDBY and the new owner PRIMARY. -/
  | handoverFrame
  /-- FORWARD (R139): A forwarded mailbox request from the owner arrives over Hollyhock and is verified or applied at its named frame. -/
  | forward (h : HhkHdr) (f : Fwd)
  /-- KEY (R456): A key agreement message arrives and, when complete, new Hollyhock keys are derived. -/
  | key (h : HhkHdr) (chain : List Byte) (final : Bool)
  /-- KEY_RENEWAL (R373): A frame counter approaches 2^48 and the keys are renewed. -/
  | keyRenewal
  /-- OLD_KEY_EXPIRY (R373): 1 ms after a key renewal the previous key is no longer accepted. -/
  | oldKeyExpiry
  /-- DELAY_REQ (R375): A port sends DELAY_REQ once per millisecond, or receives one and answers DELAY_RESP. -/
  | delayReq (port : Nat) (rx : Option HhkHdr) (arrived departed : Nat)
  /-- DELAY_RESP (R375): A DELAY_RESP arrives; delay and offset are computed and the medians updated. -/
  | delayResp (h : HhkHdr) (t1 t2 t3 t4 : Int)
  /-- LANE_TRAIN_COMPLETE (R369): A Hollyhock lane reaches block lock and a converged equaliser and enters CHECK, or times out to DOWN after 10 ms. -/
  | laneTrainComplete (port lane : Nat) (converged : Bool)
  /-- LANE_CHECK_COMPLETE (R369): A lane has run 1 s without an errored block and becomes READY. -/
  | laneCheckComplete (port lane : Nat)
  /-- LANE_ERRORED_BLOCK (R369): An errored block in CHECK returns the lane to TRAIN. -/
  | laneErroredBlock (port lane : Nat)
  /-- LANE_LOST (R370): A lane that is UP meets 64 invalid headers or 16 errored blocks in 1 us and goes DOWN. -/
  | laneLost (port lane inFlight : Nat)
  /-- LANE_RETRAIN (R369): 1 ms after entering DOWN an enabled lane starts training again. -/
  | laneRetrain (port lane : Nat)
  /-- LANE_REBOND (R370): A READY lane is re-bonded between T0+100 us and T0+102 us of the next frame. -/
  | laneRebond (port lane : Nat)
  /-- COMPARATOR_MISMATCH (R395): A comparator signals a mismatch; releases and updates are blocked and the module goes FAILED, or it is only recorded under taint. -/
  | comparatorMismatch (unit port : Nat)
  /-- DELAY_PAR (R396): A parity error in a delay register acts as a mismatch. -/
  | delayPar (unit port : Nat)
  /-- COMP_FAIL (R397): A checker tree output loses complement and acts under R395. -/
  | compFail (unit : Nat)
  /-- DEBUG_ACCESS (R405): A debug access sets debug taint and turns units 0 to 6 to record-only mode. -/
  | debugAccess
  /-- DRAM_SCRUB_READ (R420): The DRAM scrubber reads the next line, writes back a corrected line, attributes errors and may retire a device or act on an uncorrectable line. -/
  | dramScrubRead (bad : List Nat) (overwritten : Bool)
  /-- DRAM_SCRUB_LATE (R420): A DRAM scrub pass is incomplete 3600 s after it started. -/
  | dramScrubLate
  /-- SRAM_SCRUB_READ (R424): An SRAM scrubber reads a word, writes back a corrected word or acts on an uncorrectable one. -/
  | sramScrubRead (memory index : Nat) (outcome : Nat) (overwritten passDone : Bool)
  /-- SRAM_SCRUB_LATE (R424): An SRAM scrub pass has not completed in 10 s. -/
  | sramScrubLate
  /-- MEM_LOG_CLEAR (R426): Writing MEM_LOG_STAT.CLEAR empties the MEM error log. -/
  | memLogClear (value : Nat)
  /-- FABRIC_ACCESS (R432): A master's access is checked by its MPU and target gate and admitted or rejected whole with a violation report. -/
  | fabricAccess (a : FabAcc)
  /-- GATE_SEAL (R436): Writing GATE_SEAL from UM0 seals every gate and MPU. -/
  | gateSeal (master : Nat) (privileged : Bool) (value : Nat)
  /-- GATE_POP (R441): Writing GATE_Gg_POP removes the oldest report of a gate FIFO. -/
  | gatePop (g value : Nat)
  /-- GATE_ENTRY_WRITE (R436): A write to a gate or MPU entry register takes effect while unsealed and unlocked, or is ignored and sets WRITE_SEALED. -/
  | gateEntryWrite (master : Nat) (privileged : Bool) (address value : Nat)
  /-- GATE_DRAIN_COMPLETE (R438): The last checked access completes during a warm reset and the gate closes. -/
  | gateDrainComplete (g : Nat)
  /-- GATE_DRAIN_TIMEOUT (R438): 2 us after a warm reset began, incomplete accesses are ended and the gate closes. -/
  | gateDrainTimeout (g incomplete : Nat)
  /-- COLD_RESET (R523): A cold reset resets all domains except BKD and runs the boot chain. -/
  | coldReset (cause : Nat)
  /-- WARM_RESET (R523): A warm reset resets all domains except TIME and BKD, drains the gates and runs the boot chain from stage 0. -/
  | warmReset (flight : List InFlight)
  /-- PER_DOMAIN_RESET (R524): A per-domain reset restarts one permitted domain, flushing its crossings. -/
  | perDomainReset (domain : Nat) (flight : List InFlight)
  /-- WARM_RESET_REQUEST (R533): Writing PWR_RST_CTRL.WARM requests a warm reset, ignored while OWN is held. -/
  | warmResetRequest
  /-- DOMAIN_RESET_REQUEST (R533): Writing PWR_RST_CTRL.DOMAIN requests per-domain resets checked bit by bit. -/
  | domainResetRequest (mask : Nat)
  /-- OTP_DIGEST_CHECK (R444): Every 24 h the SEC firmware checks the OTP and key store digest. -/
  | otpDigestCheck (ok : Bool)
  /-- ENROL_RENEWAL (R455): An operational certificate reaches 70 % of its validity and the enrolment client renews it by EST. -/
  | enrolRenewal (slot : Nat) (chain : Option (List Byte × Nat))
  /-- NAND_SWEEP_READ (R481): The refresh sweep reads a page and refreshes or retires its block as needed. -/
  | nandSweepRead (x : SweepPage)
  /-- SWEEP_LATE (R481): A NAND sweep pass is incomplete after 30 days. -/
  | sweepLate
  /-- CONF_WRITE_COMPLETE (R485): A CONF object version completes on package 1 and becomes current. -/
  | confWriteComplete (programmed : List (Nat × Bool))
  /-- LOG_FLUSH (R486): Event log entries are flushed to NAND once per second. -/
  | logFlush
  /-- LOG_BUDGET_REFILL (R489): The event log budget is refilled at 100 entries per second. -/
  | logBudgetRefill
  /-- LIFETIME_HOURS (R493): An HOURS lifetime record is written every hour of operation. -/
  | lifetimeHours (secA secB : Nat)
  /-- NAND_WEAR (R493): A daily NAND_WEAR lifetime record is written. -/
  | nandWear
  /-- BKD_TRIM (R500): At a whole second with valid time the timebase trims the backup counter and clears TIME_LOST. -/
  | bkdTrim
  /-- BKD_ALARM_FIRE (R504): A crystal tick brings the counter to ALARM and the armed alarm fires, waking from PARKED if WAKE is set. -/
  | bkdAlarmFire
  /-- WEEKDAY_ADVANCE (R503): The weekday counter advances when SECONDS plus WD_OFFSET reaches a day boundary. -/
  | weekdayAdvance
  /-- BKD_ALARM_HI_WRITE (R504): Writing BKD_ALARM_HI sets ALARM[47:32] and ARM, firing at once with SKIPPED if already passed. -/
  | bkdAlarmHiWrite (value : Nat)
  /-- BKD_ALARM_LO_WRITE (R504): Writing BKD_ALARM_LO sets ALARM[31:0] and clears ARM. -/
  | bkdAlarmLoWrite (value : Nat)
  /-- BKD_WD_WRITE (R503): Writing BKD_WD sets the weekday and WD_OFFSET, ignoring an out-of-range offset. -/
  | bkdWdWrite (value : Nat)
  /-- PARK (R506): Writing BKD_PWR.PARK requests park, refused while OWN is held. -/
  | park
  /-- PARK_TIMEOUT (R507): 2 s after an accepted park SYS_PWRON is pulled low and the module is PARKED. -/
  | parkTimeout
  /-- THERMAL_RESTART (R507): The domain sensor has been at or below THERM_C for 60 s and a permitted thermal restart releases SYS_PWRON. -/
  | thermalRestart
  /-- BKD_BYTES_WRITE (R508): A write to the backup bytes updates BKD_BYTES_CRC. -/
  | bkdBytesWrite (offset : Nat) (data : List Byte)
  /-- BKD_BYTES_INIT (R508): Writing BKD_BYTES_CTRL.INIT zeroes the bytes and sets BYTES_OK. -/
  | bkdBytesInit
  /-- SUPPLY_CHANGE (R509): The backup domain switches its supply source make-before-break. -/
  | supplyChange (mainMv bkupMv cellMv : Nat)
  /-- BKD_DIP (R511): V_BKD dips below 1.80 V; TIME_LOST is set and BYTES_OK cleared. -/
  | bkdDip
  /-- BKD_POWER_ON (R499): The backup domain powers on after all sources were absent, with counter 0 and TIME_LOST set. -/
  | bkdPowerOn
  /-- FEED_LOST (R513): A feed has been below 17 V for 2 us and becomes ABSENT; the other feed takes the load or POWER_FAIL is declared. -/
  | feedLost (feed mv : Nat)
  /-- FEED_GOOD (R513): A feed rises to 18 V or more and becomes GOOD or QUALIFYING, and may wake from PARKED. -/
  | feedGood (feed mv : Nat) (bothLow1s : Bool)
  /-- FEED_OV (R513): A feed has been above 34 V for 2 us and enters OV. -/
  | feedOv (feed mv : Nat)
  /-- FEED_OV_CLEAR (R513): A feed in OV has been at or below 33 V for 10 ms. -/
  | feedOvClear (feed mv : Nat)
  /-- FEED_RETURN (R514): Feed A has been GOOD for 10 ms while qualifying and is connected. -/
  | feedReturn
  /-- FEED_B_RELEASE (R514): 10 us after qualified feed A is connected, feed B is switched off. -/
  | feedBRelease
  /-- SEATED_DETECT_MADE (R518): Both seated-detects are held for 10 ms with pre-charge complete; the converter starts and SLOT_ID and GROUP_ID are latched. -/
  | seatedDetectMade (slotId groupId : Nat)
  /-- SEAT_PARTIAL (R519): Only one seated-detect has been made for 1 s and the module stays at step 3. -/
  | seatPartial (atH40 : Bool)
  /-- SEATED_DETECT_BREAK (R521): A seated-detect breaks; drivers stop, stages switch off and the module enters FAILED with class 0x1C. -/
  | seatedDetectBreak (atH40 : Bool)
  /-- BUTTON_PRESS (R543): The removal button is released after at least 50 ms and before 5 s, making a removal request. -/
  | buttonPress
  /-- BUTTON_HELD (R543): The removal button has been held for 5 s, making a forced removal request. -/
  | buttonHeld
  /-- TEMP_SAMPLE (R517): Die and board temperatures are measured every 1 ms, setting or lifting THERM_WARN and the MGMT cap. -/
  | tempSample (die board : Int)
  /-- THERMAL_FAIL (R517): Die at 120 C or board at 95 C for 1 s; the module goes FAILED and orders a thermal shutdown. -/
  | thermalFail
  /-- THERMAL_SHUTDOWN (R517): Die at or above 130 C makes hardware order an immediate thermal shutdown. -/
  | thermalShutdown
  /-- AVS_ADJUST (R529): Every 1 ms AVS sets the CORE rail from the critical-path monitors. -/
  | avsAdjust (demandMv : Nat)
  /-- DROOP_DETECT (R530): A droop on the CORE rail stretches the CORE clock period by 25 % while it lasts. -/
  | droopDetect (centi : Nat)
  /-- MGMT_OP_SELECT (R531): Every 1 ms Utlos firmware chooses the MGMT operating point. -/
  | mgmtOpSelect (op : Nat)
  /-- CLOCK_GATE (R525): An idle domain such as NAND is gated after 1 ms idle. -/
  | clockGate (domain : Nat)
  /-- CLOCK_WAKE (R527): An access to a gated domain raises a wake request and the clock runs again within 2 us. -/
  | clockWake (domain : Nat)
  /-- CLOCK_FAULT (R407): A missing-edge monitor finds a domain clock stopped and the module goes FAILED. -/
  | clockFault (domain : Nat)
  /-- RAIL_FAULT (R407): An on-die supply rail leaves its window and the module goes FAILED. -/
  | railFault
  /-- FIRMWARE_WATCHDOG (R407): A hardware watchdog finds Utlos or security island firmware stalled and the module goes FAILED. -/
  | firmwareWatchdog (unit : Nat)
  /-- REGISTER_WRITE (R10): A write to a register field without a row of its own acts under its access code: RW sets, W1C clears, RWL sets unless locked, RO is ignored. -/
  | registerWrite (address value : Nat) (sets : List Nat)
  /-- OWNER_LOST (R336): A SYNCING module senses OWN high for 10 us, treats the owner as lost, goes to role none and restarts under R140. -/
  | ownerLost
  /-- PAIR_OK_EDGE (R341): An edge arrives on PAIR_OK_IN after it was declared missing, and PAIR_OK_ALIVE returns. -/
  | pairOkEdge
  /-- CELL_LOW (R512): The selected supercapacitor falls below 2.2 V and BKD_EVENT.CELL_LOW is set. -/
  | cellLow
  /-- OCXO_WARM (R522): The OCXO becomes stable within 10 ppb, TIM_STATUS.OCXO_WARM is set and warm-up power ends. -/
  | ocxoWarm
  /-- TRIAL_HANDOVER_TIMEOUT (R460): A trial module's handover before fallback has not completed within 1 s, and it falls back at once. -/
  | trialHandoverTimeout
  /-- PTP_ANNOUNCE (R49): A PTP Announce message arrives; its currentUtcOffset, leap flags and TLVs are taken and the announce receipt timeout restarts. -/
  | ptpAnnounce (port domain : Nat) (utcValid : Bool) (utcOffset : Nat) (leap61 leap59 : Bool)
  /-- PTP_DELAY_REQ (R46): The module sends its own two-step Delay_Req or Pdelay_Req on a port for the delay mechanism of its profile. -/
  | ptpDelayReq (port : Nat)
  /-- MALFORMED (R93): A message whose header fails check 1 to 3 of R93, or that arrives before the session exists, is answered MALFORMED, UNKNOWN_FAMILY, UNKNOWN_COMMAND or NOT_AUTHENTICATED. -/
  | malformed (fam cmd : Nat) (r : Req)
  /-- C37118_CLIENT_CONNECT (R207): A C37.118.2 client opens a TCP connection on a PMU stream's STREAM_PORT, up to 4 per stream. -/
  | c37118ClientConnect (stream : Nat)
  /-- C37118_CLIENT_CLOSE (R207): A C37.118.2 client's TCP connection closes or is lost. -/
  | c37118ClientClose (stream : Nat)
deriving DecidableEq, Repr

end Sys2Proof
end

