-- ==== Sys2Proof/Decode.lean ====
section
/-! DEFINITION. The command a word spells by the opcode table's bits. The table gives no row any bits, so no word
spells a command (log entry 0). -/

namespace Sys2Proof

/-- The command a word of `nbits` bits spells: none, as no row of the table has an encoding. -/
def decodeTableWord (_nbits _w : Nat) : Option Instr := none

end Sys2Proof
end

