-- ==== Sys2Proof/Config.lean ====
section
/-! DEFINITION. The values the spec leaves open, as constants without a body: no proof can see what they are
(log entry 5). -/

namespace Sys2Proof.Config

/-- The n-th free value a run takes where the spec gives no value (log entry 5). -/
opaque free : Nat → Nat

/-- The CRC-32 over the 64 backup bytes (18 R508): the spec gives the polynomial and neither the initial value nor
the bit order (log entry 8). -/
opaque backupCrc : List Byte → Nat

/-- The new RATE of the backup counter from the present one and the tick corrections of the last 64 trims (18 R500):
the spec gives no formula (log entry 9). -/
opaque trimRate : Int → Int → Int

/-- Whether an AO command, without or with the offset, that lies between two steps of the 16-bit setpoint is rounded up (09
R299): the spec gives no rounding (log entry 43). -/
opaque aoRound : Nat → Bool → Bool

/-! The numbers of the fixed engines, Aster and Larkspur (06, 07). The spec gives their formulas and neither a number
format nor a rounding, so each operation is free (log entry 48). -/

/-- The fraction n / d. -/
opaque numRat : Int → Nat → Nat

opaque numAdd : Nat → Nat → Nat
opaque numSub : Nat → Nat → Nat
opaque numMul : Nat → Nat → Nat
opaque numDiv : Nat → Nat → Nat
opaque numSqrt : Nat → Nat
opaque numSin : Nat → Nat
opaque numCos : Nat → Nat
opaque numPi : Nat

/-- The angle of the point (x, y), from y and x. -/
opaque numAtan2 : Nat → Nat → Nat

opaque numLt : Nat → Nat → Bool

/-- A REAL as a number, and a number rounded to a REAL. -/
opaque numOfReal : Nat → Nat
opaque numToReal : Nat → Nat

/-- The value of a number, a numerator over a denominator less one. -/
opaque numValue : Nat → Int × Nat

/-- Aster's interpolator, a fixed polyphase FIR with its group delay removed (06 R197): the value at an instant, in
1/48000 ns, of samples at a rate, each a place and a number. The spec gives no coefficients (log entry 48). -/
opaque asterFir : Nat → List (Nat × Nat) → Int → Nat

/-- The MMS model that the settings carry (08 R277; log entry 57): the name of an attribute, what Identify answers, the
attributes of a named variable list, and those of the dataset of a report control block as its written value names it. -/
opaque mmsName : Nat → List Nat
opaque mmsIdentity : List Nat
opaque mmsDataset : List (BitVec 8) → List Nat
opaque mmsRcbDataset : Nat → List (BitVec 8) → List Nat

/-- The length in bytes of a released frame, by kind (0 a GOOSE publication, 1 an R-GOOSE report, 2 a C37.118.2 report),
index and the configuration that holds its record (08 R263): the spec gives no frame layout (log entry 54). -/
opaque frameLength : Nat → Nat → List Byte → Nat

/-- SHA-384 of a byte string (16 R453, R470): the spec names the function and lies on its standard (log entry 58). -/
opaque sha384 : List Byte → List Byte

/-- The CRC-32 of a codeword, a CONF version or a boot control record (16 R451, 17 R478, R485): the spec gives no
polynomial (log entry 178). -/
opaque nandCrc : List Byte → Nat

/-- HMAC-SHA384 of data under a key, and HKDF-SHA384 of a secret with an info (16 R453; log entry 58). -/
opaque hmacSha384 : List Byte → List Byte → List Byte
opaque hkdfSha384 : List Byte → String → List Byte

/-- A peer's Alias and DeviceID certificates and its signed key reach the manufacturing CA of a digest (16 R456; log entry
58). -/
opaque peerChainOk : List Byte → List Byte → Bool

/-- Both signatures of a signature section verify over the given bytes through its chain to one of the anchors (05 R185,
16 R450, R467; log entry 58). -/
opaque verifies : List (List Byte) → List Byte → List Byte → Bool

/-- The certificate of a kind of 16 R474 that the module holds besides the operational one, from what it certifies (16
R454; log entry 58). -/
opaque certificate : Nat → List Byte → List Byte

/-- The PKCS #10 request in DER for a serial number and a security configuration, under the n-th key generated (16 R471;
log entry 58). -/
opaque certRequest : List Byte → List Byte → Nat → List Byte

/-- A chain is an operational certificate for the module's key under the operator's CA, and its not-after in s (16 R454,
R471; log entry 58). -/
opaque chainNotAfter : List Byte → Option Nat

/-- A DER certificate is an anchor of a KIND of 16 R472: kinds 2 and 3 with both keys (log entry 58). -/
opaque anchorOk : Nat → List Byte → Bool

/-- A client certificate chain is valid under one of the client CA anchors (03 R86; log entry 58). -/
opaque certChains : List (List Byte) → List Byte → Bool

/-- One of the CRLs revokes a client certificate chain (03 R86; log entry 58). -/
opaque certRevoked : List (List Byte) → List Byte → Bool

/-- The issuer of a DER CRL, none where it is not one that the client CA anchors issue (16 R472; log entry 58). -/
opaque crlIssuer : List (List Byte) → List Byte → Option Nat

/-- The free value that stands for an invalid sample at the filter of a group, from the input before it (07 R226; log
entry 162). -/
opaque lspGap : Nat → Nat

/-- The phase of LSP_CLK against the TIME counter, in thirds of a ns below 25 (07 R218, R224; log entry 163). -/
opaque lspPhase : Nat

/-- The .cfg, .inf and .hdr sections of a COMTRADE record as text (07 R244; log entry 164). -/
opaque cffText : Cff → List Byte

end Sys2Proof.Config
end

