-- ==== Sys2Proof/Machine/Bits.lean ====
section
/-! DEFINITION. Bit fields, byte order (00 R8), signed values, and lists kept in one canonical form by key. -/

namespace Sys2Proof.Machine

/-- Bits [hi:lo] of a word as a number (R7). -/
def fieldOf (w : Word) (hi lo : Nat) : Nat := w.toNat / 2 ^ lo % 2 ^ (hi + 1 - lo)

/-- The word with bits [hi:lo] replaced by the low bits of `v`. -/
def putField (w : Word) (hi lo v : Nat) : Word :=
  BitVec.ofNat 32 (w.toNat - fieldOf w hi lo * 2 ^ lo + v % 2 ^ (hi + 1 - lo) * 2 ^ lo)

/-- Bit `i` of a number. -/
def bitOf (v i : Nat) : Bool := v / 2 ^ i % 2 == 1

/-- A bit as a number. -/
def b2n (b : Bool) : Nat := if b then 1 else 0

/-- A number with bit `i` set or cleared. -/
def withBit (v i : Nat) (b : Bool) : Nat :=
  v - (v / 2 ^ i % 2) * 2 ^ i + (if b then 2 ^ i else 0)

/-- The two's-complement value of the low `n` bits of `v`. -/
def toSigned (n v : Nat) : Int :=
  let m := v % 2 ^ n
  if 2 * m < 2 ^ n then (m : Int) else (m : Int) - (2 ^ n : Nat)

/-- The low `n` bits of the two's-complement form of `i`. -/
def ofSigned (n : Nat) (i : Int) : Nat := (i % ((2 ^ n : Nat) : Int)).toNat

/-- Little-endian bytes of the low 8n bits of `v` (R8). -/
def leBytes : Nat → Nat → List Byte
  | 0, _ => []
  | n + 1, v => BitVec.ofNat 8 v :: leBytes n (v / 256)

/-- The number a little-endian byte list holds (R8). -/
def leNat : List Byte → Nat
  | [] => 0
  | b :: bs => b.toNat + 256 * leNat bs

/-- The little-endian number in bytes `off` to `off + n - 1`; bytes past the end count as 0. -/
def leAt (bs : List Byte) (off n : Nat) : Nat := leNat ((bs.drop off).take n)

/-- The signed little-endian number in bytes `off` to `off + n - 1`. -/
def sleAt (bs : List Byte) (off n : Nat) : Int := toSigned (8 * n) (leAt bs off n)

/-- `n` bytes of 0. -/
def zeros (n : Nat) : List Byte := List.replicate n 0#8

/-- Bounds a number from above, as a saturating count does. -/
def satTo (m v : Nat) : Nat := if v ≤ m then v else m

/-- The entry under a key, or what an unlisted key reads as. -/
def kvGet {β : Type} (d : Nat → β) (a : Nat) : List (Nat × β) → β
  | [] => d a
  | (k, b) :: r => if k = a then b else kvGet d a r

/-- Inserts before the first greater key. -/
def kvInsert {β : Type} (a : Nat) (b : β) : List (Nat × β) → List (Nat × β)
  | [] => [(a, b)]
  | (k, c) :: r => if a < k then (a, b) :: (k, c) :: r else (k, c) :: kvInsert a b r

/-- Writes under a key in canonical form: the default value is not listed. -/
def kvPut {β : Type} [DecidableEq β] (d : Nat → β) (a : Nat) (b : β) (l : List (Nat × β)) : List (Nat × β) :=
  let r := l.filter (fun p => decide (p.1 ≠ a))
  if b = d a then r else kvInsert a b r

/-- Keys strictly rising. -/
def kvRising {β : Type} : List (Nat × β) → Bool
  | [] => true
  | (k, _) :: r => (match r with | [] => true | (k', _) :: _ => decide (k < k')) && kvRising r

/-- The canonical form: keys strictly rising, no entry equal to what an unlisted key reads as. -/
def kvWf {β : Type} [DecidableEq β] (d : Nat → β) (l : List (Nat × β)) : Bool :=
  kvRising l && l.all (fun p => decide (p.2 ≠ d p.1))

/-- Replaces the element at an index, if there is one. -/
def listSet {α : Type} (l : List α) (i : Nat) (f : α → α) : List α :=
  match l, i with
  | [], _ => []
  | x :: r, 0 => f x :: r
  | x :: r, i + 1 => x :: listSet r i f

/-- Overwrites bytes of a list from an offset; bytes past its end are dropped. -/
def patch (bs : List Byte) (off : Nat) (new : List Byte) : List Byte :=
  (bs.take off ++ new ++ bs.drop (off + new.length)).take bs.length

/-- Bytes are UTF-8: `need` continuation bytes are still awaited, the next within lo to hi. -/
def utf8From (need lo hi : Nat) : List Byte → Bool
  | [] => need == 0
  | b :: r =>
    let c := b.toNat
    if need ≠ 0 then decide (lo ≤ c) && decide (c ≤ hi) && utf8From (need - 1) 0x80 0xBF r
    else if c < 0x80 then utf8From 0 0x80 0xBF r
    else if 0xC2 ≤ c ∧ c ≤ 0xDF then utf8From 1 0x80 0xBF r
    else if 0xE0 ≤ c ∧ c ≤ 0xEF then utf8From 2 (if c = 0xE0 then 0xA0 else 0x80) (if c = 0xED then 0x9F else 0xBF) r
    else if 0xF0 ≤ c ∧ c ≤ 0xF4 then utf8From 3 (if c = 0xF0 then 0x90 else 0x80) (if c = 0xF4 then 0x8F else 0xBF) r
    else false

/-! ### CRC-64 (11 R354) -/

/-- One shift of the reflected CRC-64. -/
def crc64Shift (r : Nat) : Nat := if r % 2 = 1 then (r / 2) ^^^ 0xC96C5795D7870F42 else r / 2

/-- One byte enters the CRC-64, least significant bit first. -/
def crc64Byte (r : Nat) (b : Byte) : Nat := (List.range 8).foldl (fun r _ => crc64Shift r) (r ^^^ b.toNat)

/-- Its initial value, and the mask of the final inversion. -/
def crc64Start : Nat := 0xFFFFFFFFFFFFFFFF

/-- The CRC-64 of R354 over bytes. -/
def crc64 (bs : List Byte) : Nat := (bs.foldl crc64Byte crc64Start) ^^^ crc64Start

end Sys2Proof.Machine
end

