-- ==== Sys2Proof/Machine/Regs.lean ====
section
/-! DEFINITION. The service register window (01 R23-R30): every field of every register table of the spec, its
place, access code (R10) and reset value (R9), and for each event flag the counter that counts its settings.
An indexed register takes its index as an argument. -/

namespace Sys2Proof.Machine

/-- The access codes of R10. -/
inductive Access where
  | ro | rw | w1c | wo | rwl | rc
deriving DecidableEq, Repr

/-- A field: the service address of its register and its bits [hi:lo] (R9). -/
structure Fld where
  addr : Nat
  hi : Nat
  lo : Nat
deriving DecidableEq, Repr

/-- A row of a register table: the field of the first instance, the stride and the number of instances,
the access code, the value after cold reset and whether the table marks it writable via DIAG (R12). -/
structure FieldRow where
  fld : Fld
  stride : Nat
  count : Nat
  acc : Access
  rst : Nat
  diag : Bool
deriving DecidableEq, Repr

/-- An event flag and the counter of its settings, where the table has one. -/
structure Ev where
  flag : Fld
  cnt : Option Fld
deriving DecidableEq, Repr


/-! SYS_ID (R29) -/
def Reg.sysIdBlock : Fld := ⟨0x00000, 31, 16⟩
def Reg.sysIdMajor : Fld := ⟨0x00000, 15, 8⟩
def Reg.sysIdMinor : Fld := ⟨0x00000, 7, 0⟩

/-! TIM_ID (R29) -/
def Reg.timIdBlock : Fld := ⟨0x10000, 31, 16⟩
def Reg.timIdMajor : Fld := ⟨0x10000, 15, 8⟩
def Reg.timIdMinor : Fld := ⟨0x10000, 7, 0⟩

/-! MBX_ID (R29) -/
def Reg.mbxIdBlock : Fld := ⟨0x20000, 31, 16⟩
def Reg.mbxIdMajor : Fld := ⟨0x20000, 15, 8⟩
def Reg.mbxIdMinor : Fld := ⟨0x20000, 7, 0⟩

/-! AST_ID (R29) -/
def Reg.astIdBlock : Fld := ⟨0x30000, 31, 16⟩
def Reg.astIdMajor : Fld := ⟨0x30000, 15, 8⟩
def Reg.astIdMinor : Fld := ⟨0x30000, 7, 0⟩

/-! LSP_ID (R29) -/
def Reg.lspIdBlock : Fld := ⟨0x40000, 31, 16⟩
def Reg.lspIdMajor : Fld := ⟨0x40000, 15, 8⟩
def Reg.lspIdMinor : Fld := ⟨0x40000, 7, 0⟩

/-! NET_ID (R29) -/
def Reg.netIdBlock : Fld := ⟨0x50000, 31, 16⟩
def Reg.netIdMajor : Fld := ⟨0x50000, 15, 8⟩
def Reg.netIdMinor : Fld := ⟨0x50000, 7, 0⟩

/-! FIO_ID (R29) -/
def Reg.fioIdBlock : Fld := ⟨0x60000, 31, 16⟩
def Reg.fioIdMajor : Fld := ⟨0x60000, 15, 8⟩
def Reg.fioIdMinor : Fld := ⟨0x60000, 7, 0⟩

/-! CAN_ID (R29) -/
def Reg.canIdBlock : Fld := ⟨0x70000, 31, 16⟩
def Reg.canIdMajor : Fld := ⟨0x70000, 15, 8⟩
def Reg.canIdMinor : Fld := ⟨0x70000, 7, 0⟩

/-! HHK_ID (R29) -/
def Reg.hhkIdBlock : Fld := ⟨0x80000, 31, 16⟩
def Reg.hhkIdMajor : Fld := ⟨0x80000, 15, 8⟩
def Reg.hhkIdMinor : Fld := ⟨0x80000, 7, 0⟩

/-! LCK_ID (R29) -/
def Reg.lckIdBlock : Fld := ⟨0x90000, 31, 16⟩
def Reg.lckIdMajor : Fld := ⟨0x90000, 15, 8⟩
def Reg.lckIdMinor : Fld := ⟨0x90000, 7, 0⟩

/-! MEM_ID (R29) -/
def Reg.memIdBlock : Fld := ⟨0xA0000, 31, 16⟩
def Reg.memIdMajor : Fld := ⟨0xA0000, 15, 8⟩
def Reg.memIdMinor : Fld := ⟨0xA0000, 7, 0⟩

/-! GATE_ID (R29) -/
def Reg.gateIdBlock : Fld := ⟨0xB0000, 31, 16⟩
def Reg.gateIdMajor : Fld := ⟨0xB0000, 15, 8⟩
def Reg.gateIdMinor : Fld := ⟨0xB0000, 7, 0⟩

/-! SEC_ID (R29) -/
def Reg.secIdBlock : Fld := ⟨0xC0000, 31, 16⟩
def Reg.secIdMajor : Fld := ⟨0xC0000, 15, 8⟩
def Reg.secIdMinor : Fld := ⟨0xC0000, 7, 0⟩

/-! NVS_ID (R29) -/
def Reg.nvsIdBlock : Fld := ⟨0xD0000, 31, 16⟩
def Reg.nvsIdMajor : Fld := ⟨0xD0000, 15, 8⟩
def Reg.nvsIdMinor : Fld := ⟨0xD0000, 7, 0⟩

/-! BKD_ID (R29) -/
def Reg.bkdIdBlock : Fld := ⟨0xE0000, 31, 16⟩
def Reg.bkdIdMajor : Fld := ⟨0xE0000, 15, 8⟩
def Reg.bkdIdMinor : Fld := ⟨0xE0000, 7, 0⟩

/-! PWR_ID (R29) -/
def Reg.pwrIdBlock : Fld := ⟨0xF0000, 31, 16⟩
def Reg.pwrIdMajor : Fld := ⟨0xF0000, 15, 8⟩
def Reg.pwrIdMinor : Fld := ⟨0xF0000, 7, 0⟩

/-! SYS_VARIANT (R30) -/
def Reg.sysVariantBoardRev : Fld := ⟨0x00004, 15, 8⟩
def Reg.sysVariantVariant : Fld := ⟨0x00004, 7, 0⟩

/-! SYS_POSITION (R30) -/
def Reg.sysPositionSlotId : Fld := ⟨0x00008, 9, 4⟩
def Reg.sysPositionGroupId : Fld := ⟨0x00008, 3, 0⟩

/-! SYS_MODE (R30) -/
def Reg.sysModeTaint : Fld := ⟨0x0000C, 4, 4⟩
def Reg.sysModeSplit : Fld := ⟨0x0000C, 3, 3⟩
def Reg.sysModeRunNoTime : Fld := ⟨0x0000C, 2, 2⟩
def Reg.sysModeGroupKind : Fld := ⟨0x0000C, 1, 0⟩

/-! SYS_ROLE (R30) -/
def Reg.sysRolePubMaster : Fld := ⟨0x00010, 3, 3⟩
def Reg.sysRoleRole : Fld := ⟨0x00010, 2, 0⟩

/-! SYS_EVENT (R30) -/
def Reg.sysEventPosInvalid : Fld := ⟨0x00014, 3, 3⟩
def Reg.sysEventPosChange : Fld := ⟨0x00014, 2, 2⟩
def Reg.sysEventModeChange : Fld := ⟨0x00014, 1, 1⟩
def Reg.sysEventRoleChange : Fld := ⟨0x00014, 0, 0⟩

/-! SYS_EVENT_CNT (R30) -/
def Reg.sysEventCntInvalidCnt : Fld := ⟨0x00018, 31, 24⟩
def Reg.sysEventCntPosCnt : Fld := ⟨0x00018, 23, 16⟩
def Reg.sysEventCntModeCnt : Fld := ⟨0x00018, 15, 8⟩
def Reg.sysEventCntRoleCnt : Fld := ⟨0x00018, 7, 0⟩

/-! TIM_STATUS (R72) -/
def Reg.timStatusFault : Fld := ⟨0x10004, 31, 31⟩
def Reg.timStatusValid : Fld := ⟨0x10004, 30, 30⟩
def Reg.timStatusRunLock : Fld := ⟨0x10004, 29, 29⟩
def Reg.timStatusSlewing : Fld := ⟨0x10004, 28, 28⟩
def Reg.timStatusLeapKnown : Fld := ⟨0x10004, 27, 27⟩
def Reg.timStatusOcxoWarm : Fld := ⟨0x10004, 26, 26⟩
def Reg.timStatusTickRole : Fld := ⟨0x10004, 25, 24⟩
def Reg.timStatusSource : Fld := ⟨0x10004, 19, 16⟩
def Reg.timStatusClass : Fld := ⟨0x10004, 2, 0⟩

/-! TIM_EVENT (R72) -/
def Reg.timEventClassChange : Fld := ⟨0x10008, 7, 7⟩
def Reg.timEventSrcChange : Fld := ⟨0x10008, 6, 6⟩
def Reg.timEventRoleChange : Fld := ⟨0x10008, 5, 5⟩
def Reg.timEventStep : Fld := ⟨0x10008, 4, 4⟩
def Reg.timEventJump : Fld := ⟨0x10008, 3, 3⟩
def Reg.timEventDisagree : Fld := ⟨0x10008, 2, 2⟩
def Reg.timEventSyncMiss : Fld := ⟨0x10008, 1, 1⟩
def Reg.timEventOcxoFault : Fld := ⟨0x10008, 0, 0⟩

/-! TIM_EVENT_CNT0 (R72) -/
def Reg.timEventCnt0ClassCnt : Fld := ⟨0x1000C, 31, 24⟩
def Reg.timEventCnt0SrcCnt : Fld := ⟨0x1000C, 23, 16⟩
def Reg.timEventCnt0RoleCnt : Fld := ⟨0x1000C, 15, 8⟩
def Reg.timEventCnt0StepCnt : Fld := ⟨0x1000C, 7, 0⟩

/-! TIM_EVENT_CNT1 (R72) -/
def Reg.timEventCnt1JumpCnt : Fld := ⟨0x10010, 31, 24⟩
def Reg.timEventCnt1DisagreeCnt : Fld := ⟨0x10010, 23, 16⟩
def Reg.timEventCnt1SyncMissCnt : Fld := ⟨0x10010, 15, 8⟩
def Reg.timEventCnt1OcxoCnt : Fld := ⟨0x10010, 7, 0⟩

/-! TIM_NOW_NS (R72) -/
def Reg.timNowNsNs : Fld := ⟨0x10014, 31, 0⟩

/-! TIM_NOW_SEC_LO (R72) -/
def Reg.timNowSecLoSecLo : Fld := ⟨0x10018, 31, 0⟩

/-! TIM_NOW_SEC_HI (R72) -/
def Reg.timNowSecHiSecHi : Fld := ⟨0x1001C, 15, 0⟩

/-! TIM_FRAME (R72) -/
def Reg.timFrameK : Fld := ⟨0x10020, 11, 0⟩

/-! TIM_RATE_ADJ (R72) -/
def Reg.timRateAdjRate : Fld := ⟨0x10024, 31, 0⟩

/-! TIM_SLEW_REM (R72) -/
def Reg.timSlewRemRem : Fld := ⟨0x10028, 31, 0⟩

/-! TIM_EST_ERR (R72) -/
def Reg.timEstErrErr : Fld := ⟨0x1002C, 31, 0⟩

/-! TIM_OFFSET (R72) -/
def Reg.timOffsetOfs : Fld := ⟨0x10030, 31, 0⟩

/-! TIM_SYNC_PHASE (R72) -/
def Reg.timSyncPhasePhase : Fld := ⟨0x10034, 31, 0⟩

/-! TIM_HOLD_TIME (R72) -/
def Reg.timHoldTimeSec : Fld := ⟨0x10038, 31, 0⟩

/-! TIM_TAI_UTC (R72) -/
def Reg.timTaiUtcKnown : Fld := ⟨0x1003C, 31, 31⟩
def Reg.timTaiUtcLeap61 : Fld := ⟨0x1003C, 30, 30⟩
def Reg.timTaiUtcLeap59 : Fld := ⟨0x1003C, 29, 29⟩
def Reg.timTaiUtcOffset : Fld := ⟨0x1003C, 15, 0⟩

/-! TIM_ARB (R72) -/
def Reg.timArbMasterSlot : Fld := ⟨0x10040, 21, 16⟩
def Reg.timArbMasterPrio : Fld := ⟨0x10040, 15, 8⟩
def Reg.timArbOwnPrio : Fld := ⟨0x10040, 7, 0⟩

/-! TIM_SRCn (R72) -/
def Reg.timSrcAvailable (n : Nat) : Fld := ⟨0x10044 + 4 * n, 31, 31⟩
def Reg.timSrcLocked (n : Nat) : Fld := ⟨0x10044 + 4 * n, 30, 30⟩
def Reg.timSrcFine (n : Nat) : Fld := ⟨0x10044 + 4 * n, 29, 29⟩
def Reg.timSrcFault (n : Nat) : Fld := ⟨0x10044 + 4 * n, 28, 28⟩
def Reg.timSrcAgree (n : Nat) : Fld := ⟨0x10044 + 4 * n, 27, 27⟩
def Reg.timSrcPrio (n : Nat) : Fld := ⟨0x10044 + 4 * n, 2, 0⟩

/-! TIM_SRCn_OFS (R72) -/
def Reg.timSrcOfsOfs (n : Nat) : Fld := ⟨0x10060 + 4 * n, 31, 0⟩

/-! MBX_STATUS (R109) -/
def Reg.mbxStatusSessions : Fld := ⟨0x20004, 12, 8⟩
def Reg.mbxStatusSecSessions : Fld := ⟨0x20004, 1, 0⟩

/-! MBX_EVENT (R109) -/
def Reg.mbxEventClassLate : Fld := ⟨0x20008, 5, 5⟩
def Reg.mbxEventSegTimeout : Fld := ⟨0x20008, 4, 4⟩
def Reg.mbxEventAuthFail : Fld := ⟨0x20008, 3, 3⟩
def Reg.mbxEventRefused : Fld := ⟨0x20008, 2, 2⟩
def Reg.mbxEventMalformed : Fld := ⟨0x20008, 1, 1⟩
def Reg.mbxEventRingFault : Fld := ⟨0x20008, 0, 0⟩

/-! MBX_EVENT_CNT0 (R109) -/
def Reg.mbxEventCnt0ClassLateCnt : Fld := ⟨0x2000C, 31, 24⟩
def Reg.mbxEventCnt0SegTimeoutCnt : Fld := ⟨0x2000C, 23, 16⟩
def Reg.mbxEventCnt0AuthFailCnt : Fld := ⟨0x2000C, 15, 8⟩
def Reg.mbxEventCnt0RefusedCnt : Fld := ⟨0x2000C, 7, 0⟩

/-! MBX_EVENT_CNT1 (R109) -/
def Reg.mbxEventCnt1MalformedCnt : Fld := ⟨0x20010, 15, 8⟩
def Reg.mbxEventCnt1RingFaultCnt : Fld := ⟨0x20010, 7, 0⟩

/-! MBX_SESSn (R109) -/
def Reg.mbxSessOpen (n : Nat) : Fld := ⟨0x20100 + 4 * n, 31, 31⟩
def Reg.mbxSessSecure (n : Nat) : Fld := ⟨0x20100 + 4 * n, 30, 30⟩
def Reg.mbxSessPort (n : Nat) : Fld := ⟨0x20100 + 4 * n, 29, 27⟩
def Reg.mbxSessHeld (n : Nat) : Fld := ⟨0x20100 + 4 * n, 26, 22⟩
def Reg.mbxSessActive (n : Nat) : Fld := ⟨0x20100 + 4 * n, 21, 17⟩
def Reg.mbxSessOutstanding (n : Nat) : Fld := ⟨0x20100 + 4 * n, 16, 13⟩
def Reg.mbxSessDOutstanding (n : Nat) : Fld := ⟨0x20100 + 4 * n, 12, 11⟩

/-! RCB_BASE_LO (R110) -/
def Reg.rcbBaseLoBase (n : Nat) : Fld := ⟨0x21000 + 32 * n, 31, 6⟩

/-! RCB_BASE_HI (R110) -/
def Reg.rcbBaseHiBase32 (n : Nat) : Fld := ⟨0x21004 + 32 * n, 0, 0⟩

/-! RCB_CFG (R110) -/
def Reg.rcbCfgEnable (n : Nat) : Fld := ⟨0x21008 + 32 * n, 31, 31⟩
def Reg.rcbCfgDir (n : Nat) : Fld := ⟨0x21008 + 32 * n, 30, 30⟩
def Reg.rcbCfgSpace (n : Nat) : Fld := ⟨0x21008 + 32 * n, 29, 28⟩
def Reg.rcbCfgLog2Size (n : Nat) : Fld := ⟨0x21008 + 32 * n, 3, 0⟩

/-! RCB_PROD (R110) -/
def Reg.rcbProdProd (n : Nat) : Fld := ⟨0x2100C + 32 * n, 15, 0⟩

/-! RCB_CONS (R110) -/
def Reg.rcbConsCons (n : Nat) : Fld := ⟨0x21010 + 32 * n, 15, 0⟩

/-! RCB_DOORBELL (R110) -/
def Reg.rcbDoorbellNewProd (n : Nat) : Fld := ⟨0x21014 + 32 * n, 15, 0⟩

/-! RCB_MOD (R110) -/
def Reg.rcbModTimeUs (n : Nat) : Fld := ⟨0x21018 + 32 * n, 31, 16⟩
def Reg.rcbModCount (n : Nat) : Fld := ⟨0x21018 + 32 * n, 11, 0⟩

/-! RCB_EVENT (R110) -/
def Reg.rcbEventOvfCnt (n : Nat) : Fld := ⟨0x2101C + 32 * n, 31, 24⟩
def Reg.rcbEventRejectCnt (n : Nat) : Fld := ⟨0x2101C + 32 * n, 23, 16⟩
def Reg.rcbEventMalfCnt (n : Nat) : Fld := ⟨0x2101C + 32 * n, 15, 8⟩
def Reg.rcbEventReject (n : Nat) : Fld := ⟨0x2101C + 32 * n, 2, 2⟩
def Reg.rcbEventOverflow (n : Nat) : Fld := ⟨0x2101C + 32 * n, 1, 1⟩
def Reg.rcbEventBadDesc (n : Nat) : Fld := ⟨0x2101C + 32 * n, 0, 0⟩

/-! AST_STATUS (R216) -/
def Reg.astStatusAligned : Fld := ⟨0x30004, 20, 16⟩
def Reg.astStatusRefsValid : Fld := ⟨0x30004, 15, 8⟩
def Reg.astStatusF060 : Fld := ⟨0x30004, 1, 1⟩
def Reg.astStatusActive : Fld := ⟨0x30004, 0, 0⟩

/-! AST_EVENT (R216) -/
def Reg.astEventConfigApplied : Fld := ⟨0x30008, 7, 7⟩
def Reg.astEventStreamLost : Fld := ⟨0x30008, 6, 6⟩
def Reg.astEventStreamAligned : Fld := ⟨0x30008, 5, 5⟩
def Reg.astEventStreamReject : Fld := ⟨0x30008, 4, 4⟩
def Reg.astEventFreqOor : Fld := ⟨0x30008, 3, 3⟩
def Reg.astEventLate : Fld := ⟨0x30008, 2, 2⟩
def Reg.astEventUnsync : Fld := ⟨0x30008, 1, 1⟩
def Reg.astEventProcLate : Fld := ⟨0x30008, 0, 0⟩

/-! AST_EVENT_CNT0 (R216) -/
def Reg.astEventCnt0ConfigCnt : Fld := ⟨0x3000C, 31, 24⟩
def Reg.astEventCnt0LostCnt : Fld := ⟨0x3000C, 23, 16⟩
def Reg.astEventCnt0AlignedCnt : Fld := ⟨0x3000C, 15, 8⟩
def Reg.astEventCnt0RejectCnt : Fld := ⟨0x3000C, 7, 0⟩

/-! AST_EVENT_CNT1 (R216) -/
def Reg.astEventCnt1FreqOorCnt : Fld := ⟨0x30010, 31, 24⟩
def Reg.astEventCnt1LateCnt : Fld := ⟨0x30010, 23, 16⟩
def Reg.astEventCnt1UnsyncCnt : Fld := ⟨0x30010, 15, 8⟩
def Reg.astEventCnt1ProcLateCnt : Fld := ⟨0x30010, 7, 0⟩

/-! AST_CFG_REV (R216) -/
def Reg.astCfgRevRev : Fld := ⟨0x30014, 31, 0⟩

/-! AST_REFr_FREQ (R216) -/
def Reg.astRefFreqDf (n : Nat) : Fld := ⟨0x30280 + 4 * n, 31, 0⟩

/-! AST_REFr_ROCOF (R216) -/
def Reg.astRefRocofRf (n : Nat) : Fld := ⟨0x302A0 + 4 * n, 31, 0⟩

/-! AST_STRn (R216) -/
def Reg.astStrState (n : Nat) : Fld := ⟨0x30100 + 4 * n, 31, 30⟩
def Reg.astStrSync (n : Nat) : Fld := ⟨0x30100 + 4 * n, 29, 28⟩
def Reg.astStrSim (n : Nat) : Fld := ⟨0x30100 + 4 * n, 27, 27⟩
def Reg.astStrQty (n : Nat) : Fld := ⟨0x30100 + 4 * n, 19, 16⟩
def Reg.astStrLastSmpcnt (n : Nat) : Fld := ⟨0x30100 + 4 * n, 15, 0⟩

/-! AST_STRn_ERR (R216) -/
def Reg.astStrErrLateCnt (n : Nat) : Fld := ⟨0x30180 + 4 * n, 31, 24⟩
def Reg.astStrErrEarlyCnt (n : Nat) : Fld := ⟨0x30180 + 4 * n, 23, 16⟩
def Reg.astStrErrGapCnt (n : Nat) : Fld := ⟨0x30180 + 4 * n, 15, 8⟩
def Reg.astStrErrRejectCnt (n : Nat) : Fld := ⟨0x30180 + 4 * n, 7, 0⟩

/-! AST_STRn_TRANSIT (R216) -/
def Reg.astStrTransitMaxUs (n : Nat) : Fld := ⟨0x30200 + 4 * n, 31, 16⟩
def Reg.astStrTransitLastUs (n : Nat) : Fld := ⟨0x30200 + 4 * n, 15, 0⟩

/-! AST_REFr_STATE (R216) -/
def Reg.astRefStateValid (n : Nat) : Fld := ⟨0x302C0 + 4 * n, 31, 31⟩
def Reg.astRefStateOor (n : Nat) : Fld := ⟨0x302C0 + 4 * n, 30, 30⟩
def Reg.astRefStateFallback (n : Nat) : Fld := ⟨0x302C0 + 4 * n, 29, 29⟩
def Reg.astRefStateSettling (n : Nat) : Fld := ⟨0x302C0 + 4 * n, 28, 28⟩
def Reg.astRefStateAge (n : Nat) : Fld := ⟨0x302C0 + 4 * n, 15, 0⟩

/-! AST_PMUn (R216) -/
def Reg.astPmuOn (n : Nat) : Fld := ⟨0x30300 + 4 * n, 31, 31⟩
def Reg.astPmuSending (n : Nat) : Fld := ⟨0x30300 + 4 * n, 30, 30⟩
def Reg.astPmuOutsideTested (n : Nat) : Fld := ⟨0x30300 + 4 * n, 29, 29⟩
def Reg.astPmuNoMacsec (n : Nat) : Fld := ⟨0x30300 + 4 * n, 28, 28⟩
def Reg.astPmuClients (n : Nat) : Fld := ⟨0x30300 + 4 * n, 18, 16⟩
def Reg.astPmuDropped (n : Nat) : Fld := ⟨0x30300 + 4 * n, 15, 0⟩

/-! LSP_STATUS (R252) -/
def Reg.lspStatusLocked : Fld := ⟨0x40004, 19, 8⟩
def Reg.lspStatusArmed : Fld := ⟨0x40004, 7, 4⟩
def Reg.lspStatusCalibrating : Fld := ⟨0x40004, 3, 3⟩
def Reg.lspStatusPublishing : Fld := ⟨0x40004, 2, 2⟩
def Reg.lspStatusClkDrive : Fld := ⟨0x40004, 1, 1⟩
def Reg.lspStatusActive : Fld := ⟨0x40004, 0, 0⟩

/-! LSP_EVENT (R252) -/
def Reg.lspEventConfigApplied : Fld := ⟨0x40008, 7, 7⟩
def Reg.lspEventLaneLost : Fld := ⟨0x40008, 6, 6⟩
def Reg.lspEventLaneErr : Fld := ⟨0x40008, 5, 5⟩
def Reg.lspEventWavefront : Fld := ⟨0x40008, 4, 4⟩
def Reg.lspEventNoRemote : Fld := ⟨0x40008, 3, 3⟩
def Reg.lspEventRemoteReject : Fld := ⟨0x40008, 2, 2⟩
def Reg.lspEventRecordDrop : Fld := ⟨0x40008, 1, 1⟩
def Reg.lspEventCalFail : Fld := ⟨0x40008, 0, 0⟩

/-! LSP_EVENT_CNT0 (R252) -/
def Reg.lspEventCnt0ConfigCnt : Fld := ⟨0x4000C, 31, 24⟩
def Reg.lspEventCnt0LaneLostCnt : Fld := ⟨0x4000C, 23, 16⟩
def Reg.lspEventCnt0LaneErrCnt : Fld := ⟨0x4000C, 15, 8⟩
def Reg.lspEventCnt0WavefrontCnt : Fld := ⟨0x4000C, 7, 0⟩

/-! LSP_EVENT_CNT1 (R252) -/
def Reg.lspEventCnt1NoRemoteCnt : Fld := ⟨0x40010, 31, 24⟩
def Reg.lspEventCnt1RejectCnt : Fld := ⟨0x40010, 23, 16⟩
def Reg.lspEventCnt1DropCnt : Fld := ⟨0x40010, 15, 8⟩
def Reg.lspEventCnt1CalFailCnt : Fld := ⟨0x40010, 7, 0⟩

/-! LSP_CFG_REV (R252) -/
def Reg.lspCfgRevRev : Fld := ⟨0x40014, 31, 0⟩

/-! LSP_LAST_SEQ (R252) -/
def Reg.lspLastSeqSeq : Fld := ⟨0x40018, 31, 0⟩

/-! LSP_REC (R252) -/
def Reg.lspRecPending : Fld := ⟨0x4001C, 23, 16⟩
def Reg.lspRecStored : Fld := ⟨0x4001C, 15, 0⟩

/-! LSP_LANEn (R252) -/
def Reg.lspLaneState (n : Nat) : Fld := ⟨0x40100 + 4 * n, 31, 30⟩
def Reg.lspLaneOvr (n : Nat) : Fld := ⟨0x40100 + 4 * n, 29, 29⟩
def Reg.lspLaneFeFault (n : Nat) : Fld := ⟨0x40100 + 4 * n, 28, 28⟩
def Reg.lspLaneTest (n : Nat) : Fld := ⟨0x40100 + 4 * n, 27, 27⟩
def Reg.lspLaneCalValid (n : Nat) : Fld := ⟨0x40100 + 4 * n, 26, 26⟩
def Reg.lspLaneLastPairs (n : Nat) : Fld := ⟨0x40100 + 4 * n, 11, 0⟩

/-! LSP_LANEn_ERR (R252) -/
def Reg.lspLaneErrCodeCnt (n : Nat) : Fld := ⟨0x40140 + 4 * n, 31, 24⟩
def Reg.lspLaneErrParityCnt (n : Nat) : Fld := ⟨0x40140 + 4 * n, 23, 16⟩
def Reg.lspLaneErrMarkCnt (n : Nat) : Fld := ⟨0x40140 + 4 * n, 15, 8⟩
def Reg.lspLaneErrInvalidCnt (n : Nat) : Fld := ⟨0x40140 + 4 * n, 7, 0⟩

/-! LSP_GRPg (R252) -/
def Reg.lspGrpArmed (n : Nat) : Fld := ⟨0x40200 + 4 * n, 31, 31⟩
def Reg.lspGrpEventOpen (n : Nat) : Fld := ⟨0x40200 + 4 * n, 30, 30⟩
def Reg.lspGrpDirLast (n : Nat) : Fld := ⟨0x40200 + 4 * n, 29, 28⟩
def Reg.lspGrpSigma (n : Nat) : Fld := ⟨0x40200 + 4 * n, 23, 0⟩

/-! LSP_GRPg_THR (R252) -/
def Reg.lspGrpThrThr (n : Nat) : Fld := ⟨0x40210 + 4 * n, 31, 0⟩

/-! LSP_SUBi (R252) -/
def Reg.lspSubEnabled (n : Nat) : Fld := ⟨0x40280 + 4 * n, 31, 31⟩
def Reg.lspSubAlive (n : Nat) : Fld := ⟨0x40280 + 4 * n, 30, 30⟩
def Reg.lspSubAuthFail (n : Nat) : Fld := ⟨0x40280 + 4 * n, 29, 29⟩
def Reg.lspSubReports (n : Nat) : Fld := ⟨0x40280 + 4 * n, 15, 0⟩

/-! NET_STATUS (R281) -/
def Reg.netStatusPair1Mode : Fld := ⟨0x50004, 19, 18⟩
def Reg.netStatusPair0Mode : Fld := ⟨0x50004, 17, 16⟩
def Reg.netStatusMacsecUp : Fld := ⟨0x50004, 15, 12⟩
def Reg.netStatusSpeed10 : Fld := ⟨0x50004, 11, 8⟩
def Reg.netStatusSvcLink : Fld := ⟨0x50004, 4, 4⟩
def Reg.netStatusLink : Fld := ⟨0x50004, 3, 0⟩

/-! NET_EVENT (R281) -/
def Reg.netEventConfigApplied : Fld := ⟨0x50008, 7, 7⟩
def Reg.netEventStationChange : Fld := ⟨0x50008, 6, 6⟩
def Reg.netEventAuthFail : Fld := ⟨0x50008, 5, 5⟩
def Reg.netEventMacsecDown : Fld := ⟨0x50008, 4, 4⟩
def Reg.netEventWrongLan : Fld := ⟨0x50008, 3, 3⟩
def Reg.netEventSubReject : Fld := ⟨0x50008, 2, 2⟩
def Reg.netEventTxLate : Fld := ⟨0x50008, 1, 1⟩
def Reg.netEventLinkChange : Fld := ⟨0x50008, 0, 0⟩

/-! NET_EVENT_CNT0 (R281) -/
def Reg.netEventCnt0ConfigCnt : Fld := ⟨0x5000C, 31, 24⟩
def Reg.netEventCnt0StationCnt : Fld := ⟨0x5000C, 23, 16⟩
def Reg.netEventCnt0AuthCnt : Fld := ⟨0x5000C, 15, 8⟩
def Reg.netEventCnt0TxLateCnt : Fld := ⟨0x5000C, 7, 0⟩

/-! NET_EVENT_CNT1 (R281) -/
def Reg.netEventCnt1MacsecCnt : Fld := ⟨0x50010, 31, 24⟩
def Reg.netEventCnt1WrongLanCnt : Fld := ⟨0x50010, 23, 16⟩
def Reg.netEventCnt1SubRejectCnt : Fld := ⟨0x50010, 15, 8⟩
def Reg.netEventCnt1LinkCnt : Fld := ⟨0x50010, 7, 0⟩

/-! NET_STA_DROP_LO (R281) -/
def Reg.netStaDropLoDropLo : Fld := ⟨0x50014, 31, 0⟩

/-! NET_STA_DROP_HI (R281) -/
def Reg.netStaDropHiDropHi : Fld := ⟨0x50018, 31, 0⟩

/-! NET_CFG_REV (R281) -/
def Reg.netCfgRevRev : Fld := ⟨0x5001C, 31, 0⟩

/-! NET_GPUBj_ST (R281) -/
def Reg.netGpubStStnum (n : Nat) : Fld := ⟨0x50480 + 4 * n, 31, 0⟩

/-! NET_PORTn (R281) -/
def Reg.netPortLink (n : Nat) : Fld := ⟨0x50100 + 4 * n, 31, 31⟩
def Reg.netPortEnabled (n : Nat) : Fld := ⟨0x50100 + 4 * n, 30, 30⟩
def Reg.netPortRole (n : Nat) : Fld := ⟨0x50100 + 4 * n, 29, 28⟩
def Reg.netPortSpeed (n : Nat) : Fld := ⟨0x50100 + 4 * n, 27, 26⟩
def Reg.netPortSfpPresent (n : Nat) : Fld := ⟨0x50100 + 4 * n, 25, 25⟩
def Reg.netPortSfpFault (n : Nat) : Fld := ⟨0x50100 + 4 * n, 24, 24⟩
def Reg.netPortMacsecUp (n : Nat) : Fld := ⟨0x50100 + 4 * n, 23, 23⟩
def Reg.netPortMgmt (n : Nat) : Fld := ⟨0x50100 + 4 * n, 22, 22⟩
def Reg.netPortMms (n : Nat) : Fld := ⟨0x50100 + 4 * n, 21, 21⟩

/-! NET_PORTn_RX (R281) -/
def Reg.netPortRxCrcCnt (n : Nat) : Fld := ⟨0x50120 + 4 * n, 31, 24⟩
def Reg.netPortRxOversizeCnt (n : Nat) : Fld := ⟨0x50120 + 4 * n, 23, 16⟩
def Reg.netPortRxDropCnt (n : Nat) : Fld := ⟨0x50120 + 4 * n, 15, 8⟩
def Reg.netPortRxAuthCnt (n : Nat) : Fld := ⟨0x50120 + 4 * n, 7, 0⟩

/-! NET_PORTn_TX (R281) -/
def Reg.netPortTxLateCnt (n : Nat) : Fld := ⟨0x50140 + 4 * n, 31, 24⟩
def Reg.netPortTxDropCnt (n : Nat) : Fld := ⟨0x50140 + 4 * n, 23, 16⟩

/-! NET_REDp (R281) -/
def Reg.netRedWrongLanCnt (n : Nat) : Fld := ⟨0x50180 + 4 * n, 31, 24⟩
def Reg.netRedMissACnt (n : Nat) : Fld := ⟨0x50180 + 4 * n, 23, 16⟩
def Reg.netRedMissBCnt (n : Nat) : Fld := ⟨0x50180 + 4 * n, 15, 8⟩

/-! NET_REDp_NODES (R281) -/
def Reg.netRedNodesNodes (n : Nat) : Fld := ⟨0x50188 + 4 * n, 9, 0⟩

/-! NET_GSUBi (R281) -/
def Reg.netGsubEnabled (n : Nat) : Fld := ⟨0x50200 + 4 * n, 31, 31⟩
def Reg.netGsubAlive (n : Nat) : Fld := ⟨0x50200 + 4 * n, 30, 30⟩
def Reg.netGsubSim (n : Nat) : Fld := ⟨0x50200 + 4 * n, 29, 29⟩
def Reg.netGsubTest (n : Nat) : Fld := ⟨0x50200 + 4 * n, 28, 28⟩
def Reg.netGsubNdsCom (n : Nat) : Fld := ⟨0x50200 + 4 * n, 27, 27⟩
def Reg.netGsubAuthFail (n : Nat) : Fld := ⟨0x50200 + 4 * n, 26, 26⟩
def Reg.netGsubSeqAnomCnt (n : Nat) : Fld := ⟨0x50200 + 4 * n, 23, 16⟩
def Reg.netGsubRejectCnt (n : Nat) : Fld := ⟨0x50200 + 4 * n, 15, 8⟩

/-! NET_GPUBj (R281) -/
def Reg.netGpubEnabled (n : Nat) : Fld := ⟨0x50400 + 4 * n, 31, 31⟩
def Reg.netGpubSending (n : Nat) : Fld := ⟨0x50400 + 4 * n, 30, 30⟩
def Reg.netGpubDiscarding (n : Nat) : Fld := ⟨0x50400 + 4 * n, 29, 29⟩
def Reg.netGpubTxFrames (n : Nat) : Fld := ⟨0x50400 + 4 * n, 15, 0⟩

/-! FIO_STATUS (R311) -/
def Reg.fioStatusDioFault : Fld := ⟨0x60004, 31, 31⟩
def Reg.fioStatusFldLow : Fld := ⟨0x60004, 30, 30⟩
def Reg.fioStatusLockout : Fld := ⟨0x60004, 29, 29⟩
def Reg.fioStatusDrive : Fld := ⟨0x60004, 28, 28⟩
def Reg.fioStatusAoReg : Fld := ⟨0x60004, 27, 27⟩

/-! FIO_EVENT (R311) -/
def Reg.fioEventConfigApplied : Fld := ⟨0x60008, 7, 7⟩
def Reg.fioEventLockout : Fld := ⟨0x60008, 6, 6⟩
def Reg.fioEventFldLow : Fld := ⟨0x60008, 5, 5⟩
def Reg.fioEventAoSense : Fld := ⟨0x60008, 4, 4⟩
def Reg.fioEventAoOvertemp : Fld := ⟨0x60008, 3, 3⟩
def Reg.fioEventAoCompliance : Fld := ⟨0x60008, 2, 2⟩
def Reg.fioEventAoOpen : Fld := ⟨0x60008, 1, 1⟩
def Reg.fioEventAiFail : Fld := ⟨0x60008, 0, 0⟩

/-! FIO_EVENT_CNT0 (R311) -/
def Reg.fioEventCnt0ConfigCnt : Fld := ⟨0x6000C, 31, 24⟩
def Reg.fioEventCnt0LockoutCnt : Fld := ⟨0x6000C, 23, 16⟩
def Reg.fioEventCnt0FldLowCnt : Fld := ⟨0x6000C, 15, 8⟩
def Reg.fioEventCnt0SenseCnt : Fld := ⟨0x6000C, 7, 0⟩

/-! FIO_EVENT_CNT1 (R311) -/
def Reg.fioEventCnt1OvertempCnt : Fld := ⟨0x60010, 31, 24⟩
def Reg.fioEventCnt1ComplianceCnt : Fld := ⟨0x60010, 23, 16⟩
def Reg.fioEventCnt1OpenCnt : Fld := ⟨0x60010, 15, 8⟩
def Reg.fioEventCnt1AiFailCnt : Fld := ⟨0x60010, 7, 0⟩

/-! FIO_EVENT_CNT2 (R311) -/
def Reg.fioEventCnt2DioCnt : Fld := ⟨0x60014, 7, 0⟩

/-! FIO_DI (R311) -/
def Reg.fioDiRaw : Fld := ⟨0x60018, 31, 16⟩
def Reg.fioDiState : Fld := ⟨0x60018, 15, 0⟩

/-! FIO_DO (R311) -/
def Reg.fioDoCmd : Fld := ⟨0x6001C, 23, 16⟩
def Reg.fioDoDrive : Fld := ⟨0x6001C, 15, 8⟩
def Reg.fioDoRb : Fld := ⟨0x6001C, 7, 0⟩

/-! FIO_FLD24 (R311) -/
def Reg.fioFld24Mv : Fld := ⟨0x60020, 15, 0⟩

/-! FIO_CFG_REV (R311) -/
def Reg.fioCfgRevRev : Fld := ⟨0x60024, 31, 0⟩

/-! FIO_FLD24_MIN (R311) -/
def Reg.fioFld24MinMinMv : Fld := ⟨0x60028, 15, 0⟩

/-! FIO_AIn (R311) -/
def Reg.fioAiLimit (n : Nat) : Fld := ⟨0x60040 + 4 * n, 31, 31⟩
def Reg.fioAiClass (n : Nat) : Fld := ⟨0x60040 + 4 * n, 30, 28⟩
def Reg.fioAiI (n : Nat) : Fld := ⟨0x60040 + 4 * n, 23, 0⟩

/-! FIO_AOn (R311) -/
def Reg.fioAoOpen (n : Nat) : Fld := ⟨0x60050 + 4 * n, 31, 31⟩
def Reg.fioAoCompliance (n : Nat) : Fld := ⟨0x60050 + 4 * n, 30, 30⟩
def Reg.fioAoOvertemp (n : Nat) : Fld := ⟨0x60050 + 4 * n, 29, 29⟩
def Reg.fioAoSenseFault (n : Nat) : Fld := ⟨0x60050 + 4 * n, 28, 28⟩
def Reg.fioAoRegulating (n : Nat) : Fld := ⟨0x60050 + 4 * n, 27, 27⟩
def Reg.fioAoI (n : Nat) : Fld := ⟨0x60050 + 4 * n, 23, 0⟩

/-! FIO_AOn_SET (R311) -/
def Reg.fioAoSetSet (n : Nat) : Fld := ⟨0x60060 + 4 * n, 23, 0⟩

/-! CAN_STATUS (R334) -/
def Reg.canStatusNormal1 : Fld := ⟨0x70004, 3, 3⟩
def Reg.canStatusNormal0 : Fld := ⟨0x70004, 2, 2⟩
def Reg.canStatusEnabled1 : Fld := ⟨0x70004, 1, 1⟩
def Reg.canStatusEnabled0 : Fld := ⟨0x70004, 0, 0⟩

/-! CAN_EVENT (R334) -/
def Reg.canEventConfigApplied : Fld := ⟨0x70008, 8, 8⟩
def Reg.canEventBusOff1 : Fld := ⟨0x70008, 7, 7⟩
def Reg.canEventPassive1 : Fld := ⟨0x70008, 6, 6⟩
def Reg.canEventTxFail1 : Fld := ⟨0x70008, 5, 5⟩
def Reg.canEventPex1 : Fld := ⟨0x70008, 4, 4⟩
def Reg.canEventBusOff0 : Fld := ⟨0x70008, 3, 3⟩
def Reg.canEventPassive0 : Fld := ⟨0x70008, 2, 2⟩
def Reg.canEventTxFail0 : Fld := ⟨0x70008, 1, 1⟩
def Reg.canEventPex0 : Fld := ⟨0x70008, 0, 0⟩

/-! CAN_EVENT_CNT0 (R334) -/
def Reg.canEventCnt0BusOffCnt : Fld := ⟨0x7000C, 31, 24⟩
def Reg.canEventCnt0PassiveCnt : Fld := ⟨0x7000C, 23, 16⟩
def Reg.canEventCnt0TxFailCnt : Fld := ⟨0x7000C, 15, 8⟩
def Reg.canEventCnt0PexCnt : Fld := ⟨0x7000C, 7, 0⟩

/-! CAN_EVENT_CNT1 (R334) -/
def Reg.canEventCnt1BusOffCnt : Fld := ⟨0x70010, 31, 24⟩
def Reg.canEventCnt1PassiveCnt : Fld := ⟨0x70010, 23, 16⟩
def Reg.canEventCnt1TxFailCnt : Fld := ⟨0x70010, 15, 8⟩
def Reg.canEventCnt1PexCnt : Fld := ⟨0x70010, 7, 0⟩

/-! CAN_CTRLc (R334) -/
def Reg.canCtrlState (n : Nat) : Fld := ⟨0x70020 + 4 * n, 31, 30⟩
def Reg.canCtrlWarn (n : Nat) : Fld := ⟨0x70020 + 4 * n, 29, 29⟩
def Reg.canCtrlFd (n : Nat) : Fld := ⟨0x70020 + 4 * n, 28, 28⟩
def Reg.canCtrlTec (n : Nat) : Fld := ⟨0x70020 + 4 * n, 26, 18⟩
def Reg.canCtrlRec (n : Nat) : Fld := ⟨0x70020 + 4 * n, 17, 9⟩
def Reg.canCtrlRecov (n : Nat) : Fld := ⟨0x70020 + 4 * n, 8, 0⟩

/-! CAN_CTRLc_ERR (R334) -/
def Reg.canCtrlErrBitCnt (n : Nat) : Fld := ⟨0x70028 + 4 * n, 31, 24⟩
def Reg.canCtrlErrStuffCnt (n : Nat) : Fld := ⟨0x70028 + 4 * n, 23, 16⟩
def Reg.canCtrlErrFormCnt (n : Nat) : Fld := ⟨0x70028 + 4 * n, 15, 8⟩
def Reg.canCtrlErrAckCnt (n : Nat) : Fld := ⟨0x70028 + 4 * n, 7, 0⟩

/-! CAN_CTRLc_CNT (R334) -/
def Reg.canCtrlCntCrcCnt (n : Nat) : Fld := ⟨0x70030 + 4 * n, 31, 24⟩
def Reg.canCtrlCntArbLostCnt (n : Nat) : Fld := ⟨0x70030 + 4 * n, 23, 16⟩
def Reg.canCtrlCntRxFrames (n : Nat) : Fld := ⟨0x70030 + 4 * n, 15, 0⟩

/-! CAN_CTRLc_LOG (R334) -/
def Reg.canCtrlLogLastSeq (n : Nat) : Fld := ⟨0x70038 + 4 * n, 31, 0⟩

/-! HHK_PAIR_STATUS (R367) -/
def Reg.hhkPairStatusOwnLine : Fld := ⟨0x80800, 31, 31⟩
def Reg.hhkPairStatusOwnHeld : Fld := ⟨0x80800, 30, 30⟩
def Reg.hhkPairStatusArmed : Fld := ⟨0x80800, 29, 29⟩
def Reg.hhkPairStatusPairOkAlive : Fld := ⟨0x80800, 28, 28⟩
def Reg.hhkPairStatusKillOut : Fld := ⟨0x80800, 27, 27⟩
def Reg.hhkPairStatusKillIn : Fld := ⟨0x80800, 26, 26⟩
def Reg.hhkPairStatusHhkUp : Fld := ⟨0x80800, 25, 24⟩
def Reg.hhkPairStatusSelfSnap : Fld := ⟨0x80800, 23, 23⟩
def Reg.hhkPairStatusRank : Fld := ⟨0x80800, 22, 21⟩
def Reg.hhkPairStatusPeerRole : Fld := ⟨0x80800, 20, 18⟩

/-! HHK_PAIR_EVENT (R367) -/
def Reg.hhkPairEventTakeover : Fld := ⟨0x80804, 7, 7⟩
def Reg.hhkPairEventHandover : Fld := ⟨0x80804, 6, 6⟩
def Reg.hhkPairEventMismatch : Fld := ⟨0x80804, 5, 5⟩
def Reg.hhkPairEventSelfSnapshot : Fld := ⟨0x80804, 4, 4⟩
def Reg.hhkPairEventPairLine : Fld := ⟨0x80804, 3, 3⟩
def Reg.hhkPairEventHhkLost : Fld := ⟨0x80804, 2, 2⟩
def Reg.hhkPairEventOwnFault : Fld := ⟨0x80804, 1, 1⟩
def Reg.hhkPairEventKilled : Fld := ⟨0x80804, 0, 0⟩

/-! HHK_PAIR_EVENT_CNT0 (R367) -/
def Reg.hhkPairEventCnt0TakeoverCnt : Fld := ⟨0x80808, 31, 24⟩
def Reg.hhkPairEventCnt0HandoverCnt : Fld := ⟨0x80808, 23, 16⟩
def Reg.hhkPairEventCnt0MismatchCnt : Fld := ⟨0x80808, 15, 8⟩
def Reg.hhkPairEventCnt0SelfCnt : Fld := ⟨0x80808, 7, 0⟩

/-! HHK_PAIR_EVENT_CNT1 (R367) -/
def Reg.hhkPairEventCnt1PairLineCnt : Fld := ⟨0x8080C, 31, 24⟩
def Reg.hhkPairEventCnt1HhkLostCnt : Fld := ⟨0x8080C, 23, 16⟩
def Reg.hhkPairEventCnt1OwnFaultCnt : Fld := ⟨0x8080C, 15, 8⟩
def Reg.hhkPairEventCnt1KilledCnt : Fld := ⟨0x8080C, 7, 0⟩

/-! HHK_PAIR_GAP (R367) -/
def Reg.hhkPairGapMaxNs : Fld := ⟨0x80810, 31, 16⟩
def Reg.hhkPairGapLastNs : Fld := ⟨0x80810, 15, 0⟩

/-! HHK_PAIR_SIGMISS (R367) -/
def Reg.hhkPairSigmissCnt : Fld := ⟨0x80814, 31, 0⟩

/-! HHK_PAIR_RESYNC (R367) -/
def Reg.hhkPairResyncPhase : Fld := ⟨0x80818, 31, 30⟩
def Reg.hhkPairResyncKibLeft : Fld := ⟨0x80818, 15, 0⟩

/-! HHK_PAIR_CKPTn (R367) -/
def Reg.hhkPairCkptValid (n : Nat) : Fld := ⟨0x80820 + 4 * n, 31, 31⟩
def Reg.hhkPairCkptRunning (n : Nat) : Fld := ⟨0x80820 + 4 * n, 30, 30⟩
def Reg.hhkPairCkptAgeMs (n : Nat) : Fld := ⟨0x80820 + 4 * n, 15, 0⟩

/-! HHK_STATUS (R391) -/
def Reg.hhkStatusLaneUp : Fld := ⟨0x80004, 31, 28⟩
def Reg.hhkStatusDegraded : Fld := ⟨0x80004, 27, 26⟩
def Reg.hhkStatusKeyOk : Fld := ⟨0x80004, 25, 24⟩
def Reg.hhkStatusKeyEpoch : Fld := ⟨0x80004, 15, 0⟩

/-! HHK_EVENT (R391) -/
def Reg.hhkEventMinority : Fld := ⟨0x80008, 7, 7⟩
def Reg.hhkEventPartial : Fld := ⟨0x80008, 6, 6⟩
def Reg.hhkEventDelayJump : Fld := ⟨0x80008, 5, 5⟩
def Reg.hhkEventMiswire : Fld := ⟨0x80008, 4, 4⟩
def Reg.hhkEventReplay : Fld := ⟨0x80008, 3, 3⟩
def Reg.hhkEventAuthFail : Fld := ⟨0x80008, 2, 2⟩
def Reg.hhkEventLaneBack : Fld := ⟨0x80008, 1, 1⟩
def Reg.hhkEventLaneLost : Fld := ⟨0x80008, 0, 0⟩

/-! HHK_EVENT_CNT0 (R391) -/
def Reg.hhkEventCnt0MinorityCnt : Fld := ⟨0x8000C, 31, 24⟩
def Reg.hhkEventCnt0PartialCnt : Fld := ⟨0x8000C, 23, 16⟩
def Reg.hhkEventCnt0DelayJumpCnt : Fld := ⟨0x8000C, 15, 8⟩
def Reg.hhkEventCnt0LaneBackCnt : Fld := ⟨0x8000C, 7, 0⟩

/-! HHK_EVENT_CNT1 (R391) -/
def Reg.hhkEventCnt1MiswireCnt : Fld := ⟨0x80010, 31, 24⟩
def Reg.hhkEventCnt1ReplayCnt : Fld := ⟨0x80010, 23, 16⟩
def Reg.hhkEventCnt1AuthFailCnt : Fld := ⟨0x80010, 15, 8⟩
def Reg.hhkEventCnt1LaneLostCnt : Fld := ⟨0x80010, 7, 0⟩

/-! HHKp_LINK (R391) -/
def Reg.hhkpLinkLane0State (n : Nat) : Fld := ⟨0x80100 + 16 * n, 31, 29⟩
def Reg.hhkpLinkLane1State (n : Nat) : Fld := ⟨0x80100 + 16 * n, 28, 26⟩
def Reg.hhkpLinkPeerSlot (n : Nat) : Fld := ⟨0x80100 + 16 * n, 25, 20⟩
def Reg.hhkpLinkPeerRank (n : Nat) : Fld := ⟨0x80100 + 16 * n, 19, 18⟩

/-! HHKp_ERR (R391) -/
def Reg.hhkpErrBlockErrCnt (n : Nat) : Fld := ⟨0x80104 + 16 * n, 31, 24⟩
def Reg.hhkpErrAuthCnt (n : Nat) : Fld := ⟨0x80104 + 16 * n, 23, 16⟩
def Reg.hhkpErrLostFrameCnt (n : Nat) : Fld := ⟨0x80104 + 16 * n, 15, 8⟩
def Reg.hhkpErrRelayCnt (n : Nat) : Fld := ⟨0x80104 + 16 * n, 7, 0⟩

/-! HHKp_DELAY (R391) -/
def Reg.hhkpDelayDelayPs (n : Nat) : Fld := ⟨0x80108 + 16 * n, 31, 0⟩

/-! HHKp_OFFSET (R391) -/
def Reg.hhkpOffsetOffsetPs (n : Nat) : Fld := ⟨0x8010C + 16 * n, 31, 0⟩

/-! HHK_TRIAD (R391) -/
def Reg.hhkTriadHeld : Fld := ⟨0x80200, 31, 29⟩
def Reg.hhkTriadInStep : Fld := ⟨0x80200, 28, 26⟩
def Reg.hhkTriadMasterRank : Fld := ⟨0x80200, 25, 24⟩

/-! HHK_AGREE (R391) -/
def Reg.hhkAgreeDiffCnt : Fld := ⟨0x80204, 31, 16⟩
def Reg.hhkAgreePendingCnt : Fld := ⟨0x80204, 15, 0⟩

/-! LCK_STATUS (R411) -/
def Reg.lckStatusGuarantee : Fld := ⟨0x90004, 31, 31⟩
def Reg.lckStatusTaint : Fld := ⟨0x90004, 30, 30⟩
def Reg.lckStatusSplit : Fld := ⟨0x90004, 29, 29⟩
def Reg.lckStatusDiagOff : Fld := ⟨0x90004, 28, 28⟩
def Reg.lckStatusReleased : Fld := ⟨0x90004, 27, 27⟩
def Reg.lckStatusGrouped : Fld := ⟨0x90004, 26, 26⟩
def Reg.lckStatusComparing : Fld := ⟨0x90004, 15, 0⟩

/-! LCK_EVENT (R411) -/
def Reg.lckEventTaint : Fld := ⟨0x90008, 7, 7⟩
def Reg.lckEventCompFail : Fld := ⟨0x90008, 6, 6⟩
def Reg.lckEventDelayPar : Fld := ⟨0x90008, 5, 5⟩
def Reg.lckEventStateSig : Fld := ⟨0x90008, 4, 4⟩
def Reg.lckEventDpMismatch : Fld := ⟨0x90008, 3, 3⟩
def Reg.lckEventBusMismatch : Fld := ⟨0x90008, 2, 2⟩
def Reg.lckEventLate : Fld := ⟨0x90008, 1, 1⟩
def Reg.lckEventRecord : Fld := ⟨0x90008, 0, 0⟩

/-! LCK_EVENT_CNT0 (R411) -/
def Reg.lckEventCnt0CompCnt : Fld := ⟨0x9000C, 31, 24⟩
def Reg.lckEventCnt0StateCnt : Fld := ⟨0x9000C, 23, 16⟩
def Reg.lckEventCnt0MismCnt : Fld := ⟨0x9000C, 15, 8⟩
def Reg.lckEventCnt0RecordCnt : Fld := ⟨0x9000C, 7, 0⟩

/-! LCK_DIAG_CTRL (R411) -/
def Reg.lckDiagCtrlLock : Fld := ⟨0x90010, 31, 31⟩
def Reg.lckDiagCtrlNandSweepEn : Fld := ⟨0x90010, 4, 4⟩
def Reg.lckDiagCtrlDramScrubEn : Fld := ⟨0x90010, 3, 3⟩
def Reg.lckDiagCtrlSramScrubEn : Fld := ⟨0x90010, 2, 2⟩
def Reg.lckDiagCtrlStateSigEn : Fld := ⟨0x90010, 1, 1⟩
def Reg.lckDiagCtrlInjectEn : Fld := ⟨0x90010, 0, 0⟩

/-! LCK_FAULT (R411) -/
def Reg.lckFaultClass : Fld := ⟨0x90014, 31, 24⟩
def Reg.lckFaultUnit : Fld := ⟨0x90014, 23, 16⟩
def Reg.lckFaultPort : Fld := ⟨0x90014, 15, 8⟩

/-! LCK_FAULT_T (R411) -/
def Reg.lckFaultTK : Fld := ⟨0x90018, 29, 18⟩
def Reg.lckFaultTOfsNs : Fld := ⟨0x90018, 17, 0⟩

/-! LCK_TEST (R411) -/
def Reg.lckTestLastOk : Fld := ⟨0x9001C, 31, 31⟩
def Reg.lckTestUnitsFailed : Fld := ⟨0x9001C, 15, 0⟩

/-! LCK_TESTS_RUN (R411) -/
def Reg.lckTestsRunCnt : Fld := ⟨0x90020, 31, 0⟩

/-! LCK_UNITu_REC (R411) -/
def Reg.lckUnitRecStateRecCnt (n : Nat) : Fld := ⟨0x90100 + 4 * n, 15, 8⟩
def Reg.lckUnitRecBusRecCnt (n : Nat) : Fld := ⟨0x90100 + 4 * n, 7, 0⟩

/-! MEM_STATUS (R426) -/
def Reg.memStatusState : Fld := ⟨0xA0004, 31, 30⟩
def Reg.memStatusRetiredDev : Fld := ⟨0xA0004, 29, 27⟩
def Reg.memStatusSecondDev : Fld := ⟨0xA0004, 26, 24⟩
def Reg.memStatusDscrubOn : Fld := ⟨0xA0004, 23, 23⟩
def Reg.memStatusSscrubOn : Fld := ⟨0xA0004, 22, 22⟩

/-! MEM_EVENT (R426) -/
def Reg.memEventRetire : Fld := ⟨0xA0008, 7, 7⟩
def Reg.memEventDramUe : Fld := ⟨0xA0008, 6, 6⟩
def Reg.memEventDramCe : Fld := ⟨0xA0008, 5, 5⟩
def Reg.memEventSramUe : Fld := ⟨0xA0008, 4, 4⟩
def Reg.memEventSramCe : Fld := ⟨0xA0008, 3, 3⟩
def Reg.memEventDramScrubLate : Fld := ⟨0xA0008, 2, 2⟩
def Reg.memEventSramScrubLate : Fld := ⟨0xA0008, 1, 1⟩
def Reg.memEventLogOvf : Fld := ⟨0xA0008, 0, 0⟩

/-! MEM_EVENT_CNT0 (R426) -/
def Reg.memEventCnt0RetireCnt : Fld := ⟨0xA000C, 31, 24⟩
def Reg.memEventCnt0DramUeCnt : Fld := ⟨0xA000C, 23, 16⟩
def Reg.memEventCnt0DramCeCnt : Fld := ⟨0xA000C, 15, 8⟩
def Reg.memEventCnt0SramUeCnt : Fld := ⟨0xA000C, 7, 0⟩

/-! MEM_EVENT_CNT1 (R426) -/
def Reg.memEventCnt1SramCeCnt : Fld := ⟨0xA0010, 31, 24⟩
def Reg.memEventCnt1DscrubLateCnt : Fld := ⟨0xA0010, 23, 16⟩
def Reg.memEventCnt1SscrubLateCnt : Fld := ⟨0xA0010, 15, 8⟩
def Reg.memEventCnt1LogOvfCnt : Fld := ⟨0xA0010, 7, 0⟩

/-! MEM_DSCRUB_POS (R426) -/
def Reg.memDscrubPosLine : Fld := ⟨0xA0014, 26, 0⟩

/-! MEM_DSCRUB_PASS (R426) -/
def Reg.memDscrubPassCnt : Fld := ⟨0xA0018, 31, 0⟩

/-! MEM_SSCRUB_PASS (R426) -/
def Reg.memSscrubPassCnt : Fld := ⟨0xA001C, 31, 0⟩

/-! MEM_MAX_SYM (R426) -/
def Reg.memMaxSymMaxSym : Fld := ⟨0xA0020, 31, 24⟩

/-! MEM_SRAM_CE (R426) -/
def Reg.memSramCeCnt : Fld := ⟨0xA0024, 31, 0⟩

/-! MEM_LOG_STAT (R426) -/
def Reg.memLogStatClear : Fld := ⟨0xA0030, 31, 31⟩
def Reg.memLogStatOverflow : Fld := ⟨0xA0030, 30, 16⟩
def Reg.memLogStatCount : Fld := ⟨0xA0030, 12, 8⟩
def Reg.memLogStatOldest : Fld := ⟨0xA0030, 3, 0⟩

/-! MEM_DEVd (R426) -/
def Reg.memDevPassLines (n : Nat) : Fld := ⟨0xA0040 + 4 * n, 31, 16⟩
def Reg.memDevCeCnt (n : Nat) : Fld := ⟨0xA0040 + 4 * n, 15, 0⟩

/-! MEM_LOGn_LOC (R426) -/
def Reg.memLogLocMemory (n : Nat) : Fld := ⟨0xA0100 + 16 * n, 31, 28⟩
def Reg.memLogLocIndex (n : Nat) : Fld := ⟨0xA0100 + 16 * n, 26, 0⟩

/-! MEM_LOGn_INFO (R426) -/
def Reg.memLogInfoSource (n : Nat) : Fld := ⟨0xA0104 + 16 * n, 31, 24⟩
def Reg.memLogInfoSymbols (n : Nat) : Fld := ⟨0xA0104 + 16 * n, 23, 16⟩
def Reg.memLogInfoDevices (n : Nat) : Fld := ⟨0xA0104 + 16 * n, 15, 8⟩
def Reg.memLogInfoKind (n : Nat) : Fld := ⟨0xA0104 + 16 * n, 1, 0⟩

/-! MEM_LOGn_T (R426) -/
def Reg.memLogTK (n : Nat) : Fld := ⟨0xA0108 + 16 * n, 29, 18⟩
def Reg.memLogTOfsNs (n : Nat) : Fld := ⟨0xA0108 + 16 * n, 17, 0⟩

/-! MEM_LOGn_SEC (R426) -/
def Reg.memLogSecSecLo (n : Nat) : Fld := ⟨0xA010C + 16 * n, 31, 0⟩

/-! GATE_STATUS (R443) -/
def Reg.gateStatusSealed : Fld := ⟨0xB0004, 31, 31⟩
def Reg.gateStatusPending : Fld := ⟨0xB0004, 15, 0⟩

/-! GATE_EVENT (R443) -/
def Reg.gateEventDrainAbort : Fld := ⟨0xB0008, 4, 4⟩
def Reg.gateEventWriteSealed : Fld := ⟨0xB0008, 3, 3⟩
def Reg.gateEventRingReject : Fld := ⟨0xB0008, 2, 2⟩
def Reg.gateEventFifoOvf : Fld := ⟨0xB0008, 1, 1⟩
def Reg.gateEventViolation : Fld := ⟨0xB0008, 0, 0⟩

/-! GATE_EVENT_CNT0 (R443) -/
def Reg.gateEventCnt0DrainCnt : Fld := ⟨0xB000C, 31, 24⟩
def Reg.gateEventCnt0SealedCnt : Fld := ⟨0xB000C, 23, 16⟩
def Reg.gateEventCnt0OvfCnt : Fld := ⟨0xB000C, 15, 8⟩
def Reg.gateEventCnt0ViolCnt : Fld := ⟨0xB000C, 7, 0⟩

/-! GATE_SEAL (R443) -/
def Reg.gateSealSeal : Fld := ⟨0xB0010, 0, 0⟩

/-! GATE_Gg_CTRL (R443) -/
def Reg.gateGCtrlSealed (n : Nat) : Fld := ⟨0xB1000 + 2048 * n, 31, 31⟩
def Reg.gateGCtrlState (n : Nat) : Fld := ⟨0xB1000 + 2048 * n, 30, 29⟩
def Reg.gateGCtrlDrainAbortCnt (n : Nat) : Fld := ⟨0xB1000 + 2048 * n, 15, 8⟩
def Reg.gateGCtrlLocked (n : Nat) : Fld := ⟨0xB1000 + 2048 * n, 5, 0⟩

/-! GATE_Gg_FIFO (R443) -/
def Reg.gateGFifoOverflow (n : Nat) : Fld := ⟨0xB1004 + 2048 * n, 31, 16⟩
def Reg.gateGFifoCount (n : Nat) : Fld := ⟨0xB1004 + 2048 * n, 4, 0⟩

/-! GATE_Gg_POP (R443) -/
def Reg.gateGPopPop (n : Nat) : Fld := ⟨0xB1008 + 2048 * n, 0, 0⟩

/-! GATE_Gg_ADDR_LO (R443) -/
def Reg.gateGAddrLoAddrLo (n : Nat) : Fld := ⟨0xB1010 + 2048 * n, 31, 0⟩

/-! GATE_Gg_ADDR_HI (R443) -/
def Reg.gateGAddrHiGate (n : Nat) : Fld := ⟨0xB1014 + 2048 * n, 31, 28⟩
def Reg.gateGAddrHiAddrHi (n : Nat) : Fld := ⟨0xB1014 + 2048 * n, 7, 0⟩

/-! GATE_Gg_INFO (R443) -/
def Reg.gateGInfoMaster (n : Nat) : Fld := ⟨0xB1018 + 2048 * n, 31, 24⟩
def Reg.gateGInfoRegion (n : Nat) : Fld := ⟨0xB1018 + 2048 * n, 23, 16⟩
def Reg.gateGInfoWorld (n : Nat) : Fld := ⟨0xB1018 + 2048 * n, 15, 15⟩
def Reg.gateGInfoPriv (n : Nat) : Fld := ⟨0xB1018 + 2048 * n, 14, 14⟩
def Reg.gateGInfoKind (n : Nat) : Fld := ⟨0xB1018 + 2048 * n, 13, 12⟩
def Reg.gateGInfoSize (n : Nat) : Fld := ⟨0xB1018 + 2048 * n, 11, 9⟩
def Reg.gateGInfoBurst (n : Nat) : Fld := ⟨0xB1018 + 2048 * n, 8, 4⟩
def Reg.gateGInfoCause (n : Nat) : Fld := ⟨0xB1018 + 2048 * n, 3, 0⟩

/-! GATE_Gg_T (R443) -/
def Reg.gateGTK (n : Nat) : Fld := ⟨0xB101C + 2048 * n, 29, 18⟩
def Reg.gateGTOfsNs (n : Nat) : Fld := ⟨0xB101C + 2048 * n, 17, 0⟩

/-! GATE_Gg_SEC (R443) -/
def Reg.gateGSecSecLo (n : Nat) : Fld := ⟨0xB1020 + 2048 * n, 31, 0⟩

/-! SEC_STATUS (R475) -/
def Reg.secStatusSlot : Fld := ⟨0xC0004, 31, 31⟩
def Reg.secStatusTrial : Fld := ⟨0xC0004, 30, 30⟩
def Reg.secStatusBootAlt : Fld := ⟨0xC0004, 29, 29⟩
def Reg.secStatusLock : Fld := ⟨0xC0004, 28, 28⟩
def Reg.secStatusRootRevoked : Fld := ⟨0xC0004, 27, 24⟩
def Reg.secStatusRootPresent : Fld := ⟨0xC0004, 23, 20⟩
def Reg.secStatusCounter : Fld := ⟨0xC0004, 15, 8⟩
def Reg.secStatusSecver : Fld := ⟨0xC0004, 7, 0⟩

/-! SEC_EVENT (R475) -/
def Reg.secEventConfirmed : Fld := ⟨0xC0008, 7, 7⟩
def Reg.secEventFallback : Fld := ⟨0xC0008, 6, 6⟩
def Reg.secEventVerifyFail : Fld := ⟨0xC0008, 5, 5⟩
def Reg.secEventRollbackRefused : Fld := ⟨0xC0008, 4, 4⟩
def Reg.secEventRootRevoked : Fld := ⟨0xC0008, 3, 3⟩
def Reg.secEventLockBusy : Fld := ⟨0xC0008, 2, 2⟩
def Reg.secEventKeyRotated : Fld := ⟨0xC0008, 1, 1⟩
def Reg.secEventEnrolFail : Fld := ⟨0xC0008, 0, 0⟩

/-! SEC_EVENT_CNT0 (R475) -/
def Reg.secEventCnt0ConfirmedCnt : Fld := ⟨0xC000C, 31, 24⟩
def Reg.secEventCnt0FallbackCnt : Fld := ⟨0xC000C, 23, 16⟩
def Reg.secEventCnt0VerifyCnt : Fld := ⟨0xC000C, 15, 8⟩
def Reg.secEventCnt0RollbackCnt : Fld := ⟨0xC000C, 7, 0⟩

/-! SEC_EVENT_CNT1 (R475) -/
def Reg.secEventCnt1RootCnt : Fld := ⟨0xC0010, 31, 24⟩
def Reg.secEventCnt1BusyCnt : Fld := ⟨0xC0010, 23, 16⟩
def Reg.secEventCnt1KeyCnt : Fld := ⟨0xC0010, 15, 8⟩
def Reg.secEventCnt1EnrolCnt : Fld := ⟨0xC0010, 7, 0⟩

/-! SEC_TRIAL_LEFT (R475) -/
def Reg.secTrialLeftSec : Fld := ⟨0xC0014, 31, 0⟩

/-! SEC_BOOT_TIME (R475) -/
def Reg.secBootTimeMs : Fld := ⟨0xC0018, 31, 0⟩

/-! SEC_MEAS_L1n (R475) -/
def Reg.secMeasL1nDigest (n : Nat) : Fld := ⟨0xC0040 + 4 * n, 31, 0⟩

/-! SEC_MEAS_FWn (R475) -/
def Reg.secMeasFwDigest (n : Nat) : Fld := ⟨0xC0080 + 4 * n, 31, 0⟩

/-! NVS_STATUS (R497) -/
def Reg.nvsStatusArchRo : Fld := ⟨0xD0004, 31, 31⟩
def Reg.nvsStatusExhausted : Fld := ⟨0xD0004, 30, 25⟩
def Reg.nvsStatusSweepOn : Fld := ⟨0xD0004, 24, 24⟩
def Reg.nvsStatusSweepPct : Fld := ⟨0xD0004, 23, 16⟩

/-! NVS_EVENT (R497) -/
def Reg.nvsEventArchRo : Fld := ⟨0xD0008, 7, 7⟩
def Reg.nvsEventReserveExhausted : Fld := ⟨0xD0008, 6, 6⟩
def Reg.nvsEventSpareLow : Fld := ⟨0xD0008, 5, 5⟩
def Reg.nvsEventBlockRetired : Fld := ⟨0xD0008, 4, 4⟩
def Reg.nvsEventUncorrectable : Fld := ⟨0xD0008, 3, 3⟩
def Reg.nvsEventSoftRead : Fld := ⟨0xD0008, 2, 2⟩
def Reg.nvsEventSweepLate : Fld := ⟨0xD0008, 1, 1⟩
def Reg.nvsEventLogSuppressed : Fld := ⟨0xD0008, 0, 0⟩

/-! NVS_EVENT_CNT0 (R497) -/
def Reg.nvsEventCnt0ArchRoCnt : Fld := ⟨0xD000C, 31, 24⟩
def Reg.nvsEventCnt0ExhaustCnt : Fld := ⟨0xD000C, 23, 16⟩
def Reg.nvsEventCnt0SpareLowCnt : Fld := ⟨0xD000C, 15, 8⟩
def Reg.nvsEventCnt0RetiredCnt : Fld := ⟨0xD000C, 7, 0⟩

/-! NVS_EVENT_CNT1 (R497) -/
def Reg.nvsEventCnt1UncorrCnt : Fld := ⟨0xD0010, 31, 24⟩
def Reg.nvsEventCnt1SoftCnt : Fld := ⟨0xD0010, 23, 16⟩
def Reg.nvsEventCnt1SweepLateCnt : Fld := ⟨0xD0010, 15, 8⟩
def Reg.nvsEventCnt1SuppressCnt : Fld := ⟨0xD0010, 7, 0⟩

/-! NVS_ARCH (R497) -/
def Reg.nvsArchRecords : Fld := ⟨0xD0014, 31, 16⟩
def Reg.nvsArchFreeGib : Fld := ⟨0xD0014, 15, 0⟩

/-! NVS_LOG (R497) -/
def Reg.nvsLogSuppressed : Fld := ⟨0xD0018, 31, 0⟩

/-! NVS_LOG_SEQ (R497) -/
def Reg.nvsLogSeqSeq : Fld := ⟨0xD001C, 31, 0⟩

/-! NVS_LIFE_SEQ (R497) -/
def Reg.nvsLifeSeqSeq : Fld := ⟨0xD0020, 31, 0⟩

/-! NVS_SWEEP_PASS (R497) -/
def Reg.nvsSweepPassCnt : Fld := ⟨0xD0024, 31, 0⟩

/-! NVS_MAX_BITS (R497) -/
def Reg.nvsMaxBitsBits : Fld := ⟨0xD0028, 7, 0⟩

/-! NVS_REGr_SPARE (R497) -/
def Reg.nvsRegSpareSpareLeft (n : Nat) : Fld := ⟨0xD0040 + 4 * n, 31, 16⟩
def Reg.nvsRegSpareRetired (n : Nat) : Fld := ⟨0xD0040 + 4 * n, 15, 0⟩

/-! NVS_REGr_WEAR (R497) -/
def Reg.nvsRegWearMaxPe (n : Nat) : Fld := ⟨0xD0060 + 4 * n, 31, 16⟩
def Reg.nvsRegWearMeanPe (n : Nat) : Fld := ⟨0xD0060 + 4 * n, 15, 0⟩

/-! BKD_STATUS (R512) -/
def Reg.bkdStatusSupply : Fld := ⟨0xE0004, 31, 30⟩
def Reg.bkdStatusTimeLost : Fld := ⟨0xE0004, 29, 29⟩
def Reg.bkdStatusBytesOk : Fld := ⟨0xE0004, 28, 28⟩
def Reg.bkdStatusTrimmed : Fld := ⟨0xE0004, 27, 27⟩
def Reg.bkdStatusParkPending : Fld := ⟨0xE0004, 26, 26⟩

/-! BKD_EVENT (R512) -/
def Reg.bkdEventAlarm : Fld := ⟨0xE0008, 7, 7⟩
def Reg.bkdEventSkipped : Fld := ⟨0xE0008, 6, 6⟩
def Reg.bkdEventTimeLost : Fld := ⟨0xE0008, 5, 5⟩
def Reg.bkdEventParkRefused : Fld := ⟨0xE0008, 4, 4⟩
def Reg.bkdEventParkAborted : Fld := ⟨0xE0008, 3, 3⟩
def Reg.bkdEventSupplyChange : Fld := ⟨0xE0008, 2, 2⟩
def Reg.bkdEventCellLow : Fld := ⟨0xE0008, 1, 1⟩
def Reg.bkdEventTrimStep : Fld := ⟨0xE0008, 0, 0⟩

/-! BKD_EVENT_CNT0 (R512) -/
def Reg.bkdEventCnt0AlarmCnt : Fld := ⟨0xE000C, 31, 24⟩
def Reg.bkdEventCnt0LostCnt : Fld := ⟨0xE000C, 23, 16⟩
def Reg.bkdEventCnt0SupplyCnt : Fld := ⟨0xE000C, 15, 8⟩
def Reg.bkdEventCnt0TrimStepCnt : Fld := ⟨0xE000C, 7, 0⟩

/-! BKD_SEC_LO (R512) -/
def Reg.bkdSecLoSecLo : Fld := ⟨0xE0010, 31, 0⟩

/-! BKD_SEC_HI (R512) -/
def Reg.bkdSecHiSecHi : Fld := ⟨0xE0014, 15, 0⟩

/-! BKD_FRAC (R512) -/
def Reg.bkdFracFrac : Fld := ⟨0xE0018, 14, 0⟩

/-! BKD_ALARM_LO (R512) -/
def Reg.bkdAlarmLoAlarmLo : Fld := ⟨0xE001C, 31, 0⟩

/-! BKD_ALARM_HI (R512) -/
def Reg.bkdAlarmHiArm : Fld := ⟨0xE0020, 31, 31⟩
def Reg.bkdAlarmHiWake : Fld := ⟨0xE0020, 30, 30⟩
def Reg.bkdAlarmHiAlarmHi : Fld := ⟨0xE0020, 15, 0⟩

/-! BKD_WD (R512) -/
def Reg.bkdWdWdOffset : Fld := ⟨0xE0024, 19, 3⟩
def Reg.bkdWdWd : Fld := ⟨0xE0024, 2, 0⟩

/-! BKD_TRIM (R512) -/
def Reg.bkdTrimPhaseErrUs : Fld := ⟨0xE0028, 31, 16⟩
def Reg.bkdTrimRate : Fld := ⟨0xE0028, 7, 0⟩

/-! BKD_SUPPLY (R512) -/
def Reg.bkdSupplyCellMv : Fld := ⟨0xE0030, 31, 16⟩
def Reg.bkdSupplyBkupMv : Fld := ⟨0xE0030, 15, 0⟩

/-! BKD_BYTES_CRC (R512) -/
def Reg.bkdBytesCrcCrc : Fld := ⟨0xE0080, 31, 0⟩

/-! BKD_BYTES_CTRL (R512) -/
def Reg.bkdBytesCtrlInit : Fld := ⟨0xE0084, 0, 0⟩

/-! BKD_PWR (R512) -/
def Reg.bkdPwrPark : Fld := ⟨0xE002C, 31, 31⟩
def Reg.bkdPwrWakeFeed : Fld := ⟨0xE002C, 30, 30⟩
def Reg.bkdPwrThermRestart : Fld := ⟨0xE002C, 29, 29⟩
def Reg.bkdPwrThermC : Fld := ⟨0xE002C, 23, 16⟩
def Reg.bkdPwrLastOff : Fld := ⟨0xE002C, 11, 8⟩
def Reg.bkdPwrWakeCause : Fld := ⟨0xE002C, 7, 4⟩
def Reg.bkdPwrThermCnt : Fld := ⟨0xE002C, 3, 2⟩
def Reg.bkdPwrState : Fld := ⟨0xE002C, 1, 0⟩

/-! PWR_STATUS (R532) -/
def Reg.pwrStatusFeedA : Fld := ⟨0xF0004, 31, 30⟩
def Reg.pwrStatusFeedB : Fld := ⟨0xF0004, 29, 28⟩
def Reg.pwrStatusCarrying : Fld := ⟨0xF0004, 27, 27⟩
def Reg.pwrStatusSeatedA1 : Fld := ⟨0xF0004, 26, 26⟩
def Reg.pwrStatusSeatedH40 : Fld := ⟨0xF0004, 25, 25⟩
def Reg.pwrStatusThermWarn : Fld := ⟨0xF0004, 24, 24⟩
def Reg.pwrStatusAvsLimit : Fld := ⟨0xF0004, 23, 23⟩
def Reg.pwrStatusMgmtCap : Fld := ⟨0xF0004, 22, 22⟩
def Reg.pwrStatusMgmtOp : Fld := ⟨0xF0004, 21, 20⟩

/-! PWR_EVENT (R532) -/
def Reg.pwrEventSeatPartial : Fld := ⟨0xF0008, 9, 9⟩
def Reg.pwrEventRstRefused : Fld := ⟨0xF0008, 8, 8⟩
def Reg.pwrEventPowerFail : Fld := ⟨0xF0008, 7, 7⟩
def Reg.pwrEventFeedALost : Fld := ⟨0xF0008, 6, 6⟩
def Reg.pwrEventFeedBLost : Fld := ⟨0xF0008, 5, 5⟩
def Reg.pwrEventFeedOv : Fld := ⟨0xF0008, 4, 4⟩
def Reg.pwrEventFeedReturn : Fld := ⟨0xF0008, 3, 3⟩
def Reg.pwrEventThermWarn : Fld := ⟨0xF0008, 2, 2⟩
def Reg.pwrEventStretchOver : Fld := ⟨0xF0008, 1, 1⟩
def Reg.pwrEventAvsLimit : Fld := ⟨0xF0008, 0, 0⟩

/-! PWR_EVENT_CNT0 (R532) -/
def Reg.pwrEventCnt0FailCnt : Fld := ⟨0xF000C, 31, 24⟩
def Reg.pwrEventCnt0ALostCnt : Fld := ⟨0xF000C, 23, 16⟩
def Reg.pwrEventCnt0BLostCnt : Fld := ⟨0xF000C, 15, 8⟩
def Reg.pwrEventCnt0OvCnt : Fld := ⟨0xF000C, 7, 0⟩

/-! PWR_EVENT_CNT1 (R532) -/
def Reg.pwrEventCnt1ReturnCnt : Fld := ⟨0xF0010, 31, 24⟩
def Reg.pwrEventCnt1WarnCnt : Fld := ⟨0xF0010, 23, 16⟩
def Reg.pwrEventCnt1StretchCnt : Fld := ⟨0xF0010, 15, 8⟩
def Reg.pwrEventCnt1AvsCnt : Fld := ⟨0xF0010, 7, 0⟩

/-! PWR_FEEDA (R532) -/
def Reg.pwrFeedaMv : Fld := ⟨0xF0014, 31, 16⟩
def Reg.pwrFeedaMa : Fld := ⟨0xF0014, 15, 0⟩

/-! PWR_FEEDB (R532) -/
def Reg.pwrFeedbMv : Fld := ⟨0xF0018, 31, 16⟩
def Reg.pwrFeedbMa : Fld := ⟨0xF0018, 15, 0⟩

/-! PWR_INPUT (R532) -/
def Reg.pwrInputMaxMw : Fld := ⟨0xF001C, 31, 16⟩
def Reg.pwrInputMw : Fld := ⟨0xF001C, 15, 0⟩

/-! PWR_TEMP (R532) -/
def Reg.pwrTempDie : Fld := ⟨0xF0020, 31, 16⟩
def Reg.pwrTempBoard : Fld := ⟨0xF0020, 15, 0⟩

/-! PWR_TEMP_MAX (R532) -/
def Reg.pwrTempMaxDieMax : Fld := ⟨0xF0024, 31, 16⟩
def Reg.pwrTempMaxBoardMax : Fld := ⟨0xF0024, 15, 0⟩

/-! PWR_AVS (R532) -/
def Reg.pwrAvsCoreMv : Fld := ⟨0xF0028, 15, 0⟩

/-! PWR_STRETCH (R532) -/
def Reg.pwrStretchMaxCenti : Fld := ⟨0xF002C, 31, 16⟩
def Reg.pwrStretchOverCnt : Fld := ⟨0xF002C, 15, 0⟩

/-! PWR_DROOPS (R532) -/
def Reg.pwrDroopsCnt : Fld := ⟨0xF0030, 31, 0⟩

/-! PWR_UPTIME (R532) -/
def Reg.pwrUptimeSec : Fld := ⟨0xF0040, 31, 0⟩

/-! PWR_CLK (R532) -/
def Reg.pwrClkGated : Fld := ⟨0xF0034, 23, 12⟩
def Reg.pwrClkRunning : Fld := ⟨0xF0034, 11, 0⟩

/-! PWR_RST_CAUSE (R532) -/
def Reg.pwrRstCauseLastType : Fld := ⟨0xF0038, 31, 28⟩
def Reg.pwrRstCauseColdCause : Fld := ⟨0xF0038, 27, 24⟩
def Reg.pwrRstCauseWarmCause : Fld := ⟨0xF0038, 23, 20⟩
def Reg.pwrRstCauseDomains : Fld := ⟨0xF0038, 19, 8⟩

/-! PWR_RST_CTRL (R533) -/
def Reg.pwrRstCtrlWarm : Fld := ⟨0xF003C, 31, 31⟩
def Reg.pwrRstCtrlDomain : Fld := ⟨0xF003C, 11, 0⟩

/-! CAN_CFG_REV (R334) -/
def Reg.canCfgRevRev : Fld := ⟨0x70014, 31, 0⟩

/-! BKD_BYTESn (R512) -/
def Reg.bkdBytesWord (n : Nat) : Fld := ⟨0xE0040 + 4 * n, 31, 0⟩

/-! Event flags with their counters. -/
def Ev.sysPosInvalid : Ev := ⟨Reg.sysEventPosInvalid, some Reg.sysEventCntInvalidCnt⟩
def Ev.sysPosChange : Ev := ⟨Reg.sysEventPosChange, some Reg.sysEventCntPosCnt⟩
def Ev.sysModeChange : Ev := ⟨Reg.sysEventModeChange, some Reg.sysEventCntModeCnt⟩
def Ev.sysRoleChange : Ev := ⟨Reg.sysEventRoleChange, some Reg.sysEventCntRoleCnt⟩
def Ev.timClassChange : Ev := ⟨Reg.timEventClassChange, some Reg.timEventCnt0ClassCnt⟩
def Ev.timSrcChange : Ev := ⟨Reg.timEventSrcChange, some Reg.timEventCnt0SrcCnt⟩
def Ev.timRoleChange : Ev := ⟨Reg.timEventRoleChange, some Reg.timEventCnt0RoleCnt⟩
def Ev.timStep : Ev := ⟨Reg.timEventStep, some Reg.timEventCnt0StepCnt⟩
def Ev.timJump : Ev := ⟨Reg.timEventJump, some Reg.timEventCnt1JumpCnt⟩
def Ev.timDisagree : Ev := ⟨Reg.timEventDisagree, some Reg.timEventCnt1DisagreeCnt⟩
def Ev.timSyncMiss : Ev := ⟨Reg.timEventSyncMiss, some Reg.timEventCnt1SyncMissCnt⟩
def Ev.timOcxoFault : Ev := ⟨Reg.timEventOcxoFault, some Reg.timEventCnt1OcxoCnt⟩
def Ev.mbxClassLate : Ev := ⟨Reg.mbxEventClassLate, some Reg.mbxEventCnt0ClassLateCnt⟩
def Ev.mbxSegTimeout : Ev := ⟨Reg.mbxEventSegTimeout, some Reg.mbxEventCnt0SegTimeoutCnt⟩
def Ev.mbxAuthFail : Ev := ⟨Reg.mbxEventAuthFail, some Reg.mbxEventCnt0AuthFailCnt⟩
def Ev.mbxRefused : Ev := ⟨Reg.mbxEventRefused, some Reg.mbxEventCnt0RefusedCnt⟩
def Ev.mbxMalformed : Ev := ⟨Reg.mbxEventMalformed, some Reg.mbxEventCnt1MalformedCnt⟩
def Ev.mbxRingFault : Ev := ⟨Reg.mbxEventRingFault, some Reg.mbxEventCnt1RingFaultCnt⟩
def Ev.rcbReject (n : Nat) : Ev := ⟨Reg.rcbEventReject n, some (Reg.rcbEventRejectCnt n)⟩
def Ev.rcbOverflow (n : Nat) : Ev := ⟨Reg.rcbEventOverflow n, some (Reg.rcbEventOvfCnt n)⟩
def Ev.rcbBadDesc (n : Nat) : Ev := ⟨Reg.rcbEventBadDesc n, some (Reg.rcbEventMalfCnt n)⟩
def Ev.astConfigApplied : Ev := ⟨Reg.astEventConfigApplied, some Reg.astEventCnt0ConfigCnt⟩
def Ev.astStreamLost : Ev := ⟨Reg.astEventStreamLost, some Reg.astEventCnt0LostCnt⟩
def Ev.astStreamAligned : Ev := ⟨Reg.astEventStreamAligned, some Reg.astEventCnt0AlignedCnt⟩
def Ev.astStreamReject : Ev := ⟨Reg.astEventStreamReject, some Reg.astEventCnt0RejectCnt⟩
def Ev.astFreqOor : Ev := ⟨Reg.astEventFreqOor, some Reg.astEventCnt1FreqOorCnt⟩
def Ev.astLate : Ev := ⟨Reg.astEventLate, some Reg.astEventCnt1LateCnt⟩
def Ev.astUnsync : Ev := ⟨Reg.astEventUnsync, some Reg.astEventCnt1UnsyncCnt⟩
def Ev.astProcLate : Ev := ⟨Reg.astEventProcLate, some Reg.astEventCnt1ProcLateCnt⟩
def Ev.lspConfigApplied : Ev := ⟨Reg.lspEventConfigApplied, some Reg.lspEventCnt0ConfigCnt⟩
def Ev.lspLaneLost : Ev := ⟨Reg.lspEventLaneLost, some Reg.lspEventCnt0LaneLostCnt⟩
def Ev.lspLaneErr : Ev := ⟨Reg.lspEventLaneErr, some Reg.lspEventCnt0LaneErrCnt⟩
def Ev.lspWavefront : Ev := ⟨Reg.lspEventWavefront, some Reg.lspEventCnt0WavefrontCnt⟩
def Ev.lspNoRemote : Ev := ⟨Reg.lspEventNoRemote, some Reg.lspEventCnt1NoRemoteCnt⟩
def Ev.lspRemoteReject : Ev := ⟨Reg.lspEventRemoteReject, some Reg.lspEventCnt1RejectCnt⟩
def Ev.lspRecordDrop : Ev := ⟨Reg.lspEventRecordDrop, some Reg.lspEventCnt1DropCnt⟩
def Ev.lspCalFail : Ev := ⟨Reg.lspEventCalFail, some Reg.lspEventCnt1CalFailCnt⟩
def Ev.netConfigApplied : Ev := ⟨Reg.netEventConfigApplied, some Reg.netEventCnt0ConfigCnt⟩
def Ev.netStationChange : Ev := ⟨Reg.netEventStationChange, some Reg.netEventCnt0StationCnt⟩
def Ev.netAuthFail : Ev := ⟨Reg.netEventAuthFail, some Reg.netEventCnt0AuthCnt⟩
def Ev.netMacsecDown : Ev := ⟨Reg.netEventMacsecDown, some Reg.netEventCnt1MacsecCnt⟩
def Ev.netWrongLan : Ev := ⟨Reg.netEventWrongLan, some Reg.netEventCnt1WrongLanCnt⟩
def Ev.netSubReject : Ev := ⟨Reg.netEventSubReject, some Reg.netEventCnt1SubRejectCnt⟩
def Ev.netTxLate : Ev := ⟨Reg.netEventTxLate, some Reg.netEventCnt0TxLateCnt⟩
def Ev.netLinkChange : Ev := ⟨Reg.netEventLinkChange, some Reg.netEventCnt1LinkCnt⟩
def Ev.fioStatusDioFault : Ev := ⟨Reg.fioStatusDioFault, some Reg.fioEventCnt2DioCnt⟩
def Ev.fioConfigApplied : Ev := ⟨Reg.fioEventConfigApplied, some Reg.fioEventCnt0ConfigCnt⟩
def Ev.fioLockout : Ev := ⟨Reg.fioEventLockout, some Reg.fioEventCnt0LockoutCnt⟩
def Ev.fioFldLow : Ev := ⟨Reg.fioEventFldLow, some Reg.fioEventCnt0FldLowCnt⟩
def Ev.fioAoSense : Ev := ⟨Reg.fioEventAoSense, some Reg.fioEventCnt0SenseCnt⟩
def Ev.fioAoOvertemp : Ev := ⟨Reg.fioEventAoOvertemp, some Reg.fioEventCnt1OvertempCnt⟩
def Ev.fioAoCompliance : Ev := ⟨Reg.fioEventAoCompliance, some Reg.fioEventCnt1ComplianceCnt⟩
def Ev.fioAoOpen : Ev := ⟨Reg.fioEventAoOpen, some Reg.fioEventCnt1OpenCnt⟩
def Ev.fioAiFail : Ev := ⟨Reg.fioEventAiFail, some Reg.fioEventCnt1AiFailCnt⟩
def Ev.canConfigApplied : Ev := ⟨Reg.canEventConfigApplied, none⟩
def Ev.canBusOff1 : Ev := ⟨Reg.canEventBusOff1, some Reg.canEventCnt1BusOffCnt⟩
def Ev.canPassive1 : Ev := ⟨Reg.canEventPassive1, some Reg.canEventCnt1PassiveCnt⟩
def Ev.canTxFail1 : Ev := ⟨Reg.canEventTxFail1, some Reg.canEventCnt1TxFailCnt⟩
def Ev.canPex1 : Ev := ⟨Reg.canEventPex1, some Reg.canEventCnt1PexCnt⟩
def Ev.canBusOff0 : Ev := ⟨Reg.canEventBusOff0, some Reg.canEventCnt0BusOffCnt⟩
def Ev.canPassive0 : Ev := ⟨Reg.canEventPassive0, some Reg.canEventCnt0PassiveCnt⟩
def Ev.canTxFail0 : Ev := ⟨Reg.canEventTxFail0, some Reg.canEventCnt0TxFailCnt⟩
def Ev.canPex0 : Ev := ⟨Reg.canEventPex0, some Reg.canEventCnt0PexCnt⟩
def Ev.hhkPairTakeover : Ev := ⟨Reg.hhkPairEventTakeover, some Reg.hhkPairEventCnt0TakeoverCnt⟩
def Ev.hhkPairHandover : Ev := ⟨Reg.hhkPairEventHandover, some Reg.hhkPairEventCnt0HandoverCnt⟩
def Ev.hhkPairMismatch : Ev := ⟨Reg.hhkPairEventMismatch, some Reg.hhkPairEventCnt0MismatchCnt⟩
def Ev.hhkPairSelfSnapshot : Ev := ⟨Reg.hhkPairEventSelfSnapshot, some Reg.hhkPairEventCnt0SelfCnt⟩
def Ev.hhkPairPairLine : Ev := ⟨Reg.hhkPairEventPairLine, some Reg.hhkPairEventCnt1PairLineCnt⟩
def Ev.hhkPairHhkLost : Ev := ⟨Reg.hhkPairEventHhkLost, some Reg.hhkPairEventCnt1HhkLostCnt⟩
def Ev.hhkPairOwnFault : Ev := ⟨Reg.hhkPairEventOwnFault, some Reg.hhkPairEventCnt1OwnFaultCnt⟩
def Ev.hhkPairKilled : Ev := ⟨Reg.hhkPairEventKilled, some Reg.hhkPairEventCnt1KilledCnt⟩
def Ev.hhkMinority : Ev := ⟨Reg.hhkEventMinority, some Reg.hhkEventCnt0MinorityCnt⟩
def Ev.hhkPartial : Ev := ⟨Reg.hhkEventPartial, some Reg.hhkEventCnt0PartialCnt⟩
def Ev.hhkDelayJump : Ev := ⟨Reg.hhkEventDelayJump, some Reg.hhkEventCnt0DelayJumpCnt⟩
def Ev.hhkMiswire : Ev := ⟨Reg.hhkEventMiswire, some Reg.hhkEventCnt1MiswireCnt⟩
def Ev.hhkReplay : Ev := ⟨Reg.hhkEventReplay, some Reg.hhkEventCnt1ReplayCnt⟩
def Ev.hhkAuthFail : Ev := ⟨Reg.hhkEventAuthFail, some Reg.hhkEventCnt1AuthFailCnt⟩
def Ev.hhkLaneBack : Ev := ⟨Reg.hhkEventLaneBack, some Reg.hhkEventCnt0LaneBackCnt⟩
def Ev.hhkLaneLost : Ev := ⟨Reg.hhkEventLaneLost, some Reg.hhkEventCnt1LaneLostCnt⟩
def Ev.lckTaint : Ev := ⟨Reg.lckEventTaint, none⟩
def Ev.lckCompFail : Ev := ⟨Reg.lckEventCompFail, some Reg.lckEventCnt0CompCnt⟩
def Ev.lckDelayPar : Ev := ⟨Reg.lckEventDelayPar, some Reg.lckEventCnt0MismCnt⟩
def Ev.lckStateSig : Ev := ⟨Reg.lckEventStateSig, some Reg.lckEventCnt0StateCnt⟩
def Ev.lckDpMismatch : Ev := ⟨Reg.lckEventDpMismatch, some Reg.lckEventCnt0MismCnt⟩
def Ev.lckBusMismatch : Ev := ⟨Reg.lckEventBusMismatch, some Reg.lckEventCnt0MismCnt⟩
def Ev.lckLate : Ev := ⟨Reg.lckEventLate, none⟩
def Ev.lckRecord : Ev := ⟨Reg.lckEventRecord, some Reg.lckEventCnt0RecordCnt⟩
def Ev.memRetire : Ev := ⟨Reg.memEventRetire, some Reg.memEventCnt0RetireCnt⟩
def Ev.memDramUe : Ev := ⟨Reg.memEventDramUe, some Reg.memEventCnt0DramUeCnt⟩
def Ev.memDramCe : Ev := ⟨Reg.memEventDramCe, some Reg.memEventCnt0DramCeCnt⟩
def Ev.memSramUe : Ev := ⟨Reg.memEventSramUe, some Reg.memEventCnt0SramUeCnt⟩
def Ev.memSramCe : Ev := ⟨Reg.memEventSramCe, some Reg.memEventCnt1SramCeCnt⟩
def Ev.memDramScrubLate : Ev := ⟨Reg.memEventDramScrubLate, some Reg.memEventCnt1DscrubLateCnt⟩
def Ev.memSramScrubLate : Ev := ⟨Reg.memEventSramScrubLate, some Reg.memEventCnt1SscrubLateCnt⟩
def Ev.memLogOvf : Ev := ⟨Reg.memEventLogOvf, some Reg.memEventCnt1LogOvfCnt⟩
def Ev.gateDrainAbort : Ev := ⟨Reg.gateEventDrainAbort, some Reg.gateEventCnt0DrainCnt⟩
def Ev.gateWriteSealed : Ev := ⟨Reg.gateEventWriteSealed, some Reg.gateEventCnt0SealedCnt⟩
def Ev.gateRingReject : Ev := ⟨Reg.gateEventRingReject, none⟩
def Ev.gateFifoOvf : Ev := ⟨Reg.gateEventFifoOvf, some Reg.gateEventCnt0OvfCnt⟩
def Ev.gateViolation : Ev := ⟨Reg.gateEventViolation, some Reg.gateEventCnt0ViolCnt⟩
def Ev.secConfirmed : Ev := ⟨Reg.secEventConfirmed, some Reg.secEventCnt0ConfirmedCnt⟩
def Ev.secFallback : Ev := ⟨Reg.secEventFallback, some Reg.secEventCnt0FallbackCnt⟩
def Ev.secVerifyFail : Ev := ⟨Reg.secEventVerifyFail, some Reg.secEventCnt0VerifyCnt⟩
def Ev.secRollbackRefused : Ev := ⟨Reg.secEventRollbackRefused, some Reg.secEventCnt0RollbackCnt⟩
def Ev.secRootRevoked : Ev := ⟨Reg.secEventRootRevoked, some Reg.secEventCnt1RootCnt⟩
def Ev.secLockBusy : Ev := ⟨Reg.secEventLockBusy, some Reg.secEventCnt1BusyCnt⟩
def Ev.secKeyRotated : Ev := ⟨Reg.secEventKeyRotated, some Reg.secEventCnt1KeyCnt⟩
def Ev.secEnrolFail : Ev := ⟨Reg.secEventEnrolFail, some Reg.secEventCnt1EnrolCnt⟩
def Ev.nvsArchRo : Ev := ⟨Reg.nvsEventArchRo, some Reg.nvsEventCnt0ArchRoCnt⟩
def Ev.nvsReserveExhausted : Ev := ⟨Reg.nvsEventReserveExhausted, some Reg.nvsEventCnt0ExhaustCnt⟩
def Ev.nvsSpareLow : Ev := ⟨Reg.nvsEventSpareLow, some Reg.nvsEventCnt0SpareLowCnt⟩
def Ev.nvsBlockRetired : Ev := ⟨Reg.nvsEventBlockRetired, some Reg.nvsEventCnt0RetiredCnt⟩
def Ev.nvsUncorrectable : Ev := ⟨Reg.nvsEventUncorrectable, some Reg.nvsEventCnt1UncorrCnt⟩
def Ev.nvsSoftRead : Ev := ⟨Reg.nvsEventSoftRead, some Reg.nvsEventCnt1SoftCnt⟩
def Ev.nvsSweepLate : Ev := ⟨Reg.nvsEventSweepLate, some Reg.nvsEventCnt1SweepLateCnt⟩
def Ev.nvsLogSuppressed : Ev := ⟨Reg.nvsEventLogSuppressed, some Reg.nvsEventCnt1SuppressCnt⟩
def Ev.bkdAlarm : Ev := ⟨Reg.bkdEventAlarm, some Reg.bkdEventCnt0AlarmCnt⟩
def Ev.bkdSkipped : Ev := ⟨Reg.bkdEventSkipped, none⟩
def Ev.bkdTimeLost : Ev := ⟨Reg.bkdEventTimeLost, some Reg.bkdEventCnt0LostCnt⟩
def Ev.bkdParkRefused : Ev := ⟨Reg.bkdEventParkRefused, none⟩
def Ev.bkdParkAborted : Ev := ⟨Reg.bkdEventParkAborted, none⟩
def Ev.bkdSupplyChange : Ev := ⟨Reg.bkdEventSupplyChange, some Reg.bkdEventCnt0SupplyCnt⟩
def Ev.bkdCellLow : Ev := ⟨Reg.bkdEventCellLow, none⟩
def Ev.bkdTrimStep : Ev := ⟨Reg.bkdEventTrimStep, some Reg.bkdEventCnt0TrimStepCnt⟩
def Ev.pwrSeatPartial : Ev := ⟨Reg.pwrEventSeatPartial, none⟩
def Ev.pwrRstRefused : Ev := ⟨Reg.pwrEventRstRefused, none⟩
def Ev.pwrPowerFail : Ev := ⟨Reg.pwrEventPowerFail, some Reg.pwrEventCnt0FailCnt⟩
def Ev.pwrFeedALost : Ev := ⟨Reg.pwrEventFeedALost, some Reg.pwrEventCnt0ALostCnt⟩
def Ev.pwrFeedBLost : Ev := ⟨Reg.pwrEventFeedBLost, some Reg.pwrEventCnt0BLostCnt⟩
def Ev.pwrFeedOv : Ev := ⟨Reg.pwrEventFeedOv, some Reg.pwrEventCnt0OvCnt⟩
def Ev.pwrFeedReturn : Ev := ⟨Reg.pwrEventFeedReturn, some Reg.pwrEventCnt1ReturnCnt⟩
def Ev.pwrThermWarn : Ev := ⟨Reg.pwrEventThermWarn, some Reg.pwrEventCnt1WarnCnt⟩
def Ev.pwrStretchOver : Ev := ⟨Reg.pwrEventStretchOver, some Reg.pwrEventCnt1StretchCnt⟩
def Ev.pwrAvsLimit : Ev := ⟨Reg.pwrEventAvsLimit, some Reg.pwrEventCnt1AvsCnt⟩

/-! The field table, by block. -/
def fieldRowsSys0 : List FieldRow := [
  ⟨Reg.sysIdBlock, 0, 1, .ro, 0, false⟩,
  ⟨Reg.sysIdMajor, 0, 1, .ro, 0, false⟩,
  ⟨Reg.sysIdMinor, 0, 1, .ro, 0, false⟩,
  ⟨Reg.sysVariantBoardRev, 0, 1, .ro, 1, false⟩,
  ⟨Reg.sysVariantVariant, 0, 1, .ro, 1, false⟩,
  ⟨Reg.sysPositionSlotId, 0, 1, .ro, 0, false⟩,
  ⟨Reg.sysPositionGroupId, 0, 1, .ro, 0, false⟩,
  ⟨Reg.sysModeTaint, 0, 1, .ro, 0, false⟩,
  ⟨Reg.sysModeSplit, 0, 1, .ro, 0, false⟩,
  ⟨Reg.sysModeRunNoTime, 0, 1, .ro, 0, false⟩,
  ⟨Reg.sysModeGroupKind, 0, 1, .ro, 0, false⟩,
  ⟨Reg.sysRolePubMaster, 0, 1, .ro, 0, false⟩,
  ⟨Reg.sysRoleRole, 0, 1, .ro, 0, false⟩,
  ⟨Reg.sysEventPosInvalid, 0, 1, .w1c, 0, true⟩,
  ⟨Reg.sysEventPosChange, 0, 1, .w1c, 0, true⟩,
  ⟨Reg.sysEventModeChange, 0, 1, .w1c, 0, true⟩,
  ⟨Reg.sysEventRoleChange, 0, 1, .w1c, 0, true⟩,
  ⟨Reg.sysEventCntInvalidCnt, 0, 1, .ro, 0, false⟩,
  ⟨Reg.sysEventCntPosCnt, 0, 1, .ro, 0, false⟩,
  ⟨Reg.sysEventCntModeCnt, 0, 1, .ro, 0, false⟩,
  ⟨Reg.sysEventCntRoleCnt, 0, 1, .ro, 0, false⟩]

def fieldRowsTim0 : List FieldRow := [
  ⟨Reg.timIdBlock, 0, 1, .ro, 1, false⟩,
  ⟨Reg.timIdMajor, 0, 1, .ro, 0, false⟩,
  ⟨Reg.timIdMinor, 0, 1, .ro, 0, false⟩,
  ⟨Reg.timStatusFault, 0, 1, .ro, 0, false⟩,
  ⟨Reg.timStatusValid, 0, 1, .ro, 0, false⟩,
  ⟨Reg.timStatusRunLock, 0, 1, .ro, 0, false⟩,
  ⟨Reg.timStatusSlewing, 0, 1, .ro, 0, false⟩,
  ⟨Reg.timStatusLeapKnown, 0, 1, .ro, 0, false⟩,
  ⟨Reg.timStatusOcxoWarm, 0, 1, .ro, 0, false⟩,
  ⟨Reg.timStatusTickRole, 0, 1, .ro, 0, false⟩,
  ⟨Reg.timStatusSource, 0, 1, .ro, 15, false⟩,
  ⟨Reg.timStatusClass, 0, 1, .ro, 5, false⟩,
  ⟨Reg.timEventClassChange, 0, 1, .w1c, 0, true⟩,
  ⟨Reg.timEventSrcChange, 0, 1, .w1c, 0, true⟩,
  ⟨Reg.timEventRoleChange, 0, 1, .w1c, 0, true⟩,
  ⟨Reg.timEventStep, 0, 1, .w1c, 0, true⟩,
  ⟨Reg.timEventJump, 0, 1, .w1c, 0, true⟩,
  ⟨Reg.timEventDisagree, 0, 1, .w1c, 0, true⟩,
  ⟨Reg.timEventSyncMiss, 0, 1, .w1c, 0, true⟩,
  ⟨Reg.timEventOcxoFault, 0, 1, .w1c, 0, true⟩,
  ⟨Reg.timEventCnt0ClassCnt, 0, 1, .ro, 0, false⟩,
  ⟨Reg.timEventCnt0SrcCnt, 0, 1, .ro, 0, false⟩,
  ⟨Reg.timEventCnt0RoleCnt, 0, 1, .ro, 0, false⟩,
  ⟨Reg.timEventCnt0StepCnt, 0, 1, .ro, 0, false⟩,
  ⟨Reg.timEventCnt1JumpCnt, 0, 1, .ro, 0, false⟩,
  ⟨Reg.timEventCnt1DisagreeCnt, 0, 1, .ro, 0, false⟩,
  ⟨Reg.timEventCnt1SyncMissCnt, 0, 1, .ro, 0, false⟩,
  ⟨Reg.timEventCnt1OcxoCnt, 0, 1, .ro, 0, false⟩,
  ⟨Reg.timNowNsNs, 0, 1, .ro, 0, false⟩,
  ⟨Reg.timNowSecLoSecLo, 0, 1, .ro, 0, false⟩,
  ⟨Reg.timNowSecHiSecHi, 0, 1, .ro, 0, false⟩,
  ⟨Reg.timFrameK, 0, 1, .ro, 0, false⟩,
  ⟨Reg.timRateAdjRate, 0, 1, .rw, 0, false⟩,
  ⟨Reg.timSlewRemRem, 0, 1, .rw, 0, false⟩,
  ⟨Reg.timEstErrErr, 0, 1, .ro, 4294967295, false⟩,
  ⟨Reg.timOffsetOfs, 0, 1, .ro, 0, false⟩,
  ⟨Reg.timSyncPhasePhase, 0, 1, .ro, 0, false⟩,
  ⟨Reg.timHoldTimeSec, 0, 1, .ro, 0, false⟩,
  ⟨Reg.timTaiUtcKnown, 0, 1, .ro, 0, false⟩,
  ⟨Reg.timTaiUtcLeap61, 0, 1, .ro, 0, false⟩]

def fieldRowsTim1 : List FieldRow := [
  ⟨Reg.timTaiUtcLeap59, 0, 1, .ro, 0, false⟩,
  ⟨Reg.timTaiUtcOffset, 0, 1, .ro, 0, false⟩,
  ⟨Reg.timArbMasterSlot, 0, 1, .ro, 0, false⟩,
  ⟨Reg.timArbMasterPrio, 0, 1, .ro, 0, false⟩,
  ⟨Reg.timArbOwnPrio, 0, 1, .ro, 0, false⟩,
  ⟨Reg.timSrcAvailable 0, 4, 6, .ro, 0, false⟩,
  ⟨Reg.timSrcLocked 0, 4, 6, .ro, 0, false⟩,
  ⟨Reg.timSrcFine 0, 4, 6, .ro, 0, false⟩,
  ⟨Reg.timSrcFault 0, 4, 6, .ro, 0, false⟩,
  ⟨Reg.timSrcAgree 0, 4, 6, .ro, 0, false⟩,
  ⟨Reg.timSrcPrio 0, 4, 6, .ro, 0, false⟩,
  ⟨Reg.timSrcOfsOfs 0, 4, 6, .ro, 0, false⟩]

def fieldRowsMbx0 : List FieldRow := [
  ⟨Reg.mbxIdBlock, 0, 1, .ro, 2, false⟩,
  ⟨Reg.mbxIdMajor, 0, 1, .ro, 0, false⟩,
  ⟨Reg.mbxIdMinor, 0, 1, .ro, 0, false⟩,
  ⟨Reg.mbxStatusSessions, 0, 1, .ro, 0, false⟩,
  ⟨Reg.mbxStatusSecSessions, 0, 1, .ro, 0, false⟩,
  ⟨Reg.mbxEventClassLate, 0, 1, .w1c, 0, true⟩,
  ⟨Reg.mbxEventSegTimeout, 0, 1, .w1c, 0, true⟩,
  ⟨Reg.mbxEventAuthFail, 0, 1, .w1c, 0, true⟩,
  ⟨Reg.mbxEventRefused, 0, 1, .w1c, 0, true⟩,
  ⟨Reg.mbxEventMalformed, 0, 1, .w1c, 0, true⟩,
  ⟨Reg.mbxEventRingFault, 0, 1, .w1c, 0, true⟩,
  ⟨Reg.mbxEventCnt0ClassLateCnt, 0, 1, .ro, 0, false⟩,
  ⟨Reg.mbxEventCnt0SegTimeoutCnt, 0, 1, .ro, 0, false⟩,
  ⟨Reg.mbxEventCnt0AuthFailCnt, 0, 1, .ro, 0, false⟩,
  ⟨Reg.mbxEventCnt0RefusedCnt, 0, 1, .ro, 0, false⟩,
  ⟨Reg.mbxEventCnt1MalformedCnt, 0, 1, .ro, 0, false⟩,
  ⟨Reg.mbxEventCnt1RingFaultCnt, 0, 1, .ro, 0, false⟩,
  ⟨Reg.mbxSessOpen 0, 4, 16, .ro, 0, false⟩,
  ⟨Reg.mbxSessSecure 0, 4, 16, .ro, 0, false⟩,
  ⟨Reg.mbxSessPort 0, 4, 16, .ro, 0, false⟩,
  ⟨Reg.mbxSessHeld 0, 4, 16, .ro, 0, false⟩,
  ⟨Reg.mbxSessActive 0, 4, 16, .ro, 0, false⟩,
  ⟨Reg.mbxSessOutstanding 0, 4, 16, .ro, 0, false⟩,
  ⟨Reg.mbxSessDOutstanding 0, 4, 16, .ro, 0, false⟩,
  ⟨Reg.rcbBaseLoBase 0, 32, 256, .rw, 0, false⟩,
  ⟨Reg.rcbBaseHiBase32 0, 32, 256, .rw, 0, false⟩,
  ⟨Reg.rcbCfgEnable 0, 32, 256, .rw, 0, false⟩,
  ⟨Reg.rcbCfgDir 0, 32, 256, .rw, 0, false⟩,
  ⟨Reg.rcbCfgSpace 0, 32, 256, .rw, 0, false⟩,
  ⟨Reg.rcbCfgLog2Size 0, 32, 256, .rw, 4, false⟩,
  ⟨Reg.rcbProdProd 0, 32, 256, .ro, 0, false⟩,
  ⟨Reg.rcbConsCons 0, 32, 256, .rw, 0, false⟩,
  ⟨Reg.rcbDoorbellNewProd 0, 32, 256, .wo, 0, false⟩,
  ⟨Reg.rcbModTimeUs 0, 32, 256, .rw, 0, false⟩,
  ⟨Reg.rcbModCount 0, 32, 256, .rw, 0, false⟩,
  ⟨Reg.rcbEventOvfCnt 0, 32, 256, .ro, 0, false⟩,
  ⟨Reg.rcbEventRejectCnt 0, 32, 256, .ro, 0, false⟩,
  ⟨Reg.rcbEventMalfCnt 0, 32, 256, .ro, 0, false⟩,
  ⟨Reg.rcbEventReject 0, 32, 256, .w1c, 0, true⟩,
  ⟨Reg.rcbEventOverflow 0, 32, 256, .w1c, 0, true⟩]

def fieldRowsMbx1 : List FieldRow := [
  ⟨Reg.rcbEventBadDesc 0, 32, 256, .w1c, 0, true⟩]

def fieldRowsAst0 : List FieldRow := [
  ⟨Reg.astIdBlock, 0, 1, .ro, 3, false⟩,
  ⟨Reg.astIdMajor, 0, 1, .ro, 0, false⟩,
  ⟨Reg.astIdMinor, 0, 1, .ro, 0, false⟩,
  ⟨Reg.astStatusAligned, 0, 1, .ro, 0, false⟩,
  ⟨Reg.astStatusRefsValid, 0, 1, .ro, 0, false⟩,
  ⟨Reg.astStatusF060, 0, 1, .ro, 0, false⟩,
  ⟨Reg.astStatusActive, 0, 1, .ro, 0, false⟩,
  ⟨Reg.astEventConfigApplied, 0, 1, .w1c, 0, true⟩,
  ⟨Reg.astEventStreamLost, 0, 1, .w1c, 0, true⟩,
  ⟨Reg.astEventStreamAligned, 0, 1, .w1c, 0, true⟩,
  ⟨Reg.astEventStreamReject, 0, 1, .w1c, 0, true⟩,
  ⟨Reg.astEventFreqOor, 0, 1, .w1c, 0, true⟩,
  ⟨Reg.astEventLate, 0, 1, .w1c, 0, true⟩,
  ⟨Reg.astEventUnsync, 0, 1, .w1c, 0, true⟩,
  ⟨Reg.astEventProcLate, 0, 1, .w1c, 0, true⟩,
  ⟨Reg.astEventCnt0ConfigCnt, 0, 1, .ro, 0, false⟩,
  ⟨Reg.astEventCnt0LostCnt, 0, 1, .ro, 0, false⟩,
  ⟨Reg.astEventCnt0AlignedCnt, 0, 1, .ro, 0, false⟩,
  ⟨Reg.astEventCnt0RejectCnt, 0, 1, .ro, 0, false⟩,
  ⟨Reg.astEventCnt1FreqOorCnt, 0, 1, .ro, 0, false⟩,
  ⟨Reg.astEventCnt1LateCnt, 0, 1, .ro, 0, false⟩,
  ⟨Reg.astEventCnt1UnsyncCnt, 0, 1, .ro, 0, false⟩,
  ⟨Reg.astEventCnt1ProcLateCnt, 0, 1, .ro, 0, false⟩,
  ⟨Reg.astCfgRevRev, 0, 1, .ro, 0, false⟩,
  ⟨Reg.astRefFreqDf 0, 4, 8, .ro, 0, false⟩,
  ⟨Reg.astRefRocofRf 0, 4, 8, .ro, 0, false⟩,
  ⟨Reg.astStrState 0, 4, 24, .ro, 0, false⟩,
  ⟨Reg.astStrSync 0, 4, 24, .ro, 0, false⟩,
  ⟨Reg.astStrSim 0, 4, 24, .ro, 0, false⟩,
  ⟨Reg.astStrQty 0, 4, 24, .ro, 0, false⟩,
  ⟨Reg.astStrLastSmpcnt 0, 4, 24, .ro, 0, false⟩,
  ⟨Reg.astStrErrLateCnt 0, 4, 24, .rc, 0, false⟩,
  ⟨Reg.astStrErrEarlyCnt 0, 4, 24, .rc, 0, false⟩,
  ⟨Reg.astStrErrGapCnt 0, 4, 24, .rc, 0, false⟩,
  ⟨Reg.astStrErrRejectCnt 0, 4, 24, .rc, 0, false⟩,
  ⟨Reg.astStrTransitMaxUs 0, 4, 24, .rc, 0, false⟩,
  ⟨Reg.astStrTransitLastUs 0, 4, 24, .ro, 0, false⟩,
  ⟨Reg.astRefStateValid 0, 4, 8, .ro, 0, false⟩,
  ⟨Reg.astRefStateOor 0, 4, 8, .ro, 0, false⟩,
  ⟨Reg.astRefStateFallback 0, 4, 8, .ro, 0, false⟩]

def fieldRowsAst1 : List FieldRow := [
  ⟨Reg.astRefStateSettling 0, 4, 8, .ro, 0, false⟩,
  ⟨Reg.astRefStateAge 0, 4, 8, .ro, 0, false⟩,
  ⟨Reg.astPmuOn 0, 4, 16, .ro, 0, false⟩,
  ⟨Reg.astPmuSending 0, 4, 16, .ro, 0, false⟩,
  ⟨Reg.astPmuOutsideTested 0, 4, 16, .ro, 0, false⟩,
  ⟨Reg.astPmuNoMacsec 0, 4, 16, .ro, 0, false⟩,
  ⟨Reg.astPmuClients 0, 4, 16, .ro, 0, false⟩,
  ⟨Reg.astPmuDropped 0, 4, 16, .ro, 0, false⟩]

def fieldRowsLsp0 : List FieldRow := [
  ⟨Reg.lspIdBlock, 0, 1, .ro, 4, false⟩,
  ⟨Reg.lspIdMajor, 0, 1, .ro, 0, false⟩,
  ⟨Reg.lspIdMinor, 0, 1, .ro, 0, false⟩,
  ⟨Reg.lspStatusLocked, 0, 1, .ro, 0, false⟩,
  ⟨Reg.lspStatusArmed, 0, 1, .ro, 0, false⟩,
  ⟨Reg.lspStatusCalibrating, 0, 1, .ro, 0, false⟩,
  ⟨Reg.lspStatusPublishing, 0, 1, .ro, 0, false⟩,
  ⟨Reg.lspStatusClkDrive, 0, 1, .ro, 0, false⟩,
  ⟨Reg.lspStatusActive, 0, 1, .ro, 0, false⟩,
  ⟨Reg.lspEventConfigApplied, 0, 1, .w1c, 0, true⟩,
  ⟨Reg.lspEventLaneLost, 0, 1, .w1c, 0, true⟩,
  ⟨Reg.lspEventLaneErr, 0, 1, .w1c, 0, true⟩,
  ⟨Reg.lspEventWavefront, 0, 1, .w1c, 0, true⟩,
  ⟨Reg.lspEventNoRemote, 0, 1, .w1c, 0, true⟩,
  ⟨Reg.lspEventRemoteReject, 0, 1, .w1c, 0, true⟩,
  ⟨Reg.lspEventRecordDrop, 0, 1, .w1c, 0, true⟩,
  ⟨Reg.lspEventCalFail, 0, 1, .w1c, 0, true⟩,
  ⟨Reg.lspEventCnt0ConfigCnt, 0, 1, .ro, 0, false⟩,
  ⟨Reg.lspEventCnt0LaneLostCnt, 0, 1, .ro, 0, false⟩,
  ⟨Reg.lspEventCnt0LaneErrCnt, 0, 1, .ro, 0, false⟩,
  ⟨Reg.lspEventCnt0WavefrontCnt, 0, 1, .ro, 0, false⟩,
  ⟨Reg.lspEventCnt1NoRemoteCnt, 0, 1, .ro, 0, false⟩,
  ⟨Reg.lspEventCnt1RejectCnt, 0, 1, .ro, 0, false⟩,
  ⟨Reg.lspEventCnt1DropCnt, 0, 1, .ro, 0, false⟩,
  ⟨Reg.lspEventCnt1CalFailCnt, 0, 1, .ro, 0, false⟩,
  ⟨Reg.lspCfgRevRev, 0, 1, .ro, 0, false⟩,
  ⟨Reg.lspLastSeqSeq, 0, 1, .ro, 0, false⟩,
  ⟨Reg.lspRecPending, 0, 1, .ro, 0, false⟩,
  ⟨Reg.lspRecStored, 0, 1, .ro, 0, false⟩,
  ⟨Reg.lspLaneState 0, 4, 12, .ro, 0, false⟩,
  ⟨Reg.lspLaneOvr 0, 4, 12, .ro, 0, false⟩,
  ⟨Reg.lspLaneFeFault 0, 4, 12, .ro, 0, false⟩,
  ⟨Reg.lspLaneTest 0, 4, 12, .ro, 0, false⟩,
  ⟨Reg.lspLaneCalValid 0, 4, 12, .ro, 0, false⟩,
  ⟨Reg.lspLaneLastPairs 0, 4, 12, .ro, 0, false⟩,
  ⟨Reg.lspLaneErrCodeCnt 0, 4, 12, .rc, 0, false⟩,
  ⟨Reg.lspLaneErrParityCnt 0, 4, 12, .rc, 0, false⟩,
  ⟨Reg.lspLaneErrMarkCnt 0, 4, 12, .rc, 0, false⟩,
  ⟨Reg.lspLaneErrInvalidCnt 0, 4, 12, .rc, 0, false⟩,
  ⟨Reg.lspGrpArmed 0, 4, 4, .ro, 0, false⟩]

def fieldRowsLsp1 : List FieldRow := [
  ⟨Reg.lspGrpEventOpen 0, 4, 4, .ro, 0, false⟩,
  ⟨Reg.lspGrpDirLast 0, 4, 4, .ro, 0, false⟩,
  ⟨Reg.lspGrpSigma 0, 4, 4, .ro, 0, false⟩,
  ⟨Reg.lspGrpThrThr 0, 4, 4, .ro, 0, false⟩,
  ⟨Reg.lspSubEnabled 0, 4, 8, .ro, 0, false⟩,
  ⟨Reg.lspSubAlive 0, 4, 8, .ro, 0, false⟩,
  ⟨Reg.lspSubAuthFail 0, 4, 8, .ro, 0, false⟩,
  ⟨Reg.lspSubReports 0, 4, 8, .ro, 0, false⟩]

def fieldRowsNet0 : List FieldRow := [
  ⟨Reg.netIdBlock, 0, 1, .ro, 5, false⟩,
  ⟨Reg.netIdMajor, 0, 1, .ro, 0, false⟩,
  ⟨Reg.netIdMinor, 0, 1, .ro, 0, false⟩,
  ⟨Reg.netStatusPair1Mode, 0, 1, .ro, 0, false⟩,
  ⟨Reg.netStatusPair0Mode, 0, 1, .ro, 0, false⟩,
  ⟨Reg.netStatusMacsecUp, 0, 1, .ro, 0, false⟩,
  ⟨Reg.netStatusSpeed10, 0, 1, .ro, 0, false⟩,
  ⟨Reg.netStatusSvcLink, 0, 1, .ro, 0, false⟩,
  ⟨Reg.netStatusLink, 0, 1, .ro, 0, false⟩,
  ⟨Reg.netEventConfigApplied, 0, 1, .w1c, 0, true⟩,
  ⟨Reg.netEventStationChange, 0, 1, .w1c, 0, true⟩,
  ⟨Reg.netEventAuthFail, 0, 1, .w1c, 0, true⟩,
  ⟨Reg.netEventMacsecDown, 0, 1, .w1c, 0, true⟩,
  ⟨Reg.netEventWrongLan, 0, 1, .w1c, 0, true⟩,
  ⟨Reg.netEventSubReject, 0, 1, .w1c, 0, true⟩,
  ⟨Reg.netEventTxLate, 0, 1, .w1c, 0, true⟩,
  ⟨Reg.netEventLinkChange, 0, 1, .w1c, 0, true⟩,
  ⟨Reg.netEventCnt0ConfigCnt, 0, 1, .ro, 0, false⟩,
  ⟨Reg.netEventCnt0StationCnt, 0, 1, .ro, 0, false⟩,
  ⟨Reg.netEventCnt0AuthCnt, 0, 1, .ro, 0, false⟩,
  ⟨Reg.netEventCnt0TxLateCnt, 0, 1, .ro, 0, false⟩,
  ⟨Reg.netEventCnt1MacsecCnt, 0, 1, .ro, 0, false⟩,
  ⟨Reg.netEventCnt1WrongLanCnt, 0, 1, .ro, 0, false⟩,
  ⟨Reg.netEventCnt1SubRejectCnt, 0, 1, .ro, 0, false⟩,
  ⟨Reg.netEventCnt1LinkCnt, 0, 1, .ro, 0, false⟩,
  ⟨Reg.netStaDropLoDropLo, 0, 1, .ro, 0, false⟩,
  ⟨Reg.netStaDropHiDropHi, 0, 1, .ro, 0, false⟩,
  ⟨Reg.netCfgRevRev, 0, 1, .ro, 0, false⟩,
  ⟨Reg.netGpubStStnum 0, 4, 32, .ro, 0, false⟩,
  ⟨Reg.netPortLink 0, 4, 5, .ro, 0, false⟩,
  ⟨Reg.netPortEnabled 0, 4, 5, .ro, 0, false⟩,
  ⟨Reg.netPortRole 0, 4, 5, .ro, 0, false⟩,
  ⟨Reg.netPortSpeed 0, 4, 5, .ro, 0, false⟩,
  ⟨Reg.netPortSfpPresent 0, 4, 5, .ro, 0, false⟩,
  ⟨Reg.netPortSfpFault 0, 4, 5, .ro, 0, false⟩,
  ⟨Reg.netPortMacsecUp 0, 4, 5, .ro, 0, false⟩,
  ⟨Reg.netPortMgmt 0, 4, 5, .ro, 0, false⟩,
  ⟨Reg.netPortMms 0, 4, 5, .ro, 0, false⟩,
  ⟨Reg.netPortRxCrcCnt 0, 4, 5, .rc, 0, false⟩,
  ⟨Reg.netPortRxOversizeCnt 0, 4, 5, .rc, 0, false⟩]

def fieldRowsNet1 : List FieldRow := [
  ⟨Reg.netPortRxDropCnt 0, 4, 5, .rc, 0, false⟩,
  ⟨Reg.netPortRxAuthCnt 0, 4, 5, .rc, 0, false⟩,
  ⟨Reg.netPortTxLateCnt 0, 4, 5, .rc, 0, false⟩,
  ⟨Reg.netPortTxDropCnt 0, 4, 5, .rc, 0, false⟩,
  ⟨Reg.netRedWrongLanCnt 0, 4, 2, .rc, 0, false⟩,
  ⟨Reg.netRedMissACnt 0, 4, 2, .rc, 0, false⟩,
  ⟨Reg.netRedMissBCnt 0, 4, 2, .rc, 0, false⟩,
  ⟨Reg.netRedNodesNodes 0, 4, 2, .ro, 0, false⟩,
  ⟨Reg.netGsubEnabled 0, 4, 128, .ro, 0, false⟩,
  ⟨Reg.netGsubAlive 0, 4, 128, .ro, 0, false⟩,
  ⟨Reg.netGsubSim 0, 4, 128, .ro, 0, false⟩,
  ⟨Reg.netGsubTest 0, 4, 128, .ro, 0, false⟩,
  ⟨Reg.netGsubNdsCom 0, 4, 128, .ro, 0, false⟩,
  ⟨Reg.netGsubAuthFail 0, 4, 128, .ro, 0, false⟩,
  ⟨Reg.netGsubSeqAnomCnt 0, 4, 128, .rc, 0, false⟩,
  ⟨Reg.netGsubRejectCnt 0, 4, 128, .rc, 0, false⟩,
  ⟨Reg.netGpubEnabled 0, 4, 32, .ro, 0, false⟩,
  ⟨Reg.netGpubSending 0, 4, 32, .ro, 0, false⟩,
  ⟨Reg.netGpubDiscarding 0, 4, 32, .ro, 0, false⟩,
  ⟨Reg.netGpubTxFrames 0, 4, 32, .ro, 0, false⟩]

def fieldRowsFio0 : List FieldRow := [
  ⟨Reg.fioIdBlock, 0, 1, .ro, 6, false⟩,
  ⟨Reg.fioIdMajor, 0, 1, .ro, 0, false⟩,
  ⟨Reg.fioIdMinor, 0, 1, .ro, 0, false⟩,
  ⟨Reg.fioStatusDioFault, 0, 1, .w1c, 0, true⟩,
  ⟨Reg.fioStatusFldLow, 0, 1, .ro, 0, false⟩,
  ⟨Reg.fioStatusLockout, 0, 1, .ro, 0, false⟩,
  ⟨Reg.fioStatusDrive, 0, 1, .ro, 0, false⟩,
  ⟨Reg.fioStatusAoReg, 0, 1, .ro, 0, false⟩,
  ⟨Reg.fioEventConfigApplied, 0, 1, .w1c, 0, true⟩,
  ⟨Reg.fioEventLockout, 0, 1, .w1c, 0, true⟩,
  ⟨Reg.fioEventFldLow, 0, 1, .w1c, 0, true⟩,
  ⟨Reg.fioEventAoSense, 0, 1, .w1c, 0, true⟩,
  ⟨Reg.fioEventAoOvertemp, 0, 1, .w1c, 0, true⟩,
  ⟨Reg.fioEventAoCompliance, 0, 1, .w1c, 0, true⟩,
  ⟨Reg.fioEventAoOpen, 0, 1, .w1c, 0, true⟩,
  ⟨Reg.fioEventAiFail, 0, 1, .w1c, 0, true⟩,
  ⟨Reg.fioEventCnt0ConfigCnt, 0, 1, .ro, 0, false⟩,
  ⟨Reg.fioEventCnt0LockoutCnt, 0, 1, .ro, 0, false⟩,
  ⟨Reg.fioEventCnt0FldLowCnt, 0, 1, .ro, 0, false⟩,
  ⟨Reg.fioEventCnt0SenseCnt, 0, 1, .ro, 0, false⟩,
  ⟨Reg.fioEventCnt1OvertempCnt, 0, 1, .ro, 0, false⟩,
  ⟨Reg.fioEventCnt1ComplianceCnt, 0, 1, .ro, 0, false⟩,
  ⟨Reg.fioEventCnt1OpenCnt, 0, 1, .ro, 0, false⟩,
  ⟨Reg.fioEventCnt1AiFailCnt, 0, 1, .ro, 0, false⟩,
  ⟨Reg.fioEventCnt2DioCnt, 0, 1, .ro, 0, false⟩,
  ⟨Reg.fioDiRaw, 0, 1, .ro, 0, false⟩,
  ⟨Reg.fioDiState, 0, 1, .ro, 0, false⟩,
  ⟨Reg.fioDoCmd, 0, 1, .ro, 0, false⟩,
  ⟨Reg.fioDoDrive, 0, 1, .ro, 0, false⟩,
  ⟨Reg.fioDoRb, 0, 1, .ro, 0, false⟩,
  ⟨Reg.fioFld24Mv, 0, 1, .ro, 0, false⟩,
  ⟨Reg.fioCfgRevRev, 0, 1, .ro, 0, false⟩,
  ⟨Reg.fioFld24MinMinMv, 0, 1, .rc, 65535, false⟩,
  ⟨Reg.fioAiLimit 0, 4, 4, .ro, 0, false⟩,
  ⟨Reg.fioAiClass 0, 4, 4, .ro, 0, false⟩,
  ⟨Reg.fioAiI 0, 4, 4, .ro, 0, false⟩,
  ⟨Reg.fioAoOpen 0, 4, 4, .ro, 0, false⟩,
  ⟨Reg.fioAoCompliance 0, 4, 4, .ro, 0, false⟩,
  ⟨Reg.fioAoOvertemp 0, 4, 4, .ro, 0, false⟩,
  ⟨Reg.fioAoSenseFault 0, 4, 4, .ro, 0, false⟩]

def fieldRowsFio1 : List FieldRow := [
  ⟨Reg.fioAoRegulating 0, 4, 4, .ro, 0, false⟩,
  ⟨Reg.fioAoI 0, 4, 4, .ro, 0, false⟩,
  ⟨Reg.fioAoSetSet 0, 4, 4, .ro, 0, false⟩]

def fieldRowsCan0 : List FieldRow := [
  ⟨Reg.canIdBlock, 0, 1, .ro, 7, false⟩,
  ⟨Reg.canIdMajor, 0, 1, .ro, 0, false⟩,
  ⟨Reg.canIdMinor, 0, 1, .ro, 0, false⟩,
  ⟨Reg.canStatusNormal1, 0, 1, .ro, 0, false⟩,
  ⟨Reg.canStatusNormal0, 0, 1, .ro, 0, false⟩,
  ⟨Reg.canStatusEnabled1, 0, 1, .ro, 0, false⟩,
  ⟨Reg.canStatusEnabled0, 0, 1, .ro, 0, false⟩,
  ⟨Reg.canEventConfigApplied, 0, 1, .w1c, 0, true⟩,
  ⟨Reg.canEventBusOff1, 0, 1, .w1c, 0, true⟩,
  ⟨Reg.canEventPassive1, 0, 1, .w1c, 0, true⟩,
  ⟨Reg.canEventTxFail1, 0, 1, .w1c, 0, true⟩,
  ⟨Reg.canEventPex1, 0, 1, .w1c, 0, true⟩,
  ⟨Reg.canEventBusOff0, 0, 1, .w1c, 0, true⟩,
  ⟨Reg.canEventPassive0, 0, 1, .w1c, 0, true⟩,
  ⟨Reg.canEventTxFail0, 0, 1, .w1c, 0, true⟩,
  ⟨Reg.canEventPex0, 0, 1, .w1c, 0, true⟩,
  ⟨Reg.canEventCnt0BusOffCnt, 0, 1, .ro, 0, false⟩,
  ⟨Reg.canEventCnt0PassiveCnt, 0, 1, .ro, 0, false⟩,
  ⟨Reg.canEventCnt0TxFailCnt, 0, 1, .ro, 0, false⟩,
  ⟨Reg.canEventCnt0PexCnt, 0, 1, .ro, 0, false⟩,
  ⟨Reg.canEventCnt1BusOffCnt, 0, 1, .ro, 0, false⟩,
  ⟨Reg.canEventCnt1PassiveCnt, 0, 1, .ro, 0, false⟩,
  ⟨Reg.canEventCnt1TxFailCnt, 0, 1, .ro, 0, false⟩,
  ⟨Reg.canEventCnt1PexCnt, 0, 1, .ro, 0, false⟩,
  ⟨Reg.canCtrlState 0, 4, 2, .ro, 0, false⟩,
  ⟨Reg.canCtrlWarn 0, 4, 2, .ro, 0, false⟩,
  ⟨Reg.canCtrlFd 0, 4, 2, .ro, 0, false⟩,
  ⟨Reg.canCtrlTec 0, 4, 2, .ro, 0, false⟩,
  ⟨Reg.canCtrlRec 0, 4, 2, .ro, 0, false⟩,
  ⟨Reg.canCtrlRecov 0, 4, 2, .ro, 0, false⟩,
  ⟨Reg.canCtrlErrBitCnt 0, 4, 2, .rc, 0, false⟩,
  ⟨Reg.canCtrlErrStuffCnt 0, 4, 2, .rc, 0, false⟩,
  ⟨Reg.canCtrlErrFormCnt 0, 4, 2, .rc, 0, false⟩,
  ⟨Reg.canCtrlErrAckCnt 0, 4, 2, .rc, 0, false⟩,
  ⟨Reg.canCtrlCntCrcCnt 0, 4, 2, .rc, 0, false⟩,
  ⟨Reg.canCtrlCntArbLostCnt 0, 4, 2, .rc, 0, false⟩,
  ⟨Reg.canCtrlCntRxFrames 0, 4, 2, .ro, 0, false⟩,
  ⟨Reg.canCtrlLogLastSeq 0, 4, 2, .ro, 0, false⟩,
  ⟨Reg.canCfgRevRev, 0, 1, .ro, 0, false⟩]

def fieldRowsHhk0 : List FieldRow := [
  ⟨Reg.hhkIdBlock, 0, 1, .ro, 8, false⟩,
  ⟨Reg.hhkIdMajor, 0, 1, .ro, 0, false⟩,
  ⟨Reg.hhkIdMinor, 0, 1, .ro, 0, false⟩,
  ⟨Reg.hhkPairStatusOwnLine, 0, 1, .ro, 0, false⟩,
  ⟨Reg.hhkPairStatusOwnHeld, 0, 1, .ro, 0, false⟩,
  ⟨Reg.hhkPairStatusArmed, 0, 1, .ro, 0, false⟩,
  ⟨Reg.hhkPairStatusPairOkAlive, 0, 1, .ro, 0, false⟩,
  ⟨Reg.hhkPairStatusKillOut, 0, 1, .ro, 0, false⟩,
  ⟨Reg.hhkPairStatusKillIn, 0, 1, .ro, 0, false⟩,
  ⟨Reg.hhkPairStatusHhkUp, 0, 1, .ro, 0, false⟩,
  ⟨Reg.hhkPairStatusSelfSnap, 0, 1, .ro, 0, false⟩,
  ⟨Reg.hhkPairStatusRank, 0, 1, .ro, 0, false⟩,
  ⟨Reg.hhkPairStatusPeerRole, 0, 1, .ro, 0, false⟩,
  ⟨Reg.hhkPairEventTakeover, 0, 1, .w1c, 0, true⟩,
  ⟨Reg.hhkPairEventHandover, 0, 1, .w1c, 0, true⟩,
  ⟨Reg.hhkPairEventMismatch, 0, 1, .w1c, 0, true⟩,
  ⟨Reg.hhkPairEventSelfSnapshot, 0, 1, .w1c, 0, true⟩,
  ⟨Reg.hhkPairEventPairLine, 0, 1, .w1c, 0, true⟩,
  ⟨Reg.hhkPairEventHhkLost, 0, 1, .w1c, 0, true⟩,
  ⟨Reg.hhkPairEventOwnFault, 0, 1, .w1c, 0, true⟩,
  ⟨Reg.hhkPairEventKilled, 0, 1, .w1c, 0, true⟩,
  ⟨Reg.hhkPairEventCnt0TakeoverCnt, 0, 1, .ro, 0, false⟩,
  ⟨Reg.hhkPairEventCnt0HandoverCnt, 0, 1, .ro, 0, false⟩,
  ⟨Reg.hhkPairEventCnt0MismatchCnt, 0, 1, .ro, 0, false⟩,
  ⟨Reg.hhkPairEventCnt0SelfCnt, 0, 1, .ro, 0, false⟩,
  ⟨Reg.hhkPairEventCnt1PairLineCnt, 0, 1, .ro, 0, false⟩,
  ⟨Reg.hhkPairEventCnt1HhkLostCnt, 0, 1, .ro, 0, false⟩,
  ⟨Reg.hhkPairEventCnt1OwnFaultCnt, 0, 1, .ro, 0, false⟩,
  ⟨Reg.hhkPairEventCnt1KilledCnt, 0, 1, .ro, 0, false⟩,
  ⟨Reg.hhkPairGapMaxNs, 0, 1, .rc, 0, false⟩,
  ⟨Reg.hhkPairGapLastNs, 0, 1, .ro, 0, false⟩,
  ⟨Reg.hhkPairSigmissCnt, 0, 1, .rc, 0, false⟩,
  ⟨Reg.hhkPairResyncPhase, 0, 1, .ro, 0, false⟩,
  ⟨Reg.hhkPairResyncKibLeft, 0, 1, .ro, 0, false⟩,
  ⟨Reg.hhkPairCkptValid 0, 4, 3, .ro, 0, false⟩,
  ⟨Reg.hhkPairCkptRunning 0, 4, 3, .ro, 0, false⟩,
  ⟨Reg.hhkPairCkptAgeMs 0, 4, 3, .ro, 65535, false⟩,
  ⟨Reg.hhkStatusLaneUp, 0, 1, .ro, 0, false⟩,
  ⟨Reg.hhkStatusDegraded, 0, 1, .ro, 0, false⟩,
  ⟨Reg.hhkStatusKeyOk, 0, 1, .ro, 0, false⟩]

def fieldRowsHhk1 : List FieldRow := [
  ⟨Reg.hhkStatusKeyEpoch, 0, 1, .ro, 0, false⟩,
  ⟨Reg.hhkEventMinority, 0, 1, .w1c, 0, true⟩,
  ⟨Reg.hhkEventPartial, 0, 1, .w1c, 0, true⟩,
  ⟨Reg.hhkEventDelayJump, 0, 1, .w1c, 0, true⟩,
  ⟨Reg.hhkEventMiswire, 0, 1, .w1c, 0, true⟩,
  ⟨Reg.hhkEventReplay, 0, 1, .w1c, 0, true⟩,
  ⟨Reg.hhkEventAuthFail, 0, 1, .w1c, 0, true⟩,
  ⟨Reg.hhkEventLaneBack, 0, 1, .w1c, 0, true⟩,
  ⟨Reg.hhkEventLaneLost, 0, 1, .w1c, 0, true⟩,
  ⟨Reg.hhkEventCnt0MinorityCnt, 0, 1, .ro, 0, false⟩,
  ⟨Reg.hhkEventCnt0PartialCnt, 0, 1, .ro, 0, false⟩,
  ⟨Reg.hhkEventCnt0DelayJumpCnt, 0, 1, .ro, 0, false⟩,
  ⟨Reg.hhkEventCnt0LaneBackCnt, 0, 1, .ro, 0, false⟩,
  ⟨Reg.hhkEventCnt1MiswireCnt, 0, 1, .ro, 0, false⟩,
  ⟨Reg.hhkEventCnt1ReplayCnt, 0, 1, .ro, 0, false⟩,
  ⟨Reg.hhkEventCnt1AuthFailCnt, 0, 1, .ro, 0, false⟩,
  ⟨Reg.hhkEventCnt1LaneLostCnt, 0, 1, .ro, 0, false⟩,
  ⟨Reg.hhkpLinkLane0State 0, 16, 2, .ro, 0, false⟩,
  ⟨Reg.hhkpLinkLane1State 0, 16, 2, .ro, 0, false⟩,
  ⟨Reg.hhkpLinkPeerSlot 0, 16, 2, .ro, 0, false⟩,
  ⟨Reg.hhkpLinkPeerRank 0, 16, 2, .ro, 0, false⟩,
  ⟨Reg.hhkpErrBlockErrCnt 0, 16, 2, .rc, 0, false⟩,
  ⟨Reg.hhkpErrAuthCnt 0, 16, 2, .rc, 0, false⟩,
  ⟨Reg.hhkpErrLostFrameCnt 0, 16, 2, .rc, 0, false⟩,
  ⟨Reg.hhkpErrRelayCnt 0, 16, 2, .rc, 0, false⟩,
  ⟨Reg.hhkpDelayDelayPs 0, 16, 2, .ro, 0, false⟩,
  ⟨Reg.hhkpOffsetOffsetPs 0, 16, 2, .ro, 0, false⟩,
  ⟨Reg.hhkTriadHeld, 0, 1, .ro, 0, false⟩,
  ⟨Reg.hhkTriadInStep, 0, 1, .ro, 0, false⟩,
  ⟨Reg.hhkTriadMasterRank, 0, 1, .ro, 0, false⟩,
  ⟨Reg.hhkAgreeDiffCnt, 0, 1, .rc, 0, false⟩,
  ⟨Reg.hhkAgreePendingCnt, 0, 1, .rc, 0, false⟩]

def fieldRowsLck0 : List FieldRow := [
  ⟨Reg.lckIdBlock, 0, 1, .ro, 9, false⟩,
  ⟨Reg.lckIdMajor, 0, 1, .ro, 0, false⟩,
  ⟨Reg.lckIdMinor, 0, 1, .ro, 0, false⟩,
  ⟨Reg.lckStatusGuarantee, 0, 1, .ro, 0, false⟩,
  ⟨Reg.lckStatusTaint, 0, 1, .ro, 0, false⟩,
  ⟨Reg.lckStatusSplit, 0, 1, .ro, 0, false⟩,
  ⟨Reg.lckStatusDiagOff, 0, 1, .ro, 0, false⟩,
  ⟨Reg.lckStatusReleased, 0, 1, .ro, 0, false⟩,
  ⟨Reg.lckStatusGrouped, 0, 1, .ro, 0, false⟩,
  ⟨Reg.lckStatusComparing, 0, 1, .ro, 0, false⟩,
  ⟨Reg.lckEventTaint, 0, 1, .w1c, 0, true⟩,
  ⟨Reg.lckEventCompFail, 0, 1, .w1c, 0, true⟩,
  ⟨Reg.lckEventDelayPar, 0, 1, .w1c, 0, true⟩,
  ⟨Reg.lckEventStateSig, 0, 1, .w1c, 0, true⟩,
  ⟨Reg.lckEventDpMismatch, 0, 1, .w1c, 0, true⟩,
  ⟨Reg.lckEventBusMismatch, 0, 1, .w1c, 0, true⟩,
  ⟨Reg.lckEventLate, 0, 1, .w1c, 0, true⟩,
  ⟨Reg.lckEventRecord, 0, 1, .w1c, 0, true⟩,
  ⟨Reg.lckEventCnt0CompCnt, 0, 1, .ro, 0, false⟩,
  ⟨Reg.lckEventCnt0StateCnt, 0, 1, .ro, 0, false⟩,
  ⟨Reg.lckEventCnt0MismCnt, 0, 1, .ro, 0, false⟩,
  ⟨Reg.lckEventCnt0RecordCnt, 0, 1, .ro, 0, false⟩,
  ⟨Reg.lckDiagCtrlLock, 0, 1, .ro, 0, false⟩,
  ⟨Reg.lckDiagCtrlNandSweepEn, 0, 1, .rwl, 1, true⟩,
  ⟨Reg.lckDiagCtrlDramScrubEn, 0, 1, .rwl, 1, true⟩,
  ⟨Reg.lckDiagCtrlSramScrubEn, 0, 1, .rwl, 1, true⟩,
  ⟨Reg.lckDiagCtrlStateSigEn, 0, 1, .rwl, 1, true⟩,
  ⟨Reg.lckDiagCtrlInjectEn, 0, 1, .rwl, 1, true⟩,
  ⟨Reg.lckFaultClass, 0, 1, .ro, 0, false⟩,
  ⟨Reg.lckFaultUnit, 0, 1, .ro, 0, false⟩,
  ⟨Reg.lckFaultPort, 0, 1, .ro, 0, false⟩,
  ⟨Reg.lckFaultTK, 0, 1, .ro, 0, false⟩,
  ⟨Reg.lckFaultTOfsNs, 0, 1, .ro, 0, false⟩,
  ⟨Reg.lckTestLastOk, 0, 1, .ro, 0, false⟩,
  ⟨Reg.lckTestUnitsFailed, 0, 1, .ro, 0, false⟩,
  ⟨Reg.lckTestsRunCnt, 0, 1, .ro, 0, false⟩,
  ⟨Reg.lckUnitRecStateRecCnt 0, 4, 16, .rc, 0, false⟩,
  ⟨Reg.lckUnitRecBusRecCnt 0, 4, 16, .rc, 0, false⟩]

def fieldRowsMem0 : List FieldRow := [
  ⟨Reg.memIdBlock, 0, 1, .ro, 10, false⟩,
  ⟨Reg.memIdMajor, 0, 1, .ro, 0, false⟩,
  ⟨Reg.memIdMinor, 0, 1, .ro, 0, false⟩,
  ⟨Reg.memStatusState, 0, 1, .ro, 0, false⟩,
  ⟨Reg.memStatusRetiredDev, 0, 1, .ro, 7, false⟩,
  ⟨Reg.memStatusSecondDev, 0, 1, .ro, 7, false⟩,
  ⟨Reg.memStatusDscrubOn, 0, 1, .ro, 0, false⟩,
  ⟨Reg.memStatusSscrubOn, 0, 1, .ro, 0, false⟩,
  ⟨Reg.memEventRetire, 0, 1, .w1c, 0, true⟩,
  ⟨Reg.memEventDramUe, 0, 1, .w1c, 0, true⟩,
  ⟨Reg.memEventDramCe, 0, 1, .w1c, 0, true⟩,
  ⟨Reg.memEventSramUe, 0, 1, .w1c, 0, true⟩,
  ⟨Reg.memEventSramCe, 0, 1, .w1c, 0, true⟩,
  ⟨Reg.memEventDramScrubLate, 0, 1, .w1c, 0, true⟩,
  ⟨Reg.memEventSramScrubLate, 0, 1, .w1c, 0, true⟩,
  ⟨Reg.memEventLogOvf, 0, 1, .w1c, 0, true⟩,
  ⟨Reg.memEventCnt0RetireCnt, 0, 1, .ro, 0, false⟩,
  ⟨Reg.memEventCnt0DramUeCnt, 0, 1, .ro, 0, false⟩,
  ⟨Reg.memEventCnt0DramCeCnt, 0, 1, .ro, 0, false⟩,
  ⟨Reg.memEventCnt0SramUeCnt, 0, 1, .ro, 0, false⟩,
  ⟨Reg.memEventCnt1SramCeCnt, 0, 1, .ro, 0, false⟩,
  ⟨Reg.memEventCnt1DscrubLateCnt, 0, 1, .ro, 0, false⟩,
  ⟨Reg.memEventCnt1SscrubLateCnt, 0, 1, .ro, 0, false⟩,
  ⟨Reg.memEventCnt1LogOvfCnt, 0, 1, .ro, 0, false⟩,
  ⟨Reg.memDscrubPosLine, 0, 1, .ro, 0, false⟩,
  ⟨Reg.memDscrubPassCnt, 0, 1, .ro, 0, false⟩,
  ⟨Reg.memSscrubPassCnt, 0, 1, .ro, 0, false⟩,
  ⟨Reg.memMaxSymMaxSym, 0, 1, .rc, 0, false⟩,
  ⟨Reg.memSramCeCnt, 0, 1, .rc, 0, false⟩,
  ⟨Reg.memLogStatClear, 0, 1, .wo, 0, true⟩,
  ⟨Reg.memLogStatOverflow, 0, 1, .rc, 0, false⟩,
  ⟨Reg.memLogStatCount, 0, 1, .ro, 0, false⟩,
  ⟨Reg.memLogStatOldest, 0, 1, .ro, 0, false⟩,
  ⟨Reg.memDevPassLines 0, 4, 6, .ro, 0, false⟩,
  ⟨Reg.memDevCeCnt 0, 4, 6, .rc, 0, false⟩,
  ⟨Reg.memLogLocMemory 0, 16, 16, .ro, 0, false⟩,
  ⟨Reg.memLogLocIndex 0, 16, 16, .ro, 0, false⟩,
  ⟨Reg.memLogInfoSource 0, 16, 16, .ro, 0, false⟩,
  ⟨Reg.memLogInfoSymbols 0, 16, 16, .ro, 0, false⟩,
  ⟨Reg.memLogInfoDevices 0, 16, 16, .ro, 0, false⟩]

def fieldRowsMem1 : List FieldRow := [
  ⟨Reg.memLogInfoKind 0, 16, 16, .ro, 0, false⟩,
  ⟨Reg.memLogTK 0, 16, 16, .ro, 0, false⟩,
  ⟨Reg.memLogTOfsNs 0, 16, 16, .ro, 0, false⟩,
  ⟨Reg.memLogSecSecLo 0, 16, 16, .ro, 0, false⟩]

def fieldRowsGate0 : List FieldRow := [
  ⟨Reg.gateIdBlock, 0, 1, .ro, 11, false⟩,
  ⟨Reg.gateIdMajor, 0, 1, .ro, 0, false⟩,
  ⟨Reg.gateIdMinor, 0, 1, .ro, 0, false⟩,
  ⟨Reg.gateStatusSealed, 0, 1, .ro, 0, false⟩,
  ⟨Reg.gateStatusPending, 0, 1, .ro, 0, false⟩,
  ⟨Reg.gateEventDrainAbort, 0, 1, .w1c, 0, true⟩,
  ⟨Reg.gateEventWriteSealed, 0, 1, .w1c, 0, true⟩,
  ⟨Reg.gateEventRingReject, 0, 1, .w1c, 0, true⟩,
  ⟨Reg.gateEventFifoOvf, 0, 1, .w1c, 0, true⟩,
  ⟨Reg.gateEventViolation, 0, 1, .w1c, 0, true⟩,
  ⟨Reg.gateEventCnt0DrainCnt, 0, 1, .ro, 0, false⟩,
  ⟨Reg.gateEventCnt0SealedCnt, 0, 1, .ro, 0, false⟩,
  ⟨Reg.gateEventCnt0OvfCnt, 0, 1, .ro, 0, false⟩,
  ⟨Reg.gateEventCnt0ViolCnt, 0, 1, .ro, 0, false⟩,
  ⟨Reg.gateSealSeal, 0, 1, .wo, 0, false⟩,
  ⟨Reg.gateGCtrlSealed 0, 2048, 16, .ro, 0, false⟩,
  ⟨Reg.gateGCtrlState 0, 2048, 16, .ro, 2, false⟩,
  ⟨Reg.gateGCtrlDrainAbortCnt 0, 2048, 16, .ro, 0, false⟩,
  ⟨Reg.gateGCtrlLocked 0, 2048, 16, .ro, 0, false⟩,
  ⟨Reg.gateGFifoOverflow 0, 2048, 16, .rc, 0, false⟩,
  ⟨Reg.gateGFifoCount 0, 2048, 16, .ro, 0, false⟩,
  ⟨Reg.gateGPopPop 0, 2048, 16, .wo, 0, true⟩,
  ⟨Reg.gateGAddrLoAddrLo 0, 2048, 16, .ro, 0, false⟩,
  ⟨Reg.gateGAddrHiGate 0, 2048, 16, .ro, 0, false⟩,
  ⟨Reg.gateGAddrHiAddrHi 0, 2048, 16, .ro, 0, false⟩,
  ⟨Reg.gateGInfoMaster 0, 2048, 16, .ro, 0, false⟩,
  ⟨Reg.gateGInfoRegion 0, 2048, 16, .ro, 0, false⟩,
  ⟨Reg.gateGInfoWorld 0, 2048, 16, .ro, 0, false⟩,
  ⟨Reg.gateGInfoPriv 0, 2048, 16, .ro, 0, false⟩,
  ⟨Reg.gateGInfoKind 0, 2048, 16, .ro, 0, false⟩,
  ⟨Reg.gateGInfoSize 0, 2048, 16, .ro, 0, false⟩,
  ⟨Reg.gateGInfoBurst 0, 2048, 16, .ro, 0, false⟩,
  ⟨Reg.gateGInfoCause 0, 2048, 16, .ro, 0, false⟩,
  ⟨Reg.gateGTK 0, 2048, 16, .ro, 0, false⟩,
  ⟨Reg.gateGTOfsNs 0, 2048, 16, .ro, 0, false⟩,
  ⟨Reg.gateGSecSecLo 0, 2048, 16, .ro, 0, false⟩]

def fieldRowsSec0 : List FieldRow := [
  ⟨Reg.secIdBlock, 0, 1, .ro, 12, false⟩,
  ⟨Reg.secIdMajor, 0, 1, .ro, 0, false⟩,
  ⟨Reg.secIdMinor, 0, 1, .ro, 0, false⟩,
  ⟨Reg.secStatusSlot, 0, 1, .ro, 0, false⟩,
  ⟨Reg.secStatusTrial, 0, 1, .ro, 0, false⟩,
  ⟨Reg.secStatusBootAlt, 0, 1, .ro, 0, false⟩,
  ⟨Reg.secStatusLock, 0, 1, .ro, 0, false⟩,
  ⟨Reg.secStatusRootRevoked, 0, 1, .ro, 0, false⟩,
  ⟨Reg.secStatusRootPresent, 0, 1, .ro, 0, false⟩,
  ⟨Reg.secStatusCounter, 0, 1, .ro, 0, false⟩,
  ⟨Reg.secStatusSecver, 0, 1, .ro, 0, false⟩,
  ⟨Reg.secEventConfirmed, 0, 1, .w1c, 0, true⟩,
  ⟨Reg.secEventFallback, 0, 1, .w1c, 0, true⟩,
  ⟨Reg.secEventVerifyFail, 0, 1, .w1c, 0, true⟩,
  ⟨Reg.secEventRollbackRefused, 0, 1, .w1c, 0, true⟩,
  ⟨Reg.secEventRootRevoked, 0, 1, .w1c, 0, true⟩,
  ⟨Reg.secEventLockBusy, 0, 1, .w1c, 0, true⟩,
  ⟨Reg.secEventKeyRotated, 0, 1, .w1c, 0, true⟩,
  ⟨Reg.secEventEnrolFail, 0, 1, .w1c, 0, true⟩,
  ⟨Reg.secEventCnt0ConfirmedCnt, 0, 1, .ro, 0, false⟩,
  ⟨Reg.secEventCnt0FallbackCnt, 0, 1, .ro, 0, false⟩,
  ⟨Reg.secEventCnt0VerifyCnt, 0, 1, .ro, 0, false⟩,
  ⟨Reg.secEventCnt0RollbackCnt, 0, 1, .ro, 0, false⟩,
  ⟨Reg.secEventCnt1RootCnt, 0, 1, .ro, 0, false⟩,
  ⟨Reg.secEventCnt1BusyCnt, 0, 1, .ro, 0, false⟩,
  ⟨Reg.secEventCnt1KeyCnt, 0, 1, .ro, 0, false⟩,
  ⟨Reg.secEventCnt1EnrolCnt, 0, 1, .ro, 0, false⟩,
  ⟨Reg.secTrialLeftSec, 0, 1, .ro, 0, false⟩,
  ⟨Reg.secBootTimeMs, 0, 1, .ro, 0, false⟩,
  ⟨Reg.secMeasL1nDigest 0, 4, 12, .ro, 0, false⟩,
  ⟨Reg.secMeasFwDigest 0, 4, 12, .ro, 0, false⟩]

def fieldRowsNvs0 : List FieldRow := [
  ⟨Reg.nvsIdBlock, 0, 1, .ro, 13, false⟩,
  ⟨Reg.nvsIdMajor, 0, 1, .ro, 0, false⟩,
  ⟨Reg.nvsIdMinor, 0, 1, .ro, 0, false⟩,
  ⟨Reg.nvsStatusArchRo, 0, 1, .ro, 0, false⟩,
  ⟨Reg.nvsStatusExhausted, 0, 1, .ro, 0, false⟩,
  ⟨Reg.nvsStatusSweepOn, 0, 1, .ro, 0, false⟩,
  ⟨Reg.nvsStatusSweepPct, 0, 1, .ro, 0, false⟩,
  ⟨Reg.nvsEventArchRo, 0, 1, .w1c, 0, true⟩,
  ⟨Reg.nvsEventReserveExhausted, 0, 1, .w1c, 0, true⟩,
  ⟨Reg.nvsEventSpareLow, 0, 1, .w1c, 0, true⟩,
  ⟨Reg.nvsEventBlockRetired, 0, 1, .w1c, 0, true⟩,
  ⟨Reg.nvsEventUncorrectable, 0, 1, .w1c, 0, true⟩,
  ⟨Reg.nvsEventSoftRead, 0, 1, .w1c, 0, true⟩,
  ⟨Reg.nvsEventSweepLate, 0, 1, .w1c, 0, true⟩,
  ⟨Reg.nvsEventLogSuppressed, 0, 1, .w1c, 0, true⟩,
  ⟨Reg.nvsEventCnt0ArchRoCnt, 0, 1, .ro, 0, false⟩,
  ⟨Reg.nvsEventCnt0ExhaustCnt, 0, 1, .ro, 0, false⟩,
  ⟨Reg.nvsEventCnt0SpareLowCnt, 0, 1, .ro, 0, false⟩,
  ⟨Reg.nvsEventCnt0RetiredCnt, 0, 1, .ro, 0, false⟩,
  ⟨Reg.nvsEventCnt1UncorrCnt, 0, 1, .ro, 0, false⟩,
  ⟨Reg.nvsEventCnt1SoftCnt, 0, 1, .ro, 0, false⟩,
  ⟨Reg.nvsEventCnt1SweepLateCnt, 0, 1, .ro, 0, false⟩,
  ⟨Reg.nvsEventCnt1SuppressCnt, 0, 1, .ro, 0, false⟩,
  ⟨Reg.nvsArchRecords, 0, 1, .ro, 0, false⟩,
  ⟨Reg.nvsArchFreeGib, 0, 1, .ro, 0, false⟩,
  ⟨Reg.nvsLogSuppressed, 0, 1, .rc, 0, false⟩,
  ⟨Reg.nvsLogSeqSeq, 0, 1, .ro, 0, false⟩,
  ⟨Reg.nvsLifeSeqSeq, 0, 1, .ro, 0, false⟩,
  ⟨Reg.nvsSweepPassCnt, 0, 1, .ro, 0, false⟩,
  ⟨Reg.nvsMaxBitsBits, 0, 1, .rc, 0, false⟩,
  ⟨Reg.nvsRegSpareSpareLeft 0, 4, 6, .ro, 0, false⟩,
  ⟨Reg.nvsRegSpareRetired 0, 4, 6, .ro, 0, false⟩,
  ⟨Reg.nvsRegWearMaxPe 0, 4, 6, .ro, 0, false⟩,
  ⟨Reg.nvsRegWearMeanPe 0, 4, 6, .ro, 0, false⟩]

def fieldRowsBkd0 : List FieldRow := [
  ⟨Reg.bkdIdBlock, 0, 1, .ro, 14, false⟩,
  ⟨Reg.bkdIdMajor, 0, 1, .ro, 0, false⟩,
  ⟨Reg.bkdIdMinor, 0, 1, .ro, 0, false⟩,
  ⟨Reg.bkdStatusSupply, 0, 1, .ro, 2, false⟩,
  ⟨Reg.bkdStatusTimeLost, 0, 1, .ro, 1, false⟩,
  ⟨Reg.bkdStatusBytesOk, 0, 1, .ro, 0, false⟩,
  ⟨Reg.bkdStatusTrimmed, 0, 1, .ro, 0, false⟩,
  ⟨Reg.bkdStatusParkPending, 0, 1, .ro, 0, false⟩,
  ⟨Reg.bkdEventAlarm, 0, 1, .w1c, 0, true⟩,
  ⟨Reg.bkdEventSkipped, 0, 1, .w1c, 0, true⟩,
  ⟨Reg.bkdEventTimeLost, 0, 1, .w1c, 1, true⟩,
  ⟨Reg.bkdEventParkRefused, 0, 1, .w1c, 0, true⟩,
  ⟨Reg.bkdEventParkAborted, 0, 1, .w1c, 0, true⟩,
  ⟨Reg.bkdEventSupplyChange, 0, 1, .w1c, 0, true⟩,
  ⟨Reg.bkdEventCellLow, 0, 1, .w1c, 0, true⟩,
  ⟨Reg.bkdEventTrimStep, 0, 1, .w1c, 0, true⟩,
  ⟨Reg.bkdEventCnt0AlarmCnt, 0, 1, .ro, 0, false⟩,
  ⟨Reg.bkdEventCnt0LostCnt, 0, 1, .ro, 0, false⟩,
  ⟨Reg.bkdEventCnt0SupplyCnt, 0, 1, .ro, 0, false⟩,
  ⟨Reg.bkdEventCnt0TrimStepCnt, 0, 1, .ro, 0, false⟩,
  ⟨Reg.bkdSecLoSecLo, 0, 1, .ro, 0, false⟩,
  ⟨Reg.bkdSecHiSecHi, 0, 1, .ro, 0, false⟩,
  ⟨Reg.bkdFracFrac, 0, 1, .ro, 0, false⟩,
  ⟨Reg.bkdAlarmLoAlarmLo, 0, 1, .rw, 0, true⟩,
  ⟨Reg.bkdAlarmHiArm, 0, 1, .rw, 0, true⟩,
  ⟨Reg.bkdAlarmHiWake, 0, 1, .rw, 0, true⟩,
  ⟨Reg.bkdAlarmHiAlarmHi, 0, 1, .rw, 0, true⟩,
  ⟨Reg.bkdWdWdOffset, 0, 1, .rw, 0, true⟩,
  ⟨Reg.bkdWdWd, 0, 1, .rw, 0, true⟩,
  ⟨Reg.bkdTrimPhaseErrUs, 0, 1, .ro, 0, false⟩,
  ⟨Reg.bkdTrimRate, 0, 1, .ro, 0, false⟩,
  ⟨Reg.bkdSupplyCellMv, 0, 1, .ro, 0, false⟩,
  ⟨Reg.bkdSupplyBkupMv, 0, 1, .ro, 0, false⟩,
  ⟨Reg.bkdBytesCrcCrc, 0, 1, .ro, 0, false⟩,
  ⟨Reg.bkdBytesCtrlInit, 0, 1, .wo, 0, false⟩,
  ⟨Reg.bkdPwrPark, 0, 1, .wo, 0, true⟩,
  ⟨Reg.bkdPwrWakeFeed, 0, 1, .rw, 0, true⟩,
  ⟨Reg.bkdPwrThermRestart, 0, 1, .rw, 1, true⟩,
  ⟨Reg.bkdPwrThermC, 0, 1, .rw, 70, true⟩,
  ⟨Reg.bkdPwrLastOff, 0, 1, .ro, 0, false⟩]

def fieldRowsBkd1 : List FieldRow := [
  ⟨Reg.bkdPwrWakeCause, 0, 1, .ro, 0, false⟩,
  ⟨Reg.bkdPwrThermCnt, 0, 1, .ro, 0, false⟩,
  ⟨Reg.bkdPwrState, 0, 1, .ro, 0, false⟩,
  ⟨Reg.bkdBytesWord 0, 4, 16, .ro, 0, false⟩]

def fieldRowsPwr0 : List FieldRow := [
  ⟨Reg.pwrIdBlock, 0, 1, .ro, 15, false⟩,
  ⟨Reg.pwrIdMajor, 0, 1, .ro, 0, false⟩,
  ⟨Reg.pwrIdMinor, 0, 1, .ro, 0, false⟩,
  ⟨Reg.pwrStatusFeedA, 0, 1, .ro, 0, false⟩,
  ⟨Reg.pwrStatusFeedB, 0, 1, .ro, 0, false⟩,
  ⟨Reg.pwrStatusCarrying, 0, 1, .ro, 0, false⟩,
  ⟨Reg.pwrStatusSeatedA1, 0, 1, .ro, 0, false⟩,
  ⟨Reg.pwrStatusSeatedH40, 0, 1, .ro, 0, false⟩,
  ⟨Reg.pwrStatusThermWarn, 0, 1, .ro, 0, false⟩,
  ⟨Reg.pwrStatusAvsLimit, 0, 1, .ro, 0, false⟩,
  ⟨Reg.pwrStatusMgmtCap, 0, 1, .ro, 0, false⟩,
  ⟨Reg.pwrStatusMgmtOp, 0, 1, .ro, 0, false⟩,
  ⟨Reg.pwrEventSeatPartial, 0, 1, .w1c, 0, true⟩,
  ⟨Reg.pwrEventRstRefused, 0, 1, .w1c, 0, true⟩,
  ⟨Reg.pwrEventPowerFail, 0, 1, .w1c, 0, true⟩,
  ⟨Reg.pwrEventFeedALost, 0, 1, .w1c, 0, true⟩,
  ⟨Reg.pwrEventFeedBLost, 0, 1, .w1c, 0, true⟩,
  ⟨Reg.pwrEventFeedOv, 0, 1, .w1c, 0, true⟩,
  ⟨Reg.pwrEventFeedReturn, 0, 1, .w1c, 0, true⟩,
  ⟨Reg.pwrEventThermWarn, 0, 1, .w1c, 0, true⟩,
  ⟨Reg.pwrEventStretchOver, 0, 1, .w1c, 0, true⟩,
  ⟨Reg.pwrEventAvsLimit, 0, 1, .w1c, 0, true⟩,
  ⟨Reg.pwrEventCnt0FailCnt, 0, 1, .ro, 0, false⟩,
  ⟨Reg.pwrEventCnt0ALostCnt, 0, 1, .ro, 0, false⟩,
  ⟨Reg.pwrEventCnt0BLostCnt, 0, 1, .ro, 0, false⟩,
  ⟨Reg.pwrEventCnt0OvCnt, 0, 1, .ro, 0, false⟩,
  ⟨Reg.pwrEventCnt1ReturnCnt, 0, 1, .ro, 0, false⟩,
  ⟨Reg.pwrEventCnt1WarnCnt, 0, 1, .ro, 0, false⟩,
  ⟨Reg.pwrEventCnt1StretchCnt, 0, 1, .ro, 0, false⟩,
  ⟨Reg.pwrEventCnt1AvsCnt, 0, 1, .ro, 0, false⟩,
  ⟨Reg.pwrFeedaMv, 0, 1, .ro, 0, false⟩,
  ⟨Reg.pwrFeedaMa, 0, 1, .ro, 0, false⟩,
  ⟨Reg.pwrFeedbMv, 0, 1, .ro, 0, false⟩,
  ⟨Reg.pwrFeedbMa, 0, 1, .ro, 0, false⟩,
  ⟨Reg.pwrInputMaxMw, 0, 1, .rc, 0, false⟩,
  ⟨Reg.pwrInputMw, 0, 1, .ro, 0, false⟩,
  ⟨Reg.pwrTempDie, 0, 1, .ro, 0, false⟩,
  ⟨Reg.pwrTempBoard, 0, 1, .ro, 0, false⟩,
  ⟨Reg.pwrTempMaxDieMax, 0, 1, .rc, 32768, false⟩,
  ⟨Reg.pwrTempMaxBoardMax, 0, 1, .rc, 32768, false⟩]

def fieldRowsPwr1 : List FieldRow := [
  ⟨Reg.pwrAvsCoreMv, 0, 1, .ro, 0, false⟩,
  ⟨Reg.pwrStretchMaxCenti, 0, 1, .rc, 0, false⟩,
  ⟨Reg.pwrStretchOverCnt, 0, 1, .rc, 0, false⟩,
  ⟨Reg.pwrDroopsCnt, 0, 1, .ro, 0, false⟩,
  ⟨Reg.pwrUptimeSec, 0, 1, .ro, 0, false⟩,
  ⟨Reg.pwrClkGated, 0, 1, .ro, 0, false⟩,
  ⟨Reg.pwrClkRunning, 0, 1, .ro, 0, false⟩,
  ⟨Reg.pwrRstCauseLastType, 0, 1, .ro, 0, false⟩,
  ⟨Reg.pwrRstCauseColdCause, 0, 1, .ro, 1, false⟩,
  ⟨Reg.pwrRstCauseWarmCause, 0, 1, .ro, 0, false⟩,
  ⟨Reg.pwrRstCauseDomains, 0, 1, .ro, 0, false⟩,
  ⟨Reg.pwrRstCtrlWarm, 0, 1, .wo, 0, true⟩,
  ⟨Reg.pwrRstCtrlDomain, 0, 1, .wo, 0, true⟩]

/-- Every field row of the register tables but the gate and MPU entries (R436, R437), which `Gates.lean` adds. -/
def fieldTable : List FieldRow :=
  fieldRowsSys0 ++ fieldRowsTim0 ++ fieldRowsTim1 ++ fieldRowsMbx0 ++ fieldRowsMbx1 ++ fieldRowsAst0 ++ fieldRowsAst1 ++ fieldRowsLsp0 ++ fieldRowsLsp1 ++ fieldRowsNet0 ++ fieldRowsNet1 ++ fieldRowsFio0 ++ fieldRowsFio1 ++ fieldRowsCan0 ++ fieldRowsHhk0 ++ fieldRowsHhk1 ++ fieldRowsLck0 ++ fieldRowsMem0 ++ fieldRowsMem1 ++ fieldRowsGate0 ++ fieldRowsSec0 ++ fieldRowsNvs0 ++ fieldRowsBkd0 ++ fieldRowsBkd1 ++ fieldRowsPwr0 ++ fieldRowsPwr1

/-- The registers whose reset word is not 0: (address of the first instance, stride, instances, word). -/
def resetTable : List (Nat × Nat × Nat × Nat) := [
  (0x00004, 0, 1, 0x00000101),
  (0x10000, 0, 1, 0x00010000),
  (0x10004, 0, 1, 0x000F0005),
  (0x1002C, 0, 1, 0xFFFFFFFF),
  (0x20000, 0, 1, 0x00020000),
  (0x21008, 32, 256, 0x00000004),
  (0x30000, 0, 1, 0x00030000),
  (0x40000, 0, 1, 0x00040000),
  (0x50000, 0, 1, 0x00050000),
  (0x60000, 0, 1, 0x00060000),
  (0x60028, 0, 1, 0x0000FFFF),
  (0x70000, 0, 1, 0x00070000),
  (0x80000, 0, 1, 0x00080000),
  (0x80820, 4, 3, 0x0000FFFF),
  (0x90000, 0, 1, 0x00090000),
  (0x90010, 0, 1, 0x0000001F),
  (0xA0000, 0, 1, 0x000A0000),
  (0xA0004, 0, 1, 0x3F000000),
  (0xB0000, 0, 1, 0x000B0000),
  (0xB1000, 2048, 16, 0x40000000),
  (0xC0000, 0, 1, 0x000C0000),
  (0xD0000, 0, 1, 0x000D0000),
  (0xE0000, 0, 1, 0x000E0000),
  (0xE0004, 0, 1, 0xA0000000),
  (0xE0008, 0, 1, 0x00000020),
  (0xE002C, 0, 1, 0x20460000),
  (0xF0000, 0, 1, 0x000F0000),
  (0xF0024, 0, 1, 0x80008000),
  (0xF0038, 0, 1, 0x01000000)]

/-- Whether address `a` is an instance of a register that begins at `base`, `count` instances `stride` apart. -/
def isInstance (base stride count a : Nat) : Bool :=
  a == base || (base < a && stride != 0 && (a - base) % stride == 0 && (a - base) / stride < count)

/-- The word a register holds after cold reset (R9); 0 where no row of `resetTable` names it. -/
def resetWord (a : Nat) : Word :=
  match resetTable.find? (fun r => isInstance r.1 r.2.1 r.2.2.1 a) with
  | some r => BitVec.ofNat 32 r.2.2.2
  | none => 0#32

/-- The field rows that lie in the register at address `a`, moved to that instance. -/
def fieldsAt (a : Nat) : List FieldRow :=
  (fieldTable.filter (fun r => isInstance r.fld.addr r.stride r.count a)).map
    (fun r => { r with fld := { r.fld with addr := a } })

/-- The event flags that a register table gives a counter or a note of their own, but those of RCB_EVENT. -/
def eventTable : List Ev := [
  Ev.sysPosInvalid, Ev.sysPosChange, Ev.sysModeChange, Ev.sysRoleChange, Ev.timClassChange, Ev.timSrcChange,
  Ev.timRoleChange, Ev.timStep, Ev.timJump, Ev.timDisagree, Ev.timSyncMiss, Ev.timOcxoFault, Ev.mbxClassLate,
  Ev.mbxSegTimeout, Ev.mbxAuthFail, Ev.mbxRefused, Ev.mbxMalformed, Ev.mbxRingFault, Ev.astConfigApplied,
  Ev.astStreamLost, Ev.astStreamAligned, Ev.astStreamReject, Ev.astFreqOor, Ev.astLate, Ev.astUnsync, Ev.astProcLate,
  Ev.lspConfigApplied, Ev.lspLaneLost, Ev.lspLaneErr, Ev.lspWavefront, Ev.lspNoRemote, Ev.lspRemoteReject,
  Ev.lspRecordDrop, Ev.lspCalFail, Ev.netConfigApplied, Ev.netStationChange, Ev.netAuthFail, Ev.netMacsecDown,
  Ev.netWrongLan, Ev.netSubReject, Ev.netTxLate, Ev.netLinkChange, Ev.fioStatusDioFault, Ev.fioConfigApplied,
  Ev.fioLockout, Ev.fioFldLow, Ev.fioAoSense, Ev.fioAoOvertemp, Ev.fioAoCompliance, Ev.fioAoOpen, Ev.fioAiFail,
  Ev.canConfigApplied, Ev.canBusOff1, Ev.canPassive1, Ev.canTxFail1, Ev.canPex1, Ev.canBusOff0, Ev.canPassive0,
  Ev.canTxFail0, Ev.canPex0, Ev.hhkPairTakeover, Ev.hhkPairHandover, Ev.hhkPairMismatch, Ev.hhkPairSelfSnapshot,
  Ev.hhkPairPairLine, Ev.hhkPairHhkLost, Ev.hhkPairOwnFault, Ev.hhkPairKilled, Ev.hhkMinority, Ev.hhkPartial,
  Ev.hhkDelayJump, Ev.hhkMiswire, Ev.hhkReplay, Ev.hhkAuthFail, Ev.hhkLaneBack, Ev.hhkLaneLost, Ev.lckTaint,
  Ev.lckCompFail, Ev.lckDelayPar, Ev.lckStateSig, Ev.lckDpMismatch, Ev.lckBusMismatch, Ev.lckLate, Ev.lckRecord,
  Ev.memRetire, Ev.memDramUe, Ev.memDramCe, Ev.memSramUe, Ev.memSramCe, Ev.memDramScrubLate, Ev.memSramScrubLate,
  Ev.memLogOvf, Ev.gateDrainAbort, Ev.gateWriteSealed, Ev.gateRingReject, Ev.gateFifoOvf, Ev.gateViolation,
  Ev.secConfirmed, Ev.secFallback, Ev.secVerifyFail, Ev.secRollbackRefused, Ev.secRootRevoked, Ev.secLockBusy,
  Ev.secKeyRotated, Ev.secEnrolFail, Ev.nvsArchRo, Ev.nvsReserveExhausted, Ev.nvsSpareLow, Ev.nvsBlockRetired,
  Ev.nvsUncorrectable, Ev.nvsSoftRead, Ev.nvsSweepLate, Ev.nvsLogSuppressed, Ev.bkdAlarm, Ev.bkdSkipped,
  Ev.bkdTimeLost, Ev.bkdParkRefused, Ev.bkdParkAborted, Ev.bkdSupplyChange, Ev.bkdCellLow, Ev.bkdTrimStep,
  Ev.pwrSeatPartial, Ev.pwrRstRefused, Ev.pwrPowerFail, Ev.pwrFeedALost, Ev.pwrFeedBLost, Ev.pwrFeedOv,
  Ev.pwrFeedReturn, Ev.pwrThermWarn, Ev.pwrStretchOver, Ev.pwrAvsLimit]

/-- The event whose flag stands at a bit of a register; a flag with no counter is an event of its own. -/
def eventAt (a bit : Nat) : Ev :=
  let n := (a - 0x21000) / 32
  let ring := if 0x21000 ≤ a ∧ a < 0x23000 then [Ev.rcbBadDesc n, Ev.rcbOverflow n, Ev.rcbReject n] else []
  ((eventTable ++ ring).find? (fun e => e.flag.addr == a && e.flag.lo == bit)).getD ⟨⟨a, bit, bit⟩, none⟩

/-- The instances of a row, as fields. -/
def instancesOf (r : FieldRow) : List Fld :=
  (List.range r.count).map (fun n => { r.fld with addr := r.fld.addr + r.stride * n })

end Sys2Proof.Machine
end

