-- ==== Sys2Proof/Machine/State.lean ====
section
/-! DEFINITION. The state of the module as plain data, its reset, and the reasons a step can stop. A register of the
service window is kept in `regs` under its service address and nowhere else; the other fields hold what the spec
gives the machine without giving it a register. A field's default is its value in `State.reset`. -/

namespace Sys2Proof.Machine

/-- The reasons a step stops the machine. -/
inductive Fault where
  /-- Raised by no command: the block has no state from which it cannot go on (safe). -/
  | none
deriving DecidableEq, Repr

/-- The reasons a command has no outcome in the model. -/
inductive Refusal where
  /-- Raised by a dispatch arm whose command has no meaning yet (safe). -/
  | notModelled (mnemonic : String)
deriving DecidableEq, Repr

/-! ### Timebase (02) -/

/-- What the timebase keeps of one of the sources 0 to 5 (R43-R52). An offset is kept as the offset measured plus
the counter's whole adjustment at that time, so that subtracting the present adjustment corrects it (R47). -/
structure SrcSt where
  /-- The last accepted samples, newest first, at most 16 (R47). -/
  hist : List Int := []
  /-- Consecutive samples discarded as jumps (R67). -/
  jumps : Nat := 0
  /-- Consecutive consistent frames or edges of IRIG-B and 1PPS (R51, R52). -/
  run : Nat := 0
  /-- The last IRIG-B time in TAI ns less the counter, plus the adjustment (R51). -/
  last : Int := 0
  /-- The Announce values of a PTP source (R49): currentUtcOffset where valid, and the leap flags. -/
  utc : Option Int := none
  leap61 : Bool := false
  leap59 : Bool := false
deriving DecidableEq, Repr

/-- The timebase beside its registers (02). -/
structure TimeSt where
  /-- The fraction of a nanosecond in 2^-32 ns (R37). -/
  frac : Nat := 0
  /-- TIME cycles of 2 ns of the OCXO since power-on. -/
  cycles : Nat := 0
  /-- The cycle of the last tick, and the time it fell at in 2^-32 ns (R60, 07 R224). -/
  tickCycle : Nat := 0
  tickAt : Nat := 0
  /-- The cycle of the last slew nanosecond, and whether it added one (R39, 07 R224). -/
  slewCycle : Nat := 0
  slewUp : Bool := false
  /-- The whole adjustment by slews, steps and loads since start, in ns (R47). -/
  adj : Int := 0
  srcs : List SrcSt := [{}, {}, {}, {}, {}, {}]
  /-- The source among 0 to 5 the module itself selects (R44, R64); 15 none. -/
  ownSel : Nat := 15
  /-- Own selected source locked for 60 s (R64). -/
  lockHeld60 : Bool := false
  /-- TIME_CONFIG (R70) and one accepted and not yet in effect (R71). -/
  cfg : List Byte := List.replicate 36 0 ++ [0xE8, 0x03, 0xFF, 0xFF] ++ List.replicate 8 0
  cfgNext : Option (List Byte) := none
  /-- A lock has been held since start (R53). -/
  everLocked : Bool := false
  /-- TIM_EST_ERR at holdover entry, and the tick-counted time in holdover in ns (R55). -/
  holdErr : Nat := 0
  holdNs : Nat := 0
  /-- Time in holdover since the temperature moved more than 2 degrees from entry (R55). -/
  holdMovedNs : Nat := 0
  holdTemp : Int := 0
  holdMoved : Bool := false
  /-- The time faults present (R67): bit 0 OCXO stopped or off frequency, 1 drifting, 2 disagreement,
  3 FRAME_SYNC, 4 count mismatch, 5 time lost at start. -/
  faults : Nat := 0
  /-- Consecutive SYNC_MISS, and words missing in a row (R66, R67). -/
  syncMisses : Nat := 0
  wordsMissing : Nat := 0
  /-- A FRAME_SYNC edge has been measured since the last tick (R66). -/
  edgeSeen : Bool := false
  /-- The previous frame's word: received valid, and its RUN bit dominant (R63, R64). -/
  wordValid : Bool := false
  busRun : Bool := false
  /-- The tick master's CLASS, EST_ERR and SLEWING of the last valid word (R53). -/
  masterClass : Nat := 5
  masterErr : Nat := 0xFFFFFFFF
  masterSlews : Bool := false
  /-- The member of the group that leads it in time, none the module itself (R65). -/
  leaderSlot : Option Nat := none
  /-- The next tick has fallen for the current counter value (R60). -/
  ticked : Bool := false
  /-- A step fell in the frame: the frame ends without outputs and its time record carries STEP (R57). -/
  stepFrame : Bool := false
  stepped : Bool := false
  /-- The module drives FRAME_SYNC from its tick (R65). -/
  drivesSync : Bool := false
  /-- The sources that a disagreement has set aside (R67). -/
  barred : List Nat := []
  /-- The leap second pending that the IRIG-B extension shows (R50). -/
  irigLeap : Bool := false
  /-- The backup counter has been loaded at the start (18 R502). -/
  loaded : Bool := false
  /-- The latest SET_TAI_UTC: offset, LEAP61, LEAP59 (R49). -/
  setTai : Option (Nat × Bool × Bool) := none
  /-- The sequence numbers of own Delay_Req or Pdelay_Req per port (R46). -/
  delayReqSeq : List Nat := [0, 0, 0, 0]
deriving DecidableEq, Repr

/-! ### Mailbox (03) -/

/-- A request outstanding between commands (R83, R92), the instant on `mono` since which it is (R94), and NO_RESPONSE. -/
structure Outst where
  seq : Nat
  fam : Nat
  cmd : Nat
  since : Nat
  quiet : Bool
deriving DecidableEq, Repr

/-- A segmented message in reception (R85). -/
structure SegAsm where
  seq : Nat
  fam : Nat
  cmd : Nat
  flags : Nat
  segCount : Nat
  next : Nat
  data : List Byte
deriving DecidableEq, Repr

/-- A session beside its MBX_SESSn register (R86-R103). -/
structure Session where
  timeUnchecked : Bool := false
  /-- The client's IPv4 address. -/
  addr : Nat := 0
  idleS : Nat := 300
  /-- Session start, in TAI ns (R102). -/
  start : Nat := 0
  /-- The certificate's subject, by which the update lock knows its holder (16 R463). -/
  subject : Nat := 0
  out : List Outst := []
  segs : List SegAsm := []
  /-- SEQ values whose further segments are discarded (R85). -/
  discard : List Nat := []
  /-- Blocks subscribed, a bitmap (R102). -/
  subs : Nat := 0
  /-- Per block: settings not notified, and the instant of the last notification on `mono` (R103). -/
  lost : List (Nat × Nat) := []
  lastNote : List (Nat × Nat) := []
deriving DecidableEq, Repr

/-- The way a Hollyhock frame leaves (12 R371, R381, R553): its port, DST_SLOT, RELAYED, and the COUNTER of the port. -/
structure Route where
  port : Nat
  dst : Nat
  relayed : Bool
  counter : Nat
deriving DecidableEq, Repr

/-- What the module sends or posts; `outbox` keeps it in order, oldest first. -/
inductive OutMsg where
  /-- A final response to a session (R81), with FLAGS.CANCEL where it answers a CANCEL. -/
  | response (sess seq fam cmd status : Nat) (cancel : Bool) (payload : List Byte)
  /-- A progress message (R95). -/
  | progress (sess seq fam cmd : Nat) (payload : List Byte)
  /-- A notification (R103). -/
  | notification (sess seq : Nat) (payload : List Byte)
  /-- A TLS alert or close_notify. -/
  | tls (sess : Nat) (alert : String)
  /-- The end of a request into a domain that is reset, an error of kind RESET or a DMA transfer's INTERNAL (19 R528), and
  of a DMA transfer that a gate or an MPU rejects (15 R433). -/
  | resetEnd (master : Nat) (status : Option Nat)
  /-- The certificates that the module presents in a handshake, leaf first (16 R454). -/
  | certificates (sess : Nat) (chain : List Byte)
  /-- A Hollyhock frame by its type, with the ways it leaves, SEGMENT and LAST (11, 12; log entry 200). -/
  | peer (ways : List Route) (kind : String) (segment : Nat) (last : Bool) (data : List Nat)
  /-- A frame or packet on a network port 0 to 4, by kind (08); port 5 stands for FRAME_SYNC and TIME_BUS (02). -/
  | net (port : Nat) (kind : String) (data : List Nat)
  /-- The response to a fabric access (15 R432, R433): its master, whether it was admitted, and the bytes read. -/
  | fabric (master : Nat) (ok : Bool) (data : List Byte)
  /-- An interrupt of a ring's consumer (R77). -/
  | ringInterrupt (ring : Nat)
deriving DecidableEq, Repr

/-- The mailbox beside its registers (03). -/
structure MbxSt where
  sessions : List Session := List.replicate 16 {}
  /-- Failed handshakes: source address and instant on `mono` (R89). -/
  failures : List (Nat × Nat) := []
  /-- Source addresses refused after eight failures (R89). -/
  lockout : List Nat := []
  noteSeq : Nat := 0
  /-- The instant on `mono` of each ring's last interrupt (R77). -/
  interruptAt : List (Nat × Nat) := []
deriving DecidableEq, Repr

/-! ### Pair operation (11), Hollyhock (12) and lock-step (13) -/

/-- What heartbeats tell of another member of the group (12 R372). -/
structure Peer where
  slot : Nat
  rank : Nat
  role : Nat
  taint : Bool
  /-- The port the heartbeat arrived on. -/
  port : Nat
  time : HbTime
deriving DecidableEq, Repr

/-- The slots of a signature record: OUT_SIG and WR_HASH of eight engines (R354). -/
abbrev SigSlots := List (Nat × Nat)

/-- A signature comparison record (R366). -/
structure CmpRec where
  frame : Nat
  result : Nat
  selfSnap : Bool
  own : SigSlots
  peer : SigSlots
deriving DecidableEq, Repr

/-- A vote record (12 R385): OUT_SIG of 8 engine slots, DO, HELD and the AO setpoints. -/
structure VoteRec where
  slot : Nat
  frame : Nat
  sigs : List Nat
  dos : Nat
  held : Nat
  ao : List Nat
deriving DecidableEq, Repr

/-- The pair logic beside its registers (11). -/
structure PairSt where
  /-- Claim logic in CLAIMING (R339); ARMED and HELD are register bits. -/
  claiming : Bool := false
  /-- The quiet time is 2 us longer: the claim back after a release (R348). -/
  longQuiet : Bool := false
  peers : List Peer := []
  /-- The own slots of the boot configuration's members, lowest first (R337). -/
  waiting : Bool := false
  /-- Cause and time of the last ownership change (R366). -/
  cause : Nat := 0
  changeAt : Nat := 0
  takeovers : Nat := 0
  mismatches : Nat := 0
  selfSnaps : Nat := 0
  /-- Takeovers and handovers in which ownership moved (R353). -/
  moved : Nat := 0
  selfRun : Nat := 0
  sigMissRun : Nat := 0
  /-- The last comparison was a mismatch (R353). -/
  lastMismatch : Bool := false
  records : List CmpRec := []
  /-- Own signature records not yet compared, and peers' by slot: frame and slots (R355). -/
  ownSigs : List (Nat × SigSlots) := []
  peerSigs : List (Nat × Nat × SigSlots) := []
  /-- Resync (R360): attempts of the current JOIN, instant of acceptance, the named Q. -/
  attempts : Nat := 0
  acceptedAt : Nat := 0
  qFrame : Option Nat := none
  /-- The owner side: slot of the joiner being resynced; JOINs deferred while CHANGING (R359). -/
  joiner : Option Nat := none
  deferred : List Nat := []
  /-- `mono` when OWN was last sensed high, where it has been since the line was first low (R341). -/
  ownHigh : Option Nat := none
  /-- OWN has moved in a planned handover whose frame H has not begun (R347). -/
  handing : Bool := false
  /-- Planned handover (R346-R348): the named H, postponements, unacknowledged final checkpoints (a bitmap). -/
  handover : Option Nat := none
  postponed : Nat := 0
  unacked : Nat := 0
  /-- The owner has announced its release over Hollyhock: the claim that follows is no takeover (R342). -/
  announced : Bool := false
  /-- A claim that was a takeover and has not yet asserted PEER_KILL_OUT (R342). -/
  killDue : Bool := false
  /-- The claim being confirmed began in this role (R336). -/
  claimFrom : Nat := 0
  /-- Checkpoints held, for singletons 0 to 2 (R362), and the own sequence numbers. -/
  ckpts : List (Option Ckpt) := [none, none, none]
  ckptSeq : List Nat := [0, 0, 0]
  /-- Singletons stopped for a handover (R347). -/
  stopped : Nat := 0
  /-- FAILED: a restart of R343 is due. -/
  restartDue : Bool := false
  /-- Releases and DO and AO updates are blocked (R395, R555). -/
  blocked : Bool := false
  /-- A removal request is running (R364, R543): 0 none, 1 command, 2 button. -/
  removal : Nat := 0
  /-- The SWAP LED: 0 off, 1 flashing green, 2 steady green, 3 amber 2 s (R364, R521). -/
  swapLed : Nat := 0
  /-- `mono` when a removal request was last refused (20 R542). -/
  swapAt : Nat := 0
  /-- The module has left the group (R366), or its JOIN was refused (13 R404, 16 R465). -/
  left : Bool := false
  refused : Bool := false
  /-- PAIR_OK_OUT toggles (R341). -/
  pairOkOut : Bool := false
  /-- The lines marked for the joiner at T0+200 us, by fabric address (R360). -/
  marked : List Nat := []
  /-- The lines that error tasks have marked since, which go with the next frame's (R360). -/
  carry : List Nat := []
  /-- The vote records received, newest first (12 R385), and the frame whose traffic the vote keeps back. -/
  votes : List VoteRec := []
  /-- The member of a triad last found in the minority, with the frame of that finding (12 R379); and the frame in which a
  defined master that is the minority by its signatures leaves (12 R387). -/
  minority : Option (Nat × Nat) := none
  /-- The member that PEER_KILL_OUT of a triad was asserted for (12 R379). -/
  killed : Option Nat := none
  leaveAt : Option Nat := none
  muted : Option Nat := none
deriving DecidableEq, Repr

/-- One exchange of R375 in ps. -/
structure Exchange where
  delay : Int
  offset : Int
deriving DecidableEq, Repr

/-- Hollyhock beside its registers (12). -/
structure HhkSt where
  /-- Per port and lane (2p + l): consecutive invalid headers are the lane's own; the state is in HHKp_LINK. -/
  enabled : List Bool := [true, true]
  /-- The last counter accepted, by port and source slot (port * 64 + slot), under the current key (R373). -/
  lastCtr : List (Nat × Nat) := []
  /-- Own frame counters per port, and the CONTROL sequence number (R371, R553). -/
  txCtr : List Nat := [0, 0]
  ctlSeq : Nat := 0
  /-- The members whose previous key is still accepted, with `mono` of the renewal, oldest first (R373). -/
  oldKeys : List (Nat × Nat) := []
  /-- Ports carrying nothing but heartbeats (R374), a bitmap. -/
  miswired : Nat := 0
  /-- The last 16 exchanges per port, newest first, and the run that agrees after a jump (R375). -/
  exch : List (List Exchange) := [[], []]
  holdOfs : List Bool := [false, false]
  /-- Identities of the frames used, for the second copy (R553): type, SRC_SLOT, frame, segment, and DST_SLOT, by which the
  frames to this member and those to relay differ (R381). -/
  seen : List (Nat × Nat × Nat × Nat × Nat) := []
  /-- The DELAY_REQ departures t1 per port. -/
  reqAt : List Nat := [0, 0]
  /-- Key agreement messages received, by source slot (16 R456). -/
  keyMsgs : List Nat := []
deriving DecidableEq, Repr

/-! ### Field stages (09) and event log (17) -/

/-- How the module's DO and AO stages are driven (R301, R302). -/
inductive Drive where
  /-- Every stage switched off. -/
  | off
  /-- Stages kept at their last state for 1 ms, or while updates are blocked. -/
  | hold
  /-- DO at the commanded values, AO at the setpoint. -/
  | owner
  /-- DO off, AO at the setpoint less 0.15 mA: the standby of a pair. -/
  | follow
  /-- DO at the voted values, AO at the setpoint less 0.15 mA: a triad member in step. -/
  | voted
  /-- DO off, AO at the setpoint: the defined master of a triad with no peer in step (12 R378). -/
  | lone
deriving DecidableEq, Repr

/-- An event log entry (17 R488). -/
structure LogEntry where
  seq : Nat
  time : Nat
  source : Nat
  severity : Nat
  code : Nat
  role : Nat
  engine : Nat
  data : List Byte
deriving DecidableEq, Repr

/-- A lifetime record (17 R493). -/
structure LifeRec where
  seq : Nat
  time : Nat
  kind : Nat
  data : List Byte
deriving DecidableEq, Repr

/-- An archive record: its directory entry (17 R490) and content. -/
structure ArchRec where
  id : Nat
  damaged : Bool
  extended : Bool
  manual : Bool
  slot : Nat
  group : Nat
  trigger : Nat
  lanes : Nat
  evtSeq : Nat
  stored : Nat
  content : List Byte
deriving DecidableEq, Repr

/-- A CONF write that has not completed on package 1 (17 R485). -/
inductive ConfWrite where
  | retain (c : RetainCopy)
  | stop (persisted : Bool)
deriving DecidableEq, Repr

/-- An ARCHIVE.EXPORT (of record `id`, with `pos` and `stop` in bytes) or a LIFETIME.READ_RECORDS (with `pos` and `stop`
as SEQ) in progress: its session and SEQ, and how much its progress payloads have carried. -/
structure Transfer where
  sess : Nat
  seq : Nat
  isExport : Bool
  id : Nat
  pos : Nat
  stop : Nat
  sent : Nat
deriving DecidableEq, Repr

/-- A page of NAND (17 R478): its place in the block, the logical page address and write sequence of its codewords'
metadata, the bytes that firmware wrote, whether it is the present version, and whether no step of R479 decodes it. -/
structure NandPage where
  no : Nat
  logical : Nat
  wseq : Nat
  data : List Byte
  live : Bool := true
  bad : Bool := false
deriving DecidableEq, Repr

/-- A block of NAND that has been used (17 R480-R483): its pool and place, its P/E count, its tracked threshold offset, the
reads since its last erase, `mono` at its oldest data, and its pages in the order of programming. -/
structure NandBlk where
  pool : Nat
  index : Nat
  pe : Nat := 0
  off : Int := 0
  reads : Nat := 0
  oldest : Nat := 0
  retired : Bool := false
  pages : List NandPage := []
deriving DecidableEq, Repr

/-- The NAND array (17 R477, R478): the blocks that have been used, the next write sequence, and the block being filled per
pool. -/
structure NandSt where
  blocks : List NandBlk := []
  seq : Nat := 0
  opens : List (Nat × Nat) := []
deriving DecidableEq, Repr

/-- The non-volatile store beside its registers (17). -/
structure NvsSt where
  log : List LogEntry := []
  logNext : Nat := 0
  /-- Entries not yet flushed to NAND (R486). -/
  unflushed : Nat := 0
  budget : Nat := 10000
  suppressed : Nat := 0
  /-- Lifetime records, oldest first, and what the summary counts (R493, R496). -/
  life : List LifeRec := []
  hours : Nat := 0
  coldStarts : Nat := 0
  failedRecs : Nat := 0
  confirmed : Nat := 0
  maxTemp : Int := 0
  /-- Module temperature of the running hour in 0.1 degrees: minimum and maximum (R493). -/
  hourMin : Option Int := none
  hourMax : Option Int := none
  /-- Archive records held, ascending REC_ID, the next REC_ID, and the records being read (R490-R495). -/
  arch : List ArchRec := []
  nextRec : Nat := 1
  reading : List Nat := []
  /-- Capture keys stored since the last checkpoint: trigger time and GROUP (R492). -/
  keys : List (Nat × Nat) := []
  /-- The EXPORT and READ_RECORDS commands in progress (R495, R496). -/
  transfers : List Transfer := []
  /-- CONF objects: current version SEQ by OBJECT (R485). -/
  confSeq : List (Nat × Nat) := []
  /-- CONF writes in progress, oldest first (R485). -/
  writing : List ConfWrite := []
  /-- Pools by region copy and package: spares of BOOT 0, BOOT 1, CONF 0, CONF 1, ARCH on package 0 and on 1 (R477). -/
  spare : List Nat := [16, 16, 64, 64, 512, 512]
  /-- The blocks and pages of the NAND array (R476-R483). -/
  nand : NandSt := {}
  /-- `mono` at the start of the present sweep pass, and whether it has been called late (R481). -/
  sweepStart : Nat := 0
deriving DecidableEq, Repr

/-! ### Memory integrity (14) and gates (15) -/

/-- Memory integrity beside its registers (14). -/
structure MemSt where
  /-- Distinct lines with corrected errors by device, in the current and the previous pass (R417). -/
  now : List (List Nat) := [[], [], [], [], [], []]
  prev : List (List Nat) := [[], [], [], [], [], []]
  /-- Instants on `mono` of reads with at least 4 erroneous symbols of a device (R417). -/
  heavy : List (List Nat) := [[], [], [], [], [], []]
  /-- Lines and words already logged as corrected in this pass: memory and index (R425). -/
  logged : List (Nat × Nat) := []
  /-- `mono` at the start of the DRAM pass (R420). -/
  passStart : Nat := 0
  /-- `mono` at the start of the SRAM pass (R424). -/
  sramStart : Nat := 0
deriving DecidableEq, Repr

/-- A violation report (15 R440); SIZE as log2, BURST as beats. -/
structure GateReport where
  addr : Nat
  gate : Nat
  master : Nat
  region : Nat
  secure : Bool
  priv : Bool
  kind : Nat
  size : Nat
  burst : Nat
  cause : Nat
  frame : Nat
  ofs : Nat
  sec : Nat
deriving DecidableEq, Repr

/-- The gates beside their registers (15): a FIFO per gate, oldest first, and the collector's at index 15. -/
structure GateSt where
  fifos : List (List GateReport) := List.replicate 16 []
deriving DecidableEq, Repr

/-- The field stages beside their registers (09). -/
structure FioSt where
  drive : Drive := .off
  /-- Per DI: consecutive frames the sample has shown the level that is not the debounced state (R289). -/
  debounce : List Nat := List.replicate 16 0
  /-- DIs whose sink current was out of band in the previous window (R291); a bitmap. -/
  sinkBad : Nat := 0
  /-- DIs that draw the sink current now (R288); a bitmap. -/
  sinks : Nat := 0
  /-- The channel that receives a wetting pulse (R290). -/
  wetting : Option Nat := none
  /-- DOs whose reading disagreed with the reference at the previous sample; DOs latched off (R292, R294). -/
  doBad : Nat := 0
  latched : Nat := 0
  /-- The values commanded for this frame: of the output gather, then of the vote (R283, 12 R385). AO as REAL bits. -/
  wantDo : Nat := 0
  wantAo : List Nat := [0, 0, 0, 0]
  /-- The group values applied at the previous update (R294), the AO values commanded in mA, clamped, as REAL bits, and the
  16-bit setpoints after the offset (R299). -/
  doRef : Nat := 0
  aoCmd : List Nat := [0, 0, 0, 0]
  aoCode : List Nat := [0, 0, 0, 0]
  /-- Damped AI values in 2^-32 of a step of the 24-bit conversion, and the AIs whose y has started (R296, R297). -/
  aiY : List Nat := [0, 0, 0, 0]
  aiOn : Nat := 0
  /-- Per AO: evaluations that disagree with OPEN, COMPLIANCE, OVERTEMP and SHARED-SENSE (R300); frames for which
  OPEN and COMPLIANCE are not evaluated; AOs at 0 mA for their temperature, and those of them that have fallen
  below 130 degrees. -/
  aoCnt : List (List Nat) := List.replicate 4 [0, 0, 0, 0]
  aoHold : List Nat := [0, 0, 0, 0]
  aoHot : Nat := 0
  aoCool : Nat := 0
  /-- Stages held off by LOCKOUT, and after it the frame in which it ended (R284). -/
  lockedOff : Bool := false
  backFrame : Nat := 0
deriving DecidableEq, Repr

/-! ### Auxiliary CAN (10) -/

/-- A message object beside its record (R315, R316, R330). -/
structure CanObj where
  /-- STATE of R330 and the rest of its TX status. -/
  st : Nat := 0
  reason : Nat := 0
  bitPos : Nat := 0
  sent : Nat := 0
  failed : Nat := 0
  changedAt : Nat := 0
  /-- The pending frame's data, and the frame in which it was queued (R321). -/
  data : List Byte := []
  queuedAt : Nat := 0
  /-- The frame held by an RX object: SOF time, identifier, R318 flags, data, the frame index of its arrival, and
  the frames accepted since the previous snapshot. -/
  rxTime : Nat := 0
  rxId : Nat := 0
  rxFlags : Nat := 0
  rxData : List Byte := []
  rxAt : Nat := 0
  fresh : Nat := 0
deriving DecidableEq, Repr

/-- A receive log entry (R318). -/
structure CanEntry where
  seq : Nat
  time : Nat
  kind : Nat
  flags : Nat
  id : Nat
  len : Nat
  obj : Nat
  reason : Nat
  err : Nat
  bitPos : Nat
  tecAfter : Nat
  recAfter : Nat
  data : List Byte
deriving DecidableEq, Repr

/-- A controller beside its registers: the error state, TEC and REC are in CAN_CTRLc. -/
structure CanCtl where
  objs : List CanObj := List.replicate 128 {}
  /-- The receive log in DRAM, each entry with its SEQ and its 96 bytes, oldest first, and the SEQ of its next one (R317). -/
  log : List (Nat × List Byte) := []
  logNext : Nat := 0
  /-- The object whose attempt is on the bus, its SOF (R321), and whether it began in PASSIVE. -/
  sending : Option Nat := none
  sof : Nat := 0
  passive : Bool := false
  /-- The controller integrates: after a protocol exception, a change of timing, or on its way to normal operation
  (R312, R329, R332). -/
  integrating : Bool := false
deriving DecidableEq, Repr

/-! ### Settings objects (16 R468, 17 R485) -/

/-- Settings objects by OBJECT code; an object never written is not listed. -/
structure CfgSt where
  /-- In effect. -/
  applied : List (Nat × List Byte) := []
  /-- The current versions in CONF, and those of the old bundle while TRIAL lasts (16 R461, R462). -/
  stored : List (Nat × List Byte) := []
  old : Option (List (Nat × List Byte)) := none
  /-- Staged by CONFIG.STAGE_SETTINGS (16 R469). -/
  staged : List (Nat × List Byte) := []
  /-- Accepted, and waiting for the frame that the owner named (04 R139): OBJECT, frame, bytes. -/
  next : List (Nat × Nat × List Byte) := []
  /-- Objects unreadable in both CONF copies (17 R487). -/
  absent : List Nat := []
deriving DecidableEq, Repr

/-! ### Programs (04), boot and identity (16), power (19) and the backup domain (18) -/

/-! #### The load unit, as its sections are laid out (05 R175-R185) -/

/-! #### The engines (05 R151) and tasks (04) -/

/-- A level of the loop stack. `stop` is the address after its ENDLOOP (R166). -/
structure LoopLevel where
  count : Nat
  index : Nat
  body : Nat
  stop : Nat
deriving DecidableEq, Repr

/-- A level of the call stack, with the caller's code range. -/
structure CallLevel where
  ret : Nat
  ib : Nat
  lb : Nat
  instLim : Nat
  locLim : Nat
  loops : List LoopLevel
  lo : Nat
  hi : Nat
deriving DecidableEq, Repr

/-- A Petal engine (R151). The stacks hold their top first. Beside the state of R151 it holds the segment's task
and index, the limits the loader knows, and what the frame has collected. -/
structure Engine where
  running : Bool := false
  /-- The running segment is the error task's (04 R130). -/
  err : Bool := false
  /-- The position in TASKS and the segment index. -/
  task : Nat := 0
  seg : Nat := 0
  pc : Nat := 0
  stack : List Quad := []
  ib : Nat := 0
  lb : Nat := 0
  instLim : Nat := 0
  locLim : Nat := 0
  loops : List LoopLevel := []
  calls : List CallLevel := []
  /-- The code range of the running PROGRAM, FB or function (R173). -/
  lo : Nat := 0
  hi : Nat := 0
  /-- Cycles of the running segment, and all the engine has used in the frame (04 R118). -/
  cycles : Nat := 0
  used : Nat := 0
  /-- Segments due in the frame and not yet begun, as TASKS position and index (04 R114). -/
  due : List (Nat × Nat) := []
  /-- Instance writes of the frame in program order: bank offset and value bytes (11 R354). -/
  writes : List (Nat × List Byte) := []
  /-- Lines of 64 bytes written in the frame (04 R144), and those of them that its error task has written (11 R360). -/
  lines : List Nat := []
  late : List Nat := []
  /-- The frame's fault codes by TASKS position (04 R130). -/
  faulted : List (Nat × Nat) := []
  /-- Ring pairs: SEQ of R172, descriptors admitted in the frame, and whether a doorbell is due (04 R124). -/
  seqs : List Nat := [0, 0, 0, 0]
  /-- The 16 operand stack entries, and every level of the loop and call stacks, lowest first, whatever the depth; and the
  leading core's STATE_SIG before its final inversion (13 R400). -/
  cells : List Quad := List.replicate 16 0#64
  loopCells : List LoopLevel := List.replicate 4 ⟨0, 0, 0, 0⟩
  callCells : List CallLevel := List.replicate 16 ⟨0, 0, 0, 0, 0, [], 0, 0⟩
  sig : Nat := 0xFFFFFFFFFFFFFFFF
  quota : List Nat := [0, 0, 0, 0]
  posted : List Nat := [0, 0, 0, 0]
deriving DecidableEq, Repr

/-- The change under way (04 R142-R149). -/
structure Change where
  /-- 1 migrating, 2 ready, 3 swap named. -/
  stage : Nat := 1
  postponed : Nat := 0
  migrated : Nat := 0
  reinit : Nat := 0
  new : Nat := 0
  removed : Nat := 0
  /-- Members that reported ready, by slot. -/
  ready : List Nat := []
deriving DecidableEq, Repr

/-- A result of admission (04 R149, R556). -/
structure Admission where
  result : Nat
  engine : Nat
  worstF : Nat
  worstW : Nat
  h : Nat
  detail : Nat
  unitId : Nat
  peaks : List Nat
  members : Nat
deriving DecidableEq, Repr

/-- The program beside its registers (04). -/
structure ProgSt where
  state : ProgState := .empty
  /-- The installed unit, the staged unit, and the chunks received so far (R149). -/
  active : Option LoadUnit := none
  staged : Option LoadUnit := none
  recv : List Byte := []
  recvTotal : Nat := 0
  /-- Which of the two banks of each SRAM is live (01 R31). -/
  live : Nat := 0
  engines : List Engine := [{}, {}, {}, {}, {}, {}, {}, {}]
  /-- By TASKS position. -/
  tasks : List TaskSt := []
  /-- The named frames pending, in the order named: frame and what it brings. -/
  named : List (Nat × Named) := []
  change : Option Change := none
  /-- The forces held, the changes not yet in effect, oldest first (R135, R137). -/
  forces : List Force := []
  changes : List ForceChange := []
  /-- Values of output items last gathered, by index in the image map (R122), and those changed in this frame. -/
  outVals : List (Nat × List Byte) := []
  /-- Last values of outputs that the active unit does not write (R146). -/
  heldOuts : List HeldOut := []
  /-- The program starts by itself once time is valid (R140). -/
  autoStart : Bool := false
  faultsSinceRun : Nat := 0
  highestW : Nat := 0
  /-- A STOP is persisted in CONF (R138), a reset has come since the last STOP (R149). -/
  stopPersisted : Bool := false
  resetSinceStop : Bool := false
  /-- RETAIN in CONF, and the instant on `mono` the next 60 s interval ends (R123). -/
  retain : Option RetainCopy := none
  retainDue : Nat := 0
  /-- The values of the next WARM start are from an aged copy (R123). -/
  retainAged : Bool := false
  /-- Posted Petal requests not yet served: ring and TASKS position (R124). -/
  postedBy : List (Nat × Nat) := []
  /-- READ_VAR requests that wait for the next output gather (R149): session, SEQ and payload. -/
  reads : List (Nat × Nat × List Byte) := []
  /-- A LOAD_UNIT that waits for the results of the peers (R116 check 10): the own result, and theirs by slot. -/
  load : Option (Admission × List (Nat × Nat)) := none
  /-- The stop actions are due at the next gather (R138, R141). -/
  stopDue : Bool := false
  /-- The snapshot that fills the input pool of the frame, and whether it is the module's own (11 R352). -/
  pool : Snapshot := {}
  poolSelf : Bool := false
  /-- The module's own snapshot of the last cut-off, and the copies received for the next frame, by the sender's slot:
  segments in all, and those present (11 R351). -/
  frozen : Option Snapshot := none
  copies : List (Nat × Nat × List (Nat × Snapshot)) := []
deriving DecidableEq, Repr

/-- A slot of the BOOT region: its STATE and what its bundle header and the checks of R446 give (16 R448, R451). -/
structure SlotSt where
  /-- 0 EMPTY, 1 VALID, 2 TRIAL, 3 CONFIRMED, 4 REJECTED. -/
  state : Nat := 0
  rootSlot : Nat := 0
  /-- The bundle header's digest, which the boot control record holds (R451). -/
  digest : List Byte := List.replicate 48 0
  version : List Byte := [0, 0, 0, 0]
  secver : Nat := 0
  released : Bool := false
  setFormat : Nat := 0
  setMin : Nat := 0
  stFormat : Nat := 0
  stUpMin : Nat := 0
  stDownMin : Nat := 0
  /-- The first stage and security island firmware, and the other components in TYPE order, which R453 measures. -/
  layer1 : List Byte := []
  layer2 : List Byte := []
  /-- Per package: the copy's signature, root key record and component digests verify. -/
  good : List Bool := [false, false]
deriving DecidableEq, Repr

/-- A settings change made in TRIAL (16 R462): OBJECT, CONFIG_REV and the time of activation. -/
structure TrialChange where
  object : Nat
  rev : Nat
  time : Nat
deriving DecidableEq, Repr

/-- A BEGIN that waits for the owner's answer (R463): its session, 16 once that has closed (03 R91), its SEQ, the digest of
its certificate and its payload. -/
structure LockWait where
  sess : Nat
  seq : Nat
  holder : Nat
  payload : List Byte
deriving DecidableEq, Repr

/-- Boot, identity, update and settings beside their registers (16). The module is shipped with a confirmed bundle in
slot A (log entry 42). -/
structure SecSt where
  /-- The identity: serial number, SHA-384 digest of the identity public key, base MAC address (03 R101, 08 R255; log
  entry 4). -/
  serial : List Byte := List.replicate 16 0
  idDigest : List Byte := List.replicate 48 0
  mac : Nat := 0
  /-- Firmware is up (stage 3 of R445). -/
  fwUp : Bool := false
  /-- The boot chain has stopped with role none: no bundle boots, a region copy is exhausted or two DRAM devices are
  retired (R447, 14 R419, 17 R484). -/
  dead : Bool := false
  /-- The singletons that the boot configuration enables; a bitmap (R467). -/
  singletons : Nat := 7
  /-- The SLOT_IDs of the group members in the signed boot configuration (11 R337). -/
  members : List Nat := []
  /-- The boot control record (R451). -/
  recSeq : Nat := 0
  active : Nat := 0
  slots : List SlotSt := [{ state := 3, good := [true, true] }, {}]
  windowS : Nat := 900
  flags : Nat := 0
  /-- STATE of R470: 0 IDLE, 1 RECEIVING, 2 INSTALLED, 3 TRIAL, 4 CONFIRMED, 5 FALLBACK. -/
  upd : Nat := 0
  /-- The update lock's holder (R463), which a member other than the owner has from the owner. -/
  lock : Option Nat := none
  /-- BEGIN's parameters and the bytes received (R470). -/
  newFlags : Nat := 0
  newWindow : Nat := 900
  total : Nat := 0
  digest : List Byte := []
  recv : List Byte := []
  /-- The restart 1 s after INSTALL is due (R458); a fallback waits for a handover (R460). -/
  restartDue : Bool := false
  fallDue : Bool := false
  /-- The trial's start on `mono`, the criteria that the start met (R457), and the changes of R462 with those beyond 32. -/
  trialAt : Nat := 0
  criteria : Nat := 0
  changes : List TrialChange := []
  excess : Nat := 0
  /-- A group update runs (R464): its step and the slot being updated. -/
  groupStep : Nat := 0
  updatingSlot : Nat := 0
  /-- The slots whose members have verified the bundle, and those that run it. -/
  groupVerified : List Nat := []
  groupDone : List Nat := []
  /-- The BEGINs that wait for the owner's answer (R463). -/
  begins : List LockWait := []
  /-- OTP: the digests of the root-key slots (R444). -/
  roots : List (List Byte) := List.replicate 4 (List.replicate 48 0)
  /-- OTP: the unique device secret, the digest of the manufacturing CA certificate and the OTP digest (R444). -/
  uds : List Byte := List.replicate 48 0
  mfgCa : List Byte := List.replicate 48 0
  otpDigest : List Byte := List.replicate 48 0
  /-- The key store's CDI_1 and CDI_2 of the last boot, none before it (R453). -/
  cdi1 : List Byte := []
  cdi2 : List Byte := []
  /-- `mono` when stage 0 of the boot chain last completed, none before (20 R542). -/
  stage0At : Option Nat := none
  /-- The trust store: anchors of kinds 1 to 3 and the shared keys' 96-byte entries (R472). -/
  anchors : List (List (List Byte)) := [[], [], []]
  keys : List (List Byte) := []
  /-- The shared keys in use until the next cut-off. -/
  keysUsed : List (List Byte) := []
  /-- The operational certificate's chain, leaf first; none is no bytes; and its not-after in s (R454, R471). -/
  oper : List Byte := []
  notAfter : Nat := 0
  /-- The enrolment client's phase per member slot: 0 idle, 1 requested, 2 issued (R455). -/
  enrol : List (Nat × Nat) := []
deriving DecidableEq, Repr

/-! ### Aster (06) -/

/-! ### Larkspur (07) -/

/-! ### Networks (08) -/

/-- A GOOSE subscription beside its register (R269, R270, R274). -/
structure GSub where
  st : Nat := 0
  sq : Nat := 0
  held : Bool := false
  members : List (Nat × List Byte) := []
  expiry : Nat := 0
deriving DecidableEq, Repr

/-- An MMS association (R277): 0 closed; its port, its roles and whether it came over plain TCP. -/
structure MmsAssoc where
  opened : Bool := false
  port : Nat := 0
  roles : Nat := 0
  plain : Bool := false
deriving DecidableEq, Repr

/-- A report control block: reporting enabled, its owner and the entries buffered (R277). -/
structure MmsRcb where
  enabled : Bool := false
  owner : Nat := 0xFF
  value : List Byte := []
  entries : List (List Byte) := []
deriving DecidableEq, Repr

/-- An open file: its handle, association, record and read position. -/
structure MmsFile where
  frsm : Nat
  assoc : Nat
  recId : Nat
  pos : Nat
deriving DecidableEq, Repr

/-- The networks beside their registers (08). -/
structure NetSt where
  subs : List GSub := List.replicate 128 {}
  pubs : List GPub := List.replicate 32 {}
  /-- The sequence states before the frame's release, for a discard (R268). -/
  before : List (Nat × GPub) := []
  /-- Publications whose release the owner discarded in the frame (R268); a bitmap. -/
  discards : Nat := 0
  /-- Stations that changed since the last cut-off, those dropped and those returned in the frame (R276); bitmaps. -/
  changed : Nat := 0
  wentDown : Nat := 0
  cameUp : Nat := 0
  /-- The frame of each input block's last valid update, plus 1 (04 R131). -/
  sinceFrame : List (Nat × Nat) := []
  /-- Node tables of the pairs: pair and MAC; duplicate-discard entries: pair, source, sequence number, and the ports
  it came on as a bitmap. -/
  nodes : List (Nat × Nat) := []
  dups : List (Nat × Nat × Nat × Nat) := []
  /-- The sequence number of the next frame that a redundant pair sends (R259). -/
  redSeq : List Nat := [0, 0]
  /-- The packet number after the highest received on each port's secure channel (R273). -/
  rxPn : List Nat := [0, 0, 0, 0]
  /-- The transitions of stations since the last cut-off (R275): station, whether it returned, the instant in us. -/
  stamps : List (Nat × Bool × Nat) := []
  mms : List MmsAssoc := List.replicate 8 {}
  rcbs : List MmsRcb := List.replicate 32 {}
  files : List MmsFile := []
  nextFrsm : Nat := 0
deriving DecidableEq, Repr

/-- Power and clocks beside their registers (19). -/
structure PwrSt where
  /-- `mono` at the last reset of any kind (R532). -/
  bootMono : Nat := 0
  /-- The ideal-diode switches of feeds A and B (R514). -/
  switchA : Bool := false
  switchB : Bool := false
  /-- The stretch of this frame's window in 0.01 %, and whether it has exceeded 3 % (R530). -/
  stretch : Nat := 0
  stretchOver : Bool := false
  /-- A warm reset is requested, with its cause (R533). -/
  warmDue : Nat := 0
  /-- The domains whose reset is requested; a bitmap (R533). -/
  domainsDue : Nat := 0
deriving DecidableEq, Repr

/-- The backup domain beside its registers (18). -/
structure BkdSt where
  /-- The part of a crystal tick elapsed, in ns times 32768 (R499). -/
  phase : Nat := 0
  /-- A dip of R511 has occurred since the last INIT. -/
  dipped : Bool := false
  /-- Trims since RATE was set, and the tick corrections in them (R500). -/
  trims : Nat := 0
  ticks : Int := 0
  /-- `mono` at the last trim, plus 1; 0 none. -/
  trimAt : Nat := 0
  /-- `mono` when the pending park was accepted (R507). -/
  parkAt : Nat := 0
deriving DecidableEq, Repr

/-! ### The whole module -/

/-- The state of the module. -/
structure State where
  /-- The registers of the service window that differ from their reset word, by service address, rising. -/
  regs : List (Nat × Word) := []
  /-- The fabric memory (15 R429): the bytes that differ from 0, by address, rising. -/
  mem : List Host.Cell := []
  /-- Elapsed time in ns since the start of the run (the model's own, log entry 7). -/
  mono : Nat := 0
  /-- The number of free values taken (the model's own, log entry 5). -/
  freeCtr : Nat := 0
  /-- Everything the module has sent or posted, oldest first. -/
  outbox : List OutMsg := []
  time : TimeSt := {}
  mbx : MbxSt := {}
  pair : PairSt := {}
  hhk : HhkSt := {}
  nvs : NvsSt := {}
  memi : MemSt := {}
  gate : GateSt := {}
  fio : FioSt := {}
  can : List CanCtl := [{}, {}]
  cfg : CfgSt := {}
  ast : AstSt := {}
  lsp : LspSt := {}
  net : NetSt := {}
  prog : ProgSt := {}
  sec : SecSt := {}
  pwr : PwrSt := {}
  bkd : BkdSt := {}
  /-- The commands waiting, first in first out. -/
  pending : List Instr := []
deriving DecidableEq, Repr

/-- The module right after reset: every register at its Reset column, nothing stored, nothing waiting. -/
def State.reset : State := {}

end Sys2Proof.Machine
end

