-- ==== Sys2Proof/Machine/Ops.lean ====
section
/-! DEFINITION. The named operations every meaning uses: registers and fields, event flags with their counters and
notifications (03 R103), the fabric memory, free values, the TIME counter and elapsed time, and what is sent. -/

namespace Sys2Proof.Machine

/-- The outcome type of every meaning. -/
abbrev Out := Host.Outcome State Fault Refusal

/-! ### Registers -/

/-- The word at a service address (R24). -/
def State.reg (s : State) (a : Nat) : Word := kvGet resetWord a s.regs

/-- The state with one register written. -/
def State.setReg (s : State) (a : Nat) (w : Word) : State := { s with regs := kvPut resetWord a w s.regs }

/-- The value of a field. -/
def State.get (s : State) (f : Fld) : Nat := fieldOf (s.reg f.addr) f.hi f.lo

/-- The state with one field written; the value wraps to the field's width. -/
def State.set (s : State) (f : Fld) (v : Nat) : State := s.setReg f.addr (putField (s.reg f.addr) f.hi f.lo v)

/-- Whether a one-bit field is 1. -/
def State.on (s : State) (f : Fld) : Bool := s.get f == 1

/-- Writes a one-bit field. -/
def State.setBit (s : State) (f : Fld) (b : Bool) : State := s.set f (if b then 1 else 0)

/-- The signed value of a field. -/
def State.getInt (s : State) (f : Fld) : Int := toSigned (f.hi + 1 - f.lo) (s.get f)

/-- Writes a signed value to a field. -/
def State.setInt (s : State) (f : Fld) (v : Int) : State := s.set f (ofSigned (f.hi + 1 - f.lo) v)

/-- Adds to a saturating count. -/
def State.bump (s : State) (f : Fld) (n : Nat := 1) : State :=
  s.set f (satTo (2 ^ (f.hi + 1 - f.lo) - 1) (s.get f + n))

/-- Adds to a wrapping count. -/
def State.wrapUp (s : State) (f : Fld) (n : Nat := 1) : State := s.set f (s.get f + n)

/-- Raises a tracked maximum. -/
def State.maxTo (s : State) (f : Fld) (v : Nat) : State := if s.get f < v then s.set f v else s

/-! ### Free values -/

/-- The next free value (log entry 5). -/
def State.fresh (s : State) : Nat := Config.free s.freeCtr

/-- The state after taking a free value. -/
def State.took (s : State) : State := { s with freeCtr := s.freeCtr + 1 }

/-! ### Memory (15 R429) -/

/-- What a byte nothing has written reads as (log entry 2). -/
def memDefault : Nat → Byte := fun _ => 0#8

/-- One byte of the fabric memory. -/
def State.byte (s : State) (a : Nat) : Byte := kvGet memDefault a s.mem

/-- The state with one byte written. -/
def State.setByte (s : State) (a : Nat) (b : Byte) : State := { s with mem := kvPut memDefault a b s.mem }

/-- `n` bytes from address `a` up. -/
def State.bytes (s : State) (a : Nat) : Nat → List Byte
  | 0 => []
  | n + 1 => s.byte a :: State.bytes s (a + 1) n

/-- Writes bytes from address `a` up. -/
def State.setBytes (s : State) (a : Nat) : List Byte → State
  | [] => s
  | b :: bs => State.setBytes (s.setByte a b) (a + 1) bs

/-- The canonical form of the byte memory: addresses strictly rising, no entry equal to what an unlisted address
reads as. -/
abbrev Memory.wf (m : List (Nat × Byte)) : Bool := kvWf memDefault m

/-- The memory is in canonical form. -/
def memWf (s : State) : Bool := Memory.wf s.mem

/-- The register file is in canonical form. -/
def regsWf (s : State) : Bool := kvWf resetWord s.regs

/-! ### What is sent -/

/-- Appends to what the module has sent. -/
def State.send (s : State) (m : OutMsg) : State := { s with outbox := s.outbox ++ [m] }

/-! ### The TIME counter (02 R37-R42) -/

/-- One second in ns. -/
def nsPerS : Nat := 1000000000

/-- One frame in ns (R14). -/
def frameNs : Nat := 250000

/-- The SECONDS of the TIME counter. -/
def State.seconds (s : State) : Nat := s.get Reg.timNowSecHiSecHi * 2 ^ 32 + s.get Reg.timNowSecLoSecLo

/-- The TIME counter as ns since 1970-01-01 TAI. -/
def State.now (s : State) : Nat := s.seconds * nsPerS + s.get Reg.timNowNsNs

/-- Loads the TIME counter. -/
def State.setNow (s : State) (t : Nat) : State :=
  ((s.set Reg.timNowNsNs (t % nsPerS)).set Reg.timNowSecLoSecLo (t / nsPerS)).set Reg.timNowSecHiSecHi
    (t / nsPerS / 2 ^ 32)

/-- A time as its 10 bytes: NANOSECONDS then SECONDS (R37). -/
def timeBytes (t : Nat) : List Byte := leBytes 4 (t % nsPerS) ++ leBytes 6 (t / nsPerS)

/-- The instant T0 of the frame the counter is in (R60). -/
def State.t0 (s : State) : Nat := s.now / nsPerS * nsPerS + s.now % nsPerS / frameNs * frameNs

/-- The frame number of an instant (R14). -/
def frameOf (t : Nat) : Nat := t % nsPerS / frameNs

/-- A frame s:k as one number, counted across second boundaries. -/
def frameIndex (t : Nat) : Nat := t / frameNs

/-! ### Event flags (00 R10) and notifications (03 R103) -/

/-- Looks up a key in a plain association list, 0 where it has none. -/
def assoc (l : List (Nat × Nat)) (k : Nat) : Nat := kvGet (fun _ => 0) k l

/-- Sets a key of a plain association list. -/
def assocSet (l : List (Nat × Nat)) (k v : Nat) : List (Nat × Nat) := kvPut (fun _ => 0) k v l

/-- Notifies one session of a setting in block `b`, or counts it as lost within 10 ms of the last (R103). -/
def notifyOne (b addr : Nat) (s : State) (i : Nat) : State :=
  match s.mbx.sessions[i]? with
  | none => s
  | some c =>
    if !(s.on (Reg.mbxSessOpen i) && bitOf c.subs b) then s
    else if assoc c.lastNote b ≠ 0 && s.mono < assoc c.lastNote b - 1 + 10000000 then
      { s with mbx := { s.mbx with
          sessions := listSet s.mbx.sessions i
            (fun c => { c with lost := assocSet c.lost b (satTo 65535 (assoc c.lost b + 1)) }) } }
    else
      let p := [BitVec.ofNat 8 b, 0#8] ++ leBytes 2 (assoc c.lost b) ++ timeBytes s.now ++ leBytes 4 addr
        ++ leBytes 4 (s.reg addr).toNat
      { s with
        outbox := s.outbox ++ [.notification i s.mbx.noteSeq p]
        mbx := { s.mbx with
          noteSeq := (s.mbx.noteSeq + 1) % 65536
          sessions := listSet s.mbx.sessions i
            (fun c => { c with lost := assocSet c.lost b 0, lastNote := assocSet c.lastNote b (s.mono + 1) }) } }

/-- Notifies every session that subscribes to the block of a register. -/
def notifyAll (addr : Nat) (s : State) : State :=
  (List.range 16).foldl (notifyOne (addr / 0x10000) addr) s

/-- Hardware sets an event flag: the flag is 1, its counter counts the setting, subscribers are told (R10, R103). -/
def State.raise (s : State) (e : Ev) : State :=
  let s := s.set e.flag 1
  let s := match e.cnt with | some c => s.bump c | none => s
  notifyAll e.flag.addr s

/-- Sets an event flag where a condition holds. -/
def State.raiseIf (s : State) (b : Bool) (e : Ev) : State := if b then s.raise e else s

end Sys2Proof.Machine
end

