-- ==== Sys2Proof/Machine/Nand.lean ====
section
/-! DEFINITION. The NAND array (17 R476-R483): blocks, pages and their codewords, the choice of a block, levelling, the
read ladder and the threshold offset of each block. -/

namespace Sys2Proof.Machine

/-! ### Geometry (R476, R477). Pools by region copy and package: BOOT 0, BOOT 1, CONF 0, CONF 1, ARCH 0, ARCH 1,
management 0, management 1 -/

/-- Bytes of user data of a page. -/
def nandPageBytes : Nat := 16384

/-- Pages of a block. -/
def nandBlockPages : Nat := 256

/-- P/E cycles at which a block is retired (R483). -/
def nandEndurance : Nat := 30000

/-- The blocks of a pool that hold user data, and those of its region with the spares. -/
def nandUserBlocks (p : Nat) : Nat := if p < 2 then 64 else if p < 4 then 256 else if p < 6 then 7168 else 112
def nandAllBlocks (p : Nat) : Nat := if p < 2 then 80 else if p < 4 then 320 else if p < 6 then 7680 else 112

/-- The pool of a region copy of R497 on a package. -/
def nandPool (copy package : Nat) : Nat :=
  if copy < 4 then copy else if copy = 4 then 4 + package % 2 else 6 + package % 2

/-- The pools of a region copy. -/
def nandPools (copy : Nat) : List Nat := if copy < 4 then [copy] else if copy = 4 then [4, 5] else [6, 7]

/-- The pool that mirrors another: the same region on the other package. -/
def nandMirror (p : Nat) : Nat := if p % 2 = 0 then p + 1 else p - 1

/-! ### Codewords (R478) -/

/-- The 32 metadata bytes of a codeword: the logical page address, the write sequence and the CRC-32 over data and
metadata (log entry 178). -/
def codewordMeta (g : NandPage) (data : List Byte) : List Byte :=
  let m := leBytes 8 g.logical ++ leBytes 4 g.wseq
  m ++ leBytes 4 (Config.nandCrc (data ++ m)) ++ zeros 16

/-- The four codewords of a page, each of 4096 data bytes and 32 metadata bytes. -/
def codewords (g : NandPage) : List (List Byte) :=
  (List.range 4).map (fun k =>
    let d := ((g.data.drop (4096 * k)).take 4096 ++ zeros 4096).take 4096
    d ++ codewordMeta g d)

/-- Hard decoding of a codeword read with a number of bit errors: any pattern of up to 120 is corrected, and a result that
fails the CRC does not count. -/
def hardDecodes (w : WordRead) : Bool := decide (w.bits ≤ 120) && w.crcOk

/-- A read of a page decodes every codeword of it. -/
def pageDecodes (f : WordRead → Bool) (r : List WordRead) : Bool := !r.isEmpty && r.all f

/-- The offset of the n-th re-read of step 2: alternately above and below the tracked one (R479; log entry 178). -/
def rereadOffset (base : Int) (n : Nat) : Int :=
  let d : Int := ((n / 2 + 1 : Nat) : Int)
  if n % 2 = 0 then base + d else base - d

/-- The most bit errors of a read. -/
def worstBits (r : List WordRead) : Nat := r.foldl (fun m w => if m < w.bits then w.bits else m) 0

/-- The best of the re-reads: the one of fewest bit errors in its worst codeword. -/
def bestReread (rs : List (List WordRead)) : Nat :=
  (List.range rs.length).foldl (fun b i =>
    if worstBits (rs.getD i []) < worstBits (rs.getD b []) then i else b) 0

/-- The ladder of R479: the step that decodes the page, 4 where none does, the offset that succeeded and the most bit errors
corrected in a codeword. -/
def readLadder (base : Int) (x : PageRead) : Nat × Int × Nat :=
  if pageDecodes hardDecodes x.hard then (1, base, worstBits x.hard)
  else
    let rs := x.rereads.take 7
    match (List.range rs.length).find? (fun i => pageDecodes hardDecodes (rs.getD i [])) with
    | some i => (2, rereadOffset base i, worstBits (rs.getD i []))
    | none =>
      if pageDecodes (·.crcOk) x.soft then (3, rereadOffset base (bestReread rs), worstBits x.soft)
      else (4, base, 0)

/-! ### Blocks -/

/-- Block i of pool p; one not listed is as it left manufacture, erased and never used. -/
def NandSt.blk (a : NandSt) (p i : Nat) : NandBlk :=
  (a.blocks.find? (fun b => b.pool == p && b.index == i)).getD { pool := p, index := i }

/-- A block takes a new content. -/
def NandSt.putBlk (a : NandSt) (b : NandBlk) : NandSt :=
  let known := a.blocks.any (fun c => c.pool == b.pool && c.index == b.index)
  { a with blocks := if known
    then a.blocks.map (fun c => if c.pool = b.pool ∧ c.index = b.index then b else c) else a.blocks ++ [b] }

/-- The block that is being filled in a pool. -/
def NandSt.open (a : NandSt) (p : Nat) : Option Nat := (a.opens.find? (fun q => q.1 == p)).map (·.2)

def NandSt.setOpen (a : NandSt) (p i : Nat) : NandSt :=
  { a with opens := a.opens.filter (fun q => q.1 != p) ++ [(p, i)] }

/-- The block being filled, while it has room. -/
def NandSt.room (a : NandSt) (p : Nat) : Option Nat :=
  (a.open p).filter (fun i => decide ((a.blk p i).pages.length < nandBlockPages))

/-- The pages of a block that hold the present version of their logical page. -/
def NandBlk.live (b : NandBlk) : List NandPage := b.pages.filter (·.live)

/-- An erase: the P/E count rises, the threshold offset returns to 0 (R480, R482). -/
def NandBlk.erase (b : NandBlk) : NandBlk := { b with pe := b.pe + 1, off := 0, reads := 0, pages := [] }

/-- The blocks of a pool that have been used. -/
def NandSt.used (a : NandSt) (p : Nat) : List NandBlk := a.blocks.filter (fun b => b.pool == p)

/-- The blocks in service of a pool are those of its user data and a spare for each that has retired. -/
def NandSt.inService (a : NandSt) (p : Nat) : Nat :=
  nandUserBlocks p + ((a.used p).filter (·.retired)).length

/-- The first block of a pool that has never been used. -/
def NandSt.fresh (a : NandSt) (p : Nat) : Option Nat :=
  match (List.range ((a.used p).length + 1)).find? (fun i => !(a.used p).any (fun b => b.index == i)) with
  | some i => if i < a.inService p then some i else none
  | none => none

/-- A block that a write may go to: erased, in service and within its endurance. -/
def NandBlk.free (b : NandBlk) : Bool := b.pages.isEmpty && !b.retired && decide (b.pe < nandEndurance)

/-- Of two blocks the one of lower P/E count, the first where they are equal. -/
def lowerPe (m : Option NandBlk) (b : NandBlk) : Option NandBlk :=
  match m with | none => some b | some c => if b.pe < c.pe then some b else some c

/-- The free block of the lowest P/E count (R482). -/
def NandSt.freeBlock (a : NandSt) (p : Nat) : Option Nat :=
  match a.fresh p with
  | some i => some i
  | none => (((a.used p).filter (·.free)).foldl lowerPe none).map (·.index)

/-- A page goes to the end of a block. -/
def NandBlk.add (now : Nat) (b : NandBlk) (g : NandPage) : NandBlk :=
  { b with pages := b.pages ++ [{ g with no := b.pages.length }], oldest := if b.pages.isEmpty then now else b.oldest }

/-- The live pages of a block move to another, and it is erased (R481-R483). -/
def NandSt.move (now : Nat) (a : NandSt) (p src dst : Nat) : NandSt :=
  let b := a.blk p src
  let d := b.live.foldl (NandBlk.add now) (a.blk p dst)
  let a := (a.putBlk { d with oldest := if (a.blk p dst).pages.isEmpty then b.oldest else d.oldest }).putBlk b.erase
  { a with opens := a.opens.filter (fun q => q.1 != p || (q.2 != src && q.2 != dst)) }

/-- A pool without a free block recovers the one of fewest live pages: what it holds is written to it again after its erase
(R483's cache; log entry 178). -/
def NandSt.recover (now : Nat) (a : NandSt) (p : Nat) : NandSt :=
  let least (m : Option NandBlk) (b : NandBlk) : Option NandBlk :=
    match m with | none => some b | some c => if b.live.length < c.live.length then some b else some c
  match ((a.used p).filter (fun b => !b.retired)).foldl least none with
  | some b =>
    let n := b.live.foldl (NandBlk.add now) b.erase
    (a.putBlk { n with oldest := b.oldest }).setOpen p b.index
  | none => a

/-- The block that the next page of a pool goes to: the one being filled, or the free one of lowest P/E count (R482). -/
def NandSt.target (now : Nat) (a : NandSt) (p : Nat) : NandSt × Option Nat :=
  match a.room p with
  | some i => (a, some i)
  | none =>
    match a.freeBlock p with
    | some i => (a.setOpen p i, some i)
    | none => let a := a.recover now p; (a, a.room p)

/-- Pages of a pool are stale; a block left without a live page, and not being filled, is erased. -/
def NandSt.dropOld (a : NandSt) (p : Nat) (old : Nat → Bool) : NandSt :=
  let cur := a.open p
  { a with blocks := a.blocks.map (fun b =>
      if b.pool ≠ p then b
      else
        let c : NandBlk := { b with pages := b.pages.map (fun g =>
          if old g.logical then { g with live := false } else g) }
        if !c.pages.isEmpty && c.live.isEmpty && cur != some c.index then c.erase else c) }

/-- Static levelling (R482): where the P/E counts of a pool spread by more than 1000, the data of the block of lowest count
moves to a free block of higher count. -/
def NandSt.level (now : Nat) (a : NandSt) (p : Nat) : NandSt :=
  let bs := (a.used p).filter (fun b => !b.retired)
  let higher (m : Option NandBlk) (b : NandBlk) : Option NandBlk :=
    match m with | none => some b | some c => if c.pe < b.pe then some b else some c
  if (a.fresh p).isSome then a
  else
    match bs.foldl lowerPe none, bs.foldl higher none, (bs.filter (·.free)).foldl higher none with
    | some lo, some hi, some dst =>
      if 1000 < hi.pe - lo.pe && !lo.live.isEmpty && decide (lo.pe < dst.pe) then a.move now p lo.index dst.index else a
    | _, _, _ => a

/-- A page is programmed: a new version of a logical page under the next write sequence (R478, R482). -/
def NandSt.program (now : Nat) (a : NandSt) (p logical : Nat) (data : List Byte) : NandSt :=
  let q := (a.dropOld p (· == logical)).target now p
  match q.2 with
  | none => q.1
  | some i =>
    let g : NandPage := { no := 0, logical := logical, wseq := a.seq, data := data }
    (({ q.1 with seq := (a.seq + 1) % 2 ^ 32 }).putBlk ((q.1.blk p i).add now g)).level now p

/-! ### Writes of the module -/

/-- A pool takes no write: a BOOT or CONF copy that is EXHAUSTED, ARCH when READ_ONLY (R484). -/
def nandFrozen (s : State) (p : Nat) : Bool :=
  if p < 4 then bitOf (s.get Reg.nvsStatusExhausted) p else if p < 6 then s.on Reg.nvsStatusArchRo else false

/-- The bytes of an object page by page. -/
def nandChunks : Nat → List Byte → List (List Byte)
  | 0, _ => []
  | n + 1, b => b.take nandPageBytes :: nandChunks n (b.drop nandPageBytes)

/-- Bytes are written from a logical page on, each page to the pool given for its number. -/
def nandWrite (pool : Nat → Nat) (logical : Nat) (data : List Byte) (s : State) : State :=
  let cs := nandChunks ((data.length + nandPageBytes - 1) / nandPageBytes) data
  { s with nvs := { s.nvs with nand := (cs.foldl (fun (q : NandSt × Nat) c =>
    (q.1.program s.mono (pool q.2) (logical + q.2) c, q.2 + 1)) (s.nvs.nand, 0)).1 } }

/-- Bytes are written to a pool that takes writes. -/
def nandPut (p logical : Nat) (data : List Byte) (s : State) : State :=
  if nandFrozen s p then s else nandWrite (fun _ => p) logical data s

/-- A version of a CONF object: OBJECT, SEQ, length and CRC-32 before its bytes, on package 0 and then on package 1 (R485);
successive versions lie apart (log entry 178). -/
def nandConf (o : Nat) (data : List Byte) (s : State) : State :=
  let q := assoc s.nvs.confSeq o
  let v := leBytes 4 o ++ leBytes 4 q ++ leBytes 4 data.length ++ leBytes 4 (Config.nandCrc data) ++ data
  let l := o * 0x10000 + q % 2 * 0x8000
  nandPut 3 l v (nandPut 2 l v s)

/-- A region of BOOT is written on package 0 and then on package 1, from its byte offset (R451). -/
def nandBoot (off : Nat) (data : List Byte) (s : State) : State :=
  nandPut 1 (off / nandPageBytes) data (nandPut 0 (off / nandPageBytes) data s)

/-- A record of ARCH is striped over the packages, page by page (R477). -/
def nandArch (recId : Nat) (data : List Byte) (s : State) : State :=
  nandWrite (fun k => 4 + k % 2) (recId * 0x10000) data s

/-- The logical pages of a deleted record are stale. -/
def nandForget (recId : Nat) (s : State) : State :=
  let old (l : Nat) : Bool := l / 0x10000 == recId
  { s with nvs := { s.nvs with nand := (s.nvs.nand.dropOld 4 old).dropOld 5 old } }

/-- The logical pages where the event log and the lifetime records begin in CONF (log entry 178). -/
def logPages : Nat := 0x10000000
def lifePages : Nat := 0x20000000

/-- The pages of a list of entries numbered by SEQ, `per` to a page, from entry `lo` on: each page is written on both
packages. -/
def nandEntries {α : Type} (base per wrap lo : Nat) (seqOf : α → Nat) (bytes : α → List Byte) (l : List α) (s : State) :
    State :=
  let new := ((l.filter (fun e => decide (lo ≤ seqOf e))).map (fun e => seqOf e / per)).eraseDups
  new.foldl (fun s k =>
    let d := (l.filter (fun e => seqOf e / per == k)).flatMap bytes
    nandPut 3 (base + k % wrap) d (nandPut 2 (base + k % wrap) d s)) s

/-- A threshold offset is stored in the management region, mirrored (R480). -/
def storeOffset (p i : Nat) (off : Int) (s : State) : State :=
  let d := leBytes 4 (ofSigned 32 off)
  nandPut 7 (p * 0x10000 + i) d (nandPut 6 (p * 0x10000 + i) d s)

/-- A change of the array alone. -/
def updNand (f : NandSt → NandSt) (s : State) : State := { s with nvs := { s.nvs with nand := f s.nvs.nand } }

/-- NVS_REGr_WEAR shows the P/E counts: the highest, and the mean over the region copy's blocks, rounded down. -/
def maxPe (s : State) (r : Nat) : Nat :=
  ((nandPools r).flatMap s.nvs.nand.used).foldl (fun m b => if m < b.pe then b.pe else m) 0

def meanPe (s : State) (r : Nat) : Nat :=
  ((nandPools r).flatMap s.nvs.nand.used).foldl (fun m b => m + b.pe) 0
    / (nandPools r).foldl (fun n p => n + nandAllBlocks p) 0

def showWear (s : State) : State :=
  (List.range 6).foldl (fun s r =>
    (s.set (Reg.nvsRegWearMaxPe r) (maxPe s r)).set (Reg.nvsRegWearMeanPe r) (meanPe s r)) s

end Sys2Proof.Machine
end

