-- ==== Sys2Proof/Machine/EventLog.lean ====
section
/-! DEFINITION. The event log and its budget (17 R488, R489). -/

namespace Sys2Proof.Machine

/-- A log entry of 96 bytes (R488). -/
def logBytes (e : LogEntry) : List Byte :=
  leBytes 4 e.seq ++ timeBytes e.time ++ leBytes 1 e.source ++ leBytes 1 e.severity ++ leBytes 2 e.code
    ++ leBytes 1 e.role ++ leBytes 1 e.engine ++ leBytes 1 e.data.length ++ zeros 11 ++ (e.data ++ zeros 64).take 64

/-- The entries that are not yet in NAND reach it, 170 to a page of 4096 (R486, R488). -/
def flushLog (s : State) : State :=
  if s.nvs.unflushed = 0 then s
  else
    let n := s.nvs.logNext - s.nvs.unflushed
    let t := nandEntries logPages 170 4096 n (·.seq) logBytes s.nvs.log s
    { s with nvs := { s.nvs with unflushed := 0, nand := t.nvs.nand } }

/-- Stores an entry without asking the budget; a full log loses its oldest page of 170 entries (R488). -/
def logStore (source severity code engine : Nat) (data : List Byte) (s : State) : State :=
  let e : LogEntry := ⟨s.nvs.logNext, s.now, source, severity, code, s.get Reg.sysRoleRole, engine, data.take 64⟩
  let l := if s.nvs.log.length < 696320 then s.nvs.log else s.nvs.log.drop 170
  let s := { s with nvs := { s.nvs with
    log := l ++ [e], logNext := (s.nvs.logNext + 1) % 2 ^ 32, unflushed := s.nvs.unflushed + 1 } }
  (if severity = 3 then flushLog s else s).set Reg.nvsLogSeqSeq e.seq

/-- Enters an event in the log through the budget (R489): severity 3 bypasses it, an entry that finds it empty is
suppressed and counted, and the next admitted entry is preceded by the firmware entry 0x8001 with that count, its SEVERITY a free value (log entry 5). -/
def logEvent (source severity code engine : Nat) (data : List Byte) (s : State) : State :=
  if severity = 3 then logStore source severity code engine data s
  else if s.nvs.budget = 0 then
    let s := { s with nvs := { s.nvs with suppressed := s.nvs.suppressed + 1 } }
    (s.bump Reg.nvsLogSuppressed).raise Ev.nvsLogSuppressed
  else
    let s := { s with nvs := { s.nvs with budget := s.nvs.budget - 1 } }
    if s.nvs.suppressed = 0 then logStore source severity code engine data s
    else
      let n := s.nvs.suppressed
      let s := { s with nvs := { s.nvs with suppressed := 0 } }
      logStore source severity code engine data (logStore 0 (s.fresh % 4) 0x8001 0xFF (leBytes 4 n) s.took)

/-- A firmware entry whose SEVERITY and CODE the spec does not give: both are free values (log entry 5). -/
def fwLog (source : Nat) (data : List Byte) (s : State) : State :=
  let v := s.fresh
  logEvent source (v % 4) (v / 4 % 0x10000) 0xFF data s.took

/-- The lifetime area is full for HOURS and NOTE records (R494). -/
def lifeFull (s : State) : Bool := decide (1047552 ≤ s.nvs.life.length)

/-- A lifetime record of 64 bytes (R493). -/
def lifeBytes (e : LifeRec) : List Byte := leBytes 4 e.seq ++ timeBytes e.time ++ leBytes 1 e.kind ++ zeros 1 ++ e.data

/-- Stores a lifetime record (R493); HOURS and NOTE leave the 1024 records kept free for the other kinds (R494). -/
def lifetimeAdd (kind : Nat) (data : List Byte) (s : State) : State :=
  if (kind = 1 ∨ kind = 9) ∧ lifeFull s = true then s
  else if 1048576 ≤ s.nvs.life.length then s
  else
    let n := s.nvs.life.length
    let r : LifeRec := ⟨n, s.now, kind, (data ++ zeros 48).take 48⟩
    let s : State := { s with nvs := { s.nvs with life := s.nvs.life ++ [r] } }
    (nandEntries lifePages 256 4096 n (·.seq) lifeBytes s.nvs.life s).set Reg.nvsLifeSeqSeq n

end Sys2Proof.Machine
end

