-- ==== Sys2Proof/Machine/Float.lean ====
section
/-! DEFINITION. IEEE 754 binary32 and binary64 arithmetic as exact rational arithmetic with one rounding to nearest
even (05 R159), and conversions between floats and integers (R161). -/

namespace Sys2Proof

/-- The precision of a class in bits. -/
def FClass.prec : FClass → Nat
  | .f32 => 24
  | .f64 => 53

/-- The width of a class in bits. -/
def FClass.width : FClass → Nat
  | .f32 => 32
  | .f64 => 64

/-- The exponent of the last bit of a subnormal. -/
def FClass.emin : FClass → Int
  | .f32 => -149
  | .f64 => -1074

/-- The bit pattern of +infinity. -/
def FClass.inf : FClass → Nat
  | .f32 => 0x7F800000
  | .f64 => 0x7FF0000000000000

/-- The positive quiet NaN (R159). -/
def FClass.nan : FClass → Nat
  | .f32 => 0x7FC00000
  | .f64 => 0x7FF8000000000000

end Sys2Proof

namespace Sys2Proof.Machine

/-- A float read: NaN, an infinity, or (-1)^neg * m * 2^e. -/
inductive Fl where
  | nan
  | inf (neg : Bool)
  | fin (neg : Bool) (m : Nat) (e : Int)
deriving DecidableEq, Repr

/-- Reads a bit pattern. -/
def readFl (c : FClass) (bits : Nat) : Fl :=
  let b := bits % 2 ^ c.width
  let neg := b / 2 ^ (c.width - 1) == 1
  let mag := b % 2 ^ (c.width - 1)
  let ex := mag / 2 ^ (c.prec - 1)
  let frac := mag % 2 ^ (c.prec - 1)
  if c.inf < mag then .nan
  else if mag = c.inf then .inf neg
  else if ex = 0 then .fin neg frac c.emin
  else .fin neg (frac + 2 ^ (c.prec - 1)) (c.emin + (ex : Int) - 1)

/-- The sign bit where `neg`. -/
def signBit (c : FClass) (neg : Bool) : Nat := if neg then 2 ^ (c.width - 1) else 0

/-- n / d rounded to the nearest integer, ties to even; 0 where d is 0. -/
def divEven (n d : Nat) : Nat :=
  let q := n / d
  let r := n % d
  if 2 * r < d then q else if d < 2 * r then q + 1 else if q % 2 = 0 then q else q + 1

/-- A fraction rounded to the nearest integer, ties to even. -/
def roundEven (n : Int) (d : Nat) : Int :=
  let q := n / (d : Int)
  let r := 2 * (n % (d : Int))
  if r < d then q else if (d : Int) < r then q + 1 else if q % 2 = 0 then q else q + 1

/-- The exponent k with 2^k ≤ n / d < 2^(k+1), for positive n and d. -/
def ratLog2 (n d : Nat) : Int :=
  let k : Int := (n.log2 : Int) - (d.log2 : Int)
  let less := if 0 ≤ k then n < d * 2 ^ k.toNat else n * 2 ^ (-k).toNat < d
  if less then k - 1 else k

/-- (-1)^neg * n / d rounded to nearest even, subnormals in full (R159). -/
def roundRat (c : FClass) (neg : Bool) (n d : Nat) : Nat :=
  if n = 0 then signBit c neg
  else
    let e0 := ratLog2 n d - ((c.prec : Int) - 1)
    let e := if e0 < c.emin then c.emin else e0
    let q := if 0 ≤ e then divEven n (d * 2 ^ e.toNat) else divEven (n * 2 ^ (-e).toNat) d
    let hid := 2 ^ (c.prec - 1)
    let mag := if q < hid then q else (e - c.emin + 1).toNat * hid + (q - hid)
    signBit c neg + (if mag < c.inf then mag else c.inf)

/-- (-1)^neg * m * 2^e rounded to nearest even. -/
def roundBin (c : FClass) (neg : Bool) (m : Nat) (e : Int) : Nat :=
  if 0 ≤ e then roundRat c neg (m * 2 ^ e.toNat) 1 else roundRat c neg m (2 ^ (-e).toNat)

/-- The larger bits of two exponents brought together: the signed integers a and b over the common exponent. -/
def alignFl (na : Bool) (ma : Nat) (ea : Int) (nb : Bool) (mb : Nat) (eb : Int) : Int × Int × Int :=
  let e := if ea ≤ eb then ea else eb
  let a : Int := ((ma * 2 ^ (ea - e).toNat : Nat) : Int)
  let b : Int := ((mb * 2 ^ (eb - e).toNat : Nat) : Int)
  (if na then -a else a, if nb then -b else b, e)

/-- ADD (R159). -/
def fAdd (c : FClass) (x y : Nat) : Nat :=
  match readFl c x, readFl c y with
  | .nan, _ => c.nan
  | _, .nan => c.nan
  | .inf a, .inf b => if a = b then signBit c a + c.inf else c.nan
  | .inf a, .fin _ _ _ => signBit c a + c.inf
  | .fin _ _ _, .inf b => signBit c b + c.inf
  | .fin na ma ea, .fin nb mb eb =>
    let r := alignFl na ma ea nb mb eb
    let sum := r.1 + r.2.1
    if sum = 0 then signBit c (na && nb) else roundBin c (decide (sum < 0)) sum.natAbs r.2.2

/-- The pattern with its sign flipped. -/
def flipSign (c : FClass) (x : Nat) : Nat :=
  let b := x % 2 ^ c.width
  if b < 2 ^ (c.width - 1) then b + 2 ^ (c.width - 1) else b - 2 ^ (c.width - 1)

/-- SUB. -/
def fSub (c : FClass) (x y : Nat) : Nat := fAdd c x (flipSign c y)

/-- MUL. -/
def fMul (c : FClass) (x y : Nat) : Nat :=
  match readFl c x, readFl c y with
  | .nan, _ => c.nan
  | _, .nan => c.nan
  | .inf a, .inf b => signBit c (a != b) + c.inf
  | .inf a, .fin nb mb _ => if mb = 0 then c.nan else signBit c (a != nb) + c.inf
  | .fin na ma _, .inf b => if ma = 0 then c.nan else signBit c (na != b) + c.inf
  | .fin na ma ea, .fin nb mb eb => roundBin c (na != nb) (ma * mb) (ea + eb)

/-- DIV; a zero divisor gives an infinity or NaN (R159). -/
def fDiv (c : FClass) (x y : Nat) : Nat :=
  match readFl c x, readFl c y with
  | .nan, _ => c.nan
  | _, .nan => c.nan
  | .inf _, .inf _ => c.nan
  | .inf a, .fin nb _ _ => signBit c (a != nb) + c.inf
  | .fin na _ _, .inf b => signBit c (na != b)
  | .fin na ma ea, .fin nb mb eb =>
    if mb = 0 then (if ma = 0 then c.nan else signBit c (na != nb) + c.inf)
    else
      let e := ea - eb
      if 0 ≤ e then roundRat c (na != nb) (ma * 2 ^ e.toNat) mb
      else roundRat c (na != nb) ma (mb * 2 ^ (-e).toNat)

/-- A divisor that makes DIV set DIVZ. -/
def fIsZero (c : FClass) (x : Nat) : Bool := x % 2 ^ (c.width - 1) == 0

/-- A NaN pattern. -/
def fIsNan (c : FClass) (x : Nat) : Bool := c.inf < x % 2 ^ (c.width - 1)

/-- NEG; a NaN gives the positive quiet NaN. -/
def fNeg (c : FClass) (x : Nat) : Nat := if fIsNan c x then c.nan else flipSign c x

/-- ABS; a NaN gives the positive quiet NaN. -/
def fAbs (c : FClass) (x : Nat) : Nat := if fIsNan c x then c.nan else x % 2 ^ (c.width - 1)

/-- The floor of the square root, by its bits from bit k - 1 down. -/
def isqrtFrom (n : Nat) : Nat → Nat → Nat
  | 0, r => r
  | k + 1, r => isqrtFrom n k (if (r + 2 ^ k) * (r + 2 ^ k) ≤ n then r + 2 ^ k else r)

/-- The floor of the square root. -/
def isqrt (n : Nat) : Nat := isqrtFrom n (n.log2 / 2 + 1) 0

/-- SQRT; a value below -0 gives NaN. -/
def fSqrt (c : FClass) (x : Nat) : Nat :=
  match readFl c x with
  | .nan => c.nan
  | .inf neg => if neg then c.nan else c.inf
  | .fin neg m e =>
    if m = 0 then signBit c neg
    else if neg then c.nan
    else
      let k := 2 * c.prec + 4 + (e % 2).toNat
      let r := isqrt (m * 2 ^ k)
      let sticky := if r * r = m * 2 ^ k then 0 else 1
      roundBin c false (2 * r + sticky) ((e - (k : Int)) / 2 - 1)

/-- The order of two non-NaN floats as integers over one exponent; infinities lie outside. -/
def fLt (c : FClass) (x y : Nat) : Bool :=
  match readFl c x, readFl c y with
  | .inf a, .inf b => a && !b
  | .inf a, .fin _ _ _ => a
  | .fin _ _ _, .inf b => !b
  | .fin na ma ea, .fin nb mb eb =>
    let r := alignFl na ma ea nb mb eb
    decide (r.1 < r.2.1)
  | _, _ => false

/-- Equality of floats: -0 equals +0, a NaN equals nothing. -/
def fEq (c : FClass) (x y : Nat) : Bool :=
  !fIsNan c x && !fIsNan c y && !fLt c x y && !fLt c y x

/-- MIN under minimumNumber: -0 below +0; one NaN operand gives the other bit for bit. -/
def fMin (c : FClass) (x y : Nat) : Nat :=
  let x := x % 2 ^ c.width
  let y := y % 2 ^ c.width
  if fIsNan c x then (if fIsNan c y then c.nan else y)
  else if fIsNan c y then x
  else if fLt c x y then x
  else if fLt c y x then y
  else if 2 ^ (c.width - 1) ≤ x then x else y

/-- MAX under maximumNumber. -/
def fMax (c : FClass) (x y : Nat) : Nat :=
  let x := x % 2 ^ c.width
  let y := y % 2 ^ c.width
  if fIsNan c x then (if fIsNan c y then c.nan else y)
  else if fIsNan c y then x
  else if fLt c x y then y
  else if fLt c y x then x
  else if 2 ^ (c.width - 1) ≤ x then y else x

/-- An integer rounded to a float (R161). -/
def fOfInt (c : FClass) (i : Int) : Nat := roundRat c (decide (i < 0)) i.natAbs 1

/-- A float in another class (R161). -/
def fConvert (src dst : FClass) (x : Nat) : Nat :=
  match readFl src x with
  | .nan => dst.nan
  | .inf neg => signBit dst neg + dst.inf
  | .fin neg m e => roundBin dst neg m e

/-- A finite float as an integer, rounded to nearest even or truncated toward 0. -/
def flToInt (trunc neg : Bool) (m : Nat) (e : Int) : Int :=
  let a : Nat := if 0 ≤ e then m * 2 ^ e.toNat
    else if trunc then m / 2 ^ (-e).toNat else divEven m (2 ^ (-e).toNat)
  if neg then -(a : Int) else (a : Int)

/-- A float as an integer between lo and hi, with OVF where it saturates or is NaN (R161). -/
def fToInt (c : FClass) (trunc : Bool) (lo hi : Int) (x : Nat) : Int × Bool :=
  match readFl c x with
  | .nan => (0, true)
  | .inf neg => (if neg then lo else hi, true)
  | .fin neg m e =>
    let i := flToInt trunc neg m e
    if i < lo then (lo, true) else if hi < i then (hi, true) else (i, false)

end Sys2Proof.Machine
end

