-- ==== Sys2Proof/Machine/Outputs.lean ====
section
/-! DEFINITION. What stands between the module and its gated outputs: settings objects (16 R468), the drive of the DO
and AO stages (09 R299-R302), and the CAN objects that end with the ownership (10 R317, R322, R329). -/

namespace Sys2Proof.Machine

/-! ### Settings objects (16 R468) -/

def objNet : Nat := 0x01
def objBoot : Nat := 0x02
def objSec : Nat := 0x03
def objCrl : Nat := 0x04
def objTime : Nat := 0x10
def objAster : Nat := 0x11
def objLsp : Nat := 0x12
def objFio : Nat := 0x13
def objCan : Nat := 0x14

/-- The size of a settings object of fixed length. -/
def objSize (o : Nat) : Nat :=
  match o with
  | 0x01 => 38096
  | 0x03 => 1024
  | 0x10 => 48
  | 0x11 => 11600
  | 0x12 => 1040
  | 0x13 => 176
  | 0x14 => 4176
  | _ => 0

/-- Looks up an object in a list of them; none is no bytes. -/
def objGet (l : List (Nat × List Byte)) (o : Nat) : List Byte := kvGet (fun _ => []) o l

/-- Sets an object in a list of them. -/
def objSet (l : List (Nat × List Byte)) (o : Nat) (b : List Byte) : List (Nat × List Byte) :=
  kvPut (fun _ => []) o b l

/-- `n` copies of a record. -/
def records (n : Nat) (r : List Byte) : List Byte := (List.range n).flatMap (fun _ => r)

/-- An object that has never been written: the defaults that its tables state (06 R213, 07 R248, 08 R279) and zeros, with
everything disabled (log entry 40). -/
def defaultObj (o : Nat) : List Byte :=
  if o = objAster then
    [0#8, 12#8] ++ (zeros 14 ++ (records 24 (zeros 6 ++ (leBytes 2 8 ++ zeros 56)) ++ (zeros 8256
      ++ records 16 (zeros 10 ++ (leBytes 2 4712 ++ zeros 100)))))
  else if o = objLsp then
    zeros 2 ++ (leBytes 2 50 ++ (zeros 204 ++ (records 4 (zeros 4 ++ (leBytes 2 20 ++ ([8#8, 3#8] ++ (zeros 4 ++
      (leBytes 4 2000 ++ zeros 16))))) ++ (records 8 (zeros 16 ++ (leBytes 4 1000 ++ zeros 12)) ++ (zeros 396 ++ (46#8 :: zeros 51))))))
  else if o = objNet then
    zeros 176 ++ (records 2 (zeros 2 ++ (leBytes 2 2000 ++ (leBytes 2 60000 ++ (leBytes 2 400 ++ zeros 8)))) ++
      (records 32 (zeros 14 ++ ([4#8, 4#8] ++ (leBytes 4 1000 ++ zeros 204))) ++ zeros 30720))
  else zeros (objSize o)

/-- The object in effect. -/
def State.conf (s : State) (o : Nat) : List Byte :=
  let b := objGet s.cfg.applied o
  if b.isEmpty then defaultObj o else b

/-! ### Field-I/O configuration fields (09 R308) -/

def fioDiEnabled (c : List Byte) (n : Nat) : Bool := leAt c (16 + 4 * n) 1 == 1
def fioDebounce (c : List Byte) (n : Nat) : Nat := leAt c (17 + 4 * n) 1
def fioDiFlags (c : List Byte) (n : Nat) : Nat := leAt c (18 + 4 * n) 1
def fioDoEnabled (c : List Byte) (n : Nat) : Bool := leAt c (80 + 4 * n) 1 == 1
def fioAiEnabled (c : List Byte) (n : Nat) : Bool := leAt c (112 + 8 * n) 1 == 1
def fioDamp (c : List Byte) (n : Nat) : Nat := leAt c (114 + 8 * n) 2
def fioAoEnabled (c : List Byte) (n : Nat) : Bool := leAt c (144 + 8 * n) 1 == 1
def fioFaultMa (c : List Byte) (n : Nat) : Nat := leAt c (148 + 8 * n) 4

/-! ### PMU streams that the owner sends (06 R207, R214) -/

def astPmuOff (n : Nat) : Nat := 9808 + 112 * n
def pmuPort (b : List Byte) (n : Nat) : Nat := leAt b (astPmuOff n + 8) 1
def pmuUdp (b : List Byte) (n : Nat) : Bool := leAt b (astPmuOff n + 9) 1 == 1

/-- A record is enabled: its first byte is 1. -/
def enabledAt (b : List Byte) (off : Nat) : Bool := leAt b off 1 == 1

/-! ### Ports and the frames that leave on them (08 R253-R259, R273, R279) -/

def portOff (n : Nat) : Nat := 16 + 32 * n
def pairOff (p : Nat) : Nat := 176 + 16 * p
def pairMode (b : List Byte) (p : Nat) : Nat := leAt b (pairOff p) 1
/-- The record that gives a port its IP fields, ROLE, SERVICES and MACSEC: in a redundant pair the lower port's. -/
def portRec (b : List Byte) (n : Nat) : Nat :=
  if n < 4 && pairMode b (n / 2) != 0 then portOff (n / 2 * 2) else portOff n

def portEnabled (b : List Byte) (n : Nat) : Bool := enabledAt b (portOff n)
def portRole (b : List Byte) (n : Nat) : Nat := leAt b (portRec b n + 1) 1
def portMacsec (b : List Byte) (n : Nat) : Bool := leAt b (portRec b n + 4) 1 == 1

/-- A port is enabled with a ROLE, which the configuration objects may use (R253). -/
def portUsed (b : List Byte) (n : Nat) : Bool := portEnabled b n && portRole b n != 0

/-- A port carries MACsec with its channel up. -/
def macsecActive (s : State) (p : Nat) : Bool := bitOf (s.get Reg.netStatusMacsecUp) p

/-- A port in use sends and accepts frames; with MACSEC set only once its channel is up (R273). -/
def portOpen (s : State) (n : Nat) : Bool :=
  let b := s.conf objNet
  portUsed b n && (!portMacsec b n || macsecActive s n)

/-- A frame leaves on one port. -/
def portTx (n : Nat) (kind : String) (d : List Nat) (s : State) : State :=
  if portOpen s n then s.send (.net n kind d) else s

/-- A frame of the module leaves on a port; that of a redundant pair on both of its ports, with one sequence number
before its content (R259). -/
def netTx (n : Nat) (kind : String) (d : List Nat) (s : State) : State :=
  if n < 4 && pairMode (s.conf objNet) (n / 2) != 0 then
    let p := n / 2
    let q := s.net.redSeq.getD p 0
    let s : State := { s with net := { s.net with redSeq := listSet s.net.redSeq p (fun n => (n + 1) % 65536) } }
    portTx (2 * p + 1) kind (q :: d) (portTx (2 * p) kind (q :: d) s)
  else portTx n kind d s

/-- A bitmap of ports holds port n, or the other port of its redundant pair. -/
def onPort (b : List Byte) (mask n : Nat) : Bool :=
  bitOf mask n || (decide (n < 4) && pairMode b (n / 2) != 0 && (bitOf mask (n / 2 * 2) || bitOf mask (n / 2 * 2 + 1)))

/-- The ports on which a frame for a bitmap of NET ports is sent: a redundant pair counts once, by its lower port. -/
def txPorts (b : List Byte) (mask : Nat) : List Nat :=
  (List.range 4).filter (fun n => onPort b mask n && (pairMode b (n / 2) == 0 || n % 2 == 0))

/-- A module that does not own sends no GOOSE publication and no UDP stream (06 R216, 08 R282). -/
def clearSending (s : State) : State :=
  let b := s.conf objAster
  let s := (List.range 32).foldl (fun s j => s.setBit (Reg.netGpubSending j) false) s
  (List.range 16).foldl (fun s n => if pmuUdp b n then s.setBit (Reg.astPmuSending n) false else s) s

/-- A takeover closes the TCP connections of C37.118.2 clients, on either side (06 R209). -/
def closeClients (s : State) : State :=
  let b := s.conf objAster
  (List.range 16).foldl (fun s n =>
    if s.get (Reg.astPmuClients n) = 0 then s
    else netTx (pmuPort b n) "TCP close" [n] ((s.set (Reg.astPmuClients n) 0).setBit (Reg.astPmuSending n) false)) s

/-- Changes the field stages' part of the state. -/
def State.updFio (s : State) (f : FioSt → FioSt) : State := { s with fio := f s.fio }

/-- The DO stages drive values of their own (R301). -/
def Drive.active : Drive → Bool
  | .owner => true
  | .voted => true
  | _ => false

/-- The AO stages regulate at the full setpoint (R301). -/
def Drive.full : Drive → Bool
  | .owner => true
  | .lone => true
  | _ => false

/-- A bitmap of the first `n` positions that satisfy a condition. -/
def bitmap (n : Nat) (p : Nat → Bool) : Nat := (List.range n).foldl (fun m i => if p i then m + 2 ^ i else m) 0

/-- The DO stages that conduct (R301): the commanded, enabled, unlatched channels of a module that drives, outside a
LOCKOUT; a held stage keeps its state. -/
def conducting (s : State) : Nat :=
  let c := s.conf objFio
  if s.fio.lockedOff then 0
  else if s.fio.drive = .hold then s.get Reg.fioDoDrive
  else if s.fio.drive.active then
    bitmap 8 (fun n => bitOf (s.get Reg.fioDoCmd) n && fioDoEnabled c n && !bitOf s.fio.latched n)
  else 0

/-- The value in mA of a REAL that is not below 0, as a fraction. -/
def milliFrac (x : Nat) : Nat × Nat :=
  match readFl .f32 x with
  | .fin false m e => (m * (if 0 ≤ e then 2 ^ e.toNat else 1), if 0 ≤ e then 1 else 2 ^ (-e).toNat)
  | _ => (0, 1)

/-- A command in mA as the 16-bit setpoint over 0 to 24 mA, at the offset of 0.15 mA below it where that applies (R299,
R301). A value between two steps goes to one of them (log entry 43). -/
def aoCodeOf (x : Nat) (offset : Bool) : Nat :=
  let v := milliFrac x
  let n := (100 * v.1 - (if offset then 15 * v.2 else 0)) * 65535
  let d := 2400 * v.2
  n / d + (if n % d ≠ 0 && Config.aoRound x offset then 1 else 0)

/-- The 16-bit setpoint of AO n after clamping and offset: the module that owns drops the offset (R301, R302). -/
def aoSetpoint (s : State) (n : Nat) : Nat :=
  if !fioAoEnabled (s.conf objFio) n then 0 else aoCodeOf (s.fio.aoCmd.getD n 0) (!s.fio.drive.full)

/-- A 16-bit setpoint in units of 10 nA (R311). -/
def codeUnits (c : Nat) : Nat := divEven (c * 2400000) 65535

/-- AO n regulates at full setpoint: an enabled channel of the module that owns, neither locked out nor too hot. -/
def aoRegulates (s : State) (n : Nat) : Bool :=
  s.fio.drive.full && fioAoEnabled (s.conf objFio) n && !s.fio.lockedOff && !bitOf s.fio.aoHot n

/-- FIO_STATUS, FIO_DO and FIO_AOn show the drive of the stages; held stages keep what they show (R302, R311), and those that
a LOCKOUT has switched off drive nothing. -/
def showStages (s : State) : State :=
  let held := s.fio.drive == .hold
  let keep (f : Fld) (v : Bool) (s : State) : State :=
    s.setBit f (!s.fio.lockedOff && (if held then s.on f else v))
  let s := keep Reg.fioStatusAoReg s.fio.drive.full (keep Reg.fioStatusDrive s.fio.drive.active s)
  let s := s.set Reg.fioDoDrive (conducting s)
  (List.range 4).foldl (fun s n =>
    let s := keep (Reg.fioAoRegulating n) (aoRegulates s n) s
    if held then s
    else
      let c := aoSetpoint s n
      (s.updFio (fun f => { f with aoCode := listSet f.aoCode n (fun _ => c) })).set (Reg.fioAoSetSet n) (codeUnits c)) s

/-- The stages take a drive within 1 us (R302). -/
def setDrive (d : Drive) (s : State) : State := showStages (s.updFio (fun f => { f with drive := d }))

/-- LSP_STATUS.PUBLISHING: this module runs the wavefront publisher (07 R252). -/
def showPublishing (s : State) : State :=
  let b := s.conf objLsp
  s.setBit Reg.lspStatusPublishing (s.on (Reg.hhkPairCkptRunning 2) && leAt b 0 1 == 1 && leAt b 976 1 == 1)

/-! ### CAN controllers (10) -/

/-- Controller c. -/
def State.ctl (s : State) (c : Nat) : CanCtl := s.can.getD c {}

/-- Changes controller c. -/
def State.updCan (s : State) (c : Nat) (f : CanCtl → CanCtl) : State := { s with can := listSet s.can c f }

/-- Object o of controller c. -/
def State.canObj (s : State) (c o : Nat) : CanObj := (s.ctl c).objs.getD o {}

/-- Changes object o of controller c. -/
def State.updObj (s : State) (c o : Nat) (f : CanObj → CanObj) : State :=
  s.updCan c (fun k => { k with objs := listSet k.objs o f })

/-! Object record fields (R331). -/

def canRec (c o : Nat) : Nat := 80 + 16 * (128 * c + o)
def canKind (b : List Byte) (c o : Nat) : Nat := leAt b (canRec c o) 1
def canFlags (b : List Byte) (c o : Nat) : Nat := leAt b (canRec c o + 1) 1
def canMaxLen (b : List Byte) (c o : Nat) : Nat := leAt b (canRec c o + 2) 1
def canId (b : List Byte) (c o : Nat) : Nat := leAt b (canRec c o + 4) 4
def canMask (b : List Byte) (c o : Nat) : Nat := leAt b (canRec c o + 8) 4
def canDeadline (b : List Byte) (c o : Nat) : Nat := leAt b (canRec c o + 12) 2
def canEnabled (b : List Byte) (c : Nat) : Bool := leAt b (16 + 32 * c) 1 == 1
def canFd (b : List Byte) (c : Nat) : Bool := leAt b (17 + 32 * c) 1 == 1

/-- A log entry as its 96 bytes (R318). -/
def canEntryBytes (e : CanEntry) : List Byte :=
  leBytes 4 e.seq ++ timeBytes e.time ++ leBytes 1 e.kind ++ leBytes 1 e.flags ++ leBytes 4 e.id ++ leBytes 1 e.len
    ++ leBytes 1 e.obj ++ leBytes 1 e.reason ++ leBytes 1 e.err ++ leBytes 2 e.bitPos ++ leBytes 2 e.tecAfter
    ++ leBytes 2 e.recAfter ++ zeros 2 ++ (e.data ++ zeros 64).take 64

/-- An entry enters the receive log, which holds the latest 4096 (R317); error state and counts are those after it. -/
def canLog (c time kind flags id obj reason bitPos : Nat) (data : List Byte) (s : State) : State :=
  let k := s.ctl c
  let e : CanEntry := ⟨k.logNext, time, kind, flags, id, data.length, obj, reason, s.get (Reg.canCtrlState c), bitPos,
    s.get (Reg.canCtrlTec c), s.get (Reg.canCtrlRec c), data⟩
  let l := if k.log.length < 4096 then k.log else k.log.drop 1
  let s := s.updCan c (fun k => { k with log := l ++ [(e.seq, canEntryBytes e)], logNext := (k.logNext + 1) % 2 ^ 32 })
  s.set (Reg.canCtrlLogLastSeq c) e.seq

/-- The events of a controller. -/
def evTxFail (c : Nat) : Ev := if c = 0 then Ev.canTxFail0 else Ev.canTxFail1
def evPassive (c : Nat) : Ev := if c = 0 then Ev.canPassive0 else Ev.canPassive1
def evBusOff (c : Nat) : Ev := if c = 0 then Ev.canBusOff0 else Ev.canBusOff1
def evPex (c : Nat) : Ev := if c = 0 then Ev.canPex0 else Ev.canPex1

def canActive : Nat := 0
def canPassive : Nat := 1
def canBusOff : Nat := 2
def canRecovering : Nat := 3

/-- The place of controller c's receive log in the general pool of DRAM: 4096 entries of 96 bytes (R317; log entry 196). -/
def canLogBase (c : Nat) : Nat := 0x168000000 + 0x60000 * c

/-- An address lies in entry p of controller c's log. -/
def inEntry (c a : Nat) (p : Nat × List Byte) : Bool :=
  decide (canLogBase c + p.1 % 4096 * 96 ≤ a) && decide (a < canLogBase c + p.1 % 4096 * 96 + 96)

/-- The byte that a log entry holds at an address. -/
def canLogByte (s : State) (a : Nat) : Option Byte :=
  ((List.range 2).findSome? (fun c => ((s.ctl c).log.find? (inEntry c a)).map (fun p =>
    p.2.getD (a - (canLogBase c + p.1 % 4096 * 96)) 0#8)))

/-- A write of one byte to memory, which may hold a log entry. -/
def writeMemByte (a : Nat) (b : Byte) (s : State) : State :=
  match (List.range 2).find? (fun c => (s.ctl c).log.any (inEntry c a)) with
  | none => s.setByte a b
  | some c => s.updCan c (fun k => { k with log := k.log.map (fun p =>
      if inEntry c a p then (p.1, listSet p.2 (a - (canLogBase c + p.1 % 4096 * 96)) (fun _ => b)) else p) })

/-- A write of bytes to memory from an address. -/
def writeMem (a : Nat) : List Byte → State → State
  | [], s => s
  | b :: l, s => writeMem (a + 1) l (writeMemByte a b s)

/-- The flags of R318 of a TX object's frames; an FD frame sent in PASSIVE carries ESI. -/
def txFlags (b : List Byte) (c o : Nat) (esi : Bool) : Nat :=
  let f := canFlags b c o
  f % 8 + (if esi && bitOf f 1 then 8 else 0) + f / 8 % 2 * 16

/-- Object o of controller c fails with a REASON (R322): its status, the log entry and TX_FAIL. -/
def canFail (c o reason bitPos time : Nat) (esi : Bool) (s : State) : State :=
  let b := s.conf objCan
  let d := (s.canObj c o).data
  let f := frameIndex s.now
  let s := s.updObj c o (fun x => { x with
    st := 3, reason := reason, bitPos := bitPos, failed := (x.failed + 1) % 65536, changedAt := f, data := [] })
  (canLog c time 2 (txFlags b c o esi) (canId b c o) o reason bitPos d s).raise (evTxFail c)

/-- Every pending object of controller c, but one, fails with a REASON at once. -/
def canFailPending (c reason : Nat) (except : Option Nat) (s : State) : State :=
  (List.range 128).foldl (fun s o =>
    if (s.canObj c o).st = 1 && except ≠ some o then canFail c o reason 0xFFFF s.now false s else s) s

/-- The module ceases to own (R329): a frame on the bus is completed, every other pending object fails with ABORTED,
and both controllers enter restricted operation. -/
def canRestrict (s : State) : State :=
  let s := (List.range 2).foldl (fun s c => canFailPending c 8 (s.ctl c).sending s) s
  (s.setBit Reg.canStatusNormal0 false).setBit Reg.canStatusNormal1 false

end Sys2Proof.Machine
end

