-- ==== Sys2Proof/Machine/Roles.lean ====
section
/-! DEFINITION. Roles (11 R335-R337), ownership and its gates (R338, R339), entering FAILED (13 R395, R555;
11 R343), and the backup bytes (18 R508). Every command that changes the role goes through these. -/

namespace Sys2Proof.Machine

/-! ### Role codes (R335) and the shape of the group -/

def roleNone : Nat := 0
def rolePrimary : Nat := 1
def roleStandby : Nat := 2
def roleSyncing : Nat := 3
def roleAlone : Nat := 4
def roleFailed : Nat := 5
def roleAloneStandby : Nat := 6

/-- The module's role. -/
def State.role (s : State) : Nat := s.get Reg.sysRoleRole

/-- GROUP_KIND bench (01 R30). -/
def State.bench (s : State) : Bool := s.get Reg.sysModeGroupKind == 0

/-- GROUP_KIND triad (01 R30). -/
def State.triad (s : State) : Bool := s.get Reg.sysModeGroupKind == 2

/-- Debug taint (13 R405). -/
def State.taint (s : State) : Bool := s.on Reg.sysModeTaint

/-- The module holds OWN (R339). -/
def State.held (s : State) : Bool := s.on Reg.hhkPairStatusOwnHeld

/-- Time is valid, or RUN_NO_TIME permits running without it (02 R54). -/
def State.timeOk (s : State) : Bool := s.on Reg.timStatusValid || s.on Reg.sysModeRunNoTime

/-- Changes the role; a change sets ROLE_CHANGE (01 R30). -/
def setRole (r : Nat) (s : State) : State :=
  if s.role = r then s else (s.set Reg.sysRoleRole r).raise Ev.sysRoleChange

/-- A peer is STANDBY and carries no debug taint (R335). -/
def goodStandby (s : State) : Bool := s.pair.peers.any (fun p => p.role == roleStandby && !p.taint)

/-- A peer is STANDBY, tainted or not. -/
def anyStandby (s : State) : Bool := s.pair.peers.any (fun p => p.role == roleStandby)

/-- The drive that R301 gives the module's role, outside the 1 ms hold; PEER_KILL_IN switches the stages off (R302). The DO of
a triad's defined master that is not PRIMARY is off, unless a peer is in step with it (12 R378; log entry 201). -/
def roleDrive (s : State) : Drive :=
  if s.on Reg.hhkPairStatusKillIn then .off
  else if s.held then (if s.triad && s.role != rolePrimary && !anyStandby s then .lone else .owner)
  else if s.role = roleStandby then (if s.triad then .voted else .follow)
  else .off

/-! ### Ownership (R338, R339) -/

/-- The gated outputs open (R338): stages at full value, LSP drivers on. CAN enters normal operation on its own
command (10 R329). -/
def gatesOpen (s : State) : State :=
  (setDrive .owner s).setBit Reg.lspStatusClkDrive true

/-- The gated outputs close (R338); the stages are driven as given. -/
def gatesClose (d : Drive) (s : State) : State :=
  let s := clearSending (canRestrict ((setDrive d s).setBit Reg.lspStatusClkDrive false))
  { s with fio := { s.fio with wetting := none } }

/-- The singletons stop when OWN is lost (R361). -/
def stopSingletons (s : State) : State :=
  showPublishing ((List.range 3).foldl (fun s n => s.setBit (Reg.hhkPairCkptRunning n) false) s)

/-- The claim logic goes to DISARMED (R339). -/
def disarm (s : State) : State :=
  let s := { s with pair := { s.pair with claiming := false, longQuiet := false } }
  s.setBit Reg.hhkPairStatusArmed false

/-- OWN is sensed high (R338, R341). -/
def ownRises (s : State) : State :=
  { s with pair := { s.pair with ownHigh := some s.mono } }.setBit Reg.hhkPairStatusOwnLine false

/-- OWN is sensed low; one that was high has been so until now (R341). -/
def ownFalls (s : State) : State :=
  { s with pair := { s.pair with
      ownHigh := if s.on Reg.hhkPairStatusOwnLine then s.pair.ownHigh else some s.mono } }.setBit
    Reg.hhkPairStatusOwnLine true

/-- OWN has stayed held for the 2 us in which PAIR_OK_IN is found missing (R341). -/
def ownStayed (s : State) : Bool :=
  s.on Reg.hhkPairStatusOwnLine && (match s.pair.ownHigh with | some m => decide (m + 2000 ≤ s.mono) | none => true)

/-- The own driver turns off and the claim logic is disarmed; while OWN was held the gates close with the stages
driven as given, the singletons stop (R339, R302) and TCP connections close (06 R209). -/
def releaseOwn (d : Drive) (s : State) : State :=
  let was := s.held
  let s := disarm s
  if was then
    let s := (ownRises (s.setBit Reg.hhkPairStatusOwnHeld false)).setBit Reg.sysRolePubMaster false
    stopSingletons (closeClients (gatesClose d s))
  else s

/-- Records cause and time of an ownership change (R366). -/
def recordOwn (cause : Nat) (s : State) : State :=
  { s with pair := { s.pair with cause := cause, changeAt := s.now } }

/-- Firmware arms the claim logic, unless PEER_KILL_IN is asserted (R340, R342). -/
def arm (s : State) : State :=
  if s.on Reg.hhkPairStatusKillIn then s else s.setBit Reg.hhkPairStatusArmed true

/-- A start claim is eligible (R340): no debug taint or bench, and time valid or RUN_NO_TIME. A module that lacks a
settings object stays in role none until it is written (17 R487). -/
def claimEligible (s : State) : Bool := (!s.taint || s.bench) && s.timeOk && s.cfg.absent.isEmpty

/-- PAIR_OK_OUT toggles in every role but none and FAILED, unless PEER_KILL_IN disables it (R341, R342). -/
def reviewPairOk (s : State) : State :=
  { s with pair := { s.pair with
      pairOkOut := !(s.role == roleNone || s.role == roleFailed || s.on Reg.hhkPairStatusKillIn) } }

/-- The stages take the drive of the module's role, where they are not held for the 1 ms after a release of OWN (R302). -/
def followRole (s : State) : State :=
  if s.fio.drive = .hold ∨ s.fio.drive = roleDrive s then s else setDrive (roleDrive s) s

/-- The DO of a triad's defined master follows the peers in step with it (12 R378). -/
def followPeers (s : State) : State := if s.triad && s.held then followRole s else s

/-- PRIMARY without an untainted STANDBY peer becomes ALONE (R336). -/
def reviewOwner (s : State) : State :=
  followPeers (if s.role = rolePrimary && !goodStandby s then setRole roleAlone s else s)

/-- The module enters a role in which it takes part in the group, or leaves the group; PAIR_OK_OUT and the stages follow. -/
def enterRole (r : Nat) (s : State) : State := followRole (reviewPairOk (setRole r s))

/-- The messages that travel as CONTROL or KEY frames (12 R372, R553). -/
def numberedKinds : List String :=
  ["JOIN", "JOIN_ACCEPT", "JOIN_REFUSE", "LEAVE", "FAILED", "READY", "ACK", "HANDOVER", "TAINT_RELEASE", "RESYNC", "KEY"]

/-- The messages that the third member of a triad relays: VOTE, SIGNATURE and CONTROL frames (12 R381). -/
def relayedKinds : List String := ["VOTE", "SIGNATURE"] ++ numberedKinds.filter (· != "KEY")

/-- The rank that a port of a triad member faces (12 R377). -/
def facedRank (rank p : Nat) : Nat := ((List.range 3).filter (· != rank)).getD p 3

/-- The slot of the group member of a rank (R337), 0xFF where the boot configuration names none. -/
def slotOfRank (s : State) (r : Nat) : Nat := s.sec.members.getD r 0xFF

/-- The other member of a pair, 0xFF where the boot configuration names none. -/
def pairSlot (s : State) : Nat :=
  (s.sec.members.find? (fun x => x != s.get Reg.sysPositionSlotId)).getD 0xFF

/-- The slot that a port faces. -/
def facedSlot (s : State) (p : Nat) : Nat :=
  if s.triad then slotOfRank s (facedRank (s.get Reg.hhkPairStatusRank) p) else pairSlot s

/-- A way by port p, with the COUNTER that the port gives its next frame (12 R371). -/
def byPort (s : State) (p dst : Nat) (relayed : Bool) : Route := ⟨p, dst, relayed, s.hhk.txCtr.getD p 0⟩

/-- A port carries frames other than heartbeats: it is not miswired (12 R374). -/
def portWired (s : State) (p : Nat) : Bool := !bitOf s.hhk.miswired p

/-- The way of a frame of a kind to the member that port p of a triad member faces: by that port, or where the port is
down, of the kinds that are relayed, by the third member (12 R381). -/
def wayFacing (s : State) (kind : String) (p : Nat) : Option Route :=
  let up (p : Nat) : Bool := bitOf (s.get Reg.hhkPairStatusHhkUp) p && portWired s p
  if up p then some (byPort s p (facedSlot s p) false)
  else if relayedKinds.contains kind && up (1 - p) then some (byPort s (1 - p) (facedSlot s p) true)
  else none

/-- The ways that a frame of a kind leaves: in a pair both ports, in a triad the way to each other member (12 R553). With
none the frame does not leave. -/
def waysOf (s : State) (kind : String) : List Route :=
  if s.triad then (List.range 2).filterMap (wayFacing s kind)
  else ((List.range 2).filter (portWired s)).map (fun p => byPort s p (pairSlot s) false)

/-- The messages that may take several frames (12 R371, R372). -/
def objectKinds : List String := ["SNAPSHOT", "CHECKPOINT", "RESYNC_LINES", "FORWARD"]

/-- The payloads of a message: an object goes in segments of 4096, anything else in one frame (12 R372). -/
def payloads (kind : String) (data : List Nat) : List (List Nat) :=
  if objectKinds.contains kind && decide (4096 < data.length) then
    (List.range ((data.length + 4095) / 4096)).map (fun i => (data.drop (4096 * i)).take 4096)
  else [data]

/-- The frames of a message from SEGMENT `seg` on; the last one carries LAST, and each port counts on (12 R371). -/
def framesOf (ways : List Route) (kind : String) (seg : Nat) (data : List Nat) : List OutMsg :=
  let l := payloads kind data
  (List.range l.length).map (fun i =>
    .peer (ways.map (fun (w : Route) => { w with counter := w.counter + i })) kind (seg + i) (i + 1 == l.length)
      (l.getD i []))

/-- A Hollyhock message leaves by the given ways; each port numbers its own frames (12 R371). -/
def sendBy (ways : List Route) (kind : String) (seg : Nat) (data : List Nat) (s : State) : State :=
  let s : State := { s with outbox := s.outbox ++ framesOf ways kind seg data }
  let n := (payloads kind data).length
  { s with hhk := { s.hhk with txCtr := ways.foldl (fun l w => listSet l w.port (· + n)) s.hhk.txCtr } }

/-- A frame that each port sends for itself (12 R553); a miswired port sends heartbeats only (R374). -/
def toPort (p : Nat) (kind : String) (data : List Nat) (s : State) : State :=
  if kind ≠ "HEARTBEAT" && !portWired s p then s
  else sendBy [byPort s p (facedSlot s p) false] kind 0 data s

/-- A message leaves by the given ways; a CONTROL or KEY frame carries the next sequence number in SEGMENT (R553). -/
def sendNumbered (ways : List Route) (kind : String) (data : List Nat) (s : State) : State :=
  if numberedKinds.contains kind then
    let s := sendBy ways kind s.hhk.ctlSeq data s
    { s with hhk := { s.hhk with ctlSeq := (s.hhk.ctlSeq + 1) % 65536 } }
  else sendBy ways kind 0 data s

/-- Sends a message to the peers over Hollyhock. -/
def toPeers (kind : String) (data : List Nat) (s : State) : State := sendNumbered (waysOf s kind) kind data s

/-- Sends a message to the member of a slot. -/
def toMember (slot : Nat) (kind : String) (data : List Nat) (s : State) : State :=
  sendNumbered ((waysOf s kind).filter (fun w => !s.triad || w.dst == slot)) kind data s

/-- JOIN goes to the owner: the slot, SPLIT, STATE_FORMAT with the oldest one translated, and the version of the running
bundle (R359, 13 R404, 16 R465). -/
def sendJoin (s : State) : State :=
  let k := s.sec.slots.getD (s.get Reg.secStatusSlot) {}
  toPeers "JOIN" ([s.get Reg.sysPositionSlotId, s.get Reg.sysModeSplit, k.stFormat, k.stUpMin]
    ++ k.version.map (·.toNat)) s

/-- The objects that this module lacks are requested of the owner (17 R487). -/
def askObjects (s : State) : State := s.cfg.absent.foldl (fun s o => toPeers "FORWARD" [9, o] s) s

/-- A module in role none joins an owner, claims by rank, or waits for a lower rank (R336). -/
def joinOrClaim (s : State) : State :=
  if s.role ≠ roleNone || !s.sec.fwUp || s.pair.left || s.pair.refused || 11 < s.get Reg.sysPositionGroupId then s
  else if s.bench then (if claimEligible s then arm s else s)
  else if s.pair.peers.any (fun p => p.role == rolePrimary || p.role == roleAlone) then
    let s : State := disarm { s with pair := { s.pair with waiting := false, attempts := 0 } }
    askObjects (sendJoin (enterRole roleSyncing s))
  else if s.pair.peers.isEmpty then s
  else if s.pair.peers.all (fun p => p.role != roleNone || s.get Reg.hhkPairStatusRank < p.rank) then
    (if claimEligible s then arm s else s)
  else disarm { s with pair := { s.pair with waiting := true } }

/-! ### Backup bytes (18 R508) -/

/-- The 64 backup bytes. -/
def State.backup (s : State) : List Byte :=
  (List.range 16).flatMap (fun n => leBytes 4 (s.get (Reg.bkdBytesWord n)))

/-- Writes all 64 backup bytes and updates BKD_BYTES_CRC with them (R508). -/
def putBackup (bs : List Byte) (s : State) : State :=
  let s := (List.range 16).foldl (fun s n => s.set (Reg.bkdBytesWord n) (leAt bs (4 * n) 4)) s
  s.set Reg.bkdBytesCrcCrc (Config.backupCrc bs)

/-- Writes backup bytes from an offset. -/
def writeBackup (off : Nat) (bs : List Byte) (s : State) : State := putBackup (patch s.backup off bs) s

/-! ### Entering FAILED -/

/-- Records the class, unit, port and instant of a detected fault in LCK_FAULT and LCK_FAULT_T (13 R411). -/
def recordFault (cls unit port : Nat) (s : State) : State :=
  let s := ((s.set Reg.lckFaultClass cls).set Reg.lckFaultUnit unit).set Reg.lckFaultPort port
  (s.set Reg.lckFaultTK (frameOf s.now)).set Reg.lckFaultTOfsNs (s.now - s.t0)

/-- LAST_FAULT and its SECONDS go to the backup bytes (11 R343, 18 R508). -/
def recordLastFault (v : Nat) (s : State) : State :=
  writeBackup 8 (leBytes 6 s.seconds) (writeBackup 4 (leBytes 4 v) s)

/-- FRAME_SYNC and TIME_BUS are released by a tick master that fails or is removed (02 R66). -/
def releaseTick (s : State) : State :=
  let s : State := { s with time := { s.time with drivesSync := false } }
  if s.get Reg.timStatusTickRole = 2 then (s.set Reg.timStatusTickRole 0).raise Ev.timRoleChange else s

/-- The reaction FAILED of a class of R407 (R395, R555, R343): releases and updates are blocked, the stages are
driven as given, OWN is released, PAIR_OK_OUT stops, LAST_FAULT is recorded, the singletons stop and FAILED goes to
the peers; a restart becomes due where the class permits one. -/
def enterFailed (lastFault : Nat) (cls : Nat) (d : Drive) (restart : Bool) (s : State) : State :=
  let due := if s.role = roleFailed then s.pair.restartDue && restart else restart
  let s : State := { s with nvs := { s.nvs with failedRecs := s.nvs.failedRecs + 1 } }
  let s := lifetimeAdd 3 (leBytes 4 lastFault ++ leBytes 1 s.role) s
  let s := releaseOwn d s
  let s := { s with
    pair := { s.pair with blocked := true, restartDue := due, handover := none, joiner := none, qFrame := none
                          killDue := false, announced := false, handing := false } }
  let s := setDrive (if d = .off || s.fio.drive = .off then .off else .hold) s
  let s := releaseTick (stopSingletons s)
  toPeers "FAILED" [cls] (recordLastFault lastFault (enterRole roleFailed s))

/-- A fault of class `cls` in unit `unit` (0xFF none) at port `port` (0xFF none) whose reaction is FAILED. -/
def fail (cls unit port : Nat) (restart : Bool) (s : State) : State :=
  enterFailed (cls + (if unit = 0xFF then 0 else unit * 256)) cls .hold restart (recordFault cls unit port s)

/-- As `fail` where the stages switch off instead of holding: classes 0x1A and 0x1C (R555). -/
def failOff (cls : Nat) (restart : Bool) (s : State) : State :=
  enterFailed cls cls .off restart (recordFault cls 0xFF 0xFF s)

/-! ### Lock-step status (13 R409, R411) -/

/-- Unit `u` has a comparator that acts, under taint in record-only mode: units 0-3 not in split mode (13 R403, R405). -/
def unitCompares (s : State) (u : Nat) : Bool := u < 16 && u != 7 && !(s.on Reg.sysModeSplit && u < 4)

/-- A mismatch of unit `u` has a reaction: not under taint for units 0-6 (R405). -/
def unitActs (s : State) (u : Nat) : Bool := unitCompares s u && !(s.taint && u < 7)

/-- LCK_STATUS shows split mode, taint, diagnosis, release, grouping, the comparing units and the guarantee. -/
def refreshLck (s : State) : State :=
  let diagOff := !(s.on Reg.lckDiagCtrlNandSweepEn && s.on Reg.lckDiagCtrlDramScrubEn &&
    s.on Reg.lckDiagCtrlSramScrubEn && s.on Reg.lckDiagCtrlStateSigEn && s.on Reg.lckDiagCtrlInjectEn)
  let grouped := s.get Reg.sysModeGroupKind == 1 || s.get Reg.sysModeGroupKind == 2
  let cmp := (List.range 16).foldl (fun m u => if unitActs s u then m + 2 ^ u else m) 0
  let s := ((s.setBit Reg.lckStatusTaint s.taint).setBit Reg.lckStatusSplit (s.on Reg.sysModeSplit)).setBit
    Reg.lckStatusDiagOff diagOff
  let s := (s.setBit Reg.lckStatusGrouped grouped).set Reg.lckStatusComparing cmp
  s.setBit Reg.lckStatusGuarantee
    (!diagOff && !s.on Reg.sysModeSplit && !s.taint && s.on Reg.lckStatusReleased && grouped)

end Sys2Proof.Machine
end

