-- ==== Sys2Proof/Machine/Gates.lean ====
section
/-! DEFINITION. Gates and MPUs (15): entries and their rules, the permission of an access, violation reports and
their FIFOs, sealing and draining. -/

namespace Sys2Proof.Machine

/-! ### Masters (01 R19, R427) -/

def masterDebug : Nat := 0x20

/-- The masters of R19; an ID that is absent there is never issued (R20). -/
def masters : List Nat :=
  [0, 1, 2, 3, 4, 5, 6, 7, 8, 9, 0x0C, 0x10, 0x11, 0x12, 0x13, 0x14, 0x15, 0x16, 0x18, 0x1A, 0x1C, 0x1D, 0x1E, 0x20]

/-- A master issues accesses: it is one of R19, and PE4 to PE7 are present in split mode only (01 R19, R20). -/
def issues (s : State) (m : Nat) : Bool :=
  masters.contains m && (m < 4 || 7 < m || s.on Reg.sysModeSplit)

/-- PE0 to PE7. -/
def isPe (m : Nat) : Bool := m < 8

/-- A DMA master. -/
def isDma (m : Nat) : Bool := 0x10 ≤ m && m ≤ 0x1A

/-- The world an access carries: true secure (R427). -/
def accSecure (m : Nat) (secureRing : Bool) : Bool := m == 0x0C || (isDma m && secureRing)

/-- The privilege an access carries (R427). -/
def accPriv (m : Nat) (user : Bool) : Bool :=
  if isPe m then false else if m = 8 ∨ m = 9 then !user else true

/-! ### The fabric map (R429) -/

/-- The targets: base, size in bytes, gate. -/
def targets : List (Nat × Nat × Nat) := [
  (0x0000000000, 0x0200000000, 0),
  (0x4000000000, 0x600000, 1), (0x4001000000, 0x600000, 2), (0x4002000000, 0x600000, 3),
  (0x4003000000, 0x600000, 4),
  (0x4010000000, 0x100000, 5), (0x4020000000, 0x100000, 6), (0x4030000000, 0x1000000, 7),
  (0x4040000000, 0x1000000, 8), (0x4050000000, 0x1000000, 9), (0x4060000000, 0x1000000, 10),
  (0x4070000000, 0x1000000, 11), (0x4080000000, 0x1000000, 12), (0x4090000000, 0x1000000, 13),
  (0x40A0000000, 0x40000, 14)]

/-- A region of the DRAM data space: offset from, offset to (exclusive), its world (true secure), its use (01 R32). -/
structure DramRegion where
  lo : Nat
  hi : Nat
  secure : Bool
  use : String
deriving DecidableEq, Repr

/-- The partition of the DRAM data space (01 R32). -/
def dramRegions : List DramRegion := [
  ⟨0x000000000, 0x010000000, true, "Security island private"⟩,
  ⟨0x010000000, 0x090000000, false, "Utlos firmware, stacks and fixed tables"⟩,
  ⟨0x090000000, 0x0A0000000, false, "Snapshot staging and image transfer buffers"⟩,
  ⟨0x0A0000000, 0x0A4000000, false, "Larkspur raw sample ring"⟩,
  ⟨0x0A4000000, 0x0A8000000, false, "Aster sample buffers"⟩,
  ⟨0x0A8000000, 0x0C8000000, false, "Network buffers"⟩,
  ⟨0x0C8000000, 0x0E8000000, false, "Load-unit and bundle staging for verification"⟩,
  ⟨0x0E8000000, 0x128000000, false, "Archive staging and NAND cache"⟩,
  ⟨0x128000000, 0x168000000, false, "Resync copy and singleton checkpoints"⟩,
  ⟨0x168000000, 0x200000000, false, "Utlos general pool"⟩]

/-- The region that holds a DRAM offset. -/
def dramRegionOf (a : Nat) : Option DramRegion := dramRegions.find? (fun r => decide (r.lo ≤ a) && decide (a < r.hi))

/-- The ring-engine SRAM, the service window and PEn SRAM in the fabric map. -/
def ringSramBase : Nat := 0x4010000000
def windowBase : Nat := 0x4020000000
def peSramBase (n : Nat) : Nat := 0x4000000000 + 0x1000000 * n

/-- The target that holds an address. -/
def targetOf (a : Nat) : Option (Nat × Nat × Nat) :=
  targets.find? (fun t => decide (t.1 ≤ a) && decide (a < t.1 + t.2.1))

/-! ### Entries (R430, R443) -/

/-- The service address of entry e of gate g. -/
def entAddr (g e : Nat) : Nat := 0xB1400 + 0x800 * g + 0x20 * e

/-- The service address of entry e of the MPU of master m. -/
def mpuAddr (m e : Nat) : Nat := 0xB9100 + 0x200 * m + 0x10 * e

def entBase (a : Nat) : Fld := ⟨a, 27, 0⟩
def entLimit (a : Nat) : Fld := ⟨a + 4, 27, 0⟩
def entLock (a : Nat) : Fld := ⟨a + 8, 31, 31⟩
def entEnable (a : Nat) : Fld := ⟨a + 8, 30, 30⟩
def entWorld (a : Nat) : Fld := ⟨a + 8, 29, 29⟩
def entPriv (a : Nat) : Fld := ⟨a + 8, 5, 3⟩
def entUser (a : Nat) : Fld := ⟨a + 8, 2, 0⟩
def entMaskLo (a : Nat) : Fld := ⟨a + 12, 31, 0⟩
def entMaskHi (a : Nat) : Fld := ⟨a + 16, 31, 0⟩

/-- An entry is in use and covers a byte address. -/
def entCovers (s : State) (ent byte : Nat) : Bool :=
  s.on (entEnable ent) && decide (s.get (entBase ent) ≤ byte / 4096) && decide (byte / 4096 ≤ s.get (entLimit ent))

/-- The master's bit of an entry's bitmap. -/
def entMaster (s : State) (ent m : Nat) : Bool :=
  if m < 32 then bitOf (s.get (entMaskLo ent)) m else bitOf (s.get (entMaskHi ent)) (m - 32)

/-- The permission bit of a kind: read, write, execute from the most significant bit down. -/
def permits (rwx kind : Nat) : Bool := bitOf rwx (2 - kind)

/-- Causes of R440. -/
def causeNoMatch : Nat := 1
def causeMaster : Nat := 2
def causeWorld : Nat := 3
def causePerm : Nat := 4
def causeOutside : Nat := 5
def causeClosed : Nat := 6
def causeRing : Nat := 7

/-- Gate states. -/
def gateOpen : Nat := 0
def gateDraining : Nat := 1
def gateClosed : Nat := 2

/-- The world a target needs under the default map: the security island and block SEC are secure (R428). -/
def targetSecure (gate a : Nat) : Bool :=
  gate == 7 || (gate == 6 && 0xC0000 ≤ a - windowBase && a - windowBase < 0xD0000)

/-- An access's master, world, privilege and kind. -/
structure Who where
  master : Nat
  secure : Bool
  priv : Bool
  kind : Nat
deriving DecidableEq, Repr

/-- The first condition of R431 that fails under an entry, if any. `mask` tells whether the entry has a bitmap. -/
def underEntry (s : State) (w : Who) (ent : Nat) (mask : Bool) : Option Nat :=
  if mask && !entMaster s ent w.master then some causeMaster
  else if s.on (entWorld ent) && !w.secure then some causeWorld
  else if !permits (s.get (if w.priv then entPriv ent else entUser ent)) w.kind then some causePerm
  else none

/-- The first condition of R431 that fails under the default map, or under the boot map with its extra fetches. -/
def underDefault (w : Who) (gate byte : Nat) (boot : Bool) : Option Nat :=
  if !w.priv then some causeNoMatch
  else if targetSecure gate byte && !w.secure then some causeWorld
  else if w.kind = 2 then
    (if boot && w.master == 8 && (gate == 14 || gate == 5) then none else some causePerm)
  else none

/-- A boot access (R438). -/
def bootAccess (w : Who) : Bool := w.master == 0x0C || (w.master == 8 && w.priv)

/-- The rule for one byte at a gate: the forbidding entry index (0xFF the default map) and cause, or none. -/
def gateByte (s : State) (w : Who) (g byte : Nat) : Option (Nat × Nat) :=
  let closed := s.get (Reg.gateGCtrlState g) ≠ gateOpen
  if closed && !bootAccess w then some (0xFF, causeClosed)
  else
    match (List.range 32).find? (fun e =>
        entCovers s (entAddr g e) byte && (!closed || s.on (entLock (entAddr g e)))) with
    | some e => (underEntry s w (entAddr g e) true).map (fun c => (e, c))
    | none => (underDefault w g byte closed).map (fun c => (0xFF, c))

/-- The rule for one byte at a master's own MPU: a byte under no entry is forbidden (R435); the MPUs follow the states of
the gates (R438). -/
def mpuByte (s : State) (w : Who) (byte : Nat) : Option (Nat × Nat) :=
  if s.get (Reg.gateGCtrlState 15) ≠ gateOpen && !bootAccess w then some (0xFF, causeClosed)
  else match (List.range 16).find? (fun e => entCovers s (mpuAddr w.master e) byte) with
  | some e => (underEntry s w (mpuAddr w.master e) false).map (fun c => (e, c))
  | none => some (0xFF, causeNoMatch)

/-- The first forbidden byte of n bytes from an address: the address, entry and cause. -/
def firstForbidden (rule : Nat → Option (Nat × Nat)) (a : Nat) : Nat → Option (Nat × Nat × Nat)
  | 0 => none
  | n + 1 => match rule a with
    | some p => some (a, p)
    | none => firstForbidden rule (a + 1) n

/-! ### Reports (R440, R441) -/

/-- The registers of gate g show its oldest report and how many it holds (R443). -/
def showFifo (g : Nat) (s : State) : State :=
  let l := s.gate.fifos.getD g []
  let s := (s.set (Reg.gateGFifoCount g) l.length).set Reg.gateStatusPending
    (withBit (s.get Reg.gateStatusPending) g (!l.isEmpty))
  let r := (l.head?).getD ⟨0, 0, 0, 0, false, false, 0, 0, 1, 0, 0, 0, 0⟩
  let s := (s.set (Reg.gateGAddrLoAddrLo g) r.addr).set (Reg.gateGAddrHiAddrHi g) (r.addr / 2 ^ 32)
  let s := ((s.set (Reg.gateGAddrHiGate g) r.gate).set (Reg.gateGInfoMaster g) r.master).set
    (Reg.gateGInfoRegion g) r.region
  let s := ((s.setBit (Reg.gateGInfoWorld g) r.secure).setBit (Reg.gateGInfoPriv g) r.priv).set
    (Reg.gateGInfoKind g) r.kind
  let s := ((s.set (Reg.gateGInfoSize g) r.size).set (Reg.gateGInfoBurst g) (r.burst - 1)).set
    (Reg.gateGInfoCause g) r.cause
  ((s.set (Reg.gateGTK g) r.frame).set (Reg.gateGTOfsNs g) r.ofs).set (Reg.gateGSecSecLo g) r.sec

/-- A violation (R441): the report enters the FIFO of gate g, or is lost and counted; VIOLATION is set, and
RING_REJECT for a report entered by gate 5 with CAUSE RING. -/
def violation (g : Nat) (w : Who) (addr region size burst cause : Nat) (s : State) : State :=
  let r : GateReport := ⟨addr, g, w.master, region, w.secure, w.priv, w.kind, size, burst, cause, frameOf s.now,
    s.now - s.t0, s.seconds % 2 ^ 32⟩
  let full := 16 ≤ (s.gate.fifos.getD g []).length
  let s : State :=
    if full then (s.bump (Reg.gateGFifoOverflow g)).raise Ev.gateFifoOvf
    else
      let s : State := { s with gate := { s.gate with fifos := listSet s.gate.fifos g (fun l => l ++ [r]) } }
      let s := showFifo g s
      if g = 5 ∧ cause = causeRing then s.raise Ev.gateRingReject else s
  s.raise Ev.gateViolation

/-- A 20-byte form of a report for the event log (17 R488): the five report registers in their order. -/
def reportBytes (r : GateReport) : List Byte :=
  leBytes 4 r.addr ++ leBytes 4 (r.gate * 2 ^ 28 + r.addr / 2 ^ 32 % 256)
    ++ leBytes 4 (r.master * 2 ^ 24 + r.region * 2 ^ 16 + (if r.secure then 2 ^ 15 else 0)
      + (if r.priv then 2 ^ 14 else 0) + r.kind * 2 ^ 12 + r.size * 2 ^ 9 + (r.burst - 1) * 2 ^ 4 + r.cause)
    ++ leBytes 4 (r.frame * 2 ^ 18 + r.ofs) ++ leBytes 4 r.sec

/-- Removes the oldest report of a gate and enters it in the event log (R441). -/
def popReport (g : Nat) (s : State) : State :=
  match s.gate.fifos.getD g [] with
  | [] => s
  | r :: rest =>
    let s : State := { s with gate := { s.gate with fifos := listSet s.gate.fifos g (fun _ => rest) } }
    fwLog 3 (reportBytes r) (showFifo g s)

/-- GATE_POP (R441, R443): writing 1 to POP removes the oldest report. -/
def execGatePop (g value : Nat) (s : State) : Out :=
  .next (if bitOf value 0 && g < 16 then popReport g s else s)

/-! ### Sealing, writing entries, draining (R436-R438) -/

/-- A write of GATE_SEAL (R436, R438): from UM0 in privileged mode, writing 1 seals and opens every gate and MPU; in a pair
or a triad the boot code sets LCK_DIAG_CTRL.LOCK with it (13 R411). -/
def writeSeal (master : Nat) (privileged : Bool) (value : Nat) (s : State) : State :=
  if master = 8 ∧ privileged = true ∧ bitOf value 0 = true then
    let s := s.setBit Reg.gateStatusSealed true
    let g := s.get Reg.sysModeGroupKind
    let s := if g = 1 ∨ g = 2 then s.setBit Reg.lckDiagCtrlLock true else s
    (List.range 16).foldl (fun s g => (s.setBit (Reg.gateGCtrlSealed g) true).set (Reg.gateGCtrlState g) gateOpen) s
  else s

/-- A service address lies in a gate's entry table: the gate and the entry. -/
def gateEntryOf (a : Nat) : Option (Nat × Nat) :=
  if a < 0xB1400 then none
  else
    let g := (a - 0xB1400) / 0x800
    let r := (a - 0xB1400) % 0x800
    if g < 15 ∧ r < 0x400 ∧ r % 32 < 20 then some (g, r / 32) else none

/-- A service address lies in an MPU's entry table: the master and the entry. -/
def mpuEntryOf (a : Nat) : Option (Nat × Nat) :=
  if a < 0xB9100 then none
  else
    let m := (a - 0xB9100) / 0x200
    let r := (a - 0xB9100) % 0x200
    if m ≤ 0x20 ∧ r < 0x100 ∧ r % 16 < 12 then some (m, r / 16) else none

/-- The bits of an entry register that hold fields (R443), by its offset in the entry. -/
def entryMask (ofs : Nat) : Nat :=
  match ofs with
  | 0 => 0x0FFFFFFF
  | 4 => 0x0FFFFFFF
  | 8 => 0xE000003F
  | _ => 0xFFFFFFFF

/-- LOCKED counts the entries of a gate with LOCK set (R443). -/
def showLocked (g : Nat) (s : State) : State :=
  s.set (Reg.gateGCtrlLocked g) ((List.range 32).filter (fun e => s.on (entLock (entAddr g e)))).length

/-- A write of an entry register (R436, R437, R435): a write from UM0 in privileged mode to an unsealed, unlocked entry takes
effect; any other is ignored and sets WRITE_SEALED. A locked entry keeps its fields whatever is written; the MPU
entries of PEn and SEC are always locked. -/
def writeEntry (master : Nat) (privileged : Bool) (address value : Nat) (s : State) : State :=
    match gateEntryOf address, mpuEntryOf address with
    | some (g, e), _ =>
      if master ≠ 8 ∨ privileged = false ∨ s.on (Reg.gateGCtrlSealed g) = true then s.raise Ev.gateWriteSealed
      else if s.on (entLock (entAddr g e)) then s
      else
        showLocked g (s.setReg (address / 4 * 4)
          (BitVec.ofNat 32 (value &&& entryMask ((address - 0xB1400) % 32 / 4 * 4))))
    | none, some (m, e) =>
      if master ≠ 8 ∨ privileged = false ∨ s.on (Reg.gateGCtrlSealed 15) = true then s.raise Ev.gateWriteSealed
      else if isPe m || m == 0x0C || s.on (entLock (mpuAddr m e)) then s
      else s.setReg (address / 4 * 4) (BitVec.ofNat 32 (value &&& entryMask ((address - 0xB9100) % 16 / 4 * 4)))
    | none, none => s

/-- The boot code makes the secure regions of R32 secure (R428): an entry of gate 0 for each, which lets the secure
masters read and write, with LOCK (R437). The entry's place and bitmap are the model's (log entry 149). -/
def secureDram (s : State) : State :=
  ((List.range dramRegions.length).zip dramRegions).foldl (fun s p =>
    let a := entAddr 0 p.1
    if !p.2.secure || s.on (entLock a) then s
    else
      let s := (s.set (entBase a) (p.2.lo / 4096)).set (entLimit a) (p.2.hi / 4096 - 1)
      let s := (s.set (entMaskLo a) 0x057F1000).set (entPriv a) 6
      let s := ((s.setBit (entWorld a) true).setBit (entEnable a) true).setBit (entLock a) true
      showLocked 0 s) s

/-- Clears the fields of an entry. -/
def clearEntry (ent n : Nat) (s : State) : State :=
  (List.range n).foldl (fun s i => s.setReg (ent + 4 * i) 0#32) s

/-- A gate closes after draining: unlocked entries are cleared and the seal is cleared (R438). The MPUs close with gate 15;
the entries of PEn and SEC are always locked (R435). -/
def closeGate (g : Nat) (s : State) : State :=
  let s := (s.set (Reg.gateGCtrlState g) gateClosed).setBit (Reg.gateGCtrlSealed g) false
  if g < 15 then
    (List.range 32).foldl (fun s e => if s.on (entLock (entAddr g e)) then s else clearEntry (entAddr g e) 5 s) s
  else
    (List.range 0x21).foldl (fun s m => (List.range 16).foldl (fun s e =>
      if s.on (entLock (mpuAddr m e)) || isPe m || m == 0x0C then s else clearEntry (mpuAddr m e) 3 s) s) s

/-- GATE_DRAIN_COMPLETE (R438): the last checked access of a draining gate completes. -/
def execGateDrainComplete (g : Nat) (s : State) : Out :=
  .next (if g < 16 ∧ s.get (Reg.gateGCtrlState g) = gateDraining then closeGate g s else s)

/-- GATE_DRAIN_TIMEOUT (R438): accesses still incomplete are ended and counted, then the gate closes. -/
def execGateDrainTimeout (g incomplete : Nat) (s : State) : Out :=
  .next (
    if g < 16 ∧ s.get (Reg.gateGCtrlState g) = gateDraining then
      let s := if incomplete = 0 then s
        else (s.bump (Reg.gateGCtrlDrainAbortCnt g) incomplete).raise Ev.gateDrainAbort
      closeGate g s
    else s)

/-- A warm reset begins: every open gate drains (R438), and GATE_SEAL has not been written since (R443). -/
def drainGates (s : State) : State :=
  (List.range 16).foldl (fun s g =>
    if s.get (Reg.gateGCtrlState g) = gateOpen then s.set (Reg.gateGCtrlState g) gateDraining else s)
    (s.setBit Reg.gateStatusSealed false)

end Sys2Proof.Machine
end

