-- ==== Sys2Proof/Machine/Rings.lean ====
section
/-! DEFINITION. The ring engine (03 R73-R79): which masters a ring serves (01 R34), doorbells, CONS writes and
interrupts. -/

namespace Sys2Proof.Machine

/-- Entries of a ring. -/
def ringSize (s : State) (n : Nat) : Nat := 2 ^ s.get (Reg.rcbCfgLog2Size n)

/-- Descriptors a ring holds (R75). -/
def ringHeld (s : State) (n : Nat) : Nat :=
  (s.get (Reg.rcbProdProd n) + 0x10000 - s.get (Reg.rcbConsCons n)) % 0x10000

/-- The fabric address of entry e of a ring (R75): rings 0 to 63 lie in ring-engine SRAM, the others in DRAM (R73), or where
RCB_CFG.SPACE says. -/
def ringEntry (s : State) (n e : Nat) : Nat :=
  let base := s.get (Reg.rcbBaseHiBase32 n) * 2 ^ 32 + s.get (Reg.rcbBaseLoBase n) * 64
  (if n < 64 ∨ s.get (Reg.rcbCfgSpace n) = 1 then ringSramBase else 0) + base + 64 * (e % ringSize s n)

/-- The Petal engine that owns a ring (R34): in split mode the second half of a pair's rings is the trailing core's. -/
def ringPe (s : State) (n : Nat) : Nat := if s.on Reg.sysModeSplit && 8 ≤ n % 16 then n / 16 + 4 else n / 16

/-- The first ring of the pair of external session i; the second carries the responses (R74). -/
def sessionRing (i : Nat) : Nat := 192 + 2 * i

/-- The masters a ring serves (R34, R74). Utlos stands at one end of every ring (RCB_CFG.DIR) but the secure ones. -/
def ringServes (s : State) (n m : Nat) : Bool :=
  let um := m == 8 || m == 9
  if n < 64 then um || m == ringPe s n
  else if n < 112 then um || m == 0x12 + (n - 64) / 16
  else if n < 124 then um || m == 0x15
  else if n < 128 then um || m == 0x16
  else if n < 160 then um || m == 0x18
  else if n < 192 then um || m == 0x1A
  else if n < sessionRing 14 then um
  else if n < 240 then m == 0x0C
  else um

/-- A flag of RCB_EVENT is set, and with it RING_FAULT (R109). -/
def ringFault (e : Ev) (s : State) : State := (s.raise e).raise Ev.mbxRingFault

/-- The consumer's interrupt is raised, and restarts the time condition (R77). -/
def ringInterrupt (n : Nat) (s : State) : State :=
  { s.send (.ringInterrupt n) with mbx := { s.mbx with
      interruptAt := (n, s.mono) :: s.mbx.interruptAt.filter (fun p => p.1 != n) } }

/-- The time condition has run for TIME_US since the ring's last interrupt (R77). -/
def timeRestarted (n : Nat) (s : State) : Bool :=
  match s.mbx.interruptAt.find? (fun p => p.1 == n) with
  | some p => decide (p.2 + 1000 * s.get (Reg.rcbModTimeUs n) ≤ s.mono)
  | none => true

/-- The count condition of R77, judged whenever PROD, CONS or COUNT has changed, with `new` descriptors more (log entry
151): COUNT 0 raises the interrupt for every one of them. -/
def ringCount (n new : Nat) (s : State) : State :=
  let c := s.get (Reg.rcbModCount n)
  if c = 0 then (List.range new).foldl (fun s _ => ringInterrupt n s) s
  else if c ≤ ringHeld s n then ringInterrupt n s
  else s

/-- A doorbell that reaches its ring (R75): accepted, whatever ENABLE holds (log entry 148), or ignored with OVERFLOW. -/
def doorbell (n newProd : Nat) (s : State) : State :=
  let p := newProd % 0x10000
  let step := (p + 0x10000 - s.get (Reg.rcbProdProd n)) % 0x10000
  let held := (p + 0x10000 - s.get (Reg.rcbConsCons n)) % 0x10000
  if 1 ≤ step ∧ step ≤ ringSize s n ∧ held ≤ ringSize s n then ringCount n step (s.set (Reg.rcbProdProd n) p)
  else ringFault (Ev.rcbOverflow n) s

/-- A write of a doorbell (R75, R34): a master the ring does not serve is rejected and reported by gate 5. -/
def writeDoorbell (master ring newProd : Nat) (s : State) : State :=
    if 256 ≤ ring then s
    else if ringServes s ring master then doorbell ring newProd s
    else
      let s := ringFault (Ev.rcbReject ring) s
      let w : Who := ⟨master, accSecure master false, accPriv master false, 1⟩
      violation 5 w (windowBase + (Reg.rcbDoorbellNewProd ring).addr) 0xFF 2 1 causeRing s

/-- A FLAGS combination of R81, whichever end sends it. -/
def flagsKnown (flags length : Nat) : Bool :=
  match flags with
  | 0x00 | 0x04 | 0x20 | 0x24 | 0x01 | 0x05 | 0x03 | 0x07 | 0x08 | 0x0C | 0x11 => true
  | 0x10 => length == 0
  | _ => false

/-- The LEN values of the buffer entries of a chained descriptor, up to the first of 0 (R79). -/
def chainLens (d : List Byte) : List Nat := ([24, 40, 56].map (fun o => leAt d o 4)).takeWhile (· != 0)

/-- The form of a descriptor under R79 and R81: inline, at most 48 bytes with the unused ones 0; chained, buffers of at most
65 536 bytes that add up to LENGTH. On a ring a message has one segment. -/
def descriptorOk (d : List Byte) : Bool :=
  let flags := leAt d 8 2
  let len := leAt d 4 4
  flagsKnown flags len && leAt d 12 2 == 0 && leAt d 14 2 == 1 &&
    (if bitOf flags 2 then (chainLens d).all (fun n => decide (n ≤ 65536)) && (chainLens d).sum == len
     else decide (len ≤ 48) && (d.drop (16 + len)).all (· == 0#8))

/-- CONS passes descriptors of ring n (R75), and those that fail R79 or R81 set BAD_DESC (log entry 152); those of the Petal
rings are checked when their requests are served (R93). -/
def passDescriptors (n count : Nat) (s : State) : State :=
  if n < 64 then s
  else
    let c := s.get (Reg.rcbConsCons n)
    (List.range count).foldl (fun s e =>
      if descriptorOk (s.bytes (ringEntry s n (c + e)) 64) then s else ringFault (Ev.rcbBadDesc n) s) s

/-- CONS takes a value (R75-R77). -/
def writeCons (n cons : Nat) (s : State) : State :=
  let step := (cons + 0x10000 - s.get (Reg.rcbConsCons n)) % 0x10000
  ringCount n 0 ((passDescriptors n (min step (ringHeld s n)) s).set (Reg.rcbConsCons n) cons)

/-- RCB_CONS_WRITE (R76): CONS takes the value written, and every doorbell after it is checked against it. -/
def execRcbConsWrite (ring cons : Nat) (s : State) : Out :=
  .next (if ring < 256 then writeCons ring cons s else s)

/-- RING_INTERRUPT_TIMER (R77): the oldest pending descriptor has waited TIME_US; 0 disables the condition. -/
def execRingInterruptTimer (ring : Nat) (s : State) : Out :=
  .next (
    if ring < 256 ∧ s.get (Reg.rcbModTimeUs ring) ≠ 0 ∧ ringHeld s ring ≠ 0 ∧ timeRestarted ring s = true then
      ringInterrupt ring s
    else s)

/-! ### The rings of the sessions (R74, R79) -/

/-- The 16 bytes of a message header (R80). -/
def headerBytes (fam cmd seq len flags status segment segCount : Nat) : List Byte :=
  leBytes 1 fam ++ leBytes 1 cmd ++ leBytes 2 seq ++ leBytes 4 len ++ leBytes 2 flags ++ leBytes 2 status
    ++ leBytes 2 segment ++ leBytes 2 segCount

/-- The descriptor of a message (R79): its payload inline up to 48 bytes, else in one buffer at the given offset. -/
def descriptorBytes (fam cmd seq flags status : Nat) (payload : List Byte) (buffer : Nat) : List Byte :=
  let n := payload.length
  if n ≤ 48 then headerBytes fam cmd seq n flags status 0 1 ++ payload ++ zeros (48 - n)
  else headerBytes fam cmd seq n (flags + 4) status 0 1 ++ leBytes 8 buffer ++ leBytes 4 n ++ zeros 36

/-- A message passes ring n (R75): its descriptor is written at PROD and the doorbell rung, and the other end reads it and
moves CONS past it. A ring that is not in service carries nothing (log entry 186); one without a free entry ignores the
doorbell. -/
def throughRing (n : Nat) (d : List Byte) (s : State) : State :=
  let p := s.get (Reg.rcbProdProd n)
  if !s.on (Reg.rcbCfgEnable n) then s
  else if ringSize s n ≤ ringHeld s n then doorbell n (p + 1) s
  else writeCons n ((s.get (Reg.rcbConsCons n) + 1) % 0x10000) (doorbell n (p + 1) (s.setBytes (ringEntry s n p) d))

/-- A message of session i passes a ring of its pair, in descriptors of at most 64 KiB; where a buffer lies is a free value
(log entry 186). -/
def carry (n fam cmd seq flags status : Nat) (parts : List (List Byte)) (s : State) : State :=
  if !s.on (Reg.rcbCfgEnable n) then s
  else parts.foldl (fun s p =>
    throughRing n (descriptorBytes fam cmd seq flags status p (s.fresh % 2 ^ 33)) s.took) s

end Sys2Proof.Machine
end

