-- ==== Sys2Proof/Machine/Mailbox.lean ====
section
/-! DEFINITION. The mailbox (03): the command index R100, the checks of R93 in their order, responses and their
classes (R94-R98), outstanding requests (R83, R92) and the closing of sessions (R91). -/

namespace Sys2Proof.Machine

/-! ### Status codes (R98) -/

def stOk : Nat := 0x0000
def stInProgress : Nat := 0x0001
def stMalformed : Nat := 0x0010
def stUnknownFamily : Nat := 0x0011
def stUnknownCommand : Nat := 0x0012
def stBadLength : Nat := 0x0013
def stOutOfRange : Nat := 0x0014
def stDupSeq : Nat := 0x0015
def stNoSuchSeq : Nat := 0x0016
def stNotAuthenticated : Nat := 0x0020
def stRoleDenied : Nat := 0x0021
def stWorldDenied : Nat := 0x0022
def stNotWritable : Nat := 0x0023
def stAddress : Nat := 0x0024
def stStateConflict : Nat := 0x0030
def stBusy : Nat := 0x0031
def stQueueFull : Nat := 0x0032
def stCancelled : Nat := 0x0033
def stSegTimeout : Nat := 0x0034
def stVerifyFailed : Nat := 0x0040
def stStorage : Nat := 0x0041
def stInternal : Nat := 0x0050
def stNotSupported : Nat := 0x0051

/-- DETAIL where no field applies (R97). -/
def noField : Nat := 0xFFFF

/-- The response classes of R94. -/
inductive RespClass where
  | a | b | c | d
deriving DecidableEq, Repr

/-- A row of the command index (R100): code, role bit (R102) or 5 for none, class, and Src P. -/
structure CmdRow where
  fam : Nat
  cmd : Nat
  role : Nat
  cls : RespClass
  petal : Bool
deriving DecidableEq, Repr

def cmdIndexA : List CmdRow := [
  ⟨1, 1, 0, .b, false⟩, ⟨1, 2, 0, .b, false⟩, ⟨1, 3, 0, .b, false⟩,
  ⟨2, 1, 0, .b, false⟩, ⟨2, 2, 0, .b, false⟩, ⟨2, 3, 0, .b, false⟩, ⟨2, 4, 0, .b, false⟩,
  ⟨2, 5, 0, .b, false⟩, ⟨2, 6, 0, .b, false⟩, ⟨2, 7, 3, .b, false⟩, ⟨2, 8, 3, .b, false⟩,
  ⟨3, 1, 0, .c, false⟩, ⟨3, 2, 0, .c, false⟩, ⟨3, 3, 2, .c, false⟩, ⟨3, 4, 2, .c, false⟩, ⟨3, 5, 2, .b, false⟩,
  ⟨4, 1, 0, .b, false⟩, ⟨4, 2, 2, .d, false⟩, ⟨4, 3, 2, .d, false⟩, ⟨4, 4, 2, .b, false⟩, ⟨4, 5, 2, .c, false⟩,
  ⟨4, 6, 2, .c, false⟩, ⟨4, 7, 0, .b, false⟩, ⟨4, 8, 0, .b, false⟩,
  ⟨5, 1, 0, .b, false⟩, ⟨5, 2, 2, .b, false⟩, ⟨5, 3, 2, .b, false⟩, ⟨5, 4, 2, .b, false⟩,
  ⟨6, 1, 0, .b, false⟩, ⟨6, 2, 2, .b, false⟩, ⟨6, 3, 0, .b, false⟩, ⟨6, 4, 5, .a, true⟩,
  ⟨7, 1, 0, .b, false⟩, ⟨7, 2, 0, .b, false⟩, ⟨7, 3, 0, .b, false⟩, ⟨7, 4, 2, .c, false⟩, ⟨7, 5, 2, .b, false⟩,
  ⟨7, 6, 2, .b, false⟩]

def cmdIndexB : List CmdRow := [
  ⟨8, 1, 0, .b, false⟩, ⟨8, 2, 4, .c, false⟩, ⟨8, 3, 4, .d, false⟩, ⟨8, 4, 4, .d, false⟩, ⟨8, 5, 4, .c, false⟩,
  ⟨8, 6, 4, .b, false⟩, ⟨8, 7, 4, .d, false⟩,
  ⟨9, 1, 0, .c, false⟩, ⟨9, 2, 0, .d, false⟩, ⟨9, 3, 2, .c, false⟩, ⟨9, 4, 5, .a, true⟩, ⟨9, 5, 0, .c, false⟩,
  ⟨10, 1, 3, .c, false⟩, ⟨10, 2, 3, .c, false⟩, ⟨10, 3, 3, .c, false⟩, ⟨10, 4, 3, .d, false⟩,
  ⟨10, 5, 3, .c, false⟩, ⟨10, 6, 3, .c, false⟩, ⟨10, 7, 3, .c, false⟩,
  ⟨11, 1, 0, .b, false⟩, ⟨11, 2, 1, .b, false⟩, ⟨11, 3, 1, .b, false⟩, ⟨11, 4, 1, .b, false⟩,
  ⟨11, 5, 2, .c, false⟩, ⟨11, 6, 0, .b, false⟩,
  ⟨12, 1, 0, .b, false⟩, ⟨12, 2, 0, .b, false⟩, ⟨12, 3, 2, .c, false⟩, ⟨12, 4, 0, .b, false⟩, ⟨12, 5, 2, .c, false⟩,
  ⟨13, 1, 0, .b, false⟩, ⟨13, 2, 0, .b, false⟩, ⟨13, 3, 2, .c, false⟩, ⟨13, 4, 0, .b, false⟩,
  ⟨13, 5, 2, .d, false⟩, ⟨13, 6, 1, .a, true⟩,
  ⟨14, 1, 0, .b, false⟩, ⟨14, 2, 0, .b, false⟩, ⟨14, 3, 2, .c, false⟩, ⟨14, 4, 1, .b, false⟩,
  ⟨15, 1, 0, .b, false⟩, ⟨15, 2, 0, .b, false⟩, ⟨15, 3, 2, .c, false⟩, ⟨15, 4, 1, .a, true⟩,
  ⟨15, 5, 1, .b, false⟩, ⟨15, 6, 0, .b, false⟩,
  ⟨16, 1, 0, .c, false⟩, ⟨16, 2, 0, .d, false⟩, ⟨16, 3, 2, .c, false⟩]

/-- The command index of R100. -/
def cmdIndex : List CmdRow := cmdIndexA ++ cmdIndexB

/-- The bound of a class in ns; class D has none (R94). -/
def classBound : RespClass → Option Nat
  | .a => some 100000
  | .b => some 10000000
  | .c => some 1000000000
  | .d => none

/-- The index row of a command. -/
def cmdRow (fam cmd : Nat) : Option CmdRow := cmdIndex.find? (fun r => r.fam == fam && r.cmd == cmd)

/-- A family served only for a secure-world session (R99). -/
def famSecure (fam : Nat) : Bool := fam == 8 || fam == 10

/-- Whether active roles may issue a command of a role (R90). -/
def mayIssue (active role : Nat) : Bool :=
  match role with
  | 0 => active != 0
  | 1 => bitOf active 1 || bitOf active 2
  | 2 => bitOf active 2
  | 3 => bitOf active 3
  | 4 => bitOf active 4
  | _ => false

/-! ### Sessions -/

/-- The session at an index. -/
def State.sess (s : State) (i : Nat) : Session := s.mbx.sessions.getD i {}

/-- Changes the hidden part of a session. -/
def State.updSess (s : State) (i : Nat) (f : Session → Session) : State :=
  { s with mbx := { s.mbx with sessions := listSet s.mbx.sessions i f } }

/-- An outstanding request is of class D. -/
def outIsD (o : Outst) : Bool :=
  match cmdRow o.fam o.cmd with | some r => r.cls == .d | none => false

/-- MBX_SESSn shows the outstanding requests of session i (R109). -/
def showOut (i : Nat) (s : State) : State :=
  let o := (s.sess i).out
  (s.set (Reg.mbxSessOutstanding i) o.length).set (Reg.mbxSessDOutstanding i) (o.filter outIsD).length

/-- MBX_STATUS counts the open sessions (R109). -/
def showSessions (s : State) : State :=
  let n := ((List.range 16).filter (fun i => s.on (Reg.mbxSessOpen i))).length
  let m := ((List.range 16).filter (fun i => s.on (Reg.mbxSessOpen i) && s.on (Reg.mbxSessSecure i))).length
  (s.set Reg.mbxStatusSessions n).set Reg.mbxStatusSecSessions m

/-- A class D request stays outstanding until its final response (R83). -/
def holdOpen (i : Nat) (o : Outst) (s : State) : State :=
  showOut i (s.updSess i (fun c => { c with out := c.out ++ [o] }))

/-- The 4-byte payload of a final response that is not OK (R97). -/
def detailBytes (d : Nat) : List Byte := leBytes 2 d ++ zeros 2

/-- The segments of a payload on a TLS stream (R84): 64 KiB each but the last. -/
def segmentsOf : Nat → List Byte → List (List Byte)
  | 0, b => [b]
  | n + 1, b => if b.length ≤ 65536 then [b] else b.take 65536 :: segmentsOf n (b.drop 65536)

/-- A message as its session's TLS stream carries it (R80, R84). -/
def streamBytes (fam cmd seq flags status : Nat) (payload : List Byte) : List Byte :=
  let l := segmentsOf 15 payload
  ((List.range l.length).zip l).flatMap (fun p =>
    headerBytes fam cmd seq p.2.length flags status p.1 l.length ++ p.2)

/-- What a session's stream carries of a message that the module sends (R80, R81, R103); none where it is no message. -/
def wireBytes : OutMsg → Option (Nat × List Byte)
  | .response i seq fam cmd st cancel p => some (i, streamBytes fam cmd seq (if cancel then 0x11 else 0x01) st p)
  | .progress i seq fam cmd p => some (i, streamBytes fam cmd seq 0x03 stInProgress p)
  | .notification i seq p => some (i, streamBytes 0x02 0x80 seq 0x08 0 p)
  | _ => none

/-- The request of an open session passes the first ring of its pair (R74). -/
def carryRequest (i fam cmd : Nat) (r : Req) (s : State) : State :=
  if i < 16 ∧ s.on (Reg.mbxSessOpen i) = true then
    carry (sessionRing i) fam cmd r.seq r.flags r.status (segmentsOf 15 r.payload) s
  else s

/-- A message to an open session passes the second ring of its pair (R74). -/
def carryAnswer (m : OutMsg) (s : State) : State :=
  let by' (i fam cmd seq flags status : Nat) (p : List Byte) : State :=
    if i < 16 ∧ s.on (Reg.mbxSessOpen i) = true then
      carry (sessionRing i + 1) fam cmd seq flags status (segmentsOf 15 p) s
    else s
  match m with
  | .response i seq fam cmd st cancel p => by' i fam cmd seq (if cancel then 0x11 else 0x01) st p
  | .progress i seq fam cmd p => by' i fam cmd seq 0x03 stInProgress p
  | _ => s

/-- Posts a message to a session. -/
def post (m : OutMsg) (s : State) : State := (carryAnswer m s).send m

/-- The first 8 bytes of a progress payload (R95). -/
def progressHead (stage permille bytes : Nat) : List Byte := leBytes 2 stage ++ leBytes 2 permille ++ leBytes 4 bytes

/-- Progress messages of a class D command by their stages, from within its own row; PERMILLE and BYTES_DONE are free
values (log entry 5). -/
def sendStages (r : Req) (fam cmd : Nat) (stages : List Nat) (s : State) : State :=
  match r.src with
  | .petal _ => s
  | .host i => stages.foldl (fun s st =>
      post (.progress i r.seq fam cmd (progressHead st (s.fresh % 1001) (s.took.fresh % 2 ^ 32))) s.took.took) s

/-- Posts a final response to a session (R95, R97). -/
def respond (i seq fam cmd status : Nat) (payload : List Byte) (s : State) : State :=
  post (.response i seq fam cmd status false payload) s

/-- A request answered MALFORMED sets MBX_EVENT.MALFORMED (R109). -/
def respondMalformed (i seq fam cmd : Nat) (s : State) : State :=
  (respond i seq fam cmd stMalformed (detailBytes noField) s).raise Ev.mbxMalformed

/-- The class of a command; class D for one that no row lists. -/
def clsOf (fam cmd : Nat) : RespClass := match cmdRow fam cmd with | some r => r.cls | none => .d

/-- Ends an outstanding command of a session with its final response (R83, R95), late where its class bound has passed
(R94); a request with NO_RESPONSE frees its SEQ and its place without any message. -/
def finishD (i : Nat) (o : Outst) (status : Nat) (payload : List Byte) (s : State) : State :=
  let late := match classBound (clsOf o.fam o.cmd) with | some b => decide (b < s.mono - o.since) | none => false
  let s := if o.quiet then s else (respond i o.seq o.fam o.cmd status payload s).raiseIf late Ev.mbxClassLate
  showOut i (s.updSess i (fun c => { c with out := c.out.filter (fun x => decide (x ≠ o)) }))

/-- Ends every outstanding command of the given code, in whichever session it stands. -/
def finishAll (fam cmd status : Nat) (payload : List Byte) (s : State) : State :=
  (List.range 16).foldl (fun s i =>
    ((s.sess i).out.filter (fun o => o.fam == fam && o.cmd == cmd)).foldl
      (fun s o => finishD i o status payload s) s) s

/-- The transfers of a session, or of one of its requests, end, and the records they read are free again (17 R495). -/
def dropTransfers (p : Transfer → Bool) (s : State) : State :=
  let gone := (s.nvs.transfers.filter p).filter (·.isExport)
  { s with nvs := { s.nvs with
      transfers := s.nvs.transfers.filter (fun t => !p t)
      reading := gone.foldl (fun l t => l.erase t.id) s.nvs.reading } }

/-- What the cancelling of a class D command of session i undoes besides ending it (R91, R96; log entry 20): a unit whose
admission waits for the peers is dropped, a calibration is abandoned with nothing stored, an EXPORT or READ_RECORDS ends.
An online change and an installation go on (04 R148, 16 R470). -/
def cancelEffect (i : Nat) (o : Outst) (s : State) : State :=
  if o.fam = 4 ∧ o.cmd = 2 then { s with prog := { s.prog with load := none, staged := none } }
  else if o.fam = 13 ∧ o.cmd = 5 then
    { s with lsp := { s.lsp with cal := none } }.setBit Reg.lspStatusCalibrating false
  else dropTransfers (fun t => t.sess == i && t.seq == o.seq) s

/-- A session closes (R91): class D commands are cancelled as if by CANCEL, the others run to completion with their
responses discarded, and the index is free. -/
def closeSession (i : Nat) (s : State) : State :=
  let s := ((s.sess i).out.filter outIsD).foldl (fun s o => cancelEffect i o s) s
  let s : State := { s with
    prog := { s.prog with reads := s.prog.reads.filter (fun r => r.1 != i) }
    sec := { s.sec with begins := s.sec.begins.map (fun b => if b.sess = i then { b with sess := 16 } else b) } }
  let s := s.updSess i (fun _ => {})
  showSessions (s.setReg (Reg.mbxSessOpen i).addr 0#32)

/-! ### Serving a request (R93) -/

/-- What a command's own checks and effect answer: done with a response payload; refused with a status and DETAIL,
with any state the refusal itself leaves; or accepted and outstanding (class D). -/
inductive Reply where
  | ok (s : State) (payload : List Byte)
  | err (s : State) (status detail : Nat)
  | later (s : State)

/-- Check 1 of R93 on a whole request: flags, status, segmentation and length (R79-R84). -/
def headerOk (r : Req) : Bool :=
  (r.flags == 0 || r.flags == 0x20) && r.status == 0 &&
  match r.src with
  | .host _ =>
    1 ≤ r.segCount && r.segCount ≤ 16 && r.segment < r.segCount && r.length ≤ 65536 &&
      (r.segCount == 1 || 1 ≤ r.length) && r.payload.length == (r.segCount - 1) * 65536 + r.length
  | .petal _ => r.segCount == 1 && r.segment == 0 && r.length ≤ 48 && r.payload.length == r.length

/-- The header loses the framing of a TLS stream: the session closes (R93). -/
def framingLost (r : Req) : Bool := r.length > 65536 || r.segCount == 0 || r.segCount > 16

/-- A request has NO_RESPONSE set (R80). -/
def noResponse (r : Req) : Bool := bitOf r.flags 5

/-- CLASS_LATE where a final response, or a class A action, came after its bound (R94). -/
def judgeLate (cls : RespClass) (r : Req) (responded : Bool) (s : State) : State :=
  match classBound cls with
  | none => s
  | some b => s.raiseIf (b < r.elapsedNs && (responded || cls == .a)) Ev.mbxClassLate

/-- The request ring of a Petal engine's family (05 R171, R172). -/
def petalRing (e fam : Nat) : Nat :=
  (if e < 4 then 16 * e else 16 * (e - 4) + 8) + 2 * (match fam with | 6 => 2 | 9 => 3 | 15 => 1 | _ => 0)

/-- The entry of a Petal ring with the oldest request not yet served holds a descriptor of the form of R79 and R81; a ring
for which no request is posted holds none. -/
def postedOk (e fam : Nat) (s : State) : Bool :=
  let n := petalRing e fam
  let waiting := (s.prog.postedBy.filter (fun p => p.1 == n)).length
  let endProd := s.get (Reg.rcbProdProd n) + ((s.prog.engines.getD e {}).posted.getD ((n % 8) / 2) 0)
  waiting == 0 || descriptorOk (s.bytes (ringEntry s n (endProd + ringSize s n - waiting)) 64)

/-- The oldest posted request of a Petal ring is taken; the Option is the TASKS position of its task. -/
def takePosted (ring : Nat) (s : State) : Option Nat × State :=
  match s.prog.postedBy.find? (fun p => p.1 == ring) with
  | some p => (some p.2, { s with prog := { s.prog with postedBy := s.prog.postedBy.erase p } })
  | none => (none, s)

/-- A request of a Petal ring waits while a ring of lower pair index of its engine holds one (R74). -/
def waitsBehind (e fam : Nat) (s : State) : Bool :=
  let first := if e < 4 then 16 * e else 16 * (e - 4) + 8
  s.prog.postedBy.any (fun p => decide (first ≤ p.1) && decide (p.1 < petalRing e fam))

/-- A request of a Petal ring that fails a check is counted against its task (04 R124). -/
def petalRejected (t : Option Nat) (s : State) : State :=
  match t with
  | some t => { s with prog := { s.prog with
      tasks := listSet s.prog.tasks t (fun (x : TaskSt) => { x with reject := satTo 65535 (x.reject + 1) }) } }
  | none => s

/-- Answers a request with a status that is not OK. A Petal request gets no message and is counted (R82, R124);
a host request with NO_RESPONSE gets none either. -/
def refuse (fam cmd : Nat) (cls : RespClass) (r : Req) (status detail : Nat) (s : State) : State :=
  match r.src with
  | .petal e => let p := takePosted (petalRing e fam) s; petalRejected p.1 p.2
  | .host i =>
    let s := if status = stMalformed then s.raise Ev.mbxMalformed else s
    if noResponse r && status ≠ stMalformed then s
    else judgeLate cls r true (respond i r.seq fam cmd status (detailBytes detail) s)

/-- A segmented message ends with one MALFORMED, and what remains of it is discarded (R85). -/
def dropSegments (i fam cmd seq : Nat) (s : State) : State :=
  respondMalformed i seq fam cmd (s.updSess i (fun c => { c with
    segs := c.segs.filter (fun a => a.seq != seq), discard := seq :: c.discard.filter (· != seq) }))

/-- A message whose only segment arrives under the SEQ of one that is incomplete (R85). -/
def overtakes (i : Nat) (r : Req) (s : State) : Bool :=
  r.segCount == 1 && r.segment == 0 && decide (r.length ≤ 65536) && (s.sess i).segs.any (fun a => a.seq == r.seq)

/-- A segment with SEGMENT 0 begins a message: what is left of an earlier one under its SEQ is no longer discarded
(R85). -/
def beginsAfresh (i : Nat) (r : Req) (s : State) : State :=
  if r.segment = 0 && (s.sess i).discard.contains r.seq then
    s.updSess i (fun c => { c with discard := c.discard.filter (· != r.seq) })
  else s

/-- Checks 4 to 8 of R93, in order: the failing status, or none. -/
def checkRequest (row : CmdRow) (lenOk : Nat → Bool) (r : Req) (s : State) : Option Nat :=
  match r.src with
  | .host i =>
    if famSecure row.fam && !s.on (Reg.mbxSessSecure i) then some stWorldDenied
    else if !mayIssue (s.get (Reg.mbxSessActive i)) row.role then some stRoleDenied
    else if (s.sess i).out.any (fun o => o.seq == r.seq) then some stDupSeq
    else if 8 ≤ (s.sess i).out.length || (row.cls == .d && 2 ≤ ((s.sess i).out.filter outIsD).length) then
      some stQueueFull
    else if !lenOk r.payload.length then some stBadLength
    else none
  | .petal _ =>
    if !row.petal then some stRoleDenied
    else if !lenOk r.payload.length then some stBadLength
    else none

/-- Serves a request: the checks of R93 in order, then the command's own checks and effect, then its response. Its descriptor passes the
session's request ring (R74). -/
def serve (fam cmd : Nat) (r : Req) (lenOk : Nat → Bool) (act : State → Reply) (s : State) : State :=
  match cmdRow fam cmd with
  | none => refuse fam cmd .b r stUnknownCommand noField s
  | some row =>
    match r.src with
    | .host i =>
      let s := beginsAfresh i r s
      if !s.on (Reg.mbxSessOpen i) then respond i r.seq fam cmd stNotAuthenticated (detailBytes noField) s
      else if overtakes i r s then dropSegments i fam cmd r.seq s
      else if !headerOk r then
        let s := refuse fam cmd row.cls r stMalformed noField s
        if framingLost r then closeSession i s else s
      else carryRequest i fam cmd r (
        if row.cls = .d && noResponse r then refuse fam cmd row.cls r stMalformed noField s
        else match checkRequest row lenOk r s with
          | some st => refuse fam cmd row.cls r st noField s
          | none =>
            match act s with
            | .ok s' p =>
              if noResponse r then judgeLate row.cls r false s'
              else judgeLate row.cls r true (respond i r.seq fam cmd stOk p s')
            | .err s' st d => refuse fam cmd row.cls r st d s'
            | .later s' => holdOpen i ⟨r.seq, fam, cmd, s.mono, noResponse r⟩ s')
    | .petal e =>
      if waitsBehind e fam s then s
      else if !(headerOk r && postedOk e fam s) then
        refuse fam cmd row.cls r stMalformed noField (ringFault (Ev.rcbBadDesc (petalRing e fam)) s)
      else match checkRequest row lenOk r s with
        | some st => refuse fam cmd row.cls r st noField s
        | none =>
          match act s with
          | .ok s' _ => (takePosted (petalRing e fam) (judgeLate row.cls r false s')).2
          | .err s' st d => refuse fam cmd row.cls r st d s'
          | .later s' => s'

/-- No message under the SEQ of a request is in reception or being discarded (R85). -/
def seqFresh (i : Nat) (r : Req) (s : State) : Bool :=
  !(s.sess i).segs.any (fun a => a.seq == r.seq) && !(s.sess i).discard.contains r.seq

/-- A host request passes checks 1 to 8 of R93. -/
def accepted (fam cmd : Nat) (r : Req) (lenOk : Nat → Bool) (s : State) : Bool :=
  match cmdRow fam cmd, r.src with
  | some row, .host i => s.on (Reg.mbxSessOpen i) && seqFresh i r s && headerOk r
      && !(row.cls == .d && noResponse r) && (checkRequest row lenOk r s).isNone
  | _, _ => false

/-- The registers as a request itself finds them: it is outstanding until its response is posted (R83). -/
def seenBy (r : Req) (s : State) : State :=
  match r.src with
  | .host i => s.set (Reg.mbxSessOutstanding i) ((s.sess i).out.length + 1)
  | .petal _ => s

/-- A request with no payload of its own. -/
def noPayload (n : Nat) : Bool := n == 0

/-- A payload of exactly `m` bytes. -/
def exactly (m n : Nat) : Bool := n == m

/-- Refuses with no field named and nothing changed. -/
def conflict (s : State) : Reply := .err s stStateConflict noField

/-- The frame an owner names (04 R139): 9 frames after the frame whose snapshot can still carry it. -/
def nameFrame (s : State) : Nat := frameIndex s.now + (if s.now - s.t0 < 225000 then 9 else 10)

/-- A frame s:k as its 8 bytes: SECONDS, then k, 04 R149. -/
def frameBytes (f : Nat) : List Byte := leBytes 6 (f / 4000) ++ leBytes 2 (f % 4000)

/-- The frame index 8 bytes name. -/
def frameAt (bs : List Byte) (off : Nat) : Nat := leAt bs off 6 * 4000 + leAt bs (off + 6) 2

/-- A module that does not own answers the commands of R139 with STATE_CONFLICT. -/
def isOwner (s : State) : Bool := s.role == rolePrimary || s.role == roleAlone

end Sys2Proof.Machine
end

