-- ==== Sys2Proof/Machine/PetalTypes.lean ====
section
/-! DEFINITION. Petal types and values (05 R154, R155), integer arithmetic and its flags (R158), stores (R163) and
conversions (R161). A value is its 64-bit stack entry; a function that can set OVF answers it beside the value. -/

namespace Sys2Proof

/-- Bits of a class. -/
def IClass.bits : IClass → Nat
  | .i32 | .u32 => 32
  | .i64 | .u64 => 64

/-- A class reads its operands signed. -/
def IClass.isSigned : IClass → Bool
  | .i32 | .i64 => true
  | .u32 | .u64 => false

end Sys2Proof

namespace Sys2Proof.Machine

/-- The kinds of the elementary types of R154. -/
inductive TyKind where
  | bool | signed | unsigned | bits | float | time | char
deriving DecidableEq, Repr

/-- The kind and size in bytes of a type code, or none where the code is not valid in an instruction. -/
def tyOf (t : Nat) : Option (TyKind × Nat) :=
  match t with
  | 0x01 => some (.bool, 1)
  | 0x02 => some (.signed, 1) | 0x03 => some (.signed, 2) | 0x04 => some (.signed, 4) | 0x05 => some (.signed, 8)
  | 0x06 => some (.unsigned, 1) | 0x07 => some (.unsigned, 2) | 0x08 => some (.unsigned, 4)
  | 0x09 => some (.unsigned, 8)
  | 0x0A => some (.bits, 1) | 0x0B => some (.bits, 2) | 0x0C => some (.bits, 4) | 0x0D => some (.bits, 8)
  | 0x0E => some (.float, 4) | 0x0F => some (.float, 8)
  | 0x10 => some (.time, 8) | 0x11 => some (.time, 8) | 0x12 => some (.time, 8) | 0x13 => some (.time, 8)
  | 0x14 => some (.time, 8) | 0x15 => some (.time, 8) | 0x16 => some (.time, 8) | 0x17 => some (.time, 8)
  | 0x18 => some (.char, 1) | 0x19 => some (.char, 2)
  | _ => none

/-- The bytes of a type, 0 where the code has none. -/
def tySize (t : Nat) : Nat := match tyOf t with | some (_, n) => n | none => 0

/-- A number as a stack entry. -/
def quad (v : Nat) : Quad := BitVec.ofNat 64 v

/-- A signed number as a stack entry. -/
def squad (v : Int) : Quad := BitVec.ofInt 64 v

/-- A truth value as a stack entry (R157). -/
def qbool (b : Bool) : Quad := if b then 1#64 else 0#64

/-- The canonical value a load of `n` stored bytes pushes (R155, R163). -/
def canonical (k : TyKind) (n v : Nat) : Quad :=
  match k with
  | .bool => qbool (v % 256 != 0)
  | .signed | .time => squad (toSigned (8 * n) v)
  | _ => quad (v % 2 ^ (8 * n))

/-- The number a store of an entry writes, and OVF (R163). -/
def storeValue (k : TyKind) (n : Nat) (q : Quad) : Nat × Bool :=
  match k with
  | .bool => (if q.toNat = 0 then 0 else 1, false)
  | .signed =>
    (q.toNat % 2 ^ (8 * n), decide (q.toInt < -(2 ^ (8 * n - 1) : Nat) ∨ ((2 ^ (8 * n - 1) : Nat) : Int) ≤ q.toInt))
  | .unsigned => (q.toNat % 2 ^ (8 * n), decide (2 ^ (8 * n) ≤ q.toNat))
  | _ => (q.toNat % 2 ^ (8 * n), false)

/-! ### Integer classes (R158) -/

/-- The operand an opcode of the class reads from an entry. -/
def clsRead (c : IClass) (q : Quad) : Int :=
  if c.isSigned then toSigned c.bits q.toNat else ((q.toNat % 2 ^ c.bits : Nat) : Int)

/-- The least and greatest value of a class. -/
def clsLeast (c : IClass) : Int := if c.isSigned then -((2 ^ (c.bits - 1) : Nat) : Int) else 0
def clsMost (c : IClass) : Int :=
  if c.isSigned then ((2 ^ (c.bits - 1) : Nat) : Int) - 1 else ((2 ^ c.bits : Nat) : Int) - 1

/-- The exact result of an opcode reduced to canonical form, and OVF where it lies outside the range. -/
def clsReduce (c : IClass) (r : Int) : Quad × Bool :=
  let m := ofSigned c.bits r
  (if c.isSigned then squad (toSigned c.bits m) else quad m, decide (r < clsLeast c ∨ clsMost c < r))

/-! ### Conversions (R161) -/

/-- The integer an entry of a type that counts as an integer or bit string holds. -/
def readInt (k : TyKind) (n : Nat) (q : Quad) : Int :=
  match k with
  | .signed | .time => q.toInt
  | .bits => ((q.toNat % 2 ^ (8 * n) : Nat) : Int)
  | _ => (q.toNat : Int)

/-- The float class of a size. -/
def fclass (n : Nat) : FClass := if n = 4 then .f32 else .f64

/-- The pattern of a float operand. -/
def fbits (n : Nat) (q : Quad) : Nat := q.toNat % 2 ^ (8 * n)

/-- The integer class of an integer or time type, by which a conversion to it checks its range. -/
def fitInt (k : TyKind) (n : Nat) (v : Int) : Quad × Bool :=
  let m := ofSigned (8 * n) v
  let signed := k == .signed || k == .time
  let r : Int := if signed then toSigned (8 * n) m else (m : Int)
  (squad r, decide (r ≠ v))

/-- A float converted to an integer type: rounded or truncated, saturating, NaN to 0 (R161). -/
def fitFloat (k : TyKind) (n m x : Nat) (truncate : Bool) : Quad × Bool :=
  let signed := k == .signed || k == .time
  let lo : Int := if signed then -((2 ^ (8 * n - 1) : Nat) : Int) else 0
  let hi : Int := if signed then ((2 ^ (8 * n - 1) : Nat) : Int) - 1 else ((2 ^ (8 * n) : Nat) : Int) - 1
  let r := fToInt (fclass m) truncate lo hi x
  (squad r.1, r.2)

/-- CVT, or CVTT where `truncate`, from a type to a type: the result and OVF (R161). An entry of a narrow bit string that is not
canonical goes to BOOL, REAL and LREAL as the whole entry stands: the model's choice (log entry 191). -/
def convert (t1 t2 : Nat) (k1 : TyKind) (n1 : Nat) (k2 : TyKind) (n2 : Nat) (truncate : Bool) (q : Quad) :
    Quad × Bool :=
  if t1 = t2 then (q, false)
  else match k1, k2 with
    | .float, .bool => (qbool (!fIsZero (fclass n1) (fbits n1 q) && !fIsNan (fclass n1) (fbits n1 q)), false)
    | _, .bool => (qbool (q.toNat != 0), false)
    | .bool, .float => (if q.toNat = 0 then 0#64 else quad (fOfInt (fclass n2) 1), false)
    | .bool, _ => (qbool (q.toNat != 0), false)
    | .float, .float => (quad (fConvert (fclass n1) (fclass n2) (fbits n1 q)), false)
    | .float, .bits => (quad (fbits n1 q % 2 ^ (8 * n2)), false)
    | .float, _ => fitFloat k2 n2 n1 (fbits n1 q) truncate
    | .bits, .float => (quad (q.toNat % 2 ^ (8 * n2)), false)
    | _, .float => (quad (fOfInt (fclass n2) (readInt k1 n1 q)), false)
    | _, .bits | _, .char => (quad (q.toNat % 2 ^ (8 * n2)), false)
    | _, _ => fitInt k2 n2 (readInt k1 n1 q)

/-- The cycles of a conversion (R161). -/
def convertCycles (t1 t2 : Nat) : Nat :=
  if t1 = t2 then 1
  else match tyOf t1, tyOf t2 with
    | some (.float, _), some (.float, _) => 2
    | some (.float, _), some (k, _) => if k = .bool ∨ k = .bits then 1 else 4
    | some (k, _), some (.float, _) => if k = .bool ∨ k = .bits then 1 else 4
    | _, _ => 1

end Sys2Proof.Machine
end

