-- ==== Sys2Proof/Machine/Engine.lean ====
section
/-! DEFINITION. The Petal engines between instructions: the layout of their banks (01 R31, 04 R119, 05 R179), input
and output images (04 R120-R122, R134, R136), the start and end of segments (04 R114, 05 R152, R170), task faults (04
R126-R130, 13 R407) and the posting of requests (04 R124, 05 R172). -/

namespace Sys2Proof.Machine

/-! ### Engines, tasks, unit -/

/-- Engine e. -/
def State.eng (s : State) (e : Nat) : Engine := s.prog.engines.getD e {}

/-- Replaces engine e. -/
def State.putEng (s : State) (e : Nat) (g : Engine) : State :=
  { s with prog := { s.prog with engines := listSet s.prog.engines e (fun _ => g) } }

/-- The task at a TASKS position. -/
def State.task (s : State) (t : Nat) : TaskSt := s.prog.tasks.getD t {}

/-- Changes the task at a TASKS position. -/
def State.updTask (s : State) (t : Nat) (f : TaskSt → TaskSt) : State :=
  { s with prog := { s.prog with tasks := listSet s.prog.tasks t f } }

/-- The TASKS entry at a position of the active unit. -/
def State.taskRow (s : State) (t : Nat) : Option TaskRow := s.prog.active.bind (fun u => u.tasks[t]?)

/-- The program instance of a task. -/
def instOf (u : LoadUnit) (r : TaskRow) : Option InstRow := u.insts.find? (fun i => i.id == r.inst)

/-- The symbol with an identifier. -/
def symOf (u : LoadUnit) (id : Nat) : Option SymRow := u.syms.find? (fun y => y.id == id)

/-! ### Layout of the banks -/

/-- The fabric address of engine e's live instance bank (01 R31). -/
def bankBase (s : State) (e : Nat) : Nat :=
  peSramBase (e % 4) + 0x200000 * s.prog.live + (if 4 ≤ e then 0x100000 else 0)

/-- The fabric address of engine e's live code bank (01 R31). -/
def codeBase (s : State) (e : Nat) : Nat :=
  peSramBase (e % 4) + 0x400000 + 0x100000 * s.prog.live + (if 4 ≤ e then 0x80000 else 0)

/-- The start of the image area in a bank (04 R119). -/
def imageArea (split : Bool) : Nat := if split then 896 * 1024 else 1920 * 1024

/-- The output pool in a bank, after the two input pools. -/
def outPool (split : Bool) : Nat := imageArea split + 0x18000

/-- The least multiple of k at or above n. -/
def alignTo (k n : Nat) : Nat := (n + k - 1) / k * k

/-- The image regions of the given tasks from an offset up: position, input region, output region; and the local
stack's offset (05 R179). -/
def regionsFrom : List (Nat × TaskRow) → Nat → List (Nat × Nat × Nat) × Nat
  | [], o => ([], alignTo 64 o)
  | (t, r) :: l, o =>
    let i := alignTo 64 o
    let q := alignTo 64 (i + r.inBytes)
    let p := regionsFrom l (q + r.outBytes)
    ((t, i, q) :: p.1, p.2)

/-- The tasks of engine e by TASKS position. -/
def engineTasks (u : LoadUnit) (e : Nat) : List (Nat × TaskRow) :=
  ((List.range u.tasks.length).zip u.tasks).filter (fun p => p.2.engine == e)

/-- The highest end of engine e's instances. -/
def instEnd (u : LoadUnit) (e : Nat) : Nat :=
  (u.insts.filter (fun i => i.engine == e)).foldl (fun m i => if m < i.bankOff + i.size then i.bankOff + i.size else m) 0

/-- The regions of engine e and the offset of its local stack. -/
def regions (u : LoadUnit) (e : Nat) : List (Nat × Nat × Nat) × Nat := regionsFrom (engineTasks u e) (instEnd u e)

/-- The input and output region of a task. -/
def regionOf (u : LoadUnit) (e t : Nat) : Nat × Nat :=
  match (regions u e).1.find? (fun p => p.1 == t) with
  | some (_, i, q) => (i, q)
  | none => (0, 0)

/-- Where the local stack of engine e starts and its size. -/
def localStack (u : LoadUnit) (e : Nat) : Nat × Nat := ((regions u e).2, u.locals.getD e 0)

/-- Where a task's output image lies in the output pool (log entry 36). -/
def poolOff (u : LoadUnit) (e t : Nat) : Nat :=
  ((engineTasks u e).filter (fun p => p.1 < t)).foldl (fun m p => m + p.2.outBytes) 0

/-- The code image of engine e. -/
def imageOf (u : LoadUnit) (e : Nat) : Option CodeImage := u.images.find? (fun c => c.engine == e)

/-- The offset of engine e's constants in its code bank (05 R177). -/
def constOff (u : LoadUnit) (e : Nat) : Nat := match imageOf u e with | some c => alignTo 8 c.code.length | none => 0

/-- The number of engine e's constants. -/
def constCount (u : LoadUnit) (e : Nat) : Nat := match imageOf u e with | some c => c.consts.length / 8 | none => 0

/-! ### Input images (04 R121, R131, R134, R136) -/

/-- Bytes cut or filled with 0 to a length. -/
def fitTo (n : Nat) (bs : List Byte) : List Byte := (bs ++ zeros n).take n

/-- The pair status item of 11 R353. -/
def pairItem (s : State) : List Byte :=
  let p := s.prog.pool
  let flags := (if s.prog.poolSelf then 1 else 0) + (if p.paired then 2 else 0) + (if p.mismatch then 4 else 0)
  leBytes 1 p.ownerRole ++ leBytes 1 flags ++ leBytes 2 (satTo 65535 s.pair.selfRun) ++ leBytes 4 p.moved

/-- A value of the snapshot is that of an input item's source, a GOOSE member as the item's TYPE decodes it (08 R271). -/
def sameSource (it : InItem) (i : SnapItem) : Bool :=
  i.kind == it.srcKind && i.ref == it.srcRef && (it.srcKind != 4 || i.type == it.type)

/-- The value that the source of an input item has in the pool. -/
def poolValue (s : State) (it : InItem) : List Byte :=
  if it.srcKind = 0x0A ∧ it.srcRef = 0x0100 then fitTo it.size (pairItem s)
  else match s.prog.pool.items.find? (sameSource it) with
    | some i => fitTo it.size i.value
    | none => zeros it.size

/-- The forced value of an input item's source, where a force holds it (04 R135, R136). -/
def forcedInput (s : State) (u : LoadUnit) (it : InItem) : Option (List Byte) :=
  s.prog.forces.findSome? (fun f =>
    if f.kind ≠ 0 then none
    else (symOf u f.symbol).bind (fun y => (u.ins[y.loc]?).bind (fun j =>
      if j.srcKind = it.srcKind ∧ j.srcRef = it.srcRef ∧ j.size = it.size then some (leBytes it.size f.value)
      else none)))

/-- The station record of a station. -/
def stationOf (u : LoadUnit) (j : Nat) : Option StationRow := u.stations.find? (fun r => r.station == j)

/-- The distinct sources of a station's items, in their order. -/
def stationSources (u : LoadUnit) (j : Nat) : List (Nat × Nat × Nat) :=
  (u.ins.filter (fun i => i.station == j)).foldl (fun l i =>
    if l.any (fun p => p.1 == i.srcKind && p.2.1 == i.srcRef) then l else l ++ [(i.srcKind, i.srcRef, i.size)]) []

/-- The substitute value of an item: the station's values lie in INIT in the order of its items (log entry 37). -/
def substValue (u : LoadUnit) (r : StationRow) (it : InItem) : List Byte :=
  let before := (stationSources u r.station).takeWhile (fun p => !(p.1 == it.srcKind && p.2.1 == it.srcRef))
  let o := before.foldl (fun m p => m + p.2.2) 0
  fitTo it.size ((u.init.drop (r.substOff + o)).take it.size)

/-- The stations of the unit that the snapshot of the pool shows dropped out (R121). -/
def droppedNow (s : State) (u : LoadUnit) : Nat :=
  u.stations.foldl (fun m r => if bitOf s.prog.pool.alive r.station then m else withBit m r.station true) 0

/-- The bytes of an input item: forced, substituted, or as the snapshot carries them. -/
def itemValue (s : State) (u : LoadUnit) (it : InItem) : List Byte :=
  match forcedInput s u it with
  | some b => b
  | none =>
    match stationOf u it.station with
    | some r =>
      if r.mode = 0 ∧ bitOf s.prog.pool.alive it.station = false then substValue u r it
      else poolValue s it
    | none => poolValue s it

/-- The input block that an item lies in (R131), as a key: a GOOSE dataset, a sampled-value stream, or else its station's
as a whole. -/
def blockOf (it : InItem) : Nat :=
  match it.srcKind with
  | 0x04 => 0x10000 + it.srcRef / 256
  | 0x05 => 0x20000 + it.srcRef / 256
  | 0x01 => if it.srcRef < 192 then 0x20000 + it.srcRef / 8 else it.station
  | _ => it.station

/-- The status word of a station at an input block of it (R131); a block that has never updated is as old as AGE can
tell (log entry 59). -/
def statusWord (s : State) (r : StationRow) (key : Nat) : Nat :=
  let up := bitOf s.prog.pool.alive r.station
  let age := match s.prog.pool.ages.find? (fun p => p.1 == key) with | some p => p.2 | none => 65535
  satTo 65535 age * 65536 + (if !up && r.mode == 0 then 4 else 0)
    + (if !up && r.mode == 1 then 2 else 0) + (if up then 1 else 0)

/-- The 48-byte header of a task's input image (R121). -/
def inputHeader (s : State) (u : LoadUnit) (t : Nat) : List Byte :=
  let k := s.task t
  let flags := (if k.first then 1 else 0) + (if k.afterSwap then 2 else 0)
    + (if s.prog.forces.isEmpty then 0 else 4) + (if k.aged then 8 else 0)
  let c := match s.prog.pool.counts.find? (fun p => p.1 == t) with | some (_, d, r) => (d, r) | none => (0, 0)
  fitTo 16 s.prog.pool.timeRec ++ leBytes 4 k.periods ++ leBytes 1 k.lastFault ++ leBytes 1 flags
    ++ leBytes 2 c.1 ++ leBytes 2 c.2 ++ leBytes 2 k.faults ++ zeros 4 ++ leBytes 8 (droppedNow s u)
    ++ leBytes 8 k.changed

/-- The input image of a task (R120, R121, R131). -/
def inputImage (s : State) (u : LoadUnit) (t : Nat) (r : TaskRow) : List Byte :=
  let img := (u.ins.filter (fun i => i.task == r.task)).foldl (fun bs i =>
    let bs := patch bs i.imgOff (itemValue s u i)
    if i.statusOff = 0xFFFF then bs
    else match stationOf u i.station with
      | some st => patch bs i.statusOff (leBytes 4 (statusWord s st (blockOf i)))
      | none => bs) (zeros r.inBytes)
  patch img 0 (inputHeader s u t)

/-! ### Requests (04 R124) -/

/-- The request ring of engine e for ring pair q (05 R172). -/
def requestRing (e q : Nat) : Nat := (if e < 4 then 16 * e else 16 * (e - 4) + 8) + 2 * q

/-- The doorbells of the requests a segment has posted ring at its end. -/
def ringDoorbells (e : Nat) (s : State) : State :=
  let s := (List.range 4).foldl (fun s q =>
    let n := (s.eng e).posted.getD q 0
    if n = 0 then s else doorbell (requestRing e q) (s.get (Reg.rcbProdProd (requestRing e q)) + n) s) s
  s.putEng e { s.eng e with posted := [0, 0, 0, 0] }

/-! ### STATE_SIG (13 R400) -/

/-- What an instruction leaves in the stacks: the entries and levels in use, and above them what was there. -/
def keepCells (g : Engine) : Engine := { g with
  cells := g.stack.reverse ++ g.cells.drop g.stack.length
  loopCells := g.loops.reverse ++ g.loopCells.drop g.loops.length
  callCells := g.calls.reverse ++ g.callCells.drop g.calls.length }

/-- A loop level as folded: count, index, body start. -/
def loopBytes (l : LoopLevel) : List Byte := leBytes 2 l.count ++ leBytes 2 l.index ++ leBytes 3 l.body

/-- The four levels of a loop stack, lowest first. -/
def loopStackBytes (l : List LoopLevel) : List Byte := fitTo 28 (l.flatMap loopBytes)

/-- A call level as folded: return PC, IB, LB, both limits, loop stack. -/
def callBytes (c : CallLevel) : List Byte :=
  leBytes 3 c.ret ++ leBytes 3 c.ib ++ leBytes 3 c.lb ++ leBytes 3 c.instLim ++ leBytes 2 c.locLim
    ++ loopStackBytes c.loops.reverse

/-- The architectural state of an engine in the order of R400, each item at its width of 05 R151 in whole bytes. -/
def engineBytes (g : Engine) (ovf divz : Bool) : List Byte :=
  leBytes 3 g.pc ++ leBytes 1 g.stack.length ++ g.cells.flatMap (fun q => leBytes 8 q.toNat)
    ++ leBytes 3 g.ib ++ leBytes 3 g.lb ++ leBytes 3 g.instLim ++ leBytes 2 g.locLim
    ++ loopStackBytes g.loopCells ++ g.callCells.flatMap callBytes ++ leBytes 1 (b2n ovf) ++ leBytes 1 (b2n divz)

/-- The engine's core folds its state into STATE_SIG. -/
def foldState (e : Nat) (s : State) : State :=
  let g := s.eng e
  let k := s.task g.task
  s.putEng e { g with sig := (engineBytes g k.ovf k.divz).foldl crc64Byte g.sig }

/-! ### Segments -/

/-- Instance writes mark their 64-byte lines in the write log (04 R144). -/
def markLines (l : List Nat) (off n : Nat) : List Nat :=
  (List.range ((off + n - 1) / 64 + 1 - off / 64)).foldl (fun l i =>
    if l.contains (off / 64 + i) then l else (off / 64 + i) :: l) l

/-- Forced instance variables of the instance are written at each segment start (R136), of an error task too. -/
def applyForces (e : Nat) (u : LoadUnit) (i : InstRow) (err : Bool) (s : State) : State :=
  s.prog.forces.foldl (fun s f =>
    if f.kind ≠ 2 then s
    else match symOf u f.symbol with
      | some y =>
        if y.loc = i.id ∧ 2 ≤ y.kind then
          let s := s.setBytes (bankBase s e + i.bankOff + y.offset) (leBytes y.size f.value)
          let g := s.eng e
          let at' := i.bankOff + y.offset
          s.putEng e { g with
            lines := markLines g.lines at' y.size, late := if err then markLines g.late at' y.size else g.late }
        else s
      | none => s) s

/-- The fixed cycles of R118 beside a segment's own: its start, the force reserve, and the input copy. -/
def startCost (r : TaskRow) (seg : Nat) : Nat :=
  40 + 8 * r.reserve + (if seg = 0 then 64 + (r.inBytes + 15) / 16 else 0)

/-- Segment `seg` of the task at position t begins (R152, 04 R120, R136). -/
def beginSegment (e t seg : Nat) (s : State) : State :=
  match s.prog.active with
  | none => s
  | some u =>
    match u.tasks[t]? with
    | none => s
    | some r =>
      match instOf u r with
      | none => s
      | some i =>
        match u.types[i.type]? with
        | none => s
        | some ty =>
          let err := r.kind == 1
          let s : State :=
            if seg ≠ 0 || err then s
            else
              let s := s.updTask t (fun k => { k with periods := (k.periods + 1) % 2 ^ 32, alive := true })
              let s := s.setBytes (bankBase s e + (regionOf u e t).1) (inputImage s u t r)
              let d := s.get Reg.netStaDropHiDropHi * 2 ^ 32 + s.get Reg.netStaDropLoDropLo
              s.updTask t (fun k => { k with
                first := false, afterSwap := false, aged := false, changed := 0, droppedIn := d })
          let s := applyForces e u i err s
          let g := s.eng e
          let g : Engine := { g with
            running := true, err := err, task := t, seg := seg
            pc := if seg = 0 then ty.codeOff else (s.task t).pc
            stack := [], ib := i.bankOff, lb := (localStack u e).1, instLim := i.size, locLim := 0
            loops := [], calls := [], lo := ty.codeOff, hi := ty.codeOff + ty.codeLen, cycles := 0
            used := g.used + (if err then 0 else startCost r seg), posted := [0, 0, 0, 0] }
          s.putEng e g

/-- The engine begins the next segment due that has not been skipped, or idles (R114, R127). -/
def startNext (e : Nat) : List (Nat × Nat) → State → State
  | [], s => s.putEng e { s.eng e with running := false, due := [] }
  | (t, seg) :: rest, s =>
    let k := s.task t
    if k.halted || (seg ≠ 0 && !k.alive) then startNext e rest s
    else beginSegment e t seg (s.putEng e { s.eng e with running := false, due := rest })

/-- The observed cycles of the running segment go to its task, and W(e, f), of which an error task is no part (R118), to the
program (04 R149). -/
def closeSegment (e : Nat) (s : State) : State :=
  let g := s.eng e
  let s := s.updTask g.task (fun k => { k with maxCycles := if k.maxCycles < g.cycles then g.cycles else k.maxCycles })
  { s with prog := { s.prog with
      highestW := if !g.err && decide (s.prog.highestW < g.used) then g.used else s.prog.highestW } }

/-- The running segment of engine e is over: doorbells ring and the next segment begins (R170, 04 R124). -/
def finishSegment (e : Nat) (s : State) : State :=
  let s := ringDoorbells e (closeSegment e s)
  if (s.eng e).err then s.putEng e { s.eng e with running := false }
  else startNext e (s.eng e).due s

/-- The output image goes to the output pool (04 R122). -/
def copyOut (e t : Nat) (s : State) : State :=
  match s.prog.active with
  | none => s
  | some u =>
    match u.tasks[t]? with
    | none => s
    | some r =>
      let img := s.bytes (bankBase s e + (regionOf u e t).2) r.outBytes
      let s := s.setBytes (bankBase s e + outPool u.split + poolOff u e t) img
      let g := s.eng e
      let s := s.putEng e { g with used := g.used + 64 + (r.outBytes + 15) / 16 }
      s.updTask t (fun k => { k with alive := false, copied := true })

/-! ### Task faults -/

/-- The codes of 04 R126. -/
def codeBounds : Nat := 1
def codeOpcode : Nat := 2
def codeStackOver : Nat := 3
def codeStackUnder : Nat := 4
def codeWindow : Nat := 5
def codeCycle : Nat := 6

/-- A peer is in step: PRIMARY or STANDBY (13 R407). -/
def peerInStep (s : State) : Bool := s.pair.peers.any (fun p => p.role == rolePrimary || p.role == roleStandby)

/-- The task at position t takes a fault (R127): its period ends, its outputs keep their values, HALT halts it. -/
def noteFault (t code : Nat) (s : State) : State :=
  let halt := match s.taskRow t with | some r => r.faultMode == 1 | none => false
  let s := s.updTask t (fun k => { k with
    alive := false, lastFault := code, faults := satTo 65535 (k.faults + 1), halted := k.halted || halt })
  { s with prog := { s.prog with faultsSinceRun := satTo 65535 (s.prog.faultsSinceRun + 1) } }

/-- The reaction of the module to a task fault (13 R407): `hard` for classes 0x07; CYCLE is class 0x06, WINDOW class
0x08, where the module goes on if no peer is in step. -/
def moduleReaction (code : Nat) (hard : Bool) (s : State) : State :=
  if hard then fail 0x07 0xFF 0xFF true s
  else if code = codeCycle then fail 0x06 0xFF 0xFF true (s.raise Ev.lckLate)
  else if code = codeWindow then
    let s := s.raise Ev.lckLate
    if peerInStep s then fail 0x08 0xFF 0xFF true s else s
  else s

/-- The running segment of engine e faults with a code (R127, R128). -/
def faultRunning (e code : Nat) (s : State) : State :=
  let g := s.eng e
  if g.err then
    let s := closeSegment e s
    let s := s.updTask g.task (fun k => { k with
      halted := true, lastFault := code, faults := satTo 65535 (k.faults + 1) })
    let s := ringDoorbells e s
    fwLog 0 [BitVec.ofNat 8 (0x40 + e), BitVec.ofNat 8 code] (s.putEng e { s.eng e with running := false })
  else
    let s := noteFault g.task code (closeSegment e s)
    let s := s.putEng e { s.eng e with faulted := (s.eng e).faulted ++ [(g.task, code)] }
    let s := ringDoorbells e s
    startNext e (s.eng e).due s

/-- A fault of the running segment and the module's reaction to it. -/
def taskFault (e code : Nat) (hard : Bool) (s : State) : State :=
  moduleReaction code hard (faultRunning e code s)

end Sys2Proof.Machine
end

