-- ==== Sys2Proof/Machine/TimeBase.lean ====
section
/-! DEFINITION. The passing of time: the backup counter with its alarm and weekday (18 R499, R503, R504), the TIME
counter's movements (02 R39, R41, R57), frame instants (R60), and time quality (R53-R55). -/

namespace Sys2Proof.Machine

/-! ### The backup counter (18) -/

/-- SECONDS of the backup counter. -/
def State.bkdSeconds (s : State) : Nat := s.get Reg.bkdSecHiSecHi * 2 ^ 32 + s.get Reg.bkdSecLoSecLo

/-- The backup counter in crystal ticks of 1/32 768 s (R499). -/
def State.bkdTicks (s : State) : Nat := s.bkdSeconds * 32768 + s.get Reg.bkdFracFrac

/-- Loads the backup counter. -/
def State.setBkd (s : State) (t : Nat) : State :=
  ((s.set Reg.bkdFracFrac (t % 32768)).set Reg.bkdSecLoSecLo (t / 32768)).set Reg.bkdSecHiSecHi
    (t / 32768 / 2 ^ 32)

/-- ALARM in seconds (R504). -/
def State.bkdAlarm (s : State) : Nat := s.get Reg.bkdAlarmHiAlarmHi * 2 ^ 32 + s.get Reg.bkdAlarmLoAlarmLo

/-- A wake event: ends a pending park with PARK_ABORTED, or releases SYS_PWRON from PARKED with its cause (R506,
R507). -/
def wakeFromPark (cause : Nat) (s : State) : State :=
  match s.get Reg.bkdPwrState with
  | 1 => ((s.set Reg.bkdPwrState 0).setBit Reg.bkdStatusParkPending false).raise Ev.bkdParkAborted
  | 2 => (s.set Reg.bkdPwrState 0).set Reg.bkdPwrWakeCause cause
  | _ => s

/-- SYS_PWRON is pulled low and the converter stops: the module drives nothing, OWN and its stages included (R505,
R506). -/
def convOff (s : State) : State :=
  setDrive .off (releaseTick (releaseOwn .off (s.setBit Reg.bkdStatusParkPending false)))

/-- The alarm fires (R504): ALARM and, where it applies, SKIPPED are set, ARM clears, and WAKE acts on SYS_PWRON. -/
def fireAlarm (skipped : Bool) (s : State) : State :=
  let s := (s.raise Ev.bkdAlarm).raiseIf skipped Ev.bkdSkipped
  let s := s.setBit Reg.bkdAlarmHiArm false
  if s.on Reg.bkdAlarmHiWake then wakeFromPark 1 s else s

/-- One advance of the weekday counter: 6 and 7 go to 0 (R503). -/
def nextWeekday (w : Nat) : Nat := if w = 6 ∨ w = 7 then 0 else w + 1

/-- The weekday after `n` advances; the sequence repeats every seven once below 7. -/
def weekdayAfter (w n : Nat) : Nat :=
  if n = 0 then w else (nextWeekday w + (n - 1)) % 7

/-- `n` crystal ticks: the counter advances, an armed alarm that a tick reaches fires, and each day boundary of
SECONDS + WD_OFFSET advances the weekday (R499, R503, R504). -/
def bkdAdvance (n : Nat) (s : State) : State :=
  let old := s.bkdTicks
  let new := old + n
  let ofs := s.get Reg.bkdWdWdOffset
  let days := (new / 32768 + ofs) / 86400 - (old / 32768 + ofs) / 86400
  let fires := s.on Reg.bkdAlarmHiArm && old < s.bkdAlarm * 32768 && s.bkdAlarm * 32768 ≤ new
  let s := s.setBkd new
  let s := if days = 0 then s else s.set Reg.bkdWdWd (weekdayAfter (s.get Reg.bkdWdWd) days)
  if fires then fireAlarm false s else s

/-- The backup counter moves by a trim or a load to `t` ticks (R500, R504): an armed alarm that it passes fires with
SKIPPED; the weekday never moves (R503). -/
def bkdMove (t : Nat) (s : State) : State :=
  let passes := s.on Reg.bkdAlarmHiArm && s.bkdTicks < s.bkdAlarm * 32768 && s.bkdAlarm * 32768 ≤ t
  let s := s.setBkd t
  if passes then fireAlarm true s else s

/-! ### Elapsed time -/

/-- Thermal restarts of the last 24 h by THERMAL_T of the backup bytes (18 R507, R508). -/
def thermalRestarts (s : State) : Nat :=
  if !s.on Reg.bkdStatusBytesOk then 0 else
    ((List.range 3).filter (fun i =>
      let t := leAt s.backup (28 + 4 * i) 4
      t != 0 && s.bkdSeconds % 2 ^ 32 - t < 86400)).length

/-- What shows elapsed time without being asked: PWR_UPTIME, checkpoint ages, the trial window (16 R475), the backup
counter with its TRIMMED flag and THERM_CNT, and the time in holdover. -/
def elapse (dt : Nat) (s : State) : State :=
  let ph := s.bkd.phase + dt * 32768
  let s := { s with mono := s.mono + dt, bkd := { s.bkd with phase := ph % nsPerS } }
  let s := bkdAdvance (ph / nsPerS) s
  let s := s.set Reg.pwrUptimeSec ((s.mono - s.pwr.bootMono) / nsPerS)
  let s := if s.on Reg.secStatusTrial then s.set Reg.secTrialLeftSec (s.sec.windowS - (s.mono - s.sec.trialAt) / nsPerS)
    else s
  let s := s.set Reg.bkdPwrThermCnt (thermalRestarts s)
  let s := s.setBit Reg.bkdStatusTrimmed (s.bkd.trimAt ≠ 0 && s.mono - (s.bkd.trimAt - 1) ≤ 2 * nsPerS)
  let s := (List.range 3).foldl (fun s n =>
    match s.pair.ckpts.getD n none with
    | some c => s.set (Reg.hhkPairCkptAgeMs n) (satTo 0xFFFF ((s.mono - c.arrived) / 1000000))
    | none => s) s
  if s.get Reg.timStatusClass = 2 ∨ s.get Reg.timStatusClass = 3 then
    let h := s.time.holdNs + dt
    let m := if s.time.holdMoved then s.time.holdMovedNs + dt else s.time.holdMovedNs
    ({ s with time := { s.time with holdNs := h, holdMovedNs := m } }).set Reg.timHoldTimeSec (h / nsPerS)
  else s

/-- What one TIME cycle adds in 2^-32 ns: 2 ns and TIM_RATE_ADJ (R39). -/
def cycleStep (s : State) : Nat := (8589934592 + s.getInt Reg.timRateAdjRate).toNat

/-- The TIME cycles until the counter first reaches or passes an instant (R39, R60). -/
def cyclesTo (t : Nat) (s : State) : Nat :=
  (t * 4294967296 - (s.now * 4294967296 + s.time.frac) + cycleStep s - 1) / cycleStep s

/-- `n` TIME cycles without a slew nanosecond: the time and its fraction advance (R39). -/
def runCycles (n : Nat) (s : State) : State :=
  let v := s.now * 4294967296 + s.time.frac + n * cycleStep s
  let t := v / 4294967296
  elapse (t - s.now)
    ({ s with time := { s.time with frac := v % 4294967296, cycles := s.time.cycles + n } }.setNow t)

/-- The TIME counter runs until it first reaches or passes an instant; it never runs backward (R39, R60). -/
def advanceTo (t : Nat) (s : State) : State := if s.now < t then runCycles (cyclesTo t s) s else s

/-- The counter runs to the offset `d` ns after T0 of its frame (R60, R61). -/
def toPhase (d : Nat) (s : State) : State := advanceTo (s.t0 + d) s

/-! ### TIME_CONFIG fields (R70) -/

def cfgAsym (s : State) (n : Nat) : Int := sleAt s.time.cfg (4 * n) 4
def cfgDomain (s : State) (n : Nat) : Nat := leAt s.time.cfg (16 + n) 1
def cfgProfile (s : State) (n : Nat) : Nat := leAt s.time.cfg (20 + n) 1
def cfgSrcPrio (s : State) (n : Nat) : Nat := leAt s.time.cfg (24 + n) 1
def cfgIrigDelay (s : State) : Nat := leAt s.time.cfg 30 2
def cfgPpsDelay (s : State) : Nat := leAt s.time.cfg 32 2
def cfgSyncDelay (s : State) : Nat := leAt s.time.cfg 34 2
def cfgDisagree (s : State) : Nat := leAt s.time.cfg 36 2
def cfgTaiUtc (s : State) : Nat := leAt s.time.cfg 38 2
def cfgTimePrio (s : State) : Nat := leAt s.time.cfg 40 1
def cfgIrigMode (s : State) : Nat := leAt s.time.cfg 41 1
def cfgPpsFalling (s : State) : Bool := bitOf (leAt s.time.cfg 42 1) 0

/-- Changes what the timebase keeps of a source. -/
def updSrc (n : Nat) (f : SrcSt → SrcSt) (s : State) : State :=
  { s with time := { s.time with srcs := listSet s.time.srcs n f } }

/-- What the timebase keeps of a source. -/
def State.src (s : State) (n : Nat) : SrcSt := s.time.srcs.getD n {}

/-! ### Eligibility (02 R64) -/

/-- A source is locked. -/
def srcLocked (s : State) (n : Nat) : Bool := s.on (Reg.timSrcLocked n)

/-- The module's own source is a locked one and no time fault stands: with 60 s held and TIME_PRIO not 0 it is
eligible (R64). -/
def eligible (s : State) : Bool :=
  s.time.lockHeld60 && s.time.ownSel < 6 && srcLocked s s.time.ownSel && s.time.faults == 0 && cfgTimePrio s != 0

/-- The effective PRIO (R64). -/
def effPrio (s : State) : Nat := if eligible s then cfgTimePrio s else 0

/-- TIM_ARB.OWN_PRIO shows the effective PRIO (R72). -/
def showPrio (s : State) : State := s.set Reg.timArbOwnPrio (effPrio s)

/-! ### Quality (02 R53-R55) -/

/-- The bound of a PTP source's profile in ns (R48). -/
def profileBound (s : State) (n : Nat) : Nat := if leAt s.time.cfg (20 + n) 1 = 1 then 20 else 100

/-- |TIM_SLEW_REM| in ns. -/
def slewAbs (s : State) : Nat := (s.getInt Reg.timSlewRemRem).natAbs

/-- EST_ERR of a locked source before the slew remainder (R43). -/
def sourceErr (s : State) (n : Nat) : Nat :=
  if n = 4 then 500 else if n = 5 then 100
  else if s.on (Reg.timSrcFine n) then profileBound s n else 1000

/-- The holdover bound in ns, rounded up (R55). -/
def holdBound (s : State) : Nat :=
  s.time.holdErr + (125 * (s.time.holdNs - s.time.holdMovedNs) + 500 * s.time.holdMovedNs + 3599999999999)
    / 3600000000000

/-- The unknown EST_ERR. -/
def errUnknown : Nat := 0xFFFFFFFF

/-- The tick master is a member of the own group, or else the member with the highest effective PRIO, the lowest SLOT_ID
among equals, is the group time leader (R65): the peer that leads, or none where this module does. -/
def leaderPeer (ownPrio : Nat) (s : State) : Option Peer :=
  match s.pair.peers.find? (fun p => s.time.wordValid && p.slot == s.get Reg.timArbMasterSlot) with
  | some p => some p
  | none => s.pair.peers.foldl (fun b p =>
      let prio := match b with | some q => q.time.prio | none => ownPrio
      let slot := match b with | some q => q.slot | none => s.get Reg.sysPositionSlotId
      if prio < p.time.prio || (prio == p.time.prio && p.slot < slot) then some p else b) none

/-- EST_ERR of the tick master as its word tells: the bus carries no unknown, so that a class without a bound, or the
bus's greatest value from a master that does not slew, is unknown (R53, R63; log entry 132). -/
def masterBound (s : State) : Nat :=
  if s.time.masterClass = 5 ∨ (s.time.masterClass = 4 ∧ s.time.masterErr = 65535 ∧ s.time.masterSlews = false) then errUnknown
  else s.time.masterErr

/-- EST_ERR of a source followed, with what R43 adds and the own slew remainder; unknown stays unknown (R43, R53). -/
def followErr (err add : Nat) (s : State) : Nat :=
  if err = errUnknown then errUnknown else satTo 0xFFFFFFFE (err + add + slewAbs s)

/-- The locked source whose bound holds where the selected one is not locked: the one of highest SRC_PRIO (R53; log entry
133). -/
def lockedSource (s : State) : Option Nat :=
  (List.range 6).foldl (fun b n =>
    let p := leAt s.time.cfg (24 + n) 1
    if !s.on (Reg.timSrcLocked n) then b
    else match b with
      | some m => if p != 0 && (leAt s.time.cfg (24 + m) 1 == 0 || p < leAt s.time.cfg (24 + m) 1) then some n else b
      | none => some n) none

/-- CLASS and EST_ERR by R53. -/
def qualityOf (s : State) : Nat × Nat :=
  let src := s.get Reg.timStatusSource
  let leader := s.pair.peers.find? (fun p => s.time.leaderSlot == some p.slot)
  if src = 6 then (s.time.masterClass, followErr (masterBound s) 4 s)
  else if src = 7 then
    match leader with
    | some p => (p.time.cls, followErr p.time.err 2 s)
    | none => (s.time.masterClass, followErr (masterBound s) 4 s)
  else match (if src ≤ 5 ∧ s.on (Reg.timSrcLocked src) then some src else lockedSource s) with
    | some n =>
      (if 1000 < slewAbs s then 4 else if n == src && n ≤ 3 && s.on (Reg.timSrcFine n) then 0 else 1,
        satTo 0xFFFFFFFE (sourceErr s n + slewAbs s))
    | none =>
      if s.time.everLocked then (if holdBound s ≤ 1000 then 2 else 3, satTo 0xFFFFFFFE (holdBound s))
      else (if bitOf s.time.faults 5 || !s.time.loaded then 5 else 4, errUnknown)

/-- TIM_STATUS and TIM_EST_ERR show the quality, and TIM_ARB.OWN_PRIO the effective PRIO; a change of CLASS sets
CLASS_CHANGE (R53, R54, R64, R72). Before the backup counter has been loaded CLASS stays as at reset. -/
def refreshQuality (s : State) : State :=
  let q := qualityOf s
  let was := s.get Reg.timStatusClass
  let s := ((s.set Reg.timStatusClass q.1).set Reg.timEstErrErr q.2).setBit Reg.timStatusFault (s.time.faults ≠ 0)
  let s := (s.setBit Reg.timStatusValid (q.1 ≤ 2 && s.time.faults == 0)).setBit Reg.timStatusSlewing
    (s.get Reg.timSlewRemRem ≠ 0)
  let s : State := if q.1 = 2 ∨ q.1 = 3 then s
    else { s with time := { s.time with holdNs := 0, holdMovedNs := 0 } }.set Reg.timHoldTimeSec 0
  (showPrio s).raiseIf (was ≠ q.1) Ev.timClassChange

/-- Sets or clears a time fault (R67). -/
def setTimeFault (bit : Nat) (b : Bool) (s : State) : State :=
  { s with time := { s.time with faults := withBit s.time.faults bit b } }

/-- Takes a TAI-UTC offset and leap flags into TIM_TAI_UTC (R49, R63). -/
def setTaiUtc (known : Bool) (offset : Nat) (leap61 leap59 : Bool) (s : State) : State :=
  let s := (s.setBit Reg.timTaiUtcKnown known).set Reg.timTaiUtcOffset offset
  let s := (s.setBit Reg.timTaiUtcLeap61 leap61).setBit Reg.timTaiUtcLeap59 leap59
  s.setBit Reg.timStatusLeapKnown known

/-- SOURCE changes, with SRC_CHANGE (R72). -/
def setSource (n : Nat) (s : State) : State :=
  if s.get Reg.timStatusSource = n then s else (s.set Reg.timStatusSource n).raise Ev.timSrcChange

/-- TICK_ROLE changes, with ROLE_CHANGE (R66, R72). -/
def setTickRole (n : Nat) (s : State) : State :=
  if s.get Reg.timStatusTickRole = n then s else (s.set Reg.timStatusTickRole n).raise Ev.timRoleChange

/-! ### TAI-UTC (R49) -/

/-- A module that steers by its own source takes TAI-UTC from the selected PTP source, else from SET_TAI_UTC, else
from TIME_CONFIG; a follower keeps what TIME_BUS or the group time leader gave. -/
def refreshTai (s : State) : State :=
  let src := s.get Reg.timStatusSource
  if src = 6 ∨ src = 7 then s
  else match (if src ≤ 3 then (s.src src).utc else none) with
    | some o => setTaiUtc true o.toNat (s.src src).leap61 (s.src src).leap59 s
    | none =>
      match s.time.setTai with
      | some (o, l61, l59) => setTaiUtc true o l61 l59 s
      | none =>
        if cfgTaiUtc s = 0xFFFF then setTaiUtc false 0 false false s
        else setTaiUtc true (cfgTaiUtc s) false false s

/-! ### SOURCE and the tick role (02 R43, R65, R66) -/

/-- Entering holdover (R55): the last lock is lost; EST_ERR grows from its value at entry, and the temperature at entry
is kept. -/
def enterHoldover (s : State) : State :=
  let e := s.get Reg.timEstErrErr
  { s with time := { s.time with
    holdErr := if e = errUnknown then 0xFFFFFFFE else e, holdNs := 0, holdMovedNs := 0, holdMoved := false
    holdTemp := s.getInt Reg.pwrTempBoard } }

/-- Source 6 or 7 is left while no own source is locked: where its EST_ERR was known a lock has been held, and holdover
begins (R43, R53, R55; log entry 180). -/
def leaveFollowed (s : State) : State :=
  if (List.range 6).any (srcLocked s) then s
  else if s.get Reg.timEstErrErr = errUnknown && !s.time.everLocked then s
  else enterHoldover { s with time := { s.time with everLocked := true } }

/-- SOURCE changes to one that the tick role does not give (R43, R65). -/
def setOwnSource (n : Nat) (s : State) : State :=
  let was := s.get Reg.timStatusSource
  setSource n (if was = 6 ∨ was = 7 then leaveFollowed s else s)

/-- SOURCE follows the tick role: a follower steers by 6 as group time leader and by 7 otherwise, every other module
by its own selection (R43, R65); with 1PPS giving the phase of IRIG-B it reports 5 (R52). Without an own source it shows
0xF, unless the time is still the backup counter's (log entry 179). -/
def refreshSource (s : State) : State :=
  let n := s.time.ownSel
  let lead := (leaderPeer (effPrio s) s).map (·.slot)
  let s : State := { s with time := { s.time with leaderSlot := lead } }
  let own := if bitOf (cfgIrigMode s) 1 && (n == 4 || n == 5) && srcLocked s 4 && srcLocked s 5 then 5 else n
  if s.get Reg.timStatusTickRole = 1 && !bitOf s.time.faults 3 then setSource (if lead.isNone then 6 else 7) s
  else if own < 6 then setOwnSource own s
  else if !s.time.everLocked && s.get Reg.timStatusSource = 14 then s
  else setOwnSource 15 s

/-- A follower that has become eligible above the master's PRIO becomes CANDIDATE (R66). -/
def standForTick (s : State) : State :=
  if s.get Reg.timStatusTickRole = 1 && decide (s.get Reg.timArbMasterPrio < effPrio s) then setTickRole 3 s else s

/-- What the timebase shows follows what it keeps, after any change of a source, a fault, a peer or the tick role: the
tick role (R66), SOURCE (R43, R65), TAI-UTC (R49) and the quality (R53). -/
def reviewTime (s : State) : State := refreshQuality (refreshTai (refreshSource (standForTick s)))

/-- A step or load of the counter (R41, R57): STEP is set, the frame in progress ends without outputs, and the next
tick falls on the next multiple of 250 us; every Larkspur lane goes to HUNT at the next mark edge (07 R222). The
fraction starts at 0 (log entry 135). -/
def stepCounter (t : Nat) (s : State) : State :=
  let d : Int := (t : Int) - (s.now : Int)
  let s := s.setNow t
  let s : State := { s with
    time := { s.time with adj := s.time.adj + d, frac := 0, ticked := false, stepFrame := true, stepped := true }
    prog := { s.prog with frozen := none }
    lsp := { s.lsp with huntDue := true } }
  s.raise Ev.timStep

/-- The servo acts on an offset of the selected source (R57, R58): a step where RUN_LOCK is 0 and the offset exceeds
1 us, otherwise the offset becomes the slew remainder, as much of it as the field holds (log entries 23, 134). -/
def servo (ofs : Int) (s : State) : State :=
  if !s.on Reg.timStatusRunLock && 1000 < ofs.natAbs then
    (stepCounter ((s.now : Int) + ofs).toNat s).set Reg.timSlewRemRem 0
  else s.setInt Reg.timSlewRemRem (if ofs < -2147483648 then -2147483648 else if 2147483647 < ofs then 2147483647 else ofs)

/-- RUN_LOCK: the module is in RUN, or the previous frame's word carried RUN (R57 preamble). -/
def refreshRunLock (s : State) : State :=
  let run := s.prog.state == .run || s.prog.state == .changing
  s.setBit Reg.timStatusRunLock (run || s.time.busRun)

/-- TimeQuality of 02 R56. An EST_ERR above 1 s, which no N satisfies, gives TimeAccuracy 0 (log entry 145). -/
def timeQuality (s : State) : Nat :=
  let e := s.get Reg.timEstErrErr
  let acc := if e = errUnknown then 31
    else ((List.range 25).reverse.find? (fun n => decide (e * 2 ^ n ≤ nsPerS))).getD 0
  let cls := s.get Reg.timStatusClass
  (if s.on Reg.timStatusLeapKnown then 128 else 0) + (if cls = 5 || s.on Reg.timStatusFault then 64 else 0)
    + (if 3 ≤ cls then 32 else 0) + acc

end Sys2Proof.Machine
end

