-- ==== Sys2Proof/Machine/PairOps.lean ====
section
/-! DEFINITION. Operations shared by the pair, triad and Hollyhock commands: the acceptance of a Hollyhock frame (12
R373, R374, R553), peers, singletons and their checkpoints (11 R361-R363), comparison of signatures (R355, R356). -/

namespace Sys2Proof.Machine

/-! ### Frames (12) -/

/-- Frame types (R372). -/
def typeHeartbeat : Nat := 0x01
def typeSnapshot : Nat := 0x02
def typeSignature : Nat := 0x03
def typeVote : Nat := 0x04
def typeCheckpoint : Nat := 0x05
def typeResyncPage : Nat := 0x06
def typeResyncLines : Nat := 0x07
def typeControl : Nat := 0x08
def typeDelayReq : Nat := 0x09
def typeDelayResp : Nat := 0x0A
def typeKey : Nat := 0x0C
def typeForward : Nat := 0x0D

/-- Where the last counter of a sender is kept: by port, slot and key (R373). -/
def ctrKey (h : HhkHdr) : Nat := h.port * 64 + h.srcSlot + (if h.underOldKey then 128 else 0)

/-- HHK_UP shows that a port carries authenticated frames (11 R367). -/
def portUp (p : Nat) (b : Bool) (s : State) : State :=
  s.set Reg.hhkPairStatusHhkUp (withBit (s.get Reg.hhkPairStatusHhkUp) p b)

/-- A frame arrives (R373): a tag that fails and a counter that does not rise are discarded with their flags; an
authenticated frame counts as an arrival; a miswired port carries heartbeats only (R374); a second copy is discarded
(R553). The Bool tells whether the frame is used. -/
def hhkArrive (type : Nat) (h : HhkHdr) (s : State) : Bool × State :=
  if !h.tagOk || (h.underOldKey && !s.hhk.oldKeys.any (fun p => p.1 == h.srcSlot)) then
    (false, (s.bump (Reg.hhkpErrAuthCnt h.port)).raise Ev.hhkAuthFail)
  else if h.counter < assoc s.hhk.lastCtr (ctrKey h) then
    (false, (s.bump (Reg.hhkpErrAuthCnt h.port)).raise Ev.hhkReplay)
  else
    let s := { s with hhk := { s.hhk with lastCtr := assocSet s.hhk.lastCtr (ctrKey h) (h.counter + 1) } }
    let s := portUp h.port true s
    let perPort := type == typeHeartbeat || type == typeDelayReq || type == typeDelayResp
    let id := (type, h.srcSlot, h.frame, h.segment, h.dst)
    if bitOf s.hhk.miswired h.port && type != typeHeartbeat then (false, s)
    else if perPort then (true, s)
    else if s.hhk.seen.contains id then (false, s)
    else (true, { s with hhk := { s.hhk with seen := id :: s.hhk.seen.take 255 } })

/-- Runs an effect on a frame that is used. -/
def onFrame (type : Nat) (h : HhkHdr) (f : State → State) (s : State) : State :=
  let r := hhkArrive type h s
  if r.1 then f r.2 else r.2

/-- A frame for another member of the triad that comes by way of this one (R381). -/
def forAnother (h : HhkHdr) (s : State) : Bool :=
  s.triad && bitOf h.flags 1 && h.dst != s.get Reg.sysPositionSlotId

/-- The port of a triad member that faces a slot. -/
def portFacing (s : State) (slot : Nat) : Nat := if facedSlot s 0 = slot then 0 else 1

/-- The third member forwards a frame and counts it (R381; on the port it leaves by, log entry 175). -/
def relay (type : Nat) (h : HhkHdr) (body : List Nat) (s : State) : State :=
  let p := portFacing s h.dst
  (sendBy [byPort s p h.dst true] "RELAY" h.segment (type :: h.srcSlot :: h.frame :: body) s).bump (Reg.hhkpErrRelayCnt p)

/-- A VOTE, SIGNATURE or CONTROL frame that is used: its effect, or where it is for another member, its relay (R381). -/
def onRouted (type : Nat) (body : List Nat) (h : HhkHdr) (f : State → State) (s : State) : State :=
  onFrame type h (fun s => if forAnother h s then relay type h body s else f s) s

/-! ### Peers -/

/-- What the module knows of a peer by its slot. -/
def findPeer (slot : Nat) (s : State) : Option Peer := s.pair.peers.find? (fun p => p.slot == slot)

/-- Enters what a peer told of itself. -/
def putPeer (p : Peer) (s : State) : State :=
  let known := s.pair.peers.any (fun (q : Peer) => q.slot == p.slot)
  let ps := if known then s.pair.peers.map (fun (q : Peer) => if q.slot = p.slot then p else q)
    else s.pair.peers ++ [p]
  { s with pair := { s.pair with peers := ps } }

/-- Changes a peer's role, where the peer is known. -/
def peerRole (slot r : Nat) (s : State) : State :=
  let s := { s with pair := { s.pair with
    peers := s.pair.peers.map (fun (q : Peer) => if q.slot = slot then { q with role := r } else q) } }
  s.set Reg.hhkPairStatusPeerRole r

/-- A peer leaves what the module knows of; the group may take another time leader (02 R65). -/
def dropPeer (slot : Nat) (s : State) : State :=
  reviewTime { s with pair := { s.pair with peers := s.pair.peers.filter (fun q => q.slot != slot) } }

/-- The slot of the member that owns, as its heartbeats tell. -/
def ownerSlot (s : State) : Option Nat :=
  (s.pair.peers.find? (fun p => p.role == rolePrimary || p.role == roleAlone)).map (·.slot)

/-- HHK_TRIAD shows the members in step and the defined master, in a triad (12 R391). -/
def showTriad (s : State) : State :=
  if !s.triad then s else
    let inStep r := r == rolePrimary || r == roleStandby
    let own := if inStep s.role then 2 ^ s.get Reg.hhkPairStatusRank else 0
    let m := s.pair.peers.foldl (fun m p => if inStep p.role && !bitOf m p.rank then m + 2 ^ p.rank else m) own
    let master := if s.held then s.get Reg.hhkPairStatusRank
      else ((s.pair.peers.find? (fun p => p.role == rolePrimary || p.role == roleAlone)).map (·.rank)).getD
        (s.get Reg.hhkTriadMasterRank)
    (s.set Reg.hhkTriadInStep m).set Reg.hhkTriadMasterRank master

/-! ### Singletons and checkpoints (11 R361-R363) -/

/-- Singleton n runs on this module. -/
def singletonRuns (s : State) (n : Nat) : Bool := s.on (Reg.hhkPairCkptRunning n)

/-- The content of a singleton's checkpoint: of the archive writer the next REC_ID and up to 16 capture keys (17 R492), of
the enrolment client its phase per member (16 R455), of the publisher stNum and sqNum (07 R234). -/
def ckptContent (n : Nat) (s : State) : List Byte :=
  match n with
  | 0 => leBytes 4 s.nvs.nextRec ++ (s.nvs.keys.take 16).flatMap (fun k => leBytes 8 k.1 ++ leBytes 1 k.2)
  | 1 => s.sec.enrol.flatMap (fun p => leBytes 1 p.1 ++ leBytes 1 p.2)
  | _ => leBytes 4 s.lsp.stNum ++ leBytes 4 s.lsp.sqNum

/-- The capture keys of an archive writer's checkpoint. -/
def ckptKeys (c : List Byte) : List (Nat × Nat) :=
  (List.range ((c.length - 4) / 9)).map (fun i => (leAt c (4 + 9 * i) 8, leAt c (12 + 9 * i) 1))

/-- Singleton n takes over what its latest checkpoint holds (R363). -/
def restoreCkpt (n : Nat) (c : List Byte) (s : State) : State :=
  match n with
  | 0 => { s with nvs := { s.nvs with nextRec := if s.nvs.nextRec < leAt c 0 4 then leAt c 0 4 else s.nvs.nextRec } }
  | 1 => { s with sec := { s.sec with
      enrol := (List.range (c.length / 2)).map (fun i => (leAt c (2 * i) 1, leAt c (2 * i + 1) 1)) } }
  | _ => { s with lsp := { s.lsp with stNum := leAt c 0 4, sqNum := leAt c 4 4 } }

/-- The owner sends a checkpoint of singleton n (R362). -/
def sendCkpt (s : State) (n : Nat) : State :=
  if !singletonRuns s n then s else
    let q := s.pair.ckptSeq.getD n 0 + 1
    let s := { s with pair := { s.pair with ckptSeq := listSet s.pair.ckptSeq n (fun _ => q) } }
    let s := toPeers "CHECKPOINT" ([n, q, frameIndex s.now] ++ (ckptContent n s).map (·.toNat)) s
    if n = 0 then { s with nvs := { s.nvs with keys := s.nvs.keys.drop 16 } } else s

/-- Keeps a checkpoint that has arrived (R362). -/
def keepCkpt (n : Nat) (c : Ckpt) (s : State) : State :=
  let s := { s with pair := { s.pair with ckpts := listSet s.pair.ckpts n (fun _ => some c) } }
  (s.setBit (Reg.hhkPairCkptValid n) true).set (Reg.hhkPairCkptAgeMs n) 0

/-- Restarts every singleton that does not run from its latest checkpoint, or from its initial state where it holds
none, where the module holds OWN and the boot configuration enables it (R363, 16 R467). -/
def startSingletons (s : State) : State :=
  if !s.held then s else
    showPublishing ((List.range 3).foldl (fun s n =>
      if singletonRuns s n || !bitOf s.sec.singletons n then s
      else
        let s := match s.pair.ckpts.getD n none with
          | some c => restoreCkpt n c.content s
          | none => s
        s.setBit (Reg.hhkPairCkptRunning n) true) { s with pair := { s.pair with stopped := 0 } })

/-! ### Own-snapshot frames, comparison, resync -/

/-- A STANDBY's claim logic is armed unless it carries taint (R340, R406). -/
def armStandby (s : State) : State := if s.taint then s else arm s

/-- Enters a record in the comparison records, newest first, at most 16 (R366). One without a comparison, RESULT 2 or 3,
leaves the outcome of the last one (R353). -/
def recordCmp (r : CmpRec) (s : State) : State :=
  { s with pair := { s.pair with
      records := (r :: s.pair.records).take 16
      lastMismatch := if r.result ≤ 1 then r.result == 1 else s.pair.lastMismatch } }

/-- Comparisons that are pending are dropped and never made (R345): each is entered as not compared (R366). -/
def dropPending (s : State) : State :=
  let s := s.pair.ownSigs.foldl (fun s o => recordCmp ⟨o.1, 3, s.on Reg.hhkPairStatusSelfSnap, o.2, []⟩ s) s
  { s with pair := { s.pair with ownSigs := [], peerSigs := [] } }

/-- The role goes to SYNCING and resync is requested of the owner (R336, R356). -/
def goSyncing (s : State) : State :=
  let s := dropPending (disarm s)
  let s := { s with pair := { s.pair with
    attempts := 0, selfRun := 0, qFrame := none, handover := none, handing := false } }
  sendJoin (enterRole roleSyncing s)

/-- The planned handover does not take place: the stopped singletons go on from where they stopped (R348), where the
module still owns (R361). -/
def resumeSingletons (s : State) : State :=
  let n := if s.held then s.pair.stopped else 0
  let s := (List.range 3).foldl (fun s i => if bitOf n i then s.setBit (Reg.hhkPairCkptRunning i) true else s) s
  showPublishing { s with pair := { s.pair with stopped := 0, unacked := 0 } }

/-- A handover is cancelled, and with it the removal request that it was to serve (R364, log entry 199). -/
def cancelHandover (s : State) : State :=
  resumeSingletons { s with pair := { s.pair with
    handover := none, postponed := 0, handing := false, removal := 0
    swapLed := if s.pair.removal = 0 then s.pair.swapLed else 0 } }

/-- Ownership has moved, in a takeover or a handover (R353). -/
def countMove (s : State) : State :=
  { s with pair := { s.pair with moved := satTo 0xFFFFFFFF (s.pair.moved + 1) } }

/-- A handover that has not yet moved OWN is cancelled (R348). -/
def cancelUnmoved (s : State) : State := if s.pair.handing then s else cancelHandover s

end Sys2Proof.Machine
end

