-- ==== Sys2Proof/Machine/Settings.lean ====
section
/-! DEFINITION. Settings objects (16 R468, R469; 17 R485; 04 R139): the checking of a record field by field, the
worst-case snapshot of 11 R554, and what accepting a record does before its frame comes. -/

namespace Sys2Proof.Machine

/-! ### Checks -/

/-- The offset of the first check that fails. -/
def firstBad (l : List (Nat × Bool)) : Option Nat := (l.find? (fun p => !p.2)).map (·.1)

/-- Reserved bytes of a record are 0 (log entry 41). -/
def resv (b : List Byte) (off n : Nat) : List (Nat × Bool) :=
  (List.range n).map (fun i => (off + i, leAt b (off + i) 1 == 0))

/-- A field of `n` bytes lies in a range. -/
def inRange (b : List Byte) (off n lo hi : Nat) : List (Nat × Bool) :=
  [(off, decide (lo ≤ leAt b off n) && decide (leAt b off n ≤ hi))]

/-- A field takes one of some values. -/
def oneOf (b : List Byte) (off n : Nat) (vs : List Nat) : List (Nat × Bool) := [(off, vs.contains (leAt b off n))]

/-- A signed field of `n` bytes lies within bounds. -/
def inBounds (b : List Byte) (off n : Nat) (lo hi : Int) : List (Nat × Bool) :=
  [(off, decide (lo ≤ sleAt b off n) && decide (sleAt b off n ≤ hi))]

/-- A byte of ASCII text padded with 0 at its end. -/
def asciiOk (b : List Byte) (off n : Nat) : List (Nat × Bool) :=
  (List.range n).map (fun i =>
    let c := leAt b (off + i) 1
    (off + i, decide (c < 128) && (c != 0 || decide (leAt b (off + i) (n - i) = 0))))

/-! ### The worst-case snapshot (11 R554) -/

def astStreamOff (n : Nat) : Nat := 16 + 64 * n
def astChanOff (c : Nat) : Nat := 1552 + 40 * c
def astSetOff (j : Nat) : Nat := 9232 + 8 * j
def astRefOff (r : Nat) : Nat := 9744 + 8 * r
def lspLaneOff (n : Nat) : Nat := 16 + 16 * n
def lspGroupOff (g : Nat) : Nat := 208 + 32 * g
def lspLineOff (l : Nat) : Nat := 336 + 32 * l
def lspSubOff (i : Nat) : Nat := 592 + 48 * i
def lspPubOff : Nat := 976

/-- Adds up over the first `n` positions. -/
def sumTo (n : Nat) (f : Nat → Nat) : Nat := (List.range n).foldl (fun m i => m + f i) 0

/-- n rounded up to a multiple of 4. -/
def up4 (n : Nat) : Nat := (n + 3) / 4 * 4

/-- The distinct GOOSE and SV sources of a unit's input items, with their sizes. -/
def netSources (u : LoadUnit) : List (Nat × Nat × Nat) :=
  u.ins.foldl (fun l i =>
    if (i.srcKind == 4 || i.srcKind == 5) && !l.any (fun p => p.1 == i.srcKind && p.2.1 == i.srcRef) then
      l ++ [(i.srcKind, i.srcRef, i.size)] else l) []

/-- The worst-case snapshot in bytes, of a unit with the Aster, Larkspur and CAN configurations (R554). -/
def snapBytes (u : Option LoadUnit) (ast lsp can : List Byte) : Nat :=
  let unit := match u with
    | some u => 4 * u.tasks.length + (netSources u).foldl (fun m p => m + up4 p.2.2) 0
    | none => 0
  let streams := sumTo 24 (fun n =>
    if enabledAt ast (astStreamOff n) then 8 * (8 + 8 * leAt ast (astStreamOff n + 3) 1) else 0)
  let ests := sumTo 192 (fun c => if enabledAt ast (astChanOff c) then 16 else 0)
    + sumTo 64 (fun j => if enabledAt ast (astSetOff j) then 48 else 0)
    + sumTo 8 (fun r => if enabledAt ast (astRefOff r) then 16 else 0)
  let recs := sumTo 4 (fun g => if enabledAt lsp (lspGroupOff g) then 32 else 0)
    + sumTo 8 (fun l => if enabledAt lsp (lspLineOff l) then 32 else 0)
  let cans := sumTo 256 (fun i => if leAt can (80 + 16 * i) 1 = 1 then up4 (16 + leAt can (82 + 16 * i) 1) else 0)
  1024 + 256 + 2048 + unit + streams + ests + recs + cans

/-- The worst-case snapshot of the active unit with one configuration replaced. -/
def snapWith (s : State) (obj : Nat) (b : List Byte) : Nat :=
  let pick (o : Nat) : List Byte := if o = obj then b else s.conf o
  snapBytes s.prog.active (pick objAster) (pick objLsp) (pick objCan)

/-! ### Accepting a record -/

/-- The CONFIG_REV of an object in its record; TIME_CONFIG and the CRL store hold none (02 R70, 16 R472). -/
def objRev (o : Nat) (b : List Byte) : Nat :=
  if o = objAster ∨ o = objLsp then leAt b 4 4
  else if o = objBoot then leAt b 8 4
  else if o = objTime ∨ o = objCrl then 0
  else leAt b 0 4

/-- A version of an object is written to both CONF copies and becomes current, with SEQ one above (17 R485); in TRIAL
the change is listed for the fallback report (16 R462). -/
def confWrite (o : Nat) (b : List Byte) (s : State) : State :=
  let s : State := { s with
    nvs := { s.nvs with confSeq := assocSet s.nvs.confSeq o ((assoc s.nvs.confSeq o + 1) % 2 ^ 32) }
    cfg := { s.cfg with stored := objSet s.cfg.stored o b, absent := s.cfg.absent.filter (· != o) } }
  let s := nandConf o b s
  if s.on Reg.secStatusTrial then
    { s with sec := { s.sec with
        changes := if s.sec.changes.length < 32 then s.sec.changes ++ [⟨o, objRev o b, s.now⟩] else s.sec.changes
        excess := if s.sec.changes.length < 32 then s.sec.excess else satTo 255 (s.sec.excess + 1) } }
  else s

/-- A group update refuses settings changes (16 R466). -/
def groupUpdating (s : State) : Bool := s.sec.groupStep != 0

/-- The module takes the commands of 04 R139: the owner, a bench module, and a module without an owner in RUN that
waits for an object (17 R487). -/
def takesGroup (s : State) : Bool :=
  isOwner s || s.bench || (s.role == roleNone && !s.cfg.absent.isEmpty)

/-- A settings command is open: at the owner, and outside a group update. -/
def settingsOpen (s : State) : Bool := takesGroup s && !groupUpdating s

/-- Bytes as numbers, for what is forwarded. -/
def asNats (b : List Byte) : List Nat := b.map (·.toNat)

/-- The object waits for the frame the owner named, and every peer gets it (04 R139). -/
def pendObject (o f : Nat) (b : List Byte) (s : State) : State :=
  let s : State := { s with cfg := { s.cfg with next := s.cfg.next ++ [(o, f, b)] } }
  toPeers "FORWARD" (0 :: o :: f :: asNats b) s

/-- A family's SET_CONFIG: every field is checked before anything is done; what clashes with the active unit or takes
its worst-case snapshot over 49 152 bytes is refused; the record is stored in CONF and waits for the named frame. -/
def setConfig (fam obj : Nat) (r : Req) (bad : List Byte → Option Nat) (clash : List Byte → State → Bool)
    (s : State) : State :=
  serve fam 3 r (exactly (objSize obj)) (fun s =>
    match bad r.payload with
    | some d => .err s stOutOfRange d
    | none =>
      if !settingsOpen s || clash r.payload s || 49152 < snapWith s obj r.payload then conflict s
      else
        let f := nameFrame s
        .ok (pendObject obj f r.payload (confWrite obj r.payload s)) (frameBytes f)) s

/-- The object is in effect. -/
def putConf (o : Nat) (b : List Byte) (s : State) : State :=
  { s with cfg := { s.cfg with applied := objSet s.cfg.applied o b } }

/-- A shared key is loaded with an algorithm and its KEY_ID, and the module's time lies in its validity (16 R472); a key
that a replacement removes is in use until the next cut-off. -/
def keyInUse (s : State) (alg id : Nat) : Bool :=
  (s.sec.keys ++ s.sec.keysUsed).any (fun k =>
    leAt k 0 4 == id && leAt k 4 1 == alg && decide (leAt k 8 6 * nsPerS + leAt k 14 4 ≤ s.now)
      && decide (s.now ≤ leAt k 18 6 * nsPerS + leAt k 24 4))

/-- A KEY_ID selects a key of GOOSE and SV authentication that is in use (08 R272). -/
def authKey (s : State) (id : Nat) : Bool := keyInUse s 1 id || keyInUse s 2 id

/-- Input and output items of the active unit of one kind satisfy a condition somewhere. -/
def unitReads (s : State) (kind : Nat) (p : Nat → Bool) : Bool :=
  match s.prog.active with
  | some u => u.ins.any (fun i => i.srcKind == kind && p i.srcRef)
  | none => false

def unitWrites (s : State) (kind : Nat) (p : Nat → Bool) : Bool :=
  match s.prog.active with
  | some u => u.outs.any (fun i => i.dstKind == kind && p i.dstRef)
  | none => false

end Sys2Proof.Machine
end

