-- ==== Sys2Proof/Machine/Stations.lean ====
section
/-! DEFINITION. Station supervision (08 R274-R276): which stations of the active unit are alive, and what a drop-out or
a return leaves for the snapshot, the error tasks and the release (04 R131-R134). -/

namespace Sys2Proof.Machine

/-- The state of a sampled-value stream is ALIGNED (06 R191). -/
def streamAligned (s : State) (n : Nat) : Bool := s.get (Reg.astStrState n) == 2

/-! Station record fields (R279). -/

def stationOff (i : Nat) : Nat := 36048 + 32 * i
def stationEnabled (b : List Byte) (i : Nat) : Bool := enabledAt b (stationOff i)
def stationSubs (b : List Byte) (i : Nat) : Nat := leAt b (stationOff i + 4) 16
def stationStreams (b : List Byte) (i : Nat) : Nat := leAt b (stationOff i + 20) 4
def stationLsp (b : List Byte) (i : Nat) : Nat := leAt b (stationOff i + 24) 1
def stationPubs (b : List Byte) (i : Nat) : Nat := leAt b (stationOff i + 28) 4

/-- The station record `i` is alive: every subscription and stream that it lists is (R274). -/
def recordAlive (s : State) (i : Nat) : Bool :=
  let b := s.conf objNet
  stationEnabled b i
    && (List.range 128).all (fun g => !bitOf (stationSubs b i) g || s.on (Reg.netGsubAlive g))
    && (List.range 24).all (fun n => !bitOf (stationStreams b i) n || streamAligned s n)
    && (List.range 8).all (fun l => !bitOf (stationLsp b i) l || s.on (Reg.lspSubAlive l))

/-- The stations dropped now. -/
def State.dropped (s : State) : Nat := s.get Reg.netStaDropHiDropHi * 2 ^ 32 + s.get Reg.netStaDropLoDropLo

/-- Shows the stations dropped. -/
def putDropped (m : Nat) (s : State) : State :=
  (s.set Reg.netStaDropLoDropLo m).set Reg.netStaDropHiDropHi (m / 2 ^ 32)

/-- An input block has updated validly (04 R131): the snapshot for the frame after the next cut-off finds its AGE at 0. -/
def touchBlock (key : Nat) (s : State) : State :=
  let k := frameIndex s.now + (if s.now - s.t0 < 225000 then 1 else 2)
  { s with net := { s.net with sinceFrame := assocSet s.net.sinceFrame key k } }

/-- A drop-out falls into every task period from its input copy to its release (04 R132). -/
def markDropped (j : Nat) (s : State) : State :=
  { s with prog := { s.prog with tasks := s.prog.tasks.map (fun (k : TaskSt) =>
      if k.alive || k.copied then { k with droppedIn := withBit k.droppedIn j true } else k) } }

/-- A station of the active unit is judged at the instant t: a transition is stamped to 1 us and sets STATION_CHANGE (R275). -/
def reviewStation (t : Nat) (s : State) (r : StationRow) : State :=
  let up := recordAlive s r.configRef
  let down := bitOf s.dropped r.station
  if up = !down then s
  else
    let s := putDropped (withBit s.dropped r.station (!up)) s
    let s : State := { s with net := { s.net with
      changed := withBit s.net.changed r.station true
      wentDown := if up then s.net.wentDown else withBit s.net.wentDown r.station true
      cameUp := if up then withBit s.net.cameUp r.station true else s.net.cameUp
      stamps := s.net.stamps ++ [(r.station, up, t / 1000)] } }
    (if up then s else markDropped r.station s).raise Ev.netStationChange

/-- Every station of the active unit is judged at an instant. -/
def reviewStationsAt (t : Nat) (s : State) : State :=
  match s.prog.active with
  | some u => u.stations.foldl (reviewStation t) s
  | none => s

/-- Every station of the active unit is judged. -/
def reviewStations (s : State) : State := reviewStationsAt s.now s

/-- Larkspur subscription i ceases to be alive, where its reports have expired before the present (R252, R274, R275). -/
def expireSub (s : State) (i : Nat) : State :=
  let t := s.lsp.subUntil.getD i 0
  if s.on (Reg.lspSubAlive i) && decide (t < s.now) then reviewStationsAt (t + 1) (s.setBit (Reg.lspSubAlive i) false) else s

/-- Inserts a subscription by the instant at which it expires. -/
def insertSub (s : State) (i : Nat) : List Nat → List Nat
  | [] => [i]
  | j :: l => if s.lsp.subUntil.getD i 0 < s.lsp.subUntil.getD j 0 then i :: j :: l else j :: insertSub s i l

/-- Every Larkspur subscription whose time is over ceases to be alive at its own instant, the earliest first. -/
def expireSubs (s : State) : State := ((List.range 8).foldl (fun l i => insertSub s i l) []).foldl expireSub s

end Sys2Proof.Machine
end

