-- ==== Sys2Proof/Machine/AsterConfig.lean ====
section
/-! DEFINITION. The Aster configuration (06 R198, R208, R213): its fields, windows and reporting rates, and the checks
of SET_CONFIG. Ranges hold in every record; what relates a record to others, in enabled ones (log entry 47). -/

namespace Sys2Proof.Machine

/-! ### Fields -/

def astF0 (b : List Byte) : Nat := leAt b 0 1
def astAlign (b : List Byte) : Nat := leAt b 1 1

def strEnabled (b : List Byte) (n : Nat) : Bool := enabledAt b (astStreamOff n)
/-- The rate of stream n in samples per second. -/
def strRate (b : List Byte) (n : Nat) : Nat :=
  [4000, 4800, 12800, 14400, 15360].getD (leAt b (astStreamOff n + 1) 1) 0
def strPorts (b : List Byte) (n : Nat) : Nat := leAt b (astStreamOff n + 2) 1
def strQty (b : List Byte) (n : Nat) : Nat := leAt b (astStreamOff n + 3) 1
def strSyncReq (b : List Byte) (n : Nat) : Nat := leAt b (astStreamOff n + 4) 1
def strAcceptSim (b : List Byte) (n : Nat) : Bool := bitOf (leAt b (astStreamOff n + 5) 1) 0
def strLostFrames (b : List Byte) (n : Nat) : Nat := leAt b (astStreamOff n + 6) 2
def strMac (b : List Byte) (n : Nat) : Nat := leAt b (astStreamOff n + 8) 6
def strAppid (b : List Byte) (n : Nat) : Nat := leAt b (astStreamOff n + 14) 2
def strVlan (b : List Byte) (n : Nat) : Nat := leAt b (astStreamOff n + 16) 2
def strConfRev (b : List Byte) (n : Nat) : Nat := leAt b (astStreamOff n + 18) 4
def strSvId (b : List Byte) (n : Nat) : List Byte := (b.drop (astStreamOff n + 24)).take 32

def chEnabled (b : List Byte) (c : Nat) : Bool := enabledAt b (astChanOff c)
def chKind (b : List Byte) (c : Nat) : Nat := leAt b (astChanOff c + 1) 1
def chRef (b : List Byte) (c : Nat) : Nat := leAt b (astChanOff c + 2) 1
def chClass (b : List Byte) (c : Nat) : Nat := leAt b (astChanOff c + 4) 1
def chMfs (b : List Byte) (c : Nat) : Nat := leAt b (astChanOff c + 5) 1
def chPub (b : List Byte) (c : Nat) : Int := sleAt b (astChanOff c + 16) 4
def chScale (b : List Byte) (c : Nat) : Nat := leAt b (astChanOff c + 20) 4
def chInvert (b : List Byte) (c : Nat) : Bool := bitOf (leAt b (astChanOff c + 3) 1) 0
def chRcf (b : List Byte) (c : Nat) : Nat := leAt b (astChanOff c + 8) 4
def chPacf (b : List Byte) (c : Nat) : Nat := leAt b (astChanOff c + 12) 4
def chName (b : List Byte) (c : Nat) : List Byte := (b.drop (astChanOff c + 24)).take 16

def setEnabled (b : List Byte) (j : Nat) : Bool := enabledAt b (astSetOff j)
/-- Channel a, b or c of set j. -/
def setChan (b : List Byte) (j i : Nat) : Nat := leAt b (astSetOff j + 1 + i) 1

def refEnabled (b : List Byte) (r : Nat) : Bool := enabledAt b (astRefOff r)
def refIsChan (b : List Byte) (r : Nat) : Bool := leAt b (astRefOff r + 1) 1 == 1
def refPrimary (b : List Byte) (r : Nat) : Nat := leAt b (astRefOff r + 2) 1
def refFallback (b : List Byte) (r : Nat) : Nat := leAt b (astRefOff r + 3) 1
def refClass (b : List Byte) (r : Nat) : Nat := leAt b (astRefOff r + 4) 1
def refMfs (b : List Byte) (r : Nat) : Nat := leAt b (astRefOff r + 5) 1

def pmuEnabled (b : List Byte) (n : Nat) : Bool := enabledAt b (astPmuOff n)
def pmuClass (b : List Byte) (n : Nat) : Nat := leAt b (astPmuOff n + 1) 1
def pmuFs (b : List Byte) (n : Nat) : Nat := leAt b (astPmuOff n + 2) 1
def pmuFormat (b : List Byte) (n : Nat) : Nat := leAt b (astPmuOff n + 3) 1
def pmuId (b : List Byte) (n : Nat) : Nat := leAt b (astPmuOff n + 4) 2
def pmuRef (b : List Byte) (n : Nat) : Nat := leAt b (astPmuOff n + 6) 1
def pmuCount (b : List Byte) (n : Nat) : Nat := leAt b (astPmuOff n + 7) 1
def pmuStreamPort (b : List Byte) (n : Nat) : Nat := leAt b (astPmuOff n + 10) 2
def pmuDest (b : List Byte) (n : Nat) : Nat := leAt b (astPmuOff n + 12) 4
def pmuStn (b : List Byte) (n : Nat) : List Byte := (b.drop (astPmuOff n + 20)).take 16
def pmuTb (b : List Byte) (n : Nat) : Nat := leAt b (astPmuOff n + 16) 1
def pmuPlain (b : List Byte) (n : Nat) : Bool := bitOf (leAt b (astPmuOff n + 17) 1) 0
def pmuStartOn (b : List Byte) (n : Nat) : Bool := bitOf (leAt b (astPmuOff n + 17) 1) 1
/-- Phasor i of a PMU stream: kind times 256 plus number. -/
def pmuPhasor (b : List Byte) (n i : Nat) : Nat := leAt b (astPmuOff n + 36 + 2 * i) 2

/-- Reporting rates by code (R213). -/
def rateOf (code : Nat) : Nat := [10, 12, 15, 20, 25, 30, 50, 60, 100, 120, 200, 240].getD code 0

/-- The window of class M in nominal cycles by rate code (R198); 0 where F0 does not have the rate. -/
def mCycles (f0 code : Nat) : Nat :=
  if f0 = 50 then [20, 0, 0, 0, 8, 0, 4, 0, 4, 0, 2, 0].getD code 0
  else [24, 20, 16, 12, 0, 8, 0, 4, 0, 4, 0, 2].getD code 0

/-- A window's length in nominal cycles: two in class P. -/
def cyclesOf (f0 cls mfs : Nat) : Nat := if cls = 0 then 2 else mCycles f0 mfs

/-- A reporting rate that F0 has (R208), and one of the tested set. -/
def rateAllowed (f0 code : Nat) : Bool := mCycles f0 code != 0
def rateTested (f0 code : Nat) : Bool :=
  if f0 = 50 then [0, 4, 6].contains code else [0, 1, 2, 3, 5, 7].contains code

/-- D in frames: A plus the half window rounded up (R194). -/
def delayFrames (b : List Byte) (cls mfs : Nat) : Nat :=
  astAlign b + (cyclesOf (astF0 b) cls mfs * 2000 + astF0 b - 1) / astF0 b

/-- Mf and Mr of R201. -/
def mfOf (cls : Nat) : Nat := if cls = 0 then 4 else 8
def mrOf (cls : Nat) : Nat := if cls = 0 then 40 else 160

/-! ### Checks (R213, R214) -/

/-- A REAL lies between two REALs, both included. -/
def realIn (lo hi x : Nat) : Bool := !fIsNan .f32 x && !fLt .f32 x lo && !fLt .f32 hi x

/-- A REAL above 0. -/
def realPos (x : Nat) : Bool := fLt .f32 0 x && x % 2 ^ 31 != FClass.f32.inf

/-- A VLAN field: 0 to 4094, or untagged. -/
def vlanOk (v : Nat) : Bool := decide (v ≤ 4094) || v == 0xFFFF

/-- The checks of a record apply where its ENABLE is 1. -/
def whenOn (en : Bool) (l : List (Nat × Bool)) : List (Nat × Bool) := if en then l else []

def astStreamChecks (b : List Byte) (n : Nat) : List (Nat × Bool) :=
  let o := astStreamOff n
  let en := strEnabled b n
  oneOf b o 1 [0, 1] ++ inRange b (o + 1) 1 0 4 ++ inRange b (o + 2) 1 (if en then 1 else 0) 15
    ++ inRange b (o + 3) 1 1 8 ++ inRange b (o + 4) 1 0 1 ++ inRange b (o + 5) 1 0 1 ++ inRange b (o + 6) 2 1 400
    ++ [(o + 8, bitOf (leAt b (o + 8) 1) 0 && (!en || (List.range n).all (fun m =>
        !(strEnabled b m && strMac b m == strMac b n && strAppid b m == strAppid b n))))]
    ++ inRange b (o + 14) 2 0x4000 0x7FFF ++ [(o + 16, vlanOk (strVlan b n))] ++ resv b (o + 22) 2
    ++ asciiOk b (o + 24) 32 ++ resv b (o + 56) 8

def astChanChecks (b : List Byte) (c : Nat) : List (Nat × Bool) :=
  let o := astChanOff c
  [(o, decide (leAt b o 1 ≤ 1) && (!chEnabled b c || (strEnabled b (c / 8) && decide (c % 8 < strQty b (c / 8)))))]
    ++ inRange b (o + 1) 1 0 1
    ++ [(o + 2, decide (chRef b c < 8) && (!chEnabled b c || refEnabled b (chRef b c)))]
    ++ inRange b (o + 3) 1 0 1 ++ inRange b (o + 4) 1 0 1
    ++ [(o + 5, if chClass b c = 0 then chMfs b c == 0 else rateAllowed (astF0 b) (chMfs b c))]
    ++ resv b (o + 6) 2 ++ [(o + 8, realIn 0x3F4CCCCD 0x3F99999A (chRcf b c))]
    ++ [(o + 12, realIn 0xBD4CCCCD 0x3D4CCCCD (chPacf b c))]
    ++ inBounds b (o + 16) 4 (-2000000) 2000000 ++ [(o + 20, realPos (chScale b c))] ++ asciiOk b (o + 24) 16

/-- Two channels of a set agree in KIND, CLASS, M_FS and FREQ_REF. -/
def chAlike (b : List Byte) (x y : Nat) : Bool :=
  chKind b x == chKind b y && chClass b x == chClass b y && chMfs b x == chMfs b y && chRef b x == chRef b y

def astSetChecks (b : List Byte) (j : Nat) : List (Nat × Bool) :=
  let o := astSetOff j
  let ok (i : Nat) : Bool := decide (setChan b j i < 192) && chEnabled b (setChan b j i)
  oneOf b o 1 [0, 1] ++ whenOn (setEnabled b j) (
    [(o + 1, ok 0), (o + 2, ok 1 && setChan b j 1 != setChan b j 0 && chAlike b (setChan b j 0) (setChan b j 1)),
      (o + 3, ok 2 && setChan b j 2 != setChan b j 0 && setChan b j 2 != setChan b j 1
        && chAlike b (setChan b j 0) (setChan b j 2))]) ++ resv b (o + 4) 4

/-- A source of a reference: an enabled set or channel of KIND voltage and of the reference's CLASS and M_FS. -/
def refSourceOk (b : List Byte) (r src : Nat) : Bool :=
  let c := if refIsChan b r then src else setChan b src 0
  (if refIsChan b r then decide (src < 192) && chEnabled b src else decide (src < 64) && setEnabled b src)
    && chKind b c == 1 && chClass b c == refClass b r && chMfs b c == refMfs b r

def astRefChecks (b : List Byte) (r : Nat) : List (Nat × Bool) :=
  let o := astRefOff r
  let on := refEnabled b r
  oneOf b o 1 [0, 1] ++ inRange b (o + 1) 1 0 1 ++ [(o + 2, !on || refSourceOk b r (refPrimary b r)),
    (o + 3, !on || refFallback b r == 0xFF || refSourceOk b r (refFallback b r))] ++ inRange b (o + 4) 1 0 1
    ++ [(o + 5, if refClass b r = 0 then refMfs b r == 0 else rateAllowed (astF0 b) (refMfs b r))]
    ++ resv b (o + 6) 2

/-- The channel whose class a PMU item has. -/
def itemChan (b : List Byte) (v : Nat) : Nat := if v / 256 = 0 then v % 256 else setChan b (v % 256) 0

/-- A PMU item names a channel or a component of a set (R206, R213). -/
def pmuItemNamed (v : Nat) : Bool := decide (v / 256 ≤ 3) && decide (v % 256 < (if v / 256 = 0 then 192 else 64))

/-- A PMU item exists and has the stream's CLASS, and in class M the stream's rate (R213, R214). -/
def pmuItemOk (b : List Byte) (n v : Nat) : Bool :=
  let c := itemChan b v
  (if v / 256 = 0 then decide (v % 256 < 192) && chEnabled b (v % 256)
    else decide (v / 256 ≤ 3) && decide (v % 256 < 64) && setEnabled b (v % 256))
    && chClass b c == pmuClass b n && (pmuClass b n == 0 || chMfs b c == pmuFs b n)

def astPmuChecks (b : List Byte) (n : Nat) : List (Nat × Bool) :=
  let o := astPmuOff n
  let on := pmuEnabled b n
  oneOf b o 1 [0, 1] ++ inRange b (o + 1) 1 0 1 ++ [(o + 2, rateAllowed (astF0 b) (pmuFs b n))]
    ++ inRange b (o + 3) 1 0 15
    ++ [(o + 4, decide (1 ≤ pmuId b n) && decide (pmuId b n ≤ 65534) &&
        (!on || (List.range n).all (fun m => !(pmuEnabled b m && pmuId b m == pmuId b n))))]
    ++ [(o + 6, decide (pmuRef b n < 8) &&
        (!on || (refEnabled b (pmuRef b n) && refClass b (pmuRef b n) == pmuClass b n)))]
    ++ inRange b (o + 7) 1 1 32 ++ inRange b (o + 8) 1 0 3 ++ inRange b (o + 9) 1 0 1
    ++ inRange b (o + 10) 2 1 65535 ++ [(o + 12, pmuUdp b n || pmuDest b n == 0)]
    ++ inRange b (o + 16) 1 0 1 ++ inRange b (o + 17) 1 0 3 ++ resv b (o + 18) 2 ++ asciiOk b (o + 20) 16
    ++ (List.range 32).map (fun i => (o + 36 + 2 * i,
        if i < pmuCount b n then pmuItemNamed (pmuPhasor b n i) && (!on || pmuItemOk b n (pmuPhasor b n i))
        else pmuPhasor b n i == 0))
    ++ resv b (o + 100) 12

/-- The checks of an Aster configuration by rising offset. -/
def astChecks (b : List Byte) : List (Nat × Bool) :=
  oneOf b 0 1 [50, 60] ++ inRange b 1 1 1 40 ++ resv b 2 2 ++ resv b 8 8 ++ (List.range 24).flatMap (astStreamChecks b)
    ++ (List.range 192).flatMap (astChanChecks b) ++ (List.range 64).flatMap (astSetChecks b)
    ++ (List.range 8).flatMap (astRefChecks b) ++ (List.range 16).flatMap (astPmuChecks b)

/-- The record disables, or changes the KIND or CLASS of, an item that the active image map reads (R214). -/
def astClash (b : List Byte) (s : State) : Bool :=
  let c := s.conf objAster
  unitReads s 1 (fun r =>
    let n := r % 256
    if r / 256 = 0 then chEnabled c n && (!chEnabled b n || chKind b n != chKind c n || chClass b n != chClass c n)
    else
      let x := setChan b n 0
      let y := setChan c n 0
      setEnabled c n && (!setEnabled b n || chKind b x != chKind c y || chClass b x != chClass c y))
    || unitReads s 2 (fun r =>
      refEnabled c r && (!refEnabled b r || refIsChan b r != refIsChan c r || refClass b r != refClass c r))

end Sys2Proof.Machine
end

