-- ==== Sys2Proof/Machine/AsterEst.lean ====
section
/-! DEFINITION. The arithmetic of Aster (06 R196-R203, R211) and of the numbers it shares with Larkspur: the grid, the
windows, the synchrophasor, the filter bank and the sequence components. The formulas are the spec's; what an operation on
two numbers gives is free (log entry 48). -/

namespace Sys2Proof.Machine

/-! ### Numbers -/

/-- An integer as a number. -/
def nInt (i : Int) : Nat := Config.numRat i 1

/-- A number rounded to the nearest integer, ties to even. -/
def numRound (x : Nat) : Int := roundEven (Config.numValue x).1 ((Config.numValue x).2 + 1)

/-- Times a fraction. -/
def nScale (x : Nat) (n : Int) (d : Nat) : Nat := Config.numMul x (Config.numRat n d)

/-- The sum of numbers. -/
def nSum (l : List Nat) : Nat := l.foldl Config.numAdd (nInt 0)

/-- The lesser and the greater of two numbers. -/
def nMin (x y : Nat) : Nat := if Config.numLt y x then y else x
def nMax (x y : Nat) : Nat := if Config.numLt x y then y else x

/-- The magnitude of a number. -/
def nAbs (x : Nat) : Nat := if Config.numLt x (nInt 0) then Config.numSub (nInt 0) x else x

/-- A complex number, its real and its imaginary part. -/
abbrev Cx := Nat × Nat

def cxAdd (x y : Cx) : Cx := (Config.numAdd x.1 y.1, Config.numAdd x.2 y.2)

def cxMul (x y : Cx) : Cx :=
  (Config.numSub (Config.numMul x.1 y.1) (Config.numMul x.2 y.2),
    Config.numAdd (Config.numMul x.1 y.2) (Config.numMul x.2 y.1))

/-- Times a real number. -/
def cxScale (k : Nat) (x : Cx) : Cx := (Config.numMul k x.1, Config.numMul k x.2)

def cxSum (l : List Cx) : Cx := l.foldl cxAdd (nInt 0, nInt 0)

/-- exp(j a). -/
def cxExp (a : Nat) : Cx := (Config.numCos a, Config.numSin a)

def cxAbs (x : Cx) : Nat := Config.numSqrt (Config.numAdd (Config.numMul x.1 x.1) (Config.numMul x.2 x.2))

def cxArg (x : Cx) : Nat := Config.numAtan2 x.2 x.1

/-- m exp(j a). -/
def cxPolar (m a : Nat) : Cx := cxScale m (cxExp a)

/-- 2 pi. -/
def twoPi : Nat := Config.numMul (nInt 2) Config.numPi

/-- An angle within one turn of (-pi, pi], brought into it. -/
def wrapAngle (x : Nat) : Nat :=
  if Config.numLt Config.numPi x then Config.numSub x twoPi
  else if Config.numLt (Config.numSub (nInt 0) Config.numPi) x then x
  else Config.numAdd x twoPi

/-- a = exp(j 2 pi / 3) to the power i. -/
def cxTurn (i : Nat) : Cx := cxExp (nScale twoPi i 3)

/-! ### The grid (R197) -/

/-- Half a window in grid points, 48 000 in a second. -/
def halfPoints (f0 cycles : Nat) : Nat := cycles * 24000 / f0

/-- The grid point that E(k) is tagged with, for a window's D: 12 points in a frame (R194). -/
def tagPoint (d k : Nat) : Int := 12 * ((k : Int) - (d : Int))

/-- The instant of a channel's grid point on the samples' own scale, in 1/48000 ns: PUB_DELAY_NS later. -/
def pointAt (b : List Byte) (c : Nat) (g : Int) : Int := g * (nsPerS : Int) + 48000 * chPub b c

/-- The places of a channel's stream that the window about grid point g covers, first and last. -/
def windowAt (b : List Byte) (c : Nat) (g : Int) : Int × Int :=
  let h : Int := (halfPoints (astF0 b) (cyclesOf (astF0 b) (chClass b c) (chMfs b c)) : Int)
  let rate : Int := (strRate b (c / 8) : Int)
  let unit : Int := 48000 * (nsPerS : Int)
  (-((-(rate * pointAt b c (g - h))) / unit), rate * pointAt b c (g + h) / unit)

/-- Channel c's used samples with its gaps of at most 2 filled on the line between their neighbours (R196). -/
def fillGaps : List (Nat × Int) → List (Nat × Nat)
  | x :: y :: l =>
    let n := y.1 - x.1
    (x.1, nInt x.2) :: (if n ≤ 3 then (List.range (n - 1)).map (fun i =>
      (x.1 + 1 + i, Config.numRat (x.2 * (n : Int) + (y.2 - x.2) * ((i + 1 : Nat) : Int)) n)) else [])
      ++ fillGaps (y :: l)
  | [x] => [(x.1, nInt x.2)]
  | [] => []

/-- The values of a channel's quantity that are used, by place. -/
def usedValues (rows : List BatchRow) (c : Nat) : List (Nat × Int) :=
  rows.filterMap (fun r =>
    if r.stream ≠ c / 8 then none
    else match r.vals[c % 8]? with
      | some p => if bitOf p.2 0 then some (r.place, p.1) else none
      | none => none)

/-- Channel c at grid point g in A or V: interpolated, 1 mA or 10 mV per unit (R186), inverted where INVERT is set. -/
def gridValue (b : List Byte) (c : Nat) (filled : List (Nat × Nat)) (g : Int) : Nat :=
  let v := nScale (Config.asterFir (strRate b (c / 8)) filled (pointAt b c g)) 1 (if chKind b c = 0 then 1000 else 100)
  if chInvert b c then Config.numSub (nInt 0) v else v

/-! ### The window (R198) -/

/-- The weight at i points from the centre of a window of half-length h: triangular in class P, and in class M a low-pass
of cut-off Fs/4, weighted by Hamming's window (log entry 156). -/
def weight (cls mfs h : Nat) (i : Int) : Nat :=
  if cls = 0 then Config.numRat ((h : Int) - (i.natAbs : Int)) h
  else
    let x := nScale Config.numPi ((rateOf mfs : Int) * i) 96000
    let low := if i = 0 then nInt 1 else Config.numDiv (Config.numSin x) x
    let ham := Config.numAdd (Config.numRat 54 100)
      (Config.numMul (Config.numRat 46 100) (Config.numCos (nScale Config.numPi i h)))
    Config.numMul low ham

/-- The points of a window, from its centre. -/
def spanPoints (h : Nat) : List Int := (List.range (2 * h + 1)).map (fun (j : Nat) => (j : Int) - (h : Int))

/-- The sum over the window of w(n) x(n) exp(-j 2 pi f (t_n - t_e)) (R199, R201). -/
def demodulate (cls mfs h : Nat) (x : Int → Cx) (g : Int) (f : Nat) : Cx :=
  cxSum ((spanPoints h).map (fun i =>
    cxMul (cxScale (weight cls mfs h i) (x (g + i))) (cxExp (Config.numMul (nScale twoPi (-i) 48000) f))))

/-- X from S (R199): scaled by sqrt 2 over the weights' sum, and referred to F0 from the whole second before t_e. -/
def toPhasor (f0 cls mfs h : Nat) (g : Int) (x : Cx) : Cx :=
  let k := Config.numDiv (Config.numSqrt (nInt 2)) (nSum ((spanPoints h).map (weight cls mfs h)))
  cxMul (cxScale k x) (cxExp (nScale twoPi (-((f0 : Int) * (g % 48000))) 48000))

/-- MAG and ANG of channel c about grid point g, demodulated at f_t (R199). -/
def phasorAt (b : List Byte) (rows : List BatchRow) (c ft : Nat) (g : Int) : Nat × Nat :=
  let h := halfPoints (astF0 b) (cyclesOf (astF0 b) (chClass b c) (chMfs b c))
  let filled := fillGaps (usedValues rows c)
  let x := toPhasor (astF0 b) (chClass b c) (chMfs b c) h g
    (demodulate (chClass b c) (chMfs b c) h (fun p => (gridValue b c filled p, nInt 0)) g ft)
  (Config.numMul (cxAbs x) (Config.numOfReal (chRcf b c)),
    wrapAngle (Config.numAdd (cxArg x) (Config.numOfReal (chPacf b c))))

/-- Component i of three compensated phasors (R203): X1, X2 and X0 in this order, as magnitude and angle. -/
def componentOf (i : Nat) (xa xb xc : Nat × Nat) : Nat × Nat :=
  let turn (n : Nat) (x : Nat × Nat) : Cx := cxMul (cxTurn n) (cxPolar x.1 x.2)
  let s := match i with
    | 0 => cxSum [turn 0 xa, turn 1 xb, turn 2 xc]
    | 1 => cxSum [turn 0 xa, turn 2 xb, turn 1 xc]
    | _ => cxSum [turn 0 xa, turn 0 xb, turn 0 xc]
  let x := cxScale (Config.numRat 1 3) s
  (cxAbs x, cxArg x)

/-! ### Frequency (R201) -/

/-- The channels a reference's source uses. -/
def sourceChans (b : List Byte) (r src : Nat) : List Nat :=
  if refIsChan b r then [src] else [setChan b src 0, setChan b src 1, setChan b src 2]

/-- v(n) of a source: the space vector (2/3)(v_a + a v_b + a^2 v_c) of a set, or the one channel. -/
def sourceValue (b : List Byte) (rows : List BatchRow) (r src : Nat) : Int → Cx :=
  let fs := (sourceChans b r src).map (fun c => (c, fillGaps (usedValues rows c)))
  fun g =>
    let xs := (List.range fs.length).map (fun i =>
      let p := fs.getD i (0, [])
      cxScale (gridValue b p.1 p.2 g) (cxTurn i))
    if refIsChan b r then cxSum xs else cxScale (Config.numRat 2 3) (cxSum xs)

/-- Z[b] of a reference about grid point g: the demodulator `b` times 2 Hz off f_t. -/
def bankOut (b : List Byte) (rows : List BatchRow) (r src ft : Nat) (g shift : Int) : Cx :=
  let h := halfPoints (astF0 b) (cyclesOf (astF0 b) (refClass b r) (refMfs b r))
  demodulate (refClass b r) (refMfs b r) h (sourceValue b rows r src) g (Config.numAdd ft (nInt (2 * shift)))

/-- psi from Z[0] (R199). -/
def psiOf (b : List Byte) (r : Nat) (g : Int) (z : Cx) : Nat :=
  let h := halfPoints (astF0 b) (cyclesOf (astF0 b) (refClass b r) (refMfs b r))
  cxArg (toPhasor (astF0 b) (refClass b r) (refMfs b r) h g z)

/-- The value noted for a frame. -/
def notedAt (l : List (Nat × Nat)) (k : Nat) : Option Nat := (l.find? (fun p => p.1 == k)).map (·.2)

/-- f(k) = F0 + wrap(psi(k) - psi(k - Mf)) / (2 pi Mf 250 us). -/
def freqOf (f0 mf psi was : Nat) : Nat :=
  Config.numAdd (nInt f0) (Config.numDiv (wrapAngle (Config.numSub psi was)) (nScale twoPi (mf : Int) 4000))

/-- ROCOF(k) = (f(k) - f(k - Mr)) / (Mr 250 us). -/
def rocofOf (mr f was : Nat) : Nat := nScale (Config.numSub f was) 4000 mr

/-- |f - F0| exceeds 5 Hz. -/
def outOfRange (f0 f : Nat) : Bool := Config.numLt (nInt 5) (nAbs (Config.numSub f (nInt f0)))

/-- f kept within F0 +- 5 Hz. -/
def clampFt (f0 f : Nat) : Nat := nMax (nInt ((f0 : Int) - 5)) (nMin (nInt ((f0 : Int) + 5)) f)

/-- A rate per second of module time as one of real time, while 250 us of module time take 249 us or, where the counter
is held back, 251 us (R202, 02 R41). -/
def toReal (slew back : Bool) (x : Nat) : Nat := if slew then nScale x 250 (if back then 251 else 249) else x

/-! ### Formats of C37.118.2 (R211) -/

/-- A component in the integer format, value / INT_SCALE clamped to +-32 767, as a 16-bit word and whether it was
clamped. -/
def intWord (v : Nat) (unit : Nat) : Nat × Bool :=
  let i := numRound (Config.numDiv v unit)
  let j := if i < -32767 then -32767 else if 32767 < i then 32767 else i
  ((j % 65536).toNat, i != j)

/-- A phasor in a stream's FORMAT, rectangular or, with bit 0, polar, as integers or, with bit 1, as REALs; an angle in
the integer format counts 10^-4 rad (log entry 50). -/
def phasorWords (format scale : Nat) (mag ang : Nat) : Nat × Nat × Bool :=
  let z := cxPolar mag ang
  let v := if bitOf format 0 then (mag, ang) else z
  if bitOf format 1 then (Config.numToReal v.1, Config.numToReal v.2, false)
  else
    let unit := Config.numOfReal scale
    let x := intWord v.1 unit
    let y := if bitOf format 0 then intWord v.2 (Config.numRat 1 10000) else intWord v.2 unit
    (x.1, y.1, x.2 || y.2)

/-- FREQ and DFREQ: mHz from F0 and 0.01 Hz/s, or with bit 3 of FORMAT REALs. -/
def freqWords (format f0 f df : Nat) : Nat × Nat :=
  if bitOf format 3 then (f, df)
  else
    ((numRound (nScale (Config.numSub (Config.numOfReal f) (nInt f0)) 1000 1) % 65536).toNat,
      (numRound (nScale (Config.numOfReal df) 100 1) % 65536).toNat)

/-- PHUNIT = round(INT_SCALE x 10^5) of a REAL (R211). -/
def phUnit (scale : Nat) : Nat :=
  match readFl .f32 scale with
  | .fin false m e => if 0 ≤ e then m * 2 ^ e.toNat * 100000 else divEven (m * 100000) (2 ^ (-e).toNat)
  | _ => 0

end Sys2Proof.Machine
end

