-- ==== Sys2Proof/Machine/LarkspurConfig.lean ====
section
/-! DEFINITION. The Larkspur configuration (07 R248, R249): its fields, its checks and what clashes with the active
unit. -/

namespace Sys2Proof.Machine

/-! ### Fields (R248); what relates a record to others is checked where it is enabled (log entry 47) -/

def lspOn (b : List Byte) : Bool := leAt b 0 1 == 1
def lspRecFlags (b : List Byte) : Nat := leAt b 1 1
def lspWaitMs (b : List Byte) : Nat := leAt b 2 2

def laneEnabled (b : List Byte) (n : Nat) : Bool := enabledAt b (lspLaneOff n)
def laneFe (b : List Byte) (n : Nat) : Int := sleAt b (lspLaneOff n + 4) 4

def grpEnabled (b : List Byte) (g : Nat) : Bool := enabledAt b (lspGroupOff g)
def grpKind (b : List Byte) (g : Nat) : Nat := leAt b (lspGroupOff g + 1) 1
def grpVolt (b : List Byte) (g : Nat) : Nat := leAt b (lspGroupOff g + 2) 1
def grpFlags (b : List Byte) (g : Nat) : Nat := leAt b (lspGroupOff g + 16) 1
def grpTerm (b : List Byte) (g : Nat) : Nat := leAt b (lspGroupOff g + 18) 2

def lineEnabled (b : List Byte) (l : Nat) : Bool := enabledAt b (lspLineOff l)
def lineGroup (b : List Byte) (l : Nat) : Nat := leAt b (lspLineOff l + 1) 1
def lineRec (b : List Byte) (l : Nat) : List Byte := (b.drop (lspLineOff l)).take 32

def subEnabled (b : List Byte) (i : Nat) : Bool := enabledAt b (lspSubOff i)
def subPorts (b : List Byte) (i : Nat) : Nat := leAt b (lspSubOff i + 1) 1
def subAppid (b : List Byte) (i : Nat) : Nat := leAt b (lspSubOff i + 2) 2
def subSrcIp (b : List Byte) (i : Nat) : Nat := leAt b (lspSubOff i + 4) 4
def subDstIp (b : List Byte) (i : Nat) : Nat := leAt b (lspSubOff i + 8) 4
def subKey (b : List Byte) (i : Nat) : Nat := leAt b (lspSubOff i + 12) 4
def subRef (b : List Byte) (i : Nat) : List Byte := (b.drop (lspSubOff i + 16)).take 32

def wfPubEnabled (b : List Byte) : Bool := lspOn b && enabledAt b lspPubOff
def wfPubPorts (b : List Byte) : Nat := leAt b (lspPubOff + 1) 1

/-- A group or line is in use: its record and the header are enabled. -/
def grpUsed (b : List Byte) (g : Nat) : Bool := lspOn b && grpEnabled b g
def lineUsed (b : List Byte) (l : Nat) : Bool := lspOn b && lineEnabled b l

/-! ### Checks -/

def lspLaneChecks (b : List Byte) (n : Nat) : List (Nat × Bool) :=
  let o := lspLaneOff n
  oneOf b o 1 [0, 1] ++ resv b (o + 1) 1 ++ inBounds b (o + 4) 4 0 100000
    ++ inBounds b (o + 8) 4 (-100000) 100000 ++ [(o + 12, realPos (leAt b (o + 12) 4))]

def lspGroupChecks (b : List Byte) (g : Nat) : List (Nat × Bool) :=
  let o := lspGroupOff g
  let v := grpVolt b g
  [(o, decide (leAt b o 1 ≤ 1) && (!grpEnabled b g ||
      (laneEnabled b (3 * g) && laneEnabled b (3 * g + 1) && laneEnabled b (3 * g + 2))))]
    ++ inRange b (o + 1) 1 0 1
    ++ [(o + 2, v == 0xFF || (grpKind b g == 0 && decide (v < 4)
        && (!grpEnabled b g || (grpEnabled b v && grpKind b v == 1))))]
    ++ inRange b (o + 3) 1 0 3 ++ inRange b (o + 4) 2 5 200 ++ inRange b (o + 6) 1 4 32
    ++ inRange b (o + 7) 1 2 8 ++ [(o + 8, realPos (leAt b (o + 8) 4))] ++ inRange b (o + 12) 4 100 20000
    ++ inRange b (o + 16) 1 0 7 ++ resv b (o + 17) 1
    ++ [(o + 18, decide (1 ≤ grpTerm b g) && decide (grpTerm b g ≤ 65534) && (!grpEnabled b g ||
        (List.range g).all (fun h => !(grpEnabled b h && grpTerm b h == grpTerm b g))))]
    ++ resv b (o + 20) 12

def lspLineChecks (b : List Byte) (l : Nat) : List (Nat × Bool) :=
  let o := lspLineOff l
  let g := lineGroup b l
  oneOf b o 1 [0, 1]
    ++ [(o + 1, decide (g < 4) && (!lineEnabled b l || (grpEnabled b g && grpKind b g == 0 &&
        decide (((List.range l).filter (fun m => lineEnabled b m && lineGroup b m == g)).length < 2)))),
      (o + 2, decide (leAt b (o + 2) 1 < 8) || leAt b (o + 2) 1 == 0xFF)]
    ++ resv b (o + 3) 1 ++ resv b (o + 6) 2 ++ [(o + 8, realIn 0x42C80000 0x49127C00 (leAt b (o + 8) 4))]
    ++ [(o + 12, realIn 0x3E19999A 0x3E997F63 (leAt b (o + 12) 4))] ++ inRange b (o + 16) 4 0 100000
    ++ inRange b (o + 20) 1 0 1 ++ resv b (o + 21) 3 ++ asciiOk b (o + 24) 8

def lspSubChecks (b : List Byte) (i : Nat) : List (Nat × Bool) :=
  let o := lspSubOff i
  oneOf b o 1 [0, 1] ++ inRange b (o + 1) 1 0 15 ++ asciiOk b (o + 16) 32

def lspPubChecks (b : List Byte) : List (Nat × Bool) :=
  let o := lspPubOff
  oneOf b o 1 [0, 1] ++ inRange b (o + 1) 1 0 15 ++ inRange b (o + 12) 1 0 63 ++ inRange b (o + 13) 1 1 255
    ++ resv b (o + 14) 2 ++ asciiOk b (o + 16) 32 ++ resv b (o + 52) 12

/-- The checks of a Larkspur configuration by rising offset. -/
def lspChecks (b : List Byte) : List (Nat × Bool) :=
  oneOf b 0 1 [0, 1] ++ inRange b 1 1 0 3 ++ inRange b 2 2 1 500 ++ resv b 8 8
    ++ (List.range 12).flatMap (lspLaneChecks b) ++ (List.range 4).flatMap (lspGroupChecks b)
    ++ (List.range 8).flatMap (lspLineChecks b) ++ (List.range 8).flatMap (lspSubChecks b) ++ lspPubChecks b

/-- The record disables, or changes the KIND of, a group or line that the active image map reads (R249). -/
def lspClash (b : List Byte) (s : State) : Bool :=
  let c := s.conf objLsp
  unitReads s 3 (fun r =>
    let n := r % 256
    if r / 256 = 0 then grpUsed c n && (!grpUsed b n || grpKind b n != grpKind c n)
    else lineUsed c n && !lineUsed b n)

end Sys2Proof.Machine
end

