-- ==== Sys2Proof/Machine/NetworkConfig.lean ====
section
/-! DEFINITION. The network configuration (08 R279): its fields, its checks with R263 and R265, and what clashes while
the program runs (R280). -/

namespace Sys2Proof.Machine

/-! ### Fields -/

def pubOff (j : Nat) : Nat := 208 + 224 * j
def gsubOff (i : Nat) : Nat := 7376 + 224 * i

def allowPlain (b : List Byte) : Bool := bitOf (leAt b 4 1) 0

def forgetMs (b : List Byte) (p : Nat) : Nat := leAt b (pairOff p + 6) 2
def supByte (b : List Byte) (p : Nat) : Nat := leAt b (pairOff p + 8) 1
def supVlan (b : List Byte) (p : Nat) : Nat := leAt b (pairOff p + 10) 2

def portSpeed (b : List Byte) (n : Nat) : Nat := leAt b (portOff n + 2) 1
def portMgmt (b : List Byte) (n : Nat) : Bool := bitOf (leAt b (portRec b n + 3) 1) 0
def portMms (b : List Byte) (n : Nat) : Bool := bitOf (leAt b (portRec b n + 3) 1) 1
def portIp (b : List Byte) (n : Nat) : Nat := leAt b (portRec b n + 8) 4
/-- The KEY_ID of a port's CAK. -/
def portCak (b : List Byte) (n : Nat) : Nat := leAt b (portOff n + 20) 4

def pubEnabled (b : List Byte) (j : Nat) : Bool := enabledAt b (pubOff j)
def pubPorts (b : List Byte) (j : Nat) : Nat := leAt b (pubOff j + 1) 1
def pubMinFrames (b : List Byte) (j : Nat) : Nat := leAt b (pubOff j + 15) 1
def pubMaxMs (b : List Byte) (j : Nat) : Nat := leAt b (pubOff j + 16) 4
def pubCount (b : List Byte) (j : Nat) : Nat := leAt b (pubOff j + 28) 2

def gsubEnabled (b : List Byte) (i : Nat) : Bool := enabledAt b (gsubOff i)
def gsubPorts (b : List Byte) (i : Nat) : Nat := leAt b (gsubOff i + 1) 1
def gsubFlags (b : List Byte) (i : Nat) : Nat := leAt b (gsubOff i + 2) 1
def gsubCount (b : List Byte) (i : Nat) : Nat := leAt b (gsubOff i + 28) 2

/-- A field of text of 64 bytes. -/
def text64 (b : List Byte) (off : Nat) : List Byte := (b.drop off).take 64

/-- A PORTS bitmap of a publication: one port in use of an INDEPENDENT pair, or both ports of a redundant pair. -/
def pubPortsOk (b : List Byte) (m : Nat) : Bool :=
  (List.range 4).any (fun n => m == 2 ^ n && portUsed b n && pairMode b (n / 2) == 0)
    || (List.range 2).any (fun p => m == 3 * 4 ^ p && portUsed b (2 * p) && pairMode b p != 0)

/-! ### The release budget (R263) -/

/-- A released frame counts its length, preamble and gap, a trailer or tag, and MACsec. -/
def releaseCost (b : List Byte) (n len : Nat) : Nat :=
  len + 20 + (if pairMode b (n / 2) ≠ 0 then 6 else 0) + (if portMacsec b n then 32 else 0)

/-- The worst-case release of port n, where every publication, report and UDP stream is released in one frame. -/
def releaseBytes (b ast lsp : List Byte) (n : Nat) : Nat :=
  sumTo 32 (fun j => if pubEnabled b j && onPort b (pubPorts b j) n then
      releaseCost b n (Config.frameLength 0 j b) else 0)
    + sumTo 4 (fun g => if wfPubEnabled lsp && onPort b (wfPubPorts lsp) n && grpUsed lsp g && bitOf (grpFlags lsp g) 1 then
      releaseCost b n (Config.frameLength 1 g lsp) else 0)
    + sumTo 16 (fun m => if pmuEnabled ast m && pmuUdp ast m && onPort b (2 ^ pmuPort ast m) n then
      releaseCost b n (Config.frameLength 2 m ast) else 0)

/-- The budget of a port by its rate: 24 000 bytes at 1 Gb/s, 240 000 at 10 Gb/s. -/
def releaseBudget (ten : Bool) : Nat := if ten then 240000 else 24000

/-- Port n runs at 10 Gb/s under a configuration: so set, or so running where its module decides. -/
def runsTen (s : State) (b : List Byte) (n : Nat) : Bool :=
  portSpeed b n == 2 || (portSpeed b n == 0 && bitOf (s.get Reg.netStatusSpeed10) n)

/-- Port n's release fits its budget under three configurations. -/
def releaseFits (s : State) (b ast lsp : List Byte) (n : Nat) : Bool :=
  decide (releaseBytes b ast lsp n ≤ releaseBudget (runsTen s b n))

/-- Port n's release fits its budget under a network configuration. -/
def budgetOk (s : State) (b : List Byte) (n : Nat) : Bool := releaseFits s b (s.conf objAster) (s.conf objLsp) n

/-- The first PORT byte of a UDP stream in an Aster configuration, and the PORTS byte of the publisher in a Larkspur
configuration, under which a port's release exceeds its budget (R263; log entry 171). -/
def astOverBudget (s : State) (ast : List Byte) : Option Nat :=
  ((List.range 16).find? (fun m => pmuEnabled ast m && pmuUdp ast m && (List.range 4).any (fun n =>
    onPort (s.conf objNet) (2 ^ pmuPort ast m) n && !releaseFits s (s.conf objNet) ast (s.conf objLsp) n))).map
      (fun m => astPmuOff m + 8)

def lspOverBudget (s : State) (lsp : List Byte) : Option Nat :=
  if wfPubEnabled lsp && (List.range 4).any (fun n =>
      onPort (s.conf objNet) (wfPubPorts lsp) n && !releaseFits s (s.conf objNet) (s.conf objAster) lsp n) then
    some (lspPubOff + 1)
  else none

/-- The lower of two failing offsets. -/
def firstOf : Option Nat → Option Nat → Option Nat
  | some a, some b => some (min a b)
  | some a, none => some a
  | none, b => b

/-! ### Checks -/

/-- The release of a port that carries no enabled publication fits its budget (R263; log entry 171). -/
def portFits (s : State) (b : List Byte) (n : Nat) : Bool :=
  !(decide (n < 4) && portUsed b n) || (List.range 32).any (fun j => pubEnabled b j && onPort b (pubPorts b j) n) || budgetOk s b n

/-- A port record; where the release of a port with reports or streams alone exceeds the budget, its SPEED fails. -/
def portChecks (s : State) (b : List Byte) (n : Nat) : List (Nat × Bool) :=
  let o := portOff n
  oneOf b o 1 [0, 1] ++ oneOf b (o + 1) 1 (if n = 4 then [3] else [0, 1, 2])
    ++ [(o + 2, decide (portSpeed b n ≤ (if n = 4 then 0 else 2)) && portFits s b n)] ++ inRange b (o + 3) 1 0 (if n = 4 then 1 else 3)
    ++ inRange b (o + 4) 1 0 (if n = 2 ∨ n = 3 then 1 else 0)
    ++ inRange b (o + 5) 1 0 7 ++ [(o + 6, vlanOk (leAt b (o + 6) 2))] ++ inRange b (o + 12) 1 8 30
    ++ resv b (o + 13) 3 ++ resv b (o + 24) 8

/-- A redundant pair; HSR excludes MACsec (R258). -/
def pairChecks (b : List Byte) (p : Nat) : List (Nat × Bool) :=
  let o := pairOff p
  [(o, decide (leAt b o 1 ≤ 2) && !(leAt b o 1 == 2 && portMacsec b (2 * p)))]
    ++ resv b (o + 1) 1 ++ inRange b (o + 2) 2 100 10000 ++ inRange b (o + 4) 2 1000 65535
    ++ inRange b (o + 6) 2 10 1000 ++ resv b (o + 9) 1 ++ [(o + 10, vlanOk (leAt b (o + 10) 2))] ++ resv b (o + 12) 4

/-- A publication (R265); where the release of one of its ports exceeds the budget, its PORTS fails. -/
def pubChecks (s : State) (b : List Byte) (j : Nat) : List (Nat × Bool) :=
  let o := pubOff j
  let on := pubEnabled b j
  oneOf b o 1 [0, 1]
    ++ [(o + 1, decide (pubPorts b j < 16) && (!on || (pubPortsOk b (pubPorts b j) &&
        (List.range 4).all (fun n => !bitOf (pubPorts b j) n || budgetOk s b n))))]
    ++ inRange b (o + 2) 1 0 3 ++ inRange b (o + 3) 1 0 2 ++ inRange b (o + 4) 2 0 0x3FFF
    ++ [(o + 6, vlanOk (leAt b (o + 6) 2)), (o + 8, bitOf (leAt b (o + 8) 1) 0)]
    ++ inRange b (o + 14) 1 0 7 ++ inRange b (o + 15) 1 1 40 ++ inRange b (o + 16) 4 100 60000
    ++ [(o + 28, decide (1 ≤ pubCount b j) && decide (pubCount b j ≤ 128)
        && (!on || decide (Config.frameLength 0 j b ≤ 1522)))]
    ++ resv b (o + 30) 2 ++ asciiOk b (o + 32) 64 ++ asciiOk b (o + 96) 64 ++ asciiOk b (o + 160) 64

/-- A subscription: R279 gives its APPID, DST_MAC and MEMBER_COUNT no range. -/
def gsubChecks (b : List Byte) (i : Nat) : List (Nat × Bool) :=
  let o := gsubOff i
  oneOf b o 1 [0, 1] ++ [(o + 1, decide (gsubPorts b i < 16) &&
      (!gsubEnabled b i || (gsubPorts b i != 0 && (List.range 4).all (fun n => !bitOf (gsubPorts b i) n || portUsed b n))))]
    ++ inRange b (o + 2) 1 0 3 ++ inRange b (o + 3) 1 0 2 ++ [(o + 6, vlanOk (leAt b (o + 6) 2))] ++ resv b (o + 30) 2
    ++ asciiOk b (o + 32) 64 ++ asciiOk b (o + 96) 64 ++ asciiOk b (o + 160) 64

def stationChecks (b : List Byte) (i : Nat) : List (Nat × Bool) :=
  let o := stationOff i
  oneOf b o 1 [0, 1] ++ resv b (o + 1) 3 ++ resv b (o + 23) 1 ++ resv b (o + 25) 3

/-- The checks of a network configuration by rising offset (R280). -/
def netChecks (s : State) (b : List Byte) : List (Nat × Bool) :=
  inRange b 4 1 0 1 ++ resv b 5 11 ++ (List.range 5).flatMap (portChecks s b) ++ (List.range 2).flatMap (pairChecks b)
    ++ (List.range 32).flatMap (pubChecks s b) ++ (List.range 128).flatMap (gsubChecks b)
    ++ (List.range 64).flatMap (stationChecks b)

/-! ### What clashes in RUN (R280) -/

/-- Two records of a configuration differ. -/
def differsAt (x y : List Byte) (off n : Nat) : Bool := (x.drop off).take n != (y.drop off).take n

/-- A port carries a subscription or publication of a configuration. -/
def carries (b : List Byte) (n : Nat) : Bool :=
  (List.range 32).any (fun j => pubEnabled b j && bitOf (pubPorts b j) n)
    || (List.range 128).any (fun i => gsubEnabled b i && bitOf (gsubPorts b i) n)

/-- The configuration changes a port or pair record that carries traffic, or disables a station, subscription or
publication that the active image map reads or writes. -/
def netClash (b : List Byte) (s : State) : Bool :=
  let c := s.conf objNet
  let run := s.prog.state == .run || s.prog.state == .changing
  let stations := match s.prog.active with
    | some u => u.stations.any (fun r => stationEnabled c r.configRef && !stationEnabled b r.configRef)
    | none => false
  run && ((List.range 4).any (fun n =>
      carries c n && (differsAt c b (portOff n) 32 || differsAt c b (pairOff (n / 2)) 16))
    || stations || unitReads s 4 (fun r => gsubEnabled c (r / 256) && !gsubEnabled b (r / 256))
    || unitWrites s 4 (fun r => pubEnabled c (r / 256) && !pubEnabled b (r / 256)))

end Sys2Proof.Machine
end

