-- ==== Sys2Proof/Machine/Aster.lean ====
section
/-! DEFINITION. Aster (06): placing sampled values on the TAI second, streams and batches, the estimate set with its
flags, PMU streams, and the ASTER family. -/

namespace Sys2Proof.Machine

/-- Stream n. -/
def State.str (s : State) (n : Nat) : StreamSt := s.ast.streams.getD n {}

/-- Changes Aster's part of the state. -/
def State.updAst (s : State) (f : AstSt → AstSt) : State := { s with ast := f s.ast }

/-- Changes stream n. -/
def State.updStr (s : State) (n : Nat) (f : StreamSt → StreamSt) : State :=
  s.updAst (fun a => { a with streams := listSet a.streams n f })

/-- Stream states. -/
def strOff : Nat := 0
def strWait : Nat := 1
def strAligned : Nat := 2
def strLost : Nat := 3

/-- AST_STATUS counts the aligned streams (R216). -/
def showAligned (s : State) : State :=
  s.set Reg.astStatusAligned ((List.range 24).filter (fun n => streamAligned s n)).length

/-! ### Quality (R188) -/

/-- The treatment of a quantity's quality word as flags of R204, bit 0 where it is used. Its bits are those of IEC
61850-9-2: validity [1:0] (good, invalid, reserved, questionable), 2 overflow, 3 outOfRange, 4 badReference, 5
oscillatory, 6 failure, 7 oldData, 8 inconsistent, 9 inaccurate, 10 substituted, 11 test, 12 operatorBlocked, 13 derived
(log entry 46). -/
def qualityFlags (q : Nat) (sim acceptSim : Bool) : Nat :=
  let v := q % 4
  let test := sim || bitOf q 11
  if v = 1 || v = 2 || bitOf q 4 || bitOf q 6 || (test && !acceptSim) then 0
  else
    1 + (if v = 3 || bitOf q 5 || bitOf q 7 || bitOf q 8 || bitOf q 9 || bitOf q 10 || bitOf q 12 then 16 else 0)
      + (if bitOf q 13 then 32 else 0) + (if bitOf q 2 || bitOf q 3 then 64 else 0) + (if test then 128 else 0)

/-! ### Samples (R187, R189-R192) -/

/-- The row under a place is inserted in rising order; a place already held stays as it is. -/
def insertRow (r : BatchRow) : List BatchRow → List BatchRow
  | [] => [r]
  | x :: l => if r.place < x.place then r :: x :: l else if r.place = x.place then x :: l else x :: insertRow r l

/-- The rows of the batch frozen at the last cut-off, until a snapshot is selected (11 R352). -/
def frozenRows (s : State) : List BatchRow :=
  match s.prog.frozen with
  | some sn => if s.prog.pool.frame < sn.frame then sn.batch else []
  | none => []

/-- A sample of stream n is already held: it waits for a batch, stands in a frozen one or in one received, or an agreement
has left it out once (12 R384). -/
def holdsPlace (s : State) (n p : Nat) : Bool :=
  (s.str n).waiting.any (fun r => r.place == p) || (s.str n).held.any (fun r => r.place == p)
    || (frozenRows s ++ s.ast.kept.map (·.2)).any (fun r => r.stream == n && r.place == p)

/-- A frame or sample of stream n is rejected (R187, R189). -/
def rejectSv (n : Nat) (s : State) : State := (s.bump (Reg.astStrErrRejectCnt n)).raise Ev.astStreamReject

/-- A usable sample moves its stream (R191): out of LOST, and after 8 in a row to ALIGNED. -/
def streamUsable (n place nom : Nat) (s : State) : State :=
  let k := s.str n
  let run := if place = k.runNext then k.run + 1 else 1
  let st := s.get (Reg.astStrState n)
  let s := s.updStr n (fun k => { k with run := run, runNext := place + 1, lastNom := max k.lastNom nom })
  if st = strLost then (s.updStr n (fun k => { k with run := 1 })).set (Reg.astStrState n) strWait
  else if st = strWait ∧ 8 ≤ run then
    reviewStations (showAligned ((s.set (Reg.astStrState n) strAligned).raise Ev.astStreamAligned))
  else s

/-- A run of missing samples begins with this sample (R216; log entry 157): places were left out before it, or its
smpSynch is unusable, and no run was under way. -/
def gapBegins (k : StreamSt) (place : Nat) (usable : Bool) : Bool :=
  !k.gap && ((k.nextPlace != 0 && decide (k.nextPlace < place)) || !usable)

/-- A sample at its place is accepted (R189): its transit in us is shown, gaps are counted, and it waits for a batch;
with an unusable smpSynch it is missing (R190). -/
def acceptSample (n place nom : Nat) (transitUs : Int) (usable : Bool) (vals : List (Int × Nat)) (s : State) : State :=
  let us := satTo 65535 transitUs.toNat
  let s := ((s.set (Reg.astStrTransitLastUs n) us).maxTo (Reg.astStrTransitMaxUs n) us)
  let s := if gapBegins (s.str n) place usable then s.bump (Reg.astStrErrGapCnt n) else s
  let row : BatchRow := ⟨n, place, usable,
    if usable then vals else vals.map (fun (p : Int × Nat) => (p.1, p.2 / 65536 * 65536))⟩
  let s := s.updStr n (fun k => { k with waiting := insertRow row k.waiting, gap := !usable })
  let s := if usable then touchBlock (0x20000 + n) (streamUsable n place nom s)
    else (s.updStr n (fun k => { k with run := 0 })).raise Ev.astUnsync
  s.updStr n (fun k => { k with nextPlace := max k.nextPlace (place + 1) })

/-- An ASDU of an accepted frame of stream n (R187-R190). -/
def takeAsdu (n : Nat) (f : SvFrame) (s : State) (a : SvAsdu) : State :=
  let b := s.conf objAster
  let rate := strRate b n
  if rate ≤ a.smpCnt || (match a.smpRate with | some r => r != rate | none => false) then rejectSv n s
  else
    let x : Int := (f.arrival * rate : Nat) - ((a.smpCnt * nsPerS : Nat) : Int)
    let unit : Int := ((nsPerS * rate : Nat) : Int)
    let sec := (x + unit / 2) / unit
    let transit := x - sec * unit
    let place := (sec * rate + a.smpCnt).toNat
    let nom := (sec * nsPerS + ((a.smpCnt * nsPerS / rate : Nat) : Int)).toNat
    let s := s.set (Reg.astStrSync n) (match a.smpSynch with | 0 => 0 | 1 => 1 | 2 => 2 | _ => 3)
    if holdsPlace s n place then s
    else if transit < -20000 * (rate : Int) then s.bump (Reg.astStrErrEarlyCnt n)
    else if 100000000 * (rate : Int) < transit then rejectSv n s
    else
      let usable := a.smpSynch == 2 || (a.smpSynch == 1 && strSyncReq b n == 1)
      let vals := (a.vals.zip a.quals).map (fun (p : Int × Nat) => (p.1, qualityFlags p.2 f.sim (strAcceptSim b n) + 65536 * (p.2 % 2 ^ 32)))
      let s := (s.set (Reg.astStrLastSmpcnt n) a.smpCnt).set (Reg.astStrQty n) a.vals.length
      acceptSample n place nom (transit / ((1000 * rate : Nat) : Int)) usable vals s

/-- The stream whose record a frame is held against (R187): on its port, the enabled stream with its DST_MAC and APPID,
else the one with its svID, else with its DST_MAC, else with its APPID (log entry 158). -/
def svStream (s : State) (f : SvFrame) : Option Nat :=
  let b := s.conf objAster
  let l := (List.range 24).filter (fun n => strEnabled b n && onPort (s.conf objNet) (strPorts b n) f.inn.port)
  let sv := (f.svId ++ zeros 32).take 32
  (l.find? (fun n => strMac b n == f.mac && strAppid b n == f.appid)).or
    ((l.find? (fun n => strSvId b n == sv)).or
      ((l.find? (fun n => strMac b n == f.mac)).or (l.find? (fun n => strAppid b n == f.appid))))

/-- A frame agrees with a stream's record, its dataset with QUANTITIES (R187). -/
def svAgrees (b : List Byte) (n : Nat) (f : SvFrame) : Bool :=
  strMac b n == f.mac && strAppid b n == f.appid && f.vlan == strVlan b n
    && (f.svId ++ zeros 32).take 32 == strSvId b n && f.confRev == strConfRev b n
    && f.asdus.all (fun a => a.vals.length == strQty b n && a.quals.length == strQty b n)

/-- An accepted frame of stream n: whether it carries simulation or test is shown, and its ASDUs are taken. -/
def takeSv (n : Nat) (f : SvFrame) (s : State) : State :=
  f.asdus.foldl (takeAsdu n f)
    (s.setBit (Reg.astStrSim n) (f.sim || f.asdus.any (fun a => a.quals.any (fun q => bitOf q 11))))

/-! ### Batches (R192, R195) -/

/-- The grid point that a channel's estimate in E(k) is tagged with (R194). -/
def tagOf (b : List Byte) (c k : Nat) : Int := tagPoint (delayFrames b (chClass b c) (chMfs b c)) k

/-- The places that a channel's window in E(k) covers. -/
def windowOf (b : List Byte) (c k : Nat) : Int × Int := windowAt b c (tagOf b c k)

/-- A sample joins its batch in frame k later than an estimate that needed it (R195). -/
def isLate (b : List Byte) (k : Nat) (r : BatchRow) : Bool :=
  (List.range 8).any (fun q =>
    let c := 8 * r.stream + q
    chEnabled b c && decide ((r.place : Int) ≤ (windowOf b c k).2))

/-- The batch of the cut-off of frame k: at most 8 samples of each stream; late ones are counted. -/
def freezeBatch (k : Nat) (s : State) : List BatchRow × State :=
  let b := s.conf objAster
  (List.range 24).foldl (fun (p : List BatchRow × State) n =>
    let rows := (p.2.str n).waiting.take 8
    let s := p.2.updStr n (fun x => { x with waiting := x.waiting.drop 8 })
    let s := rows.foldl (fun s r =>
      if isLate b k r then (s.bump (Reg.astStrErrLateCnt n)).raise Ev.astLate else s) s
    (p.1 ++ rows, s)) ([], s)

/-- A stream's state as one more row of a batch leaves it (R191). -/
def trackRow (x : Track) (r : BatchRow) : Track :=
  if !r.usable then { x with run := 0 }
  else
    let run := if r.place = x.next then x.run + 1 else 1
    let x : Track := { x with run := run, next := r.place + 1, last := max x.last r.place }
    match x.phase with
    | 3 => { x with
        phase := 1, run := 1
        losts := match x.losts with | (a, _) :: l => (a, some r.place) :: l | [] => [] }
    | 1 => if 8 ≤ run then { x with phase := 2, spans := (r.place + 1, none) :: x.spans } else x
    | _ => x

/-- A stream is found LOST at the cut-off of the frame before k: no usable sample for LOST_FRAMES frames (log entry
159). -/
def trackLost (rate lost k : Nat) (x : Track) : Track :=
  if x.phase = 2 && decide (x.last * nsPerS / rate + lost * frameNs ≤ (k - 1) * frameNs + 225000) then
    { x with
      phase := 3
      spans := match x.spans with | (a, _) :: l => (a, some (x.last + 1)) :: l | [] => []
      losts := (x.last + 1, none) :: x.losts }
  else x

/-- Spans that ended before a place are no longer kept. -/
def trimSpans (p : Nat) (l : List (Nat × Option Nat)) : List (Nat × Option Nat) :=
  l.filter (fun x => match x.2 with | some e => decide (p ≤ e) | none => true)

/-- Aster takes the batch of the snapshot selected for frame k; rows of a self-snapshot frame carry SELF_BATCH. Samples
older than 2 s are no longer kept (log entry 49). -/
def takeBatch (k : Nat) (rows : List BatchRow) (self : Bool) (s : State) : State :=
  let b := s.conf objAster
  let s := rows.foldl (fun s r =>
    let r : BatchRow := if self then { r with vals := r.vals.map (fun (p : Int × Nat) =>
      (p.1, if bitOf p.2 0 then withBit p.2 10 true else p.2)) } else r
    s.updStr r.stream (fun x =>
      let l := insertRow r x.held
      let top := (l.getLast?.map (·.place)).getD 0
      let from' := top - 2 * strRate b r.stream
      let t := trackRow x.track r
      { x with
        held := l.filter (fun y => decide (from' < y.place))
        track := { t with spans := trimSpans from' t.spans, losts := trimSpans from' t.losts } })) s
  (List.range 24).foldl (fun s n =>
    if strEnabled b n then
      s.updStr n (fun x => { x with track := trackLost (strRate b n) (strLostFrames b n) k x.track })
    else s) s

/-! ### The estimate set (R193-R205) -/

/-- The rows of the batches received. -/
def heldRows (s : State) : List BatchRow := s.ast.streams.flatMap (·.held)

/-- The places at which a channel's quantity is used, with their flags, rising. -/
def usedPlaces (s : State) (c : Nat) : List (Nat × Nat) :=
  (s.str (c / 8)).held.filterMap (fun r =>
    match r.vals[c % 8]? with
    | some p => if bitOf p.2 0 then some (r.place, p.2 % 65536) else none
    | none => none)

/-- The missing places of a window that lie in the gaps between used ones, and whether every gap that holds one is at
most 2 long (R196). -/
def gapsIn (lo hi : Int) : List (Nat × Nat) → Nat × Bool
  | a :: b :: l =>
    let r := gapsIn lo hi (b :: l)
    let from' : Int := if (a.1 : Int) + 1 < lo then lo else (a.1 : Int) + 1
    let to' : Int := if hi < (b.1 : Int) - 1 then hi else (b.1 : Int) - 1
    let n := (to' + 1 - from').toNat
    if n = 0 then r else (r.1 + n, r.2 && decide (b.1 - a.1 ≤ 3))
  | _ => (0, true)

/-- Whether a stream was ALIGNED throughout a window, whether the window is not yet full since it became so, and whether
it touches a time in which the stream was LOST (R191, R204, R205). -/
def trackCheck (x : Track) (lo hi : Int) : Bool × Bool × Bool :=
  let aligned := x.spans.any (fun p => decide ((p.1 : Int) ≤ lo)
    && (match p.2 with | some e => decide (hi < (e : Int)) | none => true))
  let settling := !aligned && (match x.spans with
    | (a, none) :: _ => decide (lo < (a : Int))
    | (_, some _) :: _ => false
    | [] => true)
  let lost := x.losts.any (fun p => decide ((p.1 : Int) ≤ hi)
    && (match p.2 with | some e => decide (lo ≤ (e : Int)) | none => true))
  (aligned, settling, lost)

/-- What the batches say of a channel's window about grid point g: whether its estimate is VALID as far as they go, and
its flags without VALID (R196, R204, R205). -/
def windowCheck (s : State) (c : Nat) (g : Int) : Bool × Nat :=
  let b := s.conf objAster
  let w := windowAt b c g
  let used := usedPlaces s c
  let gap := gapsIn w.1 w.2 used
  let whole := used.any (fun p => decide ((p.1 : Int) ≤ w.1)) && used.any (fun p => decide (w.2 ≤ (p.1 : Int)))
    && gap.2 && decide (gap.1 ≤ 8)
  let ors := (used.filter (fun p => decide (w.1 ≤ (p.1 : Int)) && decide ((p.1 : Int) ≤ w.2))).foldl
    (fun m p => m ||| p.2) 0
  let t := trackCheck (s.str (c / 8)).track w.1 w.2
  let h : Int := (halfPoints (astF0 b) (cyclesOf (astF0 b) (chClass b c) (chMfs b c)) : Int)
  let settling := t.2.1 || decide ((g - h) * 125000 < 6 * (s.ast.chSettle.getD c 0 : Int))
  let slewing := s.ast.slews.any (fun f =>
    decide (g - h < ((12 * (f + 1) : Nat) : Int)) && decide (((12 * f : Nat) : Int) ≤ g + h))
  let cls := leAt s.prog.pool.timeRec 8 1
  let flags := withBit ors 0 false ||| (if t.2.2 then 4 else 0) ||| (if 0 < gap.1 then 8 else 0)
    ||| (if settling then 512 else 0) ||| (if slewing then 2048 else 0) ||| (cls % 16 * 4096)
  (whole && t.1 && !t.2.2 && !settling, flags)

/-- An estimate is replaced: a VALID one takes its values, any other holds the last ones and ages (R205). -/
def putEst (e : EstSt) (valid : Bool) (flags : Nat) (v : Nat × Nat) : EstSt :=
  if valid then ⟨v.1, v.2, flags + 1, 0⟩ else ⟨e.a, e.b, flags, satTo 65535 (e.age + 1)⟩

/-- A source of a reference has VALID estimates, and its flags. -/
def sourceCheck (chk : List (Bool × Nat)) (b : List Byte) (r src : Nat) : Bool × Nat :=
  let l := (sourceChans b r src).map (fun c => chk.getD c (false, 0))
  (l.all (·.1), l.foldl (fun m p => m ||| p.2) 0)

/-- The filter bank of reference r in frame k on a source that is VALID (R201): psi and f are noted once the window is full
since a change of the record (R214), f_t follows f, and moves 2 Hz where an outer demodulator exceeded the middle one in 8 frames in a row. ROCOF comes beside. -/
def trackFreq (b : List Byte) (rows : List BatchRow) (k r src : Nat) (fresh : Bool) (x : RefSt) :
    RefSt × Option Nat × Option Nat :=
  let g := tagPoint (delayFrames b (refClass b r) (refMfs b r)) k
  let z := bankOut b rows r src x.ft g 0
  let psi := psiOf b r g z
  let f := (notedAt x.psis (k - mfOf (refClass b r))).map
    (fun was => freqOf (astF0 b) (mfOf (refClass b r)) psi was)
  let rocof := f.bind (fun f => (notedAt x.freqs (k - mrOf (refClass b r))).map
    (fun was => rocofOf (mrOf (refClass b r)) f was))
  let below := if Config.numLt (cxAbs z) (cxAbs (bankOut b rows r src x.ft g (-1))) then x.below + 1 else 0
  let above := if Config.numLt (cxAbs z) (cxAbs (bankOut b rows r src x.ft g 1)) then x.above + 1 else 0
  let ft := match f with | some f => clampFt (astF0 b) f | none => x.ft
  let ft := if 8 ≤ below then Config.numSub ft (nInt 2) else ft
  let ft := if 8 ≤ above then Config.numAdd ft (nInt 2) else ft
  ({ x with
      ft := ft, below := below, above := above
      psis := if fresh then [] else ((k, psi) :: x.psis).take 200
      freqs := if fresh then [] else match f with | some f => ((k, f) :: x.freqs).take 200 | none => x.freqs }, f, rocof)

/-- AST_REFr shows reference r (R216): f - F0 in uHz and ROCOF in mHz/s of the latest E(k). -/
def showRef (b : List Byte) (r : Nat) (valid oor fb settling : Bool) (e : EstSt) (s : State) : State :=
  let s := ((s.setBit (Reg.astRefStateValid r) valid).setBit (Reg.astRefStateOor r) oor).setBit
    (Reg.astRefStateFallback r) fb
  let s := (s.setBit (Reg.astRefStateSettling r) settling).set (Reg.astRefStateAge r) e.age
  if valid then
    (s.setInt (Reg.astRefFreqDf r)
      (numRound (nScale (Config.numSub (Config.numOfReal e.a) (nInt (astF0 b))) 1000000 1))).setInt
      (Reg.astRefRocofRf r) (numRound (nScale (Config.numOfReal e.b) 1000 1))
  else s

/-- Reference r in E(k) (R201, R202): the source in use, the settling after a change of source or of the record, frequency
and ROCOF; the direction of a slew is that of the frame's snapshot (log entry 192). -/
def estimateRef (onTime : Bool) (rows : List BatchRow) (chk : List (Bool × Nat)) (k : Nat) (s : State) (r : Nat) :
    State :=
  let b := s.conf objAster
  if !refEnabled b r then s
  else
    let x := s.ast.refs.getD r {}
    let n := mfOf (refClass b r) + mrOf (refClass b r)
    let prim := sourceCheck chk b r (refPrimary b r)
    let primRun := if prim.1 then x.primRun + 1 else 0
    let fb := refFallback b r != 0xFF && (if x.fallback then decide (primRun < n) else !prim.1)
    let used := if fb then refFallback b r else refPrimary b r
    let src := if fb then sourceCheck chk b r used else prim
    let settle := if fb != x.fallback then n else x.settle - 1
    let h : Int := (halfPoints (astF0 b) (cyclesOf (astF0 b) (refClass b r) (refMfs b r)) : Int)
    let g := tagPoint (delayFrames b (refClass b r) (refMfs b r)) k
    let fresh := decide ((g - h) * 125000 < 6 * (s.ast.refSettle.getD r 0 : Int))
    let t : RefSt × Option Nat × Option Nat := if src.1 then trackFreq b rows k r used fresh x
      else ({ x with ft := nInt (astF0 b), below := 0, above := 0 }, none, none)
    let oor := match t.2.1 with | some f => outOfRange (astF0 b) f | none => false
    let slew := bitOf (leAt s.prog.pool.timeRec 9 1) 0
    let real (v : Option Nat) : Nat := Config.numToReal (toReal slew s.prog.pool.slewBack (v.getD (nInt 0)))
    let valid := src.1 && t.2.1.isSome && t.2.2.isSome && settle == 0 && !fresh && onTime
    let flags := src.2 ||| (if oor then 256 else 0) ||| (if settle ≠ 0 || fresh then 512 else 0)
    let e := putEst x.est valid flags (real t.2.1, real t.2.2)
    let was := s.on (Reg.astRefStateOor r)
    let s := s.updAst (fun a => { a with
      refs := listSet a.refs r (fun _ => { t.1 with
        est := e, fallback := fb, primRun := primRun, settle := settle, ftUsed := x.ft }) })
    (showRef b r valid oor fb (settle != 0) e s).raiseIf (oor && !was) Ev.astFreqOor

/-- The compensated phasor of channel c about a grid point. -/
def chanPhasor (s : State) (rows : List BatchRow) (c : Nat) (g : Int) : Nat × Nat :=
  let b := s.conf objAster
  phasorAt b rows c (s.ast.refs.getD (chRef b c) {}).ft g

/-- A number pair as REALs. -/
def asReals (v : Nat × Nat) : Nat × Nat := (Config.numToReal v.1, Config.numToReal v.2)

/-- A channel's flags with FREQ_OOR of its reference (R202). -/
def withOor (s : State) (c flags : Nat) : Nat :=
  flags ||| (if s.on (Reg.astRefStateOor (chRef (s.conf objAster) c)) then 256 else 0)

/-- Channel c in E(k), demodulated at the f_t in use in frame k, which `s0` holds. -/
def estimateChan (s0 : State) (onTime : Bool) (rows : List BatchRow) (chk : List (Bool × Nat)) (k : Nat) (s : State)
    (c : Nat) : State :=
  let b := s.conf objAster
  if !chEnabled b c then s
  else
    let w := chk.getD c (false, 0)
    let v := asReals (chanPhasor s0 rows c (tagOf b c k))
    s.updAst (fun a => { a with chans := listSet a.chans c (fun e => putEst e (w.1 && onTime) (withOor s c w.2) v) })

/-- Component i of set j about a grid point (R203). -/
def setPhasor (s : State) (rows : List BatchRow) (j i : Nat) (g : Int) : Nat × Nat :=
  let b := s.conf objAster
  let p (n : Nat) : Nat × Nat := chanPhasor s rows (setChan b j n) g
  componentOf i (p 0) (p 1) (p 2)

/-- The components of set j in E(k) (R203). -/
def estimateSet (s0 : State) (onTime : Bool) (rows : List BatchRow) (k : Nat) (s : State) (j : Nat) : State :=
  let b := s.conf objAster
  if !setEnabled b j then s
  else
    let e (i : Nat) : EstSt := s.ast.chans.getD (setChan b j i) {}
    let c := setChan b j 0
    let h : Int := (halfPoints (astF0 b) (cyclesOf (astF0 b) (chClass b c) (chMfs b c)) : Int)
    let settling := decide ((tagOf b c k - h) * 125000 < 6 * (s.ast.setSettle.getD j 0 : Int))
    let valid := bitOf (e 0).flags 0 && bitOf (e 1).flags 0 && bitOf (e 2).flags 0 && onTime && !settling
    let flags := withBit ((e 0).flags ||| (e 1).flags ||| (e 2).flags) 0 false ||| (if settling then 512 else 0)
    (List.range 3).foldl (fun s i =>
      let v := asReals (setPhasor s0 rows j i (tagOf b c k))
      s.updAst (fun a => { a with comps := listSet a.comps (3 * j + i) (fun x => putEst x valid flags v) })) s

/-- REFS_VALID shows the references with VALID frequency (R216). -/
def showRefs (s : State) : State :=
  s.set Reg.astStatusRefsValid (bitmap 8 (fun r => s.on (Reg.astRefStateValid r)))

/-- E(k) is formed (R193), from the batches up to the cut-off of frame k - 1. -/
def formEstimates (onTime : Bool) (s : State) : State :=
  let k := frameIndex s.now
  let rows := heldRows s
  let slew := bitOf (leAt s.prog.pool.timeRec 9 1) 0
  let s := s.updAst (fun a => { a with estFrame := k, slews := if slew then (k :: a.slews).take 4000 else a.slews })
  let b := s.conf objAster
  let chk := (List.range 192).map (fun c => if chEnabled b c then windowCheck s c (tagOf b c k) else (false, 0))
  let s0 := s
  let s := (List.range 8).foldl (estimateRef onTime rows chk k) s
  let s := (List.range 192).foldl (estimateChan s0 onTime rows chk k) s
  showRefs ((List.range 64).foldl (estimateSet s0 onTime rows k) s)

/-! ### Image items (R206) -/

/-- An estimate as its 16-byte record. -/
def estBytes (e : EstSt) (delay : Nat) : List Byte :=
  leBytes 4 e.a ++ leBytes 4 e.b ++ leBytes 4 e.flags ++ leBytes 2 e.age ++ leBytes 2 delay

/-- The channel that gives an SRC_KIND 0x01 item its window. -/
def astItemChan (b : List Byte) (ref : Nat) : Nat := if ref / 256 = 0 then ref % 256 else setChan b (ref % 256) 0

/-- The estimate of an SRC_KIND 0x01 item. -/
def astItemEst (s : State) (ref : Nat) : EstSt :=
  if ref / 256 = 0 then s.ast.chans.getD (ref % 256) {}
  else s.ast.comps.getD (3 * (ref % 256) + (ref / 256 - 1)) {}

/-- The value of an Aster item in the snapshot. -/
def asterItem (s : State) (kind ref : Nat) : List Byte :=
  let b := s.conf objAster
  if kind = 1 then
    let c := astItemChan b ref
    estBytes (astItemEst s ref) (delayFrames b (chClass b c) (chMfs b c) + 1)
  else
    estBytes (s.ast.refs.getD ref {}).est
      (delayFrames b (refClass b ref) (refMfs b ref) + 1 + mfOf (refClass b ref) / 2)

/-! ### PMU streams (R207-R212) -/

/-- AST_PMUn shows what the module does with each stream (R212, R216). -/
def showPmus (s : State) : State :=
  let b := s.conf objAster
  (List.range 16).foldl (fun s n =>
    let en := pmuEnabled b n
    let held := en && !pmuPlain b n && !macsecActive s (pmuPort b n)
    let s := (s.setBit (Reg.astPmuOutsideTested n) (en && !rateTested (astF0 b) (pmuFs b n))).setBit
      (Reg.astPmuNoMacsec n) held
    s.setBit (Reg.astPmuSending n) (en && s.on (Reg.astPmuOn n) && !held &&
      (if pmuUdp b n then s.held else s.get (Reg.astPmuClients n) != 0))) s

/-- The index of the report that frame k evaluates, with its second (R209): the last one whose instant plus h plus A
frames lies at or before T0(k), where it lay after T0(k - 1). -/
def dueReport (b : List Byte) (n k : Nat) : Option (Nat × Nat) :=
  let fs := rateOf (pmuFs b n)
  let f2 := 2 * astF0 b
  let h := cyclesOf (astF0 b) (pmuClass b n) (pmuFs b n) * nsPerS
  let at' (k : Nat) : Int :=
    (((k * frameNs : Nat) : Int) * f2 - h - ((astAlign b * frameNs * f2 : Nat) : Int)) * fs / ((nsPerS * f2 : Nat) : Int)
  let i := at' k
  if fs = 0 ∨ i < 0 ∨ i = at' (k - 1) then none else some (i.toNat % fs, i.toNat / fs)

/-- SOC (R210): TAI less TAI-UTC, else less TIME_CONFIG.TAI_UTC, else less 37. -/
def socOf (s : State) (sec : Nat) : Nat :=
  let cfg := leAt s.time.cfg 38 2
  sec - (if s.on Reg.timTaiUtcKnown then s.get Reg.timTaiUtcOffset else if cfg ≠ 0xFFFF then cfg else 37)

/-- The 4-bit time quality code (R210). -/
def msgTq (s : State) : Nat :=
  let e := s.get Reg.timEstErrErr
  if s.get Reg.timStatusClass = 5 || s.on Reg.timStatusFault || !s.on Reg.timTaiUtcKnown then 15
  else match (List.range 11).find? (fun n => decide (e ≤ 10 ^ n)) with
    | some n => n + 1
    | none => 15

/-- FRACSEC with its time quality flags: leap direction, occurred and pending in bits 30 to 28 of the word, as C37.118.2
places them (log entry 50). -/
def fracSec (s : State) (b : List Byte) (n i : Nat) : Nat :=
  let fs := rateOf (pmuFs b n)
  let f := if pmuTb b n = 0 then i * 12000000 / fs else (i * 1000000 * 2 + fs) / (2 * fs)
  let l61 := s.on Reg.timTaiUtcLeap61
  let l59 := s.on Reg.timTaiUtcLeap59
  f % 2 ^ 24 + 2 ^ 24 * (msgTq s + (if l61 || l59 then 16 else 0) + (if l59 then 64 else 0))

/-- One code per decade (R211). -/
def decades : List Nat := [100, 1000, 10000, 100000, 1000000, 10000000]

/-- The references with the f_t of E(k), which forming it has replaced (R201). -/
def withUsedFt (s : State) : State :=
  if s.ast.estFrame = frameIndex s.now then
    s.updAst (fun a => { a with refs := a.refs.map (fun (x : RefSt) => { x with ft := x.ftUsed }) })
  else s

/-- An item evaluated at a grid point that is no frame boundary (R209), as an estimate. -/
def itemAt (s : State) (rows : List BatchRow) (ref : Nat) (g : Int) : EstSt :=
  let b := s.conf objAster
  let cs := if ref / 256 = 0 then [ref % 256] else (List.range 3).map (setChan b (ref % 256))
  let chk := cs.map (fun c => let w := windowCheck s c g; (w.1, withOor s c w.2))
  let valid := chk.all (·.1)
  let v := asReals (if ref / 256 = 0 then chanPhasor s rows ref g else setPhasor s rows (ref % 256) (ref / 256 - 1) g)
  ⟨v.1, v.2, withBit (chk.foldl (fun m p => m ||| p.2) 0) 0 valid, 0⟩

/-- The estimates that report i of stream n in second sec carries: those of E(k) where its instant is a frame boundary
(R209). -/
def pmuEsts (s : State) (b : List Byte) (n i sec : Nat) : List EstSt :=
  let fs := rateOf (pmuFs b n)
  let rows := heldRows s
  (List.range (pmuCount b n)).map (fun j =>
    if i * 4000 % fs = 0 then astItemEst s (pmuPhasor b n j)
    else itemAt (withUsedFt s) rows (pmuPhasor b n j) ((sec * 48000 + i * 48000 / fs : Nat) : Int))

/-- STAT (R211). -/
def statOf (s : State) (b : List Byte) (n : Nat) (es : List EstSt) (clamped : Bool) : Nat :=
  let bad := !s.on (Reg.astRefStateValid (pmuRef b n)) || es.all (fun e => !bitOf e.flags 0)
  let err := if bad then 3 else if es.any (fun e => bitOf e.flags 7) then 2 else 0
  let sync := decide (3 ≤ s.get Reg.timStatusClass) || s.on Reg.timStatusFault
  let chg := (s.ast.pmus.getD n {}).changedAt
  let e := s.get Reg.timEstErrErr
  let q := match (List.range 6).find? (fun i => decide (e < decades.getD i 0)) with
    | some i => i + 1
    | none => 7
  let h := s.get Reg.timHoldTimeSec
  let unl := if h < 10 then 0 else if h < 100 then 1 else if h < 1000 then 2 else 3
  err * 2 ^ 14 + (if sync then 2 ^ 13 else 0)
    + (if chg ≠ 0 && s.mono < chg - 1 + 60 * nsPerS then 2 ^ 10 else 0)
    + (if clamped || es.any (fun e => bitOf e.flags 3) then 2 ^ 9 else 0) + q * 64 + unl * 16

/-- An estimate as the two words of its phasor and whether one was clamped; where it is not VALID, NaN or 0x8000 in each
component. -/
def estWords (format scale : Nat) (e : EstSt) : Nat × Nat × Bool :=
  if bitOf e.flags 0 then phasorWords format scale (Config.numOfReal e.a) (Config.numOfReal e.b)
  else
    let x := if bitOf format 1 then FClass.f32.nan else 0x8000
    (x, x, false)

/-- A report of stream n: IDCODE, SOC, FRACSEC, STAT, FREQ, DFREQ and the phasors (R209-R211). -/
def pmuReport (s : State) (n i sec : Nat) : List Nat :=
  let b := s.conf objAster
  let es := pmuEsts s b n i sec
  let ph := (List.range es.length).map (fun j =>
    estWords (pmuFormat b n) (chScale b (itemChan b (pmuPhasor b n j))) (es.getD j {}))
  let r := (s.ast.refs.getD (pmuRef b n) {}).est
  let fq := freqWords (pmuFormat b n) (astF0 b) r.a r.b
  [pmuId b n, socOf s sec, fracSec s b n i, statOf s b n es (ph.any (fun p => p.2.2)), fq.1, fq.2]
    ++ ph.flatMap (fun p => [p.1, p.2.1])

/-- A configuration frame of stream n (R207, R210, R211): TIME_BASE, one PMU block with its STN, IDCODE, FORMAT, phasor,
analogue and digital counts, CHNAM and PHUNIT of every phasor, the nominal frequency and the rate. An item of a set has
the names and units of its channel a (log entry 50). -/
def pmuConfig (b : List Byte) (n : Nat) : List Nat :=
  let items := (List.range (pmuCount b n)).map (fun j => itemChan b (pmuPhasor b n j))
  [if pmuTb b n = 0 then 12000000 else 1000000, 1] ++ (pmuStn b n).map (·.toNat)
    ++ [pmuId b n, pmuFormat b n, pmuCount b n, 0, 0]
    ++ items.flatMap (fun c => (chName b c).map (·.toNat))
    ++ items.map (fun c => (if chKind b c = 0 then 2 ^ 24 else 0) + phUnit (chScale b c) % 2 ^ 24)
    ++ [astF0 b, rateOf (pmuFs b n)]

/-- The reports that leave in the frame (R209): UDP streams only from the owner, to DEST_IP:STREAM_PORT, TCP streams to
the connected clients. -/
def sendReports (udp : Bool) (s : State) : State :=
  let b := s.conf objAster
  let k := frameIndex s.now
  (List.range 16).foldl (fun s n =>
    if s.on (Reg.astPmuSending n) && (udp || !pmuUdp b n) then
      match dueReport b n k with
      | some (i, sec) =>
        let way := if pmuUdp b n then [pmuDest b n, pmuStreamPort b n] else []
        netTx (pmuPort b n) "C37.118 data" (way ++ pmuReport s n i sec) s
      | none => s
    else s) s

/-! ### Applying a configuration (R191, R214) -/

/-- Two records of a configuration differ. -/
def recDiffers (x y : List Byte) (off n : Nat) : Bool := (x.drop off).take n != (y.drop off).take n

/-- A stream whose record changes goes OFF, then WAIT if it is still enabled, its buffer cleared. -/
def applyStream (old b : List Byte) (s : State) (n : Nat) : State :=
  if recDiffers old b (astStreamOff n) 64 then
    ((s.updStr n (fun _ => {})).setReg (Reg.astStrState n).addr 0#32).set (Reg.astStrState n)
      (if strEnabled b n then strWait else strOff)
  else s

/-- References that are no longer enabled show nothing, and estimates of items that are not are gone. -/
def dropItems (b : List Byte) (s : State) : State :=
  let s := s.updAst (fun a => { a with
    chans := (List.range 192).map (fun c => if chEnabled b c then a.chans.getD c {} else {})
    comps := (List.range 192).map (fun i => if setEnabled b (i / 3) then a.comps.getD i {} else {})
    refs := (List.range 8).map (fun r => if refEnabled b r then a.refs.getD r {} else {}) })
  showRefs ((List.range 8).foldl (fun s r =>
    if refEnabled b r then s
    else ((s.setReg (Reg.astRefStateValid r).addr 0#32).setReg (Reg.astRefFreqDf r).addr 0#32).setReg
      (Reg.astRefRocofRf r).addr 0#32) s)

/-- A configuration takes effect from frame k on: channels, sets and references whose records change settle from its T0, and
a reference begins afresh. -/
def astApply (k : Nat) (b : List Byte) (s : State) : State :=
  let old := s.conf objAster
  let head := recDiffers old b 0 2
  let s := putConf objAster b s
  let s := dropItems b ((List.range 24).foldl (applyStream old b) s)
  let t := k * frameNs
  let keep (l : List Nat) (off : Nat → Nat) (n : Nat) : List Nat :=
    (List.range l.length).map (fun i => if head || recDiffers old b (off i) n then t else l.getD i 0)
  let m := s.mono
  let s := s.updAst (fun a => { a with
    chSettle := keep a.chSettle astChanOff 40, setSettle := keep a.setSettle astSetOff 8
    refSettle := keep a.refSettle astRefOff 8
    refs := (List.range 8).map (fun r =>
      let x := a.refs.getD r {}
      if head || recDiffers old b (astRefOff r) 8 then { est := x.est } else x)
    pmus := (List.range 16).map (fun n =>
      if head || recDiffers old b (astPmuOff n) 112 then ⟨m + 1⟩ else a.pmus.getD n {}) })
  let s := (List.range 16).foldl (fun s n => s.setBit (Reg.astPmuOn n) (pmuEnabled b n && pmuStartOn b n)) s
  let s := (s.set Reg.astCfgRevRev (leAt b 4 4)).setBit Reg.astStatusF060 (astF0 b == 60)
  let s := s.setBit Reg.astStatusActive ((List.range 24).any (strEnabled b))
  reviewStations (showPmus (showAligned (s.raise Ev.astConfigApplied)))

/-- A per-domain reset of FABRIC returns every enabled stream to WAIT (R216). -/
def astDomainReset (s : State) : State :=
  let b := s.conf objAster
  reviewStations (showAligned ((List.range 24).foldl (fun s n =>
    if strEnabled b n then (s.updStr n (fun _ => {})).set (Reg.astStrState n) strWait else s) s))

/-! ### C37.118.2 clients (R207) -/

/-- C37118_CLIENT_CONNECT: up to 4 clients per TCP stream. -/
def execC37118ClientConnect (stream : Nat) (s : State) : Out :=
  .next (
    let b := s.conf objAster
    if stream < 16 && pmuEnabled b stream && !pmuUdp b stream && s.get (Reg.astPmuClients stream) < 4 then
      showPmus (s.wrapUp (Reg.astPmuClients stream))
    else netTx (pmuPort b stream) "TCP refused" [stream] s)

/-- C37118_CLIENT_CLOSE. -/
def execC37118ClientClose (stream : Nat) (s : State) : Out :=
  .next (
    if stream < 16 && s.get (Reg.astPmuClients stream) ≠ 0 then
      showPmus (s.set (Reg.astPmuClients stream) (s.get (Reg.astPmuClients stream) - 1))
    else s)

/-- C37118_COMMAND: a client of a TCP stream turns transmission off or on, or asks for the header or a configuration
frame; every other command is ignored. -/
def execC37118Command (stream client cmd : Nat) (s : State) : Out :=
  .next (
    let b := s.conf objAster
    if 16 ≤ stream || !pmuEnabled b stream || pmuUdp b stream || s.get (Reg.astPmuClients stream) ≤ client then s
    else
      let answer (kind : String) (d : List Nat) : State :=
        netTx (pmuPort b stream) kind ([pmuId b stream, client] ++ d) s
      match cmd with
      | 1 => showPmus (s.setBit (Reg.astPmuOn stream) false)
      | 2 => showPmus (s.setBit (Reg.astPmuOn stream) true)
      | 3 => answer "C37.118 header" ((pmuStn b stream).map (·.toNat))
      | 4 => answer "C37.118 CFG-1" (pmuConfig b stream)
      | 5 => answer "C37.118 CFG-2" (pmuConfig b stream)
      | 6 => answer "C37.118 CFG-3" (pmuConfig b stream)
      | _ => s)

/-! ### The ASTER family (R215) -/

/-- The word at a field's register, as 4 bytes. -/
def fieldReg (s : State) (f : Fld) : List Byte := leBytes 4 (s.reg f.addr).toNat

/-- ASTER.GET_STATUS: 200 bytes. -/
def execAsterGetStatus (r : Req) (s : State) : Out :=
  .next (serve 12 1 r noPayload (fun s => .ok s (fieldReg s Reg.astStatusAligned ++ fieldReg s Reg.astCfgRevRev
    ++ (List.range 24).flatMap (fun n => fieldReg s (Reg.astStrState n))
    ++ (List.range 8).flatMap (fun n => fieldReg s (Reg.astRefStateValid n))
    ++ (List.range 16).flatMap (fun n => fieldReg s (Reg.astPmuOn n)))) s)

/-- ASTER.GET_CONFIG. -/
def execAsterGetConfig (r : Req) (s : State) : Out :=
  .next (serve 12 2 r noPayload (fun s => .ok s (s.conf objAster)) s)

/-- ASTER.SET_CONFIG (R214). -/
def execAsterSetConfig (r : Req) (s : State) : Out :=
  .next (setConfig 12 objAster r (fun b => firstOf (firstBad (astChecks b)) (astOverBudget s b)) astClash s)

/-- The records of a selection of the latest E(k). -/
def phasorRecords (s : State) (sel first n : Nat) : List Byte :=
  (List.range n).flatMap (fun i =>
    let j := first + i
    match sel with
    | 0 => estBytes (s.ast.chans.getD j {}) 0
    | 1 => (List.range 3).flatMap (fun m => estBytes (s.ast.comps.getD (3 * j + m) {}) 0)
    | _ => estBytes (s.ast.refs.getD j {}).est 0)

/-- ASTER.GET_PHASORS: the tag is that of the first record's item in E(k) (log entry 51). -/
def execAsterGetPhasors (r : Req) (s : State) : Out :=
  .next (serve 12 4 r (exactly 4) (fun s =>
    let sel := leAt r.payload 0 1
    let first := leAt r.payload 1 1
    let n := leAt r.payload 2 1
    let lim := match sel with | 0 => 192 | 1 => 64 | _ => 8
    match firstBad ([(0, decide (sel ≤ 2)), (1, decide (first ≤ lim)), (2, decide (first + n ≤ lim))]
        ++ resv r.payload 3 1) with
    | some d => .err s stOutOfRange d
    | none =>
      let b := s.conf objAster
      let d := match sel with
        | 0 => delayFrames b (chClass b first) (chMfs b first)
        | 1 => delayFrames b (chClass b (setChan b first 0)) (chMfs b (setChan b first 0))
        | _ => delayFrames b (refClass b first) (refMfs b first)
      .ok s (timeBytes ((s.ast.estFrame - d) * frameNs) ++ zeros 6 ++ phasorRecords s sel first n)) s)

/-- PMU streams are turned on and off by a mask. -/
def setStreaming (mask on : Nat) (s : State) : State :=
  let b := s.conf objAster
  showPmus ((List.range 16).foldl (fun s n =>
    if bitOf mask n && pmuEnabled b n then s.setBit (Reg.astPmuOn n) (bitOf on n) else s) s)

/-- SET_STREAMING waits for the frame the owner named (04 R139). -/
def pendStreaming (f mask on : Nat) (s : State) : State :=
  s.updAst (fun a => { a with next := a.next ++ [(f, mask, on)] })

/-- The SET_STREAMING commands whose frame is reached apply. -/
def streamingDue (k : Nat) (s : State) : State :=
  let due := s.ast.next.filter (fun p => p.1 ≤ k)
  due.foldl (fun s p => setStreaming p.2.1 p.2.2 s)
    (s.updAst (fun a => { a with next := a.next.filter (fun p => k < p.1) }))

/-- ASTER.SET_STREAMING: the owner names a frame, from which every member applies it to the next reporting instant it
evaluates. -/
def execAsterSetStreaming (r : Req) (s : State) : Out :=
  .next (serve 12 5 r (exactly 4) (fun s =>
    if !takesGroup s then conflict s
    else
      let m := leAt r.payload 0 2
      let on := leAt r.payload 2 2
      let f := nameFrame s
      .ok (toPeers "FORWARD" [1, f, m, on] (pendStreaming f m on s)) []) s)

/-- ESTIMATE_SET_COMPLETE: Aster completes E(k) the given time after T0(k). After T0+200 us it sets PROC_LATE, no item
is VALID, and the late fixed hardware is class 0x06 (R205, 13 R407). -/
def execEstimateSetComplete (ns : Nat) (s : State) : Out :=
  .next (
    let s := toPhase ns s
    if ns ≤ 200000 then formEstimates true s
    else if s.ast.estFrame = frameIndex s.now then s
    else fail 0x06 0xFF 0xFF true (((formEstimates false s).raise Ev.astProcLate).raise Ev.lckLate))

end Sys2Proof.Machine
end

