-- ==== Sys2Proof/Machine/LspLanes.lean ====
section
/-! DEFINITION. The lanes of Larkspur and what the group processors make of their samples (07 R217-R228, R242): mark
edges, characters and pairs, the raw ring, the filter and the modes, the noise floor and the fit of an onset. -/

namespace Sys2Proof.Machine

/-- Changes Larkspur's part of the state. -/
def State.updLsp (s : State) (f : LspSt → LspSt) : State := { s with lsp := f s.lsp }

/-! ### Mark edges (R218, R223, R224) -/

/-- The instant of a TIME cycle in thirds of a ns of the OCXO's time: a cycle is 2 ns, a period of LSP_CLK 25 thirds. -/
def cycleThirds (c : Nat) : Nat := 6 * c

/-- The first multiple of `step` beyond `base` that lies at or after t. -/
def firstFrom (base step t : Nat) : Nat := base + (t - base + step - 1) / step * step

/-- The mark edge of the frame that the last tick began: the first rising edge of LSP_CLK at or after it that lies a
whole multiple of 10 periods after the previous mark edge (R218). -/
def nextEdge (s : State) : Nat :=
  let t := cycleThirds s.time.tickCycle
  match s.lsp.edge with
  | some e => firstFrom e 250 t
  | none => firstFrom (Config.lspPhase % 25) 25 t

/-- A slew nanosecond fell between the last tick and an edge (R39). -/
def slewBefore (s : State) (e : Nat) : Bool :=
  decide (s.time.tickCycle < s.time.slewCycle) && decide (cycleThirds s.time.slewCycle ≤ e)

/-- The module time of an edge in ps (R224). -/
def edgeTime (s : State) (e : Nat) : Nat :=
  let t := s.time.tickAt * 1000 / 4294967296 + (e - cycleThirds s.time.tickCycle) * 1000 / 3
  if !slewBefore s e then t else if s.time.slewUp then t + 1000 else t - 1000

/-- N of the frame that an edge ends: twice the 10-period intervals since the previous edge (R223). -/
def samplesTo (s : State) (e : Nat) : Nat := match s.lsp.edge with | some p => 2 * ((e - p) / 250) | none => 0

/-- t_S of lane frame k, t_S(k + 1) - t_S(k) in ps and N(k) (R224). While the edge that ends the frame has not come, those
of the frame before stand for them, and 250 us and 6000 where there is none (log entry 165). -/
def lineOf (marks : List MarkRec) (k : Nat) : Nat × Nat × Nat :=
  let at' (j : Nat) : Option MarkRec := marks.find? (fun m => m.frame == j)
  match at' k, at' (k + 1), at' (k - 1) with
  | some a, some b, _ => (a.tS, b.tS - a.tS, b.count)
  | some a, none, some z => if a.count = 0 then (a.tS, 250000000, 6000) else (a.tS, a.tS - z.tS, a.count)
  | some a, none, none => (a.tS, 250000000, 6000)
  | none, _, _ => (k * 250000000, 250000000, 6000)

/-- t_raw of sample n of lane frame k in ps (R224). -/
def sampleTime (marks : List MarkRec) (k n : Nat) : Nat :=
  let l := lineOf marks k
  l.1 + n * l.2.1 / l.2.2

/-! ### Characters (R220, R221) -/

/-- The byte of a data character. -/
def charByte : LaneChar → Option Nat
  | .data b => some b.toNat
  | _ => none

/-- The number of ones of a number below 2^n. -/
def onesIn (n x : Nat) : Nat := ((List.range n).filter (fun i => bitOf x i)).length

/-- One sample of a pair from its two characters and, in an unmarked pair, its flags: the sample as it is stored, and
whether its parity fails. -/
def laneSample (locked : Bool) (hi lo : LaneChar) (flags : Option Nat) (given : Nat) : LaneSample × Bool :=
  match charByte hi, charByte lo with
  | some h, some l =>
    let v := h * 256 + l
    match flags with
    | some f =>
      let odd := (onesIn 16 v + onesIn 4 f) % 2 == 1
      (⟨if locked && odd then v else 0x8000, f / 2⟩, !odd)
    | none => (⟨if locked then v else 0x8000, given⟩, false)
  | _, _ => (⟨0x8000, match flags with | some f => f / 2 | none => given⟩, false)

/-- A pair: its two samples, its parity errors, and the flag byte that a marked pair after it takes. The first pair of a
lane frame is the marked one; an error in a flag byte leaves both samples invalid (log entry 166). -/
def lanePair (locked marked : Bool) (prev : Nat) (p : LanePair) : List LaneSample × Nat × Nat :=
  if marked then
    let a := laneSample locked p.c1 p.c2 none (prev / 32)
    let b := laneSample locked p.c3 p.c4 none (prev % 16 / 2)
    ([a.1, b.1], 0, prev)
  else
    match charByte p.c0 with
    | some f =>
      let a := laneSample locked p.c1 p.c2 (some (f / 16)) 0
      let b := laneSample locked p.c3 p.c4 (some (f % 16)) 0
      ([a.1, b.1], (if a.2 then 1 else 0) + (if b.2 then 1 else 0), f)
    | none => ([⟨0x8000, 0⟩, ⟨0x8000, 0⟩], 0, prev)

def pairChars (p : LanePair) : List LaneChar := [p.c0, p.c1, p.c2, p.c3, p.c4]

/-- Code errors among characters: a code or disparity error, or a control character but K28.5 (R220). -/
def charErrors (l : List LaneChar) : Nat := (l.filter (fun c => c == .bad || c == .control)).length

/-- The pairs of a lane frame from the `i`-th on: samples, parity errors and the last flag byte. The lane stops being LOCKED
(R222) with the eighth error of the frame, at a K28.5 elsewhere than at the first character, and where the frame's `most`
pairs have come without the next one; the samples from that character on are invalid. -/
def lanePairs (locked : Bool) (most errs prev i : Nat) : List LanePair → List LaneSample × Nat × Nat
  | [] => ([], 0, prev)
  | p :: l =>
    let marked := i == 0 && p.c0 == .comma
    let stray (cs : List LaneChar) : Bool := (if marked then cs.drop 1 else cs).any (fun c => c == .comma)
    let held := locked && decide (i < most)
    let x := lanePair held marked prev p
    let n := errs + charErrors (pairChars p) + x.2.1
    let before := errs + charErrors [p.c0, p.c1, p.c2] + (lanePair held marked prev ⟨p.c0, p.c1, p.c2, .bad, .bad⟩).2.1
    let out := if held && (8 ≤ before || stray [p.c0, p.c1, p.c2]) then
        [x.1.getD 0 ⟨0x8000, 0⟩, ⟨0x8000, (x.1.getD 1 ⟨0x8000, 0⟩).flags⟩]
      else x.1
    let r := lanePairs (held && decide (n < 8) && !stray (pairChars p)) most n x.2.2 (i + 1) l
    (out ++ r.1, x.2.1 + r.2.1, r.2.2)

/-- Code errors of a lane frame: characters with a code or disparity error and control characters but K28.5 (R220). -/
def codeErrors (pairs : List LanePair) : Nat := charErrors (pairs.flatMap pairChars)

/-- A K28.5 stands elsewhere than at the frame's first character. -/
def strayComma (pairs : List LanePair) : Bool := (pairs.flatMap pairChars).drop 1 |>.any (fun c => c == .comma)

/-! ### The group processor (R226, R227) -/

/-- Group record fields. -/
def recMode (g : List Byte) : Nat := leAt g 3 1
def recHp (g : List Byte) : Nat := leAt g 4 2
def recNoise (g : List Byte) : Nat := leAt g 6 1
def recConfirm (g : List Byte) : Nat := leAt g 7 1
def recThr (g : List Byte) : Nat := Config.numOfReal (leAt g 8 4)
def recHold (g : List Byte) : Nat := leAt g 12 4
def grpRec (b : List Byte) (g : Nat) : List Byte := (b.drop (lspGroupOff g)).take 32

/-- The numbers of a filter that has seen nothing, and a group processor that begins at frame k. -/
def freshFilter : Nat × Nat × Nat × Nat := (nInt 0, nInt 0, nInt 0, nInt 0)
def freshProc (k : Nat) : GrpProc :=
  { filt := List.replicate 3 freshFilter, sig2 := List.replicate 3 (nInt 0), next := k }

/-- The second-order Butterworth high-pass of cut-off HP_KHZ at 24 MS/s, by the bilinear transform (R226; log entry 162):
one more input, with the last two inputs and outputs kept. -/
def highPass (hp : Nat) (f : Nat × Nat × Nat × Nat) (x : Nat) : (Nat × Nat × Nat × Nat) × Nat :=
  let w := nScale Config.numPi (hp : Int) 24000
  let k := Config.numDiv (Config.numSin w) (Config.numCos w)
  let k2 := Config.numMul k k
  let r := Config.numMul (Config.numSqrt (nInt 2)) k
  let norm := Config.numAdd (Config.numAdd (nInt 1) r) k2
  let fed := Config.numAdd (Config.numSub x (nScale f.1 2 1)) f.2.1
  let back := Config.numAdd (Config.numMul (nScale (Config.numSub k2 (nInt 1)) 2 1) f.2.2.1)
    (Config.numMul (Config.numAdd (Config.numSub (nInt 1) r) k2) f.2.2.2)
  let y := Config.numDiv (Config.numSub fed back) norm
  ((x, f.1, y, f.2.2.1), y)

/-- Clarke's transform: alpha, beta and zero (R226). -/
def clarke (a b c : Nat) : List Nat :=
  [nScale (Config.numSub (Config.numSub (nScale a 2 1) b) c) 1 3,
    Config.numDiv (Config.numSub b c) (Config.numSqrt (nInt 3)),
    nScale (Config.numAdd (Config.numAdd a b) c) 1 3]

/-- The modes that a group watches: MODE 3 watches alpha and beta. -/
def watched (mode : Nat) : List Nat := if mode = 3 then [0, 1] else [mode]

/-- An invalid sample, and one that carries TEST. -/
def LaneSample.bad (x : LaneSample) : Bool := x.code == 0x8000 || bitOf x.flags 0

/-- A stored sample in primary amperes or volts: its 16 bits times its lane's SCALE; what stands for an invalid one is
free. -/
def primaryOf (scale : Nat) (f : Nat × Nat × Nat × Nat) (x : LaneSample) : Nat :=
  if x.code = 0x8000 then Config.lspGap f.1 else Config.numMul (nInt (toSigned 16 x.code)) (Config.numOfReal scale)

/-- SCALE of a lane in the lane records in force. -/
def laneScale (recs : List Byte) (n : Nat) : Nat := leAt recs (16 * n + 12) 4

/-- sigma squared with one more sample (R227): the mean of the squares while it is formed from the first 65 536 samples,
and then the running update. -/
def noiseStep (forming : Bool) (sig2 m : Nat) : Nat :=
  let m2 := Config.numMul m m
  if forming then Config.numAdd sig2 (nScale m2 1 65536)
  else Config.numAdd sig2 (nScale (Config.numSub m2 sig2) 1 16384)

/-- One sample of the three lanes of a group: filter, modes and noise floor. While an event is open (`held`), or a sample
is invalid or carries TEST, sigma stays (R227); detection is suppressed for 48 samples, 2 us, after such a sample (R228). -/
def procStep (gr recs : List Byte) (g k n : Nat) (held : Bool) (p : GrpProc) (x : List LaneSample) :
    GrpProc × ModeSample :=
  let one (i : Nat) : (Nat × Nat × Nat × Nat) × Nat :=
    let f := p.filt.getD i freshFilter
    highPass (recHp gr) f (primaryOf (laneScale recs (3 * g + i)) f (x.getD i ⟨0x8000, 0⟩))
  let ys := (List.range 3).map one
  let y (i : Nat) : Nat := (ys.getD i (freshFilter, nInt 0)).2
  let ms := clarke (y 0) (y 1) (y 2)
  let bad := x.length != 3 || x.any LaneSample.bad
  let frozen := held || bad
  let sig2 := (List.range 3).map (fun i =>
    let v := p.sig2.getD i (nInt 0)
    if frozen || !(watched (recMode gr)).contains i then v else noiseStep (decide (p.seen < 65536)) v (ms.getD i (nInt 0)))
  let quiet := if bad then 0 else min (p.quiet + 1) 49
  ({ p with
      filt := ys.map (·.1), sig2 := sig2, seen := if frozen then p.seen else min (p.seen + 1) 65536, quiet := quiet },
    ⟨k, n, ms, sig2.map Config.numSqrt, decide (48 < quiet), x.any (fun z => bitOf z.flags 2),
      x.length != 3 || x.any (fun z => z.code == 0x8000)⟩)

/-- The samples of a lane frame one after the other. -/
def procRun (gr recs : List Byte) (g k : Nat) (held : Nat → Bool) :
    Nat → List (List LaneSample) → GrpProc → GrpProc × List ModeSample
  | _, [], p => (p, [])
  | n, x :: l, p =>
    let a := procStep gr recs g k n (held n) p x
    let r := procRun gr recs g k held (n + 1) l a.1
    (r.1, a.2 :: r.2)

/-- Three lists of samples, sample by sample. -/
def groupSamples (a b c : List LaneSample) : List (List LaneSample) :=
  (List.range (max a.length (max b.length c.length))).map (fun i => [a, b, c].filterMap (fun l => l[i]?))

/-- theta of a mode (R227). -/
def thetaOf (gr : List Byte) (sigma : Nat) : Nat := nMax (nScale sigma (recNoise gr : Int) 1) (recThr gr)

/-- The stamp of an instant in module time (R225), with the terms of the lane of phase a. -/
def stampOf (s : State) (g raw : Nat) : Nat :=
  let b := s.lsp.laneRecs
  let o := 16 * (3 * g)
  ((raw : Int) + (leAt b (o + 2) 2 : Int) - sleAt b (o + 4) 4 - sleAt b (o + 8) 4).toNat

/-- The stamp of sample n of lane frame k. -/
def sampleStamp (s : State) (g k n : Nat) : Nat := stampOf s g (sampleTime s.lsp.marks k n / 1000)

/-- An event of group g is open at a stamp in ns. -/
def heldAt (s : State) (g t : Nat) : Bool :=
  (s.lsp.events ++ s.lsp.opens.filterMap id).any (fun e => e.group == g && decide (e.time ≤ t) && decide (t < e.close))

/-- The samples of lane n in frame k that the ring holds. -/
def ringFrame (s : State) (n k : Nat) : Option (List LaneSample) :=
  ((s.lsp.ring.getD n []).find? (fun f => f.frame == k)).map (·.samples)

/-- The record under which group g works: that of an open event, else the applied one (R249). -/
def workRec (s : State) (g : Nat) : List Byte :=
  match s.lsp.opens.getD g none with
  | some e => e.grp
  | none => grpRec (s.conf objLsp) g

/-- Group g's processor takes some samples of frame k. -/
def groupRun (s : State) (g k : Nat) (x : List (List LaneSample)) (p : GrpProc) : GrpProc × List ModeSample :=
  procRun (workRec s g) s.lsp.laneRecs g k (fun n => heldAt s g (sampleStamp s g k n)) 0 x p

/-- A number in 1/256 of a sample count of lane 3g, saturating (R252). -/
def inCounts (s : State) (g most v : Nat) : Nat :=
  satTo most (numRound (nScale (Config.numDiv v (Config.numOfReal (laneScale s.lsp.laneRecs (3 * g)))) 256 1)).toNat

/-- SIGMA and THR show the noise floor of the detection mode, alpha where MODE is auto. -/
def showNoise (s : State) (g : Nat) : State :=
  let p := (s.lsp.procs.getD g ({}, {})).2
  if p.seen < 65536 then s
  else
    let gr := workRec s g
    let sigma := Config.numSqrt (p.sig2.getD ((watched (recMode gr)).headD 0) (nInt 0))
    (s.set (Reg.lspGrpSigma g) (inCounts s g 0xFFFFFF sigma)).set (Reg.lspGrpThrThr g)
      (inCounts s g 0xFFFFFFFF (thetaOf gr sigma))

/-- The lane frame k of group g is complete on its three lanes: its processor takes it. -/
def takeGroupFrame (g k : Nat) (s : State) : State :=
  let p := (s.lsp.procs.getD g ({}, {})).2
  if (!grpUsed (s.conf objLsp) g && (s.lsp.opens.getD g none).isNone) || k < p.next then s
  else
    match ringFrame s (3 * g) k, ringFrame s (3 * g + 1) k, ringFrame s (3 * g + 2) k with
    | some a, some b, some c =>
      let r := (groupRun s g k (groupSamples a b c) p).1
      showNoise (s.updLsp (fun x => { x with
        procs := listSet x.procs g (fun _ => (p, { r with next := k + 1 })) })) g
    | _, _, _ => s

/-! ### Detection and the fitted onset (R228) -/

/-- One mode of a run of samples, as a detector sees it. -/
def probesOf (gr : List Byte) (mode : Nat) (l : List ModeSample) : List Probe :=
  l.map (fun x => ⟨x.modes.getD mode (nInt 0), thetaOf gr (x.sigma.getD mode (nInt 0)), x.ok, x.ovr, x.inv⟩)

/-- The probe at a place. -/
def probeAt (l : List Probe) (i : Nat) : Probe := l.getD i ⟨nInt 0, nInt 0, false, false, true⟩

/-- A probe reaches the threshold with a sign. -/
def hits (p : Probe) (neg : Bool) : Bool :=
  p.ok && !Config.numLt (nAbs p.m) p.th && Config.numLt p.m (nInt 0) == neg

/-- `c` probes from i on reach the threshold with one sign, and the one before does not. -/
def confirms (c : Nat) (l : List Probe) (i : Nat) : Bool :=
  let neg := Config.numLt (probeAt l i).m (nInt 0)
  (List.range c).all (fun j => hits (probeAt l (i + j)) neg) && (i == 0 || !hits (probeAt l (i - 1)) neg)

/-- The peak: the first local maximum of |m| within 48 samples of the first confirming one (log entry 167). -/
def peakFrom (l : List Probe) (i : Nat) : Nat :=
  match (List.range 49).find? (fun j =>
      !Config.numLt (nAbs (probeAt l (i + j)).m) (nAbs (probeAt l (i + j + 1)).m)) with
  | some j => i + j
  | none => i + 48

/-- The points of the line: |m| between 20 % and 80 % of the peak from the sample before the first confirming one up to
the peak, by their places from i; fewer than two give way to the two that straddle 50 %. -/
def linePoints (l : List Probe) (i p : Nat) : List (Int × Nat) :=
  let peak := nAbs (probeAt l p).m
  let all := (List.range (p + 2 - i)).map (fun (j : Nat) => ((j : Int) - 1, nAbs (probeAt l (i + j - 1)).m))
  let mid := all.filter (fun q => !Config.numLt q.2 (nScale peak 20 100) && !Config.numLt (nScale peak 80 100) q.2)
  if 2 ≤ mid.length then mid
  else
    let half := nScale peak 50 100
    match (all.zip (all.drop 1)).find? (fun q => Config.numLt q.1.2 half && !Config.numLt q.2.2 half) with
    | some q => [q.1, q.2]
    | none => all.take 2

/-- The line through points by least squares: where it crosses 0, and its slope. -/
def lineFit (pts : List (Int × Nat)) : Nat × Nat :=
  let n : Nat := pts.length
  let tm := nScale (nSum (pts.map (fun q => nInt q.1))) 1 n
  let ym := nScale (nSum (pts.map (·.2))) 1 n
  let dt (q : Int × Nat) : Nat := Config.numSub (nInt q.1) tm
  let slope := Config.numDiv (nSum (pts.map (fun q => Config.numMul (dt q) (Config.numSub q.2 ym))))
    (nSum (pts.map (fun q => Config.numMul (dt q) (dt q))))
  (Config.numSub tm (Config.numDiv ym slope), slope)

/-- An onset fitted at place i, where sample n of frame k stands: its distance from t_S(k) in ps as a number, the peak, the
rise time in ns and whether the edge holds OVR. -/
def fitOnset (marks : List MarkRec) (k n : Nat) (l : List Probe) (i : Nat) : Nat × Nat × Nat × Bool :=
  let p := peakFrom l i
  let f := lineFit (linePoints l i p)
  let peak := nAbs (probeAt l p).m
  let ln := lineOf marks k
  let step (x : Nat) : Nat := nScale x (ln.2.1 : Int) ln.2.2
  (step (Config.numAdd (nInt n) f.1), peak,
    (numRound (nScale (step (Config.numDiv (nScale peak 8 10) f.2)) 1 1000)).toNat,
    (List.range (p + 2 - i)).any (fun j => (probeAt l (i + j - 1)).ovr))

/-- A lane frame on one lane alone, as R251 measures it: the lane's filter after it, and its filtered samples against the
threshold of its group, TEST samples included. -/
def laneProbes (s : State) (n : Nat) (f : Nat × Nat × Nat × Nat) (x : List LaneSample) :
    (Nat × Nat × Nat × Nat) × List Probe :=
  let gr := workRec s (n / 3)
  let p := (s.lsp.procs.getD (n / 3) ({}, {})).2
  let th := thetaOf gr (Config.numSqrt (p.sig2.getD ((watched (recMode gr)).headD 0) (nInt 0)))
  x.foldl (fun (a : (Nat × Nat × Nat × Nat) × List Probe) z =>
    let r := highPass (recHp gr) a.1 (primaryOf (laneScale s.lsp.laneRecs n) a.1 z)
    (r.1, a.2 ++ [⟨r.2, th, z.code != 0x8000, bitOf z.flags 2, z.code == 0x8000⟩])) (f, [])

/-- The onset of a calibration step on lane n in frame k, as t_raw - t_S(k) in ns (R251). -/
def stepOnset (s : State) (n k : Nat) (l : List Probe) : Option Int :=
  ((List.range l.length).find? (confirms (recConfirm (workRec s (n / 3))) l)).map (fun i =>
    numRound (nScale (fitOnset s.lsp.marks k i l i).1 1 1000))

end Sys2Proof.Machine
end

