-- ==== Sys2Proof/Machine/Larkspur.lean ====
section
/-! DEFINITION. Larkspur (07): lanes, wavefront events and reports, matching and location, records, and the LARKSPUR
family. -/

namespace Sys2Proof.Machine

/-- Milliseconds as frames. -/
def framesOfMs (ms : Nat) : Nat := 4 * ms

/-! ### Lanes (R217-R224) -/

def laneDisabled : Nat := 0
def laneHunt : Nat := 1
def laneChecking : Nat := 2
def laneLocked : Nat := 3

/-- LSP_STATUS.LOCKED shows the lanes that are LOCKED. -/
def showLspLanes (s : State) : State :=
  s.set Reg.lspStatusLocked (bitmap 12 (fun n => s.get (Reg.lspLaneState n) == laneLocked))

/-- A lane goes to HUNT; out of LOCKED it sets LANE_LOST. -/
def toHunt (s : State) (n : Nat) : State :=
  let st := s.get (Reg.lspLaneState n)
  if st = laneDisabled then s else (s.set (Reg.lspLaneState n) laneHunt).raiseIf (st == laneLocked) Ev.lspLaneLost

/-- Progress stage of a calibration (R251): 1 until its start frame, 2 while requests are issued, 3 after. -/
def calStage (c : CalSt) (k : Nat) : Nat := if k < c.start then 1 else if c.issued < 64 then 2 else 3

/-- A calibration request (R251): in 64 consecutive frames LSP_SYNC is held high for two cycles instead of one. -/
def calRequests (s : State) (k : Nat) : Bool :=
  match s.lsp.cal with
  | some c => decide (c.start ≤ k) && decide (c.issued < 64)
  | none => false

/-- The mark edge of the frame is recorded: its edge, t_S(k) and N(k - 1) (R223, R224); lane records come into force
(R249), and after a step of the counter every lane hunts (R222). -/
def recordMark (s : State) : State :=
  let e := nextEdge s
  let k := frameIndex s.now
  let m : MarkRec := ⟨k, edgeTime s e, samplesTo s e⟩
  let hunt := s.lsp.huntDue
  let recs := ((s.conf objLsp).drop (lspLaneOff 0)).take 192
  let s := s.updLsp (fun x => { x with
    marks := (m :: x.marks).take 402, edge := some e, huntDue := false, laneRecs := recs })
  if hunt then showLspLanes ((List.range 12).foldl toHunt s) else s

/-- The open event of group g is changed. -/
def updOpen (g : Nat) (f : LspEvt → LspEvt) (s : State) : State :=
  s.updLsp (fun x => { x with opens := listSet x.opens g (fun e => e.map f) })

/-- The lane frame of lane n enters the raw ring (R242), and while a calibration runs the filter of that lane (R251),
which measures the step in it. -/
def keepLaneFrame (n k : Nat) (x : List LaneSample) (prev : Nat) (s : State) : State :=
  let s := s.updLsp (fun l => { l with
    ring := listSet l.ring n (fun r => (⟨k, x⟩ :: r).take 400), lastFlags := listSet l.lastFlags n (fun _ => prev) })
  match s.lsp.cal with
  | some c =>
    let r := laneProbes s n (c.filts.getD n freshFilter) x
    let step := if bitOf c.mask n && decide (c.start ≤ k) && decide (k < c.start + 64) then stepOnset s n k r.2 else none
    s.updLsp (fun l => { l with
      cal := some { c with
        filts := listSet c.filts n (fun _ => r.1), onsets := listSet c.onsets n (fun o => o ++ step.toList) } })
  | none => s

/-- What a lane frame's characters tell (R220-R223). -/
structure LaneCheck where
  samples : List LaneSample
  parity : Nat
  code : Nat
  prev : Nat
  placed : Bool

/-- The characters of a lane frame: `mark` tells that the K28.5 of the next one comes right after them. -/
def checkLane (s : State) (n : Nat) (pairs : List LanePair) (mark : Bool) : LaneCheck :=
  let count := match s.lsp.marks with | m :: _ => m.count | [] => 6000
  let r := lanePairs (s.get (Reg.lspLaneState n) == laneLocked) (count / 2) 0 (s.lsp.lastFlags.getD n 0) 0 pairs
  ⟨r.1, r.2.1, codeErrors pairs, r.2.2, mark && 2 * pairs.length == count && !strayComma pairs⟩

/-- Changes every event held, open or recent, that satisfies a condition. -/
def updEvents (p : LspEvt → Bool) (f : LspEvt → LspEvt) (s : State) : State :=
  let g (e : LspEvt) : LspEvt := if p e then f e else e
  s.updLsp (fun x => { x with opens := x.opens.map (·.map g), events := x.events.map g })

/-- Every event held, the open ones last. -/
def allEvents (s : State) : List LspEvt := s.lsp.events ++ s.lsp.opens.filterMap id

/-- Samples of lane frame k of a lane of group g that fall within an event are invalid: it carries LANE_FAULT (R247). -/
def markLaneFault (g k : Nat) (x : List LaneSample) (s : State) : State :=
  if !(allEvents s).any (fun e => e.group == g) then s
  else
    let ts := ((List.range x.length).filter (fun i => (x.getD i ⟨0, 0⟩).code == 0x8000)).map (sampleStamp s g k)
    updEvents (fun e => e.group == g && ts.any (fun t => decide (e.time ≤ t) && decide (t < e.close)))
      (fun e => { e with flags := withBit e.flags 7 true }) s

/-- LANE_FRAME: the characters of a lane frame have come, `mark` telling that the K28.5 of the next one follows at once
(R220-R223). -/
def execLaneFrame (lane : Nat) (pairs : List LanePair) (mark : Bool) (s : State) : Out :=
  .next (
    let n := lane
    let st := s.get (Reg.lspLaneState n)
    if 12 ≤ n || st = laneDisabled then s
    else
      let c := checkLane s n pairs mark
      let errs := c.code + c.parity
      let k := match s.lsp.marks with | m :: _ => m.frame - 1 | [] => frameIndex s.now - 1
      let has (i : Nat) : Bool := c.samples.any (fun x => bitOf x.flags i)
      let s := (s.bump (Reg.lspLaneErrCodeCnt n) c.code).bump (Reg.lspLaneErrParityCnt n) c.parity
      let s := if !c.placed && st != laneHunt then s.bump (Reg.lspLaneErrMarkCnt n) else s
      let s := if c.samples.any (fun x => x.code == 0x8000) then
          markLaneFault (n / 3) k c.samples (s.bump (Reg.lspLaneErrInvalidCnt n)) else s
      let s := ((s.set (Reg.lspLaneLastPairs n) pairs.length).setBit (Reg.lspLaneOvr n) (has 2)).setBit
        (Reg.lspLaneFeFault n) (has 1)
      let s := takeGroupFrame (n / 3) k (keepLaneFrame n k c.samples c.prev (s.setBit (Reg.lspLaneTest n) (has 0)))
      showLspLanes (
        if st = laneHunt then (if mark then s.set (Reg.lspLaneState n) laneChecking else s)
        else if st = laneChecking then
          s.set (Reg.lspLaneState n) (if c.placed && c.code == 0 then laneLocked else laneHunt)
        else if !c.placed || 8 ≤ errs then toHunt s n
        else s.raiseIf (errs != 0) Ev.lspLaneErr))

/-! ### Events (R225-R231) -/

/-- A group is armed or not. -/
def setArmed (g : Nat) (b : Bool) (s : State) : State :=
  (s.setBit (Reg.lspGrpArmed g) b).set Reg.lspStatusArmed (withBit (s.get Reg.lspStatusArmed) g b)

/-- GROUP_ARMED: the noise floor of a group is formed from 65 536 samples (R227), shown, and the group is armed. -/
def execGroupArmed (g : Nat) (s : State) : Out :=
  .next (
    if 4 ≤ g || !grpUsed (s.conf objLsp) g || (s.lsp.procs.getD g ({}, {})).2.seen < 65536 then s
    else setArmed g true (showNoise s g))

/-- Group g forms sigma anew (R227, R249). -/
def reformGroup (g : Nat) (s : State) : State :=
  let k := match s.lsp.marks with | m :: _ => m.frame | [] => 0
  setArmed g false (s.updLsp (fun x => { x with
    procs := listSet x.procs g (fun _ => (freshProc k, freshProc k)), reformDue := withBit x.reformDue g false }))

/-- DIR of a current and a voltage polarity (R230). -/
def dirOf (invert : Bool) (cur volt : Int) : Nat := if (cur != volt) != invert then 1 else 2

/-- Two detections belong to one wavefront for DIR: the same mode, within 200 ns. -/
def sameFront (modeA modeB tA tB : Nat) : Bool :=
  modeA == modeB && decide (tA ≤ tB + 200) && decide (tB ≤ tA + 200)

/-- The latest event of a group. -/
def latestOf (s : State) (g : Nat) : Option LspEvt :=
  match s.lsp.opens.getD g none with
  | some e => some e
  | none => s.lsp.events.reverse.find? (fun e => e.group == g)

/-- The report of an event (R233). -/
def wfReportOf (b : List Byte) (e : LspEvt) : WfReport :=
  ⟨false, e.group, grpTerm b e.group, e.seq, e.time, e.cls, e.err, e.dir, e.pol, e.mode, e.amp, e.flags⟩

/-- A record is triggered on lanes at an instant (R243): an open record of these lanes is extended to 4 ms after it, up
to 20 ms in all; beyond that a new one starts. A record keeps the events that triggered or extended it. -/
def triggerRecord (manual : Bool) (group lanes t : Nat) (tag : List Byte) (evt : Option LspEvt) (s : State) : State :=
  let key := evt.toList.map (fun e => (e.group, e.time))
  let ext (r : LspRec) : Bool := r.lanes &&& lanes == lanes && decide (t ≤ r.stop) && decide (t < r.start + 20000000)
  if s.lsp.recs.any ext then
    s.updLsp (fun x => { x with recs := x.recs.map (fun r =>
      if ext r then
        { r with
          stop := max r.stop (min (t + 4000000) (r.start + 20000000)), extended := true
          events := r.events ++ key.filter (fun x => !r.events.contains x) }
      else r) })
  else
    s.updLsp (fun x => { x with recs := x.recs ++
      [⟨manual, group, lanes, (match evt with | some e => e.seq | none => 0), t, t - 2000000, t + 4000000, false, tag, key,
        none, []⟩] })

/-- An event triggers a record at an instant, on its group's lanes, or on all of them where its RECORD_FLAGS says so. -/
def triggerByEvent (e : LspEvt) (t : Nat) (s : State) : State :=
  let all := bitOf e.recFlags 0
  triggerRecord false (if all then 0xFF else e.group) (if all then 0xFFF else 7 * 8 ^ e.group) t [] (some e) s

/-- The group record under which an event runs (R249). -/
def evtFlags (e : LspEvt) : Nat := leAt e.grp 16 1
def evtVolt (e : LspEvt) : Nat := leAt e.grp 2 1
def evtKind (e : LspEvt) : Nat := leAt e.grp 1 1

/-- A detection of voltage group v settles DIR of the current events that name it (R230). -/
def settleDir (v mode time : Nat) (pol : Int) (s : State) : State :=
  let fits (e : LspEvt) : Bool := e.dir == 0 && evtKind e == 0 && evtVolt e == v && sameFront e.mode mode e.time time
  let fix (e : LspEvt) : LspEvt := if fits e then { e with dir := dirOf (bitOf (evtFlags e) 2) e.pol pol } else e
  let es := (s.lsp.events ++ s.lsp.opens.filterMap id).filter fits
  let s := s.updLsp (fun x => { x with
    opens := x.opens.map (·.map fix), events := x.events.map fix
    waiting := x.waiting.map (fun (r : WfReport) =>
      match es.find? (fun e => !r.remote && e.group == r.src && e.time == r.time) with
      | some e => { r with dir := dirOf (bitOf (evtFlags e) 2) e.pol pol }
      | none => r) })
  (List.range 4).foldl (fun s g =>
    match latestOf s g with
    | some e => s.set (Reg.lspGrpDirLast g) e.dir
    | none => s) s

/-- 2L/v of a line record in ns, to the nearest. -/
def roundTrip (r : List Byte) : Nat :=
  let two := fDiv .f64 (fMul .f64 (fOfInt .f64 2) (fConvert .f32 .f64 (leAt r 8 4))) (fConvert .f32 .f64 (leAt r 12 4))
  (fToInt .f64 false 0 0xFFFFFFFF two).1.toNat

/-- The lines that use group g, with their records. -/
def linesOf (b : List Byte) (g : Nat) : List (Nat × List Byte) :=
  ((List.range 8).filter (fun l => lineUsed b l && lineGroup b l == g)).map (fun l => (l, lineRec b l))

/-- The instant at which an event of an onset closes (R229): the onset plus HOLD_US, or plus the largest 2L/v and 10 us
of the lines that use the group where this is shorter. -/
def closeAt (b : List Byte) (g t : Nat) : Nat :=
  let hold := recHold (grpRec b g) * 1000
  let ls := linesOf b g
  let trip := ls.foldl (fun m l => max m (roundTrip l.2)) 0 + 10000
  t + (if ls.isEmpty then hold else min hold trip)

/-- A detection opens an event (R229-R231): its report goes to Utlos and waits for a snapshot. A detected wavefront
is usable (log entry 52). -/
def openEvent (d : WfDet) (s : State) : State :=
  let b := s.conf objLsp
  let t := stampOf s d.group d.raw
  let imprecise := decide (d.rise < 100) || decide (2000 < d.rise) || !d.strong
  let cls := s.get Reg.timStatusClass
  let err := satTo 0xFFFFFFFF (s.get Reg.timEstErrErr + 5 + (if imprecise then 20 else 0))
  let flags := 1 + (if d.laneFault then 128 else 0) + (if d.saturated then 256 else 0)
    + (if imprecise then 512 else 0) + (if s.on Reg.lspStatusCalibrating then 2048 else 0) + cls % 16 * 4096
  let dir := match s.lsp.dets.find? (fun x => x.1.1 == grpVolt b d.group && sameFront d.mode x.2.2.1 t x.2.1) with
    | some x => if grpKind b d.group == 0 && grpVolt b d.group != 0xFF then
        dirOf (bitOf (grpFlags b d.group) 2) d.pol x.2.2.2 else 0
    | none => 0
  let e : LspEvt := { group := d.group, time := t, pol := d.pol, mode := d.mode, amp := d.amp, rise := d.rise
                      err := err, cls := cls, dir := dir, flags := flags, close := closeAt b d.group t
                      grp := grpRec b d.group, lineRecs := linesOf b d.group, recFlags := lspRecFlags b
                      waitMs := lspWaitMs b }
  let s := s.updLsp (fun x => { x with
    opens := listSet x.opens d.group (fun _ => some e), waiting := x.waiting ++ [wfReportOf b e] })
  let s := (s.setBit (Reg.lspGrpEventOpen d.group) true).set (Reg.lspGrpDirLast d.group) dir
  let s := if bitOf (evtFlags e) 0 then triggerByEvent e t s else s
  s.raise Ev.lspWavefront

/-- The samples of group g up to the present: the lane frame its processor took last, and the pairs that have come since
on its three lanes. -/
def groupSeries (s : State) (g : Nat) (lanes : List (List LanePair)) : List ModeSample :=
  let p := s.lsp.procs.getD g ({}, {})
  let k := p.2.next
  let old := match ringFrame s (3 * g) (k - 1), ringFrame s (3 * g + 1) (k - 1), ringFrame s (3 * g + 2) (k - 1) with
    | some a, some b, some c => (groupRun s g (k - 1) (groupSamples a b c) p.1).2
    | _, _, _ => []
  let now' (i : Nat) : List LaneSample :=
    let ps := lanes.getD i []
    (lanePairs (s.get (Reg.lspLaneState (3 * g + i)) == laneLocked) ps.length 0 (s.lsp.lastFlags.getD (3 * g + i) 0) 0
      ps).1
  old ++ (groupRun s g k (groupSamples (now' 0) (now' 1) (now' 2)) p.2).2

/-- The wavefront whose first confirming sample is number n of lane frame k (R228): in the mode that MODE selects, alpha
before beta where it is auto; POL, the fitted onset, RISE_NS and the peak. -/
def detectAt (s : State) (g k n : Nat) (lanes : List (List LanePair)) : Option WfDet :=
  let series := groupSeries s g lanes
  match series.findIdx? (fun x => x.frame == k && x.n == n) with
  | none => none
  | some i =>
    let gr := workRec s g
    match (watched (recMode gr)).find? (fun md => confirms (recConfirm gr) (probesOf gr md series) i) with
    | none => none
    | some md =>
      let l := probesOf gr md series
      let f := fitOnset s.lsp.marks k n l i
      let raw := (numRound (nScale (Config.numAdd (nInt (lineOf s.lsp.marks k).1) f.1) 1 1000)).toNat
      let sigma := (series.getD i ⟨0, 0, [], [], false, false, true⟩).sigma.getD md (nInt 0)
      some ⟨g, raw, if Config.numLt (probeAt l i).m (nInt 0) then -1 else 1, md, Config.numToReal f.2.1, f.2.2.1,
        !Config.numLt f.2.1 (nScale sigma 20 1), f.2.2.2, 
        (List.range (peakFrom l i + 1 - i)).any (fun j => (probeAt l (i + j)).inv)⟩

/-- A detection in group d.group is noted, and that of a voltage group settles DIR (R230). -/
def noteDetection (k n : Nat) (d : WfDet) (s : State) : State :=
  let t := stampOf s d.group d.raw
  let volt := match s.lsp.opens.getD d.group none with
    | some e => evtKind e == 1
    | none => grpKind (s.conf objLsp) d.group == 1
  let s := s.updLsp (fun x => { x with dets := ((d.group, k, n), t, d.mode, d.pol) :: x.dets.take 63 })
  if volt then settleDir d.group d.mode t d.pol s else s

/-- The first detection of an armed group opens an event; further ones are reflections, up to 16 (R228, R229). In a group
with TRIGGER set each of them triggers a record (R243). -/
def takeDetection (k n : Nat) (d : WfDet) (s : State) : State :=
  noteDetection k n d (
    match s.lsp.opens.getD d.group none with
    | some e =>
      let s := if bitOf (evtFlags e) 0 then triggerByEvent e (stampOf s d.group d.raw) s else s
      updOpen d.group (fun e => { e with
        refl := if e.refl.length < 16 then e.refl ++ [(stampOf s d.group d.raw, d.pol)] else e.refl
        flags := if d.laneFault then withBit e.flags 7 true else e.flags }) s
    | none => openEvent d s)

/-- The event of group g closes (R229); a group whose record has changed forms sigma anew (R249). -/
def closeEvent (g : Nat) (e : LspEvt) (s : State) : State :=
  let e := { e with opened := false, seDue := true }
  let s := s.updLsp (fun x => { x with
    opens := listSet x.opens g (fun _ => none), events := (x.events ++ [e]).reverse.take 256 |>.reverse })
  let s := s.setBit (Reg.lspGrpEventOpen g) false
  if bitOf s.lsp.reformDue g then reformGroup g s else s

/-- The event that a local report stands for. -/
def isEvent (r : WfReport) (e : LspEvt) : Bool := e.group == r.src && e.time == r.time

/-! ### Location (R236-R239) -/

/-! Line record fields (R248). -/

def linePub (r : List Byte) : Nat := leAt r 2 1
def lineTerm (r : List Byte) : Nat := leAt r 4 2
def lineLen (r : List Byte) : Nat := fConvert .f32 .f64 (leAt r 8 4)
def lineV (r : List Byte) : Nat := fConvert .f32 .f64 (leAt r 12 4)
def lineMatch (r : List Byte) : Nat := leAt r 16 4
def lineSe (r : List Byte) : Bool := leAt r 20 1 == 1

/-- a <= b in binary64. -/
def fLe64 (a b : Nat) : Bool := fLt .f64 a b || fEq .f64 a b

/-- |tA - tB| <= L/v + MATCH_NS (R236). -/
def reportFits (r : List Byte) (tA tB : Nat) : Bool :=
  let d : Int := (tA : Int) - (tB : Int)
  fLe64 (fOfInt .f64 (d.natAbs : Int)) (fAdd .f64 (fDiv .f64 (lineLen r) (lineV r)) (fOfInt .f64 (lineMatch r : Int)))

/-- A remote report takes part in a double-ended location (R235). -/
def remoteGood (x : WfReport) : Bool := decide (x.cls ≤ 1) && decide (x.err ≤ 1000)

/-- Half of a binary64 value. -/
def half64 (x : Nat) : Nat := fDiv .f64 x (fOfInt .f64 2)

/-- The double-ended result of a matched pair (R237): X_DE and U_DE as REALs and the flags, for a local wavefront of
TIME_CLASS 0 or 1; X_DE stays as it was where there is none. -/
def locate (r : List Byte) (x : LineRes) (a b : WfReport) : LineRes :=
  let dt : Int := (a.time : Int) - (b.time : Int)
  let len := lineLen r
  let v := lineV r
  let ea := fOfInt .f64 (a.err : Int)
  let eb := fOfInt .f64 (b.err : Int)
  let e := fSqrt .f64 (fAdd .f64 (fMul .f64 ea ea) (fMul .f64 eb eb))
  let pos := half64 (fAdd .f64 len (fMul .f64 v (fOfInt .f64 dt)))
  let u := fConvert .f64 .f32 (half64 (fMul .f64 v e))
  let lv := fDiv .f64 len v
  let mag := fOfInt .f64 (dt.natAbs : Int)
  let x := { x with dt := dt, remoteSeq := b.seq, ude := u, waits := false
                    flags := withBit x.flags 18 false }
  if 1 < a.cls then x
  else if fLe64 mag lv then { x with xde := fConvert .f64 .f32 pos, flags := withBit (withBit x.flags 17 true) 0 true }
  else if fLe64 mag (fAdd .f64 lv e) then
    { x with xde := if dt < 0 then 0 else fConvert .f64 .f32 len
             flags := withBit (withBit (withBit x.flags 17 true) 4 true) 0 true }
  else { x with flags := withBit x.flags 3 true }

/-- The single-ended estimate (R238) from the reflections of a closed event. -/
def singleEnded (r : List Byte) (e : LspEvt) (x : LineRes) : LineRes :=
  if !lineSe r then x
  else
    let lim := fDiv .f64 (fMul .f64 (fOfInt .f64 2) (lineLen r)) (lineV r)
    let inTime (p : Nat × Int) : Bool :=
      decide (e.time ≤ p.1) && fLe64 (fOfInt .f64 ((p.1 - e.time : Nat) : Int)) lim
    match e.refl.find? (fun p => p.2 == e.pol && inTime p) with
    | none => x
    | some p =>
      let other := (e.refl.takeWhile (fun q => decide (q ≠ p))).any (fun q => q.2 != e.pol)
      let f := withBit (withBit x.flags 5 true) 0 true
      { x with xse := fConvert .f64 .f32 (half64 (fMul .f64 (lineV r) (fOfInt .f64 ((p.1 - e.time : Nat) : Int))))
               flags := if other then withBit f 6 true else f }

/-- The wavefront record of an event (R246), without its AGE. -/
def waveBytes (e : LspEvt) : List Byte :=
  leBytes 4 e.seq ++ leBytes 8 e.time ++ leBytes 4 e.amp ++ leBytes 4 e.flags ++ leBytes 4 e.err ++ zeros 2
    ++ leBytes 1 e.mode ++ leBytes 1 e.dir ++ leBytes 1 (ofSigned 8 e.pol) ++ leBytes 1 e.refl.length
    ++ leBytes 2 (satTo 65535 e.rise)

/-- A line's flag word: its own bits, and bits 15 to 7 of its event (R247). -/
def lineFlags (e : LspEvt) (x : LineRes) : Nat := x.flags ||| (e.flags % 2 ^ 16 / 128 * 128)

/-- The location record of a line (R246), without its AGE. -/
def lineBytes (e : LspEvt) (x : LineRes) : List Byte :=
  leBytes 4 e.seq ++ leBytes 4 x.xde ++ leBytes 4 x.xse ++ leBytes 4 x.ude ++ leBytes 4 (lineFlags e x)
    ++ leBytes 4 (ofSigned 32 x.dt) ++ zeros 4 ++ leBytes 4 x.remoteSeq

/-- The records of an event's group and lines enter the snapshot of frame k. -/
def showEvent (k : Nat) (wave : Bool) (lines : List Nat) (e : LspEvt) (s : State) : State :=
  let s := if wave then s.updLsp (fun x => { x with waves := listSet x.waves e.group (fun _ => ⟨waveBytes e, k⟩) })
    else s
  e.lines.foldl (fun s (l : LineRes) =>
    if lines.contains l.line then
      s.updLsp (fun x => { x with lines := listSet x.lines l.line (fun _ => ⟨lineBytes e l, k⟩) })
    else s) s

/-- The results of an event's lines before any location: the fields that no location has given are free (log entry
5), and a line with a remote publisher waits for its report. The lines are those of the record under which the event
opened (R249). -/
def newLines (v : Nat) (e : LspEvt) : List LineRes :=
  let base (l : Nat) (waits : Bool) (r : List Byte) : LineRes :=
    { line := l, xde := v % 2 ^ 32, xse := v / 2 ^ 32 % 2 ^ 32, ude := v / 2 ^ 64 % 2 ^ 32
      dt := toSigned 32 (v / 2 ^ 96), remoteSeq := v / 2 ^ 128 % 2 ^ 32
      flags := withBit 0 18 waits, record := r, waits := waits }
  if e.lineRecs.isEmpty then [base 0xFF false []]
  else e.lineRecs.map (fun l => base l.1 (linePub l.2 != 0xFF) l.2)

/-- A record takes the EVT_SEQ of the event that triggered it. -/
def recordSeq (r : WfReport) (q : Nat) (c : LspRec) : LspRec :=
  if c.events.head? = some (r.src, r.time) then { c with seq := q } else c

/-- The records that a report's event triggered take its EVT_SEQ. -/
def numberRecords (r : WfReport) (q : Nat) (s : State) : State :=
  s.updLsp (fun x => { x with recs := x.recs.map (recordSeq r q), staged := x.staged.map (recordSeq r q) })

/-- A waiting report enters the snapshot of frame k (R236, R240): a local one takes its EVT_SEQ, its records are
formed. -/
def admitReport (k : Nat) (s : State) (r : WfReport) : State :=
  if r.remote then s.updLsp (fun x => { x with pend := x.pend ++ [(r, k)] })
  else
    let q := (s.get Reg.lspLastSeqSeq + 1) % 2 ^ 32
    let v := s.fresh
    let s := s.took.set Reg.lspLastSeqSeq q
    let s := updEvents (isEvent r) (fun e => { e with seq := q, lines := newLines v e }) s
    let s := numberRecords r q (s.updLsp (fun x => { x with pend := x.pend ++ [({ r with seq := q }, k)] }))
    match (allEvents s).find? (isEvent r) with
    | some e => showEvent k true (List.range 8) e s
    | none => s

/-- REMOTE_WAIT_MS of a pending report in frames: that under which a local event opened (R249), for a remote report the
applied one. -/
def waitFrames (s : State) (r : WfReport) : Nat :=
  framesOfMs (match if r.remote then none else (allEvents s).find? (isEvent r) with
    | some e => e.waitMs
    | none => lspWaitMs (s.conf objLsp))

/-- Pending reports whose wait has expired leave (R236): a remote one sets NO_REMOTE, a local one marks the lines that
still wait. -/
def expireReports (k : Nat) (s : State) : State :=
  let all := s.lsp.pend
  let old := all.filter (fun p => decide (p.2 + waitFrames s p.1 < k))
  let s := s.updLsp (fun x => { x with pend := all.filter (fun p => !decide (p.2 + waitFrames s p.1 < k)) })
  old.foldl (fun s p =>
    if p.1.remote then s.raise Ev.lspNoRemote
    else
      match (allEvents s).find? (isEvent p.1) with
      | none => s
      | some e =>
        let ls := (e.lines.filter (·.waits)).map (·.line)
        if ls.isEmpty then s
        else
          let f (l : LineRes) : LineRes := if l.waits then
            { l with waits := false, flags := withBit (withBit l.flags 18 false) 16 true } else l
          let e := { e with lines := e.lines.map f }
          (showEvent k false ls e (updEvents (isEvent p.1) (fun _ => e) s)).raise Ev.lspNoRemote) s

/-- The remote report that a line takes (R236): the smallest |tA - tB|, then the lower EvtSeq. -/
def bestRemote (tA : Nat) : List WfReport → Option WfReport
  | [] => none
  | x :: l =>
    match bestRemote tA l with
    | none => some x
    | some y =>
      let dx := ((tA : Int) - (x.time : Int)).natAbs
      let dy := ((tA : Int) - (y.time : Int)).natAbs
      if dx < dy || (dx == dy && x.seq ≤ y.seq) then some x else some y

/-- One line of one pending event is matched against the remote reports of the snapshot. -/
def matchLine (rem : List WfReport) (a : WfReport) (l : LineRes) : LineRes × Option WfReport :=
  if !l.waits then (l, none)
  else
    let fits := rem.filter (fun x =>
      x.src == linePub l.record && x.term == lineTerm l.record && reportFits l.record a.time x.time)
    match bestRemote a.time (fits.filter remoteGood) with
    | some x => (locate l.record l a x, some x)
    | none => (if fits.isEmpty then l else { l with flags := withBit l.flags 19 true }, none)

/-- Location over the pending events and remote reports at the cut-off of frame k: matched reports leave, and a
matched remote report may trigger a record at tB (R236, R243). -/
def matchReports (k : Nat) (s : State) : State :=
  let rem := (s.lsp.pend.filter (·.1.remote)).map (·.1)
  let loc := (s.lsp.pend.filter (fun p => !p.1.remote)).map (·.1)
  let step (p : State × List WfReport) (a : WfReport) : State × List WfReport :=
    match (allEvents p.1).find? (isEvent a) with
    | none => p
    | some e =>
      let res := e.lines.map (matchLine rem a)
      let used := res.filterMap (·.2)
      let changed := (e.lines.zip (res.map (·.1))).filter (fun q => decide (q.1 ≠ q.2))
      let e' := { e with lines := res.map (·.1) }
      let s := showEvent k false (changed.map (·.2.line)) e' (updEvents (isEvent a) (fun _ => e') p.1)
      let s := if bitOf e.recFlags 1 then used.foldl (fun s x => triggerByEvent e x.time s) s else s
      let done := !used.isEmpty && e'.lines.all (fun l => !l.waits)
      (s, p.2 ++ used ++ (if done then [a] else []))
  let r := loc.foldl step (s, [])
  r.1.updLsp (fun x => { x with pend := x.pend.filter (fun p => !r.2.contains p.1) })

/-- The reflections of closed events enter the snapshot of frame k, with the single-ended estimates (R229, R238). -/
def closeReports (k : Nat) (s : State) : State :=
  (s.lsp.events.filter (fun e => e.seDue && e.seq != 0)).foldl (fun s e =>
    let e' := { e with seDue := false, lines := e.lines.map (fun l => singleEnded l.record e l) }
    showEvent k true (List.range 8) e' (updEvents (fun x => decide (x = e)) (fun _ => e') s)) s

/-- The waiting reports for which there is a place enter the snapshot of frame k, and location runs over them (R236). -/
def locateRound (k : Nat) (s : State) : List WfReport × State :=
  let n := 32 - s.lsp.pend.length
  let was := s.lsp.pend.length
  let enter := s.lsp.waiting.take n
  let s := s.updLsp (fun x => { x with waiting := x.waiting.drop n })
  let s := closeReports k (enter.foldl (admitReport k) s)
  ((s.lsp.pend.drop was).map (·.1), matchReports k s)

/-- Rounds of location while matched reports leave places for waiting ones. -/
def locateRounds (k : Nat) : Nat → List WfReport → State → List WfReport × State
  | 0, l, s => (l, s)
  | f + 1, l, s =>
    if s.lsp.waiting.isEmpty || 32 ≤ s.lsp.pend.length then (l, s)
    else
      let r := locateRound k s
      locateRounds k f (l ++ r.1) r.2

/-- Larkspur's part of the snapshot frozen at the cut-off of frame k (R236-R239), with the reports that enter it. -/
def lspCutOff (k : Nat) (s : State) : List WfReport × State :=
  let r := locateRound k (expireReports k s)
  locateRounds k r.2.lsp.waiting.length r.1 r.2

/-- REMOTE_WAIT_EXPIRY. -/
def execRemoteWaitExpiry (s : State) : Out := .next (expireReports (frameIndex s.now) s)

/-- The value of a Larkspur item in the snapshot of frame k, with its AGE (R246). -/
def lspItem (s : State) (k ref : Nat) : List Byte :=
  let r : ImgRec := if ref / 256 = 0 then s.lsp.waves.getD (ref % 256) {} else s.lsp.lines.getD (ref % 256) {}
  patch r.bytes 24 (leBytes 2 (satTo 65535 (k - r.changedAt)))

/-- A flag word at offset 16 of a record gains SELF_BATCH. -/
def selfBytes (b : List Byte) : List Byte := patch b 16 (leBytes 4 (withBit (leAt b 16 4) 10 true))

/-- The records that a self-snapshot of frame k + 1 changed, and the events that entered it, carry SELF_BATCH (R240). -/
def markSelf (k : Nat) (new : List WfReport) (s : State) : State :=
  let fix (r : ImgRec) : ImgRec := if r.changedAt = k then { r with bytes := selfBytes r.bytes } else r
  let s := s.updLsp (fun x => { x with waves := x.waves.map fix, lines := x.lines.map fix })
  new.foldl (fun s r => updEvents (isEvent r) (fun e => { e with flags := withBit e.flags 10 true }) s) s

/-- The module takes the Larkspur content of the snapshot it selected (R240): the pending reports with their EVT_SEQ
and the records; the reports that entered it and are published wait for the release of the next frame (R234). -/
def lspTake (own self : Bool) (sn : Snapshot) (s : State) : State :=
  let b := s.conf objLsp
  let k := sn.frame - 1
  let new := sn.entered
  let s := if own then s else
    let s := s.updLsp (fun x => { x with
      pend := sn.reports
      waiting := x.waiting.filter (fun (r : WfReport) => !(sn.entered ++ sn.reports.map (·.1)).any (fun p =>
        if r.remote then p.remote && p.term == r.term && p.seq == r.seq
        else !p.remote && p.src == r.src && sameFront 0 0 p.time r.time)) })
    let s := new.foldl (fun s (r : WfReport) =>
      if r.remote then s
      else
        let front (e : LspEvt) : Bool := e.group == r.src && sameFront 0 0 e.time r.time
        let s := ((allEvents s).filter front).foldl (fun s e => numberRecords { r with time := e.time } r.seq s) s
        updEvents front (fun e => { e with seq := r.seq }) (s.set Reg.lspLastSeqSeq r.seq)) s
    sn.items.foldl (fun s (i : SnapItem) =>
      if i.kind = 3 then
        let r : ImgRec := ⟨i.value, k - leAt i.value 24 2⟩
        if i.ref / 256 = 0 then s.updLsp (fun x => { x with waves := listSet x.waves (i.ref % 256) (fun _ => r) })
        else s.updLsp (fun x => { x with lines := listSet x.lines (i.ref % 256) (fun _ => r) })
      else s) s
  let s := if self then markSelf k new s else s
  let pubs := new.filter (fun r => !r.remote && (match (allEvents s).find? (isEvent r) with
    | some e => bitOf (evtFlags e) 1
    | none => bitOf (grpFlags b r.src) 1))
  let t := s.now
  s.updLsp (fun x => { x with
    due := pubs
    recent := (x.recent.filter (fun p => decide (t < p.1 + 200000000))) ++ pubs.map (fun r => (t, r)) })

/-! ### The publisher (R232-R235) -/

/-- A report as its eleven members with stNum and sqNum. -/
def reportNats (st sq : Nat) (r : WfReport) : List Nat :=
  [st, sq, r.term, r.seq, r.time / nsPerS, r.time % nsPerS, r.cls, r.err, r.dir, ofSigned 8 r.pol, r.mode, r.amp,
    r.flags]

/-- A state of the publisher leaves on every port of its record (R232): to its DST_IP, with its APPID, KEY_ID, DSCP, TTL,
CONF_REV and GOCB_REF. -/
def sendReport (r : WfReport) (s : State) : State :=
  let b := s.conf objLsp
  let o := lspPubOff
  let head := [leAt b (o + 2) 2, leAt b (o + 4) 4, leAt b (o + 8) 4, leAt b (o + 12) 1, leAt b (o + 13) 1, leAt b (o + 48) 4]
    ++ ((b.drop (o + 16)).take 32).map (·.toNat)
  (txPorts (s.conf objNet) (wfPubPorts b)).foldl (fun s p =>
    netTx p "R-GOOSE" (head ++ reportNats s.lsp.stNum s.lsp.sqNum r) s) s

/-- A report is sent as a new state (R234), to be sent again after 1 ms. -/
def publishReport (s : State) (r : WfReport) : State :=
  let t := s.now
  let s := s.updLsp (fun x => { x with
    stNum := x.stNum + 1, sqNum := 0, last := some r, retx := 0, retxAt := t + 1000000 })
  sendReport r s

/-- The reports due leave at the release, where the publisher runs. -/
def releaseReports (s : State) : State :=
  let due := s.lsp.due
  let s := s.updLsp (fun x => { x with due := [] })
  if s.on Reg.lspStatusPublishing then due.foldl publishReport s else s

/-- When the report sent last is due again, from the retransmissions made: 1, 2, 4 and 8 ms after it was new, and then
every second (R234; log entry 168). -/
def nextRetx (made due : Nat) : Nat :=
  match made with
  | 0 => due + 1000000
  | 1 => due + 2000000
  | 2 => due + 4000000
  | _ => due + 1000000000

/-- The last report is sent again at its due instant. -/
def retransmit (r : WfReport) (s : State) : State :=
  sendReport r (s.updLsp (fun x => { x with
    sqNum := x.sqNum + 1, retx := x.retx + 1, retxAt := nextRetx x.retx x.retxAt }))

/-- SINGLETON_RESTART: within 50 ms of a claim the new owner restarts each singleton (11 R363); the publisher resends
the reports of the last 200 ms with their own EvtSeq (R234). -/
def execSingletonRestart (s : State) : Out :=
  .next (
    let ran := singletonRuns s 2
    let s := startSingletons s
    if !ran && s.on Reg.lspStatusPublishing then
      ((s.lsp.recent.filter (fun p => decide (s.now < p.1 + 200000000))).map (·.2)).foldl publishReport s
    else s)

/-! ### Records (R243-R245; 17 R490-R492) -/

/-- ARCH in bytes: 56 GiB (17 R491). -/
def archSize : Nat := 60129542144

/-- Free ARCH space in bytes. -/
def archFree (s : State) : Nat := archSize - s.nvs.arch.foldl (fun m r => m + r.content.length) 0

/-- NVS_ARCH shows records and free space. -/
def showArch (s : State) : State :=
  (s.set Reg.nvsArchRecords (satTo 65535 s.nvs.arch.length)).set Reg.nvsArchFreeGib (archFree s / 2 ^ 30)

/-- The samples of a lane at places of the ring, 0x8000 where it has none. -/
def ringCode (s : State) (n k i : Nat) : Nat :=
  match ringFrame s n k with
  | some l => (l.getD i ⟨0x8000, 0⟩).code
  | none => 0x8000

/-- The lanes of a bitmap. -/
def lanesOf (m : Nat) : List Nat := (List.range 12).filter (bitOf m)

/-- The rows of a record from the raw ring (R243, R244): the samples from its start up to its stop with their instants in
ps. -/
def recordRows (s : State) (r : LspRec) : List (Nat × List Nat) :=
  let ls := lanesOf r.lanes
  let frames := s.lsp.marks.reverse.filter (fun m => decide (m.tS / 1000 ≤ r.stop) && decide (r.start < m.tS / 1000 + 300000))
  frames.flatMap (fun m =>
    let count := ls.foldl (fun c n => max c ((ringFrame s n m.frame).getD []).length) 0
    (List.range count).filterMap (fun i =>
      let t := sampleTime s.lsp.marks m.frame i
      if r.start * 1000 ≤ t ∧ t < r.stop * 1000 then some (t, ls.map (fun n => ringCode s n m.frame i)) else none))

/-- TAI-UTC for a record's times; unknown as for SOC (06 R210; log entry 164). -/
def recordUtc (s : State) : Nat := 2 ^ 40 - socOf s (2 ^ 40)

/-- The channel of lane n: LSPnn in A or V, with SCALE and offset 0 (R244). -/
def cffChan (s : State) (n : Nat) : CffChan :=
  ⟨"LSP" ++ Nat.repr (n / 10) ++ Nat.repr (n % 10), if grpKind (s.conf objLsp) (n / 3) = 0 then "A" else "V",
    laneScale s.lsp.laneRecs n, 0⟩

/-- What a captured record tells (R244). -/
def recordInfo (s : State) (r : LspRec) (first n : Nat) : Cff :=
  let utc (t : Nat) : Int := ((t : Int) - ((recordUtc s * nsPerS : Nat) : Int)) / 1000
  { revYear := 2013, format := "BINARY", missing := 0x8000, chans := (lanesOf r.lanes).map (cffChan s)
    nrates := 1, samp := 24000000, startUs := utc first, triggerUs := utc r.trigger, timemult := (1, 1000)
    timeCode := "+0h", localCode := "+0h", tmq := timeQuality s
    leap := s.on Reg.timTaiUtcLeap61 || s.on Reg.timTaiUtcLeap59, first := first, source := r.group, manual := r.manual
    seq := r.seq, tag := r.tag
    delays := (lanesOf r.lanes).map (fun l => (sleAt s.lsp.laneRecs (16 * l + 4) 4, leAt s.lsp.laneRecs (16 * l + 2) 2,
      sleAt s.lsp.laneRecs (16 * l + 8) 4))
    rows := n }

/-- The open record that ends first. -/
def firstRecord (s : State) : Option LspRec :=
  s.lsp.recs.find? (fun r => s.lsp.recs.all (fun q => decide (r.stop ≤ q.stop)))

/-- A record is captured into staging, which holds 16; beyond that, and while ARCH is read-only, it is dropped (R245). -/
def captureRecord (r : LspRec) (s : State) : State :=
  let s := s.updLsp (fun x => { x with recs := x.recs.erase r })
  if 16 ≤ s.lsp.staged.length || s.on Reg.nvsStatusArchRo then s.raise Ev.lspRecordDrop
  else
    let rows := recordRows s r
    let first := match rows with | x :: _ => x.1 | [] => r.start * 1000
    let c : LspRec := { r with
      info := some (recordInfo s r (first / 1000) rows.length)
      rows := rows.map (fun x => (divEven (x.1 - first) 1000, x.2)) }
    let s := s.updLsp (fun x => { x with staged := x.staged ++ [c] })
    s.set Reg.lspRecPending s.lsp.staged.length

/-- The .cff file of a capture (R244): its text sections, and the .dat rows, each its number, its instant in ns from the
first sample and 16 bits per channel. -/
def cffOf (r : LspRec) : List Byte :=
  (match r.info with | some i => Config.cffText { i with seq := r.seq } | none => [])
    ++ ((List.range r.rows.length).zip r.rows).flatMap (fun p =>
      leBytes 4 (p.1 + 1) ++ leBytes 4 p.2.1 ++ p.2.2.flatMap (leBytes 2))

/-- Records are deleted in ascending REC_ID while less than 2 GiB are free, once free space has fallen below 1 GiB;
a record being read is skipped; each deletion is logged (17 R491). -/
def reclaimArch (s : State) : State :=
  if 2 ^ 30 ≤ archFree s then s
  else
    s.nvs.arch.foldl (fun s r =>
      if 2 ^ 31 ≤ archFree s || s.nvs.reading.contains r.id then s
      else fwLog 7 (leBytes 4 r.id) <| nandForget r.id
        { s with nvs := { s.nvs with arch := s.nvs.arch.filter (fun q => decide (q.id ≠ r.id)) } }) s

/-- RECORD_STORED: the archive writer has stored the oldest staged capture as its .cff file (R244). -/
def execRecordStored (s : State) : Out :=
  .next (
    match s.lsp.staged with
    | [] => s
    | r :: rest =>
      if !singletonRuns s 0 || s.on Reg.nvsStatusArchRo then s
      else
        let id := s.nvs.nextRec
        let a : ArchRec := ⟨id, false, r.extended, r.manual, s.get Reg.sysPositionSlotId, r.group, r.trigger, r.lanes,
          r.seq, s.now, cffOf r⟩
        let s : State := { s with
          nvs := { s.nvs with
            arch := s.nvs.arch ++ [a], nextRec := (if id + 1 < 2 ^ 32 then id + 1 else 1)
            keys := s.nvs.keys ++ [(r.trigger, r.group)] }
          lsp := { s.lsp with staged := rest } }
        let s := updEvents (fun e => e.recId == 0 && r.events.contains (e.group, e.time)) (fun e => { e with recId := id }) s
        let s := nandArch id a.content s
        showWear (showArch (reclaimArch ((s.bump Reg.lspRecStored).set Reg.lspRecPending rest.length))))

/-! ### Applying a configuration (R249) -/

/-- The groups of a configuration that changes while it or its lanes' SCALE does. -/
def grpDiffers (x y : List Byte) (g : Nat) : Bool :=
  recDiffers x y (lspGroupOff g) 32 || lspOn x != lspOn y

/-- CAL_VALID: FE_DELAY_NS comes from a passed CALIBRATE. -/
def showCal (s : State) : State :=
  let b := s.conf objLsp
  (List.range 12).foldl (fun s n => s.setBit (Reg.lspLaneCalValid n)
    (laneEnabled b n && s.lsp.calFe.getD n none == some (leAt b (lspLaneOff n + 4) 4))) s

/-- A configuration takes effect: lanes are enabled and disabled, groups whose record changes form sigma anew, an open
event first running to its close. -/
def lspApply (b : List Byte) (s : State) : State :=
  let old := s.conf objLsp
  let s := putConf objLsp b s
  let s := (List.range 12).foldl (fun s n =>
    let on := lspOn b && laneEnabled b n
    if on = (s.get (Reg.lspLaneState n) != laneDisabled) then s
    else s.set (Reg.lspLaneState n) (if on then laneHunt else laneDisabled)) s
  let s := (List.range 4).foldl (fun s g =>
    if !grpDiffers old b g then s
    else if (s.lsp.opens.getD g none).isSome then
      s.updLsp (fun x => { x with reformDue := withBit x.reformDue g true })
    else reformGroup g s) s
  let s := (List.range 8).foldl (fun s i =>
    let on := lspOn b && subEnabled b i
    let s := s.setBit (Reg.lspSubEnabled i) on
    if on then s else s.setBit (Reg.lspSubAlive i) false) s
  let pass := s.lsp.calPass
  let s := s.updLsp (fun x => { x with
    calPass := 0
    calFe := (List.range 12).map (fun n =>
      if bitOf pass n then some (leAt b (lspLaneOff n + 4) 4) else x.calFe.getD n none) })
  let s := (s.set Reg.lspCfgRevRev (leAt b 4 4)).setBit Reg.lspStatusActive (lspOn b)
  reviewStations (showPublishing (showCal (showLspLanes (s.raise Ev.lspConfigApplied))))

/-- A warm reset returns every enabled lane to HUNT (R252); groups form sigma anew, and what their registers and
LSP_REC.PENDING show of events and captures is gone. -/
def lspWarm (s : State) : State :=
  let s := (List.range 4).foldl (fun s g =>
    let s := (reformGroup g s).setBit (Reg.lspGrpEventOpen g) false
    ((s.set (Reg.lspGrpDirLast g) 0).set (Reg.lspGrpSigma g) 0).set (Reg.lspGrpThrThr g) 0) s
  let s := (s.set Reg.lspRecPending 0).setBit Reg.lspStatusCalibrating false
  showLspLanes ((List.range 12).foldl (fun s n =>
    if s.get (Reg.lspLaneState n) = laneDisabled then s else s.set (Reg.lspLaneState n) laneHunt) s)

/-! ### The LARKSPUR family (R250, R251) -/

/-- LARKSPUR.GET_STATUS: 104 bytes. -/
def execLarkspurGetStatus (r : Req) (s : State) : Out :=
  .next (serve 13 1 r noPayload (fun s => .ok s (fieldReg s Reg.lspStatusActive ++ fieldReg s Reg.lspCfgRevRev
    ++ (List.range 12).flatMap (fun n => fieldReg s (Reg.lspLaneState n))
    ++ (List.range 4).flatMap (fun g => fieldReg s (Reg.lspGrpArmed g))
    ++ (List.range 8).flatMap (fun i => fieldReg s (Reg.lspSubEnabled i)))) s)

/-- LARKSPUR.GET_CONFIG. -/
def execLarkspurGetConfig (r : Req) (s : State) : Out :=
  .next (serve 13 2 r noPayload (fun s => .ok s (s.conf objLsp)) s)

/-- LARKSPUR.SET_CONFIG (R249). -/
def execLarkspurSetConfig (r : Req) (s : State) : Out :=
  .next (setConfig 13 objLsp r (fun b => firstOf (firstBad (lspChecks b)) (lspOverBudget s b)) lspClash s)

/-- The 64-byte entries of an event: one per line that used it, or one with LINE 0xFF. -/
def eventEntries (e : LspEvt) : List (List Byte) :=
  e.lines.map (fun l => leBytes 4 e.seq ++ timeBytes e.time ++ leBytes 1 e.group ++ leBytes 1 e.dir
    ++ leBytes 1 e.mode ++ leBytes 1 (ofSigned 8 e.pol) ++ leBytes 1 e.refl.length ++ leBytes 1 l.line ++ leBytes 4 e.amp
    ++ leBytes 4 e.err ++ leBytes 4 e.rise ++ leBytes 4 (e.flags ||| lineFlags e l) ++ leBytes 4 l.xde ++ leBytes 4 l.xse
    ++ leBytes 4 l.ude ++ leBytes 4 (ofSigned 32 l.dt) ++ leBytes 4 l.remoteSeq ++ leBytes 4 e.recId ++ zeros 4)

/-- Inserts an event by rising EVT_SEQ. -/
def insertEvt (e : LspEvt) : List LspEvt → List LspEvt
  | [] => [e]
  | x :: l => if e.seq ≤ x.seq then e :: x :: l else x :: insertEvt e l

/-- LARKSPUR.GET_EVENTS. -/
def execLarkspurGetEvents (r : Req) (s : State) : Out :=
  .next (serve 13 4 r (exactly 8) (fun s =>
    match firstBad (inRange r.payload 4 1 1 32 ++ resv r.payload 5 3) with
    | some d => .err s stOutOfRange d
    | none =>
      let held := ((allEvents s).filter (fun e => e.seq != 0)).foldl (fun l e => insertEvt e l) []
      let es := (held.drop (held.length - 256)).filter (fun e => decide (leAt r.payload 0 4 ≤ e.seq))
      let out := (es.flatMap eventEntries).take (leAt r.payload 4 1)
      .ok s (leBytes 1 out.length ++ zeros 7 ++ out.flatten)) s)

/-- A manual trigger on the selected groups, or on all lanes, with its tag. -/
def runTrigger (p : List Byte) (s : State) : State :=
  let g := leAt p 0 1
  let t := s.now
  if bitOf g 7 then triggerRecord true 0xFF 0xFFF t (p.drop 1) none s
  else (List.range 4).foldl (fun s i => if bitOf g i then triggerRecord true i (7 * 8 ^ i) t (p.drop 1) none s else s) s

/-- LARKSPUR.MANUAL_TRIGGER, from a host or by LTRIG. -/
def execLarkspurManualTrigger (r : Req) (s : State) : Out :=
  .next (serve 13 6 r (fun n => decide (1 ≤ n) && decide (n ≤ 48)) (fun s =>
    let g := leAt r.payload 0 1
    match firstBad ([(0, g != 0 && g % 128 < 16)] ++ asciiOk r.payload 1 (r.payload.length - 1)) with
    | some d => .err s stOutOfRange d
    | none =>
      let s := runTrigger r.payload s
      match r.src with
      | .host _ => .ok (toPeers "FORWARD" (5 :: asNats r.payload) s) []
      | .petal _ => .ok s []) s)

/-- The mean of measurements rounded to 1 ns, ties to even, and their spread. -/
def calMean (l : List Int) : Int := roundEven (l.foldl (· + ·) 0) l.length
def calSpread (l : List Int) : Nat := (l.foldl max (l.headD 0) - l.foldl min (l.headD 0)).toNat

/-- A selected lane passes: all 64 steps detected, a spread of at most 4 ns, and a mean that SET_CONFIG accepts as
FE_DELAY_NS (R248; log entry 53). -/
def calPasses (l : List Int) : Bool :=
  l.length == 64 && decide (calSpread l ≤ 4) && decide (0 ≤ calMean l) && decide (calMean l ≤ 100000)

/-- A calibration begins to wait for its start frame, in which it selects the lanes of a mask. -/
def startCal (f mask : Nat) (req : Option (Nat × Nat)) (s : State) : State :=
  (s.updLsp (fun x => { x with cal := some ⟨f, mask, 0, List.replicate 12 [], req, List.replicate 12 freshFilter⟩ })).setBit Reg.lspStatusCalibrating true

/-- LARKSPUR.CALIBRATE at the owner names a start frame, which every member gets (R251, 04 R139); MARK_EDGE issues the
requests and ends it. -/
def execLarkspurCalibrate (r : Req) (s : State) : Out :=
  .next (serve 13 5 r (exactly 4) (fun s =>
    let mask := leAt r.payload 0 2
    match firstBad ([(0, decide (mask < 4096))] ++ resv r.payload 2 2) with
    | some d => .err s stOutOfRange d
    | none =>
      if !settingsOpen s || s.lsp.cal.isSome then conflict s
      else
        let f := nameFrame s
        match r.src with
        | .host i => .later (toPeers "FORWARD" [21, f, mask] (startCal f mask (some (i, r.seq)) s))
        | .petal _ => conflict s) s)

/-- The result of lane n (R251): 0 passed, 1 failed, 2 not selected. -/
def calResult (b : List Byte) (c : CalSt) (n : Nat) : Nat :=
  if !bitOf c.mask n then 2
  else if laneEnabled b n && calPasses (c.onsets.getD n []) then 0 else 1

/-- The configuration with FE_DELAY_NS of the passing lanes and CONFIG_REV incremented. -/
def calConfig (b : List Byte) (c : CalSt) : List Byte :=
  let new := (List.range 12).foldl (fun b' n =>
    if calResult b c n = 0 then patch b' (lspLaneOff n + 4) (leBytes 4 (calMean (c.onsets.getD n [])).toNat) else b') b
  patch new 4 (leBytes 4 (leAt b 4 4 + 1))

/-- The payload of CALIBRATE: per lane STATUS, SPREAD_NS and FE_DELAY_NS. -/
def calPayload (b : List Byte) (c : CalSt) : List Byte :=
  (List.range 12).flatMap (fun n =>
    leBytes 1 (calResult b c n) ++ zeros 1 ++ leBytes 2 (satTo 65535 (calSpread (c.onsets.getD n [])))
      ++ leBytes 4 (leAt (calConfig b c) (lspLaneOff n + 4) 4))

/-- A calibration ends after its 64 frames (R251): failing lanes set CAL_FAIL; where the request was taken, the new values
of the passing lanes go in as a SET_CONFIG with CONFIG_REV incremented (log entry 53), and it is answered. -/
def endCal (c : CalSt) (s : State) : State :=
  let b := s.conf objLsp
  let s := (List.range 12).foldl (fun s n => s.raiseIf (calResult b c n == 1) Ev.lspCalFail) s
  let s := (s.updLsp (fun x => { x with
    cal := none, calPass := bitmap 12 (fun n => calResult b c n == 0) })).setBit Reg.lspStatusCalibrating false
  match c.req with
  | none => s
  | some (i, q) =>
    let new := calConfig b c
    let s := if (List.range 12).any (fun n => calResult b c n == 0) then
        pendObject objLsp (nameFrame s) new (confWrite objLsp new s) else s
    match (s.sess i).out.find? (fun o => o.seq == q && o.fam == 13 && o.cmd == 5) with
    | some o => finishD i o stOk (calPayload b c) s
    | none => s

/-- A calibration in frame k (R251): a request more has been issued, events open carry CALIBRATING, or it ends once the
lane frames of its 64 frames have come. -/
def calFrame (k : Nat) (s : State) : State :=
  match s.lsp.cal with
  | none => s
  | some c =>
    if calRequests s k then
      updEvents (·.opened) (fun e => { e with flags := withBit e.flags 11 true })
        (s.updLsp (fun x => { x with cal := some { c with issued := c.issued + 1 } }))
    else if c.start + 65 ≤ k then endCal c s
    else s

/-- MARK_EDGE: the mark edge of the frame (R218); the owner launches it, for two cycles of LSP_CLK where it is a
calibration request (R251). -/
def execMarkEdge (s : State) : Out :=
  .next (
    if !s.time.ticked then s
    else
      let k := frameIndex s.now
      let cal := calRequests s k
      let s := calFrame k (recordMark s)
      if s.on Reg.lspStatusClkDrive then s.send (.net 5 "LSP_SYNC" [k, if cal then 2 else 1]) else s)

end Sys2Proof.Machine
end

