-- ==== Sys2Proof/Machine/Agree.lean ====
section
/-! DEFINITION. Input agreement of a triad (12 R382-R384): how three or two snapshots become one. -/

namespace Sys2Proof.Machine

/-! ### Values -/

/-- The bitwise majority of three values of `n` bits. -/
def bitMajority (n a b c : Nat) : Nat :=
  bitmap n (fun i => (bitOf a i && bitOf b i) || (bitOf a i && bitOf c i) || (bitOf b i && bitOf c i))

/-- The middle one of three values under an order. -/
def midBy (key : Nat → Int) (a b c : Nat) : Nat :=
  if key a ≤ key b then (if key b ≤ key c then b else if key a ≤ key c then c else a)
  else (if key a ≤ key c then a else if key b ≤ key c then c else b)

/-- The place of a floating-point value of `n` bits in the totalOrder of IEEE 754-2019. -/
def totalKey (n v : Nat) : Int :=
  let m := v % 2 ^ (n - 1)
  if v % 2 ^ n = m then (m : Int) else -(m : Int) - 1

/-- The totalOrder of REAL. -/
def totalKey32 (v : Nat) : Int := totalKey 32 v

/-- The agreed value of three elements of a type. -/
def agreeElem (k : TyKind) (n a b c : Nat) : Nat :=
  match k with
  | .bool | .bits | .char => bitMajority (8 * n) a b c
  | .signed | .time => midBy (toSigned (8 * n)) a b c
  | .unsigned => midBy (fun v => (v : Int)) a b c
  | .float => midBy (totalKey (8 * n)) a b c

/-- The agreed bytes of three values whose elements have the given types. -/
def agreeElems : List (TyKind × Nat) → List Byte → List Byte → List Byte → List Byte
  | [], _, _, _ => []
  | (k, n) :: l, a, b, c =>
    leBytes n (agreeElem k n (leAt a 0 n) (leAt b 0 n) (leAt c 0 n))
      ++ agreeElems l (a.drop n) (b.drop n) (c.drop n)

/-- The element types of a source (06 R206, 09 R307; of a GOOSE member, the TYPE that decodes it). -/
def elemTypes (kind ref type size : Nat) : List (TyKind × Nat) :=
  match kind with
  | 1 | 2 => [(.float, 4), (.float, 4), (.bits, 4), (.unsigned, 2), (.unsigned, 2)]
  | 5 => [(.signed, 4), (.bits, 4)]
  | 6 => if ref / 256 = 0 then [(.bool, 1)] else [(.bits, 2)]
  | 7 => [(.float, 4), (.bits, 2), (.bits, 2)]
  | 8 => if ref / 256 = 0 then [(.bits, 2)] else if ref / 256 = 1 then [(.float, 4), (.bits, 2), (.bits, 2)]
    else [(.bits, 4)]
  | _ =>
    match tyOf type with
    | some (k, n) => List.replicate (size / n) (k, n)
    | none => List.replicate size (.bits, 1)

/-! ### Contributions -/

/-- A contribution: rank, the defined master's, and the snapshot. -/
structure Contribution where
  rank : Nat
  master : Bool
  snap : Snapshot

/-- The contribution from which what R382 takes from the defined master comes: the master's, else the lower rank's. -/
def baseOf (l : List Contribution) : Option Contribution :=
  match l.find? (·.master) with
  | some c => some c
  | none => l.head?

/-- The value a snapshot holds for a source. -/
def snapValue (sn : Snapshot) (x : SnapItem) : Option (List Byte) :=
  (sn.items.find? (fun i => i.kind == x.kind && i.ref == x.ref && i.type == x.type)).map (·.value)

/-- The value of a source where two agree, the lower rank's else (R382). -/
def midRecord (key : List Byte → Int) (a b c : List Byte) : List Byte :=
  if key a ≤ key b then (if key b ≤ key c then b else if key a ≤ key c then c else a)
  else (if key a ≤ key c then a else if key b ≤ key c then c else b)

/-- The order of Larkspur records: WF_TIME of a wavefront record; a location record carries none and is ordered by DT
(log entry 60). -/
def lspKey (ref : Nat) (b : List Byte) : Int := if ref / 256 = 0 then sleAt b 4 8 else sleAt b 20 4

/-- The agreed value of a source. Items that the base holds alone come from it. -/
def agreeItem (base : Snapshot) (l : List Contribution) (i : SnapItem) : SnapItem :=
  if i.kind = 9 ∨ i.kind = 10 then i
  else
    match l.filterMap (fun c => snapValue c.snap i) with
    | [a, b, c] =>
      if i.kind = 3 then { i with value := midRecord (lspKey i.ref) a b c }
      else { i with value := agreeElems (elemTypes i.kind i.ref i.type i.value.length) a b c }
    | a :: _ => { i with value := a }
    | [] => { i with value := (snapValue base i).getD i.value }

/-! ### Keyed entries (R384) -/

/-- Rows of one stream and place. -/
def sameRow (a b : BatchRow) : Bool := a.stream == b.stream && a.place == b.place

/-- Reports of one wavefront: of a lane group within 200 ns, or a remote one by TermId and EvtSeq. -/
def sameReport (a b : WfReport) : Bool :=
  if a.remote then b.remote && a.term == b.term && a.seq == b.seq
  else !b.remote && a.src == b.src && sameFront 0 0 a.time b.time

/-- The agreed row of matching ones: the mid-value of each quantity of three, the lower rank's of two. -/
def agreeRow : List BatchRow → Option BatchRow
  | [a, _] => some a
  | a :: b :: c :: _ =>
    some { a with vals := (List.range a.vals.length).map (fun i =>
      let x := a.vals.getD i (0, 0)
      let y := b.vals.getD i (0, 0)
      let z := c.vals.getD i (0, 0)
      (toSigned 32 (midBy (toSigned 32) (ofSigned 32 x.1) (ofSigned 32 y.1) (ofSigned 32 z.1)),
        bitMajority 48 x.2 y.2 z.2)) }
  | _ => none

/-- The agreed report of matching ones: the one with the median WF_TIME of three, the lower rank's of two. -/
def agreeReport : List WfReport → Option WfReport
  | [a, _] => some a
  | a :: b :: c :: _ =>
    some (if a.time ≤ b.time then (if b.time ≤ c.time then b else if a.time ≤ c.time then c else a)
      else (if a.time ≤ c.time then a else if b.time ≤ c.time then c else b))
  | _ => none

/-- Keyed entries of the contributions, each list with its rank, by rising rank, and the entries kept from the last agreement
with the rank that held them: those that enter, in the order in which the contributions first show them, and those now kept,
held in one alone. A kept one enters where another contribution holds it now. -/
def agreeKeyed {α : Type} (same : α → α → Bool) (pick : List α → Option α) (lists : List (Nat × List α))
    (kept : List (Nat × α)) : List α × List (Nat × α) :=
  let all := lists.flatMap (·.2)
  let firsts := all.foldl (fun (l : List α) x => if l.any (same x) then l else l ++ [x]) []
  let groups := firsts.map (fun x => (x, lists.filterMap (fun l => (l.2.find? (same x)).map (fun y => (l.1, y)))))
  let agreed := groups.filterMap (fun p =>
    match pick (p.2.map (·.2)) with
    | some y => some y
    | none => match p.2, kept.find? (fun q => same p.1 q.2) with
      | [(r, y)], some (q, z) => if r < q then pick [y, z] else if q < r then pick [z, y] else none
      | _, _ => none)
  let alone := (groups.filter (fun p => !kept.any (fun q => same p.1 q.2))).filterMap (fun p =>
    match p.2 with
    | [x] => some x
    | _ => none)
  (agreed, alone)

/-! ### The agreed snapshot -/

/-- Stations alive (R382): a majority of three, both of two. -/
def agreeAlive (l : List Contribution) : Nat :=
  match l.map (fun c => c.snap.alive) with
  | [a, b] => bitmap 64 (fun j => bitOf a j && bitOf b j)
  | a :: b :: c :: _ => bitMajority 64 a b c
  | [a] => a
  | [] => 0

/-- What contributions may differ in. -/
def comparable (c : Contribution) : List SnapItem × Nat × List BatchRow × List WfReport :=
  (c.snap.items, c.snap.alive, c.snap.batch, c.snap.entered)

/-- Contributions differ in an item. -/
def differ (l : List Contribution) : Bool :=
  match l with
  | [] => false
  | a :: r => r.any (fun c => decide (comparable a ≠ comparable c))

/-- An EVT_SEQ of a contribution as the agreed reports number it. -/
def renumber (l : List Contribution) (new : List WfReport) (q : Nat) : Nat :=
  let old := l.findSome? (fun c => c.snap.entered.find? (fun r => !r.remote && r.seq == q))
  match old.bind (fun r => new.find? (sameReport r)) with
  | some r => r.seq
  | none => q

/-- A Larkspur record carries the agreed EVT_SEQ. -/
def renumberItem (l : List Contribution) (new : List WfReport) (i : SnapItem) : SnapItem :=
  if i.kind = 3 then { i with value := patch i.value 0 (leBytes 4 (renumber l new (leAt i.value 0 4))) } else i

/-- Local reports take EVT_SEQ as they enter the agreed snapshot (R384, 07 R240). -/
def numberReports (q : Nat) : List WfReport → List WfReport
  | [] => []
  | r :: l =>
    if r.remote then r :: numberReports q l
    else { r with seq := (q + 1) % 2 ^ 32 } :: numberReports ((q + 1) % 2 ^ 32) l

/-- The result of an agreement: the snapshot, and the rows and reports held over (R384). -/
structure Agreement where
  snap : Snapshot
  rows : List (Nat × BatchRow)
  reports : List (Nat × WfReport)

/-- The agreement of two or three contributions, given by rising rank. A station that more than half of them show as
dropped and returned between the cut-offs is both in the agreed one (08 R276; log entry 112); `was` is the stations alive in the pool before,
`seq` the EVT_SEQ of the last report agreed. -/
def agreeSnapshots (was seq : Nat) (keptRows : List (Nat × BatchRow)) (keptReports : List (Nat × WfReport))
    (base : Snapshot) (l : List Contribution) : Agreement :=
  let rows := agreeKeyed sameRow agreeRow (l.map (fun c => (c.rank, c.snap.batch))) keptRows
  let new := agreeKeyed sameReport agreeReport (l.map (fun c => (c.rank, c.snap.entered))) keptReports
  let numbered := numberReports seq new.1
  let old := (base.reports.filter (fun p => !base.entered.contains p.1)).map (fun p => (p.1, p.2))
  let held := numbered.filter (fun r => r.remote || base.reports.any (fun p => sameReport r p.1)
    || !base.entered.any (sameReport r))
  let alive := agreeAlive l
  let blink (j : Nat) : Bool :=
    decide (l.length < 2 * (l.filter (fun c => bitOf c.snap.drops j && bitOf c.snap.returns j)).length)
  let items := base.items.map (fun i => renumberItem l numbered (agreeItem base l i))
  let sn : Snapshot := { base with
    alive := alive
    drops := bitmap 64 (fun j => bitOf was j && !bitOf alive j || blink j)
    returns := bitmap 64 (fun j => !bitOf was j && bitOf alive j || blink j)
    batch := rows.1
    items := items
    entered := numbered
    reports := old ++ held.map (fun r => (r, base.frame - 1)) }
  ⟨sn, rows.2, new.2⟩

end Sys2Proof.Machine
end

