-- ==== Sys2Proof/Machine/Lockstep.lean ====
section
/-! DEFINITION. Comparators, their injected test, STATE_SIG and debug taint (13). -/

namespace Sys2Proof.Machine

/-- The LCK_EVENT flag of a comparator mismatch of unit `u` (R411). -/
def mismatchEv (u : Nat) : Ev := if u < 8 then Ev.lckBusMismatch else Ev.lckDpMismatch

/-- A mismatch or difference is recorded only: RECORD is set and counted (R405). -/
def recordOnly (cnt : Fld) (s : State) : State := (s.bump cnt).raise Ev.lckRecord

/-- COMPARATOR_MISMATCH (R394, R395): a mismatch of an acting comparator blocks releases and updates and makes the
module FAILED; under taint a unit of 0 to 6 only records it; in split mode units 0 to 3 do not compare. -/
def execComparatorMismatch (unit port : Nat) (s : State) : Out :=
  .next (
    if unitActs s unit then
      fail (if unit < 8 then 0x01 else 0x02) unit port true (s.raise (mismatchEv unit))
    else if unitCompares s unit then recordOnly (Reg.lckUnitRecBusRecCnt unit) s
    else s)

/-- DELAY_PAR (R396): a parity error in a delay register of a lock-stepped pair acts under R395, debug taint or not: only
mismatches and STATE_SIG differences are recorded alone (R405). -/
def execDelayPar (unit port : Nat) (s : State) : Out :=
  .next (if unit < 7 && unitCompares s unit then fail 0x03 unit port true (s.raise Ev.lckDelayPar) else s)

/-- COMP_FAIL (R397): a checker tree whose rails lose complement acts under R395, debug taint or not. -/
def execCompFail (unit : Nat) (s : State) : Out :=
  .next (if unitCompares s unit then fail 0x05 unit 0xFF true (s.raise Ev.lckCompFail) else s)

/-- The lowest unit of a bitmap among those whose comparator acts. -/
def firstActing (m : Nat) (s : State) : Option Nat := (List.range 16).find? (fun u => bitOf m u && unitActs s u)

/-- STATE_SIG_COMPARE (R401): by T0+205 us the values of every acting unit 0 to 6 are compared; `differ` names the
units whose trailing core has folded another value than the leading core's. Under taint a difference is recorded only (R405). -/
def execStateSigCompare (differ : Nat) (s : State) : Out :=
  .next (
    let s := toPhase 205000 s
    if !s.on Reg.lckDiagCtrlStateSigEn then s
    else
      let rec' : List Nat := (List.range 7).filter (fun u =>
        bitOf differ u && s.taint && unitCompares s u)
      let s := rec'.foldl (fun s u => recordOnly (Reg.lckUnitRecStateRecCnt u) s) s
      match firstActing (differ % 128) s with
      | some u => fail 0x04 u 0xFF true (s.raise Ev.lckStateSig)
      | none => s)

/-- INJECTED_COMPARATOR_TEST (R398, R399): from T0+224 us every acting comparator is tested for one cycle; `failed`
names the units whose test fails, `real` those whose real mismatch in the cycle before prevails, so that their test
is not run. A failed test acts under R395; under taint a real mismatch of units 0 to 6 is recorded only (R405). -/
def execInjectedComparatorTest (failed real : Nat) (s : State) : Out :=
  .next (
    let s := toPhase 224000 s
    if !s.on Reg.lckDiagCtrlInjectEn then s
    else
      let bad := (List.range 16).filter (fun u => unitCompares s u && bitOf failed u && !bitOf real u)
      let seen : List Nat := (List.range 7).filter (fun u => bitOf real u && s.taint && unitCompares s u)
      let s := seen.foldl (fun s u => recordOnly (Reg.lckUnitRecBusRecCnt u) s) s
      let m := bad.foldl (fun m u => m + 2 ^ u) 0
      let s := (s.wrapUp Reg.lckTestsRunCnt).set Reg.lckTestUnitsFailed m
      let s := s.setBit Reg.lckTestLastOk (m == 0)
      let s := match bad with
        | [] => s
        | u :: _ => fail 0x05 u 0xFF true (s.raise Ev.lckCompFail)
      match firstActing real s with
      | some u => fail (if u < 8 then 0x01 else 0x02) u 0xFF true (s.raise (mismatchEv u))
      | none => s)

/-- Taint reaches the role (R406): an owner with an untainted STANDBY peer announces and releases OWN and becomes
STANDBY with its claim logic disarmed; an owner without one keeps OWN and is ALONE; a STANDBY is disarmed. A bench
module keeps role and outputs. -/
def taintRole (s : State) : State :=
  if s.bench then s
  else if s.held then
    if goodStandby s then
      let s := toPeers "TAINT_RELEASE" [s.get Reg.sysPositionSlotId] s
      let s : State := recordOwn 3 (releaseOwn .hold s)
      enterRole roleStandby (cancelHandover (countMove s))
    else reviewOwner s
  else disarm s

/-- An access of master 0x20 sets debug taint and turns units 0 to 6 to record-only (R22, R405). -/
def setTaint (s : State) : State :=
  if s.taint then s
  else
    let s := (s.setBit Reg.sysModeTaint true).raise Ev.lckTaint
    refreshLck (taintRole s)

/-- DEBUG_ACCESS. -/
def execDebugAccess (s : State) : Out := .next (setTaint s)

end Sys2Proof.Machine
end

