-- ==== Sys2Proof/Machine/Time.lean ====
section
/-! DEFINITION. The timebase commands and the TIME family (02): sources and their locks, the servo, the tick master's
arbitration on TIME_BUS, FRAME_SYNC, time faults. -/

namespace Sys2Proof.Machine

/-! ### Sources (R44, R47, R67) -/

/-- The present offset of a kept sample: corrected for what the counter has moved since (R47). -/
def presentOfs (s : State) (kept : Int) : Int := kept - s.time.adj

/-- The filtered offset: the mean of the last 16 accepted samples, of those there are while they are fewer, rounded
toward minus infinity (R47, log entries 22, 136). -/
def filteredOfs (s : State) (n : Nat) : Int :=
  let h := (s.src n).hist
  if h.isEmpty then 0 else presentOfs s ((h.foldl (· + ·) 0) / (h.length : Int))

/-- A source loses its lock. -/
def unlock (n : Nat) (s : State) : State :=
  let s := (s.setBit (Reg.timSrcLocked n) false).setBit (Reg.timSrcFine n) false
  let s := updSrc n (fun c => { c with run := 0 }) s
  let s : State := if s.time.ownSel = n then { s with time := { s.time with lockHeld60 := false } } else s
  if (List.range 6).any (srcLocked s) then s else enterHoldover s

/-- The source of highest priority among the available ones that pass a test. -/
def bestOf (ok : Nat → Bool) (s : State) : Nat :=
  ((List.range 6).foldl (fun b n =>
    let p := cfgSrcPrio s n
    if p ≠ 0 && s.on (Reg.timSrcAvailable n) && ok n && (b.2 == 0 || p < b.2) then (n, p) else b) (15, 0)).1

/-- The source of highest priority among the available ones (R44); one that a disagreement has set aside is taken only
where there is no other (R67). -/
def bestSource (s : State) : Nat :=
  let n := bestOf (fun n => !s.time.barred.contains n) s
  if n < 6 then n else bestOf (fun _ => true) s

/-- Switches to a source, after removing the current one's lock (R44). -/
def switchTo (n : Nat) (s : State) : State :=
  if s.time.ownSel = n then s
  else
    let old := s.time.ownSel
    let s := if old < 6 && srcLocked s old then unlock old (updSrc old (fun c => { c with hist := [] }) s) else s
    { s with time := { s.time with ownSel := n, lockHeld60 := false } }

/-- Locks a source: FAULT clears, the time lost at start is over (R47, R67; log entry 137). -/
def lock (n : Nat) (s : State) : State :=
  let s := ((s.setBit (Reg.timSrcLocked n) true).setBit (Reg.timSrcFault n) false).setBit (Reg.timSrcAvailable n) true
  setTimeFault 5 false { s with time := { s.time with everLocked := true } }

/-- AGREE of each source: within DISAGREE_NS of the selected one (R72); the disagreement fault ends when every two
locked sources agree, and a source set aside comes back once it is locked and agrees with the selected one (R67; log
entry 138). -/
def refreshAgree (s : State) : State :=
  let sel := s.time.ownSel
  let near a b := (filteredOfs s a - filteredOfs s b).natAbs ≤ cfgDisagree s
  let s' := (List.range 6).foldl (fun t n =>
    t.setBit (Reg.timSrcAgree n) (sel < 6 && srcLocked s n && srcLocked s sel && near n sel)) s
  let all := (List.range 6).all (fun a => (List.range 6).all (fun b => !(srcLocked s a && srcLocked s b) || near a b))
  let s' : State := { s' with time := { s'.time with
    barred := s'.time.barred.filter (fun n => !(srcLocked s n && sel < 6 && srcLocked s sel && near n sel)) } }
  if all then setTimeFault 2 false s' else s'

/-- Selects the available source of highest SRC_PRIO (R44) and shows who agrees with it. -/
def selectSource (s : State) : State := reviewTime (refreshAgree (switchTo (bestSource s) s))

/-- A sample discarded as a jump ends a run towards lock; the eighth in a row makes the source lose its lock and become
unavailable (R52, R67). -/
def jumpSample (n : Nat) (s : State) : State :=
  let s := updSrc n (fun c => { c with jumps := c.jumps + 1, run := 0 }) (s.raise Ev.timJump)
  if 8 ≤ (s.src n).jumps then
    let s := unlock n (updSrc n (fun c => { c with jumps := 0, hist := [] }) s)
    selectSource ((s.setBit (Reg.timSrcAvailable n) false).setBit (Reg.timSrcFault n) true)
  else s

/-- 16 samples agree with one another within 1 us, each corrected for the counter's movements (R47). -/
def sixteenAgree (h : List Int) : Bool :=
  h.length == 16 && h.all (fun a => h.all (fun b => (a - b).natAbs ≤ 1000))

/-- The selected source steers the counter, unless the module follows the tick master or the group leader (R57, R58,
R65). -/
def steer (n : Nat) (ofs : Int) (s : State) : State :=
  if s.get Reg.timStatusSource = n && srcLocked s n then servo ofs (s.setInt Reg.timOffsetOfs ofs) else s

/-- Takes a sample of source `n` into its history. -/
def keepSample (n : Nat) (ofs : Int) (s : State) : State :=
  let k := ofs + s.time.adj
  updSrc n (fun c => { c with hist := (k :: c.hist).take 16, jumps := 0 }) (s.setInt (Reg.timSrcOfsOfs n) ofs)

/-- A sample of a locked source differs by more than 1 us from its predicted offset (R67). -/
def isJump (n : Nat) (ofs : Int) (s : State) : Bool :=
  srcLocked s n && !(s.src n).hist.isEmpty && 1000 < (ofs - filteredOfs s n).natAbs

/-- A port in use takes PTP messages of its one domain, where its profile is on and its secure channel is up (R46, 08 R253,
R273). -/
def ptpHears (s : State) (port domain : Nat) : Bool :=
  port ≤ 3 && portOpen s port && cfgProfile s port != 0 && domain == cfgDomain s port

/-- PTP_OFFSET_SAMPLE (R47): the operand is the offset of the source minus the counter in ns, before the port's
ASYM_PS, whose whole ns are added (log entry 139). It is discarded as a jump or accepted; 16 that agree give coarse
lock; source selection and the servo follow. -/
def execPtpOffsetSample (port domain : Nat) (ofs : Int) (s : State) : Out :=
  .next (
    if !ptpHears s port domain then s
    else
      let ofs := ofs + cfgAsym s port / 1000
      if isJump port ofs s then reviewTime (jumpSample port s)
      else
        let s := keepSample port ofs s
        let s := if s.on (Reg.timSrcFault port) then s else s.setBit (Reg.timSrcAvailable port) true
        let s := if !srcLocked s port && sixteenAgree (s.src port).hist then lock port s else s
        refreshQuality (steer port ofs (selectSource s)))

/-- FINE_LOCK (R47): the filtered offset has stayed within half the profile's bound for 10 s; one that lies outside it
now has not. -/
def execFineLock (src : Nat) (s : State) : Out :=
  .next (
    if src ≤ 3 && srcLocked s src && decide (2 * (filteredOfs s src).natAbs ≤ profileBound s src) then refreshQuality (s.setBit (Reg.timSrcFine src) true) else s)

/-- LOCK_LOSS (R47): no valid sample for 3 s, or the announce receipt timeout: the source loses its lock and delivers
no samples; the last lock lost is holdover entry (R55). -/
def execLockLoss (src : Nat) (s : State) : Out :=
  .next (
    if 5 < src then s
    else
      let was := srcLocked s src
      let s := updSrc src (fun c => { c with hist := [], jumps := 0, run := 0 }) s
      let s := if was then unlock src s else s
      selectSource (s.setBit (Reg.timSrcAvailable src) false))

/-- The servo's part in a frame or edge of source 4 or 5 (R52): where 1PPS gives the phase of IRIG-B, an IRIG-B frame
corrects whole seconds alone. -/
def steerRun (n : Nat) (ofs : Int) (s : State) : State :=
  if n = 4 && s.get Reg.timStatusSource = 5 && bitOf (cfgIrigMode s) 1 && srcLocked s 4 then
    let sec := (ofs + 500000000) / 1000000000
    if sec = 0 then s else servo (sec * 1000000000) s
  else steer n ofs s

/-- A frame or edge counts towards the lock of source 4 or 5 after four in a row (R51, R52), `run` being the count with
it; a locked source steers. -/
def countRun (n run : Nat) (ofs : Int) (s : State) : State :=
  if isJump n ofs s then reviewTime (jumpSample n s)
  else
    let s := keepSample n ofs s
    let s := updSrc n (fun c => { c with run := run, last := ofs + s.time.adj }) s
    let s := if s.on (Reg.timSrcFault n) then s else s.setBit (Reg.timSrcAvailable n) true
    let s := if !srcLocked s n && 4 ≤ (s.src n).run then lock n s else s
    refreshQuality (steerRun n ofs (selectSource s))

/-- IRIGB_FRAME (R50, R51): the frame names a local second, UTC plus the local offset; it is converted to TAI with the
offset of R49, without which, or with a quality worse than 1 us, the source is unavailable. The extension is read where
IRIG_MODE selects it; without it the local offset counts as 0 (log entry 140). A frame is consistent with the previous
one where their offsets differ by at most 1000 ns (log entry 141). -/
def execIrigbFrame (localSec : Nat) (x : IrigExt) (s : State) : Out :=
  .next (
    let ext := bitOf (cfgIrigMode s) 0
    let s : State := { s with time := { s.time with irigLeap := ext && x.leapPending } }
    if !s.on Reg.timTaiUtcKnown || (ext && x.badQuality) then
      let s := if srcLocked s 4 then unlock 4 s else s
      selectSource (updSrc 4 (fun c => { c with run := 0, hist := [] })
        (s.setBit (Reg.timSrcAvailable 4) false))
    else
      let utc : Int := (localSec : Int) - (if ext then x.localOfs else 0)
      let tai : Int := utc + s.get Reg.timTaiUtcOffset
      let ofs : Int := tai * 1000000000 + cfgIrigDelay s - s.now
      let near : Bool := (s.src 4).run ≠ 0 && (ofs - presentOfs s (s.src 4).last).natAbs ≤ 1000
      countRun 4 (if near then (s.src 4).run + 1 else 1) ofs s)

/-- PPS_EDGE (R45, R52): the edge that PPS_CFG selects is assigned to the nearest whole second; one more than 400 ms from
it is a jump; one more than 1 us from it ends the run towards lock. -/
def execPpsEdge (falling : Bool) (s : State) : Out :=
  .next (
    if falling != cfgPpsFalling s then s else
    let sec := (s.now + 500000000) / nsPerS
    let raw : Int := ((sec * nsPerS : Nat) : Int) - s.now
    if 400000000 < raw.natAbs then reviewTime (jumpSample 5 s)
    else
      let ofs := raw + cfgPpsDelay s
      countRun 5 (if ofs.natAbs ≤ 1000 then (s.src 5).run + 1 else 0) ofs s)

/-- DISAGREE (R67): two locked sources have differed by more than DISAGREE_NS for 4 s; where two others agree and
differ from the selected one, the best of them is selected and the former one is set aside. -/
def execDisagree (s : State) : Out :=
  .next (
    let near a b := (filteredOfs s a - filteredOfs s b).natAbs ≤ cfgDisagree s
    let locked := (List.range 6).filter (srcLocked s)
    if locked.all (fun a => locked.all (near a)) then s
    else
      let sel := s.time.ownSel
      let s := setTimeFault 2 true (s.raise Ev.timDisagree)
      let agreeing := locked.filter (fun a => a != sel && !near a sel &&
        locked.any (fun b => b != a && b != sel && near a b && !near b sel))
      match agreeing with
      | [] => reviewTime s
      | a :: r =>
        let best := r.foldl (fun m n => if cfgSrcPrio s n < cfgSrcPrio s m then n else m) a
        let s : State := if sel < 6 then { s with time := { s.time with barred := sel :: s.time.barred.filter (· ≠ sel) } } else s
        reviewTime (refreshAgree (switchTo best s)))

/-! ### OCXO (R67) -/

/-- OCXO_STOPPED: the module goes FAILED with class 0x0F. -/
def execOcxoStopped (s : State) : Out :=
  .next (fail 0x0F 0xFF 0xFF false (refreshQuality (setTimeFault 0 true (s.raise Ev.timOcxoFault))))

/-- OCXO_FREQ_CHECK: the check of each second; `which` is 0 for the OCXO, 1 for another domain clock, 2 for the SEC
oscillator. A deviation over 200 ppm makes the module FAILED with its class. -/
def execOcxoFreqCheck (which ppm : Nat) (s : State) : Out :=
  .next (
    if ppm ≤ 200 then s
    else match which with
      | 0 => fail 0x0F 0xFF 0xFF false (refreshQuality (setTimeFault 0 true (s.raise Ev.timOcxoFault)))
      | 1 => fail 0x10 0xFF 0xFF true s
      | _ => fail 0x11 0xFF 0xFF false s)

/-- OCXO_DRIFTING: servo demand beyond 40 ppm for 10 s; the module becomes ineligible. -/
def execOcxoDrifting (s : State) : Out :=
  .next (refreshQuality (setTimeFault 1 true (s.raise Ev.timOcxoFault)))

/-- OCXO_WARM (19 R522): TIM_STATUS.OCXO_WARM is set and warm-up power ends. -/
def execOcxoWarm (s : State) : Out := .next (s.setBit Reg.timStatusOcxoWarm true)

/-! ### Counter writes and slewing (R39, R40, R58) -/

/-- A write of TIM_RATE_ADJ: the rate is clamped to 429 497; within 40 ppm a drifting fault ends (R40, R67; log
entry 142). -/
def writeRate (value : Int) (s : State) : State :=
  let v : Int := if value < -429497 then -429497 else if 429497 < value then 429497 else value
  let s := s.setInt Reg.timRateAdjRate v
  if v.natAbs ≤ 343597 then reviewTime (setTimeFault 1 false s) else s

/-- TIM_RATE_ADJ_WRITE. -/
def execTimRateAdjWrite (value : Int) (s : State) : Out := .next (writeRate value s)

/-- A write of TIM_SLEW_REM: the new value replaces the remainder (R58). -/
def writeSlew (value : Int) (s : State) : State := refreshQuality (s.setInt Reg.timSlewRemRem value)

/-- TIM_SLEW_REM_WRITE. -/
def execTimSlewRemWrite (value : Int) (s : State) : Out := .next (writeSlew value s)

/-- One TIME cycle of 2 ns plus the rate correction, with `extra` slew ns; and whether the fraction carried into the
nanoseconds (1) or borrowed from them (-1) (R39). -/
def timeCycle (extra : Int) (s : State) : Int × State :=
  let f : Int := s.time.frac + s.getInt Reg.timRateAdjRate
  let carry := f / 4294967296
  let t : Int := s.now + 2 + carry + extra
  let s : State := { s with time := { s.time with frac := (f % 4294967296).toNat, cycles := s.time.cycles + 1 } }
  (carry, elapse (t.toNat - s.now) (s.setNow t.toNat))

/-- SLEW_CORRECTION (R39): the 125th TIME cycle adds or removes one slew nanosecond and moves TIM_SLEW_REM towards 0;
where the fraction carries (for +1) or borrows (for -1) in that cycle, the next one does. -/
def execSlewCorrection (s : State) : Out :=
  .next (
    let rem := s.getInt Reg.timSlewRemRem
    if rem = 0 then s
    else
      let d : Int := if 0 < rem then 1 else -1
      let carry := (timeCycle 0 s).1
      let s := if carry = d then (timeCycle d (timeCycle 0 s).2).2 else (timeCycle d s).2
      let s : State := { s with time := { s.time with
        adj := s.time.adj + d, slewCycle := s.time.cycles, slewUp := decide (0 < d) } }
      refreshQuality (s.setInt Reg.timSlewRemRem (rem - d)))

/-! ### Announce, leap, Delay_Req (R46, R49) -/

/-- PTP_ANNOUNCE: currentUtcOffset and the leap flags are taken; the receipt timeout restarts. -/
def execPtpAnnounce (port domain : Nat) (utcValid : Bool) (utcOffset : Nat) (leap61 leap59 : Bool) (s : State) : Out :=
  .next (
    if !ptpHears s port domain then s
    else refreshTai (updSrc port (fun c =>
      { c with utc := if utcValid then some utcOffset else none, leap61 := leap61, leap59 := leap59 }) s))

/-- PTP_DELAY_REQ: the port sends its own two-step Delay_Req (high-accuracy default) or Pdelay_Req (R46). -/
def execPtpDelayReq (port : Nat) (s : State) : Out :=
  .next (
    if 3 < port || cfgProfile s port = 0 then s
    else
      let q := s.time.delayReqSeq.getD port 0
      let s : State := { s with time := { s.time with
        delayReqSeq := listSet s.time.delayReqSeq port (fun n => (n + 1) % 65536) } }
      netTx port (if cfgProfile s port = 1 then "Delay_Req" else "Pdelay_Req") [q] s)

/-- LEAP_APPLY (R13, R49): the TAI instant of the pending leap; the offset changes and the counter does not. The offset
of SET_TAI_UTC and that of each PTP source change with it, and their leap flags end (log entry 181); with both flags
set the leap is a positive one (log entry 182). -/
def execLeapApply (s : State) : Out :=
  .next (
    let o := s.get Reg.timTaiUtcOffset
    let l61 := s.on Reg.timTaiUtcLeap61
    let l59 := s.on Reg.timTaiUtcLeap59
    if !s.on Reg.timTaiUtcKnown || !(l61 || l59) then s
    else
      let n := if l61 then o + 1 else o - 1
      let s : State := { s with time := { s.time with
        setTai := s.time.setTai.map (fun _ => (n, false, false))
        srcs := s.time.srcs.map (fun c => { c with
          utc := c.utc.map (fun u => u + (if l61 then 1 else -1)), leap61 := false, leap59 := false }) } }
      setTaiUtc true n false false s)

/-! ### FRAME_SYNC (R66) -/

/-- A SYNC_MISS of a follower; the 16th in a row while words stay valid makes it flag FAULT and steer by its own
source (R66, R67). -/
def syncMiss (s : State) : State :=
  let s : State := { s with time := { s.time with syncMisses := s.time.syncMisses + 1 } }
  let s := s.raise Ev.timSyncMiss
  if 16 ≤ s.time.syncMisses ∧ s.time.wordValid then reviewTime (setTimeFault 3 true s) else s

/-- FRAME_SYNC_EDGE: the edge minus the own tick, in ns, which TIM_SYNC_PHASE shows (R72). SYNC_DELAY_NS is subtracted
before the edge is judged and followed (R65, R66; log entry 143). -/
def execFrameSyncEdge (phaseNs : Int) (s : State) : Out :=
  .next (
    if s.get Reg.timStatusTickRole ≠ 1 then s
    else
      let p := phaseNs - cfgSyncDelay s
      let s : State := { s with time := { s.time with edgeSeen := true } }
      let s := s.setInt Reg.timSyncPhasePhase phaseNs
      if 100 < p.natAbs then syncMiss s
      else
        let s := setTimeFault 3 false { s with time := { s.time with syncMisses := 0 } }
        let s := reviewTime s
        if s.get Reg.timStatusSource = 6 then refreshQuality (servo (-p) (s.setInt Reg.timOffsetOfs (-p))) else s)

/-- SYNC_FAULT (R67): the 16th consecutive miss while words stay valid. -/
def execSyncFault (s : State) : Out :=
  .next (
    if s.get Reg.timStatusTickRole ≠ 1 then s
    else syncMiss { s with time := { s.time with syncMisses := 15, wordValid := true } })

/-! ### TIME_BUS (R63-R66) -/

/-- The bits of a number, most significant first. -/
def msbBits : Nat → Nat → List Bool
  | 0, _ => []
  | n + 1, v => bitOf v n :: msbBits n v

/-- The number of a bit list, most significant first. -/
def ofMsb (l : List Bool) : Nat := l.foldl (fun a b => 2 * a + b2n b) 0
where
  b2n (b : Bool) : Nat := if b then 1 else 0

/-- One step of the CRC-16 register of R63. -/
def crc16Step (r : Nat) (b : Bool) : Nat :=
  let top := bitOf r 15 != b
  let r := r * 2 % 65536
  if top then Nat.xor r 0x1021 else r

/-- The CRC-16 of R63 over a bit string. -/
def crc16 (l : List Bool) : Nat := l.foldl crc16Step 0xFFFF

/-- Bits [i:j] of a word in bus order: bit i of the list is bus bit i. -/
def busField (w : List Bool) (i j : Nat) : Nat := ofMsb ((w.drop i).take (j + 1 - i))

/-- The module arbitrates in this frame (R64): the tick master, an eligible module above the last winner's PRIO, or
any with TIME_PRIO not 0 after a missing word. A module that has no tick role yet waits for a word or for four missing
ones (R66). -/
def arbitrates (s : State) : Bool :=
  s.role != roleFailed && s.get Reg.timStatusTickRole != 0 &&
  (s.get Reg.timStatusTickRole == 2 || (eligible s && s.get Reg.timArbMasterPrio < effPrio s) ||
    (!s.time.wordValid && cfgTimePrio s != 0))

/-- What a module sends in bits 0 to 13: inverted PRIO and SLOT; the lower number wins (R63). -/
def arbKey (prio slot : Nat) : Nat := (255 - prio) * 64 + slot

/-- The own word of this frame (R63). -/
def ownWord (s : State) (run : Bool) : List Bool :=
  let body := msbBits 48 (s.t0 / nsPerS) ++ msbBits 12 (frameOf s.t0) ++ msbBits 3 (s.get Reg.timStatusClass)
    ++ [s.on Reg.timStatusLeapKnown, s.on Reg.timStatusSlewing, s.on Reg.timStatusFault, s.on Reg.timTaiUtcLeap61,
        s.on Reg.timTaiUtcLeap59]
    ++ msbBits 16 (satTo 65535 (s.get Reg.timEstErrErr)) ++ msbBits 13 (s.get Reg.timTaiUtcOffset)
  msbBits 8 (255 - effPrio s) ++ msbBits 6 (s.get Reg.sysPositionSlotId) ++ [!run] ++ body ++ msbBits 16 (crc16 body)

/-- What a module drives on the 128 bits of the bus (R63): an arbitrating one its bits 0 to 13 up to the bit at which it
withdraws, the winner its whole word, and every module in RUN bit 14; all else stays recessive. `least` is the lowest
key that arbitrates. -/
def drivenWord (s : State) (own wins : Bool) (least : Nat) (ownRun run : Bool) : List Bool :=
  if wins then ownWord s run
  else
    let me := msbBits 14 (arbKey (effPrio s) (s.get Reg.sysPositionSlotId))
    let agree := ((me.zip (msbBits 14 least)).takeWhile (fun p => p.1 == p.2)).length
    let head := if own then me.take agree ++ List.replicate (14 - agree) true else List.replicate 14 true
    head ++ [!ownRun] ++ List.replicate 113 true

/-- A word is missing (R63): a follower becomes CANDIDATE, and so does a module without a tick role at the fourth one in a
row (R66); misses of FRAME_SYNC count anew (R67). -/
def wordMissing (s : State) : State :=
  let s : State := { s with time := { s.time with
    wordValid := false, wordsMissing := s.time.wordsMissing + 1, syncMisses := 0 } }
  let r := s.get Reg.timStatusTickRole
  if r = 1 ∨ (r = 0 ∧ s.role ≠ roleFailed ∧ 4 ≤ s.time.wordsMissing) then setTickRole 3 s else s

/-- The follower's own count against the word's (R66, R67): before RUN_LOCK it loads the word's values, under RUN_LOCK
it flags FAULT and keeps its own. -/
def matchCount (sec k : Nat) (s : State) : State :=
  let t := sec * nsPerS + k * frameNs
  if t = s.t0 then setTimeFault 4 false s
  else if s.on Reg.timStatusRunLock then setTimeFault 4 true s
  else setTimeFault 4 false (stepCounter (t + (s.now - s.t0)) s)

/-- A valid word of another module: its winner is the tick master, and a follower takes its time, class, TAI-UTC and
leap flags (R63, R65, R66). -/
def followWord (w : List Bool) (s : State) : State :=
  let s := setTickRole 1 s
  let s : State := { s with time := { s.time with
    drivesSync := false, masterClass := busField w 75 77, masterErr := busField w 83 98
    masterSlews := busField w 79 79 == 1 } }
  let s := matchCount (busField w 15 62) (busField w 63 74) s
  setTaiUtc (busField w 78 78 == 1) (busField w 99 111) (busField w 81 81 == 1) (busField w 82 82 == 1) s

/-- The module wins the arbitration of this frame (R65, R66): it is the tick master and drives FRAME_SYNC from the next
tick; the faults of a follower do not stand (R67). -/
def winWord (s : State) : State :=
  setTimeFault 3 false (setTimeFault 4 false
    (setTickRole 2 { s with time := { s.time with drivesSync := true, syncMisses := 0 } }))

/-- The module loses the arbitration of this frame (R66): it follows, and drives FRAME_SYNC no longer. -/
def loseWord (s : State) : State :=
  setTickRole 1 { s with time := { s.time with drivesSync := false } }

/-- TIME_BUS_WORD (R63): `others` are the PRIO and SLOT of the other modules that arbitrate, `word` the 128 bits as
received where another module wins, bus bit i being bit 127-i of the number. RUN of every module is seen in bit 14
whether or not the rest is valid. A word may be lost to a bad CRC by the module that lost its arbitration. The own word
is formed from the state that arbitrated; a FAILED module drives nothing (R66). -/
def execTimeBusWord (others : List (Nat × Nat)) (word : Nat) (s : State) : Out :=
  .next (
    let w := msbBits 128 word
    let own := arbitrates s
    let me := arbKey (effPrio s) (s.get Reg.sysPositionSlotId)
    let wins := own && others.all (fun o => me < arbKey o.1 o.2)
    let least := others.foldl (fun m o => if arbKey o.1 o.2 < m then arbKey o.1 o.2 else m) me
    let ownRun := s.role != roleFailed && (s.prog.state == .run || s.prog.state == .changing)
    let run := ownRun || !(w.getD 14 true)
    let prio := effPrio s
    let driven := ofMsb (drivenWord s own wins least ownRun run)
    let s := toPhase 12240 s
    let valid := wins || (!others.isEmpty && crc16 (w.drop 15) == 0)
    let s :=
      if wins then winWord s
      else if valid then followWord w s
      else wordMissing (if own then loseWord s else s)
    let s : State := if !valid then s else
      let arb := if wins then (prio, s.get Reg.sysPositionSlotId) else (255 - busField w 0 7, busField w 8 13)
      ({ s with time := { s.time with wordValid := true, wordsMissing := 0 } }.set Reg.timArbMasterPrio arb.1).set
        Reg.timArbMasterSlot arb.2
    let s := if own || ownRun then s.send (.net 5 "TIME_BUS" [driven]) else s
    reviewTime (refreshRunLock { s with time := { s.time with busRun := run } }))

/-- TIME_BUS_WORD_MISSING (R66): the word of a frame is missing; at the fourth one in a row after feed on a module
without a tick role becomes CANDIDATE. -/
def execTimeBusWordMissing (s : State) : Out := .next (reviewTime (wordMissing s))

/-- TICK_ELIGIBLE (R64): the own selected source has been locked for 60 s without a time fault; a follower above the
master's PRIO becomes CANDIDATE. -/
def execTickEligible (s : State) : Out :=
  .next (
    if s.time.ownSel < 6 && srcLocked s s.time.ownSel && s.time.faults == 0 then
      reviewTime { s with time := { s.time with lockHeld60 := true } }
    else s)

/-! ### The TIME family (R68-R71) -/

/-- The flags of the time record (R56); `step` tells whether a step fell in its frame. -/
def timeFlags (step : Bool) (s : State) : Nat :=
  b2 (s.on Reg.timStatusSlewing) + 2 * b2 (s.on Reg.timStatusFault) + 4 * b2 (s.on Reg.timStatusLeapKnown)
    + 8 * b2 step
where
  b2 (b : Bool) : Nat := if b then 1 else 0

/-- The status record of 36 bytes (R69). -/
def timeStatusRecord (s : State) : List Byte :=
  timeBytes s.now ++ leBytes 2 (s.get Reg.timFrameK) ++ leBytes 1 (s.get Reg.timStatusClass) ++ leBytes 1 (timeFlags s.time.stepFrame s)
    ++ leBytes 1 (s.get Reg.timStatusSource) ++ leBytes 1 (s.get Reg.timStatusTickRole)
    ++ leBytes 4 (s.get Reg.timEstErrErr) ++ leBytes 2 (s.get Reg.timTaiUtcOffset)
    ++ leBytes 1 (s.get Reg.timArbMasterSlot) ++ leBytes 1 (s.get Reg.timArbMasterPrio)
    ++ leBytes 4 (s.get Reg.timSlewRemRem) ++ leBytes 4 (s.get Reg.timHoldTimeSec)
    ++ leBytes 4 (s.reg Reg.timEventStep.addr).toNat

/-- TIME.GET_STATUS. -/
def execTimeGetStatus (r : Req) (s : State) : Out :=
  .next (serve 7 1 r noPayload (fun s => .ok s (timeStatusRecord s)) s)

/-- TIME.GET_SOURCES: TIM_SRCn and TIM_SRCn_OFS for n = 0 to 5. -/
def execTimeGetSources (r : Req) (s : State) : Out :=
  .next (serve 7 2 r noPayload (fun s => .ok s ((List.range 6).flatMap (fun n =>
    leBytes 4 (s.reg (Reg.timSrcPrio n).addr).toNat ++ leBytes 4 (s.reg (Reg.timSrcOfsOfs n).addr).toNat))) s)

/-- TIME.GET_CONFIG. -/
def execTimeGetConfig (r : Req) (s : State) : Out :=
  .next (serve 7 3 r noPayload (fun s => .ok s s.time.cfg) s)

/-- The byte offset of the first field of a TIME_CONFIG that is out of its range (R70). -/
def timeConfigBad (c : List Byte) : Option Nat :=
  let asym := (List.range 4).find? (fun n => 1000000 < (sleAt c (4 * n) 4).natAbs)
  let dom := (List.range 4).find? (fun n => 127 < leAt c (16 + n) 1)
  let prof := (List.range 4).find? (fun n => 3 < leAt c (20 + n) 1)
  let prio := (List.range 6).find? (fun n => let p := leAt c (24 + n) 1
    6 < p || (p != 0 && (List.range n).any (fun m => leAt c (24 + m) 1 == p)))
  match asym, dom, prof, prio with
  | some n, _, _, _ => some (4 * n)
  | none, some n, _, _ => some (16 + n)
  | none, none, some n, _ => some (20 + n)
  | none, none, none, some n => some (24 + n)
  | none, none, none, none =>
    if 1000 < leAt c 34 2 then some 34
    else if leAt c 36 2 < 100 then some 36
    else if 3 < leAt c 41 1 then some 41
    else if 1 < leAt c 42 1 then some 42
    else if leAt c 43 5 ≠ 0 then some 43
    else none

/-- TIME.SET_CONFIG: every field is checked before any applies; the record takes effect at the next tick (R70, R71). -/
def execTimeSetConfig (r : Req) (s : State) : Out :=
  .next (serve 7 4 r (exactly 48) (fun s =>
    match timeConfigBad r.payload with
    | some d => .err s stOutOfRange d
    | none =>
      if groupUpdating s then conflict s
      else
        let s := putConf objTime r.payload (confWrite objTime r.payload s)
        .ok { s with time := { s.time with cfgNext := some r.payload } } []) s)

/-- TIME.STEP: the counter steps while RUN_LOCK is 0 (R57, R58); NANOSECONDS of a second or more is malformed (R38). -/
def execTimeStep (r : Req) (s : State) : Out :=
  .next (serve 7 5 r (exactly 10) (fun s =>
    if nsPerS ≤ leAt r.payload 0 4 then .err s stMalformed 0
    else if s.on Reg.timStatusRunLock then conflict s
    else .ok (refreshQuality (stepCounter (leAt r.payload 4 6 * nsPerS + leAt r.payload 0 4) s)) []) s)

/-- TIME.SET_TAI_UTC: offset in s and the leap flags (R68); both flags at once are taken, and act as LEAP61 (log entry
182). -/
def execTimeSetTaiUtc (r : Req) (s : State) : Out :=
  .next (serve 7 6 r (exactly 3) (fun s =>
    let f := leAt r.payload 2 1
    if 3 < f then .err s stOutOfRange 2
    else .ok (refreshTai { s with time := { s.time with
      setTai := some (leAt r.payload 0 2, bitOf f 0, bitOf f 1) } }) []) s)

/-- An accepted TIME_CONFIG takes effect at the tick (R71). -/
def applyTimeConfig (s : State) : State :=
  match s.time.cfgNext with
  | none => s
  | some c =>
    let s : State := { s with time := { s.time with cfg := c, cfgNext := none } }
    let s := (List.range 6).foldl (fun s n => s.set (Reg.timSrcPrio n) (cfgSrcPrio s n)) s
    selectSource s

/-- The tick as the timebase sees it (R60, R66, R71): the counter reaches T0 of the next frame, TIM_FRAME counts it, an
accepted TIME_CONFIG takes effect, a follower that saw no edge counts a SYNC_MISS, and the tick master drives
FRAME_SYNC. -/
def tickTime (s : State) : State :=
  let next := if s.time.ticked then s.t0 + frameNs else (s.now + frameNs - 1) / frameNs * frameNs
  let missed := s.time.ticked && s.get Reg.timStatusTickRole == 1 && !s.time.edgeSeen
  let s := advanceTo next s
  let s : State := { s with time := { s.time with
    ticked := true, edgeSeen := false, stepFrame := s.time.stepped, stepped := false
    tickCycle := s.time.cycles, tickAt := s.now * 4294967296 + s.time.frac } }
  let s := refreshRunLock (s.set Reg.timFrameK (frameOf s.now))
  let s := if missed then syncMiss s else s
  let s := if s.time.drivesSync then s.send (.net 5 "FRAME_SYNC" [s.now]) else s
  refreshQuality (applyTimeConfig s)

end Sys2Proof.Machine
end

