-- ==== Sys2Proof/Machine/Network.lean ====
section
/-! DEFINITION. Station and process networks (08): GOOSE publication and subscription, redundancy, MACsec, links, and
the application of the network configuration. -/

namespace Sys2Proof.Machine

/-- Changes the networks' part of the state. -/
def State.updNet (s : State) (f : NetSt → NetSt) : State := { s with net := f s.net }

/-- Publication j and subscription i. -/
def State.gpub (s : State) (j : Nat) : GPub := s.net.pubs.getD j {}
def State.gsub (s : State) (i : Nat) : GSub := s.net.subs.getD i {}

/-- Changes subscription i. -/
def State.updSub (s : State) (i : Nat) (f : GSub → GSub) : State :=
  s.updNet (fun x => { x with subs := listSet x.subs i f })

/-! ### GOOSE data (R266) -/

/-- The ASN.1 class of a published type: 1 boolean, 2 bit-string, 3 integer, 4 unsigned, 5 floating-point, 6 utc-time,
0 where it may not be published. -/
def gooseTag (t : Nat) : Nat :=
  match t with
  | 0x01 => 1
  | 0x0A => 2 | 0x0B => 2 | 0x0C => 2
  | 0x02 => 3 | 0x03 => 3 | 0x04 => 3 | 0x05 => 3
  | 0x06 => 4 | 0x07 => 4 | 0x08 => 4
  | 0x0E => 5 | 0x0F => 5
  | 0x17 => 6
  | _ => 0

/-- The bits of a bit-string type. -/
def gooseBits (t : Nat) : Nat := match t with | 0x0A => 2 | 0x0B => 13 | _ => 32

/-- `n` big-endian octets. -/
def beOctets (n v : Nat) : List Nat := (leBytes n v).reverse.map (·.toNat)

/-- The fewest octets that hold an unsigned value. -/
def minUnsigned (v : Nat) : Nat := ((List.range 8).find? (fun n => decide (v < 2 ^ (8 * (n + 1))))).getD 7 + 1

/-- The fewest octets that hold a two's-complement value. -/
def minOctets (v : Int) : Nat :=
  ((List.range 8).find? (fun n => decide (toSigned (8 * (n + 1)) (ofSigned (8 * (n + 1)) v) = v))).getD 8 + 1

/-- Bits 0 to n - 1 of a value as a bit-string: bit 0 first, the unused bits of the last octet 0. -/
def bitString (n v : Nat) : List Nat :=
  ((n + 7) / 8 * 8 - n) :: (List.range ((n + 7) / 8)).map (fun o =>
    (List.range 8).foldl (fun m i => if 8 * o + i < n && bitOf v (8 * o + i) then m + 2 ^ (7 - i) else m) 0)

/-- UTC of a TAI instant in ns: TAI less TAI-UTC. -/
def utcOf (s : State) (t : Int) : Int := t - ((s.get Reg.timTaiUtcOffset * nsPerS : Nat) : Int)

/-- A UTC instant as UtcTime: seconds, a fraction of 24 bits, TimeQuality. -/
def utcOctets (s : State) (utc : Int) : List Nat :=
  let u := utc.toNat
  beOctets 4 (u / nsPerS) ++ beOctets 3 (u % nsPerS * 2 ^ 24 / nsPerS) ++ [timeQuality s]

/-- A member's data octets from its TYPE and value. -/
def gooseOctets (s : State) (t : Nat) (val : List Byte) : List Nat :=
  let v := leNat val
  let n := val.length
  match gooseTag t with
  | 1 => [if v = 0 then 0 else 255]
  | 2 => bitString (gooseBits t) v
  | 3 => let i := toSigned (8 * n) v; beOctets (minOctets i) (ofSigned 64 i)
  | 4 => beOctets (minUnsigned v) v
  | 5 => (if t = 0x0E then 0x08 else 0x0B) :: beOctets n v
  | 6 => utcOctets s (utcOf s (toSigned 64 v))
  | _ => []

/-- The TAI instant in ns of a UtcTime of eight octets: seconds, a fraction of 24 bits, TimeQuality (log entry 183). -/
def utcInstant (taiUtc : Nat) (o : List Byte) : Nat :=
  (leNat ((o.take 4).reverse) + taiUtc) * nsPerS + leNat (((o.drop 4).take 3).reverse) * nsPerS / 2 ^ 24

/-- A member's value for an input item of a TYPE, canonical for it (R271); an integer that the item cannot hold has no
stated value there and is free (log entry 55). -/
def gooseDecode (free taiUtc t : Nat) (size : Nat) (m : Nat × List Byte) : List Byte :=
  let v := leNat m.2
  let n := m.2.length
  match gooseTag t with
  | 1 => leBytes size (if v = 0 then 0 else 1)
  | 2 => leBytes size (v % 2 ^ gooseBits t)
  | 3 => let i := toSigned (8 * n) v
         if toSigned (8 * size) (ofSigned (8 * size) i) = i then leBytes size (ofSigned (8 * size) i)
         else leBytes size free
  | 4 => if v < 2 ^ (8 * size) then leBytes size v else leBytes size free
  | 5 => leBytes size (if n = 4 then (if size = 4 then (if fIsNan .f32 v then FClass.f32.nan else v) else fConvert .f32 .f64 v)
      else (if size = 8 then (if fIsNan .f64 v then FClass.f64.nan else v) else fConvert .f64 .f32 v))
  | 6 => leBytes size (utcInstant taiUtc m.2)
  | _ => leBytes size v

/-! ### Publication (R265-R268) -/

/-- The output item of a unit that writes a destination. -/
def outItemAt (u : LoadUnit) (kind ref : Nat) : Option (Nat × OutItem) :=
  ((List.range u.outs.length).zip u.outs).find? (fun p => p.2.dstKind == kind && p.2.dstRef == ref)

/-- The TYPE and the value of a destination: as last gathered or, where no item of the unit writes it, as the unit before
left it (04 R122, R146). -/
def outAt (s : State) (u : LoadUnit) (kind ref : Nat) : Option (Nat × List Byte) :=
  match outItemAt u kind ref with
  | some p => some (p.2.type, kvGet (fun _ => zeros p.2.size) p.1 s.prog.outVals)
  | none => (s.prog.heldOuts.find? (fun h => h.kind == kind && h.ref == ref)).map (fun h => (h.type, h.value))

/-- The members of publication j from the last gathered values, by member number. -/
def pubValues (s : State) (u : LoadUnit) (j : Nat) : List (Nat × List Byte) :=
  (List.range (pubCount (s.conf objNet) j)).filterMap (fun m => outAt s u 4 (256 * j + m))

/-- The members of publication j take back the values of an earlier gather: the dataset keeps its last released value (04
R132). -/
def restorePub (u : LoadUnit) (j : Nat) (vals : List (List Byte)) (s : State) : State :=
  let ms := (List.range (pubCount (s.conf objNet) j)).filter (fun m => (outAt s u 4 (256 * j + m)).isSome)
  (ms.zip vals).foldl (fun s p =>
    match outItemAt u 4 (256 * j + p.1) with
    | some i => { s with prog := { s.prog with outVals := kvPut (fun _ => []) i.1 p.2 s.prog.outVals } }
    | none => s) s

/-- The spacing after the j-th repetition, in frames: MIN_FRAMES times 2^j up to MAX_MS. -/
def pubSpacing (b : List Byte) (j n : Nat) : Nat := satTo (4 * pubMaxMs b j) (pubMinFrames b j * 2 ^ (satTo 32 n))

/-- timeAllowedtoLive in ms for a spacing in frames: twice it, rounded up, at least 2. -/
def talOf (sp : Nat) : Nat := if (sp + 1) / 2 < 2 then 2 else (sp + 1) / 2

/-- stNum and sqNum wrap from 2^32 - 1 to 1. -/
def gooseNext (n : Nat) : Nat := if n + 1 < 2 ^ 32 then n + 1 else 1

/-- Publication j at the output gather of frame k (R267): a state change, a due repetition, or nothing. -/
def gatherPub (k : Nat) (u : LoadUnit) (s : State) (j : Nat) : State :=
  let b := s.conf objNet
  if !pubEnabled b j then s
  else
    let p := s.gpub j
    let vals := (pubValues s u j).map (·.2)
    let t := (utcOf s ((k * frameNs + 215000 : Nat) : Int)).toNat
    let q : Option GPub :=
      if !p.begun then
        some { p with t := t, tq := timeQuality s, vals := vals, begun := true, restart := false, j := 0, next := k + pubSpacing b j 0
                      going := some (talOf (pubSpacing b j 0)) }
      else if vals ≠ p.vals || p.restart then
        some { p with st := gooseNext p.st, sq := 0, t := t, tq := timeQuality s, vals := vals, restart := false, j := 0
                      next := k + pubSpacing b j 0, going := some (talOf (pubSpacing b j 0)) }
      else if p.next ≤ k then
        let sp := pubSpacing b j (p.j + 1)
        some { p with sq := gooseNext p.sq, j := p.j + 1, next := k + sp, going := some (talOf sp) }
      else none
    match q with
    | none => s
    | some q =>
      let s := s.updNet (fun x => { x with
        pubs := listSet x.pubs j (fun _ => q), before := x.before ++ [(j, p)] })
      s.set (Reg.netGpubStStnum j) q.st

/-- Every publication at an output gather; the discards and sequence states of the previous frame are done with. -/
def gatherPubs (u : LoadUnit) (s : State) : State :=
  let k := frameIndex s.now
  let s := s.updNet (fun x => { x with
    before := [], discards := 0, pubs := x.pubs.map (fun p => { p with going := none }) })
  (List.range 32).foldl (gatherPub k u) s

/-- The sequence states and the values of discarded publications stay as they were before the release (R268, 04 R132). -/
def undoPubs (mask : Nat) (s : State) : State :=
  (s.net.before.filter (fun p => bitOf mask p.1)).foldl (fun s p =>
    let s := match s.prog.active with
      | some u => if p.2.begun then restorePub u p.1 p.2.vals s else s
      | none => s
    (s.updNet (fun x => { x with pubs := listSet x.pubs p.1 (fun _ => p.2) })).set (Reg.netGpubStStnum p.1) p.2.st) s

/-- The header of publication j's frames from its record (R265): simulation 0, TEST, NDS_COM, AUTH, APPID, VLAN, DST_MAC,
PCP, CONF_REV, KEY_ID, the member count, then GOCB_REF, DAT_SET and GO_ID. -/
def pubHeader (b : List Byte) (j : Nat) : List Nat :=
  let o := pubOff j
  [0, leAt b (o + 2) 1 % 2, leAt b (o + 2) 1 / 2 % 2, leAt b (o + 3) 1, leAt b (o + 4) 2, leAt b (o + 6) 2, leAt b (o + 8) 6,
    leAt b (o + 14) 1, leAt b (o + 20) 4, leAt b (o + 24) 4, pubCount b j] ++ ((b.drop (o + 32)).take 192).map (·.toNat)

/-- A frame of publication j leaves on its ports: its number, stNum, sqNum, timeAllowedtoLive, t with its
TimeQuality (02 R56), the header, then of each member its kind of GOOSE data (R266), the count of its octets and the
octets. -/
def sendPub (u : LoadUnit) (s : State) (j : Nat) (tal : Nat) : State :=
  let b := s.conf objNet
  let p := s.gpub j
  let ms := (pubValues s u j).flatMap (fun m => let o := gooseOctets s m.1 m.2; gooseTag m.1 :: o.length :: o)
  let s := (txPorts b (pubPorts b j)).foldl (fun s n =>
    netTx n "GOOSE" ([j, p.st, p.sq, tal, p.t, p.tq] ++ pubHeader b j ++ ms) s) s
  (s.bump (Reg.netGpubTxFrames j)).setBit (Reg.netGpubDiscarding j) false

/-- The publications of the frame leave by ascending index (R262); those the owner discards take back their sequence
state (R132, R268). -/
def releasePubs (u : LoadUnit) (s : State) : State :=
  let d := s.net.discards
  let s := (List.range 32).foldl (fun s j =>
    match (s.gpub j).going with
    | some tal => if bitOf d j then s.setBit (Reg.netGpubDiscarding j) true else sendPub u s j tal
    | none => s) s
  undoPubs d s

/-- SENDING shows the publications that this module releases. -/
def showSending (s : State) : State :=
  let b := s.conf objNet
  (List.range 32).foldl (fun s j => s.setBit (Reg.netGpubSending j) (pubEnabled b j && s.held)) s

/-- TX_LATE: a released frame starts after T1+215 us (R263). -/
def execTxLate (port : Nat) (s : State) : Out := .next ((s.bump (Reg.netPortTxLateCnt port)).raise Ev.netTxLate)

/-! ### Subscription (R269-R275) -/

/-- An enabled subscription takes frames from a port, or from the other port of its redundant pair. -/
def gsubHears (b : List Byte) (i n : Nat) : Bool := gsubEnabled b i && onPort b (gsubPorts b i) n && portUsed b n

/-- A frame has the DST_MAC and APPID of a subscription record. -/
def gsubAddressed (b : List Byte) (f : GooseFrame) (i : Nat) : Bool :=
  gsubHears b i f.inn.port && leAt b (gsubOff i + 8) 6 == f.mac && leAt b (gsubOff i + 4) 2 == f.appid

/-- A frame has the gocbRef of a subscription record. -/
def gsubNamed (b : List Byte) (f : GooseFrame) (i : Nat) : Bool :=
  gsubHears b i f.inn.port && text64 b (gsubOff i + 32) == (f.ref ++ zeros 64).take 64

/-- A frame agrees with a subscription record in what R269 lists besides DST_MAC, APPID and the members. -/
def gsubAgrees (b : List Byte) (f : GooseFrame) (i : Nat) : Bool :=
  let o := gsubOff i
  let pad (l : List Byte) : List Byte := (l ++ zeros 64).take 64
  leAt b (o + 6) 2 == f.vlan && leAt b (o + 20) 4 == f.confRev && text64 b (o + 32) == pad f.ref
    && text64 b (o + 96) == pad f.datSet && text64 b (o + 160) == pad f.goId
    && (leAt b (o + 14) 6 == 0 || leAt b (o + 14) 6 == f.inn.src)

/-- Every member's ASN.1 tag matches the TYPE of the input items that read it. -/
def gsubTyped (s : State) (f : GooseFrame) (i : Nat) : Bool :=
  match s.prog.active with
  | none => true
  | some u => u.ins.all (fun it =>
      !(it.srcKind == 4 && it.srcRef / 256 == i) ||
        match f.members[it.srcRef % 256]? with
        | some m => gooseTag m.1 == gooseTag it.type
        | none => true)

/-- The subscription whose record a frame is held against: one that it agrees with, else one that it is addressed to, else
one whose gocbRef it has (log entry 184). -/
def findSub (b : List Byte) (f : GooseFrame) : Option Nat :=
  match (List.range 128).find? (fun i => gsubAddressed b f i && gsubAgrees b f i) with
  | some i => some i
  | none => ((List.range 128).find? (gsubAddressed b f)).or ((List.range 128).find? (gsubNamed b f))

/-- A frame that fails its authentication is discarded (R272). -/
def authFailed (port : Nat) (sub : Option Nat) (s : State) : State :=
  let s := match sub with | some i => s.setBit (Reg.netGsubAuthFail i) true | none => s
  (s.bump (Reg.netPortRxAuthCnt port)).raise Ev.netAuthFail

/-- A frame that R269 accepts takes its values, sequence and flags (R270, R274). -/
def acceptGoose (i : Nat) (f : GooseFrame) (s : State) : State :=
  let g := s.gsub i
  let wrap := g.st == 2 ^ 32 - 1 && f.st == 1
  let sqWrap := g.sq == 2 ^ 32 - 1 && f.sq == 1
  let older := g.held && decide (f.st < g.st) && !wrap
  let same := g.held && f.st == g.st && decide (f.sq ≤ g.sq) && !sqWrap
  let s := if older then s.bump (Reg.netGsubSeqAnomCnt i) else s
  let s := s.updSub i (fun g =>
    let e := f.arrival + f.tal * 1000000
    if same then { g with expiry := e }
    else { g with st := f.st, sq := f.sq, held := true, members := f.members, expiry := e })
  let s := ((s.setBit (Reg.netGsubSim i) f.sim).setBit (Reg.netGsubTest i) f.test).setBit (Reg.netGsubNdsCom i) f.ndsCom
  touchBlock (0x10000 + i) (reviewStations ((s.setBit (Reg.netGsubAuthFail i) false).setBit (Reg.netGsubAlive i) (!f.ndsCom)))

/-- The value of a GOOSE or SV item at the cut-off (R271); where nothing has arrived, that of the previous snapshot. -/
def netItem (s : State) (rows : List BatchRow) (it : InItem) : List Byte :=
  let n := it.srcRef / 256
  let m := it.srcRef % 256
  let kept := match s.prog.pool.items.find? (sameSource it) with
    | some i => i.value
    | none => zeros it.size
  if it.srcKind = 4 then
    match (s.gsub n).members[m]? with
    | some v => gooseDecode s.fresh (s.get Reg.timTaiUtcOffset) it.type it.size v
    | none => kept
  else
    match (rows.filter (fun r => r.stream == n)).getLast? with
    | some r =>
      match r.vals[m]? with
      | some v => leBytes 4 (ofSigned 32 v.1) ++ leBytes 4 (v.2 / 65536)
      | none => kept
    | none => kept

/-! ### Frames on the ports (R254-R260, R273) -/

/-- The module's address on a port: a redundant pair uses the lower port's (R255). -/
def ownMac (s : State) (n : Nat) : Nat :=
  s.sec.mac + (if n < 4 && pairMode (s.conf objNet) (n / 2) != 0 then n / 2 * 2 else n)

/-- NET_REDp_NODES shows the node table. -/
def showNodes (s : State) : State :=
  (List.range 2).foldl (fun s p => s.set (Reg.netRedNodesNodes p) (s.net.nodes.filter (fun x => x.1 == p)).length) s

/-- A node enters the table of its pair, which holds 512. -/
def addNode (p src : Nat) (s : State) : State :=
  if s.net.nodes.contains (p, src) || 512 ≤ (s.net.nodes.filter (fun x => x.1 == p)).length then s
  else showNodes (s.updNet (fun x => { x with nodes := x.nodes ++ [(p, src)] }))

/-- A PTP message that the port takes part in (02 R46): PTP is on, the domain is the port's, and over UDP/IPv4 only with
the high-accuracy default profile. -/
def ptpTaken (s : State) (n : Nat) (p : PtpFrame) : Bool :=
  decide (n < 4) && cfgProfile s n != 0 && cfgDomain s n == p.domain && (!p.udp || cfgProfile s n == 1)

/-- PTP on a port (02 R46): the peer-to-peer profiles answer a Pdelay_Req in two steps; management messages are ignored;
sync, delay responses and announces act by their own commands. -/
def ptpDeliver (n : Nat) (p : PtpFrame) (s : State) : State :=
  if ptpTaken s n p && p.kind == .pdelayReq && cfgProfile s n != 1 then
    netTx n "Pdelay_Resp_Follow_Up" [p.domain, p.seq] (netTx n "Pdelay_Resp" [p.domain, p.seq] s)
  else s

/-- How a ring passes on PTP (R260): 1 as a peer-to-peer transparent clock, 2 as an end-to-end one. -/
def ptpClock (s : State) (n : Nat) : Nat := if cfgProfile s n = 2 ∨ cfgProfile s n = 3 then 1 else 2

/-- What an HSR pair sends of a frame on its other port (R260): the frame, and for PTP how its correction is made. A peer-delay
message ends at a peer-to-peer clock (log entry 144). -/
def hsrForward (i : Ingress) (k : NetKind) (seq : Nat) (s : State) : State :=
  let other := 4 * (i.port / 2) + 1 - i.port
  match k with
  | .ptp p =>
    if ptpClock s i.port = 1 && (p.kind == .pdelayReq || p.kind == .pdelayResp) then s
    else portTx other "HSR forward PTP" [i.src, seq, ptpClock s i.port] s
  | _ => portTx other "HSR forward" [i.src, seq] s

/-- What a frame carries is handled: ARP and echo requests for the port's address are answered, a fragment is
discarded, nothing is routed (R254). -/
def netDeliver (f : NetFrame) (s : State) : State :=
  let ip := portIp (s.conf objNet) f.inn.port
  match f.kind with
  | .arp a => if a = ip then netTx f.inn.port "ARP reply" [ip, ownMac s f.inn.port] s else s
  | .echo a d => if a = ip then netTx f.inn.port "ICMP echo reply" (d.map (·.toNat)) s else s
  | .ptp p => ptpDeliver f.inn.port p s
  | .fragment | .supervision | .other => s

/-- A frame with a redundancy tag on a pair (R259, R260): duplicates are discarded, ring traffic is forwarded once. The Bool
tells whether the frame is delivered. -/
def netRedundant (i : Ingress) (k : NetKind) (lan seq : Nat) (s : State) : Bool × State :=
  let p := i.port / 2
  let hsr := pairMode (s.conf objNet) p == 2
  if hsr && i.src == ownMac s i.port then (false, s)
  else
    let known := s.net.nodes.contains (p, i.src)
    let s := addNode p i.src s
    let s := if !hsr && known && lan != i.port % 2 then
        (s.bump (Reg.netRedWrongLanCnt p)).raise Ev.netWrongLan else s
    if s.net.dups.any (fun d => d.1 == p && d.2.1 == i.src && d.2.2.1 == seq) then
      (false, s.updNet (fun x => { x with dups := x.dups.map (fun d =>
        if d.1 = p ∧ d.2.1 = i.src ∧ d.2.2.1 = seq then (d.1, d.2.1, d.2.2.1, withBit d.2.2.2 (i.port % 2) true) else d) }))
    else
      let s := s.updNet (fun x => { x with dups := x.dups ++ [(p, i.src, seq, 2 ^ (i.port % 2))] })
      (true, if hsr then hsrForward i k seq s else s)

/-- A frame that has come in intact passes the pair of its port (R259, R260). -/
def takeTagged (i : Ingress) (k : NetKind) (s : State) : Bool × State :=
  match i.tag with
  | some (lan, seq) =>
    if i.port < 4 && pairMode (s.conf objNet) (i.port / 2) != 0 then netRedundant i k lan seq s else (true, s)
  | none => (true, s)

/-- A frame comes in on a port (R253, R259, R260, R273): what is destroyed, too long or without a buffer is counted; a port
with MACSEC takes protected frames alone, none whose packet number lies more than 64 below the next one (log entry 185),
and any other port no protected ones. The Bool tells whether the frame is delivered. -/
def takeIn (i : Ingress) (k : NetKind) (s : State) : Bool × State :=
  let b := s.conf objNet
  if 5 ≤ i.port || !portEnabled b i.port then (false, s)
  else if !i.fcsOk then (false, s.bump (Reg.netPortRxCrcCnt i.port))
  else if 1522 < i.length then (false, s.bump (Reg.netPortRxOversizeCnt i.port))
  else if !i.buffer then (false, s.bump (Reg.netPortRxDropCnt i.port))
  else if !portOpen s i.port then (false, s)
  else if !portMacsec b i.port then (if i.macsec = 0 then takeTagged i k s else (false, s))
  else if i.macsec = 2 then (false, s.bump (Reg.netPortRxAuthCnt i.port))
  else if i.macsec ≠ 1 ∨ i.pn + 64 < s.net.rxPn.getD i.port 0 then (false, s)
  else takeTagged i k (s.updNet (fun x => { x with rxPn := listSet x.rxPn i.port (fun q => max q (i.pn + 1)) }))

/-- NET_FRAME_RX: a frame arrives on a port. -/
def execNetFrameRx (f : NetFrame) (s : State) : Out :=
  .next (
    let r := takeIn f.inn f.kind s
    if r.1 then netDeliver f r.2 else r.2)

/-- PRP_SUPERVISION: a pair's supervision frame leaves on both ports with one sequence number (R259). -/
def execPrpSupervision (pair : Nat) (s : State) : Out :=
  .next (
    let b := s.conf objNet
    if 2 ≤ pair || pairMode b pair = 0 then s
    else netTx (2 * pair) "supervision" [0x01154E000100 + supByte b pair, supVlan b pair, ownMac s (2 * pair)] s)

/-- What a reset of the networks leaves of the node tables, subscriptions and publications is shown (00 R552, R281). -/
def showNetwork (s : State) : State :=
  let s := (List.range 128).foldl (fun s i => if (s.gsub i).held then s else s.setBit (Reg.netGsubAlive i) false) s
  showNodes ((List.range 32).foldl (fun s j =>
    if (s.gpub j).begun then s else s.set (Reg.netGpubStStnum j) 0) s)

/-- NODE_FORGET: a node not heard on either LAN for NODE_FORGET_MS leaves the table. -/
def execNodeForget (pair mac : Nat) (s : State) : Out :=
  .next (showNodes (s.updNet (fun x => { x with nodes := x.nodes.filter (fun n => decide (n ≠ (pair, mac))) })))

/-- ENTRY_FORGET: ENTRY_FORGET_MS after a frame's first copy its entry goes; a frame that came on one port only is a
gap of the other (R281; log entry 56). -/
def execEntryForget (pair src seq : Nat) (s : State) : Out :=
  .next (
    match s.net.dups.find? (fun d => d.1 == pair && d.2.1 == src && d.2.2.1 == seq) with
    | none => s
    | some d =>
      let s := s.updNet (fun x => { x with dups := x.dups.erase d })
      if 2 ≤ pair then s
      else if d.2.2.2 = 2 then s.bump (Reg.netRedMissACnt pair)
      else if d.2.2.2 = 1 then s.bump (Reg.netRedMissBCnt pair)
      else s)

/-- LINK_CHANGE: a port's link goes up or down, with its speed as NET_PORTn codes it, whether a module is seated and
whether it reports a fault. -/
def execLinkChange (port : Nat) (up : Bool) (speed : Nat) (seated fault : Bool) (s : State) : Out :=
  .next (
    if 5 ≤ port then s
    else
      let was := s.on (Reg.netPortLink port)
      let s := (s.setBit (Reg.netPortLink port) up).set (Reg.netPortSpeed port) (if up then speed else 0)
      let s := (s.setBit (Reg.netPortSfpPresent port) (seated && port != 4)).setBit (Reg.netPortSfpFault port)
        (fault && port != 4)
      let s := if port = 4 then s.setBit Reg.netStatusSvcLink up
        else (s.set Reg.netStatusLink (withBit (s.get Reg.netStatusLink) port up)).set Reg.netStatusSpeed10
          (withBit (s.get Reg.netStatusSpeed10) port (up && speed == 3))
      s.raiseIf (was != up) Ev.netLinkChange)

/-- A port's secure channel is up or down; a new one numbers its packets anew. -/
def setMacsec (port : Nat) (up : Bool) (s : State) : State :=
  let s := if up then s.updNet (fun x => { x with rxPn := listSet x.rxPn port (fun _ => 0) }) else s
  showPmus ((s.setBit (Reg.netPortMacsecUp port) up).set Reg.netStatusMacsecUp
    (withBit (s.get Reg.netStatusMacsecUp) port up))

/-- MACSEC_UP: MKA brings the channel of NET2 or NET3 up, under the CAK that its KEY_ID selects (R273). -/
def execMacsecUp (port : Nat) (s : State) : Out :=
  .next (if (port = 2 || port = 3) && portUsed (s.conf objNet) port && portMacsec (s.conf objNet) port &&
      keyInUse s 3 (portCak (s.conf objNet) port) then
    setMacsec port true s else s)

/-- A channel is lost: MACSEC_DOWN (R273). -/
def loseMacsec (port : Nat) (s : State) : State :=
  if macsecActive s port then (setMacsec port false s).raise Ev.netMacsecDown else s

/-- MACSEC_DOWN: the channel is lost; the port stops sending, and C37.118.2 streams are held OFF (R273, 06 R212). -/
def execMacsecDown (port : Nat) (s : State) : Out :=
  .next (if port = 2 || port = 3 then loseMacsec port s else s)

/-! ### Applying a configuration (R280, R281) -/

/-- The registers of port n show its record; a port that carries MACsec no longer loses its channel. -/
def showPort (b : List Byte) (s : State) (n : Nat) : State :=
  let on := portEnabled b n
  let s := (s.setBit (Reg.netPortEnabled n) on).set (Reg.netPortRole n) (if on then portRole b n else 0)
  let s := (s.setBit (Reg.netPortMgmt n) (on && portMgmt b n)).setBit (Reg.netPortMms n) (on && portMms b n)
  if portUsed b n && portMacsec b n then s else loseMacsec n s

/-- A network configuration takes effect: a publication whose record changes restarts with stNum + 1, a subscription
whose record changes starts anew. -/
def netApply (b : List Byte) (s : State) : State :=
  let old := s.conf objNet
  let s := putConf objNet b s
  let s := (List.range 5).foldl (showPort b) s
  let s := (s.set Reg.netStatusPair0Mode (pairMode b 0)).set Reg.netStatusPair1Mode (pairMode b 1)
  let s := (List.range 32).foldl (fun s j =>
    let s := if differsAt old b (pubOff j) 224 then
        s.updNet (fun x => { x with pubs := listSet x.pubs j (fun p => { p with restart := p.begun }) }) else s
    s.setBit (Reg.netGpubEnabled j) (pubEnabled b j)) s
  let s := (List.range 128).foldl (fun s i =>
    let s := if differsAt old b (gsubOff i) 224 then
        (s.updSub i (fun _ => {})).set (Reg.netGsubAlive i) 0 else s
    s.setBit (Reg.netGsubEnabled i) (gsubEnabled b i)) s
  let s := (s.set Reg.netCfgRevRev (leAt b 0 4)).raise Ev.netConfigApplied
  reviewStations (showPmus (showSending s))

end Sys2Proof.Machine
end

