-- ==== Sys2Proof/Machine/Mms.lean ====
section
/-! DEFINITION. The MMS server (08 R277, R278). The layout of its messages is IEC 61850's; what is sent is named with
the values the spec gives (log entry 57). -/

namespace Sys2Proof.Machine

/-- Association i. -/
def State.mmsAssoc (s : State) (i : Nat) : MmsAssoc := s.net.mms.getD i {}

/-- An answer or report to association i. -/
def mmsSend (i : Nat) (kind : String) (data : List Nat) (s : State) : State :=
  netTx (s.mmsAssoc i).port ("MMS " ++ kind) (i :: data) s

/-- An association is open and its roles permit a service: VIEWER (0) to read, ENGINEER (2) to write (R277). -/
def mmsMay (s : State) (i role : Nat) : Bool := (s.mmsAssoc i).opened && mayIssue (s.mmsAssoc i).roles role

/-- Serves a service, or refuses it. -/
def mmsServe (i role : Nat) (kind : String) (f : State → State) (s : State) : State :=
  if mmsMay s i role then f s else if (s.mmsAssoc i).opened then mmsSend i (kind ++ " refused") [] s else s

/-- The model index of an output item, and the value of an attribute at the last output gather (R278). -/
def mmsValue (s : State) (index : Nat) : Option (Nat × List Byte) :=
  match s.prog.active with
  | none => none
  | some u => outAt s u 0x0C index

/-- The files an association has open are closed, and the records they read are free. -/
def closeFiles (p : MmsFile → Bool) (s : State) : State :=
  let gone := (s.net.files.filter p).map (·.recId)
  let s := s.updNet (fun x => { x with files := x.files.filter (fun f => !p f) })
  { s with nvs := { s.nvs with reading := gone.foldl (fun l r => l.erase r) s.nvs.reading } }

/-- An association ends: its unbuffered reporting stops, its files close. -/
def mmsClose (i : Nat) (s : State) : State :=
  let s := closeFiles (fun f => f.assoc == i) s
  s.updNet (fun x => { x with
    mms := listSet x.mms i (fun _ => {})
    rcbs := ((List.range 32).zip x.rcbs).map (fun p =>
      if p.2.owner = i then (if p.1 < 16 then { p.2 with owner := 0xFF } else {}) else p.2) })

/-- MMS_CONCLUDE. -/
def execMmsConclude (assoc : Nat) (s : State) : Out :=
  .next (if (s.mmsAssoc assoc).opened then mmsClose assoc (mmsSend assoc "Conclude" [] s) else s)

/-- MMS_ABORT. -/
def execMmsAbort (assoc : Nat) (s : State) : Out := .next (mmsClose assoc s)

/-- The attributes of the model that output items of the active unit feed, rising (R277). -/
def mmsFed (s : State) : List Nat := (List.range 4096).filter (fun i => (mmsValue s i).isSome)

/-- MMS_GET_NAME_LIST: of each attribute its index and its name in the model that the settings carry. -/
def execMmsGetNameList (assoc : Nat) (s : State) : Out :=
  .next (mmsServe assoc 0 "GetNameList"
    (mmsSend assoc "GetNameList" ((mmsFed s).flatMap (fun i => i :: (Config.mmsName i).length :: Config.mmsName i))) s)

/-- MMS_IDENTIFY. -/
def execMmsIdentify (assoc : Nat) (s : State) : Out :=
  .next (mmsServe assoc 0 "Identify" (mmsSend assoc "Identify" Config.mmsIdentity) s)

/-- MMS_READ: a value of the module's own output gather (R278), with the TimeQuality of 02 R56. -/
def execMmsRead (assoc index : Nat) (s : State) : Out :=
  .next (mmsServe assoc 0 "Read" (fun s =>
    match mmsValue s index with
    | some v => mmsSend assoc "Read" (index :: timeQuality s :: asNats v.2) s
    | none => mmsSend assoc "Read error" [index] s) s)

/-- MMS_GET_VARIABLE_ACCESS_ATTRIBUTES: the type of an attribute. -/
def execMmsGetVariableAccessAttributes (assoc index : Nat) (s : State) : Out :=
  .next (mmsServe assoc 0 "GetVariableAccessAttributes" (fun s =>
    match mmsValue s index with
    | some v => mmsSend assoc "GetVariableAccessAttributes" [index, v.1] s
    | none => mmsSend assoc "GetVariableAccessAttributes error" [index] s) s)

/-- MMS_GET_NAMED_VAR_LIST_ATTRIBUTES: the attributes of a list of the model, by index. -/
def execMmsGetNamedVarListAttributes (assoc : Nat) (list : List Byte) (s : State) : Out :=
  .next (mmsServe assoc 0 "GetNamedVariableListAttributes"
    (mmsSend assoc "GetNamedVariableListAttributes" (Config.mmsDataset list)) s)

/-- MMS_WRITE_RCB: an ENGINEER writes one of 16 buffered (0 to 15) and 16 unbuffered report control blocks; enabling a
buffered one sends what it has buffered. A block that another association holds is refused. -/
def execMmsWriteRcb (assoc rcb : Nat) (enable : Bool) (value : List Byte) (s : State) : Out :=
  .next (mmsServe assoc 2 "Write" (fun s =>
    let r := s.net.rcbs.getD rcb {}
    if 32 ≤ rcb || (r.owner != 0xFF && r.owner != assoc) then mmsSend assoc "Write refused" [rcb] s
    else
      let s := mmsSend assoc "Write" [rcb] s
      let s := if enable then r.entries.foldl (fun s e => mmsSend assoc "InformationReport" (rcb :: asNats e) s) s else s
      s.updNet (fun x => { x with rcbs := listSet x.rcbs rcb (fun r => { r with
        enabled := enable || (rcb < 16 && r.enabled), owner := if enable then assoc else 0xFF, value := value
        entries := if enable then [] else r.entries }) })) s)

/-- Enabled report control blocks report the attributes of their dataset that changed at an output gather; a buffered block without a
client keeps up to 128 entries (R277). Each entry begins with the TimeQuality of 02 R56. -/
def mmsReport (changed : List (Nat × List Byte)) (s : State) : State :=
  if changed.isEmpty then s
  else
    (List.range 32).foldl (fun s n =>
      let r := s.net.rcbs.getD n {}
      let l := changed.filter (fun c => (Config.mmsRcbDataset n r.value).contains c.1)
      let e := leBytes 1 (timeQuality s) ++ l.flatMap (fun c => leBytes 2 c.1 ++ c.2)
      if !r.enabled || l.isEmpty then s
      else if r.owner ≠ 0xFF then mmsSend r.owner "InformationReport" (n :: asNats e) s
      else s.updNet (fun x => { x with rcbs := listSet x.rcbs n (fun r => { r with
        entries := (if r.entries.length < 128 then r.entries else r.entries.drop 1) ++ [e] }) })) s

/-- MMS_FILE_DIRECTORY: the COMTRADE records of ARCH, by REC_ID and size (17 R490). -/
def execMmsFileDirectory (assoc : Nat) (s : State) : Out :=
  .next (mmsServe assoc 0 "FileDirectory" (fun s =>
    mmsSend assoc "FileDirectory" (s.nvs.arch.flatMap (fun r => [r.id, r.content.length])) s) s)

/-- MMS_FILE_OPEN. -/
def execMmsFileOpen (assoc recId : Nat) (s : State) : Out :=
  .next (mmsServe assoc 0 "FileOpen" (fun s =>
    if s.nvs.arch.any (fun r => r.id == recId) then
      let f := s.net.nextFrsm
      let s := s.updNet (fun x => { x with files := x.files ++ [⟨f, assoc, recId, 0⟩], nextFrsm := f + 1 })
      mmsSend assoc "FileOpen" [f] { s with nvs := { s.nvs with reading := recId :: s.nvs.reading } }
    else mmsSend assoc "FileOpen error" [recId] s) s)

/-- MMS_FILE_READ: the next bytes of an open record; a damaged record cannot be read (17 R479). -/
def execMmsFileRead (assoc frsm count : Nat) (s : State) : Out :=
  .next (mmsServe assoc 0 "FileRead" (fun s =>
    match s.net.files.find? (fun f => f.frsm == frsm && f.assoc == assoc) with
    | none => mmsSend assoc "FileRead error" [frsm] s
    | some f =>
      match s.nvs.arch.find? (fun r => r.id == f.recId) with
      | none => mmsSend assoc "FileRead error" [frsm] s
      | some r =>
        if r.damaged then mmsSend assoc "FileRead error" [frsm] s
        else
          let d := (r.content.drop f.pos).take count
          mmsSend assoc "FileRead" (frsm :: asNats d) (s.updNet (fun x => { x with files := x.files.map (fun g =>
            if g.frsm = frsm then { g with pos := f.pos + d.length } else g) }))) s)

/-- MMS_FILE_CLOSE. -/
def execMmsFileClose (assoc frsm : Nat) (s : State) : Out :=
  .next (mmsServe assoc 0 "FileClose" (fun s =>
    mmsSend assoc "FileClose" [frsm] (closeFiles (fun f => f.frsm == frsm && f.assoc == assoc) s)) s)

end Sys2Proof.Machine
end

