-- ==== Sys2Proof/Machine/CanAux.lean ====
section
/-! DEFINITION. The auxiliary CAN controllers (10): reception and the receive log, one-shot transmission, error states,
bus integration, image items and the CANAUX family. -/

namespace Sys2Proof.Machine

/-! ### Configuration (R331, R332) -/

/-- Sample points of R313: 60 % to 90 %, for 5000 kbit/s 62.5 % to 87.5 %. -/
def dataSpOk (kbps sp : Nat) : Bool :=
  if kbps = 5000 then 625 ≤ sp && sp ≤ 875 else 600 ≤ sp && sp ≤ 900

/-- The quanta before the sample point, out of `q` per bit; a point between steps is rounded down (R313). -/
def sampleQuanta (q sp : Nat) : Nat := q * sp / 1000

/-- The greatest SJW of a rate (R313): 80 less the sample quanta, at most 16; 8 at 2000 and 4 above. -/
def sjwMax (kbps sp : Nat) : Nat :=
  if kbps ≤ 1000 then satTo 16 (80 - sampleQuanta 80 sp)
  else if kbps = 2000 then 8
  else 4

/-- FD data lengths (R331). -/
def canLengths : List Nat := [0, 1, 2, 3, 4, 5, 6, 7, 8, 12, 16, 20, 24, 32, 48, 64]

/-- The checks of controller record c; DATA_SP and DATA_SJW have a range in FD only. -/
def canCtlChecks (b : List Byte) (c : Nat) : List (Nat × Bool) :=
  let o := 16 + 32 * c
  let nom := leAt b (o + 2) 2
  let dat := leAt b (o + 4) 2
  let fd := leAt b (o + 1) 1 == 1
  oneOf b o 1 [0, 1] ++ oneOf b (o + 1) 1 [0, 1]
    ++ [(o + 2, [125, 250, 500, 1000].contains nom)]
    ++ [(o + 4, if fd then [1000, 2000, 4000, 5000].contains dat && decide (nom ≤ dat) else dat == 0)]
    ++ inRange b (o + 6) 2 600 900
    ++ [(o + 8, !fd || dataSpOk dat (leAt b (o + 8) 2))]
    ++ [(o + 10, decide (leAt b (o + 10) 1 ≤ sjwMax nom (leAt b (o + 6) 2)))]
    ++ [(o + 11, !fd || decide (leAt b (o + 11) 1 ≤ sjwMax dat (leAt b (o + 8) 2)))]
    ++ resv b (o + 12) 20

/-- The checks of object o of controller c. -/
def canObjChecks (b : List Byte) (c o : Nat) : List (Nat × Bool) :=
  let a := canRec c o
  let k := leAt b a 1
  let f := leAt b (a + 1) 1
  let ide := bitOf f 0
  let fdf := bitOf f 1
  let tx := k == 2
  oneOf b a 1 [0, 1, 2]
    ++ [(a + 1, decide (f < 16) && (!fdf || canFd b c) && (!bitOf f 2 || fdf) && (!bitOf f 3 || (tx && !fdf)))]
    ++ [(a + 2, canLengths.contains (leAt b (a + 2) 1) && (fdf || decide (leAt b (a + 2) 1 ≤ 8)))]
    ++ resv b (a + 3) 1
    ++ [(a + 4, decide (leAt b (a + 4) 4 < (if ide then 2 ^ 29 else 2 ^ 11)))]
    ++ [(a + 8, k == 1 || leAt b (a + 8) 4 == 0)]
    ++ [(a + 12, if tx then decide (1 ≤ leAt b (a + 12) 2) && decide (leAt b (a + 12) 2 ≤ 4000)
        else leAt b (a + 12) 2 == 0)]
    ++ resv b (a + 14) 2

/-- The checks of a CAN configuration by rising offset. -/
def canChecks (b : List Byte) : List (Nat × Bool) :=
  resv b 4 12 ++ (List.range 2).flatMap (canCtlChecks b)
    ++ (List.range 2).flatMap (fun c => (List.range 128).flatMap (canObjChecks b c))

/-- The record changes the KIND of an object that the active image map reads (R332). -/
def canClash (b : List Byte) (s : State) : Bool :=
  unitReads s 9 (fun r => let c := r / 256 % 2; canKind (s.conf objCan) c (r % 256) != canKind b c (r % 256))

/-- CAN_STATUS and CAN_CTRLc show what is enabled and the modes; a controller that is not enabled is not in normal
operation. -/
def showCan (s : State) : State :=
  let b := s.conf objCan
  let s := (s.setBit Reg.canStatusEnabled0 (canEnabled b 0)).setBit Reg.canStatusEnabled1 (canEnabled b 1)
  let s := (s.setBit Reg.canStatusNormal0 (s.on Reg.canStatusNormal0 && canEnabled b 0)).setBit Reg.canStatusNormal1
    (s.on Reg.canStatusNormal1 && canEnabled b 1)
  (List.range 2).foldl (fun s c => s.setBit (Reg.canCtrlFd c) (canFd b c)) s

/-- The bit timing of a controller (R313): its rates, the sample points as quanta, and the SJW; the data phase in FD. -/
def canTiming (b : List Byte) (c : Nat) : List Nat :=
  let o := 16 + 32 * c
  let rate (k : Nat) : Nat := if k ≤ 1000 then 80 else if k = 2000 then 40 else if k = 4000 then 20 else 16
  let nom := leAt b (o + 2) 2
  let dat := leAt b (o + 4) 2
  [nom, sampleQuanta (rate nom) (leAt b (o + 6) 2), leAt b (o + 10) 1]
    ++ (if canFd b c then [dat, sampleQuanta (rate dat) (leAt b (o + 8) 2), leAt b (o + 11) 1] else [])

/-- A configuration takes effect (R332): a changed TX object fails its pending frame with ABORTED, one on the bus too (log
entry 197); a changed object starts anew, and a controller whose timing changes, or that is newly enabled, integrates. Error
states stay (R325). -/
def canApply (b : List Byte) (s : State) : State :=
  let old := s.conf objCan
  let changed (c o : Nat) : Bool := (old.drop (canRec c o)).take 16 != (b.drop (canRec c o)).take 16
  let s := (List.range 2).foldl (fun s c => (List.range 128).foldl (fun s o =>
    if changed c o then
      let k := s.ctl c
      let busy := k.sending == some o
      let s := if (s.canObj c o).st = 1 then
          canFail c o 8 0xFFFF (if busy then k.sof else s.now) (busy && k.passive) s
        else s
      let s := if busy then s.updCan c (fun k => { k with sending := none }) else s
      if canKind b c o = canKind old c o then s else s.updObj c o (fun _ => {})
    else s) s) s
  let s := (List.range 2).foldl (fun s c =>
    if canTiming old c == canTiming b c && (canEnabled old c || !canEnabled b c) then s
    else s.updCan c (fun k => { k with integrating := true })) s
  let s := showCan (putConf objCan b s)
  (s.set Reg.canCfgRevRev (leAt b 0 4)).raise Ev.canConfigApplied

/-! ### Error states (R325) -/

/-- TEC and REC as registers of 9 bits, with WARN (R334). -/
def putCounts (c tec rec : Nat) (s : State) : State :=
  ((s.set (Reg.canCtrlTec c) (satTo 511 tec)).set (Reg.canCtrlRec c) (satTo 511 rec)).setBit (Reg.canCtrlWarn c)
    (96 ≤ tec || 96 ≤ rec)

/-- The error state that TEC and REC lead to. -/
def nextErr (st tec rec : Nat) : Nat :=
  if st = canBusOff ∨ st = canRecovering then st
  else if 255 < tec then canBusOff
  else if 128 ≤ tec ∨ 128 ≤ rec then canPassive
  else canActive

/-- A log entry of an error-state change. -/
def logState (c : Nat) (s : State) : State := canLog c s.now 3 0 0 0xFF 0 0xFFFF [] s

/-- The events and the log entry of the error state that has just been entered; entering BUS_OFF fails every pending
object with BUS_OFF (R325). -/
def afterErr (c was : Nat) (s : State) : State :=
  let st := s.get (Reg.canCtrlState c)
  if st = was then s
  else
    let s := if st = canPassive then s.raise (evPassive c) else if st = canBusOff then s.raise (evBusOff c) else s
    let s := logState c s
    if st = canBusOff then canFailPending c 6 none s else s

/-! ### Reception (R314, R315, R317) -/

/-- An RX object accepts a frame (R314): the flags are those of R318. -/
def canMatches (b : List Byte) (c o : Nat) (f : CanFrame) : Bool :=
  canKind b c o == 1 && (f.id &&& canMask b c o) == (canId b c o &&& canMask b c o)
    && bitOf f.flags 0 == bitOf (canFlags b c o) 0 && (!bitOf f.flags 1 || bitOf (canFlags b c o) 1)

/-- The controller takes part in the bus: enabled, integrated, neither bus-off nor recovering. -/
def canOnBus (c : Nat) (s : State) : Bool :=
  canEnabled (s.conf objCan) c && !(s.ctl c).integrating && s.get (Reg.canCtrlState c) ≤ canPassive

/-- The controller is in normal operation (R328). -/
def canNormal (c : Nat) (s : State) : Bool := s.on (if c = 0 then Reg.canStatusNormal0 else Reg.canStatusNormal1)

/-- A received frame changes REC under ISO 11898-1: an error adds 1 and 8 for each further increment, success takes 1
away, or leaves 119 to 127 where REC was above 127. In restricted operation the counts stay (log entry 45). -/
def recAfterFrame (c : Nat) (f : CanFrame) (s : State) : State :=
  if !canNormal c s then s
  else
    let rec0 := s.get (Reg.canCtrlRec c)
    let tec := s.get (Reg.canCtrlTec c)
    let p : Nat × State :=
      if f.err ≠ 0 then (rec0 + 1 + 8 * f.extra, s)
      else if 127 < rec0 then (119 + s.fresh % 9, s.took)
      else (rec0 - 1, s)
    let st := p.2.get (Reg.canCtrlState c)
    (putCounts c tec p.1 p.2).set (Reg.canCtrlState c) (nextErr st tec p.1)

/-- The error counter of a kind of error (R334). -/
def canErrCnt (c err : Nat) : Option Fld :=
  match err with
  | 1 => some (Reg.canCtrlErrBitCnt c)
  | 2 => some (Reg.canCtrlErrStuffCnt c)
  | 3 => some (Reg.canCtrlErrFormCnt c)
  | 4 => some (Reg.canCtrlErrAckCnt c)
  | 6 => some (Reg.canCtrlCntCrcCnt c)
  | _ => none

/-- Counts an error of a kind. -/
def countErr (c err : Nat) (s : State) : State :=
  match canErrCnt c err with
  | some f => s.bump f
  | none => s

/-- A good frame goes to the lowest-numbered matching RX object and to the receive log. -/
def takeFrame (c : Nat) (f : CanFrame) (s : State) : State :=
  let b := s.conf objCan
  let was := s.get (Reg.canCtrlState c)
  let s := recAfterFrame c f (s.bump (Reg.canCtrlCntRxFrames c))
  match (List.range 128).find? (fun o => canMatches b c o f) with
  | some o =>
    let s := s.updObj c o (fun x => { x with
      rxTime := f.sof, rxId := f.id, rxFlags := f.flags % 32, rxData := f.data, rxAt := frameIndex f.sof
      fresh := satTo 2 (x.fresh + 1) })
    afterErr c was (canLog c f.sof 0 (f.flags % 32 + 32) f.id o 0 0xFFFF f.data s)
  | none => afterErr c was (canLog c f.sof 0 (f.flags % 32) f.id 0xFF 0 0xFFFF f.data s)

/-! ### Transmission (R320-R323, R326) -/

/-- The bus priority of an object: the identifier bits as arbitration compares them, base before extended, data before
remote, then the object number (R316). -/
def canPriority (b : List Byte) (c o : Nat) : Nat :=
  let f := canFlags b c o
  let id := canId b c o
  let rtr := if bitOf f 3 then 1 else 0
  let key := if bitOf f 0 then id / 2 ^ 18 * 2 ^ 21 + 3 * 2 ^ 19 + id % 2 ^ 18 * 2 + rtr else id * 2 ^ 21 + rtr * 2 ^ 20
  key * 128 + o

/-- The pending object of highest priority. -/
def canBest (c : Nat) (s : State) : Option Nat :=
  let b := s.conf objCan
  (List.range 128).foldl (fun m o =>
    if (s.canObj c o).st ≠ 1 then m
    else match m with
      | none => some o
      | some p => if canPriority b c o < canPriority b c p then some o else m) none

/-- Offers objects in priority order: one whose deadline has passed fails with DEADLINE and the next is offered; the
result is the object that begins its SOF (R321). -/
def canOffer (c sof : Nat) : Nat → State → Option Nat × State
  | 0, s => (none, s)
  | n + 1, s =>
    match canBest c s with
    | none => (none, s)
    | some o =>
      if (s.canObj c o).queuedAt + canDeadline (s.conf objCan) c o < frameIndex sof then
        canOffer c sof n (canFail c o 7 0xFFFF s.now false s)
      else (some o, s)

/-- CAN_BUS_IDLE: a controller in normal operation offers its object at an SOF; one that loses arbitration stays
pending. -/
def execCanBusIdle (c sof : Nat) (lost : Bool) (s : State) : Out :=
  .next (
    if 2 ≤ c || !canOnBus c s || !canNormal c s || (s.ctl c).sending.isSome then s
    else
      let p := canOffer c sof 129 s
      match p.1 with
      | none => p.2
      | some o =>
        if lost then p.2.bump (Reg.canCtrlCntArbLostCnt c)
        else p.2.updCan c (fun k => { k with
          sending := some o, sof := sof, passive := s.get (Reg.canCtrlState c) == canPassive }))

/-- The attempt of object o has ended well. -/
def canSent (c o sof : Nat) (s : State) : State :=
  let b := s.conf objCan
  let d := (s.canObj c o).data
  let was := s.get (Reg.canCtrlState c)
  let tec := s.get (Reg.canCtrlTec c) - 1
  let rec0 := s.get (Reg.canCtrlRec c)
  let s := (putCounts c tec rec0 s).set (Reg.canCtrlState c) (nextErr was tec rec0)
  let f := frameIndex s.now
  let s := s.updObj c o (fun x => { x with
    st := 2, reason := 0, bitPos := 0xFFFF, sent := (x.sent + 1) % 65536, changedAt := f, data := [] })
  afterErr c was (canLog c sof 1 (txFlags b c o (s.ctl c).passive) (canId b c o) o 0 0xFFFF d s)

/-- The position of RTR in an object's frames. -/
def arbitrationEnd (b : List Byte) (c o : Nat) : Nat := if bitOf (canFlags b c o) 0 then 32 else 12

/-- CAN_TX_DONE: the attempt on the bus ends sent (reason 0) or failed with its REASON (R321, R322). A failure adds 8
to TEC, except an ACK error in PASSIVE without a dominant bit in the passive error flag, and a stuff error in arbitration
where a recessive stuff bit before RTR is read dominant; `dominant` tells of that bit, and `extra` counts the further
increments of 8 of ISO 11898-1. -/
def execCanTxDone (c reason bitPos : Nat) (dominant : Bool) (extra : Nat) (s : State) : Out :=
  .next (
    match (s.ctl c).sending with
    | none => s
    | some o =>
      let sof := (s.ctl c).sof
      let s := s.updCan c (fun k => { k with sending := none })
      if reason = 0 then canSent c o sof s
      else
        let was := s.get (Reg.canCtrlState c)
        let free := (reason = 4 ∧ was = canPassive ∧ dominant = false) ∨
          (reason = 2 ∧ dominant = true ∧ bitPos < arbitrationEnd (s.conf objCan) c o)
        let up := (if free then 0 else 8) + 8 * extra
        let tec := s.get (Reg.canCtrlTec c) + up
        let rec0 := s.get (Reg.canCtrlRec c)
        let s := (putCounts c tec rec0 (countErr c reason s)).set (Reg.canCtrlState c) (nextErr was tec rec0)
        afterErr c was (canFail c o reason bitPos sof (s.ctl c).passive s))

/-- CAN_RECOVERY_COMPLETE: 128 sequences of 11 recessive bits are counted; the controller is ACTIVE again (R325). -/
def execCanRecoveryComplete (c : Nat) (s : State) : Out :=
  .next (
    if 2 ≤ c || s.get (Reg.canCtrlState c) ≠ canRecovering then s
    else logState c (((putCounts c 0 0 s).set (Reg.canCtrlRecov c) 128).set (Reg.canCtrlState c) canActive))

/-- CAN_BUS_INTEGRATION: 11 recessive bits end an integration; the controllers of the module that holds OWN are in
normal operation from then on (R329), and one in RECOVERING counts them (R325, R334). -/
def execCanBusIntegration (c : Nat) (s : State) : Out :=
  .next (
    if 2 ≤ c || !canEnabled (s.conf objCan) c then s
    else
      let s := s.updCan c (fun k => { k with integrating := false })
      let s := if s.get (Reg.canCtrlState c) = canRecovering then
          s.set (Reg.canCtrlRecov c) (satTo 128 (s.get (Reg.canCtrlRecov c) + 1)) else s
      if s.held then s.setBit (if c = 0 then Reg.canStatusNormal0 else Reg.canStatusNormal1) true else s)

/-! ### Image items (R330) -/

/-- The error state of R318. -/
def canErr (c : Nat) (s : State) : Nat := s.get (Reg.canCtrlState c)

/-- An RX item: the frame held. -/
def canRxItem (c o : Nat) (s : State) : List Byte :=
  let x := s.canObj c o
  let fl := x.rxFlags % 32 + (if x.fresh ≠ 0 then 64 else 0) + (if 1 < x.fresh then 128 else 0)
  leBytes 8 x.rxTime ++ leBytes 4 x.rxId ++ leBytes 1 x.rxData.length ++ leBytes 1 fl
    ++ leBytes 2 (satTo 65535 (frameIndex s.now - x.rxAt))
    ++ (x.rxData ++ zeros 64).take (canMaxLen (s.conf objCan) c o)

/-- A TX status item. -/
def canTxItem (c o : Nat) (s : State) : List Byte :=
  let x := s.canObj c o
  leBytes 1 x.st ++ leBytes 1 x.reason ++ leBytes 2 x.bitPos ++ leBytes 2 x.sent ++ leBytes 2 x.failed
    ++ leBytes 2 (s.get (Reg.canCtrlTec c)) ++ leBytes 2 (s.get (Reg.canCtrlRec c)) ++ leBytes 1 (canErr c s)
    ++ zeros 1 ++ leBytes 2 (satTo 65535 (frameIndex s.now - x.changedAt))

/-- The value of a CAN item in the snapshot. -/
def canItem (s : State) (ref : Nat) : List Byte :=
  if ref / 256 ≤ 1 then canRxItem (ref / 256) (ref % 256) s else canTxItem (ref / 256 % 2) (ref % 256) s

/-- The snapshot has taken the RX objects: NEW and OVERWRITTEN start again (R330). -/
def canTaken (s : State) : State :=
  { s with can := s.can.map (fun (k : CanCtl) => { k with objs := k.objs.map (fun (x : CanObj) => { x with fresh := 0 }) }) }

/-- SENT and FAILED count from RUN (R330). -/
def canRun (s : State) : State :=
  { s with can := s.can.map (fun (k : CanCtl) => { k with
      objs := k.objs.map (fun (x : CanObj) => { x with sent := 0, failed := 0 }) }) }

/-! ### The CANAUX family (R333) -/

/-- CANAUX.GET_STATUS: 48 bytes; the RC fields it reports keep their values (log entry 146). -/
def execCanauxGetStatus (r : Req) (s : State) : Out :=
  .next (serve 15 1 r noPayload (fun s =>
    let reg (a : Nat) : List Byte := leBytes 4 (s.reg a).toNat
    .ok s (reg Reg.canStatusNormal0.addr ++ reg Reg.canEventConfigApplied.addr ++ reg Reg.canCfgRevRev.addr
      ++ (List.range 2).flatMap (fun c => reg (Reg.canCtrlState c).addr ++ reg (Reg.canCtrlErrBitCnt c).addr
        ++ reg (Reg.canCtrlCntCrcCnt c).addr ++ reg (Reg.canCtrlLogLastSeq c).addr) ++ zeros 4)) s)

/-- CANAUX.GET_CONFIG. -/
def execCanauxGetConfig (r : Req) (s : State) : Out :=
  .next (serve 15 2 r noPayload (fun s => .ok s (s.conf objCan)) s)

/-- CANAUX.SET_CONFIG (R332). -/
def execCanauxSetConfig (r : Req) (s : State) : Out :=
  .next (setConfig 15 objCan r (fun b => firstBad (canChecks b)) canClash s)

/-- The fields of a TX_ENQUEUE that are out of range: CONTROLLER, OBJECT, LEN. -/
def enqueueBad (p : List Byte) (s : State) : Option Nat :=
  let b := s.conf objCan
  let c := leAt p 0 1
  let o := leAt p 1 1
  let n := leAt p 2 1
  firstBad ([(0, decide (c < 2)), (1, decide (o < 128) && canKind b c o == 2),
    (2, decide (n ≤ canMaxLen b c o) && canLengths.contains n)] ++ resv p 3 1)

/-- CANAUX.TX_ENQUEUE (R320, R323, R327): takes effect only on the owner, where it replaces a pending frame that has
not begun its SOF. -/
def execCanauxTxEnqueue (r : Req) (s : State) : Out :=
  .next (serve 15 4 r (fun n => decide (4 ≤ n) && n == 4 + leAt r.payload 2 1) (fun s =>
    let c := leAt r.payload 0 1
    let o := leAt r.payload 1 1
    match enqueueBad r.payload s with
    | some d => .err s stOutOfRange d
    | none =>
      if !s.held then (match r.src with | .petal _ => .ok s [] | .host _ => conflict s)
      else if canPassive < s.get (Reg.canCtrlState c) || (s.ctl c).sending == some o ||
          !canEnabled (s.conf objCan) c then conflict s
      else
        let f := frameIndex s.now
        .ok (s.updObj c o (fun x => { x with
          st := 1, reason := 0, bitPos := 0xFFFF, data := r.payload.drop 4, queuedAt := f
          changedAt := if x.st = 1 then x.changedAt else f })) []) s)

/-- CANAUX.RECOVER (R327): only in BUS_OFF, on the module that receives it. -/
def execCanauxRecover (r : Req) (s : State) : Out :=
  .next (serve 15 5 r (exactly 4) (fun s =>
    let c := leAt r.payload 0 1
    match firstBad ((0, decide (c < 2)) :: resv r.payload 1 3) with
    | some d => .err s stOutOfRange d
    | none =>
      if s.get (Reg.canCtrlState c) = canBusOff then
        .ok (logState c ((s.set (Reg.canCtrlState c) canRecovering).set (Reg.canCtrlRecov c) 0)) []
      else conflict s) s)

/-- CANAUX.READ_RX: entries from the first SEQ at or above FIRST_SEQ that the log still holds. -/
def execCanauxReadRx (r : Req) (s : State) : Out :=
  .next (serve 15 6 r (exactly 12) (fun s =>
    let c := leAt r.payload 0 1
    let first := leAt r.payload 4 4
    let n := leAt r.payload 8 1
    match firstBad ([(0, decide (c < 2))] ++ resv r.payload 1 3 ++ [(8, decide (1 ≤ n) && decide (n ≤ 32))]
        ++ resv r.payload 9 3) with
    | some d => .err s stOutOfRange d
    | none =>
      let l := (((s.ctl c).log.filter (fun p => decide (first ≤ p.1))).take n)
      let nxt := match l.getLast? with | some p => (p.1 + 1) % 2 ^ 32 | none => (s.ctl c).logNext
      .ok s (leBytes 1 l.length ++ zeros 3 ++ leBytes 4 nxt ++ l.flatMap (·.2))) s)

end Sys2Proof.Machine
end

