-- ==== Sys2Proof/Machine/FieldIo.lean ====
section
/-! DEFINITION. The field stages (09): the supply states, the sample instant, the update, and the FIELDIO family. -/

namespace Sys2Proof.Machine

/-! ### Configuration (R308, R309) -/

/-- A channel draws the sink current at all times (R288). -/
def fioContinuous (c : List Byte) (n : Nat) : Bool := bitOf (fioDiFlags c n) 0

def real3 : Nat := 0x40400000
def real21_5 : Nat := 0x41AC0000

/-- FAULT_MA is 0 or from 3.0 to 21.5. -/
def faultMaOk (x : Nat) : Bool :=
  fIsZero .f32 x || (!fIsNan .f32 x && !fLt .f32 x real3 && !fLt .f32 real21_5 x)

/-- The checks of a field-I/O configuration by rising offset. -/
def fioChecks (b : List Byte) : List (Nat × Bool) :=
  resv b 4 12
    ++ (List.range 16).flatMap (fun n =>
      let o := 16 + 4 * n
      oneOf b o 1 [0, 1] ++ inRange b (o + 2) 1 0 3 ++ resv b (o + 3) 1)
    ++ (List.range 8).flatMap (fun n => oneOf b (80 + 4 * n) 1 [0, 1] ++ resv b (81 + 4 * n) 3)
    ++ (List.range 4).flatMap (fun n =>
      let o := 112 + 8 * n
      oneOf b o 1 [0, 1] ++ resv b (o + 1) 1 ++ inRange b (o + 2) 2 0 6000 ++ resv b (o + 4) 4)
    ++ (List.range 4).flatMap (fun n =>
      let o := 144 + 8 * n
      oneOf b o 1 [0, 1] ++ resv b (o + 1) 3 ++ [(o + 4, faultMaOk (leAt b (o + 4) 4))])

/-- The record disables a channel that the active image map reads or writes (R309). -/
def fioClash (b : List Byte) (s : State) : Bool :=
  let c := s.conf objFio
  let off (f : List Byte → Nat → Bool) (n : Nat) : Bool := f c n && !f b n
  unitReads s 6 (fun r => if r / 256 = 0 then off fioDiEnabled (r % 256) else (List.range 16).any (off fioDiEnabled))
    || unitReads s 7 (fun r => off fioAiEnabled (r % 256))
    || unitReads s 8 (fun r => (r / 256 == 1 && off fioAoEnabled (r % 256))
      || (r / 256 == 0 && (List.range 8).any (off fioDoEnabled)))
    || unitWrites s 6 (fun r => off fioDoEnabled (r % 256))
    || unitWrites s 7 (fun r => off fioAoEnabled (r % 256))

/-- A configuration takes effect (R289, R297, R309): a changed DEBOUNCE restarts its count, an AI newly enabled starts
its damping anew, disabled channels read 0 and their stages switch off. -/
def fioApply (b : List Byte) (s : State) : State :=
  let c := s.conf objFio
  let s := putConf objFio b s
  let s := s.updFio (fun f => { f with
    debounce := (List.range 16).map (fun n =>
      if fioDebounce c n = fioDebounce b n ∧ fioDiEnabled c n = fioDiEnabled b n then f.debounce.getD n 0 else 0)
    aiOn := bitmap 4 (fun n => bitOf f.aiOn n && fioAiEnabled c n && fioAiEnabled b n)
    sinks := bitmap 16 (fun n => fioDiEnabled b n && (fioContinuous b n || bitOf f.sinks n)) })
  let s := s.set Reg.fioCfgRevRev (leAt b 0 4)
  let s := s.set Reg.fioDiState (bitmap 16 (fun n => bitOf (s.get Reg.fioDiState) n && fioDiEnabled b n))
  (showStages s).raise Ev.fioConfigApplied

/-! ### Field supply (R284, R286) -/

/-- FLD24_MIN takes a lower value (R311). -/
def noteFld24 (mv : Nat) (s : State) : State :=
  if mv < s.get Reg.fioFld24MinMinMv then s.set Reg.fioFld24MinMinMv mv else s

/-- FLD24 has fallen below a limit: by how much is a free value (log entry 193). -/
def noteBelow (mv : Nat) (s : State) : State := noteFld24 (s.fresh % mv) s.took

/-- FLD_LOW: NORMAL goes to LOW. -/
def execFldLow (s : State) : Out :=
  .next (
    if s.on Reg.fioStatusFldLow then s
    else noteBelow 19200 (((s.setBit Reg.fioStatusFldLow true).raise Ev.fioStatusDioFault).raise Ev.fioFldLow))

/-- FLD_NORMAL: LOW goes to NORMAL; DIO_FAULT stays. -/
def execFldNormal (s : State) : Out :=
  .next (if s.on Reg.fioStatusLockout then s else s.setBit Reg.fioStatusFldLow false)

/-- LOCKOUT: from NORMAL or LOW; the DO stages switch off, the AO stages go to 0 mA. -/
def execLockout (s : State) : Out :=
  .next (
    if s.on Reg.fioStatusLockout then s
    else
      let s := ((s.setBit Reg.fioStatusLockout true).setBit Reg.fioStatusFldLow true).raise Ev.fioStatusDioFault
      let s := s.raise Ev.fioLockout
      showStages (noteBelow 15000 (s.updFio (fun f => { f with lockedOff := true, doBad := 0 }))))

/-- LOCKOUT_END: FLD24 has stood at 17 V for 10 us; the state is NORMAL from 19.6 V, otherwise LOW. The stages come
back at the update of the first frame whose T0 follows. -/
def execLockoutEnd (mv : Nat) (s : State) : Out :=
  .next (
    if !s.on Reg.fioStatusLockout then s
    else
      let s := noteFld24 mv ((s.setBit Reg.fioStatusLockout false).setBit Reg.fioStatusFldLow (mv < 19600))
      s.updFio (fun f => { f with backFrame := frameIndex s.now }))

/-! ### Digital outputs (R292) -/

/-- DO_LATCH_OFF: after 1 ms in limitation the stage latches off. -/
def execDoLatchOff (n : Nat) (s : State) : Out :=
  .next (
    if 8 ≤ n then s
    else
      let s := s.updFio (fun f => { f with latched := withBit f.latched n true })
      let s := s.set Reg.fioDoDrive (withBit (s.get Reg.fioDoDrive) n false)
      s.raise Ev.fioStatusDioFault)

/-! ### The sink window (R288, R291) -/

/-- DI_SINK_WINDOW: every enabled channel draws the sink current until the sample instant (R288; log entry 194); each whose
terminal reads at least 11 V is compared with 2.5 mA within 20 %; out of
band in two consecutive windows sets DIO_FAULT. -/
def execDiSinkWindow (ua : List Nat) (mv : List Int) (s : State) : Out :=
  .next (
    let s := toPhase 175000 s
    let c := s.conf objFio
    let bad := bitmap 16 (fun n => fioDiEnabled c n && decide (11000 ≤ mv.getD n 0) &&
      (decide (ua.getD n 0 < 2000) || decide (3000 < ua.getD n 0)))
    let twice := bad &&& s.fio.sinkBad ≠ 0
    (s.updFio (fun f => { f with sinkBad := bad, sinks := bitmap 16 (fioDiEnabled c) })).raiseIf twice
      Ev.fioStatusDioFault)

/-! ### The sample instant (R283, R288-R290, R294, R296-R300) -/

/-- What a terminal reads (R288): none between 5 V and 11 V. -/
def levelOf (mv : Int) : Option Bool := if 11000 ≤ mv then some true else if mv ≤ 5000 then some false else none

/-- The sample of DI n, a free value between the thresholds (R288), and its debounced state (R289). -/
def sampleDi (x : FieldSample) (s : State) (n : Nat) : State :=
  let c := s.conf objFio
  let p : Bool × State := match levelOf (x.di.getD n 0) with
    | some b => (b, s)
    | none => (bitOf s.fresh 0, s.took)
  let s := p.2.set Reg.fioDiRaw (withBit (p.2.get Reg.fioDiRaw) n p.1)
  let was := bitOf (s.get Reg.fioDiState) n
  if !fioDiEnabled c n then s
  else if p.1 = was then s.updFio (fun f => { f with debounce := listSet f.debounce n (fun _ => 0) })
  else
    let k := s.fio.debounce.getD n 0 + 1
    if fioDebounce c n < k then
      (s.updFio (fun f => { f with debounce := listSet f.debounce n (fun _ => 0) })).set Reg.fioDiState
        (withBit (s.get Reg.fioDiState) n p.1)
    else s.updFio (fun f => { f with debounce := listSet f.debounce n (fun _ => k) })

/-- The readback of DO n, a free value between the thresholds, and whether it disagrees with the reference (R294). -/
def sampleDo (x : FieldSample) (p : Nat × State) (n : Nat) : Nat × State :=
  let s := p.2
  let v := levelOf (x.dout.getD n 0)
  let q : Bool × State := match v with
    | some b => (b, s)
    | none => (bitOf s.fresh 0, s.took)
  let s := q.2.set Reg.fioDoRb (withBit (q.2.get Reg.fioDoRb) n q.1)
  let ref := bitOf s.fio.doRef n && !bitOf s.fio.latched n
  (if v = some ref then p.1 else withBit p.1 n true, s)

/-- 25 mA, the top of the 24-bit conversion, in 2^-32 of its step (R296; log entry 44). -/
def aiTop : Nat := 16777215 * 4294967296

/-- The mean of conversions, from their sum and number, in 2^-32 of a step; a reverse current reads 0 mA (R296, R297). -/
def aiMean (x : Int × Nat) : Nat := min aiTop (divEven (x.1.toNat * 4294967296) x.2)

/-- A current of the AI conversion in the units of which 25 mA are `full`, as a fraction. -/
def aiFrac (full x : Nat) : Nat × Nat := (x * full, aiTop)

/-- CLASS of NE 43 from x (R298). -/
def aiClass (x : Nat) : Nat :=
  let v := x * 250
  if v < 36 * aiTop then 3 else if v < 38 * aiTop then 1 else if v ≤ 205 * aiTop then 0
  else if v ≤ 210 * aiTop then 2 else 4

/-- 1 - e^(-t) for t = 1 / n, n at least 40, in 2^-80: its series, of which the thirteenth term is below 2^-80 (R297; log
entry 44). -/
def oneLessExp (n : Nat) : Nat :=
  let r := (List.range 12).foldl (fun (p : Nat × Int) i =>
    let d := p.1 * n * (i + 1)
    (d, p.2 + (if i % 2 = 0 then 1 else -1) * ((2 ^ 80 / d : Nat) : Int))) (1, 0)
  r.2.toNat

/-- y(m) from y(m - 1), x(m) and DAMP_10MS (R297): y + (x - y)(1 - e^(-250 us / tau)), where tau is DAMP_10MS x 10 ms
(log entry 44). -/
def dampStep (damp y x : Nat) : Nat :=
  (y + roundEven (((x : Int) - y) * oneLessExp (40 * damp)) (2 ^ 80)).toNat

/-- AI n: the frame value, its CLASS and LIMIT, and the damped value (R296-R298). A disabled AI reads 0 mA. -/
def sampleAi (x : FieldSample) (s : State) (n : Nat) : State :=
  let c := s.conf objFio
  if !fioAiEnabled c n then
    let s := s.updFio (fun f => { f with aiY := listSet f.aiY n (fun _ => 0) })
    ((s.set (Reg.fioAiI n) 0).set (Reg.fioAiClass n) 0).setBit (Reg.fioAiLimit n) false
  else
    let lim := bitOf x.aiLimit n
    let v := if lim then aiTop else aiMean (x.ai.getD n (0, 1))
    let damped := bitOf s.fio.aiOn n && fioDamp c n != 0
    let y := if damped then dampStep (fioDamp c n) (s.fio.aiY.getD n 0) v else v
    let was := s.get (Reg.fioAiClass n)
    let wasLim := s.on (Reg.fioAiLimit n)
    let s := s.updFio (fun f => { f with
      aiY := listSet f.aiY n (fun _ => y), aiOn := withBit f.aiOn n true })
    let units := aiFrac 2500000 y
    let s := ((s.set (Reg.fioAiI n) (divEven units.1 units.2)).set (Reg.fioAiClass n) (aiClass v)).setBit
      (Reg.fioAiLimit n) lim
    s.raiseIf ((3 ≤ aiClass v && aiClass v != was) || (lim && !wasLim)) Ev.fioAiFail

/-- A status of AO n is evaluated (R300): it changes after four evaluations in a row that disagree with it; a setting
sets its event. `i` is its place in the counts. -/
def aoJudge (n i : Nat) (f : Fld) (e : Ev) (cond : Bool) (s : State) : State :=
  if s.on f = cond then
    s.updFio (fun x => { x with aoCnt := listSet x.aoCnt n (fun l => listSet l i (fun _ => 0)) })
  else
    let k := (s.fio.aoCnt.getD n []).getD i 0 + 1
    if 4 ≤ k then
      let s := s.updFio (fun x => { x with aoCnt := listSet x.aoCnt n (fun l => listSet l i (fun _ => 0)) })
      (s.setBit f cond).raiseIf cond e
    else s.updFio (fun x => { x with aoCnt := listSet x.aoCnt n (fun l => listSet l i (fun _ => k)) })

/-- OPEN and COMPLIANCE of AO n; OPEN prevails (R300). -/
def aoLoop (x : FieldSample) (n : Nat) (s : State) : State :=
  let rb := x.aoRead.getD n 0
  let cmd := milliFrac (s.fio.aoCmd.getD n 0)
  let isOpen : Bool := rb < 50000 && 4 * cmd.2 ≤ cmd.1
  let short : Bool := (rb + 20000) * cmd.2 < cmd.1 * 100000 && x.aoHead.getD n 0 < 1000
  aoJudge n 1 (Reg.fioAoCompliance n) Ev.fioAoCompliance (short && !isOpen)
    (aoJudge n 0 (Reg.fioAoOpen n) Ev.fioAoOpen isOpen s)

/-- OVERTEMP of AO n: its stage goes to 0 mA until the first update after it falls below 130 degrees (R300). -/
def aoHeat (x : FieldSample) (n : Nat) (s : State) : State :=
  let t := x.aoTemp.getD n 0
  let s := aoJudge n 2 (Reg.fioAoOvertemp n) Ev.fioAoOvertemp (1500 < t) s
  if t < 1300 then s.updFio (fun f => { f with aoCool := withBit f.aoCool n (bitOf f.aoHot n) })
  else if 1500 < t && s.on (Reg.fioAoOvertemp n) then
    showStages (s.updFio (fun f => { f with aoHot := withBit f.aoHot n true, aoCool := withBit f.aoCool n false }))
  else s

/-- At an update the stages that have fallen below 130 degrees resume (R300). -/
def coolStages (s : State) : State :=
  s.updFio (fun f => { f with aoHot := bitmap 4 (fun n => bitOf f.aoHot n && !bitOf f.aoCool n), aoCool := 0 })

/-- AO n: readback and status conditions (R299, R300); in LOCKOUT only SHARED-SENSE is evaluated (R285). -/
def sampleAo (x : FieldSample) (s : State) (n : Nat) : State :=
  let rb := x.aoRead.getD n 0
  let s := s.set (Reg.fioAoI n) rb
  let shared : Bool := bitOf x.aoSense n || (aoRegulates s n && x.aoOwn.getD n 0 + 50000 < rb)
  let s := aoJudge n 3 (Reg.fioAoSenseFault n) Ev.fioAoSense shared s
  if s.on Reg.fioStatusLockout then s
  else
    let s := aoHeat x n s
    let hold := s.fio.aoHold.getD n 0
    if hold ≠ 0 then s.updFio (fun f => { f with aoHold := listSet f.aoHold n (fun h => h - 1) })
    else aoLoop x n s

/-- The wetting pulse of channel n starts at the sample instant of frame 8n of every tenth second; only the owner, or
the defined master, wets (R290). -/
def startWetting (s : State) : State :=
  let k := frameOf s.now
  let n := k / 8
  if s.held && s.seconds % 10 == 0 && k % 8 == 0 && n < 16 && fioDiEnabled (s.conf objFio) n
      && bitOf (fioDiFlags (s.conf objFio) n) 1 then s.updFio (fun f => { f with wetting := some n })
  else s

/-- FIELD_SAMPLE_INSTANT: at T0+195 us. -/
def execFieldSampleInstant (x : FieldSample) (s : State) : Out :=
  .next (
    let s := toPhase 195000 s
    let s := (s.set Reg.fioFld24Mv (satTo 65535 x.fld24))
    let s := noteFld24 x.fld24 (s.updFio (fun f => { f with
      sinks := bitmap 16 (fun n => fioDiEnabled (s.conf objFio) n && fioContinuous (s.conf objFio) n) }))
    let s := (List.range 16).foldl (sampleDi x) s
    let p := (List.range 8).foldl (sampleDo x) (0, s)
    let s := p.2
    let s :=
      if s.on Reg.fioStatusLockout then s
      else
        let twice := p.1 &&& s.fio.doBad ≠ 0
        (s.updFio (fun f => { f with doBad := p.1 })).raiseIf twice Ev.fioStatusDioFault
    let s := (List.range 4).foldl (sampleAi x) s
    startWetting ((List.range 4).foldl (sampleAo x) s))

/-- WETTING_PULSE_END: 1 ms after its start. -/
def execWettingPulseEnd (s : State) : Out := .next (s.updFio (fun f => { f with wetting := none }))

/-! ### The update (R283, R284, R292, R299) -/

/-- A commanded REAL in mA clamped to 0 and 21.5, the channel's FAULT_MA for NaN (R299). -/
def aoClamp (fault x : Nat) : Nat :=
  let x := if fIsNan .f32 x then fault else x
  if fLt .f32 real21_5 x then real21_5
  else match readFl .f32 x with
    | .fin false _ _ => x
    | _ => 0

/-- Two commands differ by more than 0.2 mA. -/
def aoFar (x y : Nat) : Bool :=
  let a := milliFrac x
  let b := milliFrac y
  decide (a.2 * b.2 < 5 * ((a.1 * b.2 : Int) - (b.1 * a.2 : Int)).natAbs)

/-- The AO setpoints of an update; one that changes by more than 0.2 mA holds off OPEN and COMPLIANCE (R300). -/
def updateAo (s : State) (n : Nat) : State :=
  let c := s.conf objFio
  let v := if fioAoEnabled c n then aoClamp (fioFaultMa c n) (s.fio.wantAo.getD n 0) else 0
  let far := aoFar v (s.fio.aoCmd.getD n 0)
  s.updFio (fun f => { f with
    aoCmd := listSet f.aoCmd n (fun _ => v)
    aoHold := if far then listSet f.aoHold n (fun _ => 4) else f.aoHold })

/-- The stages come back after a LOCKOUT, with the loop conditions held off for 4 frames (R284, R300). -/
def reenable (s : State) : State :=
  if s.fio.lockedOff && !s.on Reg.fioStatusLockout && s.fio.backFrame < frameIndex s.now then
    s.updFio (fun f => { f with lockedOff := false, aoHold := [4, 4, 4, 4] })
  else s

/-- FIELD_UPDATE: at T0+216 us the commanded values are recorded, and outside LOCKOUT applied. A module whose updates
are blocked (13 R395), and a frame that ends without outputs (02 R57), take no update. -/
def execFieldUpdate (s : State) : Out :=
  .next (
    let s := toPhase 216000 s
    if s.pair.blocked || !s.time.ticked then s
    else
      let c := s.conf objFio
      let cmd := bitmap 8 (fun n => bitOf s.fio.wantDo n && fioDoEnabled c n)
      let s := reenable ((List.range 4).foldl updateAo (coolStages (s.set Reg.fioDoCmd cmd)))
      let s :=
        if s.fio.lockedOff then s
        else s.updFio (fun f => { f with
          doRef := cmd, latched := bitmap 8 (fun n => bitOf f.latched n && bitOf cmd n) })
      showStages s)

/-! ### Image items (R307) -/

/-- A current in 10 nA as REAL mA, rounded to nearest even (log entry 44). -/
def milliAmp (n : Nat) : Nat := roundRat .f32 false n 100000

/-- The value of a field item in the snapshot. -/
def fieldItem (s : State) (kind ref : Nat) : List Byte :=
  let n := ref % 256
  match kind, ref / 256 with
  | 6, 0 => leBytes 1 (if bitOf (s.get Reg.fioDiState) n then 1 else 0)
  | 6, _ => leBytes 2 (s.get Reg.fioDiState)
  | 7, _ =>
    let on := fioAiEnabled (s.conf objFio) n
    let cls := s.get (Reg.fioAiClass n)
    let lim := s.on (Reg.fioAiLimit n)
    let y := aiFrac 25 (s.fio.aiY.getD n 0)
    leBytes 4 (if on then roundRat .f32 false y.1 y.2 else 0)
      ++ leBytes 2 ((if on && cls ≤ 2 && !lim then 1 else 0) + 2 * cls + (if lim then 16 else 0)) ++ zeros 2
  | 8, 0 => leBytes 2 (s.get Reg.fioDoDrive * 256 + s.get Reg.fioDoRb)
  | 8, 1 =>
    let b (f : Fld) (v : Nat) : Nat := if s.on f then v else 0
    leBytes 4 (milliAmp (s.get (Reg.fioAoI n)))
      ++ leBytes 2 (b (Reg.fioAoOpen n) 1 + b (Reg.fioAoCompliance n) 2 + b (Reg.fioAoOvertemp n) 4
        + b (Reg.fioAoSenseFault n) 8 + b Reg.fioStatusLockout 16) ++ zeros 2
  | 8, _ =>
    let b (f : Fld) (v : Nat) : Nat := if s.on f then v else 0
    leBytes 4 (b Reg.fioStatusDioFault 1 + b Reg.fioStatusFldLow 2 + b Reg.fioStatusLockout 4 + b Reg.fioStatusDrive 8
      + satTo 65535 (s.get Reg.fioFld24Mv / 10) * 65536)
  | _, _ => []

/-! ### The FIELDIO family (R310) -/

/-- A register as its 4 bytes. -/
def regBytes (s : State) (a : Nat) : List Byte := leBytes 4 (s.reg a).toNat

/-- FIELDIO.GET_STATUS: 72 bytes. -/
def execFieldioGetStatus (r : Req) (s : State) : Out :=
  .next (serve 14 1 r noPayload (fun s => .ok s
    ([Reg.fioStatusDioFault.addr, Reg.fioEventAiFail.addr, Reg.fioDiRaw.addr, Reg.fioDoCmd.addr, Reg.fioFld24Mv.addr,
      Reg.fioCfgRevRev.addr].flatMap (regBytes s)
      ++ (List.range 4).flatMap (fun n => regBytes s (Reg.fioAiI n).addr)
      ++ (List.range 4).flatMap (fun n => regBytes s (Reg.fioAoI n).addr)
      ++ (List.range 4).flatMap (fun n => regBytes s (Reg.fioAoSetSet n).addr))) s)

/-- FIELDIO.GET_CONFIG. -/
def execFieldioGetConfig (r : Req) (s : State) : Out :=
  .next (serve 14 2 r noPayload (fun s => .ok s (s.conf objFio)) s)

/-- FIELDIO.SET_CONFIG (R309). -/
def execFieldioSetConfig (r : Req) (s : State) : Out :=
  .next (setConfig 14 objFio r (fun b => firstBad (fioChecks b)) fioClash s)

/-- FIELDIO.CLEAR_FAULT: DIO_FAULT while the supply is still low is set again and counted (R295). -/
def execFieldioClearFault (r : Req) (s : State) : Out :=
  .next (serve 14 4 r (exactly 4) (fun s =>
    let m := leAt r.payload 0 4
    if 4 ≤ m then .err s stOutOfRange 0
    else
      let s := if bitOf m 0 then
          (s.setBit Reg.fioStatusDioFault false).raiseIf (s.on Reg.fioStatusFldLow) Ev.fioStatusDioFault
        else s
      let s := if bitOf m 1 then s.setReg Reg.fioEventAiFail.addr 0#32 else s
      .ok s (regBytes s Reg.fioStatusDioFault.addr ++ regBytes s Reg.fioEventAiFail.addr)) s)

end Sys2Proof.Machine
end

