-- ==== Sys2Proof/Machine/CodeCheck.lean ====
section
/-! DEFINITION. What the loader derives from Petal code: decoding (05 R156, R157), the code rules (R174) and the worst
case of a segment, FB or function (R167, 04 R117). -/

namespace Sys2Proof.Machine

/-! ### Decoding -/

/-- The operand sizes of an opcode in bytes, or none where it is unassigned (R157). -/
def opFormat (op : Nat) : Option (List Nat) :=
  if op ≤ 0x05 then some []
  else if op = 0x06 ∨ op = 0x0A then some [1]
  else if op = 0x08 ∨ op = 0x09 then some []
  else if op = 0x0B ∨ op = 0x0C then some [2]
  else if 0x10 ≤ op ∧ op ≤ 0x16 then some [1, 2]
  else if 0x17 ≤ op ∧ op ≤ 0x1D then some [1, 2, 2]
  else if op = 0x1E then some [1, 2]
  else if 0x20 ≤ op ∧ op ≤ 0x37 then some []
  else if 0x40 ≤ op ∧ op ≤ 0x56 then some []
  else if 0x60 ≤ op ∧ op ≤ 0x75 then some []
  else if 0x78 ≤ op ∧ op ≤ 0x7C then some []
  else if 0x80 ≤ op ∧ op ≤ 0x82 then some []
  else if op = 0x84 then some []
  else if 0x83 ≤ op ∧ op ≤ 0x8B then some [1]
  else if op = 0x90 ∨ op = 0x91 then some [1, 1]
  else if 0xA0 ≤ op ∧ op ≤ 0xA2 then some [2]
  else if op = 0xA3 ∨ op = 0xA4 ∨ op = 0xA8 then some [2, 2]
  else if op = 0xA5 ∨ op = 0xAA ∨ op = 0xAC ∨ op = 0xAD then some []
  else if op = 0xA6 then some [1]
  else if op = 0xA9 then some [2]
  else if op = 0xAB then some [1, 2, 1]
  else none

/-- A decoded instruction: its address, opcode, operands and the next address. -/
structure CodeOp where
  pc : Nat
  op : Nat
  a : Nat
  b : Nat
  c : Nat
  next : Nat
deriving DecidableEq, Repr

/-- Reads operand fields from the bytes after an opcode. -/
def readFields : List Nat → List Byte → List Nat
  | [], _ => []
  | n :: r, bs => leNat (bs.take n) :: readFields r (bs.drop n)

/-- The instructions of a code range in address order; none where one is unassigned or leaves the range. -/
def decodeRange : Nat → Nat → List Byte → Option (List CodeOp)
  | _, _, [] => some []
  | 0, _, _ :: _ => none
  | fuel + 1, pc, op :: bs =>
    match opFormat op.toNat with
    | none => none
    | some fmt =>
      let n := fmt.foldl (· + ·) 0
      if bs.length < n then none
      else
        let f := readFields fmt bs
        (decodeRange fuel (pc + 1 + n) (bs.drop n)).map (fun l =>
          ⟨pc, op.toNat, f.getD 0 0, f.getD 1 0, f.getD 2 0, pc + 1 + n⟩ :: l)

/-- The instructions of a TYPES entry's code range. -/
def typeCode (u : LoadUnit) (ty : TypeRow) : Option (List CodeOp) :=
  match u.images.find? (fun c => c.engine == ty.engine) with
  | some img =>
    if img.code.length < ty.codeOff + ty.codeLen then none
    else decodeRange ty.codeLen ty.codeOff ((img.code.drop ty.codeOff).take ty.codeLen)
  | none => none

/-! ### The call graph -/

/-- The TYPES index an instruction calls. -/
def callee (i : CodeOp) : Option Nat := if i.op = 0xA8 then some i.b else if i.op = 0xA9 then some i.a else none

/-- The TYPES indices a type's code calls. -/
def callees (u : LoadUnit) (idx : Nat) : List Nat :=
  match u.types[idx]? with
  | some ty => ((typeCode u ty).getD []).filterMap callee
  | none => []

/-- The deepest call chain from a type, in calls; none where it exceeds the fuel, which a cycle does. -/
def callDepth (u : LoadUnit) : Nat → Nat → Option Nat
  | 0, _ => none
  | f + 1, idx => (callees u idx).foldl (fun m c =>
      match m, callDepth u f c with | some a, some b => some (if a < b + 1 then b + 1 else a) | _, _ => none) (some 0)

/-- The types reached from a type through calls, itself included. -/
def reached (u : LoadUnit) : Nat → Nat → List Nat
  | 0, _ => []
  | f + 1, idx => idx :: (callees u idx).flatMap (reached u f)

/-- The types reached from a list of types, by repeated expansion. -/
def closure (u : LoadUnit) : Nat → List Nat → List Nat
  | 0, l => l
  | f + 1, l => closure u f (l ++ ((l.flatMap (callees u)).eraseDups.filter (fun c => !l.contains c)))

/-- A type on a cycle of the call graph. -/
def onCycle (u : LoadUnit) (idx : Nat) : Bool := (closure u u.types.length (callees u idx)).contains idx

/-- The calls of a type nest at most 16 deep and lie on no cycle (R174 rule 5). A type that only reaches a cycle is not
to blame for it (R556). -/
def callsOk (u : LoadUnit) (fuel idx : Nat) : Bool :=
  (callDepth u fuel idx).isSome || (!onCycle u idx && (closure u u.types.length [idx]).any (onCycle u))

/-- The largest sum of LOCAL_SIZE along a call chain from a type (R168, R179). -/
def localNeed (u : LoadUnit) : Nat → Nat → Nat
  | 0, _ => 0
  | f + 1, idx =>
    let own := match u.types[idx]? with | some ty => ty.localSize | none => 0
    own + (callees u idx).foldl (fun m c => let n := localNeed u f c; if m < n then n else m) 0

/-- Chains longer than this are refused (R174 rule 5). -/
def chainFuel : Nat := 17

/-- The TYPES index of a task's PROGRAM. -/
def taskType (u : LoadUnit) (t : TaskRow) : Option Nat := (u.insts.find? (fun i => i.id == t.inst)).map (·.type)

/-- The size of engine e's local stack. -/
def localSizeOf (u : LoadUnit) (e : Nat) : Nat :=
  (u.tasks.filter (fun t => t.engine == e)).foldl (fun m t =>
    match taskType u t with
    | some i => let n := localNeed u chainFuel i; if m < n then n else m
    | none => m) 0

/-- The tasks whose body reaches a type. -/
def reachers (u : LoadUnit) (idx : Nat) : List TaskRow :=
  u.tasks.filter (fun t => match taskType u t with | some i => (reached u chainFuel i).contains idx | none => false)

/-- The image limits code of a type is checked against, and whether an error task reaches it (R174 rule 6). -/
def imageLimits (u : LoadUnit) (idx : Nat) : Nat × Nat × Bool :=
  let l := reachers u idx
  let inp := l.foldl (fun m t => let n := if t.kind = 1 then 64 else t.inBytes; if n < m then n else m) 49152
  let out := l.foldl (fun m t => let n := if t.kind = 1 then 0 else t.outBytes; if n < m then n else m) 16384
  (inp, out, l.any (fun t => t.kind == 1))

/-! ### Operands (R173, R174 rules 1, 5, 6, 9) -/

/-- What a range of code may touch: its type, the image limits, constants, and whether an error task reaches it. -/
structure Bounds where
  ty : TypeRow
  inp : Nat
  out : Nat
  err : Bool
  consts : Nat

/-- The limit of the space of a memory opcode and whether the opcode stores; spaces by R163. -/
def memSpace (b : Bounds) (op : Nat) : Nat × Bool :=
  match op with
  | 0x10 | 0x17 => (b.ty.localSize, false)
  | 0x11 | 0x18 => (b.ty.localSize, true)
  | 0x12 | 0x19 => (b.ty.instSize, false)
  | 0x13 | 0x1A => (b.ty.instSize, true)
  | 0x14 | 0x1B => (b.inp, false)
  | 0x15 | 0x1C => (b.out, false)
  | _ => (b.out, true)

/-- A SYS call names a function of R171 with its off and len (rule 9). -/
def sysOk (b : Bounds) (n off len : Nat) : Bool :=
  if n ≤ 3 then off == 0 && len == 0
  else if n = 0x10 then len == 6 && decide (off + len ≤ b.ty.instSize)
  else if 0x11 ≤ n ∧ n ≤ 0x13 then 1 ≤ len && len ≤ 48 && decide (off + len ≤ b.ty.instSize)
  else false

/-- COPY reaches local space only where LOCAL_SIZE is not 0, and no instance space in a function (rule 6). -/
def copySpaceOk (ty : TypeRow) (sp : Nat) : Bool := (sp != 0 || ty.localSize != 0) && (sp != 1 || ty.kind != 1)

/-- An instruction's own operands obey the chapter and the rules 1, 5, 6 and 9. -/
def operandsOk (u : LoadUnit) (b : Bounds) (i : CodeOp) : Bool :=
  if i.op = 0x06 then decide (i.a ≤ 15)
  else if i.op = 0x0C then decide (i.a < b.consts)
  else if 0x10 ≤ i.op ∧ i.op ≤ 0x1D then
    let n := tySize i.a
    let m := memSpace b i.op
    n != 0 && i.b % n == 0 && decide (i.b + n * (if 0x17 ≤ i.op then i.c else 1) ≤ m.1)
      && (i.op < 0x17 || i.c != 0) && !(m.2 && b.err && (i.op == 0x16 || i.op == 0x1D))
  else if i.op = 0x1E then
    i.a % 16 ≤ 4 && i.a / 16 ≤ 4 && i.a / 16 != 2 && i.a / 16 != 4 && 1 ≤ i.b && i.b ≤ 4096
      && !(b.err && i.a / 16 == 3) && [i.a % 16, i.a / 16].all (copySpaceOk b.ty)
  else if i.op = 0x83 ∨ (0x85 ≤ i.op ∧ i.op ≤ 0x89) then i.a == 8 || i.a == 16 || i.a == 32 || i.a == 64
  else if i.op = 0x8A ∨ i.op = 0x8B then decide (i.a ≤ 63)
  else if i.op = 0x90 ∨ i.op = 0x91 then tySize i.a != 0 && tySize i.b != 0
  else if i.op = 0xA4 then i.a != 0
  else if i.op = 0xA8 then
    match u.types[i.b]? with
    | some t => t.kind == 0 && t.engine == b.ty.engine && i.a % 8 == 0 && decide (i.a + t.instSize ≤ b.ty.instSize)
    | none => false
  else if i.op = 0xA9 then
    match u.types[i.a]? with | some t => t.kind == 1 && t.engine == b.ty.engine | none => false
  else if i.op = 0xAB then sysOk b i.a i.b i.c
  else if i.op = 0xAA then b.ty.kind != 2
  else if i.op = 0xAC ∨ i.op = 0xAD then b.ty.kind == 2
  else true

/-! ### Stack depth (R174 rules 2, 3, 4, 7, 8) -/

/-- The entries an instruction needs, removes and adds. A call counts its callee's needs apart. -/
def stackEffect (u : LoadUnit) (i : CodeOp) : Nat × Nat × Nat :=
  let p (pops pushes : Nat) : Nat × Nat × Nat := (pops, pops, pushes)
  if i.op = 0x01 then p 1 2 else if i.op = 0x02 then p 1 0 else if i.op = 0x03 then p 2 2
  else if i.op = 0x04 then p 2 3 else if i.op = 0x05 then p 3 3
  else if i.op = 0x06 then (i.a + 1, 0, 1)
  else if 0x08 ≤ i.op ∧ i.op ≤ 0x0C then p 0 1
  else if i.op = 0x10 ∨ i.op = 0x12 ∨ i.op = 0x14 ∨ i.op = 0x15 then p 0 1
  else if i.op = 0x11 ∨ i.op = 0x13 ∨ i.op = 0x16 then p 1 0
  else if i.op = 0x17 ∨ i.op = 0x19 ∨ i.op = 0x1B ∨ i.op = 0x1C then p 1 1
  else if i.op = 0x18 ∨ i.op = 0x1A ∨ i.op = 0x1D ∨ i.op = 0x1E then p 2 0
  else if 0x20 ≤ i.op ∧ i.op ≤ 0x33 then p 2 1
  else if 0x34 ≤ i.op ∧ i.op ≤ 0x37 then p 1 1
  else if 0x48 ≤ i.op ∧ i.op ≤ 0x4D then p 1 1
  else if 0x40 ≤ i.op ∧ i.op ≤ 0x51 then p 2 1
  else if i.op = 0x54 then p 2 1
  else if 0x52 ≤ i.op ∧ i.op ≤ 0x56 then p 1 1
  else if 0x60 ≤ i.op ∧ i.op ≤ 0x7B then p 2 1
  else if i.op = 0x7C then p 3 1
  else if 0x80 ≤ i.op ∧ i.op ≤ 0x82 then p 2 1
  else if i.op = 0x83 ∨ i.op = 0x84 ∨ i.op = 0x8A ∨ i.op = 0x90 ∨ i.op = 0x91 then p 1 1
  else if 0x85 ≤ i.op ∧ i.op ≤ 0x8B then p 2 1
  else if i.op = 0xA1 ∨ i.op = 0xA2 ∨ i.op = 0xA4 then p 1 0
  else if i.op = 0xA6 then p 0 1
  else if i.op = 0xA9 then
    match u.types[i.a]? with | some t => p t.args t.rets | none => p 0 0
  else if i.op = 0xAB then (if i.a = 1 then p 1 0 else p 0 1)
  else p 0 0

/-- The address a branch goes to. -/
def branchTarget (i : CodeOp) : Option Nat :=
  if 0xA0 ≤ i.op ∧ i.op ≤ 0xA2 then some (i.next + i.a)
  else if i.op = 0xA3 then some (i.next + i.b * 65536 + i.a)
  else none

/-- An instruction after which the next address is not reached from it. -/
def noFall (i : CodeOp) : Bool := i.op == 0xA0 || i.op == 0xA3 || i.op == 0xAA || i.op == 0xAD

/-- The loop bodies of a range: body start and the address after its ENDLOOP (R166). -/
def loopBodies (l : List CodeOp) : List (Nat × Nat) :=
  l.filterMap (fun i => if i.op = 0xA4 then some (i.next, i.next + i.b) else none)

/-- Branches go forward to instruction starts and into no body they do not lie in; no SEG or END lies between a branch
and its target (rule 2, R170). -/
def branchesOk (l : List CodeOp) : Bool :=
  let bodies := loopBodies l
  l.all (fun i => match branchTarget i with
    | none => true
    | some t =>
      l.any (fun j => j.pc == t) &&
      bodies.all (fun p => !(decide (p.1 ≤ t) && decide (t < p.2)) || (decide (p.1 ≤ i.pc) && decide (i.pc < p.2))) &&
      l.all (fun j => !((j.op == 0xAC || j.op == 0xAD) && decide (i.pc < j.pc) && decide (j.pc < t))))

/-- LOOPs match their ENDLOOPs and nest at most 4 deep; SEG and END stand outside loops; LIDX names an open level
(rule 3, R173). -/
def loopsOk : List Nat → List CodeOp → Bool
  | open', [] => open'.isEmpty
  | open', i :: r =>
    if i.op = 0xA4 then decide (open'.length < 4) && loopsOk ((i.next + i.b) :: open') r
    else if i.op = 0xA5 then
      match open' with | stop :: o => stop == i.next && loopsOk o r | [] => false
    else if i.op = 0xA6 then decide (i.a < open'.length) && loopsOk open' r
    else if i.op = 0xAC ∨ i.op = 0xAD then open'.isEmpty && loopsOk open' r
    else loopsOk open' r

/-- What a type needs of the stack below its entry and how far it rises above it. -/
structure Depth where
  need : Nat
  rise : Nat
deriving DecidableEq, Repr

/-- The pass over a range: the depth from the instruction above, relative to the entry and biased by 64 so that it
stays a natural number; the depths branches bring to later addresses; the depths of the open loops. -/
structure DepthPass where
  cur : Option Nat
  pending : List (Nat × Nat)
  loops : List Nat
  low : Nat
  high : Nat
deriving DecidableEq, Repr

/-- The depth at an address from above and from branches, or none where they disagree; an inner none where nothing
reaches it. -/
def joinDepth (p : DepthPass) (pc : Nat) : Option (Option Nat) :=
  let l := (p.pending.filter (fun q => q.1 == pc)).map (·.2) ++ p.cur.toList
  match l with
  | [] => some none
  | d :: r => if r.all (fun x => x == d) then some (some d) else none

/-- The stack rules over a range (rule 4); `bias` stands for the entry depth. A callee whose own code breaks a rule
counts as needing nothing here: the fault lies in its range (R556). -/
def depthPass (u : LoadUnit) (look : Nat → Option Depth) (rets : Nat) (bias : Nat) :
    List CodeOp → DepthPass → Option DepthPass
  | [], p => if p.cur.isNone then some p else none
  | i :: r, p =>
    match joinDepth p i.pc with
    | none => none
    | some none => depthPass u look rets bias r { p with
        cur := none, loops := if i.op = 0xA4 then bias :: p.loops else if i.op = 0xA5 then p.loops.drop 1 else p.loops }
    | some (some d) =>
      let e := stackEffect u i
      if d < e.1 then none
      else
        let low := d - e.1
        let d1 := d - e.2.1
        let inner := match callee i with
          | some c => (look c).getD ⟨0, 0⟩
          | none => ⟨0, 0⟩
        let d2 := d1 + e.2.2
        if d1 < inner.need then none
        else if (i.op == 0xAC || i.op == 0xAD) && d != bias then none
        else if i.op == 0xAA && d != bias + rets then none
        else if i.op == 0xA5 && p.loops.head? != some d then none
        else
          let pend := match branchTarget i with | some t => (t, d2) :: p.pending | none => p.pending
          let pend := if i.op = 0xA4 then (i.next + i.b, d2) :: pend else pend
          let lo := if low < p.low then low else p.low
          let lo := if d1 - inner.need < lo then d1 - inner.need else lo
          let top := if d1 + inner.rise < d2 then d2 else d1 + inner.rise
          depthPass u look rets bias r {
            cur := if noFall i then none else some d2
            pending := pend
            loops := if i.op = 0xA4 then d2 :: p.loops else if i.op = 0xA5 then p.loops.drop 1 else p.loops
            low := lo
            high := if p.high < top then top else p.high }

/-- The stack needs of a type, where its code obeys the stack rules. A function's frame begins below its arguments,
which the call has popped. -/
def typeDepth (u : LoadUnit) : Nat → Nat → Option Depth
  | 0, _ => none
  | f + 1, idx =>
    match u.types[idx]? with
    | none => none
    | some ty =>
      match typeCode u ty with
      | none => none
      | some l =>
        (depthPass u (typeDepth u f) ty.rets 64 l ⟨some 64, [], [], 64, 64⟩).map (fun p => ⟨64 - p.low, p.high - 64⟩)

/-! ### The rules together (R174) -/

/-- What a type's code is checked against. -/
def boundsOf (u : LoadUnit) (idx : Nat) (ty : TypeRow) : Bounds :=
  let lim := imageLimits u idx
  let consts := match u.images.find? (fun c => c.engine == ty.engine) with | some c => c.consts.length / 8 | none => 0
  ⟨ty, lim.1, lim.2.1, lim.2.2, consts⟩

/-- A PROGRAM's code ends with its one END and holds a SEG for every segment but the last of each task it serves
(R169). -/
def bodyOk (u : LoadUnit) (idx : Nat) (l : List CodeOp) : Bool :=
  let ends := (l.filter (fun i => i.op == 0xAD)).length
  let segs := (l.filter (fun i => i.op == 0xAC)).length
  ends == 1 && (l.getLast?.map (·.op)) == some 0xAD &&
    u.tasks.all (fun t => taskType u t != some idx || segs + 1 == t.segments)

/-- The code rules of R174 for one TYPES entry. -/
def typeOk (u : LoadUnit) (idx : Nat) : Bool :=
  match u.types[idx]? with
  | none => false
  | some ty =>
    match typeCode u ty with
    | none => false
    | some l =>
      l.all (operandsOk u (boundsOf u idx ty)) && branchesOk l && loopsOk [] l
        && callsOk u chainFuel idx
        && (ty.kind != 2 || bodyOk u idx l)
        && (match typeDepth u chainFuel idx with
          | some d => decide (d.rise ≤ 16) && (ty.kind != 2 || d.need == 0)
          | none => false)

/-- The lowest TYPES index whose code breaks a rule. -/
def codeFault (u : LoadUnit) : Option Nat := (List.range u.types.length).find? (fun i => !typeOk u i)

/-! ### Worst case (R167) -/

/-- The cycles of an instruction, with a call's callee at its declared WCET (R157, R167). -/
def opCycles (u : LoadUnit) (i : CodeOp) : Nat :=
  if i.op ≤ 0x0B then 1 else if i.op = 0x0C then 2
  else if i.op ≤ 0x16 then 2 else if i.op ≤ 0x1D then 4
  else if i.op = 0x1E then 4 + (i.b + 15) / 16
  else if i.op ≤ 0x27 then 1
  else if i.op ≤ 0x2B then (if i.op % 2 = 0 then 3 else 4)
  else if i.op ≤ 0x33 then (if i.op % 2 = 0 then 20 else 36)
  else if i.op ≤ 0x37 then 1
  else if i.op ≤ 0x45 then 3
  else if i.op ≤ 0x47 then (if i.op % 2 = 0 then 10 else 16)
  else if i.op ≤ 0x4B then 1
  else if i.op ≤ 0x4D then (if i.op % 2 = 0 then 10 else 18)
  else if i.op ≤ 0x51 then 2
  else if i.op ≤ 0x53 then 48 else if i.op = 0x54 then 56 else if i.op ≤ 0x56 then 44
  else if i.op ≤ 0x69 then 1 else if i.op ≤ 0x75 then 2 else if i.op ≤ 0x8B then 1
  else if i.op ≤ 0x91 then convertCycles i.a i.b
  else if i.op ≤ 0xA3 then 2 else if i.op = 0xA4 then 3 else if i.op ≤ 0xA6 then 1
  else if i.op ≤ 0xA9 then
    match (callee i).bind (fun c => u.types[c]?) with
    | some t => 12 + t.args + (t.localSize + 63) / 64 + t.wcet
    | none => 12
  else if i.op = 0xAA then 6
  else if i.op = 0xAB then (if i.a ≤ 3 then 4 else 24)
  else 2

/-- An open loop of the pass: the cost at its LOOP, none where no path reaches it, its maximum, the address after it, the
greatest cost of a path through the body or out of it, the targets that branches leave it for, and whether a RET does. -/
structure LoopCost where
  start : Option Nat
  max : Nat
  stop : Nat
  worst : Nat
  leave : List Nat
  rets : Bool
deriving DecidableEq, Repr

/-- The pass over a range: the cost from above; the costs branches bring, by target; the open loops; the costs of the
segments ended, in order; the greatest cost at a RET. -/
structure CostPass where
  cur : Option Nat
  pending : List (Nat × Nat)
  loops : List LoopCost
  segs : List Nat
  ret : Nat
deriving DecidableEq, Repr

/-- The greater of a cost and those branches bring to an address. -/
def joinCost (p : CostPass) (pc : Nat) : Option Nat :=
  (p.pending.filter (fun q => q.1 == pc)).foldl (fun m q =>
    match m with | some c => some (if c < q.2 then q.2 else c) | none => some q.2) p.cur

/-- The greater of two costs. -/
def costMax (a b : Nat) : Nat := if a < b then b else a

/-- A loop closes: its whole figure stands at its exit, at the targets it is left for, and at a RET in it; a loop that no
path reaches has none. What leaves the loop around it too counts as a path out of that one. -/
def closeLoop (lc : LoopCost) (rest : List LoopCost) (p : CostPass) : CostPass :=
  match lc.start with
  | none => { p with cur := none, loops := rest }
  | some c =>
    let total := c + 3 + lc.max * lc.worst
    match rest with
    | [] =>
      { p with cur := some total, pending := lc.leave.map (fun t => (t, total)) ++ p.pending, loops := []
               ret := if lc.rets then costMax p.ret total else p.ret }
    | o :: r =>
      let out := lc.leave.filter (fun t => decide (o.stop ≤ t))
      let o := if out.isEmpty && !lc.rets then o
        else { o with worst := costMax o.worst total, leave := o.leave ++ out, rets := o.rets || lc.rets }
      { p with cur := some total, loops := o :: r
               pending := (lc.leave.filter (fun t => decide (t < o.stop))).map (fun t => (t, total)) ++ p.pending }

/-- Longest paths over a range (R167). -/
def costPass (u : LoadUnit) : List CodeOp → CostPass → CostPass
  | [], p => p
  | i :: r, p =>
    let cur := joinCost p i.pc
    if i.op = 0xA4 then
      costPass u r { p with cur := cur.map (fun _ => 0), loops := ⟨cur, i.a, i.next + i.b, 0, [], false⟩ :: p.loops }
    else if i.op = 0xA5 then
      match p.loops with
      | lc :: rest =>
        let worst := match cur with | some c => costMax lc.worst (c + 1) | none => lc.worst
        costPass u r (closeLoop { lc with worst := worst } rest p)
      | [] => costPass u r p
    else
      let c := cur.map (· + opCycles u i)
      let p := match branchTarget i, c with
        | some t, some c =>
          (match p.loops with
            | lc :: rest =>
              if lc.stop ≤ t then
                { p with loops := { lc with worst := costMax lc.worst c, leave := t :: lc.leave } :: rest }
              else { p with pending := (t, c) :: p.pending }
            | [] => { p with pending := (t, c) :: p.pending })
        | _, _ => p
      if i.op = 0xAC ∨ i.op = 0xAD then
        costPass u r { p with cur := if i.op = 0xAC then some 0 else none, segs := p.segs ++ [c.getD 0] }
      else if i.op = 0xAA then
        costPass u r (match p.loops, c with
          | lc :: rest, some c => { p with cur := none, loops := { lc with worst := costMax lc.worst c, rets := true } :: rest }
          | _, _ => { p with cur := none, ret := costMax p.ret (c.getD 0) })
      else costPass u r { p with cur := if noFall i then none else c }

/-- The derived worst cases of a type: of its segments where it is a PROGRAM, and to its RET. -/
def deriveCost (u : LoadUnit) (idx : Nat) : List Nat × Nat :=
  match u.types[idx]? with
  | none => ([], 0)
  | some ty =>
    let p := costPass u ((typeCode u ty).getD []) ⟨some 0, [], [], [], 0⟩
    (p.segs, p.ret)

/-- The derived WCET of a task's segments. -/
def taskCosts (u : LoadUnit) (t : TaskRow) : List Nat :=
  match taskType u t with | some i => (deriveCost u i).1 | none => []

end Sys2Proof.Machine
end

