-- ==== Sys2Proof/Machine/LoadParse.lean ====
section
/-! DEFINITION. The load unit (05 R175-R185): its sections and their layout, check 2 of 04 R116 with the DETAIL of 04
R556. -/

namespace Sys2Proof.Machine

/-- The offset and size of section i (R176). -/
def secOff (bs : List Byte) (i : Nat) : Nat := leAt bs (24 + 8 * i) 4
def secSize (bs : List Byte) (i : Nat) : Nat := leAt bs (28 + 8 * i) 4

/-- The bytes of section i. -/
def sectionAt (bs : List Byte) (i : Nat) : List Byte := (bs.drop (secOff bs i)).take (secSize bs i)

/-- Cuts into entries of n bytes. -/
def entries (n : Nat) : Nat → List Byte → List (List Byte)
  | 0, _ => []
  | fuel + 1, bs => if bs.isEmpty then [] else bs.take n :: entries n fuel (bs.drop n)

/-- The entries of a table section. -/
def rowsOf (n : Nat) (bs : List Byte) : List (List Byte) := entries n (bs.length / n) bs

/-- A field lies in the bytes as zeros. -/
def zeroAt (bs : List Byte) (off n : Nat) : Bool := leAt bs off n == 0

/-- Reserved fields are checked under FORMAT_MINOR 0 only (R176). -/
def reservedOk (minor : Nat) (bs : List Byte) (off n : Nat) : Bool := minor != 0 || zeroAt bs off n

/-- All keys of a list differ. -/
def allDistinct : List Nat → Bool
  | [] => true
  | a :: r => !r.contains a && allDistinct r

/-! ### Check 1 (R185, 04 R116): the SIGNATURE section is located and parses -/

/-- The SIGNATURE section is found and parses under R185. -/
def signatureParses (bs : List Byte) : Bool :=
  decide (128 ≤ bs.length) && leAt bs 0 4 == 0x554C5450 && leAt bs 4 1 == 1 && leAt bs 16 4 == bs.length &&
  decide (3464 ≤ secSize bs 9) && decide (secOff bs 9 + secSize bs 9 ≤ bs.length) &&
  (let g := sectionAt bs 9
   let minor := leAt bs 5 1
   leAt g 0 2 == 3 && reservedOk minor g 2 2 && reservedOk minor g 3457 3 && leAt g 3460 4 + 3464 == secSize bs 9)

/-! ### Sections -/

/-- The engine images of CODE (R177), from image `e` on. -/
def parseImages (minor : Nat) : Nat → Nat → List Byte → Option (List CodeImage)
  | 0, _, bs => if bs.isEmpty then some [] else none
  | n + 1, e, bs =>
    let size := leAt bs 4 4
    let cnt := leAt bs 8 4
    let pad := (size + 7) / 8 * 8
    if bs.length < 16 + pad + 8 * cnt ∨ leAt bs 0 1 ≠ e then none
    else if !(reservedOk minor bs 1 3 && reservedOk minor bs 12 4) then none
    else if ((bs.drop (16 + size)).take (pad - size)).any (fun b => b != 0#8) then none
    else (parseImages minor n (e + 1) (bs.drop (16 + pad + 8 * cnt))).map (fun l =>
      ⟨e, (bs.drop 16).take size, (bs.drop (16 + pad)).take (8 * cnt)⟩ :: l)

/-- A TYPES entry (R178). -/
def readType (b : List Byte) : TypeRow :=
  ⟨leAt b 0 1, leAt b 1 1, leAt b 2 1, leAt b 3 1, leAt b 4 4, leAt b 8 4, leAt b 12 4, leAt b 16 2, leAt b 20 4, leAt b 24 4⟩

/-- The layout of a TYPES entry. -/
def typeRowOk (minor engines : Nat) (imgs : List CodeImage) (b : List Byte) : Bool :=
  let t := readType b
  decide (t.kind ≤ 2) && decide (t.engine < engines) && decide (t.args ≤ (if t.kind = 1 then 8 else 0)) &&
  decide (t.rets ≤ (if t.kind = 1 then 1 else 0)) &&
  (if t.kind = 1 then t.instSize == 0 else t.instSize % 8 == 0 && decide (8 ≤ t.instSize) && decide (t.instSize ≤ 65536)) &&
  decide (t.localSize ≤ 4096) && t.localSize % 8 == 0 && decide (8 * t.args ≤ t.localSize) &&
  (t.kind != 2 || (t.localSize == 0 && t.wcet == 0)) && reservedOk minor b 18 2 && reservedOk minor b 28 4 &&
  (match imgs.find? (fun c => c.engine == t.engine) with
    | some c => decide (t.codeOff + t.codeLen ≤ c.code.length)
    | none => false)

/-- An INSTANCES entry (R179). -/
def readInst (b : List Byte) : InstRow :=
  ⟨leAt b 0 4, leAt b 4 4, leAt b 8 4, leAt b 12 4, leAt b 16 4, leAt b 20 1⟩

/-- The layout of an INSTANCES entry. -/
def instRowOk (minor : Nat) (types : List TypeRow) (initLen : Nat) (b : List Byte) : Bool :=
  let i := readInst b
  (match types[i.type]? with | some t => t.kind == 2 && i.size == t.instSize && i.engine == t.engine | none => false) &&
  i.bankOff % 64 == 0 && (i.initOff == 0xFFFFFFFF || decide (i.initOff + i.size ≤ initLen)) && reservedOk minor b 21 3

/-- A TASKS entry (R181). -/
def readTask (b : List Byte) : TaskRow :=
  ⟨leAt b 0 1, leAt b 1 1, leAt b 2 1, leAt b 3 1, leAt b 4 2, leAt b 6 2, leAt b 8 1, leAt b 9 1, leAt b 10 1,
   leAt b 12 2, leAt b 14 2, (List.range 8).map (fun i => leAt b (16 + 2 * i) 2),
   (List.range 8).map (fun i => leAt b (32 + 4 * i) 4), leAt b 64 4⟩

/-- The layout of a TASKS entry; ENGINE and KIND have their ranges from 04 R115, which check 6 holds. -/
def taskRowOk (minor engines : Nat) (insts : List InstRow) (b : List Byte) : Bool :=
  let t := readTask b
  (match t.kind with
    | 0 => decide (t.task < 64)
    | 1 => t.task == 0x40 + t.engine && t.inBytes == 64
    | _ => true) &&
  reservedOk minor b 11 1 && reservedOk minor b 68 12 &&
  (t.offsets.drop t.segments).all (fun v => v == 0) && (t.wcets.drop t.segments).all (fun v => v == 0) &&
  insts.any (fun i => i.id == t.inst && (decide (engines ≤ t.engine) || i.engine == t.engine))

/-- The error tasks follow the cyclic tasks (R181). -/
def errorsLast : List TaskRow → Bool
  | [] => true
  | t :: r => (t.kind != 1 || r.all (fun x => x.kind != 0)) && errorsLast r

/-- A station record (R183). -/
def readStation (b : List Byte) : StationRow := ⟨leAt b 0 1, leAt b 1 1, leAt b 4 4, leAt b 8 4, leAt b 12 4⟩

/-- An input item (R183). -/
def readIn (b : List Byte) : InItem :=
  ⟨leAt b 0 4, leAt b 4 1, leAt b 5 1, leAt b 6 1, leAt b 7 1, leAt b 8 4, leAt b 12 2, leAt b 14 2, leAt b 16 2⟩

/-- An output item (R183). -/
def readOut (b : List Byte) : OutItem :=
  ⟨leAt b 0 4, leAt b 4 1, leAt b 5 1, leAt b 6 1, leAt b 7 1, leAt b 8 4, leAt b 12 2, leAt b 14 2, leAt b 16 1,
   leAt b 24 8⟩

/-- A type code of the symbol table, and the size it must have. -/
def anyType (t size : Nat) : Bool :=
  if tySize t ≠ 0 then size == tySize t else decide (0x40 ≤ t) && decide (t ≤ 0x44) && size != 0

/-- The layout of an input item. -/
def inRowOk (minor : Nat) (tasks : List TaskRow) (stations : List StationRow) (b : List Byte) : Bool :=
  let i := readIn b
  (match tasks.find? (fun t => t.task == i.task) with
    | some t => decide (i.imgOff + i.size ≤ t.inBytes) &&
        (i.statusOff == 0xFFFF || (decide (48 ≤ i.statusOff) && decide (i.statusOff + 4 ≤ t.inBytes)))
    | none => false) &&
  anyType i.type i.size && (i.station == 0xFF || stations.any (fun r => r.station == i.station)) &&
  decide (1 ≤ i.srcKind) && decide (i.srcKind ≤ 0x0A) && decide (48 ≤ i.imgOff) && reservedOk minor b 18 6

/-- The layout of an output item. -/
def outRowOk (minor : Nat) (tasks : List TaskRow) (stations : List StationRow) (b : List Byte) : Bool :=
  let i := readOut b
  (match tasks.find? (fun t => t.task == i.task) with
    | some t => decide (i.imgOff + i.size ≤ t.outBytes)
    | none => false) &&
  anyType i.type i.size && (i.station == 0xFF || stations.any (fun r => r.station == i.station)) &&
  (i.dstKind == 4 || i.dstKind == 6 || i.dstKind == 7 || i.dstKind == 0x0C) && decide (i.stopAction ≤ 1) &&
  reservedOk minor b 17 7

/-- The image map, where its layout holds (R183). -/
def parseMap (minor initLen : Nat) (tasks : List TaskRow) (bs : List Byte) :
    Option (List StationRow × List InItem × List OutItem) :=
  let ns := leAt bs 0 1
  let ni := leAt bs 4 4
  let no := leAt bs 8 4
  if 64 < ns ∨ bs.length ≠ 16 + 16 * ns + 24 * ni + 32 * no then none
  else if !(reservedOk minor bs 1 3 && reservedOk minor bs 12 4) then none
  else
    let sr := rowsOf 16 ((bs.drop 16).take (16 * ns))
    let ir := rowsOf 24 ((bs.drop (16 + 16 * ns)).take (24 * ni))
    let or' := rowsOf 32 (bs.drop (16 + 16 * ns + 24 * ni))
    let st := sr.map readStation
    if !(sr.all (fun b => reservedOk minor b 2 2) && st.all (fun r => decide (r.station < 64) && decide (r.mode ≤ 1)
        && decide (r.substOff + r.substLen ≤ initLen)) && allDistinct (st.map (·.station))) then none
    else if !(ir.all (inRowOk minor tasks st) && or'.all (outRowOk minor tasks st)) then none
    else some (st, ir.map readIn, or'.map readOut)

/-- The bytes from NAME_OFF up to the NUL; no name is no bytes (R184). -/
def nameAt (strs : List Byte) (off : Nat) : List Byte :=
  if off = 0xFFFFFFFF then [] else (strs.drop off).takeWhile (· != 0#8)

/-- A name is UTF-8 and ends with NUL in STRINGS (R184). -/
def nameOk (strs : List Byte) (off : Nat) : Bool :=
  off == 0xFFFFFFFF ||
    (decide (off + (nameAt strs off).length < strs.length) && utf8From 0 0x80 0xBF (nameAt strs off))

/-- A SYMBOLS entry (R184), with its name from STRINGS. -/
def readSym (strs b : List Byte) : SymRow :=
  ⟨leAt b 0 4, leAt b 4 1, leAt b 5 1, leAt b 6 1, leAt b 7 1, leAt b 8 4, leAt b 12 4, leAt b 16 4,
   nameAt strs (leAt b 20 4)⟩

/-- Symbol identifiers rise strictly. -/
def symsRise : List SymRow → Bool
  | [] => true
  | [_] => true
  | a :: b :: r => decide (a.id < b.id) && symsRise (b :: r)

/-- The layout of a SYMBOLS entry. -/
def symRowOk (insts : List InstRow) (nIn nOut strLen : Nat) (b : List Byte) : Bool :=
  let y := readSym [] b
  let name := leAt b 20 4
  decide (1 ≤ y.id) && decide (y.id ≤ 0xFFFFFFFE) && decide (y.kind ≤ 4) && decide (y.flags < 8) &&
  anyType y.type y.size &&
  (if y.type = 0x40 then tySize y.elem != 0 || (decide (0x40 ≤ y.elem) && decide (y.elem ≤ 0x44)) else y.elem == 0) &&
  (!bitOf y.flags 1 || (tySize y.type != 0 && decide (y.kind ≤ 2))) &&
  (if y.kind = 0 then decide (y.loc < nIn) && y.offset == 0
   else if y.kind = 1 then decide (y.loc < nOut) && y.offset == 0
   else insts.any (fun i => i.id == y.loc && decide (y.offset + y.size ≤ i.size))) &&
  (name == 0xFFFFFFFF || decide (name < strLen))

/-- Sections lie in order on 16-byte boundaries after the header, with gaps of 0 (R175). -/
def placesOk (bs : List Byte) : Bool :=
  let starts := (List.range 10).map (secOff bs)
  let ends := 128 :: (List.range 10).map (fun i => secOff bs i + secSize bs i)
  starts.all (fun o => o % 16 == 0) &&
  (List.range 10).all (fun i => decide (ends.getD i 0 ≤ starts.getD i 0) &&
    ((bs.drop (ends.getD i 0)).take (starts.getD i 0 - ends.getD i 0)).all (fun b => b == 0#8)) &&
  secOff bs 9 + secSize bs 9 == bs.length && decide (bs.length ≤ 8 * 1024 * 1024)

/-- The engines of a unit by its MODE (R176). -/
def unitEngines (bs : List Byte) : Nat := if leAt bs 6 1 = 1 then 8 else 4

/-- The header beyond what check 1 covers (R176); the build time is one of 02 R37. -/
def headerFields (split : Bool) (bs : List Byte) : Bool :=
  leAt bs 6 1 == (if split then 1 else 0) && leAt bs 7 1 == unitEngines bs && !zeroAt bs 8 8 &&
  decide (leAt bs 104 4 < 1000000000) &&
  (List.range 4).all (fun i => decide (4 ≤ leAt bs (20 + i) 1) && decide (leAt bs (20 + i) 1 ≤ 8)) &&
  reservedOk (leAt bs 5 1) bs 118 10

/-- What layout checking answers: the unit, or the DETAIL of RESULT 2 (R556). -/
inductive Parsed where
  | unit (u : LoadUnit)
  | bad (detail : Nat)

/-- The unit as its sections are laid out, or the first section that fails. An empty section other than STRINGS fails
(R175). -/
def parseSections (bs : List Byte) : Parsed :=
    let minor := leAt bs 5 1
    let engines := unitEngines bs
    let sec := sectionAt bs
    match parseImages minor engines 0 (sec 0) with
    | none => .bad 0
    | some imgs =>
      let void (i : Nat) : Bool := secSize bs i == 0
      let tr := rowsOf 32 (sec 1)
      let types := tr.map readType
      if void 1 ∨ secSize bs 1 % 32 ≠ 0 ∨ !(tr.all (typeRowOk minor engines imgs) && allDistinct (types.map (·.typeId))) then .bad 1
      else
        let ir := rowsOf 24 (sec 2)
        let insts := ir.map readInst
        if void 2 ∨ secSize bs 2 % 24 ≠ 0 ∨ !(ir.all (instRowOk minor types (secSize bs 3)) && allDistinct (insts.map (·.id))) then
          .bad 2
        else if void 3 then .bad 3
        else
          let kr := rowsOf 80 (sec 4)
          let tasks := kr.map readTask
          if void 4 ∨ secSize bs 4 % 80 ≠ 0 ∨ !(kr.all (taskRowOk minor engines insts) && errorsLast tasks) then .bad 4
          else
            let pl := sec 5
            if pl.length ≠ 4 + 8 * engines ∨ leAt pl 2 1 ≠ engines ∨ !(reservedOk minor pl 3 1 &&
                (List.range engines).all (fun e => reservedOk minor pl (4 + 8 * e + 6) 2)) then .bad 5
            else match parseMap minor (secSize bs 3) tasks (sec 6) with
              | none => .bad 6
              | some (st, ins, outs) =>
                let yr := rowsOf 24 (sec 7)
                let syms := yr.map (readSym (sec 8))
                if void 7 ∨ secSize bs 7 % 24 ≠ 0 ∨ !(yr.all (symRowOk insts ins.length outs.length (secSize bs 8))
                    && symsRise syms) then .bad 7
                else if !(yr.all (fun b => nameOk (sec 8) (leAt b 20 4))) then .bad 8
                else
                  let u : LoadUnit := {
                    id := leAt bs 8 8, split := leAt bs 6 1 == 1, built := (bs.drop 104).take 10, tool := (bs.drop 114).take 4
                    ringLog2 := (List.range 4).map (fun i => leAt bs (20 + i) 1)
                    images := imgs, types := types, insts := insts, init := sec 3, tasks := tasks, planH := leAt pl 0 2
                    plan := (List.range engines).map (fun e => (leAt pl (4 + 8 * e) 4, leAt pl (8 + 8 * e) 2))
                    stations := st, ins := ins, outs := outs, syms := syms, locals := [] }
                  .unit { u with locals := (List.range engines).map (localSizeOf u) }

/-- Check 2 (04 R116): the unit, or the lowest DETAIL of R556: a section's index before the header's and the unit's own. -/
def parseUnit (split : Bool) (bs : List Byte) : Parsed :=
  match parseSections bs with
  | .bad d => .bad d
  | .unit u => if !headerFields split bs then .bad 0xFFFE else if !placesOk bs then .bad 0xFFFF else .unit u

end Sys2Proof.Machine
end

