-- ==== Sys2Proof/Machine/Loader.lean ====
section
/-! DEFINITION. Admission of a load unit (04 R111-R119, R556; 05 R179): the checks 3 to 9 in their order, the work of
every frame, and the admission report. -/

namespace Sys2Proof.Machine

/-- The budget B of R118. -/
def budget : Nat := 232066

/-- H: the least common multiple of all periods (R118). -/
def planH (u : LoadUnit) : Nat := u.tasks.foldl (fun m t => Nat.lcm m t.period) 1

/-- The cost of segment i of a task in its frame (R118). -/
def segmentWork (t : TaskRow) (costs : List Nat) (i : Nat) : Nat :=
  40 + costs.getD i 0 + 8 * t.reserve + (if i = 0 then 64 + (t.inBytes + 15) / 16 else 0)
    + (if i + 1 = t.segments then 64 + (t.outBytes + 15) / 16 else 0)

/-- Segment i of a task runs in frame f (R112, R113). -/
def segmentDue (t : TaskRow) (i f : Nat) : Bool :=
  t.kind == 0 && decide (t.offsets.getD i 0 ≤ f + 4000) &&
    (f + 4000 - t.offsets.getD i 0) % t.period == t.phase

/-- W(e, f) over tasks with their segments' costs (R118). -/
def frameWork (ts : List (TaskRow × List Nat)) (e f : Nat) : Nat :=
  ts.foldl (fun m p =>
    if p.1.engine = e then
      (List.range p.1.segments).foldl (fun m i => if segmentDue p.1 i f then m + segmentWork p.1 p.2 i else m) m
    else m) 0

/-- The highest W of an engine and the lowest frame that reaches it. -/
def peakWork (ts : List (TaskRow × List Nat)) (e h : Nat) : Nat × Nat :=
  (List.range h).foldl (fun m f => let w := frameWork ts e f; if m.1 < w then (w, f) else m) (0, 0)

/-- Periods that divide 4000 (R112). -/
def periodsOk (u : LoadUnit) : Bool := u.tasks.all (fun t => t.period != 0 && 4000 % t.period == 0)

/-- The tasks with the derived costs of their segments. -/
def costed (u : LoadUnit) : List (TaskRow × List Nat) := u.tasks.map (fun t => (t, taskCosts u t))

/-- The peaks of all engines, where the periods allow a plan. -/
def peaks (u : LoadUnit) : List (Nat × Nat) :=
  if periodsOk u then (List.range u.plan.length).map (fun e => peakWork (costed u) e (planH u))
  else u.plan.map (fun _ => (0, 0))

/-- The engine of the worst frame, that frame, and its work (R556). -/
def worstFrame (pk : List (Nat × Nat)) : Nat × Nat × Nat :=
  ((List.range pk.length).zip pk).foldl (fun m p => if m.2.2 < p.2.1 then (p.1, p.2.2, p.2.1) else m) (0, 0, 0)

/-- The least of a list of details. -/
def leastDetail (l : List Nat) : Option Nat :=
  l.foldl (fun m d => match m with | some a => some (if d < a then d else a) | none => some d) none

/-- Check 4: declared against derived figures (R117, 05 R178, R182). -/
def wcetFault (u : LoadUnit) : Option Nat :=
  let ty := (List.range u.types.length).filter (fun i => match u.types[i]? with
    | some t => t.kind != 2 && (deriveCost u i).2 != t.wcet
    | none => false)
  let ks := (List.range u.tasks.length).filterMap (fun p => match u.tasks[p]? with
    | some t => if (taskCosts u t).take t.segments = t.wcets.take t.segments then none else some (0x8000 + p)
    | none => none)
  let pl := if periodsOk u && !(u.planH == planH u && u.plan == peaks u) then [0xFFFF] else []
  leastDetail (ty ++ ks ++ pl)

/-- The offsets of a task: 0 first, rising strictly, below the period (R113). -/
def offsetsRise (p : Nat) : List Nat → Bool
  | [] => true
  | [a] => decide (a < p)
  | a :: b :: r => decide (a < b) && offsetsRise p (b :: r)

/-- The limits of R111-R113 and R115 on one task. -/
def taskLimits (u : LoadUnit) (t : TaskRow) : Bool :=
  t.period != 0 && 4000 % t.period == 0 && decide (t.phase < t.period) && decide (1 ≤ t.segments) &&
  decide (t.segments ≤ 8) && t.offsets.getD 0 0 == 0 && offsetsRise t.period (t.offsets.take t.segments) &&
  (t.wcets.take t.segments).all (fun w => decide (1 ≤ w) && decide (w ≤ budget)) &&
  decide (t.engine < u.plan.length) && decide (t.kind ≤ 1) && decide (48 ≤ t.inBytes) && decide (t.inBytes ≤ 49152) &&
  decide (t.outBytes ≤ 16384) && decide (t.reserve ≤ 32) && decide (t.faultMode ≤ 1) && decide (t.safety ≤ 1) &&
  (t.kind == 0 || (t.period == 1 && t.segments == 1 && t.outBytes == 0))

/-- Two instances of one engine overlap. -/
def overlap (a b : InstRow) : Bool :=
  a.engine == b.engine && decide (a.bankOff < b.bankOff + b.size) && decide (b.bankOff < a.bankOff + a.size)

/-- The image regions of an engine as offsets only, for the fit of its bank (05 R179). -/
def bankEnd (u : LoadUnit) (e : Nat) : Nat :=
  let top := (u.insts.filter (fun i => i.engine == e)).foldl (fun m i => if m < i.bankOff + i.size then i.bankOff + i.size else m) 0
  let up (n : Nat) : Nat := (n + 63) / 64 * 64
  let o := (u.tasks.filter (fun t => t.engine == e)).foldl (fun o t => up (up o + t.inBytes) + t.outBytes) top
  up o + u.locals.getD e 0

/-- Check 6: limits, instances and fit (R111-R115, R119; 05 R177, R179; 11 R554). -/
def limitFault (u : LoadUnit) (snapBytes : Nat) : Option Nat :=
  let ks := (List.range u.tasks.length).filter (fun p => match u.tasks[p]? with
    | some t => !taskLimits u t | none => false)
  let is := (List.range u.insts.length).filterMap (fun i => match u.insts[i]? with
    | some x =>
      if (u.tasks.filter (fun t => t.inst == x.id)).length = 1
        ∧ (List.range u.insts.length).all (fun j => j == i || match u.insts[j]? with
            | some y => !overlap x y | none => true) = true then none else some (0x4000 + i)
    | none => none)
  let es := (List.range u.plan.length).filterMap (fun e =>
    let code := match u.images.find? (fun c => c.engine == e) with
      | some c => (c.code.length + 7) / 8 * 8 + c.consts.length | none => 0
    if code ≤ (if u.split then 512 * 1024 else 1024 * 1024)
      ∧ bankEnd u e ≤ (if u.split then 896 * 1024 else 1920 * 1024) then none else some (0xC000 + e))
  let cyc := u.tasks.filter (fun t => t.kind == 0)
  let ws := if cyc.length ≤ 64
      ∧ (List.range u.plan.length).all (fun e => decide ((cyc.filter (fun t => t.engine == e)).length ≤ 16)
        && decide ((u.tasks.filter (fun t => t.kind == 1 && t.engine == e)).length ≤ 1)) = true
      ∧ snapBytes ≤ 49152 then [] else [0xFFFF]
  leastDetail (ks ++ is ++ es ++ ws)

/-- What admission knows of the configurations: whether a source, an output and a station exist, and the bytes of the
worst-case snapshot (R116 check 5, 11 R554). -/
structure Config5 where
  src : InItem → Bool
  dst : OutItem → Bool
  station : StationRow → Bool
  snapBytes : Nat

/-- Check 5: every item exists and every output has one writing task (R116). -/
def mapFault (u : LoadUnit) (c : Config5) : Option Nat :=
  let st := (List.range u.stations.length).filter (fun i => match u.stations[i]? with
    | some r => !c.station r | none => false)
  let is := (List.range u.ins.length).filterMap (fun i => match u.ins[i]? with
    | some x => if c.src x then none else some (u.stations.length + i) | none => none)
  let os := (List.range u.outs.length).filterMap (fun i => match u.outs[i]? with
    | some x =>
      if c.dst x && u.outs.all (fun y => !(y.dstKind == x.dstKind && y.dstRef == x.dstRef) || y.task == x.task) then none
      else some (u.stations.length + u.ins.length + i)
    | none => none)
  leastDetail (st ++ is ++ os)

/-- Checks 3 to 9 in order (R116): RESULT and DETAIL of the first that fails, or 0 and 0xFFFF. -/
def admitPlan (u : LoadUnit) (c : Config5) : Nat × Nat :=
  match codeFault u with
  | some d => (3, d)
  | none =>
    match wcetFault u with
    | some d => (4, d)
    | none =>
      match mapFault u c with
      | some d => (5, d)
      | none =>
        match limitFault u c.snapBytes with
        | some d => (6, d)
        | none =>
          if (peaks u).any (fun p => decide (budget < p.1)) then (7, 0xFFFF)
          else
            let pos := List.range u.tasks.length
            match pos.find? (fun p => match u.tasks[p]? with
                | some t => t.kind == 1 && decide (8000 < 40 + t.wcets.getD 0 0) | none => false) with
            | some p => (8, p)
            | none =>
              match pos.find? (fun p => match u.tasks[p]? with
                  | some t => u.split && t.safety == 1 | none => false) with
              | some p => (9, p)
              | none => (0, 0xFFFF)

/-- The admission of a unit that parses. RESULT 3 shows zeros in the figures, and periods that divide 4000 nowhere show zero
peaks: the model's choice (log entry 96). -/
def admission (u : LoadUnit) (c : Config5) : Admission :=
  let r := admitPlan u c
  let pk := if r.1 = 3 then u.plan.map (fun _ => (0, 0)) else peaks u
  let w := worstFrame pk
  ⟨r.1, w.1, w.2.1, w.2.2, if r.1 = 3 then 0 else planH u, r.2, u.id, pk.map (·.1), if r.1 = 0 then 1 else 0⟩

/-- The 64-byte admission report (R149). -/
def reportOf (a : Admission) : List Byte :=
  leBytes 1 a.result ++ leBytes 1 a.engine ++ leBytes 2 a.worstF ++ leBytes 4 a.worstW
    ++ leBytes 4 (ofSigned 32 ((budget : Int) - a.worstW)) ++ leBytes 2 a.h ++ leBytes 2 a.detail ++ leBytes 8 a.unitId
    ++ (List.range 8).flatMap (fun e => leBytes 4 (a.peaks.getD e 0)) ++ leBytes 1 a.members ++ zeros 7

end Sys2Proof.Machine
end

