-- ==== Sys2Proof/Machine/Bundle.lean ====
section
/-! DEFINITION. Bundles (16 R446-R450): the header and components, the signature block, what makes a bundle bootable, and
the slot the ROM boots (R447). -/

namespace Sys2Proof.Machine

/-- The largest bundle: 120 MiB. -/
def bundleMax : Nat := 125829120

/-- Bytes of a range are 0. -/
def bytesZero (bs : List Byte) (off n : Nat) : Bool := ((bs.drop off).take n).all (fun b => b == 0)

/-- The entry of component i. -/
def compOff (i : Nat) : Nat := 48 + 64 * i

/-- The bytes of component i. -/
def compBytes (bs : List Byte) (i : Nat) : List Byte :=
  (bs.drop (leAt bs (compOff i + 4) 4)).take (leAt bs (compOff i + 8) 4)

/-- Component i has a type of R449, lies in the bundle on a 4 KiB boundary after the signature block, and has the digest
that the header gives. -/
def compOk (bs : List Byte) (i : Nat) : Bool :=
  let e := compOff i
  let type := leAt bs e 1
  let off := leAt bs (e + 4) 4
  let size := leAt bs (e + 8) 4
  decide (1 ≤ type) && decide (type ≤ 6) && bytesZero bs (e + 1) 3 && bytesZero bs (e + 12) 4 && off % 4096 == 0
    && decide (6089 ≤ off) && decide (off + size ≤ bs.length) && (type != 1 || decide (size ≤ 1048576))
    && (bs.drop (e + 16)).take 48 == Config.sha384 (compBytes bs i)

/-- The header's types: each once, with the three required. -/
def typesOk (bs : List Byte) (n : Nat) : Bool :=
  let ts := (List.range n).map (fun i => leAt bs (compOff i) 1)
  ts.eraseDups.length == n && [1, 2, 3].all (fun t => ts.contains t)

/-- The header of R448 and every component hold. -/
def headerHolds (bs : List Byte) : Bool :=
  let n := leAt bs 13 1
  leAt bs 0 4 == 0x4E425844 && leAt bs 4 1 == 1 && decide (leAt bs 6 1 ≤ 1) && decide (leAt bs 7 1 ≤ 3)
    && decide (3 ≤ n) && decide (n ≤ 8) && bytesZero bs 14 2 && leAt bs 16 4 == bs.length
    && decide (bs.length ≤ bundleMax) && bytesZero bs 30 2 && bytesZero bs 42 6
    && bytesZero bs (compOff n) (64 * (8 - n)) && bytesZero bs 560 16 && typesOk bs n
    && (List.range n).all (compOk bs)

/-- The root key record of the signature block. -/
def rootRecord (bs : List Byte) : List Byte := (bs.drop (576 + 3464)).take 2049

/-- The signature block of R450 verifies under its root key record. -/
def blockVerifies (bs : List Byte) : Bool :=
  let g := bs.drop 576
  leAt g 0 2 == 3 && bytesZero g 2 2 && bytesZero g 3457 3 && leAt g 3460 4 == 2049 && decide (5513 ≤ g.length)
    && (g.drop 4).take 48 == Config.sha384 (bs.take 576)
    && Config.verifies [rootRecord bs] (g.take 52) ((g.drop 52).take 5461)

/-- The bytes of the component of a type; absent is none. -/
def compOfType (bs : List Byte) (t : Nat) : List Byte :=
  match (List.range (leAt bs 13 1)).find? (fun i => leAt bs (compOff i) 1 == t) with
  | some i => compBytes bs i
  | none => []

/-- What a slot that holds the bundle tells of it. -/
def slotOf (bs : List Byte) : SlotSt where
  digest := Config.sha384 (bs.take 576)
  rootSlot := leAt bs 7 1
  version := (bs.drop 8).take 4
  secver := leAt bs 12 1
  released := bitOf (leAt bs 6 1) 0
  setFormat := leAt bs 20 2
  setMin := leAt bs 22 2
  stFormat := leAt bs 24 2
  stUpMin := leAt bs 26 2
  stDownMin := leAt bs 28 2
  layer1 := compOfType bs 1 ++ compOfType bs 2
  layer2 := compOfType bs 3 ++ compOfType bs 4 ++ compOfType bs 5 ++ compOfType bs 6

/-- M1 and M2 of R453: the measurements of a bundle and of the boot configuration it runs under. -/
def measureL1 (k : SlotSt) : List Byte := Config.sha384 (k.layer1 ++ leBytes 1 k.secver)
def measureFw (s : State) (k : SlotSt) : List Byte := Config.sha384 (k.layer2 ++ objGet s.cfg.stored objBoot)

/-- The key pairs DeviceID and Alias of R453, which no command exports. -/
def deviceIdKey (s : State) : List Byte := Config.hkdfSha384 s.sec.uds "dx880-deviceid"
def aliasKey (s : State) : List Byte := Config.hkdfSha384 s.sec.cdi2 "dx880-alias"

/-- The root-key slot is neither revoked nor another key's. -/
def rootIntact (s : State) (slot : Nat) : Bool := !bitOf (s.get Reg.secStatusRootRevoked) slot

/-- Why a bundle is not bootable (R446). -/
inductive Unbootable where
  | verify | rollback
deriving DecidableEq, Repr

/-- The checks of R446 on the bytes of a bundle, in order; none where it is bootable. -/
def bundleFault (s : State) (bs : List Byte) : Option Unbootable :=
  let k := slotOf bs
  if !blockVerifies bs || Config.sha384 (rootRecord bs) != s.sec.roots.getD k.rootSlot [] || !rootIntact s k.rootSlot then
    some .verify
  else if k.secver < s.get Reg.secStatusCounter then some .rollback
  else if !headerHolds bs then some .verify
  else none

/-- The checks of R446 on a copy of a slot. -/
def copyFault (s : State) (k : SlotSt) (copy : Nat) : Option Unbootable :=
  if !k.good.getD copy false || !rootIntact s k.rootSlot then some .verify
  else if k.secver < s.get Reg.secStatusCounter then some .rollback
  else none

/-- SEC_EVENT shows a check that failed. -/
def raiseUnbootable (u : Unbootable) (s : State) : State :=
  match u with
  | .verify => s.raise Ev.secVerifyFail
  | .rollback => s.raise Ev.secRollbackRefused

/-- The first of a list of slots and copies that is bootable, with the flags of those that are not. -/
def firstBootable : List (Nat × Nat) → State → Option (Nat × Nat) × State
  | [], s => (none, s)
  | (i, c) :: r, s =>
    match copyFault s (s.sec.slots.getD i {}) c with
    | none => (some (i, c), s)
    | some u => firstBootable r (raiseUnbootable u s)

end Sys2Proof.Machine
end

