-- ==== Sys2Proof/Machine/Retain.lean ====
section
/-! DEFINITION. The RETAIN copy in CONF (04 R123) and what a removal request completes (11 R364). -/

namespace Sys2Proof.Machine

/-- Changes the program's part of the state. -/
def State.updProg (s : State) (f : ProgSt → ProgSt) : State := { s with prog := f s.prog }

/-- A symbol that holds data of its own: an instance variable that is no container (05 R184). -/
def dataSym (y : SymRow) : Bool := y.kind == 2 && y.type != 0x41

/-- The engine and the bank offset of a symbol's instance. -/
def symPlace (u : LoadUnit) (y : SymRow) : Option (Nat × Nat) :=
  (u.insts.find? (fun i => i.id == y.loc)).map (fun i => (i.engine, i.bankOff + y.offset))

/-- The start of engine e's instance bank `b` (01 R31). -/
def bankOf (b e : Nat) : Nat := peSramBase (e % 4) + 0x200000 * b + (if 4 ≤ e then 0x100000 else 0)

/-- The bytes of a symbol in bank `b`. -/
def symBytes (s : State) (u : LoadUnit) (b : Nat) (y : SymRow) : List Byte :=
  match symPlace u y with
  | some p => s.bytes (bankOf b p.1 + p.2) y.size
  | none => []

/-- The RETAIN variables of the active unit in the live bank, by symbol. -/
def retainValues (s : State) : List (Nat × List Byte) :=
  match s.prog.active with
  | some u => (u.syms.filter (fun y => dataSym y && bitOf y.flags 0)).map (fun y => (y.id, symBytes s u s.prog.live y))
  | none => []

/-- The code under which the model counts the versions of the RETAIN copy and of a persisted STOP in CONF. -/
def confRetain : Nat := 0x100
def confStop : Nat := 0x101
def confForces : Nat := 0x102

/-- A new version of a CONF object is begun (17 R485). -/
def bumpConf (o : Nat) (s : State) : State :=
  { s with nvs := { s.nvs with confSeq := assocSet s.nvs.confSeq o ((assoc s.nvs.confSeq o + 1) % 2 ^ 32) } }

/-- A write to CONF begins; it becomes current when it completes on package 1 (17 R485). -/
def beginConf (w : ConfWrite) (s : State) : State :=
  { s with nvs := { s.nvs with writing := s.nvs.writing ++ [w] } }

/-- The RETAIN variables of the active unit go to CONF (R123). -/
def saveRetain (s : State) : State :=
  if s.prog.active.isNone then s
  else bumpConf confRetain (beginConf (.retain ⟨retainValues s, s.seconds⟩) s)

/-- A CONF write has completed on package 1 and is current. -/
def confDone (w : ConfWrite) (s : State) : State :=
  match w with
  | .retain c =>
    let s := nandConf confRetain (leBytes 8 c.savedAt ++ c.values.flatMap (fun v =>
      leBytes 4 v.1 ++ leBytes 4 v.2.length ++ v.2)) s
    { s with prog := { s.prog with retain := some c } }
  | .stop b =>
    let s := nandConf confStop (leBytes 1 (b2n b)) s
    { s with prog := { s.prog with stopPersisted := b } }

/-- Every NAND write in progress is completed and flushed (17 R486). -/
def flushNand (s : State) : State :=
  flushLog (s.nvs.writing.foldl (fun s w => confDone w s) { s with nvs := { s.nvs with writing := [] } })

/-- The module leaves the group: PAIR_OK_OUT stops, LEAVE goes to the peer, the role becomes none (R336, R364), and the stages
switch off, after the 1 ms in which those of a former owner hold (09 R302). -/
def leaveGroup (s : State) : State :=
  let s := releaseOwn .off s
  let s := toPeers "LEAVE" [s.get Reg.sysPositionSlotId] s
  let s := enterRole roleNone { s with pair := { s.pair with
    left := true, waiting := false, handover := none, handing := false } }
  showTriad s

/-- Steps 2 to 4 of a removal (R364): RETAIN and NAND are completed, the module leaves the group, the SWAP LED turns
steady green. A FAILED module stays FAILED and cancels its restart; a forced removal of an ALONE module keeps OWN and
leaves its outputs driven until its contacts separate (log entry 24). -/
def completeRemoval (s : State) : State :=
  let s := flushNand (saveRetain s)
  let s : State :=
    if s.role = roleFailed then { s with pair := { s.pair with restartDue := false } }
    else if s.role = roleAlone then
      let s := toPeers "LEAVE" [s.get Reg.sysPositionSlotId] s
      showTriad (enterRole roleNone { s with pair := { s.pair with left := true, waiting := false } })
    else leaveGroup s
  { s with pair := { s.pair with removal := 0, swapLed := 2 } }

/-- A planned handover is refused in these cases (R346). -/
def handoverRefused (s : State) : Bool :=
  s.role != rolePrimary || s.prog.state == .changing || s.pair.handover.isSome || s.pair.joiner.isSome ||
    s.pair.peers.any (fun p => p.role == roleSyncing) || s.pair.peers.any (fun p => p.role == roleStandby && (p.taint || !(p.time.valid || s.on Reg.sysModeRunNoTime)))

/-- Names H for a planned handover (R346, 04 R139). -/
def nameHandover (s : State) : State :=
  { s with pair := { s.pair with handover := some (nameFrame s), postponed := 0 } }

end Sys2Proof.Machine
end

