-- ==== Sys2Proof/Machine/Trial.lean ====
section
/-! DEFINITION. The boot control record (16 R451), and how a trial ends (16 R457-R460, R464): confirmation, fallback, and
what a handover brings to an update. -/

namespace Sys2Proof.Machine

/-- Changes the part of boot, identity and update. -/
def State.updSec (s : State) (f : SecSt → SecSt) : State := { s with sec := f s.sec }

/-- Slot i of the BOOT region. -/
def State.slot (s : State) (i : Nat) : SlotSt := s.sec.slots.getD i {}

def slotEmpty : Nat := 0
def slotValid : Nat := 1
def slotTrial : Nat := 2
def slotConfirmed : Nat := 3
def slotRejected : Nat := 4

def updIdle : Nat := 0
def updReceiving : Nat := 1
def updInstalled : Nat := 2
def updTrial : Nat := 3
def updConfirmed : Nat := 4
def updFallback : Nat := 5

/-- The FLAGS of BEGIN. -/
def autoConfirm (s : State) : Bool := bitOf s.sec.flags 0
def aloneOk (s : State) : Bool := bitOf s.sec.flags 1
def groupFlag (s : State) : Bool := bitOf s.sec.flags 2

/-- The bytes of the boot control record (R451). -/
def recordBytes (k : SecSt) : List Byte :=
  let slot (i : Nat) : SlotSt := k.slots.getD i {}
  let b := leBytes 4 k.recSeq ++ leBytes 1 k.active ++ leBytes 1 (slot 0).state ++ leBytes 1 (slot 1).state ++ zeros 2
    ++ leBytes 4 k.windowS ++ leBytes 1 k.flags ++ zeros 3 ++ (slot 0).digest.take 48 ++ (slot 1).digest.take 48
  b ++ leBytes 4 (Config.nandCrc b)

/-- The boot control record is written with a change, under SEQ + 1: its two copies on package 0, then those on package 1
(R451). -/
def writeRecord (f : SecSt → SecSt) (s : State) : State :=
  let s := s.updSec (fun k => { f k with recSeq := (k.recSeq + 1) % 2 ^ 32 })
  let b := recordBytes s.sec
  nandBoot 0x80000 b (nandBoot 0 b s)

/-- STATE of a slot changes. -/
def slotState (i st : Nat) (k : SecSt) : SecSt :=
  { k with slots := listSet k.slots i (fun (x : SlotSt) => { x with state := st }) }

/-- BOOT_ATTEMPTS of the backup bytes (18 R508). -/
def setAttempts (n : Nat) (s : State) : State := writeBackup 1 [BitVec.ofNat 8 n] s

/-- A FORWARD message of the model's kind `k` to the peers. -/
def forwardTo (k : Nat) (data : List Nat) (s : State) : State := toPeers "FORWARD" (k :: data) s

/-- The update lock is released, here and in the group (R463). -/
def freeLock (s : State) : State :=
  if s.sec.lock.isNone then s
  else forwardTo 13 [] ((s.updSec (fun k => { k with lock := none })).setBit Reg.secStatusLock false)

/-- Pair sync of R457 holds in the present role. -/
def pairSync (s : State) : Bool :=
  s.bench || s.role == rolePrimary || s.role == roleStandby || (aloneOk s && s.role == roleAlone)

/-- The trial window has not expired: it runs from the start of stage 3 on the SEC domain's count (R458). -/
def windowOpen (s : State) : Bool := decide (s.mono < s.sec.trialAt + s.sec.windowS * nsPerS)

/-- The trial is confirmed (R452, R458): the record first, then the counter. -/
def confirmTrial (s : State) : State :=
  let a := s.sec.active
  let was := (s.slot (1 - a)).state
  let s := writeRecord (fun k =>
    slotState (1 - a) (if was = slotConfirmed then slotValid else was) (slotState a slotConfirmed k)) s
  let v := (s.slot a).secver
  let s := setAttempts 0 (s.maxTo Reg.secStatusCounter v)
  let s := s.updSec (fun k => { k with upd := updConfirmed, changes := [], excess := 0 })
  let s : State := { s with cfg := { s.cfg with old := none }, nvs := { s.nvs with confirmed := s.nvs.confirmed + 1 } }
  let s := (s.setBit Reg.secStatusTrial false).set Reg.secTrialLeftSec 0
  let s := lifetimeAdd 7 ((s.slot a).version ++ leBytes 1 v ++ leBytes 1 (s.get Reg.secStatusCounter)) s
  let s := s.raise Ev.secConfirmed
  if s.sec.groupStep = 0 then freeLock s else s

/-- The fallback (R458): the record marks the trial slot REJECTED and the old slot ACTIVE, and a warm reset follows. -/
def fallBack (s : State) : State :=
  let a := s.sec.active
  let s := writeRecord (fun k => { (slotState a slotRejected k) with active := 1 - a }) (saveRetain s)
  let s := s.updSec (fun k => { k with upd := updFallback, fallDue := false })
  let s := (s.setBit Reg.secStatusTrial false).set Reg.secTrialLeftSec 0
  { s with pwr := { s.pwr with warmDue := 2 } }

/-- A trial that has failed falls back: an owner with its peer in STANDBY hands over first (R460). -/
def endTrial (s : State) : State :=
  if s.held && goodStandby s && !handoverRefused s then
    nameHandover (s.updSec (fun k => { k with upd := updFallback, fallDue := true }))
  else fallBack s

/-- The bundle received takes its place in the inactive slot as TRIAL, on both packages (R458). -/
def installSlot (k : SlotSt) (s : State) : State :=
  let i := 1 - s.sec.active
  let s := nandBoot (0x100000 + i * bundleMax) s.sec.recv s
  setAttempts 0 (writeRecord (fun r => { r with
    slots := listSet r.slots i (fun _ => { k with state := slotTrial, good := [true, true] })
    active := i, windowS := r.newWindow, flags := r.newFlags, upd := updInstalled, recv := [] }) s)

/-- A step of the group update is taken and told to the members (R464). -/
def groupStepTo (step slot : Nat) (s : State) : State :=
  forwardTo 15 [step, slot] (s.updSec (fun k => { k with groupStep := step, updatingSlot := slot }))

/-- The group update ends (R464, R466); the member that has fallen back stays named. -/
def endGroup (status fallen : Nat) (s : State) : State :=
  if s.sec.groupStep = 0 then s
  else
    let s := finishAll 8 7 status (detailBytes noField) s
    freeLock (groupStepTo 0 fallen (s.updSec (fun k => { k with groupVerified := [], groupDone := [] })))

/-- A member's own turn in a group update (R464): it writes both BOOT copies of the verified bundle, sends LEAVE and
restarts into TRIAL. -/
def takeTurn (s : State) : State :=
  let s := saveRetain (installSlot (slotOf s.sec.recv) s)
  let s := leaveGroup s
  { s with pwr := { s.pwr with warmDue := 2 } }

/-- What a handover that has taken place brings (R460, R464): a trial that waited for it falls back; in a group update
the command ends at the former owner, which takes its own turn, and the new owner confirms its trial. -/
def afterHandover (h : Nat) (s : State) : State :=
  if s.held then
    if s.sec.groupStep ≠ 0 && s.sec.upd == updTrial then
      (confirmTrial s).updSec (fun k => { k with groupStep := 4 })
    else s
  else if s.sec.fallDue then fallBack s
  else if s.sec.groupStep = 3 then
    takeTurn (groupStepTo 4 (s.get Reg.sysPositionSlotId) (finishAll 8 7 stOk (frameBytes h) s))
  else s

end Sys2Proof.Machine
end

