-- ==== Sys2Proof/Machine/Pair.lean ====
section
/-! DEFINITION. The pair commands (11): the ownership interlock, PEER_KILL, PAIR_OK, FAILED, handover, heartbeats,
JOIN and LEAVE, signatures, resync and checkpoints. -/

namespace Sys2Proof.Machine

/-! ### What the owner's snapshot names (R139, R345, R352) -/

/-- The copy that a member's segments make up, once all up to the one with LAST have arrived. -/
def completeCopy (c : Nat × Nat × List (Nat × Snapshot)) : Option Snapshot :=
  let parts := (List.range c.2.1).filterMap (fun i => (c.2.2.find? (fun p => p.1 == i)).map (·.2))
  if parts.length < c.2.1 then none
  else match parts with
    | [] => none
    | a :: r => some (r.foldl (fun (a b : Snapshot) => { a with
        named := a.named ++ b.named, ages := a.ages ++ b.ages, batch := a.batch ++ b.batch, items := a.items ++ b.items
        reports := a.reports ++ b.reports, entered := a.entered ++ b.entered, changes := a.changes ++ b.changes
        counts := a.counts ++ b.counts }) a)

/-- The complete copy of the owner's snapshot. Where no peer shows that it owns, the owner was the defined master of a
triad, or the other member of a pair (log entry 199). -/
def ownerCopy (s : State) : Option Snapshot :=
  let from' : Option Nat := match ownerSlot s with
    | some o => some o
    | none => if s.triad then some (slotOfRank s (s.get Reg.hhkTriadMasterRank)) else none
  match from' with
  | some o => (s.prog.copies.find? (fun c => c.1 == o)).bind completeCopy
  | none => s.prog.copies.findSome? completeCopy

/-- What a snapshot of another member names takes its place (04 R139, 11 R347, R360); a named start clears a persisted STOP
(04 R140). -/
def adoptNamed (sn : Snapshot) (s : State) : State :=
  let prog := sn.named.filter (fun p => p.2 != Named.handover && p.2 != Named.join)
  let h := (sn.named.find? (fun p => p.2 == Named.handover)).map (·.1)
  let q := (sn.named.find? (fun p => p.2 == Named.join)).map (·.1)
  let swap := prog.any (fun p => p.2 == Named.swap)
  let start := prog.any (fun p => match p.2 with | .start _ => true | _ => false)
  let s := if start && s.prog.state = .stopped && s.prog.stopPersisted then bumpConf confStop (beginConf (.stop false) s)
    else s
  let s := s.updProg (fun g => { g with
    named := prog
    stopPersisted := g.stopPersisted && !(start && g.state = .stopped)
    state := if start && g.state = .stopped then .starting else g.state
    change := g.change.map (fun c => if swap then { c with stage := 3 } else c)
    changes := g.changes ++ sn.changes.filter (fun c => !g.changes.contains c) })
  let s : State := { s with pair := { s.pair with handover := h } }
  match q with
  | some f =>
    if s.role = roleSyncing then
      ({ s with pair := { s.pair with qFrame := some f } } : State).set Reg.hhkPairResyncPhase 3
    else s
  | none => s

/-! ### The ownership interlock (R339) -/

/-- OWN_LINE_FALL: OWN is sensed low; an armed claim's quiet count restarts. -/
def execOwnLineFall (s : State) : Out := .next (ownFalls s)

/-- QUIET_TIME_EXPIRY: OWN has been high for the quiet time; the armed claim logic drives it low, unless PEER_KILL_IN
prevails. -/
def execQuietTimeExpiry (s : State) : Out :=
  .next (
    let s := if s.held then s else ownRises s
    if s.on Reg.hhkPairStatusKillIn then disarm s
    else if s.on Reg.hhkPairStatusArmed then
      let s := { s with pair := { s.pair with claiming := true, claimFrom := s.role } }
      s.setBit Reg.hhkPairStatusArmed false
    else s)

/-- The no-owner interval of a claim is shown (R344, R367). -/
def recordGap (ns : Nat) (s : State) : State :=
  (s.set Reg.hhkPairGapLastNs (satTo 65535 ns)).maxTo Reg.hhkPairGapMaxNs (satTo 65535 ns)

/-- A claim now follows the release of a planned handover (R347): OWN is released at T0+217 us of H-1. -/
def handoverClaim (s : State) : Bool :=
  match s.pair.handover with
  | some h => frameIndex s.now + 1 == h && decide (216000 ≤ s.now - s.t0)
  | none => false

/-- The claim from STANDBY: takeover, or the handover or taint release that the owner announced (R336, R342, R345,
R406). What a snapshot received whole names stands, copies are discarded, and pending comparisons are dropped; in a triad
those of its three members go on (12 R387). -/
def claimFromStandby (s : State) : State :=
  let hand := handoverClaim s
  let ann := s.pair.announced || hand
  let s := match ownerCopy s with
    | some sn => adoptNamed sn s
    | none => s
  let s := countMove (if s.triad then s else dropPending s)
  let s : State := { s with
    prog := { s.prog with copies := [] }
    pair := { s.pair with
      selfRun := 0, killDue := !ann, announced := false, handing := hand
      takeovers := if ann then s.pair.takeovers else s.pair.takeovers + 1 } }
  let s := recordOwn (if ann then 3 else 2) s
  enterRole roleAlone (s.raiseIf (!ann) Ev.hhkPairTakeover)

/-- The claim back of an owner whose peer did not claim (R348): it stays owner and records the failed handover. -/
def claimBack (s : State) : State :=
  let s := cancelHandover { s with pair := { s.pair with longQuiet := false } }
  fwLog 5 [] ((recordOwn 7 s).raise Ev.hhkPairHandover)

/-- OWN_FAULT: OWN is sensed high for 100 ns while held; the driver turns off and the module goes FAILED. -/
def execOwnFault (s : State) : Out :=
  .next (
    if s.held then fail 0x15 0xFF 0xFF false (recordOwn 5 (s.raise Ev.hhkPairOwnFault)) else s)

/-- The member of a triad that this one has declared failed, from a FAILED frame or from PAIR_OK_IN, which comes from the
member of the next rank (12 R377, R379). -/
def declaredFailed (s : State) : Option Nat :=
  match s.pair.peers.find? (fun p => p.role == roleFailed) with
  | some p => some p.slot
  | none =>
    if s.on Reg.hhkPairStatusPairOkAlive then none
    else some (slotOfRank s ((s.get Reg.hhkPairStatusRank + 1) % 3))

/-- A minority that has not left one frame after it was found (12 R379): its heartbeats still show it in step. -/
def minorityStays (s : State) : Bool :=
  match s.pair.minority with
  | some (slot, k) => decide (k < frameIndex s.now) && s.pair.peers.any (fun p => p.slot == slot &&
      (p.role == rolePrimary || p.role == roleStandby || p.role == roleAlone))
  | none => false

/-- PEER_KILL_OUT is due (R342): after a takeover claim of the owner; in a triad of both survivors once they have declared
the same member failed, or of both after a minority that stays (12 R379). -/
def killOutDue (s : State) : Bool :=
  if s.triad then
    ((s.pair.killDue && s.held || s.role == roleStandby) && (declaredFailed s).isSome)
      || ((s.held || s.role == roleStandby) && minorityStays s)
  else s.pair.killDue && s.held

/-- PEER_KILL_OUT_ASSERT: 10 us after a takeover claim, or one frame after a minority that stays. A triad's member keeps whom
it is for (12 R379). -/
def execPeerKillOutAssert (s : State) : Out :=
  .next (
    if killOutDue s then
      let whom : Option Nat := if !s.triad then none
        else if minorityStays s then s.pair.minority.map (·.1) else declaredFailed s
      ({ s with pair := { s.pair with killDue := false, killed := whom } } : State).setBit Reg.hhkPairStatusKillOut true
    else s)

/-- PEER_KILL_OUT ends with the accepted JOIN of the member it was asserted for (R342, 12 R379). -/
def releaseKill (slot : Nat) (s : State) : State :=
  if s.pair.killed = none ∨ s.pair.killed = some slot then
    ({ s with pair := { s.pair with killed := none, minority := none } } : State).setBit Reg.hhkPairStatusKillOut false
  else s

/-- PEER_KILL_IN: the line becomes asserted; stages, OWN driver and PAIR_OK_OUT are off, the claim logic is disarmed
and the module enters FAILED with class 0x1A (R342). -/
def execPeerKillIn (s : State) : Out :=
  .next (
    if s.on Reg.hhkPairStatusKillIn then s
    else
      let s := (s.setBit Reg.hhkPairStatusKillIn true).raise Ev.hhkPairKilled
      failOff 0x1A true (recordOwn 6 s))

/-- PEER_KILL_IN_RELEASE: the module may drive again (R342). -/
def execPeerKillInRelease (s : State) : Out :=
  .next (reviewPairOk (s.setBit Reg.hhkPairStatusKillIn false))

/-- PAIR_OK_MISSING: no edge for 1.5 us; while OWN stays held this is a line fault and no role changes (R341). -/
def execPairOkMissing (s : State) : Out :=
  .next (
    let was := s.on Reg.hhkPairStatusPairOkAlive
    let s := s.setBit Reg.hhkPairStatusPairOkAlive false
    s.raiseIf (was && ownStayed s) Ev.hhkPairPairLine)

/-- PAIR_OK_EDGE: an edge arrives and PAIR_OK_ALIVE returns. -/
def execPairOkEdge (s : State) : Out := .next (s.setBit Reg.hhkPairStatusPairOkAlive true)

/-- STAGE_HOLD_END: 1 ms after releasing OWN the stages take the drive of the module's role (09 R302). -/
def execStageHoldEnd (s : State) : Out :=
  .next (if s.fio.drive = .hold then setDrive (roleDrive s) s else s)

/-! ### Heartbeats and the loss of Hollyhock -/

/-- HEARTBEAT_TX: each port carries role, rank, GROUP_ID, SLOT_ID, health and what R43, R49 and R65 take of its time (12 R372;
log entry 131), in every role from firmware up (R341). -/
def execHeartbeatTx (s : State) : Out :=
  .next (
    if !s.sec.fwUp then s
    else
      let b2 (b : Bool) : Nat := if b then 1 else 0
      let c := [s.role, s.get Reg.hhkPairStatusRank, s.get Reg.sysPositionGroupId, s.get Reg.sysPositionSlotId,
        s.get Reg.sysModeTaint, s.get Reg.timArbOwnPrio, s.get Reg.timStatusClass, s.get Reg.timEstErrErr,
        b2 (s.on Reg.timStatusValid), b2 (s.on Reg.timTaiUtcKnown), s.get Reg.timTaiUtcOffset,
        b2 (s.on Reg.timTaiUtcLeap61), b2 (s.on Reg.timTaiUtcLeap59)]
      toPort 1 "HEARTBEAT" c (toPort 0 "HEARTBEAT" c s))

/-- What a heartbeat of the own group changes: the peer's role and rank, the owner's role by its peers, and the role
of a module that looks for an owner (R336); TAI-UTC comes from the group time leader alone (02 R49). -/
def heardPeer (p : Peer) (s : State) : State :=
  let s := (s.set (Reg.hhkpLinkPeerSlot p.port) p.slot).set (Reg.hhkpLinkPeerRank p.port) p.rank
  let s := (putPeer p s).set Reg.hhkPairStatusPeerRole p.role
  let s := reviewTime s
  let s := if s.get Reg.timStatusSource = 7 && s.time.leaderSlot == some p.slot then
      refreshQuality (setTaiUtc p.time.known p.time.tai p.time.leap61 p.time.leap59 s)
    else s
  let s := reviewOwner s
  let s := if s.role = roleAloneStandby then goSyncing s else joinOrClaim s
  showTriad s

/-- HEARTBEAT: a heartbeat arrives; one with another GROUP_ID sets MISWIRE, and its port then carries heartbeats only
until one with the own GROUP_ID arrives (12 R374). -/
def execHeartbeat (h : HhkHdr) (groupId slot rank role : Nat) (taint : Bool) (time : HbTime) (s : State) : Out :=
  .next (onFrame typeHeartbeat h (fun s =>
    if groupId ≠ s.get Reg.sysPositionGroupId then
      { s with hhk := { s.hhk with miswired := withBit s.hhk.miswired h.port true } }.raise Ev.hhkMiswire
    else
      heardPeer ⟨slot, rank, role, taint, h.port, time⟩
        { s with hhk := { s.hhk with miswired := withBit s.hhk.miswired h.port false } }) s)

/-- Both ports are without an authenticated frame for 10 us: the roles react (R357). -/
def linkLost (s : State) : State :=
  let s := (s.set Reg.hhkPairStatusHhkUp 0).raise Ev.hhkPairHhkLost
  let s := reviewTime { s with pair := { s.pair with peers := [], sigMissRun := 0 } }
  if s.role = rolePrimary then followPeers (setRole roleAlone (cancelUnmoved s))
  else if s.role = roleStandby ∧ s.on Reg.hhkPairStatusOwnLine then
    let s := enterRole roleAloneStandby (disarm s)
    s.raiseIf (!s.on Reg.hhkPairStatusPairOkAlive) Ev.hhkPairPairLine
  else s

/-- HOLLYHOCK_LOST: no authenticated frame has arrived on either port for 10 us. -/
def execHollyhockLost (s : State) : Out := .next (showTriad (linkLost s))

/-- PEER_WAIT_EXPIRY: no peer for 10 s; the module claims where OWN is high and it is eligible, or becomes
ALONE-standby where OWN is low (R336). -/
def execPeerWaitExpiry (s : State) : Out :=
  .next (
    if s.role ≠ roleNone || !s.sec.fwUp || s.pair.left || !s.pair.peers.isEmpty || 11 < s.get Reg.sysPositionGroupId then s
    else if s.on Reg.hhkPairStatusOwnLine then enterRole roleAloneStandby (disarm s)
    else if claimEligible s then arm s
    else s)

/-- OWNER_LOST: a SYNCING module senses OWN high for 10 us, goes to role none and restarts under R140 (R336). -/
def execOwnerLost (s : State) : Out :=
  .next (
    let s := ownRises s
    if s.role = roleSyncing then
      let s := enterRole roleNone { s with pair := { s.pair with attempts := 0, qFrame := none } }
      joinOrClaim (reviewTime { (s.set Reg.hhkPairResyncPhase 0) with pair := { s.pair with
        peers := s.pair.peers.filter (fun p => p.role != rolePrimary && p.role != roleAlone) } })
    else s)

/-! ### JOIN, LEAVE, FAILED, READY, ACK, taint release -/

/-- The owner accepts a JOIN: PEER_KILL_OUT is released and the resync starts (R359, R360),
and the keys are agreed anew (16 R456). -/
def acceptJoin (slot : Nat) (s : State) : State :=
  let s := releaseKill slot s
  let s := { s with pair := { s.pair with
    joiner := some slot, acceptedAt := s.mono, killDue := false, qFrame := none
    attempts := if s.pair.joiner = some slot then s.pair.attempts else 0 } }
  let s := s.set Reg.hhkPairResyncPhase 1
  let s := toMember slot "JOIN_ACCEPT" [slot] (peerRole slot roleSyncing s)
  toPeers "FORWARD" [23, slot, 1] (toMember slot "KEY" [s.get Reg.hhkStatusKeyEpoch + 1] s)

/-- The owner's answer to this member's JOIN: accepted, the 5 s of R360 run; refused, the module stays in role none. -/
def joinAnswered (accepted : Bool) (s : State) : State :=
  if s.role ≠ roleSyncing then s
  else if accepted then { s with pair := { s.pair with acceptedAt := s.mono } }
  else enterRole roleNone { s with pair := { s.pair with refused := true, attempts := 0, qFrame := none } }

/-- PEER_KILL_OUT ends at every survivor of a triad once the killed member's JOIN is accepted (12 R379). -/
def joinHeard (slot : Nat) (accepted : Bool) (s : State) : State := if accepted then releaseKill slot s else s

/-- The owner's host has this member resync (R366). -/
def resyncAsked (s : State) : State :=
  if s.role = roleStandby ∨ s.role = roleAloneStandby then goSyncing s else s

/-- The running bundle can send its replicated state in a joiner's STATE_FORMAT, or the joiner translates it (16
R465). -/
def stateTranslates (s : State) (stFormat stUpMin : Nat) : Bool :=
  let k := s.slot (s.get Reg.secStatusSlot)
  (decide (k.stDownMin ≤ stFormat) && decide (stFormat ≤ k.stFormat))
    || (decide (stUpMin ≤ k.stFormat) && decide (k.stFormat ≤ stFormat))

/-- The owner refuses a JOIN; the joiner stays in role none (13 R404). -/
def refuseJoin (slot : Nat) (s : State) : State :=
  toPeers "FORWARD" [23, slot, 0] (toMember slot "JOIN_REFUSE" [slot] s)

/-- JOIN: the owner accepts, defers it while the program is CHANGING, or refuses a module whose SPLIT differs or whose
state format neither of the two translates (R359, 13 R404, 16 R465). -/
def execJoin (h : HhkHdr) (split : Bool) (bundleVersion stFormat stUpMin : Nat) (s : State) : Out :=
  .next (onRouted typeControl [0, b2n split, bundleVersion, stFormat, stUpMin] h (fun s =>
    if !s.held || !isOwner s then s
    else if split != s.on Reg.sysModeSplit || !stateTranslates s stFormat stUpMin then refuseJoin h.srcSlot s
    else if s.prog.state = .changing then
      if s.pair.deferred.contains h.srcSlot then s
      else { s with pair := { s.pair with deferred := s.pair.deferred ++ [h.srcSlot] } }
    else toPeers "BUNDLE" [h.srcSlot, bundleVersion] (acceptJoin h.srcSlot s)) s)

/-- LEAVE: the peer has left the group; an owner with no other standby becomes ALONE and asserts no kill (R336,
R364). A module that waited for it looks again. -/
def execLeave (h : HhkHdr) (s : State) : Out :=
  .next (onRouted typeControl [1] h (fun s =>
    let s := reviewOwner (dropPeer h.srcSlot (peerRole h.srcSlot roleNone s))
    let s := { s with pair := { s.pair with
      joiner := if s.pair.joiner = some h.srcSlot then none else s.pair.joiner } }
    showTriad (joinOrClaim s)) s)

/-- FAILED: a peer tells that it has failed; an owner without another standby becomes ALONE, a pending handover to it
does not take place (R336, R343). -/
def execFailed (h : HhkHdr) (cls : Nat) (s : State) : Out :=
  .next (onRouted typeControl [2, cls] h (fun s =>
    let s := reviewOwner (peerRole h.srcSlot roleFailed s)
    let s := if s.held && !goodStandby s then cancelUnmoved s else s
    let s := { s with pair := { s.pair with
      joiner := if s.pair.joiner = some h.srcSlot then none else s.pair.joiner } }
    showTriad (joinOrClaim (if cls = 0 then s else fwLog 5 [BitVec.ofNat 8 cls] s))) s)

/-- ACK: a peer acknowledges the final checkpoint of a singleton (R347). -/
def execAck (h : HhkHdr) (singleton : Nat) (s : State) : Out :=
  .next (onRouted typeControl [4, singleton] h (fun s =>
    { s with pair := { s.pair with unacked := withBit s.pair.unacked singleton false } }) s)

/-- TAINT_RELEASE: the owner announces its release of OWN, so that the claim is no takeover (13 R406). -/
def execTaintRelease (h : HhkHdr) (s : State) : Out :=
  .next (onRouted typeControl [5] h (fun s => { s with pair := { s.pair with announced := true } }) s)

/-! ### Planned handover (R346-R348) -/

/-- HANDOVER_PREPARE: at T0 of H-8, and not before, the owner stops its singletons after their current step and sends final
checkpoints. -/
def execHandoverPrepare (s : State) : Out :=
  .next (
    match s.pair.handover with
    | none => s
    | some h =>
      if !s.held || frameIndex s.now + 8 < h then s else
        let running := (List.range 3).foldl (fun m n => if singletonRuns s n then m + 2 ^ n else m) 0
        let s := (List.range 3).foldl sendCkpt s
        let s := stopSingletons s
        { s with pair := { s.pair with stopped := running, unacked := running } })

/-- A handover whose final checkpoints are not all acknowledged names a new H, and fails after 4 postponements
(R348). -/
def postponeHandover (s : State) : State :=
  let s := resumeSingletons s
  if s.pair.postponed < 4 then
    { s with pair := { s.pair with postponed := s.pair.postponed + 1, handover := some (nameFrame s) } }
  else
    fwLog 5 [] ((recordOwn 7 (cancelHandover s)).raise Ev.hhkPairHandover)

/-- HANDOVER_RELEASE: at T0+217 us of frame H-1, and not before, the owner announces and releases OWN, holds its stages and arms its
claim logic with the longer quiet time; or the handover is postponed (R347, R348). -/
def execHandoverRelease (s : State) : Out :=
  .next (
    match s.pair.handover with
    | none => s
    | some h =>
      if !s.held || frameIndex s.now + 1 < h then s
      else if s.pair.unacked ≠ 0 then postponeHandover s
      else
        let s := toPeers "HANDOVER" [s.get Reg.sysPositionSlotId] (toPhase 217000 s)
        let s := releaseOwn .hold s
        arm { s with pair := { s.pair with longQuiet := true, handing := true } })

/-- The member that has released OWN shows itself as STANDBY from H on (R347). -/
def formerOwners (s : State) : State :=
  { s with pair := { s.pair with peers := s.pair.peers.map (fun (q : Peer) =>
      if q.role = rolePrimary ∨ q.role = roleAlone then { q with role := roleStandby } else q) } }

/-- HANDOVER_FRAME: frame H begins; the former owner is STANDBY with its claim logic armed, or ALONE-standby where it has
lost Hollyhock, the new owner PRIMARY with the singletons restarted (R336, R347). -/
def execHandoverFrame (s : State) : Out :=
  .next (
    match s.pair.handover with
    | none => s
    | some h =>
      if frameIndex s.now < h then s else
      let s := { s with pair := { s.pair with handover := none, postponed := 0, handing := false } }
      let s := s.raise Ev.hhkPairHandover
      if s.held then
        let s := formerOwners s
        afterHandover h (startSingletons (if goodStandby s then setRole rolePrimary s else s))
      else if s.role = rolePrimary ∨ s.role = roleAlone then
        let s := disarm s
        let s := recordOwn 3 (countMove s)
        let s := if s.pair.peers.isEmpty then enterRole roleAloneStandby s else armStandby (enterRole roleStandby s)
        let s := showTriad s
        if s.pair.removal ≠ 0 then completeRemoval s else afterHandover h s
      else s)

/-! ### Signatures (R354-R356, 12 R387, R388) -/

/-- Counts a mismatch and sets its event (R356, R366). -/
def countMismatch (s : State) : State :=
  ({ s with pair := { s.pair with mismatches := s.pair.mismatches + 1 } } : State).raise Ev.hhkPairMismatch

/-- The standby of a mismatch yields to SYNCING; the owner keeps control and becomes ALONE without another standby
(R356). A handover that has not moved OWN is cancelled (R348); after that a mismatch moves no role before H (log entry
199). -/
def mismatchOutcome (peerFault : Bool) (peerSlot : Nat) (s : State) : State :=
  let s := cancelUnmoved (countMismatch s)
  if s.role = roleStandby ∧ !peerFault then goSyncing s
  else if s.held ∧ !peerFault then reviewOwner (peerRole peerSlot roleSyncing s)
  else s

/-- A member of a triad finds itself in the minority (12 R386-R388): it leaves the step, and as master releases OWN
with its DO off and AO at 0 mA. One that is healthy goes SYNCING; one that has found itself faulted is FAILED. -/
def leaveAsMinority (s : State) : State :=
  let s : State := { s.raise Ev.hhkMinority with pair := { s.pair with leaveAt := none } }
  if s.role = roleFailed then s
  else goSyncing (if s.held then releaseOwn .off s else setDrive .off s)

/-- Another member of the triad is in the minority (12 R387): the others go on without it. -/
def foundMinority (slot : Nat) (s : State) : State :=
  let s : State := { s with pair := { s.pair with minority := some (slot, frameIndex s.now) } }
  reviewOwner (peerRole slot roleSyncing (s.raise Ev.hhkMinority))

/-- The resync attempt that Q ends: a match makes the joiner STANDBY and the owner PRIMARY (R360). -/
def finishResync (slot : Nat) (s : State) : State :=
  let s := { s with pair := { s.pair with qFrame := none, attempts := 0, selfRun := 0 } }
  let s := s.set Reg.hhkPairResyncPhase 0
  if s.role = roleSyncing then
    showTriad (armStandby (enterRole roleStandby s))
  else if s.held then
    let joined := s.pair.peers.map (fun (q : Peer) => if q.role = roleSyncing then { q with role := roleStandby } else q)
    showTriad (followPeers (peerRole slot roleStandby { s with pair := { s.pair with joiner := none, peers := joined } }))
  else s

/-- A resync attempt has failed (R360): a new one starts, and the third makes the joiner FAILED with class 0x1B. -/
def resyncFailed (s : State) : State :=
  let s := { s with pair := { s.pair with attempts := s.pair.attempts + 1, qFrame := none } }
  if s.role = roleSyncing then
    if 3 ≤ s.pair.attempts then fail 0x1B 0xFF 0xFF true s
    else sendJoin (s.set Reg.hhkPairResyncPhase 0)
  else if 3 ≤ s.pair.attempts then
    { (s.set Reg.hhkPairResyncPhase 0) with pair := { s.pair with joiner := none, attempts := 0 } }
  else s.set Reg.hhkPairResyncPhase 1

/-- The comparison of a frame's own and peer's records (R355, R356). -/
def compareSigs (frame slot : Nat) (own peer : SigSlots) (peerFault : Bool) (s : State) : State :=
  let eq := own == peer
  let s := recordCmp ⟨frame, if eq then 0 else 1, s.on Reg.hhkPairStatusSelfSnap, own, peer⟩ s
  let s := { s with pair := { s.pair with sigMissRun := 0 } }
  if s.pair.qFrame = some frame then (if eq then finishResync slot s else resyncFailed (countMismatch s))
  else if eq then s
  else mismatchOutcome peerFault slot s

/-- The outcome of three records of a frame that are not all equal (12 R387): the minority leaves, as master at the vote of
the next frame, or with three different ones the master keeps control and the others yield. -/
def triadOutcome (frame : Nat) (own a b : SigSlots) (slotA slotB : Nat) (s : State) : State :=
  if decide (a = b) then
    (if s.held then { s with pair := { s.pair with leaveAt := some (frame + 1) } } else leaveAsMinority s)
  else if decide (own = a) then foundMinority slotB s
  else if decide (own = b) then foundMinority slotA s
  else if s.held then reviewOwner s
  else if s.role = roleStandby then goSyncing s
  else s

/-- The three records of a triad (12 R387). -/
def compareTriad (frame : Nat) (own a b : SigSlots) (slotA slotB : Nat) (s : State) : State :=
  let ok : Bool := decide (own = a) && decide (own = b)
  let isQ : Bool := decide (s.pair.qFrame = some frame)
  let r : CmpRec := ⟨frame, if ok then 0 else 1, s.on Reg.hhkPairStatusSelfSnap, own, if decide (own = a) then b else a⟩
  let s : State := recordCmp r { s with pair := { s.pair with sigMissRun := 0 } }
  match ok, isQ with
  | true, true => finishResync slotA s
  | true, false => s
  | false, true => resyncFailed (countMismatch s)
  | false, false => triadOutcome frame own a b slotA slotB (countMismatch s)

/-- The members of a triad whose records of a frame are compared with the own one: those in step, and one that is resynced
in its frame Q (12 R387, R388). -/
def comparers (frame : Nat) (s : State) : Nat :=
  (s.pair.peers.filter (fun p => p.role == rolePrimary || p.role == roleStandby || p.role == roleAlone ||
    (p.role == roleSyncing && s.pair.qFrame == some frame))).length

/-- The own record of a frame is taken for its comparison. -/
def takeOwnSig (frame : Nat) (s : State) : State :=
  { s with pair := { s.pair with ownSigs := s.pair.ownSigs.filter (fun r => r.1 != frame) } }

/-- SIGNATURE_FRAME: a peer's signature record arrives and is compared as soon as both, or in a triad those of all members
in step, are held (R355, 12 R387, R388). -/
def execSignatureFrame (h : HhkHdr) (slots : List (Nat × Nat)) (held : Nat) (peerFault : Bool) (s : State) : Out :=
  .next (onRouted typeSignature (held :: b2n peerFault :: slots.flatMap (fun p => [p.1, p.2])) h (fun s =>
    let s := { s with pair := { s.pair with peerSigs := ((h.frame, h.srcSlot, slots) :: s.pair.peerSigs).take 16 } }
    match s.pair.ownSigs.find? (fun r => r.1 == h.frame) with
    | none => s
    | some o =>
      let others := s.pair.peerSigs.filter (fun r => r.1 == h.frame)
      if s.triad && decide (2 ≤ comparers h.frame s) then
        match others with
        | b :: a :: _ => compareTriad h.frame o.2 a.2.2 b.2.2 a.2.1 b.2.1 (takeOwnSig h.frame s)
        | _ => s
      else compareSigs h.frame h.srcSlot o.2 slots peerFault (takeOwnSig h.frame s)) s)

/-- SIG_MISS: the peer's record of the oldest uncompared frame is absent at T0+200 us of the next frame; after 4 in a
row Hollyhock is treated as lost (R355). In a triad the two records present are compared (12 R387); those of Q have to match
in all three, so that an absent one fails the attempt (12 R388, log entry 202). -/
def execSigMiss (s : State) : Out :=
  .next (
    match s.pair.ownSigs with
    | [] => s
    | o :: rest =>
      let s := { s with pair := { s.pair with ownSigs := rest, sigMissRun := s.pair.sigMissRun + 1 } }
      let run := s.pair.sigMissRun
      let s := recordCmp ⟨o.1, 2, s.on Reg.hhkPairStatusSelfSnap, o.2, []⟩ (s.bump Reg.hhkPairSigmissCnt)
      match s.pair.peerSigs.find? (fun r => r.1 == o.1) with
      | some p =>
        if s.pair.qFrame = some o.1 && s.triad then resyncFailed s else compareSigs o.1 p.2.1 o.2 p.2.2 false s
      | none => if 4 ≤ run then showTriad (linkLost s) else s)

/-! ### Resync and checkpoints (R360-R363) -/

/-- What a resync copies beside pages of memory takes its place (R359); the lanes, the raw ring and the captures of
Larkspur are the module's own. Checkpoints arrive as kept ones. -/
def applyReplica (x : Replica) (s : State) : State :=
  let l := s.lsp
  let lsp : LspSt := { x.lsp with
    marks := l.marks, edge := l.edge, ring := l.ring, lastFlags := l.lastFlags
    laneRecs := l.laneRecs, calFe := l.calFe, huntDue := l.huntDue, recs := l.recs, staged := l.staged
    cal := x.lsp.cal.map (fun c => { c with req := none }) }
  let engines := (List.range 8).map (fun e =>
    let g := s.prog.engines.getD e {}
    { g with seqs := x.seqs.getD e [0, 0, 0, 0] })
  let s := (List.range 4).foldl (fun s g =>
    let w := x.groups.getD g (0, 0)
    (s.setReg (0x40200 + 4 * g) (BitVec.ofNat 32 w.1)).setReg (0x40210 + 4 * g) (BitVec.ofNat 32 w.2))
    (s.set Reg.lspStatusArmed x.armed)
  let s := (List.range 3).foldl (fun s n =>
    match x.ckpts.getD n none with
    | some c => keepCkpt n { c with arrived := s.mono } s
    | none => s) (putDropped x.dropped s)
  { s.set Reg.lspLastSeqSeq x.lastSeq with
    ast := x.ast
    lsp := lsp
    net := { s.net with pubs := x.pubs, sinceFrame := x.ages }
    prog := { s.prog with
      active := x.unit, state := x.state, live := x.live, tasks := x.tasks, outVals := x.outVals, heldOuts := x.heldOuts
      engines := engines
      stopPersisted := x.stopPersisted, resetSinceStop := x.resetSinceStop, retainAged := x.retainAged, retain := x.retain
      forces := x.forces } }

/-- RESYNC_PAGE: the joiner applies a page of at most 4 KiB as it arrives, and with it what the owner's state holds
beside memory. -/
def execResyncPage (h : HhkHdr) (address : Nat) (data : List Byte) (replica : Option Replica) (s : State) : Out :=
  .next (onFrame typeResyncPage h (fun s =>
    if s.role = roleSyncing then
      let s := (s.setBytes address (data.take 4096)).set Reg.hhkPairResyncPhase 1
      match replica with
      | some x => applyReplica x s
      | none => s
    else s) s)

/-- RESYNC_LINES: the joiner applies marked lines of 64 bytes in the order of their frames; the owner names Q with the
last ones. -/
def execResyncLines (h : HhkHdr) (lines : List (Nat × List Byte)) (q : Option Nat) (s : State) : Out :=
  .next (onFrame typeResyncLines h (fun s =>
    if s.role = roleSyncing then
      let s := lines.foldl (fun s l => s.setBytes l.1 (l.2.take 64)) s
      match q with
      | some f => { s with pair := { s.pair with qFrame := some f } }.set Reg.hhkPairResyncPhase 3
      | none => s.set Reg.hhkPairResyncPhase 2
    else s) s)

/-- RESYNC_TIMEOUT: no frame's marked lines fell to 16 KiB within 5 s of acceptance; the attempt fails. -/
def execResyncTimeout (s : State) : Out :=
  .next (
    if (s.role = roleSyncing || s.pair.joiner.isSome) && decide (s.pair.acceptedAt + 5000000000 ≤ s.mono) then
      resyncFailed { s with pair := { s.pair with acceptedAt := s.mono } }
    else s)

/-- A standby discards its captured copy of a record that a checkpoint shows as stored (07 R245, 17 R492). -/
def storedElsewhere (singleton : Nat) (content : List Byte) (s : State) : State :=
  if singleton ≠ 0 then s
  else
    let l := s.lsp.staged.filter (fun r => !(ckptKeys content).contains (r.trigger, r.group))
    ({ s with lsp := { s.lsp with staged := l } }).set Reg.lspRecPending l.length

/-- CHECKPOINT_SEND: every 100 ms the owner sends a checkpoint of each running singleton to a STANDBY. -/
def execCheckpointSend (s : State) : Out :=
  .next (if s.held && (anyStandby s || s.pair.joiner.isSome) then (List.range 3).foldl sendCkpt s else s)

/-- CHECKPOINT: a checkpoint of at most 1 MiB arrives; the standby keeps the latest of each singleton and acknowledges
it, and never runs it (R362). -/
def execCheckpoint (h : HhkHdr) (singleton seqNo frame : Nat) (content : List Byte) (s : State) : Out :=
  .next (onFrame typeCheckpoint h (fun s =>
    if singleton < 3 && content.length ≤ 1048576 && !s.held then
      toPeers "ACK" [singleton, seqNo] (storedElsewhere singleton content
        (keepCkpt singleton ⟨seqNo, frame, content, s.mono⟩ s))
    else s) s)

end Sys2Proof.Machine
end

