-- ==== Sys2Proof/Machine/Program.lean ====
section
/-! DEFINITION. The program's states (04 R138-R140), its unit (R149, R116), online change (R142-R148), forces (R135-R137,
R150) and the PROGRAM and FORCE families. -/

namespace Sys2Proof.Machine

/-! ### What the configurations offer an image map (R116 check 5) -/

/-- A source an input item names exists (06 R206, 07 R246, 08 R271, 09 R307, 10 R330, 11 R353). -/
def sourceExists (s : State) (i : InItem) : Bool :=
  let hi := i.srcRef / 256
  let lo := i.srcRef % 256
  let ast := s.conf objAster
  let lsp := s.conf objLsp
  let net := s.conf objNet
  let can := s.conf objCan
  match i.srcKind with
  | 0x01 => i.size == 16 && ((hi == 0 && lo < 192 && chEnabled ast lo) || (1 ≤ hi && hi ≤ 3 && lo < 64 && setEnabled ast lo))
  | 0x02 => i.size == 16 && i.srcRef < 8 && refEnabled ast lo
  | 0x03 => i.size == 32 && ((hi == 0 && lo < 4 && grpUsed lsp lo) || (hi == 1 && lo < 8 && lineUsed lsp lo))
  | 0x04 => hi < 128 && gsubEnabled net hi && decide (lo < gsubCount net hi) && gooseTag i.type != 0
  | 0x05 => i.size == 8 && hi < 24 && strEnabled ast hi && decide (lo < strQty ast hi)
  | 0x06 => (hi == 0 && lo < 16 && i.size == 1) || (i.srcRef == 256 && i.size == 2)
  | 0x07 => i.srcRef < 4 && i.size == 8
  | 0x08 => (i.srcRef == 0 && i.size == 2) || (hi == 1 && lo < 4 && i.size == 8) || (i.srcRef == 512 && i.size == 4)
  | 0x09 =>
    lo < 128 && ((hi < 2 && canKind can hi lo == 1 && i.size == 16 + canMaxLen can hi lo) ||
      (2 ≤ hi && hi < 4 && canKind can (hi - 2) lo == 2 && i.size == 16))
  | 0x0A => i.srcRef == 0x0100 && i.size == 8
  | _ => false

/-- A destination an output item names exists (08 R266, R277, 09 R307). -/
def destExists (s : State) (o : OutItem) : Bool :=
  let hi := o.dstRef / 256
  let lo := o.dstRef % 256
  let net := s.conf objNet
  match o.dstKind with
  | 0x04 => hi < 32 && pubEnabled net hi && decide (lo < pubCount net hi) && gooseTag o.type != 0
  | 0x06 => o.dstRef < 8 && o.size == 1
  | 0x07 => o.dstRef < 4 && o.size == 4
  | 0x0C => o.dstRef < 4096
  | _ => false

/-- The configurations as admission sees them. -/
def configOf (s : State) (u : LoadUnit) : Config5 where
  src := sourceExists s
  dst := destExists s
  station := fun r => decide (r.configRef < 64) && stationEnabled (s.conf objNet) r.configRef
  snapBytes := snapBytes (some u) (s.conf objAster) (s.conf objLsp) (s.conf objCan)

/-- The report of a unit that fails check 1 or 2; nothing was evaluated. -/
def failedReport (result detail id : Nat) : Admission := ⟨result, 0, 0, 0, 0, detail, id, [], 0⟩

/-- The whole unit is checked (R116): its report, and the unit where it is admitted. -/
def judgeUnit (s : State) (bs : List Byte) : Admission × Option LoadUnit :=
  let id := leAt bs 8 8
  let sig := sectionAt bs 9
  let signed := signatureParses bs && (sig.drop 4).take 48 == Config.sha384 (bs.take (secOff bs 9))
    && Config.verifies (s.sec.anchors.getD 1 []) (sig.take 52) (sig.drop 52)
  if !signed then (failedReport 1 0xFFFF id, none)
  else match parseUnit (s.on Reg.sysModeSplit) bs with
    | .bad d => (failedReport 2 d id, none)
    | .unit u =>
      let a := admission u (configOf s u)
      (a, if a.result = 0 then some u else none)

/-- The unit is checked and, where it passes, staged (R149). -/
def stageUnit (bs : List Byte) (s : State) : Admission × State :=
  let p := judgeUnit s bs
  let s := s.updProg (fun g => { g with staged := p.2, recv := [], recvTotal := 0 })
  (p.1, s.raiseIf (p.1.result = 1) Ev.secVerifyFail)

/-- The members of the group that admit a unit with the owner: its STANDBY peers. -/
def admitters (s : State) : List Nat := (s.pair.peers.filter (fun p => p.role == roleStandby)).map (·.slot)

/-- Every peer has answered: LOAD_UNIT ends with the report (R116 check 10, R556), and a refused unit is discarded at every
member (R149). -/
def reviewLoad (s : State) : State :=
  match s.prog.load with
  | none => s
  | some (a, rs) =>
    if !(admitters s).all (fun p => rs.any (fun r => r.1 == p)) then s
    else
      let mine := rs.filter (fun r => (admitters s).contains r.1)
      let n := (mine.filter (fun r => r.2 == 0)).length + (if a.result = 0 then 1 else 0)
      let same := a.result != 0 || mine.all (fun r => r.2 == 0)
      let b : Admission := if same then { a with members := n } else { a with result := 10, detail := 0xFFFF, members := n }
      let kept := b.result == 0
      let s := s.updProg (fun g => { g with load := none, staged := if kept then g.staged else none })
      let s := if kept then s else toPeers "FORWARD" [18] s
      finishAll 4 2 stOk (reportOf b) s

/-! ### Installing a unit (R138, R142, R143) -/

/-- Two symbols have the same type (05 R184). -/
def sameType (a b : SymRow) : Bool := a.type == b.type && a.elem == b.elem && a.size == b.size

/-- Every instance of a unit takes its initial values in bank `b`. -/
def initInsts (u : LoadUnit) (b : Nat) (s : State) : State :=
  u.insts.foldl (fun s i => s.setBytes (bankOf b i.engine + i.bankOff) (fitTo i.size (u.init.drop i.initOff))) s

/-- A symbol's bytes are written in bank `b`. -/
def putSym (u : LoadUnit) (b : Nat) (y : SymRow) (bs : List Byte) (s : State) : State :=
  match symPlace u y with
  | some p => s.setBytes (bankOf b p.1 + p.2) bs
  | none => s

/-- The start of engine e's code bank `b` (01 R31). -/
def codeBankOf (b e : Nat) : Nat := peSramBase (e % 4) + 0x400000 + 0x100000 * b + (if 4 ≤ e then 0x80000 else 0)

/-- A unit's code and constants are loaded into code bank `b`. -/
def loadCode (u : LoadUnit) (b : Nat) (s : State) : State :=
  u.images.foldl (fun s c =>
    (s.setBytes (codeBankOf b c.engine) c.code).setBytes (codeBankOf b c.engine + constOff u c.engine) c.consts) s

/-- The data symbol of a unit with an identifier. -/
def dataOf (u : LoadUnit) (id : Nat) : Option SymRow := u.syms.find? (fun y => y.id == id && dataSym y)

/-- The counts of R143: MIGRATED, REINIT, NEW and REMOVED data symbols. -/
def migrationCounts (old : Option LoadUnit) (new : LoadUnit) : Nat × Nat × Nat × Nat :=
  let mine := new.syms.filter dataSym
  match old with
  | none => (0, 0, mine.length, 0)
  | some o =>
    let found := mine.filterMap (fun y => (dataOf o y.id).map (fun x => sameType x y))
    let gone := (o.syms.filter (fun y => dataSym y && (dataOf new y.id).isNone)).length
    ((found.filter (fun b => b)).length, (found.filter (fun b => !b)).length, mine.length - found.length, gone)

/-- The image of the new unit is built in bank `b` symbol by symbol from the live bank (R143). -/
def migrate (old : Option LoadUnit) (new : LoadUnit) (b : Nat) (s : State) : State :=
  let live := s
  let s := initInsts new b s
  match old with
  | none => s
  | some o =>
    (new.syms.filter dataSym).foldl (fun s y =>
      match dataOf o y.id with
      | some x => if sameType x y then putSym new b y (symBytes live o live.prog.live x) s else s
      | none => s) s

/-- A force survives a new unit that has its symbol with the same type (R146). -/
def forceSurvives (new : LoadUnit) (f : Force) : Bool :=
  match symOf new f.symbol with
  | some y => y.type == f.type && y.kind ≤ 2
  | none => false

/-- The values of outputs that the new unit does not write (R146). -/
def heldAfter (old : Option LoadUnit) (new : LoadUnit) (s : State) : List HeldOut :=
  let was : List HeldOut := match old with
    | none => []
    | some o => ((List.range o.outs.length).zip o.outs).filterMap (fun p =>
        (s.prog.outVals.find? (fun v => v.1 == p.1)).map (fun v => ⟨p.2.dstKind, p.2.dstRef, p.2.type, v.2⟩))
  let all := was ++ s.prog.heldOuts.filter (fun h => was.all (fun w => !(w.kind == h.kind && w.ref == h.ref)))
  all.filter (fun h => new.outs.all (fun i => !(i.dstKind == h.kind && i.dstRef == h.ref)))

/-- A force as the new unit's symbol has it (R146). -/
def reforce (new : LoadUnit) (f : Force) : Force :=
  match symOf new f.symbol with | some y => { f with kind := y.kind } | none => f

/-- The last value of an output that the old unit writes, by its own index. -/
def lastOut (old : Option LoadUnit) (vals : List (Nat × List Byte)) (i : OutItem) : Option (List Byte) :=
  match old with
  | none => none
  | some o => ((List.range o.outs.length).zip o.outs).findSome? (fun (q : Nat × OutItem) =>
      if q.2.dstKind = i.dstKind ∧ q.2.dstRef = i.dstRef ∧ q.2.size = i.size then
        (vals.find? (fun v => v.1 == q.1)).map (·.2)
      else none)

/-- The values of outputs that the new unit writes too, under its own indexes (R146): those the old unit wrote, and those
that were kept from a unit before it (R122). -/
def carryOuts (old : Option LoadUnit) (new : LoadUnit) (vals : List (Nat × List Byte)) (held : List HeldOut) :
    List (Nat × List Byte) :=
  ((List.range new.outs.length).zip new.outs).filterMap (fun (p : Nat × OutItem) =>
    let kept := (held.find? (fun h => h.kind == p.2.dstKind && h.ref == p.2.dstRef && h.value.length == p.2.size)).map (·.value)
    ((lastOut old vals p.2).or kept).map (fun v => (p.1, v)))

/-- Writes an MPU entry of a PE: pages of a region, and its permissions as R, W and X for both privileges (15 R435). -/
def putMpu (m ent base size rwx : Nat) (s : State) : State :=
  let a := mpuAddr m ent
  let s := (s.set (entBase a) (base / 4096)).set (entLimit a) ((base + size - 1) / 4096)
  ((s.set (entPriv a) rwx).set (entUser a) rwx).setBit (entEnable a) true

/-- Hardware sets the PEs' entries: the live instance bank read and write, the constant pool read, and the live code bank
execute (15 R435). The pool's pages come first, with execute for the code that shares them (log entry 204). -/
def loadMpus (u : LoadUnit) (s : State) : State :=
  (List.range u.plan.length).foldl (fun s e =>
    let half := if u.split then 2 else 1
    let s := putMpu e 0 (bankBase s e) (0x200000 / half) 6 s
    let n := 8 * constCount u e
    let s := if n = 0 then clearEntry (mpuAddr e 1) 3 s else putMpu e 1 (codeBase s e + constOff u e) n 5 s
    putMpu e 2 (codeBase s e) (0x100000 / half) 1 s) s

/-- The ring pairs of every engine take the sizes of the unit (03 R73, 05 R172, R176). -/
def sizeRings (u : LoadUnit) (s : State) : State :=
  (List.range u.plan.length).foldl (fun s e => (List.range 4).foldl (fun s q =>
    (s.set (Reg.rcbCfgLog2Size (requestRing e q)) (u.ringLog2.getD q 4)).set
      (Reg.rcbCfgLog2Size (requestRing e q + 1)) (u.ringLog2.getD q 4)) s) s

/-- Engines at rest, with the SEQ counts of their rings at 0. -/
def restEngines (s : State) : State :=
  s.updProg (fun g => { g with engines := List.replicate 8 {} })

/-- The unit's code and instance image are built in the change bank from the live one (R142, R143). -/
def buildChange (u : LoadUnit) (s : State) : State :=
  let b := 1 - s.prog.live
  loadCode u b (migrate s.prog.active u b s)

/-- A unit takes the place of the active one: its code and instances lie in the change bank, which becomes live; forces,
changes of forces on their way and outputs carry over (R146). The records of its tasks begin afresh, with the counts at 0 and
no last fault: the model's choice (log entry 105). -/
def switchUnit (u : LoadUnit) (s : State) : State :=
  let outs := carryOuts s.prog.active u s.prog.outVals s.prog.heldOuts
  let held := heldAfter s.prog.active u s
  reviewStations (sizeRings u (restEngines (s.updProg (fun g => { g with
    live := 1 - g.live, active := some u, staged := none, outVals := outs, heldOuts := held
    tasks := u.tasks.map (fun _ => {})
    forces := (g.forces.filter (forceSurvives u)).map (reforce u)
    changes := (g.changes.filter (fun c => c.clear || forceSurvives u c.force)).map (fun (c : ForceChange) =>
      { c with force := reforce u c.force }) }))))

/-- A unit is installed at once. -/
def installUnit (u : LoadUnit) (s : State) : State := switchUnit u (buildChange u s)

/-- A symbol of the old unit lies on a line of the frame's write log (R144). -/
def onLines (s : State) (o : LoadUnit) (y : SymRow) : Bool :=
  match symPlace o y with
  | some p => (s.eng p.1).lines.any (fun l => decide (p.2 < 64 * (l + 1)) && decide (64 * l < p.2 + y.size))
  | none => false

/-- The change-bank DMA re-migrates the symbols on the lines logged so far in the frame, once the new image has been
built (R142 step 3, R144, R147). -/
def catchUp (s : State) : State :=
  match s.prog.change, s.prog.staged, s.prog.active with
  | some c, some u, some o =>
    if c.stage < 2 then s
    else (u.syms.filter dataSym).foldl (fun t y =>
      match dataOf o y.id with
      | some x => if sameType x y && onLines s o x then putSym u (1 - s.prog.live) y (symBytes s o s.prog.live x) t else t
      | none => t) s
  | _, _, _ => s

/-! ### The change report (R149) -/

/-- A dropped force's entry. -/
def droppedBytes (f : Force) : List Byte := leBytes 4 f.symbol ++ leBytes 1 f.type ++ zeros 3

/-- The change report. -/
def changeReport (swap : List Byte) (counts : Nat × Nat × Nat × Nat) (postponed : Nat) (new : LoadUnit) (s : State) :
    List Byte :=
  let dropped := s.prog.forces.filter (fun f => !forceSurvives new f)
  swap ++ leBytes 4 counts.1 ++ leBytes 4 counts.2.1 ++ leBytes 4 counts.2.2.1 ++ leBytes 4 counts.2.2.2
    ++ leBytes 2 (s.prog.forces.length - dropped.length) ++ leBytes 2 dropped.length ++ leBytes 2 postponed ++ zeros 2
    ++ dropped.flatMap droppedBytes

/-! ### The end of a change -/

/-- JOINs deferred while the program was CHANGING are accepted now (11 R359). -/
def acceptDeferred (s : State) : State :=
  let l := s.pair.deferred
  let s : State := { s with pair := { s.pair with deferred := [] } }
  if s.held then l.foldl (fun s p => acceptJoin p s) s else s

/-- A change is over: the state is RUN, no swap is named, and its outcome is in the event log (R148). -/
def endChange (result : Nat) (s : State) : State :=
  let s := s.updProg (fun g => { g with
    state := .run, change := none, named := g.named.filter (fun p => p.2 != Named.swap) })
  acceptDeferred (fwLog 8 (leBytes 2 result) s)

/-- The change is given up: the old unit goes on, and START_CHANGE ends with a status. -/
def dropChange (status : Nat) (s : State) : State :=
  if s.prog.state = .changing then
    endChange status (finishAll 4 3 status (detailBytes noField) (s.updProg (fun g => { g with staged := none })))
  else s

/-- The change is ready on every member: the owner names S (R142, R145). -/
def nameSwap (s : State) : State :=
  match s.prog.change with
  | some c =>
    if isOwner s && c.stage = 2 && (admitters s).all (fun p => c.ready.contains p) then
      s.updProg (fun g => { g with
        change := some { c with stage := 3 }, named := g.named ++ [(nameFrame s, Named.swap)] })
    else s
  | none => s

/-- MIGRATION_COMPLETE (R142): the new image has been built in the change bank; the member reports ready. -/
def execMigrationComplete (s : State) : Out :=
  .next (
    match s.prog.change, s.prog.staged with
    | some c, some u =>
      if c.stage = 1 then
        let n := migrationCounts s.prog.active u
        let s := (buildChange u s).updProg (fun g => { g with change := some { c with
          stage := 2, migrated := n.1, reinit := n.2.1, new := n.2.2.1, removed := n.2.2.2 } })
        if isOwner s then nameSwap s else toPeers "READY" [1] s
      else s
    | _, _ => s)

/-- READY (R142): a member is ready, or refuses the change, which then ends. -/
def execReady (h : HhkHdr) (ok : Bool) (s : State) : Out :=
  .next (onRouted typeControl [3, b2n ok] h (fun s =>
    match s.prog.change with
    | some c =>
      if !ok then dropChange stStateConflict (toPeers "FORWARD" [6] s)
      else nameSwap (s.updProg (fun g => { g with change := some { c with ready := h.srcSlot :: c.ready } }))
    | none => s) s)

/-! ### Starting and stopping (R138-R141) -/

/-- The RUN modes. -/
def modeWarm : Nat := 0
def modeCold : Nat := 1
def modeHot : Nat := 2

/-- The RETAIN values that a WARM start keeps (R123): those of the live bank or, after a reset, of the CONF copy. -/
def keptValues (s : State) : List (Nat × List Byte) :=
  if s.prog.resetSinceStop then (match s.prog.retain with | some c => c.values | none => []) else retainValues s

/-- Instance data takes its values at a start (R149). -/
def initData (u : LoadUnit) (mode : Nat) (s : State) : State :=
  if mode = modeHot then s
  else
    let kept := if mode = modeWarm then keptValues s else []
    let s := initInsts u s.prog.live s
    kept.foldl (fun s v =>
      match dataOf u v.1 with
      | some y => if bitOf y.flags 0 && y.size == v.2.length then putSym u s.prog.live y v.2 s else s
      | none => s) s

/-- The age of the RETAIN copy is logged where values from an aged copy are used (R123). -/
def logAge (mode : Nat) (s : State) : State :=
  if mode = modeWarm && s.prog.retainAged then
    fwLog 0 (leBytes 4 (s.seconds - (match s.prog.retain with | some c => c.savedAt | none => s.seconds))) s
  else s

/-- The program starts (R138): from frame F it runs, and every task's first period is marked. -/
def startProgram (mode : Nat) (s : State) : State :=
  match s.prog.active with
  | none => s
  | some u =>
    let aged := mode == modeWarm && s.prog.retainAged
    let s := initData u mode (logAge mode s)
    let s := s.updProg (fun g => { g with
      state := .run, tasks := u.tasks.map (fun _ => { first := true, aged := aged }), faultsSinceRun := 0, highestW := 0
      retainAged := false, stopDue := false, retainDue := s.mono + 60 * nsPerS })
    refreshRunLock (canRun (loadMpus u (sizeRings u (restEngines s))))

/-- The program stops (R138): no task runs from frame F, each output takes its stop action at the next gather, RETAIN is
saved and the STOP is persisted. A change under way ends. -/
def stopProgram (s : State) : State :=
  let s := dropChange stStateConflict s
  let s := s.updProg (fun g => { g with
    state := .stopped, stopDue := true, resetSinceStop := false
    tasks := g.tasks.map (fun (k : TaskSt) => { k with alive := false }) })
  refreshRunLock (bumpConf confStop (beginConf (.stop true) (saveRetain (restEngines s))))

/-- What a named frame brings when it begins; a swap has taken place in the reserve of the frame before (R147). -/
def runNamed (n : Named) (s : State) : State :=
  match n with
  | .start mode => if s.prog.state = .starting || s.prog.state = .stopped then startProgram mode s else s
  | .stop => if s.prog.state = .run || s.prog.state = .changing then stopProgram s else s
  | .swap => s
  | .handover => s
  | .join => s

/-- The named frames up to frame k begin. -/
def runDue (k : Nat) (s : State) : State :=
  let due := s.prog.named.filter (fun p => p.1 ≤ k)
  due.foldl (fun s p => runNamed p.2 s) (s.updProg (fun g => { g with named := g.named.filter (fun p => k < p.1) }))

/-- PROGRAM_START_FRAME (R138): the named start frame begins. -/
def execProgramStartFrame (s : State) : Out := .next (runDue (frameIndex s.now) s)

/-- PROGRAM_STOP_FRAME (R138): the named stop frame begins. -/
def execProgramStopFrame (s : State) : Out := .next (runDue (frameIndex s.now) s)

/-- A frame is named, and the snapshots carry it (R139). -/
def nameEvent (n : Named) (s : State) : Nat × State :=
  let f := nameFrame s
  (f, s.updProg (fun g => { g with named := g.named ++ [(f, n)] }))

/-- A module with a unit and no persisted STOP starts its program in WARM mode once its time is valid (R140). -/
def startOwn (s : State) : State :=
  if s.prog.state = .stopped && s.prog.active.isSome && !s.prog.stopPersisted && s.timeOk && s.held then
    (nameEvent (.start modeWarm) (s.updProg (fun g => { g with state := .starting }))).2
  else s

/-- RETAIN_SAVE (R123): at the end of 60 s in RUN in which a RETAIN variable changed. -/
def execRetainSave (s : State) : Out :=
  .next (
    if s.prog.state = .run || s.prog.state = .changing then
      let latest := s.nvs.writing.foldl (fun m w => match w with | .retain c => some c | .stop _ => m) s.prog.retain
      let old := match latest with | some c => c.values | none => []
      let s' := s.updProg (fun g => { g with retainDue := s.mono + 60 * nsPerS })
      if retainValues s = old then s' else saveRetain s'
    else s)

/-! ### The PROGRAM family (R149) -/

/-- The code of a program state. -/
def stateCode : ProgState → Nat
  | .empty => 0
  | .stopped => 1
  | .starting => 2
  | .run => 3
  | .changing => 4

/-- The 40-byte status record. -/
def programStatus (s : State) : List Byte :=
  let g := s.prog
  let stage := match g.change with | some c => c.stage | none => 0
  let post := match g.change with | some c => c.postponed | none => 0
  let idOf (u : Option LoadUnit) : Nat := match u with | some u => u.id | none => 0
  let tasks := match g.active with | some u => u.tasks.length | none => 0
  let down := ((List.range 64).filter (fun j => bitOf s.dropped j)).length
  leBytes 1 (stateCode g.state) ++ leBytes 1 stage ++ leBytes 2 post ++ leBytes 8 (idOf g.active)
    ++ leBytes 8 (idOf g.staged) ++ (match g.named with | p :: _ => frameBytes p.1 | [] => zeros 8) ++ leBytes 2 tasks
    ++ leBytes 2 g.faultsSinceRun ++ leBytes 4 g.highestW ++ leBytes 2 g.forces.length ++ leBytes 1 down
    ++ leBytes 1 (s.get Reg.sysModeSplit + (if g.tasks.any (·.halted) then 2 else 0) + (if g.stopPersisted then 4 else 0))

/-- PROGRAM.GET_STATUS. -/
def execProgramGetStatus (r : Req) (s : State) : Out :=
  .next (serve 4 1 r noPayload (fun s => .ok s (programStatus s)) s)

/-- The largest load unit: 8 MiB. -/
def unitMax : Nat := 8388608

/-- The stages of LOAD_UNIT after 1 receive that a unit's checks reach (R149): 2 signature, 3 code check, 4 WCET
derivation, 5 admission. -/
def loadStages (result : Nat) : List Nat :=
  match result with | 1 => [2] | 2 => [2, 3] | 3 => [2, 3] | 4 => [2, 3, 4] | _ => [2, 3, 4, 5]

/-- PROGRAM.LOAD_UNIT: a chunk is received, and the final one has the unit checked to the end (R116, R149). -/
def execProgramLoadUnit (r : Req) (s : State) : Out :=
  .next (serve 4 2 r (fun n => decide (16 ≤ n)) (fun s =>
    let p := r.payload
    let total := leAt p 0 4
    let off := leAt p 4 4
    let fin := leAt p 8 1
    let chunk := p.drop 16
    let kept := if off = 0 then [] else s.prog.recv
    match firstBad ([(0, decide (total ≤ unitMax)), (4, off == kept.length && decide (off + chunk.length ≤ total)),
        (8, decide (fin ≤ 1))] ++ resv p 9 7) with
    | some d => .err s stOutOfRange d
    | none =>
      if s.prog.state = .changing then conflict s
      else
        let bs := kept ++ chunk
        let s := s.updProg (fun g => { g with
          recv := bs, recvTotal := total, staged := if off = 0 then none else g.staged })
        let s := sendStages r 4 2 [1] s
        if fin = 0 then .ok s []
        else
          let q := stageUnit bs s
          let s := sendStages r 4 2 (loadStages q.1.result) q.2
          if isOwner s && !(admitters s).isEmpty then
            .later ((toPeers "FORWARD" (3 :: asNats bs) s).updProg (fun g => { g with load := some (q.1, []) }))
          else .ok s (reportOf q.1)) s)

/-- A member of the group is SYNCING (11 R359). -/
def memberSyncing (s : State) : Bool :=
  s.pair.joiner.isSome || s.pair.peers.any (fun p => p.role == roleSyncing)

/-- START_CHANGE takes effect: in EMPTY and STOPPED the unit is installed at once (R138), in RUN the migration begins. -/
def beginChange (u : LoadUnit) (s : State) : State :=
  if s.prog.state = .run then s.updProg (fun g => { g with state := .changing, change := some {} })
  else (installUnit u s).updProg (fun g => { g with state := .stopped })

/-- PROGRAM.START_CHANGE (R138, R142, 11 R359, 16 R466). It is refused in RUN too while a frame is named, a STOP's among them:
the model's choice (log entry 188). -/
def execProgramStartChange (r : Req) (s : State) : Out :=
  .next (serve 4 3 r (exactly 8) (fun s =>
    match s.prog.staged with
    | none => conflict s
    | some u =>
      if leAt r.payload 0 8 ≠ u.id then .err s stOutOfRange 0
      else if !takesGroup s || groupUpdating s || memberSyncing s || !s.prog.named.isEmpty || s.prog.load.isSome ||
          s.prog.state = .changing || s.prog.state = .starting then conflict s
      else
        let s := toPeers "FORWARD" [2, u.id] s
        if s.prog.state = .run then .later (beginChange u s)
        else
          let n := migrationCounts s.prog.active u
          let report := changeReport (leBytes 8 s.fresh) n 0 u s
          .ok (beginChange u s.took) report) s)

/-- PROGRAM.ABORT_CHANGE: it must enter a snapshot frozen no later than the cut-off of frame S-2 (R148). -/
def execProgramAbortChange (r : Req) (s : State) : Out :=
  .next (serve 4 4 r noPayload (fun s =>
    let next := if s.now - s.t0 < 225000 then frameIndex s.now else frameIndex s.now + 1
    let late := s.prog.named.any (fun p => p.2 == Named.swap && decide (p.1 < next + 2))
    if !takesGroup s || s.prog.state ≠ .changing || late then conflict s
    else .ok (dropChange stStateConflict (toPeers "FORWARD" [6] s)) []) s)

/-- PROGRAM.RUN: the start frame F is named (R149). -/
def execProgramRun (r : Req) (s : State) : Out :=
  .next (serve 4 5 r (exactly 8) (fun s =>
    let mode := leAt r.payload 0 1
    match firstBad ((0, decide (mode ≤ 2)) :: resv r.payload 1 7) with
    | some d => .err s stOutOfRange d
    | none =>
      if !takesGroup s || s.prog.state ≠ .stopped || !s.timeOk || (mode = modeHot && s.prog.resetSinceStop) then
        conflict s
      else
        let s := bumpConf confStop (beginConf (.stop false) s)
        let q := nameEvent (.start mode) (s.updProg (fun g => { g with state := .starting, stopPersisted := false }))
        .ok q.2 (frameBytes q.1)) s)

/-- PROGRAM.STOP: the stop frame F is named (R138). -/
def execProgramStop (r : Req) (s : State) : Out :=
  .next (serve 4 6 r noPayload (fun s =>
    let pend := s.prog.named.any (fun p => p.2 == Named.stop)
    if !takesGroup s || pend || !(s.prog.state = .run || s.prog.state = .changing) then conflict s
    else
      let q := nameEvent .stop s
      .ok q.2 (frameBytes q.1)) s)

/-- The 32-byte record of the task at a TASKS position. -/
def taskRecord (s : State) (t : Nat) (r : TaskRow) : List Byte :=
  let k := s.task t
  leBytes 1 (if r.kind = 1 then 0x40 + r.engine else r.task) ++ leBytes 1 r.engine
    ++ leBytes 1 (if k.halted then 2 else if k.periods = 0 then 0 else 1) ++ leBytes 1 k.lastFault
    ++ leBytes 2 r.period ++ leBytes 2 r.phase ++ leBytes 4 (r.wcets.foldl (· + ·) 0) ++ leBytes 4 k.maxCycles
    ++ leBytes 4 k.periods ++ leBytes 2 k.faults ++ leBytes 2 k.drop ++ leBytes 2 k.reject ++ leBytes 2 k.discards
    ++ zeros 4

/-- The tasks of the active unit with their TASKS positions. -/
def unitTasks (s : State) : List (Nat × TaskRow) :=
  match s.prog.active with
  | some u => (List.range u.tasks.length).zip u.tasks
  | none => []

/-- PROGRAM.GET_TASK_STATS: one task, an engine's error task, or all. -/
def execProgramGetTaskStats (r : Req) (s : State) : Out :=
  .next (serve 4 7 r (exactly 4) (fun s =>
    let n := leAt r.payload 0 1
    let sel := (unitTasks s).filter (fun p =>
      n == 0xFF || (if n < 0x40 then p.2.kind == 0 && p.2.task == n else p.2.kind == 1 && p.2.engine == n - 0x40))
    match firstBad (resv r.payload 1 3) with
    | some d => .err s stOutOfRange d
    | none =>
      if sel.isEmpty && n ≠ 0xFF then .err s stOutOfRange 0
      else .ok s (sel.flatMap (fun p => taskRecord s p.1 p.2))) s)

/-- An entry of READ_VAR names a symbol of the table with its elementary type. -/
def readVarOk (s : State) (p : List Byte) (i : Nat) : Bool :=
  match s.prog.active.bind (fun u => symOf u (leAt p (4 + 8 * i) 4)) with
  | some y => y.type == leAt p (8 + 8 * i) 1 && y.kind ≤ 2 && tySize y.type != 0
  | none => false

/-- PROGRAM.READ_VAR: the values of one output gather, so the request waits for the next. -/
def execProgramReadVar (r : Req) (s : State) : Out :=
  .next (serve 4 8 r (fun n => decide (12 ≤ n) && decide (n ≤ 260) && n % 8 == 4) (fun s =>
    let p := r.payload
    let n := leAt p 0 1
    match firstBad ([(0, decide (1 ≤ n) && decide (n ≤ 32) && p.length == 4 + 8 * n)] ++ resv p 1 3
        ++ (List.range n).flatMap (fun i => (4 + 8 * i, readVarOk s p i) :: resv p (9 + 8 * i) 3)) with
    | some d => .err s stOutOfRange d
    | none =>
      match r.src with
      | .host i => .later (s.updProg (fun g => { g with reads := g.reads ++ [(i, r.seq, p)] }))
      | .petal _ => conflict s) s)

/-- The value of a symbol at an output gather: of an input item as its tasks see it, of an output item as gathered, of
an instance variable as it stands in the live bank. -/
def varValue (s : State) (u : LoadUnit) (y : SymRow) : List Byte :=
  if y.kind = 0 then (match u.ins[y.loc]? with | some it => itemValue s u it | none => [])
  else if y.kind = 1 then kvGet (fun _ => zeros y.size) y.loc s.prog.outVals
  else symBytes s u s.prog.live y

/-- READ_VAR requests are answered from an output gather. -/
def answerReads (s : State) : State :=
  let reads := s.prog.reads
  reads.foldl (fun s q =>
    let n := leAt q.2.2 0 1
    let vals := (List.range n).flatMap (fun i =>
      fitTo 8 (match s.prog.active.bind (fun u => (symOf u (leAt q.2.2 (4 + 8 * i) 4)).map (fun y => varValue s u y)) with
        | some b => b
        | none => []))
    let o := (s.sess q.1).out.find? (fun o => o.seq == q.2.1 && o.fam == 4 && o.cmd == 8)
    match o with
    | some o => finishD q.1 o stOk (frameBytes (frameIndex s.now) ++ vals) s
    | none => s) (s.updProg (fun g => { g with reads := [] }))

/-! ### The FORCE family (R135-R137, R150) -/

/-- A force change applied to a table of forces; a set on a forced symbol replaces its value. -/
def applyChange (l : List Force) (c : ForceChange) : List Force :=
  if c.clear then l.filter (fun f => f.symbol != c.force.symbol)
  else if l.any (fun f => f.symbol == c.force.symbol) then
    l.map (fun f => if f.symbol = c.force.symbol then c.force else f)
  else l ++ [c.force]

/-- The table once every accepted change is in effect, by which the limits of SET, RELEASE and COUNT go, while LIST shows what
is in effect now: the model's choice (log entry 189). -/
def forcesAfter (s : State) : List Force := s.prog.changes.foldl applyChange s.prog.forces

/-- Changes of forces up to frame k take effect; the table is kept in CONF. -/
def forcesDue (k : Nat) (s : State) : State :=
  let due := s.prog.changes.filter (fun c => c.frame ≤ k)
  if due.isEmpty then s
  else bumpConf confForces (s.updProg (fun g => { g with
    forces := due.foldl applyChange g.forces, changes := g.changes.filter (fun c => decide (k < c.frame)) }))

/-- The first frame from f on whose snapshot has room for a change (R137). -/
def roomFrom (l : List ForceChange) (f : Nat) : Nat → Nat
  | 0 => f
  | n + 1 => if (l.filter (fun c => c.frame == f)).length < 16 then f else roomFrom l (f + 1) n

/-- The frame in which a change accepted now takes effect: that of the first snapshot frozen after it with room. -/
def changeFrame (s : State) : Nat :=
  let first := if s.now - s.t0 < 225000 then frameIndex s.now + 1 else frameIndex s.now + 2
  roomFrom s.prog.changes first (s.prog.changes.length + 1)

/-- Accepts a change. -/
def acceptChange (clear : Bool) (f : Force) (s : State) : Nat × State :=
  let k := changeFrame s
  (k, s.updProg (fun g => { g with changes := g.changes ++ [⟨k, clear, f⟩] }))

/-- The bytes a force takes in LIST. -/
def forceBytes (f : Force) : List Byte :=
  leBytes 4 f.symbol ++ leBytes 1 f.type ++ leBytes 1 f.kind ++ zeros 2 ++ leBytes 8 f.value

/-- FORCE.LIST. -/
def execForceList (r : Req) (s : State) : Out :=
  .next (serve 5 1 r noPayload (fun s =>
    .ok s (leBytes 2 s.prog.forces.length ++ zeros 6 ++ s.prog.forces.flatMap forceBytes)) s)

/-- The FORCE_RESERVE of the task that owns an instance is used up by its other forced variables (R135). -/
def reserveUsed (u : LoadUnit) (l : List Force) (y : SymRow) : Bool :=
  match u.tasks.find? (fun t => t.inst == y.loc) with
  | some t =>
    let n := (l.filter (fun f => f.kind == 2 && f.symbol != y.id &&
      (match symOf u f.symbol with | some x => x.loc == y.loc | none => false))).length
    decide (t.reserve ≤ n)
  | none => true

/-- FORCE.SET (R150). Bytes of VALUE above the type's size are dropped: the model's choice (log entry 189). -/
def execForceSet (r : Req) (s : State) : Out :=
  .next (serve 5 2 r (exactly 16) (fun s =>
    let p := r.payload
    match s.prog.active.bind (fun u => (symOf u (leAt p 0 4)).map (fun y => (u, y))) with
    | none => .err s stOutOfRange 0
    | some (u, y) =>
      match firstBad ([(0, bitOf y.flags 1 && decide (y.kind ≤ 2) && tySize y.type != 0), (4, y.type == leAt p 4 1)]
          ++ resv p 5 3) with
      | some d => .err s stOutOfRange d
      | none =>
        let after := forcesAfter s
        let isNew := !after.any (fun f => f.symbol == y.id)
        if !takesGroup s || (isNew && 256 ≤ after.length) || (y.kind = 2 && isNew && reserveUsed u after y) then conflict s
        else
          let f : Force := ⟨y.id, y.type, y.kind, leAt p 8 8 % 2 ^ (8 * y.size)⟩
          let q := acceptChange false f s
          .ok q.2 (frameBytes q.1)) s)

/-- FORCE.RELEASE. -/
def execForceRelease (r : Req) (s : State) : Out :=
  .next (serve 5 3 r (exactly 8) (fun s =>
    let y := leAt r.payload 0 4
    match (forcesAfter s).find? (fun f => f.symbol == y), firstBad (resv r.payload 4 4) with
    | none, _ => .err s stOutOfRange 0
    | some _, some d => .err s stOutOfRange d
    | some f, none =>
      if !takesGroup s then conflict s
      else
        let q := acceptChange true f s
        .ok q.2 (frameBytes q.1)) s)

/-- FORCE.RELEASE_ALL: one change per force, and the frame in which the last takes effect; with no force held, the frame in
which a change accepted now would (log entry 106). -/
def execForceReleaseAll (r : Req) (s : State) : Out :=
  .next (serve 5 4 r noPayload (fun s =>
    if !takesGroup s then conflict s
    else
      let l := forcesAfter s
      let q := l.foldl (fun (q : Nat × State) f => acceptChange true f q.2) (changeFrame s, s)
      .ok q.2 (frameBytes q.1 ++ leBytes 2 l.length ++ zeros 6)) s)

end Sys2Proof.Machine
end

