-- ==== Sys2Proof/Machine/Frame.lean ====
section
/-! DEFINITION. The frame from its tick to the end of the execution window (02 R60, R61; 04 R114, R120, R122, R128), the
signatures of 11 R354, the error-task slot (04 R130) and the bank swap (04 R145-R147). -/

namespace Sys2Proof.Machine

/-! ### What runs in a frame -/

/-- The 16-byte time record for frame f (02 R56). -/
def timeRecord (f : Nat) (step : Bool) (s : State) : List Byte :=
  leBytes 6 (f / 4000) ++ leBytes 2 (f % 4000) ++ leBytes 1 (s.get Reg.timStatusClass) ++ leBytes 1 (timeFlags step s)
    ++ leBytes 4 (s.get Reg.timEstErrErr) ++ leBytes 2 (s.get Reg.timTaiUtcOffset)

/-- The module runs frame k in step: as PRIMARY, STANDBY, ALONE or ALONE-standby, or as a joiner from Q on (11 R352,
R360). -/
def inStep (s : State) (k : Nat) : Bool :=
  s.role == rolePrimary || s.role == roleStandby || s.role == roleAlone || s.role == roleAloneStandby
    || (s.role == roleSyncing && (match s.pair.qFrame with | some q => decide (q ≤ k) | none => false))

/-- The program is in RUN or CHANGING. -/
def programRuns (s : State) : Bool := s.prog.state == .run || s.prog.state == .changing

/-- The segments of engine e due in frame k, in TASKS order (R112-R114). -/
def dueSegments (u : LoadUnit) (e k : Nat) : List (Nat × Nat) :=
  (engineTasks u e).flatMap (fun p =>
    ((List.range p.2.segments).filter (fun i => segmentDue p.2 i (k % 4000))).map (fun i => (p.1, i)))

/-- Engine e begins the frame (R114): what the previous frame collected is done with, and its first segment starts. -/
def startEngine (u : LoadUnit) (k : Nat) (runs : Bool) (s : State) (e : Nat) : State :=
  let g : Engine := { s.eng e with
    running := false, err := false, used := 0, due := [], writes := [], lines := [], late := [], faulted := [], sig := crc64Start
    quota := [0, 0, 0, 0], posted := [0, 0, 0, 0] }
  let s := s.putEng e g
  if runs then startNext e (dueSegments u e k) s else s

/-- The engines of the unit begin frame k. -/
def startEngines (k : Nat) (s : State) : State :=
  let s := s.updProg (fun g => { g with tasks := g.tasks.map (fun (t : TaskSt) => { t with copied := false }) })
  match s.prog.active with
  | none => s
  | some u => (List.range u.plan.length).foldl (startEngine u k (programRuns s && inStep s k)) s

/-! ### Settings that take effect at a named frame (04 R139, 16 R468) -/

/-- A settings object takes effect from frame k on. The security configuration, the CRL store and TIME_CONFIG do not wait for a frame,
and the boot configuration waits for the next warm reset. -/
def applyObject (k o : Nat) (b : List Byte) (s : State) : State :=
  match o with
  | 0x01 => netApply b s
  | 0x11 => astApply k b s
  | 0x12 => lspApply b s
  | 0x13 => fioApply b s
  | 0x14 => canApply b s
  | _ => s

/-- The objects whose named frame is reached take effect. -/
def configDue (k : Nat) (s : State) : State :=
  let due := s.cfg.next.filter (fun p => p.2.1 ≤ k)
  let s : State := { s with cfg := { s.cfg with next := s.cfg.next.filter (fun p => k < p.2.1) } }
  streamingDue k (due.foldl (fun s p => applyObject k p.1 p.2.2 s) s)

/-- CONFIG_EFFECTIVE_FRAME: the frame that the owner named begins, and what waits for it takes effect. -/
def execConfigEffectiveFrame (s : State) : Out := .next (configDue (frameIndex s.now + 1) s)

/-! ### TICK (R60) -/

/-- The time record of a frame whose snapshot a step has skipped, or which a step has begun (02 R57). -/
def freshPool (k : Nat) (s : State) : State :=
  if s.prog.pool.frame = k && !s.time.stepFrame then s
  else s.updProg (fun g => { g with pool := { g.pool with
    frame := k, timeRec := timeRecord k s.time.stepFrame s, slewBack := decide (s.getInt Reg.timSlewRemRem < 0) } })

/-- An owner with an untainted STANDBY peer is PRIMARY from the tick on (11 R336, 12 R378); one that carries debug taint
releases OWN to that peer instead (13 R406). -/
def tickRole (s : State) : State :=
  if s.taint && !s.bench && s.held && goodStandby s then taintRole s
  else if s.role = roleAlone && s.held && goodStandby s then showTriad (followPeers (setRole rolePrimary s))
  else reviewOwner s

/-- The program of a module that claimed at start starts once time is valid (R140). -/
def tickProgram (s : State) : State :=
  if !s.prog.autoStart then s
  else if s.prog.state = .stopped then startOwn s
  else s.updProg (fun g => { g with autoStart := false })

/-- The ages of the checkpoints held (11 R367), in whole ms. -/
def showAges (s : State) : State :=
  (List.range 3).foldl (fun s n =>
    match s.pair.ckpts.getD n none with
    | some c => s.set (Reg.hhkPairCkptAgeMs n) (satTo 65535 ((s.mono - c.arrived) / 1000000))
    | none => s) s

/-- TICK: T0 of the next frame. -/
def execTick (s : State) : Out :=
  .next (
    let s := tickTime s
    let k := frameIndex s.now
    let s : State := { s with pwr := { s.pwr with stretch := 0, stretchOver := false } }
    let s := configDue k (forcesDue k (runDue k (freshPool k s)))
    let s := reviewLoad (tickProgram (tickRole (expireSubs (showAges s))))
    startEngines k s)

/-! ### EXECUTION_WINDOW_END (R128) -/

/-- The task at position t faults with WINDOW in engine e. -/
def windowFault (e : Nat) (s : State) (t : Nat) : State :=
  let s := noteFault t codeWindow s
  s.putEng e { s.eng e with faulted := (s.eng e).faulted ++ [(t, codeWindow)] }

/-- The segments of engine e that the window's end finds running or not begun, by TASKS position. -/
def unfinished (s : State) (e : Nat) : List Nat :=
  let g := s.eng e
  (if g.running then [g.task] else [])
    ++ (g.due.filter (fun p => !(s.task p.1).halted && (p.2 == 0 || (s.task p.1).alive))).map (·.1)

/-- Engine e stops at the window's end: its unfinished segments fault, and the requests they posted go out. -/
def stopEngine (s : State) (e : Nat) : State :=
  let ts := unfinished s e
  let s := if (s.eng e).running then closeSegment e s else s
  let s := ts.foldl (windowFault e) s
  let s := ringDoorbells e s
  s.putEng e { s.eng e with running := false, due := [] }

/-- The final fold of the frame (13 R400): at T0+200 us, of every engine. -/
def foldAll (s : State) : State :=
  (List.range (if s.on Reg.sysModeSplit then 8 else 4)).foldl (fun s e => foldState e s) s

/-- Every engine stops, and WINDOW faults have the module's reaction (13 R407). -/
def stopEngines (s : State) : State :=
  let late := (List.range 8).any (fun e => !(unfinished s e).isEmpty)
  let s := (List.range 8).foldl stopEngine (foldAll s)
  if late then moduleReaction codeWindow false s else s

/-- Aster forms estimates: a channel or a reference is enabled. -/
def asterOn (s : State) : Bool :=
  (List.range 192).any (chEnabled (s.conf objAster)) || (List.range 8).any (refEnabled (s.conf objAster))

/-- Aster has not completed E(k) (06 R205): every item is not VALID and the module reacts as for class 0x06. -/
def judgeAster (s : State) : State :=
  if inStep s (frameIndex s.now) && asterOn s && s.ast.estFrame ≠ frameIndex s.now then
    fail 0x06 0xFF 0xFF true (((formEstimates false s).raise Ev.astProcLate).raise Ev.lckLate)
  else s

/-- The TASKS position and entry of the cyclic task with a number. -/
def taskNumbered (u : LoadUnit) (n : Nat) : Option (Nat × TaskRow) :=
  ((List.range u.tasks.length).zip u.tasks).find? (fun p => p.2.kind == 0 && p.2.task == n)

/-- The TASKS position of an output item's task, and the item's address in the output pool. -/
def outPlace (s : State) (u : LoadUnit) (o : OutItem) : Option (Nat × Nat) :=
  (taskNumbered u o.task).map (fun p =>
    (p.1, bankBase s p.2.engine + outPool u.split + poolOff u p.2.engine p.1 + o.imgOff))

/-- The forced value of output item i (R136). -/
def forcedOutput (s : State) (u : LoadUnit) (i size : Nat) : Option (List Byte) :=
  s.prog.forces.findSome? (fun f =>
    match symOf u f.symbol with
    | some y => if f.kind = 1 ∧ y.kind = 1 ∧ y.loc = i then some (leBytes size f.value) else none
    | none => none)

/-- Output item i at the gather (R122): forced, at its stop value, as its task has written it, or as it was. -/
def gatherItem (u : LoadUnit) (s : State) (p : Nat × OutItem) : State :=
  match outPlace s u p.2 with
  | none => s
  | some (t, a) =>
    let v :=
      match forcedOutput s u p.1 p.2.size with
      | some b => some b
      | none => if s.prog.stopDue && p.2.stopAction == 1 then some (leBytes p.2.size p.2.stopValue) else none
    let s := match v with | some b => s.setBytes a b | none => s
    if v.isSome || (s.task t).copied then
      let bs := s.bytes a p.2.size
      s.updProg (fun g => { g with outVals := kvPut (fun _ => []) p.1 bs g.outVals })
    else s

/-- The gathered value of output item i. -/
def outValue (s : State) (p : Nat × OutItem) : List Byte := kvGet (fun _ => zeros p.2.size) p.1 s.prog.outVals

/-- The local outputs that the gather commands (09 R283). -/
def commandField (s : State) (p : Nat × OutItem) : State :=
  let v := leNat (outValue s p)
  if p.2.dstKind = 6 then s.updFio (fun f => { f with wantDo := withBit f.wantDo p.2.dstRef (v != 0) })
  else if p.2.dstKind = 7 then s.updFio (fun f => { f with wantAo := listSet f.wantAo p.2.dstRef (fun _ => v) })
  else s

/-- The MMS data attributes whose value a gather changed (08 R278). -/
def changedAttrs (old s : State) (items : List (Nat × OutItem)) : List (Nat × List Byte) :=
  (items.filter (fun p => p.2.dstKind == 0x0C && outValue old p != outValue s p)).map (fun p =>
    (p.2.dstRef, outValue s p))

/-- The output gather of a unit (R122, R136, R141; 08 R267, R277). -/
def gatherOutputs (u : LoadUnit) (s : State) : State :=
  let items := (List.range u.outs.length).zip u.outs
  let old := s
  let s := (items.foldl (gatherItem u) s).updProg (fun g => { g with stopDue := false })
  let s := items.foldl commandField s
  gatherPubs u (mmsReport (changedAttrs old s items) s)

/-! ### Signatures (11 R354) -/

/-- The engines work in split mode: as the active unit has it, or the module where there is none. -/
def engineSplit (s : State) : Bool :=
  match s.prog.active with
  | some u => u.split
  | none => s.on Reg.sysModeSplit

/-- OUT_SIG of engine e: over its output pool of 16 KiB. -/
def outSig (s : State) (e : Nat) : Nat := crc64 (s.bytes (bankBase s e + outPool (engineSplit s)) 16384)

/-- WR_HASH of engine e: over the instance writes of the frame, each as its bank offset and its value. -/
def wrHash (g : Engine) : Nat := crc64 (g.writes.flatMap (fun w => leBytes 4 w.1 ++ fitTo 8 w.2))

/-- The two values of each of the eight engine slots, 0 for an engine that is absent outside split mode. -/
def signatureSlots (s : State) : SigSlots :=
  (List.range 8).map (fun e => if e < (if engineSplit s then 8 else 4) then (outSig s e, wrHash (s.eng e)) else (0, 0))

/-- The module takes part in comparisons in frame k: a peer runs in step, or Q is being run (R355, R360). -/
def signs (s : State) (k : Nat) : Bool := peerInStep s || s.pair.qFrame == some k

/-- The signature record of frame k is formed and waits for the peer's. -/
def computeSigs (k : Nat) (s : State) : State :=
  if !signs s k then s
  else
    let r := signatureSlots s
    { s with pair := { s.pair with ownSigs := (s.pair.ownSigs ++ [(k, r)]).drop (s.pair.ownSigs.length - 15) } }

/-! ### The lines for a joiner (11 R360) -/

/-- The lines of 64 bytes that engines have written in the frame, by fabric address. -/
def markedLines (s : State) : List Nat :=
  (List.range 8).flatMap (fun e => (s.eng e).lines.map (fun l => bankBase s e + 64 * l))

/-- Those of them that error tasks have written. -/
def lateLines (s : State) : List Nat :=
  (List.range 8).flatMap (fun e => (s.eng e).late.map (fun l => bankBase s e + 64 * l))

/-- The marked lines go to the joiner. -/
def sendLines (s : State) : State :=
  toPeers "RESYNC_LINES" (s.pair.marked.flatMap (fun a => a :: asNats (s.bytes a 64))) s

/-- HHK_PAIR_RESYNC shows the KiB that lines still to send take, rounded up (11 R367). -/
def showLeft (lines : Nat) (s : State) : State :=
  s.set Reg.hhkPairResyncKibLeft (satTo 65535 ((64 * lines + 1023) / 1024))

/-- The owner marks the lines of the frame at the end of the window, with those that the error tasks of the frame before
have written, and sends them at once where they may be those of frame Q-1. -/
def markForJoiner (s : State) : State :=
  if !(isOwner s && s.pair.joiner.isSome && s.get Reg.hhkPairResyncPhase == 2) then s
  else
    let l := markedLines s
    let all := l ++ s.pair.carry.filter (fun a => !l.contains a)
    let s : State := { s with pair := { s.pair with marked := all, carry := [] } }
    if all.length ≤ 256 then showLeft 0 (sendLines s) else showLeft all.length s

/-- EXECUTION_WINDOW_END: T0+200 us. The lines logged in the window go to the change bank (R144). -/
def execExecutionWindowEnd (s : State) : Out :=
  .next (
    if !s.time.ticked then s
    else
      let s := judgeAster (stopEngines (toPhase 200000 s))
      let k := frameIndex s.now
      let s := match s.prog.active with
        | some u => if inStep s k then gatherOutputs u s else s
        | none => s
      let s := if inStep s k then markForJoiner (computeSigs k s) else s
      answerReads (catchUp s))

/-! ### The error task (R130) -/

/-- The cyclic tasks of engine e by TASKS position: the entries of its error record. -/
def recordTasks (u : LoadUnit) (e : Nat) : List Nat :=
  ((engineTasks u e).filter (fun p => p.2.kind == 0)).map (·.1)

/-- A transition of R134 concerns engine e: a SUBSTITUTE station that its tasks read. -/
def transitionHits (s : State) (u : LoadUnit) (e : Nat) : Bool :=
  u.ins.any (fun i =>
    (match taskNumbered u i.task with | some p => p.2.engine == e | none => false)
      && (match stationOf u i.station with
        | some r => r.mode == 0 && (bitOf s.prog.pool.drops r.station || bitOf s.prog.pool.returns r.station)
        | none => false))

/-- The 64-byte error record of engine e. -/
def errorRecord (s : State) (u : LoadUnit) (e : Nat) : List Byte :=
  let f := (s.eng e).faulted
  let ts := recordTasks u e
  let code (t : Nat) : Nat := ((f.filter (fun p => p.1 == t)).getLast?.map (·.2)).getD 0
  fitTo 16 s.prog.pool.timeRec
    ++ leBytes 2 (bitmap (if ts.length < 16 then ts.length else 16) (fun i => code (ts.getD i 0) != 0))
    ++ fitTo 16 (ts.map (fun t => BitVec.ofNat 8 (code t))) ++ zeros 2
    ++ leBytes 8 s.prog.pool.drops ++ leBytes 8 s.prog.pool.returns ++ zeros 12

/-- The error task of engine e. -/
def errorTaskOf (u : LoadUnit) (e : Nat) : Option (Nat × TaskRow) := (engineTasks u e).find? (fun p => p.2.kind == 1)

/-- ERROR_TASK_RUN: the error task of engine e runs once in the error-task slot, where the frame has a cause for it. -/
def execErrorTaskRun (e : Nat) (s : State) : Out :=
  .next (
    match s.prog.active with
    | none => s
    | some u =>
      let s' := toPhase 215000 s
      let g := s'.eng e
      let cause := !g.faulted.isEmpty || transitionHits s' u e
      if !s.time.ticked || !(programRuns s && inStep s (frameIndex s.now)) || g.err || g.running || !cause then s
      else match errorTaskOf u e with
        | none => s
        | some (t, _) =>
          if (s'.task t).halted then s
          else
            let s := s'.setBytes (bankBase s' e + (regionOf u e t).1) (errorRecord s' u e)
            beginSegment e t 0 (s.updTask t (fun k => { k with periods := (k.periods + 1) % 2 ^ 32 })))

/-! ### The bank swap (R144-R147) -/

/-- A swap may take place at the end of the frame (R145): no period is under way, and the write log is at most 16 KiB. -/
def swapEligible (s : State) : Bool :=
  !s.prog.tasks.any (·.alive) && decide ((markedLines s).length ≤ 256)

/-- The swap at the end of frame S-1: the new unit's banks become live, its forces and outputs carry over, RETAIN is
saved and START_CHANGE ends with its report (R143, R146, R147). -/
def swapBanks (u : LoadUnit) (c : Change) (swap : Nat) (s : State) : State :=
  let report := changeReport (frameBytes swap) (c.migrated, c.reinit, c.new, c.removed) c.postponed u s
  let s := loadMpus u (switchUnit u (catchUp s))
  let s := s.updProg (fun g => { g with tasks := u.tasks.map (fun _ => { afterSwap := true }) })
  endChange 0 (finishAll 4 3 stOk report (saveRetain s))

/-- A swap that is not eligible is postponed: the owner names another S; the 16th ends the change (R145). -/
def postponeSwap (c : Change) (s : State) : State :=
  let s := s.updProg (fun g => { g with
    change := some { c with postponed := c.postponed + 1 }, named := g.named.filter (fun p => p.2 != Named.swap) })
  if 16 ≤ c.postponed + 1 then dropChange stStateConflict s
  else if isOwner s then (nameEvent .swap s).2
  else s

/-- BANK_SWAP: T0+222 us of frame S-1. -/
def execBankSwap (s : State) : Out :=
  .next (
    if !s.time.ticked then s
    else
      let s := toPhase 222000 s
      let next := frameIndex s.now + 1
      if !s.prog.named.contains (next, Named.swap) then s
      else match s.prog.change, s.prog.staged with
        | some c, some u => if swapEligible s then swapBanks u c next s else postponeSwap c s
        | _, _ => s)

end Sys2Proof.Machine
end

