-- ==== Sys2Proof/Machine/Release.lean ====
section
/-! DEFINITION. The release of a frame's group-owned traffic (02 R61, 08 R261, R262, R264; 04 R132), the signature record
that goes with it (11 R355), and the confirmation of a claim (11 R339). -/

namespace Sys2Proof.Machine

/-! ### Discards (04 R132, 08 R268) -/

/-- The stations found dropped between the input copy of a period that completed in the frame and its release. -/
def droppedIn (s : State) (t : Nat) : Nat := if (s.task t).copied then (s.task t).droppedIn else 0

/-- The publications of a dropped station: those its record lists, and those its output items name. -/
def stationOuts (s : State) (u : LoadUnit) (j : Nat) : Nat :=
  let listed := match stationOf u j with
    | some r => stationPubs (s.conf objNet) r.configRef
    | none => 0
  u.outs.foldl (fun m o =>
    if o.station = j ∧ o.dstKind = 4 then withBit m (o.dstRef / 256) true else m) listed

/-- The publications that the frame's periods discard; a bitmap. -/
def discardsOf (s : State) (u : LoadUnit) : Nat :=
  (List.range u.tasks.length).foldl (fun m t =>
    let d := droppedIn s t
    if d = 0 then m
    else
      let mine := (u.outs.filter (fun o => (match taskNumbered u o.task with | some p => p.1 == t | none => false)
        && o.station < 64 && bitOf d o.station)).map (·.station)
      mine.foldl (fun m j => bitmap 32 (fun i => bitOf m i || bitOf (stationOuts s u j) i)) m) 0

/-- Periods whose outputs a drop-out discards are counted (R149). -/
def countDiscards (u : LoadUnit) (s : State) : State :=
  (List.range u.tasks.length).foldl (fun s t =>
    let d := droppedIn s t
    let hit := d != 0 && u.outs.any (fun o => (match taskNumbered u o.task with | some p => p.1 == t | none => false)
      && o.station < 64 && bitOf d o.station)
    if hit then s.updTask t (fun k => { k with discards := satTo 65535 (k.discards + 1) }) else s) s

/-! ### The release -/

/-- The group-owned traffic of the frame leaves in the order of R262. -/
def releaseTraffic (s : State) : State :=
  let s := match s.prog.active with
    | some u => releasePubs u s
    | none => s
  sendReports true (releaseReports s)

/-- The signature record of frame k goes to the peers. -/
def sendSignature (k : Nat) (s : State) : State :=
  match s.pair.ownSigs.find? (fun r => r.1 == k) with
  | some r => toPeers "SIGNATURE" (k :: s.get Reg.hhkTriadHeld :: r.2.flatMap (fun p => [p.1, p.2])) s
  | none => s

/-- The owner releases the frame's traffic; every other module sends what it owns itself. -/
def releaseFrame (s : State) : State :=
  let k := frameIndex s.now
  if s.pair.blocked then s
  else if s.held && s.pair.muted ≠ some k then
    let s := match s.prog.active with
      | some u => countDiscards u (s.updNet (fun x => { x with discards := discardsOf s u }))
      | none => s
    releaseTraffic s
  else sendReports false s

/-- OUTPUT_RELEASE: T0+215 us. -/
def execOutputRelease (s : State) : Out :=
  .next (
    if !s.time.ticked then s
    else
      let s := expireSubs (toPhase 215000 s)
      sendSignature (frameIndex s.now) (releaseFrame s))

/-! ### The confirmation of a claim (11 R339, 08 R264) -/

/-- The start claim of R336: the program starts under 04 R140. -/
def claimAtStart (s : State) : State :=
  let s := startSingletons (enterRole roleAlone (recordOwn 1 s))
  s.updProg (fun g => { g with autoStart := g.active.isSome && !g.stopPersisted })

/-- The gates of a module that has taken OWN open, and its claim takes effect by the role it began in. -/
def takeOwn (gapNs : Nat) (s : State) : State :=
  let from' := s.pair.claimFrom
  let back := s.pair.longQuiet
  let s : State := { s with pair := { s.pair with claiming := false } }
  let s := (s.setBit Reg.hhkPairStatusOwnHeld true).setBit Reg.hhkPairStatusOwnLine true
  let s := recordGap gapNs (gatesOpen (s.setBit Reg.sysRolePubMaster s.triad))
  let s := followPeers (if back then claimBack s
    else if from' = roleStandby then claimFromStandby s
    else claimAtStart s)
  showPmus (closeClients (showSending (showTriad s)))

/-- CLAIM_CONFIRM: 100 ns after the drive OWN is sensed low and the claim logic is HELD, or high and it has failed
(R339). The Bool operand is the sense, the number the no-owner interval in ns. A module that takes OWN at or after
T0+215 us releases the frame's traffic at once, with the sequence values the frame assigned (08 R264). -/
def execClaimConfirm (low : Bool) (gapNs : Nat) (s : State) : Out :=
  .next (
    if !s.pair.claiming then s
    else if low then
      let s := takeOwn gapNs s
      if s.time.ticked && decide (215000 ≤ s.now - s.t0) then releaseFrame s else s
    else
      let s := recordOwn 5 ({ s with pair := { s.pair with claiming := false } }.raise Ev.hhkPairOwnFault)
      fail 0x15 0xFF 0xFF false s)

end Sys2Proof.Machine
end

