-- ==== Sys2Proof/Machine/Snapshots.lean ====
section
/-! DEFINITION. The snapshot of a frame (11 R350-R353; 12 R380-R384): its freezing at the cut-off, its way to the peers,
and its selection for the next frame. -/

namespace Sys2Proof.Machine

/-! ### CUT_OFF (02 R62, 11 R350) -/

/-- A station of the unit that is MODULE-CONSISTENT and dropped keeps its last block (04 R134). -/
def heldBlock (s : State) (u : LoadUnit) (it : InItem) : Bool :=
  match stationOf u it.station with
  | some r => r.mode == 1 && bitOf s.dropped it.station
  | none => false

/-- The value of an input item's source as frozen at the cut-off of frame k. -/
def frozenValue (k : Nat) (rows : List BatchRow) (s : State) (it : InItem) : List Byte :=
  match it.srcKind with
  | 1 => asterItem s 1 it.srcRef
  | 2 => asterItem s 2 it.srcRef
  | 3 => lspItem s k it.srcRef
  | 4 => netItem s rows it
  | 5 => netItem s rows it
  | 9 => canItem s it.srcRef
  | n => fieldItem s n it.srcRef

/-- The source of an input item enters the snapshot once; a value that the spec leaves open is taken as a free one. -/
def freezeItem (k : Nat) (rows : List BatchRow) (u : LoadUnit) (p : List SnapItem × State) (it : InItem) :
    List SnapItem × State :=
  if it.srcKind = 0x0A ∨ p.1.any (sameSource it) then p
  else
    let s := p.2
    let kept := (s.prog.pool.items.find? (sameSource it)).map (·.value)
    let v := match heldBlock s u it, kept with
      | true, some b => b
      | _, _ => frozenValue k rows s it
    (p.1 ++ [⟨it.srcKind, it.srcRef, if it.srcKind = 4 then it.type else 0, v⟩], if it.srcKind = 4 then s.took else s)

/-- The sources that a snapshot holds whether or not an input item names them (11 R350): E(k), the Larkspur records, DI, AI,
DO and AO readback, FLD24 and the CAN RX objects; SRC_KIND and SRC_REF. -/
def snapSources (s : State) : List (Nat × Nat) :=
  let a := s.conf objAster
  let b := s.conf objLsp
  let c := s.conf objCan
  let sets := (List.range 64).filter (setEnabled a)
  ((List.range 192).filter (chEnabled a)).map (fun n => (1, n))
    ++ sets.map (fun j => (1, 256 + j)) ++ sets.map (fun j => (1, 512 + j)) ++ sets.map (fun j => (1, 768 + j))
    ++ ((List.range 8).filter (refEnabled a)).map (fun n => (2, n))
    ++ ((List.range 4).filter (grpUsed b)).map (fun n => (3, n))
    ++ ((List.range 8).filter (lineUsed b)).map (fun n => (3, 256 + n))
    ++ (List.range 16).map (fun n => (6, n)) ++ [(6, 256)]
    ++ (List.range 8).map (fun n => (7, n))
    ++ [(8, 0)] ++ (List.range 4).map (fun n => (8, 256 + n)) ++ [(8, 512)]
    ++ (List.range 2).flatMap (fun i => ((List.range 128).filter (fun o => canKind c i o == 1)).map (fun o => (9, 256 * i + o)))

/-- The sources of the snapshot that no input item has named join it. -/
def freezeRecords (k : Nat) (s : State) (l : List SnapItem) : List SnapItem :=
  let value (p : Nat × Nat) : List Byte :=
    match p.1 with
    | 1 | 2 => asterItem s p.1 p.2
    | 3 => lspItem s k p.2
    | 9 => canItem s p.2
    | n => fieldItem s n p.2
  l ++ ((snapSources s).filter (fun p => !l.any (fun i => i.kind == p.1 && i.ref == p.2))).map (fun p =>
    ⟨p.1, p.2, 0, value p⟩)

/-- The input blocks that no frame or sample of their own updates are as fresh as their station is alive (04 R131). -/
def ageStations (k : Nat) (u : LoadUnit) (s : State) : State :=
  s.updNet (fun x => { x with
    sinceFrame := u.stations.foldl (fun l r =>
      if bitOf s.dropped r.station then l else assocSet l r.station (k + 1)) x.sinceFrame })

/-- The stations of the unit alive; a bitmap. -/
def aliveNow (s : State) (u : LoadUnit) : Nat :=
  u.stations.foldl (fun m r => if bitOf s.dropped r.station then m else withBit m r.station true) 0

/-- A page of 4 KiB goes to the joiner (11 R360). -/
def sendPage (a : Nat) (s : State) : State := toPeers "RESYNC_PAGE" (a :: asNats (s.bytes a 4096)) s

/-- The pages of the live instance and code banks go to the joiner, with what the owner holds beside memory (11 R359, R360;
log entry 176). -/
def sendState (s : State) : State :=
  let pages (a n : Nat) : List Nat := (List.range n).map (fun i => a + 4096 * i)
  let all := (List.range 4).flatMap (fun e =>
    pages (peSramBase e + 0x200000 * s.prog.live) 512 ++ pages (peSramBase e + 0x400000 + 0x100000 * s.prog.live) 256)
  toPeers "RESYNC_STATE" [frameIndex s.now] (all.foldl (fun s a => sendPage a s) s)

/-- The joiner's first frame is named in the snapshot of a frame whose marked lines the owner has sent (11 R360). -/
def nameJoin (k : Nat) (s : State) : List (Nat × Named) × State :=
  if isOwner s && s.pair.joiner.isSome && s.get Reg.hhkPairResyncPhase == 2 && decide (s.pair.marked.length ≤ 256)
      && (lateLines s).isEmpty then
    let s : State := { s with pair := { s.pair with qFrame := some (k + 1) } }
    ([(k + 1, Named.join)], s.set Reg.hhkPairResyncPhase 3)
  else ([], s)

/-- What a resync sends after the snapshot, in the capacity that it leaves (11 R360): the state, and in the frames that
follow the marked lines that have not gone; those of error tasks go with the next frame's. -/
def sendResync (s : State) : State :=
  if !(isOwner s && s.pair.joiner.isSome) then s
  else if s.get Reg.hhkPairResyncPhase = 1 then sendState (s.set Reg.hhkPairResyncPhase 2)
  else if s.get Reg.hhkPairResyncPhase = 2 then
    let late := lateLines s
    let s := showLeft late.length (if s.pair.marked.length ≤ 256 then s else sendLines s)
    { s with pair := { s.pair with carry := late } }
  else s

/-- The named frames that a snapshot carries: those of the program, H of a handover, Q of a resync. -/
def namedFrames (s : State) (q : List (Nat × Named)) : List (Nat × Named) :=
  s.prog.named ++ (match s.pair.handover with | some h => [(h, Named.handover)] | none => []) ++ q

/-- The counts of SYS_DROP and SYS_REJECT by TASKS position. -/
def sysCounts (s : State) : List (Nat × Nat × Nat) :=
  ((List.range s.prog.tasks.length).zip s.prog.tasks).map (fun p => (p.1, p.2.drop, p.2.reject))

/-- The snapshot for frame k + 1 is frozen from what the parts of the module hold. -/
def freezeSnapshot (k : Nat) (s : State) : State :=
  let l := lspCutOff k s
  let r := freezeBatch k l.2
  let s := r.2
  let s := match s.prog.active with | some u => ageStations k u s | none => s
  let fr := match s.prog.active with
    | some u => u.ins.foldl (freezeItem k r.1 u) ([], s)
    | none => ([], s)
  let s := fr.2
  let q := nameJoin k s
  let s := q.2
  let sn : Snapshot := {
    frame := k + 1
    timeRec := timeRecord (k + 1) s.time.stepped s
    slewBack := decide (s.getInt Reg.timSlewRemRem < 0)
    named := namedFrames s q.1
    alive := match s.prog.active with | some u => aliveNow s u | none => 0
    ages := s.net.sinceFrame.map (fun p => (p.1, k + 1 - p.2))
    drops := s.net.wentDown
    returns := s.net.cameUp
    discards := s.net.discards
    ownerRole := s.role
    paired := anyStandby s
    mismatch := s.pair.lastMismatch
    moved := s.pair.moved
    batch := r.1
    items := freezeRecords k s fr.1
    reports := s.lsp.pend
    entered := l.1
    changes := s.prog.changes.filter (fun c => c.frame ≤ k + 1)
    counts := sysCounts s }
  let s := s.updNet (fun x => { x with changed := 0, wentDown := 0, cameUp := 0, stamps := [], discards := 0 })
  canTaken (s.updProg (fun g => { g with frozen := some sn }))

/-- The snapshot goes to the peers: from the owner of a pair to its standby or joiner, in a triad from every member
(11 R351, 12 R380). -/
def sendSnapshot (s : State) : State :=
  match s.prog.frozen with
  | none => s
  | some sn =>
    let from' := (s.held && (anyStandby s || s.pair.joiner.isSome || s.pair.handing))
      || (s.triad && inStep s (sn.frame - 1))
    if from' then toPeers "SNAPSHOT" (sn.frame :: asNats sn.timeRec ++ sn.items.flatMap (fun i => asNats i.value)) s
    else s

/-- The snapshot for frame k has been frozen. -/
def frozenFor (k : Nat) (s : State) : Bool := match s.prog.frozen with | some sn => sn.frame == k | none => false

/-- The cut-off of the frame in progress: its snapshot is frozen once. The lines that the error task has logged are in the
change bank by then (04 R144). -/
def cutOff (s : State) : State :=
  let s := expireSubs (toPhase 225000 s)
  let k := frameIndex s.now
  if frozenFor (k + 1) s then s
  else sendResync (sendSnapshot (freezeSnapshot k (catchUp (s.updSec (fun x => { x with keysUsed := x.keys })))))

/-- CUT_OFF: T0+225 us. A cut-off that a step skips does not occur (02 R62). -/
def execCutOff (s : State) : Out := .next (if !s.time.ticked then s else cutOff s)

/-! ### SNAPSHOT_FRAME (11 R351, R352) -/

/-- A segment joins the copy of its sender; the one with LAST tells how many there are (12 R371). -/
def keepPart (slot : Nat) (last : Bool) (seg : Nat) (part : Snapshot) (l : List (Nat × Nat × List (Nat × Snapshot))) :
    List (Nat × Nat × List (Nat × Snapshot)) :=
  let old := match l.find? (fun c => c.1 == slot) with | some c => c.2 | none => (0, [])
  (slot, if last then seg + 1 else old.1, old.2.filter (fun p => p.1 != seg) ++ [(seg, part)])
    :: l.filter (fun c => c.1 != slot)

/-- SNAPSHOT_FRAME: a segment of the snapshot for the next frame arrives; one for another frame, or at T1-3 us or later,
is discarded. -/
def execSnapshotFrame (h : HhkHdr) (part : Snapshot) (s : State) : Out :=
  .next (onFrame typeSnapshot h (fun s =>
    if part.frame ≠ frameIndex s.now + 1 || 247000 ≤ s.now - s.t0 then s
    else s.updProg (fun g => { g with copies := keepPart h.srcSlot (bitOf h.flags 0) h.segment part g.copies })) s)

/-! ### SNAPSHOT_SELECT (11 R352, 12 R382) -/

/-- The Larkspur records of a self-snapshot that changed in it carry SELF_BATCH (07 R240). -/
def selfItems (sn : Snapshot) : Snapshot :=
  { sn with items := sn.items.map (fun (i : SnapItem) =>
      if i.kind = 3 ∧ leAt i.value 24 2 = 0 then { i with value := selfBytes i.value } else i) }

/-- A snapshot fills the input pool of the next frame (04 R120): Aster takes its batch, Larkspur its records, and what
the owner's carries beside inputs takes effect. -/
def takeSnapshot (own self : Bool) (sn : Snapshot) (s : State) : State :=
  let sn := if self then selfItems sn else sn
  let s := s.updProg (fun g => { g with
    pool := sn, poolSelf := self, copies := []
    tasks := g.tasks.map (fun (k : TaskSt) => { k with
      changed := bitmap 64 (fun j => bitOf k.changed j || bitOf sn.drops j || bitOf sn.returns j) }) })
  let s := s.setBit Reg.hhkPairStatusSelfSnap self
  let s := lspTake own self sn (takeBatch sn.frame sn.batch self s)
  if own then s else adoptNamed sn (undoPubs sn.discards s)

/-- A self-snapshot frame of a standby (11 R352): counted, and the sixteenth in a row ends in SYNCING. -/
def selfFrame (s : State) : State :=
  let s : State := { s with pair := { s.pair with
    selfRun := s.pair.selfRun + 1, selfSnaps := s.pair.selfSnaps + 1 } }
  let s := s.raise Ev.hhkPairSelfSnapshot
  if 16 ≤ s.pair.selfRun then goSyncing s else s

/-- The run of self-snapshot frames is over. -/
def pairedFrame (s : State) : State := { s with pair := { s.pair with selfRun := 0 } }

/-- The contributions of a triad that a member holds, by rising rank (12 R382). -/
def contributions (own : Snapshot) (s : State) : List Contribution :=
  let mine : Contribution := ⟨s.get Reg.hhkPairStatusRank, s.held, own⟩
  let theirs := s.prog.copies.filterMap (fun c =>
    match findPeer c.1 s, completeCopy c with
    | some p, some sn => some (⟨p.rank, p.role == rolePrimary || p.role == roleAlone, sn⟩ : Contribution)
    | _, _ => none)
  (List.range 3).filterMap (fun r => (mine :: theirs).find? (fun c => c.rank == r))

/-- The agreement of a triad (12 R382-R384): the mask of contributions, the counts of R391, and the agreed snapshot. A
single contribution makes a self-snapshot frame. -/
def agreeTriad (own : Snapshot) (s : State) : State :=
  let l := contributions own s
  let s := s.set Reg.hhkTriadHeld (l.foldl (fun m c => withBit m c.rank true) 0)
  let s := s.raiseIf (decide (l.length < 3)) Ev.hhkPartial
  if l.length < 2 then
    let s := takeSnapshot true (!s.held) own s
    if s.held then pairedFrame s else selfFrame s
  else
    let base := match baseOf l with | some c => c.snap | none => own
    let mine := (own.entered.filter (fun r => !r.remote)).length
    let q := (s.get Reg.lspLastSeqSeq + 2 ^ 32 - mine) % 2 ^ 32
    let a := agreeSnapshots s.prog.pool.alive q s.ast.kept s.lsp.kept base l
    let s := if differ l then s.bump Reg.hhkAgreeDiffCnt else s
    let s := s.set Reg.hhkAgreePendingCnt (satTo 65535 (s.get Reg.hhkAgreePendingCnt + a.rows.length + a.reports.length))
    let s : State := { s with ast := { s.ast with kept := a.rows }, lsp := { s.lsp with kept := a.reports } }
    let n := (a.snap.entered.filter (fun r => !r.remote)).length
    let s := pairedFrame (takeSnapshot false false a.snap s)
    s.set Reg.lspLastSeqSeq ((q + n) % 2 ^ 32)

/-- The frame follows the owner's snapshot: of a standby, and of an owner that has released OWN for a planned handover
(11 R347, R352). -/
def followsOwner (s : State) : Bool :=
  s.role == roleStandby || (!s.held && (s.role == rolePrimary || s.role == roleAlone))

/-- What the role selects for frame k + 1. -/
def selectSnapshot (own : Snapshot) (s : State) : State :=
  if s.triad && (s.role == rolePrimary || s.role == roleStandby || s.role == roleAlone) then agreeTriad own s
  else if followsOwner s then
    match ownerCopy s with
    | some sn => pairedFrame (takeSnapshot false false sn s)
    | none => selfFrame (takeSnapshot true true own s)
  else if s.role = roleSyncing then
    match ownerCopy s with
    | some sn => takeSnapshot false false sn s
    | none => s
  else if s.role = roleAloneStandby then takeSnapshot true true own s
  else pairedFrame (takeSnapshot true false own s)

/-- SNAPSHOT_SELECT: T1-3 us. -/
def execSnapshotSelect (s : State) : Out :=
  .next (
    if !s.time.ticked then s
    else
      let s := toPhase 247000 s
      match s.prog.frozen with
      | some own => if own.frame = frameIndex s.now + 1 then selectSnapshot own s else s
      | none => s)

end Sys2Proof.Machine
end

