-- ==== Sys2Proof/Machine/Arrivals.lean ====
section
/-! DEFINITION. Inputs that arrive from the networks with their instant (06 R187, 07 R235, 08 R269, R274, 10 R315). One that arrives
at or after the cut-off of its frame belongs to the later snapshot (01 R35, 02 R62). -/

namespace Sys2Proof.Machine

/-- The counter runs to an arrival; where the cut-off of the frame in progress lies on the way, or has passed without
its command, the cut-off falls first (01 R35, R36, 02 R62). -/
def arrive (t : Nat) (s : State) : State :=
  advanceTo t (if s.time.ticked && decide (s.t0 + 225000 ≤ t) then cutOff s else s)

/-- A frame fails authentication (08 R272): its MAC fails, or its key is unknown or outside its validity period. -/
def authFails (s : State) (auth keyId : Nat) : Bool := auth == 2 || (auth == 1 && !authKey s keyId)

/-- SV_FRAME_RX (R187): a frame whose authentication fails is discarded by the network engine (08 R272); one that
differs from its record is rejected. -/
def execSvFrameRx (f : SvFrame) (s : State) : Out :=
  .next (
    let r := takeIn f.inn .other (arrive f.arrival s)
    let s := r.2
    if !r.1 then s
    else if authFails s f.auth f.keyId then (s.bump (Reg.netPortRxAuthCnt f.inn.port)).raise Ev.netAuthFail
    else match svStream s f with
      | none => s
      | some n =>
        if svAgrees (s.conf objAster) n f then takeSv n f s else rejectSv n s)

/-- STREAM_LOST (R191): no usable sample for LOST_FRAMES frames, counted from the nominal instant of the last one. -/
def execStreamLost (n : Nat) (s : State) : Out :=
  .next (
    if !streamAligned s n || 24 ≤ n then s
    else
      let s := arrive ((s.str n).lastNom + strLostFrames (s.conf objAster) n * frameNs) s
      let s := s.updStr n (fun k => { k with run := 0 })
      reviewStations (showAligned ((s.set (Reg.astStrState n) strLost).raise Ev.astStreamLost)))

/-- GOOSE_FRAME_RX (R269, R272). -/
def execGooseFrameRx (f : GooseFrame) (s : State) : Out :=
  .next (
    let r := takeIn f.inn .other (arrive f.arrival s)
    let s := r.2
    let b := s.conf objNet
    if !r.1 then s else
    let sub := findSub b f
    let need := match sub with | some i => bitOf (gsubFlags b i) 1 | none => false
    if authFails s f.auth f.keyId || (f.auth == 0 && need) then authFailed f.inn.port sub s
    else match sub with
      | none => s
      | some i =>
        let okSim := !(f.sim || f.test) || bitOf (gsubFlags b i) 0
        if gsubAddressed b f i && gsubAgrees b f i && f.members.length == gsubCount b i && gsubTyped s f i && okSim then acceptGoose i f s
        else (s.bump (Reg.netGsubRejectCnt i)).raise Ev.netSubReject)

/-- GOOSE_TAL_EXPIRY: the time allowed to live of a subscription is over (R274, R275). -/
def execGooseTalExpiry (i : Nat) (s : State) : Out :=
  .next (
    if 128 ≤ i || !s.on (Reg.netGsubAlive i) then s
    else reviewStations ((arrive ((s.gsub i).expiry + 1) s).setBit (Reg.netGsubAlive i) false))

/-- RGOOSE_REPORT_RX (R235, R236): a datagram to the DST_IP of no subscription of its port is not Larkspur's (log entry
169); a report that fails its MAC, differs from every subscription record or carries the
test flag is rejected; one already held is discarded; any other keeps its subscription alive and waits for a snapshot. -/
def execRgooseReportRx (x : RgReport) (s : State) : Out :=
  .next (
    let r := takeIn x.inn .other (expireSubs (arrive x.arrival s))
    let s := r.2
    let b := s.conf objLsp
    let addressed (i : Nat) : Bool :=
      lspOn b && subEnabled b i && onPort (s.conf objNet) (subPorts b i) x.inn.port && subDstIp b i == x.dstIp
    if !r.1 || !(List.range 8).any addressed then s
    else match (List.range 8).find? (fun i => addressed i && subAppid b i == x.appid && subSrcIp b i == x.srcIp
        && subRef b i == (x.ref ++ zeros 32).take 32) with
    | none => s.raise Ev.lspRemoteReject
    | some i =>
      let macOk := x.macOk && subKey b i == x.keyId && keyInUse s 1 x.keyId
      let s := s.setBit (Reg.lspSubAuthFail i) (!macOk)
      if !macOk || x.test then s.raise Ev.lspRemoteReject
      else
        let s := s.updLsp (fun l => { l with subUntil := listSet l.subUntil i (fun _ => x.arrival + x.tal * 1000000) })
        let s := reviewStations (s.setBit (Reg.lspSubAlive i) true)
        let key := (x.rep.term, x.rep.seq)
        if x.heartbeat || s.lsp.seen.contains key then s
        else
          (s.bump (Reg.lspSubReports i)).updLsp (fun l => { l with
            seen := key :: l.seen.take 255, waiting := l.waiting ++ [{ x.rep with remote := true, src := i }] }))

/-- WAVEFRONT_DETECT: CONFIRM samples from number n of lane frame k on reach the threshold (R228): the onset is fitted,
and an armed group opens an event or enters a reflection. `lanes` are the pairs that have come on the group's three lanes
since the last lane frame. -/
def execWavefrontDetect (g k n : Nat) (lanes : List (List LanePair)) (s : State) : Out :=
  .next (
    if 4 ≤ g || !s.on (Reg.lspGrpArmed g) || s.lsp.dets.any (fun x => x.1 == (g, k, n)) then s
    else match detectAt s g k n lanes with
      | some d => takeDetection k n d (arrive d.raw s)
      | none => s)

/-- EVENT_CLOSE: an open event reaches the instant at which it closes (R229). -/
def execEventClose (g : Nat) (s : State) : Out :=
  .next (
    match s.lsp.opens.getD g none with
    | none => s
    | some e =>
      let s := arrive e.close s
      match s.lsp.opens.getD g none with
      | some e => closeEvent g e s
      | none => s)

/-- RGOOSE_RETRANSMIT: the latest report is sent again when it is due, where the publisher runs (R234). -/
def execRgooseRetransmit (s : State) : Out :=
  .next (
    match s.lsp.last with
    | some r =>
      if s.on Reg.lspStatusPublishing then
        let s := arrive s.lsp.retxAt s
        retransmit (s.lsp.last.getD r) s
      else s
    | none => s)

/-- RECORD_COMPLETE: the open record that ends first is captured (R243, R245). -/
def execRecordComplete (s : State) : Out :=
  .next (
    match firstRecord s with
    | none => s
    | some r =>
      let s := arrive r.stop s
      match s.lsp.recs.find? (fun x => x == r) with
      | some r => captureRecord r s
      | none => s)

/-- CAN_FRAME_RX: a controller in CLASSICAL mode that sees an FD frame enters the protocol exception state and
integrates again (R312); a destroyed frame counts its error; any other is received. Each is logged (R317; log entry 196). One whose SOF lies at or after the cut-off
belongs to the later snapshot (R315). -/
def execCanFrameRx (c : Nat) (f : CanFrame) (s : State) : Out :=
  .next (
    let s := arrive f.sof s
    if 2 ≤ c || !canOnBus c s then s
    else if bitOf f.flags 1 && !canFd (s.conf objCan) c then
      canLog c f.sof 0 (f.flags % 4) f.id 0xFF 0 0xFFFF []
        ((s.updCan c (fun k => { k with integrating := true })).raise (evPex c))
    else if f.err ≠ 0 then
      let was := s.get (Reg.canCtrlState c)
      let s := recAfterFrame c f (countErr c f.err s)
      afterErr c was (canLog c f.sof 0 (f.flags % 32) f.id 0xFF (if f.err ≤ 5 then f.err else 0) 0xFFFF f.data s)
    else takeFrame c f s)

end Sys2Proof.Machine
end

