-- ==== Sys2Proof/Machine/Backup.lean ====
section
/-! DEFINITION. The backup domain's commands (18): trim, alarm, weekday, park, thermal restart, backup bytes, supply. -/

namespace Sys2Proof.Machine

/-- Ticks of 1/32 768 s nearest to an instant in ns. -/
def ticksNear (t : Nat) : Nat := (t * 32768 + nsPerS / 2) / nsPerS

/-- The backup counter in ns, its elapsed part of a tick included. -/
def State.bkdNs (s : State) : Nat := (s.bkdTicks * nsPerS + s.bkd.phase) / 32768

/-- Records the signed phase error of a trim in us; an error the 16-bit field cannot hold reads as a free value (R500,
log entry 10). -/
def recordPhase (us : Int) (s : State) : State :=
  if us.natAbs ≤ 32767 then s.setInt Reg.bkdTrimPhaseErrUs us
  else (s.set Reg.bkdTrimPhaseErrUs s.fresh).took

/-- Every 64 trims RATE is set from the tick corrections of those 64 s, within 127 steps either way (R500). -/
def trimCount (moved : Int) (s : State) : State :=
  let s : State := { s with bkd := { s.bkd with trims := s.bkd.trims + 1, ticks := s.bkd.ticks + moved } }
  if 64 ≤ s.bkd.trims then
    let r := Config.trimRate (s.getInt Reg.bkdTrimRate) s.bkd.ticks
    let r : Int := if r < -127 then -127 else if 127 < r then 127 else r
    ({ s with bkd := { s.bkd with trims := 0, ticks := 0 } } : State).setInt Reg.bkdTrimRate r
  else s

/-- The TIME cycle in which the counter first reaches or passes a whole second (R500, 02 R60). -/
def atWholeSecond (s : State) : Bool := decide (s.now % nsPerS * 4294967296 + s.time.frac < cycleStep s)

/-- The whole second last reached by TIME, in ns. -/
def State.wholeSecond (s : State) : Nat := s.now / nsPerS * nsPerS

/-- BKD_TRIM (R500): at a whole second with valid time the counter is set to the TIME counter to within half a tick;
TRIM_STEP tells of a change of SECONDS or of more than one tick, and TIME_LOST clears. -/
def execBkdTrim (s : State) : Out :=
  .next (
    if !s.on Reg.timStatusValid || !atWholeSecond s then s
    else
      let err : Int := ((s.bkdNs : Int) - s.wholeSecond) / 1000
      let old := s.bkdTicks
      let new := if err.natAbs < 16 then old else ticksNear s.wholeSecond
      let moved : Int := (new : Int) - old
      let step : Bool := old / 32768 != new / 32768 || 1 < moved.natAbs
      let s := recordPhase err s
      let s : State := { bkdMove new s with bkd := { s.bkd with trimAt := s.mono + 1, phase :=
        if moved = 0 then s.bkd.phase else 0 } }
      let s := (trimCount moved s).raiseIf step Ev.bkdTrimStep
      (s.setBit Reg.bkdStatusTimeLost false).setBit Reg.bkdStatusTrimmed true)

/-- BKD_ALARM_FIRE (R504): a crystal tick brings the counter to ALARM with FRAC 0. -/
def execBkdAlarmFire (s : State) : Out :=
  .next (
    if s.on Reg.bkdAlarmHiArm && s.bkdTicks < s.bkdAlarm * 32768 then
      bkdAdvance (s.bkdAlarm * 32768 - s.bkdTicks) s
    else s)

/-- WEEKDAY_ADVANCE (R503): the tick that brings (SECONDS + WD_OFFSET) mod 86 400 to 0. -/
def execWeekdayAdvance (s : State) : Out :=
  .next (
    let ofs := s.get Reg.bkdWdWdOffset
    let next := ((s.bkdSeconds + ofs) / 86400 + 1) * 86400 - ofs
    bkdAdvance (next * 32768 - s.bkdTicks) s)

/-- A write of BKD_ALARM_HI (R504): ALARM [47:32], WAKE and ARM are set together; armed at or after ALARM it fires at
once with SKIPPED. -/
def writeAlarmHi (value : Nat) (s : State) : State :=
  let s := (s.set Reg.bkdAlarmHiAlarmHi value).setBit Reg.bkdAlarmHiWake (bitOf value 30)
  let s := s.setBit Reg.bkdAlarmHiArm (bitOf value 31)
  if bitOf value 31 && s.bkdAlarm * 32768 ≤ s.bkdTicks then fireAlarm true s else s

/-- BKD_ALARM_HI_WRITE. -/
def execBkdAlarmHiWrite (value : Nat) (s : State) : Out := .next (writeAlarmHi value s)

/-- A write of BKD_ALARM_LO: ALARM [31:0] is set and ARM clears (R504). -/
def writeAlarmLo (value : Nat) (s : State) : State :=
  (s.set Reg.bkdAlarmLoAlarmLo value).setBit Reg.bkdAlarmHiArm false

/-- BKD_ALARM_LO_WRITE. -/
def execBkdAlarmLoWrite (value : Nat) (s : State) : Out := .next (writeAlarmLo value s)

/-- A write of BKD_WD: the weekday, and WD_OFFSET unless it is above 86 399 (R503). -/
def writeWd (value : Nat) (s : State) : State :=
  let s := s.set Reg.bkdWdWd value
  let o := value / 8 % 131072
  if o ≤ 86399 then s.set Reg.bkdWdWdOffset o else s

/-- BKD_WD_WRITE. -/
def execBkdWdWrite (value : Nat) (s : State) : Out := .next (writeWd value s)

/-- A PARK write: refused while OWN is held; from ON it makes the park pending, and firmware flushes NAND within its
2 s (R506, R507). -/
def writePark (s : State) : State :=
  if s.held then s.raise Ev.bkdParkRefused
  else if s.get Reg.bkdPwrState = 0 then
    let s := (s.set Reg.bkdPwrState 1).setBit Reg.bkdStatusParkPending true
    writeBackup 2 [1#8] (flushNand { s with bkd := { s.bkd with parkAt := s.mono } })
  else s

/-- PARK. -/
def execPark (s : State) : Out := .next (writePark s)

/-- PARK_TIMEOUT: 2 s after an accepted park SYS_PWRON is pulled low (R507). -/
def execParkTimeout (s : State) : Out :=
  .next (
    if s.get Reg.bkdPwrState = 1 && decide (s.bkd.parkAt + 2 * nsPerS ≤ s.mono) then
      convOff ((s.set Reg.bkdPwrState 2).set Reg.bkdPwrLastOff 1)
    else s)

/-- THERMAL_RESTART (R507): from THERMAL, where THERM_RESTART is 1 and fewer than 3 restarts fell in 24 h; the restart
is entered in the backup bytes. -/
def execThermalRestart (s : State) : Out :=
  .next (
    let n := thermalRestarts s
    if s.get Reg.bkdPwrState = 3 && s.on Reg.bkdPwrThermRestart && n < 3 then
      let old := (s.backup.drop 28).take 8
      let s := writeBackup 28 (leBytes 4 s.bkdSeconds ++ old) s
      ((s.set Reg.bkdPwrState 0).set Reg.bkdPwrWakeCause 3).set Reg.bkdPwrThermCnt (n + 1)
    else s)

/-- BKD_BYTES_WRITE (R508): the SEC ROM or Utlos writes bytes; BKD_BYTES_CRC follows in the same cycle. -/
def execBkdBytesWrite (offset : Nat) (data : List Byte) (s : State) : Out := .next (writeBackup offset data s)

/-- INIT of the backup bytes: every byte is 0 and BYTES_OK is set (R508). -/
def bytesInit (s : State) : State :=
  (putBackup (zeros 64) { s with bkd := { s.bkd with dipped := false } }).setBit Reg.bkdStatusBytesOk true

/-- BKD_BYTES_INIT. -/
def execBkdBytesInit (s : State) : Out := .next (bytesInit s)

/-- SUPPLY_CHANGE (R509): the source is main at or above 2.9 V, else BKUP_IN at or above 2.4 V, else the cell; a switch
sets SUPPLY_CHANGE. -/
def execSupplyChange (mainMv bkupMv cellMv : Nat) (s : State) : Out :=
  .next (
    let src := if 2900 ≤ mainMv then 0 else if 2400 ≤ bkupMv then 1 else 2
    let was := s.get Reg.bkdStatusSupply
    let s := (s.set Reg.bkdSupplyCellMv cellMv).set Reg.bkdSupplyBkupMv bkupMv
    (s.set Reg.bkdStatusSupply src).raiseIf (src != was) Ev.bkdSupplyChange)

/-- BKD_DIP (R511): V_BKD below 1.80 V sets TIME_LOST in status and event and clears BYTES_OK. -/
def execBkdDip (s : State) : Out :=
  .next (
    let s : State := { s with bkd := { s.bkd with dipped := true } }
    ((s.setBit Reg.bkdStatusTimeLost true).setBit Reg.bkdStatusBytesOk false).raise Ev.bkdTimeLost)

/-- CELL_LOW (R512): the supercapacitor falls below 2.2 V while it is selected. -/
def execCellLow (s : State) : Out :=
  .next (s.raiseIf (s.get Reg.bkdStatusSupply == 2 && decide (s.get Reg.bkdSupplyCellMv < 2200)) Ev.bkdCellLow)

/-- Every register of one block at its Reset column. -/
def resetBlock (b : Nat) (s : State) : State := { s with regs := s.regs.filter (fun r => r.1 / 0x10000 != b) }

/-- BKD_POWER_ON (R498, R499): after every source was absent the backup registers are at their Reset column, the
counter is 0 and TIME_LOST is set. -/
def execBkdPowerOn (s : State) : Out := .next { (resetBlock 14 s) with bkd := {} }

end Sys2Proof.Machine
end

