-- ==== Sys2Proof/Machine/Hollyhock.lean ====
section
/-! DEFINITION. Hollyhock lanes, keys and delay measurement (12 R369-R376). -/

namespace Sys2Proof.Machine

/-- Lane states of HHKp_LINK (R391). -/
def laneDown : Nat := 0
def laneTrain : Nat := 1
def laneCheck : Nat := 2
def laneReady : Nat := 3
def laneUp : Nat := 4

/-- The state field of a lane. -/
def laneFld (p l : Nat) : Fld := if l = 0 then Reg.hhkpLinkLane0State p else Reg.hhkpLinkLane1State p

/-- Lanes of a port that are UP. -/
def lanesUp (s : State) (p : Nat) : Nat :=
  (if s.get (laneFld p 0) = laneUp then 1 else 0) + (if s.get (laneFld p 1) = laneUp then 1 else 0)

/-- HHK_STATUS shows the lanes UP and the degraded ports (R369, R391). -/
def showLanes (s : State) : State :=
  let up := (List.range 4).foldl (fun m i => if s.get (laneFld (i / 2) (i % 2)) = laneUp then m + 2 ^ i else m) 0
  let deg := (List.range 2).foldl (fun m p => if lanesUp s p = 1 then m + 2 ^ p else m) 0
  (s.set Reg.hhkStatusLaneUp up).set Reg.hhkStatusDegraded deg

/-- Moves a lane from one state to another, where it is in the first. -/
def laneMove (p l before after : Nat) (s : State) : State :=
  if s.get (laneFld p l) = before then showLanes (s.set (laneFld p l) after) else s

/-- LANE_TRAIN_COMPLETE: block lock and a converged equaliser lead to CHECK, or 10 ms without them to DOWN. -/
def execLaneTrainComplete (port lane : Nat) (converged : Bool) (s : State) : Out :=
  .next (laneMove port lane laneTrain (if converged then laneCheck else laneDown) s)

/-- LANE_CHECK_COMPLETE: 1 s without an errored block makes the lane READY. -/
def execLaneCheckComplete (port lane : Nat) (s : State) : Out := .next (laneMove port lane laneCheck laneReady s)

/-- LANE_ERRORED_BLOCK: an errored block in CHECK returns the lane to TRAIN; it is counted in any state. -/
def execLaneErroredBlock (port lane : Nat) (s : State) : Out :=
  .next (laneMove port lane laneCheck laneTrain (s.bump (Reg.hhkpErrBlockErrCnt port)))

/-- LANE_LOST: a lane that is UP goes DOWN; the frames in flight on the port are lost, and with its last lane the port
is lost too (R369, R370, 11 R357). -/
def execLaneLost (port lane inFlight : Nat) (s : State) : Out :=
  .next (
    if s.get (laneFld port lane) ≠ laneUp then s
    else
      let s := (laneMove port lane laneUp laneDown s).raise Ev.hhkLaneLost
      let s := s.bump (Reg.hhkpErrLostFrameCnt port) inFlight
      if lanesUp s port = 0 ∧ bitOf (s.get Reg.hhkPairStatusHhkUp) port then
        (portUp port false s).raise Ev.hhkPairHhkLost
      else s)

/-- LANE_RETRAIN: 1 ms after entering DOWN an enabled lane trains again. -/
def execLaneRetrain (port lane : Nat) (s : State) : Out :=
  .next (if s.hhk.enabled.getD port false then laneMove port lane laneDown laneTrain s else s)

/-- LANE_REBOND: between T0+100 us and T0+102 us a READY lane joins its port (R370). -/
def execLaneRebond (port lane : Nat) (s : State) : Out :=
  .next (
    if s.get (laneFld port lane) = laneReady then
      (laneMove port lane laneReady laneUp (toPhase 100000 s)).raise Ev.hhkLaneBack
    else s)

/-! ### Keys (R373, 16 R456) -/

/-- The slot of a last counter's key, and whether it is under the previous key. -/
def ctrSlot (k : Nat) : Nat := k % 64
def ctrOld (k : Nat) : Bool := 128 ≤ k

/-- The last counters after the keys of the given members are renewed: theirs move to the previous keys. -/
def renewedCtrs (slots : List Nat) (l : List (Nat × Nat)) : List (Nat × Nat) :=
  (l.filter (fun (p : Nat × Nat) => !(slots.contains (ctrSlot p.1) && ctrOld p.1))).map
    (fun (p : Nat × Nat) => if slots.contains (ctrSlot p.1) then (p.1 + 128, p.2) else p)

/-- New Hollyhock keys with the members of the given slots come into use: KEY_EPOCH advances, the counters of the ports that
face them restart, and their previous keys are accepted for 1 ms (R373). -/
def newKeys (slots : List Nat) (s : State) : State :=
  let facing (p : Nat) : Bool := slots.contains (facedSlot s p)
  let ok := (List.range 2).foldl (fun m p => if facing p then withBit m p true else m) (s.get Reg.hhkStatusKeyOk)
  let s := { s with hhk := { s.hhk with
    oldKeys := s.hhk.oldKeys.filter (fun (p : Nat × Nat) => !slots.contains p.1) ++ slots.map (fun x => (x, s.mono))
    txCtr := (List.range 2).map (fun (p : Nat) => if facing p then 0 else s.hhk.txCtr.getD p 0)
    keyMsgs := s.hhk.keyMsgs.filter (fun x => !slots.contains x)
    lastCtr := renewedCtrs slots s.hhk.lastCtr } }
  let s := (s.set Reg.hhkStatusKeyEpoch (s.get Reg.hhkStatusKeyEpoch + 1)).set Reg.hhkStatusKeyOk ok
  s.raise Ev.secKeyRotated

/-- The slots of the other members: those that the ports face. -/
def otherSlots (s : State) : List Nat :=
  if facedSlot s 0 = facedSlot s 1 then [facedSlot s 0] else [facedSlot s 0, facedSlot s 1]

/-- All keys are renewed. -/
def renewKeys (s : State) : State := newKeys (otherSlots s) (toPeers "KEY" [s.get Reg.hhkStatusKeyEpoch + 1] s)

/-- A peer's key message passes R456: its chain reaches the manufacturing CA digest, and its slot is a member's. -/
def peerTrusted (slot : Nat) (chain : List Byte) (s : State) : Bool :=
  s.sec.members.contains slot && Config.peerChainOk s.sec.mfgCa chain

/-- A check of R456 fails: the owner refuses the JOIN, or the joiner stays in role none. -/
def keyRefused (slot : Nat) (s : State) : State :=
  if s.pair.joiner = some slot then
    refuseJoin slot (reviewOwner (dropPeer slot (peerRole slot roleNone
      ({ s with pair := { s.pair with joiner := none } }.set Reg.hhkPairResyncPhase 0))))
  else joinAnswered false s

/-- KEY: a key agreement message of the security island arrives. One that opens an agreement is answered; with the last
one the keys are derived. -/
def execKey (h : HhkHdr) (chain : List Byte) (final : Bool) (s : State) : Out :=
  .next (onFrame typeKey h (fun s =>
    if !peerTrusted h.srcSlot chain s then keyRefused h.srcSlot s
    else
      let s : State := { s with hhk := { s.hhk with keyMsgs := s.hhk.keyMsgs ++ [h.srcSlot] } }
      if final then newKeys [h.srcSlot] s else toMember h.srcSlot "KEY" [s.get Reg.hhkStatusKeyEpoch + 1] s) s)

/-- KEY_RENEWAL: a frame counter approaches 2^48 and the keys are renewed (R373). -/
def execKeyRenewal (s : State) : Out := .next (renewKeys s)

/-- OLD_KEY_EXPIRY: 1 ms after a renewal the previous keys that it replaced, the oldest still accepted, are so no longer. -/
def execOldKeyExpiry (s : State) : Out :=
  .next (
    match s.hhk.oldKeys with
    | [] => s
    | (_, t) :: _ =>
      let l := s.hhk.oldKeys.filter (fun (p : Nat × Nat) => p.2 != t)
      { s with hhk := { s.hhk with
        oldKeys := l
        lastCtr := s.hhk.lastCtr.filter (fun (p : Nat × Nat) => !ctrOld p.1 || l.any (fun (q : Nat × Nat) => q.1 == ctrSlot p.1)) } })

/-! ### Delay and offset (R375) -/

/-- Inserts into a rising list. -/
def insertInt (x : Int) : List Int → List Int
  | [] => [x]
  | y :: r => if x ≤ y then x :: y :: r else y :: insertInt x r

/-- The median of the values: the middle one of an odd number, the mean of the middle two, rounded down, of an even
number (log entry 22). -/
def medianInt (l : List Int) : Int :=
  let m := l.foldl (fun r x => insertInt x r) []
  let n := m.length
  if n % 2 = 1 then m.getD (n / 2) 0 else (m.getD (n / 2 - 1) 0 + m.getD (n / 2) 0) / 2

/-- DELAY_REQ: the port sends its request of the millisecond, whose stamp t1 is its departure, or answers one that has
arrived with the stamps t2 and t3 of arrival and departure, in ps. -/
def execDelayReq (port : Nat) (rx : Option HhkHdr) (arrived departed : Nat) (s : State) : Out :=
  .next (
    match rx with
    | none =>
      if portWired s port then
        toPort port "DELAY_REQ" [] { s with hhk := { s.hhk with
          reqAt := listSet s.hhk.reqAt port (fun _ => departed) } }
      else s
    | some h => onFrame typeDelayReq h (fun s => toPort h.port "DELAY_RESP" [arrived, departed] s) s)

/-- All exchanges agree with one another within 1 ns in delay. -/
def exchangesAgree (l : List Exchange) : Bool := l.all (fun a => l.all (fun b => (a.delay - b.delay).natAbs ≤ 1000))

/-- Takes an exchange of a port into the medians (R375): a jump of more than 1 ns sets DELAY_JUMP, and offsets are not
applied until 16 exchanges agree. Times are in ps. -/
def takeExchange (p : Nat) (e : Exchange) (s : State) : State :=
  let old := s.hhk.exch.getD p []
  let new := (e :: old).take 16
  let d0 := medianInt (old.map (·.delay))
  let d1 := medianInt (new.map (·.delay))
  let jump : Bool := !old.isEmpty && 1000 < (d1 - d0).natAbs
  let hold : Bool := (s.hhk.holdOfs.getD p false || jump) && !(new.length == 16 && exchangesAgree new)
  let s : State := { s with hhk := { s.hhk with
    exch := listSet s.hhk.exch p (fun _ => new), holdOfs := listSet s.hhk.holdOfs p (fun _ => hold) } }
  let s := s.raiseIf jump Ev.hhkDelayJump
  let s := s.set (Reg.hhkpDelayDelayPs p) d1.toNat
  if hold then s else s.setInt (Reg.hhkpOffsetOffsetPs p) (medianInt (new.map (·.offset)))

/-- A member that steers by source 7 follows the median offset of its port that faces the group time leader, in ns (02
R65, R375). -/
def steerBySeven (p : Nat) (s : State) : State :=
  if s.get Reg.timStatusSource ≠ 7 || s.time.leaderSlot != some (facedSlot s p) || s.hhk.holdOfs.getD p false then s
  else
    let o := s.getInt (Reg.hhkpOffsetOffsetPs p) / 1000
    refreshQuality (servo o (s.setInt Reg.timOffsetOfs o))

/-- DELAY_RESP: with t1 to t4 in ps, delay and offset are computed and the medians updated. -/
def execDelayResp (h : HhkHdr) (t1 t2 t3 t4 : Int) (s : State) : Out :=
  .next (onFrame typeDelayResp h (fun s =>
    steerBySeven h.port
      (takeExchange h.port ⟨((t4 - t1) - (t3 - t2)) / 2, ((t2 - t1) - (t4 - t3)) / 2⟩ s)) s)

end Sys2Proof.Machine
end

