-- ==== Sys2Proof/Machine/Power.lean ====
section
/-! DEFINITION. Feeds, seating, temperature, rails and clocks (19). -/

namespace Sys2Proof.Machine

/-- Feed states of PWR_STATUS (R513). -/
def feedAbsent : Nat := 0
def feedIsGood : Nat := 1
def feedOverV : Nat := 2
def feedQualifying : Nat := 3

/-- The state field of feed A (0) or B (1). -/
def feedFld (f : Nat) : Fld := if f = 0 then Reg.pwrStatusFeedA else Reg.pwrStatusFeedB

/-- A feed counts as GOOD, QUALIFYING included (R513). -/
def feedOk (s : State) (f : Nat) : Bool := s.get (feedFld f) == feedIsGood || s.get (feedFld f) == feedQualifying

/-- Both feeds are not GOOD (R515): POWER_FAIL, FAILED with class 0x1D, and LAST_OFF 3; a module that is PARKED or in
THERMAL is off already (18 R507). -/
def powerFail (s : State) : State :=
  let s : State := { s with pwr := { s.pwr with switchA := false, switchB := false } }
  let s := s.raise Ev.pwrPowerFail
  if 2 ≤ s.get Reg.bkdPwrState then s else fail 0x1D 0xFF 0xFF true (s.set Reg.bkdPwrLastOff 3)

/-- Connects feed A; a qualifying A is GOOD at once (R514). -/
def carryA (s : State) : State :=
  let s : State := { s with pwr := { s.pwr with switchA := true, switchB := false } }
  (s.set Reg.pwrStatusFeedA feedIsGood).set Reg.pwrStatusCarrying 0

/-- Connects feed B (R514). -/
def carryB (s : State) : State :=
  { s with pwr := { s.pwr with switchA := false, switchB := true } }.set Reg.pwrStatusCarrying 1

/-- A feed has left GOOD: the other takes the load at once, or POWER_FAIL is declared (R514, R515). -/
def feedLeft (f state : Nat) (s : State) : State :=
  let was := feedOk s f
  let s := (s.set (feedFld f) state).raiseIf was (if f = 0 then Ev.pwrFeedALost else Ev.pwrFeedBLost)
  if !was then s
  else if feedOk s (1 - f) then (if f = 0 then carryB s else carryA s)
  else powerFail s

/-- The measured voltage of a feed is shown (R532). -/
def feedVolts (f mv : Nat) (s : State) : State := s.set (if f = 0 then Reg.pwrFeedaMv else Reg.pwrFeedbMv) mv

/-- FEED_LOST: below 17 V for 2 us. -/
def execFeedLost (feed mv : Nat) (s : State) : Out := .next (feedLeft feed feedAbsent (feedVolts feed mv s))

/-- FEED_OV: above 34 V for 2 us. -/
def execFeedOv (feed mv : Nat) (s : State) : Out :=
  .next (feedLeft feed feedOverV ((feedVolts feed mv s).raise Ev.pwrFeedOv))

/-- A feed becomes GOOD: feed A qualifies while B carries, otherwise a feed is connected at once where the other is not
GOOD (R513, R514). -/
def feedBack (f : Nat) (s : State) : State :=
  if feedOk s f then s
  else if f = 0 then
    if feedOk s 1 then s.set Reg.pwrStatusFeedA feedQualifying else carryA s
  else
    let s := s.set Reg.pwrStatusFeedB feedIsGood
    if feedOk s 0 then s else carryB s

/-- FEED_GOOD: 18 V or more, which ends ABSENT; OV ends by FEED_OV_CLEAR; from PARKED with WAKE_FEED and both feeds below 18 V for 1 s before, it wakes (18 R507). -/
def execFeedGood (feed mv : Nat) (bothLow1s : Bool) (s : State) : Out :=
  .next (
    let s := feedVolts feed mv s
    let s := if s.get (feedFld feed) = feedOverV then s else feedBack feed s
    if bothLow1s && s.on Reg.bkdPwrWakeFeed then wakeFromPark 2 s else s)

/-- FEED_OV_CLEAR: a feed in OV at or below 33 V for 10 ms. -/
def execFeedOvClear (feed mv : Nat) (s : State) : Out :=
  .next (
    let s := feedVolts feed mv s
    if s.get (feedFld feed) = feedOverV then feedBack feed (s.set (feedFld feed) feedAbsent) else s)

/-- FEED_RETURN: feed A has qualified for 10 ms and is connected; feed B follows 10 us later (R514). -/
def execFeedReturn (s : State) : Out :=
  .next (
    if s.get Reg.pwrStatusFeedA = feedQualifying then
      let s : State := { s with pwr := { s.pwr with switchA := true } }
      ((s.set Reg.pwrStatusFeedA feedIsGood).set Reg.pwrStatusCarrying 0).raise Ev.pwrFeedReturn
    else s)

/-- FEED_B_RELEASE: 10 us after qualified A is connected, B's switch is off and ready. -/
def execFeedBRelease (s : State) : Out :=
  .next (if s.pwr.switchA then { s with pwr := { s.pwr with switchB := false } } else s)

/-! ### Seating (R518-R521) -/

/-- SEATED_DETECT_MADE: both seated-detects held for 10 ms with pre-charge complete; SLOT_ID and GROUP_ID are latched,
a GROUP_ID above 11 is invalid, and a reinsertion ends PARKED and THERMAL and cancels a pending park (01 R30, 12 R389,
18 R506, R507). While the module
is seated the latched values are kept, and POS_CHANGE tells of others at J1. -/
def execSeatedDetectMade (slotId groupId : Nat) (s : State) : Out :=
  .next (
    if s.on Reg.pwrStatusSeatedA1 && s.on Reg.pwrStatusSeatedH40 then
      s.raiseIf (slotId % 64 != s.get Reg.sysPositionSlotId || groupId % 16 != s.get Reg.sysPositionGroupId)
        Ev.sysPosChange
    else
    let s := (s.setBit Reg.pwrStatusSeatedA1 true).setBit Reg.pwrStatusSeatedH40 true
    let s := (s.set Reg.sysPositionSlotId slotId).set Reg.sysPositionGroupId groupId
    let s := s.raiseIf (11 < groupId % 16) Ev.sysPosInvalid
    if s.get Reg.bkdPwrState = 3 then (s.set Reg.bkdPwrState 0).set Reg.bkdPwrWakeCause 4 else wakeFromPark 4 s)

/-- SEAT_PARTIAL: only one seated-detect made for 1 s (R519). -/
def execSeatPartial (atH40 : Bool) (s : State) : Out :=
  .next (
    let s := (s.setBit Reg.pwrStatusSeatedA1 (!atH40)).setBit Reg.pwrStatusSeatedH40 atH40
    s.raise Ev.pwrSeatPartial)

/-- SEATED_DETECT_BREAK: in hardware the drivers stop, the stages switch off and the module enters FAILED with class
0x1C, which permits no restart (R521). Before firmware is up it only returns to step 3 (R519), and a module that is off (18 R507) has nothing to stop. -/
def execSeatedDetectBreak (atH40 : Bool) (s : State) : Out :=
  .next (
    let s := s.setBit (if atH40 then Reg.pwrStatusSeatedH40 else Reg.pwrStatusSeatedA1) false
    let s := s.setBit Reg.hhkPairStatusKillOut false
    if !s.sec.fwUp || decide (2 ≤ s.get Reg.bkdPwrState) then s
    else
      let s := if s.held then recordOwn 4 s else s
      failOff 0x1C false s)

/-! ### Temperature (R517) -/

/-- Shows the maximum of a signed temperature. -/
def maxTemp (f : Fld) (v : Int) (s : State) : State := if s.getInt f < v then s.setInt f v else s

/-- The MGMT cap: an operating point above 800 MHz falls to it (R517, R531). -/
def applyCap (s : State) : State :=
  if s.on Reg.pwrStatusMgmtCap && 1 < s.get Reg.pwrStatusMgmtOp then s.set Reg.pwrStatusMgmtOp 1 else s

/-- The feed currents and the input power that the module shows; no command carries them, so each measurement is a free
value (R532, log entry 205). -/
def measureInput (s : State) : State :=
  let s := (s.set Reg.pwrFeedaMa s.fresh).took
  let s := (s.set Reg.pwrFeedbMa s.fresh).took
  let s := (s.set Reg.pwrInputMw s.fresh).took
  s.maxTo Reg.pwrInputMaxMw (s.get Reg.pwrInputMw)

/-- TEMP_SAMPLE: die and board in 0.1 degrees; THERM_WARN and the MGMT cap from 105 degrees of the die, lifted below
100; a board that has moved more than 2 degrees since holdover entry raises the drift bound (02 R55). -/
def execTempSample (die board : Int) (s : State) : Out :=
  .next (
    let s := measureInput ((s.setInt Reg.pwrTempDie die).setInt Reg.pwrTempBoard board)
    let s := maxTemp Reg.pwrTempMaxDieMax die (maxTemp Reg.pwrTempMaxBoardMax board s)
    let low : Int := match s.nvs.hourMin with | some v => if v < board then v else board | none => board
    let high : Int := match s.nvs.hourMax with | some v => if board < v then v else board | none => board
    let ever : Int := if s.nvs.maxTemp < board then board else s.nvs.maxTemp
    let s : State := { s with nvs := { s.nvs with hourMin := some low, hourMax := some high, maxTemp := ever } }
    let warned := s.on Reg.pwrStatusThermWarn
    let warn : Bool := if 1050 ≤ die then true else if die < 1000 then false else warned
    let s := (s.setBit Reg.pwrStatusThermWarn warn).setBit Reg.pwrStatusMgmtCap warn
    let s := applyCap (s.raiseIf (warn && !warned) Ev.pwrThermWarn)
    if 20 < (board - s.time.holdTemp).natAbs then { s with time := { s.time with holdMoved := true } } else s)

/-- The thermal shutdown: SYS_PWRON is pulled low at once (18 R506, R507). -/
def shutDown (s : State) : State :=
  convOff ((s.set Reg.bkdPwrState 3).set Reg.bkdPwrLastOff 2)

/-- THERMAL_FAIL: die at 120 or board at 95 degrees for 1 s: FAILED with LAST_FAULT 0x0050, the log is flushed, and a
thermal shutdown follows. -/
def execThermalFail (s : State) : Out :=
  .next (
    if 2 ≤ s.get Reg.bkdPwrState || (s.getInt Reg.pwrTempDie < 1200 && s.getInt Reg.pwrTempBoard < 950) then s
    else
      let s := enterFailed 0x0050 0x50 .hold false s
      shutDown (writeBackup 2 [2#8] (flushNand s)))

/-- THERMAL_SHUTDOWN: die at or above 130 degrees; hardware orders the shutdown without the flush. -/
def execThermalShutdown (s : State) : Out :=
  .next (if s.get Reg.bkdPwrState ≤ 1 && decide (1300 ≤ s.getInt Reg.pwrTempDie) then shutDown s else s)

/-! ### Adaptive loops (R529-R531) -/

/-- AVS_ADJUST: the CORE rail takes the lowest step of 5 mV from 720 to 880 mV that meets the demand; a demand above
880 mV sets AVS_LIMIT. -/
def execAvsAdjust (demandMv : Nat) (s : State) : Out :=
  .next (
    let v := if 880 < demandMv then 880 else if demandMv ≤ 720 then 720 else (demandMv + 4) / 5 * 5
    let s := (s.set Reg.pwrAvsCoreMv v).setBit Reg.pwrStatusAvsLimit (880 < demandMv)
    s.raiseIf (880 < demandMv) Ev.pwrAvsLimit)

/-- The stretch of a frame's window is judged against 3 % once (R530). -/
def judgeStretch (s : State) : State :=
  if 300 < s.pwr.stretch && !s.pwr.stretchOver then
    let s : State := { s with pwr := { s.pwr with stretchOver := true } }
    (s.bump Reg.pwrStretchOverCnt).raise Ev.pwrStretchOver
  else s

/-- DROOP_DETECT: a droop stretches the CORE clock; the operand is what it adds to the window in 0.01 % (R530). -/
def execDroopDetect (centi : Nat) (s : State) : Out :=
  .next (
    let s := s.wrapUp Reg.pwrDroopsCnt
    let s : State := { s with pwr := { s.pwr with stretch := s.pwr.stretch + centi } }
    judgeStretch (s.maxTo Reg.pwrStretchMaxCenti (satTo 65535 s.pwr.stretch)))

/-- MGMT_OP_SELECT: firmware chooses the operating point, within the cap (R531). -/
def execMgmtOpSelect (op : Nat) (s : State) : Out := .next (applyCap (s.set Reg.pwrStatusMgmtOp (satTo 3 op)))

/-! ### Clocks and rails (R525, R527, 13 R407) -/

/-- Shows a domain as running or gated (R532). -/
def showClock (d : Nat) (running gated : Bool) (s : State) : State :=
  (s.set Reg.pwrClkRunning (withBit (s.get Reg.pwrClkRunning) d running)).set Reg.pwrClkGated
    (withBit (s.get Reg.pwrClkGated) d gated)

/-- A domain that may be gated (R525): NAND when idle, NET once no port is enabled, LSP while no lane is. -/
def mayGate (s : State) (d : Nat) : Bool :=
  d == 5 || (d == 6 && (List.range 5).all (fun p => !portEnabled (s.conf objNet) p))
    || (d == 9 && (List.range 12).all (fun n => s.get (Reg.lspLaneState n) == 0))

/-- CLOCK_GATE: an idle domain is gated. -/
def execClockGate (domain : Nat) (s : State) : Out :=
  .next (if mayGate s domain then showClock domain false true s else s)

/-- CLOCK_WAKE: the clock of a gated domain runs again; a domain stopped without being gated is not restarted. -/
def execClockWake (domain : Nat) (s : State) : Out :=
  .next (if bitOf (s.get Reg.pwrClkGated) domain then showClock domain true false s else s)

/-- CLOCK_FAULT: a domain clock has stopped; the check is masked while the domain is gated (R525). -/
def execClockFault (domain : Nat) (s : State) : Out :=
  .next (
    if bitOf (s.get Reg.pwrClkGated) domain then s
    else fail 0x10 0xFF 0xFF true (showClock domain false false s))

/-- RAIL_FAULT: an on-die rail leaves its window (class 0x12). -/
def execRailFault (s : State) : Out := .next (fail 0x12 0xFF 0xFF true s)

/-- FIRMWARE_WATCHDOG: the watchdog of a core pair, unit 4, 5 or 6, finds its firmware stalled (class 0x14). -/
def execFirmwareWatchdog (unit : Nat) (s : State) : Out := .next (fail 0x14 unit 0xFF true s)

end Sys2Proof.Machine
end

