-- ==== Sys2Proof/Machine/Memory.lean ====
section
/-! DEFINITION. Memory integrity (14): DRAM reads and their correction, device retirement, the scrubbers and the error
log. A read's symbols found in error come with the command; stored bytes are the decoded data. -/

namespace Sys2Proof.Machine

/-! ### The error log (R425, R426) -/

/-- Writes log entry n. -/
def writeMemLog (n memory index source symbols devices kind : Nat) (s : State) : State :=
  let s := (s.set (Reg.memLogLocMemory n) memory).set (Reg.memLogLocIndex n) index
  let s := ((s.set (Reg.memLogInfoSource n) source).set (Reg.memLogInfoSymbols n) symbols).set
    (Reg.memLogInfoDevices n) devices
  let s := (s.set (Reg.memLogInfoKind n) kind).set (Reg.memLogTK n) (frameOf s.now)
  (s.set (Reg.memLogTOfsNs n) (s.now - s.t0)).set (Reg.memLogSecSecLo n) s.seconds

/-- Adds an entry, or counts it as lost while the log holds 16. -/
def memLog (memory index source symbols devices kind : Nat) (s : State) : State :=
  let c := s.get Reg.memLogStatCount
  if 16 ≤ c then (s.bump Reg.memLogStatOverflow).raise Ev.memLogOvf
  else
    (writeMemLog ((s.get Reg.memLogStatOldest + c) % 16) memory index source symbols devices kind s).set
      Reg.memLogStatCount (c + 1)

/-- The log empties (R426). -/
def clearMemLog (s : State) : State :=
  let s := (s.set Reg.memLogStatCount 0).set Reg.memLogStatOldest 0
  (List.range 64).foldl (fun s i => s.setReg (0xA0100 + 4 * i) 0#32) s

/-- MEM_LOG_CLEAR (R426): writing 1 to CLEAR empties the log. -/
def execMemLogClear (value : Nat) (s : State) : Out := .next (if bitOf value 31 then clearMemLog s else s)

/-- The first corrected error of a DRAM line or SRAM word in a pass is logged (R425). -/
def logCorrected (memory index source symbols devices : Nat) (s : State) : State :=
  if s.memi.logged.contains (memory, index) then s
  else
    let s : State := { s with memi := { s.memi with logged := (memory, index) :: s.memi.logged } }
    memLog memory index source symbols devices 1 s

/-! ### Retirement (R417, R418) -/

def memHealthy : Nat := 0
def memDegraded : Nat := 1
def memExhausted : Nat := 2

/-- Distinct lines attributed to device d over the current and the previous pass. -/
def devLines (s : State) (d : Nat) : Nat :=
  ((s.memi.now.getD d []) ++ (s.memi.prev.getD d []).filter (fun l => !(s.memi.now.getD d []).contains l)).length

/-- Device d meets the retirement criteria (R417). -/
def devBad (s : State) (d : Nat) : Bool :=
  64 ≤ devLines s d || 8 ≤ ((s.memi.heavy.getD d []).filter (fun t => s.mono ≤ t + nsPerS)).length

/-- A retirement is flagged, logged and entered in the lifetime records (R418, 17 R493). -/
def retireDev (d state : Nat) (s : State) : State :=
  lifetimeAdd 4 (leBytes 1 d ++ leBytes 1 state) (memLog 0 0 0xFF 0 (2 ^ d) 3 (s.raise Ev.memRetire))

/-- The retirement state moves on its criteria (R418). -/
def reviewDevs (s : State) : State :=
  let bad := (List.range 6).filter (devBad s)
  let st := s.get Reg.memStatusState
  if st = memHealthy then
    match bad with
    | [] => s
    | [d] => retireDev d memDegraded ((s.set Reg.memStatusState memDegraded).set Reg.memStatusRetiredDev d)
    | d :: d' :: _ =>
      let s := ((s.set Reg.memStatusState memExhausted).set Reg.memStatusRetiredDev d).set Reg.memStatusSecondDev d'
      fail 0x0C 0xFF 0xFF false (retireDev d' memExhausted (retireDev d memExhausted s))
  else if st = memDegraded then
    match bad.filter (fun d => d != s.get Reg.memStatusRetiredDev) with
    | [] => s
    | d :: _ =>
      let s := (s.set Reg.memStatusState memExhausted).set Reg.memStatusSecondDev d
      fail 0x0C 0xFF 0xFF false (retireDev d memExhausted s)
  else s

/-! ### A DRAM read (R412-R416) -/

/-- The symbols that count as errors: those of the codeword outside the retired device, each once (R414). -/
def lineErrors (s : State) (bad : List Nat) : List Nat :=
  (bad.eraseDups).filter (fun i => i < 96 && !(s.get Reg.memStatusState == memDegraded &&
    i / 16 == s.get Reg.memStatusRetiredDev))

/-- The erasures the decoder works with. -/
def erasures (s : State) : Nat := if s.get Reg.memStatusState = memDegraded then 16 else 0

/-- The decoder corrects e symbol errors (R414). -/
def correctable (s : State) (e : Nat) : Bool :=
  s.get Reg.memStatusState ≠ memExhausted && 2 * e + erasures s ≤ 32

/-- Symbols of device d among those in error. -/
def devErrors (errs : List Nat) (d : Nat) : Nat := (errs.filter (fun i => i / 16 == d)).length

/-- A corrected line is attributed to device d (R417). -/
def attributeTo (line : Nat) (errs : List Nat) (s : State) (d : Nat) : State :=
  let n := devErrors errs d
  if n = 0 then s
  else
    let s := s.bump (Reg.memDevCeCnt d)
    let s : State := { s with memi := { s.memi with
      now := listSet s.memi.now d (fun l => if l.contains line then l else line :: l)
      heavy := if n < 4 then s.memi.heavy
        else listSet s.memi.heavy d (fun l => s.mono :: l.filter (fun t => s.mono ≤ t + nsPerS)) } }
    s.set (Reg.memDevPassLines d) (satTo 0xFFFF (devLines s d))

/-- A DRAM line is read by a master or the scrubber (0xFF) with symbols in error (R414, R416, R417). -/
def dramRead (line source : Nat) (bad : List Nat) (s : State) : State :=
  let errs := lineErrors s bad
  let e := errs.length
  let devs := (List.range 6).foldl (fun m d => if devErrors errs d = 0 then m else m + 2 ^ d) 0
  if e = 0 then s
  else if correctable s e then
    let s := (s.raise Ev.memDramCe).maxTo Reg.memMaxSymMaxSym e
    let s := (List.range 6).foldl (attributeTo line errs) s
    reviewDevs (logCorrected 0 line source e devs s)
  else
    let s := memLog 0 line source e devs 2 (s.raise Ev.memDramUe)
    fail 0x0C 0xFF 0xFF false (s.set Reg.memStatusState memExhausted)

/-- DRAM_SCRUB_READ (R420, R421): the next line is read; an error acts as on any read, and a master's write before
the write-back only cancels the write-back. A completed pass opens a new one. -/
def execDramScrubRead (bad : List Nat) (overwritten : Bool) (s : State) : Out :=
  .next (
    if !s.on Reg.lckDiagCtrlDramScrubEn then s
    else
      let _ := overwritten
      let s := s.setBit Reg.memStatusDscrubOn true
      let line := s.get Reg.memDscrubPosLine
      let s := dramRead line 0xFF bad s
      let s := s.set Reg.memDscrubPosLine (line + 1)
      if line + 1 = 2 ^ 27 then
        let s : State := { s with memi := { s.memi with
          prev := s.memi.now, now := [[], [], [], [], [], []]
          logged := s.memi.logged.filter (fun p => p.1 ≠ 0), passStart := s.mono } }
        let s := (List.range 6).foldl (fun s d => s.set (Reg.memDevPassLines d) (satTo 0xFFFF (devLines s d))) s
        s.wrapUp Reg.memDscrubPassCnt
      else s)

/-- DRAM_SCRUB_LATE (R420): the pass is still incomplete 3600 s after it started; the flag is set and the scrubber goes
on. -/
def execDramScrubLate (s : State) : Out :=
  .next (
    if s.on Reg.lckDiagCtrlDramScrubEn && decide (s.memi.passStart + 3600 * nsPerS ≤ s.mono) then s.raise Ev.memDramScrubLate
    else s)

/-- An uncorrectable SRAM word (R423). -/
def sramUe (memory index source : Nat) (s : State) : State :=
  fail 0x0A 0xFF 0xFF true (memLog memory index source 2 0 2 (s.raise Ev.memSramUe))

/-- SRAM_SCRUB_READ (R422-R424): outcome 0 clean, 1 corrected, 2 uncorrectable; `passDone` where the slowest array
completes its pass. -/
def execSramScrubRead (memory index outcome : Nat) (overwritten passDone : Bool) (s : State) : Out :=
  .next (
    if !s.on Reg.lckDiagCtrlSramScrubEn then s
    else
      let _ := overwritten
      let s := s.setBit Reg.memStatusSscrubOn true
      let s : State := match outcome with
        | 0 => s
        | 1 => logCorrected memory index 0xFF 1 0 ((s.raise Ev.memSramCe).bump Reg.memSramCeCnt)
        | _ => sramUe memory index 0xFF s
      if passDone then
        let s : State := { s with memi := { s.memi with
          logged := s.memi.logged.filter (fun p => p.1 = 0), sramStart := s.mono } }
        s.wrapUp Reg.memSscrubPassCnt
      else s)

/-- SRAM_SCRUB_LATE (R424): the slowest array's pass is incomplete 10 s after it started. -/
def execSramScrubLate (s : State) : Out :=
  .next (
    if s.on Reg.lckDiagCtrlSramScrubEn && decide (s.memi.sramStart + 10 * nsPerS ≤ s.mono) then s.raise Ev.memSramScrubLate
    else s)

end Sys2Proof.Machine
end

