-- ==== Sys2Proof/Machine/Storage.lean ====
section
/-! DEFINITION. Non-volatile storage (17): the refresh sweep, retirement and exhaustion, the event log and lifetime
records, and the ARCHIVE and LIFETIME families. -/

namespace Sys2Proof.Machine

/-- Changes the store's part of the state. -/
def State.updNvs (s : State) (f : NvsSt → NvsSt) : State := { s with nvs := f s.nvs }

/-! ### Spare pools, retirement, exhaustion (R477, R483, R484) -/

/-- The pool from which a region copy and package take their spares: BOOT 0, BOOT 1, CONF 0, CONF 1, ARCH 0, ARCH 1. A
management block is replaced from the CONF pool of its package. -/
def poolOf (copy package : Nat) : Nat :=
  if copy < 4 then copy else if copy = 4 then 4 + package % 2 else 2 + package % 2

/-- The spares a pool has at manufacture. -/
def poolInitial (p : Nat) : Nat := if p < 2 then 16 else if p < 4 then 64 else 512

/-- Spares left by region copy (R497). -/
def spareLeft (s : State) (copy : Nat) : Nat :=
  let p (i : Nat) : Nat := s.nvs.spare.getD i 0
  let least (a b : Nat) : Nat := if a ≤ b then a else b
  if copy < 4 then p copy else if copy = 4 then least (p 4) (p 5) else least (p 2) (p 3)

/-- NVS_REGr_SPARE shows the spares left. -/
def showSpare (s : State) : State :=
  (List.range 6).foldl (fun s r => s.set (Reg.nvsRegSpareSpareLeft r) (spareLeft s r)) s

/-- A lifetime record of a region copy's new state, whose code is a free value (log entry 5). -/
def exhaustRecord (copy : Nat) (s : State) : State :=
  lifetimeAdd 6 (leBytes 1 copy ++ leBytes 1 s.fresh) s.took

/-- ARCH becomes READ_ONLY: the captures staged are dropped (R484). -/
def archReadOnly (s : State) : State :=
  if s.on Reg.nvsStatusArchRo then s
  else
    let s := (s.setBit Reg.nvsStatusArchRo true).raise Ev.nvsArchRo
    let s := exhaustRecord 4 (fwLog 7 [4#8] s)
    let s := s.lsp.staged.foldl (fun s _ => s.raise Ev.lspRecordDrop) s
    (s.updLsp (fun x => { x with staged := [] })).set Reg.lspRecPending 0

/-- A BOOT or CONF copy becomes EXHAUSTED (R484). -/
def exhaustCopy (copy : Nat) (s : State) : State :=
  if bitOf (s.get Reg.nvsStatusExhausted) copy then s
  else
    let s := s.set Reg.nvsStatusExhausted (withBit (s.get Reg.nvsStatusExhausted) copy true)
    exhaustRecord copy (s.raise Ev.nvsReserveExhausted)

/-- A block retires to a spare of its pool, or finds the pool empty (R483, R484). -/
def retireBlock (copy package : Nat) (s : State) : State :=
  let p := poolOf copy package
  let n := s.nvs.spare.getD p 0
  if n = 0 then (if p < 4 then exhaustCopy p s else archReadOnly s)
  else
    let s := s.updNvs (fun v => { v with spare := listSet v.spare p (fun k => k - 1) })
    let s := (s.bump (Reg.nvsRegSpareRetired copy)).raise Ev.nvsBlockRetired
    (showSpare s).raiseIf (4 * (n - 1) == poolInitial p) Ev.nvsSpareLow

/-- A block retires (R483): its data moves to another of its pool, a spare coming into service, and it is used no more. -/
def retireAt (copy package i : Nat) (s : State) : State :=
  let p := nandPool copy package
  if s.nvs.spare.getD (poolOf copy package) 0 = 0 then retireBlock copy package s
  else
    let s := updNand (fun a =>
      let a := a.putBlk { a.blk p i with retired := true }
      match a.freeBlock p with | some d => a.move s.mono p i d | none => a) s
    retireBlock copy package s

/-- The blocks of a pool whose P/E count has reached 30 000 retire (R483). -/
def retireWorn (copy package : Nat) (s : State) : State :=
  ((s.nvs.nand.used (nandPool copy package)).filter (fun b => !b.retired && decide (nandEndurance ≤ b.pe))).foldl
    (fun s b => retireAt copy package b.index s) s

/-- The slot whose bundle holds a logical page of BOOT, from 1 MiB and from 121 MiB on (16 R451). -/
def bootSlotOf (logical : Nat) : Option Nat := if logical < 64 then none else some (if logical < 7744 then 0 else 1)

/-- A page that no step of R479 decodes: a record of ARCH is DAMAGED; elsewhere the content of the mirror or other copy is
written anew, and where that does not decode either, a bundle's copy no longer verifies. -/
def uncorrectable (p : Nat) (b : NandBlk) (g : NandPage) (s : State) : State :=
  let s := s.raise Ev.nvsUncorrectable
  let bad (s : State) : State := updNand (fun a => a.putBlk { a.blk p b.index with
    pages := (a.blk p b.index).pages.map (fun (h : NandPage) => if h.no = g.no then { h with bad := true } else h) }) s
  if !g.live then s
  else if p = 4 ∨ p = 5 then
    let id := g.logical / 0x10000
    fwLog 7 (leBytes 4 id) ((bad s).updNvs (fun v => { v with
      arch := v.arch.map (fun (r : ArchRec) => if r.id = id then { r with damaged := true } else r) }))
  else
    match ((s.nvs.nand.used (nandMirror p)).flatMap (·.live)).find? (fun h => h.logical == g.logical && !h.bad) with
    | some h => nandPut p g.logical h.data s
    | none =>
      let s := bad s
      match bootSlotOf g.logical with
      | some i =>
        if 2 ≤ p then s
        else { s with sec := { s.sec with slots := listSet s.sec.slots i (fun (k : SlotSt) =>
          { k with good := listSet k.good p (fun _ => false) }) } }
      | none => s

/-- The sweep refreshes a block (R481): 48 or more bit errors in a codeword, a page that needed step 2 or 3, data older than
180 days, or 100 000 reads since its erase. -/
def refreshDue (b : NandBlk) (step bits now : Nat) : Bool :=
  decide (48 ≤ bits) || step == 2 || step == 3 || decide (b.oldest + 180 * 86400 * nsPerS < now) || decide (100000 ≤ b.reads)

/-- The valid data of a block is rewritten to a free block of the same pool (R481). -/
def refreshBlock (p i : Nat) (s : State) : State :=
  updNand (fun a => match a.freeBlock p with | some d => a.move s.mono p i d | none => a) s

/-- A written page is read (R479-R483): the ladder, the block's offset and reads, its refresh and its retirement. -/
def sweepPage (x : SweepPage) (b : NandBlk) (g : NandPage) (s : State) : State :=
  let p := nandPool x.copy x.package
  let q := readLadder b.off x.read
  let s := s.maxTo Reg.nvsMaxBitsBits (satTo 255 q.2.2)
  let s := updNand (fun a => a.putBlk { b with reads := b.reads + 1, off := q.2.1 }) s
  let s := if q.2.1 ≠ b.off then storeOffset p x.block q.2.1 s else s
  let s := if q.1 = 3 then s.raise Ev.nvsSoftRead else if q.1 = 4 then uncorrectable p b g s else s
  let s := if x.fails then retireAt x.copy x.package x.block s
    else if refreshDue (s.nvs.nand.blk p x.block) q.1 q.2.2 s.mono then refreshBlock p x.block s else s
  retireWorn x.copy x.package s

/-- NAND_SWEEP_READ (R479, R481): the sweep reads a written page; a block is refreshed or retires where it must. -/
def execNandSweepRead (x : SweepPage) (s : State) : Out :=
  .next (
    if !s.on Reg.lckDiagCtrlNandSweepEn || 6 ≤ x.copy then s
    else
      let s := s.setBit Reg.nvsStatusSweepOn true
      let b := s.nvs.nand.blk (nandPool x.copy x.package) x.block
      let s := match b.pages[x.page]? with
        | some g => showWear (sweepPage x b g s)
        | none => s
      if x.passDone then
        (s.updNvs (fun v => { v with sweepStart := s.mono })).wrapUp Reg.nvsSweepPassCnt
          |>.set Reg.nvsStatusSweepPct 0
      else s.set Reg.nvsStatusSweepPct (satTo 100 x.percent))

/-- SWEEP_LATE (R481): a pass has not completed by 30 days; the sweep goes on. -/
def execSweepLate (s : State) : Out :=
  .next (s.raiseIf (s.on Reg.lckDiagCtrlNandSweepEn && decide (s.nvs.sweepStart + 30 * 86400 * nsPerS ≤ s.mono))
    Ev.nvsSweepLate)

/-! ### Event log and lifetime records (R486, R488, R489, R493) -/

/-- LOG_FLUSH (R486): the entries of the last second reach NAND. -/
def execLogFlush (s : State) : Out := .next (showWear (flushLog s))

/-- CONF_WRITE_COMPLETE (R485): the oldest write in progress completes on package 1 and its version is current. The operand
gives per package the most bit errors of what was programmed and whether the program failed: such a block retires (R483). -/
def execConfWriteComplete (programmed : List (Nat × Bool)) (s : State) : Out :=
  .next (
    match s.nvs.writing with
    | [] => s
    | w :: r =>
      let s := confDone w { s with nvs := { s.nvs with writing := r } }
      showWear ((List.range 2).foldl (fun s k =>
        let q := programmed.getD k (0, false)
        let s := match s.nvs.nand.open (2 + k) with
          | some i => if q.2 || decide (96 < q.1) then retireAt (2 + k) k i s else s
          | none => s
        retireWorn (2 + k) k s) s))

/-- LOG_BUDGET_REFILL (R489): a second has passed; 100 entries are added, up to 10 000. -/
def execLogBudgetRefill (s : State) : Out :=
  .next (s.updNvs (fun v => { v with budget := satTo 10000 (v.budget + 100) }))

/-- A temperature of the running hour, or a free value where none has been sampled. -/
def hourTemp (t : Option Int) (s : State) : Nat :=
  match t with | some v => ofSigned 16 v | none => s.fresh % 65536

/-- LIFETIME_HOURS (R493): an hour of operation ends. -/
def execLifetimeHours (secA secB : Nat) (s : State) : Out :=
  .next (
    let d := leBytes 4 (s.nvs.hours + 1) ++ leBytes 2 (hourTemp s.nvs.hourMin s)
      ++ leBytes 2 (hourTemp s.nvs.hourMax s.took) ++ leBytes 2 secA ++ leBytes 2 secB
    lifetimeAdd 1 d (s.took.took.updNvs (fun v => { v with hours := v.hours + 1, hourMin := none, hourMax := none })))

/-- NAND_WEAR (R493): the daily record. -/
def execNandWear (s : State) : Out :=
  .next (lifetimeAdd 5 ((List.range 6).flatMap (fun r =>
    leBytes 2 (spareLeft s r) ++ leBytes 2 (maxPe s r) ++ leBytes 2 (meanPe s r))) (showWear s))

/-! ### The ARCHIVE family (R495) -/

/-- A directory entry of 48 bytes (R490). -/
def dirEntry (a : ArchRec) : List Byte :=
  let b (c : Bool) (v : Nat) : Nat := if c then v else 0
  leBytes 4 a.id ++ leBytes 1 1 ++ leBytes 1 (b a.damaged 1 + b a.extended 2 + b a.manual 4) ++ leBytes 1 a.slot
    ++ leBytes 1 a.group ++ timeBytes a.trigger ++ leBytes 2 a.lanes ++ leBytes 4 a.evtSeq
    ++ leBytes 4 a.content.length ++ timeBytes a.stored ++ zeros 10

/-- The archive record with a REC_ID. -/
def archRec (s : State) (id : Nat) : Option ArchRec := s.nvs.arch.find? (fun r => r.id == id)

/-- ARCHIVE.LIST. -/
def execArchiveList (r : Req) (s : State) : Out :=
  .next (serve 9 1 r (exactly 8) (fun s =>
    match firstBad (inRange r.payload 4 1 1 64 ++ resv r.payload 5 3) with
    | some d => .err s stOutOfRange d
    | none =>
      let l := (s.nvs.arch.filter (fun a => decide (leAt r.payload 0 4 ≤ a.id))).take (leAt r.payload 4 1)
      .ok s (leBytes 1 l.length ++ zeros 3 ++ leBytes 4 (archFree s / 2 ^ 20) ++ l.flatMap dirEntry)) s)

/-- ARCHIVE.EXPORT: the record is read in progress payloads; a DAMAGED one is answered STORAGE (R479). -/
def execArchiveExport (r : Req) (s : State) : Out :=
  .next (serve 9 2 r (exactly 12) (fun s =>
    let p := r.payload
    let off := leAt p 4 4
    let len := leAt p 8 4
    match archRec s (leAt p 0 4), r.src with
    | some a, .host i =>
      let n := a.content.length
      match firstBad [(4, decide (off ≤ n)), (8, decide (off + len ≤ n))] with
      | some d => .err s stOutOfRange d
      | none =>
        if a.damaged then .err s stStorage noField
        else
          let t : Transfer := ⟨i, r.seq, true, a.id, off, if len = 0 then n else off + len, 0⟩
          .later (s.updNvs (fun v => { v with transfers := v.transfers ++ [t], reading := a.id :: v.reading }))
    | _, _ => .err s stOutOfRange 0) s)

/-- ARCHIVE.DELETE. -/
def execArchiveDelete (r : Req) (s : State) : Out :=
  .next (serve 9 3 r (exactly 8) (fun s =>
    let id := leAt r.payload 0 4
    match firstBad ((0, (archRec s id).isSome) :: resv r.payload 4 4) with
    | some d => .err s stOutOfRange d
    | none =>
      if s.nvs.reading.contains id then conflict s
      else if s.on Reg.nvsStatusArchRo then .err s stStorage noField
      else .ok (showArch (nandForget id (s.updNvs (fun v => { v with arch := v.arch.filter (fun a => a.id != id) })))) []) s)

/-- ARCHIVE.LOG_EVENT, from a Petal engine (R489). -/
def execArchiveLogEvent (r : Req) (s : State) : Out :=
  .next (serve 9 4 r (fun n => decide (4 ≤ n) && decide (n ≤ 48)) (fun s =>
    let p := r.payload
    match firstBad (inRange p 0 2 0 0x7FFF ++ inRange p 2 1 0 3 ++ resv p 3 1) with
    | some d => .err s stOutOfRange d
    | none =>
      match r.src with
      | .petal e => .ok (logEvent 1 (leAt p 2 1) (leAt p 0 2) e (p.drop 4) s) []
      | .host _ => .ok s []) s)

/-- ARCHIVE.READ_LOG. -/
def execArchiveReadLog (r : Req) (s : State) : Out :=
  .next (serve 9 5 r (exactly 8) (fun s =>
    match firstBad (inRange r.payload 4 1 1 128 ++ resv r.payload 5 3) with
    | some d => .err s stOutOfRange d
    | none =>
      let l := (s.nvs.log.filter (fun e => decide (leAt r.payload 0 4 ≤ e.seq))).take (leAt r.payload 4 1)
      let next := match l.getLast? with | some e => e.seq + 1 | none => s.nvs.logNext
      .ok s (leBytes 1 l.length ++ zeros 3 ++ leBytes 4 next ++ l.flatMap logBytes)) s)

/-! ### The LIFETIME family (R496) -/

/-- The summary of 64 bytes. -/
def lifeSummary (s : State) : List Byte :=
  let v := s.nvs
  leBytes 4 v.hours ++ leBytes 4 v.coldStarts ++ leBytes 4 v.failedRecs ++ leBytes 4 s.pair.takeovers
    ++ leBytes 2 v.confirmed ++ leBytes 1 (s.get Reg.memStatusState)
    ++ leBytes 1 (if s.get Reg.memStatusState = memHealthy then 0xFF else s.get Reg.memStatusRetiredDev)
    ++ leBytes 2 (ofSigned 16 v.maxTemp) ++ zeros 2
    ++ (List.range 6).flatMap (fun r => leBytes 2 (spareLeft s r) ++ leBytes 2 (s.get (Reg.nvsRegWearMaxPe r)))
    ++ leBytes 4 v.life.length ++ zeros 12

/-- LIFETIME.GET_SUMMARY. -/
def execLifetimeGetSummary (r : Req) (s : State) : Out :=
  .next (serve 16 1 r noPayload (fun s => .ok s (lifeSummary s)) s)

/-- LIFETIME.READ_RECORDS: records from FIRST_SEQ on, in progress payloads. -/
def execLifetimeReadRecords (r : Req) (s : State) : Out :=
  .next (serve 16 2 r (exactly 8) (fun s =>
    let first := leAt r.payload 0 4
    let count := leAt r.payload 4 4
    if count = 0 ∨ 1048576 < count then .err s stOutOfRange 4
    else
      match r.src with
      | .host i =>
        let t : Transfer := ⟨i, r.seq, false, 0, first, satTo s.nvs.life.length (first + count), 0⟩
        .later (s.updNvs (fun v => { v with transfers := v.transfers ++ [t] }))
      | .petal _ => conflict s) s)

/-- LIFETIME.ADD_NOTE: answered STORAGE once the area is full (R494). -/
def execLifetimeAddNote (r : Req) (s : State) : Out :=
  .next (serve 16 3 r (fun n => decide (1 ≤ n) && decide (n ≤ 48)) (fun s =>
    if !utf8From 0 0x80 0xBF r.payload then .err s stOutOfRange 0
    else if lifeFull s then .err s stStorage noField
    else .ok (lifetimeAdd 9 r.payload s) (leBytes 4 s.nvs.life.length)) s)

/-! ### The progress of a transfer (R495, R496, 03 R95) -/

/-- The bytes or records of the next payload of a transfer, the position after it, and the bytes sent with it. -/
def transferPart (s : State) (t : Transfer) : List Byte × Nat × Nat :=
  if t.isExport then
    let stop := satTo t.stop (t.pos + 1048560)
    let c := match archRec s t.id with | some a => (a.content.drop t.pos).take (stop - t.pos) | none => []
    (leBytes 4 t.pos ++ zeros 4 ++ c, stop, t.sent + c.length)
  else
    let stop := satTo t.stop (t.pos + 16383)
    let c := ((s.nvs.life.drop t.pos).take (stop - t.pos)).flatMap lifeBytes
    (c, stop, t.sent + c.length)

/-- The final response of a transfer. -/
def transferEnd (s : State) (t : Transfer) : List Byte :=
  if t.isExport then
    let c := match archRec s t.id with | some a => a.content | none => []
    leBytes 4 c.length ++ Config.sha384 c ++ zeros 4
  else leBytes 4 (t.sent / 64) ++ leBytes 4 (if t.pos < t.stop then t.stop else t.pos)

/-- An EXPORT reads the pages of its record; each read counts for its block (R481). -/
def countReads (id : Nat) (s : State) : State :=
  updNand (fun a => { a with blocks := a.blocks.map (fun b =>
    if b.pool = 4 ∨ b.pool = 5 then
      { b with reads := b.reads + (b.live.filter (fun g => g.logical / 0x10000 == id)).length }
    else b) }) s

/-- The next progress payload of a transfer, and its final response after the last; a record found DAMAGED meanwhile ends
an EXPORT with STORAGE. -/
def advanceTransfer (t : Transfer) (s : State) : State :=
  let fam := if t.isExport then 9 else 16
  let o : Outst := ((s.sess t.sess).out.find? (fun o => o.seq == t.seq)).getD ⟨t.seq, fam, 2, s.mono, false⟩
  let drop (s : State) : State := dropTransfers (fun x => x.sess == t.sess && x.seq == t.seq) s
  let damaged := t.isExport && (match archRec s t.id with | some a => a.damaged | none => true)
  if damaged then finishD t.sess o stStorage (detailBytes noField) (drop s)
  else
    let q := transferPart s t
    let whole := if t.isExport then t.stop - (t.pos - t.sent) else 64 * (t.stop - (t.pos - t.sent / 64))
    let u : Transfer := { t with pos := q.2.1, sent := q.2.2 }
    let s :=
      if t.pos < t.stop then
        let perm := if whole = 0 then 1000 else 1000 * u.sent / whole
        post (.progress t.sess t.seq o.fam o.cmd (progressHead s.fresh perm (u.sent % 2 ^ 32) ++ q.1)) s.took
      else s
    let s := if t.isExport && t.sent == 0 then countReads t.id s else s
    if t.stop ≤ u.pos then finishD t.sess o stOk (transferEnd s u) (drop s)
    else s.updNvs (fun v => { v with transfers := v.transfers.map (fun x =>
      if x.sess = t.sess ∧ x.seq = t.seq then u else x) })

end Sys2Proof.Machine
end

