-- ==== Sys2Proof/Machine/Update.lean ====
section
/-! DEFINITION. Firmware update (16 R457-R466, R470): the lock, the UPDATE family, the trial and the group update. -/

namespace Sys2Proof.Machine

/-! ### The lock (R463) -/

/-- The digest of the certificate of a request's session. -/
def holderOf (r : Req) (s : State) : Nat :=
  match r.src with | .host i => (s.sess i).subject | .petal _ => 0

/-- The lock is held under another certificate. -/
def lockedOut (h : Nat) (s : State) : Bool :=
  match s.sec.lock with | some x => x != h | none => false

/-- Answers BUSY. -/
def busy (s : State) : Reply := .err (s.raise Ev.secLockBusy) stBusy noField

/-- The lock is taken. -/
def takeLock (h : Nat) (s : State) : State :=
  (s.updSec (fun k => { k with lock := some h })).setBit Reg.secStatusLock true

/-- A partial bundle is discarded and the lock released (R458). -/
def dropUpdate (s : State) : State :=
  freeLock (s.updSec (fun k => { k with upd := updIdle, recv := [], total := 0 }))

/-- BEGIN is open in this state of the module (R458, R463). -/
def beginOpen (s : State) : Bool :=
  s.prog.state != .changing && !memberSyncing s && s.role != roleSyncing
    && (s.sec.upd == updIdle || s.sec.upd == updConfirmed) && !groupUpdating s

/-- BEGIN takes effect: the lock is taken and the inactive slot set EMPTY. -/
def beginUpdate (h : Nat) (p : List Byte) (s : State) : State :=
  let s := takeLock h s
  let s := writeRecord (slotState (1 - s.sec.active) slotEmpty) s
  let w := leAt p 4 4
  s.updSec (fun k => { k with
    upd := updReceiving, recv := [], newFlags := leAt p 0 1, newWindow := if w = 0 then 900 else w, total := leAt p 8 4
    digest := (p.drop 12).take 48, changes := [], excess := 0 })

/-- The response of BEGIN. -/
def beginReply (s : State) : List Byte := leBytes 1 (1 - s.sec.active) ++ zeros 7

/-- The owner's answer to a BEGIN at this member (R463); one whose session has closed takes effect without a response (03
R91). -/
def lockAnswered (h : Nat) (status : Nat) (s : State) : State :=
  let mine := s.sec.begins.filter (fun b => b.holder == h)
  let s := s.updSec (fun k => { k with begins := k.begins.filter (fun b => !mine.contains b) })
  mine.foldl (fun s b =>
    let answer (st : Nat) (p : List Byte) (s : State) : State :=
      match (s.sess b.sess).out.find? (fun o => o.seq == b.seq && o.fam == 8 && o.cmd == 2) with
      | some o => finishD b.sess o st p s
      | none => s
    if status = stBusy then answer stBusy (detailBytes noField) (s.raise Ev.secLockBusy)
    else if status ≠ stOk then answer status (detailBytes noField) s
    else if !beginOpen s then answer stStateConflict (detailBytes noField) s
    else let s := beginUpdate h b.payload s; answer stOk (beginReply s) s) s

/-- A BEGIN at another member asks the owner for the lock: BUSY under another's, STATE_CONFLICT where the state or the
holder's own lock does not permit it. -/
def lockAsked (h : Nat) (s : State) : State :=
  if !isOwner s then s
  else if lockedOut h s then forwardTo 12 [h, stBusy] (s.raise Ev.secLockBusy)
  else if s.sec.lock.isSome || !beginOpen s then forwardTo 12 [h, stStateConflict] s
  else forwardTo 12 [h, stOk] (takeLock h s)

/-! ### The UPDATE family (R470) -/

/-- The installed unit is admitted with RESULT 0 under the configurations read (R457). -/
def unitAdmitted (s : State) : Bool :=
  match s.prog.active with
  | some u => (admission u (configOf s u)).result == 0
  | none => true

/-- CRITERIA of R470: self-test and settings as FIRMWARE_UP found them, the installed unit and pair sync as they stand. -/
def criteria (s : State) : Nat :=
  s.sec.criteria % 2 + (if bitOf s.sec.criteria 1 && unitAdmitted s then 2 else 0) + (if pairSync s then 4 else 0)

/-- The trial bundle is healthy, within its window: a CONFIRM checked at the expiry or later does not prevail (R459). -/
def healthy (s : State) : Bool := s.sec.upd == updTrial && criteria s == 7 && windowOpen s

/-- The 64-byte status record. -/
def updateRecord (s : State) : List Byte :=
  let k := s.sec
  let a := s.slot 0
  let b := s.slot 1
  leBytes 1 k.upd ++ leBytes 1 k.active ++ leBytes 1 a.state ++ leBytes 1 b.state ++ a.version ++ b.version
    ++ leBytes 1 a.secver ++ leBytes 1 b.secver ++ leBytes 1 (s.get Reg.secStatusCounter) ++ leBytes 1 (criteria s)
    ++ leBytes 4 (s.get Reg.secTrialLeftSec) ++ leBytes 4 k.recv.length
    ++ (match k.lock with | some h => (leBytes 48 h).take 32 | none => zeros 32)
    ++ leBytes 1 k.groupStep ++ leBytes 1 k.updatingSlot ++ zeros 6

/-- The fallback report (R462), empty until the old firmware is up. -/
def fallbackReport (s : State) : List Byte :=
  let posted := !(s.sec.upd == updTrial || s.sec.upd == updFallback)
  let l := if posted then s.sec.changes else []
  leBytes 1 l.length ++ leBytes 1 (if posted then s.sec.excess else 0) ++ zeros 6
    ++ l.flatMap (fun c => leBytes 1 c.object ++ zeros 1 ++ leBytes 4 c.rev ++ zeros 2 ++ timeBytes c.time)

/-- UPDATE.GET_STATUS. -/
def execUpdateGetStatus (r : Req) (s : State) : Out :=
  .next (serve 8 1 r noPayload (fun s => .ok s (updateRecord s ++ fallbackReport s)) s)

/-- UPDATE.BEGIN: at the owner or in bench mode at once, at another member when the owner has granted the lock. -/
def execUpdateBegin (r : Req) (s : State) : Out :=
  .next (serve 8 2 r (exactly 60) (fun s =>
    let p := r.payload
    let w := leAt p 4 4
    match firstBad ([(0, decide (leAt p 0 1 ≤ 7))] ++ resv p 1 3
        ++ [(4, w == 0 || (decide (60 ≤ w) && decide (w ≤ 86400))), (8, decide (leAt p 8 4 ≤ bundleMax))]) with
    | some d => .err s stOutOfRange d
    | none =>
      let h := holderOf r s
      if lockedOut h s then busy s
      else if !beginOpen s then conflict s
      else if isOwner s || s.bench then
        (if s.sec.lock.isSome then conflict s else let s := beginUpdate h p s; .ok s (beginReply s))
      else if (ownerSlot s).isNone then conflict s
      else match r.src with
        | .host i => .later (forwardTo 11 [h] (s.updSec (fun k => { k with begins := k.begins ++ [⟨i, r.seq, h, p⟩] })))
        | .petal _ => conflict s) s)

/-- UPDATE.TRANSFER: contiguous ascending chunks, with a progress message whose STAGE is a free value (log entry 5). -/
def execUpdateTransfer (r : Req) (s : State) : Out :=
  .next (serve 8 3 r (fun n => decide (9 ≤ n) && decide (n ≤ 1048576)) (fun s =>
    let p := r.payload
    let off := leAt p 0 4
    let chunk := p.drop 8
    match firstBad ((0, off == s.sec.recv.length && decide (off + chunk.length ≤ s.sec.total)) :: resv p 4 4) with
    | some d => if s.sec.upd = updReceiving then .err s stOutOfRange d else conflict s
    | none =>
      if lockedOut (holderOf r s) s then busy s
      else if s.sec.upd ≠ updReceiving then conflict s
      else .ok (sendStages r 8 3 [s.fresh % 65536] (s.took.updSec (fun k => { k with recv := k.recv ++ chunk }))) []) s)

/-- A BOOT or CONF copy is EXHAUSTED (17 R484). -/
def bootExhausted (s : State) : Bool := s.get Reg.nvsStatusExhausted % 16 != 0

/-- The received bundle has its digest and is bootable (R446, R470); a failed check is shown. -/
def judgeBundle (s : State) : Bool × State :=
  if Config.sha384 s.sec.recv ≠ s.sec.digest then (false, s.raise Ev.secVerifyFail)
  else match bundleFault s s.sec.recv with
    | some u => (false, raiseUnbootable u s)
    | none => (true, s)

/-- INSTALL or GROUP_UPDATE is open: a whole bundle has been received under this certificate's lock. -/
def received (s : State) : Bool := s.sec.upd == updReceiving && s.sec.recv.length == s.sec.total

/-- UPDATE.INSTALL, with its stages of R470: 1 digest, 2 signature and components, 3 versions, 4 BOOT copy 0, 5 BOOT copy
1. -/
def execUpdateInstall (r : Req) (s : State) : Out :=
  .next (serve 8 4 r noPayload (fun s =>
    if lockedOut (holderOf r s) s then busy s
    else if !received s || groupUpdating s then conflict s
    else if bootExhausted s then .err s stStorage noField
    else
      let q := judgeBundle s
      if q.1 then
        let s := sendStages r 8 4 [1, 2, 3, 4, 5] q.2
        .ok ((installSlot (slotOf s.sec.recv) s).updSec (fun k => { k with restartDue := true })) []
      else .err (sendStages r 8 4 [1] q.2) stVerifyFailed noField) s)

/-- INSTALL_RESTART (R458): 1 s after INSTALL's response the module warm-resets into the trial slot. -/
def execInstallRestart (s : State) : Out :=
  .next (
    if s.sec.upd = updInstalled && s.sec.restartDue then
      let s := (saveRetain s).updSec (fun k => { k with restartDue := false })
      { s with pwr := { s.pwr with warmDue := 2 } }
    else s)

/-- UPDATE.CONFIRM (R459). -/
def execUpdateConfirm (r : Req) (s : State) : Out :=
  .next (serve 8 5 r noPayload (fun s =>
    if lockedOut (holderOf r s) s then busy s
    else if !healthy s then conflict s
    else
      let s := confirmTrial s
      .ok s (leBytes 1 (s.get Reg.secStatusCounter) ++ zeros 3)) s)

/-- UPDATE.ABORT (R458). -/
def execUpdateAbort (r : Req) (s : State) : Out :=
  .next (serve 8 6 r noPayload (fun s =>
    if s.sec.upd = updReceiving then .ok (dropUpdate s) []
    else if s.sec.upd = updTrial then .ok (endTrial s) []
    else conflict s) s)

/-! ### The trial (R457-R460) -/

/-- In a group update a member confirms when healthy, except the member that the owner will hand over to, which is the
one of lowest rank among those updated and confirms at H (R464). -/
def confirmsAtHandover (s : State) : Bool :=
  s.sec.groupStep != 0 && decide (s.sec.groupStep < 4) && s.pair.peers.all (fun p =>
    p.role == rolePrimary || p.role == roleAlone || decide (s.get Reg.hhkPairStatusRank < p.rank))

/-- TRIAL_HEALTHY: the trial bundle meets all three criteria; it is confirmed where AUTO_CONFIRM is set or implied. -/
def execTrialHealthy (s : State) : Out :=
  .next (
    if !healthy s then s
    else if s.sec.groupStep ≠ 0 then
      let s := forwardTo 15 [3, s.get Reg.sysPositionSlotId] s
      if confirmsAtHandover s then s
      else
        let last := s.sec.groupStep == 4
        let s := confirmTrial s
        if last then endGroup stOk 0xFF s else s
    else if autoConfirm s then confirmTrial s
    else s)

/-- TRIAL_WINDOW_EXPIRY: the window ends without confirmation. -/
def execTrialWindowExpiry (s : State) : Out :=
  .next (if s.sec.upd = updTrial && !windowOpen s then endTrial s else s)

/-- TRIAL_HANDOVER_TIMEOUT (R460): 1 s has passed; the module falls back at once. -/
def execTrialHandoverTimeout (s : State) : Out := .next (if s.sec.fallDue then fallBack (cancelHandover s) else s)

/-- UPDATE_LOCK_EXPIRY (R463): 600 s after the holder's last session closed in RECEIVING. -/
def execUpdateLockExpiry (s : State) : Out :=
  .next (
    let present := (List.range 16).any (fun i => s.on (Reg.mbxSessOpen i) && s.sec.lock == some (s.sess i).subject)
    if s.sec.upd = updReceiving && !present then dropUpdate s else s)

/-! ### The group update (R464) -/

/-- The members other than the owner, as it knows them. -/
def others (s : State) : List Peer :=
  s.pair.peers.filter (fun p => p.role == roleStandby || p.role == roleSyncing || s.sec.groupDone.contains p.slot)

/-- UPDATE.GROUP_UPDATE: the owner verifies the bundle and forwards it. -/
def execUpdateGroupUpdate (r : Req) (s : State) : Out :=
  .next (serve 8 7 r noPayload (fun s =>
    if lockedOut (holderOf r s) s then busy s
    else if !isOwner s || !received s || !bitOf s.sec.newFlags 2 || groupUpdating s || memberSyncing s ||
        s.prog.state == .changing || (admitters s).isEmpty then conflict s
    else if bootExhausted s then .err s stStorage noField
    else
      let q := judgeBundle s
      if q.1 then
        let s := q.2
        let s := forwardTo 14 (s.sec.newFlags :: s.sec.newWindow :: asNats (s.sec.digest ++ s.sec.recv)) s
        .later (s.updSec (fun k => { k with groupStep := 1, groupVerified := [], groupDone := [] }))
      else .err q.2 stVerifyFailed noField) s)

/-- The owner's next step: the member of highest rank not yet updated takes its turn, or H is named. -/
def nextTurn (s : State) : State :=
  let left := (others s).filter (fun p => !s.sec.groupDone.contains p.slot)
  match left with
  | [] => if handoverRefused s then s else groupStepTo 3 (s.get Reg.sysPositionSlotId) (nameHandover s)
  | p :: ps =>
    let m := ps.foldl (fun (m q : Peer) => if m.rank < q.rank then q else m) p
    groupStepTo 2 m.slot s

/-- A bundle forwarded by the owner: this member verifies it and reports. -/
def groupBundle (flags window : Nat) (digest bytes : List Byte) (s : State) : State :=
  let s := s.updSec (fun k => { k with
    recv := bytes, total := bytes.length, digest := digest, newFlags := flags, newWindow := window, groupStep := 1 })
  let q := judgeBundle s
  forwardTo 15 [if q.1 && !bootExhausted s then 1 else 0xFF, s.get Reg.sysPositionSlotId] q.2

/-- A report or a step of the group update arrives from a member. -/
def groupArrived (step slot : Nat) (s : State) : State :=
  if step = 0 then
    freeLock (s.updSec (fun k => { k with groupStep := 0, updatingSlot := slot, groupVerified := [], groupDone := [] }))
  else if step = 0xFF then endGroup stInternal slot s
  else if isOwner s && s.sec.groupStep ≠ 0 then
    if step = 1 then
      let s := s.updSec (fun k => { k with groupVerified := slot :: k.groupVerified.erase slot })
      if (admitters s).all (fun p => s.sec.groupVerified.contains p) then nextTurn s else s
    else if step = 3 && s.sec.groupStep = 2 then
      nextTurn (s.updSec (fun k => { k with groupDone := slot :: k.groupDone.erase slot }))
    else s
  else if step = 2 && slot = s.get Reg.sysPositionSlotId then takeTurn (s.updSec (fun k => { k with groupStep := 2 }))
  else if step = 2 ∨ step = 3 ∨ step = 4 then s.updSec (fun k => { k with groupStep := step, updatingSlot := slot })
  else s

end Sys2Proof.Machine
end

