-- ==== Sys2Proof/Machine/Boot.lean ====
section
/-! DEFINITION. Resets and the boot chain (19 R523, R524, R532, R533; 16 R445-R447, R467; 00 R552), the restart of a
FAILED module (11 R343), and firmware coming up (11 R336, 04 R140, 16 R457, R461, 17 R485-R487). -/

namespace Sys2Proof.Machine

/-! ### Requests (R533, R524) -/

/-- A warm reset is requested of the module: ignored while it holds OWN; the firmware saves RETAIN first (04 R123). -/
def requestWarm (s : State) : State :=
  if s.held then s.raise Ev.pwrRstRefused
  else { (saveRetain s) with pwr := { (saveRetain s).pwr with warmDue := 4 } }

/-- The reset of a domain is permitted in the present role (R524). -/
def domainPermitted (s : State) (d : Nat) : Bool :=
  if d = 5 ∨ d = 6 ∨ d = 9 then true
  else if d = 2 ∨ d = 7 ∨ d = 10 then
    s.role == roleNone || s.role == roleSyncing || s.role == roleAloneStandby || s.role == roleFailed
  else false

/-- A request for domains, checked bit by bit. -/
def requestDomains (mask : Nat) (s : State) : State :=
  (List.range 12).foldl (fun s d =>
    if !bitOf mask d then s
    else if domainPermitted s d then
      { s with pwr := { s.pwr with domainsDue := withBit s.pwr.domainsDue d true } }
    else s.raise Ev.pwrRstRefused) s

/-- WARM_RESET_REQUEST. -/
def execWarmResetRequest (s : State) : Out := .next (requestWarm s)

/-- DOMAIN_RESET_REQUEST. -/
def execDomainResetRequest (mask : Nat) (s : State) : Out := .next (requestDomains mask s)

/-! ### Registers through a reset (R552) -/

/-- A block whose register rule keeps its registers through a warm reset (02 R72, 14 R426, 15 R438, 17 R497), or that no
warm reset touches. -/
def keepsBlock (b : Nat) : Bool := [1, 10, 11, 13, 14].contains b

/-- A register after a warm or per-domain reset of its block: fields that software writes return to their Reset column;
flags, counts and live fields stay. LCK_DIAG_CTRL stays (13 R411). -/
def warmWord (a : Nat) (w : Word) : Word :=
  if keepsBlock (a / 0x10000) || a == Reg.lckDiagCtrlLock.addr then w
  else (fieldsAt a).foldl (fun w r =>
    if r.acc = .rw ∨ r.acc = .rwl then putField w r.fld.hi r.fld.lo r.rst else w) w

/-- The registers that satisfy a condition pass through `f`; the file stays in canonical form. -/
def mapRegs (p : Nat → Bool) (f : Nat → Word → Word) (s : State) : State :=
  { s with regs := s.regs.foldl (fun l r => kvPut resetWord r.1 (if p r.1 then f r.1 r.2 else r.2) l) [] }

/-- The registers of the rings but RCB_EVENT return to their Reset values (03 R109). -/
def resetRings (s : State) : State :=
  { s with regs := s.regs.filter (fun r => !(decide (0x21000 ≤ r.1) && decide (r.1 < 0x23000) && r.1 % 32 != 0x1C)) }

/-- The registers after a reset of the given blocks. -/
def resetBlocks (bs : List Nat) (s : State) : State := mapRegs (fun a => bs.contains (a / 0x10000)) warmWord s

/-! ### The parts of the module through a reset -/

/-- Every session is closed, and what firmware knew of clients is gone (03 R109). -/
def resetMailbox (s : State) : State :=
  let s : State := { s with mbx := {} }
  let s := (List.range 16).foldl (fun s i => s.setReg (Reg.mbxSessOpen i).addr 0#32) s
  resetRings (showSessions s)

/-- The members' links and what they told: lanes return to TRAIN, no frame is accepted (12 R391). -/
def resetHollyhock (s : State) : State :=
  let s : State := { s with hhk := {} }
  let s := (List.range 2).foldl (fun s p =>
    (s.set (Reg.hhkpLinkLane0State p) 1).set (Reg.hhkpLinkLane1State p) 1) s
  let s := ((s.set Reg.hhkStatusLaneUp 0).set Reg.hhkStatusDegraded 0).set Reg.hhkStatusKeyOk 0
  s.set Reg.hhkPairStatusHhkUp 0

/-- The pair logic starts again; what REDUNDANCY.GET_STATUS counts since cold reset goes on (11 R366). -/
def resetPair (s : State) : State :=
  let p := s.pair
  let s : State := { s with pair := { cause := p.cause, changeAt := p.changeAt, takeovers := p.takeovers
                                      mismatches := p.mismatches, selfSnaps := p.selfSnaps, moved := p.moved } }
  let s := (List.range 3).foldl (fun s n =>
    ((s.setBit (Reg.hhkPairCkptRunning n) false).setBit (Reg.hhkPairCkptValid n) false).set
      (Reg.hhkPairCkptAgeMs n) 0xFFFF) s
  let s := ((s.set Reg.hhkPairStatusPeerRole 0).set Reg.hhkPairResyncPhase 0).set Reg.hhkPairResyncKibLeft 0
  let s := s.setBit Reg.hhkPairStatusSelfSnap false
  s.setBit Reg.hhkPairStatusKillOut false

/-- The networks: links drop, associations and subscriptions end (R524). -/
def resetNetworks (s : State) : State :=
  let s := (List.range 5).foldl (fun s p =>
    (((s.setBit (Reg.netPortLink p) false).set (Reg.netPortSpeed p) 0).setBit (Reg.netPortMacsecUp p) false)) s
  let s := ((s.setBit Reg.netStatusSvcLink false).set Reg.netStatusLink 0).set Reg.netStatusSpeed10 0
  let s := s.set Reg.netStatusMacsecUp 0
  showNetwork ((List.range 16).foldl (fun s n => s.set (Reg.astPmuClients n) 0) s)

/-- The program through a reset (04 R138): it is STOPPED, with its unit, its forces and what CONF holds. -/
def resetProgram (s : State) : State :=
  let g := s.prog
  { s with prog := { state := if g.active.isSome then .stopped else .empty, active := g.active, live := g.live
                     forces := g.forces, stopPersisted := g.stopPersisted, retain := g.retain
                     resetSinceStop := true, retainAged := true } }

/-- The store through a reset: nothing is being read or written. -/
def resetStore (s : State) : State :=
  s.updNvs (fun v => { v with reading := [], transfers := [], keys := [], writing := [] })

/-- The bytes of memory outside the DRAM, whose content no reset keeps (R523). -/
def dropDram (s : State) : State :=
  { s with mem := s.mem.filter (fun c => decide (0x200000000 ≤ c.1)), can := s.can.map (fun (k : CanCtl) => { k with log := [] }) }

/-- A reset ends what is no trial: a partial bundle is gone with its lock, a confirmed update is over (16 R458). -/
def resetUpdate (s : State) : State :=
  let s := s.updSec (fun k => { k with begins := [] })
  if s.sec.upd = updReceiving then
    (s.updSec (fun k => { k with upd := updIdle, recv := [], lock := none })).setBit Reg.secStatusLock false
  else if s.sec.upd = updConfirmed then s.updSec (fun k => { k with upd := updIdle })
  else s

/-! ### The boot chain (16 R445-R447, R452, R453, R467) -/

/-- The boot code stops: role none, FAILED, with LAST_FAULT recorded. -/
def bootStops (lastFault : Nat) (s : State) : State :=
  recordLastFault lastFault (s.updSec (fun k => { k with dead := true }))

/-- BOOT_ATTEMPTS as R447 reads it. -/
def attempts (s : State) : Nat := if s.on Reg.bkdStatusBytesOk then leAt s.backup 1 1 else 1

/-- The ROM rejects a trial that has been booted once: it marks the slot REJECTED and makes the other ACTIVE. -/
def romFallback (s : State) : State :=
  let a := s.sec.active
  (writeRecord (fun k => { (slotState a slotRejected k) with active := 1 - a }) s).updSec (fun k => { k with
    upd := updFallback })

/-- The slots and copies that the ROM tries, in order. -/
def bootOrder (s : State) : List (Nat × Nat) :=
  let a := s.sec.active
  let o := (s.slot (1 - a)).state
  [(a, 0), (a, 1)] ++ (if o = slotConfirmed ∨ o = slotValid then [(1 - a, 0), (1 - a, 1)] else [])

/-- The twelve registers of a digest. -/
def showDigest (f : Nat → Fld) (d : List Byte) (s : State) : State :=
  (List.range 12).foldl (fun s n => s.set (f n) (leAt d (4 * n) 4)) s

/-- A boot configuration's body: members by slot, those not used left out. -/
def bootMembers (b : List Byte) : List Nat := ((List.range 3).map (fun i => leAt b (4 + i) 1)).filter (· != 0xFF)

/-- The signature section of a boot configuration covers its body and its chain reaches a configuration-signing anchor. -/
def bootSigned (s : State) (b : List Byte) : Bool :=
  let g := b.drop 64
  leAt g 0 2 == 3 && bytesZero g 2 2 && bytesZero g 3457 3 && leAt g 3460 4 + 3464 == g.length
    && (g.drop 4).take 48 == Config.sha384 (b.take 64)
    && Config.verifies (s.sec.anchors.getD 2 []) (g.take 52) (g.drop 52)

/-- The boot configuration is valid on this module (R467): its fields, its own slot among the members, its signature. -/
def bootConfOk (s : State) (b : List Byte) : Bool :=
  let k := leAt b 0 1
  let m := bootMembers b
  decide (k ≤ 2) && decide (leAt b 1 1 ≤ 3) && decide (leAt b 2 1 ≤ 7) && bytesZero b 3 1 && bytesZero b 7 1
    && bytesZero b 12 52 && (k == 0 || m.length == k + 1)
    && (k == 0 || m.contains (s.get Reg.sysPositionSlotId)) && m.eraseDups.length == m.length && bootSigned s b

/-- SYS_MODE takes the boot configuration, or the built-in default of bench mode (R467); a change is flagged. -/
def loadBootConf (s : State) : State :=
  let b := objGet s.cfg.stored objBoot
  let ok := bootConfOk s b
  let k := if ok then leAt b 0 1 else 0
  let f := if ok then leAt b 1 1 else 0
  let old := (s.get Reg.sysModeGroupKind, s.get Reg.sysModeSplit, s.get Reg.sysModeRunNoTime)
  let s := (s.set Reg.sysModeGroupKind k).set Reg.sysModeSplit (f % 2)
  let s := s.set Reg.sysModeRunNoTime (f / 2)
  let s := s.updSec (fun c => { c with
    singletons := if ok then leAt b 2 1 else 7, members := if ok && k != 0 then bootMembers b else [] })
  let new := (s.get Reg.sysModeGroupKind, s.get Reg.sysModeSplit, s.get Reg.sysModeRunNoTime)
  let s := if k = 2 then s else ((s.set Reg.hhkTriadHeld 0).set Reg.hhkTriadInStep 0).set Reg.hhkTriadMasterRank 0
  s.raiseIf (s.get Reg.pwrRstCauseLastType == 1 && old != new) Ev.sysModeChange

/-- A bundle boots from a slot and a copy: SEC_STATUS shows it, the counter follows a CONFIRMED ACTIVE bundle, and the
layers are measured (R452, R453, R475); the boot code sets the secure DRAM apart (01 R32). -/
def bootBundle (i copy : Nat) (s : State) : State :=
  let k := s.slot i
  let s := ((s.set Reg.secStatusSlot i).set Reg.secStatusSecver k.secver).setBit Reg.secStatusBootAlt
    (copy != 0 || i != s.sec.active)
  let s := if k.state = slotConfirmed && i == s.sec.active then s.maxTo Reg.secStatusCounter k.secver else s
  let s := s.setBit Reg.secStatusTrial (k.state == slotTrial)
  let cdi1 := Config.hmacSha384 s.sec.uds (measureL1 k)
  let s := s.updSec (fun c => { c with stage0At := some s.mono, cdi1 := cdi1, cdi2 := Config.hmacSha384 cdi1 (measureFw s k) })
  let s := showDigest Reg.secMeasL1nDigest (measureL1 k) s
  let s := showDigest Reg.secMeasFwDigest (measureFw s k) s
  let s := secureDram s
  loadBootConf (((s.set Reg.secBootTimeMs s.fresh).took).setBit Reg.lckStatusReleased k.released)

/-- The boot chain (R445, R447): exhausted BOOT and CONF copies stop it (17 R484), the ROM initialises lost backup bytes
(18 R511) and selects a slot. -/
def bootChain (s : State) : State :=
  let s := s.updSec (fun k => { k with fwUp := false, dead := false })
  match (List.range 4).find? (fun c => bitOf (s.get Reg.nvsStatusExhausted) c) with
  | some c => bootStops ((if c < 2 then 0x0041 else 0x0042) + 0x100 * (c % 2)) s
  | none =>
    let n := attempts s
    let trial := (s.slot s.sec.active).state == slotTrial
    let s := if trial && 1 ≤ n then romFallback s else s
    let s := if s.on Reg.bkdStatusBytesOk then s else writeBackup 0 [1#8] (bytesInit s)
    let s := setAttempts (if trial && n = 0 then 1 else 0) s
    let q := firstBootable (bootOrder s) s
    match q.1 with
    | some (i, c) => bootBundle i c q.2
    | none => bootStops 0x0040 q.2

/-! ### Crossings at a reset (R528) -/

/-- A request in flight when domains enter reset: one from a reset side is discarded, or its response is; one into a reset
side ends with an error of kind RESET, a DMA transfer with INTERNAL and no violation report. -/
def flushCrossing (reset : Nat → Bool) (s : State) (x : InFlight) : State :=
  if reset x.source || !reset x.dest then s
  else s.send (.resetEnd x.master (if isDma x.master then some stInternal else none))

/-! ### WARM_RESET (R523) -/

/-- TICK_ROLE restarts through a warm reset: none, until a valid word or four frames without one; SOURCE, RUN_LOCK and
the other TIM registers stay until the timebase is reviewed next (02 R66, R72). -/
def restartTick (s : State) : State :=
  setTickRole 0 { s with time := { s.time with
    drivesSync := false, wordValid := false, wordsMissing := 0, syncMisses := 0, edgeSeen := false } }

/-- What a warm reset does before the boot chain starts. The gates drain and close by their own commands (15 R438). -/
def warmParts (s : State) : State :=
  let s := flushNand s
  let s := setDrive .off (stopSingletons (releaseOwn .off s))
  let s := restartTick (setRole roleNone s)
  let s := resetStore (resetProgram (resetPair (resetHollyhock (resetMailbox s))))
  let s : State := { s with
    fio := { lockedOff := s.fio.lockedOff, backFrame := s.fio.backFrame }
    ast := {}, net := {}
    lsp := { marks := s.lsp.marks, edge := s.lsp.edge, laneRecs := s.lsp.laneRecs, calFe := s.lsp.calFe }
    cfg := { s.cfg with staged := [], next := [] } }
  let s := showStages (lspWarm (astDomainReset (resetNetworks s)))
  mapRegs (fun _ => true) warmWord (dropDram s)

/-- WARM_RESET: every domain but TIME and BKD is reset, its crossings flushing what is in flight (R528), and the boot chain
runs from stage 0. One that the firmware orders saves the RETAIN values of the last frame run first (04 R123). -/
def execWarmReset (flight : List InFlight) (s : State) : Out :=
  .next (
    let s := flight.foldl (flushCrossing (fun d => d != 8 && decide (d < 11))) s
    let cause := if s.pwr.warmDue ≠ 0 then s.pwr.warmDue
      else if objGet s.cfg.applied objBoot ≠ objGet s.cfg.stored objBoot then 3 else 0
    let s := drainGates (warmParts (if cause = 0 then s else saveRetain s))
    let s := (s.set Reg.pwrRstCauseLastType 1).set Reg.pwrRstCauseWarmCause cause
    let s : State := { s with pwr := { s.pwr with warmDue := 0, domainsDue := 0, bootMono := s.mono } }
    let s := s.set Reg.pwrUptimeSec 0
    let s := resetUpdate s
    let s := s.updProg (fun g => { g with retainAged := cause == 0 })
    refreshLck (showTriad (bootChain s)))

/-- FAILED_RESTART (11 R343): 1 s after a fault that permits restart; at most 3 within 60 min by RESTART_T. -/
def execFailedRestart (s : State) : Out :=
  .next (
    let t (i : Nat) : Nat := leAt s.backup (16 + 4 * i) 4
    let now := s.seconds % 2 ^ 32
    let recent := if !s.on Reg.bkdStatusBytesOk then 0
      else ((List.range 3).filter (fun i => t i != 0 && decide (now - t i < 3600))).length
    if s.role ≠ roleFailed || !s.pair.restartDue then s
    else if 3 ≤ recent then { s with pair := { s.pair with restartDue := false } }
    else
      let s := writeBackup 16 (leBytes 4 now ++ (s.backup.drop 16).take 8) (saveRetain s)
      { s with pair := { s.pair with restartDue := false }, pwr := { s.pwr with warmDue := 1 } })

/-! ### COLD_RESET (R523) -/

/-- Registers that show, after a cold reset, what lies outside the domains it resets: the backup block, the latched
position, the feeds and clocks, the store's own state, the fuses and the backplane's lines. -/
def keptCold (a : Nat) : Bool :=
  a / 0x10000 == 0xE || a == Reg.sysPositionSlotId.addr || a == Reg.pwrStatusFeedA.addr || a == 0xF0014 || a == 0xF0018
    || a == Reg.pwrTempDie.addr || a == Reg.pwrAvsCoreMv.addr || a == Reg.pwrClkGated.addr
    || a == Reg.nvsStatusArchRo.addr || a == Reg.nvsArchRecords.addr || a == Reg.nvsLogSeqSeq.addr
    || a == Reg.nvsLifeSeqSeq.addr || (decide (0xD0040 ≤ a) && decide (a < 0xD0078))

/-- The devices that lifetime records show as retired (14 R419). -/
def retiredDevices (s : State) : List Nat :=
  ((s.nvs.life.filter (fun r => r.kind == 4)).map (fun r => leAt r.data 0 1)).eraseDups

/-- MEM_STATUS is loaded from the lifetime records; two retired devices leave the module FAILED with role none. -/
def loadRetired (s : State) : State :=
  match retiredDevices s with
  | [] => s
  | [d] => (s.set Reg.memStatusState memDegraded).set Reg.memStatusRetiredDev d
  | d :: d' :: _ =>
    let s := ((s.set Reg.memStatusState memExhausted).set Reg.memStatusRetiredDev d).set Reg.memStatusSecondDev d'
    s.updSec (fun k => { k with dead := true })

/-- The fuses as SEC_STATUS shows them, which a cold reset does not change (16 R444). -/
def showFuses (old s : State) : State :=
  ((s.set Reg.secStatusRootRevoked (old.get Reg.secStatusRootRevoked)).set Reg.secStatusRootPresent
    (old.get Reg.secStatusRootPresent)).set Reg.secStatusCounter (old.get Reg.secStatusCounter)

/-- The lines of the backplane as the module senses them. -/
def showLines (old s : State) : State :=
  let line := old.on Reg.hhkPairStatusOwnLine && !old.held
  ((s.setBit Reg.hhkPairStatusOwnLine line).setBit Reg.hhkPairStatusPairOkAlive
    (old.on Reg.hhkPairStatusPairOkAlive)).setBit Reg.hhkPairStatusKillIn (old.on Reg.hhkPairStatusKillIn)

/-- COLD_RESET: every domain but BKD is reset; CONF, BOOT, ARCH and the fuses hold what they held. Log entries not yet
flushed are lost (17 R486). -/
def execColdReset (cause : Nat) (s : State) : Out :=
  .next (
    let old := s
    let kept := s.nvs.log.take (s.nvs.log.length - s.nvs.unflushed)
    let s := (resetStore (resetProgram s)).updNvs (fun v => { v with
      log := kept, logNext := (v.logNext + 2 ^ 32 - v.unflushed) % 2 ^ 32, unflushed := 0, suppressed := 0 })
    let s : State := {
      regs := s.regs.filter (fun r => keptCold r.1)
      mono := s.mono, freeCtr := s.freeCtr, outbox := s.outbox, pending := s.pending, bkd := s.bkd
      nvs := s.nvs, sec := s.sec, prog := s.prog
      cfg := { stored := s.cfg.stored, old := s.cfg.old }
      pwr := { bootMono := s.mono, switchA := s.pwr.switchA, switchB := s.pwr.switchB } }
    let s := showLines old (showFuses old s)
    let s := (s.set Reg.pwrRstCauseLastType 0).set Reg.pwrRstCauseColdCause cause
    let s := resetUpdate s
    let s := bootChain s
    if s.sec.dead then s else loadRetired s)

/-! ### PER_DOMAIN_RESET (R524) -/

/-- The blocks whose registers a domain's reset affects (R552). -/
def domainBlocks (d : Nat) : List Nat :=
  match d with
  | 2 => [3]
  | 6 => [5]
  | 7 => [8]
  | 9 => [4]
  | 10 => [6, 7]
  | _ => []

/-- What the reset of a domain does to what lies in it. The ring engine and Aster lie in FABRIC (01 R15). -/
def domainEffect (d : Nat) (s : State) : State :=
  match d with
  | 2 => resetRings (astDomainReset s)
  | 6 => resetNetworks s
  | 7 => showTriad (resetHollyhock s)
  | 9 => lspWarm s
  | 10 => setDrive .off { s with fio := { lockedOff := s.fio.lockedOff, backFrame := s.fio.backFrame } }
  | _ => s

/-- PER_DOMAIN_RESET: a permitted domain restarts, its crossings flushing what is in flight (R528); a module whose FABRIC, PEER or FIO domain was reset resyncs. -/
def execPerDomainReset (domain : Nat) (flight : List InFlight) (s : State) : Out :=
  .next (
    if !domainPermitted s domain then s.raise Ev.pwrRstRefused
    else
      let s := flight.foldl (flushCrossing (· == domain)) s
      let s := resetBlocks (domainBlocks domain) (domainEffect domain s)
      let s := (s.set Reg.pwrRstCauseLastType 2).set Reg.pwrRstCauseDomains (2 ^ domain)
      let s : State := { s with pwr := { s.pwr with
        bootMono := s.mono, domainsDue := withBit s.pwr.domainsDue domain false } }
      let s := s.set Reg.pwrUptimeSec 0
      if (domain = 2 || domain = 7 || domain = 10) && (s.role == roleSyncing || s.role == roleAloneStandby) then
        goSyncing s
      else s)

/-! ### FIRMWARE_UP -/

/-- The timebase loads the backup counter at the start that follows a cold reset (18 R502); a load is a step, and
occurs only while RUN_LOCK is 0 (02 R41). A warm reset leaves the counter running (R523). -/
def loadTime (s : State) : State :=
  if s.time.loaded || s.get Reg.timStatusSource ≠ 15 || s.on Reg.timStatusRunLock then s
  else
    let s := setTimeFault 5 (s.on Reg.bkdStatusTimeLost) { s with time := { s.time with loaded := true } }
    let s := stepCounter (s.bkdSeconds * nsPerS + s.get Reg.bkdFracFrac * nsPerS / 32768) s
    setSource 14 s

/-- TIME_CONFIG as CONF holds it. -/
def loadTimeConf (s : State) : State :=
  let b := objGet s.cfg.stored objTime
  if b.isEmpty then s else applyTimeConfig { s with time := { s.time with cfgNext := some b } }

/-- The rank of R337. -/
def ownRank (s : State) : Nat :=
  (s.sec.members.filter (fun m => decide (m < s.get Reg.sysPositionSlotId))).length

/-- Every stored object takes effect, but for those that CONF has lost. -/
def loadConf (absent : List Nat) (s : State) : State :=
  let keep := s.cfg.stored.filter (fun p => !absent.contains p.1)
  let s : State := { s with cfg := { s.cfg with stored := keep, absent := absent, applied := [], next := [] } }
  let s := keep.foldl (fun s p => applyObject (frameIndex s.now) p.1 p.2 s) s
  [objBoot, objSec, objCrl, objTime].foldl (fun s o =>
    let b := objGet keep o
    if b.isEmpty then s else putConf o b s) s

/-- A trial begins with the firmware (R457, R458, R461): the settings are converted beside their old copy, the window
runs, and a permanent failure ends it at once. -/
def startTrial (absent : List Nat) (selfTest : Bool) (s : State) : State :=
  let k := s.slot s.sec.active
  let stale := decide ((s.slot (1 - s.sec.active)).setFormat < k.setMin)
  let settings := absent.isEmpty && !stale
  let s : State := { s with cfg := { s.cfg with old := some ((s.cfg.old).getD s.cfg.stored) } }
  let s := s.updSec (fun c => { c with
    upd := updTrial, trialAt := s.mono
    criteria := (if selfTest then 1 else 0) + (if settings then 2 else 0) })
  let s := s.set Reg.secTrialLeftSec s.sec.windowS
  if selfTest && settings then s else endTrial s

/-- The old firmware after a fallback (R458, R462): it has its own copy of the settings, and the report is posted. -/
def afterFallback (s : State) : State :=
  let s := match s.cfg.old with
    | some l => ({ s with cfg := { s.cfg with stored := l, old := none } } : State)
    | none => s
  let s := (freeLock (s.updSec (fun k => { k with upd := updIdle }))).raise Ev.secFallback
  if s.sec.groupStep = 0 then s
  else forwardTo 15 [0xFF, s.get Reg.sysPositionSlotId] (s.updSec (fun k => { k with groupStep := 0 }))

/-- The unit's code stands in the code banks again (01 R31). -/
def loadUnitCode (s : State) : State :=
  match s.prog.active with
  | some u => loadCode u s.prog.live s
  | none => s

/-- A cold start is entered in the lifetime records (17 R493). -/
def countStart (s : State) : State :=
  if s.get Reg.pwrRstCauseLastType ≠ 0 then s
  else
    let n := s.nvs.coldStarts + 1
    lifetimeAdd 2 (leBytes 4 n ++ leBytes 1 (s.get Reg.sysPositionSlotId) ++ leBytes 1 (s.get Reg.sysPositionGroupId)
      ++ leBytes 1 (s.get Reg.sysVariantVariant)) (s.updNvs (fun v => { v with coldStarts := n }))

/-- FIRMWARE_UP: stage 3 runs; at the start that no boot chain of the model precedes, the boot code's worlds of the DRAM
stand too (15 R428; log entry 75). `absent` are the objects unreadable in both CONF copies, `selfTest` tells whether the
start-up self-tests passed. -/
def execFirmwareUp (absent : List Nat) (selfTest : Bool) (s : State) : Out :=
  .next (
    if s.sec.fwUp || s.sec.dead then s
    else
      let s := countStart (secureDram (s.updSec (fun k => { k with fwUp := true })))
      let s := (s.setBit Reg.secStatusLock s.sec.lock.isSome).set Reg.secStatusRootPresent 15
      let s := if s.sec.upd = updFallback then afterFallback s else s
      let s := loadTimeConf (loadTime s)
      let s := refreshLck (s.set Reg.hhkPairStatusRank (if s.bench then 0 else ownRank s))
      let s := loadUnitCode (loadConf absent s)
      let s := if (s.slot s.sec.active).state = slotTrial && s.on Reg.secStatusTrial then startTrial absent selfTest s
        else s
      refreshQuality (joinOrClaim (reviewPairOk (showArch (showSpare s)))))

end Sys2Proof.Machine
end

