-- ==== Sys2Proof/Machine/ConfigCmds.lean ====
section
/-! DEFINITION. The CONFIG family (16 R468, R469; 08 R280; 04 R139): reading, staging and activating settings objects. -/

namespace Sys2Proof.Machine

/-- The settings objects in the order of their codes (R468). -/
def objCodes : List Nat := [objNet, objBoot, objSec, objCrl, objTime, objAster, objLsp, objFio, objCan]

/-- The security configuration as its defaults make it (R472): UPDATER_ROLE -1, EST disabled, EST_TCP_PORT 443. -/
def secDefault : List Byte :=
  zeros 4 ++ leBytes 2 0xFFFF ++ leBytes 1 0xFF ++ zeros 5 ++ leBytes 2 443 ++ zeros 1010

/-- A settings object in its stored form; one never written reads as its defaults (log entry 40). -/
def storedForm (s : State) (o : Nat) : List Byte :=
  let b := objGet s.cfg.stored o
  if !b.isEmpty then b
  else if o = objTime then s.time.cfg
  else if o = objSec then secDefault
  else if o = objCrl then zeros 8
  else defaultObj o

/-- An object is staged. -/
def isStaged (s : State) (o : Nat) : Bool := !(objGet s.cfg.staged o).isEmpty

/-- Stages an object, replacing one already staged; no bytes stage nothing. -/
def stageObject (o : Nat) (b : List Byte) (s : State) : State :=
  { s with cfg := { s.cfg with staged := objSet s.cfg.staged o b } }

/-- The entry of an object in GET_ACTIVE. -/
def activeEntry (s : State) (o : Nat) : List Byte :=
  let b := objGet s.cfg.stored o
  leBytes 1 o ++ leBytes 1 (if isStaged s o then 1 else 0) ++ leBytes 2 (s.slot (s.get Reg.secStatusSlot)).setFormat
    ++ leBytes 4 (objRev o b) ++ leBytes 4 b.length ++ zeros 4

/-- The objects that GET_ACTIVE lists: those stored or staged; one absent under 17 R487 is not listed. -/
def activeCodes (s : State) : List Nat :=
  objCodes.filter (fun o => (!(objGet s.cfg.stored o).isEmpty || isStaged s o) && !s.cfg.absent.contains o)

/-- CONFIG.GET_ACTIVE. -/
def execConfigGetActive (r : Req) (s : State) : Out :=
  .next (serve 3 1 r noPayload (fun s =>
    let l := activeCodes s
    .ok s (leBytes 1 l.length ++ zeros 7 ++ l.flatMap (activeEntry s))) s)

/-- CONFIG.READ_SETTINGS; an object unreadable in both copies is answered STORAGE. -/
def execConfigReadSettings (r : Req) (s : State) : Out :=
  .next (serve 3 2 r (exactly 4) (fun s =>
    let o := leAt r.payload 0 1
    match firstBad ((0, objCodes.contains o) :: resv r.payload 1 3) with
    | some d => .err s stOutOfRange d
    | none => if s.cfg.absent.contains o then .err s stStorage noField else .ok s (storedForm s o)) s)

/-- The checks of a request that names a staged object. -/
def stagedChecks (p : List Byte) : List (Nat × Bool) := oneOf p 0 1 [objNet, objBoot] ++ resv p 1 3

/-- The length of an object that CONFIG stages: the network configuration's, or 64 and a signature section. -/
def stageLength (o n : Nat) : Bool := if o = objNet then n == objSize objNet else decide (64 + 3464 ≤ n)

/-- CONFIG.STAGE_SETTINGS: the length, and the signature of a boot configuration. -/
def execConfigStageSettings (r : Req) (s : State) : Out :=
  .next (serve 3 3 r (fun n => decide (4 ≤ n)) (fun s =>
    let p := r.payload
    let o := leAt p 0 1
    let b := p.drop 4
    match firstBad (stagedChecks p) with
    | some d => .err s stOutOfRange d
    | none =>
      if !stageLength o b.length then .err s stBadLength noField
      else if !settingsOpen s then conflict s
      else if o = objBoot && !bootSigned s b then .err (s.raise Ev.secVerifyFail) stVerifyFailed noField
      else .ok (forwardTo 7 (o :: asNats b) (stageObject o b s)) []) s)

/-- A staged boot configuration is stored, and takes effect at the next warm reset. -/
def activateBoot (b : List Byte) (s : State) : State :=
  forwardTo 0 (objBoot :: 0 :: asNats b) (confWrite objBoot b (stageObject objBoot [] s))

/-- CONFIG.ACTIVATE: every field and cross-condition of a network configuration is checked before any applies. -/
def execConfigActivate (r : Req) (s : State) : Out :=
  .next (serve 3 4 r (exactly 4) (fun s =>
    let o := leAt r.payload 0 1
    let b := objGet s.cfg.staged o
    match firstBad (stagedChecks r.payload) with
    | some d => .err s stOutOfRange d
    | none =>
      if !settingsOpen s || b.isEmpty then conflict s
      else if o = objBoot then .ok (activateBoot b s) (zeros 8)
      else match firstBad (netChecks s b) with
        | some d => .err s stOutOfRange d
        | none =>
          if netClash b s || 49152 < snapWith s objNet b then conflict s
          else
            let f := nameFrame s
            .ok (pendObject o f b (confWrite o b (stageObject o [] s))) (frameBytes f)) s)

/-- CONFIG.DISCARD_STAGED. -/
def execConfigDiscardStaged (r : Req) (s : State) : Out :=
  .next (serve 3 5 r (exactly 4) (fun s =>
    match firstBad (stagedChecks r.payload) with
    | some d => .err s stOutOfRange d
    | none =>
      let o := leAt r.payload 0 1
      if takesGroup s then .ok (forwardTo 8 [o] (stageObject o [] s)) [] else conflict s) s)

end Sys2Proof.Machine
end

