-- ==== Sys2Proof/Machine/Security.lean ====
section
/-! DEFINITION. The SECURITY family, the trust store, enrolment, the fuses and IDENT.GET_CERTIFICATES (16 R444, R454-R456,
R471-R474). -/

namespace Sys2Proof.Machine

/-! ### The trust store (R472) -/

/-- A string of entries, each LEN (4) and LEN bytes: the entries of a count, none where the bytes do not hold exactly
them. -/
def lenEntries : Nat → List Byte → Option (List (List Byte))
  | 0, b => if b.isEmpty then some [] else none
  | n + 1, b =>
    let k := leAt b 0 4
    if b.length < 4 + k then none
    else (lenEntries n (b.drop (4 + k))).map (fun l => (b.drop 4).take k :: l)

/-- Entries written with their LEN. -/
def lenBytes (l : List (List Byte)) : List Byte := l.flatMap (fun e => leBytes 4 e.length ++ e)

/-- The bytes of the trust store that TRUST_DIGEST covers (log entry 61). -/
def trustBytes (s : State) : List Byte := s.sec.anchors.flatMap lenBytes ++ s.sec.keys.flatten

/-- The checks of shared key i in a request; its two NANOSECONDS are those of 02 R38. -/
def keyChecks (p : List Byte) (i : Nat) : List (Nat × Bool) :=
  let o := 4 + 96 * i
  inRange p (o + 4) 1 1 3 ++ oneOf p (o + 5) 1 [16, 32] ++ inRange p (o + 6) 1 0 32 ++ resv p (o + 7) 1
    ++ inRange p (o + 8) 4 0 999999999 ++ inRange p (o + 18) 4 0 999999999 ++ resv p (o + 28) 4

/-- The operational certificate's not-after as R37 counts it (02 R37; log entry 153). -/
def certTai (s : State) : Nat :=
  s.sec.notAfter + (if s.on Reg.timTaiUtcKnown then s.get Reg.timTaiUtcOffset else 0)

/-- SECURITY.GET_STATE. -/
def execSecurityGetState (r : Req) (s : State) : Out :=
  .next (serve 10 1 r noPayload (fun s =>
    let root (i : Nat) : Nat := (if bitOf (s.get Reg.secStatusRootPresent) i then 1 else 0)
      + (if bitOf (s.get Reg.secStatusRootRevoked) i then 2 else 0)
    .ok s ((List.range 4).flatMap (fun i => leBytes 1 (root i)) ++ leBytes 1 (s.get Reg.secStatusCounter) ++ zeros 3
      ++ (Config.sha384 (trustBytes s)).take 48 ++ (List.range 3).flatMap (fun i => leBytes 1 (s.sec.anchors.getD i []).length)
      ++ leBytes 1 s.sec.keys.length ++ leBytes 2 (s.get Reg.hhkStatusKeyEpoch)
      ++ leBytes 1 (assoc s.sec.enrol (s.get Reg.sysPositionSlotId)) ++ zeros 1
      ++ (if s.sec.oper.isEmpty then zeros 10 else timeBytes (certTai s * nsPerS)) ++ zeros 54)) s)

/-- SECURITY.SET_TRUST_ANCHORS: every entry is checked, and those of the KIND replaced at once. -/
def execSecuritySetTrustAnchors (r : Req) (s : State) : Out :=
  .next (serve 10 2 r (fun n => decide (4 ≤ n)) (fun s =>
    let p := r.payload
    let kind := leAt p 0 1
    let n := leAt p 1 1
    match firstBad (inRange p 0 1 1 4 ++ inRange p 1 1 0 (if kind = 4 then 64 else 8) ++ resv p 2 2) with
    | some d => .err s stOutOfRange d
    | none =>
      if kind = 4 then
        if p.length ≠ 4 + 96 * n then .err s stBadLength noField
        else match firstBad ((List.range n).flatMap (keyChecks p)) with
          | some d => .err s (if (d - 4) % 96 = 8 ∨ (d - 4) % 96 = 18 then stMalformed else stOutOfRange) d
          | none =>
            .ok (s.updSec (fun k => { k with keys := (List.range n).map (fun i => (p.drop (4 + 96 * i)).take 96) })) []
      else match lenEntries n (p.drop 4) with
        | none => .err s stBadLength noField
        | some l =>
          if l.all (Config.anchorOk kind) then
            .ok (s.updSec (fun k => { k with anchors := listSet k.anchors (kind - 1) (fun _ => l) })) []
          else .err s stVerifyFailed noField) s)

/-- The CRLs held. -/
def heldCrls (s : State) : List (List Byte) :=
  let b := storedForm s objCrl
  (lenEntries (leAt b 0 1) (b.drop 8)).getD []

/-- An object outside the owner's frames is written and in effect at once. -/
def writeOwn (o : Nat) (b : List Byte) (s : State) : State := putConf o b (confWrite o b s)

/-- SECURITY.LOAD_CRL: the CRL of its issuer is replaced, or one is added. -/
def execSecurityLoadCrl (r : Req) (s : State) : Out :=
  .next (serve 10 3 r (fun n => decide (1 ≤ n) && decide (n ≤ 1048576)) (fun s =>
    let ca := s.sec.anchors.getD 0 []
    match Config.crlIssuer ca r.payload with
    | none => .err s stVerifyFailed noField
    | some i =>
      let held := heldCrls s
      let others := held.filter (fun c => Config.crlIssuer ca c != some i)
      if 8 ≤ others.length then conflict s
      else
        let l := others ++ [r.payload]
        .ok (writeOwn objCrl (leBytes 1 l.length ++ zeros 7 ++ lenBytes l) s) []) s)

/-! ### The security configuration (R472) -/

/-- Writes bytes of the security configuration, under CONFIG_REV + 1. -/
def writeSecConf (off : Nat) (b : List Byte) (s : State) : State :=
  let c := storedForm s objSec
  writeOwn objSec (leBytes 4 (leAt c 0 4 + 1) ++ (c.take off).drop 4 ++ b ++ c.drop (off + b.length)) s

/-- SECURITY.SET_ROLE_MAP. -/
def execSecuritySetRoleMap (r : Req) (s : State) : Out :=
  .next (serve 10 5 r (exactly 4) (fun s =>
    match firstBad (inBounds r.payload 0 2 (-32768) (-1) ++ resv r.payload 2 2) with
    | some d => .err s stOutOfRange d
    | none => .ok (writeSecConf 4 (r.payload.take 2) s) []) s)

/-- The checks of ENROL's ACTION 3: bytes 6 to 463 of the record at offset 4 of the request. -/
def estChecks (p : List Byte) : List (Nat × Bool) :=
  oneOf p 4 1 [0, 1, 2, 3, 0xFF] ++ resv p 5 1 ++ inRange p 10 2 1 65535 ++ resv p 12 2 ++ asciiOk p 14 128
    ++ asciiOk p 142 64 ++ inRange p 206 2 0 254

/-! ### Enrolment (R454, R455, R471) -/

/-- The phase of a member's enrolment. -/
def setEnrol (slot phase : Nat) (s : State) : State :=
  s.updSec (fun k => { k with enrol := assocSet k.enrol slot phase })

/-- The enrolment client runs on this module: its singleton is enabled and OWN is HELD (11 R361). -/
def clientRuns (s : State) : Bool := s.held && bitOf s.sec.singletons 1

/-- The operational certificate is replaced. -/
def installCert (chain : List Byte) (notAfter : Nat) (s : State) : State :=
  s.updSec (fun k => { k with oper := chain, notAfter := notAfter })

/-- A PKCS #10 request under a key generated now. -/
def newRequest (s : State) : List Byte × State :=
  (Config.certRequest s.sec.serial (storedForm s objSec) s.freeCtr, s.took)

/-- An enrolment of this module ends: the certificate is in place, or ENROL_FAIL is set, the certificate left as it was
and the status of a waiting ENROL a free value (log entry 5). -/
def enrolEnds (cert : Option (List Byte × Nat)) (s : State) : State :=
  let s := setEnrol (s.get Reg.sysPositionSlotId) 0 s
  match cert with
  | some (c, t) => finishAll 10 4 stOk [] (installCert c t s)
  | none => finishAll 10 4 s.fresh (detailBytes noField) (s.took.raise Ev.secEnrolFail)

/-- ENROL's ACTION 2: the request goes to the client, which is this module's or the owner's. -/
def renewNow (s : State) : Reply :=
  let own := s.get Reg.sysPositionSlotId
  if clientRuns s then .later (setEnrol own 1 s)
  else if (ownerSlot s).isNone then conflict s
  else
    let q := newRequest s
    .later (forwardTo 16 (own :: asNats q.1) (setEnrol own 1 q.2))

/-- SECURITY.ENROL. -/
def execSecurityEnrol (r : Req) (s : State) : Out :=
  .next (serve 10 4 r (fun n => decide (4 ≤ n)) (fun s =>
    let p := r.payload
    let a := leAt p 0 1
    let n := p.length - 4
    let lenOk := match a with | 0 => n == 0 | 1 => n != 0 | 2 => n == 0 | 3 => n == 458 | _ => true
    if !lenOk then .err s stBadLength noField
    else match firstBad (inRange p 0 1 0 3 ++ resv p 1 3 ++ whenOn (a = 3) (estChecks p)) with
      | some d => .err s stOutOfRange d
      | none =>
        if a = 0 then let q := newRequest s; .ok q.2 q.1
        else if a = 1 then
          match Config.chainNotAfter (p.drop 4) with
          | some t => .ok (installCert (p.drop 4) t s) []
          | none => .err (s.raise Ev.secEnrolFail) stVerifyFailed noField
        else if a = 3 then .ok (writeSecConf 6 (p.drop 4) s) []
        else if leAt (storedForm s objSec) 6 1 = 0xFF then conflict s
        else renewNow s) s)

/-- ENROL_RENEWAL (R455): the client submits a member's request by EST, at 70 % of the validity or on demand, and returns
the certificate to its member; none is a failed enrolment. -/
def execEnrolRenewal (slot : Nat) (chain : Option (List Byte × Nat)) (s : State) : Out :=
  .next (
    if !clientRuns s then s
    else if slot = s.get Reg.sysPositionSlotId then enrolEnds chain s
    else
      let s := setEnrol slot 0 s
      match chain with
      | some (c, t) => forwardTo 17 (slot :: t :: asNats c) s
      | none => forwardTo 17 [slot, 0] (s.raise Ev.secEnrolFail))

/-! ### Fuses and keys (R444, R456, R473) -/

/-- A revoked root-key slot leaves the inactive bundle that it signs unbootable: its slot is EMPTY. -/
def emptyRevoked (slot : Nat) (s : State) : State :=
  let i := 1 - s.get Reg.secStatusSlot
  if (s.slot i).rootSlot = slot && (s.slot i).state != slotEmpty then writeRecord (slotState i slotEmpty) s else s

/-- SECURITY.REVOKE_ROOT_SLOT. -/
def execSecurityRevokeRootSlot (r : Req) (s : State) : Out :=
  .next (serve 10 6 r (exactly 12) (fun s =>
    let p := r.payload
    let i := leAt p 0 1
    let rev := s.get Reg.secStatusRootRevoked
    match firstBad (inRange p 0 1 0 3 ++ resv p 1 3 ++ [(4, (p.drop 4).take 8 == (s.sec.roots.getD i []).take 8)]) with
    | some d => .err s stOutOfRange d
    | none =>
      if (s.slot (s.get Reg.secStatusSlot)).rootSlot = i || withBit rev i true = 15 then conflict s
      else .ok (lifetimeAdd 8 (leBytes 1 i) (emptyRevoked i ((s.set Reg.secStatusRootRevoked (withBit rev i true)).raise Ev.secRootRevoked))) []) s)

/-- SECURITY.ROTATE_GROUP_KEYS, at the owner. -/
def execSecurityRotateGroupKeys (r : Req) (s : State) : Out :=
  .next (serve 10 7 r noPayload (fun s =>
    if !isOwner s then conflict s
    else
      let s := renewKeys s
      .ok s (leBytes 2 (s.get Reg.hhkStatusKeyEpoch) ++ zeros 6)) s)

/-- OTP_DIGEST_CHECK: a digest that does not match is class 0x0E. -/
def execOtpDigestCheck (ok : Bool) (s : State) : Out := .next (if ok then s else fail 0x0E 0xFF 0xFF false s)

/-! ### IDENT.GET_CERTIFICATES (R454, R474) -/

/-- The length of a DER value by its tag and length octets. -/
def derSize (b : List Byte) : Nat :=
  let k := leAt b 1 1
  if k < 128 then 2 + k else 2 + (k - 128) + leNat ((b.drop 2).take (k - 128)).reverse

/-- The certificate of a kind of R474; none is no bytes. -/
def certOf (s : State) (kind : Nat) : List Byte :=
  let k := s.slot (s.get Reg.secStatusSlot)
  match kind with
  | 0 => Config.certificate 0 (deviceIdKey s ++ s.sec.serial ++ leBytes 1 (s.get Reg.sysVariantVariant))
  | 1 => Config.certificate 1 (aliasKey s ++ measureL1 k ++ measureFw s k ++ k.version ++ leBytes 1 k.secver)
  | 2 => s.sec.oper.take (derSize s.sec.oper)
  | _ => Config.certificate 3 []

/-- Module time as a certificate counts it, in s of UTC; TAI while TAI-UTC is unknown (log entry 153). -/
def certTime (s : State) : Nat :=
  if s.on Reg.timTaiUtcKnown then s.seconds - s.get Reg.timTaiUtcOffset else s.seconds

/-- What the TLS and MMS servers present: the operational certificate while one is installed and not past its not-after,
else Alias, DeviceID and the manufacturing CA certificate (R454). -/
def presented (s : State) : List Byte :=
  if !s.sec.oper.isEmpty && decide (certTime s ≤ s.sec.notAfter) then s.sec.oper
  else certOf s 1 ++ certOf s 0 ++ certOf s 3

/-- IDENT.GET_CERTIFICATES: the selected certificates in bit order, absent ones left out. -/
def execIdentGetCertificates (r : Req) (s : State) : Out :=
  .next (serve 1 3 r (exactly 4) (fun s =>
    match firstBad (inRange r.payload 0 1 0 15 ++ resv r.payload 1 3) with
    | some d => .err s stOutOfRange d
    | none =>
      let l := ((List.range 4).filter (fun k => bitOf (leAt r.payload 0 1) k)).map (fun k => (k, certOf s k))
      let l := l.filter (fun e => !e.2.isEmpty)
      .ok s (leBytes 1 l.length ++ zeros 3
        ++ l.flatMap (fun e => leBytes 1 e.1 ++ zeros 3 ++ leBytes 4 e.2.length ++ e.2))) s)

end Sys2Proof.Machine
end

