-- ==== Sys2Proof/Machine/Forward.lean ====
section
/-! DEFINITION. FORWARD (04 R139): what the owner's accepted commands, and the group's other forwarded requests, do at the
member that receives them. -/

namespace Sys2Proof.Machine

/-- A settings object that the owner accepted (04 R139): stored, and in effect at the named frame; a boot configuration at
the next warm reset. -/
def forwardedSettings (o f : Nat) (b : List Byte) (s : State) : State :=
  let s := confWrite o b (stageObject o [] s)
  if o = objBoot then s else { s with cfg := { s.cfg with next := s.cfg.next ++ [(o, f, b)] } }

/-- A load unit: this member verifies and admits it independently, and reports its RESULT (05 R116, check 10). -/
def forwardedUnit (b : List Byte) (s : State) : State :=
  let q := stageUnit b s
  forwardTo 4 [q.1.result] q.2

/-- A member's RESULT arrives at the owner. -/
def unitResultFrom (slot result : Nat) (s : State) : State :=
  match s.prog.load with
  | none => s
  | some (a, rs) => reviewLoad (s.updProg (fun g => { g with load := some (a, rs ++ [(slot, result)]) }))

/-- START_CHANGE: the member takes part with the unit it has staged, or refuses. -/
def forwardedChange (id : Nat) (s : State) : State :=
  match s.prog.staged with
  | some u => if u.id = id && s.prog.state != .changing then beginChange u s else toPeers "READY" [0] s
  | none => toPeers "READY" [0] s

/-- A member lacks an object: the owner sends the version it holds (17 R487). -/
def objectAsked (o : Nat) (s : State) : State :=
  let b := objGet s.cfg.stored o
  if isOwner s && !b.isEmpty then forwardTo 10 (o :: asNats b) s else s

/-- An object that this member lacks arrives: it is written to both copies and used (17 R487). -/
def objectArrived (o : Nat) (b : List Byte) (s : State) : State :=
  if !s.cfg.absent.contains o then s
  else if o = objBoot then confWrite o b s
  else applyObject (frameIndex s.now) o b (putConf o b (confWrite o b s))

/-- The update lock is released in the group (16 R463). -/
def lockFreed (s : State) : State :=
  (s.updSec (fun k => { k with lock := none })).setBit Reg.secStatusLock false

/-- What a forwarded request does. -/
def forwarded (slot : Nat) (f : Fwd) (s : State) : State :=
  match f with
  | .settings o k b => forwardedSettings o k b s
  | .streaming f mask on => pendStreaming f mask on s
  | .startChange id => forwardedChange id s
  | .abortChange => dropChange stStateConflict s
  | .loadUnit b => forwardedUnit b s
  | .unitResult r => unitResultFrom slot r s
  | .unitRefused => s.updProg (fun g => { g with staged := none })
  | .calibrate f mask => startCal f mask none s
  | .trigger p => runTrigger p s
  | .stage o b => stageObject o b s
  | .discard o => stageObject o [] s
  | .objectAsk o => objectAsked o s
  | .object o b => objectArrived o b s
  | .lockAsk x => lockAsked x s
  | .lockAnswer x g => lockAnswered x g s
  | .lockFree => lockFreed s
  | .bundle flags window digest b => groupBundle flags window digest b s
  | .resync k => if k = s.get Reg.sysPositionSlotId then resyncAsked s else s
  | .joinAnswer k b => if k = s.get Reg.sysPositionSlotId then joinAnswered b s else joinHeard k b s
  | .groupStep step k => groupArrived step k s
  | .enrolRequest k _ => if clientRuns s then setEnrol k 1 s else s
  | .certificate k c t =>
    if k = s.get Reg.sysPositionSlotId then enrolEnds (if c.isEmpty then none else some (c, t)) s else s

/-- FORWARD: a forwarded request arrives over Hollyhock. -/
def execForward (h : HhkHdr) (f : Fwd) (s : State) : Out := .next (onFrame typeForward h (forwarded h.srcSlot f) s)

end Sys2Proof.Machine
end

