-- ==== Sys2Proof/Machine/Elementary.lean ====
section
/-! DEFINITION. SIN, COS, ATAN2, EXP and LN, correctly rounded (05 R160). Each is enclosed in an interval of integers
over 2^P, and P grows until both ends round to one binary64 value: that value is the correctly rounded one. -/

namespace Sys2Proof.Machine

/-- An interval of integers, each over 2^P. -/
structure Iv where
  lo : Int
  hi : Int
deriving DecidableEq, Repr

/-- a / b rounded up, for positive b. -/
def ceilDiv (a b : Int) : Int := -((-a) / b)

def Iv.add (a b : Iv) : Iv := ⟨a.lo + b.lo, a.hi + b.hi⟩
def Iv.sub (a b : Iv) : Iv := ⟨a.lo - b.hi, a.hi - b.lo⟩
def Iv.neg (a : Iv) : Iv := ⟨-a.hi, -a.lo⟩

/-- Times an integer. -/
def Iv.scale (k : Int) (a : Iv) : Iv := if 0 ≤ k then ⟨k * a.lo, k * a.hi⟩ else ⟨k * a.hi, k * a.lo⟩

/-- Divided by a positive integer. -/
def Iv.divBy (d : Nat) (a : Iv) : Iv := ⟨a.lo / (d : Int), ceilDiv a.hi d⟩

/-- The product at scale 2^P. -/
def Iv.mul (p : Nat) (a b : Iv) : Iv :=
  let w := a.lo * b.lo
  let x := a.lo * b.hi
  let y := a.hi * b.lo
  let z := a.hi * b.hi
  ⟨(min (min w x) (min y z)) / ((2 ^ p : Nat) : Int), ceilDiv (max (max w x) (max y z)) ((2 ^ p : Nat) : Int)⟩

/-- Widened by n on either side. -/
def Iv.widen (n : Nat) (a : Iv) : Iv := ⟨a.lo - n, a.hi + n⟩

/-- (-1)^neg * m * 2^e at scale 2^P. -/
def Iv.ofBin (p : Nat) (neg : Bool) (m : Nat) (e : Int) : Iv :=
  let k := e + (p : Int)
  let a : Iv := if 0 ≤ k then ⟨((m * 2 ^ k.toNat : Nat) : Int), ((m * 2 ^ k.toNat : Nat) : Int)⟩
    else ⟨(m : Int) / ((2 ^ (-k).toNat : Nat) : Int), ceilDiv m ((2 ^ (-k).toNat : Nat) : Int)⟩
  if neg then a.neg else a

/-- n / d at scale 2^P, for positive d. -/
def Iv.ofRat (p : Nat) (n : Int) (d : Nat) : Iv :=
  ⟨n * ((2 ^ p : Nat) : Int) / (d : Int), ceilDiv (n * ((2 ^ p : Nat) : Int)) d⟩

/-- The sum over j from k of s^j * u^(2j+1) / (2j+1), where `pow` is u^(2k+1) and `sq` is u^2; s is -1 where `alt`. -/
def oddSeries (p : Nat) (alt : Bool) (sq : Iv) : Nat → Nat → Iv → Iv → Iv
  | 0, _, _, acc => acc
  | n + 1, k, pow, acc =>
    let t := pow.divBy (2 * k + 1)
    let acc := if alt && k % 2 == 1 then acc.sub t else acc.add t
    oddSeries p alt sq n (k + 1) (pow.mul p sq) acc

/-- atan or atanh of an interval within -1/2 to 1/2: P terms leave less than 2 units. -/
def arcSmall (p : Nat) (alt : Bool) (u : Iv) : Iv :=
  (oddSeries p alt (u.mul p u) (p / 2 + 4) 0 u ⟨0, 0⟩).widen 2

/-- The sum of the factorial series: `term` is the k-th term; each next one is its product with `step`, divided by
(k+1)(k+2) for sine and cosine (two = true) and by k+1 for the exponential, with alternating signs where `two`. -/
def factSeries (p : Nat) (two : Bool) (step : Iv) : Nat → Nat → Iv → Iv → Iv
  | 0, _, _, acc => acc
  | n + 1, k, term, acc =>
    let d := if two then (k + 1) * (k + 2) else k + 1
    let next := (term.mul p step).divBy d
    let next := if two then next.neg else next
    factSeries p two step n (if two then k + 2 else k + 1) next (acc.add term)

/-- pi at scale 2^P, by Machin's formula. -/
def ivPi (p : Nat) : Iv :=
  ((arcSmall p true (Iv.ofRat p 1 5)).scale 16).sub ((arcSmall p true (Iv.ofRat p 1 239)).scale 4)

/-- ln 2 at scale 2^P. -/
def ivLn2 (p : Nat) : Iv := (arcSmall p false (Iv.ofRat p 1 3)).scale 2

/-- The nearest integer to an interval's lower end. -/
def nearInt (p : Nat) (a : Iv) : Int := (2 * a.lo + ((2 ^ p : Nat) : Int)) / ((2 ^ (p + 1) : Nat) : Int)

/-- The binary64 value of an integer times 2^e. -/
def roundInt (a : Int) (e : Int) : Nat := roundBin .f64 (decide (a < 0)) a.natAbs e

/-- The value both ends of an interval round to, where they agree and the interval excludes 0. -/
def agreed (a : Iv) (e : Int) : Option Nat :=
  if (a.lo ≤ 0 && 0 ≤ a.hi) then none
  else if roundInt a.lo e = roundInt a.hi e then some (roundInt a.lo e) else none

/-- Doubles the precision until the ends agree; the bound on the doublings lies beyond every binary64 operand. -/
def refine (f : Nat → Iv × Int) : Nat → Nat → Nat
  | 0, p => roundInt (f p).1.lo (f p).2
  | n + 1, p =>
    match agreed (f p).1 (f p).2 with
    | some v => v
    | none => refine f n (2 * p)

/-- Bits of precision that make a value near m * 2^e an interval excluding 0. -/
def startPrec (m : Nat) (e : Int) : Nat := 192 + (-(e + (m.log2 : Int))).toNat

/-- e^x for x = (-1)^neg * m * 2^e, as an interval and the exponent of its unit. -/
def expIv (neg : Bool) (m : Nat) (e : Int) (p : Nat) : Iv × Int :=
  let x := Iv.ofBin p neg m e
  let l := ivLn2 p
  let k := (2 * x.lo + l.lo) / (2 * l.lo)
  let r := x.sub (l.scale k)
  let one : Iv := ⟨((2 ^ p : Nat) : Int), ((2 ^ p : Nat) : Int)⟩
  ((factSeries p false r (p / 3 + 10) 0 one ⟨0, 0⟩).widen 2, k - (p : Int))

/-- EXP (R160). -/
def fExp (x : Nat) : Nat :=
  match readFl .f64 x with
  | .nan => FClass.f64.nan
  | .inf neg => if neg then 0 else FClass.f64.inf
  | .fin neg m e =>
    if m = 0 then fOfInt .f64 1
    else if 11 ≤ e + (m.log2 : Int) then (if neg then 0 else FClass.f64.inf)
    else refine (expIv neg m e) 6 192

/-- ln of m * 2^e. -/
def lnIv (m : Nat) (e : Int) (p : Nat) : Iv × Int :=
  let l := m.log2
  let up := 2 ^ (l + 2) < 3 * m
  let l' := if up then l + 1 else l
  let k : Int := e + (l' : Int)
  let t := Iv.ofRat p ((m : Int) - ((2 ^ l' : Nat) : Int)) (m + 2 ^ l')
  (((arcSmall p false t).scale 2).add ((ivLn2 p).scale k), -(p : Int))

/-- LN (R160). -/
def fLn (x : Nat) : Nat :=
  match readFl .f64 x with
  | .nan => FClass.f64.nan
  | .inf neg => if neg then FClass.f64.nan else FClass.f64.inf
  | .fin neg m e =>
    if m = 0 then signBit .f64 true + FClass.f64.inf
    else if neg then FClass.f64.nan
    else if x % 2 ^ 64 = 0x3FF0000000000000 then 0
    else refine (lnIv m e) 6 192

/-- Sine or cosine of m * 2^e after the exact reduction by multiples of pi/2. -/
def trigIv (cosine neg : Bool) (m : Nat) (e : Int) (p0 : Nat) : Iv × Int :=
  let p := p0 + (e + (m.log2 : Int)).toNat + 2
  let x := Iv.ofBin p neg m e
  let h := (ivPi p).divBy 2
  let q := (2 * x.lo + h.lo) / (2 * h.lo)
  let r := x.sub (h.scale q)
  let n := ((q + (if cosine then 1 else 0)) % 4).toNat
  let sq := r.mul p r
  let one : Iv := ⟨((2 ^ p : Nat) : Int), ((2 ^ p : Nat) : Int)⟩
  let v := if n % 2 = 0 then factSeries p true sq (p / 6 + 10) 1 r ⟨0, 0⟩
    else factSeries p true sq (p / 6 + 10) 0 one ⟨0, 0⟩
  let v := v.widen 2
  (if n < 2 then v else v.neg, -(p : Int))

/-- SIN (R160). -/
def fSin (x : Nat) : Nat :=
  match readFl .f64 x with
  | .nan => FClass.f64.nan
  | .inf _ => FClass.f64.nan
  | .fin neg m e =>
    if m = 0 then signBit .f64 neg else refine (trigIv false neg m e) 6 (startPrec m e)

/-- COS (R160). -/
def fCos (x : Nat) : Nat :=
  match readFl .f64 x with
  | .nan => FClass.f64.nan
  | .inf _ => FClass.f64.nan
  | .fin neg m e =>
    if m = 0 then fOfInt .f64 1 else refine (trigIv true neg m e) 6 192

/-- atan of n / d for positive n and d. -/
def atanIv (p n d : Nat) : Iv :=
  if 2 * n ≤ d then arcSmall p true (Iv.ofRat p n d)
  else if 2 * d ≤ n then ((ivPi p).divBy 2).sub (arcSmall p true (Iv.ofRat p d n))
  else ((ivPi p).divBy 4).add (arcSmall p true (Iv.ofRat p ((n : Int) - (d : Int)) (n + d)))

/-- The multiple a/b of pi as a binary64 value with a sign. -/
def piFrac (neg : Bool) (a b : Nat) : Nat :=
  signBit .f64 neg + refine (fun p => (((ivPi p).scale a).divBy b, -(p : Int))) 6 192

/-- atan2 of finite non-zero y = my * 2^ey and x = mx * 2^ex, before the sign of y. -/
def atan2Iv (my : Nat) (ey : Int) (negX : Bool) (mx : Nat) (ex : Int) (p : Nat) : Iv × Int :=
  let k := ey - ex
  let n := my * 2 ^ k.toNat
  let d := mx * 2 ^ (-k).toNat
  let a := atanIv p n d
  (if negX then (ivPi p).sub a else a, -(p : Int))

/-- ATAN2(y, x) (R160; IEEE 754-2019 clause 9.2.1). Where a negative y with x = -inf, or a tiny negative y with x < 0, rounds to
-pi, so is the result, though R160 names -pi for y = -0 alone: the model's choice (log entry 190). -/
def fAtan2 (y x : Nat) : Nat :=
  match readFl .f64 y, readFl .f64 x with
  | .nan, _ => FClass.f64.nan
  | _, .nan => FClass.f64.nan
  | .inf ny, .inf nx => if nx then piFrac ny 3 4 else piFrac ny 1 4
  | .inf ny, .fin _ _ _ => piFrac ny 1 2
  | .fin ny _ _, .inf nx => if nx then piFrac ny 1 1 else signBit .f64 ny
  | .fin ny my ey, .fin nx mx ex =>
    if my = 0 then (if nx then piFrac ny 1 1 else signBit .f64 ny)
    else if mx = 0 then piFrac ny 1 2
    else
      let t := (ey + (my.log2 : Int)) - (ex + (mx.log2 : Int))
      signBit .f64 ny + refine (atan2Iv my ey nx mx ex) 6 (192 + (-t).toNat)

end Sys2Proof.Machine
end

