-- ==== Sys2Proof/Machine/PetalCore.lean ====
section
/-! DEFINITION. What every Petal instruction shares (05 R151-R157, R173): the check of PC against the code range, the
operand stack, the task's flags, and the fault that changes nothing. A Petal command runs the instruction it spells on
the running segment of its engine (log entry 30). -/

namespace Sys2Proof.Machine

/-- What an instruction answers: the engine and state after it; or the code of its fault, and whether R407 gives the
fault a reaction of the module. -/
inductive PRes where
  | ok (g : Engine) (s : State)
  | fault (code : Nat) (hard : Bool)

def pOpcode : PRes := .fault codeOpcode true
def pUnder : PRes := .fault codeStackUnder true
def pOver : PRes := .fault codeStackOver true
/-- BOUNDS of an index or of a range the code computes. -/
def pBounds : PRes := .fault codeBounds false
/-- BOUNDS of a limit check that the code rules exclude (R173). -/
def pLimit : PRes := .fault codeBounds true

/-- An instruction of `len` bytes and `cyc` cycles runs on engine e (R151, R153, R173): PC must stay in the code range
of the running PROGRAM, FB or function; a fault changes nothing but the task. `after` follows a completed one. -/
def runPetalThen (e len cyc : Nat) (body : Engine → State → PRes) (after : State → State) (s : State) : State :=
  let g := s.eng e
  if 8 ≤ e || !g.running then s
  else if g.pc < g.lo || g.hi < g.pc + len then taskFault e codeOpcode true s
  else match body { g with pc := g.pc + len } s with
    | .ok g' s' => after (s'.putEng e (keepCells { g' with cycles := g'.cycles + cyc, used := g'.used + cyc }))
    | .fault c hard => taskFault e c hard s

/-- An instruction that nothing follows. -/
def runPetal (e len cyc : Nat) (body : Engine → State → PRes) (s : State) : State :=
  runPetalThen e len cyc body (fun s => s) s

/-- Pushes an entry; a seventeenth is STACK_OVER. -/
def push (q : Quad) (g : Engine) (s : State) : PRes :=
  if 16 ≤ g.stack.length then pOver else .ok { g with stack := q :: g.stack } s

/-- a → f a. -/
def unary (f : Quad → Quad) (g : Engine) (s : State) : PRes :=
  match g.stack with
  | a :: r => .ok { g with stack := f a :: r } s
  | _ => pUnder

/-- a b → f a b. -/
def binary (f : Quad → Quad → Quad) (g : Engine) (s : State) : PRes :=
  match g.stack with
  | b :: a :: r => .ok { g with stack := f a b :: r } s
  | _ => pUnder

/-- The sticky flags of the running task (R162). -/
def stickFlags (ovf divz : Bool) (g : Engine) (s : State) : State :=
  if ovf || divz then s.updTask g.task (fun k => { k with ovf := k.ovf || ovf, divz := k.divz || divz }) else s

/-- a → r, with OVF. -/
def unaryFlag (f : Quad → Quad × Bool) (g : Engine) (s : State) : PRes :=
  match g.stack with
  | a :: r => .ok { g with stack := (f a).1 :: r } (stickFlags (f a).2 false g s)
  | _ => pUnder

/-- a b → r, with OVF and DIVZ. -/
def binaryFlag (f : Quad → Quad → Quad × Bool × Bool) (g : Engine) (s : State) : PRes :=
  match g.stack with
  | b :: a :: r => .ok { g with stack := (f a b).1 :: r } (stickFlags (f a b).2.1 (f a b).2.2 g s)
  | _ => pUnder

end Sys2Proof.Machine
end

