-- ==== Sys2Proof/Machine/PetalArith.lean ====
section
/-! DEFINITION. Petal arithmetic: the integer classes (05 R158), floating point (R159) and the elementary functions
(R160). -/

namespace Sys2Proof.Machine

/-- An exact integer result, reduced, with OVF (R158). -/
def exactly2 (c : IClass) (f : Int → Int → Int) (a b : Quad) : Quad × Bool × Bool :=
  let r := clsReduce c (f (clsRead c a) (clsRead c b))
  (r.1, r.2, false)

/-- DIV with its decided cases (R158). -/
def divOp (c : IClass) (a b : Quad) : Quad × Bool × Bool :=
  if clsRead c b = 0 then (0#64, false, true) else exactly2 c Int.tdiv a b

/-- MOD with its decided cases (R158). -/
def modOp (c : IClass) (a b : Quad) : Quad × Bool × Bool :=
  if clsRead c b = 0 then (0#64, false, true) else exactly2 c Int.tmod a b

/-- The cycles of MUL and of DIV and MOD in a class (R157). -/
def mulCycles (c : IClass) : Nat := if c.bits = 32 then 3 else 4
def divCycles (c : IClass) : Nat := if c.bits = 32 then 20 else 36

/-- ADD (R158). -/
def execPAdd (e : Nat) (c : IClass) (s : State) : Out :=
  .next (runPetal e 1 1 (binaryFlag (exactly2 c (· + ·))) s)
/-- SUB (R158). -/
def execPSub (e : Nat) (c : IClass) (s : State) : Out :=
  .next (runPetal e 1 1 (binaryFlag (exactly2 c (· - ·))) s)
/-- MUL (R158). -/
def execPMul (e : Nat) (c : IClass) (s : State) : Out :=
  .next (runPetal e 1 (mulCycles c) (binaryFlag (exactly2 c (· * ·))) s)
/-- DIV (R158). -/
def execPDiv (e : Nat) (c : IClass) (s : State) : Out := .next (runPetal e 1 (divCycles c) (binaryFlag (divOp c)) s)
/-- MOD (R158). -/
def execPMod (e : Nat) (c : IClass) (s : State) : Out := .next (runPetal e 1 (divCycles c) (binaryFlag (modOp c)) s)

/-- The class of NEG and ABS: I64 where `wide`, else I32. -/
def signedClass (wide : Bool) : IClass := if wide then .i64 else .i32

/-- NEG (R158). -/
def execPNeg (e : Nat) (wide : Bool) (s : State) : Out :=
  .next (runPetal e 1 1 (unaryFlag (fun a => clsReduce (signedClass wide) (-clsRead (signedClass wide) a))) s)
/-- ABS (R158). -/
def execPAbs (e : Nat) (wide : Bool) (s : State) : Out :=
  .next (runPetal e 1 1 (unaryFlag (fun a =>
    clsReduce (signedClass wide) ((clsRead (signedClass wide) a).natAbs : Int))) s)

/-! ### Floating point -/

/-- The pattern of an entry in a class. -/
def flBits (c : FClass) (q : Quad) : Nat := q.toNat % 2 ^ c.width

/-- a b → f a b in a class. -/
def flBinary (c : FClass) (f : FClass → Nat → Nat → Nat) : Engine → State → PRes :=
  binary (fun a b => quad (f c (flBits c a) (flBits c b)))

/-- a → f a in a class. -/
def flUnary (c : FClass) (f : FClass → Nat → Nat) : Engine → State → PRes := unary (fun a => quad (f c (flBits c a)))

/-- The cycles of an opcode that differ by class. -/
def flCycles (c : FClass) (n32 n64 : Nat) : Nat := match c with | .f32 => n32 | .f64 => n64

/-- ADD (R159). -/
def execPAddF (e : Nat) (c : FClass) (s : State) : Out := .next (runPetal e 1 3 (flBinary c fAdd) s)
/-- SUB (R159). -/
def execPSubF (e : Nat) (c : FClass) (s : State) : Out := .next (runPetal e 1 3 (flBinary c fSub) s)
/-- MUL (R159). -/
def execPMulF (e : Nat) (c : FClass) (s : State) : Out := .next (runPetal e 1 3 (flBinary c fMul) s)
/-- DIV (R159): a zero divisor sets DIVZ. -/
def execPDivF (e : Nat) (c : FClass) (s : State) : Out :=
  .next (runPetal e 1 (flCycles c 10 16) (binaryFlag (fun a b =>
    (quad (fDiv c (flBits c a) (flBits c b)), false, fIsZero c (flBits c b)))) s)
/-- NEG (R159). -/
def execPNegF (e : Nat) (c : FClass) (s : State) : Out := .next (runPetal e 1 1 (flUnary c fNeg) s)
/-- ABS (R159). -/
def execPAbsF (e : Nat) (c : FClass) (s : State) : Out := .next (runPetal e 1 1 (flUnary c fAbs) s)
/-- SQRT (R159). -/
def execPSqrt (e : Nat) (c : FClass) (s : State) : Out := .next (runPetal e 1 (flCycles c 10 18) (flUnary c fSqrt) s)
/-- MIN (R159). -/
def execPMinF (e : Nat) (c : FClass) (s : State) : Out := .next (runPetal e 1 2 (flBinary c fMin) s)
/-- MAX (R159). -/
def execPMaxF (e : Nat) (c : FClass) (s : State) : Out := .next (runPetal e 1 2 (flBinary c fMax) s)
/-- SIN.F64 (R160). -/
def execPSin (e : Nat) (s : State) : Out := .next (runPetal e 1 48 (unary (fun a => quad (fSin a.toNat))) s)
/-- COS.F64 (R160). -/
def execPCos (e : Nat) (s : State) : Out := .next (runPetal e 1 48 (unary (fun a => quad (fCos a.toNat))) s)
/-- ATAN2.F64 (R160): y x → atan2(y, x). -/
def execPAtan2 (e : Nat) (s : State) : Out :=
  .next (runPetal e 1 56 (binary (fun y x => quad (fAtan2 y.toNat x.toNat))) s)
/-- EXP.F64 (R160). -/
def execPExp (e : Nat) (s : State) : Out := .next (runPetal e 1 44 (unary (fun a => quad (fExp a.toNat))) s)
/-- LN.F64 (R160). -/
def execPLn (e : Nat) (s : State) : Out := .next (runPetal e 1 44 (unary (fun a => quad (fLn a.toNat))) s)

end Sys2Proof.Machine
end

