-- ==== Sys2Proof/Machine/PetalControl.lean ====
section
/-! DEFINITION. Petal branches, loops, calls, segment ends (05 R166-R170), and the two faults that arise outside an
instruction's own effect (R173, 04 R128). -/

namespace Sys2Proof.Machine

/-- A forward transfer closes every loop level it leaves (R166). -/
def jumpTo (target : Nat) (g : Engine) : Engine :=
  { g with pc := target, loops := g.loops.dropWhile (fun l => decide (l.stop ≤ target)) }

/-- BR (R157). -/
def execPBr (e d : Nat) (s : State) : Out := .next (runPetal e 3 2 (fun g s => .ok (jumpTo (g.pc + d) g) s) s)

/-- A branch that pops its condition. -/
def branchIf (d : Nat) (cond : Quad → Bool) (g : Engine) (s : State) : PRes :=
  match g.stack with
  | c :: r =>
    let g : Engine := { g with stack := r }
    .ok (if cond c then jumpTo (g.pc + d) g else g) s
  | _ => pUnder

/-- BRZ (R157). -/
def execPBrz (e d : Nat) (s : State) : Out := .next (runPetal e 3 2 (branchIf d (fun c => c == 0#64)) s)
/-- BRNZ (R157). -/
def execPBrnz (e d : Nat) (s : State) : Out := .next (runPetal e 3 2 (branchIf d (fun c => c != 0#64)) s)

/-- BRL (R157). -/
def execPBrl (e lo hi : Nat) (s : State) : Out :=
  .next (runPetal e 5 2 (fun g s => .ok (jumpTo (g.pc + hi * 65536 + lo) g) s) s)

/-- LOOP (R166): pops c; above max is BOUNDS, 0 skips the body, else a level opens with index 0. -/
def execPLoop (e max len : Nat) (s : State) : Out :=
  .next (runPetal e 5 3 (fun g s =>
    if max = 0 then pOpcode
    else match g.stack with
      | c :: r =>
        let g : Engine := { g with stack := r }
        if max < c.toNat then pBounds
        else if c = 0#64 then .ok { g with pc := g.pc + len } s
        else if 4 ≤ g.loops.length then pOver
        else .ok { g with loops := ⟨c.toNat, 0, g.pc, g.pc + len⟩ :: g.loops } s
      | _ => pUnder) s)

/-- ENDLOOP (R166). -/
def execPEndloop (e : Nat) (s : State) : Out :=
  .next (runPetal e 1 1 (fun g s =>
    match g.loops with
    | l :: r =>
      if l.index + 1 < l.count then .ok { g with pc := l.body, loops := { l with index := l.index + 1 } :: r } s
      else .ok { g with loops := r } s
    | [] => pOpcode) s)

/-- LIDX n (R157): the index of loop level n, 0 innermost. -/
def execPLidx (e n : Nat) (s : State) : Out :=
  .next (runPetal e 2 1 (fun g s =>
    match g.loops[n]? with | some l => push (quad l.index) g s | none => pOpcode) s)

/-! ### Calls (R168) -/

/-- The TYPES entry an idx names, if it is one of engine e and of the given KIND. -/
def calleeOf (s : State) (e idx kind : Nat) : Option TypeRow :=
  s.prog.active.bind (fun u => (u.types[idx]?).bind (fun ty =>
    if ty.engine = e ∧ ty.kind = kind then some ty else none))

/-- The cycles of a call. -/
def callCycles (s : State) (e idx kind : Nat) : Nat :=
  match calleeOf s e idx kind with
  | some ty => 12 + (if kind = 1 then ty.args else 0) + (ty.localSize + 63) / 64
  | none => 12

/-- A local frame of the callee fits the engine's local stack (R173). -/
def frameFits (s : State) (e : Nat) (g : Engine) (size : Nat) : Bool :=
  match s.prog.active with
  | some u => decide (g.lb + g.locLim + size ≤ (localStack u e).1 + (localStack u e).2)
  | none => false

/-- Saves a call level, opens a cleared local frame with the given first bytes, and jumps to the callee. -/
def enterCallee (e : Nat) (ty : TypeRow) (ib instLim : Nat) (args : List Byte) (g : Engine) (s : State) : PRes :=
  if 16 ≤ g.calls.length then pOver
  else if !frameFits s e g ty.localSize then pBounds
  else
    let lb := g.lb + g.locLim
    let lvl : CallLevel := ⟨g.pc, g.ib, g.lb, g.instLim, g.locLim, g.loops, g.lo, g.hi⟩
    let s := s.setBytes (bankBase s e + lb) (fitTo ty.localSize args)
    .ok { g with
      calls := lvl :: g.calls, ib := ib, instLim := instLim, lb := lb, locLim := ty.localSize, loops := []
      pc := ty.codeOff, lo := ty.codeOff, hi := ty.codeOff + ty.codeLen } s

/-- CALLFB off, idx (R168): the child instance lies inside the caller's. -/
def execPCallfb (e off idx : Nat) (s : State) : Out :=
  .next (runPetal e 5 (callCycles s e idx 0) (fun g s =>
    match calleeOf s e idx 0 with
    | none => pOpcode
    | some ty =>
      if g.instLim < off + ty.instSize then pBounds
      else enterCallee e ty (g.ib + off) ty.instSize [] g s) s)

/-- CALLFN idx (R168): ARGS entries go to local slots of 8 bytes, the deepest at offset 0. -/
def execPCallfn (e idx : Nat) (s : State) : Out :=
  .next (runPetal e 3 (callCycles s e idx 1) (fun g s =>
    match calleeOf s e idx 1 with
    | none => pOpcode
    | some ty =>
      if g.stack.length < ty.args then pUnder
      else
        let args := (g.stack.take ty.args).reverse.flatMap (fun q => leBytes 8 q.toNat)
        enterCallee e ty g.ib 0 args { g with stack := g.stack.drop ty.args } s) s)

/-- RET (R168). -/
def execPRet (e : Nat) (s : State) : Out :=
  .next (runPetal e 1 6 (fun g s =>
    match g.calls with
    | l :: r => .ok { g with
        pc := l.ret, ib := l.ib, lb := l.lb, instLim := l.instLim, locLim := l.locLim, loops := l.loops, calls := r
        lo := l.lo, hi := l.hi } s
    | [] => pOpcode) s)

/-! ### Segment ends (R170) -/

/-- SEG and END stand at the task's top level with an empty operand stack (R173). -/
def atTop (g : Engine) (s : State) : PRes :=
  if g.calls.isEmpty && g.loops.isEmpty && g.stack.isEmpty then .ok g s else pOpcode

/-- The segment ends: its state is folded (13 R400), and the task resumes after the SEG (R170). -/
def endSeg (e : Nat) (s : State) : State :=
  let s := foldState e s
  let g := s.eng e
  finishSegment e (s.updTask g.task (fun k => { k with nextSeg := g.seg + 1, pc := g.pc }))

/-- The task's last segment ends: its state is folded (13 R400), and the output copy runs (R170, 04 R122). -/
def endTask (e : Nat) (s : State) : State :=
  let s := foldState e s
  let g := s.eng e
  finishSegment e (if g.err then s else copyOut e g.task s)

/-- SEG (R170). -/
def execPSeg (e : Nat) (s : State) : Out := .next (runPetalThen e 1 2 atTop (endSeg e) s)

/-- END (R170). -/
def execPEnd (e : Nat) (s : State) : Out := .next (runPetalThen e 1 2 atTop (endTask e) s)

/-! ### Faults -/

/-- UNASSIGNED_OPCODE (R173): an unassigned opcode is fetched, or the code word is uncorrectable, which 14 R423 gives
its own reaction. -/
def execPUnassignedOpcode (e : Nat) (uncorrectable : Bool) (s : State) : Out :=
  .next (
    let g := s.eng e
    if 8 ≤ e || !g.running then s
    else
      let s := taskFault e codeOpcode true s
      if uncorrectable then sramUe (5 + e % 4) ((codeBase s e - peSramBase (e % 4) - 0x400000 + g.pc) / 8) e s else s)

/-- CYCLE_FAULT (04 R128): the running segment has exceeded its derived worst case. -/
def execPCycleFault (e : Nat) (s : State) : Out :=
  .next (if 8 ≤ e || !(s.eng e).running then s else taskFault e codeCycle false s)

end Sys2Proof.Machine
end

