-- ==== Sys2Proof/Machine/PetalLogic.lean ====
section
/-! DEFINITION. Petal compares, selection, logic, shifts and conversion (05 R157, R159, R161). -/

namespace Sys2Proof.Machine

/-- a b → BOOL. -/
def compare2 (f : Quad → Quad → Bool) : Engine → State → PRes := binary (fun a b => qbool (f a b))

/-- EQ (R157). -/
def execPEq (e : Nat) (s : State) : Out := .next (runPetal e 1 1 (compare2 (fun a b => a == b)) s)
/-- NE (R157). -/
def execPNe (e : Nat) (s : State) : Out := .next (runPetal e 1 1 (compare2 (fun a b => a != b)) s)
/-- LT.S (R157). -/
def execPLtS (e : Nat) (s : State) : Out := .next (runPetal e 1 1 (compare2 (fun a b => decide (a.toInt < b.toInt))) s)
/-- LE.S (R157). -/
def execPLeS (e : Nat) (s : State) : Out := .next (runPetal e 1 1 (compare2 (fun a b => decide (a.toInt ≤ b.toInt))) s)
/-- GT.S (R157). -/
def execPGtS (e : Nat) (s : State) : Out := .next (runPetal e 1 1 (compare2 (fun a b => decide (b.toInt < a.toInt))) s)
/-- GE.S (R157). -/
def execPGeS (e : Nat) (s : State) : Out := .next (runPetal e 1 1 (compare2 (fun a b => decide (b.toInt ≤ a.toInt))) s)
/-- LT.U (R157). -/
def execPLtU (e : Nat) (s : State) : Out := .next (runPetal e 1 1 (compare2 (fun a b => decide (a.toNat < b.toNat))) s)
/-- LE.U (R157). -/
def execPLeU (e : Nat) (s : State) : Out := .next (runPetal e 1 1 (compare2 (fun a b => decide (a.toNat ≤ b.toNat))) s)
/-- GT.U (R157). -/
def execPGtU (e : Nat) (s : State) : Out := .next (runPetal e 1 1 (compare2 (fun a b => decide (b.toNat < a.toNat))) s)
/-- GE.U (R157). -/
def execPGeU (e : Nat) (s : State) : Out := .next (runPetal e 1 1 (compare2 (fun a b => decide (b.toNat ≤ a.toNat))) s)

/-- A compare of two patterns of a class; `nan` is its result with a NaN operand (R159). -/
def flCompare (c : FClass) (nan : Bool) (f : FClass → Nat → Nat → Bool) : Engine → State → PRes :=
  compare2 (fun a b =>
    let x := flBits c a
    let y := flBits c b
    if fIsNan c x || fIsNan c y then nan else f c x y)

/-- EQ of a class (R159). -/
def execPEqF (e : Nat) (c : FClass) (s : State) : Out := .next (runPetal e 1 2 (flCompare c false fEq) s)
/-- NE of a class (R159). -/
def execPNeF (e : Nat) (c : FClass) (s : State) : Out :=
  .next (runPetal e 1 2 (flCompare c true (fun c x y => !fEq c x y)) s)
/-- LT of a class (R159). -/
def execPLtF (e : Nat) (c : FClass) (s : State) : Out := .next (runPetal e 1 2 (flCompare c false fLt) s)
/-- LE of a class (R159). -/
def execPLeF (e : Nat) (c : FClass) (s : State) : Out :=
  .next (runPetal e 1 2 (flCompare c false (fun c x y => fLt c x y || fEq c x y)) s)
/-- GT of a class (R159). -/
def execPGtF (e : Nat) (c : FClass) (s : State) : Out :=
  .next (runPetal e 1 2 (flCompare c false (fun c x y => fLt c y x)) s)
/-- GE of a class (R159). -/
def execPGeF (e : Nat) (c : FClass) (s : State) : Out :=
  .next (runPetal e 1 2 (flCompare c false (fun c x y => fLt c y x || fEq c x y)) s)

/-- MIN.S (R157). -/
def execPMinS (e : Nat) (s : State) : Out :=
  .next (runPetal e 1 1 (binary (fun a b => if a.toInt ≤ b.toInt then a else b)) s)
/-- MAX.S (R157). -/
def execPMaxS (e : Nat) (s : State) : Out :=
  .next (runPetal e 1 1 (binary (fun a b => if b.toInt ≤ a.toInt then a else b)) s)
/-- MIN.U (R157). -/
def execPMinU (e : Nat) (s : State) : Out :=
  .next (runPetal e 1 1 (binary (fun a b => if a.toNat ≤ b.toNat then a else b)) s)
/-- MAX.U (R157). -/
def execPMaxU (e : Nat) (s : State) : Out :=
  .next (runPetal e 1 1 (binary (fun a b => if b.toNat ≤ a.toNat then a else b)) s)

/-- SEL (R157): g a0 a1 → a1 if g is not 0, else a0. -/
def execPSel (e : Nat) (s : State) : Out :=
  .next (runPetal e 1 1 (fun g s =>
    match g.stack with
    | a1 :: a0 :: c :: r => .ok { g with stack := (if c = 0#64 then a0 else a1) :: r } s
    | _ => pUnder) s)

/-- AND (R157). -/
def execPAnd (e : Nat) (s : State) : Out := .next (runPetal e 1 1 (binary (fun a b => a &&& b)) s)
/-- OR (R157). -/
def execPOr (e : Nat) (s : State) : Out := .next (runPetal e 1 1 (binary (fun a b => a ||| b)) s)
/-- XOR (R157). -/
def execPXor (e : Nat) (s : State) : Out := .next (runPetal e 1 1 (binary (fun a b => a ^^^ b)) s)

/-- A width operand of NOT and the shifts (R157). -/
def widthOk (w : Nat) : Bool := w == 8 || w == 16 || w == 32 || w == 64

/-- The low w bits of an entry. -/
def lowBits (w : Nat) (q : Quad) : Nat := q.toNat % 2 ^ w

/-- Runs an instruction whose byte operand must be a width. -/
def withWidth (w : Nat) (body : Engine → State → PRes) (g : Engine) (s : State) : PRes :=
  if widthOk w then body g s else pOpcode

/-- NOT w (R157). -/
def execPNot (e w : Nat) (s : State) : Out :=
  .next (runPetal e 2 1 (withWidth w (unary (fun a => quad (2 ^ w - 1 - lowBits w a)))) s)
/-- BNOT (R157). -/
def execPBnot (e : Nat) (s : State) : Out := .next (runPetal e 1 1 (unary (fun a => qbool (a == 0#64))) s)

/-- The low w bits shifted left, zero-extended; 0 for a count of w or more. -/
def shlBits (w : Nat) (a k : Quad) : Quad := if w ≤ k.toNat then 0#64 else quad (lowBits w a * 2 ^ k.toNat % 2 ^ w)
/-- The low w bits shifted right, zero-filled; 0 for a count of w or more. -/
def shrBits (w : Nat) (a k : Quad) : Quad := if w ≤ k.toNat then 0#64 else quad (lowBits w a / 2 ^ k.toNat)
/-- The low w bits shifted right with the fill of bit w - 1, sign-extended. -/
def sarBits (w : Nat) (a k : Quad) : Quad :=
  let v := toSigned w a.toNat
  if w ≤ k.toNat then (if v < 0 then squad (-1) else 0#64) else squad (v / ((2 ^ k.toNat : Nat) : Int))
/-- The low w bits rotated left by k mod w. -/
def rolBits (w : Nat) (a k : Quad) : Quad :=
  let m := k.toNat % w
  quad (lowBits w a * 2 ^ m % 2 ^ w + lowBits w a / 2 ^ (w - m))

/-- SHL w (R157). -/
def execPShl (e w : Nat) (s : State) : Out := .next (runPetal e 2 1 (withWidth w (binary (shlBits w))) s)
/-- SHR w (R157). -/
def execPShr (e w : Nat) (s : State) : Out := .next (runPetal e 2 1 (withWidth w (binary (shrBits w))) s)
/-- SAR w (R157). -/
def execPSar (e w : Nat) (s : State) : Out := .next (runPetal e 2 1 (withWidth w (binary (sarBits w))) s)
/-- ROL w (R157). -/
def execPRol (e w : Nat) (s : State) : Out := .next (runPetal e 2 1 (withWidth w (binary (rolBits w))) s)
/-- ROR w (R157): a rotation left by w less k mod w. -/
def execPRor (e w : Nat) (s : State) : Out :=
  .next (runPetal e 2 1 (withWidth w (binary (fun a k => rolBits w a (quad (w - k.toNat % w))))) s)

/-- BITGET n (R157). -/
def execPBitget (e n : Nat) (s : State) : Out :=
  .next (runPetal e 2 1 (fun g s =>
    if 63 < n then pOpcode else unary (fun a => qbool (bitOf a.toNat n)) g s) s)
/-- BITSET n (R157). -/
def execPBitset (e n : Nat) (s : State) : Out :=
  .next (runPetal e 2 1 (fun g s =>
    if 63 < n then pOpcode else binary (fun a b => quad (withBit a.toNat n (b != 0#64))) g s) s)

/-- A conversion (R161). -/
def convertInstr (e t1 t2 : Nat) (truncate : Bool) (s : State) : State :=
  runPetal e 3 (convertCycles t1 t2) (fun g s =>
    match tyOf t1, tyOf t2 with
    | some (k1, n1), some (k2, n2) => unaryFlag (convert t1 t2 k1 n1 k2 n2 truncate) g s
    | _, _ => pOpcode) s

/-- CVT (R161). -/
def execPCvt (e t1 t2 : Nat) (s : State) : Out := .next (convertInstr e t1 t2 false s)
/-- CVTT (R161). -/
def execPCvtt (e t1 t2 : Nat) (s : State) : Out := .next (convertInstr e t1 t2 true s)

end Sys2Proof.Machine
end

