-- ==== Sys2Proof/Machine/PetalMem.lean ====
section
/-! DEFINITION. Petal loads, stores and COPY (05 R163-R165): the five spaces, their limits, and instance writes. -/

namespace Sys2Proof.Machine

/-- The spaces of R163 in the numbering of COPY (R164). -/
inductive Space where
  | loc | inst | inp | out | const
deriving DecidableEq, Repr

/-- The space a COPY number names. -/
def spaceOf (n : Nat) : Option Space :=
  match n with | 0 => some .loc | 1 => some .inst | 2 => some .inp | 3 => some .out | 4 => some .const | _ => none

/-- The base in the live bank and the limit of a space for the running task (R163). The constants lie in the code
bank, and their base counts from there. -/
def spaceRange (s : State) (e : Nat) (g : Engine) (sp : Space) : Nat × Nat :=
  match sp with
  | .loc => (g.lb, g.locLim)
  | .inst => (g.ib, g.instLim)
  | .inp =>
    match s.prog.active, s.taskRow g.task with
    | some u, some r => ((regionOf u e g.task).1, if g.err then 64 else r.inBytes)
    | _, _ => (0, 0)
  | .out =>
    match s.prog.active, s.taskRow g.task with
    | some u, some r => ((regionOf u e g.task).2, if g.err then 0 else r.outBytes)
    | _, _ => (0, 0)
  | .const => match s.prog.active with | some u => (constOff u e, 8 * constCount u e) | none => (0, 0)

/-- The fabric address of byte 0 of the bank a space lies in. -/
def spaceBank (s : State) (e : Nat) (sp : Space) : Nat := if sp = .const then codeBase s e else bankBase s e

/-- An instance write of bytes at a bank offset: it enters the frame's writes and marks its lines (R165, 04 R144). -/
def noteWrite (off : Nat) (bs : List Byte) (g : Engine) : Engine :=
  { g with
    writes := g.writes ++ [(off, bs)], lines := markLines g.lines off bs.length
    late := if g.err then markLines g.late off bs.length else g.late }

/-- Loads a value of type t at an offset of a space and pushes it in place of `drop` entries. -/
def loadAt (e t off drop : Nat) (sp : Space) (g : Engine) (s : State) : PRes :=
  match tyOf t with
  | none => pOpcode
  | some (k, n) =>
    let p := spaceRange s e g sp
    if p.2 < off + n then pLimit
    else
      let v := canonical k n (leNat (s.bytes (spaceBank s e sp + p.1 + off) n))
      push v { g with stack := g.stack.drop drop } s

/-- Stores entry q as type t at an offset of a space and drops `drop` entries. -/
def storeAt (e t off drop : Nat) (sp : Space) (q : Quad) (g : Engine) (s : State) : PRes :=
  match tyOf t with
  | none => pOpcode
  | some (k, n) =>
    let p := spaceRange s e g sp
    if p.2 < off + n then pLimit
    else
      let v := storeValue k n q
      let bs := leBytes n v.1
      let s := stickFlags v.2 false g (s.setBytes (spaceBank s e sp + p.1 + off) bs)
      let g : Engine := { g with stack := g.stack.drop drop }
      .ok (if sp = .inst then noteWrite (p.1 + off) bs g else g) s

/-- An operand (t, off) is in the range R156 gives it: a type code, and off naturally aligned (log entry 31). -/
def operandOk (t off : Nat) : Bool := match tyOf t with | some (_, n) => off % n == 0 | none => false

/-- A load of R157, direct: t, off. -/
def loadInstr (e t off : Nat) (sp : Space) (s : State) : State :=
  runPetal e 4 2 (fun g s =>
    if !operandOk t off then pOpcode
    else if 16 ≤ g.stack.length then pOver
    else loadAt e t off 0 sp g s) s

/-- A store of R157, direct: t, off. An error task stores to no output image (R173). -/
def storeInstr (e t off : Nat) (sp : Space) (s : State) : State :=
  runPetal e 4 2 (fun g s =>
    if !operandOk t off || (g.err && sp == .out) then pOpcode
    else match g.stack with
      | v :: _ => storeAt e t off 1 sp v g s
      | [] => pUnder) s

/-- The offset of element i, or none outside 0 to cnt - 1 (R164). -/
def element (t off cnt : Nat) (i : Quad) : Option Nat :=
  if i.toInt < 0 ∨ (cnt : Int) ≤ i.toInt then none else some (off + i.toNat * tySize t)

/-- A load of R157, indexed: t, off, cnt. -/
def loadElem (e t off cnt : Nat) (sp : Space) (s : State) : State :=
  runPetal e 6 4 (fun g s =>
    if !operandOk t off || cnt == 0 then pOpcode
    else match g.stack with
      | i :: _ => (match element t off cnt i with | some o => loadAt e t o 1 sp g s | none => pBounds)
      | [] => pUnder) s

/-- A store of R157, indexed: t, off, cnt. -/
def storeElem (e t off cnt : Nat) (sp : Space) (s : State) : State :=
  runPetal e 6 4 (fun g s =>
    if !operandOk t off || cnt == 0 || (g.err && sp == .out) then pOpcode
    else match g.stack with
      | i :: v :: _ => (match element t off cnt i with | some o => storeAt e t o 2 sp v g s | none => pBounds)
      | _ => pUnder) s

/-- LDL (R163). -/
def execPLdl (e t off : Nat) (s : State) : Out := .next (loadInstr e t off .loc s)
/-- STL (R163). -/
def execPStl (e t off : Nat) (s : State) : Out := .next (storeInstr e t off .loc s)
/-- LDI (R163). -/
def execPLdi (e t off : Nat) (s : State) : Out := .next (loadInstr e t off .inst s)
/-- STI (R163, R165). -/
def execPSti (e t off : Nat) (s : State) : Out := .next (storeInstr e t off .inst s)
/-- LDIN (R163). -/
def execPLdin (e t off : Nat) (s : State) : Out := .next (loadInstr e t off .inp s)
/-- LDOUT (R163). -/
def execPLdout (e t off : Nat) (s : State) : Out := .next (loadInstr e t off .out s)
/-- STOUT (R163). -/
def execPStout (e t off : Nat) (s : State) : Out := .next (storeInstr e t off .out s)
/-- LDXL (R164). -/
def execPLdxl (e t off cnt : Nat) (s : State) : Out := .next (loadElem e t off cnt .loc s)
/-- STXL (R164). -/
def execPStxl (e t off cnt : Nat) (s : State) : Out := .next (storeElem e t off cnt .loc s)
/-- LDXI (R164). -/
def execPLdxi (e t off cnt : Nat) (s : State) : Out := .next (loadElem e t off cnt .inst s)
/-- STXI (R164, R165). -/
def execPStxi (e t off cnt : Nat) (s : State) : Out := .next (storeElem e t off cnt .inst s)
/-- LDXIN (R164). -/
def execPLdxin (e t off cnt : Nat) (s : State) : Out := .next (loadElem e t off cnt .inp s)
/-- LDXOUT (R164). -/
def execPLdxout (e t off cnt : Nat) (s : State) : Out := .next (loadElem e t off cnt .out s)
/-- STXOUT (R164). -/
def execPStxout (e t off cnt : Nat) (s : State) : Out := .next (storeElem e t off cnt .out s)

/-- The pieces of a COPY into the instance space: it is split at every bank offset that is a multiple of 8 (R165). -/
def copyPieces (off : Nat) : Nat → List Byte → List (Nat × List Byte)
  | 0, _ => []
  | fuel + 1, bs =>
    if bs.isEmpty then []
    else
      let n := 8 - off % 8
      (off, bs.take n) :: copyPieces (off + n) fuel (bs.drop n)

/-- The spaces a COPY byte names: source in bits [3:0], destination in bits [7:4], which must be writable (R164). -/
def copySpaces (spaces : Nat) (err : Bool) : Option (Space × Space) :=
  match spaceOf (spaces % 16), spaceOf (spaces / 16 % 16) with
  | some a, some b => if b = .inp ∨ b = .const ∨ (err = true ∧ b = .out) then none else some (a, b)
  | _, _ => none

/-- COPY (R164, R165): len bytes from source offset s to destination offset d, as if through a buffer. -/
def execPCopy (e spaces len : Nat) (s : State) : Out :=
  .next (runPetal e 4 (4 + (len + 15) / 16) (fun g s =>
    match copySpaces spaces g.err with
    | none => pOpcode
    | some (a, b) =>
      if len = 0 ∨ 4096 < len then pOpcode
      else match g.stack with
        | d :: src :: rest =>
          let ra := spaceRange s e g a
          let rb := spaceRange s e g b
          if ra.2 < src.toNat + len ∨ rb.2 < d.toNat + len then pBounds
          else
            let bs := s.bytes (spaceBank s e a + ra.1 + src.toNat) len
            let off := rb.1 + d.toNat
            let g : Engine := { g with stack := rest }
            let g := if b = .inst then (copyPieces off len bs).foldl (fun g p => noteWrite p.1 p.2 g) g else g
            .ok g (s.setBytes (spaceBank s e b + off) bs)
        | _ => pUnder) s)

end Sys2Proof.Machine
end

