-- ==== Sys2Proof/Machine/PetalStack.lean ====
section
/-! DEFINITION. Petal stack and constant instructions (05 R157). -/

namespace Sys2Proof.Machine

/-- NOP (R157). -/
def execPNop (e : Nat) (s : State) : Out := .next (runPetal e 1 1 (fun g s => .ok g s) s)

/-- DUP (R157): a → a a. -/
def execPDup (e : Nat) (s : State) : Out :=
  .next (runPetal e 1 1 (fun g s => match g.stack with | a :: _ => push a g s | _ => pUnder) s)

/-- DROP (R157): a →. -/
def execPDrop (e : Nat) (s : State) : Out :=
  .next (runPetal e 1 1 (fun g s => match g.stack with | _ :: r => .ok { g with stack := r } s | _ => pUnder) s)

/-- SWAP (R157): a b → b a. -/
def execPSwap (e : Nat) (s : State) : Out :=
  .next (runPetal e 1 1 (fun g s =>
    match g.stack with | b :: a :: r => .ok { g with stack := a :: b :: r } s | _ => pUnder) s)

/-- OVER (R157): a b → a b a. -/
def execPOver (e : Nat) (s : State) : Out :=
  .next (runPetal e 1 1 (fun g s => match g.stack with | _ :: a :: _ => push a g s | _ => pUnder) s)

/-- ROT (R157): a b c → b c a. -/
def execPRot (e : Nat) (s : State) : Out :=
  .next (runPetal e 1 1 (fun g s =>
    match g.stack with | c :: b :: a :: r => .ok { g with stack := a :: c :: b :: r } s | _ => pUnder) s)

/-- PICK n (R157): a copy of the entry n below the top, n = 0 to 15. -/
def execPPick (e n : Nat) (s : State) : Out :=
  .next (runPetal e 2 1 (fun g s =>
    if 15 < n then pOpcode else match g.stack[n]? with | some a => push a g s | none => pUnder) s)

/-- PUSH0 (R157). -/
def execPPush0 (e : Nat) (s : State) : Out := .next (runPetal e 1 1 (push 0#64) s)

/-- PUSH1 (R157). -/
def execPPush1 (e : Nat) (s : State) : Out := .next (runPetal e 1 1 (push 1#64) s)

/-- PUSHB (R157): the byte operand sign-extended. -/
def execPPushb (e b : Nat) (s : State) : Out := .next (runPetal e 2 1 (push (squad (toSigned 8 b))) s)

/-- PUSHW (R157): the word operand sign-extended. -/
def execPPushw (e w : Nat) (s : State) : Out := .next (runPetal e 3 1 (push (squad (toSigned 16 w))) s)

/-- The constant of an index in engine e's pool, or none past its limit (R163, R177). -/
def constAt (s : State) (e idx : Nat) : Option Quad :=
  s.prog.active.bind (fun u =>
    if idx < constCount u e then some (quad (leNat (s.bytes (codeBase s e + constOff u e + 8 * idx) 8))) else none)

/-- LDK (R157): constant idx of the engine's pool. -/
def execPLdk (e idx : Nat) (s : State) : Out :=
  .next (runPetal e 3 2 (fun g s =>
    if 16 ≤ g.stack.length then pOver else match constAt s e idx with | some q => push q g s | none => pLimit) s)

end Sys2Proof.Machine
end

