-- ==== Sys2Proof/Machine/PetalSys.lean ====
section
/-! DEFINITION. Petal system calls (05 R171, R172; 04 R124). -/

namespace Sys2Proof.Machine

/-- GETFLAGS (R171): bit 0 OVF, bit 1 DIVZ. -/
def execPGetflags (e : Nat) (s : State) : Out :=
  .next (runPetal e 5 4 (fun g s =>
    let k := s.task g.task
    push (quad ((if k.ovf then 1 else 0) + (if k.divz then 2 else 0))) g s) s)

/-- CLRFLAGS (R171): clears the flags whose bits are set. -/
def execPClrflags (e : Nat) (s : State) : Out :=
  .next (runPetal e 5 4 (fun g s =>
    match g.stack with
    | m :: r => .ok { g with stack := r } (s.updTask g.task (fun k => { k with
        ovf := k.ovf && !bitOf m.toNat 0, divz := k.divz && !bitOf m.toNat 1 }))
    | _ => pUnder) s)

/-- T0 of the current frame from the time record (R171). -/
def frameTime (s : State) : Int :=
  ((leAt s.prog.pool.timeRec 0 6 * nsPerS + leAt s.prog.pool.timeRec 6 2 * frameNs : Nat) : Int)

/-- FRAMETIME (R171). -/
def execPFrametime (e : Nat) (s : State) : Out :=
  .next (runPetal e 5 4 (fun g s => push (squad (frameTime s)) g s) s)

/-- SEGINFO (R171): task index times 256 plus segment index. -/
def execPSeginfo (e : Nat) (s : State) : Out :=
  .next (runPetal e 5 4 (fun g s =>
    let t := match s.taskRow g.task with | some r => r.task | none => 0
    push (quad (t * 256 + g.seg)) g s) s)

/-- The 64 bytes of a request descriptor (R172, 03 R79, R80). -/
def descriptor (fam cmd seq : Nat) (payload : List Byte) : List Byte :=
  headerBytes fam cmd seq payload.length 0x20 0 0 1 ++ fitTo 48 payload

/-- Adds 1 at an index. -/
def incrAt (l : List Nat) (i : Nat) : List Nat := listSet l i (· + 1)

/-- The descriptor of a request is written into its ring, or discarded by the ring engine where Utlos has freed no
entry (04 R124). -/
def writeDescriptor (e q fam cmd : Nat) (payload : List Byte) (g : Engine) (s : State) : Engine × State :=
  let n := requestRing e q
  let d := descriptor fam cmd (g.seqs.getD q 0) payload
  let g : Engine := { g with
    seqs := listSet g.seqs q (fun v => (v + 1) % 65536), quota := incrAt g.quota q }
  let at' := g.posted.getD q 0
  if ringSize s n ≤ ringHeld s n + at' then
    (g, fwLog 0 d (ringFault (Ev.rcbOverflow n) s))
  else
    let s := s.setBytes (ringEntry s n (s.get (Reg.rcbProdProd n) + at')) d
    let s : State := { s with prog := { s.prog with postedBy := s.prog.postedBy ++ [(n, g.task)] } }
    ({ g with posted := incrAt g.posted q }, s)

/-- A request SYS (R171, R172): status 1 and SYS_DROP beyond the frame quota of half the ring's entries, else 0. -/
def requestSys (e q fam cmd off len : Nat) (lenOk : Bool) (s : State) : State :=
  runPetal e 5 24 (fun g s =>
    if !lenOk then pOpcode
    else if 16 ≤ g.stack.length then pOver
    else if g.instLim < off + len then pLimit
    else
      let payload := s.bytes (bankBase s e + g.ib + off) len
      if ringSize s (requestRing e q) / 2 ≤ g.quota.getD q 0 then
        push 1#64 g (s.updTask g.task (fun k => { k with drop := satTo 65535 (k.drop + 1) }))
      else
        let p := writeDescriptor e q fam cmd payload g s
        push 0#64 p.1 p.2) s

/-- ALARM (R171): DIAG.RAISE_ALARM on ring pair 2. -/
def execPAlarm (e off len : Nat) (s : State) : Out := .next (requestSys e 2 6 4 off len (len == 6) s)
/-- LOGEVT (R171): ARCHIVE.LOG_EVENT on ring pair 3. -/
def execPLogevt (e off len : Nat) (s : State) : Out :=
  .next (requestSys e 3 9 4 off len (1 ≤ len && len ≤ 48) s)
/-- LTRIG (R171): LARKSPUR.MANUAL_TRIGGER on ring pair 0. -/
def execPLtrig (e off len : Nat) (s : State) : Out :=
  .next (requestSys e 0 13 6 off len (1 ≤ len && len ≤ 48) s)
/-- CANTX (R171): CANAUX.TX_ENQUEUE on ring pair 1. -/
def execPCantx (e off len : Nat) (s : State) : Out :=
  .next (requestSys e 1 15 4 off len (1 ≤ len && len ≤ 48) s)

end Sys2Proof.Machine
end

