-- ==== Sys2Proof/Machine/Redundancy.lean ====
section
/-! DEFINITION. The REDUNDANCY family (11 R366) and the removal button (20 R543). -/

namespace Sys2Proof.Machine

/-- The age of singleton n's checkpoint in ms, or 0xFFFF_FFFF (R366). -/
def ckptAge (s : State) (n : Nat) : Nat :=
  match s.pair.ckpts.getD n none with
  | some c => satTo 0xFFFFFFFE ((s.mono - c.arrived) / 1000000)
  | none => 0xFFFFFFFF

/-- The status record of 64 bytes (R366). -/
def redundancyRecord (s : State) : List Byte :=
  let up := s.get Reg.hhkPairStatusHhkUp
  let flags := b2n s.held + 2 * b2n (s.on Reg.hhkPairStatusArmed) + 4 * b2n (s.on Reg.hhkPairStatusPairOkAlive)
    + 8 * b2n (bitOf up 0) + 16 * b2n (bitOf up 1) + 32 * b2n (s.on Reg.hhkPairStatusKillOut)
    + 64 * b2n (s.on Reg.hhkPairStatusKillIn) + 128 * b2n (s.on Reg.hhkPairStatusSelfSnap)
  let peer := s.pair.peers.head?
  leBytes 1 s.role ++ leBytes 1 ((peer.map (·.role)).getD 0xFF) ++ leBytes 1 (s.get Reg.hhkPairStatusRank)
    ++ leBytes 1 flags ++ leBytes 1 ((peer.map (·.slot)).getD 0xFF) ++ leBytes 1 (s.get Reg.hhkPairResyncPhase)
    ++ leBytes 2 s.pair.attempts
    ++ (match s.pair.handover with | some h => frameBytes h | none => zeros 8)
    ++ timeBytes s.pair.changeAt ++ leBytes 1 s.pair.cause ++ zeros 1 ++ leBytes 4 (s.get Reg.hhkPairGapLastNs)
    ++ leBytes 4 s.pair.takeovers ++ leBytes 4 s.pair.mismatches ++ leBytes 4 s.pair.selfSnaps
    ++ leBytes 4 (ckptAge s 0) ++ leBytes 4 (ckptAge s 1) ++ leBytes 4 (ckptAge s 2) ++ zeros 8

/-- REDUNDANCY.GET_STATUS. -/
def execRedundancyGetStatus (r : Req) (s : State) : Out :=
  .next (serve 11 1 r noPayload (fun s => .ok s (redundancyRecord s)) s)

/-- REDUNDANCY.HANDOVER names H, or is refused in the cases of R346 and during a group update (16 R466). -/
def execRedundancyHandover (r : Req) (s : State) : Out :=
  .next (serve 11 2 r noPayload (fun s =>
    if handoverRefused s || s.sec.groupStep ≠ 0 then conflict s
    else
      let s := nameHandover s
      .ok s (frameBytes (s.pair.handover.getD 0))) s)

/-- REDUNDANCY.LEAVE_GROUP: served on a STANDBY, SYNCING or ALONE-standby module (R336, R366). -/
def execRedundancyLeaveGroup (r : Req) (s : State) : Out :=
  .next (serve 11 3 r noPayload (fun s =>
    if s.sec.groupStep ≠ 0 then conflict s
    else if s.role = roleStandby ∨ s.role = roleSyncing ∨ s.role = roleAloneStandby then .ok (leaveGroup s) []
    else conflict s) s)

/-- Starts a removal request (R364): a PRIMARY hands over first, an ALONE module needs FORCE, and every other role
completes at once. None where it is refused. -/
def startRemoval (source : Nat) (force : Bool) (s : State) : Option State :=
  if s.role = rolePrimary then
    if handoverRefused s then none
    else some { (nameHandover s) with pair := { (nameHandover s).pair with removal := source, swapLed := 1 } }
  else if s.role = roleAlone && !force then none
  else some (completeRemoval s)

/-- A removal request is refused: the SWAP LED shows amber for 2 s (19, Removal). -/
def refuseRemoval (s : State) : State := { s with pair := { s.pair with swapLed := 3, swapAt := s.mono } }

/-- REDUNDANCY.REMOVE_REQUEST (R364, R543): answered with H, or 0 where no handover is needed. -/
def execRedundancyRemoveRequest (r : Req) (s : State) : Out :=
  .next (serve 11 4 r (exactly 4) (fun s =>
    if 2 ≤ leAt r.payload 0 1 then .err s stOutOfRange 0
    else if let some o := firstBad (resv r.payload 1 3) then .err s stOutOfRange o
    else if s.pair.removal ≠ 0 then conflict s
    else match startRemoval 1 (bitOf (leAt r.payload 0 1) 0) s with
      | none => .err (refuseRemoval s) stStateConflict noField
      | some s' => .ok s' (match s'.pair.handover with | some h => frameBytes h | none => zeros 8)) s)

/-- REDUNDANCY.RESYNC of this module or the peer (R366). A module with an invalid position stays in role none (01 R30). -/
def execRedundancyResync (r : Req) (s : State) : Out :=
  .next (serve 11 5 r (exactly 4) (fun s =>
    let t := leAt r.payload 0 1
    if 1 < t then .err s stOutOfRange 0
    else if let some o := firstBad (resv r.payload 1 3) then .err s stOutOfRange o
    else if t = 1 then
      match s.pair.peers.find? (fun p => p.role == roleStandby || p.role == roleAloneStandby) with
      | some p =>
        if isOwner s then .ok (reviewOwner (peerRole p.slot roleSyncing (toPeers "FORWARD" [22, p.slot] s))) []
        else conflict s
      | none => conflict s
    else if (s.role = roleNone && s.pair.left && s.get Reg.sysPositionGroupId ≤ 11) || s.role = roleStandby ||
        (s.role = roleAloneStandby && s.get Reg.hhkPairStatusHhkUp ≠ 0) then
      .ok (goSyncing { s with pair := { s.pair with left := false, refused := false } }) []
    else conflict s) s)

/-- The 128 bytes of eight signature slots (R366). -/
def slotBytes (l : SigSlots) : List Byte :=
  (List.range 8).flatMap (fun i => leBytes 8 (l.getD i (0, 0)).1 ++ leBytes 8 (l.getD i (0, 0)).2)

/-- A comparison record of 272 bytes (R366). -/
def cmpBytes (c : CmpRec) : List Byte :=
  frameBytes c.frame ++ leBytes 1 c.result ++ leBytes 1 (b2n c.selfSnap) ++ zeros 6 ++ slotBytes c.own
    ++ slotBytes c.peer

/-- REDUNDANCY.GET_SIGNATURES returns the latest comparison records, newest first (R366). -/
def execRedundancyGetSignatures (r : Req) (s : State) : Out :=
  .next (serve 11 6 r (exactly 4) (fun s =>
    let n := leAt r.payload 0 1
    if n = 0 ∨ 16 < n then .err s stOutOfRange 0
    else if let some o := firstBad (resv r.payload 1 3) then .err s stOutOfRange o
    else
      let l := s.pair.records.take n
      .ok s (leBytes 1 l.length ++ zeros 7 ++ l.flatMap cmpBytes)) s)

/-- BUTTON_PRESS (R543): a removal request; ignored while one from either source runs. -/
def execButtonPress (s : State) : Out :=
  .next (
    if s.pair.removal ≠ 0 then s
    else match startRemoval 2 false s with
      | some s' => s'
      | none => refuseRemoval s)

/-- BUTTON_HELD (R543): at 5 s a removal request with FORCE. -/
def execButtonHeld (s : State) : Out :=
  .next (
    if s.pair.removal ≠ 0 then s
    else match startRemoval 2 true s with
      | some s' => s'
      | none => refuseRemoval s)

end Sys2Proof.Machine
end

