-- ==== Sys2Proof/Machine/RegAccess.lean ====
section
/-! DEFINITION. Register accesses (00 R10-R12, 01 R24-R28), the DIAG family (03 R104-R108), writes by firmware, and
accesses over the fabric (15 R431-R435). -/

namespace Sys2Proof.Machine

/-! ### One register -/

/-- The bits of a field in its register. -/
def fldMask (f : Fld) : Nat := (2 ^ (f.hi + 1 - f.lo) - 1) * 2 ^ f.lo

/-- A mask touches a field. -/
def touches (mask : Nat) (f : Fld) : Bool := mask &&& fldMask f != 0

/-- The bits that a masked write leaves in a register of plain RW fields. -/
def merged (mask value : Nat) (a : Nat) (s : State) : Nat :=
  let w := (s.reg a).toNat
  w - (w &&& mask) + (value &&& mask)

/-- A read in the sense of R10: the RC fields of the register return to their restart values. -/
def readClears (a : Nat) (s : State) : State :=
  (fieldsAt a).foldl (fun s r => if r.acc = .rc then s.set r.fld r.rst else s) s

/-- A field is written under its access code (R10). RO and RC fields ignore it, and a WO field keeps nothing. -/
def writeField (mask value : Nat) (s : State) (r : FieldRow) : State :=
  if !touches mask r.fld then s
  else
    let old := s.get r.fld
    let m := mask / 2 ^ r.fld.lo
    let v := value / 2 ^ r.fld.lo
    let plain := old - (old &&& m) + (v &&& m) % 2 ^ (r.fld.hi + 1 - r.fld.lo)
    match r.acc with
    | .rw => s.set r.fld plain
    | .rwl => if s.on Reg.lckDiagCtrlLock then s else s.set r.fld plain
    | .w1c => s.set r.fld (old - (old &&& (m &&& v)))
    | _ => s

/-- The diagnosis enables govern what runs (13 R411, 14 R420, R424, 17 R481). -/
def followDiag (s : State) : State :=
  let s := s.setBit Reg.memStatusDscrubOn (s.on Reg.lckDiagCtrlDramScrubEn)
  let s := s.setBit Reg.memStatusSscrubOn (s.on Reg.lckDiagCtrlSramScrubEn)
  refreshLck (s.setBit Reg.nvsStatusSweepOn (s.on Reg.lckDiagCtrlNandSweepEn))

/-- A masked write of the register at `a`, with the action of its WO fields and of those that hardware acts on. -/
def writeReg (mask value a : Nat) (s : State) : State :=
  let act (f : Fld) : Nat := (value &&& mask) / 2 ^ f.lo % 2 ^ (f.hi + 1 - f.lo)
  let plain := merged mask value a s
  if a = Reg.bkdAlarmHiArm.addr then (if mask = 0 then s else writeAlarmHi plain s)
  else if a = Reg.bkdAlarmLoAlarmLo.addr then (if mask = 0 then s else writeAlarmLo plain s)
  else if a = Reg.bkdWdWd.addr then (if mask = 0 then s else writeWd plain s)
  else if 0x21000 ≤ a && a < 0x23000 && a % 32 == 0x10 then
    (if mask % 0x10000 = 0 then s else writeCons ((a - 0x21000) / 32) (plain % 0x10000) s)
  else if a = Reg.timRateAdjRate.addr then (if mask = 0 then s else writeRate (toSigned 32 plain) s)
  else if a = Reg.timSlewRemRem.addr then (if mask = 0 then s else writeSlew (toSigned 32 plain) s)
  else
    let was := s
    let s := (fieldsAt a).foldl (writeField mask value) s
    if a = Reg.bkdPwrPark.addr then
      let s := if s.get Reg.bkdPwrThermC < 40 || 85 < s.get Reg.bkdPwrThermC then
        s.set Reg.bkdPwrThermC (was.get Reg.bkdPwrThermC) else s
      if act Reg.bkdPwrPark = 1 then writePark s else s
    else if a = Reg.bkdBytesCtrlInit.addr then (if act Reg.bkdBytesCtrlInit = 1 then bytesInit s else s)
    else if a = Reg.memLogStatClear.addr then (if act Reg.memLogStatClear = 1 then clearMemLog s else s)
    else if a = Reg.pwrRstCtrlWarm.addr then
      let s := if act Reg.pwrRstCtrlWarm = 1 then requestWarm s else s
      requestDomains (act Reg.pwrRstCtrlDomain) s
    else if a = Reg.lckDiagCtrlLock.addr then followDiag s
    else if 0x21000 ≤ a && a < 0x23000 && a % 32 == 0x18 then ringCount ((a - 0x21000) / 32) 0 s
    else if a = Reg.fioStatusDioFault.addr then
      s.raiseIf (was.on Reg.fioStatusDioFault && !s.on Reg.fioStatusDioFault && s.on Reg.fioStatusFldLow)
        Ev.fioStatusDioFault
    else
      match (List.range 16).find? (fun g => a == (Reg.gateGPopPop g).addr) with
      | some g => if act (Reg.gateGPopPop g) = 1 then popReport g s else s
      | none => s

/-- A write of a whole register by a master of the fabric or by firmware: entries, the seal and doorbells depend on the
master (15 R436, 03 R75). -/
def writeBy (master : Nat) (priv : Bool) (a value : Nat) (s : State) : State :=
  if (gateEntryOf a).isSome || (mpuEntryOf a).isSome then writeEntry master priv a value s
  else if a = Reg.gateSealSeal.addr then writeSeal master priv value s
  else if 0x21000 ≤ a && a < 0x23000 && a % 32 == 0x14 then
    writeDoorbell master ((a - 0x21000) / 32) (value % 0x10000) s
  else writeReg 0xFFFFFFFF value a s

/-- An access of a master: one that is absent issues none (01 R20), and the debug port taints whether or not a gate admits
the access (01 R22). -/
def asMaster (master : Nat) (f : State → State) (s : State) : State :=
  if issues s master then f (if master = masterDebug then setTaint s else s) else s

/-- An access of a master to a register of the window other than a doorbell: a Petal engine issues none (01 R16). -/
def asWindowMaster (master : Nat) (f : State → State) (s : State) : State :=
  if isPe master then s else asMaster master f s

/-- GATE_SEAL. -/
def execGateSeal (master : Nat) (privileged : Bool) (value : Nat) (s : State) : Out :=
  .next (asWindowMaster master (writeSeal master privileged value) s)

/-- GATE_ENTRY_WRITE. -/
def execGateEntryWrite (master : Nat) (privileged : Bool) (address value : Nat) (s : State) : Out :=
  .next (asWindowMaster master (writeEntry master privileged address value) s)

/-- RCB_DOORBELL_WRITE. -/
def execRcbDoorbellWrite (master ring newProd : Nat) (s : State) : Out :=
  .next (asMaster master (writeDoorbell master ring newProd) s)

/-- Hardware sets the flag at a bit of a register; one of an RCB_EVENT sets RING_FAULT with it (03 R109). -/
def raiseAt (a bit : Nat) (s : State) : State :=
  if 0x21000 ≤ a ∧ a < 0x23000 then ringFault (eventAt a bit) s else s.raise (eventAt a bit)

/-- A clearing write meets a hardware setting of the same flag in its cycle: the set prevails and counts (R10, 03 R106).
`sets` names the flags, each by its register and bit. -/
def setsPrevail (written : Nat → Nat) (sets : List (Nat × Nat)) (s : State) : State :=
  sets.foldl (fun s p =>
    if bitOf (written p.1) p.2 && (fieldsAt p.1).any (fun f => f.acc == .w1c && f.fld.lo == p.2) then
      raiseAt p.1 p.2 s
    else s) s

/-- REGISTER_WRITE (R10): firmware writes a register; `sets` are the flags of it that hardware sets in the same cycle. -/
def execRegisterWrite (address value : Nat) (sets : List Nat) (s : State) : Out :=
  .next (
    if address % 4 = 0 && address < 0x100000 then
      setsPrevail (fun _ => value) (sets.map (fun b => (address, b))) (writeBy 8 true address value s)
    else s)

/-! ### The DIAG family -/

/-- A session may reach a service address (R24, R28). -/
def reachable (r : Req) (a : Nat) (s : State) : Bool :=
  let secure := match r.src with | .host i => s.on (Reg.mbxSessSecure i) | .petal _ => false
  a % 4 == 0 && decide (a < 0x100000) && (a / 0x10000 != 0xC || secure)

/-- The addresses of a DIAG access, with their word indexes. -/
def diagWords (a n : Nat) : List (Nat × Nat) := (List.range n).map (fun i => (i, a + 4 * i))

/-- The words at addresses, as bytes. -/
def wordBytes (l : List (Nat × Nat)) (s : State) : List Byte := l.flatMap (fun p => leBytes 4 (s.reg p.2).toNat)

/-- DIAG.READ_REGS (R104). -/
def execDiagReadRegs (r : Req) (s : State) : Out :=
  .next (serve 6 1 r (exactly 8) (fun s =>
    let n := leAt r.payload 4 2
    let l := diagWords (leAt r.payload 0 4) n
    if n = 0 ∨ 1024 < n ∨ leAt r.payload 6 2 ≠ 0 then .err s stOutOfRange noField
    else match l.find? (fun p => !reachable r p.2 s) with
      | some p => .err s stAddress p.1
      | none => .ok (l.foldl (fun s p => readClears p.2 s) s) (r.payload ++ wordBytes l (seenBy r s))) s)

/-- The bits that fields take in an entry register of a gate or an MPU (15 R443); none where the address holds none. -/
def entryBits (a : Nat) : Option Nat :=
  if (gateEntryOf a).isSome then some (entryMask ((a - 0xB1400) % 32 / 4 * 4))
  else if (mpuEntryOf a).isSome then some (entryMask ((a - 0xB9100) % 16 / 4 * 4))
  else none

/-- A DIAG write of a masked word is permitted (R12, R25, R105): the offset holds a register, and every field it touches is
writable via DIAG. Reserved bits are ignored. -/
def diagWritable (mask a : Nat) : Bool :=
  match entryBits a with
  | some b => mask &&& b == 0
  | none =>
    let fs := fieldsAt a
    !fs.isEmpty && fs.all (fun f => f.diag || !touches mask f.fld)

/-- DIAG.WRITE_REGS (R105); `sets` are the flags that hardware sets in the cycle of the write (R106). -/
def execDiagWriteRegs (r : Req) (sets : List (Nat × Nat)) (s : State) : Out :=
  .next (serve 6 2 r (fun n => decide (8 ≤ n) && n % 8 == 0) (fun s =>
    let p := r.payload
    let n := leAt p 4 2
    let l := diagWords (leAt p 0 4) n
    let mask (i : Nat) : Nat := leAt p (8 + 8 * i) 4
    if p.length ≠ 8 + 8 * n then .err s stBadLength noField
    else if n = 0 ∨ 64 < n ∨ leAt p 6 2 ≠ 0 then .err s stOutOfRange noField
    else match l.find? (fun q => !reachable r q.2 s || !diagWritable (mask q.1) q.2) with
      | some q => .err s (if reachable r q.2 s then stNotWritable else stAddress) q.1
      | none =>
        let s := l.foldl (fun s q => writeReg (mask q.1) (leAt p (12 + 8 * q.1) 4) q.2 s) s
        let written (a : Nat) : Nat :=
          match l.find? (fun q => q.2 == a) with
          | some q => mask q.1 &&& leAt p (12 + 8 * q.1) 4
          | none => 0
        let s := setsPrevail written sets s
        .ok s (wordBytes l (seenBy r s))) s)

/-- A W1C flag of block b is 1. -/
def attention (s : State) (b : Nat) : Bool :=
  (fieldTable.filter (fun r => r.acc == .w1c && r.fld.addr / 0x10000 == b)).any (fun r =>
    (instancesOf r).any (fun f => s.get f != 0))

/-- DIAG.GET_HEALTH (R107). -/
def execDiagGetHealth (r : Req) (s : State) : Out :=
  .next (serve 6 3 r noPayload (fun s =>
    .ok s (wordBytes [(0, Reg.sysRoleRole.addr), (1, Reg.sysModeTaint.addr), (2, Reg.timStatusFault.addr)] s
      ++ leBytes 2 (bitmap 16 (attention s)) ++ zeros 2 ++ leBytes 4 (s.get Reg.pwrUptimeSec)
      ++ (if s.on Reg.bkdStatusBytesOk then (s.backup.drop 4).take 4 else zeros 4))) s)

/-- DIAG.RAISE_ALARM, from a Petal engine (R108): SEVERITY is a free value (log entry 5). -/
def execDiagRaiseAlarm (r : Req) (s : State) : Out :=
  .next (serve 6 4 r (exactly 6) (fun s =>
    match r.src with
    | .petal e =>
      .ok (logEvent 2 (s.fresh % 4) (leAt r.payload 0 2) e ((r.payload.drop 2).take 4 ++ frameBytes (frameIndex s.now))
        s.took) []
    | .host _ => .ok s []) s)

/-! ### FABRIC_ACCESS (15 R431-R435) -/

/-- Who makes an access. -/
def whoOf (x : FabAcc) : Who := ⟨x.master, accSecure x.master x.secureRing, accPriv x.master x.user, x.kind⟩

/-- The rule for a byte of a target: the master's own MPU on a PE's own SRAM, the target's gate elsewhere. -/
def byteRule (s : State) (w : Who) (gate byte : Nat) : Option (Nat × Nat) :=
  if isPe w.master && gate == 1 + w.master % 4 then mpuByte s w byte else gateByte s w gate byte

/-- Why an access of n bytes is rejected: gate, first forbidden address, entry and cause. -/
def rejected (s : State) (w : Who) (a n : Nat) : Option (Nat × Nat × Nat × Nat) :=
  match targetOf a with
  | none => some (15, a, 0xFF, causeOutside)
  | some (base, size, gate) =>
    if base + size < a + n then some (15, base + size, 0xFF, causeOutside)
    else (firstForbidden (byteRule s w gate) a n).map (fun f =>
      (if isPe w.master && gate == 1 + w.master % 4 then 15 else gate, f.1, f.2.1, f.2.2))

/-- The consequence of a rejection for the master (R433): a Petal task faults, and the transfer of a DMA master ends with
INTERNAL, a received frame of a port with it. -/
def onReject (w : Who) (s : State) : State :=
  let s := s.send (.fabric w.master false [])
  if isPe w.master && (s.eng w.master).running then taskFault w.master codeBounds false s
  else if isDma w.master then
    let s := s.send (.resetEnd w.master (some stInternal))
    if w.kind = 1 && decide (0x12 ≤ w.master) && decide (w.master ≤ 0x16) then
      s.bump (Reg.netPortRxDropCnt (w.master - 0x12))
    else s
  else s

/-- The words of the window that an access touches, with the mask of the bytes it covers. -/
def windowWords (ofs n : Nat) : List (Nat × Nat) :=
  (List.range ((ofs % 4 + n + 3) / 4)).map (fun i =>
    let a := ofs / 4 * 4 + 4 * i
    (a, (List.range 4).foldl (fun m b => if ofs ≤ a + b ∧ a + b < ofs + n then m + 0xFF * 2 ^ (8 * b) else m) 0))

/-- An admitted access to the service window; a write narrower than a register merges its bytes (log entry 147). -/
def windowAccess (w : Who) (ofs n : Nat) (data : List Byte) (s : State) : State :=
  let ws := windowWords ofs n
  if w.kind = 1 then
    ws.foldl (fun s p =>
      let v := (List.range 4).foldl (fun v b =>
        if ofs ≤ p.1 + b then v + leAt data (p.1 + b - ofs) 1 * 2 ^ (8 * b) else v) 0
      if p.2 = 0xFFFFFFFF then writeBy w.master w.priv p.1 v s else writeReg p.2 v p.1 s) s
  else
    let bs := (List.range n).map (fun i => BitVec.ofNat 8 ((s.reg ((ofs + i) / 4 * 4)).toNat / 2 ^ (8 * ((ofs + i) % 4))))
    (ws.foldl (fun s p => readClears p.1 s) s).send (.fabric w.master true bs)

/-- Bytes that the spec does not give, as free values. -/
def freeBytes : Nat → State → List Byte × State
  | 0, s => ([], s)
  | n + 1, s => let r := freeBytes n s.took; (BitVec.ofNat 8 s.fresh :: r.1, r.2)

/-- A byte of an instance bank whose place in the image area the spec does not give: the two input pools and the task and
error records (04 R119; log entry 38). -/
def openImage (s : State) (a : Nat) : Bool :=
  let split := s.on Reg.sysModeSplit
  let half := if split then 0x100000 else 0x200000
  let o := (a - peSramBase 0) % 0x1000000 % half
  decide (peSramBase 0 ≤ a) && decide (a < peSramBase 4) && decide ((a - peSramBase 0) % 0x1000000 < 0x400000)
    && decide (imageArea split ≤ o) && !(decide (outPool split ≤ o) && decide (o < outPool split + 0x4000))

/-- A byte of the Larkspur ring or of the Aster buffers of DRAM (01 R32), whose layout the spec does not give (log entry
170). -/
def openDram (a : Nat) : Bool := decide (0xA0000000 ≤ a) && decide (a < 0xA8000000)

/-- A byte whose content another part of the state holds in a layout that the spec does not give. -/
def openByte (s : State) (a : Nat) : Bool := openImage s a || openDram a

/-- What a read of n bytes of memory answers: the bytes held, those of the CAN logs in DRAM among them (10 R317), and free values for those of `openByte`. -/
def readMem (a n : Nat) (s : State) : List Byte × State :=
  if (List.range n).any (fun i => openByte s (a + i)) then
    let r := freeBytes n s
    ((List.range n).map (fun i => if openByte s (a + i) then r.1.getD i 0#8 else (canLogByte s (a + i)).getD (s.byte (a + i))),
      r.2)
  else ((List.range n).map (fun i => (canLogByte s (a + i)).getD (s.byte (a + i))), s)

/-- An admitted access of n bytes. In a device window, whose content the spec does not give, a read answers free bytes
and the device's reaction to a write is left out (log entry 95); the boot ROM reads free bytes and takes no write. A write of
part of a DRAM line reads it first (14 R412), and no master takes the data of a line that does not decode (14 R416). -/
def admitted (w : Who) (a n : Nat) (data : List Byte) (bad : List Nat) (s : State) : State :=
  match targetOf a with
  | none => s
  | some (base, _, gate) =>
    if gate = 6 then windowAccess w (a - base) n data s
    else if 6 < gate then
      (if w.kind = 1 then s.send (.fabric w.master true []) else let r := freeBytes n s; r.2.send (.fabric w.master true r.1))
    else if w.kind = 1 then
      let whole := a % 64 == 0 && n % 64 == 0
      writeMem a ((data ++ zeros n).take n) (if gate = 0 && !whole then dramRead (a / 64) w.master bad s else s)
    else
      let (bs, s') := readMem a n s
      let poisoned := gate == 0 && !correctable s (lineErrors s bad).length && !(lineErrors s bad).isEmpty
      let s' := if gate = 0 then dramRead (a / 64) w.master bad s' else s'
      if poisoned then s'.send (.fabric w.master false []) else s'.send (.fabric w.master true bs)

/-- One access: rejected whole with its report and consequence, or admitted. The Bool tells whether it was admitted. -/
def oneAccess (w : Who) (x : FabAcc) (a beats : Nat) (data : List Byte) (s : State) : Bool × State :=
  let n := 2 ^ x.sizeLog2 * beats
  match rejected s w a n with
  | some (g, addr, ent, cause) => (false, onReject w (violation g w addr ent x.sizeLog2 beats cause s))
  | none => (true, admitted w a n data x.badSymbols s)

/-- The beats of a DMA transfer, one access each, up to the first that is rejected (R434). -/
def dmaBeats (w : Who) (x : FabAcc) : Nat → Nat → List Byte → State → State
  | 0, _, _, s => s
  | k + 1, a, data, s =>
    let n := 2 ^ x.sizeLog2
    let r := oneAccess w x a 1 (data.take n) s
    if r.1 then dmaBeats w x k (a + n) (data.drop n) r.2 else r.2

/-- The first n rings whose entries hold an address of the ring-engine SRAM, of those that a Petal engine owns. -/
def peRingHolds (s : State) (m a : Nat) : Bool :=
  (List.range 64).any (fun n => ringPe s n == m &&
    decide (ringEntry s n 0 ≤ a) && decide (a < ringEntry s n 0 + 64 * ringSize s n))

/-- A byte that a Petal engine may access (01 R16, R31): one of its own SRAM, of the memory of its own rings, or of their
doorbells. An address that belongs to no target is its MPU's to reject (R434). -/
def peReaches (s : State) (m a : Nat) : Bool :=
  match targetOf a with
  | none => true
  | some (base, _, gate) =>
    gate == 1 + m % 4 || (gate == 5 && peRingHolds s m a) ||
      (gate == 6 && (List.range 64).any (fun n => ringPe s n == m && (a - base) / 4 * 4 == (Reg.rcbDoorbellNewProd n).addr))

/-- A Petal engine issues an access of n bytes: every one of them is a byte it may access. -/
def peIssues (s : State) (m a n : Nat) : Bool := (List.range n).all (fun i => peReaches s m (a + i))

/-- FABRIC_ACCESS: the debug port taints whether or not it is admitted (01 R22). A DMA master's burst is checked beat by
beat, any other access as one. An access that no master issues (01 R16, R20, R31) does not occur. -/
def execFabricAccess (x : FabAcc) (s : State) : Out :=
  .next (
    if isPe x.master && !peIssues s x.master x.addr (2 ^ x.sizeLog2 * x.beats) then s
    else asMaster x.master (fun s =>
      let w := whoOf x
      if isDma x.master then dmaBeats w x x.beats x.addr x.data s
      else (oneAccess w x x.addr x.beats x.data s).2) s)

end Sys2Proof.Machine
end

