-- ==== Sys2Proof/Machine/Session.lean ====
section
/-! DEFINITION. Sessions and messages (03 R79-R103): handshakes, segmented messages, CANCEL, progress messages, and the
IDENT and SESSION families. -/

namespace Sys2Proof.Machine

/-! ### IDENT (R101) -/

/-- IDENT.GET_IDENT: the 96-byte identity record. -/
def execIdentGetIdent (r : Req) (s : State) : Out :=
  .next (serve 1 1 r noPayload (fun s =>
    let k := s.slot (s.get Reg.secStatusSlot)
    let flags := s.get Reg.sysModeSplit + 2 * s.get Reg.sysModeTaint + 4 * s.get Reg.sysModeRunNoTime
    .ok s (leBytes 1 (s.get Reg.sysVariantVariant) ++ leBytes 1 (s.get Reg.sysVariantBoardRev)
      ++ leBytes 1 (s.get Reg.sysPositionSlotId) ++ leBytes 1 (s.get Reg.sysPositionGroupId)
      ++ leBytes 1 (s.get Reg.sysModeGroupKind) ++ leBytes 1 flags ++ leBytes 1 (s.get Reg.secStatusSlot)
      ++ leBytes 1 (s.get Reg.secStatusTrial) ++ s.sec.serial ++ k.version
      ++ leBytes 8 (match s.prog.active with | some u => u.id | none => 0) ++ s.sec.idDigest ++ zeros 12)) s)

/-- IDENT.GET_BLOCK_VERSIONS: the 16 _ID registers; SEC_ID reads 0 outside the secure world (R28). -/
def execIdentGetBlockVersions (r : Req) (s : State) : Out :=
  .next (serve 1 2 r noPayload (fun s =>
    let secure := match r.src with | .host i => s.on (Reg.mbxSessSecure i) | .petal _ => false
    .ok s ((List.range 16).flatMap (fun b =>
      leBytes 4 (if b = 12 && !secure then 0 else (s.reg (0x10000 * b)).toNat)))) s)

/-! ### SESSION (R102) -/

/-- The 24-byte session record. -/
def sessionRecord (s : State) (i : Nat) : List Byte :=
  let c := s.sess i
  if !s.on (Reg.mbxSessOpen i) then leBytes 1 i ++ zeros 23
  else
    leBytes 1 i ++ leBytes 1 (1 + 2 * s.get (Reg.mbxSessSecure i) + (if c.timeUnchecked then 4 else 0))
      ++ leBytes 1 (s.get (Reg.mbxSessPort i)) ++ leBytes 1 (s.get (Reg.mbxSessHeld i))
      ++ leBytes 1 (s.get (Reg.mbxSessActive i)) ++ leBytes 1 (s.get (Reg.mbxSessOutstanding i)) ++ leBytes 2 c.idleS
      ++ timeBytes c.start ++ zeros 6

/-- The index of a request's session; a Petal request has none. -/
def sessOf (r : Req) : Nat := match r.src with | .host i => i | .petal _ => 16

/-- SESSION.GET_INFO. -/
def execSessionGetInfo (r : Req) (s : State) : Out :=
  .next (serve 2 1 r noPayload (fun s => .ok s (sessionRecord (seenBy r s) (sessOf r))) s)

/-- SESSION.SET_ACTIVE_ROLES: a non-empty subset of the held roles. -/
def execSessionSetActiveRoles (r : Req) (s : State) : Out :=
  .next (serve 2 2 r (exactly 1) (fun s =>
    let m := leAt r.payload 0 1
    let held := s.get (Reg.mbxSessHeld (sessOf r))
    if m = 0 || m &&& held != m then .err s stOutOfRange 0 else .ok (s.set (Reg.mbxSessActive (sessOf r)) m) []) s)

/-- SESSION.KEEPALIVE. -/
def execSessionKeepalive (r : Req) (s : State) : Out := .next (serve 2 3 r noPayload (fun s => .ok s []) s)

/-- SESSION.SET_IDLE. -/
def execSessionSetIdle (r : Req) (s : State) : Out :=
  .next (serve 2 4 r (exactly 2) (fun s =>
    match firstBad (inRange r.payload 0 2 10 3600) with
    | some d => .err s stOutOfRange d
    | none => .ok (s.updSess (sessOf r) (fun c => { c with idleS := leAt r.payload 0 2 })) []) s)

/-- SESSION.SUBSCRIBE: SEC only from a secure-world session. DETAIL of the refusal is 0xFFFF, as for every WORLD_DENIED: a
model's choice (log entry 187). -/
def execSessionSubscribe (r : Req) (s : State) : Out :=
  .next (serve 2 5 r (exactly 2) (fun s =>
    let m := leAt r.payload 0 2
    if bitOf m 12 && !s.on (Reg.mbxSessSecure (sessOf r)) then .err s stWorldDenied noField
    else .ok (s.updSess (sessOf r) (fun c => { c with subs := m })) []) s)

/-- SESSION.CLOSE: the response, then close_notify. -/
def execSessionClose (r : Req) (s : State) : Out :=
  .next (
    let t := serve 2 6 r noPayload (fun s => .ok s []) s
    if accepted 2 6 r noPayload (beginsAfresh (sessOf r) r s) then closeSession (sessOf r) (t.send (.tls (sessOf r) "close_notify")) else t)

/-- SESSION.LIST_SESSIONS. -/
def execSessionListSessions (r : Req) (s : State) : Out :=
  .next (serve 2 7 r noPayload (fun s => .ok s ((List.range 16).flatMap (sessionRecord (seenBy r s)))) s)

/-- SESSION.TERMINATE: another session closes; a free index has nothing to close. -/
def execSessionTerminate (r : Req) (s : State) : Out :=
  .next (serve 2 8 r (exactly 1) (fun s =>
    let i := leAt r.payload 0 1
    if 16 ≤ i ∨ i = sessOf r then .err s stOutOfRange 0
    else .ok (if s.on (Reg.mbxSessOpen i) then closeSession i s else s) []) s)

/-! ### Handshakes (R86-R89) -/

/-- The TCP port of the mailbox (R86). -/
def mbxTcpPort : Nat := 4880

/-- The module listens on a port: one in use that the network configuration enables for management, with its secure channel
up where it carries MACsec (08 R253, R273), and SVC while none has been
written (log entry 62). -/
def listens (s : State) (port : Nat) : Bool :=
  let b := s.conf objNet
  if (objGet s.cfg.applied objNet).isEmpty then port == 4
  else decide (port ≤ 4) && portOpen s port && portMgmt b port

/-- Version, cipher suite, group, signature and authentication are those of R86. -/
def tlsSupported (x : Handshake) : Bool :=
  x.version == 0x0304 && (x.suite == 0x1302 || x.suite == 0x1301) && (x.group == 0x0018 || x.group == 0x001D)
    && x.sig == 0x0503 && x.auth == 0 && !x.cert.isEmpty

/-- A validity period holds now; while CLASS is 5 it is not checked (R87). -/
def inPeriod (s : State) (lo hi : Nat) : Bool :=
  s.get Reg.timStatusClass == 5 || (decide (lo ≤ certTime s) && decide (certTime s ≤ hi))

/-- The client certificate chains to a client CA anchor, no CRL loaded revokes it, and it is in its validity period (R86,
R87). -/
def certValid (x : Handshake) (s : State) : Bool :=
  Config.certChains (s.sec.anchors.getD 0 []) x.cert && !Config.certRevoked (heldCrls s) x.cert
    && inPeriod s x.certFrom x.certTo

/-- The module roles of an IEC 62351-8 role value, as a bitmap (R87). -/
def roleBit (updater v : Int) : Nat :=
  if v = 0 then 1 else if v = 1 then 2 else if v = 2 then 4 else if v = 4 then 8 else if v = updater then 16 else 0

/-- The module roles that a certificate yields, of those in their validity periods. -/
def rolesOf (s : State) (l : List CertRole) : Nat :=
  let updater := sleAt (storedForm s objSec) 4 2
  l.foldl (fun m v => if inPeriod s v.validFrom v.validTo then m ||| roleBit updater v.role else m) 0

/-- Why a handshake fails, as its alert (R86-R88); none where it qualifies. -/
def handshakeAlert (x : Handshake) (s : State) : Option String :=
  let roles := rolesOf s x.roles
  if x.alpn = 0 || !tlsSupported x then some "handshake_failure"
  else if !certValid x s then some "bad_certificate"
  else if roles = 0 then some "access_denied"
  else if x.alpn = 2 && !(bitOf roles 3 || bitOf roles 4) then some "access_denied"
  else none

/-- The session indexes of a world. -/
def worldIndexes (secure : Bool) : List Nat := if secure then [14, 15] else List.range 14

/-- A failed handshake counts against its source; the eighth within 60 s refuses the source (R89). -/
def failedHandshake (addr : Nat) (s : State) : State :=
  let recent := (s.mbx.failures.filter (fun p => decide (s.mono < p.2 + 60 * nsPerS))) ++ [(addr, s.mono)]
  let n := (recent.filter (fun p => p.1 == addr)).length
  let m : MbxSt := if 8 ≤ n then
      { s.mbx with failures := recent.filter (fun p => p.1 != addr), lockout := s.mbx.lockout ++ [addr] }
    else { s.mbx with failures := recent }
  ({ s with mbx := m }).raise Ev.mbxAuthFail

/-- Session i opens, once the server has presented itself (16 R454). -/
def openSession (i : Nat) (x : Handshake) (s : State) : State :=
  let roles := rolesOf s x.roles
  let s := (s.send (.certificates i (presented s))).setReg (Reg.mbxSessOpen i).addr 0#32
  let s := (s.setBit (Reg.mbxSessOpen i) true).setBit (Reg.mbxSessSecure i) (x.alpn == 2)
  let s := ((s.set (Reg.mbxSessPort i) x.port).set (Reg.mbxSessHeld i) roles).set (Reg.mbxSessActive i) roles
  showSessions (s.updSess i (fun _ =>
    { timeUnchecked := s.get Reg.timStatusClass == 5, addr := x.addr, start := s.now, subject := leNat (Config.sha384 x.cert) }))

/-- TLS_HANDSHAKE. An alert names session 16, since none exists. -/
def execTlsHandshake (x : Handshake) (s : State) : Out :=
  .next (
    if !s.sec.fwUp || !listens s x.port || x.tcp ≠ mbxTcpPort then s
    else if s.mbx.lockout.contains x.addr then s.raise Ev.mbxRefused
    else match handshakeAlert x s with
      | some a => failedHandshake x.addr (s.send (.tls 16 a))
      | none =>
        match (worldIndexes (x.alpn == 2)).find? (fun i => !s.on (Reg.mbxSessOpen i)) with
        | some i => openSession i x s
        | none => (s.send (.tls 16 "access_denied")).raise Ev.mbxRefused)

/-- HANDSHAKE_LOCKOUT_END. -/
def execHandshakeLockoutEnd (addr : Nat) (s : State) : Out :=
  .next { s with mbx := { s.mbx with lockout := s.mbx.lockout.filter (· != addr) } }

/-- SESSION_IDLE_TIMEOUT. -/
def execSessionIdleTimeout (sess : Nat) (s : State) : Out :=
  .next (if s.on (Reg.mbxSessOpen sess) then closeSession sess s else s)

/-- SESSION_LOSS. -/
def execSessionLoss (sess : Nat) (s : State) : Out :=
  .next (if s.on (Reg.mbxSessOpen sess) then closeSession sess s else s)

/-! ### Messages that fail checks 1 to 3 (R93) -/

/-- A family of R99. -/
def famKnown (fam : Nat) : Bool := decide (1 ≤ fam) && decide (fam ≤ 16)

/-- MALFORMED: a message that fails check 1, 2 or 3, or has no session; one that passes them is its own command's. -/
def execMalformed (fam cmd : Nat) (r : Req) (s : State) : Out :=
  .next (
    match r.src with
    | .host i =>
      let s := beginsAfresh i r s
      if !s.on (Reg.mbxSessOpen i) then respond i r.seq fam cmd stNotAuthenticated (detailBytes noField) s
      else if framingLost r then closeSession i (respondMalformed i r.seq fam cmd s)
      else if r.segment = 0 && (s.sess i).segs.any (fun a => a.seq == r.seq) then dropSegments i fam cmd r.seq s
      else if !headerOk r then respondMalformed i r.seq fam cmd s
      else if !famKnown fam then carryRequest i fam cmd r (refuse fam cmd .d r stUnknownFamily noField s)
      else match cmdRow fam cmd with
        | none => carryRequest i fam cmd r (refuse fam cmd .d r stUnknownCommand noField s)
        | some row =>
          if row.cls = .d && noResponse r then carryRequest i fam cmd r (respondMalformed i r.seq fam cmd s) else s
    | .petal e =>
      if !(headerOk r && postedOk e fam s) then
        refuse fam cmd .d r stMalformed noField (ringFault (Ev.rcbBadDesc (petalRing e fam)) s)
      else if (cmdRow fam cmd).isNone then
        refuse fam cmd .d r (if famKnown fam then stUnknownCommand else stUnknownFamily) noField s
      else s)

/-! ### Segmented messages (R84, R85) -/

/-- The state that an outcome goes on from. -/
def nextOr (s : State) (o : Out) : State := match o with | .next t => t | _ => s

/-- A segmented message, which carries more than 64 KiB, is acted on: the commands that accept such a payload, and the
checks of R93 up to the length for every other. -/
def actOn (fam cmd : Nat) (r : Req) (s : State) : State :=
  if (cmdRow fam cmd).isNone then nextOr s (execMalformed fam cmd r s)
  else match fam, cmd with
    | 3, 3 => nextOr s (execConfigStageSettings r s)
    | 4, 2 => nextOr s (execProgramLoadUnit r s)
    | 8, 3 => nextOr s (execUpdateTransfer r s)
    | 10, 2 => nextOr s (execSecuritySetTrustAnchors r s)
    | 10, 3 => nextOr s (execSecurityLoadCrl r s)
    | 10, 4 => nextOr s (execSecurityEnrol r s)
    | _, _ => serve fam cmd r (fun _ => false) (fun s => .ok s []) s

/-- The form of one segment. -/
def segmentOk (r : Req) : Bool :=
  (r.flags == 0 || r.flags == 0x20) && r.status == 0 && decide (r.segment < r.segCount) && r.payload.length == r.length
    && (if r.segment + 1 = r.segCount then decide (1 ≤ r.length) else r.length == 65536)

/-- A segment continues the message in reception. -/
def segmentFits (a : SegAsm) (fam cmd : Nat) (r : Req) : Bool :=
  a.fam == fam && a.cmd == cmd && a.flags == r.flags && a.segCount == r.segCount && a.next == r.segment

/-- A segment with SEGMENT 0 begins a message. -/
def beginSegments (i fam cmd : Nat) (r : Req) (s : State) : State :=
  s.updSess i (fun c => { c with
    discard := c.discard.filter (· != r.seq)
    segs := c.segs ++ [⟨r.seq, fam, cmd, r.flags, r.segCount, 1, r.payload⟩] })

/-- The next segment of a message arrives; with the last the message is acted on. -/
def takeSegment (i : Nat) (a : SegAsm) (r : Req) (s : State) : State :=
  let rest := (s.sess i).segs.filter (fun b => b.seq != a.seq)
  if r.segment + 1 = r.segCount then
    actOn a.fam a.cmd { r with payload := a.data ++ r.payload } (s.updSess i (fun c => { c with segs := rest }))
  else s.updSess i (fun c => { c with segs := rest ++ [{ a with next := a.next + 1, data := a.data ++ r.payload }] })

/-- MESSAGE_SEGMENT: a segment of a message of 2 to 16 segments; a message of one segment is its own command's. -/
def execMessageSegment (fam cmd : Nat) (r : Req) (s : State) : Out :=
  .next (
    match r.src with
    | .petal _ => nextOr s (execMalformed fam cmd r s)
    | .host i =>
      if !s.on (Reg.mbxSessOpen i) then respond i r.seq fam cmd stNotAuthenticated (detailBytes noField) s
      else if framingLost r then closeSession i (respondMalformed i r.seq fam cmd s)
      else if r.segCount = 1 then s
      else match (s.sess i).segs.find? (fun a => a.seq == r.seq) with
        | some a => if segmentFits a fam cmd r && segmentOk r then takeSegment i a r s else dropSegments i fam cmd r.seq s
        | none =>
          if r.segment ≠ 0 && (s.sess i).discard.contains r.seq then s
          else if r.segment = 0 && segmentOk r then beginSegments i fam cmd r s
          else dropSegments i fam cmd r.seq s)

/-- SEG_TIMEOUT: 10 s after its first segment a message is not whole. -/
def execSegTimeout (sess seq : Nat) (s : State) : Out :=
  .next (
    match (s.sess sess).segs.find? (fun a => a.seq == seq) with
    | none => s
    | some a =>
      let s := s.updSess sess (fun c => { c with segs := c.segs.filter (fun b => b.seq != seq) })
      (respond sess seq a.fam a.cmd stSegTimeout (detailBytes noField) s).raise Ev.mbxSegTimeout)

/-! ### CANCEL (R96) -/

/-- Check 1 of R93 on a CANCEL. -/
def cancelOk (r : Req) : Bool :=
  r.flags == 0x10 && r.status == 0 && r.length == 0 && r.payload.isEmpty && r.segment == 0 && r.segCount == 1

/-- A response to a CANCEL. -/
def answerCancel (i fam cmd : Nat) (r : Req) (status : Nat) (s : State) : State :=
  let s := post (.response i r.seq fam cmd status true (detailBytes noField)) s
  if status = stMalformed then s.raise Ev.mbxMalformed else s

/-- The swap of a change can no longer be stopped (04 R148). -/
def swapFixed (s : State) : Bool :=
  let next := if s.now - s.t0 < 225000 then frameIndex s.now else frameIndex s.now + 1
  s.prog.named.any (fun p => p.2 == Named.swap && decide (p.1 < next + 2))

/-- A class D command ends with CANCELLED, and what it had under way stops where it can: an online change as by
ABORT_CHANGE. -/
def cancelCommand (i : Nat) (o : Outst) (s : State) : State :=
  let s := finishD i o stCancelled (detailBytes noField) s
  if o.fam = 4 ∧ o.cmd = 3 then
    (if swapFixed s then s else dropChange stCancelled (toPeers "FORWARD" [6] s))
  else cancelEffect i o s

/-- CANCEL: it names an outstanding request of its session by SEQ, FAMILY and COMMAND together. -/
def execCancel (fam cmd : Nat) (r : Req) (s : State) : Out :=
  .next (
    match r.src with
    | .petal _ => refuse fam cmd .d r (if cancelOk r then stRoleDenied else stMalformed) noField s
    | .host i =>
      if !s.on (Reg.mbxSessOpen i) then answerCancel i fam cmd r stNotAuthenticated s
      else if !cancelOk r then
        let s := answerCancel i fam cmd r stMalformed s
        if framingLost r then closeSession i s else s
      else if !famKnown fam then answerCancel i fam cmd r stUnknownFamily s
      else match cmdRow fam cmd with
        | none => answerCancel i fam cmd r stUnknownCommand s
        | some row =>
          if famSecure fam && !s.on (Reg.mbxSessSecure i) then answerCancel i fam cmd r stWorldDenied s
          else if !mayIssue (s.get (Reg.mbxSessActive i)) row.role then answerCancel i fam cmd r stRoleDenied s
          else match (s.sess i).out.find? (fun o => o.seq == r.seq && o.fam == fam && o.cmd == cmd) with
            | none => answerCancel i fam cmd r stNoSuchSeq s
            | some o => if row.cls = .d then cancelCommand i o s else answerCancel i fam cmd r stStateConflict s)

/-! ### PROGRESS_MESSAGE (R95) -/

/-- STAGE and what follows the first 8 bytes of START_CHANGE's progress (04 R149): stage 3 carries S. -/
def changeProgress (s : State) : Nat × List Byte :=
  match s.prog.change with
  | none => (1, [])
  | some c =>
    (c.stage, match s.prog.named.find? (fun p => p.2 == Named.swap) with
      | some p => if c.stage = 3 then frameBytes p.1 else []
      | none => [])

/-- The progress of an outstanding command: PERMILLE and BYTES_DONE, and STAGE where the spec gives none, are free values
(log entry 5). -/
def sendProgress (i : Nat) (o : Outst) (s : State) : State :=
  let p := s.fresh % 1001
  let n := s.took.fresh % 2 ^ 32
  let t := s.took.took
  let m (st : Nat) (tail : List Byte) (s : State) : State :=
    post (.progress i o.seq o.fam o.cmd (progressHead st p n ++ tail)) s
  if o.fam = 4 ∧ o.cmd = 3 then m (changeProgress s).1 (changeProgress s).2 t
  else if o.fam = 8 ∧ o.cmd = 7 then m s.sec.groupStep (leBytes 2 s.sec.updatingSlot) t
  else if o.fam = 4 ∧ o.cmd = 2 then m 6 [] t
  else if o.fam = 13 ∧ o.cmd = 5 then m (match s.lsp.cal with | some c => calStage c (frameIndex s.now) | none => 3) [] t
  else m (t.fresh % 65536) [] t.took

/-- PROGRESS_MESSAGE: a class D command reports, and a transfer sends its next part. -/
def execProgressMessage (sess seq : Nat) (s : State) : Out :=
  .next (
    match (s.sess sess).out.find? (fun o => o.seq == seq && outIsD o) with
    | none => s
    | some o =>
      match s.nvs.transfers.find? (fun t => t.sess == sess && t.seq == seq) with
      | some t => advanceTransfer t s
      | none => sendProgress sess o s)

/-! ### MMS associations (08 R277) -/

/-- The TCP ports of MMS: over TLS, and plain. -/
def mmsTlsPort : Nat := 3782
def mmsPlainPort : Nat := 102

/-- A client of MMS is let in: over TLS 1.3 with a certificate of its own that is valid and yields a module role (03 R87),
or over plain TCP while ALLOW_PLAIN_MMS is set (log entry 172). -/
def mmsAdmits (x : Handshake) (s : State) : Bool :=
  if x.tcp = mmsPlainPort then allowPlain (s.conf objNet)
  else x.tcp == mmsTlsPort && x.version == 0x0304 && x.auth == 0 && !x.cert.isEmpty && certValid x s
    && rolesOf s x.roles != 0

/-- MMS_ASSOCIATE: up to 8 associations, on a port with MMS enabled. -/
def execMmsAssociate (x : Handshake) (s : State) : Out :=
  .next (
    let b := s.conf objNet
    if !(portOpen s x.port && portMms b x.port) then s
    else match (List.range 8).find? (fun i => !(s.mmsAssoc i).opened) with
      | some i =>
        if mmsAdmits x s then
          mmsSend i "Associate" [] (s.updNet (fun n => { n with
            mms := listSet n.mms i (fun _ => ⟨true, x.port, rolesOf s x.roles, x.tcp == mmsPlainPort⟩) }))
        else netTx x.port "MMS Associate refused" [] s
      | none => netTx x.port "MMS Associate refused" [] s)

end Sys2Proof.Machine
end

