-- ==== Sys2Proof/Machine/Voting.lean ====
section
/-! DEFINITION. Output voting of a triad (12 R385, R386). -/

namespace Sys2Proof.Machine

/-- A triad member that runs in step votes: PRIMARY or STANDBY, and ALONE as defined master. -/
def votes (s : State) : Bool :=
  s.triad && s.time.ticked && (s.role == rolePrimary || s.role == roleStandby || s.role == roleAlone)

/-- The own vote record of frame k: OUT_SIG of each engine slot as the signature record holds it. -/
def ownVote (s : State) (k : Nat) : VoteRec where
  slot := s.get Reg.sysPositionSlotId
  frame := k
  sigs := match s.pair.ownSigs.find? (fun r => r.1 == k) with
    | some r => r.2.map (·.1)
    | none => List.replicate 8 0
  dos := s.fio.wantDo % 256
  held := s.get Reg.hhkTriadHeld
  ao := s.fio.wantAo

/-- VOTE_RECORD_SEND: by T0+209 us. -/
def execVoteRecordSend (s : State) : Out :=
  .next (
    if !votes s then s
    else
      let s := toPhase 209000 s
      let v := ownVote s (frameIndex s.now)
      toPeers "VOTE" (v.frame :: v.sigs ++ [v.dos, v.held] ++ v.ao) s)

/-- VOTE_FRAME: a peer's vote record arrives for the vote at T0+212 us. -/
def execVoteFrame (h : HhkHdr) (sigs : List Nat) (doVals held : Nat) (ao : List Nat) (s : State) : Out :=
  .next (onRouted typeVote (sigs ++ [doVals, held] ++ ao) h (fun s =>
    let v : VoteRec := ⟨h.srcSlot, h.frame, sigs, doVals, held, ao⟩
    { s with pair := { s.pair with votes := (v :: s.pair.votes).take 8 } }) s)

/-- The rank of a member by its slot. -/
def rankOf (s : State) (slot : Nat) : Nat :=
  if slot = s.get Reg.sysPositionSlotId then s.get Reg.hhkPairStatusRank
  else match findPeer slot s with
    | some p => p.rank
    | none => 3

/-- The DO values and AO setpoints voted over two or three records, the own first. -/
def votedOutputs (s : State) (own : VoteRec) : List VoteRec → Nat × List Nat
  | a :: b :: _ =>
    (bitMajority 8 own.dos a.dos b.dos,
      (List.range 4).map (fun n => midBy totalKey32 (own.ao.getD n 0) (a.ao.getD n 0) (b.ao.getD n 0)))
  | [a] => (own.dos, if rankOf s own.slot < rankOf s a.slot then own.ao else a.ao)
  | [] => (own.dos, own.ao)

/-- The outcome of a vote over three records (R386): the member whose record differs from two that match is the output
minority; a master that agrees with neither of two that differ releases nothing in the frame (R385). -/
def judgeMinority (k : Nat) (own a b : VoteRec) (s : State) : State :=
  let eqA : Bool := own.sigs == a.sigs
  let eqB : Bool := own.sigs == b.sigs
  let eqAB : Bool := a.sigs == b.sigs
  if !eqA && !eqB then
    if eqAB then leaveAsMinority s
    else if s.held then { s with pair := { s.pair with muted := some k } }
    else s
  else if eqA && !eqB then foundMinority b.slot s
  else if eqB && !eqA then foundMinority a.slot s
  else s

/-- VOTE: T0+212 us. A defined master whose signatures of the frame before were the minority's leaves here (R387). -/
def execVote (s : State) : Out :=
  .next (
    if !votes s then s
    else
      let s := toPhase 212000 s
      let k := frameIndex s.now
      let own := ownVote s k
      let others := (s.pair.votes.filter (fun v => v.frame == k)).take 2
      let r := votedOutputs s own others
      let s := s.updFio (fun f => { f with wantDo := r.1, wantAo := r.2 })
      let s : State := { s with pair := { s.pair with votes := s.pair.votes.filter (fun v => k < v.frame) } }
      if s.pair.leaveAt = some k && s.held then leaveAsMinority s
      else match others with
      | [a, b] => showTriad (judgeMinority k own a b s)
      | _ => s)

end Sys2Proof.Machine
end

