-- ==== Sys2Proof/Machine/Dispatch.lean ====
section
/-! DEFINITION. The dispatch of commands: one arm per constructor of `Instr`, each one direct call of its meaning. -/

namespace Sys2Proof.Machine

def exec (i : Instr) (s : State) : Host.Outcome State Fault Refusal :=
  match i with
  | .tick => Sys2Proof.Machine.execTick s
  | .frameSyncEdge phaseNs => Sys2Proof.Machine.execFrameSyncEdge phaseNs s
  | .syncFault => Sys2Proof.Machine.execSyncFault s
  | .timeBusWord others word => Sys2Proof.Machine.execTimeBusWord others word s
  | .timeBusWordMissing => Sys2Proof.Machine.execTimeBusWordMissing s
  | .tickEligible => Sys2Proof.Machine.execTickEligible s
  | .slewCorrection => Sys2Proof.Machine.execSlewCorrection s
  | .ptpOffsetSample port domain ofs => Sys2Proof.Machine.execPtpOffsetSample port domain ofs s
  | .fineLock src => Sys2Proof.Machine.execFineLock src s
  | .lockLoss src => Sys2Proof.Machine.execLockLoss src s
  | .irigbFrame localSec x => Sys2Proof.Machine.execIrigbFrame localSec x s
  | .ppsEdge falling => Sys2Proof.Machine.execPpsEdge falling s
  | .disagree => Sys2Proof.Machine.execDisagree s
  | .ocxoStopped => Sys2Proof.Machine.execOcxoStopped s
  | .ocxoFreqCheck which ppm => Sys2Proof.Machine.execOcxoFreqCheck which ppm s
  | .ocxoDrifting => Sys2Proof.Machine.execOcxoDrifting s
  | .leapApply => Sys2Proof.Machine.execLeapApply s
  | .timSlewRemWrite value => Sys2Proof.Machine.execTimSlewRemWrite value s
  | .timRateAdjWrite value => Sys2Proof.Machine.execTimRateAdjWrite value s
  | .diSinkWindow ua mv => Sys2Proof.Machine.execDiSinkWindow ua mv s
  | .fieldSampleInstant x => Sys2Proof.Machine.execFieldSampleInstant x s
  | .wettingPulseEnd => Sys2Proof.Machine.execWettingPulseEnd s
  | .executionWindowEnd => Sys2Proof.Machine.execExecutionWindowEnd s
  | .stateSigCompare differ => Sys2Proof.Machine.execStateSigCompare differ s
  | .voteRecordSend => Sys2Proof.Machine.execVoteRecordSend s
  | .vote => Sys2Proof.Machine.execVote s
  | .outputRelease => Sys2Proof.Machine.execOutputRelease s
  | .txLate port => Sys2Proof.Machine.execTxLate port s
  | .fieldUpdate => Sys2Proof.Machine.execFieldUpdate s
  | .errorTaskRun e => Sys2Proof.Machine.execErrorTaskRun e s
  | .bankSwap => Sys2Proof.Machine.execBankSwap s
  | .injectedComparatorTest failed real => Sys2Proof.Machine.execInjectedComparatorTest failed real s
  | .cutOff => Sys2Proof.Machine.execCutOff s
  | .snapshotSelect => Sys2Proof.Machine.execSnapshotSelect s
  | .sigMiss => Sys2Proof.Machine.execSigMiss s
  | .pNop e => Sys2Proof.Machine.execPNop e s
  | .pDup e => Sys2Proof.Machine.execPDup e s
  | .pDrop e => Sys2Proof.Machine.execPDrop e s
  | .pSwap e => Sys2Proof.Machine.execPSwap e s
  | .pOver e => Sys2Proof.Machine.execPOver e s
  | .pRot e => Sys2Proof.Machine.execPRot e s
  | .pPick e n => Sys2Proof.Machine.execPPick e n s
  | .pPush0 e => Sys2Proof.Machine.execPPush0 e s
  | .pPush1 e => Sys2Proof.Machine.execPPush1 e s
  | .pPushb e b => Sys2Proof.Machine.execPPushb e b s
  | .pPushw e w => Sys2Proof.Machine.execPPushw e w s
  | .pLdk e idx => Sys2Proof.Machine.execPLdk e idx s
  | .pLdl e t off => Sys2Proof.Machine.execPLdl e t off s
  | .pStl e t off => Sys2Proof.Machine.execPStl e t off s
  | .pLdi e t off => Sys2Proof.Machine.execPLdi e t off s
  | .pSti e t off => Sys2Proof.Machine.execPSti e t off s
  | .pLdin e t off => Sys2Proof.Machine.execPLdin e t off s
  | .pLdout e t off => Sys2Proof.Machine.execPLdout e t off s
  | .pStout e t off => Sys2Proof.Machine.execPStout e t off s
  | .pLdxl e t off cnt => Sys2Proof.Machine.execPLdxl e t off cnt s
  | .pStxl e t off cnt => Sys2Proof.Machine.execPStxl e t off cnt s
  | .pLdxi e t off cnt => Sys2Proof.Machine.execPLdxi e t off cnt s
  | .pStxi e t off cnt => Sys2Proof.Machine.execPStxi e t off cnt s
  | .pLdxin e t off cnt => Sys2Proof.Machine.execPLdxin e t off cnt s
  | .pLdxout e t off cnt => Sys2Proof.Machine.execPLdxout e t off cnt s
  | .pStxout e t off cnt => Sys2Proof.Machine.execPStxout e t off cnt s
  | .pCopy e spaces len => Sys2Proof.Machine.execPCopy e spaces len s
  | .pAdd e c => Sys2Proof.Machine.execPAdd e c s
  | .pSub e c => Sys2Proof.Machine.execPSub e c s
  | .pMul e c => Sys2Proof.Machine.execPMul e c s
  | .pDiv e c => Sys2Proof.Machine.execPDiv e c s
  | .pMod e c => Sys2Proof.Machine.execPMod e c s
  | .pNeg e wide => Sys2Proof.Machine.execPNeg e wide s
  | .pAbs e wide => Sys2Proof.Machine.execPAbs e wide s
  | .pAddF e c => Sys2Proof.Machine.execPAddF e c s
  | .pSubF e c => Sys2Proof.Machine.execPSubF e c s
  | .pMulF e c => Sys2Proof.Machine.execPMulF e c s
  | .pDivF e c => Sys2Proof.Machine.execPDivF e c s
  | .pNegF e c => Sys2Proof.Machine.execPNegF e c s
  | .pAbsF e c => Sys2Proof.Machine.execPAbsF e c s
  | .pSqrt e c => Sys2Proof.Machine.execPSqrt e c s
  | .pMinF e c => Sys2Proof.Machine.execPMinF e c s
  | .pMaxF e c => Sys2Proof.Machine.execPMaxF e c s
  | .pSin e => Sys2Proof.Machine.execPSin e s
  | .pCos e => Sys2Proof.Machine.execPCos e s
  | .pAtan2 e => Sys2Proof.Machine.execPAtan2 e s
  | .pExp e => Sys2Proof.Machine.execPExp e s
  | .pLn e => Sys2Proof.Machine.execPLn e s
  | .pEq e => Sys2Proof.Machine.execPEq e s
  | .pNe e => Sys2Proof.Machine.execPNe e s
  | .pLtS e => Sys2Proof.Machine.execPLtS e s
  | .pLeS e => Sys2Proof.Machine.execPLeS e s
  | .pGtS e => Sys2Proof.Machine.execPGtS e s
  | .pGeS e => Sys2Proof.Machine.execPGeS e s
  | .pLtU e => Sys2Proof.Machine.execPLtU e s
  | .pLeU e => Sys2Proof.Machine.execPLeU e s
  | .pGtU e => Sys2Proof.Machine.execPGtU e s
  | .pGeU e => Sys2Proof.Machine.execPGeU e s
  | .pEqF e c => Sys2Proof.Machine.execPEqF e c s
  | .pNeF e c => Sys2Proof.Machine.execPNeF e c s
  | .pLtF e c => Sys2Proof.Machine.execPLtF e c s
  | .pLeF e c => Sys2Proof.Machine.execPLeF e c s
  | .pGtF e c => Sys2Proof.Machine.execPGtF e c s
  | .pGeF e c => Sys2Proof.Machine.execPGeF e c s
  | .pMinS e => Sys2Proof.Machine.execPMinS e s
  | .pMaxS e => Sys2Proof.Machine.execPMaxS e s
  | .pMinU e => Sys2Proof.Machine.execPMinU e s
  | .pMaxU e => Sys2Proof.Machine.execPMaxU e s
  | .pSel e => Sys2Proof.Machine.execPSel e s
  | .pAnd e => Sys2Proof.Machine.execPAnd e s
  | .pOr e => Sys2Proof.Machine.execPOr e s
  | .pXor e => Sys2Proof.Machine.execPXor e s
  | .pNot e w => Sys2Proof.Machine.execPNot e w s
  | .pBnot e => Sys2Proof.Machine.execPBnot e s
  | .pShl e w => Sys2Proof.Machine.execPShl e w s
  | .pShr e w => Sys2Proof.Machine.execPShr e w s
  | .pSar e w => Sys2Proof.Machine.execPSar e w s
  | .pRol e w => Sys2Proof.Machine.execPRol e w s
  | .pRor e w => Sys2Proof.Machine.execPRor e w s
  | .pBitget e n => Sys2Proof.Machine.execPBitget e n s
  | .pBitset e n => Sys2Proof.Machine.execPBitset e n s
  | .pCvt e t1 t2 => Sys2Proof.Machine.execPCvt e t1 t2 s
  | .pCvtt e t1 t2 => Sys2Proof.Machine.execPCvtt e t1 t2 s
  | .pBr e d => Sys2Proof.Machine.execPBr e d s
  | .pBrz e d => Sys2Proof.Machine.execPBrz e d s
  | .pBrnz e d => Sys2Proof.Machine.execPBrnz e d s
  | .pBrl e lo hi => Sys2Proof.Machine.execPBrl e lo hi s
  | .pLoop e max len => Sys2Proof.Machine.execPLoop e max len s
  | .pEndloop e => Sys2Proof.Machine.execPEndloop e s
  | .pLidx e n => Sys2Proof.Machine.execPLidx e n s
  | .pCallfb e off idx => Sys2Proof.Machine.execPCallfb e off idx s
  | .pCallfn e idx => Sys2Proof.Machine.execPCallfn e idx s
  | .pRet e => Sys2Proof.Machine.execPRet e s
  | .pSeg e => Sys2Proof.Machine.execPSeg e s
  | .pEnd e => Sys2Proof.Machine.execPEnd e s
  | .pUnassignedOpcode e uncorrectable => Sys2Proof.Machine.execPUnassignedOpcode e uncorrectable s
  | .pCycleFault e => Sys2Proof.Machine.execPCycleFault e s
  | .pGetflags e => Sys2Proof.Machine.execPGetflags e s
  | .pClrflags e => Sys2Proof.Machine.execPClrflags e s
  | .pFrametime e => Sys2Proof.Machine.execPFrametime e s
  | .pSeginfo e => Sys2Proof.Machine.execPSeginfo e s
  | .pAlarm e off len => Sys2Proof.Machine.execPAlarm e off len s
  | .pLogevt e off len => Sys2Proof.Machine.execPLogevt e off len s
  | .pLtrig e off len => Sys2Proof.Machine.execPLtrig e off len s
  | .pCantx e off len => Sys2Proof.Machine.execPCantx e off len s
  | .rcbDoorbellWrite master ring newProd => Sys2Proof.Machine.execRcbDoorbellWrite master ring newProd s
  | .rcbConsWrite ring cons => Sys2Proof.Machine.execRcbConsWrite ring cons s
  | .ringInterruptTimer ring => Sys2Proof.Machine.execRingInterruptTimer ring s
  | .tlsHandshake x => Sys2Proof.Machine.execTlsHandshake x s
  | .handshakeLockoutEnd addr => Sys2Proof.Machine.execHandshakeLockoutEnd addr s
  | .messageSegment fam cmd r => Sys2Proof.Machine.execMessageSegment fam cmd r s
  | .segTimeout sess seq => Sys2Proof.Machine.execSegTimeout sess seq s
  | .cancel fam cmd r => Sys2Proof.Machine.execCancel fam cmd r s
  | .progressMessage sess seq => Sys2Proof.Machine.execProgressMessage sess seq s
  | .sessionIdleTimeout sess => Sys2Proof.Machine.execSessionIdleTimeout sess s
  | .sessionLoss sess => Sys2Proof.Machine.execSessionLoss sess s
  | .identGetIdent r => Sys2Proof.Machine.execIdentGetIdent r s
  | .identGetBlockVersions r => Sys2Proof.Machine.execIdentGetBlockVersions r s
  | .identGetCertificates r => Sys2Proof.Machine.execIdentGetCertificates r s
  | .sessionGetInfo r => Sys2Proof.Machine.execSessionGetInfo r s
  | .sessionSetActiveRoles r => Sys2Proof.Machine.execSessionSetActiveRoles r s
  | .sessionKeepalive r => Sys2Proof.Machine.execSessionKeepalive r s
  | .sessionSetIdle r => Sys2Proof.Machine.execSessionSetIdle r s
  | .sessionSubscribe r => Sys2Proof.Machine.execSessionSubscribe r s
  | .sessionClose r => Sys2Proof.Machine.execSessionClose r s
  | .sessionListSessions r => Sys2Proof.Machine.execSessionListSessions r s
  | .sessionTerminate r => Sys2Proof.Machine.execSessionTerminate r s
  | .configGetActive r => Sys2Proof.Machine.execConfigGetActive r s
  | .configReadSettings r => Sys2Proof.Machine.execConfigReadSettings r s
  | .configStageSettings r => Sys2Proof.Machine.execConfigStageSettings r s
  | .configActivate r => Sys2Proof.Machine.execConfigActivate r s
  | .configDiscardStaged r => Sys2Proof.Machine.execConfigDiscardStaged r s
  | .programGetStatus r => Sys2Proof.Machine.execProgramGetStatus r s
  | .programLoadUnit r => Sys2Proof.Machine.execProgramLoadUnit r s
  | .programStartChange r => Sys2Proof.Machine.execProgramStartChange r s
  | .migrationComplete => Sys2Proof.Machine.execMigrationComplete s
  | .programAbortChange r => Sys2Proof.Machine.execProgramAbortChange r s
  | .programRun r => Sys2Proof.Machine.execProgramRun r s
  | .programStop r => Sys2Proof.Machine.execProgramStop r s
  | .programStartFrame => Sys2Proof.Machine.execProgramStartFrame s
  | .programStopFrame => Sys2Proof.Machine.execProgramStopFrame s
  | .programGetTaskStats r => Sys2Proof.Machine.execProgramGetTaskStats r s
  | .programReadVar r => Sys2Proof.Machine.execProgramReadVar r s
  | .retainSave => Sys2Proof.Machine.execRetainSave s
  | .forceList r => Sys2Proof.Machine.execForceList r s
  | .forceSet r => Sys2Proof.Machine.execForceSet r s
  | .forceRelease r => Sys2Proof.Machine.execForceRelease r s
  | .forceReleaseAll r => Sys2Proof.Machine.execForceReleaseAll r s
  | .diagReadRegs r => Sys2Proof.Machine.execDiagReadRegs r s
  | .diagWriteRegs r sets => Sys2Proof.Machine.execDiagWriteRegs r sets s
  | .diagGetHealth r => Sys2Proof.Machine.execDiagGetHealth r s
  | .diagRaiseAlarm r => Sys2Proof.Machine.execDiagRaiseAlarm r s
  | .timeGetStatus r => Sys2Proof.Machine.execTimeGetStatus r s
  | .timeGetSources r => Sys2Proof.Machine.execTimeGetSources r s
  | .timeGetConfig r => Sys2Proof.Machine.execTimeGetConfig r s
  | .timeSetConfig r => Sys2Proof.Machine.execTimeSetConfig r s
  | .timeStep r => Sys2Proof.Machine.execTimeStep r s
  | .timeSetTaiUtc r => Sys2Proof.Machine.execTimeSetTaiUtc r s
  | .updateGetStatus r => Sys2Proof.Machine.execUpdateGetStatus r s
  | .updateBegin r => Sys2Proof.Machine.execUpdateBegin r s
  | .updateTransfer r => Sys2Proof.Machine.execUpdateTransfer r s
  | .updateInstall r => Sys2Proof.Machine.execUpdateInstall r s
  | .installRestart => Sys2Proof.Machine.execInstallRestart s
  | .updateConfirm r => Sys2Proof.Machine.execUpdateConfirm r s
  | .updateAbort r => Sys2Proof.Machine.execUpdateAbort r s
  | .updateGroupUpdate r => Sys2Proof.Machine.execUpdateGroupUpdate r s
  | .trialHealthy => Sys2Proof.Machine.execTrialHealthy s
  | .trialWindowExpiry => Sys2Proof.Machine.execTrialWindowExpiry s
  | .updateLockExpiry => Sys2Proof.Machine.execUpdateLockExpiry s
  | .archiveList r => Sys2Proof.Machine.execArchiveList r s
  | .archiveExport r => Sys2Proof.Machine.execArchiveExport r s
  | .archiveDelete r => Sys2Proof.Machine.execArchiveDelete r s
  | .archiveLogEvent r => Sys2Proof.Machine.execArchiveLogEvent r s
  | .archiveReadLog r => Sys2Proof.Machine.execArchiveReadLog r s
  | .securityGetState r => Sys2Proof.Machine.execSecurityGetState r s
  | .securitySetTrustAnchors r => Sys2Proof.Machine.execSecuritySetTrustAnchors r s
  | .securityLoadCrl r => Sys2Proof.Machine.execSecurityLoadCrl r s
  | .securityEnrol r => Sys2Proof.Machine.execSecurityEnrol r s
  | .securitySetRoleMap r => Sys2Proof.Machine.execSecuritySetRoleMap r s
  | .securityRevokeRootSlot r => Sys2Proof.Machine.execSecurityRevokeRootSlot r s
  | .securityRotateGroupKeys r => Sys2Proof.Machine.execSecurityRotateGroupKeys r s
  | .redundancyGetStatus r => Sys2Proof.Machine.execRedundancyGetStatus r s
  | .redundancyHandover r => Sys2Proof.Machine.execRedundancyHandover r s
  | .redundancyLeaveGroup r => Sys2Proof.Machine.execRedundancyLeaveGroup r s
  | .redundancyRemoveRequest r => Sys2Proof.Machine.execRedundancyRemoveRequest r s
  | .redundancyResync r => Sys2Proof.Machine.execRedundancyResync r s
  | .redundancyGetSignatures r => Sys2Proof.Machine.execRedundancyGetSignatures r s
  | .asterGetStatus r => Sys2Proof.Machine.execAsterGetStatus r s
  | .asterGetConfig r => Sys2Proof.Machine.execAsterGetConfig r s
  | .asterSetConfig r => Sys2Proof.Machine.execAsterSetConfig r s
  | .asterGetPhasors r => Sys2Proof.Machine.execAsterGetPhasors r s
  | .asterSetStreaming r => Sys2Proof.Machine.execAsterSetStreaming r s
  | .larkspurGetStatus r => Sys2Proof.Machine.execLarkspurGetStatus r s
  | .larkspurGetConfig r => Sys2Proof.Machine.execLarkspurGetConfig r s
  | .larkspurSetConfig r => Sys2Proof.Machine.execLarkspurSetConfig r s
  | .larkspurGetEvents r => Sys2Proof.Machine.execLarkspurGetEvents r s
  | .larkspurCalibrate r => Sys2Proof.Machine.execLarkspurCalibrate r s
  | .larkspurManualTrigger r => Sys2Proof.Machine.execLarkspurManualTrigger r s
  | .fieldioGetStatus r => Sys2Proof.Machine.execFieldioGetStatus r s
  | .fieldioGetConfig r => Sys2Proof.Machine.execFieldioGetConfig r s
  | .fieldioSetConfig r => Sys2Proof.Machine.execFieldioSetConfig r s
  | .fieldioClearFault r => Sys2Proof.Machine.execFieldioClearFault r s
  | .canauxGetStatus r => Sys2Proof.Machine.execCanauxGetStatus r s
  | .canauxGetConfig r => Sys2Proof.Machine.execCanauxGetConfig r s
  | .canauxSetConfig r => Sys2Proof.Machine.execCanauxSetConfig r s
  | .canauxTxEnqueue r => Sys2Proof.Machine.execCanauxTxEnqueue r s
  | .canauxRecover r => Sys2Proof.Machine.execCanauxRecover r s
  | .canauxReadRx r => Sys2Proof.Machine.execCanauxReadRx r s
  | .lifetimeGetSummary r => Sys2Proof.Machine.execLifetimeGetSummary r s
  | .lifetimeReadRecords r => Sys2Proof.Machine.execLifetimeReadRecords r s
  | .lifetimeAddNote r => Sys2Proof.Machine.execLifetimeAddNote r s
  | .configEffectiveFrame => Sys2Proof.Machine.execConfigEffectiveFrame s
  | .svFrameRx f => Sys2Proof.Machine.execSvFrameRx f s
  | .streamLost n => Sys2Proof.Machine.execStreamLost n s
  | .estimateSetComplete ns => Sys2Proof.Machine.execEstimateSetComplete ns s
  | .c37118Command stream client cmd => Sys2Proof.Machine.execC37118Command stream client cmd s
  | .markEdge => Sys2Proof.Machine.execMarkEdge s
  | .laneFrame lane pairs mark => Sys2Proof.Machine.execLaneFrame lane pairs mark s
  | .groupArmed g => Sys2Proof.Machine.execGroupArmed g s
  | .wavefrontDetect g k n lanes => Sys2Proof.Machine.execWavefrontDetect g k n lanes s
  | .eventClose g => Sys2Proof.Machine.execEventClose g s
  | .rgooseRetransmit => Sys2Proof.Machine.execRgooseRetransmit s
  | .rgooseReportRx x => Sys2Proof.Machine.execRgooseReportRx x s
  | .remoteWaitExpiry => Sys2Proof.Machine.execRemoteWaitExpiry s
  | .recordComplete => Sys2Proof.Machine.execRecordComplete s
  | .recordStored => Sys2Proof.Machine.execRecordStored s
  | .gooseFrameRx f => Sys2Proof.Machine.execGooseFrameRx f s
  | .gooseTalExpiry idx => Sys2Proof.Machine.execGooseTalExpiry idx s
  | .netFrameRx f => Sys2Proof.Machine.execNetFrameRx f s
  | .linkChange port up speed seated fault => Sys2Proof.Machine.execLinkChange port up speed seated fault s
  | .prpSupervision pair => Sys2Proof.Machine.execPrpSupervision pair s
  | .nodeForget pair mac => Sys2Proof.Machine.execNodeForget pair mac s
  | .entryForget pair src seq => Sys2Proof.Machine.execEntryForget pair src seq s
  | .macsecDown port => Sys2Proof.Machine.execMacsecDown port s
  | .macsecUp port => Sys2Proof.Machine.execMacsecUp port s
  | .mmsAssociate x => Sys2Proof.Machine.execMmsAssociate x s
  | .mmsConclude assoc => Sys2Proof.Machine.execMmsConclude assoc s
  | .mmsAbort assoc => Sys2Proof.Machine.execMmsAbort assoc s
  | .mmsGetNameList assoc => Sys2Proof.Machine.execMmsGetNameList assoc s
  | .mmsIdentify assoc => Sys2Proof.Machine.execMmsIdentify assoc s
  | .mmsRead assoc index => Sys2Proof.Machine.execMmsRead assoc index s
  | .mmsGetVariableAccessAttributes assoc index => Sys2Proof.Machine.execMmsGetVariableAccessAttributes assoc index s
  | .mmsGetNamedVarListAttributes assoc list => Sys2Proof.Machine.execMmsGetNamedVarListAttributes assoc list s
  | .mmsWriteRcb assoc rcb enable value => Sys2Proof.Machine.execMmsWriteRcb assoc rcb enable value s
  | .mmsFileDirectory assoc => Sys2Proof.Machine.execMmsFileDirectory assoc s
  | .mmsFileOpen assoc recId => Sys2Proof.Machine.execMmsFileOpen assoc recId s
  | .mmsFileRead assoc frsm count => Sys2Proof.Machine.execMmsFileRead assoc frsm count s
  | .mmsFileClose assoc frsm => Sys2Proof.Machine.execMmsFileClose assoc frsm s
  | .fldLow => Sys2Proof.Machine.execFldLow s
  | .fldNormal => Sys2Proof.Machine.execFldNormal s
  | .lockout => Sys2Proof.Machine.execLockout s
  | .lockoutEnd mv => Sys2Proof.Machine.execLockoutEnd mv s
  | .doLatchOff n => Sys2Proof.Machine.execDoLatchOff n s
  | .stageHoldEnd => Sys2Proof.Machine.execStageHoldEnd s
  | .canFrameRx c f => Sys2Proof.Machine.execCanFrameRx c f s
  | .canBusIdle c sof lost => Sys2Proof.Machine.execCanBusIdle c sof lost s
  | .canTxDone c reason bitPos dominant extra => Sys2Proof.Machine.execCanTxDone c reason bitPos dominant extra s
  | .canRecoveryComplete c => Sys2Proof.Machine.execCanRecoveryComplete c s
  | .canBusIntegration c => Sys2Proof.Machine.execCanBusIntegration c s
  | .firmwareUp absent selfTest => Sys2Proof.Machine.execFirmwareUp absent selfTest s
  | .peerWaitExpiry => Sys2Proof.Machine.execPeerWaitExpiry s
  | .ownLineFall => Sys2Proof.Machine.execOwnLineFall s
  | .quietTimeExpiry => Sys2Proof.Machine.execQuietTimeExpiry s
  | .claimConfirm low gapNs => Sys2Proof.Machine.execClaimConfirm low gapNs s
  | .ownFault => Sys2Proof.Machine.execOwnFault s
  | .peerKillOutAssert => Sys2Proof.Machine.execPeerKillOutAssert s
  | .peerKillIn => Sys2Proof.Machine.execPeerKillIn s
  | .peerKillInRelease => Sys2Proof.Machine.execPeerKillInRelease s
  | .pairOkMissing => Sys2Proof.Machine.execPairOkMissing s
  | .failedRestart => Sys2Proof.Machine.execFailedRestart s
  | .heartbeatTx => Sys2Proof.Machine.execHeartbeatTx s
  | .heartbeat h groupId slot rank role taint time => Sys2Proof.Machine.execHeartbeat h groupId slot rank role taint time s
  | .hollyhockLost => Sys2Proof.Machine.execHollyhockLost s
  | .snapshotFrame h part => Sys2Proof.Machine.execSnapshotFrame h part s
  | .signatureFrame h slots held peerFault => Sys2Proof.Machine.execSignatureFrame h slots held peerFault s
  | .voteFrame h sigs doVals held ao => Sys2Proof.Machine.execVoteFrame h sigs doVals held ao s
  | .join h split bundleVersion stFormat stUpMin => Sys2Proof.Machine.execJoin h split bundleVersion stFormat stUpMin s
  | .leave h => Sys2Proof.Machine.execLeave h s
  | .failed h cls => Sys2Proof.Machine.execFailed h cls s
  | .ready h ok => Sys2Proof.Machine.execReady h ok s
  | .ack h singleton => Sys2Proof.Machine.execAck h singleton s
  | .taintRelease h => Sys2Proof.Machine.execTaintRelease h s
  | .resyncPage h address data replica => Sys2Proof.Machine.execResyncPage h address data replica s
  | .resyncLines h lines q => Sys2Proof.Machine.execResyncLines h lines q s
  | .resyncTimeout => Sys2Proof.Machine.execResyncTimeout s
  | .checkpointSend => Sys2Proof.Machine.execCheckpointSend s
  | .checkpoint h singleton seqNo frame content => Sys2Proof.Machine.execCheckpoint h singleton seqNo frame content s
  | .singletonRestart => Sys2Proof.Machine.execSingletonRestart s
  | .handoverPrepare => Sys2Proof.Machine.execHandoverPrepare s
  | .handoverRelease => Sys2Proof.Machine.execHandoverRelease s
  | .handoverFrame => Sys2Proof.Machine.execHandoverFrame s
  | .forward h f => Sys2Proof.Machine.execForward h f s
  | .key h chain final => Sys2Proof.Machine.execKey h chain final s
  | .keyRenewal => Sys2Proof.Machine.execKeyRenewal s
  | .oldKeyExpiry => Sys2Proof.Machine.execOldKeyExpiry s
  | .delayReq port rx arrived departed => Sys2Proof.Machine.execDelayReq port rx arrived departed s
  | .delayResp h t1 t2 t3 t4 => Sys2Proof.Machine.execDelayResp h t1 t2 t3 t4 s
  | .laneTrainComplete port lane converged => Sys2Proof.Machine.execLaneTrainComplete port lane converged s
  | .laneCheckComplete port lane => Sys2Proof.Machine.execLaneCheckComplete port lane s
  | .laneErroredBlock port lane => Sys2Proof.Machine.execLaneErroredBlock port lane s
  | .laneLost port lane inFlight => Sys2Proof.Machine.execLaneLost port lane inFlight s
  | .laneRetrain port lane => Sys2Proof.Machine.execLaneRetrain port lane s
  | .laneRebond port lane => Sys2Proof.Machine.execLaneRebond port lane s
  | .comparatorMismatch unit port => Sys2Proof.Machine.execComparatorMismatch unit port s
  | .delayPar unit port => Sys2Proof.Machine.execDelayPar unit port s
  | .compFail unit => Sys2Proof.Machine.execCompFail unit s
  | .debugAccess => Sys2Proof.Machine.execDebugAccess s
  | .dramScrubRead bad overwritten => Sys2Proof.Machine.execDramScrubRead bad overwritten s
  | .dramScrubLate => Sys2Proof.Machine.execDramScrubLate s
  | .sramScrubRead memory index outcome overwritten passDone => Sys2Proof.Machine.execSramScrubRead memory index outcome overwritten passDone s
  | .sramScrubLate => Sys2Proof.Machine.execSramScrubLate s
  | .memLogClear value => Sys2Proof.Machine.execMemLogClear value s
  | .fabricAccess a => Sys2Proof.Machine.execFabricAccess a s
  | .gateSeal master privileged value => Sys2Proof.Machine.execGateSeal master privileged value s
  | .gatePop g value => Sys2Proof.Machine.execGatePop g value s
  | .gateEntryWrite master privileged address value => Sys2Proof.Machine.execGateEntryWrite master privileged address value s
  | .gateDrainComplete g => Sys2Proof.Machine.execGateDrainComplete g s
  | .gateDrainTimeout g incomplete => Sys2Proof.Machine.execGateDrainTimeout g incomplete s
  | .coldReset cause => Sys2Proof.Machine.execColdReset cause s
  | .warmReset flight => Sys2Proof.Machine.execWarmReset flight s
  | .perDomainReset domain flight => Sys2Proof.Machine.execPerDomainReset domain flight s
  | .warmResetRequest => Sys2Proof.Machine.execWarmResetRequest s
  | .domainResetRequest mask => Sys2Proof.Machine.execDomainResetRequest mask s
  | .otpDigestCheck ok => Sys2Proof.Machine.execOtpDigestCheck ok s
  | .enrolRenewal slot chain => Sys2Proof.Machine.execEnrolRenewal slot chain s
  | .nandSweepRead x => Sys2Proof.Machine.execNandSweepRead x s
  | .sweepLate => Sys2Proof.Machine.execSweepLate s
  | .confWriteComplete programmed => Sys2Proof.Machine.execConfWriteComplete programmed s
  | .logFlush => Sys2Proof.Machine.execLogFlush s
  | .logBudgetRefill => Sys2Proof.Machine.execLogBudgetRefill s
  | .lifetimeHours secA secB => Sys2Proof.Machine.execLifetimeHours secA secB s
  | .nandWear => Sys2Proof.Machine.execNandWear s
  | .bkdTrim => Sys2Proof.Machine.execBkdTrim s
  | .bkdAlarmFire => Sys2Proof.Machine.execBkdAlarmFire s
  | .weekdayAdvance => Sys2Proof.Machine.execWeekdayAdvance s
  | .bkdAlarmHiWrite value => Sys2Proof.Machine.execBkdAlarmHiWrite value s
  | .bkdAlarmLoWrite value => Sys2Proof.Machine.execBkdAlarmLoWrite value s
  | .bkdWdWrite value => Sys2Proof.Machine.execBkdWdWrite value s
  | .park => Sys2Proof.Machine.execPark s
  | .parkTimeout => Sys2Proof.Machine.execParkTimeout s
  | .thermalRestart => Sys2Proof.Machine.execThermalRestart s
  | .bkdBytesWrite offset data => Sys2Proof.Machine.execBkdBytesWrite offset data s
  | .bkdBytesInit => Sys2Proof.Machine.execBkdBytesInit s
  | .supplyChange mainMv bkupMv cellMv => Sys2Proof.Machine.execSupplyChange mainMv bkupMv cellMv s
  | .bkdDip => Sys2Proof.Machine.execBkdDip s
  | .bkdPowerOn => Sys2Proof.Machine.execBkdPowerOn s
  | .feedLost feed mv => Sys2Proof.Machine.execFeedLost feed mv s
  | .feedGood feed mv bothLow1s => Sys2Proof.Machine.execFeedGood feed mv bothLow1s s
  | .feedOv feed mv => Sys2Proof.Machine.execFeedOv feed mv s
  | .feedOvClear feed mv => Sys2Proof.Machine.execFeedOvClear feed mv s
  | .feedReturn => Sys2Proof.Machine.execFeedReturn s
  | .feedBRelease => Sys2Proof.Machine.execFeedBRelease s
  | .seatedDetectMade slotId groupId => Sys2Proof.Machine.execSeatedDetectMade slotId groupId s
  | .seatPartial atH40 => Sys2Proof.Machine.execSeatPartial atH40 s
  | .seatedDetectBreak atH40 => Sys2Proof.Machine.execSeatedDetectBreak atH40 s
  | .buttonPress => Sys2Proof.Machine.execButtonPress s
  | .buttonHeld => Sys2Proof.Machine.execButtonHeld s
  | .tempSample die board => Sys2Proof.Machine.execTempSample die board s
  | .thermalFail => Sys2Proof.Machine.execThermalFail s
  | .thermalShutdown => Sys2Proof.Machine.execThermalShutdown s
  | .avsAdjust demandMv => Sys2Proof.Machine.execAvsAdjust demandMv s
  | .droopDetect centi => Sys2Proof.Machine.execDroopDetect centi s
  | .mgmtOpSelect op => Sys2Proof.Machine.execMgmtOpSelect op s
  | .clockGate domain => Sys2Proof.Machine.execClockGate domain s
  | .clockWake domain => Sys2Proof.Machine.execClockWake domain s
  | .clockFault domain => Sys2Proof.Machine.execClockFault domain s
  | .railFault => Sys2Proof.Machine.execRailFault s
  | .firmwareWatchdog unit => Sys2Proof.Machine.execFirmwareWatchdog unit s
  | .registerWrite address value sets => Sys2Proof.Machine.execRegisterWrite address value sets s
  | .ownerLost => Sys2Proof.Machine.execOwnerLost s
  | .pairOkEdge => Sys2Proof.Machine.execPairOkEdge s
  | .cellLow => Sys2Proof.Machine.execCellLow s
  | .ocxoWarm => Sys2Proof.Machine.execOcxoWarm s
  | .trialHandoverTimeout => Sys2Proof.Machine.execTrialHandoverTimeout s
  | .ptpAnnounce port domain utcValid utcOffset leap61 leap59 => Sys2Proof.Machine.execPtpAnnounce port domain utcValid utcOffset leap61 leap59 s
  | .ptpDelayReq port => Sys2Proof.Machine.execPtpDelayReq port s
  | .malformed fam cmd r => Sys2Proof.Machine.execMalformed fam cmd r s
  | .c37118ClientConnect stream => Sys2Proof.Machine.execC37118ClientConnect stream s
  | .c37118ClientClose stream => Sys2Proof.Machine.execC37118ClientClose stream s

end Sys2Proof.Machine
end

