-- ==== Sys2Proof/Machine/Panel.lean ====
section
/-! DEFINITION. What the front panel shows (20 R541, R542): the link and status LEDs as the state drives them. -/

namespace Sys2Proof.Machine

/-- What an LED shows; flashing is 2 Hz with a duty cycle of 50 % (R542). -/
inductive Led where
  | off
  | green
  | greenFlash
  | amber
  | amberFlash
  | red
deriving DecidableEq, Repr

/-- The five status LEDs of the front panel (R541). -/
structure StatusLeds where
  pwr : Led
  role : Led
  time : Led
  diag : Led
  swap : Led
deriving DecidableEq, Repr

/-- PWR: the feeds that are GOOD. -/
def ledPwr (s : State) : Led :=
  if feedOk s 0 && feedOk s 1 then .green else if feedOk s 0 || feedOk s 1 then .greenFlash else .off

/-- ROLE. -/
def ledRole (s : State) : Led :=
  if s.role = roleFailed then .red
  else if s.role = rolePrimary then .green
  else if s.role = roleAlone then .greenFlash
  else if s.role = roleStandby then .amber
  else if s.role = roleSyncing ∨ s.role = roleAloneStandby then .amberFlash
  else .off

/-- TIME: the fault flag, then CLASS. -/
def ledTime (s : State) : Led :=
  let c := s.get Reg.timStatusClass
  if s.on Reg.timStatusFault ∨ 4 ≤ c then .red
  else match c with | 0 => .green | 1 => .greenFlash | 2 => .amber | _ => .amberFlash

/-- A spare pool of BOOT or CONF stands at or below 25 % of its initial count. -/
def sparesLow (s : State) : Bool := (List.range 4).any (fun p => decide (4 * s.nvs.spare.getD p 0 ≤ poolInitial p))

/-- DIAG. -/
def ledDiag (s : State) : Led :=
  if s.get Reg.memStatusState ≠ memHealthy ∨ s.get Reg.nvsStatusExhausted % 16 ≠ 0 ∨ sparesLow s = true then .red
  else if s.on Reg.secStatusTrial then .amberFlash
  else if !s.on Reg.lckStatusGuarantee then .amber
  else .off

/-- SWAP: flashing while a removal runs, steady when the module may be withdrawn, amber for 2 s when a request is refused
(11 R364). -/
def ledSwap (s : State) : Led :=
  match s.pair.swapLed with
  | 1 => .greenFlash
  | 2 => .green
  | 3 => if s.mono < s.pair.swapAt + 2 * nsPerS then .amber else .off
  | _ => .off

/-- The status LEDs; for 1 s after stage 0 of the boot chain every one lights amber (R542). -/
def statusLeds (s : State) : StatusLeds :=
  match s.sec.stage0At with
  | some t =>
    if s.mono < t + nsPerS then ⟨.amber, .amber, .amber, .amber, .amber⟩
    else ⟨ledPwr s, ledRole s, ledTime s, ledDiag s, ledSwap s⟩
  | none => ⟨ledPwr s, ledRole s, ledTime s, ledDiag s, ledSwap s⟩

/-- The green LED of an SFP+ cage and the link LED of SVC: lit while the port's link is up (R541). -/
def ledLink (s : State) (port : Nat) : Led := if s.on (Reg.netPortLink port) then .green else .off

end Sys2Proof.Machine
end

