-- ==== Sys2Proof/Machine/PetalDecode.lean ====
section
/-! DEFINITION. Which command a code byte stands for (05 R156, R157, R171): the instruction that engine e finds at its
PC. -/

namespace Sys2Proof.Machine

/-- The stack and memory instructions by their codes (R157). -/
def stackOp (e : Nat) (i : CodeOp) : Option Instr :=
  match i.op with
  | 0x00 => some (.pNop e)
  | 0x01 => some (.pDup e)
  | 0x02 => some (.pDrop e)
  | 0x03 => some (.pSwap e)
  | 0x04 => some (.pOver e)
  | 0x05 => some (.pRot e)
  | 0x06 => some (.pPick e i.a)
  | 0x08 => some (.pPush0 e)
  | 0x09 => some (.pPush1 e)
  | 0x0A => some (.pPushb e i.a)
  | 0x0B => some (.pPushw e i.a)
  | 0x0C => some (.pLdk e i.a)
  | 0x10 => some (.pLdl e i.a i.b)
  | 0x11 => some (.pStl e i.a i.b)
  | 0x12 => some (.pLdi e i.a i.b)
  | 0x13 => some (.pSti e i.a i.b)
  | 0x14 => some (.pLdin e i.a i.b)
  | 0x15 => some (.pLdout e i.a i.b)
  | 0x16 => some (.pStout e i.a i.b)
  | 0x17 => some (.pLdxl e i.a i.b i.c)
  | 0x18 => some (.pStxl e i.a i.b i.c)
  | 0x19 => some (.pLdxi e i.a i.b i.c)
  | 0x1A => some (.pStxi e i.a i.b i.c)
  | 0x1B => some (.pLdxin e i.a i.b i.c)
  | 0x1C => some (.pLdxout e i.a i.b i.c)
  | 0x1D => some (.pStxout e i.a i.b i.c)
  | 0x1E => some (.pCopy e i.a i.b)
  | _ => none

/-- The integer and floating-point instructions by their codes (R157). -/
def arithOp (e : Nat) (i : CodeOp) : Option Instr :=
  match i.op with
  | 0x20 => some (.pAdd e .i32)
  | 0x21 => some (.pAdd e .i64)
  | 0x22 => some (.pAdd e .u32)
  | 0x23 => some (.pAdd e .u64)
  | 0x24 => some (.pSub e .i32)
  | 0x25 => some (.pSub e .i64)
  | 0x26 => some (.pSub e .u32)
  | 0x27 => some (.pSub e .u64)
  | 0x28 => some (.pMul e .i32)
  | 0x29 => some (.pMul e .i64)
  | 0x2A => some (.pMul e .u32)
  | 0x2B => some (.pMul e .u64)
  | 0x2C => some (.pDiv e .i32)
  | 0x2D => some (.pDiv e .i64)
  | 0x2E => some (.pDiv e .u32)
  | 0x2F => some (.pDiv e .u64)
  | 0x30 => some (.pMod e .i32)
  | 0x31 => some (.pMod e .i64)
  | 0x32 => some (.pMod e .u32)
  | 0x33 => some (.pMod e .u64)
  | 0x34 => some (.pNeg e false)
  | 0x35 => some (.pNeg e true)
  | 0x36 => some (.pAbs e false)
  | 0x37 => some (.pAbs e true)
  | 0x40 => some (.pAddF e .f32)
  | 0x41 => some (.pAddF e .f64)
  | 0x42 => some (.pSubF e .f32)
  | 0x43 => some (.pSubF e .f64)
  | 0x44 => some (.pMulF e .f32)
  | 0x45 => some (.pMulF e .f64)
  | 0x46 => some (.pDivF e .f32)
  | 0x47 => some (.pDivF e .f64)
  | 0x48 => some (.pNegF e .f32)
  | 0x49 => some (.pNegF e .f64)
  | 0x4A => some (.pAbsF e .f32)
  | 0x4B => some (.pAbsF e .f64)
  | 0x4C => some (.pSqrt e .f32)
  | 0x4D => some (.pSqrt e .f64)
  | 0x4E => some (.pMinF e .f32)
  | 0x4F => some (.pMinF e .f64)
  | 0x50 => some (.pMaxF e .f32)
  | 0x51 => some (.pMaxF e .f64)
  | 0x52 => some (.pSin e)
  | 0x53 => some (.pCos e)
  | 0x54 => some (.pAtan2 e)
  | 0x55 => some (.pExp e)
  | 0x56 => some (.pLn e)
  | _ => none

/-- The compares, selections, logic and conversions by their codes (R157). -/
def logicOp (e : Nat) (i : CodeOp) : Option Instr :=
  match i.op with
  | 0x60 => some (.pEq e)
  | 0x61 => some (.pNe e)
  | 0x62 => some (.pLtS e)
  | 0x63 => some (.pLeS e)
  | 0x64 => some (.pGtS e)
  | 0x65 => some (.pGeS e)
  | 0x66 => some (.pLtU e)
  | 0x67 => some (.pLeU e)
  | 0x68 => some (.pGtU e)
  | 0x69 => some (.pGeU e)
  | 0x6A => some (.pEqF e .f32)
  | 0x6B => some (.pNeF e .f32)
  | 0x6C => some (.pLtF e .f32)
  | 0x6D => some (.pLeF e .f32)
  | 0x6E => some (.pGtF e .f32)
  | 0x6F => some (.pGeF e .f32)
  | 0x70 => some (.pEqF e .f64)
  | 0x71 => some (.pNeF e .f64)
  | 0x72 => some (.pLtF e .f64)
  | 0x73 => some (.pLeF e .f64)
  | 0x74 => some (.pGtF e .f64)
  | 0x75 => some (.pGeF e .f64)
  | 0x78 => some (.pMinS e)
  | 0x79 => some (.pMaxS e)
  | 0x7A => some (.pMinU e)
  | 0x7B => some (.pMaxU e)
  | 0x7C => some (.pSel e)
  | 0x80 => some (.pAnd e)
  | 0x81 => some (.pOr e)
  | 0x82 => some (.pXor e)
  | 0x83 => some (.pNot e i.a)
  | 0x84 => some (.pBnot e)
  | 0x85 => some (.pShl e i.a)
  | 0x86 => some (.pShr e i.a)
  | 0x87 => some (.pSar e i.a)
  | 0x88 => some (.pRol e i.a)
  | 0x89 => some (.pRor e i.a)
  | 0x8A => some (.pBitget e i.a)
  | 0x8B => some (.pBitset e i.a)
  | 0x90 => some (.pCvt e i.a i.b)
  | 0x91 => some (.pCvtt e i.a i.b)
  | _ => none

/-- The control instructions but SYS by their codes (R157). -/
def controlOp (e : Nat) (i : CodeOp) : Option Instr :=
  match i.op with
  | 0xA0 => some (.pBr e i.a)
  | 0xA1 => some (.pBrz e i.a)
  | 0xA2 => some (.pBrnz e i.a)
  | 0xA3 => some (.pBrl e i.a i.b)
  | 0xA4 => some (.pLoop e i.a i.b)
  | 0xA5 => some (.pEndloop e)
  | 0xA6 => some (.pLidx e i.a)
  | 0xA8 => some (.pCallfb e i.a i.b)
  | 0xA9 => some (.pCallfn e i.a)
  | 0xAA => some (.pRet e)
  | 0xAC => some (.pSeg e)
  | 0xAD => some (.pEnd e)
  | _ => none

/-- SYS by its number (R171). -/
def sysOp (e : Nat) (i : CodeOp) : Option Instr :=
  match i.a with
  | 0x00 => some (.pGetflags e)
  | 0x01 => some (.pClrflags e)
  | 0x02 => some (.pFrametime e)
  | 0x03 => some (.pSeginfo e)
  | 0x10 => some (.pAlarm e i.b i.c)
  | 0x11 => some (.pLogevt e i.b i.c)
  | 0x12 => some (.pLtrig e i.b i.c)
  | 0x13 => some (.pCantx e i.b i.c)
  | _ => none

/-- The command that a decoded instruction is; an unassigned code or SYS is the OPCODE fault (R173). -/
def petalOf (e : Nat) (i : CodeOp) : Instr :=
  let c :=
    if i.op = 0xAB then sysOp e i
    else if i.op < 0x20 then stackOp e i
    else if i.op < 0x60 then arithOp e i
    else if i.op < 0xA0 then logicOp e i
    else controlOp e i
  c.getD (.pUnassignedOpcode e false)

/-- The instruction at the head of some bytes, at an address (R156); one that the bytes do not hold whole is no
instruction. -/
def codeOpAt (pc : Nat) : List Byte → Option CodeOp
  | [] => none
  | b :: r =>
    match opFormat b.toNat with
    | none => none
    | some f =>
      let n := f.foldl (· + ·) 0
      let v := readFields f r
      if r.length < n then none else some ⟨pc, b.toNat, v.getD 0 0, v.getD 1 0, v.getD 2 0, pc + 1 + n⟩

/-- The command that engine e's code holds at its PC (R152, R173): what lies outside the code range it runs, or is
unassigned, is the OPCODE fault. -/
def petalAtPc (s : State) (e : Nat) : Instr :=
  let g := s.eng e
  if g.lo ≤ g.pc ∧ g.pc < g.hi then
    match codeOpAt g.pc (s.bytes (codeBase s e + g.pc) (min 6 (g.hi - g.pc))) with
    | some i => petalOf e i
    | none => .pUnassignedOpcode e false
  else .pUnassignedOpcode e false

end Sys2Proof.Machine
end

