-- ==== Sys2Proof/WellFormed.lean ====
section
/-! DEFINITION. Well-formed commands: every operand in the range that its field, port, ring or unit gives it. -/

namespace Sys2Proof

/-- A source of requests: one of 16 sessions or of 8 engines. -/
def Src.wf (x : Src) : Bool := match x with | .host i => decide (i < 16) | .petal e => decide (e < 8)

/-- A message header whose fields fit their widths (03 R80). -/
def Req.wf (r : Req) : Bool :=
  r.src.wf && decide (r.seq < 65536) && decide (r.flags < 65536) && decide (r.status < 65536)
    && decide (r.length < 2 ^ 32) && decide (r.segment < 65536) && decide (r.segCount < 65536)

/-- A Hollyhock header on one of the two ports, with fields that fit their widths (12 R371). -/
def HhkHdr.wf (h : HhkHdr) : Bool :=
  decide (h.port < 2) && decide (h.srcSlot < 64) && decide (h.segment < 65536) && decide (h.dst < 256) && decide (h.counter < 2 ^ 64)

/-- No header, or one that is well formed. -/
def optWf (h : Option HhkHdr) : Bool := match h with | some x => x.wf | none => true

/-- A handshake on one of the five ports (03 R86). -/
def Handshake.wf (x : Handshake) : Bool :=
  decide (x.port < 5) && decide (x.addr < 2 ^ 32) && decide (x.alpn < 3) && decide (x.auth < 2)

/-- A fabric access of 1 to 128 bytes a beat within the 40-bit space (15 R429). -/
def FabAcc.wf (a : FabAcc) : Bool :=
  decide (a.master < 64) && decide (a.kind < 3) && decide (a.addr < 2 ^ 40) && decide (a.sizeLog2 < 8)
    && decide (1 ≤ a.beats)

/-- A command is well formed. -/
def Instr.wellFormed (i : Instr) : Bool :=
  match i with
  | .tick => true
  | .frameSyncEdge _ => true
  | .syncFault => true
  | .timeBusWord _ word => decide (word < 2 ^ 128)
  | .timeBusWordMissing => true
  | .tickEligible => true
  | .slewCorrection => true
  | .ptpOffsetSample port _ _ => decide (port < 4)
  | .fineLock src => decide (src < 16)
  | .lockLoss src => decide (src < 16)
  | .irigbFrame _ _ => true
  | .ppsEdge _ => true
  | .disagree => true
  | .ocxoStopped => true
  | .ocxoFreqCheck _ _ => true
  | .ocxoDrifting => true
  | .leapApply => true
  | .timSlewRemWrite _ => true
  | .timRateAdjWrite _ => true
  | .diSinkWindow _ _ => true
  | .fieldSampleInstant x => x.ai.all (fun p => decide (0 < p.2))
  | .wettingPulseEnd => true
  | .executionWindowEnd => true
  | .stateSigCompare _ => true
  | .voteRecordSend => true
  | .vote => true
  | .outputRelease => true
  | .txLate port => decide (port < 5)
  | .fieldUpdate => true
  | .errorTaskRun e => decide (e < 8)
  | .bankSwap => true
  | .injectedComparatorTest _ _ => true
  | .cutOff => true
  | .snapshotSelect => true
  | .sigMiss => true
  | .pNop e => decide (e < 8)
  | .pDup e => decide (e < 8)
  | .pDrop e => decide (e < 8)
  | .pSwap e => decide (e < 8)
  | .pOver e => decide (e < 8)
  | .pRot e => decide (e < 8)
  | .pPick e n => decide (e < 8) && decide (n < 256)
  | .pPush0 e => decide (e < 8)
  | .pPush1 e => decide (e < 8)
  | .pPushb e b => decide (e < 8) && decide (b < 256)
  | .pPushw e w => decide (e < 8) && decide (w < 65536)
  | .pLdk e idx => decide (e < 8) && decide (idx < 65536)
  | .pLdl e t off => decide (e < 8) && decide (t < 256) && decide (off < 65536)
  | .pStl e t off => decide (e < 8) && decide (t < 256) && decide (off < 65536)
  | .pLdi e t off => decide (e < 8) && decide (t < 256) && decide (off < 65536)
  | .pSti e t off => decide (e < 8) && decide (t < 256) && decide (off < 65536)
  | .pLdin e t off => decide (e < 8) && decide (t < 256) && decide (off < 65536)
  | .pLdout e t off => decide (e < 8) && decide (t < 256) && decide (off < 65536)
  | .pStout e t off => decide (e < 8) && decide (t < 256) && decide (off < 65536)
  | .pLdxl e t off cnt => decide (e < 8) && decide (t < 256) && decide (off < 65536) && decide (cnt < 65536)
  | .pStxl e t off cnt => decide (e < 8) && decide (t < 256) && decide (off < 65536) && decide (cnt < 65536)
  | .pLdxi e t off cnt => decide (e < 8) && decide (t < 256) && decide (off < 65536) && decide (cnt < 65536)
  | .pStxi e t off cnt => decide (e < 8) && decide (t < 256) && decide (off < 65536) && decide (cnt < 65536)
  | .pLdxin e t off cnt => decide (e < 8) && decide (t < 256) && decide (off < 65536) && decide (cnt < 65536)
  | .pLdxout e t off cnt => decide (e < 8) && decide (t < 256) && decide (off < 65536) && decide (cnt < 65536)
  | .pStxout e t off cnt => decide (e < 8) && decide (t < 256) && decide (off < 65536) && decide (cnt < 65536)
  | .pCopy e spaces len => decide (e < 8) && decide (spaces < 256) && decide (len < 65536)
  | .pAdd e _ => decide (e < 8)
  | .pSub e _ => decide (e < 8)
  | .pMul e _ => decide (e < 8)
  | .pDiv e _ => decide (e < 8)
  | .pMod e _ => decide (e < 8)
  | .pNeg e _ => decide (e < 8)
  | .pAbs e _ => decide (e < 8)
  | .pAddF e _ => decide (e < 8)
  | .pSubF e _ => decide (e < 8)
  | .pMulF e _ => decide (e < 8)
  | .pDivF e _ => decide (e < 8)
  | .pNegF e _ => decide (e < 8)
  | .pAbsF e _ => decide (e < 8)
  | .pSqrt e _ => decide (e < 8)
  | .pMinF e _ => decide (e < 8)
  | .pMaxF e _ => decide (e < 8)
  | .pSin e => decide (e < 8)
  | .pCos e => decide (e < 8)
  | .pAtan2 e => decide (e < 8)
  | .pExp e => decide (e < 8)
  | .pLn e => decide (e < 8)
  | .pEq e => decide (e < 8)
  | .pNe e => decide (e < 8)
  | .pLtS e => decide (e < 8)
  | .pLeS e => decide (e < 8)
  | .pGtS e => decide (e < 8)
  | .pGeS e => decide (e < 8)
  | .pLtU e => decide (e < 8)
  | .pLeU e => decide (e < 8)
  | .pGtU e => decide (e < 8)
  | .pGeU e => decide (e < 8)
  | .pEqF e _ => decide (e < 8)
  | .pNeF e _ => decide (e < 8)
  | .pLtF e _ => decide (e < 8)
  | .pLeF e _ => decide (e < 8)
  | .pGtF e _ => decide (e < 8)
  | .pGeF e _ => decide (e < 8)
  | .pMinS e => decide (e < 8)
  | .pMaxS e => decide (e < 8)
  | .pMinU e => decide (e < 8)
  | .pMaxU e => decide (e < 8)
  | .pSel e => decide (e < 8)
  | .pAnd e => decide (e < 8)
  | .pOr e => decide (e < 8)
  | .pXor e => decide (e < 8)
  | .pNot e w => decide (e < 8) && decide (w < 256)
  | .pBnot e => decide (e < 8)
  | .pShl e w => decide (e < 8) && decide (w < 256)
  | .pShr e w => decide (e < 8) && decide (w < 256)
  | .pSar e w => decide (e < 8) && decide (w < 256)
  | .pRol e w => decide (e < 8) && decide (w < 256)
  | .pRor e w => decide (e < 8) && decide (w < 256)
  | .pBitget e n => decide (e < 8) && decide (n < 256)
  | .pBitset e n => decide (e < 8) && decide (n < 256)
  | .pCvt e t1 t2 => decide (e < 8) && decide (t1 < 256) && decide (t2 < 256)
  | .pCvtt e t1 t2 => decide (e < 8) && decide (t1 < 256) && decide (t2 < 256)
  | .pBr e d => decide (e < 8) && decide (d < 65536)
  | .pBrz e d => decide (e < 8) && decide (d < 65536)
  | .pBrnz e d => decide (e < 8) && decide (d < 65536)
  | .pBrl e lo hi => decide (e < 8) && decide (lo < 65536) && decide (hi < 65536)
  | .pLoop e max len => decide (e < 8) && decide (max < 65536) && decide (len < 65536)
  | .pEndloop e => decide (e < 8)
  | .pLidx e n => decide (e < 8) && decide (n < 256)
  | .pCallfb e off idx => decide (e < 8) && decide (off < 65536) && decide (idx < 65536)
  | .pCallfn e idx => decide (e < 8) && decide (idx < 65536)
  | .pRet e => decide (e < 8)
  | .pSeg e => decide (e < 8)
  | .pEnd e => decide (e < 8)
  | .pUnassignedOpcode e _ => decide (e < 8)
  | .pCycleFault e => decide (e < 8)
  | .pGetflags e => decide (e < 8)
  | .pClrflags e => decide (e < 8)
  | .pFrametime e => decide (e < 8)
  | .pSeginfo e => decide (e < 8)
  | .pAlarm e off len => decide (e < 8) && decide (off < 65536) && decide (len < 256)
  | .pLogevt e off len => decide (e < 8) && decide (off < 65536) && decide (len < 256)
  | .pLtrig e off len => decide (e < 8) && decide (off < 65536) && decide (len < 256)
  | .pCantx e off len => decide (e < 8) && decide (off < 65536) && decide (len < 256)
  | .rcbDoorbellWrite master ring newProd => decide (master < 64) && decide (ring < 256) && decide (newProd < 65536)
  | .rcbConsWrite ring cons => decide (ring < 256) && decide (cons < 65536)
  | .ringInterruptTimer ring => decide (ring < 256)
  | .tlsHandshake x => x.wf
  | .handshakeLockoutEnd addr => decide (addr < 2 ^ 32)
  | .messageSegment _ _ r => r.wf
  | .segTimeout sess seq => decide (sess < 16) && decide (seq < 65536)
  | .cancel _ _ r => r.wf
  | .progressMessage sess seq => decide (sess < 16) && decide (seq < 65536)
  | .sessionIdleTimeout sess => decide (sess < 16)
  | .sessionLoss sess => decide (sess < 16)
  | .identGetIdent r => r.wf
  | .identGetBlockVersions r => r.wf
  | .identGetCertificates r => r.wf
  | .sessionGetInfo r => r.wf
  | .sessionSetActiveRoles r => r.wf
  | .sessionKeepalive r => r.wf
  | .sessionSetIdle r => r.wf
  | .sessionSubscribe r => r.wf
  | .sessionClose r => r.wf
  | .sessionListSessions r => r.wf
  | .sessionTerminate r => r.wf
  | .configGetActive r => r.wf
  | .configReadSettings r => r.wf
  | .configStageSettings r => r.wf
  | .configActivate r => r.wf
  | .configDiscardStaged r => r.wf
  | .programGetStatus r => r.wf
  | .programLoadUnit r => r.wf
  | .programStartChange r => r.wf
  | .migrationComplete => true
  | .programAbortChange r => r.wf
  | .programRun r => r.wf
  | .programStop r => r.wf
  | .programStartFrame => true
  | .programStopFrame => true
  | .programGetTaskStats r => r.wf
  | .programReadVar r => r.wf
  | .retainSave => true
  | .forceList r => r.wf
  | .forceSet r => r.wf
  | .forceRelease r => r.wf
  | .forceReleaseAll r => r.wf
  | .diagReadRegs r => r.wf
  | .diagWriteRegs r sets => r.wf && sets.all (fun p => decide (p.1 < 2 ^ 20) && decide (p.2 < 32))
  | .diagGetHealth r => r.wf
  | .diagRaiseAlarm r => r.wf
  | .timeGetStatus r => r.wf
  | .timeGetSources r => r.wf
  | .timeGetConfig r => r.wf
  | .timeSetConfig r => r.wf
  | .timeStep r => r.wf
  | .timeSetTaiUtc r => r.wf
  | .updateGetStatus r => r.wf
  | .updateBegin r => r.wf
  | .updateTransfer r => r.wf
  | .updateInstall r => r.wf
  | .installRestart => true
  | .updateConfirm r => r.wf
  | .updateAbort r => r.wf
  | .updateGroupUpdate r => r.wf
  | .trialHealthy => true
  | .trialWindowExpiry => true
  | .updateLockExpiry => true
  | .archiveList r => r.wf
  | .archiveExport r => r.wf
  | .archiveDelete r => r.wf
  | .archiveLogEvent r => r.wf
  | .archiveReadLog r => r.wf
  | .securityGetState r => r.wf
  | .securitySetTrustAnchors r => r.wf
  | .securityLoadCrl r => r.wf
  | .securityEnrol r => r.wf
  | .securitySetRoleMap r => r.wf
  | .securityRevokeRootSlot r => r.wf
  | .securityRotateGroupKeys r => r.wf
  | .redundancyGetStatus r => r.wf
  | .redundancyHandover r => r.wf
  | .redundancyLeaveGroup r => r.wf
  | .redundancyRemoveRequest r => r.wf
  | .redundancyResync r => r.wf
  | .redundancyGetSignatures r => r.wf
  | .asterGetStatus r => r.wf
  | .asterGetConfig r => r.wf
  | .asterSetConfig r => r.wf
  | .asterGetPhasors r => r.wf
  | .asterSetStreaming r => r.wf
  | .larkspurGetStatus r => r.wf
  | .larkspurGetConfig r => r.wf
  | .larkspurSetConfig r => r.wf
  | .larkspurGetEvents r => r.wf
  | .larkspurCalibrate r => r.wf
  | .larkspurManualTrigger r => r.wf
  | .fieldioGetStatus r => r.wf
  | .fieldioGetConfig r => r.wf
  | .fieldioSetConfig r => r.wf
  | .fieldioClearFault r => r.wf
  | .canauxGetStatus r => r.wf
  | .canauxGetConfig r => r.wf
  | .canauxSetConfig r => r.wf
  | .canauxTxEnqueue r => r.wf
  | .canauxRecover r => r.wf
  | .canauxReadRx r => r.wf
  | .lifetimeGetSummary r => r.wf
  | .lifetimeReadRecords r => r.wf
  | .lifetimeAddNote r => r.wf
  | .configEffectiveFrame => true
  | .svFrameRx _ => true
  | .streamLost n => decide (n < 24)
  | .estimateSetComplete _ => true
  | .c37118Command stream _ _ => decide (stream < 16)
  | .markEdge => true
  | .laneFrame lane _ _ => decide (lane < 12)
  | .groupArmed g => decide (g < 4)
  | .wavefrontDetect g _ n _ => decide (g < 4) && decide (n < 6024)
  | .eventClose g => decide (g < 4)
  | .rgooseRetransmit => true
  | .rgooseReportRx _ => true
  | .remoteWaitExpiry => true
  | .recordComplete => true
  | .recordStored => true
  | .gooseFrameRx _ => true
  | .gooseTalExpiry i => decide (i < 128)
  | .netFrameRx _ => true
  | .linkChange port _ _ _ _ => decide (port < 5)
  | .prpSupervision pair => decide (pair < 2)
  | .nodeForget pair mac => decide (pair < 2) && decide (mac < 2 ^ 48)
  | .entryForget pair src seq => decide (pair < 2) && decide (src < 2 ^ 48) && decide (seq < 65536)
  | .macsecDown port => decide (port < 5)
  | .macsecUp port => decide (port < 5)
  | .mmsAssociate x => decide (x.port < 5)
  | .mmsConclude assoc => decide (assoc < 8)
  | .mmsAbort assoc => decide (assoc < 8)
  | .mmsGetNameList assoc => decide (assoc < 8)
  | .mmsIdentify assoc => decide (assoc < 8)
  | .mmsRead assoc _ => decide (assoc < 8)
  | .mmsGetVariableAccessAttributes assoc _ => decide (assoc < 8)
  | .mmsGetNamedVarListAttributes assoc _ => decide (assoc < 8)
  | .mmsWriteRcb assoc rcb _ _ => decide (assoc < 8) && decide (rcb < 32)
  | .mmsFileDirectory assoc => decide (assoc < 8)
  | .mmsFileOpen assoc _ => decide (assoc < 8)
  | .mmsFileRead assoc _ _ => decide (assoc < 8)
  | .mmsFileClose assoc _ => decide (assoc < 8)
  | .fldLow => true
  | .fldNormal => true
  | .lockout => true
  | .lockoutEnd _ => true
  | .doLatchOff n => decide (n < 8)
  | .stageHoldEnd => true
  | .canFrameRx c _ => decide (c < 2)
  | .canBusIdle c _ _ => decide (c < 2)
  | .canTxDone c _ _ _ _ => decide (c < 2)
  | .canRecoveryComplete c => decide (c < 2)
  | .canBusIntegration c => decide (c < 2)
  | .firmwareUp _ _ => true
  | .peerWaitExpiry => true
  | .ownLineFall => true
  | .quietTimeExpiry => true
  | .claimConfirm _ _ => true
  | .ownFault => true
  | .peerKillOutAssert => true
  | .peerKillIn => true
  | .peerKillInRelease => true
  | .pairOkMissing => true
  | .failedRestart => true
  | .heartbeatTx => true
  | .heartbeat h groupId slot rank _ _ _ =>
    h.wf && decide (groupId < 16) && decide (slot < 64) && decide (rank < 3)
  | .hollyhockLost => true
  | .snapshotFrame h _ => h.wf
  | .signatureFrame h _ _ _ => h.wf
  | .voteFrame h _ _ _ _ => h.wf
  | .join h _ _ f u => h.wf && decide (f < 65536) && decide (u < 65536)
  | .leave h => h.wf
  | .failed h cls => h.wf && decide (cls < 256)
  | .ready h _ => h.wf
  | .ack h singleton => h.wf && decide (singleton < 3)
  | .taintRelease h => h.wf
  | .resyncPage h address _ _ => h.wf && decide (address < 2 ^ 40)
  | .resyncLines h _ _ => h.wf
  | .resyncTimeout => true
  | .checkpointSend => true
  | .checkpoint h singleton _ _ _ => h.wf && decide (singleton < 3)
  | .singletonRestart => true
  | .handoverPrepare => true
  | .handoverRelease => true
  | .handoverFrame => true
  | .forward h _ => h.wf
  | .key h _ _ => h.wf
  | .keyRenewal => true
  | .oldKeyExpiry => true
  | .delayReq port rx _ _ => decide (port < 2) && optWf rx
  | .delayResp h _ _ _ _ => h.wf
  | .laneTrainComplete port lane _ => decide (port < 2) && decide (lane < 2)
  | .laneCheckComplete port lane => decide (port < 2) && decide (lane < 2)
  | .laneErroredBlock port lane => decide (port < 2) && decide (lane < 2)
  | .laneLost port lane _ => decide (port < 2) && decide (lane < 2)
  | .laneRetrain port lane => decide (port < 2) && decide (lane < 2)
  | .laneRebond port lane => decide (port < 2) && decide (lane < 2)
  | .comparatorMismatch unit port => decide (unit < 16) && decide (port < 256)
  | .delayPar unit port => decide (unit < 16) && decide (port < 256)
  | .compFail unit => decide (unit < 16)
  | .debugAccess => true
  | .dramScrubRead _ _ => true
  | .dramScrubLate => true
  | .sramScrubRead _ _ _ _ _ => true
  | .sramScrubLate => true
  | .memLogClear value => decide (value < 2 ^ 32)
  | .fabricAccess a => a.wf
  | .gateSeal master _ value => decide (master < 64) && decide (value < 2 ^ 32)
  | .gatePop g value => decide (g < 16) && decide (value < 2 ^ 32)
  | .gateEntryWrite master _ address value =>
    decide (master < 64) && decide (address < 2 ^ 40) && decide (value < 2 ^ 32)
  | .gateDrainComplete g => decide (g < 16)
  | .gateDrainTimeout g incomplete => decide (g < 16) && decide (incomplete < 65536)
  | .coldReset cause => decide (cause < 8)
  | .warmReset _ => true
  | .perDomainReset domain _ => decide (domain < 16)
  | .warmResetRequest => true
  | .domainResetRequest mask => decide (mask < 65536)
  | .otpDigestCheck _ => true
  | .enrolRenewal slot _ => decide (slot < 64)
  | .nandSweepRead _ => true
  | .sweepLate => true
  | .confWriteComplete _ => true
  | .logFlush => true
  | .logBudgetRefill => true
  | .lifetimeHours _ _ => true
  | .nandWear => true
  | .bkdTrim => true
  | .bkdAlarmFire => true
  | .weekdayAdvance => true
  | .bkdAlarmHiWrite value => decide (value < 2 ^ 32)
  | .bkdAlarmLoWrite value => decide (value < 2 ^ 32)
  | .bkdWdWrite value => decide (value < 2 ^ 32)
  | .park => true
  | .parkTimeout => true
  | .thermalRestart => true
  | .bkdBytesWrite offset _ => decide (offset < 64)
  | .bkdBytesInit => true
  | .supplyChange _ _ _ => true
  | .bkdDip => true
  | .bkdPowerOn => true
  | .feedLost feed _ => decide (feed < 2)
  | .feedGood feed _ _ => decide (feed < 2)
  | .feedOv feed _ => decide (feed < 2)
  | .feedOvClear feed _ => decide (feed < 2)
  | .feedReturn => true
  | .feedBRelease => true
  | .seatedDetectMade slotId groupId => decide (slotId < 64) && decide (groupId < 16)
  | .seatPartial _ => true
  | .seatedDetectBreak _ => true
  | .buttonPress => true
  | .buttonHeld => true
  | .tempSample _ _ => true
  | .thermalFail => true
  | .thermalShutdown => true
  | .avsAdjust _ => true
  | .droopDetect _ => true
  | .mgmtOpSelect op => decide (op < 4)
  | .clockGate domain => decide (domain < 16)
  | .clockWake domain => decide (domain < 16)
  | .clockFault domain => decide (domain < 16)
  | .railFault => true
  | .firmwareWatchdog unit => decide (unit < 256)
  | .registerWrite address value sets =>
    decide (address < 2 ^ 20) && decide (value < 2 ^ 32) && sets.all (fun b => decide (b < 32))
  | .ownerLost => true
  | .pairOkEdge => true
  | .cellLow => true
  | .ocxoWarm => true
  | .trialHandoverTimeout => true
  | .ptpAnnounce port _ _ _ _ _ => decide (port < 5)
  | .ptpDelayReq port => decide (port < 5)
  | .malformed _ _ r => r.wf
  | .c37118ClientConnect stream => decide (stream < 16)
  | .c37118ClientClose stream => decide (stream < 16)

end Sys2Proof
end

