-- ==== Sys2Proof/Safety.lean ====
section
/-! DEFINITION. What counts as safe: a state in canonical form whose waiting commands are well formed, a command that
completes, a run in which every step does, and how a mailbox request is answered. -/

namespace Sys2Proof.Machine

/-- The register file and the memory are in canonical form. -/
abbrev State.canonical (s : State) : Prop := regsWf s = true ∧ memWf s = true

/-- Every waiting command is well formed. -/
def State.queueOk (s : State) : Prop := ∀ c ∈ s.pending, Instr.wellFormed c = true

/-- The command completes in this state, and the next state has a property. -/
def leads (c : Instr) (s : State) (p : State → Prop) : Prop := ∃ t, exec c s = .next t ∧ p t

/-- The command has an effect in this state: it is neither refused nor a fault. -/
def completes (c : Instr) (s : State) : Prop := leads c s (fun _ => True)

/-- The next `n` steps all complete. -/
def runsSafely : Nat → State → Prop
  | 0, _ => True
  | n + 1, s => ∃ t, step s = .next t ∧ runsSafely n t

/-- Every byte of the fabric memory reads as before. -/
def memKept (s t : State) : Prop := ∀ a, t.byte a = s.byte a

/-- Neither ring of session `i`'s pair is in service (03 R74): what the session sends and receives passes its stream alone. -/
def ringsIdle (i : Nat) (s : State) : Bool :=
  !s.on (Reg.rcbCfgEnable (sessionRing i)) && !s.on (Reg.rcbCfgEnable (sessionRing i + 1))

/-- A request answered after its class bound is late (03 R94). -/
def inTime (fam cmd : Nat) (r : Req) : Bool :=
  match cmdRow fam cmd with
  | some row => (match classBound row.cls with | some b => decide (r.elapsedNs ≤ b) | none => true)
  | none => false

/-- A request of session `i` passes checks 1 to 8 of 03 R93, wants a response, and has it within its class bound. -/
def requestOk (fam cmd : Nat) (lenOk : Nat → Bool) (i : Nat) (r : Req) (s : State) : Bool :=
  decide (r.src = .host i) && accepted fam cmd r lenOk s && !noResponse r && inTime fam cmd r

/-- The command answers its request OK, with a payload, from the state `u` that it leaves; request and answer pass the
session's rings (03 R74). -/
def answers (c : Instr) (fam cmd i : Nat) (r : Req) (s : State) (p : List Byte → State → Prop) : Prop :=
  ∃ pay u, exec c s = .next (carryRequest i fam cmd r (respond i r.seq fam cmd stOk pay u)) ∧ p pay u

/-- The command answers its request with a status that is not OK and a DETAIL, from the state `u` that it leaves. -/
def answersErr (c : Instr) (fam cmd i : Nat) (r : Req) (s : State) (status detail : Nat) (p : State → Prop) : Prop :=
  ∃ u, exec c s = .next (carryRequest i fam cmd r (respond i r.seq fam cmd status (detailBytes detail) u)) ∧ p u

/-- The command, of class D, is accepted and its request stays outstanding. -/
def holds (c : Instr) (fam cmd i : Nat) (r : Req) (s : State) (p : State → Prop) : Prop :=
  ∃ u, exec c s = .next (carryRequest i fam cmd r (holdOpen i ⟨r.seq, fam, cmd, s.mono, noResponse r⟩ u)) ∧ p u

/-- Engine `e` runs a segment, and an instruction of `len` bytes at its PC lies in the code range it runs (05 R151,
R173). -/
abbrev petalReady (e len : Nat) (s : State) : Prop :=
  e < 8 ∧ (s.eng e).running = true ∧ (s.eng e).lo ≤ (s.eng e).pc ∧ (s.eng e).pc + len ≤ (s.eng e).hi

/-- The state in which only engine `e` has changed: its PC stands past an instruction of `len` bytes, its operand stack
is `st`, `cyc` more cycles are used, and the entries of its stacks beyond their depths stand as they were (13 R400). -/
def petalNext (e len cyc : Nat) (st : List Quad) (s : State) : State :=
  s.putEng e (keepCells { s.eng e with
    pc := (s.eng e).pc + len, stack := st, cycles := (s.eng e).cycles + cyc, used := (s.eng e).used + cyc })

/-- The state in which the task of engine `e` has gained the given sticky flags (05 R162). -/
def petalFlagged (e : Nat) (ovf divz : Bool) (s : State) : State :=
  s.updTask (s.eng e).task (fun k => { k with ovf := k.ovf || ovf, divz := k.divz || divz })

/-- The value an entry in the stack form of an integer class has (05 R154, R155). -/
def clsValue (c : IClass) (q : Quad) : Int := if c.isSigned then q.toInt else (q.toNat : Int)

/-- The entry is the integer `r` reduced modulo 2^32 or 2^64 to the canonical form of the class (05 R158). -/
def isReduced (c : IClass) (r : Int) (q : Quad) : Prop :=
  clsLeast c ≤ clsValue c q ∧ clsValue c q ≤ clsMost c ∧ (clsValue c q - r) % ((2 ^ c.bits : Nat) : Int) = 0

/-- An integer lies outside the range of a class. -/
def outside (c : IClass) (r : Int) : Bool := decide (r < clsLeast c ∨ clsMost c < r)

/-- What a store of `r`'s predecessor `v` as a type of kind `k` and `n` bytes leaves (05 R163, R165): the low bytes of `v`
(1 or 0 for BOOL) stand at bank offset `off` of the space, every other byte of memory and every register is unchanged, OVF
is set where an integer value lies outside the type, and an instance write enters the frame's writes. -/
def storedAt (e len cyc : Nat) (k : TyKind) (n : Nat) (sp : Space) (off : Nat) (v : Quad) (r : List Quad) (s t : State) :
    Prop :=
  let bs : List Byte := if k = .bool then (if v = 0#64 then [0#8] else [1#8]) else leBytes n v.toNat
  let ovf : Bool := match k with
    | .signed => decide (v.toInt < -((2 ^ (8 * n - 1) : Nat) : Int) ∨ ((2 ^ (8 * n - 1) : Nat) : Int) ≤ v.toInt)
    | .unsigned => decide (2 ^ (8 * n) ≤ v.toNat)
    | _ => false
  t.bytes (spaceBank s e sp + off) n = bs ∧
  (∀ x, x < spaceBank s e sp + off ∨ spaceBank s e sp + off + n ≤ x → t.byte x = s.byte x) ∧
  t.regs = s.regs ∧ t.prog.tasks = (petalFlagged e ovf false s).prog.tasks ∧
  (t.eng e).pc = (s.eng e).pc + len ∧ (t.eng e).stack = r ∧ (t.eng e).cycles = (s.eng e).cycles + cyc ∧
  (t.eng e).writes = (s.eng e).writes ++ (if sp = .inst then [(off, bs)] else [])

/-- The module has entered FAILED for a class of 13 R407: the class and unit are recorded, OWN is released, the claim logic
is disarmed, releases are blocked and PAIR_OK_OUT stands (R395, R555, 11 R341, R343). -/
def hasFailed (cls unit : Nat) (t : State) : Prop :=
  t.role = roleFailed ∧ t.get Reg.lckFaultClass = cls ∧ t.get Reg.lckFaultUnit = unit ∧ t.held = false ∧
  t.on Reg.hhkPairStatusArmed = false ∧ t.pair.blocked = true ∧ t.pair.pairOkOut = false

/-- The running segment has posted no request yet, and no further segment is due on its engine in this frame. -/
abbrev lastSegment (e : Nat) (s : State) : Prop :=
  (s.eng e).posted = [0, 0, 0, 0] ∧ (s.eng e).due = []

/-- The task at a TASKS position has taken a fault with a code of 04 R126 (R127): its period ends, and a task of
FAULT_MODE HALT is halted. -/
def tookFault (p code : Nat) (s t : State) : Prop :=
  (t.task p).lastFault = code ∧ (t.task p).faults = min 65535 ((s.task p).faults + 1) ∧ (t.task p).alive = false ∧
  (t.task p).halted = ((s.task p).halted || (match s.taskRow p with | some r => r.faultMode == 1 | none => false)) ∧
  (t.task p).copied = (s.task p).copied

/-- Every Petal engine keeps the depths of 05 R151: at most 16 operands, 16 call levels and 4 loop levels, in the running
level and in each saved one. -/
abbrev State.depthsOk (s : State) : Prop :=
  ∀ g ∈ s.prog.engines, g.stack.length ≤ 16 ∧ g.calls.length ≤ 16 ∧ g.loops.length ≤ 4 ∧
    ∀ l ∈ g.calls, l.loops.length ≤ 4

/-- The mailbox request that a command of the index R100 carries: its family, its code and the request. -/
def mailboxRequest : Instr → Option (Nat × Nat × Req)
  | .identGetIdent r => some (1, 1, r)
  | .identGetBlockVersions r => some (1, 2, r)
  | .identGetCertificates r => some (1, 3, r)
  | .sessionGetInfo r => some (2, 1, r)
  | .sessionSetActiveRoles r => some (2, 2, r)
  | .sessionKeepalive r => some (2, 3, r)
  | .sessionSetIdle r => some (2, 4, r)
  | .sessionSubscribe r => some (2, 5, r)
  | .sessionClose r => some (2, 6, r)
  | .sessionListSessions r => some (2, 7, r)
  | .sessionTerminate r => some (2, 8, r)
  | .configGetActive r => some (3, 1, r)
  | .configReadSettings r => some (3, 2, r)
  | .configStageSettings r => some (3, 3, r)
  | .configActivate r => some (3, 4, r)
  | .configDiscardStaged r => some (3, 5, r)
  | .programGetStatus r => some (4, 1, r)
  | .programLoadUnit r => some (4, 2, r)
  | .programStartChange r => some (4, 3, r)
  | .programAbortChange r => some (4, 4, r)
  | .programRun r => some (4, 5, r)
  | .programStop r => some (4, 6, r)
  | .programGetTaskStats r => some (4, 7, r)
  | .programReadVar r => some (4, 8, r)
  | .forceList r => some (5, 1, r)
  | .forceSet r => some (5, 2, r)
  | .forceRelease r => some (5, 3, r)
  | .forceReleaseAll r => some (5, 4, r)
  | .diagReadRegs r => some (6, 1, r)
  | .diagWriteRegs r _ => some (6, 2, r)
  | .diagGetHealth r => some (6, 3, r)
  | .diagRaiseAlarm r => some (6, 4, r)
  | .timeGetStatus r => some (7, 1, r)
  | .timeGetSources r => some (7, 2, r)
  | .timeGetConfig r => some (7, 3, r)
  | .timeSetConfig r => some (7, 4, r)
  | .timeStep r => some (7, 5, r)
  | .timeSetTaiUtc r => some (7, 6, r)
  | .updateGetStatus r => some (8, 1, r)
  | .updateBegin r => some (8, 2, r)
  | .updateTransfer r => some (8, 3, r)
  | .updateInstall r => some (8, 4, r)
  | .updateConfirm r => some (8, 5, r)
  | .updateAbort r => some (8, 6, r)
  | .updateGroupUpdate r => some (8, 7, r)
  | .archiveList r => some (9, 1, r)
  | .archiveExport r => some (9, 2, r)
  | .archiveDelete r => some (9, 3, r)
  | .archiveLogEvent r => some (9, 4, r)
  | .archiveReadLog r => some (9, 5, r)
  | .securityGetState r => some (10, 1, r)
  | .securitySetTrustAnchors r => some (10, 2, r)
  | .securityLoadCrl r => some (10, 3, r)
  | .securityEnrol r => some (10, 4, r)
  | .securitySetRoleMap r => some (10, 5, r)
  | .securityRevokeRootSlot r => some (10, 6, r)
  | .securityRotateGroupKeys r => some (10, 7, r)
  | .redundancyGetStatus r => some (11, 1, r)
  | .redundancyHandover r => some (11, 2, r)
  | .redundancyLeaveGroup r => some (11, 3, r)
  | .redundancyRemoveRequest r => some (11, 4, r)
  | .redundancyResync r => some (11, 5, r)
  | .redundancyGetSignatures r => some (11, 6, r)
  | .asterGetStatus r => some (12, 1, r)
  | .asterGetConfig r => some (12, 2, r)
  | .asterSetConfig r => some (12, 3, r)
  | .asterGetPhasors r => some (12, 4, r)
  | .asterSetStreaming r => some (12, 5, r)
  | .larkspurGetStatus r => some (13, 1, r)
  | .larkspurGetConfig r => some (13, 2, r)
  | .larkspurSetConfig r => some (13, 3, r)
  | .larkspurGetEvents r => some (13, 4, r)
  | .larkspurCalibrate r => some (13, 5, r)
  | .larkspurManualTrigger r => some (13, 6, r)
  | .fieldioGetStatus r => some (14, 1, r)
  | .fieldioGetConfig r => some (14, 2, r)
  | .fieldioSetConfig r => some (14, 3, r)
  | .fieldioClearFault r => some (14, 4, r)
  | .canauxGetStatus r => some (15, 1, r)
  | .canauxGetConfig r => some (15, 2, r)
  | .canauxSetConfig r => some (15, 3, r)
  | .canauxTxEnqueue r => some (15, 4, r)
  | .canauxRecover r => some (15, 5, r)
  | .canauxReadRx r => some (15, 6, r)
  | .lifetimeGetSummary r => some (16, 1, r)
  | .lifetimeReadRecords r => some (16, 2, r)
  | .lifetimeAddNote r => some (16, 3, r)
  | _ => none

/-- A request of a Petal engine is the next to be served (03 R74), passes checks 1 to 8 of 03 R93, and its class A action comes within its bound. -/
def petalOk (fam cmd : Nat) (lenOk : Nat → Bool) (e : Nat) (r : Req) (s : State) : Bool :=
  match cmdRow fam cmd with
  | some row => decide (r.src = .petal e) && !waitsBehind e fam s && headerOk r && row.petal && lenOk r.payload.length && inTime fam cmd r
  | none => false

/-- A Hollyhock frame of a type is used (12 R373, R374, R553): its tag verifies under a key still accepted, its counter
rises, its port carries its type, and, where both ports carry it, it is the first copy. -/
def frameUsed (type : Nat) (h : HhkHdr) (s : State) : Bool :=
  h.tagOk && (!h.underOldKey || s.hhk.oldKeys.any (fun p => p.1 == h.srcSlot)) && decide (assoc s.hhk.lastCtr (ctrKey h) ≤ h.counter)
    && (type == typeHeartbeat || !bitOf s.hhk.miswired h.port)
    && (type == typeHeartbeat || type == typeDelayReq || type == typeDelayResp
      || !s.hhk.seen.contains (type, h.srcSlot, h.frame, h.segment, h.dst))

/-- What is left where a check of 16 R456 fails for a peer: no key is agreed, the owner refuses that peer's JOIN, and a
joiner goes to role none. -/
def keyRefusedAs (slot : Nat) (s t : State) : Prop :=
  t.hhk.keyMsgs = s.hhk.keyMsgs ∧ t.get Reg.hhkStatusKeyEpoch = s.get Reg.hhkStatusKeyEpoch ∧
  (s.pair.joiner = some slot → t.pair.joiner = none ∧ ∃ w n, .peer w "JOIN_REFUSE" n true [slot] ∈ t.outbox) ∧
  (s.pair.joiner ≠ some slot → s.role = roleSyncing → t.role = roleNone)

/-- The log budget admits an entry, and none has been suppressed since the last (17 R489). -/
abbrev logAdmits (s : State) : Prop := s.nvs.budget ≠ 0 ∧ s.nvs.suppressed = 0 ∧ s.nvs.log.length < 696320

end Sys2Proof.Machine
end

