-- ==== Sys2Proof/Certificates/Slice0/Obligations.lean ====
section
/-! DEFINITION. The statements about this model, each with the rules of spec/ it rests on. The vocabulary is that of
Safety.lean. -/

open Sys2Proof Sys2Proof.Machine

/-- For every command and state, the step of the state with that command at the front of its queue is exec of the
command on the state with the queue's rest; with no command waiting the step answers the state itself. Every command
of the table completes in every state: none is refused and none is a fault. (The queue, and that an empty one idles,
are the model's own choice: log entry 1.) (00 Scope, 03 Mailbox interface, command handling) -/
def Obligations.StepRunsTheFrontCommand : Prop :=
  (∀ (c : Instr) (rest : List Instr) (s : State),
    step { s with pending := c :: rest } = exec c { s with pending := rest }) ∧
  (∀ s : State, s.pending = [] → step s = .next s) ∧
  (∀ (c : Instr) (s : State), completes c s)

/-- At reset the identity register of every block holds its block number, the registers that the tables give a reset
value other than 0 hold it (TIM, RCB_CFG, AST, HHK, GATE, SEC, NVS, BKD and PWR), the role is none, no session is
open, memory lists nothing (log entry 2: it reads 0) and no engine runs. MAJOR and MINOR, per firmware, are 0 by log
entry 4. The state is in canonical form and within the depths of Petal, which every step keeps. (R9, R29, R30, 02
Frame and time, 03 MBX registers, 01 SYS registers, R151, 15 Worlds and gates R429) -/
def Obligations.TheResetState : Prop :=
  (∀ b, b < 16 → State.reset.reg (0x10000 * b) = BitVec.ofNat 32 (0x10000 * b)) ∧
  (∀ p ∈ [(0x10004, 0x000F0005), (0x1002C, 0xFFFFFFFF), (0x60028, 0x0000FFFF), (0x90010, 0x0000001F),
      (0xA0004, 0x3F000000), (0xE0004, 0xA0000000), (0xE0008, 0x00000020), (0xE002C, 0x20460000),
      (0xF0024, 0x80008000), (0xF0038, 0x01000000)], State.reset.reg p.1 = BitVec.ofNat 32 p.2) ∧
  (∀ r, r < 256 → State.reset.reg (0x21008 + 32 * r) = 4#32) ∧
  (∀ g, g < 16 → State.reset.reg (0xB1000 + 2048 * g) = 0x40000000#32) ∧
  State.reset.role = roleNone ∧ (∀ i, i < 16 → State.reset.on (Reg.mbxSessOpen i) = false) ∧
  State.reset.mem = [] ∧ State.reset.pending = [] ∧ (∀ e, (State.reset.eng e).running = false) ∧
  State.reset.canonical ∧ State.reset.depthsOk

/-- For every state whose register file and memory are in canonical form (keys strictly rising, no entry equal to
what an unlisted one reads as), if the step answers a next state, that state is in canonical form too. So equal
contents are equal data after every command of the table. (R24, 15 Worlds and gates R429) -/
def Obligations.EveryStepKeepsTheCanonicalForm : Prop :=
  ∀ s t : State, s.canonical → step s = .next t → t.canonical

/-- For every state in which each engine's operand stack, call stack and loop levels are within the depths of R151,
if the step answers a next state they are within them there too, whatever the command. (R151, R173) -/
def Obligations.EveryStepKeepsTheStackDepths : Prop :=
  ∀ s t : State, s.depthsOk → step s = .next t → t.depthsOk

/-- A well-formed event of the networks, the lanes of Hollyhock and Larkspur, the field stages, the CAN controllers,
the supplies and clocks, the backup domain, the memory log, the gates, the pair lines or the MMS server leaves every
register outside the blocks named for it, all of memory, the queue, the settings objects and the state of boot,
identity and update as they were. (R24, R9, R10) -/
def Obligations.CommandsKeepToTheirUnitsBlocks : Prop :=
  ∀ (s t : State) (a b c d : Nat) (p q : Bool) (x y : Int) (l : List Byte) (h : HhkHdr) (f : NetFrame) (g : CanFrame)
      (i : Instr) (bs : List Nat),
    (i, bs) ∈ [(Instr.netFrameRx f, [5]), (.linkChange a p b q p, [5]), (.prpSupervision a, []), (.nodeForget a b, [5]),
      (.entryForget a b c, [5]), (.txLate a, [5]), (.macsecUp a, [3, 5]), (.macsecDown a, [3, 5]),
      (.c37118Command a b c, [3]), (.c37118ClientConnect a, [3]), (.c37118ClientClose a, [3]),
      (.mmsConclude a, []), (.mmsAbort a, []), (.mmsRead a b, []), (.mmsWriteRcb a b p l, []),
      (.mmsFileOpen a b, []), (.mmsFileRead a b c, []), (.mmsFileClose a b, []),
      (.groupArmed a, [4]), (.fldLow, [6]), (.fldNormal, [6]), (.lockout, [6]), (.lockoutEnd a, [6]), (.doLatchOff a, [6]),
      (.stageHoldEnd, [6]), (.wettingPulseEnd, []), (.canFrameRx a g, [7]), (.canBusIdle a b p, [7]),
      (.canTxDone a b c p d, [7]), (.canRecoveryComplete a, [7]), (.canBusIntegration a, [7]),
      (.laneTrainComplete a b p, [8]), (.laneCheckComplete a b, [8]), (.laneErroredBlock a b, [8]), (.laneLost a b c, [8]),
      (.laneRetrain a b, [8]), (.ownLineFall, [8]), (.quietTimeExpiry, [8]), (.peerKillInRelease, [8]),
      (.peerKillOutAssert, [8]), (.pairOkMissing, [8]), (.pairOkEdge, [8]), (.ack h a, [8]), (.taintRelease h, [8]),
      (.oldKeyExpiry, []), (.heartbeatTx, []), (.checkpointSend, []),
      (.dramScrubLate, [0xA]), (.sramScrubLate, [0xA]), (.memLogClear a, [0xA]), (.gatePop a b, [0xB, 0xD]),
      (.gateEntryWrite a p b c, [0xB]), (.gateDrainComplete a, [0xB]), (.gateDrainTimeout a b, [0xB]),
      (.gateSeal a p b, [9, 0xB]), (.bkdAlarmLoWrite a, [0xE]), (.bkdWdWrite a, [0xE]), (.bkdBytesWrite a l, [0xE]),
      (.bkdBytesInit, [0xE]), (.bkdDip, [0xE]), (.cellLow, [0xE]), (.bkdPowerOn, [0xE]),
      (.seatPartial p, [0xF]), (.tempSample x y, [0xF]), (.avsAdjust a, [0xF]), (.droopDetect a, [0xF]),
      (.mgmtOpSelect a, [0xF]), (.clockGate a, [0xF]), (.clockWake a, [0xF]), (.feedReturn, [0xF]), (.feedBRelease, []),
      (.warmResetRequest, [0xF]), (.domainResetRequest a, [0xF])] →
    Instr.wellFormed i = true → exec i s = .next t →
      memKept s t ∧ t.pending = s.pending ∧ t.cfg = s.cfg ∧ t.sec = s.sec ∧
      ∀ n, n / 0x10000 ∉ bs → t.reg n = s.reg n

/-- On an engine that runs a segment, NOP, DUP, DROP, SWAP, OVER, ROT, PICK, PUSH0, PUSH1, PUSHB, PUSHW and LDK
complete with the stack effect, the PC advance and the cycles of R157. The integer compares read all 64 bits, signed
or unsigned; the compares of F32 and F64 give 0 with a NaN operand, NE 1; MIN, MAX and SEL choose an operand.
Nothing but that engine changes. (R157, R159, 05 Petal code, stack and constants) -/
def Obligations.PetalStackAndCompares : Prop :=
  ∀ (e : Nat) (s : State),
    (petalReady e 1 s → exec (.pNop e) s = .next (petalNext e 1 1 (s.eng e).stack s)) ∧
    (∀ a r, petalReady e 1 s → (s.eng e).stack = a :: r → r.length < 15 →
      exec (.pDup e) s = .next (petalNext e 1 1 (a :: a :: r) s)) ∧
    (∀ a r, petalReady e 1 s → (s.eng e).stack = a :: r → exec (.pDrop e) s = .next (petalNext e 1 1 r s)) ∧
    (∀ a b r, petalReady e 1 s → (s.eng e).stack = b :: a :: r →
      exec (.pSwap e) s = .next (petalNext e 1 1 (a :: b :: r) s)) ∧
    (∀ a b r, petalReady e 1 s → (s.eng e).stack = b :: a :: r → r.length < 14 →
      exec (.pOver e) s = .next (petalNext e 1 1 (a :: b :: a :: r) s)) ∧
    (∀ a b c r, petalReady e 1 s → (s.eng e).stack = c :: b :: a :: r →
      exec (.pRot e) s = .next (petalNext e 1 1 (a :: c :: b :: r) s)) ∧
    (∀ n a, petalReady e 2 s → n ≤ 15 → (s.eng e).stack[n]? = some a → (s.eng e).stack.length < 16 →
      exec (.pPick e n) s = .next (petalNext e 2 1 (a :: (s.eng e).stack) s)) ∧
    ((s.eng e).stack.length < 16 →
      (petalReady e 1 s → exec (.pPush0 e) s = .next (petalNext e 1 1 (0#64 :: (s.eng e).stack) s)) ∧
      (petalReady e 1 s → exec (.pPush1 e) s = .next (petalNext e 1 1 (1#64 :: (s.eng e).stack) s)) ∧
      (∀ b, petalReady e 2 s → exec (.pPushb e b) s =
        .next (petalNext e 2 1 ((BitVec.ofNat 8 b).signExtend 64 :: (s.eng e).stack) s)) ∧
      (∀ w, petalReady e 3 s → exec (.pPushw e w) s =
        .next (petalNext e 3 1 ((BitVec.ofNat 16 w).signExtend 64 :: (s.eng e).stack) s)) ∧
      (∀ idx u, petalReady e 3 s → s.prog.active = some u → idx < constCount u e → exec (.pLdk e idx) s =
        .next (petalNext e 3 2
          (BitVec.ofNat 64 (leNat (s.bytes (codeBase s e + constOff u e + 8 * idx) 8)) :: (s.eng e).stack) s))) ∧
    (∀ (a b : Quad) (r : List Quad), petalReady e 1 s → (s.eng e).stack = b :: a :: r →
      (let c (p : Bool) : Host.Outcome State Fault Refusal := .next (petalNext e 1 1 ((if p then 1#64 else 0#64) :: r) s)
       exec (.pEq e) s = c (a = b) ∧ exec (.pNe e) s = c (a ≠ b) ∧
       exec (.pLtS e) s = c (a.toInt < b.toInt) ∧ exec (.pLeS e) s = c (a.toInt ≤ b.toInt) ∧
       exec (.pGtS e) s = c (b.toInt < a.toInt) ∧ exec (.pGeS e) s = c (b.toInt ≤ a.toInt) ∧
       exec (.pLtU e) s = c (a.toNat < b.toNat) ∧ exec (.pLeU e) s = c (a.toNat ≤ b.toNat) ∧
       exec (.pGtU e) s = c (b.toNat < a.toNat) ∧ exec (.pGeU e) s = c (b.toNat ≤ a.toNat)) ∧
      (∀ k, let x := flBits k a
        let y := flBits k b
        let c (p : Bool) : Host.Outcome State Fault Refusal := .next (petalNext e 1 2 ((if p then 1#64 else 0#64) :: r) s)
        (fIsNan k x = true ∨ fIsNan k y = true →
          exec (.pEqF e k) s = c false ∧ exec (.pNeF e k) s = c true ∧ exec (.pLtF e k) s = c false ∧
          exec (.pLeF e k) s = c false ∧ exec (.pGtF e k) s = c false ∧ exec (.pGeF e k) s = c false) ∧
        (fIsNan k x = false → fIsNan k y = false →
          exec (.pEqF e k) s = c (fEq k x y) ∧ exec (.pNeF e k) s = c (!fEq k x y) ∧
          exec (.pLtF e k) s = c (fLt k x y) ∧ exec (.pLeF e k) s = c (fLt k x y || fEq k x y) ∧
          exec (.pGtF e k) s = c (fLt k y x) ∧ exec (.pGeF e k) s = c (fLt k y x || fEq k x y))) ∧
      (let c (q : Quad) : Host.Outcome State Fault Refusal := .next (petalNext e 1 1 (q :: r) s)
       exec (.pMinS e) s = c (if a.toInt ≤ b.toInt then a else b) ∧
       exec (.pMaxS e) s = c (if b.toInt ≤ a.toInt then a else b) ∧
       exec (.pMinU e) s = c (if a.toNat ≤ b.toNat then a else b) ∧
       exec (.pMaxU e) s = c (if b.toNat ≤ a.toNat then a else b)) ∧
      (∀ g r', r = g :: r' →
        exec (.pSel e) s = .next (petalNext e 1 1 ((if g = 0#64 then a else b) :: r') s)))

/-- ADD, SUB, MUL, DIV and MOD of every class, and NEG and ABS of I32 and I64, read their operands in the class,
form the exact result r (a quotient truncated toward 0, a remainder with the sign of a), push r reduced to canonical
form and set OVF where r lies outside the class; a divisor of 0 pushes 0 and sets DIVZ. Cycles are those of R157.
Nothing else changes. (R158) -/
def Obligations.PetalIntegerArithmetic : Prop :=
  ∀ (e : Nat) (s : State) (a b : Quad) (r : List Quad), petalReady e 1 s →
    (∀ c, (s.eng e).stack = b :: a :: r →
      (∃ q, isReduced c (clsRead c a + clsRead c b) q ∧ exec (.pAdd e c) s = .next (petalNext e 1 1 (q :: r)
        (petalFlagged e (outside c (clsRead c a + clsRead c b)) false s))) ∧
      (∃ q, isReduced c (clsRead c a - clsRead c b) q ∧ exec (.pSub e c) s = .next (petalNext e 1 1 (q :: r)
        (petalFlagged e (outside c (clsRead c a - clsRead c b)) false s))) ∧
      (∃ q, isReduced c (clsRead c a * clsRead c b) q ∧
        exec (.pMul e c) s = .next (petalNext e 1 (if c.bits = 32 then 3 else 4) (q :: r)
          (petalFlagged e (outside c (clsRead c a * clsRead c b)) false s))) ∧
      (clsRead c b = 0 →
        exec (.pDiv e c) s = .next (petalNext e 1 (if c.bits = 32 then 20 else 36) (0#64 :: r)
          (petalFlagged e false true s)) ∧
        exec (.pMod e c) s = .next (petalNext e 1 (if c.bits = 32 then 20 else 36) (0#64 :: r)
          (petalFlagged e false true s))) ∧
      (clsRead c b ≠ 0 →
        (∃ q, isReduced c ((clsRead c a).tdiv (clsRead c b)) q ∧
          exec (.pDiv e c) s = .next (petalNext e 1 (if c.bits = 32 then 20 else 36) (q :: r)
            (petalFlagged e (outside c ((clsRead c a).tdiv (clsRead c b))) false s))) ∧
        (∃ q, isReduced c (clsRead c a - clsRead c b * (clsRead c a).tdiv (clsRead c b)) q ∧
          exec (.pMod e c) s = .next (petalNext e 1 (if c.bits = 32 then 20 else 36) (q :: r)
            (petalFlagged e false false s))))) ∧
    (∀ wide c, c = (if wide then IClass.i64 else IClass.i32) → (s.eng e).stack = a :: r →
      (∃ q, isReduced c (-clsRead c a) q ∧ exec (.pNeg e wide) s = .next (petalNext e 1 1 (q :: r)
        (petalFlagged e (outside c (-clsRead c a)) false s))) ∧
      (∃ q, isReduced c ((clsRead c a).natAbs : Int) q ∧ exec (.pAbs e wide) s = .next (petalNext e 1 1 (q :: r)
        (petalFlagged e (outside c ((clsRead c a).natAbs : Int)) false s))))

/-- ADD, SUB, MUL, DIV, NEG, ABS, SQRT, MIN and MAX of F32 and F64 and SIN, COS, ATAN2, EXP and LN complete with one
result in place of their operands and the cycles of R157. DIV sets DIVZ for a zero divisor, and no other sets a
flag. A NaN operand of NEG, ABS, SQRT, ADD, SUB, MUL and DIV gives the positive quiet NaN; MIN and MAX with one NaN
operand give the other operand. (R157, R159, R160) -/
def Obligations.PetalFloatingPoint : Prop :=
  ∀ (e : Nat) (s : State), petalReady e 1 s →
    (∀ c a b r, (s.eng e).stack = b :: a :: r →
      let x := flBits c a
      let y := flBits c b
      exec (.pAddF e c) s = .next (petalNext e 1 3 (quad (fAdd c x y) :: r) s) ∧
      exec (.pSubF e c) s = .next (petalNext e 1 3 (quad (fSub c x y) :: r) s) ∧
      exec (.pMulF e c) s = .next (petalNext e 1 3 (quad (fMul c x y) :: r) s) ∧
      exec (.pDivF e c) s = .next (petalNext e 1 (match c with | .f32 => 10 | .f64 => 16) (quad (fDiv c x y) :: r)
        (petalFlagged e false (fIsZero c y) s)) ∧
      exec (.pMinF e c) s = .next (petalNext e 1 2 (quad (fMin c x y) :: r) s) ∧
      exec (.pMaxF e c) s = .next (petalNext e 1 2 (quad (fMax c x y) :: r) s) ∧
      (fIsNan c x = true ∨ fIsNan c y = true →
        fAdd c x y = c.nan ∧ fSub c x y = c.nan ∧ fMul c x y = c.nan ∧ fDiv c x y = c.nan) ∧
      (fIsNan c x = true → fIsNan c y = false → fMin c x y = y ∧ fMax c x y = y) ∧
      (fIsNan c x = false → fIsNan c y = true → fMin c x y = x ∧ fMax c x y = x)) ∧
    (∀ c a r, (s.eng e).stack = a :: r →
      exec (.pNegF e c) s = .next (petalNext e 1 1 (quad (fNeg c (flBits c a)) :: r) s) ∧
      exec (.pAbsF e c) s = .next (petalNext e 1 1 (quad (fAbs c (flBits c a)) :: r) s) ∧
      exec (.pSqrt e c) s = .next (petalNext e 1 (match c with | .f32 => 10 | .f64 => 18)
        (quad (fSqrt c (flBits c a)) :: r) s) ∧
      (fIsNan c (flBits c a) = true →
        fNeg c (flBits c a) = c.nan ∧ fAbs c (flBits c a) = c.nan ∧ fSqrt c (flBits c a) = c.nan)) ∧
    (∀ a r, (s.eng e).stack = a :: r →
      exec (.pSin e) s = .next (petalNext e 1 48 (quad (fSin a.toNat) :: r) s) ∧
      exec (.pCos e) s = .next (petalNext e 1 48 (quad (fCos a.toNat) :: r) s) ∧
      exec (.pExp e) s = .next (petalNext e 1 44 (quad (fExp a.toNat) :: r) s) ∧
      exec (.pLn e) s = .next (petalNext e 1 44 (quad (fLn a.toNat) :: r) s)) ∧
    (∀ y x r, (s.eng e).stack = x :: y :: r →
      exec (.pAtan2 e) s = .next (petalNext e 1 56 (quad (fAtan2 y.toNat x.toNat) :: r) s))

/-- AND, OR and XOR act on all 64 bits. NOT, SHL, SHR, SAR, ROL and ROR act on the low w bits for w = 8, 16, 32 or
64, with a count of w or more giving 0, 0 and the fill of bit w-1. BNOT, BITGET and BITSET act on truth values and
one bit. Each bit of the result is given. (R157) -/
def Obligations.PetalLogicAndShifts : Prop :=
  ∀ (e : Nat) (s : State),
    (∀ a b r, petalReady e 1 s → (s.eng e).stack = b :: a :: r →
      exec (.pAnd e) s = .next (petalNext e 1 1 ((a &&& b) :: r) s) ∧
      exec (.pOr e) s = .next (petalNext e 1 1 ((a ||| b) :: r) s) ∧
      exec (.pXor e) s = .next (petalNext e 1 1 ((a ^^^ b) :: r) s)) ∧
    (∀ a r, petalReady e 1 s → (s.eng e).stack = a :: r →
      exec (.pBnot e) s = .next (petalNext e 1 1 ((if a = 0#64 then 1#64 else 0#64) :: r) s)) ∧
    (∀ w a r, petalReady e 2 s → w ∈ [8, 16, 32, 64] → (s.eng e).stack = a :: r →
      ∃ q, (∀ i, i < 64 → q.getLsbD i = (decide (i < w) && !a.getLsbD i)) ∧
        exec (.pNot e w) s = .next (petalNext e 2 1 (q :: r) s)) ∧
    (∀ w a k r, petalReady e 2 s → w ∈ [8, 16, 32, 64] → (s.eng e).stack = k :: a :: r →
      (∃ q, (∀ i, i < 64 → q.getLsbD i = (decide (i < w ∧ k.toNat ≤ i) && a.getLsbD (i - k.toNat))) ∧
        exec (.pShl e w) s = .next (petalNext e 2 1 (q :: r) s)) ∧
      (∃ q, (∀ i, i < 64 → q.getLsbD i = (decide (i + k.toNat < w) && a.getLsbD (i + k.toNat))) ∧
        exec (.pShr e w) s = .next (petalNext e 2 1 (q :: r) s)) ∧
      (∃ q, (∀ i, i < 64 → q.getLsbD i = a.getLsbD (min (i + k.toNat) (w - 1))) ∧
        exec (.pSar e w) s = .next (petalNext e 2 1 (q :: r) s)) ∧
      (∃ q, (∀ i, i < 64 → q.getLsbD i = (decide (i < w) && a.getLsbD ((i + w - k.toNat % w) % w))) ∧
        exec (.pRol e w) s = .next (petalNext e 2 1 (q :: r) s)) ∧
      (∃ q, (∀ i, i < 64 → q.getLsbD i = (decide (i < w) && a.getLsbD ((i + k.toNat % w) % w))) ∧
        exec (.pRor e w) s = .next (petalNext e 2 1 (q :: r) s))) ∧
    (∀ n a r, petalReady e 2 s → n ≤ 63 → (s.eng e).stack = a :: r →
      exec (.pBitget e n) s = .next (petalNext e 2 1 ((if a.getLsbD n then 1#64 else 0#64) :: r) s)) ∧
    (∀ n a b r, petalReady e 2 s → n ≤ 63 → (s.eng e).stack = b :: a :: r →
      ∃ q, (∀ i, i < 64 → q.getLsbD i = if i = n then decide (b ≠ 0#64) else a.getLsbD i) ∧
        exec (.pBitset e n) s = .next (petalNext e 2 1 (q :: r) s))

/-- For every pair of type codes 0x01 to 0x19, CVT and CVTT replace the operand by one entry, in the cycles of R161.
The same type pushes the operand unchanged with no flag. A non-float to BOOL gives 1 if non-zero. An integer, time
or character type to an integer or time type keeps a representable operand with no flag and otherwise wraps it to
the target's width with OVF; to a bit string or character type it truncates with no flag. (R161) -/
def Obligations.PetalConversions : Prop :=
  ∀ (e t1 t2 : Nat) (k1 k2 : TyKind) (n1 n2 : Nat) (a : Quad) (r : List Quad) (s : State),
    petalReady e 3 s → (s.eng e).stack = a :: r → tyOf t1 = some (k1, n1) → tyOf t2 = some (k2, n2) →
    (∃ q ovf, exec (.pCvt e t1 t2) s =
        .next (petalNext e 3 (convertCycles t1 t2) (q :: r) (petalFlagged e ovf false s)) ∧
      (t1 = t2 → q = a ∧ ovf = false) ∧
      (t1 ≠ t2 → k1 ≠ .float → k2 = .bool → q = (if a = 0#64 then 0#64 else 1#64) ∧ ovf = false) ∧
      (t1 ≠ t2 → k1 ∈ [.signed, .unsigned, .time, .char] → k2 ∈ [.signed, .unsigned, .time] →
        let v : Int := if k1 = .signed ∨ k1 = .time then a.toInt else (a.toNat : Int)
        let m : Int := ((2 ^ (8 * n2) : Nat) : Int)
        let lo : Int := if k2 = .unsigned then 0 else -((2 ^ (8 * n2 - 1) : Nat) : Int)
        let w : Int := if k2 = .unsigned then (q.toNat : Int) else q.toInt
        lo ≤ w ∧ w < lo + m ∧ (w - v) % m = 0 ∧ ovf = decide (v < lo ∨ lo + m ≤ v)) ∧
      (t1 ≠ t2 → k1 ∈ [.signed, .unsigned, .time, .char, .bits] → k2 ∈ [.bits, .char] →
        q.toNat = a.toNat % 2 ^ (8 * n2) ∧ ovf = false)) ∧
    (∃ q ovf, exec (.pCvtt e t1 t2) s =
      .next (petalNext e 3 (convertCycles t1 t2) (q :: r) (petalFlagged e ovf false s)) ∧
      (k1 ≠ .float → exec (.pCvtt e t1 t2) s = exec (.pCvt e t1 t2) s))

/-- Each direct and indexed load and store completes where its type is valid, its offset aligned, its range within
the limit of its space and its index below cnt. A load pushes the canonical value of the bytes; a store writes the
low bytes of the value, sets OVF where an integer value lies outside the type, and, in the instance space, enters
the frame's writes. Nothing else changes. (R163, R164, R165, R157) -/
def Obligations.PetalLoadsAndStores : Prop :=
  ∀ (e t off : Nat) (k : TyKind) (n : Nat) (s : State), e < 8 → tyOf t = some (k, n) → off % n = 0 →
    (∀ c sp, (c, sp) ∈ [(Instr.pLdl e t off, Space.loc), (.pLdi e t off, .inst), (.pLdin e t off, .inp),
        (.pLdout e t off, .out)] →
      petalReady e 4 s → (s.eng e).stack.length < 16 → off + n ≤ (spaceRange s e (s.eng e) sp).2 →
      exec c s = .next (petalNext e 4 2
        (canonical k n (leNat (s.bytes (spaceBank s e sp + (spaceRange s e (s.eng e) sp).1 + off) n)) :: (s.eng e).stack)
        s)) ∧
    (∀ cnt c sp, (c, sp) ∈ [(Instr.pLdxl e t off cnt, Space.loc), (.pLdxi e t off cnt, .inst),
        (.pLdxin e t off cnt, .inp), (.pLdxout e t off cnt, .out)] →
      ∀ i r, petalReady e 6 s → (s.eng e).stack = i :: r → r.length < 16 → 0 ≤ i.toInt → i.toInt < (cnt : Int) →
      off + i.toNat * n + n ≤ (spaceRange s e (s.eng e) sp).2 →
      exec c s = .next (petalNext e 6 4
        (canonical k n (leNat (s.bytes
          (spaceBank s e sp + (spaceRange s e (s.eng e) sp).1 + (off + i.toNat * n)) n)) :: r) s)) ∧
    (∀ c sp, (c, sp) ∈ [(Instr.pStl e t off, Space.loc), (.pSti e t off, .inst), (.pStout e t off, .out)] →
      ∀ v r, petalReady e 4 s → (s.eng e).stack = v :: r → (sp = .out → (s.eng e).err = false) →
      off + n ≤ (spaceRange s e (s.eng e) sp).2 →
      leads c s (storedAt e 4 2 k n sp ((spaceRange s e (s.eng e) sp).1 + off) v r s)) ∧
    (∀ cnt c sp, (c, sp) ∈ [(Instr.pStxl e t off cnt, Space.loc), (.pStxi e t off cnt, .inst),
        (.pStxout e t off cnt, .out)] →
      ∀ i v r, petalReady e 6 s → (s.eng e).stack = i :: v :: r → (sp = .out → (s.eng e).err = false) →
      0 ≤ i.toInt → i.toInt < (cnt : Int) → off + i.toNat * n + n ≤ (spaceRange s e (s.eng e) sp).2 →
      leads c s (storedAt e 6 4 k n sp ((spaceRange s e (s.eng e) sp).1 + (off + i.toNat * n)) v r s))

/-- COPY from a space to a writable space, both ranges of 1 to 4096 bytes within their limits, completes in 4 +
ceil(len/16) cycles: each destination byte is what its source byte was before, every byte outside the destination is
unchanged, and no register changes. (R164, R165) -/
def Obligations.PetalCopy : Prop :=
  ∀ (e spaces len : Nat) (a b : Space) (d o : Quad) (r : List Quad) (s : State),
    petalReady e 4 s → spaceOf (spaces % 16) = some a → spaceOf (spaces / 16 % 16) = some b → b ≠ .inp → b ≠ .const →
    ((s.eng e).err = true → b ≠ .out) → 1 ≤ len → len ≤ 4096 → (s.eng e).stack = d :: o :: r →
    o.toNat + len ≤ (spaceRange s e (s.eng e) a).2 → d.toNat + len ≤ (spaceRange s e (s.eng e) b).2 →
    let src := spaceBank s e a + (spaceRange s e (s.eng e) a).1 + o.toNat
    let dst := spaceBank s e b + (spaceRange s e (s.eng e) b).1 + d.toNat
    leads (.pCopy e spaces len) s (fun t =>
      (t.eng e).pc = (s.eng e).pc + 4 ∧ (t.eng e).stack = r ∧
      (t.eng e).cycles = (s.eng e).cycles + (4 + (len + 15) / 16) ∧
      (∀ j, j < len → t.byte (dst + j) = s.byte (src + j)) ∧
      (∀ x, x < dst ∨ dst + len ≤ x → t.byte x = s.byte x) ∧
      t.regs = s.regs ∧ t.prog.tasks = s.prog.tasks ∧
      (b ≠ .inst → (t.eng e).writes = (s.eng e).writes) ∧
      (b = .inst → ∃ w, (t.eng e).writes = (s.eng e).writes ++ w ∧ (∀ p ∈ w, 1 ≤ p.2.length ∧ p.2.length ≤ 8) ∧
        w.flatMap (·.2) = (List.range len).map (fun j => s.byte (src + j))))

/-- BR, BRZ, BRNZ and BRL go forward from the next instruction and close the loop levels they leave. LOOP opens a
level or skips its body, ENDLOOP returns to the body or closes the level, LIDX reads an index. CALLFB and CALLFN
save a level, clear a local frame and enter the callee; RET restores the level. Each in the cycles of R157. (R157,
R166, R168) -/
def Obligations.PetalBranchesLoopsAndCalls : Prop :=
  ∀ (e : Nat) (s : State),
    let g := s.eng e
    let next (cyc pc : Nat) (st : List Quad) (ls : List LoopLevel) : Host.Outcome State Fault Refusal :=
      .next (s.putEng e (keepCells
        { g with pc := pc, stack := st, loops := ls, cycles := g.cycles + cyc, used := g.used + cyc }))
    let left (target : Nat) : List LoopLevel := g.loops.dropWhile (fun l => decide (l.stop ≤ target))
    (∀ d, petalReady e 3 s → exec (.pBr e d) s = next 2 (g.pc + 3 + d) g.stack (left (g.pc + 3 + d))) ∧
    (∀ lo hi, petalReady e 5 s → exec (.pBrl e lo hi) s =
      next 2 (g.pc + 5 + (hi * 65536 + lo)) g.stack (left (g.pc + 5 + (hi * 65536 + lo)))) ∧
    (∀ d c r, petalReady e 3 s → g.stack = c :: r →
      exec (.pBrz e d) s = (if c = 0#64 then next 2 (g.pc + 3 + d) r (left (g.pc + 3 + d))
        else next 2 (g.pc + 3) r g.loops) ∧
      exec (.pBrnz e d) s = (if c = 0#64 then next 2 (g.pc + 3) r g.loops
        else next 2 (g.pc + 3 + d) r (left (g.pc + 3 + d)))) ∧
    (∀ max len c r, petalReady e 5 s → 1 ≤ max → g.stack = c :: r → c.toNat ≤ max → g.loops.length < 4 →
      exec (.pLoop e max len) s = (if c = 0#64 then next 3 (g.pc + 5 + len) r g.loops
        else next 3 (g.pc + 5) r (⟨c.toNat, 0, g.pc + 5, g.pc + 5 + len⟩ :: g.loops))) ∧
    (∀ l ls, petalReady e 1 s → g.loops = l :: ls →
      exec (.pEndloop e) s = (if l.index + 1 < l.count then next 1 l.body g.stack ({ l with index := l.index + 1 } :: ls)
        else next 1 (g.pc + 1) g.stack ls)) ∧
    (∀ n l, petalReady e 2 s → g.loops[n]? = some l → g.stack.length < 16 →
      exec (.pLidx e n) s = next 1 (g.pc + 2) (BitVec.ofNat 64 l.index :: g.stack) g.loops) ∧
    (∀ off idx ty, petalReady e 5 s → calleeOf s e idx 0 = some ty → off + ty.instSize ≤ g.instLim →
      g.calls.length < 16 → frameFits s e g ty.localSize = true →
      leads (.pCallfb e off idx) s (fun t =>
        (t.eng e).calls = ⟨g.pc + 5, g.ib, g.lb, g.instLim, g.locLim, g.loops, g.lo, g.hi⟩ :: g.calls ∧
        (t.eng e).pc = ty.codeOff ∧ (t.eng e).ib = g.ib + off ∧ (t.eng e).instLim = ty.instSize ∧
        (t.eng e).lb = g.lb + g.locLim ∧ (t.eng e).locLim = ty.localSize ∧ (t.eng e).loops = [] ∧
        (t.eng e).stack = g.stack ∧ (t.eng e).cycles = g.cycles + (12 + (ty.localSize + 63) / 64) ∧
        (∀ j, j < ty.localSize → t.byte (bankBase s e + (g.lb + g.locLim) + j) = 0#8) ∧
        (∀ x, x < bankBase s e + (g.lb + g.locLim) ∨ bankBase s e + (g.lb + g.locLim) + ty.localSize ≤ x →
          t.byte x = s.byte x) ∧ t.regs = s.regs)) ∧
    (∀ idx ty, petalReady e 3 s → calleeOf s e idx 1 = some ty → ty.args ≤ g.stack.length →
      g.calls.length < 16 → frameFits s e g ty.localSize = true → 8 * ty.args ≤ ty.localSize →
      leads (.pCallfn e idx) s (fun t =>
        (t.eng e).calls = ⟨g.pc + 3, g.ib, g.lb, g.instLim, g.locLim, g.loops, g.lo, g.hi⟩ :: g.calls ∧
        (t.eng e).pc = ty.codeOff ∧ (t.eng e).ib = g.ib ∧ (t.eng e).instLim = 0 ∧ (t.eng e).lb = g.lb + g.locLim ∧
        (t.eng e).locLim = ty.localSize ∧ (t.eng e).loops = [] ∧ (t.eng e).stack = g.stack.drop ty.args ∧
        (t.eng e).cycles = g.cycles + (12 + ty.args + (ty.localSize + 63) / 64) ∧
        (∀ i q, (g.stack.take ty.args).reverse[i]? = some q →
          t.bytes (bankBase s e + (g.lb + g.locLim) + 8 * i) 8 = leBytes 8 q.toNat) ∧
        (∀ j, 8 * ty.args ≤ j → j < ty.localSize → t.byte (bankBase s e + (g.lb + g.locLim) + j) = 0#8) ∧
        (∀ x, x < bankBase s e + (g.lb + g.locLim) ∨ bankBase s e + (g.lb + g.locLim) + ty.localSize ≤ x →
          t.byte x = s.byte x) ∧ t.regs = s.regs)) ∧
    (∀ l r, petalReady e 1 s → g.calls = l :: r →
      exec (.pRet e) s = .next (s.putEng e (keepCells { g with
        pc := l.ret, ib := l.ib, lb := l.lb, instLim := l.instLim, locLim := l.locLim, loops := l.loops
        lo := l.lo, hi := l.hi, calls := r, cycles := g.cycles + 6, used := g.used + 6 })))

/-- SEG ends the segment and the task resumes after it; END copies the output image to the output pool; the next
segment due begins, or the engine idles. An unassigned opcode faults the task with OPCODE and the module enters
FAILED with class 0x07; a segment beyond its worst case faults with CYCLE, class 0x06. A faulted task's outputs are
not copied, and a task of FAULT_MODE HALT halts. (05 Petal code, segments, R170, R173, 04 R126-R128, R122, 13 R407) -/
def Obligations.PetalSegmentEndsAndFaults : Prop :=
  ∀ (e : Nat) (s : State), (s.eng e).err = false → (s.eng e).task < s.prog.tasks.length →
    (petalReady e 1 s → (s.eng e).calls = [] → (s.eng e).loops = [] → (s.eng e).stack = [] → lastSegment e s →
      leads (.pSeg e) s (fun t => (t.eng e).running = false ∧
        (t.task (s.eng e).task).nextSeg = (s.eng e).seg + 1 ∧ (t.task (s.eng e).task).pc = (s.eng e).pc + 1 ∧
        (t.task (s.eng e).task).alive = (s.task (s.eng e).task).alive ∧
        (t.task (s.eng e).task).maxCycles = max (s.task (s.eng e).task).maxCycles ((s.eng e).cycles + 2) ∧
        t.regs = s.regs ∧ memKept s t)) ∧
    (∀ u row, petalReady e 1 s → (s.eng e).calls = [] → (s.eng e).loops = [] → (s.eng e).stack = [] →
      lastSegment e s → s.prog.active = some u → u.tasks[(s.eng e).task]? = some row →
      leads (.pEnd e) s (fun t => (t.eng e).running = false ∧
        (t.task (s.eng e).task).alive = false ∧ (t.task (s.eng e).task).copied = true ∧ t.regs = s.regs ∧
        t.bytes (bankBase s e + outPool u.split + poolOff u e (s.eng e).task) row.outBytes =
          s.bytes (bankBase s e + (regionOf u e (s.eng e).task).2) row.outBytes ∧
        (∀ x, x < bankBase s e + outPool u.split + poolOff u e (s.eng e).task ∨
          bankBase s e + outPool u.split + poolOff u e (s.eng e).task + row.outBytes ≤ x → t.byte x = s.byte x))) ∧
    (∀ u n g rest row i ty, petalReady e 1 s → (s.eng e).calls = [] → (s.eng e).loops = [] → (s.eng e).stack = [] →
      (s.eng e).posted = [0, 0, 0, 0] → (s.eng e).due = (n, g) :: rest → n ≠ (s.eng e).task → g ≠ 0 →
      (s.task n).halted = false → (s.task n).alive = true → s.prog.active = some u → u.tasks[n]? = some row →
      row.kind ≠ 1 → instOf u row = some i → u.types[i.type]? = some ty →
      leads (.pSeg e) s (fun t => (t.eng e).running = true ∧ (t.eng e).task = n ∧ (t.eng e).seg = g ∧
        (t.eng e).due = rest ∧ (t.eng e).stack = [] ∧ (t.eng e).calls = [] ∧ (t.eng e).loops = [] ∧
        (t.eng e).ib = i.bankOff ∧ (t.eng e).instLim = i.size ∧ (t.eng e).locLim = 0 ∧
        (t.eng e).pc = (s.task n).pc)) ∧
    (e < 8 → (s.eng e).running = true → lastSegment e s →
      leads (.pUnassignedOpcode e false) s (fun t =>
        (t.eng e).running = false ∧ tookFault (s.eng e).task codeOpcode s t ∧ hasFailed 0x07 0xFF t) ∧
      leads (.pUnassignedOpcode e true) s (fun t =>
        (t.eng e).running = false ∧ tookFault (s.eng e).task codeOpcode s t ∧ t.role = roleFailed) ∧
      leads (.pCycleFault e) s (fun t =>
        (t.eng e).running = false ∧ tookFault (s.eng e).task codeCycle s t ∧ hasFailed 0x06 0xFF t))

/-- An instruction that pops below entry 0 faults the task with STACK_UNDER, a push beyond 16 entries with
STACK_OVER, an index outside 0 to cnt-1 and a LOOP count above its maximum with BOUNDS, and an operand out of its
range with OPCODE. The fault leaves memory as it was, and OVF and DIVZ of the task as they were. (R173, 05 Petal
code, run-time faults, R127) -/
def Obligations.PetalFaultsChangeNothingElse : Prop :=
  ∀ (e : Nat) (s : State), (s.eng e).err = false → (s.eng e).task < s.prog.tasks.length → lastSegment e s →
    let p := (s.eng e).task
    let faults (c : Instr) (code : Nat) : Prop := leads c s (fun t => tookFault p code s t ∧
      (t.task p).ovf = (s.task p).ovf ∧ (t.task p).divz = (s.task p).divz ∧ memKept s t)
    (∀ c, petalReady e 1 s → (s.eng e).stack.length < 2 →
      c ∈ [Instr.pSwap e, .pOver e, .pAdd e .i32, .pMul e .u64, .pDiv e .i64, .pDivF e .f64, .pEq e, .pLtU e, .pAnd e,
        .pMinS e, .pRot e, .pSel e, .pAtan2 e] → faults c codeStackUnder) ∧
    (∀ c, petalReady e 1 s → (s.eng e).stack = [] →
      c ∈ [Instr.pDup e, .pDrop e, .pNeg e true, .pNegF e .f32, .pBnot e, .pSin e] → faults c codeStackUnder) ∧
    (petalReady e 1 s → 16 ≤ (s.eng e).stack.length →
      faults (.pPush0 e) codeStackOver ∧ faults (.pPush1 e) codeStackOver ∧ faults (.pDup e) codeStackOver) ∧
    (∀ (cnt off : Nat) (i : Quad) r, petalReady e 6 s → (s.eng e).stack = i :: r → off % 4 = 0 → 1 ≤ cnt →
      (i.toInt < 0 ∨ (cnt : Int) ≤ i.toInt) →
      faults (.pLdxi e 4 off cnt) codeBounds ∧ faults (.pLdxin e 4 off cnt) codeBounds) ∧
    (∀ max len c r, petalReady e 5 s → (s.eng e).stack = c :: r →
      (1 ≤ max → max < c.toNat → faults (.pLoop e max len) codeBounds) ∧ faults (.pLoop e 0 len) codeOpcode) ∧
    (petalReady e 2 s → faults (.pNot e 7) codeOpcode ∧ faults (.pBitget e 64) codeOpcode ∧ faults (.pPick e 16) codeOpcode) ∧
    (petalReady e 1 s → (s.eng e).calls = [] → faults (.pRet e) codeOpcode) ∧
    (petalReady e 1 s → (s.eng e).loops = [] → faults (.pEndloop e) codeOpcode)

/-- The bytes that the spec writes out for AVG8 and for SYS read as the instructions it names. GETFLAGS pushes OVF
and DIVZ, CLRFLAGS clears those whose bits are set, FRAMETIME pushes T0 of the time record in ns, SEGINFO pushes
task index times 256 plus segment. A request SYS within the frame quota and with a free entry writes its 64-byte
descriptor at the end of its ring, counts SEQ, and pushes 0; beyond the quota it writes nothing, counts SYS_DROP and
pushes 1. (R171, R172, 04 R124, R168) -/
def Obligations.PetalSystemCalls : Prop :=
  (∀ (e pc : Nat), ∀ p ∈ [([0x12, 7, 0, 0], Instr.pLdi e 7 0), ([0xA4, 8, 0, 0x12, 0], .pLoop e 8 18),
      ([0xA6, 0], .pLidx e 0), ([0x19, 0x0E, 8, 0, 8, 0], .pLdxi e 14 8 8), ([0x10, 0x0E, 0, 0], .pLdl e 14 0),
      ([0x40], .pAddF e .f32), ([0x11, 0x0E, 0, 0], .pStl e 14 0), ([0xA5], .pEndloop e), ([0xA1, 0x10, 0], .pBrz e 16),
      ([0x90, 7, 0x0E], .pCvt e 7 14), ([0x46], .pDivF e .f32), ([0x13, 0x0E, 4, 0], .pSti e 14 4), ([0xAA], .pRet e),
      ([0x22], .pAdd e .u32), ([0xAB, 0x10, 0x34, 0x12, 6], .pAlarm e 0x1234 6)],
    (codeOpAt pc (p.1.map (BitVec.ofNat 8))).map (petalOf e) = some p.2) ∧
  ∀ (e : Nat) (s : State), petalReady e 5 s →
    let g := s.eng e
    (g.stack.length < 16 → exec (.pGetflags e) s = .next (petalNext e 5 4
      (quad ((if (s.task g.task).ovf then 1 else 0) + (if (s.task g.task).divz then 2 else 0)) :: g.stack) s)) ∧
    (∀ m r, g.stack = m :: r → exec (.pClrflags e) s = .next (petalNext e 5 4 r
      (s.updTask g.task (fun k => { k with
        ovf := k.ovf && !bitOf m.toNat 0, divz := k.divz && !bitOf m.toNat 1 })))) ∧
    (g.stack.length < 16 → exec (.pFrametime e) s = .next (petalNext e 5 4
      (squad (leAt s.prog.pool.timeRec 0 6 * 1000000000 + leAt s.prog.pool.timeRec 6 2 * 250000 : Nat) :: g.stack) s)) ∧
    (∀ row, g.stack.length < 16 → s.taskRow g.task = some row →
      exec (.pSeginfo e) s = .next (petalNext e 5 4 (quad (row.task * 256 + g.seg) :: g.stack) s)) ∧
    (∀ off len c q fam cmd, (c, q, fam, cmd) ∈ [(Instr.pAlarm e off 6, 2, 6, 4), (.pLogevt e off len, 3, 9, 4),
        (.pLtrig e off len, 0, 13, 6), (.pCantx e off len, 1, 15, 4)] → 1 ≤ len → len ≤ 48 → (q = 2 → len = 6) →
      g.stack.length < 16 → off + len ≤ g.instLim →
      let n := requestRing e q
      (ringSize s n / 2 ≤ g.quota.getD q 0 →
        exec c s = .next (petalNext e 5 24 (1#64 :: g.stack)
          (s.updTask g.task (fun k => { k with drop := min 65535 (k.drop + 1) })))) ∧
      (g.quota.getD q 0 < ringSize s n / 2 → ringHeld s n + g.posted.getD q 0 < ringSize s n →
        q < g.seqs.length → q < g.quota.length → q < g.posted.length →
        leads c s (fun t => (t.eng e).stack = 0#64 :: g.stack ∧ (t.eng e).pc = g.pc + 5 ∧
          (t.eng e).cycles = g.cycles + 24 ∧ (t.eng e).seqs.getD q 0 = (g.seqs.getD q 0 + 1) % 65536 ∧
          (t.eng e).quota.getD q 0 = g.quota.getD q 0 + 1 ∧ (t.eng e).posted.getD q 0 = g.posted.getD q 0 + 1 ∧
          t.bytes (ringEntry s n (s.get (Reg.rcbProdProd n) + g.posted.getD q 0)) 64 =
            [BitVec.ofNat 8 fam, BitVec.ofNat 8 cmd] ++ leBytes 2 (g.seqs.getD q 0) ++ leBytes 4 len ++
              leBytes 2 0x20 ++ zeros 4 ++ leBytes 2 1 ++ s.bytes (bankBase s e + g.ib + off) len ++ zeros (48 - len) ∧
          (∀ x, (x < ringEntry s n (s.get (Reg.rcbProdProd n) + g.posted.getD q 0) ∨
              ringEntry s n (s.get (Reg.rcbProdProd n) + g.posted.getD q 0) + 64 ≤ x) → t.byte x = s.byte x) ∧
          t.regs = s.regs)))

/-- For every command of the index R100 (87 of them) and every state: a request with no session is answered
NOT_AUTHENTICATED; a request with a sound header fails, in this order, with WORLD_DENIED where its family needs a
secure-world session, ROLE_DENIED where the active roles do not suffice, DUP_SEQ where its SEQ is outstanding and
QUEUE_FULL beyond 8 outstanding requests or 2 of class D. The next state is the old one but for that response. A
request of one segment under the SEQ of a message still in reception ends that message with one MALFORMED (R85).
(Times within the class bound; a response is wanted.) (R93, R90, R92, R97, R98, R99, R100, R85) -/
def Obligations.RequestsThatFailACheckDoNothing : Prop :=
  ∀ (c : Instr) (fam cmd i : Nat) (r : Req) (row : CmdRow) (s : State),
    mailboxRequest c = some (fam, cmd, r) → r.src = .host i → cmdRow fam cmd = some row →
    let refused (status : Nat) : Prop := exec c s = .next (respond i r.seq fam cmd status [0xFF#8, 0xFF#8, 0#8, 0#8] s)
    (seqFresh i r s = true → s.on (Reg.mbxSessOpen i) = false → refused 0x0020) ∧
    (s.on (Reg.mbxSessOpen i) = true → overtakes i r (beginsAfresh i r s) = true →
      exec c s = .next (dropSegments i fam cmd r.seq (beginsAfresh i r s))) ∧
    (seqFresh i r s = true → s.on (Reg.mbxSessOpen i) = true → headerOk r = true → noResponse r = false →
      inTime fam cmd r = true →
      let world : Bool := (fam == 8 || fam == 10) && !s.on (Reg.mbxSessSecure i)
      let role : Bool := !mayIssue (s.get (Reg.mbxSessActive i)) row.role
      let dup : Bool := (s.sess i).out.any (fun o => o.seq == r.seq)
      let full : Bool := decide (8 ≤ (s.sess i).out.length) ||
        (row.cls == .d && decide (2 ≤ ((s.sess i).out.filter outIsD).length))
      (world = true → refused 0x0022) ∧
      (world = false → role = true → refused 0x0021) ∧
      (world = false → role = false → dup = true → refused 0x0015) ∧
      (world = false → role = false → dup = false → full = true → refused 0x0032))

/-- GET_IDENT, GET_BLOCK_VERSIONS, GET_CERTIFICATES, GET_INFO, KEEPALIVE and LIST_SESSIONS answer their records and
change nothing; SET_ACTIVE_ROLES, SET_IDLE and SUBSCRIBE change the session they name and nothing else; CLOSE posts
its response and close_notify and frees the index; TERMINATE frees another index. (R101, R102, R91, R28, 03 IDENT
and SESSION payloads) -/
def Obligations.IdentAndSessionCommands : Prop :=
  ∀ (i : Nat) (r : Req) (s : State), i < 16 → i < s.mbx.sessions.length →
    (requestOk 1 1 noPayload i r s = true → answers (.identGetIdent r) 1 1 i r s (fun p u => u = s ∧
      p.take 8 = [s.get Reg.sysVariantVariant, s.get Reg.sysVariantBoardRev, s.get Reg.sysPositionSlotId,
        s.get Reg.sysPositionGroupId, s.get Reg.sysModeGroupKind,
        s.get Reg.sysModeSplit + 2 * s.get Reg.sysModeTaint + 4 * s.get Reg.sysModeRunNoTime,
        s.get Reg.secStatusSlot, s.get Reg.secStatusTrial].map (BitVec.ofNat 8) ∧
      (p.drop 8).take s.sec.serial.length = s.sec.serial)) ∧
    (requestOk 1 2 noPayload i r s = true → answers (.identGetBlockVersions r) 1 2 i r s (fun p u => u = s ∧
      p.length = 64 ∧ ∀ b, b < 16 → leAt p (4 * b) 4 =
        if b = 12 ∧ s.on (Reg.mbxSessSecure i) = false then 0 else (s.reg (0x10000 * b)).toNat)) ∧
    (requestOk 1 3 (exactly 4) i r s = true → leAt r.payload 0 1 ≤ 15 → leAt r.payload 1 3 = 0 →
      answers (.identGetCertificates r) 1 3 i r s (fun p u => u = s ∧ leAt p 0 1 =
        ((List.range 4).filter (fun k => bitOf (leAt r.payload 0 1) k && !(certOf s k).isEmpty)).length)) ∧
    (requestOk 2 1 noPayload i r s = true → answers (.sessionGetInfo r) 2 1 i r s (fun p u => u = s ∧
      p.length = 24 ∧ leAt p 0 1 = i ∧ leAt p 4 1 = s.get (Reg.mbxSessActive i) ∧
      leAt p 3 1 = s.get (Reg.mbxSessHeld i) ∧ leAt p 6 2 = (s.sess i).idleS % 65536)) ∧
    (requestOk 2 2 (exactly 1) i r s = true → leAt r.payload 0 1 ≠ 0 → leAt r.payload 0 1 < 32 →
      leAt r.payload 0 1 &&& s.get (Reg.mbxSessHeld i) = leAt r.payload 0 1 →
      answers (.sessionSetActiveRoles r) 2 2 i r s (fun p u => p = [] ∧
        u = s.set (Reg.mbxSessActive i) (leAt r.payload 0 1))) ∧
    (requestOk 2 3 noPayload i r s = true → answers (.sessionKeepalive r) 2 3 i r s (fun p u => p = [] ∧ u = s)) ∧
    (requestOk 2 4 (exactly 2) i r s = true → 10 ≤ leAt r.payload 0 2 → leAt r.payload 0 2 ≤ 3600 →
      answers (.sessionSetIdle r) 2 4 i r s (fun p u => p = [] ∧
        u = s.updSess i (fun c => { c with idleS := leAt r.payload 0 2 }))) ∧
    (requestOk 2 5 (exactly 2) i r s = true →
      (bitOf (leAt r.payload 0 2) 12 = true → s.on (Reg.mbxSessSecure i) = true) →
      answers (.sessionSubscribe r) 2 5 i r s (fun p u => p = [] ∧
        u = s.updSess i (fun c => { c with subs := leAt r.payload 0 2 }))) ∧
    (requestOk 2 6 noPayload i r s = true → leads (.sessionClose r) s (fun t =>
      t.on (Reg.mbxSessOpen i) = false ∧ t.sess i = {} ∧
      .response i r.seq 2 6 stOk false [] ∈ t.outbox ∧ t.outbox.getLast? = some (.tls i "close_notify") ∧
      (ringsIdle i s = true → t.outbox = s.outbox ++ [.response i r.seq 2 6 stOk false [], .tls i "close_notify"] ∧
        memKept s t))) ∧
    (requestOk 2 7 noPayload i r s = true → answers (.sessionListSessions r) 2 7 i r s (fun p u => u = s ∧
      ∀ j, j < 16 → leAt p (24 * j) 1 = j ∧
        (s.on (Reg.mbxSessOpen j) = false → leAt p (24 * j + 1) 1 = 0))) ∧
    (∀ j, requestOk 2 8 (exactly 1) i r s = true → leAt r.payload 0 1 = j → j < 16 → j ≠ i →
      j < s.mbx.sessions.length → s.on (Reg.mbxSessOpen j) = true →
      answers (.sessionTerminate r) 2 8 i r s (fun p u => p = [] ∧ u.on (Reg.mbxSessOpen j) = false ∧ u.sess j = {} ∧
        u.sess i = s.sess i ∧ u.on (Reg.mbxSessOpen i) = true ∧ memKept s u))

/-- A handshake that qualifies opens the first free session of its world with the roles of its certificate; one that
fails counts against its source with AUTH_FAIL, the eighth within 60 s refuses the source, and a refused source gets
REFUSED; the lockout ends. An idle or lost session closes. A message that stays incomplete for 10 s is answered
SEG_TIMEOUT. (R86, R87, R88, R89, R91, R85, R98) -/
def Obligations.HandshakesAndSessionEnds : Prop :=
  ∀ (s : State),
    (∀ x i, s.sec.fwUp = true → listens s x.port = true → s.mbx.lockout.contains x.addr = false →
      x.alpn ∈ [1, 2] → x.tcp = mbxTcpPort → tlsSupported x = true →
      rolesOf s x.roles ≠ 0 → (x.alpn = 2 → bitOf (rolesOf s x.roles) 3 = true ∨ bitOf (rolesOf s x.roles) 4 = true) →
      (worldIndexes (x.alpn == 2)).find? (fun i => !s.on (Reg.mbxSessOpen i)) = some i →
      i < s.mbx.sessions.length → x.port < 8 →
      leads (.tlsHandshake x) s (fun t => memKept s t ∧ if certValid x s = true then t.on (Reg.mbxSessOpen i) = true ∧
        t.on (Reg.mbxSessSecure i) = decide (x.alpn = 2) ∧ t.get (Reg.mbxSessPort i) = x.port ∧
        t.get (Reg.mbxSessHeld i) = rolesOf s x.roles ∧ t.get (Reg.mbxSessActive i) = rolesOf s x.roles ∧
        t.outbox = s.outbox ++ [.certificates i (presented s)] ∧ (t.sess i).idleS = 300 ∧ (t.sess i).start = s.now ∧
        (t.sess i).out = []
      else t.on Reg.mbxEventAuthFail = true ∧ t.on (Reg.mbxSessOpen i) = s.on (Reg.mbxSessOpen i))) ∧
    (∀ x, s.sec.fwUp = true → listens s x.port = true → s.mbx.lockout.contains x.addr = false →
      x.tcp = mbxTcpPort →
      (x.alpn = 0 ∨ tlsSupported x = false ∨ certValid x s = false ∨ rolesOf s x.roles = 0) →
      leads (.tlsHandshake x) s (fun t => t.on Reg.mbxEventAuthFail = true ∧
        (∀ i, i < 16 → t.on (Reg.mbxSessOpen i) = s.on (Reg.mbxSessOpen i)) ∧
        (7 ≤ (s.mbx.failures.filter (fun p => decide (s.mono < p.2 + 60 * nsPerS) && p.1 == x.addr)).length →
          x.addr ∈ t.mbx.lockout))) ∧
    (∀ x, s.sec.fwUp = true → listens s x.port = true → x.tcp = mbxTcpPort → s.mbx.lockout.contains x.addr = true →
      leads (.tlsHandshake x) s (fun t => t.on Reg.mbxEventRefused = true ∧
        ∀ i, i < 16 → t.on (Reg.mbxSessOpen i) = s.on (Reg.mbxSessOpen i))) ∧
    (∀ addr, leads (.handshakeLockoutEnd addr) s (fun t => addr ∉ t.mbx.lockout ∧ t.regs = s.regs ∧ memKept s t ∧
      ∀ a, a ≠ addr → a ∈ s.mbx.lockout → a ∈ t.mbx.lockout)) ∧
    (∀ i c, i < 16 → i < s.mbx.sessions.length → s.on (Reg.mbxSessOpen i) = true →
      c ∈ [Instr.sessionIdleTimeout i, .sessionLoss i] →
      leads c s (fun t => t.on (Reg.mbxSessOpen i) = false ∧ t.sess i = {} ∧ t.outbox = s.outbox ∧ memKept s t ∧
        ∀ j, j < 16 → j ≠ i → t.on (Reg.mbxSessOpen j) = s.on (Reg.mbxSessOpen j) ∧ t.sess j = s.sess j)) ∧
    (∀ i seq a, i < s.mbx.sessions.length → (s.sess i).segs.find? (fun a => a.seq == seq) = some a →
      leads (.segTimeout i seq) s (fun t => t.on Reg.mbxEventSegTimeout = true ∧
        (t.sess i).segs = (s.sess i).segs.filter (fun b => b.seq != seq) ∧ (ringsIdle i s = true → memKept s t) ∧
        .response i seq a.fam a.cmd stSegTimeout false [0xFF#8, 0xFF#8, 0#8, 0#8] ∈ t.outbox))

/-- A first segment opens the reception of its message and the next one extends it; a segment that does not fit ends
it with one MALFORMED. CANCEL of an outstanding class D command ends it with CANCELLED; of another SEQ, NO_SUCH_SEQ;
of a class A, B or C command, STATE_CONFLICT. An outstanding class D command reports IN_PROGRESS. A message with an
unsound header is answered MALFORMED, an unknown family or command by its status. (R84, R85, R95, R96, R93, R98) -/
def Obligations.SegmentsCancelsAndMalformedMessages : Prop :=
  ∀ (i fam cmd : Nat) (r : Req) (s : State), i < 16 → i < s.mbx.sessions.length → r.src = .host i →
    s.on (Reg.mbxSessOpen i) = true →
    (2 ≤ r.segCount → r.segCount ≤ 16 → r.length = 65536 → segmentOk r = true →
      (r.segment = 0 → (s.sess i).segs.find? (fun a => a.seq == r.seq) = none →
        leads (.messageSegment fam cmd r) s (fun t => t.regs = s.regs ∧ memKept s t ∧ t.outbox = s.outbox ∧
          (t.sess i).segs = (s.sess i).segs ++ [⟨r.seq, fam, cmd, r.flags, r.segCount, 1, r.payload⟩])) ∧
      (∀ a, (s.sess i).segs.find? (fun a => a.seq == r.seq) = some a → segmentFits a fam cmd r = true →
        r.segment + 1 ≠ r.segCount →
        leads (.messageSegment fam cmd r) s (fun t => t.regs = s.regs ∧ memKept s t ∧ t.outbox = s.outbox ∧
          ∃ b ∈ (t.sess i).segs, b.seq = a.seq ∧ b.next = a.next + 1 ∧ b.data = a.data ++ r.payload)) ∧
      (∀ a, (s.sess i).segs.find? (fun a => a.seq == r.seq) = some a → segmentFits a fam cmd r = false →
        leads (.messageSegment fam cmd r) s (fun t => t.on Reg.mbxEventMalformed = true ∧
          (ringsIdle i s = true → memKept s t) ∧ (∀ b ∈ (t.sess i).segs, b.seq ≠ r.seq) ∧
          .response i r.seq fam cmd stMalformed false [0xFF#8, 0xFF#8, 0#8, 0#8] ∈ t.outbox))) ∧
    (∀ row, cancelOk r = true → cmdRow fam cmd = some row → famKnown fam = true →
      (famSecure fam = true → s.on (Reg.mbxSessSecure i) = true) →
      mayIssue (s.get (Reg.mbxSessActive i)) row.role = true →
      (∀ o, (s.sess i).out.find? (fun o => o.seq == r.seq && o.fam == fam && o.cmd == cmd) = some o → row.cls = .d →
        ¬(fam = 4 ∧ cmd = 3) →
        o.quiet = false → leads (.cancel fam cmd r) s (fun t => o ∉ (t.sess i).out ∧
          .response i o.seq o.fam o.cmd stCancelled false [0xFF#8, 0xFF#8, 0#8, 0#8] ∈ t.outbox ∧
          (ringsIdle i s = true → memKept s t ∧ t.outbox =
            s.outbox ++ [.response i o.seq o.fam o.cmd stCancelled false [0xFF#8, 0xFF#8, 0#8, 0#8]]))) ∧
      ((s.sess i).out.find? (fun o => o.seq == r.seq && o.fam == fam && o.cmd == cmd) = none →
        exec (.cancel fam cmd r) s = .next (post (.response i r.seq fam cmd stNoSuchSeq true (detailBytes noField)) s)) ∧
      (∀ o, (s.sess i).out.find? (fun o => o.seq == r.seq && o.fam == fam && o.cmd == cmd) = some o → row.cls ≠ .d →
        exec (.cancel fam cmd r) s =
          .next (post (.response i r.seq fam cmd stStateConflict true (detailBytes noField)) s))) ∧
    (∀ q st cn p, ringsIdle i s = true → post (.response i q fam cmd st cn p) s = s.send (.response i q fam cmd st cn p)) ∧
    (∀ seq o, (s.sess i).out.find? (fun o => o.seq == seq && outIsD o) = some o →
      s.nvs.transfers.find? (fun t => t.sess == i && t.seq == seq) = none →
      leads (.progressMessage i seq) s (fun t => (t.sess i).out = (s.sess i).out ∧
        (ringsIdle i s = true → t.regs = s.regs ∧ memKept s t) ∧
        ∃ pay, t.outbox.getLast? = some (.progress i o.seq o.fam o.cmd pay) ∧ 8 ≤ pay.length ∧ leAt pay 2 2 ≤ 1000)) ∧
    (headerOk r = false → framingLost r = false → leads (.malformed fam cmd r) s (fun t =>
      t.on Reg.mbxEventMalformed = true ∧ t.on (Reg.mbxSessOpen i) = true ∧ (ringsIdle i s = true → memKept s t) ∧
      .response i r.seq fam cmd stMalformed false [0xFF#8, 0xFF#8, 0#8, 0#8] ∈ t.outbox)) ∧
    (headerOk r = true → (s.sess i).segs.any (fun a => a.seq == r.seq) = true → leads (.malformed fam cmd r) s (fun t =>
      t.on Reg.mbxEventMalformed = true ∧ (∀ b ∈ (t.sess i).segs, b.seq ≠ r.seq) ∧
      .response i r.seq fam cmd stMalformed false [0xFF#8, 0xFF#8, 0#8, 0#8] ∈ t.outbox)) ∧
    (∀ b, b = beginsAfresh i r s → headerOk r = true → noResponse r = false →
      (s.sess i).segs.any (fun a => a.seq == r.seq) = false →
      (famKnown fam = false → exec (.malformed fam cmd r) s = .next (carryRequest i fam cmd r
        (respond i r.seq fam cmd stUnknownFamily [0xFF#8, 0xFF#8, 0#8, 0#8] b))) ∧
      (famKnown fam = true → cmdRow fam cmd = none → exec (.malformed fam cmd r) s = .next (carryRequest i fam cmd r
        (respond i r.seq fam cmd stUnknownCommand [0xFF#8, 0xFF#8, 0#8, 0#8] b))))

/-- Setting an event flag makes it 1 and adds 1 to its saturating counter. A register write clears the flags of
TIM_EVENT whose bits are 1 and no others, and leaves their counters; where hardware sets the flag in the same cycle
it stays set and is counted; a write of a read-only register, of an address that is no multiple of 4 or of one at or
above 0x100000 changes nothing; LCK_DIAG_CTRL keeps its enables once LOCK is set. (R10, R24, R411, 00 Scope, access
codes) -/
def Obligations.EventFlagsCountAndClear : Prop :=
  (∀ s : State, (s.raise Ev.timSyncMiss).on Reg.timEventSyncMiss = true ∧
    (s.raise Ev.timSyncMiss).get Reg.timEventCnt1SyncMissCnt = min 255 (s.get Reg.timEventCnt1SyncMissCnt + 1)) ∧
  (∀ (v : Nat) (s : State),
    leads (.registerWrite 0x10008 v []) s (fun t =>
      (∀ f ∈ [Reg.timEventClassChange, Reg.timEventSrcChange, Reg.timEventRoleChange, Reg.timEventStep, Reg.timEventJump,
        Reg.timEventDisagree, Reg.timEventSyncMiss, Reg.timEventOcxoFault],
        t.get f = if bitOf v f.lo then 0 else s.get f) ∧
      t.get Reg.timEventCnt1SyncMissCnt = s.get Reg.timEventCnt1SyncMissCnt ∧ memKept s t)) ∧
  (∀ (v : Nat) (s : State), bitOf v Reg.timEventSyncMiss.lo = true →
    leads (.registerWrite 0x10008 v [Reg.timEventSyncMiss.lo]) s (fun t => t.on Reg.timEventSyncMiss = true ∧
      t.get Reg.timEventCnt1SyncMissCnt = min 255 (s.get Reg.timEventCnt1SyncMissCnt + 1))) ∧
  (∀ (v : Nat) (s : State), ∀ a ∈ [0x10, 0x1000C, 0x10010, 0x10004, 0x20004],
    exec (.registerWrite a v []) s = .next s) ∧
  (∀ (a v : Nat) (s : State) (b : List Nat), a % 4 ≠ 0 ∨ 0x100000 ≤ a → exec (.registerWrite a v b) s = .next s) ∧
  (∀ (v : Nat) (s : State), s.on Reg.lckDiagCtrlLock = true → leads (.registerWrite Reg.lckDiagCtrlLock.addr v []) s (fun t =>
    ∀ f ∈ [Reg.lckDiagCtrlLock, Reg.lckDiagCtrlNandSweepEn, Reg.lckDiagCtrlDramScrubEn, Reg.lckDiagCtrlSramScrubEn,
      Reg.lckDiagCtrlStateSigEn, Reg.lckDiagCtrlInjectEn], t.get f = s.get f))

/-- READ_REGS answers the request's 8 bytes and the words in ascending order and touches no register outside the
range; one unreachable word refuses the whole with ADDRESS and its index. WRITE_REGS refuses a field not writable
via DIAG with NOT_WRITABLE and changes nothing; a write that clears TIM_EVENT flags returns the read-back.
GET_HEALTH answers SYS_ROLE, SYS_MODE and TIM_STATUS. RAISE_ALARM from a Petal engine is entered in the log. (R104,
R105, R107, R108, R24, R28, R12) -/
def Obligations.DiagCommands : Prop :=
  ∀ (i : Nat) (r : Req) (s : State), i < 16 →
    (∀ a n, requestOk 6 1 (exactly 8) i r s = true → leAt r.payload 0 4 = a → leAt r.payload 4 2 = n →
      leAt r.payload 6 2 = 0 → 1 ≤ n → n ≤ 1024 → a % 4 = 0 → a + 4 * n ≤ 0x100000 →
      ((∀ j, j < n → (a + 4 * j) / 0x10000 ≠ 0xC) ∨ s.on (Reg.mbxSessSecure i) = true) →
      answers (.diagReadRegs r) 6 1 i r s (fun p u => p.take 8 = r.payload ∧ p.length = 8 + 4 * n ∧
        (∀ j, j < n → a + 4 * j ≠ (Reg.mbxSessOutstanding i).addr → leAt p (8 + 4 * j) 4 = (s.reg (a + 4 * j)).toNat) ∧
        (∀ x, x < a ∨ a + 4 * n ≤ x → u.reg x = s.reg x) ∧ memKept s u)) ∧
    (∀ a, requestOk 6 1 (exactly 8) i r s = true → leAt r.payload 0 4 = a → leAt r.payload 4 2 = 1 →
      leAt r.payload 6 2 = 0 → (a % 4 ≠ 0 ∨ 0x100000 ≤ a ∨ (a / 0x10000 = 0xC ∧ s.on (Reg.mbxSessSecure i) = false)) →
      answersErr (.diagReadRegs r) 6 1 i r s stAddress 0 (fun u => u = s)) ∧
    (∀ m v, requestOk 6 2 (fun n => decide (8 ≤ n) && n % 8 == 0) i r s = true →
      r.payload = leBytes 4 0x10008 ++ leBytes 2 1 ++ zeros 2 ++ leBytes 4 m ++ leBytes 4 v → m < 2 ^ 32 → v < 2 ^ 32 →
      answers (.diagWriteRegs r []) 6 2 i r s (fun p u => p = leBytes 4 (u.reg 0x10008).toNat ∧ memKept s u ∧
        ∀ f ∈ [Reg.timEventClassChange, Reg.timEventSrcChange, Reg.timEventRoleChange, Reg.timEventStep,
          Reg.timEventJump, Reg.timEventDisagree, Reg.timEventSyncMiss, Reg.timEventOcxoFault],
          u.get f = if bitOf m f.lo && bitOf v f.lo then 0 else s.get f)) ∧
    (∀ v, requestOk 6 2 (fun n => decide (8 ≤ n) && n % 8 == 0) i r s = true → v < 2 ^ 32 →
      r.payload = leBytes 4 0x10008 ++ leBytes 2 2 ++ zeros 2 ++ leBytes 4 0xFF ++ leBytes 4 0xFF ++
        leBytes 4 0xFF ++ leBytes 4 v →
      answersErr (.diagWriteRegs r []) 6 2 i r s stNotWritable 1 (fun u => u = s)) ∧
    (requestOk 6 3 noPayload i r s = true → answers (.diagGetHealth r) 6 3 i r s (fun p u => u = s ∧
      leAt p 0 4 = (s.reg 0x10).toNat ∧ leAt p 4 4 = (s.reg 0xC).toNat ∧ leAt p 8 4 = (s.reg 0x10004).toNat ∧
      leAt p 14 2 = 0 ∧ leAt p 16 4 = s.get Reg.pwrUptimeSec)) ∧
    (∀ e, petalOk 6 4 (exactly 6) e r s = true → logAdmits s → leads (.diagRaiseAlarm r) s (fun t =>
      ∃ sev, t.nvs.log = s.nvs.log ++ [⟨s.nvs.logNext, s.now, 2, sev, leAt r.payload 0 2, s.role, e,
        (r.payload.drop 2).take 4 ++ frameBytes (frameIndex s.now)⟩] ∧ memKept s t))

/-- A doorbell from a master the ring serves is accepted exactly where it advances PROD by 1 to S and leaves at most
S descriptors: PROD takes the value, and COUNT 0 raises the interrupt for every descriptor, another COUNT once it is
reached; otherwise PROD stays and OVERFLOW and RING_FAULT are set. A master the ring does not serve is rejected, and
an ID that no master has issues nothing. CONS takes the value written, and a descriptor passed on a ring of no
mailbox that fails its form sets BAD_DESC. The interrupt rises for the oldest pending descriptor after TIME_US, and
TIME_US 0 disables it. (R75, R76, R77, R79, R34, R20) -/
def Obligations.RingControl : Prop :=
  ∀ (n v m : Nat) (s : State), n < 256 → v < 65536 →
    (issues s m = false → exec (.rcbDoorbellWrite m n v) s = .next s) ∧
    (ringServes s n m = true → issues s m = true →
      let step := (v + 65536 - s.get (Reg.rcbProdProd n)) % 65536
      let held := (v + 65536 - s.get (Reg.rcbConsCons n)) % 65536
      (1 ≤ step → step ≤ ringSize s n → held ≤ ringSize s n → leads (.rcbDoorbellWrite m n v) s (fun t =>
        t.get (Reg.rcbProdProd n) = v ∧ t.get (Reg.rcbConsCons n) = s.get (Reg.rcbConsCons n) ∧ memKept s t ∧
        (∀ a, a ≠ (Reg.rcbProdProd n).addr → t.reg a = s.reg a) ∧
        t.outbox = s.outbox ++ (if s.get (Reg.rcbModCount n) = 0 then List.replicate step (.ringInterrupt n)
          else if s.get (Reg.rcbModCount n) ≤ held then [.ringInterrupt n] else []))) ∧
      (step = 0 ∨ ringSize s n < step ∨ ringSize s n < held → leads (.rcbDoorbellWrite m n v) s (fun t =>
        t.get (Reg.rcbProdProd n) = s.get (Reg.rcbProdProd n) ∧ t.on (Ev.rcbOverflow n).flag = true ∧
        t.on Reg.mbxEventRingFault = true ∧ memKept s t))) ∧
    (ringServes s n m = false → issues s m = true → leads (.rcbDoorbellWrite m n v) s (fun t =>
      t.get (Reg.rcbProdProd n) = s.get (Reg.rcbProdProd n) ∧ t.on (Ev.rcbReject n).flag = true ∧
      t.on Reg.gateEventViolation = true ∧ memKept s t)) ∧
    leads (.rcbConsWrite n v) s (fun t => t.get (Reg.rcbConsCons n) = v ∧
      t.get (Reg.rcbProdProd n) = s.get (Reg.rcbProdProd n) ∧ memKept s t ∧
      (n < 64 → ∀ a, a ≠ (Reg.rcbConsCons n).addr → t.reg a = s.reg a) ∧
      (64 ≤ n → v = (s.get (Reg.rcbConsCons n) + 1) % 65536 → ringHeld s n ≠ 0 →
        descriptorOk (s.bytes (ringEntry s n (s.get (Reg.rcbConsCons n))) 64) = false →
        t.on (Ev.rcbBadDesc n).flag = true ∧ t.on Reg.mbxEventRingFault = true)) ∧
    (s.get (Reg.rcbModTimeUs n) = 0 ∨ ringHeld s n = 0 ∨ (∃ a, s.mbx.interruptAt.find? (fun p => p.1 == n) = some (n, a) ∧
        s.mono < a + 1000 * s.get (Reg.rcbModTimeUs n)) → exec (.ringInterruptTimer n) s = .next s) ∧
    (s.get (Reg.rcbModTimeUs n) ≠ 0 → ringHeld s n ≠ 0 → (∀ a, s.mbx.interruptAt.find? (fun p => p.1 == n) = some (n, a) →
        a + 1000 * s.get (Reg.rcbModTimeUs n) ≤ s.mono) → leads (.ringInterruptTimer n) s (fun t =>
      t.outbox = s.outbox ++ [.ringInterrupt n] ∧ t.regs = s.regs ∧ memKept s t ∧
      t.mbx.interruptAt.find? (fun p => p.1 == n) = some (n, s.mono)))

/-- Before the seal, UM0 in privileged mode writes an unlocked entry; after it, or from any other master, the write
is ignored and sets WRITE_SEALED, and a locked entry keeps its fields. GATE_SEAL by UM0 seals and opens every gate,
in a pair or triad with LOCK; from others it does nothing. An access of the debug port to any of them sets taint. A
pop removes the oldest report. A draining gate that completes, or that times out, closes: unlocked entries cleared,
locked ones kept, seal cleared. (R436, R437, R438, R441, R443, R22) -/
def Obligations.GateTables : Prop :=
  ∀ (g : Nat) (s : State),
    (∀ e v, g < 15 → e < 32 → s.on (Reg.gateGCtrlSealed g) = false → s.on (entLock (entAddr g e)) = false →
      leads (.gateEntryWrite 8 true (entAddr g e) v) s (fun t =>
        t.reg (entAddr g e) = BitVec.ofNat 32 (v &&& 0x0FFFFFFF) ∧ memKept s t) ∧
      leads (.gateEntryWrite 8 true (entAddr g e + 8) v) s (fun t =>
        t.reg (entAddr g e + 8) = BitVec.ofNat 32 (v &&& 0xE000003F) ∧ memKept s t)) ∧
    (∀ m a p v, isPe m = true → exec (.gateEntryWrite m p a v) s = .next s ∧ exec (.gateSeal m p v) s = .next s) ∧
    (∀ e m p v, g < 15 → e < 32 → issues s m = true → isPe m = false → (s.on (Reg.gateGCtrlSealed g) = true ∨ m ≠ 8 ∨ p = false) →
      leads (.gateEntryWrite m p (entAddr g e) v) s (fun t =>
        t.reg (entAddr g e) = s.reg (entAddr g e) ∧ t.on Reg.gateEventWriteSealed = true ∧ memKept s t)) ∧
    (∀ e v, g < 15 → e < 32 → s.on (Reg.gateGCtrlSealed g) = false → s.on (entLock (entAddr g e)) = true →
      exec (.gateEntryWrite 8 true (entAddr g e) v) s = .next s) ∧
    (g < 16 → leads (.gateSeal 8 true 1) s (fun t => t.on Reg.gateStatusSealed = true ∧
      t.on (Reg.gateGCtrlSealed g) = true ∧ t.get (Reg.gateGCtrlState g) = gateOpen ∧
      (s.get Reg.sysModeGroupKind ∈ [1, 2] → t.on Reg.lckDiagCtrlLock = true) ∧ memKept s t)) ∧
    (∀ m p, m ≠ masterDebug → m ≠ 8 ∨ p = false → exec (.gateSeal m p 1) s = .next s) ∧
    (∀ p a v, leads (.gateSeal masterDebug p 1) s (fun t => t.taint = true ∧ memKept s t) ∧
      leads (.gateEntryWrite masterDebug p a v) s (fun t => t.taint = true ∧ memKept s t) ∧
      leads (.rcbDoorbellWrite masterDebug g v) s (fun t => t.taint = true ∧ memKept s t)) ∧
    (∀ r rest, g < 16 → g < s.gate.fifos.length → s.gate.fifos.getD g [] = r :: rest → rest.length < 16 →
      leads (.gatePop g 1) s (fun t => t.gate.fifos.getD g [] = rest ∧ t.get (Reg.gateGFifoCount g) = rest.length ∧
        bitOf (t.get Reg.gateStatusPending) g = !rest.isEmpty ∧ memKept s t)) ∧
    (∀ n, g < 15 → s.get (Reg.gateGCtrlState g) = gateDraining →
      (∀ c ∈ [Instr.gateDrainComplete g, .gateDrainTimeout g n], leads c s (fun t =>
        t.get (Reg.gateGCtrlState g) = gateClosed ∧ t.on (Reg.gateGCtrlSealed g) = false ∧ memKept s t ∧
        (∀ e k, e < 32 → k < 5 → t.reg (entAddr g e + 4 * k) =
          if s.on (entLock (entAddr g e)) = true then s.reg (entAddr g e + 4 * k) else 0#32))) ∧
      (0 < n → leads (.gateDrainTimeout g n) s (fun t => t.on Reg.gateEventDrainAbort = true ∧
        t.get (Reg.gateGCtrlDrainAbortCnt g) = min 255 (s.get (Reg.gateGCtrlDrainAbortCnt g) + n))))

/-- An access of a core that a gate forbids changes no byte of memory, enters a report in that gate's FIFO and sets
VIOLATION. An admitted write of a memory target stores its bytes and no others; an admitted read of an SRAM answers
the bytes and changes nothing. The gates refuse an access by no other rule: user mode has no access where no entry
covers the byte. In a device window, whose content the spec does not give, an admitted read answers as many bytes of
any value and an admitted write is acknowledged (the model's choice: log entry 95). A master that is absent from
R19, or a Petal engine outside its own SRAM and rings, issues no access, and the debug port's access sets taint.
(R431, R432, R433, R440, R441, R429, R16, R20, R22, R31) -/
def Obligations.FabricAccesses : Prop :=
  (∀ (x : FabAcc) (s : State), issues s x.master = false → exec (.fabricAccess x) s = .next s) ∧
  (∀ (x : FabAcc) (s : State) (base size gate : Nat), isPe x.master = true → targetOf x.addr = some (base, size, gate) →
    (gate = 0 ∨ 7 ≤ gate ∨ (1 ≤ gate ∧ gate ≤ 4 ∧ gate ≠ 1 + x.master % 4)) → exec (.fabricAccess x) s = .next s) ∧
  (∀ (x : FabAcc) (s : State), x.master = masterDebug → leads (.fabricAccess x) s (fun t => t.taint = true)) ∧
  ∀ (x : FabAcc) (s : State), x.master ≠ masterDebug → isDma x.master = false → isPe x.master = false →
    issues s x.master = true →
    let n := 2 ^ x.sizeLog2 * x.beats
    (∀ g a ent cause, rejected s (whoOf x) x.addr n = some (g, a, ent, cause) → g < s.gate.fifos.length →
      (s.gate.fifos.getD g []).length < 16 →
      leads (.fabricAccess x) s (fun t => memKept s t ∧ t.on Reg.gateEventViolation = true ∧
        ∃ q, t.gate.fifos.getD g [] = s.gate.fifos.getD g [] ++ [q] ∧ q.addr = a ∧ q.gate = g ∧ q.master = x.master ∧
          q.cause = cause ∧ q.region = ent)) ∧
    (∀ base size gate, rejected s (whoOf x) x.addr n = none → targetOf x.addr = some (base, size, gate) →
      (gate ≤ 5 → x.kind = 1 → (gate = 0 → lineErrors s x.badSymbols = []) → leads (.fabricAccess x) s (fun t => t.regs = s.regs ∧
        (∀ j, j < n → t.byte (x.addr + j) = x.data.getD j 0#8) ∧
        (∀ b, b < x.addr ∨ x.addr + n ≤ b → t.byte b = s.byte b))) ∧
      (1 ≤ gate → gate ≤ 5 → x.kind = 0 → (∀ j, j < n → openByte s (x.addr + j) = false) →
        exec (.fabricAccess x) s = .next (s.send (.fabric x.master true (s.bytes x.addr n)))) ∧
      (7 ≤ gate → gate ≤ 14 → x.kind = 1 →
        exec (.fabricAccess x) s = .next (s.send (.fabric x.master true []))) ∧
      (7 ≤ gate → gate ≤ 14 → x.kind ≠ 1 → leads (.fabricAccess x) s (fun t => memKept s t ∧ t.regs = s.regs ∧
        ∃ d, d.length = n ∧ t.outbox = s.outbox ++ [.fabric x.master true d]))) ∧
    (∀ gate byte, s.get (Reg.gateGCtrlState gate) = gateOpen → accPriv x.master x.user = false →
      (∀ e, e < 32 → entCovers s (entAddr gate e) byte = false) →
      gateByte s (whoOf x) gate byte = some (0xFF, causeNoMatch))

/-- GET_STATUS answers 36 bytes with CLASS, SOURCE, TICK_ROLE, EST_ERR, TIM_SLEW_REM and the holdover seconds at
their offsets; GET_SOURCES six 8-byte records; GET_CONFIG TIME_CONFIG. SET_CONFIG in range waits for the next tick.
STEP loads the counter while RUN_LOCK is 0 and sets STEP, and is refused STATE_CONFLICT while it is 1. SET_TAI_UTC
keeps the offset and the leap flags. (R68, R69, R70, R71, R57, R58, R38) -/
def Obligations.TimeCommands : Prop :=
  ∀ (i : Nat) (r : Req) (s : State),
    (requestOk 7 1 noPayload i r s = true → answers (.timeGetStatus r) 7 1 i r s (fun p u => u = s ∧ p.length = 36 ∧
      leAt p 0 4 = s.now % 1000000000 ∧ leAt p 12 1 = s.get Reg.timStatusClass ∧
      leAt p 14 1 = s.get Reg.timStatusSource ∧ leAt p 15 1 = s.get Reg.timStatusTickRole ∧
      leAt p 16 4 = s.get Reg.timEstErrErr ∧ leAt p 20 2 = s.get Reg.timTaiUtcOffset ∧
      leAt p 24 4 = s.get Reg.timSlewRemRem ∧ leAt p 28 4 = s.get Reg.timHoldTimeSec)) ∧
    (requestOk 7 2 noPayload i r s = true → answers (.timeGetSources r) 7 2 i r s (fun p u => u = s ∧ p.length = 48 ∧
      ∀ n, n < 6 → leAt p (8 * n) 4 = (s.reg (0x10044 + 4 * n)).toNat ∧
        leAt p (8 * n + 4) 4 = (s.reg (0x10060 + 4 * n)).toNat)) ∧
    (requestOk 7 3 noPayload i r s = true → answers (.timeGetConfig r) 7 3 i r s (fun p u => u = s ∧ p = s.time.cfg)) ∧
    (requestOk 7 4 (exactly 48) i r s = true → timeConfigBad r.payload = none → s.sec.groupStep = 0 →
      answers (.timeSetConfig r) 7 4 i r s (fun p u => p = [] ∧ u.time.cfgNext = some r.payload ∧
        u.time.cfg = s.time.cfg ∧ u.regs = s.regs ∧ memKept s u)) ∧
    (∀ d, requestOk 7 4 (exactly 48) i r s = true → timeConfigBad r.payload = some d →
      answersErr (.timeSetConfig r) 7 4 i r s stOutOfRange d (fun u => u = s)) ∧
    (requestOk 7 5 (exactly 10) i r s = true → leAt r.payload 0 4 < 1000000000 → s.on Reg.timStatusRunLock = false →
      answers (.timeStep r) 7 5 i r s (fun p u => p = [] ∧ u.on Reg.timEventStep = true ∧ u.time.stepped = true ∧
        u.now = leAt r.payload 4 6 * 1000000000 + leAt r.payload 0 4 ∧ memKept s u)) ∧
    (requestOk 7 5 (exactly 10) i r s = true → leAt r.payload 0 4 < 1000000000 → s.on Reg.timStatusRunLock = true →
      answersErr (.timeStep r) 7 5 i r s stStateConflict noField (fun u => u = s)) ∧
    (requestOk 7 6 (exactly 3) i r s = true → leAt r.payload 2 1 ≤ 3 →
      answers (.timeSetTaiUtc r) 7 6 i r s (fun p u => p = [] ∧ u.now = s.now ∧ memKept s u ∧
        u.time.setTai = some (leAt r.payload 0 2, bitOf (leAt r.payload 2 1) 0, bitOf (leAt r.payload 2 1) 1)))

/-- TIM_RATE_ADJ is clamped to plus or minus 429497; a value written to TIM_SLEW_REM replaces the remainder; a slew
correction moves TIM_SLEW_REM by one towards 0 and the counter forward by 1 to 6 ns in the one or two cycles it
takes, never backward; with a remainder of 0 it does nothing. A pending leap changes TAI-UTC by one, clears both
flags and leaves the counter. (R39, R40, R41, R58, R13, R49) -/
def Obligations.RateSlewAndLeap : Prop :=
  ∀ (s : State),
    (∀ v : Int, leads (.timRateAdjWrite v) s (fun t => t.getInt Reg.timRateAdjRate = max (-429497) (min 429497 v) ∧
      t.now = s.now ∧ memKept s t)) ∧
    (∀ v : Int, -2 ^ 31 ≤ v → v < 2 ^ 31 → leads (.timSlewRemWrite v) s (fun t =>
      t.getInt Reg.timSlewRemRem = v ∧ t.now = s.now ∧ t.on Reg.timStatusSlewing = decide (v ≠ 0) ∧ memKept s t)) ∧
    (s.getInt Reg.timSlewRemRem = 0 → exec .slewCorrection s = .next s) ∧
    (s.getInt Reg.timSlewRemRem ≠ 0 → (s.getInt Reg.timRateAdjRate).natAbs ≤ 429497 → s.time.frac < 2 ^ 32 →
      s.now + 6 < 2 ^ 48 * 1000000000 → leads .slewCorrection s (fun t =>
        t.getInt Reg.timSlewRemRem = s.getInt Reg.timSlewRemRem - (s.getInt Reg.timSlewRemRem).sign ∧
        s.now + 1 ≤ t.now ∧ t.now ≤ s.now + 6 ∧ t.time.adj = s.time.adj + (s.getInt Reg.timSlewRemRem).sign ∧
        t.time.frac < 2 ^ 32 ∧ memKept s t)) ∧
    (s.on Reg.timTaiUtcKnown = true → s.on Reg.timTaiUtcLeap61 = true → s.get Reg.timTaiUtcOffset < 65535 →
      leads .leapApply s (fun t => t.get Reg.timTaiUtcOffset = s.get Reg.timTaiUtcOffset + 1 ∧ t.now = s.now ∧
        t.on Reg.timTaiUtcLeap61 = false ∧ t.on Reg.timTaiUtcLeap59 = false ∧ memKept s t)) ∧
    (s.on Reg.timTaiUtcKnown = true → s.on Reg.timTaiUtcLeap61 = false → s.on Reg.timTaiUtcLeap59 = true →
      leads .leapApply s (fun t => t.get Reg.timTaiUtcOffset = s.get Reg.timTaiUtcOffset - 1 ∧ t.now = s.now ∧
        t.on Reg.timTaiUtcLeap59 = false ∧ memKept s t))

/-- A follower's edge is shown in TIM_SYNC_PHASE; one within 100 ns ends its run of misses, one further away is a
SYNC_MISS and leaves its counter, and the sixteenth in a row while words stay valid sets FAULT and makes it steer by
its own source. The winner of a word is the tick master, TIM_ARB shows its PRIO and slot, and it drives FRAME_SYNC.
A module that does not win a valid word is a follower: it shows the winner, takes its CLASS, TAI-UTC and leap flags,
and its SECONDS and k before RUN_LOCK; under RUN_LOCK it keeps its own count. A missing word makes a follower a
CANDIDATE, and a master that lost its arbitration drives FRAME_SYNC no longer. A module without a tick role only
counts missing words, and becomes a CANDIDATE after the fourth. A follower that becomes eligible above the master
becomes a CANDIDATE. That SYNC_DELAY_NS is subtracted before the 100 ns test is the model's choice (log entry 143).
(R63, R64, R65, R66, R67, R72) -/
def Obligations.TickRoleAndTheBusWord : Prop :=
  ∀ (s : State),
    (∀ p : Int, s.get Reg.timStatusTickRole = 1 → (p - cfgSyncDelay s).natAbs ≤ 100 →
      leads (.frameSyncEdge p) s (fun t => t.time.syncMisses = 0 ∧ t.time.edgeSeen = true ∧
        t.getInt Reg.timSyncPhasePhase = p ∧ t.get Reg.timStatusTickRole = 1 ∧ memKept s t)) ∧
    (∀ p : Int, s.get Reg.timStatusTickRole = 1 → 100 < (p - cfgSyncDelay s).natAbs → p.natAbs < 2 ^ 31 →
      leads (.frameSyncEdge p) s (fun t => t.time.syncMisses = s.time.syncMisses + 1 ∧
        t.on Reg.timEventSyncMiss = true ∧ t.getInt Reg.timSyncPhasePhase = p ∧ t.now = s.now ∧
        (s.time.syncMisses = 15 → s.time.wordValid = true → t.on Reg.timStatusFault = true) ∧ memKept s t)) ∧
    (s.get Reg.timStatusTickRole = 1 → leads .syncFault s (fun t => t.on Reg.timEventSyncMiss = true ∧
      t.on Reg.timStatusFault = true ∧ t.get Reg.timStatusTickRole = 1 ∧ t.now = s.now ∧ memKept s t ∧
      (s.time.ownSel < 6 → bitOf (cfgIrigMode s) 1 = false → t.get Reg.timStatusSource = s.time.ownSel))) ∧
    (∀ others word, arbitrates s = true →
      (∀ o ∈ others, arbKey (effPrio s) (s.get Reg.sysPositionSlotId) < arbKey o.1 o.2) →
      leads (.timeBusWord others word) s (fun t => t.get Reg.timStatusTickRole = 2 ∧ t.time.drivesSync = true ∧
        t.get Reg.timArbMasterSlot = s.get Reg.sysPositionSlotId ∧ t.get Reg.timArbMasterPrio = effPrio s ∧
        t.time.wordValid = true ∧ memKept s t)) ∧
    (∀ others word, others ≠ [] → crc16 ((msbBits 128 word).drop 15) = 0 →
      (arbitrates s = true →
        ∃ o ∈ others, arbKey o.1 o.2 ≤ arbKey (effPrio s) (s.get Reg.sysPositionSlotId)) →
      leads (.timeBusWord others word) s (fun t => t.get Reg.timStatusTickRole = 1 ∧ t.time.drivesSync = false ∧
        t.time.wordValid = true ∧ t.time.masterClass = busField (msbBits 128 word) 75 77 ∧
        t.get Reg.timArbMasterPrio = 255 - busField (msbBits 128 word) 0 7 ∧
        t.get Reg.timArbMasterSlot = busField (msbBits 128 word) 8 13 ∧
        t.get Reg.timTaiUtcOffset = busField (msbBits 128 word) 99 111 ∧
        t.on Reg.timStatusLeapKnown = decide (busField (msbBits 128 word) 78 78 = 1) ∧ memKept s t ∧
        (s.on Reg.timStatusRunLock = false → busField (msbBits 128 word) 63 74 < 4000 →
          t.t0 = busField (msbBits 128 word) 15 62 * 1000000000 + busField (msbBits 128 word) 63 74 * 250000) ∧
        (s.on Reg.timStatusRunLock = true → t.now = (toPhase 12240 s).now))) ∧
    (∀ others word, arbitrates s = false → s.get Reg.timStatusTickRole = 1 →
      (others = [] ∨ crc16 ((msbBits 128 word).drop 15) ≠ 0) →
      leads (.timeBusWord others word) s (fun t => t.get Reg.timStatusTickRole = 3 ∧ t.time.wordValid = false ∧
        t.time.wordsMissing = s.time.wordsMissing + 1 ∧ memKept s t)) ∧
    (∀ others word, arbitrates s = true →
      (∃ o ∈ others, arbKey o.1 o.2 ≤ arbKey (effPrio s) (s.get Reg.sysPositionSlotId)) →
      crc16 ((msbBits 128 word).drop 15) ≠ 0 →
      leads (.timeBusWord others word) s (fun t => t.get Reg.timStatusTickRole = 3 ∧ t.time.drivesSync = false ∧
        t.time.wordValid = false ∧ memKept s t)) ∧
    (∀ others word, s.get Reg.timStatusTickRole = 0 → s.time.wordsMissing < 3 → (others = [] ∨ crc16 ((msbBits 128 word).drop 15) ≠ 0) →
      leads (.timeBusWord others word) s (fun t => t.get Reg.timStatusTickRole = 0 ∧ t.time.wordValid = false ∧
        t.time.wordsMissing = s.time.wordsMissing + 1 ∧ memKept s t)) ∧
    (s.get Reg.timStatusTickRole = 0 → s.time.wordsMissing < 3 → leads .timeBusWordMissing s (fun t =>
      t.get Reg.timStatusTickRole = 0 ∧ t.time.wordsMissing = s.time.wordsMissing + 1 ∧ t.now = s.now ∧ memKept s t)) ∧
    (s.get Reg.timStatusTickRole = 0 → s.role ≠ roleFailed → 3 ≤ s.time.wordsMissing → leads .timeBusWordMissing s (fun t =>
      t.get Reg.timStatusTickRole = 3 ∧ t.on Reg.timEventRoleChange = true ∧ t.now = s.now ∧ memKept s t)) ∧
    (s.get Reg.timStatusTickRole = 1 → leads .timeBusWordMissing s (fun t =>
      t.get Reg.timStatusTickRole = 3 ∧ t.time.wordValid = false ∧ t.now = s.now ∧ memKept s t)) ∧
    (s.time.ownSel < 6 → srcLocked s s.time.ownSel = true → s.time.faults = 0 → cfgTimePrio s ≠ 0 →
      leads .tickEligible s (fun t => t.time.lockHeld60 = true ∧ t.get Reg.timArbOwnPrio = cfgTimePrio s ∧
        t.now = s.now ∧ memKept s t ∧
        (s.get Reg.timStatusTickRole = 1 → s.get Reg.timArbMasterPrio < cfgTimePrio s →
          t.get Reg.timStatusTickRole = 3)))

/-- A PTP sample of the port's domain is corrected by ASYM_PS and kept, or discarded as a JUMP; sixteen that agree
lock its source. Fine lock sets FINE where the filtered offset lies within half the bound; a lost lock makes the
source unavailable. An IRIG-B frame without a TAI-UTC offset, or with the extension's quality worse than 1 us, makes
source 4 unavailable; a 1PPS edge that PPS_CFG does not select is ignored; a 1PPS edge more than 400 ms off is a
jump; the fourth consistent one locks. Two locked sources that disagree set DISAGREE and FAULT. Announce values are
taken and Delay_Req messages go out. An OCXO that stops or is more than 200 ppm off is class 0x0F, another domain
clock 0x10, the SEC oscillator 0x11; a drifting OCXO is ineligible. (R43, R44, R45, R46, R47, R49, R50, R51, R52,
R67, R64, R407) -/
def Obligations.TimeSources : Prop :=
  ∀ (s : State),
    (∀ port dom ofs, ptpHears s port dom = false → exec (.ptpOffsetSample port dom ofs) s = .next s) ∧
    (∀ port dom ofs, ptpHears s port dom = true → port < s.time.srcs.length →
      isJump port (ofs + cfgAsym s port / 1000) s = false →
      (ofs + cfgAsym s port / 1000).natAbs < 2 ^ 31 →
      leads (.ptpOffsetSample port dom ofs) s (fun t =>
        t.getInt (Reg.timSrcOfsOfs port) = ofs + cfgAsym s port / 1000 ∧ memKept s t ∧
        (srcLocked s port = false → s.time.ownSel ≠ port →
          sixteenAgree (((ofs + cfgAsym s port / 1000) + s.time.adj) :: (s.src port).hist.take 15) = true →
          t.on (Reg.timSrcLocked port) = true ∧ t.on (Reg.timSrcFault port) = false))) ∧
    (∀ port dom ofs, ptpHears s port dom = true → isJump port (ofs + cfgAsym s port / 1000) s = true →
      (s.src port).jumps < 7 → port < s.time.srcs.length →
      leads (.ptpOffsetSample port dom ofs) s (fun t => t.on Reg.timEventJump = true ∧ t.now = s.now ∧
        (t.src port).hist = (s.src port).hist ∧ (t.src port).jumps = (s.src port).jumps + 1 ∧ memKept s t)) ∧
    (∀ n, n ≤ 3 → srcLocked s n = true → 2 * (filteredOfs s n).natAbs ≤ profileBound s n → leads (.fineLock n) s (fun t => t.on (Reg.timSrcFine n) = true ∧
      t.now = s.now ∧ memKept s t)) ∧
    (∀ n, n ≤ 5 → leads (.lockLoss n) s (fun t => t.on (Reg.timSrcLocked n) = false ∧
      t.on (Reg.timSrcAvailable n) = false ∧ t.now = s.now ∧ memKept s t)) ∧
    (∀ sec x, s.on Reg.timTaiUtcKnown = false → leads (.irigbFrame sec x) s (fun t =>
      t.on (Reg.timSrcLocked 4) = false ∧ t.on (Reg.timSrcAvailable 4) = false ∧ t.now = s.now ∧ memKept s t)) ∧
    (∀ sec (x : IrigExt), bitOf (cfgIrigMode s) 0 = true → x.badQuality = true → leads (.irigbFrame sec x) s (fun t =>
      t.on (Reg.timSrcLocked 4) = false ∧ t.on (Reg.timSrcAvailable 4) = false ∧ t.now = s.now ∧
      t.time.irigLeap = x.leapPending ∧ memKept s t)) ∧
    (∀ (sec : Int) (x : IrigExt) (n : Nat), sec = (n : Int) → s.on Reg.timTaiUtcKnown = true → bitOf (cfgIrigMode s) 0 = false →
      srcLocked s 4 = false → s.time.ownSel ≠ 4 → (s.src 4).run = 3 → 4 < s.time.srcs.length →
      ((sec + s.get Reg.timTaiUtcOffset) * 1000000000 + cfgIrigDelay s - s.now - presentOfs s (s.src 4).last).natAbs ≤ 1000 →
      leads (.irigbFrame n x) s (fun t => t.on (Reg.timSrcLocked 4) = true ∧
        t.on (Reg.timSrcAvailable 4) = true ∧ memKept s t)) ∧
    (∀ f, f ≠ cfgPpsFalling s → exec (.ppsEdge f) s = .next s) ∧
    (400000000 < ((((s.now + 500000000) / 1000000000 * 1000000000 : Nat) : Int) - s.now).natAbs →
      leads (.ppsEdge (cfgPpsFalling s)) s (fun t => t.on Reg.timEventJump = true ∧ t.now = s.now ∧ memKept s t)) ∧
    (∀ raw : Int, raw = (((s.now + 500000000) / 1000000000 * 1000000000 : Nat) : Int) - s.now →
      raw.natAbs ≤ 400000000 → (raw + cfgPpsDelay s).natAbs ≤ 1000 → srcLocked s 5 = false → s.time.ownSel ≠ 5 →
      (s.src 5).run = 3 → 5 < s.time.srcs.length →
      leads (.ppsEdge (cfgPpsFalling s)) s (fun t => t.on (Reg.timSrcLocked 5) = true ∧ memKept s t)) ∧
    (∀ a b, a < 6 → b < 6 → srcLocked s a = true → srcLocked s b = true →
      cfgDisagree s < (filteredOfs s a - filteredOfs s b).natAbs →
      leads .disagree s (fun t => t.on Reg.timEventDisagree = true ∧ t.on Reg.timStatusFault = true ∧ t.now = s.now ∧
        memKept s t)) ∧
    (∀ port dom valid o l61 l59, ptpHears s port dom = true → port < s.time.srcs.length →
      leads (.ptpAnnounce port dom valid o l61 l59) s (fun t => (t.src port).utc = (if valid then some (o : Int) else none) ∧
        (t.src port).leap61 = l61 ∧ (t.src port).leap59 = l59 ∧ t.now = s.now ∧ memKept s t)) ∧
    (∀ port dom, ptpHears s port dom = (decide (port ≤ 3) && portOpen s port && cfgProfile s port != 0 &&
      dom == cfgDomain s port)) ∧
    (∀ port, port ≤ 3 → cfgProfile s port ≠ 0 → pairMode (s.conf objNet) (port / 2) = 0 → leads (.ptpDelayReq port) s (fun t => t.regs = s.regs ∧
      t.outbox = (if portOpen s port = true then
        s.outbox ++ [.net port (if cfgProfile s port = 1 then "Delay_Req" else "Pdelay_Req")
          [s.time.delayReqSeq.getD port 0]] else s.outbox) ∧ memKept s t)) ∧
    leads .ocxoStopped s (fun t => hasFailed 0x0F 0xFF t ∧ t.on Reg.timEventOcxoFault = true ∧
      t.on Reg.timStatusFault = true ∧ memKept s t) ∧
    (∀ which ppm, ppm ≤ 200 → exec (.ocxoFreqCheck which ppm) s = .next s) ∧
    (∀ ppm, 200 < ppm → leads (.ocxoFreqCheck 0 ppm) s (fun t => hasFailed 0x0F 0xFF t ∧
        t.on Reg.timEventOcxoFault = true ∧ memKept s t) ∧
      leads (.ocxoFreqCheck 1 ppm) s (fun t => hasFailed 0x10 0xFF t ∧ memKept s t) ∧
      leads (.ocxoFreqCheck 2 ppm) s (fun t => hasFailed 0x11 0xFF t ∧ memKept s t)) ∧
    leads .ocxoDrifting s (fun t => t.on Reg.timEventOcxoFault = true ∧ t.on Reg.timStatusFault = true ∧
      t.get Reg.timArbOwnPrio = 0 ∧ t.now = s.now ∧ memKept s t) ∧
    exec .ocxoWarm s = .next (s.set Reg.timStatusOcxoWarm 1) ∧
    (s.set Reg.timStatusOcxoWarm 1).on Reg.timStatusOcxoWarm = true

/-- Wherever the counter is, short of its last second, TICK takes it to the TIME cycle, of at most 2 whole ns past
it, in which it first reaches or passes an instant T0 that lies k times 250 us after the start of its TAI second,
where k is the number from 0 to 3999 that TIM_FRAME then shows; the next such instant follows the frame in progress,
so that frame 3999 is followed by frame 0, which begins on the second. (R14) -/
def Obligations.FramesBeginOnMultiplesOf250Us : Prop :=
  ∀ (s : State), s.now + 250002 < 2 ^ 48 * 1000000000 → s.time.frac < 2 ^ 32 →
    leads .tick s (fun t => t.get Reg.timFrameK < 4000 ∧ s.now ≤ t.now ∧ t.t0 ≤ t.now ∧ t.now ≤ t.t0 + 2 ∧
      t.t0 ≤ s.now + 250000 ∧ t.t0 % 1000000000 = t.get Reg.timFrameK * 250000 ∧
      (s.time.ticked = true → frameOf s.now = 3999 →
        t.get Reg.timFrameK = 0 ∧ t.t0 / 1000000000 = s.now / 1000000000 + 1) ∧
      (s.time.ticked = true → frameOf s.now < 3999 →
        t.get Reg.timFrameK = frameOf s.now + 1 ∧ t.t0 / 1000000000 = s.now / 1000000000))

/-- A write of TIM_RATE_ADJ leaves the value clamped to plus or minus 429497, whether it comes by its own command or
by REGISTER_WRITE. A TIME cycle moves the counter by 2 ns and RATE units of 2^-32 ns, so that one unit changes the
rate by 1 in 2^33, and the largest is 50 ppm of it. (R40) -/
def Obligations.TheRateIsClamped : Prop :=
  (∀ (v : Int) (s : State), leads (.timRateAdjWrite v) s (fun t =>
    t.getInt Reg.timRateAdjRate = max (-429497) (min 429497 v) ∧ t.now = s.now ∧ memKept s t)) ∧
  (∀ (v : Int) (s : State), -2 ^ 31 ≤ v → v < 2 ^ 31 → leads (.registerWrite 0x10024 (v % 2 ^ 32).toNat []) s (fun t =>
    t.getInt Reg.timRateAdjRate = max (-429497) (min 429497 v) ∧ t.now = s.now ∧ memKept s t)) ∧
  (∀ (s t : State), t = (timeCycle 0 s).2 → (s.getInt Reg.timRateAdjRate).natAbs ≤ 429497 → s.time.frac < 2 ^ 32 →
    s.now + 3 < 2 ^ 48 * 1000000000 →
    (t.now * 2 ^ 32 + t.time.frac : Int) - (s.now * 2 ^ 32 + s.time.frac : Int) = 2 ^ 33 + s.getInt Reg.timRateAdjRate) ∧
  429497 * 1000000 ≤ 50 * (2 ^ 33 : Nat) + 1000000 ∧ 50 * (2 ^ 33 : Nat) < 429497 * 1000000 + 1000000

/-- GET_CONFIG answers the record in effect and changes nothing. SET_CONFIG with every field in range, at a module
that takes group commands, without a clash with the active unit and within the snapshot of 49152 bytes, is stored in
CONF and waits for the frame that the owner names, which the response carries; a field out of its range is answered
OUT_OF_RANGE with its offset, a clash or a module that does not own STATE_CONFLICT, and nothing is staged. (04 R139,
R554, 06 Aster commands, 07 Larkspur commands, R308, R309, R331, R332) -/
def Obligations.FamilyConfigurations : Prop :=
  ∀ (i : Nat) (r : Req) (s : State) (get set : Instr) (fam obj : Nat) (bad : List Byte → Option Nat)
      (clash : List Byte → State → Bool),
    (get, set, fam, obj) ∈ [(Instr.asterGetConfig r, Instr.asterSetConfig r, 12, objAster),
      (.larkspurGetConfig r, .larkspurSetConfig r, 13, objLsp), (.fieldioGetConfig r, .fieldioSetConfig r, 14, objFio),
      (.canauxGetConfig r, .canauxSetConfig r, 15, objCan)] →
    bad = (fun b => firstBad (if fam = 12 then astChecks b else if fam = 13 then lspChecks b
      else if fam = 14 then fioChecks b else canChecks b)) →
    clash = (if fam = 12 then astClash else if fam = 13 then lspClash else if fam = 14 then fioClash else canClash) →
    (requestOk fam 2 noPayload i r s = true → answers get fam 2 i r s (fun p u => u = s ∧ p = s.conf obj)) ∧
    (requestOk fam 3 (exactly (objSize obj)) i r s = true →
      (∀ d, bad r.payload = some d → answersErr set fam 3 i r s stOutOfRange d (fun u => u = s)) ∧
      (bad r.payload = none → settingsOpen s = true → clash r.payload s = false → snapWith s obj r.payload ≤ 49152 →
        answers set fam 3 i r s (fun p u => p = frameBytes (nameFrame s) ∧ u.regs = s.regs ∧ memKept s u ∧
          u.cfg.next = s.cfg.next ++ [(obj, nameFrame s, r.payload)] ∧ objGet u.cfg.stored obj = r.payload ∧
          u.cfg.applied = s.cfg.applied)) ∧
      (bad r.payload = none → (settingsOpen s = false ∨ clash r.payload s = true ∨ 49152 < snapWith s obj r.payload) →
        answersErr set fam 3 i r s stStateConflict noField (fun u => u = s)))

/-- A low supply sets FLD_LOW and DIO_FAULT; LOCKOUT switches every DO stage off; its end gives NORMAL from 19.6 V
and otherwise LOW. A stage in limitation latches off. A DI reads 1 from 11 V and 0 up to 5 V; an AI shows its
current and CLASS; a sink current out of band twice sets DIO_FAULT. The update takes the enabled commanded outputs,
the owner's stages conduct them, and a blocked module takes none. (R283, R284, R286, R288, R291, R292, R296, R298,
R301, R302, R555) -/
def Obligations.FieldSupplyAndStages : Prop :=
  ∀ (s : State),
    (s.on Reg.fioStatusFldLow = false → leads .fldLow s (fun t => t.on Reg.fioStatusFldLow = true ∧
      t.on Reg.fioStatusDioFault = true ∧ t.on Reg.fioEventFldLow = true ∧ t.fio = s.fio ∧ memKept s t)) ∧
    (s.on Reg.fioStatusLockout = false → exec .fldNormal s = .next (s.set Reg.fioStatusFldLow 0) ∧
      leads .lockout s (fun t => t.on Reg.fioStatusLockout = true ∧ t.on Reg.fioStatusFldLow = true ∧
        t.on Reg.fioStatusDioFault = true ∧ t.on Reg.fioEventLockout = true ∧ t.get Reg.fioDoDrive = 0 ∧ memKept s t)) ∧
    (∀ mv, s.on Reg.fioStatusLockout = true → leads (.lockoutEnd mv) s (fun t => t.on Reg.fioStatusLockout = false ∧
      t.on Reg.fioStatusFldLow = decide (mv < 19600) ∧ t.get Reg.fioDoDrive = s.get Reg.fioDoDrive ∧ memKept s t)) ∧
    (∀ n, n < 8 → leads (.doLatchOff n) s (fun t => bitOf t.fio.latched n = true ∧
      bitOf (t.get Reg.fioDoDrive) n = false ∧ t.on Reg.fioStatusDioFault = true ∧ memKept s t ∧
      ∀ m, m < 8 → m ≠ n → bitOf (t.get Reg.fioDoDrive) m = bitOf (s.get Reg.fioDoDrive) m)) ∧
    (s.fio.drive = .hold → leads .stageHoldEnd s (fun t => t.fio.drive = roleDrive s ∧ memKept s t)) ∧
    (∀ ua mv, ((∃ n, n < 16 ∧ fioDiEnabled (s.conf objFio) n = true ∧ 11000 ≤ mv.getD n 0 ∧
        (ua.getD n 0 < 2000 ∨ 3000 < ua.getD n 0) ∧ bitOf s.fio.sinkBad n = true) →
      leads (.diSinkWindow ua mv) s (fun t => t.on Reg.fioStatusDioFault = true ∧ memKept s t)) ∧
      ((∀ n, n < 16 → 2000 ≤ ua.getD n 0 ∧ ua.getD n 0 ≤ 3000) →
      leads (.diSinkWindow ua mv) s (fun t => t.fio.sinkBad = 0 ∧
        t.on Reg.fioStatusDioFault = s.on Reg.fioStatusDioFault ∧ memKept s t))) ∧
    (∀ x, leads (.fieldSampleInstant x) s (fun t => memKept s t ∧ t.get Reg.fioFld24Mv = min 65535 x.fld24 ∧
      (∀ n, n < 16 → 11000 ≤ x.di.getD n 0 → bitOf (t.get Reg.fioDiRaw) n = true) ∧
      (∀ n, n < 16 → x.di.getD n 0 ≤ 5000 → bitOf (t.get Reg.fioDiRaw) n = false) ∧
      (∀ n m k, n < 4 → fioAiEnabled (s.conf objFio) n = true → bitOf x.aiLimit n = false →
        fioDamp (s.conf objFio) n = 0 → m < 16777216 → 0 < k → x.ai.getD n (0, 1) = (((m * k : Nat) : Int), k) →
        t.get (Reg.fioAiI n) = divEven (m * 2500000) 16777215 ∧ t.get (Reg.fioAiClass n) = aiClass (m * 4294967296)))) ∧
    exec .wettingPulseEnd s = .next { s with fio := { s.fio with wetting := none } } ∧
    (s.pair.blocked = true → exec .fieldUpdate s = .next (toPhase 216000 s)) ∧
    (s.pair.blocked = false → s.time.ticked = true → leads .fieldUpdate s (fun t => memKept s t ∧
      ∀ n, n < 8 → bitOf (t.get Reg.fioDoCmd) n = (bitOf s.fio.wantDo n && fioDoEnabled (s.conf objFio) n) ∧
        (s.fio.drive = .owner → s.fio.lockedOff = false → bitOf (t.get Reg.fioDoDrive) n =
          (bitOf s.fio.wantDo n && fioDoEnabled (s.conf objFio) n && !bitOf s.fio.latched n))))

/-- GET_STATUS answers the registers of R310 and R333. CLEAR_FAULT clears DIO_FAULT, which is set again while the
supply is low, and the flags of FIO_EVENT. TX_ENQUEUE at the owner makes a TX object pending with the data,
STATE_CONFLICT at a host's module that does not own. RECOVER in BUS_OFF starts recovery, otherwise STATE_CONFLICT.
READ_RX answers the entries from FIRST_SEQ on. (R295, R310, R320, R327, R333) -/
def Obligations.FieldAndCanCommands : Prop :=
  ∀ (i : Nat) (r : Req) (s : State),
    (requestOk 14 1 noPayload i r s = true → answers (.fieldioGetStatus r) 14 1 i r s (fun p u => u = s ∧
      p.length = 72 ∧ leAt p 0 4 = (s.reg 0x60004).toNat ∧ leAt p 8 4 = (s.reg 0x60018).toNat ∧
      ∀ n, n < 4 → leAt p (24 + 4 * n) 4 = (s.reg (0x60040 + 4 * n)).toNat)) ∧
    (requestOk 14 4 (exactly 4) i r s = true → leAt r.payload 0 4 = 3 →
      answers (.fieldioClearFault r) 14 4 i r s (fun p u => p.length = 8 ∧ memKept s u ∧
        u.on Reg.fioStatusDioFault = s.on Reg.fioStatusFldLow ∧ u.on Reg.fioStatusFldLow = s.on Reg.fioStatusFldLow ∧
        u.reg 0x60008 = 0#32)) ∧
    (requestOk 15 1 noPayload i r s = true → answers (.canauxGetStatus r) 15 1 i r s (fun p u => u = s ∧
      p.length = 48 ∧ leAt p 0 4 = (s.reg Reg.canStatusNormal0.addr).toNat)) ∧
    (∀ c o, requestOk 15 4 (fun n => decide (4 ≤ n) && n == 4 + leAt r.payload 2 1) i r s = true →
      enqueueBad r.payload s = none → leAt r.payload 0 1 = c → leAt r.payload 1 1 = o →
      (s.held = true → s.get (Reg.canCtrlState c) ≤ canPassive → (s.ctl c).sending ≠ some o →
        canEnabled (s.conf objCan) c = true → c < s.can.length → o < (s.ctl c).objs.length →
        answers (.canauxTxEnqueue r) 15 4 i r s (fun p u => p = [] ∧ u.regs = s.regs ∧ memKept s u ∧
          (u.canObj c o).st = 1 ∧ (u.canObj c o).data = r.payload.drop 4 ∧
          (u.canObj c o).queuedAt = frameIndex s.now ∧
          ∀ c' o', (c', o') ≠ (c, o) → u.canObj c' o' = s.canObj c' o')) ∧
      (s.held = false → answersErr (.canauxTxEnqueue r) 15 4 i r s stStateConflict noField (fun u => u = s))) ∧
    (∀ c, requestOk 15 5 (exactly 4) i r s = true → leAt r.payload 0 1 = c → c < 2 → leAt r.payload 1 3 = 0 →
      (s.get (Reg.canCtrlState c) = canBusOff → answers (.canauxRecover r) 15 5 i r s (fun p u => p = [] ∧
        u.get (Reg.canCtrlState c) = canRecovering ∧ memKept s u)) ∧
      (s.get (Reg.canCtrlState c) ≠ canBusOff →
        answersErr (.canauxRecover r) 15 5 i r s stStateConflict noField (fun u => u = s))) ∧
    (∀ c n, requestOk 15 6 (exactly 12) i r s = true → leAt r.payload 0 1 = c → c < 2 → leAt r.payload 1 3 = 0 →
      leAt r.payload 8 1 = n → 1 ≤ n → n ≤ 32 → leAt r.payload 9 3 = 0 →
      answers (.canauxReadRx r) 15 6 i r s (fun p u => u = s ∧ leAt p 0 1 =
        min n ((s.ctl c).log.filter (fun e => decide (leAt r.payload 4 4 ≤ e.1))).length))

/-- A good frame goes to the lowest-numbered matching RX object and is counted; an FD frame seen by a classical
controller sets PEX and starts integration. A controller in normal operation offers its pending object of highest
priority; a sent object has STATE 2 and TEC falls by one, a failed one STATE 3 with its REASON, TX_FAIL is set and
TEC rises by 8. Recovery clears the counts; integration at the module that holds OWN gives normal operation. (R312,
R314, R317, R320, R321, R322, R325, R328, R329) -/
def Obligations.CanControllers : Prop :=
  ∀ (c : Nat) (s : State), c < 2 → c < s.can.length →
    (∀ f o, canOnBus c s = true → (bitOf f.flags 1 = true → canFd (s.conf objCan) c = true) → f.err = 0 →
      (List.range 128).find? (fun o => canMatches (s.conf objCan) c o f) = some o → o < (s.ctl c).objs.length →
      leads (.canFrameRx c f) s (fun t => memKept s t ∧ (t.canObj c o).rxData = f.data ∧ (t.canObj c o).rxId = f.id ∧
        (t.canObj c o).rxTime = f.sof ∧ t.get (Reg.canCtrlCntRxFrames c) =
          min (2 ^ ((Reg.canCtrlCntRxFrames c).hi + 1 - (Reg.canCtrlCntRxFrames c).lo) - 1)
            (s.get (Reg.canCtrlCntRxFrames c) + 1))) ∧
    (∀ f, canOnBus c s = true → bitOf f.flags 1 = true → canFd (s.conf objCan) c = false →
      leads (.canFrameRx c f) s (fun t => memKept s t ∧ (t.ctl c).integrating = true ∧ t.on (evPex c).flag = true)) ∧
    (∀ sof o, canOnBus c s = true → canNormal c s = true → (s.ctl c).sending = none → canBest c s = some o →
      frameIndex s.now ≤ (s.canObj c o).queuedAt + canDeadline (s.conf objCan) c o →
      leads (.canBusIdle c sof false) s (fun t => t.regs = s.regs ∧ memKept s t ∧ (t.ctl c).sending = some o ∧
        (t.ctl c).sof = sof) ∧
      exec (.canBusIdle c sof true) s = .next (s.bump (Reg.canCtrlCntArbLostCnt c))) ∧
    (∀ o b d x, (s.ctl c).sending = some o → o < (s.ctl c).objs.length → s.get (Reg.canCtrlState c) = canActive →
      s.get (Reg.canCtrlRec c) < 96 → s.get (Reg.canCtrlTec c) < 96 →
      leads (.canTxDone c 0 b d x) s (fun t => memKept s t ∧ (t.canObj c o).st = 2 ∧ (t.ctl c).sending = none ∧
        (t.canObj c o).sent = ((s.canObj c o).sent + 1) % 65536 ∧
        t.get (Reg.canCtrlTec c) = s.get (Reg.canCtrlTec c) - 1 ∧ t.get (Reg.canCtrlState c) = canActive) ∧
      (∀ reason, 1 ≤ reason → reason ≤ 5 → leads (.canTxDone c reason b d 0) s (fun t => memKept s t ∧
        (t.canObj c o).st = 3 ∧ (t.canObj c o).reason = reason ∧ (t.ctl c).sending = none ∧
        t.get (Reg.canCtrlTec c) = s.get (Reg.canCtrlTec c) + 8 ∧ t.on (evTxFail c).flag = true))) ∧
    (s.get (Reg.canCtrlState c) = canRecovering → leads (.canRecoveryComplete c) s (fun t => memKept s t ∧
      t.get (Reg.canCtrlState c) = canActive ∧ t.get (Reg.canCtrlTec c) = 0 ∧ t.get (Reg.canCtrlRec c) = 0)) ∧
    (canEnabled (s.conf objCan) c = true → leads (.canBusIntegration c) s (fun t => memKept s t ∧
      (t.ctl c).integrating = false ∧ (s.held = true → canNormal c t = true)))

/-- GET_ACTIVE lists the objects in entries of 16 bytes. READ_SETTINGS answers the stored object, STORAGE where both
copies are unreadable. STAGE_SETTINGS of a network configuration keeps the bytes and changes nothing in effect;
another length is BAD_LENGTH; a boot configuration whose signature fails is VERIFY_FAILED. ACTIVATE answers the
offset of a bad field, or stores the object and names its frame. DISCARD_STAGED drops it. At the named frame what
waits for it takes effect. (R468, R469, R280, 04 R139, 17 R485, 17 R487) -/
def Obligations.ConfigurationCommands : Prop :=
  ∀ (i : Nat) (r : Req) (s : State),
    (requestOk 3 1 noPayload i r s = true → answers (.configGetActive r) 3 1 i r s (fun p u => u = s ∧
      p.length = 8 + 16 * (activeCodes s).length ∧ leAt p 0 1 = (activeCodes s).length)) ∧
    (∀ o, requestOk 3 2 (exactly 4) i r s = true → leAt r.payload 0 1 = o → leAt r.payload 1 3 = 0 →
      (o ∈ objCodes → o ∉ s.cfg.absent →
        answers (.configReadSettings r) 3 2 i r s (fun p u => u = s ∧ p = storedForm s o)) ∧
      (o ∈ objCodes → o ∈ s.cfg.absent →
        answersErr (.configReadSettings r) 3 2 i r s stStorage noField (fun u => u = s)) ∧
      (o ∉ objCodes → answersErr (.configReadSettings r) 3 2 i r s stOutOfRange 0 (fun u => u = s))) ∧
    (∀ b, requestOk 3 3 (fun n => decide (4 ≤ n)) i r s = true → r.payload = [1#8, 0#8, 0#8, 0#8] ++ b →
      (b.length = 38096 → settingsOpen s = true → answers (.configStageSettings r) 3 3 i r s (fun p u => p = [] ∧
        objGet u.cfg.staged objNet = b ∧ u.cfg.stored = s.cfg.stored ∧ u.cfg.applied = s.cfg.applied ∧
        u.regs = s.regs ∧ memKept s u)) ∧
      (b.length = 38096 → settingsOpen s = false →
        answersErr (.configStageSettings r) 3 3 i r s stStateConflict noField (fun u => u = s)) ∧
      (b.length ≠ 38096 → answersErr (.configStageSettings r) 3 3 i r s stBadLength noField (fun u => u = s))) ∧
    (∀ b, requestOk 3 3 (fun n => decide (4 ≤ n)) i r s = true → r.payload = [2#8, 0#8, 0#8, 0#8] ++ b →
      3528 ≤ b.length → settingsOpen s = true →
      if bootSigned s b = true then answers (.configStageSettings r) 3 3 i r s (fun p u => p = [] ∧
        objGet u.cfg.staged objBoot = b ∧ u.cfg.stored = s.cfg.stored ∧ memKept s u)
      else answersErr (.configStageSettings r) 3 3 i r s stVerifyFailed noField
        (fun u => u.on Ev.secVerifyFail.flag = true ∧ u.cfg = s.cfg ∧ memKept s u)) ∧
    (∀ b, requestOk 3 4 (exactly 4) i r s = true → r.payload = [1#8, 0#8, 0#8, 0#8] →
      b = objGet s.cfg.staged objNet →
      (settingsOpen s = true → b ≠ [] →
        (∀ d, firstBad (netChecks s b) = some d →
          answersErr (.configActivate r) 3 4 i r s stOutOfRange d (fun u => u = s)) ∧
        (netClash b s = false → snapWith s objNet b ≤ 49152 → match firstBad (netChecks s b) with
          | some d => answersErr (.configActivate r) 3 4 i r s stOutOfRange d (fun u => u = s)
          | none => answers (.configActivate r) 3 4 i r s (fun p u => p = frameBytes (nameFrame s) ∧
            u.cfg.next = s.cfg.next ++ [(objNet, nameFrame s, b)] ∧ objGet u.cfg.staged objNet = [] ∧
            objGet u.cfg.stored objNet = b ∧ u.cfg.applied = s.cfg.applied ∧ u.regs = s.regs ∧ memKept s u))) ∧
      (settingsOpen s = false ∨ b = [] →
        answersErr (.configActivate r) 3 4 i r s stStateConflict noField (fun u => u = s))) ∧
    (requestOk 3 5 (exactly 4) i r s = true → r.payload = [1#8, 0#8, 0#8, 0#8] →
      (takesGroup s = true → answers (.configDiscardStaged r) 3 5 i r s (fun p u => p = [] ∧
        objGet u.cfg.staged objNet = [] ∧ u.cfg.stored = s.cfg.stored ∧ u.regs = s.regs ∧ memKept s u)) ∧
      (takesGroup s = false →
        answersErr (.configDiscardStaged r) 3 5 i r s stStateConflict noField (fun u => u = s))) ∧
    leads .configEffectiveFrame s (fun t => memKept s t ∧
      t.cfg.next = s.cfg.next.filter (fun p => frameIndex s.now + 1 < p.2.1) ∧
      ∀ o f b, o ∈ [objNet, objAster, objLsp, objFio, objCan] → s.cfg.next = [(o, f, b)] → f ≤ frameIndex s.now + 1 →
        b ≠ [] → t.conf o = b)

/-- GET_STATUS is 40 bytes. A chunk of LOAD_UNIT is appended; the last one without a STANDBY peer answers the report
and stages the unit where it is admitted. START_CHANGE in RUN is held, in EMPTY and STOPPED it installs the unit;
ABORT_CHANGE returns to RUN. MIGRATION_COMPLETE makes the change ready. The swap of the next frame makes the other
bank live with the new unit in RUN; one that is not eligible is postponed and the old unit stays. (R149, R138, R142,
R145, R147, R148, R116) -/
def Obligations.UnitsAndOnlineChange : Prop :=
  ∀ (i : Nat) (r : Req) (s : State),
    (requestOk 4 1 noPayload i r s = true → answers (.programGetStatus r) 4 1 i r s (fun p u => u = s ∧
      p.length = 40 ∧ leAt p 0 1 = stateCode s.prog.state ∧ leAt p 36 2 = s.prog.forces.length % 65536 ∧
      leAt p 4 8 = (match s.prog.active with | some u => u.id | none => 0) % 2 ^ 64)) ∧
    (∀ kept chunk, requestOk 4 2 (fun n => decide (16 ≤ n)) i r s = true → r.payload.drop 16 = chunk →
      leAt r.payload 0 4 ≤ 8388608 → leAt r.payload 4 4 = kept.length →
      kept = (if leAt r.payload 4 4 = 0 then [] else s.prog.recv) → kept.length + chunk.length ≤ leAt r.payload 0 4 →
      leAt r.payload 9 7 = 0 → s.prog.state ≠ .changing →
      (leAt r.payload 8 1 = 0 → answers (.programLoadUnit r) 4 2 i r s (fun p u => p = [] ∧
        u.prog.recv = kept ++ chunk ∧ u.prog.active = s.prog.active ∧
        (ringsIdle i s = true → u.regs = s.regs ∧ memKept s u))) ∧
      (leAt r.payload 8 1 = 1 → (isOwner s = false ∨ admitters s = []) →
        answers (.programLoadUnit r) 4 2 i r s (fun p u => p = reportOf (judgeUnit s (kept ++ chunk)).1 ∧
          u.prog.staged = (judgeUnit s (kept ++ chunk)).2 ∧ u.prog.active = s.prog.active ∧
          (ringsIdle i s = true → memKept s u))) ∧
      (leAt r.payload 8 1 = 1 → isOwner s = true → admitters s ≠ [] →
        holds (.programLoadUnit r) 4 2 i r s (fun u => u.prog.load = some ((judgeUnit s (kept ++ chunk)).1, []) ∧
          u.prog.staged = (judgeUnit s (kept ++ chunk)).2 ∧ u.prog.active = s.prog.active ∧
          (ringsIdle i s = true → memKept s u)))) ∧
    (∀ un, requestOk 4 3 (exactly 8) i r s = true → s.prog.staged = some un → leAt r.payload 0 8 = un.id →
      takesGroup s = true → groupUpdating s = false → memberSyncing s = false → s.prog.named = [] →
      s.prog.load = none →
      (s.prog.state = .run → holds (.programStartChange r) 4 3 i r s (fun u => u.prog.state = .changing ∧
        u.prog.change = some {} ∧ u.prog.active = s.prog.active ∧ u.regs = s.regs ∧ memKept s u)) ∧
      (s.prog.state = .stopped ∨ s.prog.state = .empty → answers (.programStartChange r) 4 3 i r s (fun _ u =>
        u.prog.state = .stopped ∧ u.prog.active = some un ∧ u.prog.staged = none ∧
        u.prog.live = 1 - s.prog.live))) ∧
    (requestOk 4 3 (exactly 8) i r s = true → s.prog.staged = none →
      answersErr (.programStartChange r) 4 3 i r s stStateConflict noField (fun u => u = s)) ∧
    (requestOk 4 4 noPayload i r s = true → takesGroup s = true → s.prog.state = .changing → s.prog.named = [] →
      answers (.programAbortChange r) 4 4 i r s (fun p u => p = [] ∧ u.prog.state = .run ∧ u.prog.change = none ∧
        u.prog.staged = none ∧ u.prog.active = s.prog.active ∧
        ((∀ j, j < 16 → ringsIdle j s = true) → memKept s u))) ∧
    (requestOk 4 4 noPayload i r s = true → s.prog.state ≠ .changing →
      answersErr (.programAbortChange r) 4 4 i r s stStateConflict noField (fun u => u = s)) ∧
    (∀ c un, s.prog.change = some c → s.prog.staged = some un → c.stage = 1 →
      leads .migrationComplete s (fun t => t.regs = s.regs ∧ t.prog.active = s.prog.active ∧
        t.prog.live = s.prog.live ∧
        (isOwner s = true → admitters s = [] → t.prog.named = s.prog.named ++ [(nameFrame s, Named.swap)]) ∧
        (isOwner s = false → t.outbox = s.outbox ++ [.peer (waysOf s "READY") "READY" s.hhk.ctlSeq true [1]] ∧
          t.prog.change.map (fun c => c.stage) = some 2))) ∧
    (s.prog.change = none → exec .migrationComplete s = .next s) ∧
    (∀ c un, s.time.ticked = true → s.prog.change = some c → s.prog.staged = some un →
      (frameIndex (toPhase 222000 s).now + 1, Named.swap) ∈ s.prog.named →
      (swapEligible s = true → leads .bankSwap s (fun t => t.prog.live = 1 - s.prog.live ∧
        t.prog.active = some un ∧ t.prog.staged = none ∧ t.prog.change = none ∧ t.prog.state = .run)) ∧
      (swapEligible s = false → c.postponed < 15 → leads .bankSwap s (fun t => t.prog.live = s.prog.live ∧
        t.prog.active = s.prog.active ∧ t.prog.change = some { c with postponed := c.postponed + 1 } ∧
        memKept s t))) ∧
    (s.time.ticked = true → (frameIndex (toPhase 222000 s).now + 1, Named.swap) ∉ s.prog.named →
      exec .bankSwap s = .next (toPhase 222000 s))

/-- RUN in STOPPED with time answers the named frame, at which every task starts fresh, the state is RUN and
RUN_LOCK is set; STOP answers its frame, at which no task runs and the outputs take their stop actions. RETAIN_SAVE
writes the RETAIN values to CONF where they have changed, and the write is current when it completes. GET_TASK_STATS
gives 32 bytes per task; READ_VAR waits for an output gather. (R149, R138, R139, R123, 17 R485, R57) -/
def Obligations.RunningAndStopping : Prop :=
  ∀ (i : Nat) (r : Req) (s : State),
    (∀ mode, requestOk 4 5 (exactly 8) i r s = true → leAt r.payload 0 1 = mode → leAt r.payload 1 7 = 0 → mode ≤ 2 →
      (takesGroup s = true → s.prog.state = .stopped → s.timeOk = true → (mode ≠ 2 ∨ s.prog.resetSinceStop = false) →
        answers (.programRun r) 4 5 i r s (fun p u => p = frameBytes (nameFrame s) ∧ u.prog.state = .starting ∧
          u.prog.named = s.prog.named ++ [(nameFrame s, Named.start mode)] ∧ u.regs = s.regs ∧ memKept s u)) ∧
      (takesGroup s = false ∨ s.prog.state ≠ .stopped ∨ s.timeOk = false ∨
          (mode = 2 ∧ s.prog.resetSinceStop = true) →
        answersErr (.programRun r) 4 5 i r s stStateConflict noField (fun u => u = s))) ∧
    (requestOk 4 6 noPayload i r s = true →
      (takesGroup s = true → s.prog.state = .run → s.prog.named = [] → answers (.programStop r) 4 6 i r s (fun p u =>
        p = frameBytes (nameFrame s) ∧ u.prog.named = [(nameFrame s, Named.stop)] ∧ u.prog.state = .run ∧
        u.regs = s.regs ∧ memKept s u)) ∧
      (s.prog.state = .stopped → answersErr (.programStop r) 4 6 i r s stStateConflict noField (fun u => u = s))) ∧
    (∀ k mode un, s.prog.named = [(k, Named.start mode)] → k ≤ frameIndex s.now → s.prog.state = .starting →
      s.prog.active = some un → leads .programStartFrame s (fun t => t.prog.state = .run ∧ t.prog.named = [] ∧
        t.prog.tasks.length = un.tasks.length ∧ (∀ x ∈ t.prog.tasks, x.first = true ∧ x.halted = false) ∧
        t.prog.engines = List.replicate 8 {} ∧ t.on Reg.timStatusRunLock = true)) ∧
    (∀ k, s.prog.named = [(k, Named.stop)] → k ≤ frameIndex s.now → s.prog.state = .run →
      leads .programStopFrame s (fun t => t.prog.state = .stopped ∧ t.prog.named = [] ∧ t.prog.stopDue = true ∧
        t.prog.engines = List.replicate 8 {} ∧ t.on Reg.timStatusRunLock = s.time.busRun ∧ memKept s t)) ∧
    (∀ c, s.nvs.writing = [] → s.prog.retain = some c → s.prog.active.isSome = true → s.prog.state = .run →
      leads .retainSave s (fun t => t.regs = s.regs ∧ memKept s t ∧
        t.nvs.writing = (if retainValues s = c.values then [] else [.retain ⟨retainValues s, s.seconds⟩]))) ∧
    (s.prog.state = .stopped → exec .retainSave s = .next s) ∧
    (∀ pr c rest, s.nvs.writing = .retain c :: rest → leads (.confWriteComplete pr) s (fun t =>
      t.prog.retain = some c ∧ t.nvs.writing = rest ∧ (∀ n, n / 0x10000 ≠ 0xD → t.reg n = s.reg n) ∧ memKept s t)) ∧
    (∀ pr, s.nvs.writing = [] → exec (.confWriteComplete pr) s = .next s) ∧
    (requestOk 4 7 (exactly 4) i r s = true → leAt r.payload 1 3 = 0 → leAt r.payload 0 1 = 0xFF →
      answers (.programGetTaskStats r) 4 7 i r s (fun p u => u = s ∧ p.length = 32 * (unitTasks s).length)) ∧
    (requestOk 4 8 (fun n => decide (12 ≤ n) && decide (n ≤ 260) && n % 8 == 4) i r s = true →
      r.payload.length = 12 → leAt r.payload 0 1 = 1 → leAt r.payload 1 3 = 0 → leAt r.payload 9 3 = 0 →
      (readVarOk s r.payload 0 = true → holds (.programReadVar r) 4 8 i r s (fun u =>
        u.prog.reads = s.prog.reads ++ [(i, r.seq, r.payload)] ∧ u.regs = s.regs ∧ memKept s u)) ∧
      (readVarOk s r.payload 0 = false →
        answersErr (.programReadVar r) 4 8 i r s stOutOfRange 4 (fun u => u = s)))

/-- LIST answers the number of forces and 16 bytes each. SET of a forceable symbol with its type, RELEASE of a
forced symbol and RELEASE_ALL answer the frame in which they take effect and enter a change for it; the table in
effect stays until then. A symbol the unit does not have, or one not forced, is OUT_OF_RANGE at offset 0; a module
that does not own answers STATE_CONFLICT. (R150, R135, R137) -/
def Obligations.ForceCommands : Prop :=
  ∀ (i : Nat) (r : Req) (s : State),
    (requestOk 5 1 noPayload i r s = true → answers (.forceList r) 5 1 i r s (fun p u => u = s ∧
      p.length = 8 + 16 * s.prog.forces.length ∧ leAt p 0 2 = s.prog.forces.length % 65536)) ∧
    (requestOk 5 2 (exactly 16) i r s = true → s.prog.active = none →
      answersErr (.forceSet r) 5 2 i r s stOutOfRange 0 (fun u => u = s)) ∧
    (∀ un y, requestOk 5 2 (exactly 16) i r s = true → s.prog.active = some un →
      symOf un (leAt r.payload 0 4) = some y → bitOf y.flags 1 = true → y.kind ≤ 1 → tySize y.type ≠ 0 →
      leAt r.payload 4 1 = y.type → leAt r.payload 5 3 = 0 →
      (takesGroup s = true → (forcesAfter s).length < 256 → answers (.forceSet r) 5 2 i r s (fun p u =>
        p = frameBytes (changeFrame s) ∧ u.prog.forces = s.prog.forces ∧ u.regs = s.regs ∧ memKept s u ∧
        u.prog.changes = s.prog.changes ++ [⟨changeFrame s, false,
          ⟨y.id, y.type, y.kind, leAt r.payload 8 8 % 2 ^ (8 * y.size)⟩⟩])) ∧
      (takesGroup s = false → answersErr (.forceSet r) 5 2 i r s stStateConflict noField (fun u => u = s))) ∧
    (requestOk 5 3 (exactly 8) i r s = true → leAt r.payload 4 4 = 0 →
      (∀ f, (forcesAfter s).find? (fun f => f.symbol == leAt r.payload 0 4) = some f → takesGroup s = true →
        answers (.forceRelease r) 5 3 i r s (fun p u => p = frameBytes (changeFrame s) ∧
          u.prog.forces = s.prog.forces ∧ u.prog.changes = s.prog.changes ++ [⟨changeFrame s, true, f⟩] ∧
          u.regs = s.regs ∧ memKept s u)) ∧
      ((forcesAfter s).find? (fun f => f.symbol == leAt r.payload 0 4) = none →
        answersErr (.forceRelease r) 5 3 i r s stOutOfRange 0 (fun u => u = s))) ∧
    (requestOk 5 4 noPayload i r s = true → takesGroup s = true → answers (.forceReleaseAll r) 5 4 i r s (fun p u =>
      p.length = 16 ∧ leAt p 8 2 = (forcesAfter s).length % 65536 ∧ u.prog.forces = s.prog.forces ∧
      (u.prog.changes.drop s.prog.changes.length).map (fun c => (c.clear, c.force)) =
        (forcesAfter s).map (fun f => (true, f)) ∧ u.regs = s.regs ∧ memKept s u)) ∧
    (requestOk 5 4 noPayload i r s = true → takesGroup s = false →
      answersErr (.forceReleaseAll r) 5 4 i r s stStateConflict noField (fun u => u = s))

/-- The tick of a ticked frame takes the counter to the TIME cycle of at most 2 ns past T0 plus 250 us, TIM_FRAME to
its number, and lets what was named for it take effect. At T0+200 us no engine runs. The error task runs where the
frame has a fault of its engine. At T0+215 us the owner releases a publication that is due and undiscarded, every
other module releases no GOOSE, a blocked module sends nothing on a network, and the signature record goes to the
peers. (R60, R61, R114, R128, R130, R261, R263, R355, R395, R139) -/
def Obligations.TheFrameFromTickToRelease : Prop :=
  ∀ (s : State),
    leads .tick s (fun t => t.time.ticked = true ∧ t.time.edgeSeen = false ∧ t.pwr.stretch = 0 ∧
      (∀ p ∈ t.cfg.next, frameIndex t.now < p.2.1) ∧
      (s.time.ticked = true → s.time.frac < 2 ^ 32 → s.t0 + 250002 < 2 ^ 48 * 1000000000 →
        s.t0 + 250000 ≤ t.now ∧ t.now ≤ s.t0 + 250002 ∧ t.get Reg.timFrameK = frameOf (s.t0 + 250000))) ∧
    (s.time.ticked = true → leads .executionWindowEnd s (fun t =>
      ∀ e, e < 8 → (t.eng e).running = false ∧ (t.eng e).due = [])) ∧
    (s.time.ticked = false → exec .executionWindowEnd s = .next s ∧ exec .outputRelease s = .next s) ∧
    (∀ e un p row inst ty, s.time.ticked = true → s.prog.active = some un → e < s.prog.engines.length →
      programRuns s = true → inStep s (frameIndex s.now) = true → errorTaskOf un e = some (p, row) →
      instOf un row = some inst → un.types[inst.type]? = some ty → (s.task p).halted = false →
      (s.eng e).err = false → (s.eng e).running = false → (s.eng e).faulted ≠ [] → p < s.prog.tasks.length →
      leads (.errorTaskRun e) s (fun t => (t.eng e).running = true ∧ (t.eng e).err = true ∧ (t.eng e).task = p ∧
        (t.eng e).pc = ty.codeOff ∧ (t.eng e).stack = [] ∧ (t.task p).periods = ((s.task p).periods + 1) % 2 ^ 32)) ∧
    (∀ e, s.prog.active = none → exec (.errorTaskRun e) s = .next s) ∧
    (s.time.ticked = true → leads .outputRelease s (fun t => memKept s t ∧ t.role = s.role ∧
      (s.pair.blocked = true → ∀ p k d, OutMsg.net p k d ∈ t.outbox → OutMsg.net p k d ∈ s.outbox) ∧
      (s.held = false → ∀ p d, OutMsg.net p "GOOSE" d ∈ t.outbox → OutMsg.net p "GOOSE" d ∈ s.outbox) ∧
      (∀ un j tal, s.pair.blocked = false → s.held = true → s.pair.muted = none → s.prog.active = some un →
        discardsOf (toPhase 215000 s) un = 0 → j < 32 → (s.gpub j).going = some tal →
        t.get (Reg.netGpubTxFrames j) =
          min (2 ^ ((Reg.netGpubTxFrames j).hi + 1 - (Reg.netGpubTxFrames j).lo) - 1)
            (s.get (Reg.netGpubTxFrames j) + 1)) ∧
      (∀ r, s.pair.ownSigs.find? (fun r => r.1 == frameIndex (toPhase 215000 s).now) = some r →
        OutMsg.peer (waysOf (toPhase 215000 s) "SIGNATURE") "SIGNATURE" 0 true (frameIndex (toPhase 215000 s).now :: s.get Reg.hhkTriadHeld ::
          r.2.flatMap (fun p => [p.1, p.2])) ∈ t.outbox))) ∧
    (∀ port, port < 5 → leads (.txLate port) s (fun t => memKept s t ∧ t.on Ev.netTxLate.flag = true ∧
      t.get (Reg.netPortTxLateCnt port) =
        min (2 ^ ((Reg.netPortTxLateCnt port).hi + 1 - (Reg.netPortTxLateCnt port).lo) - 1)
          (s.get (Reg.netPortTxLateCnt port) + 1)))

/-- At T0+225 us the snapshot of the next frame is frozen with the frames named, the changes due and the role, once;
a GOOSE frame that arrives at that instant or later is taken after it. A segment that arrives for the next frame
before T0+247 us joins its copy, another is discarded. At the selection an ALONE module takes its own snapshot; a
STANDBY of a pair the owner's complete copy, else its own as a self-snapshot frame, counted; the sixteenth in a row
ends in SYNCING. (R62, R35, R350, R351, R352, R120, R139) -/
def Obligations.CutOffAndSelection : Prop :=
  ∀ (s : State),
    (s.time.ticked = true → frozenFor (frameIndex (toPhase 225000 s).now + 1) s = true →
      exec .cutOff s = .next (toPhase 225000 s)) ∧
    (∀ f : GooseFrame, s.time.ticked = true → s.time.frac < 2 ^ 32 → s.t0 + 225000 ≤ f.arrival → leads (.gooseFrameRx f) s (fun t =>
      exec (.gooseFrameRx f) (cutOff s) = .next t)) ∧
    (s.time.ticked = true → frozenFor (frameIndex (toPhase 225000 s).now + 1) s = false → leads .cutOff s (fun t => memKept s t ∧ t.role = s.role ∧ ∃ sn, t.prog.frozen = some sn ∧
      sn.frame = frameIndex (toPhase 225000 s).now + 1 ∧ sn.ownerRole = s.role ∧ sn.moved = s.pair.moved ∧
      (∃ l, sn.named = s.prog.named ++ l) ∧ sn.changes = s.prog.changes.filter (fun c => c.frame ≤ sn.frame) ∧
      sn.drops = s.net.wentDown ∧ sn.returns = s.net.cameUp ∧ t.net.wentDown = 0 ∧ t.net.cameUp = 0)) ∧
    (s.time.ticked = false → exec .cutOff s = .next s ∧ exec .snapshotSelect s = .next s) ∧
    (∀ h part, (hhkArrive typeSnapshot h s).1 = true → part.frame = frameIndex s.now + 1 → s.now - s.t0 < 247000 →
      leads (.snapshotFrame h part) s (fun t => memKept s t ∧
        t.prog.copies = keepPart h.srcSlot (bitOf h.flags 0) h.segment part s.prog.copies)) ∧
    (∀ h part, part.frame ≠ frameIndex s.now + 1 ∨ 247000 ≤ s.now - s.t0 →
      exec (.snapshotFrame h part) s = .next (hhkArrive typeSnapshot h s).2) ∧
    (∀ own, s.time.ticked = true → s.prog.frozen = some own → own.frame = frameIndex (toPhase 247000 s).now + 1 →
      s.triad = false →
      (s.role = roleAlone → s.held = true → leads .snapshotSelect s (fun t => t.prog.pool = own ∧ t.prog.poolSelf = false ∧
        t.prog.copies = [] ∧ t.on Reg.hhkPairStatusSelfSnap = false ∧ memKept s t)) ∧
      (∀ sn, followsOwner s = true → ownerCopy s = some sn → leads .snapshotSelect s (fun t => t.prog.pool = sn ∧
        t.prog.poolSelf = false ∧ t.pair.selfRun = 0 ∧ t.on Reg.hhkPairStatusSelfSnap = false ∧ memKept s t)) ∧
      (followsOwner s = true → ownerCopy s = none → leads .snapshotSelect s (fun t => t.prog.pool = selfItems own ∧
        t.prog.poolSelf = true ∧ t.pair.selfSnaps = s.pair.selfSnaps + 1 ∧ memKept s t ∧
        (s.pair.selfRun < 15 → t.pair.selfRun = s.pair.selfRun + 1 ∧ t.role = s.role) ∧
        (15 ≤ s.pair.selfRun → t.role = roleSyncing))))

/-- In a pair, records that are equal change no role; where they differ the STANDBY yields to SYNCING and the owner
keeps OWN. An absent record is counted and compared with nothing; the fourth in a row is a loss of Hollyhock. In a
triad the vote takes each DO as the majority of three records, with two the own; the module in the minority yields
to SYNCING without OWN. A module that does not vote is unchanged. (R354, R355, R356, R385, R386) -/
def Obligations.SignaturesAndVotes : Prop :=
  ∀ (s : State),
    (∀ h slots held own, (hhkArrive typeSignature h s).1 = true → s.triad = false →
      s.pair.ownSigs.find? (fun r => r.1 == h.frame) = some (h.frame, own) → s.pair.qFrame = none →
      (own = slots → leads (.signatureFrame h slots held false) s (fun t => t.role = s.role ∧ t.held = s.held ∧
        t.pair.lastMismatch = false ∧ t.pair.mismatches = s.pair.mismatches ∧ t.pair.sigMissRun = 0 ∧ memKept s t)) ∧
      (own ≠ slots → s.role = roleStandby → leads (.signatureFrame h slots held false) s (fun t =>
        t.role = roleSyncing ∧ t.pair.lastMismatch = true ∧ t.pair.mismatches = s.pair.mismatches + 1 ∧
        t.on Reg.hhkPairStatusArmed = false ∧ memKept s t)) ∧
      (own ≠ slots → s.role = rolePrimary → s.held = true → (∀ p ∈ s.pair.peers, p.slot = h.srcSlot) →
        leads (.signatureFrame h slots held false) s (fun t => t.role = roleAlone ∧ t.held = true ∧
          t.pair.mismatches = s.pair.mismatches + 1 ∧ memKept s t))) ∧
    (s.pair.ownSigs = [] → exec .sigMiss s = .next s) ∧
    (∀ o rest, s.pair.ownSigs = o :: rest → s.pair.peerSigs = [] →
      (s.pair.sigMissRun < 3 → leads .sigMiss s (fun t => t.role = s.role ∧ t.pair.ownSigs = rest ∧
        t.pair.sigMissRun = s.pair.sigMissRun + 1 ∧ memKept s t ∧ t.get Reg.hhkPairSigmissCnt =
          min (2 ^ (Reg.hhkPairSigmissCnt.hi + 1 - Reg.hhkPairSigmissCnt.lo) - 1) (s.get Reg.hhkPairSigmissCnt + 1))) ∧
      (3 ≤ s.pair.sigMissRun → s.role = rolePrimary → leads .sigMiss s (fun t => t.role = roleAlone ∧
        t.pair.peers = [] ∧ t.get Reg.hhkPairStatusHhkUp = 0 ∧ memKept s t))) ∧
    (∀ h sigs d held ao, (hhkArrive typeVote h s).1 = true → leads (.voteFrame h sigs d held ao) s (fun t =>
      (forAnother h s = false →
        t.pair.votes = (⟨h.srcSlot, h.frame, sigs, d, held, ao⟩ :: s.pair.votes).take 8) ∧
      (forAnother h s = true → t.pair = s.pair ∧ ∃ d, t.outbox =
        s.outbox ++ [.peer [byPort s (portFacing s h.dst) h.dst true] "RELAY" h.segment true d]) ∧ memKept s t)) ∧
    (votes s = false → exec .voteRecordSend s = .next s ∧ exec .vote s = .next s) ∧
    (votes s = true → leads .voteRecordSend s (fun t => memKept s t ∧ ∃ d, t.outbox.getLast? = some (.peer (waysOf (toPhase 209000 s) "VOTE") "VOTE" 0 true d) ∧
      d.head? = some (frameIndex (toPhase 209000 s).now))) ∧
    (∀ k a b, votes s = true → k = frameIndex (toPhase 212000 s).now →
      (s.pair.votes.filter (fun v => v.frame == k)).take 2 = [a, b] →
      leads .vote s (fun t => memKept s t ∧
        (∀ n, n < 8 → bitOf t.fio.wantDo n = ((bitOf s.fio.wantDo n && bitOf a.dos n) ||
          (bitOf s.fio.wantDo n && bitOf b.dos n) || (bitOf a.dos n && bitOf b.dos n))) ∧
        (a.sigs = b.sigs → (ownVote s k).sigs ≠ a.sigs → t.role = roleSyncing ∧ t.held = false) ∧
        (a.sigs = b.sigs → (ownVote s k).sigs = a.sigs → t.role = s.role ∧ t.held = s.held))) ∧
    (∀ k, votes s = true → k = frameIndex (toPhase 212000 s).now →
      s.pair.votes.filter (fun v => v.frame == k) = [] →
      leads .vote s (fun t => memKept s t ∧ t.role = s.role ∧ t.fio.wantAo = s.fio.wantAo ∧
        ∀ n, n < 8 → bitOf t.fio.wantDo n = bitOf s.fio.wantDo n))

/-- A mismatch of a unit whose comparator acts makes the module FAILED with class 0x01 for units below 8 and 0x02
above; parity of a delay register with 0x03, a state signature with 0x04, a checker tree or a failed injected test
with 0x05. Under taint a mismatch and a state signature of units 0 to 6 are only recorded. Disabled diagnostics do
nothing; an injected test that passes sets LAST_OK. A debug access sets TAINT once; an owner with a good STANDBY
releases OWN and is STANDBY. (R394, R395, R396, R397, R398, R399, R401, R405, R406, R407, R411) -/
def Obligations.LockStepAndItsTests : Prop :=
  ∀ (u port : Nat) (s : State), u < 16 → port < 255 →
    (unitActs s u = true →
      leads (.comparatorMismatch u port) s (fun t => memKept s t ∧ t.get Reg.lckFaultPort = port ∧
        hasFailed (if u < 8 then 1 else 2) u t ∧ t.on (mismatchEv u).flag = true)) ∧
    (unitCompares s u = true →
      (u < 7 → leads (.delayPar u port) s (fun t => memKept s t ∧ hasFailed 3 u t ∧ t.get Reg.lckFaultPort = port)) ∧
      leads (.compFail u) s (fun t => memKept s t ∧ hasFailed 5 u t)) ∧
    (u < 7 → s.taint = true → s.on Reg.sysModeSplit = false →
      leads (.comparatorMismatch u port) s (fun t => memKept s t ∧
        t.role = s.role ∧ t.held = s.held ∧ t.on Ev.lckRecord.flag = true ∧ t.get (Reg.lckUnitRecBusRecCnt u) =
          min (2 ^ ((Reg.lckUnitRecBusRecCnt u).hi + 1 - (Reg.lckUnitRecBusRecCnt u).lo) - 1)
            (s.get (Reg.lckUnitRecBusRecCnt u) + 1)) ∧
      (s.on Reg.lckDiagCtrlStateSigEn = true → leads (.stateSigCompare (2 ^ u)) s (fun t => memKept s t ∧
        t.role = s.role ∧ t.held = s.held ∧ t.on Ev.lckRecord.flag = true ∧ t.get (Reg.lckUnitRecStateRecCnt u) =
          min (2 ^ ((Reg.lckUnitRecStateRecCnt u).hi + 1 - (Reg.lckUnitRecStateRecCnt u).lo) - 1)
            (s.get (Reg.lckUnitRecStateRecCnt u) + 1)))) ∧
    (u < 4 → s.on Reg.sysModeSplit = true → exec (.comparatorMismatch u port) s = .next s ∧
      exec (.delayPar u port) s = .next s ∧ exec (.compFail u) s = .next s) ∧
    (∀ d, s.on Reg.lckDiagCtrlStateSigEn = false → exec (.stateSigCompare d) s = .next (toPhase 205000 s)) ∧
    (s.on Reg.lckDiagCtrlStateSigEn = true → s.taint = false →
      exec (.stateSigCompare 0) s = .next (toPhase 205000 s) ∧
      (u < 7 → unitActs s u = true → leads (.stateSigCompare (2 ^ u)) s (fun t => memKept s t ∧ hasFailed 4 u t))) ∧
    (∀ f x, s.on Reg.lckDiagCtrlInjectEn = false →
      exec (.injectedComparatorTest f x) s = .next (toPhase 224000 s)) ∧
    (s.on Reg.lckDiagCtrlInjectEn = true →
      leads (.injectedComparatorTest 0 0) s (fun t => memKept s t ∧ t.on Reg.lckTestLastOk = true ∧
        t.get Reg.lckTestUnitsFailed = 0 ∧ t.role = s.role ∧ t.held = s.held) ∧
      (unitCompares s u = true → leads (.injectedComparatorTest (2 ^ u) 0) s (fun t => memKept s t ∧
        hasFailed 5 u t ∧ t.on Reg.lckTestLastOk = false ∧ t.get Reg.lckTestUnitsFailed = 2 ^ u))) ∧
    (s.taint = true → exec .debugAccess s = .next s) ∧
    (s.taint = false → leads .debugAccess s (fun t => memKept s t ∧ t.taint = true ∧ t.on Ev.lckTaint.flag = true ∧
      t.on Reg.lckStatusGuarantee = false ∧
      (s.bench = false → s.held = true → goodStandby s = true → t.role = roleStandby ∧ t.held = false ∧
        t.on Reg.hhkPairStatusArmed = false)))

/-- BEGIN at the owner takes the lock under the session's certificate and empties the inactive slot; under another's
lock it is BUSY. TRANSFER appends the contiguous chunk. INSTALL of a whole bundle that verifies makes the other slot
ACTIVE in TRIAL, one that does not is VERIFY_FAILED. CONFIRM of a healthy trial marks its slot CONFIRMED and raises
the counter to its version. ABORT in RECEIVING drops the bundle and the lock. GROUP_UPDATE outside the owner is
STATE_CONFLICT. (R470, R458, R459, R463, R464, R446, R452) -/
def Obligations.UpdateCommands : Prop :=
  ∀ (i a b : Nat) (r : Req) (s : State), s.sec.active = a → a < 2 → b = 1 - a → s.sec.slots.length = 2 →
    (requestOk 8 1 noPayload i r s = true → answers (.updateGetStatus r) 8 1 i r s (fun p u => u = s ∧
      leAt p 0 1 = s.sec.upd % 256 ∧ leAt p 1 1 = a ∧ leAt p 2 1 = (s.slot 0).state % 256 ∧
      leAt p 3 1 = (s.slot 1).state % 256)) ∧
    (requestOk 8 2 (exactly 60) i r s = true → leAt r.payload 0 1 ≤ 7 → leAt r.payload 1 3 = 0 →
      (leAt r.payload 4 4 = 0 ∨ (60 ≤ leAt r.payload 4 4 ∧ leAt r.payload 4 4 ≤ 86400)) →
      leAt r.payload 8 4 ≤ bundleMax →
      (s.sec.lock = none → beginOpen s = true → isOwner s = true → answers (.updateBegin r) 8 2 i r s (fun p u =>
        p = leBytes 1 b ++ zeros 7 ∧ u.sec.upd = updReceiving ∧ u.sec.lock = some (s.sess i).subject ∧
        u.sec.recv = [] ∧ u.sec.total = leAt r.payload 8 4 ∧ (u.slot b).state = slotEmpty ∧
        u.slot a = s.slot a ∧ u.sec.active = a ∧ u.on Reg.secStatusLock = true ∧ memKept s u)) ∧
      (∀ x, s.sec.lock = some x → x ≠ (s.sess i).subject →
        answersErr (.updateBegin r) 8 2 i r s stBusy noField (fun u => u.sec = s.sec ∧
          u.on Ev.secLockBusy.flag = true ∧ memKept s u)) ∧
      (s.sec.lock = none → beginOpen s = false →
        answersErr (.updateBegin r) 8 2 i r s stStateConflict noField (fun u => u = s))) ∧
    (∀ chunk, requestOk 8 3 (fun n => decide (9 ≤ n) && decide (n ≤ 1048576)) i r s = true →
      r.payload.drop 8 = chunk → leAt r.payload 4 4 = 0 → s.sec.lock = some (s.sess i).subject →
      s.sec.upd = updReceiving →
      (leAt r.payload 0 4 = s.sec.recv.length → s.sec.recv.length + chunk.length ≤ s.sec.total →
        answers (.updateTransfer r) 8 3 i r s (fun p u => p = [] ∧ u.sec.recv = s.sec.recv ++ chunk ∧
          u.sec.slots = s.sec.slots ∧ (ringsIdle i s = true → u.regs = s.regs ∧ memKept s u))) ∧
      (leAt r.payload 0 4 ≠ s.sec.recv.length →
        answersErr (.updateTransfer r) 8 3 i r s stOutOfRange 0 (fun u => u = s))) ∧
    (requestOk 8 4 noPayload i r s = true → s.sec.lock = some (s.sess i).subject →
      (received s = true → groupUpdating s = false → bootExhausted s = false →
        if (judgeBundle s).1 = true then answers (.updateInstall r) 8 4 i r s (fun p u => p = [] ∧
          u.sec.upd = updInstalled ∧ u.sec.active = b ∧ (u.slot b).state = slotTrial ∧ u.slot a = s.slot a ∧
          u.sec.restartDue = true ∧ (ringsIdle i s = true → memKept s u))
        else answersErr (.updateInstall r) 8 4 i r s stVerifyFailed noField (fun u => u.sec = s.sec ∧
          (ringsIdle i s = true → memKept s u))) ∧
      (received s = false →
        answersErr (.updateInstall r) 8 4 i r s stStateConflict noField (fun u => u = s))) ∧
    (requestOk 8 5 noPayload i r s = true → s.sec.lock = some (s.sess i).subject → (s.slot a).secver < 256 →
      (healthy s = true → answers (.updateConfirm r) 8 5 i r s (fun p u =>
        p = leBytes 1 (u.get Reg.secStatusCounter) ++ zeros 3 ∧
        u.get Reg.secStatusCounter = max (s.get Reg.secStatusCounter) (s.slot a).secver ∧
        u.sec.upd = updConfirmed ∧ (u.slot a).state = slotConfirmed ∧ u.on Reg.secStatusTrial = false ∧ memKept s u)) ∧
      (healthy s = false → answersErr (.updateConfirm r) 8 5 i r s stStateConflict noField (fun u => u = s))) ∧
    (requestOk 8 6 noPayload i r s = true →
      (s.sec.upd = updReceiving → answers (.updateAbort r) 8 6 i r s (fun p u => p = [] ∧ u.sec.upd = updIdle ∧
        u.sec.lock = none ∧ u.sec.recv = [] ∧ u.sec.active = a ∧ memKept s u)) ∧
      (s.sec.upd = updIdle → answersErr (.updateAbort r) 8 6 i r s stStateConflict noField (fun u => u = s))) ∧
    (requestOk 8 7 noPayload i r s = true → s.sec.lock = some (s.sess i).subject →
      (isOwner s = true → received s = true → bitOf s.sec.newFlags 2 = true → groupUpdating s = false →
        memberSyncing s = false → s.prog.state ≠ .changing → admitters s ≠ [] → bootExhausted s = false →
        if (judgeBundle s).1 = true then holds (.updateGroupUpdate r) 8 7 i r s (fun u => u.sec.groupStep = 1 ∧
          u.sec.slots = s.sec.slots ∧ memKept s u)
        else answersErr (.updateGroupUpdate r) 8 7 i r s stVerifyFailed noField (fun u =>
          u.sec = s.sec ∧ (ringsIdle i s = true → memKept s u))) ∧
      (isOwner s = false → answersErr (.updateGroupUpdate r) 8 7 i r s stStateConflict noField (fun u => u = s)))

/-- A second after INSTALL a warm reset of cause 2 is requested. A healthy trial with AUTO_CONFIRM is confirmed; one
that is not healthy is not. At the end of the window a trial at a module that does not own falls back: the old slot
is ACTIVE again, the trial's is REJECTED and a warm reset is requested; the owner with a good STANDBY names a
handover first, and after 1 s falls back at once. The lock of a transfer whose holder has gone is released and the
bundle dropped. (R458, R459, R460, R463, R452, R346) -/
def Obligations.TrialsEnd : Prop :=
  ∀ (a b : Nat) (s : State), s.sec.active = a → a < 2 → b = 1 - a → s.sec.slots.length = 2 →
    (s.sec.upd = updInstalled → s.sec.restartDue = true → leads .installRestart s (fun t => t.pwr.warmDue = 2 ∧
      t.sec.restartDue = false ∧ t.regs = s.regs ∧ memKept s t)) ∧
    (s.sec.restartDue = false → exec .installRestart s = .next s) ∧
    (healthy s = true → s.sec.groupStep = 0 →
      (autoConfirm s = true → leads .trialHealthy s (fun t => t.sec.upd = updConfirmed ∧
        (t.slot a).state = slotConfirmed ∧ t.sec.lock = none ∧ t.on Ev.secConfirmed.flag = true ∧ memKept s t)) ∧
      (autoConfirm s = false → exec .trialHealthy s = .next s)) ∧
    (healthy s = false → exec .trialHealthy s = .next s) ∧
    (s.sec.upd = updTrial → windowOpen s = false →
      (s.held = false → leads .trialWindowExpiry s (fun t => t.sec.upd = updFallback ∧ t.sec.active = b ∧
        (t.slot a).state = slotRejected ∧ t.pwr.warmDue = 2 ∧ t.on Reg.secStatusTrial = false ∧ memKept s t)) ∧
      (s.held = true → goodStandby s = true → handoverRefused s = false → leads .trialWindowExpiry s (fun t =>
        t.pair.handover = some (nameFrame s) ∧ t.sec.fallDue = true ∧ t.sec.active = a ∧ memKept s t))) ∧
    (s.sec.upd ≠ updTrial ∨ windowOpen s = true → exec .trialWindowExpiry s = .next s) ∧
    (s.sec.fallDue = true → leads .trialHandoverTimeout s (fun t => t.sec.active = b ∧ t.pwr.warmDue = 2 ∧
      t.pair.handover = none ∧ t.sec.fallDue = false ∧ memKept s t)) ∧
    (s.sec.fallDue = false → exec .trialHandoverTimeout s = .next s) ∧
    (s.sec.upd = updReceiving → (List.range 16).any (fun i => s.on (Reg.mbxSessOpen i) &&
        s.sec.lock == some (s.sess i).subject) = false →
      leads .updateLockExpiry s (fun t => t.sec.upd = updIdle ∧ t.sec.lock = none ∧ t.sec.recv = [] ∧
        t.sec.active = a ∧ memKept s t)) ∧
    (s.sec.upd ≠ updReceiving → exec .updateLockExpiry s = .next s)

/-- GET_STATE shows the root-key slots and the counter. SET_TRUST_ANCHORS replaces the entries of its KIND where
every anchor is acceptable, else VERIFY_FAILED. LOAD_CRL keeps one CRL per issuer. ENROL returns a request, takes a
chain, or is STATE_CONFLICT without an EST server. SET_ROLE_MAP writes the role. REVOKE_ROOT_SLOT sets the slot's
bit, but not of the running bundle. ROTATE_GROUP_KEYS at the owner advances KEY_EPOCH. A fuse digest that differs is
class 0x0E. (R471, R472, R473, R444, R454, R455, R456) -/
def Obligations.SecurityCommands : Prop :=
  ∀ (i : Nat) (r : Req) (s : State),
    (requestOk 10 1 noPayload i r s = true → answers (.securityGetState r) 10 1 i r s (fun p u => u = s ∧
      leAt p 4 1 = s.get Reg.secStatusCounter ∧ ∀ n, n < 4 → leAt p n 1 =
        (if bitOf (s.get Reg.secStatusRootPresent) n then 1 else 0) +
          (if bitOf (s.get Reg.secStatusRootRevoked) n then 2 else 0))) ∧
    (∀ kind l, requestOk 10 2 (fun n => decide (4 ≤ n)) i r s = true → leAt r.payload 0 1 = kind → 1 ≤ kind →
      kind ≤ 3 → leAt r.payload 1 1 ≤ 8 → leAt r.payload 2 2 = 0 → s.sec.anchors.length = 3 →
      lenEntries (leAt r.payload 1 1) (r.payload.drop 4) = some l →
      if l.all (Config.anchorOk kind) = true then
        answers (.securitySetTrustAnchors r) 10 2 i r s (fun p u => p = [] ∧ u.regs = s.regs ∧ memKept s u ∧
          ∀ k, k < 3 → u.sec.anchors.getD k [] = if k + 1 = kind then l else s.sec.anchors.getD k [])
      else answersErr (.securitySetTrustAnchors r) 10 2 i r s stVerifyFailed noField (fun u => u = s)) ∧
    (requestOk 10 3 (fun n => decide (1 ≤ n) && decide (n ≤ 1048576)) i r s = true → (heldCrls s).length < 8 →
      match Config.crlIssuer (s.sec.anchors.getD 0 []) r.payload with
      | none => answersErr (.securityLoadCrl r) 10 3 i r s stVerifyFailed noField (fun u => u = s)
      | some c => answers (.securityLoadCrl r) 10 3 i r s (fun p u => p = [] ∧ u.regs = s.regs ∧ memKept s u ∧
          heldCrls u = (heldCrls s).filter (fun x => Config.crlIssuer (s.sec.anchors.getD 0 []) x != some c)
            ++ [r.payload])) ∧
    (requestOk 10 4 (fun n => decide (4 ≤ n)) i r s = true → leAt r.payload 1 3 = 0 →
      (leAt r.payload 0 1 = 0 → r.payload.length = 4 → answers (.securityEnrol r) 10 4 i r s (fun p u =>
        p = Config.certRequest s.sec.serial (storedForm s objSec) s.freeCtr ∧ u.sec = s.sec ∧ u.regs = s.regs ∧
        memKept s u)) ∧
      (leAt r.payload 0 1 = 1 → 5 ≤ r.payload.length → match Config.chainNotAfter (r.payload.drop 4) with
        | some t => answers (.securityEnrol r) 10 4 i r s (fun p u => p = [] ∧ u.sec.oper = r.payload.drop 4 ∧
            u.sec.notAfter = t ∧ u.regs = s.regs ∧ memKept s u)
        | none => answersErr (.securityEnrol r) 10 4 i r s stVerifyFailed noField (fun u => u.sec = s.sec ∧
            u.on Ev.secEnrolFail.flag = true ∧ memKept s u)) ∧
      (leAt r.payload 0 1 = 2 → r.payload.length = 4 → leAt (storedForm s objSec) 6 1 = 0xFF →
        answersErr (.securityEnrol r) 10 4 i r s stStateConflict noField (fun u => u = s)) ∧
      (leAt r.payload 0 1 = 2 → r.payload.length = 4 → leAt (storedForm s objSec) 6 1 ≠ 0xFF → clientRuns s = true →
        holds (.securityEnrol r) 10 4 i r s (fun u => assoc u.sec.enrol (s.get Reg.sysPositionSlotId) = 1 ∧
          u.regs = s.regs ∧ memKept s u))) ∧
    (requestOk 10 5 (exactly 4) i r s = true → sleAt r.payload 0 2 < 0 → leAt r.payload 2 2 = 0 →
      answers (.securitySetRoleMap r) 10 5 i r s (fun p u => p = [] ∧ u.regs = s.regs ∧ memKept s u ∧
        leAt (storedForm u objSec) 4 2 = leAt r.payload 0 2 ∧
        leAt (storedForm u objSec) 0 4 = (leAt (storedForm s objSec) 0 4 + 1) % 2 ^ 32)) ∧
    (∀ n, requestOk 10 6 (exactly 12) i r s = true → leAt r.payload 0 1 = n → n < 4 → leAt r.payload 1 3 = 0 →
      (r.payload.drop 4).take 8 = (s.sec.roots.getD n []).take 8 →
      ((s.slot (s.get Reg.secStatusSlot)).rootSlot ≠ n → withBit (s.get Reg.secStatusRootRevoked) n true ≠ 15 →
        answers (.securityRevokeRootSlot r) 10 6 i r s (fun p u => p = [] ∧ memKept s u ∧
          (∀ m, m < 4 → bitOf (u.get Reg.secStatusRootRevoked) m =
            (bitOf (s.get Reg.secStatusRootRevoked) m || m == n)) ∧ u.on Ev.secRootRevoked.flag = true)) ∧
      ((s.slot (s.get Reg.secStatusSlot)).rootSlot = n →
        answersErr (.securityRevokeRootSlot r) 10 6 i r s stStateConflict noField (fun u => u = s))) ∧
    (requestOk 10 7 noPayload i r s = true →
      (isOwner s = true → answers (.securityRotateGroupKeys r) 10 7 i r s (fun p u =>
        p = leBytes 2 (u.get Reg.hhkStatusKeyEpoch) ++ zeros 6 ∧ memKept s u ∧
        u.get Reg.hhkStatusKeyEpoch = (s.get Reg.hhkStatusKeyEpoch + 1) % 65536 ∧ ∀ p, p < 2 → u.hhk.oldKeys.any (fun q => q.1 == facedSlot s p) = true)) ∧
      (isOwner s = false → answersErr (.securityRotateGroupKeys r) 10 7 i r s stStateConflict noField
        (fun u => u = s))) ∧
    exec (.otpDigestCheck true) s = .next s ∧
    leads (.otpDigestCheck false) s (fun t => hasFailed 0x0E 0xFF t ∧ memKept s t) ∧
    (clientRuns s = false → ∀ n x, exec (.enrolRenewal n x) s = .next s) ∧
    (clientRuns s = true → ∀ n c t0, n ≠ s.get Reg.sysPositionSlotId → leads (.enrolRenewal n (some (c, t0))) s
      (fun t => t.outbox = s.outbox ++ framesOf (waysOf s "FORWARD") "FORWARD" 0 (17 :: n :: t0 :: asNats c) ∧ assoc t.sec.enrol n = 0 ∧
        t.regs = s.regs ∧ memKept s t)) ∧
    (clientRuns s = true → ∀ c t0, leads (.enrolRenewal (s.get Reg.sysPositionSlotId) (some (c, t0))) s
      (fun t => t.sec.oper = c ∧ t.sec.notAfter = t0 ∧ assoc t.sec.enrol (s.get Reg.sysPositionSlotId) = 0 ∧
        ((∀ i, i < 16 → ringsIdle i s = true) → memKept s t)))

/-- LIST answers the records from FROM_ID on in entries of 48 bytes; EXPORT of a sound record is held, of a damaged
one STORAGE, of none OUT_OF_RANGE; DELETE removes a record that is not being read. LOG_EVENT of a Petal task enters
source 1 with its engine, and severity 3 whatever the budget. READ_LOG gives 96 bytes per entry. GET_SUMMARY is 64
bytes; READ_RECORDS is held; ADD_NOTE answers its SEQ. A second refills 100 log entries to 10000; an hour is
counted. (R495, R488, R489, R496, R493, R494, R490, R486) -/
def Obligations.ArchiveLogAndLifetime : Prop :=
  ∀ (i : Nat) (r : Req) (s : State),
    (∀ n l, requestOk 9 1 (exactly 8) i r s = true → leAt r.payload 4 1 = n → 1 ≤ n → n ≤ 64 → leAt r.payload 5 3 = 0 →
      l = (s.nvs.arch.filter (fun a => decide (leAt r.payload 0 4 ≤ a.id))).length →
      answers (.archiveList r) 9 1 i r s (fun p u => u = s ∧ leAt p 0 1 = min n l ∧ p.length = 8 + 48 * min n l)) ∧
    (requestOk 9 2 (exactly 12) i r s = true →
      (∀ a, archRec s (leAt r.payload 0 4) = some a → leAt r.payload 4 4 + leAt r.payload 8 4 ≤ a.content.length →
        (a.damaged = false → holds (.archiveExport r) 9 2 i r s (fun u => u.regs = s.regs ∧ memKept s u ∧
          u.nvs.reading = a.id :: s.nvs.reading ∧ u.nvs.arch = s.nvs.arch)) ∧
        (a.damaged = true → answersErr (.archiveExport r) 9 2 i r s stStorage noField (fun u => u = s))) ∧
      (archRec s (leAt r.payload 0 4) = none →
        answersErr (.archiveExport r) 9 2 i r s stOutOfRange 0 (fun u => u = s))) ∧
    (∀ id, requestOk 9 3 (exactly 8) i r s = true → leAt r.payload 0 4 = id → leAt r.payload 4 4 = 0 →
      (archRec s id).isSome = true →
      (id ∉ s.nvs.reading → s.on Reg.nvsStatusArchRo = false → answers (.archiveDelete r) 9 3 i r s (fun p u => p = [] ∧
        u.nvs.arch = s.nvs.arch.filter (fun a => a.id != id) ∧ archRec u id = none ∧ memKept s u)) ∧
      (id ∈ s.nvs.reading → answersErr (.archiveDelete r) 9 3 i r s stStateConflict noField (fun u => u = s))) ∧
    (∀ e sev, petalOk 9 4 (fun n => decide (4 ≤ n) && decide (n ≤ 48)) e r s = true → leAt r.payload 0 2 ≤ 0x7FFF →
      leAt r.payload 2 1 = sev → sev ≤ 3 → leAt r.payload 3 1 = 0 → s.nvs.log.length < 696320 →
      (sev = 3 ∨ (s.nvs.budget ≠ 0 ∧ s.nvs.suppressed = 0)) → leads (.archiveLogEvent r) s (fun t => memKept s t ∧
        t.nvs.log = s.nvs.log ++ [⟨s.nvs.logNext, s.now, 1, sev, leAt r.payload 0 2, s.role, e, r.payload.drop 4⟩] ∧
        t.nvs.budget = (if sev = 3 then s.nvs.budget else s.nvs.budget - 1))) ∧
    (∀ n l, requestOk 9 5 (exactly 8) i r s = true → leAt r.payload 4 1 = n → 1 ≤ n → n ≤ 128 →
      leAt r.payload 5 3 = 0 → l = (s.nvs.log.filter (fun e => decide (leAt r.payload 0 4 ≤ e.seq))).length →
      answers (.archiveReadLog r) 9 5 i r s (fun p u => u = s ∧ leAt p 0 1 = min n l ∧ p.length = 8 + 96 * min n l)) ∧
    (requestOk 16 1 noPayload i r s = true → answers (.lifetimeGetSummary r) 16 1 i r s (fun p u => u = s ∧
      p.length = 64 ∧ leAt p 0 4 = s.nvs.hours % 2 ^ 32 ∧ leAt p 4 4 = s.nvs.coldStarts % 2 ^ 32)) ∧
    (requestOk 16 2 (exactly 8) i r s = true →
      (1 ≤ leAt r.payload 4 4 → leAt r.payload 4 4 ≤ 1048576 → holds (.lifetimeReadRecords r) 16 2 i r s (fun u =>
        u.regs = s.regs ∧ memKept s u ∧ u.nvs.life = s.nvs.life ∧ u.nvs.transfers.length = s.nvs.transfers.length + 1)) ∧
      (leAt r.payload 4 4 = 0 → answersErr (.lifetimeReadRecords r) 16 2 i r s stOutOfRange 4 (fun u => u = s))) ∧
    (requestOk 16 3 (fun n => decide (1 ≤ n) && decide (n ≤ 48)) i r s = true →
      (utf8From 0 0x80 0xBF r.payload = true → lifeFull s = false → answers (.lifetimeAddNote r) 16 3 i r s (fun p u =>
        p = leBytes 4 s.nvs.life.length ∧ memKept s u ∧ u.nvs.life = s.nvs.life ++
          [⟨s.nvs.life.length, s.now, 9, (r.payload ++ zeros 48).take 48⟩])) ∧
      (utf8From 0 0x80 0xBF r.payload = true → lifeFull s = true →
        answersErr (.lifetimeAddNote r) 16 3 i r s stStorage noField (fun u => u = s)) ∧
      (utf8From 0 0x80 0xBF r.payload = false →
        answersErr (.lifetimeAddNote r) 16 3 i r s stOutOfRange 0 (fun u => u = s))) ∧
    leads .logFlush s (fun t => t.nvs.unflushed = 0 ∧ t.nvs.log = s.nvs.log ∧
      (∀ n, n / 0x10000 ≠ 0xD → t.reg n = s.reg n) ∧ memKept s t) ∧
    leads .logBudgetRefill s (fun t => t.nvs.budget = min 10000 (s.nvs.budget + 100) ∧ t.regs = s.regs ∧ memKept s t) ∧
    (∀ a b, leads (.lifetimeHours a b) s (fun t => t.nvs.hours = s.nvs.hours + 1 ∧ t.nvs.hourMin = none ∧
      t.nvs.hourMax = none ∧ memKept s t ∧
      (lifeFull s = false → t.nvs.life.length = s.nvs.life.length + 1) ∧ (lifeFull s = true → t.nvs.life = s.nvs.life))) ∧
    leads .nandWear s (fun t => memKept s t ∧ (s.nvs.life.length < 1048576 → t.nvs.life.length = s.nvs.life.length + 1) ∧
      ∀ n, n < 6 → t.get (Reg.nvsRegWearMaxPe n) = maxPe s n % 65536 ∧ t.get (Reg.nvsRegWearMeanPe n) = meanPe s n % 65536)

/-- The DRAM scrubber reads line after line; a line with errors within the correction sets DRAM_CE and MAX_SYM, one
beyond it makes the module FAILED with class 0x0C; an uncorrectable SRAM word with 0x0A. A disabled scrubber does
nothing; a late pass sets its flag. Bit 31 empties the log. The sweep shows its progress and counts its passes; a
retiring block takes a spare of its pool, or with none left exhausts the copy or makes ARCH read-only. (R412, R414,
R416, R420, R422, R423, R424, R426, R479, R481, R483, R484) -/
def Obligations.ScrubbingAndRetirement : Prop :=
  ∀ (s : State),
    (∀ bad w, s.on Reg.lckDiagCtrlDramScrubEn = false → exec (.dramScrubRead bad w) s = .next s) ∧
    (∀ bad w, s.on Reg.lckDiagCtrlDramScrubEn = true →
      (lineErrors s bad = [] → leads (.dramScrubRead bad w) s (fun t => memKept s t ∧ t.role = s.role ∧
        t.held = s.held ∧ t.on Reg.memStatusDscrubOn = true ∧
        t.get Reg.memDscrubPosLine = (s.get Reg.memDscrubPosLine + 1) % 2 ^ 27)) ∧
      (lineErrors s bad ≠ [] → correctable s (lineErrors s bad).length = true →
        leads (.dramScrubRead bad w) s (fun t => memKept s t ∧ t.on Ev.memDramCe.flag = true ∧
          t.get Reg.memMaxSymMaxSym = max (s.get Reg.memMaxSymMaxSym) (lineErrors s bad).length ∧
          t.get Reg.memDscrubPosLine = (s.get Reg.memDscrubPosLine + 1) % 2 ^ 27)) ∧
      (lineErrors s bad ≠ [] → correctable s (lineErrors s bad).length = false →
        leads (.dramScrubRead bad w) s (fun t => memKept s t ∧ t.on Ev.memDramUe.flag = true ∧
          t.get Reg.memStatusState = memExhausted ∧ hasFailed 0x0C 0xFF t))) ∧
    (s.on Reg.lckDiagCtrlDramScrubEn = true → s.memi.passStart + 3600000000000 ≤ s.mono →
      leads .dramScrubLate s (fun t => memKept s t ∧ t.role = s.role ∧ t.on Ev.memDramScrubLate.flag = true)) ∧
    (s.on Reg.lckDiagCtrlSramScrubEn = true → s.memi.sramStart + 10000000000 ≤ s.mono →
      leads .sramScrubLate s (fun t => memKept s t ∧ t.role = s.role ∧ t.on Ev.memSramScrubLate.flag = true)) ∧
    (s.on Reg.lckDiagCtrlDramScrubEn = false ∨ s.mono < s.memi.passStart + 3600000000000 →
      exec .dramScrubLate s = .next s) ∧
    (s.on Reg.lckDiagCtrlSramScrubEn = false ∨ s.mono < s.memi.sramStart + 10000000000 →
      exec .sramScrubLate s = .next s) ∧
    (∀ m n o w d, s.on Reg.lckDiagCtrlSramScrubEn = false → exec (.sramScrubRead m n o w d) s = .next s) ∧
    (∀ m n w d, s.on Reg.lckDiagCtrlSramScrubEn = true →
      leads (.sramScrubRead m n 0 w d) s (fun t => memKept s t ∧ t.role = s.role ∧ t.held = s.held ∧
        t.get Reg.memSramCeCnt = s.get Reg.memSramCeCnt) ∧
      leads (.sramScrubRead m n 1 w d) s (fun t => memKept s t ∧ t.role = s.role ∧ t.held = s.held ∧
        t.on Ev.memSramCe.flag = true) ∧
      leads (.sramScrubRead m n 2 w d) s (fun t => memKept s t ∧ t.on Ev.memSramUe.flag = true ∧
        hasFailed 0x0A 0xFF t)) ∧
    (∀ v, (bitOf v 31 = true → leads (.memLogClear v) s (fun t => memKept s t ∧ t.get Reg.memLogStatCount = 0 ∧
        t.get Reg.memLogStatOldest = 0 ∧ t.role = s.role)) ∧
      (bitOf v 31 = false → exec (.memLogClear v) s = .next s)) ∧
    (∀ x : SweepPage, s.on Reg.lckDiagCtrlNandSweepEn = false ∨ 6 ≤ x.copy → exec (.nandSweepRead x) s = .next s) ∧
    (∀ (x : SweepPage) p b, s.on Reg.lckDiagCtrlNandSweepEn = true → x.copy < 6 → p = nandPool x.copy x.package →
      b = s.nvs.nand.blk p x.block →
      (b.pages[x.page]? = none → x.passDone = false → leads (.nandSweepRead x) s (fun t => memKept s t ∧
        t.role = s.role ∧ t.get Reg.nvsStatusSweepPct = min 100 x.percent ∧ t.on Reg.nvsStatusSweepOn = true ∧
        t.nvs = s.nvs)) ∧
      (x.passDone = true → leads (.nandSweepRead x) s (fun t => memKept s t ∧
        t.get Reg.nvsStatusSweepPct = 0 ∧ t.nvs.sweepStart = s.mono ∧
        t.get Reg.nvsSweepPassCnt = (s.get Reg.nvsSweepPassCnt + 1) % 2 ^ 32)) ∧
      (∀ g q, b.pages[x.page]? = some g → q = readLadder b.off x.read → leads (.nandSweepRead x) s (fun t =>
        memKept s t ∧ t.role = s.role ∧
        t.get Reg.nvsMaxBitsBits = max (s.get Reg.nvsMaxBitsBits) (min 255 q.2.2) ∧
        (q.1 = 3 → t.on Ev.nvsSoftRead.flag = true) ∧ (q.1 = 4 → t.on Ev.nvsUncorrectable.flag = true) ∧
        (x.fails = true → x.copy < 4 → s.nvs.spare.getD x.copy 0 = 0 →
          bitOf (t.get Reg.nvsStatusExhausted) x.copy = true) ∧
        (x.fails = true → x.copy = 4 → s.nvs.spare.getD (4 + x.package % 2) 0 = 0 →
          t.on Reg.nvsStatusArchRo = true) ∧
        (x.fails = true → s.nvs.spare.getD (poolOf x.copy x.package) 0 ≠ 0 → t.on Ev.nvsBlockRetired.flag = true) ∧
        (x.copy < 5 → q.1 ≤ 3 → (∀ c ∈ s.nvs.nand.used p, c.pe + 1 < nandEndurance) →
          (x.fails = true → s.nvs.spare.getD p 0 ≠ 0 → t.nvs.spare.getD p 0 = s.nvs.spare.getD p 0 - 1) ∧
          (∀ d, x.fails = false → refreshDue { b with reads := b.reads + 1, off := q.2.1 } q.1 q.2.2 s.mono = true →
            s.nvs.nand.freeBlock p = some d → (t.nvs.nand.blk p x.block).pe = b.pe + 1 ∧
              (t.nvs.nand.blk p x.block).pages = []))))) ∧
    (s.on Reg.lckDiagCtrlNandSweepEn = true → s.nvs.sweepStart + 30 * 86400 * nsPerS ≤ s.mono →
      leads .sweepLate s (fun t => memKept s t ∧ t.role = s.role ∧ t.on Ev.nvsSweepLate.flag = true)) ∧
    (s.on Reg.lckDiagCtrlNandSweepEn = false ∨ s.mono < s.nvs.sweepStart + 30 * 86400 * nsPerS →
      exec .sweepLate s = .next s)

/-- A trim with valid time leaves the counter within half a tick of TIME, or where it stands below 16 us, and clears
TIME_LOST. An alarm at or past fires at once with SKIPPED; a tick that reaches it fires it and clears ARM. A day
boundary advances the weekday. PARK is refused while OWN is held, else pending, and off after 2 s. At most two
thermal restarts precede a third within 24 h. BYTES writes keep the CRC; INIT zeroes. A dip sets TIME_LOST and
clears BYTES_OK. (R499, R500, R503, R504, R506, R507, R508, R509, R511, R512) -/
def Obligations.TheBackupDomain : Prop :=
  ∀ (s : State),
    (s.on Reg.timStatusValid = false ∨ atWholeSecond s = false → exec .bkdTrim s = .next s) ∧
    (s.on Reg.timStatusValid = true → atWholeSecond s = true → s.now + 1000000000 < 2 ^ 48 * 1000000000 → leads .bkdTrim s (fun t => memKept s t ∧
      t.on Reg.bkdStatusTimeLost = false ∧ t.on Reg.bkdStatusTrimmed = true ∧ t.now = s.now ∧
      t.bkdTicks = (if ((((s.bkdNs : Int) - s.wholeSecond) / 1000).natAbs < 16) then s.bkdTicks
          else ticksNear s.wholeSecond))) ∧
    (s.on Reg.bkdAlarmHiArm = true → s.bkdTicks < s.bkdAlarm * 32768 → leads .bkdAlarmFire s (fun t => memKept s t ∧
      t.bkdTicks = s.bkdAlarm * 32768 ∧ t.on Ev.bkdAlarm.flag = true ∧ t.on Reg.bkdAlarmHiArm = false)) ∧
    (s.on Reg.bkdAlarmHiArm = false → exec .bkdAlarmFire s = .next s) ∧
    (s.bkdSeconds + 172800 < 2 ^ 48 → leads .weekdayAdvance s (fun t => memKept s t ∧
      t.get Reg.bkdWdWd = nextWeekday (s.get Reg.bkdWdWd) ∧ t.get Reg.bkdFracFrac = 0 ∧
      (t.bkdSeconds + s.get Reg.bkdWdWdOffset) % 86400 = 0 ∧ s.bkdSeconds < t.bkdSeconds)) ∧
    (∀ v a, a = v % 65536 * 2 ^ 32 + s.get Reg.bkdAlarmLoAlarmLo →
      (bitOf v 31 = true → a * 32768 ≤ s.bkdTicks → leads (.bkdAlarmHiWrite v) s (fun t => memKept s t ∧
        t.on Ev.bkdAlarm.flag = true ∧ t.on Ev.bkdSkipped.flag = true ∧ t.on Reg.bkdAlarmHiArm = false ∧
        t.bkdAlarm = a)) ∧
      (bitOf v 31 = false ∨ s.bkdTicks < a * 32768 → leads (.bkdAlarmHiWrite v) s (fun t => memKept s t ∧
        t.bkdAlarm = a ∧ t.on Reg.bkdAlarmHiArm = bitOf v 31 ∧ t.on Reg.bkdAlarmHiWake = bitOf v 30))) ∧
    (∀ v, leads (.bkdAlarmLoWrite v) s (fun t => memKept s t ∧ t.get Reg.bkdAlarmLoAlarmLo = v % 2 ^ 32 ∧
      t.on Reg.bkdAlarmHiArm = false)) ∧
    (∀ v, leads (.bkdWdWrite v) s (fun t => memKept s t ∧ t.get Reg.bkdWdWd = v % 8 ∧ t.get Reg.bkdWdWdOffset =
      (if v / 8 % 131072 ≤ 86399 then v / 8 % 131072 else s.get Reg.bkdWdWdOffset))) ∧
    (s.held = true → leads .park s (fun t => memKept s t ∧ t.on Ev.bkdParkRefused.flag = true ∧
      t.get Reg.bkdPwrState = s.get Reg.bkdPwrState)) ∧
    (s.held = false → s.get Reg.bkdPwrState = 0 → leads .park s (fun t => memKept s t ∧ t.get Reg.bkdPwrState = 1 ∧
      t.on Reg.bkdStatusParkPending = true ∧ t.nvs.unflushed = 0)) ∧
    (s.get Reg.bkdPwrState = 1 → s.bkd.parkAt + 2000000000 ≤ s.mono → leads .parkTimeout s (fun t => memKept s t ∧ t.get Reg.bkdPwrState = 2 ∧
      t.get Reg.bkdPwrLastOff = 1 ∧ t.on Reg.bkdStatusParkPending = false ∧ t.held = false ∧ t.fio.drive = .off)) ∧
    (s.get Reg.bkdPwrState ≠ 1 ∨ s.mono < s.bkd.parkAt + 2000000000 → exec .parkTimeout s = .next s) ∧
    (s.get Reg.bkdPwrState = 3 → s.on Reg.bkdPwrThermRestart = true →
      (thermalRestarts s < 3 → leads .thermalRestart s (fun t => memKept s t ∧ t.get Reg.bkdPwrState = 0 ∧
        t.get Reg.bkdPwrWakeCause = 3 ∧ t.get Reg.bkdPwrThermCnt = thermalRestarts s + 1 ∧
        leAt t.backup 28 4 = s.bkdSeconds % 2 ^ 32)) ∧
      (3 ≤ thermalRestarts s → exec .thermalRestart s = .next s)) ∧
    (∀ off d, leads (.bkdBytesWrite off d) s (fun t => memKept s t ∧ t.backup = patch s.backup off d ∧
      t.get Reg.bkdBytesCrcCrc = Config.backupCrc (patch s.backup off d) % 2 ^ 32)) ∧
    leads .bkdBytesInit s (fun t => memKept s t ∧ t.backup = zeros 64 ∧ t.on Reg.bkdStatusBytesOk = true) ∧
    (∀ a b c, leads (.supplyChange a b c) s (fun t => memKept s t ∧
      t.get Reg.bkdStatusSupply = (if 2900 ≤ a then 0 else if 2400 ≤ b then 1 else 2) ∧
      (t.get Reg.bkdStatusSupply ≠ s.get Reg.bkdStatusSupply → t.on Ev.bkdSupplyChange.flag = true))) ∧
    leads .bkdDip s (fun t => memKept s t ∧ t.on Reg.bkdStatusTimeLost = true ∧ t.on Reg.bkdStatusBytesOk = false ∧
      t.on Ev.bkdTimeLost.flag = true) ∧
    (s.get Reg.bkdStatusSupply = 2 → s.get Reg.bkdSupplyCellMv < 2200 → leads .cellLow s (fun t => memKept s t ∧ t.on Ev.bkdCellLow.flag = true)) ∧
    (s.get Reg.bkdStatusSupply ≠ 2 ∨ 2200 ≤ s.get Reg.bkdSupplyCellMv → exec .cellLow s = .next s) ∧
    leads .bkdPowerOn s (fun t => memKept s t ∧ t.bkdTicks = 0 ∧ t.on Reg.bkdStatusTimeLost = true ∧
      ∀ a, a / 0x10000 ≠ 14 → t.reg a = s.reg a)

/-- A cold reset empties memory, leaves role none, and keeps CONF, the backup counter and the installed unit; a warm
reset keeps TIME and memory outside the DRAM as well, closes every session and releases OWN. A warm request of a
module that holds OWN, and a domain that its role does not permit, set RST_REFUSED; otherwise the reset becomes due
and the permitted domain restarts, and a SYNCING or ALONE-standby module whose FABRIC, PEER or FIO domain restarted
is SYNCING again. A FAILED module with a restart due restarts unless three restarts lie within 60 min. (R523, R524,
R533, R552, R343, R508) -/
def Obligations.ResetsAndRestarts : Prop :=
  ∀ (s : State),
    (∀ cause, leads (.coldReset cause) s (fun t => t.role = roleNone ∧ t.held = false ∧ (∀ a, t.byte a = 0#8) ∧
      t.get Reg.pwrRstCauseLastType = 0 ∧ t.get Reg.pwrRstCauseColdCause = cause % 16 ∧ t.sec.fwUp = false ∧
      t.cfg.stored = s.cfg.stored ∧ t.bkdTicks = s.bkdTicks ∧ t.pending = s.pending ∧ t.prog.active = s.prog.active ∧
      t.prog.state = (if s.prog.active.isSome then .stopped else .empty))) ∧
    (∀ fl, leads (.warmReset fl) s (fun t => t.role = roleNone ∧ t.held = false ∧ t.get Reg.pwrRstCauseLastType = 1 ∧
      (∀ a, 0x200000000 ≤ a → t.byte a = s.byte a) ∧ (∀ a, a < 0x200000000 → t.byte a = 0#8) ∧ t.now = s.now ∧
      t.sec.fwUp = false ∧ t.pwr.warmDue = 0 ∧ (∀ i, i < 16 → t.on (Reg.mbxSessOpen i) = false) ∧
      (s.pwr.warmDue ≠ 0 → t.get Reg.pwrRstCauseWarmCause = s.pwr.warmDue % 16) ∧
      t.prog.active = s.prog.active ∧ t.prog.state = (if s.prog.active.isSome then .stopped else .empty) ∧
      ∀ x ∈ fl, x.source = 8 → x.dest = 2 →
        .resetEnd x.master (if isDma x.master then some stInternal else none) ∈ t.outbox)) ∧
    (s.held = true → leads .warmResetRequest s (fun t => t.on Ev.pwrRstRefused.flag = true ∧
      t.pwr.warmDue = s.pwr.warmDue ∧ t.role = s.role ∧ memKept s t)) ∧
    (s.held = false → leads .warmResetRequest s (fun t => t.pwr.warmDue = 4 ∧ t.regs = s.regs ∧ memKept s t)) ∧
    (∀ ok : Nat → Bool, (∀ d, ok d = (decide (d = 5 ∨ d = 6 ∨ d = 9) || (decide (d = 2 ∨ d = 7 ∨ d = 10) &&
        decide (s.role = roleNone ∨ s.role = roleSyncing ∨ s.role = roleAloneStandby ∨ s.role = roleFailed)))) →
      (∀ m, leads (.domainResetRequest m) s (fun t => memKept s t ∧ t.role = s.role ∧
        (∀ d, d < 12 → bitOf t.pwr.domainsDue d = (bitOf s.pwr.domainsDue d || (bitOf m d && ok d))) ∧
        (∀ d, d < 12 → bitOf m d = true → ok d = false → t.on Ev.pwrRstRefused.flag = true))) ∧
      (∀ d fl, ok d = false → leads (.perDomainReset d fl) s (fun t => memKept s t ∧ t.role = s.role ∧
        t.on Ev.pwrRstRefused.flag = true ∧ t.get Reg.pwrRstCauseLastType = s.get Reg.pwrRstCauseLastType)) ∧
      (∀ d fl, ok d = true → leads (.perDomainReset d fl) s (fun t => memKept s t ∧
        t.get Reg.pwrRstCauseLastType = 2 ∧ t.get Reg.pwrRstCauseDomains = 2 ^ d ∧
        bitOf t.pwr.domainsDue d = false ∧ t.role = (if s.role = roleAloneStandby ∧ (d = 2 ∨ d = 7 ∨ d = 10)
          then roleSyncing else s.role)))) ∧
    (∀ recent : Nat, recent = (if s.on Reg.bkdStatusBytesOk then ((List.range 3).filter (fun i =>
        decide (leAt s.backup (16 + 4 * i) 4 ≠ 0 ∧
          s.seconds % 2 ^ 32 - leAt s.backup (16 + 4 * i) 4 < 3600))).length else 0) →
      (s.role ≠ roleFailed ∨ s.pair.restartDue = false → exec .failedRestart s = .next s) ∧
      (s.role = roleFailed → s.pair.restartDue = true → recent < 3 → leads .failedRestart s (fun t => memKept s t ∧
        t.pwr.warmDue = 1 ∧ t.pair.restartDue = false ∧ leAt t.backup 16 4 = s.seconds % 2 ^ 32)) ∧
      (s.role = roleFailed → s.pair.restartDue = true → recent = 3 → leads .failedRestart s (fun t => memKept s t ∧
        t.pwr.warmDue = s.pwr.warmDue ∧ t.pair.restartDue = false ∧ t.regs = s.regs)))

/-- A GOOD feed that is lost or over voltage passes the load to the other, or with neither GOOD the module is FAILED
with 0x1D and LAST_OFF 3. Feed A qualifies while B carries, and returns. Seating latches the position; a break makes
a running module FAILED with 0x1C, its stages off and no restart due. At 105 degrees of the die THERM_WARN and the
MGMT cap act until 100. A thermal failure flushes the log and shuts down. AVS steps by 5 mV from 720 to 880 mV; a
window stretched past 3 % is flagged once. (R513, R514, R515, R517, R519, R521, R529, R530, R531) -/
def Obligations.FeedsSeatingAndTemperature : Prop :=
  ∀ (s : State),
    (∀ (f mv st : Nat) (c : Instr) (lost : Ev), f < 2 → (c, st) ∈ [(Instr.feedLost f mv, feedAbsent), (.feedOv f mv, feedOverV)] →
      lost = (if f = 0 then Ev.pwrFeedALost else Ev.pwrFeedBLost) →
      (feedOk s f = true → feedOk s (1 - f) = true → leads c s (fun t => memKept s t ∧ t.role = s.role ∧
        t.held = s.held ∧ t.get (feedFld f) = st ∧ t.on lost.flag = true ∧ t.get Reg.pwrStatusCarrying = 1 - f ∧
        t.pwr.switchA = decide (f = 1) ∧ t.pwr.switchB = decide (f = 0))) ∧
      (feedOk s f = true → feedOk s (1 - f) = false → leads c s (fun t => memKept s t ∧ t.on lost.flag = true ∧
        t.on Ev.pwrPowerFail.flag = true ∧
        (s.get Reg.bkdPwrState < 2 → t.get Reg.bkdPwrLastOff = 3 ∧ hasFailed 0x1D 0xFF t) ∧
        (2 ≤ s.get Reg.bkdPwrState → t.get Reg.bkdPwrLastOff = s.get Reg.bkdPwrLastOff ∧ t.role = s.role))) ∧
      (feedOk s f = false → leads c s (fun t => memKept s t ∧ t.role = s.role ∧ t.get (feedFld f) = st ∧
        t.pwr = s.pwr))) ∧
    (∀ mv, s.get Reg.pwrStatusFeedA = feedAbsent →
      (feedOk s 1 = true → leads (.feedGood 0 mv false) s (fun t => memKept s t ∧ t.role = s.role ∧
        t.get Reg.pwrStatusFeedA = feedQualifying ∧ t.get Reg.pwrFeedaMv = mv % 65536)) ∧
      (feedOk s 1 = false → leads (.feedGood 0 mv false) s (fun t => memKept s t ∧ t.role = s.role ∧
        t.get Reg.pwrStatusFeedA = feedIsGood ∧ t.get Reg.pwrStatusCarrying = 0))) ∧
    (∀ f mv, f < 2 → s.get (feedFld f) = feedOverV → leads (.feedGood f mv false) s (fun t => memKept s t ∧
      t.role = s.role ∧ t.get (feedFld f) = feedOverV ∧ t.pwr = s.pwr)) ∧
    (∀ mv, s.get Reg.pwrStatusFeedB = feedAbsent → leads (.feedGood 1 mv true) s (fun t => memKept s t ∧ t.role = s.role ∧
      t.get Reg.pwrStatusFeedB = feedIsGood ∧ t.get Reg.pwrStatusCarrying =
        (if feedOk s 0 then s.get Reg.pwrStatusCarrying else 1) ∧
      (s.get Reg.bkdPwrState = 2 → t.get Reg.bkdPwrState = (if s.on Reg.bkdPwrWakeFeed then 0 else 2)))) ∧
    (∀ mv, s.get Reg.pwrStatusFeedB = feedOverV → leads (.feedOvClear 1 mv) s (fun t => memKept s t ∧
      t.role = s.role ∧ t.get Reg.pwrStatusFeedB = feedIsGood)) ∧
    (s.get Reg.pwrStatusFeedA = feedQualifying → leads .feedReturn s (fun t => memKept s t ∧ t.role = s.role ∧
      t.get Reg.pwrStatusFeedA = feedIsGood ∧ t.get Reg.pwrStatusCarrying = 0 ∧ t.on Ev.pwrFeedReturn.flag = true)) ∧
    (s.get Reg.pwrStatusFeedA ≠ feedQualifying → exec .feedReturn s = .next s) ∧
    leads .feedBRelease s (fun t => t.regs = s.regs ∧ memKept s t ∧ t.pwr.switchB = (s.pwr.switchB && !s.pwr.switchA)) ∧
    (∀ (p g : Nat), (s.on Reg.pwrStatusSeatedA1 && s.on Reg.pwrStatusSeatedH40) = false →
      leads (.seatedDetectMade p g) s (fun t => memKept s t ∧ t.role = s.role ∧
        t.on Reg.pwrStatusSeatedA1 = true ∧ t.on Reg.pwrStatusSeatedH40 = true ∧
        t.get Reg.sysPositionSlotId = p % 64 ∧ t.get Reg.sysPositionGroupId = g % 16 ∧
        (11 < g % 16 → t.on Ev.sysPosInvalid.flag = true) ∧
        (2 ≤ s.get Reg.bkdPwrState → t.get Reg.bkdPwrState = 0 ∧ t.get Reg.bkdPwrWakeCause = 4))) ∧
    (∀ (p g : Nat), s.on Reg.pwrStatusSeatedA1 = true → s.on Reg.pwrStatusSeatedH40 = true →
      leads (.seatedDetectMade p g) s (fun t => memKept s t ∧ t.role = s.role ∧
        t.get Reg.sysPositionSlotId = s.get Reg.sysPositionSlotId ∧
        t.get Reg.sysPositionGroupId = s.get Reg.sysPositionGroupId ∧
        (p % 64 ≠ s.get Reg.sysPositionSlotId → t.on Ev.sysPosChange.flag = true))) ∧
    (∀ h, leads (.seatPartial h) s (fun t => memKept s t ∧ t.role = s.role ∧ t.on Reg.pwrStatusSeatedA1 = !h ∧
      t.on Reg.pwrStatusSeatedH40 = h ∧ t.on Ev.pwrSeatPartial.flag = true)) ∧
    (∀ h, leads (.seatedDetectBreak h) s (fun t => memKept s t ∧ t.on Reg.hhkPairStatusKillOut = false ∧
      t.on (if h then Reg.pwrStatusSeatedH40 else Reg.pwrStatusSeatedA1) = false ∧
      (s.sec.fwUp = true → s.get Reg.bkdPwrState ≤ 1 →
        hasFailed 0x1C 0xFF t ∧ t.pair.restartDue = false ∧ t.fio.drive = .off) ∧
      (s.sec.fwUp = false ∨ 2 ≤ s.get Reg.bkdPwrState → t.role = s.role))) ∧
    (∀ (die board : Int) (w : Bool), -32768 ≤ die → die ≤ 32767 → -32768 ≤ board → board ≤ 32767 →
      w = (if 1050 ≤ die then true else if die < 1000 then false else s.on Reg.pwrStatusThermWarn) →
      leads (.tempSample die board) s (fun t => memKept s t ∧ t.role = s.role ∧ t.getInt Reg.pwrTempDie = die ∧
        t.getInt Reg.pwrTempBoard = board ∧ t.getInt Reg.pwrTempMaxDieMax = max (s.getInt Reg.pwrTempMaxDieMax) die ∧
        t.on Reg.pwrStatusThermWarn = w ∧ t.on Reg.pwrStatusMgmtCap = w ∧
        t.get Reg.pwrStatusMgmtOp = (if w then min 1 (s.get Reg.pwrStatusMgmtOp) else s.get Reg.pwrStatusMgmtOp) ∧
        (w = true → s.on Reg.pwrStatusThermWarn = false → t.on Ev.pwrThermWarn.flag = true))) ∧
    (s.get Reg.bkdPwrState ≤ 1 → 1200 ≤ s.getInt Reg.pwrTempDie ∨ 950 ≤ s.getInt Reg.pwrTempBoard → leads .thermalFail s (fun t => memKept s t ∧
      t.role = roleFailed ∧ t.held = false ∧ t.get Reg.bkdPwrState = 3 ∧ t.get Reg.bkdPwrLastOff = 2 ∧
      leAt t.backup 4 4 = 0x50 ∧ leAt t.backup 2 1 = 2 ∧ t.nvs.unflushed = 0)) ∧
    (2 ≤ s.get Reg.bkdPwrState ∨ s.getInt Reg.pwrTempDie < 1200 ∧ s.getInt Reg.pwrTempBoard < 950 →
      exec .thermalFail s = .next s) ∧
    (s.get Reg.bkdPwrState ≤ 1 → 1300 ≤ s.getInt Reg.pwrTempDie → leads .thermalShutdown s (fun t => memKept s t ∧ t.role = s.role ∧ t.held = false ∧ t.fio.drive = .off ∧
      t.get Reg.bkdPwrState = 3 ∧ t.get Reg.bkdPwrLastOff = 2 ∧ t.nvs = s.nvs)) ∧
    (1 < s.get Reg.bkdPwrState ∨ s.getInt Reg.pwrTempDie < 1300 → exec .thermalShutdown s = .next s) ∧
    (∀ v, leads (.avsAdjust v) s (fun t => memKept s t ∧ t.role = s.role ∧ t.get Reg.pwrAvsCoreMv % 5 = 0 ∧
      720 ≤ t.get Reg.pwrAvsCoreMv ∧ t.get Reg.pwrAvsCoreMv ≤ 880 ∧
      (v ≤ 880 → v ≤ t.get Reg.pwrAvsCoreMv ∧ t.get Reg.pwrAvsCoreMv < max 720 v + 5) ∧
      t.on Reg.pwrStatusAvsLimit = decide (880 < v) ∧ (880 < v → t.on Ev.pwrAvsLimit.flag = true))) ∧
    (∀ c, leads (.droopDetect c) s (fun t => memKept s t ∧ t.role = s.role ∧
      t.get Reg.pwrDroopsCnt = (s.get Reg.pwrDroopsCnt + 1) % 2 ^ 32 ∧ t.pwr.stretch = s.pwr.stretch + c ∧
      t.get Reg.pwrStretchMaxCenti = max (s.get Reg.pwrStretchMaxCenti) (min 65535 (s.pwr.stretch + c)) ∧
      (300 < s.pwr.stretch + c → s.pwr.stretchOver = false → t.on Ev.pwrStretchOver.flag = true ∧
        t.pwr.stretchOver = true) ∧
      (s.pwr.stretchOver = true → t.get Reg.pwrStretchOverCnt = s.get Reg.pwrStretchOverCnt))) ∧
    (∀ op, leads (.mgmtOpSelect op) s (fun t => memKept s t ∧ t.role = s.role ∧ t.get Reg.pwrStatusMgmtOp =
      (if s.on Reg.pwrStatusMgmtCap then min 1 op else min 3 op)))

/-- Only domains 5, 6 and 9 may be gated; a gated domain wakes, one stopped without being gated does not. A stopped
clock makes the module FAILED with class 0x10 unless its domain is gated; a rail outside its window with 0x12; a
stalled core pair with 0x14 and its unit. (R525, R527, R407, R395, R555, R343) -/
def Obligations.ClocksRailsAndWatchdogs : Prop :=
  ∀ (s : State) (d : Nat),
    (mayGate s d = true → leads (.clockGate d) s (fun t => memKept s t ∧ t.role = s.role ∧
      bitOf (t.get Reg.pwrClkGated) d = true ∧ bitOf (t.get Reg.pwrClkRunning) d = false)) ∧
    mayGate s 5 = true ∧ (d ≠ 5 → d ≠ 6 → d ≠ 9 → mayGate s d = false) ∧
    (mayGate s d = false → exec (.clockGate d) s = .next s) ∧
    (bitOf (s.get Reg.pwrClkGated) d = true → leads (.clockWake d) s (fun t => memKept s t ∧ t.role = s.role ∧
      bitOf (t.get Reg.pwrClkGated) d = false ∧ bitOf (t.get Reg.pwrClkRunning) d = true)) ∧
    (bitOf (s.get Reg.pwrClkGated) d = false → exec (.clockWake d) s = .next s) ∧
    (bitOf (s.get Reg.pwrClkGated) d = true → exec (.clockFault d) s = .next s) ∧
    (bitOf (s.get Reg.pwrClkGated) d = false → leads (.clockFault d) s (fun t => memKept s t ∧ hasFailed 0x10 0xFF t ∧
      (d < 12 → bitOf (t.get Reg.pwrClkRunning) d = false) ∧ leAt t.backup 4 4 = 0x10)) ∧
    leads .railFault s (fun t => memKept s t ∧ hasFailed 0x12 0xFF t ∧ leAt t.backup 4 4 = 0x12) ∧
    (∀ u, u = 4 ∨ u = 5 ∨ u = 6 → leads (.firmwareWatchdog u) s (fun t => memKept s t ∧ hasFailed 0x14 u t ∧
      leAt t.backup 4 4 = 0x14 + 256 * u ∧ leAt t.backup 8 6 = s.seconds % 2 ^ 48))

/-- GET_STATUS is 200 bytes; GET_PHASORS answers the tag and one record per estimate; SET_STREAMING at the owner
waits for the frame it names, in which the enabled streams of its mask turn on or off. A frame that fails its
authentication is counted by the network engine, one that differs from its record or has no place sets
STREAM_REJECT, an early sample is counted EARLY, and any other waits at its place for a batch. E(k) completes by
T0+200 us, or sets PROC_LATE and makes the module FAILED with 0x06. A TCP stream takes up to 4 clients, which turn
it on and off. (R187, R189, R191, R193, R205, R207, R215, R139, R407) -/
def Obligations.AsterCommandsAndStreams : Prop :=
  ∀ (i : Nat) (r : Req) (s : State),
    (requestOk 12 1 noPayload i r s = true → answers (.asterGetStatus r) 12 1 i r s (fun p u => u = s ∧
      p.length = 200 ∧ leAt p 0 4 = (s.reg Reg.astStatusAligned.addr).toNat ∧
      ∀ n, n < 24 → leAt p (8 + 4 * n) 4 = (s.reg (Reg.astStrState n).addr).toNat)) ∧
    (∀ sel first n lim w, requestOk 12 4 (exactly 4) i r s = true → leAt r.payload 0 1 = sel →
      leAt r.payload 1 1 = first → leAt r.payload 2 1 = n → leAt r.payload 3 1 = 0 →
      (sel, lim, w) ∈ [(0, 192, 16), (1, 64, 48), (2, 8, 16)] →
      (first + n ≤ lim → answers (.asterGetPhasors r) 12 4 i r s (fun p u => u = s ∧ p.length = 16 + w * n)) ∧
      (first ≤ lim → lim < first + n →
        answersErr (.asterGetPhasors r) 12 4 i r s stOutOfRange 2 (fun u => u = s))) ∧
    (requestOk 12 5 (exactly 4) i r s = true →
      (takesGroup s = true → answers (.asterSetStreaming r) 12 5 i r s (fun p u => p = [] ∧ memKept s u ∧
        u.ast.next = s.ast.next ++ [(nameFrame s, leAt r.payload 0 2, leAt r.payload 2 2)] ∧
        ∀ n, n < 16 → u.on (Reg.astPmuOn n) = s.on (Reg.astPmuOn n))) ∧
      (takesGroup s = false →
        answersErr (.asterSetStreaming r) 12 5 i r s stStateConflict noField (fun u => u = s))) ∧
    (∀ f m o, s.ast.next = [(f, m, o)] → s.cfg.next = [] → f ≤ frameIndex s.now + 1 →
      leads .configEffectiveFrame s (fun t => memKept s t ∧ t.ast.next = [] ∧
        ∀ n, n < 16 → t.on (Reg.astPmuOn n) =
          (if bitOf m n && pmuEnabled (s.conf objAster) n then bitOf o n else s.on (Reg.astPmuOn n)))) ∧
    (∀ (f : SvFrame) (v : State), v = (takeIn f.inn .other (arrive f.arrival s)).2 →
      ((takeIn f.inn .other (arrive f.arrival s)).1 = false → exec (.svFrameRx f) s = .next v) ∧
      ((takeIn f.inn .other (arrive f.arrival s)).1 = true → authFails v f.auth f.keyId = true → leads (.svFrameRx f) s (fun t => memKept v t ∧ t.ast = v.ast ∧
        t.on Ev.netAuthFail.flag = true)) ∧
      (authFails v f.auth f.keyId = false → svStream v f = none → exec (.svFrameRx f) s = .next v) ∧
      (∀ n, (takeIn f.inn .other (arrive f.arrival s)).1 = true → authFails v f.auth f.keyId = false → svStream v f = some n → f.mac ≠ strMac (v.conf objAster) n ∨
        f.appid ≠ strAppid (v.conf objAster) n ∨ f.vlan ≠ strVlan (v.conf objAster) n ∨
        (f.svId ++ zeros 32).take 32 ≠ strSvId (v.conf objAster) n ∨ f.confRev ≠ strConfRev (v.conf objAster) n →
        leads (.svFrameRx f) s (fun t => memKept v t ∧ t.ast = v.ast ∧ t.on Ev.astStreamReject.flag = true)) ∧
      (∀ (a : SvAsdu) (n rate place : Nat) (x sec : Int), (takeIn f.inn .other (arrive f.arrival s)).1 = true →
        authFails v f.auth f.keyId = false → svStream v f = some n →
        n < v.ast.streams.length → svAgrees (v.conf objAster) n f = true → f.asdus = [a] →
        rate = strRate (v.conf objAster) n →
        (rate ≤ a.smpCnt → leads (.svFrameRx f) s (fun t => memKept v t ∧ t.ast = v.ast ∧
          t.on Ev.astStreamReject.flag = true)) ∧
        (a.smpCnt < rate → a.smpRate = none ∨ a.smpRate = some rate →
          x = ((f.arrival * rate : Nat) : Int) - ((a.smpCnt * 1000000000 : Nat) : Int) →
          sec = (x + ((1000000000 * rate : Nat) : Int) / 2) / ((1000000000 * rate : Nat) : Int) →
          place = (sec * (rate : Int) + (a.smpCnt : Int)).toNat →
          (holdsPlace v n place = true → leads (.svFrameRx f) s (fun t => memKept v t ∧ t.ast = v.ast)) ∧
          (holdsPlace v n place = false → -20000 * (rate : Int) ≤ x - sec * ((1000000000 * rate : Nat) : Int) →
            x - sec * ((1000000000 * rate : Nat) : Int) ≤ 100000000 * (rate : Int) →
            leads (.svFrameRx f) s (fun t => memKept v t ∧ t.role = v.role ∧
              (∃ w ∈ (t.str n).waiting, w.place = place ∧ w.stream = n) ∧
              t.get (Reg.astStrLastSmpcnt n) = a.smpCnt % 65536)) ∧
          (holdsPlace v n place = false →
            x - sec * ((1000000000 * rate : Nat) : Int) < -20000 * (rate : Int) →
            leads (.svFrameRx f) s (fun t => memKept v t ∧ t.ast = v.ast ∧
              t.get (Reg.astStrErrEarlyCnt n) = min 255 (v.get (Reg.astStrErrEarlyCnt n) + 1)))))) ∧
    (∀ (n : Nat) (v : State), n < 24 →
        v = arrive ((s.str n).lastNom + strLostFrames (s.conf objAster) n * 250000) s →
      (streamAligned s n = true → leads (.streamLost n) s (fun t => memKept v t ∧ t.role = v.role ∧
        t.get (Reg.astStrState n) = strLost ∧ t.on Ev.astStreamLost.flag = true)) ∧
      (streamAligned s n = false → exec (.streamLost n) s = .next s)) ∧
    (∀ ns, (ns ≤ 200000 → leads (.estimateSetComplete ns) s (fun t => memKept s t ∧ t.role = s.role ∧
        t.ast.estFrame = frameIndex (toPhase ns s).now)) ∧
      (200000 < ns → s.ast.estFrame = frameIndex (toPhase ns s).now →
        exec (.estimateSetComplete ns) s = .next (toPhase ns s)) ∧
      (200000 < ns → s.ast.estFrame ≠ frameIndex (toPhase ns s).now → leads (.estimateSetComplete ns) s (fun t =>
        memKept s t ∧ t.on Ev.astProcLate.flag = true ∧ hasFailed 0x06 0xFF t))) ∧
    (∀ n, n < 16 → pmuEnabled (s.conf objAster) n = true → pmuUdp (s.conf objAster) n = false →
      (s.get (Reg.astPmuClients n) < 4 → leads (.c37118ClientConnect n) s (fun t => memKept s t ∧ t.role = s.role ∧
        t.get (Reg.astPmuClients n) = s.get (Reg.astPmuClients n) + 1)) ∧
      (4 ≤ s.get (Reg.astPmuClients n) → leads (.c37118ClientConnect n) s (fun t => memKept s t ∧ t.regs = s.regs)) ∧
      (∀ c, c < s.get (Reg.astPmuClients n) →
        (∀ k, k = 1 ∨ k = 2 → leads (.c37118Command n c k) s (fun t => memKept s t ∧ t.role = s.role ∧
          t.on (Reg.astPmuOn n) = decide (k = 2))) ∧
        (∀ k, 3 ≤ k → k ≤ 6 → leads (.c37118Command n c k) s (fun t => memKept s t ∧ t.regs = s.regs ∧
          t.outbox.length = s.outbox.length + 1)))) ∧
    (∀ n c k, n < 16 → s.get (Reg.astPmuClients n) ≤ c → exec (.c37118Command n c k) s = .next s) ∧
    (∀ n, n < 16 → s.get (Reg.astPmuClients n) ≠ 0 → leads (.c37118ClientClose n) s (fun t => memKept s t ∧
      t.role = s.role ∧ t.get (Reg.astPmuClients n) = s.get (Reg.astPmuClients n) - 1))

/-- GET_STATUS is 104 bytes, GET_EVENTS one entry of 64 bytes per line; CALIBRATE is held and names its start frame,
from which 64 mark edges are requests, and ends thereafter; MANUAL_TRIGGER triggers a record of the selected lanes
to 4 ms after, or 20 ms in all. The mark edge lies a whole multiple of 10 periods after the last, with N twice the
intervals; after a step it sends every lane to HUNT. A lane frame leads its lane to CHECKING and LOCKED, or a
misplaced mark to HUNT, and its samples enter the ring. A group of 65536 samples is armed with SIGMA and THR. The
first detection of an armed group opens an event with its stamp, further ones are reflections; the event closes. A
datagram addressed to no subscription is passed over; reports that differ from every subscription, fail their MAC,
come under no key in use or carry test are rejected. A captured record is staged, at most 16, and then stored as its
.cff file. (R222, R223, R225, R227, R228, R229, R234, R235, R236, R243, R245, R250) -/
def Obligations.LarkspurCommandsAndLanes : Prop :=
  ∀ (i : Nat) (r : Req) (s : State),
    (requestOk 13 1 noPayload i r s = true → answers (.larkspurGetStatus r) 13 1 i r s (fun p u => u = s ∧
      p.length = 104 ∧ leAt p 0 4 = (s.reg Reg.lspStatusActive.addr).toNat ∧
      ∀ n, n < 12 → leAt p (8 + 4 * n) 4 = (s.reg (Reg.lspLaneState n).addr).toNat)) ∧
    (∀ n, requestOk 13 4 (exactly 8) i r s = true → leAt r.payload 4 1 = n → 1 ≤ n → n ≤ 32 →
      leAt r.payload 5 3 = 0 → answers (.larkspurGetEvents r) 13 4 i r s (fun p u => u = s ∧ leAt p 0 1 ≤ n ∧
        p.length = 8 + 64 * leAt p 0 1)) ∧
    (∀ m, requestOk 13 5 (exactly 4) i r s = true → leAt r.payload 0 2 = m → m < 4096 → leAt r.payload 2 2 = 0 →
      (settingsOpen s = true → s.lsp.cal = none → holds (.larkspurCalibrate r) 13 5 i r s (fun u => memKept s u ∧
        (∃ c, u.lsp.cal = some c ∧ c.start = nameFrame s ∧ c.mask = m ∧ c.issued = 0 ∧ c.req = some (i, r.seq)) ∧
        u.on Reg.lspStatusCalibrating = true ∧ u.cfg = s.cfg)) ∧
      (settingsOpen s = false ∨ s.lsp.cal.isSome = true →
        answersErr (.larkspurCalibrate r) 13 5 i r s stStateConflict noField (fun u => u = s))) ∧
    (∀ g, requestOk 13 6 (fun n => decide (1 ≤ n) && decide (n ≤ 48)) i r s = true → leAt r.payload 0 1 = g →
      g ≠ 0 → g % 128 < 16 → firstBad (asciiOk r.payload 1 (r.payload.length - 1)) = none →
      answers (.larkspurManualTrigger r) 13 6 i r s (fun p u => p = [] ∧ u.regs = s.regs ∧ memKept s u ∧
        ∀ l, (bitOf g 7 = true ∧ l = 0xFFF) ∨ (bitOf g 7 = false ∧ ∃ n, n < 4 ∧ bitOf g n = true ∧ l = 7 * 8 ^ n) →
          ∃ c ∈ u.lsp.recs, c.lanes &&& l = l ∧ (s.now + 4000000 ≤ c.stop ∨ c.start + 20000000 ≤ c.stop))) ∧
    (s.time.ticked = false → exec .markEdge s = .next s) ∧
    (∀ k e, s.time.ticked = true → k = frameIndex s.now → e = nextEdge s → leads .markEdge s (fun t =>
      ((∀ i, i < 16 → ringsIdle i s = true) → memKept s t) ∧ t.role = s.role ∧ t.lsp.marks.head? = some ⟨k, edgeTime s e, samplesTo s e⟩ ∧ t.lsp.edge = some e ∧
      t.lsp.huntDue = false ∧ cycleThirds s.time.tickCycle ≤ e ∧
      (∀ p, s.lsp.edge = some p → ∃ m, e = p + 250 * m ∧ samplesTo s e = 2 * m) ∧
      (∀ n, n < 12 → t.get (Reg.lspLaneState n) =
        (if s.lsp.huntDue = true ∧ s.get (Reg.lspLaneState n) ≠ laneDisabled then laneHunt
          else s.get (Reg.lspLaneState n))) ∧
      (∀ c, s.lsp.cal = some c →
        (calRequests s k = true → t.lsp.cal = some { c with issued := c.issued + 1 }) ∧
        (calRequests s k = false → c.start + 65 ≤ k →
          t.lsp.cal = none ∧ t.on Reg.lspStatusCalibrating = false)) ∧
      (s.on Reg.lspStatusClkDrive = true →
        t.outbox.getLast? = some (.net 5 "LSP_SYNC" [k, if calRequests s k then 2 else 1])))) ∧
    (∀ (n : Nat) (pairs : List LanePair) (mark : Bool) (st : Nat) (c : LaneCheck), s.get (Reg.lspLaneState n) = st →
      c = checkLane s n pairs mark →
      (12 ≤ n ∨ st = laneDisabled → exec (.laneFrame n pairs mark) s = .next s) ∧
      (n < 12 → st ≠ laneDisabled → leads (.laneFrame n pairs mark) s
        (fun t => memKept s t ∧ t.role = s.role ∧ t.get (Reg.lspLaneState n) =
          (if st = laneHunt then (if mark then laneChecking else laneHunt)
            else if st = laneChecking then (if c.placed = true ∧ c.code = 0 then laneLocked else laneHunt)
            else if c.placed = true ∧ c.code + c.parity < 8 then laneLocked else laneHunt) ∧
          bitOf (t.get Reg.lspStatusLocked) n = decide (t.get (Reg.lspLaneState n) = laneLocked) ∧
          (st = laneLocked → t.get (Reg.lspLaneState n) = laneHunt → t.on Ev.lspLaneLost.flag = true) ∧
          (n < s.lsp.ring.length → ∃ k, (t.lsp.ring.getD n []).head? = some ⟨k, c.samples⟩)))) ∧
    (∀ g q, g < 4 → q = (s.lsp.procs.getD g ({}, {})).2 →
      (grpUsed (s.conf objLsp) g = true → 65536 ≤ q.seen → leads (.groupArmed g) s (fun t => memKept s t ∧
        t.on (Reg.lspGrpArmed g) = true ∧ bitOf (t.get Reg.lspStatusArmed) g = true ∧
        ∀ sigma, sigma = Config.numSqrt (q.sig2.getD ((watched (recMode (workRec s g))).headD 0) (nInt 0)) →
          t.get (Reg.lspGrpSigma g) = inCounts s g 0xFFFFFF sigma ∧
          t.get (Reg.lspGrpThrThr g) = inCounts s g 0xFFFFFFFF (thetaOf (workRec s g) sigma))) ∧
      (grpUsed (s.conf objLsp) g = false ∨ q.seen < 65536 → exec (.groupArmed g) s = .next s)) ∧
    (∀ (g k n : Nat) (lanes : List (List LanePair)), g < 4 →
      (s.on (Reg.lspGrpArmed g) = false ∨ s.lsp.dets.any (fun x => x.1 == (g, k, n)) = true →
        exec (.wavefrontDetect g k n lanes) s = .next s) ∧
      (s.on (Reg.lspGrpArmed g) = true → s.lsp.dets.any (fun x => x.1 == (g, k, n)) = false →
        leads (.wavefrontDetect g k n lanes) s (fun t => memKept s t ∧ t.role = s.role ∧
          (detectAt s g k n lanes = none → t = s) ∧
          ∀ d ∈ detectAt s g k n lanes, ∀ u, u = arrive d.raw s → g < u.lsp.opens.length →
            (u.lsp.opens.getD g none = none → t.on (Reg.lspGrpEventOpen g) = true ∧ t.on Ev.lspWavefront.flag = true ∧
              t.lsp.waiting.length = u.lsp.waiting.length + 1 ∧ ∃ e, t.lsp.opens.getD g none = some e ∧
                e.group = g ∧ e.time = stampOf u g d.raw ∧ e.pol = d.pol ∧ e.amp = d.amp ∧ e.refl = [] ∧
                e.close = closeAt (u.conf objLsp) g e.time) ∧
            (∀ e, u.lsp.opens.getD g none = some e → t.lsp.waiting.length = u.lsp.waiting.length ∧
              ∃ e', t.lsp.opens.getD g none = some e' ∧ e'.time = e.time ∧ e'.refl =
                (if e.refl.length < 16 then e.refl ++ [(stampOf u g d.raw, d.pol)] else e.refl))))) ∧
    (∀ g e e', g < 4 → s.lsp.opens.getD g none = some e → (arrive e.close s).lsp.opens.getD g none = some e' →
      leads (.eventClose g) s (fun t => memKept s t ∧
        t.role = s.role ∧ t.lsp.opens.getD g none = none ∧ t.on (Reg.lspGrpEventOpen g) = false ∧
        ∃ x ∈ t.lsp.events, x.group = e'.group ∧ x.time = e'.time ∧ x.refl = e'.refl ∧ x.opened = false)) ∧
    (∀ g, s.lsp.opens.getD g none = none → exec (.eventClose g) s = .next s) ∧
    (∀ w u, s.lsp.last = some w → s.on Reg.lspStatusPublishing = true → u = arrive s.lsp.retxAt s →
      leads .rgooseRetransmit s (fun t => memKept s t ∧ t.role = s.role ∧ t.lsp.sqNum = u.lsp.sqNum + 1 ∧
        t.lsp.stNum = u.lsp.stNum ∧ t.lsp.retxAt = nextRetx u.lsp.retx u.lsp.retxAt)) ∧
    (s.lsp.last = none ∨ s.on Reg.lspStatusPublishing = false → exec .rgooseRetransmit s = .next s) ∧
    (∀ (x : RgReport) (ok : Bool) (u : State) (b : List Byte) (adr : Nat → Bool) (m : Option Nat),
      (ok, u) = takeIn x.inn .other (expireSubs (arrive x.arrival s)) → b = u.conf objLsp →
      adr = (fun i => lspOn b && subEnabled b i && onPort (u.conf objNet) (subPorts b i) x.inn.port &&
        subDstIp b i == x.dstIp) →
      m = ((List.range 8).find? (fun i => adr i && subAppid b i == x.appid && subSrcIp b i == x.srcIp &&
        subRef b i == (x.ref ++ zeros 32).take 32)) →
      (ok = false ∨ (List.range 8).any adr = false → exec (.rgooseReportRx x) s = .next u) ∧
      (ok = true → (List.range 8).any adr = true →
        (m = none ∨ x.macOk = false ∨ x.test = true → leads (.rgooseReportRx x) s (fun t =>
          t.on Ev.lspRemoteReject.flag = true ∧ t.lsp = u.lsp ∧ ∀ a, t.byte a = u.byte a)) ∧
        (∀ k, m = some k →
          (subKey b k ≠ x.keyId ∨ keyInUse u 1 x.keyId = false → leads (.rgooseReportRx x) s (fun t =>
            t.on Ev.lspRemoteReject.flag = true ∧ t.on (Reg.lspSubAuthFail k) = true ∧ t.lsp = u.lsp)) ∧
          (x.macOk = true → x.test = false → subKey b k = x.keyId → keyInUse u 1 x.keyId = true →
            leads (.rgooseReportRx x) s (fun t => t.role = s.role ∧
              t.on (Reg.lspSubAlive k) = true ∧ t.on (Reg.lspSubAuthFail k) = false ∧
              (x.heartbeat = false → u.lsp.seen.contains (x.rep.term, x.rep.seq) = false →
                t.lsp.waiting = u.lsp.waiting ++ [{ x.rep with remote := true, src := k }]) ∧
              (x.heartbeat = true ∨ u.lsp.seen.contains (x.rep.term, x.rep.seq) = true →
                t.lsp.waiting = u.lsp.waiting)))))) ∧
    leads .remoteWaitExpiry s (fun t => memKept s t ∧ t.role = s.role ∧ t.lsp.pend =
      s.lsp.pend.filter (fun p => decide (frameIndex s.now ≤ p.2 + 4 * lspWaitMs (s.conf objLsp))) ∧
      ((∃ p ∈ s.lsp.pend, p.1.remote = true ∧ p.2 + 4 * lspWaitMs (s.conf objLsp) < frameIndex s.now) →
        t.on Ev.lspNoRemote.flag = true)) ∧
    (∀ c u, firstRecord s = some c → u = arrive c.stop s → c ∈ u.lsp.recs →
      leads .recordComplete s (fun t => memKept s t ∧ t.role = s.role ∧ t.lsp.recs = u.lsp.recs.erase c ∧
        (if 16 ≤ u.lsp.staged.length ∨ u.on Reg.nvsStatusArchRo = true
          then t.on Ev.lspRecordDrop.flag = true ∧ t.lsp.staged = u.lsp.staged
          else t.get Reg.lspRecPending = u.lsp.staged.length + 1 ∧ ∃ c', t.lsp.staged = u.lsp.staged ++ [c'] ∧
            c'.lanes = c.lanes ∧ c'.trigger = c.trigger ∧ c'.info.isSome = true ∧
            c'.rows.map (·.2) = (recordRows u c).map (·.2)))) ∧
    (s.lsp.recs = [] → exec .recordComplete s = .next s) ∧
    (∀ c l, s.lsp.staged = c :: l → singletonRuns s 0 = true → s.on Reg.nvsStatusArchRo = false →
      2 ^ 30 + (cffOf c).length ≤ archFree s → leads .recordStored s (fun t => memKept s t ∧ t.role = s.role ∧
        t.lsp.staged = l ∧ ∃ a, t.nvs.arch = s.nvs.arch ++ [a] ∧ a.id = s.nvs.nextRec ∧ a.content = cffOf c ∧
          a.trigger = c.trigger ∧ a.lanes = c.lanes)) ∧
    (s.lsp.staged = [] ∨ singletonRuns s 0 = false → exec .recordStored s = .next s) ∧
    (s.held = true → leads .singletonRestart s (fun t => memKept s t ∧ t.role = s.role ∧
      (∀ n, n < 3 → singletonRuns t n = (singletonRuns s n || bitOf s.sec.singletons n)) ∧
      (∀ c, s.pair.ckpts.getD 0 none = some c → singletonRuns s 0 = false → bitOf s.sec.singletons 0 = true →
        t.nvs.nextRec = max s.nvs.nextRec (leAt c.content 0 4)))) ∧
    (s.held = false → s.on Reg.lspStatusPublishing = false → exec .singletonRestart s = .next s)

/-- A frame that fails its authentication, or is not signed where its subscription needs it, is counted and
discarded; one that differs from its subscription is rejected; any other sets its values, its time allowed to live
and ALIVE, a lower stNum counted as an anomaly. A bad FCS and an oversize frame are counted; an ARP request for the
port's address is answered; a duplicate of a redundant pair is discarded within its entry, whose end counts a copy
that one LAN lacked. A link change and a lost MACsec channel are flagged. (R254, R258, R259, R260, R269, R270, R272,
R273, R274, R281) -/
def Obligations.StationNetworkFrames : Prop :=
  ∀ (s : State),
    (∀ (f : GooseFrame) (ok : Bool) (u : State) (b : List Byte) (m : Option Nat),
      (ok, u) = takeIn f.inn .other (arrive f.arrival s) → b = u.conf objNet → m = findSub b f →
      (ok = false → exec (.gooseFrameRx f) s = .next u) ∧
      (ok = true →
        (authFails u f.auth f.keyId = true ∨ (f.auth = 0 ∧ ∃ i, m = some i ∧ bitOf (gsubFlags b i) 1 = true) →
          leads (.gooseFrameRx f) s (fun t => t.net = u.net ∧ t.on Ev.netAuthFail.flag = true)) ∧
        (authFails u f.auth f.keyId = false → m = none → exec (.gooseFrameRx f) s = .next u) ∧
        (∀ i, m = some i → i < u.net.subs.length → authFails u f.auth f.keyId = false →
          (f.auth ≠ 0 ∨ bitOf (gsubFlags b i) 1 = false) →
          (gsubAddressed b f i = false ∨ gsubAgrees b f i = false ∨ f.members.length ≠ gsubCount b i ∨
            gsubTyped u f i = false ∨ ((f.sim || f.test) = true ∧ bitOf (gsubFlags b i) 0 = false) →
            leads (.gooseFrameRx f) s (fun t => t.net = u.net ∧ t.on Ev.netSubReject.flag = true ∧
              t.get (Reg.netGsubRejectCnt i) = min 255 (u.get (Reg.netGsubRejectCnt i) + 1))) ∧
          (gsubAddressed b f i = true → gsubAgrees b f i = true → f.members.length = gsubCount b i →
            gsubTyped u f i = true → ((f.sim || f.test) = false ∨ bitOf (gsubFlags b i) 0 = true) →
            leads (.gooseFrameRx f) s (fun t => t.role = s.role ∧
              t.on (Reg.netGsubAlive i) = !f.ndsCom ∧ t.on (Reg.netGsubAuthFail i) = false ∧
              (t.gsub i).expiry = f.arrival + f.tal * 1000000 ∧
              ((u.gsub i).held = false ∨ (u.gsub i).st < f.st → (t.gsub i).st = f.st ∧ (t.gsub i).sq = f.sq ∧
                (t.gsub i).members = f.members) ∧
              ((u.gsub i).held = true → f.st < (u.gsub i).st → (u.gsub i).st < 2 ^ 32 - 1 →
                (t.gsub i).members = f.members ∧
                t.get (Reg.netGsubSeqAnomCnt i) = min 255 (u.get (Reg.netGsubSeqAnomCnt i) + 1)) ∧
              ((u.gsub i).held = true → f.st = (u.gsub i).st → f.sq ≤ (u.gsub i).sq → (u.gsub i).sq < 2 ^ 32 - 1 →
                (t.gsub i).members = (u.gsub i).members ∧ (t.gsub i).sq = (u.gsub i).sq)))))) ∧
    (∀ i, i < 128 → (s.on (Reg.netGsubAlive i) = true → leads (.gooseTalExpiry i) s (fun t => memKept s t ∧
        t.role = s.role ∧ t.on (Reg.netGsubAlive i) = false ∧
        t.net.subs = (arrive ((s.gsub i).expiry + 1) s).net.subs)) ∧
      (s.on (Reg.netGsubAlive i) = false → exec (.gooseTalExpiry i) s = .next s)) ∧
    (∀ (f : NetFrame) (i : Ingress) (b : List Byte) (m : Bool), i = f.inn → b = s.conf objNet → m = portMacsec b i.port →
      (5 ≤ i.port ∨ portEnabled b i.port = false → exec (.netFrameRx f) s = .next s) ∧
      (i.port < 5 → portEnabled b i.port = true →
        (i.fcsOk = false → exec (.netFrameRx f) s = .next (s.bump (Reg.netPortRxCrcCnt i.port))) ∧
        (i.fcsOk = true → 1522 < i.length →
          exec (.netFrameRx f) s = .next (s.bump (Reg.netPortRxOversizeCnt i.port))) ∧
        (i.fcsOk = true → i.length ≤ 1522 → i.buffer = false →
          exec (.netFrameRx f) s = .next (s.bump (Reg.netPortRxDropCnt i.port))) ∧
        (i.fcsOk = true → i.length ≤ 1522 → i.buffer = true →
          (portOpen s i.port = false ∨ (m = false ∧ i.macsec ≠ 0) ∨ (m = true ∧ i.macsec = 0) ∨
            (m = true ∧ i.macsec = 1 ∧ i.pn + 64 < s.net.rxPn.getD i.port 0) → exec (.netFrameRx f) s = .next s) ∧
          (portOpen s i.port = true → m = true → i.macsec = 2 →
            exec (.netFrameRx f) s = .next (s.bump (Reg.netPortRxAuthCnt i.port))) ∧
          (portOpen s i.port = true → m = false → i.macsec = 0 →
            (i.port = 4 ∨ pairMode b (i.port / 2) = 0 →
              (∀ a, f.kind = .arp a → exec (.netFrameRx f) s = .next (if a = portIp b i.port
                then s.send (.net i.port "ARP reply" [a, ownMac s i.port]) else s)) ∧
              (∀ p, f.kind = .ptp p → exec (.netFrameRx f) s = .next (if ptpTaken s i.port p = true ∧
                p.kind = .pdelayReq ∧ cfgProfile s i.port ≠ 1 then (s.send (.net i.port "Pdelay_Resp" [p.domain, p.seq])).send
                  (.net i.port "Pdelay_Resp_Follow_Up" [p.domain, p.seq]) else s)) ∧
              (f.kind = .fragment ∨ f.kind = .other → exec (.netFrameRx f) s = .next s)) ∧
            (∀ lan seq, i.port < 4 → pairMode b (i.port / 2) ≠ 0 → i.tag = some (lan, seq) →
              i.src ≠ ownMac s i.port → leads (.netFrameRx f) s (fun t => memKept s t ∧ t.role = s.role ∧
                t.net.dups.length = s.net.dups.length +
                  (if s.net.dups.any (fun d => d.1 == i.port / 2 && d.2.1 == i.src && d.2.2.1 == seq) then 0 else 1)))) ∧
          (portOpen s i.port = true → m = true → i.macsec = 1 → i.port < s.net.rxPn.length →
            s.net.rxPn.getD i.port 0 ≤ i.pn + 64 → leads (.netFrameRx f) s (fun t => memKept s t ∧ t.role = s.role ∧
              t.net.rxPn.getD i.port 0 = max (s.net.rxPn.getD i.port 0) (i.pn + 1)))))) ∧
    (∀ p up sp seated fault, p < 5 → leads (.linkChange p up sp seated fault) s (fun t => memKept s t ∧
      t.role = s.role ∧ t.on (Reg.netPortLink p) = up ∧ t.get (Reg.netPortSpeed p) = (if up then sp % 4 else 0) ∧
      (s.on (Reg.netPortLink p) ≠ up → t.on Ev.netLinkChange.flag = true) ∧
      (p < 4 → bitOf (t.get Reg.netStatusLink) p = up))) ∧
    (∀ p d, p < 2 → pairMode (s.conf objNet) p ≠ 0 → portOpen s (2 * p) = true → portOpen s (2 * p + 1) = true →
      d = [s.net.redSeq.getD p 0, 0x01154E000100 + supByte (s.conf objNet) p, supVlan (s.conf objNet) p,
        ownMac s (2 * p)] → leads (.prpSupervision p) s (fun t => t.regs = s.regs ∧ memKept s t ∧
        t.outbox = s.outbox ++ [.net (2 * p) "supervision" d, .net (2 * p + 1) "supervision" d] ∧
        (p < s.net.redSeq.length → t.net.redSeq.getD p 0 = (s.net.redSeq.getD p 0 + 1) % 65536))) ∧
    (∀ p, pairMode (s.conf objNet) p = 0 → exec (.prpSupervision p) s = .next s) ∧
    (∀ p m, leads (.nodeForget p m) s (fun t => memKept s t ∧ t.role = s.role ∧ (p, m) ∉ t.net.nodes ∧
      ∀ n, n ≠ (p, m) → (n ∈ t.net.nodes ↔ n ∈ s.net.nodes))) ∧
    (∀ p src seq d, p < 2 → s.net.dups.find? (fun d => d.1 == p && d.2.1 == src && d.2.2.1 == seq) = some d →
      leads (.entryForget p src seq) s (fun t => memKept s t ∧ t.role = s.role ∧ t.net.dups = s.net.dups.erase d ∧
        t.get (Reg.netRedMissACnt p) =
          (if d.2.2.2 = 2 then min 255 (s.get (Reg.netRedMissACnt p) + 1) else s.get (Reg.netRedMissACnt p)) ∧
        t.get (Reg.netRedMissBCnt p) =
          (if d.2.2.2 = 1 then min 255 (s.get (Reg.netRedMissBCnt p) + 1) else s.get (Reg.netRedMissBCnt p)))) ∧
    (∀ p, p = 2 ∨ p = 3 → portUsed (s.conf objNet) p = true → portMacsec (s.conf objNet) p = true →
      keyInUse s 3 (portCak (s.conf objNet) p) = true → leads (.macsecUp p) s (fun t => memKept s t ∧ t.role = s.role ∧ macsecActive t p = true ∧
        t.on (Reg.netPortMacsecUp p) = true)) ∧
    (∀ p, p = 2 ∨ p = 3 → (macsecActive s p = true → leads (.macsecDown p) s (fun t => memKept s t ∧ t.role = s.role ∧
        macsecActive t p = false ∧ t.on (Reg.netPortMacsecUp p) = false ∧ t.on Ev.netMacsecDown.flag = true)) ∧
      (macsecActive s p = false → exec (.macsecDown p) s = .next s))

/-- Up to 8 associations open on a port that serves MMS, plain TCP only where it is allowed; any other is refused.
Nothing is served to an association that is not open, and a service that its roles do not permit is refused. READ
answers the value of the last output gather; an ENGINEER writes a report control block that no other association
holds; a record that is open is read in order from its start and counts as being read until it is closed, also by
the end of the association. (R277, R278, R490) -/
def Obligations.TheMmsServer : Prop :=
  ∀ (a : Nat) (s : State), a < s.net.mms.length →
    (∀ x : Handshake, (portOpen s x.port && portMms (s.conf objNet) x.port) = false →
      exec (.mmsAssociate x) s = .next s) ∧
    (∀ x : Handshake, portOpen s x.port = true → portMms (s.conf objNet) x.port = true →
      (∀ ok, ok = (if x.tcp = mmsPlainPort then allowPlain (s.conf objNet) else (x.tcp == mmsTlsPort &&
          x.version == 0x0304 && x.auth == 0 && !x.cert.isEmpty && certValid x s && rolesOf s x.roles != 0)) →
        (ok = true → (List.range 8).find? (fun i => !(s.mmsAssoc i).opened) = some a →
          leads (.mmsAssociate x) s (fun t => t.regs = s.regs ∧ memKept s t ∧
            t.mmsAssoc a = ⟨true, x.port, rolesOf s x.roles, x.tcp == mmsPlainPort⟩ ∧
            ∀ b, b ≠ a → t.mmsAssoc b = s.mmsAssoc b)) ∧
        (ok = false ∨ (List.range 8).find? (fun i => !(s.mmsAssoc i).opened) = none →
          exec (.mmsAssociate x) s = .next (netTx x.port "MMS Associate refused" [] s)))) ∧
    (∀ k d p, p = (s.mmsAssoc a).port → portOpen s p = true → (4 ≤ p ∨ pairMode (s.conf objNet) (p / 2) = 0) →
      mmsSend a k d s = s.send (.net p ("MMS " ++ k) (a :: d))) ∧
    (∀ c ∈ [Instr.mmsConclude a, .mmsAbort a], (s.mmsAssoc a).opened = true → leads c s (fun t => t.regs = s.regs ∧
      memKept s t ∧ (t.mmsAssoc a).opened = false ∧ (∀ b, b ≠ a → t.mmsAssoc b = s.mmsAssoc b) ∧
      t.net.files = s.net.files.filter (fun f => !(f.assoc == a)))) ∧
    (∀ x y l v, ∀ c ∈ [Instr.mmsConclude a, .mmsGetNameList a, .mmsIdentify a, .mmsRead a x,
        .mmsGetVariableAccessAttributes a x, .mmsGetNamedVarListAttributes a l, .mmsWriteRcb a x v l,
        .mmsFileDirectory a, .mmsFileOpen a x, .mmsFileRead a x y, .mmsFileClose a x],
      (s.mmsAssoc a).opened = false → exec c s = .next s) ∧
    (∀ x y l v, (s.mmsAssoc a).opened = true →
      (∀ c ∈ [Instr.mmsGetNameList a, .mmsIdentify a, .mmsRead a x, .mmsGetVariableAccessAttributes a x,
          .mmsGetNamedVarListAttributes a l, .mmsFileDirectory a, .mmsFileOpen a x, .mmsFileRead a x y, .mmsFileClose a x],
        mayIssue (s.mmsAssoc a).roles 0 = false → leads c s (fun t => t.regs = s.regs ∧ memKept s t ∧
          t.nvs = s.nvs ∧ t.net.files = s.net.files ∧ ∃ k, t = mmsSend a k [] s)) ∧
      (mayIssue (s.mmsAssoc a).roles 2 = false → leads (.mmsWriteRcb a x v l) s (fun t => t.regs = s.regs ∧
        memKept s t ∧ t.net.rcbs = s.net.rcbs ∧ t = mmsSend a "Write refused" [] s))) ∧
    (mmsMay s a 0 = true →
      (∀ l, ∀ c ∈ [Instr.mmsGetNameList a, .mmsIdentify a, .mmsGetNamedVarListAttributes a l, .mmsFileDirectory a],
        leads c s (fun t => t.regs = s.regs ∧ memKept s t ∧ ∃ k d, t = mmsSend a k d s)) ∧
      (∀ x v, mmsValue s x = some v →
        exec (.mmsRead a x) s = .next (mmsSend a "Read" (x :: timeQuality s :: asNats v.2) s) ∧
        exec (.mmsGetVariableAccessAttributes a x) s =
          .next (mmsSend a "GetVariableAccessAttributes" [x, v.1] s)) ∧
      (∀ x, (∃ c ∈ s.nvs.arch, c.id = x) → leads (.mmsFileOpen a x) s (fun t => t.regs = s.regs ∧ memKept s t ∧
        t.net.files = s.net.files ++ [⟨s.net.nextFrsm, a, x, 0⟩] ∧ t.nvs.reading = x :: s.nvs.reading)) ∧
      (∀ fr n f c, s.net.files.find? (fun f => f.frsm == fr && f.assoc == a) = some f →
        s.nvs.arch.find? (fun c => c.id == f.recId) = some c → c.damaged = false →
        leads (.mmsFileRead a fr n) s (fun t => t.regs = s.regs ∧ memKept s t ∧ t.nvs = s.nvs ∧
          (∃ u, u.outbox = s.outbox ∧ u.regs = s.regs ∧
            t = mmsSend a "FileRead" (fr :: asNats ((c.content.drop f.pos).take n)) u) ∧
          ∀ g ∈ t.net.files, g.frsm = fr → g.pos = f.pos + ((c.content.drop f.pos).take n).length)) ∧
      (∀ fr, leads (.mmsFileClose a fr) s (fun t => t.regs = s.regs ∧ memKept s t ∧
        t.net.files = s.net.files.filter (fun f => !(f.frsm == fr && f.assoc == a))))) ∧
    (∀ k v b, mmsMay s a 2 = true → k < 32 → k < s.net.rcbs.length →
      ((s.net.rcbs.getD k {}).owner = 0xFF ∨ (s.net.rcbs.getD k {}).owner = a →
        leads (.mmsWriteRcb a k v b) s (fun t => t.regs = s.regs ∧ memKept s t ∧ (t.net.rcbs.getD k {}).value = b ∧
          (t.net.rcbs.getD k {}).owner = (if v then a else 0xFF) ∧
          (v = true → (t.net.rcbs.getD k {}).entries = []) ∧
          (∀ p, p = (s.mmsAssoc a).port → portOpen s p = true → (4 ≤ p ∨ pairMode (s.conf objNet) (p / 2) = 0) →
            t.outbox.length = s.outbox.length + 1 + (if v then (s.net.rcbs.getD k {}).entries.length else 0)))) ∧
      ((s.net.rcbs.getD k {}).owner ≠ 0xFF → (s.net.rcbs.getD k {}).owner ≠ a →
        leads (.mmsWriteRcb a k v b) s (fun t => t.regs = s.regs ∧ memKept s t ∧ t.net.rcbs = s.net.rcbs ∧
          t = mmsSend a "Write refused" [k] s)))

/-- GET_STATUS is 64 bytes, GET_SIGNATURES 272 bytes per comparison. HANDOVER of a PRIMARY that R346 does not refuse
names H; otherwise STATE_CONFLICT. LEAVE_GROUP and a removal of a standby lead to role none; an ALONE module refuses
its removal without FORCE, and with it leaves with its outputs driven (that it keeps OWN in role none: log entry
24). At H-8 the singletons stop; at H-1 an owner whose final checkpoints are acknowledged releases OWN and arms,
else H is postponed up to four times; at H the former owner is STANDBY and the new owner PRIMARY. (R346, R347, R348,
R336, R364, R366, R543) -/
def Obligations.RedundancyCommandsAndHandover : Prop :=
  ∀ (i : Nat) (r : Req) (s : State) (ok : Bool),
    (ok = true ↔ s.role = rolePrimary ∧ s.prog.state ≠ .changing ∧ s.pair.handover = none ∧ s.pair.joiner = none ∧
      ∀ p ∈ s.pair.peers, p.role ≠ roleSyncing ∧ (p.role = roleStandby → p.taint = false ∧
        (p.time.valid = true ∨ s.on Reg.sysModeRunNoTime = true))) →
    (requestOk 11 1 noPayload i r s = true → answers (.redundancyGetStatus r) 11 1 i r s (fun p u => u = s ∧
      p.length = 64 ∧ leAt p 0 1 = s.role ∧ leAt p 36 4 = s.pair.mismatches % 2 ^ 32)) ∧
    (requestOk 11 2 noPayload i r s = true →
      (ok = true → s.sec.groupStep = 0 → answers (.redundancyHandover r) 11 2 i r s (fun p u =>
        p = frameBytes (nameFrame s) ∧ u.pair.handover = some (nameFrame s) ∧ u.regs = s.regs ∧ memKept s u)) ∧
      (ok = false ∨ s.sec.groupStep ≠ 0 →
        answersErr (.redundancyHandover r) 11 2 i r s stStateConflict noField (fun u => u = s))) ∧
    (requestOk 11 3 noPayload i r s = true →
      (s.sec.groupStep = 0 → s.role = roleStandby ∨ s.role = roleSyncing ∨ s.role = roleAloneStandby →
        answers (.redundancyLeaveGroup r) 11 3 i r s (fun p u => p = [] ∧ memKept s u ∧ u.role = roleNone ∧
          u.held = false ∧ u.pair.left = true ∧ u.pair.pairOkOut = false)) ∧
      (s.role = rolePrimary ∨ s.role = roleAlone ∨ s.role = roleNone →
        answersErr (.redundancyLeaveGroup r) 11 3 i r s stStateConflict noField (fun u => u = s))) ∧
    (∀ f, requestOk 11 4 (exactly 4) i r s = true → leAt r.payload 0 1 = f → f < 2 → leAt r.payload 1 3 = 0 →
      (s.pair.removal ≠ 0 →
        answersErr (.redundancyRemoveRequest r) 11 4 i r s stStateConflict noField (fun u => u = s)) ∧
      (s.pair.removal = 0 → s.role = rolePrimary → ok = true → answers (.redundancyRemoveRequest r) 11 4 i r s
        (fun p u => p = frameBytes (nameFrame s) ∧ u.pair.handover = some (nameFrame s) ∧ u.pair.removal = 1 ∧
          u.pair.swapLed = 1 ∧ u.regs = s.regs)) ∧
      (s.pair.removal = 0 → s.role = roleStandby ∨ s.role = roleSyncing → answers (.redundancyRemoveRequest r) 11 4 i r s
        (fun p u => p = zeros 8 ∧ memKept s u ∧ u.role = roleNone ∧ u.held = false ∧ u.pair.left = true ∧
          u.pair.swapLed = 2)) ∧
      (s.pair.removal = 0 → s.role = roleAlone → f = 0 →
        answersErr (.redundancyRemoveRequest r) 11 4 i r s stStateConflict noField (fun u =>
          u = { s with pair := { s.pair with swapLed := 3, swapAt := s.mono } }))) ∧
    (requestOk 11 5 (exactly 4) i r s = true → leAt r.payload 1 3 = 0 →
      (leAt r.payload 0 1 = 0 → s.role = roleStandby → answers (.redundancyResync r) 11 5 i r s (fun p u => p = [] ∧
        memKept s u ∧ u.role = roleSyncing ∧ u.on Reg.hhkPairStatusArmed = false)) ∧
      (leAt r.payload 0 1 = 0 → s.role = rolePrimary ∨ s.role = roleAlone →
        answersErr (.redundancyResync r) 11 5 i r s stStateConflict noField (fun u => u = s)) ∧
      (∀ q, leAt r.payload 0 1 = 1 → s.role = rolePrimary ∨ s.role = roleAlone →
        s.pair.peers.find? (fun p => p.role == roleStandby || p.role == roleAloneStandby) = some q →
        answers (.redundancyResync r) 11 5 i r s (fun p u => p = [] ∧ memKept s u ∧
          ∀ x ∈ u.pair.peers, x.slot = q.slot → x.role = roleSyncing)) ∧
      (1 < leAt r.payload 0 1 →
        answersErr (.redundancyResync r) 11 5 i r s stOutOfRange 0 (fun u => u = s))) ∧
    (∀ n, requestOk 11 6 (exactly 4) i r s = true → leAt r.payload 0 1 = n → 1 ≤ n → n ≤ 16 → leAt r.payload 1 3 = 0 →
      answers (.redundancyGetSignatures r) 11 6 i r s (fun p u => u = s ∧
        leAt p 0 1 = min n s.pair.records.length ∧ p.length = 8 + 272 * min n s.pair.records.length)) ∧
    (∀ c ∈ [Instr.buttonPress, .buttonHeld],
      (s.pair.removal ≠ 0 → exec c s = .next s) ∧
      (s.pair.removal = 0 → s.role = rolePrimary → ok = true → leads c s (fun t => t.regs = s.regs ∧
        memKept s t ∧ t.pair.handover = some (nameFrame s) ∧ t.pair.removal = 2 ∧ t.pair.swapLed = 1)) ∧
      (s.pair.removal = 0 → s.role = roleStandby ∨ s.role = roleSyncing → leads c s (fun t => memKept s t ∧
        t.role = roleNone ∧ t.pair.left = true ∧ t.pair.swapLed = 2)) ∧
      (s.pair.removal = 0 → s.role = roleFailed → leads c s (fun t => memKept s t ∧ t.role = roleFailed ∧
        t.pair.restartDue = false ∧ t.pair.swapLed = 2))) ∧
    (s.pair.removal = 0 → s.role = roleAlone →
      exec .buttonPress s = .next { s with pair := { s.pair with swapLed := 3, swapAt := s.mono } } ∧
      leads .buttonHeld s (fun t => memKept s t ∧ t.role = roleNone ∧ t.held = s.held ∧ t.pair.left = true ∧
        t.pair.pairOkOut = false ∧ t.pair.swapLed = 2 ∧
        (s.held = true → s.fio.drive = roleDrive s → t.fio = s.fio) ∧
        ∀ a, 0x60000 ≤ a → a < 0x70000 → t.reg a = s.reg a)) ∧
    (∀ c ∈ [Instr.handoverPrepare, .handoverRelease, .handoverFrame], s.pair.handover = none → exec c s = .next s) ∧
    (∀ h, s.pair.handover = some h →
      (frameIndex s.now + 8 < h → exec .handoverPrepare s = .next s) ∧
      (frameIndex s.now + 1 < h → exec .handoverRelease s = .next s) ∧
      (frameIndex s.now < h → exec .handoverFrame s = .next s)) ∧
    (∀ h, s.pair.handover = some h → s.held = true → h ≤ frameIndex s.now + 8 → leads .handoverPrepare s (fun t => memKept s t ∧ t.role = s.role ∧
      ∀ n, n < 3 → singletonRuns t n = false ∧ bitOf t.pair.unacked n = singletonRuns s n)) ∧
    (∀ h, s.pair.handover = some h → s.held = true → h ≤ frameIndex s.now + 1 →
      (s.pair.unacked = 0 → leads .handoverRelease s (fun t => memKept s t ∧ t.role = s.role ∧ t.held = false ∧
        t.fio.drive = .hold ∧ t.pair.longQuiet = true ∧
        t.on Reg.hhkPairStatusArmed = !s.on Reg.hhkPairStatusKillIn)) ∧
      (s.pair.unacked ≠ 0 → s.pair.postponed < 4 → leads .handoverRelease s (fun t => memKept s t ∧ t.role = s.role ∧
        t.held = true ∧ t.pair.postponed = s.pair.postponed + 1 ∧ t.pair.handover = some (nameFrame s) ∧
        ∀ n, n < 3 → singletonRuns t n = (singletonRuns s n || bitOf s.pair.stopped n))) ∧
      (s.pair.unacked ≠ 0 → 4 ≤ s.pair.postponed → leads .handoverRelease s (fun t => memKept s t ∧ t.role = s.role ∧
        t.held = true ∧ t.pair.handover = none ∧ t.on Ev.hhkPairHandover.flag = true))) ∧
    (∀ h, s.pair.handover = some h → h ≤ frameIndex s.now →
      (s.held = true → leads .handoverFrame s (fun t => memKept s t ∧ t.on Ev.hhkPairHandover.flag = true ∧
        t.pair.handover = none ∧ t.role = (if goodStandby (formerOwners s) then rolePrimary else s.role))) ∧
      (s.held = false → s.role = rolePrimary ∨ s.role = roleAlone → s.pair.removal = 0 → s.sec.fallDue = false →
        s.sec.groupStep ≠ 3 → leads .handoverFrame s (fun t => memKept s t ∧ t.on Ev.hhkPairHandover.flag = true ∧
          t.pair.handover = none ∧
          (s.pair.peers = [] → t.role = roleAloneStandby ∧ t.on Reg.hhkPairStatusArmed = false) ∧
          (s.pair.peers ≠ [] → t.role = roleStandby ∧
            t.on Reg.hhkPairStatusArmed = (!s.taint && !s.on Reg.hhkPairStatusKillIn)))))

/-- FIRMWARE_UP counts a cold start. With no peer for 10 s an eligible module arms where OWN is high, and is
ALONE-standby where it is low. An armed claim drives OWN unless PEER_KILL_IN stands; confirmed low it holds OWN with
its gates open, ALONE from role none or STANDBY, or else it is FAILED with 0x15. PEER_KILL_IN makes the module
FAILED with 0x1A and its stages off. Loss of Hollyhock makes a PRIMARY ALONE and a STANDBY that senses OWN
ALONE-standby; a SYNCING module that loses its owner goes to role none. (R336, R338, R339, R340, R341, R342, R344,
R357, R367, R407) -/
def Obligations.OwnershipAndItsLoss : Prop :=
  ∀ (s : State),
    (∀ a b, (s.sec.fwUp = true ∨ s.sec.dead = true → exec (.firmwareUp a b) s = .next s) ∧
      (s.sec.fwUp = false → s.sec.dead = false → leads (.firmwareUp a b) s (fun t => t.sec.fwUp = true ∧
        t.nvs.coldStarts = s.nvs.coldStarts + (if s.get Reg.pwrRstCauseLastType = 0 then 1 else 0)))) ∧
    (s.role ≠ roleNone → exec .peerWaitExpiry s = .next s) ∧
    (s.role = roleNone → s.sec.fwUp = true → s.pair.left = false → s.pair.peers = [] →
      s.get Reg.sysPositionGroupId ≤ 11 →
      (s.on Reg.hhkPairStatusOwnLine = true → leads .peerWaitExpiry s (fun t => memKept s t ∧
        t.role = roleAloneStandby ∧ t.held = s.held ∧ t.on Reg.hhkPairStatusArmed = false)) ∧
      (s.on Reg.hhkPairStatusOwnLine = false → s.on Reg.hhkPairStatusKillIn = false →
        leads .peerWaitExpiry s (fun t => memKept s t ∧ t.role = roleNone ∧ t.on Reg.hhkPairStatusArmed =
          (s.on Reg.hhkPairStatusArmed || ((!s.taint || s.bench) &&
            (s.on Reg.timStatusValid || s.on Reg.sysModeRunNoTime) && s.cfg.absent.isEmpty))))) ∧
    leads .ownLineFall s (fun t => memKept s t ∧ t.role = s.role ∧ t.on Reg.hhkPairStatusOwnLine = true ∧
      t.pair = { s.pair with ownHigh := t.pair.ownHigh } ∧ t.pair.ownHigh =
        (if s.on Reg.hhkPairStatusOwnLine = true then s.pair.ownHigh else some s.mono)) ∧
    (s.on Reg.hhkPairStatusKillIn = true → leads .quietTimeExpiry s (fun t => memKept s t ∧ t.role = s.role ∧
      t.pair.claiming = false ∧ t.on Reg.hhkPairStatusArmed = false ∧
      t.on Reg.hhkPairStatusOwnLine = (s.held && s.on Reg.hhkPairStatusOwnLine))) ∧
    (s.on Reg.hhkPairStatusKillIn = false →
      (s.on Reg.hhkPairStatusArmed = true → leads .quietTimeExpiry s (fun t => memKept s t ∧ t.role = s.role ∧
        t.pair.claiming = true ∧ t.pair.claimFrom = s.role ∧ t.on Reg.hhkPairStatusArmed = false)) ∧
      (s.on Reg.hhkPairStatusArmed = false → s.held = true → exec .quietTimeExpiry s = .next s) ∧
      (s.on Reg.hhkPairStatusArmed = false → s.held = false → leads .quietTimeExpiry s (fun t => memKept s t ∧
        t.role = s.role ∧ t.on Reg.hhkPairStatusOwnLine = false ∧
        t.pair = { s.pair with ownHigh := some s.mono }))) ∧
    (∀ low gap, s.pair.claiming = false → exec (.claimConfirm low gap) s = .next s) ∧
    (∀ gap, s.pair.claiming = true →
      leads (.claimConfirm false gap) s (fun t => memKept s t ∧ t.on Ev.hhkPairOwnFault.flag = true ∧
        hasFailed 0x15 0xFF t) ∧
      leads (.claimConfirm true gap) s (fun t => memKept s t ∧ t.held = true ∧ t.on Reg.hhkPairStatusOwnLine = true ∧
        (s.on Reg.hhkPairStatusKillIn = false → t.fio.drive = roleDrive t) ∧ t.on Reg.lspStatusClkDrive = true ∧
        t.get Reg.hhkPairGapLastNs = min 65535 gap ∧
        (s.pair.longQuiet = true → t.role = s.role) ∧
        (s.pair.longQuiet = false → t.role = roleAlone) ∧
        (s.pair.longQuiet = false → s.pair.claimFrom = roleStandby → t.pair.takeovers =
          (if s.pair.announced || handoverClaim s then s.pair.takeovers else s.pair.takeovers + 1) ∧
          t.pair.killDue = !(s.pair.announced || handoverClaim s)))) ∧
    (s.held = true → leads .ownFault s (fun t => memKept s t ∧ t.on Ev.hhkPairOwnFault.flag = true ∧
      hasFailed 0x15 0xFF t)) ∧
    (s.held = false → exec .ownFault s = .next s) ∧
    (s.triad = false → killOutDue s = (s.pair.killDue && s.held)) ∧
    (killOutDue s = true → leads .peerKillOutAssert s (fun t => memKept s t ∧ t.role = s.role ∧
      t.on Reg.hhkPairStatusKillOut = true ∧ t.pair.killDue = false)) ∧
    (killOutDue s = false → exec .peerKillOutAssert s = .next s) ∧
    (s.on Reg.hhkPairStatusKillIn = true → exec .peerKillIn s = .next s) ∧
    (s.on Reg.hhkPairStatusKillIn = false → leads .peerKillIn s (fun t => memKept s t ∧
      t.on Ev.hhkPairKilled.flag = true ∧ t.on Reg.hhkPairStatusKillIn = true ∧ t.fio.drive = .off ∧
      hasFailed 0x1A 0xFF t)) ∧
    leads .peerKillInRelease s (fun t => memKept s t ∧ t.role = s.role ∧ t.on Reg.hhkPairStatusKillIn = false ∧
      t.pair.pairOkOut = !(decide (s.role = roleNone ∨ s.role = roleFailed))) ∧
    leads .pairOkMissing s (fun t => memKept s t ∧ t.role = s.role ∧ t.on Reg.hhkPairStatusPairOkAlive = false ∧
      (s.on Reg.hhkPairStatusPairOkAlive = true → s.on Reg.hhkPairStatusOwnLine = true →
        (∀ m, s.pair.ownHigh = some m → m + 2000 ≤ s.mono) → t.on Ev.hhkPairPairLine.flag = true)) ∧
    leads .pairOkEdge s (fun t => memKept s t ∧ t.role = s.role ∧ t.on Reg.hhkPairStatusPairOkAlive = true) ∧
    leads .hollyhockLost s (fun t => memKept s t ∧ t.get Reg.hhkPairStatusHhkUp = 0 ∧ t.held = s.held ∧
      t.on Ev.hhkPairHhkLost.flag = true ∧ t.pair.peers = [] ∧ t.role =
        (if s.role = rolePrimary then roleAlone
          else if s.role = roleStandby ∧ s.on Reg.hhkPairStatusOwnLine = true then roleAloneStandby else s.role) ∧
      (s.role = roleStandby → s.on Reg.hhkPairStatusOwnLine = true → t.on Reg.hhkPairStatusArmed = false)) ∧
    leads .ownerLost s (fun t => memKept s t ∧ t.on Reg.hhkPairStatusOwnLine = false ∧
      t.role = (if s.role = roleSyncing then roleNone else s.role))

/-- A frame whose tag fails, or whose counter does not rise, is counted and discarded; one that is not used changes
neither roles nor memory. A heartbeat of another group sets MISWIRE; of the own group it tells the peer's role, and
an ALONE-standby resyncs. The owner accepts a JOIN, defers it while CHANGING, and refuses another SPLIT or a state
format that neither translates. A page and lines are applied by a SYNCING module; the third failed attempt makes it
FAILED with 0x1B. A module that does not own keeps a checkpoint of up to 1 MiB. (R336, R343, R359, R360, R362, R373,
R374, R553, 04 R139, R465) -/
def Obligations.HollyhockFrames : Prop :=
  ∀ (h : HhkHdr) (s : State),
    (∀ (n k : Nat) (b : Bool) (x : List Byte) (ls : List (Nat × List Byte)) (q : Option Nat) (rp : Option Replica) (f : Fwd)
        (tm : HbTime) (v : Int) (c : Instr) (ty : Nat),
      (c, ty) ∈ [(Instr.heartbeat h n k n k b tm, typeHeartbeat), (.join h b n k n, typeControl), (.leave h, typeControl),
        (.failed h n, typeControl), (.ready h b, typeControl), (.ack h n, typeControl), (.taintRelease h, typeControl),
        (.resyncPage h n x rp, typeResyncPage), (.resyncLines h ls q, typeResyncLines),
        (.checkpoint h n k n x, typeCheckpoint), (.key h x b, typeKey), (.forward h f, typeForward),
        (.delayReq n (some h) k n, typeDelayReq), (.delayResp h v v v v, typeDelayResp)] →
      (h.tagOk = false → exec c s = .next ((s.bump (Reg.hhkpErrAuthCnt h.port)).raise Ev.hhkAuthFail)) ∧
      (h.tagOk = true → h.underOldKey = false → h.counter < assoc s.hhk.lastCtr (ctrKey h) →
        exec c s = .next ((s.bump (Reg.hhkpErrAuthCnt h.port)).raise Ev.hhkReplay)) ∧
      (frameUsed ty h s = false → leads c s (fun t => memKept s t ∧ t.role = s.role ∧ t.pair = s.pair ∧
        t.prog = s.prog ∧ t.cfg = s.cfg))) ∧
    (∀ (sp ok : Bool) (v a b n : Nat) (c : Instr), c ∈ [Instr.join h sp v a b, .leave h, .failed h n, .ready h ok, .ack h n,
        .taintRelease h] → frameUsed typeControl h s = true → forAnother h s = true → leads c s (fun t => memKept s t ∧
      t.role = s.role ∧ t.pair = s.pair ∧ t.prog = s.prog ∧
      (∃ d, t.outbox = s.outbox ++ [.peer [byPort s (portFacing s h.dst) h.dst true] "RELAY" h.segment true d]) ∧
      (portFacing s h.dst < 2 → t.get (Reg.hhkpErrRelayCnt (portFacing s h.dst)) =
        min 255 (s.get (Reg.hhkpErrRelayCnt (portFacing s h.dst)) + 1)))) ∧
    (s.sec.fwUp = true → s.hhk.txCtr.length = 2 → leads .heartbeatTx s (fun t => t.regs = s.regs ∧ memKept s t ∧
      t.outbox.length = s.outbox.length + 2 ∧ t.hhk.txCtr = s.hhk.txCtr.map (· + 1))) ∧
    (s.sec.fwUp = false → exec .heartbeatTx s = .next s) ∧
    (∀ gi sl rk ro ta tm, frameUsed typeHeartbeat h s = true →
      (gi ≠ s.get Reg.sysPositionGroupId → leads (.heartbeat h gi sl rk ro ta tm) s (fun t => memKept s t ∧
        t.role = s.role ∧ t.pair = s.pair ∧ bitOf t.hhk.miswired h.port = true ∧ t.on Ev.hhkMiswire.flag = true)) ∧
      (gi = s.get Reg.sysPositionGroupId → leads (.heartbeat h gi sl rk ro ta tm) s (fun t => memKept s t ∧
        bitOf t.hhk.miswired h.port = false ∧ (∃ p ∈ t.pair.peers, p.slot = sl ∧ p.role = ro ∧ p.rank = rk ∧ p.time = tm) ∧
        (s.role = roleAloneStandby → t.role = roleSyncing) ∧
        (s.role = roleStandby ∨ s.role = roleAlone ∨ s.role = roleFailed → t.role = s.role)))) ∧
    (∀ sp v a b, frameUsed typeControl h s = true → forAnother h s = false →
      (s.held = false → leads (.join h sp v a b) s (fun t => memKept s t ∧ t.role = s.role ∧ t.pair = s.pair)) ∧
      (s.held = true → s.role = rolePrimary ∨ s.role = roleAlone →
        (sp ≠ s.on Reg.sysModeSplit ∨ stateTranslates s a b = false → leads (.join h sp v a b) s (fun t => memKept s t ∧
          t.role = s.role ∧ t.hhk.ctlSeq = (s.hhk.ctlSeq + 1) % 65536 ∧ t.pair = s.pair ∧ ∃ w w', t.outbox = s.outbox ++ [.peer w "JOIN_REFUSE" s.hhk.ctlSeq true [h.srcSlot],
            .peer w' "FORWARD" 0 true [23, h.srcSlot, 0]] ∧ ∀ x ∈ w, s.triad = true → x.dst = h.srcSlot)) ∧
        (sp = s.on Reg.sysModeSplit → stateTranslates s a b = true → s.prog.state = .changing →
          leads (.join h sp v a b) s (fun t => memKept s t ∧ t.role = s.role ∧ t.pair.joiner = s.pair.joiner ∧
            t.pair.deferred = (if s.pair.deferred.contains h.srcSlot then s.pair.deferred
              else s.pair.deferred ++ [h.srcSlot]))) ∧
        (sp = s.on Reg.sysModeSplit → stateTranslates s a b = true → s.prog.state ≠ .changing →
          leads (.join h sp v a b) s (fun t => memKept s t ∧ t.role = s.role ∧ t.pair.joiner = some h.srcSlot ∧ t.get Reg.hhkPairResyncPhase = 1 ∧
          (s.pair.killed = none ∨ s.pair.killed = some h.srcSlot → t.on Reg.hhkPairStatusKillOut = false) ∧
          t.pair.acceptedAt = s.mono ∧ ∃ w n d, .peer w "KEY" n true d ∈ t.outbox)))) ∧
    (frameUsed typeControl h s = true → forAnother h s = false →
      leads (.leave h) s (fun t => memKept s t ∧ t.held = s.held ∧ (∀ p ∈ t.pair.peers, p.slot ≠ h.srcSlot) ∧
        t.pair.joiner ≠ some h.srcSlot ∧ (s.role = rolePrimary → t.role =
          (if s.pair.peers.any (fun p => p.slot != h.srcSlot && p.role == roleStandby && !p.taint)
            then rolePrimary else roleAlone))) ∧
      (∀ n, leads (.failed h n) s (fun t => memKept s t ∧ t.held = s.held ∧
        (∀ p ∈ t.pair.peers, p.slot = h.srcSlot → p.role = roleFailed) ∧ t.pair.joiner ≠ some h.srcSlot ∧
        (s.role = rolePrimary → t.role =
          (if s.pair.peers.any (fun p => p.slot != h.srcSlot && p.role == roleStandby && !p.taint)
            then rolePrimary else roleAlone)))) ∧
      (∀ ok, s.prog.change = none → leads (.ready h ok) s (fun t => memKept s t ∧ t.prog = s.prog)) ∧
      (∀ c, s.prog.change = some c → s.prog.state = .changing →
        leads (.ready h true) s (fun t => memKept s t ∧ t.role = s.role ∧ ∃ c', t.prog.change = some c' ∧
          c'.ready = h.srcSlot :: c.ready) ∧
        leads (.ready h false) s (fun t => ((∀ i, i < 16 → ringsIdle i s = true) → memKept s t) ∧ t.prog.change = none ∧ t.prog.state = .run ∧
          t.prog.staged = none)) ∧
      (∀ n, leads (.ack h n) s (fun t => memKept s t ∧ t.role = s.role ∧ bitOf t.pair.unacked n = false)) ∧
      leads (.taintRelease h) s (fun t => memKept s t ∧ t.role = s.role ∧ t.pair.announced = true)) ∧
    (frameUsed typeForward h s = true → (∀ f, completes (.forward h f) s) ∧
      (∀ o, leads (.forward h (.discard o)) s (fun t => t.role = s.role ∧ objGet t.cfg.staged o = [])) ∧
      (∀ o b, leads (.forward h (.stage o b)) s (fun t => t.role = s.role ∧ objGet t.cfg.staged o = b)) ∧
      (∀ o k b, o ≠ objBoot → leads (.forward h (.settings o k b)) s (fun t => t.role = s.role ∧
        objGet t.cfg.stored o = b ∧ t.cfg.next = s.cfg.next ++ [(o, k, b)])) ∧
      leads (.forward h .lockFree) s (fun t => t.role = s.role ∧ t.sec.lock = none ∧ t.on Reg.secStatusLock = false)) ∧
    (∀ a d rp, frameUsed typeResyncPage h s = true →
      (s.role ≠ roleSyncing → leads (.resyncPage h a d rp) s (fun t => memKept s t ∧ t.pair = s.pair ∧
        t.prog = s.prog)) ∧
      (s.role = roleSyncing → d.length ≤ 4096 → leads (.resyncPage h a d rp) s (fun t => t.role = s.role ∧
        t.bytes a d.length = d ∧ (∀ x, x < a ∨ a + d.length ≤ x → t.byte x = s.byte x) ∧
        t.get Reg.hhkPairResyncPhase = 1 ∧ (∀ z, rp = some z → t.prog.active = z.unit ∧ t.prog.outVals = z.outVals ∧
          t.ast = z.ast ∧ t.lsp.marks = s.lsp.marks ∧ ∀ n c, n < 3 → n < s.pair.ckpts.length →
            z.ckpts.getD n none = some c → t.pair.ckpts.getD n none = some { c with arrived := s.mono })))) ∧
    (∀ ls q, frameUsed typeResyncLines h s = true → s.role = roleSyncing →
      leads (.resyncLines h ls q) s (fun t => t.role = s.role ∧
        (∀ x, (∀ p ∈ ls, x < p.1 ∨ p.1 + 64 ≤ x) → t.byte x = s.byte x) ∧
        (∀ a d, ls = [(a, d)] → d.length ≤ 64 → t.bytes a d.length = d) ∧
        t.get Reg.hhkPairResyncPhase = (if q = none then 2 else 3) ∧ (∀ f, q = some f → t.pair.qFrame = some f))) ∧
    ((s.role ≠ roleSyncing ∧ s.pair.joiner = none) ∨ s.mono < s.pair.acceptedAt + 5000000000 →
      exec .resyncTimeout s = .next s) ∧
    (s.role = roleSyncing → s.pair.acceptedAt + 5000000000 ≤ s.mono →
      (2 ≤ s.pair.attempts → leads .resyncTimeout s (fun t => memKept s t ∧ hasFailed 0x1B 0xFF t)) ∧
      (s.pair.attempts < 2 → leads .resyncTimeout s (fun t => memKept s t ∧ t.role = roleSyncing ∧
        t.pair.attempts = s.pair.attempts + 1 ∧ t.get Reg.hhkPairResyncPhase = 0))) ∧
    (s.role ≠ roleSyncing → s.pair.acceptedAt + 5000000000 ≤ s.mono → ∀ j, s.pair.joiner = some j → leads .resyncTimeout s (fun t => memKept s t ∧
      t.role = s.role ∧ t.pair.joiner = (if 2 ≤ s.pair.attempts then none else some j))) ∧
    (s.held = true → anyStandby s = true → leads .checkpointSend s (fun t => t.regs = s.regs ∧ memKept s t ∧
      ∀ n, n < 3 → n < s.pair.ckptSeq.length → t.pair.ckptSeq.getD n 0 =
        s.pair.ckptSeq.getD n 0 + (if singletonRuns s n then 1 else 0))) ∧
    (s.held = false → exec .checkpointSend s = .next s) ∧
    (∀ n sq fr d, frameUsed typeCheckpoint h s = true →
      (s.held = true → leads (.checkpoint h n sq fr d) s (fun t => memKept s t ∧ t.pair = s.pair)) ∧
      (s.held = false → n < 3 → n < s.pair.ckpts.length → d.length ≤ 1048576 →
        leads (.checkpoint h n sq fr d) s (fun t => memKept s t ∧ t.role = s.role ∧
          t.pair.ckpts.getD n none = some ⟨sq, fr, d, s.mono⟩ ∧ t.on (Reg.hhkPairCkptValid n) = true ∧
          t.get (Reg.hhkPairCkptAgeMs n) = 0 ∧ singletonRuns t n = singletonRuns s n)))

/-- A lane moves TRAIN, CHECK, READY and UP under its own commands, back to TRAIN by an errored block in CHECK, and
out of UP to DOWN, which loses its port with the last lane. New keys advance KEY_EPOCH and restart the counters, and
the previous key is accepted until it expires. A delay exchange enters the last 16 of its port; their median is
shown, and a jump of it by more than 1 ns is flagged. (R369, R370, R373, R375, R391) -/
def Obligations.HollyhockLanesKeysAndDelay : Prop :=
  ∀ (s : State),
    (∀ p l, p < 2 → l < 2 →
      (∀ cv, leads (.laneTrainComplete p l cv) s (fun t => memKept s t ∧ t.role = s.role ∧ t.get (laneFld p l) =
        (if s.get (laneFld p l) = laneTrain then (if cv then laneCheck else laneDown) else s.get (laneFld p l)))) ∧
      leads (.laneCheckComplete p l) s (fun t => memKept s t ∧ t.role = s.role ∧ t.get (laneFld p l) =
        (if s.get (laneFld p l) = laneCheck then laneReady else s.get (laneFld p l))) ∧
      leads (.laneErroredBlock p l) s (fun t => memKept s t ∧ t.role = s.role ∧ t.get (laneFld p l) =
        (if s.get (laneFld p l) = laneCheck then laneTrain else s.get (laneFld p l)) ∧
        t.get (Reg.hhkpErrBlockErrCnt p) = min 255 (s.get (Reg.hhkpErrBlockErrCnt p) + 1)) ∧
      (s.get (laneFld p l) ≠ laneUp → ∀ k, exec (.laneLost p l k) s = .next s) ∧
      (s.get (laneFld p l) = laneUp → ∀ k, leads (.laneLost p l k) s (fun t => memKept s t ∧ t.role = s.role ∧
        t.get (laneFld p l) = laneDown ∧ t.on Ev.hhkLaneLost.flag = true ∧
        bitOf (t.get Reg.hhkStatusLaneUp) (2 * p + l) = false ∧
        t.get (Reg.hhkpErrLostFrameCnt p) = min 255 (s.get (Reg.hhkpErrLostFrameCnt p) + k) ∧
        bitOf (t.get Reg.hhkPairStatusHhkUp) p =
          (bitOf (s.get Reg.hhkPairStatusHhkUp) p && decide (s.get (laneFld p (1 - l)) = laneUp)))) ∧
      leads (.laneRetrain p l) s (fun t => memKept s t ∧ t.role = s.role ∧ t.get (laneFld p l) =
        (if s.get (laneFld p l) = laneDown ∧ s.hhk.enabled.getD p false = true then laneTrain
          else s.get (laneFld p l))) ∧
      (s.get (laneFld p l) = laneReady → leads (.laneRebond p l) s (fun t => memKept s t ∧ t.role = s.role ∧
        t.get (laneFld p l) = laneUp ∧ t.on Ev.hhkLaneBack.flag = true ∧
        bitOf (t.get Reg.hhkStatusLaneUp) (2 * p + l) = true)) ∧
      (s.get (laneFld p l) ≠ laneReady → exec (.laneRebond p l) s = .next s)) ∧
    (∀ h, frameUsed typeKey h s = true →
      ∀ ch, leads (.key h ch false) s (fun t => memKept s t ∧
        if peerTrusted h.srcSlot ch s = true then t.role = s.role ∧
          t.hhk.keyMsgs = s.hhk.keyMsgs ++ [h.srcSlot] ∧ t.get Reg.hhkStatusKeyEpoch = s.get Reg.hhkStatusKeyEpoch ∧
          ∃ w, .peer w "KEY" s.hhk.ctlSeq true [s.get Reg.hhkStatusKeyEpoch + 1] ∈ t.outbox
        else keyRefusedAs h.srcSlot s t) ∧
      leads (.key h ch true) s (fun t => memKept s t ∧
        if peerTrusted h.srcSlot ch s = true then t.role = s.role ∧ (h.srcSlot, s.mono) ∈ t.hhk.oldKeys ∧
          t.get Reg.hhkStatusKeyEpoch = (s.get Reg.hhkStatusKeyEpoch + 1) % 65536 ∧
          t.on Ev.secKeyRotated.flag = true ∧
          (∀ p, p < 2 → (facedSlot s p = h.srcSlot → t.hhk.txCtr.getD p 0 = 0 ∧ bitOf (t.get Reg.hhkStatusKeyOk) p = true) ∧
            (facedSlot s p ≠ h.srcSlot → t.hhk.txCtr.getD p 0 = s.hhk.txCtr.getD p 0 ∧
              bitOf (t.get Reg.hhkStatusKeyOk) p = bitOf (s.get Reg.hhkStatusKeyOk) p))
        else keyRefusedAs h.srcSlot s t)) ∧
    leads .keyRenewal s (fun t => memKept s t ∧ t.role = s.role ∧ t.hhk.txCtr = [0, 0] ∧
      (∀ p, p < 2 → (facedSlot s p, s.mono) ∈ t.hhk.oldKeys) ∧
      t.get Reg.hhkStatusKeyEpoch = (s.get Reg.hhkStatusKeyEpoch + 1) % 65536 ∧
      ∀ h : HhkHdr, h.underOldKey = false → h.port < 2 → h.srcSlot = facedSlot s h.port → h.srcSlot < 64 →
        assoc t.hhk.lastCtr (ctrKey h) = 0) ∧
    leads .oldKeyExpiry s (fun t => t.regs = s.regs ∧ memKept s t ∧ t.pair = s.pair ∧
      (∀ k ∈ s.hhk.oldKeys.head?, t.hhk.oldKeys = s.hhk.oldKeys.filter (fun (x : Nat × Nat) => x.2 != k.2)) ∧
      (s.hhk.oldKeys = [] → t = s)) ∧
    (∀ p a d, (portWired s p = false → exec (.delayReq p none a d) s = .next s) ∧
      (portWired s p = true → p < s.hhk.reqAt.length → leads (.delayReq p none a d) s (fun t => t.regs = s.regs ∧
        memKept s t ∧ t.hhk.reqAt.getD p 0 = d ∧
        t.outbox = s.outbox ++ [.peer [byPort s p (facedSlot s p) false] "DELAY_REQ" 0 true []]))) ∧
    (∀ p h a d, frameUsed typeDelayReq h s = true → leads (.delayReq p (some h) a d) s (fun t => memKept s t ∧
      t.role = s.role ∧ t.outbox = s.outbox ++ [.peer [byPort s h.port (facedSlot s h.port) false] "DELAY_RESP" 0 true
        [a, d]])) ∧
    (∀ (h : HhkHdr) (t1 t2 t3 t4 : Int) (old new : List Exchange), frameUsed typeDelayResp h s = true → h.port < 2 →
      h.port < s.hhk.exch.length → old = s.hhk.exch.getD h.port [] →
      new = (⟨((t4 - t1) - (t3 - t2)) / 2, ((t2 - t1) - (t4 - t3)) / 2⟩ :: old).take 16 →
      leads (.delayResp h t1 t2 t3 t4) s (fun t => memKept s t ∧ t.role = s.role ∧
        t.hhk.exch.getD h.port [] = new ∧
        t.get (Reg.hhkpDelayDelayPs h.port) = (medianInt (new.map (·.delay))).toNat % 2 ^ 32 ∧
        (old ≠ [] → 1000 < (medianInt (new.map (·.delay)) - medianInt (old.map (·.delay))).natAbs →
          t.on Ev.hhkDelayJump.flag = true)))
end

