-- ==== Sys2Proof/Laws/Fields.lean ====
section
/-! SUPPORT. Fields of a register word: a field reads what was put into it, and every field apart from it keeps its
value. -/

namespace Sys2Proof.Machine

/-- The places of a field in a 32-bit word. -/
def Fld.ok (f : Fld) : Bool := decide (f.lo ≤ f.hi) && decide (f.hi < 32)

/-- Two fields share no bit. -/
def Fld.apart (f g : Fld) : Bool := decide (f.addr ≠ g.addr) || decide (f.hi < g.lo) || decide (g.hi < f.lo)

theorem fieldOf_lt (w : Word) (hi lo : Nat) : fieldOf w hi lo < 2 ^ (hi + 1 - lo) := Nat.mod_lt _ (by positivity)

/-- A digit and what lies below it. -/
theorem digit_lt (v b m n : Nat) (hv : v < m) (hb : b < n) : v * n + b < m * n := by
  have : (v + 1) * n ≤ m * n := Nat.mul_le_mul_right n hv
  rw [Nat.add_mul] at this
  omega

/-- A word as what lies above a field, the field and what lies below it. -/
theorem word_split (n hi lo : Nat) (h : lo ≤ hi) :
    n = n / 2 ^ (hi + 1) * 2 ^ (hi + 1) + n / 2 ^ lo % 2 ^ (hi + 1 - lo) * 2 ^ lo + n % 2 ^ lo := by
  have e : 2 ^ (hi + 1) = 2 ^ lo * 2 ^ (hi + 1 - lo) := by rw [← pow_add]; congr 1; omega
  have h1 := Nat.div_add_mod n (2 ^ lo)
  have h2 := Nat.div_add_mod (n / 2 ^ lo) (2 ^ (hi + 1 - lo))
  have h3 : n / 2 ^ (hi + 1) = n / 2 ^ lo / 2 ^ (hi + 1 - lo) := by rw [e, Nat.div_div_eq_div_mul]
  rw [h3, e]
  generalize n / 2 ^ lo / 2 ^ (hi + 1 - lo) = a at *
  generalize n / 2 ^ lo % 2 ^ (hi + 1 - lo) = f at *
  conv_lhs => rw [← h1, ← h2]
  ring

/-- The number that `putField` leaves. -/
theorem putField_toNat (w : Word) (hi lo v : Nat) (h : lo ≤ hi) (h' : hi < 32) :
    (putField w hi lo v).toNat =
      w.toNat / 2 ^ (hi + 1) * 2 ^ (hi + 1) + v % 2 ^ (hi + 1 - lo) * 2 ^ lo + w.toNat % 2 ^ lo := by
  have hw : w.toNat < 2 ^ 32 := w.isLt
  have hs := word_split w.toNat hi lo h
  have hv : v % 2 ^ (hi + 1 - lo) < 2 ^ (hi + 1 - lo) := Nat.mod_lt _ (by positivity)
  have hb : w.toNat % 2 ^ lo < 2 ^ lo := Nat.mod_lt _ (by positivity)
  have e : 2 ^ (hi + 1) = 2 ^ lo * 2 ^ (hi + 1 - lo) := by rw [← pow_add]; congr 1; omega
  have ea : 2 ^ 32 = 2 ^ (hi + 1) * 2 ^ (31 - hi) := by rw [← pow_add]; congr 1; omega
  have ha : w.toNat / 2 ^ (hi + 1) < 2 ^ (31 - hi) := by
    rw [Nat.div_lt_iff_lt_mul (by positivity), mul_comm, ← ea]; exact hw
  have hlt : v % 2 ^ (hi + 1 - lo) * 2 ^ lo + w.toNat % 2 ^ lo < 2 ^ (hi + 1) := by
    rw [e, Nat.mul_comm (2 ^ lo)]; exact digit_lt _ _ _ _ hv hb
  have hall : w.toNat / 2 ^ (hi + 1) * 2 ^ (hi + 1) + v % 2 ^ (hi + 1 - lo) * 2 ^ lo + w.toNat % 2 ^ lo < 2 ^ 32 := by
    rw [ea, Nat.add_assoc, Nat.mul_comm (2 ^ (hi + 1)) (2 ^ (31 - hi))]; exact digit_lt _ _ _ _ ha hlt
  unfold putField fieldOf
  rw [BitVec.toNat_ofNat]
  have : w.toNat - w.toNat / 2 ^ lo % 2 ^ (hi + 1 - lo) * 2 ^ lo + v % 2 ^ (hi + 1 - lo) * 2 ^ lo =
      w.toNat / 2 ^ (hi + 1) * 2 ^ (hi + 1) + v % 2 ^ (hi + 1 - lo) * 2 ^ lo + w.toNat % 2 ^ lo := by omega
  rw [this, Nat.mod_eq_of_lt hall]

/-- A field reads what was put into it. -/
theorem fieldOf_putField_same (w : Word) (hi lo v : Nat) (h : lo ≤ hi) (h' : hi < 32) :
    fieldOf (putField w hi lo v) hi lo = v % 2 ^ (hi + 1 - lo) := by
  have e : 2 ^ (hi + 1) = 2 ^ (hi + 1 - lo) * 2 ^ lo := by rw [← pow_add]; congr 1; omega
  have hb : w.toNat % 2 ^ lo < 2 ^ lo := Nat.mod_lt _ (by positivity)
  have hv : v % 2 ^ (hi + 1 - lo) < 2 ^ (hi + 1 - lo) := Nat.mod_lt _ (by positivity)
  unfold fieldOf
  rw [putField_toNat w hi lo v h h']
  have : w.toNat / 2 ^ (hi + 1) * 2 ^ (hi + 1) + v % 2 ^ (hi + 1 - lo) * 2 ^ lo + w.toNat % 2 ^ lo =
      w.toNat % 2 ^ lo + 2 ^ lo * (w.toNat / 2 ^ (hi + 1) * 2 ^ (hi + 1 - lo) + v % 2 ^ (hi + 1 - lo)) := by
    rw [e]; ring
  rw [this, Nat.add_mul_div_left _ _ (by positivity), Nat.div_eq_of_lt hb, Nat.zero_add, Nat.add_comm,
    Nat.add_mul_mod_self_right, Nat.mod_eq_of_lt hv]

/-- A field above the one written keeps its value. -/
theorem fieldOf_putField_above (w : Word) (hi lo v hi' lo' : Nat) (h : lo ≤ hi) (h' : hi < 32) (ha : hi < lo') :
    fieldOf (putField w hi lo v) hi' lo' = fieldOf w hi' lo' := by
  have e : 2 ^ (hi + 1) = 2 ^ (hi + 1 - lo) * 2 ^ lo := by rw [← pow_add]; congr 1; omega
  have hb : w.toNat % 2 ^ lo < 2 ^ lo := Nat.mod_lt _ (by positivity)
  have hv : v % 2 ^ (hi + 1 - lo) < 2 ^ (hi + 1 - lo) := Nat.mod_lt _ (by positivity)
  have hlt : v % 2 ^ (hi + 1 - lo) * 2 ^ lo + w.toNat % 2 ^ lo < 2 ^ (hi + 1) := by rw [e]; exact digit_lt _ _ _ _ hv hb
  have e' : 2 ^ lo' = 2 ^ (hi + 1) * 2 ^ (lo' - (hi + 1)) := by rw [← pow_add]; congr 1; omega
  unfold fieldOf
  rw [putField_toNat w hi lo v h h', e', ← Nat.div_div_eq_div_mul, ← Nat.div_div_eq_div_mul]
  have : w.toNat / 2 ^ (hi + 1) * 2 ^ (hi + 1) + v % 2 ^ (hi + 1 - lo) * 2 ^ lo + w.toNat % 2 ^ lo =
      (v % 2 ^ (hi + 1 - lo) * 2 ^ lo + w.toNat % 2 ^ lo) + 2 ^ (hi + 1) * (w.toNat / 2 ^ (hi + 1)) := by ring
  rw [this, Nat.add_mul_div_left _ _ (by positivity), Nat.div_eq_of_lt hlt, Nat.zero_add]

/-- A field below the one written keeps its value. -/
theorem fieldOf_putField_below (w : Word) (hi lo v hi' lo' : Nat) (h : lo ≤ hi) (h' : hi < 32) (hb : hi' < lo) :
    fieldOf (putField w hi lo v) hi' lo' = fieldOf w hi' lo' := by
  rcases Nat.lt_or_ge hi' lo' with hx | hx
  · have : hi' + 1 - lo' = 0 := by omega
    simp [fieldOf, this, Nat.mod_one]
  have e : 2 ^ (hi + 1) = 2 ^ lo * 2 ^ (hi + 1 - lo) := by rw [← pow_add]; congr 1; omega
  have hm : (putField w hi lo v).toNat % 2 ^ lo = w.toNat % 2 ^ lo := by
    rw [putField_toNat w hi lo v h h']
    have : w.toNat / 2 ^ (hi + 1) * 2 ^ (hi + 1) + v % 2 ^ (hi + 1 - lo) * 2 ^ lo + w.toNat % 2 ^ lo =
        w.toNat % 2 ^ lo + 2 ^ lo * (w.toNat / 2 ^ (hi + 1) * 2 ^ (hi + 1 - lo) + v % 2 ^ (hi + 1 - lo)) := by
      rw [e]; ring
    rw [this, Nat.add_mul_mod_self_left, Nat.mod_mod]
  have key (n : Nat) : n / 2 ^ lo' % 2 ^ (hi' + 1 - lo') = n % 2 ^ lo / 2 ^ lo' % 2 ^ (hi' + 1 - lo') := by
    have e1 : 2 ^ (hi' + 1) = 2 ^ lo' * 2 ^ (hi' + 1 - lo') := by rw [← pow_add]; congr 1; omega
    have e2 : 2 ^ lo = 2 ^ (hi' + 1) * 2 ^ (lo - (hi' + 1)) := by rw [← pow_add]; congr 1; omega
    have h1 : n / 2 ^ lo' % 2 ^ (hi' + 1 - lo') = n % 2 ^ (hi' + 1) / 2 ^ lo' := by
      rw [e1, Nat.mod_mul_right_div_self]
    have h2 : n % 2 ^ lo / 2 ^ lo' % 2 ^ (hi' + 1 - lo') = n % 2 ^ lo % 2 ^ (hi' + 1) / 2 ^ lo' := by
      rw [e1, Nat.mod_mul_right_div_self]
    rw [h1, h2, e2, Nat.mod_mul_right_mod]
  unfold fieldOf
  rw [key, key w.toNat, hm]

end Sys2Proof.Machine
end

