-- ==== Sys2Proof/Laws/Lists.lean ====
section
/-! SUPPORT. The lists kept in canonical form: reading after writing, and that every operation keeps the form. -/

namespace Sys2Proof.Machine

variable {β : Type}

theorem kvGet_insert_same (d : Nat → β) (a : Nat) (b : β) (l : List (Nat × β)) (h : ∀ p ∈ l, p.1 ≠ a) :
    kvGet d a (kvInsert a b l) = b := by
  induction l with
  | nil => simp [kvInsert, kvGet]
  | cons p r ih =>
    have hp := h p (by simp)
    simp only [kvInsert]
    split
    · simp [kvGet]
    · simp [kvGet, hp, ih (fun q hq => h q (by simp [hq]))]

theorem kvGet_insert_other (d : Nat → β) (a k : Nat) (b : β) (l : List (Nat × β)) (h : k ≠ a) :
    kvGet d k (kvInsert a b l) = kvGet d k l := by
  induction l with
  | nil => simp [kvInsert, kvGet, h.symm]
  | cons p r ih =>
    simp only [kvInsert]
    split
    · simp [kvGet, h.symm]
    · simp only [kvGet, ih]

theorem kvGet_filter_ne (d : Nat → β) (a k : Nat) (l : List (Nat × β)) (h : k ≠ a) :
    kvGet d k (l.filter (fun p => decide (p.1 ≠ a))) = kvGet d k l := by
  induction l with
  | nil => rfl
  | cons p r ih =>
    by_cases hp : p.1 = a
    · have : p.1 ≠ k := by omega
      simp_all [kvGet]
    · simp only [List.filter_cons, hp, ne_eq, not_false_eq_true, decide_true, ↓reduceIte, kvGet]
      simp_all

theorem kvGet_absent (d : Nat → β) (a : Nat) (l : List (Nat × β)) (h : ∀ p ∈ l, p.1 ≠ a) : kvGet d a l = d a := by
  induction l with
  | nil => rfl
  | cons p r ih => simp [kvGet, h p (by simp), ih (fun q hq => h q (by simp [hq]))]

/-- A key reads what was written under it. -/
theorem kvGet_kvPut_same [DecidableEq β] (d : Nat → β) (a : Nat) (b : β) (l : List (Nat × β)) :
    kvGet d a (kvPut d a b l) = b := by
  have hf : ∀ p ∈ l.filter (fun p => decide (p.1 ≠ a)), p.1 ≠ a := by
    intro p hp; simpa using (List.mem_filter.mp hp).2
  unfold kvPut
  split
  · rename_i hb
    rw [kvGet_absent d a _ hf, hb]
  · exact kvGet_insert_same d a b _ hf

/-- Every other key reads as before. -/
theorem kvGet_kvPut_other [DecidableEq β] (d : Nat → β) (a k : Nat) (b : β) (l : List (Nat × β)) (h : k ≠ a) :
    kvGet d k (kvPut d a b l) = kvGet d k l := by
  unfold kvPut
  split
  · exact kvGet_filter_ne d a k l h
  · rw [kvGet_insert_other d a k b _ h, kvGet_filter_ne d a k l h]

/-! ### The canonical form is kept -/

theorem kvRising_cons (p : Nat × β) (l : List (Nat × β)) :
    kvRising (p :: l) = true ↔ (∀ q ∈ l, p.1 < q.1) ∧ kvRising l = true := by
  induction l generalizing p with
  | nil => simp [kvRising]
  | cons q r ih =>
    obtain ⟨k, b⟩ := p
    obtain ⟨k', b'⟩ := q
    have e : kvRising ((k, b) :: (k', b') :: r) = (decide (k < k') && kvRising ((k', b') :: r)) := rfl
    rw [e]
    simp only [Bool.and_eq_true, decide_eq_true_eq, List.mem_cons, forall_eq_or_imp]
    constructor
    · rintro ⟨h1, h2⟩
      refine ⟨⟨h1, ?_⟩, h2⟩
      intro x hx
      have := (ih (k', b')).mp h2
      have := this.1 x hx
      simp only at this; omega
    · rintro ⟨⟨h1, -⟩, h2⟩
      exact ⟨h1, h2⟩

theorem kvRising_filter (l : List (Nat × β)) (f : Nat × β → Bool) (h : kvRising l = true) :
    kvRising (l.filter f) = true := by
  induction l with
  | nil => rfl
  | cons p r ih =>
    rw [kvRising_cons] at h
    by_cases hp : f p = true
    · rw [List.filter_cons, if_pos hp, kvRising_cons]
      exact ⟨fun q hq => h.1 q (List.mem_filter.mp hq).1, ih h.2⟩
    · rw [List.filter_cons, if_neg hp]
      exact ih h.2

theorem kvInsert_mem (a : Nat) (b : β) (l : List (Nat × β)) (q : Nat × β) (h : q ∈ kvInsert a b l) :
    q = (a, b) ∨ q ∈ l := by
  induction l with
  | nil => simpa [kvInsert] using h
  | cons p r ih =>
    simp only [kvInsert] at h
    split at h
    · simpa using h
    · rcases List.mem_cons.mp h with h | h
      · exact .inr (by simp [h])
      · rcases ih h with h | h
        · exact .inl h
        · exact .inr (by simp [h])

theorem kvRising_insert (a : Nat) (b : β) (l : List (Nat × β)) (h : kvRising l = true) (hn : ∀ p ∈ l, p.1 ≠ a) :
    kvRising (kvInsert a b l) = true := by
  induction l with
  | nil => rfl
  | cons p r ih =>
    rw [kvRising_cons] at h
    simp only [kvInsert]
    split
    · rename_i hlt
      rw [kvRising_cons]
      refine ⟨?_, by rw [kvRising_cons]; exact h⟩
      intro q hq
      rcases List.mem_cons.mp hq with rfl | hq
      · exact hlt
      · have := h.1 q hq
        simp only at hlt ⊢; omega
    · rename_i hlt
      rw [kvRising_cons]
      refine ⟨?_, ih h.2 (fun q hq => hn q (by simp [hq]))⟩
      intro q hq
      rcases kvInsert_mem a b r q hq with rfl | hq
      · have := hn p (by simp)
        simp only at hlt ⊢; omega
      · exact h.1 q hq

/-- Writing keeps the canonical form. -/
theorem kvPut_wf [DecidableEq β] (d : Nat → β) (a : Nat) (b : β) (l : List (Nat × β)) (h : kvWf d l = true) :
    kvWf d (kvPut d a b l) = true := by
  unfold kvWf at *
  simp only [Bool.and_eq_true, List.all_eq_true, decide_eq_true_eq] at *
  obtain ⟨h1, h2⟩ := h
  have hf : ∀ p ∈ l.filter (fun p => decide (p.1 ≠ a)), p.1 ≠ a := by
    intro p hp; simpa using (List.mem_filter.mp hp).2
  unfold kvPut
  split
  · exact ⟨kvRising_filter _ _ h1, fun p hp => h2 p (List.mem_filter.mp hp).1⟩
  · rename_i hb
    refine ⟨kvRising_insert a b _ (kvRising_filter _ _ h1) hf, ?_⟩
    intro p hp
    rcases kvInsert_mem a b _ p hp with rfl | hp
    · exact hb
    · exact h2 p (List.mem_filter.mp hp).1

/-- Dropping entries keeps the canonical form. -/
theorem kvWf_filter [DecidableEq β] (d : Nat → β) (f : Nat × β → Bool) (l : List (Nat × β)) (h : kvWf d l = true) :
    kvWf d (l.filter f) = true := by
  unfold kvWf at *
  simp only [Bool.and_eq_true, List.all_eq_true] at *
  exact ⟨kvRising_filter _ _ h.1, fun p hp => h.2 p (List.mem_filter.mp hp).1⟩

end Sys2Proof.Machine
end

