-- ==== Sys2Proof/Laws/Mailbox.lean ====
section
/-! SUPPORT. What `serve` does with a request of a session that passes the checks of 03 R93: one lemma for each answer of
the command. -/

namespace Sys2Proof.Machine

variable {fam cmd i : Nat} {r : Req} {lenOk : Nat → Bool} {act : State → Reply} {s u : State}

theorem judgeLate_inTime {row : CmdRow} (h : cmdRow fam cmd = some row) (ht : inTime fam cmd r = true) (b : Bool)
    (u : State) : judgeLate row.cls r b u = u := by
  unfold inTime at ht
  rw [h] at ht
  unfold judgeLate
  cases hb : classBound row.cls with
  | none => rfl
  | some n =>
    have : r.elapsedNs ≤ n := by simpa [hb] using ht
    simp [State.raiseIf, Nat.not_lt.mpr this]

/-- What `requestOk` gives. -/
theorem requestOk_elim (h : requestOk fam cmd lenOk i r s = true) :
    ∃ row, cmdRow fam cmd = some row ∧ r.src = .host i ∧ s.on (Reg.mbxSessOpen i) = true ∧ seqFresh i r s = true ∧
      headerOk r = true ∧
      ¬(row.cls = .d ∧ noResponse r = true) ∧ checkRequest row lenOk r s = none ∧ noResponse r = false ∧
      inTime fam cmd r = true := by
  unfold requestOk at h
  simp only [Bool.and_eq_true, decide_eq_true_eq, Bool.not_eq_true'] at h
  obtain ⟨⟨⟨h1, h2⟩, h3⟩, h4⟩ := h
  unfold accepted at h2
  rw [h1] at h2
  cases hr : cmdRow fam cmd with
  | none => simp [hr] at h2
  | some row =>
    rw [hr] at h2
    simp only [Bool.and_eq_true, Option.isNone_iff_eq_none] at h2
    exact ⟨row, rfl, h1, h2.1.1.1.1, h2.1.1.1.2, h2.1.1.2, by simp [h3], h2.2, h3, h4⟩

/-- Where its SEQ is fresh, a request begins no message afresh and overtakes none (03 R85). -/
theorem seqFresh_elim (h : seqFresh i r s = true) : beginsAfresh i r s = s ∧ overtakes i r s = false := by
  unfold seqFresh at h
  simp only [Bool.and_eq_true, Bool.not_eq_true'] at h
  refine ⟨?_, by simp [overtakes, h.1]⟩
  unfold beginsAfresh
  rw [h.2]
  simp

/-- A request that passes checks 1 to 8 is answered by what its command does, and passes its session's rings. -/
theorem serve_eq (h : requestOk fam cmd lenOk i r s = true) :
    serve fam cmd r lenOk act s = carryRequest i fam cmd r (match act s with
      | .ok u p => respond i r.seq fam cmd stOk p u
      | .err u st d => respond i r.seq fam cmd st (detailBytes d) (if st = stMalformed then u.raise Ev.mbxMalformed else u)
      | .later u => holdOpen i ⟨r.seq, fam, cmd, s.mono, noResponse r⟩ u) := by
  obtain ⟨row, h1, h2, h3, hf, h4, -, h6, h7, h8⟩ := requestOk_elim h
  obtain ⟨hb, ho⟩ := seqFresh_elim hf
  unfold serve
  simp only [h1, h2, hb, ho, h3, h4, h6, h7, Bool.not_true, Bool.false_eq_true, ↓reduceIte, Bool.and_false]
  cases act s <;> simp [refuse, h2, h7, judgeLate_inTime h1 h8]

/-- The command's answer OK is posted. -/
theorem serve_ok (h : requestOk fam cmd lenOk i r s = true) {p : List Byte} (ha : act s = .ok u p) :
    serve fam cmd r lenOk act s = carryRequest i fam cmd r (respond i r.seq fam cmd stOk p u) := by
  rw [serve_eq h, ha]

/-- A refusal of the command's own is posted with its status and DETAIL. -/
theorem serve_err (h : requestOk fam cmd lenOk i r s = true) {st d : Nat} (ha : act s = .err u st d)
    (hs : st ≠ stMalformed) :
    serve fam cmd r lenOk act s = carryRequest i fam cmd r (respond i r.seq fam cmd st (detailBytes d) u) := by
  rw [serve_eq h, ha]
  simp [hs]

/-- An accepted command of class D stays outstanding. -/
theorem serve_later (h : requestOk fam cmd lenOk i r s = true) (ha : act s = .later u) :
    serve fam cmd r lenOk act s = carryRequest i fam cmd r (holdOpen i ⟨r.seq, fam, cmd, s.mono, noResponse r⟩ u) := by
  rw [serve_eq h, ha]

/-- A ring that is not in service carries nothing. -/
theorem carry_idle {n q f st : Nat} {l : List (List Byte)} (h : s.on (Reg.rcbCfgEnable n) = false) :
    carry n fam cmd q f st l s = s := by simp [carry, h]

/-- Posting a response changes nothing but what is sent, where the session's answer ring is not in service. -/
theorem respond_idle {q st : Nat} {p : List Byte} (h : s.on (Reg.rcbCfgEnable (sessionRing i + 1)) = false) :
    respond i q fam cmd st p s = s.send (.response i q fam cmd st false p) := by
  simp [respond, post, carryAnswer, carry_idle h]

/-- A request leaves nothing in rings that are not in service. -/
theorem carryRequest_idle (h : s.on (Reg.rcbCfgEnable (sessionRing i)) = false) : carryRequest i fam cmd r s = s := by
  simp [carryRequest, carry_idle h]

end Sys2Proof.Machine
end

