-- ==== Sys2Proof/Laws/State.lean ====
section
/-! SUPPORT. What each elementary update leaves of each field of the state: one lemma per field and update, by rfl. -/

namespace Sys2Proof.Machine

/-! State.setReg -/
@[simp] theorem State.setReg_mem (s : State) (a : Nat) (w : Word) : (s.setReg a w).mem = s.mem := rfl
@[simp] theorem State.setReg_mono (s : State) (a : Nat) (w : Word) : (s.setReg a w).mono = s.mono := rfl
@[simp] theorem State.setReg_freeCtr (s : State) (a : Nat) (w : Word) : (s.setReg a w).freeCtr = s.freeCtr := rfl
@[simp] theorem State.setReg_outbox (s : State) (a : Nat) (w : Word) : (s.setReg a w).outbox = s.outbox := rfl
@[simp] theorem State.setReg_time (s : State) (a : Nat) (w : Word) : (s.setReg a w).time = s.time := rfl
@[simp] theorem State.setReg_mbx (s : State) (a : Nat) (w : Word) : (s.setReg a w).mbx = s.mbx := rfl
@[simp] theorem State.setReg_pair (s : State) (a : Nat) (w : Word) : (s.setReg a w).pair = s.pair := rfl
@[simp] theorem State.setReg_hhk (s : State) (a : Nat) (w : Word) : (s.setReg a w).hhk = s.hhk := rfl
@[simp] theorem State.setReg_nvs (s : State) (a : Nat) (w : Word) : (s.setReg a w).nvs = s.nvs := rfl
@[simp] theorem State.setReg_memi (s : State) (a : Nat) (w : Word) : (s.setReg a w).memi = s.memi := rfl
@[simp] theorem State.setReg_gate (s : State) (a : Nat) (w : Word) : (s.setReg a w).gate = s.gate := rfl
@[simp] theorem State.setReg_fio (s : State) (a : Nat) (w : Word) : (s.setReg a w).fio = s.fio := rfl
@[simp] theorem State.setReg_can (s : State) (a : Nat) (w : Word) : (s.setReg a w).can = s.can := rfl
@[simp] theorem State.setReg_cfg (s : State) (a : Nat) (w : Word) : (s.setReg a w).cfg = s.cfg := rfl
@[simp] theorem State.setReg_ast (s : State) (a : Nat) (w : Word) : (s.setReg a w).ast = s.ast := rfl
@[simp] theorem State.setReg_lsp (s : State) (a : Nat) (w : Word) : (s.setReg a w).lsp = s.lsp := rfl
@[simp] theorem State.setReg_net (s : State) (a : Nat) (w : Word) : (s.setReg a w).net = s.net := rfl
@[simp] theorem State.setReg_prog (s : State) (a : Nat) (w : Word) : (s.setReg a w).prog = s.prog := rfl
@[simp] theorem State.setReg_sec (s : State) (a : Nat) (w : Word) : (s.setReg a w).sec = s.sec := rfl
@[simp] theorem State.setReg_pwr (s : State) (a : Nat) (w : Word) : (s.setReg a w).pwr = s.pwr := rfl
@[simp] theorem State.setReg_bkd (s : State) (a : Nat) (w : Word) : (s.setReg a w).bkd = s.bkd := rfl
@[simp] theorem State.setReg_pending (s : State) (a : Nat) (w : Word) : (s.setReg a w).pending = s.pending := rfl

/-! State.set -/
@[simp] theorem State.set_mem (s : State) (f : Fld) (v : Nat) : (s.set f v).mem = s.mem := rfl
@[simp] theorem State.set_mono (s : State) (f : Fld) (v : Nat) : (s.set f v).mono = s.mono := rfl
@[simp] theorem State.set_freeCtr (s : State) (f : Fld) (v : Nat) : (s.set f v).freeCtr = s.freeCtr := rfl
@[simp] theorem State.set_outbox (s : State) (f : Fld) (v : Nat) : (s.set f v).outbox = s.outbox := rfl
@[simp] theorem State.set_time (s : State) (f : Fld) (v : Nat) : (s.set f v).time = s.time := rfl
@[simp] theorem State.set_mbx (s : State) (f : Fld) (v : Nat) : (s.set f v).mbx = s.mbx := rfl
@[simp] theorem State.set_pair (s : State) (f : Fld) (v : Nat) : (s.set f v).pair = s.pair := rfl
@[simp] theorem State.set_hhk (s : State) (f : Fld) (v : Nat) : (s.set f v).hhk = s.hhk := rfl
@[simp] theorem State.set_nvs (s : State) (f : Fld) (v : Nat) : (s.set f v).nvs = s.nvs := rfl
@[simp] theorem State.set_memi (s : State) (f : Fld) (v : Nat) : (s.set f v).memi = s.memi := rfl
@[simp] theorem State.set_gate (s : State) (f : Fld) (v : Nat) : (s.set f v).gate = s.gate := rfl
@[simp] theorem State.set_fio (s : State) (f : Fld) (v : Nat) : (s.set f v).fio = s.fio := rfl
@[simp] theorem State.set_can (s : State) (f : Fld) (v : Nat) : (s.set f v).can = s.can := rfl
@[simp] theorem State.set_cfg (s : State) (f : Fld) (v : Nat) : (s.set f v).cfg = s.cfg := rfl
@[simp] theorem State.set_ast (s : State) (f : Fld) (v : Nat) : (s.set f v).ast = s.ast := rfl
@[simp] theorem State.set_lsp (s : State) (f : Fld) (v : Nat) : (s.set f v).lsp = s.lsp := rfl
@[simp] theorem State.set_net (s : State) (f : Fld) (v : Nat) : (s.set f v).net = s.net := rfl
@[simp] theorem State.set_prog (s : State) (f : Fld) (v : Nat) : (s.set f v).prog = s.prog := rfl
@[simp] theorem State.set_sec (s : State) (f : Fld) (v : Nat) : (s.set f v).sec = s.sec := rfl
@[simp] theorem State.set_pwr (s : State) (f : Fld) (v : Nat) : (s.set f v).pwr = s.pwr := rfl
@[simp] theorem State.set_bkd (s : State) (f : Fld) (v : Nat) : (s.set f v).bkd = s.bkd := rfl
@[simp] theorem State.set_pending (s : State) (f : Fld) (v : Nat) : (s.set f v).pending = s.pending := rfl

/-! State.setBit -/
@[simp] theorem State.setBit_mem (s : State) (f : Fld) (b : Bool) : (s.setBit f b).mem = s.mem := rfl
@[simp] theorem State.setBit_mono (s : State) (f : Fld) (b : Bool) : (s.setBit f b).mono = s.mono := rfl
@[simp] theorem State.setBit_freeCtr (s : State) (f : Fld) (b : Bool) : (s.setBit f b).freeCtr = s.freeCtr := rfl
@[simp] theorem State.setBit_outbox (s : State) (f : Fld) (b : Bool) : (s.setBit f b).outbox = s.outbox := rfl
@[simp] theorem State.setBit_time (s : State) (f : Fld) (b : Bool) : (s.setBit f b).time = s.time := rfl
@[simp] theorem State.setBit_mbx (s : State) (f : Fld) (b : Bool) : (s.setBit f b).mbx = s.mbx := rfl
@[simp] theorem State.setBit_pair (s : State) (f : Fld) (b : Bool) : (s.setBit f b).pair = s.pair := rfl
@[simp] theorem State.setBit_hhk (s : State) (f : Fld) (b : Bool) : (s.setBit f b).hhk = s.hhk := rfl
@[simp] theorem State.setBit_nvs (s : State) (f : Fld) (b : Bool) : (s.setBit f b).nvs = s.nvs := rfl
@[simp] theorem State.setBit_memi (s : State) (f : Fld) (b : Bool) : (s.setBit f b).memi = s.memi := rfl
@[simp] theorem State.setBit_gate (s : State) (f : Fld) (b : Bool) : (s.setBit f b).gate = s.gate := rfl
@[simp] theorem State.setBit_fio (s : State) (f : Fld) (b : Bool) : (s.setBit f b).fio = s.fio := rfl
@[simp] theorem State.setBit_can (s : State) (f : Fld) (b : Bool) : (s.setBit f b).can = s.can := rfl
@[simp] theorem State.setBit_cfg (s : State) (f : Fld) (b : Bool) : (s.setBit f b).cfg = s.cfg := rfl
@[simp] theorem State.setBit_ast (s : State) (f : Fld) (b : Bool) : (s.setBit f b).ast = s.ast := rfl
@[simp] theorem State.setBit_lsp (s : State) (f : Fld) (b : Bool) : (s.setBit f b).lsp = s.lsp := rfl
@[simp] theorem State.setBit_net (s : State) (f : Fld) (b : Bool) : (s.setBit f b).net = s.net := rfl
@[simp] theorem State.setBit_prog (s : State) (f : Fld) (b : Bool) : (s.setBit f b).prog = s.prog := rfl
@[simp] theorem State.setBit_sec (s : State) (f : Fld) (b : Bool) : (s.setBit f b).sec = s.sec := rfl
@[simp] theorem State.setBit_pwr (s : State) (f : Fld) (b : Bool) : (s.setBit f b).pwr = s.pwr := rfl
@[simp] theorem State.setBit_bkd (s : State) (f : Fld) (b : Bool) : (s.setBit f b).bkd = s.bkd := rfl
@[simp] theorem State.setBit_pending (s : State) (f : Fld) (b : Bool) : (s.setBit f b).pending = s.pending := rfl

/-! State.setInt -/
@[simp] theorem State.setInt_mem (s : State) (f : Fld) (v : Int) : (s.setInt f v).mem = s.mem := rfl
@[simp] theorem State.setInt_mono (s : State) (f : Fld) (v : Int) : (s.setInt f v).mono = s.mono := rfl
@[simp] theorem State.setInt_freeCtr (s : State) (f : Fld) (v : Int) : (s.setInt f v).freeCtr = s.freeCtr := rfl
@[simp] theorem State.setInt_outbox (s : State) (f : Fld) (v : Int) : (s.setInt f v).outbox = s.outbox := rfl
@[simp] theorem State.setInt_time (s : State) (f : Fld) (v : Int) : (s.setInt f v).time = s.time := rfl
@[simp] theorem State.setInt_mbx (s : State) (f : Fld) (v : Int) : (s.setInt f v).mbx = s.mbx := rfl
@[simp] theorem State.setInt_pair (s : State) (f : Fld) (v : Int) : (s.setInt f v).pair = s.pair := rfl
@[simp] theorem State.setInt_hhk (s : State) (f : Fld) (v : Int) : (s.setInt f v).hhk = s.hhk := rfl
@[simp] theorem State.setInt_nvs (s : State) (f : Fld) (v : Int) : (s.setInt f v).nvs = s.nvs := rfl
@[simp] theorem State.setInt_memi (s : State) (f : Fld) (v : Int) : (s.setInt f v).memi = s.memi := rfl
@[simp] theorem State.setInt_gate (s : State) (f : Fld) (v : Int) : (s.setInt f v).gate = s.gate := rfl
@[simp] theorem State.setInt_fio (s : State) (f : Fld) (v : Int) : (s.setInt f v).fio = s.fio := rfl
@[simp] theorem State.setInt_can (s : State) (f : Fld) (v : Int) : (s.setInt f v).can = s.can := rfl
@[simp] theorem State.setInt_cfg (s : State) (f : Fld) (v : Int) : (s.setInt f v).cfg = s.cfg := rfl
@[simp] theorem State.setInt_ast (s : State) (f : Fld) (v : Int) : (s.setInt f v).ast = s.ast := rfl
@[simp] theorem State.setInt_lsp (s : State) (f : Fld) (v : Int) : (s.setInt f v).lsp = s.lsp := rfl
@[simp] theorem State.setInt_net (s : State) (f : Fld) (v : Int) : (s.setInt f v).net = s.net := rfl
@[simp] theorem State.setInt_prog (s : State) (f : Fld) (v : Int) : (s.setInt f v).prog = s.prog := rfl
@[simp] theorem State.setInt_sec (s : State) (f : Fld) (v : Int) : (s.setInt f v).sec = s.sec := rfl
@[simp] theorem State.setInt_pwr (s : State) (f : Fld) (v : Int) : (s.setInt f v).pwr = s.pwr := rfl
@[simp] theorem State.setInt_bkd (s : State) (f : Fld) (v : Int) : (s.setInt f v).bkd = s.bkd := rfl
@[simp] theorem State.setInt_pending (s : State) (f : Fld) (v : Int) : (s.setInt f v).pending = s.pending := rfl

/-! State.bump -/
@[simp] theorem State.bump_mem (s : State) (f : Fld) (n : Nat) : (s.bump f n).mem = s.mem := rfl
@[simp] theorem State.bump_mono (s : State) (f : Fld) (n : Nat) : (s.bump f n).mono = s.mono := rfl
@[simp] theorem State.bump_freeCtr (s : State) (f : Fld) (n : Nat) : (s.bump f n).freeCtr = s.freeCtr := rfl
@[simp] theorem State.bump_outbox (s : State) (f : Fld) (n : Nat) : (s.bump f n).outbox = s.outbox := rfl
@[simp] theorem State.bump_time (s : State) (f : Fld) (n : Nat) : (s.bump f n).time = s.time := rfl
@[simp] theorem State.bump_mbx (s : State) (f : Fld) (n : Nat) : (s.bump f n).mbx = s.mbx := rfl
@[simp] theorem State.bump_pair (s : State) (f : Fld) (n : Nat) : (s.bump f n).pair = s.pair := rfl
@[simp] theorem State.bump_hhk (s : State) (f : Fld) (n : Nat) : (s.bump f n).hhk = s.hhk := rfl
@[simp] theorem State.bump_nvs (s : State) (f : Fld) (n : Nat) : (s.bump f n).nvs = s.nvs := rfl
@[simp] theorem State.bump_memi (s : State) (f : Fld) (n : Nat) : (s.bump f n).memi = s.memi := rfl
@[simp] theorem State.bump_gate (s : State) (f : Fld) (n : Nat) : (s.bump f n).gate = s.gate := rfl
@[simp] theorem State.bump_fio (s : State) (f : Fld) (n : Nat) : (s.bump f n).fio = s.fio := rfl
@[simp] theorem State.bump_can (s : State) (f : Fld) (n : Nat) : (s.bump f n).can = s.can := rfl
@[simp] theorem State.bump_cfg (s : State) (f : Fld) (n : Nat) : (s.bump f n).cfg = s.cfg := rfl
@[simp] theorem State.bump_ast (s : State) (f : Fld) (n : Nat) : (s.bump f n).ast = s.ast := rfl
@[simp] theorem State.bump_lsp (s : State) (f : Fld) (n : Nat) : (s.bump f n).lsp = s.lsp := rfl
@[simp] theorem State.bump_net (s : State) (f : Fld) (n : Nat) : (s.bump f n).net = s.net := rfl
@[simp] theorem State.bump_prog (s : State) (f : Fld) (n : Nat) : (s.bump f n).prog = s.prog := rfl
@[simp] theorem State.bump_sec (s : State) (f : Fld) (n : Nat) : (s.bump f n).sec = s.sec := rfl
@[simp] theorem State.bump_pwr (s : State) (f : Fld) (n : Nat) : (s.bump f n).pwr = s.pwr := rfl
@[simp] theorem State.bump_bkd (s : State) (f : Fld) (n : Nat) : (s.bump f n).bkd = s.bkd := rfl
@[simp] theorem State.bump_pending (s : State) (f : Fld) (n : Nat) : (s.bump f n).pending = s.pending := rfl

/-! State.wrapUp -/
@[simp] theorem State.wrapUp_mem (s : State) (f : Fld) (n : Nat) : (s.wrapUp f n).mem = s.mem := rfl
@[simp] theorem State.wrapUp_mono (s : State) (f : Fld) (n : Nat) : (s.wrapUp f n).mono = s.mono := rfl
@[simp] theorem State.wrapUp_freeCtr (s : State) (f : Fld) (n : Nat) : (s.wrapUp f n).freeCtr = s.freeCtr := rfl
@[simp] theorem State.wrapUp_outbox (s : State) (f : Fld) (n : Nat) : (s.wrapUp f n).outbox = s.outbox := rfl
@[simp] theorem State.wrapUp_time (s : State) (f : Fld) (n : Nat) : (s.wrapUp f n).time = s.time := rfl
@[simp] theorem State.wrapUp_mbx (s : State) (f : Fld) (n : Nat) : (s.wrapUp f n).mbx = s.mbx := rfl
@[simp] theorem State.wrapUp_pair (s : State) (f : Fld) (n : Nat) : (s.wrapUp f n).pair = s.pair := rfl
@[simp] theorem State.wrapUp_hhk (s : State) (f : Fld) (n : Nat) : (s.wrapUp f n).hhk = s.hhk := rfl
@[simp] theorem State.wrapUp_nvs (s : State) (f : Fld) (n : Nat) : (s.wrapUp f n).nvs = s.nvs := rfl
@[simp] theorem State.wrapUp_memi (s : State) (f : Fld) (n : Nat) : (s.wrapUp f n).memi = s.memi := rfl
@[simp] theorem State.wrapUp_gate (s : State) (f : Fld) (n : Nat) : (s.wrapUp f n).gate = s.gate := rfl
@[simp] theorem State.wrapUp_fio (s : State) (f : Fld) (n : Nat) : (s.wrapUp f n).fio = s.fio := rfl
@[simp] theorem State.wrapUp_can (s : State) (f : Fld) (n : Nat) : (s.wrapUp f n).can = s.can := rfl
@[simp] theorem State.wrapUp_cfg (s : State) (f : Fld) (n : Nat) : (s.wrapUp f n).cfg = s.cfg := rfl
@[simp] theorem State.wrapUp_ast (s : State) (f : Fld) (n : Nat) : (s.wrapUp f n).ast = s.ast := rfl
@[simp] theorem State.wrapUp_lsp (s : State) (f : Fld) (n : Nat) : (s.wrapUp f n).lsp = s.lsp := rfl
@[simp] theorem State.wrapUp_net (s : State) (f : Fld) (n : Nat) : (s.wrapUp f n).net = s.net := rfl
@[simp] theorem State.wrapUp_prog (s : State) (f : Fld) (n : Nat) : (s.wrapUp f n).prog = s.prog := rfl
@[simp] theorem State.wrapUp_sec (s : State) (f : Fld) (n : Nat) : (s.wrapUp f n).sec = s.sec := rfl
@[simp] theorem State.wrapUp_pwr (s : State) (f : Fld) (n : Nat) : (s.wrapUp f n).pwr = s.pwr := rfl
@[simp] theorem State.wrapUp_bkd (s : State) (f : Fld) (n : Nat) : (s.wrapUp f n).bkd = s.bkd := rfl
@[simp] theorem State.wrapUp_pending (s : State) (f : Fld) (n : Nat) : (s.wrapUp f n).pending = s.pending := rfl

/-! State.setNow -/
@[simp] theorem State.setNow_mem (s : State) (v : Nat) : (s.setNow v).mem = s.mem := rfl
@[simp] theorem State.setNow_mono (s : State) (v : Nat) : (s.setNow v).mono = s.mono := rfl
@[simp] theorem State.setNow_freeCtr (s : State) (v : Nat) : (s.setNow v).freeCtr = s.freeCtr := rfl
@[simp] theorem State.setNow_outbox (s : State) (v : Nat) : (s.setNow v).outbox = s.outbox := rfl
@[simp] theorem State.setNow_time (s : State) (v : Nat) : (s.setNow v).time = s.time := rfl
@[simp] theorem State.setNow_mbx (s : State) (v : Nat) : (s.setNow v).mbx = s.mbx := rfl
@[simp] theorem State.setNow_pair (s : State) (v : Nat) : (s.setNow v).pair = s.pair := rfl
@[simp] theorem State.setNow_hhk (s : State) (v : Nat) : (s.setNow v).hhk = s.hhk := rfl
@[simp] theorem State.setNow_nvs (s : State) (v : Nat) : (s.setNow v).nvs = s.nvs := rfl
@[simp] theorem State.setNow_memi (s : State) (v : Nat) : (s.setNow v).memi = s.memi := rfl
@[simp] theorem State.setNow_gate (s : State) (v : Nat) : (s.setNow v).gate = s.gate := rfl
@[simp] theorem State.setNow_fio (s : State) (v : Nat) : (s.setNow v).fio = s.fio := rfl
@[simp] theorem State.setNow_can (s : State) (v : Nat) : (s.setNow v).can = s.can := rfl
@[simp] theorem State.setNow_cfg (s : State) (v : Nat) : (s.setNow v).cfg = s.cfg := rfl
@[simp] theorem State.setNow_ast (s : State) (v : Nat) : (s.setNow v).ast = s.ast := rfl
@[simp] theorem State.setNow_lsp (s : State) (v : Nat) : (s.setNow v).lsp = s.lsp := rfl
@[simp] theorem State.setNow_net (s : State) (v : Nat) : (s.setNow v).net = s.net := rfl
@[simp] theorem State.setNow_prog (s : State) (v : Nat) : (s.setNow v).prog = s.prog := rfl
@[simp] theorem State.setNow_sec (s : State) (v : Nat) : (s.setNow v).sec = s.sec := rfl
@[simp] theorem State.setNow_pwr (s : State) (v : Nat) : (s.setNow v).pwr = s.pwr := rfl
@[simp] theorem State.setNow_bkd (s : State) (v : Nat) : (s.setNow v).bkd = s.bkd := rfl
@[simp] theorem State.setNow_pending (s : State) (v : Nat) : (s.setNow v).pending = s.pending := rfl

/-! State.took -/
@[simp] theorem State.took_regs (s : State) : (s.took).regs = s.regs := rfl
@[simp] theorem State.took_mem (s : State) : (s.took).mem = s.mem := rfl
@[simp] theorem State.took_mono (s : State) : (s.took).mono = s.mono := rfl
@[simp] theorem State.took_outbox (s : State) : (s.took).outbox = s.outbox := rfl
@[simp] theorem State.took_time (s : State) : (s.took).time = s.time := rfl
@[simp] theorem State.took_mbx (s : State) : (s.took).mbx = s.mbx := rfl
@[simp] theorem State.took_pair (s : State) : (s.took).pair = s.pair := rfl
@[simp] theorem State.took_hhk (s : State) : (s.took).hhk = s.hhk := rfl
@[simp] theorem State.took_nvs (s : State) : (s.took).nvs = s.nvs := rfl
@[simp] theorem State.took_memi (s : State) : (s.took).memi = s.memi := rfl
@[simp] theorem State.took_gate (s : State) : (s.took).gate = s.gate := rfl
@[simp] theorem State.took_fio (s : State) : (s.took).fio = s.fio := rfl
@[simp] theorem State.took_can (s : State) : (s.took).can = s.can := rfl
@[simp] theorem State.took_cfg (s : State) : (s.took).cfg = s.cfg := rfl
@[simp] theorem State.took_ast (s : State) : (s.took).ast = s.ast := rfl
@[simp] theorem State.took_lsp (s : State) : (s.took).lsp = s.lsp := rfl
@[simp] theorem State.took_net (s : State) : (s.took).net = s.net := rfl
@[simp] theorem State.took_prog (s : State) : (s.took).prog = s.prog := rfl
@[simp] theorem State.took_sec (s : State) : (s.took).sec = s.sec := rfl
@[simp] theorem State.took_pwr (s : State) : (s.took).pwr = s.pwr := rfl
@[simp] theorem State.took_bkd (s : State) : (s.took).bkd = s.bkd := rfl
@[simp] theorem State.took_pending (s : State) : (s.took).pending = s.pending := rfl

/-! State.send -/
@[simp] theorem State.send_regs (s : State) (m : OutMsg) : (s.send m).regs = s.regs := rfl
@[simp] theorem State.send_mem (s : State) (m : OutMsg) : (s.send m).mem = s.mem := rfl
@[simp] theorem State.send_mono (s : State) (m : OutMsg) : (s.send m).mono = s.mono := rfl
@[simp] theorem State.send_freeCtr (s : State) (m : OutMsg) : (s.send m).freeCtr = s.freeCtr := rfl
@[simp] theorem State.send_time (s : State) (m : OutMsg) : (s.send m).time = s.time := rfl
@[simp] theorem State.send_mbx (s : State) (m : OutMsg) : (s.send m).mbx = s.mbx := rfl
@[simp] theorem State.send_pair (s : State) (m : OutMsg) : (s.send m).pair = s.pair := rfl
@[simp] theorem State.send_hhk (s : State) (m : OutMsg) : (s.send m).hhk = s.hhk := rfl
@[simp] theorem State.send_nvs (s : State) (m : OutMsg) : (s.send m).nvs = s.nvs := rfl
@[simp] theorem State.send_memi (s : State) (m : OutMsg) : (s.send m).memi = s.memi := rfl
@[simp] theorem State.send_gate (s : State) (m : OutMsg) : (s.send m).gate = s.gate := rfl
@[simp] theorem State.send_fio (s : State) (m : OutMsg) : (s.send m).fio = s.fio := rfl
@[simp] theorem State.send_can (s : State) (m : OutMsg) : (s.send m).can = s.can := rfl
@[simp] theorem State.send_cfg (s : State) (m : OutMsg) : (s.send m).cfg = s.cfg := rfl
@[simp] theorem State.send_ast (s : State) (m : OutMsg) : (s.send m).ast = s.ast := rfl
@[simp] theorem State.send_lsp (s : State) (m : OutMsg) : (s.send m).lsp = s.lsp := rfl
@[simp] theorem State.send_net (s : State) (m : OutMsg) : (s.send m).net = s.net := rfl
@[simp] theorem State.send_prog (s : State) (m : OutMsg) : (s.send m).prog = s.prog := rfl
@[simp] theorem State.send_sec (s : State) (m : OutMsg) : (s.send m).sec = s.sec := rfl
@[simp] theorem State.send_pwr (s : State) (m : OutMsg) : (s.send m).pwr = s.pwr := rfl
@[simp] theorem State.send_bkd (s : State) (m : OutMsg) : (s.send m).bkd = s.bkd := rfl
@[simp] theorem State.send_pending (s : State) (m : OutMsg) : (s.send m).pending = s.pending := rfl

/-! State.setByte -/
@[simp] theorem State.setByte_regs (s : State) (a : Nat) (b : Byte) : (s.setByte a b).regs = s.regs := rfl
@[simp] theorem State.setByte_mono (s : State) (a : Nat) (b : Byte) : (s.setByte a b).mono = s.mono := rfl
@[simp] theorem State.setByte_freeCtr (s : State) (a : Nat) (b : Byte) : (s.setByte a b).freeCtr = s.freeCtr := rfl
@[simp] theorem State.setByte_outbox (s : State) (a : Nat) (b : Byte) : (s.setByte a b).outbox = s.outbox := rfl
@[simp] theorem State.setByte_time (s : State) (a : Nat) (b : Byte) : (s.setByte a b).time = s.time := rfl
@[simp] theorem State.setByte_mbx (s : State) (a : Nat) (b : Byte) : (s.setByte a b).mbx = s.mbx := rfl
@[simp] theorem State.setByte_pair (s : State) (a : Nat) (b : Byte) : (s.setByte a b).pair = s.pair := rfl
@[simp] theorem State.setByte_hhk (s : State) (a : Nat) (b : Byte) : (s.setByte a b).hhk = s.hhk := rfl
@[simp] theorem State.setByte_nvs (s : State) (a : Nat) (b : Byte) : (s.setByte a b).nvs = s.nvs := rfl
@[simp] theorem State.setByte_memi (s : State) (a : Nat) (b : Byte) : (s.setByte a b).memi = s.memi := rfl
@[simp] theorem State.setByte_gate (s : State) (a : Nat) (b : Byte) : (s.setByte a b).gate = s.gate := rfl
@[simp] theorem State.setByte_fio (s : State) (a : Nat) (b : Byte) : (s.setByte a b).fio = s.fio := rfl
@[simp] theorem State.setByte_can (s : State) (a : Nat) (b : Byte) : (s.setByte a b).can = s.can := rfl
@[simp] theorem State.setByte_cfg (s : State) (a : Nat) (b : Byte) : (s.setByte a b).cfg = s.cfg := rfl
@[simp] theorem State.setByte_ast (s : State) (a : Nat) (b : Byte) : (s.setByte a b).ast = s.ast := rfl
@[simp] theorem State.setByte_lsp (s : State) (a : Nat) (b : Byte) : (s.setByte a b).lsp = s.lsp := rfl
@[simp] theorem State.setByte_net (s : State) (a : Nat) (b : Byte) : (s.setByte a b).net = s.net := rfl
@[simp] theorem State.setByte_prog (s : State) (a : Nat) (b : Byte) : (s.setByte a b).prog = s.prog := rfl
@[simp] theorem State.setByte_sec (s : State) (a : Nat) (b : Byte) : (s.setByte a b).sec = s.sec := rfl
@[simp] theorem State.setByte_pwr (s : State) (a : Nat) (b : Byte) : (s.setByte a b).pwr = s.pwr := rfl
@[simp] theorem State.setByte_bkd (s : State) (a : Nat) (b : Byte) : (s.setByte a b).bkd = s.bkd := rfl
@[simp] theorem State.setByte_pending (s : State) (a : Nat) (b : Byte) : (s.setByte a b).pending = s.pending := rfl

/-! State.updSec -/
@[simp] theorem State.updSec_regs (s : State) (f : SecSt → SecSt) : (s.updSec f).regs = s.regs := rfl
@[simp] theorem State.updSec_mem (s : State) (f : SecSt → SecSt) : (s.updSec f).mem = s.mem := rfl
@[simp] theorem State.updSec_mono (s : State) (f : SecSt → SecSt) : (s.updSec f).mono = s.mono := rfl
@[simp] theorem State.updSec_freeCtr (s : State) (f : SecSt → SecSt) : (s.updSec f).freeCtr = s.freeCtr := rfl
@[simp] theorem State.updSec_outbox (s : State) (f : SecSt → SecSt) : (s.updSec f).outbox = s.outbox := rfl
@[simp] theorem State.updSec_time (s : State) (f : SecSt → SecSt) : (s.updSec f).time = s.time := rfl
@[simp] theorem State.updSec_mbx (s : State) (f : SecSt → SecSt) : (s.updSec f).mbx = s.mbx := rfl
@[simp] theorem State.updSec_pair (s : State) (f : SecSt → SecSt) : (s.updSec f).pair = s.pair := rfl
@[simp] theorem State.updSec_hhk (s : State) (f : SecSt → SecSt) : (s.updSec f).hhk = s.hhk := rfl
@[simp] theorem State.updSec_nvs (s : State) (f : SecSt → SecSt) : (s.updSec f).nvs = s.nvs := rfl
@[simp] theorem State.updSec_memi (s : State) (f : SecSt → SecSt) : (s.updSec f).memi = s.memi := rfl
@[simp] theorem State.updSec_gate (s : State) (f : SecSt → SecSt) : (s.updSec f).gate = s.gate := rfl
@[simp] theorem State.updSec_fio (s : State) (f : SecSt → SecSt) : (s.updSec f).fio = s.fio := rfl
@[simp] theorem State.updSec_can (s : State) (f : SecSt → SecSt) : (s.updSec f).can = s.can := rfl
@[simp] theorem State.updSec_cfg (s : State) (f : SecSt → SecSt) : (s.updSec f).cfg = s.cfg := rfl
@[simp] theorem State.updSec_ast (s : State) (f : SecSt → SecSt) : (s.updSec f).ast = s.ast := rfl
@[simp] theorem State.updSec_lsp (s : State) (f : SecSt → SecSt) : (s.updSec f).lsp = s.lsp := rfl
@[simp] theorem State.updSec_net (s : State) (f : SecSt → SecSt) : (s.updSec f).net = s.net := rfl
@[simp] theorem State.updSec_prog (s : State) (f : SecSt → SecSt) : (s.updSec f).prog = s.prog := rfl
@[simp] theorem State.updSec_pwr (s : State) (f : SecSt → SecSt) : (s.updSec f).pwr = s.pwr := rfl
@[simp] theorem State.updSec_bkd (s : State) (f : SecSt → SecSt) : (s.updSec f).bkd = s.bkd := rfl
@[simp] theorem State.updSec_pending (s : State) (f : SecSt → SecSt) : (s.updSec f).pending = s.pending := rfl
@[simp] theorem State.updSec_sec (s : State) (f : SecSt → SecSt) : (s.updSec f).sec = f s.sec := rfl

/-! State.updProg -/
@[simp] theorem State.updProg_regs (s : State) (f : ProgSt → ProgSt) : (s.updProg f).regs = s.regs := rfl
@[simp] theorem State.updProg_mem (s : State) (f : ProgSt → ProgSt) : (s.updProg f).mem = s.mem := rfl
@[simp] theorem State.updProg_mono (s : State) (f : ProgSt → ProgSt) : (s.updProg f).mono = s.mono := rfl
@[simp] theorem State.updProg_freeCtr (s : State) (f : ProgSt → ProgSt) : (s.updProg f).freeCtr = s.freeCtr := rfl
@[simp] theorem State.updProg_outbox (s : State) (f : ProgSt → ProgSt) : (s.updProg f).outbox = s.outbox := rfl
@[simp] theorem State.updProg_time (s : State) (f : ProgSt → ProgSt) : (s.updProg f).time = s.time := rfl
@[simp] theorem State.updProg_mbx (s : State) (f : ProgSt → ProgSt) : (s.updProg f).mbx = s.mbx := rfl
@[simp] theorem State.updProg_pair (s : State) (f : ProgSt → ProgSt) : (s.updProg f).pair = s.pair := rfl
@[simp] theorem State.updProg_hhk (s : State) (f : ProgSt → ProgSt) : (s.updProg f).hhk = s.hhk := rfl
@[simp] theorem State.updProg_nvs (s : State) (f : ProgSt → ProgSt) : (s.updProg f).nvs = s.nvs := rfl
@[simp] theorem State.updProg_memi (s : State) (f : ProgSt → ProgSt) : (s.updProg f).memi = s.memi := rfl
@[simp] theorem State.updProg_gate (s : State) (f : ProgSt → ProgSt) : (s.updProg f).gate = s.gate := rfl
@[simp] theorem State.updProg_fio (s : State) (f : ProgSt → ProgSt) : (s.updProg f).fio = s.fio := rfl
@[simp] theorem State.updProg_can (s : State) (f : ProgSt → ProgSt) : (s.updProg f).can = s.can := rfl
@[simp] theorem State.updProg_cfg (s : State) (f : ProgSt → ProgSt) : (s.updProg f).cfg = s.cfg := rfl
@[simp] theorem State.updProg_ast (s : State) (f : ProgSt → ProgSt) : (s.updProg f).ast = s.ast := rfl
@[simp] theorem State.updProg_lsp (s : State) (f : ProgSt → ProgSt) : (s.updProg f).lsp = s.lsp := rfl
@[simp] theorem State.updProg_net (s : State) (f : ProgSt → ProgSt) : (s.updProg f).net = s.net := rfl
@[simp] theorem State.updProg_sec (s : State) (f : ProgSt → ProgSt) : (s.updProg f).sec = s.sec := rfl
@[simp] theorem State.updProg_pwr (s : State) (f : ProgSt → ProgSt) : (s.updProg f).pwr = s.pwr := rfl
@[simp] theorem State.updProg_bkd (s : State) (f : ProgSt → ProgSt) : (s.updProg f).bkd = s.bkd := rfl
@[simp] theorem State.updProg_pending (s : State) (f : ProgSt → ProgSt) : (s.updProg f).pending = s.pending := rfl
@[simp] theorem State.updProg_prog (s : State) (f : ProgSt → ProgSt) : (s.updProg f).prog = f s.prog := rfl

/-! State.updNvs -/
@[simp] theorem State.updNvs_regs (s : State) (f : NvsSt → NvsSt) : (s.updNvs f).regs = s.regs := rfl
@[simp] theorem State.updNvs_mem (s : State) (f : NvsSt → NvsSt) : (s.updNvs f).mem = s.mem := rfl
@[simp] theorem State.updNvs_mono (s : State) (f : NvsSt → NvsSt) : (s.updNvs f).mono = s.mono := rfl
@[simp] theorem State.updNvs_freeCtr (s : State) (f : NvsSt → NvsSt) : (s.updNvs f).freeCtr = s.freeCtr := rfl
@[simp] theorem State.updNvs_outbox (s : State) (f : NvsSt → NvsSt) : (s.updNvs f).outbox = s.outbox := rfl
@[simp] theorem State.updNvs_time (s : State) (f : NvsSt → NvsSt) : (s.updNvs f).time = s.time := rfl
@[simp] theorem State.updNvs_mbx (s : State) (f : NvsSt → NvsSt) : (s.updNvs f).mbx = s.mbx := rfl
@[simp] theorem State.updNvs_pair (s : State) (f : NvsSt → NvsSt) : (s.updNvs f).pair = s.pair := rfl
@[simp] theorem State.updNvs_hhk (s : State) (f : NvsSt → NvsSt) : (s.updNvs f).hhk = s.hhk := rfl
@[simp] theorem State.updNvs_memi (s : State) (f : NvsSt → NvsSt) : (s.updNvs f).memi = s.memi := rfl
@[simp] theorem State.updNvs_gate (s : State) (f : NvsSt → NvsSt) : (s.updNvs f).gate = s.gate := rfl
@[simp] theorem State.updNvs_fio (s : State) (f : NvsSt → NvsSt) : (s.updNvs f).fio = s.fio := rfl
@[simp] theorem State.updNvs_can (s : State) (f : NvsSt → NvsSt) : (s.updNvs f).can = s.can := rfl
@[simp] theorem State.updNvs_cfg (s : State) (f : NvsSt → NvsSt) : (s.updNvs f).cfg = s.cfg := rfl
@[simp] theorem State.updNvs_ast (s : State) (f : NvsSt → NvsSt) : (s.updNvs f).ast = s.ast := rfl
@[simp] theorem State.updNvs_lsp (s : State) (f : NvsSt → NvsSt) : (s.updNvs f).lsp = s.lsp := rfl
@[simp] theorem State.updNvs_net (s : State) (f : NvsSt → NvsSt) : (s.updNvs f).net = s.net := rfl
@[simp] theorem State.updNvs_prog (s : State) (f : NvsSt → NvsSt) : (s.updNvs f).prog = s.prog := rfl
@[simp] theorem State.updNvs_sec (s : State) (f : NvsSt → NvsSt) : (s.updNvs f).sec = s.sec := rfl
@[simp] theorem State.updNvs_pwr (s : State) (f : NvsSt → NvsSt) : (s.updNvs f).pwr = s.pwr := rfl
@[simp] theorem State.updNvs_bkd (s : State) (f : NvsSt → NvsSt) : (s.updNvs f).bkd = s.bkd := rfl
@[simp] theorem State.updNvs_pending (s : State) (f : NvsSt → NvsSt) : (s.updNvs f).pending = s.pending := rfl
@[simp] theorem State.updNvs_nvs (s : State) (f : NvsSt → NvsSt) : (s.updNvs f).nvs = f s.nvs := rfl

/-! State.updLsp -/
@[simp] theorem State.updLsp_regs (s : State) (f : LspSt → LspSt) : (s.updLsp f).regs = s.regs := rfl
@[simp] theorem State.updLsp_mem (s : State) (f : LspSt → LspSt) : (s.updLsp f).mem = s.mem := rfl
@[simp] theorem State.updLsp_mono (s : State) (f : LspSt → LspSt) : (s.updLsp f).mono = s.mono := rfl
@[simp] theorem State.updLsp_freeCtr (s : State) (f : LspSt → LspSt) : (s.updLsp f).freeCtr = s.freeCtr := rfl
@[simp] theorem State.updLsp_outbox (s : State) (f : LspSt → LspSt) : (s.updLsp f).outbox = s.outbox := rfl
@[simp] theorem State.updLsp_time (s : State) (f : LspSt → LspSt) : (s.updLsp f).time = s.time := rfl
@[simp] theorem State.updLsp_mbx (s : State) (f : LspSt → LspSt) : (s.updLsp f).mbx = s.mbx := rfl
@[simp] theorem State.updLsp_pair (s : State) (f : LspSt → LspSt) : (s.updLsp f).pair = s.pair := rfl
@[simp] theorem State.updLsp_hhk (s : State) (f : LspSt → LspSt) : (s.updLsp f).hhk = s.hhk := rfl
@[simp] theorem State.updLsp_nvs (s : State) (f : LspSt → LspSt) : (s.updLsp f).nvs = s.nvs := rfl
@[simp] theorem State.updLsp_memi (s : State) (f : LspSt → LspSt) : (s.updLsp f).memi = s.memi := rfl
@[simp] theorem State.updLsp_gate (s : State) (f : LspSt → LspSt) : (s.updLsp f).gate = s.gate := rfl
@[simp] theorem State.updLsp_fio (s : State) (f : LspSt → LspSt) : (s.updLsp f).fio = s.fio := rfl
@[simp] theorem State.updLsp_can (s : State) (f : LspSt → LspSt) : (s.updLsp f).can = s.can := rfl
@[simp] theorem State.updLsp_cfg (s : State) (f : LspSt → LspSt) : (s.updLsp f).cfg = s.cfg := rfl
@[simp] theorem State.updLsp_ast (s : State) (f : LspSt → LspSt) : (s.updLsp f).ast = s.ast := rfl
@[simp] theorem State.updLsp_net (s : State) (f : LspSt → LspSt) : (s.updLsp f).net = s.net := rfl
@[simp] theorem State.updLsp_prog (s : State) (f : LspSt → LspSt) : (s.updLsp f).prog = s.prog := rfl
@[simp] theorem State.updLsp_sec (s : State) (f : LspSt → LspSt) : (s.updLsp f).sec = s.sec := rfl
@[simp] theorem State.updLsp_pwr (s : State) (f : LspSt → LspSt) : (s.updLsp f).pwr = s.pwr := rfl
@[simp] theorem State.updLsp_bkd (s : State) (f : LspSt → LspSt) : (s.updLsp f).bkd = s.bkd := rfl
@[simp] theorem State.updLsp_pending (s : State) (f : LspSt → LspSt) : (s.updLsp f).pending = s.pending := rfl
@[simp] theorem State.updLsp_lsp (s : State) (f : LspSt → LspSt) : (s.updLsp f).lsp = f s.lsp := rfl

/-! State.updNet -/
@[simp] theorem State.updNet_regs (s : State) (f : NetSt → NetSt) : (s.updNet f).regs = s.regs := rfl
@[simp] theorem State.updNet_mem (s : State) (f : NetSt → NetSt) : (s.updNet f).mem = s.mem := rfl
@[simp] theorem State.updNet_mono (s : State) (f : NetSt → NetSt) : (s.updNet f).mono = s.mono := rfl
@[simp] theorem State.updNet_freeCtr (s : State) (f : NetSt → NetSt) : (s.updNet f).freeCtr = s.freeCtr := rfl
@[simp] theorem State.updNet_outbox (s : State) (f : NetSt → NetSt) : (s.updNet f).outbox = s.outbox := rfl
@[simp] theorem State.updNet_time (s : State) (f : NetSt → NetSt) : (s.updNet f).time = s.time := rfl
@[simp] theorem State.updNet_mbx (s : State) (f : NetSt → NetSt) : (s.updNet f).mbx = s.mbx := rfl
@[simp] theorem State.updNet_pair (s : State) (f : NetSt → NetSt) : (s.updNet f).pair = s.pair := rfl
@[simp] theorem State.updNet_hhk (s : State) (f : NetSt → NetSt) : (s.updNet f).hhk = s.hhk := rfl
@[simp] theorem State.updNet_nvs (s : State) (f : NetSt → NetSt) : (s.updNet f).nvs = s.nvs := rfl
@[simp] theorem State.updNet_memi (s : State) (f : NetSt → NetSt) : (s.updNet f).memi = s.memi := rfl
@[simp] theorem State.updNet_gate (s : State) (f : NetSt → NetSt) : (s.updNet f).gate = s.gate := rfl
@[simp] theorem State.updNet_fio (s : State) (f : NetSt → NetSt) : (s.updNet f).fio = s.fio := rfl
@[simp] theorem State.updNet_can (s : State) (f : NetSt → NetSt) : (s.updNet f).can = s.can := rfl
@[simp] theorem State.updNet_cfg (s : State) (f : NetSt → NetSt) : (s.updNet f).cfg = s.cfg := rfl
@[simp] theorem State.updNet_ast (s : State) (f : NetSt → NetSt) : (s.updNet f).ast = s.ast := rfl
@[simp] theorem State.updNet_lsp (s : State) (f : NetSt → NetSt) : (s.updNet f).lsp = s.lsp := rfl
@[simp] theorem State.updNet_prog (s : State) (f : NetSt → NetSt) : (s.updNet f).prog = s.prog := rfl
@[simp] theorem State.updNet_sec (s : State) (f : NetSt → NetSt) : (s.updNet f).sec = s.sec := rfl
@[simp] theorem State.updNet_pwr (s : State) (f : NetSt → NetSt) : (s.updNet f).pwr = s.pwr := rfl
@[simp] theorem State.updNet_bkd (s : State) (f : NetSt → NetSt) : (s.updNet f).bkd = s.bkd := rfl
@[simp] theorem State.updNet_pending (s : State) (f : NetSt → NetSt) : (s.updNet f).pending = s.pending := rfl
@[simp] theorem State.updNet_net (s : State) (f : NetSt → NetSt) : (s.updNet f).net = f s.net := rfl

/-! State.updAst -/
@[simp] theorem State.updAst_regs (s : State) (f : AstSt → AstSt) : (s.updAst f).regs = s.regs := rfl
@[simp] theorem State.updAst_mem (s : State) (f : AstSt → AstSt) : (s.updAst f).mem = s.mem := rfl
@[simp] theorem State.updAst_mono (s : State) (f : AstSt → AstSt) : (s.updAst f).mono = s.mono := rfl
@[simp] theorem State.updAst_freeCtr (s : State) (f : AstSt → AstSt) : (s.updAst f).freeCtr = s.freeCtr := rfl
@[simp] theorem State.updAst_outbox (s : State) (f : AstSt → AstSt) : (s.updAst f).outbox = s.outbox := rfl
@[simp] theorem State.updAst_time (s : State) (f : AstSt → AstSt) : (s.updAst f).time = s.time := rfl
@[simp] theorem State.updAst_mbx (s : State) (f : AstSt → AstSt) : (s.updAst f).mbx = s.mbx := rfl
@[simp] theorem State.updAst_pair (s : State) (f : AstSt → AstSt) : (s.updAst f).pair = s.pair := rfl
@[simp] theorem State.updAst_hhk (s : State) (f : AstSt → AstSt) : (s.updAst f).hhk = s.hhk := rfl
@[simp] theorem State.updAst_nvs (s : State) (f : AstSt → AstSt) : (s.updAst f).nvs = s.nvs := rfl
@[simp] theorem State.updAst_memi (s : State) (f : AstSt → AstSt) : (s.updAst f).memi = s.memi := rfl
@[simp] theorem State.updAst_gate (s : State) (f : AstSt → AstSt) : (s.updAst f).gate = s.gate := rfl
@[simp] theorem State.updAst_fio (s : State) (f : AstSt → AstSt) : (s.updAst f).fio = s.fio := rfl
@[simp] theorem State.updAst_can (s : State) (f : AstSt → AstSt) : (s.updAst f).can = s.can := rfl
@[simp] theorem State.updAst_cfg (s : State) (f : AstSt → AstSt) : (s.updAst f).cfg = s.cfg := rfl
@[simp] theorem State.updAst_lsp (s : State) (f : AstSt → AstSt) : (s.updAst f).lsp = s.lsp := rfl
@[simp] theorem State.updAst_net (s : State) (f : AstSt → AstSt) : (s.updAst f).net = s.net := rfl
@[simp] theorem State.updAst_prog (s : State) (f : AstSt → AstSt) : (s.updAst f).prog = s.prog := rfl
@[simp] theorem State.updAst_sec (s : State) (f : AstSt → AstSt) : (s.updAst f).sec = s.sec := rfl
@[simp] theorem State.updAst_pwr (s : State) (f : AstSt → AstSt) : (s.updAst f).pwr = s.pwr := rfl
@[simp] theorem State.updAst_bkd (s : State) (f : AstSt → AstSt) : (s.updAst f).bkd = s.bkd := rfl
@[simp] theorem State.updAst_pending (s : State) (f : AstSt → AstSt) : (s.updAst f).pending = s.pending := rfl
@[simp] theorem State.updAst_ast (s : State) (f : AstSt → AstSt) : (s.updAst f).ast = f s.ast := rfl

/-! State.updFio -/
@[simp] theorem State.updFio_regs (s : State) (f : FioSt → FioSt) : (s.updFio f).regs = s.regs := rfl
@[simp] theorem State.updFio_mem (s : State) (f : FioSt → FioSt) : (s.updFio f).mem = s.mem := rfl
@[simp] theorem State.updFio_mono (s : State) (f : FioSt → FioSt) : (s.updFio f).mono = s.mono := rfl
@[simp] theorem State.updFio_freeCtr (s : State) (f : FioSt → FioSt) : (s.updFio f).freeCtr = s.freeCtr := rfl
@[simp] theorem State.updFio_outbox (s : State) (f : FioSt → FioSt) : (s.updFio f).outbox = s.outbox := rfl
@[simp] theorem State.updFio_time (s : State) (f : FioSt → FioSt) : (s.updFio f).time = s.time := rfl
@[simp] theorem State.updFio_mbx (s : State) (f : FioSt → FioSt) : (s.updFio f).mbx = s.mbx := rfl
@[simp] theorem State.updFio_pair (s : State) (f : FioSt → FioSt) : (s.updFio f).pair = s.pair := rfl
@[simp] theorem State.updFio_hhk (s : State) (f : FioSt → FioSt) : (s.updFio f).hhk = s.hhk := rfl
@[simp] theorem State.updFio_nvs (s : State) (f : FioSt → FioSt) : (s.updFio f).nvs = s.nvs := rfl
@[simp] theorem State.updFio_memi (s : State) (f : FioSt → FioSt) : (s.updFio f).memi = s.memi := rfl
@[simp] theorem State.updFio_gate (s : State) (f : FioSt → FioSt) : (s.updFio f).gate = s.gate := rfl
@[simp] theorem State.updFio_can (s : State) (f : FioSt → FioSt) : (s.updFio f).can = s.can := rfl
@[simp] theorem State.updFio_cfg (s : State) (f : FioSt → FioSt) : (s.updFio f).cfg = s.cfg := rfl
@[simp] theorem State.updFio_ast (s : State) (f : FioSt → FioSt) : (s.updFio f).ast = s.ast := rfl
@[simp] theorem State.updFio_lsp (s : State) (f : FioSt → FioSt) : (s.updFio f).lsp = s.lsp := rfl
@[simp] theorem State.updFio_net (s : State) (f : FioSt → FioSt) : (s.updFio f).net = s.net := rfl
@[simp] theorem State.updFio_prog (s : State) (f : FioSt → FioSt) : (s.updFio f).prog = s.prog := rfl
@[simp] theorem State.updFio_sec (s : State) (f : FioSt → FioSt) : (s.updFio f).sec = s.sec := rfl
@[simp] theorem State.updFio_pwr (s : State) (f : FioSt → FioSt) : (s.updFio f).pwr = s.pwr := rfl
@[simp] theorem State.updFio_bkd (s : State) (f : FioSt → FioSt) : (s.updFio f).bkd = s.bkd := rfl
@[simp] theorem State.updFio_pending (s : State) (f : FioSt → FioSt) : (s.updFio f).pending = s.pending := rfl
@[simp] theorem State.updFio_fio (s : State) (f : FioSt → FioSt) : (s.updFio f).fio = f s.fio := rfl

/-! State.putEng -/
@[simp] theorem State.putEng_regs (s : State) (e : Nat) (g : Engine) : (s.putEng e g).regs = s.regs := rfl
@[simp] theorem State.putEng_mem (s : State) (e : Nat) (g : Engine) : (s.putEng e g).mem = s.mem := rfl
@[simp] theorem State.putEng_mono (s : State) (e : Nat) (g : Engine) : (s.putEng e g).mono = s.mono := rfl
@[simp] theorem State.putEng_freeCtr (s : State) (e : Nat) (g : Engine) : (s.putEng e g).freeCtr = s.freeCtr := rfl
@[simp] theorem State.putEng_outbox (s : State) (e : Nat) (g : Engine) : (s.putEng e g).outbox = s.outbox := rfl
@[simp] theorem State.putEng_time (s : State) (e : Nat) (g : Engine) : (s.putEng e g).time = s.time := rfl
@[simp] theorem State.putEng_mbx (s : State) (e : Nat) (g : Engine) : (s.putEng e g).mbx = s.mbx := rfl
@[simp] theorem State.putEng_pair (s : State) (e : Nat) (g : Engine) : (s.putEng e g).pair = s.pair := rfl
@[simp] theorem State.putEng_hhk (s : State) (e : Nat) (g : Engine) : (s.putEng e g).hhk = s.hhk := rfl
@[simp] theorem State.putEng_nvs (s : State) (e : Nat) (g : Engine) : (s.putEng e g).nvs = s.nvs := rfl
@[simp] theorem State.putEng_memi (s : State) (e : Nat) (g : Engine) : (s.putEng e g).memi = s.memi := rfl
@[simp] theorem State.putEng_gate (s : State) (e : Nat) (g : Engine) : (s.putEng e g).gate = s.gate := rfl
@[simp] theorem State.putEng_fio (s : State) (e : Nat) (g : Engine) : (s.putEng e g).fio = s.fio := rfl
@[simp] theorem State.putEng_can (s : State) (e : Nat) (g : Engine) : (s.putEng e g).can = s.can := rfl
@[simp] theorem State.putEng_cfg (s : State) (e : Nat) (g : Engine) : (s.putEng e g).cfg = s.cfg := rfl
@[simp] theorem State.putEng_ast (s : State) (e : Nat) (g : Engine) : (s.putEng e g).ast = s.ast := rfl
@[simp] theorem State.putEng_lsp (s : State) (e : Nat) (g : Engine) : (s.putEng e g).lsp = s.lsp := rfl
@[simp] theorem State.putEng_net (s : State) (e : Nat) (g : Engine) : (s.putEng e g).net = s.net := rfl
@[simp] theorem State.putEng_sec (s : State) (e : Nat) (g : Engine) : (s.putEng e g).sec = s.sec := rfl
@[simp] theorem State.putEng_pwr (s : State) (e : Nat) (g : Engine) : (s.putEng e g).pwr = s.pwr := rfl
@[simp] theorem State.putEng_bkd (s : State) (e : Nat) (g : Engine) : (s.putEng e g).bkd = s.bkd := rfl
@[simp] theorem State.putEng_pending (s : State) (e : Nat) (g : Engine) : (s.putEng e g).pending = s.pending := rfl

/-! State.updTask -/
@[simp] theorem State.updTask_regs (s : State) (t : Nat) (f : TaskSt → TaskSt) : (s.updTask t f).regs = s.regs := rfl
@[simp] theorem State.updTask_mem (s : State) (t : Nat) (f : TaskSt → TaskSt) : (s.updTask t f).mem = s.mem := rfl
@[simp] theorem State.updTask_mono (s : State) (t : Nat) (f : TaskSt → TaskSt) : (s.updTask t f).mono = s.mono := rfl
@[simp] theorem State.updTask_freeCtr (s : State) (t : Nat) (f : TaskSt → TaskSt) : (s.updTask t f).freeCtr = s.freeCtr := rfl
@[simp] theorem State.updTask_outbox (s : State) (t : Nat) (f : TaskSt → TaskSt) : (s.updTask t f).outbox = s.outbox := rfl
@[simp] theorem State.updTask_time (s : State) (t : Nat) (f : TaskSt → TaskSt) : (s.updTask t f).time = s.time := rfl
@[simp] theorem State.updTask_mbx (s : State) (t : Nat) (f : TaskSt → TaskSt) : (s.updTask t f).mbx = s.mbx := rfl
@[simp] theorem State.updTask_pair (s : State) (t : Nat) (f : TaskSt → TaskSt) : (s.updTask t f).pair = s.pair := rfl
@[simp] theorem State.updTask_hhk (s : State) (t : Nat) (f : TaskSt → TaskSt) : (s.updTask t f).hhk = s.hhk := rfl
@[simp] theorem State.updTask_nvs (s : State) (t : Nat) (f : TaskSt → TaskSt) : (s.updTask t f).nvs = s.nvs := rfl
@[simp] theorem State.updTask_memi (s : State) (t : Nat) (f : TaskSt → TaskSt) : (s.updTask t f).memi = s.memi := rfl
@[simp] theorem State.updTask_gate (s : State) (t : Nat) (f : TaskSt → TaskSt) : (s.updTask t f).gate = s.gate := rfl
@[simp] theorem State.updTask_fio (s : State) (t : Nat) (f : TaskSt → TaskSt) : (s.updTask t f).fio = s.fio := rfl
@[simp] theorem State.updTask_can (s : State) (t : Nat) (f : TaskSt → TaskSt) : (s.updTask t f).can = s.can := rfl
@[simp] theorem State.updTask_cfg (s : State) (t : Nat) (f : TaskSt → TaskSt) : (s.updTask t f).cfg = s.cfg := rfl
@[simp] theorem State.updTask_ast (s : State) (t : Nat) (f : TaskSt → TaskSt) : (s.updTask t f).ast = s.ast := rfl
@[simp] theorem State.updTask_lsp (s : State) (t : Nat) (f : TaskSt → TaskSt) : (s.updTask t f).lsp = s.lsp := rfl
@[simp] theorem State.updTask_net (s : State) (t : Nat) (f : TaskSt → TaskSt) : (s.updTask t f).net = s.net := rfl
@[simp] theorem State.updTask_sec (s : State) (t : Nat) (f : TaskSt → TaskSt) : (s.updTask t f).sec = s.sec := rfl
@[simp] theorem State.updTask_pwr (s : State) (t : Nat) (f : TaskSt → TaskSt) : (s.updTask t f).pwr = s.pwr := rfl
@[simp] theorem State.updTask_bkd (s : State) (t : Nat) (f : TaskSt → TaskSt) : (s.updTask t f).bkd = s.bkd := rfl
@[simp] theorem State.updTask_pending (s : State) (t : Nat) (f : TaskSt → TaskSt) : (s.updTask t f).pending = s.pending := rfl

/-! State.updCan -/
@[simp] theorem State.updCan_regs (s : State) (c : Nat) (f : CanCtl → CanCtl) : (s.updCan c f).regs = s.regs := rfl
@[simp] theorem State.updCan_mem (s : State) (c : Nat) (f : CanCtl → CanCtl) : (s.updCan c f).mem = s.mem := rfl
@[simp] theorem State.updCan_mono (s : State) (c : Nat) (f : CanCtl → CanCtl) : (s.updCan c f).mono = s.mono := rfl
@[simp] theorem State.updCan_freeCtr (s : State) (c : Nat) (f : CanCtl → CanCtl) : (s.updCan c f).freeCtr = s.freeCtr := rfl
@[simp] theorem State.updCan_outbox (s : State) (c : Nat) (f : CanCtl → CanCtl) : (s.updCan c f).outbox = s.outbox := rfl
@[simp] theorem State.updCan_time (s : State) (c : Nat) (f : CanCtl → CanCtl) : (s.updCan c f).time = s.time := rfl
@[simp] theorem State.updCan_mbx (s : State) (c : Nat) (f : CanCtl → CanCtl) : (s.updCan c f).mbx = s.mbx := rfl
@[simp] theorem State.updCan_pair (s : State) (c : Nat) (f : CanCtl → CanCtl) : (s.updCan c f).pair = s.pair := rfl
@[simp] theorem State.updCan_hhk (s : State) (c : Nat) (f : CanCtl → CanCtl) : (s.updCan c f).hhk = s.hhk := rfl
@[simp] theorem State.updCan_nvs (s : State) (c : Nat) (f : CanCtl → CanCtl) : (s.updCan c f).nvs = s.nvs := rfl
@[simp] theorem State.updCan_memi (s : State) (c : Nat) (f : CanCtl → CanCtl) : (s.updCan c f).memi = s.memi := rfl
@[simp] theorem State.updCan_gate (s : State) (c : Nat) (f : CanCtl → CanCtl) : (s.updCan c f).gate = s.gate := rfl
@[simp] theorem State.updCan_fio (s : State) (c : Nat) (f : CanCtl → CanCtl) : (s.updCan c f).fio = s.fio := rfl
@[simp] theorem State.updCan_cfg (s : State) (c : Nat) (f : CanCtl → CanCtl) : (s.updCan c f).cfg = s.cfg := rfl
@[simp] theorem State.updCan_ast (s : State) (c : Nat) (f : CanCtl → CanCtl) : (s.updCan c f).ast = s.ast := rfl
@[simp] theorem State.updCan_lsp (s : State) (c : Nat) (f : CanCtl → CanCtl) : (s.updCan c f).lsp = s.lsp := rfl
@[simp] theorem State.updCan_net (s : State) (c : Nat) (f : CanCtl → CanCtl) : (s.updCan c f).net = s.net := rfl
@[simp] theorem State.updCan_prog (s : State) (c : Nat) (f : CanCtl → CanCtl) : (s.updCan c f).prog = s.prog := rfl
@[simp] theorem State.updCan_sec (s : State) (c : Nat) (f : CanCtl → CanCtl) : (s.updCan c f).sec = s.sec := rfl
@[simp] theorem State.updCan_pwr (s : State) (c : Nat) (f : CanCtl → CanCtl) : (s.updCan c f).pwr = s.pwr := rfl
@[simp] theorem State.updCan_bkd (s : State) (c : Nat) (f : CanCtl → CanCtl) : (s.updCan c f).bkd = s.bkd := rfl
@[simp] theorem State.updCan_pending (s : State) (c : Nat) (f : CanCtl → CanCtl) : (s.updCan c f).pending = s.pending := rfl

/-! State.updSess -/
@[simp] theorem State.updSess_regs (s : State) (i : Nat) (f : Session → Session) : (s.updSess i f).regs = s.regs := rfl
@[simp] theorem State.updSess_mem (s : State) (i : Nat) (f : Session → Session) : (s.updSess i f).mem = s.mem := rfl
@[simp] theorem State.updSess_mono (s : State) (i : Nat) (f : Session → Session) : (s.updSess i f).mono = s.mono := rfl
@[simp] theorem State.updSess_freeCtr (s : State) (i : Nat) (f : Session → Session) : (s.updSess i f).freeCtr = s.freeCtr := rfl
@[simp] theorem State.updSess_outbox (s : State) (i : Nat) (f : Session → Session) : (s.updSess i f).outbox = s.outbox := rfl
@[simp] theorem State.updSess_time (s : State) (i : Nat) (f : Session → Session) : (s.updSess i f).time = s.time := rfl
@[simp] theorem State.updSess_pair (s : State) (i : Nat) (f : Session → Session) : (s.updSess i f).pair = s.pair := rfl
@[simp] theorem State.updSess_hhk (s : State) (i : Nat) (f : Session → Session) : (s.updSess i f).hhk = s.hhk := rfl
@[simp] theorem State.updSess_nvs (s : State) (i : Nat) (f : Session → Session) : (s.updSess i f).nvs = s.nvs := rfl
@[simp] theorem State.updSess_memi (s : State) (i : Nat) (f : Session → Session) : (s.updSess i f).memi = s.memi := rfl
@[simp] theorem State.updSess_gate (s : State) (i : Nat) (f : Session → Session) : (s.updSess i f).gate = s.gate := rfl
@[simp] theorem State.updSess_fio (s : State) (i : Nat) (f : Session → Session) : (s.updSess i f).fio = s.fio := rfl
@[simp] theorem State.updSess_can (s : State) (i : Nat) (f : Session → Session) : (s.updSess i f).can = s.can := rfl
@[simp] theorem State.updSess_cfg (s : State) (i : Nat) (f : Session → Session) : (s.updSess i f).cfg = s.cfg := rfl
@[simp] theorem State.updSess_ast (s : State) (i : Nat) (f : Session → Session) : (s.updSess i f).ast = s.ast := rfl
@[simp] theorem State.updSess_lsp (s : State) (i : Nat) (f : Session → Session) : (s.updSess i f).lsp = s.lsp := rfl
@[simp] theorem State.updSess_net (s : State) (i : Nat) (f : Session → Session) : (s.updSess i f).net = s.net := rfl
@[simp] theorem State.updSess_prog (s : State) (i : Nat) (f : Session → Session) : (s.updSess i f).prog = s.prog := rfl
@[simp] theorem State.updSess_sec (s : State) (i : Nat) (f : Session → Session) : (s.updSess i f).sec = s.sec := rfl
@[simp] theorem State.updSess_pwr (s : State) (i : Nat) (f : Session → Session) : (s.updSess i f).pwr = s.pwr := rfl
@[simp] theorem State.updSess_bkd (s : State) (i : Nat) (f : Session → Session) : (s.updSess i f).bkd = s.bkd := rfl
@[simp] theorem State.updSess_pending (s : State) (i : Nat) (f : Session → Session) : (s.updSess i f).pending = s.pending := rfl

/-! State.updStr -/
@[simp] theorem State.updStr_regs (s : State) (n : Nat) (f : StreamSt → StreamSt) : (s.updStr n f).regs = s.regs := rfl
@[simp] theorem State.updStr_mem (s : State) (n : Nat) (f : StreamSt → StreamSt) : (s.updStr n f).mem = s.mem := rfl
@[simp] theorem State.updStr_mono (s : State) (n : Nat) (f : StreamSt → StreamSt) : (s.updStr n f).mono = s.mono := rfl
@[simp] theorem State.updStr_freeCtr (s : State) (n : Nat) (f : StreamSt → StreamSt) : (s.updStr n f).freeCtr = s.freeCtr := rfl
@[simp] theorem State.updStr_outbox (s : State) (n : Nat) (f : StreamSt → StreamSt) : (s.updStr n f).outbox = s.outbox := rfl
@[simp] theorem State.updStr_time (s : State) (n : Nat) (f : StreamSt → StreamSt) : (s.updStr n f).time = s.time := rfl
@[simp] theorem State.updStr_mbx (s : State) (n : Nat) (f : StreamSt → StreamSt) : (s.updStr n f).mbx = s.mbx := rfl
@[simp] theorem State.updStr_pair (s : State) (n : Nat) (f : StreamSt → StreamSt) : (s.updStr n f).pair = s.pair := rfl
@[simp] theorem State.updStr_hhk (s : State) (n : Nat) (f : StreamSt → StreamSt) : (s.updStr n f).hhk = s.hhk := rfl
@[simp] theorem State.updStr_nvs (s : State) (n : Nat) (f : StreamSt → StreamSt) : (s.updStr n f).nvs = s.nvs := rfl
@[simp] theorem State.updStr_memi (s : State) (n : Nat) (f : StreamSt → StreamSt) : (s.updStr n f).memi = s.memi := rfl
@[simp] theorem State.updStr_gate (s : State) (n : Nat) (f : StreamSt → StreamSt) : (s.updStr n f).gate = s.gate := rfl
@[simp] theorem State.updStr_fio (s : State) (n : Nat) (f : StreamSt → StreamSt) : (s.updStr n f).fio = s.fio := rfl
@[simp] theorem State.updStr_can (s : State) (n : Nat) (f : StreamSt → StreamSt) : (s.updStr n f).can = s.can := rfl
@[simp] theorem State.updStr_cfg (s : State) (n : Nat) (f : StreamSt → StreamSt) : (s.updStr n f).cfg = s.cfg := rfl
@[simp] theorem State.updStr_lsp (s : State) (n : Nat) (f : StreamSt → StreamSt) : (s.updStr n f).lsp = s.lsp := rfl
@[simp] theorem State.updStr_net (s : State) (n : Nat) (f : StreamSt → StreamSt) : (s.updStr n f).net = s.net := rfl
@[simp] theorem State.updStr_prog (s : State) (n : Nat) (f : StreamSt → StreamSt) : (s.updStr n f).prog = s.prog := rfl
@[simp] theorem State.updStr_sec (s : State) (n : Nat) (f : StreamSt → StreamSt) : (s.updStr n f).sec = s.sec := rfl
@[simp] theorem State.updStr_pwr (s : State) (n : Nat) (f : StreamSt → StreamSt) : (s.updStr n f).pwr = s.pwr := rfl
@[simp] theorem State.updStr_bkd (s : State) (n : Nat) (f : StreamSt → StreamSt) : (s.updStr n f).bkd = s.bkd := rfl
@[simp] theorem State.updStr_pending (s : State) (n : Nat) (f : StreamSt → StreamSt) : (s.updStr n f).pending = s.pending := rfl

/-! State.updSub -/
@[simp] theorem State.updSub_regs (s : State) (i : Nat) (f : GSub → GSub) : (s.updSub i f).regs = s.regs := rfl
@[simp] theorem State.updSub_mem (s : State) (i : Nat) (f : GSub → GSub) : (s.updSub i f).mem = s.mem := rfl
@[simp] theorem State.updSub_mono (s : State) (i : Nat) (f : GSub → GSub) : (s.updSub i f).mono = s.mono := rfl
@[simp] theorem State.updSub_freeCtr (s : State) (i : Nat) (f : GSub → GSub) : (s.updSub i f).freeCtr = s.freeCtr := rfl
@[simp] theorem State.updSub_outbox (s : State) (i : Nat) (f : GSub → GSub) : (s.updSub i f).outbox = s.outbox := rfl
@[simp] theorem State.updSub_time (s : State) (i : Nat) (f : GSub → GSub) : (s.updSub i f).time = s.time := rfl
@[simp] theorem State.updSub_mbx (s : State) (i : Nat) (f : GSub → GSub) : (s.updSub i f).mbx = s.mbx := rfl
@[simp] theorem State.updSub_pair (s : State) (i : Nat) (f : GSub → GSub) : (s.updSub i f).pair = s.pair := rfl
@[simp] theorem State.updSub_hhk (s : State) (i : Nat) (f : GSub → GSub) : (s.updSub i f).hhk = s.hhk := rfl
@[simp] theorem State.updSub_nvs (s : State) (i : Nat) (f : GSub → GSub) : (s.updSub i f).nvs = s.nvs := rfl
@[simp] theorem State.updSub_memi (s : State) (i : Nat) (f : GSub → GSub) : (s.updSub i f).memi = s.memi := rfl
@[simp] theorem State.updSub_gate (s : State) (i : Nat) (f : GSub → GSub) : (s.updSub i f).gate = s.gate := rfl
@[simp] theorem State.updSub_fio (s : State) (i : Nat) (f : GSub → GSub) : (s.updSub i f).fio = s.fio := rfl
@[simp] theorem State.updSub_can (s : State) (i : Nat) (f : GSub → GSub) : (s.updSub i f).can = s.can := rfl
@[simp] theorem State.updSub_cfg (s : State) (i : Nat) (f : GSub → GSub) : (s.updSub i f).cfg = s.cfg := rfl
@[simp] theorem State.updSub_ast (s : State) (i : Nat) (f : GSub → GSub) : (s.updSub i f).ast = s.ast := rfl
@[simp] theorem State.updSub_lsp (s : State) (i : Nat) (f : GSub → GSub) : (s.updSub i f).lsp = s.lsp := rfl
@[simp] theorem State.updSub_prog (s : State) (i : Nat) (f : GSub → GSub) : (s.updSub i f).prog = s.prog := rfl
@[simp] theorem State.updSub_sec (s : State) (i : Nat) (f : GSub → GSub) : (s.updSub i f).sec = s.sec := rfl
@[simp] theorem State.updSub_pwr (s : State) (i : Nat) (f : GSub → GSub) : (s.updSub i f).pwr = s.pwr := rfl
@[simp] theorem State.updSub_bkd (s : State) (i : Nat) (f : GSub → GSub) : (s.updSub i f).bkd = s.bkd := rfl
@[simp] theorem State.updSub_pending (s : State) (i : Nat) (f : GSub → GSub) : (s.updSub i f).pending = s.pending := rfl

/-! State.updObj -/
@[simp] theorem State.updObj_regs (s : State) (c o : Nat) (f : CanObj → CanObj) : (s.updObj c o f).regs = s.regs := rfl
@[simp] theorem State.updObj_mem (s : State) (c o : Nat) (f : CanObj → CanObj) : (s.updObj c o f).mem = s.mem := rfl
@[simp] theorem State.updObj_mono (s : State) (c o : Nat) (f : CanObj → CanObj) : (s.updObj c o f).mono = s.mono := rfl
@[simp] theorem State.updObj_freeCtr (s : State) (c o : Nat) (f : CanObj → CanObj) : (s.updObj c o f).freeCtr = s.freeCtr := rfl
@[simp] theorem State.updObj_outbox (s : State) (c o : Nat) (f : CanObj → CanObj) : (s.updObj c o f).outbox = s.outbox := rfl
@[simp] theorem State.updObj_time (s : State) (c o : Nat) (f : CanObj → CanObj) : (s.updObj c o f).time = s.time := rfl
@[simp] theorem State.updObj_mbx (s : State) (c o : Nat) (f : CanObj → CanObj) : (s.updObj c o f).mbx = s.mbx := rfl
@[simp] theorem State.updObj_pair (s : State) (c o : Nat) (f : CanObj → CanObj) : (s.updObj c o f).pair = s.pair := rfl
@[simp] theorem State.updObj_hhk (s : State) (c o : Nat) (f : CanObj → CanObj) : (s.updObj c o f).hhk = s.hhk := rfl
@[simp] theorem State.updObj_nvs (s : State) (c o : Nat) (f : CanObj → CanObj) : (s.updObj c o f).nvs = s.nvs := rfl
@[simp] theorem State.updObj_memi (s : State) (c o : Nat) (f : CanObj → CanObj) : (s.updObj c o f).memi = s.memi := rfl
@[simp] theorem State.updObj_gate (s : State) (c o : Nat) (f : CanObj → CanObj) : (s.updObj c o f).gate = s.gate := rfl
@[simp] theorem State.updObj_fio (s : State) (c o : Nat) (f : CanObj → CanObj) : (s.updObj c o f).fio = s.fio := rfl
@[simp] theorem State.updObj_cfg (s : State) (c o : Nat) (f : CanObj → CanObj) : (s.updObj c o f).cfg = s.cfg := rfl
@[simp] theorem State.updObj_ast (s : State) (c o : Nat) (f : CanObj → CanObj) : (s.updObj c o f).ast = s.ast := rfl
@[simp] theorem State.updObj_lsp (s : State) (c o : Nat) (f : CanObj → CanObj) : (s.updObj c o f).lsp = s.lsp := rfl
@[simp] theorem State.updObj_net (s : State) (c o : Nat) (f : CanObj → CanObj) : (s.updObj c o f).net = s.net := rfl
@[simp] theorem State.updObj_prog (s : State) (c o : Nat) (f : CanObj → CanObj) : (s.updObj c o f).prog = s.prog := rfl
@[simp] theorem State.updObj_sec (s : State) (c o : Nat) (f : CanObj → CanObj) : (s.updObj c o f).sec = s.sec := rfl
@[simp] theorem State.updObj_pwr (s : State) (c o : Nat) (f : CanObj → CanObj) : (s.updObj c o f).pwr = s.pwr := rfl
@[simp] theorem State.updObj_bkd (s : State) (c o : Nat) (f : CanObj → CanObj) : (s.updObj c o f).bkd = s.bkd := rfl
@[simp] theorem State.updObj_pending (s : State) (c o : Nat) (f : CanObj → CanObj) : (s.updObj c o f).pending = s.pending := rfl

/-! updSrc -/
@[simp] theorem updSrc_regs (n : Nat) (f : SrcSt → SrcSt) (s : State) : (updSrc n f s).regs = s.regs := rfl
@[simp] theorem updSrc_mem (n : Nat) (f : SrcSt → SrcSt) (s : State) : (updSrc n f s).mem = s.mem := rfl
@[simp] theorem updSrc_mono (n : Nat) (f : SrcSt → SrcSt) (s : State) : (updSrc n f s).mono = s.mono := rfl
@[simp] theorem updSrc_freeCtr (n : Nat) (f : SrcSt → SrcSt) (s : State) : (updSrc n f s).freeCtr = s.freeCtr := rfl
@[simp] theorem updSrc_outbox (n : Nat) (f : SrcSt → SrcSt) (s : State) : (updSrc n f s).outbox = s.outbox := rfl
@[simp] theorem updSrc_mbx (n : Nat) (f : SrcSt → SrcSt) (s : State) : (updSrc n f s).mbx = s.mbx := rfl
@[simp] theorem updSrc_pair (n : Nat) (f : SrcSt → SrcSt) (s : State) : (updSrc n f s).pair = s.pair := rfl
@[simp] theorem updSrc_hhk (n : Nat) (f : SrcSt → SrcSt) (s : State) : (updSrc n f s).hhk = s.hhk := rfl
@[simp] theorem updSrc_nvs (n : Nat) (f : SrcSt → SrcSt) (s : State) : (updSrc n f s).nvs = s.nvs := rfl
@[simp] theorem updSrc_memi (n : Nat) (f : SrcSt → SrcSt) (s : State) : (updSrc n f s).memi = s.memi := rfl
@[simp] theorem updSrc_gate (n : Nat) (f : SrcSt → SrcSt) (s : State) : (updSrc n f s).gate = s.gate := rfl
@[simp] theorem updSrc_fio (n : Nat) (f : SrcSt → SrcSt) (s : State) : (updSrc n f s).fio = s.fio := rfl
@[simp] theorem updSrc_can (n : Nat) (f : SrcSt → SrcSt) (s : State) : (updSrc n f s).can = s.can := rfl
@[simp] theorem updSrc_cfg (n : Nat) (f : SrcSt → SrcSt) (s : State) : (updSrc n f s).cfg = s.cfg := rfl
@[simp] theorem updSrc_ast (n : Nat) (f : SrcSt → SrcSt) (s : State) : (updSrc n f s).ast = s.ast := rfl
@[simp] theorem updSrc_lsp (n : Nat) (f : SrcSt → SrcSt) (s : State) : (updSrc n f s).lsp = s.lsp := rfl
@[simp] theorem updSrc_net (n : Nat) (f : SrcSt → SrcSt) (s : State) : (updSrc n f s).net = s.net := rfl
@[simp] theorem updSrc_prog (n : Nat) (f : SrcSt → SrcSt) (s : State) : (updSrc n f s).prog = s.prog := rfl
@[simp] theorem updSrc_sec (n : Nat) (f : SrcSt → SrcSt) (s : State) : (updSrc n f s).sec = s.sec := rfl
@[simp] theorem updSrc_pwr (n : Nat) (f : SrcSt → SrcSt) (s : State) : (updSrc n f s).pwr = s.pwr := rfl
@[simp] theorem updSrc_bkd (n : Nat) (f : SrcSt → SrcSt) (s : State) : (updSrc n f s).bkd = s.bkd := rfl
@[simp] theorem updSrc_pending (n : Nat) (f : SrcSt → SrcSt) (s : State) : (updSrc n f s).pending = s.pending := rfl

/-! updNand -/
@[simp] theorem updNand_regs (f : NandSt → NandSt) (s : State) : (updNand f s).regs = s.regs := rfl
@[simp] theorem updNand_mem (f : NandSt → NandSt) (s : State) : (updNand f s).mem = s.mem := rfl
@[simp] theorem updNand_mono (f : NandSt → NandSt) (s : State) : (updNand f s).mono = s.mono := rfl
@[simp] theorem updNand_freeCtr (f : NandSt → NandSt) (s : State) : (updNand f s).freeCtr = s.freeCtr := rfl
@[simp] theorem updNand_outbox (f : NandSt → NandSt) (s : State) : (updNand f s).outbox = s.outbox := rfl
@[simp] theorem updNand_time (f : NandSt → NandSt) (s : State) : (updNand f s).time = s.time := rfl
@[simp] theorem updNand_mbx (f : NandSt → NandSt) (s : State) : (updNand f s).mbx = s.mbx := rfl
@[simp] theorem updNand_pair (f : NandSt → NandSt) (s : State) : (updNand f s).pair = s.pair := rfl
@[simp] theorem updNand_hhk (f : NandSt → NandSt) (s : State) : (updNand f s).hhk = s.hhk := rfl
@[simp] theorem updNand_memi (f : NandSt → NandSt) (s : State) : (updNand f s).memi = s.memi := rfl
@[simp] theorem updNand_gate (f : NandSt → NandSt) (s : State) : (updNand f s).gate = s.gate := rfl
@[simp] theorem updNand_fio (f : NandSt → NandSt) (s : State) : (updNand f s).fio = s.fio := rfl
@[simp] theorem updNand_can (f : NandSt → NandSt) (s : State) : (updNand f s).can = s.can := rfl
@[simp] theorem updNand_cfg (f : NandSt → NandSt) (s : State) : (updNand f s).cfg = s.cfg := rfl
@[simp] theorem updNand_ast (f : NandSt → NandSt) (s : State) : (updNand f s).ast = s.ast := rfl
@[simp] theorem updNand_lsp (f : NandSt → NandSt) (s : State) : (updNand f s).lsp = s.lsp := rfl
@[simp] theorem updNand_net (f : NandSt → NandSt) (s : State) : (updNand f s).net = s.net := rfl
@[simp] theorem updNand_prog (f : NandSt → NandSt) (s : State) : (updNand f s).prog = s.prog := rfl
@[simp] theorem updNand_sec (f : NandSt → NandSt) (s : State) : (updNand f s).sec = s.sec := rfl
@[simp] theorem updNand_pwr (f : NandSt → NandSt) (s : State) : (updNand f s).pwr = s.pwr := rfl
@[simp] theorem updNand_bkd (f : NandSt → NandSt) (s : State) : (updNand f s).bkd = s.bkd := rfl
@[simp] theorem updNand_pending (f : NandSt → NandSt) (s : State) : (updNand f s).pending = s.pending := rfl

/-! updOpen -/
@[simp] theorem updOpen_regs (g : Nat) (f : LspEvt → LspEvt) (s : State) : (updOpen g f s).regs = s.regs := rfl
@[simp] theorem updOpen_mem (g : Nat) (f : LspEvt → LspEvt) (s : State) : (updOpen g f s).mem = s.mem := rfl
@[simp] theorem updOpen_mono (g : Nat) (f : LspEvt → LspEvt) (s : State) : (updOpen g f s).mono = s.mono := rfl
@[simp] theorem updOpen_freeCtr (g : Nat) (f : LspEvt → LspEvt) (s : State) : (updOpen g f s).freeCtr = s.freeCtr := rfl
@[simp] theorem updOpen_outbox (g : Nat) (f : LspEvt → LspEvt) (s : State) : (updOpen g f s).outbox = s.outbox := rfl
@[simp] theorem updOpen_time (g : Nat) (f : LspEvt → LspEvt) (s : State) : (updOpen g f s).time = s.time := rfl
@[simp] theorem updOpen_mbx (g : Nat) (f : LspEvt → LspEvt) (s : State) : (updOpen g f s).mbx = s.mbx := rfl
@[simp] theorem updOpen_pair (g : Nat) (f : LspEvt → LspEvt) (s : State) : (updOpen g f s).pair = s.pair := rfl
@[simp] theorem updOpen_hhk (g : Nat) (f : LspEvt → LspEvt) (s : State) : (updOpen g f s).hhk = s.hhk := rfl
@[simp] theorem updOpen_nvs (g : Nat) (f : LspEvt → LspEvt) (s : State) : (updOpen g f s).nvs = s.nvs := rfl
@[simp] theorem updOpen_memi (g : Nat) (f : LspEvt → LspEvt) (s : State) : (updOpen g f s).memi = s.memi := rfl
@[simp] theorem updOpen_gate (g : Nat) (f : LspEvt → LspEvt) (s : State) : (updOpen g f s).gate = s.gate := rfl
@[simp] theorem updOpen_fio (g : Nat) (f : LspEvt → LspEvt) (s : State) : (updOpen g f s).fio = s.fio := rfl
@[simp] theorem updOpen_can (g : Nat) (f : LspEvt → LspEvt) (s : State) : (updOpen g f s).can = s.can := rfl
@[simp] theorem updOpen_cfg (g : Nat) (f : LspEvt → LspEvt) (s : State) : (updOpen g f s).cfg = s.cfg := rfl
@[simp] theorem updOpen_ast (g : Nat) (f : LspEvt → LspEvt) (s : State) : (updOpen g f s).ast = s.ast := rfl
@[simp] theorem updOpen_net (g : Nat) (f : LspEvt → LspEvt) (s : State) : (updOpen g f s).net = s.net := rfl
@[simp] theorem updOpen_prog (g : Nat) (f : LspEvt → LspEvt) (s : State) : (updOpen g f s).prog = s.prog := rfl
@[simp] theorem updOpen_sec (g : Nat) (f : LspEvt → LspEvt) (s : State) : (updOpen g f s).sec = s.sec := rfl
@[simp] theorem updOpen_pwr (g : Nat) (f : LspEvt → LspEvt) (s : State) : (updOpen g f s).pwr = s.pwr := rfl
@[simp] theorem updOpen_bkd (g : Nat) (f : LspEvt → LspEvt) (s : State) : (updOpen g f s).bkd = s.bkd := rfl
@[simp] theorem updOpen_pending (g : Nat) (f : LspEvt → LspEvt) (s : State) : (updOpen g f s).pending = s.pending := rfl

/-! updEvents -/
@[simp] theorem updEvents_regs (p : LspEvt → Bool) (f : LspEvt → LspEvt) (s : State) : (updEvents p f s).regs = s.regs := rfl
@[simp] theorem updEvents_mem (p : LspEvt → Bool) (f : LspEvt → LspEvt) (s : State) : (updEvents p f s).mem = s.mem := rfl
@[simp] theorem updEvents_mono (p : LspEvt → Bool) (f : LspEvt → LspEvt) (s : State) : (updEvents p f s).mono = s.mono := rfl
@[simp] theorem updEvents_freeCtr (p : LspEvt → Bool) (f : LspEvt → LspEvt) (s : State) : (updEvents p f s).freeCtr = s.freeCtr := rfl
@[simp] theorem updEvents_outbox (p : LspEvt → Bool) (f : LspEvt → LspEvt) (s : State) : (updEvents p f s).outbox = s.outbox := rfl
@[simp] theorem updEvents_time (p : LspEvt → Bool) (f : LspEvt → LspEvt) (s : State) : (updEvents p f s).time = s.time := rfl
@[simp] theorem updEvents_mbx (p : LspEvt → Bool) (f : LspEvt → LspEvt) (s : State) : (updEvents p f s).mbx = s.mbx := rfl
@[simp] theorem updEvents_pair (p : LspEvt → Bool) (f : LspEvt → LspEvt) (s : State) : (updEvents p f s).pair = s.pair := rfl
@[simp] theorem updEvents_hhk (p : LspEvt → Bool) (f : LspEvt → LspEvt) (s : State) : (updEvents p f s).hhk = s.hhk := rfl
@[simp] theorem updEvents_nvs (p : LspEvt → Bool) (f : LspEvt → LspEvt) (s : State) : (updEvents p f s).nvs = s.nvs := rfl
@[simp] theorem updEvents_memi (p : LspEvt → Bool) (f : LspEvt → LspEvt) (s : State) : (updEvents p f s).memi = s.memi := rfl
@[simp] theorem updEvents_gate (p : LspEvt → Bool) (f : LspEvt → LspEvt) (s : State) : (updEvents p f s).gate = s.gate := rfl
@[simp] theorem updEvents_fio (p : LspEvt → Bool) (f : LspEvt → LspEvt) (s : State) : (updEvents p f s).fio = s.fio := rfl
@[simp] theorem updEvents_can (p : LspEvt → Bool) (f : LspEvt → LspEvt) (s : State) : (updEvents p f s).can = s.can := rfl
@[simp] theorem updEvents_cfg (p : LspEvt → Bool) (f : LspEvt → LspEvt) (s : State) : (updEvents p f s).cfg = s.cfg := rfl
@[simp] theorem updEvents_ast (p : LspEvt → Bool) (f : LspEvt → LspEvt) (s : State) : (updEvents p f s).ast = s.ast := rfl
@[simp] theorem updEvents_net (p : LspEvt → Bool) (f : LspEvt → LspEvt) (s : State) : (updEvents p f s).net = s.net := rfl
@[simp] theorem updEvents_prog (p : LspEvt → Bool) (f : LspEvt → LspEvt) (s : State) : (updEvents p f s).prog = s.prog := rfl
@[simp] theorem updEvents_sec (p : LspEvt → Bool) (f : LspEvt → LspEvt) (s : State) : (updEvents p f s).sec = s.sec := rfl
@[simp] theorem updEvents_pwr (p : LspEvt → Bool) (f : LspEvt → LspEvt) (s : State) : (updEvents p f s).pwr = s.pwr := rfl
@[simp] theorem updEvents_bkd (p : LspEvt → Bool) (f : LspEvt → LspEvt) (s : State) : (updEvents p f s).bkd = s.bkd := rfl
@[simp] theorem updEvents_pending (p : LspEvt → Bool) (f : LspEvt → LspEvt) (s : State) : (updEvents p f s).pending = s.pending := rfl

/-! putPeer -/
@[simp] theorem putPeer_regs (p : Peer) (s : State) : (putPeer p s).regs = s.regs := rfl
@[simp] theorem putPeer_mem (p : Peer) (s : State) : (putPeer p s).mem = s.mem := rfl
@[simp] theorem putPeer_mono (p : Peer) (s : State) : (putPeer p s).mono = s.mono := rfl
@[simp] theorem putPeer_freeCtr (p : Peer) (s : State) : (putPeer p s).freeCtr = s.freeCtr := rfl
@[simp] theorem putPeer_outbox (p : Peer) (s : State) : (putPeer p s).outbox = s.outbox := rfl
@[simp] theorem putPeer_time (p : Peer) (s : State) : (putPeer p s).time = s.time := rfl
@[simp] theorem putPeer_mbx (p : Peer) (s : State) : (putPeer p s).mbx = s.mbx := rfl
@[simp] theorem putPeer_hhk (p : Peer) (s : State) : (putPeer p s).hhk = s.hhk := rfl
@[simp] theorem putPeer_nvs (p : Peer) (s : State) : (putPeer p s).nvs = s.nvs := rfl
@[simp] theorem putPeer_memi (p : Peer) (s : State) : (putPeer p s).memi = s.memi := rfl
@[simp] theorem putPeer_gate (p : Peer) (s : State) : (putPeer p s).gate = s.gate := rfl
@[simp] theorem putPeer_fio (p : Peer) (s : State) : (putPeer p s).fio = s.fio := rfl
@[simp] theorem putPeer_can (p : Peer) (s : State) : (putPeer p s).can = s.can := rfl
@[simp] theorem putPeer_cfg (p : Peer) (s : State) : (putPeer p s).cfg = s.cfg := rfl
@[simp] theorem putPeer_ast (p : Peer) (s : State) : (putPeer p s).ast = s.ast := rfl
@[simp] theorem putPeer_lsp (p : Peer) (s : State) : (putPeer p s).lsp = s.lsp := rfl
@[simp] theorem putPeer_net (p : Peer) (s : State) : (putPeer p s).net = s.net := rfl
@[simp] theorem putPeer_prog (p : Peer) (s : State) : (putPeer p s).prog = s.prog := rfl
@[simp] theorem putPeer_sec (p : Peer) (s : State) : (putPeer p s).sec = s.sec := rfl
@[simp] theorem putPeer_pwr (p : Peer) (s : State) : (putPeer p s).pwr = s.pwr := rfl
@[simp] theorem putPeer_bkd (p : Peer) (s : State) : (putPeer p s).bkd = s.bkd := rfl
@[simp] theorem putPeer_pending (p : Peer) (s : State) : (putPeer p s).pending = s.pending := rfl

/-! State.setBkd -/
@[simp] theorem State.setBkd_mem (s : State) (t : Nat) : (s.setBkd t).mem = s.mem := rfl
@[simp] theorem State.setBkd_mono (s : State) (t : Nat) : (s.setBkd t).mono = s.mono := rfl
@[simp] theorem State.setBkd_freeCtr (s : State) (t : Nat) : (s.setBkd t).freeCtr = s.freeCtr := rfl
@[simp] theorem State.setBkd_outbox (s : State) (t : Nat) : (s.setBkd t).outbox = s.outbox := rfl
@[simp] theorem State.setBkd_time (s : State) (t : Nat) : (s.setBkd t).time = s.time := rfl
@[simp] theorem State.setBkd_mbx (s : State) (t : Nat) : (s.setBkd t).mbx = s.mbx := rfl
@[simp] theorem State.setBkd_pair (s : State) (t : Nat) : (s.setBkd t).pair = s.pair := rfl
@[simp] theorem State.setBkd_hhk (s : State) (t : Nat) : (s.setBkd t).hhk = s.hhk := rfl
@[simp] theorem State.setBkd_nvs (s : State) (t : Nat) : (s.setBkd t).nvs = s.nvs := rfl
@[simp] theorem State.setBkd_memi (s : State) (t : Nat) : (s.setBkd t).memi = s.memi := rfl
@[simp] theorem State.setBkd_gate (s : State) (t : Nat) : (s.setBkd t).gate = s.gate := rfl
@[simp] theorem State.setBkd_fio (s : State) (t : Nat) : (s.setBkd t).fio = s.fio := rfl
@[simp] theorem State.setBkd_can (s : State) (t : Nat) : (s.setBkd t).can = s.can := rfl
@[simp] theorem State.setBkd_cfg (s : State) (t : Nat) : (s.setBkd t).cfg = s.cfg := rfl
@[simp] theorem State.setBkd_ast (s : State) (t : Nat) : (s.setBkd t).ast = s.ast := rfl
@[simp] theorem State.setBkd_lsp (s : State) (t : Nat) : (s.setBkd t).lsp = s.lsp := rfl
@[simp] theorem State.setBkd_net (s : State) (t : Nat) : (s.setBkd t).net = s.net := rfl
@[simp] theorem State.setBkd_prog (s : State) (t : Nat) : (s.setBkd t).prog = s.prog := rfl
@[simp] theorem State.setBkd_sec (s : State) (t : Nat) : (s.setBkd t).sec = s.sec := rfl
@[simp] theorem State.setBkd_pwr (s : State) (t : Nat) : (s.setBkd t).pwr = s.pwr := rfl
@[simp] theorem State.setBkd_bkd (s : State) (t : Nat) : (s.setBkd t).bkd = s.bkd := rfl
@[simp] theorem State.setBkd_pending (s : State) (t : Nat) : (s.setBkd t).pending = s.pending := rfl

@[simp] theorem State.send_outbox (s : State) (m : OutMsg) : (s.send m).outbox = s.outbox ++ [m] := rfl
@[simp] theorem updNand_nand (f : NandSt → NandSt) (s : State) : (updNand f s).nvs.nand = f s.nvs.nand := rfl
@[simp] theorem State.took_freeCtr (s : State) : s.took.freeCtr = s.freeCtr + 1 := rfl

end Sys2Proof.Machine
end

