-- ==== Sys2Proof/Laws/Regs.lean ====
section
/-! SUPPORT. Registers, memory and what is sent, through the named operations of `Ops`: what each changes, what each
leaves, and that each keeps the canonical form. -/

namespace Sys2Proof.Machine

/-! ### Registers -/

@[simp] theorem State.reg_setReg_same (s : State) (a : Nat) (w : Word) : (s.setReg a w).reg a = w :=
  kvGet_kvPut_same _ _ _ _

theorem State.reg_setReg_other (s : State) (a b : Nat) (w : Word) (h : b ≠ a) : (s.setReg a w).reg b = s.reg b :=
  kvGet_kvPut_other _ _ _ _ _ h

/-- A field reads what was written to it. -/
theorem State.get_set_same (s : State) (f : Fld) (v : Nat) (h : f.ok = true) :
    (s.set f v).get f = v % 2 ^ (f.hi + 1 - f.lo) := by
  simp only [Fld.ok, Bool.and_eq_true, decide_eq_true_eq] at h
  unfold State.get State.set
  rw [State.reg_setReg_same]
  exact fieldOf_putField_same _ _ _ _ h.1 h.2

/-- A field apart from the one written keeps its value. -/
theorem State.get_set_apart (s : State) (f g : Fld) (v : Nat) (h : f.ok = true) (ha : f.apart g = true) :
    (s.set f v).get g = s.get g := by
  simp only [Fld.ok, Bool.and_eq_true, decide_eq_true_eq] at h
  simp only [Fld.apart, Bool.or_eq_true, decide_eq_true_eq] at ha
  unfold State.get State.set
  by_cases e : f.addr = g.addr
  · rw [← e, State.reg_setReg_same]
    rcases ha with (ha | ha) | ha
    · exact absurd e ha
    · exact fieldOf_putField_above _ _ _ _ _ _ h.1 h.2 ha
    · exact fieldOf_putField_below _ _ _ _ _ _ h.1 h.2 ha
  · rw [State.reg_setReg_other _ _ _ _ (Ne.symm e)]

/-- A register other than the one a field lies in keeps its word. -/
theorem State.reg_set_other (s : State) (f : Fld) (v a : Nat) (h : a ≠ f.addr) : (s.set f v).reg a = s.reg a :=
  State.reg_setReg_other _ _ _ _ h

theorem State.get_lt (s : State) (f : Fld) : s.get f < 2 ^ (f.hi + 1 - f.lo) := fieldOf_lt _ _ _

/-- Reading registers depends on the register file alone. -/
theorem State.reg_congr (s t : State) (h : s.regs = t.regs) (a : Nat) : s.reg a = t.reg a := by
  unfold State.reg; rw [h]

theorem State.get_congr (s t : State) (h : s.regs = t.regs) (f : Fld) : s.get f = t.get f := by
  unfold State.get; rw [State.reg_congr s t h]

/-! ### Memory -/

@[simp] theorem State.byte_setByte_same (s : State) (a : Nat) (b : Byte) : (s.setByte a b).byte a = b :=
  kvGet_kvPut_same _ _ _ _

theorem State.byte_setByte_other (s : State) (a k : Nat) (b : Byte) (h : k ≠ a) : (s.setByte a b).byte k = s.byte k :=
  kvGet_kvPut_other _ _ _ _ _ h

/-- Bytes outside those written keep their values. -/
theorem State.byte_setBytes_other (bs : List Byte) (s : State) (a k : Nat) (h : k < a ∨ a + bs.length ≤ k) :
    (s.setBytes a bs).byte k = s.byte k := by
  induction bs generalizing s a with
  | nil => rfl
  | cons b r ih =>
    simp only [List.length_cons] at h
    unfold State.setBytes
    rw [ih _ _ (by omega), State.byte_setByte_other _ _ _ _ (by omega)]

/-- Bytes written read back. -/
theorem State.byte_setBytes_same (bs : List Byte) (s : State) (a i : Nat) (h : i < bs.length) :
    (s.setBytes a bs).byte (a + i) = bs.getD i 0#8 := by
  induction bs generalizing s a i with
  | nil => simp at h
  | cons b r ih =>
    unfold State.setBytes
    rcases i with _ | i
    · rw [State.byte_setBytes_other _ _ _ _ (by omega)]
      simp
    · have := ih (s.setByte a b) (a + 1) i (by simpa using h)
      rw [show a + 1 + i = a + (i + 1) by omega] at this
      rw [this]
      simp

/-- Writing bytes changes nothing but memory. -/
theorem State.setBytes_frame (bs : List Byte) (s : State) (a : Nat) :
    s.setBytes a bs = { s with mem := (s.setBytes a bs).mem } := by
  induction bs generalizing s a with
  | nil => rfl
  | cons b r ih =>
    unfold State.setBytes
    rw [ih]
    rfl

/-! ### The canonical form -/

theorem State.setReg_wf (s : State) (a : Nat) (w : Word) (h : regsWf s = true) : regsWf (s.setReg a w) = true :=
  kvPut_wf _ _ _ _ h

theorem State.set_wf (s : State) (f : Fld) (v : Nat) (h : regsWf s = true) : regsWf (s.set f v) = true :=
  State.setReg_wf _ _ _ h

theorem State.setByte_wf (s : State) (a : Nat) (b : Byte) (h : memWf s = true) : memWf (s.setByte a b) = true :=
  kvPut_wf _ _ _ _ h

theorem State.setBytes_wf (bs : List Byte) (s : State) (a : Nat) (h : memWf s = true) :
    memWf (s.setBytes a bs) = true := by
  induction bs generalizing s a with
  | nil => exact h
  | cons b r ih => exact ih _ _ (State.setByte_wf _ _ _ h)

/-! ### Event flags (00 R10, 03 R103) -/

/-- A notification changes nothing but what is sent and the sessions. -/
theorem notifyOne_frame (b a : Nat) (s : State) (i : Nat) :
    ∃ m o, notifyOne b a s i = { s with mbx := m, outbox := o } := by
  unfold notifyOne
  split
  · exact ⟨s.mbx, s.outbox, rfl⟩
  · split
    · exact ⟨s.mbx, s.outbox, rfl⟩
    · split
      · exact ⟨_, s.outbox, rfl⟩
      · exact ⟨_, _, rfl⟩

theorem notifyFold_frame (b a : Nat) (l : List Nat) (s : State) :
    ∃ m o, l.foldl (notifyOne b a) s = { s with mbx := m, outbox := o } := by
  induction l generalizing s with
  | nil => exact ⟨s.mbx, s.outbox, rfl⟩
  | cons x r ih =>
    obtain ⟨m, o, h⟩ := notifyOne_frame b a s x
    obtain ⟨m', o', h'⟩ := ih (notifyOne b a s x)
    refine ⟨m', o', ?_⟩
    rw [List.foldl_cons, h', h]

theorem notifyAll_frame (a : Nat) (s : State) : ∃ m o, notifyAll a s = { s with mbx := m, outbox := o } :=
  notifyFold_frame _ _ _ _

@[simp] theorem notifyAll_regs (a : Nat) (s : State) : (notifyAll a s).regs = s.regs := by
  obtain ⟨m, o, h⟩ := notifyAll_frame a s; rw [h]

@[simp] theorem notifyAll_get (a : Nat) (s : State) (f : Fld) : (notifyAll a s).get f = s.get f :=
  State.get_congr _ _ (notifyAll_regs a s) f

/-- The state before subscribers are told: the flag set and its counter counted. -/
def flagged (e : Ev) (s : State) : State :=
  match e.cnt with | some c => (s.set e.flag 1).bump c | none => s.set e.flag 1

theorem State.raise_eq (s : State) (e : Ev) : s.raise e = notifyAll e.flag.addr (flagged e s) := by
  unfold State.raise flagged; cases e.cnt <;> rfl

/-- Raising a flag changes registers, what is sent, and the sessions' notification marks. -/
theorem State.raise_frame (s : State) (e : Ev) : ∃ m o, s.raise e = { flagged e s with mbx := m, outbox := o } := by
  rw [State.raise_eq]; exact notifyAll_frame _ _

/-- A raised flag reads 1. -/
theorem State.raise_flag (s : State) (e : Ev) (h : e.flag.ok = true) (h1 : e.flag.hi = e.flag.lo)
    (hc : ∀ c, e.cnt = some c → c.ok = true ∧ c.apart e.flag = true) : (s.raise e).get e.flag = 1 := by
  rw [State.raise_eq, notifyAll_get]
  have hb : (s.set e.flag 1).get e.flag = 1 := by
    rw [State.get_set_same _ _ _ h, h1]
    simp
  unfold flagged
  cases hx : e.cnt with
  | none => exact hb
  | some c =>
    obtain ⟨h2, h3⟩ := hc c hx
    show ((s.set e.flag 1).set c _).get e.flag = 1
    rw [State.get_set_apart _ _ _ _ h2 h3]
    exact hb

/-- A field that is neither the flag nor its counter keeps its value. -/
theorem State.raise_other (s : State) (e : Ev) (g : Fld) (h : e.flag.ok = true) (ha : e.flag.apart g = true)
    (hc : ∀ c, e.cnt = some c → c.ok = true ∧ c.apart g = true) : (s.raise e).get g = s.get g := by
  rw [State.raise_eq, notifyAll_get]
  unfold flagged
  cases hx : e.cnt with
  | none => exact State.get_set_apart _ _ _ _ h ha
  | some c =>
    obtain ⟨h2, h3⟩ := hc c hx
    show ((s.set e.flag 1).set c _).get g = s.get g
    rw [State.get_set_apart _ _ _ _ h2 h3, State.get_set_apart _ _ _ _ h ha]

theorem State.raise_wf (s : State) (e : Ev) (h : regsWf s = true) : regsWf (s.raise e) = true := by
  obtain ⟨m, o, hr⟩ := State.raise_frame s e
  rw [hr]
  show regsWf (flagged e s) = true
  unfold flagged
  cases e.cnt with
  | none => exact State.set_wf _ _ _ h
  | some c => exact State.set_wf _ _ _ (State.set_wf _ _ _ h)

end Sys2Proof.Machine
end

