-- ==== Sys2Proof/Tests/Slice0.lean ====
section
/-! SUPPORT. Tests of the model: ill-formed commands that WellFormed refuses, the worked examples and check values of the
spec, and, for each statement with hypotheses, a state and operands that meet them (`witness_` with its name). -/

open Sys2Proof Sys2Proof.Machine

set_option Elab.async false

namespace Sys2Proof.Tests

/-! ### States and operands the tests are about -/

/-- Session 0 open in the secure world with every role. -/
def sess : State :=
  (((State.reset.set (Reg.mbxSessOpen 0) 1).set (Reg.mbxSessSecure 0) 1).set (Reg.mbxSessHeld 0) 31).set
    (Reg.mbxSessActive 0) 31

/-- A request of session 0, and one of engine 0, with a payload, answered at once. -/
def rq (pay : List Byte) : Req := ⟨.host 0, 1, 0, 0, pay.length, 0, 1, pay, 0⟩
def rp (pay : List Byte) : Req := ⟨.petal 0, 1, 0, 0, pay.length, 0, 1, pay, 0⟩

/-- A payload of the given bytes. -/
def by8 (l : List Nat) : List Byte := l.map (BitVec.ofNat 8)

/-- `sess` in a role, and in a role while it holds OWN. -/
def inRole (r : Nat) : State := sess.set Reg.sysRoleRole r
def owner (r : Nat) : State := (inRole r).set Reg.hhkPairStatusOwnHeld 1

/-- A time that a heartbeat tells. -/
def hbTime : HbTime := ⟨0, 5, 0, true, false, 0, false, false⟩

/-- A peer in a slot with a role, and a Hollyhock header from slot 2. -/
def peer (slot role : Nat) : Peer := ⟨slot, 1, role, false, 0, hbTime⟩
def hdr : HhkHdr := ⟨0, 2, 0, 0, 0xFF, 1, 0, true, false⟩

/-- A state with these peers; with this settings object in effect. -/
def withPeers (l : List Peer) (s : State) : State := { s with pair := { s.pair with peers := l } }
def withObj (o : Nat) (b : List Byte) (s : State) : State := { s with cfg := { s.cfg with applied := [(o, b)] } }

def withObjs (l : List (Nat × List Byte)) (s : State) : State := { s with cfg := { s.cfg with applied := l } }
/-- Network port 0 is enabled with ROLE 1. -/
def portCfg : List Byte := List.replicate 16 0#8 ++ [1#8, 1#8]

/-- A unit with a program, a function block and a function of engine 0, a task and an error task. -/
def unit0 : LoadUnit where
  id := 7
  split := false
  built := []
  tool := []
  ringLog2 := []
  images := [⟨0, zeros 32, by8 [1, 2, 3, 4, 5, 6, 7, 8]⟩]
  types := [⟨2, 0, 0, 0, 0, 8, 64, 0, 100, 1⟩, ⟨0, 0, 0, 0, 8, 8, 16, 32, 100, 2⟩, ⟨1, 0, 1, 1, 16, 8, 0, 16, 100, 3⟩]
  insts := [⟨1, 0, 64, 64, 0, 0⟩, ⟨2, 0, 128, 64, 0, 0⟩]
  init := []
  tasks := [⟨1, 0, 0, 0, 1, 0, 1, 1, 0, 64, 16, [0], [100], 1⟩, ⟨2, 0, 1, 0, 1, 0, 1, 0, 0, 64, 16, [0], [100], 2⟩]
  planH := 1
  plan := []
  stations := []
  ins := []
  outs := []
  syms := [⟨5, 4, 0, 2, 0, 0, 0, 4, []⟩]
  locals := [64, 0, 0, 0, 0, 0, 0, 0]

/-- The program in a state with `unit0` installed and both tasks under way. -/
def loaded (st : ProgState) (s : State) : State :=
  { s with prog := { s.prog with state := st, active := some unit0, tasks := [{ alive := true }, { alive := true }] } }

/-- Engine 0 runs a segment of `unit0` with this operand stack, 100 bytes of code at 8 and 64 bytes of instance. -/
def engine (st : List Quad) : Engine :=
  { running := true, pc := 8, lo := 8, hi := 108, stack := st, ib := 64, instLim := 64, locLim := 32 }
def petal (st : List Quad) : State := (loaded .run sess).putEng 0 (engine st)

/-- Whether an outcome is a next state with a property. -/
def nxt (o : Out) (p : State → Bool) : Bool := match o with | .next t => p t | _ => false

/-! ### Petal -/

theorem witness_StepRunsTheFrontCommand :
    step { sess with pending := [.ocxoWarm] } = .next (sess.set Reg.timStatusOcxoWarm 1) ∧ sess.pending = [] :=
  ⟨rfl, rfl⟩

theorem witness_PetalStackAndCompares :
    (∀ l, l < 5 → petalReady 0 l (petal [3#64, 2#64, 1#64])) ∧ ((petal [3#64, 2#64, 1#64]).eng 0).stack[2]? = some 1#64 ∧
    (petal []).prog.active = some unit0 ∧ 0 < constCount unit0 0 ∧ petalReady 0 100 (petal []) ∧
    fIsNan .f32 0x7FC00000 = true ∧ fIsNan .f64 0 = false := by decide +kernel

theorem witness_PetalIntegerArithmetic :
    petalReady 0 1 (petal [0#64, 7#64]) ∧ ((petal [0#64, 7#64]).eng 0).stack = 0#64 :: 7#64 :: [] ∧
    clsRead .i32 0#64 = 0 ∧ clsRead .i32 7#64 ≠ 0 := by decide +kernel

theorem witness_PetalFloatingPoint :
    petalReady 0 1 (petal [0x7FC00000#64, 7#64]) ∧ fIsNan .f32 (flBits .f32 0x7FC00000#64) = true ∧
    fIsNan .f32 (flBits .f32 7#64) = false := by decide +kernel

theorem witness_PetalLogicAndShifts :
    petalReady 0 2 (petal [63#64, 1#64]) ∧ 8 ∈ [8, 16, 32, 64] ∧ 63 ≤ 63 ∧
    ((petal [63#64, 1#64]).eng 0).stack = 63#64 :: 1#64 :: [] := by decide +kernel

theorem witness_PetalConversions :
    petalReady 0 3 (petal [300#64]) ∧ tyOf 0x01 = some (.bool, 1) ∧ tyOf 4 = some (.signed, 4) ∧
    tyOf 7 = some (.unsigned, 2) ∧ tyOf 0x19 = some (.char, 2) ∧ tyOf 0x1A = none := by
  decide +kernel

theorem witness_PetalLoadsAndStores :
    (∀ sp ∈ [Space.loc, .inst, .inp, .out], 8 + 1 * 4 + 4 ≤ (spaceRange (petal []) 0 ((petal []).eng 0) sp).2) ∧
    petalReady 0 6 (petal [1#64, 9#64]) ∧ tyOf 4 = some (.signed, 4) ∧ 8 % 4 = 0 ∧ 0 ≤ (1#64).toInt ∧ (1#64).toInt < 2 ∧
    ((petal []).eng 0).err = false := by decide +kernel

theorem witness_PetalCopy :
    petalReady 0 4 (petal [8#64, 0#64]) ∧ spaceOf 1 = some .inst ∧ spaceOf 0 = some .loc ∧ Space.inst ≠ .inp ∧
    8 + 16 ≤ (spaceRange (petal []) 0 ((petal []).eng 0) .inst).2 ∧
    0 + 16 ≤ (spaceRange (petal []) 0 ((petal []).eng 0) .loc).2 := by decide +kernel

/-- Engine 0 inside a loop and a call. -/
def looping : State := (petal [0#64]).putEng 0
  { engine [0#64] with loops := [⟨2, 1, 10, 20⟩], calls := [⟨12, 64, 0, 64, 32, [], 8, 108⟩] }

theorem witness_PetalBranchesLoopsAndCalls :
    petalReady 0 5 (petal [2#64]) ∧ (2#64).toNat ≤ 2 ∧ ((petal [2#64]).eng 0).loops.length < 4 ∧
    petalReady 0 1 looping ∧ (looping.eng 0).loops = ⟨2, 1, 10, 20⟩ :: [] ∧
    (looping.eng 0).calls = ⟨12, 64, 0, 64, 32, [], 8, 108⟩ :: [] ∧
    (calleeOf (petal [2#64]) 0 1 0).isSome = true ∧ 0 + 16 ≤ ((petal []).eng 0).instLim ∧
    frameFits (petal [2#64]) 0 ((petal []).eng 0) 32 = true ∧ (calleeOf (petal [2#64]) 0 2 1).isSome = true ∧
    frameFits (petal [2#64]) 0 ((petal []).eng 0) 16 = true := by decide +kernel

theorem witness_PetalSegmentEndsAndFaults :
    petalReady 0 1 (petal []) ∧ ((petal []).eng 0).err = false ∧ ((petal []).eng 0).task < (petal []).prog.tasks.length ∧
    ((petal []).eng 0).calls = [] ∧ ((petal []).eng 0).loops = [] ∧ lastSegment 0 (petal []) ∧
    unit0.tasks[0]?.isSome = true ∧ ((petal []).task 1).halted = false ∧ ((petal []).task 1).alive = true ∧
    unit0.tasks[0]?.map (·.kind) = some 0 ∧ ((petal []).eng 0).stack = [] ∧ (petal []).prog.active = some unit0 := by decide +kernel

/-- Task 1 is due next with its second segment, after the one of task 0. -/
def twoDue : State :=
  let u : LoadUnit := { unit0 with tasks := unit0.tasks.map (fun r => { r with kind := 0 }) }
  let s := petal []
  { s.putEng 0 { engine [] with due := [(1, 1)] } with
    prog := { (s.putEng 0 { engine [] with due := [(1, 1)] }).prog with active := some u } }

theorem witness_PetalSegmentEndsAndFaults_next :
    petalReady 0 1 twoDue ∧ (twoDue.eng 0).posted = [0, 0, 0, 0] ∧ (twoDue.eng 0).due = (1, 1) :: [] ∧
    1 ≠ (twoDue.eng 0).task ∧ (twoDue.task 1).alive = true ∧ (twoDue.task 1).halted = false ∧ (twoDue.eng 0).calls = [] ∧
    (twoDue.eng 0).loops = [] ∧ (twoDue.eng 0).stack = [] ∧
    (twoDue.prog.active.bind (fun u => u.tasks[1]?)).map (·.kind) = some 0 ∧
    (twoDue.prog.active.bind (fun u => (u.tasks[1]?).bind (fun r => (instOf u r).bind (fun i => u.types[i.type]?)))).isSome
      = true := by decide +kernel

theorem witness_PetalFaultsChangeNothingElse :
    petalReady 0 6 (petal [8#64]) ∧ ((petal [8#64]).eng 0).stack.length < 2 ∧ lastSegment 0 (petal [8#64]) ∧
    petalReady 0 1 (petal (List.replicate 16 0#64)) ∧ 16 ≤ ((petal (List.replicate 16 0#64)).eng 0).stack.length ∧
    (2 : Int) ≤ (8#64).toInt ∧ (-1 : Int) ≤ 0 ∧ 7 < (8#64).toNat ∧ ((petal [8#64]).eng 0).calls = [] := by
  decide +kernel

theorem witness_PetalSystemCalls :
    petalReady 0 5 (petal [3#64]) ∧ ((petal []).taskRow 0).isSome = true ∧ 0 + 48 ≤ ((petal []).eng 0).instLim ∧
    (∀ q, q < 4 → 0 < ringSize (petal []) (requestRing 0 q) / 2 ∧ ringHeld (petal []) (requestRing 0 q) = 0) ∧
    ringSize ((petal []).putEng 0 { engine [] with quota := [99999, 0, 0, 0] }) (requestRing 0 0) / 2 ≤ 99999 := by
  decide +kernel

/-! ### Mailbox, time and register access -/

/-- `sess` with these requests outstanding. -/
def outs (l : List Outst) : State := sess.updSess 0 (fun c => { c with out := l })

theorem witness_RequestsThatFailACheckDoNothing :
    cmdRow 8 1 = some ⟨8, 1, 0, .b, false⟩ ∧ mailboxRequest (.updateGetStatus (rq [])) = some (8, 1, rq []) ∧
    State.reset.on (Reg.mbxSessOpen 0) = false ∧ seqFresh 0 (rq []) State.reset = true ∧ headerOk (rq []) = true ∧
    noResponse (rq []) = false ∧ inTime 8 1 (rq []) = true ∧ sess.on (Reg.mbxSessOpen 0) = true ∧
    overtakes 0 (rq []) (beginsAfresh 0 (rq []) (sess.updSess 0 (fun c => { c with segs := [⟨1, 8, 1, 0, 2, 1, []⟩] })))
      = true ∧
    (sess.set (Reg.mbxSessSecure 0) 0).on (Reg.mbxSessSecure 0) = false ∧
    mayIssue ((sess.set (Reg.mbxSessActive 0) 0).get (Reg.mbxSessActive 0)) 0 = false ∧
    ((outs [⟨1, 8, 3, 0, false⟩]).sess 0).out.any (fun o => o.seq == 1) = true ∧
    8 ≤ ((outs (List.replicate 8 ⟨2, 1, 1, 0, false⟩)).sess 0).out.length ∧
    2 ≤ (((outs [⟨2, 8, 3, 0, false⟩, ⟨3, 8, 3, 0, false⟩]).sess 0).out.filter outIsD).length ∧
    seqFresh 0 (rq []) (outs [⟨2, 8, 3, 0, false⟩, ⟨3, 8, 3, 0, false⟩]) = true := by decide +kernel

/-- Every request of R100 that needs no payload meets its checks in `sess`. -/
theorem witness_requestOk :
    ∀ p ∈ [(1, 1), (1, 2), (2, 1), (2, 3), (2, 6), (2, 7), (3, 1), (4, 1), (4, 4), (4, 6), (5, 1), (5, 4), (6, 3), (7, 1),
      (7, 2), (7, 3), (8, 1), (8, 4), (8, 5), (8, 6), (8, 7), (10, 1), (10, 7), (11, 1), (11, 2), (11, 3), (12, 1), (12, 2),
      (13, 1), (13, 2), (14, 1), (14, 2), (15, 1), (15, 2), (16, 1)],
      requestOk p.1 p.2 noPayload 0 (rq []) sess = true := by decide +kernel

theorem witness_IdentAndSessionCommands :
    requestOk 1 3 (exactly 4) 0 (rq (by8 [15, 0, 0, 0])) sess = true ∧
    requestOk 2 2 (exactly 1) 0 (rq (by8 [31])) sess = true ∧ 31 &&& sess.get (Reg.mbxSessHeld 0) = 31 ∧
    requestOk 2 4 (exactly 2) 0 (rq (by8 [10, 0])) sess = true ∧ leAt (by8 [10, 0]) 0 2 = 10 ∧
    leAt (by8 [0x10, 0x0E]) 0 2 = 3600 ∧ requestOk 2 5 (exactly 2) 0 (rq (by8 [0, 0x10])) sess = true ∧
    sess.on (Reg.mbxSessSecure 0) = true ∧ requestOk 2 8 (exactly 1) 0 (rq (by8 [15])) sess = true ∧
    (sess.set (Reg.mbxSessOpen 15) 1).on (Reg.mbxSessOpen 15) = true ∧ 15 < sess.mbx.sessions.length := by decide +kernel

/-- A qualifying handshake of the secure world on the service port. -/
def shake : Handshake := ⟨4, 1, mbxTcpPort, 0x0304, 0x1302, 0x0018, 0x0503, 0, 2, [1#8], 0, 0, [⟨4, 0, 0⟩]⟩
def up : State := { State.reset with sec := { State.reset.sec with fwUp := true } }

theorem witness_HandshakesAndSessionEnds :
    up.sec.fwUp = true ∧ listens up 4 = true ∧ up.mbx.lockout.contains 1 = false ∧ tlsSupported shake = true ∧
    shake.tcp = mbxTcpPort ∧ rolesOf up shake.roles ≠ 0 ∧
    (bitOf (rolesOf up shake.roles) 3 = true ∨ bitOf (rolesOf up shake.roles) 4 = true) ∧
    (worldIndexes (shake.alpn == 2)).find? (fun i => !up.on (Reg.mbxSessOpen i)) = some 14 ∧
    (worldIndexes (({ shake with alpn := 1 } : Handshake).alpn == 2)).find? (fun i => !up.on (Reg.mbxSessOpen i)) = some 0 ∧
    14 < up.mbx.sessions.length ∧ rolesOf up [] = 0 ∧ tlsSupported { shake with version := 0x0303 } = false ∧
    7 ≤ (((List.replicate 7 (1, 0) : List (Nat × Nat)).filter
      (fun p => decide (up.mono < p.2 + 60 * nsPerS) && p.1 == shake.addr))).length ∧
    ({ up with mbx := { up.mbx with lockout := [1] } }).mbx.lockout.contains 1 = true ∧
    sess.on (Reg.mbxSessOpen 0) = true ∧
    (((sess.updSess 0 (fun c => { c with segs := [⟨3, 8, 3, 0, 2, 1, []⟩] })).sess 0).segs.find?
      (fun a => a.seq == 3)).isSome = true := by decide +kernel

theorem witness_SegmentsCancelsAndMalformedMessages :
    (∀ r : Req, r = ⟨.host 0, 3, 0, 0, 65536, 0, 2, zeros 65536, 0⟩ → segmentOk r = true ∧
      segmentFits ⟨3, 8, 3, 0, 2, 0, []⟩ 8 3 r = true ∧ segmentFits ⟨3, 8, 3, 0, 3, 1, []⟩ 8 3 r = false) ∧
    cancelOk ⟨.host 0, 1, 0x10, 0, 0, 0, 1, [], 0⟩ = true ∧
    ((outs [⟨1, 8, 3, 0, false⟩]).sess 0).out.find? (fun o => o.seq == 1 && o.fam == 8 && o.cmd == 3) = some ⟨1, 8, 3, 0, false⟩ ∧
    (sess.sess 0).out.find? (fun o => o.seq == 1 && o.fam == 8 && o.cmd == 3) = none ∧
    headerOk ⟨.host 0, 1, 1, 0, 0, 0, 1, [], 0⟩ = false ∧ framingLost ⟨.host 0, 1, 1, 0, 0, 0, 1, [], 0⟩ = false ∧
    (outs [⟨1, 8, 1, 0, false⟩]).on (Reg.mbxSessOpen 0) = true ∧ (cmdRow 8 3).map (·.cls) = some .d ∧
    (cmdRow 8 1).map (·.cls) = some .b ∧ mayIssue (sess.get (Reg.mbxSessActive 0)) 4 = true ∧
    ((outs [⟨1, 8, 3, 0, false⟩]).sess 0).out.find? (fun o => o.seq == 1 && outIsD o) = some ⟨1, 8, 3, 0, false⟩ ∧
    (outs [⟨1, 8, 3, 0, false⟩]).nvs.transfers.find? (fun x => x.sess == 0 && x.seq == 1) = none ∧
    famKnown 0x20 = false ∧ famKnown 8 = true ∧ cmdRow 8 0x20 = none := by
  refine ⟨?_, by decide +kernel⟩
  rintro r rfl
  have h : (zeros 65536).length = 65536 := List.length_replicate
  simp only [segmentOk, segmentFits, h]
  decide

theorem witness_SegmentsCancelsAndMalformedMessages_more :
    ringsIdle 0 sess = true ∧ headerOk (rq []) = true ∧ noResponse (rq []) = false ∧ (⟨1, 8, 3, 0, false⟩ : Outst).quiet = false ∧
    ((sess.updSess 0 (fun c => { c with segs := [⟨1, 8, 1, 0, 2, 1, []⟩] })).sess 0).segs.any (fun a => a.seq == 1) = true ∧
    (sess.sess 0).segs.any (fun a => a.seq == 1) = false := by decide +kernel

theorem witness_EventFlagsCountAndClear :
    2 % 4 ≠ 0 ∧ 0x100000 ≤ 0x100000 ∧ (State.reset.set Reg.lckDiagCtrlLock 1).on Reg.lckDiagCtrlLock = true := by
  decide +kernel

theorem witness_DiagCommands :
    requestOk 6 1 (exactly 8) 0 (rq (by8 [0, 0, 0xC, 0, 1, 0, 0, 0])) sess = true ∧
    leAt (by8 [0, 0, 0xC, 0, 1, 0, 0, 0]) 0 4 = 0xC0000 ∧ 0xC0000 + 4 * 1 ≤ 0x100000 ∧
    (0xFFFFC + 4 * 1 ≤ 0x100000 ∧ 0x100000 % 4 = 0) ∧
    requestOk 6 2 (fun n => decide (8 ≤ n) && n % 8 == 0) 0
      (rq (leBytes 4 0x10008 ++ leBytes 2 1 ++ zeros 2 ++ leBytes 4 1 ++ leBytes 4 1)) sess = true ∧
    requestOk 6 2 (fun n => decide (8 ≤ n) && n % 8 == 0) 0 (rq (leBytes 4 0x10008 ++ leBytes 2 2 ++ zeros 2 ++
      leBytes 4 0xFF ++ leBytes 4 0xFF ++ leBytes 4 0xFF ++ leBytes 4 0)) sess = true ∧
    petalOk 6 4 (exactly 6) 0 (rp (zeros 6)) sess = true ∧ leAt (by8 [0, 0, 0xC, 0, 1, 0, 0, 0]) 4 2 = 1 ∧
    requestOk 6 1 (exactly 8) 0 (rq (by8 [2, 0, 1, 0, 1, 0, 0, 0])) sess = true ∧ leAt (by8 [2, 0, 1, 0]) 0 4 % 4 ≠ 0 ∧
    requestOk 6 1 (exactly 8) 0 (rq (by8 [0, 0, 0xC, 0, 1, 0, 0, 0])) (sess.set (Reg.mbxSessSecure 0) 0) = true ∧ logAdmits sess := by decide +kernel

theorem witness_RingControl :
    ringServes sess 0 0 = true ∧ ringServes sess 0 1 = false ∧ issues sess 0 = true ∧ issues sess 1 = true ∧
    issues sess 0x0A = false ∧ ringHeld (sess.set (Reg.rcbProdProd 255) 1) 255 ≠ 0 ∧
    descriptorOk (zeros 64) = false ∧ 1 < ringSize sess 0 ∧ ringHeld sess 0 = 0 ∧
    sess.get (Reg.rcbModTimeUs 0) = 0 ∧ sess.get (Reg.rcbProdProd 0) = 0 ∧ ringServes sess 255 8 = ringServes sess 255 9 := by
  decide +kernel

theorem witness_GateTables :
    sess.on (Reg.gateGCtrlSealed 14) = false ∧ sess.on (entLock (entAddr 14 31)) = false ∧
    (sess.set (entLock (entAddr 14 31)) 1).on (entLock (entAddr 14 31)) = true ∧
    (sess.set (Reg.gateGCtrlSealed 0) 1).on (Reg.gateGCtrlSealed 0) = true ∧
    issues sess 8 = true ∧ issues sess 9 = true ∧ masterDebug ≠ 8 ∧ sess.get Reg.sysModeGroupKind = 0 ∧
    (sess.set Reg.sysModeGroupKind 2).get Reg.sysModeGroupKind ∈ [1, 2] ∧ ([] : List Nat).length < 16 ∧
    (sess.set (Reg.gateGCtrlState 0) gateDraining).get (Reg.gateGCtrlState 0) = gateDraining ∧
    15 < sess.gate.fifos.length := by decide +kernel

theorem witness_GateTables_petal : isPe 2 = true ∧ isPe 8 = false ∧ issues sess 8 = true := by decide +kernel

/-- An access of 8 bytes by UM0. -/
def access (user : Bool) (addr : Nat) : FabAcc := ⟨8, false, user, 1, addr, 3, 1, zeros 8, []⟩

theorem witness_FabricAccesses :
    (rejected sess (whoOf (access true 0x4000000000)) 0x4000000000 8).isSome = true ∧
    (∀ p ∈ [(0, 0), (0x4000000000, 1), (0x4010000000, 5), (0x4040000000, 8)], (targetOf p.1).map (·.2.2) = some p.2 ∧
      rejected (sess.set (Reg.gateGCtrlState p.2) gateOpen) (whoOf (access false p.1)) p.1 8 = none) ∧
    (sess.set (Reg.gateGCtrlState 5) gateOpen).get (Reg.gateGCtrlState 5) = gateOpen ∧ accPriv 8 true = false ∧
    (∀ e, e < 32 → entCovers sess (entAddr 5 e) 0 = false) ∧ masterDebug ≠ 8 ∧ isDma 8 = false ∧ isPe 8 = false ∧
    issues sess 8 = true ∧ issues sess 0x0A = false ∧ isPe 7 = true ∧ (targetOf 0x4000000000).map (·.2.2) ≠ some (1 + 7 % 4) ∧
    (∀ g, g < 16 → (sess.gate.fifos.getD g []).length < 16 ∧ g < sess.gate.fifos.length) ∧ lineErrors sess [] = [] ∧
    (∀ j, j < 8 → openByte sess (0x4010000000 + j) = false) := by decide +kernel

theorem witness_TimeCommands :
    requestOk 7 4 (exactly 48) 0 (rq sess.time.cfg) sess = true ∧ timeConfigBad sess.time.cfg = none ∧
    timeConfigBad (by8 [0x41, 0x42, 0x0F, 0] ++ zeros 44) = some 0 ∧ sess.sec.groupStep = 0 ∧
    requestOk 7 5 (exactly 10) 0 (rq (by8 [0xFF, 0xC9, 0x9A, 0x3B, 0, 0, 0, 0, 0, 0])) sess = true ∧
    leAt (by8 [0xFF, 0xC9, 0x9A, 0x3B]) 0 4 = 999999999 ∧ sess.on Reg.timStatusRunLock = false ∧
    (sess.set Reg.timStatusRunLock 1).on Reg.timStatusRunLock = true ∧
    requestOk 7 6 (exactly 3) 0 (rq (by8 [37, 0, 3])) sess = true := by decide +kernel

theorem witness_RateSlewAndLeap :
    (sess.setInt Reg.timSlewRemRem (-1)).getInt Reg.timSlewRemRem = -1 ∧ sess.getInt Reg.timSlewRemRem = 0 ∧
    ((sess.setInt Reg.timRateAdjRate (-429497)).getInt Reg.timRateAdjRate).natAbs ≤ 429497 ∧ sess.time.frac < 2 ^ 32 ∧
    sess.now + 6 < 2 ^ 48 * 1000000000 ∧ (-2 ^ 31 : Int) ≤ -2 ^ 31 ∧ (2 ^ 31 - 1 : Int) < 2 ^ 31 ∧
    (∀ f ∈ [Reg.timTaiUtcLeap61, Reg.timTaiUtcLeap59], ((sess.set Reg.timTaiUtcKnown 1).set f 1).on f = true ∧
      ((sess.set Reg.timTaiUtcKnown 1).set f 1).on Reg.timTaiUtcKnown = true) ∧
    ((sess.set Reg.timTaiUtcKnown 1).set Reg.timTaiUtcLeap59 1).on Reg.timTaiUtcLeap61 = false ∧
    sess.get Reg.timTaiUtcOffset < 65535 := by decide +kernel

/-- The word this module would drive, as a number, and a state with a tick role and TIME_PRIO 1. -/
def word : Nat := (ownWord sess false).foldl (fun n b => 2 * n + (if b then 1 else 0)) 0
def ticking (r : Nat) : State :=
  let s := sess.set Reg.timStatusTickRole r
  { s with time := { s.time with cfg := patch s.time.cfg 40 [1#8], ownSel := 0 } }

theorem witness_TickRoleAndTheBusWord :
    (ticking 1).get Reg.timStatusTickRole = 1 ∧ ((100 : Int) - cfgSyncDelay (ticking 1)).natAbs ≤ 100 ∧
    100 < ((-101 : Int) - cfgSyncDelay (ticking 1)).natAbs ∧ (-101 : Int).natAbs < 2 ^ 31 ∧
    ({ (ticking 1).time with syncMisses := 15, wordValid := true }).syncMisses = 15 ∧ (ticking 1).time.ownSel < 6 ∧
    bitOf (cfgIrigMode (ticking 1)) 1 = false ∧ arbitrates (ticking 2) = true ∧
    arbKey (effPrio (ticking 2)) ((ticking 2).get Reg.sysPositionSlotId) < arbKey 0 1 ∧ arbitrates sess = false ∧
    arbKey 200 0 ≤ arbKey (effPrio (ticking 2)) ((ticking 2).get Reg.sysPositionSlotId) ∧
    crc16 ((msbBits 128 word).drop 15) = 0 ∧ crc16 ((msbBits 128 (word + 1)).drop 15) ≠ 0 ∧
    busField (msbBits 128 word) 63 74 < 4000 ∧ sess.on Reg.timStatusRunLock = false ∧
    (sess.set Reg.timStatusRunLock 1).on Reg.timStatusRunLock = true ∧
    (sess.set Reg.timStatusTickRole 1).get Reg.timStatusTickRole = 1 ∧ arbitrates (sess.set Reg.timStatusTickRole 1) = false ∧
    sess.get Reg.timStatusTickRole = 0 ∧ sess.time.wordsMissing < 4 ∧ 4 ≤ ({ sess.time with wordsMissing := 4 }).wordsMissing ∧
    srcLocked ((ticking 1).set (Reg.timSrcLocked 0) 1) 0 = true ∧ cfgTimePrio (ticking 1) ≠ 0 ∧
    (ticking 1).time.faults = 0 ∧ (ticking 1).get Reg.timArbMasterPrio < cfgTimePrio (ticking 1) := by decide +kernel

theorem witness_TickRoleAndTheBusWord_missing :
    sess.get Reg.timStatusTickRole = 0 ∧ sess.time.wordsMissing < 3 ∧ sess.role ≠ roleFailed ∧
    3 ≤ ({ sess with time := { sess.time with wordsMissing := 3 } } : State).time.wordsMissing := by decide +kernel

/-- Port 3 carries a profile, TAI-UTC is known, and every source has this history and run, locked or not. -/
def sources (hist : List Int) (run : Nat) (locked : Nat) : State :=
  let s := (((sess.set Reg.timTaiUtcKnown 1).set (Reg.timSrcLocked 3) locked).set (Reg.timSrcLocked 2) locked)
  { s with time := { s.time with
    cfg := patch s.time.cfg 23 [1#8], srcs := List.replicate 6 { hist := hist, run := run } } }

theorem witness_TimeSources :
    cfgProfile (sources [] 0 0) 3 ≠ 0 ∧ 3 < (sources [] 0 0).time.srcs.length ∧ cfgDomain (sources [] 0 0) 3 = 0 ∧
    (1 : Nat) ≠ cfgDomain sess 0 ∧ (5 + cfgAsym (sources [] 0 0) 3 / 1000).natAbs < 2 ^ 31 ∧
    2 * (filteredOfs (sources [5] 0 1) 3).natAbs ≤ profileBound (sources [5] 0 1) 3 ∧
    bitOf (cfgIrigMode { sess with time := { sess.time with cfg := patch sess.time.cfg 41 [1#8] } }) 0 = true ∧
    true ≠ cfgPpsFalling sess ∧ 200 < 201 ∧ srcLocked (sources [] 3 0) 4 = false ∧ (sources [] 3 0).time.ownSel ≠ 4 ∧
    srcLocked (sources [] 3 0) 5 = false ∧ (sources [] 3 0).time.ownSel ≠ 5 ∧
    isJump 3 (5 + cfgAsym (sources [] 0 0) 3 / 1000) (sources [] 0 0) = false ∧
    srcLocked (sources [] 0 0) 3 = false ∧ (sources [] 0 0).time.ownSel ≠ 3 ∧
    sixteenAgree ((5 + cfgAsym (sources (List.replicate 15 5) 0 0) 3 / 1000 + (sources [] 0 0).time.adj)
      :: ((sources (List.replicate 15 5) 0 0).src 3).hist.take 15) = true ∧
    isJump 3 (1006 + cfgAsym (sources [5] 0 1) 3 / 1000) (sources [5] 0 1) = true ∧
    ((sources [5] 0 1).src 3).jumps < 7 ∧ srcLocked (sources [5] 0 1) 3 = true ∧
    sess.on Reg.timTaiUtcKnown = false ∧ (sources [] 3 0).on Reg.timTaiUtcKnown = true ∧
    bitOf (cfgIrigMode (sources [] 3 0)) 0 = false ∧ ((sources [] 3 0).src 4).run = 3 ∧
    (((0 : Int) + (sources [] 3 0).get Reg.timTaiUtcOffset) * 1000000000 + cfgIrigDelay (sources [] 3 0)
      - (sources [] 3 0).now - presentOfs (sources [] 3 0) ((sources [] 3 0).src 4).last).natAbs ≤ 1000 := by
  decide +kernel

/-- `sources` with network port 3 enabled with ROLE 1. -/
def hearing (hist : List Int) (jumps : Nat) : State :=
  let s := withObj objNet (zeros 112 ++ by8 [1, 1]) (sources hist 0 0)
  updSrc 3 (fun x => { x with jumps := jumps }) s

theorem witness_TimeSources_ptp :
    ptpHears (hearing [] 0) 3 0 = true ∧ ptpHears (hearing [] 0) 3 1 = false ∧ ptpHears (sources [] 0 0) 3 0 = false ∧
    portOpen (hearing [] 0) 3 = true ∧ pairMode ((hearing [] 0).conf objNet) 1 = 0 ∧ 3 < (hearing [] 0).time.srcs.length ∧
    isJump 3 (5 + cfgAsym (hearing [] 0) 3 / 1000) (hearing [] 0) = false ∧ srcLocked (hearing [] 0) 3 = false ∧
    sixteenAgree ((5 + cfgAsym (hearing (List.replicate 15 5) 0) 3 / 1000 + (hearing (List.replicate 15 5) 0).time.adj)
      :: ((hearing (List.replicate 15 5) 0).src 3).hist.take 15) = true ∧
    isJump 3 (1006 + cfgAsym (hearing [5] 6) 3 / 1000) ((hearing [5] 6).set (Reg.timSrcLocked 3) 1) = true ∧
    ((hearing [5] 6).src 3).jumps < 7 := by decide +kernel

/-- The counter stands at an instant of the day 0. -/
def atNs (n : Nat) (s : State) : State := s.setNow n

theorem witness_TimeSources_pps :
    400000000 < (((((atNs 400000001 sess).now + 500000000) / 1000000000 * 1000000000 : Nat) : Int)
      - (atNs 400000001 sess).now).natAbs ∧
    (((((atNs 400000000 sess).now + 500000000) / 1000000000 * 1000000000 : Nat) : Int)
      - (atNs 400000000 sess).now).natAbs ≤ 400000000 ∧
    ((0 : Int) + cfgPpsDelay (sources [] 3 0)).natAbs ≤ 1000 ∧
    ((sources [] 3 0).src 5).run = 3 ∧ srcLocked (sources [5] 0 1) 2 = true ∧
    cfgDisagree (sources [5] 0 1) < (filteredOfs (updSrc 2 (fun x => { x with hist := [2000] }) (sources [5] 0 1)) 3
      - filteredOfs (updSrc 2 (fun x => { x with hist := [2000] }) (sources [5] 0 1)) 2).natAbs := by decide +kernel

/-- The tick of the frame has fallen. -/
def ticked (s : State) : State := { s with time := { s.time with ticked := true } }

theorem witness_FramesBeginOnMultiplesOf250Us :
    sess.now + 250002 < 2 ^ 48 * 1000000000 ∧ sess.time.frac < 2 ^ 32 ∧ (ticked sess).time.ticked = true ∧ frameOf (atNs 999750000 sess).now = 3999 ∧ frameOf sess.now < 3999 := by
  decide +kernel

theorem witness_TheRateIsClamped :
    (-2 ^ 31 : Int) ≤ -2 ^ 31 ∧ (sess.getInt Reg.timRateAdjRate).natAbs ≤ 429497 ∧ sess.time.frac < 2 ^ 32 ∧
    sess.now + 3 < 2 ^ 48 * 1000000000 := by decide +kernel

/-! ### Settings, field stages and CAN -/

/-- A module of a pair that does not own. -/
def follower : State := (inRole roleStandby).set Reg.sysModeGroupKind 1

/-- A configuration of `n` bytes, zero but for the given bytes at the given offsets. -/
def cfgOf (n : Nat) (l : List (Nat × List Nat)) : List Byte := l.foldl (fun b p => patch b p.1 (by8 p.2)) (zeros n)

/-- DI 15, DO 7 and AI 3 in use; and CAN with both controllers on, FD on 0, object 0 RX and 1 TX of controller 0. -/
def fio1 : List Byte := cfgOf 176 [(76, [1]), (108, [1]), (136, [1])]
def fioState : State := withObj objFio fio1 sess

/-- Objects that end after their first bytes read as zero beyond them. -/
def small : State := { owner roleAlone with cfg := { sess.cfg with
  applied := [(objNet, [0#8]), (objAster, [0#8]), (objLsp, [0#8]), (objCan, [0#8])] } }

theorem witness_FamilyConfigurations :
    (∀ p ∈ [(12, objAster), (13, objLsp), (14, objFio), (15, objCan)],
      requestOk p.1 3 (exactly (objSize p.2)) 0 (rq (zeros (objSize p.2))) sess = true) := by decide +kernel

theorem witness_FamilyConfigurations_record :
    firstBad (fioChecks (zeros (objSize objFio))) = none ∧ settingsOpen (owner roleAlone) = true ∧
    fioClash (zeros (objSize objFio)) (owner roleAlone) = false ∧
    snapWith small objFio (zeros (objSize objFio)) ≤ 49152 ∧ settingsOpen follower = false ∧
    firstBad (fioChecks (List.replicate (objSize objFio) 0xFF#8)) ≠ none := by decide +kernel

theorem witness_FieldSupplyAndStages :
    sess.on Reg.fioStatusFldLow = false ∧ sess.on Reg.fioStatusLockout = false ∧
    (sess.set Reg.fioStatusLockout 1).on Reg.fioStatusLockout = true ∧ 19599 < 19600 ∧
    ({ sess with fio := { sess.fio with drive := .hold } }).fio.drive = .hold ∧
    fioDiEnabled (fioState.conf objFio) 15 = true ∧ 11000 ≤ (List.replicate 16 11000).getD 15 0 ∧
    (List.replicate 16 1999).getD 15 0 < 2000 ∧ 3000 < (List.replicate 16 3001).getD 15 0 ∧
    bitOf ({ sess.fio with sinkBad := 0x8000 }).sinkBad 15 = true ∧
    fioAiEnabled (fioState.conf objFio) 3 = true ∧ fioDamp (fioState.conf objFio) 3 = 0 ∧
    fioDoEnabled (fioState.conf objFio) 7 = true ∧ fioState.pair.blocked = false ∧ bitOf 0 3 = false ∧
    ({ fioState.fio with drive := .owner }).drive = .owner ∧ fioState.fio.lockedOff = false ∧
    (∀ n, n < 16 → 2000 ≤ (List.replicate 16 2000).getD n 0 ∧ (List.replicate 16 3000).getD n 0 ≤ 3000) ∧
    ({ sess with time := { sess.time with ticked := true } }).time.ticked = true := by decide +kernel

/-- Controller 0 in normal operation with object 1 pending; an RX object 0 and a TX object 1 of 8 bytes. -/
def canState : State :=
  let s := withObj objCan (cfgOf 112 [(16, [1, 1]), (48, [1, 0]), (80, [1]), (96, [2, 0, 8])]) (owner roleAlone)
  let s := (s.set Reg.canStatusNormal0 1).set (Reg.canCtrlState 0) canActive
  { s with can := s.can.map (fun k => { k with objs := listSet k.objs 1 (fun x => { x with st := 1 }) }) }

/-- A classical frame with identifier 0, and an FD frame. -/
def canFrame : CanFrame := ⟨0, 0, [1#8], 5, 0, 0⟩
def fdFrame : CanFrame := ⟨2, 0, [1#8], 5, 0, 0⟩

theorem witness_FieldAndCanCommands :
    requestOk 14 4 (exactly 4) 0 (rq (by8 [3, 0, 0, 0])) sess = true ∧
    requestOk 15 4 (fun n => decide (4 ≤ n) && n == 4 + leAt (by8 [0, 1, 1, 0, 9]) 2 1) 0 (rq (by8 [0, 1, 1, 0, 9]))
      canState = true ∧ enqueueBad (by8 [0, 1, 1, 0, 9]) canState = none ∧ canState.held = true ∧
    canState.get (Reg.canCtrlState 0) ≤ canPassive ∧ (canState.ctl 0).sending ≠ some 1 ∧
    canEnabled (canState.conf objCan) 0 = true ∧ 0 < canState.can.length ∧ 1 < (canState.ctl 0).objs.length ∧
    (canState.set Reg.hhkPairStatusOwnHeld 0).held = false ∧
    enqueueBad (by8 [0, 1, 1, 0, 9]) (canState.set Reg.hhkPairStatusOwnHeld 0) = none ∧
    sess.get (Reg.canCtrlState 0) ≠ canBusOff ∧ requestOk 15 5 (exactly 4) 0 (rq (by8 [1, 0, 0, 0])) sess = true ∧
    (sess.set (Reg.canCtrlState 1) canBusOff).get (Reg.canCtrlState 1) = canBusOff ∧
    requestOk 15 6 (exactly 12) 0 (rq (by8 [1, 0, 0, 0, 0, 0, 0, 0, 32, 0, 0, 0])) sess = true := by decide +kernel

theorem witness_CanControllers :
    canOnBus 0 canState = true ∧ canOnBus 1 canState = true ∧ canFd (canState.conf objCan) 1 = false ∧
    bitOf fdFrame.flags 1 = true ∧
    (List.range 128).find? (fun o => canMatches (canState.conf objCan) 0 o canFrame) = some 0 ∧
    canNormal 0 canState = true ∧ (canState.ctl 0).sending = none ∧ canBest 0 canState = some 1 ∧
    frameIndex canState.now ≤ (canState.canObj 0 1).queuedAt + canDeadline (canState.conf objCan) 0 1 ∧
    canState.get (Reg.canCtrlState 0) = canActive ∧ canState.get (Reg.canCtrlRec 0) < 96 ∧
    canState.get (Reg.canCtrlTec 0) < 96 ∧
    (canState.set (Reg.canCtrlState 0) canRecovering).get (Reg.canCtrlState 0) = canRecovering := by decide +kernel

theorem witness_ConfigurationCommands :
    requestOk 3 2 (exactly 4) 0 (rq (by8 [0x13, 0, 0, 0])) sess = true ∧ objFio ∈ objCodes ∧ objFio ∉ sess.cfg.absent ∧
    7 ∉ objCodes ∧ requestOk 3 3 (fun n => decide (4 ≤ n)) 0 (rq (by8 [1, 0, 0, 0] ++ zeros 38096)) sess = true ∧
    requestOk 3 3 (fun n => decide (4 ≤ n)) 0 (rq (by8 [2, 0, 0, 0] ++ zeros 3528)) sess = true ∧
    requestOk 3 4 (exactly 4) 0 (rq (by8 [1, 0, 0, 0])) sess = true ∧
    requestOk 3 5 (exactly 4) 0 (rq (by8 [1, 0, 0, 0])) sess = true ∧ settingsOpen follower = false ∧
    takesGroup (owner roleAlone) = true ∧ takesGroup follower = false ∧ objGet sess.cfg.staged objNet = [] ∧
    (firstBad (netChecks sess (by8 [0, 0, 0, 0, 2]))).isSome = true ∧
    netClash [0#8] small = false ∧ snapWith small objNet [0#8] ≤ 49152 := by decide +kernel

theorem witness_ConfigurationCommands_more :
    settingsOpen (owner roleAlone) = true ∧ objFio ∈ ({ sess.cfg with absent := [objFio] }).absent ∧
    ([1#8] : List Byte) ≠ [] ∧ takesGroup sess = true ∧
    ({ sess.cfg with next := [(objFio, 1, fio1)] }).next = [(objFio, 1, fio1)] ∧ 1 ≤ frameIndex sess.now + 1 ∧
    objFio ∈ [objNet, objAster, objLsp, objFio, objCan] ∧ fio1 ≠ [] := by decide +kernel

/-! ### Units, change, run, forces -/

/-- `unit0` is active and staged, or a change to it is under way, at the owner. -/
def staging (st : ProgState) : State :=
  let s := loaded st (owner roleAlone)
  { s with prog := { s.prog with staged := some unit0 } }
def changing (stage : Nat) : State :=
  let s := staging .changing
  { s with prog := { s.prog with change := some { stage := stage } } }

/-- These frames are named. -/
def named (l : List (Nat × Named)) (s : State) : State := { s with prog := { s.prog with named := l } }

theorem witness_UnitsAndOnlineChange :
    requestOk 4 2 (fun n => decide (16 ≤ n)) 0 (rq (leBytes 4 20 ++ zeros 4 ++ by8 [1] ++ zeros 27)) sess = true ∧
    sess.prog.state ≠ .changing ∧ admitters sess = [] ∧ isOwner (owner roleAlone) = true ∧
    admitters (withPeers [peer 2 roleStandby] (owner rolePrimary)) ≠ [] ∧
    requestOk 4 3 (exactly 8) 0 (rq (leBytes 8 7)) (staging .run) = true ∧ takesGroup (staging .run) = true ∧
    groupUpdating (staging .run) = false ∧ memberSyncing (staging .run) = false ∧ (staging .run).prog.load = none ∧
    (staging .stopped).prog.state = .stopped ∧ sess.prog.staged = none ∧
    requestOk 4 4 noPayload 0 (rq []) (changing 1) = true ∧ (changing 1).prog.state = .changing ∧
    (changing 1).prog.named = [] ∧ (changing 1).prog.change.map (·.stage) = some 1 ∧ sess.prog.change = none ∧
    (frameIndex (toPhase 222000 (ticked (changing 3))).now + 1, Named.swap)
      ∈ (named [(1, .swap)] (ticked (changing 3))).prog.named ∧
    swapEligible (ticked (staging .changing)) = false ∧ swapEligible (ticked sess) = true := by decide +kernel

theorem witness_UnitsAndOnlineChange_more :
    leAt (leBytes 4 20 ++ zeros 4 ++ by8 [0]) 8 1 = 0 ∧ leAt (leBytes 4 20 ++ zeros 4 ++ by8 [1]) 8 1 = 1 ∧
    (staging .run).prog.named = [] ∧ (staging .run).prog.state = .run ∧ leAt (leBytes 8 7) 0 8 = unit0.id ∧
    requestOk 4 4 noPayload 0 (rq []) sess = true ∧ (owner roleAlone).prog.change = none ∧
    (changing 1).prog.staged = some unit0 ∧ isOwner (changing 1) = true ∧ admitters (changing 1) = [] ∧
    isOwner ((changing 1).set Reg.sysRoleRole roleStandby) = false ∧ (ticked (changing 3)).time.ticked = true ∧
    swapEligible { ticked (changing 3) with prog := { (changing 3).prog with tasks := [] } } = true ∧
    swapEligible (ticked (changing 3)) = false ∧ ((changing 3).prog.change.map (·.postponed)) = some 0 ∧
    (frameIndex (toPhase 222000 (ticked sess)).now + 1, Named.swap) ∉ (ticked sess).prog.named := by decide +kernel

/-- Time is valid. -/
def timed (s : State) : State := s.set Reg.timStatusValid 1

theorem witness_RunningAndStopping :
    requestOk 4 5 (exactly 8) 0 (rq (by8 [2, 0, 0, 0, 0, 0, 0, 0])) sess = true ∧
    takesGroup (timed (staging .stopped)) = true ∧ (timed (staging .stopped)).prog.state = .stopped ∧
    (timed (staging .stopped)).timeOk = true ∧ (staging .stopped).prog.resetSinceStop = false ∧
    (staging .stopped).timeOk = false ∧ (staging .run).prog.named = [] ∧
    (named [(0, .start 2)] (staging .starting)).prog.named = [(0, .start 2)] ∧
    0 ≤ frameIndex (staging .starting).now ∧ (staging .starting).prog.active = some unit0 ∧
    (staging .run).nvs.writing = [] ∧ (staging .run).prog.active.isSome = true ∧
    requestOk 4 7 (exactly 4) 0 (rq (by8 [0xFF, 0, 0, 0])) sess = true ∧
    requestOk 4 8 (fun n => decide (12 ≤ n) && decide (n ≤ 260) && n % 8 == 4) 0
      (rq (by8 [1, 0, 0, 0, 5, 0, 0, 0, 4, 0, 0, 0])) sess = true ∧
    readVarOk (staging .run) (by8 [1, 0, 0, 0, 5, 0, 0, 0, 4, 0, 0, 0]) 0 = true ∧
    readVarOk (staging .run) (by8 [1, 0, 0, 0, 6, 0, 0, 0, 4, 0, 0, 0]) 0 = false := by decide +kernel

theorem witness_RunningAndStopping_more :
    requestOk 4 6 noPayload 0 (rq []) (staging .run) = true ∧ takesGroup (staging .run) = true ∧
    (named [(0, .stop)] (staging .run)).prog.named = [(0, .stop)] ∧ (staging .run).prog.state = .run ∧
    ({ (staging .run).prog with resetSinceStop := true }).resetSinceStop = true ∧ takesGroup follower = false ∧
    ({ (staging .run).prog with retain := some ⟨[], 5⟩ }).retain = some ⟨[], 5⟩ ∧
    ({ sess.nvs with writing := [.retain ⟨[], 5⟩] }).writing = .retain ⟨[], 5⟩ :: [] ∧ sess.nvs.writing = [] ∧
    requestOk 4 8 (fun n => decide (12 ≤ n) && decide (n ≤ 260) && n % 8 == 4) 0
      (rq (by8 [1, 0, 0, 0, 5, 0, 0, 0, 4, 0, 0, 0])) (staging .run) = true := by decide +kernel

/-- Symbol 5 is forced. -/
def forced : State :=
  let s := staging .run
  { s with prog := { s.prog with forces := [⟨5, 4, 0, 1⟩] } }

theorem witness_ForceCommands :
    requestOk 5 2 (exactly 16) 0 (rq (leBytes 4 5 ++ by8 [4, 0, 0, 0] ++ leBytes 8 9)) sess = true ∧
    sess.prog.active = none ∧ (symOf unit0 5).map (fun y => (bitOf y.flags 1, y.kind, y.type)) = some (true, 0, 4) ∧
    tySize 4 ≠ 0 ∧ takesGroup (staging .run) = true ∧ (forcesAfter (staging .run)).length < 256 ∧
    takesGroup follower = false ∧ requestOk 5 3 (exactly 8) 0 (rq (by8 [5, 0, 0, 0, 0, 0, 0, 0])) sess = true ∧
    ((forcesAfter forced).find? (fun f => f.symbol == 5)).isSome = true ∧
    (forcesAfter forced).find? (fun f => f.symbol == 6) = none := by decide +kernel

theorem witness_ForceCommands_more :
    requestOk 5 2 (exactly 16) 0 (rq (leBytes 4 5 ++ by8 [4, 0, 0, 0] ++ leBytes 8 9)) (staging .run) = true ∧
    (staging .run).prog.active = some unit0 ∧ leAt (leBytes 4 5 ++ by8 [4, 0, 0, 0]) 0 4 = 5 ∧
    requestOk 5 4 noPayload 0 (rq []) sess = true ∧ takesGroup forced = true := by decide +kernel

/-! ### The frame -/

theorem witness_TheFrameFromTickToRelease :
    (ticked sess).time.ticked = true ∧ sess.time.ticked = false ∧ sess.t0 + 250000 < 2 ^ 48 * 1000000000 ∧
    programRuns (loaded .run (owner roleAlone)) = true ∧ inStep (owner roleAlone) 0 = true ∧
    (errorTaskOf unit0 0).map (·.1) = some 1 ∧ ((loaded .run (owner roleAlone)).task 1).halted = false ∧
    (((unit0.tasks[1]?).bind (instOf unit0)).bind (fun i => unit0.types[i.type]?)).isSome = true ∧
    (((loaded .run (owner roleAlone)).putEng 0 { faulted := [(0, 1)] }).eng 0).faulted ≠ [] ∧
    (owner roleAlone).pair.blocked = false ∧ (owner roleAlone).held = true ∧ (owner roleAlone).pair.muted = none ∧
    discardsOf (toPhase 215000 (ticked (loaded .run (owner roleAlone)))) unit0 = 0 := by decide +kernel

/-- A frozen snapshot of the next frame, in a role of a pair, with or without the owner's copy. -/
def frozen (r : Nat) (copies : List (Nat × Nat × List (Nat × Snapshot))) : State :=
  let s := ticked (withPeers [peer 2 rolePrimary] (inRole r))
  { s with prog := { s.prog with frozen := some { frame := 1 }, copies := copies } }

theorem witness_CutOffAndSelection :
    (hhkArrive typeSnapshot hdr sess).1 = true ∧ frameIndex sess.now + 1 = 1 ∧ sess.now - sess.t0 < 247000 ∧
    247000 ≤ (atNs 247000 sess).now - (atNs 247000 sess).t0 ∧
    (frozen roleAlone []).prog.frozen = some { frame := 1 } ∧
    frameIndex (toPhase 247000 (frozen roleAlone [])).now + 1 = 1 ∧ (frozen roleAlone []).triad = false ∧
    (frozen roleAlone []).role = roleAlone ∧ ownerCopy (frozen roleStandby []) = none ∧
    (ownerCopy (frozen roleStandby [(2, 1, [(0, { frame := 1 })])])).isSome = true ∧
    (frozen roleStandby []).role = roleStandby ∧ (frozen roleStandby []).pair.selfRun < 15 := by decide +kernel

theorem witness_CutOffAndSelection_roles :
    (frozen roleAlone []).triad = false ∧ ((frozen roleAlone []).set Reg.hhkPairStatusOwnHeld 1).held = true ∧
    ((frozen roleAlone []).set Reg.hhkPairStatusOwnHeld 1).role = roleAlone ∧ followsOwner (frozen roleStandby []) = true ∧
    followsOwner (frozen rolePrimary []) = true ∧ frozenFor 1 (frozen roleAlone []) = true ∧
    frozenFor (frameIndex (toPhase 225000 (ticked sess)).now + 1) (ticked sess) = false ∧ (ticked sess).time.frac < 2 ^ 32 ∧
    (ticked sess).t0 + 225000 ≤ 225000 := by decide +kernel

/-- The own signature record of frame 0 waits for the peer's; a triad member that votes, with two records. -/
def signed (r : Nat) : State :=
  let s := withPeers [peer 2 rolePrimary] (owner r)
  { s with pair := { s.pair with ownSigs := [(0, [(1, 2)])] } }
def voting (l : List VoteRec) : State :=
  let s := ticked ((owner rolePrimary).set Reg.sysModeGroupKind 2)
  { s with pair := { s.pair with votes := l } }

theorem witness_SignaturesAndVotes :
    (hhkArrive typeSignature hdr (signed roleStandby)).1 = true ∧ (signed roleStandby).triad = false ∧
    (signed roleStandby).pair.ownSigs.find? (fun r => r.1 == hdr.frame) = some (0, [(1, 2)]) ∧
    (signed roleStandby).pair.qFrame = none ∧ (signed rolePrimary).held = true ∧
    (∀ p ∈ (signed rolePrimary).pair.peers, p.slot = hdr.srcSlot) ∧ (signed rolePrimary).pair.peerSigs = [] ∧
    (signed rolePrimary).pair.sigMissRun < 3 ∧ sess.pair.ownSigs = [] ∧ (hhkArrive typeVote hdr sess).1 = true ∧
    votes sess = false ∧ votes (voting []) = true ∧ frameIndex (toPhase 212000 (voting [])).now = 0 ∧
    (((voting [⟨1, 0, [5], 1, 0, []⟩, ⟨2, 0, [5], 3, 0, []⟩]).pair.votes.filter (fun v => v.frame == 0)).take 2).length = 2 ∧
    (ownVote (voting []) 0).sigs ≠ [5] := by decide +kernel

theorem witness_SignaturesAndVotes_more :
    3 ≤ ({ (signed rolePrimary).pair with sigMissRun := 3 }).sigMissRun ∧ (signed rolePrimary).role = rolePrimary ∧
    (signed roleStandby).role = roleStandby ∧ ([(1, 2)] : SigSlots) ≠ [(1, 3)] ∧
    forAnother { hdr with dst := 7, flags := 2 } (voting []) = true ∧ forAnother hdr (voting []) = false ∧
    (voting []).pair.votes.filter (fun v => v.frame == 0) = [] ∧
    (ownVote (voting []) 0).sigs = List.replicate 8 0 := by decide +kernel

theorem witness_LockStepAndItsTests :
    (∀ u, u < 16 → u ≠ 7 → unitActs sess u = true) ∧ (sess.set Reg.sysModeTaint 1).taint = true ∧
    sess.on Reg.sysModeSplit = false ∧ (sess.set Reg.sysModeSplit 1).on Reg.sysModeSplit = true ∧
    (sess.set Reg.lckDiagCtrlStateSigEn 0).on Reg.lckDiagCtrlStateSigEn = false ∧ sess.on Reg.lckDiagCtrlStateSigEn = true ∧
    (sess.set Reg.lckDiagCtrlInjectEn 0).on Reg.lckDiagCtrlInjectEn = false ∧ sess.on Reg.lckDiagCtrlInjectEn = true ∧
    follower.bench = false ∧ (owner rolePrimary).held = true ∧
    goodStandby (withPeers [peer 2 roleStandby] (owner rolePrimary)) = true := by decide +kernel

theorem witness_LockStepAndItsTests_more :
    sess.taint = false ∧ (sess.set Reg.sysModeTaint 1).on Reg.sysModeSplit = false ∧
    (withPeers [peer 2 roleStandby] (owner rolePrimary)).taint = false ∧
    (withPeers [peer 2 roleStandby] ((owner rolePrimary).set Reg.sysModeGroupKind 1)).bench = false ∧
    goodStandby (withPeers [peer 2 roleStandby] ((owner rolePrimary).set Reg.sysModeGroupKind 1)) = true := by
  decide +kernel

theorem witness_LockStepAndItsTests_compares :
    (∀ u, u < 16 → u ≠ 7 → unitCompares (sess.set Reg.sysModeTaint 1) u = true) ∧
    unitCompares (sess.set Reg.sysModeSplit 1) 3 = false ∧ unitActs (sess.set Reg.sysModeTaint 1) 6 = false := by
  decide +kernel

/-! ### Update, security, storage -/

/-- The update state with this STATE of R470, under the lock of session 0, at the owner. -/
def upd (n : Nat) : State :=
  let s := owner roleAlone
  { s with sec := { s.sec with upd := n, lock := some 0 } }

/-- A trial of slot A in which every criterion of R457 is met, within its window. -/
def trial : State :=
  let s := upd updTrial
  { s with sec := { s.sec with criteria := 7, windowS := 60 } }

/-- The owner of a pair holds a whole bundle for a group update. -/
def grouped : State :=
  let s := withPeers [peer 2 roleStandby] (owner rolePrimary)
  { s with sec := { s.sec with upd := updReceiving, lock := some 0, newFlags := 4 } }

theorem witness_UpdateCommands :
    (upd updReceiving).sec.active = 0 ∧ (upd updReceiving).sec.slots.length = 2 ∧
    requestOk 8 2 (exactly 60) 0 (rq (by8 [7, 0, 0, 0] ++ leBytes 4 86400 ++ zeros 52)) sess = true ∧
    (60 ≤ leAt (by8 [7, 0, 0, 0] ++ leBytes 4 86400) 4 4 ∧ leAt (by8 [7, 0, 0, 0] ++ leBytes 4 86400) 4 4 ≤ 86400) ∧
    (owner roleAlone).sec.lock = none ∧ beginOpen (owner roleAlone) = true ∧ (sess.sess 0).subject = 0 ∧
    beginOpen (upd updReceiving) = false ∧ (upd updIdle).sec.lock ≠ some 1 ∧
    requestOk 8 3 (fun n => decide (9 ≤ n) && decide (n ≤ 1048576)) 0 (rq (zeros 9)) sess = true ∧
    (upd updReceiving).sec.recv.length = 0 ∧ received (upd updReceiving) = true ∧
    groupUpdating (upd updReceiving) = false ∧ bootExhausted (upd updReceiving) = false ∧ received (upd updIdle) = false ∧
    (trial.slot 0).secver < 256 ∧ healthy sess = false ∧ healthy trial = true := by decide +kernel

theorem witness_UpdateCommands_more :
    leAt (by8 [7, 0, 0, 0]) 1 3 = 0 ∧ leAt (leBytes 4 7 ++ leBytes 4 86400 ++ leBytes 4 100) 8 4 ≤ bundleMax ∧
    isOwner (owner roleAlone) = true ∧ ({ (upd updIdle).sec with lock := some 5 }).lock = some 5 ∧
    (5 : Nat) ≠ (sess.sess 0).subject ∧ (upd updReceiving).sec.lock = some ((upd updReceiving).sess 0).subject ∧
    0 + ([] : List Byte).length ≤ (upd updReceiving).sec.total ∧
    requestOk 8 4 noPayload 0 (rq []) (upd updReceiving) = true ∧ requestOk 8 5 noPayload 0 (rq []) trial = true ∧
    trial.sec.lock = some (trial.sess 0).subject ∧ requestOk 8 6 noPayload 0 (rq []) (upd updIdle) = true ∧
    requestOk 8 7 noPayload 0 (rq []) grouped = true ∧ grouped.sec.lock = some (grouped.sess 0).subject ∧
    isOwner grouped = true ∧ received grouped = true ∧ bitOf grouped.sec.newFlags 2 = true ∧ groupUpdating grouped = false ∧
    memberSyncing grouped = false ∧ grouped.prog.state ≠ .changing ∧ admitters grouped ≠ [] ∧
    bootExhausted grouped = false ∧ isOwner sess = false := by decide +kernel

theorem witness_TrialsEnd :
    (upd updInstalled).sec.upd = updInstalled ∧ (upd updInstalled).sec.restartDue = false ∧ healthy sess = false ∧
    (upd updTrial).sec.upd = updTrial ∧ sess.sec.upd ≠ updTrial ∧ (upd updTrial).held = true ∧
    goodStandby (withPeers [peer 2 roleStandby] (owner rolePrimary)) = true ∧
    handoverRefused (timed (withPeers [peer 2 roleStandby] (owner rolePrimary))) = false ∧ sess.held = false ∧
    sess.sec.fallDue = false ∧ (∀ i, i < 16 → (State.reset).on (Reg.mbxSessOpen i) = false) ∧ autoConfirm sess = false := by
  decide +kernel

theorem witness_TrialsEnd_more :
    ({ (upd updInstalled).sec with restartDue := true }).restartDue = true ∧ trial.sec.groupStep = 0 ∧
    autoConfirm { trial with sec := { trial.sec with flags := 1 } } = true ∧ autoConfirm trial = false ∧
    windowOpen { upd updTrial with sec := { (upd updTrial).sec with windowS := 0 } } = false ∧ windowOpen trial = true ∧
    ({ (upd updTrial).sec with fallDue := true }).fallDue = true ∧ (upd updReceiving).sec.upd = updReceiving ∧
    sess.sec.upd ≠ updReceiving := by decide +kernel

theorem witness_TrialsEnd_lock :
    (upd updReceiving).on (Reg.mbxSessOpen 0) = true ∧
    (List.range 16).any (fun i => ((upd updReceiving).set (Reg.mbxSessOpen 0) 0).on (Reg.mbxSessOpen i) &&
      (upd updReceiving).sec.lock == some ((upd updReceiving).sess i).subject) = false := by decide +kernel

theorem witness_SecurityCommands :
    requestOk 10 2 (fun n => decide (4 ≤ n)) 0 (rq (by8 [3, 0, 0, 0])) sess = true ∧ sess.sec.anchors.length = 3 ∧
    lenEntries 0 [] = some [] ∧
    requestOk 10 3 (fun n => decide (1 ≤ n) && decide (n ≤ 1048576)) 0 (rq (by8 [1])) sess = true ∧
    (heldCrls sess).length < 8 ∧ requestOk 10 4 (fun n => decide (4 ≤ n)) 0 (rq (by8 [2, 0, 0, 0])) sess = true ∧
    requestOk 10 4 (fun n => decide (4 ≤ n)) 0 (rq (by8 [1, 0, 0, 0, 9])) sess = true ∧
    leAt (storedForm sess objSec) 6 1 = 0xFF ∧ clientRuns sess = false ∧
    requestOk 10 5 (exactly 4) 0 (rq (by8 [0xFF, 0xFF, 0, 0])) sess = true ∧ sleAt (by8 [0xFF, 0xFF, 0, 0]) 0 2 < 0 ∧
    requestOk 10 6 (exactly 12) 0 (rq (by8 [3] ++ zeros 11)) sess = true ∧ (zeros 8).take 8 = (sess.sec.roots.getD 3 []).take 8 ∧
    (sess.slot (sess.get Reg.secStatusSlot)).rootSlot ≠ 3 ∧ withBit (sess.get Reg.secStatusRootRevoked) 3 true ≠ 15 ∧
    (sess.slot (sess.get Reg.secStatusSlot)).rootSlot = 0 ∧ isOwner (owner roleAlone) = true ∧ isOwner sess = false := by
  decide +kernel

/-- One archive record of 8 bytes, sound or damaged. -/
def archived (bad : Bool) : State :=
  let s := sess
  { s with nvs := { s.nvs with arch := [⟨1, bad, false, false, 0, 0, 0, 0, 0, 0, zeros 8⟩] } }

theorem witness_ArchiveLogAndLifetime :
    requestOk 9 1 (exactly 8) 0 (rq (by8 [1, 0, 0, 0, 64, 0, 0, 0])) sess = true ∧
    requestOk 9 2 (exactly 12) 0 (rq (by8 [1, 0, 0, 0, 0, 0, 0, 0, 8, 0, 0, 0])) sess = true ∧
    (archRec (archived false) 1).map (fun a => (a.damaged, a.content.length)) = some (false, 8) ∧
    (archRec (archived true) 1).map (·.damaged) = some true ∧ archRec sess 1 = none ∧
    requestOk 9 3 (exactly 8) 0 (rq (by8 [1, 0, 0, 0, 0, 0, 0, 0])) sess = true ∧ 1 ∉ (archived false).nvs.reading ∧
    sess.on Reg.nvsStatusArchRo = false ∧
    petalOk 9 4 (fun n => decide (4 ≤ n) && decide (n ≤ 48)) 0 (rp (by8 [0xFF, 0x7F, 3, 0])) sess = true ∧
    leAt (by8 [0xFF, 0x7F, 3, 0]) 0 2 = 0x7FFF ∧ sess.nvs.log.length < 696320 ∧ sess.nvs.budget ≠ 0 ∧
    requestOk 9 5 (exactly 8) 0 (rq (by8 [0, 0, 0, 0, 128, 0, 0, 0])) sess = true ∧
    requestOk 16 2 (exactly 8) 0 (rq (by8 [0, 0, 0, 0, 0, 0, 16, 0])) sess = true ∧
    leAt (by8 [0, 0, 0, 0, 0, 0, 16, 0]) 4 4 = 1048576 ∧
    requestOk 16 3 (fun n => decide (1 ≤ n) && decide (n ≤ 48)) 0 (rq (by8 [0x41])) sess = true ∧
    requestOk 16 1 noPayload 0 (rq []) sess = true ∧ sess.nvs.suppressed = 0 ∧ 64 ≤ 64 ∧ sess.nvs.life.length < 1048576 ∧
    leAt (zeros 8) 4 4 = 0 ∧
    utf8From 0 0x80 0xBF (by8 [0x41]) = true ∧ utf8From 0 0x80 0xBF (by8 [0xFF]) = false ∧ lifeFull sess = false := by
  decide +kernel

theorem witness_ArchiveLogAndLifetime_full :
    lifeFull { sess with nvs := { sess.nvs with life := List.replicate 1048576 ⟨0, 0, 0, []⟩ } } = true := by
  simp only [lifeFull, List.length_replicate]
  decide

theorem witness_ScrubbingAndRetirement :
    (sess.set Reg.lckDiagCtrlDramScrubEn 0).on Reg.lckDiagCtrlDramScrubEn = false ∧ sess.on Reg.lckDiagCtrlDramScrubEn = true ∧
    lineErrors sess [] = [] ∧ correctable sess (lineErrors sess (List.range 16)).length = true ∧
    correctable sess (lineErrors sess (List.range 17)).length = false ∧ lineErrors sess [95] ≠ [] ∧
    (sess.set Reg.lckDiagCtrlSramScrubEn 0).on Reg.lckDiagCtrlSramScrubEn = false ∧ sess.on Reg.lckDiagCtrlSramScrubEn = true ∧
    bitOf 0x80000000 31 = true ∧ bitOf 0x7FFFFFFF 31 = false ∧ sess.on Reg.lckDiagCtrlNandSweepEn = true ∧
    sess.nvs.spare.getD (poolOf 5 1) 0 ≠ 0 ∧
    ({ sess with nvs := { sess.nvs with spare := [0] } }).nvs.spare.getD 0 1 = 0 := by decide +kernel

/-- Block 0 of pool 0 holds a page, and the counts of the scrubbers and the sweep have run out. -/
def swept (pe : Nat) : State :=
  let s := sess
  { s with mono := 30 * 86400 * nsPerS
           nvs := { s.nvs with nand := { blocks := [{ pool := 0, index := 0, pe := pe, pages := [⟨0, 0, 0, [], true, false⟩] }] } } }
/-- Reads of a page whose first, third and soft read decode, and one that does not. -/
def wordOk : WordRead := ⟨48, true⟩
def wordBad : WordRead := ⟨121, false⟩

theorem witness_ScrubbingAndRetirement_late :
    (swept 0).memi.passStart + 3600000000000 ≤ (swept 0).mono ∧ sess.mono < sess.memi.passStart + 3600000000000 ∧
    (swept 0).memi.sramStart + 10000000000 ≤ (swept 0).mono ∧ sess.mono < sess.memi.sramStart + 10000000000 ∧
    (swept 0).nvs.sweepStart + 30 * 86400 * nsPerS ≤ (swept 0).mono ∧
    sess.mono < sess.nvs.sweepStart + 30 * 86400 * nsPerS := by decide +kernel

theorem witness_ScrubbingAndRetirement_sweep :
    (sess.set Reg.lckDiagCtrlNandSweepEn 0).on Reg.lckDiagCtrlNandSweepEn = false ∧
    (sess.nvs.nand.blk 5 0).pages[0]? = none ∧ nandPool 0 0 = 0 ∧
    ((swept 0).nvs.nand.blk 0 0).pages[0]? = some ⟨0, 0, 0, [], true, false⟩ ∧
    (readLadder 0 ⟨[wordOk], [], []⟩).1 = 1 ∧ (readLadder 0 ⟨[wordBad], [[wordBad], [wordOk]], []⟩).1 = 2 ∧
    (readLadder 0 ⟨[wordBad], [[wordBad]], [⟨121, true⟩]⟩).1 = 3 ∧ (readLadder 0 ⟨[wordBad], [], [wordBad]⟩).1 = 4 ∧
    (∀ c ∈ (swept 0).nvs.nand.used 0, c.pe + 1 < nandEndurance) ∧ (swept 0).nvs.spare.getD 0 0 ≠ 0 ∧
    refreshDue { (swept 0).nvs.nand.blk 0 0 with reads := 1 } 1 48 (swept 0).mono = true ∧
    (swept 0).nvs.nand.freeBlock 0 = some 1 := by decide +kernel

/-! ### Backup domain, power and resets -/

/-- Three thermal restarts, or three restarts of R343, in the last minute of second 1000. -/
def restarted : State :=
  let s := (inRole roleFailed).set Reg.bkdStatusBytesOk 1
  let s := atNs 1000000000000 { s with pair := { s.pair with restartDue := true } }
  (List.range 6).foldl (fun s i => s.set (Reg.bkdBytesWord (4 + i)) 990) (s.set Reg.bkdSecLoSecLo 1000)

theorem witness_TheBackupDomain :
    (atNs 1 sess).now % 1000000000 ≠ 0 ∧ (timed sess).now % 1000000000 = 0 ∧ sess.on Reg.bkdAlarmHiArm = false ∧
    ({ sess with mono := 2000000000 } : State).bkd.parkAt + 2000000000 ≤ 2000000000 ∧
    sess.mono < sess.bkd.parkAt + 2000000000 ∧ 3 ≤ thermalRestarts restarted ∧
    (sess.set Reg.bkdSupplyCellMv 2200).get Reg.bkdSupplyCellMv = 2200 ∧
    (sess.set Reg.bkdSupplyCellMv 2199).get Reg.bkdSupplyCellMv < 2200 ∧
    sess.on Reg.timStatusValid = false ∧ (timed sess).on Reg.timStatusValid = true ∧
    sess.now + 1000000000 < 2 ^ 48 * 1000000000 ∧ (sess.set Reg.bkdAlarmHiArm 1).on Reg.bkdAlarmHiArm = true ∧
    ((sess.set Reg.bkdAlarmLoAlarmLo 1).set Reg.bkdAlarmHiArm 1).bkdTicks <
      ((sess.set Reg.bkdAlarmLoAlarmLo 1).set Reg.bkdAlarmHiArm 1).bkdAlarm * 32768 ∧
    sess.bkdSeconds + 172800 < 2 ^ 48 ∧ bitOf 0x80000000 31 = true ∧
    (0x80000000 % 65536 * 2 ^ 32 + sess.get Reg.bkdAlarmLoAlarmLo) * 32768 ≤ sess.bkdTicks ∧
    (owner roleAlone).held = true ∧ sess.held = false ∧ (sess.set Reg.bkdPwrState 0).get Reg.bkdPwrState = 0 ∧
    (sess.set Reg.bkdPwrState 1).get Reg.bkdPwrState = 1 ∧ (sess.set Reg.bkdPwrState 3).get Reg.bkdPwrState = 3 ∧
    (sess.set Reg.bkdPwrThermRestart 1).on Reg.bkdPwrThermRestart = true ∧ thermalRestarts sess < 3 ∧
    sess.get Reg.bkdStatusSupply = 2 ∧ (sess.set Reg.bkdStatusSupply 0).get Reg.bkdStatusSupply ≠ 2 := by decide +kernel

theorem witness_ResetsAndRestarts :
    (owner roleAlone).held = true ∧ sess.held = false ∧ sess.role ≠ roleFailed ∧ restarted.role = roleFailed ∧
    restarted.pair.restartDue = true ∧ sess.pair.restartDue = false ∧ thermalRestarts restarted = 3 ∧
    ((List.range 3).filter (fun i => decide (leAt restarted.backup (16 + 4 * i) 4 ≠ 0 ∧
      restarted.seconds % 2 ^ 32 - leAt restarted.backup (16 + 4 * i) 4 < 3600))).length = 3 ∧
    restarted.on Reg.bkdStatusBytesOk = true ∧ sess.on Reg.bkdStatusBytesOk = false ∧
    ({ sess.pwr with warmDue := 3 } : PwrSt).warmDue ≠ 0 ∧ sess.role = roleNone ∧ bitOf 0xFFF 11 = true ∧
    (inRole roleAloneStandby).role = roleAloneStandby ∧ (owner roleAlone).role = roleAlone ∧
    (⟨0x14, 8, 2, true⟩ : InFlight) ∈ [(⟨0x14, 8, 2, true⟩ : InFlight)] := by decide +kernel

theorem witness_FeedsSeatingAndTemperature :
    feedOk (sess.set Reg.pwrStatusFeedA feedIsGood) 0 = true ∧ feedOk (sess.set Reg.pwrStatusFeedA feedIsGood) 1 = false ∧
    feedOk (sess.set Reg.pwrStatusFeedB feedIsGood) 1 = true ∧ feedOk (sess.set Reg.pwrStatusFeedB feedIsGood) 0 = false ∧
    (sess.set Reg.pwrStatusFeedA feedAbsent).get Reg.pwrStatusFeedA = feedAbsent ∧
    (sess.set Reg.pwrStatusFeedB feedAbsent).get Reg.pwrStatusFeedB = feedAbsent ∧
    (sess.set Reg.pwrStatusFeedA feedOverV).get (feedFld 0) = feedOverV ∧
    ((sess.set Reg.pwrStatusSeatedA1 1).set Reg.pwrStatusSeatedH40 1).on Reg.pwrStatusSeatedA1 = true ∧
    63 % 64 ≠ sess.get Reg.sysPositionSlotId ∧ up.sec.fwUp = true ∧ sess.sec.fwUp = false ∧
    1300 ≤ (sess.setInt Reg.pwrTempDie 1300).getInt Reg.pwrTempDie ∧
    950 ≤ (sess.setInt Reg.pwrTempBoard 950).getInt Reg.pwrTempBoard ∧ sess.getInt Reg.pwrTempDie < 1200 ∧
    sess.getInt Reg.pwrTempBoard < 950 ∧ sess.getInt Reg.pwrTempDie < 1300 ∧ sess.pwr.stretchOver = false ∧
    (sess.set Reg.bkdPwrState 2).get Reg.bkdPwrState = 2 ∧ sess.on Reg.pwrStatusThermWarn = false ∧
    feedOk ((sess.set Reg.pwrStatusFeedA feedIsGood).set Reg.pwrStatusFeedB feedIsGood) 0 = true ∧
    feedOk ((sess.set Reg.pwrStatusFeedA feedIsGood).set Reg.pwrStatusFeedB feedIsGood) 1 = true ∧
    feedOk sess 0 = false ∧ feedOk sess 1 = false ∧
    (sess.set Reg.pwrStatusFeedB feedOverV).get Reg.pwrStatusFeedB = feedOverV ∧
    (sess.set Reg.pwrStatusFeedA feedQualifying).get Reg.pwrStatusFeedA = feedQualifying ∧
    sess.get Reg.pwrStatusFeedA ≠ feedQualifying ∧ (sess.on Reg.pwrStatusSeatedA1 && sess.on Reg.pwrStatusSeatedH40) = false ∧
    ((sess.set Reg.pwrStatusSeatedA1 1).set Reg.pwrStatusSeatedH40 1).on Reg.pwrStatusSeatedH40 = true ∧
    (-32768 : Int) ≤ 1050 ∧ (sess.set Reg.bkdPwrState 1).get Reg.bkdPwrState ≤ 1 ∧
    1 < (sess.set Reg.bkdPwrState 2).get Reg.bkdPwrState := by decide +kernel

theorem witness_ClocksRailsAndWatchdogs :
    bitOf ((sess.set Reg.pwrClkGated 0x20).get Reg.pwrClkGated) 5 = true ∧ bitOf (sess.get Reg.pwrClkGated) 5 = false ∧
    mayGate sess 5 = true ∧ mayGate sess 4 = false ∧ ¬ (4 = 5 ∨ 4 = 6 ∨ 4 = 9) := by decide +kernel

/-! ### Aster, Larkspur, networks -/

/-- Stream 0 takes frames of one quantity at 4000 samples per second from port 0 with destination 7; PMU 15 over TCP. -/
def aster : State :=
  withObjs [(objAster, cfgOf 72 [(16, [1, 0, 1, 1]), (24, [7])]), (objNet, portCfg)] sess
/-- A frame of 64 bytes that comes in intact and unprotected, without a redundancy tag. -/
def inOn (port src : Nat) : Ingress := ⟨port, src, 64, true, true, 0, 0, none⟩
def svFrame (conf : Nat) (a : List SvAsdu) : SvFrame := ⟨inOn 0 0, 7, 0, 0, [], conf, false, 0, 0, a, 250000⟩
def asdu (n : Nat) : SvAsdu := ⟨n, none, 2, [5], [0]⟩
def nexted : State := { sess with ast := { sess.ast with next := [(1, 3, 1)] } }

theorem witness_AsterCommandsAndStreams :
    requestOk 12 1 noPayload 0 (rq []) sess = true ∧ takesGroup (owner roleAlone) = true ∧ nexted.ast.next = [(1, 3, 1)] ∧
    nexted.cfg.next = [] ∧ 1 ≤ frameIndex nexted.now + 1 ∧ portOpen (arrive 250000 aster) 0 = true ∧
    portOpen (arrive 250000 sess) 0 = false ∧ authFails aster 2 0 = true ∧ authFails aster 0 0 = false ∧
    svStream (arrive 250000 aster) (svFrame 1 []) = some 0 ∧ (svFrame 1 []).confRev ≠ strConfRev (aster.conf objAster) 0 ∧
    svAgrees ((arrive 250000 aster).conf objAster) 0 (svFrame 0 [asdu 1]) = true ∧
    holdsPlace (aster.updStr 0 (fun k => { k with waiting := [{ stream := 0, place := 1, usable := true, vals := [] }] })) 0 1 = true ∧ strRate (aster.conf objAster) 0 ≤ (asdu 4000).smpCnt ∧
    sess.ast.estFrame = frameIndex (toPhase 200001 sess).now ∧
    ({ sess.ast with estFrame := 9 } : AstSt).estFrame ≠ frameIndex (toPhase 200001 sess).now ∧
    0 < (sess.set (Reg.astPmuClients 15) 1).get (Reg.astPmuClients 15) ∧
    requestOk 12 4 (exactly 4) 0 (rq (by8 [0, 191, 1, 0])) sess = true ∧ 191 + 1 ≤ 192 ∧ 192 < 191 + 2 ∧
    requestOk 12 5 (exactly 4) 0 (rq (by8 [0xFF, 0xFF, 0, 0])) sess = true ∧ takesGroup follower = false ∧
    svStream aster (svFrame 0 [asdu 0]) = some 0 ∧ svStream sess (svFrame 0 [asdu 0]) = none ∧
    strConfRev (aster.conf objAster) 0 = 0 ∧ 0 < aster.ast.streams.length ∧
    (svFrame 0 []).vlan = strVlan (aster.conf objAster) 0 ∧ ([] ++ zeros 32).take 32 = strSvId (aster.conf objAster) 0 ∧
    (asdu 1).vals.length = strQty (aster.conf objAster) 0 ∧ strRate (aster.conf objAster) 0 = 4000 ∧
    holdsPlace aster 0 1 = false ∧
    (-20000 * 4000 : Int) ≤ (250000 * 4000 : Int) - 1 * 1000000000 - 0 * (1000000000 * 4000) ∧
    (250000 * 4000 : Int) - 1 * 1000000000 ≤ 100000000 * 4000 ∧ streamAligned sess 23 = false ∧
    streamAligned (sess.set (Reg.astStrState 23) 2) 23 = true ∧ sess.get (Reg.astPmuClients 15) < 4 ∧
    4 ≤ (sess.set (Reg.astPmuClients 15) 4).get (Reg.astPmuClients 15) := by decide +kernel

theorem witness_AsterCommandsAndStreams_pmu :
    ∀ b : List Byte, b = zeros (astPmuOff 15) ++ [1#8] → pmuEnabled b 15 = true ∧ pmuUdp b 15 = false := by
  rintro b rfl; decide +kernel

/-- Group 0 is in use and armed, with an open event or none, and its noise floor is formed from 65 536 samples. -/
def lspState (e : Option LspEvt) : State :=
  let s := (withObj objLsp (patch (zeros 2048) 0 [1#8] |> fun b => patch b (lspGroupOff 0) [1#8]) sess).set
    (Reg.lspGrpArmed 0) 1
  { s with lsp := { s.lsp with opens := [e, none, none, none], procs := [({}, { seen := 65536 })] } }
def evt : LspEvt :=
  { group := 0, time := 9, pol := 1, mode := 0, amp := 0, rise := 0, err := 0, cls := 0, dir := 0, flags := 0, close := 50 }
def wfRep : WfReport := ⟨true, 0, 3, 1, 9, 0, 0, 0, 1, 0, 0, 0⟩
def rgRep (key : Nat) : RgReport := ⟨inOn 0 0, 0, 0, [], 0, key, true, false, false, 1000, wfRep, 1000⟩
/-- Subscription 0 takes reports from port 0 under a key of kind 1 with KEY_ID 5. -/
def subState : State :=
  let s := withObjs [(objLsp, patch (patch (zeros 2048) 0 [1#8]) (lspSubOff 0) (by8 [1, 1, 0, 0, 0, 0, 0, 0, 0, 0, 0, 0, 5])),
    (objNet, portCfg)] sess
  { s with sec := { s.sec with keys := [by8 [5, 0, 0, 0, 1] ++ zeros 13 ++ by8 [255, 255, 255] ++ zeros 7] } }
def lspRec : LspRec := ⟨true, 0, 1, 0, 0, 0, 10, false, [], [], none, []⟩
/-- Frame 1 has begun, one calibration is under way since frame 0, and the last mark edge was the tick's. -/
def marking (issued start : Nat) : State :=
  let s := ticked (atNs 250001 sess)
  { s with lsp := { s.lsp with cal := some { start := start, mask := 1, issued := issued }, edge := some 0 } }

theorem witness_LarkspurCommandsAndLanes :
    requestOk 13 1 noPayload 0 (rq []) sess = true ∧
    requestOk 13 4 (exactly 8) 0 (rq (by8 [0, 0, 0, 0, 32, 0, 0, 0])) sess = true ∧
    requestOk 13 5 (exactly 4) 0 (rq (by8 [0xFF, 0x0F, 0, 0])) sess = true ∧ settingsOpen follower = false ∧
    settingsOpen (owner roleAlone) = true ∧ (owner roleAlone).lsp.cal = none ∧ (marking 0 0).lsp.cal.isSome = true ∧
    requestOk 13 6 (fun n => decide (1 ≤ n) && decide (n ≤ 48)) 0 (rq (by8 [15, 0x41])) sess = true ∧
    firstBad (asciiOk (by8 [15, 0x41]) 1 1) = none ∧ bitOf 0x80 7 = true ∧ 0x80 % 128 < 16 ∧
    sess.time.ticked = false ∧ (marking 0 0).time.ticked = true ∧ calRequests (marking 0 0) 1 = true ∧
    calRequests (marking 64 0) 65 = false ∧ 0 + 65 ≤ 65 ∧ (marking 0 0).lsp.edge = some 0 ∧
    (sess.set Reg.lspStatusClkDrive 1).on Reg.lspStatusClkDrive = true ∧
    (sess.set (Reg.lspLaneState 11) laneLocked).get (Reg.lspLaneState 11) = laneLocked ∧ laneLocked ≠ laneDisabled ∧
    sess.get (Reg.lspLaneState 11) = laneDisabled ∧ 11 < sess.lsp.ring.length ∧
    (checkLane sess 0 (List.replicate 3000 ⟨.data 0, .data 0, .data 0, .data 0, .data 0⟩) true).placed = true := by
  decide +kernel

theorem witness_LarkspurCommandsAndLanes_groups :
    grpUsed ((lspState none).conf objLsp) 0 = true ∧ grpUsed (sess.conf objLsp) 0 = false ∧
    65536 ≤ ((lspState none).lsp.procs.getD 0 ({}, {})).2.seen ∧ (sess.lsp.procs.getD 0 ({}, {})).2.seen < 65536 ∧
    (lspState none).on (Reg.lspGrpArmed 0) = true ∧ sess.on (Reg.lspGrpArmed 0) = false ∧
    (lspState none).lsp.dets.any (fun x => x.1 == (0, 0, 0)) = false ∧
    ((0, 0, 0), 0, 0, 1) ∈ ({ sess.lsp with dets := [((0, 0, 0), 0, 0, 1)] } : LspSt).dets ∧
    0 < (arrive 7 (lspState none)).lsp.opens.length ∧ (arrive 7 (lspState none)).lsp.opens.getD 0 none = none ∧
    (arrive 7 (lspState (some evt))).lsp.opens.getD 0 none = some evt ∧
    (arrive evt.close (lspState (some evt))).lsp.opens.getD 0 none = some evt ∧
    ({ sess.lsp with last := some wfRep } : LspSt).last = some wfRep ∧
    (sess.set Reg.lspStatusPublishing 1).on Reg.lspStatusPublishing = true ∧
    sess.lsp.last = none ∧ sess.on Reg.lspStatusPublishing = false := by decide +kernel

/-- A record under way that has ended, and one staged while the archive writer runs. -/
def capturing : State :=
  let s := atNs 20 (sess.set (Reg.hhkPairCkptRunning 0) 1)
  { s with lsp := { s.lsp with recs := [lspRec], staged := [lspRec] } }

theorem witness_LarkspurCommandsAndLanes_records :
    firstRecord capturing = some lspRec ∧ lspRec ∈ (arrive lspRec.stop capturing).lsp.recs ∧ sess.lsp.recs = [] ∧
    capturing.lsp.staged = [lspRec] ∧ singletonRuns capturing 0 = true ∧ capturing.on Reg.nvsStatusArchRo = false ∧
    2 ^ 30 + (cffOf lspRec).length ≤ archFree capturing ∧ sess.lsp.staged = [] ∧ singletonRuns sess 0 = false ∧
    (∃ p ∈ [(wfRep, 0)], p.1.remote = true ∧ p.2 + 4 * lspWaitMs (sess.conf objLsp) < frameIndex 1000000000000) ∧
    (owner roleAlone).held = true ∧ sess.held = false ∧
    ({ sess.pair with ckpts := [some ⟨1, 0, zeros 4, 0⟩] } : PairSt).ckpts.getD 0 none = some ⟨1, 0, zeros 4, 0⟩ ∧
    bitOf ({ sess.sec with singletons := 1 } : SecSt).singletons 0 = true := by decide +kernel

theorem witness_LarkspurCommandsAndLanes_report :
    let u := (takeIn (inOn 0 0) .other (expireSubs (arrive 1000 subState))).2
    let b := u.conf objLsp
    let adr := fun i => lspOn b && subEnabled b i && onPort (u.conf objNet) (subPorts b i) 0 && subDstIp b i == 0
    (takeIn (inOn 0 0) .other (expireSubs (arrive 1000 subState))).1 = true ∧ (rgRep 5).inn = inOn 0 0 ∧
    (takeIn (inOn 0 0) .other (expireSubs (arrive 1000 sess))).1 = false ∧ (List.range 8).any adr = true ∧ (List.range 8).find? (fun i => adr i &&
      subAppid b i == 0 && subSrcIp b i == 0 && subRef b i == ([] ++ zeros 32).take 32) = some 0 ∧
    (List.range 8).find? (fun i => adr i && subAppid b i == 1) = none ∧ subKey b 0 = (rgRep 5).keyId ∧
    subKey b 0 ≠ (rgRep 0).keyId ∧ keyInUse u 1 5 = true ∧ u.lsp.seen.contains (3, 1) = false ∧
    ({ u.lsp with seen := [(3, 1)] } : LspSt).seen.contains (3, 1) = true := by decide +kernel

/-- Subscription 0 takes GOOSE frames from port 0 with destination 7 and no member. -/
def gooseSub : List Byte := by8 [1, 1, 0, 0, 0, 0, 0, 0, 7] ++ zeros 244
def gooseCfg : List Byte := (zeros 16 ++ by8 [1, 1] ++ zeros 7358) ++ gooseSub
def gooseState : State := withObj objNet gooseCfg sess
def goose (auth : Nat) : GooseFrame :=
  ⟨inOn 0 5, 7, 0, 0, [], [], [], 0, [], false, false, false, 1, 0, 1000, auth, 0, 0⟩
def gooseHeld : State := { gooseState with net := { gooseState.net with
  subs := listSet gooseState.net.subs 0 (fun x => { x with held := true, st := 2, sq := 3 }) } }

theorem drop_past (a b : List Byte) (j : Nat) (h : a.length ≤ j) : (a ++ b).drop j = b.drop (j - a.length) := by
  obtain ⟨k, rfl⟩ := Nat.exists_eq_add_of_le h
  simp [List.drop_append]

theorem gooseCfg_first (f : GooseFrame) (h : (gsubAddressed gooseCfg f 0 && gsubAgrees gooseCfg f 0) = true) :
    findSub gooseCfg f = some 0 := by
  simp [findSub, List.range_succ_eq_map (n := 127), h]

theorem gooseCfg_sub (k : Nat) : gooseCfg.drop (7376 + k) = gooseSub.drop k := by
  have h : (zeros 16 ++ by8 [1, 1] ++ zeros 7358).length = 7376 := by
    simp only [List.length_append, zeros, List.length_replicate, by8, List.length_map, List.length_cons, List.length_nil]
  rw [gooseCfg, drop_past _ _ _ (by omega), h, Nat.add_sub_cancel_left]

theorem witness_StationNetworkFrames :
    gooseState.conf objNet = gooseCfg ∧ findSub gooseCfg (goose 0) = some 0 ∧ gsubAgrees gooseCfg (goose 0) 0 = true ∧
    (goose 0).members.length = gsubCount gooseCfg 0 ∧ bitOf (gsubFlags gooseCfg 0) 1 = false := by
  have h : (gsubAddressed gooseCfg (goose 0) 0 && gsubAgrees gooseCfg (goose 0) 0) = true := by
    simp only [gsubAddressed, gsubHears, onPort, gsubAgrees, gsubEnabled, gsubPorts, enabledAt, leAt, text64, gsubOff, gooseCfg_sub,
      Nat.mul_zero, Nat.add_zero, goose, show gooseCfg.drop 7376 = gooseSub from gooseCfg_sub 0]
    decide
  refine ⟨rfl, gooseCfg_first _ h, (by simpa using h : _ ∧ _).2, ?_⟩
  simp only [gsubCount, gsubFlags, leAt, gsubOff, Nat.mul_zero, Nat.add_zero, gooseCfg_sub]
  decide

theorem witness_StationNetworkFrames_state :
    authFails gooseState 2 0 = true ∧ authFails gooseState (goose 0).auth 0 = false ∧ findSub ((withObj objNet [0#8] sess).conf objNet) (goose 0) = none ∧
    portOpen sess 0 = false ∧ bitOf 2 1 = true ∧ 0 < (arrive 1000 gooseState).net.subs.length ∧
    gsubTyped gooseState (goose 0) 0 = true ∧ 0 < gooseState.net.subs.length ∧ (gooseState.gsub 0).held = false ∧
    (gooseHeld.gsub 0).held = true ∧ 1 < (gooseHeld.gsub 0).st ∧ (gooseHeld.gsub 0).st < 2 ^ 32 - 1 := by decide +kernel

/-- Ports 1 and 2 are enabled with ROLE 1, port 1 serves MMS and port 2 runs MACsec under the key 5 of kind 3. -/
def netState : State :=
  let s := withObj objNet (zeros 48 ++ by8 [1, 1, 0, 2] ++ zeros 28 ++ by8 [1, 1, 0, 0, 1] ++ zeros 15 ++ by8 [5]) sess
  { s with sec := { s.sec with keys := [by8 [5, 0, 0, 0, 3] ++ zeros 13 ++ by8 [255, 255, 255] ++ zeros 7] } }
/-- Ports 0 and 1 are a PRP pair, and a frame from source 9 has come from LAN B. -/
def prpState : State :=
  let s := withObj objNet (cfgOf 200 [(16, [1, 1]), (48, [1, 1]), (176, [1])]) sess
  { s with net := { s.net with dups := [(0, 9, 3, 2)] } }
def netFrame (fcs : Bool) (len : Nat) (tag : Option (Nat × Nat)) (k : NetKind) : NetFrame :=
  ⟨⟨1, 9, len, fcs, true, 0, 0, tag⟩, k⟩

theorem witness_StationNetworkFrames_ports :
    (sess.set (Reg.netGsubAlive 127) 1).on (Reg.netGsubAlive 127) = true ∧ sess.on (Reg.netGsubAlive 127) = false ∧
    portEnabled (netState.conf objNet) 0 = false ∧ portEnabled (netState.conf objNet) 1 = true ∧
    pairMode (netState.conf objNet) 0 = 0 ∧ portMacsec (netState.conf objNet) 1 = false ∧
    portEnabled (netState.conf objNet) 2 = true ∧ portMacsec (netState.conf objNet) 2 = true ∧
    pairMode (cfgOf 200 [(176, [1])]) 0 ≠ 0 ∧ portEnabled (cfgOf 200 [(16, [1]), (176, [1])]) 0 = true ∧
    portUsed (netState.conf objNet) 2 = true ∧ keyInUse netState 3 (portCak (netState.conf objNet) 2) = true ∧
    portOpen netState 1 = true ∧ (netFrame false 64 none .other).inn.fcsOk = false ∧ 1522 < (netFrame true 1523 none .other).inn.length ∧
    (netFrame true 64 none (.arp 0)).kind = .arp 0 ∧ (netFrame true 64 none (.arp 0)).inn.buffer = true ∧
    pairMode (prpState.conf objNet) 0 ≠ 0 ∧ portOpen prpState 0 = true ∧ portOpen prpState 1 = true ∧
    (netFrame true 64 (some (1, 3)) .other).inn.src ≠ ownMac prpState 1 ∧
    prpState.net.dups.find? (fun d => d.1 == 0 && d.2.1 == 9 && d.2.2.1 == 3) = some (0, 9, 3, 2) ∧
    0 < prpState.net.redSeq.length ∧ pairMode (sess.conf objNet) 0 = 0 ∧
    macsecActive netState 2 = false ∧ macsecActive (sess.set Reg.netStatusMacsecUp 4) 2 = true := by decide +kernel

/-- A frame on port 2 of `netState`, protected or not, while its channel is up and takes packet number 100 next. -/
def netUp : State :=
  let s := netState.set Reg.netStatusMacsecUp 4
  { s with net := { s.net with rxPn := [0, 0, 100, 0, 0] } }
def secured (m pn : Nat) : Ingress := ⟨2, 9, 64, true, true, m, pn, none⟩

theorem witness_StationNetworkFrames_macsec :
    portOpen netUp 2 = true ∧ portMacsec (netUp.conf objNet) 2 = true ∧ (secured 1 35).pn + 64 < netUp.net.rxPn.getD 2 0 ∧
    netUp.net.rxPn.getD 2 0 ≤ (secured 1 36).pn + 64 ∧ 2 < netUp.net.rxPn.length ∧ (secured 2 0).macsec = 2 ∧
    (secured 0 0).macsec = 0 ∧ (inOn 1 9).macsec = 0 ∧ ({ inOn 1 9 with macsec := 1 } : Ingress).macsec ≠ 0 ∧
    ({ inOn 1 9 with buffer := false } : Ingress).buffer = false ∧ 2 < (5 : Nat) ∧
    pairMode (netUp.conf objNet) 1 = 0 := by decide +kernel

theorem witness_StationNetworkFrames_taken :
    (takeIn (goose 0).inn .other (arrive 1000 gooseState)).1 = true ∧
    (takeIn (goose 0).inn .other (arrive 1000 sess)).1 = false := by decide +kernel

/-- Association 0 is open to every role; the unit maps its output to the value of index 3. -/
def mms : State :=
  let s := archived false
  { s with net := { s.net with mms := listSet s.net.mms 0 (fun _ => ⟨true, 1, 31, true⟩)
                               files := [⟨0, 0, 1, 0⟩] }
           prog := { s.prog with active := some { unit0 with outs := [⟨5, 1, 4, 0xFF, 0x0C, 3, 0, 4, 0, 0⟩] } } }

theorem witness_TheMmsServer :
    portUsed (netState.conf objNet) 1 = true ∧ (portUsed (sess.conf objNet) 1 && portMms (sess.conf objNet) 1) = false ∧
    pairMode (netState.conf objNet) 0 = 0 ∧ mayIssue 0 2 = false ∧ (mms.mmsAssoc 1).opened = false ∧ 31 < mms.net.rcbs.length ∧
    (mms.nvs.arch.find? (fun c => c.id == 1)).isSome = true ∧ mmsMay mms 0 0 = true ∧
    ({ mms.net.rcbs.getD 0 {} with owner := 5 }).owner ≠ 0xFF ∧ ({ mms.net.rcbs.getD 0 {} with owner := 5 }).owner ≠ 0 ∧ portOpen netState 1 = true ∧
    (List.range 8).find? (fun i => !(sess.mmsAssoc i).opened) = some 0 ∧ 7 < sess.net.mms.length ∧
    portMms (netState.conf objNet) 1 = true ∧ allowPlain (netState.conf objNet) = false ∧
    portMms (netState.conf objNet) 2 = false ∧ (mms.mmsAssoc 0).opened = true ∧ (sess.mmsAssoc 7).opened = false ∧
    mayIssue 0 0 = false ∧ mayIssue 1 2 = false ∧ mmsMay mms 0 0 = true ∧ mmsMay mms 0 2 = true ∧
    (mmsValue mms 3).isSome = true ∧ (∃ c ∈ mms.nvs.arch, c.id = 1) ∧
    (mms.net.files.find? (fun f => f.frsm == 0 && f.assoc == 0)).isSome = true ∧
    (mms.nvs.arch.find? (fun c => c.id == 1)).map (·.damaged) = some false ∧ (mms.net.rcbs.getD 31 {}).owner = 0xFF := by
  decide +kernel

theorem witness_TheMmsServer_ports :
    portOpen netState 1 = true ∧ portMms (netState.conf objNet) 1 = true ∧ pairMode (netState.conf objNet) 0 = 0 ∧
    (portOpen sess 1 && portMms (sess.conf objNet) 1) = false := by decide +kernel

/-! ### Group operation and Hollyhock -/

/-- The owner before frame 9 with a handover named for frame 9, its singleton 0 stopped with some of it unacknowledged. -/
def handing (unacked postponed : Nat) : State :=
  let s := owner rolePrimary
  { s with pair := { s.pair with handover := some 1, unacked := unacked, postponed := postponed, stopped := 1 } }

theorem witness_RedundancyCommandsAndHandover :
    requestOk 11 1 noPayload 0 (rq []) sess = true ∧ requestOk 11 2 noPayload 0 (rq []) sess = true ∧
    requestOk 11 3 noPayload 0 (rq []) sess = true ∧ requestOk 11 4 (exactly 4) 0 (rq (zeros 4)) sess = true ∧
    requestOk 11 5 (exactly 4) 0 (rq (by8 [2, 0, 0, 0])) sess = true ∧ ({ sess.sec with groupStep := 1 } : SecSt).groupStep ≠ 0 ∧
    ({ sess.pair with removal := 1 } : PairSt).removal ≠ 0 ∧ sess.pair.handover = none ∧
    (handing 0 0).pair.handover = some 1 ∧ frameIndex sess.now + 8 < 9 ∧ 1 ≤ frameIndex (handing 0 0).now + 1 ∧
    (handing 0 0).held = true ∧ (handing 1 3).pair.unacked ≠ 0 ∧ (handing 1 3).pair.postponed < 4 ∧
    4 ≤ (handing 1 4).pair.postponed ∧ 1 ≤ frameIndex (atNs 250000 (handing 0 0)).now ∧
    (inRole rolePrimary).role = rolePrimary ∧ sess.sec.groupStep ≠ 3 ∧ sess.role = roleNone ∧
    (owner rolePrimary).role = rolePrimary ∧ (owner rolePrimary).prog.state ≠ .changing ∧
    (owner rolePrimary).pair.handover = none ∧ (owner rolePrimary).pair.joiner = none ∧
    (∀ p ∈ [peer 2 roleStandby], p.role = roleStandby → p.taint = false ∧ p.time.valid = true) ∧
    sess.sec.groupStep = 0 ∧ (inRole roleSyncing).role = roleSyncing ∧ (inRole roleNone).role = roleNone ∧
    requestOk 11 4 (exactly 4) 0 (rq (by8 [1, 0, 0, 0])) sess = true ∧ sess.pair.removal = 0 ∧
    (owner roleAlone).role = roleAlone ∧ requestOk 11 5 (exactly 4) 0 (rq (by8 [1, 0, 0, 0])) sess = true ∧
    ((withPeers [peer 2 roleStandby] (owner rolePrimary)).pair.peers.find?
      (fun p => p.role == roleStandby || p.role == roleAloneStandby)).isSome = true ∧
    requestOk 11 6 (exactly 4) 0 (rq (by8 [16, 0, 0, 0])) sess = true ∧ (inRole roleFailed).role = roleFailed ∧
    (owner rolePrimary).held = true ∧ (owner rolePrimary).pair.unacked = 0 ∧ (owner rolePrimary).pair.postponed < 4 ∧
    (inRole rolePrimary).held = false ∧ sess.sec.fallDue = false := by decide +kernel

theorem witness_RedundancyCommandsAndHandover_roles :
    sess.pair.peers = [] ∧ (withPeers [peer 2 roleStandby] (inRole rolePrimary)).pair.peers ≠ [] ∧
    (withPeers [peer 2 roleStandby] (inRole rolePrimary)).held = false ∧
    ({ owner roleAlone with fio := { sess.fio with drive := roleDrive (owner roleAlone) } } : State).fio.drive =
      roleDrive (owner roleAlone) ∧ sess.pair.removal = 0 ∧ sess.sec.groupStep ≠ 3 := by decide +kernel

theorem witness_OwnershipAndItsLoss :
    ({ up.sec with dead := true } : SecSt).dead = true ∧ up.pair.longQuiet = false ∧
    ({ up.pair with longQuiet := true } : PairSt).longQuiet = true ∧ ({ up.pair with claimFrom := roleStandby } : PairSt).claimFrom =
      roleStandby ∧ killOutDue { owner roleAlone with pair := { sess.pair with killDue := true } } = true ∧
    killOutDue sess = false ∧ (sess.set Reg.hhkPairStatusPairOkAlive 1).on Reg.hhkPairStatusPairOkAlive = true ∧
    ((inRole roleStandby).set Reg.hhkPairStatusOwnLine 1).on Reg.hhkPairStatusOwnLine = true ∧
    up.sec.fwUp = true ∧ sess.sec.fwUp = false ∧ sess.sec.dead = false ∧ (inRole roleStandby).role ≠ roleNone ∧
    up.role = roleNone ∧ up.pair.left = false ∧ up.pair.peers = [] ∧ up.get Reg.sysPositionGroupId ≤ 11 ∧
    (up.set Reg.hhkPairStatusOwnLine 1).on Reg.hhkPairStatusOwnLine = true ∧ up.on Reg.hhkPairStatusOwnLine = false ∧
    up.on Reg.hhkPairStatusKillIn = false ∧ (up.set Reg.hhkPairStatusKillIn 1).on Reg.hhkPairStatusKillIn = true ∧
    (up.set Reg.hhkPairStatusArmed 1).on Reg.hhkPairStatusArmed = true ∧ up.on Reg.hhkPairStatusArmed = false ∧
    up.pair.claiming = false ∧ ({ up.pair with claiming := true }).claiming = true ∧ (owner roleAlone).held = true ∧
    up.held = false ∧ up.pair.killDue = false ∧ up.triad = false := by decide +kernel

theorem witness_OwnershipAndItsLoss_line :
    sess.on Reg.hhkPairStatusKillIn = false ∧ sess.on Reg.hhkPairStatusArmed = false ∧ sess.held = false ∧
    (owner roleAlone).on Reg.hhkPairStatusArmed = false ∧ (owner roleAlone).held = true ∧
    (owner roleAlone).on Reg.hhkPairStatusKillIn = false ∧ sess.pair.ownHigh = none ∧
    ({ sess with mono := 2000, pair := { sess.pair with ownHigh := some 0 } } : State).pair.ownHigh = some 0 ∧
    0 + 2000 ≤ ({ sess with mono := 2000 } : State).mono ∧
    (((sess.set Reg.hhkPairStatusPairOkAlive 1).set Reg.hhkPairStatusOwnLine 1).on Reg.hhkPairStatusPairOkAlive) = true ∧
    (((sess.set Reg.hhkPairStatusPairOkAlive 1).set Reg.hhkPairStatusOwnLine 1).on Reg.hhkPairStatusOwnLine) = true ∧
    ({ sess.pair with announced := true } : PairSt).announced = true ∧ sess.pair.announced = false ∧
    handoverClaim sess = false := by decide +kernel

/-- `owner` while its program changes, and a module that resyncs. -/
def changingOwner : State := { owner roleAlone with prog := { sess.prog with state := .changing, change := some {} } }

/-- A module of slot 5 of a triad, and a frame that it forwards to slot 9. -/
def inTriad : State := ((sess.set Reg.sysModeGroupKind 2).set Reg.sysPositionSlotId 5)
def relayed : HhkHdr := { hdr with flags := 2, dst := 9 }

theorem witness_HollyhockFrames :
    frameUsed typeControl relayed inTriad = true ∧ forAnother relayed inTriad = true ∧ forAnother hdr sess = false ∧
    up.sec.fwUp = true ∧ up.hhk.txCtr.length = 2 ∧ sess.sec.fwUp = false ∧ 1 ≠ sess.get Reg.sysPositionGroupId ∧
    (owner rolePrimary).role = rolePrimary ∧ (owner roleAlone).prog.state ≠ .changing ∧ true ≠ sess.on Reg.sysModeSplit ∧
    ({ sess with mono := 5000000000 } : State).pair.acceptedAt + 5000000000 ≤ 5000000000 ∧
    sess.mono < sess.pair.acceptedAt + 5000000000 ∧ 2 ≤ ({ sess.pair with attempts := 2 } : PairSt).attempts ∧
    ({ sess.pair with joiner := some 2 } : PairSt).joiner = some 2 ∧ objNet ≠ objBoot ∧ (zeros 64).length ≤ 64 ∧
    ({ hdr with underOldKey := true } : HhkHdr).underOldKey = true ∧
    frameUsed typeHeartbeat hdr sess = true ∧ frameUsed typeControl hdr sess = true ∧ frameUsed typeForward hdr sess = true ∧
    frameUsed typeResyncPage hdr (inRole roleSyncing) = true ∧ frameUsed typeResyncLines hdr (inRole roleSyncing) = true ∧
    frameUsed typeCheckpoint hdr sess = true ∧ frameUsed typeControl { hdr with tagOk := false } sess = false ∧
    ({ hdr with counter := 0 }).counter < assoc [(2, 1)] (ctrKey { hdr with counter := 0 }) ∧ hdr.underOldKey = false ∧
    sess.get Reg.sysPositionGroupId = 0 ∧ sess.held = false ∧ (owner roleAlone).held = true ∧
    sess.on Reg.sysModeSplit = false ∧ stateTranslates sess 0 0 = true ∧ stateTranslates sess 1 1 = false ∧
    changingOwner.prog.state = .changing ∧ sess.prog.change = none ∧ (inRole roleSyncing).role = roleSyncing ∧
    (inRole roleSyncing).pair.attempts < 2 ∧ sess.role ≠ roleSyncing ∧ sess.pair.joiner = none ∧
    anyStandby (withPeers [peer 2 roleStandby] (owner rolePrimary)) = true ∧ 2 < sess.pair.ckpts.length ∧
    2 < sess.pair.ckptSeq.length := by decide +kernel

theorem witness_HollyhockFrames_joins :
    sess.pair.killed = none ∧ ({ sess.pair with killed := some 2 } : PairSt).killed = some hdr.srcSlot ∧
    ({ sess.pair with deferred := [2] } : PairSt).deferred.contains hdr.srcSlot = true ∧
    sess.pair.deferred.contains hdr.srcSlot = false ∧ (∀ i, i < 16 → ringsIdle i sess = true) ∧
    ({ changingOwner.prog with change := some {} } : ProgSt).change = some {} ∧
    portFacing inTriad 9 < 2 := by decide +kernel

theorem witness_HollyhockLanesKeysAndDelay :
    (sess.set (laneFld 1 1) laneUp).get (laneFld 1 1) = laneUp ∧ sess.get (laneFld 1 1) ≠ laneUp ∧
    (sess.set (laneFld 1 1) laneReady).get (laneFld 1 1) = laneReady ∧ sess.get (laneFld 1 1) ≠ laneReady ∧
    frameUsed typeKey hdr sess = true ∧ 1 < sess.hhk.reqAt.length ∧ frameUsed typeDelayReq hdr sess = true ∧
    frameUsed typeDelayResp hdr sess = true ∧ hdr.port < sess.hhk.exch.length ∧ sess.hhk.exch.getD hdr.port [] = [] ∧
    sess.get (laneFld 0 0) ≠ laneReady ∧ 1 < sess.hhk.exch.length ∧ ([⟨0, 0⟩] : List Exchange) ≠ [] ∧
    1000 < (medianInt [1001, 1001] - medianInt [0]).natAbs ∧ 1 * 64 + 63 < 128 := by decide +kernel

theorem witness_HollyhockLanesKeysAndDelay_ports :
    portWired sess 0 = true ∧ portWired ({ sess with hhk := { sess.hhk with miswired := 1 } } : State) 0 = false ∧
    0 < sess.hhk.reqAt.length ∧ sess.hhk.oldKeys = [] ∧
    (2, 5) ∈ (({ sess.hhk with oldKeys := [(2, 5)] } : HhkSt).oldKeys.head?) ∧
    facedSlot { sess with sec := { sess.sec with members := [0, 2] } } hdr.port = hdr.srcSlot ∧ hdr.srcSlot < 64 ∧
    hdr.underOldKey = false := by decide +kernel

/-! ### Invariants and frames -/

theorem witness_EveryStepKeepsTheCanonicalForm :
    State.reset.canonical ∧ ∃ t, step { State.reset with pending := [.ocxoWarm] } = .next t :=
  ⟨by decide +kernel, _, rfl⟩

theorem witness_EveryStepKeepsTheStackDepths : (petal [1#64]).depthsOk := by decide +kernel

theorem witness_CommandsKeepToTheirUnitsBlocks :
    Instr.wellFormed (.fldLow) = true ∧ Instr.wellFormed (.laneFrame 11 [] true) = true ∧
    (∃ t, exec .fldLow sess = .next t) := ⟨by decide, by decide, _, rfl⟩

/-! ### Ill-formed commands -/

/-- A handshake and a fabric access that are well formed. -/
def okShake : Handshake := ⟨0, 0, 0, 0, 0, 0, 0, 0, 0, [], 0, 0, []⟩
def okAcc : FabAcc := ⟨0, false, false, 0, 0, 0, 1, [], []⟩

/-- The same with one field out of its range. -/
def badRq : Req := { rq [] with seq := 65536 }
def badHdr : HhkHdr := { hdr with port := 2 }
def badShake : Handshake := { okShake with port := 5 }
def badAcc : FabAcc := { okAcc with addr := 2 ^ 40 }

theorem smoke_fields :
    Req.wf (rq []) = true ∧ HhkHdr.wf hdr = true ∧ Handshake.wf okShake = true ∧ FabAcc.wf okAcc = true ∧
    Req.wf { rq [] with src := .host 16 } = false ∧ Req.wf { rq [] with src := .petal 8 } = false ∧
    Req.wf badRq = false ∧ Req.wf { rq [] with flags := 65536 } = false ∧
    Req.wf { rq [] with status := 65536 } = false ∧ Req.wf { rq [] with length := 2 ^ 32 } = false ∧
    Req.wf { rq [] with segment := 65536 } = false ∧ Req.wf { rq [] with segCount := 65536 } = false ∧
    HhkHdr.wf badHdr = false ∧ HhkHdr.wf { hdr with srcSlot := 64 } = false ∧
    HhkHdr.wf { hdr with segment := 65536 } = false ∧ HhkHdr.wf { hdr with counter := 2 ^ 64 } = false ∧ HhkHdr.wf { hdr with dst := 256 } = false ∧
    Handshake.wf badShake = false ∧ Handshake.wf { okShake with addr := 2 ^ 32 } = false ∧
    Handshake.wf { okShake with alpn := 3 } = false ∧ Handshake.wf { okShake with auth := 2 } = false ∧
    FabAcc.wf { okAcc with master := 64 } = false ∧ FabAcc.wf { okAcc with kind := 3 } = false ∧
    FabAcc.wf badAcc = false ∧ FabAcc.wf { okAcc with sizeLog2 := 8 } = false ∧
    FabAcc.wf { okAcc with beats := 0 } = false := by decide

/-- Each check of each command, broken alone, refuses it. -/
theorem smoke_refused_0 : ([
    .timeBusWord [] (2 ^ 128), .ptpOffsetSample 4 0 0, .fineLock 16, .lockLoss 16, .txLate 5, .errorTaskRun 8, .pNop 8,
    .pDup 8, .pDrop 8, .pSwap 8, .pOver 8, .pRot 8, .pPick 8 0, .pPick 0 256, .pPush0 8, .pPush1 8, .pPushb 8 0,
    .pPushb 0 256, .pPushw 8 0, .pPushw 0 65536, .pLdk 8 0, .pLdk 0 65536, .pLdl 8 0 0, .pLdl 0 256 0,
    .pLdl 0 0 65536, .pStl 8 0 0, .pStl 0 256 0, .pStl 0 0 65536, .pLdi 8 0 0, .pLdi 0 256 0, .pLdi 0 0 65536,
    .pSti 8 0 0, .pSti 0 256 0, .pSti 0 0 65536, .pLdin 8 0 0, .pLdin 0 256 0, .pLdin 0 0 65536, .pLdout 8 0 0,
    .pLdout 0 256 0, .pLdout 0 0 65536] : List Instr).all (fun c => c.wellFormed == false) = true := by decide +kernel

theorem smoke_refused_1 : ([
    .pStout 8 0 0, .pStout 0 256 0, .pStout 0 0 65536, .pLdxl 8 0 0 0, .pLdxl 0 256 0 0, .pLdxl 0 0 65536 0,
    .pLdxl 0 0 0 65536, .pStxl 8 0 0 0, .pStxl 0 256 0 0, .pStxl 0 0 65536 0, .pStxl 0 0 0 65536, .pLdxi 8 0 0 0,
    .pLdxi 0 256 0 0, .pLdxi 0 0 65536 0, .pLdxi 0 0 0 65536, .pStxi 8 0 0 0, .pStxi 0 256 0 0, .pStxi 0 0 65536 0,
    .pStxi 0 0 0 65536, .pLdxin 8 0 0 0, .pLdxin 0 256 0 0, .pLdxin 0 0 65536 0, .pLdxin 0 0 0 65536,
    .pLdxout 8 0 0 0, .pLdxout 0 256 0 0, .pLdxout 0 0 65536 0, .pLdxout 0 0 0 65536, .pStxout 8 0 0 0,
    .pStxout 0 256 0 0, .pStxout 0 0 65536 0, .pStxout 0 0 0 65536, .pCopy 8 0 0, .pCopy 0 256 0, .pCopy 0 0 65536,
    .pAdd 8 .i32, .pSub 8 .i32, .pMul 8 .i32, .pDiv 8 .i32, .pMod 8 .i32, .pNeg 8 false] : List Instr).all (fun c => c.wellFormed == false) = true := by decide +kernel

theorem smoke_refused_2 : ([
    .pAbs 8 false, .pAddF 8 .f32, .pSubF 8 .f32, .pMulF 8 .f32, .pDivF 8 .f32, .pNegF 8 .f32, .pAbsF 8 .f32,
    .pSqrt 8 .f32, .pMinF 8 .f32, .pMaxF 8 .f32, .pSin 8, .pCos 8, .pAtan2 8, .pExp 8, .pLn 8, .pEq 8, .pNe 8,
    .pLtS 8, .pLeS 8, .pGtS 8, .pGeS 8, .pLtU 8, .pLeU 8, .pGtU 8, .pGeU 8, .pEqF 8 .f32, .pNeF 8 .f32, .pLtF 8 .f32,
    .pLeF 8 .f32, .pGtF 8 .f32, .pGeF 8 .f32, .pMinS 8, .pMaxS 8, .pMinU 8, .pMaxU 8, .pSel 8, .pAnd 8, .pOr 8,
    .pXor 8, .pNot 8 0] : List Instr).all (fun c => c.wellFormed == false) = true := by decide +kernel

theorem smoke_refused_3 : ([
    .pNot 0 256, .pBnot 8, .pShl 8 0, .pShl 0 256, .pShr 8 0, .pShr 0 256, .pSar 8 0, .pSar 0 256, .pRol 8 0,
    .pRol 0 256, .pRor 8 0, .pRor 0 256, .pBitget 8 0, .pBitget 0 256, .pBitset 8 0, .pBitset 0 256, .pCvt 8 0 0,
    .pCvt 0 256 0, .pCvt 0 0 256, .pCvtt 8 0 0, .pCvtt 0 256 0, .pCvtt 0 0 256, .pBr 8 0, .pBr 0 65536, .pBrz 8 0,
    .pBrz 0 65536, .pBrnz 8 0, .pBrnz 0 65536, .pBrl 8 0 0, .pBrl 0 65536 0, .pBrl 0 0 65536, .pLoop 8 0 0,
    .pLoop 0 65536 0, .pLoop 0 0 65536, .pEndloop 8, .pLidx 8 0, .pLidx 0 256, .pCallfb 8 0 0, .pCallfb 0 65536 0,
    .pCallfb 0 0 65536] : List Instr).all (fun c => c.wellFormed == false) = true := by decide +kernel

theorem smoke_refused_4 : ([
    .pCallfn 8 0, .pCallfn 0 65536, .pRet 8, .pSeg 8, .pEnd 8, .pUnassignedOpcode 8 false, .pCycleFault 8,
    .pGetflags 8, .pClrflags 8, .pFrametime 8, .pSeginfo 8, .pAlarm 8 0 0, .pAlarm 0 65536 0, .pAlarm 0 0 256,
    .pLogevt 8 0 0, .pLogevt 0 65536 0, .pLogevt 0 0 256, .pLtrig 8 0 0, .pLtrig 0 65536 0, .pLtrig 0 0 256,
    .pCantx 8 0 0, .pCantx 0 65536 0, .pCantx 0 0 256, .rcbDoorbellWrite 64 0 0, .rcbDoorbellWrite 0 256 0,
    .rcbDoorbellWrite 0 0 65536, .rcbConsWrite 256 0, .rcbConsWrite 0 65536, .ringInterruptTimer 256,
    .tlsHandshake badShake, .handshakeLockoutEnd (2 ^ 32), .messageSegment 0 0 badRq, .segTimeout 16 0,
    .segTimeout 0 65536, .cancel 0 0 badRq, .progressMessage 16 0, .progressMessage 0 65536, .sessionIdleTimeout 16,
    .sessionLoss 16, .identGetIdent badRq] : List Instr).all (fun c => c.wellFormed == false) = true := by decide +kernel

theorem smoke_refused_5 : ([
    .identGetBlockVersions badRq, .identGetCertificates badRq, .sessionGetInfo badRq, .sessionSetActiveRoles badRq,
    .sessionKeepalive badRq, .sessionSetIdle badRq, .sessionSubscribe badRq, .sessionClose badRq,
    .sessionListSessions badRq, .sessionTerminate badRq, .configGetActive badRq, .configReadSettings badRq,
    .configStageSettings badRq, .configActivate badRq, .configDiscardStaged badRq, .programGetStatus badRq,
    .programLoadUnit badRq, .programStartChange badRq, .programAbortChange badRq, .programRun badRq,
    .programStop badRq, .programGetTaskStats badRq, .programReadVar badRq, .forceList badRq, .forceSet badRq,
    .forceRelease badRq, .forceReleaseAll badRq, .diagReadRegs badRq, .diagWriteRegs badRq [], .diagWriteRegs (rq []) [(2 ^ 20, 0)], .diagWriteRegs (rq []) [(0, 32)], .diagGetHealth badRq,
    .diagRaiseAlarm badRq, .timeGetStatus badRq, .timeGetSources badRq, .timeGetConfig badRq, .timeSetConfig badRq,
    .timeStep badRq, .timeSetTaiUtc badRq, .updateGetStatus badRq, .updateBegin badRq, .updateTransfer badRq] : List Instr).all (fun c => c.wellFormed == false) = true := by decide +kernel

theorem smoke_refused_6 : ([
    .updateInstall badRq, .updateConfirm badRq, .updateAbort badRq, .updateGroupUpdate badRq, .archiveList badRq,
    .archiveExport badRq, .archiveDelete badRq, .archiveLogEvent badRq, .archiveReadLog badRq,
    .securityGetState badRq, .securitySetTrustAnchors badRq, .securityLoadCrl badRq, .securityEnrol badRq,
    .securitySetRoleMap badRq, .securityRevokeRootSlot badRq, .securityRotateGroupKeys badRq,
    .redundancyGetStatus badRq, .redundancyHandover badRq, .redundancyLeaveGroup badRq,
    .redundancyRemoveRequest badRq, .redundancyResync badRq, .redundancyGetSignatures badRq, .asterGetStatus badRq,
    .asterGetConfig badRq, .asterSetConfig badRq, .asterGetPhasors badRq, .asterSetStreaming badRq,
    .larkspurGetStatus badRq, .larkspurGetConfig badRq, .larkspurSetConfig badRq, .larkspurGetEvents badRq,
    .larkspurCalibrate badRq, .larkspurManualTrigger badRq, .fieldioGetStatus badRq, .fieldioGetConfig badRq,
    .fieldioSetConfig badRq, .fieldioClearFault badRq, .canauxGetStatus badRq, .canauxGetConfig badRq,
    .canauxSetConfig badRq] : List Instr).all (fun c => c.wellFormed == false) = true := by decide +kernel

theorem smoke_refused_7 : ([
    .canauxTxEnqueue badRq, .canauxRecover badRq, .canauxReadRx badRq, .lifetimeGetSummary badRq,
    .lifetimeReadRecords badRq, .lifetimeAddNote badRq, .streamLost 24, .c37118Command 16 0 0,
    .laneFrame 12 [] false, .groupArmed 4, .wavefrontDetect 4 0 0 [], .wavefrontDetect 0 0 6024 [], .eventClose 4, .gooseTalExpiry 128,
    .linkChange 5 false 0 false false, .prpSupervision 2, .nodeForget 2 0, .nodeForget 0 (2 ^ 48), .entryForget 2 0 0,
    .entryForget 0 (2 ^ 48) 0, .entryForget 0 0 65536, .macsecDown 5, .macsecUp 5, .mmsAssociate badShake,
    .mmsConclude 8, .mmsAbort 8, .mmsGetNameList 8, .mmsIdentify 8, .mmsRead 8 0, .mmsGetVariableAccessAttributes 8 0,
    .mmsGetNamedVarListAttributes 8 [], .mmsWriteRcb 8 0 false [], .mmsWriteRcb 0 32 false [], .mmsFileDirectory 8,
    .mmsFileOpen 8 0, .mmsFileRead 8 0 0, .mmsFileClose 8 0, .doLatchOff 8, .canFrameRx 2 ⟨0, 0, [], 0, 0, 0⟩,
    .canBusIdle 2 0 false, .canTxDone 2 0 0 false 0, .canRecoveryComplete 2] : List Instr).all (fun c => c.wellFormed == false) = true := by decide +kernel

theorem smoke_refused_8 : ([
    .canBusIntegration 2, .heartbeat badHdr 0 0 0 0 false hbTime, .heartbeat hdr 16 0 0 0 false hbTime,
    .heartbeat hdr 0 64 0 0 false hbTime, .heartbeat hdr 0 0 3 0 false hbTime, .snapshotFrame badHdr {},
    .signatureFrame badHdr [] 0 false, .voteFrame badHdr [] 0 0 [], .join badHdr false 0 0 0,
    .join hdr false 0 65536 0, .join hdr false 0 0 65536, .leave badHdr, .failed badHdr 0, .failed hdr 256,
    .ready badHdr false, .ack badHdr 0, .ack hdr 3, .taintRelease badHdr, .resyncPage badHdr 0 [] none,
    .resyncPage hdr (2 ^ 40) [] none, .resyncLines badHdr [] none, .checkpoint badHdr 0 0 0 [],
    .checkpoint hdr 3 0 0 [], .forward badHdr .abortChange, .key badHdr [] false, .delayReq 2 none 0 0,
    .delayReq 0 (some badHdr) 0 0, .delayResp badHdr 0 0 0 0, .laneTrainComplete 2 0 false, .laneTrainComplete 0 2 false,
    .laneCheckComplete 2 0, .laneCheckComplete 0 2, .laneErroredBlock 2 0, .laneErroredBlock 0 2, .laneLost 2 0 0,
    .laneLost 0 2 0, .laneRetrain 2 0, .laneRetrain 0 2, .laneRebond 2 0, .laneRebond 0 2] : List Instr).all (fun c => c.wellFormed == false) = true := by decide +kernel

theorem smoke_refused_9 : ([
    .comparatorMismatch 16 0, .comparatorMismatch 0 256, .delayPar 16 0, .delayPar 0 256, .compFail 16,
    .memLogClear (2 ^ 32), .fabricAccess badAcc, .gateSeal 64 false 0, .gateSeal 0 false (2 ^ 32), .gatePop 16 0,
    .gatePop 0 (2 ^ 32), .gateEntryWrite 64 false 0 0, .gateEntryWrite 0 false (2 ^ 40) 0,
    .gateEntryWrite 0 false 0 (2 ^ 32), .gateDrainComplete 16, .gateDrainTimeout 16 0, .gateDrainTimeout 0 65536,
    .coldReset 8, .perDomainReset 16 [], .domainResetRequest 65536, .enrolRenewal 64 none, .bkdAlarmHiWrite (2 ^ 32),
    .bkdAlarmLoWrite (2 ^ 32), .bkdWdWrite (2 ^ 32), .bkdBytesWrite 64 [], .feedLost 2 0, .feedGood 2 0 false,
    .feedOv 2 0, .feedOvClear 2 0, .seatedDetectMade 64 0, .seatedDetectMade 0 16, .mgmtOpSelect 4, .clockGate 16,
    .clockWake 16, .clockFault 16, .firmwareWatchdog 256, .registerWrite (2 ^ 20) 0 [], .registerWrite 0 (2 ^ 32) [], .registerWrite 0 0 [32],
    .ptpAnnounce 5 0 false 0 false false, .ptpDelayReq 5] : List Instr).all (fun c => c.wellFormed == false) = true := by decide +kernel

theorem smoke_refused_10 : ([
    .malformed 0 0 badRq, .c37118ClientConnect 16, .c37118ClientClose 16] : List Instr).all (fun c => c.wellFormed == false) = true := by decide +kernel

/-- With that operand in range the same commands are well formed. -/
theorem smoke_accepted_0 : ([
    .timeBusWord [] 0, .ptpOffsetSample 0 0 0, .fineLock 0, .lockLoss 0, .txLate 0, .errorTaskRun 0, .pNop 0, .pDup 0,
    .pDrop 0, .pSwap 0, .pOver 0, .pRot 0, .pPick 0 0, .pPush0 0, .pPush1 0, .pPushb 0 0, .pPushw 0 0, .pLdk 0 0,
    .pLdl 0 0 0, .pStl 0 0 0, .pLdi 0 0 0, .pSti 0 0 0, .pLdin 0 0 0, .pLdout 0 0 0, .pStout 0 0 0, .pLdxl 0 0 0 0,
    .pStxl 0 0 0 0, .pLdxi 0 0 0 0, .pStxi 0 0 0 0, .pLdxin 0 0 0 0, .pLdxout 0 0 0 0, .pStxout 0 0 0 0, .pCopy 0 0 0,
    .pAdd 0 .i32, .pSub 0 .i32, .pMul 0 .i32, .pDiv 0 .i32, .pMod 0 .i32, .pNeg 0 false, .pAbs 0 false] : List Instr).all (fun c => c.wellFormed == true) = true := by decide +kernel

theorem smoke_accepted_1 : ([
    .pAddF 0 .f32, .pSubF 0 .f32, .pMulF 0 .f32, .pDivF 0 .f32, .pNegF 0 .f32, .pAbsF 0 .f32, .pSqrt 0 .f32,
    .pMinF 0 .f32, .pMaxF 0 .f32, .pSin 0, .pCos 0, .pAtan2 0, .pExp 0, .pLn 0, .pEq 0, .pNe 0, .pLtS 0, .pLeS 0,
    .pGtS 0, .pGeS 0, .pLtU 0, .pLeU 0, .pGtU 0, .pGeU 0, .pEqF 0 .f32, .pNeF 0 .f32, .pLtF 0 .f32, .pLeF 0 .f32,
    .pGtF 0 .f32, .pGeF 0 .f32, .pMinS 0, .pMaxS 0, .pMinU 0, .pMaxU 0, .pSel 0, .pAnd 0, .pOr 0, .pXor 0, .pNot 0 0,
    .pBnot 0] : List Instr).all (fun c => c.wellFormed == true) = true := by decide +kernel

theorem smoke_accepted_2 : ([
    .pShl 0 0, .pShr 0 0, .pSar 0 0, .pRol 0 0, .pRor 0 0, .pBitget 0 0, .pBitset 0 0, .pCvt 0 0 0, .pCvtt 0 0 0,
    .pBr 0 0, .pBrz 0 0, .pBrnz 0 0, .pBrl 0 0 0, .pLoop 0 0 0, .pEndloop 0, .pLidx 0 0, .pCallfb 0 0 0, .pCallfn 0 0,
    .pRet 0, .pSeg 0, .pEnd 0, .pUnassignedOpcode 0 false, .pCycleFault 0, .pGetflags 0, .pClrflags 0, .pFrametime 0,
    .pSeginfo 0, .pAlarm 0 0 0, .pLogevt 0 0 0, .pLtrig 0 0 0, .pCantx 0 0 0, .rcbDoorbellWrite 0 0 0,
    .rcbConsWrite 0 0, .ringInterruptTimer 0, .tlsHandshake okShake, .handshakeLockoutEnd 0,
    .messageSegment 0 0 (rq []), .segTimeout 0 0, .cancel 0 0 (rq []), .progressMessage 0 0] : List Instr).all (fun c => c.wellFormed == true) = true := by decide +kernel

theorem smoke_accepted_3 : ([
    .sessionIdleTimeout 0, .sessionLoss 0, .identGetIdent (rq []), .identGetBlockVersions (rq []),
    .identGetCertificates (rq []), .sessionGetInfo (rq []), .sessionSetActiveRoles (rq []), .sessionKeepalive (rq []),
    .sessionSetIdle (rq []), .sessionSubscribe (rq []), .sessionClose (rq []), .sessionListSessions (rq []),
    .sessionTerminate (rq []), .configGetActive (rq []), .configReadSettings (rq []), .configStageSettings (rq []),
    .configActivate (rq []), .configDiscardStaged (rq []), .programGetStatus (rq []), .programLoadUnit (rq []),
    .programStartChange (rq []), .programAbortChange (rq []), .programRun (rq []), .programStop (rq []),
    .programGetTaskStats (rq []), .programReadVar (rq []), .forceList (rq []), .forceSet (rq []),
    .forceRelease (rq []), .forceReleaseAll (rq []), .diagReadRegs (rq []), .diagWriteRegs (rq []) [(4, 31)],
    .diagGetHealth (rq []), .diagRaiseAlarm (rq []), .timeGetStatus (rq []), .timeGetSources (rq []),
    .timeGetConfig (rq []), .timeSetConfig (rq []), .timeStep (rq []), .timeSetTaiUtc (rq [])] : List Instr).all (fun c => c.wellFormed == true) = true := by decide +kernel

theorem smoke_accepted_4 : ([
    .updateGetStatus (rq []), .updateBegin (rq []), .updateTransfer (rq []), .updateInstall (rq []),
    .updateConfirm (rq []), .updateAbort (rq []), .updateGroupUpdate (rq []), .archiveList (rq []),
    .archiveExport (rq []), .archiveDelete (rq []), .archiveLogEvent (rq []), .archiveReadLog (rq []),
    .securityGetState (rq []), .securitySetTrustAnchors (rq []), .securityLoadCrl (rq []), .securityEnrol (rq []),
    .securitySetRoleMap (rq []), .securityRevokeRootSlot (rq []), .securityRotateGroupKeys (rq []),
    .redundancyGetStatus (rq []), .redundancyHandover (rq []), .redundancyLeaveGroup (rq []),
    .redundancyRemoveRequest (rq []), .redundancyResync (rq []), .redundancyGetSignatures (rq []),
    .asterGetStatus (rq []), .asterGetConfig (rq []), .asterSetConfig (rq []), .asterGetPhasors (rq []),
    .asterSetStreaming (rq []), .larkspurGetStatus (rq []), .larkspurGetConfig (rq []), .larkspurSetConfig (rq []),
    .larkspurGetEvents (rq []), .larkspurCalibrate (rq []), .larkspurManualTrigger (rq []),
    .fieldioGetStatus (rq []), .fieldioGetConfig (rq []), .fieldioSetConfig (rq []), .fieldioClearFault (rq [])] : List Instr).all (fun c => c.wellFormed == true) = true := by decide +kernel

theorem smoke_accepted_5 : ([
    .canauxGetStatus (rq []), .canauxGetConfig (rq []), .canauxSetConfig (rq []), .canauxTxEnqueue (rq []),
    .canauxRecover (rq []), .canauxReadRx (rq []), .lifetimeGetSummary (rq []), .lifetimeReadRecords (rq []),
    .lifetimeAddNote (rq []), .streamLost 0, .c37118Command 0 0 0, .laneFrame 0 [] false,
    .groupArmed 0, .wavefrontDetect 3 0 6023 [], .eventClose 0, .gooseTalExpiry 0, .linkChange 0 false 0 false false, .prpSupervision 0,
    .nodeForget 0 0, .entryForget 0 0 0, .macsecDown 0, .macsecUp 0, .mmsAssociate okShake, .mmsConclude 0,
    .mmsAbort 0, .mmsGetNameList 0, .mmsIdentify 0, .mmsRead 0 0, .mmsGetVariableAccessAttributes 0 0,
    .mmsGetNamedVarListAttributes 0 [], .mmsWriteRcb 0 0 false [], .mmsFileDirectory 0, .mmsFileOpen 0 0,
    .mmsFileRead 0 0 0, .mmsFileClose 0 0, .doLatchOff 0, .canFrameRx 0 ⟨0, 0, [], 0, 0, 0⟩, .canBusIdle 0 0 false,
    .canTxDone 0 0 0 false 0, .canRecoveryComplete 0, .canBusIntegration 0] : List Instr).all (fun c => c.wellFormed == true) = true := by decide +kernel

theorem smoke_accepted_6 : ([
    .heartbeat hdr 0 0 0 0 false hbTime, .snapshotFrame hdr {}, .signatureFrame hdr [] 0 false,
    .voteFrame hdr [] 0 0 [], .join hdr false 0 0 0, .leave hdr, .failed hdr 0, .ready hdr false, .ack hdr 0,
    .taintRelease hdr, .resyncPage hdr 0 [] none, .resyncLines hdr [] none, .checkpoint hdr 0 0 0 [],
    .forward hdr .abortChange, .key hdr [] false, .delayReq 0 none 0 0, .delayResp hdr 0 0 0 0, .laneTrainComplete 0 0 false,
    .laneCheckComplete 0 0, .laneErroredBlock 0 0, .laneLost 0 0 0, .laneRetrain 0 0, .laneRebond 0 0,
    .comparatorMismatch 0 0, .delayPar 0 0, .compFail 0, .memLogClear 0, .fabricAccess okAcc, .gateSeal 0 false 0,
    .gatePop 0 0, .gateEntryWrite 0 false 0 0, .gateDrainComplete 0, .gateDrainTimeout 0 0, .coldReset 0,
    .perDomainReset 0 [], .domainResetRequest 0, .enrolRenewal 0 none, .bkdAlarmHiWrite 0, .bkdAlarmLoWrite 0,
    .bkdWdWrite 0] : List Instr).all (fun c => c.wellFormed == true) = true := by decide +kernel

theorem smoke_accepted_7 : ([
    .bkdBytesWrite 0 [], .feedLost 0 0, .feedGood 0 0 false, .feedOv 0 0, .feedOvClear 0 0, .seatedDetectMade 0 0,
    .mgmtOpSelect 0, .clockGate 0, .clockWake 0, .clockFault 0, .firmwareWatchdog 0, .registerWrite 0 0 [31],
    .ptpAnnounce 0 0 false 0 false false, .ptpDelayReq 0, .malformed 0 0 (rq []), .c37118ClientConnect 0,
    .c37118ClientClose 0] : List Instr).all (fun c => c.wellFormed == true) = true := by decide +kernel

/-! ### Worked examples and check values of the spec -/

/-- 02 R63: the check value of CRC-16/CCITT-FALSE. 11 R354: that of the CRC-64. -/
theorem test_crc16 : crc16 ((by8 [0x31, 0x32, 0x33, 0x34, 0x35, 0x36, 0x37, 0x38, 0x39]).flatMap
    (fun b => msbBits 8 b.toNat)) = 0x29B1 := by decide +kernel
theorem test_crc64 : crc64 (by8 [0x31, 0x32, 0x33, 0x34, 0x35, 0x36, 0x37, 0x38, 0x39]) = 0x995DC9BBDF1939FA := by
  decide +kernel

/-- 00, Time notation: 123 456 789 ns into a second lies in frame 493 at T0 + 206.789 us. -/
theorem test_frame_of_an_instant :
    frameOf (atNs 123456789 sess).now = 493 ∧ (atNs 123456789 sess).now - (atNs 123456789 sess).t0 = 206789 := by
  decide +kernel

/-- 02 R65: of PRIO 200 in slots 5 and 9 and an effective 0 in slot 1, slot 5 wins. -/
theorem test_arbitration : arbKey 200 5 < arbKey 200 9 ∧ arbKey 200 9 < arbKey 0 1 := by decide

/-- 03 R106: SYNC_MISS is set; a write of its bit clears it, reads back 0 and leaves its counter at 6. -/
def missed : State := (sess.set Reg.timEventSyncMiss 1).set Reg.timEventCnt1SyncMissCnt 6
theorem test_event_cleared :
    nxt (execDiagWriteRegs (rq (leBytes 4 0x10008 ++ leBytes 2 1 ++ zeros 2 ++ leBytes 4 2 ++ leBytes 4 2)) [] missed)
      (fun t => !t.on Reg.timEventSyncMiss && t.get Reg.timEventCnt1SyncMissCnt == 6
        && t.outbox == [.response 0 1 6 2 stOk false (zeros 4)]) = true := by decide +kernel

/-- 05 R162: ADD.I32 on 0x7FFF_FFFF and 1 pushes 0xFFFF_FFFF_8000_0000 and sets OVF. -/
theorem test_add_overflows : nxt (execPAdd 0 .i32 (petal [1#64, 0x7FFFFFFF#64])) (fun t =>
    (t.eng 0).stack == [0xFFFFFFFF80000000#64] && (t.task 0).ovf) = true := by decide +kernel

/-- 05 R162: 40 000 stored by STI as INT becomes -25 536 and sets OVF. -/
theorem test_store_wraps : nxt (execPSti 0 3 0 (petal [40000#64])) (fun t =>
    sleAt (t.bytes (bankBase t 0 + 64) 2) 0 2 == -25536 && (t.task 0).ovf) = true := by decide +kernel

/-- 05 R168: 16.0 / 5.0 is 0x404C_CCCD. -/
theorem test_div_real : nxt (execPDivF 0 .f32 (petal [0x40A00000#64, 0x41800000#64])) (fun t =>
    (t.eng 0).stack == [0x404CCCCD#64] && (t.eng 0).cycles == 10) = true := by decide +kernel

/-- 05 R168: the code of AVG8, its WCET of 139 cycles, and the rules it obeys. -/
def avg8 : LoadUnit :=
  let code := by8 [0x12, 0x07, 0, 0, 0xA4, 8, 0, 0x12, 0, 0xA6, 0, 0x19, 0x0E, 8, 0, 8, 0, 0x10, 0x0E, 0, 0, 0x40,
    0x11, 0x0E, 0, 0, 0xA5, 0x12, 0x07, 0, 0, 0xA1, 0x10, 0, 0x10, 0x0E, 0, 0, 0x12, 0x07, 0, 0, 0x90, 0x07, 0x0E,
    0x46, 0x13, 0x0E, 4, 0, 0xAA]
  { unit0 with images := [⟨0, code, []⟩], types := [⟨0, 0, 0, 0, 0, 51, 40, 8, 139, 1⟩], tasks := [] }
theorem test_avg8 : (deriveCost avg8 0).2 = 139 ∧ typeOk avg8 0 = true := by decide +kernel

/-- 12 R382: the agreed BOOL, DINT, REAL and WORD of three contributions. -/
theorem test_agreement :
    agreeElem .bool 1 1 0 1 = 1 ∧ agreeElem .signed 4 1200 1203 1198 = 1200 ∧
    agreeElem .float 4 0x4247FDF4 0x7FC00000 0x42480106 = 0x42480106 ∧
    agreeElem .bits 2 0x00F0 0x00F1 0x0071 = 0x00F1 := by decide +kernel

/-- 14 R414: 13 symbols are corrected in HEALTHY; with a device retired 8 are and 9 are not. -/
def degraded : State := sess.set Reg.memStatusState memDegraded
theorem test_symbols : correctable sess 13 = true ∧ correctable degraded 13 = false ∧ correctable degraded 8 = true ∧
    correctable degraded 9 = false := by decide +kernel

/-- 19 R515: B fails while A qualifies: A is connected at once and the module goes on. -/
def qualifying : State :=
  ((sess.set Reg.pwrStatusFeedA feedQualifying).set Reg.pwrStatusFeedB feedIsGood).set Reg.pwrStatusCarrying 1
theorem test_feed_b_fails : nxt (execFeedLost 1 16900 qualifying) (fun t =>
    t.get Reg.pwrStatusCarrying == 0 && t.on Reg.pwrEventFeedBLost && t.role == roleNone) = true := by decide +kernel

/-- 10 R323: BIT_ERROR at bit 26 of object 12 raises TEC from 0 to 8. 10 R327: from 250 in PASSIVE it rises to 258: BUS_OFF. -/
def sending (st tec : Nat) : State :=
  let s := (canState.set (Reg.canCtrlState 0) st).set (Reg.canCtrlTec 0) tec
  { s with can := s.can.map (fun k => { k with sending := some 12 }) }
theorem test_bit_error : nxt (execCanTxDone 0 1 26 false 0 (sending canActive 0)) (fun t =>
    t.get (Reg.canCtrlTec 0) == 8 && (t.canObj 0 12).reason == 1 && (t.canObj 0 12).bitPos == 26) = true := by
  decide +kernel
theorem test_bus_off : nxt (execCanTxDone 0 1 26 false 0 (sending canPassive 250)) (fun t =>
    t.get (Reg.canCtrlState 0) == canBusOff) = true := by decide +kernel

theorem witness_CanControllers_sending :
    ((sending canActive 0).ctl 0).sending = some 12 ∧ 12 < ((sending canActive 0).ctl 0).objs.length ∧
    (sending canActive 0).get (Reg.canCtrlState 0) = canActive ∧ (sending canActive 0).get (Reg.canCtrlRec 0) < 96 ∧
    (sending canActive 95).get (Reg.canCtrlTec 0) < 96 := by decide +kernel

/-- 15 R434: beat 8 of NET2's transfer falls under entry 6, whose bitmap lacks 0x14: it is rejected with CAUSE MASTER and
the 128 bytes before it stay. -/
def boot : State :=
  let s := sess.set (Reg.gateGCtrlState 0) gateOpen
  let ent (e base limit lo : Nat) (s : State) : State :=
    (((s.set (entBase (entAddr 0 e)) base).set (entLimit (entAddr 0 e)) limit).set
      (entMaskLo (entAddr 0 e)) lo).setReg (entAddr 0 e + 8) 0x40000036#32
  ent 6 0xC8 0xE7 0x00000300 (ent 5 0xA8 0xC7 0x00780300 s)
theorem test_beat_rejected :
    rejected boot ⟨0x14, false, true, 1⟩ 0xC7FF0 16 = none ∧
    rejected boot ⟨0x14, false, true, 1⟩ 0xC8000 16 = some (0, 0xC8000, 6, causeMaster) := by decide +kernel

/-- 06 R191: smpCnt 4797 at 4800 samples/s that arrives 1650 us into second 1 belongs to second 0. -/
def aster48 : State :=
  withObjs [(objAster, patch (zeros 72) 16 (by8 [1, 1, 1, 1, 0, 0, 0, 0, 7])), (objNet, portCfg)] sess
theorem test_sample_second : nxt (execSvFrameRx ⟨inOn 0 0, 7, 0, 0, [], 0, false, 0, 0, [⟨4797, none, 2, [5], [0]⟩], 1001650000⟩ aster48)
    (fun t => (t.str 0).waiting.map (·.place) == [4797]) = true := by decide +kernel

/-- 18 R503: a trim at TAI 1 900 172 821 moves the counter from .030 s before and fires the alarm with SKIPPED. -/
def parked : State :=
  let s := timed (atNs 1900172821000000000 sess)
  (((s.set Reg.bkdSecLoSecLo 1900172820).set Reg.bkdFracFrac (970 * 32768 / 1000)).set Reg.bkdAlarmLoAlarmLo 1900172821).set
    Reg.bkdAlarmHiArm 1
theorem test_trim_skips_the_alarm : nxt (execBkdTrim parked) (fun t =>
    t.bkdSeconds == 1900172821 && t.on Reg.bkdEventAlarm && t.on Reg.bkdEventSkipped && !t.on Reg.bkdAlarmHiArm) = true := by
  decide +kernel

end Sys2Proof.Tests
end

section
/-! SUPPORT. The clock: the registers that show the TIME counter and the frame (02 R72). Once the tick has run the
counter to T0 and written TIM_FRAME, everything else that TICK does writes registers off the clock alone; one lemma per
function says so, and simp chains them in the order in which the functions call each other. -/

namespace Sys2Proof.Machine

/-! ### The registers of the clock -/

/-- TIM_NOW_NS, TIM_NOW_SEC_LO, TIM_NOW_SEC_HI and TIM_FRAME in a register file (02 R72). -/
def clockOf (l : List (Nat × Word)) : Word × Word × Word × Word :=
  (kvGet resetWord 0x10014 l, kvGet resetWord 0x10018 l, kvGet resetWord 0x1001C l, kvGet resetWord 0x10020 l)

/-- What the module shows as the time: the counter and the number of the frame. -/
def State.clock (s : State) : Word × Word × Word × Word := clockOf s.regs

/-- The field lies in no register of the clock. -/
def Fld.offClock (f : Fld) : Bool := decide (f.addr < 0x10014) || decide (0x10020 < f.addr)

/-- Neither the flag nor its counter lies in a register of the clock. -/
def Ev.offClock (e : Ev) : Bool := e.flag.offClock && e.cnt.all Fld.offClock

/-- The registers of an indexed block lie behind the clock where the block's first does. -/
theorem offClock_above {a : Nat} (k hi lo : Nat) (h : 0x10020 < a) : Fld.offClock ⟨a + k, hi, lo⟩ = true := by
  simp only [Fld.offClock, Bool.or_eq_true, decide_eq_true_eq]
  omega

/-- What a record update shows as the time. The proof rewrites: a lemma that held by rfl would have the kernel compare
whole states wherever simp uses it. -/
@[simp] theorem State.clock_mk (regs mem mono freeCtr outbox time mbx pair hhk nvs memi gate fio can cfg ast lsp net prog
    sec pwr bkd pending) :
    (State.mk regs mem mono freeCtr outbox time mbx pair hhk nvs memi gate fio can cfg ast lsp net prog sec pwr bkd
      pending).clock = clockOf regs := by rw [State.clock]

@[simp] theorem clockOf_regs (s : State) : clockOf s.regs = s.clock := by rw [State.clock]

@[simp] theorem State.clock_ite (c : Prop) [Decidable c] (s t : State) :
    (if c then s else t).clock = if c then s.clock else t.clock := apply_ite _ _ _ _

/-- What leaves the register file as it is keeps the clock. -/
theorem State.clock_of_regs {s t : State} (h : t.regs = s.regs) : t.clock = s.clock := congrArg clockOf h

/-- A fold keeps the clock where its step does. -/
@[simp] theorem foldl_clock {α : Type} (f : State → α → State) (h : ∀ s x, (f s x).clock = s.clock) (l : List α)
    (s : State) : (l.foldl f s).clock = s.clock := by
  induction l generalizing s with
  | nil => rfl
  | cons x r ih => rw [List.foldl_cons, ih, h]

theorem State.setReg_clock (s : State) (a : Nat) (w : Word) (h : (a < 0x10014 || 0x10020 < a) = true) :
    (s.setReg a w).clock = s.clock := by
  simp only [Bool.or_eq_true, decide_eq_true_eq] at h
  have other (k : Nat) (h1 : 0x10014 ≤ k) (h2 : k ≤ 0x10020) :
      kvGet resetWord k (s.setReg a w).regs = kvGet resetWord k s.regs := s.reg_setReg_other a k w (by omega)
  simp only [State.clock, clockOf, other 0x10014 (by decide) (by decide), other 0x10018 (by decide) (by decide),
    other 0x1001C (by decide) (by decide), other 0x10020 (by decide) (by decide)]

@[simp] theorem State.setReg_addr_clock (s : State) (f : Fld) (w : Word) (h : f.offClock = true) :
    (s.setReg f.addr w).clock = s.clock := State.setReg_clock s _ w h

@[simp] theorem State.set_clock (s : State) (f : Fld) (v : Nat) (h : f.offClock = true) :
    (s.set f v).clock = s.clock :=
  State.setReg_clock s _ _ h

@[simp] theorem State.setBit_clock (s : State) (f : Fld) (b : Bool) (h : f.offClock = true) :
    (s.setBit f b).clock = s.clock := State.set_clock s f _ h

@[simp] theorem State.bump_clock (s : State) (f : Fld) (n : Nat) (h : f.offClock = true) :
    (s.bump f n).clock = s.clock := State.set_clock s f _ h

@[simp] theorem State.raise_clock (s : State) (e : Ev) (h : e.offClock = true) : (s.raise e).clock = s.clock := by
  simp only [Ev.offClock, Bool.and_eq_true] at h
  obtain ⟨hf, hc⟩ := h
  rw [State.raise_eq, State.clock_of_regs (notifyAll_regs _ _), flagged]
  cases he : e.cnt with
  | none => exact State.set_clock s _ _ hf
  | some c =>
    rw [he] at hc
    exact (State.bump_clock _ c 1 hc).trans (State.set_clock s _ _ hf)

@[simp] theorem State.raiseIf_clock (s : State) (b : Bool) (e : Ev) (h : e.offClock = true) :
    (s.raiseIf b e).clock = s.clock := by
  cases b
  · rfl
  · exact State.raise_clock s e h

/-! ### The fields and events that lie off the clock -/

@[simp] theorem Reg.sysRolePubMaster_offClock : Reg.sysRolePubMaster.offClock = true := by decide
@[simp] theorem Reg.sysRoleRole_offClock : Reg.sysRoleRole.offClock = true := by decide
@[simp] theorem Reg.timStatusClass_offClock : Reg.timStatusClass.offClock = true := by decide
@[simp] theorem Reg.timStatusFault_offClock : Reg.timStatusFault.offClock = true := by decide
@[simp] theorem Reg.timStatusLeapKnown_offClock : Reg.timStatusLeapKnown.offClock = true := by decide
@[simp] theorem Reg.timStatusRunLock_offClock : Reg.timStatusRunLock.offClock = true := by decide
@[simp] theorem Reg.timStatusSlewing_offClock : Reg.timStatusSlewing.offClock = true := by decide
@[simp] theorem Reg.timStatusSource_offClock : Reg.timStatusSource.offClock = true := by decide
@[simp] theorem Reg.timStatusTickRole_offClock : Reg.timStatusTickRole.offClock = true := by decide
@[simp] theorem Reg.timStatusValid_offClock : Reg.timStatusValid.offClock = true := by decide
@[simp] theorem Reg.timEstErrErr_offClock : Reg.timEstErrErr.offClock = true := by decide
@[simp] theorem Reg.timHoldTimeSec_offClock : Reg.timHoldTimeSec.offClock = true := by decide
@[simp] theorem Reg.timTaiUtcKnown_offClock : Reg.timTaiUtcKnown.offClock = true := by decide
@[simp] theorem Reg.timTaiUtcLeap59_offClock : Reg.timTaiUtcLeap59.offClock = true := by decide
@[simp] theorem Reg.timTaiUtcLeap61_offClock : Reg.timTaiUtcLeap61.offClock = true := by decide
@[simp] theorem Reg.timTaiUtcOffset_offClock : Reg.timTaiUtcOffset.offClock = true := by decide
@[simp] theorem Reg.timArbOwnPrio_offClock : Reg.timArbOwnPrio.offClock = true := by decide
@[simp] theorem Reg.timSrcAgree_offClock (n : Nat) :
    (Reg.timSrcAgree n).offClock = true := offClock_above _ _ _ (by decide)
@[simp] theorem Reg.timSrcFine_offClock (n : Nat) :
    (Reg.timSrcFine n).offClock = true := offClock_above _ _ _ (by decide)
@[simp] theorem Reg.timSrcLocked_offClock (n : Nat) :
    (Reg.timSrcLocked n).offClock = true := offClock_above _ _ _ (by decide)
@[simp] theorem Reg.timSrcPrio_offClock (n : Nat) :
    (Reg.timSrcPrio n).offClock = true := offClock_above _ _ _ (by decide)
@[simp] theorem Reg.mbxSessDOutstanding_offClock (n : Nat) :
    (Reg.mbxSessDOutstanding n).offClock = true := offClock_above _ _ _ (by decide)
@[simp] theorem Reg.mbxSessOutstanding_offClock (n : Nat) :
    (Reg.mbxSessOutstanding n).offClock = true := offClock_above _ _ _ (by decide)
@[simp] theorem Reg.rcbCfgLog2Size_offClock (n : Nat) :
    (Reg.rcbCfgLog2Size n).offClock = true := offClock_above _ _ _ (by decide)
@[simp] theorem Reg.rcbProdProd_offClock (n : Nat) :
    (Reg.rcbProdProd n).offClock = true := offClock_above _ _ _ (by decide)
@[simp] theorem Reg.rcbConsCons_offClock (n : Nat) :
    (Reg.rcbConsCons n).offClock = true := offClock_above _ _ _ (by decide)
@[simp] theorem Reg.astStatusActive_offClock : Reg.astStatusActive.offClock = true := by decide
@[simp] theorem Reg.astStatusAligned_offClock : Reg.astStatusAligned.offClock = true := by decide
@[simp] theorem Reg.astStatusF060_offClock : Reg.astStatusF060.offClock = true := by decide
@[simp] theorem Reg.astStatusRefsValid_offClock : Reg.astStatusRefsValid.offClock = true := by decide
@[simp] theorem Reg.astCfgRevRev_offClock : Reg.astCfgRevRev.offClock = true := by decide
@[simp] theorem Reg.astStrState_offClock (n : Nat) :
    (Reg.astStrState n).offClock = true := offClock_above _ _ _ (by decide)
@[simp] theorem Reg.astRefFreqDf_offClock (n : Nat) :
    (Reg.astRefFreqDf n).offClock = true := offClock_above _ _ _ (by decide)
@[simp] theorem Reg.astRefRocofRf_offClock (n : Nat) :
    (Reg.astRefRocofRf n).offClock = true := offClock_above _ _ _ (by decide)
@[simp] theorem Reg.astRefStateValid_offClock (n : Nat) :
    (Reg.astRefStateValid n).offClock = true := offClock_above _ _ _ (by decide)
@[simp] theorem Reg.astPmuClients_offClock (n : Nat) :
    (Reg.astPmuClients n).offClock = true := offClock_above _ _ _ (by decide)
@[simp] theorem Reg.astPmuNoMacsec_offClock (n : Nat) :
    (Reg.astPmuNoMacsec n).offClock = true := offClock_above _ _ _ (by decide)
@[simp] theorem Reg.astPmuOn_offClock (n : Nat) : (Reg.astPmuOn n).offClock = true := offClock_above _ _ _ (by decide)
@[simp] theorem Reg.astPmuOutsideTested_offClock (n : Nat) :
    (Reg.astPmuOutsideTested n).offClock = true := offClock_above _ _ _ (by decide)
@[simp] theorem Reg.astPmuSending_offClock (n : Nat) :
    (Reg.astPmuSending n).offClock = true := offClock_above _ _ _ (by decide)
@[simp] theorem Reg.lspStatusActive_offClock : Reg.lspStatusActive.offClock = true := by decide
@[simp] theorem Reg.lspStatusArmed_offClock : Reg.lspStatusArmed.offClock = true := by decide
@[simp] theorem Reg.lspStatusClkDrive_offClock : Reg.lspStatusClkDrive.offClock = true := by decide
@[simp] theorem Reg.lspStatusLocked_offClock : Reg.lspStatusLocked.offClock = true := by decide
@[simp] theorem Reg.lspStatusPublishing_offClock : Reg.lspStatusPublishing.offClock = true := by decide
@[simp] theorem Reg.lspCfgRevRev_offClock : Reg.lspCfgRevRev.offClock = true := by decide
@[simp] theorem Reg.lspLaneCalValid_offClock (n : Nat) :
    (Reg.lspLaneCalValid n).offClock = true := offClock_above _ _ _ (by decide)
@[simp] theorem Reg.lspLaneState_offClock (n : Nat) :
    (Reg.lspLaneState n).offClock = true := offClock_above _ _ _ (by decide)
@[simp] theorem Reg.lspGrpArmed_offClock (n : Nat) :
    (Reg.lspGrpArmed n).offClock = true := offClock_above _ _ _ (by decide)
@[simp] theorem Reg.lspSubAlive_offClock (n : Nat) :
    (Reg.lspSubAlive n).offClock = true := offClock_above _ _ _ (by decide)
@[simp] theorem Reg.lspSubEnabled_offClock (n : Nat) :
    (Reg.lspSubEnabled n).offClock = true := offClock_above _ _ _ (by decide)
@[simp] theorem Reg.netStatusMacsecUp_offClock : Reg.netStatusMacsecUp.offClock = true := by decide
@[simp] theorem Reg.netStatusPair0Mode_offClock : Reg.netStatusPair0Mode.offClock = true := by decide
@[simp] theorem Reg.netStatusPair1Mode_offClock : Reg.netStatusPair1Mode.offClock = true := by decide
@[simp] theorem Reg.netStaDropLoDropLo_offClock : Reg.netStaDropLoDropLo.offClock = true := by decide
@[simp] theorem Reg.netStaDropHiDropHi_offClock : Reg.netStaDropHiDropHi.offClock = true := by decide
@[simp] theorem Reg.netCfgRevRev_offClock : Reg.netCfgRevRev.offClock = true := by decide
@[simp] theorem Reg.netPortEnabled_offClock (n : Nat) :
    (Reg.netPortEnabled n).offClock = true := offClock_above _ _ _ (by decide)
@[simp] theorem Reg.netPortMacsecUp_offClock (n : Nat) :
    (Reg.netPortMacsecUp n).offClock = true := offClock_above _ _ _ (by decide)
@[simp] theorem Reg.netPortMgmt_offClock (n : Nat) :
    (Reg.netPortMgmt n).offClock = true := offClock_above _ _ _ (by decide)
@[simp] theorem Reg.netPortMms_offClock (n : Nat) :
    (Reg.netPortMms n).offClock = true := offClock_above _ _ _ (by decide)
@[simp] theorem Reg.netPortRole_offClock (n : Nat) :
    (Reg.netPortRole n).offClock = true := offClock_above _ _ _ (by decide)
@[simp] theorem Reg.netGsubAlive_offClock (n : Nat) :
    (Reg.netGsubAlive n).offClock = true := offClock_above _ _ _ (by decide)
@[simp] theorem Reg.netGsubEnabled_offClock (n : Nat) :
    (Reg.netGsubEnabled n).offClock = true := offClock_above _ _ _ (by decide)
@[simp] theorem Reg.netGpubEnabled_offClock (n : Nat) :
    (Reg.netGpubEnabled n).offClock = true := offClock_above _ _ _ (by decide)
@[simp] theorem Reg.netGpubSending_offClock (n : Nat) :
    (Reg.netGpubSending n).offClock = true := offClock_above _ _ _ (by decide)
@[simp] theorem Reg.fioStatusAoReg_offClock : Reg.fioStatusAoReg.offClock = true := by decide
@[simp] theorem Reg.fioStatusDrive_offClock : Reg.fioStatusDrive.offClock = true := by decide
@[simp] theorem Reg.fioDiState_offClock : Reg.fioDiState.offClock = true := by decide
@[simp] theorem Reg.fioDoDrive_offClock : Reg.fioDoDrive.offClock = true := by decide
@[simp] theorem Reg.fioCfgRevRev_offClock : Reg.fioCfgRevRev.offClock = true := by decide
@[simp] theorem Reg.fioAoRegulating_offClock (n : Nat) :
    (Reg.fioAoRegulating n).offClock = true := offClock_above _ _ _ (by decide)
@[simp] theorem Reg.fioAoSetSet_offClock (n : Nat) :
    (Reg.fioAoSetSet n).offClock = true := offClock_above _ _ _ (by decide)
@[simp] theorem Reg.canStatusEnabled0_offClock : Reg.canStatusEnabled0.offClock = true := by decide
@[simp] theorem Reg.canStatusEnabled1_offClock : Reg.canStatusEnabled1.offClock = true := by decide
@[simp] theorem Reg.canStatusNormal0_offClock : Reg.canStatusNormal0.offClock = true := by decide
@[simp] theorem Reg.canStatusNormal1_offClock : Reg.canStatusNormal1.offClock = true := by decide
@[simp] theorem Reg.canCfgRevRev_offClock : Reg.canCfgRevRev.offClock = true := by decide
@[simp] theorem Reg.canCtrlFd_offClock (n : Nat) :
    (Reg.canCtrlFd n).offClock = true := offClock_above _ _ _ (by decide)
@[simp] theorem Reg.canCtrlLogLastSeq_offClock (n : Nat) :
    (Reg.canCtrlLogLastSeq n).offClock = true := offClock_above _ _ _ (by decide)
@[simp] theorem Reg.hhkTriadInStep_offClock : Reg.hhkTriadInStep.offClock = true := by decide
@[simp] theorem Reg.hhkTriadMasterRank_offClock : Reg.hhkTriadMasterRank.offClock = true := by decide
@[simp] theorem Reg.hhkPairStatusArmed_offClock : Reg.hhkPairStatusArmed.offClock = true := by decide
@[simp] theorem Reg.hhkPairStatusKillOut_offClock : Reg.hhkPairStatusKillOut.offClock = true := by decide
@[simp] theorem Reg.hhkPairStatusOwnHeld_offClock : Reg.hhkPairStatusOwnHeld.offClock = true := by decide
@[simp] theorem Reg.hhkPairStatusOwnLine_offClock : Reg.hhkPairStatusOwnLine.offClock = true := by decide
@[simp] theorem Reg.hhkPairStatusPeerRole_offClock : Reg.hhkPairStatusPeerRole.offClock = true := by decide
@[simp] theorem Reg.hhkPairResyncPhase_offClock : Reg.hhkPairResyncPhase.offClock = true := by decide
@[simp] theorem Reg.hhkPairCkptAgeMs_offClock (n : Nat) :
    (Reg.hhkPairCkptAgeMs n).offClock = true := offClock_above _ _ _ (by decide)
@[simp] theorem Reg.hhkPairCkptRunning_offClock (n : Nat) :
    (Reg.hhkPairCkptRunning n).offClock = true := offClock_above _ _ _ (by decide)
@[simp] theorem Reg.secTrialLeftSec_offClock : Reg.secTrialLeftSec.offClock = true := by decide
@[simp] theorem Reg.nvsLogSuppressed_offClock : Reg.nvsLogSuppressed.offClock = true := by decide
@[simp] theorem Reg.nvsLogSeqSeq_offClock : Reg.nvsLogSeqSeq.offClock = true := by decide
@[simp] theorem Reg.bkdStatusParkPending_offClock : Reg.bkdStatusParkPending.offClock = true := by decide
@[simp] theorem Reg.bkdStatusTrimmed_offClock : Reg.bkdStatusTrimmed.offClock = true := by decide
@[simp] theorem Reg.bkdSecLoSecLo_offClock : Reg.bkdSecLoSecLo.offClock = true := by decide
@[simp] theorem Reg.bkdSecHiSecHi_offClock : Reg.bkdSecHiSecHi.offClock = true := by decide
@[simp] theorem Reg.bkdFracFrac_offClock : Reg.bkdFracFrac.offClock = true := by decide
@[simp] theorem Reg.bkdAlarmHiArm_offClock : Reg.bkdAlarmHiArm.offClock = true := by decide
@[simp] theorem Reg.bkdWdWd_offClock : Reg.bkdWdWd.offClock = true := by decide
@[simp] theorem Reg.bkdPwrState_offClock : Reg.bkdPwrState.offClock = true := by decide
@[simp] theorem Reg.bkdPwrThermCnt_offClock : Reg.bkdPwrThermCnt.offClock = true := by decide
@[simp] theorem Reg.bkdPwrWakeCause_offClock : Reg.bkdPwrWakeCause.offClock = true := by decide
@[simp] theorem Reg.pwrUptimeSec_offClock : Reg.pwrUptimeSec.offClock = true := by decide

@[simp] theorem Ev.astConfigApplied_offClock : Ev.astConfigApplied.offClock = true := by decide
@[simp] theorem Ev.bkdAlarm_offClock : Ev.bkdAlarm.offClock = true := by decide
@[simp] theorem Ev.bkdParkAborted_offClock : Ev.bkdParkAborted.offClock = true := by decide
@[simp] theorem Ev.bkdSkipped_offClock : Ev.bkdSkipped.offClock = true := by decide
@[simp] theorem Ev.canConfigApplied_offClock : Ev.canConfigApplied.offClock = true := by decide
@[simp] theorem Ev.fioConfigApplied_offClock : Ev.fioConfigApplied.offClock = true := by decide
@[simp] theorem Ev.lspConfigApplied_offClock : Ev.lspConfigApplied.offClock = true := by decide
@[simp] theorem Ev.mbxClassLate_offClock : Ev.mbxClassLate.offClock = true := by decide
@[simp] theorem Ev.mbxRingFault_offClock : Ev.mbxRingFault.offClock = true := by decide
@[simp] theorem Ev.netConfigApplied_offClock : Ev.netConfigApplied.offClock = true := by decide
@[simp] theorem Ev.netMacsecDown_offClock : Ev.netMacsecDown.offClock = true := by decide
@[simp] theorem Ev.netStationChange_offClock : Ev.netStationChange.offClock = true := by decide
@[simp] theorem Ev.nvsLogSuppressed_offClock : Ev.nvsLogSuppressed.offClock = true := by decide
@[simp] theorem Ev.rcbBadDesc_offClock (n : Nat) : (Ev.rcbBadDesc n).offClock = true :=
  Bool.and_eq_true_iff.2 ⟨offClock_above _ _ _ (by decide), offClock_above _ _ _ (by decide)⟩
@[simp] theorem Ev.rcbOverflow_offClock (n : Nat) : (Ev.rcbOverflow n).offClock = true :=
  Bool.and_eq_true_iff.2 ⟨offClock_above _ _ _ (by decide), offClock_above _ _ _ (by decide)⟩
@[simp] theorem Ev.sysRoleChange_offClock : Ev.sysRoleChange.offClock = true := by decide
@[simp] theorem Ev.timClassChange_offClock : Ev.timClassChange.offClock = true := by decide
@[simp] theorem Ev.timRoleChange_offClock : Ev.timRoleChange.offClock = true := by decide
@[simp] theorem Ev.timSrcChange_offClock : Ev.timSrcChange.offClock = true := by decide
@[simp] theorem Ev.timSyncMiss_offClock : Ev.timSyncMiss.offClock = true := by decide
@[simp] theorem Ev.canTxFail0_offClock : Ev.canTxFail0.offClock = true := by decide
@[simp] theorem Ev.canTxFail1_offClock : Ev.canTxFail1.offClock = true := by decide

@[simp] theorem evTxFail_offClock (c : Nat) : (evTxFail c).offClock = true := by
  unfold evTxFail
  split <;> decide

/-! ### Updates that write no register -/

@[simp] theorem State.took_clock (s : State) : (s.took).clock = s.clock := State.clock_of_regs rfl
@[simp] theorem State.send_clock (s : State) (m : OutMsg) : (s.send m).clock = s.clock := State.clock_of_regs rfl
@[simp] theorem State.setByte_clock (s : State) (a : Nat) (b : Byte) :
    (s.setByte a b).clock = s.clock := State.clock_of_regs rfl
@[simp] theorem State.updProg_clock (s : State) (f : ProgSt → ProgSt) :
    (s.updProg f).clock = s.clock := State.clock_of_regs rfl
@[simp] theorem State.updLsp_clock (s : State) (f : LspSt → LspSt) :
    (s.updLsp f).clock = s.clock := State.clock_of_regs rfl
@[simp] theorem State.updNet_clock (s : State) (f : NetSt → NetSt) :
    (s.updNet f).clock = s.clock := State.clock_of_regs rfl
@[simp] theorem State.updAst_clock (s : State) (f : AstSt → AstSt) :
    (s.updAst f).clock = s.clock := State.clock_of_regs rfl
@[simp] theorem State.updFio_clock (s : State) (f : FioSt → FioSt) :
    (s.updFio f).clock = s.clock := State.clock_of_regs rfl
@[simp] theorem State.putEng_clock (s : State) (e : Nat) (g : Engine) :
    (s.putEng e g).clock = s.clock := State.clock_of_regs rfl
@[simp] theorem State.updTask_clock (s : State) (t : Nat) (f : TaskSt → TaskSt) :
    (s.updTask t f).clock = s.clock := State.clock_of_regs rfl
@[simp] theorem State.updCan_clock (s : State) (c : Nat) (f : CanCtl → CanCtl) :
    (s.updCan c f).clock = s.clock := State.clock_of_regs rfl
@[simp] theorem State.updSess_clock (s : State) (i : Nat) (f : Session → Session) :
    (s.updSess i f).clock = s.clock := State.clock_of_regs rfl
@[simp] theorem State.updStr_clock (s : State) (n : Nat) (f : StreamSt → StreamSt) :
    (s.updStr n f).clock = s.clock := State.clock_of_regs rfl
@[simp] theorem State.updSub_clock (s : State) (i : Nat) (f : GSub → GSub) :
    (s.updSub i f).clock = s.clock := State.clock_of_regs rfl
@[simp] theorem State.updObj_clock (s : State) (c o : Nat) (f : CanObj → CanObj) :
    (s.updObj c o f).clock = s.clock := State.clock_of_regs rfl
@[simp] theorem updSrc_clock (n : Nat) (f : SrcSt → SrcSt) (s : State) :
    (updSrc n f s).clock = s.clock := State.clock_of_regs rfl

/-! ### Elapsed time (18 R499, 19 R532) -/

@[simp] theorem State.setBkd_clock (s : State) (t : Nat) : (s.setBkd t).clock = s.clock := by
  simp [State.setBkd]

@[simp] theorem wakeFromPark_clock (cause : Nat) (s : State) : (wakeFromPark cause s).clock = s.clock := by
  unfold wakeFromPark
  split <;> simp

@[simp] theorem fireAlarm_clock (skipped : Bool) (s : State) : (fireAlarm skipped s).clock = s.clock := by
  simp [fireAlarm]

@[simp] theorem bkdAdvance_clock (n : Nat) (s : State) : (bkdAdvance n s).clock = s.clock := by
  simp [bkdAdvance]

@[simp] theorem elapse_clock (dt : Nat) (s : State) : (elapse dt s).clock = s.clock := by
  unfold elapse
  extract_lets ph bkd s1 s2 s3 s4 s5 s6 s7
  have h6 : s6.clock = s.clock := by simp [s6, s5, s4, s3, s2, s1]
  have h7 : s7.clock = s6.clock := foldl_clock _ (fun t n => by split <;> simp) _ _
  split <;> simp [h7, h6]

/-! ### The quality and the sources of the time (02 R43-R67) -/

@[simp] theorem refreshRunLock_clock (s : State) : (refreshRunLock s).clock = s.clock := by
  simp [refreshRunLock]

@[simp] theorem showPrio_clock (s : State) : (showPrio s).clock = s.clock := by
  simp [showPrio]

@[simp] theorem refreshQuality_clock (s : State) : (refreshQuality s).clock = s.clock := by
  unfold refreshQuality
  extract_lets q was s1 s2 time s3
  have h1 : s1.clock = s.clock := by simp [s1]
  have h2 : s2.clock = s1.clock := by simp [s2]
  have h3 : s3.clock = s2.clock := by simp [s3]
  simp [h3, h2, h1]

@[simp] theorem setTaiUtc_clock (known : Bool) (offset : Nat) (leap61 leap59 : Bool) (s : State) :
    (setTaiUtc known offset leap61 leap59 s).clock = s.clock := by
  simp [setTaiUtc]

@[simp] theorem refreshTai_clock (s : State) : (refreshTai s).clock = s.clock := by
  unfold refreshTai
  extract_lets src
  repeat' split
  all_goals simp

@[simp] theorem setSource_clock (n : Nat) (s : State) : (setSource n s).clock = s.clock := by
  simp [setSource]

@[simp] theorem enterHoldover_clock (s : State) : (enterHoldover s).clock = s.clock := by
  simp [enterHoldover]

@[simp] theorem leaveFollowed_clock (s : State) : (leaveFollowed s).clock = s.clock := by
  simp [leaveFollowed]

@[simp] theorem setOwnSource_clock (n : Nat) (s : State) : (setOwnSource n s).clock = s.clock := by
  simp [setOwnSource]

@[simp] theorem refreshSource_clock (s : State) : (refreshSource s).clock = s.clock := by
  simp [refreshSource]

@[simp] theorem setTickRole_clock (n : Nat) (s : State) : (setTickRole n s).clock = s.clock := by
  simp [setTickRole]

@[simp] theorem standForTick_clock (s : State) : (standForTick s).clock = s.clock := by
  simp [standForTick]

@[simp] theorem reviewTime_clock (s : State) : (reviewTime s).clock = s.clock := by
  simp [reviewTime]

@[simp] theorem setTimeFault_clock (bit : Nat) (b : Bool) (s : State) : (setTimeFault bit b s).clock = s.clock := by
  simp [setTimeFault]

@[simp] theorem syncMiss_clock (s : State) : (syncMiss s).clock = s.clock := by
  simp [syncMiss]

@[simp] theorem refreshAgree_clock (s : State) : (refreshAgree s).clock = s.clock := by
  unfold refreshAgree
  extract_lets sel near s1 all time s2
  have h1 : s1.clock = s.clock := by simp [s1]
  have h2 : s2.clock = s1.clock := State.clock_of_regs rfl
  simp [h2, h1]

@[simp] theorem unlock_clock (n : Nat) (s : State) : (unlock n s).clock = s.clock := by
  unfold unlock
  extract_lets s1 s2 time s3
  have h2 : s2.clock = s.clock := by simp [s2, s1]
  have h3 : s3.clock = s2.clock := by simp [s3]
  split
  · exact h3.trans h2
  · exact (enterHoldover_clock s3).trans (h3.trans h2)

@[simp] theorem switchTo_clock (n : Nat) (s : State) : (switchTo n s).clock = s.clock := by
  simp [switchTo]

@[simp] theorem selectSource_clock (s : State) : (selectSource s).clock = s.clock := by
  simp [selectSource]

@[simp] theorem applyTimeConfig_clock (s : State) : (applyTimeConfig s).clock = s.clock := by
  unfold applyTimeConfig
  split <;> simp

/-! ### Aster, Larkspur and the networks (06, 07, 08) -/

@[simp] theorem showPmus_clock (s : State) : (showPmus s).clock = s.clock := by
  simp [showPmus]

@[simp] theorem setStreaming_clock (mask on : Nat) (s : State) : (setStreaming mask on s).clock = s.clock := by
  simp [setStreaming]

@[simp] theorem streamingDue_clock (k : Nat) (s : State) : (streamingDue k s).clock = s.clock := by
  simp [streamingDue]

@[simp] theorem putConf_clock (o : Nat) (b : List Byte) (s : State) : (putConf o b s).clock = s.clock := by
  simp [putConf]

@[simp] theorem setMacsec_clock (port : Nat) (up : Bool) (s : State) : (setMacsec port up s).clock = s.clock := by
  simp [setMacsec]

@[simp] theorem loseMacsec_clock (port : Nat) (s : State) : (loseMacsec port s).clock = s.clock := by
  simp [loseMacsec]

@[simp] theorem showPort_clock (b : List Byte) (s : State) (n : Nat) : (showPort b s n).clock = s.clock := by
  simp [showPort]

@[simp] theorem putDropped_clock (m : Nat) (s : State) : (putDropped m s).clock = s.clock := by
  simp [putDropped]

@[simp] theorem markDropped_clock (j : Nat) (s : State) : (markDropped j s).clock = s.clock := by
  simp [markDropped]

@[simp] theorem reviewStation_clock (t : Nat) (s : State) (r : StationRow) :
    (reviewStation t s r).clock = s.clock := by
  unfold reviewStation
  extract_lets up down s1 net s2
  have h1 : s1.clock = s.clock := putDropped_clock _ s
  have h2 : s2.clock = s1.clock := State.clock_of_regs rfl
  split <;> simp [h2, h1]

@[simp] theorem reviewStationsAt_clock (t : Nat) (s : State) : (reviewStationsAt t s).clock = s.clock := by
  unfold reviewStationsAt
  split <;> simp

@[simp] theorem reviewStations_clock (s : State) : (reviewStations s).clock = s.clock := by
  simp [reviewStations]

@[simp] theorem showSending_clock (s : State) : (showSending s).clock = s.clock := by
  simp [showSending]

@[simp] theorem netApply_clock (b : List Byte) (s : State) : (netApply b s).clock = s.clock := by
  simp [netApply]

@[simp] theorem showRefs_clock (s : State) : (showRefs s).clock = s.clock := by
  simp [showRefs]

@[simp] theorem dropItems_clock (b : List Byte) (s : State) : (dropItems b s).clock = s.clock := by
  simp [dropItems]

@[simp] theorem applyStream_clock (old b : List Byte) (s : State) (n : Nat) :
    (applyStream old b s n).clock = s.clock := by
  simp [applyStream]

@[simp] theorem showAligned_clock (s : State) : (showAligned s).clock = s.clock := by
  simp [showAligned]

@[simp] theorem astApply_clock (k : Nat) (b : List Byte) (s : State) : (astApply k b s).clock = s.clock := by
  simp [astApply]

@[simp] theorem setArmed_clock (g : Nat) (b : Bool) (s : State) : (setArmed g b s).clock = s.clock := by
  simp [setArmed]

@[simp] theorem reformGroup_clock (g : Nat) (s : State) : (reformGroup g s).clock = s.clock := by
  simp [reformGroup]

@[simp] theorem showPublishing_clock (s : State) : (showPublishing s).clock = s.clock := by
  simp [showPublishing]

@[simp] theorem showCal_clock (s : State) : (showCal s).clock = s.clock := by
  simp [showCal]

@[simp] theorem showLspLanes_clock (s : State) : (showLspLanes s).clock = s.clock := by
  simp [showLspLanes]

@[simp] theorem lspApply_clock (b : List Byte) (s : State) : (lspApply b s).clock = s.clock := by
  simp [lspApply]

/-! ### Field stages and CAN (09, 10) -/

@[simp] theorem showStages_clock (s : State) : (showStages s).clock = s.clock := by
  unfold showStages
  extract_lets held keep s1 s2
  have hkeep (f : Fld) (v : Bool) (t : State) (h : f.offClock = true) : (keep f v t).clock = t.clock := by
    simp [keep, h]
  have h2 : s2.clock = s.clock := by simp [s2, s1, hkeep]
  rw [← h2]
  exact foldl_clock _ (fun t n => by split <;> simp [hkeep]) _ _

@[simp] theorem fioApply_clock (b : List Byte) (s : State) : (fioApply b s).clock = s.clock := by
  simp [fioApply]

@[simp] theorem canLog_clock (c time kind flags id obj reason bitPos : Nat) (data : List Byte) (s : State) :
    (canLog c time kind flags id obj reason bitPos data s).clock = s.clock := by
  simp [canLog]

@[simp] theorem canFail_clock (c o reason bitPos time : Nat) (esi : Bool) (s : State) :
    (canFail c o reason bitPos time esi s).clock = s.clock := by
  simp [canFail]

@[simp] theorem showCan_clock (s : State) : (showCan s).clock = s.clock := by
  simp [showCan]

@[simp] theorem canApply_clock (b : List Byte) (s : State) : (canApply b s).clock = s.clock := by
  simp [canApply]

/-! ### Settings and forces that fall due (04 R139) -/

@[simp] theorem applyObject_clock (k o : Nat) (b : List Byte) (s : State) :
    (applyObject k o b s).clock = s.clock := by
  unfold applyObject
  split <;> simp

@[simp] theorem configDue_clock (k : Nat) (s : State) : (configDue k s).clock = s.clock := by
  simp [configDue]

@[simp] theorem bumpConf_clock (o : Nat) (s : State) : (bumpConf o s).clock = s.clock := by
  simp [bumpConf]

@[simp] theorem forcesDue_clock (k : Nat) (s : State) : (forcesDue k s).clock = s.clock := by
  simp [forcesDue]

/-! ### The data of a unit and the log (04, 17) -/

@[simp] theorem State.setBytes_clock (s : State) (a : Nat) (l : List Byte) : (s.setBytes a l).clock = s.clock := by
  rw [State.setBytes_frame]
  exact State.clock_of_regs rfl

@[simp] theorem initInsts_clock (u : LoadUnit) (b : Nat) (s : State) : (initInsts u b s).clock = s.clock := by
  simp [initInsts]

@[simp] theorem putSym_clock (u : LoadUnit) (b : Nat) (y : SymRow) (bs : List Byte) (s : State) :
    (putSym u b y bs s).clock = s.clock := by
  unfold putSym
  split <;> simp

@[simp] theorem initData_clock (u : LoadUnit) (mode : Nat) (s : State) : (initData u mode s).clock = s.clock := by
  unfold initData
  split
  · rfl
  · rw [foldl_clock _ (fun t v => by split <;> simp), initInsts_clock]

@[simp] theorem nandWrite_clock (pool : Nat → Nat) (logical : Nat) (data : List Byte) (s : State) :
    (nandWrite pool logical data s).clock = s.clock := by
  simp [nandWrite]

@[simp] theorem nandPut_clock (p logical : Nat) (data : List Byte) (s : State) :
    (nandPut p logical data s).clock = s.clock := by
  simp [nandPut]

@[simp] theorem nandEntries_clock {α : Type} (base per wrap lo : Nat) (seqOf : α → Nat) (bytes : α → List Byte) (l :
    List α) (s : State) : (nandEntries base per wrap lo seqOf bytes l s).clock = s.clock := by
  simp [nandEntries]

@[simp] theorem flushLog_clock (s : State) : (flushLog s).clock = s.clock := by
  simp [flushLog]

@[simp] theorem logStore_clock (source severity code engine : Nat) (data : List Byte) (s : State) :
    (logStore source severity code engine data s).clock = s.clock := by
  simp [logStore]

@[simp] theorem logEvent_clock (source severity code engine : Nat) (data : List Byte) (s : State) :
    (logEvent source severity code engine data s).clock = s.clock := by
  simp [logEvent]

@[simp] theorem fwLog_clock (source : Nat) (data : List Byte) (s : State) :
    (fwLog source data s).clock = s.clock := by
  simp [fwLog]

@[simp] theorem logAge_clock (mode : Nat) (s : State) : (logAge mode s).clock = s.clock := by
  simp [logAge]

@[simp] theorem canRun_clock (s : State) : (canRun s).clock = s.clock := by
  simp [canRun]

theorem clock_lt_mpuAddr (m e : Nat) : 0x10020 < mpuAddr m e := by
  unfold mpuAddr
  omega

@[simp] theorem putMpu_clock (m ent base size rwx : Nat) (s : State) :
    (putMpu m ent base size rwx s).clock = s.clock := by
  have first (hi lo : Nat) : Fld.offClock ⟨mpuAddr m ent, hi, lo⟩ = true :=
    offClock_above 0 hi lo (clock_lt_mpuAddr m ent)
  have behind (k hi lo : Nat) : Fld.offClock ⟨mpuAddr m ent + k, hi, lo⟩ = true :=
    offClock_above k hi lo (clock_lt_mpuAddr m ent)
  simp [putMpu, entBase, entLimit, entPriv, entUser, entEnable, first, behind]

theorem clearEntry_clock (ent n : Nat) (s : State) (h : 0x10020 < ent) : (clearEntry ent n s).clock = s.clock :=
  foldl_clock _ (fun t i => State.setReg_clock t _ _ (by
    simp only [Bool.or_eq_true, decide_eq_true_eq]
    omega)) _ _

@[simp] theorem loadMpus_clock (u : LoadUnit) (s : State) : (loadMpus u s).clock = s.clock := by
  simp [loadMpus, clearEntry_clock, clock_lt_mpuAddr]

@[simp] theorem sizeRings_clock (u : LoadUnit) (s : State) : (sizeRings u s).clock = s.clock := by
  unfold sizeRings
  exact foldl_clock _ (fun t e => by simp) _ _

@[simp] theorem restEngines_clock (s : State) : (restEngines s).clock = s.clock := by
  simp [restEngines]

@[simp] theorem startProgram_clock (mode : Nat) (s : State) : (startProgram mode s).clock = s.clock := by
  unfold startProgram
  split <;> simp

/-! ### Messages to the members, rings and sessions (03, 11) -/

@[simp] theorem releaseKill_clock (slot : Nat) (s : State) : (releaseKill slot s).clock = s.clock := by
  simp [releaseKill]

@[simp] theorem sendBy_clock (ways : List Route) (kind : String) (seg : Nat) (data : List Nat) (s : State) :
    (sendBy ways kind seg data s).clock = s.clock := by
  simp [sendBy]

@[simp] theorem sendNumbered_clock (ways : List Route) (kind : String) (data : List Nat) (s : State) :
    (sendNumbered ways kind data s).clock = s.clock := by
  simp [sendNumbered]

@[simp] theorem toMember_clock (slot : Nat) (kind : String) (data : List Nat) (s : State) :
    (toMember slot kind data s).clock = s.clock := by
  simp [toMember]

@[simp] theorem peerRole_clock (slot r : Nat) (s : State) : (peerRole slot r s).clock = s.clock := by
  simp [peerRole]

@[simp] theorem toPeers_clock (kind : String) (data : List Nat) (s : State) :
    (toPeers kind data s).clock = s.clock := by
  simp [toPeers]

@[simp] theorem acceptJoin_clock (slot : Nat) (s : State) : (acceptJoin slot s).clock = s.clock := by
  simp [acceptJoin]

@[simp] theorem acceptDeferred_clock (s : State) : (acceptDeferred s).clock = s.clock := by
  simp [acceptDeferred]

@[simp] theorem endChange_clock (result : Nat) (s : State) : (endChange result s).clock = s.clock := by
  simp [endChange]

@[simp] theorem ringInterrupt_clock (n : Nat) (s : State) : (ringInterrupt n s).clock = s.clock := by
  simp [ringInterrupt]

@[simp] theorem ringCount_clock (n new : Nat) (s : State) : (ringCount n new s).clock = s.clock := by
  simp [ringCount]

@[simp] theorem ringFault_clock (e : Ev) (s : State) (h : e.offClock = true) : (ringFault e s).clock = s.clock := by
  simp [ringFault, h]

@[simp] theorem doorbell_clock (n newProd : Nat) (s : State) : (doorbell n newProd s).clock = s.clock := by
  simp [doorbell]

@[simp] theorem passDescriptors_clock (n count : Nat) (s : State) : (passDescriptors n count s).clock = s.clock := by
  simp [passDescriptors]

@[simp] theorem writeCons_clock (n cons : Nat) (s : State) : (writeCons n cons s).clock = s.clock := by
  simp [writeCons]

@[simp] theorem throughRing_clock (n : Nat) (d : List Byte) (s : State) : (throughRing n d s).clock = s.clock := by
  simp [throughRing]

@[simp] theorem carry_clock (n fam cmd seq flags status : Nat) (parts : List (List Byte)) (s : State) :
    (carry n fam cmd seq flags status parts s).clock = s.clock := by
  simp [carry]

@[simp] theorem carryAnswer_clock (m : OutMsg) (s : State) : (carryAnswer m s).clock = s.clock := by
  unfold carryAnswer
  split <;> simp

@[simp] theorem post_clock (m : OutMsg) (s : State) : (post m s).clock = s.clock := by
  simp [post]

@[simp] theorem respond_clock (i seq fam cmd status : Nat) (payload : List Byte) (s : State) :
    (respond i seq fam cmd status payload s).clock = s.clock := by
  simp [respond]

@[simp] theorem showOut_clock (i : Nat) (s : State) : (showOut i s).clock = s.clock := by
  simp [showOut]

@[simp] theorem finishD_clock (i : Nat) (o : Outst) (status : Nat) (payload : List Byte) (s : State) :
    (finishD i o status payload s).clock = s.clock := by
  simp [finishD]

@[simp] theorem finishAll_clock (fam cmd status : Nat) (payload : List Byte) (s : State) :
    (finishAll fam cmd status payload s).clock = s.clock := by
  simp [finishAll]

/-! ### The program starts, stops and is reviewed (04) -/

@[simp] theorem dropChange_clock (status : Nat) (s : State) : (dropChange status s).clock = s.clock := by
  simp [dropChange]

@[simp] theorem beginConf_clock (w : ConfWrite) (s : State) : (beginConf w s).clock = s.clock := by
  simp [beginConf]

@[simp] theorem saveRetain_clock (s : State) : (saveRetain s).clock = s.clock := by
  simp [saveRetain]

@[simp] theorem stopProgram_clock (s : State) : (stopProgram s).clock = s.clock := by
  simp [stopProgram]

@[simp] theorem runNamed_clock (n : Named) (s : State) : (runNamed n s).clock = s.clock := by
  unfold runNamed
  split <;> simp

@[simp] theorem runDue_clock (k : Nat) (s : State) : (runDue k s).clock = s.clock := by
  simp [runDue]

@[simp] theorem freshPool_clock (k : Nat) (s : State) : (freshPool k s).clock = s.clock := by
  simp [freshPool]

@[simp] theorem reviewLoad_clock (s : State) : (reviewLoad s).clock = s.clock := by
  unfold reviewLoad
  split
  · rfl
  · simp

@[simp] theorem startOwn_clock (s : State) : (startOwn s).clock = s.clock := by
  simp [startOwn, nameEvent]

@[simp] theorem tickProgram_clock (s : State) : (tickProgram s).clock = s.clock := by
  simp [tickProgram]

/-! ### Roles and ownership (11, 12) -/

@[simp] theorem recordOwn_clock (cause : Nat) (s : State) : (recordOwn cause s).clock = s.clock := by
  simp [recordOwn]

@[simp] theorem disarm_clock (s : State) : (disarm s).clock = s.clock := by
  simp [disarm]

@[simp] theorem ownRises_clock (s : State) : (ownRises s).clock = s.clock := by
  simp [ownRises]

@[simp] theorem stopSingletons_clock (s : State) : (stopSingletons s).clock = s.clock := by
  simp [stopSingletons]

@[simp] theorem portTx_clock (n : Nat) (kind : String) (d : List Nat) (s : State) :
    (portTx n kind d s).clock = s.clock := by
  simp [portTx]

@[simp] theorem netTx_clock (n : Nat) (kind : String) (d : List Nat) (s : State) :
    (netTx n kind d s).clock = s.clock := by
  simp [netTx]

@[simp] theorem closeClients_clock (s : State) : (closeClients s).clock = s.clock := by
  simp [closeClients]

@[simp] theorem clearSending_clock (s : State) : (clearSending s).clock = s.clock := by
  simp [clearSending]

@[simp] theorem canFailPending_clock (c reason : Nat) (except : Option Nat) (s : State) :
    (canFailPending c reason except s).clock = s.clock := by
  simp [canFailPending]

@[simp] theorem canRestrict_clock (s : State) : (canRestrict s).clock = s.clock := by
  simp [canRestrict]

@[simp] theorem setDrive_clock (d : Drive) (s : State) : (setDrive d s).clock = s.clock := by
  simp [setDrive]

@[simp] theorem gatesClose_clock (d : Drive) (s : State) : (gatesClose d s).clock = s.clock := by
  simp [gatesClose]

@[simp] theorem releaseOwn_clock (d : Drive) (s : State) : (releaseOwn d s).clock = s.clock := by
  simp [releaseOwn]

@[simp] theorem followRole_clock (s : State) : (followRole s).clock = s.clock := by
  simp [followRole]

@[simp] theorem reviewPairOk_clock (s : State) : (reviewPairOk s).clock = s.clock := by
  simp [reviewPairOk]

@[simp] theorem setRole_clock (r : Nat) (s : State) : (setRole r s).clock = s.clock := by
  simp [setRole]

@[simp] theorem enterRole_clock (r : Nat) (s : State) : (enterRole r s).clock = s.clock := by
  simp [enterRole]

@[simp] theorem resumeSingletons_clock (s : State) : (resumeSingletons s).clock = s.clock := by
  simp [resumeSingletons]

@[simp] theorem cancelHandover_clock (s : State) : (cancelHandover s).clock = s.clock := by
  simp [cancelHandover]

@[simp] theorem countMove_clock (s : State) : (countMove s).clock = s.clock := by
  simp [countMove]

@[simp] theorem followPeers_clock (s : State) : (followPeers s).clock = s.clock := by
  simp [followPeers]

@[simp] theorem reviewOwner_clock (s : State) : (reviewOwner s).clock = s.clock := by
  simp [reviewOwner]

@[simp] theorem taintRole_clock (s : State) : (taintRole s).clock = s.clock := by
  simp [taintRole]

@[simp] theorem showTriad_clock (s : State) : (showTriad s).clock = s.clock := by
  simp [showTriad]

@[simp] theorem tickRole_clock (s : State) : (tickRole s).clock = s.clock := by
  simp [tickRole]

/-! ### Subscriptions and ages -/

@[simp] theorem expireSub_clock (s : State) (i : Nat) : (expireSub s i).clock = s.clock := by
  simp [expireSub]

@[simp] theorem expireSubs_clock (s : State) : (expireSubs s).clock = s.clock := by
  simp [expireSubs]

@[simp] theorem showAges_clock (s : State) : (showAges s).clock = s.clock :=
  foldl_clock _ (fun t n => by split <;> simp) _ _

/-! ### The engines begin the frame (04) -/

@[simp] theorem applyForces_clock (e : Nat) (u : LoadUnit) (i : InstRow) (err : Bool) (s : State) :
    (applyForces e u i err s).clock = s.clock :=
  foldl_clock _ (fun t f => by
    split
    · rfl
    · split
      · split <;> simp
      · rfl) _ _

@[simp] theorem beginSegment_clock (e t seg : Nat) (s : State) : (beginSegment e t seg s).clock = s.clock := by
  unfold beginSegment
  repeat' split
  all_goals simp

@[simp] theorem startNext_clock (e : Nat) (l : List (Nat × Nat)) (s : State) : (startNext e l s).clock = s.clock := by
  induction l generalizing s with
  | nil => rfl
  | cons p r ih =>
    obtain ⟨t, seg⟩ := p
    simp [startNext, ih]

@[simp] theorem startEngine_clock (u : LoadUnit) (k : Nat) (runs : Bool) (s : State) (e : Nat) :
    (startEngine u k runs s e).clock = s.clock := by
  simp [startEngine]

@[simp] theorem startEngines_clock (k : Nat) (s : State) : (startEngines k s).clock = s.clock := by
  unfold startEngines
  extract_lets s1
  have h1 : s1.clock = s.clock := State.updProg_clock _ _
  split <;> simp [h1]

/-! ### The counter and its steps (02 R39, R60) -/

/-- The counter reads the same where the clock is the same. -/
theorem State.now_of_clock {s t : State} (h : t.clock = s.clock) : t.now = s.now := by
  simp only [State.clock, clockOf, Prod.mk.injEq] at h
  obtain ⟨hns, hlo, hhi, -⟩ := h
  simp only [State.now, State.seconds, State.get, State.reg, Reg.timNowNsNs, Reg.timNowSecLoSecLo,
    Reg.timNowSecHiSecHi, hns, hlo, hhi]

/-- TIM_FRAME reads the same where the clock is the same. -/
theorem State.frameK_of_clock {s t : State} (h : t.clock = s.clock) : t.get Reg.timFrameK = s.get Reg.timFrameK := by
  simp only [State.clock, clockOf, Prod.mk.injEq] at h
  obtain ⟨-, -, -, hk⟩ := h
  simp only [State.get, State.reg, Reg.timFrameK, hk]

/-- A second holds 4000 whole frames, so T0 is the last multiple of 250 us that the counter has reached. -/
theorem State.t0_eq (s : State) : s.t0 = s.now / 250000 * 250000 := by
  simp only [State.t0, nsPerS, frameNs]
  omega

/-- The counter reads what was loaded into it, up to the last second of its range. -/
theorem State.now_setNow (s : State) (t : Nat) (h : t < 2 ^ 48 * 1000000000) : (s.setNow t).now = t := by
  have hns : (s.setNow t).get Reg.timNowNsNs = t % 1000000000 % 2 ^ 32 := by
    unfold State.setNow
    rw [State.get_set_apart _ _ _ _ (by decide) (by decide), State.get_set_apart _ _ _ _ (by decide) (by decide)]
    exact State.get_set_same _ _ _ (by decide)
  have hlo : (s.setNow t).get Reg.timNowSecLoSecLo = t / 1000000000 % 2 ^ 32 := by
    unfold State.setNow
    rw [State.get_set_apart _ _ _ _ (by decide) (by decide)]
    exact State.get_set_same _ _ _ (by decide)
  have hhi : (s.setNow t).get Reg.timNowSecHiSecHi = t / 1000000000 / 2 ^ 32 % 2 ^ 16 :=
    State.get_set_same _ _ _ (by decide)
  simp only [State.now, State.seconds, hns, hlo, hhi, nsPerS]
  omega

theorem toSigned_bounds (v : Nat) : -2147483648 ≤ toSigned 32 v ∧ toSigned 32 v < 2147483648 := by
  unfold toSigned
  extract_lets m
  have hm : m < 4294967296 := Nat.mod_lt _ (by decide)
  split <;> omega

/-- TIM_RATE_ADJ is a signed 32-bit number, so a TIME cycle adds from 1.5 ns to less than 2.5 ns. -/
theorem cycleStep_bounds (s : State) : 6442450944 ≤ cycleStep s ∧ cycleStep s < 10737418240 := by
  have h : -2147483648 ≤ s.getInt Reg.timRateAdjRate ∧ s.getInt Reg.timRateAdjRate < 2147483648 :=
    toSigned_bounds (s.get Reg.timRateAdjRate)
  unfold cycleStep
  omega

/-- The cycles to an instant end in the one that first reaches or passes it. -/
theorem cyclesTo_reaches (t : Nat) (s : State) (h : s.now < t) (hf : s.time.frac < 2 ^ 32) :
    t * 4294967296 ≤ s.now * 4294967296 + s.time.frac + cyclesTo t s * cycleStep s ∧
    s.now * 4294967296 + s.time.frac + cyclesTo t s * cycleStep s < t * 4294967296 + cycleStep s := by
  have hstep := (cycleStep_bounds s).1
  unfold cyclesTo
  generalize cycleStep s = c at *
  have hd := Nat.div_add_mod (t * 4294967296 - (s.now * 4294967296 + s.time.frac) + c - 1) c
  have hm := Nat.mod_lt (t * 4294967296 - (s.now * 4294967296 + s.time.frac) + c - 1) (by omega : 0 < c)
  rw [Nat.mul_comm c] at hd
  omega

/-- The counter that runs to an instant stops at most 2 whole ns past it. -/
theorem advanceTo_now (t : Nat) (s : State) (h : s.now ≤ t) (hf : s.time.frac < 2 ^ 32)
    (ht : t + 2 < 2 ^ 48 * 1000000000) : t ≤ (advanceTo t s).now ∧ (advanceTo t s).now ≤ t + 2 := by
  unfold advanceTo
  split
  · next hlt =>
    obtain ⟨hreach, hpass⟩ := cyclesTo_reaches t s hlt hf
    have hstep := (cycleStep_bounds s).2
    unfold runCycles
    extract_lets v t' time
    have ht' : t ≤ t' ∧ t' ≤ t + 2 := by omega
    rw [State.now_of_clock (elapse_clock _ _), State.now_setNow _ _ (by omega)]
    exact ht'
  · omega

/-! ### The tick (00 R14, 02 R60) -/

/-- The instant T0 of the frame that the next tick begins. -/
def nextT0 (s : State) : Nat := if s.time.ticked then s.t0 + frameNs else (s.now + frameNs - 1) / frameNs * frameNs

theorem frameOf_lt (t : Nat) : frameOf t < 4000 := by
  simp only [frameOf, nsPerS, frameNs]
  omega

/-- A write of TIM_FRAME leaves the counter. -/
theorem State.now_setFrameK (s : State) (k : Nat) : (s.set Reg.timFrameK k).now = s.now := by
  have apart (f : Fld) (h : Reg.timFrameK.apart f = true) : (s.set Reg.timFrameK k).get f = s.get f :=
    State.get_set_apart s _ f k (by decide) h
  simp only [State.now, State.seconds, apart Reg.timNowNsNs (by decide), apart Reg.timNowSecLoSecLo (by decide),
    apart Reg.timNowSecHiSecHi (by decide)]

/-- TIM_FRAME holds every frame number of a second. -/
theorem State.get_setFrameK (s : State) (t : Nat) : (s.set Reg.timFrameK (frameOf t)).get Reg.timFrameK = frameOf t := by
  have hk : (s.set Reg.timFrameK (frameOf t)).get Reg.timFrameK = frameOf t % 2 ^ 12 :=
    State.get_set_same _ _ _ (by decide)
  have hlt := frameOf_lt t
  omega

/-- The tick runs the counter to the next T0 and then writes TIM_FRAME; the rest of it keeps the clock. -/
theorem tickTime_clock (s : State) : ∃ t : State, t.now = (advanceTo (nextT0 s) s).now ∧
    (tickTime s).clock = (t.set Reg.timFrameK (frameOf t.now)).clock := by
  unfold tickTime nextT0
  extract_lets next missed s1 time s2 s3 s4 s5
  have h2 : s2.clock = s1.clock := by simp [s2]
  have h3 : s3.clock = (s2.set Reg.timFrameK (frameOf s2.now)).clock := refreshRunLock_clock _
  have h4 : s4.clock = s3.clock := by simp [s4]
  have h5 : s5.clock = s4.clock := by simp [s5]
  exact ⟨s2, State.now_of_clock h2, by rw [refreshQuality_clock, applyTimeConfig_clock, h5, h4, h3]⟩

theorem tickTime_now (s : State) : (tickTime s).now = (advanceTo (nextT0 s) s).now := by
  obtain ⟨t, hnow, hclock⟩ := tickTime_clock s
  rw [State.now_of_clock hclock, State.now_setFrameK, hnow]

theorem tickTime_frameK (s : State) : (tickTime s).get Reg.timFrameK = frameOf (tickTime s).now := by
  obtain ⟨t, -, hclock⟩ := tickTime_clock s
  rw [State.frameK_of_clock hclock, State.get_setFrameK, State.now_of_clock hclock, State.now_setFrameK]

/-- What TICK does after the tick itself keeps the clock. -/
theorem execTick_clock (s : State) : ∃ t, execTick s = .next t ∧ t.clock = (tickTime s).clock := by
  refine ⟨_, rfl, ?_⟩
  extract_lets s1 k pwr s2 s3 s4
  have h2 : s2.clock = s1.clock := by simp [s2]
  simp [s4, s3, h2, s1]

/-- The next T0 is a multiple of 250 us, not before the counter and at most one frame after it; past the first tick
it is that of the frame after the one in progress. -/
theorem nextT0_spec (s : State) :
    nextT0 s % 250000 = 0 ∧ s.now ≤ nextT0 s ∧ nextT0 s ≤ s.now + 250000 ∧
    (s.time.ticked = true → nextT0 s / 250000 = s.now / 250000 + 1) := by
  unfold nextT0
  split
  · rw [State.t0_eq, frameNs]
    omega
  · next h =>
    simp only [frameNs]
    exact ⟨by omega, by omega, by omega, fun hticked => absurd hticked h⟩

/-- Settles O30: TICK runs the counter to the next T0, a multiple of 250 us, of which a second holds 4000, and shows
its frame; what follows the tick keeps both. -/
theorem framesBeginOnMultiplesOf250Us : Obligations.FramesBeginOnMultiplesOf250Us := by
  unfold Obligations.FramesBeginOnMultiplesOf250Us
  intro s hs hf
  obtain ⟨t, hexec, hclock⟩ := execTick_clock s
  obtain ⟨hmul, hle, hnear, hnext⟩ := nextT0_spec s
  obtain ⟨hlo, hhi⟩ := advanceTo_now (nextT0 s) s hle hf (by omega)
  have hnow : t.now = (advanceTo (nextT0 s) s).now := (State.now_of_clock hclock).trans (tickTime_now s)
  have hframe : t.get Reg.timFrameK = frameOf t.now := by
    rw [State.frameK_of_clock hclock, tickTime_frameK, State.now_of_clock hclock]
  rw [← hnow] at hlo hhi
  have ht0 : t.t0 = nextT0 s := by
    rw [State.t0_eq]
    omega
  refine ⟨t, hexec, ?_⟩
  dsimp only
  rw [hframe, ht0]
  simp only [frameOf, nsPerS, frameNs]
  refine ⟨by omega, by omega, hlo, hhi, hnear, by omega, fun hticked hlast => ?_, fun hticked hlast => ?_⟩
  · have := hnext hticked
    omega
  · have := hnext hticked
    omega

end Sys2Proof.Machine
end

section
/-! SUPPORT. The registers that the events of a unit write (01 R24; 00 R9, R10). A row that carries an instant first runs
the TIME counter to it (`arrive`), so that it writes the registers of the timebase whatever unit it belongs to. -/

namespace Sys2Proof.Machine

/-- A frame on the CAN bus whose start lies at 1 us. -/
def frameAt1us : CanFrame := ⟨0, 0, [], 1000, 0, 0⟩

/-- At a controller off the bus, all that a frame brings is the time at which it starts. -/
theorem execCanFrameRx_offBus (c : Nat) (f : CanFrame) (s : State) (h : canOnBus c (arrive f.sof s) = false) :
    execCanFrameRx c f s = .next (arrive f.sof s) := by
  simp [execCanFrameRx, h]

/-- The TIME counter is shown by registers of block 1 (02 R72). -/
theorem State.now_of_timeBlock {s t : State} (h : ∀ n, n / 0x10000 = 1 → t.reg n = s.reg n) : t.now = s.now := by
  simp [State.now, State.seconds, State.get, Reg.timNowSecHiSecHi, Reg.timNowSecLoSecLo, Reg.timNowNsNs, h]

/-- Refutes O5: a CAN frame that starts at 1 us runs the TIME counter of the reset state to 1 us, so CAN_FRAME_RX writes
the TIM_NOW registers of block 1 besides those of the CAN controllers' block 7. -/
theorem not_commandsKeepToTheirUnitsBlocks : ¬ Obligations.CommandsKeepToTheirUnitsBlocks := by
  unfold Obligations.CommandsKeepToTheirUnitsBlocks
  intro h
  have hoff : canOnBus 0 (arrive frameAt1us.sof State.reset) = false := by decide +kernel
  have hzero : State.reset.now = 0 := by decide +kernel
  obtain ⟨-, -, -, -, hregs⟩ := h State.reset (arrive frameAt1us.sof State.reset) 0 0 0 0 false false 0 0 []
    ⟨0, 0, 0, 0, 0, 0, 0, false, false⟩ ⟨⟨0, 0, 0, false, false, 0, 0, none⟩, .other⟩ frameAt1us
    (.canFrameRx 0 frameAt1us) [7] (by simp) (by decide) (execCanFrameRx_offBus _ _ _ hoff)
  have hkept : (arrive frameAt1us.sof State.reset).now = State.reset.now :=
    State.now_of_timeBlock fun n hn => hregs n (by simp [hn])
  have hran : 1000 ≤ (advanceTo 1000 State.reset).now :=
    (advanceTo_now 1000 State.reset (by omega) (by decide) (by norm_num)).1
  have harrive : arrive frameAt1us.sof State.reset = advanceTo 1000 State.reset := rfl
  rw [harrive, hzero] at hkept
  omega

end Sys2Proof.Machine
end

section
/-! SUPPORT. The canonical form of registers and memory (01 R24; 15 R429) as a predicate, with the rules for the ways in
which the model builds its results. The register file and the memory change in few places only: `State.setReg` and
`State.setByte`, the three resets that drop registers, `mapRegs`, `dropDram` and COLD_RESET. Every other function of the
model is composed of functions that keep the form. So each function `f` of the model that answers a state has one lemma
`State.Canon.f` whose proof follows the definition of `f`: a call of `g` is a step `.g`, an `if` is `.ite`, a `foldl` is
`.foldl`, an update of the fields other than `regs` and `mem` is `.upd`, and a `match` is a `split`. -/

namespace Sys2Proof.Machine

/-- The register file and the memory are in canonical form. -/
structure State.Canon (s : State) : Prop where
  regs : regsWf s = true
  mem : memWf s = true

theorem State.canon_iff (s : State) : s.Canon ↔ s.canonical :=
  ⟨fun h => ⟨h.regs, h.mem⟩, fun ⟨hregs, hmem⟩ => ⟨hregs, hmem⟩⟩

/-- What a command answers next is in canonical form. -/
def Out.Canon (o : Out) : Prop := ∀ t, o = .next t → t.Canon

/-- The state that an instruction of Petal leaves is in canonical form. -/
def PRes.Canon : PRes → Prop
  | .ok _ t => t.Canon
  | .fault _ _ => True

/-- The state that a command's effect leaves is in canonical form. -/
def Reply.Canon : Reply → Prop
  | .ok t _ => t.Canon
  | .err t _ _ => t.Canon
  | .later t => t.Canon

variable {s : State}

/-! ### Answers -/

theorem Out.Canon.next (h : s.Canon) : Out.Canon (.next s) := fun _ ht => by
  injection ht with ht
  exact ht ▸ h

theorem Reply.Canon.ok (h : s.Canon) {p} : (Reply.ok s p).Canon := h

theorem Reply.Canon.err (h : s.Canon) {st d} : (Reply.err s st d).Canon := h

theorem Reply.Canon.later (h : s.Canon) : (Reply.later s).Canon := h

theorem PRes.Canon.ok (h : s.Canon) {g} : (PRes.ok g s).Canon := h

theorem PRes.Canon.fault {c hard} : (PRes.fault c hard).Canon := trivial

/-! ### Branches -/

theorem Reply.Canon.ite {c : Prop} [Decidable c] {a b : Reply} (ha : a.Canon) (hb : b.Canon) :
    (if c then a else b).Canon := by
  split <;> assumption

theorem PRes.Canon.ite {c : Prop} [Decidable c] {a b : PRes} (ha : a.Canon) (hb : b.Canon) :
    (if c then a else b).Canon := by
  split <;> assumption

theorem State.Canon.ite {c : Prop} [Decidable c] {t : State} (hs : s.Canon) (ht : t.Canon) :
    (if c then s else t).Canon := by
  split <;> assumption

theorem State.Canon.iteSnd {β : Type} {c : Prop} [Decidable c] {p q : β × State} (hp : p.2.Canon) (hq : q.2.Canon) :
    (if c then p else q).2.Canon := by
  split <;> assumption

/-! ### Folds -/

theorem State.Canon.foldl {α : Type} {f : State → α → State} {l : List α} (h : s.Canon)
    (hf : ∀ s x, s.Canon → (f s x).Canon) : (l.foldl f s).Canon := by
  induction l generalizing s with
  | nil => exact h
  | cons x r ih => exact ih (hf s x h)

theorem State.Canon.foldlSnd {α β : Type} {f : β × State → α → β × State} {l : List α} {q : β × State}
    (hf : ∀ q x, q.2.Canon → (f q x).2.Canon) (h : q.2.Canon) : (l.foldl f q).2.Canon := by
  induction l generalizing q with
  | nil => exact h
  | cons x r ih => exact ih (hf q x h)

theorem State.Canon.foldlFst {α β : Type} {f : State × β → α → State × β} {l : List α} {q : State × β}
    (hf : ∀ q x, q.1.Canon → (f q x).1.Canon) (h : q.1.Canon) : (l.foldl f q).1.Canon := by
  induction l generalizing q with
  | nil => exact h
  | cons x r ih => exact ih (hf q x h)

/-! ### Writes -/

theorem State.Canon.upd (h : s.Canon) {mono freeCtr outbox time mbx pair hhk nvs memi gate fio can cfg ast lsp net prog
    sec pwr bkd pending} : (State.mk s.regs s.mem mono freeCtr outbox time mbx pair hhk nvs memi gate fio can cfg ast lsp
      net prog sec pwr bkd pending).Canon :=
  ⟨h.regs, h.mem⟩

protected theorem State.Canon.setReg (h : s.Canon) {a w} : (s.setReg a w).Canon := ⟨kvPut_wf _ _ _ _ h.regs, h.mem⟩

protected theorem State.Canon.setByte (h : s.Canon) {a w} : (s.setByte a w).Canon := ⟨h.regs, kvPut_wf _ _ _ _ h.mem⟩

protected theorem State.Canon.setBytes (h : s.Canon) {a l} : (s.setBytes a l).Canon := by
  induction l generalizing s a with
  | nil => exact h
  | cons b r ih => exact ih h.setByte

/-- A register file put together again entry by entry is in canonical form, whatever the entries become. -/
theorem kvWf_foldl_kvPut {f : Nat × Word → Word} (l : List (Nat × Word)) {m : List (Nat × Word)}
    (h : kvWf resetWord m = true) : kvWf resetWord (l.foldl (fun m r => kvPut resetWord r.1 (f r) m) m) = true := by
  induction l generalizing m with
  | nil => exact h
  | cons x r ih => exact ih (kvPut_wf _ _ _ _ h)

end Sys2Proof.Machine
end

section
/-! SUPPORT. Canonical form is kept by what every meaning uses: registers, event flags, memory, the TIME counter, the
NAND array, the event log, the output stages and the roles. -/

namespace Sys2Proof.Machine

variable {s : State}

/-! ### Machine/Ops -/

protected theorem State.Canon.set {f v} (h : s.Canon) : (State.set s f v).Canon := by
  unfold Machine.State.set
  exact h.setReg

protected theorem State.Canon.setBit {f b} (h : s.Canon) : (State.setBit s f b).Canon := by
  unfold Machine.State.setBit
  exact h.set

protected theorem State.Canon.setInt {f v} (h : s.Canon) : (State.setInt s f v).Canon := by
  unfold Machine.State.setInt
  exact h.set

protected theorem State.Canon.bump {f n} (h : s.Canon) : (State.bump s f n).Canon := by
  unfold Machine.State.bump
  exact h.set

protected theorem State.Canon.wrapUp {f n} (h : s.Canon) : (State.wrapUp s f n).Canon := by
  unfold Machine.State.wrapUp
  exact h.set

protected theorem State.Canon.maxTo {f v} (h : s.Canon) : (State.maxTo s f v).Canon := by
  unfold Machine.State.maxTo
  exact .ite h.set h

protected theorem State.Canon.took (h : s.Canon) : (State.took s).Canon := by
  unfold Machine.State.took
  exact h.upd

protected theorem State.Canon.send {m} (h : s.Canon) : (State.send s m).Canon := by
  unfold Machine.State.send
  exact h.upd

protected theorem State.Canon.setNow {t} (h : s.Canon) : (State.setNow s t).Canon := by
  unfold Machine.State.setNow
  exact h.set.set.set

protected theorem State.Canon.notifyOne {b addr i} (h : s.Canon) : (notifyOne b addr s i).Canon := by
  unfold Machine.notifyOne
  split
  exacts [h, .ite h (.ite h.upd h.upd)]

protected theorem State.Canon.notifyAll {addr} (h : s.Canon) : (notifyAll addr s).Canon := by
  unfold Machine.notifyAll
  exact h.foldl fun _ _ h => h.notifyOne

protected theorem State.Canon.raise {e} (h : s.Canon) : (State.raise s e).Canon := by
  unfold Machine.State.raise
  refine .notifyAll ?_
  split
  exacts [h.set.bump, h.set]

protected theorem State.Canon.raiseIf {b e} (h : s.Canon) : (State.raiseIf s b e).Canon := by
  unfold Machine.State.raiseIf
  exact .ite h.raise h

/-! ### Machine/Nand -/

protected theorem State.Canon.nandWrite {pool logical data} (h : s.Canon) :
    (nandWrite pool logical data s).Canon := by
  unfold Machine.nandWrite
  exact h.upd

protected theorem State.Canon.nandPut {p logical data} (h : s.Canon) : (nandPut p logical data s).Canon := by
  unfold Machine.nandPut
  exact .ite h h.nandWrite

protected theorem State.Canon.nandConf {o data} (h : s.Canon) : (nandConf o data s).Canon := by
  unfold Machine.nandConf
  exact h.nandPut.nandPut

protected theorem State.Canon.nandBoot {off data} (h : s.Canon) : (nandBoot off data s).Canon := by
  unfold Machine.nandBoot
  exact h.nandPut.nandPut

protected theorem State.Canon.nandArch {recId data} (h : s.Canon) : (nandArch recId data s).Canon := by
  unfold Machine.nandArch
  exact h.nandWrite

protected theorem State.Canon.nandForget {recId} (h : s.Canon) : (nandForget recId s).Canon := by
  unfold Machine.nandForget
  exact h.upd

protected theorem State.Canon.nandEntries {α : Type} {base per wrap lo} {seqOf : α → Nat} {bytes l} (h : s.Canon) :
    (nandEntries base per wrap lo seqOf bytes l s).Canon := by
  unfold Machine.nandEntries
  exact h.foldl fun _ _ h => h.nandPut.nandPut

protected theorem State.Canon.storeOffset {p i off} (h : s.Canon) : (storeOffset p i off s).Canon := by
  unfold Machine.storeOffset
  exact h.nandPut.nandPut

protected theorem State.Canon.updNand {f} (h : s.Canon) : (updNand f s).Canon := by
  unfold Machine.updNand
  exact h.upd

protected theorem State.Canon.showWear (h : s.Canon) : (showWear s).Canon := by
  unfold Machine.showWear
  exact h.foldl fun _ _ h => h.set.set

/-! ### Machine/EventLog -/

protected theorem State.Canon.flushLog (h : s.Canon) : (flushLog s).Canon := by
  unfold Machine.flushLog
  exact .ite h h.upd

protected theorem State.Canon.logStore {source severity code engine data} (h : s.Canon) :
    (logStore source severity code engine data s).Canon := by
  unfold Machine.logStore
  exact .set (.ite h.upd.flushLog h.upd)

protected theorem State.Canon.logEvent {source severity code engine data} (h : s.Canon) :
    (logEvent source severity code engine data s).Canon := by
  unfold Machine.logEvent
  exact .ite h.logStore (.ite h.upd.bump.raise (.ite h.upd.logStore h.upd.upd.took.logStore.logStore))

protected theorem State.Canon.fwLog {source data} (h : s.Canon) : (fwLog source data s).Canon := by
  unfold Machine.fwLog
  exact h.took.logEvent

protected theorem State.Canon.lifetimeAdd {kind data} (h : s.Canon) : (lifetimeAdd kind data s).Canon := by
  unfold Machine.lifetimeAdd
  exact .ite h (.ite h h.upd.nandEntries.set)

/-! ### Machine/Outputs -/

protected theorem State.Canon.portTx {n kind d} (h : s.Canon) : (portTx n kind d s).Canon := by
  unfold Machine.portTx
  exact .ite h.send h

protected theorem State.Canon.netTx {n kind d} (h : s.Canon) : (netTx n kind d s).Canon := by
  unfold Machine.netTx
  exact .ite h.upd.portTx.portTx h.portTx

protected theorem State.Canon.clearSending (h : s.Canon) : (clearSending s).Canon := by
  unfold Machine.clearSending
  exact .foldl (h.foldl fun _ _ h => h.setBit) fun _ _ h => .ite h.setBit h

protected theorem State.Canon.closeClients (h : s.Canon) : (closeClients s).Canon := by
  unfold Machine.closeClients
  exact h.foldl fun _ _ h => .ite h h.set.setBit.netTx

protected theorem State.Canon.updFio {f} (h : s.Canon) : (State.updFio s f).Canon := by
  unfold Machine.State.updFio
  exact h.upd

protected theorem State.Canon.showStages (h : s.Canon) : (showStages s).Canon := by
  unfold Machine.showStages
  exact h.setBit.setBit.set.foldl fun _ _ h => .ite h.setBit h.setBit.updFio.set

protected theorem State.Canon.setDrive {d} (h : s.Canon) : (setDrive d s).Canon := by
  unfold Machine.setDrive
  exact h.updFio.showStages

protected theorem State.Canon.showPublishing (h : s.Canon) : (showPublishing s).Canon := by
  unfold Machine.showPublishing
  exact h.setBit

protected theorem State.Canon.updCan {c f} (h : s.Canon) : (State.updCan s c f).Canon := by
  unfold Machine.State.updCan
  exact h.upd

protected theorem State.Canon.updObj {c o f} (h : s.Canon) : (State.updObj s c o f).Canon := by
  unfold Machine.State.updObj
  exact h.updCan

protected theorem State.Canon.canLog {c time kind flags id obj reason bitPos data} (h : s.Canon) :
    (canLog c time kind flags id obj reason bitPos data s).Canon := by
  unfold Machine.canLog
  exact h.updCan.set

protected theorem State.Canon.writeMemByte {a b} (h : s.Canon) : (writeMemByte a b s).Canon := by
  unfold Machine.writeMemByte
  split
  exacts [h.setByte, h.updCan]

protected theorem State.Canon.writeMem {a l} (h : s.Canon) : (writeMem a l s).Canon := by
  induction l generalizing s a with
  | nil => exact h
  | cons b r ih => exact ih h.writeMemByte

protected theorem State.Canon.canFail {c o reason bitPos time esi} (h : s.Canon) :
    (canFail c o reason bitPos time esi s).Canon := by
  unfold Machine.canFail
  exact h.updObj.canLog.raise

protected theorem State.Canon.canFailPending {c reason except} (h : s.Canon) :
    (canFailPending c reason except s).Canon := by
  unfold Machine.canFailPending
  exact h.foldl fun _ _ h => .ite h.canFail h

protected theorem State.Canon.canRestrict (h : s.Canon) : (canRestrict s).Canon := by
  unfold Machine.canRestrict
  exact .setBit (.setBit (h.foldl fun _ _ h => h.canFailPending))

/-! ### Machine/Roles -/

protected theorem State.Canon.setRole {r} (h : s.Canon) : (setRole r s).Canon := by
  unfold Machine.setRole
  exact .ite h h.set.raise

protected theorem State.Canon.gatesOpen (h : s.Canon) : (gatesOpen s).Canon := by
  unfold Machine.gatesOpen
  exact h.setDrive.setBit

protected theorem State.Canon.gatesClose {d} (h : s.Canon) : (gatesClose d s).Canon := by
  unfold Machine.gatesClose
  exact h.setDrive.setBit.canRestrict.clearSending.upd

protected theorem State.Canon.stopSingletons (h : s.Canon) : (stopSingletons s).Canon := by
  unfold Machine.stopSingletons
  exact .showPublishing (h.foldl fun _ _ h => h.setBit)

protected theorem State.Canon.disarm (h : s.Canon) : (disarm s).Canon := by
  unfold Machine.disarm
  exact h.upd.setBit

protected theorem State.Canon.ownRises (h : s.Canon) : (ownRises s).Canon := by
  unfold Machine.ownRises
  exact h.upd.setBit

protected theorem State.Canon.ownFalls (h : s.Canon) : (ownFalls s).Canon := by
  unfold Machine.ownFalls
  exact h.upd.setBit

protected theorem State.Canon.releaseOwn {d} (h : s.Canon) : (releaseOwn d s).Canon := by
  unfold Machine.releaseOwn
  exact .ite h.disarm.setBit.ownRises.setBit.gatesClose.closeClients.stopSingletons h.disarm

protected theorem State.Canon.recordOwn {cause} (h : s.Canon) : (recordOwn cause s).Canon := by
  unfold Machine.recordOwn
  exact h.upd

protected theorem State.Canon.arm (h : s.Canon) : (arm s).Canon := by
  unfold Machine.arm
  exact .ite h h.setBit

protected theorem State.Canon.reviewPairOk (h : s.Canon) : (reviewPairOk s).Canon := by
  unfold Machine.reviewPairOk
  exact h.upd

protected theorem State.Canon.followRole (h : s.Canon) : (followRole s).Canon := by
  unfold Machine.followRole
  exact .ite h h.setDrive

protected theorem State.Canon.followPeers (h : s.Canon) : (followPeers s).Canon := by
  unfold Machine.followPeers
  exact .ite h.followRole h

protected theorem State.Canon.reviewOwner (h : s.Canon) : (reviewOwner s).Canon := by
  unfold Machine.reviewOwner
  exact .followPeers (.ite h.setRole h)

protected theorem State.Canon.enterRole {r} (h : s.Canon) : (enterRole r s).Canon := by
  unfold Machine.enterRole
  exact h.setRole.reviewPairOk.followRole

protected theorem State.Canon.sendBy {ways kind seg data} (h : s.Canon) : (sendBy ways kind seg data s).Canon := by
  unfold Machine.sendBy
  exact h.upd.upd

protected theorem State.Canon.toPort {p kind data} (h : s.Canon) : (toPort p kind data s).Canon := by
  unfold Machine.toPort
  exact .ite h h.sendBy

protected theorem State.Canon.sendNumbered {ways kind data} (h : s.Canon) :
    (sendNumbered ways kind data s).Canon := by
  unfold Machine.sendNumbered
  exact .ite h.sendBy.upd h.sendBy

protected theorem State.Canon.toPeers {kind data} (h : s.Canon) : (toPeers kind data s).Canon := by
  unfold Machine.toPeers
  exact h.sendNumbered

protected theorem State.Canon.toMember {slot kind data} (h : s.Canon) : (toMember slot kind data s).Canon := by
  unfold Machine.toMember
  exact h.sendNumbered

protected theorem State.Canon.sendJoin (h : s.Canon) : (sendJoin s).Canon := by
  unfold Machine.sendJoin
  exact h.toPeers

protected theorem State.Canon.askObjects (h : s.Canon) : (askObjects s).Canon := by
  unfold Machine.askObjects
  exact h.foldl fun _ _ h => h.toPeers

protected theorem State.Canon.joinOrClaim (h : s.Canon) : (joinOrClaim s).Canon := by
  unfold Machine.joinOrClaim
  exact .ite h (.ite (.ite h.arm h) (.ite h.upd.disarm.enterRole.sendJoin.askObjects (.ite h (.ite (.ite h.arm h)
    h.upd.disarm))))

protected theorem State.Canon.putBackup {bs} (h : s.Canon) : (putBackup bs s).Canon := by
  unfold Machine.putBackup
  exact .set (h.foldl fun _ _ h => h.set)

protected theorem State.Canon.writeBackup {off bs} (h : s.Canon) : (writeBackup off bs s).Canon := by
  unfold Machine.writeBackup
  exact h.putBackup

protected theorem State.Canon.recordFault {cls unit port} (h : s.Canon) : (recordFault cls unit port s).Canon := by
  unfold Machine.recordFault
  exact h.set.set.set.set.set

protected theorem State.Canon.recordLastFault {v} (h : s.Canon) : (recordLastFault v s).Canon := by
  unfold Machine.recordLastFault
  exact h.writeBackup.writeBackup

protected theorem State.Canon.releaseTick (h : s.Canon) : (releaseTick s).Canon := by
  unfold Machine.releaseTick
  exact .ite h.upd.set.raise h.upd

protected theorem State.Canon.enterFailed {lastFault cls d restart} (h : s.Canon) :
    (enterFailed lastFault cls d restart s).Canon := by
  unfold Machine.enterFailed
  exact h.upd.lifetimeAdd.releaseOwn.upd.setDrive.stopSingletons.releaseTick.enterRole.recordLastFault.toPeers

protected theorem State.Canon.fail {cls unit port restart} (h : s.Canon) : (fail cls unit port restart s).Canon := by
  unfold Machine.fail
  exact h.recordFault.enterFailed

protected theorem State.Canon.failOff {cls restart} (h : s.Canon) : (failOff cls restart s).Canon := by
  unfold Machine.failOff
  exact h.recordFault.enterFailed

protected theorem State.Canon.refreshLck (h : s.Canon) : (refreshLck s).Canon := by
  unfold Machine.refreshLck
  exact h.setBit.setBit.setBit.setBit.set.setBit

end Sys2Proof.Machine
end

section
/-! SUPPORT. Canonical form is kept by gates, rings, the mailbox with the path of a command (`serve`), the Petal
engines, the timebase, the pair lines and the settings. -/

namespace Sys2Proof.Machine

variable {s : State}

/-! ### Machine/Gates -/

protected theorem State.Canon.showFifo {g} (h : s.Canon) : (showFifo g s).Canon := by
  unfold Machine.showFifo
  exact h.set.set.set.set.set.set.set.setBit.setBit.set.set.set.set.set.set.set

protected theorem State.Canon.violation {g w addr region size burst cause} (h : s.Canon) :
    (violation g w addr region size burst cause s).Canon := by
  unfold Machine.violation
  exact .raise (.ite h.bump.raise (.ite h.upd.showFifo.raise h.upd.showFifo))

protected theorem State.Canon.popReport {g} (h : s.Canon) : (popReport g s).Canon := by
  unfold Machine.popReport
  split
  · exact h
  · exact .fwLog (.showFifo h.upd)

protected theorem State.Canon.execGatePop {g value} (h : s.Canon) : (execGatePop g value s).Canon := by
  unfold Machine.execGatePop
  exact .next (.ite h.popReport h)

protected theorem State.Canon.writeSeal {master privileged value} (h : s.Canon) :
    (writeSeal master privileged value s).Canon := by
  unfold Machine.writeSeal
  exact .ite (.foldl (.ite h.setBit.setBit h.setBit) fun _ _ h => h.setBit.set) h

protected theorem State.Canon.showLocked {g} (h : s.Canon) : (showLocked g s).Canon := by
  unfold Machine.showLocked
  exact h.set

protected theorem State.Canon.writeEntry {master privileged address value} (h : s.Canon) :
    (writeEntry master privileged address value s).Canon := by
  unfold Machine.writeEntry
  split
  exacts [.ite h.raise (.ite h h.setReg.showLocked), .ite h.raise (.ite h h.setReg), h]

protected theorem State.Canon.secureDram (h : s.Canon) : (secureDram s).Canon := by
  unfold Machine.secureDram
  exact h.foldl fun _ _ h => .ite h h.set.set.set.set.setBit.setBit.setBit.showLocked

protected theorem State.Canon.clearEntry {ent n} (h : s.Canon) : (clearEntry ent n s).Canon := by
  unfold Machine.clearEntry
  exact h.foldl fun _ _ h => h.setReg

protected theorem State.Canon.closeGate {g} (h : s.Canon) : (closeGate g s).Canon := by
  unfold Machine.closeGate
  exact .ite (h.set.setBit.foldl fun _ _ h => .ite h h.clearEntry) (h.set.setBit.foldl fun _ _ h => h.foldl
    fun _ _ h => .ite h h.clearEntry)

protected theorem State.Canon.execGateDrainComplete {g} (h : s.Canon) : (execGateDrainComplete g s).Canon := by
  unfold Machine.execGateDrainComplete
  exact .next (.ite h.closeGate h)

protected theorem State.Canon.execGateDrainTimeout {g incomplete} (h : s.Canon) :
    (execGateDrainTimeout g incomplete s).Canon := by
  unfold Machine.execGateDrainTimeout
  exact .next (.ite (.closeGate (.ite h h.bump.raise)) h)

protected theorem State.Canon.drainGates (h : s.Canon) : (drainGates s).Canon := by
  unfold Machine.drainGates
  exact h.setBit.foldl fun _ _ h => .ite h.set h

/-! ### Machine/Rings -/

protected theorem State.Canon.ringFault {e} (h : s.Canon) : (ringFault e s).Canon := by
  unfold Machine.ringFault
  exact h.raise.raise

protected theorem State.Canon.ringInterrupt {n} (h : s.Canon) : (ringInterrupt n s).Canon := by
  unfold Machine.ringInterrupt
  exact h.send.upd

protected theorem State.Canon.ringCount {n new} (h : s.Canon) : (ringCount n new s).Canon := by
  unfold Machine.ringCount
  exact .ite (h.foldl fun _ _ h => h.ringInterrupt) (.ite h.ringInterrupt h)

protected theorem State.Canon.doorbell {n newProd} (h : s.Canon) : (doorbell n newProd s).Canon := by
  unfold Machine.doorbell
  exact .ite h.set.ringCount h.ringFault

protected theorem State.Canon.writeDoorbell {master ring newProd} (h : s.Canon) :
    (writeDoorbell master ring newProd s).Canon := by
  unfold Machine.writeDoorbell
  exact .ite h (.ite h.doorbell h.ringFault.violation)

protected theorem State.Canon.passDescriptors {n count} (h : s.Canon) : (passDescriptors n count s).Canon := by
  unfold Machine.passDescriptors
  exact .ite h (h.foldl fun _ _ h => .ite h h.ringFault)

protected theorem State.Canon.writeCons {n cons} (h : s.Canon) : (writeCons n cons s).Canon := by
  unfold Machine.writeCons
  exact h.passDescriptors.set.ringCount

protected theorem State.Canon.execRcbConsWrite {ring cons} (h : s.Canon) : (execRcbConsWrite ring cons s).Canon := by
  unfold Machine.execRcbConsWrite
  exact .next (.ite h.writeCons h)

protected theorem State.Canon.execRingInterruptTimer {ring} (h : s.Canon) :
    (execRingInterruptTimer ring s).Canon := by
  unfold Machine.execRingInterruptTimer
  exact .next (.ite h.ringInterrupt h)

protected theorem State.Canon.throughRing {n d} (h : s.Canon) : (throughRing n d s).Canon := by
  unfold Machine.throughRing
  exact .ite h (.ite h.doorbell h.setBytes.doorbell.writeCons)

protected theorem State.Canon.carry {n fam cmd seq flags status parts} (h : s.Canon) :
    (carry n fam cmd seq flags status parts s).Canon := by
  unfold Machine.carry
  exact .ite h (h.foldl fun _ _ h => h.took.throughRing)

/-! ### Machine/Mailbox -/

protected theorem State.Canon.updSess {i f} (h : s.Canon) : (State.updSess s i f).Canon := by
  unfold Machine.State.updSess
  exact h.upd

protected theorem State.Canon.showOut {i} (h : s.Canon) : (showOut i s).Canon := by
  unfold Machine.showOut
  exact h.set.set

protected theorem State.Canon.showSessions (h : s.Canon) : (showSessions s).Canon := by
  unfold Machine.showSessions
  exact h.set.set

protected theorem State.Canon.holdOpen {i o} (h : s.Canon) : (holdOpen i o s).Canon := by
  unfold Machine.holdOpen
  exact h.updSess.showOut

protected theorem State.Canon.carryRequest {i fam cmd r} (h : s.Canon) : (carryRequest i fam cmd r s).Canon := by
  unfold Machine.carryRequest
  exact .ite h.carry h

protected theorem State.Canon.carryAnswer {m} (h : s.Canon) : (carryAnswer m s).Canon := by
  unfold Machine.carryAnswer
  extract_lets +onlyGivenNames by'
  split
  exacts [.ite h.carry h, .ite h.carry h, h]

protected theorem State.Canon.post {m} (h : s.Canon) : (post m s).Canon := by
  unfold Machine.post
  exact h.carryAnswer.send

protected theorem State.Canon.sendStages {r fam cmd stages} (h : s.Canon) :
    (sendStages r fam cmd stages s).Canon := by
  unfold Machine.sendStages
  split
  exacts [h, h.foldl fun _ _ h => h.took.took.post]

protected theorem State.Canon.respond {i seq fam cmd status payload} (h : s.Canon) :
    (respond i seq fam cmd status payload s).Canon := by
  unfold Machine.respond
  exact h.post

protected theorem State.Canon.respondMalformed {i seq fam cmd} (h : s.Canon) :
    (respondMalformed i seq fam cmd s).Canon := by
  unfold Machine.respondMalformed
  exact h.respond.raise

protected theorem State.Canon.finishD {i o status payload} (h : s.Canon) : (finishD i o status payload s).Canon := by
  unfold Machine.finishD
  exact .showOut (.updSess (.ite h h.respond.raiseIf))

protected theorem State.Canon.finishAll {fam cmd status payload} (h : s.Canon) :
    (finishAll fam cmd status payload s).Canon := by
  unfold Machine.finishAll
  exact h.foldl fun _ _ h => h.foldl fun _ _ h => h.finishD

protected theorem State.Canon.dropTransfers {p} (h : s.Canon) : (dropTransfers p s).Canon := by
  unfold Machine.dropTransfers
  exact h.upd

protected theorem State.Canon.cancelEffect {i o} (h : s.Canon) : (cancelEffect i o s).Canon := by
  unfold Machine.cancelEffect
  exact .ite h.upd (.ite h.upd.setBit h.dropTransfers)

protected theorem State.Canon.closeSession {i} (h : s.Canon) : (closeSession i s).Canon := by
  unfold Machine.closeSession
  exact .showSessions (.setReg (.updSess (.upd (h.foldl fun _ _ h => h.cancelEffect))))

protected theorem State.Canon.judgeLate {cls r responded} (h : s.Canon) : (judgeLate cls r responded s).Canon := by
  unfold Machine.judgeLate
  split
  exacts [h, h.raiseIf]

protected theorem State.Canon.takePosted {ring} (h : s.Canon) : (takePosted ring s).2.Canon := by
  unfold Machine.takePosted
  split
  exacts [h.upd, h]

protected theorem State.Canon.petalRejected {t} (h : s.Canon) : (petalRejected t s).Canon := by
  unfold Machine.petalRejected
  split
  exacts [h.upd, h]

protected theorem State.Canon.refuse {fam cmd cls r status detail} (h : s.Canon) :
    (refuse fam cmd cls r status detail s).Canon := by
  unfold Machine.refuse
  split
  · extract_lets +onlyGivenNames p
    exact h.takePosted.petalRejected
  · extract_lets +onlyGivenNames s1
    have h1 : s1.Canon := .ite h.raise h
    exact .ite h1 h1.respond.judgeLate

protected theorem State.Canon.dropSegments {i fam cmd seq} (h : s.Canon) : (dropSegments i fam cmd seq s).Canon := by
  unfold Machine.dropSegments
  exact h.updSess.respondMalformed

protected theorem State.Canon.beginsAfresh {i r} (h : s.Canon) : (beginsAfresh i r s).Canon := by
  unfold Machine.beginsAfresh
  exact .ite h.updSess h

protected theorem State.Canon.serve {fam cmd r lenOk act} (h : s.Canon)
    (hact : ∀ t : State, t.Canon → (act t).Canon) :
    (serve fam cmd r lenOk act s).Canon := by
  unfold Machine.serve
  split
  · exact h.refuse
  · split
    · extract_lets +onlyGivenNames s1
      have h1 : s1.Canon := h.beginsAfresh
      refine .ite h1.respond (.ite h1.dropSegments (.ite (.ite h1.refuse.closeSession h1.refuse)
        (.carryRequest (.ite h1.refuse ?_))))
      split
      · exact h1.refuse
      · have ha := hact s1 h1
        split
        · rename_i s' p heq
          have h' : s'.Canon := (heq ▸ ha :)
          exact .ite h'.judgeLate h'.respond.judgeLate
        · rename_i s' st d heq
          have h' : s'.Canon := (heq ▸ ha :)
          exact h'.refuse
        · rename_i s' heq
          have h' : s'.Canon := (heq ▸ ha :)
          exact h'.holdOpen
    · refine .ite h (.ite h.ringFault.refuse ?_)
      split
      · exact h.refuse
      · have ha := hact s h
        split
        · rename_i s' p heq
          have h' : s'.Canon := (heq ▸ ha :)
          exact h'.judgeLate.takePosted
        · rename_i s' st d heq
          have h' : s'.Canon := (heq ▸ ha :)
          exact h'.refuse
        · rename_i s' heq
          exact (heq ▸ ha :)

protected theorem State.Canon.conflict (h : s.Canon) : (conflict s).Canon := by
  unfold Machine.conflict
  exact .err h

/-! ### Machine/Engine -/

protected theorem State.Canon.putEng {e g} (h : s.Canon) : (State.putEng s e g).Canon := by
  unfold Machine.State.putEng
  exact h.upd

protected theorem State.Canon.updTask {t f} (h : s.Canon) : (State.updTask s t f).Canon := by
  unfold Machine.State.updTask
  exact h.upd

protected theorem State.Canon.ringDoorbells {e} (h : s.Canon) : (ringDoorbells e s).Canon := by
  unfold Machine.ringDoorbells
  exact .putEng (h.foldl fun _ _ h => .ite h h.doorbell)

protected theorem State.Canon.foldState {e} (h : s.Canon) : (foldState e s).Canon := by
  unfold Machine.foldState
  exact h.putEng

protected theorem State.Canon.applyForces {e u i err} (h : s.Canon) : (applyForces e u i err s).Canon := by
  unfold Machine.applyForces
  refine h.foldl fun _ _ h => .ite h ?_
  split
  exacts [.ite h.setBytes.putEng h, h]

protected theorem State.Canon.beginSegment {e t seg} (h : s.Canon) : (beginSegment e t seg s).Canon := by
  unfold Machine.beginSegment
  split
  · exact h
  · split
    · exact h
    · split
      · exact h
      · split
        · exact h
        · exact .putEng (.applyForces (.ite h h.updTask.setBytes.updTask))

protected theorem State.Canon.startNext {e l} (h : s.Canon) : (startNext e l s).Canon := by
  induction l generalizing s with
  | nil => exact h.putEng
  | cons p r ih => exact .ite (ih h) h.putEng.beginSegment

protected theorem State.Canon.closeSegment {e} (h : s.Canon) : (closeSegment e s).Canon := by
  unfold Machine.closeSegment
  exact h.updTask.upd

protected theorem State.Canon.finishSegment {e} (h : s.Canon) : (finishSegment e s).Canon := by
  unfold Machine.finishSegment
  exact .ite h.closeSegment.ringDoorbells.putEng h.closeSegment.ringDoorbells.startNext

protected theorem State.Canon.copyOut {e t} (h : s.Canon) : (copyOut e t s).Canon := by
  unfold Machine.copyOut
  split
  · exact h
  · split
    · exact h
    · extract_lets +onlyGivenNames img s1 g s2
      have h1 : s1.Canon := h.setBytes
      have h2 : s2.Canon := h1.putEng
      exact h2.updTask

protected theorem State.Canon.noteFault {t code} (h : s.Canon) : (noteFault t code s).Canon := by
  unfold Machine.noteFault
  exact h.updTask.upd

protected theorem State.Canon.moduleReaction {code hard} (h : s.Canon) : (moduleReaction code hard s).Canon := by
  unfold Machine.moduleReaction
  exact .ite h.fail (.ite h.raise.fail (.ite (.ite h.raise.fail h.raise) h))

protected theorem State.Canon.faultRunning {e code} (h : s.Canon) : (faultRunning e code s).Canon := by
  unfold Machine.faultRunning
  exact .ite h.closeSegment.updTask.ringDoorbells.putEng.fwLog h.closeSegment.noteFault.putEng.ringDoorbells.startNext

protected theorem State.Canon.taskFault {e code hard} (h : s.Canon) : (taskFault e code hard s).Canon := by
  unfold Machine.taskFault
  exact h.faultRunning.moduleReaction

/-! ### Machine/TimeBase -/

protected theorem State.Canon.setBkd {t} (h : s.Canon) : (State.setBkd s t).Canon := by
  unfold Machine.State.setBkd
  exact h.set.set.set

protected theorem State.Canon.wakeFromPark {cause} (h : s.Canon) : (wakeFromPark cause s).Canon := by
  unfold Machine.wakeFromPark
  split
  exacts [h.set.setBit.raise, h.set.set, h]

protected theorem State.Canon.convOff (h : s.Canon) : (convOff s).Canon := by
  unfold Machine.convOff
  exact h.setBit.releaseOwn.releaseTick.setDrive

protected theorem State.Canon.fireAlarm {skipped} (h : s.Canon) : (fireAlarm skipped s).Canon := by
  unfold Machine.fireAlarm
  exact .ite h.raise.raiseIf.setBit.wakeFromPark h.raise.raiseIf.setBit

protected theorem State.Canon.bkdAdvance {n} (h : s.Canon) : (bkdAdvance n s).Canon := by
  unfold Machine.bkdAdvance
  exact .ite (.fireAlarm (.ite h.setBkd h.setBkd.set)) (.ite h.setBkd h.setBkd.set)

protected theorem State.Canon.bkdMove {t} (h : s.Canon) : (bkdMove t s).Canon := by
  unfold Machine.bkdMove
  exact .ite h.setBkd.fireAlarm h.setBkd

protected theorem State.Canon.elapse {dt} (h : s.Canon) : (elapse dt s).Canon := by
  unfold Machine.elapse
  extract_lets +onlyGivenNames ph b s1 s2 s3 s4 s5 s6 s7
  have h3 : s3.Canon := .set (.bkdAdvance h.upd)
  have h7 : s7.Canon := by
    refine .foldl (.setBit (.set (.ite h3.set h3))) fun _ _ h => ?_
    split
    exacts [h.set, h]
  exact .ite (.set h7.upd) h7

protected theorem State.Canon.runCycles {n} (h : s.Canon) : (runCycles n s).Canon := by
  unfold Machine.runCycles
  exact h.upd.setNow.elapse

protected theorem State.Canon.advanceTo {t} (h : s.Canon) : (advanceTo t s).Canon := by
  unfold Machine.advanceTo
  exact .ite h.runCycles h

protected theorem State.Canon.toPhase {d} (h : s.Canon) : (toPhase d s).Canon := by
  unfold Machine.toPhase
  exact h.advanceTo

protected theorem State.Canon.updSrc {n f} (h : s.Canon) : (updSrc n f s).Canon := by
  unfold Machine.updSrc
  exact h.upd

protected theorem State.Canon.showPrio (h : s.Canon) : (showPrio s).Canon := by
  unfold Machine.showPrio
  exact h.set

protected theorem State.Canon.refreshQuality (h : s.Canon) : (refreshQuality s).Canon := by
  unfold Machine.refreshQuality
  exact .raiseIf (.showPrio (.ite h.set.set.setBit.setBit.setBit h.set.set.setBit.setBit.setBit.upd.set))

protected theorem State.Canon.setTimeFault {bit b} (h : s.Canon) : (setTimeFault bit b s).Canon := by
  unfold Machine.setTimeFault
  exact h.upd

protected theorem State.Canon.setTaiUtc {known offset leap61 leap59} (h : s.Canon) :
    (setTaiUtc known offset leap61 leap59 s).Canon := by
  unfold Machine.setTaiUtc
  exact h.setBit.set.setBit.setBit.setBit

protected theorem State.Canon.setSource {n} (h : s.Canon) : (setSource n s).Canon := by
  unfold Machine.setSource
  exact .ite h h.set.raise

protected theorem State.Canon.setTickRole {n} (h : s.Canon) : (setTickRole n s).Canon := by
  unfold Machine.setTickRole
  exact .ite h h.set.raise

protected theorem State.Canon.refreshTai (h : s.Canon) : (refreshTai s).Canon := by
  unfold Machine.refreshTai
  extract_lets +onlyGivenNames src
  refine .ite h ?_
  split
  · exact h.setTaiUtc
  · split
    exacts [h.setTaiUtc, .ite h.setTaiUtc h.setTaiUtc]

protected theorem State.Canon.enterHoldover (h : s.Canon) : (enterHoldover s).Canon := by
  unfold Machine.enterHoldover
  exact h.upd

protected theorem State.Canon.leaveFollowed (h : s.Canon) : (leaveFollowed s).Canon := by
  unfold Machine.leaveFollowed
  exact .ite h (.ite h h.upd.enterHoldover)

protected theorem State.Canon.setOwnSource {n} (h : s.Canon) : (setOwnSource n s).Canon := by
  unfold Machine.setOwnSource
  exact .setSource (.ite h.leaveFollowed h)

protected theorem State.Canon.refreshSource (h : s.Canon) : (refreshSource s).Canon := by
  unfold Machine.refreshSource
  exact .ite h.upd.setSource (.ite h.upd.setOwnSource (.ite h.upd h.upd.setOwnSource))

protected theorem State.Canon.standForTick (h : s.Canon) : (standForTick s).Canon := by
  unfold Machine.standForTick
  exact .ite h.setTickRole h

protected theorem State.Canon.reviewTime (h : s.Canon) : (reviewTime s).Canon := by
  unfold Machine.reviewTime
  exact h.standForTick.refreshSource.refreshTai.refreshQuality

protected theorem State.Canon.stepCounter {t} (h : s.Canon) : (stepCounter t s).Canon := by
  unfold Machine.stepCounter
  exact h.setNow.upd.raise

protected theorem State.Canon.servo {ofs} (h : s.Canon) : (servo ofs s).Canon := by
  unfold Machine.servo
  exact .ite h.stepCounter.set h.setInt

protected theorem State.Canon.refreshRunLock (h : s.Canon) : (refreshRunLock s).Canon := by
  unfold Machine.refreshRunLock
  exact h.setBit

/-! ### Machine/PairOps -/

protected theorem State.Canon.portUp {p b} (h : s.Canon) : (portUp p b s).Canon := by
  unfold Machine.portUp
  exact h.set

protected theorem State.Canon.hhkArrive {type hdr} (h : s.Canon) : (hhkArrive type hdr s).2.Canon := by
  unfold Machine.hhkArrive
  refine .iteSnd ?_ (.iteSnd ?_ ?_)
  · dsimp only
    exact h.bump.raise
  · dsimp only
    exact h.bump.raise
  · extract_lets +onlyGivenNames p s1 s2
    have h2 : s2.Canon := .portUp h.upd
    clear_value s2
    exact .iteSnd h2 (.iteSnd h2 (.iteSnd h2 h2.upd))

protected theorem State.Canon.onFrame {type hdr f} (h : s.Canon) (hf : ∀ t, t.Canon → (f t).Canon) :
    (onFrame type hdr f s).Canon := by
  unfold Machine.onFrame
  exact .ite (hf _ h.hhkArrive) h.hhkArrive

protected theorem State.Canon.relay {type hdr body} (h : s.Canon) : (relay type hdr body s).Canon := by
  unfold Machine.relay
  exact h.sendBy.bump

protected theorem State.Canon.onRouted {type body hdr f} (h : s.Canon) (hf : ∀ t, t.Canon → (f t).Canon) :
    (onRouted type body hdr f s).Canon := by
  unfold Machine.onRouted
  exact h.onFrame (fun _ h => .ite h.relay (hf _ h))

protected theorem State.Canon.putPeer {p} (h : s.Canon) : (putPeer p s).Canon := by
  unfold Machine.putPeer
  exact h.upd

protected theorem State.Canon.peerRole {slot r} (h : s.Canon) : (peerRole slot r s).Canon := by
  unfold Machine.peerRole
  exact h.upd.set

protected theorem State.Canon.dropPeer {slot} (h : s.Canon) : (dropPeer slot s).Canon := by
  unfold Machine.dropPeer
  exact h.upd.reviewTime

protected theorem State.Canon.showTriad (h : s.Canon) : (showTriad s).Canon := by
  unfold Machine.showTriad
  exact .ite h h.set.set

protected theorem State.Canon.restoreCkpt {n c} (h : s.Canon) : (restoreCkpt n c s).Canon := by
  unfold Machine.restoreCkpt
  split <;> exact h.upd

protected theorem State.Canon.sendCkpt {n} (h : s.Canon) : (sendCkpt s n).Canon := by
  unfold Machine.sendCkpt
  exact .ite h (.ite h.upd.toPeers.upd h.upd.toPeers)

protected theorem State.Canon.keepCkpt {n c} (h : s.Canon) : (keepCkpt n c s).Canon := by
  unfold Machine.keepCkpt
  exact h.upd.setBit.set

protected theorem State.Canon.startSingletons (h : s.Canon) : (startSingletons s).Canon := by
  unfold Machine.startSingletons
  refine .ite h (.showPublishing (h.upd.foldl fun _ _ h => .ite h (.setBit ?_)))
  split
  exacts [h.restoreCkpt, h]

protected theorem State.Canon.armStandby (h : s.Canon) : (armStandby s).Canon := by
  unfold Machine.armStandby
  exact .ite h h.arm

protected theorem State.Canon.recordCmp {r} (h : s.Canon) : (recordCmp r s).Canon := by
  unfold Machine.recordCmp
  exact h.upd

protected theorem State.Canon.dropPending (h : s.Canon) : (dropPending s).Canon := by
  unfold Machine.dropPending
  exact .upd (h.foldl fun _ _ h => h.recordCmp)

protected theorem State.Canon.goSyncing (h : s.Canon) : (goSyncing s).Canon := by
  unfold Machine.goSyncing
  exact h.disarm.dropPending.upd.enterRole.sendJoin

protected theorem State.Canon.resumeSingletons (h : s.Canon) : (resumeSingletons s).Canon := by
  unfold Machine.resumeSingletons
  exact .showPublishing (.upd (h.foldl fun _ _ h => .ite h.setBit h))

protected theorem State.Canon.cancelHandover (h : s.Canon) : (cancelHandover s).Canon := by
  unfold Machine.cancelHandover
  exact h.upd.resumeSingletons

protected theorem State.Canon.countMove (h : s.Canon) : (countMove s).Canon := by
  unfold Machine.countMove
  exact h.upd

protected theorem State.Canon.cancelUnmoved (h : s.Canon) : (cancelUnmoved s).Canon := by
  unfold Machine.cancelUnmoved
  exact .ite h h.cancelHandover

/-! ### Machine/Settings -/

protected theorem State.Canon.confWrite {o b} (h : s.Canon) : (confWrite o b s).Canon := by
  unfold Machine.confWrite
  exact .ite h.upd.nandConf.upd h.upd.nandConf

protected theorem State.Canon.pendObject {o f b} (h : s.Canon) : (pendObject o f b s).Canon := by
  unfold Machine.pendObject
  exact h.upd.toPeers

protected theorem State.Canon.setConfig {fam obj r bad clash} (h : s.Canon) :
    (setConfig fam obj r bad clash s).Canon := by
  unfold Machine.setConfig
  refine h.serve (fun _ h => ?_)
  split
  exacts [.err h, .ite h.conflict (.ok h.confWrite.pendObject)]

protected theorem State.Canon.putConf {o b} (h : s.Canon) : (putConf o b s).Canon := by
  unfold Machine.putConf
  exact h.upd

/-! ### Machine/Stations -/

protected theorem State.Canon.putDropped {m} (h : s.Canon) : (putDropped m s).Canon := by
  unfold Machine.putDropped
  exact h.set.set

protected theorem State.Canon.touchBlock {key} (h : s.Canon) : (touchBlock key s).Canon := by
  unfold Machine.touchBlock
  exact h.upd

protected theorem State.Canon.markDropped {j} (h : s.Canon) : (markDropped j s).Canon := by
  unfold Machine.markDropped
  exact h.upd

protected theorem State.Canon.reviewStation {t r} (h : s.Canon) : (reviewStation t s r).Canon := by
  unfold Machine.reviewStation
  exact .ite h (.raise (.ite h.putDropped.upd h.putDropped.upd.markDropped))

protected theorem State.Canon.reviewStationsAt {t} (h : s.Canon) : (reviewStationsAt t s).Canon := by
  unfold Machine.reviewStationsAt
  split
  exacts [h.foldl fun _ _ h => h.reviewStation, h]

protected theorem State.Canon.reviewStations (h : s.Canon) : (reviewStations s).Canon := by
  unfold Machine.reviewStations
  exact h.reviewStationsAt

protected theorem State.Canon.expireSub {i} (h : s.Canon) : (expireSub s i).Canon := by
  unfold Machine.expireSub
  exact .ite h.setBit.reviewStationsAt h

protected theorem State.Canon.expireSubs (h : s.Canon) : (expireSubs s).Canon := by
  unfold Machine.expireSubs
  exact h.foldl fun _ _ h => h.expireSub

end Sys2Proof.Machine
end

section
/-! SUPPORT. Canonical form is kept by Aster and Larkspur. -/

namespace Sys2Proof.Machine

variable {s : State}

/-! ### Machine/Aster -/

protected theorem State.Canon.updAst {f} (h : s.Canon) : (State.updAst s f).Canon := by
  unfold Machine.State.updAst
  exact h.upd

protected theorem State.Canon.updStr {n f} (h : s.Canon) : (State.updStr s n f).Canon := by
  unfold Machine.State.updStr
  exact h.updAst

protected theorem State.Canon.showAligned (h : s.Canon) : (showAligned s).Canon := by
  unfold Machine.showAligned
  exact h.set

protected theorem State.Canon.rejectSv {n} (h : s.Canon) : (rejectSv n s).Canon := by
  unfold Machine.rejectSv
  exact h.bump.raise

protected theorem State.Canon.streamUsable {n place nom} (h : s.Canon) : (streamUsable n place nom s).Canon := by
  unfold Machine.streamUsable
  exact .ite h.updStr.updStr.set (.ite h.updStr.set.raise.showAligned.reviewStations h.updStr)

protected theorem State.Canon.acceptSample {n place nom transitUs usable vals} (h : s.Canon) :
    (acceptSample n place nom transitUs usable vals s).Canon := by
  unfold Machine.acceptSample
  exact .updStr (.ite (.touchBlock (.streamUsable (.updStr (.ite h.set.maxTo.bump h.set.maxTo)))) (.raise (.updStr
    (.updStr (.ite h.set.maxTo.bump h.set.maxTo)))))

protected theorem State.Canon.takeAsdu {n f a} (h : s.Canon) : (takeAsdu n f s a).Canon := by
  unfold Machine.takeAsdu
  exact .ite h.rejectSv (.ite h.set (.ite h.set.bump (.ite h.set.rejectSv h.set.set.set.acceptSample)))

protected theorem State.Canon.takeSv {n f} (h : s.Canon) : (takeSv n f s).Canon := by
  unfold Machine.takeSv
  exact h.setBit.foldl fun _ _ h => h.takeAsdu

protected theorem State.Canon.freezeBatch {k} (h : s.Canon) : (freezeBatch k s).2.Canon := by
  unfold Machine.freezeBatch
  exact State.Canon.foldlSnd (fun _ _ h => .foldl h.updStr fun _ _ h => .ite h.bump.raise h) h

protected theorem State.Canon.takeBatch {k rows self} (h : s.Canon) : (takeBatch k rows self s).Canon := by
  unfold Machine.takeBatch
  exact .foldl (h.foldl fun _ _ h => h.updStr) fun _ _ h => .ite h.updStr h

protected theorem State.Canon.showRef {b r valid oor fb settling e} (h : s.Canon) :
    (showRef b r valid oor fb settling e s).Canon := by
  unfold Machine.showRef
  exact .ite h.setBit.setBit.setBit.setBit.set.setInt.setInt h.setBit.setBit.setBit.setBit.set

protected theorem State.Canon.estimateRef {onTime rows chk k r} (h : s.Canon) :
    (estimateRef onTime rows chk k s r).Canon := by
  unfold Machine.estimateRef
  exact .ite h h.updAst.showRef.raiseIf

protected theorem State.Canon.estimateChan {s0 onTime rows chk k c} (h : s.Canon) :
    (estimateChan s0 onTime rows chk k s c).Canon := by
  unfold Machine.estimateChan
  exact .ite h h.updAst

protected theorem State.Canon.estimateSet {s0 onTime rows k j} (h : s.Canon) :
    (estimateSet s0 onTime rows k s j).Canon := by
  unfold Machine.estimateSet
  exact .ite h (h.foldl fun _ _ h => h.updAst)

protected theorem State.Canon.showRefs (h : s.Canon) : (showRefs s).Canon := by
  unfold Machine.showRefs
  exact h.set

protected theorem State.Canon.formEstimates {onTime} (h : s.Canon) : (formEstimates onTime s).Canon := by
  unfold Machine.formEstimates
  exact .showRefs (.foldl (.foldl (h.updAst.foldl fun _ _ h => h.estimateRef) fun _ _ h => h.estimateChan)
    fun _ _ h => h.estimateSet)

protected theorem State.Canon.showPmus (h : s.Canon) : (showPmus s).Canon := by
  unfold Machine.showPmus
  exact h.foldl fun _ _ h => h.setBit.setBit.setBit

protected theorem State.Canon.sendReports {udp} (h : s.Canon) : (sendReports udp s).Canon := by
  unfold Machine.sendReports
  refine h.foldl fun _ _ h => .ite ?_ h
  split
  · extract_lets +onlyGivenNames way
    exact h.netTx
  · exact h

protected theorem State.Canon.applyStream {old b n} (h : s.Canon) : (applyStream old b s n).Canon := by
  unfold Machine.applyStream
  exact .ite h.updStr.setReg.set h

protected theorem State.Canon.dropItems {b} (h : s.Canon) : (dropItems b s).Canon := by
  unfold Machine.dropItems
  exact .showRefs (h.updAst.foldl fun _ _ h => .ite h h.setReg.setReg.setReg)

protected theorem State.Canon.astApply {k b} (h : s.Canon) : (astApply k b s).Canon := by
  unfold Machine.astApply
  exact .reviewStations (.showPmus (.showAligned (.raise (.setBit (.setBit (.set (.foldl (.updAst (.dropItems
    (h.putConf.foldl fun _ _ h => h.applyStream))) fun _ _ h => h.setBit)))))))

protected theorem State.Canon.astDomainReset (h : s.Canon) : (astDomainReset s).Canon := by
  unfold Machine.astDomainReset
  exact .reviewStations (.showAligned (h.foldl fun _ _ h => .ite h.updStr.set h))

protected theorem State.Canon.execC37118ClientConnect {stream} (h : s.Canon) :
    (execC37118ClientConnect stream s).Canon := by
  unfold Machine.execC37118ClientConnect
  exact .next (.ite h.wrapUp.showPmus h.netTx)

protected theorem State.Canon.execC37118ClientClose {stream} (h : s.Canon) :
    (execC37118ClientClose stream s).Canon := by
  unfold Machine.execC37118ClientClose
  exact .next (.ite h.set.showPmus h)

protected theorem State.Canon.execC37118Command {stream client cmd} (h : s.Canon) :
    (execC37118Command stream client cmd s).Canon := by
  unfold Machine.execC37118Command
  refine .next ?_
  extract_lets +onlyGivenNames b
  refine .ite h ?_
  extract_lets +onlyGivenNames answer
  split
  exacts [h.setBit.showPmus, h.setBit.showPmus, h.netTx, h.netTx, h.netTx, h.netTx, h]

protected theorem State.Canon.execAsterGetStatus {r} (h : s.Canon) : (execAsterGetStatus r s).Canon := by
  unfold Machine.execAsterGetStatus
  exact .next (h.serve (fun _ h => .ok h))

protected theorem State.Canon.execAsterGetConfig {r} (h : s.Canon) : (execAsterGetConfig r s).Canon := by
  unfold Machine.execAsterGetConfig
  exact .next (h.serve (fun _ h => .ok h))

protected theorem State.Canon.execAsterSetConfig {r} (h : s.Canon) : (execAsterSetConfig r s).Canon := by
  unfold Machine.execAsterSetConfig
  exact .next h.setConfig

protected theorem State.Canon.execAsterGetPhasors {r} (h : s.Canon) : (execAsterGetPhasors r s).Canon := by
  unfold Machine.execAsterGetPhasors
  refine .next (h.serve (fun _ h => ?_))
  extract_lets +onlyGivenNames sel first n lim
  split
  · exact .err h
  · extract_lets +onlyGivenNames b d
    exact .ok h

protected theorem State.Canon.setStreaming {mask on} (h : s.Canon) : (setStreaming mask on s).Canon := by
  unfold Machine.setStreaming
  exact .showPmus (h.foldl fun _ _ h => .ite h.setBit h)

protected theorem State.Canon.pendStreaming {f mask on} (h : s.Canon) : (pendStreaming f mask on s).Canon := by
  unfold Machine.pendStreaming
  exact h.updAst

protected theorem State.Canon.streamingDue {k} (h : s.Canon) : (streamingDue k s).Canon := by
  unfold Machine.streamingDue
  exact h.updAst.foldl fun _ _ h => h.setStreaming

protected theorem State.Canon.execAsterSetStreaming {r} (h : s.Canon) : (execAsterSetStreaming r s).Canon := by
  unfold Machine.execAsterSetStreaming
  exact .next (h.serve (fun _ h => .ite h.conflict (.ok h.pendStreaming.toPeers)))

protected theorem State.Canon.execEstimateSetComplete {ns} (h : s.Canon) : (execEstimateSetComplete ns s).Canon := by
  unfold Machine.execEstimateSetComplete
  exact .next (.ite h.toPhase.formEstimates (.ite h.toPhase h.toPhase.formEstimates.raise.raise.fail))

/-! ### Machine/LspLanes -/

protected theorem State.Canon.updLsp {f} (h : s.Canon) : (State.updLsp s f).Canon := by
  unfold Machine.State.updLsp
  exact h.upd

protected theorem State.Canon.showNoise {g} (h : s.Canon) : (showNoise s g).Canon := by
  unfold Machine.showNoise
  exact .ite h h.set.set

protected theorem State.Canon.takeGroupFrame {g k} (h : s.Canon) : (takeGroupFrame g k s).Canon := by
  unfold Machine.takeGroupFrame
  extract_lets +onlyGivenNames p
  refine .ite h ?_
  split
  · extract_lets +onlyGivenNames r
    exact h.updLsp.showNoise
  · exact h

/-! ### Machine/Larkspur -/

protected theorem State.Canon.showLspLanes (h : s.Canon) : (showLspLanes s).Canon := by
  unfold Machine.showLspLanes
  exact h.set

protected theorem State.Canon.toHunt {n} (h : s.Canon) : (toHunt s n).Canon := by
  unfold Machine.toHunt
  exact .ite h h.set.raiseIf

protected theorem State.Canon.recordMark (h : s.Canon) : (recordMark s).Canon := by
  unfold Machine.recordMark
  exact .ite (.showLspLanes (h.updLsp.foldl fun _ _ h => h.toHunt)) h.updLsp

protected theorem State.Canon.updOpen {g f} (h : s.Canon) : (updOpen g f s).Canon := by
  unfold Machine.updOpen
  exact h.updLsp

protected theorem State.Canon.keepLaneFrame {n k x prev} (h : s.Canon) : (keepLaneFrame n k x prev s).Canon := by
  unfold Machine.keepLaneFrame
  extract_lets +onlyGivenNames s1
  have h1 : s1.Canon := h.updLsp
  split
  · extract_lets +onlyGivenNames r step
    exact h1.updLsp
  · exact h1

protected theorem State.Canon.updEvents {p f} (h : s.Canon) : (updEvents p f s).Canon := by
  unfold Machine.updEvents
  exact h.updLsp

protected theorem State.Canon.markLaneFault {g k x} (h : s.Canon) : (markLaneFault g k x s).Canon := by
  unfold Machine.markLaneFault
  exact .ite h h.updEvents

protected theorem State.Canon.execLaneFrame {lane pairs mark} (h : s.Canon) :
    (execLaneFrame lane pairs mark s).Canon := by
  unfold Machine.execLaneFrame
  refine .next (.ite h ?_)
  extract_lets +onlyGivenNames c errs k has s1 s2 s3 s4 s5
  have h1 : s1.Canon := h.bump.bump
  have h2 : s2.Canon := .ite h1.bump h1
  have h3 : s3.Canon := .ite h2.bump.markLaneFault h2
  have h5 : s5.Canon := h3.set.setBit.setBit.setBit.keepLaneFrame.takeGroupFrame
  exact .showLspLanes (.ite (.ite h5.set h5) (.ite h5.set (.ite h5.toHunt h5.raiseIf)))

protected theorem State.Canon.setArmed {g b} (h : s.Canon) : (setArmed g b s).Canon := by
  unfold Machine.setArmed
  exact h.setBit.set

protected theorem State.Canon.execGroupArmed {g} (h : s.Canon) : (execGroupArmed g s).Canon := by
  unfold Machine.execGroupArmed
  exact .next (.ite h h.showNoise.setArmed)

protected theorem State.Canon.reformGroup {g} (h : s.Canon) : (reformGroup g s).Canon := by
  unfold Machine.reformGroup
  exact h.updLsp.setArmed

protected theorem State.Canon.triggerRecord {manual group lanes t tag evt} (h : s.Canon) :
    (triggerRecord manual group lanes t tag evt s).Canon := by
  unfold Machine.triggerRecord
  exact .ite h.updLsp h.updLsp

protected theorem State.Canon.triggerByEvent {e t} (h : s.Canon) : (triggerByEvent e t s).Canon := by
  unfold Machine.triggerByEvent
  exact h.triggerRecord

protected theorem State.Canon.settleDir {v mode time pol} (h : s.Canon) : (settleDir v mode time pol s).Canon := by
  unfold Machine.settleDir
  refine h.updLsp.foldl fun _ _ h => ?_
  split
  exacts [h.set, h]

protected theorem State.Canon.openEvent {d} (h : s.Canon) : (openEvent d s).Canon := by
  unfold Machine.openEvent
  exact .raise (.ite h.updLsp.setBit.set.triggerByEvent h.updLsp.setBit.set)

protected theorem State.Canon.noteDetection {k n d} (h : s.Canon) : (noteDetection k n d s).Canon := by
  unfold Machine.noteDetection
  exact .ite h.updLsp.settleDir h.updLsp

protected theorem State.Canon.takeDetection {k n d} (h : s.Canon) : (takeDetection k n d s).Canon := by
  unfold Machine.takeDetection
  refine .noteDetection ?_
  split
  · extract_lets +onlyGivenNames s1
    have h1 : s1.Canon := .ite h.triggerByEvent h
    exact h1.updOpen
  · exact h.openEvent

protected theorem State.Canon.closeEvent {g e} (h : s.Canon) : (closeEvent g e s).Canon := by
  unfold Machine.closeEvent
  exact .ite h.updLsp.setBit.reformGroup h.updLsp.setBit

protected theorem State.Canon.showEvent {k wave lines e} (h : s.Canon) : (showEvent k wave lines e s).Canon := by
  unfold Machine.showEvent
  exact .foldl (.ite h.updLsp h) fun _ _ h => .ite h.updLsp h

protected theorem State.Canon.numberRecords {r q} (h : s.Canon) : (numberRecords r q s).Canon := by
  unfold Machine.numberRecords
  exact h.updLsp

protected theorem State.Canon.admitReport {k r} (h : s.Canon) : (admitReport k s r).Canon := by
  unfold Machine.admitReport
  refine .ite h.updLsp ?_
  extract_lets +onlyGivenNames q v s1 s2 s3
  have h1 : s1.Canon := h.took.set
  have h2 : s2.Canon := h1.updEvents
  have h3 : s3.Canon := h2.updLsp.numberRecords
  split
  exacts [h3.showEvent, h3]

protected theorem State.Canon.expireReports {k} (h : s.Canon) : (expireReports k s).Canon := by
  unfold Machine.expireReports
  refine h.updLsp.foldl fun _ _ h => .ite h.raise ?_
  split
  · exact h
  · extract_lets +onlyGivenNames ls
    exact .ite h h.updEvents.showEvent.raise

protected theorem State.Canon.matchReports {k} (h : s.Canon) : (matchReports k s).Canon := by
  unfold Machine.matchReports
  extract_lets rem loc step r
  have hstep (p : State × List WfReport) (a : WfReport) (hp : p.1.Canon) : (step p a).1.Canon := by
    unfold step
    split
    · exact hp
    · exact .ite (.foldl (.showEvent hp.updEvents) fun _ _ h => h.triggerByEvent) (.showEvent hp.updEvents)
  have hr : r.1.Canon := State.Canon.foldlFst hstep h
  exact hr.updLsp

protected theorem State.Canon.closeReports {k} (h : s.Canon) : (closeReports k s).Canon := by
  unfold Machine.closeReports
  exact h.foldl fun _ _ h => h.updEvents.showEvent

protected theorem State.Canon.locateRound {k} (h : s.Canon) : (locateRound k s).2.Canon := by
  unfold Machine.locateRound
  extract_lets +onlyGivenNames n was enter s1 s2
  have h1 : s1.Canon := h.updLsp
  have h2 : s2.Canon := .closeReports (h1.foldl fun _ _ h => h.admitReport)
  exact h2.matchReports

protected theorem State.Canon.locateRounds {k f l} (h : s.Canon) : (locateRounds k f l s).2.Canon := by
  induction f generalizing s l with
  | zero => exact h
  | succ f ih =>
    unfold Machine.locateRounds
    split
    · exact h
    · exact ih h.locateRound

protected theorem State.Canon.lspCutOff {k} (h : s.Canon) : (lspCutOff k s).2.Canon := by
  unfold Machine.lspCutOff
  extract_lets +onlyGivenNames r
  exact h.expireReports.locateRound.locateRounds

protected theorem State.Canon.execRemoteWaitExpiry (h : s.Canon) : (execRemoteWaitExpiry s).Canon := by
  unfold Machine.execRemoteWaitExpiry
  exact .next h.expireReports

protected theorem State.Canon.markSelf {k new} (h : s.Canon) : (markSelf k new s).Canon := by
  unfold Machine.markSelf
  exact h.updLsp.foldl fun _ _ h => h.updEvents

protected theorem State.Canon.lspTake {own self sn} (h : s.Canon) : (lspTake own self sn s).Canon := by
  unfold Machine.lspTake
  extract_lets +onlyGivenNames b k new s1 s2 s3 s4
  have h2 : s2.Canon := h.updLsp.foldl fun _ _ h => .ite h (.updEvents (.set (h.foldl fun _ _ h => h.numberRecords)))
  have h3 : s3.Canon := .ite h (h2.foldl fun _ _ h => .ite (.ite h.updLsp h.updLsp) h)
  exact .updLsp (.ite h3.markSelf h3)

protected theorem State.Canon.sendReport {r} (h : s.Canon) : (sendReport r s).Canon := by
  unfold Machine.sendReport
  exact h.foldl fun _ _ h => h.netTx

protected theorem State.Canon.publishReport {r} (h : s.Canon) : (publishReport s r).Canon := by
  unfold Machine.publishReport
  exact h.updLsp.sendReport

protected theorem State.Canon.releaseReports (h : s.Canon) : (releaseReports s).Canon := by
  unfold Machine.releaseReports
  exact .ite (h.updLsp.foldl fun _ _ h => h.publishReport) h.updLsp

protected theorem State.Canon.retransmit {r} (h : s.Canon) : (retransmit r s).Canon := by
  unfold Machine.retransmit
  exact h.updLsp.sendReport

protected theorem State.Canon.execSingletonRestart (h : s.Canon) : (execSingletonRestart s).Canon := by
  unfold Machine.execSingletonRestart
  exact .next (.ite (h.startSingletons.foldl fun _ _ h => h.publishReport) h.startSingletons)

protected theorem State.Canon.showArch (h : s.Canon) : (showArch s).Canon := by
  unfold Machine.showArch
  exact h.set.set

protected theorem State.Canon.captureRecord {r} (h : s.Canon) : (captureRecord r s).Canon := by
  unfold Machine.captureRecord
  exact .ite h.updLsp.raise h.updLsp.updLsp.set

protected theorem State.Canon.reclaimArch (h : s.Canon) : (reclaimArch s).Canon := by
  unfold Machine.reclaimArch
  exact .ite h (h.foldl fun _ _ h => .ite h h.upd.nandForget.fwLog)

protected theorem State.Canon.execRecordStored (h : s.Canon) : (execRecordStored s).Canon := by
  unfold Machine.execRecordStored
  refine .next ?_
  split
  exacts [h, .ite h h.upd.updEvents.nandArch.bump.set.reclaimArch.showArch.showWear]

protected theorem State.Canon.showCal (h : s.Canon) : (showCal s).Canon := by
  unfold Machine.showCal
  exact h.foldl fun _ _ h => h.setBit

protected theorem State.Canon.lspApply {b} (h : s.Canon) : (lspApply b s).Canon := by
  unfold Machine.lspApply
  exact .reviewStations (.showPublishing (.showCal (.showLspLanes (.raise (.setBit (.set (.updLsp (.foldl (.foldl
    (h.putConf.foldl fun _ _ h => .ite h h.set) fun _ _ h => .ite h (.ite h.updLsp h.reformGroup)) fun _ _ h => .ite
    h.setBit h.setBit.setBit))))))))

protected theorem State.Canon.lspWarm (h : s.Canon) : (lspWarm s).Canon := by
  unfold Machine.lspWarm
  exact .showLspLanes (.foldl (.setBit (.set (h.foldl fun _ _ h => h.reformGroup.setBit.set.set.set))) fun _ _ h =>
    .ite h h.set)

protected theorem State.Canon.execLarkspurGetStatus {r} (h : s.Canon) : (execLarkspurGetStatus r s).Canon := by
  unfold Machine.execLarkspurGetStatus
  exact .next (h.serve (fun _ h => .ok h))

protected theorem State.Canon.execLarkspurGetConfig {r} (h : s.Canon) : (execLarkspurGetConfig r s).Canon := by
  unfold Machine.execLarkspurGetConfig
  exact .next (h.serve (fun _ h => .ok h))

protected theorem State.Canon.execLarkspurSetConfig {r} (h : s.Canon) : (execLarkspurSetConfig r s).Canon := by
  unfold Machine.execLarkspurSetConfig
  exact .next h.setConfig

protected theorem State.Canon.execLarkspurGetEvents {r} (h : s.Canon) : (execLarkspurGetEvents r s).Canon := by
  unfold Machine.execLarkspurGetEvents
  refine .next (h.serve (fun _ h => ?_))
  split
  · exact .err h
  · extract_lets +onlyGivenNames held es out
    exact .ok h

protected theorem State.Canon.runTrigger {p} (h : s.Canon) : (runTrigger p s).Canon := by
  unfold Machine.runTrigger
  exact .ite h.triggerRecord (h.foldl fun _ _ h => .ite h.triggerRecord h)

protected theorem State.Canon.execLarkspurManualTrigger {r} (h : s.Canon) :
    (execLarkspurManualTrigger r s).Canon := by
  unfold Machine.execLarkspurManualTrigger
  refine .next (h.serve (fun _ h => ?_))
  extract_lets +onlyGivenNames g
  split
  · exact .err h
  · extract_lets +onlyGivenNames s1
    have h1 : s1.Canon := h.runTrigger
    split
    exacts [.ok h1.toPeers, .ok h1]

protected theorem State.Canon.startCal {f mask req} (h : s.Canon) : (startCal f mask req s).Canon := by
  unfold Machine.startCal
  exact h.updLsp.setBit

protected theorem State.Canon.execLarkspurCalibrate {r} (h : s.Canon) : (execLarkspurCalibrate r s).Canon := by
  unfold Machine.execLarkspurCalibrate
  refine .next (h.serve (fun _ h => ?_))
  extract_lets +onlyGivenNames mask
  split
  · exact .err h
  · refine .ite h.conflict ?_
    extract_lets +onlyGivenNames f
    split
    exacts [.later h.startCal.toPeers, h.conflict]

protected theorem State.Canon.endCal {c} (h : s.Canon) : (endCal c s).Canon := by
  unfold Machine.endCal
  extract_lets +onlyGivenNames b s1 s2
  have h1 : s1.Canon := h.foldl fun _ _ h => h.raiseIf
  have h2 : s2.Canon := h1.updLsp.setBit
  split
  · exact h2
  · extract_lets +onlyGivenNames new s3
    have h3 : s3.Canon := .ite h2.confWrite.pendObject h2
    split
    exacts [h3.finishD, h3]

protected theorem State.Canon.calFrame {k} (h : s.Canon) : (calFrame k s).Canon := by
  unfold Machine.calFrame
  split
  exacts [h, .ite h.updLsp.updEvents (.ite h.endCal h)]

protected theorem State.Canon.execMarkEdge (h : s.Canon) : (execMarkEdge s).Canon := by
  unfold Machine.execMarkEdge
  exact .next (.ite h (.ite h.recordMark.calFrame.send h.recordMark.calFrame))

end Sys2Proof.Machine
end

section
/-! SUPPORT. Canonical form is kept by the lockstep, time, the networks, MMS, the CAN controllers and the field. -/

namespace Sys2Proof.Machine

variable {s : State}

/-! ### Machine/Lockstep -/

protected theorem State.Canon.recordOnly {cnt} (h : s.Canon) : (recordOnly cnt s).Canon := by
  unfold Machine.recordOnly
  exact h.bump.raise

protected theorem State.Canon.execComparatorMismatch {unit port} (h : s.Canon) :
    (execComparatorMismatch unit port s).Canon := by
  unfold Machine.execComparatorMismatch
  exact .next (.ite h.raise.fail (.ite h.recordOnly h))

protected theorem State.Canon.execDelayPar {unit port} (h : s.Canon) : (execDelayPar unit port s).Canon := by
  unfold Machine.execDelayPar
  exact .next (.ite h.raise.fail h)

protected theorem State.Canon.execCompFail {unit} (h : s.Canon) : (execCompFail unit s).Canon := by
  unfold Machine.execCompFail
  exact .next (.ite h.raise.fail h)

protected theorem State.Canon.execStateSigCompare {differ} (h : s.Canon) : (execStateSigCompare differ s).Canon := by
  unfold Machine.execStateSigCompare
  refine .next ?_
  extract_lets +onlyGivenNames s1
  have h1 : s1.Canon := h.toPhase
  refine .ite h1 ?_
  extract_lets +onlyGivenNames rec' s2
  have h2 : s2.Canon := h1.foldl fun _ _ h => h.recordOnly
  split
  exacts [h2.raise.fail, h2]

/-- The state at that phase is kept in a variable `t`: no `match` on it may run the TIME counter. -/
protected theorem State.Canon.execInjectedComparatorTest {failed real} (h : s.Canon) :
    (execInjectedComparatorTest failed real s).Canon := by
  unfold Machine.execInjectedComparatorTest
  obtain ⟨t, ht⟩ : ∃ t, t = toPhase 224000 s := ⟨_, rfl⟩
  have h1 : t.Canon := ht ▸ h.toPhase
  rw [← ht]
  refine .next (.ite h1 ?_)
  extract_lets +onlyGivenNames bad seen s2 m s3 s4 s5
  have h4 : s4.Canon := .setBit (.set (.wrapUp (.foldl h1 fun _ _ h => h.recordOnly)))
  clear_value s4
  have h5 : s5.Canon := by
    clear_value bad
    unfold s5
    split
    exacts [h4, h4.raise.fail]
  clear_value s5
  split
  exacts [h5.raise.fail, h5]

protected theorem State.Canon.taintRole (h : s.Canon) : (taintRole s).Canon := by
  unfold Machine.taintRole
  exact .ite h (.ite (.ite h.toPeers.releaseOwn.recordOwn.countMove.cancelHandover.enterRole h.reviewOwner) h.disarm)

protected theorem State.Canon.setTaint (h : s.Canon) : (setTaint s).Canon := by
  unfold Machine.setTaint
  exact .ite h h.setBit.raise.taintRole.refreshLck

protected theorem State.Canon.execDebugAccess (h : s.Canon) : (execDebugAccess s).Canon := by
  unfold Machine.execDebugAccess
  exact .next h.setTaint

/-! ### Machine/Time -/

protected theorem State.Canon.unlock {n} (h : s.Canon) : (unlock n s).Canon := by
  unfold Machine.unlock
  exact .ite (.ite h.setBit.setBit.updSrc.upd h.setBit.setBit.updSrc) (.enterHoldover (.ite h.setBit.setBit.updSrc.upd
    h.setBit.setBit.updSrc))

protected theorem State.Canon.switchTo {n} (h : s.Canon) : (switchTo n s).Canon := by
  unfold Machine.switchTo
  exact .ite h (.upd (.ite h.updSrc.unlock h))

protected theorem State.Canon.lock {n} (h : s.Canon) : (lock n s).Canon := by
  unfold Machine.lock
  exact h.setBit.setBit.setBit.upd.setTimeFault

protected theorem State.Canon.refreshAgree (h : s.Canon) : (refreshAgree s).Canon := by
  unfold Machine.refreshAgree
  exact .ite (.setTimeFault (.upd (h.foldl fun _ _ h => h.setBit))) (.upd (h.foldl fun _ _ h => h.setBit))

protected theorem State.Canon.selectSource (h : s.Canon) : (selectSource s).Canon := by
  unfold Machine.selectSource
  exact h.switchTo.refreshAgree.reviewTime

protected theorem State.Canon.jumpSample {n} (h : s.Canon) : (jumpSample n s).Canon := by
  unfold Machine.jumpSample
  exact .ite h.raise.updSrc.updSrc.unlock.setBit.setBit.selectSource h.raise.updSrc

protected theorem State.Canon.steer {n ofs} (h : s.Canon) : (steer n ofs s).Canon := by
  unfold Machine.steer
  exact .ite h.setInt.servo h

protected theorem State.Canon.keepSample {n ofs} (h : s.Canon) : (keepSample n ofs s).Canon := by
  unfold Machine.keepSample
  exact h.setInt.updSrc

protected theorem State.Canon.execPtpOffsetSample {port domain ofs} (h : s.Canon) :
    (execPtpOffsetSample port domain ofs s).Canon := by
  unfold Machine.execPtpOffsetSample
  exact .next (.ite h (.ite h.jumpSample.reviewTime (.refreshQuality (.steer (.selectSource (.ite (.lock
    (.ite h.keepSample h.keepSample.setBit)) (.ite h.keepSample h.keepSample.setBit)))))))

protected theorem State.Canon.execFineLock {src} (h : s.Canon) : (execFineLock src s).Canon := by
  unfold Machine.execFineLock
  exact .next (.ite h.setBit.refreshQuality h)

protected theorem State.Canon.execLockLoss {src} (h : s.Canon) : (execLockLoss src s).Canon := by
  unfold Machine.execLockLoss
  exact .next (.ite h (.selectSource (.setBit (.ite h.updSrc.unlock h.updSrc))))

protected theorem State.Canon.steerRun {n ofs} (h : s.Canon) : (steerRun n ofs s).Canon := by
  unfold Machine.steerRun
  exact .ite (.ite h h.servo) h.steer

protected theorem State.Canon.countRun {n run ofs} (h : s.Canon) : (countRun n run ofs s).Canon := by
  unfold Machine.countRun
  exact .ite h.jumpSample.reviewTime (.refreshQuality (.steerRun (.selectSource (.ite (.lock (.ite h.keepSample.updSrc
    h.keepSample.updSrc.setBit)) (.ite h.keepSample.updSrc h.keepSample.updSrc.setBit)))))

protected theorem State.Canon.execIrigbFrame {localSec x} (h : s.Canon) : (execIrigbFrame localSec x s).Canon := by
  unfold Machine.execIrigbFrame
  exact .next (.ite (.selectSource (.updSrc (.setBit (.ite h.upd.unlock h.upd)))) h.upd.countRun)

protected theorem State.Canon.execPpsEdge {falling} (h : s.Canon) : (execPpsEdge falling s).Canon := by
  unfold Machine.execPpsEdge
  exact .next (.ite h (.ite h.jumpSample.reviewTime h.countRun))

protected theorem State.Canon.execDisagree (h : s.Canon) : (execDisagree s).Canon := by
  unfold Machine.execDisagree
  refine .next (.ite h ?_)
  extract_lets +onlyGivenNames sel s1 agreeing
  have h1 : s1.Canon := h.raise.setTimeFault
  clear_value s1 agreeing
  split
  exacts [h1.reviewTime, .reviewTime (.refreshAgree (.switchTo (.ite h1.upd h1)))]

protected theorem State.Canon.execOcxoStopped (h : s.Canon) : (execOcxoStopped s).Canon := by
  unfold Machine.execOcxoStopped
  exact .next h.raise.setTimeFault.refreshQuality.fail

protected theorem State.Canon.execOcxoFreqCheck {which ppm} (h : s.Canon) :
    (execOcxoFreqCheck which ppm s).Canon := by
  unfold Machine.execOcxoFreqCheck
  refine .next (.ite h ?_)
  split
  exacts [h.raise.setTimeFault.refreshQuality.fail, h.fail, h.fail]

protected theorem State.Canon.execOcxoDrifting (h : s.Canon) : (execOcxoDrifting s).Canon := by
  unfold Machine.execOcxoDrifting
  exact .next h.raise.setTimeFault.refreshQuality

protected theorem State.Canon.execOcxoWarm (h : s.Canon) : (execOcxoWarm s).Canon := by
  unfold Machine.execOcxoWarm
  exact .next h.setBit

protected theorem State.Canon.writeRate {value} (h : s.Canon) : (writeRate value s).Canon := by
  unfold Machine.writeRate
  exact .ite h.setInt.setTimeFault.reviewTime h.setInt

protected theorem State.Canon.execTimRateAdjWrite {value} (h : s.Canon) : (execTimRateAdjWrite value s).Canon := by
  unfold Machine.execTimRateAdjWrite
  exact .next h.writeRate

protected theorem State.Canon.writeSlew {value} (h : s.Canon) : (writeSlew value s).Canon := by
  unfold Machine.writeSlew
  exact h.setInt.refreshQuality

protected theorem State.Canon.execTimSlewRemWrite {value} (h : s.Canon) : (execTimSlewRemWrite value s).Canon := by
  unfold Machine.execTimSlewRemWrite
  exact .next h.writeSlew

protected theorem State.Canon.timeCycle {extra} (h : s.Canon) : (timeCycle extra s).2.Canon := by
  unfold Machine.timeCycle
  exact .elapse (.setNow h.upd)

protected theorem State.Canon.execSlewCorrection (h : s.Canon) : (execSlewCorrection s).Canon := by
  unfold Machine.execSlewCorrection
  exact .next (.ite h (.refreshQuality (.setInt (.upd (.ite h.timeCycle.timeCycle h.timeCycle)))))

protected theorem State.Canon.execPtpAnnounce {port domain utcValid utcOffset leap61 leap59} (h : s.Canon) :
    (execPtpAnnounce port domain utcValid utcOffset leap61 leap59 s).Canon := by
  unfold Machine.execPtpAnnounce
  exact .next (.ite h h.updSrc.refreshTai)

protected theorem State.Canon.execPtpDelayReq {port} (h : s.Canon) : (execPtpDelayReq port s).Canon := by
  unfold Machine.execPtpDelayReq
  exact .next (.ite h h.upd.netTx)

protected theorem State.Canon.execLeapApply (h : s.Canon) : (execLeapApply s).Canon := by
  unfold Machine.execLeapApply
  exact .next (.ite h h.upd.setTaiUtc)

protected theorem State.Canon.syncMiss (h : s.Canon) : (syncMiss s).Canon := by
  unfold Machine.syncMiss
  exact .ite h.upd.raise.setTimeFault.reviewTime h.upd.raise

protected theorem State.Canon.execFrameSyncEdge {phaseNs} (h : s.Canon) : (execFrameSyncEdge phaseNs s).Canon := by
  unfold Machine.execFrameSyncEdge
  exact .next (.ite h (.ite h.upd.setInt.syncMiss
    (.ite h.upd.setInt.upd.setTimeFault.reviewTime.setInt.servo.refreshQuality
    h.upd.setInt.upd.setTimeFault.reviewTime)))

protected theorem State.Canon.execSyncFault (h : s.Canon) : (execSyncFault s).Canon := by
  unfold Machine.execSyncFault
  exact .next (.ite h h.upd.syncMiss)

protected theorem State.Canon.wordMissing (h : s.Canon) : (wordMissing s).Canon := by
  unfold Machine.wordMissing
  exact .ite h.upd.setTickRole h.upd

protected theorem State.Canon.matchCount {sec k} (h : s.Canon) : (matchCount sec k s).Canon := by
  unfold Machine.matchCount
  exact .ite h.setTimeFault (.ite h.setTimeFault h.stepCounter.setTimeFault)

protected theorem State.Canon.followWord {w} (h : s.Canon) : (followWord w s).Canon := by
  unfold Machine.followWord
  exact h.setTickRole.upd.matchCount.setTaiUtc

protected theorem State.Canon.winWord (h : s.Canon) : (winWord s).Canon := by
  unfold Machine.winWord
  exact h.upd.setTickRole.setTimeFault.setTimeFault

protected theorem State.Canon.loseWord (h : s.Canon) : (loseWord s).Canon := by
  unfold Machine.loseWord
  exact h.upd.setTickRole

protected theorem State.Canon.execTimeBusWord {others word} (h : s.Canon) :
    (execTimeBusWord others word s).Canon := by
  unfold Machine.execTimeBusWord
  refine .next ?_
  extract_lets +onlyGivenNames w own me wins least ownRun run prio driven s1 valid s2 arb tm s3 s4
  have h1 : s1.Canon := h.toPhase
  have h2 : s2.Canon := .ite h1.winWord (.ite h1.followWord (.wordMissing (.ite h1.loseWord h1)))
  have h3 : s3.Canon := .ite h2 (.set (.set h2.upd))
  have h4 : s4.Canon := .ite h3.send h3
  exact .reviewTime (.refreshRunLock h4.upd)

protected theorem State.Canon.execTimeBusWordMissing (h : s.Canon) : (execTimeBusWordMissing s).Canon := by
  unfold Machine.execTimeBusWordMissing
  exact .next h.wordMissing.reviewTime

protected theorem State.Canon.execTickEligible (h : s.Canon) : (execTickEligible s).Canon := by
  unfold Machine.execTickEligible
  exact .next (.ite h.upd.reviewTime h)

protected theorem State.Canon.execTimeGetStatus {r} (h : s.Canon) : (execTimeGetStatus r s).Canon := by
  unfold Machine.execTimeGetStatus
  exact .next (h.serve (fun _ h => .ok h))

protected theorem State.Canon.execTimeGetSources {r} (h : s.Canon) : (execTimeGetSources r s).Canon := by
  unfold Machine.execTimeGetSources
  exact .next (h.serve (fun _ h => .ok h))

protected theorem State.Canon.execTimeGetConfig {r} (h : s.Canon) : (execTimeGetConfig r s).Canon := by
  unfold Machine.execTimeGetConfig
  exact .next (h.serve (fun _ h => .ok h))

protected theorem State.Canon.execTimeSetConfig {r} (h : s.Canon) : (execTimeSetConfig r s).Canon := by
  unfold Machine.execTimeSetConfig
  refine .next (h.serve (fun _ h => ?_))
  split
  exacts [.err h, .ite h.conflict (.ok h.confWrite.putConf.upd)]

protected theorem State.Canon.execTimeStep {r} (h : s.Canon) : (execTimeStep r s).Canon := by
  unfold Machine.execTimeStep
  exact .next (h.serve (fun _ h => .ite (.err h) (.ite h.conflict (.ok h.stepCounter.refreshQuality))))

protected theorem State.Canon.execTimeSetTaiUtc {r} (h : s.Canon) : (execTimeSetTaiUtc r s).Canon := by
  unfold Machine.execTimeSetTaiUtc
  exact .next (h.serve (fun _ h => .ite (.err h) (.ok h.upd.refreshTai)))

protected theorem State.Canon.applyTimeConfig (h : s.Canon) : (applyTimeConfig s).Canon := by
  unfold Machine.applyTimeConfig
  split
  · exact h
  · exact .selectSource (.foldl h.upd fun _ _ h => h.set)

protected theorem State.Canon.tickTime (h : s.Canon) : (tickTime s).Canon := by
  unfold Machine.tickTime
  exact .refreshQuality (.applyTimeConfig (.ite (.send (.ite h.advanceTo.upd.set.refreshRunLock.syncMiss
    h.advanceTo.upd.set.refreshRunLock)) (.ite h.advanceTo.upd.set.refreshRunLock.syncMiss
    h.advanceTo.upd.set.refreshRunLock)))

/-! ### Machine/Network -/

protected theorem State.Canon.updNet {f} (h : s.Canon) : (State.updNet s f).Canon := by
  unfold Machine.State.updNet
  exact h.upd

protected theorem State.Canon.updSub {i f} (h : s.Canon) : (State.updSub s i f).Canon := by
  unfold Machine.State.updSub
  exact h.updNet

protected theorem State.Canon.restorePub {u j vals} (h : s.Canon) : (restorePub u j vals s).Canon := by
  unfold Machine.restorePub
  refine h.foldl fun _ _ h => ?_
  split
  exacts [h.upd, h]

protected theorem State.Canon.gatherPub {k u j} (h : s.Canon) : (gatherPub k u s j).Canon := by
  unfold Machine.gatherPub
  refine .ite h ?_
  dsimp only
  split
  exacts [h, h.updNet.set]

protected theorem State.Canon.gatherPubs {u} (h : s.Canon) : (gatherPubs u s).Canon := by
  unfold Machine.gatherPubs
  exact h.updNet.foldl fun _ _ h => h.gatherPub

protected theorem State.Canon.undoPubs {mask} (h : s.Canon) : (undoPubs mask s).Canon := by
  unfold Machine.undoPubs
  refine h.foldl fun _ _ h => .set (.updNet ?_)
  split
  exacts [.ite h.restorePub h, h]

protected theorem State.Canon.sendPub {u j tal} (h : s.Canon) : (sendPub u s j tal).Canon := by
  unfold Machine.sendPub
  exact .setBit (.bump (h.foldl fun _ _ h => h.netTx))

protected theorem State.Canon.releasePubs {u} (h : s.Canon) : (releasePubs u s).Canon := by
  unfold Machine.releasePubs
  refine .undoPubs (h.foldl fun _ _ h => ?_)
  split
  exacts [.ite h.setBit h.sendPub, h]

protected theorem State.Canon.showSending (h : s.Canon) : (showSending s).Canon := by
  unfold Machine.showSending
  exact h.foldl fun _ _ h => h.setBit

protected theorem State.Canon.execTxLate {port} (h : s.Canon) : (execTxLate port s).Canon := by
  unfold Machine.execTxLate
  exact .next h.bump.raise

protected theorem State.Canon.authFailed {port sub} (h : s.Canon) : (authFailed port sub s).Canon := by
  unfold Machine.authFailed
  refine .raise (.bump ?_)
  split
  exacts [h.setBit, h]

protected theorem State.Canon.acceptGoose {i f} (h : s.Canon) : (acceptGoose i f s).Canon := by
  unfold Machine.acceptGoose
  exact .touchBlock (.reviewStations (.setBit (.setBit (.setBit (.setBit (.setBit (.updSub (.ite h.bump h))))))))

protected theorem State.Canon.showNodes (h : s.Canon) : (showNodes s).Canon := by
  unfold Machine.showNodes
  exact h.foldl fun _ _ h => h.set

protected theorem State.Canon.addNode {p src} (h : s.Canon) : (addNode p src s).Canon := by
  unfold Machine.addNode
  exact .ite h h.updNet.showNodes

protected theorem State.Canon.ptpDeliver {n p} (h : s.Canon) : (ptpDeliver n p s).Canon := by
  unfold Machine.ptpDeliver
  exact .ite h.netTx.netTx h

protected theorem State.Canon.hsrForward {i k seq} (h : s.Canon) : (hsrForward i k seq s).Canon := by
  unfold Machine.hsrForward
  extract_lets +onlyGivenNames other
  split
  exacts [.ite h h.portTx, h.portTx]

protected theorem State.Canon.netDeliver {f} (h : s.Canon) : (netDeliver f s).Canon := by
  unfold Machine.netDeliver
  extract_lets +onlyGivenNames ip
  split
  exacts [.ite h.netTx h, .ite h.netTx h, h.ptpDeliver, h, h, h]

protected theorem State.Canon.netRedundant {i k lan seq} (h : s.Canon) : (netRedundant i k lan seq s).2.Canon := by
  unfold Machine.netRedundant
  refine .iteSnd h ?_
  extract_lets +onlyGivenNames known s1 s2
  have h2 : s2.Canon := .ite h.addNode.bump.raise h.addNode
  clear_value s2
  split
  · dsimp only
    exact h2.updNet
  · dsimp only
    exact .ite h2.updNet.hsrForward h2.updNet

protected theorem State.Canon.takeTagged {i k} (h : s.Canon) : (takeTagged i k s).2.Canon := by
  unfold Machine.takeTagged
  split
  exacts [.iteSnd h.netRedundant h, h]

protected theorem State.Canon.takeIn {i k} (h : s.Canon) : (takeIn i k s).2.Canon := by
  unfold Machine.takeIn
  extract_lets +onlyGivenNames b
  exact .iteSnd h (.iteSnd h.bump (.iteSnd h.bump (.iteSnd h.bump (.iteSnd h (.iteSnd (.iteSnd h.takeTagged h)
    (.iteSnd h.bump (.iteSnd h h.updNet.takeTagged)))))))

protected theorem State.Canon.execNetFrameRx {f} (h : s.Canon) : (execNetFrameRx f s).Canon := by
  unfold Machine.execNetFrameRx
  exact .next (.ite h.takeIn.netDeliver h.takeIn)

protected theorem State.Canon.execPrpSupervision {pair} (h : s.Canon) : (execPrpSupervision pair s).Canon := by
  unfold Machine.execPrpSupervision
  exact .next (.ite h h.netTx)

protected theorem State.Canon.showNetwork (h : s.Canon) : (showNetwork s).Canon := by
  unfold Machine.showNetwork
  exact .showNodes (.foldl (h.foldl fun _ _ h => .ite h h.setBit) fun _ _ h => .ite h h.set)

protected theorem State.Canon.execNodeForget {pair mac} (h : s.Canon) : (execNodeForget pair mac s).Canon := by
  unfold Machine.execNodeForget
  exact .next h.updNet.showNodes

protected theorem State.Canon.execEntryForget {pair src seq} (h : s.Canon) :
    (execEntryForget pair src seq s).Canon := by
  unfold Machine.execEntryForget
  refine .next ?_
  split
  · exact h
  · extract_lets +onlyGivenNames s1
    have h1 : s1.Canon := h.updNet
    exact .ite h1 (.ite h1.bump (.ite h1.bump h1))

protected theorem State.Canon.execLinkChange {port up speed seated fault} (h : s.Canon) :
    (execLinkChange port up speed seated fault s).Canon := by
  unfold Machine.execLinkChange
  exact .next (.ite h (.raiseIf (.ite h.setBit.set.setBit.setBit.setBit h.setBit.set.setBit.setBit.set.set)))

protected theorem State.Canon.setMacsec {port up} (h : s.Canon) : (setMacsec port up s).Canon := by
  unfold Machine.setMacsec
  exact .showPmus (.set (.setBit (.ite h.updNet h)))

protected theorem State.Canon.execMacsecUp {port} (h : s.Canon) : (execMacsecUp port s).Canon := by
  unfold Machine.execMacsecUp
  exact .next (.ite h.setMacsec h)

protected theorem State.Canon.loseMacsec {port} (h : s.Canon) : (loseMacsec port s).Canon := by
  unfold Machine.loseMacsec
  exact .ite h.setMacsec.raise h

protected theorem State.Canon.execMacsecDown {port} (h : s.Canon) : (execMacsecDown port s).Canon := by
  unfold Machine.execMacsecDown
  exact .next (.ite h.loseMacsec h)

protected theorem State.Canon.showPort {b n} (h : s.Canon) : (showPort b s n).Canon := by
  unfold Machine.showPort
  exact .ite h.setBit.set.setBit.setBit h.setBit.set.setBit.setBit.loseMacsec

protected theorem State.Canon.netApply {b} (h : s.Canon) : (netApply b s).Canon := by
  unfold Machine.netApply
  exact .reviewStations (.showPmus (.showSending (.raise (.set (.foldl (.foldl (.set (.set (h.putConf.foldl
    fun _ _ h => h.showPort))) fun _ _ h => .setBit (.ite h.updNet h)) fun _ _ h => .setBit (.ite h.updSub.set h))))))

/-! ### Machine/Mms -/

protected theorem State.Canon.mmsSend {i kind data} (h : s.Canon) : (mmsSend i kind data s).Canon := by
  unfold Machine.mmsSend
  exact h.netTx

protected theorem State.Canon.mmsServe {i role kind f} (h : s.Canon) (hf : ∀ t, t.Canon → (f t).Canon) :
    (mmsServe i role kind f s).Canon := by
  unfold Machine.mmsServe
  exact .ite (hf _ h) (.ite h.mmsSend h)

protected theorem State.Canon.closeFiles {p} (h : s.Canon) : (closeFiles p s).Canon := by
  unfold Machine.closeFiles
  exact h.updNet.upd

protected theorem State.Canon.mmsClose {i} (h : s.Canon) : (mmsClose i s).Canon := by
  unfold Machine.mmsClose
  exact h.closeFiles.updNet

protected theorem State.Canon.execMmsConclude {assoc} (h : s.Canon) : (execMmsConclude assoc s).Canon := by
  unfold Machine.execMmsConclude
  exact .next (.ite h.mmsSend.mmsClose h)

protected theorem State.Canon.execMmsAbort {assoc} (h : s.Canon) : (execMmsAbort assoc s).Canon := by
  unfold Machine.execMmsAbort
  exact .next h.mmsClose

protected theorem State.Canon.execMmsGetNameList {assoc} (h : s.Canon) : (execMmsGetNameList assoc s).Canon := by
  unfold Machine.execMmsGetNameList
  exact .next (h.mmsServe (fun _ h => h.mmsSend))

protected theorem State.Canon.execMmsIdentify {assoc} (h : s.Canon) : (execMmsIdentify assoc s).Canon := by
  unfold Machine.execMmsIdentify
  exact .next (h.mmsServe (fun _ h => h.mmsSend))

protected theorem State.Canon.execMmsRead {assoc index} (h : s.Canon) : (execMmsRead assoc index s).Canon := by
  unfold Machine.execMmsRead
  refine .next (h.mmsServe (fun _ h => ?_))
  split <;> exact h.mmsSend

protected theorem State.Canon.execMmsGetVariableAccessAttributes {assoc index} (h : s.Canon) :
    (execMmsGetVariableAccessAttributes assoc index s).Canon := by
  unfold Machine.execMmsGetVariableAccessAttributes
  refine .next (h.mmsServe (fun _ h => ?_))
  split <;> exact h.mmsSend

protected theorem State.Canon.execMmsGetNamedVarListAttributes {assoc list} (h : s.Canon) :
    (execMmsGetNamedVarListAttributes assoc list s).Canon := by
  unfold Machine.execMmsGetNamedVarListAttributes
  exact .next (h.mmsServe (fun _ h => h.mmsSend))

protected theorem State.Canon.execMmsWriteRcb {assoc rcb enable value} (h : s.Canon) :
    (execMmsWriteRcb assoc rcb enable value s).Canon := by
  unfold Machine.execMmsWriteRcb
  exact .next (h.mmsServe (fun _ h => .ite h.mmsSend (.updNet (.ite (h.mmsSend.foldl fun _ _ h => h.mmsSend)
    h.mmsSend))))

protected theorem State.Canon.mmsReport {changed} (h : s.Canon) : (mmsReport changed s).Canon := by
  unfold Machine.mmsReport
  exact .ite h (h.foldl fun _ _ h => .ite h (.ite h.mmsSend h.updNet))

protected theorem State.Canon.execMmsFileDirectory {assoc} (h : s.Canon) : (execMmsFileDirectory assoc s).Canon := by
  unfold Machine.execMmsFileDirectory
  exact .next (h.mmsServe (fun _ h => h.mmsSend))

protected theorem State.Canon.execMmsFileOpen {assoc recId} (h : s.Canon) :
    (execMmsFileOpen assoc recId s).Canon := by
  unfold Machine.execMmsFileOpen
  exact .next (h.mmsServe (fun _ h => .ite h.updNet.upd.mmsSend h.mmsSend))

protected theorem State.Canon.execMmsFileRead {assoc frsm count} (h : s.Canon) :
    (execMmsFileRead assoc frsm count s).Canon := by
  unfold Machine.execMmsFileRead
  refine .next (h.mmsServe (fun _ h => ?_))
  split
  · exact h.mmsSend
  · split
    exacts [h.mmsSend, .ite h.mmsSend h.updNet.mmsSend]

protected theorem State.Canon.execMmsFileClose {assoc frsm} (h : s.Canon) :
    (execMmsFileClose assoc frsm s).Canon := by
  unfold Machine.execMmsFileClose
  exact .next (h.mmsServe (fun _ h => h.closeFiles.mmsSend))

/-! ### Machine/CanAux -/

protected theorem State.Canon.showCan (h : s.Canon) : (showCan s).Canon := by
  unfold Machine.showCan
  exact h.setBit.setBit.setBit.setBit.foldl fun _ _ h => h.setBit

protected theorem State.Canon.canApply {b} (h : s.Canon) : (canApply b s).Canon := by
  unfold Machine.canApply
  exact .raise (.set (.showCan (.putConf (.foldl (h.foldl fun _ _ h => h.foldl fun _ _ h => .ite (.ite (.ite (.updCan
    (.ite h.canFail h)) (.ite h.canFail h)) (.updObj (.ite (.updCan (.ite h.canFail h)) (.ite h.canFail h)))) h)
    fun _ _ h => .ite h h.updCan))))

protected theorem State.Canon.putCounts {c tec rec} (h : s.Canon) : (putCounts c tec rec s).Canon := by
  unfold Machine.putCounts
  exact h.set.set.setBit

protected theorem State.Canon.logState {c} (h : s.Canon) : (logState c s).Canon := by
  unfold Machine.logState
  exact h.canLog

protected theorem State.Canon.afterErr {c was} (h : s.Canon) : (afterErr c was s).Canon := by
  unfold Machine.afterErr
  exact .ite h (.ite (.canFailPending (.logState (.ite h.raise (.ite h.raise h)))) (.logState (.ite h.raise
    (.ite h.raise h))))

protected theorem State.Canon.recAfterFrame {c f} (h : s.Canon) : (recAfterFrame c f s).Canon := by
  unfold Machine.recAfterFrame
  exact .ite h (.set (.putCounts (.iteSnd h (.iteSnd h.took h))))

protected theorem State.Canon.countErr {c err} (h : s.Canon) : (countErr c err s).Canon := by
  unfold Machine.countErr
  split
  exacts [h.bump, h]

protected theorem State.Canon.takeFrame {c f} (h : s.Canon) : (takeFrame c f s).Canon := by
  unfold Machine.takeFrame
  extract_lets +onlyGivenNames b was s1
  have h1 : s1.Canon := h.bump.recAfterFrame
  split
  · extract_lets +onlyGivenNames s2
    have h2 : s2.Canon := h1.updObj
    exact h2.canLog.afterErr
  · exact h1.canLog.afterErr

protected theorem State.Canon.canOffer {c sof n} (h : s.Canon) : (canOffer c sof n s).2.Canon := by
  induction n generalizing s with
  | zero => exact h
  | succ n ih =>
    unfold Machine.canOffer
    split
    · exact h
    · split
      · exact ih h.canFail
      · exact h

protected theorem State.Canon.execCanBusIdle {c sof lost} (h : s.Canon) : (execCanBusIdle c sof lost s).Canon := by
  unfold Machine.execCanBusIdle
  refine .next (.ite h ?_)
  extract_lets +onlyGivenNames p
  split
  exacts [h.canOffer, .ite h.canOffer.bump h.canOffer.updCan]

protected theorem State.Canon.canSent {c o sof} (h : s.Canon) : (canSent c o sof s).Canon := by
  unfold Machine.canSent
  exact h.putCounts.set.updObj.canLog.afterErr

protected theorem State.Canon.execCanTxDone {c reason bitPos dominant extra} (h : s.Canon) :
    (execCanTxDone c reason bitPos dominant extra s).Canon := by
  unfold Machine.execCanTxDone
  refine .next ?_
  split
  · exact h
  · extract_lets +onlyGivenNames sof s1
    have h1 : s1.Canon := h.updCan
    exact .ite h1.canSent h1.countErr.putCounts.set.canFail.afterErr

protected theorem State.Canon.execCanRecoveryComplete {c} (h : s.Canon) : (execCanRecoveryComplete c s).Canon := by
  unfold Machine.execCanRecoveryComplete
  exact .next (.ite h h.putCounts.set.set.logState)

protected theorem State.Canon.execCanBusIntegration {c} (h : s.Canon) : (execCanBusIntegration c s).Canon := by
  unfold Machine.execCanBusIntegration
  exact .next (.ite h (.ite (.setBit (.ite h.updCan.set h.updCan)) (.ite h.updCan.set h.updCan)))

protected theorem State.Canon.canTaken (h : s.Canon) : (canTaken s).Canon := by
  unfold Machine.canTaken
  exact h.upd

protected theorem State.Canon.canRun (h : s.Canon) : (canRun s).Canon := by
  unfold Machine.canRun
  exact h.upd

protected theorem State.Canon.execCanauxGetStatus {r} (h : s.Canon) : (execCanauxGetStatus r s).Canon := by
  unfold Machine.execCanauxGetStatus
  exact .next (h.serve (fun _ h => .ok h))

protected theorem State.Canon.execCanauxGetConfig {r} (h : s.Canon) : (execCanauxGetConfig r s).Canon := by
  unfold Machine.execCanauxGetConfig
  exact .next (h.serve (fun _ h => .ok h))

protected theorem State.Canon.execCanauxSetConfig {r} (h : s.Canon) : (execCanauxSetConfig r s).Canon := by
  unfold Machine.execCanauxSetConfig
  exact .next h.setConfig

protected theorem State.Canon.execCanauxTxEnqueue {r} (h : s.Canon) : (execCanauxTxEnqueue r s).Canon := by
  unfold Machine.execCanauxTxEnqueue
  refine .next (h.serve (fun _ h => ?_))
  extract_lets +onlyGivenNames c o
  split
  · exact .err h
  · refine .ite ?_ (.ite h.conflict (.ok h.updObj))
    split
    exacts [.ok h, h.conflict]

protected theorem State.Canon.execCanauxRecover {r} (h : s.Canon) : (execCanauxRecover r s).Canon := by
  unfold Machine.execCanauxRecover
  refine .next (h.serve (fun _ h => ?_))
  extract_lets +onlyGivenNames c
  split
  exacts [.err h, .ite (.ok h.set.set.logState) h.conflict]

protected theorem State.Canon.execCanauxReadRx {r} (h : s.Canon) : (execCanauxReadRx r s).Canon := by
  unfold Machine.execCanauxReadRx
  refine .next (h.serve (fun _ h => ?_))
  extract_lets +onlyGivenNames c first n
  split
  · exact .err h
  · extract_lets +onlyGivenNames l nxt
    exact .ok h

/-! ### Machine/FieldIo -/

protected theorem State.Canon.fioApply {b} (h : s.Canon) : (fioApply b s).Canon := by
  unfold Machine.fioApply
  exact h.putConf.updFio.set.set.showStages.raise

protected theorem State.Canon.noteFld24 {mv} (h : s.Canon) : (noteFld24 mv s).Canon := by
  unfold Machine.noteFld24
  exact .ite h.set h

protected theorem State.Canon.noteBelow {mv} (h : s.Canon) : (noteBelow mv s).Canon := by
  unfold Machine.noteBelow
  exact h.took.noteFld24

protected theorem State.Canon.execFldLow (h : s.Canon) : (execFldLow s).Canon := by
  unfold Machine.execFldLow
  exact .next (.ite h h.setBit.raise.raise.noteBelow)

protected theorem State.Canon.execFldNormal (h : s.Canon) : (execFldNormal s).Canon := by
  unfold Machine.execFldNormal
  exact .next (.ite h h.setBit)

protected theorem State.Canon.execLockout (h : s.Canon) : (execLockout s).Canon := by
  unfold Machine.execLockout
  exact .next (.ite h h.setBit.setBit.raise.raise.updFio.noteBelow.showStages)

protected theorem State.Canon.execLockoutEnd {mv} (h : s.Canon) : (execLockoutEnd mv s).Canon := by
  unfold Machine.execLockoutEnd
  exact .next (.ite h h.setBit.setBit.noteFld24.updFio)

protected theorem State.Canon.execDoLatchOff {n} (h : s.Canon) : (execDoLatchOff n s).Canon := by
  unfold Machine.execDoLatchOff
  exact .next (.ite h h.updFio.set.raise)

protected theorem State.Canon.execDiSinkWindow {ua mv} (h : s.Canon) : (execDiSinkWindow ua mv s).Canon := by
  unfold Machine.execDiSinkWindow
  exact .next h.toPhase.updFio.raiseIf

protected theorem State.Canon.sampleDi {x n} (h : s.Canon) : (sampleDi x s n).Canon := by
  unfold Machine.sampleDi
  extract_lets +onlyGivenNames c p s1 was
  have hp : p.2.Canon := by
    unfold p
    split
    exacts [h, h.took]
  have h1 : s1.Canon := hp.set
  exact .ite h1 (.ite h1.updFio (.ite h1.updFio.set h1.updFio))

protected theorem State.Canon.sampleDo {x n} {p : Nat × State} (h : p.2.Canon) : (sampleDo x p n).2.Canon := by
  unfold Machine.sampleDo
  refine .set ?_
  split
  · exact h
  · exact h.took

protected theorem State.Canon.sampleAi {x n} (h : s.Canon) : (sampleAi x s n).Canon := by
  unfold Machine.sampleAi
  exact .ite h.updFio.set.set.setBit h.updFio.set.set.setBit.raiseIf

protected theorem State.Canon.aoJudge {n i f e cond} (h : s.Canon) : (aoJudge n i f e cond s).Canon := by
  unfold Machine.aoJudge
  exact .ite h.updFio (.ite h.updFio.setBit.raiseIf h.updFio)

protected theorem State.Canon.aoLoop {x n} (h : s.Canon) : (aoLoop x n s).Canon := by
  unfold Machine.aoLoop
  exact h.aoJudge.aoJudge

protected theorem State.Canon.aoHeat {x n} (h : s.Canon) : (aoHeat x n s).Canon := by
  unfold Machine.aoHeat
  exact .ite h.aoJudge.updFio (.ite h.aoJudge.updFio.showStages h.aoJudge)

protected theorem State.Canon.coolStages (h : s.Canon) : (coolStages s).Canon := by
  unfold Machine.coolStages
  exact h.updFio

protected theorem State.Canon.sampleAo {x n} (h : s.Canon) : (sampleAo x s n).Canon := by
  unfold Machine.sampleAo
  exact .ite h.set.aoJudge (.ite h.set.aoJudge.aoHeat.updFio h.set.aoJudge.aoHeat.aoLoop)

protected theorem State.Canon.startWetting (h : s.Canon) : (startWetting s).Canon := by
  unfold Machine.startWetting
  exact .ite h.updFio h

/-- The state at that phase is kept in a variable `t`: no `match` on it may run the TIME counter. -/
protected theorem State.Canon.execFieldSampleInstant {x} (h : s.Canon) : (execFieldSampleInstant x s).Canon := by
  unfold Machine.execFieldSampleInstant
  obtain ⟨t, ht⟩ : ∃ t, t = toPhase 195000 s := ⟨_, rfl⟩
  have h1 : t.Canon := ht ▸ h.toPhase
  rw [← ht]
  refine .next ?_
  extract_lets +onlyGivenNames s1 s2 s3 s4 p s5 twice s6
  have h4 : s4.Canon := .foldl (.noteFld24 (.updFio (.set h1))) fun _ _ h => h.sampleDi
  clear_value s4
  have hp : p.2.Canon := .foldlSnd (fun _ _ h => h.sampleDo) h4
  clear_value p
  have h6 : s6.Canon := .ite hp (.raiseIf hp.updFio)
  exact .startWetting (.foldl (.foldl h6 fun _ _ h => h.sampleAi) fun _ _ h => h.sampleAo)

protected theorem State.Canon.execWettingPulseEnd (h : s.Canon) : (execWettingPulseEnd s).Canon := by
  unfold Machine.execWettingPulseEnd
  exact .next h.updFio

protected theorem State.Canon.updateAo {n} (h : s.Canon) : (updateAo s n).Canon := by
  unfold Machine.updateAo
  exact h.updFio

protected theorem State.Canon.reenable (h : s.Canon) : (reenable s).Canon := by
  unfold Machine.reenable
  exact .ite h.updFio h

protected theorem State.Canon.execFieldUpdate (h : s.Canon) : (execFieldUpdate s).Canon := by
  unfold Machine.execFieldUpdate
  exact .next (.ite h.toPhase (.showStages (.ite (.reenable (h.toPhase.set.coolStages.foldl fun _ _ h => h.updateAo))
    (.updFio (.reenable (h.toPhase.set.coolStages.foldl fun _ _ h => h.updateAo))))))

protected theorem State.Canon.execFieldioGetStatus {r} (h : s.Canon) : (execFieldioGetStatus r s).Canon := by
  unfold Machine.execFieldioGetStatus
  exact .next (h.serve (fun _ h => .ok h))

protected theorem State.Canon.execFieldioGetConfig {r} (h : s.Canon) : (execFieldioGetConfig r s).Canon := by
  unfold Machine.execFieldioGetConfig
  exact .next (h.serve (fun _ h => .ok h))

protected theorem State.Canon.execFieldioSetConfig {r} (h : s.Canon) : (execFieldioSetConfig r s).Canon := by
  unfold Machine.execFieldioSetConfig
  exact .next h.setConfig

protected theorem State.Canon.execFieldioClearFault {r} (h : s.Canon) : (execFieldioClearFault r s).Canon := by
  unfold Machine.execFieldioClearFault
  exact .next (h.serve (fun _ h => .ite (.err h) (.ok (.ite (.setReg (.ite h.setBit.raiseIf h)) (.ite h.setBit.raiseIf
    h)))))

end Sys2Proof.Machine
end

section
/-! SUPPORT. Canonical form is kept by bundles, trials, the pair and the program. -/

namespace Sys2Proof.Machine

variable {s : State}

/-! ### Machine/Bundle -/

protected theorem State.Canon.raiseUnbootable {u} (h : s.Canon) : (raiseUnbootable u s).Canon := by
  unfold Machine.raiseUnbootable
  split <;> exact h.raise

protected theorem State.Canon.firstBootable {l} (h : s.Canon) : (firstBootable l s).2.Canon := by
  induction l generalizing s with
  | nil => exact h
  | cons p r ih =>
    unfold Machine.firstBootable
    split
    · exact h
    · exact ih h.raiseUnbootable

/-! ### Machine/Retain -/

protected theorem State.Canon.updProg {f} (h : s.Canon) : (State.updProg s f).Canon := by
  unfold Machine.State.updProg
  exact h.upd

protected theorem State.Canon.bumpConf {o} (h : s.Canon) : (bumpConf o s).Canon := by
  unfold Machine.bumpConf
  exact h.upd

protected theorem State.Canon.beginConf {w} (h : s.Canon) : (beginConf w s).Canon := by
  unfold Machine.beginConf
  exact h.upd

protected theorem State.Canon.saveRetain (h : s.Canon) : (saveRetain s).Canon := by
  unfold Machine.saveRetain
  exact .ite h h.beginConf.bumpConf

protected theorem State.Canon.confDone {w} (h : s.Canon) : (confDone w s).Canon := by
  unfold Machine.confDone
  split
  · extract_lets +onlyGivenNames s1
    have h1 : s1.Canon := h.nandConf
    exact h1.upd
  · extract_lets +onlyGivenNames s1
    have h1 : s1.Canon := h.nandConf
    exact h1.upd

protected theorem State.Canon.flushNand (h : s.Canon) : (flushNand s).Canon := by
  unfold Machine.flushNand
  exact .flushLog (h.upd.foldl fun _ _ h => h.confDone)

protected theorem State.Canon.leaveGroup (h : s.Canon) : (leaveGroup s).Canon := by
  unfold Machine.leaveGroup
  exact h.releaseOwn.toPeers.upd.enterRole.showTriad

protected theorem State.Canon.completeRemoval (h : s.Canon) : (completeRemoval s).Canon := by
  unfold Machine.completeRemoval
  exact .upd (.ite h.saveRetain.flushNand.upd (.ite h.saveRetain.flushNand.toPeers.upd.enterRole.showTriad
    h.saveRetain.flushNand.leaveGroup))

protected theorem State.Canon.nameHandover (h : s.Canon) : (nameHandover s).Canon := by
  unfold Machine.nameHandover
  exact h.upd

/-! ### Machine/Trial -/

protected theorem State.Canon.updSec {f} (h : s.Canon) : (State.updSec s f).Canon := by
  unfold Machine.State.updSec
  exact h.upd

protected theorem State.Canon.writeRecord {f} (h : s.Canon) : (writeRecord f s).Canon := by
  unfold Machine.writeRecord
  exact h.updSec.nandBoot.nandBoot

protected theorem State.Canon.setAttempts {n} (h : s.Canon) : (setAttempts n s).Canon := by
  unfold Machine.setAttempts
  exact h.writeBackup

protected theorem State.Canon.forwardTo {k data} (h : s.Canon) : (forwardTo k data s).Canon := by
  unfold Machine.forwardTo
  exact h.toPeers

protected theorem State.Canon.freeLock (h : s.Canon) : (freeLock s).Canon := by
  unfold Machine.freeLock
  exact .ite h h.updSec.setBit.forwardTo

protected theorem State.Canon.confirmTrial (h : s.Canon) : (confirmTrial s).Canon := by
  unfold Machine.confirmTrial
  exact .ite h.writeRecord.maxTo.setAttempts.updSec.upd.setBit.set.lifetimeAdd.raise.freeLock
    h.writeRecord.maxTo.setAttempts.updSec.upd.setBit.set.lifetimeAdd.raise

protected theorem State.Canon.fallBack (h : s.Canon) : (fallBack s).Canon := by
  unfold Machine.fallBack
  exact h.saveRetain.writeRecord.updSec.setBit.set.upd

protected theorem State.Canon.endTrial (h : s.Canon) : (endTrial s).Canon := by
  unfold Machine.endTrial
  exact .ite h.updSec.nameHandover h.fallBack

protected theorem State.Canon.installSlot {k} (h : s.Canon) : (installSlot k s).Canon := by
  unfold Machine.installSlot
  exact h.nandBoot.writeRecord.setAttempts

protected theorem State.Canon.groupStepTo {step slot} (h : s.Canon) : (groupStepTo step slot s).Canon := by
  unfold Machine.groupStepTo
  exact h.updSec.forwardTo

protected theorem State.Canon.endGroup {status fallen} (h : s.Canon) : (endGroup status fallen s).Canon := by
  unfold Machine.endGroup
  exact .ite h h.finishAll.updSec.groupStepTo.freeLock

protected theorem State.Canon.takeTurn (h : s.Canon) : (takeTurn s).Canon := by
  unfold Machine.takeTurn
  exact h.installSlot.saveRetain.leaveGroup.upd

protected theorem State.Canon.afterHandover {hdr} (h : s.Canon) : (afterHandover hdr s).Canon := by
  unfold Machine.afterHandover
  exact .ite (.ite h.confirmTrial.updSec h) (.ite h.fallBack (.ite h.finishAll.groupStepTo.takeTurn h))

/-! ### Machine/Pair -/

protected theorem State.Canon.adoptNamed {sn} (h : s.Canon) : (adoptNamed sn s).Canon := by
  unfold Machine.adoptNamed
  extract_lets +onlyGivenNames prog handover q swap start s1 s2 p s3
  have h3 : s3.Canon := .upd (.updProg (.ite h.beginConf.bumpConf h))
  clear_value s3 q
  split
  exacts [.ite (.set h3.upd) h3, h3]

protected theorem State.Canon.execOwnLineFall (h : s.Canon) : (execOwnLineFall s).Canon := by
  unfold Machine.execOwnLineFall
  exact .next h.ownFalls

protected theorem State.Canon.execQuietTimeExpiry (h : s.Canon) : (execQuietTimeExpiry s).Canon := by
  unfold Machine.execQuietTimeExpiry
  exact .next (.ite (.disarm (.ite h h.ownRises)) (.ite (.setBit (.upd (.ite h h.ownRises))) (.ite h h.ownRises)))

protected theorem State.Canon.recordGap {ns} (h : s.Canon) : (recordGap ns s).Canon := by
  unfold Machine.recordGap
  exact h.set.maxTo

protected theorem State.Canon.claimFromStandby (h : s.Canon) : (claimFromStandby s).Canon := by
  unfold Machine.claimFromStandby
  extract_lets +onlyGivenNames hand ann s1
  have h1 : s1.Canon := by
    unfold s1
    split
    exacts [h.adoptNamed, h]
  exact .enterRole (.raiseIf (.recordOwn (.upd (.countMove (.ite h1 h1.dropPending)))))

protected theorem State.Canon.claimBack (h : s.Canon) : (claimBack s).Canon := by
  unfold Machine.claimBack
  exact h.upd.cancelHandover.recordOwn.raise.fwLog

protected theorem State.Canon.execOwnFault (h : s.Canon) : (execOwnFault s).Canon := by
  unfold Machine.execOwnFault
  exact .next (.ite h.raise.recordOwn.fail h)

protected theorem State.Canon.execPeerKillOutAssert (h : s.Canon) : (execPeerKillOutAssert s).Canon := by
  unfold Machine.execPeerKillOutAssert
  exact .next (.ite h.upd.setBit h)

protected theorem State.Canon.releaseKill {slot} (h : s.Canon) : (releaseKill slot s).Canon := by
  unfold Machine.releaseKill
  exact .ite h.upd.setBit h

protected theorem State.Canon.execPeerKillIn (h : s.Canon) : (execPeerKillIn s).Canon := by
  unfold Machine.execPeerKillIn
  exact .next (.ite h h.setBit.raise.recordOwn.failOff)

protected theorem State.Canon.execPeerKillInRelease (h : s.Canon) : (execPeerKillInRelease s).Canon := by
  unfold Machine.execPeerKillInRelease
  exact .next h.setBit.reviewPairOk

protected theorem State.Canon.execPairOkMissing (h : s.Canon) : (execPairOkMissing s).Canon := by
  unfold Machine.execPairOkMissing
  exact .next h.setBit.raiseIf

protected theorem State.Canon.execPairOkEdge (h : s.Canon) : (execPairOkEdge s).Canon := by
  unfold Machine.execPairOkEdge
  exact .next h.setBit

protected theorem State.Canon.execStageHoldEnd (h : s.Canon) : (execStageHoldEnd s).Canon := by
  unfold Machine.execStageHoldEnd
  exact .next (.ite h.setDrive h)

protected theorem State.Canon.execHeartbeatTx (h : s.Canon) : (execHeartbeatTx s).Canon := by
  unfold Machine.execHeartbeatTx
  exact .next (.ite h h.toPort.toPort)

protected theorem State.Canon.heardPeer {p} (h : s.Canon) : (heardPeer p s).Canon := by
  unfold Machine.heardPeer
  extract_lets +onlyGivenNames s1 s2 s3 s4 s5 s6
  have h3 : s3.Canon := h.set.set.putPeer.set.reviewTime
  have h5 : s5.Canon := .reviewOwner (.ite h3.setTaiUtc.refreshQuality h3)
  exact .showTriad (.ite h5.goSyncing h5.joinOrClaim)

protected theorem State.Canon.execHeartbeat {hdr groupId slot rank role taint time} (h : s.Canon) :
    (execHeartbeat hdr groupId slot rank role taint time s).Canon := by
  unfold Machine.execHeartbeat
  exact .next (h.onFrame (fun _ h => .ite h.upd.raise h.upd.heardPeer))

protected theorem State.Canon.linkLost (h : s.Canon) : (linkLost s).Canon := by
  unfold Machine.linkLost
  exact .ite h.set.raise.upd.reviewTime.cancelUnmoved.setRole.followPeers
    (.ite h.set.raise.upd.reviewTime.disarm.enterRole.raiseIf h.set.raise.upd.reviewTime)

protected theorem State.Canon.execHollyhockLost (h : s.Canon) : (execHollyhockLost s).Canon := by
  unfold Machine.execHollyhockLost
  exact .next h.linkLost.showTriad

protected theorem State.Canon.execPeerWaitExpiry (h : s.Canon) : (execPeerWaitExpiry s).Canon := by
  unfold Machine.execPeerWaitExpiry
  exact .next (.ite h (.ite h.disarm.enterRole (.ite h.arm h)))

protected theorem State.Canon.execOwnerLost (h : s.Canon) : (execOwnerLost s).Canon := by
  unfold Machine.execOwnerLost
  exact .next (.ite h.ownRises.upd.enterRole.set.upd.reviewTime.joinOrClaim h.ownRises)

protected theorem State.Canon.acceptJoin {slot} (h : s.Canon) : (acceptJoin slot s).Canon := by
  unfold Machine.acceptJoin
  exact h.releaseKill.upd.set.peerRole.toMember.toMember.toPeers

protected theorem State.Canon.joinAnswered {accepted} (h : s.Canon) : (joinAnswered accepted s).Canon := by
  unfold Machine.joinAnswered
  exact .ite h (.ite h.upd h.upd.enterRole)

protected theorem State.Canon.joinHeard {slot accepted} (h : s.Canon) : (joinHeard slot accepted s).Canon := by
  unfold Machine.joinHeard
  exact .ite h.releaseKill h

protected theorem State.Canon.resyncAsked (h : s.Canon) : (resyncAsked s).Canon := by
  unfold Machine.resyncAsked
  exact .ite h.goSyncing h

protected theorem State.Canon.refuseJoin {slot} (h : s.Canon) : (refuseJoin slot s).Canon := by
  unfold Machine.refuseJoin
  exact h.toMember.toPeers

protected theorem State.Canon.execJoin {hdr split bundleVersion stFormat stUpMin} (h : s.Canon) :
    (execJoin hdr split bundleVersion stFormat stUpMin s).Canon := by
  unfold Machine.execJoin
  exact .next (h.onRouted (fun _ h => .ite h (.ite h.refuseJoin (.ite (.ite h h.upd) h.acceptJoin.toPeers))))

protected theorem State.Canon.execLeave {hdr} (h : s.Canon) : (execLeave hdr s).Canon := by
  unfold Machine.execLeave
  exact .next (h.onRouted (fun _ h => h.peerRole.dropPeer.reviewOwner.upd.joinOrClaim.showTriad))

protected theorem State.Canon.execFailed {hdr cls} (h : s.Canon) : (execFailed hdr cls s).Canon := by
  unfold Machine.execFailed
  exact .next (h.onRouted (fun _ h => .showTriad (.joinOrClaim (.ite (.upd (.ite h.peerRole.reviewOwner.cancelUnmoved
    h.peerRole.reviewOwner)) (.fwLog (.upd (.ite h.peerRole.reviewOwner.cancelUnmoved h.peerRole.reviewOwner)))))))

protected theorem State.Canon.execAck {hdr singleton} (h : s.Canon) : (execAck hdr singleton s).Canon := by
  unfold Machine.execAck
  exact .next (h.onRouted (fun _ h => h.upd))

protected theorem State.Canon.execTaintRelease {hdr} (h : s.Canon) : (execTaintRelease hdr s).Canon := by
  unfold Machine.execTaintRelease
  exact .next (h.onRouted (fun _ h => h.upd))

protected theorem State.Canon.execHandoverPrepare (h : s.Canon) : (execHandoverPrepare s).Canon := by
  unfold Machine.execHandoverPrepare
  refine .next ?_
  split
  exacts [h, .ite h (.upd (.stopSingletons (h.foldl fun _ _ h => h.sendCkpt)))]

protected theorem State.Canon.postponeHandover (h : s.Canon) : (postponeHandover s).Canon := by
  unfold Machine.postponeHandover
  exact .ite h.resumeSingletons.upd h.resumeSingletons.cancelHandover.recordOwn.raise.fwLog

protected theorem State.Canon.execHandoverRelease (h : s.Canon) : (execHandoverRelease s).Canon := by
  unfold Machine.execHandoverRelease
  refine .next ?_
  split
  exacts [h, .ite h (.ite h.postponeHandover h.toPhase.toPeers.releaseOwn.upd.arm)]

protected theorem State.Canon.formerOwners (h : s.Canon) : (formerOwners s).Canon := by
  unfold Machine.formerOwners
  exact h.upd

protected theorem State.Canon.execHandoverFrame (h : s.Canon) : (execHandoverFrame s).Canon := by
  unfold Machine.execHandoverFrame
  refine .next ?_
  split
  · exact h
  · have h1 {p} : (({ s with pair := p } : State).raise Ev.hhkPairHandover).Canon := .raise h.upd
    have h2 {p} : (recordOwn 3 (countMove (disarm (({ s with pair := p } : State).raise Ev.hhkPairHandover)))).Canon
      :=
      h1.disarm.countMove.recordOwn
    exact .ite h (.ite (.afterHandover (.startSingletons (.ite h1.formerOwners.setRole h1.formerOwners)))
      (.ite (.ite (.completeRemoval (.showTriad (.ite h2.enterRole h2.enterRole.armStandby)))
        (.afterHandover (.showTriad (.ite h2.enterRole h2.enterRole.armStandby)))) h1))

protected theorem State.Canon.countMismatch (h : s.Canon) : (countMismatch s).Canon := by
  unfold Machine.countMismatch
  exact h.upd.raise

protected theorem State.Canon.mismatchOutcome {peerFault peerSlot} (h : s.Canon) :
    (mismatchOutcome peerFault peerSlot s).Canon := by
  unfold Machine.mismatchOutcome
  exact .ite h.countMismatch.cancelUnmoved.goSyncing (.ite h.countMismatch.cancelUnmoved.peerRole.reviewOwner
    h.countMismatch.cancelUnmoved)

protected theorem State.Canon.leaveAsMinority (h : s.Canon) : (leaveAsMinority s).Canon := by
  unfold Machine.leaveAsMinority
  exact .ite h.raise.upd (.goSyncing (.ite h.raise.upd.releaseOwn h.raise.upd.setDrive))

protected theorem State.Canon.foundMinority {slot} (h : s.Canon) : (foundMinority slot s).Canon := by
  unfold Machine.foundMinority
  exact h.upd.raise.peerRole.reviewOwner

protected theorem State.Canon.finishResync {slot} (h : s.Canon) : (finishResync slot s).Canon := by
  unfold Machine.finishResync
  exact .ite h.upd.set.enterRole.armStandby.showTriad (.ite h.upd.set.upd.peerRole.followPeers.showTriad h.upd.set)

protected theorem State.Canon.resyncFailed (h : s.Canon) : (resyncFailed s).Canon := by
  unfold Machine.resyncFailed
  exact .ite (.ite h.upd.fail h.upd.set.sendJoin) (.ite h.upd.set.upd h.upd.set)

protected theorem State.Canon.compareSigs {frame slot own peer peerFault} (h : s.Canon) :
    (compareSigs frame slot own peer peerFault s).Canon := by
  unfold Machine.compareSigs
  exact .ite (.ite h.recordCmp.upd.finishResync h.recordCmp.upd.countMismatch.resyncFailed) (.ite h.recordCmp.upd
    h.recordCmp.upd.mismatchOutcome)

protected theorem State.Canon.triadOutcome {frame own a b slotA slotB} (h : s.Canon) :
    (triadOutcome frame own a b slotA slotB s).Canon := by
  unfold Machine.triadOutcome
  exact .ite (.ite h.upd h.leaveAsMinority) (.ite h.foundMinority (.ite h.foundMinority (.ite h.reviewOwner
    (.ite h.goSyncing h))))

protected theorem State.Canon.compareTriad {frame own a b slotA slotB} (h : s.Canon) :
    (compareTriad frame own a b slotA slotB s).Canon := by
  unfold Machine.compareTriad
  extract_lets +onlyGivenNames ok isQ r p s1
  have h1 : s1.Canon := .recordCmp h.upd
  clear_value s1 ok isQ
  split
  exacts [h1.finishResync, h1, h1.countMismatch.resyncFailed, h1.countMismatch.triadOutcome]

protected theorem State.Canon.takeOwnSig {frame} (h : s.Canon) : (takeOwnSig frame s).Canon := by
  unfold Machine.takeOwnSig
  exact h.upd

protected theorem State.Canon.execSignatureFrame {hdr slots held peerFault} (h : s.Canon) :
    (execSignatureFrame hdr slots held peerFault s).Canon := by
  unfold Machine.execSignatureFrame
  refine .next (h.onRouted fun _ h => ?_)
  extract_lets +onlyGivenNames p s1
  have h1 : s1.Canon := h.upd
  clear_value s1
  split
  · exact h1
  · refine .ite ?_ h1.takeOwnSig.compareSigs
    split
    exacts [h1.takeOwnSig.compareTriad, h1]

protected theorem State.Canon.execSigMiss (h : s.Canon) : (execSigMiss s).Canon := by
  unfold Machine.execSigMiss
  refine .next ?_
  split
  · exact h
  · extract_lets +onlyGivenNames p s1 run s2
    have h2 : s2.Canon := .recordCmp (.bump h.upd)
    clear_value s2 run
    split
    exacts [.ite h2.resyncFailed h2.compareSigs, .ite h2.linkLost.showTriad h2]

protected theorem State.Canon.applyReplica {x} (h : s.Canon) : (applyReplica x s).Canon := by
  unfold Machine.applyReplica
  refine .upd (.set (.foldl (.putDropped (h.set.foldl fun _ _ h => h.setReg.setReg)) fun _ _ h => ?_))
  split
  exacts [h.keepCkpt, h]

protected theorem State.Canon.execResyncPage {hdr address data replica} (h : s.Canon) :
    (execResyncPage hdr address data replica s).Canon := by
  unfold Machine.execResyncPage
  refine .next (h.onFrame (fun _ h => .ite ?_ h))
  extract_lets +onlyGivenNames s1
  have h1 : s1.Canon := h.setBytes.set
  split
  exacts [h1.applyReplica, h1]

protected theorem State.Canon.execResyncLines {hdr lines q} (h : s.Canon) :
    (execResyncLines hdr lines q s).Canon := by
  unfold Machine.execResyncLines
  refine .next (h.onFrame (fun _ h => .ite ?_ h))
  extract_lets +onlyGivenNames s1
  have h1 : s1.Canon := h.foldl fun _ _ h => h.setBytes
  split
  exacts [h1.upd.set, h1.set]

protected theorem State.Canon.execResyncTimeout (h : s.Canon) : (execResyncTimeout s).Canon := by
  unfold Machine.execResyncTimeout
  exact .next (.ite h.upd.resyncFailed h)

protected theorem State.Canon.storedElsewhere {singleton content} (h : s.Canon) :
    (storedElsewhere singleton content s).Canon := by
  unfold Machine.storedElsewhere
  exact .ite h h.upd.set

protected theorem State.Canon.execCheckpointSend (h : s.Canon) : (execCheckpointSend s).Canon := by
  unfold Machine.execCheckpointSend
  exact .next (.ite (h.foldl fun _ _ h => h.sendCkpt) h)

protected theorem State.Canon.execCheckpoint {hdr singleton seqNo frame content} (h : s.Canon) :
    (execCheckpoint hdr singleton seqNo frame content s).Canon := by
  unfold Machine.execCheckpoint
  exact .next (h.onFrame (fun _ h => .ite h.keepCkpt.storedElsewhere.toPeers h))

/-! ### Machine/Program -/

protected theorem State.Canon.stageUnit {bs} (h : s.Canon) : (stageUnit bs s).2.Canon := by
  unfold Machine.stageUnit
  extract_lets +onlyGivenNames p s1
  have h1 : s1.Canon := h.updProg
  exact h1.raiseIf

protected theorem State.Canon.reviewLoad (h : s.Canon) : (reviewLoad s).Canon := by
  unfold Machine.reviewLoad
  split
  exacts [h, .ite h (.finishAll (.ite h.updProg h.updProg.toPeers))]

protected theorem State.Canon.initInsts {u b} (h : s.Canon) : (initInsts u b s).Canon := by
  unfold Machine.initInsts
  exact h.foldl fun _ _ h => h.setBytes

protected theorem State.Canon.putSym {u b y bs} (h : s.Canon) : (putSym u b y bs s).Canon := by
  unfold Machine.putSym
  split
  exacts [h.setBytes, h]

protected theorem State.Canon.loadCode {u b} (h : s.Canon) : (loadCode u b s).Canon := by
  unfold Machine.loadCode
  exact h.foldl fun _ _ h => h.setBytes.setBytes

protected theorem State.Canon.migrate {old new b} (h : s.Canon) : (migrate old new b s).Canon := by
  unfold Machine.migrate
  extract_lets +onlyGivenNames s1 s2
  have h1 : s1.Canon := h
  have h2 : s2.Canon := h.initInsts
  split
  · exact h2
  · refine h2.foldl fun _ _ h => ?_
    split
    exacts [.ite h.putSym h, h]

protected theorem State.Canon.putMpu {m ent base size rwx} (h : s.Canon) : (putMpu m ent base size rwx s).Canon := by
  unfold Machine.putMpu
  exact h.set.set.set.set.setBit

protected theorem State.Canon.loadMpus {u} (h : s.Canon) : (loadMpus u s).Canon := by
  unfold Machine.loadMpus
  exact h.foldl fun _ _ h => .putMpu (.ite h.putMpu.clearEntry h.putMpu.putMpu)

protected theorem State.Canon.sizeRings {u} (h : s.Canon) : (sizeRings u s).Canon := by
  unfold Machine.sizeRings
  exact h.foldl fun _ _ h => h.foldl fun _ _ h => h.set.set

protected theorem State.Canon.restEngines (h : s.Canon) : (restEngines s).Canon := by
  unfold Machine.restEngines
  exact h.updProg

protected theorem State.Canon.buildChange {u} (h : s.Canon) : (buildChange u s).Canon := by
  unfold Machine.buildChange
  exact h.migrate.loadCode

protected theorem State.Canon.switchUnit {u} (h : s.Canon) : (switchUnit u s).Canon := by
  unfold Machine.switchUnit
  exact h.updProg.restEngines.sizeRings.reviewStations

protected theorem State.Canon.installUnit {u} (h : s.Canon) : (installUnit u s).Canon := by
  unfold Machine.installUnit
  exact h.buildChange.switchUnit

protected theorem State.Canon.catchUp (h : s.Canon) : (catchUp s).Canon := by
  unfold Machine.catchUp
  split
  · refine .ite h (h.foldl fun _ _ h => ?_)
    split
    exacts [.ite h.putSym h, h]
  · exact h

protected theorem State.Canon.acceptDeferred (h : s.Canon) : (acceptDeferred s).Canon := by
  unfold Machine.acceptDeferred
  exact .ite (h.upd.foldl fun _ _ h => h.acceptJoin) h.upd

protected theorem State.Canon.endChange {result} (h : s.Canon) : (endChange result s).Canon := by
  unfold Machine.endChange
  exact h.updProg.fwLog.acceptDeferred

protected theorem State.Canon.dropChange {status} (h : s.Canon) : (dropChange status s).Canon := by
  unfold Machine.dropChange
  exact .ite h.updProg.finishAll.endChange h

protected theorem State.Canon.nameSwap (h : s.Canon) : (nameSwap s).Canon := by
  unfold Machine.nameSwap
  split
  exacts [.ite h.updProg h, h]

protected theorem State.Canon.execMigrationComplete (h : s.Canon) : (execMigrationComplete s).Canon := by
  unfold Machine.execMigrationComplete
  refine .next ?_
  split
  exacts [.ite (.ite h.buildChange.updProg.nameSwap h.buildChange.updProg.toPeers) h, h]

protected theorem State.Canon.execReady {hdr ok} (h : s.Canon) : (execReady hdr ok s).Canon := by
  unfold Machine.execReady
  refine .next (h.onRouted (fun _ h => ?_))
  split
  exacts [.ite h.toPeers.dropChange h.updProg.nameSwap, h]

protected theorem State.Canon.initData {u mode} (h : s.Canon) : (initData u mode s).Canon := by
  unfold Machine.initData
  refine .ite h (h.initInsts.foldl fun _ _ h => ?_)
  split
  exacts [.ite h.putSym h, h]

protected theorem State.Canon.logAge {mode} (h : s.Canon) : (logAge mode s).Canon := by
  unfold Machine.logAge
  exact .ite h.fwLog h

protected theorem State.Canon.startProgram {mode} (h : s.Canon) : (startProgram mode s).Canon := by
  unfold Machine.startProgram
  split
  · exact h
  · extract_lets +onlyGivenNames aged s1 s2
    have h1 : s1.Canon := h.logAge.initData
    have h2 : s2.Canon := h1.updProg
    exact h2.restEngines.sizeRings.loadMpus.canRun.refreshRunLock

protected theorem State.Canon.stopProgram (h : s.Canon) : (stopProgram s).Canon := by
  unfold Machine.stopProgram
  exact h.dropChange.updProg.restEngines.saveRetain.beginConf.bumpConf.refreshRunLock

protected theorem State.Canon.runNamed {n} (h : s.Canon) : (runNamed n s).Canon := by
  unfold Machine.runNamed
  split
  exacts [.ite h.startProgram h, .ite h.stopProgram h, h, h, h]

protected theorem State.Canon.runDue {k} (h : s.Canon) : (runDue k s).Canon := by
  unfold Machine.runDue
  exact h.updProg.foldl fun _ _ h => h.runNamed

protected theorem State.Canon.execProgramStartFrame (h : s.Canon) : (execProgramStartFrame s).Canon := by
  unfold Machine.execProgramStartFrame
  exact .next h.runDue

protected theorem State.Canon.execProgramStopFrame (h : s.Canon) : (execProgramStopFrame s).Canon := by
  unfold Machine.execProgramStopFrame
  exact .next h.runDue

protected theorem State.Canon.nameEvent {n} (h : s.Canon) : (nameEvent n s).2.Canon := by
  unfold Machine.nameEvent
  dsimp only
  exact h.updProg

protected theorem State.Canon.startOwn (h : s.Canon) : (startOwn s).Canon := by
  unfold Machine.startOwn
  exact .ite h.updProg.nameEvent h

protected theorem State.Canon.execRetainSave (h : s.Canon) : (execRetainSave s).Canon := by
  unfold Machine.execRetainSave
  exact .next (.ite (.ite h.updProg h.updProg.saveRetain) h)

protected theorem State.Canon.execProgramGetStatus {r} (h : s.Canon) : (execProgramGetStatus r s).Canon := by
  unfold Machine.execProgramGetStatus
  exact .next (h.serve (fun _ h => .ok h))

protected theorem State.Canon.execProgramLoadUnit {r} (h : s.Canon) : (execProgramLoadUnit r s).Canon := by
  unfold Machine.execProgramLoadUnit
  refine .next (h.serve (fun _ h => ?_))
  extract_lets +onlyGivenNames p total off fin chunk kept
  split
  · exact .err h
  · exact .ite h.conflict (.ite (.ok h.updProg.sendStages) (.ite (.later
      h.updProg.sendStages.stageUnit.sendStages.toPeers.updProg) (.ok h.updProg.sendStages.stageUnit.sendStages)))

protected theorem State.Canon.beginChange {u} (h : s.Canon) : (beginChange u s).Canon := by
  unfold Machine.beginChange
  exact .ite h.updProg h.installUnit.updProg

protected theorem State.Canon.execProgramStartChange {r} (h : s.Canon) : (execProgramStartChange r s).Canon := by
  unfold Machine.execProgramStartChange
  refine .next (h.serve (fun _ h => ?_))
  split
  · exact h.conflict
  · exact .ite (.err h) (.ite h.conflict (.ite (.later h.toPeers.beginChange) (.ok h.toPeers.took.beginChange)))

protected theorem State.Canon.execProgramAbortChange {r} (h : s.Canon) : (execProgramAbortChange r s).Canon := by
  unfold Machine.execProgramAbortChange
  exact .next (h.serve (fun _ h => .ite h.conflict (.ok h.toPeers.dropChange)))

protected theorem State.Canon.execProgramRun {r} (h : s.Canon) : (execProgramRun r s).Canon := by
  unfold Machine.execProgramRun
  refine .next (h.serve (fun _ h => ?_))
  extract_lets +onlyGivenNames mode
  split
  exacts [.err h, .ite h.conflict (.ok h.beginConf.bumpConf.updProg.nameEvent)]

protected theorem State.Canon.execProgramStop {r} (h : s.Canon) : (execProgramStop r s).Canon := by
  unfold Machine.execProgramStop
  exact .next (h.serve (fun _ h => .ite h.conflict (.ok h.nameEvent)))

protected theorem State.Canon.execProgramGetTaskStats {r} (h : s.Canon) : (execProgramGetTaskStats r s).Canon := by
  unfold Machine.execProgramGetTaskStats
  refine .next (h.serve (fun _ h => ?_))
  extract_lets +onlyGivenNames n sel
  split
  exacts [.err h, .ite (.err h) (.ok h)]

protected theorem State.Canon.execProgramReadVar {r} (h : s.Canon) : (execProgramReadVar r s).Canon := by
  unfold Machine.execProgramReadVar
  refine .next (h.serve (fun _ h => ?_))
  extract_lets +onlyGivenNames p n
  split
  · exact .err h
  · split
    exacts [.later h.updProg, h.conflict]

protected theorem State.Canon.answerReads (h : s.Canon) : (answerReads s).Canon := by
  unfold Machine.answerReads
  refine h.updProg.foldl fun _ _ h => ?_
  dsimp only
  split
  exacts [h.finishD, h]

protected theorem State.Canon.forcesDue {k} (h : s.Canon) : (forcesDue k s).Canon := by
  unfold Machine.forcesDue
  exact .ite h h.updProg.bumpConf

protected theorem State.Canon.acceptChange {clear f} (h : s.Canon) : (acceptChange clear f s).2.Canon := by
  unfold Machine.acceptChange
  dsimp only
  exact h.updProg

protected theorem State.Canon.execForceList {r} (h : s.Canon) : (execForceList r s).Canon := by
  unfold Machine.execForceList
  exact .next (h.serve (fun _ h => .ok h))

protected theorem State.Canon.execForceSet {r} (h : s.Canon) : (execForceSet r s).Canon := by
  unfold Machine.execForceSet
  refine .next (h.serve (fun _ h => ?_))
  extract_lets +onlyGivenNames p
  split
  · exact .err h
  · split
    · exact .err h
    · extract_lets +onlyGivenNames after isNew
      exact .ite h.conflict (.ok h.acceptChange)

protected theorem State.Canon.execForceRelease {r} (h : s.Canon) : (execForceRelease r s).Canon := by
  unfold Machine.execForceRelease
  refine .next (h.serve (fun _ h => ?_))
  extract_lets +onlyGivenNames y
  split
  exacts [.err h, .err h, .ite h.conflict (.ok h.acceptChange)]

protected theorem State.Canon.execForceReleaseAll {r} (h : s.Canon) : (execForceReleaseAll r s).Canon := by
  unfold Machine.execForceReleaseAll
  exact .next (h.serve fun _ h => .ite h.conflict (.ok (State.Canon.foldlSnd (fun _ _ h => h.acceptChange) h)))

end Sys2Proof.Machine
end

section
/-! SUPPORT. Canonical form is kept by the frame, the release of outputs, snapshots and arrivals. -/

namespace Sys2Proof.Machine

variable {s : State}

/-! ### Machine/Frame -/

protected theorem State.Canon.startEngine {u k runs e} (h : s.Canon) : (startEngine u k runs s e).Canon := by
  unfold Machine.startEngine
  exact .ite h.putEng.startNext h.putEng

protected theorem State.Canon.startEngines {k} (h : s.Canon) : (startEngines k s).Canon := by
  unfold Machine.startEngines
  extract_lets +onlyGivenNames s1
  have h1 : s1.Canon := h.updProg
  split
  exacts [h1, h1.foldl fun _ _ h => h.startEngine]

protected theorem State.Canon.applyObject {k o b} (h : s.Canon) : (applyObject k o b s).Canon := by
  unfold Machine.applyObject
  split
  exacts [h.netApply, h.astApply, h.lspApply, h.fioApply, h.canApply, h]

protected theorem State.Canon.configDue {k} (h : s.Canon) : (configDue k s).Canon := by
  unfold Machine.configDue
  exact .streamingDue (h.upd.foldl fun _ _ h => h.applyObject)

protected theorem State.Canon.execConfigEffectiveFrame (h : s.Canon) : (execConfigEffectiveFrame s).Canon := by
  unfold Machine.execConfigEffectiveFrame
  exact .next h.configDue

protected theorem State.Canon.freshPool {k} (h : s.Canon) : (freshPool k s).Canon := by
  unfold Machine.freshPool
  exact .ite h h.updProg

protected theorem State.Canon.tickRole (h : s.Canon) : (tickRole s).Canon := by
  unfold Machine.tickRole
  exact .ite h.taintRole (.ite h.setRole.followPeers.showTriad h.reviewOwner)

protected theorem State.Canon.tickProgram (h : s.Canon) : (tickProgram s).Canon := by
  unfold Machine.tickProgram
  exact .ite h (.ite h.startOwn h.updProg)

protected theorem State.Canon.showAges (h : s.Canon) : (showAges s).Canon := by
  unfold Machine.showAges
  refine h.foldl fun _ _ h => ?_
  split
  exacts [h.set, h]

protected theorem State.Canon.execTick (h : s.Canon) : (execTick s).Canon := by
  unfold Machine.execTick
  have h1 {k p} : (Machine.configDue k (forcesDue k (runDue k (freshPool k { tickTime s with pwr := p })))).Canon :=
    h.tickTime.upd.freshPool.runDue.forcesDue.configDue
  exact .next h1.showAges.expireSubs.tickRole.tickProgram.reviewLoad.startEngines

protected theorem State.Canon.windowFault {e t} (h : s.Canon) : (windowFault e s t).Canon := by
  unfold Machine.windowFault
  exact h.noteFault.putEng

protected theorem State.Canon.stopEngine {e} (h : s.Canon) : (stopEngine s e).Canon := by
  unfold Machine.stopEngine
  exact .putEng (.ringDoorbells (.foldl (.ite h.closeSegment h) fun _ _ h => h.windowFault))

protected theorem State.Canon.foldAll (h : s.Canon) : (foldAll s).Canon := by
  unfold Machine.foldAll
  exact h.foldl fun _ _ h => h.foldState

protected theorem State.Canon.stopEngines (h : s.Canon) : (stopEngines s).Canon := by
  unfold Machine.stopEngines
  exact .ite (.moduleReaction (h.foldAll.foldl fun _ _ h => h.stopEngine)) (h.foldAll.foldl fun _ _ h => h.stopEngine)

protected theorem State.Canon.judgeAster (h : s.Canon) : (judgeAster s).Canon := by
  unfold Machine.judgeAster
  exact .ite h.formEstimates.raise.raise.fail h

protected theorem State.Canon.gatherItem {u p} (h : s.Canon) : (gatherItem u s p).Canon := by
  unfold Machine.gatherItem
  split
  · exact h
  · extract_lets +onlyGivenNames v s1
    have h1 : s1.Canon := by
      clear_value v
      unfold s1
      split
      exacts [h.setBytes, h]
    exact .ite h1.updProg h1

protected theorem State.Canon.commandField {p} (h : s.Canon) : (commandField s p).Canon := by
  unfold Machine.commandField
  exact .ite h.updFio (.ite h.updFio h)

protected theorem State.Canon.gatherOutputs {u} (h : s.Canon) : (gatherOutputs u s).Canon := by
  unfold Machine.gatherOutputs
  exact .gatherPubs (.mmsReport (.foldl (.updProg (h.foldl fun _ _ h => h.gatherItem)) fun _ _ h => h.commandField))

protected theorem State.Canon.computeSigs {k} (h : s.Canon) : (computeSigs k s).Canon := by
  unfold Machine.computeSigs
  exact .ite h h.upd

protected theorem State.Canon.sendLines (h : s.Canon) : (sendLines s).Canon := by
  unfold Machine.sendLines
  exact h.toPeers

protected theorem State.Canon.showLeft {lines} (h : s.Canon) : (showLeft lines s).Canon := by
  unfold Machine.showLeft
  exact h.set

protected theorem State.Canon.markForJoiner (h : s.Canon) : (markForJoiner s).Canon := by
  unfold Machine.markForJoiner
  exact .ite h (.ite h.upd.sendLines.showLeft h.upd.showLeft)

protected theorem State.Canon.execExecutionWindowEnd (h : s.Canon) : (execExecutionWindowEnd s).Canon := by
  unfold Machine.execExecutionWindowEnd
  refine .next (.ite h (.answerReads (.catchUp (.ite (.markForJoiner (.computeSigs ?_)) ?_))))
  · split
    · exact .ite h.toPhase.stopEngines.judgeAster.gatherOutputs h.toPhase.stopEngines.judgeAster
    · exact h.toPhase.stopEngines.judgeAster
  · split
    · exact .ite h.toPhase.stopEngines.judgeAster.gatherOutputs h.toPhase.stopEngines.judgeAster
    · exact h.toPhase.stopEngines.judgeAster

protected theorem State.Canon.execErrorTaskRun {e} (h : s.Canon) : (execErrorTaskRun e s).Canon := by
  unfold Machine.execErrorTaskRun
  refine .next ?_
  split
  · exact h
  · extract_lets +onlyGivenNames s1 g cause
    have h1 : s1.Canon := h.toPhase
    refine .ite h ?_
    split
    exacts [h, .ite h h1.setBytes.updTask.beginSegment]

protected theorem State.Canon.swapBanks {u c swap} (h : s.Canon) : (swapBanks u c swap s).Canon := by
  unfold Machine.swapBanks
  exact h.catchUp.switchUnit.loadMpus.updProg.saveRetain.finishAll.endChange

protected theorem State.Canon.postponeSwap {c} (h : s.Canon) : (postponeSwap c s).Canon := by
  unfold Machine.postponeSwap
  exact .ite h.updProg.dropChange (.ite h.updProg.nameEvent h.updProg)

protected theorem State.Canon.execBankSwap (h : s.Canon) : (execBankSwap s).Canon := by
  unfold Machine.execBankSwap
  refine .next (.ite h ?_)
  extract_lets +onlyGivenNames s1 next
  have h1 : s1.Canon := h.toPhase
  refine .ite h1 ?_
  split
  exacts [.ite h1.swapBanks h1.postponeSwap, h1]

/-! ### Machine/Release -/

protected theorem State.Canon.countDiscards {u} (h : s.Canon) : (countDiscards u s).Canon := by
  unfold Machine.countDiscards
  exact h.foldl fun _ _ h => .ite h.updTask h

protected theorem State.Canon.releaseTraffic (h : s.Canon) : (releaseTraffic s).Canon := by
  unfold Machine.releaseTraffic
  refine .sendReports (.releaseReports ?_)
  split
  exacts [h.releasePubs, h]

protected theorem State.Canon.sendSignature {k} (h : s.Canon) : (sendSignature k s).Canon := by
  unfold Machine.sendSignature
  split
  exacts [h.toPeers, h]

protected theorem State.Canon.releaseFrame (h : s.Canon) : (releaseFrame s).Canon := by
  unfold Machine.releaseFrame
  refine .ite h (.ite (.releaseTraffic ?_) h.sendReports)
  split
  exacts [h.updNet.countDiscards, h]

protected theorem State.Canon.execOutputRelease (h : s.Canon) : (execOutputRelease s).Canon := by
  unfold Machine.execOutputRelease
  exact .next (.ite h h.toPhase.expireSubs.releaseFrame.sendSignature)

protected theorem State.Canon.claimAtStart (h : s.Canon) : (claimAtStart s).Canon := by
  unfold Machine.claimAtStart
  exact h.recordOwn.enterRole.startSingletons.updProg

protected theorem State.Canon.takeOwn {gapNs} (h : s.Canon) : (takeOwn gapNs s).Canon := by
  unfold Machine.takeOwn
  extract_lets +onlyGivenNames from' back p s1 s2 s3
  have h3 : s3.Canon := .recordGap (.gatesOpen (.setBit (.setBit (.setBit h.upd))))
  exact .showPmus (.closeClients (.showSending (.showTriad (.followPeers
    (.ite h3.claimBack (.ite h3.claimFromStandby h3.claimAtStart))))))

protected theorem State.Canon.execClaimConfirm {low gapNs} (h : s.Canon) : (execClaimConfirm low gapNs s).Canon := by
  unfold Machine.execClaimConfirm
  exact .next (.ite h (.ite (.ite h.takeOwn.releaseFrame h.takeOwn) h.upd.raise.recordOwn.fail))

/-! ### Machine/Snapshots -/

protected theorem State.Canon.freezeItem {k rows u it} {p : List SnapItem × State} (h : p.2.Canon) :
    (freezeItem k rows u p it).2.Canon := by
  unfold Machine.freezeItem
  split
  · exact h
  · exact .ite h.took h

protected theorem State.Canon.ageStations {k u} (h : s.Canon) : (ageStations k u s).Canon := by
  unfold Machine.ageStations
  exact h.updNet

protected theorem State.Canon.sendPage {a} (h : s.Canon) : (sendPage a s).Canon := by
  unfold Machine.sendPage
  exact h.toPeers

protected theorem State.Canon.sendState (h : s.Canon) : (sendState s).Canon := by
  unfold Machine.sendState
  exact .toPeers (h.foldl fun _ _ h => h.sendPage)

protected theorem State.Canon.nameJoin {k} (h : s.Canon) : (nameJoin k s).2.Canon := by
  unfold Machine.nameJoin
  exact .iteSnd (.set h.upd) h

protected theorem State.Canon.sendResync (h : s.Canon) : (sendResync s).Canon := by
  unfold Machine.sendResync
  exact .ite h (.ite h.set.sendState (.ite (.upd (.showLeft (.ite h h.sendLines))) h))

protected theorem State.Canon.freezeSnapshot {k} (h : s.Canon) : (freezeSnapshot k s).Canon := by
  unfold Machine.freezeSnapshot
  extract_lets +onlyGivenNames l r s1 s2 fr s3 q s4
  have h1 : s1.Canon := h.lspCutOff.freezeBatch
  clear_value s1
  have h2 : s2.Canon := by
    unfold s2
    split
    exacts [h1.ageStations, h1]
  clear_value s2
  have h3 : s3.Canon := by
    unfold s3 fr
    split
    exacts [.foldlSnd (fun _ _ h => h.freezeItem) h2, h2]
  clear_value s3
  have h4 : s4.Canon := h3.nameJoin
  clear_value s4
  exact h4.updNet.updProg.canTaken

protected theorem State.Canon.sendSnapshot (h : s.Canon) : (sendSnapshot s).Canon := by
  unfold Machine.sendSnapshot
  split
  · exact h
  · extract_lets +onlyGivenNames from'
    exact .ite h.toPeers h

protected theorem State.Canon.cutOff (h : s.Canon) : (cutOff s).Canon := by
  unfold Machine.cutOff
  exact .ite h.toPhase.expireSubs h.toPhase.expireSubs.updSec.catchUp.freezeSnapshot.sendSnapshot.sendResync

protected theorem State.Canon.execCutOff (h : s.Canon) : (execCutOff s).Canon := by
  unfold Machine.execCutOff
  exact .next (.ite h h.cutOff)

protected theorem State.Canon.execSnapshotFrame {hdr part} (h : s.Canon) : (execSnapshotFrame hdr part s).Canon := by
  unfold Machine.execSnapshotFrame
  exact .next (h.onFrame (fun _ h => .ite h h.updProg))

protected theorem State.Canon.takeSnapshot {own self sn} (h : s.Canon) : (takeSnapshot own self sn s).Canon := by
  unfold Machine.takeSnapshot
  exact .ite h.updProg.setBit.takeBatch.lspTake h.updProg.setBit.takeBatch.lspTake.undoPubs.adoptNamed

protected theorem State.Canon.selfFrame (h : s.Canon) : (selfFrame s).Canon := by
  unfold Machine.selfFrame
  exact .ite h.upd.raise.goSyncing h.upd.raise

protected theorem State.Canon.pairedFrame (h : s.Canon) : (pairedFrame s).Canon := by
  unfold Machine.pairedFrame
  exact h.upd

protected theorem State.Canon.agreeTriad {own} (h : s.Canon) : (agreeTriad own s).Canon := by
  unfold Machine.agreeTriad
  exact .ite (.ite h.set.raiseIf.takeSnapshot.pairedFrame h.set.raiseIf.takeSnapshot.selfFrame) (.set (.pairedFrame
    (.takeSnapshot (.upd (.set (.ite h.set.raiseIf.bump h.set.raiseIf))))))

protected theorem State.Canon.selectSnapshot {own} (h : s.Canon) : (selectSnapshot own s).Canon := by
  unfold Machine.selectSnapshot
  refine .ite h.agreeTriad (.ite ?_ (.ite ?_ (.ite h.takeSnapshot h.takeSnapshot.pairedFrame)))
  · split
    exacts [h.takeSnapshot.pairedFrame, h.takeSnapshot.selfFrame]
  · split
    exacts [h.takeSnapshot, h]

protected theorem State.Canon.execSnapshotSelect (h : s.Canon) : (execSnapshotSelect s).Canon := by
  unfold Machine.execSnapshotSelect
  refine .next (.ite h ?_)
  extract_lets +onlyGivenNames s1
  have h1 : s1.Canon := h.toPhase
  split
  exacts [.ite h1.selectSnapshot h1, h1]

/-! ### Machine/Arrivals -/

protected theorem State.Canon.arrive {t} (h : s.Canon) : (arrive t s).Canon := by
  unfold Machine.arrive
  exact .advanceTo (.ite h.cutOff h)

protected theorem State.Canon.execSvFrameRx {f} (h : s.Canon) : (execSvFrameRx f s).Canon := by
  unfold Machine.execSvFrameRx
  refine .next ?_
  extract_lets +onlyGivenNames r s1
  have h1 : s1.Canon := h.arrive.takeIn
  refine .ite h1 (.ite h1.bump.raise ?_)
  split
  exacts [h1, .ite h1.takeSv h1.rejectSv]

protected theorem State.Canon.execStreamLost {n} (h : s.Canon) : (execStreamLost n s).Canon := by
  unfold Machine.execStreamLost
  exact .next (.ite h h.arrive.updStr.set.raise.showAligned.reviewStations)

protected theorem State.Canon.execGooseFrameRx {f} (h : s.Canon) : (execGooseFrameRx f s).Canon := by
  unfold Machine.execGooseFrameRx
  have h1 : (takeIn f.inn .other (arrive f.arrival s)).2.Canon := h.arrive.takeIn
  refine .next (.ite h1 (.ite h1.authFailed ?_))
  split
  exacts [h1, .ite h1.acceptGoose h1.bump.raise]

protected theorem State.Canon.execGooseTalExpiry {i} (h : s.Canon) : (execGooseTalExpiry i s).Canon := by
  unfold Machine.execGooseTalExpiry
  exact .next (.ite h h.arrive.setBit.reviewStations)

protected theorem State.Canon.execRgooseReportRx {x} (h : s.Canon) : (execRgooseReportRx x s).Canon := by
  unfold Machine.execRgooseReportRx
  refine .next ?_
  extract_lets +onlyGivenNames r s1 b addressed
  have h1 : s1.Canon := h.arrive.expireSubs.takeIn
  refine .ite h1 ?_
  split
  · exact h1.raise
  · extract_lets +onlyGivenNames macOk s2
    have h2 : s2.Canon := h1.setBit
    exact .ite h2.raise (.ite h2.updLsp.setBit.reviewStations h2.updLsp.setBit.reviewStations.bump.updLsp)

protected theorem State.Canon.execWavefrontDetect {g k n lanes} (h : s.Canon) :
    (execWavefrontDetect g k n lanes s).Canon := by
  unfold Machine.execWavefrontDetect
  refine .next (.ite h ?_)
  split
  exacts [h.arrive.takeDetection, h]

/-- `arrive` is kept in a variable `f`: no `match` on the state that it answers may run the TIME counter. -/
protected theorem State.Canon.execEventClose {g} (h : s.Canon) : (execEventClose g s).Canon := by
  unfold Machine.execEventClose
  obtain ⟨f, hf⟩ : ∃ f, f = arrive := ⟨_, rfl⟩
  have h1 (n) : (f n s).Canon := hf ▸ h.arrive
  rw [← hf]
  refine .next ?_
  split
  · exact h
  · dsimp only
    split
    exacts [(h1 _).closeEvent, h1 _]

protected theorem State.Canon.execRgooseRetransmit (h : s.Canon) : (execRgooseRetransmit s).Canon := by
  unfold Machine.execRgooseRetransmit
  refine .next ?_
  split
  exacts [.ite h.arrive.retransmit h, h]

/-- `arrive` is kept in a variable `f`: no `match` on the state that it answers may run the TIME counter. -/
protected theorem State.Canon.execRecordComplete (h : s.Canon) : (execRecordComplete s).Canon := by
  unfold Machine.execRecordComplete
  obtain ⟨f, hf⟩ : ∃ f, f = arrive := ⟨_, rfl⟩
  have h1 (n) : (f n s).Canon := hf ▸ h.arrive
  rw [← hf]
  refine .next ?_
  split
  · exact h
  · dsimp only
    split
    exacts [(h1 _).captureRecord, h1 _]

protected theorem State.Canon.execCanFrameRx {c f} (h : s.Canon) : (execCanFrameRx c f s).Canon := by
  unfold Machine.execCanFrameRx
  exact .next (.ite h.arrive (.ite h.arrive.updCan.raise.canLog (.ite h.arrive.countErr.recAfterFrame.canLog.afterErr
    h.arrive.takeFrame)))

end Sys2Proof.Machine
end

section
/-! SUPPORT. Canonical form is kept by the backup domain, Hollyhock, power, memory and storage. -/

namespace Sys2Proof.Machine

variable {s : State}

/-! ### Machine/Backup -/

protected theorem State.Canon.recordPhase {us} (h : s.Canon) : (recordPhase us s).Canon := by
  unfold Machine.recordPhase
  exact .ite h.setInt h.set.took

protected theorem State.Canon.trimCount {moved} (h : s.Canon) : (trimCount moved s).Canon := by
  unfold Machine.trimCount
  exact .ite h.upd.upd.setInt h.upd

protected theorem State.Canon.execBkdTrim (h : s.Canon) : (execBkdTrim s).Canon := by
  unfold Machine.execBkdTrim
  exact .next (.ite h h.recordPhase.bkdMove.upd.trimCount.raiseIf.setBit.setBit)

protected theorem State.Canon.execBkdAlarmFire (h : s.Canon) : (execBkdAlarmFire s).Canon := by
  unfold Machine.execBkdAlarmFire
  exact .next (.ite h.bkdAdvance h)

protected theorem State.Canon.execWeekdayAdvance (h : s.Canon) : (execWeekdayAdvance s).Canon := by
  unfold Machine.execWeekdayAdvance
  exact .next h.bkdAdvance

protected theorem State.Canon.writeAlarmHi {value} (h : s.Canon) : (writeAlarmHi value s).Canon := by
  unfold Machine.writeAlarmHi
  exact .ite h.set.setBit.setBit.fireAlarm h.set.setBit.setBit

protected theorem State.Canon.execBkdAlarmHiWrite {value} (h : s.Canon) : (execBkdAlarmHiWrite value s).Canon := by
  unfold Machine.execBkdAlarmHiWrite
  exact .next h.writeAlarmHi

protected theorem State.Canon.writeAlarmLo {value} (h : s.Canon) : (writeAlarmLo value s).Canon := by
  unfold Machine.writeAlarmLo
  exact h.set.setBit

protected theorem State.Canon.execBkdAlarmLoWrite {value} (h : s.Canon) : (execBkdAlarmLoWrite value s).Canon := by
  unfold Machine.execBkdAlarmLoWrite
  exact .next h.writeAlarmLo

protected theorem State.Canon.writeWd {value} (h : s.Canon) : (writeWd value s).Canon := by
  unfold Machine.writeWd
  exact .ite h.set.set h.set

protected theorem State.Canon.execBkdWdWrite {value} (h : s.Canon) : (execBkdWdWrite value s).Canon := by
  unfold Machine.execBkdWdWrite
  exact .next h.writeWd

protected theorem State.Canon.writePark (h : s.Canon) : (writePark s).Canon := by
  unfold Machine.writePark
  exact .ite h.raise (.ite h.set.setBit.upd.flushNand.writeBackup h)

protected theorem State.Canon.execPark (h : s.Canon) : (execPark s).Canon := by
  unfold Machine.execPark
  exact .next h.writePark

protected theorem State.Canon.execParkTimeout (h : s.Canon) : (execParkTimeout s).Canon := by
  unfold Machine.execParkTimeout
  exact .next (.ite h.set.set.convOff h)

protected theorem State.Canon.execThermalRestart (h : s.Canon) : (execThermalRestart s).Canon := by
  unfold Machine.execThermalRestart
  exact .next (.ite h.writeBackup.set.set.set h)

protected theorem State.Canon.execBkdBytesWrite {offset data} (h : s.Canon) :
    (execBkdBytesWrite offset data s).Canon := by
  unfold Machine.execBkdBytesWrite
  exact .next h.writeBackup

protected theorem State.Canon.bytesInit (h : s.Canon) : (bytesInit s).Canon := by
  unfold Machine.bytesInit
  exact h.upd.putBackup.setBit

protected theorem State.Canon.execBkdBytesInit (h : s.Canon) : (execBkdBytesInit s).Canon := by
  unfold Machine.execBkdBytesInit
  exact .next h.bytesInit

protected theorem State.Canon.execSupplyChange {mainMv bkupMv cellMv} (h : s.Canon) :
    (execSupplyChange mainMv bkupMv cellMv s).Canon := by
  unfold Machine.execSupplyChange
  exact .next h.set.set.set.raiseIf

protected theorem State.Canon.execBkdDip (h : s.Canon) : (execBkdDip s).Canon := by
  unfold Machine.execBkdDip
  exact .next h.upd.setBit.setBit.raise

protected theorem State.Canon.execCellLow (h : s.Canon) : (execCellLow s).Canon := by
  unfold Machine.execCellLow
  exact .next h.raiseIf

protected theorem State.Canon.resetBlock {b} (h : s.Canon) : (resetBlock b s).Canon :=
  ⟨kvWf_filter _ _ _ h.regs, h.mem⟩

protected theorem State.Canon.execBkdPowerOn (h : s.Canon) : (execBkdPowerOn s).Canon := by
  unfold Machine.execBkdPowerOn
  exact .next h.resetBlock.upd

/-! ### Machine/Hollyhock -/

protected theorem State.Canon.showLanes (h : s.Canon) : (showLanes s).Canon := by
  unfold Machine.showLanes
  exact h.set.set

protected theorem State.Canon.laneMove {p l before after} (h : s.Canon) : (laneMove p l before after s).Canon := by
  unfold Machine.laneMove
  exact .ite h.set.showLanes h

protected theorem State.Canon.execLaneTrainComplete {port lane converged} (h : s.Canon) :
    (execLaneTrainComplete port lane converged s).Canon := by
  unfold Machine.execLaneTrainComplete
  exact .next h.laneMove

protected theorem State.Canon.execLaneCheckComplete {port lane} (h : s.Canon) :
    (execLaneCheckComplete port lane s).Canon := by
  unfold Machine.execLaneCheckComplete
  exact .next h.laneMove

protected theorem State.Canon.execLaneErroredBlock {port lane} (h : s.Canon) :
    (execLaneErroredBlock port lane s).Canon := by
  unfold Machine.execLaneErroredBlock
  exact .next h.bump.laneMove

protected theorem State.Canon.execLaneLost {port lane inFlight} (h : s.Canon) :
    (execLaneLost port lane inFlight s).Canon := by
  unfold Machine.execLaneLost
  exact .next (.ite h (.ite h.laneMove.raise.bump.portUp.raise h.laneMove.raise.bump))

protected theorem State.Canon.execLaneRetrain {port lane} (h : s.Canon) : (execLaneRetrain port lane s).Canon := by
  unfold Machine.execLaneRetrain
  exact .next (.ite h.laneMove h)

protected theorem State.Canon.execLaneRebond {port lane} (h : s.Canon) : (execLaneRebond port lane s).Canon := by
  unfold Machine.execLaneRebond
  exact .next (.ite h.toPhase.laneMove.raise h)

protected theorem State.Canon.newKeys {slots} (h : s.Canon) : (newKeys slots s).Canon := by
  unfold Machine.newKeys
  exact h.upd.set.set.raise

protected theorem State.Canon.renewKeys (h : s.Canon) : (renewKeys s).Canon := by
  unfold Machine.renewKeys
  exact h.toPeers.newKeys

protected theorem State.Canon.keyRefused {slot} (h : s.Canon) : (keyRefused slot s).Canon := by
  unfold Machine.keyRefused
  exact .ite h.upd.set.peerRole.dropPeer.reviewOwner.refuseJoin h.joinAnswered

protected theorem State.Canon.execKey {hdr chain final} (h : s.Canon) : (execKey hdr chain final s).Canon := by
  unfold Machine.execKey
  exact .next (h.onFrame (fun _ h => .ite h.keyRefused (.ite h.upd.newKeys h.upd.toMember)))

protected theorem State.Canon.execKeyRenewal (h : s.Canon) : (execKeyRenewal s).Canon := by
  unfold Machine.execKeyRenewal
  exact .next h.renewKeys

protected theorem State.Canon.execOldKeyExpiry (h : s.Canon) : (execOldKeyExpiry s).Canon := by
  unfold Machine.execOldKeyExpiry
  refine .next ?_
  split
  · exact h
  · extract_lets +onlyGivenNames l
    exact h.upd

protected theorem State.Canon.execDelayReq {port rx arrived departed} (h : s.Canon) :
    (execDelayReq port rx arrived departed s).Canon := by
  unfold Machine.execDelayReq
  refine .next ?_
  split
  exacts [.ite h.upd.toPort h, h.onFrame (fun _ h => h.toPort)]

protected theorem State.Canon.takeExchange {p e} (h : s.Canon) : (takeExchange p e s).Canon := by
  unfold Machine.takeExchange
  exact .ite h.upd.raiseIf.set h.upd.raiseIf.set.setInt

protected theorem State.Canon.steerBySeven {p} (h : s.Canon) : (steerBySeven p s).Canon := by
  unfold Machine.steerBySeven
  exact .ite h h.setInt.servo.refreshQuality

protected theorem State.Canon.execDelayResp {hdr t1 t2 t3 t4} (h : s.Canon) :
    (execDelayResp hdr t1 t2 t3 t4 s).Canon := by
  unfold Machine.execDelayResp
  exact .next (h.onFrame (fun _ h => h.takeExchange.steerBySeven))

/-! ### Machine/Power -/

protected theorem State.Canon.powerFail (h : s.Canon) : (powerFail s).Canon := by
  unfold Machine.powerFail
  exact .ite h.upd.raise h.upd.raise.set.fail

protected theorem State.Canon.carryA (h : s.Canon) : (carryA s).Canon := by
  unfold Machine.carryA
  exact h.upd.set.set

protected theorem State.Canon.carryB (h : s.Canon) : (carryB s).Canon := by
  unfold Machine.carryB
  exact h.upd.set

protected theorem State.Canon.feedLeft {f state} (h : s.Canon) : (feedLeft f state s).Canon := by
  unfold Machine.feedLeft
  exact .ite h.set.raiseIf (.ite (.ite h.set.raiseIf.carryB h.set.raiseIf.carryA) h.set.raiseIf.powerFail)

protected theorem State.Canon.feedVolts {f mv} (h : s.Canon) : (feedVolts f mv s).Canon := by
  unfold Machine.feedVolts
  exact h.set

protected theorem State.Canon.execFeedLost {feed mv} (h : s.Canon) : (execFeedLost feed mv s).Canon := by
  unfold Machine.execFeedLost
  exact .next h.feedVolts.feedLeft

protected theorem State.Canon.execFeedOv {feed mv} (h : s.Canon) : (execFeedOv feed mv s).Canon := by
  unfold Machine.execFeedOv
  exact .next h.feedVolts.raise.feedLeft

protected theorem State.Canon.feedBack {f} (h : s.Canon) : (feedBack f s).Canon := by
  unfold Machine.feedBack
  exact .ite h (.ite (.ite h.set h.carryA) (.ite h.set h.set.carryB))

protected theorem State.Canon.execFeedGood {feed mv bothLow1s} (h : s.Canon) :
    (execFeedGood feed mv bothLow1s s).Canon := by
  unfold Machine.execFeedGood
  exact .next (.ite (.wakeFromPark (.ite h.feedVolts h.feedVolts.feedBack)) (.ite h.feedVolts h.feedVolts.feedBack))

protected theorem State.Canon.execFeedOvClear {feed mv} (h : s.Canon) : (execFeedOvClear feed mv s).Canon := by
  unfold Machine.execFeedOvClear
  exact .next (.ite h.feedVolts.set.feedBack h.feedVolts)

protected theorem State.Canon.execFeedReturn (h : s.Canon) : (execFeedReturn s).Canon := by
  unfold Machine.execFeedReturn
  exact .next (.ite h.upd.set.set.raise h)

protected theorem State.Canon.execFeedBRelease (h : s.Canon) : (execFeedBRelease s).Canon := by
  unfold Machine.execFeedBRelease
  exact .next (.ite h.upd h)

protected theorem State.Canon.execSeatedDetectMade {slotId groupId} (h : s.Canon) :
    (execSeatedDetectMade slotId groupId s).Canon := by
  unfold Machine.execSeatedDetectMade
  exact .next (.ite h.raiseIf (.ite h.setBit.setBit.set.set.raiseIf.set.set
    h.setBit.setBit.set.set.raiseIf.wakeFromPark))

protected theorem State.Canon.execSeatPartial {atH40} (h : s.Canon) : (execSeatPartial atH40 s).Canon := by
  unfold Machine.execSeatPartial
  exact .next h.setBit.setBit.raise

protected theorem State.Canon.execSeatedDetectBreak {atH40} (h : s.Canon) :
    (execSeatedDetectBreak atH40 s).Canon := by
  unfold Machine.execSeatedDetectBreak
  exact .next (.ite h.setBit.setBit (.failOff (.ite h.setBit.setBit.recordOwn h.setBit.setBit)))

protected theorem State.Canon.maxTemp {f v} (h : s.Canon) : (maxTemp f v s).Canon := by
  unfold Machine.maxTemp
  exact .ite h.setInt h

protected theorem State.Canon.applyCap (h : s.Canon) : (applyCap s).Canon := by
  unfold Machine.applyCap
  exact .ite h.set h

protected theorem State.Canon.measureInput (h : s.Canon) : (measureInput s).Canon := by
  unfold Machine.measureInput
  exact h.set.took.set.took.set.took.maxTo

protected theorem State.Canon.execTempSample {die board} (h : s.Canon) : (execTempSample die board s).Canon := by
  unfold Machine.execTempSample
  exact .next (.ite h.setInt.setInt.measureInput.maxTemp.maxTemp.upd.setBit.setBit.raiseIf.applyCap.upd
    h.setInt.setInt.measureInput.maxTemp.maxTemp.upd.setBit.setBit.raiseIf.applyCap)

protected theorem State.Canon.shutDown (h : s.Canon) : (shutDown s).Canon := by
  unfold Machine.shutDown
  exact h.set.set.convOff

protected theorem State.Canon.execThermalFail (h : s.Canon) : (execThermalFail s).Canon := by
  unfold Machine.execThermalFail
  exact .next (.ite h h.enterFailed.flushNand.writeBackup.shutDown)

protected theorem State.Canon.execThermalShutdown (h : s.Canon) : (execThermalShutdown s).Canon := by
  unfold Machine.execThermalShutdown
  exact .next (.ite h.shutDown h)

protected theorem State.Canon.execAvsAdjust {demandMv} (h : s.Canon) : (execAvsAdjust demandMv s).Canon := by
  unfold Machine.execAvsAdjust
  exact .next h.set.setBit.raiseIf

protected theorem State.Canon.judgeStretch (h : s.Canon) : (judgeStretch s).Canon := by
  unfold Machine.judgeStretch
  exact .ite h.upd.bump.raise h

protected theorem State.Canon.execDroopDetect {centi} (h : s.Canon) : (execDroopDetect centi s).Canon := by
  unfold Machine.execDroopDetect
  exact .next h.wrapUp.upd.maxTo.judgeStretch

protected theorem State.Canon.execMgmtOpSelect {op} (h : s.Canon) : (execMgmtOpSelect op s).Canon := by
  unfold Machine.execMgmtOpSelect
  exact .next h.set.applyCap

protected theorem State.Canon.showClock {d running gated} (h : s.Canon) : (showClock d running gated s).Canon := by
  unfold Machine.showClock
  exact h.set.set

protected theorem State.Canon.execClockGate {domain} (h : s.Canon) : (execClockGate domain s).Canon := by
  unfold Machine.execClockGate
  exact .next (.ite h.showClock h)

protected theorem State.Canon.execClockWake {domain} (h : s.Canon) : (execClockWake domain s).Canon := by
  unfold Machine.execClockWake
  exact .next (.ite h.showClock h)

protected theorem State.Canon.execClockFault {domain} (h : s.Canon) : (execClockFault domain s).Canon := by
  unfold Machine.execClockFault
  exact .next (.ite h h.showClock.fail)

protected theorem State.Canon.execRailFault (h : s.Canon) : (execRailFault s).Canon := by
  unfold Machine.execRailFault
  exact .next h.fail

protected theorem State.Canon.execFirmwareWatchdog {unit} (h : s.Canon) : (execFirmwareWatchdog unit s).Canon := by
  unfold Machine.execFirmwareWatchdog
  exact .next h.fail

/-! ### Machine/Memory -/

protected theorem State.Canon.writeMemLog {n memory index source symbols devices kind} (h : s.Canon) :
    (writeMemLog n memory index source symbols devices kind s).Canon := by
  unfold Machine.writeMemLog
  exact h.set.set.set.set.set.set.set.set.set

protected theorem State.Canon.memLog {memory index source symbols devices kind} (h : s.Canon) :
    (memLog memory index source symbols devices kind s).Canon := by
  unfold Machine.memLog
  exact .ite h.bump.raise h.writeMemLog.set

protected theorem State.Canon.clearMemLog (h : s.Canon) : (clearMemLog s).Canon := by
  unfold Machine.clearMemLog
  exact h.set.set.foldl fun _ _ h => h.setReg

protected theorem State.Canon.execMemLogClear {value} (h : s.Canon) : (execMemLogClear value s).Canon := by
  unfold Machine.execMemLogClear
  exact .next (.ite h.clearMemLog h)

protected theorem State.Canon.logCorrected {memory index source symbols devices} (h : s.Canon) :
    (logCorrected memory index source symbols devices s).Canon := by
  unfold Machine.logCorrected
  exact .ite h h.upd.memLog

protected theorem State.Canon.retireDev {d state} (h : s.Canon) : (retireDev d state s).Canon := by
  unfold Machine.retireDev
  exact h.raise.memLog.lifetimeAdd

protected theorem State.Canon.reviewDevs (h : s.Canon) : (reviewDevs s).Canon := by
  unfold Machine.reviewDevs
  refine .ite ?_ (.ite ?_ h)
  · split
    exacts [h, h.set.set.retireDev, h.set.set.set.retireDev.retireDev.fail]
  · split
    exacts [h, h.set.set.retireDev.fail]

protected theorem State.Canon.attributeTo {line errs d} (h : s.Canon) : (attributeTo line errs s d).Canon := by
  unfold Machine.attributeTo
  exact .ite h h.bump.upd.set

protected theorem State.Canon.dramRead {line source bad} (h : s.Canon) : (dramRead line source bad s).Canon := by
  unfold Machine.dramRead
  exact .ite h (.ite (.reviewDevs (.logCorrected (h.raise.maxTo.foldl fun _ _ h => h.attributeTo)))
    h.raise.memLog.set.fail)

protected theorem State.Canon.execDramScrubRead {bad overwritten} (h : s.Canon) :
    (execDramScrubRead bad overwritten s).Canon := by
  unfold Machine.execDramScrubRead
  exact .next (.ite h (.ite (.wrapUp (h.setBit.dramRead.set.upd.foldl fun _ _ h => h.set)) h.setBit.dramRead.set))

protected theorem State.Canon.execDramScrubLate (h : s.Canon) : (execDramScrubLate s).Canon := by
  unfold Machine.execDramScrubLate
  exact .next (.ite h.raise h)

protected theorem State.Canon.sramUe {memory index source} (h : s.Canon) : (sramUe memory index source s).Canon := by
  unfold Machine.sramUe
  exact h.raise.memLog.fail

protected theorem State.Canon.execSramScrubRead {memory index outcome overwritten passDone} (h : s.Canon) :
    (execSramScrubRead memory index outcome overwritten passDone s).Canon := by
  unfold Machine.execSramScrubRead
  refine .next (.ite h ?_)
  extract_lets +onlyGivenNames s1 s2
  have h1 : s1.Canon := h.setBit
  have h2 : s2.Canon := by
    unfold s2
    split
    exacts [h1, h1.raise.bump.logCorrected, h1.sramUe]
  exact .ite (.wrapUp h2.upd) h2

protected theorem State.Canon.execSramScrubLate (h : s.Canon) : (execSramScrubLate s).Canon := by
  unfold Machine.execSramScrubLate
  exact .next (.ite h.raise h)

/-! ### Machine/Storage -/

protected theorem State.Canon.updNvs {f} (h : s.Canon) : (State.updNvs s f).Canon := by
  unfold Machine.State.updNvs
  exact h.upd

protected theorem State.Canon.showSpare (h : s.Canon) : (showSpare s).Canon := by
  unfold Machine.showSpare
  exact h.foldl fun _ _ h => h.set

protected theorem State.Canon.exhaustRecord {copy} (h : s.Canon) : (exhaustRecord copy s).Canon := by
  unfold Machine.exhaustRecord
  exact h.took.lifetimeAdd

protected theorem State.Canon.archReadOnly (h : s.Canon) : (archReadOnly s).Canon := by
  unfold Machine.archReadOnly
  exact .ite h (.set (.updLsp (h.setBit.raise.fwLog.exhaustRecord.foldl fun _ _ h => h.raise)))

protected theorem State.Canon.exhaustCopy {copy} (h : s.Canon) : (exhaustCopy copy s).Canon := by
  unfold Machine.exhaustCopy
  exact .ite h h.set.raise.exhaustRecord

protected theorem State.Canon.retireBlock {copy package} (h : s.Canon) : (retireBlock copy package s).Canon := by
  unfold Machine.retireBlock
  exact .ite (.ite h.exhaustCopy h.archReadOnly) h.updNvs.bump.raise.showSpare.raiseIf

protected theorem State.Canon.retireAt {copy package i} (h : s.Canon) : (retireAt copy package i s).Canon := by
  unfold Machine.retireAt
  exact .ite h.retireBlock h.updNand.retireBlock

protected theorem State.Canon.retireWorn {copy package} (h : s.Canon) : (retireWorn copy package s).Canon := by
  unfold Machine.retireWorn
  exact h.foldl fun _ _ h => h.retireAt

protected theorem State.Canon.uncorrectable {p b g} (h : s.Canon) : (uncorrectable p b g s).Canon := by
  unfold Machine.uncorrectable
  extract_lets +onlyGivenNames s1 bad
  have h1 : s1.Canon := h.raise
  refine .ite h1 (.ite h1.updNand.updNvs.fwLog ?_)
  split
  · exact h1.nandPut
  · extract_lets +onlyGivenNames s2
    have h2 : s2.Canon := h1.updNand
    split
    exacts [.ite h2 h2.upd, h2]

protected theorem State.Canon.refreshBlock {p i} (h : s.Canon) : (refreshBlock p i s).Canon := by
  unfold Machine.refreshBlock
  exact h.updNand

protected theorem State.Canon.sweepPage {x b g} (h : s.Canon) : (sweepPage x b g s).Canon := by
  unfold Machine.sweepPage
  extract_lets +onlyGivenNames p q s1 s2 s3 s4
  have h2 : s2.Canon := h.maxTo.updNand
  have h3 : s3.Canon := .ite h2.storeOffset h2
  have h4 : s4.Canon := .ite h3.raise (.ite h3.uncorrectable h3)
  exact .retireWorn (.ite h4.retireAt (.ite h4.refreshBlock h4))

protected theorem State.Canon.execNandSweepRead {x} (h : s.Canon) : (execNandSweepRead x s).Canon := by
  unfold Machine.execNandSweepRead
  refine .next (.ite h ?_)
  extract_lets +onlyGivenNames s1 b s2
  have h1 : s1.Canon := h.setBit
  have h2 : s2.Canon := by
    unfold s2
    split
    exacts [h1.sweepPage.showWear, h1]
  exact .ite h2.updNvs.wrapUp.set h2.set

protected theorem State.Canon.execSweepLate (h : s.Canon) : (execSweepLate s).Canon := by
  unfold Machine.execSweepLate
  exact .next h.raiseIf

protected theorem State.Canon.execLogFlush (h : s.Canon) : (execLogFlush s).Canon := by
  unfold Machine.execLogFlush
  exact .next h.flushLog.showWear

protected theorem State.Canon.execConfWriteComplete {programmed} (h : s.Canon) :
    (execConfWriteComplete programmed s).Canon := by
  unfold Machine.execConfWriteComplete
  refine .next ?_
  split
  · exact h
  · refine .showWear (.foldl (.confDone h.upd) fun _ _ h => .retireWorn ?_)
    split
    exacts [.ite h.retireAt h, h]

protected theorem State.Canon.execLogBudgetRefill (h : s.Canon) : (execLogBudgetRefill s).Canon := by
  unfold Machine.execLogBudgetRefill
  exact .next h.updNvs

protected theorem State.Canon.execLifetimeHours {secA secB} (h : s.Canon) :
    (execLifetimeHours secA secB s).Canon := by
  unfold Machine.execLifetimeHours
  exact .next h.took.took.updNvs.lifetimeAdd

protected theorem State.Canon.execNandWear (h : s.Canon) : (execNandWear s).Canon := by
  unfold Machine.execNandWear
  exact .next h.showWear.lifetimeAdd

protected theorem State.Canon.execArchiveList {r} (h : s.Canon) : (execArchiveList r s).Canon := by
  unfold Machine.execArchiveList
  refine .next (h.serve (fun _ h => ?_))
  split
  · exact .err h
  · extract_lets +onlyGivenNames l
    exact .ok h

protected theorem State.Canon.execArchiveExport {r} (h : s.Canon) : (execArchiveExport r s).Canon := by
  unfold Machine.execArchiveExport
  refine .next (h.serve (fun _ h => ?_))
  extract_lets +onlyGivenNames p off len
  split
  · extract_lets +onlyGivenNames n
    split
    exacts [.err h, .ite (.err h) (.later h.updNvs)]
  · exact .err h

protected theorem State.Canon.execArchiveDelete {r} (h : s.Canon) : (execArchiveDelete r s).Canon := by
  unfold Machine.execArchiveDelete
  refine .next (h.serve (fun _ h => ?_))
  extract_lets +onlyGivenNames id
  split
  exacts [.err h, .ite h.conflict (.ite (.err h) (.ok h.updNvs.nandForget.showArch))]

protected theorem State.Canon.execArchiveLogEvent {r} (h : s.Canon) : (execArchiveLogEvent r s).Canon := by
  unfold Machine.execArchiveLogEvent
  refine .next (h.serve (fun _ h => ?_))
  extract_lets +onlyGivenNames p
  split
  · exact .err h
  · split
    exacts [.ok h.logEvent, .ok h]

protected theorem State.Canon.execArchiveReadLog {r} (h : s.Canon) : (execArchiveReadLog r s).Canon := by
  unfold Machine.execArchiveReadLog
  refine .next (h.serve (fun _ h => ?_))
  split
  · exact .err h
  · extract_lets +onlyGivenNames l next
    exact .ok h

protected theorem State.Canon.execLifetimeGetSummary {r} (h : s.Canon) : (execLifetimeGetSummary r s).Canon := by
  unfold Machine.execLifetimeGetSummary
  exact .next (h.serve (fun _ h => .ok h))

protected theorem State.Canon.execLifetimeReadRecords {r} (h : s.Canon) : (execLifetimeReadRecords r s).Canon := by
  unfold Machine.execLifetimeReadRecords
  refine .next (h.serve (fun _ h => ?_))
  extract_lets +onlyGivenNames first count
  refine .ite (.err h) ?_
  split
  · extract_lets +onlyGivenNames t
    exact .later h.updNvs
  · exact h.conflict

protected theorem State.Canon.execLifetimeAddNote {r} (h : s.Canon) : (execLifetimeAddNote r s).Canon := by
  unfold Machine.execLifetimeAddNote
  exact .next (h.serve (fun _ h => .ite (.err h) (.ite (.err h) (.ok h.lifetimeAdd))))

protected theorem State.Canon.countReads {id} (h : s.Canon) : (countReads id s).Canon := by
  unfold Machine.countReads
  exact h.updNand

protected theorem State.Canon.advanceTransfer {t} (h : s.Canon) : (advanceTransfer t s).Canon := by
  unfold Machine.advanceTransfer
  exact .ite h.dropTransfers.finishD (.ite (.finishD (.dropTransfers (.ite (.countReads (.ite h.took.post h))
    (.ite h.took.post h)))) (.updNvs (.ite (.countReads (.ite h.took.post h)) (.ite h.took.post h))))

end Sys2Proof.Machine
end

section
/-! SUPPORT. Canonical form is kept by update, boot, settings commands, security and what is forwarded. -/

namespace Sys2Proof.Machine

variable {s : State}

/-! ### Machine/Update -/

protected theorem State.Canon.busy (h : s.Canon) : (busy s).Canon := by
  unfold Machine.busy
  exact .err h.raise

protected theorem State.Canon.takeLock {hdr} (h : s.Canon) : (takeLock hdr s).Canon := by
  unfold Machine.takeLock
  exact h.updSec.setBit

protected theorem State.Canon.dropUpdate (h : s.Canon) : (dropUpdate s).Canon := by
  unfold Machine.dropUpdate
  exact h.updSec.freeLock

protected theorem State.Canon.beginUpdate {hdr p} (h : s.Canon) : (beginUpdate hdr p s).Canon := by
  unfold Machine.beginUpdate
  exact h.takeLock.writeRecord.updSec

protected theorem State.Canon.lockAnswered {hdr status} (h : s.Canon) : (lockAnswered hdr status s).Canon := by
  unfold Machine.lockAnswered
  refine h.updSec.foldl fun _ b h => ?_
  extract_lets +onlyGivenNames answer
  have ha {st p} {t : State} (ht : t.Canon) : (answer st p t).Canon := by
    unfold answer
    split
    exacts [ht.finishD, ht]
  clear_value answer
  exact .ite (ha h.raise) (.ite (ha h) (.ite (ha h) (ha h.beginUpdate)))

protected theorem State.Canon.lockAsked {hdr} (h : s.Canon) : (lockAsked hdr s).Canon := by
  unfold Machine.lockAsked
  exact .ite h (.ite h.raise.forwardTo (.ite h.forwardTo h.takeLock.forwardTo))

protected theorem State.Canon.execUpdateGetStatus {r} (h : s.Canon) : (execUpdateGetStatus r s).Canon := by
  unfold Machine.execUpdateGetStatus
  exact .next (h.serve (fun _ h => .ok h))

protected theorem State.Canon.execUpdateBegin {r} (h : s.Canon) : (execUpdateBegin r s).Canon := by
  unfold Machine.execUpdateBegin
  refine .next (h.serve fun _ h => ?_)
  dsimp only
  split
  · exact .err h
  · refine .ite h.busy (.ite h.conflict (.ite (.ite h.conflict (.ok h.beginUpdate)) (.ite h.conflict ?_)))
    split
    exacts [.later h.updSec.forwardTo, h.conflict]

protected theorem State.Canon.execUpdateTransfer {r} (h : s.Canon) : (execUpdateTransfer r s).Canon := by
  unfold Machine.execUpdateTransfer
  refine .next (h.serve (fun _ h => ?_))
  extract_lets +onlyGivenNames p off chunk
  split
  exacts [.ite (.err h) h.conflict, .ite h.busy (.ite h.conflict (.ok h.took.updSec.sendStages))]

protected theorem State.Canon.judgeBundle (h : s.Canon) : (judgeBundle s).2.Canon := by
  unfold Machine.judgeBundle
  split
  · dsimp only
    exact h.raise
  · split
    exacts [h.raiseUnbootable, h]

protected theorem State.Canon.execUpdateInstall {r} (h : s.Canon) : (execUpdateInstall r s).Canon := by
  unfold Machine.execUpdateInstall
  exact .next (h.serve (fun _ h => .ite h.busy (.ite h.conflict (.ite (.err h)
    (.ite (.ok h.judgeBundle.sendStages.installSlot.updSec) (.err h.judgeBundle.sendStages))))))

protected theorem State.Canon.execInstallRestart (h : s.Canon) : (execInstallRestart s).Canon := by
  unfold Machine.execInstallRestart
  exact .next (.ite h.saveRetain.updSec.upd h)

protected theorem State.Canon.execUpdateConfirm {r} (h : s.Canon) : (execUpdateConfirm r s).Canon := by
  unfold Machine.execUpdateConfirm
  exact .next (h.serve (fun _ h => .ite h.busy (.ite h.conflict (.ok h.confirmTrial))))

protected theorem State.Canon.execUpdateAbort {r} (h : s.Canon) : (execUpdateAbort r s).Canon := by
  unfold Machine.execUpdateAbort
  exact .next (h.serve (fun _ h => .ite (.ok h.dropUpdate) (.ite (.ok h.endTrial) h.conflict)))

protected theorem State.Canon.execTrialHealthy (h : s.Canon) : (execTrialHealthy s).Canon := by
  unfold Machine.execTrialHealthy
  exact .next (.ite h (.ite (.ite h.forwardTo (.ite h.forwardTo.confirmTrial.endGroup h.forwardTo.confirmTrial))
    (.ite h.confirmTrial h)))

protected theorem State.Canon.execTrialWindowExpiry (h : s.Canon) : (execTrialWindowExpiry s).Canon := by
  unfold Machine.execTrialWindowExpiry
  exact .next (.ite h.endTrial h)

protected theorem State.Canon.execTrialHandoverTimeout (h : s.Canon) : (execTrialHandoverTimeout s).Canon := by
  unfold Machine.execTrialHandoverTimeout
  exact .next (.ite h.cancelHandover.fallBack h)

protected theorem State.Canon.execUpdateLockExpiry (h : s.Canon) : (execUpdateLockExpiry s).Canon := by
  unfold Machine.execUpdateLockExpiry
  exact .next (.ite h.dropUpdate h)

protected theorem State.Canon.execUpdateGroupUpdate {r} (h : s.Canon) : (execUpdateGroupUpdate r s).Canon := by
  unfold Machine.execUpdateGroupUpdate
  exact .next (h.serve (fun _ h => .ite h.busy (.ite h.conflict (.ite (.err h) (.ite (.later
    h.judgeBundle.forwardTo.updSec) (.err h.judgeBundle))))))

protected theorem State.Canon.nextTurn (h : s.Canon) : (nextTurn s).Canon := by
  unfold Machine.nextTurn
  dsimp only
  split
  exacts [.ite h h.nameHandover.groupStepTo, h.groupStepTo]

protected theorem State.Canon.groupBundle {flags window digest bytes} (h : s.Canon) :
    (groupBundle flags window digest bytes s).Canon := by
  unfold Machine.groupBundle
  exact h.updSec.judgeBundle.forwardTo

protected theorem State.Canon.groupArrived {step slot} (h : s.Canon) : (groupArrived step slot s).Canon := by
  unfold Machine.groupArrived
  exact .ite h.updSec.freeLock (.ite h.endGroup (.ite (.ite (.ite h.updSec.nextTurn h.updSec) (.ite h.updSec.nextTurn
    h)) (.ite h.updSec.takeTurn (.ite h.updSec h))))

/-! ### Machine/Boot -/

protected theorem State.Canon.requestWarm (h : s.Canon) : (requestWarm s).Canon := by
  unfold Machine.requestWarm
  exact .ite h.raise h.saveRetain.upd

protected theorem State.Canon.requestDomains {mask} (h : s.Canon) : (requestDomains mask s).Canon := by
  unfold Machine.requestDomains
  exact h.foldl fun _ _ h => .ite h (.ite h.upd h.raise)

protected theorem State.Canon.execWarmResetRequest (h : s.Canon) : (execWarmResetRequest s).Canon := by
  unfold Machine.execWarmResetRequest
  exact .next h.requestWarm

protected theorem State.Canon.execDomainResetRequest {mask} (h : s.Canon) :
    (execDomainResetRequest mask s).Canon := by
  unfold Machine.execDomainResetRequest
  exact .next h.requestDomains

protected theorem State.Canon.mapRegs {p f} (h : s.Canon) : (mapRegs p f s).Canon := ⟨kvWf_foldl_kvPut _ rfl, h.mem⟩

protected theorem State.Canon.resetRings (h : s.Canon) : (resetRings s).Canon := ⟨kvWf_filter _ _ _ h.regs, h.mem⟩

protected theorem State.Canon.resetBlocks {bs} (h : s.Canon) : (resetBlocks bs s).Canon := by
  unfold Machine.resetBlocks
  exact h.mapRegs

protected theorem State.Canon.resetMailbox (h : s.Canon) : (resetMailbox s).Canon := by
  unfold Machine.resetMailbox
  exact .resetRings (.showSessions (h.upd.foldl fun _ _ h => h.setReg))

protected theorem State.Canon.resetHollyhock (h : s.Canon) : (resetHollyhock s).Canon := by
  unfold Machine.resetHollyhock
  exact .set (.set (.set (.set (h.upd.foldl fun _ _ h => h.set.set))))

protected theorem State.Canon.resetPair (h : s.Canon) : (resetPair s).Canon := by
  unfold Machine.resetPair
  exact .setBit (.setBit (.set (.set (.set (h.upd.foldl fun _ _ h => h.setBit.setBit.set)))))

protected theorem State.Canon.resetNetworks (h : s.Canon) : (resetNetworks s).Canon := by
  unfold Machine.resetNetworks
  exact .showNetwork (.foldl (.set (.set (.set (.setBit (h.foldl fun _ _ h => h.setBit.set.setBit))))) fun _ _ h =>
    h.set)

protected theorem State.Canon.resetProgram (h : s.Canon) : (resetProgram s).Canon := by
  unfold Machine.resetProgram
  exact h.upd

protected theorem State.Canon.resetStore (h : s.Canon) : (resetStore s).Canon := by
  unfold Machine.resetStore
  exact h.updNvs

protected theorem State.Canon.dropDram (h : s.Canon) : (dropDram s).Canon := ⟨h.regs, kvWf_filter _ _ _ h.mem⟩

protected theorem State.Canon.resetUpdate (h : s.Canon) : (resetUpdate s).Canon := by
  unfold Machine.resetUpdate
  exact .ite h.updSec.updSec.setBit (.ite h.updSec.updSec h.updSec)

protected theorem State.Canon.bootStops {lastFault} (h : s.Canon) : (bootStops lastFault s).Canon := by
  unfold Machine.bootStops
  exact h.updSec.recordLastFault

protected theorem State.Canon.romFallback (h : s.Canon) : (romFallback s).Canon := by
  unfold Machine.romFallback
  exact h.writeRecord.updSec

protected theorem State.Canon.showDigest {f d} (h : s.Canon) : (showDigest f d s).Canon := by
  unfold Machine.showDigest
  exact h.foldl fun _ _ h => h.set

protected theorem State.Canon.loadBootConf (h : s.Canon) : (loadBootConf s).Canon := by
  unfold Machine.loadBootConf
  exact .raiseIf (.ite h.set.set.set.updSec h.set.set.set.updSec.set.set.set)

protected theorem State.Canon.bootBundle {i copy} (h : s.Canon) : (bootBundle i copy s).Canon := by
  unfold Machine.bootBundle
  exact .loadBootConf (.setBit (.took (.set (.secureDram (.showDigest (.showDigest (.updSec (.setBit
    (.ite h.set.set.setBit.maxTo h.set.set.setBit)))))))))

protected theorem State.Canon.bootChain (h : s.Canon) : (bootChain s).Canon := by
  unfold Machine.bootChain
  extract_lets +onlyGivenNames s1
  have h1 : s1.Canon := h.updSec
  split
  · exact h1.bootStops
  · extract_lets +onlyGivenNames n trial s2 s3 s4 q
    have h2 : s2.Canon := .ite h1.romFallback h1
    have h3 : s3.Canon := .ite h2 h2.bytesInit.writeBackup
    have h4 : s4.Canon := h3.setAttempts
    split
    exacts [h4.firstBootable.bootBundle, h4.firstBootable.bootStops]

protected theorem State.Canon.flushCrossing {reset x} (h : s.Canon) : (flushCrossing reset s x).Canon := by
  unfold Machine.flushCrossing
  exact .ite h h.send

protected theorem State.Canon.restartTick (h : s.Canon) : (restartTick s).Canon := by
  unfold Machine.restartTick
  exact h.upd.setTickRole

protected theorem State.Canon.warmParts (h : s.Canon) : (warmParts s).Canon := by
  unfold Machine.warmParts
  extract_lets +onlyGivenNames s1 s2 s3 s4
  have h3 : s3.Canon := h.flushNand.releaseOwn.stopSingletons.setDrive.setRole.restartTick
  have h4 : s4.Canon := h3.resetMailbox.resetHollyhock.resetPair.resetProgram.resetStore
  exact .mapRegs (.dropDram (.showStages (.lspWarm (.astDomainReset (.resetNetworks h4.upd)))))

protected theorem State.Canon.execWarmReset {flight} (h : s.Canon) : (execWarmReset flight s).Canon := by
  unfold Machine.execWarmReset
  exact .next (.refreshLck (.showTriad (.bootChain (.updProg (.resetUpdate (.set (.upd (.set (.set (.drainGates
    (.warmParts (.ite (h.foldl fun _ _ h => h.flushCrossing) (.saveRetain (h.foldl fun _ _ h =>
    h.flushCrossing))))))))))))))

protected theorem State.Canon.execFailedRestart (h : s.Canon) : (execFailedRestart s).Canon := by
  unfold Machine.execFailedRestart
  exact .next (.ite h (.ite h.upd h.saveRetain.writeBackup.upd))

protected theorem State.Canon.loadRetired (h : s.Canon) : (loadRetired s).Canon := by
  unfold Machine.loadRetired
  split
  · exact h
  · exact h.set.set
  · extract_lets +onlyGivenNames s1
    have h1 : s1.Canon := h.set.set.set
    exact h1.updSec

protected theorem State.Canon.showFuses {old} (h : s.Canon) : (showFuses old s).Canon := by
  unfold Machine.showFuses
  exact h.set.set.set

protected theorem State.Canon.showLines {old} (h : s.Canon) : (showLines old s).Canon := by
  unfold Machine.showLines
  exact h.setBit.setBit.setBit

protected theorem State.Canon.execColdReset {cause} (h : s.Canon) : (execColdReset cause s).Canon := by
  unfold Machine.execColdReset
  refine .next ?_
  extract_lets +onlyGivenNames old kept s1 s2 s3 s4 s5 s6
  have h1 : s1.Canon := h.resetProgram.resetStore.updNvs
  have h2 : s2.Canon := ⟨kvWf_filter _ _ _ h1.regs, rfl⟩
  have h6 : s6.Canon := h2.showFuses.showLines.set.set.resetUpdate.bootChain
  exact .ite h6 h6.loadRetired

protected theorem State.Canon.domainEffect {d} (h : s.Canon) : (domainEffect d s).Canon := by
  unfold Machine.domainEffect
  split
  · exact h.astDomainReset.resetRings
  · exact h.resetNetworks
  · exact h.resetHollyhock.showTriad
  · exact h.lspWarm
  · exact h.upd.setDrive
  · exact h

protected theorem State.Canon.execPerDomainReset {domain flight} (h : s.Canon) :
    (execPerDomainReset domain flight s).Canon := by
  unfold Machine.execPerDomainReset
  exact .next (.ite h.raise (.ite (.goSyncing (.set (.upd (.set (.set (.resetBlocks (.domainEffect (h.foldl
    fun _ _ h => h.flushCrossing)))))))) (.set (.upd (.set (.set (.resetBlocks (.domainEffect (h.foldl fun _ _ h =>
    h.flushCrossing)))))))))

protected theorem State.Canon.loadTime (h : s.Canon) : (loadTime s).Canon := by
  unfold Machine.loadTime
  exact .ite h h.upd.setTimeFault.stepCounter.setSource

protected theorem State.Canon.loadTimeConf (h : s.Canon) : (loadTimeConf s).Canon := by
  unfold Machine.loadTimeConf
  exact .ite h h.upd.applyTimeConfig

protected theorem State.Canon.loadConf {absent} (h : s.Canon) : (loadConf absent s).Canon := by
  unfold Machine.loadConf
  exact .foldl (h.upd.foldl fun _ _ h => h.applyObject) fun _ _ h => .ite h h.putConf

protected theorem State.Canon.startTrial {absent selfTest} (h : s.Canon) : (startTrial absent selfTest s).Canon := by
  unfold Machine.startTrial
  exact .ite h.upd.updSec.set h.upd.updSec.set.endTrial

protected theorem State.Canon.afterFallback (h : s.Canon) : (afterFallback s).Canon := by
  unfold Machine.afterFallback
  extract_lets +onlyGivenNames c s1 s2
  have h1 : s1.Canon := by
    unfold s1
    split
    exacts [h.upd, h]
  have h2 : s2.Canon := h1.updSec.freeLock.raise
  exact .ite h2 h2.updSec.forwardTo

protected theorem State.Canon.loadUnitCode (h : s.Canon) : (loadUnitCode s).Canon := by
  unfold Machine.loadUnitCode
  split
  exacts [h.loadCode, h]

protected theorem State.Canon.countStart (h : s.Canon) : (countStart s).Canon := by
  unfold Machine.countStart
  exact .ite h h.updNvs.lifetimeAdd

protected theorem State.Canon.execFirmwareUp {absent selfTest} (h : s.Canon) :
    (execFirmwareUp absent selfTest s).Canon := by
  unfold Machine.execFirmwareUp
  refine .next (.ite h ?_)
  extract_lets +onlyGivenNames s1 s2 s3 s4 s5 s6
  have h2 : s2.Canon := h.updSec.secureDram.countStart.setBit.set
  have h3 : s3.Canon := .ite h2.afterFallback h2
  have h6 : s6.Canon := h3.loadTime.loadTimeConf.set.refreshLck.loadConf.loadUnitCode
  exact .refreshQuality (.joinOrClaim (.reviewPairOk (.showArch (.showSpare (.ite h6.startTrial h6)))))

/-! ### Machine/ConfigCmds -/

protected theorem State.Canon.stageObject {o b} (h : s.Canon) : (stageObject o b s).Canon := by
  unfold Machine.stageObject
  exact h.upd

protected theorem State.Canon.execConfigGetActive {r} (h : s.Canon) : (execConfigGetActive r s).Canon := by
  unfold Machine.execConfigGetActive
  exact .next (h.serve (fun _ h => .ok h))

protected theorem State.Canon.execConfigReadSettings {r} (h : s.Canon) : (execConfigReadSettings r s).Canon := by
  unfold Machine.execConfigReadSettings
  refine .next (h.serve (fun _ h => ?_))
  extract_lets +onlyGivenNames o
  split
  exacts [.err h, .ite (.err h) (.ok h)]

protected theorem State.Canon.execConfigStageSettings {r} (h : s.Canon) : (execConfigStageSettings r s).Canon := by
  unfold Machine.execConfigStageSettings
  refine .next (h.serve (fun _ h => ?_))
  extract_lets +onlyGivenNames p o b
  split
  exacts [.err h, .ite (.err h) (.ite h.conflict (.ite (.err h.raise) (.ok h.stageObject.forwardTo)))]

protected theorem State.Canon.activateBoot {b} (h : s.Canon) : (activateBoot b s).Canon := by
  unfold Machine.activateBoot
  exact h.stageObject.confWrite.forwardTo

protected theorem State.Canon.execConfigActivate {r} (h : s.Canon) : (execConfigActivate r s).Canon := by
  unfold Machine.execConfigActivate
  refine .next (h.serve (fun _ h => ?_))
  extract_lets +onlyGivenNames o b
  split
  · exact .err h
  · refine .ite h.conflict (.ite (.ok h.activateBoot) ?_)
    split
    exacts [.err h, .ite h.conflict (.ok h.stageObject.confWrite.pendObject)]

protected theorem State.Canon.execConfigDiscardStaged {r} (h : s.Canon) : (execConfigDiscardStaged r s).Canon := by
  unfold Machine.execConfigDiscardStaged
  refine .next (h.serve (fun _ h => ?_))
  split
  · exact .err h
  · extract_lets +onlyGivenNames o
    exact .ite (.ok h.stageObject.forwardTo) h.conflict

/-! ### Machine/Security -/

protected theorem State.Canon.execSecurityGetState {r} (h : s.Canon) : (execSecurityGetState r s).Canon := by
  unfold Machine.execSecurityGetState
  exact .next (h.serve (fun _ h => .ok h))

protected theorem State.Canon.execSecuritySetTrustAnchors {r} (h : s.Canon) :
    (execSecuritySetTrustAnchors r s).Canon := by
  unfold Machine.execSecuritySetTrustAnchors
  refine .next (h.serve (fun _ h => ?_))
  extract_lets +onlyGivenNames p kind n
  split
  · exact .err h
  · refine .ite (.ite (.err h) ?_) ?_
    · split
      exacts [.err h, .ok h.updSec]
    · split
      exacts [.err h, .ite (.ok h.updSec) (.err h)]

protected theorem State.Canon.writeOwn {o b} (h : s.Canon) : (writeOwn o b s).Canon := by
  unfold Machine.writeOwn
  exact h.confWrite.putConf

protected theorem State.Canon.execSecurityLoadCrl {r} (h : s.Canon) : (execSecurityLoadCrl r s).Canon := by
  unfold Machine.execSecurityLoadCrl
  refine .next (h.serve (fun _ h => ?_))
  extract_lets +onlyGivenNames ca
  split
  · exact .err h
  · extract_lets +onlyGivenNames held others
    exact .ite h.conflict (.ok h.writeOwn)

protected theorem State.Canon.writeSecConf {off b} (h : s.Canon) : (writeSecConf off b s).Canon := by
  unfold Machine.writeSecConf
  exact h.writeOwn

protected theorem State.Canon.execSecuritySetRoleMap {r} (h : s.Canon) : (execSecuritySetRoleMap r s).Canon := by
  unfold Machine.execSecuritySetRoleMap
  refine .next (h.serve (fun _ h => ?_))
  split
  exacts [.err h, .ok h.writeSecConf]

protected theorem State.Canon.setEnrol {slot phase} (h : s.Canon) : (setEnrol slot phase s).Canon := by
  unfold Machine.setEnrol
  exact h.updSec

protected theorem State.Canon.installCert {chain notAfter} (h : s.Canon) : (installCert chain notAfter s).Canon := by
  unfold Machine.installCert
  exact h.updSec

protected theorem State.Canon.newRequest (h : s.Canon) : (newRequest s).2.Canon := by
  unfold Machine.newRequest
  exact h.took

protected theorem State.Canon.enrolEnds {cert} (h : s.Canon) : (enrolEnds cert s).Canon := by
  unfold Machine.enrolEnds
  extract_lets +onlyGivenNames s1
  have h1 : s1.Canon := h.setEnrol
  split
  exacts [h1.installCert.finishAll, h1.took.raise.finishAll]

protected theorem State.Canon.renewNow (h : s.Canon) : (renewNow s).Canon := by
  unfold Machine.renewNow
  exact .ite (.later h.setEnrol) (.ite h.conflict (.later h.newRequest.setEnrol.forwardTo))

protected theorem State.Canon.execSecurityEnrol {r} (h : s.Canon) : (execSecurityEnrol r s).Canon := by
  unfold Machine.execSecurityEnrol
  refine .next (h.serve (fun _ h => ?_))
  extract_lets +onlyGivenNames p a n lenOk
  refine .ite (.err h) ?_
  split
  · exact .err h
  · refine .ite (.ok h.newRequest) (.ite ?_ (.ite (.ok h.writeSecConf) (.ite h.conflict h.renewNow)))
    split
    exacts [.ok h.installCert, .err h.raise]

protected theorem State.Canon.execEnrolRenewal {slot chain} (h : s.Canon) :
    (execEnrolRenewal slot chain s).Canon := by
  unfold Machine.execEnrolRenewal
  refine .next (.ite h (.ite h.enrolEnds ?_))
  extract_lets +onlyGivenNames s1
  have h1 : s1.Canon := h.setEnrol
  split
  exacts [h1.forwardTo, h1.raise.forwardTo]

protected theorem State.Canon.emptyRevoked {slot} (h : s.Canon) : (emptyRevoked slot s).Canon := by
  unfold Machine.emptyRevoked
  exact .ite h.writeRecord h

protected theorem State.Canon.execSecurityRevokeRootSlot {r} (h : s.Canon) :
    (execSecurityRevokeRootSlot r s).Canon := by
  unfold Machine.execSecurityRevokeRootSlot
  refine .next (h.serve (fun _ h => ?_))
  extract_lets +onlyGivenNames p i rev
  split
  exacts [.err h, .ite h.conflict (.ok h.set.raise.emptyRevoked.lifetimeAdd)]

protected theorem State.Canon.execSecurityRotateGroupKeys {r} (h : s.Canon) :
    (execSecurityRotateGroupKeys r s).Canon := by
  unfold Machine.execSecurityRotateGroupKeys
  exact .next (h.serve (fun _ h => .ite h.conflict (.ok h.renewKeys)))

protected theorem State.Canon.execOtpDigestCheck {ok} (h : s.Canon) : (execOtpDigestCheck ok s).Canon := by
  unfold Machine.execOtpDigestCheck
  exact .next (.ite h h.fail)

protected theorem State.Canon.execIdentGetCertificates {r} (h : s.Canon) : (execIdentGetCertificates r s).Canon := by
  unfold Machine.execIdentGetCertificates
  refine .next (h.serve (fun _ h => ?_))
  split
  · exact .err h
  · extract_lets +onlyGivenNames l l
    exact .ok h

/-! ### Machine/Forward -/

protected theorem State.Canon.forwardedSettings {o f b} (h : s.Canon) : (forwardedSettings o f b s).Canon := by
  unfold Machine.forwardedSettings
  exact .ite h.stageObject.confWrite h.stageObject.confWrite.upd

protected theorem State.Canon.forwardedUnit {b} (h : s.Canon) : (forwardedUnit b s).Canon := by
  unfold Machine.forwardedUnit
  exact h.stageUnit.forwardTo

protected theorem State.Canon.unitResultFrom {slot result} (h : s.Canon) : (unitResultFrom slot result s).Canon := by
  unfold Machine.unitResultFrom
  split
  exacts [h, h.updProg.reviewLoad]

protected theorem State.Canon.forwardedChange {id} (h : s.Canon) : (forwardedChange id s).Canon := by
  unfold Machine.forwardedChange
  split
  exacts [.ite h.beginChange h.toPeers, h.toPeers]

protected theorem State.Canon.objectAsked {o} (h : s.Canon) : (objectAsked o s).Canon := by
  unfold Machine.objectAsked
  exact .ite h.forwardTo h

protected theorem State.Canon.objectArrived {o b} (h : s.Canon) : (objectArrived o b s).Canon := by
  unfold Machine.objectArrived
  exact .ite h (.ite h.confWrite h.confWrite.putConf.applyObject)

protected theorem State.Canon.lockFreed (h : s.Canon) : (lockFreed s).Canon := by
  unfold Machine.lockFreed
  exact h.updSec.setBit

protected theorem State.Canon.forwarded {slot f} (h : s.Canon) : (forwarded slot f s).Canon := by
  unfold Machine.forwarded
  split
  · exact h.forwardedSettings
  · exact h.pendStreaming
  · exact h.forwardedChange
  · exact h.dropChange
  · exact h.forwardedUnit
  · exact h.unitResultFrom
  · exact h.updProg
  · exact h.startCal
  · exact h.runTrigger
  · exact h.stageObject
  · exact h.stageObject
  · exact h.objectAsked
  · exact h.objectArrived
  · exact h.lockAsked
  · exact h.lockAnswered
  · exact h.lockFreed
  · exact h.groupBundle
  · exact .ite h.resyncAsked h
  · exact .ite h.joinAnswered h.joinHeard
  · exact h.groupArrived
  · exact .ite h.setEnrol h
  · exact .ite h.enrolEnds h

protected theorem State.Canon.execForward {hdr f} (h : s.Canon) : (execForward hdr f s).Canon := by
  unfold Machine.execForward
  exact .next (h.onFrame (fun _ h => h.forwarded))

end Sys2Proof.Machine
end

section
/-! SUPPORT. Canonical form is kept by the instructions of Petal. -/

namespace Sys2Proof.Machine

variable {s : State}

/-! ### Machine/PetalCore -/

protected theorem State.Canon.runPetalThen {e len cyc body after} (h : s.Canon)
    (hbody : ∀ g (t : State), t.Canon → (body g t).Canon) (hafter : ∀ t : State, t.Canon → (after t).Canon) :
    (runPetalThen e len cyc body after s).Canon := by
  unfold Machine.runPetalThen
  refine .ite h (.ite h.taskFault ?_)
  have hb := hbody { s.eng e with pc := (s.eng e).pc + len } s h
  split
  · rename_i heq
    exact hafter _ (.putEng (heq ▸ hb :))
  · exact h.taskFault

protected theorem State.Canon.runPetal {e len cyc body} (h : s.Canon) (hbody : ∀ g t, t.Canon → (body g t).Canon) :
    (runPetal e len cyc body s).Canon := by
  unfold Machine.runPetal
  exact h.runPetalThen hbody (fun _ h => h)

protected theorem State.Canon.push {q g} (h : s.Canon) : (push q g s).Canon := by
  unfold Machine.push
  exact .ite .fault (.ok h)

protected theorem State.Canon.unary {f g} (h : s.Canon) : (unary f g s).Canon := by
  unfold Machine.unary
  split
  exacts [.ok h, .fault]

protected theorem State.Canon.binary {f g} (h : s.Canon) : (binary f g s).Canon := by
  unfold Machine.binary
  split
  exacts [.ok h, .fault]

protected theorem State.Canon.stickFlags {ovf divz g} (h : s.Canon) : (stickFlags ovf divz g s).Canon := by
  unfold Machine.stickFlags
  exact .ite h.updTask h

protected theorem State.Canon.unaryFlag {f g} (h : s.Canon) : (unaryFlag f g s).Canon := by
  unfold Machine.unaryFlag
  split
  exacts [.ok h.stickFlags, .fault]

protected theorem State.Canon.binaryFlag {f g} (h : s.Canon) : (binaryFlag f g s).Canon := by
  unfold Machine.binaryFlag
  split
  exacts [.ok h.stickFlags, .fault]

/-! ### Machine/PetalArith -/

protected theorem State.Canon.execPAdd {e c} (h : s.Canon) : (execPAdd e c s).Canon := by
  unfold Machine.execPAdd
  exact .next (h.runPetal (fun _ _ h => h.binaryFlag))

protected theorem State.Canon.execPSub {e c} (h : s.Canon) : (execPSub e c s).Canon := by
  unfold Machine.execPSub
  exact .next (h.runPetal (fun _ _ h => h.binaryFlag))

protected theorem State.Canon.execPMul {e c} (h : s.Canon) : (execPMul e c s).Canon := by
  unfold Machine.execPMul
  exact .next (h.runPetal (fun _ _ h => h.binaryFlag))

protected theorem State.Canon.execPDiv {e c} (h : s.Canon) : (execPDiv e c s).Canon := by
  unfold Machine.execPDiv
  exact .next (h.runPetal (fun _ _ h => h.binaryFlag))

protected theorem State.Canon.execPMod {e c} (h : s.Canon) : (execPMod e c s).Canon := by
  unfold Machine.execPMod
  exact .next (h.runPetal (fun _ _ h => h.binaryFlag))

protected theorem State.Canon.execPNeg {e wide} (h : s.Canon) : (execPNeg e wide s).Canon := by
  unfold Machine.execPNeg
  exact .next (h.runPetal (fun _ _ h => h.unaryFlag))

protected theorem State.Canon.execPAbs {e wide} (h : s.Canon) : (execPAbs e wide s).Canon := by
  unfold Machine.execPAbs
  exact .next (h.runPetal (fun _ _ h => h.unaryFlag))

protected theorem State.Canon.flBinary {c f a} (h : s.Canon) : (flBinary c f a s).Canon := by
  unfold Machine.flBinary
  exact h.binary

protected theorem State.Canon.flUnary {c f a} (h : s.Canon) : (flUnary c f a s).Canon := by
  unfold Machine.flUnary
  exact h.unary

protected theorem State.Canon.execPAddF {e c} (h : s.Canon) : (execPAddF e c s).Canon := by
  unfold Machine.execPAddF
  exact .next (h.runPetal (fun _ _ h => h.flBinary))

protected theorem State.Canon.execPSubF {e c} (h : s.Canon) : (execPSubF e c s).Canon := by
  unfold Machine.execPSubF
  exact .next (h.runPetal (fun _ _ h => h.flBinary))

protected theorem State.Canon.execPMulF {e c} (h : s.Canon) : (execPMulF e c s).Canon := by
  unfold Machine.execPMulF
  exact .next (h.runPetal (fun _ _ h => h.flBinary))

protected theorem State.Canon.execPDivF {e c} (h : s.Canon) : (execPDivF e c s).Canon := by
  unfold Machine.execPDivF
  exact .next (h.runPetal (fun _ _ h => h.binaryFlag))

protected theorem State.Canon.execPNegF {e c} (h : s.Canon) : (execPNegF e c s).Canon := by
  unfold Machine.execPNegF
  exact .next (h.runPetal (fun _ _ h => h.flUnary))

protected theorem State.Canon.execPAbsF {e c} (h : s.Canon) : (execPAbsF e c s).Canon := by
  unfold Machine.execPAbsF
  exact .next (h.runPetal (fun _ _ h => h.flUnary))

protected theorem State.Canon.execPSqrt {e c} (h : s.Canon) : (execPSqrt e c s).Canon := by
  unfold Machine.execPSqrt
  exact .next (h.runPetal (fun _ _ h => h.flUnary))

protected theorem State.Canon.execPMinF {e c} (h : s.Canon) : (execPMinF e c s).Canon := by
  unfold Machine.execPMinF
  exact .next (h.runPetal (fun _ _ h => h.flBinary))

protected theorem State.Canon.execPMaxF {e c} (h : s.Canon) : (execPMaxF e c s).Canon := by
  unfold Machine.execPMaxF
  exact .next (h.runPetal (fun _ _ h => h.flBinary))

protected theorem State.Canon.execPSin {e} (h : s.Canon) : (execPSin e s).Canon := by
  unfold Machine.execPSin
  exact .next (h.runPetal (fun _ _ h => h.unary))

protected theorem State.Canon.execPCos {e} (h : s.Canon) : (execPCos e s).Canon := by
  unfold Machine.execPCos
  exact .next (h.runPetal (fun _ _ h => h.unary))

protected theorem State.Canon.execPAtan2 {e} (h : s.Canon) : (execPAtan2 e s).Canon := by
  unfold Machine.execPAtan2
  exact .next (h.runPetal (fun _ _ h => h.binary))

protected theorem State.Canon.execPExp {e} (h : s.Canon) : (execPExp e s).Canon := by
  unfold Machine.execPExp
  exact .next (h.runPetal (fun _ _ h => h.unary))

protected theorem State.Canon.execPLn {e} (h : s.Canon) : (execPLn e s).Canon := by
  unfold Machine.execPLn
  exact .next (h.runPetal (fun _ _ h => h.unary))

/-! ### Machine/PetalControl -/

protected theorem State.Canon.execPBr {e d} (h : s.Canon) : (execPBr e d s).Canon := by
  unfold Machine.execPBr
  exact .next (h.runPetal (fun _ _ h => .ok h))

protected theorem State.Canon.branchIf {d cond g} (h : s.Canon) : (branchIf d cond g s).Canon := by
  unfold Machine.branchIf
  split
  · extract_lets +onlyGivenNames g
    exact .ok h
  · exact .fault

protected theorem State.Canon.execPBrz {e d} (h : s.Canon) : (execPBrz e d s).Canon := by
  unfold Machine.execPBrz
  exact .next (h.runPetal (fun _ _ h => h.branchIf))

protected theorem State.Canon.execPBrnz {e d} (h : s.Canon) : (execPBrnz e d s).Canon := by
  unfold Machine.execPBrnz
  exact .next (h.runPetal (fun _ _ h => h.branchIf))

protected theorem State.Canon.execPBrl {e lo hi} (h : s.Canon) : (execPBrl e lo hi s).Canon := by
  unfold Machine.execPBrl
  exact .next (h.runPetal (fun _ _ h => .ok h))

protected theorem State.Canon.execPLoop {e max len} (h : s.Canon) : (execPLoop e max len s).Canon := by
  unfold Machine.execPLoop
  refine .next (h.runPetal (fun _ _ h => .ite .fault ?_))
  split
  · extract_lets +onlyGivenNames g
    exact .ite .fault (.ite (.ok h) (.ite .fault (.ok h)))
  · exact .fault

protected theorem State.Canon.execPEndloop {e} (h : s.Canon) : (execPEndloop e s).Canon := by
  unfold Machine.execPEndloop
  refine .next (h.runPetal (fun _ _ h => ?_))
  split
  exacts [.ite (.ok h) (.ok h), .fault]

protected theorem State.Canon.execPLidx {e n} (h : s.Canon) : (execPLidx e n s).Canon := by
  unfold Machine.execPLidx
  refine .next (h.runPetal (fun _ _ h => ?_))
  split
  exacts [h.push, .fault]

protected theorem State.Canon.enterCallee {e ty ib instLim args g} (h : s.Canon) :
    (enterCallee e ty ib instLim args g s).Canon := by
  unfold Machine.enterCallee
  exact .ite .fault (.ite .fault (.ok h.setBytes))

protected theorem State.Canon.execPCallfb {e off idx} (h : s.Canon) : (execPCallfb e off idx s).Canon := by
  unfold Machine.execPCallfb
  refine .next (h.runPetal (fun _ _ h => ?_))
  split
  exacts [.fault, .ite .fault h.enterCallee]

protected theorem State.Canon.execPCallfn {e idx} (h : s.Canon) : (execPCallfn e idx s).Canon := by
  unfold Machine.execPCallfn
  refine .next (h.runPetal (fun _ _ h => ?_))
  split
  exacts [.fault, .ite .fault h.enterCallee]

protected theorem State.Canon.execPRet {e} (h : s.Canon) : (execPRet e s).Canon := by
  unfold Machine.execPRet
  refine .next (h.runPetal (fun _ _ h => ?_))
  split
  exacts [.ok h, .fault]

protected theorem State.Canon.atTop {g} (h : s.Canon) : (atTop g s).Canon := by
  unfold Machine.atTop
  exact .ite (.ok h) .fault

protected theorem State.Canon.endSeg {e} (h : s.Canon) : (endSeg e s).Canon := by
  unfold Machine.endSeg
  exact h.foldState.updTask.finishSegment

protected theorem State.Canon.endTask {e} (h : s.Canon) : (endTask e s).Canon := by
  unfold Machine.endTask
  exact .finishSegment (.ite h.foldState h.foldState.copyOut)

protected theorem State.Canon.execPSeg {e} (h : s.Canon) : (execPSeg e s).Canon := by
  unfold Machine.execPSeg
  exact .next (h.runPetalThen (fun _ _ h => h.atTop) (fun _ h => h.endSeg))

protected theorem State.Canon.execPEnd {e} (h : s.Canon) : (execPEnd e s).Canon := by
  unfold Machine.execPEnd
  exact .next (h.runPetalThen (fun _ _ h => h.atTop) (fun _ h => h.endTask))

protected theorem State.Canon.execPUnassignedOpcode {e uncorrectable} (h : s.Canon) :
    (execPUnassignedOpcode e uncorrectable s).Canon := by
  unfold Machine.execPUnassignedOpcode
  exact .next (.ite h (.ite h.taskFault.sramUe h.taskFault))

protected theorem State.Canon.execPCycleFault {e} (h : s.Canon) : (execPCycleFault e s).Canon := by
  unfold Machine.execPCycleFault
  exact .next (.ite h h.taskFault)

/-! ### Machine/PetalLogic -/

protected theorem State.Canon.compare2 {f a} (h : s.Canon) : (compare2 f a s).Canon := by
  unfold Machine.compare2
  exact h.binary

protected theorem State.Canon.execPEq {e} (h : s.Canon) : (execPEq e s).Canon := by
  unfold Machine.execPEq
  exact .next (h.runPetal (fun _ _ h => h.compare2))

protected theorem State.Canon.execPNe {e} (h : s.Canon) : (execPNe e s).Canon := by
  unfold Machine.execPNe
  exact .next (h.runPetal (fun _ _ h => h.compare2))

protected theorem State.Canon.execPLtS {e} (h : s.Canon) : (execPLtS e s).Canon := by
  unfold Machine.execPLtS
  exact .next (h.runPetal (fun _ _ h => h.compare2))

protected theorem State.Canon.execPLeS {e} (h : s.Canon) : (execPLeS e s).Canon := by
  unfold Machine.execPLeS
  exact .next (h.runPetal (fun _ _ h => h.compare2))

protected theorem State.Canon.execPGtS {e} (h : s.Canon) : (execPGtS e s).Canon := by
  unfold Machine.execPGtS
  exact .next (h.runPetal (fun _ _ h => h.compare2))

protected theorem State.Canon.execPGeS {e} (h : s.Canon) : (execPGeS e s).Canon := by
  unfold Machine.execPGeS
  exact .next (h.runPetal (fun _ _ h => h.compare2))

protected theorem State.Canon.execPLtU {e} (h : s.Canon) : (execPLtU e s).Canon := by
  unfold Machine.execPLtU
  exact .next (h.runPetal (fun _ _ h => h.compare2))

protected theorem State.Canon.execPLeU {e} (h : s.Canon) : (execPLeU e s).Canon := by
  unfold Machine.execPLeU
  exact .next (h.runPetal (fun _ _ h => h.compare2))

protected theorem State.Canon.execPGtU {e} (h : s.Canon) : (execPGtU e s).Canon := by
  unfold Machine.execPGtU
  exact .next (h.runPetal (fun _ _ h => h.compare2))

protected theorem State.Canon.execPGeU {e} (h : s.Canon) : (execPGeU e s).Canon := by
  unfold Machine.execPGeU
  exact .next (h.runPetal (fun _ _ h => h.compare2))

protected theorem State.Canon.flCompare {c nan f a} (h : s.Canon) : (flCompare c nan f a s).Canon := by
  unfold Machine.flCompare
  exact h.compare2

protected theorem State.Canon.execPEqF {e c} (h : s.Canon) : (execPEqF e c s).Canon := by
  unfold Machine.execPEqF
  exact .next (h.runPetal (fun _ _ h => h.flCompare))

protected theorem State.Canon.execPNeF {e c} (h : s.Canon) : (execPNeF e c s).Canon := by
  unfold Machine.execPNeF
  exact .next (h.runPetal (fun _ _ h => h.flCompare))

protected theorem State.Canon.execPLtF {e c} (h : s.Canon) : (execPLtF e c s).Canon := by
  unfold Machine.execPLtF
  exact .next (h.runPetal (fun _ _ h => h.flCompare))

protected theorem State.Canon.execPLeF {e c} (h : s.Canon) : (execPLeF e c s).Canon := by
  unfold Machine.execPLeF
  exact .next (h.runPetal (fun _ _ h => h.flCompare))

protected theorem State.Canon.execPGtF {e c} (h : s.Canon) : (execPGtF e c s).Canon := by
  unfold Machine.execPGtF
  exact .next (h.runPetal (fun _ _ h => h.flCompare))

protected theorem State.Canon.execPGeF {e c} (h : s.Canon) : (execPGeF e c s).Canon := by
  unfold Machine.execPGeF
  exact .next (h.runPetal (fun _ _ h => h.flCompare))

protected theorem State.Canon.execPMinS {e} (h : s.Canon) : (execPMinS e s).Canon := by
  unfold Machine.execPMinS
  exact .next (h.runPetal (fun _ _ h => h.binary))

protected theorem State.Canon.execPMaxS {e} (h : s.Canon) : (execPMaxS e s).Canon := by
  unfold Machine.execPMaxS
  exact .next (h.runPetal (fun _ _ h => h.binary))

protected theorem State.Canon.execPMinU {e} (h : s.Canon) : (execPMinU e s).Canon := by
  unfold Machine.execPMinU
  exact .next (h.runPetal (fun _ _ h => h.binary))

protected theorem State.Canon.execPMaxU {e} (h : s.Canon) : (execPMaxU e s).Canon := by
  unfold Machine.execPMaxU
  exact .next (h.runPetal (fun _ _ h => h.binary))

protected theorem State.Canon.execPSel {e} (h : s.Canon) : (execPSel e s).Canon := by
  unfold Machine.execPSel
  refine .next (h.runPetal (fun _ _ h => ?_))
  split
  exacts [.ok h, .fault]

protected theorem State.Canon.execPAnd {e} (h : s.Canon) : (execPAnd e s).Canon := by
  unfold Machine.execPAnd
  exact .next (h.runPetal (fun _ _ h => h.binary))

protected theorem State.Canon.execPOr {e} (h : s.Canon) : (execPOr e s).Canon := by
  unfold Machine.execPOr
  exact .next (h.runPetal (fun _ _ h => h.binary))

protected theorem State.Canon.execPXor {e} (h : s.Canon) : (execPXor e s).Canon := by
  unfold Machine.execPXor
  exact .next (h.runPetal (fun _ _ h => h.binary))

protected theorem State.Canon.withWidth {w body g} (h : s.Canon) (hbody : ∀ g t, t.Canon → (body g t).Canon) :
    (withWidth w body g s).Canon := by
  unfold Machine.withWidth
  exact .ite (hbody _ _ h) .fault

protected theorem State.Canon.execPNot {e w} (h : s.Canon) : (execPNot e w s).Canon := by
  unfold Machine.execPNot
  exact .next (h.runPetal (fun _ _ h => h.withWidth (fun _ _ h => h.unary)))

protected theorem State.Canon.execPBnot {e} (h : s.Canon) : (execPBnot e s).Canon := by
  unfold Machine.execPBnot
  exact .next (h.runPetal (fun _ _ h => h.unary))

protected theorem State.Canon.execPShl {e w} (h : s.Canon) : (execPShl e w s).Canon := by
  unfold Machine.execPShl
  exact .next (h.runPetal (fun _ _ h => h.withWidth (fun _ _ h => h.binary)))

protected theorem State.Canon.execPShr {e w} (h : s.Canon) : (execPShr e w s).Canon := by
  unfold Machine.execPShr
  exact .next (h.runPetal (fun _ _ h => h.withWidth (fun _ _ h => h.binary)))

protected theorem State.Canon.execPSar {e w} (h : s.Canon) : (execPSar e w s).Canon := by
  unfold Machine.execPSar
  exact .next (h.runPetal (fun _ _ h => h.withWidth (fun _ _ h => h.binary)))

protected theorem State.Canon.execPRol {e w} (h : s.Canon) : (execPRol e w s).Canon := by
  unfold Machine.execPRol
  exact .next (h.runPetal (fun _ _ h => h.withWidth (fun _ _ h => h.binary)))

protected theorem State.Canon.execPRor {e w} (h : s.Canon) : (execPRor e w s).Canon := by
  unfold Machine.execPRor
  exact .next (h.runPetal (fun _ _ h => h.withWidth (fun _ _ h => h.binary)))

protected theorem State.Canon.execPBitget {e n} (h : s.Canon) : (execPBitget e n s).Canon := by
  unfold Machine.execPBitget
  exact .next (h.runPetal (fun _ _ h => .ite .fault h.unary))

protected theorem State.Canon.execPBitset {e n} (h : s.Canon) : (execPBitset e n s).Canon := by
  unfold Machine.execPBitset
  exact .next (h.runPetal (fun _ _ h => .ite .fault h.binary))

protected theorem State.Canon.convertInstr {e t1 t2 truncate} (h : s.Canon) :
    (convertInstr e t1 t2 truncate s).Canon := by
  unfold Machine.convertInstr
  refine h.runPetal (fun _ _ h => ?_)
  split
  exacts [h.unaryFlag, .fault]

protected theorem State.Canon.execPCvt {e t1 t2} (h : s.Canon) : (execPCvt e t1 t2 s).Canon := by
  unfold Machine.execPCvt
  exact .next h.convertInstr

protected theorem State.Canon.execPCvtt {e t1 t2} (h : s.Canon) : (execPCvtt e t1 t2 s).Canon := by
  unfold Machine.execPCvtt
  exact .next h.convertInstr

/-! ### Machine/PetalMem -/

protected theorem State.Canon.loadAt {e t off drop sp g} (h : s.Canon) : (loadAt e t off drop sp g s).Canon := by
  unfold Machine.loadAt
  split
  · exact .fault
  · extract_lets +onlyGivenNames p
    exact .ite .fault h.push

protected theorem State.Canon.storeAt {e t off drop sp q g} (h : s.Canon) :
    (storeAt e t off drop sp q g s).Canon := by
  unfold Machine.storeAt
  split
  · exact .fault
  · extract_lets +onlyGivenNames p
    exact .ite .fault (.ok h.setBytes.stickFlags)

protected theorem State.Canon.loadInstr {e t off sp} (h : s.Canon) : (loadInstr e t off sp s).Canon := by
  unfold Machine.loadInstr
  exact h.runPetal (fun _ _ h => .ite .fault (.ite .fault h.loadAt))

protected theorem State.Canon.storeInstr {e t off sp} (h : s.Canon) : (storeInstr e t off sp s).Canon := by
  unfold Machine.storeInstr
  refine h.runPetal (fun _ _ h => .ite .fault ?_)
  split
  exacts [h.storeAt, .fault]

protected theorem State.Canon.loadElem {e t off cnt sp} (h : s.Canon) : (loadElem e t off cnt sp s).Canon := by
  unfold Machine.loadElem
  refine h.runPetal (fun _ _ h => .ite .fault ?_)
  split
  · split
    exacts [h.loadAt, .fault]
  · exact .fault

protected theorem State.Canon.storeElem {e t off cnt sp} (h : s.Canon) : (storeElem e t off cnt sp s).Canon := by
  unfold Machine.storeElem
  refine h.runPetal (fun _ _ h => .ite .fault ?_)
  split
  · split
    exacts [h.storeAt, .fault]
  · exact .fault

protected theorem State.Canon.execPLdl {e t off} (h : s.Canon) : (execPLdl e t off s).Canon := by
  unfold Machine.execPLdl
  exact .next h.loadInstr

protected theorem State.Canon.execPStl {e t off} (h : s.Canon) : (execPStl e t off s).Canon := by
  unfold Machine.execPStl
  exact .next h.storeInstr

protected theorem State.Canon.execPLdi {e t off} (h : s.Canon) : (execPLdi e t off s).Canon := by
  unfold Machine.execPLdi
  exact .next h.loadInstr

protected theorem State.Canon.execPSti {e t off} (h : s.Canon) : (execPSti e t off s).Canon := by
  unfold Machine.execPSti
  exact .next h.storeInstr

protected theorem State.Canon.execPLdin {e t off} (h : s.Canon) : (execPLdin e t off s).Canon := by
  unfold Machine.execPLdin
  exact .next h.loadInstr

protected theorem State.Canon.execPLdout {e t off} (h : s.Canon) : (execPLdout e t off s).Canon := by
  unfold Machine.execPLdout
  exact .next h.loadInstr

protected theorem State.Canon.execPStout {e t off} (h : s.Canon) : (execPStout e t off s).Canon := by
  unfold Machine.execPStout
  exact .next h.storeInstr

protected theorem State.Canon.execPLdxl {e t off cnt} (h : s.Canon) : (execPLdxl e t off cnt s).Canon := by
  unfold Machine.execPLdxl
  exact .next h.loadElem

protected theorem State.Canon.execPStxl {e t off cnt} (h : s.Canon) : (execPStxl e t off cnt s).Canon := by
  unfold Machine.execPStxl
  exact .next h.storeElem

protected theorem State.Canon.execPLdxi {e t off cnt} (h : s.Canon) : (execPLdxi e t off cnt s).Canon := by
  unfold Machine.execPLdxi
  exact .next h.loadElem

protected theorem State.Canon.execPStxi {e t off cnt} (h : s.Canon) : (execPStxi e t off cnt s).Canon := by
  unfold Machine.execPStxi
  exact .next h.storeElem

protected theorem State.Canon.execPLdxin {e t off cnt} (h : s.Canon) : (execPLdxin e t off cnt s).Canon := by
  unfold Machine.execPLdxin
  exact .next h.loadElem

protected theorem State.Canon.execPLdxout {e t off cnt} (h : s.Canon) : (execPLdxout e t off cnt s).Canon := by
  unfold Machine.execPLdxout
  exact .next h.loadElem

protected theorem State.Canon.execPStxout {e t off cnt} (h : s.Canon) : (execPStxout e t off cnt s).Canon := by
  unfold Machine.execPStxout
  exact .next h.storeElem

protected theorem State.Canon.execPCopy {e spaces len} (h : s.Canon) : (execPCopy e spaces len s).Canon := by
  unfold Machine.execPCopy
  refine .next (h.runPetal (fun _ _ h => ?_))
  split
  · exact .fault
  · refine .ite .fault ?_
    split
    · extract_lets +onlyGivenNames ra rb
      exact .ite .fault (.ok h.setBytes)
    · exact .fault

/-! ### Machine/PetalStack -/

protected theorem State.Canon.execPNop {e} (h : s.Canon) : (execPNop e s).Canon := by
  unfold Machine.execPNop
  exact .next (h.runPetal (fun _ _ h => .ok h))

protected theorem State.Canon.execPDup {e} (h : s.Canon) : (execPDup e s).Canon := by
  unfold Machine.execPDup
  refine .next (h.runPetal (fun _ _ h => ?_))
  split
  exacts [h.push, .fault]

protected theorem State.Canon.execPDrop {e} (h : s.Canon) : (execPDrop e s).Canon := by
  unfold Machine.execPDrop
  refine .next (h.runPetal (fun _ _ h => ?_))
  split
  exacts [.ok h, .fault]

protected theorem State.Canon.execPSwap {e} (h : s.Canon) : (execPSwap e s).Canon := by
  unfold Machine.execPSwap
  refine .next (h.runPetal (fun _ _ h => ?_))
  split
  exacts [.ok h, .fault]

protected theorem State.Canon.execPOver {e} (h : s.Canon) : (execPOver e s).Canon := by
  unfold Machine.execPOver
  refine .next (h.runPetal (fun _ _ h => ?_))
  split
  exacts [h.push, .fault]

protected theorem State.Canon.execPRot {e} (h : s.Canon) : (execPRot e s).Canon := by
  unfold Machine.execPRot
  refine .next (h.runPetal (fun _ _ h => ?_))
  split
  exacts [.ok h, .fault]

protected theorem State.Canon.execPPick {e n} (h : s.Canon) : (execPPick e n s).Canon := by
  unfold Machine.execPPick
  refine .next (h.runPetal (fun _ _ h => .ite .fault ?_))
  split
  exacts [h.push, .fault]

protected theorem State.Canon.execPPush0 {e} (h : s.Canon) : (execPPush0 e s).Canon := by
  unfold Machine.execPPush0
  exact .next (h.runPetal (fun _ _ h => h.push))

protected theorem State.Canon.execPPush1 {e} (h : s.Canon) : (execPPush1 e s).Canon := by
  unfold Machine.execPPush1
  exact .next (h.runPetal (fun _ _ h => h.push))

protected theorem State.Canon.execPPushb {e b} (h : s.Canon) : (execPPushb e b s).Canon := by
  unfold Machine.execPPushb
  exact .next (h.runPetal (fun _ _ h => h.push))

protected theorem State.Canon.execPPushw {e w} (h : s.Canon) : (execPPushw e w s).Canon := by
  unfold Machine.execPPushw
  exact .next (h.runPetal (fun _ _ h => h.push))

protected theorem State.Canon.execPLdk {e idx} (h : s.Canon) : (execPLdk e idx s).Canon := by
  unfold Machine.execPLdk
  refine .next (h.runPetal (fun _ _ h => .ite .fault ?_))
  split
  exacts [h.push, .fault]

/-! ### Machine/PetalSys -/

protected theorem State.Canon.execPGetflags {e} (h : s.Canon) : (execPGetflags e s).Canon := by
  unfold Machine.execPGetflags
  exact .next (h.runPetal (fun _ _ h => h.push))

protected theorem State.Canon.execPClrflags {e} (h : s.Canon) : (execPClrflags e s).Canon := by
  unfold Machine.execPClrflags
  refine .next (h.runPetal (fun _ _ h => ?_))
  split
  exacts [.ok h.updTask, .fault]

protected theorem State.Canon.execPFrametime {e} (h : s.Canon) : (execPFrametime e s).Canon := by
  unfold Machine.execPFrametime
  exact .next (h.runPetal (fun _ _ h => h.push))

protected theorem State.Canon.execPSeginfo {e} (h : s.Canon) : (execPSeginfo e s).Canon := by
  unfold Machine.execPSeginfo
  exact .next (h.runPetal (fun _ _ h => h.push))

protected theorem State.Canon.writeDescriptor {e q fam cmd payload g} (h : s.Canon) :
    (writeDescriptor e q fam cmd payload g s).2.Canon := by
  unfold Machine.writeDescriptor
  exact .iteSnd h.ringFault.fwLog (.upd h.setBytes)

protected theorem State.Canon.requestSys {e q fam cmd off len lenOk} (h : s.Canon) :
    (requestSys e q fam cmd off len lenOk s).Canon := by
  unfold Machine.requestSys
  exact h.runPetal (fun _ _ h => .ite .fault (.ite .fault (.ite .fault (.ite h.updTask.push h.writeDescriptor.push))))

protected theorem State.Canon.execPAlarm {e off len} (h : s.Canon) : (execPAlarm e off len s).Canon := by
  unfold Machine.execPAlarm
  exact .next h.requestSys

protected theorem State.Canon.execPLogevt {e off len} (h : s.Canon) : (execPLogevt e off len s).Canon := by
  unfold Machine.execPLogevt
  exact .next h.requestSys

protected theorem State.Canon.execPLtrig {e off len} (h : s.Canon) : (execPLtrig e off len s).Canon := by
  unfold Machine.execPLtrig
  exact .next h.requestSys

protected theorem State.Canon.execPCantx {e off len} (h : s.Canon) : (execPCantx e off len s).Canon := by
  unfold Machine.execPCantx
  exact .next h.requestSys

end Sys2Proof.Machine
end

section
/-! SUPPORT. Canonical form is kept by redundancy, register access, sessions and votes. -/

namespace Sys2Proof.Machine

variable {s : State}

/-! ### Machine/Redundancy -/

protected theorem State.Canon.execRedundancyGetStatus {r} (h : s.Canon) : (execRedundancyGetStatus r s).Canon := by
  unfold Machine.execRedundancyGetStatus
  exact .next (h.serve (fun _ h => .ok h))

protected theorem State.Canon.execRedundancyHandover {r} (h : s.Canon) : (execRedundancyHandover r s).Canon := by
  unfold Machine.execRedundancyHandover
  exact .next (h.serve (fun _ h => .ite h.conflict (.ok h.nameHandover)))

protected theorem State.Canon.execRedundancyLeaveGroup {r} (h : s.Canon) : (execRedundancyLeaveGroup r s).Canon := by
  unfold Machine.execRedundancyLeaveGroup
  exact .next (h.serve (fun _ h => .ite h.conflict (.ite (.ok h.leaveGroup) h.conflict)))

protected theorem State.Canon.startRemoval {source force} {t : State} (h : s.Canon)
    (ht : startRemoval source force s = some t) :
    t.Canon := by
  unfold Machine.startRemoval at ht
  split at ht
  · split at ht
    · contradiction
    · exact Option.some.inj ht ▸ h.nameHandover.upd
  · split at ht
    · contradiction
    · exact Option.some.inj ht ▸ h.completeRemoval

protected theorem State.Canon.refuseRemoval (h : s.Canon) : (refuseRemoval s).Canon := by
  unfold Machine.refuseRemoval
  exact h.upd

protected theorem State.Canon.execRedundancyRemoveRequest {r} (h : s.Canon) :
    (execRedundancyRemoveRequest r s).Canon := by
  unfold Machine.execRedundancyRemoveRequest
  refine .next (h.serve fun _ h => .ite (.err h) ?_)
  split
  · exact .err h
  · refine .ite h.conflict ?_
    split
    · exact .err h.refuseRemoval
    · rename_i ht
      exact .ok (h.startRemoval ht)

protected theorem State.Canon.execRedundancyResync {r} (h : s.Canon) : (execRedundancyResync r s).Canon := by
  unfold Machine.execRedundancyResync
  refine .next (h.serve (fun _ h => ?_))
  extract_lets +onlyGivenNames t
  refine .ite (.err h) ?_
  split
  · exact .err h
  · refine .ite ?_ (.ite (.ok h.upd.goSyncing) h.conflict)
    split
    exacts [.ite (.ok h.toPeers.peerRole.reviewOwner) h.conflict, h.conflict]

protected theorem State.Canon.execRedundancyGetSignatures {r} (h : s.Canon) :
    (execRedundancyGetSignatures r s).Canon := by
  unfold Machine.execRedundancyGetSignatures
  refine .next (h.serve (fun _ h => ?_))
  extract_lets +onlyGivenNames n
  refine .ite (.err h) ?_
  split
  · exact .err h
  · extract_lets +onlyGivenNames l
    exact .ok h

protected theorem State.Canon.execButtonPress (h : s.Canon) : (execButtonPress s).Canon := by
  unfold Machine.execButtonPress
  refine .next (.ite h ?_)
  split
  · rename_i ht
    exact h.startRemoval ht
  · exact h.refuseRemoval

protected theorem State.Canon.execButtonHeld (h : s.Canon) : (execButtonHeld s).Canon := by
  unfold Machine.execButtonHeld
  refine .next (.ite h ?_)
  split
  · rename_i ht
    exact h.startRemoval ht
  · exact h.refuseRemoval

/-! ### Machine/RegAccess -/

protected theorem State.Canon.readClears {a} (h : s.Canon) : (readClears a s).Canon := by
  unfold Machine.readClears
  exact h.foldl fun _ _ h => .ite h.set h

protected theorem State.Canon.writeField {mask value r} (h : s.Canon) : (writeField mask value s r).Canon := by
  unfold Machine.writeField
  refine .ite h ?_
  extract_lets +onlyGivenNames old m v plain
  split
  exacts [h.set, .ite h h.set, h.set, h]

protected theorem State.Canon.followDiag (h : s.Canon) : (followDiag s).Canon := by
  unfold Machine.followDiag
  exact h.setBit.setBit.setBit.refreshLck

protected theorem State.Canon.writeReg {mask value a} (h : s.Canon) : (writeReg mask value a s).Canon := by
  unfold Machine.writeReg
  refine .ite (.ite h h.writeAlarmHi) (.ite (.ite h h.writeAlarmLo) (.ite (.ite h h.writeWd) (.ite (.ite h
    h.writeCons)
    (.ite (.ite h h.writeRate) (.ite (.ite h h.writeSlew) ?_)))))
  extract_lets was s1
  have h1 : s1.Canon := .foldl h fun _ _ h => h.writeField
  refine .ite (.ite (.writePark (.ite h1.set h1)) (.ite h1.set h1)) (.ite (.ite h1.bytesInit h1)
    (.ite (.ite h1.clearMemLog h1) (.ite (.requestDomains (.ite h1.requestWarm h1)) (.ite h1.followDiag
    (.ite h1.ringCount (.ite h1.raiseIf ?_))))))
  split
  exacts [.ite h1.popReport h1, h1]

protected theorem State.Canon.writeBy {master priv a value} (h : s.Canon) :
    (writeBy master priv a value s).Canon := by
  unfold Machine.writeBy
  exact .ite h.writeEntry (.ite h.writeSeal (.ite h.writeDoorbell h.writeReg))

protected theorem State.Canon.asMaster {master f} (h : s.Canon) (hf : ∀ t, t.Canon → (f t).Canon) :
    (asMaster master f s).Canon := by
  unfold Machine.asMaster
  exact .ite (hf _ (.ite h.setTaint h)) h

protected theorem State.Canon.asWindowMaster {master f} (h : s.Canon) (hf : ∀ t, t.Canon → (f t).Canon) :
    (asWindowMaster master f s).Canon := by
  unfold Machine.asWindowMaster
  exact .ite h (h.asMaster hf)

protected theorem State.Canon.execGateSeal {master privileged value} (h : s.Canon) :
    (execGateSeal master privileged value s).Canon := by
  unfold Machine.execGateSeal
  exact .next (h.asWindowMaster (fun _ h => h.writeSeal))

protected theorem State.Canon.execGateEntryWrite {master privileged address value} (h : s.Canon) :
    (execGateEntryWrite master privileged address value s).Canon := by
  unfold Machine.execGateEntryWrite
  exact .next (h.asWindowMaster (fun _ h => h.writeEntry))

protected theorem State.Canon.execRcbDoorbellWrite {master ring newProd} (h : s.Canon) :
    (execRcbDoorbellWrite master ring newProd s).Canon := by
  unfold Machine.execRcbDoorbellWrite
  exact .next (h.asMaster (fun _ h => h.writeDoorbell))

protected theorem State.Canon.raiseAt {a bit} (h : s.Canon) : (raiseAt a bit s).Canon := by
  unfold Machine.raiseAt
  exact .ite h.ringFault h.raise

protected theorem State.Canon.setsPrevail {written sets} (h : s.Canon) : (setsPrevail written sets s).Canon := by
  unfold Machine.setsPrevail
  exact h.foldl fun _ _ h => .ite h.raiseAt h

protected theorem State.Canon.execRegisterWrite {address value sets} (h : s.Canon) :
    (execRegisterWrite address value sets s).Canon := by
  unfold Machine.execRegisterWrite
  exact .next (.ite h.writeBy.setsPrevail h)

protected theorem State.Canon.execDiagReadRegs {r} (h : s.Canon) : (execDiagReadRegs r s).Canon := by
  unfold Machine.execDiagReadRegs
  refine .next (h.serve (fun _ h => ?_))
  extract_lets +onlyGivenNames n l
  refine .ite (.err h) ?_
  split
  exacts [.err h, .ok (h.foldl fun _ _ h => h.readClears)]

protected theorem State.Canon.execDiagWriteRegs {r sets} (h : s.Canon) : (execDiagWriteRegs r sets s).Canon := by
  unfold Machine.execDiagWriteRegs
  refine .next (h.serve (fun _ h => ?_))
  extract_lets +onlyGivenNames p n l mask
  refine .ite (.err h) (.ite (.err h) ?_)
  split
  · exact .err h
  · extract_lets +onlyGivenNames s1 written s2
    have h1 : s1.Canon := h.foldl fun _ _ h => h.writeReg
    have h2 : s2.Canon := h1.setsPrevail
    exact .ok h2

protected theorem State.Canon.execDiagGetHealth {r} (h : s.Canon) : (execDiagGetHealth r s).Canon := by
  unfold Machine.execDiagGetHealth
  exact .next (h.serve (fun _ h => .ok h))

protected theorem State.Canon.execDiagRaiseAlarm {r} (h : s.Canon) : (execDiagRaiseAlarm r s).Canon := by
  unfold Machine.execDiagRaiseAlarm
  refine .next (h.serve (fun _ h => ?_))
  split
  exacts [.ok h.took.logEvent, .ok h]

protected theorem State.Canon.onReject {w} (h : s.Canon) : (onReject w s).Canon := by
  unfold Machine.onReject
  exact .ite h.send.taskFault (.ite (.ite h.send.send.bump h.send.send) h.send)

protected theorem State.Canon.windowAccess {w ofs n data} (h : s.Canon) : (windowAccess w ofs n data s).Canon := by
  unfold Machine.windowAccess
  exact .ite (h.foldl fun _ _ h => .ite h.writeBy h.writeReg) (.send (h.foldl fun _ _ h => h.readClears))

protected theorem State.Canon.freeBytes {n} (h : s.Canon) : (freeBytes n s).2.Canon := by
  induction n generalizing s with
  | zero => exact h
  | succ n ih => exact ih h.took

protected theorem State.Canon.readMem {a n} (h : s.Canon) : (readMem a n s).2.Canon := by
  unfold Machine.readMem
  exact .iteSnd h.freeBytes h

protected theorem State.Canon.admitted {w a n data bad} (h : s.Canon) : (admitted w a n data bad s).Canon := by
  unfold Machine.admitted
  split
  · exact h
  · refine .ite h.windowAccess (.ite (.ite h.send h.freeBytes.send) (.ite (.writeMem (.ite h.dramRead h)) ?_))
    have hr : (Machine.readMem a n s).2.Canon := h.readMem
    exact .ite (.send (.ite hr.dramRead hr)) (.send (.ite hr.dramRead hr))

protected theorem State.Canon.oneAccess {w x a beats data} (h : s.Canon) :
    (oneAccess w x a beats data s).2.Canon := by
  unfold Machine.oneAccess
  extract_lets +onlyGivenNames n
  split
  exacts [h.violation.onReject, h.admitted]

protected theorem State.Canon.dmaBeats {w x k a data} (h : s.Canon) : (dmaBeats w x k a data s).Canon := by
  induction k generalizing s a data with
  | zero => exact h
  | succ k ih => exact .ite (ih h.oneAccess) h.oneAccess

protected theorem State.Canon.execFabricAccess {x} (h : s.Canon) : (execFabricAccess x s).Canon := by
  unfold Machine.execFabricAccess
  exact .next (.ite h (h.asMaster (fun _ h => .ite h.dmaBeats h.oneAccess)))

/-! ### Machine/Session -/

protected theorem State.Canon.execIdentGetIdent {r} (h : s.Canon) : (execIdentGetIdent r s).Canon := by
  unfold Machine.execIdentGetIdent
  exact .next (h.serve (fun _ h => .ok h))

protected theorem State.Canon.execIdentGetBlockVersions {r} (h : s.Canon) :
    (execIdentGetBlockVersions r s).Canon := by
  unfold Machine.execIdentGetBlockVersions
  exact .next (h.serve (fun _ h => .ok h))

protected theorem State.Canon.execSessionGetInfo {r} (h : s.Canon) : (execSessionGetInfo r s).Canon := by
  unfold Machine.execSessionGetInfo
  exact .next (h.serve (fun _ h => .ok h))

protected theorem State.Canon.execSessionSetActiveRoles {r} (h : s.Canon) :
    (execSessionSetActiveRoles r s).Canon := by
  unfold Machine.execSessionSetActiveRoles
  exact .next (h.serve (fun _ h => .ite (.err h) (.ok h.set)))

protected theorem State.Canon.execSessionKeepalive {r} (h : s.Canon) : (execSessionKeepalive r s).Canon := by
  unfold Machine.execSessionKeepalive
  exact .next (h.serve (fun _ h => .ok h))

protected theorem State.Canon.execSessionSetIdle {r} (h : s.Canon) : (execSessionSetIdle r s).Canon := by
  unfold Machine.execSessionSetIdle
  refine .next (h.serve (fun _ h => ?_))
  split
  exacts [.err h, .ok h.updSess]

protected theorem State.Canon.execSessionSubscribe {r} (h : s.Canon) : (execSessionSubscribe r s).Canon := by
  unfold Machine.execSessionSubscribe
  exact .next (h.serve (fun _ h => .ite (.err h) (.ok h.updSess)))

protected theorem State.Canon.execSessionClose {r} (h : s.Canon) : (execSessionClose r s).Canon := by
  unfold Machine.execSessionClose
  exact .next (.ite (.closeSession (.send (h.serve (fun _ h => .ok h)))) (h.serve (fun _ h => .ok h)))

protected theorem State.Canon.execSessionListSessions {r} (h : s.Canon) : (execSessionListSessions r s).Canon := by
  unfold Machine.execSessionListSessions
  exact .next (h.serve (fun _ h => .ok h))

protected theorem State.Canon.execSessionTerminate {r} (h : s.Canon) : (execSessionTerminate r s).Canon := by
  unfold Machine.execSessionTerminate
  exact .next (h.serve (fun _ h => .ite (.err h) (.ok (.ite h.closeSession h))))

protected theorem State.Canon.failedHandshake {addr} (h : s.Canon) : (failedHandshake addr s).Canon := by
  unfold Machine.failedHandshake
  exact h.upd.raise

protected theorem State.Canon.openSession {i x} (h : s.Canon) : (openSession i x s).Canon := by
  unfold Machine.openSession
  exact h.send.setReg.setBit.setBit.set.set.set.updSess.showSessions

protected theorem State.Canon.execTlsHandshake {x} (h : s.Canon) : (execTlsHandshake x s).Canon := by
  unfold Machine.execTlsHandshake
  refine .next (.ite h (.ite h.raise ?_))
  split
  · exact h.send.failedHandshake
  · split
    exacts [h.openSession, h.send.raise]

protected theorem State.Canon.execHandshakeLockoutEnd {addr} (h : s.Canon) :
    (execHandshakeLockoutEnd addr s).Canon := by
  unfold Machine.execHandshakeLockoutEnd
  exact .next h.upd

protected theorem State.Canon.execSessionIdleTimeout {sess} (h : s.Canon) :
    (execSessionIdleTimeout sess s).Canon := by
  unfold Machine.execSessionIdleTimeout
  exact .next (.ite h.closeSession h)

protected theorem State.Canon.execSessionLoss {sess} (h : s.Canon) : (execSessionLoss sess s).Canon := by
  unfold Machine.execSessionLoss
  exact .next (.ite h.closeSession h)

protected theorem State.Canon.execMalformed {fam cmd r} (h : s.Canon) : (execMalformed fam cmd r s).Canon := by
  unfold Machine.execMalformed
  refine .next ?_
  split
  · extract_lets +onlyGivenNames s1
    have h1 : s1.Canon := h.beginsAfresh
    refine .ite h1.respond (.ite h1.respondMalformed.closeSession (.ite h1.dropSegments (.ite h1.respondMalformed
      (.ite h1.refuse.carryRequest ?_))))
    split
    exacts [h1.refuse.carryRequest, .ite h1.respondMalformed.carryRequest h1]
  · exact .ite h.ringFault.refuse (.ite h.refuse h)

protected theorem State.Canon.nextOr {o : Out} (h : s.Canon) (ho : o.Canon) : (nextOr s o).Canon := by
  unfold Machine.nextOr
  split
  · exact ho _ rfl
  · exact h

protected theorem State.Canon.actOn {fam cmd r} (h : s.Canon) : (actOn fam cmd r s).Canon := by
  unfold Machine.actOn
  refine .ite (h.nextOr h.execMalformed) ?_
  split
  · exact h.nextOr h.execConfigStageSettings
  · exact h.nextOr h.execProgramLoadUnit
  · exact h.nextOr h.execUpdateTransfer
  · exact h.nextOr h.execSecuritySetTrustAnchors
  · exact h.nextOr h.execSecurityLoadCrl
  · exact h.nextOr h.execSecurityEnrol
  · exact h.serve fun _ h => .ok h

protected theorem State.Canon.beginSegments {i fam cmd r} (h : s.Canon) : (beginSegments i fam cmd r s).Canon := by
  unfold Machine.beginSegments
  exact h.updSess

protected theorem State.Canon.takeSegment {i a r} (h : s.Canon) : (takeSegment i a r s).Canon := by
  unfold Machine.takeSegment
  exact .ite h.updSess.actOn h.updSess

protected theorem State.Canon.execMessageSegment {fam cmd r} (h : s.Canon) :
    (execMessageSegment fam cmd r s).Canon := by
  unfold Machine.execMessageSegment
  refine .next ?_
  split
  · exact h.nextOr h.execMalformed
  · refine .ite h.respond (.ite h.respondMalformed.closeSession (.ite h ?_))
    split
    exacts [.ite h.takeSegment h.dropSegments, .ite h (.ite h.beginSegments h.dropSegments)]

protected theorem State.Canon.execSegTimeout {sess seq} (h : s.Canon) : (execSegTimeout sess seq s).Canon := by
  unfold Machine.execSegTimeout
  refine .next ?_
  split
  · exact h
  · extract_lets +onlyGivenNames s1
    have h1 : s1.Canon := h.updSess
    exact h1.respond.raise

protected theorem State.Canon.answerCancel {i fam cmd r status} (h : s.Canon) :
    (answerCancel i fam cmd r status s).Canon := by
  unfold Machine.answerCancel
  exact .ite h.post.raise h.post

protected theorem State.Canon.cancelCommand {i o} (h : s.Canon) : (cancelCommand i o s).Canon := by
  unfold Machine.cancelCommand
  exact .ite (.ite h.finishD h.finishD.toPeers.dropChange) h.finishD.cancelEffect

protected theorem State.Canon.execCancel {fam cmd r} (h : s.Canon) : (execCancel fam cmd r s).Canon := by
  unfold Machine.execCancel
  refine .next ?_
  split
  · exact h.refuse
  · refine .ite h.answerCancel (.ite (.ite h.answerCancel.closeSession h.answerCancel) (.ite h.answerCancel ?_))
    split
    · exact h.answerCancel
    · refine .ite h.answerCancel (.ite h.answerCancel ?_)
      split
      exacts [h.answerCancel, .ite h.cancelCommand h.answerCancel]

protected theorem State.Canon.sendProgress {i o} (h : s.Canon) : (sendProgress i o s).Canon := by
  unfold Machine.sendProgress
  exact .ite h.took.took.post (.ite h.took.took.post (.ite h.took.took.post (.ite h.took.took.post
    h.took.took.took.post)))

protected theorem State.Canon.execProgressMessage {sess seq} (h : s.Canon) :
    (execProgressMessage sess seq s).Canon := by
  unfold Machine.execProgressMessage
  refine .next ?_
  split
  · exact h
  · split
    exacts [h.advanceTransfer, h.sendProgress]

protected theorem State.Canon.execMmsAssociate {x} (h : s.Canon) : (execMmsAssociate x s).Canon := by
  unfold Machine.execMmsAssociate
  refine .next ?_
  extract_lets +onlyGivenNames b
  refine .ite h ?_
  split
  exacts [.ite h.updNet.mmsSend h.netTx, h.netTx]

/-! ### Machine/Voting -/

protected theorem State.Canon.execVoteRecordSend (h : s.Canon) : (execVoteRecordSend s).Canon := by
  unfold Machine.execVoteRecordSend
  exact .next (.ite h h.toPhase.toPeers)

protected theorem State.Canon.execVoteFrame {hdr sigs doVals held ao} (h : s.Canon) :
    (execVoteFrame hdr sigs doVals held ao s).Canon := by
  unfold Machine.execVoteFrame
  exact .next (h.onRouted (fun _ h => h.upd))

protected theorem State.Canon.judgeMinority {k own a b} (h : s.Canon) : (judgeMinority k own a b s).Canon := by
  unfold Machine.judgeMinority
  exact .ite (.ite h.leaveAsMinority (.ite h.upd h)) (.ite h.foundMinority (.ite h.foundMinority h))

/-- The state at that phase is kept in a variable `t`: no `match` on it may run the TIME counter. -/
protected theorem State.Canon.execVote (h : s.Canon) : (execVote s).Canon := by
  unfold Machine.execVote
  obtain ⟨t, ht⟩ : ∃ t, t = toPhase 212000 s := ⟨_, rfl⟩
  have h1 : t.Canon := ht ▸ h.toPhase
  rw [← ht]
  refine .next (.ite h (.ite (.leaveAsMinority (.upd h1.updFio)) ?_))
  dsimp only
  split
  exacts [.showTriad (.judgeMinority (.upd h1.updFio)), .upd h1.updFio]

end Sys2Proof.Machine
end

section
/-! SUPPORT. Every command of the table, and so every step, keeps registers and memory in canonical form (01 R24;
15 R429). -/

namespace Sys2Proof.Machine

variable {s : State}

protected theorem State.Canon.exec (c : Instr) (h : s.Canon) : Out.Canon (exec c s) :=
  match c with
  | .tick => h.execTick
  | .frameSyncEdge .. => h.execFrameSyncEdge
  | .syncFault => h.execSyncFault
  | .timeBusWord .. => h.execTimeBusWord
  | .timeBusWordMissing => h.execTimeBusWordMissing
  | .tickEligible => h.execTickEligible
  | .slewCorrection => h.execSlewCorrection
  | .ptpOffsetSample .. => h.execPtpOffsetSample
  | .fineLock .. => h.execFineLock
  | .lockLoss .. => h.execLockLoss
  | .irigbFrame .. => h.execIrigbFrame
  | .ppsEdge .. => h.execPpsEdge
  | .disagree => h.execDisagree
  | .ocxoStopped => h.execOcxoStopped
  | .ocxoFreqCheck .. => h.execOcxoFreqCheck
  | .ocxoDrifting => h.execOcxoDrifting
  | .leapApply => h.execLeapApply
  | .timSlewRemWrite .. => h.execTimSlewRemWrite
  | .timRateAdjWrite .. => h.execTimRateAdjWrite
  | .diSinkWindow .. => h.execDiSinkWindow
  | .fieldSampleInstant .. => h.execFieldSampleInstant
  | .wettingPulseEnd => h.execWettingPulseEnd
  | .executionWindowEnd => h.execExecutionWindowEnd
  | .stateSigCompare .. => h.execStateSigCompare
  | .voteRecordSend => h.execVoteRecordSend
  | .vote => h.execVote
  | .outputRelease => h.execOutputRelease
  | .txLate .. => h.execTxLate
  | .fieldUpdate => h.execFieldUpdate
  | .errorTaskRun .. => h.execErrorTaskRun
  | .bankSwap => h.execBankSwap
  | .injectedComparatorTest .. => h.execInjectedComparatorTest
  | .cutOff => h.execCutOff
  | .snapshotSelect => h.execSnapshotSelect
  | .sigMiss => h.execSigMiss
  | .pNop .. => h.execPNop
  | .pDup .. => h.execPDup
  | .pDrop .. => h.execPDrop
  | .pSwap .. => h.execPSwap
  | .pOver .. => h.execPOver
  | .pRot .. => h.execPRot
  | .pPick .. => h.execPPick
  | .pPush0 .. => h.execPPush0
  | .pPush1 .. => h.execPPush1
  | .pPushb .. => h.execPPushb
  | .pPushw .. => h.execPPushw
  | .pLdk .. => h.execPLdk
  | .pLdl .. => h.execPLdl
  | .pStl .. => h.execPStl
  | .pLdi .. => h.execPLdi
  | .pSti .. => h.execPSti
  | .pLdin .. => h.execPLdin
  | .pLdout .. => h.execPLdout
  | .pStout .. => h.execPStout
  | .pLdxl .. => h.execPLdxl
  | .pStxl .. => h.execPStxl
  | .pLdxi .. => h.execPLdxi
  | .pStxi .. => h.execPStxi
  | .pLdxin .. => h.execPLdxin
  | .pLdxout .. => h.execPLdxout
  | .pStxout .. => h.execPStxout
  | .pCopy .. => h.execPCopy
  | .pAdd .. => h.execPAdd
  | .pSub .. => h.execPSub
  | .pMul .. => h.execPMul
  | .pDiv .. => h.execPDiv
  | .pMod .. => h.execPMod
  | .pNeg .. => h.execPNeg
  | .pAbs .. => h.execPAbs
  | .pAddF .. => h.execPAddF
  | .pSubF .. => h.execPSubF
  | .pMulF .. => h.execPMulF
  | .pDivF .. => h.execPDivF
  | .pNegF .. => h.execPNegF
  | .pAbsF .. => h.execPAbsF
  | .pSqrt .. => h.execPSqrt
  | .pMinF .. => h.execPMinF
  | .pMaxF .. => h.execPMaxF
  | .pSin .. => h.execPSin
  | .pCos .. => h.execPCos
  | .pAtan2 .. => h.execPAtan2
  | .pExp .. => h.execPExp
  | .pLn .. => h.execPLn
  | .pEq .. => h.execPEq
  | .pNe .. => h.execPNe
  | .pLtS .. => h.execPLtS
  | .pLeS .. => h.execPLeS
  | .pGtS .. => h.execPGtS
  | .pGeS .. => h.execPGeS
  | .pLtU .. => h.execPLtU
  | .pLeU .. => h.execPLeU
  | .pGtU .. => h.execPGtU
  | .pGeU .. => h.execPGeU
  | .pEqF .. => h.execPEqF
  | .pNeF .. => h.execPNeF
  | .pLtF .. => h.execPLtF
  | .pLeF .. => h.execPLeF
  | .pGtF .. => h.execPGtF
  | .pGeF .. => h.execPGeF
  | .pMinS .. => h.execPMinS
  | .pMaxS .. => h.execPMaxS
  | .pMinU .. => h.execPMinU
  | .pMaxU .. => h.execPMaxU
  | .pSel .. => h.execPSel
  | .pAnd .. => h.execPAnd
  | .pOr .. => h.execPOr
  | .pXor .. => h.execPXor
  | .pNot .. => h.execPNot
  | .pBnot .. => h.execPBnot
  | .pShl .. => h.execPShl
  | .pShr .. => h.execPShr
  | .pSar .. => h.execPSar
  | .pRol .. => h.execPRol
  | .pRor .. => h.execPRor
  | .pBitget .. => h.execPBitget
  | .pBitset .. => h.execPBitset
  | .pCvt .. => h.execPCvt
  | .pCvtt .. => h.execPCvtt
  | .pBr .. => h.execPBr
  | .pBrz .. => h.execPBrz
  | .pBrnz .. => h.execPBrnz
  | .pBrl .. => h.execPBrl
  | .pLoop .. => h.execPLoop
  | .pEndloop .. => h.execPEndloop
  | .pLidx .. => h.execPLidx
  | .pCallfb .. => h.execPCallfb
  | .pCallfn .. => h.execPCallfn
  | .pRet .. => h.execPRet
  | .pSeg .. => h.execPSeg
  | .pEnd .. => h.execPEnd
  | .pUnassignedOpcode .. => h.execPUnassignedOpcode
  | .pCycleFault .. => h.execPCycleFault
  | .pGetflags .. => h.execPGetflags
  | .pClrflags .. => h.execPClrflags
  | .pFrametime .. => h.execPFrametime
  | .pSeginfo .. => h.execPSeginfo
  | .pAlarm .. => h.execPAlarm
  | .pLogevt .. => h.execPLogevt
  | .pLtrig .. => h.execPLtrig
  | .pCantx .. => h.execPCantx
  | .rcbDoorbellWrite .. => h.execRcbDoorbellWrite
  | .rcbConsWrite .. => h.execRcbConsWrite
  | .ringInterruptTimer .. => h.execRingInterruptTimer
  | .tlsHandshake .. => h.execTlsHandshake
  | .handshakeLockoutEnd .. => h.execHandshakeLockoutEnd
  | .messageSegment .. => h.execMessageSegment
  | .segTimeout .. => h.execSegTimeout
  | .cancel .. => h.execCancel
  | .progressMessage .. => h.execProgressMessage
  | .sessionIdleTimeout .. => h.execSessionIdleTimeout
  | .sessionLoss .. => h.execSessionLoss
  | .identGetIdent .. => h.execIdentGetIdent
  | .identGetBlockVersions .. => h.execIdentGetBlockVersions
  | .identGetCertificates .. => h.execIdentGetCertificates
  | .sessionGetInfo .. => h.execSessionGetInfo
  | .sessionSetActiveRoles .. => h.execSessionSetActiveRoles
  | .sessionKeepalive .. => h.execSessionKeepalive
  | .sessionSetIdle .. => h.execSessionSetIdle
  | .sessionSubscribe .. => h.execSessionSubscribe
  | .sessionClose .. => h.execSessionClose
  | .sessionListSessions .. => h.execSessionListSessions
  | .sessionTerminate .. => h.execSessionTerminate
  | .configGetActive .. => h.execConfigGetActive
  | .configReadSettings .. => h.execConfigReadSettings
  | .configStageSettings .. => h.execConfigStageSettings
  | .configActivate .. => h.execConfigActivate
  | .configDiscardStaged .. => h.execConfigDiscardStaged
  | .programGetStatus .. => h.execProgramGetStatus
  | .programLoadUnit .. => h.execProgramLoadUnit
  | .programStartChange .. => h.execProgramStartChange
  | .migrationComplete => h.execMigrationComplete
  | .programAbortChange .. => h.execProgramAbortChange
  | .programRun .. => h.execProgramRun
  | .programStop .. => h.execProgramStop
  | .programStartFrame => h.execProgramStartFrame
  | .programStopFrame => h.execProgramStopFrame
  | .programGetTaskStats .. => h.execProgramGetTaskStats
  | .programReadVar .. => h.execProgramReadVar
  | .retainSave => h.execRetainSave
  | .forceList .. => h.execForceList
  | .forceSet .. => h.execForceSet
  | .forceRelease .. => h.execForceRelease
  | .forceReleaseAll .. => h.execForceReleaseAll
  | .diagReadRegs .. => h.execDiagReadRegs
  | .diagWriteRegs .. => h.execDiagWriteRegs
  | .diagGetHealth .. => h.execDiagGetHealth
  | .diagRaiseAlarm .. => h.execDiagRaiseAlarm
  | .timeGetStatus .. => h.execTimeGetStatus
  | .timeGetSources .. => h.execTimeGetSources
  | .timeGetConfig .. => h.execTimeGetConfig
  | .timeSetConfig .. => h.execTimeSetConfig
  | .timeStep .. => h.execTimeStep
  | .timeSetTaiUtc .. => h.execTimeSetTaiUtc
  | .updateGetStatus .. => h.execUpdateGetStatus
  | .updateBegin .. => h.execUpdateBegin
  | .updateTransfer .. => h.execUpdateTransfer
  | .updateInstall .. => h.execUpdateInstall
  | .installRestart => h.execInstallRestart
  | .updateConfirm .. => h.execUpdateConfirm
  | .updateAbort .. => h.execUpdateAbort
  | .updateGroupUpdate .. => h.execUpdateGroupUpdate
  | .trialHealthy => h.execTrialHealthy
  | .trialWindowExpiry => h.execTrialWindowExpiry
  | .updateLockExpiry => h.execUpdateLockExpiry
  | .archiveList .. => h.execArchiveList
  | .archiveExport .. => h.execArchiveExport
  | .archiveDelete .. => h.execArchiveDelete
  | .archiveLogEvent .. => h.execArchiveLogEvent
  | .archiveReadLog .. => h.execArchiveReadLog
  | .securityGetState .. => h.execSecurityGetState
  | .securitySetTrustAnchors .. => h.execSecuritySetTrustAnchors
  | .securityLoadCrl .. => h.execSecurityLoadCrl
  | .securityEnrol .. => h.execSecurityEnrol
  | .securitySetRoleMap .. => h.execSecuritySetRoleMap
  | .securityRevokeRootSlot .. => h.execSecurityRevokeRootSlot
  | .securityRotateGroupKeys .. => h.execSecurityRotateGroupKeys
  | .redundancyGetStatus .. => h.execRedundancyGetStatus
  | .redundancyHandover .. => h.execRedundancyHandover
  | .redundancyLeaveGroup .. => h.execRedundancyLeaveGroup
  | .redundancyRemoveRequest .. => h.execRedundancyRemoveRequest
  | .redundancyResync .. => h.execRedundancyResync
  | .redundancyGetSignatures .. => h.execRedundancyGetSignatures
  | .asterGetStatus .. => h.execAsterGetStatus
  | .asterGetConfig .. => h.execAsterGetConfig
  | .asterSetConfig .. => h.execAsterSetConfig
  | .asterGetPhasors .. => h.execAsterGetPhasors
  | .asterSetStreaming .. => h.execAsterSetStreaming
  | .larkspurGetStatus .. => h.execLarkspurGetStatus
  | .larkspurGetConfig .. => h.execLarkspurGetConfig
  | .larkspurSetConfig .. => h.execLarkspurSetConfig
  | .larkspurGetEvents .. => h.execLarkspurGetEvents
  | .larkspurCalibrate .. => h.execLarkspurCalibrate
  | .larkspurManualTrigger .. => h.execLarkspurManualTrigger
  | .fieldioGetStatus .. => h.execFieldioGetStatus
  | .fieldioGetConfig .. => h.execFieldioGetConfig
  | .fieldioSetConfig .. => h.execFieldioSetConfig
  | .fieldioClearFault .. => h.execFieldioClearFault
  | .canauxGetStatus .. => h.execCanauxGetStatus
  | .canauxGetConfig .. => h.execCanauxGetConfig
  | .canauxSetConfig .. => h.execCanauxSetConfig
  | .canauxTxEnqueue .. => h.execCanauxTxEnqueue
  | .canauxRecover .. => h.execCanauxRecover
  | .canauxReadRx .. => h.execCanauxReadRx
  | .lifetimeGetSummary .. => h.execLifetimeGetSummary
  | .lifetimeReadRecords .. => h.execLifetimeReadRecords
  | .lifetimeAddNote .. => h.execLifetimeAddNote
  | .configEffectiveFrame => h.execConfigEffectiveFrame
  | .svFrameRx .. => h.execSvFrameRx
  | .streamLost .. => h.execStreamLost
  | .estimateSetComplete .. => h.execEstimateSetComplete
  | .c37118Command .. => h.execC37118Command
  | .markEdge => h.execMarkEdge
  | .laneFrame .. => h.execLaneFrame
  | .groupArmed .. => h.execGroupArmed
  | .wavefrontDetect .. => h.execWavefrontDetect
  | .eventClose .. => h.execEventClose
  | .rgooseRetransmit => h.execRgooseRetransmit
  | .rgooseReportRx .. => h.execRgooseReportRx
  | .remoteWaitExpiry => h.execRemoteWaitExpiry
  | .recordComplete => h.execRecordComplete
  | .recordStored => h.execRecordStored
  | .gooseFrameRx .. => h.execGooseFrameRx
  | .gooseTalExpiry .. => h.execGooseTalExpiry
  | .netFrameRx .. => h.execNetFrameRx
  | .linkChange .. => h.execLinkChange
  | .prpSupervision .. => h.execPrpSupervision
  | .nodeForget .. => h.execNodeForget
  | .entryForget .. => h.execEntryForget
  | .macsecDown .. => h.execMacsecDown
  | .macsecUp .. => h.execMacsecUp
  | .mmsAssociate .. => h.execMmsAssociate
  | .mmsConclude .. => h.execMmsConclude
  | .mmsAbort .. => h.execMmsAbort
  | .mmsGetNameList .. => h.execMmsGetNameList
  | .mmsIdentify .. => h.execMmsIdentify
  | .mmsRead .. => h.execMmsRead
  | .mmsGetVariableAccessAttributes .. => h.execMmsGetVariableAccessAttributes
  | .mmsGetNamedVarListAttributes .. => h.execMmsGetNamedVarListAttributes
  | .mmsWriteRcb .. => h.execMmsWriteRcb
  | .mmsFileDirectory .. => h.execMmsFileDirectory
  | .mmsFileOpen .. => h.execMmsFileOpen
  | .mmsFileRead .. => h.execMmsFileRead
  | .mmsFileClose .. => h.execMmsFileClose
  | .fldLow => h.execFldLow
  | .fldNormal => h.execFldNormal
  | .lockout => h.execLockout
  | .lockoutEnd .. => h.execLockoutEnd
  | .doLatchOff .. => h.execDoLatchOff
  | .stageHoldEnd => h.execStageHoldEnd
  | .canFrameRx .. => h.execCanFrameRx
  | .canBusIdle .. => h.execCanBusIdle
  | .canTxDone .. => h.execCanTxDone
  | .canRecoveryComplete .. => h.execCanRecoveryComplete
  | .canBusIntegration .. => h.execCanBusIntegration
  | .firmwareUp .. => h.execFirmwareUp
  | .peerWaitExpiry => h.execPeerWaitExpiry
  | .ownLineFall => h.execOwnLineFall
  | .quietTimeExpiry => h.execQuietTimeExpiry
  | .claimConfirm .. => h.execClaimConfirm
  | .ownFault => h.execOwnFault
  | .peerKillOutAssert => h.execPeerKillOutAssert
  | .peerKillIn => h.execPeerKillIn
  | .peerKillInRelease => h.execPeerKillInRelease
  | .pairOkMissing => h.execPairOkMissing
  | .failedRestart => h.execFailedRestart
  | .heartbeatTx => h.execHeartbeatTx
  | .heartbeat .. => h.execHeartbeat
  | .hollyhockLost => h.execHollyhockLost
  | .snapshotFrame .. => h.execSnapshotFrame
  | .signatureFrame .. => h.execSignatureFrame
  | .voteFrame .. => h.execVoteFrame
  | .join .. => h.execJoin
  | .leave .. => h.execLeave
  | .failed .. => h.execFailed
  | .ready .. => h.execReady
  | .ack .. => h.execAck
  | .taintRelease .. => h.execTaintRelease
  | .resyncPage .. => h.execResyncPage
  | .resyncLines .. => h.execResyncLines
  | .resyncTimeout => h.execResyncTimeout
  | .checkpointSend => h.execCheckpointSend
  | .checkpoint .. => h.execCheckpoint
  | .singletonRestart => h.execSingletonRestart
  | .handoverPrepare => h.execHandoverPrepare
  | .handoverRelease => h.execHandoverRelease
  | .handoverFrame => h.execHandoverFrame
  | .forward .. => h.execForward
  | .key .. => h.execKey
  | .keyRenewal => h.execKeyRenewal
  | .oldKeyExpiry => h.execOldKeyExpiry
  | .delayReq .. => h.execDelayReq
  | .delayResp .. => h.execDelayResp
  | .laneTrainComplete .. => h.execLaneTrainComplete
  | .laneCheckComplete .. => h.execLaneCheckComplete
  | .laneErroredBlock .. => h.execLaneErroredBlock
  | .laneLost .. => h.execLaneLost
  | .laneRetrain .. => h.execLaneRetrain
  | .laneRebond .. => h.execLaneRebond
  | .comparatorMismatch .. => h.execComparatorMismatch
  | .delayPar .. => h.execDelayPar
  | .compFail .. => h.execCompFail
  | .debugAccess => h.execDebugAccess
  | .dramScrubRead _ b => h.execDramScrubRead (overwritten := b)
  | .dramScrubLate => h.execDramScrubLate
  | .sramScrubRead _ _ _ b _ => h.execSramScrubRead (overwritten := b)
  | .sramScrubLate => h.execSramScrubLate
  | .memLogClear .. => h.execMemLogClear
  | .fabricAccess .. => h.execFabricAccess
  | .gateSeal .. => h.execGateSeal
  | .gatePop .. => h.execGatePop
  | .gateEntryWrite .. => h.execGateEntryWrite
  | .gateDrainComplete .. => h.execGateDrainComplete
  | .gateDrainTimeout .. => h.execGateDrainTimeout
  | .coldReset .. => h.execColdReset
  | .warmReset .. => h.execWarmReset
  | .perDomainReset .. => h.execPerDomainReset
  | .warmResetRequest => h.execWarmResetRequest
  | .domainResetRequest .. => h.execDomainResetRequest
  | .otpDigestCheck .. => h.execOtpDigestCheck
  | .enrolRenewal .. => h.execEnrolRenewal
  | .nandSweepRead .. => h.execNandSweepRead
  | .sweepLate => h.execSweepLate
  | .confWriteComplete .. => h.execConfWriteComplete
  | .logFlush => h.execLogFlush
  | .logBudgetRefill => h.execLogBudgetRefill
  | .lifetimeHours .. => h.execLifetimeHours
  | .nandWear => h.execNandWear
  | .bkdTrim => h.execBkdTrim
  | .bkdAlarmFire => h.execBkdAlarmFire
  | .weekdayAdvance => h.execWeekdayAdvance
  | .bkdAlarmHiWrite .. => h.execBkdAlarmHiWrite
  | .bkdAlarmLoWrite .. => h.execBkdAlarmLoWrite
  | .bkdWdWrite .. => h.execBkdWdWrite
  | .park => h.execPark
  | .parkTimeout => h.execParkTimeout
  | .thermalRestart => h.execThermalRestart
  | .bkdBytesWrite .. => h.execBkdBytesWrite
  | .bkdBytesInit => h.execBkdBytesInit
  | .supplyChange .. => h.execSupplyChange
  | .bkdDip => h.execBkdDip
  | .bkdPowerOn => h.execBkdPowerOn
  | .feedLost .. => h.execFeedLost
  | .feedGood .. => h.execFeedGood
  | .feedOv .. => h.execFeedOv
  | .feedOvClear .. => h.execFeedOvClear
  | .feedReturn => h.execFeedReturn
  | .feedBRelease => h.execFeedBRelease
  | .seatedDetectMade .. => h.execSeatedDetectMade
  | .seatPartial .. => h.execSeatPartial
  | .seatedDetectBreak .. => h.execSeatedDetectBreak
  | .buttonPress => h.execButtonPress
  | .buttonHeld => h.execButtonHeld
  | .tempSample .. => h.execTempSample
  | .thermalFail => h.execThermalFail
  | .thermalShutdown => h.execThermalShutdown
  | .avsAdjust .. => h.execAvsAdjust
  | .droopDetect .. => h.execDroopDetect
  | .mgmtOpSelect .. => h.execMgmtOpSelect
  | .clockGate .. => h.execClockGate
  | .clockWake .. => h.execClockWake
  | .clockFault .. => h.execClockFault
  | .railFault => h.execRailFault
  | .firmwareWatchdog .. => h.execFirmwareWatchdog
  | .registerWrite .. => h.execRegisterWrite
  | .ownerLost => h.execOwnerLost
  | .pairOkEdge => h.execPairOkEdge
  | .cellLow => h.execCellLow
  | .ocxoWarm => h.execOcxoWarm
  | .trialHandoverTimeout => h.execTrialHandoverTimeout
  | .ptpAnnounce .. => h.execPtpAnnounce
  | .ptpDelayReq .. => h.execPtpDelayReq
  | .malformed .. => h.execMalformed
  | .c37118ClientConnect .. => h.execC37118ClientConnect
  | .c37118ClientClose .. => h.execC37118ClientClose

/-- A step takes the front command from the queue and runs it; the queue is neither register nor memory. -/
protected theorem State.Canon.step (h : s.Canon) : Out.Canon (step s) := by
  unfold Machine.step
  split
  exacts [.next h, .exec _ h.upd]

/-- Settles O3: every function that a command is composed of keeps the canonical form, so a step keeps it. -/
theorem everyStepKeepsTheCanonicalForm : Obligations.EveryStepKeepsTheCanonicalForm := by
  unfold Obligations.EveryStepKeepsTheCanonicalForm
  intro s t hs hstep
  exact t.canon_iff.mp (((s.canon_iff.mpr hs).step) t hstep)

end Sys2Proof.Machine
end

section
/-! SUPPORT. Refutations of statements on the frame and the time sources (02 R60-R67, R262; 08 R274): in each a concrete
state meets the hypotheses of one clause, and the model's next state is not the one that the clause names. -/

namespace Sys2Proof.Machine

/-- What a command leads to holds of the state that it answers. -/
theorem leads_next {c : Instr} {s t : State} {p : State → Prop} (h : leads c s p) (ht : exec c s = .next t) : p t := by
  obtain ⟨u, hu, hp⟩ := h
  rw [ht] at hu
  cases hu
  exact hp

/-- A follower whose own source 0 has been locked for 60 s without a time fault and whose TIME_PRIO is 1, while the tick
master has PRIO 0. -/
def eligibleFollower : State :=
  let s := (State.reset.set Reg.timStatusTickRole 1).set (Reg.timSrcLocked 0) 1
  { s with time := { s.time with ownSel := 0, lockHeld60 := true, cfg := zeros 40 ++ [1#8] ++ zeros 7 } }

/-- Refutes O28: the review of the time after an edge within 100 ns also lets a follower that is eligible above the
master's PRIO stand for the tick (R66), so that TICK_ROLE is CANDIDATE and not, as the first clause has it, FOLLOWER. -/
theorem not_tickRoleAndTheBusWord : ¬ Obligations.TickRoleAndTheBusWord := by
  unfold Obligations.TickRoleAndTheBusWord
  intro h
  obtain ⟨hedge, -⟩ := h eligibleFollower
  obtain ⟨-, -, -, hrole, -⟩ := leads_next (hedge 0 (by decide +kernel) (by decide +kernel)) rfl
  exact absurd hrole (by decide +kernel)

/-- Sources 0, 1 and 2 are locked and 0 is the selected one; 1 and 2 agree, and lie 2 us from it. -/
def outvotedSource : State :=
  let s := ((State.reset.set (Reg.timSrcLocked 0) 1).set (Reg.timSrcLocked 1) 1).set (Reg.timSrcLocked 2) 1
  { s with time := { s.time with
    ownSel := 0, srcs := [{ hist := [2000] }, { hist := [0] }, { hist := [0] }, {}, {}, {}] } }

/-- Refutes O29: where two sources outvote the selected one, the switch removes its lock (R44), and the locked sources
that remain agree: the disagreement fault is over, and TIM_STATUS.FAULT reads 0 after DISAGREE. -/
theorem not_timeSources : ¬ Obligations.TimeSources := by
  unfold Obligations.TimeSources
  intro h
  obtain ⟨-, -, -, -, -, -, -, -, -, -, -, hdisagree, -⟩ := h outvotedSource
  obtain ⟨-, hfault, -⟩ := leads_next
    (hdisagree 0 1 (by decide) (by decide) (by decide +kernel) (by decide +kernel) (by decide +kernel)) rfl
  exact absurd hfault (by decide +kernel)

/-- The snapshot of the next frame is frozen; Larkspur subscription 0 is shown alive, though the time allowed for its
last report ended at 0. -/
def staleSubscription : State :=
  let s := State.reset.set (Reg.lspSubAlive 0) 1
  { s with time := { s.time with ticked := true }, prog := { s.prog with frozen := some { frame := 1 } } }

theorem exec_cutOff_of_ticked {s : State} (h : s.time.ticked = true) : exec .cutOff s = .next (cutOff s) := by
  change execCutOff s = _
  rw [execCutOff, if_neg (by simp [h])]

/-- Refutes O41: a cut-off whose snapshot is already frozen does more than run the counter to T0+225 us, for it lets the
Larkspur subscriptions expire whose time is over (08 R274). -/
theorem not_cutOffAndSelection : ¬ Obligations.CutOffAndSelection := by
  unfold Obligations.CutOffAndSelection
  intro h
  obtain ⟨honce, -⟩ := h staleSubscription
  have hnext := honce (by decide +kernel) (by decide +kernel)
  rw [exec_cutOff_of_ticked (by decide +kernel)] at hnext
  injection hnext with hnext
  have halive := congrArg (State.on · (Reg.lspSubAlive 0)) hnext
  exact absurd halive (by decide +kernel)

/-- A unit whose one task writes member 0 of publication 0 for its one station, 0. -/
def publishingUnit : LoadUnit where
  id := 1
  split := false
  built := []
  tool := []
  ringLog2 := []
  images := []
  types := []
  insts := []
  init := []
  tasks := [⟨1, 0, 0, 0, 1, 0, 1, 0, 0, 0, 1, [0], [100], 1⟩]
  planH := 1
  plan := []
  stations := [⟨0, 0, 0, 0, 0⟩]
  ins := []
  outs := [⟨1, 1, 1, 0, 4, 0, 0, 1, 0, 0⟩]
  syms := []
  locals := []

/-- An owner in whose frame the task of `publishingUnit` has completed and publication 0 is due. Larkspur subscription 0 is
shown alive though its time ended at 0, and the network configuration does not enable the record of station 0. -/
def expiringOwner : State :=
  let s := (State.reset.set Reg.hhkPairStatusOwnHeld 1).set (Reg.lspSubAlive 0) 1
  { s with
    time := { s.time with ticked := true }
    cfg := { s.cfg with applied := [(objNet, [0#8])] }
    net := { s.net with pubs := [{ going := some 2 }] }
    prog := { s.prog with active := some publishingUnit, tasks := [{ copied := true }] } }

/-- Refutes O40: at the release the expiry of the subscription has the stations judged, and station 0 drops out of the
period that writes publication 0. So the owner discards a publication for which no discard stood at T0+215 us (04 R132),
and its TX count stays. -/
theorem not_theFrameFromTickToRelease : ¬ Obligations.TheFrameFromTickToRelease := by
  unfold Obligations.TheFrameFromTickToRelease
  intro h
  obtain ⟨-, -, -, -, -, hrelease, -⟩ := h expiringOwner
  obtain ⟨-, -, -, -, hcounts, -⟩ := leads_next (hrelease (by decide +kernel)) rfl
  have hcount := hcounts publishingUnit 0 2 (by decide +kernel) (by decide +kernel) (by decide +kernel) rfl
    (by decide +kernel) (by decide) (by decide +kernel)
  exact absurd hcount (by decide +kernel)

end Sys2Proof.Machine
end

section
/-! SUPPORT. What the review of the time and the passing of time leave alone (02 R53-R66; 18 R499). Both write, of the
timebase, only the registers that show how the time stands, and no memory. `State.Reviewed s t` says so of a state `t` that
comes from `s`; one lemma per function of the model gives it, and its proof follows the function's definition. -/

namespace Sys2Proof.Machine

/-! ### Fields that show how the time stands -/

/-- The fields of the timebase that its review and elapsed time write: quality, source, tick role and TAI-UTC with their
event flags, the holdover time and the own PRIO (02 R72). -/
def reviewedFields : List Fld :=
  [Reg.timStatusFault, Reg.timStatusValid, Reg.timStatusSlewing, Reg.timStatusLeapKnown, Reg.timStatusTickRole,
    Reg.timStatusSource, Reg.timStatusClass, Reg.timEventClassChange, Reg.timEventSrcChange, Reg.timEventRoleChange,
    Reg.timEventCnt0ClassCnt, Reg.timEventCnt0SrcCnt, Reg.timEventCnt0RoleCnt, Reg.timEstErrErr, Reg.timHoldTimeSec,
    Reg.timTaiUtcKnown, Reg.timTaiUtcLeap61, Reg.timTaiUtcLeap59, Reg.timTaiUtcOffset, Reg.timArbOwnPrio]

/-- The field belongs to another block, or shows how the time stands. -/
def Fld.reviewed (g : Fld) : Bool := g.ok && (decide (g.addr / 0x10000 ≠ 1) || reviewedFields.contains g)

/-- The flag and its counter belong to another block, or show how the time stands. -/
def Ev.reviewed (e : Ev) : Bool := e.flag.reviewed && e.cnt.all Fld.reviewed

/-- The field belongs to the timebase and shares no bit with those that show how the time stands. -/
def Fld.steady (f : Fld) : Bool := decide (f.addr / 0x10000 = 1) && reviewedFields.all (·.apart f)

theorem Fld.reviewed_ok {g : Fld} (hg : g.reviewed = true) : g.ok = true := by
  simp only [Fld.reviewed, Bool.and_eq_true] at hg
  exact hg.1

theorem Fld.reviewed_apart {f g : Fld} (hg : g.reviewed = true) (hf : f.steady = true) : g.apart f = true := by
  simp only [Fld.reviewed, Fld.steady, Bool.and_eq_true, Bool.or_eq_true, decide_eq_true_eq, List.contains_iff_mem,
    List.all_eq_true] at hg hf
  obtain ⟨-, hblock | hmem⟩ := hg
  · have hne : g.addr ≠ f.addr := fun h => hblock (h ▸ hf.1)
    simp [Fld.apart, hne]
  · exact hf.2 g hmem

/-- The age of a checkpoint lies in the block of Hollyhock. -/
theorem Reg.hhkPairCkptAgeMs_reviewed {n : Nat} (h : n < 3) : (Reg.hhkPairCkptAgeMs n).reviewed = true := by
  interval_cases n <;> decide

/-! ### The relation and its rules -/

/-- `t` comes from `s` by writes to fields that show how the time stands or belong to other blocks. Beside registers and
memory only the fraction, the adjustment, the mark of a step and the latest SET_TAI_UTC are known to be the same. -/
structure State.Reviewed (s t : State) : Prop where
  mem : t.mem = s.mem
  get : ∀ f : Fld, f.steady = true → t.get f = s.get f
  frac : t.time.frac = s.time.frac
  adj : t.time.adj = s.time.adj
  stepped : t.time.stepped = s.time.stepped
  setTai : t.time.setTai = s.time.setTai

namespace State.Reviewed

variable {s t : State}

protected theorem refl (s : State) : s.Reviewed s := ⟨rfl, fun _ _ => rfl, rfl, rfl, rfl, rfl⟩

protected theorem ite {c : Prop} [Decidable c] {u : State} (ht : s.Reviewed t) (hu : s.Reviewed u) :
    s.Reviewed (if c then t else u) := by
  split <;> assumption

protected theorem foldl {α : Type} {f : State → α → State} {l : List α} (h : s.Reviewed t)
    (hf : ∀ t, ∀ x ∈ l, s.Reviewed t → s.Reviewed (f t x)) : s.Reviewed (l.foldl f t) := by
  induction l generalizing t with
  | nil => exact h
  | cons x r ih => exact ih (hf t x (by simp) h) fun t y hy => hf t y (by simp [hy])

protected theorem upd (h : s.Reviewed t) {mono freeCtr outbox time mbx pair hhk nvs memi gate fio can cfg ast lsp net prog
    sec pwr bkd pending} (hfrac : time.frac = t.time.frac) (hadj : time.adj = t.time.adj)
    (hstepped : time.stepped = t.time.stepped) (hsetTai : time.setTai = t.time.setTai) :
    s.Reviewed (State.mk t.regs t.mem mono freeCtr outbox time mbx pair hhk nvs memi gate fio can cfg ast lsp net prog sec
      pwr bkd pending) :=
  ⟨h.mem, h.get, hfrac.trans h.frac, hadj.trans h.adj, hstepped.trans h.stepped, hsetTai.trans h.setTai⟩

protected theorem set (h : s.Reviewed t) {f : Fld} {v : Nat} (hf : f.reviewed = true) : s.Reviewed (t.set f v) :=
  ⟨h.mem, fun g hg => (State.get_set_apart t f g v (Fld.reviewed_ok hf) (Fld.reviewed_apart hf hg)).trans (h.get g hg),
    h.frac, h.adj, h.stepped, h.setTai⟩

protected theorem setBit (h : s.Reviewed t) {f : Fld} {b : Bool} (hf : f.reviewed = true) : s.Reviewed (t.setBit f b) :=
  h.set hf

protected theorem raise (h : s.Reviewed t) {e : Ev} (he : e.reviewed = true) : s.Reviewed (t.raise e) := by
  simp only [Ev.reviewed, Bool.and_eq_true] at he
  obtain ⟨hflag, hcnt⟩ := he
  obtain ⟨m, o, hraise⟩ := State.raise_frame t e
  rw [hraise, flagged]
  cases hc : e.cnt with
  | none => exact (h.set hflag).upd rfl rfl rfl rfl
  | some c =>
    rw [hc] at hcnt
    exact ((h.set hflag).set hcnt).upd rfl rfl rfl rfl

protected theorem raiseIf (h : s.Reviewed t) {b : Bool} {e : Ev} (he : e.reviewed = true) :
    s.Reviewed (t.raiseIf b e) := by
  unfold State.raiseIf
  exact .ite (h.raise he) h

/-! ### Elapsed time -/

protected theorem setBkd (h : s.Reviewed t) {n : Nat} : s.Reviewed (t.setBkd n) := by
  unfold State.setBkd
  exact ((h.set (by decide)).set (by decide)).set (by decide)

protected theorem wakeFromPark (h : s.Reviewed t) {cause : Nat} : s.Reviewed (wakeFromPark cause t) := by
  unfold Machine.wakeFromPark
  split
  · exact ((h.set (by decide)).setBit (by decide)).raise (by decide)
  · exact (h.set (by decide)).set (by decide)
  · exact h

protected theorem fireAlarm (h : s.Reviewed t) {skipped : Bool} : s.Reviewed (fireAlarm skipped t) := by
  unfold Machine.fireAlarm
  have harm := ((h.raise (e := Ev.bkdAlarm) (by decide)).raiseIf (b := skipped) (e := Ev.bkdSkipped) (by decide)).setBit
    (f := Reg.bkdAlarmHiArm) (b := false) (by decide)
  exact .ite harm.wakeFromPark harm

protected theorem bkdAdvance (h : s.Reviewed t) {n : Nat} : s.Reviewed (bkdAdvance n t) := by
  unfold Machine.bkdAdvance
  have hday (c : Prop) [Decidable c] (t' : State) (ht' : s.Reviewed t') (w : Nat) :
      s.Reviewed (if c then t' else t'.set Reg.bkdWdWd w) := .ite ht' (ht'.set (by decide))
  exact .ite (hday _ _ h.setBkd _).fireAlarm (hday _ _ h.setBkd _)

protected theorem elapse (h : s.Reviewed t) {dt : Nat} : s.Reviewed (elapse dt t) := by
  unfold Machine.elapse
  extract_lets ph bkd s1 s2 s3 s4 s5 s6 s7
  have h1 : s.Reviewed s1 := h.upd rfl rfl rfl rfl
  have h3 : s.Reviewed s3 := h1.bkdAdvance.set (by decide)
  have h4 : s.Reviewed s4 := .ite (h3.set (by decide)) h3
  have h6 : s.Reviewed s6 := (h4.set (by decide)).setBit (by decide)
  have h7 : s.Reviewed s7 := h6.foldl fun t n hn ht => by
    split
    · exact ht.set (Reg.hhkPairCkptAgeMs_reviewed (List.mem_range.mp hn))
    · exact ht
  refine .ite ?_ h7
  refine .set (f := Reg.timHoldTimeSec) ?_ (by decide)
  exact h7.upd rfl rfl rfl rfl

/-! ### The review of the time -/

protected theorem setTimeFault (h : s.Reviewed t) {bit : Nat} {b : Bool} : s.Reviewed (setTimeFault bit b t) :=
  h.upd rfl rfl rfl rfl

protected theorem refreshQuality (h : s.Reviewed t) : s.Reviewed (refreshQuality t) := by
  unfold Machine.refreshQuality Machine.showPrio
  extract_lets q was s1 s2 time s3
  have h1 : s.Reviewed s1 := ((h.set (by decide)).set (by decide)).setBit (by decide)
  have h2 : s.Reviewed s2 := (h1.setBit (by decide)).setBit (by decide)
  have h3 : s.Reviewed s3 := by
    refine .ite h2 ?_
    refine .set (f := Reg.timHoldTimeSec) ?_ (by decide)
    exact h2.upd rfl rfl rfl rfl
  exact (h3.set (by decide)).raiseIf (by decide)

protected theorem setTaiUtc (h : s.Reviewed t) {known : Bool} {offset : Nat} {leap61 leap59 : Bool} :
    s.Reviewed (setTaiUtc known offset leap61 leap59 t) := by
  unfold Machine.setTaiUtc
  exact ((((h.setBit (by decide)).set (by decide)).setBit (by decide)).setBit (by decide)).setBit (by decide)

protected theorem refreshTai (h : s.Reviewed t) : s.Reviewed (refreshTai t) := by
  unfold Machine.refreshTai
  extract_lets src
  refine .ite h ?_
  split
  · exact h.setTaiUtc
  · split
    · exact h.setTaiUtc
    · exact .ite h.setTaiUtc h.setTaiUtc

protected theorem setSource (h : s.Reviewed t) {n : Nat} : s.Reviewed (setSource n t) := by
  unfold Machine.setSource
  exact .ite h ((h.set (by decide)).raise (by decide))

protected theorem leaveFollowed (h : s.Reviewed t) : s.Reviewed (leaveFollowed t) := by
  unfold Machine.leaveFollowed Machine.enterHoldover
  exact .ite h (.ite h (h.upd rfl rfl rfl rfl))

protected theorem setOwnSource (h : s.Reviewed t) {n : Nat} : s.Reviewed (setOwnSource n t) := by
  unfold Machine.setOwnSource
  exact (State.Reviewed.ite h.leaveFollowed h).setSource

protected theorem refreshSource (h : s.Reviewed t) : s.Reviewed (refreshSource t) := by
  unfold Machine.refreshSource
  extract_lets n lead time t' own
  have ht' : s.Reviewed t' := h.upd rfl rfl rfl rfl
  exact .ite ht'.setSource (.ite ht'.setOwnSource (.ite ht' ht'.setOwnSource))

protected theorem setTickRole (h : s.Reviewed t) {n : Nat} : s.Reviewed (setTickRole n t) := by
  unfold Machine.setTickRole
  exact .ite h ((h.set (by decide)).raise (by decide))

protected theorem standForTick (h : s.Reviewed t) : s.Reviewed (standForTick t) := by
  unfold Machine.standForTick
  exact .ite h.setTickRole h

protected theorem reviewTime (h : s.Reviewed t) : s.Reviewed (reviewTime t) := by
  unfold Machine.reviewTime
  exact h.standForTick.refreshSource.refreshTai.refreshQuality

end State.Reviewed

/-! ### What follows from it -/

/-- The same memory reads the same. -/
theorem memKept_of_mem {s t : State} (h : t.mem = s.mem) : memKept s t := fun a => by
  rw [State.byte, State.byte, h]

variable {s t : State}

theorem State.Reviewed.getInt (h : s.Reviewed t) {f : Fld} (hf : f.steady = true) : t.getInt f = s.getInt f := by
  rw [State.getInt, State.getInt, h.get f hf]

theorem State.Reviewed.on (h : s.Reviewed t) {f : Fld} (hf : f.steady = true) : t.on f = s.on f := by
  rw [State.on, State.on, h.get f hf]

end Sys2Proof.Machine
end

section
/-! SUPPORT. Rate, slew and leap (02 R39-R41, R49, R58): what a TIME cycle adds to the counter, what a write of TIM_RATE_ADJ
or TIM_SLEW_REM leaves in the register, and what SLEW_CORRECTION and LEAP_APPLY change. -/

namespace Sys2Proof.Machine

/-! ### Signed registers of 32 bits -/

theorem toSigned_ofSigned (v : Int) (hlo : -2 ^ 31 ≤ v) (hhi : v < 2 ^ 31) : toSigned 32 (ofSigned 32 v) = v := by
  unfold toSigned ofSigned
  extract_lets m
  split <;> omega

theorem toSigned_eq_zero (n : Nat) (h : n < 2 ^ 32) : toSigned 32 n = 0 ↔ n = 0 := by
  unfold toSigned
  extract_lets m
  split <;> omega

/-- A field of 32 bits reads as signed what was written to it as signed. -/
theorem State.getInt_setInt_same (s : State) (f : Fld) (v : Int) (hhi : f.hi = 31) (hlo : f.lo = 0)
    (hmin : -2 ^ 31 ≤ v) (hmax : v < 2 ^ 31) : (s.setInt f v).getInt f = v := by
  have hok : f.ok = true := by simp [Fld.ok, hhi, hlo]
  have hget : (s.setInt f v).get f = ofSigned 32 v % 2 ^ 32 := by
    rw [State.setInt, State.get_set_same _ _ _ hok, hhi, hlo]
  have hmod : ofSigned 32 v % 2 ^ 32 = ofSigned 32 v := by
    unfold ofSigned
    omega
  rw [State.getInt, hget, hmod, hhi, hlo]
  exact toSigned_ofSigned v hmin hmax

/-- A field off the clock leaves the counter when it is written. -/
theorem State.now_setInt (s : State) (f : Fld) (v : Int) (h : f.offClock = true) : (s.setInt f v).now = s.now :=
  State.now_of_clock (State.set_clock s f _ h)

/-! ### TIM_RATE_ADJ (R40) -/

theorem writeRate_reviewed (v : Int) (s : State) :
    (s.setInt Reg.timRateAdjRate (max (-429497) (min 429497 v))).Reviewed (writeRate v s) := by
  unfold writeRate
  extract_lets v' s'
  have hclamp : v' = max (-429497) (min 429497 v) := by
    simp only [v']
    split_ifs <;> omega
  rw [← hclamp]
  exact .ite (State.Reviewed.refl s').setTimeFault.reviewTime (.refl s')

theorem writeRate_clock (v : Int) (s : State) : (writeRate v s).clock = s.clock := by
  have hset (x : Int) : (s.setInt Reg.timRateAdjRate x).clock = s.clock := State.set_clock s _ _ (by decide)
  simp [writeRate, hset]

/-- A write of TIM_RATE_ADJ leaves the clamped value, the counter and memory. -/
theorem writeRate_spec (v : Int) (s : State) :
    (writeRate v s).getInt Reg.timRateAdjRate = max (-429497) (min 429497 v) ∧ (writeRate v s).now = s.now ∧
      memKept s (writeRate v s) := by
  have hreviewed := writeRate_reviewed v s
  refine ⟨?_, State.now_of_clock (writeRate_clock v s), memKept_of_mem hreviewed.mem⟩
  rw [hreviewed.getInt (by decide)]
  exact State.getInt_setInt_same s _ _ rfl rfl (by omega) (by omega)

/-- A write of a whole register leaves the word that was written. -/
theorem merged_whole (x a : Nat) (s : State) (hx : x < 2 ^ 32) : merged 0xFFFFFFFF x a s = x := by
  have hw : (s.reg a).toNat < 2 ^ 32 := (s.reg a).isLt
  have hand (n : Nat) (hn : n < 2 ^ 32) : n &&& 0xFFFFFFFF = n := by
    rw [show 0xFFFFFFFF = 2 ^ 32 - 1 by norm_num, Nat.and_two_pow_sub_one_eq_mod, Nat.mod_eq_of_lt hn]
  simp [merged, hand _ hw, hand x hx]

/-- REGISTER_WRITE of TIM_RATE_ADJ writes the rate. -/
theorem exec_registerWrite_rate (x : Nat) (s : State) (hx : x < 2 ^ 32) :
    exec (.registerWrite 0x10024 x []) s = .next (writeRate (toSigned 32 x) s) := by
  have hgate : gateEntryOf 0x10024 = none := by decide
  have hmpu : mpuEntryOf 0x10024 = none := by decide
  change execRegisterWrite 0x10024 x [] s = _
  simp [execRegisterWrite, setsPrevail, writeBy, writeReg, merged_whole x _ s hx, hgate, hmpu, Reg.gateSealSeal,
    Reg.bkdAlarmHiArm, Reg.bkdAlarmLoAlarmLo, Reg.bkdWdWd, Reg.timRateAdjRate]

/-! ### TIME cycles (R39) -/

/-- What loading the counter leaves: every field apart from the counter's own. -/
theorem State.get_setNow_apart (s : State) (n : Nat) (f : Fld)
    (h : [Reg.timNowNsNs, Reg.timNowSecLoSecLo, Reg.timNowSecHiSecHi].all (·.apart f) = true) :
    (s.setNow n).get f = s.get f := by
  simp only [List.all_cons, List.all_nil, Bool.and_true, Bool.and_eq_true] at h
  obtain ⟨hns, hlo, hhi⟩ := h
  unfold State.setNow
  rw [State.get_set_apart _ _ _ _ (by decide) hhi, State.get_set_apart _ _ _ _ (by decide) hlo,
    State.get_set_apart _ _ _ _ (by decide) hns]

/-- `t` follows `s` by one TIME cycle with `extra` slew nanoseconds: the counter with its fraction has gained 2 ns, the
rate correction and the extra; rate, slew remainder, adjustment and memory are the same. -/
structure CycledBy (extra : Int) (s t : State) : Prop where
  counter : (t.now * 2 ^ 32 + t.time.frac : Int) =
    (s.now * 2 ^ 32 + s.time.frac : Int) + (2 ^ 33 + s.getInt Reg.timRateAdjRate) + extra * 2 ^ 32
  frac : t.time.frac < 2 ^ 32
  rate : t.getInt Reg.timRateAdjRate = s.getInt Reg.timRateAdjRate
  slew : t.getInt Reg.timSlewRemRem = s.getInt Reg.timSlewRemRem
  adj : t.time.adj = s.time.adj
  mem : t.mem = s.mem

theorem timeCycle_cycledBy (extra : Int) (s : State) (hrate : (s.getInt Reg.timRateAdjRate).natAbs ≤ 429497)
    (hfrac : s.time.frac < 2 ^ 32) (hextra : -1 ≤ extra)
    (hnow : s.now + 2 + (s.time.frac + s.getInt Reg.timRateAdjRate) / 4294967296 + extra < 2 ^ 48 * 1000000000) :
    CycledBy extra s (timeCycle extra s).2 := by
  unfold timeCycle
  extract_lets f carry n time s'
  dsimp only
  generalize n.toNat - s'.now = dt
  have hreviewed : (s'.setNow n.toNat).Reviewed (elapse dt (s'.setNow n.toNat)) := (State.Reviewed.refl _).elapse
  have hkept (g : Fld) (hsteady : g.steady = true)
      (hclock : [Reg.timNowNsNs, Reg.timNowSecLoSecLo, Reg.timNowSecHiSecHi].all (·.apart g) = true) :
      (elapse dt (s'.setNow n.toNat)).getInt g = s.getInt g := by
    rw [hreviewed.getInt hsteady, State.getInt, State.get_setNow_apart _ _ _ hclock, State.getInt,
      State.get_congr s' s rfl]
  have hn : (elapse dt (s'.setNow n.toNat)).now = n.toNat := by
    rw [State.now_of_clock (elapse_clock _ _), State.now_setNow _ _ (by omega)]
  have hf : (elapse dt (s'.setNow n.toNat)).time.frac = (f % 4294967296).toNat := hreviewed.frac
  exact {
    counter := by
      rw [hn, hf]
      omega
    frac := by
      rw [hf]
      omega
    rate := hkept _ (by decide) (by decide)
    slew := hkept _ (by decide) (by decide)
    adj := hreviewed.adj
    mem := hreviewed.mem }

/-- Settles O31: the write clamps and the review after it leaves the rate; a TIME cycle adds 2 ns and the rate. -/
theorem theRateIsClamped : Obligations.TheRateIsClamped := by
  unfold Obligations.TheRateIsClamped
  refine ⟨fun v s => ⟨_, rfl, writeRate_spec v s⟩, fun v s hmin hmax => ?_, fun s t ht hrate hfrac hnow => ?_,
    by norm_num, by norm_num⟩
  · refine ⟨_, exec_registerWrite_rate _ s (by omega), ?_⟩
    have hv : toSigned 32 (v % 2 ^ 32).toNat = v := toSigned_ofSigned v hmin hmax
    rw [hv]
    exact writeRate_spec v s
  · have hcycle := (timeCycle_cycledBy 0 s hrate hfrac (by omega) (by omega)).counter
    rw [ht, hcycle]
    ring

/-! ### One-bit fields and event flags -/

theorem State.on_setBit_same (s : State) (f : Fld) (b : Bool) (hok : f.ok = true) (hbit : f.hi = f.lo) :
    (s.setBit f b).on f = b := by
  rw [State.on, State.setBit, State.get_set_same _ _ _ hok, hbit]
  cases b <;> simp

theorem State.on_congr {s t : State} {f : Fld} (h : t.get f = s.get f) : t.on f = s.on f := by
  rw [State.on, State.on, h]

/-- Neither the flag nor its counter shares a bit with the field. -/
def Ev.apart (e : Ev) (g : Fld) : Bool :=
  e.flag.ok && e.flag.apart g && e.cnt.all (fun c => c.ok && c.apart g)

theorem State.get_raise_apart (s : State) (e : Ev) (g : Fld) (h : e.apart g = true) : (s.raise e).get g = s.get g := by
  simp only [Ev.apart, Bool.and_eq_true] at h
  obtain ⟨⟨hok, hflag⟩, hcnt⟩ := h
  refine State.raise_other s e g hok hflag fun c hc => ?_
  simpa [hc] using hcnt

theorem State.get_raiseIf_apart (s : State) (b : Bool) (e : Ev) (g : Fld) (h : e.apart g = true) :
    (s.raiseIf b e).get g = s.get g := by
  cases b
  · rfl
  · exact State.get_raise_apart s e g h

/-! ### Slewing (R39, R58) -/

/-- The review of the quality shows in SLEWING whether a slew remainder is left. -/
theorem refreshQuality_slewing (s : State) :
    (refreshQuality s).on Reg.timStatusSlewing = decide (s.get Reg.timSlewRemRem ≠ 0) := by
  unfold refreshQuality showPrio
  extract_lets q was s1 s2 time s3
  have hrem1 : s1.get Reg.timSlewRemRem = s.get Reg.timSlewRemRem := by
    simp only [s1, State.setBit]
    rw [State.get_set_apart _ _ _ _ (by decide) (by decide), State.get_set_apart _ _ _ _ (by decide) (by decide),
      State.get_set_apart _ _ _ _ (by decide) (by decide)]
  have h2 : s2.on Reg.timStatusSlewing = decide (s.get Reg.timSlewRemRem ≠ 0) := by
    rw [← hrem1]
    exact State.on_setBit_same _ _ _ (by decide) rfl
  clear_value s2
  have h3 : s3.get Reg.timStatusSlewing = s2.get Reg.timStatusSlewing := by
    simp only [s3]
    split
    · rfl
    · rw [State.get_set_apart _ _ _ _ (by decide) (by decide)]
      exact State.get_congr _ s2 (by rfl) _
  have hshow (b : Bool) (v : Nat) : ((s3.set Reg.timArbOwnPrio v).raiseIf b Ev.timClassChange).get Reg.timStatusSlewing =
      s2.get Reg.timStatusSlewing := by
    rw [State.get_raiseIf_apart _ _ _ _ (by decide), State.get_set_apart _ _ _ _ (by decide) (by decide), h3]
  rw [State.on_congr (hshow _ _), h2]

/-- A write of TIM_SLEW_REM replaces the remainder, shows whether one is left, and leaves the counter and memory. -/
theorem writeSlew_spec (v : Int) (s : State) (hmin : -2 ^ 31 ≤ v) (hmax : v < 2 ^ 31) :
    (writeSlew v s).getInt Reg.timSlewRemRem = v ∧ (writeSlew v s).now = s.now ∧
      (writeSlew v s).on Reg.timStatusSlewing = decide (v ≠ 0) ∧ memKept s (writeSlew v s) := by
  have hreviewed : (s.setInt Reg.timSlewRemRem v).Reviewed (writeSlew v s) := (State.Reviewed.refl _).refreshQuality
  have hv : (s.setInt Reg.timSlewRemRem v).getInt Reg.timSlewRemRem = v :=
    State.getInt_setInt_same s _ v rfl rfl hmin hmax
  have hzero : (s.setInt Reg.timSlewRemRem v).get Reg.timSlewRemRem = 0 ↔ v = 0 := by
    rw [← toSigned_eq_zero _ (State.get_lt _ Reg.timSlewRemRem)]
    exact Eq.congr_left hv
  refine ⟨?_, ?_, ?_, memKept_of_mem hreviewed.mem⟩
  · rw [hreviewed.getInt (by decide), hv]
  · exact (State.now_of_clock (refreshQuality_clock _)).trans (State.now_setInt s _ v (by decide))
  · rw [writeSlew, refreshQuality_slewing]
    simp [hzero]

/-- The TIME cycles of a slew correction by one nanosecond: one, or two where the fraction carries the same way in the
first. The counter moves forward by 1 to 6 ns (R39). -/
theorem slewCycles_spec (d : Int) (hd : d = 1 ∨ d = -1) (s : State)
    (hrate : (s.getInt Reg.timRateAdjRate).natAbs ≤ 429497) (hfrac : s.time.frac < 2 ^ 32)
    (hnow : s.now + 6 < 2 ^ 48 * 1000000000) :
    let t := if (timeCycle 0 s).1 = d then (timeCycle d (timeCycle 0 s).2).2 else (timeCycle d s).2
    s.now + 1 ≤ t.now ∧ t.now ≤ s.now + 6 ∧ t.time.frac < 2 ^ 32 ∧
      t.getInt Reg.timSlewRemRem = s.getInt Reg.timSlewRemRem ∧ t.time.adj = s.time.adj ∧ t.mem = s.mem := by
  have hcarry : (timeCycle 0 s).1 = (s.time.frac + s.getInt Reg.timRateAdjRate) / 4294967296 := rfl
  dsimp only
  split
  · next hsame =>
    have h1 := timeCycle_cycledBy 0 s hrate hfrac (by omega) (by omega)
    have hsum1 := h1.counter
    have hfrac1 := h1.frac
    have h2 := timeCycle_cycledBy d (timeCycle 0 s).2 (by rw [h1.rate]; exact hrate) h1.frac (by omega)
      (by rw [h1.rate]; omega)
    have hsum2 := h2.counter
    have hfrac2 := h2.frac
    rw [h1.rate] at hsum2
    refine ⟨by omega, by omega, hfrac2, h2.slew.trans h1.slew, h2.adj.trans h1.adj, h2.mem.trans h1.mem⟩
  · next hother =>
    have h1 := timeCycle_cycledBy d s hrate hfrac (by omega) (by omega)
    have hsum1 := h1.counter
    have hfrac1 := h1.frac
    refine ⟨by omega, by omega, hfrac1, h1.slew, h1.adj, h1.mem⟩

/-- A slew correction without a remainder does nothing. -/
theorem exec_slewCorrection_idle (s : State) (h : s.getInt Reg.timSlewRemRem = 0) :
    exec .slewCorrection s = .next s := by
  change execSlewCorrection s = _
  simp [execSlewCorrection, h]

/-- A slew correction moves the remainder by one towards 0, the counter forward by 1 to 6 ns, and counts the nanosecond as
an adjustment. -/
theorem leads_slewCorrection (s : State) (hrem : s.getInt Reg.timSlewRemRem ≠ 0)
    (hrate : (s.getInt Reg.timRateAdjRate).natAbs ≤ 429497) (hfrac : s.time.frac < 2 ^ 32)
    (hnow : s.now + 6 < 2 ^ 48 * 1000000000) : leads .slewCorrection s (fun t =>
      t.getInt Reg.timSlewRemRem = s.getInt Reg.timSlewRemRem - (s.getInt Reg.timSlewRemRem).sign ∧
      s.now + 1 ≤ t.now ∧ t.now ≤ s.now + 6 ∧ t.time.adj = s.time.adj + (s.getInt Reg.timSlewRemRem).sign ∧
      t.time.frac < 2 ^ 32 ∧ memKept s t) := by
  refine ⟨_, rfl, ?_⟩
  rw [if_neg hrem]
  extract_lets d carry s1 time s2
  have hsign : (s.getInt Reg.timSlewRemRem).sign = d := by
    simp only [d]
    split
    · next hpos => exact Int.sign_eq_one_of_pos hpos
    · next => exact Int.sign_eq_neg_one_of_neg (by omega)
  have hd : d = 1 ∨ d = -1 := by
    simp only [d]
    split <;> simp
  obtain ⟨hlo, hhi, hfrac1, hrem1, hadj1, hmem1⟩ := slewCycles_spec d hd s hrate hfrac hnow
  have hbounds : -2147483648 ≤ s.getInt Reg.timSlewRemRem ∧ s.getInt Reg.timSlewRemRem < 2147483648 :=
    toSigned_bounds (s.get Reg.timSlewRemRem)
  have hreviewed : (s2.setInt Reg.timSlewRemRem (s.getInt Reg.timSlewRemRem - d)).Reviewed
      (refreshQuality (s2.setInt Reg.timSlewRemRem (s.getInt Reg.timSlewRemRem - d))) := (State.Reviewed.refl _).refreshQuality
  have hnow2 : (refreshQuality (s2.setInt Reg.timSlewRemRem (s.getInt Reg.timSlewRemRem - d))).now = s1.now :=
    (State.now_of_clock (refreshQuality_clock _)).trans
      ((State.now_setInt s2 _ _ (by decide)).trans (State.now_of_clock (State.clock_of_regs rfl)))
  have hrange : -2 ^ 31 ≤ s.getInt Reg.timSlewRemRem - d ∧ s.getInt Reg.timSlewRemRem - d < 2 ^ 31 := by
    simp only [d]
    split <;> omega
  dsimp only
  rw [hsign, hnow2]
  refine ⟨?_, hlo, hhi, ?_, ?_, memKept_of_mem (hreviewed.mem.trans hmem1)⟩
  · rw [hreviewed.getInt (by decide)]
    exact State.getInt_setInt_same _ _ _ rfl rfl hrange.1 hrange.2
  · exact hreviewed.adj.trans (congrArg (· + d) hadj1)
  · exact hreviewed.frac.trans_lt hfrac1

/-! ### TAI-UTC and leaps (R13, R49) -/

/-- TIM_TAI_UTC shows what is taken into it. -/
theorem setTaiUtc_spec (known l61 l59 : Bool) (o : Nat) (s : State) :
    (setTaiUtc known o l61 l59 s).get Reg.timTaiUtcOffset = o % 2 ^ 16 ∧
    (setTaiUtc known o l61 l59 s).on Reg.timTaiUtcLeap61 = l61 ∧
    (setTaiUtc known o l61 l59 s).on Reg.timTaiUtcLeap59 = l59 := by
  unfold setTaiUtc
  extract_lets s1 s2
  refine ⟨?_, ?_, ?_⟩
  · have h1 : s1.get Reg.timTaiUtcOffset = o % 2 ^ 16 := State.get_set_same _ _ _ (by decide)
    rw [← h1]
    simp only [s2, State.setBit]
    rw [State.get_set_apart _ _ _ _ (by decide) (by decide), State.get_set_apart _ _ _ _ (by decide) (by decide),
      State.get_set_apart _ _ _ _ (by decide) (by decide)]
  · have h2 : (s1.setBit Reg.timTaiUtcLeap61 l61).on Reg.timTaiUtcLeap61 = l61 :=
      State.on_setBit_same _ _ _ (by decide) rfl
    refine (State.on_congr ?_).trans h2
    exact (State.get_set_apart _ _ _ _ (by decide) (by decide)).trans
      (State.get_set_apart _ _ _ _ (by decide) (by decide))
  · have h2 : s2.on Reg.timTaiUtcLeap59 = l59 := State.on_setBit_same _ _ _ (by decide) rfl
    refine (State.on_congr ?_).trans h2
    exact State.get_set_apart _ _ _ _ (by decide) (by decide)

/-- A pending leap leaves in TIM_TAI_UTC the offset changed by one and no leap flag, and leaves the counter and memory. -/
theorem leads_leapApply (s : State) (hknown : s.on Reg.timTaiUtcKnown = true)
    (hleap : (s.on Reg.timTaiUtcLeap61 || s.on Reg.timTaiUtcLeap59) = true) :
    leads .leapApply s (fun t =>
      t.get Reg.timTaiUtcOffset = (if s.on Reg.timTaiUtcLeap61 = true then s.get Reg.timTaiUtcOffset + 1
        else s.get Reg.timTaiUtcOffset - 1) % 2 ^ 16 ∧
      t.now = s.now ∧ t.on Reg.timTaiUtcLeap61 = false ∧ t.on Reg.timTaiUtcLeap59 = false ∧ memKept s t) := by
  refine ⟨_, rfl, ?_⟩
  have hpending : ¬ (!s.on Reg.timTaiUtcKnown || !(s.on Reg.timTaiUtcLeap61 || s.on Reg.timTaiUtcLeap59)) = true := by
    rw [hknown, hleap]
    simp
  rw [if_neg hpending]
  extract_lets n time s'
  obtain ⟨hoffset, h61, h59⟩ := setTaiUtc_spec true false false n s'
  have hnow : s'.now = s.now := State.now_of_clock (State.clock_of_regs rfl)
  refine ⟨hoffset, (State.now_of_clock (setTaiUtc_clock _ _ _ _ s')).trans hnow, h61, h59, ?_⟩
  exact memKept_of_mem (State.Reviewed.refl s').setTaiUtc.mem

/-- Settles O27, clause by clause from what each command leaves. -/
theorem rateSlewAndLeap : Obligations.RateSlewAndLeap := by
  unfold Obligations.RateSlewAndLeap
  intro s
  refine ⟨fun v => ⟨_, rfl, writeRate_spec v s⟩, fun v hmin hmax => ⟨_, rfl, writeSlew_spec v s hmin hmax⟩,
    exec_slewCorrection_idle s, leads_slewCorrection s, fun hknown h61 hoffset => ?_, fun hknown h61 h59 => ?_⟩
  · obtain ⟨t, hexec, hget, hnow, hl61, hl59, hmem⟩ := leads_leapApply s hknown (by simp [h61])
    rw [if_pos h61] at hget
    exact ⟨t, hexec, by omega, hnow, hl61, hl59, hmem⟩
  · obtain ⟨t, hexec, hget, hnow, -, hl59, hmem⟩ := leads_leapApply s hknown (by simp [h59])
    rw [if_neg (by simp [h61])] at hget
    have hlt : s.get Reg.timTaiUtcOffset < 2 ^ 16 := State.get_lt s Reg.timTaiUtcOffset
    exact ⟨t, hexec, by omega, hnow, hl59, hmem⟩

end Sys2Proof.Machine
end

section
/-! SUPPORT. The TIME family (02 R57, R68-R71): the fields of the status and source records at their offsets, and what
SET_CONFIG, STEP and SET_TAI_UTC leave. -/

namespace Sys2Proof.Machine

/-! ### Little-endian numbers in a record (00 R8) -/

@[simp] theorem leBytes_length (n v : Nat) : (leBytes n v).length = n := by
  induction n generalizing v with
  | zero => rfl
  | succ n ih => simp [leBytes, ih]

theorem leNat_leBytes (n v : Nat) : leNat (leBytes n v) = v % 256 ^ n := by
  induction n generalizing v with
  | zero => simp [leBytes, leNat, Nat.mod_one]
  | succ n ih =>
    rw [leBytes, leNat, ih, Nat.pow_succ', Nat.mod_mul, BitVec.toNat_ofNat]

/-- A number at the front of a record reads back, up to its width. -/
theorem leAt_leBytes_append (n v : Nat) (l : List Byte) : leAt (leBytes n v ++ l) 0 n = v % 256 ^ n := by
  have htake : (leBytes n v ++ l).take n = leBytes n v := by
    rw [List.take_append_of_le_length (by simp), List.take_of_length_le (by simp)]
  rw [leAt, List.drop_zero, htake, leNat_leBytes]

/-- What lies behind a number in a record is read past its width. -/
theorem leAt_behind_leBytes (k v : Nat) (l : List Byte) (off n : Nat) (h : k ≤ off) :
    leAt (leBytes k v ++ l) off n = leAt l (off - k) n := by
  rw [leAt, leAt, List.drop_append, List.drop_eq_nil_of_le (by simpa using h), List.nil_append, leBytes_length]

/-! ### GET_STATUS and GET_SOURCES (R69) -/

theorem State.get_mod (s : State) (f : Fld) (m : Nat) (h : 2 ^ (f.hi + 1 - f.lo) ≤ m) : s.get f % m = s.get f :=
  Nat.mod_eq_of_lt ((State.get_lt s f).trans_le h)

theorem timeStatusRecord_length (s : State) : (timeStatusRecord s).length = 36 := by
  simp [timeStatusRecord, timeBytes]

/-- The fields of the status record at their offsets. -/
theorem timeStatusRecord_fields (s : State) : let p := timeStatusRecord s
    leAt p 0 4 = s.now % 1000000000 ∧ leAt p 12 1 = s.get Reg.timStatusClass ∧
    leAt p 14 1 = s.get Reg.timStatusSource ∧ leAt p 15 1 = s.get Reg.timStatusTickRole ∧
    leAt p 16 4 = s.get Reg.timEstErrErr ∧ leAt p 20 2 = s.get Reg.timTaiUtcOffset ∧
    leAt p 24 4 = s.get Reg.timSlewRemRem ∧ leAt p 28 4 = s.get Reg.timHoldTimeSec := by
  have hns : s.now % 1000000000 % 256 ^ 4 = s.now % 1000000000 := by omega
  simp only [timeStatusRecord, timeBytes, nsPerS, List.append_assoc]
  refine ⟨?_, ?_, ?_, ?_, ?_, ?_, ?_, ?_⟩ <;>
    simp only [leAt_behind_leBytes, leAt_leBytes_append, Nat.reduceLeDiff, Nat.reduceSub]
  · exact hns
  all_goals exact State.get_mod s _ _ (by decide)

/-- TIM_SRCn and TIM_SRCn_OFS of the six sources, as GET_SOURCES carries them. -/
def sourceRecords (s : State) : List Byte :=
  (List.range 6).flatMap (fun n =>
    leBytes 4 (s.reg (Reg.timSrcPrio n).addr).toNat ++ leBytes 4 (s.reg (Reg.timSrcOfsOfs n).addr).toNat)

theorem sourceRecords_length (s : State) : (sourceRecords s).length = 48 := by
  simp [sourceRecords, List.range_succ]

theorem sourceRecords_fields (s : State) (n : Nat) (hn : n < 6) :
    leAt (sourceRecords s) (8 * n) 4 = (s.reg (0x10044 + 4 * n)).toNat ∧
    leAt (sourceRecords s) (8 * n + 4) 4 = (s.reg (0x10060 + 4 * n)).toNat := by
  have hword (a : Nat) : (s.reg a).toNat % 256 ^ 4 = (s.reg a).toNat := Nat.mod_eq_of_lt (s.reg a).isLt
  simp only [sourceRecords, List.range_succ, List.range_zero, List.nil_append, List.cons_append, List.flatMap_cons,
    List.flatMap_nil, List.append_assoc, Reg.timSrcPrio, Reg.timSrcOfsOfs]
  interval_cases n <;>
    simp only [leAt_behind_leBytes, leAt_leBytes_append, hword, Nat.reduceLeDiff, Nat.reduceSub, Nat.reduceMul,
      Nat.reduceAdd, and_self]

/-! ### SET_CONFIG (R70, R71) -/

theorem nandPut_frame (p l : Nat) (d : List Byte) (s : State) :
    (nandPut p l d s).regs = s.regs ∧ (nandPut p l d s).mem = s.mem ∧ (nandPut p l d s).time = s.time := by
  unfold nandPut nandWrite
  split <;> exact ⟨rfl, rfl, rfl⟩

theorem nandConf_frame (o : Nat) (d : List Byte) (s : State) :
    (nandConf o d s).regs = s.regs ∧ (nandConf o d s).mem = s.mem ∧ (nandConf o d s).time = s.time := by
  unfold nandConf
  extract_lets q v l
  obtain ⟨hregs, hmem, htime⟩ := nandPut_frame 2 l v s
  obtain ⟨hregs', hmem', htime'⟩ := nandPut_frame 3 l v (nandPut 2 l v s)
  exact ⟨hregs'.trans hregs, hmem'.trans hmem, htime'.trans htime⟩

/-- Storing a settings object in CONF writes no register and no memory, and leaves the timebase. -/
theorem confWrite_frame (o : Nat) (b : List Byte) (s : State) :
    (confWrite o b s).regs = s.regs ∧ (confWrite o b s).mem = s.mem ∧ (confWrite o b s).time = s.time := by
  unfold confWrite
  extract_lets nvs cfg s' t
  obtain ⟨hregs, hmem, htime⟩ := nandConf_frame o b s'
  split <;> exact ⟨hregs, hmem, htime⟩

/-! ### STEP and SET_TAI_UTC (R57, R58, R68) -/

theorem leNat_lt (l : List Byte) : leNat l < 256 ^ l.length := by
  induction l with
  | nil => simp [leNat]
  | cons b r ih =>
    have hb : b.toNat < 256 := b.isLt
    rw [leNat, List.length_cons, Nat.pow_succ']
    omega

theorem leAt_lt (l : List Byte) (off n : Nat) : leAt l off n < 256 ^ n :=
  (leNat_lt _).trans_le (Nat.pow_le_pow_right (by decide) (List.length_take_le n _))

/-- A step loads the counter, sets STEP and leaves memory; the review of the quality keeps all three. -/
theorem refreshQuality_stepCounter_spec (n : Nat) (s : State) (hn : n < 2 ^ 48 * 1000000000) :
    let t := refreshQuality (stepCounter n s)
    t.on Reg.timEventStep = true ∧ t.time.stepped = true ∧ t.now = n ∧ t.mem = s.mem := by
  have hreviewed : (stepCounter n s).Reviewed (refreshQuality (stepCounter n s)) :=
    (State.Reviewed.refl _).refreshQuality
  dsimp only
  rw [hreviewed.on (by decide), hreviewed.stepped, State.now_of_clock (refreshQuality_clock _), hreviewed.mem]
  unfold stepCounter
  extract_lets d s1 time prog lsp s2
  have hflag : (s2.raise Ev.timStep).get Reg.timEventStep = 1 :=
    State.raise_flag s2 Ev.timStep (by decide) rfl fun c hc => by
      cases hc
      decide
  have hnow : (s2.raise Ev.timStep).now = n := by
    rw [State.now_of_clock (State.raise_clock s2 _ (by decide)),
      State.now_of_clock (State.clock_of_regs (show s2.regs = s1.regs by rfl))]
    exact State.now_setNow s n hn
  obtain ⟨m, o, hraise⟩ := State.raise_frame s2 Ev.timStep
  refine ⟨by simp [State.on, hflag], ?_, hnow, ?_⟩
  · rw [hraise]
    rfl
  · rw [hraise]
    rfl

/-! ### The answers of the family -/

/-- A command whose effect is an answer OK answers with that payload from the state it leaves. -/
theorem answers_of_ok {c : Instr} {fam cmd i : Nat} {r : Req} {lenOk : Nat → Bool} {act : State → Reply} {s u : State}
    {pay : List Byte} {p : List Byte → State → Prop} (hexec : exec c s = .next (serve fam cmd r lenOk act s))
    (h : requestOk fam cmd lenOk i r s = true) (hact : act s = .ok u pay) (hp : p pay u) :
    answers c fam cmd i r s p :=
  ⟨pay, u, by rw [hexec, serve_ok h hact], hp⟩

/-- A command whose effect is a refusal answers with its status and DETAIL from the state it leaves. -/
theorem answersErr_of_err {c : Instr} {fam cmd i status detail : Nat} {r : Req} {lenOk : Nat → Bool}
    {act : State → Reply} {s u : State} {p : State → Prop} (hexec : exec c s = .next (serve fam cmd r lenOk act s))
    (h : requestOk fam cmd lenOk i r s = true) (hact : act s = .err u status detail) (hstatus : status ≠ stMalformed)
    (hp : p u) : answersErr c fam cmd i r s status detail p :=
  ⟨u, by rw [hexec, serve_err h hact hstatus], hp⟩

theorem answers_timeSetConfig {i : Nat} {r : Req} {s : State} (h : requestOk 7 4 (exactly 48) i r s = true)
    (hok : timeConfigBad r.payload = none) (hgroup : s.sec.groupStep = 0) :
    answers (.timeSetConfig r) 7 4 i r s (fun p u => p = [] ∧ u.time.cfgNext = some r.payload ∧
      u.time.cfg = s.time.cfg ∧ u.regs = s.regs ∧ memKept s u) := by
  obtain ⟨hregs, hmem, htime⟩ := confWrite_frame objTime r.payload s
  have hopen : ¬ groupUpdating s = true := by simp [groupUpdating, hgroup]
  have hcfg : (confWrite objTime r.payload s).time.cfg = s.time.cfg := congrArg TimeSt.cfg htime
  refine answers_of_ok (u := ?u) (pay := ?pay) rfl h ?hact ?hp
  case hact =>
    rw [hok]
    exact if_neg hopen
  case hp => exact ⟨rfl, rfl, hcfg, hregs, memKept_of_mem hmem⟩

theorem answers_timeStep {i : Nat} {r : Req} {s : State} (h : requestOk 7 5 (exactly 10) i r s = true)
    (hns : leAt r.payload 0 4 < 1000000000) (hlock : s.on Reg.timStatusRunLock = false) :
    answers (.timeStep r) 7 5 i r s (fun p u => p = [] ∧ u.on Reg.timEventStep = true ∧ u.time.stepped = true ∧
      u.now = leAt r.payload 4 6 * 1000000000 + leAt r.payload 0 4 ∧ memKept s u) := by
  have hsec : leAt r.payload 4 6 < 256 ^ 6 := leAt_lt _ _ _
  obtain ⟨hflag, hstepped, hnow, hmem⟩ := refreshQuality_stepCounter_spec
    (leAt r.payload 4 6 * 1000000000 + leAt r.payload 0 4) s (by omega)
  have hvalid : ¬ nsPerS ≤ leAt r.payload 0 4 := Nat.not_le.mpr hns
  have hunlocked : ¬ s.on Reg.timStatusRunLock = true := by simp [hlock]
  exact answers_of_ok rfl h ((if_neg hvalid).trans (if_neg hunlocked))
    ⟨rfl, hflag, hstepped, hnow, memKept_of_mem hmem⟩

theorem answers_timeSetTaiUtc {i : Nat} {r : Req} {s : State} (h : requestOk 7 6 (exactly 3) i r s = true)
    (hflags : leAt r.payload 2 1 ≤ 3) :
    answers (.timeSetTaiUtc r) 7 6 i r s (fun p u => p = [] ∧ u.now = s.now ∧ memKept s u ∧
      u.time.setTai = some (leAt r.payload 0 2, bitOf (leAt r.payload 2 1) 0, bitOf (leAt r.payload 2 1) 1)) := by
  refine answers_of_ok rfl h (if_neg (by omega)) ⟨rfl, ?_, ?_, ?_⟩
  · exact (State.now_of_clock (refreshTai_clock _)).trans (State.now_of_clock (State.clock_of_regs rfl))
  · exact memKept_of_mem (State.Reviewed.refl _).refreshTai.mem
  · exact (State.Reviewed.refl _).refreshTai.setTai

/-- Settles O26, command by command. -/
theorem timeCommands : Obligations.TimeCommands := by
  unfold Obligations.TimeCommands
  intro i r s
  refine ⟨fun h => answers_of_ok rfl h rfl ⟨rfl, timeStatusRecord_length s, timeStatusRecord_fields s⟩,
    fun h => answers_of_ok rfl h rfl ⟨rfl, sourceRecords_length s, sourceRecords_fields s⟩,
    fun h => answers_of_ok rfl h rfl ⟨rfl, rfl⟩, answers_timeSetConfig, fun d h hbad => ?_, answers_timeStep,
    fun h hns hlock => ?_, answers_timeSetTaiUtc⟩
  · exact answersErr_of_err rfl h (by rw [hbad]) (by decide) rfl
  · have hvalid : ¬ nsPerS ≤ leAt r.payload 0 4 := Nat.not_le.mpr hns
    exact answersErr_of_err rfl h ((if_neg hvalid).trans (if_pos hlock)) (by decide) rfl

end Sys2Proof.Machine
end

section
/-! SUPPORT. Refutations of statements on the mailbox (03 R74, R85): in each a concrete state and request meet the hypotheses
of one clause, and the model's next state is not the one that the clause names. -/

namespace Sys2Proof.Machine

/-- Session 0 is open with no active role, and the first ring of its pair is in service (03 R74). -/
def ringedSession : State := (State.reset.set (Reg.mbxSessOpen 0) 1).set (Reg.rcbCfgEnable (sessionRing 0)) 1

/-- A request of session 0 with no payload, answered at once. -/
def bareRequest : Req := ⟨.host 0, 1, 0, 0, 0, 0, 1, [], 0⟩

/-- Refutes O17: the descriptor of a refused request has passed the session's request ring all the same (R74, R75), so that
ROLE_DENIED does not leave the old state but for the response: the ring's interrupt is sent as well. -/
theorem not_requestsThatFailACheckDoNothing : ¬ Obligations.RequestsThatFailACheckDoNothing := by
  unfold Obligations.RequestsThatFailACheckDoNothing
  intro h
  obtain ⟨-, -, hchecks⟩ := h (.identGetIdent bareRequest) 1 1 0 bareRequest ⟨1, 1, 0, .b, false⟩ ringedSession rfl rfl
    (by decide +kernel)
  obtain ⟨-, hrole, -⟩ := hchecks (by decide +kernel) (by decide +kernel) (by decide +kernel) (by decide +kernel)
    (by decide +kernel)
  have hnext := hrole (by decide +kernel) (by decide +kernel)
  change Host.Outcome.next _ = _ at hnext
  injection hnext with hnext
  have hsent := congrArg (fun t => t.outbox.length) hnext
  exact absurd hsent (by decide +kernel)

/-- Session 0 is open and receives a message of two segments under SEQ 1, of which the first has come. -/
def receivingSession : State :=
  (State.reset.set (Reg.mbxSessOpen 0) 1).updSess 0 (fun c => { c with segs := [⟨1, 8, 3, 0, 2, 1, []⟩] })

/-- A whole message of two segments under SEQ 1 whose header is sound and shows SEGMENT 1. -/
def secondSegment : Req := ⟨.host 0, 1, 0, 0, 1, 1, 2, zeros 65537, 0⟩

theorem secondSegment_headerOk : headerOk secondSegment = true := by
  have hlength : secondSegment.payload.length = 65537 := List.length_replicate
  simp only [headerOk, hlength]
  decide

/-- MALFORMED leaves to its own command a message with a sound header that begins no message (03 R93). -/
theorem execMalformed_of_sound {fam cmd i : Nat} {r : Req} {row : CmdRow} {s : State} (hsrc : r.src = .host i)
    (hopen : s.on (Reg.mbxSessOpen i) = true) (hsegment : r.segment ≠ 0) (hframing : framingLost r = false)
    (hheader : headerOk r = true) (hfam : famKnown fam = true) (hrow : cmdRow fam cmd = some row)
    (hresponse : noResponse r = false) : execMalformed fam cmd r s = .next s := by
  have hafresh : beginsAfresh i r s = s := by simp [beginsAfresh, hsegment]
  simp [execMalformed, hsrc, hafresh, hopen, hsegment, hframing, hheader, hfam, hrow, hresponse]

/-- Refutes O20: a message with a sound header under the SEQ of one in reception ends it only if it begins one, with SEGMENT
0 (R85). One that shows SEGMENT 1 is its own command's, and MALFORMED stays clear. -/
theorem not_segmentsCancelsAndMalformedMessages : ¬ Obligations.SegmentsCancelsAndMalformedMessages := by
  unfold Obligations.SegmentsCancelsAndMalformedMessages
  intro h
  obtain ⟨-, -, -, -, -, hreceiving, -⟩ := h 0 8 3 secondSegment receivingSession (by decide) (by decide +kernel) rfl
    (by decide +kernel)
  have hexec : exec (.malformed 8 3 secondSegment) receivingSession = .next receivingSession := by
    change execMalformed 8 3 secondSegment receivingSession = _
    exact execMalformed_of_sound rfl (by decide +kernel) (by decide) (by decide +kernel) secondSegment_headerOk
      (by decide) (row := ⟨8, 3, 4, .d, false⟩) (by decide +kernel) (by decide +kernel)
  obtain ⟨hmalformed, -⟩ := leads_next (hreceiving secondSegment_headerOk (by decide +kernel)) hexec
  exact absurd hmalformed (by decide +kernel)

end Sys2Proof.Machine
end

section
/-! SUPPORT. The ring engine (03 R73-R79): what the count condition, ring faults and the passing of descriptors leave of
memory and registers, and what debug taint and a violation report leave of the ring blocks (01 R22, 15 R441). -/

namespace Sys2Proof.Machine

/-! ### Event flags -/

/-- A flag of one bit, apart from its counter. -/
def Ev.ok (e : Ev) : Bool :=
  e.flag.ok && decide (e.flag.hi = e.flag.lo) && e.cnt.all (fun c => c.ok && c.apart e.flag)

theorem State.on_raise_flag (s : State) (e : Ev) (h : e.ok = true) : (s.raise e).on e.flag = true := by
  simp only [Ev.ok, Bool.and_eq_true, decide_eq_true_eq] at h
  obtain ⟨⟨hok, hbit⟩, hcnt⟩ := h
  have hflag : (s.raise e).get e.flag = 1 := State.raise_flag s e hok hbit fun c hc => by simpa [hc] using hcnt
  simp [State.on, hflag]

@[simp] theorem State.raise_mem (s : State) (e : Ev) : (s.raise e).mem = s.mem := by
  obtain ⟨m, o, hraise⟩ := State.raise_frame s e
  rw [hraise, flagged]
  cases e.cnt <;> rfl

/-- Fields of different registers share no bit. -/
theorem Fld.apart_of_addr {f g : Fld} (h : f.addr ≠ g.addr) : f.apart g = true := by simp [Fld.apart, h]

/-- Of two fields one of which lies above the other, neither shares a bit. -/
theorem Fld.apart_of_bits {f g : Fld} (h : f.hi < g.lo ∨ g.hi < f.lo) : f.apart g = true := by
  simp only [Fld.apart, Bool.or_eq_true, decide_eq_true_eq]
  tauto

/-! ### Ring faults -/

theorem Ev.rcbOverflow_ok (n : Nat) : (Ev.rcbOverflow n).ok = true := by
  simp [Ev.ok, Ev.rcbOverflow, Fld.ok, Fld.apart, Reg.rcbEventOverflow, Reg.rcbEventOvfCnt]

theorem Ev.rcbReject_ok (n : Nat) : (Ev.rcbReject n).ok = true := by
  simp [Ev.ok, Ev.rcbReject, Fld.ok, Fld.apart, Reg.rcbEventReject, Reg.rcbEventRejectCnt]

theorem Ev.rcbBadDesc_ok (n : Nat) : (Ev.rcbBadDesc n).ok = true := by
  simp [Ev.ok, Ev.rcbBadDesc, Fld.ok, Fld.apart, Reg.rcbEventBadDesc, Reg.rcbEventMalfCnt]

/-- RING_FAULT shows in the mailbox block, below the ring blocks. -/
theorem Ev.mbxRingFault_apart {g : Fld} (h : 0x21000 ≤ g.addr) : Ev.mbxRingFault.apart g = true := by
  have hflag : Reg.mbxEventRingFault.addr ≠ g.addr := by simp only [Reg.mbxEventRingFault]; omega
  have hcnt : Reg.mbxEventCnt1RingFaultCnt.addr ≠ g.addr := by simp only [Reg.mbxEventCnt1RingFaultCnt]; omega
  have hok : Reg.mbxEventRingFault.ok = true ∧ Reg.mbxEventCnt1RingFaultCnt.ok = true := by decide
  simp [Ev.apart, Ev.mbxRingFault, Fld.apart_of_addr hflag, Fld.apart_of_addr hcnt, hok]

/-- A flag and a counter at the end of a ring block share no bit with a field of another register. -/
theorem Ev.apart_of_addr {f c g : Fld} (hf : f.ok = true) (hc : c.ok = true) (haddr : c.addr = f.addr)
    (h : g.addr ≠ f.addr) : Ev.apart ⟨f, some c⟩ g = true := by
  simp [Ev.apart, hf, hc, Fld.apart_of_addr (Ne.symm h), Fld.apart_of_addr (haddr ▸ Ne.symm h)]

theorem rcbProd_above (n : Nat) : 0x21000 ≤ (Reg.rcbProdProd n).addr := by
  simp only [Reg.rcbProdProd]
  omega

/-- The three flags of RCB_EVENT lie in one register of the ring's block. -/
theorem rcbEvent_above (n : Nat) : 0x21000 ≤ (Reg.rcbEventOverflow n).addr := by
  simp only [Reg.rcbEventOverflow]
  omega

theorem rcbProd_ne_rcbEvent (n : Nat) : (Reg.rcbProdProd n).addr ≠ (Reg.rcbEventOverflow n).addr := by
  simp only [Reg.rcbProdProd, Reg.rcbEventOverflow]
  omega

theorem ringFault_mem (e : Ev) (s : State) : (ringFault e s).mem = s.mem := by simp [ringFault]

/-- A ring fault leaves a field of the ring blocks that is neither the flag nor its counter. -/
theorem get_ringFault_apart (s : State) {e : Ev} {g : Fld} (he : e.apart g = true) (hg : 0x21000 ≤ g.addr) :
    (ringFault e s).get g = s.get g := by
  rw [ringFault, State.get_raise_apart _ _ _ (Ev.mbxRingFault_apart hg), State.get_raise_apart _ _ _ he]

/-- A ring fault sets its flag and RING_FAULT (03 R109). -/
theorem on_ringFault (s : State) {e : Ev} (he : e.ok = true) (hg : 0x21000 ≤ e.flag.addr) :
    (ringFault e s).on e.flag = true ∧ (ringFault e s).on Reg.mbxEventRingFault = true := by
  refine ⟨?_, State.on_raise_flag _ Ev.mbxRingFault (by decide)⟩
  rw [ringFault, State.on_congr (State.get_raise_apart _ _ _ (Ev.mbxRingFault_apart hg)), State.on_raise_flag s e he]

/-! ### Interrupts (R77) -/

theorem foldl_ringInterrupt (n k : Nat) (s : State) :
    let t := (List.range k).foldl (fun s _ => ringInterrupt n s) s
    t.regs = s.regs ∧ t.mem = s.mem ∧ t.outbox = s.outbox ++ List.replicate k (.ringInterrupt n) := by
  induction k with
  | zero => simp
  | succ k ih =>
    obtain ⟨hregs, hmem, hsent⟩ := ih
    rw [List.range_succ, List.foldl_append, List.replicate_succ', ← List.append_assoc, ← hsent]
    exact ⟨hregs, hmem, rfl⟩

/-- What the count condition sends for `new` descriptors more. -/
def countInterrupts (n new : Nat) (s : State) : List OutMsg :=
  if s.get (Reg.rcbModCount n) = 0 then List.replicate new (.ringInterrupt n)
  else if s.get (Reg.rcbModCount n) ≤ ringHeld s n then [.ringInterrupt n] else []

/-- The count condition leaves registers and memory, and sends its interrupts. -/
theorem ringCount_spec (n new : Nat) (s : State) :
    (ringCount n new s).regs = s.regs ∧ (ringCount n new s).mem = s.mem ∧
    (ringCount n new s).outbox = s.outbox ++ countInterrupts n new s := by
  unfold ringCount countInterrupts
  extract_lets c
  by_cases hzero : c = 0
  · simpa only [c, hzero, if_true] using foldl_ringInterrupt n new s
  · rw [if_neg hzero, if_neg hzero]
    split
    · exact ⟨rfl, rfl, rfl⟩
    · simp

/-! ### Doorbells (R75) -/

/-- A doorbell that its ring accepts writes PROD alone, and the count condition is judged. -/
theorem doorbell_accepted {n v : Nat} {s : State} (hv : v < 65536)
    (h : let step := (v + 65536 - s.get (Reg.rcbProdProd n)) % 65536
      1 ≤ step ∧ step ≤ ringSize s n ∧ (v + 65536 - s.get (Reg.rcbConsCons n)) % 65536 ≤ ringSize s n) :
    doorbell n v s = ringCount n ((v + 65536 - s.get (Reg.rcbProdProd n)) % 65536) (s.set (Reg.rcbProdProd n) v) := by
  rw [doorbell, Nat.mod_eq_of_lt hv]
  exact if_pos h

/-- A doorbell outside its ring's room is ignored with OVERFLOW. -/
theorem doorbell_overflow {n v : Nat} {s : State} (hv : v < 65536)
    (h : let step := (v + 65536 - s.get (Reg.rcbProdProd n)) % 65536
      step = 0 ∨ ringSize s n < step ∨ ringSize s n < (v + 65536 - s.get (Reg.rcbConsCons n)) % 65536) :
    doorbell n v s = ringFault (Ev.rcbOverflow n) s := by
  rw [doorbell, Nat.mod_eq_of_lt hv]
  refine if_neg ?_
  dsimp only at h
  omega

theorem get_set_rcbProd {n v : Nat} (s : State) (hv : v < 65536) :
    (s.set (Reg.rcbProdProd n) v).get (Reg.rcbProdProd n) = v := by
  rw [State.get_set_same _ _ _ rfl]
  exact Nat.mod_eq_of_lt hv

theorem get_set_rcbCons {n v : Nat} (s : State) (hv : v < 65536) :
    (s.set (Reg.rcbConsCons n) v).get (Reg.rcbConsCons n) = v := by
  rw [State.get_set_same _ _ _ rfl]
  exact Nat.mod_eq_of_lt hv

theorem rcbProd_apart (n : Nat) (g : Fld) (h : g.addr ≠ 0x2100C + 32 * n) : (Reg.rcbProdProd n).apart g = true :=
  Fld.apart_of_addr (Ne.symm h)

/-- What an accepted doorbell leaves (R75, R77). -/
theorem ringCount_prod_spec {n v step : Nat} (s : State) (hv : v < 65536) :
    let t := ringCount n step (s.set (Reg.rcbProdProd n) v)
    t.get (Reg.rcbProdProd n) = v ∧ t.get (Reg.rcbConsCons n) = s.get (Reg.rcbConsCons n) ∧ memKept s t ∧
    (∀ a, a ≠ (Reg.rcbProdProd n).addr → t.reg a = s.reg a) ∧
    t.outbox = s.outbox ++ (if s.get (Reg.rcbModCount n) = 0 then List.replicate step (.ringInterrupt n)
      else if s.get (Reg.rcbModCount n) ≤ (v + 65536 - s.get (Reg.rcbConsCons n)) % 65536 then [.ringInterrupt n]
      else []) := by
  obtain ⟨hregs, hmem, hsent⟩ := ringCount_spec n step (s.set (Reg.rcbProdProd n) v)
  have hother (g : Fld) (h : g.addr ≠ 0x2100C + 32 * n) : (s.set (Reg.rcbProdProd n) v).get g = s.get g :=
    State.get_set_apart _ _ _ _ rfl (rcbProd_apart n g h)
  have hcons := hother (Reg.rcbConsCons n) (by simp only [Reg.rcbConsCons]; omega)
  have hcount := hother (Reg.rcbModCount n) (by simp only [Reg.rcbModCount]; omega)
  refine ⟨?_, ?_, memKept_of_mem hmem, fun a ha => ?_, ?_⟩
  · rw [State.get_congr _ _ hregs, get_set_rcbProd s hv]
  · rw [State.get_congr _ _ hregs, hcons]
  · rw [State.reg_congr _ _ hregs, State.reg_set_other _ _ _ _ ha]
  · rw [hsent, countInterrupts, ringHeld, hcount, hcons, get_set_rcbProd s hv]
    rfl

/-! ### CONS writes (R75-R77) -/

/-- The descriptors that CONS passes leave memory, and every field but BAD_DESC of the ring, RING_FAULT and their counters. -/
theorem passDescriptors_keeps (n count : Nat) (s : State) :
    (passDescriptors n count s).mem = s.mem ∧ ∀ g : Fld, (Ev.rcbBadDesc n).apart g = true → 0x21000 ≤ g.addr →
      (passDescriptors n count s).get g = s.get g := by
  unfold passDescriptors
  split
  · exact ⟨rfl, fun _ _ _ => rfl⟩
  · dsimp only
    generalize s.get (Reg.rcbConsCons n) = c
    induction List.range count generalizing s with
    | nil => exact ⟨rfl, fun _ _ _ => rfl⟩
    | cons x l ih =>
      rw [List.foldl_cons]
      split
      · exact ih s
      · obtain ⟨hmem, hget⟩ := ih (ringFault (Ev.rcbBadDesc n) s)
        exact ⟨hmem.trans (ringFault_mem _ s), fun g he hg => (hget g he hg).trans (get_ringFault_apart s he hg)⟩

theorem rcbBadDesc_apart (n : Nat) (g : Fld) (h : g.addr ≠ 0x2101C + 32 * n) : (Ev.rcbBadDesc n).apart g = true :=
  Ev.apart_of_addr rfl rfl rfl h

/-- One descriptor that fails its form sets BAD_DESC and RING_FAULT. -/
theorem passDescriptors_bad {n : Nat} {s : State} (hn : 64 ≤ n)
    (hbad : descriptorOk (s.bytes (ringEntry s n (s.get (Reg.rcbConsCons n))) 64) = false) :
    passDescriptors n 1 s = ringFault (Ev.rcbBadDesc n) s := by
  simp [passDescriptors, Nat.not_lt.mpr hn, List.range_one, hbad]

/-- What a write of CONS leaves. -/
theorem writeCons_spec {n v : Nat} (s : State) (hv : v < 65536) :
    let t := writeCons n v s
    t.get (Reg.rcbConsCons n) = v ∧ t.get (Reg.rcbProdProd n) = s.get (Reg.rcbProdProd n) ∧ memKept s t ∧
    (n < 64 → ∀ a, a ≠ (Reg.rcbConsCons n).addr → t.reg a = s.reg a) ∧
    (64 ≤ n → v = (s.get (Reg.rcbConsCons n) + 1) % 65536 → ringHeld s n ≠ 0 →
      descriptorOk (s.bytes (ringEntry s n (s.get (Reg.rcbConsCons n))) 64) = false →
      t.on (Ev.rcbBadDesc n).flag = true ∧ t.on Reg.mbxEventRingFault = true) := by
  unfold writeCons
  extract_lets step t
  have hcons : s.get (Reg.rcbConsCons n) < 65536 := State.get_lt s _
  obtain ⟨hregs, hmem, -⟩ := ringCount_spec n 0
    ((passDescriptors n (min step (ringHeld s n)) s).set (Reg.rcbConsCons n) v)
  obtain ⟨hpassed, hkept⟩ := passDescriptors_keeps n (min step (ringHeld s n)) s
  have hother (g : Fld) (h : g.addr ≠ 0x21010 + 32 * n) :
      t.get g = (passDescriptors n (min step (ringHeld s n)) s).get g := by
    rw [State.get_congr _ _ hregs, State.get_set_apart _ _ _ _ rfl (Fld.apart_of_addr (Ne.symm h))]
  refine ⟨?_, ?_, memKept_of_mem (hmem.trans hpassed), fun hn a ha => ?_, fun hn hnext hheld hbad => ?_⟩
  · rw [State.get_congr _ _ hregs, get_set_rcbCons _ hv]
  · rw [hother _ (by simp only [Reg.rcbProdProd]; omega),
      hkept _ (rcbBadDesc_apart n _ (rcbProd_ne_rcbEvent n)) (rcbProd_above n)]
  · rw [State.reg_congr _ _ hregs, State.reg_set_other _ _ _ _ ha, passDescriptors, if_pos hn]
  · have hone : min step (ringHeld s n) = 1 := by omega
    obtain ⟨hflag, hfault⟩ := on_ringFault s (Ev.rcbBadDesc_ok n) (rcbEvent_above n)
    rw [hone, passDescriptors_bad hn hbad] at hother
    constructor
    · rw [State.on_congr (hother _ (by simp only [Ev.rcbBadDesc, Reg.rcbEventBadDesc]; omega)), hflag]
    · rw [State.on_congr (hother _ (by simp only [Reg.mbxEventRingFault]; omega)), hfault]

/-! ### The interrupt timer (R77) -/

theorem exec_ringInterruptTimer_idle {n : Nat} {s : State} (h : s.get (Reg.rcbModTimeUs n) = 0 ∨ ringHeld s n = 0 ∨
      ∃ a, s.mbx.interruptAt.find? (fun p => p.1 == n) = some (n, a) ∧ s.mono < a + 1000 * s.get (Reg.rcbModTimeUs n)) :
    exec (.ringInterruptTimer n) s = .next s := by
  change execRingInterruptTimer n s = _
  refine congrArg _ (if_neg ?_)
  rintro ⟨-, htime, hheld, hrestarted⟩
  obtain h | h | ⟨a, hlast, hearly⟩ := h
  · exact htime h
  · exact hheld h
  · simp only [timeRestarted, hlast, decide_eq_true_eq] at hrestarted
    omega

theorem leads_ringInterruptTimer {n : Nat} {s : State} (hn : n < 256) (htime : s.get (Reg.rcbModTimeUs n) ≠ 0)
    (hheld : ringHeld s n ≠ 0)
    (hlast : ∀ a, s.mbx.interruptAt.find? (fun p => p.1 == n) = some (n, a) →
      a + 1000 * s.get (Reg.rcbModTimeUs n) ≤ s.mono) :
    leads (.ringInterruptTimer n) s (fun t => t.outbox = s.outbox ++ [.ringInterrupt n] ∧ t.regs = s.regs ∧
      memKept s t ∧ t.mbx.interruptAt.find? (fun p => p.1 == n) = some (n, s.mono)) := by
  have hrestarted : timeRestarted n s = true := by
    unfold timeRestarted
    split
    next p hp =>
      have hring : p.1 = n := by simpa using List.find?_some hp
      exact decide_eq_true (hlast p.2 (by rw [hp, ← hring]))
    next => rfl
  exact ⟨ringInterrupt n s, congrArg _ (if_pos ⟨hn, htime, hheld, hrestarted⟩), rfl, rfl, memKept_of_mem rfl,
    by simp [ringInterrupt]⟩

end Sys2Proof.Machine
end

section
/-! SUPPORT. What debug taint (01 R22, 13 R405, R406) and a violation report (15 R441) leave: memory and the registers of the
ring blocks (03 R110). `State.OffRings s t` says so of a state `t` that comes from `s`; one lemma per function of the model
gives it, and its proof follows the function's definition. -/

namespace Sys2Proof.Machine

/-- The field lies outside the ring blocks. -/
def Fld.offRings (f : Fld) : Bool := decide (f.addr < 0x21000) || decide (0x23000 ≤ f.addr)

/-- Neither the flag nor its counter lies in the ring blocks. -/
def Ev.offRings (e : Ev) : Bool := e.flag.offRings && e.cnt.all Fld.offRings

/-- The registers of an indexed block lie behind the ring blocks where the block's first does. -/
theorem offRings_above {a : Nat} (k hi lo : Nat) (h : 0x23000 ≤ a) : Fld.offRings ⟨a + k, hi, lo⟩ = true := by
  simp only [Fld.offRings, Bool.or_eq_true, decide_eq_true_eq]
  omega

/-- `t` comes from `s` without a write to memory or to a ring block. -/
structure State.OffRings (s t : State) : Prop where
  mem : t.mem = s.mem
  reg : ∀ a, 0x21000 ≤ a → a < 0x23000 → t.reg a = s.reg a

namespace State.OffRings

variable {s t : State}

protected theorem refl (s : State) : s.OffRings s := ⟨rfl, fun _ _ _ => rfl⟩

protected theorem ite {c : Prop} [Decidable c] {u : State} (ht : s.OffRings t) (hu : s.OffRings u) :
    s.OffRings (if c then t else u) := by
  split <;> assumption

protected theorem foldl {α : Type} {f : State → α → State} {l : List α} (h : s.OffRings t)
    (hf : ∀ t, ∀ x ∈ l, s.OffRings t → s.OffRings (f t x)) : s.OffRings (l.foldl f t) := by
  induction l generalizing t with
  | nil => exact h
  | cons x r ih => exact ih (hf t x (by simp) h) fun t y hy => hf t y (by simp [hy])

protected theorem upd (h : s.OffRings t) {mono freeCtr outbox time mbx pair hhk nvs memi gate fio can cfg ast lsp net prog
    sec pwr bkd pending} :
    s.OffRings (State.mk t.regs t.mem mono freeCtr outbox time mbx pair hhk nvs memi gate fio can cfg ast lsp net prog sec
      pwr bkd pending) :=
  ⟨h.mem, h.reg⟩

protected theorem set (h : s.OffRings t) {f : Fld} {v : Nat} (hf : f.offRings = true) : s.OffRings (t.set f v) := by
  simp only [Fld.offRings, Bool.or_eq_true, decide_eq_true_eq] at hf
  exact ⟨h.mem, fun a hlo hhi => (State.reg_set_other t f v a (by omega)).trans (h.reg a hlo hhi)⟩

protected theorem setBit (h : s.OffRings t) {f : Fld} {b : Bool} (hf : f.offRings = true) : s.OffRings (t.setBit f b) :=
  h.set hf

/-- A write to a field of an indexed block behind the ring blocks. -/
protected theorem setAbove (h : s.OffRings t) {a k hi lo v : Nat} (ha : 0x23000 ≤ a := by decide) :
    s.OffRings (t.set ⟨a + k, hi, lo⟩ v) := h.set (offRings_above k hi lo ha)

protected theorem raise (h : s.OffRings t) {e : Ev} (he : e.offRings = true) : s.OffRings (t.raise e) := by
  simp only [Ev.offRings, Bool.and_eq_true] at he
  obtain ⟨hflag, hcnt⟩ := he
  obtain ⟨m, o, hraise⟩ := State.raise_frame t e
  rw [hraise, flagged]
  cases hc : e.cnt with
  | none => exact (h.set hflag).upd
  | some c =>
    rw [hc] at hcnt
    exact ((h.set hflag).set hcnt).upd

/-! ### Hollyhock messages (12) -/

protected theorem sendBy (h : s.OffRings t) {ways kind seg data} : s.OffRings (sendBy ways kind seg data t) := h.upd

protected theorem toPeers (h : s.OffRings t) {kind data} : s.OffRings (toPeers kind data t) := by
  unfold Machine.toPeers sendNumbered
  exact .ite h.sendBy.upd h.sendBy

/-! ### Output stages, CAN and network frames (06, 08, 09, 10) -/

protected theorem showStages (h : s.OffRings t) : s.OffRings (showStages t) := by
  unfold Machine.showStages
  exact .foldl (((h.setBit (by decide)).setBit (by decide)).set (by decide)) fun _ _ _ h =>
    .ite h.setAbove h.setAbove.upd.setAbove

protected theorem setDrive (h : s.OffRings t) {d} : s.OffRings (setDrive d t) := by
  unfold Machine.setDrive
  exact .showStages h.upd

protected theorem canFail (h : s.OffRings t) {c o reason bitPos time esi} :
    s.OffRings (canFail c o reason bitPos time esi t) := by
  unfold Machine.canFail canLog
  refine .raise (.setAbove (.upd (.upd h))) ?_
  unfold evTxFail
  split <;> decide

protected theorem canRestrict (h : s.OffRings t) : s.OffRings (canRestrict t) := by
  unfold Machine.canRestrict canFailPending
  exact .setBit (.setBit (h.foldl fun _ _ _ h => h.foldl fun _ _ _ h => .ite h.canFail h) (by decide)) (by decide)

protected theorem clearSending (h : s.OffRings t) : s.OffRings (clearSending t) := by
  unfold Machine.clearSending
  exact .foldl (h.foldl fun _ _ _ h => h.setAbove) fun _ _ _ h => .ite h.setAbove h

protected theorem portTx (h : s.OffRings t) {n kind d} : s.OffRings (portTx n kind d t) := by
  unfold Machine.portTx
  exact .ite h.upd h

protected theorem netTx (h : s.OffRings t) {n kind d} : s.OffRings (netTx n kind d t) := by
  unfold Machine.netTx
  exact .ite (.portTx (.portTx h.upd)) h.portTx

protected theorem closeClients (h : s.OffRings t) : s.OffRings (closeClients t) := by
  unfold Machine.closeClients
  exact h.foldl fun _ _ _ h => .ite h
    (.netTx h.setAbove.setAbove)

protected theorem gatesClose (h : s.OffRings t) {d} : s.OffRings (gatesClose d t) := by
  unfold Machine.gatesClose
  exact (h.setDrive.setBit (by decide)).canRestrict.clearSending.upd

/-! ### Roles and ownership (11) -/

protected theorem showPublishing (h : s.OffRings t) : s.OffRings (showPublishing t) := by
  unfold Machine.showPublishing
  exact h.setBit (by decide)

protected theorem stopSingletons (h : s.OffRings t) : s.OffRings (stopSingletons t) := by
  unfold Machine.stopSingletons
  exact .showPublishing (h.foldl fun _ _ _ h => h.setAbove)

protected theorem resumeSingletons (h : s.OffRings t) : s.OffRings (resumeSingletons t) := by
  unfold Machine.resumeSingletons
  exact .showPublishing (.upd (h.foldl fun _ _ _ h => .ite h.setAbove h))

protected theorem cancelHandover (h : s.OffRings t) : s.OffRings (cancelHandover t) := by
  unfold Machine.cancelHandover
  exact .resumeSingletons h.upd

protected theorem disarm (h : s.OffRings t) : s.OffRings (disarm t) := by
  unfold Machine.disarm
  exact .setBit h.upd (by decide)

protected theorem releaseOwn (h : s.OffRings t) {d} : s.OffRings (releaseOwn d t) := by
  unfold Machine.releaseOwn ownRises
  exact .ite (.stopSingletons (.closeClients (.gatesClose (.setBit (.setBit (.upd (h.disarm.setBit (by decide)))
    (by decide)) (by decide))))) h.disarm

protected theorem setRole (h : s.OffRings t) {r} : s.OffRings (setRole r t) := by
  unfold Machine.setRole
  exact .ite h ((h.set (by decide)).raise (by decide))

protected theorem followRole (h : s.OffRings t) : s.OffRings (followRole t) := by
  unfold Machine.followRole
  exact .ite h h.setDrive

protected theorem enterRole (h : s.OffRings t) {r} : s.OffRings (enterRole r t) := by
  unfold Machine.enterRole reviewPairOk
  exact .followRole h.setRole.upd

protected theorem reviewOwner (h : s.OffRings t) : s.OffRings (reviewOwner t) := by
  unfold Machine.reviewOwner followPeers
  have hrole : s.OffRings (if t.role = rolePrimary && !goodStandby t then Machine.setRole roleAlone t else t) :=
    .ite h.setRole h
  exact .ite hrole.followRole hrole

/-! ### Debug taint and violation reports -/

protected theorem taintRole (h : s.OffRings t) : s.OffRings (taintRole t) := by
  unfold Machine.taintRole recordOwn countMove
  exact .ite h (.ite (.ite (.enterRole (.cancelHandover (.upd (.upd (h.toPeers.releaseOwn))))) h.reviewOwner) h.disarm)

protected theorem refreshLck (h : s.OffRings t) : s.OffRings (refreshLck t) := by
  unfold Machine.refreshLck
  exact (((((h.setBit (by decide)).setBit (by decide)).setBit (by decide)).setBit (by decide)).set (by decide)).setBit
    (by decide)

protected theorem setTaint (h : s.OffRings t) : s.OffRings (setTaint t) := by
  unfold Machine.setTaint
  exact .ite h ((h.setBit (by decide)).raise (by decide)).taintRole.refreshLck

protected theorem showFifo (h : s.OffRings t) {g} : s.OffRings (showFifo g t) := by
  unfold Machine.showFifo
  exact (h.setAbove.set (by decide)).setAbove.setAbove.setAbove.setAbove.setAbove.setAbove.setAbove.setAbove.setAbove
    |>.setAbove.setAbove.setAbove.setAbove.setAbove

protected theorem violation (h : s.OffRings t) {g w addr region size burst cause} :
    s.OffRings (violation g w addr region size burst cause t) := by
  unfold Machine.violation
  exact .raise (.ite (h.setAbove.raise (by decide))
    (.ite (.raise (.showFifo h.upd) (by decide)) (.showFifo h.upd))) (by decide)

/-- A field of the ring blocks reads as before. -/
protected theorem get (h : s.OffRings t) {f : Fld} (hlo : 0x21000 ≤ f.addr) (hhi : f.addr < 0x23000) :
    t.get f = s.get f := by
  rw [State.get, State.get, h.reg f.addr hlo hhi]

end State.OffRings

/-! ### Doorbells by master (01 R20, R34, R22) -/

/-- No ring serves the debug port. -/
theorem ringServes_debug (s : State) {n : Nat} (hn : n < 256) : ringServes s n masterDebug = false := by
  have hpe : ringPe s n < 0x20 := by
    unfold ringPe
    split <;> omega
  unfold ringServes masterDebug
  split_ifs <;> simp <;> omega

theorem exec_rcbDoorbellWrite_absent {n v m : Nat} {s : State} (h : issues s m = false) :
    exec (.rcbDoorbellWrite m n v) s = .next s := by
  change execRcbDoorbellWrite m n v s = _
  simp [execRcbDoorbellWrite, asMaster, h]

theorem exec_rcbDoorbellWrite_served {n v m : Nat} {s : State} (hn : n < 256) (hserves : ringServes s n m = true)
    (hissues : issues s m = true) : exec (.rcbDoorbellWrite m n v) s = .next (doorbell n v s) := by
  have hdebug : m ≠ masterDebug := by
    rintro rfl
    simp [ringServes_debug s hn] at hserves
  change execRcbDoorbellWrite m n v s = _
  simp [execRcbDoorbellWrite, asMaster, writeDoorbell, hissues, hdebug, hserves, Nat.not_le.mpr hn]

theorem rcbProd_below {n : Nat} (hn : n < 256) : (Reg.rcbProdProd n).addr < 0x23000 := by
  simp only [Reg.rcbProdProd]
  omega

theorem rcbEvent_below {n : Nat} (hn : n < 256) : (Reg.rcbEventOverflow n).addr < 0x23000 := by
  simp only [Reg.rcbEventOverflow]
  omega

theorem on_violation (g : Nat) (w : Who) (addr region size burst cause : Nat) (s : State) :
    (violation g w addr region size burst cause s).on Reg.gateEventViolation = true := by
  unfold violation
  exact State.on_raise_flag _ Ev.gateViolation (by decide)

/-- A doorbell of a master that its ring does not serve is rejected and reported by gate 5 (R34). -/
theorem writeDoorbell_rejected {n v m : Nat} {s : State} (hn : n < 256) (hserves : ringServes s n m = false) :
    let t := writeDoorbell m n v s
    t.get (Reg.rcbProdProd n) = s.get (Reg.rcbProdProd n) ∧ t.on (Ev.rcbReject n).flag = true ∧
    t.on Reg.gateEventViolation = true ∧ t.mem = s.mem := by
  rw [writeDoorbell, if_neg (Nat.not_le.mpr hn), if_neg (by simp [hserves])]
  extract_lets u w
  have hreported : u.OffRings (violation 5 w (windowBase + (Reg.rcbDoorbellNewProd n).addr) 0xFF 2 1 causeRing u) :=
    (State.OffRings.refl u).violation
  obtain ⟨hflag, -⟩ := on_ringFault s (Ev.rcbReject_ok n) (rcbEvent_above n)
  refine ⟨?_, ?_, on_violation .., hreported.mem.trans (ringFault_mem _ s)⟩
  · rw [hreported.get (rcbProd_above n) (rcbProd_below hn)]
    exact get_ringFault_apart s (Ev.apart_of_addr rfl rfl rfl (rcbProd_ne_rcbEvent n)) (rcbProd_above n)
  · exact (State.on_congr (hreported.get (f := (Ev.rcbReject n).flag) (rcbEvent_above n) (rcbEvent_below hn))).trans hflag

/-- A rejected doorbell of the debug port is rejected after taint (01 R22). -/
theorem leads_rcbDoorbellWrite_rejected {n v m : Nat} {s : State} (hn : n < 256) (hserves : ringServes s n m = false)
    (hissues : issues s m = true) : leads (.rcbDoorbellWrite m n v) s (fun t =>
      t.get (Reg.rcbProdProd n) = s.get (Reg.rcbProdProd n) ∧ t.on (Ev.rcbReject n).flag = true ∧
      t.on Reg.gateEventViolation = true ∧ memKept s t) := by
  let u := if m = masterDebug then setTaint s else s
  have htainted : s.OffRings u := .ite (State.OffRings.refl s).setTaint (.refl s)
  have hrefused : ringServes u n m = false := by
    by_cases hm : m = masterDebug
    · rw [hm, ringServes_debug _ hn]
    · simpa [u, hm] using hserves
  have hexec : exec (.rcbDoorbellWrite m n v) s = .next (writeDoorbell m n v u) := by
    change execRcbDoorbellWrite m n v s = _
    rw [execRcbDoorbellWrite, asMaster, if_pos hissues]
  obtain ⟨hprod, hflag, hviolation, hmem⟩ := writeDoorbell_rejected (v := v) hn hrefused
  exact ⟨_, hexec, hprod.trans (htainted.get (rcbProd_above n) (rcbProd_below hn)), hflag, hviolation,
    memKept_of_mem (hmem.trans htainted.mem)⟩

/-- A doorbell beyond its ring's room (R75). -/
theorem ringFault_overflow_spec (n : Nat) (s : State) : let t := ringFault (Ev.rcbOverflow n) s
    t.get (Reg.rcbProdProd n) = s.get (Reg.rcbProdProd n) ∧ t.on (Ev.rcbOverflow n).flag = true ∧
    t.on Reg.mbxEventRingFault = true ∧ memKept s t := by
  obtain ⟨hflag, hfault⟩ := on_ringFault s (Ev.rcbOverflow_ok n) (rcbEvent_above n)
  exact ⟨get_ringFault_apart s (Ev.apart_of_addr rfl rfl rfl (rcbProd_ne_rcbEvent n)) (rcbProd_above n), hflag, hfault,
    memKept_of_mem (ringFault_mem _ s)⟩

/-- Settles O23: doorbells by the master and by the ring's room, CONS writes, and the timer. -/
theorem ringControl : Obligations.RingControl := by
  unfold Obligations.RingControl
  intro n v m s hn hv
  refine ⟨exec_rcbDoorbellWrite_absent, fun hserves hissues => ⟨fun hone hstep hheld => ?_, fun hover => ?_⟩,
    leads_rcbDoorbellWrite_rejected hn, ?_, exec_ringInterruptTimer_idle, leads_ringInterruptTimer hn⟩
  · refine ⟨_, exec_rcbDoorbellWrite_served hn hserves hissues, ?_⟩
    rw [doorbell_accepted hv ⟨hone, hstep, hheld⟩]
    exact ringCount_prod_spec s hv
  · refine ⟨_, exec_rcbDoorbellWrite_served hn hserves hissues, ?_⟩
    rw [doorbell_overflow hv hover]
    exact ringFault_overflow_spec n s
  · exact ⟨writeCons n v s, congrArg _ (if_pos hn), writeCons_spec s hv⟩

end Sys2Proof.Machine
end

section
/-! SUPPORT. What the sessions keep while messages pass (03 R74-R77, R85, R103) and when one of them closes (R91). -/

namespace Sys2Proof.Machine

/-! ### The hidden part of a session -/

theorem listSet_eq_modify {α : Type} (l : List α) (i : Nat) (f : α → α) : listSet l i f = l.modify i f := by
  induction l generalizing i with
  | nil => cases i <;> rfl
  | cons x r ih =>
    cases i with
    | zero => rfl
    | succ i => rw [listSet, ih, List.modify_succ_cons]

theorem State.sess_updSess_same (s : State) {i : Nat} (f : Session → Session) (h : i < s.mbx.sessions.length) :
    (s.updSess i f).sess i = f (s.sess i) := by
  simp [State.sess, State.updSess, listSet_eq_modify, List.getD_eq_getElem?_getD, h]

theorem State.sess_updSess_other (s : State) {i j : Nat} (f : Session → Session) (h : j ≠ i) :
    (s.updSess i f).sess j = s.sess j := by
  simp [State.sess, State.updSess, listSet_eq_modify, List.getD_eq_getElem?_getD, Ne.symm h]

theorem listSet_map {α β : Type} {g : α → β} {f : α → α} (h : ∀ x, g (f x) = g x) (l : List α) (i : Nat) :
    (listSet l i f).map g = l.map g := by
  induction l generalizing i with
  | nil => cases i <;> rfl
  | cons x r ih => cases i <;> simp [listSet, h, ih]

/-! ### Messages that pass -/

/-- `t` comes from `s` by sending: every session has its segments in reception, the sources refused are the same, and what
was sent before stands. -/
structure State.Sending (s t : State) : Prop where
  segs : t.mbx.sessions.map (·.segs) = s.mbx.sessions.map (·.segs)
  lockout : t.mbx.lockout = s.mbx.lockout
  sent : s.outbox <+: t.outbox

namespace State.Sending

variable {s t : State}

protected theorem refl (s : State) : s.Sending s := ⟨rfl, rfl, List.prefix_rfl⟩

protected theorem trans {u : State} (h : s.Sending t) (h' : t.Sending u) : s.Sending u :=
  ⟨h'.segs.trans h.segs, h'.lockout.trans h.lockout, h.sent.trans h'.sent⟩

protected theorem ite {c : Prop} [Decidable c] {u : State} (ht : s.Sending t) (hu : s.Sending u) :
    s.Sending (if c then t else u) := by
  split <;> assumption

protected theorem foldl {α : Type} {f : State → α → State} {l : List α} (h : s.Sending t)
    (hf : ∀ t x, s.Sending t → s.Sending (f t x)) : s.Sending (l.foldl f t) := by
  induction l generalizing t with
  | nil => exact h
  | cons x r ih => exact ih (hf t x h)

/-- What leaves the mailbox and what is sent as they are. -/
protected theorem upd (h : s.Sending t) {regs mem mono freeCtr time pair hhk nvs memi gate fio can cfg ast lsp net prog
    sec pwr bkd pending} :
    s.Sending (State.mk regs mem mono freeCtr t.outbox time t.mbx pair hhk nvs memi gate fio can cfg ast lsp net prog sec
      pwr bkd pending) :=
  ⟨h.segs, h.lockout, h.sent⟩

protected theorem set (h : s.Sending t) {f : Fld} {v : Nat} : s.Sending (t.set f v) := h.upd

protected theorem send (h : s.Sending t) {m : OutMsg} : s.Sending (t.send m) :=
  ⟨h.segs, h.lockout, h.sent.trans (List.prefix_append _ _)⟩

protected theorem notifyOne (h : s.Sending t) {b a i : Nat} : s.Sending (notifyOne b a t i) := by
  unfold Machine.notifyOne
  split
  · exact h
  · split
    · exact h
    · split
      · refine ⟨?_, h.lockout, h.sent⟩
        rw [← h.segs]
        exact listSet_map (by intro _; rfl) _ _
      · refine ⟨?_, h.lockout, h.sent.trans (List.prefix_append _ _)⟩
        rw [← h.segs]
        exact listSet_map (by intro _; rfl) _ _

protected theorem raise (h : s.Sending t) {e : Ev} : s.Sending (t.raise e) := by
  rw [State.raise_eq]
  refine .foldl ?_ fun _ _ h => h.notifyOne
  unfold flagged
  split
  · exact h.upd
  · exact h.upd

protected theorem ringFault (h : s.Sending t) {e : Ev} : s.Sending (ringFault e t) := h.raise.raise

protected theorem ringInterrupt (h : s.Sending t) {n : Nat} : s.Sending (ringInterrupt n t) :=
  ⟨h.segs, h.lockout, h.send.sent⟩

protected theorem ringCount (h : s.Sending t) {n new : Nat} : s.Sending (ringCount n new t) := by
  unfold Machine.ringCount
  exact .ite (h.foldl fun _ _ h => h.ringInterrupt) (.ite h.ringInterrupt h)

protected theorem doorbell (h : s.Sending t) {n v : Nat} : s.Sending (doorbell n v t) := by
  unfold Machine.doorbell
  exact .ite h.set.ringCount h.ringFault

protected theorem passDescriptors (h : s.Sending t) {n count : Nat} : s.Sending (passDescriptors n count t) := by
  unfold Machine.passDescriptors
  exact .ite h (h.foldl fun _ _ h => .ite h h.ringFault)

protected theorem writeCons (h : s.Sending t) {n v : Nat} : s.Sending (writeCons n v t) := by
  unfold Machine.writeCons
  exact .ringCount (.set h.passDescriptors)

protected theorem setBytes (h : s.Sending t) {a : Nat} {bs : List Byte} : s.Sending (t.setBytes a bs) := by
  rw [State.setBytes_frame]
  exact h.upd

protected theorem throughRing (h : s.Sending t) {n : Nat} {d : List Byte} : s.Sending (throughRing n d t) := by
  unfold Machine.throughRing
  exact .ite h (.ite h.doorbell h.setBytes.doorbell.writeCons)

protected theorem carry (h : s.Sending t) {n fam cmd seq flags status : Nat} {parts : List (List Byte)} :
    s.Sending (carry n fam cmd seq flags status parts t) := by
  unfold Machine.carry
  exact .ite h (h.foldl fun _ _ h => .throughRing h.upd)

protected theorem carryRequest (h : s.Sending t) {i fam cmd : Nat} {r : Req} :
    s.Sending (carryRequest i fam cmd r t) := by
  unfold Machine.carryRequest
  exact .ite h.carry h

protected theorem carryAnswer (h : s.Sending t) {m : OutMsg} : s.Sending (carryAnswer m t) := by
  unfold Machine.carryAnswer
  extract_lets +onlyGivenNames by'
  split
  exacts [.ite h.carry h, .ite h.carry h, h]

protected theorem respond (h : s.Sending t) {i q fam cmd st : Nat} {p : List Byte} :
    s.Sending (respond i q fam cmd st p t) := h.carryAnswer.send

/-- The segments of a session in reception. -/
theorem segs_sess (h : s.Sending t) (i : Nat) : (t.sess i).segs = (s.sess i).segs := by
  have hmap (u : State) : (u.sess i).segs = (u.mbx.sessions.map (·.segs)).getD i [] := by
    simp only [State.sess, List.getD_eq_getElem?_getD, List.getElem?_map]
    cases u.mbx.sessions[i]? <;> rfl
  rw [hmap, hmap, h.segs]

theorem sessions_length (h : s.Sending t) : t.mbx.sessions.length = s.mbx.sessions.length := by
  simpa using congrArg List.length h.segs

theorem mem_outbox (h : s.Sending t) {m : OutMsg} (hm : m ∈ s.outbox) : m ∈ t.outbox := h.sent.subset hm

end State.Sending

theorem mem_outbox_respond (s : State) (i q fam cmd st : Nat) (p : List Byte) :
    .response i q fam cmd st false p ∈ (respond i q fam cmd st p s).outbox :=
  List.mem_append_right _ (List.mem_singleton_self _)

/-! ### The registers of the sessions (R109) -/

theorem mbxSess_addr_inj {i j : Nat} (h : j ≠ i) : (Reg.mbxSessOpen j).addr ≠ (Reg.mbxSessOpen i).addr := by
  simp only [Reg.mbxSessOpen]
  omega

/-- MBX_STATUS alone counts the sessions. -/
theorem get_showSessions (s : State) (g : Fld) (h : g.addr ≠ 0x20004) : (showSessions s).get g = s.get g := by
  unfold showSessions
  extract_lets n m
  rw [State.get_set_apart _ _ _ _ (by decide) (Fld.apart_of_addr (Ne.symm h)),
    State.get_set_apart _ _ _ _ (by decide) (Fld.apart_of_addr (Ne.symm h))]

/-! ### Closing (R91) -/

/-- What cancelling leaves of the mailbox, of what was sent, of memory and of the registers but one. -/
theorem cancelEffect_frame (i : Nat) (o : Outst) (s : State) :
    (cancelEffect i o s).mbx = s.mbx ∧ (cancelEffect i o s).outbox = s.outbox ∧ (cancelEffect i o s).mem = s.mem ∧
    ∀ a, a ≠ Reg.lspStatusCalibrating.addr → (cancelEffect i o s).reg a = s.reg a := by
  unfold cancelEffect
  split
  · exact ⟨rfl, rfl, rfl, fun _ _ => rfl⟩
  · split
    · exact ⟨rfl, rfl, rfl, fun _ ha => State.reg_set_other _ _ _ _ ha⟩
    · exact ⟨rfl, rfl, rfl, fun _ _ => rfl⟩

theorem foldl_cancelEffect_frame (i : Nat) (l : List Outst) (s : State) :
    let t := l.foldl (fun s o => cancelEffect i o s) s
    t.mbx = s.mbx ∧ t.outbox = s.outbox ∧ t.mem = s.mem ∧
    ∀ a, a ≠ Reg.lspStatusCalibrating.addr → t.reg a = s.reg a := by
  induction l generalizing s with
  | nil => exact ⟨rfl, rfl, rfl, fun _ _ => rfl⟩
  | cons o l ih =>
    obtain ⟨hmbx, hsent, hmem, hreg⟩ := ih (cancelEffect i o s)
    obtain ⟨hmbx', hsent', hmem', hreg'⟩ := cancelEffect_frame i o s
    exact ⟨hmbx.trans hmbx', hsent.trans hsent', hmem.trans hmem', fun a ha => (hreg a ha).trans (hreg' a ha)⟩

/-- A session that closes leaves its index free, every other session as it was, and what was sent and memory too. -/
theorem closeSession_spec {i : Nat} (s : State) (hi : i < 16) (hlen : i < s.mbx.sessions.length) :
    let t := closeSession i s
    t.on (Reg.mbxSessOpen i) = false ∧ t.sess i = {} ∧ t.outbox = s.outbox ∧ t.mem = s.mem ∧
    ∀ j, j < 16 → j ≠ i → t.on (Reg.mbxSessOpen j) = s.on (Reg.mbxSessOpen j) ∧ t.sess j = s.sess j := by
  obtain ⟨hmbx, hsent, hmem, hreg⟩ := foldl_cancelEffect_frame i ((s.sess i).out.filter outIsD) s
  unfold closeSession
  extract_lets s1 prog sec s2 s3 t
  have hmbx2 : s2.mbx = s.mbx := hmbx
  have hopen (j : Nat) (hj : j < 16) :
      t.get (Reg.mbxSessOpen j) = (s3.setReg (Reg.mbxSessOpen i).addr 0#32).get (Reg.mbxSessOpen j) :=
    get_showSessions _ _ (by simp only [Reg.mbxSessOpen]; omega)
  refine ⟨?_, ?_, hsent, hmem, fun j hj hji => ⟨?_, ?_⟩⟩
  · rw [State.on, hopen i hi, State.get, State.reg_setReg_same]
    exact (by decide : (fieldOf 0#32 31 31 == 1) = false)
  · exact State.sess_updSess_same s2 (fun _ => {}) (by rw [hmbx2]; exact hlen)
  · refine State.on_congr ?_
    rw [hopen j hj, State.get, State.reg_setReg_other _ _ _ _ (mbxSess_addr_inj hji)]
    exact congrArg (fieldOf · 31 31) (hreg _ (by simp only [Reg.mbxSessOpen, Reg.lspStatusCalibrating]; omega))
  · have hother : t.sess j = s2.sess j := State.sess_updSess_other s2 (fun _ => {}) hji
    rw [hother, State.sess, State.sess, hmbx2]

end Sys2Proof.Machine
end

section
/-! SUPPORT. The IDENT and SESSION families (03 R101, R102): the records at their offsets, and what each command changes. -/

namespace Sys2Proof.Machine

/-! ### Records in a row -/

theorem leAt_add_offset (l : List Byte) (k off n : Nat) : leAt l (k + off) n = leAt (l.drop k) off n := by
  rw [leAt, leAt, List.drop_drop]

/-- What lies within the first of two lists is read there. -/
theorem leAt_append_of_le {l : List Byte} (r : List Byte) {off n : Nat} (h : off + n ≤ l.length) :
    leAt (l ++ r) off n = leAt l off n := by
  rw [leAt, leAt, List.drop_append_of_le_length (by omega), List.take_append_of_le_length (by simp; omega)]

/-- The offset `off` of the record at position `j`, where each record has `k` bytes. -/
theorem leAt_flatMap {α : Type} {f : α → List Byte} {k : Nat} (hk : ∀ x, (f x).length = k) {l : List α} {j : Nat} {x : α}
    (hj : l[j]? = some x) {off n : Nat} (h : off + n ≤ k) : leAt (l.flatMap f) (k * j + off) n = leAt (f x) off n := by
  induction l generalizing j with
  | nil => simp at hj
  | cons y l ih =>
    rw [List.flatMap_cons]
    cases j with
    | zero =>
      obtain rfl : y = x := by simpa using hj
      rw [Nat.mul_zero, Nat.zero_add, leAt_append_of_le _ (by rw [hk]; exact h)]
    | succ j =>
      rw [show k * (j + 1) + off = k + (k * j + off) by ring, leAt_add_offset, List.drop_append_of_le_length (by rw [hk]),
        List.drop_eq_nil_of_le (by rw [hk]), List.nil_append]
      exact ih (by simpa using hj)

theorem leNat_take_add (l : List Byte) (m n : Nat) :
    leNat (l.take (m + n)) = leNat (l.take m) + 256 ^ m * leNat ((l.drop m).take n) := by
  induction m generalizing l with
  | zero => simp [leNat]
  | succ m ih =>
    cases l with
    | nil => simp [leNat]
    | cons b l =>
      rw [Nat.succ_add, List.take_succ_cons, List.take_succ_cons, List.drop_succ_cons, leNat, leNat, ih, Nat.pow_succ']
      ring

/-- Bytes that are 0 together are 0 one by one. -/
theorem resv_ok {b : List Byte} {off : Nat} (n : Nat) (h : leAt b off n = 0) : ∀ p ∈ resv b off n, p.2 = true := by
  intro p hp
  obtain ⟨k, hk, rfl⟩ := List.mem_map.mp hp
  have hk : k < n := List.mem_range.mp hk
  have hsplit := leNat_take_add (b.drop off) k (1 + (n - k - 1))
  rw [show k + (1 + (n - k - 1)) = n by omega, leNat_take_add, List.drop_drop, List.drop_drop] at hsplit
  have hzero : leNat ((b.drop off).take n) = 0 := h
  have hpow : 0 < 256 ^ k := by positivity
  have hbyte : leNat ((b.drop (off + k)).take 1) = 0 := by
    rw [hzero] at hsplit
    have := (Nat.add_eq_zero_iff.mp hsplit.symm).2
    rcases Nat.mul_eq_zero.mp this with h0 | h0 <;> omega
  simpa [leAt] using hbyte

theorem firstBad_none {l : List (Nat × Bool)} (h : ∀ p ∈ l, p.2 = true) : firstBad l = none := by
  rw [firstBad, List.find?_eq_none.mpr fun p hp => by simp [h p hp]]
  rfl

/-! ### IDENT -/

section Commands

variable {i : Nat} {r : Req} {s : State}

/-- The session that a request which passes its checks comes from. -/
theorem src_of_requestOk {fam cmd : Nat} {lenOk : Nat → Bool} (h : requestOk fam cmd lenOk i r s = true) :
    r.src = .host i ∧ s.on (Reg.mbxSessOpen i) = true := by
  obtain ⟨row, -, hsrc, hopen, -⟩ := requestOk_elim h
  exact ⟨hsrc, hopen⟩

theorem sessOf_host (h : r.src = .host i) : sessOf r = i := by rw [sessOf, h]

theorem answers_identGetIdent (h : requestOk 1 1 noPayload i r s = true) :
    answers (.identGetIdent r) 1 1 i r s (fun p u => u = s ∧
      p.take 8 = [s.get Reg.sysVariantVariant, s.get Reg.sysVariantBoardRev, s.get Reg.sysPositionSlotId,
        s.get Reg.sysPositionGroupId, s.get Reg.sysModeGroupKind,
        s.get Reg.sysModeSplit + 2 * s.get Reg.sysModeTaint + 4 * s.get Reg.sysModeRunNoTime,
        s.get Reg.secStatusSlot, s.get Reg.secStatusTrial].map (BitVec.ofNat 8) ∧
      (p.drop 8).take s.sec.serial.length = s.sec.serial) := by
  refine answers_of_ok rfl h rfl ⟨rfl, ?_, ?_⟩
  · simp [leBytes]
  · simp [leBytes]

/-- The 16 identity registers as a session sees them (R28). -/
def blockVersions (s : State) (secure : Bool) : List Byte :=
  (List.range 16).flatMap (fun b => leBytes 4 (if b = 12 && !secure then 0 else (s.reg (0x10000 * b)).toNat))

theorem leAt_blockVersions (s : State) (secure : Bool) {b : Nat} (hb : b < 16) :
    leAt (blockVersions s secure) (4 * b) 4 = if b = 12 ∧ secure = false then 0 else (s.reg (0x10000 * b)).toNat := by
  have hrecord := leAt_flatMap (f := fun b => leBytes 4 (if b = 12 && !secure then 0 else (s.reg (0x10000 * b)).toNat))
    (k := 4) (fun _ => leBytes_length ..) (List.getElem?_range hb) (off := 0) (n := 4) (by decide)
  rw [Nat.add_zero] at hrecord
  rw [blockVersions, hrecord]
  have hword : (s.reg (0x10000 * b)).toNat < 256 ^ 4 := (s.reg (0x10000 * b)).isLt
  rw [← List.append_nil (leBytes 4 _), leAt_leBytes_append]
  split_ifs <;> simp_all [Nat.mod_eq_of_lt]

theorem answers_identGetBlockVersions (h : requestOk 1 2 noPayload i r s = true) :
    answers (.identGetBlockVersions r) 1 2 i r s (fun p u => u = s ∧ p.length = 64 ∧ ∀ b, b < 16 → leAt p (4 * b) 4 =
      if b = 12 ∧ s.on (Reg.mbxSessSecure i) = false then 0 else (s.reg (0x10000 * b)).toNat) := by
  obtain ⟨hsrc, -⟩ := src_of_requestOk h
  refine answers_of_ok (u := s) (pay := blockVersions s (s.on (Reg.mbxSessSecure i))) rfl h (by rw [hsrc]; rfl)
    ⟨rfl, ?_, fun b hb => leAt_blockVersions s _ hb⟩
  simp [blockVersions, List.range_succ]

theorem answers_identGetCertificates (h : requestOk 1 3 (exactly 4) i r s = true) (hmask : leAt r.payload 0 1 ≤ 15)
    (hzero : leAt r.payload 1 3 = 0) :
    answers (.identGetCertificates r) 1 3 i r s (fun p u => u = s ∧ leAt p 0 1 =
      ((List.range 4).filter (fun k => bitOf (leAt r.payload 0 1) k && !(certOf s k).isEmpty)).length) := by
  have hgood : firstBad (inRange r.payload 0 1 0 15 ++ resv r.payload 1 3) = none := by
    refine firstBad_none fun p hp => ?_
    rcases List.mem_append.mp hp with hp | hp
    · simp_all [inRange]
    · exact resv_ok 3 hzero p hp
  refine answers_of_ok rfl h (by rw [hgood]) ⟨rfl, ?_⟩
  rw [List.append_assoc, leAt_leBytes_append, List.filter_map, List.length_map, List.filter_filter]
  have hcount : ∀ q : Nat → Bool, ((List.range 4).filter q).length % 256 ^ 1 = ((List.range 4).filter q).length :=
    fun q => Nat.mod_eq_of_lt ((List.length_filter_le ..).trans_lt (by decide))
  rw [hcount]
  simp only [Function.comp_def, Bool.and_comm]

/-! ### SESSION -/

theorem sessionRecord_length (s : State) (j : Nat) : (sessionRecord s j).length = 24 := by
  unfold sessionRecord
  extract_lets c
  split <;> simp [timeBytes, zeros]

theorem sessionRecord_index (s : State) {j : Nat} (hj : j < 16) : leAt (sessionRecord s j) 0 1 = j := by
  unfold sessionRecord
  extract_lets c
  split <;> simp only [List.append_assoc, leAt_leBytes_append] <;> omega

theorem sessionRecord_free (s : State) {j : Nat} (h : s.on (Reg.mbxSessOpen j) = false) :
    leAt (sessionRecord s j) 1 1 = 0 := by
  simp [sessionRecord, h, leAt_behind_leBytes]
  decide

/-- The registers as a request finds them show the same sessions. -/
theorem seenBy_get (hsrc : r.src = .host i) (f : Fld) (h : (Reg.mbxSessOutstanding i).apart f = true) :
    (seenBy r s).get f = s.get f := by
  rw [seenBy, hsrc]
  exact State.get_set_apart _ _ _ _ rfl h

theorem seenBy_sess (j : Nat) : (seenBy r s).sess j = s.sess j := by
  unfold seenBy
  split <;> rfl

theorem mbxSessOutstanding_apart {i j hi lo : Nat} (h : 16 < lo) :
    (Reg.mbxSessOutstanding i).apart ⟨0x20100 + 4 * j, hi, lo⟩ = true := Fld.apart_of_bits (.inl h)

theorem seenBy_open (hsrc : r.src = .host i) (j : Nat) :
    (seenBy r s).on (Reg.mbxSessOpen j) = s.on (Reg.mbxSessOpen j) :=
  State.on_congr (seenBy_get hsrc _ (mbxSessOutstanding_apart (by decide)))

theorem answers_sessionGetInfo (hi : i < 16) (h : requestOk 2 1 noPayload i r s = true) :
    answers (.sessionGetInfo r) 2 1 i r s (fun p u => u = s ∧ p.length = 24 ∧ leAt p 0 1 = i ∧
      leAt p 4 1 = s.get (Reg.mbxSessActive i) ∧ leAt p 3 1 = s.get (Reg.mbxSessHeld i) ∧
      leAt p 6 2 = (s.sess i).idleS % 65536) := by
  obtain ⟨hsrc, hopen⟩ := src_of_requestOk h
  refine answers_of_ok rfl h rfl ?_
  rw [sessOf_host hsrc]
  refine ⟨rfl, sessionRecord_length _ _, sessionRecord_index _ hi, ?_⟩
  have hactive : (seenBy r s).get (Reg.mbxSessActive i) = s.get (Reg.mbxSessActive i) :=
    seenBy_get hsrc _ (mbxSessOutstanding_apart (by decide))
  have hheld : (seenBy r s).get (Reg.mbxSessHeld i) = s.get (Reg.mbxSessHeld i) :=
    seenBy_get hsrc _ (mbxSessOutstanding_apart (by decide))
  simp only [sessionRecord, seenBy_open hsrc, hopen, hactive, hheld, seenBy_sess, Bool.not_true, Bool.false_eq_true,
    if_false, List.append_assoc]
  refine ⟨?_, ?_, ?_⟩ <;>
    simp only [leAt_behind_leBytes, leAt_leBytes_append, Nat.reduceLeDiff, Nat.reduceSub]
  · exact State.get_mod s _ _ (show 2 ^ 5 ≤ 256 ^ 1 by decide)
  · exact State.get_mod s _ _ (show 2 ^ 5 ≤ 256 ^ 1 by decide)
  · rfl

theorem answers_sessionSetActiveRoles (h : requestOk 2 2 (exactly 1) i r s = true) (hsome : leAt r.payload 0 1 ≠ 0)
    (hheld : leAt r.payload 0 1 &&& s.get (Reg.mbxSessHeld i) = leAt r.payload 0 1) :
    answers (.sessionSetActiveRoles r) 2 2 i r s (fun p u => p = [] ∧
      u = s.set (Reg.mbxSessActive i) (leAt r.payload 0 1)) := by
  obtain ⟨hsrc, -⟩ := src_of_requestOk h
  refine answers_of_ok rfl h (if_neg ?_) ⟨rfl, by rw [sessOf_host hsrc]⟩
  rw [sessOf_host hsrc]
  simp [hsome, hheld]

theorem answers_sessionSetIdle (h : requestOk 2 4 (exactly 2) i r s = true) (hlo : 10 ≤ leAt r.payload 0 2)
    (hhi : leAt r.payload 0 2 ≤ 3600) :
    answers (.sessionSetIdle r) 2 4 i r s (fun p u => p = [] ∧
      u = s.updSess i (fun c => { c with idleS := leAt r.payload 0 2 })) := by
  obtain ⟨hsrc, -⟩ := src_of_requestOk h
  have hgood : firstBad (inRange r.payload 0 2 10 3600) = none :=
    firstBad_none fun p hp => by simp_all [inRange]
  refine answers_of_ok rfl h (by rw [hgood]) ⟨rfl, by rw [sessOf_host hsrc]⟩

theorem answers_sessionSubscribe (h : requestOk 2 5 (exactly 2) i r s = true)
    (hsec : bitOf (leAt r.payload 0 2) 12 = true → s.on (Reg.mbxSessSecure i) = true) :
    answers (.sessionSubscribe r) 2 5 i r s (fun p u => p = [] ∧
      u = s.updSess i (fun c => { c with subs := leAt r.payload 0 2 })) := by
  obtain ⟨hsrc, -⟩ := src_of_requestOk h
  refine answers_of_ok rfl h (if_neg ?_) ⟨rfl, by rw [sessOf_host hsrc]⟩
  rw [sessOf_host hsrc]
  simpa using hsec

/-- An accepted CLOSE posts its response and close_notify, and then the session closes (R91). -/
theorem exec_sessionClose (h : requestOk 2 6 noPayload i r s = true) : exec (.sessionClose r) s =
    .next (closeSession i ((carryRequest i 2 6 r (respond i r.seq 2 6 stOk [] s)).send (.tls i "close_notify"))) := by
  obtain ⟨row, hrow, hsrc, hopen, hfresh, hheader, hquiet, hchecks, hresponse, -⟩ := requestOk_elim h
  obtain ⟨hafresh, -⟩ := seqFresh_elim hfresh
  have haccepted : accepted 2 6 r noPayload s = true := by
    simp [accepted, hrow, hsrc, hopen, hfresh, hheader, hchecks, hresponse]
  change execSessionClose r s = _
  rw [execSessionClose, sessOf_host hsrc, hafresh]
  simp only [haccepted, if_true, serve_ok h (act := fun s => .ok s []) rfl]

theorem leads_sessionClose (hi : i < 16) (hlen : i < s.mbx.sessions.length) (h : requestOk 2 6 noPayload i r s = true) :
    leads (.sessionClose r) s (fun t =>
      t.on (Reg.mbxSessOpen i) = false ∧ t.sess i = {} ∧
      .response i r.seq 2 6 stOk false [] ∈ t.outbox ∧ t.outbox.getLast? = some (.tls i "close_notify") ∧
      (ringsIdle i s = true → t.outbox = s.outbox ++ [.response i r.seq 2 6 stOk false [], .tls i "close_notify"] ∧
        memKept s t)) := by
  let answered := respond i r.seq 2 6 stOk [] s
  let u := (carryRequest i 2 6 r answered).send (.tls i "close_notify")
  have hcarried : answered.Sending u := (State.Sending.refl answered).carryRequest.send
  have hlength : i < u.mbx.sessions.length := by
    rw [hcarried.sessions_length, (State.Sending.refl s).respond.sessions_length]
    exact hlen
  obtain ⟨hopen, hsess, hsent, hmem, -⟩ := closeSession_spec u hi hlength
  refine ⟨_, exec_sessionClose h, hopen, hsess, ?_, ?_, fun hidle => ?_⟩
  · rw [hsent]
    exact hcarried.mem_outbox (mem_outbox_respond ..)
  · rw [hsent]
    exact List.getLast?_concat ..
  · obtain ⟨hfirst, hsecond⟩ : s.on (Reg.rcbCfgEnable (sessionRing i)) = false ∧
        s.on (Reg.rcbCfgEnable (sessionRing i + 1)) = false := by simpa [ringsIdle] using hidle
    have hanswered : answered = s.send (.response i r.seq 2 6 stOk false []) := respond_idle hsecond
    have hplain : carryRequest i 2 6 r answered = s.send (.response i r.seq 2 6 stOk false []) := by
      rw [hanswered]
      exact carryRequest_idle hfirst
    have hout : u.outbox = s.outbox ++ [.response i r.seq 2 6 stOk false [], .tls i "close_notify"] := by
      simp [u, hplain]
    have hkept : u.mem = s.mem := by simp [u, hplain]
    exact ⟨hsent.trans hout, memKept_of_mem (hmem.trans hkept)⟩

theorem answers_sessionListSessions (h : requestOk 2 7 noPayload i r s = true) :
    answers (.sessionListSessions r) 2 7 i r s (fun p u => u = s ∧ ∀ j, j < 16 → leAt p (24 * j) 1 = j ∧
      (s.on (Reg.mbxSessOpen j) = false → leAt p (24 * j + 1) 1 = 0)) := by
  obtain ⟨hsrc, -⟩ := src_of_requestOk h
  refine answers_of_ok rfl h rfl ⟨rfl, fun j hj => ?_⟩
  have hrecord {off : Nat} (hoff : off + 1 ≤ 24) :=
    leAt_flatMap (sessionRecord_length (seenBy r s)) (List.getElem?_range hj) hoff
  refine ⟨(hrecord (off := 0) (by decide)).trans (sessionRecord_index _ hj), fun hfree => ?_⟩
  exact (hrecord (by decide)).trans (sessionRecord_free _ ((seenBy_open hsrc j).trans hfree))

theorem answers_sessionTerminate (hi : i < 16) {j : Nat} (h : requestOk 2 8 (exactly 1) i r s = true)
    (hindex : leAt r.payload 0 1 = j) (hj : j < 16) (hji : j ≠ i) (hlen : j < s.mbx.sessions.length)
    (hopenj : s.on (Reg.mbxSessOpen j) = true) :
    answers (.sessionTerminate r) 2 8 i r s (fun p u => p = [] ∧ u.on (Reg.mbxSessOpen j) = false ∧ u.sess j = {} ∧
      u.sess i = s.sess i ∧ u.on (Reg.mbxSessOpen i) = true ∧ memKept s u) := by
  obtain ⟨hsrc, hopen⟩ := src_of_requestOk h
  obtain ⟨hclosed, hsess, -, hmem, hothers⟩ := closeSession_spec s hj hlen
  obtain ⟨hother, hkept⟩ := hothers i hi hji.symm
  refine answers_of_ok rfl h (if_neg ?_) ?_
  · rw [sessOf_host hsrc, hindex]
    omega
  · rw [hindex, if_pos hopenj]
    exact ⟨rfl, hclosed, hsess, hkept, hother.trans hopen, memKept_of_mem hmem⟩

end Commands

/-- Settles O18, command by command. -/
theorem identAndSessionCommands : Obligations.IdentAndSessionCommands := by
  unfold Obligations.IdentAndSessionCommands
  intro i r s hi hlen
  exact ⟨answers_identGetIdent, answers_identGetBlockVersions, answers_identGetCertificates, answers_sessionGetInfo hi,
    fun h hsome _ hheld => answers_sessionSetActiveRoles h hsome hheld, fun h => answers_of_ok rfl h rfl ⟨rfl, rfl⟩,
    answers_sessionSetIdle, answers_sessionSubscribe, leads_sessionClose hi hlen, answers_sessionListSessions,
    fun _ h hindex hj hji hlenj hopen => answers_sessionTerminate hi h hindex hj hji hlenj hopen⟩

end Sys2Proof.Machine
end

section
/-! SUPPORT. Handshakes, lockouts, time-outs and losses (03 R85-R91). -/

namespace Sys2Proof.Machine

/-! ### The session that a handshake opens (R87) -/

theorem roleBit_lt (updater v : Int) : roleBit updater v < 2 ^ 5 := by
  unfold roleBit
  split_ifs <;> decide

/-- The module roles are five. -/
theorem rolesOf_lt (s : State) (l : List CertRole) : rolesOf s l < 2 ^ 5 := by
  unfold rolesOf
  extract_lets updater
  have hfold : ∀ m < 2 ^ 5, l.foldl (fun m v =>
      if inPeriod s v.validFrom v.validTo then m ||| roleBit updater v.role else m) m < 2 ^ 5 := by
    induction l with
    | nil => exact fun m hm => hm
    | cons v l ih =>
      intro m hm
      rw [List.foldl_cons]
      refine ih _ ?_
      split
      · exact Nat.or_lt_two_pow hm (roleBit_lt _ _)
      · exact hm
  exact hfold 0 (by decide)

theorem worldIndexes_lt {secure : Bool} {i : Nat} (h : i ∈ worldIndexes secure) : i < 16 := by
  unfold worldIndexes at h
  split at h
  · simp at h; omega
  · have := List.mem_range.mp h; omega

/-- Of two fields one of which lies above the other, the one keeps its value where the other is written. -/
theorem State.get_set_beside (s : State) (f g : Fld) (v : Nat) (hok : f.ok = true)
    (h : f.hi < g.lo ∨ g.hi < f.lo) : (s.set f v).get g = s.get g :=
  State.get_set_apart s f g v hok (Fld.apart_of_bits h)

/-- MBX_SESSn of a session that has just opened. -/
def openWord (i : Nat) (secure : Bool) (port roles : Nat) (s : State) : State :=
  let s := ((s.setReg (Reg.mbxSessOpen i).addr 0#32).setBit (Reg.mbxSessOpen i) true).setBit (Reg.mbxSessSecure i) secure
  ((s.set (Reg.mbxSessPort i) port).set (Reg.mbxSessHeld i) roles).set (Reg.mbxSessActive i) roles

theorem openWord_fields (i : Nat) (secure : Bool) {port roles : Nat} (s : State) (hport : port < 8)
    (hroles : roles < 2 ^ 5) : let t := openWord i secure port roles s
    t.on (Reg.mbxSessOpen i) = true ∧ t.on (Reg.mbxSessSecure i) = secure ∧ t.get (Reg.mbxSessPort i) = port ∧
    t.get (Reg.mbxSessHeld i) = roles ∧ t.get (Reg.mbxSessActive i) = roles := by
  have hport' : port % 2 ^ (29 + 1 - 27) = port := Nat.mod_eq_of_lt hport
  have hroles' : roles % 2 ^ (26 + 1 - 22) = roles := Nat.mod_eq_of_lt hroles
  simp (disch := simp [Fld.ok, Reg.mbxSessOpen, Reg.mbxSessSecure, Reg.mbxSessPort, Reg.mbxSessHeld, Reg.mbxSessActive])
    only [openWord, State.on, State.setBit, State.get_set_beside, State.get_set_same]
  refine ⟨rfl, ?_, hport', hroles', hroles'⟩
  cases secure <;> rfl

theorem openWord_clock (i : Nat) (secure : Bool) (port roles : Nat) (s : State) :
    (openWord i secure port roles s).clock = s.clock := by
  have hopen : (Reg.mbxSessOpen i).offClock = true := offClock_above _ _ _ (by decide)
  have hsecure : (Reg.mbxSessSecure i).offClock = true := offClock_above _ _ _ (by decide)
  have hport : (Reg.mbxSessPort i).offClock = true := offClock_above _ _ _ (by decide)
  have hheld : (Reg.mbxSessHeld i).offClock = true := offClock_above _ _ _ (by decide)
  have hactive : (Reg.mbxSessActive i).offClock = true := offClock_above _ _ _ (by decide)
  simp [openWord, hopen, hsecure, hport, hheld, hactive]

theorem openWord_frame (i : Nat) (secure : Bool) (port roles : Nat) (s : State) :
    (openWord i secure port roles s).mbx = s.mbx ∧ (openWord i secure port roles s).outbox = s.outbox ∧
    (openWord i secure port roles s).mem = s.mem := by
  unfold openWord
  refine ⟨?_, ?_, ?_⟩
  · rw [State.set_mbx, State.set_mbx, State.set_mbx, State.setBit_mbx, State.setBit_mbx, State.setReg_mbx]
  · rw [State.set_outbox, State.set_outbox, State.set_outbox, State.setBit_outbox, State.setBit_outbox,
      State.setReg_outbox]
  · rw [State.set_mem, State.set_mem, State.set_mem, State.setBit_mem, State.setBit_mem, State.setReg_mem]

/-- A session record entered and counted writes MBX_STATUS alone. -/
theorem showSessions_updSess_spec {i : Nat} (u : State) (c : Session) (hlen : i < u.mbx.sessions.length) :
    let t := showSessions (u.updSess i (fun _ => c))
    (∀ f : Fld, f.addr ≠ 0x20004 → t.get f = u.get f) ∧ t.sess i = c ∧ t.outbox = u.outbox ∧ t.mem = u.mem :=
  ⟨fun f hf => (get_showSessions _ f hf).trans (State.get_congr _ _ (State.updSess_regs ..) f),
    State.sess_updSess_same u (fun _ => c) hlen, rfl, rfl⟩

/-- The hidden part of the session that opens in `u`. -/
def openedSession (x : Handshake) (u : State) : Session :=
  { timeUnchecked := u.get Reg.timStatusClass == 5, addr := x.addr, start := u.now,
    subject := leNat (Config.sha384 x.cert) }

theorem openSession_eq (i : Nat) (x : Handshake) (s : State) :
    let u := openWord i (x.alpn == 2) x.port (rolesOf s x.roles) (s.send (.certificates i (presented s)))
    openSession i x s = showSessions (u.updSess i (fun _ => openedSession x u)) := rfl

/-- The session that opens: its word in MBX_SESSn, the certificates sent, and the idle limit and start of the hidden part. -/
theorem openSession_spec {i : Nat} (x : Handshake) (s : State) (hlen : i < s.mbx.sessions.length)
    (hport : x.port < 8) : let t := openSession i x s
    t.on (Reg.mbxSessOpen i) = true ∧ t.on (Reg.mbxSessSecure i) = decide (x.alpn = 2) ∧
    t.get (Reg.mbxSessPort i) = x.port ∧ t.get (Reg.mbxSessHeld i) = rolesOf s x.roles ∧
    t.get (Reg.mbxSessActive i) = rolesOf s x.roles ∧ t.outbox = s.outbox ++ [.certificates i (presented s)] ∧
    t.mem = s.mem ∧ (t.sess i).idleS = 300 ∧ (t.sess i).start = s.now ∧ (t.sess i).out = [] := by
  rw [openSession_eq]
  have hclock := openWord_clock i (x.alpn == 2) x.port (rolesOf s x.roles) (s.send (.certificates i (presented s)))
  obtain ⟨hmbx, hsent, hmem⟩ := openWord_frame i (x.alpn == 2) x.port (rolesOf s x.roles)
    (s.send (.certificates i (presented s)))
  obtain ⟨hopen, hsecure, hport, hheld, hactive⟩ := openWord_fields i (x.alpn == 2)
    (s.send (.certificates i (presented s))) hport (rolesOf_lt s x.roles)
  generalize openWord i (x.alpn == 2) x.port (rolesOf s x.roles) (s.send (.certificates i (presented s))) = u at *
  obtain ⟨hget, hsess, hsent', hmem'⟩ := showSessions_updSess_spec u (openedSession x u) (by rw [hmbx]; exact hlen)
  have haddr : 0x20100 + 4 * i ≠ 0x20004 := by omega
  refine ⟨(State.on_congr (hget _ haddr)).trans hopen, (State.on_congr (hget _ haddr)).trans hsecure,
    (hget _ haddr).trans hport, (hget _ haddr).trans hheld, (hget _ haddr).trans hactive, hsent'.trans hsent,
    hmem'.trans hmem, ?_⟩
  rw [hsess]
  exact ⟨rfl, State.now_of_clock (hclock.trans (State.send_clock ..)), rfl⟩

/-! ### Handshakes that fail (R86-R89) -/

/-- An event whose flag and counter lie below MBX_SESSn shares no bit with a register from there on. -/
theorem Ev.apart_of_below {e : Ev} {g : Fld} (h : (e.flag.ok && decide (e.flag.addr < 0x20100) &&
      e.cnt.all (fun c => c.ok && decide (c.addr < 0x20100))) = true) (hg : 0x20100 ≤ g.addr) : e.apart g = true := by
  simp only [Bool.and_eq_true, decide_eq_true_eq] at h
  obtain ⟨⟨hok, hflag⟩, hcnt⟩ := h
  rw [Ev.apart, hok, Fld.apart_of_addr (by omega)]
  cases hc : e.cnt with
  | none => rfl
  | some c =>
    obtain ⟨hcok, hlt⟩ : c.ok = true ∧ c.addr < 0x20100 := by simpa [hc] using hcnt
    simp [hcok, Fld.apart_of_addr (f := c) (g := g) (by omega)]

theorem mbxSessOpen_above (i : Nat) : 0x20100 ≤ (Reg.mbxSessOpen i).addr := Nat.le_add_right _ _

/-- The failures of a source within the last 60 s. -/
def recentFailures (addr : Nat) (s : State) : Nat :=
  (s.mbx.failures.filter (fun p => decide (s.mono < p.2 + 60 * nsPerS) && p.1 == addr)).length

/-- A failed handshake sets AUTH_FAIL and touches no session; the eighth within 60 s refuses the source. -/
theorem failedHandshake_spec (addr : Nat) (s : State) : let t := failedHandshake addr s
    t.on Reg.mbxEventAuthFail = true ∧ t.mem = s.mem ∧
    (∀ i, t.on (Reg.mbxSessOpen i) = s.on (Reg.mbxSessOpen i)) ∧
    (7 ≤ recentFailures addr s → addr ∈ t.mbx.lockout) := by
  unfold failedHandshake
  extract_lets recent n src m
  refine ⟨State.on_raise_flag _ Ev.mbxAuthFail (by decide), State.raise_mem .., fun i => ?_, fun h => ?_⟩
  · exact State.on_congr (State.get_raise_apart _ _ _ (Ev.apart_of_below (by decide) (mbxSessOpen_above i)))
  · have hcount : n = recentFailures addr s + 1 := by
      simp only [n, recent, recentFailures, List.filter_append, List.filter_filter, List.length_append, Bool.and_comm]
      simp
    rw [(State.Sending.refl _).raise.lockout]
    simp only [m, if_pos (show 8 ≤ n by omega)]
    exact List.mem_append_right _ (List.mem_singleton_self _)

section Judged

variable {x : Handshake} {s : State} (hup : s.sec.fwUp = true) (hport : listens s x.port = true)
  (htcp : x.tcp = mbxTcpPort)

include hup hport htcp

/-- A handshake that fails counts against its source. -/
theorem exec_tlsHandshake_failed (hsource : s.mbx.lockout.contains x.addr = false) {a : String}
    (halert : handshakeAlert x s = some a) :
    exec (.tlsHandshake x) s = .next (failedHandshake x.addr (s.send (.tls 16 a))) := by
  change execTlsHandshake x s = _
  rw [execTlsHandshake, if_neg (by simp [hup, hport, htcp]), if_neg (by simpa using hsource), halert]

/-- A handshake that qualifies opens the first free session of its world. -/
theorem exec_tlsHandshake_opens (hsource : s.mbx.lockout.contains x.addr = false) {i : Nat}
    (halert : handshakeAlert x s = none)
    (hfree : (worldIndexes (x.alpn == 2)).find? (fun i => !s.on (Reg.mbxSessOpen i)) = some i) :
    exec (.tlsHandshake x) s = .next (openSession i x s) := by
  change execTlsHandshake x s = _
  rw [execTlsHandshake, if_neg (by simp [hup, hport, htcp]), if_neg (by simpa using hsource), halert]
  simp only [hfree]

/-- A source that is refused gets REFUSED (R89). -/
theorem exec_tlsHandshake_refused (hsource : s.mbx.lockout.contains x.addr = true) :
    exec (.tlsHandshake x) s = .next (s.raise Ev.mbxRefused) := by
  change execTlsHandshake x s = _
  rw [execTlsHandshake, if_neg (by simp [hup, hport, htcp]), if_pos hsource]

theorem leads_tlsHandshake_failed (hsource : s.mbx.lockout.contains x.addr = false) {a : String}
    (halert : handshakeAlert x s = some a) : leads (.tlsHandshake x) s (fun t => t.on Reg.mbxEventAuthFail = true ∧
      memKept s t ∧ (∀ i, t.on (Reg.mbxSessOpen i) = s.on (Reg.mbxSessOpen i)) ∧
      (7 ≤ recentFailures x.addr s → x.addr ∈ t.mbx.lockout)) := by
  obtain ⟨hflag, hmem, hopen, hlockout⟩ := failedHandshake_spec x.addr (s.send (.tls 16 a))
  exact ⟨_, exec_tlsHandshake_failed hup hport htcp hsource halert, hflag, memKept_of_mem hmem, hopen, hlockout⟩

theorem leads_tlsHandshake_opens (hsource : s.mbx.lockout.contains x.addr = false) {i : Nat}
    (halert : handshakeAlert x s = none)
    (hfree : (worldIndexes (x.alpn == 2)).find? (fun i => !s.on (Reg.mbxSessOpen i)) = some i)
    (hlen : i < s.mbx.sessions.length) (hport8 : x.port < 8) :
    leads (.tlsHandshake x) s (fun t => memKept s t ∧ t.on (Reg.mbxSessOpen i) = true ∧
      t.on (Reg.mbxSessSecure i) = decide (x.alpn = 2) ∧ t.get (Reg.mbxSessPort i) = x.port ∧
      t.get (Reg.mbxSessHeld i) = rolesOf s x.roles ∧ t.get (Reg.mbxSessActive i) = rolesOf s x.roles ∧
      t.outbox = s.outbox ++ [.certificates i (presented s)] ∧ (t.sess i).idleS = 300 ∧ (t.sess i).start = s.now ∧
      (t.sess i).out = []) := by
  obtain ⟨hopen, hsecure, hport', hheld, hactive, hsent, hmem, hsess⟩ := openSession_spec x s hlen hport8
  exact ⟨_, exec_tlsHandshake_opens hup hport htcp hsource halert hfree, memKept_of_mem hmem, hopen, hsecure, hport',
    hheld, hactive, hsent, hsess⟩

theorem leads_tlsHandshake_refused (hsource : s.mbx.lockout.contains x.addr = true) :
    leads (.tlsHandshake x) s (fun t => t.on Reg.mbxEventRefused = true ∧
      ∀ i, i < 16 → t.on (Reg.mbxSessOpen i) = s.on (Reg.mbxSessOpen i)) :=
  ⟨_, exec_tlsHandshake_refused hup hport htcp hsource, State.on_raise_flag s Ev.mbxRefused (by decide), fun i _ =>
    State.on_congr (State.get_raise_apart s _ _ (Ev.apart_of_below (by decide) (mbxSessOpen_above i)))⟩

end Judged

/-- Why a handshake of a known world with supported cryptography fails or qualifies (R86-R88). -/
theorem handshakeAlert_of_supported {x : Handshake} {s : State} (halpn : x.alpn ∈ [1, 2]) (htls : tlsSupported x = true)
    (hroles : rolesOf s x.roles ≠ 0)
    (hsecure : x.alpn = 2 → bitOf (rolesOf s x.roles) 3 = true ∨ bitOf (rolesOf s x.roles) 4 = true) :
    handshakeAlert x s = if certValid x s = true then none else some "bad_certificate" := by
  have hworld : x.alpn ≠ 0 := by rintro h; simp [h] at halpn
  have hentitled : (decide (x.alpn = 2) && !(bitOf (rolesOf s x.roles) 3 || bitOf (rolesOf s x.roles) 4)) = false := by
    by_cases h : x.alpn = 2
    · rcases hsecure h with h3 | h4 <;> simp [*]
    · simp [h]
  simp only [handshakeAlert, htls, hworld, hroles, hentitled]
  cases certValid x s <;> simp

/-- A handshake without a world, supported cryptography, a valid certificate or a role fails. -/
theorem handshakeAlert_isSome {x : Handshake} {s : State}
    (h : x.alpn = 0 ∨ tlsSupported x = false ∨ certValid x s = false ∨ rolesOf s x.roles = 0) :
    ∃ a, handshakeAlert x s = some a := by
  refine Option.ne_none_iff_exists'.mp fun hnone => ?_
  simp only [handshakeAlert] at hnone
  split_ifs at hnone
  simp_all

/-! ### Time-outs and losses (R85, R91) -/

/-- A session that times out idle or is lost closes. -/
theorem exec_sessionEnd {i : Nat} {c : Instr} {s : State} (hopen : s.on (Reg.mbxSessOpen i) = true)
    (hc : c ∈ [Instr.sessionIdleTimeout i, .sessionLoss i]) : exec c s = .next (closeSession i s) := by
  have hend : Host.Outcome.next (if s.on (Reg.mbxSessOpen i) then closeSession i s else s) =
      (.next (closeSession i s) : Out) := congrArg _ (if_pos hopen)
  rcases List.mem_cons.mp hc with rfl | hc
  · exact hend
  · obtain rfl := List.mem_singleton.mp hc
    exact hend

theorem leads_segTimeout {i seq : Nat} {a : SegAsm} {s : State} (hlen : i < s.mbx.sessions.length)
    (ha : (s.sess i).segs.find? (fun a => a.seq == seq) = some a) :
    leads (.segTimeout i seq) s (fun t => t.on Reg.mbxEventSegTimeout = true ∧
      (t.sess i).segs = (s.sess i).segs.filter (fun b => b.seq != seq) ∧ (ringsIdle i s = true → memKept s t) ∧
      .response i seq a.fam a.cmd stSegTimeout false [0xFF#8, 0xFF#8, 0#8, 0#8] ∈ t.outbox) := by
  let u := s.updSess i (fun c => { c with segs := c.segs.filter (fun b => b.seq != seq) })
  let answered := respond i seq a.fam a.cmd stSegTimeout (detailBytes noField) u
  have hexec : exec (.segTimeout i seq) s = .next (answered.raise Ev.mbxSegTimeout) := by
    change execSegTimeout i seq s = _
    simp only [execSegTimeout, ha, u, answered]
  have hraised : answered.Sending (answered.raise Ev.mbxSegTimeout) := (State.Sending.refl _).raise
  have hsent : u.Sending (answered.raise Ev.mbxSegTimeout) := (State.Sending.refl u).respond.trans hraised
  refine ⟨_, hexec, State.on_raise_flag _ Ev.mbxSegTimeout (by decide), ?_, fun hidle => ?_,
    hraised.mem_outbox (mem_outbox_respond u i seq a.fam a.cmd stSegTimeout _)⟩
  · rw [hsent.segs_sess, State.sess_updSess_same s _ hlen]
  · obtain ⟨-, hsecond⟩ : s.on (Reg.rcbCfgEnable (sessionRing i)) = false ∧
        s.on (Reg.rcbCfgEnable (sessionRing i + 1)) = false := by simpa [ringsIdle] using hidle
    have hanswered : answered = u.send _ := respond_idle hsecond
    exact memKept_of_mem (by rw [State.raise_mem, hanswered]; rfl)

/-- Settles O19: handshakes by their outcome, then lockouts, time-outs and losses. -/
theorem handshakesAndSessionEnds : Obligations.HandshakesAndSessionEnds := by
  unfold Obligations.HandshakesAndSessionEnds
  intro s
  refine ⟨fun x i hup hport hsource halpn htcp htls hroles hsecure hfree hlen hport8 => ?_,
    fun x hup hport hsource htcp hfails => ?_,
    fun x hup hport htcp hsource => leads_tlsHandshake_refused hup hport htcp hsource, fun addr => ?_,
    fun i c hi hlen hopen hc => ?_, fun i seq a => leads_segTimeout⟩
  · have halert := handshakeAlert_of_supported halpn htls hroles hsecure
    split
    next hvalid =>
      rw [if_pos hvalid] at halert
      exact leads_tlsHandshake_opens hup hport htcp hsource halert hfree hlen hport8
    next hvalid =>
      rw [if_neg hvalid] at halert
      obtain ⟨t, hexec, hflag, hmem, hopen, -⟩ := leads_tlsHandshake_failed hup hport htcp hsource halert
      exact ⟨t, hexec, hmem, hflag, hopen i⟩
  · obtain ⟨a, halert⟩ := handshakeAlert_isSome hfails
    obtain ⟨t, hexec, hflag, -, hopen, hlockout⟩ := leads_tlsHandshake_failed hup hport htcp hsource halert
    exact ⟨t, hexec, hflag, fun i _ => hopen i, hlockout⟩
  · exact ⟨_, rfl, by simp, rfl, memKept_of_mem rfl, fun a ha hmem => by simpa [ha] using hmem⟩
  · obtain ⟨hclosed, hsess, hsent, hmem, hothers⟩ := closeSession_spec s hi hlen
    exact ⟨_, exec_sessionEnd hopen hc, hclosed, hsess, hsent, memKept_of_mem hmem, hothers⟩

end Sys2Proof.Machine
end

section
/-! SUPPORT. The FORCE family (04 R135-R137, R150): the list as bytes, the change that SET and RELEASE enter, and the changes
that RELEASE_ALL enters one after another. -/

namespace Sys2Proof.Machine

/-! ### Payloads -/

@[simp] theorem frameBytes_length (f : Nat) : (frameBytes f).length = 8 := by simp [frameBytes]

@[simp] theorem zeros_length (n : Nat) : (zeros n).length = n := List.length_replicate

@[simp] theorem forceBytes_length (f : Force) : (forceBytes f).length = 16 := by simp [forceBytes]

theorem forceList_length (l : List Force) : (l.flatMap forceBytes).length = 16 * l.length := by
  simp [List.length_flatMap, Nat.mul_comm]

/-! ### Accepting changes (R137) -/

/-- Accepting a change enters it behind the others, for the frame that the answer names. -/
theorem acceptChange_eq (clear : Bool) (f : Force) (s : State) : acceptChange clear f s =
    (changeFrame s, s.updProg (fun g => { g with changes := g.changes ++ [⟨changeFrame s, clear, f⟩] })) := rfl

/-- Entering changes one after another leaves all but the list of changes, to which it adds one for each force. -/
theorem foldl_acceptChange_spec (clear : Bool) (l : List Force) (q : Nat × State) :
    let t := (l.foldl (fun (q : Nat × State) f => acceptChange clear f q.2) q).2
    t.regs = q.2.regs ∧ t.mem = q.2.mem ∧ t.prog.forces = q.2.prog.forces ∧
    ∃ cs : List ForceChange, t.prog.changes = q.2.prog.changes ++ cs ∧
      cs.map (fun c => (c.clear, c.force)) = l.map (fun f => (clear, f)) := by
  induction l generalizing q with
  | nil => exact ⟨rfl, rfl, rfl, [], by simp, rfl⟩
  | cons f l ih =>
    obtain ⟨hregs, hmem, hforces, cs, hchanges, hcs⟩ := ih (acceptChange clear f q.2)
    refine ⟨hregs, hmem, hforces, ⟨changeFrame q.2, clear, f⟩ :: cs, ?_, by simp [hcs]⟩
    rw [List.foldl_cons, hchanges, acceptChange_eq, State.updProg_prog, List.append_assoc, List.singleton_append]

/-! ### The answers of the family -/

variable {i : Nat} {r : Req} {s : State}

theorem answers_forceList (h : requestOk 5 1 noPayload i r s = true) :
    answers (.forceList r) 5 1 i r s (fun p u => u = s ∧ p.length = 8 + 16 * s.prog.forces.length ∧
      leAt p 0 2 = s.prog.forces.length % 65536) := by
  refine answers_of_ok rfl h rfl ⟨rfl, ?_, ?_⟩
  · rw [List.length_append, forceList_length, List.length_append, leBytes_length, zeros_length]
  · rw [List.append_assoc, leAt_leBytes_append, show 256 ^ 2 = 65536 from rfl]

/-- What SET's own checks find where the symbol is forceable and named with its type. -/
theorem forceSet_checks {y : SymRow} {p : List Byte} (hflag : bitOf y.flags 1 = true) (hkind : y.kind ≤ 1)
    (hsize : tySize y.type ≠ 0) (htype : leAt p 4 1 = y.type) (hresv : leAt p 5 3 = 0) :
    firstBad ([(0, bitOf y.flags 1 && decide (y.kind ≤ 2) && tySize y.type != 0), (4, y.type == leAt p 4 1)]
      ++ resv p 5 3) = none := by
  refine firstBad_none fun q hq => ?_
  rcases List.mem_append.mp hq with hq | hq
  · have hkind2 : y.kind ≤ 2 := by omega
    have hsize' : (tySize y.type != 0) = true := bne_iff_ne.mpr hsize
    have hq : q = (0, true) ∨ q = (4, true) := by simpa [hflag, hkind2, hsize', htype] using hq
    rcases hq with rfl | rfl <;> rfl
  · exact resv_ok 3 hresv q hq

section Set

variable {un : LoadUnit} {y : SymRow} (h : requestOk 5 2 (exactly 16) i r s = true) (hactive : s.prog.active = some un)
  (hsym : symOf un (leAt r.payload 0 4) = some y) (hflag : bitOf y.flags 1 = true) (hkind : y.kind ≤ 1)
  (hsize : tySize y.type ≠ 0) (htype : leAt r.payload 4 1 = y.type) (hresv : leAt r.payload 5 3 = 0)

include h hactive hsym hflag hkind hsize htype hresv

theorem answers_forceSet (hgroup : takesGroup s = true) (hroom : (forcesAfter s).length < 256) :
    answers (.forceSet r) 5 2 i r s (fun p u => p = frameBytes (changeFrame s) ∧ u.prog.forces = s.prog.forces ∧
      u.regs = s.regs ∧ memKept s u ∧ u.prog.changes = s.prog.changes ++ [⟨changeFrame s, false,
        ⟨y.id, y.type, y.kind, leAt r.payload 8 8 % 2 ^ (8 * y.size)⟩⟩]) := by
  have hkind2 : y.kind ≠ 2 := by omega
  refine answers_of_ok (u := (acceptChange false _ s).2) rfl h ?_ ⟨rfl, rfl, rfl, memKept_of_mem rfl, rfl⟩
  simp only [hactive, Option.bind_some, hsym, Option.map_some, forceSet_checks hflag hkind hsize htype hresv]
  exact if_neg (by simp [hgroup, hkind2, hroom])

theorem answersErr_forceSet_follower (hgroup : takesGroup s = false) :
    answersErr (.forceSet r) 5 2 i r s stStateConflict noField (fun u => u = s) := by
  refine answersErr_of_err rfl h ?_ (by decide) rfl
  simp only [hactive, Option.bind_some, hsym, Option.map_some, forceSet_checks hflag hkind hsize htype hresv]
  exact if_pos (by simp [hgroup])

end Set

theorem answersErr_forceSet_noUnit (h : requestOk 5 2 (exactly 16) i r s = true) (hactive : s.prog.active = none) :
    answersErr (.forceSet r) 5 2 i r s stOutOfRange 0 (fun u => u = s) :=
  answersErr_of_err rfl h (by simp only [hactive, Option.bind_none]) (by decide) rfl

theorem answers_forceRelease (h : requestOk 5 3 (exactly 8) i r s = true) (hresv : leAt r.payload 4 4 = 0) {f : Force}
    (hf : (forcesAfter s).find? (fun f => f.symbol == leAt r.payload 0 4) = some f) (hgroup : takesGroup s = true) :
    answers (.forceRelease r) 5 3 i r s (fun p u => p = frameBytes (changeFrame s) ∧ u.prog.forces = s.prog.forces ∧
      u.prog.changes = s.prog.changes ++ [⟨changeFrame s, true, f⟩] ∧ u.regs = s.regs ∧ memKept s u) := by
  refine answers_of_ok (u := (acceptChange true f s).2) rfl h ?_ ⟨rfl, rfl, rfl, rfl, memKept_of_mem rfl⟩
  simp only [hf, firstBad_none (resv_ok 4 hresv)]
  exact if_neg (by simp [hgroup])

theorem answersErr_forceRelease_unforced (h : requestOk 5 3 (exactly 8) i r s = true)
    (hf : (forcesAfter s).find? (fun f => f.symbol == leAt r.payload 0 4) = none) :
    answersErr (.forceRelease r) 5 3 i r s stOutOfRange 0 (fun u => u = s) :=
  answersErr_of_err rfl h (by simp only [hf]) (by decide) rfl

theorem answers_forceReleaseAll (h : requestOk 5 4 noPayload i r s = true) (hgroup : takesGroup s = true) :
    answers (.forceReleaseAll r) 5 4 i r s (fun p u => p.length = 16 ∧ leAt p 8 2 = (forcesAfter s).length % 65536 ∧
      u.prog.forces = s.prog.forces ∧ (u.prog.changes.drop s.prog.changes.length).map (fun c => (c.clear, c.force)) =
        (forcesAfter s).map (fun f => (true, f)) ∧ u.regs = s.regs ∧ memKept s u) := by
  obtain ⟨hregs, hmem, hforces, cs, hchanges, hcs⟩ :=
    foldl_acceptChange_spec true (forcesAfter s) (changeFrame s, s)
  refine answers_of_ok rfl h (if_neg (by simp [hgroup])) ⟨by simp, ?_, hforces, ?_, hregs, memKept_of_mem hmem⟩
  · simp only [frameBytes, List.append_assoc, leAt_behind_leBytes, leAt_leBytes_append, Nat.reduceLeDiff,
      Nat.reduceSub, Nat.reducePow]
  · rw [hchanges, List.drop_left, hcs]

/-- Settles O39, command by command. -/
theorem forceCommands : Obligations.ForceCommands := by
  unfold Obligations.ForceCommands
  intro i r s
  refine ⟨answers_forceList, answersErr_forceSet_noUnit,
    fun un y h hactive hsym hflag hkind hsize htype hresv =>
      ⟨answers_forceSet h hactive hsym hflag hkind hsize htype hresv,
        answersErr_forceSet_follower h hactive hsym hflag hkind hsize htype hresv⟩,
    fun h hresv => ⟨fun f => answers_forceRelease h hresv, answersErr_forceRelease_unforced h⟩,
    answers_forceReleaseAll, fun h hgroup => ?_⟩
  exact answersErr_of_err rfl h (if_pos (by simp [hgroup])) (by decide) rfl

end Sys2Proof.Machine
end

section
/-! SUPPORT. What the program goes by (04 R138-R149): what posting, logging, elapsed time and messages to the members leave of
the program record, of the configurations, keys and peers that admission and ownership go by, and of memory. -/

namespace Sys2Proof.Machine

/-- Neither the flag nor its counter lies in the SYS block. -/
def Ev.offSys (e : Ev) : Bool := decide (0x10000 ≤ e.flag.addr) && e.cnt.all (fun c => decide (0x10000 ≤ c.addr))

/-- The registers of an indexed block lie behind the SYS block where the block's first does. -/
theorem offSys_above {a k : Nat} (h : 0x10000 ≤ a := by decide) : 0x10000 ≤ a + k := Nat.le_add_right_of_le h

theorem Ev.rcbOverflow_offSys (n : Nat) : (Ev.rcbOverflow n).offSys = true := by
  have hflag : 0x10000 ≤ (Reg.rcbEventOverflow n).addr := offSys_above
  have hcnt : 0x10000 ≤ (Reg.rcbEventOvfCnt n).addr := offSys_above
  simp [Ev.offSys, Ev.rcbOverflow, hflag, hcnt]

theorem Ev.rcbBadDesc_offSys (n : Nat) : (Ev.rcbBadDesc n).offSys = true := by
  have hflag : 0x10000 ≤ (Reg.rcbEventBadDesc n).addr := offSys_above
  have hcnt : 0x10000 ≤ (Reg.rcbEventMalfCnt n).addr := offSys_above
  simp [Ev.offSys, Ev.rcbBadDesc, hflag, hcnt]

/-- `t` comes from `s` without a change of the program, of the settings objects, of the security record, of what is known of
the peers, or of a register of the SYS block. -/
structure State.ProgKept (s t : State) : Prop where
  prog : t.prog = s.prog
  cfg : t.cfg = s.cfg
  sec : t.sec = s.sec
  pair : t.pair = s.pair
  sysReg : ∀ a, a < 0x10000 → t.reg a = s.reg a

namespace State.ProgKept

variable {s t : State}

protected theorem refl (s : State) : s.ProgKept s := ⟨rfl, rfl, rfl, rfl, fun _ _ => rfl⟩

protected theorem ite {c : Prop} [Decidable c] {u : State} (ht : s.ProgKept t) (hu : s.ProgKept u) :
    s.ProgKept (if c then t else u) := by
  split <;> assumption

protected theorem foldl {α : Type} {f : State → α → State} {l : List α} (h : s.ProgKept t)
    (hf : ∀ t x, s.ProgKept t → s.ProgKept (f t x)) : s.ProgKept (l.foldl f t) := by
  induction l generalizing t with
  | nil => exact h
  | cons x r ih => exact ih (hf t x h)

protected theorem upd (h : s.ProgKept t) {mem mono freeCtr outbox time mbx hhk nvs memi gate fio can ast lsp net pwr bkd
    pending} :
    s.ProgKept (State.mk t.regs mem mono freeCtr outbox time mbx t.pair hhk nvs memi gate fio can t.cfg ast lsp net t.prog
      t.sec pwr bkd pending) :=
  ⟨h.prog, h.cfg, h.sec, h.pair, h.sysReg⟩

protected theorem setReg (h : s.ProgKept t) {a : Nat} {w : Word} (ha : 0x10000 ≤ a) : s.ProgKept (t.setReg a w) :=
  ⟨h.prog, h.cfg, h.sec, h.pair, fun b hb => (State.reg_setReg_other t a b w (by omega)).trans (h.sysReg b hb)⟩

protected theorem set (h : s.ProgKept t) {f : Fld} {v : Nat} (hf : 0x10000 ≤ f.addr) : s.ProgKept (t.set f v) :=
  h.setReg hf

protected theorem setBit (h : s.ProgKept t) {f : Fld} {b : Bool} (hf : 0x10000 ≤ f.addr) : s.ProgKept (t.setBit f b) :=
  h.set hf

/-- A write to a field of an indexed block behind the SYS block. -/
protected theorem setAbove (h : s.ProgKept t) {a k hi lo v : Nat} (ha : 0x10000 ≤ a := by decide) :
    s.ProgKept (t.set ⟨a + k, hi, lo⟩ v) := h.set (offSys_above ha)

protected theorem raise (h : s.ProgKept t) {e : Ev} (he : e.offSys = true) : s.ProgKept (t.raise e) := by
  simp only [Ev.offSys, Bool.and_eq_true, decide_eq_true_eq] at he
  obtain ⟨hflag, hcnt⟩ := he
  obtain ⟨m, o, hraise⟩ := State.raise_frame t e
  rw [hraise, flagged]
  cases hc : e.cnt with
  | none => exact (h.set hflag).upd
  | some c =>
    have haddr : 0x10000 ≤ c.addr := by simpa [hc] using hcnt
    exact ((h.set hflag).set haddr).upd

protected theorem raiseIf (h : s.ProgKept t) {b : Bool} {e : Ev} (he : e.offSys = true) : s.ProgKept (t.raiseIf b e) :=
  .ite (h.raise he) h

/-- A field of the SYS block reads as before. -/
protected theorem get (h : s.ProgKept t) {f : Fld} (hf : f.addr < 0x10000) : t.get f = s.get f := by
  rw [State.get, State.get, h.sysReg f.addr hf]

/-! ### Rings and sessions (03 R74-R79) -/

protected theorem ringFault (h : s.ProgKept t) {e : Ev} (he : e.offSys = true) : s.ProgKept (ringFault e t) :=
  (h.raise he).raise (by decide)

protected theorem ringInterrupt (h : s.ProgKept t) {n : Nat} : s.ProgKept (ringInterrupt n t) := h.upd

protected theorem ringCount (h : s.ProgKept t) {n new : Nat} : s.ProgKept (ringCount n new t) := by
  unfold Machine.ringCount
  exact .ite (h.foldl fun _ _ h => h.ringInterrupt) (.ite h.ringInterrupt h)

protected theorem doorbell (h : s.ProgKept t) {n v : Nat} : s.ProgKept (doorbell n v t) := by
  unfold Machine.doorbell
  exact .ite h.setAbove.ringCount (h.ringFault (Ev.rcbOverflow_offSys n))

protected theorem passDescriptors (h : s.ProgKept t) {n count : Nat} : s.ProgKept (passDescriptors n count t) := by
  unfold Machine.passDescriptors
  exact .ite h (h.foldl fun _ _ h => .ite h (h.ringFault (Ev.rcbBadDesc_offSys n)))

protected theorem writeCons (h : s.ProgKept t) {n v : Nat} : s.ProgKept (writeCons n v t) := by
  unfold Machine.writeCons
  exact h.passDescriptors.setAbove.ringCount

protected theorem setBytes (h : s.ProgKept t) {a : Nat} {bs : List Byte} : s.ProgKept (t.setBytes a bs) := by
  rw [State.setBytes_frame]
  exact h.upd

protected theorem throughRing (h : s.ProgKept t) {n : Nat} {d : List Byte} : s.ProgKept (throughRing n d t) := by
  unfold Machine.throughRing
  exact .ite h (.ite h.doorbell h.setBytes.doorbell.writeCons)

protected theorem carry (h : s.ProgKept t) {n fam cmd seq flags status : Nat} {parts : List (List Byte)} :
    s.ProgKept (carry n fam cmd seq flags status parts t) := by
  unfold Machine.carry
  exact .ite h (h.foldl fun _ _ h => .throughRing h.upd)

protected theorem carryAnswer (h : s.ProgKept t) {m : OutMsg} : s.ProgKept (carryAnswer m t) := by
  unfold Machine.carryAnswer
  extract_lets +onlyGivenNames by'
  split
  exacts [.ite h.carry h, .ite h.carry h, h]

protected theorem post (h : s.ProgKept t) {m : OutMsg} : s.ProgKept (post m t) := h.carryAnswer.upd

protected theorem sendStages (h : s.ProgKept t) {r : Req} {fam cmd : Nat} {l : List Nat} :
    s.ProgKept (sendStages r fam cmd l t) := by
  unfold Machine.sendStages
  split
  · exact h
  · exact h.foldl fun _ _ h => .post h.upd

protected theorem finishD (h : s.ProgKept t) {i : Nat} {o : Outst} {status : Nat} {p : List Byte} :
    s.ProgKept (finishD i o status p t) := by
  have hanswered : s.ProgKept (if o.quiet then t else (respond i o.seq o.fam o.cmd status p t).raiseIf
      (match classBound (clsOf o.fam o.cmd) with | some b => decide (b < t.mono - o.since) | none => false)
      Ev.mbxClassLate) := .ite h (.raiseIf h.post (by decide))
  exact hanswered.upd.setAbove.setAbove

protected theorem finishAll (h : s.ProgKept t) {fam cmd status : Nat} {p : List Byte} :
    s.ProgKept (finishAll fam cmd status p t) := by
  unfold Machine.finishAll
  exact h.foldl fun _ _ h => h.foldl fun _ _ h => h.finishD

/-! ### The event log (17 R488, R489) and messages to the members (12 R371) -/

protected theorem flushLog (h : s.ProgKept t) : s.ProgKept (flushLog t) := by
  unfold Machine.flushLog
  exact .ite h h.upd

protected theorem logStore (h : s.ProgKept t) {source severity code engine : Nat} {data : List Byte} :
    s.ProgKept (logStore source severity code engine data t) := by
  unfold Machine.logStore
  exact .set (.ite (.flushLog h.upd) h.upd) (by decide)

protected theorem logEvent (h : s.ProgKept t) {source severity code engine : Nat} {data : List Byte} :
    s.ProgKept (logEvent source severity code engine data t) := by
  unfold Machine.logEvent
  exact .ite h.logStore (.ite (.raise (.set (f := Reg.nvsLogSuppressed) h.upd (by decide)) (by decide))
    (.ite (.logStore h.upd) (.logStore (.logStore h.upd))))

protected theorem fwLog (h : s.ProgKept t) {source : Nat} {data : List Byte} : s.ProgKept (fwLog source data t) := by
  unfold Machine.fwLog
  exact .logEvent h.upd

protected theorem sendBy (h : s.ProgKept t) {ways : List Route} {kind : String} {seg : Nat} {data : List Nat} :
    s.ProgKept (sendBy ways kind seg data t) := h.upd

protected theorem sendNumbered (h : s.ProgKept t) {ways : List Route} {kind : String} {data : List Nat} :
    s.ProgKept (sendNumbered ways kind data t) := by
  unfold Machine.sendNumbered
  exact .ite h.sendBy.upd h.sendBy

protected theorem toPeers (h : s.ProgKept t) {kind : String} {data : List Nat} : s.ProgKept (toPeers kind data t) :=
  h.sendNumbered

/-! ### Elapsed time (02 R39, 18 R499, 19 R532) -/

protected theorem setBkd (h : s.ProgKept t) {n : Nat} : s.ProgKept (t.setBkd n) :=
  ((h.set (by decide)).set (by decide)).set (by decide)

protected theorem wakeFromPark (h : s.ProgKept t) {cause : Nat} : s.ProgKept (wakeFromPark cause t) := by
  unfold Machine.wakeFromPark
  split
  · exact ((h.set (by decide)).setBit (by decide)).raise (by decide)
  · exact (h.set (by decide)).set (by decide)
  · exact h

protected theorem fireAlarm (h : s.ProgKept t) {skipped : Bool} : s.ProgKept (fireAlarm skipped t) := by
  unfold Machine.fireAlarm
  have harm := ((h.raise (e := Ev.bkdAlarm) (by decide)).raiseIf (b := skipped) (e := Ev.bkdSkipped) (by decide)).setBit
    (f := Reg.bkdAlarmHiArm) (b := false) (by decide)
  exact .ite harm.wakeFromPark harm

protected theorem bkdAdvance (h : s.ProgKept t) {n : Nat} : s.ProgKept (bkdAdvance n t) := by
  unfold Machine.bkdAdvance
  extract_lets old new ofs days fires s1 s2
  have h2 : s.ProgKept s2 := .ite h.setBkd (h.setBkd.set (by decide))
  exact .ite h2.fireAlarm h2

protected theorem elapse (h : s.ProgKept t) {dt : Nat} : s.ProgKept (elapse dt t) := by
  unfold Machine.elapse
  extract_lets ph bkd s1 s2 s3 s4 s5 s6 s7
  have h3 : s.ProgKept s3 := .set (.bkdAdvance h.upd) (by decide)
  have h4 : s.ProgKept s4 := .ite (h3.set (by decide)) h3
  have h6 : s.ProgKept s6 := (h4.set (by decide)).setBit (by decide)
  have h7 : s.ProgKept s7 := h6.foldl fun t n ht => by
    split
    · exact ht.setAbove
    · exact ht
  exact .ite (.set (f := Reg.timHoldTimeSec) h7.upd (by decide)) h7

protected theorem setNow (h : s.ProgKept t) {n : Nat} : s.ProgKept (t.setNow n) :=
  ((h.set (by decide)).set (by decide)).set (by decide)

protected theorem toPhase (h : s.ProgKept t) {d : Nat} : s.ProgKept (toPhase d t) := by
  unfold Machine.toPhase Machine.advanceTo Machine.runCycles
  exact .ite (.elapse (.setNow h.upd)) h

/-! ### RETAIN, rings and MPUs of a unit (04 R123, 05 R172, 15 R435) -/

protected theorem saveRetain (h : s.ProgKept t) : s.ProgKept (saveRetain t) := by
  unfold Machine.saveRetain
  exact .ite h h.upd

protected theorem sizeRings (h : s.ProgKept t) {u : LoadUnit} : s.ProgKept (sizeRings u t) := by
  unfold Machine.sizeRings
  exact h.foldl fun _ _ h => h.foldl fun _ _ h => h.setAbove.setAbove

theorem mpuAddr_above (m ent : Nat) : 0x10000 ≤ mpuAddr m ent := le_trans (by decide) (clock_lt_mpuAddr m ent)

protected theorem putMpu (h : s.ProgKept t) {m ent base size rwx : Nat} : s.ProgKept (putMpu m ent base size rwx t) := by
  have hent := mpuAddr_above m ent
  unfold Machine.putMpu
  exact (((h.set hent).setAbove hent).setAbove hent |>.setAbove hent).setBit (offSys_above hent)

protected theorem clearEntry (h : s.ProgKept t) {ent n : Nat} (hent : 0x10000 ≤ ent) : s.ProgKept (clearEntry ent n t) := by
  unfold Machine.clearEntry
  exact h.foldl fun _ _ h => h.setReg (offSys_above hent)

protected theorem loadMpus (h : s.ProgKept t) {u : LoadUnit} : s.ProgKept (loadMpus u t) := by
  unfold Machine.loadMpus
  exact h.foldl fun _ _ h => .putMpu (.ite (h.putMpu.clearEntry (mpuAddr_above _ _)) h.putMpu.putMpu)

end State.ProgKept

end Sys2Proof.Machine
end

section
/-! SUPPORT. What loading, changing and installing a unit leaves (04 R142-R149): answers and progress where the sessions' rings
are not in service, JOINs accepted at the end of a change, and the images built in the change bank. -/

namespace Sys2Proof.Machine

/-! ### Answers that pass no ring (03 R74) -/

/-- The ring that carries the answers of session `i` is not in service, where the index has one. -/
def answersIdle (i : Nat) (s : State) : Prop := i < 16 → s.on (Reg.rcbCfgEnable (sessionRing i + 1)) = false

theorem answersIdle_of_ringsIdle {i : Nat} {s : State} (h : ringsIdle i s = true) : answersIdle i s := fun _ => by
  obtain ⟨-, hanswer⟩ : s.on (Reg.rcbCfgEnable (sessionRing i)) = false ∧
      s.on (Reg.rcbCfgEnable (sessionRing i + 1)) = false := by simpa [ringsIdle] using h
  exact hanswer

namespace State.OffRings

variable {s t : State}

protected theorem answersIdle (h : s.OffRings t) {i : Nat} (hidle : answersIdle i s) : answersIdle i t := fun hi => by
  rw [State.on_congr (h.get (by simp only [Reg.rcbCfgEnable, sessionRing]; omega)
    (by simp only [Reg.rcbCfgEnable, sessionRing]; omega))]
  exact hidle hi

protected theorem raiseIf (h : s.OffRings t) {b : Bool} {e : Ev} (he : e.offRings = true) : s.OffRings (t.raiseIf b e) :=
  .ite (h.raise he) h

/-- What would pass the answer ring of a session passes none. -/
theorem carry_answer (h : s.OffRings t) {i fam cmd q flags status : Nat} {l : List (List Byte)}
    (hidle : answersIdle i s) :
    s.OffRings (if i < 16 ∧ t.on (Reg.mbxSessOpen i) = true then carry (sessionRing i + 1) fam cmd q flags status l t
      else t) := by
  split
  next hopen =>
    rw [carry_idle (h.answersIdle hidle hopen.1)]
    exact h
  next => exact h

protected theorem respond (h : s.OffRings t) {i q fam cmd status : Nat} {p : List Byte} (hidle : answersIdle i s) :
    s.OffRings (respond i q fam cmd status p t) := (h.carry_answer hidle).upd

protected theorem progress (h : s.OffRings t) {i q fam cmd : Nat} {p : List Byte} (hidle : answersIdle i s) :
    s.OffRings (post (.progress i q fam cmd p) t) := (h.carry_answer hidle).upd

protected theorem sendStages (h : s.OffRings t) {r : Req} {i fam cmd : Nat} {l : List Nat} (hsrc : r.src = .host i)
    (hidle : answersIdle i s) : s.OffRings (sendStages r fam cmd l t) := by
  rw [Machine.sendStages, hsrc]
  exact h.foldl fun _ _ _ h => h.upd.progress hidle

protected theorem finishD (h : s.OffRings t) {i : Nat} {o : Outst} {status : Nat} {p : List Byte}
    (hidle : answersIdle i s) (hi : i < 16) : s.OffRings (finishD i o status p t) := by
  have hanswered : s.OffRings (if o.quiet then t else (respond i o.seq o.fam o.cmd status p t).raiseIf
      (match classBound (clsOf o.fam o.cmd) with | some b => decide (b < t.mono - o.since) | none => false)
      Ev.mbxClassLate) := .ite h ((h.respond hidle).raiseIf (by decide))
  have hsess (top low : Nat) : Fld.offRings ⟨0x20100 + 4 * i, top, low⟩ = true := by
    simp only [Fld.offRings, Bool.or_eq_true, decide_eq_true_eq]
    omega
  exact .set (.set hanswered.upd (hsess 16 13)) (hsess 12 11)

protected theorem finishAll (h : s.OffRings t) {fam cmd status : Nat} {p : List Byte}
    (hidle : ∀ i, i < 16 → answersIdle i s) : s.OffRings (finishAll fam cmd status p t) := by
  unfold Machine.finishAll
  exact h.foldl fun _ i hi h => h.foldl fun _ _ _ h =>
    h.finishD (hidle i (List.mem_range.mp hi)) (List.mem_range.mp hi)

/-! ### The event log and the JOINs that waited (17 R489, 11 R359) -/

protected theorem flushLog (h : s.OffRings t) : s.OffRings (flushLog t) := by
  unfold Machine.flushLog
  exact .ite h h.upd

protected theorem logStore (h : s.OffRings t) {source severity code engine : Nat} {data : List Byte} :
    s.OffRings (logStore source severity code engine data t) := by
  unfold Machine.logStore
  exact .set (.ite (.flushLog h.upd) h.upd) (by decide)

protected theorem fwLog (h : s.OffRings t) {source : Nat} {data : List Byte} : s.OffRings (fwLog source data t) := by
  unfold Machine.fwLog Machine.logEvent
  exact .ite (.logStore h.upd) (.ite (.raise (.set (f := Reg.nvsLogSuppressed) h.upd (by decide)) (by decide))
    (.ite (.logStore h.upd) (.logStore (.logStore h.upd))))

protected theorem sendNumbered (h : s.OffRings t) {ways : List Route} {kind : String} {data : List Nat} :
    s.OffRings (sendNumbered ways kind data t) := by
  unfold Machine.sendNumbered
  exact .ite h.sendBy.upd h.sendBy

protected theorem releaseKill (h : s.OffRings t) {slot : Nat} : s.OffRings (releaseKill slot t) := by
  unfold Machine.releaseKill
  exact .ite (.setBit h.upd (by decide)) h

protected theorem peerRole (h : s.OffRings t) {slot r : Nat} : s.OffRings (peerRole slot r t) :=
  .set (f := Reg.hhkPairStatusPeerRole) h.upd (by decide)

protected theorem acceptJoin (h : s.OffRings t) {slot : Nat} : s.OffRings (acceptJoin slot t) := by
  unfold Machine.acceptJoin
  extract_lets s1 pair s2 s3 s4
  have h2 : s.OffRings s2 := (h.releaseKill (slot := slot)).upd
  have h3 : s.OffRings s3 := h2.set (f := Reg.hhkPairResyncPhase) (by decide)
  exact h3.peerRole.sendNumbered.sendNumbered.toPeers

protected theorem endChange (h : s.OffRings t) {result : Nat} : s.OffRings (endChange result t) := by
  unfold Machine.endChange Machine.acceptDeferred
  have hlogged : s.OffRings (Machine.fwLog 8 (leBytes 2 result) (t.updProg (fun g => { g with
      state := .run, change := none, named := g.named.filter (fun p => p.2 != Named.swap) }))) := .fwLog h.upd
  exact .ite (hlogged.upd.foldl fun _ _ _ h => h.acceptJoin) hlogged.upd

protected theorem dropChange (h : s.OffRings t) {status : Nat} (hidle : ∀ i, i < 16 → answersIdle i s) :
    s.OffRings (dropChange status t) := by
  unfold Machine.dropChange
  exact .ite (.endChange (.finishAll h.upd hidle)) h

end State.OffRings

/-! ### The program at the end of a change (R148) -/

@[simp] theorem toPeers_prog (kind : String) (data : List Nat) (s : State) : (toPeers kind data s).prog = s.prog :=
  (State.ProgKept.refl s).toPeers.prog

@[simp] theorem toMember_prog (slot : Nat) (kind : String) (data : List Nat) (s : State) :
    (toMember slot kind data s).prog = s.prog := (State.ProgKept.refl s).sendNumbered.prog

@[simp] theorem finishAll_prog (fam cmd status : Nat) (p : List Byte) (s : State) :
    (finishAll fam cmd status p s).prog = s.prog := (State.ProgKept.refl s).finishAll.prog

@[simp] theorem fwLog_prog (source : Nat) (data : List Byte) (s : State) : (fwLog source data s).prog = s.prog :=
  (State.ProgKept.refl s).fwLog.prog

@[simp] theorem toPhase_prog (d : Nat) (s : State) : (toPhase d s).prog = s.prog := (State.ProgKept.refl s).toPhase.prog

@[simp] theorem loadMpus_prog (u : LoadUnit) (s : State) : (loadMpus u s).prog = s.prog :=
  (State.ProgKept.refl s).loadMpus.prog

@[simp] theorem saveRetain_prog (s : State) : (saveRetain s).prog = s.prog := (State.ProgKept.refl s).saveRetain.prog

@[simp] theorem releaseKill_prog (slot : Nat) (s : State) : (releaseKill slot s).prog = s.prog := by
  unfold releaseKill
  split
  · rw [State.setBit_prog]
  · rfl

@[simp] theorem peerRole_prog (slot r : Nat) (s : State) : (peerRole slot r s).prog = s.prog := by
  rw [peerRole, State.set_prog]

@[simp] theorem acceptJoin_prog (slot : Nat) (s : State) : (acceptJoin slot s).prog = s.prog := by
  unfold acceptJoin
  extract_lets s1 pair s2 s3 s4
  rw [toPeers_prog, toMember_prog, toMember_prog, peerRole_prog, State.set_prog]
  exact releaseKill_prog slot s

@[simp] theorem acceptDeferred_prog (s : State) : (acceptDeferred s).prog = s.prog := by
  have hjoins (l : List Nat) (s : State) : (l.foldl (fun s p => acceptJoin p s) s).prog = s.prog := by
    induction l generalizing s with
    | nil => rfl
    | cons p l ih => rw [List.foldl_cons, ih, acceptJoin_prog]
  unfold acceptDeferred
  extract_lets l s1
  split
  · rw [hjoins]
  · rfl

/-- A change that is over leaves RUN, no change and no swap named, and the rest of the program as it was. -/
theorem endChange_prog (result : Nat) (s : State) : (endChange result s).prog = { s.prog with
    state := .run, change := none, named := s.prog.named.filter (fun p => p.2 != Named.swap) } := by
  rw [endChange, acceptDeferred_prog, fwLog_prog, State.updProg_prog]

/-- A change that is given up drops the staged unit as well. -/
theorem dropChange_prog {status : Nat} {s : State} (h : s.prog.state = .changing) : (dropChange status s).prog =
    { s.prog with state := .run, change := none, staged := none
                  named := s.prog.named.filter (fun p => p.2 != Named.swap) } := by
  rw [dropChange, if_pos h, endChange_prog, finishAll_prog, State.updProg_prog]

/-! ### Images in the change bank (R142-R144) -/

/-- A fold changes memory alone where its step does. -/
theorem foldl_onlyMem {α : Type} {f : State → α → State} (h : ∀ s x, ∃ m, f s x = { s with mem := m }) (l : List α)
    (s : State) : ∃ m, l.foldl f s = { s with mem := m } := by
  induction l generalizing s with
  | nil => exact ⟨s.mem, rfl⟩
  | cons x l ih =>
    obtain ⟨m, hm⟩ := h s x
    obtain ⟨m', hm'⟩ := ih (f s x)
    exact ⟨m', by rw [List.foldl_cons, hm', hm]⟩

theorem initInsts_onlyMem (u : LoadUnit) (b : Nat) (s : State) : ∃ m, initInsts u b s = { s with mem := m } :=
  foldl_onlyMem (fun s _ => ⟨_, State.setBytes_frame _ s _⟩) _ s

theorem putSym_onlyMem (u : LoadUnit) (b : Nat) (y : SymRow) (bs : List Byte) (s : State) :
    ∃ m, putSym u b y bs s = { s with mem := m } := by
  unfold putSym
  split
  · exact ⟨_, State.setBytes_frame _ s _⟩
  · exact ⟨s.mem, rfl⟩

theorem loadCode_onlyMem (u : LoadUnit) (b : Nat) (s : State) : ∃ m, loadCode u b s = { s with mem := m } :=
  foldl_onlyMem (fun s c => ⟨_, by rw [State.setBytes_frame, State.setBytes_frame c.code s]⟩) _ s

theorem migrate_onlyMem (old : Option LoadUnit) (new : LoadUnit) (b : Nat) (s : State) :
    ∃ m, migrate old new b s = { s with mem := m } := by
  obtain ⟨m, hm⟩ := initInsts_onlyMem new b s
  unfold migrate
  cases old with
  | none => exact ⟨m, hm⟩
  | some o =>
    obtain ⟨m', hm'⟩ := foldl_onlyMem (f := fun t y => match dataOf o y.id with
      | some x => if sameType x y then putSym new b y (symBytes s o s.prog.live x) t else t
      | none => t) (fun t y => by
        split
        · split
          · exact putSym_onlyMem ..
          · exact ⟨t.mem, rfl⟩
        · exact ⟨t.mem, rfl⟩) (new.syms.filter dataSym) (initInsts new b s)
    exact ⟨m', hm'.trans (by rw [hm])⟩

theorem buildChange_onlyMem (u : LoadUnit) (s : State) : ∃ m, buildChange u s = { s with mem := m } := by
  obtain ⟨m, hm⟩ := migrate_onlyMem s.prog.active u (1 - s.prog.live) s
  obtain ⟨m', hm'⟩ := loadCode_onlyMem u (1 - s.prog.live) (migrate s.prog.active u (1 - s.prog.live) s)
  exact ⟨m', hm'.trans (by rw [hm])⟩

theorem catchUp_onlyMem (s : State) : ∃ m, catchUp s = { s with mem := m } := by
  unfold catchUp
  split
  next c u o _ _ _ =>
    split
    · exact ⟨s.mem, rfl⟩
    · refine foldl_onlyMem (fun t y => ?_) _ s
      split
      · split
        · exact putSym_onlyMem ..
        · exact ⟨t.mem, rfl⟩
      · exact ⟨t.mem, rfl⟩
  next => exact ⟨s.mem, rfl⟩

/-! ### The new unit in place (R138, R146, R147) -/

/-- A station that is judged may mark the periods that its drop-out falls into, and changes nothing else of the program. -/
theorem reviewStation_prog (n : Nat) (s : State) (r : StationRow) :
    ∃ ts, (reviewStation n s r).prog = { s.prog with tasks := ts } := by
  unfold reviewStation
  extract_lets up down s1 net s2
  have h2 : s2.prog = s.prog := by
    rw [show s2.prog = s1.prog from rfl, show s1 = putDropped _ s from rfl, putDropped, State.set_prog, State.set_prog]
  split
  · exact ⟨s.prog.tasks, rfl⟩
  · rw [((State.ProgKept.refl _).raise (by decide)).prog]
    split
    · exact ⟨s.prog.tasks, h2⟩
    · exact ⟨_, by rw [markDropped, h2]⟩

theorem reviewStations_prog (s : State) : ∃ ts, (reviewStations s).prog = { s.prog with tasks := ts } := by
  have hall (l : List StationRow) (n : Nat) (s : State) :
      ∃ ts, (l.foldl (reviewStation n) s).prog = { s.prog with tasks := ts } := by
    induction l generalizing s with
    | nil => exact ⟨s.prog.tasks, rfl⟩
    | cons r l ih =>
      obtain ⟨ts, hts⟩ := reviewStation_prog n s r
      obtain ⟨ts', hts'⟩ := ih (reviewStation n s r)
      exact ⟨ts', hts'.trans (by rw [hts])⟩
  unfold reviewStations reviewStationsAt
  split
  · exact hall _ _ s
  · exact ⟨s.prog.tasks, rfl⟩

/-- The unit that takes the place of the active one is active in the other bank, and none is staged. -/
theorem switchUnit_spec (u : LoadUnit) (s : State) : (switchUnit u s).prog.live = 1 - s.prog.live ∧
    (switchUnit u s).prog.active = some u ∧ (switchUnit u s).prog.staged = none := by
  unfold switchUnit
  extract_lets outs held
  obtain ⟨ts, hts⟩ := reviewStations_prog (sizeRings u (restEngines (s.updProg (fun g => { g with
    live := 1 - g.live, active := some u, staged := none, outVals := outs, heldOuts := held
    tasks := u.tasks.map (fun _ => {})
    forces := (g.forces.filter (forceSurvives u)).map (reforce u)
    changes := (g.changes.filter (fun c => c.clear || forceSurvives u c.force)).map (fun (c : ForceChange) =>
      { c with force := reforce u c.force }) }))))
  rw [hts, ((State.ProgKept.refl _).sizeRings).prog]
  exact ⟨rfl, rfl, rfl⟩

theorem installUnit_spec (u : LoadUnit) (s : State) : (installUnit u s).prog.live = 1 - s.prog.live ∧
    (installUnit u s).prog.active = some u ∧ (installUnit u s).prog.staged = none := by
  obtain ⟨m, hm⟩ := buildChange_onlyMem u s
  rw [installUnit, hm]
  exact switchUnit_spec u _

end Sys2Proof.Machine
end

section
/-! SUPPORT. The PROGRAM family's units and online change (04 R138, R142-R149): the status record, LOAD_UNIT by its chunks,
START_CHANGE and ABORT_CHANGE, and what the end of the migration and the bank swap leave. -/

namespace Sys2Proof.Machine

/-! ### GET_STATUS (R149) -/

/-- The named frame in the status record. -/
def namedBytes (s : State) : List Byte := match s.prog.named with | p :: _ => frameBytes p.1 | [] => zeros 8

theorem namedBytes_length (s : State) : (namedBytes s).length = 8 := by
  unfold namedBytes
  split
  · exact frameBytes_length _
  · exact zeros_length 8

/-- What lies behind other bytes in a record is read past their number. -/
theorem leAt_behind (a l : List Byte) (off n : Nat) (h : a.length ≤ off) :
    leAt (a ++ l) off n = leAt l (off - a.length) n := by
  rw [leAt, leAt, List.drop_append, List.drop_eq_nil_of_le h, List.nil_append]

/-- The identifier of a unit, 0 where there is none. -/
def unitId (u : Option LoadUnit) : Nat := match u with | some u => u.id | none => 0

/-- The fields of the status record in their order. -/
theorem programStatus_eq (s : State) : ∃ stage post tasks down bits, programStatus s =
    leBytes 1 (stateCode s.prog.state) ++ (leBytes 1 stage ++ (leBytes 2 post ++ (leBytes 8 (unitId s.prog.active)
      ++ (leBytes 8 (unitId s.prog.staged) ++ (namedBytes s ++ (leBytes 2 tasks ++ (leBytes 2 s.prog.faultsSinceRun
      ++ (leBytes 4 s.prog.highestW ++ (leBytes 2 s.prog.forces.length ++ (leBytes 1 down ++ leBytes 1 bits)))))))))) := by
  unfold programStatus
  simp only [List.append_assoc]
  exact ⟨_, _, _, _, _, rfl⟩

theorem programStatus_fields (s : State) : let p := programStatus s
    p.length = 40 ∧ leAt p 0 1 = stateCode s.prog.state ∧ leAt p 36 2 = s.prog.forces.length % 65536 ∧
    leAt p 4 8 = unitId s.prog.active % 2 ^ 64 := by
  have hcode : stateCode s.prog.state % 256 = stateCode s.prog.state := by cases s.prog.state <;> rfl
  have hlength := namedBytes_length s
  obtain ⟨stage, post, tasks, down, bits, hstatus⟩ := programStatus_eq s
  rw [hstatus]
  refine ⟨by simp [hlength], ?_, ?_, ?_⟩
  · rw [leAt_leBytes_append]
    exact hcode
  · simp only [leAt_behind_leBytes, leAt_behind (namedBytes s), hlength, leAt_leBytes_append, Nat.reduceLeDiff,
      Nat.reduceSub, Nat.reducePow]
  · simp only [leAt_behind_leBytes, leAt_leBytes_append, Nat.reduceLeDiff, Nat.reduceSub, Nat.reducePow]

/-! ### LOAD_UNIT (R116, R149) -/

/-- Admission goes by the settings objects, the trust anchors and SPLIT. -/
theorem judgeUnit_congr {s t : State} (hcfg : t.cfg = s.cfg) (hsec : t.sec = s.sec)
    (hsplit : t.get Reg.sysModeSplit = s.get Reg.sysModeSplit) (bs : List Byte) : judgeUnit t bs = judgeUnit s bs := by
  have hconf (o : Nat) : t.conf o = s.conf o := by rw [State.conf, State.conf, hcfg]
  have hsource (i : InItem) : sourceExists t i = sourceExists s i := by simp only [sourceExists, hconf]
  have hdest (o : OutItem) : destExists t o = destExists s o := by simp only [destExists, hconf]
  have hconfig (u : LoadUnit) : configOf t u = configOf s u := by
    simp only [configOf, hconf, funext hsource, funext hdest]
  simp only [judgeUnit, hsec, State.on, hsplit, hconfig]

namespace State.ProgKept

variable {s t : State}

theorem judgeUnit (h : s.ProgKept t) (bs : List Byte) : judgeUnit t bs = Machine.judgeUnit s bs :=
  judgeUnit_congr h.cfg h.sec (h.get (by decide)) bs

theorem isOwner (h : s.ProgKept t) : isOwner t = Machine.isOwner s := by
  rw [Machine.isOwner, Machine.isOwner, State.role, State.role, h.get (by decide)]

theorem admitters (h : s.ProgKept t) : admitters t = Machine.admitters s := by
  rw [Machine.admitters, Machine.admitters, h.pair]

end State.ProgKept

/-- The state in which a chunk has been received. -/
def withChunk (bs : List Byte) (total off : Nat) (s : State) : State :=
  s.updProg (fun g => { g with recv := bs, recvTotal := total, staged := if off = 0 then none else g.staged })

/-- The state in which a unit that is complete has been judged, with the stages that its checks reach reported. -/
def afterChecks (r : Req) (bs : List Byte) (s : State) : State :=
  sendStages r 4 2 (loadStages (judgeUnit s bs).1.result) (stageUnit bs s).2

/-- What the last chunk of LOAD_UNIT leaves, and what it answers where no peer has to admit the unit as well. -/
theorem afterChecks_spec (r : Req) (bs : List Byte) (s : State) : let t := afterChecks r bs s
    t.prog.staged = (judgeUnit s bs).2 ∧ t.prog.active = s.prog.active ∧ isOwner t = isOwner s ∧
    admitters t = admitters s := by
  have hkept : (s.updProg (fun g => { g with staged := (judgeUnit s bs).2, recv := [], recvTotal := 0 })).ProgKept
      (afterChecks r bs s) := ((State.ProgKept.refl _).raiseIf (by decide)).sendStages
  exact ⟨by rw [hkept.prog]; rfl, by rw [hkept.prog]; rfl, hkept.isOwner, hkept.admitters⟩

theorem afterChecks_offRings {r : Req} {i : Nat} {s : State} (bs : List Byte) (hsrc : r.src = .host i)
    (hidle : answersIdle i s) : s.OffRings (afterChecks r bs s) := by
  have hstaged : s.OffRings (stageUnit bs s).2 := State.OffRings.raiseIf ((State.OffRings.refl s).upd) (by decide)
  exact hstaged.sendStages hsrc hidle

/-- The first progress of a request of a session whose answers pass no ring is posted and nothing more. -/
theorem sendStages_one_idle {r : Req} {i fam cmd stage : Nat} {s : State} (hsrc : r.src = .host i)
    (hidle : answersIdle i s) : (sendStages r fam cmd [stage] s).regs = s.regs ∧
      (sendStages r fam cmd [stage] s).mem = s.mem := by
  rw [sendStages, hsrc]
  have hcarry : carryAnswer (.progress i r.seq fam cmd (progressHead stage (s.fresh % 1001) (s.took.fresh % 2 ^ 32)))
      s.took.took = s.took.took := by
    unfold carryAnswer
    extract_lets by'
    simp only [by']
    split
    next hopen => exact carry_idle (hidle hopen.1)
    next => rfl
  simp only [List.foldl_cons, List.foldl_nil, post, hcarry]
  exact ⟨rfl, rfl⟩

/-- A command whose effect stays outstanding is held from the state that it leaves. -/
theorem holds_of_later {c : Instr} {fam cmd i : Nat} {r : Req} {lenOk : Nat → Bool} {act : State → Reply} {s u : State}
    {p : State → Prop} (hexec : exec c s = .next (serve fam cmd r lenOk act s))
    (h : requestOk fam cmd lenOk i r s = true) (hact : act s = .later u) (hp : p u) : holds c fam cmd i r s p :=
  ⟨u, by rw [hexec, serve_later h hact], hp⟩

/-- The state in which a chunk has been received and the first stage reported. -/
def afterChunk (r : Req) (bs : List Byte) (s : State) : State :=
  sendStages r 4 2 [1] (withChunk bs (leAt r.payload 0 4) (leAt r.payload 4 4) s)

theorem afterChunk_spec (r : Req) (bs : List Byte) (s : State) : let t := afterChunk r bs s
    t.prog.recv = bs ∧ t.prog.active = s.prog.active ∧ judgeUnit t bs = judgeUnit s bs ∧ isOwner t = isOwner s ∧
    admitters t = admitters s := by
  have hkept : (withChunk bs (leAt r.payload 0 4) (leAt r.payload 4 4) s).ProgKept (afterChunk r bs s) :=
    (State.ProgKept.refl _).sendStages
  refine ⟨by rw [hkept.prog]; rfl, by rw [hkept.prog]; rfl, (hkept.judgeUnit bs).trans ?_, hkept.isOwner,
    hkept.admitters⟩
  exact judgeUnit_congr rfl rfl rfl bs

theorem afterChunk_offRings {r : Req} {i : Nat} {s : State} (bs : List Byte) (hsrc : r.src = .host i)
    (hidle : answersIdle i s) : s.OffRings (afterChunk r bs s) :=
  (State.OffRings.refl s).upd.sendStages hsrc hidle

/-- Receiving and judging a unit write no memory where the session's answers pass no ring. -/
theorem afterChecks_afterChunk_mem {r : Req} {i : Nat} {s : State} (bs : List Byte) (hsrc : r.src = .host i)
    (hidle : answersIdle i s) : (afterChecks r bs (afterChunk r bs s)).mem = s.mem := by
  have hreceived := afterChunk_offRings bs hsrc hidle
  exact (afterChecks_offRings bs hsrc (hreceived.answersIdle hidle)).mem.trans hreceived.mem

section Load

variable {i : Nat} {r : Req} {s : State} {kept chunk : List Byte}

/-- What LOAD_UNIT's own checks find in a sound chunk. -/
theorem loadUnit_checks {p : List Byte} (htotal : leAt p 0 4 ≤ 8388608) (hoff : leAt p 4 4 = kept.length)
    (hfit : kept.length + chunk.length ≤ leAt p 0 4) (hresv : leAt p 9 7 = 0) (hfin : leAt p 8 1 ≤ 1) :
    firstBad ([(0, decide (leAt p 0 4 ≤ unitMax)),
      (4, leAt p 4 4 == kept.length && decide (leAt p 4 4 + chunk.length ≤ leAt p 0 4)), (8, decide (leAt p 8 1 ≤ 1))]
      ++ resv p 9 7) = none := by
  refine firstBad_none fun q hq => ?_
  rcases List.mem_append.mp hq with hq | hq
  · have htotal' : leAt p 0 4 ≤ unitMax := htotal
    have hq : q = (0, true) ∨ q = (4, true) ∨ q = (8, true) := by simpa [htotal', hoff, hfit, hfin] using hq
    rcases hq with rfl | rfl | rfl <;> rfl
  · exact resv_ok 7 hresv q hq

/-- LOAD_UNIT's answer to a sound chunk, by FINAL and by the peers that have to admit the unit as well. -/
def loadReply (r : Req) (bs : List Byte) (s : State) : Reply :=
  let t := afterChunk r bs s
  if leAt r.payload 8 1 = 0 then .ok t []
  else
    let v := afterChecks r bs t
    let a := (judgeUnit t bs).1
    if isOwner v && !(admitters v).isEmpty then
      .later ((toPeers "FORWARD" (3 :: asNats bs) v).updProg (fun g => { g with load := some (a, []) }))
    else .ok v (reportOf a)

variable (h : requestOk 4 2 (fun n => decide (16 ≤ n)) i r s = true) (hchunk : r.payload.drop 16 = chunk)
  (htotal : leAt r.payload 0 4 ≤ 8388608) (hoff : leAt r.payload 4 4 = kept.length)
  (hkept : kept = if leAt r.payload 4 4 = 0 then [] else s.prog.recv)
  (hfit : kept.length + chunk.length ≤ leAt r.payload 0 4) (hresv : leAt r.payload 9 7 = 0)
  (hstate : s.prog.state ≠ .changing)

include hchunk htotal hoff hkept hfit hresv hstate

theorem exec_loadUnit (hfin : leAt r.payload 8 1 ≤ 1) : ∃ act,
    exec (.programLoadUnit r) s = .next (serve 4 2 r (fun n => decide (16 ≤ n)) act s) ∧
    act s = loadReply r (kept ++ chunk) s := by
  refine ⟨_, rfl, ?_⟩
  have hchecks := loadUnit_checks htotal hoff hfit hresv hfin
  simp only [← hkept, hchunk, hchecks]
  exact if_neg hstate

include h

/-- A chunk that is not the last is appended to those before it. -/
theorem answers_loadUnit_chunk (hfin : leAt r.payload 8 1 = 0) :
    answers (.programLoadUnit r) 4 2 i r s (fun p u => p = [] ∧ u.prog.recv = kept ++ chunk ∧
      u.prog.active = s.prog.active ∧ (ringsIdle i s = true → u.regs = s.regs ∧ memKept s u)) := by
  obtain ⟨hsrc, -⟩ := src_of_requestOk h
  obtain ⟨act, hexec, hact⟩ := exec_loadUnit hchunk htotal hoff hkept hfit hresv hstate (by omega)
  obtain ⟨hrecv, hactive, -⟩ := afterChunk_spec r (kept ++ chunk) s
  refine answers_of_ok hexec h (hact.trans (if_pos hfin)) ⟨rfl, hrecv, hactive, fun hidle => ?_⟩
  obtain ⟨hregs, hmem⟩ := sendStages_one_idle (fam := 4) (cmd := 2) (stage := 1)
    (s := withChunk (kept ++ chunk) (leAt r.payload 0 4) (leAt r.payload 4 4) s) hsrc
    (answersIdle_of_ringsIdle hidle)
  exact ⟨hregs, memKept_of_mem hmem⟩

/-- The last chunk is answered at once where no peer has to admit the unit. -/
theorem answers_loadUnit_last (hfin : leAt r.payload 8 1 = 1) (hpeers : isOwner s = false ∨ admitters s = []) :
    answers (.programLoadUnit r) 4 2 i r s (fun p u => p = reportOf (judgeUnit s (kept ++ chunk)).1 ∧
      u.prog.staged = (judgeUnit s (kept ++ chunk)).2 ∧ u.prog.active = s.prog.active ∧
      (ringsIdle i s = true → memKept s u)) := by
  obtain ⟨hsrc, -⟩ := src_of_requestOk h
  obtain ⟨act, hexec, hact⟩ := exec_loadUnit hchunk htotal hoff hkept hfit hresv hstate (by omega)
  obtain ⟨-, hactive, hjudged, howner, hadmitters⟩ := afterChunk_spec r (kept ++ chunk) s
  obtain ⟨hstaged, hactive', howner', hadmitters'⟩ := afterChecks_spec r (kept ++ chunk) (afterChunk r (kept ++ chunk) s)
  have halone : ¬ (isOwner (afterChecks r (kept ++ chunk) (afterChunk r (kept ++ chunk) s)) &&
      !(admitters (afterChecks r (kept ++ chunk) (afterChunk r (kept ++ chunk) s))).isEmpty) = true := by
    rw [howner', hadmitters', howner, hadmitters]
    rcases hpeers with hpeers | hpeers <;> simp [hpeers]
  refine answers_of_ok hexec h (hact.trans ((if_neg (by omega)).trans (if_neg halone)))
    ⟨by rw [hjudged], hstaged.trans (by rw [hjudged]), hactive'.trans hactive, fun hidle => ?_⟩
  exact memKept_of_mem (afterChecks_afterChunk_mem _ hsrc (answersIdle_of_ringsIdle hidle))

/-- At an owner with STANDBY peers the last chunk leaves the admission to them as well. -/
theorem holds_loadUnit_last (hfin : leAt r.payload 8 1 = 1) (howns : isOwner s = true) (hpeers : admitters s ≠ []) :
    holds (.programLoadUnit r) 4 2 i r s (fun u => u.prog.load = some ((judgeUnit s (kept ++ chunk)).1, []) ∧
      u.prog.staged = (judgeUnit s (kept ++ chunk)).2 ∧ u.prog.active = s.prog.active ∧
      (ringsIdle i s = true → memKept s u)) := by
  obtain ⟨hsrc, -⟩ := src_of_requestOk h
  obtain ⟨act, hexec, hact⟩ := exec_loadUnit hchunk htotal hoff hkept hfit hresv hstate (by omega)
  obtain ⟨-, hactive, hjudged, howner, hadmitters⟩ := afterChunk_spec r (kept ++ chunk) s
  obtain ⟨hstaged, hactive', howner', hadmitters'⟩ := afterChecks_spec r (kept ++ chunk) (afterChunk r (kept ++ chunk) s)
  have hjoint : (isOwner (afterChecks r (kept ++ chunk) (afterChunk r (kept ++ chunk) s)) &&
      !(admitters (afterChecks r (kept ++ chunk) (afterChunk r (kept ++ chunk) s))).isEmpty) = true := by
    rw [howner', hadmitters', howner, hadmitters]
    simp [howns, hpeers]
  refine holds_of_later hexec h (hact.trans ((if_neg (by omega)).trans (if_pos hjoint))) ⟨?_, ?_, ?_, fun hidle => ?_⟩
  · rw [State.updProg_prog, hjudged]
  · rw [State.updProg_prog, toPeers_prog, ← hjudged]
    exact hstaged
  · rw [State.updProg_prog, toPeers_prog]
    exact hactive'.trans hactive
  · refine memKept_of_mem ((State.OffRings.refl _).toPeers.mem.trans ?_)
    exact afterChecks_afterChunk_mem _ hsrc (answersIdle_of_ringsIdle hidle)

end Load

/-! ### START_CHANGE and ABORT_CHANGE (R138, R142, R148) -/

theorem toPeers_frame (kind : String) (data : List Nat) (s : State) :
    (toPeers kind data s).regs = s.regs ∧ (toPeers kind data s).mem = s.mem := by
  unfold toPeers sendNumbered
  split <;> exact ⟨rfl, rfl⟩

section Change

variable {i : Nat} {r : Req} {s : State} {un : LoadUnit}

section Start

variable (h : requestOk 4 3 (exactly 8) i r s = true) (hstaged : s.prog.staged = some un)
  (hid : leAt r.payload 0 8 = un.id) (hgroup : takesGroup s = true) (hupdate : groupUpdating s = false)
  (hsync : memberSyncing s = false) (hnamed : s.prog.named = []) (hload : s.prog.load = none)

include h hstaged hid hgroup hupdate hsync hnamed hload

/-- In RUN the migration begins and START_CHANGE is held. -/
theorem holds_startChange_run (hrun : s.prog.state = .run) :
    holds (.programStartChange r) 4 3 i r s (fun u => u.prog.state = .changing ∧ u.prog.change = some {} ∧
      u.prog.active = s.prog.active ∧ u.regs = s.regs ∧ memKept s u) := by
  obtain ⟨hregs, hmem⟩ := toPeers_frame "FORWARD" [2, un.id] s
  have hbegin : beginChange un (toPeers "FORWARD" [2, un.id] s) =
      (toPeers "FORWARD" [2, un.id] s).updProg (fun g => { g with state := .changing, change := some {} }) :=
    if_pos (by rw [toPeers_prog, hrun])
  refine holds_of_later (u := beginChange un (toPeers "FORWARD" [2, un.id] s)) rfl h ?_ ?_
  · simp [hstaged, hid, hgroup, hupdate, hsync, hnamed, hload, hrun]
  · rw [hbegin, State.updProg_prog, toPeers_prog]
    exact ⟨rfl, rfl, rfl, hregs, memKept_of_mem hmem⟩

/-- In EMPTY and STOPPED the unit is installed at once. -/
theorem answers_startChange_stopped (hstopped : s.prog.state = .stopped ∨ s.prog.state = .empty) :
    answers (.programStartChange r) 4 3 i r s (fun _ u => u.prog.state = .stopped ∧ u.prog.active = some un ∧
      u.prog.staged = none ∧ u.prog.live = 1 - s.prog.live) := by
  have hrun : s.prog.state ≠ .run := by rcases hstopped with hst | hst <;> simp [hst]
  have hchanging : s.prog.state ≠ .changing := by rcases hstopped with hst | hst <;> simp [hst]
  have hstarting : s.prog.state ≠ .starting := by rcases hstopped with hst | hst <;> simp [hst]
  have hrest : (toPeers "FORWARD" [2, un.id] s).prog.state ≠ .run := by rwa [toPeers_prog]
  have hbegin : beginChange un (toPeers "FORWARD" [2, un.id] s).took =
      (installUnit un (toPeers "FORWARD" [2, un.id] s).took).updProg (fun g => { g with state := .stopped }) :=
    if_neg hrest
  obtain ⟨hlive, hactive, hnone⟩ := installUnit_spec un (toPeers "FORWARD" [2, un.id] s).took
  rw [State.took_prog, toPeers_prog] at hlive
  have hfree : ¬ (!takesGroup s || groupUpdating s || memberSyncing s || !s.prog.named.isEmpty || s.prog.load.isSome ||
      s.prog.state = .changing || s.prog.state = .starting) = true := by
    simp [hgroup, hupdate, hsync, hnamed, hload, hchanging, hstarting]
  refine answers_of_ok (u := beginChange un (toPeers "FORWARD" [2, un.id] s).took) (pay := ?pay) rfl h ?hact ?hp
  case hact =>
    simp only [hstaged]
    rw [if_neg (not_not.mpr hid), if_neg hfree]
    exact if_neg hrest
  case hp =>
    rw [hbegin, State.updProg_prog]
    exact ⟨rfl, hactive, hnone, hlive⟩

end Start

theorem answersErr_startChange_unstaged (h : requestOk 4 3 (exactly 8) i r s = true) (hstaged : s.prog.staged = none) :
    answersErr (.programStartChange r) 4 3 i r s stStateConflict noField (fun u => u = s) :=
  answersErr_of_err rfl h (by simp only [hstaged]; rfl) (by decide) rfl

/-- ABORT_CHANGE before S is named gives the change up. -/
theorem answers_abortChange (h : requestOk 4 4 noPayload i r s = true) (hgroup : takesGroup s = true)
    (hchanging : s.prog.state = .changing) (hnamed : s.prog.named = []) :
    answers (.programAbortChange r) 4 4 i r s (fun p u => p = [] ∧ u.prog.state = .run ∧ u.prog.change = none ∧
      u.prog.staged = none ∧ u.prog.active = s.prog.active ∧
      ((∀ j, j < 16 → ringsIdle j s = true) → memKept s u)) := by
  have hstate : (toPeers "FORWARD" [6] s).prog.state = .changing := by rw [toPeers_prog, hchanging]
  refine answers_of_ok (u := dropChange stStateConflict (toPeers "FORWARD" [6] s)) rfl h ?_ ⟨rfl, ?_⟩
  · simp [hgroup, hchanging, hnamed]
  · rw [dropChange_prog hstate, toPeers_prog]
    refine ⟨rfl, rfl, rfl, rfl, fun hidle => memKept_of_mem ?_⟩
    exact ((State.OffRings.refl s).toPeers.dropChange fun j hj => answersIdle_of_ringsIdle (hidle j hj)).mem

theorem answersErr_abortChange (h : requestOk 4 4 noPayload i r s = true) (hstate : s.prog.state ≠ .changing) :
    answersErr (.programAbortChange r) 4 4 i r s stStateConflict noField (fun u => u = s) :=
  answersErr_of_err rfl h (if_pos (by simp [hstate])) (by decide) rfl

end Change

/-! ### The end of the migration (R142, R145) -/

/-- The change record once the new image has been built. -/
def readyChange (c : Change) (un : LoadUnit) (s : State) : Change :=
  let n := migrationCounts s.prog.active un
  { c with stage := 2, migrated := n.1, reinit := n.2.1, new := n.2.2.1, removed := n.2.2.2 }

/-- READY is a numbered message of one frame (12 R371). -/
theorem toPeers_ready (s : State) : let t := toPeers "READY" [1] s
    t.regs = s.regs ∧ t.prog = s.prog ∧
    t.outbox = s.outbox ++ [.peer (waysOf s "READY") "READY" s.hhk.ctlSeq true [1]] := by
  have hframe : framesOf (waysOf s "READY") "READY" s.hhk.ctlSeq [1] =
      [.peer (waysOf s "READY") "READY" s.hhk.ctlSeq true [1]] := by
    simp [framesOf, payloads, objectKinds]
  have hnumbered : numberedKinds.contains "READY" = true := by decide
  unfold toPeers sendNumbered
  rw [if_pos hnumbered]
  exact ⟨rfl, rfl, congrArg (s.outbox ++ ·) hframe⟩

/-- The state in which the new image is built, with memory `m`, and the change is ready. -/
def migrated (m : List Host.Cell) (c : Change) (un : LoadUnit) (s : State) : State :=
  ({ s with mem := m } : State).updProg (fun g => { g with change := some (readyChange c un s) })

theorem exec_migrationComplete {s : State} {c : Change} {un : LoadUnit} (hchange : s.prog.change = some c)
    (hstaged : s.prog.staged = some un) (hstage : c.stage = 1) : ∃ m, exec .migrationComplete s =
      .next (if isOwner s then nameSwap (migrated m c un s) else toPeers "READY" [1] (migrated m c un s)) := by
  obtain ⟨m, hm⟩ := buildChange_onlyMem un s
  refine ⟨m, ?_⟩
  change execMigrationComplete s = _
  simp only [execMigrationComplete, hchange, hstaged, if_pos hstage, hm]
  rfl

theorem leads_migrationComplete {s : State} {c : Change} {un : LoadUnit} (hchange : s.prog.change = some c)
    (hstaged : s.prog.staged = some un) (hstage : c.stage = 1) :
    leads .migrationComplete s (fun t => t.regs = s.regs ∧ t.prog.active = s.prog.active ∧ t.prog.live = s.prog.live ∧
      (isOwner s = true → admitters s = [] → t.prog.named = s.prog.named ++ [(nameFrame s, Named.swap)]) ∧
      (isOwner s = false → t.outbox = s.outbox ++ [.peer (waysOf s "READY") "READY" s.hhk.ctlSeq true [1]] ∧
        t.prog.change.map (fun c => c.stage) = some 2)) := by
  obtain ⟨m, hexec⟩ := exec_migrationComplete hchange hstaged hstage
  refine ⟨_, hexec, ?_⟩
  cases howns : isOwner s with
  | true =>
    have howner : isOwner (migrated m c un s) = true := howns
    have hpeers : admitters (migrated m c un s) = admitters s := rfl
    have hready : (migrated m c un s).prog.change = some (readyChange c un s) := rfl
    simp only [if_true, nameSwap, hready, howner, hpeers]
    split
    next hall => exact ⟨rfl, rfl, rfl, fun _ _ => rfl, fun h => absurd h (by decide)⟩
    next hall =>
      refine ⟨rfl, rfl, rfl, fun _ hnone => absurd ?_ hall, fun h => absurd h (by decide)⟩
      simp [hnone, readyChange]
  | false =>
    obtain ⟨hregs, hprog, hsent⟩ := toPeers_ready (migrated m c un s)
    simp only [Bool.false_eq_true, if_false]
    rw [hregs, hprog, hsent]
    exact ⟨rfl, rfl, rfl, fun h => absurd h (by decide), fun _ => ⟨rfl, rfl⟩⟩

/-! ### The bank swap (R144-R147) -/

/-- Whether a swap may take place goes by the program alone. -/
theorem swapEligible_congr {s t : State} (h : t.prog = s.prog) : swapEligible t = swapEligible s := by
  have hlines : markedLines t = markedLines s := by simp only [markedLines, State.eng, bankBase, h]
  rw [swapEligible, swapEligible, hlines, h]

/-- Elapsed time writes no memory. -/
theorem toPhase_mem (d : Nat) (s : State) : (toPhase d s).mem = s.mem := by
  unfold toPhase advanceTo
  split
  · rw [runCycles, (State.Reviewed.refl _).elapse.mem, State.setNow_mem]
  · rfl

theorem swapBanks_spec (un : LoadUnit) (c : Change) (swap : Nat) (s : State) : let t := swapBanks un c swap s
    t.prog.live = 1 - s.prog.live ∧ t.prog.active = some un ∧ t.prog.staged = none ∧ t.prog.change = none ∧
    t.prog.state = .run := by
  obtain ⟨m, hm⟩ := catchUp_onlyMem s
  obtain ⟨hlive, hactive, hstaged⟩ := switchUnit_spec un { s with mem := m }
  unfold swapBanks
  extract_lets report s1 s2
  rw [endChange_prog, finishAll_prog, saveRetain_prog, State.updProg_prog, loadMpus_prog, hm]
  exact ⟨hlive, hactive, hstaged, rfl, rfl⟩

/-- Before the 16th time a swap that is not eligible is postponed, and the old unit stays. -/
theorem postponeSwap_spec {c : Change} {s : State} (hcount : c.postponed < 15) :
    (postponeSwap c s).prog.live = s.prog.live ∧ (postponeSwap c s).prog.active = s.prog.active ∧
    (postponeSwap c s).prog.change = some { c with postponed := c.postponed + 1 } ∧ (postponeSwap c s).mem = s.mem := by
  have hlast : ¬ 16 ≤ c.postponed + 1 := by omega
  unfold postponeSwap
  extract_lets s1
  rw [if_neg hlast]
  split <;> exact ⟨rfl, rfl, rfl, rfl⟩

section Swap

variable {s : State} (hticked : s.time.ticked = true)

include hticked

theorem exec_bankSwap_unnamed (hnamed : (frameIndex (toPhase 222000 s).now + 1, Named.swap) ∉ s.prog.named) :
    exec .bankSwap s = .next (toPhase 222000 s) := by
  change execBankSwap s = _
  simp [execBankSwap, hticked, hnamed]

theorem exec_bankSwap {c : Change} {un : LoadUnit} (hchange : s.prog.change = some c) (hstaged : s.prog.staged = some un)
    (hnamed : (frameIndex (toPhase 222000 s).now + 1, Named.swap) ∈ s.prog.named) : exec .bankSwap s =
      .next (if swapEligible s then swapBanks un c (frameIndex (toPhase 222000 s).now + 1) (toPhase 222000 s)
        else postponeSwap c (toPhase 222000 s)) := by
  have heligible := swapEligible_congr (toPhase_prog 222000 s)
  change execBankSwap s = _
  simp [execBankSwap, hticked, hnamed, hchange, hstaged, heligible]

theorem leads_bankSwap_eligible {c : Change} {un : LoadUnit} (hchange : s.prog.change = some c)
    (hstaged : s.prog.staged = some un)
    (hnamed : (frameIndex (toPhase 222000 s).now + 1, Named.swap) ∈ s.prog.named) (heligible : swapEligible s = true) :
    leads .bankSwap s (fun t => t.prog.live = 1 - s.prog.live ∧ t.prog.active = some un ∧ t.prog.staged = none ∧
      t.prog.change = none ∧ t.prog.state = .run) := by
  obtain ⟨hlive, hrest⟩ := swapBanks_spec un c (frameIndex (toPhase 222000 s).now + 1) (toPhase 222000 s)
  rw [toPhase_prog] at hlive
  exact ⟨_, (exec_bankSwap hticked hchange hstaged hnamed).trans (by rw [if_pos heligible]), hlive, hrest⟩

theorem leads_bankSwap_postponed {c : Change} {un : LoadUnit} (hchange : s.prog.change = some c)
    (hstaged : s.prog.staged = some un)
    (hnamed : (frameIndex (toPhase 222000 s).now + 1, Named.swap) ∈ s.prog.named) (heligible : swapEligible s = false)
    (hcount : c.postponed < 15) :
    leads .bankSwap s (fun t => t.prog.live = s.prog.live ∧ t.prog.active = s.prog.active ∧
      t.prog.change = some { c with postponed := c.postponed + 1 } ∧ memKept s t) := by
  obtain ⟨hlive, hactive, hpostponed, hmem⟩ := postponeSwap_spec (s := toPhase 222000 s) hcount
  rw [toPhase_prog] at hlive hactive
  exact ⟨_, (exec_bankSwap hticked hchange hstaged hnamed).trans (by rw [if_neg (by simp [heligible])]), hlive, hactive,
    hpostponed, memKept_of_mem (hmem.trans (toPhase_mem 222000 s))⟩

end Swap

/-- Settles O37: the commands of the family, then the end of the migration and the swap. -/
theorem unitsAndOnlineChange : Obligations.UnitsAndOnlineChange := by
  unfold Obligations.UnitsAndOnlineChange
  intro i r s
  refine ⟨fun h => ?_, fun kept chunk h hchunk htotal hoff hkept hfit hresv hstate =>
      ⟨answers_loadUnit_chunk h hchunk htotal hoff hkept hfit hresv hstate,
        answers_loadUnit_last h hchunk htotal hoff hkept hfit hresv hstate,
        holds_loadUnit_last h hchunk htotal hoff hkept hfit hresv hstate⟩,
    fun un h hstaged hid hgroup hupdate hsync hnamed hload =>
      ⟨holds_startChange_run h hstaged hid hgroup hupdate hsync hnamed hload,
        answers_startChange_stopped h hstaged hid hgroup hupdate hsync hnamed hload⟩,
    answersErr_startChange_unstaged, answers_abortChange, answersErr_abortChange,
    fun c un => leads_migrationComplete, fun hnone => ?_,
    fun c un hticked hchange hstaged hnamed => ⟨leads_bankSwap_eligible hticked hchange hstaged hnamed,
      leads_bankSwap_postponed hticked hchange hstaged hnamed⟩, exec_bankSwap_unnamed⟩
  · obtain ⟨hlength, hstate, hforces, hactive⟩ := programStatus_fields s
    refine answers_of_ok rfl h rfl ⟨rfl, hlength, hstate, hforces, hactive.trans ?_⟩
    cases s.prog.active <;> rfl
  · change execMigrationComplete s = _
    simp only [execMigrationComplete, hnone]

end Sys2Proof.Machine
end

section
/-! SUPPORT. The depths of the Petal engines (05 R151, R173) as a predicate, with the rules for the ways in which the model
builds its results. The engines change in few places only: `State.putEng`, the four functions that put engines at rest or
take SEQ from a replica, and an instruction of Petal, whose effect on the stacks `Engine.Depths` bounds. Every other function
of the model leaves the engines alone or is composed of functions that keep the depths. So each function `f` of the model
that answers a state has one lemma `State.Depths.f` whose proof follows the definition of `f`: a call of `g` is a step `.g`,
an `if` is `.ite`, a `foldl` is `.foldl`, an update of the fields other than the program is `.upd`, and a `match` is a
`split`. -/

namespace Sys2Proof.Machine

/-- The stacks of an engine are within the depths of 05 R151, in the running level and in each saved one. -/
structure StackDepths (ops : List Quad) (levels : List CallLevel) (inner : List LoopLevel) : Prop where
  stack : ops.length ≤ 16
  calls : levels.length ≤ 16
  loops : inner.length ≤ 4
  saved : ∀ l ∈ levels, l.loops.length ≤ 4

/-- An engine is within its depths. -/
abbrev Engine.Depths (g : Engine) : Prop := StackDepths g.stack g.calls g.loops

/-- Every engine is within its depths. -/
def State.Depths (s : State) : Prop := ∀ g ∈ s.prog.engines, g.Depths

theorem StackDepths.empty : StackDepths [] [] [] := ⟨by simp, by simp, by simp, by simp⟩

theorem State.depths_iff (s : State) : s.Depths ↔ s.depthsOk :=
  ⟨fun h g hg => let ⟨hstack, hcalls, hloops, hsaved⟩ := h g hg; ⟨hstack, hcalls, hloops, hsaved⟩,
    fun h g hg => let ⟨hstack, hcalls, hloops, hsaved⟩ := h g hg; ⟨hstack, hcalls, hloops, hsaved⟩⟩

theorem State.Depths.eng {s : State} (h : s.Depths) (e : Nat) : (s.eng e).Depths := by
  unfold State.eng
  rw [List.getD_eq_getElem?_getD]
  cases heq : s.prog.engines[e]? with
  | none => exact .empty
  | some g => exact h g (List.mem_of_getElem? heq)

/-- What a list holds after an entry has been replaced. -/
theorem mem_listSet {α : Type} {l : List α} {i : Nat} {a x : α} (hx : x ∈ listSet l i fun _ => a) : x ∈ l ∨ x = a := by
  induction l generalizing i with
  | nil => cases i <;> exact .inl hx
  | cons y r ih =>
    cases i with
    | zero =>
      rcases List.mem_cons.mp hx with hxa | hxr
      exacts [.inr hxa, .inl (List.mem_cons_of_mem y hxr)]
    | succ i =>
      rcases List.mem_cons.mp hx with hxy | hxr
      exacts [.inl (hxy ▸ List.mem_cons_self), (ih hxr).imp_left (List.mem_cons_of_mem y)]

/-- What a command answers next is within the depths. -/
def Out.Depths (o : Out) : Prop := ∀ t, o = .next t → t.Depths

/-- The engine and the state that an instruction of Petal leaves are within the depths. -/
def PRes.Depths : PRes → Prop
  | .ok g t => g.Depths ∧ t.Depths
  | .fault _ _ => True

/-- The state that a command's effect leaves is within the depths. -/
def Reply.Depths : Reply → Prop
  | .ok t _ => t.Depths
  | .err t _ _ => t.Depths
  | .later t => t.Depths

variable {s : State}

theorem Out.Depths.next (h : s.Depths) : Out.Depths (.next s) := fun _ ht => by
  injection ht with ht
  exact ht ▸ h

theorem Reply.Depths.ok (h : s.Depths) {p} : (Reply.ok s p).Depths := h

theorem Reply.Depths.err (h : s.Depths) {st d} : (Reply.err s st d).Depths := h

theorem Reply.Depths.later (h : s.Depths) : (Reply.later s).Depths := h

theorem PRes.Depths.ok (h : s.Depths) {g} (hg : g.Depths) : (PRes.ok g s).Depths := ⟨hg, h⟩

theorem PRes.Depths.fault {c hard} : (PRes.fault c hard).Depths := trivial

theorem Reply.Depths.ite {c : Prop} [Decidable c] {a b : Reply} (ha : a.Depths) (hb : b.Depths) :
    (if c then a else b).Depths := by
  split <;> assumption

theorem PRes.Depths.ite {c : Prop} [Decidable c] {a b : PRes} (ha : a.Depths) (hb : b.Depths) :
    (if c then a else b).Depths := by
  split <;> assumption

theorem State.Depths.ite {c : Prop} [Decidable c] {t : State} (hs : s.Depths) (ht : t.Depths) :
    (if c then s else t).Depths := by
  split <;> assumption

theorem State.Depths.iteSnd {β : Type} {c : Prop} [Decidable c] {p q : β × State} (hp : p.2.Depths) (hq : q.2.Depths) :
    (if c then p else q).2.Depths := by
  split <;> assumption

theorem State.Depths.foldl {α : Type} {f : State → α → State} {l : List α} (h : s.Depths)
    (hf : ∀ s x, s.Depths → (f s x).Depths) : (l.foldl f s).Depths := by
  induction l generalizing s with
  | nil => exact h
  | cons x r ih => exact ih (hf s x h)

theorem State.Depths.foldlSnd {α β : Type} {f : β × State → α → β × State} {l : List α} {q : β × State}
    (hf : ∀ q x, q.2.Depths → (f q x).2.Depths) (h : q.2.Depths) : (l.foldl f q).2.Depths := by
  induction l generalizing q with
  | nil => exact h
  | cons x r ih => exact ih (hf q x h)

theorem State.Depths.foldlFst {α β : Type} {f : State × β → α → State × β} {l : List α} {q : State × β}
    (hf : ∀ q x, q.1.Depths → (f q x).1.Depths) (h : q.1.Depths) : (l.foldl f q).1.Depths := by
  induction l generalizing q with
  | nil => exact h
  | cons x r ih => exact ih (hf q x h)

theorem State.Depths.upd (h : s.Depths) {regs mem mono freeCtr outbox time mbx pair hhk nvs memi gate fio can cfg ast lsp
    net sec pwr bkd pending} : (State.mk regs mem mono freeCtr outbox time mbx pair hhk nvs memi gate fio can cfg ast lsp net
      s.prog sec pwr bkd pending).Depths := h

/-- An update of the program that leaves the engines alone. -/
theorem State.Depths.program (h : s.Depths) {prog : ProgSt} (hp : prog.engines = s.prog.engines := by rfl) {regs mem mono
    freeCtr outbox time mbx pair hhk nvs memi gate fio can cfg ast lsp net sec pwr bkd pending} :
    (State.mk regs mem mono freeCtr outbox time mbx pair hhk nvs memi gate fio can cfg ast lsp net prog sec pwr bkd
      pending).Depths := fun g hg => h g (hp ▸ hg)

protected theorem State.Depths.setReg (h : s.Depths) {a w} : (s.setReg a w).Depths := h

protected theorem State.Depths.setByte (h : s.Depths) {a w} : (s.setByte a w).Depths := h

protected theorem State.Depths.setBytes (h : s.Depths) {a l} : (s.setBytes a l).Depths := by
  induction l generalizing s a with
  | nil => exact h
  | cons b r ih => exact ih h.setByte

end Sys2Proof.Machine
end

section
/-! SUPPORT. The depths are kept by what every meaning uses: registers, event flags, memory, the TIME counter, the NAND
array, the event log, the output stages and the roles. -/

namespace Sys2Proof.Machine

variable {s : State}

/-! ### Machine/Ops -/

protected theorem State.Depths.set {f v} (h : s.Depths) : (State.set s f v).Depths := h

protected theorem State.Depths.setBit {f b} (h : s.Depths) : (State.setBit s f b).Depths := h

protected theorem State.Depths.setInt {f v} (h : s.Depths) : (State.setInt s f v).Depths := h

protected theorem State.Depths.bump {f n} (h : s.Depths) : (State.bump s f n).Depths := h

protected theorem State.Depths.wrapUp {f n} (h : s.Depths) : (State.wrapUp s f n).Depths := h

protected theorem State.Depths.maxTo {f v} (h : s.Depths) : (State.maxTo s f v).Depths := by
  unfold Machine.State.maxTo
  exact .ite h.set h

protected theorem State.Depths.took (h : s.Depths) : (State.took s).Depths := h

protected theorem State.Depths.send {m} (h : s.Depths) : (State.send s m).Depths := h

protected theorem State.Depths.setNow {t} (h : s.Depths) : (State.setNow s t).Depths := h

protected theorem State.Depths.notifyOne {b addr i} (h : s.Depths) : (notifyOne b addr s i).Depths := by
  unfold Machine.notifyOne
  split
  exacts [h, .ite h (.ite h.upd h.upd)]

protected theorem State.Depths.notifyAll {addr} (h : s.Depths) : (notifyAll addr s).Depths := by
  unfold Machine.notifyAll
  exact h.foldl fun _ _ h => h.notifyOne

protected theorem State.Depths.raise {e} (h : s.Depths) : (State.raise s e).Depths := by
  unfold Machine.State.raise
  refine .notifyAll ?_
  split
  exacts [h.set.bump, h.set]

protected theorem State.Depths.raiseIf {b e} (h : s.Depths) : (State.raiseIf s b e).Depths := by
  unfold Machine.State.raiseIf
  exact .ite h.raise h

/-! ### Machine/Nand -/

protected theorem State.Depths.nandWrite {pool logical data} (h : s.Depths) : (nandWrite pool logical data s).Depths := h

protected theorem State.Depths.nandPut {p logical data} (h : s.Depths) : (nandPut p logical data s).Depths := by
  unfold Machine.nandPut
  exact .ite h h.nandWrite

protected theorem State.Depths.nandConf {o data} (h : s.Depths) : (nandConf o data s).Depths := by
  unfold Machine.nandConf
  exact h.nandPut.nandPut

protected theorem State.Depths.nandBoot {off data} (h : s.Depths) : (nandBoot off data s).Depths := by
  unfold Machine.nandBoot
  exact h.nandPut.nandPut

protected theorem State.Depths.nandArch {recId data} (h : s.Depths) : (nandArch recId data s).Depths := h

protected theorem State.Depths.nandForget {recId} (h : s.Depths) : (nandForget recId s).Depths := h

protected theorem State.Depths.nandEntries {α : Type} {base per wrap lo} {seqOf : α → Nat} {bytes l} (h : s.Depths) :
    (nandEntries base per wrap lo seqOf bytes l s).Depths := by
  unfold Machine.nandEntries
  exact h.foldl fun _ _ h => h.nandPut.nandPut

protected theorem State.Depths.storeOffset {p i off} (h : s.Depths) : (storeOffset p i off s).Depths := by
  unfold Machine.storeOffset
  exact h.nandPut.nandPut

protected theorem State.Depths.updNand {f} (h : s.Depths) : (updNand f s).Depths := h

protected theorem State.Depths.showWear (h : s.Depths) : (showWear s).Depths := by
  unfold Machine.showWear
  exact h.foldl fun _ _ h => h.set.set

/-! ### Machine/EventLog -/

protected theorem State.Depths.flushLog (h : s.Depths) : (flushLog s).Depths := by
  unfold Machine.flushLog
  exact .ite h h.upd

protected theorem State.Depths.logStore {source severity code engine data} (h : s.Depths) :
    (logStore source severity code engine data s).Depths := by
  unfold Machine.logStore
  exact .set (.ite h.upd.flushLog h.upd)

protected theorem State.Depths.logEvent {source severity code engine data} (h : s.Depths) :
    (logEvent source severity code engine data s).Depths := by
  unfold Machine.logEvent
  exact .ite h.logStore (.ite h.upd.bump.raise (.ite h.upd.logStore h.upd.upd.took.logStore.logStore))

protected theorem State.Depths.fwLog {source data} (h : s.Depths) : (fwLog source data s).Depths := by
  unfold Machine.fwLog
  exact h.took.logEvent

protected theorem State.Depths.lifetimeAdd {kind data} (h : s.Depths) : (lifetimeAdd kind data s).Depths := by
  unfold Machine.lifetimeAdd
  exact .ite h (.ite h h.upd.nandEntries.set)

/-! ### Machine/Outputs -/

protected theorem State.Depths.portTx {n kind d} (h : s.Depths) : (portTx n kind d s).Depths := by
  unfold Machine.portTx
  exact .ite h.send h

protected theorem State.Depths.netTx {n kind d} (h : s.Depths) : (netTx n kind d s).Depths := by
  unfold Machine.netTx
  exact .ite h.upd.portTx.portTx h.portTx

protected theorem State.Depths.clearSending (h : s.Depths) : (clearSending s).Depths := by
  unfold Machine.clearSending
  exact .foldl (h.foldl fun _ _ h => h.setBit) fun _ _ h => .ite h.setBit h

protected theorem State.Depths.closeClients (h : s.Depths) : (closeClients s).Depths := by
  unfold Machine.closeClients
  exact h.foldl fun _ _ h => .ite h h.set.setBit.netTx

protected theorem State.Depths.updFio {f} (h : s.Depths) : (State.updFio s f).Depths := h

protected theorem State.Depths.showStages (h : s.Depths) : (showStages s).Depths := by
  unfold Machine.showStages
  exact h.setBit.setBit.set.foldl fun _ _ h => .ite h.setBit h.setBit.updFio.set

protected theorem State.Depths.setDrive {d} (h : s.Depths) : (setDrive d s).Depths := by
  unfold Machine.setDrive
  exact h.updFio.showStages

protected theorem State.Depths.showPublishing (h : s.Depths) : (showPublishing s).Depths := h

protected theorem State.Depths.updCan {c f} (h : s.Depths) : (State.updCan s c f).Depths := h

protected theorem State.Depths.updObj {c o f} (h : s.Depths) : (State.updObj s c o f).Depths := h

protected theorem State.Depths.canLog {c time kind flags id obj reason bitPos data} (h : s.Depths) : (canLog c time kind
    flags id obj reason bitPos data s).Depths := h

protected theorem State.Depths.writeMemByte {a b} (h : s.Depths) : (writeMemByte a b s).Depths := by
  unfold Machine.writeMemByte
  split
  exacts [h.setByte, h.updCan]

protected theorem State.Depths.writeMem {a l} (h : s.Depths) : (writeMem a l s).Depths := by
  induction l generalizing s a with
  | nil => exact h
  | cons b r ih => exact ih h.writeMemByte

protected theorem State.Depths.canFail {c o reason bitPos time esi} (h : s.Depths) :
    (canFail c o reason bitPos time esi s).Depths := by
  unfold Machine.canFail
  exact h.updObj.canLog.raise

protected theorem State.Depths.canFailPending {c reason except} (h : s.Depths) :
    (canFailPending c reason except s).Depths := by
  unfold Machine.canFailPending
  exact h.foldl fun _ _ h => .ite h.canFail h

protected theorem State.Depths.canRestrict (h : s.Depths) : (canRestrict s).Depths := by
  unfold Machine.canRestrict
  exact .setBit (.setBit (h.foldl fun _ _ h => h.canFailPending))

/-! ### Machine/Roles -/

protected theorem State.Depths.setRole {r} (h : s.Depths) : (setRole r s).Depths := by
  unfold Machine.setRole
  exact .ite h h.set.raise

protected theorem State.Depths.gatesOpen (h : s.Depths) : (gatesOpen s).Depths := by
  unfold Machine.gatesOpen
  exact h.setDrive.setBit

protected theorem State.Depths.gatesClose {d} (h : s.Depths) : (gatesClose d s).Depths := by
  unfold Machine.gatesClose
  exact h.setDrive.setBit.canRestrict.clearSending.upd

protected theorem State.Depths.stopSingletons (h : s.Depths) : (stopSingletons s).Depths := by
  unfold Machine.stopSingletons
  exact .showPublishing (h.foldl fun _ _ h => h.setBit)

protected theorem State.Depths.disarm (h : s.Depths) : (disarm s).Depths := by
  unfold Machine.disarm
  exact h.upd.setBit

protected theorem State.Depths.ownRises (h : s.Depths) : (ownRises s).Depths := by
  unfold Machine.ownRises
  exact h.upd.setBit

protected theorem State.Depths.ownFalls (h : s.Depths) : (ownFalls s).Depths := by
  unfold Machine.ownFalls
  exact h.upd.setBit

protected theorem State.Depths.releaseOwn {d} (h : s.Depths) : (releaseOwn d s).Depths := by
  unfold Machine.releaseOwn
  exact .ite h.disarm.setBit.ownRises.setBit.gatesClose.closeClients.stopSingletons h.disarm

protected theorem State.Depths.recordOwn {cause} (h : s.Depths) : (recordOwn cause s).Depths := h

protected theorem State.Depths.arm (h : s.Depths) : (arm s).Depths := by
  unfold Machine.arm
  exact .ite h h.setBit

protected theorem State.Depths.reviewPairOk (h : s.Depths) : (reviewPairOk s).Depths := h

protected theorem State.Depths.followRole (h : s.Depths) : (followRole s).Depths := by
  unfold Machine.followRole
  exact .ite h h.setDrive

protected theorem State.Depths.followPeers (h : s.Depths) : (followPeers s).Depths := by
  unfold Machine.followPeers
  exact .ite h.followRole h

protected theorem State.Depths.reviewOwner (h : s.Depths) : (reviewOwner s).Depths := by
  unfold Machine.reviewOwner
  exact .followPeers (.ite h.setRole h)

protected theorem State.Depths.enterRole {r} (h : s.Depths) : (enterRole r s).Depths := by
  unfold Machine.enterRole
  exact h.setRole.reviewPairOk.followRole

protected theorem State.Depths.sendBy {ways kind seg data} (h : s.Depths) : (sendBy ways kind seg data s).Depths := h

protected theorem State.Depths.toPort {p kind data} (h : s.Depths) : (toPort p kind data s).Depths := by
  unfold Machine.toPort
  exact .ite h h.sendBy

protected theorem State.Depths.sendNumbered {ways kind data} (h : s.Depths) :
    (sendNumbered ways kind data s).Depths := by
  unfold Machine.sendNumbered
  exact .ite h.sendBy.upd h.sendBy

protected theorem State.Depths.toPeers {kind data} (h : s.Depths) : (toPeers kind data s).Depths := by
  unfold Machine.toPeers
  exact h.sendNumbered

protected theorem State.Depths.toMember {slot kind data} (h : s.Depths) : (toMember slot kind data s).Depths := by
  unfold Machine.toMember
  exact h.sendNumbered

protected theorem State.Depths.sendJoin (h : s.Depths) : (sendJoin s).Depths := by
  unfold Machine.sendJoin
  exact h.toPeers

protected theorem State.Depths.askObjects (h : s.Depths) : (askObjects s).Depths := by
  unfold Machine.askObjects
  exact h.foldl fun _ _ h => h.toPeers

protected theorem State.Depths.joinOrClaim (h : s.Depths) : (joinOrClaim s).Depths := by
  unfold Machine.joinOrClaim
  exact .ite h (.ite (.ite h.arm h) (.ite h.upd.disarm.enterRole.sendJoin.askObjects (.ite h (.ite (.ite h.arm h)
    h.upd.disarm))))

protected theorem State.Depths.putBackup {bs} (h : s.Depths) : (putBackup bs s).Depths := by
  unfold Machine.putBackup
  exact .set (h.foldl fun _ _ h => h.set)

protected theorem State.Depths.writeBackup {off bs} (h : s.Depths) : (writeBackup off bs s).Depths := by
  unfold Machine.writeBackup
  exact h.putBackup

protected theorem State.Depths.recordFault {cls unit port} (h : s.Depths) : (recordFault cls unit port s).Depths := by
  unfold Machine.recordFault
  exact h.set.set.set.set.set

protected theorem State.Depths.recordLastFault {v} (h : s.Depths) : (recordLastFault v s).Depths := by
  unfold Machine.recordLastFault
  exact h.writeBackup.writeBackup

protected theorem State.Depths.releaseTick (h : s.Depths) : (releaseTick s).Depths := by
  unfold Machine.releaseTick
  exact .ite h.upd.set.raise h.upd

protected theorem State.Depths.enterFailed {lastFault cls d restart} (h : s.Depths) :
    (enterFailed lastFault cls d restart s).Depths := by
  unfold Machine.enterFailed
  exact h.upd.lifetimeAdd.releaseOwn.upd.setDrive.stopSingletons.releaseTick.enterRole.recordLastFault.toPeers

protected theorem State.Depths.fail {cls unit port restart} (h : s.Depths) : (fail cls unit port restart s).Depths := by
  unfold Machine.fail
  exact h.recordFault.enterFailed

protected theorem State.Depths.failOff {cls restart} (h : s.Depths) : (failOff cls restart s).Depths := by
  unfold Machine.failOff
  exact h.recordFault.enterFailed

protected theorem State.Depths.refreshLck (h : s.Depths) : (refreshLck s).Depths := by
  unfold Machine.refreshLck
  exact h.setBit.setBit.setBit.setBit.set.setBit

end Sys2Proof.Machine
end

section
/-! SUPPORT. The depths are kept by gates, rings, the mailbox with the path of a command (`serve`), the Petal
engines, the timebase, the pair lines and the settings. -/

namespace Sys2Proof.Machine

variable {s : State}

/-! ### Machine/Gates -/

protected theorem State.Depths.showFifo {g} (h : s.Depths) : (showFifo g s).Depths := by
  unfold Machine.showFifo
  exact h.set.set.set.set.set.set.set.setBit.setBit.set.set.set.set.set.set.set

protected theorem State.Depths.violation {g w addr region size burst cause} (h : s.Depths) :
    (violation g w addr region size burst cause s).Depths := by
  unfold Machine.violation
  exact .raise (.ite h.bump.raise (.ite h.upd.showFifo.raise h.upd.showFifo))

protected theorem State.Depths.popReport {g} (h : s.Depths) : (popReport g s).Depths := by
  unfold Machine.popReport
  split
  · exact h
  · exact .fwLog (.showFifo h.upd)

protected theorem State.Depths.writeSeal {master privileged value} (h : s.Depths) :
    (writeSeal master privileged value s).Depths := by
  unfold Machine.writeSeal
  exact .ite (.foldl (.ite h.setBit.setBit h.setBit) fun _ _ h => h.setBit.set) h

protected theorem State.Depths.showLocked {g} (h : s.Depths) : (showLocked g s).Depths := h

protected theorem State.Depths.writeEntry {master privileged address value} (h : s.Depths) :
    (writeEntry master privileged address value s).Depths := by
  unfold Machine.writeEntry
  split
  exacts [.ite h.raise (.ite h h.setReg.showLocked), .ite h.raise (.ite h h.setReg), h]

protected theorem State.Depths.secureDram (h : s.Depths) : (secureDram s).Depths := by
  unfold Machine.secureDram
  exact h.foldl fun _ _ h => .ite h h.set.set.set.set.setBit.setBit.setBit.showLocked

protected theorem State.Depths.clearEntry {ent n} (h : s.Depths) : (clearEntry ent n s).Depths := by
  unfold Machine.clearEntry
  exact h.foldl fun _ _ h => h.setReg

protected theorem State.Depths.closeGate {g} (h : s.Depths) : (closeGate g s).Depths := by
  unfold Machine.closeGate
  exact .ite (h.set.setBit.foldl fun _ _ h => .ite h h.clearEntry) (h.set.setBit.foldl fun _ _ h => h.foldl
    fun _ _ h => .ite h h.clearEntry)

protected theorem State.Depths.drainGates (h : s.Depths) : (drainGates s).Depths := by
  unfold Machine.drainGates
  exact h.setBit.foldl fun _ _ h => .ite h.set h

/-! ### Machine/Rings -/

protected theorem State.Depths.ringFault {e} (h : s.Depths) : (ringFault e s).Depths := by
  unfold Machine.ringFault
  exact h.raise.raise

protected theorem State.Depths.ringInterrupt {n} (h : s.Depths) : (ringInterrupt n s).Depths := h

protected theorem State.Depths.ringCount {n new} (h : s.Depths) : (ringCount n new s).Depths := by
  unfold Machine.ringCount
  exact .ite (h.foldl fun _ _ h => h.ringInterrupt) (.ite h.ringInterrupt h)

protected theorem State.Depths.doorbell {n newProd} (h : s.Depths) : (doorbell n newProd s).Depths := by
  unfold Machine.doorbell
  exact .ite h.set.ringCount h.ringFault

protected theorem State.Depths.writeDoorbell {master ring newProd} (h : s.Depths) :
    (writeDoorbell master ring newProd s).Depths := by
  unfold Machine.writeDoorbell
  exact .ite h (.ite h.doorbell h.ringFault.violation)

protected theorem State.Depths.passDescriptors {n count} (h : s.Depths) : (passDescriptors n count s).Depths := by
  unfold Machine.passDescriptors
  exact .ite h (h.foldl fun _ _ h => .ite h h.ringFault)

protected theorem State.Depths.writeCons {n cons} (h : s.Depths) : (writeCons n cons s).Depths := by
  unfold Machine.writeCons
  exact h.passDescriptors.set.ringCount

protected theorem State.Depths.throughRing {n d} (h : s.Depths) : (throughRing n d s).Depths := by
  unfold Machine.throughRing
  exact .ite h (.ite h.doorbell h.setBytes.doorbell.writeCons)

protected theorem State.Depths.carry {n fam cmd seq flags status parts} (h : s.Depths) :
    (carry n fam cmd seq flags status parts s).Depths := by
  unfold Machine.carry
  exact .ite h (h.foldl fun _ _ h => h.took.throughRing)

/-! ### Machine/Mailbox -/

protected theorem State.Depths.updSess {i f} (h : s.Depths) : (State.updSess s i f).Depths := h

protected theorem State.Depths.showOut {i} (h : s.Depths) : (showOut i s).Depths := h

protected theorem State.Depths.showSessions (h : s.Depths) : (showSessions s).Depths := h

protected theorem State.Depths.holdOpen {i o} (h : s.Depths) : (holdOpen i o s).Depths := h

protected theorem State.Depths.carryRequest {i fam cmd r} (h : s.Depths) : (carryRequest i fam cmd r s).Depths := by
  unfold Machine.carryRequest
  exact .ite h.carry h

protected theorem State.Depths.carryAnswer {m} (h : s.Depths) : (carryAnswer m s).Depths := by
  unfold Machine.carryAnswer
  extract_lets +onlyGivenNames by'
  split
  exacts [.ite h.carry h, .ite h.carry h, h]

protected theorem State.Depths.post {m} (h : s.Depths) : (post m s).Depths := by
  unfold Machine.post
  exact h.carryAnswer.send

protected theorem State.Depths.sendStages {r fam cmd stages} (h : s.Depths) :
    (sendStages r fam cmd stages s).Depths := by
  unfold Machine.sendStages
  split
  exacts [h, h.foldl fun _ _ h => h.took.took.post]

protected theorem State.Depths.respond {i seq fam cmd status payload} (h : s.Depths) :
    (respond i seq fam cmd status payload s).Depths := by
  unfold Machine.respond
  exact h.post

protected theorem State.Depths.respondMalformed {i seq fam cmd} (h : s.Depths) :
    (respondMalformed i seq fam cmd s).Depths := by
  unfold Machine.respondMalformed
  exact h.respond.raise

protected theorem State.Depths.finishD {i o status payload} (h : s.Depths) : (finishD i o status payload s).Depths := by
  unfold Machine.finishD
  exact .showOut (.updSess (.ite h h.respond.raiseIf))

protected theorem State.Depths.finishAll {fam cmd status payload} (h : s.Depths) :
    (finishAll fam cmd status payload s).Depths := by
  unfold Machine.finishAll
  exact h.foldl fun _ _ h => h.foldl fun _ _ h => h.finishD

protected theorem State.Depths.dropTransfers {p} (h : s.Depths) : (dropTransfers p s).Depths := h

protected theorem State.Depths.cancelEffect {i o} (h : s.Depths) : (cancelEffect i o s).Depths := by
  unfold Machine.cancelEffect
  exact .ite h.upd (.ite h.upd.setBit h.dropTransfers)

protected theorem State.Depths.closeSession {i} (h : s.Depths) : (closeSession i s).Depths := by
  unfold Machine.closeSession
  extract_lets +onlyGivenNames s1
  have h1 : s1.Depths := h.foldl fun _ _ h => h.cancelEffect
  clear_value s1
  exact h1

protected theorem State.Depths.judgeLate {cls r responded} (h : s.Depths) : (judgeLate cls r responded s).Depths := by
  unfold Machine.judgeLate
  split
  exacts [h, h.raiseIf]

protected theorem State.Depths.takePosted {ring} (h : s.Depths) : (takePosted ring s).2.Depths := by
  unfold Machine.takePosted
  split
  exacts [h.upd, h]

protected theorem State.Depths.petalRejected {t} (h : s.Depths) : (petalRejected t s).Depths := by
  unfold Machine.petalRejected
  split
  exacts [h.upd, h]

protected theorem State.Depths.refuse {fam cmd cls r status detail} (h : s.Depths) :
    (refuse fam cmd cls r status detail s).Depths := by
  unfold Machine.refuse
  split
  · extract_lets +onlyGivenNames p
    exact h.takePosted.petalRejected
  · extract_lets +onlyGivenNames s1
    have h1 : s1.Depths := .ite h.raise h
    exact .ite h1 h1.respond.judgeLate

protected theorem State.Depths.dropSegments {i fam cmd seq} (h : s.Depths) : (dropSegments i fam cmd seq s).Depths := by
  unfold Machine.dropSegments
  exact h.updSess.respondMalformed

protected theorem State.Depths.beginsAfresh {i r} (h : s.Depths) : (beginsAfresh i r s).Depths := by
  unfold Machine.beginsAfresh
  exact .ite h.updSess h

protected theorem State.Depths.serve {fam cmd r lenOk act} (h : s.Depths)
    (hact : ∀ t : State, t.Depths → (act t).Depths) :
    (serve fam cmd r lenOk act s).Depths := by
  unfold Machine.serve
  split
  · exact h.refuse
  · split
    · extract_lets +onlyGivenNames s1
      have h1 : s1.Depths := h.beginsAfresh
      refine .ite h1.respond (.ite h1.dropSegments (.ite (.ite h1.refuse.closeSession h1.refuse)
        (.carryRequest (.ite h1.refuse ?_))))
      split
      · exact h1.refuse
      · have ha := hact s1 h1
        split
        · rename_i s' p heq
          have h' : s'.Depths := (heq ▸ ha :)
          exact .ite h'.judgeLate h'.respond.judgeLate
        · rename_i s' st d heq
          have h' : s'.Depths := (heq ▸ ha :)
          exact h'.refuse
        · rename_i s' heq
          have h' : s'.Depths := (heq ▸ ha :)
          exact h'.holdOpen
    · refine .ite h (.ite h.ringFault.refuse ?_)
      split
      · exact h.refuse
      · have ha := hact s h
        split
        · rename_i s' p heq
          have h' : s'.Depths := (heq ▸ ha :)
          exact h'.judgeLate.takePosted
        · rename_i s' st d heq
          have h' : s'.Depths := (heq ▸ ha :)
          exact h'.refuse
        · rename_i s' heq
          exact (heq ▸ ha :)

protected theorem State.Depths.conflict (h : s.Depths) : (conflict s).Depths := by
  unfold Machine.conflict
  exact .err h

/-! ### Machine/Engine -/

protected theorem State.Depths.putEng {e g} (h : s.Depths) (hg : g.Depths) : (State.putEng s e g).Depths := by
  unfold Machine.State.putEng
  exact fun x hx => (mem_listSet hx).elim (h x) fun hgx => hgx ▸ hg

/-- Engines at rest are within their depths. -/
theorem State.Depths.rested {l : Nat} (h : s.prog.engines = List.replicate l {}) : s.Depths := fun g hg => by
  rw [h] at hg
  rw [List.eq_of_mem_replicate hg]
  exact .empty

protected theorem State.Depths.updTask {t f} (h : s.Depths) : (State.updTask s t f).Depths := h

protected theorem State.Depths.ringDoorbells {e} (h : s.Depths) : (ringDoorbells e s).Depths := by
  unfold Machine.ringDoorbells
  extract_lets +onlyGivenNames s1
  have h1 : s1.Depths := h.foldl fun _ _ h => .ite h h.doorbell
  clear_value s1
  exact h1.putEng (h1.eng e)

protected theorem State.Depths.foldState {e} (h : s.Depths) : (foldState e s).Depths := by
  unfold Machine.foldState
  exact h.putEng (h.eng e)

protected theorem State.Depths.applyForces {e u i err} (h : s.Depths) : (applyForces e u i err s).Depths := by
  unfold Machine.applyForces
  refine h.foldl fun _ _ h => .ite h ?_
  split
  exacts [.ite (h.setBytes.putEng (h.setBytes.eng e)) h, h]

protected theorem State.Depths.beginSegment {e t seg} (h : s.Depths) : (beginSegment e t seg s).Depths := by
  unfold Machine.beginSegment
  split
  · exact h
  · split
    · exact h
    · split
      · exact h
      · split
        · exact h
        · exact .putEng (.applyForces (.ite h h.updTask.setBytes.updTask)) .empty

protected theorem State.Depths.startNext {e l} (h : s.Depths) : (startNext e l s).Depths := by
  induction l generalizing s with
  | nil => exact h.putEng (h.eng e)
  | cons p r ih => exact .ite (ih h) (.beginSegment (h.putEng (h.eng e)))

protected theorem State.Depths.closeSegment {e} (h : s.Depths) : (closeSegment e s).Depths := by
  unfold Machine.closeSegment
  extract_lets +onlyGivenNames g s1
  have h1 : s1.Depths := h.updTask
  exact h1.program

protected theorem State.Depths.finishSegment {e} (h : s.Depths) : (finishSegment e s).Depths := by
  unfold Machine.finishSegment
  extract_lets +onlyGivenNames s1
  have h1 : s1.Depths := h.closeSegment.ringDoorbells
  clear_value s1
  exact .ite (h1.putEng (h1.eng e)) h1.startNext

protected theorem State.Depths.copyOut {e t} (h : s.Depths) : (copyOut e t s).Depths := by
  unfold Machine.copyOut
  split
  · exact h
  · split
    · exact h
    · extract_lets +onlyGivenNames img s1 g s2
      have h1 : s1.Depths := h.setBytes
      clear_value s1
      have h2 : s2.Depths := h1.putEng (h1.eng e)
      exact h2.updTask

protected theorem State.Depths.noteFault {t code} (h : s.Depths) : (noteFault t code s).Depths := by
  unfold Machine.noteFault
  extract_lets +onlyGivenNames halt s1
  have h1 : s1.Depths := h.updTask
  exact h1.program

protected theorem State.Depths.moduleReaction {code hard} (h : s.Depths) : (moduleReaction code hard s).Depths := by
  unfold Machine.moduleReaction
  exact .ite h.fail (.ite h.raise.fail (.ite (.ite h.raise.fail h.raise) h))

protected theorem State.Depths.faultRunning {e code} (h : s.Depths) : (faultRunning e code s).Depths := by
  unfold Machine.faultRunning
  extract_lets +onlyGivenNames g
  split
  · extract_lets +onlyGivenNames s1 s2 s3
    have h3 : s3.Depths := h.closeSegment.updTask.ringDoorbells
    clear_value s3
    exact .fwLog (h3.putEng (h3.eng e))
  · extract_lets +onlyGivenNames s1
    have h1 : s1.Depths := h.closeSegment.noteFault
    clear_value s1
    exact .startNext (.ringDoorbells (h1.putEng (h1.eng e)))

protected theorem State.Depths.taskFault {e code hard} (h : s.Depths) : (taskFault e code hard s).Depths := by
  unfold Machine.taskFault
  exact h.faultRunning.moduleReaction

/-! ### Machine/TimeBase -/

protected theorem State.Depths.setBkd {t} (h : s.Depths) : (State.setBkd s t).Depths := h

protected theorem State.Depths.wakeFromPark {cause} (h : s.Depths) : (wakeFromPark cause s).Depths := by
  unfold Machine.wakeFromPark
  split
  exacts [h.set.setBit.raise, h.set.set, h]

protected theorem State.Depths.convOff (h : s.Depths) : (convOff s).Depths := by
  unfold Machine.convOff
  exact h.setBit.releaseOwn.releaseTick.setDrive

protected theorem State.Depths.fireAlarm {skipped} (h : s.Depths) : (fireAlarm skipped s).Depths := by
  unfold Machine.fireAlarm
  exact .ite h.raise.raiseIf.setBit.wakeFromPark h.raise.raiseIf.setBit

protected theorem State.Depths.bkdAdvance {n} (h : s.Depths) : (bkdAdvance n s).Depths := by
  unfold Machine.bkdAdvance
  exact .ite (.fireAlarm (.ite h.setBkd h.setBkd.set)) (.ite h.setBkd h.setBkd.set)

protected theorem State.Depths.bkdMove {t} (h : s.Depths) : (bkdMove t s).Depths := by
  unfold Machine.bkdMove
  exact .ite h.setBkd.fireAlarm h.setBkd

protected theorem State.Depths.elapse {dt} (h : s.Depths) : (elapse dt s).Depths := by
  unfold Machine.elapse
  extract_lets +onlyGivenNames ph b s1 s2 s3 s4 s5 s6 s7
  have h3 : s3.Depths := .set (.bkdAdvance h.upd)
  have h7 : s7.Depths := by
    refine .foldl (.setBit (.set (.ite h3.set h3))) fun _ _ h => ?_
    split
    exacts [h.set, h]
  exact .ite (.set h7.upd) h7

protected theorem State.Depths.runCycles {n} (h : s.Depths) : (runCycles n s).Depths := by
  unfold Machine.runCycles
  exact h.upd.setNow.elapse

protected theorem State.Depths.advanceTo {t} (h : s.Depths) : (advanceTo t s).Depths := by
  unfold Machine.advanceTo
  exact .ite h.runCycles h

protected theorem State.Depths.toPhase {d} (h : s.Depths) : (toPhase d s).Depths := by
  unfold Machine.toPhase
  exact h.advanceTo

protected theorem State.Depths.updSrc {n f} (h : s.Depths) : (updSrc n f s).Depths := h

protected theorem State.Depths.showPrio (h : s.Depths) : (showPrio s).Depths := h

protected theorem State.Depths.refreshQuality (h : s.Depths) : (refreshQuality s).Depths := by
  unfold Machine.refreshQuality
  exact .raiseIf (.showPrio (.ite h.set.set.setBit.setBit.setBit h.set.set.setBit.setBit.setBit.upd.set))

protected theorem State.Depths.setTimeFault {bit b} (h : s.Depths) : (setTimeFault bit b s).Depths := h

protected theorem State.Depths.setTaiUtc {known offset leap61 leap59} (h : s.Depths) :
    (setTaiUtc known offset leap61 leap59 s).Depths := by
  unfold Machine.setTaiUtc
  exact h.setBit.set.setBit.setBit.setBit

protected theorem State.Depths.setSource {n} (h : s.Depths) : (setSource n s).Depths := by
  unfold Machine.setSource
  exact .ite h h.set.raise

protected theorem State.Depths.setTickRole {n} (h : s.Depths) : (setTickRole n s).Depths := by
  unfold Machine.setTickRole
  exact .ite h h.set.raise

protected theorem State.Depths.refreshTai (h : s.Depths) : (refreshTai s).Depths := by
  unfold Machine.refreshTai
  extract_lets +onlyGivenNames src
  refine .ite h ?_
  split
  · exact h.setTaiUtc
  · split
    exacts [h.setTaiUtc, .ite h.setTaiUtc h.setTaiUtc]

protected theorem State.Depths.enterHoldover (h : s.Depths) : (enterHoldover s).Depths := h

protected theorem State.Depths.leaveFollowed (h : s.Depths) : (leaveFollowed s).Depths := by
  unfold Machine.leaveFollowed
  exact .ite h (.ite h h.upd.enterHoldover)

protected theorem State.Depths.setOwnSource {n} (h : s.Depths) : (setOwnSource n s).Depths := by
  unfold Machine.setOwnSource
  exact .setSource (.ite h.leaveFollowed h)

protected theorem State.Depths.refreshSource (h : s.Depths) : (refreshSource s).Depths := by
  unfold Machine.refreshSource
  exact .ite h.upd.setSource (.ite h.upd.setOwnSource (.ite h.upd h.upd.setOwnSource))

protected theorem State.Depths.standForTick (h : s.Depths) : (standForTick s).Depths := by
  unfold Machine.standForTick
  exact .ite h.setTickRole h

protected theorem State.Depths.reviewTime (h : s.Depths) : (reviewTime s).Depths := by
  unfold Machine.reviewTime
  exact h.standForTick.refreshSource.refreshTai.refreshQuality

protected theorem State.Depths.stepCounter {t} (h : s.Depths) : (stepCounter t s).Depths := by
  unfold Machine.stepCounter
  exact .raise h

protected theorem State.Depths.servo {ofs} (h : s.Depths) : (servo ofs s).Depths := by
  unfold Machine.servo
  exact .ite h.stepCounter.set h.setInt

protected theorem State.Depths.refreshRunLock (h : s.Depths) : (refreshRunLock s).Depths := by
  unfold Machine.refreshRunLock
  exact h.setBit

/-! ### Machine/PairOps -/

protected theorem State.Depths.portUp {p b} (h : s.Depths) : (portUp p b s).Depths := by
  unfold Machine.portUp
  exact h.set

protected theorem State.Depths.hhkArrive {type hdr} (h : s.Depths) : (hhkArrive type hdr s).2.Depths := by
  unfold Machine.hhkArrive
  refine .iteSnd ?_ (.iteSnd ?_ ?_)
  · dsimp only
    exact h.bump.raise
  · dsimp only
    exact h.bump.raise
  · extract_lets +onlyGivenNames p s1 s2
    have h2 : s2.Depths := .portUp h.upd
    clear_value s2
    exact .iteSnd h2 (.iteSnd h2 (.iteSnd h2 h2.upd))

protected theorem State.Depths.onFrame {type hdr f} (h : s.Depths) (hf : ∀ t, t.Depths → (f t).Depths) :
    (onFrame type hdr f s).Depths := by
  unfold Machine.onFrame
  exact .ite (hf _ h.hhkArrive) h.hhkArrive

protected theorem State.Depths.relay {type hdr body} (h : s.Depths) : (relay type hdr body s).Depths := h

protected theorem State.Depths.onRouted {type body hdr f} (h : s.Depths) (hf : ∀ t, t.Depths → (f t).Depths) :
    (onRouted type body hdr f s).Depths := by
  unfold Machine.onRouted
  exact h.onFrame (fun _ h => .ite h.relay (hf _ h))

protected theorem State.Depths.putPeer {p} (h : s.Depths) : (putPeer p s).Depths := h

protected theorem State.Depths.peerRole {slot r} (h : s.Depths) : (peerRole slot r s).Depths := by
  unfold Machine.peerRole
  exact h.upd.set

protected theorem State.Depths.dropPeer {slot} (h : s.Depths) : (dropPeer slot s).Depths := by
  unfold Machine.dropPeer
  exact h.upd.reviewTime

protected theorem State.Depths.showTriad (h : s.Depths) : (showTriad s).Depths := by
  unfold Machine.showTriad
  exact .ite h h.set.set

protected theorem State.Depths.restoreCkpt {n c} (h : s.Depths) : (restoreCkpt n c s).Depths := by
  unfold Machine.restoreCkpt
  split <;> exact h.upd

protected theorem State.Depths.sendCkpt {n} (h : s.Depths) : (sendCkpt s n).Depths := by
  unfold Machine.sendCkpt
  exact .ite h (.ite h.upd.toPeers.upd h.upd.toPeers)

protected theorem State.Depths.keepCkpt {n c} (h : s.Depths) : (keepCkpt n c s).Depths := by
  unfold Machine.keepCkpt
  exact h.upd.setBit.set

protected theorem State.Depths.startSingletons (h : s.Depths) : (startSingletons s).Depths := by
  unfold Machine.startSingletons
  refine .ite h (.showPublishing (h.upd.foldl fun _ _ h => .ite h (.setBit ?_)))
  split
  exacts [h.restoreCkpt, h]

protected theorem State.Depths.armStandby (h : s.Depths) : (armStandby s).Depths := by
  unfold Machine.armStandby
  exact .ite h h.arm

protected theorem State.Depths.recordCmp {r} (h : s.Depths) : (recordCmp r s).Depths := h

protected theorem State.Depths.dropPending (h : s.Depths) : (dropPending s).Depths := by
  unfold Machine.dropPending
  exact .upd (h.foldl fun _ _ h => h.recordCmp)

protected theorem State.Depths.goSyncing (h : s.Depths) : (goSyncing s).Depths := by
  unfold Machine.goSyncing
  exact h.disarm.dropPending.upd.enterRole.sendJoin

protected theorem State.Depths.resumeSingletons (h : s.Depths) : (resumeSingletons s).Depths := by
  unfold Machine.resumeSingletons
  exact .showPublishing (.upd (h.foldl fun _ _ h => .ite h.setBit h))

protected theorem State.Depths.cancelHandover (h : s.Depths) : (cancelHandover s).Depths := by
  unfold Machine.cancelHandover
  exact h.upd.resumeSingletons

protected theorem State.Depths.countMove (h : s.Depths) : (countMove s).Depths := h

protected theorem State.Depths.cancelUnmoved (h : s.Depths) : (cancelUnmoved s).Depths := by
  unfold Machine.cancelUnmoved
  exact .ite h h.cancelHandover

/-! ### Machine/Settings -/

protected theorem State.Depths.confWrite {o b} (h : s.Depths) : (confWrite o b s).Depths := by
  unfold Machine.confWrite
  exact .ite h.upd.nandConf.upd h.upd.nandConf

protected theorem State.Depths.pendObject {o f b} (h : s.Depths) : (pendObject o f b s).Depths := by
  unfold Machine.pendObject
  exact h.upd.toPeers

protected theorem State.Depths.setConfig {fam obj r bad clash} (h : s.Depths) :
    (setConfig fam obj r bad clash s).Depths := by
  unfold Machine.setConfig
  refine h.serve (fun _ h => ?_)
  split
  exacts [.err h, .ite h.conflict (.ok h.confWrite.pendObject)]

protected theorem State.Depths.putConf {o b} (h : s.Depths) : (putConf o b s).Depths := h

/-! ### Machine/Stations -/

protected theorem State.Depths.putDropped {m} (h : s.Depths) : (putDropped m s).Depths := h

protected theorem State.Depths.touchBlock {key} (h : s.Depths) : (touchBlock key s).Depths := by
  unfold Machine.touchBlock
  exact h.upd

protected theorem State.Depths.markDropped {j} (h : s.Depths) : (markDropped j s).Depths := h

protected theorem State.Depths.reviewStation {t r} (h : s.Depths) : (reviewStation t s r).Depths := by
  unfold Machine.reviewStation
  exact .ite h (.raise (.ite h.putDropped.upd h.putDropped.upd.markDropped))

protected theorem State.Depths.reviewStationsAt {t} (h : s.Depths) : (reviewStationsAt t s).Depths := by
  unfold Machine.reviewStationsAt
  split
  exacts [h.foldl fun _ _ h => h.reviewStation, h]

protected theorem State.Depths.reviewStations (h : s.Depths) : (reviewStations s).Depths := by
  unfold Machine.reviewStations
  exact h.reviewStationsAt

protected theorem State.Depths.expireSub {i} (h : s.Depths) : (expireSub s i).Depths := by
  unfold Machine.expireSub
  exact .ite h.setBit.reviewStationsAt h

protected theorem State.Depths.expireSubs (h : s.Depths) : (expireSubs s).Depths := by
  unfold Machine.expireSubs
  exact h.foldl fun _ _ h => h.expireSub

end Sys2Proof.Machine
end

section
/-! SUPPORT. The depths are kept by Aster and Larkspur. -/

namespace Sys2Proof.Machine

variable {s : State}

/-! ### Machine/Aster -/

protected theorem State.Depths.updAst {f} (h : s.Depths) : (State.updAst s f).Depths := h

protected theorem State.Depths.updStr {n f} (h : s.Depths) : (State.updStr s n f).Depths := h

protected theorem State.Depths.showAligned (h : s.Depths) : (showAligned s).Depths := by
  unfold Machine.showAligned
  exact h.set

protected theorem State.Depths.rejectSv {n} (h : s.Depths) : (rejectSv n s).Depths := by
  unfold Machine.rejectSv
  exact h.bump.raise

protected theorem State.Depths.streamUsable {n place nom} (h : s.Depths) : (streamUsable n place nom s).Depths := by
  unfold Machine.streamUsable
  exact .ite h.updStr.updStr.set (.ite h.updStr.set.raise.showAligned.reviewStations h.updStr)

protected theorem State.Depths.acceptSample {n place nom transitUs usable vals} (h : s.Depths) :
    (acceptSample n place nom transitUs usable vals s).Depths := by
  unfold Machine.acceptSample
  exact .updStr (.ite (.touchBlock (.streamUsable (.updStr (.ite h.set.maxTo.bump h.set.maxTo)))) (.raise (.updStr
    (.updStr (.ite h.set.maxTo.bump h.set.maxTo)))))

protected theorem State.Depths.takeAsdu {n f a} (h : s.Depths) : (takeAsdu n f s a).Depths := by
  unfold Machine.takeAsdu
  exact .ite h.rejectSv (.ite h.set (.ite h.set.bump (.ite h.set.rejectSv h.set.set.set.acceptSample)))

protected theorem State.Depths.takeSv {n f} (h : s.Depths) : (takeSv n f s).Depths := by
  unfold Machine.takeSv
  exact h.setBit.foldl fun _ _ h => h.takeAsdu

protected theorem State.Depths.freezeBatch {k} (h : s.Depths) : (freezeBatch k s).2.Depths := by
  unfold Machine.freezeBatch
  exact State.Depths.foldlSnd (fun _ _ h => .foldl h.updStr fun _ _ h => .ite h.bump.raise h) h

protected theorem State.Depths.takeBatch {k rows self} (h : s.Depths) : (takeBatch k rows self s).Depths := by
  unfold Machine.takeBatch
  exact .foldl (h.foldl fun _ _ h => h.updStr) fun _ _ h => .ite h.updStr h

protected theorem State.Depths.showRef {b r valid oor fb settling e} (h : s.Depths) :
    (showRef b r valid oor fb settling e s).Depths := by
  unfold Machine.showRef
  exact .ite h.setBit.setBit.setBit.setBit.set.setInt.setInt h.setBit.setBit.setBit.setBit.set

protected theorem State.Depths.estimateRef {onTime rows chk k r} (h : s.Depths) :
    (estimateRef onTime rows chk k s r).Depths := by
  unfold Machine.estimateRef
  exact .ite h h.updAst.showRef.raiseIf

protected theorem State.Depths.estimateChan {s0 onTime rows chk k c} (h : s.Depths) :
    (estimateChan s0 onTime rows chk k s c).Depths := by
  unfold Machine.estimateChan
  exact .ite h h.updAst

protected theorem State.Depths.estimateSet {s0 onTime rows k j} (h : s.Depths) :
    (estimateSet s0 onTime rows k s j).Depths := by
  unfold Machine.estimateSet
  exact .ite h (h.foldl fun _ _ h => h.updAst)

protected theorem State.Depths.showRefs (h : s.Depths) : (showRefs s).Depths := h

protected theorem State.Depths.formEstimates {onTime} (h : s.Depths) : (formEstimates onTime s).Depths := by
  unfold Machine.formEstimates
  exact .showRefs (.foldl (.foldl (h.updAst.foldl fun _ _ h => h.estimateRef) fun _ _ h => h.estimateChan)
    fun _ _ h => h.estimateSet)

protected theorem State.Depths.showPmus (h : s.Depths) : (showPmus s).Depths := by
  unfold Machine.showPmus
  exact h.foldl fun _ _ h => h.setBit.setBit.setBit

protected theorem State.Depths.sendReports {udp} (h : s.Depths) : (sendReports udp s).Depths := by
  unfold Machine.sendReports
  refine h.foldl fun _ _ h => .ite ?_ h
  split
  · extract_lets +onlyGivenNames way
    exact h.netTx
  · exact h

protected theorem State.Depths.applyStream {old b n} (h : s.Depths) : (applyStream old b s n).Depths := by
  unfold Machine.applyStream
  exact .ite h.updStr.setReg.set h

protected theorem State.Depths.dropItems {b} (h : s.Depths) : (dropItems b s).Depths := by
  unfold Machine.dropItems
  exact .showRefs (h.updAst.foldl fun _ _ h => .ite h h.setReg.setReg.setReg)

protected theorem State.Depths.astApply {k b} (h : s.Depths) : (astApply k b s).Depths := by
  unfold Machine.astApply
  exact .reviewStations (.showPmus (.showAligned (.raise (.setBit (.setBit (.set (.foldl (.updAst (.dropItems
    (h.putConf.foldl fun _ _ h => h.applyStream))) fun _ _ h => h.setBit)))))))

protected theorem State.Depths.astDomainReset (h : s.Depths) : (astDomainReset s).Depths := by
  unfold Machine.astDomainReset
  exact .reviewStations (.showAligned (h.foldl fun _ _ h => .ite h.updStr.set h))

protected theorem State.Depths.execC37118Command {stream client cmd} (h : s.Depths) :
    (execC37118Command stream client cmd s).Depths := by
  unfold Machine.execC37118Command
  refine .next ?_
  extract_lets +onlyGivenNames b
  refine .ite h ?_
  extract_lets +onlyGivenNames answer
  split
  exacts [h.setBit.showPmus, h.setBit.showPmus, h.netTx, h.netTx, h.netTx, h.netTx, h]

protected theorem State.Depths.execAsterGetPhasors {r} (h : s.Depths) : (execAsterGetPhasors r s).Depths := by
  unfold Machine.execAsterGetPhasors
  refine .next (h.serve (fun _ h => ?_))
  extract_lets +onlyGivenNames sel first n lim
  split
  · exact .err h
  · extract_lets +onlyGivenNames b d
    exact .ok h

protected theorem State.Depths.setStreaming {mask on} (h : s.Depths) : (setStreaming mask on s).Depths := by
  unfold Machine.setStreaming
  exact .showPmus (h.foldl fun _ _ h => .ite h.setBit h)

protected theorem State.Depths.pendStreaming {f mask on} (h : s.Depths) : (pendStreaming f mask on s).Depths := h

protected theorem State.Depths.streamingDue {k} (h : s.Depths) : (streamingDue k s).Depths := by
  unfold Machine.streamingDue
  exact h.updAst.foldl fun _ _ h => h.setStreaming

/-! ### Machine/LspLanes -/

protected theorem State.Depths.updLsp {f} (h : s.Depths) : (State.updLsp s f).Depths := h

protected theorem State.Depths.showNoise {g} (h : s.Depths) : (showNoise s g).Depths := by
  unfold Machine.showNoise
  exact .ite h h.set.set

protected theorem State.Depths.takeGroupFrame {g k} (h : s.Depths) : (takeGroupFrame g k s).Depths := by
  unfold Machine.takeGroupFrame
  extract_lets +onlyGivenNames p
  refine .ite h ?_
  split
  · extract_lets +onlyGivenNames r
    exact h.updLsp.showNoise
  · exact h

/-! ### Machine/Larkspur -/

protected theorem State.Depths.showLspLanes (h : s.Depths) : (showLspLanes s).Depths := h

protected theorem State.Depths.toHunt {n} (h : s.Depths) : (toHunt s n).Depths := by
  unfold Machine.toHunt
  exact .ite h h.set.raiseIf

protected theorem State.Depths.recordMark (h : s.Depths) : (recordMark s).Depths := by
  unfold Machine.recordMark
  exact .ite (.showLspLanes (h.updLsp.foldl fun _ _ h => h.toHunt)) h.updLsp

protected theorem State.Depths.updOpen {g f} (h : s.Depths) : (updOpen g f s).Depths := h

protected theorem State.Depths.keepLaneFrame {n k x prev} (h : s.Depths) : (keepLaneFrame n k x prev s).Depths := by
  unfold Machine.keepLaneFrame
  extract_lets +onlyGivenNames s1
  have h1 : s1.Depths := h.updLsp
  split
  · extract_lets +onlyGivenNames r step
    exact h1.updLsp
  · exact h1

protected theorem State.Depths.updEvents {p f} (h : s.Depths) : (updEvents p f s).Depths := h

protected theorem State.Depths.markLaneFault {g k x} (h : s.Depths) : (markLaneFault g k x s).Depths := by
  unfold Machine.markLaneFault
  exact .ite h h.updEvents

protected theorem State.Depths.execLaneFrame {lane pairs mark} (h : s.Depths) :
    (execLaneFrame lane pairs mark s).Depths := by
  unfold Machine.execLaneFrame
  refine .next (.ite h ?_)
  extract_lets +onlyGivenNames c errs k has s1 s2 s3 s4 s5
  have h1 : s1.Depths := h.bump.bump
  have h2 : s2.Depths := .ite h1.bump h1
  have h3 : s3.Depths := .ite h2.bump.markLaneFault h2
  have h5 : s5.Depths := h3.set.setBit.setBit.setBit.keepLaneFrame.takeGroupFrame
  exact .showLspLanes (.ite (.ite h5.set h5) (.ite h5.set (.ite h5.toHunt h5.raiseIf)))

protected theorem State.Depths.setArmed {g b} (h : s.Depths) : (setArmed g b s).Depths := by
  unfold Machine.setArmed
  exact h.setBit.set

protected theorem State.Depths.reformGroup {g} (h : s.Depths) : (reformGroup g s).Depths := by
  unfold Machine.reformGroup
  exact h.updLsp.setArmed

protected theorem State.Depths.triggerRecord {manual group lanes t tag evt} (h : s.Depths) :
    (triggerRecord manual group lanes t tag evt s).Depths := by
  unfold Machine.triggerRecord
  exact .ite h.updLsp h.updLsp

protected theorem State.Depths.triggerByEvent {e t} (h : s.Depths) : (triggerByEvent e t s).Depths := by
  unfold Machine.triggerByEvent
  exact h.triggerRecord

protected theorem State.Depths.settleDir {v mode time pol} (h : s.Depths) : (settleDir v mode time pol s).Depths := by
  unfold Machine.settleDir
  refine h.updLsp.foldl fun _ _ h => ?_
  split
  exacts [h.set, h]

protected theorem State.Depths.openEvent {d} (h : s.Depths) : (openEvent d s).Depths := by
  unfold Machine.openEvent
  exact .raise (.ite h.updLsp.setBit.set.triggerByEvent h.updLsp.setBit.set)

protected theorem State.Depths.noteDetection {k n d} (h : s.Depths) : (noteDetection k n d s).Depths := by
  unfold Machine.noteDetection
  exact .ite h.updLsp.settleDir h.updLsp

protected theorem State.Depths.takeDetection {k n d} (h : s.Depths) : (takeDetection k n d s).Depths := by
  unfold Machine.takeDetection
  refine .noteDetection ?_
  split
  · extract_lets +onlyGivenNames s1
    have h1 : s1.Depths := .ite h.triggerByEvent h
    exact h1.updOpen
  · exact h.openEvent

protected theorem State.Depths.closeEvent {g e} (h : s.Depths) : (closeEvent g e s).Depths := by
  unfold Machine.closeEvent
  exact .ite h.updLsp.setBit.reformGroup h.updLsp.setBit

protected theorem State.Depths.showEvent {k wave lines e} (h : s.Depths) : (showEvent k wave lines e s).Depths := by
  unfold Machine.showEvent
  exact .foldl (.ite h.updLsp h) fun _ _ h => .ite h.updLsp h

protected theorem State.Depths.numberRecords {r q} (h : s.Depths) : (numberRecords r q s).Depths := h

protected theorem State.Depths.admitReport {k r} (h : s.Depths) : (admitReport k s r).Depths := by
  unfold Machine.admitReport
  refine .ite h.updLsp ?_
  extract_lets +onlyGivenNames q v s1 s2 s3
  have h1 : s1.Depths := h.took.set
  have h2 : s2.Depths := h1.updEvents
  have h3 : s3.Depths := h2.updLsp.numberRecords
  split
  exacts [h3.showEvent, h3]

protected theorem State.Depths.expireReports {k} (h : s.Depths) : (expireReports k s).Depths := by
  unfold Machine.expireReports
  refine h.updLsp.foldl fun _ _ h => .ite h.raise ?_
  split
  · exact h
  · extract_lets +onlyGivenNames ls
    exact .ite h h.updEvents.showEvent.raise

protected theorem State.Depths.matchReports {k} (h : s.Depths) : (matchReports k s).Depths := by
  unfold Machine.matchReports
  extract_lets rem loc step r
  have hstep (p : State × List WfReport) (a : WfReport) (hp : p.1.Depths) : (step p a).1.Depths := by
    unfold step
    split
    · exact hp
    · exact .ite (.foldl (.showEvent hp.updEvents) fun _ _ h => h.triggerByEvent) (.showEvent hp.updEvents)
  have hr : r.1.Depths := State.Depths.foldlFst hstep h
  exact hr.updLsp

protected theorem State.Depths.closeReports {k} (h : s.Depths) : (closeReports k s).Depths := by
  unfold Machine.closeReports
  exact h.foldl fun _ _ h => h.updEvents.showEvent

protected theorem State.Depths.locateRound {k} (h : s.Depths) : (locateRound k s).2.Depths := by
  unfold Machine.locateRound
  extract_lets +onlyGivenNames n was enter s1 s2
  have h1 : s1.Depths := h.updLsp
  have h2 : s2.Depths := .closeReports (h1.foldl fun _ _ h => h.admitReport)
  exact h2.matchReports

protected theorem State.Depths.locateRounds {k f l} (h : s.Depths) : (locateRounds k f l s).2.Depths := by
  induction f generalizing s l with
  | zero => exact h
  | succ f ih =>
    unfold Machine.locateRounds
    split
    · exact h
    · exact ih h.locateRound

protected theorem State.Depths.lspCutOff {k} (h : s.Depths) : (lspCutOff k s).2.Depths := by
  unfold Machine.lspCutOff
  extract_lets +onlyGivenNames r
  exact h.expireReports.locateRound.locateRounds

protected theorem State.Depths.markSelf {k new} (h : s.Depths) : (markSelf k new s).Depths := by
  unfold Machine.markSelf
  exact h.updLsp.foldl fun _ _ h => h.updEvents

protected theorem State.Depths.lspTake {own self sn} (h : s.Depths) : (lspTake own self sn s).Depths := by
  unfold Machine.lspTake
  extract_lets +onlyGivenNames b k new s1 s2 s3 s4
  have h2 : s2.Depths := h.updLsp.foldl fun _ _ h => .ite h (.updEvents (.set (h.foldl fun _ _ h => h.numberRecords)))
  have h3 : s3.Depths := .ite h (h2.foldl fun _ _ h => .ite (.ite h.updLsp h.updLsp) h)
  exact .updLsp (.ite h3.markSelf h3)

protected theorem State.Depths.sendReport {r} (h : s.Depths) : (sendReport r s).Depths := by
  unfold Machine.sendReport
  exact h.foldl fun _ _ h => h.netTx

protected theorem State.Depths.publishReport {r} (h : s.Depths) : (publishReport s r).Depths := by
  unfold Machine.publishReport
  exact h.updLsp.sendReport

protected theorem State.Depths.releaseReports (h : s.Depths) : (releaseReports s).Depths := by
  unfold Machine.releaseReports
  exact .ite (h.updLsp.foldl fun _ _ h => h.publishReport) h.updLsp

protected theorem State.Depths.retransmit {r} (h : s.Depths) : (retransmit r s).Depths := by
  unfold Machine.retransmit
  exact h.updLsp.sendReport

protected theorem State.Depths.showArch (h : s.Depths) : (showArch s).Depths := by
  unfold Machine.showArch
  exact h.set.set

protected theorem State.Depths.captureRecord {r} (h : s.Depths) : (captureRecord r s).Depths := by
  unfold Machine.captureRecord
  exact .ite h.updLsp.raise h.updLsp.updLsp.set

protected theorem State.Depths.reclaimArch (h : s.Depths) : (reclaimArch s).Depths := by
  unfold Machine.reclaimArch
  exact .ite h (h.foldl fun _ _ h => .ite h h.upd.nandForget.fwLog)

protected theorem State.Depths.execRecordStored (h : s.Depths) : (execRecordStored s).Depths := by
  unfold Machine.execRecordStored
  refine .next ?_
  split
  exacts [h, .ite h h.upd.updEvents.nandArch.bump.set.reclaimArch.showArch.showWear]

protected theorem State.Depths.showCal (h : s.Depths) : (showCal s).Depths := by
  unfold Machine.showCal
  exact h.foldl fun _ _ h => h.setBit

protected theorem State.Depths.lspApply {b} (h : s.Depths) : (lspApply b s).Depths := by
  unfold Machine.lspApply
  exact .reviewStations (.showPublishing (.showCal (.showLspLanes (.raise (.setBit (.set (.updLsp (.foldl (.foldl
    (h.putConf.foldl fun _ _ h => .ite h h.set) fun _ _ h => .ite h (.ite h.updLsp h.reformGroup)) fun _ _ h => .ite
    h.setBit h.setBit.setBit))))))))

protected theorem State.Depths.lspWarm (h : s.Depths) : (lspWarm s).Depths := by
  unfold Machine.lspWarm
  exact .showLspLanes (.foldl (.setBit (.set (h.foldl fun _ _ h => h.reformGroup.setBit.set.set.set))) fun _ _ h =>
    .ite h h.set)

protected theorem State.Depths.execLarkspurGetEvents {r} (h : s.Depths) : (execLarkspurGetEvents r s).Depths := by
  unfold Machine.execLarkspurGetEvents
  refine .next (h.serve (fun _ h => ?_))
  split
  · exact .err h
  · extract_lets +onlyGivenNames held es out
    exact .ok h

protected theorem State.Depths.runTrigger {p} (h : s.Depths) : (runTrigger p s).Depths := by
  unfold Machine.runTrigger
  exact .ite h.triggerRecord (h.foldl fun _ _ h => .ite h.triggerRecord h)

protected theorem State.Depths.execLarkspurManualTrigger {r} (h : s.Depths) :
    (execLarkspurManualTrigger r s).Depths := by
  unfold Machine.execLarkspurManualTrigger
  refine .next (h.serve (fun _ h => ?_))
  extract_lets +onlyGivenNames g
  split
  · exact .err h
  · extract_lets +onlyGivenNames s1
    have h1 : s1.Depths := h.runTrigger
    split
    exacts [.ok h1.toPeers, .ok h1]

protected theorem State.Depths.startCal {f mask req} (h : s.Depths) : (startCal f mask req s).Depths := h

protected theorem State.Depths.execLarkspurCalibrate {r} (h : s.Depths) : (execLarkspurCalibrate r s).Depths := by
  unfold Machine.execLarkspurCalibrate
  refine .next (h.serve (fun _ h => ?_))
  extract_lets +onlyGivenNames mask
  split
  · exact .err h
  · refine .ite h.conflict ?_
    extract_lets +onlyGivenNames f
    split
    exacts [.later h.startCal.toPeers, h.conflict]

protected theorem State.Depths.endCal {c} (h : s.Depths) : (endCal c s).Depths := by
  unfold Machine.endCal
  extract_lets +onlyGivenNames b s1 s2
  have h1 : s1.Depths := h.foldl fun _ _ h => h.raiseIf
  have h2 : s2.Depths := h1.updLsp.setBit
  split
  · exact h2
  · extract_lets +onlyGivenNames new s3
    have h3 : s3.Depths := .ite h2.confWrite.pendObject h2
    split
    exacts [h3.finishD, h3]

protected theorem State.Depths.calFrame {k} (h : s.Depths) : (calFrame k s).Depths := by
  unfold Machine.calFrame
  split
  exacts [h, .ite h.updLsp.updEvents (.ite h.endCal h)]

end Sys2Proof.Machine
end

section
/-! SUPPORT. The depths are kept by the lockstep, time, the networks, MMS, the CAN controllers and the field. -/

namespace Sys2Proof.Machine

variable {s : State}

/-! ### Machine/Lockstep -/

protected theorem State.Depths.recordOnly {cnt} (h : s.Depths) : (recordOnly cnt s).Depths := by
  unfold Machine.recordOnly
  exact h.bump.raise

protected theorem State.Depths.execStateSigCompare {differ} (h : s.Depths) : (execStateSigCompare differ s).Depths := by
  unfold Machine.execStateSigCompare
  refine .next ?_
  extract_lets +onlyGivenNames s1
  have h1 : s1.Depths := h.toPhase
  refine .ite h1 ?_
  extract_lets +onlyGivenNames rec' s2
  have h2 : s2.Depths := h1.foldl fun _ _ h => h.recordOnly
  split
  exacts [h2.raise.fail, h2]

/-- The state at that phase is kept in a variable `t`: no `match` on it may run the TIME counter. -/
protected theorem State.Depths.execInjectedComparatorTest {failed real} (h : s.Depths) :
    (execInjectedComparatorTest failed real s).Depths := by
  unfold Machine.execInjectedComparatorTest
  obtain ⟨t, ht⟩ : ∃ t, t = toPhase 224000 s := ⟨_, rfl⟩
  have h1 : t.Depths := ht ▸ h.toPhase
  rw [← ht]
  refine .next (.ite h1 ?_)
  extract_lets +onlyGivenNames bad seen s2 m s3 s4 s5
  have h4 : s4.Depths := .setBit (.set (.wrapUp (.foldl h1 fun _ _ h => h.recordOnly)))
  clear_value s4
  have h5 : s5.Depths := by
    clear_value bad
    unfold s5
    split
    exacts [h4, h4.raise.fail]
  clear_value s5
  split
  exacts [h5.raise.fail, h5]

protected theorem State.Depths.taintRole (h : s.Depths) : (taintRole s).Depths := by
  unfold Machine.taintRole
  exact .ite h (.ite (.ite h.toPeers.releaseOwn.recordOwn.countMove.cancelHandover.enterRole h.reviewOwner) h.disarm)

protected theorem State.Depths.setTaint (h : s.Depths) : (setTaint s).Depths := by
  unfold Machine.setTaint
  exact .ite h h.setBit.raise.taintRole.refreshLck

/-! ### Machine/Time -/

protected theorem State.Depths.unlock {n} (h : s.Depths) : (unlock n s).Depths := by
  unfold Machine.unlock
  exact .ite (.ite h.setBit.setBit.updSrc.upd h.setBit.setBit.updSrc) (.enterHoldover (.ite h.setBit.setBit.updSrc.upd
    h.setBit.setBit.updSrc))

protected theorem State.Depths.switchTo {n} (h : s.Depths) : (switchTo n s).Depths := by
  unfold Machine.switchTo
  exact .ite h (.upd (.ite h.updSrc.unlock h))

protected theorem State.Depths.lock {n} (h : s.Depths) : (lock n s).Depths := by
  unfold Machine.lock
  exact h.setBit.setBit.setBit.upd.setTimeFault

protected theorem State.Depths.refreshAgree (h : s.Depths) : (refreshAgree s).Depths := by
  unfold Machine.refreshAgree
  exact .ite (.setTimeFault (.upd (h.foldl fun _ _ h => h.setBit))) (.upd (h.foldl fun _ _ h => h.setBit))

protected theorem State.Depths.selectSource (h : s.Depths) : (selectSource s).Depths := by
  unfold Machine.selectSource
  exact h.switchTo.refreshAgree.reviewTime

protected theorem State.Depths.jumpSample {n} (h : s.Depths) : (jumpSample n s).Depths := by
  unfold Machine.jumpSample
  exact .ite h.raise.updSrc.updSrc.unlock.setBit.setBit.selectSource h.raise.updSrc

protected theorem State.Depths.steer {n ofs} (h : s.Depths) : (steer n ofs s).Depths := by
  unfold Machine.steer
  exact .ite h.setInt.servo h

protected theorem State.Depths.keepSample {n ofs} (h : s.Depths) : (keepSample n ofs s).Depths := h

protected theorem State.Depths.steerRun {n ofs} (h : s.Depths) : (steerRun n ofs s).Depths := by
  unfold Machine.steerRun
  exact .ite (.ite h h.servo) h.steer

protected theorem State.Depths.countRun {n run ofs} (h : s.Depths) : (countRun n run ofs s).Depths := by
  unfold Machine.countRun
  exact .ite h.jumpSample.reviewTime (.refreshQuality (.steerRun (.selectSource (.ite (.lock (.ite h.keepSample.updSrc
    h.keepSample.updSrc.setBit)) (.ite h.keepSample.updSrc h.keepSample.updSrc.setBit)))))

protected theorem State.Depths.execDisagree (h : s.Depths) : (execDisagree s).Depths := by
  unfold Machine.execDisagree
  refine .next (.ite h ?_)
  extract_lets +onlyGivenNames sel s1 agreeing
  have h1 : s1.Depths := h.raise.setTimeFault
  clear_value s1 agreeing
  split
  exacts [h1.reviewTime, .reviewTime (.refreshAgree (.switchTo (.ite h1.upd h1)))]

protected theorem State.Depths.execOcxoFreqCheck {which ppm} (h : s.Depths) :
    (execOcxoFreqCheck which ppm s).Depths := by
  unfold Machine.execOcxoFreqCheck
  refine .next (.ite h ?_)
  split
  exacts [h.raise.setTimeFault.refreshQuality.fail, h.fail, h.fail]

protected theorem State.Depths.writeRate {value} (h : s.Depths) : (writeRate value s).Depths := by
  unfold Machine.writeRate
  exact .ite h.setInt.setTimeFault.reviewTime h.setInt

protected theorem State.Depths.writeSlew {value} (h : s.Depths) : (writeSlew value s).Depths := by
  unfold Machine.writeSlew
  exact h.setInt.refreshQuality

protected theorem State.Depths.timeCycle {extra} (h : s.Depths) : (timeCycle extra s).2.Depths := by
  unfold Machine.timeCycle
  exact .elapse (.setNow h.upd)

protected theorem State.Depths.syncMiss (h : s.Depths) : (syncMiss s).Depths := by
  unfold Machine.syncMiss
  exact .ite h.upd.raise.setTimeFault.reviewTime h.upd.raise

protected theorem State.Depths.wordMissing (h : s.Depths) : (wordMissing s).Depths := by
  unfold Machine.wordMissing
  exact .ite h.upd.setTickRole h.upd

protected theorem State.Depths.matchCount {sec k} (h : s.Depths) : (matchCount sec k s).Depths := by
  unfold Machine.matchCount
  exact .ite h.setTimeFault (.ite h.setTimeFault h.stepCounter.setTimeFault)

protected theorem State.Depths.followWord {w} (h : s.Depths) : (followWord w s).Depths := by
  unfold Machine.followWord
  exact h.setTickRole.upd.matchCount.setTaiUtc

protected theorem State.Depths.winWord (h : s.Depths) : (winWord s).Depths := by
  unfold Machine.winWord
  exact h.upd.setTickRole.setTimeFault.setTimeFault

protected theorem State.Depths.loseWord (h : s.Depths) : (loseWord s).Depths := by
  unfold Machine.loseWord
  exact h.upd.setTickRole

protected theorem State.Depths.execTimeBusWord {others word} (h : s.Depths) :
    (execTimeBusWord others word s).Depths := by
  unfold Machine.execTimeBusWord
  refine .next ?_
  extract_lets +onlyGivenNames w own me wins least ownRun run prio driven s1 valid s2 arb tm s3 s4
  have h1 : s1.Depths := h.toPhase
  have h2 : s2.Depths := .ite h1.winWord (.ite h1.followWord (.wordMissing (.ite h1.loseWord h1)))
  have h3 : s3.Depths := .ite h2 (.set (.set h2.upd))
  have h4 : s4.Depths := .ite h3.send h3
  exact .reviewTime (.refreshRunLock h4.upd)

protected theorem State.Depths.execTimeSetConfig {r} (h : s.Depths) : (execTimeSetConfig r s).Depths := by
  unfold Machine.execTimeSetConfig
  refine .next (h.serve (fun _ h => ?_))
  split
  exacts [.err h, .ite h.conflict (.ok h.confWrite.putConf.upd)]

protected theorem State.Depths.applyTimeConfig (h : s.Depths) : (applyTimeConfig s).Depths := by
  unfold Machine.applyTimeConfig
  split
  · exact h
  · exact .selectSource (.foldl h.upd fun _ _ h => h.set)

protected theorem State.Depths.tickTime (h : s.Depths) : (tickTime s).Depths := by
  unfold Machine.tickTime
  exact .refreshQuality (.applyTimeConfig (.ite (.send (.ite h.advanceTo.upd.set.refreshRunLock.syncMiss
    h.advanceTo.upd.set.refreshRunLock)) (.ite h.advanceTo.upd.set.refreshRunLock.syncMiss
    h.advanceTo.upd.set.refreshRunLock)))

/-! ### Machine/Network -/

protected theorem State.Depths.updNet {f} (h : s.Depths) : (State.updNet s f).Depths := h

protected theorem State.Depths.updSub {i f} (h : s.Depths) : (State.updSub s i f).Depths := h

protected theorem State.Depths.restorePub {u j vals} (h : s.Depths) : (restorePub u j vals s).Depths := by
  unfold Machine.restorePub
  refine h.foldl fun _ _ h => ?_
  split
  exacts [h.upd, h]

protected theorem State.Depths.gatherPub {k u j} (h : s.Depths) : (gatherPub k u s j).Depths := by
  unfold Machine.gatherPub
  refine .ite h ?_
  dsimp only
  split
  exacts [h, h.updNet.set]

protected theorem State.Depths.gatherPubs {u} (h : s.Depths) : (gatherPubs u s).Depths := by
  unfold Machine.gatherPubs
  exact h.updNet.foldl fun _ _ h => h.gatherPub

protected theorem State.Depths.undoPubs {mask} (h : s.Depths) : (undoPubs mask s).Depths := by
  unfold Machine.undoPubs
  refine h.foldl fun _ _ h => .set (.updNet ?_)
  split
  exacts [.ite h.restorePub h, h]

protected theorem State.Depths.sendPub {u j tal} (h : s.Depths) : (sendPub u s j tal).Depths := by
  unfold Machine.sendPub
  exact .setBit (.bump (h.foldl fun _ _ h => h.netTx))

protected theorem State.Depths.releasePubs {u} (h : s.Depths) : (releasePubs u s).Depths := by
  unfold Machine.releasePubs
  refine .undoPubs (h.foldl fun _ _ h => ?_)
  split
  exacts [.ite h.setBit h.sendPub, h]

protected theorem State.Depths.showSending (h : s.Depths) : (showSending s).Depths := by
  unfold Machine.showSending
  exact h.foldl fun _ _ h => h.setBit

protected theorem State.Depths.authFailed {port sub} (h : s.Depths) : (authFailed port sub s).Depths := by
  unfold Machine.authFailed
  refine .raise (.bump ?_)
  split
  exacts [h.setBit, h]

protected theorem State.Depths.acceptGoose {i f} (h : s.Depths) : (acceptGoose i f s).Depths := by
  unfold Machine.acceptGoose
  exact .touchBlock (.reviewStations (.setBit (.setBit (.setBit (.setBit (.setBit (.updSub (.ite h.bump h))))))))

protected theorem State.Depths.showNodes (h : s.Depths) : (showNodes s).Depths := by
  unfold Machine.showNodes
  exact h.foldl fun _ _ h => h.set

protected theorem State.Depths.addNode {p src} (h : s.Depths) : (addNode p src s).Depths := by
  unfold Machine.addNode
  exact .ite h h.updNet.showNodes

protected theorem State.Depths.ptpDeliver {n p} (h : s.Depths) : (ptpDeliver n p s).Depths := by
  unfold Machine.ptpDeliver
  exact .ite h.netTx.netTx h

protected theorem State.Depths.hsrForward {i k seq} (h : s.Depths) : (hsrForward i k seq s).Depths := by
  unfold Machine.hsrForward
  extract_lets +onlyGivenNames other
  split
  exacts [.ite h h.portTx, h.portTx]

protected theorem State.Depths.netDeliver {f} (h : s.Depths) : (netDeliver f s).Depths := by
  unfold Machine.netDeliver
  extract_lets +onlyGivenNames ip
  split
  exacts [.ite h.netTx h, .ite h.netTx h, h.ptpDeliver, h, h, h]

protected theorem State.Depths.netRedundant {i k lan seq} (h : s.Depths) : (netRedundant i k lan seq s).2.Depths := by
  unfold Machine.netRedundant
  refine .iteSnd h ?_
  extract_lets +onlyGivenNames known s1 s2
  have h2 : s2.Depths := .ite h.addNode.bump.raise h.addNode
  clear_value s2
  split
  · dsimp only
    exact h2.updNet
  · dsimp only
    exact .ite h2.updNet.hsrForward h2.updNet

protected theorem State.Depths.takeTagged {i k} (h : s.Depths) : (takeTagged i k s).2.Depths := by
  unfold Machine.takeTagged
  split
  exacts [.iteSnd h.netRedundant h, h]

protected theorem State.Depths.takeIn {i k} (h : s.Depths) : (takeIn i k s).2.Depths := by
  unfold Machine.takeIn
  extract_lets +onlyGivenNames b
  exact .iteSnd h (.iteSnd h.bump (.iteSnd h.bump (.iteSnd h.bump (.iteSnd h (.iteSnd (.iteSnd h.takeTagged h)
    (.iteSnd h.bump (.iteSnd h h.updNet.takeTagged)))))))

protected theorem State.Depths.showNetwork (h : s.Depths) : (showNetwork s).Depths := by
  unfold Machine.showNetwork
  exact .showNodes (.foldl (h.foldl fun _ _ h => .ite h h.setBit) fun _ _ h => .ite h h.set)

protected theorem State.Depths.execEntryForget {pair src seq} (h : s.Depths) :
    (execEntryForget pair src seq s).Depths := by
  unfold Machine.execEntryForget
  refine .next ?_
  split
  · exact h
  · extract_lets +onlyGivenNames s1
    have h1 : s1.Depths := h.updNet
    exact .ite h1 (.ite h1.bump (.ite h1.bump h1))

protected theorem State.Depths.setMacsec {port up} (h : s.Depths) : (setMacsec port up s).Depths := by
  unfold Machine.setMacsec
  exact .showPmus (.set (.setBit (.ite h.updNet h)))

protected theorem State.Depths.loseMacsec {port} (h : s.Depths) : (loseMacsec port s).Depths := by
  unfold Machine.loseMacsec
  exact .ite h.setMacsec.raise h

protected theorem State.Depths.showPort {b n} (h : s.Depths) : (showPort b s n).Depths := by
  unfold Machine.showPort
  exact .ite h.setBit.set.setBit.setBit h.setBit.set.setBit.setBit.loseMacsec

protected theorem State.Depths.netApply {b} (h : s.Depths) : (netApply b s).Depths := by
  unfold Machine.netApply
  exact .reviewStations (.showPmus (.showSending (.raise (.set (.foldl (.foldl (.set (.set (h.putConf.foldl
    fun _ _ h => h.showPort))) fun _ _ h => .setBit (.ite h.updNet h)) fun _ _ h => .setBit (.ite h.updSub.set h))))))

/-! ### Machine/Mms -/

protected theorem State.Depths.mmsSend {i kind data} (h : s.Depths) : (mmsSend i kind data s).Depths := by
  unfold Machine.mmsSend
  exact h.netTx

protected theorem State.Depths.mmsServe {i role kind f} (h : s.Depths) (hf : ∀ t, t.Depths → (f t).Depths) :
    (mmsServe i role kind f s).Depths := by
  unfold Machine.mmsServe
  exact .ite (hf _ h) (.ite h.mmsSend h)

protected theorem State.Depths.closeFiles {p} (h : s.Depths) : (closeFiles p s).Depths := h

protected theorem State.Depths.mmsClose {i} (h : s.Depths) : (mmsClose i s).Depths := h

protected theorem State.Depths.execMmsRead {assoc index} (h : s.Depths) : (execMmsRead assoc index s).Depths := by
  unfold Machine.execMmsRead
  refine .next (h.mmsServe (fun _ h => ?_))
  split <;> exact h.mmsSend

protected theorem State.Depths.execMmsGetVariableAccessAttributes {assoc index} (h : s.Depths) :
    (execMmsGetVariableAccessAttributes assoc index s).Depths := by
  unfold Machine.execMmsGetVariableAccessAttributes
  refine .next (h.mmsServe (fun _ h => ?_))
  split <;> exact h.mmsSend

protected theorem State.Depths.mmsReport {changed} (h : s.Depths) : (mmsReport changed s).Depths := by
  unfold Machine.mmsReport
  exact .ite h (h.foldl fun _ _ h => .ite h (.ite h.mmsSend h.updNet))

protected theorem State.Depths.execMmsFileRead {assoc frsm count} (h : s.Depths) :
    (execMmsFileRead assoc frsm count s).Depths := by
  unfold Machine.execMmsFileRead
  refine .next (h.mmsServe (fun _ h => ?_))
  split
  · exact h.mmsSend
  · split
    exacts [h.mmsSend, .ite h.mmsSend h.updNet.mmsSend]

/-! ### Machine/CanAux -/

protected theorem State.Depths.showCan (h : s.Depths) : (showCan s).Depths := by
  unfold Machine.showCan
  exact h.setBit.setBit.setBit.setBit.foldl fun _ _ h => h.setBit

protected theorem State.Depths.canApply {b} (h : s.Depths) : (canApply b s).Depths := by
  unfold Machine.canApply
  exact .raise (.set (.showCan (.putConf (.foldl (h.foldl fun _ _ h => h.foldl fun _ _ h => .ite (.ite (.ite (.updCan
    (.ite h.canFail h)) (.ite h.canFail h)) (.updObj (.ite (.updCan (.ite h.canFail h)) (.ite h.canFail h)))) h)
    fun _ _ h => .ite h h.updCan))))

protected theorem State.Depths.putCounts {c tec rec} (h : s.Depths) : (putCounts c tec rec s).Depths := by
  unfold Machine.putCounts
  exact h.set.set.setBit

protected theorem State.Depths.logState {c} (h : s.Depths) : (logState c s).Depths := h

protected theorem State.Depths.afterErr {c was} (h : s.Depths) : (afterErr c was s).Depths := by
  unfold Machine.afterErr
  exact .ite h (.ite (.canFailPending (.logState (.ite h.raise (.ite h.raise h)))) (.logState (.ite h.raise
    (.ite h.raise h))))

protected theorem State.Depths.recAfterFrame {c f} (h : s.Depths) : (recAfterFrame c f s).Depths := by
  unfold Machine.recAfterFrame
  exact .ite h (.set (.putCounts (.iteSnd h (.iteSnd h.took h))))

protected theorem State.Depths.countErr {c err} (h : s.Depths) : (countErr c err s).Depths := by
  unfold Machine.countErr
  split
  exacts [h.bump, h]

protected theorem State.Depths.takeFrame {c f} (h : s.Depths) : (takeFrame c f s).Depths := by
  unfold Machine.takeFrame
  extract_lets +onlyGivenNames b was s1
  have h1 : s1.Depths := h.bump.recAfterFrame
  split
  · extract_lets +onlyGivenNames s2
    have h2 : s2.Depths := h1.updObj
    exact h2.canLog.afterErr
  · exact h1.canLog.afterErr

protected theorem State.Depths.canOffer {c sof n} (h : s.Depths) : (canOffer c sof n s).2.Depths := by
  induction n generalizing s with
  | zero => exact h
  | succ n ih =>
    unfold Machine.canOffer
    split
    · exact h
    · split
      · exact ih h.canFail
      · exact h

protected theorem State.Depths.execCanBusIdle {c sof lost} (h : s.Depths) : (execCanBusIdle c sof lost s).Depths := by
  unfold Machine.execCanBusIdle
  refine .next (.ite h ?_)
  extract_lets +onlyGivenNames p
  split
  exacts [h.canOffer, .ite h.canOffer.bump h.canOffer.updCan]

protected theorem State.Depths.canSent {c o sof} (h : s.Depths) : (canSent c o sof s).Depths := by
  unfold Machine.canSent
  exact h.putCounts.set.updObj.canLog.afterErr

protected theorem State.Depths.execCanTxDone {c reason bitPos dominant extra} (h : s.Depths) :
    (execCanTxDone c reason bitPos dominant extra s).Depths := by
  unfold Machine.execCanTxDone
  refine .next ?_
  split
  · exact h
  · extract_lets +onlyGivenNames sof s1
    have h1 : s1.Depths := h.updCan
    exact .ite h1.canSent h1.countErr.putCounts.set.canFail.afterErr

protected theorem State.Depths.canTaken (h : s.Depths) : (canTaken s).Depths := h

protected theorem State.Depths.canRun (h : s.Depths) : (canRun s).Depths := h

protected theorem State.Depths.execCanauxTxEnqueue {r} (h : s.Depths) : (execCanauxTxEnqueue r s).Depths := by
  unfold Machine.execCanauxTxEnqueue
  refine .next (h.serve (fun _ h => ?_))
  extract_lets +onlyGivenNames c o
  split
  · exact .err h
  · refine .ite ?_ (.ite h.conflict (.ok h.updObj))
    split
    exacts [.ok h, h.conflict]

protected theorem State.Depths.execCanauxRecover {r} (h : s.Depths) : (execCanauxRecover r s).Depths := by
  unfold Machine.execCanauxRecover
  refine .next (h.serve (fun _ h => ?_))
  extract_lets +onlyGivenNames c
  split
  exacts [.err h, .ite (.ok h.set.set.logState) h.conflict]

protected theorem State.Depths.execCanauxReadRx {r} (h : s.Depths) : (execCanauxReadRx r s).Depths := by
  unfold Machine.execCanauxReadRx
  refine .next (h.serve (fun _ h => ?_))
  extract_lets +onlyGivenNames c first n
  split
  · exact .err h
  · extract_lets +onlyGivenNames l nxt
    exact .ok h

/-! ### Machine/FieldIo -/

protected theorem State.Depths.fioApply {b} (h : s.Depths) : (fioApply b s).Depths := by
  unfold Machine.fioApply
  exact h.putConf.updFio.set.set.showStages.raise

protected theorem State.Depths.noteFld24 {mv} (h : s.Depths) : (noteFld24 mv s).Depths := by
  unfold Machine.noteFld24
  exact .ite h.set h

protected theorem State.Depths.noteBelow {mv} (h : s.Depths) : (noteBelow mv s).Depths := by
  unfold Machine.noteBelow
  exact h.took.noteFld24

protected theorem State.Depths.sampleDi {x n} (h : s.Depths) : (sampleDi x s n).Depths := by
  unfold Machine.sampleDi
  extract_lets +onlyGivenNames c p s1 was
  have hp : p.2.Depths := by
    unfold p
    split
    exacts [h, h.took]
  have h1 : s1.Depths := hp.set
  exact .ite h1 (.ite h1.updFio (.ite h1.updFio.set h1.updFio))

protected theorem State.Depths.sampleDo {x n} {p : Nat × State} (h : p.2.Depths) : (sampleDo x p n).2.Depths := by
  unfold Machine.sampleDo
  refine .set ?_
  split
  · exact h
  · exact h.took

protected theorem State.Depths.sampleAi {x n} (h : s.Depths) : (sampleAi x s n).Depths := by
  unfold Machine.sampleAi
  exact .ite h.updFio.set.set.setBit h.updFio.set.set.setBit.raiseIf

protected theorem State.Depths.aoJudge {n i f e cond} (h : s.Depths) : (aoJudge n i f e cond s).Depths := by
  unfold Machine.aoJudge
  exact .ite h.updFio (.ite h.updFio.setBit.raiseIf h.updFio)

protected theorem State.Depths.aoLoop {x n} (h : s.Depths) : (aoLoop x n s).Depths := by
  unfold Machine.aoLoop
  exact h.aoJudge.aoJudge

protected theorem State.Depths.aoHeat {x n} (h : s.Depths) : (aoHeat x n s).Depths := by
  unfold Machine.aoHeat
  exact .ite h.aoJudge.updFio (.ite h.aoJudge.updFio.showStages h.aoJudge)

protected theorem State.Depths.coolStages (h : s.Depths) : (coolStages s).Depths := h

protected theorem State.Depths.sampleAo {x n} (h : s.Depths) : (sampleAo x s n).Depths := by
  unfold Machine.sampleAo
  exact .ite h.set.aoJudge (.ite h.set.aoJudge.aoHeat.updFio h.set.aoJudge.aoHeat.aoLoop)

protected theorem State.Depths.startWetting (h : s.Depths) : (startWetting s).Depths := by
  unfold Machine.startWetting
  exact .ite h.updFio h

/-- The state at that phase is kept in a variable `t`: no `match` on it may run the TIME counter. -/
protected theorem State.Depths.execFieldSampleInstant {x} (h : s.Depths) : (execFieldSampleInstant x s).Depths := by
  unfold Machine.execFieldSampleInstant
  obtain ⟨t, ht⟩ : ∃ t, t = toPhase 195000 s := ⟨_, rfl⟩
  have h1 : t.Depths := ht ▸ h.toPhase
  rw [← ht]
  refine .next ?_
  extract_lets +onlyGivenNames s1 s2 s3 s4 p s5 twice s6
  have h4 : s4.Depths := .foldl (.noteFld24 (.updFio (.set h1))) fun _ _ h => h.sampleDi
  clear_value s4
  have hp : p.2.Depths := .foldlSnd (fun _ _ h => h.sampleDo) h4
  clear_value p
  have h6 : s6.Depths := .ite hp (.raiseIf hp.updFio)
  exact .startWetting (.foldl (.foldl h6 fun _ _ h => h.sampleAi) fun _ _ h => h.sampleAo)

protected theorem State.Depths.updateAo {n} (h : s.Depths) : (updateAo s n).Depths := h

protected theorem State.Depths.reenable (h : s.Depths) : (reenable s).Depths := by
  unfold Machine.reenable
  exact .ite h.updFio h

end Sys2Proof.Machine
end

section
/-! SUPPORT. The depths are kept by bundles, trials, the pair and the program. -/

set_option Elab.async false

namespace Sys2Proof.Machine

variable {s : State}

/-! ### Machine/Bundle -/

protected theorem State.Depths.raiseUnbootable {u} (h : s.Depths) : (raiseUnbootable u s).Depths := by
  unfold Machine.raiseUnbootable
  split <;> exact h.raise

protected theorem State.Depths.firstBootable {l} (h : s.Depths) : (firstBootable l s).2.Depths := by
  induction l generalizing s with
  | nil => exact h
  | cons p r ih =>
    unfold Machine.firstBootable
    split
    · exact h
    · exact ih h.raiseUnbootable

/-! ### Machine/Retain -/

protected theorem State.Depths.updProg {f} (h : s.Depths) (hf : ∀ p, (f p).engines = p.engines := by intro _; rfl) :
    (State.updProg s f).Depths := by
  unfold Machine.State.updProg
  exact h.program (hf s.prog)

protected theorem State.Depths.bumpConf {o} (h : s.Depths) : (bumpConf o s).Depths := h

protected theorem State.Depths.beginConf {w} (h : s.Depths) : (beginConf w s).Depths := h

protected theorem State.Depths.saveRetain (h : s.Depths) : (saveRetain s).Depths := by
  unfold Machine.saveRetain
  exact .ite h h.beginConf.bumpConf

protected theorem State.Depths.confDone {w} (h : s.Depths) : (confDone w s).Depths := by
  unfold Machine.confDone
  split
  · extract_lets +onlyGivenNames s1
    have h1 : s1.Depths := h.nandConf
    exact h1.upd
  · extract_lets +onlyGivenNames s1
    have h1 : s1.Depths := h.nandConf
    exact h1.upd

protected theorem State.Depths.flushNand (h : s.Depths) : (flushNand s).Depths := by
  unfold Machine.flushNand
  exact .flushLog (h.upd.foldl fun _ _ h => h.confDone)

protected theorem State.Depths.leaveGroup (h : s.Depths) : (leaveGroup s).Depths := by
  unfold Machine.leaveGroup
  exact h.releaseOwn.toPeers.upd.enterRole.showTriad

protected theorem State.Depths.completeRemoval (h : s.Depths) : (completeRemoval s).Depths := by
  unfold Machine.completeRemoval
  exact .upd (.ite h.saveRetain.flushNand.upd (.ite h.saveRetain.flushNand.toPeers.upd.enterRole.showTriad
    h.saveRetain.flushNand.leaveGroup))

protected theorem State.Depths.nameHandover (h : s.Depths) : (nameHandover s).Depths := h

/-! ### Machine/Trial -/

protected theorem State.Depths.updSec {f} (h : s.Depths) : (State.updSec s f).Depths := h

protected theorem State.Depths.writeRecord {f} (h : s.Depths) : (writeRecord f s).Depths := by
  unfold Machine.writeRecord
  exact h.updSec.nandBoot.nandBoot

protected theorem State.Depths.setAttempts {n} (h : s.Depths) : (setAttempts n s).Depths := by
  unfold Machine.setAttempts
  exact h.writeBackup

protected theorem State.Depths.forwardTo {k data} (h : s.Depths) : (forwardTo k data s).Depths := by
  unfold Machine.forwardTo
  exact h.toPeers

protected theorem State.Depths.freeLock (h : s.Depths) : (freeLock s).Depths := by
  unfold Machine.freeLock
  exact .ite h h.updSec.setBit.forwardTo

protected theorem State.Depths.confirmTrial (h : s.Depths) : (confirmTrial s).Depths := by
  unfold Machine.confirmTrial
  exact .ite h.writeRecord.maxTo.setAttempts.updSec.upd.setBit.set.lifetimeAdd.raise.freeLock
    h.writeRecord.maxTo.setAttempts.updSec.upd.setBit.set.lifetimeAdd.raise

protected theorem State.Depths.fallBack (h : s.Depths) : (fallBack s).Depths := by
  unfold Machine.fallBack
  exact h.saveRetain.writeRecord.updSec.setBit.set.upd

protected theorem State.Depths.endTrial (h : s.Depths) : (endTrial s).Depths := by
  unfold Machine.endTrial
  exact .ite h.updSec.nameHandover h.fallBack

protected theorem State.Depths.installSlot {k} (h : s.Depths) : (installSlot k s).Depths := by
  unfold Machine.installSlot
  exact h.nandBoot.writeRecord.setAttempts

protected theorem State.Depths.groupStepTo {step slot} (h : s.Depths) : (groupStepTo step slot s).Depths := by
  unfold Machine.groupStepTo
  exact h.updSec.forwardTo

protected theorem State.Depths.endGroup {status fallen} (h : s.Depths) : (endGroup status fallen s).Depths := by
  unfold Machine.endGroup
  exact .ite h h.finishAll.updSec.groupStepTo.freeLock

protected theorem State.Depths.takeTurn (h : s.Depths) : (takeTurn s).Depths := by
  unfold Machine.takeTurn
  exact h.installSlot.saveRetain.leaveGroup.upd

protected theorem State.Depths.afterHandover {hdr} (h : s.Depths) : (afterHandover hdr s).Depths := by
  unfold Machine.afterHandover
  exact .ite (.ite h.confirmTrial.updSec h) (.ite h.fallBack (.ite h.finishAll.groupStepTo.takeTurn h))

/-! ### Machine/Pair -/

protected theorem State.Depths.adoptNamed {sn} (h : s.Depths) : (adoptNamed sn s).Depths := by
  unfold Machine.adoptNamed
  extract_lets +onlyGivenNames prog handover q swap start s1 s2 p s3
  have h1 : s1.Depths := .ite h.beginConf.bumpConf h
  have h2 : s2.Depths := h1.updProg
  have h3 : s3.Depths := h2.upd
  clear_value s3 q
  split
  exacts [.ite (.set h3.upd) h3, h3]

protected theorem State.Depths.recordGap {ns} (h : s.Depths) : (recordGap ns s).Depths := by
  unfold Machine.recordGap
  exact h.set.maxTo

protected theorem State.Depths.claimFromStandby (h : s.Depths) : (claimFromStandby s).Depths := by
  unfold Machine.claimFromStandby
  extract_lets +onlyGivenNames hand ann s1
  have h1 : s1.Depths := by
    unfold s1
    split
    exacts [h.adoptNamed, h]
  exact .enterRole (.raiseIf (.recordOwn (.upd (.countMove (.ite h1 h1.dropPending)))))

protected theorem State.Depths.claimBack (h : s.Depths) : (claimBack s).Depths := by
  unfold Machine.claimBack
  exact h.upd.cancelHandover.recordOwn.raise.fwLog

protected theorem State.Depths.releaseKill {slot} (h : s.Depths) : (releaseKill slot s).Depths := by
  unfold Machine.releaseKill
  exact .ite h.upd.setBit h

protected theorem State.Depths.heardPeer {p} (h : s.Depths) : (heardPeer p s).Depths := by
  unfold Machine.heardPeer
  extract_lets +onlyGivenNames s1 s2 s3 s4 s5 s6
  have h3 : s3.Depths := h.set.set.putPeer.set.reviewTime
  have h5 : s5.Depths := .reviewOwner (.ite h3.setTaiUtc.refreshQuality h3)
  exact .showTriad (.ite h5.goSyncing h5.joinOrClaim)

protected theorem State.Depths.linkLost (h : s.Depths) : (linkLost s).Depths := by
  unfold Machine.linkLost
  exact .ite h.set.raise.upd.reviewTime.cancelUnmoved.setRole.followPeers
    (.ite h.set.raise.upd.reviewTime.disarm.enterRole.raiseIf h.set.raise.upd.reviewTime)

protected theorem State.Depths.acceptJoin {slot} (h : s.Depths) : (acceptJoin slot s).Depths := by
  unfold Machine.acceptJoin
  exact h.releaseKill.upd.set.peerRole.toMember.toMember.toPeers

protected theorem State.Depths.joinAnswered {accepted} (h : s.Depths) : (joinAnswered accepted s).Depths := by
  unfold Machine.joinAnswered
  exact .ite h (.ite h.upd h.upd.enterRole)

protected theorem State.Depths.joinHeard {slot accepted} (h : s.Depths) : (joinHeard slot accepted s).Depths := by
  unfold Machine.joinHeard
  exact .ite h.releaseKill h

protected theorem State.Depths.resyncAsked (h : s.Depths) : (resyncAsked s).Depths := by
  unfold Machine.resyncAsked
  exact .ite h.goSyncing h

protected theorem State.Depths.refuseJoin {slot} (h : s.Depths) : (refuseJoin slot s).Depths := by
  unfold Machine.refuseJoin
  exact h.toMember.toPeers

protected theorem State.Depths.execHandoverPrepare (h : s.Depths) : (execHandoverPrepare s).Depths := by
  unfold Machine.execHandoverPrepare
  refine .next ?_
  split
  exacts [h, .ite h (.upd (.stopSingletons (h.foldl fun _ _ h => h.sendCkpt)))]

protected theorem State.Depths.postponeHandover (h : s.Depths) : (postponeHandover s).Depths := by
  unfold Machine.postponeHandover
  exact .ite h.resumeSingletons.upd h.resumeSingletons.cancelHandover.recordOwn.raise.fwLog

protected theorem State.Depths.execHandoverRelease (h : s.Depths) : (execHandoverRelease s).Depths := by
  unfold Machine.execHandoverRelease
  refine .next ?_
  split
  exacts [h, .ite h (.ite h.postponeHandover h.toPhase.toPeers.releaseOwn.upd.arm)]

protected theorem State.Depths.formerOwners (h : s.Depths) : (formerOwners s).Depths := h

protected theorem State.Depths.execHandoverFrame (h : s.Depths) : (execHandoverFrame s).Depths := by
  unfold Machine.execHandoverFrame
  refine .next ?_
  split
  · exact h
  · have h1 {p} : (({ s with pair := p } : State).raise Ev.hhkPairHandover).Depths := .raise h.upd
    have h2 {p} : (recordOwn 3 (countMove (disarm (({ s with pair := p } : State).raise Ev.hhkPairHandover)))).Depths
      :=
      h1.disarm.countMove.recordOwn
    exact .ite h (.ite (.afterHandover (.startSingletons (.ite h1.formerOwners.setRole h1.formerOwners)))
      (.ite (.ite (.completeRemoval (.showTriad (.ite h2.enterRole h2.enterRole.armStandby)))
        (.afterHandover (.showTriad (.ite h2.enterRole h2.enterRole.armStandby)))) h1))

protected theorem State.Depths.countMismatch (h : s.Depths) : (countMismatch s).Depths := by
  unfold Machine.countMismatch
  exact h.upd.raise

protected theorem State.Depths.mismatchOutcome {peerFault peerSlot} (h : s.Depths) :
    (mismatchOutcome peerFault peerSlot s).Depths := by
  unfold Machine.mismatchOutcome
  exact .ite h.countMismatch.cancelUnmoved.goSyncing (.ite h.countMismatch.cancelUnmoved.peerRole.reviewOwner
    h.countMismatch.cancelUnmoved)

protected theorem State.Depths.leaveAsMinority (h : s.Depths) : (leaveAsMinority s).Depths := by
  unfold Machine.leaveAsMinority
  exact .ite h.raise.upd (.goSyncing (.ite h.raise.upd.releaseOwn h.raise.upd.setDrive))

protected theorem State.Depths.foundMinority {slot} (h : s.Depths) : (foundMinority slot s).Depths := by
  unfold Machine.foundMinority
  exact h.upd.raise.peerRole.reviewOwner

protected theorem State.Depths.finishResync {slot} (h : s.Depths) : (finishResync slot s).Depths := by
  unfold Machine.finishResync
  exact .ite h.upd.set.enterRole.armStandby.showTriad (.ite h.upd.set.upd.peerRole.followPeers.showTriad h.upd.set)

protected theorem State.Depths.resyncFailed (h : s.Depths) : (resyncFailed s).Depths := by
  unfold Machine.resyncFailed
  exact .ite (.ite h.upd.fail h.upd.set.sendJoin) (.ite h.upd.set.upd h.upd.set)

protected theorem State.Depths.compareSigs {frame slot own peer peerFault} (h : s.Depths) :
    (compareSigs frame slot own peer peerFault s).Depths := by
  unfold Machine.compareSigs
  exact .ite (.ite h.recordCmp.upd.finishResync h.recordCmp.upd.countMismatch.resyncFailed) (.ite h.recordCmp.upd
    h.recordCmp.upd.mismatchOutcome)

protected theorem State.Depths.triadOutcome {frame own a b slotA slotB} (h : s.Depths) :
    (triadOutcome frame own a b slotA slotB s).Depths := by
  unfold Machine.triadOutcome
  exact .ite (.ite h.upd h.leaveAsMinority) (.ite h.foundMinority (.ite h.foundMinority (.ite h.reviewOwner
    (.ite h.goSyncing h))))

protected theorem State.Depths.compareTriad {frame own a b slotA slotB} (h : s.Depths) :
    (compareTriad frame own a b slotA slotB s).Depths := by
  unfold Machine.compareTriad
  extract_lets +onlyGivenNames ok isQ r p s1
  have h1 : s1.Depths := .recordCmp h.upd
  clear_value s1 ok isQ
  split
  exacts [h1.finishResync, h1, h1.countMismatch.resyncFailed, h1.countMismatch.triadOutcome]

protected theorem State.Depths.takeOwnSig {frame} (h : s.Depths) : (takeOwnSig frame s).Depths := h

protected theorem State.Depths.execSignatureFrame {hdr slots held peerFault} (h : s.Depths) :
    (execSignatureFrame hdr slots held peerFault s).Depths := by
  unfold Machine.execSignatureFrame
  refine .next (h.onRouted fun _ h => ?_)
  extract_lets +onlyGivenNames p s1
  have h1 : s1.Depths := h.upd
  clear_value s1
  split
  · exact h1
  · refine .ite ?_ h1.takeOwnSig.compareSigs
    split
    exacts [h1.takeOwnSig.compareTriad, h1]

protected theorem State.Depths.execSigMiss (h : s.Depths) : (execSigMiss s).Depths := by
  unfold Machine.execSigMiss
  refine .next ?_
  split
  · exact h
  · extract_lets +onlyGivenNames p s1 run s2
    have h2 : s2.Depths := .recordCmp (.bump h.upd)
    clear_value s2 run
    split
    exacts [.ite h2.resyncFailed h2.compareSigs, .ite h2.linkLost.showTriad h2]

protected theorem State.Depths.applyReplica {x} (h : s.Depths) : (applyReplica x s).Depths := by
  unfold Machine.applyReplica
  refine fun g hg => ?_
  obtain ⟨e, -, rfl⟩ := List.mem_map.mp hg
  exact h.eng e

protected theorem State.Depths.execResyncPage {hdr address data replica} (h : s.Depths) :
    (execResyncPage hdr address data replica s).Depths := by
  unfold Machine.execResyncPage
  refine .next (h.onFrame (fun _ h => .ite ?_ h))
  extract_lets +onlyGivenNames s1
  have h1 : s1.Depths := h.setBytes.set
  split
  exacts [h1.applyReplica, h1]

protected theorem State.Depths.execResyncLines {hdr lines q} (h : s.Depths) :
    (execResyncLines hdr lines q s).Depths := by
  unfold Machine.execResyncLines
  refine .next (h.onFrame (fun _ h => .ite ?_ h))
  extract_lets +onlyGivenNames s1
  have h1 : s1.Depths := h.foldl fun _ _ h => h.setBytes
  split
  exacts [h1.upd.set, h1.set]

protected theorem State.Depths.storedElsewhere {singleton content} (h : s.Depths) :
    (storedElsewhere singleton content s).Depths := by
  unfold Machine.storedElsewhere
  exact .ite h h.upd.set

/-! ### Machine/Program -/

protected theorem State.Depths.stageUnit {bs} (h : s.Depths) : (stageUnit bs s).2.Depths := by
  unfold Machine.stageUnit
  extract_lets +onlyGivenNames p s1
  have h1 : s1.Depths := h.updProg
  exact h1.raiseIf

protected theorem State.Depths.reviewLoad (h : s.Depths) : (reviewLoad s).Depths := by
  unfold Machine.reviewLoad
  split
  exacts [h, .ite h (.finishAll (.ite h.updProg h.updProg.toPeers))]

protected theorem State.Depths.initInsts {u b} (h : s.Depths) : (initInsts u b s).Depths := by
  unfold Machine.initInsts
  exact h.foldl fun _ _ h => h.setBytes

protected theorem State.Depths.putSym {u b y bs} (h : s.Depths) : (putSym u b y bs s).Depths := by
  unfold Machine.putSym
  split
  exacts [h.setBytes, h]

protected theorem State.Depths.loadCode {u b} (h : s.Depths) : (loadCode u b s).Depths := by
  unfold Machine.loadCode
  exact h.foldl fun _ _ h => h.setBytes.setBytes

protected theorem State.Depths.migrate {old new b} (h : s.Depths) : (migrate old new b s).Depths := by
  unfold Machine.migrate
  extract_lets +onlyGivenNames s1 s2
  have h1 : s1.Depths := h
  have h2 : s2.Depths := h.initInsts
  split
  · exact h2
  · refine h2.foldl fun _ _ h => ?_
    split
    exacts [.ite h.putSym h, h]

protected theorem State.Depths.putMpu {m ent base size rwx} (h : s.Depths) : (putMpu m ent base size rwx s).Depths := by
  unfold Machine.putMpu
  exact h.set.set.set.set.setBit

protected theorem State.Depths.loadMpus {u} (h : s.Depths) : (loadMpus u s).Depths := by
  unfold Machine.loadMpus
  exact h.foldl fun _ _ h => .putMpu (.ite h.putMpu.clearEntry h.putMpu.putMpu)

protected theorem State.Depths.sizeRings {u} (h : s.Depths) : (sizeRings u s).Depths := by
  unfold Machine.sizeRings
  exact h.foldl fun _ _ h => h.foldl fun _ _ h => h.set.set

protected theorem State.Depths.restEngines (_ : s.Depths) : (restEngines s).Depths := by
  unfold Machine.restEngines
  exact .rested (l := 8) rfl

protected theorem State.Depths.buildChange {u} (h : s.Depths) : (buildChange u s).Depths := by
  unfold Machine.buildChange
  exact h.migrate.loadCode

protected theorem State.Depths.switchUnit {u} (h : s.Depths) : (switchUnit u s).Depths := by
  unfold Machine.switchUnit
  exact h.updProg.restEngines.sizeRings.reviewStations

protected theorem State.Depths.installUnit {u} (h : s.Depths) : (installUnit u s).Depths := by
  unfold Machine.installUnit
  exact h.buildChange.switchUnit

protected theorem State.Depths.catchUp (h : s.Depths) : (catchUp s).Depths := by
  unfold Machine.catchUp
  split
  · refine .ite h (h.foldl fun _ _ h => ?_)
    split
    exacts [.ite h.putSym h, h]
  · exact h

protected theorem State.Depths.acceptDeferred (h : s.Depths) : (acceptDeferred s).Depths := by
  unfold Machine.acceptDeferred
  exact .ite (h.upd.foldl fun _ _ h => h.acceptJoin) h.upd

protected theorem State.Depths.endChange {result} (h : s.Depths) : (endChange result s).Depths := by
  unfold Machine.endChange
  exact h.updProg.fwLog.acceptDeferred

protected theorem State.Depths.dropChange {status} (h : s.Depths) : (dropChange status s).Depths := by
  unfold Machine.dropChange
  exact .ite h.updProg.finishAll.endChange h

protected theorem State.Depths.nameSwap (h : s.Depths) : (nameSwap s).Depths := by
  unfold Machine.nameSwap
  split
  exacts [.ite h.updProg h, h]

protected theorem State.Depths.execMigrationComplete (h : s.Depths) : (execMigrationComplete s).Depths := by
  unfold Machine.execMigrationComplete
  refine .next ?_
  split
  exacts [.ite (.ite h.buildChange.updProg.nameSwap h.buildChange.updProg.toPeers) h, h]

protected theorem State.Depths.execReady {hdr ok} (h : s.Depths) : (execReady hdr ok s).Depths := by
  unfold Machine.execReady
  refine .next (h.onRouted (fun _ h => ?_))
  split
  exacts [.ite h.toPeers.dropChange h.updProg.nameSwap, h]

protected theorem State.Depths.initData {u mode} (h : s.Depths) : (initData u mode s).Depths := by
  unfold Machine.initData
  refine .ite h (h.initInsts.foldl fun _ _ h => ?_)
  split
  exacts [.ite h.putSym h, h]

protected theorem State.Depths.logAge {mode} (h : s.Depths) : (logAge mode s).Depths := by
  unfold Machine.logAge
  exact .ite h.fwLog h

protected theorem State.Depths.startProgram {mode} (h : s.Depths) : (startProgram mode s).Depths := by
  unfold Machine.startProgram
  split
  · exact h
  · extract_lets +onlyGivenNames aged s1 s2
    have h1 : s1.Depths := h.logAge.initData
    have h2 : s2.Depths := h1.updProg
    exact h2.restEngines.sizeRings.loadMpus.canRun.refreshRunLock

protected theorem State.Depths.stopProgram (h : s.Depths) : (stopProgram s).Depths := by
  unfold Machine.stopProgram
  exact h.dropChange.updProg.restEngines.saveRetain.beginConf.bumpConf.refreshRunLock

protected theorem State.Depths.runNamed {n} (h : s.Depths) : (runNamed n s).Depths := by
  unfold Machine.runNamed
  split
  exacts [.ite h.startProgram h, .ite h.stopProgram h, h, h, h]

protected theorem State.Depths.runDue {k} (h : s.Depths) : (runDue k s).Depths := by
  unfold Machine.runDue
  exact h.updProg.foldl fun _ _ h => h.runNamed

protected theorem State.Depths.nameEvent {n} (h : s.Depths) : (nameEvent n s).2.Depths := by
  unfold Machine.nameEvent
  dsimp only
  exact h.updProg

protected theorem State.Depths.startOwn (h : s.Depths) : (startOwn s).Depths := by
  unfold Machine.startOwn
  exact .ite h.updProg.nameEvent h

protected theorem State.Depths.execProgramLoadUnit {r} (h : s.Depths) : (execProgramLoadUnit r s).Depths := by
  unfold Machine.execProgramLoadUnit
  refine .next (h.serve (fun _ h => ?_))
  extract_lets +onlyGivenNames p total off fin chunk kept
  split
  · exact .err h
  · exact .ite h.conflict (.ite (.ok h.updProg.sendStages) (.ite (.later
      h.updProg.sendStages.stageUnit.sendStages.toPeers.updProg) (.ok h.updProg.sendStages.stageUnit.sendStages)))

protected theorem State.Depths.beginChange {u} (h : s.Depths) : (beginChange u s).Depths := by
  unfold Machine.beginChange
  exact .ite h.updProg h.installUnit.updProg

protected theorem State.Depths.execProgramStartChange {r} (h : s.Depths) : (execProgramStartChange r s).Depths := by
  unfold Machine.execProgramStartChange
  refine .next (h.serve (fun _ h => ?_))
  split
  · exact h.conflict
  · exact .ite (.err h) (.ite h.conflict (.ite (.later h.toPeers.beginChange) (.ok h.toPeers.took.beginChange)))

protected theorem State.Depths.execProgramRun {r} (h : s.Depths) : (execProgramRun r s).Depths := by
  unfold Machine.execProgramRun
  refine .next (h.serve (fun _ h => ?_))
  extract_lets +onlyGivenNames mode
  split
  exacts [.err h, .ite h.conflict (.ok h.beginConf.bumpConf.updProg.nameEvent)]

protected theorem State.Depths.execProgramGetTaskStats {r} (h : s.Depths) : (execProgramGetTaskStats r s).Depths := by
  unfold Machine.execProgramGetTaskStats
  refine .next (h.serve (fun _ h => ?_))
  extract_lets +onlyGivenNames n sel
  split
  exacts [.err h, .ite (.err h) (.ok h)]

protected theorem State.Depths.execProgramReadVar {r} (h : s.Depths) : (execProgramReadVar r s).Depths := by
  unfold Machine.execProgramReadVar
  refine .next (h.serve (fun _ h => ?_))
  extract_lets +onlyGivenNames p n
  split
  · exact .err h
  · split
    exacts [.later h.updProg, h.conflict]

protected theorem State.Depths.answerReads (h : s.Depths) : (answerReads s).Depths := by
  unfold Machine.answerReads
  refine h.updProg.foldl fun _ _ h => ?_
  dsimp only
  split
  exacts [h.finishD, h]

protected theorem State.Depths.forcesDue {k} (h : s.Depths) : (forcesDue k s).Depths := by
  unfold Machine.forcesDue
  exact .ite h h.updProg.bumpConf

protected theorem State.Depths.acceptChange {clear f} (h : s.Depths) : (acceptChange clear f s).2.Depths := by
  unfold Machine.acceptChange
  dsimp only
  exact h.updProg

protected theorem State.Depths.execForceSet {r} (h : s.Depths) : (execForceSet r s).Depths := by
  unfold Machine.execForceSet
  refine .next (h.serve (fun _ h => ?_))
  extract_lets +onlyGivenNames p
  split
  · exact .err h
  · split
    · exact .err h
    · extract_lets +onlyGivenNames after isNew
      exact .ite h.conflict (.ok h.acceptChange)

protected theorem State.Depths.execForceRelease {r} (h : s.Depths) : (execForceRelease r s).Depths := by
  unfold Machine.execForceRelease
  refine .next (h.serve (fun _ h => ?_))
  extract_lets +onlyGivenNames y
  split
  exacts [.err h, .err h, .ite h.conflict (.ok h.acceptChange)]

end Sys2Proof.Machine
end

section
/-! SUPPORT. The depths are kept by the frame, the release of outputs, snapshots and arrivals. -/

set_option Elab.async false

namespace Sys2Proof.Machine

variable {s : State}

/-! ### Machine/Frame -/

protected theorem State.Depths.startEngine {u k runs e} (h : s.Depths) : (startEngine u k runs s e).Depths := by
  unfold Machine.startEngine
  exact .ite (.startNext (h.putEng (h.eng e))) (h.putEng (h.eng e))

protected theorem State.Depths.startEngines {k} (h : s.Depths) : (startEngines k s).Depths := by
  unfold Machine.startEngines
  extract_lets +onlyGivenNames s1
  have h1 : s1.Depths := h.updProg
  split
  exacts [h1, h1.foldl fun _ _ h => h.startEngine]

protected theorem State.Depths.applyObject {k o b} (h : s.Depths) : (applyObject k o b s).Depths := by
  unfold Machine.applyObject
  split
  exacts [h.netApply, h.astApply, h.lspApply, h.fioApply, h.canApply, h]

protected theorem State.Depths.configDue {k} (h : s.Depths) : (configDue k s).Depths := by
  unfold Machine.configDue
  exact .streamingDue (h.upd.foldl fun _ _ h => h.applyObject)

protected theorem State.Depths.freshPool {k} (h : s.Depths) : (freshPool k s).Depths := by
  unfold Machine.freshPool
  exact .ite h h.updProg

protected theorem State.Depths.tickRole (h : s.Depths) : (tickRole s).Depths := by
  unfold Machine.tickRole
  exact .ite h.taintRole (.ite h.setRole.followPeers.showTriad h.reviewOwner)

protected theorem State.Depths.tickProgram (h : s.Depths) : (tickProgram s).Depths := by
  unfold Machine.tickProgram
  exact .ite h (.ite h.startOwn h.updProg)

protected theorem State.Depths.showAges (h : s.Depths) : (showAges s).Depths := by
  unfold Machine.showAges
  refine h.foldl fun _ _ h => ?_
  split
  exacts [h.set, h]

protected theorem State.Depths.execTick (h : s.Depths) : (execTick s).Depths := by
  unfold Machine.execTick
  have h1 {k p} : (Machine.configDue k (forcesDue k (runDue k (freshPool k { tickTime s with pwr := p })))).Depths :=
    h.tickTime.upd.freshPool.runDue.forcesDue.configDue
  exact .next h1.showAges.expireSubs.tickRole.tickProgram.reviewLoad.startEngines

protected theorem State.Depths.windowFault {e t} (h : s.Depths) : (windowFault e s t).Depths := by
  unfold Machine.windowFault
  exact h.noteFault.putEng (h.noteFault.eng e)

protected theorem State.Depths.stopEngine {e} (h : s.Depths) : (stopEngine s e).Depths := by
  unfold Machine.stopEngine
  extract_lets +onlyGivenNames ts s1 s2 s3
  have h3 : s3.Depths := .ringDoorbells (.foldl (.ite h.closeSegment h) fun _ _ h => h.windowFault)
  clear_value s3
  exact h3.putEng (h3.eng e)

protected theorem State.Depths.foldAll (h : s.Depths) : (foldAll s).Depths := by
  unfold Machine.foldAll
  exact h.foldl fun _ _ h => h.foldState

protected theorem State.Depths.stopEngines (h : s.Depths) : (stopEngines s).Depths := by
  unfold Machine.stopEngines
  exact .ite (.moduleReaction (h.foldAll.foldl fun _ _ h => h.stopEngine)) (h.foldAll.foldl fun _ _ h => h.stopEngine)

protected theorem State.Depths.judgeAster (h : s.Depths) : (judgeAster s).Depths := by
  unfold Machine.judgeAster
  exact .ite h.formEstimates.raise.raise.fail h

protected theorem State.Depths.gatherItem {u p} (h : s.Depths) : (gatherItem u s p).Depths := by
  unfold Machine.gatherItem
  split
  · exact h
  · extract_lets +onlyGivenNames v s1
    have h1 : s1.Depths := by
      clear_value v
      unfold s1
      split
      exacts [h.setBytes, h]
    exact .ite h1.updProg h1

protected theorem State.Depths.commandField {p} (h : s.Depths) : (commandField s p).Depths := by
  unfold Machine.commandField
  exact .ite h.updFio (.ite h.updFio h)

protected theorem State.Depths.gatherOutputs {u} (h : s.Depths) : (gatherOutputs u s).Depths := by
  unfold Machine.gatherOutputs
  exact .gatherPubs (.mmsReport (.foldl (.updProg (h.foldl fun _ _ h => h.gatherItem)) fun _ _ h => h.commandField))

protected theorem State.Depths.computeSigs {k} (h : s.Depths) : (computeSigs k s).Depths := by
  unfold Machine.computeSigs
  exact .ite h h.upd

protected theorem State.Depths.sendLines (h : s.Depths) : (sendLines s).Depths := by
  unfold Machine.sendLines
  exact h.toPeers

protected theorem State.Depths.showLeft {lines} (h : s.Depths) : (showLeft lines s).Depths := h

protected theorem State.Depths.markForJoiner (h : s.Depths) : (markForJoiner s).Depths := by
  unfold Machine.markForJoiner
  exact .ite h (.ite h.upd.sendLines.showLeft h.upd.showLeft)

protected theorem State.Depths.execExecutionWindowEnd (h : s.Depths) : (execExecutionWindowEnd s).Depths := by
  unfold Machine.execExecutionWindowEnd
  refine .next (.ite h (.answerReads (.catchUp (.ite (.markForJoiner (.computeSigs ?_)) ?_))))
  · split
    · exact .ite h.toPhase.stopEngines.judgeAster.gatherOutputs h.toPhase.stopEngines.judgeAster
    · exact h.toPhase.stopEngines.judgeAster
  · split
    · exact .ite h.toPhase.stopEngines.judgeAster.gatherOutputs h.toPhase.stopEngines.judgeAster
    · exact h.toPhase.stopEngines.judgeAster

protected theorem State.Depths.execErrorTaskRun {e} (h : s.Depths) : (execErrorTaskRun e s).Depths := by
  unfold Machine.execErrorTaskRun
  refine .next ?_
  split
  · exact h
  · extract_lets +onlyGivenNames s1 g cause
    have h1 : s1.Depths := h.toPhase
    refine .ite h ?_
    split
    exacts [h, .ite h h1.setBytes.updTask.beginSegment]

protected theorem State.Depths.swapBanks {u c swap} (h : s.Depths) : (swapBanks u c swap s).Depths := by
  unfold Machine.swapBanks
  exact h.catchUp.switchUnit.loadMpus.updProg.saveRetain.finishAll.endChange

protected theorem State.Depths.postponeSwap {c} (h : s.Depths) : (postponeSwap c s).Depths := by
  unfold Machine.postponeSwap
  exact .ite h.updProg.dropChange (.ite h.updProg.nameEvent h.updProg)

protected theorem State.Depths.execBankSwap (h : s.Depths) : (execBankSwap s).Depths := by
  unfold Machine.execBankSwap
  refine .next (.ite h ?_)
  extract_lets +onlyGivenNames s1 next
  have h1 : s1.Depths := h.toPhase
  refine .ite h1 ?_
  split
  exacts [.ite h1.swapBanks h1.postponeSwap, h1]

/-! ### Machine/Release -/

protected theorem State.Depths.countDiscards {u} (h : s.Depths) : (countDiscards u s).Depths := by
  unfold Machine.countDiscards
  exact h.foldl fun _ _ h => .ite h.updTask h

protected theorem State.Depths.releaseTraffic (h : s.Depths) : (releaseTraffic s).Depths := by
  unfold Machine.releaseTraffic
  refine .sendReports (.releaseReports ?_)
  split
  exacts [h.releasePubs, h]

protected theorem State.Depths.sendSignature {k} (h : s.Depths) : (sendSignature k s).Depths := by
  unfold Machine.sendSignature
  split
  exacts [h.toPeers, h]

protected theorem State.Depths.releaseFrame (h : s.Depths) : (releaseFrame s).Depths := by
  unfold Machine.releaseFrame
  refine .ite h (.ite (.releaseTraffic ?_) h.sendReports)
  split
  exacts [h.updNet.countDiscards, h]

protected theorem State.Depths.claimAtStart (h : s.Depths) : (claimAtStart s).Depths := by
  unfold Machine.claimAtStart
  exact h.recordOwn.enterRole.startSingletons.updProg

protected theorem State.Depths.takeOwn {gapNs} (h : s.Depths) : (takeOwn gapNs s).Depths := by
  unfold Machine.takeOwn
  extract_lets +onlyGivenNames from' back p s1 s2 s3
  have h3 : s3.Depths := .recordGap (.gatesOpen (.setBit (.setBit (.setBit h.upd))))
  exact .showPmus (.closeClients (.showSending (.showTriad (.followPeers
    (.ite h3.claimBack (.ite h3.claimFromStandby h3.claimAtStart))))))

/-! ### Machine/Snapshots -/

protected theorem State.Depths.freezeItem {k rows u it} {p : List SnapItem × State} (h : p.2.Depths) :
    (freezeItem k rows u p it).2.Depths := by
  unfold Machine.freezeItem
  split
  · exact h
  · exact .ite h.took h

protected theorem State.Depths.ageStations {k u} (h : s.Depths) : (ageStations k u s).Depths := h

protected theorem State.Depths.sendPage {a} (h : s.Depths) : (sendPage a s).Depths := by
  unfold Machine.sendPage
  exact h.toPeers

protected theorem State.Depths.sendState (h : s.Depths) : (sendState s).Depths := by
  unfold Machine.sendState
  exact .toPeers (h.foldl fun _ _ h => h.sendPage)

protected theorem State.Depths.nameJoin {k} (h : s.Depths) : (nameJoin k s).2.Depths := by
  unfold Machine.nameJoin
  exact .iteSnd (.set h.upd) h

protected theorem State.Depths.sendResync (h : s.Depths) : (sendResync s).Depths := by
  unfold Machine.sendResync
  exact .ite h (.ite h.set.sendState (.ite (.upd (.showLeft (.ite h h.sendLines))) h))

protected theorem State.Depths.freezeSnapshot {k} (h : s.Depths) : (freezeSnapshot k s).Depths := by
  unfold Machine.freezeSnapshot
  extract_lets +onlyGivenNames l r s1 s2 fr s3 q s4
  have h1 : s1.Depths := h.lspCutOff.freezeBatch
  clear_value s1
  have h2 : s2.Depths := by
    unfold s2
    split
    exacts [h1.ageStations, h1]
  clear_value s2
  have h3 : s3.Depths := by
    unfold s3 fr
    split
    exacts [.foldlSnd (fun _ _ h => h.freezeItem) h2, h2]
  clear_value s3
  have h4 : s4.Depths := h3.nameJoin
  clear_value s4
  exact h4.updNet.updProg.canTaken

protected theorem State.Depths.sendSnapshot (h : s.Depths) : (sendSnapshot s).Depths := by
  unfold Machine.sendSnapshot
  split
  · exact h
  · extract_lets +onlyGivenNames from'
    exact .ite h.toPeers h

protected theorem State.Depths.cutOff (h : s.Depths) : (cutOff s).Depths := by
  unfold Machine.cutOff
  exact .ite h.toPhase.expireSubs h.toPhase.expireSubs.updSec.catchUp.freezeSnapshot.sendSnapshot.sendResync

protected theorem State.Depths.takeSnapshot {own self sn} (h : s.Depths) : (takeSnapshot own self sn s).Depths := by
  unfold Machine.takeSnapshot
  exact .ite h.updProg.setBit.takeBatch.lspTake h.updProg.setBit.takeBatch.lspTake.undoPubs.adoptNamed

protected theorem State.Depths.selfFrame (h : s.Depths) : (selfFrame s).Depths := by
  unfold Machine.selfFrame
  exact .ite h.upd.raise.goSyncing h.upd.raise

protected theorem State.Depths.pairedFrame (h : s.Depths) : (pairedFrame s).Depths := h

protected theorem State.Depths.agreeTriad {own} (h : s.Depths) : (agreeTriad own s).Depths := by
  unfold Machine.agreeTriad
  exact .ite (.ite h.set.raiseIf.takeSnapshot.pairedFrame h.set.raiseIf.takeSnapshot.selfFrame) (.set (.pairedFrame
    (.takeSnapshot (.upd (.set (.ite h.set.raiseIf.bump h.set.raiseIf))))))

protected theorem State.Depths.selectSnapshot {own} (h : s.Depths) : (selectSnapshot own s).Depths := by
  unfold Machine.selectSnapshot
  refine .ite h.agreeTriad (.ite ?_ (.ite ?_ (.ite h.takeSnapshot h.takeSnapshot.pairedFrame)))
  · split
    exacts [h.takeSnapshot.pairedFrame, h.takeSnapshot.selfFrame]
  · split
    exacts [h.takeSnapshot, h]

protected theorem State.Depths.execSnapshotSelect (h : s.Depths) : (execSnapshotSelect s).Depths := by
  unfold Machine.execSnapshotSelect
  refine .next (.ite h ?_)
  extract_lets +onlyGivenNames s1
  have h1 : s1.Depths := h.toPhase
  split
  exacts [.ite h1.selectSnapshot h1, h1]

/-! ### Machine/Arrivals -/

protected theorem State.Depths.arrive {t} (h : s.Depths) : (arrive t s).Depths := by
  unfold Machine.arrive
  exact .advanceTo (.ite h.cutOff h)

protected theorem State.Depths.execSvFrameRx {f} (h : s.Depths) : (execSvFrameRx f s).Depths := by
  unfold Machine.execSvFrameRx
  refine .next ?_
  extract_lets +onlyGivenNames r s1
  have h1 : s1.Depths := h.arrive.takeIn
  refine .ite h1 (.ite h1.bump.raise ?_)
  split
  exacts [h1, .ite h1.takeSv h1.rejectSv]

protected theorem State.Depths.execGooseFrameRx {f} (h : s.Depths) : (execGooseFrameRx f s).Depths := by
  unfold Machine.execGooseFrameRx
  have h1 : (takeIn f.inn .other (arrive f.arrival s)).2.Depths := h.arrive.takeIn
  refine .next (.ite h1 (.ite h1.authFailed ?_))
  split
  exacts [h1, .ite h1.acceptGoose h1.bump.raise]

protected theorem State.Depths.execRgooseReportRx {x} (h : s.Depths) : (execRgooseReportRx x s).Depths := by
  unfold Machine.execRgooseReportRx
  refine .next ?_
  extract_lets +onlyGivenNames r s1 b addressed
  have h1 : s1.Depths := h.arrive.expireSubs.takeIn
  refine .ite h1 ?_
  split
  · exact h1.raise
  · extract_lets +onlyGivenNames macOk s2
    have h2 : s2.Depths := h1.setBit
    exact .ite h2.raise (.ite h2.updLsp.setBit.reviewStations h2.updLsp.setBit.reviewStations.bump.updLsp)

protected theorem State.Depths.execWavefrontDetect {g k n lanes} (h : s.Depths) :
    (execWavefrontDetect g k n lanes s).Depths := by
  unfold Machine.execWavefrontDetect
  refine .next (.ite h ?_)
  split
  exacts [h.arrive.takeDetection, h]

/-- `arrive` is kept in a variable `f`: no `match` on the state that it answers may run the TIME counter. -/
protected theorem State.Depths.execEventClose {g} (h : s.Depths) : (execEventClose g s).Depths := by
  unfold Machine.execEventClose
  obtain ⟨f, hf⟩ : ∃ f, f = arrive := ⟨_, rfl⟩
  have h1 (n) : (f n s).Depths := hf ▸ h.arrive
  rw [← hf]
  refine .next ?_
  split
  · exact h
  · dsimp only
    split
    exacts [(h1 _).closeEvent, h1 _]

protected theorem State.Depths.execRgooseRetransmit (h : s.Depths) : (execRgooseRetransmit s).Depths := by
  unfold Machine.execRgooseRetransmit
  refine .next ?_
  split
  exacts [.ite h.arrive.retransmit h, h]

/-- `arrive` is kept in a variable `f`: no `match` on the state that it answers may run the TIME counter. -/
protected theorem State.Depths.execRecordComplete (h : s.Depths) : (execRecordComplete s).Depths := by
  unfold Machine.execRecordComplete
  obtain ⟨f, hf⟩ : ∃ f, f = arrive := ⟨_, rfl⟩
  have h1 (n) : (f n s).Depths := hf ▸ h.arrive
  rw [← hf]
  refine .next ?_
  split
  · exact h
  · dsimp only
    split
    exacts [(h1 _).captureRecord, h1 _]

end Sys2Proof.Machine
end

section
/-! SUPPORT. The depths are kept by the backup domain, Hollyhock, power, memory and storage. -/

namespace Sys2Proof.Machine

variable {s : State}

/-! ### Machine/Backup -/

protected theorem State.Depths.recordPhase {us} (h : s.Depths) : (recordPhase us s).Depths := by
  unfold Machine.recordPhase
  exact .ite h.setInt h.set.took

protected theorem State.Depths.trimCount {moved} (h : s.Depths) : (trimCount moved s).Depths := by
  unfold Machine.trimCount
  exact .ite h.upd.upd.setInt h.upd

protected theorem State.Depths.writeAlarmHi {value} (h : s.Depths) : (writeAlarmHi value s).Depths := by
  unfold Machine.writeAlarmHi
  exact .ite h.set.setBit.setBit.fireAlarm h.set.setBit.setBit

protected theorem State.Depths.writeAlarmLo {value} (h : s.Depths) : (writeAlarmLo value s).Depths := by
  unfold Machine.writeAlarmLo
  exact h.set.setBit

protected theorem State.Depths.writeWd {value} (h : s.Depths) : (writeWd value s).Depths := by
  unfold Machine.writeWd
  exact .ite h.set.set h.set

protected theorem State.Depths.writePark (h : s.Depths) : (writePark s).Depths := by
  unfold Machine.writePark
  exact .ite h.raise (.ite h.set.setBit.upd.flushNand.writeBackup h)

protected theorem State.Depths.bytesInit (h : s.Depths) : (bytesInit s).Depths := by
  unfold Machine.bytesInit
  exact h.upd.putBackup.setBit

protected theorem State.Depths.resetBlock {b} (h : s.Depths) : (resetBlock b s).Depths := h

/-! ### Machine/Hollyhock -/

protected theorem State.Depths.showLanes (h : s.Depths) : (showLanes s).Depths := by
  unfold Machine.showLanes
  exact h.set.set

protected theorem State.Depths.laneMove {p l before after} (h : s.Depths) : (laneMove p l before after s).Depths := by
  unfold Machine.laneMove
  exact .ite h.set.showLanes h

protected theorem State.Depths.newKeys {slots} (h : s.Depths) : (newKeys slots s).Depths := by
  unfold Machine.newKeys
  exact h.upd.set.set.raise

protected theorem State.Depths.renewKeys (h : s.Depths) : (renewKeys s).Depths := by
  unfold Machine.renewKeys
  exact h.toPeers.newKeys

protected theorem State.Depths.keyRefused {slot} (h : s.Depths) : (keyRefused slot s).Depths := by
  unfold Machine.keyRefused
  exact .ite h.upd.set.peerRole.dropPeer.reviewOwner.refuseJoin h.joinAnswered

protected theorem State.Depths.execOldKeyExpiry (h : s.Depths) : (execOldKeyExpiry s).Depths := by
  unfold Machine.execOldKeyExpiry
  refine .next ?_
  split
  · exact h
  · extract_lets +onlyGivenNames l
    exact h.upd

protected theorem State.Depths.execDelayReq {port rx arrived departed} (h : s.Depths) :
    (execDelayReq port rx arrived departed s).Depths := by
  unfold Machine.execDelayReq
  refine .next ?_
  split
  exacts [.ite h.upd.toPort h, h.onFrame (fun _ h => h.toPort)]

protected theorem State.Depths.takeExchange {p e} (h : s.Depths) : (takeExchange p e s).Depths := by
  unfold Machine.takeExchange
  exact .ite h.upd.raiseIf.set h.upd.raiseIf.set.setInt

protected theorem State.Depths.steerBySeven {p} (h : s.Depths) : (steerBySeven p s).Depths := by
  unfold Machine.steerBySeven
  exact .ite h h.setInt.servo.refreshQuality

/-! ### Machine/Power -/

protected theorem State.Depths.powerFail (h : s.Depths) : (powerFail s).Depths := by
  unfold Machine.powerFail
  exact .ite h.upd.raise h.upd.raise.set.fail

protected theorem State.Depths.carryA (h : s.Depths) : (carryA s).Depths := by
  unfold Machine.carryA
  exact h.upd.set.set

protected theorem State.Depths.carryB (h : s.Depths) : (carryB s).Depths := by
  unfold Machine.carryB
  exact h.upd.set

protected theorem State.Depths.feedLeft {f state} (h : s.Depths) : (feedLeft f state s).Depths := by
  unfold Machine.feedLeft
  exact .ite h.set.raiseIf (.ite (.ite h.set.raiseIf.carryB h.set.raiseIf.carryA) h.set.raiseIf.powerFail)

protected theorem State.Depths.feedVolts {f mv} (h : s.Depths) : (feedVolts f mv s).Depths := h

protected theorem State.Depths.feedBack {f} (h : s.Depths) : (feedBack f s).Depths := by
  unfold Machine.feedBack
  exact .ite h (.ite (.ite h.set h.carryA) (.ite h.set h.set.carryB))

protected theorem State.Depths.maxTemp {f v} (h : s.Depths) : (maxTemp f v s).Depths := by
  unfold Machine.maxTemp
  exact .ite h.setInt h

protected theorem State.Depths.applyCap (h : s.Depths) : (applyCap s).Depths := by
  unfold Machine.applyCap
  exact .ite h.set h

protected theorem State.Depths.measureInput (h : s.Depths) : (measureInput s).Depths := by
  unfold Machine.measureInput
  exact h.set.took.set.took.set.took.maxTo

protected theorem State.Depths.shutDown (h : s.Depths) : (shutDown s).Depths := by
  unfold Machine.shutDown
  exact h.set.set.convOff

protected theorem State.Depths.judgeStretch (h : s.Depths) : (judgeStretch s).Depths := by
  unfold Machine.judgeStretch
  exact .ite h.upd.bump.raise h

protected theorem State.Depths.showClock {d running gated} (h : s.Depths) : (showClock d running gated s).Depths := h

/-! ### Machine/Memory -/

protected theorem State.Depths.writeMemLog {n memory index source symbols devices kind} (h : s.Depths) :
    (writeMemLog n memory index source symbols devices kind s).Depths := by
  unfold Machine.writeMemLog
  exact h.set.set.set.set.set.set.set.set.set

protected theorem State.Depths.memLog {memory index source symbols devices kind} (h : s.Depths) :
    (memLog memory index source symbols devices kind s).Depths := by
  unfold Machine.memLog
  exact .ite h.bump.raise h.writeMemLog.set

protected theorem State.Depths.clearMemLog (h : s.Depths) : (clearMemLog s).Depths := by
  unfold Machine.clearMemLog
  exact h.set.set.foldl fun _ _ h => h.setReg

protected theorem State.Depths.logCorrected {memory index source symbols devices} (h : s.Depths) :
    (logCorrected memory index source symbols devices s).Depths := by
  unfold Machine.logCorrected
  exact .ite h h.upd.memLog

protected theorem State.Depths.retireDev {d state} (h : s.Depths) : (retireDev d state s).Depths := by
  unfold Machine.retireDev
  exact h.raise.memLog.lifetimeAdd

protected theorem State.Depths.reviewDevs (h : s.Depths) : (reviewDevs s).Depths := by
  unfold Machine.reviewDevs
  refine .ite ?_ (.ite ?_ h)
  · split
    exacts [h, h.set.set.retireDev, h.set.set.set.retireDev.retireDev.fail]
  · split
    exacts [h, h.set.set.retireDev.fail]

protected theorem State.Depths.attributeTo {line errs d} (h : s.Depths) : (attributeTo line errs s d).Depths := by
  unfold Machine.attributeTo
  exact .ite h h.bump.upd.set

protected theorem State.Depths.dramRead {line source bad} (h : s.Depths) : (dramRead line source bad s).Depths := by
  unfold Machine.dramRead
  exact .ite h (.ite (.reviewDevs (.logCorrected (h.raise.maxTo.foldl fun _ _ h => h.attributeTo)))
    h.raise.memLog.set.fail)

protected theorem State.Depths.execDramScrubRead {bad overwritten} (h : s.Depths) :
    (execDramScrubRead bad overwritten s).Depths := by
  unfold Machine.execDramScrubRead
  exact .next (.ite h (.ite (.wrapUp (h.setBit.dramRead.set.upd.foldl fun _ _ h => h.set)) h.setBit.dramRead.set))

protected theorem State.Depths.sramUe {memory index source} (h : s.Depths) : (sramUe memory index source s).Depths := by
  unfold Machine.sramUe
  exact h.raise.memLog.fail

protected theorem State.Depths.execSramScrubRead {memory index outcome overwritten passDone} (h : s.Depths) :
    (execSramScrubRead memory index outcome overwritten passDone s).Depths := by
  unfold Machine.execSramScrubRead
  refine .next (.ite h ?_)
  extract_lets +onlyGivenNames s1 s2
  have h1 : s1.Depths := h.setBit
  have h2 : s2.Depths := by
    unfold s2
    split
    exacts [h1, h1.raise.bump.logCorrected, h1.sramUe]
  exact .ite (.wrapUp h2.upd) h2

/-! ### Machine/Storage -/

protected theorem State.Depths.updNvs {f} (h : s.Depths) : (State.updNvs s f).Depths := h

protected theorem State.Depths.showSpare (h : s.Depths) : (showSpare s).Depths := by
  unfold Machine.showSpare
  exact h.foldl fun _ _ h => h.set

protected theorem State.Depths.exhaustRecord {copy} (h : s.Depths) : (exhaustRecord copy s).Depths := by
  unfold Machine.exhaustRecord
  exact h.took.lifetimeAdd

protected theorem State.Depths.archReadOnly (h : s.Depths) : (archReadOnly s).Depths := by
  unfold Machine.archReadOnly
  exact .ite h (.set (.updLsp (h.setBit.raise.fwLog.exhaustRecord.foldl fun _ _ h => h.raise)))

protected theorem State.Depths.exhaustCopy {copy} (h : s.Depths) : (exhaustCopy copy s).Depths := by
  unfold Machine.exhaustCopy
  exact .ite h h.set.raise.exhaustRecord

protected theorem State.Depths.retireBlock {copy package} (h : s.Depths) : (retireBlock copy package s).Depths := by
  unfold Machine.retireBlock
  exact .ite (.ite h.exhaustCopy h.archReadOnly) h.updNvs.bump.raise.showSpare.raiseIf

protected theorem State.Depths.retireAt {copy package i} (h : s.Depths) : (retireAt copy package i s).Depths := by
  unfold Machine.retireAt
  exact .ite h.retireBlock h.updNand.retireBlock

protected theorem State.Depths.retireWorn {copy package} (h : s.Depths) : (retireWorn copy package s).Depths := by
  unfold Machine.retireWorn
  exact h.foldl fun _ _ h => h.retireAt

protected theorem State.Depths.uncorrectable {p b g} (h : s.Depths) : (uncorrectable p b g s).Depths := by
  unfold Machine.uncorrectable
  extract_lets +onlyGivenNames s1 bad
  have h1 : s1.Depths := h.raise
  refine .ite h1 (.ite h1.updNand.updNvs.fwLog ?_)
  split
  · exact h1.nandPut
  · extract_lets +onlyGivenNames s2
    have h2 : s2.Depths := h1.updNand
    split
    exacts [.ite h2 h2.upd, h2]

protected theorem State.Depths.refreshBlock {p i} (h : s.Depths) : (refreshBlock p i s).Depths := h

protected theorem State.Depths.sweepPage {x b g} (h : s.Depths) : (sweepPage x b g s).Depths := by
  unfold Machine.sweepPage
  extract_lets +onlyGivenNames p q s1 s2 s3 s4
  have h2 : s2.Depths := h.maxTo.updNand
  have h3 : s3.Depths := .ite h2.storeOffset h2
  have h4 : s4.Depths := .ite h3.raise (.ite h3.uncorrectable h3)
  exact .retireWorn (.ite h4.retireAt (.ite h4.refreshBlock h4))

protected theorem State.Depths.execNandSweepRead {x} (h : s.Depths) : (execNandSweepRead x s).Depths := by
  unfold Machine.execNandSweepRead
  refine .next (.ite h ?_)
  extract_lets +onlyGivenNames s1 b s2
  have h1 : s1.Depths := h.setBit
  have h2 : s2.Depths := by
    unfold s2
    split
    exacts [h1.sweepPage.showWear, h1]
  exact .ite h2.updNvs.wrapUp.set h2.set

protected theorem State.Depths.execConfWriteComplete {programmed} (h : s.Depths) :
    (execConfWriteComplete programmed s).Depths := by
  unfold Machine.execConfWriteComplete
  refine .next ?_
  split
  · exact h
  · refine .showWear (.foldl (.confDone h.upd) fun _ _ h => .retireWorn ?_)
    split
    exacts [.ite h.retireAt h, h]

protected theorem State.Depths.execArchiveList {r} (h : s.Depths) : (execArchiveList r s).Depths := by
  unfold Machine.execArchiveList
  refine .next (h.serve (fun _ h => ?_))
  split
  · exact .err h
  · extract_lets +onlyGivenNames l
    exact .ok h

protected theorem State.Depths.execArchiveExport {r} (h : s.Depths) : (execArchiveExport r s).Depths := by
  unfold Machine.execArchiveExport
  refine .next (h.serve (fun _ h => ?_))
  extract_lets +onlyGivenNames p off len
  split
  · extract_lets +onlyGivenNames n
    split
    exacts [.err h, .ite (.err h) (.later h.updNvs)]
  · exact .err h

protected theorem State.Depths.execArchiveDelete {r} (h : s.Depths) : (execArchiveDelete r s).Depths := by
  unfold Machine.execArchiveDelete
  refine .next (h.serve (fun _ h => ?_))
  extract_lets +onlyGivenNames id
  split
  exacts [.err h, .ite h.conflict (.ite (.err h) (.ok h.updNvs.nandForget.showArch))]

protected theorem State.Depths.execArchiveLogEvent {r} (h : s.Depths) : (execArchiveLogEvent r s).Depths := by
  unfold Machine.execArchiveLogEvent
  refine .next (h.serve (fun _ h => ?_))
  extract_lets +onlyGivenNames p
  split
  · exact .err h
  · split
    exacts [.ok h.logEvent, .ok h]

protected theorem State.Depths.execArchiveReadLog {r} (h : s.Depths) : (execArchiveReadLog r s).Depths := by
  unfold Machine.execArchiveReadLog
  refine .next (h.serve (fun _ h => ?_))
  split
  · exact .err h
  · extract_lets +onlyGivenNames l next
    exact .ok h

protected theorem State.Depths.execLifetimeReadRecords {r} (h : s.Depths) : (execLifetimeReadRecords r s).Depths := by
  unfold Machine.execLifetimeReadRecords
  refine .next (h.serve (fun _ h => ?_))
  extract_lets +onlyGivenNames first count
  refine .ite (.err h) ?_
  split
  · extract_lets +onlyGivenNames t
    exact .later h.updNvs
  · exact h.conflict

protected theorem State.Depths.countReads {id} (h : s.Depths) : (countReads id s).Depths := h

protected theorem State.Depths.advanceTransfer {t} (h : s.Depths) : (advanceTransfer t s).Depths := by
  unfold Machine.advanceTransfer
  exact .ite h.dropTransfers.finishD (.ite (.finishD (.dropTransfers (.ite (.countReads (.ite h.took.post h))
    (.ite h.took.post h)))) (.updNvs (.ite (.countReads (.ite h.took.post h)) (.ite h.took.post h))))

end Sys2Proof.Machine
end

section
/-! SUPPORT. The depths are kept by update, boot, settings commands, security and what is forwarded. -/

namespace Sys2Proof.Machine

variable {s : State}

/-! ### Machine/Update -/

protected theorem State.Depths.busy (h : s.Depths) : (busy s).Depths := by
  unfold Machine.busy
  exact .err h.raise

protected theorem State.Depths.takeLock {hdr} (h : s.Depths) : (takeLock hdr s).Depths := by
  unfold Machine.takeLock
  exact h.updSec.setBit

protected theorem State.Depths.dropUpdate (h : s.Depths) : (dropUpdate s).Depths := by
  unfold Machine.dropUpdate
  exact h.updSec.freeLock

protected theorem State.Depths.beginUpdate {hdr p} (h : s.Depths) : (beginUpdate hdr p s).Depths := by
  unfold Machine.beginUpdate
  exact h.takeLock.writeRecord.updSec

protected theorem State.Depths.lockAnswered {hdr status} (h : s.Depths) : (lockAnswered hdr status s).Depths := by
  unfold Machine.lockAnswered
  refine h.updSec.foldl fun _ b h => ?_
  extract_lets +onlyGivenNames answer
  have ha {st p} {t : State} (ht : t.Depths) : (answer st p t).Depths := by
    unfold answer
    split
    exacts [ht.finishD, ht]
  clear_value answer
  exact .ite (ha h.raise) (.ite (ha h) (.ite (ha h) (ha h.beginUpdate)))

protected theorem State.Depths.lockAsked {hdr} (h : s.Depths) : (lockAsked hdr s).Depths := by
  unfold Machine.lockAsked
  exact .ite h (.ite h.raise.forwardTo (.ite h.forwardTo h.takeLock.forwardTo))

protected theorem State.Depths.execUpdateBegin {r} (h : s.Depths) : (execUpdateBegin r s).Depths := by
  unfold Machine.execUpdateBegin
  refine .next (h.serve fun _ h => ?_)
  dsimp only
  split
  · exact .err h
  · refine .ite h.busy (.ite h.conflict (.ite (.ite h.conflict (.ok h.beginUpdate)) (.ite h.conflict ?_)))
    split
    exacts [.later h.updSec.forwardTo, h.conflict]

protected theorem State.Depths.execUpdateTransfer {r} (h : s.Depths) : (execUpdateTransfer r s).Depths := by
  unfold Machine.execUpdateTransfer
  refine .next (h.serve (fun _ h => ?_))
  extract_lets +onlyGivenNames p off chunk
  split
  exacts [.ite (.err h) h.conflict, .ite h.busy (.ite h.conflict (.ok h.took.updSec.sendStages))]

protected theorem State.Depths.judgeBundle (h : s.Depths) : (judgeBundle s).2.Depths := by
  unfold Machine.judgeBundle
  split
  · dsimp only
    exact h.raise
  · split
    exacts [h.raiseUnbootable, h]

protected theorem State.Depths.nextTurn (h : s.Depths) : (nextTurn s).Depths := by
  unfold Machine.nextTurn
  dsimp only
  split
  exacts [.ite h h.nameHandover.groupStepTo, h.groupStepTo]

protected theorem State.Depths.groupBundle {flags window digest bytes} (h : s.Depths) :
    (groupBundle flags window digest bytes s).Depths := by
  unfold Machine.groupBundle
  exact h.updSec.judgeBundle.forwardTo

protected theorem State.Depths.groupArrived {step slot} (h : s.Depths) : (groupArrived step slot s).Depths := by
  unfold Machine.groupArrived
  exact .ite h.updSec.freeLock (.ite h.endGroup (.ite (.ite (.ite h.updSec.nextTurn h.updSec) (.ite h.updSec.nextTurn
    h)) (.ite h.updSec.takeTurn (.ite h.updSec h))))

/-! ### Machine/Boot -/

protected theorem State.Depths.requestWarm (h : s.Depths) : (requestWarm s).Depths := by
  unfold Machine.requestWarm
  exact .ite h.raise h.saveRetain.upd

protected theorem State.Depths.requestDomains {mask} (h : s.Depths) : (requestDomains mask s).Depths := by
  unfold Machine.requestDomains
  exact h.foldl fun _ _ h => .ite h (.ite h.upd h.raise)

protected theorem State.Depths.mapRegs {p f} (h : s.Depths) : (mapRegs p f s).Depths := h

protected theorem State.Depths.resetRings (h : s.Depths) : (resetRings s).Depths := h

protected theorem State.Depths.resetBlocks {bs} (h : s.Depths) : (resetBlocks bs s).Depths := by
  unfold Machine.resetBlocks
  exact h.mapRegs

protected theorem State.Depths.resetMailbox (h : s.Depths) : (resetMailbox s).Depths := by
  unfold Machine.resetMailbox
  exact .resetRings (.showSessions (h.upd.foldl fun _ _ h => h.setReg))

protected theorem State.Depths.resetHollyhock (h : s.Depths) : (resetHollyhock s).Depths := by
  unfold Machine.resetHollyhock
  exact .set (.set (.set (.set (h.upd.foldl fun _ _ h => h.set.set))))

protected theorem State.Depths.resetPair (h : s.Depths) : (resetPair s).Depths := by
  unfold Machine.resetPair
  exact .setBit (.setBit (.set (.set (.set (h.upd.foldl fun _ _ h => h.setBit.setBit.set)))))

protected theorem State.Depths.resetNetworks (h : s.Depths) : (resetNetworks s).Depths := by
  unfold Machine.resetNetworks
  exact .showNetwork (.foldl (.set (.set (.set (.setBit (h.foldl fun _ _ h => h.setBit.set.setBit))))) fun _ _ h =>
    h.set)

protected theorem State.Depths.resetProgram (_ : s.Depths) : (resetProgram s).Depths := by
  unfold Machine.resetProgram
  exact .rested (l := 8) rfl

protected theorem State.Depths.resetStore (h : s.Depths) : (resetStore s).Depths := h

protected theorem State.Depths.dropDram (h : s.Depths) : (dropDram s).Depths := h

protected theorem State.Depths.resetUpdate (h : s.Depths) : (resetUpdate s).Depths := by
  unfold Machine.resetUpdate
  exact .ite h.updSec.updSec.setBit (.ite h.updSec.updSec h.updSec)

protected theorem State.Depths.bootStops {lastFault} (h : s.Depths) : (bootStops lastFault s).Depths := by
  unfold Machine.bootStops
  exact h.updSec.recordLastFault

protected theorem State.Depths.romFallback (h : s.Depths) : (romFallback s).Depths := by
  unfold Machine.romFallback
  exact h.writeRecord.updSec

protected theorem State.Depths.showDigest {f d} (h : s.Depths) : (showDigest f d s).Depths := by
  unfold Machine.showDigest
  exact h.foldl fun _ _ h => h.set

protected theorem State.Depths.loadBootConf (h : s.Depths) : (loadBootConf s).Depths := by
  unfold Machine.loadBootConf
  exact .raiseIf (.ite h.set.set.set.updSec h.set.set.set.updSec.set.set.set)

protected theorem State.Depths.bootBundle {i copy} (h : s.Depths) : (bootBundle i copy s).Depths := by
  unfold Machine.bootBundle
  exact .loadBootConf (.setBit (.took (.set (.secureDram (.showDigest (.showDigest (.updSec (.setBit
    (.ite h.set.set.setBit.maxTo h.set.set.setBit)))))))))

protected theorem State.Depths.bootChain (h : s.Depths) : (bootChain s).Depths := by
  unfold Machine.bootChain
  extract_lets +onlyGivenNames s1
  have h1 : s1.Depths := h.updSec
  split
  · exact h1.bootStops
  · extract_lets +onlyGivenNames n trial s2 s3 s4 q
    have h2 : s2.Depths := .ite h1.romFallback h1
    have h3 : s3.Depths := .ite h2 h2.bytesInit.writeBackup
    have h4 : s4.Depths := h3.setAttempts
    split
    exacts [h4.firstBootable.bootBundle, h4.firstBootable.bootStops]

protected theorem State.Depths.flushCrossing {reset x} (h : s.Depths) : (flushCrossing reset s x).Depths := by
  unfold Machine.flushCrossing
  exact .ite h h.send

protected theorem State.Depths.restartTick (h : s.Depths) : (restartTick s).Depths := by
  unfold Machine.restartTick
  exact h.upd.setTickRole

protected theorem State.Depths.warmParts (h : s.Depths) : (warmParts s).Depths := by
  unfold Machine.warmParts
  extract_lets +onlyGivenNames s1 s2 s3 s4
  have h3 : s3.Depths := h.flushNand.releaseOwn.stopSingletons.setDrive.setRole.restartTick
  have h4 : s4.Depths := h3.resetMailbox.resetHollyhock.resetPair.resetProgram.resetStore
  exact .mapRegs (.dropDram (.showStages (.lspWarm (.astDomainReset (.resetNetworks h4.upd)))))

protected theorem State.Depths.loadRetired (h : s.Depths) : (loadRetired s).Depths := by
  unfold Machine.loadRetired
  split
  · exact h
  · exact h.set.set
  · extract_lets +onlyGivenNames s1
    have h1 : s1.Depths := h.set.set.set
    exact h1.updSec

protected theorem State.Depths.showFuses {old} (h : s.Depths) : (showFuses old s).Depths := by
  unfold Machine.showFuses
  exact h.set.set.set

protected theorem State.Depths.showLines {old} (h : s.Depths) : (showLines old s).Depths := by
  unfold Machine.showLines
  exact h.setBit.setBit.setBit

protected theorem State.Depths.execColdReset {cause} (h : s.Depths) : (execColdReset cause s).Depths := by
  unfold Machine.execColdReset
  refine .next ?_
  extract_lets +onlyGivenNames old kept s1 s2 s3 s4 s5 s6
  have h1 : s1.Depths := h.resetProgram.resetStore.updNvs
  have h2 : s2.Depths := h1
  have h6 : s6.Depths := h2.showFuses.showLines.set.set.resetUpdate.bootChain
  exact .ite h6 h6.loadRetired

protected theorem State.Depths.domainEffect {d} (h : s.Depths) : (domainEffect d s).Depths := by
  unfold Machine.domainEffect
  split
  · exact h.astDomainReset.resetRings
  · exact h.resetNetworks
  · exact h.resetHollyhock.showTriad
  · exact h.lspWarm
  · exact h.upd.setDrive
  · exact h

protected theorem State.Depths.loadTime (h : s.Depths) : (loadTime s).Depths := by
  unfold Machine.loadTime
  exact .ite h h.upd.setTimeFault.stepCounter.setSource

protected theorem State.Depths.loadTimeConf (h : s.Depths) : (loadTimeConf s).Depths := by
  unfold Machine.loadTimeConf
  exact .ite h h.upd.applyTimeConfig

protected theorem State.Depths.loadConf {absent} (h : s.Depths) : (loadConf absent s).Depths := by
  unfold Machine.loadConf
  exact .foldl (h.upd.foldl fun _ _ h => h.applyObject) fun _ _ h => .ite h h.putConf

protected theorem State.Depths.startTrial {absent selfTest} (h : s.Depths) : (startTrial absent selfTest s).Depths := by
  unfold Machine.startTrial
  exact .ite h.upd.updSec.set h.upd.updSec.set.endTrial

protected theorem State.Depths.afterFallback (h : s.Depths) : (afterFallback s).Depths := by
  unfold Machine.afterFallback
  extract_lets +onlyGivenNames c s1 s2
  have h1 : s1.Depths := by
    unfold s1
    split
    exacts [h.upd, h]
  have h2 : s2.Depths := h1.updSec.freeLock.raise
  exact .ite h2 h2.updSec.forwardTo

protected theorem State.Depths.loadUnitCode (h : s.Depths) : (loadUnitCode s).Depths := by
  unfold Machine.loadUnitCode
  split
  exacts [h.loadCode, h]

protected theorem State.Depths.countStart (h : s.Depths) : (countStart s).Depths := by
  unfold Machine.countStart
  exact .ite h h.updNvs.lifetimeAdd

protected theorem State.Depths.execFirmwareUp {absent selfTest} (h : s.Depths) :
    (execFirmwareUp absent selfTest s).Depths := by
  unfold Machine.execFirmwareUp
  refine .next (.ite h ?_)
  extract_lets +onlyGivenNames s1 s2 s3 s4 s5 s6
  have h2 : s2.Depths := h.updSec.secureDram.countStart.setBit.set
  have h3 : s3.Depths := .ite h2.afterFallback h2
  have h6 : s6.Depths := h3.loadTime.loadTimeConf.set.refreshLck.loadConf.loadUnitCode
  exact .refreshQuality (.joinOrClaim (.reviewPairOk (.showArch (.showSpare (.ite h6.startTrial h6)))))

/-! ### Machine/ConfigCmds -/

protected theorem State.Depths.stageObject {o b} (h : s.Depths) : (stageObject o b s).Depths := h

protected theorem State.Depths.execConfigReadSettings {r} (h : s.Depths) : (execConfigReadSettings r s).Depths := by
  unfold Machine.execConfigReadSettings
  refine .next (h.serve (fun _ h => ?_))
  extract_lets +onlyGivenNames o
  split
  exacts [.err h, .ite (.err h) (.ok h)]

protected theorem State.Depths.execConfigStageSettings {r} (h : s.Depths) : (execConfigStageSettings r s).Depths := by
  unfold Machine.execConfigStageSettings
  refine .next (h.serve (fun _ h => ?_))
  extract_lets +onlyGivenNames p o b
  split
  exacts [.err h, .ite (.err h) (.ite h.conflict (.ite (.err h.raise) (.ok h.stageObject.forwardTo)))]

protected theorem State.Depths.activateBoot {b} (h : s.Depths) : (activateBoot b s).Depths := by
  unfold Machine.activateBoot
  exact h.stageObject.confWrite.forwardTo

protected theorem State.Depths.execConfigActivate {r} (h : s.Depths) : (execConfigActivate r s).Depths := by
  unfold Machine.execConfigActivate
  refine .next (h.serve (fun _ h => ?_))
  extract_lets +onlyGivenNames o b
  split
  · exact .err h
  · refine .ite h.conflict (.ite (.ok h.activateBoot) ?_)
    split
    exacts [.err h, .ite h.conflict (.ok h.stageObject.confWrite.pendObject)]

protected theorem State.Depths.execConfigDiscardStaged {r} (h : s.Depths) : (execConfigDiscardStaged r s).Depths := by
  unfold Machine.execConfigDiscardStaged
  refine .next (h.serve (fun _ h => ?_))
  split
  · exact .err h
  · extract_lets +onlyGivenNames o
    exact .ite (.ok h.stageObject.forwardTo) h.conflict

/-! ### Machine/Security -/

protected theorem State.Depths.execSecuritySetTrustAnchors {r} (h : s.Depths) :
    (execSecuritySetTrustAnchors r s).Depths := by
  unfold Machine.execSecuritySetTrustAnchors
  refine .next (h.serve (fun _ h => ?_))
  extract_lets +onlyGivenNames p kind n
  split
  · exact .err h
  · refine .ite (.ite (.err h) ?_) ?_
    · split
      exacts [.err h, .ok h.updSec]
    · split
      exacts [.err h, .ite (.ok h.updSec) (.err h)]

protected theorem State.Depths.writeOwn {o b} (h : s.Depths) : (writeOwn o b s).Depths := by
  unfold Machine.writeOwn
  exact h.confWrite.putConf

protected theorem State.Depths.execSecurityLoadCrl {r} (h : s.Depths) : (execSecurityLoadCrl r s).Depths := by
  unfold Machine.execSecurityLoadCrl
  refine .next (h.serve (fun _ h => ?_))
  extract_lets +onlyGivenNames ca
  split
  · exact .err h
  · extract_lets +onlyGivenNames held others
    exact .ite h.conflict (.ok h.writeOwn)

protected theorem State.Depths.writeSecConf {off b} (h : s.Depths) : (writeSecConf off b s).Depths := by
  unfold Machine.writeSecConf
  exact h.writeOwn

protected theorem State.Depths.execSecuritySetRoleMap {r} (h : s.Depths) : (execSecuritySetRoleMap r s).Depths := by
  unfold Machine.execSecuritySetRoleMap
  refine .next (h.serve (fun _ h => ?_))
  split
  exacts [.err h, .ok h.writeSecConf]

protected theorem State.Depths.setEnrol {slot phase} (h : s.Depths) : (setEnrol slot phase s).Depths := h

protected theorem State.Depths.installCert {chain notAfter} (h : s.Depths) : (installCert chain notAfter s).Depths := h

protected theorem State.Depths.newRequest (h : s.Depths) : (newRequest s).2.Depths := h

protected theorem State.Depths.enrolEnds {cert} (h : s.Depths) : (enrolEnds cert s).Depths := by
  unfold Machine.enrolEnds
  extract_lets +onlyGivenNames s1
  have h1 : s1.Depths := h.setEnrol
  split
  exacts [h1.installCert.finishAll, h1.took.raise.finishAll]

protected theorem State.Depths.renewNow (h : s.Depths) : (renewNow s).Depths := by
  unfold Machine.renewNow
  exact .ite (.later h.setEnrol) (.ite h.conflict (.later h.newRequest.setEnrol.forwardTo))

protected theorem State.Depths.execSecurityEnrol {r} (h : s.Depths) : (execSecurityEnrol r s).Depths := by
  unfold Machine.execSecurityEnrol
  refine .next (h.serve (fun _ h => ?_))
  extract_lets +onlyGivenNames p a n lenOk
  refine .ite (.err h) ?_
  split
  · exact .err h
  · refine .ite (.ok h.newRequest) (.ite ?_ (.ite (.ok h.writeSecConf) (.ite h.conflict h.renewNow)))
    split
    exacts [.ok h.installCert, .err h.raise]

protected theorem State.Depths.execEnrolRenewal {slot chain} (h : s.Depths) :
    (execEnrolRenewal slot chain s).Depths := by
  unfold Machine.execEnrolRenewal
  refine .next (.ite h (.ite h.enrolEnds ?_))
  extract_lets +onlyGivenNames s1
  have h1 : s1.Depths := h.setEnrol
  split
  exacts [h1.forwardTo, h1.raise.forwardTo]

protected theorem State.Depths.emptyRevoked {slot} (h : s.Depths) : (emptyRevoked slot s).Depths := by
  unfold Machine.emptyRevoked
  exact .ite h.writeRecord h

protected theorem State.Depths.execSecurityRevokeRootSlot {r} (h : s.Depths) :
    (execSecurityRevokeRootSlot r s).Depths := by
  unfold Machine.execSecurityRevokeRootSlot
  refine .next (h.serve (fun _ h => ?_))
  extract_lets +onlyGivenNames p i rev
  split
  exacts [.err h, .ite h.conflict (.ok h.set.raise.emptyRevoked.lifetimeAdd)]

protected theorem State.Depths.execIdentGetCertificates {r} (h : s.Depths) : (execIdentGetCertificates r s).Depths := by
  unfold Machine.execIdentGetCertificates
  refine .next (h.serve (fun _ h => ?_))
  split
  · exact .err h
  · extract_lets +onlyGivenNames l l
    exact .ok h

/-! ### Machine/Forward -/

protected theorem State.Depths.forwardedSettings {o f b} (h : s.Depths) : (forwardedSettings o f b s).Depths := by
  unfold Machine.forwardedSettings
  exact .ite h.stageObject.confWrite h.stageObject.confWrite.upd

protected theorem State.Depths.forwardedUnit {b} (h : s.Depths) : (forwardedUnit b s).Depths := by
  unfold Machine.forwardedUnit
  exact h.stageUnit.forwardTo

protected theorem State.Depths.unitResultFrom {slot result} (h : s.Depths) : (unitResultFrom slot result s).Depths := by
  unfold Machine.unitResultFrom
  split
  exacts [h, h.updProg.reviewLoad]

protected theorem State.Depths.forwardedChange {id} (h : s.Depths) : (forwardedChange id s).Depths := by
  unfold Machine.forwardedChange
  split
  exacts [.ite h.beginChange h.toPeers, h.toPeers]

protected theorem State.Depths.objectAsked {o} (h : s.Depths) : (objectAsked o s).Depths := by
  unfold Machine.objectAsked
  exact .ite h.forwardTo h

protected theorem State.Depths.objectArrived {o b} (h : s.Depths) : (objectArrived o b s).Depths := by
  unfold Machine.objectArrived
  exact .ite h (.ite h.confWrite h.confWrite.putConf.applyObject)

protected theorem State.Depths.lockFreed (h : s.Depths) : (lockFreed s).Depths := by
  unfold Machine.lockFreed
  exact h.updSec.setBit

protected theorem State.Depths.forwarded {slot f} (h : s.Depths) : (forwarded slot f s).Depths := by
  unfold Machine.forwarded
  split
  · exact h.forwardedSettings
  · exact h.pendStreaming
  · exact h.forwardedChange
  · exact h.dropChange
  · exact h.forwardedUnit
  · exact h.unitResultFrom
  · exact h.updProg
  · exact h.startCal
  · exact h.runTrigger
  · exact h.stageObject
  · exact h.stageObject
  · exact h.objectAsked
  · exact h.objectArrived
  · exact h.lockAsked
  · exact h.lockAnswered
  · exact h.lockFreed
  · exact h.groupBundle
  · exact .ite h.resyncAsked h
  · exact .ite h.joinAnswered h.joinHeard
  · exact h.groupArrived
  · exact .ite h.setEnrol h
  · exact .ite h.enrolEnds h

end Sys2Proof.Machine
end

section
/-! SUPPORT. The depths are kept by the instructions of Petal. -/

namespace Sys2Proof.Machine

variable {s : State}

/-! ### Machine/PetalCore -/

/-- A completed instruction whose body keeps the depths keeps them. -/
protected theorem State.Depths.runPetalThen {e len cyc body after} (h : s.Depths)
    (hbody : ∀ (g : Engine) (t : State), g.Depths → t.Depths → (body g t).Depths)
    (hafter : ∀ t : State, t.Depths → (after t).Depths) : (runPetalThen e len cyc body after s).Depths := by
  unfold Machine.runPetalThen
  refine .ite h (.ite h.taskFault ?_)
  have hb := hbody { s.eng e with pc := (s.eng e).pc + len } s (h.eng e) h
  split
  · rename_i g' s' heq
    rw [heq] at hb
    obtain ⟨hg, hs⟩ := hb
    exact hafter _ (hs.putEng hg)
  · exact h.taskFault

protected theorem State.Depths.runPetal {e len cyc body} (h : s.Depths)
    (hbody : ∀ (g : Engine) (t : State), g.Depths → t.Depths → (body g t).Depths) :
    (runPetal e len cyc body s).Depths := by
  unfold Machine.runPetal
  exact h.runPetalThen hbody fun _ h => h

protected theorem State.Depths.stickFlags {ovf divz g} (h : s.Depths) : (stickFlags ovf divz g s).Depths := by
  unfold Machine.stickFlags
  exact .ite h.updTask h

namespace Engine.Depths

variable {g : Engine}

/-- An operand stack that is no deeper is within its depth. -/
protected theorem shrink (hg : g.Depths) {l : List Quad} (hl : l.length ≤ g.stack.length) :
    StackDepths l g.calls g.loops :=
  ⟨hl.trans hg.stack, hg.calls, hg.loops, hg.saved⟩

protected theorem push (hg : g.Depths) (h : s.Depths) {q} : (push q g s).Depths := by
  unfold Machine.push
  split
  · exact .fault
  · exact .ok h ⟨by simp only [List.length_cons]; omega, hg.calls, hg.loops, hg.saved⟩

protected theorem unary (hg : g.Depths) (h : s.Depths) {f} : (unary f g s).Depths := by
  unfold Machine.unary
  split
  · exact .ok h (hg.shrink (by simp [*]))
  · exact .fault

protected theorem binary (hg : g.Depths) (h : s.Depths) {f} : (binary f g s).Depths := by
  unfold Machine.binary
  split
  · exact .ok h (hg.shrink (by simp [*]))
  · exact .fault

protected theorem unaryFlag (hg : g.Depths) (h : s.Depths) {f} : (unaryFlag f g s).Depths := by
  unfold Machine.unaryFlag
  split
  · exact .ok h.stickFlags (hg.shrink (by simp [*]))
  · exact .fault

protected theorem binaryFlag (hg : g.Depths) (h : s.Depths) {f} : (binaryFlag f g s).Depths := by
  unfold Machine.binaryFlag
  split
  · exact .ok h.stickFlags (hg.shrink (by simp [*]))
  · exact .fault

protected theorem flBinary (hg : g.Depths) (h : s.Depths) {c f} : (flBinary c f g s).Depths := hg.binary h

protected theorem flUnary (hg : g.Depths) (h : s.Depths) {c f} : (flUnary c f g s).Depths := hg.unary h

protected theorem compare2 (hg : g.Depths) (h : s.Depths) {f} : (compare2 f g s).Depths := hg.binary h

protected theorem flCompare (hg : g.Depths) (h : s.Depths) {c nan f} : (flCompare c nan f g s).Depths := hg.binary h

protected theorem withWidth (hg : g.Depths) (h : s.Depths) {w body}
    (hbody : ∀ (g : Engine) (t : State), g.Depths → t.Depths → (body g t).Depths) : (withWidth w body g s).Depths := by
  unfold Machine.withWidth
  exact .ite (hbody g s hg h) .fault

/-! ### Machine/PetalControl -/

/-- Loop levels that a branch leaves are dropped. -/
protected theorem jumpTo (hg : g.Depths) {target} : (jumpTo target g).Depths :=
  ⟨hg.stack, hg.calls, (List.dropWhile_suffix _).length_le.trans hg.loops, hg.saved⟩

protected theorem branchIf (hg : g.Depths) (h : s.Depths) {d cond} : (branchIf d cond g s).Depths := by
  unfold Machine.branchIf
  split
  · rename_i c r heq
    extract_lets +onlyGivenNames g1
    have hg1 : g1.Depths := hg.shrink (l := r) (by simp [heq])
    refine .ok h ?_
    split
    exacts [hg1.jumpTo, hg1]
  · exact .fault

/-- A call saves the caller's loop levels, which are within their depth, in a level of its own below the sixteenth. -/
protected theorem enterCallee (hg : g.Depths) (h : s.Depths) {e ty ib instLim args} :
    (enterCallee e ty ib instLim args g s).Depths := by
  unfold Machine.enterCallee
  split
  · exact .fault
  · refine .ite .fault (.ok h.setBytes ⟨hg.stack, ?_, Nat.zero_le 4, ?_⟩)
    · simp only [List.length_cons]
      omega
    · simpa using ⟨hg.loops, hg.saved⟩

protected theorem atTop (hg : g.Depths) (h : s.Depths) : (atTop g s).Depths := by
  unfold Machine.atTop
  exact .ite (.ok h hg) .fault

/-! ### Machine/PetalMem -/

protected theorem noteWrite (hg : g.Depths) {off bs} : (noteWrite off bs g).Depths := hg

protected theorem loadAt (hg : g.Depths) (h : s.Depths) {e t off drop sp} : (loadAt e t off drop sp g s).Depths := by
  unfold Machine.loadAt
  split
  · exact .fault
  · extract_lets +onlyGivenNames p v
    refine .ite .fault (Engine.Depths.push (g := { g with stack := g.stack.drop drop }) (hg.shrink ?_) h)
    simp

protected theorem storeAt (hg : g.Depths) (h : s.Depths) {e t off drop sp q} :
    (storeAt e t off drop sp q g s).Depths := by
  unfold Machine.storeAt
  split
  · exact .fault
  · extract_lets +onlyGivenNames p v bs s1 g1
    have hg1 : g1.Depths := hg.shrink (l := g.stack.drop drop) (by simp)
    refine .ite .fault (.ok h.setBytes.stickFlags ?_)
    split
    exacts [hg1.noteWrite, hg1]

end Engine.Depths

protected theorem State.Depths.execPLoop {e max len} (h : s.Depths) : Out.Depths (execPLoop e max len s) := by
  unfold Machine.execPLoop
  refine .next (h.runPetal fun g _ hg h => .ite .fault ?_)
  split
  · rename_i c r heq
    extract_lets +onlyGivenNames g1
    have hg1 : g1.Depths := hg.shrink (l := r) (by simp [heq])
    refine .ite .fault (.ite (.ok h hg1) ?_)
    split
    · exact .fault
    · refine .ok h ⟨hg1.stack, hg1.calls, ?_, hg1.saved⟩
      simp only [List.length_cons]
      omega
  · exact .fault

protected theorem State.Depths.execPEndloop {e} (h : s.Depths) : Out.Depths (execPEndloop e s) := by
  unfold Machine.execPEndloop
  refine .next (h.runPetal fun g _ hg h => ?_)
  split
  · rename_i l r heq
    have hloops := hg.loops
    simp only [heq, List.length_cons] at hloops
    have hr : StackDepths g.stack g.calls r := ⟨hg.stack, hg.calls, by omega, hg.saved⟩
    exact .ite (.ok h ⟨hg.stack, hg.calls, hloops, hg.saved⟩) (.ok h hr)
  · exact .fault

protected theorem State.Depths.execPLidx {e n} (h : s.Depths) : Out.Depths (execPLidx e n s) := by
  unfold Machine.execPLidx
  refine .next (h.runPetal fun _ _ hg h => ?_)
  split
  exacts [hg.push h, .fault]

protected theorem State.Depths.execPCallfb {e off idx} (h : s.Depths) : Out.Depths (execPCallfb e off idx s) := by
  unfold Machine.execPCallfb
  refine .next (h.runPetal fun _ _ hg h => ?_)
  split
  exacts [.fault, .ite .fault (hg.enterCallee h)]

protected theorem State.Depths.execPCallfn {e idx} (h : s.Depths) : Out.Depths (execPCallfn e idx s) := by
  unfold Machine.execPCallfn
  refine .next (h.runPetal fun g _ hg h => ?_)
  split
  · exact .fault
  · rename_i ty _
    have hargs : StackDepths (g.stack.drop ty.args) g.calls g.loops := hg.shrink (by simp)
    exact .ite .fault (Engine.Depths.enterCallee (g := { g with stack := g.stack.drop ty.args }) hargs h)

/-- RET takes the loop levels back that its call had saved. -/
protected theorem State.Depths.execPRet {e} (h : s.Depths) : Out.Depths (execPRet e s) := by
  unfold Machine.execPRet
  refine .next (h.runPetal fun g _ hg h => ?_)
  split
  · rename_i l r heq
    obtain ⟨hstack, hcalls, -, hsaved⟩ := hg
    simp only [heq, List.length_cons, List.mem_cons, forall_eq_or_imp] at hcalls hsaved
    have hr : StackDepths g.stack r l.loops := ⟨hstack, by omega, hsaved.1, hsaved.2⟩
    exact .ok h hr
  · exact .fault

protected theorem State.Depths.endSeg {e} (h : s.Depths) : (endSeg e s).Depths := by
  unfold Machine.endSeg
  exact h.foldState.updTask.finishSegment

protected theorem State.Depths.endTask {e} (h : s.Depths) : (endTask e s).Depths := by
  unfold Machine.endTask
  exact .finishSegment (.ite h.foldState h.foldState.copyOut)

protected theorem State.Depths.execPSel {e} (h : s.Depths) : Out.Depths (execPSel e s) := by
  unfold Machine.execPSel
  refine .next (h.runPetal fun g _ hg h => ?_)
  split
  · exact .ok h (hg.shrink (by simp [*]))
  · exact .fault

protected theorem State.Depths.convertInstr {e t1 t2 truncate} (h : s.Depths) :
    (convertInstr e t1 t2 truncate s).Depths := by
  unfold Machine.convertInstr
  refine h.runPetal fun _ _ hg h => ?_
  split
  exacts [hg.unaryFlag h, .fault]

protected theorem State.Depths.loadInstr {e t off sp} (h : s.Depths) : (loadInstr e t off sp s).Depths := by
  unfold Machine.loadInstr
  exact h.runPetal fun _ _ hg h => .ite .fault (.ite .fault (hg.loadAt h))

protected theorem State.Depths.storeInstr {e t off sp} (h : s.Depths) : (storeInstr e t off sp s).Depths := by
  unfold Machine.storeInstr
  refine h.runPetal fun _ _ hg h => .ite .fault ?_
  split
  exacts [hg.storeAt h, .fault]

protected theorem State.Depths.loadElem {e t off cnt sp} (h : s.Depths) : (loadElem e t off cnt sp s).Depths := by
  unfold Machine.loadElem
  refine h.runPetal fun _ _ hg h => .ite .fault ?_
  split
  · split
    exacts [hg.loadAt h, .fault]
  · exact .fault

protected theorem State.Depths.storeElem {e t off cnt sp} (h : s.Depths) : (storeElem e t off cnt sp s).Depths := by
  unfold Machine.storeElem
  refine h.runPetal fun _ _ hg h => .ite .fault ?_
  split
  · split
    exacts [hg.storeAt h, .fault]
  · exact .fault

/-- The pieces of a COPY enter the frame's writes and leave the stacks alone. -/
theorem Engine.Depths.noteWrites {g : Engine} (hg : g.Depths) (l : List (Nat × List Byte)) :
    (l.foldl (fun g p => noteWrite p.1 p.2 g) g).Depths := by
  induction l generalizing g with
  | nil => exact hg
  | cons p r ih => exact ih hg.noteWrite

protected theorem State.Depths.execPCopy {e spaces len} (h : s.Depths) : Out.Depths (execPCopy e spaces len s) := by
  unfold Machine.execPCopy
  refine .next (h.runPetal fun g _ hg h => ?_)
  split
  · exact .fault
  · refine .ite .fault ?_
    split
    · rename_i d o r heq
      extract_lets +onlyGivenNames ra rb bs off g1 g2
      have hg1 : g1.Depths := hg.shrink (l := r) (by simp [heq]; omega)
      refine .ite .fault (.ok h.setBytes ?_)
      simp only [g2]
      split
      exacts [hg1.noteWrites _, hg1]
    · exact .fault

/-! ### Machine/PetalStack -/

protected theorem State.Depths.execPDup {e} (h : s.Depths) : Out.Depths (execPDup e s) := by
  unfold Machine.execPDup
  refine .next (h.runPetal fun _ _ hg h => ?_)
  split
  exacts [hg.push h, .fault]

protected theorem State.Depths.execPDrop {e} (h : s.Depths) : Out.Depths (execPDrop e s) := by
  unfold Machine.execPDrop
  refine .next (h.runPetal fun _ _ hg h => ?_)
  split
  exacts [.ok h (hg.shrink (by simp [*])), .fault]

protected theorem State.Depths.execPSwap {e} (h : s.Depths) : Out.Depths (execPSwap e s) := by
  unfold Machine.execPSwap
  refine .next (h.runPetal fun _ _ hg h => ?_)
  split
  exacts [.ok h (hg.shrink (by simp [*])), .fault]

protected theorem State.Depths.execPOver {e} (h : s.Depths) : Out.Depths (execPOver e s) := by
  unfold Machine.execPOver
  refine .next (h.runPetal fun _ _ hg h => ?_)
  split
  exacts [hg.push h, .fault]

protected theorem State.Depths.execPRot {e} (h : s.Depths) : Out.Depths (execPRot e s) := by
  unfold Machine.execPRot
  refine .next (h.runPetal fun _ _ hg h => ?_)
  split
  exacts [.ok h (hg.shrink (by simp [*])), .fault]

protected theorem State.Depths.execPPick {e n} (h : s.Depths) : Out.Depths (execPPick e n s) := by
  unfold Machine.execPPick
  refine .next (h.runPetal fun _ _ hg h => .ite .fault ?_)
  split
  exacts [hg.push h, .fault]

protected theorem State.Depths.execPLdk {e idx} (h : s.Depths) : Out.Depths (execPLdk e idx s) := by
  unfold Machine.execPLdk
  refine .next (h.runPetal fun _ _ hg h => .ite .fault ?_)
  split
  exacts [hg.push h, .fault]

/-! ### Machine/PetalSys -/

protected theorem State.Depths.execPClrflags {e} (h : s.Depths) : Out.Depths (execPClrflags e s) := by
  unfold Machine.execPClrflags
  refine .next (h.runPetal fun _ _ hg h => ?_)
  split
  exacts [.ok h.updTask (hg.shrink (by simp [*])), .fault]

/-- A request of SYS counts in the engine and posts in the state; its stacks stand until the status is pushed. -/
theorem Engine.Depths.writeDescriptor {g : Engine} (hg : g.Depths) (h : s.Depths) {e q fam cmd payload} :
    (writeDescriptor e q fam cmd payload g s).1.Depths ∧ (writeDescriptor e q fam cmd payload g s).2.Depths := by
  unfold Machine.writeDescriptor
  extract_lets +onlyGivenNames n d g1 k
  split
  · exact ⟨hg, h.ringFault.fwLog⟩
  · extract_lets +onlyGivenNames s1
    have h1 : s1.Depths := h.setBytes
    clear_value s1
    exact ⟨hg, h1⟩

protected theorem State.Depths.requestSys {e q fam cmd off len lenOk} (h : s.Depths) :
    (requestSys e q fam cmd off len lenOk s).Depths := by
  unfold Machine.requestSys
  refine h.runPetal fun g t hg h => .ite .fault (.ite .fault (.ite .fault (.ite (hg.push h.updTask) ?_)))
  obtain ⟨hg', h'⟩ := hg.writeDescriptor h (e := e) (q := q) (fam := fam) (cmd := cmd)
    (payload := t.bytes (bankBase t e + g.ib + off) len)
  exact hg'.push h'

end Sys2Proof.Machine
end

section
/-! SUPPORT. The depths are kept by redundancy, register access, sessions and votes. -/

namespace Sys2Proof.Machine

variable {s : State}

/-! ### Machine/Redundancy -/

protected theorem State.Depths.startRemoval {source force} {t : State} (h : s.Depths)
    (ht : startRemoval source force s = some t) :
    t.Depths := by
  unfold Machine.startRemoval at ht
  split at ht
  · split at ht
    · contradiction
    · exact Option.some.inj ht ▸ h.nameHandover.upd
  · split at ht
    · contradiction
    · exact Option.some.inj ht ▸ h.completeRemoval

protected theorem State.Depths.refuseRemoval (h : s.Depths) : (refuseRemoval s).Depths := h

protected theorem State.Depths.execRedundancyRemoveRequest {r} (h : s.Depths) :
    (execRedundancyRemoveRequest r s).Depths := by
  unfold Machine.execRedundancyRemoveRequest
  refine .next (h.serve fun _ h => .ite (.err h) ?_)
  split
  · exact .err h
  · refine .ite h.conflict ?_
    split
    · exact .err h.refuseRemoval
    · rename_i ht
      exact .ok (h.startRemoval ht)

protected theorem State.Depths.execRedundancyResync {r} (h : s.Depths) : (execRedundancyResync r s).Depths := by
  unfold Machine.execRedundancyResync
  refine .next (h.serve (fun _ h => ?_))
  extract_lets +onlyGivenNames t
  refine .ite (.err h) ?_
  split
  · exact .err h
  · refine .ite ?_ (.ite (.ok h.upd.goSyncing) h.conflict)
    split
    exacts [.ite (.ok h.toPeers.peerRole.reviewOwner) h.conflict, h.conflict]

protected theorem State.Depths.execRedundancyGetSignatures {r} (h : s.Depths) :
    (execRedundancyGetSignatures r s).Depths := by
  unfold Machine.execRedundancyGetSignatures
  refine .next (h.serve (fun _ h => ?_))
  extract_lets +onlyGivenNames n
  refine .ite (.err h) ?_
  split
  · exact .err h
  · extract_lets +onlyGivenNames l
    exact .ok h

protected theorem State.Depths.execButtonPress (h : s.Depths) : (execButtonPress s).Depths := by
  unfold Machine.execButtonPress
  refine .next (.ite h ?_)
  split
  · rename_i ht
    exact h.startRemoval ht
  · exact h.refuseRemoval

protected theorem State.Depths.execButtonHeld (h : s.Depths) : (execButtonHeld s).Depths := by
  unfold Machine.execButtonHeld
  refine .next (.ite h ?_)
  split
  · rename_i ht
    exact h.startRemoval ht
  · exact h.refuseRemoval

/-! ### Machine/RegAccess -/

protected theorem State.Depths.readClears {a} (h : s.Depths) : (readClears a s).Depths := by
  unfold Machine.readClears
  exact h.foldl fun _ _ h => .ite h.set h

protected theorem State.Depths.writeField {mask value r} (h : s.Depths) : (writeField mask value s r).Depths := by
  unfold Machine.writeField
  refine .ite h ?_
  extract_lets +onlyGivenNames old m v plain
  split
  exacts [h.set, .ite h h.set, h.set, h]

protected theorem State.Depths.followDiag (h : s.Depths) : (followDiag s).Depths := by
  unfold Machine.followDiag
  exact h.setBit.setBit.setBit.refreshLck

protected theorem State.Depths.writeReg {mask value a} (h : s.Depths) : (writeReg mask value a s).Depths := by
  unfold Machine.writeReg
  refine .ite (.ite h h.writeAlarmHi) (.ite (.ite h h.writeAlarmLo) (.ite (.ite h h.writeWd) (.ite (.ite h
    h.writeCons)
    (.ite (.ite h h.writeRate) (.ite (.ite h h.writeSlew) ?_)))))
  extract_lets was s1
  have h1 : s1.Depths := .foldl h fun _ _ h => h.writeField
  refine .ite (.ite (.writePark (.ite h1.set h1)) (.ite h1.set h1)) (.ite (.ite h1.bytesInit h1)
    (.ite (.ite h1.clearMemLog h1) (.ite (.requestDomains (.ite h1.requestWarm h1)) (.ite h1.followDiag
    (.ite h1.ringCount (.ite h1.raiseIf ?_))))))
  split
  exacts [.ite h1.popReport h1, h1]

protected theorem State.Depths.writeBy {master priv a value} (h : s.Depths) :
    (writeBy master priv a value s).Depths := by
  unfold Machine.writeBy
  exact .ite h.writeEntry (.ite h.writeSeal (.ite h.writeDoorbell h.writeReg))

protected theorem State.Depths.asMaster {master f} (h : s.Depths) (hf : ∀ t, t.Depths → (f t).Depths) :
    (asMaster master f s).Depths := by
  unfold Machine.asMaster
  exact .ite (hf _ (.ite h.setTaint h)) h

protected theorem State.Depths.asWindowMaster {master f} (h : s.Depths) (hf : ∀ t, t.Depths → (f t).Depths) :
    (asWindowMaster master f s).Depths := by
  unfold Machine.asWindowMaster
  exact .ite h (h.asMaster hf)

protected theorem State.Depths.raiseAt {a bit} (h : s.Depths) : (raiseAt a bit s).Depths := by
  unfold Machine.raiseAt
  exact .ite h.ringFault h.raise

protected theorem State.Depths.setsPrevail {written sets} (h : s.Depths) : (setsPrevail written sets s).Depths := by
  unfold Machine.setsPrevail
  exact h.foldl fun _ _ h => .ite h.raiseAt h

protected theorem State.Depths.execDiagReadRegs {r} (h : s.Depths) : (execDiagReadRegs r s).Depths := by
  unfold Machine.execDiagReadRegs
  refine .next (h.serve (fun _ h => ?_))
  extract_lets +onlyGivenNames n l
  refine .ite (.err h) ?_
  split
  exacts [.err h, .ok (h.foldl fun _ _ h => h.readClears)]

protected theorem State.Depths.execDiagWriteRegs {r sets} (h : s.Depths) : (execDiagWriteRegs r sets s).Depths := by
  unfold Machine.execDiagWriteRegs
  refine .next (h.serve (fun _ h => ?_))
  extract_lets +onlyGivenNames p n l mask
  refine .ite (.err h) (.ite (.err h) ?_)
  split
  · exact .err h
  · extract_lets +onlyGivenNames s1 written s2
    have h1 : s1.Depths := h.foldl fun _ _ h => h.writeReg
    have h2 : s2.Depths := h1.setsPrevail
    exact .ok h2

protected theorem State.Depths.execDiagRaiseAlarm {r} (h : s.Depths) : (execDiagRaiseAlarm r s).Depths := by
  unfold Machine.execDiagRaiseAlarm
  refine .next (h.serve (fun _ h => ?_))
  split
  exacts [.ok h.took.logEvent, .ok h]

protected theorem State.Depths.onReject {w} (h : s.Depths) : (onReject w s).Depths := by
  unfold Machine.onReject
  exact .ite h.send.taskFault (.ite (.ite h.send.send.bump h.send.send) h.send)

protected theorem State.Depths.windowAccess {w ofs n data} (h : s.Depths) : (windowAccess w ofs n data s).Depths := by
  unfold Machine.windowAccess
  exact .ite (h.foldl fun _ _ h => .ite h.writeBy h.writeReg) (.send (h.foldl fun _ _ h => h.readClears))

protected theorem State.Depths.freeBytes {n} (h : s.Depths) : (freeBytes n s).2.Depths := by
  induction n generalizing s with
  | zero => exact h
  | succ n ih => exact ih h.took

protected theorem State.Depths.readMem {a n} (h : s.Depths) : (readMem a n s).2.Depths := by
  unfold Machine.readMem
  exact .iteSnd h.freeBytes h

protected theorem State.Depths.admitted {w a n data bad} (h : s.Depths) : (admitted w a n data bad s).Depths := by
  unfold Machine.admitted
  split
  · exact h
  · refine .ite h.windowAccess (.ite (.ite h.send h.freeBytes.send) (.ite (.writeMem (.ite h.dramRead h)) ?_))
    have hr : (Machine.readMem a n s).2.Depths := h.readMem
    exact .ite (.send (.ite hr.dramRead hr)) (.send (.ite hr.dramRead hr))

protected theorem State.Depths.oneAccess {w x a beats data} (h : s.Depths) :
    (oneAccess w x a beats data s).2.Depths := by
  unfold Machine.oneAccess
  extract_lets +onlyGivenNames n
  split
  exacts [h.violation.onReject, h.admitted]

protected theorem State.Depths.dmaBeats {w x k a data} (h : s.Depths) : (dmaBeats w x k a data s).Depths := by
  induction k generalizing s a data with
  | zero => exact h
  | succ k ih => exact .ite (ih h.oneAccess) h.oneAccess

/-! ### Machine/Session -/

protected theorem State.Depths.execSessionSetIdle {r} (h : s.Depths) : (execSessionSetIdle r s).Depths := by
  unfold Machine.execSessionSetIdle
  refine .next (h.serve (fun _ h => ?_))
  split
  exacts [.err h, .ok h.updSess]

protected theorem State.Depths.failedHandshake {addr} (h : s.Depths) : (failedHandshake addr s).Depths := by
  unfold Machine.failedHandshake
  exact h.upd.raise

protected theorem State.Depths.openSession {i x} (h : s.Depths) : (openSession i x s).Depths := by
  unfold Machine.openSession
  exact h.send.setReg.setBit.setBit.set.set.set.updSess.showSessions

protected theorem State.Depths.execTlsHandshake {x} (h : s.Depths) : (execTlsHandshake x s).Depths := by
  unfold Machine.execTlsHandshake
  refine .next (.ite h (.ite h.raise ?_))
  split
  · exact h.send.failedHandshake
  · split
    exacts [h.openSession, h.send.raise]

protected theorem State.Depths.execMalformed {fam cmd r} (h : s.Depths) : (execMalformed fam cmd r s).Depths := by
  unfold Machine.execMalformed
  refine .next ?_
  split
  · extract_lets +onlyGivenNames s1
    have h1 : s1.Depths := h.beginsAfresh
    refine .ite h1.respond (.ite h1.respondMalformed.closeSession (.ite h1.dropSegments (.ite h1.respondMalformed
      (.ite h1.refuse.carryRequest ?_))))
    split
    exacts [h1.refuse.carryRequest, .ite h1.respondMalformed.carryRequest h1]
  · exact .ite h.ringFault.refuse (.ite h.refuse h)

protected theorem State.Depths.nextOr {o : Out} (h : s.Depths) (ho : o.Depths) : (nextOr s o).Depths := by
  unfold Machine.nextOr
  split
  · exact ho _ rfl
  · exact h

protected theorem State.Depths.actOn {fam cmd r} (h : s.Depths) : (actOn fam cmd r s).Depths := by
  unfold Machine.actOn
  refine .ite (h.nextOr h.execMalformed) ?_
  split
  · exact h.nextOr h.execConfigStageSettings
  · exact h.nextOr h.execProgramLoadUnit
  · exact h.nextOr h.execUpdateTransfer
  · exact h.nextOr h.execSecuritySetTrustAnchors
  · exact h.nextOr h.execSecurityLoadCrl
  · exact h.nextOr h.execSecurityEnrol
  · exact h.serve fun _ h => .ok h

protected theorem State.Depths.beginSegments {i fam cmd r} (h : s.Depths) : (beginSegments i fam cmd r s).Depths := h

protected theorem State.Depths.takeSegment {i a r} (h : s.Depths) : (takeSegment i a r s).Depths := by
  unfold Machine.takeSegment
  exact .ite h.updSess.actOn h.updSess

protected theorem State.Depths.execMessageSegment {fam cmd r} (h : s.Depths) :
    (execMessageSegment fam cmd r s).Depths := by
  unfold Machine.execMessageSegment
  refine .next ?_
  split
  · exact h.nextOr h.execMalformed
  · refine .ite h.respond (.ite h.respondMalformed.closeSession (.ite h ?_))
    split
    exacts [.ite h.takeSegment h.dropSegments, .ite h (.ite h.beginSegments h.dropSegments)]

protected theorem State.Depths.execSegTimeout {sess seq} (h : s.Depths) : (execSegTimeout sess seq s).Depths := by
  unfold Machine.execSegTimeout
  refine .next ?_
  split
  · exact h
  · extract_lets +onlyGivenNames s1
    have h1 : s1.Depths := h.updSess
    exact h1.respond.raise

protected theorem State.Depths.answerCancel {i fam cmd r status} (h : s.Depths) :
    (answerCancel i fam cmd r status s).Depths := by
  unfold Machine.answerCancel
  exact .ite h.post.raise h.post

protected theorem State.Depths.cancelCommand {i o} (h : s.Depths) : (cancelCommand i o s).Depths := by
  unfold Machine.cancelCommand
  exact .ite (.ite h.finishD h.finishD.toPeers.dropChange) h.finishD.cancelEffect

protected theorem State.Depths.execCancel {fam cmd r} (h : s.Depths) : (execCancel fam cmd r s).Depths := by
  unfold Machine.execCancel
  refine .next ?_
  split
  · exact h.refuse
  · refine .ite h.answerCancel (.ite (.ite h.answerCancel.closeSession h.answerCancel) (.ite h.answerCancel ?_))
    split
    · exact h.answerCancel
    · refine .ite h.answerCancel (.ite h.answerCancel ?_)
      split
      exacts [h.answerCancel, .ite h.cancelCommand h.answerCancel]

protected theorem State.Depths.sendProgress {i o} (h : s.Depths) : (sendProgress i o s).Depths := by
  unfold Machine.sendProgress
  exact .ite h.took.took.post (.ite h.took.took.post (.ite h.took.took.post (.ite h.took.took.post
    h.took.took.took.post)))

protected theorem State.Depths.execProgressMessage {sess seq} (h : s.Depths) :
    (execProgressMessage sess seq s).Depths := by
  unfold Machine.execProgressMessage
  refine .next ?_
  split
  · exact h
  · split
    exacts [h.advanceTransfer, h.sendProgress]

protected theorem State.Depths.execMmsAssociate {x} (h : s.Depths) : (execMmsAssociate x s).Depths := by
  unfold Machine.execMmsAssociate
  refine .next ?_
  extract_lets +onlyGivenNames b
  refine .ite h ?_
  split
  exacts [.ite h.updNet.mmsSend h.netTx, h.netTx]

/-! ### Machine/Voting -/

protected theorem State.Depths.judgeMinority {k own a b} (h : s.Depths) : (judgeMinority k own a b s).Depths := by
  unfold Machine.judgeMinority
  exact .ite (.ite h.leaveAsMinority (.ite h.upd h)) (.ite h.foundMinority (.ite h.foundMinority h))

/-- The state at that phase is kept in a variable `t`: no `match` on it may run the TIME counter. -/
protected theorem State.Depths.execVote (h : s.Depths) : (execVote s).Depths := by
  unfold Machine.execVote
  obtain ⟨t, ht⟩ : ∃ t, t = toPhase 212000 s := ⟨_, rfl⟩
  have h1 : t.Depths := ht ▸ h.toPhase
  rw [← ht]
  refine .next (.ite h (.ite (.leaveAsMinority (.upd h1.updFio)) ?_))
  dsimp only
  split
  exacts [.showTriad (.judgeMinority (.upd h1.updFio)), .upd h1.updFio]

end Sys2Proof.Machine
end

section
/-! SUPPORT. Every command of the table, and so every step, keeps the engines within their depths (05 R151). -/

namespace Sys2Proof.Machine

variable {s : State}

protected theorem State.Depths.exec (c : Instr) (h : s.Depths) : Out.Depths (exec c s) :=
  match c with
  | .tick => h.execTick
  | .frameSyncEdge .. => .next (.ite h (.ite h.upd.setInt.syncMiss (.ite
      h.upd.setInt.upd.setTimeFault.reviewTime.setInt.servo.refreshQuality h.upd.setInt.upd.setTimeFault.reviewTime)))
  | .syncFault => .next (.ite h h.upd.syncMiss)
  | .timeBusWord .. => h.execTimeBusWord
  | .timeBusWordMissing => .next h.wordMissing.reviewTime
  | .tickEligible => .next (.ite h.upd.reviewTime h)
  | .slewCorrection => .next (.ite h (.refreshQuality (.setInt (.upd (.ite h.timeCycle.timeCycle h.timeCycle)))))
  | .ptpOffsetSample .. => .next (.ite h (.ite h.jumpSample.reviewTime (.refreshQuality (.steer (.selectSource (.ite (.lock
      (.ite h.keepSample h.keepSample.setBit)) (.ite h.keepSample h.keepSample.setBit)))))))
  | .fineLock .. => .next (.ite h.setBit.refreshQuality h)
  | .lockLoss .. => .next (.ite h (.selectSource (.setBit (.ite h.updSrc.unlock h.updSrc))))
  | .irigbFrame .. => .next (.ite (.selectSource (.updSrc (.setBit (.ite h.upd.unlock h.upd)))) h.upd.countRun)
  | .ppsEdge .. => .next (.ite h (.ite h.jumpSample.reviewTime h.countRun))
  | .disagree => h.execDisagree
  | .ocxoStopped => .next h.raise.setTimeFault.refreshQuality.fail
  | .ocxoFreqCheck .. => h.execOcxoFreqCheck
  | .ocxoDrifting => .next h.raise.setTimeFault.refreshQuality
  | .leapApply => .next (.ite h h.upd.setTaiUtc)
  | .timSlewRemWrite .. => .next h.writeSlew
  | .timRateAdjWrite .. => .next h.writeRate
  | .diSinkWindow .. => .next h.toPhase.updFio.raiseIf
  | .fieldSampleInstant .. => h.execFieldSampleInstant
  | .wettingPulseEnd => .next h.updFio
  | .executionWindowEnd => h.execExecutionWindowEnd
  | .stateSigCompare .. => h.execStateSigCompare
  | .voteRecordSend => .next (.ite h h.toPhase.toPeers)
  | .vote => h.execVote
  | .outputRelease => .next (.ite h h.toPhase.expireSubs.releaseFrame.sendSignature)
  | .txLate .. => .next h.bump.raise
  | .fieldUpdate => .next (.ite h.toPhase (.showStages (.ite (.reenable (h.toPhase.set.coolStages.foldl fun _ _ h =>
      h.updateAo)) (.updFio (.reenable (h.toPhase.set.coolStages.foldl fun _ _ h => h.updateAo))))))
  | .errorTaskRun .. => h.execErrorTaskRun
  | .bankSwap => h.execBankSwap
  | .injectedComparatorTest .. => h.execInjectedComparatorTest
  | .cutOff => .next (.ite h h.cutOff)
  | .snapshotSelect => h.execSnapshotSelect
  | .sigMiss => h.execSigMiss
  | .pNop .. => .next (h.runPetal fun _ _ hg h => .ok h hg)
  | .pDup .. => h.execPDup
  | .pDrop .. => h.execPDrop
  | .pSwap .. => h.execPSwap
  | .pOver .. => h.execPOver
  | .pRot .. => h.execPRot
  | .pPick .. => h.execPPick
  | .pPush0 .. => .next (h.runPetal fun _ _ hg h => hg.push h)
  | .pPush1 .. => .next (h.runPetal fun _ _ hg h => hg.push h)
  | .pPushb .. => .next (h.runPetal fun _ _ hg h => hg.push h)
  | .pPushw .. => .next (h.runPetal fun _ _ hg h => hg.push h)
  | .pLdk .. => h.execPLdk
  | .pLdl .. => .next h.loadInstr
  | .pStl .. => .next h.storeInstr
  | .pLdi .. => .next h.loadInstr
  | .pSti .. => .next h.storeInstr
  | .pLdin .. => .next h.loadInstr
  | .pLdout .. => .next h.loadInstr
  | .pStout .. => .next h.storeInstr
  | .pLdxl .. => .next h.loadElem
  | .pStxl .. => .next h.storeElem
  | .pLdxi .. => .next h.loadElem
  | .pStxi .. => .next h.storeElem
  | .pLdxin .. => .next h.loadElem
  | .pLdxout .. => .next h.loadElem
  | .pStxout .. => .next h.storeElem
  | .pCopy .. => h.execPCopy
  | .pAdd .. => .next (h.runPetal fun _ _ hg h => hg.binaryFlag h)
  | .pSub .. => .next (h.runPetal fun _ _ hg h => hg.binaryFlag h)
  | .pMul .. => .next (h.runPetal fun _ _ hg h => hg.binaryFlag h)
  | .pDiv .. => .next (h.runPetal fun _ _ hg h => hg.binaryFlag h)
  | .pMod .. => .next (h.runPetal fun _ _ hg h => hg.binaryFlag h)
  | .pNeg .. => .next (h.runPetal fun _ _ hg h => hg.unaryFlag h)
  | .pAbs .. => .next (h.runPetal fun _ _ hg h => hg.unaryFlag h)
  | .pAddF .. => .next (h.runPetal fun _ _ hg h => hg.flBinary h)
  | .pSubF .. => .next (h.runPetal fun _ _ hg h => hg.flBinary h)
  | .pMulF .. => .next (h.runPetal fun _ _ hg h => hg.flBinary h)
  | .pDivF .. => .next (h.runPetal fun _ _ hg h => hg.binaryFlag h)
  | .pNegF .. => .next (h.runPetal fun _ _ hg h => hg.flUnary h)
  | .pAbsF .. => .next (h.runPetal fun _ _ hg h => hg.flUnary h)
  | .pSqrt .. => .next (h.runPetal fun _ _ hg h => hg.flUnary h)
  | .pMinF .. => .next (h.runPetal fun _ _ hg h => hg.flBinary h)
  | .pMaxF .. => .next (h.runPetal fun _ _ hg h => hg.flBinary h)
  | .pSin .. => .next (h.runPetal fun _ _ hg h => hg.unary h)
  | .pCos .. => .next (h.runPetal fun _ _ hg h => hg.unary h)
  | .pAtan2 .. => .next (h.runPetal fun _ _ hg h => hg.binary h)
  | .pExp .. => .next (h.runPetal fun _ _ hg h => hg.unary h)
  | .pLn .. => .next (h.runPetal fun _ _ hg h => hg.unary h)
  | .pEq .. => .next (h.runPetal fun _ _ hg h => hg.compare2 h)
  | .pNe .. => .next (h.runPetal fun _ _ hg h => hg.compare2 h)
  | .pLtS .. => .next (h.runPetal fun _ _ hg h => hg.compare2 h)
  | .pLeS .. => .next (h.runPetal fun _ _ hg h => hg.compare2 h)
  | .pGtS .. => .next (h.runPetal fun _ _ hg h => hg.compare2 h)
  | .pGeS .. => .next (h.runPetal fun _ _ hg h => hg.compare2 h)
  | .pLtU .. => .next (h.runPetal fun _ _ hg h => hg.compare2 h)
  | .pLeU .. => .next (h.runPetal fun _ _ hg h => hg.compare2 h)
  | .pGtU .. => .next (h.runPetal fun _ _ hg h => hg.compare2 h)
  | .pGeU .. => .next (h.runPetal fun _ _ hg h => hg.compare2 h)
  | .pEqF .. => .next (h.runPetal fun _ _ hg h => hg.flCompare h)
  | .pNeF .. => .next (h.runPetal fun _ _ hg h => hg.flCompare h)
  | .pLtF .. => .next (h.runPetal fun _ _ hg h => hg.flCompare h)
  | .pLeF .. => .next (h.runPetal fun _ _ hg h => hg.flCompare h)
  | .pGtF .. => .next (h.runPetal fun _ _ hg h => hg.flCompare h)
  | .pGeF .. => .next (h.runPetal fun _ _ hg h => hg.flCompare h)
  | .pMinS .. => .next (h.runPetal fun _ _ hg h => hg.binary h)
  | .pMaxS .. => .next (h.runPetal fun _ _ hg h => hg.binary h)
  | .pMinU .. => .next (h.runPetal fun _ _ hg h => hg.binary h)
  | .pMaxU .. => .next (h.runPetal fun _ _ hg h => hg.binary h)
  | .pSel .. => h.execPSel
  | .pAnd .. => .next (h.runPetal fun _ _ hg h => hg.binary h)
  | .pOr .. => .next (h.runPetal fun _ _ hg h => hg.binary h)
  | .pXor .. => .next (h.runPetal fun _ _ hg h => hg.binary h)
  | .pNot .. => .next (h.runPetal fun _ _ hg h => hg.withWidth h fun _ _ hg h => hg.unary h)
  | .pBnot .. => .next (h.runPetal fun _ _ hg h => hg.unary h)
  | .pShl .. => .next (h.runPetal fun _ _ hg h => hg.withWidth h fun _ _ hg h => hg.binary h)
  | .pShr .. => .next (h.runPetal fun _ _ hg h => hg.withWidth h fun _ _ hg h => hg.binary h)
  | .pSar .. => .next (h.runPetal fun _ _ hg h => hg.withWidth h fun _ _ hg h => hg.binary h)
  | .pRol .. => .next (h.runPetal fun _ _ hg h => hg.withWidth h fun _ _ hg h => hg.binary h)
  | .pRor .. => .next (h.runPetal fun _ _ hg h => hg.withWidth h fun _ _ hg h => hg.binary h)
  | .pBitget .. => .next (h.runPetal fun _ _ hg h => .ite .fault (hg.unary h))
  | .pBitset .. => .next (h.runPetal fun _ _ hg h => .ite .fault (hg.binary h))
  | .pCvt .. => .next h.convertInstr
  | .pCvtt .. => .next h.convertInstr
  | .pBr .. => .next (h.runPetal fun _ _ hg h => .ok h hg.jumpTo)
  | .pBrz .. => .next (h.runPetal fun _ _ hg h => hg.branchIf h)
  | .pBrnz .. => .next (h.runPetal fun _ _ hg h => hg.branchIf h)
  | .pBrl .. => .next (h.runPetal fun _ _ hg h => .ok h hg.jumpTo)
  | .pLoop .. => h.execPLoop
  | .pEndloop .. => h.execPEndloop
  | .pLidx .. => h.execPLidx
  | .pCallfb .. => h.execPCallfb
  | .pCallfn .. => h.execPCallfn
  | .pRet .. => h.execPRet
  | .pSeg .. => .next (h.runPetalThen (fun _ _ hg h => hg.atTop h) fun _ h => h.endSeg)
  | .pEnd .. => .next (h.runPetalThen (fun _ _ hg h => hg.atTop h) fun _ h => h.endTask)
  | .pUnassignedOpcode .. => .next (.ite h (.ite h.taskFault.sramUe h.taskFault))
  | .pCycleFault .. => .next (.ite h h.taskFault)
  | .pGetflags .. => .next (h.runPetal fun _ _ hg h => hg.push h)
  | .pClrflags .. => h.execPClrflags
  | .pFrametime .. => .next (h.runPetal fun _ _ hg h => hg.push h)
  | .pSeginfo .. => .next (h.runPetal fun _ _ hg h => hg.push h)
  | .pAlarm .. => .next h.requestSys
  | .pLogevt .. => .next h.requestSys
  | .pLtrig .. => .next h.requestSys
  | .pCantx .. => .next h.requestSys
  | .rcbDoorbellWrite .. => .next (h.asMaster (fun _ h => h.writeDoorbell))
  | .rcbConsWrite .. => .next (.ite h.writeCons h)
  | .ringInterruptTimer .. => .next (.ite h.ringInterrupt h)
  | .tlsHandshake .. => h.execTlsHandshake
  | .handshakeLockoutEnd .. => .next h.upd
  | .messageSegment .. => h.execMessageSegment
  | .segTimeout .. => h.execSegTimeout
  | .cancel .. => h.execCancel
  | .progressMessage .. => h.execProgressMessage
  | .sessionIdleTimeout .. => .next (.ite h.closeSession h)
  | .sessionLoss .. => .next (.ite h.closeSession h)
  | .identGetIdent .. => .next (h.serve (fun _ h => .ok h))
  | .identGetBlockVersions .. => .next (h.serve (fun _ h => .ok h))
  | .identGetCertificates .. => h.execIdentGetCertificates
  | .sessionGetInfo .. => .next (h.serve (fun _ h => .ok h))
  | .sessionSetActiveRoles .. => .next (h.serve (fun _ h => .ite (.err h) (.ok h.set)))
  | .sessionKeepalive .. => .next (h.serve (fun _ h => .ok h))
  | .sessionSetIdle .. => h.execSessionSetIdle
  | .sessionSubscribe .. => .next (h.serve (fun _ h => .ite (.err h) (.ok h.updSess)))
  | .sessionClose .. => .next (.ite (.closeSession (.send (h.serve (fun _ h => .ok h)))) (h.serve (fun _ h => .ok h)))
  | .sessionListSessions .. => .next (h.serve (fun _ h => .ok h))
  | .sessionTerminate .. => .next (h.serve (fun _ h => .ite (.err h) (.ok (.ite h.closeSession h))))
  | .configGetActive .. => .next (h.serve (fun _ h => .ok h))
  | .configReadSettings .. => h.execConfigReadSettings
  | .configStageSettings .. => h.execConfigStageSettings
  | .configActivate .. => h.execConfigActivate
  | .configDiscardStaged .. => h.execConfigDiscardStaged
  | .programGetStatus .. => .next (h.serve (fun _ h => .ok h))
  | .programLoadUnit .. => h.execProgramLoadUnit
  | .programStartChange .. => h.execProgramStartChange
  | .migrationComplete => h.execMigrationComplete
  | .programAbortChange .. => .next (h.serve (fun _ h => .ite h.conflict (.ok h.toPeers.dropChange)))
  | .programRun .. => h.execProgramRun
  | .programStop .. => .next (h.serve (fun _ h => .ite h.conflict (.ok h.nameEvent)))
  | .programStartFrame => .next h.runDue
  | .programStopFrame => .next h.runDue
  | .programGetTaskStats .. => h.execProgramGetTaskStats
  | .programReadVar .. => h.execProgramReadVar
  | .retainSave => .next (.ite (.ite h.updProg h.updProg.saveRetain) h)
  | .forceList .. => .next (h.serve (fun _ h => .ok h))
  | .forceSet .. => h.execForceSet
  | .forceRelease .. => h.execForceRelease
  | .forceReleaseAll .. => .next (h.serve fun _ h => .ite h.conflict (.ok (State.Depths.foldlSnd (fun _ _ h =>
      h.acceptChange) h)))
  | .diagReadRegs .. => h.execDiagReadRegs
  | .diagWriteRegs .. => h.execDiagWriteRegs
  | .diagGetHealth .. => .next (h.serve (fun _ h => .ok h))
  | .diagRaiseAlarm .. => h.execDiagRaiseAlarm
  | .timeGetStatus .. => .next (h.serve (fun _ h => .ok h))
  | .timeGetSources .. => .next (h.serve (fun _ h => .ok h))
  | .timeGetConfig .. => .next (h.serve (fun _ h => .ok h))
  | .timeSetConfig .. => h.execTimeSetConfig
  | .timeStep .. => .next (h.serve (fun _ h => .ite (.err h) (.ite h.conflict (.ok h.stepCounter.refreshQuality))))
  | .timeSetTaiUtc .. => .next (h.serve (fun _ h => .ite (.err h) (.ok h.upd.refreshTai)))
  | .updateGetStatus .. => .next (h.serve (fun _ h => .ok h))
  | .updateBegin .. => h.execUpdateBegin
  | .updateTransfer .. => h.execUpdateTransfer
  | .updateInstall .. => .next (h.serve (fun _ h => .ite h.busy (.ite h.conflict (.ite (.err h) (.ite (.ok
      h.judgeBundle.sendStages.installSlot.updSec) (.err h.judgeBundle.sendStages))))))
  | .installRestart => .next (.ite h.saveRetain.updSec.upd h)
  | .updateConfirm .. => .next (h.serve (fun _ h => .ite h.busy (.ite h.conflict (.ok h.confirmTrial))))
  | .updateAbort .. => .next (h.serve (fun _ h => .ite (.ok h.dropUpdate) (.ite (.ok h.endTrial) h.conflict)))
  | .updateGroupUpdate .. => .next (h.serve (fun _ h => .ite h.busy (.ite h.conflict (.ite (.err h) (.ite (.later
      h.judgeBundle.forwardTo.updSec) (.err h.judgeBundle))))))
  | .trialHealthy => .next (.ite h (.ite (.ite h.forwardTo (.ite h.forwardTo.confirmTrial.endGroup
      h.forwardTo.confirmTrial)) (.ite h.confirmTrial h)))
  | .trialWindowExpiry => .next (.ite h.endTrial h)
  | .updateLockExpiry => .next (.ite h.dropUpdate h)
  | .archiveList .. => h.execArchiveList
  | .archiveExport .. => h.execArchiveExport
  | .archiveDelete .. => h.execArchiveDelete
  | .archiveLogEvent .. => h.execArchiveLogEvent
  | .archiveReadLog .. => h.execArchiveReadLog
  | .securityGetState .. => .next (h.serve (fun _ h => .ok h))
  | .securitySetTrustAnchors .. => h.execSecuritySetTrustAnchors
  | .securityLoadCrl .. => h.execSecurityLoadCrl
  | .securityEnrol .. => h.execSecurityEnrol
  | .securitySetRoleMap .. => h.execSecuritySetRoleMap
  | .securityRevokeRootSlot .. => h.execSecurityRevokeRootSlot
  | .securityRotateGroupKeys .. => .next (h.serve (fun _ h => .ite h.conflict (.ok h.renewKeys)))
  | .redundancyGetStatus .. => .next (h.serve (fun _ h => .ok h))
  | .redundancyHandover .. => .next (h.serve (fun _ h => .ite h.conflict (.ok h.nameHandover)))
  | .redundancyLeaveGroup .. => .next (h.serve (fun _ h => .ite h.conflict (.ite (.ok h.leaveGroup) h.conflict)))
  | .redundancyRemoveRequest .. => h.execRedundancyRemoveRequest
  | .redundancyResync .. => h.execRedundancyResync
  | .redundancyGetSignatures .. => h.execRedundancyGetSignatures
  | .asterGetStatus .. => .next (h.serve (fun _ h => .ok h))
  | .asterGetConfig .. => .next (h.serve (fun _ h => .ok h))
  | .asterSetConfig .. => .next h.setConfig
  | .asterGetPhasors .. => h.execAsterGetPhasors
  | .asterSetStreaming .. => .next (h.serve (fun _ h => .ite h.conflict (.ok h.pendStreaming.toPeers)))
  | .larkspurGetStatus .. => .next (h.serve (fun _ h => .ok h))
  | .larkspurGetConfig .. => .next (h.serve (fun _ h => .ok h))
  | .larkspurSetConfig .. => .next h.setConfig
  | .larkspurGetEvents .. => h.execLarkspurGetEvents
  | .larkspurCalibrate .. => h.execLarkspurCalibrate
  | .larkspurManualTrigger .. => h.execLarkspurManualTrigger
  | .fieldioGetStatus .. => .next (h.serve (fun _ h => .ok h))
  | .fieldioGetConfig .. => .next (h.serve (fun _ h => .ok h))
  | .fieldioSetConfig .. => .next h.setConfig
  | .fieldioClearFault .. => .next (h.serve (fun _ h => .ite (.err h) (.ok (.ite (.setReg (.ite h.setBit.raiseIf h)) (.ite
      h.setBit.raiseIf h)))))
  | .canauxGetStatus .. => .next (h.serve (fun _ h => .ok h))
  | .canauxGetConfig .. => .next (h.serve (fun _ h => .ok h))
  | .canauxSetConfig .. => .next h.setConfig
  | .canauxTxEnqueue .. => h.execCanauxTxEnqueue
  | .canauxRecover .. => h.execCanauxRecover
  | .canauxReadRx .. => h.execCanauxReadRx
  | .lifetimeGetSummary .. => .next (h.serve (fun _ h => .ok h))
  | .lifetimeReadRecords .. => h.execLifetimeReadRecords
  | .lifetimeAddNote .. => .next (h.serve (fun _ h => .ite (.err h) (.ite (.err h) (.ok h.lifetimeAdd))))
  | .configEffectiveFrame => .next h.configDue
  | .svFrameRx .. => h.execSvFrameRx
  | .streamLost .. => .next (.ite h h.arrive.updStr.set.raise.showAligned.reviewStations)
  | .estimateSetComplete .. => .next (.ite h.toPhase.formEstimates (.ite h.toPhase h.toPhase.formEstimates.raise.raise.fail))
  | .c37118Command .. => h.execC37118Command
  | .markEdge => .next (.ite h (.ite h.recordMark.calFrame.send h.recordMark.calFrame))
  | .laneFrame .. => h.execLaneFrame
  | .groupArmed .. => .next (.ite h h.showNoise.setArmed)
  | .wavefrontDetect .. => h.execWavefrontDetect
  | .eventClose .. => h.execEventClose
  | .rgooseRetransmit => h.execRgooseRetransmit
  | .rgooseReportRx .. => h.execRgooseReportRx
  | .remoteWaitExpiry => .next h.expireReports
  | .recordComplete => h.execRecordComplete
  | .recordStored => h.execRecordStored
  | .gooseFrameRx .. => h.execGooseFrameRx
  | .gooseTalExpiry .. => .next (.ite h h.arrive.setBit.reviewStations)
  | .netFrameRx .. => .next (.ite h.takeIn.netDeliver h.takeIn)
  | .linkChange .. => .next (.ite h (.raiseIf (.ite h.setBit.set.setBit.setBit.setBit h.setBit.set.setBit.setBit.set.set)))
  | .prpSupervision .. => .next (.ite h h.netTx)
  | .nodeForget .. => .next h.updNet.showNodes
  | .entryForget .. => h.execEntryForget
  | .macsecDown .. => .next (.ite h.loseMacsec h)
  | .macsecUp .. => .next (.ite h.setMacsec h)
  | .mmsAssociate .. => h.execMmsAssociate
  | .mmsConclude .. => .next (.ite h.mmsSend.mmsClose h)
  | .mmsAbort .. => .next h.mmsClose
  | .mmsGetNameList .. => .next (h.mmsServe (fun _ h => h.mmsSend))
  | .mmsIdentify .. => .next (h.mmsServe (fun _ h => h.mmsSend))
  | .mmsRead .. => h.execMmsRead
  | .mmsGetVariableAccessAttributes .. => h.execMmsGetVariableAccessAttributes
  | .mmsGetNamedVarListAttributes .. => .next (h.mmsServe (fun _ h => h.mmsSend))
  | .mmsWriteRcb .. => .next (h.mmsServe (fun _ h => .ite h.mmsSend (.updNet (.ite (h.mmsSend.foldl fun _ _ h => h.mmsSend)
      h.mmsSend))))
  | .mmsFileDirectory .. => .next (h.mmsServe (fun _ h => h.mmsSend))
  | .mmsFileOpen .. => .next (h.mmsServe (fun _ h => .ite h.updNet.upd.mmsSend h.mmsSend))
  | .mmsFileRead .. => h.execMmsFileRead
  | .mmsFileClose .. => .next (h.mmsServe (fun _ h => h.closeFiles.mmsSend))
  | .fldLow => .next (.ite h h.setBit.raise.raise.noteBelow)
  | .fldNormal => .next (.ite h h.setBit)
  | .lockout => .next (.ite h h.setBit.setBit.raise.raise.updFio.noteBelow.showStages)
  | .lockoutEnd .. => .next (.ite h h.setBit.setBit.noteFld24.updFio)
  | .doLatchOff .. => .next (.ite h h.updFio.set.raise)
  | .stageHoldEnd => .next (.ite h.setDrive h)
  | .canFrameRx .. => .next (.ite h.arrive (.ite h.arrive.updCan.raise.canLog (.ite
      h.arrive.countErr.recAfterFrame.canLog.afterErr h.arrive.takeFrame)))
  | .canBusIdle .. => h.execCanBusIdle
  | .canTxDone .. => h.execCanTxDone
  | .canRecoveryComplete .. => .next (.ite h h.putCounts.set.set.logState)
  | .canBusIntegration .. => .next (.ite h (.ite (.setBit (.ite h.updCan.set h.updCan)) (.ite h.updCan.set h.updCan)))
  | .firmwareUp .. => h.execFirmwareUp
  | .peerWaitExpiry => .next (.ite h (.ite h.disarm.enterRole (.ite h.arm h)))
  | .ownLineFall => .next h.ownFalls
  | .quietTimeExpiry => .next (.ite (.disarm (.ite h h.ownRises)) (.ite (.setBit (.upd (.ite h h.ownRises))) (.ite h
      h.ownRises)))
  | .claimConfirm .. => .next (.ite h (.ite (.ite h.takeOwn.releaseFrame h.takeOwn) h.upd.raise.recordOwn.fail))
  | .ownFault => .next (.ite h.raise.recordOwn.fail h)
  | .peerKillOutAssert => .next (.ite h.upd.setBit h)
  | .peerKillIn => .next (.ite h h.setBit.raise.recordOwn.failOff)
  | .peerKillInRelease => .next h.setBit.reviewPairOk
  | .pairOkMissing => .next h.setBit.raiseIf
  | .failedRestart => .next (.ite h (.ite h.upd h.saveRetain.writeBackup.upd))
  | .heartbeatTx => .next (.ite h h.toPort.toPort)
  | .heartbeat .. => .next (h.onFrame (fun _ h => .ite h.upd.raise h.upd.heardPeer))
  | .hollyhockLost => .next h.linkLost.showTriad
  | .snapshotFrame .. => .next (h.onFrame (fun _ h => .ite h h.updProg))
  | .signatureFrame .. => h.execSignatureFrame
  | .voteFrame .. => .next (h.onRouted (fun _ h => h.upd))
  | .join .. => .next (h.onRouted (fun _ h => .ite h (.ite h.refuseJoin (.ite (.ite h h.upd) h.acceptJoin.toPeers))))
  | .leave .. => .next (h.onRouted (fun _ h => h.peerRole.dropPeer.reviewOwner.upd.joinOrClaim.showTriad))
  | .failed .. => .next (h.onRouted (fun _ h => .showTriad (.joinOrClaim (.ite (.upd (.ite
      h.peerRole.reviewOwner.cancelUnmoved h.peerRole.reviewOwner)) (.fwLog (.upd (.ite h.peerRole.reviewOwner.cancelUnmoved
      h.peerRole.reviewOwner)))))))
  | .ready .. => h.execReady
  | .ack .. => .next (h.onRouted (fun _ h => h.upd))
  | .taintRelease .. => .next (h.onRouted (fun _ h => h.upd))
  | .resyncPage .. => h.execResyncPage
  | .resyncLines .. => h.execResyncLines
  | .resyncTimeout => .next (.ite h.upd.resyncFailed h)
  | .checkpointSend => .next (.ite (h.foldl fun _ _ h => h.sendCkpt) h)
  | .checkpoint .. => .next (h.onFrame (fun _ h => .ite h.keepCkpt.storedElsewhere.toPeers h))
  | .singletonRestart => .next (.ite (h.startSingletons.foldl fun _ _ h => h.publishReport) h.startSingletons)
  | .handoverPrepare => h.execHandoverPrepare
  | .handoverRelease => h.execHandoverRelease
  | .handoverFrame => h.execHandoverFrame
  | .forward .. => .next (h.onFrame (fun _ h => h.forwarded))
  | .key .. => .next (h.onFrame (fun _ h => .ite h.keyRefused (.ite h.upd.newKeys h.upd.toMember)))
  | .keyRenewal => .next h.renewKeys
  | .oldKeyExpiry => h.execOldKeyExpiry
  | .delayReq .. => h.execDelayReq
  | .delayResp .. => .next (h.onFrame (fun _ h => h.takeExchange.steerBySeven))
  | .laneTrainComplete .. => .next h.laneMove
  | .laneCheckComplete .. => .next h.laneMove
  | .laneErroredBlock .. => .next h.bump.laneMove
  | .laneLost .. => .next (.ite h (.ite h.laneMove.raise.bump.portUp.raise h.laneMove.raise.bump))
  | .laneRetrain .. => .next (.ite h.laneMove h)
  | .laneRebond .. => .next (.ite h.toPhase.laneMove.raise h)
  | .comparatorMismatch .. => .next (.ite h.raise.fail (.ite h.recordOnly h))
  | .delayPar .. => .next (.ite h.raise.fail h)
  | .compFail .. => .next (.ite h.raise.fail h)
  | .debugAccess => .next h.setTaint
  | .dramScrubRead _ b => h.execDramScrubRead (overwritten := b)
  | .dramScrubLate => .next (.ite h.raise h)
  | .sramScrubRead _ _ _ b _ => h.execSramScrubRead (overwritten := b)
  | .sramScrubLate => .next (.ite h.raise h)
  | .memLogClear .. => .next (.ite h.clearMemLog h)
  | .fabricAccess .. => .next (.ite h (h.asMaster (fun _ h => .ite h.dmaBeats h.oneAccess)))
  | .gateSeal .. => .next (h.asWindowMaster (fun _ h => h.writeSeal))
  | .gatePop .. => .next (.ite h.popReport h)
  | .gateEntryWrite .. => .next (h.asWindowMaster (fun _ h => h.writeEntry))
  | .gateDrainComplete .. => .next (.ite h.closeGate h)
  | .gateDrainTimeout .. => .next (.ite (.closeGate (.ite h h.bump.raise)) h)
  | .coldReset .. => h.execColdReset
  | .warmReset .. => .next (.refreshLck (.showTriad (.bootChain (.updProg (.resetUpdate (.set (.upd (.set (.set (.drainGates
      (.warmParts (.ite (h.foldl fun _ _ h => h.flushCrossing) (.saveRetain (h.foldl fun _ _ h =>
      h.flushCrossing))))))))))))))
  | .perDomainReset .. => .next (.ite h.raise (.ite (.goSyncing (.set (.upd (.set (.set (.resetBlocks (.domainEffect
      (h.foldl fun _ _ h => h.flushCrossing)))))))) (.set (.upd (.set (.set (.resetBlocks (.domainEffect (h.foldl fun _ _ h
      => h.flushCrossing)))))))))
  | .warmResetRequest => .next h.requestWarm
  | .domainResetRequest .. => .next h.requestDomains
  | .otpDigestCheck .. => .next (.ite h h.fail)
  | .enrolRenewal .. => h.execEnrolRenewal
  | .nandSweepRead .. => h.execNandSweepRead
  | .sweepLate => .next h.raiseIf
  | .confWriteComplete .. => h.execConfWriteComplete
  | .logFlush => .next h.flushLog.showWear
  | .logBudgetRefill => .next h.updNvs
  | .lifetimeHours .. => .next h.took.took.updNvs.lifetimeAdd
  | .nandWear => .next h.showWear.lifetimeAdd
  | .bkdTrim => .next (.ite h h.recordPhase.bkdMove.upd.trimCount.raiseIf.setBit.setBit)
  | .bkdAlarmFire => .next (.ite h.bkdAdvance h)
  | .weekdayAdvance => .next h.bkdAdvance
  | .bkdAlarmHiWrite .. => .next h.writeAlarmHi
  | .bkdAlarmLoWrite .. => .next h.writeAlarmLo
  | .bkdWdWrite .. => .next h.writeWd
  | .park => .next h.writePark
  | .parkTimeout => .next (.ite h.set.set.convOff h)
  | .thermalRestart => .next (.ite h.writeBackup.set.set.set h)
  | .bkdBytesWrite .. => .next h.writeBackup
  | .bkdBytesInit => .next h.bytesInit
  | .supplyChange .. => .next h.set.set.set.raiseIf
  | .bkdDip => .next h.upd.setBit.setBit.raise
  | .bkdPowerOn => .next h.resetBlock.upd
  | .feedLost .. => .next h.feedVolts.feedLeft
  | .feedGood .. => .next (.ite (.wakeFromPark (.ite h.feedVolts h.feedVolts.feedBack)) (.ite h.feedVolts
      h.feedVolts.feedBack))
  | .feedOv .. => .next h.feedVolts.raise.feedLeft
  | .feedOvClear .. => .next (.ite h.feedVolts.set.feedBack h.feedVolts)
  | .feedReturn => .next (.ite h.upd.set.set.raise h)
  | .feedBRelease => .next (.ite h.upd h)
  | .seatedDetectMade .. => .next (.ite h.raiseIf (.ite h.setBit.setBit.set.set.raiseIf.set.set
      h.setBit.setBit.set.set.raiseIf.wakeFromPark))
  | .seatPartial .. => .next h.setBit.setBit.raise
  | .seatedDetectBreak .. => .next (.ite h.setBit.setBit (.failOff (.ite h.setBit.setBit.recordOwn h.setBit.setBit)))
  | .buttonPress => h.execButtonPress
  | .buttonHeld => h.execButtonHeld
  | .tempSample .. => .next (.ite h.setInt.setInt.measureInput.maxTemp.maxTemp.upd.setBit.setBit.raiseIf.applyCap.upd
      h.setInt.setInt.measureInput.maxTemp.maxTemp.upd.setBit.setBit.raiseIf.applyCap)
  | .thermalFail => .next (.ite h h.enterFailed.flushNand.writeBackup.shutDown)
  | .thermalShutdown => .next (.ite h.shutDown h)
  | .avsAdjust .. => .next h.set.setBit.raiseIf
  | .droopDetect .. => .next h.wrapUp.upd.maxTo.judgeStretch
  | .mgmtOpSelect .. => .next h.set.applyCap
  | .clockGate .. => .next (.ite h.showClock h)
  | .clockWake .. => .next (.ite h.showClock h)
  | .clockFault .. => .next (.ite h h.showClock.fail)
  | .railFault => .next h.fail
  | .firmwareWatchdog .. => .next h.fail
  | .registerWrite .. => .next (.ite h.writeBy.setsPrevail h)
  | .ownerLost => .next (.ite h.ownRises.upd.enterRole.set.upd.reviewTime.joinOrClaim h.ownRises)
  | .pairOkEdge => .next h.setBit
  | .cellLow => .next h.raiseIf
  | .ocxoWarm => .next h.setBit
  | .trialHandoverTimeout => .next (.ite h.cancelHandover.fallBack h)
  | .ptpAnnounce .. => .next (.ite h h.updSrc.refreshTai)
  | .ptpDelayReq .. => .next (.ite h h.upd.netTx)
  | .malformed .. => h.execMalformed
  | .c37118ClientConnect .. => .next (.ite h.wrapUp.showPmus h.netTx)
  | .c37118ClientClose .. => .next (.ite h.set.showPmus h)

/-- A step takes the front command from the queue and runs it; no engine reads the queue. -/
protected theorem State.Depths.step (h : s.Depths) : Out.Depths (step s) := by
  unfold Machine.step
  split
  exacts [.next h, .exec _ h.upd]

/-- Settles O4: every function that a command is composed of keeps the depths, so a step keeps them. -/
theorem everyStepKeepsTheStackDepths : Obligations.EveryStepKeepsTheStackDepths := by
  unfold Obligations.EveryStepKeepsTheStackDepths
  intro s t hs hstep
  exact t.depths_iff.mp (((s.depths_iff.mpr hs).step) t hstep)

end Sys2Proof.Machine
end

section
/-! SUPPORT. How an instruction of Petal runs on an engine that is ready for it (05 R151-R157, R162): the engine stands past
the instruction, and what its body answers takes effect, or its fault does. -/

namespace Sys2Proof.Machine

variable {s s' : State} {e len cyc : Nat} {body : Engine → State → PRes} {after : State → State}

/-! ### Engines of a state -/

/-- An engine that runs is one of the list. -/
theorem State.eng_lt_of_running (h : (s.eng e).running = true) : e < s.prog.engines.length := by
  by_contra hge
  rw [State.eng, List.getD_eq_getElem?_getD, List.getElem?_eq_none (by omega)] at h
  exact absurd h (by decide)

theorem State.eng_putEng_same (g : Engine) (h : e < s.prog.engines.length) : (s.putEng e g).eng e = g := by
  simp [State.eng, State.putEng, listSet_eq_modify, List.getD_eq_getElem?_getD, h]

@[simp] theorem State.eng_updTask (s : State) (t : Nat) (f : TaskSt → TaskSt) (e : Nat) :
    (s.updTask t f).eng e = s.eng e := rfl

@[simp] theorem State.prog_setBytes (s : State) (a : Nat) (bs : List Byte) : (s.setBytes a bs).prog = s.prog := by
  rw [State.setBytes_frame]

@[simp] theorem State.eng_setBytes (s : State) (a : Nat) (bs : List Byte) (e : Nat) : (s.setBytes a bs).eng e = s.eng e := by
  rw [State.eng, State.prog_setBytes]
  rfl

@[simp] theorem petalFlagged_eng (e : Nat) (ovf divz : Bool) (s : State) : (petalFlagged e ovf divz s).eng e = s.eng e := rfl

/-- A listed entry that its function leaves alone leaves the list as it was. -/
theorem listSet_id {α : Type} (l : List α) (i : Nat) {f : α → α} (h : ∀ x, f x = x) : listSet l i f = l := by
  rw [listSet_eq_modify, funext h]
  exact List.modify_id i l

theorem State.updTask_id (s : State) (t : Nat) {f : TaskSt → TaskSt} (h : ∀ k, f k = k) : s.updTask t f = s := by
  rw [State.updTask, listSet_id _ _ h]

/-! ### The engine past its instruction -/

/-- Engine e with its PC past an instruction of `len` bytes: what the instruction's body reads. -/
def State.past (s : State) (e len : Nat) : Engine := { s.eng e with pc := (s.eng e).pc + len }

@[simp] theorem State.past_stack (s : State) (e len : Nat) : (s.past e len).stack = (s.eng e).stack := rfl
@[simp] theorem State.past_task (s : State) (e len : Nat) : (s.past e len).task = (s.eng e).task := rfl
@[simp] theorem State.past_err (s : State) (e len : Nat) : (s.past e len).err = (s.eng e).err := rfl
@[simp] theorem State.past_loops (s : State) (e len : Nat) : (s.past e len).loops = (s.eng e).loops := rfl
@[simp] theorem State.past_calls (s : State) (e len : Nat) : (s.past e len).calls = (s.eng e).calls := rfl

/-- An engine with its operand stack replaced. -/
def Engine.setStack (g : Engine) (st : List Quad) : Engine := { g with stack := st }

/-- An engine after its instruction: the cycles are used, and the entries beyond the depths stand (13 R400). -/
def Engine.spent (g : Engine) (cyc : Nat) : Engine := keepCells { g with cycles := g.cycles + cyc, used := g.used + cyc }

theorem stickFlags_past (s : State) (e len : Nat) (ovf divz : Bool) :
    stickFlags ovf divz (s.past e len) s = petalFlagged e ovf divz s := by
  cases ovf <;> cases divz <;> simp [stickFlags, petalFlagged, State.updTask_id]

/-! ### Running -/

/-- An engine that is ready passes the two checks that stand before the body. -/
theorem runPetal_checks (hr : petalReady e len s) :
    (8 ≤ e || !(s.eng e).running) = false ∧ ((s.eng e).pc < (s.eng e).lo || (s.eng e).hi < (s.eng e).pc + len) = false := by
  obtain ⟨he, hrun, hlo, hhi⟩ := hr
  simp [hrun, he, hlo, hhi]

/-- What a completed instruction leaves. -/
theorem runPetalThen_ok (hr : petalReady e len s) {g' : Engine} (hb : body (s.past e len) s = .ok g' s') :
    runPetalThen e len cyc body after s =
      after (s'.putEng e (g'.spent cyc)) := by
  obtain ⟨hrun, hrange⟩ := runPetal_checks hr
  dsimp only [State.past] at hb
  simp only [runPetalThen, hrun, hrange, Bool.false_eq_true, ↓reduceIte, hb]
  rfl

theorem runPetal_ok (hr : petalReady e len s) {g' : Engine} (hb : body (s.past e len) s = .ok g' s') :
    runPetal e len cyc body s = s'.putEng e (g'.spent cyc) :=
  runPetalThen_ok hr hb

/-- An instruction whose body faults changes nothing but what the fault does. -/
theorem runPetal_fault (hr : petalReady e len s) {code : Nat} {hard : Bool} (hb : body (s.past e len) s = .fault code hard) :
    runPetal e len cyc body s = taskFault e code hard s := by
  obtain ⟨hrun, hrange⟩ := runPetal_checks hr
  dsimp only [State.past] at hb
  simp only [runPetal, runPetalThen, hrun, hrange, Bool.false_eq_true, ↓reduceIte, hb]

/-- An instruction that changes the operand stack alone, beside what it does to the rest of the state. -/
theorem runPetal_stack (hr : petalReady e len s) {st : List Quad} (heng : s'.eng e = s.eng e)
    (hb : body (s.past e len) s = .ok { s.past e len with stack := st } s') :
    runPetal e len cyc body s = petalNext e len cyc st s' := by
  rw [runPetal_ok hr hb, petalNext, heng]
  rfl

/-! ### The shapes of instructions -/

variable {a b q : Quad} {r : List Quad}

theorem runPetal_push (hr : petalReady e len s) (hfit : (s.eng e).stack.length < 16) :
    runPetal e len cyc (push q) s = petalNext e len cyc (q :: (s.eng e).stack) s :=
  runPetal_stack hr rfl (by simp [push, Nat.not_le.mpr hfit])

theorem runPetal_unary (hr : petalReady e len s) (hst : (s.eng e).stack = a :: r) (f : Quad → Quad) :
    runPetal e len cyc (unary f) s = petalNext e len cyc (f a :: r) s :=
  runPetal_stack hr rfl (by simp [unary, hst])

theorem runPetal_binary (hr : petalReady e len s) (hst : (s.eng e).stack = b :: a :: r) (f : Quad → Quad → Quad) :
    runPetal e len cyc (binary f) s = petalNext e len cyc (f a b :: r) s :=
  runPetal_stack hr rfl (by simp [binary, hst])

theorem runPetal_unaryFlag (hr : petalReady e len s) (hst : (s.eng e).stack = a :: r) (f : Quad → Quad × Bool) :
    runPetal e len cyc (unaryFlag f) s = petalNext e len cyc ((f a).1 :: r) (petalFlagged e (f a).2 false s) :=
  runPetal_stack hr (petalFlagged_eng _ _ _ _) (by simp [unaryFlag, hst, stickFlags_past])

theorem runPetal_binaryFlag (hr : petalReady e len s) (hst : (s.eng e).stack = b :: a :: r)
    (f : Quad → Quad → Quad × Bool × Bool) :
    runPetal e len cyc (binaryFlag f) s =
      petalNext e len cyc ((f a b).1 :: r) (petalFlagged e (f a b).2.1 (f a b).2.2 s) :=
  runPetal_stack hr (petalFlagged_eng _ _ _ _) (by simp [binaryFlag, hst, stickFlags_past])

end Sys2Proof.Machine
end

section
/-! SUPPORT. The stack and constant instructions of Petal, its compares and selections (05 R157, R159). -/

namespace Sys2Proof.Machine

variable {s : State} {e : Nat}

/-! ### Stack and constants -/

theorem toSigned_eq_toInt (n v : Nat) : toSigned n v = (BitVec.ofNat n v).toInt := by
  rw [BitVec.toInt, BitVec.toNat_ofNat]
  rfl

/-- PICK pushes a copy of an entry that stands. -/
theorem exec_pPick {n : Nat} {a : Quad} (hr : petalReady e 2 s) (hn : n ≤ 15) (ha : (s.eng e).stack[n]? = some a)
    (hfit : (s.eng e).stack.length < 16) :
    exec (.pPick e n) s = .next (petalNext e 2 1 (a :: (s.eng e).stack) s) :=
  congrArg _ (runPetal_stack hr rfl (by simp [push, ha, Nat.not_lt.mpr hn, Nat.not_le.mpr hfit]))

theorem exec_pPushb {b : Nat} (hr : petalReady e 2 s) (hfit : (s.eng e).stack.length < 16) :
    exec (.pPushb e b) s = .next (petalNext e 2 1 ((BitVec.ofNat 8 b).signExtend 64 :: (s.eng e).stack) s) := by
  rw [BitVec.signExtend, ← toSigned_eq_toInt]
  exact congrArg _ (runPetal_push hr hfit)

theorem exec_pPushw {w : Nat} (hr : petalReady e 3 s) (hfit : (s.eng e).stack.length < 16) :
    exec (.pPushw e w) s = .next (petalNext e 3 1 ((BitVec.ofNat 16 w).signExtend 64 :: (s.eng e).stack) s) := by
  rw [BitVec.signExtend, ← toSigned_eq_toInt]
  exact congrArg _ (runPetal_push hr hfit)

/-- LDK pushes an entry of the engine's pool (R163, R177). -/
theorem exec_pLdk {idx : Nat} {u : LoadUnit} (hr : petalReady e 3 s) (hfit : (s.eng e).stack.length < 16)
    (hu : s.prog.active = some u) (hidx : idx < constCount u e) :
    exec (.pLdk e idx) s = .next (petalNext e 3 2
      (BitVec.ofNat 64 (leNat (s.bytes (codeBase s e + constOff u e + 8 * idx) 8)) :: (s.eng e).stack) s) :=
  congrArg _ (runPetal_stack hr rfl (by simp [constAt, hu, hidx, push, Nat.not_le.mpr hfit, quad]))

/-! ### Compares of floats (R159) -/

section Floats

variable {a b : Quad} {r : List Quad} {k : FClass}

/-- A compare with a NaN operand pushes what the instruction has for it. -/
theorem runPetal_flCompare_nan (hr : petalReady e 1 s) (hst : (s.eng e).stack = b :: a :: r)
    (hnan : fIsNan k (flBits k a) = true ∨ fIsNan k (flBits k b) = true) (nan : Bool)
    (f : FClass → Nat → Nat → Bool) :
    runPetal e 1 2 (flCompare k nan f) s = petalNext e 1 2 ((if nan then 1#64 else 0#64) :: r) s :=
  (runPetal_binary hr hst _).trans (by simp [qbool, Bool.or_eq_true_iff.mpr hnan])

/-- A compare of two numbers pushes the truth of the relation. -/
theorem runPetal_flCompare (hr : petalReady e 1 s) (hst : (s.eng e).stack = b :: a :: r)
    (ha : fIsNan k (flBits k a) = false) (hb : fIsNan k (flBits k b) = false) (nan : Bool)
    (f : FClass → Nat → Nat → Bool) :
    runPetal e 1 2 (flCompare k nan f) s =
      petalNext e 1 2 ((if f k (flBits k a) (flBits k b) then 1#64 else 0#64) :: r) s :=
  (runPetal_binary hr hst _).trans (by simp [qbool, ha, hb])

end Floats

/-- Settles O6: each instruction has one of the shapes of `runPetal_push` and `runPetal_binary`, or moves entries that
stand. -/
theorem petalStackAndCompares : Obligations.PetalStackAndCompares := by
  unfold Obligations.PetalStackAndCompares
  intro e s
  refine ⟨fun hr => congrArg _ (runPetal_stack hr rfl rfl),
    fun a r hr hst hfit => congrArg _ (runPetal_stack hr rfl ?dup),
    fun a r hr hst => congrArg _ (runPetal_stack hr rfl (by simp [hst])),
    fun a b r hr hst => congrArg _ (runPetal_stack hr rfl (by simp [hst])),
    fun a b r hr hst hfit => congrArg _ (runPetal_stack hr rfl ?second),
    fun a b c r hr hst => congrArg _ (runPetal_stack hr rfl (by simp [hst])),
    fun n a hr hn ha hfit => exec_pPick hr hn ha hfit,
    fun hfit => ⟨fun hr => congrArg _ (runPetal_push hr hfit), fun hr => congrArg _ (runPetal_push hr hfit),
      fun b hr => exec_pPushb hr hfit, fun w hr => exec_pPushw hr hfit, fun idx u hr hu hidx => exec_pLdk hr hfit hu hidx⟩,
    fun a b r hr hst => ⟨?compares, fun k => ⟨fun hnan => ?nan, fun ha hb => ?numbers⟩, ?minmax, fun g r' hr' => ?sel⟩⟩
  case dup => simp [hst, push, Nat.not_le.mpr hfit]
  case second => simp [hst, push, Nat.not_le.mpr hfit]
  case compares =>
    refine ⟨?_, ?_, ?_, ?_, ?_, ?_, ?_, ?_, ?_, ?_⟩ <;>
      exact congrArg _ ((runPetal_binary hr hst _).trans (by simp [qbool]))
  case nan =>
    refine ⟨?_, ?_, ?_, ?_, ?_, ?_⟩ <;> exact congrArg _ (runPetal_flCompare_nan hr hst hnan _ _)
  case numbers =>
    refine ⟨?_, ?_, ?_, ?_, ?_, ?_⟩ <;> exact congrArg _ (runPetal_flCompare hr hst ha hb _ _)
  case minmax =>
    refine ⟨?_, ?_, ?_, ?_⟩ <;> exact congrArg _ (runPetal_binary hr hst _)
  case sel =>
    exact congrArg _ (runPetal_stack hr rfl (by simp [hst, hr']))

end Sys2Proof.Machine
end

section
/-! SUPPORT. Integer arithmetic of Petal (05 R158): a result reduced to canonical form lies in its class and differs from
the exact one by a multiple of 2^32 or 2^64. -/

namespace Sys2Proof.Machine

/-! ### Signed values -/

theorem dvd_toSigned_sub (n v : Nat) : ((2 ^ n : Nat) : Int) ∣ toSigned n v - v := by
  have hv : ((2 ^ n : Nat) : Int) ∣ ((v % 2 ^ n : Nat) : Int) - v := by
    rw [Int.natCast_emod]
    exact Int.dvd_emod_sub_self
  rw [toSigned]
  split
  · exact hv
  · rw [sub_right_comm]
    exact Int.dvd_sub hv (Int.dvd_refl _)

theorem toSigned_range {n : Nat} (hn : 1 ≤ n) (v : Nat) :
    -((2 ^ (n - 1) : Nat) : Int) ≤ toSigned n v ∧ toSigned n v ≤ ((2 ^ (n - 1) : Nat) : Int) - 1 := by
  have hlo := BitVec.le_two_mul_toInt (x := BitVec.ofNat n v)
  have hhi := BitVec.two_mul_toInt_lt (x := BitVec.ofNat n v)
  rw [toSigned_eq_toInt]
  obtain ⟨m, rfl⟩ : ∃ m, n = m + 1 := ⟨n - 1, by omega⟩
  simp only [Nat.add_sub_cancel, pow_succ] at *
  push_cast
  omega

theorem ofSigned_cast (n : Nat) (r : Int) : ((ofSigned n r : Nat) : Int) = r % ((2 ^ n : Nat) : Int) :=
  Int.toNat_of_nonneg (Int.emod_nonneg _ (by positivity))

theorem ofSigned_lt (n : Nat) (r : Int) : ofSigned n r < 2 ^ n := by
  have h := Int.emod_lt_of_pos r (b := ((2 ^ n : Nat) : Int)) (by positivity)
  rw [← ofSigned_cast] at h
  exact_mod_cast h

theorem dvd_ofSigned_sub (n : Nat) (r : Int) : ((2 ^ n : Nat) : Int) ∣ (ofSigned n r : Int) - r := by
  rw [ofSigned_cast]
  exact Int.dvd_emod_sub_self

theorem dvd_toSigned_ofSigned_sub (n : Nat) (r : Int) : ((2 ^ n : Nat) : Int) ∣ toSigned n (ofSigned n r) - r := by
  rw [← sub_add_sub_cancel _ (ofSigned n r : Int)]
  exact Int.dvd_add (dvd_toSigned_sub n _) (dvd_ofSigned_sub n r)

theorem squad_toInt {v : Int} (hlo : -2 ^ 63 ≤ v) (hhi : v < 2 ^ 63) : (squad v).toInt = v := by
  rw [squad, BitVec.toInt_ofInt]
  exact Int.bmod_eq_of_le (by omega) (by omega)

theorem quad_toNat {v : Nat} (h : v < 2 ^ 64) : (quad v).toNat = v := by
  rw [quad, BitVec.toNat_ofNat, Nat.mod_eq_of_lt h]

/-! ### Reducing a result -/

/-- What is pushed is the exact result reduced to the class. -/
theorem clsReduce_isReduced (c : IClass) (r : Int) : isReduced c r (clsReduce c r).1 := by
  have hbits : 1 ≤ c.bits ∧ c.bits - 1 ≤ 63 ∧ c.bits ≤ 64 := by cases c <;> decide
  cases hc : c.isSigned with
  | true =>
    obtain ⟨hlo, hhi⟩ := toSigned_range hbits.1 (ofSigned c.bits r)
    have hpow : ((2 ^ (c.bits - 1) : Nat) : Int) ≤ 2 ^ 63 := by
      exact_mod_cast Nat.pow_le_pow_right (by decide) hbits.2.1
    have hval : (squad (toSigned c.bits (ofSigned c.bits r))).toInt = toSigned c.bits (ofSigned c.bits r) :=
      squad_toInt (by omega) (by omega)
    simp only [isReduced, clsValue, clsLeast, clsMost, clsReduce, hc, if_true, hval]
    exact ⟨hlo, hhi, Int.emod_eq_zero_of_dvd (dvd_toSigned_ofSigned_sub _ _)⟩
  | false =>
    have hlt := ofSigned_lt c.bits r
    have hval : (quad (ofSigned c.bits r)).toNat = ofSigned c.bits r :=
      quad_toNat (hlt.trans_le (Nat.pow_le_pow_right (by decide) hbits.2.2))
    simp only [isReduced, clsValue, clsLeast, clsMost, clsReduce, hc, Bool.false_eq_true, if_false, hval]
    exact ⟨by omega, by omega, Int.emod_eq_zero_of_dvd (dvd_ofSigned_sub _ _)⟩

/-- An operand lies in the class it is read in. -/
theorem clsRead_inside (c : IClass) (q : Quad) : clsLeast c ≤ clsRead c q ∧ clsRead c q ≤ clsMost c := by
  have hbits : 1 ≤ c.bits := by cases c <;> decide
  cases hc : c.isSigned with
  | true =>
    simp only [clsLeast, clsMost, clsRead, hc, if_true]
    exact toSigned_range hbits _
  | false =>
    have hlt := Nat.mod_lt q.toNat (Nat.two_pow_pos c.bits)
    simp only [clsLeast, clsMost, clsRead, hc, Bool.false_eq_true, if_false]
    omega

/-- A remainder lies between 0 and the dividend, so inside the class. -/
theorem outside_tmod (c : IClass) (p q : Quad) : outside c ((clsRead c p).tmod (clsRead c q)) = false := by
  obtain ⟨hlo, hhi⟩ := clsRead_inside c p
  have hzero : clsLeast c ≤ 0 ∧ 0 ≤ clsMost c := by cases c <;> decide
  have habs : ((clsRead c p).tmod (clsRead c q)).natAbs ≤ (clsRead c p).natAbs := by
    rw [Int.natAbs_tmod]
    exact Nat.mod_le _ _
  rw [outside, decide_eq_false_iff_not]
  rcases Int.le_total 0 (clsRead c p) with hp | hp
  · have := Int.tmod_nonneg (clsRead c q) hp
    omega
  · have := Int.tmod_nonneg (clsRead c q) (Int.neg_nonneg.mpr hp)
    rw [Int.neg_tmod] at this
    omega

/-! ### The instructions -/

section
variable {e cyc : Nat} {s : State} {a b : Quad} {r : List Quad}

/-- An instruction of two operands that pushes its exact result, reduced. -/
theorem runPetal_exactly2 (hr : petalReady e 1 s) (hst : (s.eng e).stack = b :: a :: r) (c : IClass) (f : Int → Int → Int) :
    ∃ q, isReduced c (f (clsRead c a) (clsRead c b)) q ∧ runPetal e 1 cyc (binaryFlag (exactly2 c f)) s =
      petalNext e 1 cyc (q :: r) (petalFlagged e (outside c (f (clsRead c a) (clsRead c b))) false s) :=
  ⟨_, clsReduce_isReduced c _, runPetal_binaryFlag hr hst _⟩

/-- An instruction of one operand that pushes its exact result, reduced. -/
theorem runPetal_exactly1 (hr : petalReady e 1 s) (hst : (s.eng e).stack = a :: r) (c : IClass) (f : Int → Int) :
    ∃ q, isReduced c (f (clsRead c a)) q ∧ runPetal e 1 cyc (unaryFlag fun a => clsReduce c (f (clsRead c a))) s =
      petalNext e 1 cyc (q :: r) (petalFlagged e (outside c (f (clsRead c a))) false s) :=
  ⟨_, clsReduce_isReduced c _, runPetal_unaryFlag hr hst _⟩

/-- DIV and MOD by 0 (R158). -/
theorem runPetal_byZero (hr : petalReady e 1 s) (hst : (s.eng e).stack = b :: a :: r)
    {op : Quad → Quad → Quad × Bool × Bool} (hop : op a b = (0#64, false, true)) :
    runPetal e 1 cyc (binaryFlag op) s = petalNext e 1 cyc (0#64 :: r) (petalFlagged e false true s) := by
  rw [runPetal_binaryFlag hr hst, hop]

theorem divOp_zero {c : IClass} (h : clsRead c b = 0) : divOp c a b = (0#64, false, true) := if_pos h

theorem modOp_zero {c : IClass} (h : clsRead c b = 0) : modOp c a b = (0#64, false, true) := if_pos h

/-- DIV by a divisor other than 0 pushes the quotient truncated toward 0. -/
theorem runPetal_divOp (hr : petalReady e 1 s) (hst : (s.eng e).stack = b :: a :: r) {c : IClass} (h : clsRead c b ≠ 0) :
    ∃ q, isReduced c ((clsRead c a).tdiv (clsRead c b)) q ∧ runPetal e 1 cyc (binaryFlag (divOp c)) s =
      petalNext e 1 cyc (q :: r) (petalFlagged e (outside c ((clsRead c a).tdiv (clsRead c b))) false s) := by
  refine ⟨_, clsReduce_isReduced c _, ?_⟩
  rw [runPetal_binaryFlag hr hst, divOp, if_neg h]
  rfl

/-- MOD by a divisor other than 0 pushes the remainder, which never overflows. -/
theorem runPetal_modOp (hr : petalReady e 1 s) (hst : (s.eng e).stack = b :: a :: r) {c : IClass} (h : clsRead c b ≠ 0) :
    ∃ q, isReduced c (clsRead c a - clsRead c b * (clsRead c a).tdiv (clsRead c b)) q ∧
      runPetal e 1 cyc (binaryFlag (modOp c)) s = petalNext e 1 cyc (q :: r) (petalFlagged e false false s) := by
  rw [← Int.tmod_def]
  refine ⟨_, clsReduce_isReduced c _, ?_⟩
  have hno : (modOp c a b).2.1 = false := by
    rw [modOp, if_neg h]
    exact outside_tmod c a b
  rw [runPetal_binaryFlag hr hst, hno, modOp, if_neg h]
  rfl

end

/-- Settles O7: each instruction is `clsReduce` of its exact result on the operands read in the class. -/
theorem petalIntegerArithmetic : Obligations.PetalIntegerArithmetic := by
  unfold Obligations.PetalIntegerArithmetic
  intro e s a b r hr
  refine ⟨fun c hst => ⟨?_, ?_, ?_, fun hz => ⟨?_, ?_⟩, fun hz => ⟨?_, ?_⟩⟩, fun wide c hc hst => ?_⟩
  · obtain ⟨q, hq, hrun⟩ := runPetal_exactly2 hr hst c (· + ·) (cyc := 1)
    exact ⟨q, hq, congrArg _ hrun⟩
  · obtain ⟨q, hq, hrun⟩ := runPetal_exactly2 hr hst c (· - ·) (cyc := 1)
    exact ⟨q, hq, congrArg _ hrun⟩
  · obtain ⟨q, hq, hrun⟩ := runPetal_exactly2 hr hst c (· * ·) (cyc := mulCycles c)
    exact ⟨q, hq, congrArg _ hrun⟩
  · exact congrArg _ (runPetal_byZero hr hst (divOp_zero hz))
  · exact congrArg _ (runPetal_byZero hr hst (modOp_zero hz))
  · obtain ⟨q, hq, hrun⟩ := runPetal_divOp hr hst hz (cyc := divCycles c)
    exact ⟨q, hq, congrArg _ hrun⟩
  · obtain ⟨q, hq, hrun⟩ := runPetal_modOp hr hst hz (cyc := divCycles c)
    exact ⟨q, hq, congrArg _ hrun⟩
  · obtain rfl : c = signedClass wide := hc
    obtain ⟨q, hq, hneg⟩ := runPetal_exactly1 hr hst (signedClass wide) (- ·) (cyc := 1)
    obtain ⟨p, hp, habs⟩ := runPetal_exactly1 hr hst (signedClass wide) (fun v => (v.natAbs : Int)) (cyc := 1)
    exact ⟨⟨q, hq, congrArg _ hneg⟩, p, hp, congrArg _ habs⟩

end Sys2Proof.Machine
end

section
/-! SUPPORT. Floating point of Petal (05 R159, R160): how a NaN passes through the operations, and the instructions. -/

namespace Sys2Proof.Machine

/-! ### NaN operands (R159) -/

section Nan
variable {c : FClass} {x y : Nat}

theorem magnitude_mod_width (c : FClass) (x : Nat) : x % 2 ^ c.width % 2 ^ (c.width - 1) = x % 2 ^ (c.width - 1) :=
  Nat.mod_mod_of_dvd x (Nat.pow_dvd_pow 2 (Nat.sub_le ..))

theorem readFl_of_isNan (h : fIsNan c x = true) : readFl c x = .nan := by
  rw [fIsNan, decide_eq_true_iff] at h
  simp only [readFl, magnitude_mod_width, if_pos h]

theorem fIsNan_flipSign (c : FClass) (x : Nat) : fIsNan c (flipSign c x) = fIsNan c x := by
  simp only [fIsNan, ← magnitude_mod_width c x, flipSign]
  split
  · rw [Nat.add_mod_right]
  next h => rw [Nat.mod_eq_sub_mod (Nat.not_lt.mp h)]

theorem fAdd_nan (h : fIsNan c x = true ∨ fIsNan c y = true) : fAdd c x y = c.nan := by
  rcases h with h | h
  · simp only [fAdd, readFl_of_isNan h]
  · simp only [fAdd, readFl_of_isNan h]
    cases readFl c x <;> rfl

theorem fSub_nan (h : fIsNan c x = true ∨ fIsNan c y = true) : fSub c x y = c.nan :=
  fAdd_nan (by rwa [fIsNan_flipSign])

theorem fMul_nan (h : fIsNan c x = true ∨ fIsNan c y = true) : fMul c x y = c.nan := by
  rcases h with h | h
  · simp only [fMul, readFl_of_isNan h]
  · simp only [fMul, readFl_of_isNan h]
    cases readFl c x <;> rfl

theorem fDiv_nan (h : fIsNan c x = true ∨ fIsNan c y = true) : fDiv c x y = c.nan := by
  rcases h with h | h
  · simp only [fDiv, readFl_of_isNan h]
  · simp only [fDiv, readFl_of_isNan h]
    cases readFl c x <;> rfl

theorem fSqrt_nan (h : fIsNan c x = true) : fSqrt c x = c.nan := by simp only [fSqrt, readFl_of_isNan h]

/-! MIN and MAX give the operand that is a number. -/

variable {p q : Quad}

theorem flBits_mod (c : FClass) (p : Quad) : flBits c p % 2 ^ c.width = flBits c p := Nat.mod_mod ..

theorem fMin_nan_left (hx : fIsNan c (flBits c p) = true) (hy : fIsNan c (flBits c q) = false) :
    fMin c (flBits c p) (flBits c q) = flBits c q := by
  simp only [fMin, flBits_mod, hx, hy, Bool.false_eq_true, if_true, if_false]

theorem fMin_nan_right (hx : fIsNan c (flBits c p) = false) (hy : fIsNan c (flBits c q) = true) :
    fMin c (flBits c p) (flBits c q) = flBits c p := by
  simp only [fMin, flBits_mod, hx, hy, Bool.false_eq_true, if_true, if_false]

theorem fMax_nan_left (hx : fIsNan c (flBits c p) = true) (hy : fIsNan c (flBits c q) = false) :
    fMax c (flBits c p) (flBits c q) = flBits c q := by
  simp only [fMax, flBits_mod, hx, hy, Bool.false_eq_true, if_true, if_false]

theorem fMax_nan_right (hx : fIsNan c (flBits c p) = false) (hy : fIsNan c (flBits c q) = true) :
    fMax c (flBits c p) (flBits c q) = flBits c p := by
  simp only [fMax, flBits_mod, hx, hy, Bool.false_eq_true, if_true, if_false]

end Nan

/-! ### The instructions -/

section
variable {e : Nat} {s : State} {a b : Quad} {r : List Quad}

theorem exec_pDivF (hr : petalReady e 1 s) (hst : (s.eng e).stack = b :: a :: r) (c : FClass) :
    exec (.pDivF e c) s = .next (petalNext e 1 (match c with | .f32 => 10 | .f64 => 16)
      (quad (fDiv c (flBits c a) (flBits c b)) :: r) (petalFlagged e false (fIsZero c (flBits c b)) s)) := by
  cases c <;> exact congrArg _ (runPetal_binaryFlag hr hst _)

theorem exec_pSqrt (hr : petalReady e 1 s) (hst : (s.eng e).stack = a :: r) (c : FClass) :
    exec (.pSqrt e c) s = .next (petalNext e 1 (match c with | .f32 => 10 | .f64 => 18)
      (quad (fSqrt c (flBits c a)) :: r) s) := by
  cases c <;> exact congrArg _ (runPetal_unary hr hst _)

end

/-- Settles O8: each instruction replaces its operands by the float of the model's operation; a NaN reads as NaN. -/
theorem petalFloatingPoint : Obligations.PetalFloatingPoint := by
  unfold Obligations.PetalFloatingPoint
  intro e s hr
  refine ⟨fun c a b r hst => ⟨congrArg _ (runPetal_binary hr hst _), congrArg _ (runPetal_binary hr hst _),
      congrArg _ (runPetal_binary hr hst _), exec_pDivF hr hst c, congrArg _ (runPetal_binary hr hst _),
      congrArg _ (runPetal_binary hr hst _), fun h => ⟨fAdd_nan h, fSub_nan h, fMul_nan h, fDiv_nan h⟩,
      fun hx hy => ⟨fMin_nan_left hx hy, fMax_nan_left hx hy⟩, fun hx hy => ⟨fMin_nan_right hx hy, fMax_nan_right hx hy⟩⟩,
    fun c a r hst => ⟨congrArg _ (runPetal_unary hr hst _), congrArg _ (runPetal_unary hr hst _), exec_pSqrt hr hst c,
      fun h => ⟨if_pos h, if_pos h, fSqrt_nan h⟩⟩,
    fun a r hst => ⟨congrArg _ (runPetal_unary hr hst _), congrArg _ (runPetal_unary hr hst _),
      congrArg _ (runPetal_unary hr hst _), congrArg _ (runPetal_unary hr hst _)⟩,
    fun y x r hst => congrArg _ (runPetal_binary hr hst _)⟩

end Sys2Proof.Machine
end

section
/-! SUPPORT. Logic, shifts, rotations and single bits of Petal (05 R157): each bit of the result. -/

namespace Sys2Proof.Machine

section Bits
variable {w i : Nat} {a k : Quad}

/-! ### Bits of a number -/

theorem getLsbD_quad (v : Nat) (hi : i < 64) : (quad v).getLsbD i = v.testBit i := by
  rw [quad, BitVec.getLsbD_ofNat, decide_eq_true hi, Bool.true_and]

theorem testBit_lowBits (w : Nat) (a : Quad) (i : Nat) : (lowBits w a).testBit i = (decide (i < w) && a.getLsbD i) := by
  rw [lowBits, Nat.testBit_mod_two_pow, BitVec.testBit_toNat]

theorem lowBits_lt (w : Nat) (a : Quad) : lowBits w a < 2 ^ w := Nat.mod_lt _ (Nat.two_pow_pos w)

theorem bitOf_toNat (a : Quad) (i : Nat) : bitOf a.toNat i = a.getLsbD i := by
  rw [← BitVec.testBit_toNat, Nat.testBit_eq_decide_div_mod_eq]
  rfl

/-- A number with a bit replaced is its higher part, the bit and its lower part. -/
theorem withBit_eq (v i : Nat) (b : Bool) :
    withBit v i b = 2 ^ i * (2 ^ 1 * (v / 2 ^ (i + 1)) + b2n b) + v % 2 ^ i := by
  have hv := Nat.div_add_mod v (2 ^ i)
  have hx : 2 ^ i * (v / 2 ^ i) = 2 ^ i * (2 * (v / 2 ^ i / 2)) + v / 2 ^ i % 2 * 2 ^ i := by
    rw [Nat.mul_comm (v / 2 ^ i % 2), ← Nat.mul_add, Nat.div_add_mod]
  rw [pow_succ 2 i, ← Nat.div_div_eq_div_mul, pow_one]
  cases b
  · simp only [withBit, b2n, Bool.false_eq_true, if_false, Nat.add_zero]
    omega
  · simp only [withBit, b2n, if_true, Nat.mul_add, Nat.mul_one]
    omega

theorem testBit_withBit (v n : Nat) (b : Bool) (i : Nat) :
    (withBit v n b).testBit i = if i = n then b else v.testBit i := by
  rw [withBit_eq, Nat.testBit_two_pow_mul_add _ (Nat.mod_lt _ (Nat.two_pow_pos n))]
  rcases Nat.lt_trichotomy i n with hlt | rfl | hgt
  · rw [if_pos hlt, if_neg hlt.ne, Nat.testBit_mod_two_pow, decide_eq_true hlt, Bool.true_and]
  · rw [if_neg (lt_irrefl i), if_pos rfl, Nat.sub_self, Nat.testBit_two_pow_mul_add _ (by cases b <;> decide),
      if_pos Nat.one_pos]
    cases b <;> rfl
  · rw [if_neg hgt.not_gt, if_neg hgt.ne', Nat.testBit_two_pow_mul_add _ (by cases b <;> decide), if_neg (by omega),
      Nat.testBit_div_two_pow]
    congr 1
    omega

/-! ### Bits of the results -/

theorem getLsbD_not (hi : i < 64) : (quad (2 ^ w - 1 - lowBits w a)).getLsbD i = (decide (i < w) && !a.getLsbD i) := by
  rw [getLsbD_quad _ hi, Nat.sub_sub, Nat.add_comm, Nat.testBit_two_pow_sub_succ (lowBits_lt w a), testBit_lowBits]
  by_cases h : i < w <;> simp [h]

theorem getLsbD_shlBits (hi : i < 64) :
    (shlBits w a k).getLsbD i = (decide (i < w ∧ k.toNat ≤ i) && a.getLsbD (i - k.toNat)) := by
  rw [shlBits]
  split
  next hk =>
    rw [BitVec.getLsbD_zero, decide_eq_false (by omega), Bool.false_and]
  next hk =>
    rw [getLsbD_quad _ hi, Nat.testBit_mod_two_pow, Nat.testBit_mul_two_pow, testBit_lowBits, Bool.decide_and,
      Bool.and_assoc]
    by_cases h : i < w
    · rw [decide_eq_true (show i - k.toNat < w by omega), Bool.true_and]
    · rw [decide_eq_false h, Bool.false_and, Bool.false_and]

theorem getLsbD_shrBits (hi : i < 64) :
    (shrBits w a k).getLsbD i = (decide (i + k.toNat < w) && a.getLsbD (i + k.toNat)) := by
  rw [shrBits]
  split
  next hk => rw [BitVec.getLsbD_zero, decide_eq_false (by omega), Bool.false_and]
  next hk => rw [getLsbD_quad _ hi, Nat.testBit_div_two_pow, testBit_lowBits]

/-- SAR is the arithmetic shift of the low bits, sign-extended. -/
theorem sarBits_eq (h : k.toNat < w) :
    sarBits w a k = ((a.setWidth w).sshiftRight k.toNat).signExtend 64 := by
  simp only [sarBits, if_neg (Nat.not_le.mpr h), squad, BitVec.signExtend, BitVec.toInt_sshiftRight,
    Int.shiftRight_eq_div_pow, toSigned_eq_toInt, BitVec.ofNat_toNat]

theorem msb_setWidth_of_pos (hw : 0 < w) : (a.setWidth w).msb = a.getLsbD (w - 1) := by
  rw [BitVec.msb_eq_getLsbD_last, BitVec.getLsbD_setWidth, decide_eq_true (by omega), Bool.true_and]

theorem getLsbD_sarBits (hw : 0 < w) (hi : i < 64) :
    (sarBits w a k).getLsbD i = a.getLsbD (min (i + k.toNat) (w - 1)) := by
  by_cases hk : k.toNat < w
  · rw [sarBits_eq hk, BitVec.getLsbD_signExtend, decide_eq_true hi, Bool.true_and, BitVec.msb_sshiftRight,
      BitVec.getLsbD_sshiftRight, msb_setWidth_of_pos hw]
    by_cases hin : k.toNat + i < w
    · rw [if_pos (show i < w by omega), decide_eq_false (show ¬w ≤ i by omega), if_pos hin, BitVec.getLsbD_setWidth,
        decide_eq_true hin, Nat.min_eq_left (by omega), Nat.add_comm i]
      rfl
    · rw [if_neg hin, Nat.min_eq_right (by omega)]
      split
      next h => rw [decide_eq_false (show ¬w ≤ i by omega), Bool.not_false, Bool.true_and]
      next => rfl
  · have hneg : decide (toSigned w a.toNat < 0) = a.getLsbD (w - 1) := by
      rw [toSigned_eq_toInt, BitVec.ofNat_toNat, ← BitVec.msb_eq_toInt, msb_setWidth_of_pos hw]
    rw [Nat.min_eq_right (by omega), ← hneg, sarBits, if_pos (Nat.not_lt.mp hk)]
    by_cases hv : toSigned w a.toNat < 0
    · rw [if_pos hv, decide_eq_true hv, show squad (-1) = BitVec.allOnes 64 by decide, BitVec.getLsbD_allOnes,
        decide_eq_true hi]
    · rw [if_neg hv, decide_eq_false hv, BitVec.getLsbD_zero]

/-- A rotation moves the low part up and the high part to the bottom. -/
theorem testBit_rotate {v m : Nat} (hm : m < w) (hv : v < 2 ^ w) (i : Nat) :
    (v * 2 ^ m % 2 ^ w + v / 2 ^ (w - m)).testBit i = (decide (i < w) && v.testBit ((i + w - m) % w)) := by
  have hw : 2 ^ w = 2 ^ (w - m) * 2 ^ m := by rw [← pow_add, Nat.sub_add_cancel hm.le]
  have hhigh : v / 2 ^ (w - m) < 2 ^ m := Nat.div_lt_of_lt_mul (hw ▸ hv)
  rw [hw, Nat.mul_mod_mul_right, Nat.mul_comm _ (2 ^ m), Nat.testBit_two_pow_mul_add _ hhigh]
  by_cases him : i < m
  · rw [if_pos him, Nat.testBit_div_two_pow, decide_eq_true (by omega), Bool.true_and, Nat.mod_eq_of_lt (by omega)]
    congr 1
    omega
  · rw [if_neg him, Nat.testBit_mod_two_pow]
    by_cases hiw : i < w
    · rw [decide_eq_true (show i - m < w - m by omega), decide_eq_true hiw, show i + w - m = i - m + w by omega,
        Nat.add_mod_right, Nat.mod_eq_of_lt (show i - m < w by omega)]
    · rw [decide_eq_false (show ¬i - m < w - m by omega), decide_eq_false hiw, Bool.false_and, Bool.false_and]

theorem getLsbD_rolBits (hw : 0 < w) (hi : i < 64) :
    (rolBits w a k).getLsbD i = (decide (i < w) && a.getLsbD ((i + w - k.toNat % w) % w)) := by
  rw [rolBits, getLsbD_quad _ hi, testBit_rotate (Nat.mod_lt _ hw) (lowBits_lt w a), testBit_lowBits,
    decide_eq_true (Nat.mod_lt _ hw), Bool.true_and]

/-- ROR by k is ROL by w less k. -/
theorem getLsbD_rorBits (hw : 0 < w) (hw64 : w ≤ 64) (hi : i < 64) :
    (rolBits w a (quad (w - k.toNat % w))).getLsbD i = (decide (i < w) && a.getLsbD ((i + k.toNat % w) % w)) := by
  have hm := Nat.mod_lt k.toNat hw
  rw [getLsbD_rolBits hw hi, quad_toNat (by omega)]
  rcases Nat.eq_zero_or_pos (k.toNat % w) with h0 | hpos
  · rw [h0, Nat.sub_zero, Nat.mod_self, Nat.sub_zero, Nat.add_zero, Nat.add_mod_right]
  · rw [Nat.mod_eq_of_lt (show w - k.toNat % w < w by omega), show i + w - (w - k.toNat % w) = i + k.toNat % w by omega]

theorem getLsbD_withBit {n : Nat} {b : Bool} (hi : i < 64) :
    (quad (withBit a.toNat n b)).getLsbD i = if i = n then b else a.getLsbD i := by
  rw [getLsbD_quad _ hi, testBit_withBit, BitVec.testBit_toNat]

end Bits

/-! ### The instructions -/

section
variable {e w n : Nat} {s : State} {a b : Quad} {r : List Quad}

theorem withWidth_ok (hw : w ∈ [8, 16, 32, 64]) (body : Engine → State → PRes) : withWidth w body = body := by
  funext g s
  rw [withWidth, if_pos (show widthOk w = true by simpa [widthOk, or_assoc] using hw)]

theorem width_pos (hw : w ∈ [8, 16, 32, 64]) : 0 < w ∧ w ≤ 64 := by
  simp only [List.mem_cons, List.not_mem_nil, or_false] at hw
  omega

theorem runPetal_widthUnary (hr : petalReady e 2 s) (hw : w ∈ [8, 16, 32, 64]) (hst : (s.eng e).stack = a :: r)
    (f : Quad → Quad) : runPetal e 2 1 (withWidth w (unary f)) s = petalNext e 2 1 (f a :: r) s := by
  rw [withWidth_ok hw, runPetal_unary hr hst]

theorem runPetal_widthBinary (hr : petalReady e 2 s) (hw : w ∈ [8, 16, 32, 64]) (hst : (s.eng e).stack = b :: a :: r)
    (f : Quad → Quad → Quad) : runPetal e 2 1 (withWidth w (binary f)) s = petalNext e 2 1 (f a b :: r) s := by
  rw [withWidth_ok hw, runPetal_binary hr hst]

theorem exec_pBnot (hr : petalReady e 1 s) (hst : (s.eng e).stack = a :: r) :
    exec (.pBnot e) s = .next (petalNext e 1 1 ((if a = 0#64 then 1#64 else 0#64) :: r) s) := by
  refine congrArg _ ((runPetal_unary hr hst _).trans ?_)
  by_cases h : a = 0#64 <;> simp [qbool, h]

theorem exec_pBitget (hr : petalReady e 2 s) (hn : n ≤ 63) (hst : (s.eng e).stack = a :: r) :
    exec (.pBitget e n) s = .next (petalNext e 2 1 ((if a.getLsbD n then 1#64 else 0#64) :: r) s) := by
  refine congrArg _ (runPetal_stack hr rfl ?_)
  rw [if_neg (by omega), unary, State.past_stack, hst]
  simp only [bitOf_toNat, qbool]

theorem exec_pBitset (hr : petalReady e 2 s) (hn : n ≤ 63) (hst : (s.eng e).stack = b :: a :: r) :
    exec (.pBitset e n) s = .next (petalNext e 2 1 (quad (withBit a.toNat n (b != 0#64)) :: r) s) := by
  refine congrArg _ (runPetal_stack hr rfl ?_)
  rw [if_neg (by omega), binary, State.past_stack, hst]

end

/-- Settles O9: each result, by its bits. -/
theorem petalLogicAndShifts : Obligations.PetalLogicAndShifts := by
  unfold Obligations.PetalLogicAndShifts
  intro e s
  refine ⟨fun a b r hr hst => ⟨congrArg _ (runPetal_binary hr hst _), congrArg _ (runPetal_binary hr hst _),
      congrArg _ (runPetal_binary hr hst _)⟩,
    fun a r hr hst => exec_pBnot hr hst,
    fun w a r hr hw hst => ⟨_, fun i => getLsbD_not, congrArg _ (runPetal_widthUnary hr hw hst _)⟩,
    fun w a k r hr hw hst => ?_,
    fun n a r hr hn hst => exec_pBitget hr hn hst,
    fun n a b r hr hn hst => ⟨_, fun i hi => ?_, exec_pBitset hr hn hst⟩⟩
  · obtain ⟨hpos, hle⟩ := width_pos hw
    exact ⟨⟨_, fun i => getLsbD_shlBits, congrArg _ (runPetal_widthBinary hr hw hst _)⟩,
      ⟨_, fun i => getLsbD_shrBits, congrArg _ (runPetal_widthBinary hr hw hst _)⟩,
      ⟨_, fun i => getLsbD_sarBits hpos, congrArg _ (runPetal_widthBinary hr hw hst _)⟩,
      ⟨_, fun i => getLsbD_rolBits hpos, congrArg _ (runPetal_widthBinary hr hw hst _)⟩,
      ⟨_, fun i => getLsbD_rorBits hpos hle, congrArg _ (runPetal_widthBinary hr hw hst _)⟩⟩
  · rw [getLsbD_withBit hi, bne, BEq.beq, decide_not]
    rfl

end Sys2Proof.Machine
end

section
/-! SUPPORT. Conversions of Petal (05 R161). -/

namespace Sys2Proof.Machine

/-- A type takes 1, 2, 4 or 8 bytes (05 R154). -/
theorem size_of_tyOf {t n : Nat} {k : TyKind} (h : tyOf t = some (k, n)) : n ∈ [1, 2, 4, 8] := by
  have hall : ∀ x ∈ tyOf t, x.2 ∈ [1, 2, 4, 8] := by
    unfold tyOf
    split <;> simp
  exact hall _ h

theorem bits_of_tyOf {t n : Nat} {k : TyKind} (h : tyOf t = some (k, n)) : 1 ≤ 8 * n ∧ 8 * n ≤ 64 := by
  have hn := size_of_tyOf h
  simp only [List.mem_cons, List.not_mem_nil, or_false] at hn
  omega

/-! ### Wrapping to an integer type -/

/-- A value wrapped into a range differs from the original where the original lies outside the range. -/
theorem wrapped_ne_iff {lo m w v : Int} (hlo : lo ≤ w) (hhi : w < lo + m) (hdvd : m ∣ w - v) :
    w ≠ v ↔ v < lo ∨ lo + m ≤ v := by
  constructor
  · intro hne
    by_contra hin
    exact hne (Int.sub_eq_zero.mp (Int.eq_zero_of_abs_lt_dvd hdvd (abs_lt.mpr ⟨by omega, by omega⟩)))
  · omega

section
variable {k : TyKind} {n : Nat} {v : Int}

/-- What a conversion to an integer or time type pushes: the value in the type's range that is congruent to the operand,
with OVF where the operand lies outside the range. -/
def fitted (k : TyKind) (n : Nat) (v : Int) (q : Quad) (ovf : Bool) : Prop :=
  let m : Int := ((2 ^ (8 * n) : Nat) : Int)
  let lo : Int := if k = .unsigned then 0 else -((2 ^ (8 * n - 1) : Nat) : Int)
  let w : Int := if k = .unsigned then (q.toNat : Int) else q.toInt
  lo ≤ w ∧ w < lo + m ∧ (w - v) % m = 0 ∧ ovf = decide (v < lo ∨ lo + m ≤ v)

theorem squad_natCast (m : Nat) : squad (m : Int) = quad m := by rw [squad, quad, BitVec.ofInt_natCast]

theorem fitInt_unsigned (h : 8 * n ≤ 64) (v : Int) :
    fitted .unsigned n v (fitInt .unsigned n v).1 (fitInt .unsigned n v).2 := by
  have hlt := ofSigned_lt (8 * n) v
  have hq : (fitInt .unsigned n v).1.toNat = ofSigned (8 * n) v := by
    rw [← quad_toNat (hlt.trans_le (Nat.pow_le_pow_right (by decide) h)), ← squad_natCast]
    rfl
  have hovf : (fitInt .unsigned n v).2 = decide ((ofSigned (8 * n) v : Int) ≠ v) := rfl
  have hdvd := dvd_ofSigned_sub (8 * n) v
  simp only [fitted, if_true, hq, hovf]
  refine ⟨by omega, by omega, Int.emod_eq_zero_of_dvd hdvd, decide_eq_decide.mpr ?_⟩
  exact wrapped_ne_iff (by omega) (by omega) hdvd

theorem fitInt_signed (hk : k ∈ [.signed, .time]) (hpos : 1 ≤ 8 * n) (h : 8 * n ≤ 64) (v : Int) :
    fitted k n v (fitInt k n v).1 (fitInt k n v).2 := by
  have hfit : fitInt k n v =
      (squad (toSigned (8 * n) (ofSigned (8 * n) v)), decide (toSigned (8 * n) (ofSigned (8 * n) v) ≠ v)) := by
    simp only [List.mem_cons, List.not_mem_nil, or_false] at hk
    rcases hk with rfl | rfl <;> rfl
  have hne : k ≠ .unsigned := by
    rintro rfl
    exact absurd hk (by decide)
  obtain ⟨hlo, hhi⟩ := toSigned_range hpos (ofSigned (8 * n) v)
  have hpow : ((2 ^ (8 * n - 1) : Nat) : Int) ≤ 2 ^ 63 := by
    exact_mod_cast Nat.pow_le_pow_right (by decide) (show 8 * n - 1 ≤ 63 by omega)
  have htwice : ((2 ^ (8 * n) : Nat) : Int) = 2 * ((2 ^ (8 * n - 1) : Nat) : Int) := by
    rw [← Nat.sub_add_cancel hpos, pow_succ, Nat.add_sub_cancel]
    push_cast
    ring
  have hdvd := dvd_toSigned_ofSigned_sub (8 * n) v
  have hval : (squad (toSigned (8 * n) (ofSigned (8 * n) v))).toInt = toSigned (8 * n) (ofSigned (8 * n) v) :=
    squad_toInt (by omega) (by omega)
  simp only [fitted, if_neg hne, hfit, hval]
  refine ⟨hlo, by omega, Int.emod_eq_zero_of_dvd hdvd, decide_eq_decide.mpr ?_⟩
  exact wrapped_ne_iff hlo (by omega) hdvd

theorem fitInt_fitted (hk : k ∈ [.signed, .unsigned, .time]) (hpos : 1 ≤ 8 * n) (h : 8 * n ≤ 64) (v : Int) :
    fitted k n v (fitInt k n v).1 (fitInt k n v).2 := by
  simp only [List.mem_cons, List.not_mem_nil, or_false] at hk
  rcases hk with rfl | rfl | rfl
  exacts [fitInt_signed (by decide) hpos h v, fitInt_unsigned h v, fitInt_signed (by decide) hpos h v]

end

/-! ### The rows of R161 -/

section
variable {k1 k2 : TyKind} {n1 n2 t1 t2 : Nat}

theorem qbool_ne_zero (a : Quad) : qbool (a.toNat != 0) = if a = 0#64 then 0#64 else 1#64 := by
  by_cases h : a = 0#64
  · rw [h]
    rfl
  · rw [if_neg h, qbool]
    exact if_pos (bne_iff_ne.mpr fun h0 => h (BitVec.eq_of_toNat_eq h0))

theorem convert_self (t : Nat) (truncate : Bool) (a : Quad) : convert t t k1 n1 k2 n2 truncate a = (a, false) := if_pos rfl

/-- To BOOL, 1 where the entry is not 0. -/
theorem convert_toBool (ht : t1 ≠ t2) (hk : k1 ≠ .float) (truncate : Bool) (a : Quad) :
    convert t1 t2 k1 n1 .bool n2 truncate a = (if a = 0#64 then 0#64 else 1#64, false) := by
  rw [← qbool_ne_zero]
  cases k1 with
  | float => exact absurd rfl hk
  | _ => exact if_neg ht

/-- From an integer, time or character type to an integer or time type, the value wrapped. -/
theorem convert_toInteger (ht : t1 ≠ t2) (hk1 : k1 ∈ [.signed, .unsigned, .time, .char])
    (hk2 : k2 ∈ [.signed, .unsigned, .time]) (truncate : Bool) (a : Quad) :
    convert t1 t2 k1 n1 k2 n2 truncate a =
      fitInt k2 n2 (if k1 = .signed ∨ k1 = .time then a.toInt else (a.toNat : Int)) := by
  simp only [List.mem_cons, List.not_mem_nil, or_false] at hk1 hk2
  rcases hk1 with rfl | rfl | rfl | rfl <;> rcases hk2 with rfl | rfl | rfl <;> exact if_neg ht

/-- To a bit string or character type, the low bytes of the entry. -/
theorem convert_toBits (ht : t1 ≠ t2) (hk1 : k1 ∈ [.signed, .unsigned, .time, .char, .bits]) (hk2 : k2 ∈ [.bits, .char])
    (truncate : Bool) (a : Quad) :
    convert t1 t2 k1 n1 k2 n2 truncate a = (quad (a.toNat % 2 ^ (8 * n2)), false) := by
  simp only [List.mem_cons, List.not_mem_nil, or_false] at hk1 hk2
  rcases hk1 with rfl | rfl | rfl | rfl | rfl <;> rcases hk2 with rfl | rfl <;> exact if_neg ht

/-- Rounding and truncation differ for a float only. -/
theorem convert_truncate (hk : k1 ≠ .float) (truncate : Bool) :
    convert t1 t2 k1 n1 k2 n2 truncate = convert t1 t2 k1 n1 k2 n2 false := by
  funext a
  cases k1 with
  | float => exact absurd rfl hk
  | _ => cases k2 <;> rfl

end

/-! ### The instructions -/

section
variable {e t1 t2 n1 n2 : Nat} {k1 k2 : TyKind} {s : State} {a : Quad} {r : List Quad}

theorem convertInstr_eq (hr : petalReady e 3 s) (hst : (s.eng e).stack = a :: r) (h1 : tyOf t1 = some (k1, n1))
    (h2 : tyOf t2 = some (k2, n2)) (truncate : Bool) :
    convertInstr e t1 t2 truncate s = petalNext e 3 (convertCycles t1 t2) ((convert t1 t2 k1 n1 k2 n2 truncate a).1 :: r)
      (petalFlagged e (convert t1 t2 k1 n1 k2 n2 truncate a).2 false s) := by
  simp only [convertInstr, h1, h2]
  exact runPetal_unaryFlag hr hst _

end

/-- Settles O10: both instructions push what `convert` gives, and each row of R161 is one case of it. -/
theorem petalConversions : Obligations.PetalConversions := by
  unfold Obligations.PetalConversions
  intro e t1 t2 k1 k2 n1 n2 a r s hr hst h1 h2
  obtain ⟨hpos, hle⟩ := bits_of_tyOf h2
  refine ⟨⟨_, _, congrArg _ (convertInstr_eq hr hst h1 h2 false), ?_, ?_, ?_, ?_⟩,
    ⟨_, _, congrArg _ (convertInstr_eq hr hst h1 h2 true), fun hk => ?_⟩⟩
  · rintro rfl
    rw [convert_self]
    exact ⟨rfl, rfl⟩
  · rintro ht hk rfl
    rw [convert_toBool ht hk]
    exact ⟨rfl, rfl⟩
  · intro ht hk1 hk2
    rw [convert_toInteger ht hk1 hk2]
    exact fitInt_fitted hk2 hpos hle _
  · intro ht hk1 hk2
    rw [convert_toBits ht hk1 hk2]
    exact ⟨quad_toNat ((Nat.mod_le ..).trans_lt a.isLt), rfl⟩
  · refine congrArg Host.Outcome.next ?_
    rw [convertInstr_eq hr hst h1 h2, convertInstr_eq hr hst h1 h2, convert_truncate hk]

end Sys2Proof.Machine
end

section
/-! SUPPORT. Bytes of the fabric memory read and written (00 R8). -/

namespace Sys2Proof.Machine

variable {s t : State} {a n : Nat} {bs : List Byte}

theorem State.bytes_eq_map (s : State) (a n : Nat) : s.bytes a n = (List.range n).map fun i => s.byte (a + i) := by
  induction n generalizing a with
  | zero => rfl
  | succ n ih =>
    rw [State.bytes, ih, List.range_succ_eq_map, List.map_cons, List.map_map]
    congr 1
    exact List.map_congr_left fun i _ => by
      simp only [Function.comp_apply, Nat.succ_eq_add_one, Nat.add_assoc, Nat.add_comm 1]

@[simp] theorem State.bytes_length (s : State) (a n : Nat) : (s.bytes a n).length = n := by
  rw [State.bytes_eq_map, List.length_map, List.length_range]

theorem State.bytes_congr (h : ∀ i, i < n → t.byte (a + i) = s.byte (a + i)) : t.bytes a n = s.bytes a n := by
  rw [State.bytes_eq_map, State.bytes_eq_map]
  exact List.map_congr_left fun i hi => h i (List.mem_range.mp hi)

theorem State.bytes_getD (s : State) (a : Nat) {i : Nat} (hi : i < n) (d : Byte) :
    (s.bytes a n).getD i d = s.byte (a + i) := by
  rw [State.bytes_eq_map, List.getD_eq_getElem _ _ (by simpa using hi), List.getElem_map, List.getElem_range]

/-- Bytes written are the bytes read. -/
theorem State.bytes_setBytes_same (s : State) (a : Nat) (hn : bs.length = n) : (s.setBytes a bs).bytes a n = bs := by
  subst hn
  refine List.ext_getElem (State.bytes_length ..) fun i h1 h2 => ?_
  rw [← List.getD_eq_getElem _ 0#8, State.bytes_getD _ _ h2, State.byte_setBytes_same _ _ _ _ h2, List.getD_eq_getElem]

theorem State.regs_setBytes (s : State) (a : Nat) (bs : List Byte) : (s.setBytes a bs).regs = s.regs := by
  rw [State.setBytes_frame]

theorem State.updTask_setBytes (s : State) (a : Nat) (bs : List Byte) (p : Nat) (f : TaskSt → TaskSt) :
    (s.setBytes a bs).updTask p f = (s.updTask p f).setBytes a bs := by
  induction bs generalizing s a with
  | nil => rfl
  | cons b r ih => exact ih (s.setByte a b) (a + 1)

@[simp] theorem State.byte_putEng (s : State) (e : Nat) (g : Engine) (a : Nat) : (s.putEng e g).byte a = s.byte a := rfl

@[simp] theorem State.bytes_putEng (s : State) (e : Nat) (g : Engine) (a n : Nat) : (s.putEng e g).bytes a n = s.bytes a n :=
  State.bytes_congr fun _ _ => rfl

@[simp] theorem State.tasks_putEng (s : State) (e : Nat) (g : Engine) : (s.putEng e g).prog.tasks = s.prog.tasks := rfl

@[simp] theorem petalFlagged_engines (e : Nat) (ovf divz : Bool) (s : State) :
    (petalFlagged e ovf divz s).prog.engines = s.prog.engines := rfl

/-- A number written in n bytes is written modulo 2^(8n). -/
theorem leBytes_mod (n v : Nat) : leBytes n (v % 2 ^ (8 * n)) = leBytes n v := by
  induction n generalizing v with
  | zero => rfl
  | succ n ih =>
    have hpow : 2 ^ (8 * (n + 1)) = 256 * 2 ^ (8 * n) := by
      rw [Nat.mul_succ, pow_add, Nat.mul_comm, show 2 ^ 8 = 256 from rfl]
    have hlow : BitVec.ofNat 8 (v % 2 ^ (8 * (n + 1))) = BitVec.ofNat 8 v :=
      BitVec.eq_of_toNat_eq (by simpa using Nat.mod_mod_of_dvd v (hpow ▸ Nat.dvd_mul_right 256 _))
    simp only [leBytes, hlow]
    rw [hpow, Nat.mod_mul_right_div_self, ih]

end Sys2Proof.Machine
end

section
/-! SUPPORT. Loads and stores of Petal (05 R163-R165). -/

namespace Sys2Proof.Machine

variable {e t off n len cyc cnt drop : Nat} {k : TyKind} {sp : Space} {s : State} {i v : Quad} {r : List Quad}

/-! ### The parts of a load and a store -/

@[simp] theorem spaceRange_past (s : State) (e len : Nat) (sp : Space) :
    spaceRange s e (s.past e len) sp = spaceRange s e (s.eng e) sp := by
  cases sp <;> rfl

theorem operandOk_of_tyOf (ht : tyOf t = some (k, n)) (hoff : off % n = 0) : operandOk t off = true := by
  simp only [operandOk, ht, hoff, beq_self_eq_true]

/-- The offset of an element below cnt (R164). -/
theorem element_of_lt (ht : tyOf t = some (k, n)) (h0 : 0 ≤ i.toInt) (hcnt : i.toInt < (cnt : Int)) :
    element t off cnt i = some (off + i.toNat * n) := by
  rw [element, if_neg (by omega), tySize, ht]

theorem stickFlags_past_setBytes (s : State) (e len : Nat) (ovf divz : Bool) (a : Nat) (bs : List Byte) :
    stickFlags ovf divz (s.past e len) (s.setBytes a bs) = (petalFlagged e ovf divz s).setBytes a bs := by
  have hpast : s.past e len = (s.setBytes a bs).past e len := by simp only [State.past, State.eng_setBytes]
  rw [hpast, stickFlags_past, petalFlagged, State.eng_setBytes, State.updTask_setBytes]
  rfl

/-- The bytes and the flag of a store, by the kind of its type (R163). -/
def storedBytes (k : TyKind) (n : Nat) (v : Quad) : List Byte :=
  if k = .bool then (if v = 0#64 then [0#8] else [1#8]) else leBytes n v.toNat

theorem leBytes_storeValue (ht : tyOf t = some (k, n)) (v : Quad) : leBytes n (storeValue k n v).1 = storedBytes k n v := by
  cases hk : decide (k = .bool) with
  | true =>
    obtain rfl := of_decide_eq_true hk
    have hn : n = 1 := by
      have hall : ∀ x ∈ tyOf t, x.1 = .bool → x.2 = 1 := by
        unfold tyOf
        split <;> simp
      exact hall _ ht rfl
    subst hn
    by_cases hv : v = 0#64
    · rw [hv]
      rfl
    · have hnat : v.toNat ≠ 0 := fun h => hv (BitVec.eq_of_toNat_eq h)
      simp only [storeValue, storedBytes, if_neg hv, if_neg hnat, if_true]
      rfl
  | false =>
    have hne := of_decide_eq_false hk
    rw [storedBytes, if_neg hne, ← leBytes_mod n v.toNat]
    cases k with
    | bool => exact absurd rfl hne
    | _ => rfl

theorem storedBytes_length (ht : tyOf t = some (k, n)) (v : Quad) : (storedBytes k n v).length = n := by
  rw [← leBytes_storeValue ht, leBytes_length]

/-- A load within its space (R163). -/
theorem loadAt_ok (ht : tyOf t = some (k, n)) (hlim : off + n ≤ (spaceRange s e (s.eng e) sp).2)
    (hfit : ((s.eng e).stack.drop drop).length < 16) :
    loadAt e t off drop sp (s.past e len) s = .ok ((s.past e len).setStack
      (canonical k n (leNat (s.bytes (spaceBank s e sp + (spaceRange s e (s.eng e) sp).1 + off) n)) ::
        (s.eng e).stack.drop drop)) s := by
  simp only [Engine.setStack, loadAt, ht, spaceRange_past, if_neg (Nat.not_lt.mpr hlim), State.past_stack,
    push, if_neg (Nat.not_le.mpr hfit)]

/-- The engine after a store: a write to the INST space enters the frame's writes (R165). -/
def Engine.stored (g : Engine) (sp : Space) (off : Nat) (bs : List Byte) : Engine :=
  if sp = .inst then noteWrite off bs g else g

section
variable (g : Engine) (sp : Space) (off : Nat) (bs : List Byte)

theorem Engine.stored_pc : (g.stored sp off bs).pc = g.pc := by
  by_cases h : sp = .inst <;> simp only [Engine.stored, h, noteWrite, if_true, if_false]

theorem Engine.stored_stack : (g.stored sp off bs).stack = g.stack := by
  by_cases h : sp = .inst <;> simp only [Engine.stored, h, noteWrite, if_true, if_false]

theorem Engine.stored_cycles : (g.stored sp off bs).cycles = g.cycles := by
  by_cases h : sp = .inst <;> simp only [Engine.stored, h, noteWrite, if_true, if_false]

theorem Engine.stored_writes : (g.stored sp off bs).writes = g.writes ++ if sp = .inst then [(off, bs)] else [] := by
  by_cases h : sp = .inst <;> simp only [Engine.stored, h, noteWrite, if_true, if_false, List.append_nil]

end

/-- A store within its space (R163, R165). -/
theorem storeAt_ok (ht : tyOf t = some (k, n)) (hlim : off + n ≤ (spaceRange s e (s.eng e) sp).2) :
    storeAt e t off drop sp v (s.past e len) s =
      .ok (((s.past e len).setStack ((s.eng e).stack.drop drop)).stored sp ((spaceRange s e (s.eng e) sp).1 + off)
          (storedBytes k n v))
        ((petalFlagged e (storeValue k n v).2 false s).setBytes (spaceBank s e sp + (spaceRange s e (s.eng e) sp).1 + off)
          (storedBytes k n v)) := by
  simp only [storeAt, ht, spaceRange_past, if_neg (Nat.not_lt.mpr hlim), leBytes_storeValue ht, stickFlags_past_setBytes,
    State.past_stack, Engine.setStack, Engine.stored]

/-- What a completed store leaves. -/
theorem storedAt_of_body (hr : petalReady e len s) (ht : tyOf t = some (k, n))
    (hlim : off + n ≤ (spaceRange s e (s.eng e) sp).2) {body : Engine → State → PRes}
    (hb : body (s.past e len) s = storeAt e t off drop sp v (s.past e len) s) :
    storedAt e len cyc k n sp ((spaceRange s e (s.eng e) sp).1 + off) v ((s.eng e).stack.drop drop) s
      (runPetal e len cyc body s) := by
  have hlen : (storedBytes k n v).length = n := storedBytes_length ht v
  rw [runPetal_ok hr (hb.trans (storeAt_ok ht hlim)), Nat.add_assoc]
  generalize (spaceRange s e (s.eng e) sp).1 + off = o
  refine ⟨?_, fun x hx => ?_, State.regs_setBytes .., ?_, ?_⟩
  · rw [State.bytes_putEng]
    exact State.bytes_setBytes_same _ _ hlen
  · rw [State.byte_putEng]
    exact State.byte_setBytes_other _ _ _ x (by omega)
  · rw [State.tasks_putEng, State.prog_setBytes]
    cases k <;> rfl
  · rw [State.eng_putEng_same _ (by simpa using State.eng_lt_of_running hr.2.1)]
    exact ⟨Engine.stored_pc .., Engine.stored_stack .., congrArg (· + cyc) (Engine.stored_cycles ..),
      Engine.stored_writes ..⟩

/-! ### The instructions -/

theorem loadInstr_eq (hr : petalReady e 4 s) (ht : tyOf t = some (k, n)) (hoff : off % n = 0)
    (hfit : (s.eng e).stack.length < 16) (hlim : off + n ≤ (spaceRange s e (s.eng e) sp).2) :
    loadInstr e t off sp s = petalNext e 4 2 (canonical k n (leNat (s.bytes
      (spaceBank s e sp + (spaceRange s e (s.eng e) sp).1 + off) n)) :: (s.eng e).stack) s := by
  refine runPetal_stack hr rfl ?_
  simp only [operandOk_of_tyOf ht hoff, Bool.not_true, Bool.false_eq_true, if_false, State.past_stack,
    Nat.not_le.mpr hfit]
  exact loadAt_ok (drop := 0) ht hlim hfit

theorem loadElem_eq (hr : petalReady e 6 s) (ht : tyOf t = some (k, n)) (hoff : off % n = 0)
    (hst : (s.eng e).stack = i :: r) (hfit : r.length < 16) (h0 : 0 ≤ i.toInt) (hcnt : i.toInt < (cnt : Int))
    (hlim : off + i.toNat * n + n ≤ (spaceRange s e (s.eng e) sp).2) :
    loadElem e t off cnt sp s = petalNext e 6 4 (canonical k n (leNat (s.bytes
      (spaceBank s e sp + (spaceRange s e (s.eng e) sp).1 + (off + i.toNat * n)) n)) :: r) s := by
  have hpos : (cnt == 0) = false := beq_false_of_ne (by omega)
  refine runPetal_stack hr rfl ?_
  simp only [operandOk_of_tyOf ht hoff, hpos, Bool.not_true, Bool.or_self, Bool.false_eq_true, if_false, State.past_stack,
    hst, element_of_lt ht h0 hcnt]
  rw [loadAt_ok ht hlim (by simpa [hst] using hfit), hst]
  rfl

/-- A store to an output image is not of an error task (R173). -/
theorem not_errOut (hout : sp = .out → (s.eng e).err = false) : ((s.eng e).err && sp == .out) = false := by
  by_cases hsp : sp = .out
  · rw [hout hsp, Bool.false_and]
  · rw [beq_false_of_ne hsp, Bool.and_false]

theorem storeInstr_storedAt (hr : petalReady e 4 s) (ht : tyOf t = some (k, n)) (hoff : off % n = 0)
    (hst : (s.eng e).stack = v :: r) (hout : sp = .out → (s.eng e).err = false)
    (hlim : off + n ≤ (spaceRange s e (s.eng e) sp).2) :
    storedAt e 4 2 k n sp ((spaceRange s e (s.eng e) sp).1 + off) v r s (storeInstr e t off sp s) := by
  have hr' : r = (s.eng e).stack.drop 1 := by rw [hst]; rfl
  rw [hr']
  refine storedAt_of_body hr ht hlim ?_
  simp only [operandOk_of_tyOf ht hoff, State.past_err, not_errOut hout, Bool.not_true, Bool.or_self, Bool.false_eq_true,
    if_false, State.past_stack, hst]

theorem storeElem_storedAt (hr : petalReady e 6 s) (ht : tyOf t = some (k, n)) (hoff : off % n = 0)
    (hst : (s.eng e).stack = i :: v :: r) (hout : sp = .out → (s.eng e).err = false) (h0 : 0 ≤ i.toInt)
    (hcnt : i.toInt < (cnt : Int)) (hlim : off + i.toNat * n + n ≤ (spaceRange s e (s.eng e) sp).2) :
    storedAt e 6 4 k n sp ((spaceRange s e (s.eng e) sp).1 + (off + i.toNat * n)) v r s (storeElem e t off cnt sp s) := by
  have hpos : (cnt == 0) = false := beq_false_of_ne (by omega)
  have hr' : r = (s.eng e).stack.drop 2 := by rw [hst]; rfl
  rw [hr']
  refine storedAt_of_body hr ht hlim ?_
  simp only [operandOk_of_tyOf ht hoff, State.past_err, not_errOut hout, hpos, Bool.not_true, Bool.or_self,
    Bool.false_eq_true, if_false, State.past_stack, hst, element_of_lt ht h0 hcnt]

/-- Settles O11: the instructions of a space are one load, one indexed load, one store and one indexed store. -/
theorem petalLoadsAndStores : Obligations.PetalLoadsAndStores := by
  unfold Obligations.PetalLoadsAndStores
  intro e t off k n s _ ht hoff
  simp only [List.mem_cons, List.not_mem_nil, or_false, Prod.mk.injEq]
  refine ⟨?_, ?_, ?_, ?_⟩
  · rintro c sp (⟨rfl, rfl⟩ | ⟨rfl, rfl⟩ | ⟨rfl, rfl⟩ | ⟨rfl, rfl⟩) hr hfit hlim <;>
      exact congrArg _ (loadInstr_eq hr ht hoff hfit hlim)
  · rintro cnt c sp (⟨rfl, rfl⟩ | ⟨rfl, rfl⟩ | ⟨rfl, rfl⟩ | ⟨rfl, rfl⟩) i r hr hst hfit h0 hcnt hlim <;>
      exact congrArg _ (loadElem_eq hr ht hoff hst hfit h0 hcnt hlim)
  · rintro c sp (⟨rfl, rfl⟩ | ⟨rfl, rfl⟩ | ⟨rfl, rfl⟩) v r hr hst hout hlim <;>
      exact ⟨_, rfl, storeInstr_storedAt hr ht hoff hst hout hlim⟩
  · rintro cnt c sp (⟨rfl, rfl⟩ | ⟨rfl, rfl⟩ | ⟨rfl, rfl⟩) i v r hr hst hout h0 hcnt hlim <;>
      exact ⟨_, rfl, storeElem_storedAt hr ht hoff hst hout h0 hcnt hlim⟩

end Sys2Proof.Machine
end

section
/-! SUPPORT. COPY (05 R164, R165). -/

namespace Sys2Proof.Machine

variable {e off len : Nat} {s : State} {g : Engine} {bs : List Byte}

/-! ### The pieces of a write to the INST space -/

/-- The pieces of a copy, put together, are its bytes. -/
theorem copyPieces_flatMap {fuel : Nat} (h : bs.length ≤ fuel) : (copyPieces off fuel bs).flatMap (·.2) = bs := by
  induction fuel generalizing off bs with
  | zero =>
    rw [List.eq_nil_of_length_eq_zero (Nat.le_zero.mp h)]
    rfl
  | succ fuel ih =>
    rw [copyPieces]
    split
    next hnil => rw [List.isEmpty_iff.mp hnil, List.flatMap_nil]
    next => rw [List.flatMap_cons, ih (by rw [List.length_drop]; omega), List.take_append_drop]

/-- A piece is of 1 to 8 bytes. -/
theorem length_of_mem_copyPieces {fuel : Nat} {p : Nat × List Byte} (hp : p ∈ copyPieces off fuel bs) :
    1 ≤ p.2.length ∧ p.2.length ≤ 8 := by
  induction fuel generalizing off bs with
  | zero => exact absurd hp List.not_mem_nil
  | succ fuel ih =>
    rw [copyPieces] at hp
    split at hp
    next => exact absurd hp List.not_mem_nil
    next hne =>
      rcases List.mem_cons.mp hp with rfl | hp
      · have hpos : 1 ≤ bs.length := List.length_pos_iff.mpr fun h => hne (List.isEmpty_iff.mpr h)
        rw [List.length_take]
        omega
      · exact ih hp

/-- The engine after its writes are entered one by one. -/
def Engine.noted (g : Engine) (l : List (Nat × List Byte)) : Engine := l.foldl (fun g p => noteWrite p.1 p.2 g) g

theorem Engine.noted_facts (g : Engine) (l : List (Nat × List Byte)) :
    (g.noted l).pc = g.pc ∧ (g.noted l).stack = g.stack ∧ (g.noted l).cycles = g.cycles ∧
      (g.noted l).writes = g.writes ++ l := by
  induction l generalizing g with
  | nil => exact ⟨rfl, rfl, rfl, (List.append_nil _).symm⟩
  | cons p l ih =>
    obtain ⟨hpc, hstack, hcycles, hwrites⟩ := ih (noteWrite p.1 p.2 g)
    refine ⟨hpc, hstack, hcycles, hwrites.trans ?_⟩
    simp only [noteWrite, List.append_assoc, List.singleton_append]

/-! ### The instruction -/

/-- The engine after a copy to an offset of a space. -/
def Engine.copied (g : Engine) (b : Space) (off len : Nat) (bs : List Byte) : Engine :=
  if b = .inst then g.noted (copyPieces off len bs) else g

theorem Engine.copied_facts (g : Engine) (b : Space) (off len : Nat) (bs : List Byte) :
    (g.copied b off len bs).pc = g.pc ∧ (g.copied b off len bs).stack = g.stack ∧
      (g.copied b off len bs).cycles = g.cycles ∧
      (g.copied b off len bs).writes = g.writes ++ if b = .inst then copyPieces off len bs else [] := by
  by_cases h : b = .inst
  · simp only [Engine.copied, if_pos h]
    exact g.noted_facts _
  · simp only [Engine.copied, if_neg h, List.append_nil, and_self]

theorem copySpaces_ok {spaces : Nat} {a b : Space} {err : Bool} (ha : spaceOf (spaces % 16) = some a)
    (hb : spaceOf (spaces / 16 % 16) = some b) (hinp : b ≠ .inp) (hconst : b ≠ .const) (hout : err = true → b ≠ .out) :
    copySpaces spaces err = some (a, b) := by
  simp only [copySpaces, ha, hb]
  exact if_neg (by rintro (h | h | ⟨he, h⟩); exacts [hinp h, hconst h, hout he h])

theorem exec_pCopy {spaces : Nat} {a b : Space} {d o : Quad} {r : List Quad} (hr : petalReady e 4 s)
    (hspaces : copySpaces spaces (s.eng e).err = some (a, b)) (hpos : 1 ≤ len) (hmax : len ≤ 4096)
    (hst : (s.eng e).stack = d :: o :: r) (ho : o.toNat + len ≤ (spaceRange s e (s.eng e) a).2)
    (hd : d.toNat + len ≤ (spaceRange s e (s.eng e) b).2) {bs : List Byte}
    (hbs : s.bytes (spaceBank s e a + (spaceRange s e (s.eng e) a).1 + o.toNat) len = bs) :
    exec (.pCopy e spaces len) s = .next ((s.setBytes (spaceBank s e b + (spaceRange s e (s.eng e) b).1 + d.toNat) bs).putEng
      e ((((s.past e 4).setStack r).copied b ((spaceRange s e (s.eng e) b).1 + d.toNat) len bs).spent
        (4 + (len + 15) / 16))) := by
  refine congrArg _ (runPetal_ok hr ?_)
  subst hbs
  have hlen : ¬(len = 0 ∨ 4096 < len) := by omega
  have hranges : ¬((spaceRange s e (s.eng e) a).2 < o.toNat + len ∨ (spaceRange s e (s.eng e) b).2 < d.toNat + len) := by
    omega
  simp only [Nat.add_assoc (spaceBank s e b), State.past_err, hspaces, if_neg hlen, State.past_stack, hst, spaceRange_past,
    if_neg hranges]
  rfl

/-- Settles O12: the bytes written are those that stood at the source, entered in pieces in the INST space. -/
theorem petalCopy : Obligations.PetalCopy := by
  unfold Obligations.PetalCopy
  intro e spaces len a b d o r s hr ha hb hinp hconst hout hpos hmax hst ho hd src dst
  have hspaces := copySpaces_ok ha hb hinp hconst hout
  obtain ⟨hpc, hstack, hcycles, hwrites⟩ :=
    ((s.past e 4).setStack r).copied_facts b ((spaceRange s e (s.eng e) b).1 + d.toNat) len (s.bytes src len)
  refine ⟨_, exec_pCopy hr hspaces hpos hmax hst ho hd rfl, ?_⟩
  beta_reduce
  rw [State.eng_putEng_same _ (by simpa using State.eng_lt_of_running hr.2.1)]
  refine ⟨hpc, hstack, congrArg (· + _) hcycles, fun j hj => ?_, fun x hx => ?_, State.regs_setBytes .., ?_, fun hne => ?_,
    fun hinst => ⟨copyPieces ((spaceRange s e (s.eng e) b).1 + d.toNat) len (s.bytes src len), ?_,
      fun p hp => length_of_mem_copyPieces hp, ?_⟩⟩
  · rw [State.byte_putEng, State.byte_setBytes_same _ _ _ _ (by rwa [State.bytes_length]), State.bytes_getD _ _ hj]
  · rw [State.byte_putEng]
    exact State.byte_setBytes_other _ _ _ x (by rwa [State.bytes_length])
  · rw [State.tasks_putEng, State.prog_setBytes]
  · rw [if_neg hne, List.append_nil] at hwrites
    exact hwrites
  · rw [if_pos hinst] at hwrites
    exact hwrites
  · rw [copyPieces_flatMap (State.bytes_length ..).le, State.bytes_eq_map]

end Sys2Proof.Machine
end

section
/-! SUPPORT. Branches, loops and calls of Petal (05 R166, R168). -/

namespace Sys2Proof.Machine

variable {e len cyc : Nat} {s : State} {r : List Quad}

/-! ### Lists of bytes -/

@[simp] theorem fitTo_length (n : Nat) (bs : List Byte) : (fitTo n bs).length = n := by
  rw [fitTo, List.length_take, List.length_append, zeros_length]
  omega

/-- The bytes of a list fitted to a size, 0 behind its end. -/
theorem fitTo_getD {n i : Nat} (hi : i < n) (bs : List Byte) : (fitTo n bs).getD i 0#8 = bs.getD i 0#8 := by
  simp only [fitTo, zeros, List.getD_eq_getElem?_getD, List.getElem?_take_of_lt hi, List.getElem?_append]
  split
  · rfl
  next h =>
    rw [List.getElem?_replicate, List.getElem?_eq_none (Nat.not_lt.mp h)]
    split <;> rfl

/-- The bytes of an entry in a concatenation of entries of one size. -/
theorem getD_flatMap {α : Type} {f : α → List Byte} {m i j : Nat} {l : List α} {x : α} (hf : ∀ x, (f x).length = m)
    (hx : l[i]? = some x) (hj : j < m) : (l.flatMap f).getD (m * i + j) 0#8 = (f x).getD j 0#8 := by
  induction l generalizing i with
  | nil => exact absurd hx (by simp)
  | cons y l ih =>
    rw [List.flatMap_cons]
    cases i with
    | zero =>
      obtain rfl : y = x := by simpa using hx
      rw [Nat.mul_zero, Nat.zero_add, List.getD_append _ _ _ _ (by rwa [hf])]
    | succ i =>
      rw [List.getD_append_right _ _ _ _ (by rw [hf, Nat.mul_succ]; omega), hf, ← ih (by simpa using hx)]
      congr 1
      rw [Nat.mul_succ]
      omega

/-! ### Branches and loops -/

/-- An engine with its place, its operands and its loop levels replaced. -/
def Engine.goTo (g : Engine) (pc : Nat) (st : List Quad) (ls : List LoopLevel) : Engine :=
  { g with pc := pc, stack := st, loops := ls }

/-- The state in which engine e alone has gone to another place. -/
def State.wentTo (s : State) (e cyc pc : Nat) (st : List Quad) (ls : List LoopLevel) : State :=
  s.putEng e (keepCells { s.eng e with
    pc := pc, stack := st, loops := ls, cycles := (s.eng e).cycles + cyc, used := (s.eng e).used + cyc })

/-- The loop levels of engine e that a transfer to a target does not leave (R166). -/
def State.loopsPast (s : State) (e target : Nat) : List LoopLevel :=
  (s.eng e).loops.dropWhile (fun l => decide (l.stop ≤ target))

theorem runPetal_goTo (hr : petalReady e len s) {body : Engine → State → PRes} {pc : Nat} {st : List Quad}
    {ls : List LoopLevel} (hb : body (s.past e len) s = .ok ((s.past e len).goTo pc st ls) s) :
    runPetal e len cyc body s = s.wentTo e cyc pc st ls :=
  runPetal_ok hr hb

theorem exec_pBr (hr : petalReady e 3 s) (d : Nat) : exec (.pBr e d) s =
    .next (s.wentTo e 2 ((s.eng e).pc + 3 + d) (s.eng e).stack (s.loopsPast e ((s.eng e).pc + 3 + d))) :=
  congrArg _ (runPetal_goTo hr (by rfl))

theorem exec_pBrl (hr : petalReady e 5 s) (lo hi : Nat) : exec (.pBrl e lo hi) s =
    .next (s.wentTo e 2 ((s.eng e).pc + 5 + (hi * 65536 + lo)) (s.eng e).stack
      (s.loopsPast e ((s.eng e).pc + 5 + (hi * 65536 + lo)))) := by
  refine congrArg _ (runPetal_goTo hr ?_)
  rw [← Nat.add_assoc]
  rfl

section
variable {c : Quad} {d : Nat} {cond : Quad → Bool}

/-- A branch that pops its condition goes forward where it holds. -/
theorem runPetal_branchIf_true (hr : petalReady e 3 s) (hst : (s.eng e).stack = c :: r) (hc : cond c = true) :
    runPetal e 3 2 (branchIf d cond) s = s.wentTo e 2 ((s.eng e).pc + 3 + d) r (s.loopsPast e ((s.eng e).pc + 3 + d)) := by
  refine runPetal_goTo hr ?_
  simp only [branchIf, State.past_stack, hst, hc, if_true]
  rfl

/-- It goes on where it does not hold. -/
theorem runPetal_branchIf_false (hr : petalReady e 3 s) (hst : (s.eng e).stack = c :: r) (hc : cond c = false) :
    runPetal e 3 2 (branchIf d cond) s = s.wentTo e 2 ((s.eng e).pc + 3) r (s.eng e).loops := by
  refine runPetal_goTo hr ?_
  simp only [branchIf, State.past_stack, hst, hc, Bool.false_eq_true, if_false]
  rfl

theorem exec_pBrz (hr : petalReady e 3 s) (hst : (s.eng e).stack = c :: r) (d : Nat) : exec (.pBrz e d) s =
    if c = 0#64 then .next (s.wentTo e 2 ((s.eng e).pc + 3 + d) r (s.loopsPast e ((s.eng e).pc + 3 + d)))
    else .next (s.wentTo e 2 ((s.eng e).pc + 3) r (s.eng e).loops) := by
  split
  next hc => exact congrArg _ (runPetal_branchIf_true (cond := (· == 0#64)) hr hst (beq_iff_eq.mpr hc))
  next hc => exact congrArg _ (runPetal_branchIf_false (cond := (· == 0#64)) hr hst (beq_false_of_ne hc))

theorem exec_pBrnz (hr : petalReady e 3 s) (hst : (s.eng e).stack = c :: r) (d : Nat) : exec (.pBrnz e d) s =
    if c = 0#64 then .next (s.wentTo e 2 ((s.eng e).pc + 3) r (s.eng e).loops)
    else .next (s.wentTo e 2 ((s.eng e).pc + 3 + d) r (s.loopsPast e ((s.eng e).pc + 3 + d))) := by
  split
  next hc => exact congrArg _ (runPetal_branchIf_false (cond := (· != 0#64)) hr hst (bne_eq_false_iff_eq.mpr hc))
  next hc => exact congrArg _ (runPetal_branchIf_true (cond := (· != 0#64)) hr hst (bne_iff_ne.mpr hc))

/-- LOOP opens a level, or skips its body for a count of 0 (R166). -/
theorem exec_pLoop {max : Nat} (hr : petalReady e 5 s) (hmax : 1 ≤ max) (hst : (s.eng e).stack = c :: r)
    (hc : c.toNat ≤ max) (hloops : (s.eng e).loops.length < 4) : exec (.pLoop e max len) s =
    if c = 0#64 then .next (s.wentTo e 3 ((s.eng e).pc + 5 + len) r (s.eng e).loops)
    else .next (s.wentTo e 3 ((s.eng e).pc + 5) r
      (⟨c.toNat, 0, (s.eng e).pc + 5, (s.eng e).pc + 5 + len⟩ :: (s.eng e).loops)) := by
  have hne : max ≠ 0 := by omega
  split
  next h0 =>
    refine congrArg _ (runPetal_goTo hr ?_)
    simp only [if_neg hne, State.past_stack, hst, if_neg (Nat.not_lt.mpr hc), if_pos h0]
    rfl
  next h0 =>
    refine congrArg _ (runPetal_goTo hr ?_)
    simp only [if_neg hne, State.past_stack, hst, if_neg (Nat.not_lt.mpr hc), if_neg h0,
      if_neg (show ¬4 ≤ (s.past e 5).loops.length from Nat.not_le.mpr hloops)]
    rfl

/-- ENDLOOP returns to the body or closes the level (R166). -/
theorem exec_pEndloop {l : LoopLevel} {ls : List LoopLevel} (hr : petalReady e 1 s) (hl : (s.eng e).loops = l :: ls) :
    exec (.pEndloop e) s =
    if l.index + 1 < l.count then .next (s.wentTo e 1 l.body (s.eng e).stack ({ l with index := l.index + 1 } :: ls))
    else .next (s.wentTo e 1 ((s.eng e).pc + 1) (s.eng e).stack ls) := by
  split
  next h =>
    refine congrArg _ (runPetal_goTo hr ?_)
    simp only [State.past_loops, hl, if_pos h]
    rfl
  next h =>
    refine congrArg _ (runPetal_goTo hr ?_)
    simp only [State.past_loops, hl, if_neg h]
    rfl

theorem exec_pLidx {n : Nat} {l : LoopLevel} (hr : petalReady e 2 s) (hl : (s.eng e).loops[n]? = some l)
    (hfit : (s.eng e).stack.length < 16) : exec (.pLidx e n) s =
    .next (s.wentTo e 1 ((s.eng e).pc + 2) (BitVec.ofNat 64 l.index :: (s.eng e).stack) (s.eng e).loops) := by
  refine congrArg _ (runPetal_goTo hr ?_)
  simp only [State.past_loops, hl, push, if_neg (show ¬16 ≤ (s.past e 2).stack.length from Nat.not_le.mpr hfit)]
  rfl

end

/-! ### Calls -/

/-- The engine inside a callee. -/
def Engine.entered (g : Engine) (ty : TypeRow) (ib instLim : Nat) : Engine := { g with
  calls := ⟨g.pc, g.ib, g.lb, g.instLim, g.locLim, g.loops, g.lo, g.hi⟩ :: g.calls, ib := ib, instLim := instLim
  lb := g.lb + g.locLim, locLim := ty.localSize, loops := [], pc := ty.codeOff, lo := ty.codeOff
  hi := ty.codeOff + ty.codeLen }

/-- The engine back at a saved level, `r` below it. -/
def Engine.returned (g : Engine) (l : CallLevel) (r : List CallLevel) : Engine := { g with
  pc := l.ret, ib := l.ib, lb := l.lb, instLim := l.instLim, locLim := l.locLim, loops := l.loops, calls := r
  lo := l.lo, hi := l.hi }

theorem enterCallee_ok {g : Engine} {ty : TypeRow} {ib instLim : Nat} {args : List Byte} (hcalls : g.calls.length < 16)
    (hfits : frameFits s e g ty.localSize = true) :
    enterCallee e ty ib instLim args g s =
      .ok (g.entered ty ib instLim) (s.setBytes (bankBase s e + (g.lb + g.locLim)) (fitTo ty.localSize args)) := by
  simp only [enterCallee, if_neg (Nat.not_le.mpr hcalls), hfits, Bool.not_true, Bool.false_eq_true, if_false]
  rfl

theorem exec_pRet {l : CallLevel} {ls : List CallLevel} (hr : petalReady e 1 s) (hl : (s.eng e).calls = l :: ls) :
    exec (.pRet e) s = .next (s.putEng e (((s.past e 1).returned l ls).spent 6)) := by
  refine congrArg _ (runPetal_ok hr ?_)
  simp only [State.past_calls, hl]
  rfl

theorem callCycles_eq {idx kind : Nat} {ty : TypeRow} (h : calleeOf s e idx kind = some ty) :
    callCycles s e idx kind = 12 + (if kind = 1 then ty.args else 0) + (ty.localSize + 63) / 64 := by
  rw [callCycles, h]

theorem exec_pCallfb {off idx : Nat} {ty : TypeRow} (hr : petalReady e 5 s) (hty : calleeOf s e idx 0 = some ty)
    (hinst : off + ty.instSize ≤ (s.eng e).instLim) (hcalls : (s.eng e).calls.length < 16)
    (hfits : frameFits s e (s.eng e) ty.localSize = true) :
    exec (.pCallfb e off idx) s = .next ((s.setBytes (bankBase s e + ((s.eng e).lb + (s.eng e).locLim))
      (fitTo ty.localSize [])).putEng e (((s.past e 5).entered ty ((s.eng e).ib + off) ty.instSize).spent
        (12 + (ty.localSize + 63) / 64))) := by
  have hcyc : callCycles s e idx 0 = 12 + (ty.localSize + 63) / 64 := callCycles_eq hty
  rw [← hcyc]
  refine congrArg _ (runPetal_ok hr ?_)
  simp only [hty, if_neg (show ¬(s.past e 5).instLim < off + ty.instSize from Nat.not_lt.mpr hinst)]
  exact enterCallee_ok hcalls hfits

/-- The arguments of a function as its first local slots hold them: the deepest first (R168). -/
def argBytes (l : List Quad) : List Byte := l.flatMap fun q => leBytes 8 q.toNat

theorem argBytes_length (l : List Quad) : (argBytes l).length = 8 * l.length := by
  simp only [argBytes, List.length_flatMap, leBytes_length, List.map_const', List.sum_replicate, smul_eq_mul, Nat.mul_comm]

theorem exec_pCallfn {idx : Nat} {ty : TypeRow} (hr : petalReady e 3 s) (hty : calleeOf s e idx 1 = some ty)
    (hargs : ty.args ≤ (s.eng e).stack.length) (hcalls : (s.eng e).calls.length < 16)
    (hfits : frameFits s e (s.eng e) ty.localSize = true) :
    exec (.pCallfn e idx) s = .next ((s.setBytes (bankBase s e + ((s.eng e).lb + (s.eng e).locLim))
      (fitTo ty.localSize (argBytes ((s.eng e).stack.take ty.args).reverse))).putEng e
        ((((s.past e 3).setStack ((s.eng e).stack.drop ty.args)).entered ty (s.eng e).ib 0).spent
          (12 + ty.args + (ty.localSize + 63) / 64))) := by
  have hcyc : callCycles s e idx 1 = 12 + ty.args + (ty.localSize + 63) / 64 := callCycles_eq hty
  rw [← hcyc]
  refine congrArg _ (runPetal_ok hr ?_)
  simp only [hty, if_neg (show ¬(s.past e 3).stack.length < ty.args from Nat.not_lt.mpr hargs)]
  exact enterCallee_ok (g := (s.past e 3).setStack ((s.eng e).stack.drop ty.args)) hcalls hfits

section
variable {t : State} {a size : Nat} {args : List Byte}

/-- A byte of a cleared local frame. -/
theorem byte_frame {j : Nat} (hj : j < size) : (s.setBytes a (fitTo size args)).byte (a + j) = args.getD j 0#8 := by
  rw [State.byte_setBytes_same _ _ _ _ (by rwa [fitTo_length]), fitTo_getD hj]

theorem byte_outside_frame {x : Nat} (hx : x < a ∨ a + size ≤ x) : (s.setBytes a (fitTo size args)).byte x = s.byte x :=
  State.byte_setBytes_other _ _ _ _ (by rwa [fitTo_length])

/-- An argument in its slot. -/
theorem bytes_slot {l : List Quad} {i : Nat} {q : Quad} (hq : l[i]? = some q) (hfit : 8 * l.length ≤ size) :
    (s.setBytes a (fitTo size (argBytes l))).bytes (a + 8 * i) 8 = leBytes 8 q.toNat := by
  have hi : i < l.length := (List.getElem?_eq_some_iff.mp hq).1
  refine List.ext_getElem (by simp) fun j h1 h2 => ?_
  have hj : j < 8 := by simpa using h1
  rw [← List.getD_eq_getElem _ 0#8, ← List.getD_eq_getElem _ 0#8, State.bytes_getD _ _ hj, Nat.add_assoc,
    byte_frame (by omega), argBytes, getD_flatMap (fun q => leBytes_length 8 q.toNat) hq hj]

end

/-- Settles O13: each transfer of control, by the engine it leaves and the frame it writes. -/
theorem petalBranchesLoopsAndCalls : Obligations.PetalBranchesLoopsAndCalls := by
  unfold Obligations.PetalBranchesLoopsAndCalls
  intro e s g next left
  refine ⟨fun d hr => exec_pBr hr d, fun lo hi hr => exec_pBrl hr lo hi,
    fun d c r hr hst => ⟨exec_pBrz hr hst d, exec_pBrnz hr hst d⟩,
    fun max len c r hr hmax hst hc hloops => exec_pLoop hr hmax hst hc hloops,
    fun l ls hr hl => exec_pEndloop hr hl, fun n l hr hl hfit => exec_pLidx hr hl hfit,
    fun off idx ty hr hty hinst hcalls hfits => ?_, fun idx ty hr hty hargs hcalls hfits hslots => ?_,
    fun l r hr hl => exec_pRet hr hl⟩
  · refine ⟨_, exec_pCallfb hr hty hinst hcalls hfits, ?_⟩
    beta_reduce
    rw [State.eng_putEng_same _ (by simpa using State.eng_lt_of_running hr.2.1)]
    exact ⟨rfl, rfl, rfl, rfl, rfl, rfl, rfl, rfl, rfl, fun j hj => byte_frame hj, fun x hx => byte_outside_frame hx,
      State.regs_setBytes ..⟩
  · refine ⟨_, exec_pCallfn hr hty hargs hcalls hfits, ?_⟩
    have hlen : ((s.eng e).stack.take ty.args).reverse.length = ty.args := by
      rw [List.length_reverse, List.length_take_of_le hargs]
    beta_reduce
    rw [State.eng_putEng_same _ (by simpa using State.eng_lt_of_running hr.2.1)]
    refine ⟨rfl, rfl, rfl, rfl, rfl, rfl, rfl, rfl, rfl, fun i q hq => ?_, fun j hge hj => ?_,
      fun x hx => byte_outside_frame hx, State.regs_setBytes ..⟩
    · rw [State.bytes_putEng]
      exact bytes_slot hq (by rwa [hlen])
    · rw [State.byte_putEng, byte_frame hj, List.getD_eq_default _ _ (by rwa [argBytes_length, hlen])]

end Sys2Proof.Machine
end

section
/-! SUPPORT. What entering FAILED leaves (11 R341-R343, 13 R395, R407): memory, the engines, the tasks and the recorded
fault. `State.FaultKept own s t` says so of a state `t` that comes from `s`, and where `own`, of ROLE, PAIR_STATUS and the
record of the pair too; one lemma per function of the model gives it, and its proof follows the function's definition. -/

namespace Sys2Proof.Machine

/-- The registers of ROLE, PAIR_STATUS and LCK_FAULT. -/
def faultRegs : List Nat := [0x10, 0x80800, 0x90014]

/-- Neither the flag nor its counter lies in those registers. -/
def Ev.offFault (e : Ev) : Bool := !faultRegs.contains e.flag.addr && e.cnt.all (fun c => !faultRegs.contains c.addr)

/-- `t` comes from `s` without a write to memory, the engines, the tasks or LCK_FAULT, nor, where `own`, to ROLE,
PAIR_STATUS or the record of the pair. -/
structure State.FaultKept (own : Bool) (s t : State) : Prop where
  mem : t.mem = s.mem
  engines : t.prog.engines = s.prog.engines
  tasks : t.prog.tasks = s.prog.tasks
  lck : t.reg 0x90014 = s.reg 0x90014
  pair : own = true → t.pair = s.pair ∧ t.reg 0x10 = s.reg 0x10 ∧ t.reg 0x80800 = s.reg 0x80800

namespace State.FaultKept

variable {own : Bool} {s t u : State}

protected theorem refl (s : State) : s.FaultKept own s := ⟨rfl, rfl, rfl, rfl, fun _ => ⟨rfl, rfl, rfl⟩⟩

protected theorem trans (h : s.FaultKept own t) (h' : t.FaultKept own u) : s.FaultKept own u where
  mem := h'.mem.trans h.mem
  engines := h'.engines.trans h.engines
  tasks := h'.tasks.trans h.tasks
  lck := h'.lck.trans h.lck
  pair ho :=
    let ⟨hpair, hrole, hstatus⟩ := h.pair ho
    let ⟨hpair', hrole', hstatus'⟩ := h'.pair ho
    ⟨hpair'.trans hpair, hrole'.trans hrole, hstatus'.trans hstatus⟩

protected theorem ite {c : Prop} [Decidable c] (ht : s.FaultKept own t) (hu : s.FaultKept own u) :
    s.FaultKept own (if c then t else u) := by
  split <;> assumption

protected theorem foldl {α : Type} {f : State → α → State} {l : List α} (h : s.FaultKept own t)
    (hf : ∀ t, ∀ x ∈ l, s.FaultKept own t → s.FaultKept own (f t x)) : s.FaultKept own (l.foldl f t) := by
  induction l generalizing t with
  | nil => exact h
  | cons x r ih => exact ih (hf t x (by simp) h) fun t y hy => hf t y (by simp [hy])

protected theorem upd (h : s.FaultKept own t) {mono freeCtr outbox time mbx hhk nvs memi gate fio can cfg ast lsp net sec
    pwr bkd pending} :
    s.FaultKept own (State.mk t.regs t.mem mono freeCtr outbox time mbx t.pair hhk nvs memi gate fio can cfg ast lsp net
      t.prog sec pwr bkd pending) :=
  ⟨h.mem, h.engines, h.tasks, h.lck, h.pair⟩

protected theorem updPair (h : s.FaultKept false t) {pair} : s.FaultKept false { t with pair := pair } :=
  ⟨h.mem, h.engines, h.tasks, h.lck, nofun⟩

protected theorem setReg (h : s.FaultKept own t) {a : Nat} {w : Word} (ha : a ∉ faultRegs) :
    s.FaultKept own (t.setReg a w) := by
  simp only [faultRegs, List.mem_cons, List.not_mem_nil, or_false, not_or] at ha
  have hkeep {b : Nat} (hb : a ≠ b) : (t.setReg a w).reg b = t.reg b := State.reg_setReg_other t a b w hb.symm
  exact ⟨h.mem, h.engines, h.tasks, (hkeep ha.2.2).trans h.lck, fun ho =>
    let ⟨hpair, hrole, hstatus⟩ := h.pair ho
    ⟨hpair, (hkeep ha.1).trans hrole, (hkeep ha.2.1).trans hstatus⟩⟩

protected theorem set (h : s.FaultKept own t) {f : Fld} {v : Nat} (hf : f.addr ∉ faultRegs) : s.FaultKept own (t.set f v) :=
  h.setReg hf

protected theorem setBit (h : s.FaultKept own t) {f : Fld} {b : Bool} (hf : f.addr ∉ faultRegs) :
    s.FaultKept own (t.setBit f b) := h.set hf

/-- A write to a register beside LCK_FAULT, where the ownership may change. -/
protected theorem setOwn (h : s.FaultKept false t) {f : Fld} {v : Nat} (hf : f.addr ≠ 0x90014) :
    s.FaultKept false (t.set f v) :=
  ⟨h.mem, h.engines, h.tasks, (State.reg_set_other t f v _ hf.symm).trans h.lck, nofun⟩

/-- A write to a field of an indexed block that ends before PAIR_STATUS. -/
protected theorem setBelow (h : s.FaultKept own t) {a k hi lo v : Nat} (hk : a + k < 0x80800) (ha : 0x10 < a := by decide) :
    s.FaultKept own (t.set ⟨a + k, hi, lo⟩ v) :=
  h.set (by simp only [faultRegs, List.mem_cons, List.not_mem_nil, or_false]; omega)

/-- A write to a field of an indexed block between PAIR_STATUS and LCK_FAULT. -/
protected theorem setBetween (h : s.FaultKept own t) {a k hi lo v : Nat} (hk : a + k < 0x90014)
    (ha : 0x80800 < a := by decide) : s.FaultKept own (t.set ⟨a + k, hi, lo⟩ v) :=
  h.set (by simp only [faultRegs, List.mem_cons, List.not_mem_nil, or_false]; omega)

/-- A write to a field of an indexed block behind LCK_FAULT. -/
protected theorem setAbove (h : s.FaultKept own t) {a k hi lo v : Nat} (ha : 0x90014 < a := by decide) :
    s.FaultKept own (t.set ⟨a + k, hi, lo⟩ v) :=
  h.set (by simp only [faultRegs, List.mem_cons, List.not_mem_nil, or_false]; omega)

protected theorem raise (h : s.FaultKept own t) {e : Ev} (he : e.offFault = true) : s.FaultKept own (t.raise e) := by
  simp only [Ev.offFault, Bool.and_eq_true, Bool.not_eq_true', List.contains_eq_mem, decide_eq_false_iff_not] at he
  obtain ⟨hflag, hcnt⟩ := he
  obtain ⟨m, o, hraise⟩ := State.raise_frame t e
  rw [hraise, flagged]
  cases hc : e.cnt with
  | none => exact (h.set hflag).upd
  | some c =>
    rw [hc] at hcnt
    have haddr : c.addr ∉ faultRegs := by simpa using hcnt
    exact ((h.set hflag).set haddr).upd

protected theorem bump (h : s.FaultKept own t) {f : Fld} (hf : f.addr ∉ faultRegs) : s.FaultKept own (t.bump f) := by
  unfold State.bump
  exact h.set hf

/-- A field of LCK_FAULT reads as before. -/
protected theorem get_lck (h : s.FaultKept own t) {f : Fld} (hf : f.addr = 0x90014) : t.get f = s.get f := by
  rw [State.get, State.get, hf, h.lck]

/-! ### Frames of the module (06, 08, 10, 12) -/

protected theorem toPeers (h : s.FaultKept own t) {kind data} : s.FaultKept own (toPeers kind data t) := by
  unfold Machine.toPeers sendNumbered sendBy
  exact .ite h.upd h.upd

protected theorem showStages (h : s.FaultKept own t) : s.FaultKept own (showStages t) := by
  unfold Machine.showStages
  refine .foldl (((h.setBit (by decide)).setBit (by decide)).set (by decide)) fun _ n hn h => ?_
  have hreg : 0x60050 + 4 * n < 0x80800 ∧ 0x60060 + 4 * n < 0x80800 := by
    have := List.mem_range.mp hn
    omega
  exact .ite (h.setBelow hreg.1) (.setBelow (.upd (h.setBelow hreg.1)) hreg.2)

protected theorem setDrive (h : s.FaultKept own t) {d} : s.FaultKept own (setDrive d t) := by
  unfold Machine.setDrive
  exact .showStages h.upd

protected theorem canFail (h : s.FaultKept own t) {c o reason bitPos time esi} (hc : c < 2) :
    s.FaultKept own (canFail c o reason bitPos time esi t) := by
  unfold Machine.canFail canLog
  refine .raise (.setBelow (.upd (.upd h)) (by omega)) ?_
  unfold evTxFail
  split <;> decide

protected theorem canRestrict (h : s.FaultKept own t) : s.FaultKept own (canRestrict t) := by
  unfold Machine.canRestrict canFailPending
  exact .setBit (.setBit (h.foldl fun _ _ hc h => h.foldl fun _ _ _ h => .ite (h.canFail (List.mem_range.mp hc)) h)
    (by decide)) (by decide)

protected theorem clearSending (h : s.FaultKept own t) : s.FaultKept own (clearSending t) := by
  unfold Machine.clearSending
  refine .foldl (h.foldl fun _ j hj h => ?_) fun _ n hn h => .ite ?_ h
  · have := List.mem_range.mp hj
    exact h.setBelow (by omega)
  · have := List.mem_range.mp hn
    exact h.setBelow (by omega)

protected theorem portTx (h : s.FaultKept own t) {n kind d} : s.FaultKept own (portTx n kind d t) := by
  unfold Machine.portTx
  exact .ite h.upd h

protected theorem netTx (h : s.FaultKept own t) {n kind d} : s.FaultKept own (netTx n kind d t) := by
  unfold Machine.netTx
  exact .ite (.portTx (.portTx h.upd)) h.portTx

protected theorem closeClients (h : s.FaultKept own t) : s.FaultKept own (closeClients t) := by
  unfold Machine.closeClients
  refine h.foldl fun _ n hn h => .ite h ?_
  have := List.mem_range.mp hn
  exact .netTx (.setBelow (h.setBelow (by omega)) (by omega))

protected theorem gatesClose (h : s.FaultKept own t) {d} : s.FaultKept own (gatesClose d t) := by
  unfold Machine.gatesClose
  exact (h.setDrive.setBit (by decide)).canRestrict.clearSending.upd

/-! ### Roles and ownership (11) -/

protected theorem stopSingletons (h : s.FaultKept own t) : s.FaultKept own (stopSingletons t) := by
  unfold Machine.stopSingletons showPublishing
  refine .setBit (h.foldl fun _ n hn h => ?_) (by decide)
  have := List.mem_range.mp hn
  exact h.setBetween (by omega)

protected theorem disarm (h : s.FaultKept false t) : s.FaultKept false (disarm t) := by
  unfold Machine.disarm
  exact h.updPair.setOwn (by decide)

protected theorem releaseOwn (h : s.FaultKept false t) {d} : s.FaultKept false (releaseOwn d t) := by
  unfold Machine.releaseOwn ownRises
  exact .ite (.stopSingletons (.closeClients (.gatesClose (.setOwn (.setOwn (.updPair (h.disarm.setOwn (by decide)))
    (by decide)) (by decide))))) h.disarm

protected theorem setRole (h : s.FaultKept false t) {r} : s.FaultKept false (setRole r t) := by
  unfold Machine.setRole
  exact .ite h ((h.setOwn (by decide)).raise (by decide))

protected theorem followRole (h : s.FaultKept own t) : s.FaultKept own (followRole t) := by
  unfold Machine.followRole
  exact .ite h h.setDrive

protected theorem enterRole (h : s.FaultKept false t) {r} : s.FaultKept false (enterRole r t) := by
  unfold Machine.enterRole reviewPairOk
  exact .followRole h.setRole.updPair

protected theorem releaseTick (h : s.FaultKept own t) : s.FaultKept own (releaseTick t) := by
  unfold Machine.releaseTick
  exact .ite ((h.upd.set (by decide)).raise (by decide)) h.upd

/-! ### Records of the fault (11 R343, 13 R411, 14 R426, 17 R493) -/

protected theorem lifetimeAdd (h : s.FaultKept own t) {kind data} : s.FaultKept own (lifetimeAdd kind data t) := by
  unfold Machine.lifetimeAdd nandEntries nandPut nandWrite
  exact .ite h (.ite h (.set (.foldl h.upd fun _ _ _ h => .ite (.ite h h.upd) (.upd (.ite h h.upd))) (by decide)))

protected theorem recordLastFault (h : s.FaultKept own t) {v} : s.FaultKept own (recordLastFault v t) := by
  unfold Machine.recordLastFault writeBackup putBackup
  exact .set (.foldl (.set (h.foldl fun _ _ _ h => h.setAbove) (by decide)) fun _ _ _ h => h.setAbove) (by decide)

protected theorem memLog (h : s.FaultKept own t) {memory index source symbols devices kind} :
    s.FaultKept own (memLog memory index source symbols devices kind t) := by
  unfold Machine.memLog writeMemLog
  exact .ite ((h.bump (by decide)).raise (by decide))
    (.set h.setAbove.setAbove.setAbove.setAbove.setAbove.setAbove.setAbove.setAbove.setAbove (by decide))

protected theorem enterFailed (h : s.FaultKept false t) {lastFault cls d restart} :
    s.FaultKept false (enterFailed lastFault cls d restart t) := by
  unfold Machine.enterFailed
  exact .toPeers (.recordLastFault (.enterRole (.releaseTick (.stopSingletons (.setDrive (.updPair (.releaseOwn
    (.lifetimeAdd h.upd))))))))

end State.FaultKept

end Sys2Proof.Machine
end

section
/-! SUPPORT. The state of FAILED (11 R341, R343, 13 R395), and what a task fault leaves of its task and engine (04 R126-R128,
05 R173). -/

namespace Sys2Proof.Machine

variable {s t : State} {own : Bool}

/-! ### The ownership that FAILED leaves -/

/-- OWN is not held and the claim logic is disarmed. -/
def disowned (s : State) : Prop := s.held = false ∧ s.on Reg.hhkPairStatusArmed = false

theorem State.FaultKept.get_status (h : s.FaultKept true t) {f : Fld} (hf : f.addr = 0x80800) : t.get f = s.get f := by
  obtain ⟨-, -, hstatus⟩ := h.pair rfl
  rw [State.get, State.get, hf, hstatus]

theorem State.FaultKept.role (h : s.FaultKept true t) : t.role = s.role := by
  obtain ⟨-, hrole, -⟩ := h.pair rfl
  exact congrArg (fieldOf · 2 0) hrole

theorem State.FaultKept.disowned (h : s.FaultKept true t) (hs : disowned s) : disowned t :=
  ⟨(State.on_congr (h.get_status rfl)).trans hs.1, (State.on_congr (h.get_status rfl)).trans hs.2⟩

theorem on_set_apart (s : State) {f g : Fld} (v : Nat) (hok : f.ok = true := by decide) (h : f.apart g = true := by decide) :
    (s.set f v).on g = s.on g := State.on_congr (State.get_set_apart s f g v hok h)

theorem on_setBit_apart (s : State) {f g : Fld} (b : Bool) (hok : f.ok = true := by decide)
    (h : f.apart g = true := by decide) : (s.setBit f b).on g = s.on g := on_set_apart s _ hok h

theorem on_ownRises_apart (s : State) {g : Fld} (h : Reg.hhkPairStatusOwnLine.apart g = true := by decide) :
    (ownRises s).on g = s.on g := by
  rw [ownRises, on_setBit_apart _ _ (by decide) h]
  rfl

theorem armed_disarm (s : State) : (disarm s).on Reg.hhkPairStatusArmed = false :=
  State.on_setBit_same _ _ _ (by decide) rfl

theorem held_disarm (s : State) : (disarm s).held = s.held := on_set_apart _ _

/-- OWN is released. -/
theorem releaseOwn_disowned (d : Drive) (s : State) : disowned (releaseOwn d s) := by
  unfold releaseOwn
  extract_lets was s1 s2
  have harmed : s1.on Reg.hhkPairStatusArmed = false := armed_disarm s
  split
  · have hheld : s2.on Reg.hhkPairStatusOwnHeld = false := by
      rw [on_setBit_apart, on_ownRises_apart]
      exact State.on_setBit_same _ _ _ (by decide) rfl
    have harmed' : s2.on Reg.hhkPairStatusArmed = false := by
      rw [on_setBit_apart, on_ownRises_apart, on_setBit_apart, harmed]
    clear_value s2
    have hkept : s2.FaultKept true (stopSingletons (closeClients (gatesClose d s2))) :=
      .stopSingletons (.closeClients (.gatesClose (.refl s2)))
    exact hkept.disowned ⟨hheld, harmed'⟩
  next hwas => exact ⟨(held_disarm s).trans (Bool.eq_false_iff.mpr hwas), harmed⟩

/-- The raising of an event leaves the record of the pair. -/
theorem pair_raise (s : State) (e : Ev) : (s.raise e).pair = s.pair := by
  obtain ⟨m, o, hr⟩ := State.raise_frame s e
  rw [hr, flagged]
  cases e.cnt <;> rfl

theorem pair_setRole (r : Nat) (s : State) : (setRole r s).pair = s.pair := by
  unfold setRole
  split
  · rfl
  · exact pair_raise _ _

theorem role_setRole {r : Nat} (hr : r < 8) (s : State) : (setRole r s).role = r := by
  unfold setRole
  split
  next h => exact h
  next =>
    rw [State.role, State.get_raise_apart _ _ _ (by decide), State.get_set_same _ _ _ (by decide)]
    exact Nat.mod_eq_of_lt hr

theorem setRole_disowned {r : Nat} (h : disowned s) : disowned (setRole r s) := by
  unfold setRole
  split
  · exact h
  · refine ⟨(State.on_congr (State.get_raise_apart _ _ _ (by decide))).trans ((on_set_apart _ _).trans h.1), ?_⟩
    exact (State.on_congr (State.get_raise_apart _ _ _ (by decide))).trans ((on_set_apart _ _).trans h.2)

/-- Releases and updates are blocked, OWN is released and PAIR_OK_OUT stands. -/
def shutOut (s : State) : Prop := disowned s ∧ s.pair.blocked = true

theorem State.FaultKept.shutOut (h : s.FaultKept true t) (hs : shutOut s) : shutOut t :=
  ⟨h.disowned hs.1, by rw [(h.pair rfl).1]; exact hs.2⟩

theorem enterRole_failed (h : shutOut s) :
    shutOut (enterRole roleFailed s) ∧ (enterRole roleFailed s).role = roleFailed ∧
      (enterRole roleFailed s).pair.pairOkOut = false := by
  have hrole : (reviewPairOk (setRole roleFailed s)).role = roleFailed := role_setRole (by decide) s
  have hshut : shutOut (reviewPairOk (setRole roleFailed s)) :=
    ⟨setRole_disowned h.1, (congrArg PairSt.blocked (pair_setRole roleFailed s)).trans h.2⟩
  have hout : (reviewPairOk (setRole roleFailed s)).pair.pairOkOut = false := by
    rw [reviewPairOk, role_setRole (by decide) s]
    rfl
  have hkept : (reviewPairOk (setRole roleFailed s)).FaultKept true (enterRole roleFailed s) :=
    .followRole (.refl _)
  exact ⟨hkept.shutOut hshut, hkept.role.trans hrole, by rw [(hkept.pair rfl).1]; exact hout⟩

/-- Entering FAILED. -/
theorem enterFailed_failed (lastFault cls : Nat) (d : Drive) (restart : Bool) (s : State) :
    shutOut (enterFailed lastFault cls d restart s) ∧ (enterFailed lastFault cls d restart s).role = roleFailed ∧
      (enterFailed lastFault cls d restart s).pair.pairOkOut = false := by
  unfold enterFailed
  extract_lets +onlyGivenNames due n u s1 s2 p s3 s4 s5
  have hshut : shutOut s3 := ⟨releaseOwn_disowned d s1, rfl⟩
  have hkept : s3.FaultKept true s5 := .releaseTick (.stopSingletons (.setDrive (.refl s3)))
  obtain ⟨hshut', hrole, hout⟩ := enterRole_failed (hkept.shutOut hshut)
  have hend : (enterRole roleFailed s5).FaultKept true
      (toPeers "FAILED" [cls] (recordLastFault lastFault (enterRole roleFailed s5))) :=
    .toPeers (.recordLastFault (.refl _))
  exact ⟨hend.shutOut hshut', hend.role.trans hrole, by rw [(hend.pair rfl).1]; exact hout⟩

/-! ### The recorded fault (13 R411) -/

theorem recordFault_class {cls unit port : Nat} (hcls : cls < 256) (s : State) :
    (recordFault cls unit port s).get Reg.lckFaultClass = cls := by
  unfold recordFault
  rw [State.get_set_apart _ _ _ _ (by decide) (by decide), State.get_set_apart _ _ _ _ (by decide) (by decide),
    State.get_set_apart _ _ _ _ (by decide) (by decide), State.get_set_apart _ _ _ _ (by decide) (by decide),
    State.get_set_same _ _ _ (by decide)]
  exact Nat.mod_eq_of_lt hcls

theorem recordFault_unit {cls unit port : Nat} (hunit : unit < 256) (s : State) :
    (recordFault cls unit port s).get Reg.lckFaultUnit = unit := by
  unfold recordFault
  rw [State.get_set_apart _ _ _ _ (by decide) (by decide), State.get_set_apart _ _ _ _ (by decide) (by decide),
    State.get_set_apart _ _ _ _ (by decide) (by decide), State.get_set_same _ _ _ (by decide)]
  exact Nat.mod_eq_of_lt hunit

/-- A fault whose reaction is FAILED (13 R407). -/
theorem fail_hasFailed {cls unit : Nat} (hcls : cls < 256) (hunit : unit < 256) (port : Nat) (restart : Bool) (s : State) :
    hasFailed cls unit (fail cls unit port restart s) := by
  have hkept : (recordFault cls unit port s).FaultKept false (fail cls unit port restart s) := .enterFailed (.refl _)
  obtain ⟨⟨⟨hheld, harmed⟩, hblocked⟩, hrole, hout⟩ :=
    enterFailed_failed (cls + (if unit = 0xFF then 0 else unit * 256)) cls .hold restart (recordFault cls unit port s)
  exact ⟨hrole, (hkept.get_lck rfl).trans (recordFault_class hcls s), (hkept.get_lck rfl).trans (recordFault_unit hunit s),
    hheld, harmed, hblocked, hout⟩

/-- What a reaction to a task fault leaves: memory, the engines and the tasks. -/
def runKept (s t : State) : Prop := t.mem = s.mem ∧ t.prog.engines = s.prog.engines ∧ t.prog.tasks = s.prog.tasks

theorem State.FaultKept.runKept (h : s.FaultKept own t) : runKept s t := ⟨h.mem, h.engines, h.tasks⟩

theorem runKept.trans {u : State} (h : runKept s t) (h' : runKept t u) : runKept s u :=
  ⟨h'.1.trans h.1, h'.2.1.trans h.2.1, h'.2.2.trans h.2.2⟩

theorem set_runKept (s : State) (f : Fld) (v : Nat) : runKept s (s.set f v) := ⟨rfl, rfl, rfl⟩

theorem recordFault_runKept (cls unit port : Nat) (s : State) : runKept s (recordFault cls unit port s) := by
  unfold recordFault
  exact ((((set_runKept s _ _).trans (set_runKept _ _ _)).trans (set_runKept _ _ _)).trans (set_runKept _ _ _)).trans
    (set_runKept _ _ _)

theorem fail_runKept (cls unit port : Nat) (restart : Bool) (s : State) : runKept s (fail cls unit port restart s) := by
  have hkept : (recordFault cls unit port s).FaultKept false (fail cls unit port restart s) := .enterFailed (.refl _)
  exact (recordFault_runKept cls unit port s).trans hkept.runKept

theorem sramUe_runKept (memory index source : Nat) (s : State) : runKept s (sramUe memory index source s) := by
  have hlog : s.FaultKept false (memLog memory index source 2 0 2 (s.raise Ev.memSramUe)) :=
    .memLog ((State.FaultKept.refl s).raise (by decide))
  exact hlog.runKept.trans (fail_runKept ..)

theorem moduleReaction_runKept (code : Nat) (hard : Bool) (s : State) : runKept s (moduleReaction code hard s) := by
  have hlate : runKept s (s.raise Ev.lckLate) :=
    State.FaultKept.runKept (own := false) ((State.FaultKept.refl s).raise (by decide))
  unfold moduleReaction
  split
  · exact fail_runKept ..
  split
  · exact hlate.trans (fail_runKept ..)
  split
  · dsimp only
    split
    · exact hlate.trans (fail_runKept ..)
    · exact hlate
  · exact ⟨rfl, rfl, rfl⟩

end Sys2Proof.Machine
end

section
/-! SUPPORT. A task fault on an engine with no request posted and no further segment due (04 R126-R128, 05 R173). -/

namespace Sys2Proof.Machine

variable {s t : State} {e p code len cyc : Nat} {hard : Bool}

/-! ### Tasks and engines of a state -/

theorem State.task_updTask_same (h : p < s.prog.tasks.length) (f : TaskSt → TaskSt) :
    (s.updTask p f).task p = f (s.task p) := by
  simp [State.task, State.updTask, listSet_eq_modify, List.getD_eq_getElem?_getD, h]

@[simp] theorem State.task_putEng (s : State) (e : Nat) (g : Engine) (p : Nat) : (s.putEng e g).task p = s.task p := rfl

@[simp] theorem State.mem_putEng (s : State) (e : Nat) (g : Engine) : (s.putEng e g).mem = s.mem := rfl

@[simp] theorem State.engines_length_putEng (s : State) (e : Nat) (g : Engine) :
    (s.putEng e g).prog.engines.length = s.prog.engines.length := by
  simp [State.putEng, listSet_eq_modify]

@[simp] theorem State.tasks_length_updTask (s : State) (p : Nat) (f : TaskSt → TaskSt) :
    (s.updTask p f).prog.tasks.length = s.prog.tasks.length := by
  simp [State.updTask, listSet_eq_modify]

theorem runKept.task (h : runKept s t) (p : Nat) : t.task p = s.task p := by rw [State.task, State.task, h.2.2]

theorem runKept.eng (h : runKept s t) (e : Nat) : t.eng e = s.eng e := by rw [State.eng, State.eng, h.2.1]

/-! ### The end of a segment -/

/-- No doorbell rings where nothing was posted. -/
theorem ringDoorbells_idle (h : (s.eng e).posted = [0, 0, 0, 0]) :
    ringDoorbells e s = s.putEng e { s.eng e with posted := [0, 0, 0, 0] } := by
  simp [ringDoorbells, List.range_succ, h]

/-- An engine with none due idles after its segment. -/
theorem idles_after_segment (hlt : e < s.prog.engines.length) (hlast : lastSegment e s) :
    ((startNext e ((ringDoorbells e s).eng e).due (ringDoorbells e s)).eng e).running = false ∧
      (startNext e ((ringDoorbells e s).eng e).due (ringDoorbells e s)).mem = s.mem ∧
      (startNext e ((ringDoorbells e s).eng e).due (ringDoorbells e s)).regs = s.regs ∧
      (startNext e ((ringDoorbells e s).eng e).due (ringDoorbells e s)).prog.tasks = s.prog.tasks := by
  obtain ⟨hposted, hdue⟩ := hlast
  rw [ringDoorbells_idle hposted, State.eng_putEng_same _ hlt]
  dsimp only
  rw [hdue, startNext, State.eng_putEng_same _ (by simpa using hlt)]
  exact ⟨rfl, rfl, rfl, rfl⟩

/-- What a task has after the observed cycles of its segment are entered (04 R149). -/
def TaskSt.closed (k : TaskSt) (cycles : Nat) : TaskSt :=
  { k with maxCycles := if k.maxCycles < cycles then cycles else k.maxCycles }

theorem task_closeSegment (hp : (s.eng e).task < s.prog.tasks.length) :
    (closeSegment e s).task (s.eng e).task = (s.task (s.eng e).task).closed (s.eng e).cycles :=
  State.task_updTask_same hp _

/-- What a task has after a fault: its period ends, and `halt` halts it (R127). -/
def TaskSt.struck (k : TaskSt) (code : Nat) (halt : Bool) : TaskSt :=
  { k with alive := false, lastFault := code, faults := satTo 65535 (k.faults + 1), halted := k.halted || halt }

/-- A task is of FAULT_MODE HALT. -/
def State.haltsOnFault (s : State) (p : Nat) : Bool :=
  match s.taskRow p with | some r => r.faultMode == 1 | none => false

theorem task_noteFault (hp : p < s.prog.tasks.length) :
    (noteFault p code s).task p = (s.task p).struck code (s.haltsOnFault p) :=
  State.task_updTask_same hp _

theorem noteFault_mem (p code : Nat) (s : State) : (noteFault p code s).mem = s.mem := rfl

theorem closeSegment_mem (e : Nat) (s : State) : (closeSegment e s).mem = s.mem := rfl

/-! ### The fault -/

/-- What the fault of a running segment leaves: memory stands, the engine idles, and its task is struck. -/
theorem faultRunning_spec (herr : (s.eng e).err = false) (hlt : e < s.prog.engines.length)
    (hp : (s.eng e).task < s.prog.tasks.length) (hlast : lastSegment e s) (code : Nat) :
    (faultRunning e code s).mem = s.mem ∧ ((faultRunning e code s).eng e).running = false ∧
      (faultRunning e code s).task (s.eng e).task =
        ((s.task (s.eng e).task).closed (s.eng e).cycles).struck code (s.haltsOnFault (s.eng e).task) := by
  unfold faultRunning
  rw [if_neg (by simp [herr])]
  extract_lets +onlyGivenNames s1 g s2
  have htask : s1.task (s.eng e).task =
      ((s.task (s.eng e).task).closed (s.eng e).cycles).struck code (s.haltsOnFault (s.eng e).task) := by
    rw [← task_closeSegment hp]
    exact task_noteFault (by simpa [closeSegment] using hp)
  have hlt1 : e < s1.prog.engines.length := hlt
  have hlast2 : lastSegment e s2 := by
    have heng : s1.eng e = s.eng e := rfl
    have hs2 : (s2.eng e).posted = (s1.eng e).posted ∧ (s2.eng e).due = (s1.eng e).due := by
      rw [State.eng_putEng_same _ hlt1]
      exact ⟨rfl, rfl⟩
    rw [lastSegment, hs2.1, hs2.2, heng]
    exact hlast
  have hlt2 : e < s2.prog.engines.length := by
    rw [State.engines_length_putEng]
    exact hlt1
  have hmem2 : s2.mem = s.mem := by rw [State.mem_putEng, noteFault_mem, closeSegment_mem]
  have htask2 : s2.task (s.eng e).task = s1.task (s.eng e).task := rfl
  clear_value s2
  obtain ⟨hrunning, hmem, -, htasks⟩ := idles_after_segment hlt2 hlast2
  refine ⟨hmem.trans hmem2, hrunning, ?_⟩
  rw [State.task, htasks]
  exact htask2.trans htask

/-- What a task fault leaves, beside the module's reaction. -/
theorem taskFault_spec (herr : (s.eng e).err = false) (hlt : e < s.prog.engines.length)
    (hp : (s.eng e).task < s.prog.tasks.length) (hlast : lastSegment e s) (h : runKept (faultRunning e code s) t) :
    memKept s t ∧ (t.eng e).running = false ∧ tookFault (s.eng e).task code s t ∧
      (t.task (s.eng e).task).ovf = (s.task (s.eng e).task).ovf ∧
      (t.task (s.eng e).task).divz = (s.task (s.eng e).task).divz := by
  obtain ⟨hmem, hrunning, htask⟩ := faultRunning_spec herr hlt hp hlast code
  have hmin : satTo 65535 ((s.task (s.eng e).task).faults + 1) = min 65535 ((s.task (s.eng e).task).faults + 1) := by
    unfold satTo
    split <;> omega
  refine ⟨memKept_of_mem (h.1.trans hmem), ?_, ?_⟩
  · rw [h.eng]
    exact hrunning
  · unfold tookFault
    rw [h.task, htask]
    exact ⟨⟨rfl, hmin, rfl, rfl, rfl⟩, rfl, rfl⟩

end Sys2Proof.Machine
end

section
/-! SUPPORT. Instructions of Petal that fault (05 R173): which body faults with which code. -/

namespace Sys2Proof.Machine

variable {s : State} {e len cyc code : Nat} {hard : Bool} {c : Instr} {body : Engine → State → PRes}

/-- The instruction faults the running task of engine e with a code, and leaves memory and the task's flags. -/
def faultsWith (e : Nat) (s : State) (c : Instr) (code : Nat) : Prop :=
  leads c s (fun t => tookFault (s.eng e).task code s t ∧ (t.task (s.eng e).task).ovf = (s.task (s.eng e).task).ovf ∧
    (t.task (s.eng e).task).divz = (s.task (s.eng e).task).divz ∧ memKept s t)

/-- The engine runs a task of the unit that is no error task, and the segment is the last due. -/
structure State.plainRun (s : State) (e : Nat) : Prop where
  err : (s.eng e).err = false
  task : (s.eng e).task < s.prog.tasks.length
  last : lastSegment e s

/-- An instruction whose body faults (R127, R173). -/
theorem faultsWith_of_body (hp : s.plainRun e) (hr : petalReady e len s)
    (hexec : exec c s = .next (runPetal e len cyc body s)) (hb : body (s.past e len) s = .fault code hard) :
    faultsWith e s c code := by
  have hlt := State.eng_lt_of_running hr.2.1
  obtain ⟨hmem, -, htook, hovf, hdivz⟩ := taskFault_spec hp.err hlt hp.task hp.last
    (moduleReaction_runKept code hard (faultRunning e code s))
  exact ⟨_, hexec.trans (congrArg _ (runPetal_fault hr hb)), htook, hovf, hdivz, hmem⟩

/-! ### Too few operands -/

section
variable {g : Engine}

/-- A list of fewer than two entries. -/
theorem length_lt_two {α : Type} {l : List α} (h : l.length < 2) : l = [] ∨ ∃ a, l = [a] :=
  match l, h with
  | [], _ => .inl rfl
  | [a], _ => .inr ⟨a, rfl⟩

theorem binary_under (h : g.stack.length < 2) (f : Quad → Quad → Quad) : binary f g s = pUnder := by
  obtain hst | ⟨a, hst⟩ := length_lt_two h <;> simp only [binary, hst]

theorem binaryFlag_under (h : g.stack.length < 2) (f : Quad → Quad → Quad × Bool × Bool) : binaryFlag f g s = pUnder := by
  obtain hst | ⟨a, hst⟩ := length_lt_two h <;> simp only [binaryFlag, hst]

theorem unary_under (h : g.stack = []) (f : Quad → Quad) : unary f g s = pUnder := by simp only [unary, h]

theorem unaryFlag_under (h : g.stack = []) (f : Quad → Quad × Bool) : unaryFlag f g s = pUnder := by
  simp only [unaryFlag, h]

theorem push_over (h : 16 ≤ g.stack.length) (q : Quad) : push q g s = pOver := if_pos h

end

/-- A body that faults both on an empty stack and on one entry. -/
theorem faults_of_short_stack (hp : s.plainRun e) (hr : petalReady e 1 s) (h : (s.eng e).stack.length < 2)
    (hexec : exec c s = .next (runPetal e 1 cyc body s))
    (hnil : (s.eng e).stack = [] → body (s.past e 1) s = pUnder)
    (hone : ∀ a, (s.eng e).stack = [a] → body (s.past e 1) s = pUnder) : faultsWith e s c codeStackUnder := by
  refine faultsWith_of_body (hard := true) hp hr hexec ?_
  obtain hst | ⟨a, hst⟩ := length_lt_two h
  exacts [hnil hst, hone a hst]

/-- The instructions of two or three operands on an engine with fewer than two. -/
theorem faults_under_two (hp : s.plainRun e) (hr : petalReady e 1 s) (h : (s.eng e).stack.length < 2)
    (hc : c ∈ [Instr.pSwap e, .pOver e, .pAdd e .i32, .pMul e .u64, .pDiv e .i64, .pDivF e .f64, .pEq e, .pLtU e, .pAnd e,
      .pMinS e, .pRot e, .pSel e, .pAtan2 e]) : faultsWith e s c codeStackUnder := by
  have hbinary (f) : binary f (s.past e 1) s = pUnder := binary_under (g := s.past e 1) h f
  have hflag (f) : binaryFlag f (s.past e 1) s = pUnder := binaryFlag_under (g := s.past e 1) h f
  simp only [List.mem_cons, List.not_mem_nil, or_false] at hc
  rcases hc with rfl | rfl | rfl | rfl | rfl | rfl | rfl | rfl | rfl | rfl | rfl | rfl | rfl
  · exact faults_of_short_stack hp hr h rfl (fun hst => by simp only [State.past_stack, hst])
      fun a hst => by simp only [State.past_stack, hst]
  · exact faults_of_short_stack hp hr h rfl (fun hst => by simp only [State.past_stack, hst])
      fun a hst => by simp only [State.past_stack, hst]
  · exact faultsWith_of_body hp hr rfl (hflag _)
  · exact faultsWith_of_body hp hr rfl (hflag _)
  · exact faultsWith_of_body hp hr rfl (hflag _)
  · exact faultsWith_of_body hp hr rfl (hflag _)
  · exact faultsWith_of_body hp hr rfl (hbinary _)
  · exact faultsWith_of_body hp hr rfl (hbinary _)
  · exact faultsWith_of_body hp hr rfl (hbinary _)
  · exact faultsWith_of_body hp hr rfl (hbinary _)
  · exact faults_of_short_stack hp hr h rfl (fun hst => by simp only [State.past_stack, hst])
      fun a hst => by simp only [State.past_stack, hst]
  · exact faults_of_short_stack hp hr h rfl (fun hst => by simp only [State.past_stack, hst])
      fun a hst => by simp only [State.past_stack, hst]
  · exact faultsWith_of_body hp hr rfl (hbinary _)

/-- The instructions of one operand on an empty stack. -/
theorem faults_under_one (hp : s.plainRun e) (hr : petalReady e 1 s) (h : (s.eng e).stack = [])
    (hc : c ∈ [Instr.pDup e, .pDrop e, .pNeg e true, .pNegF e .f32, .pBnot e, .pSin e]) :
    faultsWith e s c codeStackUnder := by
  have hunary (f) : unary f (s.past e 1) s = pUnder := unary_under (g := s.past e 1) h f
  simp only [List.mem_cons, List.not_mem_nil, or_false] at hc
  rcases hc with rfl | rfl | rfl | rfl | rfl | rfl
  · refine faultsWith_of_body (hard := true) hp hr rfl ?_
    simp only [State.past_stack, h]
    rfl
  · refine faultsWith_of_body (hard := true) hp hr rfl ?_
    simp only [State.past_stack, h]
    rfl
  · exact faultsWith_of_body hp hr rfl (unaryFlag_under (g := s.past e 1) h _)
  · exact faultsWith_of_body hp hr rfl (hunary _)
  · exact faultsWith_of_body hp hr rfl (hunary _)
  · exact faultsWith_of_body hp hr rfl (hunary _)

/-! ### Too many operands -/

theorem faults_push_over {q : Quad} (hp : s.plainRun e) (hr : petalReady e 1 s) (h : 16 ≤ (s.eng e).stack.length)
    (hexec : exec c s = .next (runPetal e 1 1 (push q) s)) : faultsWith e s c codeStackOver :=
  faultsWith_of_body hp hr hexec (push_over (g := s.past e 1) h q)

theorem faults_dup_over (hp : s.plainRun e) (hr : petalReady e 1 s) (h : 16 ≤ (s.eng e).stack.length) :
    faultsWith e s (.pDup e) codeStackOver := by
  refine faultsWith_of_body (hard := true) hp hr rfl ?_
  obtain ⟨a, r, hst⟩ : ∃ a r, (s.eng e).stack = a :: r := List.exists_cons_of_length_pos (by omega)
  simp only [State.past_stack, hst]
  exact push_over (g := s.past e 1) h a

/-! ### Operands out of range -/

section
variable {cnt off max n : Nat} {i q : Quad} {r : List Quad}

/-- An index outside 0 to cnt - 1 (R164). -/
theorem loadElem_bounds (hp : s.plainRun e) (hr : petalReady e 6 s) (hst : (s.eng e).stack = i :: r) (hoff : off % 4 = 0)
    (hcnt : 1 ≤ cnt) (hi : i.toInt < 0 ∨ (cnt : Int) ≤ i.toInt) (sp : Space)
    (hexec : exec c s = .next (loadElem e 4 off cnt sp s)) : faultsWith e s c codeBounds := by
  have hpos : (cnt == 0) = false := beq_false_of_ne (by omega)
  refine faultsWith_of_body (hard := false) hp hr hexec ?_
  simp only [operandOk_of_tyOf (t := 4) rfl hoff, hpos, Bool.not_true, Bool.or_self, Bool.false_eq_true, if_false,
    State.past_stack, hst, element, if_pos hi]
  rfl

/-- A LOOP count above the maximum. -/
theorem faults_loop_bounds (hp : s.plainRun e) (hr : petalReady e 5 s) (hst : (s.eng e).stack = q :: r) (hmax : 1 ≤ max)
    (hq : max < q.toNat) : faultsWith e s (.pLoop e max n) codeBounds := by
  refine faultsWith_of_body (hard := false) hp hr rfl ?_
  simp only [if_neg (show max ≠ 0 by omega), State.past_stack, hst, if_pos hq]
  rfl

theorem faults_ret (hp : s.plainRun e) (hr : petalReady e 1 s) (h : (s.eng e).calls = []) :
    faultsWith e s (.pRet e) codeOpcode := by
  refine faultsWith_of_body (hard := true) hp hr rfl ?_
  simp only [State.past_calls, h]
  rfl

theorem faults_endloop (hp : s.plainRun e) (hr : petalReady e 1 s) (h : (s.eng e).loops = []) :
    faultsWith e s (.pEndloop e) codeOpcode := by
  refine faultsWith_of_body (hard := true) hp hr rfl ?_
  simp only [State.past_loops, h]
  rfl

end

/-- Settles O15: each instruction's body faults, and a fault writes no memory and no flag of the task. -/
theorem petalFaultsChangeNothingElse : Obligations.PetalFaultsChangeNothingElse := by
  unfold Obligations.PetalFaultsChangeNothingElse
  intro e s herr htask hlast p faults
  have hp : s.plainRun e := ⟨herr, htask, hlast⟩
  refine ⟨fun c hr h hc => faults_under_two hp hr h hc, fun c hr h hc => faults_under_one hp hr h hc,
    fun hr h => ⟨faults_push_over hp hr h rfl, faults_push_over hp hr h rfl, faults_dup_over hp hr h⟩,
    fun cnt off i r hr hst hoff hcnt hi => ⟨loadElem_bounds hp hr hst hoff hcnt hi .inst rfl,
      loadElem_bounds hp hr hst hoff hcnt hi .inp rfl⟩,
    fun max len c r hr hst => ⟨fun hmax hc => faults_loop_bounds hp hr hst hmax hc,
      faultsWith_of_body hp hr rfl (if_pos rfl)⟩,
    fun hr => ⟨faultsWith_of_body hp hr rfl rfl, faultsWith_of_body hp hr rfl rfl, faultsWith_of_body hp hr rfl rfl⟩,
    fun hr h => faults_ret hp hr h, fun hr h => faults_endloop hp hr h⟩

end Sys2Proof.Machine
end

section
/-! SUPPORT. The ends of segments and tasks, and what begins after them (05 R170, 04 R114, R122, R136). -/

namespace Sys2Proof.Machine

variable {s t : State} {e p len cyc : Nat}

/-! ### The next segment -/

theorem State.task_congr (h : t.prog.tasks = s.prog.tasks) (p : Nat) : t.task p = s.task p := by
  rw [State.task, State.task, h]

theorem State.active_putEng (s : State) (e : Nat) (g : Engine) : (s.putEng e g).prog.active = s.prog.active := rfl

theorem State.task_updTask_other {n : Nat} (h : n ≠ p) (f : TaskSt → TaskSt) : (s.updTask p f).task n = s.task n := by
  simp [State.task, State.updTask, listSet_eq_modify, List.getD_eq_getElem?_getD, h.symm]

/-- `t` comes from `s` with the same tasks, and engine e with the same segments due. -/
structure State.DueKept (e : Nat) (s t : State) : Prop where
  tasks : t.prog.tasks = s.prog.tasks
  length : t.prog.engines.length = s.prog.engines.length
  due : (t.eng e).due = (s.eng e).due

theorem State.DueKept.foldl {α : Type} {f : State → α → State} {l : List α}
    (hf : ∀ t x, s.DueKept e t → s.DueKept e (f t x)) (h : s.DueKept e t) : s.DueKept e (l.foldl f t) := by
  induction l generalizing t with
  | nil => exact h
  | cons x l ih => exact ih (hf t x h)

theorem State.DueKept.setBytes (h : s.DueKept e t) (a : Nat) (bs : List Byte) : s.DueKept e (t.setBytes a bs) := by
  rw [State.setBytes_frame]
  exact ⟨h.tasks, h.length, h.due⟩

theorem State.DueKept.putEng (h : s.DueKept e t) (hlt : e < s.prog.engines.length) {g : Engine}
    (hg : g.due = (t.eng e).due) : s.DueKept e (t.putEng e g) := by
  refine ⟨h.tasks, (State.engines_length_putEng ..).trans h.length, ?_⟩
  rw [State.eng_putEng_same _ (h.length ▸ hlt), hg, h.due]

/-- Forced variables change memory and the write log of the engine alone. -/
theorem applyForces_kept (hlt : e < s.prog.engines.length) (u : LoadUnit) (i : InstRow) (err : Bool) :
    s.DueKept e (applyForces e u i err s) := by
  unfold applyForces
  refine .foldl (fun t f h => ?_) ⟨rfl, rfl, rfl⟩
  split
  · exact h
  split
  · split
    · exact (h.setBytes _ _).putEng hlt rfl
    · exact h
  · exact h

/-- A later segment of a task that is no error task begins (05 R152, 04 R136). -/
theorem beginSegment_later {u : LoadUnit} {n g : Nat} {row : TaskRow} {i : InstRow} {ty : TypeRow}
    (hlt : e < s.prog.engines.length) (hu : s.prog.active = some u) (hrow : u.tasks[n]? = some row) (hkind : row.kind ≠ 1)
    (hi : instOf u row = some i) (hty : u.types[i.type]? = some ty) (hg : g ≠ 0) :
    let t := beginSegment e n g s
    (t.eng e).running = true ∧ (t.eng e).task = n ∧ (t.eng e).seg = g ∧ (t.eng e).due = (s.eng e).due ∧
      (t.eng e).stack = [] ∧ (t.eng e).calls = [] ∧ (t.eng e).loops = [] ∧ (t.eng e).ib = i.bankOff ∧
      (t.eng e).instLim = i.size ∧ (t.eng e).locLim = 0 ∧ (t.eng e).pc = (s.task n).pc := by
  have hkind' : (row.kind == 1) = false := beq_false_of_ne hkind
  obtain ⟨htasks, hlength, hdue⟩ := applyForces_kept hlt u i false
  have hlt' : e < (applyForces e u i false s).prog.engines.length := hlength ▸ hlt
  have hpc : ((applyForces e u i false s).task n).pc = (s.task n).pc := by rw [State.task, htasks, State.task]
  simp only [beginSegment, hu, hrow, hi, hty, hkind', hg, ne_eq, not_false_eq_true, decide_true, Bool.true_or, if_true,
    if_false]
  rw [State.eng_putEng_same _ hlt']
  exact ⟨rfl, rfl, rfl, hdue, rfl, rfl, rfl, rfl, rfl, rfl, hpc⟩

/-- The next segment due of a task that goes on. -/
theorem startNext_later {n g : Nat} {rest : List (Nat × Nat)} (hhalted : (s.task n).halted = false)
    (halive : (s.task n).alive = true) :
    startNext e ((n, g) :: rest) s = beginSegment e n g (s.putEng e { s.eng e with running := false, due := rest }) := by
  rw [startNext]
  exact if_neg (by simp [hhalted, halive])

/-! ### The end of a segment -/

theorem closeSegment_regs (e : Nat) (s : State) : (closeSegment e s).regs = s.regs := rfl

@[simp] theorem closeSegment_eng (e : Nat) (s : State) (d : Nat) : (closeSegment e s).eng d = s.eng d := rfl

/-- What stands after doorbells none of which rings. -/
theorem ringDoorbells_kept (hlt : e < s.prog.engines.length) (h : (s.eng e).posted = [0, 0, 0, 0]) :
    let t := ringDoorbells e s
    (t.eng e).err = (s.eng e).err ∧ (t.eng e).due = (s.eng e).due ∧ e < t.prog.engines.length ∧
      t.prog.tasks = s.prog.tasks ∧ t.prog.active = s.prog.active := by
  rw [ringDoorbells_idle h]
  dsimp only
  rw [State.eng_putEng_same _ hlt, State.engines_length_putEng]
  exact ⟨rfl, rfl, hlt, rfl, rfl⟩

/-- The end of a segment that posted nothing: the next one due begins. -/
theorem finishSegment_eq (hlt : e < s.prog.engines.length) (herr : (s.eng e).err = false)
    (hposted : (s.eng e).posted = [0, 0, 0, 0]) :
    finishSegment e s =
      startNext e ((ringDoorbells e (closeSegment e s)).eng e).due (ringDoorbells e (closeSegment e s)) := by
  obtain ⟨herr', -⟩ := ringDoorbells_kept (s := closeSegment e s) hlt hposted
  rw [closeSegment_eng, herr] at herr'
  unfold finishSegment
  extract_lets u
  rw [if_neg (by rw [herr']; decide)]

/-- A segment that is the last due ends: the engine idles, and the task has its observed cycles. -/
theorem finishSegment_idle (hlt : e < s.prog.engines.length) (herr : (s.eng e).err = false) (hlast : lastSegment e s)
    (hp : (s.eng e).task < s.prog.tasks.length) :
    ((finishSegment e s).eng e).running = false ∧ (finishSegment e s).mem = s.mem ∧ (finishSegment e s).regs = s.regs ∧
      (finishSegment e s).task (s.eng e).task = (s.task (s.eng e).task).closed (s.eng e).cycles := by
  obtain ⟨hrunning, hmem, hregs, htasks⟩ := idles_after_segment (s := closeSegment e s) hlt hlast
  rw [finishSegment_eq hlt herr hlast.1, ← task_closeSegment hp]
  exact ⟨hrunning, hmem.trans (closeSegment_mem e s), hregs.trans (closeSegment_regs e s), State.task_congr htasks _⟩

/-- A segment that posted nothing ends, and a later segment of another task begins. -/
theorem finishSegment_later {n g : Nat} {rest : List (Nat × Nat)} (hlt : e < s.prog.engines.length)
    (herr : (s.eng e).err = false) (hposted : (s.eng e).posted = [0, 0, 0, 0]) (hdue : (s.eng e).due = (n, g) :: rest)
    (hn : n ≠ (s.eng e).task) (hhalted : (s.task n).halted = false) (halive : (s.task n).alive = true) :
    ∃ u : State, finishSegment e s = beginSegment e n g u ∧ (u.eng e).due = rest ∧ e < u.prog.engines.length ∧
      u.prog.active = s.prog.active ∧ u.task n = s.task n := by
  obtain ⟨-, hdue', hlt', htasks, hactive⟩ := ringDoorbells_kept (s := closeSegment e s) hlt hposted
  have htask : (ringDoorbells e (closeSegment e s)).task n = s.task n := by
    rw [State.task, htasks]
    exact State.task_updTask_other hn _
  rw [← htask] at hhalted halive
  rw [finishSegment_eq hlt herr hposted, hdue', closeSegment_eng, hdue, startNext_later hhalted halive]
  refine ⟨_, rfl, ?_, ?_, ?_, ?_⟩
  · rw [State.eng_putEng_same _ hlt']
  · rwa [State.engines_length_putEng]
  · rw [State.active_putEng]
    exact hactive
  · rw [State.task_putEng, htask]

/-! ### SEG and END -/

theorem atTop_ok {g : Engine} (hcalls : g.calls = []) (hloops : g.loops = []) (hstack : g.stack = []) :
    atTop g s = .ok g s := by
  simp [atTop, hcalls, hloops, hstack]

/-- What stands before a segment's end is entered: the engine past the SEG, folded. -/
structure State.endsSegment (s t : State) (e : Nat) : Prop where
  mem : t.mem = s.mem
  regs : t.regs = s.regs
  tasks : t.prog.tasks = s.prog.tasks
  active : t.prog.active = s.prog.active
  live : t.prog.live = s.prog.live
  length : e < t.prog.engines.length
  eng : ∃ sig, t.eng e = { (s.past e 1).spent 2 with sig := sig }

theorem endsSegment_fold (hlt : e < s.prog.engines.length) :
    s.endsSegment (foldState e (s.putEng e ((s.past e 1).spent 2))) e := by
  have hlt1 : e < (s.putEng e ((s.past e 1).spent 2)).prog.engines.length := by
    rw [State.engines_length_putEng]
    exact hlt
  refine ⟨rfl, rfl, rfl, rfl, rfl, ?_, ?_⟩
  · unfold foldState
    rw [State.engines_length_putEng]
    exact hlt1
  · unfold foldState
    rw [State.eng_putEng_same _ hlt1, State.eng_putEng_same _ hlt]
    exact ⟨_, rfl⟩

theorem State.endsSegment.engine (h : s.endsSegment t e) :
    (t.eng e).err = (s.eng e).err ∧ (t.eng e).task = (s.eng e).task ∧ (t.eng e).posted = (s.eng e).posted ∧
      (t.eng e).due = (s.eng e).due ∧ (t.eng e).cycles = (s.eng e).cycles + 2 ∧ (t.eng e).seg = (s.eng e).seg ∧
      (t.eng e).pc = (s.eng e).pc + 1 := by
  obtain ⟨sig, heng⟩ := h.eng
  rw [heng]
  exact ⟨rfl, rfl, rfl, rfl, rfl, rfl, rfl⟩

theorem State.endsSegment.lastSegment (h : s.endsSegment t e) (hlast : lastSegment e s) : lastSegment e t := by
  obtain ⟨-, -, hposted, hdue, -⟩ := h.engine
  rw [Machine.lastSegment, hposted, hdue]
  exact hlast

/-- What a task has after a SEG: where it resumes (R170). -/
def TaskSt.resumed (k : TaskSt) (seg pc : Nat) : TaskSt := { k with nextSeg := seg, pc := pc }

/-- What a task has after its END (04 R122). -/
def TaskSt.ended (k : TaskSt) : TaskSt := { k with alive := false, copied := true }

/-- The engine is ready to end its segment. -/
structure State.atEnd (s : State) (e : Nat) : Prop where
  ready : petalReady e 1 s
  err : (s.eng e).err = false
  task : (s.eng e).task < s.prog.tasks.length
  calls : (s.eng e).calls = []
  loops : (s.eng e).loops = []
  stack : (s.eng e).stack = []

theorem exec_pSeg (h : s.atEnd e) : ∃ u, s.endsSegment u e ∧ exec (.pSeg e) s = .next (finishSegment e
    (u.updTask (s.eng e).task (·.resumed ((s.eng e).seg + 1) ((s.eng e).pc + 1)))) := by
  have hfold := endsSegment_fold (State.eng_lt_of_running h.ready.2.1)
  obtain ⟨-, htask, -, -, -, hseg, hpc⟩ := hfold.engine
  refine ⟨_, hfold, ?_⟩
  change Host.Outcome.next (runPetalThen e 1 2 atTop (endSeg e) s) = _
  rw [runPetalThen_ok h.ready (atTop_ok h.calls h.loops h.stack), endSeg, ← htask, ← hseg, ← hpc]
  rfl

theorem exec_pEnd (h : s.atEnd e) : ∃ u, s.endsSegment u e ∧
    exec (.pEnd e) s = .next (finishSegment e (copyOut e (s.eng e).task u)) := by
  have hfold := endsSegment_fold (State.eng_lt_of_running h.ready.2.1)
  obtain ⟨herr, htask, -⟩ := hfold.engine
  refine ⟨_, hfold, ?_⟩
  change Host.Outcome.next (runPetalThen e 1 2 atTop (endTask e) s) = _
  rw [runPetalThen_ok h.ready (atTop_ok h.calls h.loops h.stack), endTask, ← htask,
    if_neg (by rw [herr, h.err]; decide)]

/-- SEG of the last segment due (R170). -/
theorem leads_pSeg_last (h : s.atEnd e) (hlast : lastSegment e s) :
    leads (.pSeg e) s (fun t => (t.eng e).running = false ∧ t.mem = s.mem ∧ t.regs = s.regs ∧
      t.task (s.eng e).task = ((s.task (s.eng e).task).resumed ((s.eng e).seg + 1) ((s.eng e).pc + 1)).closed
        ((s.eng e).cycles + 2)) := by
  obtain ⟨u, hu, hexec⟩ := exec_pSeg h
  obtain ⟨herr, htask, -, -, hcycles, -⟩ := hu.engine
  have hlen : (s.eng e).task < u.prog.tasks.length := by
    rw [hu.tasks]
    exact h.task
  obtain ⟨hrunning, hmem, hregs, hfinish⟩ := finishSegment_idle
    (s := u.updTask (s.eng e).task (·.resumed ((s.eng e).seg + 1) ((s.eng e).pc + 1))) (e := e) hu.length
    (herr.trans h.err) (hu.lastSegment hlast) (by rw [State.eng_updTask, htask, State.tasks_length_updTask]; exact hlen)
  rw [State.eng_updTask, htask, State.task_updTask_same hlen, State.task_congr hu.tasks, hcycles] at hfinish
  exact ⟨_, hexec, hrunning, hmem.trans hu.mem, hregs.trans hu.regs, hfinish⟩

theorem TaskSt.closed_maxCycles (k : TaskSt) (cycles : Nat) : (k.closed cycles).maxCycles = max k.maxCycles cycles := by
  rw [TaskSt.closed, Nat.max_def]
  dsimp only
  split <;> split <;> omega

/-- SEG before a later segment of another task (R114, R170). -/
theorem leads_pSeg_later {n g : Nat} {rest : List (Nat × Nat)} (h : s.atEnd e) (hposted : (s.eng e).posted = [0, 0, 0, 0])
    (hdue : (s.eng e).due = (n, g) :: rest) (hn : n ≠ (s.eng e).task) (hhalted : (s.task n).halted = false)
    (halive : (s.task n).alive = true) :
    ∃ v : State, exec (.pSeg e) s = .next (beginSegment e n g v) ∧ (v.eng e).due = rest ∧ e < v.prog.engines.length ∧
      v.prog.active = s.prog.active ∧ v.task n = s.task n := by
  obtain ⟨u, hu, hexec⟩ := exec_pSeg h
  obtain ⟨herr, htask, hposted', hdue', -⟩ := hu.engine
  have hother : (u.updTask (s.eng e).task (·.resumed ((s.eng e).seg + 1) ((s.eng e).pc + 1))).task n = s.task n := by
    rw [State.task_updTask_other hn, State.task_congr hu.tasks]
  obtain ⟨v, hv, hvdue, hvlt, hvactive, hvtask⟩ := finishSegment_later
    (s := u.updTask (s.eng e).task (·.resumed ((s.eng e).seg + 1) ((s.eng e).pc + 1))) (e := e) hu.length
    (herr.trans h.err) (hposted'.trans hposted) (hdue'.trans hdue) (by rw [State.eng_updTask, htask]; exact hn)
    (by rw [hother]; exact hhalted) (by rw [hother]; exact halive)
  exact ⟨v, by rw [hexec, hv], hvdue, hvlt, hvactive.trans hu.active, hvtask.trans hother⟩

theorem bankBase_congr (h : t.prog.live = s.prog.live) (e : Nat) : bankBase t e = bankBase s e := by
  rw [bankBase, bankBase, h]

theorem State.bytes_of_mem (h : t.mem = s.mem) (a n : Nat) : t.bytes a n = s.bytes a n :=
  State.bytes_congr fun i _ => memKept_of_mem h (a + i)

theorem State.mem_setBytes_congr (h : t.mem = s.mem) (a : Nat) (bs : List Byte) :
    (t.setBytes a bs).mem = (s.setBytes a bs).mem := by
  induction bs generalizing s t a with
  | nil => exact h
  | cons b r ih => exact ih (by rw [State.setByte, State.setByte, h]) (a + 1)

/-- The output copy (04 R122). -/
theorem copyOut_spec {u : LoadUnit} {row : TaskRow} (hlt : e < s.prog.engines.length) (hp : p < s.prog.tasks.length)
    (hu : s.prog.active = some u) (hrow : u.tasks[p]? = some row) :
    let t := copyOut e p s
    t.mem = (s.setBytes (bankBase s e + outPool u.split + poolOff u e p)
      (s.bytes (bankBase s e + (regionOf u e p).2) row.outBytes)).mem ∧ t.regs = s.regs ∧
    t.task p = (s.task p).ended ∧ e < t.prog.engines.length ∧ p < t.prog.tasks.length ∧ (t.eng e).err = (s.eng e).err ∧
    (t.eng e).task = (s.eng e).task ∧ (t.eng e).posted = (s.eng e).posted ∧ (t.eng e).due = (s.eng e).due := by
  simp only [copyOut, hu, hrow]
  generalize s.bytes (bankBase s e + (regionOf u e p).2) row.outBytes = img
  generalize bankBase s e + outPool u.split + poolOff u e p = dst
  have hlt' : e < (s.setBytes dst img).prog.engines.length := by rwa [State.prog_setBytes]
  have hp' : p < (s.setBytes dst img).prog.tasks.length := by rwa [State.prog_setBytes]
  have htask : (s.setBytes dst img).task p = s.task p := by rw [State.task, State.prog_setBytes, State.task]
  have hregs := State.regs_setBytes s dst img
  have heng := State.eng_setBytes s dst img e
  generalize s.setBytes dst img = b at *
  refine ⟨rfl, hregs, ?_, ?_, ?_, ?_⟩
  · rw [State.task_updTask_same (s := b.putEng e _) hp', State.task_putEng, htask]
    rfl
  · exact (State.engines_length_putEng ..).symm ▸ hlt'
  · rw [State.tasks_length_updTask]
    exact hp'
  · rw [State.eng_updTask, State.eng_putEng_same _ hlt', heng]
    exact ⟨rfl, rfl, rfl, rfl⟩

/-- END (04 R122). -/
theorem leads_pEnd_last {u : LoadUnit} {row : TaskRow} (h : s.atEnd e) (hlast : lastSegment e s)
    (hu : s.prog.active = some u) (hrow : u.tasks[(s.eng e).task]? = some row) :
    leads (.pEnd e) s (fun t => (t.eng e).running = false ∧ t.regs = s.regs ∧
      (t.task (s.eng e).task).alive = false ∧ (t.task (s.eng e).task).copied = true ∧
      t.mem = (s.setBytes (bankBase s e + outPool u.split + poolOff u e (s.eng e).task)
        (s.bytes (bankBase s e + (regionOf u e (s.eng e).task).2) row.outBytes)).mem) := by
  obtain ⟨v, hv, hexec⟩ := exec_pEnd h
  obtain ⟨herr, htask, hposted, hdue, -⟩ := hv.engine
  have hlen : (s.eng e).task < v.prog.tasks.length := by
    rw [hv.tasks]
    exact h.task
  obtain ⟨hmemc, hregsc, htaskc, hltc, hlenc, herrc, htaskc', hpostedc, hduec⟩ :=
    copyOut_spec hv.length hlen (hv.active.trans hu) hrow
  obtain ⟨hrunning, hmem, hregs, hfinish⟩ := finishSegment_idle hltc (herrc.trans (herr.trans h.err))
    ⟨hpostedc.trans (hposted.trans hlast.1), hduec.trans (hdue.trans hlast.2)⟩ (by rw [htaskc', htask]; exact hlenc)
  rw [htaskc', htask, htaskc] at hfinish
  refine ⟨_, hexec, hrunning, hregs.trans (hregsc.trans hv.regs), by rw [hfinish]; rfl, by rw [hfinish]; rfl, ?_⟩
  rw [hmem, hmemc, bankBase_congr hv.live, State.bytes_of_mem hv.mem]
  exact State.mem_setBytes_congr hv.mem _ _

/-! ### Faults outside an instruction's own effect (05 R173, 04 R128) -/

section
variable (he : e < 8) (hrun : (s.eng e).running = true)
include he hrun

theorem not_idle : ¬(8 ≤ e || !(s.eng e).running) = true := by
  rw [hrun]
  simpa using he

theorem exec_pUnassignedOpcode_fetched : exec (.pUnassignedOpcode e false) s = .next (taskFault e codeOpcode true s) := by
  change execPUnassignedOpcode e false s = _
  unfold execPUnassignedOpcode
  rw [if_neg (not_idle he hrun)]
  simp only [Bool.false_eq_true, if_false]

theorem exec_pUnassignedOpcode_uncorrectable : ∃ m i, exec (.pUnassignedOpcode e true) s =
    .next (sramUe m i e (taskFault e codeOpcode true s)) := by
  change ∃ m i, execPUnassignedOpcode e true s = .next (sramUe m i e (taskFault e codeOpcode true s))
  unfold execPUnassignedOpcode
  rw [if_neg (not_idle he hrun)]
  simp only [if_true]
  exact ⟨_, _, rfl⟩

theorem exec_pCycleFault : exec (.pCycleFault e) s = .next (taskFault e codeCycle false s) :=
  congrArg _ (if_neg (not_idle he hrun))

end

theorem sramUe_role (memory index source : Nat) (s : State) : (sramUe memory index source s).role = roleFailed :=
  (fail_hasFailed (by decide) (by decide) _ _ _).1

theorem taskFault_hard (e code : Nat) (s : State) :
    taskFault e code true s = fail 0x07 0xFF 0xFF true (faultRunning e code s) := by
  unfold taskFault moduleReaction
  rw [if_pos rfl]

theorem taskFault_cycle (e : Nat) (s : State) :
    taskFault e codeCycle false s = fail 0x06 0xFF 0xFF true ((faultRunning e codeCycle s).raise Ev.lckLate) := by
  unfold taskFault moduleReaction
  rw [if_neg (by decide), if_pos rfl]

/-- The faults of an unassigned opcode and of the worst case. -/
theorem leads_faults (hp : s.plainRun e) (he : e < 8) (hrun : (s.eng e).running = true) :
    leads (.pUnassignedOpcode e false) s (fun t =>
      (t.eng e).running = false ∧ tookFault (s.eng e).task codeOpcode s t ∧ hasFailed 0x07 0xFF t) ∧
    leads (.pUnassignedOpcode e true) s (fun t =>
      (t.eng e).running = false ∧ tookFault (s.eng e).task codeOpcode s t ∧ t.role = roleFailed) ∧
    leads (.pCycleFault e) s (fun t =>
      (t.eng e).running = false ∧ tookFault (s.eng e).task codeCycle s t ∧ hasFailed 0x06 0xFF t) := by
  have hlt := State.eng_lt_of_running hrun
  have hspec {code : Nat} {t : State} (h : runKept (faultRunning e code s) t) :
      (t.eng e).running = false ∧ tookFault (s.eng e).task code s t := by
    obtain ⟨-, hrunning, htook, -⟩ := taskFault_spec hp.err hlt hp.task hp.last h
    exact ⟨hrunning, htook⟩
  refine ⟨⟨_, exec_pUnassignedOpcode_fetched he hrun, ?_⟩, ?_, ⟨_, exec_pCycleFault he hrun, ?_⟩⟩
  · obtain ⟨hrunning, htook⟩ := hspec (moduleReaction_runKept codeOpcode true _)
    refine ⟨hrunning, htook, ?_⟩
    rw [taskFault_hard]
    exact fail_hasFailed (by decide) (by decide) ..
  · obtain ⟨m, i, hexec⟩ := exec_pUnassignedOpcode_uncorrectable he hrun
    obtain ⟨hrunning, htook⟩ := hspec ((moduleReaction_runKept codeOpcode true _).trans (sramUe_runKept m i e _))
    exact ⟨_, hexec, hrunning, htook, sramUe_role ..⟩
  · obtain ⟨hrunning, htook⟩ := hspec (moduleReaction_runKept codeCycle false _)
    refine ⟨hrunning, htook, ?_⟩
    rw [taskFault_cycle]
    exact fail_hasFailed (by decide) (by decide) ..

/-- Settles O14: the ends of segments by the fold and what is due after it, the faults by what FAILED leaves alone. -/
theorem petalSegmentEndsAndFaults : Obligations.PetalSegmentEndsAndFaults := by
  unfold Obligations.PetalSegmentEndsAndFaults
  intro e s herr htask
  refine ⟨fun hr hcalls hloops hstack hlast => ?_, fun u row hr hcalls hloops hstack hlast hu hrow => ?_,
    fun u n g rest row i ty hr hcalls hloops hstack hposted hdue hn hg hhalted halive hu hrow hkind hi hty => ?_,
    fun he hrun hlast => leads_faults ⟨herr, htask, hlast⟩ he hrun⟩
  · obtain ⟨t, hexec, hrunning, hmem, hregs, hend⟩ := leads_pSeg_last ⟨hr, herr, htask, hcalls, hloops, hstack⟩ hlast
    refine ⟨t, hexec, hrunning, ?_⟩
    rw [hend]
    exact ⟨rfl, rfl, rfl, TaskSt.closed_maxCycles _ _, hregs, memKept_of_mem hmem⟩
  · obtain ⟨t, hexec, hrunning, hregs, halive, hcopied, hmem⟩ :=
      leads_pEnd_last ⟨hr, herr, htask, hcalls, hloops, hstack⟩ hlast hu hrow
    refine ⟨t, hexec, hrunning, halive, hcopied, hregs, ?_, fun x hx => ?_⟩
    · rw [State.bytes_of_mem hmem, State.bytes_setBytes_same _ _ (State.bytes_length ..)]
    · rw [memKept_of_mem hmem]
      exact State.byte_setBytes_other _ _ _ _ (by rwa [State.bytes_length])
  · obtain ⟨v, hexec, hvdue, hvlt, hvactive, hvtask⟩ :=
      leads_pSeg_later ⟨hr, herr, htask, hcalls, hloops, hstack⟩ hposted hdue hn hhalted halive
    obtain ⟨hrunning, htask', hseg, hdue', hrest⟩ := beginSegment_later hvlt (hvactive.trans hu) hrow hkind hi hty hg
    rw [hvtask] at hrest
    exact ⟨_, hexec, hrunning, htask', hseg, hdue'.trans hvdue, hrest⟩

end Sys2Proof.Machine
end

section
/-! SUPPORT. System calls of Petal (05 R171, R172): the bytes that name them, the flags and times they read, and the requests
they post (04 R124). -/

namespace Sys2Proof.Machine

variable {s : State} {e : Nat} {r : List Quad}

/-! ### Code bytes -/

/-- The instructions that the spec writes out, by their bytes. -/
theorem petalOf_codeBytes (e pc : Nat) : ∀ p ∈ [([0x12, 7, 0, 0], Instr.pLdi e 7 0), ([0xA4, 8, 0, 0x12, 0], .pLoop e 8 18),
      ([0xA6, 0], .pLidx e 0), ([0x19, 0x0E, 8, 0, 8, 0], .pLdxi e 14 8 8), ([0x10, 0x0E, 0, 0], .pLdl e 14 0),
      ([0x40], .pAddF e .f32), ([0x11, 0x0E, 0, 0], .pStl e 14 0), ([0xA5], .pEndloop e), ([0xA1, 0x10, 0], .pBrz e 16),
      ([0x90, 7, 0x0E], .pCvt e 7 14), ([0x46], .pDivF e .f32), ([0x13, 0x0E, 4, 0], .pSti e 14 4), ([0xAA], .pRet e),
      ([0x22], .pAdd e .u32), ([0xAB, 0x10, 0x34, 0x12, 6], .pAlarm e 0x1234 6)],
    (codeOpAt pc (p.1.map (BitVec.ofNat 8))).map (petalOf e) = some p.2 := by
  simp only [List.forall_mem_cons, List.not_mem_nil, false_imp_iff, implies_true, and_true]
  exact ⟨rfl, rfl, rfl, rfl, rfl, rfl, rfl, rfl, rfl, rfl, rfl, rfl, rfl, rfl, rfl⟩

/-! ### Flags and times -/

theorem exec_pGetflags (hr : petalReady e 5 s) (hfit : (s.eng e).stack.length < 16) :
    exec (.pGetflags e) s = .next (petalNext e 5 4 (quad ((if (s.task (s.eng e).task).ovf then 1 else 0) +
      (if (s.task (s.eng e).task).divz then 2 else 0)) :: (s.eng e).stack) s) := by
  refine congrArg _ (runPetal_stack hr rfl ?_)
  simp only [push, if_neg (show ¬16 ≤ (s.past e 5).stack.length from Nat.not_le.mpr hfit)]
  rfl

theorem exec_pClrflags {m : Quad} (hr : petalReady e 5 s) (hst : (s.eng e).stack = m :: r) :
    exec (.pClrflags e) s = .next (petalNext e 5 4 r (s.updTask (s.eng e).task (fun k => { k with
      ovf := k.ovf && !bitOf m.toNat 0, divz := k.divz && !bitOf m.toNat 1 }))) := by
  refine congrArg _ (runPetal_stack hr (State.eng_updTask ..) ?_)
  simp only [State.past_stack, hst]
  rfl

theorem exec_pFrametime (hr : petalReady e 5 s) (hfit : (s.eng e).stack.length < 16) :
    exec (.pFrametime e) s = .next (petalNext e 5 4 (squad (frameTime s) :: (s.eng e).stack) s) := by
  refine congrArg _ (runPetal_stack hr rfl ?_)
  simp only [push, if_neg (show ¬16 ≤ (s.past e 5).stack.length from Nat.not_le.mpr hfit)]
  rfl

theorem exec_pSeginfo {row : TaskRow} (hr : petalReady e 5 s) (hfit : (s.eng e).stack.length < 16)
    (hrow : s.taskRow (s.eng e).task = some row) :
    exec (.pSeginfo e) s = .next (petalNext e 5 4 (quad (row.task * 256 + (s.eng e).seg) :: (s.eng e).stack) s) := by
  refine congrArg _ (runPetal_stack hr rfl ?_)
  simp only [State.past_task, hrow, push, if_neg (show ¬16 ≤ (s.past e 5).stack.length from Nat.not_le.mpr hfit)]
  rfl

/-! ### Requests -/

section
variable {q fam cmd off len : Nat} {lenOk : Bool}

/-- Beyond the frame quota of half the ring's entries nothing is written (R172). -/
theorem requestSys_beyond (hr : petalReady e 5 s) (hlen : lenOk = true) (hfit : (s.eng e).stack.length < 16)
    (hlim : off + len ≤ (s.eng e).instLim) (hquota : ringSize s (requestRing e q) / 2 ≤ (s.eng e).quota.getD q 0) :
    requestSys e q fam cmd off len lenOk s = petalNext e 5 24 (1#64 :: (s.eng e).stack)
      (s.updTask (s.eng e).task (fun k => { k with drop := satTo 65535 (k.drop + 1) })) := by
  refine runPetal_stack hr (State.eng_updTask ..) ?_
  simp only [hlen, Bool.not_true, Bool.false_eq_true, if_false, push,
    if_neg (show ¬16 ≤ (s.past e 5).stack.length from Nat.not_le.mpr hfit),
    if_neg (show ¬(s.past e 5).instLim < off + len from Nat.not_lt.mpr hlim),
    if_pos (show ringSize s (requestRing e q) / 2 ≤ (s.past e 5).quota.getD q 0 from hquota)]
  rfl

/-- The engine after a request is posted for ring pair q. -/
def Engine.posting (g : Engine) (q : Nat) : Engine :=
  { g with seqs := listSet g.seqs q (fun v => (v + 1) % 65536), quota := incrAt g.quota q, posted := incrAt g.posted q }

/-- The state after a descriptor is written at an address for a ring. -/
def State.posted (s : State) (a n p : Nat) (d : List Byte) : State :=
  let s := s.setBytes a d
  { s with prog := { s.prog with postedBy := s.prog.postedBy ++ [(n, p)] } }

/-- Within the quota, and with a free entry, the descriptor is written (R172, 04 R124). -/
theorem requestSys_within (hr : petalReady e 5 s) (hlen : lenOk = true) (hfit : (s.eng e).stack.length < 16)
    (hlim : off + len ≤ (s.eng e).instLim) (hquota : (s.eng e).quota.getD q 0 < ringSize s (requestRing e q) / 2)
    (hfree : ringHeld s (requestRing e q) + (s.eng e).posted.getD q 0 < ringSize s (requestRing e q)) :
    requestSys e q fam cmd off len lenOk s = (s.posted (ringEntry s (requestRing e q)
        (s.get (Reg.rcbProdProd (requestRing e q)) + (s.eng e).posted.getD q 0)) (requestRing e q) (s.eng e).task
        (descriptor fam cmd ((s.eng e).seqs.getD q 0) (s.bytes (bankBase s e + (s.eng e).ib + off) len))).putEng e
      ((((s.past e 5).posting q).setStack (0#64 :: (s.eng e).stack)).spent 24) := by
  refine runPetal_ok hr ?_
  simp only [hlen, Bool.not_true, Bool.false_eq_true, if_false, push, writeDescriptor,
    if_neg (show ¬16 ≤ (s.past e 5).stack.length from Nat.not_le.mpr hfit),
    if_neg (show ¬(s.past e 5).instLim < off + len from Nat.not_lt.mpr hlim),
    if_neg (show ¬ringSize s (requestRing e q) / 2 ≤ (s.past e 5).quota.getD q 0 from Nat.not_le.mpr hquota),
    if_neg (show ¬ringSize s (requestRing e q) ≤ ringHeld s (requestRing e q) + (s.past e 5).posted.getD q 0 from
      Nat.not_le.mpr hfree)]
  rfl

theorem getD_listSet {l : List Nat} (h : q < l.length) (f : Nat → Nat) : (listSet l q f).getD q 0 = f (l.getD q 0) := by
  simp [listSet_eq_modify, List.getD_eq_getElem?_getD, h]

/-- A list that is short enough is fitted with 0 behind it. -/
theorem fitTo_of_le {n : Nat} {bs : List Byte} (h : bs.length ≤ n) : fitTo n bs = bs ++ zeros (n - bs.length) := by
  rw [fitTo, zeros, zeros, List.take_append, List.take_of_length_le h, List.take_replicate, Nat.min_eq_left (Nat.sub_le ..)]

/-- A request's descriptor in bytes (03 R79, R80). -/
theorem descriptor_eq {seq : Nat} {payload : List Byte} (h : payload.length ≤ 48) :
    descriptor fam cmd seq payload = [BitVec.ofNat 8 fam, BitVec.ofNat 8 cmd] ++ leBytes 2 seq ++ leBytes 4 payload.length ++
      leBytes 2 0x20 ++ zeros 4 ++ leBytes 2 1 ++ payload ++ zeros (48 - payload.length) := by
  rw [descriptor, fitTo_of_le h, ← List.append_assoc]
  rfl

theorem descriptor_length {seq : Nat} {payload : List Byte} (h : payload.length ≤ 48) :
    (descriptor fam cmd seq payload).length = 64 := by
  simp only [descriptor_eq h, List.length_append, List.length_cons, List.length_nil, leBytes_length, zeros_length]
  omega

/-- What a posted request leaves (R172). -/
theorem posted_spec {a n p : Nat} {d : List Byte} (hlt : e < s.prog.engines.length) (hq : q < (s.eng e).seqs.length)
    (hq' : q < (s.eng e).quota.length) (hq'' : q < (s.eng e).posted.length) (hd : d.length = 64) :
    let t := (s.posted a n p d).putEng e ((((s.past e 5).posting q).setStack (0#64 :: (s.eng e).stack)).spent 24)
    (t.eng e).stack = 0#64 :: (s.eng e).stack ∧ (t.eng e).pc = (s.eng e).pc + 5 ∧
      (t.eng e).cycles = (s.eng e).cycles + 24 ∧ (t.eng e).seqs.getD q 0 = ((s.eng e).seqs.getD q 0 + 1) % 65536 ∧
      (t.eng e).quota.getD q 0 = (s.eng e).quota.getD q 0 + 1 ∧
      (t.eng e).posted.getD q 0 = (s.eng e).posted.getD q 0 + 1 ∧ t.bytes a 64 = d ∧
      (∀ x, x < a ∨ a + 64 ≤ x → t.byte x = s.byte x) ∧ t.regs = s.regs := by
  have hlt' : e < (s.posted a n p d).prog.engines.length := by
    change e < (s.setBytes a d).prog.engines.length
    rwa [State.prog_setBytes]
  dsimp only
  rw [State.eng_putEng_same _ hlt']
  refine ⟨rfl, rfl, rfl, getD_listSet hq _, getD_listSet hq' _, getD_listSet hq'' _, ?_, fun x hx => ?_,
    State.regs_setBytes s a d⟩
  · have hposted : (s.posted a n p d).bytes a 64 = (s.setBytes a d).bytes a 64 := State.bytes_congr fun _ _ => rfl
    rw [State.bytes_putEng, hposted, State.bytes_setBytes_same s a hd]
  · exact State.byte_setBytes_other d s a x (by rwa [hd])

end

theorem satTo_eq_min (m v : Nat) : satTo m v = min m v := by
  unfold satTo
  split <;> omega

/-- A request SYS that its LEN allows is `requestSys` on its ring pair (R171). -/
theorem exec_request {c : Instr} {q fam cmd off len : Nat} (hc : (c, q, fam, cmd) ∈ [(Instr.pAlarm e off 6, 2, 6, 4),
      (.pLogevt e off len, 3, 9, 4), (.pLtrig e off len, 0, 13, 6), (.pCantx e off len, 1, 15, 4)])
    (hpos : 1 ≤ len) (hmax : len ≤ 48) (halarm : q = 2 → len = 6) :
    exec c s = .next (requestSys e q fam cmd off len true s) := by
  have hlen : (decide (1 ≤ len) && decide (len ≤ 48)) = true := by simp [hpos, hmax]
  simp only [List.mem_cons, List.not_mem_nil, or_false, Prod.mk.injEq] at hc
  rcases hc with ⟨rfl, rfl, rfl, rfl⟩ | ⟨rfl, rfl, rfl, rfl⟩ | ⟨rfl, rfl, rfl, rfl⟩ | ⟨rfl, rfl, rfl, rfl⟩
  · rw [halarm rfl]
    rfl
  · rw [← hlen]
    rfl
  · rw [← hlen]
    rfl
  · rw [← hlen]
    rfl

/-- Settles O16: the code bytes by decoding them, the calls by what they push, the requests by what they write. -/
theorem petalSystemCalls : Obligations.PetalSystemCalls := by
  unfold Obligations.PetalSystemCalls
  refine ⟨petalOf_codeBytes, fun e s hr => ⟨exec_pGetflags hr, fun m r hst => exec_pClrflags hr hst,
    exec_pFrametime hr, fun row hfit hrow => exec_pSeginfo hr hfit hrow,
    fun off len c q fam cmd hc hpos hmax halarm hfit hlim => ⟨fun hquota => ?_, fun hquota hfree hq hq' hq'' => ?_⟩⟩⟩
  · rw [exec_request hc hpos hmax halarm, requestSys_beyond hr rfl hfit hlim hquota]
    simp only [satTo_eq_min]
  · have hpay := State.bytes_length s (bankBase s e + (s.eng e).ib + off) len
    have hspec := posted_spec (State.eng_lt_of_running hr.2.1) hq hq' hq''
      (a := ringEntry s (requestRing e q) (s.get (Reg.rcbProdProd (requestRing e q)) + (s.eng e).posted.getD q 0))
      (n := requestRing e q) (p := (s.eng e).task)
      (descriptor_length (fam := fam) (cmd := cmd) (seq := (s.eng e).seqs.getD q 0) (hpay.trans_le hmax))
    rw [descriptor_eq (hpay.trans_le hmax), hpay] at hspec
    refine ⟨_, ?_, hspec⟩
    rw [exec_request hc hpos hmax halarm, requestSys_within hr rfl hfit hlim hquota hfree,
      descriptor_eq (hpay.trans_le hmax), hpay]

end Sys2Proof.Machine
end

section
/-! SUPPORT. Refutation of a statement on Aster (06 R207): an answer to a C37.118.2 client on a redundant pair leaves on
both of the pair's ports (08 R259), and so as two frames. -/

namespace Sys2Proof.Machine

/-- What leaves on an open port is one frame more in the outbox. -/
theorem portTx_outbox_length {n : Nat} {s : State} (kind : String) (d : List Nat) (h : portOpen s n = true) :
    (portTx n kind d s).outbox.length = s.outbox.length + 1 := by
  simp [portTx, h, State.send]

/-- A port stays open whatever is sent. -/
theorem portOpen_portTx (m n : Nat) (kind : String) (d : List Nat) (s : State) :
    portOpen (portTx m kind d s) n = portOpen s n := by
  unfold portTx
  split <;> rfl

/-- A frame on a redundant pair with both ports open leaves twice (08 R259). -/
theorem netTx_outbox_length_of_pair {n : Nat} {s : State} (kind : String) (d : List Nat) (hport : n < 4)
    (hpair : pairMode (s.conf objNet) (n / 2) ≠ 0) (hlower : portOpen s (2 * (n / 2)) = true)
    (hupper : portOpen s (2 * (n / 2) + 1) = true) : (netTx n kind d s).outbox.length = s.outbox.length + 2 := by
  have hredundant : (decide (n < 4) && pairMode (s.conf objNet) (n / 2) != 0) = true := by simp [hport, hpair]
  unfold netTx
  rw [if_pos hredundant, portTx_outbox_length, portTx_outbox_length]
  · exact hlower
  · rw [portOpen_portTx]
    exact hupper

/-- A client that asks for the header gets it by the stream's port, with its PMU's ID, its own number and STN (06 R207). -/
theorem exec_c37118Command_header {n c : Nat} {s : State} (hn : n < 16) (hon : pmuEnabled (s.conf objAster) n = true)
    (htcp : pmuUdp (s.conf objAster) n = false) (hc : c < s.get (Reg.astPmuClients n)) :
    exec (.c37118Command n c 3) s = .next (netTx (pmuPort (s.conf objAster) n) "C37.118 header"
      ([pmuId (s.conf objAster) n, c] ++ (pmuStn (s.conf objAster) n).map (·.toNat)) s) := by
  change execC37118Command n c 3 s = _
  simp [execC37118Command, hn, hon, htcp, hc]

/-- The ports 0 and 1 are enabled as a PRP pair in ROLE 1; PMU stream 0 is enabled on it over TCP, with one client. -/
def pairedClient : State :=
  let s := State.reset.set (Reg.astPmuClients 0) 1
  { s with cfg := { s.cfg with applied :=
    [(objNet, patch (patch (patch (zeros 192) (portOff 0) [1#8, 1#8]) (portOff 1) [1#8]) (pairOff 0) [1#8]),
      (objAster, zeros (astPmuOff 0) ++ [1#8])] } }

/-- Refutes O53: the header that the client of a TCP stream on a PRP pair asks for leaves on both ports of the pair (08
R259), so that the outbox gains two frames and not, as the clause on C37.118.2 commands has it, one. -/
theorem not_asterCommandsAndStreams : ¬ Obligations.AsterCommandsAndStreams := by
  unfold Obligations.AsterCommandsAndStreams
  intro h
  obtain ⟨-, -, -, -, -, -, -, hclients, -⟩ := h 0 bareRequest pairedClient
  have hon : pmuEnabled (pairedClient.conf objAster) 0 = true := by decide +kernel
  have htcp : pmuUdp (pairedClient.conf objAster) 0 = false := by decide +kernel
  have hclient : 0 < pairedClient.get (Reg.astPmuClients 0) := by decide +kernel
  have hport : pmuPort (pairedClient.conf objAster) 0 = 0 := by decide +kernel
  obtain ⟨-, -, hcommands⟩ := hclients 0 (by decide) hon htcp
  obtain ⟨-, hanswers⟩ := hcommands 0 hclient
  obtain ⟨-, -, hone⟩ := leads_next (hanswers 3 (by decide) (by decide))
    (exec_c37118Command_header (by decide) hon htcp hclient)
  rw [hport, netTx_outbox_length_of_pair _ _ (by decide) (by decide +kernel) (by decide +kernel) (by decide +kernel)]
    at hone
  omega

end Sys2Proof.Machine
end

section
/-! SUPPORT. Refutation of a statement on Larkspur (07 R249): a local report waits for REMOTE_WAIT_MS of the record under
which its event opened, whatever configuration has taken effect since. -/

namespace Sys2Proof.Machine

/-- A local report waits as long as the record under which its event opened says (R236, R249). -/
theorem waitFrames_of_event {s : State} {r : WfReport} {e : LspEvt} (hlocal : r.remote = false)
    (hevent : (allEvents s).find? (isEvent r) = some e) : waitFrames s r = framesOfMs e.waitMs := by
  simp [waitFrames, hlocal, hevent]

/-- Nothing leaves, and nothing is marked, while the wait of every pending report lasts. -/
theorem expireReports_eq_self {k : Nat} {s : State} (hwait : ∀ p ∈ s.lsp.pend, k ≤ p.2 + waitFrames s p.1) :
    expireReports k s = s := by
  have hnone : s.lsp.pend.filter (fun p => decide (p.2 + waitFrames s p.1 < k)) = [] :=
    List.filter_eq_nil_iff.mpr fun p hp => by simpa using hwait p hp
  have hall : s.lsp.pend.filter (fun p => !decide (p.2 + waitFrames s p.1 < k)) = s.lsp.pend :=
    List.filter_eq_self.mpr fun p hp => by simpa using hwait p hp
  simp only [expireReports, hnone, hall, List.foldl_nil]
  rfl

/-- REMOTE_WAIT_EXPIRY changes nothing while the wait of every pending report lasts. -/
theorem exec_remoteWaitExpiry_of_waits {s : State}
    (hwait : ∀ p ∈ s.lsp.pend, frameIndex s.now ≤ p.2 + waitFrames s p.1) : exec .remoteWaitExpiry s = .next s :=
  congrArg Host.Outcome.next (expireReports_eq_self hwait)

/-- An event of group 0 that opened at 250 us under a record of REMOTE_WAIT_MS 100, and has closed. -/
def longWaitEvent : LspEvt where
  group := 0
  time := 250000
  pol := 1
  mode := 0
  amp := 0
  rise := 0
  err := 0
  cls := 0
  dir := 0
  flags := 1
  opened := false
  waitMs := 100

/-- The report of `longWaitEvent` is pending since the snapshot of frame 1. Since then a record of REMOTE_WAIT_MS 50, the
default, has taken effect, and 50.5 ms have passed: frame 202 begins. -/
def waitingReport : State :=
  let s := State.reset.setNow 50500000
  { s with lsp := { s.lsp with
    events := [longWaitEvent], pend := [(wfReportOf (s.conf objLsp) longWaitEvent, 1)] } }

/-- Frame 202 begins in `waitingReport`. -/
theorem frameIndex_waitingReport : frameIndex waitingReport.now = 202 :=
  congrArg frameIndex (State.now_setNow State.reset 50500000 (by decide))

/-- The report of `longWaitEvent` still waits: its 100 ms, 400 frames, end with frame 401. -/
theorem waitingReport_waits :
    ∀ p ∈ waitingReport.lsp.pend, frameIndex waitingReport.now ≤ p.2 + waitFrames waitingReport p.1 := by
  intro p hp
  obtain rfl := List.mem_singleton.mp hp
  rw [frameIndex_waitingReport, waitFrames_of_event (e := longWaitEvent) rfl (by decide +kernel)]
  decide

/-- Refutes O54: a local report of an event that opened under REMOTE_WAIT_MS 100 stays pending for those 100 ms (R249). The
clause on REMOTE_WAIT_EXPIRY has every report expire by the record in effect, here after 50 ms. -/
theorem not_larkspurCommandsAndLanes : ¬ Obligations.LarkspurCommandsAndLanes := by
  unfold Obligations.LarkspurCommandsAndLanes
  intro h
  obtain ⟨-, -, -, -, -, -, -, -, -, -, -, -, -, -, hexpiry, -⟩ := h 0 bareRequest waitingReport
  obtain ⟨-, -, hpend, -⟩ := leads_next hexpiry (exec_remoteWaitExpiry_of_waits waitingReport_waits)
  have hwaitMs : lspWaitMs (waitingReport.conf objLsp) = 50 := by decide +kernel
  rw [frameIndex_waitingReport, hwaitMs] at hpend
  exact absurd hpend (List.cons_ne_nil _ _)

end Sys2Proof.Machine
end

section
/-! SUPPORT. The MMS server (08 R277, R278; 17 R490): what its answers leave of the state, whom it serves, and what
associations, files and report control blocks become. -/

namespace Sys2Proof.Machine

variable {s : State} {a : Nat}

/-! ### One entry of a list -/

theorem getD_listSet_same {α : Type} {l : List α} {i : Nat} (h : i < l.length) (f : α → α) (d : α) :
    (listSet l i f).getD i d = f (l.getD i d) := by
  simp [listSet_eq_modify, List.getD_eq_getElem?_getD, h]

theorem getD_listSet_other {α : Type} (l : List α) {i j : Nat} (h : j ≠ i) (f : α → α) (d : α) :
    (listSet l i f).getD j d = l.getD j d := by
  simp [listSet_eq_modify, List.getD_eq_getElem?_getD, Ne.symm h]

/-! ### What leaves on a port (08 R259) -/

theorem portTx_frame (n : Nat) (kind : String) (d : List Nat) (s : State) :
    ∃ o, portTx n kind d s = { s with outbox := o } := by
  unfold portTx
  split
  · exact ⟨_, rfl⟩
  · exact ⟨s.outbox, rfl⟩

/-- A frame that leaves changes the outbox and the sequence numbers of the redundant pairs. -/
theorem netTx_frame (n : Nat) (kind : String) (d : List Nat) (s : State) :
    ∃ q o, netTx n kind d s = { s with net := { s.net with redSeq := q }, outbox := o } := by
  unfold netTx
  split
  · extract_lets p q net u
    obtain ⟨o, ho⟩ := portTx_frame (2 * p) kind (q :: d) u
    obtain ⟨o', ho'⟩ := portTx_frame (2 * p + 1) kind (q :: d) { u with outbox := o }
    exact ⟨_, o', by rw [ho, ho']⟩
  · obtain ⟨o, ho⟩ := portTx_frame n kind d s
    exact ⟨s.net.redSeq, o, ho⟩

/-- On an open port outside a redundant pair one frame leaves. -/
theorem netTx_single {n : Nat} (kind : String) (d : List Nat) (hopen : portOpen s n = true)
    (hsingle : 4 ≤ n ∨ pairMode (s.conf objNet) (n / 2) = 0) : netTx n kind d s = s.send (.net n kind d) := by
  have hpair : (decide (n < 4) && pairMode (s.conf objNet) (n / 2) != 0) = false := by
    rcases hsingle with h | h
    · simp [Nat.not_lt.mpr h]
    · simp [h]
  simp [netTx, hpair, portTx, hopen]

/-! ### Answers to an association -/

theorem mmsSend_frame (a : Nat) (kind : String) (d : List Nat) (s : State) :
    ∃ q o, mmsSend a kind d s = { s with net := { s.net with redSeq := q }, outbox := o } :=
  netTx_frame _ _ _ _

@[simp] theorem mmsSend_regs (a : Nat) (kind : String) (d : List Nat) (s : State) :
    (mmsSend a kind d s).regs = s.regs := by
  obtain ⟨_, _, h⟩ := mmsSend_frame a kind d s; rw [h]

@[simp] theorem mmsSend_mem (a : Nat) (kind : String) (d : List Nat) (s : State) :
    (mmsSend a kind d s).mem = s.mem := by
  obtain ⟨_, _, h⟩ := mmsSend_frame a kind d s; rw [h]

@[simp] theorem mmsSend_nvs (a : Nat) (kind : String) (d : List Nat) (s : State) :
    (mmsSend a kind d s).nvs = s.nvs := by
  obtain ⟨_, _, h⟩ := mmsSend_frame a kind d s; rw [h]

@[simp] theorem mmsSend_mms (a : Nat) (kind : String) (d : List Nat) (s : State) :
    (mmsSend a kind d s).net.mms = s.net.mms := by
  obtain ⟨_, _, h⟩ := mmsSend_frame a kind d s; rw [h]

@[simp] theorem mmsSend_files (a : Nat) (kind : String) (d : List Nat) (s : State) :
    (mmsSend a kind d s).net.files = s.net.files := by
  obtain ⟨_, _, h⟩ := mmsSend_frame a kind d s; rw [h]

@[simp] theorem mmsSend_rcbs (a : Nat) (kind : String) (d : List Nat) (s : State) :
    (mmsSend a kind d s).net.rcbs = s.net.rcbs := by
  obtain ⟨_, _, h⟩ := mmsSend_frame a kind d s; rw [h]

theorem mmsSend_memKept (a : Nat) (kind : String) (d : List Nat) (s : State) : memKept s (mmsSend a kind d s) :=
  memKept_of_mem (mmsSend_mem a kind d s)

/-- The port of association `a` is open and stands alone, so that what is sent to it leaves as one frame. -/
def State.reaches (s : State) (a : Nat) : Prop :=
  portOpen s (s.mmsAssoc a).port = true ∧
    (4 ≤ (s.mmsAssoc a).port ∨ pairMode (s.conf objNet) ((s.mmsAssoc a).port / 2) = 0)

theorem mmsSend_single (kind : String) (d : List Nat) (h : s.reaches a) :
    mmsSend a kind d s = s.send (.net (s.mmsAssoc a).port ("MMS " ++ kind) (a :: d)) :=
  netTx_single _ _ h.1 h.2

/-- What is sent to an association leaves it within reach. -/
theorem mmsSend_reaches (kind : String) (d : List Nat) (h : s.reaches a) : (mmsSend a kind d s).reaches a := by
  rw [mmsSend_single kind d h]
  exact h

theorem mmsSend_outbox_length (kind : String) (d : List Nat) (h : s.reaches a) :
    (mmsSend a kind d s).outbox.length = s.outbox.length + 1 := by
  rw [mmsSend_single kind d h]
  exact List.length_append

/-- Several answers leave what one leaves. -/
theorem foldl_mmsSend_frame {α : Type} (a : Nat) (kind : String) (d : α → List Nat) (l : List α) (s : State) :
    ∃ q o, l.foldl (fun s e => mmsSend a kind (d e) s) s = { s with net := { s.net with redSeq := q }, outbox := o } := by
  induction l generalizing s with
  | nil => exact ⟨s.net.redSeq, s.outbox, rfl⟩
  | cons e r ih =>
    obtain ⟨q, o, h⟩ := mmsSend_frame a kind (d e) s
    obtain ⟨q', o', h'⟩ := ih (mmsSend a kind (d e) s)
    exact ⟨q', o', by rw [List.foldl_cons, h', h]⟩

theorem foldl_mmsSend_outbox_length {α : Type} (kind : String) (d : α → List Nat) (l : List α) (h : s.reaches a) :
    (l.foldl (fun s e => mmsSend a kind (d e) s) s).outbox.length = s.outbox.length + l.length := by
  induction l generalizing s with
  | nil => rfl
  | cons e r ih =>
    rw [List.foldl_cons, ih (mmsSend_reaches kind (d e) h), mmsSend_outbox_length kind (d e) h, List.length_cons]
    omega

/-! ### Whom the server serves -/

section Service

variable {c : Instr} {role : Nat} {kind : String} {f : State → State}

theorem mmsServe_granted (hmay : mmsMay s a role = true) : mmsServe a role kind f s = f s := by
  rw [mmsServe, if_pos hmay]

/-- Nothing is served to an association that is not open. -/
theorem exec_service_closed (hserve : exec c s = .next (mmsServe a role kind f s))
    (hclosed : (s.mmsAssoc a).opened = false) : exec c s = .next s := by
  rw [hserve, mmsServe, mmsMay, hclosed]
  rfl

/-- An open association without the role is told that it is refused. -/
theorem exec_service_refused (hserve : exec c s = .next (mmsServe a role kind f s))
    (hopen : (s.mmsAssoc a).opened = true) (hrole : mayIssue (s.mmsAssoc a).roles role = false) :
    exec c s = .next (mmsSend a (kind ++ " refused") [] s) := by
  rw [hserve, mmsServe, mmsMay, hopen, hrole]
  rfl

theorem leads_service_refused (hserve : exec c s = .next (mmsServe a role kind f s))
    (hopen : (s.mmsAssoc a).opened = true) (hrole : mayIssue (s.mmsAssoc a).roles role = false) :
    leads c s (fun t => t.regs = s.regs ∧ memKept s t ∧ t.nvs = s.nvs ∧ t.net.files = s.net.files ∧
      ∃ k, t = mmsSend a k [] s) :=
  ⟨_, exec_service_refused hserve hopen hrole, mmsSend_regs .., mmsSend_memKept _ _ _ _, mmsSend_nvs .., mmsSend_files ..,
    _, rfl⟩

/-- A service that only answers. -/
theorem leads_service_answer {k : String} {d : List Nat}
    (hserve : exec c s = .next (mmsServe a role kind f s)) (hmay : mmsMay s a role = true)
    (hanswer : f s = mmsSend a k d s) :
    leads c s (fun t => t.regs = s.regs ∧ memKept s t ∧ ∃ k d, t = mmsSend a k d s) := by
  rw [mmsServe_granted hmay, hanswer] at hserve
  exact ⟨_, hserve, mmsSend_regs .., mmsSend_memKept _ _ _ _, k, d, rfl⟩

end Service

/-! ### Associations -/

/-- The answer to a client that is let in. -/
theorem leads_mmsAssociate {x : Handshake} (ha : a < s.net.mms.length)
    (hport : portOpen s x.port = true) (hmms : portMms (s.conf objNet) x.port = true) (hadmits : mmsAdmits x s = true)
    (hfree : (List.range 8).find? (fun i => !(s.mmsAssoc i).opened) = some a) :
    leads (.mmsAssociate x) s (fun t => t.regs = s.regs ∧ memKept s t ∧
      t.mmsAssoc a = ⟨true, x.port, rolesOf s x.roles, x.tcp == mmsPlainPort⟩ ∧
      ∀ b, b ≠ a → t.mmsAssoc b = s.mmsAssoc b) := by
  refine ⟨mmsSend a "Associate" [] (s.updNet fun n => { n with
    mms := listSet n.mms a (fun _ => ⟨true, x.port, rolesOf s x.roles, x.tcp == mmsPlainPort⟩) }), ?_,
    mmsSend_regs .., memKept_of_mem (mmsSend_mem ..), ?_, fun b hb => ?_⟩
  · change execMmsAssociate x s = _
    simp [execMmsAssociate, hport, hmms, hfree, hadmits]
  · rw [State.mmsAssoc, mmsSend_mms]
    exact getD_listSet_same ha _ _
  · rw [State.mmsAssoc, mmsSend_mms]
    exact getD_listSet_other _ hb _ _

theorem exec_mmsAssociate_unserved {x : Handshake} (h : (portOpen s x.port && portMms (s.conf objNet) x.port) = false) :
    exec (.mmsAssociate x) s = .next s := by
  change execMmsAssociate x s = _
  simp only [execMmsAssociate, h, Bool.not_false, if_true]

/-- A client that is not let in, or finds no association free, is refused. -/
theorem exec_mmsAssociate_refused {x : Handshake} (hport : portOpen s x.port = true)
    (hmms : portMms (s.conf objNet) x.port = true)
    (h : mmsAdmits x s = false ∨ (List.range 8).find? (fun i => !(s.mmsAssoc i).opened) = none) :
    exec (.mmsAssociate x) s = .next (netTx x.port "MMS Associate refused" [] s) := by
  change execMmsAssociate x s = _
  rcases h with hadmits | hnone
  · cases hfree : (List.range 8).find? (fun i => !(s.mmsAssoc i).opened) <;>
      simp [execMmsAssociate, hport, hmms, hadmits, hfree]
  · simp [execMmsAssociate, hport, hmms, hnone]

/-- The end of an association closes it and its files, and leaves the others. -/
theorem mmsClose_spec (a : Nat) (s : State) :
    (mmsClose a s).regs = s.regs ∧ (mmsClose a s).mem = s.mem ∧ ((mmsClose a s).mmsAssoc a).opened = false ∧
      (∀ b, b ≠ a → (mmsClose a s).mmsAssoc b = s.mmsAssoc b) ∧
      (mmsClose a s).net.files = s.net.files.filter (fun f => !(f.assoc == a)) := by
  refine ⟨rfl, rfl, ?_, fun b hb => getD_listSet_other _ hb _ _, rfl⟩
  change ((listSet s.net.mms a (fun _ => {})).getD a {}).opened = false
  by_cases ha : a < s.net.mms.length
  · rw [getD_listSet_same ha]
  · rw [listSet_eq_modify, List.getD_eq_default _ _ (by simpa using ha)]

/-- MMS_CONCLUDE and MMS_ABORT end an open association. -/
theorem leads_mmsClose {c : Instr} {u : State} (hexec : exec c s = .next (mmsClose a u)) (hregs : u.regs = s.regs)
    (hmem : u.mem = s.mem) (hmms : u.net.mms = s.net.mms) (hfiles : u.net.files = s.net.files) :
    leads c s (fun t => t.regs = s.regs ∧ memKept s t ∧ (t.mmsAssoc a).opened = false ∧
      (∀ b, b ≠ a → t.mmsAssoc b = s.mmsAssoc b) ∧ t.net.files = s.net.files.filter (fun f => !(f.assoc == a))) := by
  obtain ⟨hcregs, hcmem, hclosed, hothers, hcfiles⟩ := mmsClose_spec a u
  refine ⟨_, hexec, hcregs.trans hregs, memKept_of_mem (hcmem.trans hmem), hclosed, fun b hb => ?_, hfiles ▸ hcfiles⟩
  rw [hothers b hb, State.mmsAssoc, State.mmsAssoc, hmms]

theorem exec_mmsConclude (hopen : (s.mmsAssoc a).opened = true) :
    exec (.mmsConclude a) s = .next (mmsClose a (mmsSend a "Conclude" [] s)) := by
  change execMmsConclude a s = _
  rw [execMmsConclude, if_pos hopen]

theorem exec_mmsConclude_closed (hclosed : (s.mmsAssoc a).opened = false) : exec (.mmsConclude a) s = .next s := by
  change execMmsConclude a s = _
  rw [execMmsConclude, hclosed]
  rfl

/-! ### Values of the last output gather (R278) -/

theorem exec_mmsRead {x : Nat} {v : Nat × List Byte} (hmay : mmsMay s a 0 = true) (hv : mmsValue s x = some v) :
    exec (.mmsRead a x) s = .next (mmsSend a "Read" (x :: timeQuality s :: asNats v.2) s) := by
  change execMmsRead a x s = _
  simp only [execMmsRead, mmsServe_granted hmay, hv]

theorem exec_mmsGetVariableAccessAttributes {x : Nat} {v : Nat × List Byte} (hmay : mmsMay s a 0 = true)
    (hv : mmsValue s x = some v) : exec (.mmsGetVariableAccessAttributes a x) s =
      .next (mmsSend a "GetVariableAccessAttributes" [x, v.1] s) := by
  change execMmsGetVariableAccessAttributes a x s = _
  simp only [execMmsGetVariableAccessAttributes, mmsServe_granted hmay, hv]

/-! ### Files (17 R490) -/

/-- A record that is opened counts as being read. -/
theorem leads_mmsFileOpen {x : Nat} (hmay : mmsMay s a 0 = true) (hrec : ∃ c ∈ s.nvs.arch, c.id = x) :
    leads (.mmsFileOpen a x) s (fun t => t.regs = s.regs ∧ memKept s t ∧
      t.net.files = s.net.files ++ [⟨s.net.nextFrsm, a, x, 0⟩] ∧ t.nvs.reading = x :: s.nvs.reading) := by
  have hany : s.nvs.arch.any (fun r => r.id == x) = true := by simpa [List.any_eq_true] using hrec
  refine ⟨mmsSend a "FileOpen" [s.net.nextFrsm]
    { s.updNet (fun n => { n with files := n.files ++ [⟨s.net.nextFrsm, a, x, 0⟩], nextFrsm := s.net.nextFrsm + 1 }) with
      nvs := { s.nvs with reading := x :: s.nvs.reading } }, ?_,
    mmsSend_regs .., memKept_of_mem (mmsSend_mem ..), mmsSend_files .., congrArg NvsSt.reading (mmsSend_nvs ..)⟩
  change execMmsFileOpen a x s = _
  simp only [execMmsFileOpen, mmsServe_granted hmay, hany, if_true]
  rfl

/-- The files under one handle stand at a position. -/
def filesAt (fr pos : Nat) (l : List MmsFile) : List MmsFile :=
  l.map (fun g => if g.frsm = fr then { g with pos := pos } else g)

theorem pos_of_mem_filesAt {fr pos : Nat} {l : List MmsFile} {g : MmsFile} (hg : g ∈ filesAt fr pos l)
    (hfr : g.frsm = fr) : g.pos = pos := by
  obtain ⟨g', -, rfl⟩ := List.mem_map.mp hg
  by_cases h : g'.frsm = fr
  · rw [if_pos h]
  · rw [if_neg h] at hfr
    contradiction

/-- The files under one handle have been read up to a position. -/
def filesRead (fr pos : Nat) (s : State) : State := s.updNet fun x => { x with files := filesAt fr pos x.files }

theorem exec_mmsFileRead {fr n : Nat} {f : MmsFile} {c : ArchRec} (hmay : mmsMay s a 0 = true)
    (hfile : s.net.files.find? (fun f => f.frsm == fr && f.assoc == a) = some f)
    (hrec : s.nvs.arch.find? (fun c => c.id == f.recId) = some c) (hwhole : c.damaged = false) :
    exec (.mmsFileRead a fr n) s = .next (mmsSend a "FileRead" (fr :: asNats ((c.content.drop f.pos).take n))
      (filesRead fr (f.pos + ((c.content.drop f.pos).take n).length) s)) := by
  change execMmsFileRead a fr n s = _
  simp only [execMmsFileRead, mmsServe_granted hmay, hfile, hrec, hwhole]
  rfl

theorem leads_mmsFileRead {fr n : Nat} {f : MmsFile} {c : ArchRec} (hmay : mmsMay s a 0 = true)
    (hfile : s.net.files.find? (fun f => f.frsm == fr && f.assoc == a) = some f)
    (hrec : s.nvs.arch.find? (fun c => c.id == f.recId) = some c) (hwhole : c.damaged = false) :
    leads (.mmsFileRead a fr n) s (fun t => t.regs = s.regs ∧ memKept s t ∧ t.nvs = s.nvs ∧
      (∃ u, u.outbox = s.outbox ∧ u.regs = s.regs ∧
        t = mmsSend a "FileRead" (fr :: asNats ((c.content.drop f.pos).take n)) u) ∧
      ∀ g ∈ t.net.files, g.frsm = fr → g.pos = f.pos + ((c.content.drop f.pos).take n).length) := by
  refine ⟨_, exec_mmsFileRead hmay hfile hrec hwhole, mmsSend_regs .., memKept_of_mem (mmsSend_mem ..), mmsSend_nvs ..,
    ⟨filesRead fr _ s, rfl, rfl, rfl⟩, fun g hg hfr => ?_⟩
  rw [mmsSend_files] at hg
  exact pos_of_mem_filesAt hg hfr

theorem leads_mmsFileClose (fr : Nat) (hmay : mmsMay s a 0 = true) :
    leads (.mmsFileClose a fr) s (fun t => t.regs = s.regs ∧ memKept s t ∧
      t.net.files = s.net.files.filter (fun f => !(f.frsm == fr && f.assoc == a))) := by
  refine ⟨mmsSend a "FileClose" [fr] (closeFiles (fun f => f.frsm == fr && f.assoc == a) s), ?_,
    mmsSend_regs .., memKept_of_mem (mmsSend_mem ..), mmsSend_files ..⟩
  change execMmsFileClose a fr s = _
  rw [execMmsFileClose, mmsServe_granted hmay]

/-! ### Report control blocks (R277) -/

/-- A report control block of another association is refused. -/
theorem leads_mmsWriteRcb_held {k : Nat} {v : Bool} {b : List Byte} (hmay : mmsMay s a 2 = true)
    (hused : (s.net.rcbs.getD k {}).owner ≠ 0xFF) (hother : (s.net.rcbs.getD k {}).owner ≠ a) :
    leads (.mmsWriteRcb a k v b) s (fun t => t.regs = s.regs ∧ memKept s t ∧ t.net.rcbs = s.net.rcbs ∧
      t = mmsSend a "Write refused" [k] s) := by
  refine ⟨_, ?_, mmsSend_regs .., mmsSend_memKept _ _ _ _, mmsSend_rcbs .., rfl⟩
  change execMmsWriteRcb a k v b s = _
  rw [execMmsWriteRcb, mmsServe_granted hmay, if_pos (by simp [-List.getD_eq_getElem?_getD, hused, hother])]

/-- What a write that is accepted sends: the answer, and with it the entries of a block that is enabled. -/
def rcbAnswered (a k : Nat) (v : Bool) (s : State) : State :=
  if v then (s.net.rcbs.getD k {}).entries.foldl (fun s e => mmsSend a "InformationReport" (k :: asNats e) s)
    (mmsSend a "Write" [k] s)
  else mmsSend a "Write" [k] s

theorem rcbAnswered_frame (a k : Nat) (v : Bool) (s : State) :
    ∃ q o, rcbAnswered a k v s = { s with net := { s.net with redSeq := q }, outbox := o } := by
  obtain ⟨q, o, h⟩ := mmsSend_frame a "Write" [k] s
  cases v with
  | false => exact ⟨q, o, h⟩
  | true =>
    obtain ⟨q', o', h'⟩ := foldl_mmsSend_frame a "InformationReport" (fun e : List Byte => k :: asNats e)
      (s.net.rcbs.getD k {}).entries (mmsSend a "Write" [k] s)
    exact ⟨q', o', by rw [rcbAnswered, if_pos rfl, h', h]⟩

theorem rcbAnswered_outbox_length (k : Nat) (v : Bool) (h : s.reaches a) :
    (rcbAnswered a k v s).outbox.length =
      s.outbox.length + 1 + (if v then (s.net.rcbs.getD k {}).entries.length else 0) := by
  cases v with
  | false => exact mmsSend_outbox_length _ _ h
  | true =>
    rw [rcbAnswered, if_pos rfl, foldl_mmsSend_outbox_length _ _ _ (mmsSend_reaches _ _ h), mmsSend_outbox_length _ _ h]
    rfl

/-- A report control block after a write of association `a`. -/
def MmsRcb.written (a k : Nat) (v : Bool) (b : List Byte) (r : MmsRcb) : MmsRcb :=
  { r with enabled := v || (k < 16 && r.enabled), owner := if v then a else 0xFF, value := b,
           entries := if v then [] else r.entries }

theorem exec_mmsWriteRcb {k : Nat} {v : Bool} {b : List Byte} (hmay : mmsMay s a 2 = true) (hk : k < 32)
    (hfree : (s.net.rcbs.getD k {}).owner = 0xFF ∨ (s.net.rcbs.getD k {}).owner = a) :
    exec (.mmsWriteRcb a k v b) s = .next ((rcbAnswered a k v s).updNet fun x => { x with
      rcbs := listSet x.rcbs k (MmsRcb.written a k v b) }) := by
  change execMmsWriteRcb a k v b s = _
  rw [execMmsWriteRcb, mmsServe_granted hmay, if_neg]
  · rfl
  · rcases hfree with h | h <;> simp [-List.getD_eq_getElem?_getD, h, hk]

/-- A report control block that is free or the association's own takes the value written. -/
theorem leads_mmsWriteRcb {k : Nat} {v : Bool} {b : List Byte} (hmay : mmsMay s a 2 = true) (hk : k < 32)
    (hlen : k < s.net.rcbs.length) (hfree : (s.net.rcbs.getD k {}).owner = 0xFF ∨ (s.net.rcbs.getD k {}).owner = a) :
    leads (.mmsWriteRcb a k v b) s (fun t => t.regs = s.regs ∧ memKept s t ∧
      t.net.rcbs.getD k {} = (s.net.rcbs.getD k {}).written a k v b ∧
      (s.reaches a → t.outbox.length =
        s.outbox.length + 1 + (if v then (s.net.rcbs.getD k {}).entries.length else 0))) := by
  refine ⟨_, exec_mmsWriteRcb hmay hk hfree, ?_, ?_, ?_, fun h => rcbAnswered_outbox_length k v h⟩ <;>
    obtain ⟨q, o, h⟩ := rcbAnswered_frame a k v s <;> rw [h]
  · rfl
  · exact memKept_of_mem rfl
  · exact getD_listSet_same hlen _ _

/-! ### The statement -/

/-- Settles O56: each clause by the rule of its service. -/
theorem theMmsServer : Obligations.TheMmsServer := by
  unfold Obligations.TheMmsServer
  intro a s ha
  refine ⟨fun x h => exec_mmsAssociate_unserved h, ?associate, ?answer, ?ends, ?closed, ?refused, ?reads, ?rcb⟩
  case associate =>
    rintro x hport hmms ok rfl
    exact ⟨leads_mmsAssociate ha hport hmms, exec_mmsAssociate_refused hport hmms⟩
  case answer =>
    rintro k d p rfl hopen hsingle
    exact mmsSend_single k d ⟨hopen, hsingle⟩
  case ends =>
    simp only [List.forall_mem_cons, List.not_mem_nil, IsEmpty.forall_iff, implies_true, and_true]
    exact ⟨fun hopen => leads_mmsClose (exec_mmsConclude hopen) (mmsSend_regs ..) (mmsSend_mem ..) (mmsSend_mms ..)
      (mmsSend_files ..), fun _ => leads_mmsClose (u := s) rfl rfl rfl rfl rfl⟩
  case closed =>
    intro x y l v
    simp only [List.forall_mem_cons, List.not_mem_nil, IsEmpty.forall_iff, implies_true, and_true]
    refine ⟨exec_mmsConclude_closed, ?_, ?_, ?_, ?_, ?_, ?_, ?_, ?_, ?_, ?_⟩ <;> exact fun h => exec_service_closed rfl h
  case refused =>
    intro x y l v hopen
    simp only [List.forall_mem_cons, List.not_mem_nil, IsEmpty.forall_iff, implies_true, and_true]
    constructor
    · refine ⟨?_, ?_, ?_, ?_, ?_, ?_, ?_, ?_, ?_⟩ <;> exact fun hrole => leads_service_refused rfl hopen hrole
    · exact fun hrole => ⟨_, exec_service_refused rfl hopen hrole, mmsSend_regs .., mmsSend_memKept _ _ _ _,
        mmsSend_rcbs .., rfl⟩
  case reads =>
    intro hmay
    refine ⟨fun l => ?_, fun x v hv => ⟨exec_mmsRead hmay hv, exec_mmsGetVariableAccessAttributes hmay hv⟩,
      fun x => leads_mmsFileOpen hmay, fun fr n f c => leads_mmsFileRead hmay, fun fr => leads_mmsFileClose fr hmay⟩
    simp only [List.forall_mem_cons, List.not_mem_nil, IsEmpty.forall_iff, implies_true, and_true]
    refine ⟨?_, ?_, ?_, ?_⟩ <;> exact leads_service_answer rfl hmay rfl
  case rcb =>
    intro k v b hmay hk hlen
    refine ⟨fun hfree => ?_, leads_mmsWriteRcb_held hmay⟩
    obtain ⟨t, hexec, hregs, hmem, hrcb, hsent⟩ := leads_mmsWriteRcb (v := v) (b := b) hmay hk hlen hfree
    refine ⟨t, hexec, hregs, hmem, by rw [hrcb]; rfl, by rw [hrcb]; rfl, fun hv => by rw [hrcb, hv]; rfl, ?_⟩
    rintro p rfl hopen hsingle
    exact hsent ⟨hopen, hsingle⟩

end Sys2Proof.Machine
end

section
/-! SUPPORT. Refutation of a statement on the networks (08 R274): the time allowed to live of a subscription may end past the
cut-off of the frame, and the cut-off that then falls first brings the lines of the frame's write log into the change bank
(04 R142, R144). -/

namespace Sys2Proof.Machine

/-- `publishingUnit` with no task, and with one data symbol of a byte at the start of the bank of engine 0. -/
def loggedUnit : LoadUnit :=
  { publishingUnit with
    tasks := [], stations := [], outs := []
    insts := [⟨0, 0, 0, 64, 0, 0⟩]
    syms := [⟨1, 6, 2, 0, 0, 0, 0, 1, []⟩] }

/-- Frame 0 has begun. Subscription 0 is alive until 224 999 ns, so that it expires at the cut-off. A change to
`loggedUnit` is ready for its swap; engine 0 has written 1 to the symbol in the live bank, and line 0 is in the write log. -/
def loggedLine : State :=
  let s := (State.reset.set (Reg.netGsubAlive 0) 1).setByte (bankOf 0 0) 1#8
  { s with
    time := { s.time with ticked := true }
    net := { s.net with subs := [{ expiry := 224999 }] }
    prog := { s.prog with
      state := .changing
      active := some loggedUnit
      staged := some loggedUnit
      change := some { stage := 2 }
      engines := [{ lines := [0] }] } }

/-- A subscription that is alive expires 1 ns after its time, once everything until then has happened. -/
theorem exec_gooseTalExpiry {i : Nat} {s : State} (hi : i < 128) (halive : s.on (Reg.netGsubAlive i) = true) :
    exec (.gooseTalExpiry i) s = .next (reviewStations
      ((arrive ((s.gsub i).expiry + 1) s).setBit (Reg.netGsubAlive i) false)) := by
  change execGooseTalExpiry i s = _
  rw [execGooseTalExpiry, if_neg (by simp [hi, halive])]

/-- Refutes O55: the expiry of a subscription at the cut-off does not keep memory, for the cut-off that falls first lets
the change bank catch up with a symbol written in the frame (04 R142, R144). -/
theorem not_stationNetworkFrames : ¬ Obligations.StationNetworkFrames := by
  unfold Obligations.StationNetworkFrames
  intro h
  obtain ⟨-, hexpiry, -⟩ := h loggedLine
  have halive : loggedLine.on (Reg.netGsubAlive 0) = true := by decide +kernel
  obtain ⟨hmem, -⟩ := leads_next ((hexpiry 0 (by decide)).1 halive) (exec_gooseTalExpiry (by decide) halive)
  have hbefore : loggedLine.byte (bankOf 1 0) = 0#8 := by decide +kernel
  have hkept := (hmem (bankOf 1 0)).trans hbefore
  exact absurd hkept (by decide +kernel)

end Sys2Proof.Machine
end

section
/-! SUPPORT. Bits of a register, and what a function of the field stages leaves (09). `State.Writes fs s t` says that `t`
comes from `s` by writes to the listed fields alone; one lemma per function of the model gives it, and its proof follows
the function's definition. -/

namespace Sys2Proof.Machine

/-! ### Bits -/

theorem bitOf_eq_testBit (v i : Nat) : bitOf v i = v.testBit i := by
  rw [Nat.testBit_eq_decide_div_mod_eq]
  rfl

theorem bitOf_withBit (v n : Nat) (b : Bool) (i : Nat) : bitOf (withBit v n b) i = if i = n then b else bitOf v i := by
  simp only [bitOf_eq_testBit, testBit_withBit]

/-- A bit within a field reads what was written to it. -/
theorem State.bitOf_get_set (s : State) {f : Fld} (v : Nat) {i : Nat} (hok : f.ok = true) (hi : i < f.hi + 1 - f.lo) :
    bitOf ((s.set f v).get f) i = bitOf v i := by
  rw [State.get_set_same _ _ _ hok, bitOf_eq_testBit, bitOf_eq_testBit, Nat.testBit_mod_two_pow, decide_eq_true hi,
    Bool.true_and]

theorem bitmap_succ (n : Nat) (p : Nat → Bool) : bitmap (n + 1) p = 2 ^ n * b2n (p n) + bitmap n p := by
  rw [bitmap, List.range_succ, List.foldl_append, ← bitmap, List.foldl_cons, List.foldl_nil]
  cases p n <;> simp [b2n, Nat.add_comm]

theorem bitmap_lt (n : Nat) (p : Nat → Bool) : bitmap n p < 2 ^ n := by
  induction n with
  | zero => exact Nat.one_pos
  | succ n ih =>
    rw [bitmap_succ, pow_succ]
    cases p n <;> simp only [b2n, if_true, Bool.false_eq_true, if_false] <;> omega

theorem bitOf_bitmap (n : Nat) (p : Nat → Bool) (i : Nat) : bitOf (bitmap n p) i = (decide (i < n) && p i) := by
  rw [bitOf_eq_testBit]
  induction n with
  | zero => simp [bitmap]
  | succ n ih =>
    rw [bitmap_succ, Nat.testBit_two_pow_mul_add _ (bitmap_lt n p), ih]
    rcases Nat.lt_trichotomy i n with hlt | rfl | hgt
    · simp [hlt, hlt.trans (Nat.lt_succ_self n)]
    · cases p i <;> simp [b2n]
    · have hrest : b2n (p n) < 2 ^ (i - n) := by
        have hpow : 2 ^ 1 ≤ 2 ^ (i - n) := Nat.pow_le_pow_right (by decide) (by omega)
        cases p n <;> simp only [b2n, if_true, Bool.false_eq_true, if_false] <;> omega
      rw [if_neg hgt.not_gt, Nat.testBit_lt_two_pow hrest]
      simp [Nat.not_lt.mpr (Nat.succ_le_of_lt hgt)]

theorem bitmap_eq_zero {n : Nat} {p : Nat → Bool} (h : ∀ i, i < n → p i = false) : bitmap n p = 0 := by
  refine Nat.eq_of_testBit_eq fun i => ?_
  rw [← bitOf_eq_testBit, bitOf_bitmap, Nat.zero_testBit]
  rcases Nat.lt_or_ge i n with hi | hi
  · simp [h i hi]
  · simp [Nat.not_lt.mpr hi]

/-! ### A fold that brings a fact about -/

/-- Where one member of the list brings a fact about and every member keeps it, the fact holds after the fold. -/
theorem foldl_establishes {α : Type} {f : State → α → State} {inv p : State → Prop} {l : List α} {x : α} {s : State}
    (hx : x ∈ l) (h : inv s) (hinv : ∀ t, ∀ y ∈ l, inv t → inv (f t y)) (hset : ∀ t, inv t → p (f t x))
    (hkeep : ∀ t, ∀ y ∈ l, y ≠ x → p t → p (f t y)) : p (l.foldl f s) := by
  have hafter (l' : List α) (hsub : ∀ y ∈ l', y ∈ l) (t : State) (ht : inv t) (hp : p t) : p (l'.foldl f t) := by
    induction l' generalizing t with
    | nil => exact hp
    | cons y r ih =>
      refine ih (fun z hz => hsub z (by simp [hz])) _ (hinv t y (hsub y (by simp)) ht) ?_
      by_cases hyx : y = x
      · exact hyx ▸ hset t ht
      · exact hkeep t y (hsub y (by simp)) hyx hp
  obtain ⟨a, b, rfl⟩ := List.append_of_mem hx
  have hbefore : inv (a.foldl f s) := by
    have hsub : ∀ y ∈ a, y ∈ a ++ x :: b := fun y hy => by simp [hy]
    generalize hl : a ++ x :: b = l at hinv hsub
    clear hl hset hkeep hafter hx
    induction a generalizing s with
    | nil => exact h
    | cons y r ih => exact ih (hinv s y (hsub y (by simp)) h) fun z hz => hsub z (by simp [hz])
  rw [List.foldl_append, List.foldl_cons]
  exact hafter b (fun y hy => by simp [hy]) _ (hinv _ x (by simp) hbefore) (hset _ hbefore)

/-- What every member of the list leaves as it is, the fold leaves. -/
theorem foldl_keeps {α β : Type} {f : State → α → State} (part : State → β) (hf : ∀ t x, part (f t x) = part t)
    (l : List α) (s : State) : part (l.foldl f s) = part s := by
  induction l generalizing s with
  | nil => rfl
  | cons x r ih => exact (ih (f s x)).trans (hf s x)

/-! ### Writes to listed fields -/

/-- The field lies within a word and is listed. -/
def Fld.among (fs : List Fld) (f : Fld) : Bool := f.ok && fs.contains f

/-- The fields that the raising of an event writes. -/
def Ev.fields (e : Ev) : List Fld := e.flag :: e.cnt.toList

theorem Fld.among_apart {fs : List Fld} {f g : Fld} (hf : f.among fs = true) (hg : fs.all (·.apart g) = true) :
    f.ok = true ∧ f.apart g = true := by
  simp only [Fld.among, Bool.and_eq_true, List.contains_iff_mem] at hf
  exact ⟨hf.1, List.all_eq_true.mp hg f hf.2⟩

/-- `t` comes from `s` without a write to memory, to the settings objects, or to a field apart from those listed. -/
structure State.Writes (fs : List Fld) (s t : State) : Prop where
  mem : t.mem = s.mem
  cfg : t.cfg = s.cfg
  get : ∀ g : Fld, fs.all (·.apart g) = true → t.get g = s.get g

namespace State.Writes

variable {fs gs : List Fld} {s t u : State}

protected theorem refl (fs : List Fld) (s : State) : s.Writes fs s := ⟨rfl, rfl, fun _ _ => rfl⟩

/-- One after the other writes what either writes. -/
protected theorem append (h : s.Writes fs t) (h' : t.Writes gs u) : s.Writes (fs ++ gs) u := by
  refine ⟨h'.mem.trans h.mem, h'.cfg.trans h.cfg, fun g hg => ?_⟩
  rw [List.all_append, Bool.and_eq_true] at hg
  exact (h'.get g hg.2).trans (h.get g hg.1)

protected theorem ite {c : Prop} [Decidable c] (ht : s.Writes fs t) (hu : s.Writes fs u) :
    s.Writes fs (if c then t else u) := by
  split <;> assumption

protected theorem foldl {α : Type} {f : State → α → State} {l : List α} (h : s.Writes fs t)
    (hf : ∀ t, ∀ x ∈ l, s.Writes fs t → s.Writes fs (f t x)) : s.Writes fs (l.foldl f t) := by
  induction l generalizing t with
  | nil => exact h
  | cons x r ih => exact ih (hf t x (by simp) h) fun t y hy => hf t y (by simp [hy])

protected theorem upd (h : s.Writes fs t) {mono freeCtr outbox time mbx pair hhk nvs memi gate fio can ast lsp net prog sec
    pwr bkd pending} :
    s.Writes fs (State.mk t.regs t.mem mono freeCtr outbox time mbx pair hhk nvs memi gate fio can t.cfg ast lsp net prog
      sec pwr bkd pending) :=
  ⟨h.mem, h.cfg, h.get⟩

protected theorem set (h : s.Writes fs t) {f : Fld} {v : Nat} (hf : f.among fs = true) : s.Writes fs (t.set f v) :=
  ⟨h.mem, h.cfg, fun g hg =>
    let ⟨hok, hapart⟩ := Fld.among_apart hf hg
    (State.get_set_apart t f g v hok hapart).trans (h.get g hg)⟩

protected theorem setBit (h : s.Writes fs t) {f : Fld} {b : Bool} (hf : f.among fs = true) : s.Writes fs (t.setBit f b) :=
  h.set hf

protected theorem raise (h : s.Writes fs t) {e : Ev} (he : e.fields.all (·.among fs) = true) :
    s.Writes fs (t.raise e) := by
  have hflag : e.flag.among fs = true := List.all_eq_true.mp he _ (by simp [Ev.fields])
  obtain ⟨m, o, hraise⟩ := State.raise_frame t e
  rw [hraise, flagged]
  cases hc : e.cnt with
  | none => exact (h.set hflag).upd
  | some c => exact ((h.set hflag).set (List.all_eq_true.mp he c (by simp [Ev.fields, hc]))).upd

protected theorem raiseIf (h : s.Writes fs t) {b : Bool} {e : Ev} (he : e.fields.all (·.among fs) = true) :
    s.Writes fs (t.raiseIf b e) :=
  .ite (h.raise he) h

protected theorem on (h : s.Writes fs t) {g : Fld} (hg : fs.all (·.apart g) = true := by decide) : t.on g = s.on g :=
  State.on_congr (h.get g hg)

protected theorem memKept (h : s.Writes fs t) : memKept s t := memKept_of_mem h.mem

end State.Writes

/-! ### What each function of the field stages writes -/

/-- The fields that show the drive of the stages (R302, R311). -/
def stageFields : List Fld :=
  [Reg.fioStatusAoReg, Reg.fioStatusDrive, Reg.fioDoDrive] ++ (List.range 4).map Reg.fioAoRegulating ++
    (List.range 4).map Reg.fioAoSetSet

/-- The fields of the samples of the AOs (R299, R300). -/
def aoFields : List Fld :=
  stageFields ++ (List.range 4).flatMap (fun n => [Reg.fioAoI n, Reg.fioAoOpen n, Reg.fioAoCompliance n,
    Reg.fioAoOvertemp n, Reg.fioAoSenseFault n]) ++
    [Ev.fioAoOpen, Ev.fioAoCompliance, Ev.fioAoOvertemp, Ev.fioAoSense].flatMap Ev.fields

theorem Fld.among_aoFields {n : Nat} (hn : n < 4) : ∀ f ∈ [Reg.fioAoI, Reg.fioAoOpen, Reg.fioAoCompliance,
    Reg.fioAoOvertemp, Reg.fioAoSenseFault], (f n).among aoFields = true := by
  interval_cases n <;> decide

/-- The fields of the sample of AI n (R296-R298). -/
def aiFields (n : Nat) : List Fld := [Reg.fioAiI n, Reg.fioAiClass n, Reg.fioAiLimit n] ++ Ev.fioAiFail.fields

namespace State.Writes

variable {fs : List Fld} {s t : State}

protected theorem showStages (h : s.Writes fs t) (hfs : stageFields.all (·.among fs) = true) :
    s.Writes fs (showStages t) := by
  have hin {f : Fld} (hf : f ∈ stageFields) : f.among fs = true := List.all_eq_true.mp hfs f hf
  unfold Machine.showStages
  refine .foldl (((h.setBit (hin (by decide))).setBit (hin (by decide))).set (hin (by decide))) fun _ n hn h => ?_
  have hn : n < 4 := List.mem_range.mp hn
  have hreg : Reg.fioAoRegulating n ∈ stageFields ∧ Reg.fioAoSetSet n ∈ stageFields :=
    (by decide : ∀ n, n < 4 → Reg.fioAoRegulating n ∈ stageFields ∧ Reg.fioAoSetSet n ∈ stageFields) n hn
  exact .ite (h.setBit (hin hreg.1)) (.set (.upd (h.setBit (hin hreg.1))) (hin hreg.2))

protected theorem noteFld24 (h : s.Writes fs t) {mv : Nat} (hf : Reg.fioFld24MinMinMv.among fs = true) :
    s.Writes fs (noteFld24 mv t) :=
  .ite (h.set hf) h

protected theorem noteBelow (h : s.Writes fs t) {mv : Nat} (hf : Reg.fioFld24MinMinMv.among fs = true) :
    s.Writes fs (noteBelow mv t) :=
  .noteFld24 h.upd hf

protected theorem aoJudge (h : s.Writes fs t) {n i : Nat} {f : Fld} {e : Ev} {cond : Bool} (hf : f.among fs = true)
    (he : e.fields.all (·.among fs) = true) : s.Writes fs (aoJudge n i f e cond t) := by
  unfold Machine.aoJudge
  exact .ite h.upd (.ite (.raiseIf (.setBit h.upd hf) he) h.upd)

protected theorem aoLoop (h : s.Writes aoFields t) {x : FieldSample} {n : Nat} (hn : n < 4) :
    s.Writes aoFields (aoLoop x n t) := by
  unfold Machine.aoLoop
  exact .aoJudge (h.aoJudge (Fld.among_aoFields hn _ (by simp)) (by decide)) (Fld.among_aoFields hn _ (by simp))
    (by decide)

protected theorem aoHeat (h : s.Writes aoFields t) {x : FieldSample} {n : Nat} (hn : n < 4) :
    s.Writes aoFields (aoHeat x n t) := by
  unfold Machine.aoHeat
  have hjudged {cond : Bool} : s.Writes aoFields (Machine.aoJudge n 2 (Reg.fioAoOvertemp n) Ev.fioAoOvertemp cond t) :=
    h.aoJudge (Fld.among_aoFields hn _ (by simp)) (by decide)
  exact .ite hjudged.upd (.ite (.showStages hjudged.upd (by decide)) hjudged)

protected theorem sampleAo (h : s.Writes aoFields t) {x : FieldSample} {n : Nat} (hn : n < 4) :
    s.Writes aoFields (sampleAo x t n) := by
  unfold Machine.sampleAo
  have hsense {cond : Bool} {v : Nat} : s.Writes aoFields (Machine.aoJudge n 3 (Reg.fioAoSenseFault n) Ev.fioAoSense cond
      (t.set (Reg.fioAoI n) v)) :=
    (h.set (Fld.among_aoFields hn Reg.fioAoI (by simp))).aoJudge (Fld.among_aoFields hn _ (by simp)) (by decide)
  exact .ite hsense (.ite (.upd (hsense.aoHeat hn)) (.aoLoop (hsense.aoHeat hn) hn))

end State.Writes

theorem raise_writes (s : State) (e : Ev) (he : e.fields.all (·.among e.fields) = true := by decide) :
    s.Writes e.fields (s.raise e) := (State.Writes.refl _ s).raise he

theorem noteFld24_writes (mv : Nat) (s : State) : s.Writes [Reg.fioFld24MinMinMv] (noteFld24 mv s) :=
  (State.Writes.refl _ s).noteFld24 (by decide)

theorem noteBelow_writes (mv : Nat) (s : State) : s.Writes [Reg.fioFld24MinMinMv] (noteBelow mv s) :=
  (State.Writes.refl _ s).noteBelow (by decide)

theorem showStages_writes (s : State) : s.Writes stageFields (showStages s) :=
  (State.Writes.refl _ s).showStages (by decide)

end Sys2Proof.Machine
end

section
/-! SUPPORT. The counter that runs to an offset of the frame (02 R60, R61) leaves the field stages and their registers.
`State.FieldKept s t` says so of a state `t` that comes from `s`; one lemma per function of the model gives it, and its
proof follows the function's definition. -/

namespace Sys2Proof.Machine

/-- The field lies outside the FIO block. -/
def Fld.offFio (f : Fld) : Bool := decide (f.addr < 0x60000) || decide (0x70000 ≤ f.addr)

/-- `t` comes from `s` without a change of the field stages, of a register of their block, or of whether frames have
begun. -/
structure State.FieldKept (s t : State) : Prop where
  fio : t.fio = s.fio
  ticked : t.time.ticked = s.time.ticked
  reg : ∀ a, 0x60000 ≤ a → a < 0x70000 → t.reg a = s.reg a

namespace State.FieldKept

variable {s t : State}

protected theorem refl (s : State) : s.FieldKept s := ⟨rfl, rfl, fun _ _ _ => rfl⟩

protected theorem ite {c : Prop} [Decidable c] {u : State} (ht : s.FieldKept t) (hu : s.FieldKept u) :
    s.FieldKept (if c then t else u) := by
  split <;> assumption

protected theorem foldl {α : Type} {f : State → α → State} {l : List α} (h : s.FieldKept t)
    (hf : ∀ t x, s.FieldKept t → s.FieldKept (f t x)) : s.FieldKept (l.foldl f t) := by
  induction l generalizing t with
  | nil => exact h
  | cons x r ih => exact ih (hf t x h)

protected theorem upd (h : s.FieldKept t) {mem mono freeCtr outbox time mbx pair hhk nvs memi gate can cfg ast lsp net prog
    sec pwr bkd pending} (htime : time.ticked = t.time.ticked) :
    s.FieldKept (State.mk t.regs mem mono freeCtr outbox time mbx pair hhk nvs memi gate t.fio can cfg ast lsp net prog sec
      pwr bkd pending) :=
  ⟨h.fio, htime.trans h.ticked, h.reg⟩

protected theorem set (h : s.FieldKept t) {f : Fld} {v : Nat} (hf : f.offFio = true) : s.FieldKept (t.set f v) := by
  simp only [Fld.offFio, Bool.or_eq_true, decide_eq_true_eq] at hf
  exact ⟨h.fio, h.ticked, fun a hlo hhi => (State.reg_set_other t f v a (by omega)).trans (h.reg a hlo hhi)⟩

protected theorem setBit (h : s.FieldKept t) {f : Fld} {b : Bool} (hf : f.offFio = true) : s.FieldKept (t.setBit f b) :=
  h.set hf

protected theorem raise (h : s.FieldKept t) {e : Ev} (he : e.fields.all Fld.offFio = true) : s.FieldKept (t.raise e) := by
  have hflag : e.flag.offFio = true := List.all_eq_true.mp he _ (by simp [Ev.fields])
  obtain ⟨m, o, hraise⟩ := State.raise_frame t e
  rw [hraise, flagged]
  cases hc : e.cnt with
  | none => exact (h.set hflag).upd rfl
  | some c => exact ((h.set hflag).set (List.all_eq_true.mp he c (by simp [Ev.fields, hc]))).upd rfl

protected theorem setBkd (h : s.FieldKept t) {n : Nat} : s.FieldKept (t.setBkd n) :=
  ((h.set (by decide)).set (by decide)).set (by decide)

protected theorem wakeFromPark (h : s.FieldKept t) {cause : Nat} : s.FieldKept (wakeFromPark cause t) := by
  unfold Machine.wakeFromPark
  split
  · exact ((h.set (by decide)).setBit (by decide)).raise (by decide)
  · exact (h.set (by decide)).set (by decide)
  · exact h

protected theorem fireAlarm (h : s.FieldKept t) {skipped : Bool} : s.FieldKept (fireAlarm skipped t) := by
  unfold Machine.fireAlarm
  have halarm : s.FieldKept (t.raise Ev.bkdAlarm) := h.raise (by decide)
  have harm : s.FieldKept (((t.raise Ev.bkdAlarm).raiseIf skipped Ev.bkdSkipped).setBit Reg.bkdAlarmHiArm false) :=
    .setBit (.ite (halarm.raise (by decide)) halarm) (by decide)
  exact .ite harm.wakeFromPark harm

protected theorem bkdAdvance (h : s.FieldKept t) {n : Nat} : s.FieldKept (bkdAdvance n t) := by
  unfold Machine.bkdAdvance
  extract_lets old new ofs days fires s1 s2
  have h2 : s.FieldKept s2 := .ite h.setBkd (h.setBkd.set (by decide))
  exact .ite h2.fireAlarm h2

protected theorem elapse (h : s.FieldKept t) {dt : Nat} : s.FieldKept (elapse dt t) := by
  unfold Machine.elapse
  extract_lets ph bkd s1 s2 s3 s4 s5 s6 s7
  have h3 : s.FieldKept s3 := .set (.bkdAdvance (h.upd rfl)) (by decide)
  have h4 : s.FieldKept s4 := .ite (h3.set (by decide)) h3
  have h6 : s.FieldKept s6 := (h4.set (by decide)).setBit (by decide)
  have hage (n : Nat) : (Reg.hhkPairCkptAgeMs n).offFio = true := by
    have haddr : 0x70000 ≤ (Reg.hhkPairCkptAgeMs n).addr := by
      simp only [Reg.hhkPairCkptAgeMs]
      omega
    simp [Fld.offFio, haddr]
  have h7 : s.FieldKept s7 := h6.foldl fun t n ht => by
    split
    · exact ht.set (hage n)
    · exact ht
  refine .ite (.set (f := Reg.timHoldTimeSec) ?_ (by decide)) h7
  exact h7.upd rfl

protected theorem setNow (h : s.FieldKept t) {n : Nat} : s.FieldKept (t.setNow n) :=
  ((h.set (by decide)).set (by decide)).set (by decide)

protected theorem toPhase (h : s.FieldKept t) {d : Nat} : s.FieldKept (toPhase d t) := by
  unfold Machine.toPhase Machine.advanceTo Machine.runCycles
  refine .ite (.elapse (.setNow ?_)) h
  exact h.upd rfl

/-- A field of the block reads as before. -/
protected theorem get (h : s.FieldKept t) {f : Fld} (hlo : 0x60000 ≤ f.addr := by decide)
    (hhi : f.addr < 0x70000 := by decide) : t.get f = s.get f := by
  rw [State.get, State.get, h.reg _ hlo hhi]

end State.FieldKept

/-! ### The state at an offset of the frame -/

theorem toPhase_conf (d : Nat) (s : State) (o : Nat) : (toPhase d s).conf o = s.conf o := by
  rw [State.conf, State.conf, (State.ProgKept.refl s).toPhase.cfg]

theorem toPhase_pair (d : Nat) (s : State) : (toPhase d s).pair = s.pair := (State.ProgKept.refl s).toPhase.pair

theorem toPhase_fio (d : Nat) (s : State) : (toPhase d s).fio = s.fio := (State.FieldKept.refl s).toPhase.fio

end Sys2Proof.Machine
end

section
/-! SUPPORT. The field stages (09): the stages that drive, the supply, the latched outputs, and the windows of the DI
sinks. -/

namespace Sys2Proof.Machine

variable {s : State}

/-! ### The stages (R301, R302) -/

theorem get_updFio (s : State) (f : FioSt → FioSt) (g : Fld) : (s.updFio f).get g = s.get g :=
  State.get_congr _ _ (State.updFio_regs s f) g

theorem showStages_drive (s : State) : (showStages s).fio.drive = s.fio.drive := by
  unfold showStages
  extract_lets held keep s1 s2
  have h2 : s2.fio.drive = s.fio.drive := by rw [State.set_fio, State.setBit_fio, State.setBit_fio]
  refine (foldl_keeps (fun t => t.fio.drive) (fun t n => ?_) _ s2).trans h2
  dsimp only
  split
  · rw [State.setBit_fio]
  · rw [State.set_fio, State.updFio_fio, State.setBit_fio]

/-- Which stages conduct goes by the settings, the stages and their register alone. -/
theorem conducting_congr {s t : State} (hcfg : t.cfg = s.cfg) (hfio : t.fio = s.fio)
    (hcmd : t.get Reg.fioDoCmd = s.get Reg.fioDoCmd) (hdrive : t.get Reg.fioDoDrive = s.get Reg.fioDoDrive) :
    conducting t = conducting s := by
  simp only [conducting, State.conf, hcfg, hfio, hcmd, hdrive]

theorem conducting_mod (s : State) : conducting s % 2 ^ (Reg.fioDoDrive.hi + 1 - Reg.fioDoDrive.lo) = conducting s := by
  refine Nat.mod_eq_of_lt ?_
  unfold conducting
  extract_lets c
  split_ifs
  · decide
  · exact State.get_lt s Reg.fioDoDrive
  · exact bitmap_lt 8 _
  · decide

/-- FIO_DO shows the stages that conduct. -/
theorem get_doDrive_showStages (s : State) : (showStages s).get Reg.fioDoDrive = conducting s := by
  unfold showStages
  extract_lets held keep s1 s2
  have hstatus : s.Writes [Reg.fioStatusDrive, Reg.fioStatusAoReg] s1 :=
    ((State.Writes.refl _ s).setBit (by decide)).setBit (by decide)
  have hfio : s1.fio = s.fio := by rw [State.setBit_fio, State.setBit_fio]
  have hset : s2.get Reg.fioDoDrive = conducting s := by
    rw [State.get_set_same _ _ _ (by decide), conducting_mod]
    exact conducting_congr hstatus.cfg hfio (hstatus.get _ (by decide)) (hstatus.get _ (by decide))
  refine (foldl_keeps (fun t => t.get Reg.fioDoDrive) (fun t n => ?_) _ s2).trans hset
  have hreg : (Reg.fioAoRegulating n).addr ≠ Reg.fioDoDrive.addr ∧ (Reg.fioAoSetSet n).addr ≠ Reg.fioDoDrive.addr := by
    simp only [Reg.fioAoRegulating, Reg.fioAoSetSet, Reg.fioDoDrive]
    omega
  have hregulating (v : Nat) : (t.set (Reg.fioAoRegulating n) v).get Reg.fioDoDrive = t.get Reg.fioDoDrive :=
    State.get_set_apart _ _ _ _ rfl (Fld.apart_of_addr hreg.1)
  dsimp only
  split
  · exact hregulating _
  · rw [State.get_set_apart _ _ _ _ rfl (Fld.apart_of_addr hreg.2), get_updFio]
    exact hregulating _

theorem leads_stageHoldEnd (h : s.fio.drive = .hold) :
    leads .stageHoldEnd s (fun t => t.fio.drive = roleDrive s ∧ memKept s t) := by
  refine ⟨setDrive (roleDrive s) s, ?_, showStages_drive _, memKept_of_mem (showStages_writes _).mem⟩
  change execStageHoldEnd s = _
  rw [execStageHoldEnd, if_pos h]

/-! ### The supply (R284, R286) -/

theorem fio_raise (s : State) (e : Ev) : (s.raise e).fio = s.fio := by
  obtain ⟨m, o, hraise⟩ := State.raise_frame s e
  rw [hraise, flagged]
  cases e.cnt <;> rfl

theorem fio_noteBelow (mv : Nat) (s : State) : (noteBelow mv s).fio = s.fio := by
  unfold noteBelow noteFld24
  split <;> simp

theorem exec_fldLow (h : s.on Reg.fioStatusFldLow = false) : exec .fldLow s = .next (noteBelow 19200
    (((s.setBit Reg.fioStatusFldLow true).raise Ev.fioStatusDioFault).raise Ev.fioFldLow)) := by
  change execFldLow s = _
  rw [execFldLow, if_neg (by simp [h])]

theorem leads_fldLow (h : s.on Reg.fioStatusFldLow = false) : leads .fldLow s (fun t =>
    t.on Reg.fioStatusFldLow = true ∧ t.on Reg.fioStatusDioFault = true ∧ t.on Reg.fioEventFldLow = true ∧
    t.fio = s.fio ∧ memKept s t) := by
  have hraised (u : State) : u.Writes (Ev.fioFldLow.fields ++ [Reg.fioFld24MinMinMv])
      (noteBelow 19200 (u.raise Ev.fioFldLow)) := (raise_writes u _).append (noteBelow_writes _ _)
  refine ⟨_, exec_fldLow h, ?_, ?_, ?_, ?_, memKept_of_mem ?_⟩
  · exact (hraised _).on.trans ((raise_writes _ _).on.trans (State.on_setBit_same _ _ _ (by decide) rfl))
  · exact (hraised _).on.trans (State.on_raise_flag _ _ (by decide))
  · exact (noteBelow_writes _ _).on.trans (State.on_raise_flag _ _ (by decide))
  · rw [fio_noteBelow, fio_raise, fio_raise, State.setBit_fio]
  · rw [(hraised _).mem, State.raise_mem, State.setBit_mem]

theorem exec_fldNormal (h : s.on Reg.fioStatusLockout = false) :
    exec .fldNormal s = .next (s.set Reg.fioStatusFldLow 0) := by
  change execFldNormal s = _
  rw [execFldNormal, if_neg (by simp [h])]
  rfl

theorem exec_lockout (h : s.on Reg.fioStatusLockout = false) : exec .lockout s = .next (showStages (noteBelow 15000
    (((((s.setBit Reg.fioStatusLockout true).setBit Reg.fioStatusFldLow true).raise Ev.fioStatusDioFault).raise
      Ev.fioLockout).updFio (fun f => { f with lockedOff := true, doBad := 0 })))) := by
  change execLockout s = _
  rw [execLockout, if_neg (by simp [h])]

theorem leads_lockout (h : s.on Reg.fioStatusLockout = false) : leads .lockout s (fun t =>
    t.on Reg.fioStatusLockout = true ∧ t.on Reg.fioStatusFldLow = true ∧ t.on Reg.fioStatusDioFault = true ∧
    t.on Reg.fioEventLockout = true ∧ t.get Reg.fioDoDrive = 0 ∧ memKept s t) := by
  have hlocked (u : State) (f : FioSt → FioSt) : u.Writes ([Reg.fioFld24MinMinMv] ++ stageFields)
      (showStages (noteBelow 15000 (u.updFio f))) :=
    .append (.noteBelow (.upd (.refl _ u)) (by decide)) (showStages_writes _)
  have hraised (u : State) (f : FioSt → FioSt) : u.Writes (Ev.fioLockout.fields ++ ([Reg.fioFld24MinMinMv] ++ stageFields))
      (showStages (noteBelow 15000 ((u.raise Ev.fioLockout).updFio f))) := (raise_writes u _).append (hlocked _ f)
  refine ⟨_, exec_lockout h, ?_, ?_, ?_, ?_, ?_, memKept_of_mem ?_⟩
  · exact (hraised _ _).on.trans ((raise_writes _ _).on.trans
      ((on_setBit_apart _ _).trans (State.on_setBit_same _ _ _ (by decide) rfl)))
  · exact (hraised _ _).on.trans ((raise_writes _ _).on.trans (State.on_setBit_same _ _ _ (by decide) rfl))
  · exact (hraised _ _).on.trans (State.on_raise_flag _ _ (by decide))
  · exact (hlocked _ _).on.trans (State.on_raise_flag _ _ (by decide))
  · rw [get_doDrive_showStages, conducting, fio_noteBelow, State.updFio_fio]
    exact if_pos rfl
  · rw [(hraised _ _).mem, State.raise_mem, State.setBit_mem, State.setBit_mem]

/-- The state that knows its frame as the one in which a LOCKOUT has ended. -/
def endNoted (s : State) : State := s.updFio (fun f => { f with backFrame := frameIndex s.now })

theorem exec_lockoutEnd (mv : Nat) (h : s.on Reg.fioStatusLockout = true) : exec (.lockoutEnd mv) s = .next (endNoted
    (noteFld24 mv ((s.setBit Reg.fioStatusLockout false).setBit Reg.fioStatusFldLow (mv < 19600)))) := by
  change execLockoutEnd mv s = _
  rw [execLockoutEnd, if_neg (by simp [h])]
  rfl

theorem leads_lockoutEnd (mv : Nat) (h : s.on Reg.fioStatusLockout = true) : leads (.lockoutEnd mv) s (fun t =>
    t.on Reg.fioStatusLockout = false ∧ t.on Reg.fioStatusFldLow = decide (mv < 19600) ∧
    t.get Reg.fioDoDrive = s.get Reg.fioDoDrive ∧ memKept s t) := by
  have hnoted (u : State) : u.Writes [Reg.fioFld24MinMinMv] (endNoted (noteFld24 mv u)) := (noteFld24_writes mv u).upd
  have hset : s.Writes [Reg.fioStatusLockout, Reg.fioStatusFldLow] ((s.setBit Reg.fioStatusLockout false).setBit
      Reg.fioStatusFldLow (mv < 19600)) := ((State.Writes.refl _ s).setBit (by decide)).setBit (by decide)
  refine ⟨_, exec_lockoutEnd mv h, ?_, ?_, (hset.append (hnoted _)).get _ (by decide), (hset.append (hnoted _)).memKept⟩
  · exact (hnoted _).on.trans ((on_setBit_apart _ _).trans (State.on_setBit_same _ _ _ (by decide) rfl))
  · exact (hnoted _).on.trans (State.on_setBit_same _ _ _ (by decide) rfl)

/-! ### Latched outputs (R292) -/

theorem exec_doLatchOff {n : Nat} (hn : n < 8) : exec (.doLatchOff n) s = .next
    (((s.updFio (fun f => { f with latched := withBit f.latched n true })).set Reg.fioDoDrive
      (withBit (s.get Reg.fioDoDrive) n false)).raise Ev.fioStatusDioFault) := by
  change execDoLatchOff n s = _
  rw [execDoLatchOff, if_neg (by omega)]
  rfl

theorem leads_doLatchOff {n : Nat} (hn : n < 8) : leads (.doLatchOff n) s (fun t =>
    bitOf t.fio.latched n = true ∧ bitOf (t.get Reg.fioDoDrive) n = false ∧ t.on Reg.fioStatusDioFault = true ∧
    memKept s t ∧ ∀ m, m < 8 → m ≠ n → bitOf (t.get Reg.fioDoDrive) m = bitOf (s.get Reg.fioDoDrive) m) := by
  have hbit {m : Nat} (hm : m < 8) (u : State) :
      bitOf (((u.set Reg.fioDoDrive (withBit (s.get Reg.fioDoDrive) n false)).raise Ev.fioStatusDioFault).get
        Reg.fioDoDrive) m = if m = n then false else bitOf (s.get Reg.fioDoDrive) m := by
    rw [(raise_writes _ Ev.fioStatusDioFault).get _ (by decide), State.bitOf_get_set _ _ (by decide) hm, bitOf_withBit]
  refine ⟨_, exec_doLatchOff hn, ?_, (hbit hn _).trans (if_pos rfl), State.on_raise_flag _ _ (by decide),
    memKept_of_mem (State.raise_mem _ _), fun m hm hne => (hbit hm _).trans (if_neg hne)⟩
  rw [fio_raise, State.set_fio, State.updFio_fio, bitOf_withBit, if_pos rfl]

/-! ### The windows of the DI sinks (R288, R291) -/

/-- The DIs whose sink current is out of band in a window. -/
def sinksOut (s : State) (ua : List Nat) (mv : List Int) : Nat :=
  bitmap 16 (fun n => fioDiEnabled (s.conf objFio) n && decide (11000 ≤ mv.getD n 0) &&
    (decide (ua.getD n 0 < 2000) || decide (3000 < ua.getD n 0)))

theorem exec_diSinkWindow (ua : List Nat) (mv : List Int) (s : State) : exec (.diSinkWindow ua mv) s =
    .next (((toPhase 175000 s).updFio (fun f => { f with
      sinkBad := sinksOut s ua mv, sinks := bitmap 16 (fioDiEnabled (s.conf objFio)) })).raiseIf
      (sinksOut s ua mv &&& s.fio.sinkBad ≠ 0) Ev.fioStatusDioFault) := by
  change execDiSinkWindow ua mv s = _
  simp only [execDiSinkWindow, toPhase_conf, toPhase_fio, sinksOut]
  rfl

theorem leads_diSinkWindow_twice {ua : List Nat} {mv : List Int} (h : ∃ n, n < 16 ∧
      fioDiEnabled (s.conf objFio) n = true ∧ 11000 ≤ mv.getD n 0 ∧ (ua.getD n 0 < 2000 ∨ 3000 < ua.getD n 0) ∧
      bitOf s.fio.sinkBad n = true) :
    leads (.diSinkWindow ua mv) s (fun t => t.on Reg.fioStatusDioFault = true ∧ memKept s t) := by
  obtain ⟨n, hn, hon, hmv, hua, hbad⟩ := h
  have hout : bitOf (sinksOut s ua mv) n = true := by
    rw [sinksOut, bitOf_bitmap, decide_eq_true hn, hon, decide_eq_true hmv]
    simpa using hua
  have htwice : sinksOut s ua mv &&& s.fio.sinkBad ≠ 0 := by
    intro hzero
    rw [bitOf_eq_testBit] at hout hbad
    have hand : (sinksOut s ua mv &&& s.fio.sinkBad).testBit n = true := by rw [Nat.testBit_and, hout, hbad]; rfl
    rw [hzero, Nat.zero_testBit] at hand
    exact absurd hand (by decide)
  refine ⟨_, exec_diSinkWindow ua mv s, ?_⟩
  rw [decide_eq_true htwice, State.raiseIf, if_pos rfl]
  refine ⟨State.on_raise_flag _ _ (by decide), memKept_of_mem ?_⟩
  rw [State.raise_mem, State.updFio_mem, toPhase_mem]

theorem leads_diSinkWindow_inBand {ua : List Nat} {mv : List Int}
    (h : ∀ n, n < 16 → 2000 ≤ ua.getD n 0 ∧ ua.getD n 0 ≤ 3000) :
    leads (.diSinkWindow ua mv) s (fun t => t.fio.sinkBad = 0 ∧
      t.on Reg.fioStatusDioFault = s.on Reg.fioStatusDioFault ∧ memKept s t) := by
  have hnone : sinksOut s ua mv = 0 := bitmap_eq_zero fun n hn => by
    obtain ⟨hlo, hhi⟩ := h n hn
    rw [decide_eq_false (Nat.not_lt.mpr hlo), decide_eq_false (Nat.not_lt.mpr hhi), Bool.or_false, Bool.and_false]
  refine ⟨_, exec_diSinkWindow ua mv s, ?_⟩
  rw [hnone, Nat.zero_and, decide_eq_false (not_not.mpr rfl), State.raiseIf, if_neg Bool.false_ne_true]
  refine ⟨?_, State.on_congr ?_, memKept_of_mem ?_⟩
  · rw [State.updFio_fio]
  · rw [get_updFio, (State.FieldKept.refl s).toPhase.get]
  · rw [State.updFio_mem, toPhase_mem]

end Sys2Proof.Machine
end

section
/-! SUPPORT. The sample instant (R288, R296-R298) and the update (R283, R292, R301) of the field stages. -/

namespace Sys2Proof.Machine

variable {s : State} {x : FieldSample}

/-! ### DIs (R288) -/

theorem levelOf_high {mv : Int} (h : 11000 ≤ mv) : levelOf mv = some true := if_pos h

theorem levelOf_low {mv : Int} (h : mv ≤ 5000) : levelOf mv = some false := by
  rw [levelOf, if_neg (by omega), if_pos h]

/-- The sample of DI n replaces its bit alone; between the thresholds it is a free value. -/
theorem sampleDi_raw (x : FieldSample) (s : State) (n : Nat) {m : Nat} (hm : m < 16) :
    bitOf ((sampleDi x s n).get Reg.fioDiRaw) m =
      if m = n then (levelOf (x.di.getD n 0)).getD (bitOf s.fresh 0) else bitOf (s.get Reg.fioDiRaw) m := by
  unfold sampleDi
  extract_lets c p s1 was k
  have hlater {a b d : Prop} [Decidable a] [Decidable b] [Decidable d] {f g : FioSt → FioSt} {v : Nat} :
      s1.Writes [Reg.fioDiState] (if a then s1 else if b then s1.updFio f else
        if d then (s1.updFio f).set Reg.fioDiState v else s1.updFio g) :=
    have h := State.Writes.refl [Reg.fioDiState] s1
    .ite h (.ite h.upd (.ite (.set h.upd (by decide)) h.upd))
  have hp : p.1 = (levelOf (x.di.getD n 0)).getD (bitOf s.fresh 0) ∧ p.2.get Reg.fioDiRaw = s.get Reg.fioDiRaw := by
    simp only [p]
    cases levelOf (x.di.getD n 0)
    · exact ⟨rfl, State.get_congr _ _ (State.took_regs s) _⟩
    · exact ⟨rfl, rfl⟩
  rw [hlater.get _ (by decide), State.bitOf_get_set _ _ (by decide) hm, bitOf_withBit, hp.1, hp.2]

theorem sampleDis_raw {n : Nat} (hn : n < 16) {b : Bool} (hb : levelOf (x.di.getD n 0) = some b) (s : State) :
    bitOf (((List.range 16).foldl (sampleDi x) s).get Reg.fioDiRaw) n = b := by
  refine foldl_establishes (inv := fun _ => True) (p := fun t => bitOf (t.get Reg.fioDiRaw) n = b)
    (List.mem_range.mpr hn) trivial (fun _ _ _ _ => trivial) (fun t _ => ?_) fun t y _ hy ht => ?_
  · rw [sampleDi_raw x t n hn, if_pos rfl, hb, Option.getD_some]
  · rw [sampleDi_raw x t y hn, if_neg hy.symm, ht]

/-! ### AIs (R296-R298) -/

/-- A common factor changes no rounded fraction. -/
theorem divEven_mul_right (n d : Nat) {c : Nat} (hc : 0 < c) : divEven (n * c) (d * c) = divEven n d := by
  unfold divEven
  simp only [Nat.mul_div_mul_right n d hc, Nat.mul_mod_mul_right, ← Nat.mul_assoc, Nat.mul_lt_mul_right hc]

/-- A fraction without a remainder is not rounded. -/
theorem divEven_exact (n : Nat) {d : Nat} (hd : 0 < d) : divEven (n * d) d = n := by
  simp [divEven, Nat.mul_div_cancel n hd, hd]

theorem divEven_le {n d k : Nat} (hd : 0 < d) (h : n ≤ k * d) : divEven n d ≤ k := by
  have hq : n / d ≤ k := Nat.div_le_of_le_mul (by rwa [Nat.mul_comm] at h)
  rcases hq.eq_or_lt with hq | hq
  · have hr : n % d = 0 := by
      have := Nat.div_add_mod n d
      rw [hq, Nat.mul_comm] at this
      omega
    simp [divEven, hr, hq, hd]
  · unfold divEven
    dsimp only
    split_ifs <;> omega

theorem aiClass_lt (v : Nat) : aiClass v < 8 := by
  unfold aiClass
  dsimp only
  split_ifs <;> decide

/-- What an enabled AI out of limitation and undamped shows. -/
theorem sampleAi_shows {n : Nat} (hn : n < 4) (hon : fioAiEnabled (s.conf objFio) n = true)
    (hlimit : bitOf x.aiLimit n = false) (hdamp : fioDamp (s.conf objFio) n = 0) :
    (sampleAi x s n).get (Reg.fioAiI n) = divEven (aiMean (x.ai.getD n (0, 1)) * 2500000) aiTop ∧
    (sampleAi x s n).get (Reg.fioAiClass n) = aiClass (aiMean (x.ai.getD n (0, 1))) := by
  unfold sampleAi
  extract_lets c off lim v damped y was wasLim t units u
  have hv : v = aiMean (x.ai.getD n (0, 1)) := if_neg (by simp [lim, hlimit])
  have hy : y = aiMean (x.ai.getD n (0, 1)) := (if_neg (by simp [damped, c, hdamp])).trans hv
  have hmean : aiMean (x.ai.getD n (0, 1)) ≤ aiTop := Nat.min_le_left _ _
  have hunits : divEven units.1 units.2 = divEven (aiMean (x.ai.getD n (0, 1)) * 2500000) aiTop := by
    change divEven (y * 2500000) aiTop = _
    rw [hy]
  have hcurrent : divEven units.1 units.2 < 2 ^ 24 := by
    rw [hunits]
    refine (divEven_le (k := 2500000) (by decide) ?_).trans_lt (by decide)
    rw [Nat.mul_comm 2500000]
    exact Nat.mul_le_mul_right _ hmean
  obtain ⟨hclassI, hlimitI, hlimitClass⟩ : (Reg.fioAiClass n).apart (Reg.fioAiI n) = true ∧
      (Reg.fioAiLimit n).apart (Reg.fioAiI n) = true ∧ (Reg.fioAiLimit n).apart (Reg.fioAiClass n) = true := by
    interval_cases n <;> decide
  obtain ⟨heventI, heventClass⟩ : Ev.fioAiFail.apart (Reg.fioAiI n) = true ∧
      Ev.fioAiFail.apart (Reg.fioAiClass n) = true := by
    interval_cases n <;> decide
  have hI : u.get (Reg.fioAiI n) = divEven units.1 units.2 :=
    (State.get_set_apart _ _ _ _ rfl hlimitI).trans ((State.get_set_apart _ _ _ _ rfl hclassI).trans
      ((State.get_set_same _ _ _ rfl).trans (Nat.mod_eq_of_lt hcurrent)))
  have hclass : u.get (Reg.fioAiClass n) = aiClass v :=
    (State.get_set_apart _ _ _ _ rfl hlimitClass).trans
      ((State.get_set_same _ _ _ rfl).trans (Nat.mod_eq_of_lt (aiClass_lt v)))
  rw [if_neg (by simp [c, hon]), State.get_raiseIf_apart _ _ _ _ heventI, State.get_raiseIf_apart _ _ _ _ heventClass,
    hI, hclass, hunits, hv]
  exact ⟨rfl, rfl⟩

/-- The mean of k conversions whose sum is m times k steps is m steps. -/
theorem aiMean_steps {m k : Nat} (hm : m < 16777216) (hk : 0 < k) :
    aiMean (((m * k : Nat) : Int), k) = m * 4294967296 := by
  have hle : m * 4294967296 ≤ aiTop := Nat.mul_le_mul_right _ (by omega)
  rw [aiMean, Int.toNat_natCast, Nat.mul_right_comm, divEven_exact _ hk, Nat.min_eq_right hle]

theorem sampleAi_steps {n m k : Nat} (hn : n < 4) (hon : fioAiEnabled (s.conf objFio) n = true)
    (hlimit : bitOf x.aiLimit n = false) (hdamp : fioDamp (s.conf objFio) n = 0) (hm : m < 16777216) (hk : 0 < k)
    (hx : x.ai.getD n (0, 1) = (((m * k : Nat) : Int), k)) :
    (sampleAi x s n).get (Reg.fioAiI n) = divEven (m * 2500000) 16777215 ∧
    (sampleAi x s n).get (Reg.fioAiClass n) = aiClass (m * 4294967296) := by
  obtain ⟨hcurrent, hclass⟩ := sampleAi_shows hn hon hlimit hdamp
  rw [hx, aiMean_steps hm hk] at hcurrent hclass
  rw [Nat.mul_right_comm, aiTop, divEven_mul_right _ _ (by decide)] at hcurrent
  exact ⟨hcurrent, hclass⟩

theorem State.Writes.sampleAi {fs : List Fld} {t : State} (h : s.Writes fs t) {n : Nat}
    (hfs : (aiFields n).all (·.among fs) = true) : s.Writes fs (sampleAi x t n) := by
  have hin {f : Fld} (hf : f ∈ aiFields n) : f.among fs = true := List.all_eq_true.mp hfs f hf
  have hset (f : FioSt → FioSt) (i c : Nat) (b : Bool) : s.Writes fs
      ((((t.updFio f).set (Reg.fioAiI n) i).set (Reg.fioAiClass n) c).setBit (Reg.fioAiLimit n) b) :=
    .setBit (.set (.set h.upd (hin (by simp [aiFields]))) (hin (by simp [aiFields]))) (hin (by simp [aiFields]))
  unfold Machine.sampleAi
  refine .ite (hset _ _ _ _) (.raiseIf (hset _ _ _ _) (List.all_eq_true.mpr fun f hf => hin ?_))
  exact List.mem_append_right _ hf

theorem sampleAi_writes (x : FieldSample) (s : State) {n : Nat} (hn : n < 4) : s.Writes (aiFields n) (sampleAi x s n) :=
  (State.Writes.refl _ s).sampleAi
    ((by decide : ∀ n, n < 4 → (aiFields n).all (·.among (aiFields n)) = true) n hn)

theorem sampleAis_steps {n m k : Nat} (hn : n < 4) (hon : fioAiEnabled (s.conf objFio) n = true)
    (hlimit : bitOf x.aiLimit n = false) (hdamp : fioDamp (s.conf objFio) n = 0) (hm : m < 16777216) (hk : 0 < k)
    (hx : x.ai.getD n (0, 1) = (((m * k : Nat) : Int), k)) {b : State} (hcfg : b.cfg = s.cfg) :
    ((List.range 4).foldl (sampleAi x) b).get (Reg.fioAiI n) = divEven (m * 2500000) 16777215 ∧
    ((List.range 4).foldl (sampleAi x) b).get (Reg.fioAiClass n) = aiClass (m * 4294967296) := by
  have happart : ∀ y, y < 4 → ∀ n, n < 4 → y ≠ n → (aiFields y).all (·.apart (Reg.fioAiI n)) = true ∧
      (aiFields y).all (·.apart (Reg.fioAiClass n)) = true := by decide
  refine foldl_establishes (inv := fun t => t.cfg = s.cfg) (p := fun t => t.get (Reg.fioAiI n) =
    divEven (m * 2500000) 16777215 ∧ t.get (Reg.fioAiClass n) = aiClass (m * 4294967296))
    (List.mem_range.mpr hn) hcfg (fun t y hy ht => ?_) (fun t ht => ?_) fun t y hy hne ht => ?_
  · exact (sampleAi_writes x t (List.mem_range.mp hy)).cfg.trans ht
  · have hconf : t.conf objFio = s.conf objFio := by rw [State.conf, State.conf, ht]
    exact sampleAi_steps hn (hconf ▸ hon) hlimit (hconf ▸ hdamp) hm hk hx
  · have hy : y < 4 := List.mem_range.mp hy
    have hwrites := sampleAi_writes x t hy
    obtain ⟨hi, hclass⟩ := happart y hy n hn hne
    rwa [hwrites.get _ hi, hwrites.get _ hclass]

/-! ### The sample instant -/

theorem State.Writes.sampleDi {fs : List Fld} {t : State} (h : s.Writes fs t) (hraw : Reg.fioDiRaw.among fs = true)
    (hstate : Reg.fioDiState.among fs = true) {n : Nat} : s.Writes fs (sampleDi x t n) := by
  unfold Machine.sampleDi
  extract_lets c p s1 was k
  have hp : s.Writes fs p.2 := by
    simp only [p]
    cases levelOf (x.di.getD n 0)
    · exact h.upd
    · exact h
  have h1 : s.Writes fs s1 := hp.set hraw
  exact .ite h1 (.ite h1.upd (.ite (.set h1.upd hstate) h1.upd))

theorem State.Writes.sampleDos {fs : List Fld} {t : State} (h : s.Writes fs t) (hf : Reg.fioDoRb.among fs = true)
    (l : List Nat) (k : Nat) : s.Writes fs (l.foldl (sampleDo x) (k, t)).2 := by
  induction l generalizing k t with
  | nil => exact h
  | cons n l ih =>
    refine ih ?_ _
    dsimp only
    cases levelOf (x.dout.getD n 0)
    · exact .set h.upd hf
    · exact h.set hf

/-- The steps of the sample instant from `s` to `t`: the supply is read, then the DIs, the DOs, the AIs and the AOs. -/
def sampledFrom (x : FieldSample) (s t : State) : Prop :=
  ∃ a b : State, ((toPhase 195000 s).set Reg.fioFld24Mv (satTo 65535 x.fld24)).Writes [Reg.fioFld24MinMinMv] a ∧
    ((List.range 16).foldl (sampleDi x) a).Writes (Reg.fioDoRb :: Ev.fioStatusDioFault.fields) b ∧
    ((List.range 4).foldl (sampleAi x) b).Writes aoFields t

theorem leads_sampledFrom (x : FieldSample) (s : State) : leads (.fieldSampleInstant x) s (sampledFrom x s) := by
  refine ⟨_, rfl, ?_⟩
  extract_lets s1 s2 s3 s4 p s5 bad s6 s7
  have hdos : s4.Writes (Reg.fioDoRb :: Ev.fioStatusDioFault.fields) s5 :=
    (State.Writes.refl _ s4).sampleDos (by decide) _ _
  have haos : s7.Writes aoFields ((List.range 4).foldl (sampleAo x) s7) :=
    (State.Writes.refl _ s7).foldl fun _ _ hn h => h.sampleAo (List.mem_range.mp hn)
  have hao : s7.Writes aoFields (startWetting ((List.range 4).foldl (sampleAo x) s7)) := .ite haos.upd haos
  exact ⟨s3, s6, .noteFld24 (.upd (.refl _ s2)) (by decide), .ite hdos (.raiseIf hdos.upd (by decide)), hao⟩

/-! ### The update -/

/-- The DOs that the commands of the frame switch on. -/
def commandedDos (s : State) : Nat := bitmap 8 (fun n => bitOf s.fio.wantDo n && fioDoEnabled (s.conf objFio) n)

/-- The state in which an update has recorded the commands. -/
def commandsTaken (s : State) : State :=
  reenable ((List.range 4).foldl updateAo (coolStages ((toPhase 216000 s).set Reg.fioDoCmd (commandedDos s))))

/-- The stages as an update leaves them, before FIO_DO shows them. -/
def stagesUpdated (s : State) : State :=
  if (commandsTaken s).fio.lockedOff then commandsTaken s
  else (commandsTaken s).updFio (fun f => { f with
    doRef := commandedDos s, latched := bitmap 8 (fun n => bitOf f.latched n && bitOf (commandedDos s) n) })

theorem exec_fieldUpdate_blocked (h : s.pair.blocked = true) : exec .fieldUpdate s = .next (toPhase 216000 s) := by
  have hblocked : ((toPhase 216000 s).pair.blocked || !(toPhase 216000 s).time.ticked) = true := by
    rw [toPhase_pair, h, Bool.true_or]
  exact congrArg Host.Outcome.next (if_pos hblocked)

theorem exec_fieldUpdate (hblocked : s.pair.blocked = false) (hticked : s.time.ticked = true) :
    exec .fieldUpdate s = .next (showStages (stagesUpdated s)) := by
  have hopen : ¬ ((toPhase 216000 s).pair.blocked || !(toPhase 216000 s).time.ticked) = true := by
    rw [toPhase_pair, (State.FieldKept.refl s).toPhase.ticked, hblocked, hticked]
    decide
  refine (congrArg Host.Outcome.next (if_neg hopen)).trans ?_
  simp only [toPhase_conf, toPhase_fio]
  rfl

theorem commandsTaken_writes (s : State) :
    ((toPhase 216000 s).set Reg.fioDoCmd (commandedDos s)).Writes [] (commandsTaken s) := by
  generalize hu : (toPhase 216000 s).set Reg.fioDoCmd (commandedDos s) = u
  have haos : u.Writes [] ((List.range 4).foldl updateAo (coolStages u)) :=
    .foldl (.upd (.refl _ u)) fun _ _ _ h => h.upd
  rw [commandsTaken, hu]
  exact .ite haos.upd haos

theorem stagesUpdated_writes (s : State) :
    ((toPhase 216000 s).set Reg.fioDoCmd (commandedDos s)).Writes [] (stagesUpdated s) :=
  .ite (commandsTaken_writes s) (commandsTaken_writes s).upd

/-- Outside a LOCKOUT the recording of the commands leaves who drives, and which outputs are latched off. -/
theorem commandsTaken_fio (h : s.fio.lockedOff = false) : (commandsTaken s).fio.lockedOff = false ∧
    (commandsTaken s).fio.drive = s.fio.drive ∧ (commandsTaken s).fio.latched = s.fio.latched := by
  generalize hu : (List.range 4).foldl updateAo (coolStages ((toPhase 216000 s).set Reg.fioDoCmd (commandedDos s))) = u
  have hstages : (u.fio.lockedOff, u.fio.drive, u.fio.latched) = (s.fio.lockedOff, s.fio.drive, s.fio.latched) := by
    rw [← hu, foldl_keeps (fun t => (t.fio.lockedOff, t.fio.drive, t.fio.latched)) fun t n => by
      rw [updateAo, State.updFio_fio]]
    rw [coolStages, State.updFio_fio, State.set_fio, toPhase_fio]
  simp only [Prod.mk.injEq] at hstages
  obtain ⟨hlocked, hdrive, hlatched⟩ := hstages
  have hout : commandsTaken s = u := by
    rw [commandsTaken, hu, reenable, if_neg (by simp [hlocked, h])]
  rw [hout]
  exact ⟨hlocked.trans h, hdrive, hlatched⟩

theorem commandedDos_lt (s : State) : commandedDos s < 2 ^ (Reg.fioDoCmd.hi + 1 - Reg.fioDoCmd.lo) := bitmap_lt 8 _

theorem get_doCmd_stagesUpdated (s : State) : (stagesUpdated s).get Reg.fioDoCmd = commandedDos s := by
  rw [(stagesUpdated_writes s).get _ (by decide), State.get_set_same _ _ _ (by decide),
    Nat.mod_eq_of_lt (commandedDos_lt s)]

/-- Outside a LOCKOUT an update leaves who drives, and only outputs that are commanded on stay latched off. -/
theorem stagesUpdated_fio (h : s.fio.lockedOff = false) : (stagesUpdated s).fio.lockedOff = false ∧
    (stagesUpdated s).fio.drive = s.fio.drive ∧
    (stagesUpdated s).fio.latched = bitmap 8 (fun n => bitOf s.fio.latched n && bitOf (commandedDos s) n) := by
  obtain ⟨hlocked, hdrive, hlatched⟩ := commandsTaken_fio h
  have hrecorded (u : State) (d : Nat) (l : Nat → Nat) :
      let v := u.updFio (fun f => { f with doRef := d, latched := l f.latched })
      v.fio.lockedOff = u.fio.lockedOff ∧ v.fio.drive = u.fio.drive ∧ v.fio.latched = l u.fio.latched := ⟨rfl, rfl, rfl⟩
  obtain ⟨hlocked', hdrive', hlatched'⟩ := hrecorded (commandsTaken s) (commandedDos s)
    (fun l => bitmap 8 (fun n => bitOf l n && bitOf (commandedDos s) n))
  rw [stagesUpdated, if_neg (by simp [hlocked]), hlocked', hdrive', hlatched', hlatched]
  exact ⟨hlocked, hdrive, rfl⟩

/-- The stages that conduct at the owner outside a LOCKOUT. -/
theorem conducting_owner {u : State} (hdrive : u.fio.drive = .owner) (hlocked : u.fio.lockedOff = false) :
    conducting u = bitmap 8 (fun n =>
      bitOf (u.get Reg.fioDoCmd) n && fioDoEnabled (u.conf objFio) n && !bitOf u.fio.latched n) := by
  simp [conducting, hdrive, hlocked, Drive.active]

theorem conducting_stagesUpdated (hdrive : s.fio.drive = .owner) (hlocked : s.fio.lockedOff = false) {n : Nat}
    (hn : n < 8) :
    bitOf (conducting (stagesUpdated s)) n =
      (bitOf s.fio.wantDo n && fioDoEnabled (s.conf objFio) n && !bitOf s.fio.latched n) := by
  obtain ⟨hlocked', hdrive', hlatched'⟩ := stagesUpdated_fio hlocked
  have hconf : (stagesUpdated s).conf objFio = s.conf objFio := by
    rw [State.conf, State.conf, (stagesUpdated_writes s).cfg, State.set_cfg, (State.ProgKept.refl s).toPhase.cfg]
  rw [conducting_owner (hdrive'.trans hdrive) hlocked', get_doCmd_stagesUpdated, hconf, hlatched']
  simp only [commandedDos, bitOf_bitmap, hn, decide_true, Bool.true_and]
  cases bitOf s.fio.wantDo n <;> cases fioDoEnabled (s.conf objFio) n <;> simp

theorem leads_fieldUpdate (hblocked : s.pair.blocked = false) (hticked : s.time.ticked = true) :
    leads .fieldUpdate s (fun t => memKept s t ∧
      ∀ n, n < 8 → bitOf (t.get Reg.fioDoCmd) n = (bitOf s.fio.wantDo n && fioDoEnabled (s.conf objFio) n) ∧
        (s.fio.drive = .owner → s.fio.lockedOff = false → bitOf (t.get Reg.fioDoDrive) n =
          (bitOf s.fio.wantDo n && fioDoEnabled (s.conf objFio) n && !bitOf s.fio.latched n))) := by
  refine ⟨_, exec_fieldUpdate hblocked hticked, memKept_of_mem ?_, fun n hn => ⟨?_, fun hdrive hlocked => ?_⟩⟩
  · rw [(showStages_writes _).mem, (stagesUpdated_writes s).mem, State.set_mem, toPhase_mem]
  · rw [(showStages_writes _).get _ (by decide), get_doCmd_stagesUpdated, commandedDos, bitOf_bitmap, decide_eq_true hn,
      Bool.true_and]
  · rw [get_doDrive_showStages, conducting_stagesUpdated hdrive hlocked hn]

/-! ### The statement -/

/-- What the sample instant shows of the supply, the DIs and the AIs. -/
theorem sampledFrom.shows {t : State} (h : sampledFrom x s t) : memKept s t ∧ t.get Reg.fioFld24Mv = min 65535 x.fld24 ∧
    (∀ n b, n < 16 → levelOf (x.di.getD n 0) = some b → bitOf (t.get Reg.fioDiRaw) n = b) ∧
    (∀ n m k, n < 4 → fioAiEnabled (s.conf objFio) n = true → bitOf x.aiLimit n = false →
      fioDamp (s.conf objFio) n = 0 → m < 16777216 → 0 < k → x.ai.getD n (0, 1) = (((m * k : Nat) : Int), k) →
      t.get (Reg.fioAiI n) = divEven (m * 2500000) 16777215 ∧ t.get (Reg.fioAiClass n) = aiClass (m * 4294967296)) := by
  obtain ⟨a, b, hsupply, hdos, haos⟩ := h
  have hdis : a.Writes [Reg.fioDiRaw, Reg.fioDiState] ((List.range 16).foldl (sampleDi x) a) :=
    (State.Writes.refl _ a).foldl fun _ _ _ h => h.sampleDi (by decide) (by decide)
  have hais : b.Writes ((List.range 4).flatMap aiFields) ((List.range 4).foldl (sampleAi x) b) :=
    (State.Writes.refl _ b).foldl fun _ n hn h => h.sampleAi
      ((by decide : ∀ n, n < 4 → (aiFields n).all (·.among ((List.range 4).flatMap aiFields)) = true) n
        (List.mem_range.mp hn))
  have hafter := hdos.append (hais.append haos)
  have hall := hsupply.append (hdis.append hafter)
  have hcfg : b.cfg = s.cfg := by
    rw [(hsupply.append (hdis.append hdos)).cfg, State.set_cfg, (State.ProgKept.refl s).toPhase.cfg]
  have happart : ∀ n, n < 4 → aoFields.all (·.apart (Reg.fioAiI n)) = true ∧
      aoFields.all (·.apart (Reg.fioAiClass n)) = true := by decide
  refine ⟨memKept_of_mem (by rw [hall.mem, State.set_mem, toPhase_mem]), ?_, fun n b hn hb => ?_,
    fun n m k hn hon hlimit hdamp hm hk hx => ?_⟩
  · rw [hall.get _ (by decide), State.get_set_same _ _ _ (by decide), satTo_eq_min]
    exact Nat.mod_eq_of_lt (Nat.lt_succ_of_le (Nat.min_le_left _ _))
  · rw [hafter.get _ (by decide), sampleDis_raw hn hb]
  · obtain ⟨hi, hclass⟩ := happart n hn
    rw [haos.get _ hi, haos.get _ hclass]
    exact sampleAis_steps hn hon hlimit hdamp hm hk hx hcfg

theorem leads_fieldSampleInstant (x : FieldSample) (s : State) : leads (.fieldSampleInstant x) s (fun t => memKept s t ∧
    t.get Reg.fioFld24Mv = min 65535 x.fld24 ∧
    (∀ n, n < 16 → 11000 ≤ x.di.getD n 0 → bitOf (t.get Reg.fioDiRaw) n = true) ∧
    (∀ n, n < 16 → x.di.getD n 0 ≤ 5000 → bitOf (t.get Reg.fioDiRaw) n = false) ∧
    (∀ n m k, n < 4 → fioAiEnabled (s.conf objFio) n = true → bitOf x.aiLimit n = false →
      fioDamp (s.conf objFio) n = 0 → m < 16777216 → 0 < k → x.ai.getD n (0, 1) = (((m * k : Nat) : Int), k) →
      t.get (Reg.fioAiI n) = divEven (m * 2500000) 16777215 ∧ t.get (Reg.fioAiClass n) = aiClass (m * 4294967296))) := by
  obtain ⟨t, hexec, hsampled⟩ := leads_sampledFrom x s
  obtain ⟨hmem, hsupply, hdis, hais⟩ := hsampled.shows
  exact ⟨t, hexec, hmem, hsupply, fun n hn hx => hdis n true hn (levelOf_high hx),
    fun n hn hx => hdis n false hn (levelOf_low hx), hais⟩

/-- Settles O33: the supply and the stages event by event, the sample instant and the update by their steps. -/
theorem fieldSupplyAndStages : Obligations.FieldSupplyAndStages := by
  unfold Obligations.FieldSupplyAndStages
  intro s
  exact ⟨leads_fldLow, fun h => ⟨exec_fldNormal h, leads_lockout h⟩, leads_lockoutEnd, fun _ => leads_doLatchOff,
    leads_stageHoldEnd, fun _ _ => ⟨leads_diSinkWindow_twice, leads_diSinkWindow_inBand⟩,
    fun x => leads_fieldSampleInstant x s, rfl, exec_fieldUpdate_blocked, leads_fieldUpdate⟩

end Sys2Proof.Machine
end

section
/-! SUPPORT. The FIELDIO and CANAUX families (09 R295, R310; 10 R320, R327, R333): the status records at their offsets, and
what the other commands leave. -/

namespace Sys2Proof.Machine

variable {i c o : Nat} {r : Req} {s : State}

/-! ### Registers in a record -/

/-- The register at position `j` of a row of registers. -/
theorem leAt_regBytes (s : State) {l : List Nat} {j a : Nat} (hj : l[j]? = some a) :
    leAt (l.flatMap (regBytes s)) (4 * j) 4 = (s.reg a).toNat := by
  rw [← Nat.add_zero (4 * j), leAt_flatMap (f := regBytes s) (fun _ => leBytes_length _ _) hj (by decide), regBytes,
    ← List.append_nil (leBytes 4 _), leAt_leBytes_append]
  exact Nat.mod_eq_of_lt (s.reg a).isLt

theorem length_flatMap_regBytes (s : State) (l : List Nat) : (l.flatMap (regBytes s)).length = 4 * l.length := by
  simp [regBytes, Nat.mul_comm]

/-! ### FIELDIO -/

/-- The registers of the status record of R310. -/
def fieldStatusRegs : List Nat :=
  [Reg.fioStatusDioFault.addr, Reg.fioEventAiFail.addr, Reg.fioDiRaw.addr, Reg.fioDoCmd.addr, Reg.fioFld24Mv.addr,
    Reg.fioCfgRevRev.addr] ++ (List.range 4).map (fun n => (Reg.fioAiI n).addr) ++
    (List.range 4).map (fun n => (Reg.fioAoI n).addr) ++ (List.range 4).map (fun n => (Reg.fioAoSetSet n).addr)

theorem answers_fieldioGetStatus (h : requestOk 14 1 noPayload i r s = true) :
    answers (.fieldioGetStatus r) 14 1 i r s (fun p u => u = s ∧ p.length = 72 ∧
      leAt p 0 4 = (s.reg 0x60004).toNat ∧ leAt p 8 4 = (s.reg 0x60018).toNat ∧
      ∀ n, n < 4 → leAt p (24 + 4 * n) 4 = (s.reg (0x60040 + 4 * n)).toNat) := by
  refine answers_of_ok (u := s) (pay := fieldStatusRegs.flatMap (regBytes s)) rfl h ?_
    ⟨rfl, length_flatMap_regBytes s _, leAt_regBytes s (j := 0) rfl, leAt_regBytes s (j := 2) rfl, fun n hn => ?_⟩
  · simp only [fieldStatusRegs, List.flatMap_append, List.flatMap_map]
  · have hj : fieldStatusRegs[6 + n]? = some (0x60040 + 4 * n) :=
      (by decide : ∀ n, n < 4 → fieldStatusRegs[6 + n]? = some (0x60040 + 4 * n)) n hn
    rw [show 24 + 4 * n = 4 * (6 + n) by ring, leAt_regBytes s hj]

theorem answers_fieldioClearFault (h : requestOk 14 4 (exactly 4) i r s = true) (hmask : leAt r.payload 0 4 = 3) :
    answers (.fieldioClearFault r) 14 4 i r s (fun p u => p.length = 8 ∧ memKept s u ∧
      u.on Reg.fioStatusDioFault = s.on Reg.fioStatusFldLow ∧ u.on Reg.fioStatusFldLow = s.on Reg.fioStatusFldLow ∧
      u.reg 0x60008 = 0#32) := by
  generalize hcleared : (s.setBit Reg.fioStatusDioFault false).raiseIf (s.on Reg.fioStatusFldLow) Ev.fioStatusDioFault = u
  have hkept : s.Writes Ev.fioStatusDioFault.fields u := by
    rw [← hcleared]
    exact .raiseIf (.setBit (.refl _ s) (by decide)) (by decide)
  have hfault : u.on Reg.fioStatusDioFault = s.on Reg.fioStatusFldLow := by
    rw [← hcleared, State.raiseIf]
    cases s.on Reg.fioStatusFldLow
    · rw [if_neg Bool.false_ne_true]
      exact State.on_setBit_same _ _ _ (by decide) rfl
    · rw [if_pos rfl]
      exact State.on_raise_flag _ _ (by decide)
  have hstatus {g : Fld} (hg : g.addr ≠ Reg.fioEventAiFail.addr) :
      (u.setReg Reg.fioEventAiFail.addr 0#32).get g = u.get g :=
    congrArg (fieldOf · g.hi g.lo) (State.reg_setReg_other _ _ _ _ hg)
  generalize hv : u.setReg Reg.fioEventAiFail.addr 0#32 = v at hstatus
  have hmem : v.mem = s.mem := by rw [← hv, State.setReg_mem, hkept.mem]
  have hzero : v.reg Reg.fioEventAiFail.addr = 0#32 := by rw [← hv, State.reg_setReg_same]
  refine answers_of_ok (u := v) (pay := regBytes v Reg.fioStatusDioFault.addr ++ regBytes v Reg.fioEventAiFail.addr) rfl h
    ?_ ⟨?_, memKept_of_mem hmem, ?_, ?_, hzero⟩
  · obtain ⟨hstatus, hevents⟩ : bitOf 3 0 = true ∧ bitOf 3 1 = true := by decide
    simp only [hmask, hstatus, hevents, if_true, hcleared, hv, Nat.reduceLeDiff, if_false]
  · rw [List.length_append, regBytes, regBytes, leBytes_length, leBytes_length]
  · rw [State.on, hstatus (by decide), ← State.on, hfault]
  · rw [State.on, hstatus (by decide), ← State.on, hkept.on]

/-! ### Objects of a CAN controller -/

theorem get_updCan (s : State) (c : Nat) (f : CanCtl → CanCtl) (g : Fld) : (s.updCan c f).get g = s.get g :=
  State.get_congr _ _ (State.updCan_regs s c f) g

theorem can_updObj (s : State) (c o : Nat) (f : CanObj → CanObj) :
    (s.updObj c o f).can = listSet s.can c (fun k => { k with objs := listSet k.objs o f }) := rfl

theorem State.canObj_updObj_same (hc : c < s.can.length) (ho : o < (s.ctl c).objs.length) (f : CanObj → CanObj) :
    (s.updObj c o f).canObj c o = f (s.canObj c o) := by
  rw [State.canObj, State.ctl, can_updObj, getD_listSet_same hc]
  exact getD_listSet_same ho f {}

theorem State.canObj_updObj_other (hc : c < s.can.length) {c' o' : Nat} (h : (c', o') ≠ (c, o)) (f : CanObj → CanObj) :
    (s.updObj c o f).canObj c' o' = s.canObj c' o' := by
  rw [State.canObj, State.ctl, can_updObj]
  by_cases hcc : c' = c
  · subst hcc
    have hoo : o' ≠ o := fun hoo => h (by rw [hoo])
    rw [getD_listSet_same hc]
    exact getD_listSet_other _ hoo f {}
  · rw [getD_listSet_other _ hcc]
    rfl

/-! ### CANAUX -/

theorem answers_canauxGetStatus (h : requestOk 15 1 noPayload i r s = true) :
    answers (.canauxGetStatus r) 15 1 i r s (fun p u => u = s ∧ p.length = 48 ∧
      leAt p 0 4 = (s.reg Reg.canStatusNormal0.addr).toNat) := by
  refine answers_of_ok rfl h rfl ⟨rfl, ?_, ?_⟩
  · simp [List.range_succ]
  · simp only [List.append_assoc]
    rw [leAt_leBytes_append]
    exact Nat.mod_eq_of_lt (s.reg _).isLt

section Enqueue

variable (h : requestOk 15 4 (fun n => decide (4 ≤ n) && n == 4 + leAt r.payload 2 1) i r s = true)
  (hbad : enqueueBad r.payload s = none)

include h hbad

theorem answers_canauxTxEnqueue (hcontroller : leAt r.payload 0 1 = c) (hobject : leAt r.payload 1 1 = o)
    (hheld : s.held = true) (hstate : s.get (Reg.canCtrlState c) ≤ canPassive) (hidle : (s.ctl c).sending ≠ some o)
    (hon : canEnabled (s.conf objCan) c = true) (hc : c < s.can.length) (ho : o < (s.ctl c).objs.length) :
    answers (.canauxTxEnqueue r) 15 4 i r s (fun p u => p = [] ∧ u.regs = s.regs ∧ memKept s u ∧
      (u.canObj c o).st = 1 ∧ (u.canObj c o).data = r.payload.drop 4 ∧ (u.canObj c o).queuedAt = frameIndex s.now ∧
      ∀ c' o', (c', o') ≠ (c, o) → u.canObj c' o' = s.canObj c' o') := by
  subst hcontroller hobject
  have howner : ¬ (!s.held) = true := by simp [hheld]
  have hfree : ¬ (decide (canPassive < s.get (Reg.canCtrlState (leAt r.payload 0 1))) ||
      (s.ctl (leAt r.payload 0 1)).sending == some (leAt r.payload 1 1) ||
      !canEnabled (s.conf objCan) (leAt r.payload 0 1)) = true := by
    simp [Nat.not_lt.mpr hstate, hidle, hon]
  refine answers_of_ok (u := ?u) (pay := []) rfl h ?hact ⟨rfl, ?hp⟩
  case hact =>
    simp only [hbad]
    refine (if_neg howner).trans ?_
    exact if_neg hfree
  case hp =>
    refine ⟨State.updObj_regs .., memKept_of_mem (State.updObj_mem ..), ?_, ?_, ?_,
      fun c' o' hne => State.canObj_updObj_other hc hne _⟩
    all_goals rw [State.canObj_updObj_same hc ho]

theorem answersErr_canauxTxEnqueue_follower (hheld : s.held = false) :
    answersErr (.canauxTxEnqueue r) 15 4 i r s stStateConflict noField (fun u => u = s) := by
  refine answersErr_of_err rfl h ?_ (by decide) rfl
  simp only [hbad, (src_of_requestOk h).1]
  exact if_pos (by simp [hheld])

end Enqueue

section Recover

variable (h : requestOk 15 5 (exactly 4) i r s = true) (hcontroller : leAt r.payload 0 1 = c) (hc : c < 2)
  (hresv : leAt r.payload 1 3 = 0)

/-- The checks of RECOVER on a controller that there is. -/
theorem recover_checks (hc : leAt r.payload 0 1 < 2) (hresv : leAt r.payload 1 3 = 0) :
    firstBad ((0, decide (leAt r.payload 0 1 < 2)) :: resv r.payload 1 3) = none := by
  refine firstBad_none fun p hp => ?_
  rcases List.mem_cons.mp hp with rfl | hp
  · exact decide_eq_true hc
  · exact resv_ok 3 hresv p hp

/-- A log entry of an error-state change leaves that state, and memory. -/
theorem logState_spec (c : Nat) (s : State) : (logState c s).get (Reg.canCtrlState c) = s.get (Reg.canCtrlState c) ∧
    (logState c s).mem = s.mem := by
  have haddr : (Reg.canCtrlLogLastSeq c).addr ≠ (Reg.canCtrlState c).addr := by
    simp only [Reg.canCtrlLogLastSeq, Reg.canCtrlState]
    omega
  unfold logState canLog
  exact ⟨(State.get_set_apart _ _ _ _ rfl (Fld.apart_of_addr haddr)).trans (get_updCan _ _ _ _), rfl⟩

include h hcontroller hc hresv

theorem answers_canauxRecover (hstate : s.get (Reg.canCtrlState c) = canBusOff) :
    answers (.canauxRecover r) 15 5 i r s (fun p u => p = [] ∧ u.get (Reg.canCtrlState c) = canRecovering ∧
      memKept s u) := by
  subst hcontroller
  refine answers_of_ok (u := ?u) (pay := []) rfl h ?hact ⟨rfl, ?hp⟩
  case hact =>
    simp only [recover_checks hc hresv]
    exact if_pos hstate
  case hp =>
    obtain ⟨hget, hmem⟩ := logState_spec (leAt r.payload 0 1) ((s.set (Reg.canCtrlState (leAt r.payload 0 1))
      canRecovering).set (Reg.canCtrlRecov (leAt r.payload 0 1)) 0)
    refine ⟨?_, memKept_of_mem (by rw [hmem, State.set_mem, State.set_mem])⟩
    rw [hget, State.get_set_beside _ _ _ _ rfl (.inl (by decide : 8 < 30)), State.get_set_same _ _ _ rfl]
    rfl

theorem answersErr_canauxRecover (hstate : s.get (Reg.canCtrlState c) ≠ canBusOff) :
    answersErr (.canauxRecover r) 15 5 i r s stStateConflict noField (fun u => u = s) := by
  subst hcontroller
  refine answersErr_of_err rfl h ?_ (by decide) rfl
  simp only [recover_checks hc hresv]
  exact if_neg hstate

end Recover

theorem answers_canauxReadRx {n : Nat} (h : requestOk 15 6 (exactly 12) i r s = true)
    (hcontroller : leAt r.payload 0 1 = c) (hc : c < 2) (hresv : leAt r.payload 1 3 = 0) (hcount : leAt r.payload 8 1 = n) (hmin : 1 ≤ n) (hmax : n ≤ 32)
    (hresv' : leAt r.payload 9 3 = 0) :
    answers (.canauxReadRx r) 15 6 i r s (fun p u => u = s ∧ leAt p 0 1 =
      min n ((s.ctl c).log.filter (fun e => decide (leAt r.payload 4 4 ≤ e.1))).length) := by
  subst hcontroller hcount
  have hchecks : firstBad ([(0, decide (leAt r.payload 0 1 < 2))] ++ resv r.payload 1 3 ++
      [(8, decide (1 ≤ leAt r.payload 8 1) && decide (leAt r.payload 8 1 ≤ 32))] ++ resv r.payload 9 3) = none := by
    refine firstBad_none fun p hp => ?_
    simp only [List.mem_append, List.mem_singleton] at hp
    obtain ((rfl | hp) | rfl) | hp := hp
    · exact decide_eq_true hc
    · exact resv_ok 3 hresv p hp
    · simp [hmin, hmax]
    · exact resv_ok 3 hresv' p hp
  refine answers_of_ok (u := s) (pay := ?pay) rfl h ?hact ⟨rfl, ?hp⟩
  case hact =>
    simp only [hchecks]
    rfl
  case hp =>
    rw [List.append_assoc, List.append_assoc, leAt_leBytes_append, List.length_take]
    exact Nat.mod_eq_of_lt ((Nat.min_le_left _ _).trans_lt (by omega))

/-- Settles O34, command by command. -/
theorem fieldAndCanCommands : Obligations.FieldAndCanCommands := by
  unfold Obligations.FieldAndCanCommands
  intro i r s
  exact ⟨answers_fieldioGetStatus, answers_fieldioClearFault, answers_canauxGetStatus,
    fun c o h hbad hcontroller hobject => ⟨answers_canauxTxEnqueue h hbad hcontroller hobject,
      answersErr_canauxTxEnqueue_follower h hbad⟩,
    fun c h hcontroller hc hresv => ⟨answers_canauxRecover h hcontroller hc hresv,
      answersErr_canauxRecover h hcontroller hc hresv⟩,
    fun c n h hcontroller hc hresv hcount hmin hmax hresv' =>
      answers_canauxReadRx h hcontroller hc hresv hcount hmin hmax hresv'⟩

end Sys2Proof.Machine
end

section
/-! SUPPORT. A failed attempt of a CAN controller that does not count in TEC (10 R322, R325). -/

namespace Sys2Proof.Machine

variable {c o bitPos : Nat} {s : State}

/-- The fields that the failure of an object of controller `c` writes (R317, R322). -/
def canFailFields (c : Nat) : List Fld := Reg.canCtrlLogLastSeq c :: (evTxFail c).fields

theorem canFail_writes (hc : c < 2) (o reason bitPos time : Nat) (esi : Bool) (s : State) :
    s.Writes (canFailFields c) (canFail c o reason bitPos time esi s) := by
  obtain ⟨hlog, hevent⟩ : (Reg.canCtrlLogLastSeq c).among (canFailFields c) = true ∧
      (evTxFail c).fields.all (·.among (canFailFields c)) = true := by
    interval_cases c <;> decide
  unfold canFail canLog
  exact .raise (.set (.upd (.upd (.refl _ s))) hlog) hevent

/-- Below the counts of PASSIVE a controller stays ACTIVE. -/
theorem nextErr_active {tec rec : Nat} (htec : tec < 128) (hrec : rec < 128) :
    nextErr canActive tec rec = canActive := by
  have hbusOff : ¬ 255 < tec := by omega
  have hpassive : ¬ (128 ≤ tec ∨ 128 ≤ rec) := by omega
  rw [nextErr, if_neg (by decide), if_neg hbusOff, if_neg hpassive]

theorem afterErr_of_state {was : Nat} (h : s.get (Reg.canCtrlState c) = was) : afterErr c was s = s := if_pos h

theorem get_tec_putCounts {tec rec : Nat} (htec : tec ≤ 511) :
    (putCounts c tec rec s).get (Reg.canCtrlTec c) = tec := by
  have hsat : satTo 511 tec = tec := if_pos htec
  rw [putCounts, State.setBit, State.get_set_beside _ _ _ _ rfl (.inr (by decide : 26 < 29)),
    State.get_set_beside _ _ _ _ rfl (.inl (by decide : 17 < 18)), State.get_set_same _ _ _ rfl, hsat]
  exact Nat.mod_eq_of_lt (Nat.lt_succ_of_le htec)

/-- The attempt on the bus has ended with `reason`, and TEC and the error state stand as `tec` demands; the status of the
object is still to come. -/
def attemptCounted (c reason tec : Nat) (s : State) : State :=
  let rec0 := s.get (Reg.canCtrlRec c)
  (putCounts c tec rec0 (countErr c reason (s.updCan c (fun k => { k with sending := none })))).set
    (Reg.canCtrlState c) (nextErr (s.get (Reg.canCtrlState c)) tec rec0)

/-- A stuff error in arbitration whose recessive stuff bit is read dominant leaves TEC as it was counted before. -/
theorem exec_canTxDone_stuffInArbitration (hsending : (s.ctl c).sending = some o)
    (hpos : bitPos < arbitrationEnd (s.conf objCan) c o) :
    ∃ sof esi, exec (.canTxDone c 2 bitPos true 0) s = .next (afterErr c (s.get (Reg.canCtrlState c))
      (canFail c o 2 bitPos sof esi (attemptCounted c 2 (s.get (Reg.canCtrlTec c)) s))) := by
  have hconf : (s.updCan c (fun k => { k with sending := none })).conf objCan = s.conf objCan := rfl
  change ∃ sof esi, execCanTxDone c 2 bitPos true 0 s = _
  simp only [execCanTxDone, hsending, get_updCan, hconf, hpos]
  exact ⟨_, _, rfl⟩

theorem leads_canTxDone_stuffInArbitration (hc : c < 2) (hsending : (s.ctl c).sending = some o)
    (hactive : s.get (Reg.canCtrlState c) = canActive) (hrec : s.get (Reg.canCtrlRec c) < 96)
    (htec : s.get (Reg.canCtrlTec c) < 96) (hpos : bitPos < arbitrationEnd (s.conf objCan) c o) :
    leads (.canTxDone c 2 bitPos true 0) s (fun t => t.get (Reg.canCtrlTec c) = s.get (Reg.canCtrlTec c)) := by
  obtain ⟨sof, esi, hexec⟩ := exec_canTxDone_stuffInArbitration hsending hpos
  obtain ⟨htecApart, hstateApart⟩ : (canFailFields c).all (·.apart (Reg.canCtrlTec c)) = true ∧
      (canFailFields c).all (·.apart (Reg.canCtrlState c)) = true := by
    interval_cases c <;> decide
  generalize hu : attemptCounted c 2 (s.get (Reg.canCtrlTec c)) s = u at hexec
  have hfail := canFail_writes hc o 2 bitPos sof esi u
  have hstate : u.get (Reg.canCtrlState c) = s.get (Reg.canCtrlState c) := by
    rw [← hu, attemptCounted, State.get_set_same _ _ _ rfl, hactive, nextErr_active (by omega) (by omega)]
    rfl
  have hcounted : u.get (Reg.canCtrlTec c) = s.get (Reg.canCtrlTec c) := by
    rw [← hu, attemptCounted, State.get_set_beside _ _ _ _ rfl (.inr (by decide : 26 < 30)),
      get_tec_putCounts (by omega)]
  rw [afterErr_of_state ((hfail.get _ hstateApart).trans hstate)] at hexec
  exact ⟨_, hexec, (hfail.get _ htecApart).trans hcounted⟩

/-- Controller 0 has the frame of its object 0 on the bus, whose record in the default configuration has base identifier 0. -/
def attemptOnBus : State := State.reset.updCan 0 (fun k => { k with sending := some 0 })

/-- Refutes O35: the stuff bit after SOF and four dominant identifier bits is read dominant, so that object 0 fails with
STUFF_ERROR in arbitration. A failure counts in TEC as ISO 11898-1 prescribes (R322), which leaves this error out: TEC stays
0 and does not rise by 8. -/
theorem not_canControllers : ¬ Obligations.CanControllers := by
  unfold Obligations.CanControllers
  intro h
  have hsending : (attemptOnBus.ctl 0).sending = some 0 := by decide +kernel
  have hactive : attemptOnBus.get (Reg.canCtrlState 0) = canActive := by decide +kernel
  have hrec : attemptOnBus.get (Reg.canCtrlRec 0) < 96 := by decide +kernel
  have htec : attemptOnBus.get (Reg.canCtrlTec 0) < 96 := by decide +kernel
  obtain ⟨-, -, -, hdone, -⟩ := h 0 attemptOnBus (by decide) (by decide +kernel)
  obtain ⟨-, hfailed⟩ := hdone 0 5 true 0 hsending (by decide +kernel) hactive hrec htec
  obtain ⟨t, hexec, hkept⟩ := leads_canTxDone_stuffInArbitration (bitPos := 5) (by decide) hsending hactive hrec htec
    (by decide +kernel)
  obtain ⟨-, -, -, -, hraised, -⟩ := leads_next (hfailed 2 (by decide) (by decide)) hexec
  omega

end Sys2Proof.Machine
end

section
/-! SUPPORT. Refutations of statements on the pair, the fabric and the archive: in each a concrete state and command meet the
hypotheses and miss the conclusion. -/

namespace Sys2Proof.Machine

/-- A write of no beats by engine 0 to a register block, which the engine's own ring and memory do not hold. -/
def emptyWrite : FabAcc := ⟨0, false, false, 1, 0x4030000000, 0, 0, [], []⟩

/-- Refutes O25: an access of a Petal engine outside its own SRAM and rings is issued where it has no beats, since the check
of its bytes (01 R20) finds none outside. The write is acknowledged, and the state is not the same. -/
theorem not_fabricAccesses : ¬ Obligations.FabricAccesses := by
  unfold Obligations.FabricAccesses
  intro h
  obtain ⟨-, houtside, -⟩ := h
  have htarget : targetOf emptyWrite.addr = some (0x4030000000, 0x1000000, 7) := by decide +kernel
  have hsame := houtside emptyWrite State.reset _ _ _ rfl htarget (.inr (.inl (by decide)))
  have hsent : (nextOr State.reset (exec (.fabricAccess emptyWrite) State.reset)).outbox.length = 1 := by decide +kernel
  rw [hsame] at hsent
  exact absurd hsent (by decide +kernel)

/-- An ALONE module that does not hold OWN, whose field outputs are shown as driven. -/
def aloneDriven : State :=
  let s := State.reset.set Reg.sysRoleRole roleAlone
  let s := s.set Reg.fioStatusDrive 1
  { s with fio := { s.fio with drive := .owner } }

/-- Refutes O57: a removal with the button held takes a module that does not hold OWN to role none, and its outputs then follow
the role, which clears FIO_STATUS.DRIVE; not every register of the FIO block is as before. -/
theorem not_redundancyCommandsAndHandover : ¬ Obligations.RedundancyCommandsAndHandover := by
  unfold Obligations.RedundancyCommandsAndHandover
  intro h
  obtain ⟨-, -, -, -, -, -, -, halone, -⟩ := h 0 ⟨.petal 0, 0, 0, 0, 0, 0, 0, [], 0⟩ aloneDriven
    (decide (aloneDriven.role = rolePrimary ∧ aloneDriven.prog.state ≠ .changing ∧ aloneDriven.pair.handover = none ∧
      aloneDriven.pair.joiner = none ∧ ∀ p ∈ aloneDriven.pair.peers, p.role ≠ roleSyncing ∧ (p.role = roleStandby →
        p.taint = false ∧ (p.time.valid = true ∨ aloneDriven.on Reg.sysModeRunNoTime = true)))) decide_eq_true_iff
  obtain ⟨-, hheld⟩ := halone (by decide +kernel) (by decide +kernel)
  obtain ⟨-, -, -, -, -, -, -, hregs⟩ := leads_next hheld rfl
  have hdrive := hregs Reg.fioStatusDrive.addr (by decide) (by decide)
  exact absurd hdrive (by decide +kernel)

/-- Engine 0 has a request of its archive ring posted, whose entry in memory holds no descriptor. -/
def postedBlank : State := { State.reset with prog := { State.reset.prog with postedBy := [(petalRing 0 9, 0)] } }

/-- The LOG_EVENT of severity 3 that engine 0 posts. -/
def urgentEvent : Req := ⟨.petal 0, 0, 0, 0, 4, 0, 1, [0#8, 0#8, 3#8, 0#8], 0⟩

/-- Refutes O47: LOG_EVENT of a Petal task whose ring entry is not a descriptor of the form of 03 R79 fails its first check
(R93) and enters nothing, whatever its severity. -/
theorem not_archiveLogAndLifetime : ¬ Obligations.ArchiveLogAndLifetime := by
  unfold Obligations.ArchiveLogAndLifetime
  intro h
  obtain ⟨-, -, -, hevent, -⟩ := h 0 urgentEvent postedBlank
  have hled := hevent 0 3 (by decide +kernel) (by decide +kernel) (by decide +kernel) (by decide) (by decide +kernel)
    (by decide +kernel) (.inl rfl)
  obtain ⟨-, hlog, -⟩ := leads_next hled rfl
  have hlength := congrArg List.length hlog
  exact absurd hlength (by decide +kernel)

end Sys2Proof.Machine
end

section
/-! SUPPORT. Refutations of statements on retirement and on resets: in each a concrete state and command meet the hypotheses
and miss the conclusion. -/

namespace Sys2Proof.Machine

/-- A page of block 0 of BOOT copy 0 is read with 48 bit errors in its codeword, which calls for a refresh. -/
def wornPage : SweepPage := ⟨0, 0, 0, 0, ⟨[⟨48, true⟩], [], []⟩, false, 0, false⟩

/-- The sweep is enabled, and every block of BOOT copy 0 holds a page; the array lists block 0 a second time, erased. -/
def twiceListed : State :=
  let s := State.reset.set Reg.lckDiagCtrlNandSweepEn 1
  { s with nvs := { s.nvs with nand := { s.nvs.nand with
    blocks := (List.range 64).map (fun i => { pool := 0, index := i, pages := [⟨0, i, 0, [], true, false⟩] }) ++
      [{ pool := 0, index := 0 }] } } }

/-- Refutes O48: the free block of a pool before the read may be a second entry of the very block that is read. The read
writes its counts to both entries, so that no block is free when the refresh comes, and the page stays where it is. -/
theorem not_scrubbingAndRetirement : ¬ Obligations.ScrubbingAndRetirement := by
  unfold Obligations.ScrubbingAndRetirement
  intro h
  obtain ⟨-, -, -, -, -, -, -, -, -, -, hsweep, -⟩ := h twiceListed
  obtain ⟨-, -, hread⟩ := hsweep wornPage 0 (twiceListed.nvs.nand.blk 0 0) (by decide +kernel) (by decide) rfl rfl
  have hled := hread ⟨0, 0, 0, [], true, false⟩ _ (by decide +kernel) rfl
  obtain ⟨-, -, -, -, -, -, -, -, hkept⟩ := leads_next hled rfl
  obtain ⟨-, hrefreshed⟩ := hkept (by decide) (by decide +kernel) (by decide +kernel)
  obtain ⟨-, herased⟩ := hrefreshed 0 rfl (by decide +kernel) (by decide +kernel)
  exact absurd herased (by decide +kernel)

/-- The register file lists SYS_ROLE twice: first with role none, which it reads, and then with FAILED. -/
def roleTwice : State :=
  { State.reset with regs := [(Reg.sysRoleRole.addr, 0#32),
    (Reg.sysRoleRole.addr, putField 0#32 Reg.sysRoleRole.hi Reg.sysRoleRole.lo roleFailed)] }

/-- Refutes O50: the reset of a domain rewrites the register file entry by entry (00 R552), and of a register that is listed
twice the last entry stays. So the role of a state that is not in canonical form does not outlast the reset of domain 5. -/
theorem not_resetsAndRestarts : ¬ Obligations.ResetsAndRestarts := by
  unfold Obligations.ResetsAndRestarts
  intro h
  obtain ⟨-, -, -, -, hdomains, -⟩ := h roleTwice
  obtain ⟨-, -, hreset⟩ := hdomains (fun d => decide (d = 5 ∨ d = 6 ∨ d = 9) || (decide (d = 2 ∨ d = 7 ∨ d = 10) &&
    decide (roleTwice.role = roleNone ∨ roleTwice.role = roleSyncing ∨ roleTwice.role = roleAloneStandby ∨
      roleTwice.role = roleFailed))) (fun _ => rfl)
  obtain ⟨-, -, -, -, hrole⟩ := leads_next (hreset 5 [] rfl) rfl
  exact absurd hrole (by decide +kernel)

end Sys2Proof.Machine
end

section
/-! SUPPORT. What a reaction to a fault lasts through (11 R341-R343, 13 R407, 18 R507): memory, the record of boot, identity and
update, what stands beside the registers of power and backup, the time, and the registers of SYS before the role, Hollyhock,
LCK, MEM, GATE, SEC and PWR with those of BKD before the backup bytes. `State.Lasts s t` says so of a state `t` that comes
from `s`; one lemma per function of the model gives it, and its proof follows the function's definition. -/

namespace Sys2Proof.Machine

/-- The register is of SYS before the role, of the clock, of Hollyhock before the pair, of LCK, MEM, GATE, SEC or PWR, or of
BKD before the backup bytes or behind their CRC. -/
def lasting (a : Nat) : Bool :=
  decide (a < 0x10 ∨ (0x10014 ≤ a ∧ a ≤ 0x10020) ∨ (0x80000 ≤ a ∧ a < 0x80800) ∨
    (0x90000 ≤ a ∧ ¬ (0xD0000 ≤ a ∧ a < 0xE0000) ∧ ¬ (0xE0040 ≤ a ∧ a < 0xE0084)))

/-- Neither the flag nor its counter lies in those registers. -/
def Ev.passing (e : Ev) : Bool := !lasting e.flag.addr && e.cnt.all (fun c => !lasting c.addr)

theorem lasting_between {a : Nat} (hlow : 0x10020 < a) (h : a < 0x80000) : lasting a = false := by
  simp only [lasting, decide_eq_false_iff_not]
  omega

theorem lasting_pair {a : Nat} (hlow : 0x80800 ≤ a) (h : a < 0x90000) : lasting a = false := by
  simp only [lasting, decide_eq_false_iff_not]
  omega

theorem lasting_bytes {n : Nat} (h : n < 16) : lasting (Reg.bkdBytesWord n).addr = false :=
  (by decide : ∀ n, n < 16 → lasting (Reg.bkdBytesWord n).addr = false) n h

/-- What Hollyhock keeps beside the numbers of its own frames. -/
def HhkSt.heard (k : HhkSt) : HhkSt := { k with txCtr := [], ctlSeq := 0 }

/-- `t` comes from `s` without a write to memory, to the record of boot, identity and update, to what stands beside the
registers of power and backup, to what Hollyhock keeps beside the numbers of its frames, or to a lasting register. -/
structure State.Lasts (s t : State) : Prop where
  mem : t.mem = s.mem
  sec : t.sec = s.sec
  pwr : t.pwr = s.pwr
  bkd : t.bkd = s.bkd
  hhk : t.hhk.heard = s.hhk.heard
  reg : ∀ a, lasting a = true → t.reg a = s.reg a

namespace State.Lasts

variable {s t u : State}

protected theorem refl (s : State) : s.Lasts s := ⟨rfl, rfl, rfl, rfl, rfl, fun _ _ => rfl⟩

protected theorem trans (h : s.Lasts t) (h' : t.Lasts u) : s.Lasts u where
  mem := h'.mem.trans h.mem
  sec := h'.sec.trans h.sec
  pwr := h'.pwr.trans h.pwr
  bkd := h'.bkd.trans h.bkd
  hhk := h'.hhk.trans h.hhk
  reg a ha := (h'.reg a ha).trans (h.reg a ha)

protected theorem memKept (h : s.Lasts t) : memKept s t := memKept_of_mem h.mem

protected theorem ite {c : Prop} [Decidable c] (ht : s.Lasts t) (hu : s.Lasts u) : s.Lasts (if c then t else u) := by
  split <;> assumption

protected theorem foldl {α : Type} {f : State → α → State} {l : List α} (h : s.Lasts t)
    (hf : ∀ t, ∀ x ∈ l, s.Lasts t → s.Lasts (f t x)) : s.Lasts (l.foldl f t) := by
  induction l generalizing t with
  | nil => exact h
  | cons x r ih => exact ih (hf t x (by simp) h) fun t y hy => hf t y (by simp [hy])

protected theorem upd (h : s.Lasts t) {mono freeCtr outbox time mbx pair nvs memi gate fio can cfg ast lsp net prog
    pending} :
    s.Lasts (State.mk t.regs t.mem mono freeCtr outbox time mbx pair t.hhk nvs memi gate fio can cfg ast lsp net prog
      t.sec t.pwr t.bkd pending) :=
  ⟨h.mem, h.sec, h.pwr, h.bkd, h.hhk, h.reg⟩

/-- Frames of Hollyhock are numbered. -/
protected theorem sent (h : s.Lasts t) {outbox tx seq} :
    s.Lasts { t with outbox := outbox, hhk := { t.hhk with txCtr := tx, ctlSeq := seq } } :=
  ⟨h.mem, h.sec, h.pwr, h.bkd, h.hhk, h.reg⟩

protected theorem setReg (h : s.Lasts t) {a : Nat} {w : Word} (ha : lasting a = false) : s.Lasts (t.setReg a w) :=
  ⟨h.mem, h.sec, h.pwr, h.bkd, h.hhk, fun b hb => (State.reg_setReg_other t a b w (fun hab => by
    rw [hab, ha] at hb; exact absurd hb (by decide))).trans (h.reg b hb)⟩

protected theorem set (h : s.Lasts t) {f : Fld} {v : Nat} (hf : lasting f.addr = false) : s.Lasts (t.set f v) :=
  h.setReg hf

protected theorem setBit (h : s.Lasts t) {f : Fld} {b : Bool} (hf : lasting f.addr = false) : s.Lasts (t.setBit f b) :=
  h.set hf

/-- A write to a field of an indexed block between the clock and Hollyhock. -/
protected theorem setBelow (h : s.Lasts t) {a k hi lo v : Nat} (hk : a + k < 0x80000) (ha : 0x10020 < a := by decide) :
    s.Lasts (t.set ⟨a + k, hi, lo⟩ v) :=
  h.set (lasting_between (Nat.lt_of_lt_of_le ha (Nat.le_add_right a k)) hk)

/-- A write to a field of an indexed block of the pair. -/
protected theorem setPair (h : s.Lasts t) {a k hi lo v : Nat} (hk : a + k < 0x90000) (ha : 0x80800 ≤ a := by decide) :
    s.Lasts (t.set ⟨a + k, hi, lo⟩ v) :=
  h.set (lasting_pair (Nat.le_trans ha (Nat.le_add_right a k)) hk)

protected theorem bump (h : s.Lasts t) {f : Fld} {n : Nat} (hf : lasting f.addr = false) : s.Lasts (t.bump f n) := h.set hf

protected theorem raise (h : s.Lasts t) {e : Ev} (he : e.passing = true) : s.Lasts (t.raise e) := by
  simp only [Ev.passing, Bool.and_eq_true, Bool.not_eq_true'] at he
  obtain ⟨hflag, hcnt⟩ := he
  obtain ⟨m, o, hraise⟩ := State.raise_frame t e
  rw [hraise, flagged]
  cases hc : e.cnt with
  | none => exact (h.set hflag).upd
  | some c => exact ((h.set hflag).set (f := c) (by simpa [hc] using hcnt)).upd

protected theorem raiseIf (h : s.Lasts t) {b : Bool} {e : Ev} (he : e.passing = true) : s.Lasts (t.raiseIf b e) :=
  .ite (h.raise he) h

protected theorem get (h : s.Lasts t) {f : Fld} (hf : lasting f.addr = true := by decide) : t.get f = s.get f := by
  rw [State.get, State.get, h.reg f.addr hf]

protected theorem on (h : s.Lasts t) {f : Fld} (hf : lasting f.addr = true := by decide) : t.on f = s.on f :=
  State.on_congr (h.get hf)

protected theorem seconds (h : s.Lasts t) : t.seconds = s.seconds := by
  rw [State.seconds, State.seconds, h.get, h.get]

protected theorem now (h : s.Lasts t) : t.now = s.now := by
  rw [State.now, State.now, h.seconds, h.get]

/-! ### Frames of the module (06, 08, 10, 12) -/

protected theorem toPeers (h : s.Lasts t) {kind data} : s.Lasts (toPeers kind data t) := by
  unfold Machine.toPeers sendNumbered sendBy
  exact .ite h.sent h.sent

protected theorem showStages (h : s.Lasts t) : s.Lasts (showStages t) := by
  unfold Machine.showStages
  refine .foldl (((h.setBit (by decide)).setBit (by decide)).set (by decide)) fun _ n hn h => ?_
  have hreg : 0x60050 + 4 * n < 0x80000 ∧ 0x60060 + 4 * n < 0x80000 := by
    have := List.mem_range.mp hn
    omega
  exact .ite (h.setBelow hreg.1) (.setBelow (.upd (h.setBelow hreg.1)) hreg.2)

protected theorem setDrive (h : s.Lasts t) {d} : s.Lasts (setDrive d t) := .showStages h.upd

protected theorem canFail (h : s.Lasts t) {c o reason bitPos time esi} (hc : c < 2) :
    s.Lasts (canFail c o reason bitPos time esi t) := by
  unfold Machine.canFail canLog
  refine .raise (.setBelow (.upd (.upd h)) (by omega)) ?_
  unfold evTxFail
  split <;> decide

protected theorem canRestrict (h : s.Lasts t) : s.Lasts (canRestrict t) := by
  unfold Machine.canRestrict canFailPending
  exact .setBit (.setBit (h.foldl fun _ _ hc h => h.foldl fun _ _ _ h => .ite (h.canFail (List.mem_range.mp hc)) h)
    (by decide)) (by decide)

protected theorem clearSending (h : s.Lasts t) : s.Lasts (clearSending t) := by
  unfold Machine.clearSending
  refine .foldl (h.foldl fun _ j hj h => ?_) fun _ n hn h => .ite ?_ h
  · have := List.mem_range.mp hj
    exact h.setBelow (by omega)
  · have := List.mem_range.mp hn
    exact h.setBelow (by omega)

protected theorem netTx (h : s.Lasts t) {n kind d} : s.Lasts (netTx n kind d t) := by
  unfold Machine.netTx Machine.portTx
  exact .ite (.ite (.upd (.ite h.upd h.upd)) (.ite h.upd h.upd)) (.ite h.upd h)

protected theorem closeClients (h : s.Lasts t) : s.Lasts (closeClients t) := by
  unfold Machine.closeClients
  refine h.foldl fun _ n hn h => .ite h ?_
  have := List.mem_range.mp hn
  exact .netTx (.setBelow (h.setBelow (by omega)) (by omega))

protected theorem gatesClose (h : s.Lasts t) {d} : s.Lasts (gatesClose d t) := by
  unfold Machine.gatesClose
  exact (h.setDrive.setBit (by decide)).canRestrict.clearSending.upd

/-! ### Roles and ownership (11) -/

protected theorem showPublishing (h : s.Lasts t) : s.Lasts (showPublishing t) := h.setBit (by decide)

protected theorem stopSingletons (h : s.Lasts t) : s.Lasts (stopSingletons t) := by
  unfold Machine.stopSingletons
  refine .showPublishing (h.foldl fun _ n hn h => ?_)
  have := List.mem_range.mp hn
  exact h.setPair (by omega)

protected theorem disarm (h : s.Lasts t) : s.Lasts (disarm t) := .setBit h.upd (by decide)

protected theorem releaseOwn (h : s.Lasts t) {d} : s.Lasts (releaseOwn d t) := by
  unfold Machine.releaseOwn ownRises
  exact .ite (.stopSingletons (.closeClients (.gatesClose (.setBit (.setBit (.upd (h.disarm.setBit (by decide)))
    (by decide)) (by decide))))) h.disarm

protected theorem setRole (h : s.Lasts t) {r} : s.Lasts (setRole r t) := .ite h ((h.set (by decide)).raise (by decide))

protected theorem followRole (h : s.Lasts t) : s.Lasts (followRole t) := .ite h h.setDrive

protected theorem enterRole (h : s.Lasts t) {r} : s.Lasts (enterRole r t) := by
  unfold Machine.enterRole reviewPairOk
  exact .followRole h.setRole.upd

protected theorem releaseTick (h : s.Lasts t) : s.Lasts (releaseTick t) :=
  .ite (.raise (.set (f := Reg.timStatusTickRole) h.upd (by decide)) (by decide)) h.upd

/-! ### Records (11 R343, 17 R486-R493, 18 R508) -/

protected theorem flushLog (h : s.Lasts t) : s.Lasts (flushLog t) := by
  unfold Machine.flushLog
  exact .ite h h.upd

protected theorem nandPut (h : s.Lasts t) {p logical data} : s.Lasts (nandPut p logical data t) := .ite h h.upd

protected theorem nandConf (h : s.Lasts t) {o data} : s.Lasts (nandConf o data t) := h.nandPut.nandPut

protected theorem confDone (h : s.Lasts t) {w} : s.Lasts (confDone w t) := by
  unfold Machine.confDone
  split
  · exact h.nandConf.upd
  · exact h.nandConf.upd

protected theorem flushNand (h : s.Lasts t) : s.Lasts (flushNand t) := by
  unfold Machine.flushNand
  exact .flushLog (.foldl h.upd fun _ _ _ h => h.confDone)

protected theorem lifetimeAdd (h : s.Lasts t) {kind data} : s.Lasts (lifetimeAdd kind data t) := by
  unfold Machine.lifetimeAdd nandEntries
  exact .ite h (.ite h (.set (.foldl h.upd fun _ _ _ h => h.nandPut.nandPut) (by decide)))

protected theorem putBackup (h : s.Lasts t) {bs} : s.Lasts (putBackup bs t) := by
  unfold Machine.putBackup
  exact .set (h.foldl fun _ _ hn h => h.set (lasting_bytes (List.mem_range.mp hn))) (by decide)

protected theorem writeBackup (h : s.Lasts t) {off bs} : s.Lasts (writeBackup off bs t) := h.putBackup

protected theorem recordLastFault (h : s.Lasts t) {v} : s.Lasts (recordLastFault v t) := h.writeBackup.writeBackup

protected theorem enterFailed (h : s.Lasts t) {lastFault cls d restart} :
    s.Lasts (enterFailed lastFault cls d restart t) := by
  unfold Machine.enterFailed
  exact .toPeers (.recordLastFault (.enterRole (.releaseTick (.stopSingletons (.setDrive (.upd (.releaseOwn
    (.lifetimeAdd h.upd))))))))

end State.Lasts

end Sys2Proof.Machine
end

section
/-! SUPPORT. The backup bytes (18 R508): what the sixteen words hold after a write, and what FAILED records there (11 R343). -/

namespace Sys2Proof.Machine

/-! ### Bytes written into a list -/

theorem patch_length (bs : List Byte) (off : Nat) (new : List Byte) : (patch bs off new).length = bs.length := by
  simp only [patch, List.length_take, List.length_append, List.length_drop]
  omega

/-- What is written within a list is read there. -/
theorem leAt_patch_same {bs new : List Byte} {off : Nat} (h : off + new.length ≤ bs.length) :
    leAt (patch bs off new) off new.length = leNat new := by
  have hbefore : (bs.take off).length = off := by rw [List.length_take]; omega
  rw [patch, leAt, List.drop_take, List.take_take, List.append_assoc, List.drop_append_of_le_length hbefore.ge,
    List.drop_eq_nil_of_le hbefore.le, List.nil_append, Nat.min_eq_left (by omega), List.take_left']
  rfl

/-- What lies beside the bytes written is as it was. -/
theorem leAt_patch_beside {bs new : List Byte} {off o n : Nat} (h : off + new.length ≤ bs.length)
    (hbeside : o + n ≤ off ∨ off + new.length ≤ o) : leAt (patch bs off new) o n = leAt bs o n := by
  rw [leAt, leAt]
  congr 1
  refine List.ext_getElem? fun i => ?_
  rw [List.getElem?_take, List.getElem?_take]
  split
  next hi =>
    rw [List.getElem?_drop, List.getElem?_drop, patch, List.getElem?_take]
    rcases hbeside with hlow | hhigh
    · rw [if_pos (by omega), List.append_assoc, List.getElem?_append_left (by rw [List.length_take]; omega),
        List.getElem?_take, if_pos (by omega)]
    · by_cases hin : o + i < bs.length
      · rw [if_pos hin, List.getElem?_append_right (by rw [List.length_append, List.length_take]; omega),
          List.getElem?_drop]
        congr 1
        rw [List.length_append, List.length_take]
        omega
      · rw [if_neg hin, List.getElem?_eq_none (by omega)]
  next => rfl

/-- The bytes of the number that a list holds are the list's. -/
theorem leBytes_leNat (l : List Byte) : leBytes l.length (leNat l) = l := by
  induction l with
  | nil => rfl
  | cons b r ih =>
    have hb := b.isLt
    rw [List.length_cons, leBytes, leNat, Nat.add_mul_div_left _ _ (by decide), Nat.div_eq_of_lt hb, Nat.zero_add, ih]
    congr 1
    exact BitVec.eq_of_toNat_eq (by rw [BitVec.toNat_ofNat]; omega)

/-- A list read in words of four bytes. -/
theorem flatMap_words (bs : List Byte) (n : Nat) (h : 4 * n ≤ bs.length) :
    (List.range n).flatMap (fun k => leBytes 4 (leAt bs (4 * k) 4)) = bs.take (4 * n) := by
  induction n with
  | zero => rfl
  | succ n ih =>
    have hword : ((bs.drop (4 * n)).take 4).length = 4 := by rw [List.length_take, List.length_drop]; omega
    rw [List.range_succ, List.flatMap_append, ih (by omega), List.flatMap_singleton, leAt]
    have hbytes := leBytes_leNat ((bs.drop (4 * n)).take 4)
    rw [hword] at hbytes
    rw [hbytes, Nat.mul_succ, List.take_add]

/-! ### The words of the backup bytes -/

theorem backup_length (s : State) : s.backup.length = 64 := by
  simp [State.backup, List.length_flatMap, List.map_const']

theorem Reg.bkdBytesWord_ok (n : Nat) : (Reg.bkdBytesWord n).ok = true := rfl

theorem Reg.bkdBytesWord_apart {m n : Nat} (h : m ≠ n) : (Reg.bkdBytesWord m).apart (Reg.bkdBytesWord n) = true := by
  have : (Reg.bkdBytesWord m).addr ≠ (Reg.bkdBytesWord n).addr := by
    simp only [Reg.bkdBytesWord]
    omega
  simp [Fld.apart, this]

/-- The bytes read what was put into them, and their CRC stands beside them. -/
theorem get_putBackup {n : Nat} (hn : n < 16) (bs : List Byte) (s : State) :
    (putBackup bs s).get (Reg.bkdBytesWord n) = leAt bs (4 * n) 4 := by
  have hcrc : Reg.bkdBytesCrcCrc.apart (Reg.bkdBytesWord n) = true :=
    (by decide : ∀ n, n < 16 → Reg.bkdBytesCrcCrc.apart (Reg.bkdBytesWord n) = true) n hn
  unfold putBackup
  rw [State.get_set_apart _ _ _ _ rfl hcrc]
  refine foldl_establishes (inv := fun _ => True) (p := fun t => t.get (Reg.bkdBytesWord n) = leAt bs (4 * n) 4)
    (List.mem_range.mpr hn) trivial (fun _ _ _ _ => trivial) (fun t _ => ?_) fun t m _ hm ht => ?_
  · rw [State.get_set_same _ _ _ rfl]
    exact Nat.mod_eq_of_lt (leAt_lt _ _ _)
  · rw [State.get_set_apart _ _ _ _ rfl (Reg.bkdBytesWord_apart hm), ht]

theorem backup_putBackup {bs : List Byte} (h : bs.length = 64) (s : State) : (putBackup bs s).backup = bs := by
  have hwords : (putBackup bs s).backup = (List.range 16).flatMap (fun k => leBytes 4 (leAt bs (4 * k) 4)) := by
    rw [State.backup]
    exact List.flatMap_congr fun k hk => by rw [get_putBackup (List.mem_range.mp hk)]
  rw [hwords, flatMap_words bs 16 (by omega), List.take_of_length_le (by omega)]

theorem backup_writeBackup (off : Nat) (bs : List Byte) (s : State) :
    (writeBackup off bs s).backup = patch s.backup off bs :=
  backup_putBackup (by rw [patch_length, backup_length]) s

/-- The backup bytes go by their registers alone. -/
theorem backup_congr {s t : State} (h : t.regs = s.regs) : t.backup = s.backup := by
  rw [State.backup, State.backup]
  exact List.flatMap_congr fun n _ => by rw [State.get_congr t s h]

/-- A number written to the backup bytes is read there. -/
theorem leAt_writeBackup {off k : Nat} (v : Nat) (s : State) (h : off + k ≤ 64) :
    leAt (writeBackup off (leBytes k v) s).backup off k = v % 256 ^ k := by
  have hin := leAt_patch_same (bs := s.backup) (new := leBytes k v) (off := off) (by rw [leBytes_length, backup_length]; exact h)
  rw [leBytes_length, leNat_leBytes] at hin
  rw [backup_writeBackup, hin]

theorem leAt_writeBackup_beside {off o n : Nat} {bs : List Byte} (s : State) (h : off + bs.length ≤ 64)
    (hbeside : o + n ≤ off ∨ off + bs.length ≤ o) : leAt (writeBackup off bs s).backup o n = leAt s.backup o n := by
  rw [backup_writeBackup, leAt_patch_beside (by rw [backup_length]; exact h) hbeside]

/-! ### LAST_FAULT (11 R343) -/

theorem leAt_recordLastFault (v : Nat) (s : State) :
    leAt (recordLastFault v s).backup 4 4 = v % 2 ^ 32 ∧ leAt (recordLastFault v s).backup 8 6 = s.seconds % 2 ^ 48 := by
  unfold recordLastFault
  refine ⟨?_, leAt_writeBackup s.seconds _ (by decide)⟩
  rw [leAt_writeBackup_beside _ (by rw [leBytes_length]; decide) (.inl (by decide)), leAt_writeBackup _ _ (by decide)]
  norm_num

theorem toPeers_regs (kind : String) (data : List Nat) (s : State) : (toPeers kind data s).regs = s.regs := by
  unfold toPeers sendNumbered
  split <;> rfl

/-- Entering FAILED records LAST_FAULT with its SECONDS. -/
theorem leAt_enterFailed (v cls : Nat) (d : Drive) (restart : Bool) (s : State) :
    leAt (enterFailed v cls d restart s).backup 4 4 = v % 2 ^ 32 ∧
      leAt (enterFailed v cls d restart s).backup 8 6 = s.seconds % 2 ^ 48 := by
  unfold enterFailed
  extract_lets +onlyGivenNames due n u s1 s2 p s3 s4 s5
  have hlasts : s.Lasts (enterRole roleFailed s5) :=
    .enterRole (.releaseTick (.stopSingletons (.setDrive (.upd (.releaseOwn (.lifetimeAdd (State.Lasts.refl s).upd))))))
  rw [backup_congr (toPeers_regs ..), ← hlasts.seconds]
  exact leAt_recordLastFault v _

theorem recordFault_seconds (cls unit port : Nat) (s : State) : (recordFault cls unit port s).seconds = s.seconds := by
  simp (disch := decide) [recordFault, State.seconds, State.get_set_apart]

theorem leAt_fail (cls unit port : Nat) (restart : Bool) (s : State) :
    leAt (fail cls unit port restart s).backup 4 4 = (cls + (if unit = 0xFF then 0 else unit * 256)) % 2 ^ 32 ∧
      leAt (fail cls unit port restart s).backup 8 6 = s.seconds % 2 ^ 48 := by
  unfold fail
  rw [← recordFault_seconds cls unit port s]
  exact leAt_enterFailed ..

end Sys2Proof.Machine
end

section
/-! SUPPORT. Clocks, rails and watchdogs (19 R525, R527, 13 R407): what the clock registers show, and a fault whose reaction is
FAILED. -/

namespace Sys2Proof.Machine

/-- Every command completes: each answers a next state. -/
theorem completes_every (c : Instr) (s : State) : completes c s := by
  cases c <;> exact ⟨_, rfl, trivial⟩

/-- Settles O1: a step takes the front of the queue, and every command answers a next state. -/
theorem stepRunsTheFrontCommand : Obligations.StepRunsTheFrontCommand := by
  unfold Obligations.StepRunsTheFrontCommand
  refine ⟨fun _ _ _ => rfl, fun s hidle => ?_, completes_every⟩
  rw [step, hidle]

/-! ### What PWR_CLK shows (R532) -/

theorem showClock_role (d : Nat) (running gated : Bool) (s : State) : (showClock d running gated s).role = s.role := by
  simp (disch := decide) [showClock, State.role, State.get_set_apart]

theorem running_showClock {d : Nat} (hd : d < 12) (running gated : Bool) (s : State) :
    bitOf ((showClock d running gated s).get Reg.pwrClkRunning) d = running := by
  rw [showClock, State.get_set_apart _ _ _ _ (by decide) (by decide), State.bitOf_get_set _ _ (by decide) hd,
    bitOf_withBit, if_pos rfl]

theorem gated_showClock {d : Nat} (hd : d < 12) (running gated : Bool) (s : State) :
    bitOf ((showClock d running gated s).get Reg.pwrClkGated) d = gated := by
  rw [showClock, State.bitOf_get_set _ _ (by decide) hd, bitOf_withBit, if_pos rfl]

/-- A domain that is shown as gated is one of the twelve. -/
theorem lt_of_gated {s : State} {d : Nat} (h : bitOf (s.get Reg.pwrClkGated) d = true) : d < 12 := by
  by_contra hd
  have hlt : s.get Reg.pwrClkGated < 2 ^ d :=
    (State.get_lt s _).trans_le (Nat.pow_le_pow_right (by decide) (Nat.le_of_not_lt hd))
  rw [bitOf, Nat.div_eq_of_lt hlt] at h
  exact absurd h (by decide)

theorem mayGate_domain {s : State} {d : Nat} (h : mayGate s d = true) : d = 5 ∨ d = 6 ∨ d = 9 := by
  simp only [mayGate, Bool.or_eq_true, Bool.and_eq_true, beq_iff_eq] at h
  omega

/-! ### A fault whose reaction is FAILED -/

theorem fail_memKept (cls unit port : Nat) (restart : Bool) (s : State) : memKept s (fail cls unit port restart s) :=
  memKept_of_mem (fail_runKept cls unit port restart s).1

/-- A field that outlasts FAILED, beside the record of the fault. -/
theorem get_fail {f : Fld} (hf : lasting f.addr = true) (hfault : 0x90014 ≠ f.addr ∧ 0x90018 ≠ f.addr)
    (cls unit port : Nat) (restart : Bool) (s : State) : (fail cls unit port restart s).get f = s.get f := by
  obtain ⟨hrecord, htime⟩ := hfault
  have hlasts : (recordFault cls unit port s).Lasts (fail cls unit port restart s) := .enterFailed (.refl _)
  have hclass : Reg.lckFaultClass.apart f = true := Fld.apart_of_addr hrecord
  have hunit : Reg.lckFaultUnit.apart f = true := Fld.apart_of_addr hrecord
  have hport : Reg.lckFaultPort.apart f = true := Fld.apart_of_addr hrecord
  have hframe : Reg.lckFaultTK.apart f = true := Fld.apart_of_addr htime
  have hoffset : Reg.lckFaultTOfsNs.apart f = true := Fld.apart_of_addr htime
  rw [hlasts.get hf, recordFault, State.get_set_apart _ _ _ _ rfl hoffset, State.get_set_apart _ _ _ _ rfl hframe,
    State.get_set_apart _ _ _ _ rfl hport, State.get_set_apart _ _ _ _ rfl hunit, State.get_set_apart _ _ _ _ rfl hclass]

/-- Settles O52: a gated domain is shown as gated, and each fault enters FAILED with its class and LAST_FAULT. -/
theorem clocksRailsAndWatchdogs : Obligations.ClocksRailsAndWatchdogs := by
  unfold Obligations.ClocksRailsAndWatchdogs
  intro s d
  refine ⟨fun hgate => ?_, rfl, fun h5 h6 h9 => ?_, fun hgate => ?_, fun hgated => ?_, fun hgated => ?_, fun hgated => ?_,
    fun hgated => ?_, ?_, fun u hu => ?_⟩
  · have hd : d < 12 := by have := mayGate_domain hgate; omega
    refine ⟨showClock d false true s, ?_, fun _ => rfl, showClock_role .., gated_showClock hd .., running_showClock hd ..⟩
    change execClockGate d s = _
    rw [execClockGate, if_pos hgate]
  · exact Bool.eq_false_iff.mpr fun h => by have := mayGate_domain h; omega
  · change execClockGate d s = _
    rw [execClockGate, if_neg (by simp [hgate])]
  · have hd : d < 12 := lt_of_gated hgated
    refine ⟨showClock d true false s, ?_, fun _ => rfl, showClock_role .., gated_showClock hd .., running_showClock hd ..⟩
    change execClockWake d s = _
    rw [execClockWake, if_pos hgated]
  · change execClockWake d s = _
    rw [execClockWake, if_neg (by simp [hgated])]
  · change execClockFault d s = _
    rw [execClockFault, if_pos hgated]
  · refine ⟨_, ?_, fail_memKept 0x10 0xFF 0xFF true (showClock d false false s), fail_hasFailed (by decide) (by decide) ..,
      fun hd => ?_, (leAt_fail ..).1⟩
    · change execClockFault d s = _
      rw [execClockFault, if_neg (by simp [hgated])]
    · rw [get_fail (by decide) (by decide)]
      exact running_showClock hd ..
  · exact ⟨_, rfl, fail_memKept _ _ _ _ _, fail_hasFailed (by decide) (by decide) .., (leAt_fail ..).1⟩
  · have hunit : u < 256 ∧ u ≠ 0xFF := by omega
    refine ⟨_, rfl, fail_memKept _ _ _ _ _, fail_hasFailed (by decide) hunit.1 .., ?_, (leAt_fail ..).2⟩
    rw [(leAt_fail ..).1, if_neg hunit.2]
    omega

end Sys2Proof.Machine
end

section
/-! SUPPORT. Fields read after a chain of writes and raised events: one rule per operation of `Ops`, for the field written and
for a field apart from it. A chain of named fields is read by `simp (disch := decide)`. -/

namespace Sys2Proof.Machine

section Rules
variable (s : State) (f g : Fld) (e : Ev)

@[simp] theorem State.get_set_self (v : Nat) (hok : f.ok = true) : (s.set f v).get f = v % 2 ^ (f.hi + 1 - f.lo) :=
  State.get_set_same s f v hok

@[simp] theorem State.get_set_off (v : Nat) (h : (f.ok && f.apart g) = true) : (s.set f v).get g = s.get g := by
  rw [Bool.and_eq_true] at h
  exact State.get_set_apart s f g v h.1 h.2

@[simp] theorem State.get_setBit_off (b : Bool) (h : (f.ok && f.apart g) = true) : (s.setBit f b).get g = s.get g :=
  State.get_set_off s f g _ h

@[simp] theorem State.get_setInt_off (v : Int) (h : (f.ok && f.apart g) = true) : (s.setInt f v).get g = s.get g :=
  State.get_set_off s f g _ h

@[simp] theorem State.get_bump_off (n : Nat) (h : (f.ok && f.apart g) = true) : (s.bump f n).get g = s.get g :=
  State.get_set_off s f g _ h

@[simp] theorem State.get_wrapUp_off (n : Nat) (h : (f.ok && f.apart g) = true) : (s.wrapUp f n).get g = s.get g :=
  State.get_set_off s f g _ h

@[simp] theorem State.get_maxTo_off (v : Nat) (h : (f.ok && f.apart g) = true) : (s.maxTo f v).get g = s.get g := by
  unfold State.maxTo
  split
  · exact State.get_set_off s f g v h
  · rfl

@[simp] theorem State.get_raise_off (h : e.apart g = true) : (s.raise e).get g = s.get g := State.get_raise_apart s e g h

@[simp] theorem State.get_raiseIf_off (b : Bool) (h : e.apart g = true) : (s.raiseIf b e).get g = s.get g :=
  State.get_raiseIf_apart s b e g h

/-- A count takes what is added, up to the most that its field holds. -/
@[simp] theorem State.get_bump_self (n : Nat) (hok : f.ok = true) :
    (s.bump f n).get f = min (2 ^ (f.hi + 1 - f.lo) - 1) (s.get f + n) := by
  rw [State.bump, State.get_set_same _ _ _ hok, satTo_eq_min]
  have hpos : 0 < 2 ^ (f.hi + 1 - f.lo) := by positivity
  exact Nat.mod_eq_of_lt (by omega)

@[simp] theorem State.get_wrapUp_self (n : Nat) (hok : f.ok = true) :
    (s.wrapUp f n).get f = (s.get f + n) % 2 ^ (f.hi + 1 - f.lo) := State.get_set_same s f _ hok

theorem State.get_maxTo_self {v : Nat} (hok : f.ok = true) (hv : v < 2 ^ (f.hi + 1 - f.lo)) :
    (s.maxTo f v).get f = max (s.get f) v := by
  unfold State.maxTo
  split
  · rw [State.get_set_same _ _ _ hok, Nat.mod_eq_of_lt hv]
    omega
  · omega

@[simp] theorem State.on_set_off (v : Nat) (h : (f.ok && f.apart g) = true) : (s.set f v).on g = s.on g :=
  State.on_congr (State.get_set_off s f g v h)

@[simp] theorem State.on_setBit_self (b : Bool) (h : (f.ok && decide (f.hi = f.lo)) = true) : (s.setBit f b).on f = b := by
  rw [Bool.and_eq_true, decide_eq_true_eq] at h
  exact State.on_setBit_same s f b h.1 h.2

@[simp] theorem State.on_setBit_off (b : Bool) (h : (f.ok && f.apart g) = true) : (s.setBit f b).on g = s.on g :=
  State.on_congr (State.get_setBit_off s f g b h)

@[simp] theorem State.on_bump_off (n : Nat) (h : (f.ok && f.apart g) = true) : (s.bump f n).on g = s.on g :=
  State.on_congr (State.get_bump_off s f g n h)

@[simp] theorem State.on_setInt_off (v : Int) (h : (f.ok && f.apart g) = true) : (s.setInt f v).on g = s.on g :=
  State.on_congr (State.get_setInt_off s f g v h)

@[simp] theorem State.on_wrapUp_off (n : Nat) (h : (f.ok && f.apart g) = true) : (s.wrapUp f n).on g = s.on g :=
  State.on_congr (State.get_wrapUp_off s f g n h)

@[simp] theorem State.on_maxTo_off (v : Nat) (h : (f.ok && f.apart g) = true) : (s.maxTo f v).on g = s.on g :=
  State.on_congr (State.get_maxTo_off s f g v h)

@[simp] theorem State.on_raise_off (h : e.apart g = true) : (s.raise e).on g = s.on g :=
  State.on_congr (State.get_raise_apart s e g h)

@[simp] theorem State.on_raiseIf_off (b : Bool) (h : e.apart g = true) : (s.raiseIf b e).on g = s.on g :=
  State.on_congr (State.get_raiseIf_apart s b e g h)

@[simp] theorem State.on_raise_self (h : e.ok = true) : (s.raise e).on e.flag = true := State.on_raise_flag s e h

theorem State.on_raiseIf_self {b : Bool} (hb : b = true) (h : e.ok = true) : (s.raiseIf b e).on e.flag = true := by
  rw [State.raiseIf, if_pos hb]
  exact State.on_raise_flag s e h

@[simp] theorem State.getInt_set_off (v : Nat) (h : (f.ok && f.apart g) = true) : (s.set f v).getInt g = s.getInt g := by
  rw [State.getInt, State.getInt, State.get_set_off s f g v h]

@[simp] theorem State.getInt_setInt_off (v : Int) (h : (f.ok && f.apart g) = true) :
    (s.setInt f v).getInt g = s.getInt g := State.getInt_set_off s f g _ h

@[simp] theorem State.getInt_setBit_off (b : Bool) (h : (f.ok && f.apart g) = true) :
    (s.setBit f b).getInt g = s.getInt g := State.getInt_set_off s f g _ h

@[simp] theorem State.getInt_maxTo_off (v : Nat) (h : (f.ok && f.apart g) = true) :
    (s.maxTo f v).getInt g = s.getInt g := by
  rw [State.getInt, State.getInt, State.get_maxTo_off s f g v h]

@[simp] theorem State.getInt_raiseIf_off (b : Bool) (h : e.apart g = true) : (s.raiseIf b e).getInt g = s.getInt g := by
  rw [State.getInt, State.getInt, State.get_raiseIf_off s g e b h]

/-- A signed value that the field's width holds reads back. -/
theorem State.getInt_setInt_self {v : Int} (hok : f.ok = true)
    (hlo : -2 ^ (f.hi - f.lo) ≤ v) (hhi : v < 2 ^ (f.hi - f.lo)) : (s.setInt f v).getInt f = v := by
  have hle : f.lo ≤ f.hi := by
    simp only [Fld.ok, Bool.and_eq_true, decide_eq_true_eq] at hok
    exact hok.1
  rw [State.getInt, State.setInt, State.get_set_same _ _ _ hok, show f.hi + 1 - f.lo = (f.hi - f.lo) + 1 by omega]
  generalize f.hi - f.lo = w at hlo hhi ⊢
  have hpow : (2 : Int) ^ (w + 1) = 2 * 2 ^ w := by rw [pow_succ]; ring
  have hnat : ((2 ^ (w + 1) : Nat) : Int) = 2 * 2 ^ w := by rw [Nat.cast_pow]; exact hpow
  have hpos : (0 : Int) < 2 ^ w := by positivity
  have hmod : (ofSigned (w + 1) v : Int) = v % (2 * 2 ^ w) := by
    rw [ofSigned, hnat, Int.toNat_of_nonneg (Int.emod_nonneg _ (by omega))]
  have hlt : ofSigned (w + 1) v < 2 ^ (w + 1) := by
    have := Int.emod_lt_of_pos v (show (0 : Int) < 2 * 2 ^ w by omega)
    omega
  unfold toSigned
  rw [Nat.mod_mod, Nat.mod_eq_of_lt hlt]
  rcases le_or_gt 0 v with hv | hv
  · have hvalue : (ofSigned (w + 1) v : Int) = v := by rw [hmod, Int.emod_eq_of_lt hv (by omega)]
    rw [if_pos (by omega), hvalue]
  · have hvalue : (ofSigned (w + 1) v : Int) = v + 2 * 2 ^ w := by
      rw [hmod, ← Int.add_emod_right, Int.emod_eq_of_lt (by omega) (by omega)]
    rw [if_neg (by omega), hvalue, hnat]
    ring

end Rules

/-- What a record update beside the registers reads. -/
@[simp] theorem State.get_mk (t : State) (f : Fld) (mem mono freeCtr outbox time mbx pair hhk nvs memi gate fio can cfg ast
    lsp net prog sec pwr bkd pending) :
    (State.mk t.regs mem mono freeCtr outbox time mbx pair hhk nvs memi gate fio can cfg ast lsp net prog sec pwr bkd
      pending).get f = t.get f := by rw [State.get, State.reg, State.get, State.reg]

@[simp] theorem State.on_mk (t : State) (f : Fld) (mem mono freeCtr outbox time mbx pair hhk nvs memi gate fio can cfg ast
    lsp net prog sec pwr bkd pending) :
    (State.mk t.regs mem mono freeCtr outbox time mbx pair hhk nvs memi gate fio can cfg ast lsp net prog sec pwr bkd
      pending).on f = t.on f := by rw [State.on, State.get_mk, State.on]

@[simp] theorem State.getInt_mk (t : State) (f : Fld) (mem mono freeCtr outbox time mbx pair hhk nvs memi gate fio can cfg ast
    lsp net prog sec pwr bkd pending) :
    (State.mk t.regs mem mono freeCtr outbox time mbx pair hhk nvs memi gate fio can cfg ast lsp net prog sec pwr bkd
      pending).getInt f = t.getInt f := by rw [State.getInt, State.get_mk, State.getInt]

/-! ### What the raising of an event leaves beside the registers -/

/-- The raising of an event changes registers, what is sent, and the sessions' notification marks. -/
theorem State.raise_beside (s : State) (e : Ev) :
    ∃ r m o, s.raise e = { s with regs := r, mbx := m, outbox := o } := by
  obtain ⟨m, o, hraise⟩ := State.raise_frame s e
  rw [hraise, flagged]
  cases e.cnt with
  | none => exact ⟨_, m, o, rfl⟩
  | some c => exact ⟨_, m, o, rfl⟩

section Raised
variable (s : State) (e : Ev) (b : Bool)

@[simp] theorem State.raise_pwr : (s.raise e).pwr = s.pwr := by
  obtain ⟨r, m, o, hraise⟩ := State.raise_beside s e
  rw [hraise]

@[simp] theorem State.raise_nvs : (s.raise e).nvs = s.nvs := by
  obtain ⟨r, m, o, hraise⟩ := State.raise_beside s e
  rw [hraise]

@[simp] theorem State.raise_sec : (s.raise e).sec = s.sec := by
  obtain ⟨r, m, o, hraise⟩ := State.raise_beside s e
  rw [hraise]

@[simp] theorem State.raise_fio : (s.raise e).fio = s.fio := by
  obtain ⟨r, m, o, hraise⟩ := State.raise_beside s e
  rw [hraise]

@[simp] theorem State.raise_cfg : (s.raise e).cfg = s.cfg := by
  obtain ⟨r, m, o, hraise⟩ := State.raise_beside s e
  rw [hraise]

@[simp] theorem State.raise_hhk : (s.raise e).hhk = s.hhk := by
  obtain ⟨r, m, o, hraise⟩ := State.raise_beside s e
  rw [hraise]

@[simp] theorem State.raise_prog : (s.raise e).prog = s.prog := by
  obtain ⟨r, m, o, hraise⟩ := State.raise_beside s e
  rw [hraise]

@[simp] theorem State.raise_gate : (s.raise e).gate = s.gate := by
  obtain ⟨r, m, o, hraise⟩ := State.raise_beside s e
  rw [hraise]

@[simp] theorem State.raise_mono : (s.raise e).mono = s.mono := by
  obtain ⟨r, m, o, hraise⟩ := State.raise_beside s e
  rw [hraise]

@[simp] theorem State.raise_bkd : (s.raise e).bkd = s.bkd := by
  obtain ⟨r, m, o, hraise⟩ := State.raise_beside s e
  rw [hraise]

@[simp] theorem State.raise_time : (s.raise e).time = s.time := by
  obtain ⟨r, m, o, hraise⟩ := State.raise_beside s e
  rw [hraise]

@[simp] theorem State.raise_pair : (s.raise e).pair = s.pair := pair_raise s e

@[simp] theorem State.raiseIf_mem : (s.raiseIf b e).mem = s.mem := by unfold State.raiseIf; split <;> simp

@[simp] theorem State.raiseIf_pwr : (s.raiseIf b e).pwr = s.pwr := by unfold State.raiseIf; split <;> simp

@[simp] theorem State.raiseIf_pair : (s.raiseIf b e).pair = s.pair := by unfold State.raiseIf; split <;> simp

@[simp] theorem State.raiseIf_bkd : (s.raiseIf b e).bkd = s.bkd := by unfold State.raiseIf; split <;> simp

end Raised

end Sys2Proof.Machine
end

section
/-! SUPPORT. What a release of OWN leaves (11 R339, 18 R505, R506): the role, memory, the records beside the pair's own, and the
registers from LCK on. `State.Stands s t` says so of a state `t` that comes from `s`; one lemma per function of the model gives it,
and its proof follows the function's definition. -/

namespace Sys2Proof.Machine

/-- The field lies below LCK and is not ROLE. -/
def Fld.ofOutputs (f : Fld) : Bool := f.ok && decide (f.addr < 0x90000) && f.apart Reg.sysRoleRole

/-- `t` comes from `s` without a change of the role, of memory, of the records of the archive, of identity, power, backup,
settings and program, or of a register from LCK on. -/
structure State.Stands (s t : State) : Prop where
  mem : t.mem = s.mem
  nvs : t.nvs = s.nvs
  sec : t.sec = s.sec
  pwr : t.pwr = s.pwr
  bkd : t.bkd = s.bkd
  cfg : t.cfg = s.cfg
  prog : t.prog = s.prog
  mono : t.mono = s.mono
  role : t.role = s.role
  reg : ∀ a, 0x90000 ≤ a → t.reg a = s.reg a

namespace State.Stands

variable {s t u : State}

protected theorem refl (s : State) : s.Stands s := ⟨rfl, rfl, rfl, rfl, rfl, rfl, rfl, rfl, rfl, fun _ _ => rfl⟩

protected theorem memKept (h : s.Stands t) : memKept s t := memKept_of_mem h.mem

protected theorem ite {c : Prop} [Decidable c] (ht : s.Stands t) (hu : s.Stands u) : s.Stands (if c then t else u) := by
  split <;> assumption

protected theorem foldl {α : Type} {f : State → α → State} {l : List α} (h : s.Stands t)
    (hf : ∀ t, ∀ x ∈ l, s.Stands t → s.Stands (f t x)) : s.Stands (l.foldl f t) := by
  induction l generalizing t with
  | nil => exact h
  | cons x r ih => exact ih (hf t x (by simp) h) fun t y hy => hf t y (by simp [hy])

protected theorem upd (h : s.Stands t) {freeCtr outbox time mbx pair hhk memi gate fio can ast lsp net pending} :
    s.Stands (State.mk t.regs t.mem t.mono freeCtr outbox time mbx pair hhk t.nvs memi gate fio can t.cfg ast lsp net t.prog
      t.sec t.pwr t.bkd pending) :=
  ⟨h.mem, h.nvs, h.sec, h.pwr, h.bkd, h.cfg, h.prog, h.mono, h.role, h.reg⟩

protected theorem set (h : s.Stands t) {f : Fld} {v : Nat} (hf : f.ofOutputs = true) : s.Stands (t.set f v) := by
  simp only [Fld.ofOutputs, Bool.and_eq_true, decide_eq_true_eq] at hf
  obtain ⟨⟨hok, haddr⟩, hrole⟩ := hf
  exact ⟨h.mem, h.nvs, h.sec, h.pwr, h.bkd, h.cfg, h.prog, h.mono,
    (State.get_set_apart t f _ v hok hrole).trans h.role,
    fun a ha => (State.reg_set_other t f v a (by omega)).trans (h.reg a ha)⟩

protected theorem setBit (h : s.Stands t) {f : Fld} {b : Bool} (hf : f.ofOutputs = true) : s.Stands (t.setBit f b) :=
  h.set hf

/-- A write to a field of an indexed block between SYS and LCK. -/
protected theorem setBelow (h : s.Stands t) {a k hi lo v : Nat} (hk : a + k < 0x90000) (ha : 0x10 < a := by decide)
    (hbits : lo ≤ hi ∧ hi < 32 := by decide) : s.Stands (t.set ⟨a + k, hi, lo⟩ v) := by
  have haddr : a + k ≠ Reg.sysRoleRole.addr := by
    change a + k ≠ 0x10
    omega
  have hrole : Fld.apart ⟨a + k, hi, lo⟩ Reg.sysRoleRole = true := Fld.apart_of_addr haddr
  exact h.set (by simp [Fld.ofOutputs, Fld.ok, hbits, hk, hrole])

protected theorem raise (h : s.Stands t) {e : Ev} (he : e.fields.all Fld.ofOutputs = true) : s.Stands (t.raise e) := by
  have hflag : e.flag.ofOutputs = true := List.all_eq_true.mp he _ (by simp [Ev.fields])
  obtain ⟨m, o, hraise⟩ := State.raise_frame t e
  rw [hraise, flagged]
  cases hc : e.cnt with
  | none => exact (h.set hflag).upd
  | some c => exact ((h.set hflag).set (List.all_eq_true.mp he c (by simp [Ev.fields, hc]))).upd

protected theorem get (h : s.Stands t) {f : Fld} (hf : 0x90000 ≤ f.addr := by decide) : t.get f = s.get f := by
  rw [State.get, State.get, h.reg f.addr hf]

protected theorem on (h : s.Stands t) {f : Fld} (hf : 0x90000 ≤ f.addr := by decide) : t.on f = s.on f :=
  State.on_congr (h.get hf)

protected theorem backup (h : s.Stands t) : t.backup = s.backup := by
  rw [State.backup, State.backup]
  exact List.flatMap_congr fun n hn => by rw [h.get (by simp only [Reg.bkdBytesWord]; omega)]

/-! ### Frames of the module (06, 08, 10, 12) -/

protected theorem showStages (h : s.Stands t) : s.Stands (showStages t) := by
  unfold Machine.showStages
  refine .foldl (((h.setBit (by decide)).setBit (by decide)).set (by decide)) fun _ n hn h => ?_
  have hreg : 0x60050 + 4 * n < 0x90000 ∧ 0x60060 + 4 * n < 0x90000 := by
    have := List.mem_range.mp hn
    omega
  exact .ite (h.setBelow hreg.1) (.setBelow (.upd (h.setBelow hreg.1)) hreg.2)

protected theorem setDrive (h : s.Stands t) {d} : s.Stands (setDrive d t) := .showStages h.upd

protected theorem canFail (h : s.Stands t) {c o reason bitPos time esi} (hc : c < 2) :
    s.Stands (canFail c o reason bitPos time esi t) := by
  unfold Machine.canFail canLog
  refine .raise (.setBelow (.upd (.upd h)) (by omega)) ?_
  unfold evTxFail
  split <;> decide

protected theorem canRestrict (h : s.Stands t) : s.Stands (canRestrict t) := by
  unfold Machine.canRestrict canFailPending
  exact .setBit (.setBit (h.foldl fun _ _ hc h => h.foldl fun _ _ _ h => .ite (h.canFail (List.mem_range.mp hc)) h)
    (by decide)) (by decide)

protected theorem clearSending (h : s.Stands t) : s.Stands (clearSending t) := by
  unfold Machine.clearSending
  refine .foldl (h.foldl fun _ j hj h => ?_) fun _ n hn h => .ite ?_ h
  · have := List.mem_range.mp hj
    exact h.setBelow (by omega)
  · have := List.mem_range.mp hn
    exact h.setBelow (by omega)

protected theorem netTx (h : s.Stands t) {n kind d} : s.Stands (netTx n kind d t) := by
  unfold Machine.netTx Machine.portTx
  exact .ite (.ite (.upd (.ite h.upd h.upd)) (.ite h.upd h.upd)) (.ite h.upd h)

protected theorem closeClients (h : s.Stands t) : s.Stands (closeClients t) := by
  unfold Machine.closeClients
  refine h.foldl fun _ n hn h => .ite h ?_
  have := List.mem_range.mp hn
  exact .netTx (.setBelow (h.setBelow (by omega)) (by omega))

protected theorem gatesClose (h : s.Stands t) {d} : s.Stands (gatesClose d t) := by
  unfold Machine.gatesClose
  exact (h.setDrive.setBit (by decide)).canRestrict.clearSending.upd

/-! ### Ownership (11) -/

protected theorem showPublishing (h : s.Stands t) : s.Stands (showPublishing t) := h.setBit (by decide)

protected theorem stopSingletons (h : s.Stands t) : s.Stands (stopSingletons t) := by
  unfold Machine.stopSingletons
  refine .showPublishing (h.foldl fun _ n hn h => ?_)
  have := List.mem_range.mp hn
  exact h.setBelow (by omega)

protected theorem disarm (h : s.Stands t) : s.Stands (disarm t) := .setBit h.upd (by decide)

protected theorem releaseOwn (h : s.Stands t) {d} : s.Stands (releaseOwn d t) := by
  unfold Machine.releaseOwn ownRises
  exact .ite (.stopSingletons (.closeClients (.gatesClose (.setBit (.setBit (.upd (h.disarm.setBit (by decide)))
    (by decide)) (by decide))))) h.disarm

protected theorem followRole (h : s.Stands t) : s.Stands (followRole t) := .ite h h.setDrive

protected theorem releaseTick (h : s.Stands t) : s.Stands (releaseTick t) :=
  .ite (.raise (.set (f := Reg.timStatusTickRole) h.upd (by decide)) (by decide)) h.upd

end State.Stands

/-! ### The converter stops (18 R505, R506) -/

/-- The module is off: it neither holds OWN nor drives a stage, and no park is pending. -/
theorem convOff_off (s : State) :
    (convOff s).held = false ∧ (convOff s).fio.drive = .off ∧ (convOff s).on Reg.bkdStatusParkPending = false := by
  unfold convOff
  generalize hpend : s.setBit Reg.bkdStatusParkPending false = s1
  have hpark : s1.on Reg.bkdStatusParkPending = false := by rw [← hpend]; exact State.on_setBit_self _ _ _ (by decide)
  have hkept : (releaseOwn .off s1).FaultKept true (setDrive .off (releaseTick (releaseOwn .off s1))) :=
    .setDrive (.releaseTick (.refl _))
  have hstands : s1.Stands (setDrive .off (releaseTick (releaseOwn .off s1))) := .setDrive (.releaseTick (.releaseOwn (.refl _)))
  exact ⟨(hkept.disowned (releaseOwn_disowned _ _)).1, showStages_drive _, hstands.on.trans hpark⟩

/-- What the module is when it is off stands as it was. -/
theorem convOff_stands (s : State) : (s.setBit Reg.bkdStatusParkPending false).Stands (convOff s) :=
  .setDrive (.releaseTick (.releaseOwn (.refl _)))

theorem role_convOff (s : State) : (convOff s).role = s.role :=
  (convOff_stands s).role.trans (State.get_setBit_off _ _ _ _ (by decide))

theorem get_convOff (s : State) {f : Fld} (hf : 0x90000 ≤ f.addr := by decide)
    (hpark : Reg.bkdStatusParkPending.apart f = true := by decide) : (convOff s).get f = s.get f :=
  ((convOff_stands s).get hf).trans (State.get_set_apart _ _ _ _ rfl hpark)

theorem backup_convOff (s : State) : (convOff s).backup = s.backup := by
  rw [State.backup, State.backup]
  refine List.flatMap_congr fun n _ => ?_
  have haddr : 0xE0000 + 0x40 ≤ (Reg.bkdBytesWord n).addr ∧ Reg.bkdStatusParkPending.addr ≠ (Reg.bkdBytesWord n).addr := by
    simp only [Reg.bkdBytesWord, Reg.bkdStatusParkPending]
    omega
  rw [get_convOff s (by omega) (Fld.apart_of_addr haddr.2)]

/-! ### NAND flushed (17 R486) -/

theorem flushLog_regs (s : State) : (flushLog s).regs = s.regs := by
  unfold flushLog
  split <;> rfl

theorem nandPut_regs (p logical : Nat) (data : List Byte) (s : State) : (nandPut p logical data s).regs = s.regs := by
  unfold nandPut
  split <;> rfl

theorem confDone_regs (w : ConfWrite) (s : State) : (confDone w s).regs = s.regs := by
  unfold confDone nandConf
  split <;> exact (nandPut_regs ..).trans (nandPut_regs ..)

theorem flushNand_regs (s : State) : (flushNand s).regs = s.regs :=
  (flushLog_regs _).trans (foldl_keeps State.regs (fun t w => confDone_regs w t) _ _)

/-- Nothing of the log is left unflushed. -/
theorem flushNand_unflushed (s : State) : (flushNand s).nvs.unflushed = 0 := by
  unfold flushNand flushLog
  split
  · assumption
  · rfl

theorem putBackup_nvs (bs : List Byte) (s : State) : (putBackup bs s).nvs = s.nvs :=
  (State.set_nvs ..).trans (foldl_keeps State.nvs (fun _ _ => State.set_nvs ..) _ s)

/-- A field beside the backup bytes and their CRC reads as before. -/
theorem get_putBackup_off {f : Fld} (hf : f.addr < 0xE0040) (bs : List Byte) (s : State) :
    (putBackup bs s).get f = s.get f := by
  unfold putBackup
  have hcrc : Reg.bkdBytesCrcCrc.addr ≠ f.addr := by
    simp only [Reg.bkdBytesCrcCrc]
    omega
  rw [State.get_set_apart _ _ _ _ rfl (Fld.apart_of_addr hcrc)]
  refine foldl_keeps (fun t => t.get f) (fun t n => ?_) _ s
  have haddr : (Reg.bkdBytesWord n).addr ≠ f.addr := by
    simp only [Reg.bkdBytesWord]
    omega
  exact State.get_set_apart _ _ _ _ rfl (Fld.apart_of_addr haddr)

theorem get_writeBackup_off {f : Fld} (hf : f.addr < 0xE0040) (off : Nat) (bs : List Byte) (s : State) :
    (writeBackup off bs s).get f = s.get f := get_putBackup_off hf _ s

end Sys2Proof.Machine
end

section
/-! SUPPORT. Feeds, seating and temperature (19 R513-R521, R529-R531; 18 R506, R507). -/

namespace Sys2Proof.Machine

/-! ### The feed that carries (R514) -/

section Carry
variable (s : State)

@[simp] theorem carryA_mem : (carryA s).mem = s.mem := (State.set_mem ..).trans (State.set_mem ..)
@[simp] theorem carryB_mem : (carryB s).mem = s.mem := State.set_mem ..

@[simp] theorem carryA_pwr : (carryA s).pwr = { s.pwr with switchA := true, switchB := false } := rfl
@[simp] theorem carryB_pwr : (carryB s).pwr = { s.pwr with switchA := false, switchB := true } := rfl

/-- Feed A is GOOD and carries. -/
theorem carryA_feeds : (carryA s).get Reg.pwrStatusFeedA = feedIsGood ∧ (carryA s).get Reg.pwrStatusCarrying = 0 := by
  unfold carryA
  extract_lets s1
  simp -implicitDefEqProofs (disch := decide) [feedIsGood, Reg.pwrStatusFeedA]

theorem carryB_carrying : (carryB s).get Reg.pwrStatusCarrying = 1 := State.get_set_same _ _ _ rfl

@[simp] theorem get_carryA {g : Fld} (h : (Reg.pwrStatusFeedA.apart g && Reg.pwrStatusCarrying.apart g) = true) :
    (carryA s).get g = s.get g := by
  rw [Bool.and_eq_true] at h
  unfold carryA
  rw [State.get_set_apart _ _ _ _ rfl h.2, State.get_set_apart _ _ _ _ rfl h.1, State.get_mk]

@[simp] theorem get_carryB {g : Fld} (h : Reg.pwrStatusCarrying.apart g = true) : (carryB s).get g = s.get g := by
  unfold carryB
  rw [State.get_set_apart _ _ _ _ rfl h, State.get_mk]

@[simp] theorem on_carryA {g : Fld} (h : (Reg.pwrStatusFeedA.apart g && Reg.pwrStatusCarrying.apart g) = true) :
    (carryA s).on g = s.on g := State.on_congr (get_carryA s h)

@[simp] theorem on_carryB {g : Fld} (h : Reg.pwrStatusCarrying.apart g = true) : (carryB s).on g = s.on g :=
  State.on_congr (get_carryB s h)

end Carry
/-! ### Feeds (R513-R515) -/

/-- The event of a feed that has left GOOD. -/
def feedEv (f : Nat) : Ev := if f = 0 then Ev.pwrFeedALost else Ev.pwrFeedBLost

/-- What the measurement and the events of the feeds leave. -/
def fedFields : List Fld :=
  [Reg.sysRoleRole, Reg.hhkPairStatusOwnHeld, Reg.pwrStatusFeedA, Reg.pwrStatusFeedB, Reg.pwrStatusCarrying,
    Reg.bkdPwrState, Reg.bkdPwrLastOff, Reg.bkdPwrWakeFeed]

/-- `u` is `s` with voltages and counts of the feeds shown: memory, the record of power, the ownership, and the registers of the
feeds and of park are as they were. -/
structure State.Fed (s u : State) : Prop where
  mem : u.mem = s.mem
  pwr : u.pwr = s.pwr
  get : ∀ g ∈ fedFields, u.get g = s.get g

namespace State.Fed

variable {s u : State}

protected theorem memKept (h : s.Fed u) : memKept s u := memKept_of_mem h.mem

protected theorem role (h : s.Fed u) : u.role = s.role := h.get _ (by decide)

protected theorem held (h : s.Fed u) : u.held = s.held := State.on_congr (h.get _ (by decide))

protected theorem feedOk (h : s.Fed u) (f : Nat) : feedOk u f = feedOk s f := by
  have hfeed : u.get (feedFld f) = s.get (feedFld f) := by
    unfold feedFld
    split
    · exact h.get _ (by decide)
    · exact h.get _ (by decide)
  rw [Machine.feedOk, Machine.feedOk, hfeed]

protected theorem set (h : s.Fed u) {f : Fld} {v : Nat} (hf : fedFields.all (fun g => f.ok && f.apart g) = true) :
    s.Fed (u.set f v) :=
  ⟨h.mem, h.pwr, fun g hg => (State.get_set_off _ _ _ _ (List.all_eq_true.mp hf g hg)).trans (h.get g hg)⟩

protected theorem raise (h : s.Fed u) {e : Ev} (he : fedFields.all e.apart = true) : s.Fed (u.raise e) :=
  ⟨(State.raise_mem ..).trans h.mem, (State.raise_pwr ..).trans h.pwr, fun g hg =>
    (State.get_raise_off _ _ _ (List.all_eq_true.mp he g hg)).trans (h.get g hg)⟩

end State.Fed

theorem feedVolts_fed (f mv : Nat) (s : State) : s.Fed (feedVolts f mv s) := by
  unfold feedVolts
  have hs : s.Fed s := ⟨rfl, rfl, fun _ _ => rfl⟩
  split
  · exact hs.set (by decide)
  · exact hs.set (by decide)

theorem feedFld_cases {f : Nat} (hf : f < 2) :
    f = 0 ∧ feedFld f = Reg.pwrStatusFeedA ∨ f = 1 ∧ feedFld f = Reg.pwrStatusFeedB := by
  interval_cases f
  · exact .inl ⟨rfl, rfl⟩
  · exact .inr ⟨rfl, rfl⟩

/-- The state of the feed and its event have no effect on the other feed. -/
theorem feedOk_other {f : Nat} (hf : f < 2) (st : Nat) (e : Ev) (b : Bool) (he : e = feedEv f) (u : State) :
    feedOk ((u.set (feedFld f) st).raiseIf b e) (1 - f) = feedOk u (1 - f) := by
  subst he
  interval_cases f
  · simp -implicitDefEqProofs (disch := decide) [feedOk, feedFld, feedEv]
  · simp -implicitDefEqProofs (disch := decide) [feedOk, feedFld, feedEv]

/-- A feed that was not GOOD leaves the load where it is. -/
theorem feedLeft_idle {f : Nat} {u : State} (hwas : feedOk u f = false) (st : Nat) :
    feedLeft f st u = u.set (feedFld f) st := by
  rw [feedLeft, hwas]
  rfl

/-- The other feed takes the load where it is GOOD, else the power fails. -/
theorem feedLeft_was {f : Nat} (hf : f < 2) {u w : State} (hwas : feedOk u f = true) {st : Nat}
    (hw : w = (u.set (feedFld f) st).raise (feedEv f)) :
    feedLeft f st u = if feedOk u (1 - f) then (if f = 0 then carryB w else carryA w) else powerFail w := by
  have hs1 : (u.set (feedFld f) st).raiseIf true (if f = 0 then Ev.pwrFeedALost else Ev.pwrFeedBLost) = w := by
    rw [hw, State.raiseIf, if_pos rfl, feedEv]
  have hother : feedOk w (1 - f) = feedOk u (1 - f) := by
    rw [← hs1]
    exact feedOk_other hf st _ _ rfl u
  rw [feedLeft, hwas]
  simp only [hs1, hother, Bool.not_true, Bool.false_eq_true, if_false]

/-- The state of a feed that is lost, or over voltage: the feeds' registers apart, it is the state before. -/
theorem exec_feedLeaves {f mv st : Nat} {c : Instr} (hc : (c, st) ∈ [(Instr.feedLost f mv, feedAbsent), (.feedOv f mv, feedOverV)])
    (s : State) : st < 4 ∧ ∃ u, s.Fed u ∧ exec c s = .next (feedLeft f st u) := by
  simp only [List.mem_cons, Prod.mk.injEq, List.not_mem_nil, or_false] at hc
  rcases hc with ⟨rfl, rfl⟩ | ⟨rfl, rfl⟩
  · exact ⟨by decide, _, feedVolts_fed f mv s, rfl⟩
  · exact ⟨by decide, _, (feedVolts_fed f mv s).raise (by decide), rfl⟩

section Leaves
variable {f st : Nat} {s u : State} (hf : f < 2) (hst : st < 4) (hu : s.Fed u)
include hf hst hu

theorem feedLeft_passes (hwas : feedOk s f = true) (hother : feedOk s (1 - f) = true) :
    memKept s (feedLeft f st u) ∧ (feedLeft f st u).role = s.role ∧ (feedLeft f st u).held = s.held ∧
      (feedLeft f st u).get (feedFld f) = st ∧ (feedLeft f st u).on (feedEv f).flag = true ∧
      (feedLeft f st u).get Reg.pwrStatusCarrying = 1 - f ∧ (feedLeft f st u).pwr.switchA = decide (f = 1) ∧
      (feedLeft f st u).pwr.switchB = decide (f = 0) := by
  rw [feedLeft_was hf (by rwa [hu.feedOk]) rfl, hu.feedOk, if_pos hother, ← hu.role, ← hu.held]
  interval_cases f
  · refine ⟨memKept_of_mem ?_, ?_, ?_, ?_, ?_, ?_, ?_, ?_⟩
    · simp -implicitDefEqProofs [carryB, hu.mem]
    · simp -implicitDefEqProofs (disch := decide) [carryB, State.role, feedFld, feedEv]
    · simp -implicitDefEqProofs (disch := decide) [carryB, State.held, feedFld, feedEv]
    · simpa -implicitDefEqProofs (disch := decide) [carryB, feedFld, feedEv, Reg.pwrStatusFeedA] using hst
    · simp -implicitDefEqProofs (disch := decide) [carryB, feedEv]
    · simp -implicitDefEqProofs (disch := decide) [carryB, Reg.pwrStatusCarrying]
    · simp -implicitDefEqProofs [carryB]
    · simp -implicitDefEqProofs [carryB]
  · refine ⟨memKept_of_mem ?_, ?_, ?_, ?_, ?_, ?_, ?_, ?_⟩
    · simp -implicitDefEqProofs [carryA, hu.mem]
    · simp -implicitDefEqProofs (disch := decide) [carryA, State.role, feedFld, feedEv]
    · simp -implicitDefEqProofs (disch := decide) [carryA, State.held, feedFld, feedEv]
    · simpa -implicitDefEqProofs (disch := decide) [carryA, feedFld, feedEv, Reg.pwrStatusFeedB] using hst
    · simp -implicitDefEqProofs (disch := decide) [carryA, feedEv]
    · simp -implicitDefEqProofs (disch := decide) [carryA, Reg.pwrStatusCarrying]
    · simp -implicitDefEqProofs [carryA]
    · simp -implicitDefEqProofs [carryA]

end Leaves

end Sys2Proof.Machine
end

section
/-! SUPPORT. The power that fails, feeds that return (19 R513-R515), seating (R518-R521). -/

namespace Sys2Proof.Machine

variable {s : State}

/-! ### Neither feed is GOOD (R515) -/

/-- POWER_FAIL of a module that is off already is an event alone. -/
theorem powerFail_of_off (h : 2 ≤ s.get Reg.bkdPwrState) :
    powerFail s = ({ s with pwr := { s.pwr with switchA := false, switchB := false } } : State).raise Ev.pwrPowerFail := by
  unfold powerFail
  extract_lets pwr s1 s2
  have hstate : s2.get Reg.bkdPwrState = s.get Reg.bkdPwrState :=
    by simp -implicitDefEqProofs (disch := decide) [s2, s1]
  rw [if_pos (by rwa [hstate])]

theorem powerFail_of_on (h : s.get Reg.bkdPwrState < 2) :
    powerFail s = fail 0x1D 0xFF 0xFF true
      ((({ s with pwr := { s.pwr with switchA := false, switchB := false } } : State).raise Ev.pwrPowerFail).set
        Reg.bkdPwrLastOff 3) := by
  unfold powerFail
  extract_lets pwr s1 s2
  have hstate : s2.get Reg.bkdPwrState = s.get Reg.bkdPwrState :=
    by simp -implicitDefEqProofs (disch := decide) [s2, s1]
  rw [if_neg (by rw [hstate]; omega)]

theorem powerFail_memKept (s : State) : memKept s (powerFail s) := by
  rcases Nat.lt_or_ge (s.get Reg.bkdPwrState) 2 with h | h
  · rw [powerFail_of_on h]
    exact memKept_of_mem ((fail_runKept 0x1D 0xFF 0xFF true _).1.trans (by simp -implicitDefEqProofs))
  · rw [powerFail_of_off h]
    exact memKept_of_mem (State.raise_mem ..)

/-- A field of PWR or BKD beside those of POWER_FAIL and LAST_OFF. -/
theorem get_powerFail (s : State) {f : Fld} (hf : lasting f.addr = true) (hfault : 0x90014 ≠ f.addr ∧ 0x90018 ≠ f.addr)
    (hfail : Ev.pwrPowerFail.apart f = true) (hoff : Reg.bkdPwrLastOff.apart f = true) :
    (powerFail s).get f = s.get f := by
  rcases Nat.lt_or_ge (s.get Reg.bkdPwrState) 2 with h | h
  · rw [powerFail_of_on h, get_fail hf hfault, State.get_set_apart _ _ _ _ rfl hoff, State.get_raise_off _ _ _ hfail,
      State.get_mk]
  · rw [powerFail_of_off h, State.get_raise_off _ _ _ hfail, State.get_mk]

theorem powerFail_flag (s : State) : (powerFail s).on Ev.pwrPowerFail.flag = true := by
  rcases Nat.lt_or_ge (s.get Reg.bkdPwrState) 2 with h | h
  · rw [powerFail_of_on h, State.on_congr (get_fail (f := Ev.pwrPowerFail.flag) (by decide) (by decide) ..)]
    simp -implicitDefEqProofs (disch := decide)
  · rw [powerFail_of_off h]
    exact State.on_raise_self _ _ (by decide)

/-- A feed that is lost while the other is not GOOD. -/
theorem feedLeft_fails {f st : Nat} {s u : State} (hf : f < 2) (hu : s.Fed u) (hwas : feedOk s f = true)
    (hother : feedOk s (1 - f) = false) :
    memKept s (feedLeft f st u) ∧ (feedLeft f st u).on (feedEv f).flag = true ∧
      (feedLeft f st u).on Ev.pwrPowerFail.flag = true ∧
      (s.get Reg.bkdPwrState < 2 → (feedLeft f st u).get Reg.bkdPwrLastOff = 3 ∧ hasFailed 0x1D 0xFF (feedLeft f st u)) ∧
      (2 ≤ s.get Reg.bkdPwrState → (feedLeft f st u).get Reg.bkdPwrLastOff = s.get Reg.bkdPwrLastOff ∧
        (feedLeft f st u).role = s.role) := by
  obtain ⟨w, hw⟩ : ∃ w, w = (u.set (feedFld f) st).raise (feedEv f) := ⟨_, rfl⟩
  have heq : feedLeft f st u = powerFail w := by
    rw [feedLeft_was hf (by rwa [hu.feedOk]) hw, hu.feedOk, if_neg (by simp [hother])]
  have hmem : w.mem = s.mem := by rw [hw, State.raise_mem, State.set_mem, hu.mem]
  have hget : ∀ g ∈ [Reg.bkdPwrState, Reg.bkdPwrLastOff, Reg.sysRoleRole], w.get g = s.get g := fun g hg => by
    have hfed : ∀ g ∈ [Reg.bkdPwrState, Reg.bkdPwrLastOff, Reg.sysRoleRole], g ∈ fedFields := by decide
    have hoff : (feedFld f).ok = true ∧ (feedFld f).apart g = true ∧ (feedEv f).apart g = true := by
      interval_cases f
      · exact (by decide : ∀ g ∈ [Reg.bkdPwrState, Reg.bkdPwrLastOff, Reg.sysRoleRole], (feedFld 0).ok = true ∧
          (feedFld 0).apart g = true ∧ (feedEv 0).apart g = true) g hg
      · exact (by decide : ∀ g ∈ [Reg.bkdPwrState, Reg.bkdPwrLastOff, Reg.sysRoleRole], (feedFld 1).ok = true ∧
          (feedFld 1).apart g = true ∧ (feedEv 1).apart g = true) g hg
    rw [hw, State.get_raise_off _ _ _ hoff.2.2, State.get_set_apart _ _ _ _ hoff.1 hoff.2.1, hu.get g (hfed g hg)]
  have hev : w.on (feedEv f).flag = true := by
    rw [hw]
    refine State.on_raise_self _ _ ?_
    interval_cases f
    · decide
    · decide
  have hstate : w.get Reg.bkdPwrState = s.get Reg.bkdPwrState := hget _ (by simp)
  rw [heq]
  refine ⟨fun a => (powerFail_memKept w a).trans (memKept_of_mem hmem a), ?_, powerFail_flag w, fun hon => ?_, fun hoff => ?_⟩
  · have hflag : lasting (feedEv f).flag.addr = true ∧ (0x90014 ≠ (feedEv f).flag.addr ∧ 0x90018 ≠ (feedEv f).flag.addr) ∧
        Ev.pwrPowerFail.apart (feedEv f).flag = true ∧ Reg.bkdPwrLastOff.apart (feedEv f).flag = true := by
      interval_cases f
      · decide
      · decide
    obtain ⟨hlast, hfault, hfail, hoff⟩ := hflag
    rw [State.on_congr (get_powerFail w hlast hfault hfail hoff), hev]
  · rw [powerFail_of_on (by omega)]
    refine ⟨?_, fail_hasFailed (by decide) (by decide) ..⟩
    rw [get_fail (by decide) (by decide)]
    simp -implicitDefEqProofs (disch := decide) [Reg.bkdPwrLastOff]
  · rw [powerFail_of_off (by omega), State.role]
    simp -implicitDefEqProofs (disch := decide) [hget, State.role]

end Sys2Proof.Machine
end

section
/-! SUPPORT. Feeds that return (19 R513, R514) and a wake from park (18 R506, R507). -/

namespace Sys2Proof.Machine

variable {s : State}

/-! ### A wake from park -/

/-- What a wake leaves. -/
def Fld.offWake (g : Fld) : Bool :=
  Reg.bkdPwrState.apart g && Reg.bkdStatusParkPending.apart g && Ev.bkdParkAborted.apart g && Reg.bkdPwrWakeCause.apart g

@[simp] theorem wakeFromPark_mem (cause : Nat) (s : State) : (wakeFromPark cause s).mem = s.mem := by
  unfold wakeFromPark
  split
  · rw [State.raise_mem, State.setBit_mem, State.set_mem]
  · rw [State.set_mem, State.set_mem]
  · rfl

@[simp] theorem get_wakeFromPark (cause : Nat) (s : State) {g : Fld} (h : g.offWake = true) :
    (wakeFromPark cause s).get g = s.get g := by
  simp only [Fld.offWake, Bool.and_eq_true] at h
  obtain ⟨⟨⟨hstate, hpend⟩, haborted⟩, hcause⟩ := h
  unfold wakeFromPark
  split
  · rw [State.get_raise_apart _ _ _ haborted, State.get_setBit_off _ _ _ _ (by rw [hpend]; rfl),
      State.get_set_apart _ _ _ _ rfl hstate]
  · rw [State.get_set_apart _ _ _ _ rfl hcause, State.get_set_apart _ _ _ _ rfl hstate]
  · rfl

@[simp] theorem on_wakeFromPark (cause : Nat) (s : State) {g : Fld} (h : g.offWake = true) :
    (wakeFromPark cause s).on g = s.on g := State.on_congr (get_wakeFromPark cause s h)

/-- From PARKED the module comes on with the cause of its wake. -/
theorem wakeFromPark_parked {cause : Nat} (h : s.get Reg.bkdPwrState = 2) :
    (wakeFromPark cause s).get Reg.bkdPwrState = 0 ∧ (wakeFromPark cause s).get Reg.bkdPwrWakeCause = cause % 16 := by
  have hpark : wakeFromPark cause s = (s.set Reg.bkdPwrState 0).set Reg.bkdPwrWakeCause cause := by simp only [wakeFromPark, h]
  rw [hpark]
  refine ⟨?_, State.get_set_same _ _ _ rfl⟩
  rw [State.get_set_apart _ _ _ _ rfl rfl, State.get_set_same _ _ _ rfl]
  rfl

/-! ### A feed that returns -/

theorem feedOk_of_absent {f : Nat} (h : s.get (feedFld f) = feedAbsent) : feedOk s f = false := by
  rw [feedOk, h]
  rfl

theorem feedOk_of_overV {f : Nat} (h : s.get (feedFld f) = feedOverV) : feedOk s f = false := by
  rw [feedOk, h]
  rfl

theorem get_feedVolts (mv : Nat) (s : State) : (feedVolts 0 mv s).get Reg.pwrFeedaMv = mv % 65536 :=
  State.get_set_same _ _ _ rfl

/-- Feed A is back: it qualifies while B carries. -/
theorem feedBack_A {u : State} (h : feedOk u 0 = false) :
    feedBack 0 u = if feedOk u 1 then u.set Reg.pwrStatusFeedA feedQualifying else carryA u := by
  rw [feedBack, if_neg (by simp [h]), if_pos rfl]

/-- Feed B is back: it carries where A is not GOOD. -/
theorem feedBack_B {u : State} (h : feedOk u 1 = false) :
    feedBack 1 u = if feedOk u 0 then u.set Reg.pwrStatusFeedB feedIsGood else carryB (u.set Reg.pwrStatusFeedB feedIsGood) := by
  have hother : feedOk (u.set Reg.pwrStatusFeedB feedIsGood) 0 = feedOk u 0 := by
    simp -implicitDefEqProofs (disch := decide) [feedOk, feedFld]
  rw [feedBack, if_neg (by simp [h]), if_neg (by decide)]
  simp only [hother]

/-- The state that FEED_GOOD leads to, apart from a wake. -/
theorem exec_feedGood (f mv : Nat) (b : Bool) (s : State) (u : State) (hu : u = feedVolts f mv s) (w : State)
    (hw : w = if s.get (feedFld f) = feedOverV then u else feedBack f u) :
    exec (.feedGood f mv b) s = .next (if b && w.on Reg.bkdPwrWakeFeed then wakeFromPark 2 w else w) := by
  have hfeed : u.get (feedFld f) = s.get (feedFld f) := by
    have hfed : s.Fed u := hu ▸ feedVolts_fed f mv s
    unfold feedFld
    split
    · exact hfed.get _ (by decide)
    · exact hfed.get _ (by decide)
  rw [← hfeed] at hw
  subst hw hu
  rfl

theorem leads_feedGood_A {mv : Nat} (h : s.get Reg.pwrStatusFeedA = feedAbsent) :
    (feedOk s 1 = true → leads (.feedGood 0 mv false) s (fun t => memKept s t ∧ t.role = s.role ∧
      t.get Reg.pwrStatusFeedA = feedQualifying ∧ t.get Reg.pwrFeedaMv = mv % 65536)) ∧
    (feedOk s 1 = false → leads (.feedGood 0 mv false) s (fun t => memKept s t ∧ t.role = s.role ∧
      t.get Reg.pwrStatusFeedA = feedIsGood ∧ t.get Reg.pwrStatusCarrying = 0)) := by
  have hu : s.Fed (feedVolts 0 mv s) := feedVolts_fed 0 mv s
  have hexec := exec_feedGood 0 mv false s _ rfl (feedBack 0 (feedVolts 0 mv s))
    (if_neg fun hover => absurd (h.symm.trans hover) (by decide)).symm
  rw [Bool.false_and, if_neg Bool.false_ne_true, feedBack_A (by rw [hu.feedOk]; exact feedOk_of_absent h), hu.feedOk] at hexec
  refine ⟨fun hother => ⟨_, hexec, ?_⟩, fun hother => ⟨_, hexec, ?_⟩⟩
  · rw [if_pos hother]
    refine ⟨memKept_of_mem ((State.set_mem ..).trans hu.mem), ?_, State.get_set_same _ _ _ rfl, ?_⟩
    · rw [← hu.role, State.role, State.get_set_off _ _ _ _ (by decide), State.role]
    · rw [State.get_set_off _ _ _ _ (by decide), get_feedVolts]
  · rw [if_neg (by simp [hother])]
    have hfeeds := carryA_feeds (feedVolts 0 mv s)
    refine ⟨memKept_of_mem ((carryA_mem _).trans hu.mem), ?_, hfeeds.1, hfeeds.2⟩
    rw [← hu.role, State.role, get_carryA _ (by decide), State.role]

theorem leads_feedGood_overV {f mv : Nat} (h : s.get (feedFld f) = feedOverV) :
    leads (.feedGood f mv false) s (fun t => memKept s t ∧ t.role = s.role ∧ t.get (feedFld f) = feedOverV ∧
      t.pwr = s.pwr) := by
  have hu : s.Fed (feedVolts f mv s) := feedVolts_fed f mv s
  have hexec := exec_feedGood f mv false s _ rfl _ (if_pos h).symm
  rw [Bool.false_and, if_neg Bool.false_ne_true] at hexec
  refine ⟨_, hexec, hu.memKept, hu.role, ?_, hu.pwr⟩
  rw [← h]
  unfold feedFld
  split
  · exact hu.get _ (by decide)
  · exact hu.get _ (by decide)

/-- What feed B is and what carries once B is back. -/
theorem feedBack_B_shows {u : State} (h : feedOk u 1 = false) :
    (feedBack 1 u).mem = u.mem ∧ (feedBack 1 u).get Reg.pwrStatusFeedB = feedIsGood ∧
      (feedBack 1 u).get Reg.pwrStatusCarrying = (if feedOk u 0 then u.get Reg.pwrStatusCarrying else 1) ∧
      ∀ g : Fld, (Reg.pwrStatusFeedB.apart g && Reg.pwrStatusCarrying.apart g) = true → (feedBack 1 u).get g = u.get g := by
  rw [feedBack_B h]
  have hgood : (u.set Reg.pwrStatusFeedB feedIsGood).get Reg.pwrStatusFeedB = feedIsGood := State.get_set_same _ _ _ rfl
  split
  · refine ⟨State.set_mem .., hgood, State.get_set_off _ _ _ _ (by decide), fun g hg => ?_⟩
    rw [Bool.and_eq_true] at hg
    exact State.get_set_apart _ _ _ _ rfl hg.1
  · refine ⟨(carryB_mem _).trans (State.set_mem ..), (get_carryB _ (by decide)).trans hgood, carryB_carrying _, fun g hg => ?_⟩
    rw [Bool.and_eq_true] at hg
    rw [get_carryB _ hg.2, State.get_set_apart _ _ _ _ rfl hg.1]

theorem leads_feedGood_B {mv : Nat} (h : s.get Reg.pwrStatusFeedB = feedAbsent) :
    leads (.feedGood 1 mv true) s (fun t => memKept s t ∧ t.role = s.role ∧
      t.get Reg.pwrStatusFeedB = feedIsGood ∧ t.get Reg.pwrStatusCarrying =
        (if feedOk s 0 then s.get Reg.pwrStatusCarrying else 1) ∧
      (s.get Reg.bkdPwrState = 2 → t.get Reg.bkdPwrState = (if s.on Reg.bkdPwrWakeFeed then 0 else 2))) := by
  have hu : s.Fed (feedVolts 1 mv s) := feedVolts_fed 1 mv s
  have hexec := exec_feedGood 1 mv true s _ rfl (feedBack 1 (feedVolts 1 mv s))
    (if_neg fun hover => absurd (h.symm.trans hover) (by decide)).symm
  obtain ⟨hmem, hgood, hcarry, hkept⟩ := feedBack_B_shows (u := feedVolts 1 mv s) (by
    rw [hu.feedOk]; exact feedOk_of_absent h)
  generalize feedBack 1 (feedVolts 1 mv s) = w at hexec hmem hgood hcarry hkept
  have hwake : w.on Reg.bkdPwrWakeFeed = s.on Reg.bkdPwrWakeFeed :=
    State.on_congr ((hkept _ (by decide)).trans (hu.get _ (by decide)))
  have hstate : w.get Reg.bkdPwrState = s.get Reg.bkdPwrState := (hkept _ (by decide)).trans (hu.get _ (by decide))
  have hrole : w.role = s.role := (hkept _ (by decide)).trans hu.role
  rw [hu.feedOk, hu.get _ (by decide)] at hcarry
  rw [hwake, Bool.true_and] at hexec
  refine ⟨_, hexec, ?_⟩
  by_cases hon : s.on Reg.bkdPwrWakeFeed = true
  · rw [if_pos hon, if_pos hon]
    refine ⟨memKept_of_mem ((wakeFromPark_mem ..).trans (hmem.trans hu.mem)), (get_wakeFromPark _ _ (by decide)).trans hrole,
      (get_wakeFromPark _ _ (by decide)).trans hgood, (get_wakeFromPark _ _ (by decide)).trans hcarry, fun hoff => ?_⟩
    exact (wakeFromPark_parked (hstate.trans hoff)).1
  · rw [if_neg hon, if_neg hon]
    exact ⟨memKept_of_mem (hmem.trans hu.mem), hrole, hgood, hcarry, fun hoff => hstate.trans hoff⟩

theorem leads_feedOvClear {mv : Nat} (h : s.get Reg.pwrStatusFeedB = feedOverV) :
    leads (.feedOvClear 1 mv) s (fun t => memKept s t ∧ t.role = s.role ∧ t.get Reg.pwrStatusFeedB = feedIsGood) := by
  have hu : s.Fed (feedVolts 1 mv s) := feedVolts_fed 1 mv s
  have hover : (feedVolts 1 mv s).get (feedFld 1) = feedOverV := (hu.get Reg.pwrStatusFeedB (by decide)).trans h
  obtain ⟨hmem, hgood, -, hkept⟩ := feedBack_B_shows (u := (feedVolts 1 mv s).set (feedFld 1) feedAbsent)
    (feedOk_of_absent (State.get_set_same _ _ _ rfl))
  refine ⟨_, congrArg Host.Outcome.next (if_pos hover), memKept_of_mem (hmem.trans ((State.set_mem ..).trans hu.mem)), ?_, hgood⟩
  rw [State.role, hkept _ (by decide), State.get_set_off _ _ _ _ (by decide)]
  exact hu.role

theorem leads_feedReturn (h : s.get Reg.pwrStatusFeedA = feedQualifying) :
    leads .feedReturn s (fun t => memKept s t ∧ t.role = s.role ∧
      t.get Reg.pwrStatusFeedA = feedIsGood ∧ t.get Reg.pwrStatusCarrying = 0 ∧ t.on Ev.pwrFeedReturn.flag = true) := by
  refine ⟨_, congrArg Host.Outcome.next (if_pos h), memKept_of_mem (by simp -implicitDefEqProofs), ?_, ?_, ?_,
    State.on_raise_self _ _ (by decide)⟩
  · simp -implicitDefEqProofs (disch := decide) [State.role]
  · simp -implicitDefEqProofs (disch := decide) [Reg.pwrStatusFeedA, feedIsGood]
  · simp -implicitDefEqProofs (disch := decide) [Reg.pwrStatusCarrying]

theorem exec_feedReturn_idle (h : s.get Reg.pwrStatusFeedA ≠ feedQualifying) : exec .feedReturn s = .next s :=
  congrArg Host.Outcome.next (if_neg h)

theorem leads_feedBRelease :
    leads .feedBRelease s (fun t => t.regs = s.regs ∧ memKept s t ∧ t.pwr.switchB = (s.pwr.switchB && !s.pwr.switchA)) := by
  refine ⟨_, rfl, ?_⟩
  by_cases h : s.pwr.switchA = true
  · rw [if_pos h]
    exact ⟨rfl, fun _ => rfl, by simp [h]⟩
  · rw [if_neg h]
    exact ⟨rfl, fun _ => rfl, by simp [h]⟩

end Sys2Proof.Machine
end

section
/-! SUPPORT. Seating and temperature (19 R517-R521), the thermal shutdown (18 R506, R507), and the adaptive loops (19
R529-R531). -/

namespace Sys2Proof.Machine

variable {s : State}

/-! ### Seating (R518-R521) -/

/-- The state of a module whose two seated-detects are made, before what the wake does. -/
def seated (p g : Nat) (s : State) : State :=
  ((((s.setBit Reg.pwrStatusSeatedA1 true).setBit Reg.pwrStatusSeatedH40 true).set Reg.sysPositionSlotId p).set
    Reg.sysPositionGroupId g).raiseIf (11 < g % 16) Ev.sysPosInvalid

theorem seated_shows (p g : Nat) (s : State) :
    (seated p g s).mem = s.mem ∧ (seated p g s).role = s.role ∧ (seated p g s).on Reg.pwrStatusSeatedA1 = true ∧
      (seated p g s).on Reg.pwrStatusSeatedH40 = true ∧ (seated p g s).get Reg.sysPositionSlotId = p % 64 ∧
      (seated p g s).get Reg.sysPositionGroupId = g % 16 ∧
      (11 < g % 16 → (seated p g s).on Ev.sysPosInvalid.flag = true) ∧
      (seated p g s).get Reg.bkdPwrState = s.get Reg.bkdPwrState := by
  refine ⟨?_, ?_, ?_, ?_, ?_, ?_, fun h => ?_, ?_⟩
  · simp -implicitDefEqProofs [seated]
  · simp -implicitDefEqProofs (disch := decide) [seated, State.role]
  · simp -implicitDefEqProofs (disch := decide) [seated]
  · simp -implicitDefEqProofs (disch := decide) [seated]
  · simp -implicitDefEqProofs (disch := decide) [seated, Reg.sysPositionSlotId]
  · simp -implicitDefEqProofs (disch := decide) [seated, Reg.sysPositionGroupId]
  · exact State.on_raiseIf_self _ _ (decide_eq_true h) (by decide)
  · simp -implicitDefEqProofs (disch := decide) [seated]

theorem leads_seatedDetectMade (p g : Nat)
    (h : (s.on Reg.pwrStatusSeatedA1 && s.on Reg.pwrStatusSeatedH40) = false) :
    leads (.seatedDetectMade p g) s (fun t => memKept s t ∧ t.role = s.role ∧
      t.on Reg.pwrStatusSeatedA1 = true ∧ t.on Reg.pwrStatusSeatedH40 = true ∧
      t.get Reg.sysPositionSlotId = p % 64 ∧ t.get Reg.sysPositionGroupId = g % 16 ∧
      (11 < g % 16 → t.on Ev.sysPosInvalid.flag = true) ∧
      (2 ≤ s.get Reg.bkdPwrState → t.get Reg.bkdPwrState = 0 ∧ t.get Reg.bkdPwrWakeCause = 4)) := by
  obtain ⟨hmem, hrole, ha, hh, hslot, hgroup, hinvalid, hstate⟩ := seated_shows p g s
  have hexec : exec (.seatedDetectMade p g) s = .next (if (seated p g s).get Reg.bkdPwrState = 3 then
      ((seated p g s).set Reg.bkdPwrState 0).set Reg.bkdPwrWakeCause 4 else wakeFromPark 4 (seated p g s)) :=
    congrArg Host.Outcome.next (if_neg (by simp [h]))
  generalize seated p g s = w at *
  refine ⟨_, hexec, ?_⟩
  split
  next hthermal =>
    refine ⟨memKept_of_mem (by rw [State.set_mem, State.set_mem, hmem]), ?_, ?_, ?_, ?_, ?_, fun hg => ?_, fun _ => ⟨?_, ?_⟩⟩
    · simpa -implicitDefEqProofs (disch := decide) [State.role] using hrole
    · simpa -implicitDefEqProofs (disch := decide) using ha
    · simpa -implicitDefEqProofs (disch := decide) using hh
    · simpa -implicitDefEqProofs (disch := decide) using hslot
    · simpa -implicitDefEqProofs (disch := decide) using hgroup
    · simpa -implicitDefEqProofs (disch := decide) using hinvalid hg
    · simp -implicitDefEqProofs (disch := decide)
    · simp -implicitDefEqProofs (disch := decide) [Reg.bkdPwrWakeCause]
  next hother =>
    refine ⟨memKept_of_mem ((wakeFromPark_mem ..).trans hmem), (get_wakeFromPark _ _ (by decide)).trans hrole,
      (on_wakeFromPark _ _ (by decide)).trans ha, (on_wakeFromPark _ _ (by decide)).trans hh,
      (get_wakeFromPark _ _ (by decide)).trans hslot, (get_wakeFromPark _ _ (by decide)).trans hgroup,
      fun hg => (on_wakeFromPark _ _ (by decide)).trans (hinvalid hg), fun hoff => ?_⟩
    have hlt := State.get_lt w Reg.bkdPwrState
    simp only [Reg.bkdPwrState] at hlt hother hstate hoff
    exact wakeFromPark_parked (by simp only [Reg.bkdPwrState]; omega)

theorem leads_seatedDetectMade_again (p g : Nat) (ha : s.on Reg.pwrStatusSeatedA1 = true)
    (hh : s.on Reg.pwrStatusSeatedH40 = true) :
    leads (.seatedDetectMade p g) s (fun t => memKept s t ∧ t.role = s.role ∧
      t.get Reg.sysPositionSlotId = s.get Reg.sysPositionSlotId ∧
      t.get Reg.sysPositionGroupId = s.get Reg.sysPositionGroupId ∧
      (p % 64 ≠ s.get Reg.sysPositionSlotId → t.on Ev.sysPosChange.flag = true)) := by
  refine ⟨_, congrArg Host.Outcome.next (if_pos (by rw [ha, hh]; rfl)), memKept_of_mem (State.raiseIf_mem ..),
    State.get_raiseIf_off _ _ _ _ (by decide), State.get_raiseIf_off _ _ _ _ (by decide),
    State.get_raiseIf_off _ _ _ _ (by decide), fun hslot => State.on_raiseIf_self _ _ ?_ (by decide)⟩
  simp [hslot]

theorem leads_seatPartial (h : Bool) :
    leads (.seatPartial h) s (fun t => memKept s t ∧ t.role = s.role ∧ t.on Reg.pwrStatusSeatedA1 = !h ∧
      t.on Reg.pwrStatusSeatedH40 = h ∧ t.on Ev.pwrSeatPartial.flag = true) := by
  refine ⟨_, rfl, memKept_of_mem (by simp -implicitDefEqProofs), ?_, ?_, ?_, State.on_raise_self _ _ (by decide)⟩
  · simp -implicitDefEqProofs (disch := decide) [State.role]
  · simp -implicitDefEqProofs (disch := decide)
  · simp -implicitDefEqProofs (disch := decide)

/-! ### A fault whose reaction switches the stages off (R555) -/

theorem stopSingletons_fio (s : State) : (stopSingletons s).fio = s.fio := by
  unfold stopSingletons showPublishing
  rw [State.setBit_fio, foldl_keeps State.fio (fun _ _ => State.setBit_fio ..)]

theorem releaseTick_fio (s : State) : (releaseTick s).fio = s.fio := by
  unfold releaseTick
  extract_lets time s1
  split
  · rw [State.raise_fio, State.set_fio]
  · rfl

theorem setRole_fio (r : Nat) (s : State) : (setRole r s).fio = s.fio := by
  unfold setRole
  split
  · rfl
  · rw [State.raise_fio, State.set_fio]

theorem putBackup_fio (bs : List Byte) (s : State) : (putBackup bs s).fio = s.fio :=
  (State.set_fio ..).trans (foldl_keeps State.fio (fun _ _ => State.set_fio ..) _ s)

theorem recordLastFault_fio (v : Nat) (s : State) : (recordLastFault v s).fio = s.fio :=
  (putBackup_fio ..).trans (putBackup_fio ..)

theorem toPeers_fio (kind : String) (data : List Nat) (s : State) : (toPeers kind data s).fio = s.fio := by
  unfold toPeers sendNumbered
  split <;> rfl

theorem toPeers_pair (kind : String) (data : List Nat) (s : State) : (toPeers kind data s).pair = s.pair := by
  unfold toPeers sendNumbered
  split <;> rfl

/-- A module that neither holds OWN nor is STANDBY drives nothing. -/
theorem roleDrive_off (hheld : s.held = false) (hrole : s.role ≠ roleStandby) : roleDrive s = .off := by
  unfold roleDrive
  rw [hheld, if_neg Bool.false_ne_true, if_neg hrole]
  split <;> rfl

theorem enterRole_off (hs : disowned s) (hdrive : s.fio.drive = .off) : (enterRole roleFailed s).fio.drive = .off := by
  have hrole : (reviewPairOk (setRole roleFailed s)).role = roleFailed := role_setRole (by decide) s
  have hheld : (reviewPairOk (setRole roleFailed s)).held = false := (setRole_disowned hs).1
  have hkept : (reviewPairOk (setRole roleFailed s)).fio = s.fio := setRole_fio roleFailed s
  have hoff : roleDrive (reviewPairOk (setRole roleFailed s)) = .off :=
    roleDrive_off hheld (by rw [hrole]; decide)
  rw [enterRole, followRole, if_pos (.inr (by rw [hkept, hdrive, hoff])), hkept, hdrive]

theorem enterRole_restartDue (r : Nat) (s : State) : (enterRole r s).pair.restartDue = s.pair.restartDue := by
  rw [enterRole, ((State.FaultKept.refl _).followRole (own := true).pair rfl).1, reviewPairOk, pair_setRole]

/-- The state in which FAILED is entered, once OWN is released and the releases are blocked. -/
theorem enterFailed_steps (lastFault cls : Nat) (d : Drive) (restart : Bool) (s : State) :
    ∃ v w d', s.FaultKept true v ∧ w.regs = (releaseOwn d v).regs ∧ shutOut w ∧
      (restart = false → w.pair.restartDue = false) ∧ (d = .off → d' = .off) ∧
      enterFailed lastFault cls d restart s = toPeers "FAILED" [cls] (recordLastFault lastFault
        (enterRole roleFailed (releaseTick (stopSingletons (setDrive d' w))))) := by
  unfold enterFailed
  extract_lets +onlyGivenNames due n u s1 s2 p s3 s4 s5
  refine ⟨s1, s3, _, .lifetimeAdd (State.FaultKept.refl s).upd, rfl, ⟨releaseOwn_disowned d s1, rfl⟩, fun h => ?_, fun h => ?_, rfl⟩
  · change due = false
    unfold due
    rw [h, Bool.and_false, ite_self]
  · rw [h, decide_eq_true rfl, Bool.true_or, if_pos rfl]

theorem enterFailed_off (lastFault cls : Nat) (restart : Bool) (s : State) :
    (enterFailed lastFault cls .off restart s).fio.drive = .off := by
  obtain ⟨-, w, d, -, -, hshut, -, hd, heq⟩ := enterFailed_steps lastFault cls .off restart s
  have hkept : w.FaultKept true (releaseTick (stopSingletons (setDrive d w))) := .releaseTick (.stopSingletons (.setDrive (.refl w)))
  have hdrive : (releaseTick (stopSingletons (setDrive d w))).fio.drive = .off := by
    rw [releaseTick_fio, stopSingletons_fio, setDrive, showStages_drive, State.updFio_fio]
    exact hd rfl
  rw [heq, toPeers_fio, recordLastFault_fio]
  exact enterRole_off (hkept.disowned hshut.1) hdrive

/-- A fault that permits no restart leaves none due. -/
theorem enterFailed_restartDue (lastFault cls : Nat) (d : Drive) (s : State) :
    (enterFailed lastFault cls d false s).pair.restartDue = false := by
  obtain ⟨-, w, d', -, -, -, hdue, -, heq⟩ := enterFailed_steps lastFault cls d false s
  have hkept : w.FaultKept true (releaseTick (stopSingletons (setDrive d' w))) := .releaseTick (.stopSingletons (.setDrive (.refl w)))
  have hrecord : ∀ v : State, v.FaultKept true (recordLastFault lastFault v) := fun v => .recordLastFault (.refl v)
  rw [heq, toPeers_pair, ((hrecord _).pair rfl).1, enterRole_restartDue, (hkept.pair rfl).1]
  exact hdue rfl

theorem failOff_hasFailed {cls : Nat} (hcls : cls < 256) (restart : Bool) (s : State) :
    hasFailed cls 0xFF (failOff cls restart s) ∧ (failOff cls restart s).fio.drive = .off := by
  have hkept : (recordFault cls 0xFF 0xFF s).FaultKept false (failOff cls restart s) := .enterFailed (.refl _)
  obtain ⟨⟨⟨hheld, harmed⟩, hblocked⟩, hrole, hout⟩ := enterFailed_failed cls cls .off restart (recordFault cls 0xFF 0xFF s)
  exact ⟨⟨hrole, (hkept.get_lck rfl).trans (recordFault_class hcls s), (hkept.get_lck rfl).trans (recordFault_unit (by decide) s),
    hheld, harmed, hblocked, hout⟩, enterFailed_off ..⟩

end Sys2Proof.Machine
end

section
/-! SUPPORT. The seat that breaks (19 R521), temperature (R517), the thermal shutdown (18 R506, R507), and the adaptive loops
(19 R529-R531). -/

namespace Sys2Proof.Machine

variable {s : State}

/-! ### PAIR_STATUS beside OWN, through FAILED -/

/-- The field is of PAIR_STATUS, beside those of OWN and the claim. -/
def Fld.besideOwn (f : Fld) : Bool :=
  decide (f.addr = 0x80800) && Reg.hhkPairStatusArmed.apart f && Reg.hhkPairStatusOwnHeld.apart f &&
    Reg.hhkPairStatusOwnLine.apart f

theorem get_releaseOwn_beside {f : Fld} (hf : f.besideOwn = true) (d : Drive) (s : State) :
    (releaseOwn d s).get f = s.get f := by
  simp only [Fld.besideOwn, Bool.and_eq_true, decide_eq_true_eq] at hf
  obtain ⟨⟨⟨haddr, harmed⟩, hheld⟩, hline⟩ := hf
  have hdisarm (t : State) : (disarm t).get f = t.get f := by
    rw [disarm, State.setBit, State.get_set_apart _ _ _ _ rfl harmed]
    rfl
  have hrises (t : State) : (ownRises t).get f = t.get f := by
    rw [ownRises, State.setBit, State.get_set_apart _ _ _ _ rfl hline]
    rfl
  unfold releaseOwn
  extract_lets was s1 s2
  split
  · have hkept : s2.FaultKept true (stopSingletons (closeClients (gatesClose d s2))) :=
      .stopSingletons (.closeClients (.gatesClose (.refl _)))
    have hmaster : Reg.sysRolePubMaster.addr ≠ f.addr := by rw [haddr]; decide
    have hs2 : s2.get f = (disarm s).get f := by
      simp only [s2, s1, State.setBit]
      rw [State.get_set_apart _ _ _ _ rfl (Fld.apart_of_addr hmaster), hrises, State.get_set_apart _ _ _ _ rfl hheld]
    rw [hkept.get_status haddr, hs2, hdisarm]
  · exact hdisarm s

theorem get_setRole_beside {f : Fld} (hf : f.addr = 0x80800) (r : Nat) (s : State) : (setRole r s).get f = s.get f := by
  have hrole : Reg.sysRoleRole.addr ≠ f.addr := by rw [hf]; decide
  have hapart : Ev.sysRoleChange.apart f = true := by
    simp only [Ev.apart, Fld.apart, hf]
    rfl
  unfold setRole
  split
  · rfl
  · rw [State.get_raise_apart _ _ _ hapart, State.get_set_apart _ _ _ _ rfl (Fld.apart_of_addr hrole)]

theorem get_enterFailed_beside {f : Fld} (hf : f.besideOwn = true) (lastFault cls : Nat) (d : Drive) (restart : Bool)
    (s : State) : (enterFailed lastFault cls d restart s).get f = s.get f := by
  have haddr : f.addr = 0x80800 := by
    simp only [Fld.besideOwn, Bool.and_eq_true, decide_eq_true_eq] at hf
    exact hf.1.1.1
  obtain ⟨v, w, d', hbefore, hown, -, -, -, heq⟩ := enterFailed_steps lastFault cls d restart s
  have hkept : w.FaultKept true (releaseTick (stopSingletons (setDrive d' w))) := .releaseTick (.stopSingletons (.setDrive (.refl w)))
  have hend (u : State) : (reviewPairOk (setRole roleFailed u)).FaultKept true
      (toPeers "FAILED" [cls] (recordLastFault lastFault (enterRole roleFailed u))) :=
    .toPeers (.recordLastFault (.followRole (.refl _)))
  have hrole (u : State) : (reviewPairOk (setRole roleFailed u)).get f = u.get f := get_setRole_beside haddr roleFailed u
  rw [heq, (hend _).get_status haddr, hrole, hkept.get_status haddr, State.get_congr _ _ hown, get_releaseOwn_beside hf,
    hbefore.get_status haddr]

theorem get_recordFault {f : Fld} (hf : 0x90014 ≠ f.addr ∧ 0x90018 ≠ f.addr) (cls unit port : Nat) (s : State) :
    (recordFault cls unit port s).get f = s.get f := by
  have hclass : Reg.lckFaultClass.apart f = true := Fld.apart_of_addr hf.1
  have hunit : Reg.lckFaultUnit.apart f = true := Fld.apart_of_addr hf.1
  have hport : Reg.lckFaultPort.apart f = true := Fld.apart_of_addr hf.1
  have hframe : Reg.lckFaultTK.apart f = true := Fld.apart_of_addr hf.2
  have hoffset : Reg.lckFaultTOfsNs.apart f = true := Fld.apart_of_addr hf.2
  rw [recordFault, State.get_set_apart _ _ _ _ rfl hoffset, State.get_set_apart _ _ _ _ rfl hframe,
    State.get_set_apart _ _ _ _ rfl hport, State.get_set_apart _ _ _ _ rfl hunit, State.get_set_apart _ _ _ _ rfl hclass]

/-- A register that outlasts FAILED, and PAIR_STATUS beside OWN, through a fault whose stages switch off. -/
theorem get_failOff {f : Fld} (hf : (lasting f.addr && f.addr != 0x90014 && f.addr != 0x90018 || f.besideOwn) = true)
    (cls : Nat) (restart : Bool) (s : State) : (failOff cls restart s).get f = s.get f := by
  rw [Bool.or_eq_true, Bool.and_eq_true, Bool.and_eq_true, bne_iff_ne, bne_iff_ne] at hf
  rcases hf with ⟨⟨hlast, hrecord⟩, htime⟩ | hbeside
  · have hlasts : (recordFault cls 0xFF 0xFF s).Lasts (failOff cls restart s) := .enterFailed (.refl _)
    rw [hlasts.get hlast, get_recordFault ⟨hrecord.symm, htime.symm⟩]
  · have haddr : f.addr = 0x80800 := by
      simp only [Fld.besideOwn, Bool.and_eq_true, decide_eq_true_eq] at hbeside
      exact hbeside.1.1.1
    rw [failOff, get_enterFailed_beside hbeside, get_recordFault (by rw [haddr]; decide)]

theorem failOff_memKept (cls : Nat) (restart : Bool) (s : State) : memKept s (failOff cls restart s) := by
  have hlasts : (recordFault cls 0xFF 0xFF s).Lasts (failOff cls restart s) := .enterFailed (.refl _)
  exact memKept_of_mem (hlasts.mem.trans (recordFault_runKept cls 0xFF 0xFF s).1)

/-! ### The seat that breaks (R521) -/

/-- The seated-detect that a break opens. -/
def seatFld (h : Bool) : Fld := if h then Reg.pwrStatusSeatedH40 else Reg.pwrStatusSeatedA1

theorem leads_seatedDetectBreak (h : Bool) :
    leads (.seatedDetectBreak h) s (fun t => memKept s t ∧ t.on Reg.hhkPairStatusKillOut = false ∧
      t.on (if h then Reg.pwrStatusSeatedH40 else Reg.pwrStatusSeatedA1) = false ∧
      (s.sec.fwUp = true → s.get Reg.bkdPwrState ≤ 1 →
        hasFailed 0x1C 0xFF t ∧ t.pair.restartDue = false ∧ t.fio.drive = .off) ∧
      (s.sec.fwUp = false ∨ 2 ≤ s.get Reg.bkdPwrState → t.role = s.role)) := by
  obtain ⟨w, hw⟩ : ∃ w, w = (s.setBit (seatFld h) false).setBit Reg.hhkPairStatusKillOut false := ⟨_, rfl⟩
  have hmem : w.mem = s.mem := by rw [hw, State.setBit_mem, State.setBit_mem]
  have hsec : w.sec = s.sec := by rw [hw, State.setBit_sec, State.setBit_sec]
  have hkill : w.on Reg.hhkPairStatusKillOut = false := by rw [hw, State.on_setBit_self _ _ _ (by decide)]
  have hseat : w.on (seatFld h) = false := by
    rw [hw]
    cases h
    · simp -implicitDefEqProofs (disch := decide) [seatFld]
    · simp -implicitDefEqProofs (disch := decide) [seatFld]
  have hget : w.role = s.role ∧ w.get Reg.bkdPwrState = s.get Reg.bkdPwrState := by
    rw [hw]
    cases h
    · constructor <;> simp -implicitDefEqProofs (disch := decide) [seatFld, State.role]
    · constructor <;> simp -implicitDefEqProofs (disch := decide) [seatFld, State.role]
  have hexec : exec (.seatedDetectBreak h) s = .next (if !w.sec.fwUp || decide (2 ≤ w.get Reg.bkdPwrState) then w
      else failOff 0x1C false (if w.held then recordOwn 4 w else w)) := by rw [hw]; rfl
  rw [hsec, hget.2] at hexec
  by_cases hoff : s.sec.fwUp = false ∨ 2 ≤ s.get Reg.bkdPwrState
  · rw [if_pos (by simpa using hoff)] at hexec
    exact ⟨_, hexec, memKept_of_mem hmem, hkill, hseat, fun hup hon => by
      rcases hoff with hdown | hstate
      · rw [hup] at hdown
        exact absurd hdown (by decide)
      · omega, fun _ => hget.1⟩
  · rw [if_neg (by simpa using hoff)] at hexec
    have hown : (if w.held then recordOwn 4 w else w).mem = w.mem ∧ (if w.held then recordOwn 4 w else w).regs = w.regs := by
      split
      · exact ⟨rfl, rfl⟩
      · exact ⟨rfl, rfl⟩
    generalize (if w.held then recordOwn 4 w else w) = v at hexec hown
    have hon {f : Fld} (hf : (lasting f.addr && f.addr != 0x90014 && f.addr != 0x90018 || f.besideOwn) = true) :
        (failOff 0x1C false v).on f = w.on f :=
      State.on_congr ((get_failOff hf ..).trans (State.get_congr _ _ hown.2 f))
    obtain ⟨hfailed, hdrive⟩ := failOff_hasFailed (cls := 0x1C) (by decide) false v
    refine ⟨_, hexec, fun a => (failOff_memKept 0x1C false v a).trans (memKept_of_mem (hown.1.trans hmem) a),
      (hon (by decide)).trans hkill, (hon (f := seatFld h) (by cases h <;> decide)).trans hseat,
      fun _ _ => ⟨hfailed, enterFailed_restartDue .., hdrive⟩, fun h => absurd h hoff⟩

end Sys2Proof.Machine
end

section
/-! SUPPORT. Temperature (19 R517), the thermal shutdown (18 R506, R507), and the adaptive loops (19 R529-R531). -/

namespace Sys2Proof.Machine

variable {s : State}

/-! ### The maximum of a temperature, the measured input, and the cap of MGMT -/

section Rules
variable (s : State)

@[simp] theorem maxTemp_mem (f : Fld) (v : Int) : (maxTemp f v s).mem = s.mem := by
  unfold maxTemp
  split
  · exact State.setInt_mem ..
  · rfl

@[simp] theorem get_maxTemp_off (f : Fld) (v : Int) {g : Fld} (h : (f.ok && f.apart g) = true) :
    (maxTemp f v s).get g = s.get g := by
  unfold maxTemp
  split
  · exact State.get_setInt_off s f g v h
  · rfl

@[simp] theorem on_maxTemp_off (f : Fld) (v : Int) {g : Fld} (h : (f.ok && f.apart g) = true) :
    (maxTemp f v s).on g = s.on g := State.on_congr (get_maxTemp_off s f v h)

@[simp] theorem getInt_maxTemp_off (f : Fld) (v : Int) {g : Fld} (h : (f.ok && f.apart g) = true) :
    (maxTemp f v s).getInt g = s.getInt g := by rw [State.getInt, get_maxTemp_off s f v h, State.getInt]

theorem getInt_maxTemp {f : Fld} {v : Int} (hok : f.ok = true) (hlo : -2 ^ (f.hi - f.lo) ≤ v)
    (hhi : v < 2 ^ (f.hi - f.lo)) : (maxTemp f v s).getInt f = max (s.getInt f) v := by
  unfold maxTemp
  split
  · rw [State.getInt_setInt_self s f hok hlo hhi]
    omega
  · omega

/-- What the measurement of the input leaves. -/
def Fld.offInput (g : Fld) : Bool :=
  Reg.pwrFeedaMa.apart g && Reg.pwrFeedbMa.apart g && Reg.pwrInputMw.apart g && Reg.pwrInputMaxMw.apart g

@[simp] theorem State.maxTo_mem (f : Fld) (v : Nat) : (s.maxTo f v).mem = s.mem := by
  unfold State.maxTo
  split
  · exact State.set_mem ..
  · rfl

@[simp] theorem measureInput_mem : (measureInput s).mem = s.mem := by
  unfold measureInput
  rw [State.maxTo_mem, State.took_mem, State.set_mem, State.took_mem, State.set_mem, State.took_mem, State.set_mem]

theorem State.get_took (g : Fld) : s.took.get g = s.get g := rfl

@[simp] theorem get_measureInput {g : Fld} (h : g.offInput = true) : (measureInput s).get g = s.get g := by
  simp only [Fld.offInput, Bool.and_eq_true] at h
  obtain ⟨⟨⟨ha, hb⟩, hin⟩, hmax⟩ := h
  unfold measureInput
  rw [State.get_maxTo_off _ _ _ _ (by rw [hmax]; rfl), State.get_took, State.get_set_apart _ _ _ _ rfl hin,
    State.get_took, State.get_set_apart _ _ _ _ rfl hb, State.get_took, State.get_set_apart _ _ _ _ rfl ha]

@[simp] theorem on_measureInput {g : Fld} (h : g.offInput = true) : (measureInput s).on g = s.on g :=
  State.on_congr (get_measureInput s h)

@[simp] theorem getInt_measureInput {g : Fld} (h : g.offInput = true) : (measureInput s).getInt g = s.getInt g := by
  rw [State.getInt, get_measureInput s h, State.getInt]

@[simp] theorem applyCap_mem : (applyCap s).mem = s.mem := by
  unfold applyCap
  split
  · exact State.set_mem ..
  · rfl

@[simp] theorem get_applyCap {g : Fld} (h : Reg.pwrStatusMgmtOp.apart g = true) : (applyCap s).get g = s.get g := by
  unfold applyCap
  split
  · exact State.get_set_apart _ _ _ _ rfl h
  · rfl

@[simp] theorem on_applyCap {g : Fld} (h : Reg.pwrStatusMgmtOp.apart g = true) : (applyCap s).on g = s.on g :=
  State.on_congr (get_applyCap s h)

@[simp] theorem getInt_applyCap {g : Fld} (h : Reg.pwrStatusMgmtOp.apart g = true) : (applyCap s).getInt g = s.getInt g := by
  rw [State.getInt, get_applyCap s h, State.getInt]

/-- Under the cap the operating point is at most 1. -/
theorem get_mgmtOp_applyCap : (applyCap s).get Reg.pwrStatusMgmtOp =
    if s.on Reg.pwrStatusMgmtCap then min 1 (s.get Reg.pwrStatusMgmtOp) else s.get Reg.pwrStatusMgmtOp := by
  have hone : (s.set Reg.pwrStatusMgmtOp 1).get Reg.pwrStatusMgmtOp = 1 := State.get_set_same _ _ _ rfl
  unfold applyCap
  cases hcap : s.on Reg.pwrStatusMgmtCap
  · rw [if_neg (by simp), if_neg (by simp)]
  · rw [if_pos rfl]
    by_cases hhigh : 1 < s.get Reg.pwrStatusMgmtOp
    · rw [if_pos (by simp [hhigh]), hone, Nat.min_eq_left (by omega)]
    · rw [if_neg (by simp [hhigh]), Nat.min_eq_right (by omega)]

end Rules

/-! ### TEMP_SAMPLE (R517) -/

/-- Both temperatures are shown with their maxima. -/
def tempShown (die board : Int) (s : State) : State :=
  maxTemp Reg.pwrTempMaxDieMax die (maxTemp Reg.pwrTempMaxBoardMax board
    (measureInput ((s.setInt Reg.pwrTempDie die).setInt Reg.pwrTempBoard board)))

/-- THERM_WARN and the cap of MGMT. -/
def tempJudged (w : Bool) (s : State) : State :=
  applyCap (((s.setBit Reg.pwrStatusThermWarn w).setBit Reg.pwrStatusMgmtCap w).raiseIf
    (w && !s.on Reg.pwrStatusThermWarn) Ev.pwrThermWarn)

theorem exec_tempSample (die board : Int) (s : State) : ∃ t v, exec (.tempSample die board) s = .next t ∧
    v.regs = (tempShown die board s).regs ∧ v.mem = (tempShown die board s).mem ∧
    t.regs = (tempJudged (if 1050 ≤ die then true else if die < 1000 then false else v.on Reg.pwrStatusThermWarn) v).regs ∧
    t.mem = (tempJudged (if 1050 ≤ die then true else if die < 1000 then false else v.on Reg.pwrStatusThermWarn) v).mem := by
  change ∃ t v, execTempSample die board s = .next t ∧ _
  unfold execTempSample
  extract_lets s1 s2 low high ever nvs s3 warned warn s4 s5 time
  refine ⟨_, s3, rfl, rfl, rfl, ?_, ?_⟩
  · split
    · exact Eq.refl s5.regs
    · exact Eq.refl s5.regs
  · split
    · exact Eq.refl s5.mem
    · exact Eq.refl s5.mem

theorem getInt_congr {s t : State} (h : t.regs = s.regs) (f : Fld) : t.getInt f = s.getInt f := by
  rw [State.getInt, State.getInt, State.get_congr _ _ h]

theorem tempShown_shows {die board : Int} (hdlo : -32768 ≤ die) (hdhi : die ≤ 32767) (hblo : -32768 ≤ board)
    (hbhi : board ≤ 32767) (s : State) :
    (tempShown die board s).mem = s.mem ∧ (tempShown die board s).getInt Reg.pwrTempDie = die ∧
      (tempShown die board s).getInt Reg.pwrTempBoard = board ∧
      (tempShown die board s).getInt Reg.pwrTempMaxDieMax = max (s.getInt Reg.pwrTempMaxDieMax) die ∧
      (tempShown die board s).role = s.role ∧
      (tempShown die board s).on Reg.pwrStatusThermWarn = s.on Reg.pwrStatusThermWarn ∧
      (tempShown die board s).get Reg.pwrStatusMgmtOp = s.get Reg.pwrStatusMgmtOp := by
  have hdie (t : State) : (t.setInt Reg.pwrTempDie die).getInt Reg.pwrTempDie = die :=
    State.getInt_setInt_self _ _ rfl (by simp only [Reg.pwrTempDie]; omega) (by simp only [Reg.pwrTempDie]; omega)
  have hboard (t : State) : (t.setInt Reg.pwrTempBoard board).getInt Reg.pwrTempBoard = board :=
    State.getInt_setInt_self _ _ rfl (by simp only [Reg.pwrTempBoard]; omega) (by simp only [Reg.pwrTempBoard]; omega)
  have hmax (t : State) : (maxTemp Reg.pwrTempMaxDieMax die t).getInt Reg.pwrTempMaxDieMax =
      max (t.getInt Reg.pwrTempMaxDieMax) die :=
    getInt_maxTemp _ rfl (by simp only [Reg.pwrTempMaxDieMax]; omega) (by simp only [Reg.pwrTempMaxDieMax]; omega)
  refine ⟨?_, ?_, ?_, ?_, ?_, ?_, ?_⟩
  · simp -implicitDefEqProofs [tempShown]
  · simp -implicitDefEqProofs (disch := decide) [tempShown, hdie]
  · simp -implicitDefEqProofs (disch := decide) [tempShown, hboard]
  · simp -implicitDefEqProofs (disch := decide) [tempShown, hmax]
  · simp -implicitDefEqProofs (disch := decide) [tempShown, State.role]
  · simp -implicitDefEqProofs (disch := decide) [tempShown]
  · simp -implicitDefEqProofs (disch := decide) [tempShown]

theorem tempJudged_shows (w : Bool) (s : State) :
    (tempJudged w s).mem = s.mem ∧ (tempJudged w s).getInt Reg.pwrTempDie = s.getInt Reg.pwrTempDie ∧
      (tempJudged w s).getInt Reg.pwrTempBoard = s.getInt Reg.pwrTempBoard ∧
      (tempJudged w s).getInt Reg.pwrTempMaxDieMax = s.getInt Reg.pwrTempMaxDieMax ∧
      (tempJudged w s).role = s.role ∧ (tempJudged w s).on Reg.pwrStatusThermWarn = w ∧
      (tempJudged w s).on Reg.pwrStatusMgmtCap = w ∧
      (tempJudged w s).get Reg.pwrStatusMgmtOp =
        (if w then min 1 (s.get Reg.pwrStatusMgmtOp) else s.get Reg.pwrStatusMgmtOp) ∧
      (w = true → s.on Reg.pwrStatusThermWarn = false → (tempJudged w s).on Ev.pwrThermWarn.flag = true) := by
  refine ⟨?_, ?_, ?_, ?_, ?_, ?_, ?_, ?_, fun hw hwas => ?_⟩
  · simp -implicitDefEqProofs [tempJudged]
  · simp -implicitDefEqProofs (disch := decide) [tempJudged]
  · simp -implicitDefEqProofs (disch := decide) [tempJudged]
  · simp -implicitDefEqProofs (disch := decide) [tempJudged]
  · simp -implicitDefEqProofs (disch := decide) [tempJudged, State.role]
  · simp -implicitDefEqProofs (disch := decide) [tempJudged]
  · simp -implicitDefEqProofs (disch := decide) [tempJudged]
  · simp -implicitDefEqProofs (disch := decide) [tempJudged, get_mgmtOp_applyCap]
  · rw [tempJudged, on_applyCap _ (by decide), hw, hwas]
    exact State.on_raiseIf_self _ _ rfl (by decide)

theorem leads_tempSample {die board : Int} {w : Bool} (hdlo : -32768 ≤ die) (hdhi : die ≤ 32767) (hblo : -32768 ≤ board)
    (hbhi : board ≤ 32767)
    (hw : w = (if 1050 ≤ die then true else if die < 1000 then false else s.on Reg.pwrStatusThermWarn)) :
    leads (.tempSample die board) s (fun t => memKept s t ∧ t.role = s.role ∧ t.getInt Reg.pwrTempDie = die ∧
      t.getInt Reg.pwrTempBoard = board ∧ t.getInt Reg.pwrTempMaxDieMax = max (s.getInt Reg.pwrTempMaxDieMax) die ∧
      t.on Reg.pwrStatusThermWarn = w ∧ t.on Reg.pwrStatusMgmtCap = w ∧
      t.get Reg.pwrStatusMgmtOp = (if w then min 1 (s.get Reg.pwrStatusMgmtOp) else s.get Reg.pwrStatusMgmtOp) ∧
      (w = true → s.on Reg.pwrStatusThermWarn = false → t.on Ev.pwrThermWarn.flag = true)) := by
  obtain ⟨t, v, hexec, hvregs, hvmem, htregs, htmem⟩ := exec_tempSample die board s
  obtain ⟨hmem, hdie, hboard, hmax, hrole, hwarn, hop⟩ := tempShown_shows hdlo hdhi hblo hbhi s
  have hvget (f : Fld) : v.get f = (tempShown die board s).get f := State.get_congr _ _ hvregs f
  have hvwarn : v.on Reg.pwrStatusThermWarn = s.on Reg.pwrStatusThermWarn := (State.on_congr (hvget _)).trans hwarn
  rw [hvwarn, ← hw] at htregs htmem
  obtain ⟨hjmem, hjdie, hjboard, hjmax, hjrole, hjwarn, hjcap, hjop, hjev⟩ := tempJudged_shows w v
  have hget (f : Fld) : t.get f = (tempJudged w v).get f := State.get_congr _ _ htregs f
  refine ⟨t, hexec, memKept_of_mem (htmem.trans (hjmem.trans (hvmem.trans hmem))), (hget _).trans (hjrole.trans ((hvget _).trans hrole)),
    (getInt_congr htregs _).trans (hjdie.trans ((getInt_congr hvregs _).trans hdie)),
    (getInt_congr htregs _).trans (hjboard.trans ((getInt_congr hvregs _).trans hboard)),
    (getInt_congr htregs _).trans (hjmax.trans ((getInt_congr hvregs _).trans hmax)),
    (State.on_congr (hget _)).trans hjwarn, (State.on_congr (hget _)).trans hjcap, ?_, fun h hwas => ?_⟩
  · rw [hget, hjop, hvget, hop]
  · rw [State.on_congr (hget _), hjev h (hvwarn.trans hwas)]

/-! ### The thermal shutdown (18 R506, R507) -/

theorem shutDown_shows (s : State) :
    (shutDown s).mem = s.mem ∧ (shutDown s).role = s.role ∧ (shutDown s).held = false ∧ (shutDown s).fio.drive = .off ∧
      (shutDown s).get Reg.bkdPwrState = 3 ∧ (shutDown s).get Reg.bkdPwrLastOff = 2 ∧ (shutDown s).nvs = s.nvs ∧
      (shutDown s).backup = s.backup := by
  obtain ⟨w, hw⟩ : ∃ w, w = (s.set Reg.bkdPwrState 3).set Reg.bkdPwrLastOff 2 := ⟨_, rfl⟩
  have hstands := convOff_stands w
  obtain ⟨hheld, hdrive, -⟩ := convOff_off w
  rw [shutDown, ← hw]
  refine ⟨hstands.mem.trans ?_, (role_convOff w).trans ?_, hheld, hdrive, (get_convOff w).trans ?_, (get_convOff w).trans ?_,
    hstands.nvs.trans ?_, (backup_convOff w).trans ?_⟩
  · rw [hw, State.setBit_mem, State.set_mem, State.set_mem]
  · rw [hw, State.role, State.get_set_off _ _ _ _ (by decide), State.get_set_off _ _ _ _ (by decide), State.role]
  · rw [hw, State.get_set_off _ _ _ _ (by decide), State.get_set_same _ _ _ rfl]
    rfl
  · rw [hw, State.get_set_same _ _ _ rfl]
    rfl
  · rw [hw, State.setBit_nvs, State.set_nvs, State.set_nvs]
  · have hoff (n : Nat) : Reg.bkdPwrState.apart (Reg.bkdBytesWord n) = true ∧
        Reg.bkdPwrLastOff.apart (Reg.bkdBytesWord n) = true := by
      have haddr : Reg.bkdPwrState.addr ≠ (Reg.bkdBytesWord n).addr ∧ Reg.bkdPwrLastOff.addr ≠ (Reg.bkdBytesWord n).addr := by
        simp only [Reg.bkdBytesWord, Reg.bkdPwrState, Reg.bkdPwrLastOff]
        omega
      exact ⟨Fld.apart_of_addr haddr.1, Fld.apart_of_addr haddr.2⟩
    rw [hw, State.backup, State.backup]
    exact List.flatMap_congr fun n _ => by
      rw [State.get_set_apart _ _ _ _ rfl (hoff n).2, State.get_set_apart _ _ _ _ rfl (hoff n).1]

theorem leads_thermalFail (hon : s.get Reg.bkdPwrState ≤ 1)
    (hhot : 1200 ≤ s.getInt Reg.pwrTempDie ∨ 950 ≤ s.getInt Reg.pwrTempBoard) :
    leads .thermalFail s (fun t => memKept s t ∧ t.role = roleFailed ∧ t.held = false ∧ t.get Reg.bkdPwrState = 3 ∧
      t.get Reg.bkdPwrLastOff = 2 ∧ leAt t.backup 4 4 = 0x50 ∧ leAt t.backup 2 1 = 2 ∧ t.nvs.unflushed = 0) := by
  obtain ⟨w, hw⟩ : ∃ w, w = enterFailed 0x0050 0x50 .hold false s := ⟨_, rfl⟩
  obtain ⟨u, hu⟩ : ∃ u, u = writeBackup 2 [2#8] (flushNand w) := ⟨_, rfl⟩
  have hexec : exec .thermalFail s = .next (shutDown u) := by
    rw [hu, hw]
    refine congrArg Host.Outcome.next (if_neg ?_)
    simp only [Bool.or_eq_true, Bool.and_eq_true, decide_eq_true_eq]
    omega
  obtain ⟨hmem, hrole, hheld, -, hstate, hoff, hnvs, hbackup⟩ := shutDown_shows u
  have hlasts : s.Lasts u := by
    rw [hu, hw]
    exact .writeBackup (.flushNand (.enterFailed (.refl s)))
  have hflushed : (flushNand w).backup = w.backup := backup_congr (flushNand_regs w)
  have hmode : leAt u.backup 2 1 = 2 := by
    rw [hu]
    exact leAt_writeBackup (k := 1) 2 _ (by decide)
  refine ⟨_, hexec, memKept_of_mem (hmem.trans hlasts.mem), hrole.trans ?_, hheld, hstate, hoff, ?_, ?_, ?_⟩
  · rw [hu, State.role, get_writeBackup_off (by decide), State.get_congr _ _ (flushNand_regs w), hw]
    exact (enterFailed_failed ..).2.1
  · rw [hbackup, hu, leAt_writeBackup_beside _ (by decide) (.inr (by decide)), hflushed, hw, (leAt_enterFailed ..).1]
    rfl
  · rw [hbackup, hmode]
  · rw [hnvs, hu, writeBackup, putBackup_nvs, flushNand_unflushed]

theorem exec_thermalFail_idle (h : 2 ≤ s.get Reg.bkdPwrState ∨
    s.getInt Reg.pwrTempDie < 1200 ∧ s.getInt Reg.pwrTempBoard < 950) : exec .thermalFail s = .next s := by
  refine congrArg Host.Outcome.next (if_pos ?_)
  simpa only [Bool.or_eq_true, Bool.and_eq_true, decide_eq_true_eq] using h

theorem leads_thermalShutdown (hon : s.get Reg.bkdPwrState ≤ 1) (hhot : 1300 ≤ s.getInt Reg.pwrTempDie) :
    leads .thermalShutdown s (fun t => memKept s t ∧ t.role = s.role ∧ t.held = false ∧ t.fio.drive = .off ∧
      t.get Reg.bkdPwrState = 3 ∧ t.get Reg.bkdPwrLastOff = 2 ∧ t.nvs = s.nvs) := by
  obtain ⟨hmem, hrole, hheld, hdrive, hstate, hoff, hnvs, -⟩ := shutDown_shows s
  have hexec : exec .thermalShutdown s = .next (shutDown s) :=
    congrArg Host.Outcome.next (if_pos (by simp [hon, hhot]))
  exact ⟨_, hexec, memKept_of_mem hmem, hrole, hheld, hdrive, hstate, hoff, hnvs⟩

theorem exec_thermalShutdown_idle (h : 1 < s.get Reg.bkdPwrState ∨ s.getInt Reg.pwrTempDie < 1300) :
    exec .thermalShutdown s = .next s := by
  refine congrArg Host.Outcome.next (if_neg ?_)
  simp only [Bool.and_eq_true, decide_eq_true_eq]
  omega

/-! ### Adaptive loops (R529-R531) -/

/-- The step of 5 mV that a demand takes. -/
def avsStep (v : Nat) : Nat := if 880 < v then 880 else if v ≤ 720 then 720 else (v + 4) / 5 * 5

theorem avsStep_bounds (v : Nat) :
    avsStep v % 5 = 0 ∧ 720 ≤ avsStep v ∧ avsStep v ≤ 880 ∧ (v ≤ 880 → v ≤ avsStep v ∧ avsStep v < max 720 v + 5) := by
  unfold avsStep
  split_ifs
  · omega
  · omega
  · omega

theorem leads_avsAdjust (v : Nat) :
    leads (.avsAdjust v) s (fun t => memKept s t ∧ t.role = s.role ∧ t.get Reg.pwrAvsCoreMv % 5 = 0 ∧
      720 ≤ t.get Reg.pwrAvsCoreMv ∧ t.get Reg.pwrAvsCoreMv ≤ 880 ∧
      (v ≤ 880 → v ≤ t.get Reg.pwrAvsCoreMv ∧ t.get Reg.pwrAvsCoreMv < max 720 v + 5) ∧
      t.on Reg.pwrStatusAvsLimit = decide (880 < v) ∧ (880 < v → t.on Ev.pwrAvsLimit.flag = true)) := by
  obtain ⟨t, ht⟩ : ∃ t, t = ((s.set Reg.pwrAvsCoreMv (avsStep v)).setBit Reg.pwrStatusAvsLimit (880 < v)).raiseIf (880 < v)
    Ev.pwrAvsLimit := ⟨_, rfl⟩
  obtain ⟨hstep, hlo, hhi, hmeets⟩ := avsStep_bounds v
  have hcore : t.get Reg.pwrAvsCoreMv = avsStep v := by
    rw [ht, State.get_raiseIf_off _ _ _ _ (by decide), State.get_setBit_off _ _ _ _ (by decide),
      State.get_set_same _ _ _ rfl]
    exact Nat.mod_eq_of_lt (by simp only [Reg.pwrAvsCoreMv]; omega)
  rw [← hcore] at hstep hlo hhi hmeets
  refine ⟨t, by rw [ht]; rfl, memKept_of_mem ?_, ?_, hstep, hlo, hhi, hmeets, ?_, fun h => ?_⟩
  · rw [ht, State.raiseIf_mem, State.setBit_mem, State.set_mem]
  · rw [ht, State.role]
    simp -implicitDefEqProofs (disch := decide) [State.role]
  · rw [ht]
    simp -implicitDefEqProofs (disch := decide)
  · rw [ht]
    exact State.on_raiseIf_self _ _ (decide_eq_true h) (by decide)

theorem leads_mgmtOpSelect (op : Nat) :
    leads (.mgmtOpSelect op) s (fun t => memKept s t ∧ t.role = s.role ∧ t.get Reg.pwrStatusMgmtOp =
      (if s.on Reg.pwrStatusMgmtCap then min 1 op else min 3 op)) := by
  have hset : (s.set Reg.pwrStatusMgmtOp (satTo 3 op)).get Reg.pwrStatusMgmtOp = min 3 op := by
    rw [State.get_set_same _ _ _ rfl, satTo_eq_min]
    exact Nat.mod_eq_of_lt (by simp only [Reg.pwrStatusMgmtOp]; omega)
  refine ⟨_, rfl, memKept_of_mem ((applyCap_mem _).trans (State.set_mem ..)), ?_, ?_⟩
  · rw [State.role, get_applyCap _ (by decide), State.get_set_off _ _ _ _ (by decide), State.role]
  · rw [get_mgmtOp_applyCap, hset, State.on_set_off _ _ _ _ (by decide)]
    split
    · omega
    · rfl

/-- A droop shows in its count and in the stretch of the window. -/
def drooped (c : Nat) (s : State) : State :=
  ({ s.wrapUp Reg.pwrDroopsCnt with pwr := { s.pwr with stretch := s.pwr.stretch + c } } : State).maxTo Reg.pwrStretchMaxCenti
    (satTo 65535 (s.pwr.stretch + c))

theorem drooped_shows (c : Nat) (s : State) :
    (drooped c s).mem = s.mem ∧ (drooped c s).role = s.role ∧
      (drooped c s).get Reg.pwrDroopsCnt = (s.get Reg.pwrDroopsCnt + 1) % 2 ^ 32 ∧
      (drooped c s).pwr = { s.pwr with stretch := s.pwr.stretch + c } ∧
      (drooped c s).get Reg.pwrStretchMaxCenti = max (s.get Reg.pwrStretchMaxCenti) (min 65535 (s.pwr.stretch + c)) ∧
      (drooped c s).get Reg.pwrStretchOverCnt = s.get Reg.pwrStretchOverCnt := by
  refine ⟨?_, ?_, ?_, ?_, ?_, ?_⟩
  · rw [drooped, State.maxTo_mem, State.wrapUp_mem]
  · simp -implicitDefEqProofs (disch := decide) [drooped, State.role]
  · simp -implicitDefEqProofs (disch := decide) [drooped]
    rfl
  · unfold drooped State.maxTo
    split
    · rw [State.set_pwr]
    · rfl
  · rw [drooped, State.get_maxTo_self _ _ rfl (by rw [satTo_eq_min]; simp only [Reg.pwrStretchMaxCenti]; omega), satTo_eq_min]
    simp -implicitDefEqProofs (disch := decide)
  · simp -implicitDefEqProofs (disch := decide) [drooped]

theorem leads_droopDetect (c : Nat) :
    leads (.droopDetect c) s (fun t => memKept s t ∧ t.role = s.role ∧
      t.get Reg.pwrDroopsCnt = (s.get Reg.pwrDroopsCnt + 1) % 2 ^ 32 ∧ t.pwr.stretch = s.pwr.stretch + c ∧
      t.get Reg.pwrStretchMaxCenti = max (s.get Reg.pwrStretchMaxCenti) (min 65535 (s.pwr.stretch + c)) ∧
      (300 < s.pwr.stretch + c → s.pwr.stretchOver = false → t.on Ev.pwrStretchOver.flag = true ∧
        t.pwr.stretchOver = true) ∧
      (s.pwr.stretchOver = true → t.get Reg.pwrStretchOverCnt = s.get Reg.pwrStretchOverCnt)) := by
  obtain ⟨hmem, hrole, hcnt, hpwr, hmax, hover⟩ := drooped_shows c s
  have hexec : exec (.droopDetect c) s = .next (judgeStretch (drooped c s)) := rfl
  generalize drooped c s = w at *
  refine ⟨_, hexec, ?_⟩
  by_cases hjudge : 300 < s.pwr.stretch + c ∧ s.pwr.stretchOver = false
  · have heq : judgeStretch w =
        (({ w with pwr := { w.pwr with stretchOver := true } } : State).bump Reg.pwrStretchOverCnt).raise Ev.pwrStretchOver :=
      if_pos (by rw [hpwr]; simp [hjudge.1, hjudge.2])
    rw [heq]
    refine ⟨memKept_of_mem ?_, ?_, ?_, ?_, ?_, fun _ _ => ⟨State.on_raise_self _ _ (by decide), ?_⟩, fun hwas => ?_⟩
    · rw [State.raise_mem, State.bump_mem, hmem]
    · rw [← hrole, State.role, State.get_raise_off _ _ _ (by decide), State.get_bump_off _ _ _ _ (by decide), State.get_mk,
        State.role]
    · rw [State.get_raise_off _ _ _ (by decide), State.get_bump_off _ _ _ _ (by decide), State.get_mk, hcnt]
    · rw [State.raise_pwr, State.bump_pwr, hpwr]
    · rw [State.get_raise_off _ _ _ (by decide), State.get_bump_off _ _ _ _ (by decide), State.get_mk, hmax]
    · rw [State.raise_pwr, State.bump_pwr]
    · rw [hjudge.2] at hwas
      exact absurd hwas (by decide)
  · have heq : judgeStretch w = w := if_neg (by rw [hpwr]; simpa using hjudge)
    rw [heq]
    exact ⟨memKept_of_mem hmem, hrole, hcnt, by rw [hpwr], hmax, fun hlong hwas => absurd ⟨hlong, hwas⟩ hjudge, fun _ => hover⟩

end Sys2Proof.Machine
end

section
/-! PROOF. Feeds, seating, temperature and the adaptive loops (19). -/

namespace Sys2Proof.Machine

/-- Settles O51: each command by what it does to the feeds, the seat, the temperature or the loop. -/
theorem feedsSeatingAndTemperature : Obligations.FeedsSeatingAndTemperature := by
  unfold Obligations.FeedsSeatingAndTemperature
  intro s
  refine ⟨fun f mv st c lost hf hc hlost => ?_, fun mv h => leads_feedGood_A h, fun f mv hf h => leads_feedGood_overV h,
    fun mv h => leads_feedGood_B h, fun mv h => leads_feedOvClear h, leads_feedReturn, exec_feedReturn_idle,
    leads_feedBRelease, fun p g h => leads_seatedDetectMade p g h, fun p g => leads_seatedDetectMade_again p g,
    leads_seatPartial, leads_seatedDetectBreak, fun die board w hdlo hdhi hblo hbhi hw => leads_tempSample hdlo hdhi hblo hbhi hw,
    leads_thermalFail, exec_thermalFail_idle, leads_thermalShutdown, exec_thermalShutdown_idle, leads_avsAdjust,
    leads_droopDetect, leads_mgmtOpSelect⟩
  obtain ⟨hst, u, hu, hexec⟩ := exec_feedLeaves hc s
  subst hlost
  refine ⟨fun hwas hother => ⟨_, hexec, feedLeft_passes hf hst hu hwas hother⟩,
    fun hwas hother => ⟨_, hexec, feedLeft_fails hf hu hwas hother⟩, fun hwas => ⟨_, hexec, ?_⟩⟩
  rw [feedLeft_idle (by rwa [hu.feedOk])]
  have hrole : (u.set (feedFld f) st).role = u.role ∧ (u.set (feedFld f) st).get (feedFld f) = st := by
    obtain ⟨-, hfld⟩ | ⟨-, hfld⟩ := feedFld_cases hf
    · rw [hfld]
      exact ⟨State.get_set_off _ _ _ _ (by decide), (State.get_set_same _ _ _ rfl).trans (Nat.mod_eq_of_lt hst)⟩
    · rw [hfld]
      exact ⟨State.get_set_off _ _ _ _ (by decide), (State.get_set_same _ _ _ rfl).trans (Nat.mod_eq_of_lt hst)⟩
  exact ⟨memKept_of_mem ((State.set_mem ..).trans hu.mem), hrole.1.trans hu.role, hrole.2, (State.set_pwr ..).trans hu.pwr⟩

end Sys2Proof.Machine
end

section
/-! SUPPORT. The backup counter, its alarm and its weekday (18 R499, R503, R504). -/

namespace Sys2Proof.Machine

variable {s : State}

/-! ### The counter -/

/-- The fields of the counter. -/
def tickFields : List Fld := [Reg.bkdFracFrac, Reg.bkdSecLoSecLo, Reg.bkdSecHiSecHi]

@[simp] theorem get_setBkd (s : State) (t : Nat) {g : Fld} (h : tickFields.all (·.apart g) = true) :
    (s.setBkd t).get g = s.get g := by
  have hfrac : Reg.bkdFracFrac.apart g = true := List.all_eq_true.mp h _ (by decide)
  have hlo : Reg.bkdSecLoSecLo.apart g = true := List.all_eq_true.mp h _ (by decide)
  have hhi : Reg.bkdSecHiSecHi.apart g = true := List.all_eq_true.mp h _ (by decide)
  rw [State.setBkd, State.get_set_apart _ _ _ _ rfl hhi, State.get_set_apart _ _ _ _ rfl hlo,
    State.get_set_apart _ _ _ _ rfl hfrac]

@[simp] theorem on_setBkd (s : State) (t : Nat) {g : Fld} (h : tickFields.all (·.apart g) = true) :
    (s.setBkd t).on g = s.on g := State.on_congr (get_setBkd s t h)

/-- The counter goes by its own fields. -/
theorem bkdTicks_congr {s t : State} (h : ∀ g ∈ tickFields, t.get g = s.get g) :
    t.bkdSeconds = s.bkdSeconds ∧ t.bkdTicks = s.bkdTicks := by
  have hsec : t.bkdSeconds = s.bkdSeconds := by
    rw [State.bkdSeconds, State.bkdSeconds, h _ (by decide), h _ (by decide)]
  exact ⟨hsec, by rw [State.bkdTicks, State.bkdTicks, hsec, h _ (by decide)]⟩

theorem bkdSeconds_lt (s : State) : s.bkdSeconds < 2 ^ 48 := by
  have hhi := State.get_lt s Reg.bkdSecHiSecHi
  have hlo := State.get_lt s Reg.bkdSecLoSecLo
  simp only [State.bkdSeconds, Reg.bkdSecHiSecHi, Reg.bkdSecLoSecLo] at *
  omega

theorem bkdTicks_lt (s : State) : s.bkdTicks < 2 ^ 48 * 32768 := by
  have hsec := bkdSeconds_lt s
  have hfrac := State.get_lt s Reg.bkdFracFrac
  simp only [State.bkdTicks, Reg.bkdFracFrac] at *
  omega

/-- The counter that is loaded holds its value. -/
theorem setBkd_ticks {t : Nat} (h : t < 2 ^ 48 * 32768) (s : State) :
    (s.setBkd t).bkdSeconds = t / 32768 ∧ (s.setBkd t).get Reg.bkdFracFrac = t % 32768 ∧ (s.setBkd t).bkdTicks = t := by
  have hfrac : (s.setBkd t).get Reg.bkdFracFrac = t % 32768 := by
    rw [State.setBkd, State.get_set_off _ _ _ _ (by decide), State.get_set_off _ _ _ _ (by decide),
      State.get_set_same _ _ _ rfl]
    exact Nat.mod_mod ..
  have hlo : (s.setBkd t).get Reg.bkdSecLoSecLo = t / 32768 % 2 ^ 32 := by
    rw [State.setBkd, State.get_set_off _ _ _ _ (by decide), State.get_set_same _ _ _ rfl]
    rfl
  have hhi : (s.setBkd t).get Reg.bkdSecHiSecHi = t / 32768 / 2 ^ 32 % 2 ^ 16 := by
    rw [State.setBkd, State.get_set_same _ _ _ rfl]
    rfl
  have hsec : (s.setBkd t).bkdSeconds = t / 32768 := by
    rw [State.bkdSeconds, hlo, hhi]
    omega
  refine ⟨hsec, hfrac, ?_⟩
  rw [State.bkdTicks, hsec, hfrac]
  omega

theorem bkdTicks_div (s : State) : s.bkdTicks / 32768 = s.bkdSeconds := by
  have hfrac := State.get_lt s Reg.bkdFracFrac
  simp only [State.bkdTicks, Reg.bkdFracFrac] at *
  omega

theorem bkdAlarm_lt (s : State) : s.bkdAlarm < 2 ^ 48 := by
  have hhi := State.get_lt s Reg.bkdAlarmHiAlarmHi
  have hlo := State.get_lt s Reg.bkdAlarmLoAlarmLo
  simp only [State.bkdAlarm, Reg.bkdAlarmHiAlarmHi, Reg.bkdAlarmLoAlarmLo] at *
  omega

/-! ### The alarm (R504) -/

/-- What an alarm that fires leaves. -/
def Fld.offAlarm (g : Fld) : Bool :=
  Ev.bkdAlarm.apart g && Ev.bkdSkipped.apart g && Reg.bkdAlarmHiArm.apart g && g.offWake

@[simp] theorem fireAlarm_mem (b : Bool) (s : State) : (fireAlarm b s).mem = s.mem := by
  unfold fireAlarm
  extract_lets s1 s2
  have h2 : s2.mem = s.mem := by rw [State.setBit_mem, State.raiseIf_mem, State.raise_mem]
  split
  · rw [wakeFromPark_mem, h2]
  · exact h2

@[simp] theorem get_fireAlarm (b : Bool) (s : State) {g : Fld} (h : g.offAlarm = true) :
    (fireAlarm b s).get g = s.get g := by
  simp only [Fld.offAlarm, Bool.and_eq_true] at h
  obtain ⟨⟨⟨halarm, hskip⟩, harm⟩, hwake⟩ := h
  have h2 (t : State) : (((t.raise Ev.bkdAlarm).raiseIf b Ev.bkdSkipped).setBit Reg.bkdAlarmHiArm false).get g = t.get g := by
    rw [State.setBit, State.get_set_apart _ _ _ _ rfl harm, State.get_raiseIf_apart _ _ _ _ hskip,
      State.get_raise_apart _ _ _ halarm]
  unfold fireAlarm
  extract_lets s1 s2
  split
  · rw [get_wakeFromPark _ _ hwake]
    exact h2 s
  · exact h2 s

@[simp] theorem on_fireAlarm (b : Bool) (s : State) {g : Fld} (h : g.offAlarm = true) : (fireAlarm b s).on g = s.on g :=
  State.on_congr (get_fireAlarm b s h)

/-- The alarm has fired: its flag, that of a skipped one, and ARM. -/
theorem fireAlarm_flags (b : Bool) (s : State) :
    (fireAlarm b s).on Ev.bkdAlarm.flag = true ∧ (b = true → (fireAlarm b s).on Ev.bkdSkipped.flag = true) ∧
      (fireAlarm b s).on Reg.bkdAlarmHiArm = false := by
  obtain ⟨w, hw⟩ : ∃ w, w = ((s.raise Ev.bkdAlarm).raiseIf b Ev.bkdSkipped).setBit Reg.bkdAlarmHiArm false := ⟨_, rfl⟩
  have halarm : w.on Ev.bkdAlarm.flag = true := by
    rw [hw, State.on_setBit_off _ _ _ _ (by decide), State.on_raiseIf_off _ _ _ _ (by decide),
      State.on_raise_self _ _ (by decide)]
  have hskip (hb : b = true) : w.on Ev.bkdSkipped.flag = true := by
    rw [hw, State.on_setBit_off _ _ _ _ (by decide), State.on_raiseIf_self _ _ hb (by decide)]
  have harm : w.on Reg.bkdAlarmHiArm = false := by rw [hw, State.on_setBit_self _ _ _ (by decide)]
  have heq : fireAlarm b s = if w.on Reg.bkdAlarmHiWake then wakeFromPark 1 w else w := by rw [hw]; rfl
  rw [heq]
  split
  · exact ⟨(on_wakeFromPark _ _ (by decide)).trans halarm, fun hb => (on_wakeFromPark _ _ (by decide)).trans (hskip hb),
      (on_wakeFromPark _ _ (by decide)).trans harm⟩
  · exact ⟨halarm, hskip, harm⟩

theorem fireAlarm_ticks (b : Bool) (s : State) :
    (fireAlarm b s).bkdSeconds = s.bkdSeconds ∧ (fireAlarm b s).bkdTicks = s.bkdTicks :=
  bkdTicks_congr fun g hg => get_fireAlarm b s (List.all_eq_true.mp (by decide : tickFields.all Fld.offAlarm = true) g hg)

/-! ### The counter advances, or is moved (R499, R500, R503) -/

/-- The state of the counter after `n` ticks, before its alarm. -/
def bkdTicked (n : Nat) (s : State) : State :=
  let days := ((s.bkdTicks + n) / 32768 + s.get Reg.bkdWdWdOffset) / 86400 -
    (s.bkdTicks / 32768 + s.get Reg.bkdWdWdOffset) / 86400
  if days = 0 then s.setBkd (s.bkdTicks + n)
  else (s.setBkd (s.bkdTicks + n)).set Reg.bkdWdWd (weekdayAfter ((s.setBkd (s.bkdTicks + n)).get Reg.bkdWdWd) days)

theorem bkdAdvance_eq (n : Nat) (s : State) : bkdAdvance n s =
    if s.on Reg.bkdAlarmHiArm && s.bkdTicks < s.bkdAlarm * 32768 && s.bkdAlarm * 32768 ≤ s.bkdTicks + n then
      fireAlarm false (bkdTicked n s) else bkdTicked n s := by
  rw [bkdAdvance, bkdTicked]

theorem bkdTicked_shows {n : Nat} (h : s.bkdTicks + n < 2 ^ 48 * 32768) :
    (bkdTicked n s).mem = s.mem ∧ (bkdTicked n s).bkdTicks = s.bkdTicks + n ∧
      (bkdTicked n s).bkdSeconds = (s.bkdTicks + n) / 32768 ∧
      (bkdTicked n s).get Reg.bkdFracFrac = (s.bkdTicks + n) % 32768 := by
  obtain ⟨hsec, hfrac, hticks⟩ := setBkd_ticks h s
  unfold bkdTicked
  extract_lets days
  split
  · exact ⟨State.setBkd_mem .., hticks, hsec, hfrac⟩
  · have hkept (v : Nat) : ∀ g ∈ tickFields, ((s.setBkd (s.bkdTicks + n)).set Reg.bkdWdWd v).get g = (s.setBkd (s.bkdTicks + n)).get g :=
      fun g hg => State.get_set_off _ _ _ _
        (List.all_eq_true.mp (by decide : tickFields.all (fun g => Reg.bkdWdWd.ok && Reg.bkdWdWd.apart g) = true) g hg)
    exact ⟨(State.set_mem ..).trans (State.setBkd_mem ..), (bkdTicks_congr (hkept _)).2.trans hticks,
      (bkdTicks_congr (hkept _)).1.trans hsec, (hkept _ _ (by decide)).trans hfrac⟩

/-- A move of the counter leaves it at its value, whatever its alarm does. -/
theorem bkdMove_shows {t : Nat} (h : t < 2 ^ 48 * 32768) (s : State) :
    (bkdMove t s).mem = s.mem ∧ (bkdMove t s).bkdTicks = t ∧
      ∀ g : Fld, g.offAlarm = true → tickFields.all (·.apart g) = true → (bkdMove t s).get g = s.get g := by
  obtain ⟨hsec, hfrac, hticks⟩ := setBkd_ticks h s
  unfold bkdMove
  extract_lets passes s1
  split
  · exact ⟨(fireAlarm_mem ..).trans (State.setBkd_mem ..), (fireAlarm_ticks true s1).2.trans hticks, fun g hg hoff =>
      (get_fireAlarm true s1 hg).trans (get_setBkd s t hoff)⟩
  · exact ⟨State.setBkd_mem .., hticks, fun g _ hoff => get_setBkd s t hoff⟩

theorem leads_bkdAlarmFire (harm : s.on Reg.bkdAlarmHiArm = true) (hearly : s.bkdTicks < s.bkdAlarm * 32768) :
    leads .bkdAlarmFire s (fun t => memKept s t ∧
      t.bkdTicks = s.bkdAlarm * 32768 ∧ t.on Ev.bkdAlarm.flag = true ∧ t.on Reg.bkdAlarmHiArm = false) := by
  have halarm := bkdAlarm_lt s
  have hsum : s.bkdTicks + (s.bkdAlarm * 32768 - s.bkdTicks) = s.bkdAlarm * 32768 := by omega
  have hexec : exec .bkdAlarmFire s = .next (fireAlarm false (bkdTicked (s.bkdAlarm * 32768 - s.bkdTicks) s)) := by
    change execBkdAlarmFire s = _
    rw [execBkdAlarmFire, if_pos (by simp [harm, hearly]), bkdAdvance_eq, if_pos (by rw [hsum]; simp [harm, hearly])]
  obtain ⟨hmem, hticks, -, -⟩ := bkdTicked_shows (s := s) (n := s.bkdAlarm * 32768 - s.bkdTicks) (by omega)
  obtain ⟨hflag, -, hdone⟩ := fireAlarm_flags false (bkdTicked (s.bkdAlarm * 32768 - s.bkdTicks) s)
  exact ⟨_, hexec, memKept_of_mem ((fireAlarm_mem ..).trans hmem), (fireAlarm_ticks ..).2.trans (hticks.trans hsum), hflag,
    hdone⟩

theorem exec_bkdAlarmFire_idle (h : s.on Reg.bkdAlarmHiArm = false) : exec .bkdAlarmFire s = .next s := by
  change execBkdAlarmFire s = _
  rw [execBkdAlarmFire, if_neg (by simp [h])]

theorem weekdayAfter_one {w : Nat} (h : w < 8) : weekdayAfter w 1 = nextWeekday w := by
  interval_cases w <;> rfl

theorem nextWeekday_lt {w : Nat} (h : w < 8) : nextWeekday w < 8 := by
  unfold nextWeekday
  split_ifs <;> omega

theorem leads_weekdayAdvance (hfar : s.bkdSeconds + 172800 < 2 ^ 48) :
    leads .weekdayAdvance s (fun t => memKept s t ∧
      t.get Reg.bkdWdWd = nextWeekday (s.get Reg.bkdWdWd) ∧ t.get Reg.bkdFracFrac = 0 ∧
      (t.bkdSeconds + s.get Reg.bkdWdWdOffset) % 86400 = 0 ∧ s.bkdSeconds < t.bkdSeconds) := by
  obtain ⟨ofs, hofs⟩ : ∃ ofs, ofs = s.get Reg.bkdWdWdOffset := ⟨_, rfl⟩
  obtain ⟨next, hnext⟩ : ∃ next, next = ((s.bkdSeconds + ofs) / 86400 + 1) * 86400 - ofs := ⟨_, rfl⟩
  have hlate : s.bkdSeconds < next ∧ (next + ofs) % 86400 = 0 ∧ (next + ofs) / 86400 = (s.bkdSeconds + ofs) / 86400 + 1 ∧
      next ≤ s.bkdSeconds + 86400 := by omega
  obtain ⟨hafter, hday, hdays, hnear⟩ := hlate
  have hdiv := bkdTicks_div s
  have hsum : s.bkdTicks + (next * 32768 - s.bkdTicks) = next * 32768 := by omega
  have hwd : s.get Reg.bkdWdWd < 8 := State.get_lt s Reg.bkdWdWd
  obtain ⟨hmem, -, hsec, hfrac⟩ := bkdTicked_shows (s := s) (n := next * 32768 - s.bkdTicks) (by omega)
  have hweek : (bkdTicked (next * 32768 - s.bkdTicks) s).get Reg.bkdWdWd = nextWeekday (s.get Reg.bkdWdWd) := by
    have hone : ((s.bkdTicks + (next * 32768 - s.bkdTicks)) / 32768 + s.get Reg.bkdWdWdOffset) / 86400 -
        (s.bkdTicks / 32768 + s.get Reg.bkdWdWdOffset) / 86400 = 1 := by rw [hsum, hdiv, ← hofs]; omega
    rw [bkdTicked]
    simp only [hone]
    rw [if_neg (by decide), State.get_set_same _ _ _ rfl, get_setBkd _ _ (by decide), weekdayAfter_one hwd]
    exact Nat.mod_eq_of_lt (nextWeekday_lt hwd)
  rw [hsum] at hsec hfrac
  have hexec : exec .weekdayAdvance s = .next (bkdAdvance (next * 32768 - s.bkdTicks) s) := by rw [hnext, hofs]; rfl
  rw [bkdAdvance_eq] at hexec
  refine ⟨_, hexec, ?_⟩
  rw [← hofs]
  split
  · rw [get_fireAlarm _ _ (by decide), get_fireAlarm _ _ (by decide), (fireAlarm_ticks ..).1, hweek, hfrac, hsec]
    exact ⟨memKept_of_mem ((fireAlarm_mem ..).trans hmem), rfl, by omega, by omega, by omega⟩
  · rw [hweek, hfrac, hsec]
    exact ⟨memKept_of_mem hmem, rfl, by omega, by omega, by omega⟩

end Sys2Proof.Machine
end

section
/-! SUPPORT. The trim of the backup counter (18 R500), writes of its registers (R503, R504), park and thermal restart (R506,
R507), the backup bytes (R508), and its supply (R509-R512). -/

namespace Sys2Proof.Machine

variable {s : State}

/-! ### The trim (R500) -/

theorem exec_bkdTrim_idle (h : s.on Reg.timStatusValid = false ∨ atWholeSecond s = false) : exec .bkdTrim s = .next s := by
  change execBkdTrim s = _
  rw [execBkdTrim, if_pos (by rcases h with h | h <;> simp [h])]

section Trim
variable (s : State)

theorem recordPhase_mem (us : Int) : (recordPhase us s).mem = s.mem := by
  unfold recordPhase
  split
  · exact State.setInt_mem ..
  · rw [State.took_mem, State.set_mem]

theorem get_recordPhase (us : Int) {g : Fld} (h : Reg.bkdTrimPhaseErrUs.apart g = true) :
    (recordPhase us s).get g = s.get g := by
  unfold recordPhase
  split
  · exact State.get_set_apart _ _ _ _ rfl h
  · rw [State.get_took, State.get_set_apart _ _ _ _ rfl h]

theorem trimCount_mem (moved : Int) : (trimCount moved s).mem = s.mem := by
  unfold trimCount
  extract_lets bkd s1 r r'
  split
  · exact State.setInt_mem ..
  · rfl

theorem get_trimCount (moved : Int) {g : Fld} (h : Reg.bkdTrimRate.apart g = true) : (trimCount moved s).get g = s.get g := by
  unfold trimCount
  extract_lets bkd s1 r r'
  have h1 : s1.get g = s.get g := State.get_congr s1 s rfl g
  split
  · rw [State.setInt, State.get_set_apart _ _ _ _ rfl h, State.get_mk, h1]
  · exact h1

end Trim

/-- The fields of TIME and of the backup counter. -/
def countFields : List Fld := [Reg.timNowNsNs, Reg.timNowSecLoSecLo, Reg.timNowSecHiSecHi]

theorem now_congr {s t : State} (h : ∀ g ∈ countFields, t.get g = s.get g) : t.now = s.now := by
  simp only [State.now, State.seconds, h _ (by decide : Reg.timNowNsNs ∈ countFields),
    h _ (by decide : Reg.timNowSecLoSecLo ∈ countFields), h _ (by decide : Reg.timNowSecHiSecHi ∈ countFields)]

/-- What the trim leaves beside the counter. -/
def Fld.offTrim (g : Fld) : Bool :=
  Reg.bkdTrimPhaseErrUs.apart g && Reg.bkdTrimRate.apart g && Ev.bkdTrimStep.apart g &&
    Reg.bkdStatusTimeLost.apart g && Reg.bkdStatusTrimmed.apart g

theorem ticksNear_lt {n : Nat} (h : n + 1000000000 < 2 ^ 48 * 1000000000) : ticksNear n < 2 ^ 48 * 32768 := by
  unfold ticksNear nsPerS
  omega

theorem leads_bkdTrim (hvalid : s.on Reg.timStatusValid = true) (hwhole : atWholeSecond s = true)
    (hfar : s.now + 1000000000 < 2 ^ 48 * 1000000000) :
    leads .bkdTrim s (fun t => memKept s t ∧
      t.on Reg.bkdStatusTimeLost = false ∧ t.on Reg.bkdStatusTrimmed = true ∧ t.now = s.now ∧
      t.bkdTicks = (if ((((s.bkdNs : Int) - s.wholeSecond) / 1000).natAbs < 16) then s.bkdTicks
        else ticksNear s.wholeSecond)) := by
  obtain ⟨err, herr⟩ : ∃ err : Int, err = ((s.bkdNs : Int) - s.wholeSecond) / 1000 := ⟨_, rfl⟩
  obtain ⟨new, hnew⟩ : ∃ new, new = if err.natAbs < 16 then s.bkdTicks else ticksNear s.wholeSecond := ⟨_, rfl⟩
  have hlt : new < 2 ^ 48 * 32768 := by
    have hsecond : s.wholeSecond ≤ s.now := Nat.div_mul_le_self ..
    have hold := bkdTicks_lt s
    have hnear := ticksNear_lt (n := s.wholeSecond) (by omega)
    rw [hnew]
    split <;> assumption
  obtain ⟨hmem, hticks, hmoved⟩ := bkdMove_shows hlt (recordPhase err s)
  obtain ⟨b, hexec⟩ : ∃ b, exec .bkdTrim s = .next (((((trimCount ((new : Int) - s.bkdTicks)
      { bkdMove new (recordPhase err s) with bkd := b }).raiseIf (s.bkdTicks / 32768 != new / 32768 ||
        1 < ((new : Int) - s.bkdTicks).natAbs) Ev.bkdTrimStep)).setBit Reg.bkdStatusTimeLost false).setBit
          Reg.bkdStatusTrimmed true) := by
    refine ⟨{ (recordPhase err s).bkd with
      trimAt := (recordPhase err s).mono + 1
      phase := if (new : Int) - s.bkdTicks = 0 then (recordPhase err s).bkd.phase else 0 }, ?_⟩
    subst hnew herr
    change execBkdTrim s = _
    rw [execBkdTrim, if_neg (by simp [hvalid, hwhole])]
  obtain ⟨u, hu⟩ : ∃ u : State, u = { bkdMove new (recordPhase err s) with bkd := b } := ⟨_, rfl⟩
  rw [← hu] at hexec
  have huregs : u.regs = (bkdMove new (recordPhase err s)).regs := by rw [hu]
  have humem : u.mem = (bkdMove new (recordPhase err s)).mem := by rw [hu]
  have hget {g : Fld} (hg : g.offTrim = true) :
      ((((trimCount ((new : Int) - s.bkdTicks) u).raiseIf (s.bkdTicks / 32768 != new / 32768 ||
        1 < ((new : Int) - s.bkdTicks).natAbs) Ev.bkdTrimStep).setBit Reg.bkdStatusTimeLost false).setBit
          Reg.bkdStatusTrimmed true).get g = (bkdMove new (recordPhase err s)).get g := by
    simp only [Fld.offTrim, Bool.and_eq_true] at hg
    obtain ⟨⟨⟨⟨-, hrate⟩, hstep⟩, hlost⟩, htrimmed⟩ := hg
    rw [State.setBit, State.get_set_apart _ _ _ _ rfl htrimmed, State.setBit, State.get_set_apart _ _ _ _ rfl hlost,
      State.get_raiseIf_apart _ _ _ _ hstep, get_trimCount _ _ hrate, State.get_congr _ _ huregs]
  refine ⟨_, hexec, memKept_of_mem ?_, ?_, State.on_setBit_self _ _ _ (by decide), now_congr fun g hg => ?_, ?_⟩
  · rw [State.setBit_mem, State.setBit_mem, State.raiseIf_mem, trimCount_mem, humem, hmem, recordPhase_mem]
  · rw [State.on_setBit_off _ _ _ _ (by decide), State.on_setBit_self _ _ _ (by decide)]
  · have hoff : g.offTrim = true ∧ g.offAlarm = true ∧ tickFields.all (·.apart g) = true :=
      (by decide : ∀ g ∈ countFields, g.offTrim = true ∧ g.offAlarm = true ∧ tickFields.all (·.apart g) = true) g hg
    obtain ⟨htrim, halarm, hcount⟩ := hoff
    have hphase : Reg.bkdTrimPhaseErrUs.apart g = true := by
      simp only [Fld.offTrim, Bool.and_eq_true] at htrim
      exact htrim.1.1.1.1
    rw [hget htrim, hmoved g halarm hcount, get_recordPhase _ _ hphase]
  · rw [← herr, ← hnew]
    refine (bkdTicks_congr fun g hg => ?_).2.trans hticks
    exact hget (List.all_eq_true.mp (by decide : tickFields.all Fld.offTrim = true) g hg)

/-! ### Writes of the alarm and the weekday (R503, R504) -/

/-- The registers of the alarm after a write of its upper half. -/
def alarmSet (v : Nat) (s : State) : State :=
  ((s.set Reg.bkdAlarmHiAlarmHi v).setBit Reg.bkdAlarmHiWake (bitOf v 30)).setBit Reg.bkdAlarmHiArm (bitOf v 31)

theorem alarmSet_shows (v : Nat) (s : State) :
    (alarmSet v s).mem = s.mem ∧ (alarmSet v s).bkdAlarm = v % 65536 * 2 ^ 32 + s.get Reg.bkdAlarmLoAlarmLo ∧
      (alarmSet v s).on Reg.bkdAlarmHiArm = bitOf v 31 ∧ (alarmSet v s).on Reg.bkdAlarmHiWake = bitOf v 30 ∧
      (alarmSet v s).bkdTicks = s.bkdTicks := by
  refine ⟨?_, ?_, ?_, ?_, ?_⟩
  · simp -implicitDefEqProofs [alarmSet]
  · simp -implicitDefEqProofs (disch := decide) [alarmSet, State.bkdAlarm]
    rfl
  · simp -implicitDefEqProofs (disch := decide) [alarmSet]
  · simp -implicitDefEqProofs (disch := decide) [alarmSet]
  · simp -implicitDefEqProofs (disch := decide) [alarmSet, State.bkdTicks, State.bkdSeconds]

theorem exec_bkdAlarmHiWrite (v : Nat) (s : State) : exec (.bkdAlarmHiWrite v) s =
    .next (if bitOf v 31 && (alarmSet v s).bkdAlarm * 32768 ≤ (alarmSet v s).bkdTicks then fireAlarm true (alarmSet v s)
      else alarmSet v s) := by
  change execBkdAlarmHiWrite v s = _
  rw [execBkdAlarmHiWrite, writeAlarmHi, alarmSet]

theorem bkdAlarm_fireAlarm (b : Bool) (s : State) : (fireAlarm b s).bkdAlarm = s.bkdAlarm := by
  rw [State.bkdAlarm, get_fireAlarm _ _ (by decide), get_fireAlarm _ _ (by decide), State.bkdAlarm]

theorem leads_bkdAlarmHiWrite {v a : Nat} (ha : a = v % 65536 * 2 ^ 32 + s.get Reg.bkdAlarmLoAlarmLo) :
    (bitOf v 31 = true → a * 32768 ≤ s.bkdTicks → leads (.bkdAlarmHiWrite v) s (fun t => memKept s t ∧
      t.on Ev.bkdAlarm.flag = true ∧ t.on Ev.bkdSkipped.flag = true ∧ t.on Reg.bkdAlarmHiArm = false ∧
      t.bkdAlarm = a)) ∧
    (bitOf v 31 = false ∨ s.bkdTicks < a * 32768 → leads (.bkdAlarmHiWrite v) s (fun t => memKept s t ∧
      t.bkdAlarm = a ∧ t.on Reg.bkdAlarmHiArm = bitOf v 31 ∧ t.on Reg.bkdAlarmHiWake = bitOf v 30)) := by
  obtain ⟨hmem, halarm, harm, hwake, hticks⟩ := alarmSet_shows v s
  rw [← ha] at halarm
  have hexec := exec_bkdAlarmHiWrite v s
  rw [halarm, hticks] at hexec
  refine ⟨fun hset hpast => ⟨_, hexec, ?_⟩, fun hnot => ⟨_, hexec, ?_⟩⟩
  · rw [if_pos (by simp [hset, hpast])]
    obtain ⟨hflag, hskipped, hdone⟩ := fireAlarm_flags true (alarmSet v s)
    exact ⟨memKept_of_mem ((fireAlarm_mem ..).trans hmem), hflag, hskipped rfl, hdone, (bkdAlarm_fireAlarm ..).trans halarm⟩
  · rw [if_neg (by
      rw [Bool.and_eq_true, decide_eq_true_eq]
      rintro ⟨hset, hpast⟩
      rcases hnot with h | h
      · rw [hset] at h
        exact absurd h (by decide)
      · omega)]
    exact ⟨memKept_of_mem hmem, halarm, harm, hwake⟩

theorem leads_bkdAlarmLoWrite (v : Nat) :
    leads (.bkdAlarmLoWrite v) s (fun t => memKept s t ∧ t.get Reg.bkdAlarmLoAlarmLo = v % 2 ^ 32 ∧
      t.on Reg.bkdAlarmHiArm = false) := by
  refine ⟨_, rfl, memKept_of_mem ((State.setBit_mem ..).trans (State.set_mem ..)), ?_, State.on_setBit_self _ _ _ (by decide)⟩
  rw [writeAlarmLo, State.get_setBit_off _ _ _ _ (by decide), State.get_set_same _ _ _ rfl]
  rfl

theorem leads_bkdWdWrite (v : Nat) :
    leads (.bkdWdWrite v) s (fun t => memKept s t ∧ t.get Reg.bkdWdWd = v % 8 ∧ t.get Reg.bkdWdWdOffset =
      (if v / 8 % 131072 ≤ 86399 then v / 8 % 131072 else s.get Reg.bkdWdWdOffset)) := by
  have hwd : (s.set Reg.bkdWdWd v).get Reg.bkdWdWd = v % 8 := State.get_set_same _ _ _ rfl
  refine ⟨_, rfl, ?_⟩
  unfold writeWd
  extract_lets s1 o
  split
  next ho =>
    have hset : (s1.set Reg.bkdWdWdOffset o).get Reg.bkdWdWdOffset = o :=
      (State.get_set_same _ _ _ rfl).trans (Nat.mod_eq_of_lt (by simp only [Reg.bkdWdWdOffset]; omega))
    exact ⟨memKept_of_mem ((State.set_mem ..).trans (State.set_mem ..)), (State.get_set_off _ _ _ _ (by decide)).trans hwd, hset⟩
  next ho =>
    exact ⟨memKept_of_mem (State.set_mem ..), hwd, State.get_set_off _ _ _ _ (by decide)⟩

/-! ### Park and the thermal restart (R506, R507) -/

theorem leads_park_refused (h : s.held = true) :
    leads .park s (fun t => memKept s t ∧ t.on Ev.bkdParkRefused.flag = true ∧
      t.get Reg.bkdPwrState = s.get Reg.bkdPwrState) := by
  have hexec : exec .park s = .next (s.raise Ev.bkdParkRefused) := by
    change execPark s = _
    rw [execPark, writePark, if_pos h]
  exact ⟨_, hexec, memKept_of_mem (State.raise_mem ..), State.on_raise_self _ _ (by decide),
    State.get_raise_off _ _ _ (by decide)⟩

theorem leads_park (h : s.held = false) (hon : s.get Reg.bkdPwrState = 0) :
    leads .park s (fun t => memKept s t ∧ t.get Reg.bkdPwrState = 1 ∧
      t.on Reg.bkdStatusParkPending = true ∧ t.nvs.unflushed = 0) := by
  obtain ⟨b, hexec⟩ : ∃ b, exec .park s = .next (writeBackup 2 [1#8] (flushNand
      { (s.set Reg.bkdPwrState 1).setBit Reg.bkdStatusParkPending true with bkd := b })) := by
    refine ⟨{ ((s.set Reg.bkdPwrState 1).setBit Reg.bkdStatusParkPending true).bkd with
      parkAt := ((s.set Reg.bkdPwrState 1).setBit Reg.bkdStatusParkPending true).mono }, ?_⟩
    change execPark s = _
    rw [execPark, writePark, if_neg (by simp [h]), if_pos hon]
  obtain ⟨w, hw⟩ : ∃ w : State, w = { (s.set Reg.bkdPwrState 1).setBit Reg.bkdStatusParkPending true with bkd := b } := ⟨_, rfl⟩
  rw [← hw] at hexec
  have hmem : w.mem = s.mem := by rw [hw, State.setBit_mem, State.set_mem]
  have hregs : w.regs = ((s.set Reg.bkdPwrState 1).setBit Reg.bkdStatusParkPending true).regs := by rw [hw]
  have hlasts : w.Lasts (writeBackup 2 [1#8] (flushNand w)) := .writeBackup (.flushNand (.refl w))
  refine ⟨_, hexec, memKept_of_mem (hlasts.mem.trans hmem), ?_, ?_, ?_⟩
  · rw [hlasts.get, State.get_congr _ _ hregs, State.get_setBit_off _ _ _ _ (by decide), State.get_set_same _ _ _ rfl]
    rfl
  · rw [hlasts.on, State.on_congr (State.get_congr _ _ hregs _), State.on_setBit_self _ _ _ (by decide)]
  · rw [writeBackup, putBackup_nvs, flushNand_unflushed]

theorem leads_parkTimeout (hpend : s.get Reg.bkdPwrState = 1) (hdue : s.bkd.parkAt + 2000000000 ≤ s.mono) :
    leads .parkTimeout s (fun t => memKept s t ∧ t.get Reg.bkdPwrState = 2 ∧
      t.get Reg.bkdPwrLastOff = 1 ∧ t.on Reg.bkdStatusParkPending = false ∧ t.held = false ∧ t.fio.drive = .off) := by
  obtain ⟨w, hw⟩ : ∃ w, w = (s.set Reg.bkdPwrState 2).set Reg.bkdPwrLastOff 1 := ⟨_, rfl⟩
  have hexec : exec .parkTimeout s = .next (convOff w) := by
    change execParkTimeout s = _
    have hdue' : s.bkd.parkAt + 2 * nsPerS ≤ s.mono := hdue
    rw [execParkTimeout, if_pos (by simp [hpend, hdue']), hw]
  obtain ⟨hheld, hdrive, hpark⟩ := convOff_off w
  refine ⟨_, hexec, memKept_of_mem ((convOff_stands w).mem.trans ?_), (get_convOff w).trans ?_, (get_convOff w).trans ?_,
    hpark, hheld, hdrive⟩
  · rw [hw, State.setBit_mem, State.set_mem, State.set_mem]
  · rw [hw, State.get_set_off _ _ _ _ (by decide), State.get_set_same _ _ _ rfl]
    rfl
  · rw [hw, State.get_set_same _ _ _ rfl]
    rfl

theorem exec_parkTimeout_idle (h : s.get Reg.bkdPwrState ≠ 1 ∨ s.mono < s.bkd.parkAt + 2000000000) :
    exec .parkTimeout s = .next s := by
  have hnot : ¬(s.get Reg.bkdPwrState = 1 ∧ s.bkd.parkAt + 2 * nsPerS ≤ s.mono) := by
    unfold nsPerS
    omega
  change execParkTimeout s = _
  rw [execParkTimeout, if_neg (by simpa using hnot)]

theorem leads_thermalRestart (hoff : s.get Reg.bkdPwrState = 3) (hmay : s.on Reg.bkdPwrThermRestart = true)
    (hfew : thermalRestarts s < 3) :
    leads .thermalRestart s (fun t => memKept s t ∧ t.get Reg.bkdPwrState = 0 ∧
      t.get Reg.bkdPwrWakeCause = 3 ∧ t.get Reg.bkdPwrThermCnt = thermalRestarts s + 1 ∧
      leAt t.backup 28 4 = s.bkdSeconds % 2 ^ 32) := by
  obtain ⟨new, hnew⟩ : ∃ new, new = leBytes 4 s.bkdSeconds ++ (s.backup.drop 28).take 8 := ⟨_, rfl⟩
  have hlen : new.length = 12 := by
    rw [hnew, List.length_append, leBytes_length, List.length_take, List.length_drop, backup_length]
    rfl
  obtain ⟨w, hw⟩ : ∃ w, w = writeBackup 28 new s := ⟨_, rfl⟩
  have hexec : exec .thermalRestart s = .next (((w.set Reg.bkdPwrState 0).set Reg.bkdPwrWakeCause 3).set Reg.bkdPwrThermCnt
      (thermalRestarts s + 1)) := by
    change execThermalRestart s = _
    rw [execThermalRestart, if_pos (by simp [hoff, hmay, hfew]), hw, hnew]
  have hlasts : s.Lasts w := hw ▸ .writeBackup (.refl s)
  have hbytes : w.backup = patch s.backup 28 new := by rw [hw, backup_writeBackup]
  have hsecs : leAt w.backup 28 4 = s.bkdSeconds % 2 ^ 32 := by
    have htake : leAt (patch s.backup 28 new) 28 4 = leNat (new.take 4) := by
      have hin : (patch s.backup 28 new).drop 28 = new ++ s.backup.drop 40 := by
        rw [patch, List.drop_take, List.append_assoc, List.drop_append_of_le_length (by
          rw [List.length_take, backup_length]; decide), List.drop_eq_nil_of_le (by rw [List.length_take]; omega),
          List.nil_append, hlen, backup_length, List.take_of_length_le (by
            rw [List.length_append, hlen, List.length_drop, backup_length])]
      rw [leAt, hin, List.take_append_of_le_length (by omega)]
    rw [hbytes, htake, hnew, List.take_left' (leBytes_length ..), leNat_leBytes]
    rfl
  refine ⟨_, hexec, memKept_of_mem ?_, ?_, ?_, ?_, ?_⟩
  · rw [State.set_mem, State.set_mem, State.set_mem, hlasts.mem]
  · rw [State.get_set_off _ _ _ _ (by decide), State.get_set_off _ _ _ _ (by decide), State.get_set_same _ _ _ rfl]
    rfl
  · rw [State.get_set_off _ _ _ _ (by decide), State.get_set_same _ _ _ rfl]
    rfl
  · rw [State.get_set_same _ _ _ rfl]
    exact Nat.mod_eq_of_lt (by simp only [Reg.bkdPwrThermCnt]; omega)
  · rw [← hsecs]
    congr 1
    rw [State.backup, State.backup]
    refine List.flatMap_congr fun n _ => ?_
    have haddr : (0xE002C : Nat) ≠ (Reg.bkdBytesWord n).addr := by
      simp only [Reg.bkdBytesWord]
      omega
    rw [State.get_set_apart _ _ _ _ rfl (Fld.apart_of_addr haddr), State.get_set_apart _ _ _ _ rfl (Fld.apart_of_addr haddr),
      State.get_set_apart _ _ _ _ rfl (Fld.apart_of_addr haddr)]

theorem exec_thermalRestart_idle (h : 3 ≤ thermalRestarts s) : exec .thermalRestart s = .next s := by
  change execThermalRestart s = _
  rw [execThermalRestart]
  exact congrArg Host.Outcome.next (if_neg (by
    simp only [Bool.and_eq_true, decide_eq_true_eq]
    omega))

end Sys2Proof.Machine
end

section
/-! PROOF. The backup domain (18): the backup bytes, the supply, and the power-on. -/

namespace Sys2Proof.Machine

variable {s : State}

/-! ### The backup bytes (R508) -/

theorem crc_putBackup (bs : List Byte) (s : State) :
    (putBackup bs s).get Reg.bkdBytesCrcCrc = Config.backupCrc bs % 2 ^ 32 := State.get_set_same _ _ _ rfl

theorem leads_bkdBytesWrite (off : Nat) (d : List Byte) :
    leads (.bkdBytesWrite off d) s (fun t => memKept s t ∧ t.backup = patch s.backup off d ∧
      t.get Reg.bkdBytesCrcCrc = Config.backupCrc (patch s.backup off d) % 2 ^ 32) :=
  ⟨_, rfl, memKept_of_mem (State.Lasts.writeBackup (State.Lasts.refl s)).mem, backup_writeBackup .., crc_putBackup ..⟩

theorem leads_bkdBytesInit :
    leads .bkdBytesInit s (fun t => memKept s t ∧ t.backup = zeros 64 ∧ t.on Reg.bkdStatusBytesOk = true) := by
  obtain ⟨w, hw, hexec⟩ : ∃ w : State, w.mem = s.mem ∧
      exec .bkdBytesInit s = .next ((putBackup (zeros 64) w).setBit Reg.bkdStatusBytesOk true) :=
    ⟨{ s with bkd := { s.bkd with dipped := false } }, rfl, rfl⟩
  have hlasts : w.Lasts (putBackup (zeros 64) w) := .putBackup (.refl w)
  refine ⟨_, hexec, memKept_of_mem ((State.setBit_mem ..).trans (hlasts.mem.trans hw)), ?_, State.on_setBit_self _ _ _ (by decide)⟩
  refine Eq.trans ?_ (backup_putBackup (bs := zeros 64) rfl w)
  rw [State.backup, State.backup]
  refine List.flatMap_congr fun n _ => ?_
  have haddr : Reg.bkdStatusBytesOk.addr ≠ (Reg.bkdBytesWord n).addr := by
    simp only [Reg.bkdBytesWord, Reg.bkdStatusBytesOk]
    omega
  rw [State.setBit, State.get_set_apart _ _ _ _ rfl (Fld.apart_of_addr haddr)]

/-! ### The supply (R509-R512) -/

theorem leads_supplyChange (a b c : Nat) :
    leads (.supplyChange a b c) s (fun t => memKept s t ∧
      t.get Reg.bkdStatusSupply = (if 2900 ≤ a then 0 else if 2400 ≤ b then 1 else 2) ∧
      (t.get Reg.bkdStatusSupply ≠ s.get Reg.bkdStatusSupply → t.on Ev.bkdSupplyChange.flag = true)) := by
  obtain ⟨src, hsrc⟩ : ∃ src, src = if 2900 ≤ a then 0 else if 2400 ≤ b then 1 else 2 := ⟨_, rfl⟩
  have hlt : src < 4 := by
    rw [hsrc]
    split_ifs <;> decide
  obtain ⟨t, ht⟩ : ∃ t, t = (((s.set Reg.bkdSupplyCellMv c).set Reg.bkdSupplyBkupMv b).set Reg.bkdStatusSupply src).raiseIf
    (src != s.get Reg.bkdStatusSupply) Ev.bkdSupplyChange := ⟨_, rfl⟩
  have hexec : exec (.supplyChange a b c) s = .next t := by rw [ht, hsrc]; rfl
  have hnow : t.get Reg.bkdStatusSupply = src := by
    rw [ht, State.get_raiseIf_off _ _ _ _ (by decide), State.get_set_same _ _ _ rfl]
    exact Nat.mod_eq_of_lt hlt
  refine ⟨t, hexec, memKept_of_mem ?_, hnow.trans hsrc, fun hother => ?_⟩
  · rw [ht, State.raiseIf_mem, State.set_mem, State.set_mem, State.set_mem]
  · rw [hnow] at hother
    rw [ht]
    exact State.on_raiseIf_self _ _ (by simpa using hother) (by decide)

theorem leads_bkdDip :
    leads .bkdDip s (fun t => memKept s t ∧ t.on Reg.bkdStatusTimeLost = true ∧ t.on Reg.bkdStatusBytesOk = false ∧
      t.on Ev.bkdTimeLost.flag = true) := by
  obtain ⟨w, hw, hexec⟩ : ∃ w : State, w.mem = s.mem ∧ exec .bkdDip s =
      .next (((w.setBit Reg.bkdStatusTimeLost true).setBit Reg.bkdStatusBytesOk false).raise Ev.bkdTimeLost) :=
    ⟨{ s with bkd := { s.bkd with dipped := true } }, rfl, rfl⟩
  refine ⟨_, hexec, memKept_of_mem ?_, ?_, ?_, State.on_raise_self _ _ (by decide)⟩
  · rw [State.raise_mem, State.setBit_mem, State.setBit_mem, hw]
  · rw [State.on_raise_off _ _ _ (by decide), State.on_setBit_off _ _ _ _ (by decide), State.on_setBit_self _ _ _ (by decide)]
  · rw [State.on_raise_off _ _ _ (by decide), State.on_setBit_self _ _ _ (by decide)]

theorem leads_cellLow (hcell : s.get Reg.bkdStatusSupply = 2) (hlow : s.get Reg.bkdSupplyCellMv < 2200) :
    leads .cellLow s (fun t => memKept s t ∧ t.on Ev.bkdCellLow.flag = true) :=
  ⟨_, rfl, memKept_of_mem (State.raiseIf_mem ..), State.on_raiseIf_self _ _ (by simp [hcell, hlow]) (by decide)⟩

theorem exec_cellLow_idle (h : s.get Reg.bkdStatusSupply ≠ 2 ∨ 2200 ≤ s.get Reg.bkdSupplyCellMv) :
    exec .cellLow s = .next s := by
  change execCellLow s = _
  have hnot : ¬(s.get Reg.bkdStatusSupply = 2 ∧ s.get Reg.bkdSupplyCellMv < 2200) := by omega
  rw [execCellLow, State.raiseIf, if_neg (by simpa using hnot)]

/-! ### The power-on of the backup domain (R498, R499) -/

/-- A register outside the block reads as before, one of the block its Reset column. -/
theorem reg_resetBlock (b a : Nat) (s : State) :
    (resetBlock b s).reg a = if a / 0x10000 = b then resetWord a else s.reg a := by
  unfold resetBlock State.reg
  dsimp only
  induction s.regs with
  | nil => simp [kvGet]
  | cons p l ih =>
    obtain ⟨k, w⟩ := p
    by_cases hk : k / 0x10000 = b
    · rw [List.filter_cons_of_neg (by simp [hk]), ih]
      split
      · rfl
      next ha => rw [kvGet, if_neg (by rintro rfl; exact ha hk)]
    · rw [List.filter_cons_of_pos (by simp [hk]), kvGet, kvGet]
      split
      next hka =>
        subst hka
        rw [if_neg hk]
      next => exact ih

theorem leads_bkdPowerOn :
    leads .bkdPowerOn s (fun t => memKept s t ∧ t.bkdTicks = 0 ∧ t.on Reg.bkdStatusTimeLost = true ∧
      ∀ a, a / 0x10000 ≠ 14 → t.reg a = s.reg a) := by
  obtain ⟨t, hmem, hregs, hexec⟩ : ∃ t : State, t.mem = s.mem ∧ t.regs = (resetBlock 14 s).regs ∧
      exec .bkdPowerOn s = .next t := ⟨{ resetBlock 14 s with bkd := {} }, rfl, rfl, rfl⟩
  have hreg (a : Nat) : t.reg a = if a / 0x10000 = 14 then resetWord a else s.reg a :=
    (State.reg_congr _ _ hregs a).trans (reg_resetBlock 14 a s)
  have hget {f : Fld} (hf : f.addr / 0x10000 = 14) : t.get f = fieldOf (resetWord f.addr) f.hi f.lo := by
    rw [State.get, hreg, if_pos hf]
  refine ⟨t, hexec, memKept_of_mem hmem, ?_, ?_, fun a ha => (hreg a).trans (if_neg ha)⟩
  · rw [State.bkdTicks, State.bkdSeconds, hget (by decide), hget (by decide), hget (by decide)]
    decide
  · rw [State.on, hget (by decide)]
    decide

/-- Settles O49: each command by what it does to the counter, the alarm, park, the bytes or the supply. -/
theorem theBackupDomain : Obligations.TheBackupDomain := by
  unfold Obligations.TheBackupDomain
  intro s
  exact ⟨exec_bkdTrim_idle, leads_bkdTrim, leads_bkdAlarmFire, exec_bkdAlarmFire_idle, leads_weekdayAdvance,
    fun v a ha => leads_bkdAlarmHiWrite ha, leads_bkdAlarmLoWrite, leads_bkdWdWrite, leads_park_refused, leads_park,
    leads_parkTimeout, exec_parkTimeout_idle, fun hoff hmay => ⟨leads_thermalRestart hoff hmay, exec_thermalRestart_idle⟩,
    leads_bkdBytesWrite, leads_bkdBytesInit, leads_supplyChange, leads_bkdDip, leads_cellLow, exec_cellLow_idle,
    leads_bkdPowerOn⟩

end Sys2Proof.Machine
end

section
/-! SUPPORT. The boot control record, the update lock, and the ends of a trial (16 R451, R458-R463). -/

namespace Sys2Proof.Machine

variable {s : State}

/-! ### Writes of NAND leave the rest -/

theorem nandPut_eq (p l : Nat) (d : List Byte) (s : State) : ∃ n, nandPut p l d s = { s with nvs := n } := by
  unfold nandPut
  split
  · exact ⟨s.nvs, rfl⟩
  · exact ⟨_, rfl⟩

theorem nandBoot_eq (off : Nat) (d : List Byte) (s : State) : ∃ n, nandBoot off d s = { s with nvs := n } := by
  obtain ⟨n, hn⟩ := nandPut_eq 0 (off / nandPageBytes) d s
  obtain ⟨m, hm⟩ := nandPut_eq 1 (off / nandPageBytes) d { s with nvs := n }
  exact ⟨m, by rw [nandBoot, hn, hm]⟩

theorem saveRetain_eq (s : State) : ∃ n, saveRetain s = { s with nvs := n } := by
  unfold saveRetain
  split
  · exact ⟨s.nvs, rfl⟩
  · exact ⟨_, rfl⟩

/-- The record after a change of the boot control record. -/
def recorded (f : SecSt → SecSt) (k : SecSt) : SecSt := { f k with recSeq := (k.recSeq + 1) % 2 ^ 32 }

/-- The boot control record changes the part of boot and update, and what stands in NAND. -/
theorem writeRecord_eq (f : SecSt → SecSt) (s : State) :
    ∃ n, writeRecord f s = { s with sec := recorded f s.sec, nvs := n } := by
  obtain ⟨n, hn⟩ := nandBoot_eq 0 (recordBytes (recorded f s.sec)) { s with sec := recorded f s.sec }
  obtain ⟨m, hm⟩ := nandBoot_eq 0x80000 (recordBytes (recorded f s.sec)) { s with sec := recorded f s.sec, nvs := n }
  refine ⟨m, ?_⟩
  rw [← hm]
  change nandBoot 0x80000 _ (nandBoot 0 (recordBytes (recorded f s.sec)) { s with sec := recorded f s.sec }) = _
  rw [hn]
  rfl

/-! ### The slots (R451) -/

theorem slot_slotState_same {i : Nat} (st : Nat) {k : SecSt} (h : i < k.slots.length) :
    (slotState i st k).slots.getD i {} = { k.slots.getD i {} with state := st } := getD_listSet_same h _ _

theorem slot_slotState_other {i j : Nat} (st : Nat) (k : SecSt) (h : j ≠ i) :
    (slotState i st k).slots.getD j {} = k.slots.getD j {} := getD_listSet_other _ h _ _

theorem slots_slotState_length (i st : Nat) (k : SecSt) : (slotState i st k).slots.length = k.slots.length := by
  rw [slotState, listSet_eq_modify, List.length_modify]

/-! ### The update lock (R463) -/

/-- The lock is free; memory and every lasting register beside LOCK are as they were. -/
theorem freeLock_shows (s : State) :
    (freeLock s).mem = s.mem ∧ (freeLock s).sec = { s.sec with lock := none } ∧
      ∀ g : Fld, lasting g.addr = true → Reg.secStatusLock.apart g = true → (freeLock s).get g = s.get g := by
  unfold freeLock
  split
  next h =>
    refine ⟨rfl, ?_, fun _ _ _ => rfl⟩
    rw [← Option.isNone_iff_eq_none.mp h]
  next =>
    obtain ⟨w, hw⟩ : ∃ w, w = (s.updSec (fun k => { k with lock := none })).setBit Reg.secStatusLock false := ⟨_, rfl⟩
    have hlasts : w.Lasts (forwardTo 13 [] w) := .toPeers (.refl w)
    rw [← hw]
    refine ⟨hlasts.mem.trans ?_, hlasts.sec.trans ?_, fun g hg hoff => (hlasts.get hg).trans ?_⟩
    · rw [hw, State.setBit_mem, State.updSec_mem]
    · rw [hw, State.setBit_sec, State.updSec_sec]
    · rw [hw, State.setBit, State.get_set_apart _ _ _ _ rfl hoff]
      rfl

theorem dropUpdate_shows (s : State) :
    (dropUpdate s).mem = s.mem ∧ (dropUpdate s).sec = { s.sec with upd := updIdle, recv := [], total := 0, lock := none } := by
  obtain ⟨hmem, hsec, -⟩ := freeLock_shows (s.updSec (fun k => { k with upd := updIdle, recv := [], total := 0 }))
  exact ⟨hmem, hsec⟩

/-! ### A trial is confirmed (R452, R458) -/

/-- The record of a trial that is confirmed. -/
def confirmed (s : State) : SecSt :=
  recorded (fun k => slotState (1 - s.sec.active)
    (if (s.slot (1 - s.sec.active)).state = slotConfirmed then slotValid else (s.slot (1 - s.sec.active)).state)
    (slotState s.sec.active slotConfirmed k)) s.sec

/-- The trial's slot is CONFIRMED, as the same bundle. -/
theorem confirmed_slot {s : State} (ha : s.sec.active < 2) (hlen : s.sec.slots.length = 2) :
    (confirmed s).slots.getD s.sec.active {} = { s.slot s.sec.active with state := slotConfirmed } := by
  have hother : s.sec.active ≠ 1 - s.sec.active := by omega
  refine (slot_slotState_other _ _ hother).trans (slot_slotState_same _ ?_)
  omega

/-- A trial that is confirmed: its state before the lock is freed. -/
theorem confirmTrial_steps (s : State) (ha : s.sec.active < 2) (hlen : s.sec.slots.length = 2) :
    ∃ w, confirmTrial s = (if w.sec.groupStep = 0 then freeLock w else w) ∧ w.mem = s.mem ∧
      w.sec = { confirmed s with upd := updConfirmed, changes := [], excess := 0 } ∧
      w.on Ev.secConfirmed.flag = true ∧ w.on Reg.secStatusTrial = false ∧
      ((s.slot s.sec.active).secver < 256 →
        w.get Reg.secStatusCounter = max (s.get Reg.secStatusCounter) (s.slot s.sec.active).secver) := by
  obtain ⟨n, hn⟩ := writeRecord_eq (fun k => slotState (1 - s.sec.active)
    (if (s.slot (1 - s.sec.active)).state = slotConfirmed then slotValid else (s.slot (1 - s.sec.active)).state)
    (slotState s.sec.active slotConfirmed k)) s
  unfold confirmTrial
  extract_lets a was s1 v s2 s3 cfg nvs s4 s5 s6 s7
  have hs1 : s1.sec = confirmed s ∧ s1.mem = s.mem ∧ s1.regs = s.regs := by
    rw [show s1 = _ from hn]
    exact ⟨rfl, rfl, rfl⟩
  obtain ⟨hsec1, hmem1, hregs1⟩ := hs1
  have hv : v = (s.slot s.sec.active).secver := by
    have hslot := confirmed_slot ha hlen
    change (s1.sec.slots.getD s.sec.active {}).secver = _
    rw [hsec1, hslot]
  have h2 : (s1.maxTo Reg.secStatusCounter v).Lasts s2 := .writeBackup (.refl _)
  have hsec2 : s2.sec = confirmed s := by
    rw [h2.sec, ← hsec1, State.maxTo]
    split
    · exact State.set_sec ..
    · rfl
  have h4 : s4.mem = s2.mem ∧ s4.sec = { s2.sec with upd := updConfirmed, changes := [], excess := 0 } ∧ s4.regs = s2.regs := by
    refine ⟨?_, ?_, ?_⟩
    · dsimp only [s4]
      exact State.updSec_mem ..
    · dsimp only [s4]
      exact State.updSec_sec ..
    · dsimp only [s4]
      exact State.updSec_regs ..
  have h5 : s5.mem = s4.mem ∧ s5.sec = s4.sec ∧ s5.on Reg.secStatusTrial = false ∧
      s5.get Reg.secStatusCounter = s4.get Reg.secStatusCounter := by
    refine ⟨?_, ?_, ?_, ?_⟩
    · exact (State.set_mem ..).trans (State.setBit_mem ..)
    · exact (State.set_sec ..).trans (State.setBit_sec ..)
    · exact (State.on_set_off _ _ _ _ (by decide)).trans (State.on_setBit_self _ _ _ (by decide))
    · exact (State.get_set_off _ _ _ _ (by decide)).trans (State.get_setBit_off _ _ _ _ (by decide))
  have h6 : s5.Lasts s6 := .lifetimeAdd (.refl s5)
  obtain ⟨hmem5, hsec5, htrial5, hcnt5⟩ := h5
  obtain ⟨hmem4, hsec4, hregs4⟩ := h4
  refine ⟨s7, rfl, ?_, ?_, State.on_raise_self _ _ (by decide), ?_, fun hver => ?_⟩
  · calc s7.mem = s6.mem := State.raise_mem ..
      _ = s5.mem := h6.mem
      _ = s2.mem := hmem5.trans hmem4
      _ = (s1.maxTo Reg.secStatusCounter v).mem := h2.mem
      _ = s.mem := (State.maxTo_mem ..).trans hmem1
  · calc s7.sec = s6.sec := State.raise_sec ..
      _ = s5.sec := h6.sec
      _ = _ := by rw [hsec5, hsec4, hsec2]
  · exact (State.on_raise_off _ _ _ (by decide)).trans (h6.on.trans htrial5)
  · calc s7.get Reg.secStatusCounter = s6.get Reg.secStatusCounter := State.get_raise_off _ _ _ (by decide)
      _ = s4.get Reg.secStatusCounter := h6.get.trans hcnt5
      _ = s2.get Reg.secStatusCounter := State.get_congr _ _ hregs4 _
      _ = (s1.maxTo Reg.secStatusCounter v).get Reg.secStatusCounter := h2.get
      _ = max (s.get Reg.secStatusCounter) (s.slot s.sec.active).secver := by
        rw [hv, State.get_maxTo_self _ _ rfl hver, State.get_congr _ _ hregs1]

theorem confirmTrial_shows (s : State) (ha : s.sec.active < 2) (hlen : s.sec.slots.length = 2) :
    (confirmTrial s).mem = s.mem ∧ (confirmTrial s).sec.upd = updConfirmed ∧
      ((confirmTrial s).slot s.sec.active).state = slotConfirmed ∧
      (s.sec.groupStep = 0 → (confirmTrial s).sec.lock = none) ∧ (confirmTrial s).on Ev.secConfirmed.flag = true ∧
      (confirmTrial s).on Reg.secStatusTrial = false ∧
      ((s.slot s.sec.active).secver < 256 →
        (confirmTrial s).get Reg.secStatusCounter = max (s.get Reg.secStatusCounter) (s.slot s.sec.active).secver) := by
  obtain ⟨w, heq, hmem, hsec, hflag, htrial, hcnt⟩ := confirmTrial_steps s ha hlen
  have hslot : (w.slot s.sec.active).state = slotConfirmed := by
    change (w.sec.slots.getD s.sec.active {}).state = slotConfirmed
    rw [hsec]
    exact congrArg SlotSt.state (confirmed_slot ha hlen)
  have hgroup : w.sec.groupStep = s.sec.groupStep := by
    rw [hsec]
    rfl
  rw [heq, hgroup]
  split
  next =>
    obtain ⟨hfmem, hfsec, hfget⟩ := freeLock_shows w
    refine ⟨hfmem.trans hmem, by rw [hfsec, hsec], ?_, fun _ => by rw [hfsec], ?_, ?_, fun hver => ?_⟩
    · change ((freeLock w).sec.slots.getD s.sec.active {}).state = slotConfirmed
      rw [hfsec]
      exact hslot
    · exact (State.on_congr (hfget _ (by decide) (by decide))).trans hflag
    · exact (State.on_congr (hfget _ (by decide) (by decide))).trans htrial
    · exact (hfget _ (by decide) (by decide)).trans (hcnt hver)
  next hstep => exact ⟨hmem, by rw [hsec], hslot, fun h => absurd h hstep, hflag, htrial, hcnt⟩

/-! ### A trial falls back (R458) -/

theorem fallBack_shows (s : State) (ha : s.sec.active < 2) (hlen : s.sec.slots.length = 2) :
    (fallBack s).mem = s.mem ∧ (fallBack s).pair = s.pair ∧ (fallBack s).sec.upd = updFallback ∧
      (fallBack s).sec.active = 1 - s.sec.active ∧ ((fallBack s).slot s.sec.active).state = slotRejected ∧
      (fallBack s).sec.fallDue = false ∧ (fallBack s).pwr.warmDue = 2 ∧ (fallBack s).on Reg.secStatusTrial = false := by
  obtain ⟨n, hn⟩ := saveRetain_eq s
  obtain ⟨m, hm⟩ := writeRecord_eq (fun k => { (slotState s.sec.active slotRejected k) with active := 1 - s.sec.active })
    (saveRetain s)
  obtain ⟨w, hw⟩ : ∃ w : State, w = (writeRecord (fun k => { (slotState s.sec.active slotRejected k) with
    active := 1 - s.sec.active }) (saveRetain s)).updSec (fun k => { k with upd := updFallback, fallDue := false }) := ⟨_, rfl⟩
  have hsec : w.sec = { recorded (fun k => { (slotState s.sec.active slotRejected k) with active := 1 - s.sec.active }) s.sec with
      upd := updFallback, fallDue := false } := by
    rw [hw, hm, hn]
    rfl
  have hkept : w.mem = s.mem ∧ w.pair = s.pair := by
    rw [hw, hm, hn]
    exact ⟨rfl, rfl⟩
  obtain ⟨u, hu⟩ : ∃ u, u = (w.setBit Reg.secStatusTrial false).set Reg.secTrialLeftSec 0 := ⟨_, rfl⟩
  have heq : fallBack s = { u with pwr := { u.pwr with warmDue := 2 } } := by
    rw [hu, hw]
    rfl
  have husec : u.sec = w.sec := by rw [hu, State.set_sec, State.setBit_sec]
  have hslot : (w.sec.slots.getD s.sec.active {}).state = slotRejected := by
    rw [hsec]
    exact congrArg SlotSt.state (slot_slotState_same (k := s.sec) slotRejected (by omega))
  rw [heq]
  refine ⟨?_, ?_, ?_, ?_, ?_, ?_, rfl, ?_⟩
  · change u.mem = s.mem
    rw [hu, State.set_mem, State.setBit_mem, hkept.1]
  · change u.pair = s.pair
    rw [hu, State.set_pair, State.setBit_pair, hkept.2]
  · change u.sec.upd = updFallback
    rw [husec, hsec]
  · change u.sec.active = 1 - s.sec.active
    rw [husec, hsec]
    rfl
  · change (u.sec.slots.getD s.sec.active {}).state = slotRejected
    rw [husec, hslot]
  · change u.sec.fallDue = false
    rw [husec, hsec]
  · rw [State.on_mk, hu, State.on_set_off _ _ _ _ (by decide), State.on_setBit_self _ _ _ (by decide)]

end Sys2Proof.Machine
end

section
/-! PROOF. The restart into a trial, and how a trial ends (16 R458-R463). -/

namespace Sys2Proof.Machine

variable {s : State}

theorem leads_installRestart (hupd : s.sec.upd = updInstalled) (hdue : s.sec.restartDue = true) :
    leads .installRestart s (fun t => t.pwr.warmDue = 2 ∧ t.sec.restartDue = false ∧ t.regs = s.regs ∧ memKept s t) := by
  obtain ⟨n, hn⟩ := saveRetain_eq s
  refine ⟨_, congrArg Host.Outcome.next (if_pos (by rw [hupd, hdue]; rfl)), ?_⟩
  rw [hn]
  exact ⟨rfl, rfl, rfl, fun _ => rfl⟩

theorem exec_installRestart_idle (h : s.sec.restartDue = false) : exec .installRestart s = .next s := by
  refine congrArg Host.Outcome.next (if_neg ?_)
  rw [h, Bool.and_false]
  exact Bool.false_ne_true

theorem leads_trialHealthy (ha : s.sec.active < 2) (hlen : s.sec.slots.length = 2) (h : healthy s = true)
    (hgroup : s.sec.groupStep = 0) :
    (autoConfirm s = true → leads .trialHealthy s (fun t => t.sec.upd = updConfirmed ∧
      (t.slot s.sec.active).state = slotConfirmed ∧ t.sec.lock = none ∧ t.on Ev.secConfirmed.flag = true ∧ memKept s t)) ∧
    (autoConfirm s = false → exec .trialHealthy s = .next s) := by
  have hexec : exec .trialHealthy s = .next (if autoConfirm s then confirmTrial s else s) := by
    change execTrialHealthy s = _
    rw [execTrialHealthy, if_neg (by simp [h]), if_neg (by simp [hgroup])]
  obtain ⟨hmem, hupd, hslot, hlock, hflag, -, -⟩ := confirmTrial_shows s ha hlen
  refine ⟨fun hauto => ⟨_, hexec, ?_⟩, fun hauto => by rw [hexec, hauto]; rfl⟩
  rw [if_pos hauto]
  exact ⟨hupd, hslot, hlock hgroup, hflag, memKept_of_mem hmem⟩

theorem exec_trialHealthy_idle (h : healthy s = false) : exec .trialHealthy s = .next s := by
  change execTrialHealthy s = _
  rw [execTrialHealthy, if_pos (by rw [h]; rfl)]

theorem leads_trialWindowExpiry (ha : s.sec.active < 2) (hlen : s.sec.slots.length = 2) (hupd : s.sec.upd = updTrial)
    (hend : windowOpen s = false) :
    (s.held = false → leads .trialWindowExpiry s (fun t => t.sec.upd = updFallback ∧ t.sec.active = 1 - s.sec.active ∧
      (t.slot s.sec.active).state = slotRejected ∧ t.pwr.warmDue = 2 ∧ t.on Reg.secStatusTrial = false ∧ memKept s t)) ∧
    (s.held = true → goodStandby s = true → handoverRefused s = false → leads .trialWindowExpiry s (fun t =>
      t.pair.handover = some (nameFrame s) ∧ t.sec.fallDue = true ∧ t.sec.active = s.sec.active ∧ memKept s t)) := by
  have hexec : exec .trialWindowExpiry s = .next (endTrial s) := by
    change execTrialWindowExpiry s = _
    rw [execTrialWindowExpiry, if_pos (by rw [hupd, hend]; rfl)]
  refine ⟨fun hheld => ⟨_, hexec, ?_⟩, fun hheld hgood hopen => ⟨_, hexec, ?_⟩⟩
  · rw [endTrial, if_neg (by simp [hheld])]
    obtain ⟨hmem, -, hfell, hactive, hslot, -, hwarm, htrial⟩ := fallBack_shows s ha hlen
    exact ⟨hfell, hactive, hslot, hwarm, htrial, memKept_of_mem hmem⟩
  · rw [endTrial, if_pos (by simp [hheld, hgood, hopen])]
    exact ⟨rfl, rfl, rfl, fun _ => rfl⟩

theorem exec_trialWindowExpiry_idle (h : s.sec.upd ≠ updTrial ∨ windowOpen s = true) :
    exec .trialWindowExpiry s = .next s := by
  change execTrialWindowExpiry s = _
  rw [execTrialWindowExpiry, if_neg (by rcases h with h | h <;> simp [h])]

/-- The singletons that run again change one bit of a register each. -/
theorem resume_keeps {α : Type} (part : State → α) (hset : ∀ (t : State) f b, part (t.setBit f b) = part t) (m : Nat)
    (v : State) : part ((List.range 3).foldl (fun s i => if bitOf m i then
      s.setBit (Reg.hhkPairCkptRunning i) true else s) v) = part v :=
  foldl_keeps part (fun t i => by
    split
    · exact hset ..
    · rfl) _ v

/-- The handover is off; memory and the part of boot and update are as they were. -/
theorem cancelHandover_shows (s : State) :
    (cancelHandover s).mem = s.mem ∧ (cancelHandover s).sec = s.sec ∧ (cancelHandover s).pair.handover = none := by
  unfold cancelHandover
  generalize hv : ({ s with pair := { s.pair with
    handover := none, postponed := 0, handing := false, removal := 0
    swapLed := if s.pair.removal = 0 then s.pair.swapLed else 0 } } : State) = v
  unfold resumeSingletons showPublishing
  refine ⟨?_, ?_, ?_⟩
  · rw [State.setBit_mem]
    exact (resume_keeps State.mem State.setBit_mem _ v).trans (by rw [← hv])
  · rw [State.setBit_sec]
    exact (resume_keeps State.sec State.setBit_sec _ v).trans (by rw [← hv])
  · rw [State.setBit_pair]
    exact (resume_keeps (fun t => t.pair.handover) (fun t f b => congrArg PairSt.handover (State.setBit_pair t f b)) _ v).trans
      (by rw [← hv])

theorem leads_trialHandoverTimeout (ha : s.sec.active < 2) (hlen : s.sec.slots.length = 2) (h : s.sec.fallDue = true) :
    leads .trialHandoverTimeout s (fun t => t.sec.active = 1 - s.sec.active ∧ t.pwr.warmDue = 2 ∧
      t.pair.handover = none ∧ t.sec.fallDue = false ∧ memKept s t) := by
  obtain ⟨hmem, hsec, hhandover⟩ := cancelHandover_shows s
  obtain ⟨hfmem, hpair, -, hactive, -, hdue, hwarm, -⟩ := fallBack_shows (cancelHandover s) (by rwa [hsec]) (by rwa [hsec])
  refine ⟨_, congrArg Host.Outcome.next (if_pos h), ?_, hwarm, ?_, hdue, memKept_of_mem (hfmem.trans hmem)⟩
  · rw [hactive, hsec]
  · rw [hpair, hhandover]

theorem exec_trialHandoverTimeout_idle (h : s.sec.fallDue = false) : exec .trialHandoverTimeout s = .next s :=
  congrArg Host.Outcome.next (if_neg (by simp [h]))

theorem leads_updateLockExpiry (hupd : s.sec.upd = updReceiving)
    (hgone : (List.range 16).any (fun i => s.on (Reg.mbxSessOpen i) && s.sec.lock == some (s.sess i).subject) = false) :
    leads .updateLockExpiry s (fun t => t.sec.upd = updIdle ∧ t.sec.lock = none ∧ t.sec.recv = [] ∧
      t.sec.active = s.sec.active ∧ memKept s t) := by
  have hexec : exec .updateLockExpiry s = .next (dropUpdate s) := by
    change execUpdateLockExpiry s = _
    rw [execUpdateLockExpiry, hgone, if_pos (by rw [hupd]; rfl)]
  obtain ⟨hmem, hsec⟩ := dropUpdate_shows s
  rw [leads]
  refine ⟨_, hexec, ?_, ?_, ?_, ?_, memKept_of_mem hmem⟩
  · rw [hsec]
  · rw [hsec]
  · rw [hsec]
  · rw [hsec]

theorem exec_updateLockExpiry_idle (h : s.sec.upd ≠ updReceiving) : exec .updateLockExpiry s = .next s := by
  change execUpdateLockExpiry s = _
  rw [execUpdateLockExpiry, if_neg (by simp [h])]

/-- Settles O45: each end of a trial by the record that it writes and what it releases. -/
theorem trialsEnd : Obligations.TrialsEnd := by
  unfold Obligations.TrialsEnd
  rintro a b s rfl ha rfl hlen
  exact ⟨leads_installRestart, exec_installRestart_idle, leads_trialHealthy ha hlen, exec_trialHealthy_idle,
    leads_trialWindowExpiry ha hlen, exec_trialWindowExpiry_idle, leads_trialHandoverTimeout ha hlen,
    exec_trialHandoverTimeout_idle, leads_updateLockExpiry, exec_updateLockExpiry_idle⟩

end Sys2Proof.Machine
end

section
/-! PROOF. The UPDATE family (16 R458, R459, R463, R464, R470). -/

namespace Sys2Proof.Machine

variable {i : Nat} {r : Req} {s : State}

/-! ### Progress where no ring carries it (03 R74) -/

theorem post_progress_regs {q fam cmd : Nat} {p : List Byte} (hidle : answersIdle i s) :
    (post (.progress i q fam cmd p) s).regs = s.regs ∧ (post (.progress i q fam cmd p) s).mem = s.mem := by
  have hcarry : carryAnswer (.progress i q fam cmd p) s = s := by
    unfold carryAnswer
    extract_lets by'
    dsimp only [by']
    split
    next hopen => exact carry_idle (hidle hopen.1)
    next => rfl
  rw [post, hcarry]
  exact ⟨rfl, rfl⟩

theorem sendStages_quiet {fam cmd : Nat} (l : List Nat) (hsrc : r.src = .host i) (hidle : answersIdle i s) :
    (sendStages r fam cmd l s).regs = s.regs ∧ (sendStages r fam cmd l s).mem = s.mem := by
  rw [sendStages, hsrc]
  dsimp only
  induction l generalizing s with
  | nil => exact ⟨rfl, rfl⟩
  | cons x l ih =>
    rw [List.foldl_cons]
    have hidle' : answersIdle i s.took.took := hidle
    obtain ⟨hregs, hmem⟩ := post_progress_regs (q := r.seq) (fam := fam) (cmd := cmd)
      (p := progressHead x (s.fresh % 1001) (s.took.fresh % 2 ^ 32)) hidle'
    have hnext : answersIdle i (post (.progress i r.seq fam cmd (progressHead x (s.fresh % 1001) (s.took.fresh % 2 ^ 32)))
        s.took.took) := fun hi => (State.on_congr (State.get_congr _ _ hregs _)).trans (hidle' hi)
    obtain ⟨hregs', hmem'⟩ := ih hnext
    exact ⟨hregs'.trans hregs, hmem'.trans hmem⟩

/-! ### The lock and the bundle that a command goes by -/

theorem holderOf_host (h : r.src = .host i) (s : State) : holderOf r s = (s.sess i).subject := by rw [holderOf, h]

theorem lockedOut_of_own {h : Nat} (hlock : s.sec.lock = some h) : lockedOut h s = false := by
  rw [lockedOut, hlock]
  exact bne_self_eq_false h

theorem lockedOut_of_none {h : Nat} (hlock : s.sec.lock = none) : lockedOut h s = false := by rw [lockedOut, hlock]

/-- Under the requester's own lock the command goes on. -/
theorem ownLock (hok : ∃ fam cmd lenOk, requestOk fam cmd lenOk i r s = true) (hlock : s.sec.lock = some (s.sess i).subject) :
    lockedOut (holderOf r s) s = false := by
  obtain ⟨fam, cmd, lenOk, h⟩ := hok
  rw [holderOf_host (src_of_requestOk h).1]
  exact lockedOut_of_own hlock

/-- The judgement of the bundle shows a failed check alone. -/
theorem judgeBundle_shows (s : State) : s.OffRings (judgeBundle s).2 ∧ s.ProgKept (judgeBundle s).2 ∧
    ((judgeBundle s).1 = true → (judgeBundle s).2 = s) := by
  have hraised (e : Ev) (hrings : e.offRings = true) (hsys : e.offSys = true) :
      s.OffRings (s.raise e) ∧ s.ProgKept (s.raise e) ∧ (false = true → s.raise e = s) :=
    ⟨(State.OffRings.refl s).raise hrings, (State.ProgKept.refl s).raise hsys, fun h => absurd h Bool.false_ne_true⟩
  unfold judgeBundle
  split
  · dsimp only
    exact hraised Ev.secVerifyFail (by decide) (by decide)
  · split
    next u _ =>
      cases u
      · dsimp only [raiseUnbootable]
        exact hraised Ev.secVerifyFail (by decide) (by decide)
      · dsimp only [raiseUnbootable]
        exact hraised Ev.secRollbackRefused (by decide) (by decide)
    next => exact ⟨.refl s, .refl s, fun _ => rfl⟩

/-! ### GET_STATUS -/

theorem answers_updateGetStatus {a : Nat} (h : requestOk 8 1 noPayload i r s = true) (hactive : s.sec.active = a)
    (ha : a < 2) :
    answers (.updateGetStatus r) 8 1 i r s (fun p u => u = s ∧
      leAt p 0 1 = s.sec.upd % 256 ∧ leAt p 1 1 = a ∧ leAt p 2 1 = (s.slot 0).state % 256 ∧
      leAt p 3 1 = (s.slot 1).state % 256) := by
  obtain ⟨rest, hrest⟩ : ∃ rest, updateRecord s ++ fallbackReport s =
      leBytes 1 s.sec.upd ++ (leBytes 1 s.sec.active ++ (leBytes 1 (s.slot 0).state ++ (leBytes 1 (s.slot 1).state ++ rest))) :=
    ⟨_, by simp only [updateRecord, List.append_assoc]; rfl⟩
  refine answers_of_ok rfl h rfl ⟨rfl, ?_⟩
  rw [hrest, leAt_leBytes_append, leAt_behind_leBytes _ _ _ _ _ (by decide), leAt_leBytes_append,
    leAt_behind_leBytes _ _ _ _ _ (by decide), leAt_behind_leBytes _ _ _ _ _ (by decide), leAt_leBytes_append,
    leAt_behind_leBytes _ _ _ _ _ (by decide), leAt_behind_leBytes _ _ _ _ _ (by decide),
    leAt_behind_leBytes _ _ _ _ _ (by decide), leAt_leBytes_append, hactive]
  exact ⟨rfl, Nat.mod_eq_of_lt (by omega), rfl, rfl⟩

/-! ### BEGIN (R463) -/

/-- The fields of a BEGIN are within their ranges. -/
theorem begin_good (hflags : leAt r.payload 0 1 ≤ 7) (hzero : leAt r.payload 1 3 = 0)
    (hwindow : leAt r.payload 4 4 = 0 ∨ (60 ≤ leAt r.payload 4 4 ∧ leAt r.payload 4 4 ≤ 86400))
    (hsize : leAt r.payload 8 4 ≤ bundleMax) :
    firstBad ([(0, decide (leAt r.payload 0 1 ≤ 7))] ++ resv r.payload 1 3
      ++ [(4, leAt r.payload 4 4 == 0 || (decide (60 ≤ leAt r.payload 4 4) && decide (leAt r.payload 4 4 ≤ 86400))),
        (8, decide (leAt r.payload 8 4 ≤ bundleMax))]) = none := by
  refine firstBad_none fun p hp => ?_
  rw [List.mem_append, List.mem_append] at hp
  rcases hp with (hp | hp) | hp
  · rw [List.mem_singleton] at hp
    simp [hp, hflags]
  · exact resv_ok 3 hzero p hp
  · simp only [List.mem_cons, List.not_mem_nil, or_false] at hp
    rcases hp with rfl | rfl
    · simpa using hwindow
    · simpa using hsize

/-- What BEGIN leaves: the lock under its holder, the inactive slot EMPTY, and no byte received. -/
theorem beginUpdate_shows (h : Nat) (p : List Byte) (s : State) :
    (beginUpdate h p s).mem = s.mem ∧ (beginUpdate h p s).on Reg.secStatusLock = true ∧
      (beginUpdate h p s).sec = { recorded (slotState (1 - s.sec.active) slotEmpty) { s.sec with lock := some h } with
        upd := updReceiving, recv := [], newFlags := leAt p 0 1,
        newWindow := if leAt p 4 4 = 0 then 900 else leAt p 4 4, total := leAt p 8 4
        digest := (p.drop 12).take 48, changes := [], excess := 0 } := by
  obtain ⟨w, hw⟩ : ∃ w, w = takeLock h s := ⟨_, rfl⟩
  have hwsec : w.sec = { s.sec with lock := some h } := by rw [hw, takeLock, State.setBit_sec, State.updSec_sec]
  have hwmem : w.mem = s.mem := by rw [hw, takeLock, State.setBit_mem, State.updSec_mem]
  have hwlock : w.on Reg.secStatusLock = true := by rw [hw, takeLock, State.on_setBit_self _ _ _ (by decide)]
  obtain ⟨n, hn⟩ := writeRecord_eq (slotState (1 - w.sec.active) slotEmpty) w
  unfold beginUpdate
  dsimp only
  rw [← hw, hn]
  refine ⟨hwmem, hwlock, ?_⟩
  rw [State.updSec_sec, hwsec]

section Begin
variable {a : Nat} (h : requestOk 8 2 (exactly 60) i r s = true)
  (hgood : firstBad ([(0, decide (leAt r.payload 0 1 ≤ 7))] ++ resv r.payload 1 3
    ++ [(4, leAt r.payload 4 4 == 0 || (decide (60 ≤ leAt r.payload 4 4) && decide (leAt r.payload 4 4 ≤ 86400))),
      (8, decide (leAt r.payload 8 4 ≤ bundleMax))]) = none)
include h hgood

theorem answers_updateBegin (hactive : s.sec.active = a) (ha : a < 2) (hlen : s.sec.slots.length = 2)
    (hlock : s.sec.lock = none) (hopen : beginOpen s = true) (howner : isOwner s = true) :
    answers (.updateBegin r) 8 2 i r s (fun p u =>
        p = leBytes 1 (1 - a) ++ zeros 7 ∧ u.sec.upd = updReceiving ∧ u.sec.lock = some (s.sess i).subject ∧
        u.sec.recv = [] ∧ u.sec.total = leAt r.payload 8 4 ∧ (u.slot (1 - a)).state = slotEmpty ∧
        u.slot a = s.slot a ∧ u.sec.active = a ∧ u.on Reg.secStatusLock = true ∧ memKept s u) := by
  subst hactive
  obtain ⟨hsrc, -⟩ := src_of_requestOk h
  obtain ⟨hmem, hbit, hsec⟩ := beginUpdate_shows (holderOf r s) r.payload s
  have hactive : (beginUpdate (holderOf r s) r.payload s).sec.active = s.sec.active := by
    rw [hsec]
    rfl
  refine answers_of_ok (u := beginUpdate (holderOf r s) r.payload s)
    (pay := beginReply (beginUpdate (holderOf r s) r.payload s)) rfl h ?_ ⟨?_, ?_, ?_, ?_, ?_, ?_, ?_, hactive, hbit, memKept_of_mem hmem⟩
  · simp only [hgood, lockedOut_of_none hlock, hopen, howner, hlock, Bool.false_eq_true, if_false, Bool.not_true, Bool.true_or,
      if_true, Option.isSome_none]
  · rw [beginReply, hactive]
  · rw [hsec]
  · rw [hsec, ← holderOf_host hsrc]
    rfl
  · rw [hsec]
  · rw [hsec]
  · rw [State.slot, hsec]
    exact congrArg SlotSt.state (slot_slotState_same slotEmpty (by dsimp only; omega))
  · rw [State.slot, hsec]
    exact slot_slotState_other slotEmpty _ (by omega)

theorem answersErr_updateBegin_busy {x : Nat} (hlock : s.sec.lock = some x) (hother : x ≠ (s.sess i).subject) :
    answersErr (.updateBegin r) 8 2 i r s stBusy noField (fun u => u.sec = s.sec ∧
      u.on Ev.secLockBusy.flag = true ∧ memKept s u) := by
  obtain ⟨hsrc, -⟩ := src_of_requestOk h
  have hout : lockedOut (holderOf r s) s = true := by
    rw [holderOf_host hsrc, lockedOut, hlock]
    simpa using hother
  refine answersErr_of_err (u := s.raise Ev.secLockBusy) rfl h ?_ (by decide)
    ⟨State.raise_sec .., State.on_raise_self _ _ (by decide), memKept_of_mem (State.raise_mem ..)⟩
  simp only [hgood, hout, if_true, busy]

theorem answersErr_updateBegin_conflict (hlock : s.sec.lock = none) (hopen : beginOpen s = false) :
    answersErr (.updateBegin r) 8 2 i r s stStateConflict noField (fun u => u = s) := by
  refine answersErr_of_err (u := s) rfl h ?_ (by decide) rfl
  simp only [hgood, lockedOut_of_none hlock, hopen, Bool.false_eq_true, if_false, Bool.not_false, if_true, conflict]

end Begin

/-! ### TRANSFER -/

section Transfer
variable {chunk : List Byte} (h : requestOk 8 3 (fun n => decide (9 ≤ n) && decide (n ≤ 1048576)) i r s = true)
  (hupd : s.sec.upd = updReceiving)
include h hupd

theorem answers_updateTransfer (hchunk : r.payload.drop 8 = chunk) (hzero : leAt r.payload 4 4 = 0)
    (hlock : s.sec.lock = some (s.sess i).subject) (hnext : leAt r.payload 0 4 = s.sec.recv.length)
    (hfits : s.sec.recv.length + chunk.length ≤ s.sec.total) :
    answers (.updateTransfer r) 8 3 i r s (fun p u => p = [] ∧ u.sec.recv = s.sec.recv ++ chunk ∧
      u.sec.slots = s.sec.slots ∧ (ringsIdle i s = true → u.regs = s.regs ∧ memKept s u)) := by
  obtain ⟨hsrc, -⟩ := src_of_requestOk h
  have hgood : firstBad ((0, leAt r.payload 0 4 == s.sec.recv.length &&
      decide (leAt r.payload 0 4 + (r.payload.drop 8).length ≤ s.sec.total)) :: resv r.payload 4 4) = none := by
    refine firstBad_none fun p hp => ?_
    rcases List.mem_cons.mp hp with rfl | hp
    · rw [hchunk]
      simpa [hnext] using hfits
    · exact resv_ok 4 hzero p hp
  obtain ⟨w, hw⟩ : ∃ w, w = s.took.updSec (fun k => { k with recv := k.recv ++ r.payload.drop 8 }) := ⟨_, rfl⟩
  have hwsec : w.sec = { s.sec with recv := s.sec.recv ++ chunk } := by rw [hw, hchunk]; rfl
  have hwkept : w.regs = s.regs ∧ w.mem = s.mem := by rw [hw]; exact ⟨rfl, rfl⟩
  have hsec : (sendStages r 8 3 [s.fresh % 65536] w).sec = w.sec := (State.ProgKept.refl w).sendStages.sec
  refine answers_of_ok (u := sendStages r 8 3 [s.fresh % 65536] w) (pay := []) rfl h ?_ ⟨rfl, ?_, ?_, fun hidle => ?_⟩
  · simp only [hgood, ownLock ⟨_, _, _, h⟩ hlock, hupd, ne_eq, not_true_eq_false, if_false, Bool.false_eq_true, hw]
  · rw [hsec, hwsec]
  · rw [hsec, hwsec]
  · have hidle' : answersIdle i w := fun hi =>
      (State.on_congr (State.get_congr _ _ hwkept.1 _)).trans (answersIdle_of_ringsIdle hidle hi)
    obtain ⟨hregs, hmem⟩ := sendStages_quiet (fam := 8) (cmd := 3) [s.fresh % 65536] hsrc hidle'
    exact ⟨hregs.trans hwkept.1, memKept_of_mem (hmem.trans hwkept.2)⟩

theorem answersErr_updateTransfer (hother : leAt r.payload 0 4 ≠ s.sec.recv.length) :
    answersErr (.updateTransfer r) 8 3 i r s stOutOfRange 0 (fun u => u = s) := by
  have hbad : firstBad ((0, leAt r.payload 0 4 == s.sec.recv.length &&
      decide (leAt r.payload 0 4 + (r.payload.drop 8).length ≤ s.sec.total)) :: resv r.payload 4 4) = some 0 := by
    rw [firstBad, List.find?_cons_of_pos (by simp [hother])]
    rfl
  refine answersErr_of_err (u := s) rfl h ?_ (by decide) rfl
  simp only [hbad, hupd, if_true]

end Transfer

/-! ### INSTALL (R458) -/

/-- The bundle stands in the other slot as TRIAL, and that slot is ACTIVE. -/
theorem installSlot_shows (k : SlotSt) (ha : s.sec.active < 2) (hlen : s.sec.slots.length = 2) :
    (installSlot k s).mem = s.mem ∧ (installSlot k s).sec.upd = updInstalled ∧
      (installSlot k s).sec.active = 1 - s.sec.active ∧ ((installSlot k s).slot (1 - s.sec.active)).state = slotTrial ∧
      (installSlot k s).slot s.sec.active = s.slot s.sec.active := by
  obtain ⟨n, hn⟩ := nandBoot_eq (0x100000 + (1 - s.sec.active) * bundleMax) s.sec.recv s
  obtain ⟨f, hf⟩ : ∃ f : SecSt → SecSt, f = fun r => { r with
    slots := listSet r.slots (1 - s.sec.active) (fun _ => { k with state := slotTrial, good := [true, true] })
    active := 1 - s.sec.active, windowS := r.newWindow, flags := r.newFlags, upd := updInstalled, recv := [] } := ⟨_, rfl⟩
  have heq : installSlot k s = setAttempts 0 (writeRecord f (nandBoot (0x100000 + (1 - s.sec.active) * bundleMax) s.sec.recv s)) := by
    rw [hf]
    rfl
  obtain ⟨m, hm⟩ := writeRecord_eq f { s with nvs := n }
  have hlasts (w : State) : w.Lasts (setAttempts 0 w) := .writeBackup (.refl w)
  have hsec : (installSlot k s).sec = recorded f s.sec := by rw [heq, (hlasts _).sec, hn, hm]
  have hother : s.sec.active ≠ 1 - s.sec.active := by omega
  refine ⟨?_, ?_, ?_, ?_, ?_⟩
  · rw [heq, (hlasts _).mem, hn, hm]
  · rw [hsec, hf]
    rfl
  · rw [hsec, hf]
    rfl
  · rw [State.slot, hsec, hf]
    exact congrArg SlotSt.state (getD_listSet_same (l := s.sec.slots) (by omega) _ _)
  · rw [State.slot, hsec, hf]
    exact getD_listSet_other s.sec.slots hother _ _

section Install
variable {a : Nat} (h : requestOk 8 4 noPayload i r s = true) (hlock : s.sec.lock = some (s.sess i).subject)
include h hlock

theorem answers_updateInstall (hactive : s.sec.active = a) (ha : a < 2) (hlen : s.sec.slots.length = 2)
    (hall : received s = true) (hfree : groupUpdating s = false) (hboot : bootExhausted s = false) :
    if (judgeBundle s).1 = true then answers (.updateInstall r) 8 4 i r s (fun p u => p = [] ∧
      u.sec.upd = updInstalled ∧ u.sec.active = 1 - a ∧ (u.slot (1 - a)).state = slotTrial ∧ u.slot a = s.slot a ∧
      u.sec.restartDue = true ∧ (ringsIdle i s = true → memKept s u))
    else answersErr (.updateInstall r) 8 4 i r s stVerifyFailed noField (fun u => u.sec = s.sec ∧
      (ringsIdle i s = true → memKept s u)) := by
  subst hactive
  obtain ⟨hsrc, -⟩ := src_of_requestOk h
  obtain ⟨hrings, hprog, hsame⟩ := judgeBundle_shows s
  have hstages (l : List Nat) (u : State) : u.ProgKept (sendStages r 8 4 l u) := (State.ProgKept.refl u).sendStages
  split
  next hok =>
    obtain ⟨w, hw⟩ : ∃ w, w = sendStages r 8 4 [1, 2, 3, 4, 5] s := ⟨_, rfl⟩
    have hwsec : w.sec = s.sec := by rw [hw, (hstages _ s).sec]
    obtain ⟨hmem, hupd, hact, hslot, hother⟩ := installSlot_shows (s := w) (slotOf s.sec.recv) (by rwa [hwsec]) (by rwa [hwsec])
    rw [State.slot, State.slot, hwsec] at hother
    rw [State.slot, hwsec] at hslot
    obtain ⟨v, hv⟩ : ∃ v, v = installSlot (slotOf s.sec.recv) w := ⟨_, rfl⟩
    rw [← hv] at hmem hupd hact hslot hother
    refine answers_of_ok (u := v.updSec (fun k => { k with restartDue := true })) (pay := [])
      rfl h ?_ ⟨rfl, hupd, ?_, hslot, hother, rfl, fun hidle => ?_⟩
    · simp only [ownLock ⟨_, _, _, h⟩ hlock, hall, hfree, hboot, Bool.false_eq_true, if_false, Bool.not_true, Bool.or_self,
        hok, if_true, hsame hok, hv, ← hw, hwsec]
    · exact hact.trans (by rw [hwsec])
    · have hquiet := sendStages_quiet (fam := 8) (cmd := 4) [1, 2, 3, 4, 5] hsrc (answersIdle_of_ringsIdle hidle)
      exact memKept_of_mem (hmem.trans (by rw [hw, hquiet.2]))
  next hbad =>
    refine answersErr_of_err (u := sendStages r 8 4 [1] (judgeBundle s).2) rfl h ?_ (by decide)
      ⟨(hstages _ _).sec.trans hprog.sec, fun hidle => memKept_of_mem ?_⟩
    · simp only [ownLock ⟨_, _, _, h⟩ hlock, hall, hfree, hboot, Bool.false_eq_true, if_false, Bool.not_true, Bool.or_self,
        hbad]
    · exact (hrings.sendStages hsrc (answersIdle_of_ringsIdle hidle)).mem

theorem answersErr_updateInstall_conflict (hpart : received s = false) :
    answersErr (.updateInstall r) 8 4 i r s stStateConflict noField (fun u => u = s) := by
  refine answersErr_of_err (u := s) rfl h ?_ (by decide) rfl
  simp only [ownLock ⟨_, _, _, h⟩ hlock, hpart, Bool.false_eq_true, if_false, Bool.not_false, Bool.true_or, if_true, conflict]

end Install

/-! ### CONFIRM and ABORT (R458, R459) -/

theorem answers_updateConfirm {a : Nat} (h : requestOk 8 5 noPayload i r s = true)
    (hlock : s.sec.lock = some (s.sess i).subject) (hactive : s.sec.active = a) (ha : a < 2)
    (hlen : s.sec.slots.length = 2) (hver : (s.slot a).secver < 256) :
    (healthy s = true → answers (.updateConfirm r) 8 5 i r s (fun p u =>
      p = leBytes 1 (u.get Reg.secStatusCounter) ++ zeros 3 ∧
      u.get Reg.secStatusCounter = max (s.get Reg.secStatusCounter) (s.slot a).secver ∧
      u.sec.upd = updConfirmed ∧ (u.slot a).state = slotConfirmed ∧ u.on Reg.secStatusTrial = false ∧ memKept s u)) ∧
    (healthy s = false → answersErr (.updateConfirm r) 8 5 i r s stStateConflict noField (fun u => u = s)) := by
  subst hactive
  obtain ⟨hmem, hupd, hslot, -, -, htrial, hcnt⟩ := confirmTrial_shows s ha hlen
  refine ⟨fun hgood => answers_of_ok (u := confirmTrial s) rfl h ?_
    ⟨rfl, hcnt hver, hupd, hslot, htrial, memKept_of_mem hmem⟩, fun hbad => answersErr_of_err (u := s) rfl h ?_ (by decide) rfl⟩
  · simp only [ownLock ⟨_, _, _, h⟩ hlock, hgood, Bool.false_eq_true, if_false, Bool.not_true]
  · simp only [ownLock ⟨_, _, _, h⟩ hlock, hbad, Bool.false_eq_true, if_false, Bool.not_false, if_true, conflict]

theorem answers_updateAbort {a : Nat} (h : requestOk 8 6 noPayload i r s = true) (hactive : s.sec.active = a) :
    (s.sec.upd = updReceiving → answers (.updateAbort r) 8 6 i r s (fun p u => p = [] ∧ u.sec.upd = updIdle ∧
      u.sec.lock = none ∧ u.sec.recv = [] ∧ u.sec.active = a ∧ memKept s u)) ∧
    (s.sec.upd = updIdle → answersErr (.updateAbort r) 8 6 i r s stStateConflict noField (fun u => u = s)) := by
  obtain ⟨hmem, hsec⟩ := dropUpdate_shows s
  refine ⟨fun hupd => answers_of_ok (u := dropUpdate s) (pay := []) rfl h (if_pos hupd)
    ⟨rfl, ?_, ?_, ?_, ?_, memKept_of_mem hmem⟩, fun hupd => answersErr_of_err (u := s) rfl h ?_ (by decide) rfl⟩
  · rw [hsec]
  · rw [hsec]
  · rw [hsec]
  · rw [hsec, hactive]
  · rw [if_neg (by rw [hupd]; decide), if_neg (by rw [hupd]; decide), conflict]

/-! ### GROUP_UPDATE (R464) -/

section GroupUpdate
variable (h : requestOk 8 7 noPayload i r s = true) (hlock : s.sec.lock = some (s.sess i).subject)
include h hlock

theorem holds_updateGroupUpdate (howner : isOwner s = true) (hall : received s = true) (hflag : bitOf s.sec.newFlags 2 = true)
    (hfree : groupUpdating s = false) (hsync : memberSyncing s = false) (hrun : s.prog.state ≠ .changing)
    (hpeers : admitters s ≠ []) (hboot : bootExhausted s = false) :
    if (judgeBundle s).1 = true then holds (.updateGroupUpdate r) 8 7 i r s (fun u => u.sec.groupStep = 1 ∧
      u.sec.slots = s.sec.slots ∧ memKept s u)
    else answersErr (.updateGroupUpdate r) 8 7 i r s stVerifyFailed noField (fun u =>
      u.sec = s.sec ∧ (ringsIdle i s = true → memKept s u)) := by
  obtain ⟨hrings, hprog, hsame⟩ := judgeBundle_shows s
  have hopen : (!isOwner s || !received s || !bitOf s.sec.newFlags 2 || groupUpdating s || memberSyncing s ||
      s.prog.state == .changing || (admitters s).isEmpty) = false := by
    simp [howner, hall, hflag, hfree, hsync, hrun, hpeers]
  split
  next hok =>
    obtain ⟨w, hw⟩ : ∃ w, w = forwardTo 14 (s.sec.newFlags :: s.sec.newWindow :: asNats (s.sec.digest ++ s.sec.recv)) s := ⟨_, rfl⟩
    have hlasts : s.Lasts w := hw ▸ .toPeers (.refl s)
    refine holds_of_later (u := w.updSec (fun k => { k with groupStep := 1, groupVerified := [], groupDone := [] })) rfl h ?_
      ⟨rfl, ?_, memKept_of_mem ((State.updSec_mem ..).trans hlasts.mem)⟩
    · simp only [ownLock ⟨_, _, _, h⟩ hlock, hopen, hboot, Bool.false_eq_true, if_false, hok, if_true, hsame hok, hw]
    · rw [State.updSec_sec, hlasts.sec]
  next hbad =>
    refine answersErr_of_err (u := (judgeBundle s).2) rfl h ?_ (by decide) ⟨hprog.sec, fun _ => memKept_of_mem hrings.mem⟩
    simp only [ownLock ⟨_, _, _, h⟩ hlock, hopen, hboot, Bool.false_eq_true, if_false, hbad]

theorem answersErr_updateGroupUpdate_conflict (hother : isOwner s = false) :
    answersErr (.updateGroupUpdate r) 8 7 i r s stStateConflict noField (fun u => u = s) := by
  refine answersErr_of_err (u := s) rfl h ?_ (by decide) rfl
  simp only [ownLock ⟨_, _, _, h⟩ hlock, hother, Bool.false_eq_true, if_false, Bool.not_false, Bool.true_or, if_true, conflict]

end GroupUpdate

/-- Settles O44: each command of the family by its own effect. -/
theorem updateCommands : Obligations.UpdateCommands := by
  unfold Obligations.UpdateCommands
  rintro i a b r s hactive ha rfl hlen
  refine ⟨fun h => answers_updateGetStatus h hactive ha, fun h hflags hzero hwindow hsize => ?_,
    fun chunk h hchunk hzero hlock hupd => ⟨answers_updateTransfer h hupd hchunk hzero hlock, answersErr_updateTransfer h hupd⟩,
    fun h hlock => ⟨answers_updateInstall h hlock hactive ha hlen, answersErr_updateInstall_conflict h hlock⟩,
    fun h hlock hver => answers_updateConfirm h hlock hactive ha hlen hver, fun h => answers_updateAbort h hactive,
    fun h hlock => ⟨holds_updateGroupUpdate h hlock, answersErr_updateGroupUpdate_conflict h hlock⟩⟩
  have hgood := begin_good hflags hzero hwindow hsize
  exact ⟨answers_updateBegin h hgood hactive ha hlen, fun x => answersErr_updateBegin_busy h hgood,
    answersErr_updateBegin_conflict h hgood⟩

end Sys2Proof.Machine
end

section
/-! SUPPORT. The entry tables, the seal and the reports of the gates (15 R436-R443), and debug taint (13 R405, R406). -/

namespace Sys2Proof.Machine

/-! ### Debug taint (13 R405, R406) -/

namespace State.Lasts

variable {s t : State}

protected theorem reviewOwner (h : s.Lasts t) : s.Lasts (reviewOwner t) := by
  have hrole : s.Lasts (if t.role = rolePrimary && !goodStandby t then Machine.setRole roleAlone t else t) := .ite h.setRole h
  exact .ite hrole.followRole hrole

protected theorem resumeSingletons (h : s.Lasts t) : s.Lasts (resumeSingletons t) := by
  unfold Machine.resumeSingletons
  refine .showPublishing (.upd (h.foldl fun _ n hn h => .ite ?_ h))
  have := List.mem_range.mp hn
  exact h.setPair (by omega)

protected theorem cancelHandover (h : s.Lasts t) : s.Lasts (cancelHandover t) := .resumeSingletons h.upd

protected theorem taintRole (h : s.Lasts t) : s.Lasts (taintRole t) := by
  unfold Machine.taintRole recordOwn countMove
  exact .ite h (.ite (.ite (.enterRole (.cancelHandover (.upd (.upd h.toPeers.releaseOwn)))) h.reviewOwner) h.disarm)

end State.Lasts

/-- A register that a write does not name keeps its word. -/
theorem State.reg_setBit_other (s : State) (f : Fld) (b : Bool) (a : Nat) (h : a ≠ f.addr) : (s.setBit f b).reg a = s.reg a :=
  State.reg_set_other s f _ a h

theorem State.get_of_reg {s t : State} {f : Fld} (h : t.reg f.addr = s.reg f.addr) : t.get f = s.get f := by
  rw [State.get, State.get, h]

theorem State.reg_raise_other (s : State) (e : Ev) (a : Nat) (hflag : a ≠ e.flag.addr) (hcnt : ∀ c ∈ e.cnt, a ≠ c.addr) :
    (s.raise e).reg a = s.reg a := by
  obtain ⟨m, o, hraise⟩ := State.raise_frame s e
  rw [hraise]
  change (flagged e s).reg a = _
  unfold flagged
  cases hc : e.cnt with
  | none => exact State.reg_set_other _ _ _ _ hflag
  | some c => exact (State.reg_set_other _ _ _ _ (hcnt c hc)).trans (State.reg_set_other _ _ _ _ hflag)

section Taint

variable (s : State)

theorem refreshLck_mem : (refreshLck s).mem = s.mem := by
  unfold refreshLck
  simp -implicitDefEqProofs only [State.setBit_mem, State.set_mem]

theorem reg_refreshLck {a : Nat} (ha : a ≠ 0x90004) : (refreshLck s).reg a = s.reg a := by
  unfold refreshLck
  extract_lets _ _ _ t u
  rw [State.reg_setBit_other _ _ _ _ ha, State.reg_set_other _ _ _ _ ha, State.reg_setBit_other _ _ _ _ ha,
    State.reg_setBit_other _ _ _ _ ha, State.reg_setBit_other _ _ _ _ ha, State.reg_setBit_other _ _ _ _ ha]

theorem setTaint_of_taint (h : s.taint = true) : setTaint s = s := if_pos h

/-- The taint itself, and what the module's role makes of it. -/
def tainted (s : State) : State := taintRole ((s.setBit Reg.sysModeTaint true).raise Ev.lckTaint)

theorem setTaint_of_clean (h : s.taint = false) : setTaint s = refreshLck (tainted s) := if_neg (by simp [h])

theorem tainted_lasts : ((s.setBit Reg.sysModeTaint true).raise Ev.lckTaint).Lasts (tainted s) := (State.Lasts.refl _).taintRole

theorem tainted_mem : (tainted s).mem = s.mem := by
  rw [(tainted_lasts s).mem, State.raise_mem, State.setBit_mem]

theorem setTaint_mem : (setTaint s).mem = s.mem := by
  cases h : s.taint with
  | false => rw [setTaint_of_clean s h, refreshLck_mem, tainted_mem]
  | true => rw [setTaint_of_taint s h]

theorem tainted_taint : (tainted s).taint = true := by
  rw [State.taint, (tainted_lasts s).on]
  simp -implicitDefEqProofs (disch := decide)

theorem setTaint_taint : (setTaint s).taint = true := by
  cases h : s.taint with
  | false =>
    rw [setTaint_of_clean s h, State.taint, State.on, State.get, reg_refreshLck _ (by decide)]
    exact tainted_taint s
  | true => rw [setTaint_of_taint s h, h]

/-- Taint leaves the registers of MEM and GATE as they were. -/
theorem reg_setTaint {a : Nat} (hlo : 0xA0000 ≤ a) (hhi : a < 0xC0000) : (setTaint s).reg a = s.reg a := by
  cases h : s.taint with
  | false =>
    have hlasting : lasting a = true := by
      simp only [lasting, decide_eq_true_eq]
      omega
    have hmode : a ≠ Reg.sysModeTaint.addr := by simp only [Reg.sysModeTaint]; omega
    have hflag : a ≠ Ev.lckTaint.flag.addr := by simp only [Ev.lckTaint, Reg.lckEventTaint]; omega
    rw [setTaint_of_clean s h, reg_refreshLck _ (by omega), (tainted_lasts s).reg a hlasting,
      State.reg_raise_other _ _ _ hflag (by simp [Ev.lckTaint]), State.reg_setBit_other _ _ _ _ hmode]
  | true => rw [setTaint_of_taint s h]

end Taint

/-! ### Entries (15 R436, R437, R443) -/

section Entries

variable {g e k : Nat} (s : State)

theorem gateEntryOf_entAddr (hg : g < 15) (he : e < 32) (hk : k < 20) : gateEntryOf (entAddr g e + k) = some (g, e) := by
  have hdiv : (entAddr g e + k - 0xB1400) / 0x800 = g := by
    simp only [entAddr]
    omega
  have hmod : (entAddr g e + k - 0xB1400) % 0x800 = 0x20 * e + k := by
    simp only [entAddr]
    omega
  rw [gateEntryOf, if_neg (by simp only [entAddr]; omega), hdiv, hmod]
  simp only
  rw [if_pos (by omega), show (0x20 * e + k) / 32 = e by omega]

/-- A write that is not UM0's in privileged mode, or comes after the seal, is ignored and flagged. -/
theorem writeEntry_refused {m : Nat} {p : Bool} {a v : Nat} (ha : gateEntryOf a = some (g, e))
    (h : m ≠ 8 ∨ p = false ∨ s.on (Reg.gateGCtrlSealed g) = true) : writeEntry m p a v s = s.raise Ev.gateWriteSealed := by
  rw [writeEntry, ha]
  exact if_pos h

theorem writeEntry_locked {a v : Nat} (ha : gateEntryOf a = some (g, e)) (hs : s.on (Reg.gateGCtrlSealed g) = false)
    (hl : s.on (entLock (entAddr g e)) = true) : writeEntry 8 true a v s = s := by
  rw [writeEntry, ha]
  exact (if_neg (by simp [hs])).trans (if_pos hl)

theorem writeEntry_takes {a v : Nat} (ha : gateEntryOf a = some (g, e)) (hs : s.on (Reg.gateGCtrlSealed g) = false)
    (hl : s.on (entLock (entAddr g e)) = false) : writeEntry 8 true a v s =
      showLocked g (s.setReg (a / 4 * 4) (BitVec.ofNat 32 (v &&& entryMask ((a - 0xB1400) % 32 / 4 * 4)))) := by
  rw [writeEntry, ha]
  exact (if_neg (by simp [hs])).trans (if_neg (by simp [hl]))

/-- An entry register of an unsealed gate's unlocked entry takes the bits that hold fields. -/
theorem writeEntry_shows {ofs mask v : Nat} (hg : g < 15) (he : e < 32) (hofs : ofs < 20) (hword : ofs / 4 * 4 = ofs)
    (hmask : entryMask ofs = mask) (hs : s.on (Reg.gateGCtrlSealed g) = false) (hl : s.on (entLock (entAddr g e)) = false) :
    let t := writeEntry 8 true (entAddr g e + ofs) v s
    t.reg (entAddr g e + ofs) = BitVec.ofNat 32 (v &&& mask) ∧ t.mem = s.mem := by
  have hword' : (entAddr g e + ofs) / 4 * 4 = entAddr g e + ofs := by
    simp only [entAddr]
    omega
  have hofs' : (entAddr g e + ofs - 0xB1400) % 32 / 4 * 4 = ofs := by
    simp only [entAddr]
    omega
  have hctrl : entAddr g e + ofs ≠ (Reg.gateGCtrlLocked g).addr := by
    simp only [entAddr, Reg.gateGCtrlLocked]
    omega
  rw [writeEntry_takes s (gateEntryOf_entAddr hg he hofs) hs hl, hword', hofs', hmask, showLocked]
  exact ⟨(State.reg_set_other _ _ _ _ hctrl).trans (State.reg_setReg_same ..), State.set_mem ..⟩

/-- UM0 issues accesses to the window. -/
theorem asWindowMaster_um0 (f : State → State) : asWindowMaster 8 f s = f s := by
  rw [asWindowMaster, if_neg (by decide), asMaster, if_pos (by simp [issues, masters]), if_neg (by decide)]

theorem exec_gateEntryWrite_um0 (p : Bool) (a v : Nat) :
    exec (.gateEntryWrite 8 p a v) s = .next (writeEntry 8 p a v s) :=
  congrArg Host.Outcome.next (asWindowMaster_um0 s _)

theorem leads_gateEntryWrite_takes (v : Nat) (hg : g < 15) (he : e < 32) (hs : s.on (Reg.gateGCtrlSealed g) = false)
    (hl : s.on (entLock (entAddr g e)) = false) :
    leads (.gateEntryWrite 8 true (entAddr g e) v) s (fun t =>
      t.reg (entAddr g e) = BitVec.ofNat 32 (v &&& 0x0FFFFFFF) ∧ memKept s t) ∧
    leads (.gateEntryWrite 8 true (entAddr g e + 8) v) s (fun t =>
      t.reg (entAddr g e + 8) = BitVec.ofNat 32 (v &&& 0xE000003F) ∧ memKept s t) := by
  obtain ⟨hbase, hbasem⟩ := writeEntry_shows s (ofs := 0) (v := v) hg he (by decide) rfl rfl hs hl
  obtain ⟨hlock, hlockm⟩ := writeEntry_shows s (ofs := 8) (v := v) hg he (by decide) rfl rfl hs hl
  exact ⟨⟨_, exec_gateEntryWrite_um0 s .., hbase, memKept_of_mem hbasem⟩,
    ⟨_, exec_gateEntryWrite_um0 s .., hlock, memKept_of_mem hlockm⟩⟩

/-- A Petal engine reaches no register of the window. -/
theorem exec_gateWrites_pe {m : Nat} (a : Nat) (p : Bool) (v : Nat) (hpe : isPe m = true) :
    exec (.gateEntryWrite m p a v) s = .next s ∧ exec (.gateSeal m p v) s = .next s :=
  ⟨congrArg Host.Outcome.next (if_pos hpe), congrArg Host.Outcome.next (if_pos hpe)⟩

/-- What a master of the window other than a Petal engine writes to: the debug port taints first. -/
theorem asWindowMaster_issued {m : Nat} (f : State → State) (hpe : isPe m = false) (hissues : issues s m = true) :
    asWindowMaster m f s = f (if m = masterDebug then setTaint s else s) := by
  rw [asWindowMaster, if_neg (by simp [hpe]), asMaster, if_pos hissues]

theorem leads_gateEntryWrite_refused {m : Nat} {p : Bool} (v : Nat) (hg : g < 15) (he : e < 32)
    (hissues : issues s m = true) (hpe : isPe m = false)
    (h : s.on (Reg.gateGCtrlSealed g) = true ∨ m ≠ 8 ∨ p = false) :
    leads (.gateEntryWrite m p (entAddr g e) v) s (fun t =>
      t.reg (entAddr g e) = s.reg (entAddr g e) ∧ t.on Reg.gateEventWriteSealed = true ∧ memKept s t) := by
  obtain ⟨u, hu⟩ : ∃ u, u = if m = masterDebug then setTaint s else s := ⟨_, rfl⟩
  have hreg {a : Nat} (hlo : 0xB0000 ≤ a) (hhi : a < 0xC0000) : u.reg a = s.reg a := by
    rw [hu]
    split
    · exact reg_setTaint s (by omega) hhi
    · rfl
  have hmem : u.mem = s.mem := by
    rw [hu]
    split
    · exact setTaint_mem s
    · rfl
  have hseal : u.on (Reg.gateGCtrlSealed g) = s.on (Reg.gateGCtrlSealed g) := by
    rw [State.on, State.get, hreg (by simp only [Reg.gateGCtrlSealed]; omega) (by simp only [Reg.gateGCtrlSealed]; omega)]
    rfl
  have hrefused : writeEntry m p (entAddr g e) v u = u.raise Ev.gateWriteSealed :=
    writeEntry_refused u (gateEntryOf_entAddr (k := 0) hg he (by decide)) (by rw [hseal]; tauto)
  have hbounds : 0xB1400 ≤ entAddr g e ∧ entAddr g e < 0xC0000 := by
    simp only [entAddr]
    omega
  refine ⟨u.raise Ev.gateWriteSealed, ?_, ?_, State.on_raise_flag u Ev.gateWriteSealed (by decide), ?_⟩
  · exact congrArg Host.Outcome.next ((asWindowMaster_issued s _ hpe hissues).trans (by rw [← hu, hrefused]))
  · rw [State.reg_raise_other, hreg (by omega) (by omega)]
    · simp only [Ev.gateWriteSealed, Reg.gateEventWriteSealed]
      omega
    · simp only [Ev.gateWriteSealed, Reg.gateEventCnt0SealedCnt, Option.mem_def, Option.some.injEq, forall_eq']
      omega
  · exact memKept_of_mem (by rw [State.raise_mem, hmem])

theorem exec_gateEntryWrite_locked (v : Nat) (hg : g < 15) (he : e < 32) (hs : s.on (Reg.gateGCtrlSealed g) = false)
    (hl : s.on (entLock (entAddr g e)) = true) : exec (.gateEntryWrite 8 true (entAddr g e) v) s = .next s := by
  rw [exec_gateEntryWrite_um0, writeEntry_locked s (a := entAddr g e) (gateEntryOf_entAddr (k := 0) hg he (by decide)) hs hl]

end Entries

/-! ### The seal (15 R436, R438, 13 R411) -/

section Seal

variable (s : State)

theorem writeSeal_other {m : Nat} {p : Bool} (v : Nat) (h : m ≠ 8 ∨ p = false) : writeSeal m p v s = s :=
  if_neg (by rintro ⟨rfl, rfl, -⟩; simp at h)

theorem exec_gateSeal_other {m : Nat} {p : Bool} (hm : m ≠ masterDebug) (h : m ≠ 8 ∨ p = false) :
    exec (.gateSeal m p 1) s = .next s := by
  change Host.Outcome.next (asWindowMaster m (writeSeal m p 1) s) = _
  rw [asWindowMaster, asMaster, if_neg hm, writeSeal_other s 1 h, ite_self, ite_self]

/-- A gate is sealed and open. -/
def opened (s : State) (n : Nat) : State := (s.setBit (Reg.gateGCtrlSealed n) true).set (Reg.gateGCtrlState n) gateOpen

theorem reg_opened {a n : Nat} (h : a ≠ 0xB1000 + 2048 * n) : (opened s n).reg a = s.reg a := by
  rw [opened, State.reg_set_other _ _ _ _ h, State.reg_setBit_other _ _ _ _ h]

theorem opened_mem (n : Nat) : (opened s n).mem = s.mem := (State.set_mem ..).trans (State.setBit_mem ..)

theorem opened_shows (n : Nat) :
    (opened s n).on (Reg.gateGCtrlSealed n) = true ∧ (opened s n).get (Reg.gateGCtrlState n) = gateOpen := by
  constructor
  · rw [opened, State.on_set_off _ _ _ _ (by simp [Fld.ok, Fld.apart, Reg.gateGCtrlSealed, Reg.gateGCtrlState]),
      State.on_setBit_self _ _ _ (by simp [Fld.ok, Reg.gateGCtrlSealed])]
  · rw [opened, State.get_set_self _ _ _ (by simp [Fld.ok, Reg.gateGCtrlState])]
    simp [gateOpen]

/-- What the seal leaves alone and what it writes. -/
theorem openAll_shows {g : Nat} (hg : g < 16) :
    let t := (List.range 16).foldl opened s
    t.on (Reg.gateGCtrlSealed g) = true ∧ t.get (Reg.gateGCtrlState g) = gateOpen ∧ t.mem = s.mem ∧
      ∀ a, a < 0xB1000 → t.reg a = s.reg a := by
  obtain ⟨hsealed, hstate⟩ := foldl_establishes (f := opened) (s := s) (List.mem_range.mpr hg) (inv := fun _ => True) trivial
    (p := fun t => t.on (Reg.gateGCtrlSealed g) = true ∧ t.get (Reg.gateGCtrlState g) = gateOpen)
    (fun _ _ _ _ => trivial) (fun t _ => opened_shows t g) (fun t n _ hn ht => by
      have hctrl : (opened t n).reg (0xB1000 + 2048 * g) = t.reg (0xB1000 + 2048 * g) := reg_opened t (by omega)
      exact ⟨(State.on_congr (State.get_of_reg (f := Reg.gateGCtrlSealed g) hctrl)).trans ht.1,
        (State.get_of_reg (f := Reg.gateGCtrlState g) hctrl).trans ht.2⟩)
  exact ⟨hsealed, hstate, foldl_keeps State.mem opened_mem _ s,
    fun a ha => foldl_keeps (State.reg · a) (fun t n => reg_opened t (n := n) (by omega)) _ s⟩

theorem leads_gateSeal {g : Nat} (hg : g < 16) :
    leads (.gateSeal 8 true 1) s (fun t => t.on Reg.gateStatusSealed = true ∧
      t.on (Reg.gateGCtrlSealed g) = true ∧ t.get (Reg.gateGCtrlState g) = gateOpen ∧
      (s.get Reg.sysModeGroupKind ∈ [1, 2] → t.on Reg.lckDiagCtrlLock = true) ∧ memKept s t) := by
  obtain ⟨u, hu⟩ : ∃ u, u = s.setBit Reg.gateStatusSealed true := ⟨_, rfl⟩
  obtain ⟨w, hw⟩ : ∃ w, w = if u.get Reg.sysModeGroupKind = 1 ∨ u.get Reg.sysModeGroupKind = 2 then
      u.setBit Reg.lckDiagCtrlLock true else u := ⟨_, rfl⟩
  have hkind : u.get Reg.sysModeGroupKind = s.get Reg.sysModeGroupKind := by
    rw [hu, State.get_setBit_off _ _ _ _ (by decide)]
  have hexec : exec (.gateSeal 8 true 1) s = .next ((List.range 16).foldl opened w) := by
    refine congrArg Host.Outcome.next ((asWindowMaster_um0 s _).trans ?_)
    rw [writeSeal, if_pos (by decide), hw, hu]
    rfl
  obtain ⟨hsealed, hstate, hmem, hlow⟩ := openAll_shows w hg
  refine ⟨_, hexec, ?_, hsealed, hstate, fun hgroup => ?_, memKept_of_mem ?_⟩
  · rw [State.on, State.get, hlow _ (by decide)]
    change w.on Reg.gateStatusSealed = true
    rw [hw, hu]
    split <;> simp -implicitDefEqProofs (disch := decide)
  · rw [State.on, State.get, hlow _ (by decide)]
    change w.on Reg.lckDiagCtrlLock = true
    rw [hw, if_pos (by rw [hkind]; simpa using hgroup), State.on_setBit_self _ _ _ (by decide)]
  · rw [hmem, hw]
    split
    · rw [State.setBit_mem, hu, State.setBit_mem]
    · rw [hu, State.setBit_mem]

end Seal

end Sys2Proof.Machine
end

section
/-! PROOF. The gates' tables (15 R436-R443): the debug port's accesses, the pop of a report, and the closing of a drained gate. -/

namespace Sys2Proof.Machine

section Debug

variable (s : State)

/-- An access of the debug port runs on the tainted module. -/
theorem asWindowMaster_debug (f : State → State) : asWindowMaster masterDebug f s = f (setTaint s) := by
  rw [asWindowMaster_issued s f (by decide) (by simp [issues, masters, masterDebug]), if_pos rfl]

theorem writeEntry_memKept {m : Nat} (p : Bool) (a v : Nat) (hm : m ≠ 8) :
    (writeEntry m p a v s).mem = s.mem ∧ (writeEntry m p a v s).taint = s.taint := by
  have hraised : (s.raise Ev.gateWriteSealed).mem = s.mem ∧ (s.raise Ev.gateWriteSealed).taint = s.taint :=
    ⟨State.raise_mem .., State.on_raise_off _ _ _ (by decide)⟩
  unfold writeEntry
  split
  · rw [if_pos (.inl hm)]
    exact hraised
  · rw [if_pos (.inl hm)]
    exact hraised
  · exact ⟨rfl, rfl⟩

theorem showFifo_mem (g : Nat) : (showFifo g s).mem = s.mem := ((State.OffRings.refl s).showFifo).mem

/-- The registers before GATE stand beside what shows a gate's reports. -/
theorem reg_showFifo {a : Nat} (g : Nat) (ha : a < 0xB0000) : (showFifo g s).reg a = s.reg a := by
  unfold showFifo
  extract_lets l u r v w x y
  rw [State.reg_set_other, State.reg_set_other, State.reg_set_other, State.reg_set_other, State.reg_set_other,
    State.reg_set_other, State.reg_set_other, State.reg_setBit_other, State.reg_setBit_other, State.reg_set_other,
    State.reg_set_other, State.reg_set_other, State.reg_set_other, State.reg_set_other, State.reg_set_other,
    State.reg_set_other]
  all_goals
    simp only [Reg.gateGFifoCount, Reg.gateStatusPending, Reg.gateGAddrLoAddrLo, Reg.gateGAddrHiAddrHi,
      Reg.gateGAddrHiGate, Reg.gateGInfoMaster, Reg.gateGInfoRegion, Reg.gateGInfoWorld, Reg.gateGInfoPriv,
      Reg.gateGInfoKind, Reg.gateGInfoSize, Reg.gateGInfoBurst, Reg.gateGInfoCause, Reg.gateGTK, Reg.gateGTOfsNs,
      Reg.gateGSecSecLo]
    omega

/-- What a report of gate 5 leaves of the taint. -/
theorem violation_taint (w : Who) (addr region size burst cause : Nat) :
    (violation 5 w addr region size burst cause s).taint = s.taint := by
  have hshown (t : State) : (showFifo 5 t).taint = t.taint := State.on_congr (State.get_of_reg (reg_showFifo t 5 (by decide)))
  unfold violation
  extract_lets r full _ u v x
  have hx : x.taint = s.taint := by
    simp only [x]
    split
    · exact (State.on_raise_off _ Reg.sysModeTaint Ev.gateFifoOvf (by decide)).trans (State.on_bump_off _ _ _ _ (by decide))
    · split
      · exact (State.on_raise_off _ Reg.sysModeTaint Ev.gateRingReject (by decide)).trans (hshown _)
      · exact hshown _
  exact (State.on_raise_off _ Reg.sysModeTaint Ev.gateViolation (by decide)).trans hx

/-- A rejected doorbell leaves memory and the taint. -/
theorem writeDoorbell_debug (n v : Nat) :
    (writeDoorbell masterDebug n v s).mem = s.mem ∧ (writeDoorbell masterDebug n v s).taint = s.taint := by
  by_cases hn : 256 ≤ n
  · rw [writeDoorbell, if_pos hn]
    exact ⟨rfl, rfl⟩
  · have hserves := ringServes_debug s (Nat.lt_of_not_le hn)
    refine ⟨(writeDoorbell_rejected (v := v) (Nat.lt_of_not_le hn) hserves).2.2.2, ?_⟩
    rw [writeDoorbell, if_neg hn, if_neg (by simp [hserves])]
    extract_lets u w
    rw [violation_taint]
    exact (State.on_raise_off _ Reg.sysModeTaint Ev.mbxRingFault (by decide)).trans
      (State.on_raise_off _ Reg.sysModeTaint (Ev.rcbReject n) (Ev.apart_of_addr rfl rfl rfl (by
        simp only [Reg.sysModeTaint, Reg.rcbEventReject]
        omega)))

theorem leads_debugAccesses (g : Nat) (p : Bool) (a v : Nat) :
    leads (.gateSeal masterDebug p 1) s (fun t => t.taint = true ∧ memKept s t) ∧
    leads (.gateEntryWrite masterDebug p a v) s (fun t => t.taint = true ∧ memKept s t) ∧
    leads (.rcbDoorbellWrite masterDebug g v) s (fun t => t.taint = true ∧ memKept s t) := by
  have hdebug {t : State} (hmem : t.mem = (setTaint s).mem) (htaint : t.taint = (setTaint s).taint) :
      t.taint = true ∧ memKept s t := ⟨htaint.trans (setTaint_taint s), memKept_of_mem (hmem.trans (setTaint_mem s))⟩
  obtain ⟨hentrym, hentryt⟩ := writeEntry_memKept (setTaint s) p a v (m := masterDebug) (by decide)
  obtain ⟨hdoorm, hdoort⟩ := writeDoorbell_debug (setTaint s) g v
  refine ⟨⟨setTaint s, ?_, hdebug rfl rfl⟩, ⟨_, congrArg Host.Outcome.next (asWindowMaster_debug s _), hdebug hentrym hentryt⟩,
    ⟨_, ?_, hdebug hdoorm hdoort⟩⟩
  · exact congrArg Host.Outcome.next ((asWindowMaster_debug s _).trans (writeSeal_other _ 1 (.inl (by decide))))
  · exact congrArg Host.Outcome.next ((if_pos (by simp [issues, masters, masterDebug])).trans
      (congrArg (writeDoorbell masterDebug g v) (if_pos rfl)))

end Debug

/-! ### Reports (15 R441, R443) -/

protected theorem State.Lasts.logStore {s t : State} (h : s.Lasts t) {source severity code engine : Nat} {data : List Byte} :
    s.Lasts (logStore source severity code engine data t) := by
  unfold Machine.logStore
  exact .set (.ite (.flushLog h.upd) h.upd) (by decide)

protected theorem State.Lasts.logEvent {s t : State} (h : s.Lasts t) {source severity code engine : Nat} {data : List Byte} :
    s.Lasts (logEvent source severity code engine data t) := by
  unfold Machine.logEvent
  exact .ite h.logStore (.ite (.raise (.bump h.upd (by decide)) (by decide))
    (.ite (.logStore h.upd) (.logStore (.logStore h.upd))))

protected theorem State.Lasts.fwLog {s t : State} (h : s.Lasts t) {source : Nat} {data : List Byte} :
    s.Lasts (fwLog source data t) := .logEvent h.upd

theorem showFifo_gate (g : Nat) (s : State) : (showFifo g s).gate = s.gate := by
  unfold showFifo
  simp -implicitDefEqProofs only [State.set_gate, State.setBit_gate]

theorem flushLog_gate (s : State) : (flushLog s).gate = s.gate := by
  unfold flushLog
  split <;> rfl

theorem logStore_gate (source severity code engine : Nat) (data : List Byte) (s : State) :
    (logStore source severity code engine data s).gate = s.gate := by
  unfold logStore
  extract_lets e l _ u
  rw [State.set_gate]
  split
  · exact flushLog_gate u
  · rfl

theorem fwLog_gate (source : Nat) (data : List Byte) (s : State) : (fwLog source data s).gate = s.gate := by
  unfold fwLog logEvent
  simp -implicitDefEqProofs only [apply_ite State.gate, logStore_gate, State.raise_gate, State.bump, State.set_gate]
  split_ifs <;> rfl

/-- The registers of a gate show how many reports it holds and whether it holds any. -/
theorem showFifo_shows {g : Nat} (hg : g < 16) (s : State) (hfull : (s.gate.fifos.getD g []).length < 16) :
    (showFifo g s).get (Reg.gateGFifoCount g) = (s.gate.fifos.getD g []).length ∧
    bitOf ((showFifo g s).get Reg.gateStatusPending) g = !(s.gate.fifos.getD g []).isEmpty := by
  have hmod : (s.gate.fifos.getD g []).length % 2 ^ 5 = (s.gate.fifos.getD g []).length := Nat.mod_eq_of_lt (by omega)
  unfold showFifo
  extract_lets l u r v w x y
  have hlater {f : Fld} (hf : f = Reg.gateGFifoCount g ∨ f = Reg.gateStatusPending) :
      (((y.set (Reg.gateGTK g) r.frame).set (Reg.gateGTOfsNs g) r.ofs).set (Reg.gateGSecSecLo g) r.sec).get f = u.get f := by
    have haddr : f.addr < 0xB1010 + 2048 * g ∧ f.addr ≠ 0xB1000 := by
      obtain rfl | rfl := hf <;> simp only [Reg.gateGFifoCount, Reg.gateStatusPending] <;> omega
    simp only [y, x, w, v]
    rw [State.get_set_off, State.get_set_off, State.get_set_off, State.get_set_off, State.get_set_off,
      State.get_set_off, State.get_set_off, State.get_setBit_off, State.get_setBit_off, State.get_set_off, State.get_set_off,
      State.get_set_off, State.get_set_off, State.get_set_off]
    all_goals
      simp only [Fld.ok, Fld.apart, Bool.and_eq_true, Bool.or_eq_true, decide_eq_true_eq]
      simp only [Reg.gateGAddrLoAddrLo, Reg.gateGAddrHiAddrHi, Reg.gateGAddrHiGate, Reg.gateGInfoMaster, Reg.gateGInfoRegion, Reg.gateGInfoWorld,
        Reg.gateGInfoPriv, Reg.gateGInfoKind, Reg.gateGInfoSize, Reg.gateGInfoBurst, Reg.gateGInfoCause, Reg.gateGTK,
        Reg.gateGTOfsNs, Reg.gateGSecSecLo]
      omega
  have hpending : (Reg.gateStatusPending.ok && Reg.gateStatusPending.apart (Reg.gateGFifoCount g)) = true := by
    simp only [Fld.ok, Fld.apart, Bool.and_eq_true, Bool.or_eq_true, decide_eq_true_eq]
    simp only [Reg.gateStatusPending, Reg.gateGFifoCount]
    omega
  rw [hlater (.inl rfl), hlater (.inr rfl)]
  simp only [u]
  constructor
  · rw [State.get_set_off _ _ _ _ hpending, State.get_set_self _ _ _ (by simp [Fld.ok, Reg.gateGFifoCount])]
    exact hmod
  · rw [State.bitOf_get_set _ _ (by decide) hg, bitOf_withBit, if_pos rfl]

/-- A pop removes the oldest report and enters it in the event log. -/
theorem leads_gatePop {g : Nat} {r : GateReport} {rest : List GateReport} (hg : g < 16) {s : State}
    (hlen : g < s.gate.fifos.length) (hfifo : s.gate.fifos.getD g [] = r :: rest) (hrest : rest.length < 16) :
    leads (.gatePop g 1) s (fun t => t.gate.fifos.getD g [] = rest ∧ t.get (Reg.gateGFifoCount g) = rest.length ∧
      bitOf (t.get Reg.gateStatusPending) g = !rest.isEmpty ∧ memKept s t) := by
  obtain ⟨u, hu⟩ : ∃ u : State, u =
      { s with gate := { s.gate with fifos := listSet s.gate.fifos g (fun _ => rest) } } := ⟨_, rfl⟩
  have hufifo : u.gate.fifos.getD g [] = rest := by
    rw [hu]
    exact getD_listSet_same hlen _ _
  have humem : u.mem = s.mem := by rw [hu]
  have hlogged : (showFifo g u).Lasts (fwLog 3 (reportBytes r) (showFifo g u)) := (State.Lasts.refl _).fwLog
  obtain ⟨hcount, hpending⟩ := showFifo_shows hg u (by rw [hufifo]; exact hrest)
  have hcountAddr : lasting (Reg.gateGFifoCount g).addr = true := by
    rw [lasting, decide_eq_true_eq]
    simp only [Reg.gateGFifoCount]
    omega
  refine ⟨fwLog 3 (reportBytes r) (showFifo g u), ?_, ?_, ?_, ?_, memKept_of_mem ?_⟩
  · change Host.Outcome.next (if bitOf 1 0 && g < 16 then popReport g s else s) = _
    rw [if_pos (by simp [bitOf, hg]), popReport, hfifo, hu]
  · rw [fwLog_gate, showFifo_gate, hufifo]
  · rw [hlogged.get hcountAddr, hcount, hufifo]
  · rw [hlogged.get, hpending, hufifo]
  · rw [hlogged.mem, showFifo_mem, humem]

end Sys2Proof.Machine
end

section
/-! PROOF. A drained gate closes (15 R438), and the obligation on the gates' tables. -/

namespace Sys2Proof.Machine

section Drain

variable {g : Nat} (s : State)

theorem clearEntry_five (ent : Nat) : clearEntry ent 5 s = ((((s.setReg (ent + 4 * 0) 0#32).setReg (ent + 4 * 1) 0#32).setReg
    (ent + 4 * 2) 0#32).setReg (ent + 4 * 3) 0#32).setReg (ent + 4 * 4) 0#32 := rfl

/-- What lies outside an entry's registers stands beside its clearing. -/
theorem reg_clearEntry_other {a ent : Nat} (h : a < ent ∨ ent + 20 ≤ a) : (clearEntry ent 5 s).reg a = s.reg a := by
  rw [clearEntry_five, State.reg_setReg_other, State.reg_setReg_other, State.reg_setReg_other, State.reg_setReg_other,
    State.reg_setReg_other]
  all_goals omega

/-- The five registers of an entry read 0 after it is cleared. -/
theorem reg_clearEntry_same {k ent : Nat} (hk : k < 5) : (clearEntry ent 5 s).reg (ent + 4 * k) = 0#32 :=
  foldl_establishes (f := fun s i => s.setReg (ent + 4 * i) 0#32) (x := k) (inv := fun _ => True)
    (p := fun t => t.reg (ent + 4 * k) = 0#32) (List.mem_range.mpr hk) trivial (fun _ _ _ _ => trivial)
    (fun t _ => State.reg_setReg_same ..)
    (fun t y _ hy ht => (State.reg_setReg_other t _ _ _ (by omega)).trans ht)

theorem clearEntry_mem (ent : Nat) : (clearEntry ent 5 s).mem = s.mem :=
  foldl_keeps State.mem (fun t i => State.setReg_mem t (ent + 4 * i) 0#32) _ s

/-- An entry that is not locked is cleared. -/
def cleared (g : Nat) (s : State) (e : Nat) : State :=
  if s.on (entLock (entAddr g e)) then s else clearEntry (entAddr g e) 5 s

theorem cleared_mem (e : Nat) : (cleared g s e).mem = s.mem := by
  unfold cleared
  split
  · rfl
  · exact clearEntry_mem ..

theorem reg_cleared_other {a e : Nat} (h : a < entAddr g e ∨ entAddr g e + 20 ≤ a) : (cleared g s e).reg a = s.reg a := by
  unfold cleared
  split
  · rfl
  · exact reg_clearEntry_other s h

theorem reg_cleared_same {e k : Nat} (hk : k < 5) : (cleared g s e).reg (entAddr g e + 4 * k) =
    if s.on (entLock (entAddr g e)) = true then s.reg (entAddr g e + 4 * k) else 0#32 := by
  unfold cleared
  split
  · rfl
  · exact reg_clearEntry_same s hk

theorem reg_clearFirst (n : Nat) {e k : Nat} (hk : k < 5) : ((List.range n).foldl (cleared g) s).reg (entAddr g e + 4 * k) =
    if n ≤ e ∨ s.on (entLock (entAddr g e)) = true then s.reg (entAddr g e + 4 * k) else 0#32 := by
  induction n generalizing k with
  | zero => simp
  | succ n ih =>
    rw [List.range_succ, List.foldl_append, List.foldl_cons, List.foldl_nil]
    obtain rfl | hne := eq_or_ne e n
    · have hlock : ((List.range e).foldl (cleared g) s).on (entLock (entAddr g e)) = s.on (entLock (entAddr g e)) :=
        State.on_congr (State.get_of_reg (f := entLock (entAddr g e)) ((ih (k := 2) (by decide)).trans (if_pos (.inl le_rfl))))
      rw [reg_cleared_same _ hk, hlock, ih hk, if_pos (c := e ≤ e ∨ _) (.inl le_rfl)]
      exact if_congr (by simp) rfl rfl
    · rw [reg_cleared_other, ih hk]
      · exact if_congr (or_congr (by omega) Iff.rfl) rfl rfl
      · simp only [entAddr]
        omega

/-- Every entry of a gate is cleared or, locked, keeps its registers. -/
theorem reg_clearAll {e k : Nat} (he : e < 32) (hk : k < 5) :
    ((List.range 32).foldl (cleared g) s).reg (entAddr g e + 4 * k) =
      if s.on (entLock (entAddr g e)) = true then s.reg (entAddr g e + 4 * k) else 0#32 :=
  (reg_clearFirst s 32 hk).trans (if_congr (by simp [Nat.not_le.mpr he]) rfl rfl)

theorem clearAll_beside : ((List.range 32).foldl (cleared g) s).mem = s.mem ∧
    ∀ a, a < entAddr g 0 → ((List.range 32).foldl (cleared g) s).reg a = s.reg a :=
  ⟨foldl_keeps State.mem (fun t e => cleared_mem t e) _ s, fun a ha =>
    foldl_keeps (State.reg · a) (fun t e => reg_cleared_other t (e := e) (.inl (by simp only [entAddr] at ha ⊢; omega))) _ s⟩

/-- The gate reads closed and unsealed. -/
def shut (g : Nat) (s : State) : State := (s.set (Reg.gateGCtrlState g) gateClosed).setBit (Reg.gateGCtrlSealed g) false

theorem reg_shut {a : Nat} (h : a ≠ 0xB1000 + 2048 * g) : (shut g s).reg a = s.reg a := by
  rw [shut, State.reg_setBit_other _ _ _ _ h, State.reg_set_other _ _ _ _ h]

theorem closeGate_eq (hg : g < 15) : closeGate g s = (List.range 32).foldl (cleared g) (shut g s) := if_pos hg

/-- What the closing of a gate shows and leaves. -/
theorem closeGate_shows (hg : g < 15) :
    let t := closeGate g s
    t.get (Reg.gateGCtrlState g) = gateClosed ∧ t.on (Reg.gateGCtrlSealed g) = false ∧ t.mem = s.mem ∧
    t.get (Reg.gateGCtrlDrainAbortCnt g) = s.get (Reg.gateGCtrlDrainAbortCnt g) ∧
    t.on Reg.gateEventDrainAbort = s.on Reg.gateEventDrainAbort ∧
    (∀ e k, e < 32 → k < 5 → t.reg (entAddr g e + 4 * k) =
      if s.on (entLock (entAddr g e)) = true then s.reg (entAddr g e + 4 * k) else 0#32) := by
  rw [closeGate_eq s hg]
  obtain ⟨hmem, hbelow⟩ := clearAll_beside (g := g) (shut g s)
  have hctrl {f : Fld} (hf : f.addr = 0xB1000 + 2048 * g) : ((List.range 32).foldl (cleared g) (shut g s)).get f = (shut g s).get f :=
    State.get_of_reg (hbelow _ (by rw [hf]; simp only [entAddr]; omega))
  have hmemShut : (shut g s).mem = s.mem := (State.setBit_mem ..).trans (State.set_mem ..)
  refine ⟨?_, ?_, hmem.trans hmemShut, ?_, ?_, fun e k he hk => ?_⟩
  · rw [hctrl rfl, shut, State.get_setBit_off _ _ _ _ (by simp [Fld.ok, Fld.apart, Reg.gateGCtrlSealed, Reg.gateGCtrlState]),
      State.get_set_self _ _ _ (by simp [Fld.ok, Reg.gateGCtrlState])]
    rfl
  · rw [State.on_congr (hctrl rfl), shut, State.on_setBit_self _ _ _ (by simp [Fld.ok, Reg.gateGCtrlSealed])]
  · rw [hctrl rfl, shut, State.get_setBit_off, State.get_set_off] <;>
      simp [Fld.ok, Fld.apart, Reg.gateGCtrlSealed, Reg.gateGCtrlState, Reg.gateGCtrlDrainAbortCnt]
  · refine State.on_congr (State.get_of_reg ((hbelow _ ?_).trans (reg_shut s ?_))) <;>
      simp only [Reg.gateEventDrainAbort, entAddr] <;> omega
  · have hentry {j : Nat} : (shut g s).reg (entAddr g e + j) = s.reg (entAddr g e + j) :=
      reg_shut s (by simp only [entAddr]; omega)
    rw [reg_clearAll _ he hk, hentry]
    exact if_congr (by rw [State.on_congr (State.get_of_reg (f := entLock (entAddr g e)) hentry)]) rfl rfl

/-- The accesses that had not completed are ended and counted. -/
def aborted (g n : Nat) (s : State) : State :=
  if n = 0 then s else (s.bump (Reg.gateGCtrlDrainAbortCnt g) n).raise Ev.gateDrainAbort

theorem aborted_shows (n : Nat) :
    (aborted g n s).mem = s.mem ∧
    (∀ e k, e < 32 → k < 5 → (aborted g n s).reg (entAddr g e + 4 * k) = s.reg (entAddr g e + 4 * k)) ∧
    (0 < n → (aborted g n s).on Reg.gateEventDrainAbort = true ∧ (aborted g n s).get (Reg.gateGCtrlDrainAbortCnt g) =
      min 255 (s.get (Reg.gateGCtrlDrainAbortCnt g) + n)) := by
  unfold aborted
  split
  · exact ⟨rfl, fun _ _ _ _ => rfl, by omega⟩
  · refine ⟨(State.raise_mem ..).trans (State.set_mem ..), fun e k _ _ => ?_, fun _ =>
      ⟨State.on_raise_flag _ Ev.gateDrainAbort (by decide), ?_⟩⟩
    · rw [State.reg_raise_other, State.bump, State.reg_set_other]
      · simp only [entAddr, Reg.gateGCtrlDrainAbortCnt]
        omega
      · simp only [entAddr, Ev.gateDrainAbort, Reg.gateEventDrainAbort]
        omega
      · simp only [Ev.gateDrainAbort, Option.mem_def, Option.some.injEq, forall_eq', entAddr, Reg.gateEventCnt0DrainCnt]
        omega
    · rw [State.get_raise_off, State.get_bump_self _ _ _ (by simp [Fld.ok, Reg.gateGCtrlDrainAbortCnt])]
      · rfl
      · simp [Ev.apart, Fld.ok, Fld.apart, Ev.gateDrainAbort, Reg.gateEventDrainAbort, Reg.gateEventCnt0DrainCnt,
          Reg.gateGCtrlDrainAbortCnt]

theorem exec_gateDrainComplete (hg : g < 15) (h : s.get (Reg.gateGCtrlState g) = gateDraining) :
    exec (.gateDrainComplete g) s = .next (closeGate g s) := congrArg Host.Outcome.next (if_pos ⟨by omega, h⟩)

theorem exec_gateDrainTimeout (n : Nat) (hg : g < 15) (h : s.get (Reg.gateGCtrlState g) = gateDraining) :
    exec (.gateDrainTimeout g n) s = .next (closeGate g (aborted g n s)) := congrArg Host.Outcome.next (if_pos ⟨by omega, h⟩)

theorem leads_gateDrain (n : Nat) (hg : g < 15) (h : s.get (Reg.gateGCtrlState g) = gateDraining) :
    (∀ c ∈ [Instr.gateDrainComplete g, .gateDrainTimeout g n], leads c s (fun t =>
      t.get (Reg.gateGCtrlState g) = gateClosed ∧ t.on (Reg.gateGCtrlSealed g) = false ∧ memKept s t ∧
      (∀ e k, e < 32 → k < 5 → t.reg (entAddr g e + 4 * k) =
        if s.on (entLock (entAddr g e)) = true then s.reg (entAddr g e + 4 * k) else 0#32))) ∧
    (0 < n → leads (.gateDrainTimeout g n) s (fun t => t.on Reg.gateEventDrainAbort = true ∧
      t.get (Reg.gateGCtrlDrainAbortCnt g) = min 255 (s.get (Reg.gateGCtrlDrainAbortCnt g) + n))) := by
  obtain ⟨hamem, haent, hashow⟩ := aborted_shows (g := g) s n
  obtain ⟨hstate, hsealed, hmem, hcnt, hflag, hent⟩ := closeGate_shows (aborted g n s) hg
  refine ⟨fun c hc => ?_, fun hn => ⟨_, exec_gateDrainTimeout s n hg h, ?_, ?_⟩⟩
  · simp only [List.mem_cons, List.not_mem_nil, or_false] at hc
    obtain rfl | rfl := hc
    · obtain ⟨hstate', hsealed', hmem', -, -, hent'⟩ := closeGate_shows s hg
      exact ⟨_, exec_gateDrainComplete s hg h, hstate', hsealed', memKept_of_mem hmem', hent'⟩
    · refine ⟨_, exec_gateDrainTimeout s n hg h, hstate, hsealed, memKept_of_mem (hmem.trans hamem), fun e k he hk => ?_⟩
      have hlock : (aborted g n s).on (entLock (entAddr g e)) = s.on (entLock (entAddr g e)) :=
        State.on_congr (State.get_of_reg (f := entLock (entAddr g e)) (haent e 2 he (by decide)))
      rw [hent e k he hk, hlock, haent e k he hk]
  · rw [hflag]
    exact (hashow hn).1
  · rw [hcnt]
    exact (hashow hn).2

end Drain

/-- Settles O24: each clause by the lemma on its command, over the entry tables, the seal, the reports and the closing. -/
theorem gateTables : Obligations.GateTables := by
  intro g s
  exact ⟨fun e v hg he hs hl => leads_gateEntryWrite_takes s v hg he hs hl,
    fun m a p v hpe => exec_gateWrites_pe s a p v hpe,
    fun e m p v hg he hissues hpe h => leads_gateEntryWrite_refused s v hg he hissues hpe h,
    fun e v hg he hs hl => exec_gateEntryWrite_locked s v hg he hs hl,
    fun hg => leads_gateSeal s hg,
    fun m p hm h => exec_gateSeal_other s hm h,
    fun p a v => leads_debugAccesses s g p a v,
    fun r rest hg hlen hfifo hrest => leads_gatePop hg hlen hfifo hrest,
    fun n hg h => leads_gateDrain s n hg h⟩

end Sys2Proof.Machine
end

section
/-! SUPPORT. Registers beside the passage of time (02 R60) and beside a change of role (11 R336), and a bitmap of one unit. -/

namespace Sys2Proof.Machine

/-! ### Registers that elapsed time does not show in -/

/-- The register is of SYS, of a block between the timebase and the checkpoint shown by Hollyhock, or of LCK, MEM or GATE. -/
def timeless (a : Nat) : Bool :=
  decide (a < 0x10000 ∨ (0x20000 ≤ a ∧ a < 0x80820) ∨ (0x90000 ≤ a ∧ a < 0xC0000))

/-- `t` comes from `s` without a write to memory, to what is kept of the pair and of Hollyhock, or to a register that elapsed
time does not show in. -/
structure State.Elapses (s t : State) : Prop where
  mem : t.mem = s.mem
  pair : t.pair = s.pair
  hhk : t.hhk = s.hhk
  reg : ∀ a, timeless a = true → t.reg a = s.reg a

namespace State.Elapses

variable {s t : State}

protected theorem refl (s : State) : s.Elapses s := ⟨rfl, rfl, rfl, fun _ _ => rfl⟩

protected theorem ite {c : Prop} [Decidable c] {u : State} (ht : s.Elapses t) (hu : s.Elapses u) :
    s.Elapses (if c then t else u) := by
  split <;> assumption

protected theorem foldl {α : Type} {f : State → α → State} {l : List α} (h : s.Elapses t)
    (hf : ∀ t, ∀ x ∈ l, s.Elapses t → s.Elapses (f t x)) : s.Elapses (l.foldl f t) := by
  induction l generalizing t with
  | nil => exact h
  | cons x r ih => exact ih (hf t x (by simp) h) fun t y hy => hf t y (by simp [hy])

protected theorem upd (h : s.Elapses t) {mono freeCtr outbox time mbx nvs memi gate fio can cfg ast lsp net prog sec pwr bkd
    pending} :
    s.Elapses (State.mk t.regs t.mem mono freeCtr outbox time mbx t.pair t.hhk nvs memi gate fio can cfg ast lsp net prog sec
      pwr bkd pending) := ⟨h.mem, h.pair, h.hhk, h.reg⟩

protected theorem set (h : s.Elapses t) {f : Fld} {v : Nat} (hf : timeless f.addr = false) : s.Elapses (t.set f v) :=
  ⟨(State.set_mem ..).trans h.mem, (State.set_pair ..).trans h.pair, (State.set_hhk ..).trans h.hhk,
    fun a ha => (State.reg_set_other t f v a (by
    rintro rfl
    rw [hf] at ha
    exact absurd ha (by decide))).trans (h.reg a ha)⟩

protected theorem setBit (h : s.Elapses t) {f : Fld} {b : Bool} (hf : timeless f.addr = false) : s.Elapses (t.setBit f b) :=
  h.set hf

protected theorem raise (h : s.Elapses t) {e : Ev} (hf : timeless e.flag.addr = false)
    (hc : ∀ c ∈ e.cnt, timeless c.addr = false) : s.Elapses (t.raise e) := by
  refine ⟨(State.raise_mem ..).trans h.mem, (State.raise_pair ..).trans h.pair, (State.raise_hhk ..).trans h.hhk,
    fun a ha => (State.reg_raise_other t e a ?_ fun c hcm => ?_).trans (h.reg a ha)⟩
  · rintro rfl
    rw [hf] at ha
    exact absurd ha (by decide)
  · rintro rfl
    rw [hc c hcm] at ha
    exact absurd ha (by decide)

protected theorem setBkd (h : s.Elapses t) {n : Nat} : s.Elapses (t.setBkd n) := by
  unfold State.setBkd
  exact ((h.set (by decide)).set (by decide)).set (by decide)

protected theorem wakeFromPark (h : s.Elapses t) {cause : Nat} : s.Elapses (wakeFromPark cause t) := by
  unfold Machine.wakeFromPark
  split
  · exact ((h.set (by decide)).setBit (by decide)).raise (by decide) (by decide)
  · exact (h.set (by decide)).set (by decide)
  · exact h

protected theorem fireAlarm (h : s.Elapses t) {skipped : Bool} : s.Elapses (fireAlarm skipped t) := by
  unfold Machine.fireAlarm
  have halarm : s.Elapses (t.raise Ev.bkdAlarm) := h.raise (by decide) (by decide)
  have hskip : s.Elapses ((t.raise Ev.bkdAlarm).raiseIf skipped Ev.bkdSkipped) :=
    .ite (halarm.raise (by decide) (by decide)) halarm
  have harm := hskip.setBit (f := Reg.bkdAlarmHiArm) (b := false) (by decide)
  exact .ite harm.wakeFromPark harm

protected theorem bkdAdvance (h : s.Elapses t) {n : Nat} : s.Elapses (bkdAdvance n t) := by
  unfold Machine.bkdAdvance
  have hday (c : Prop) [Decidable c] (t' : State) (ht' : s.Elapses t') (w : Nat) :
      s.Elapses (if c then t' else t'.set Reg.bkdWdWd w) := .ite ht' (ht'.set (by decide))
  exact .ite (hday _ _ h.setBkd _).fireAlarm (hday _ _ h.setBkd _)

protected theorem elapse (h : s.Elapses t) {dt : Nat} : s.Elapses (elapse dt t) := by
  unfold Machine.elapse
  extract_lets ph bkd s1 s2 s3 s4 s5 s6 s7
  have h1 : s.Elapses s1 := h.upd
  have h3 : s.Elapses s3 := h1.bkdAdvance.set (by decide)
  have h4 : s.Elapses s4 := .ite (h3.set (by decide)) h3
  have h6 : s.Elapses s6 := (h4.set (by decide)).setBit (by decide)
  have hage {n : Nat} (hn : n < 3) : timeless (Reg.hhkPairCkptAgeMs n).addr = false :=
    (by decide : ∀ n, n < 3 → timeless (Reg.hhkPairCkptAgeMs n).addr = false) n hn
  have h7 : s.Elapses s7 := h6.foldl fun t n hn ht => by
    split
    · exact ht.set (hage (List.mem_range.mp hn))
    · exact ht
  refine .ite ?_ h7
  refine .set (f := Reg.timHoldTimeSec) ?_ (by decide)
  exact h7.upd

protected theorem toPhase (h : s.Elapses t) {d : Nat} : s.Elapses (toPhase d t) := by
  unfold Machine.toPhase Machine.advanceTo Machine.runCycles State.setNow
  exact .ite (.elapse (.set (.set (.set h.upd (by decide)) (by decide)) (by decide))) h

protected theorem get (h : s.Elapses t) {f : Fld} (hf : timeless f.addr = true := by decide) : t.get f = s.get f :=
  State.get_of_reg (h.reg f.addr hf)

protected theorem on (h : s.Elapses t) {f : Fld} (hf : timeless f.addr = true := by decide) : t.on f = s.on f :=
  State.on_congr (h.get hf)

end State.Elapses

theorem toPhase_elapses (d : Nat) (s : State) : s.Elapses (toPhase d s) := (State.Elapses.refl s).toPhase

/-! ### A change of role (11 R336) -/

theorem followRole_kept (s : State) : s.FaultKept true (followRole s) := (State.FaultKept.refl s).followRole

/-- A module that enters a role has it, with OWN, the claim logic and the lines as they were. -/
theorem enterRole_shows {r : Nat} (hr : r < 8) (s : State) :
    (enterRole r s).role = r ∧ ∀ f : Fld, f.addr = 0x80800 → (enterRole r s).get f = s.get f :=
  ⟨(followRole_kept _).role.trans (role_setRole hr s), fun _ hf =>
    ((followRole_kept _).get_status hf).trans (get_setRole_beside hf r s)⟩

/-- A cancelled handover leaves the role and what PAIR_STATUS shows. -/
theorem reg_cancelHandover {a : Nat} (h : a = 0x10 ∨ a = 0x80800) (s : State) : (cancelHandover s).reg a = s.reg a := by
  unfold cancelHandover
  generalize hv : ({ s with pair := { s.pair with
    handover := none, postponed := 0, handing := false, removal := 0
    swapLed := if s.pair.removal = 0 then s.pair.swapLed else 0 } } : State) = v
  have hfirst : v.reg a = s.reg a := by rw [← hv]; rfl
  have hpub : a ≠ Reg.lspStatusPublishing.addr := by
    simp only [Reg.lspStatusPublishing]
    omega
  have hrunning (i : Nat) : a ≠ (Reg.hhkPairCkptRunning i).addr := by
    simp only [Reg.hhkPairCkptRunning]
    omega
  have hresumed (n : Nat) : ((List.range 3).foldl (fun s i =>
      if bitOf n i then s.setBit (Reg.hhkPairCkptRunning i) true else s) v).reg a = v.reg a :=
    foldl_keeps (State.reg · a) (fun t i => by
      split
      · exact State.reg_setBit_other _ _ _ _ (hrunning i)
      · rfl) _ v
  unfold resumeSingletons showPublishing
  exact (State.reg_setBit_other _ _ _ _ hpub).trans ((hresumed _).trans hfirst)

/-! ### A bitmap of one unit -/

theorem bitOf_two_pow (u v : Nat) : bitOf (2 ^ u) v = decide (u = v) := by
  rw [bitOf_eq_testBit, Nat.testBit_two_pow]

/-- What holds of one number below the bound alone selects it. -/
theorem filter_range_single {p : Nat → Bool} {u n : Nat} (hu : u < n) (hp : p u = true)
    (hother : ∀ v, v ≠ u → p v = false) : (List.range n).filter p = [u] := by
  induction n with
  | zero => omega
  | succ n ih =>
    rw [List.range_succ, List.filter_append, List.filter_singleton]
    obtain rfl | hlt := eq_or_ne n u
    · have hnone : (List.range n).filter p = [] :=
        List.filter_eq_nil_iff.mpr fun v hv => by simp [hother v (List.mem_range.mp hv).ne]
      rw [hnone, hp]
      rfl
    · rw [ih (by omega), hother n hlt]
      rfl

end Sys2Proof.Machine
end

section
/-! PROOF. Comparators, delay parity, checker trees, STATE_SIG, the injected test and debug access (13 R394-R411). -/

namespace Sys2Proof.Machine

section Lockstep

variable {u port : Nat} {s : State}

theorem unitActs_congr {t : State} (h : t.reg 0xC = s.reg 0xC) (u : Nat) :
    unitActs t u = unitActs s u ∧ unitCompares t u = unitCompares s u := by
  have hsplit : t.on Reg.sysModeSplit = s.on Reg.sysModeSplit := State.on_congr (State.get_of_reg h)
  have htaint : t.taint = s.taint := State.on_congr (State.get_of_reg h)
  have hcompares : unitCompares t u = unitCompares s u := by rw [unitCompares, unitCompares, hsplit]
  exact ⟨by rw [unitActs, unitActs, hcompares, htaint], hcompares⟩

theorem unitCompares_of_acts (h : unitActs s u = true) : unitCompares s u = true := by
  rw [unitActs, Bool.and_eq_true] at h
  exact h.1

theorem unitCompares_of_joined (hu : u < 7) (h : s.on Reg.sysModeSplit = false) : unitCompares s u = true := by
  simp [unitCompares, h]
  omega

theorem unitCompares_split (hu : u < 4) (h : s.on Reg.sysModeSplit = true) : unitCompares s u = false := by
  simp [unitCompares, h, hu]

theorem unitActs_tainted (hu : u < 7) (h : s.taint = true) : unitActs s u = false := by
  simp [unitActs, h, hu]

/-- The port of a fault is recorded and outlasts FAILED. -/
theorem fail_port {cls unit : Nat} (hport : port < 256) (restart : Bool) :
    (fail cls unit port restart s).get Reg.lckFaultPort = port := by
  have hkept : (recordFault cls unit port s).FaultKept false (fail cls unit port restart s) := .enterFailed (.refl _)
  rw [hkept.get_lck rfl, recordFault]
  simp -implicitDefEqProofs (disch := decide) [State.get_set_off, State.get_set_self]
  exact Nat.mod_eq_of_lt hport

/-! ### Faults that the reaction of R395 answers -/

theorem leads_comparatorMismatch_acts (hu : u < 16) (hport : port < 255) (hacts : unitActs s u = true) :
    leads (.comparatorMismatch u port) s (fun t => memKept s t ∧ t.get Reg.lckFaultPort = port ∧
      hasFailed (if u < 8 then 1 else 2) u t ∧ t.on (mismatchEv u).flag = true) := by
  have hev : (mismatchEv u).ok = true ∧ lasting (mismatchEv u).flag.addr = true ∧
      0x90014 ≠ (mismatchEv u).flag.addr ∧ 0x90018 ≠ (mismatchEv u).flag.addr := by
    unfold mismatchEv
    split <;> decide
  obtain ⟨hok, hlast, hfault⟩ := hev
  refine ⟨_, congrArg Host.Outcome.next (if_pos hacts), ?_, fail_port (by omega) true,
    fail_hasFailed (by split <;> decide) (by omega) .., ?_⟩
  · exact memKept_of_mem ((fail_runKept ..).1.trans (State.raise_mem ..))
  · rw [State.on_congr (get_fail hlast hfault ..), State.on_raise_flag _ _ hok]

theorem leads_delayPar (hu : u < 7) (hport : port < 255) (h : unitCompares s u = true) :
    leads (.delayPar u port) s (fun t => memKept s t ∧ hasFailed 3 u t ∧ t.get Reg.lckFaultPort = port) :=
  ⟨_, congrArg Host.Outcome.next (if_pos (by simp [hu, h])),
    memKept_of_mem ((fail_runKept ..).1.trans (State.raise_mem ..)), fail_hasFailed (by decide) (by omega) ..,
    fail_port (by omega) true⟩

theorem leads_compFail (hu : u < 16) (h : unitCompares s u = true) :
    leads (.compFail u) s (fun t => memKept s t ∧ hasFailed 5 u t) :=
  ⟨_, congrArg Host.Outcome.next (if_pos h), memKept_of_mem ((fail_runKept ..).1.trans (State.raise_mem ..)),
    fail_hasFailed (by decide) (by omega) ..⟩

/-! ### Recorded only (13 R405) -/

theorem reg_recordOnly {cnt : Fld} (haddr : 0x90100 ≤ cnt.addr) {a : Nat} (ha : a < 0x90000) (s : State) :
    (recordOnly cnt s).reg a = s.reg a := by
  rw [recordOnly, State.reg_raise_other, State.bump, State.reg_set_other _ _ _ _ (by omega)]
  · exact (by change a ≠ 0x90008; omega)
  · intro c hc
    obtain rfl : Reg.lckEventCnt0RecordCnt = c := by simpa [Ev.lckRecord] using hc
    exact (by change a ≠ 0x9000C; omega)

/-- A recorded difference counts in its register and leaves role and ownership. -/
theorem recordOnly_shows {cnt : Fld} (hok : cnt.ok = true) (haddr : 0x90100 ≤ cnt.addr) (s : State) :
    let t := recordOnly cnt s
    t.mem = s.mem ∧ t.role = s.role ∧ t.held = s.held ∧ t.on Ev.lckRecord.flag = true ∧
      t.get cnt = min (2 ^ (cnt.hi + 1 - cnt.lo) - 1) (s.get cnt + 1) := by
  have hother {f : Fld} (hf : f.addr < 0x90000) : (recordOnly cnt s).get f = s.get f :=
    State.get_of_reg (reg_recordOnly haddr hf s)
  refine ⟨(State.raise_mem ..).trans (State.set_mem ..), hother (by decide), State.on_congr (hother (by decide)),
    State.on_raise_flag _ _ (by decide), ?_⟩
  rw [recordOnly, State.get_raise_off, State.get_bump_self _ _ _ hok]
  have hflag : (0x90008 : Nat) ≠ cnt.addr := by omega
  have hcnt : (0x9000C : Nat) ≠ cnt.addr := by omega
  simp [Ev.apart, Fld.apart, Ev.lckRecord, Reg.lckEventRecord, Reg.lckEventCnt0RecordCnt, Fld.ok, hflag, hcnt]

theorem leads_comparatorMismatch_recorded (hu : u < 7) (htaint : s.taint = true) (hsplit : s.on Reg.sysModeSplit = false) :
    leads (.comparatorMismatch u port) s (fun t => memKept s t ∧
      t.role = s.role ∧ t.held = s.held ∧ t.on Ev.lckRecord.flag = true ∧ t.get (Reg.lckUnitRecBusRecCnt u) =
        min (2 ^ ((Reg.lckUnitRecBusRecCnt u).hi + 1 - (Reg.lckUnitRecBusRecCnt u).lo) - 1)
          (s.get (Reg.lckUnitRecBusRecCnt u) + 1)) := by
  obtain ⟨hmem, hshown⟩ := recordOnly_shows (cnt := Reg.lckUnitRecBusRecCnt u) rfl (by
    simp only [Reg.lckUnitRecBusRecCnt]
    omega) s
  exact ⟨_, congrArg Host.Outcome.next ((if_neg (by simp [unitActs_tainted hu htaint])).trans
    (if_pos (unitCompares_of_joined hu hsplit))), memKept_of_mem hmem, hshown⟩

theorem exec_lockstep_split (hu : u < 4) (h : s.on Reg.sysModeSplit = true) : exec (.comparatorMismatch u port) s = .next s ∧
    exec (.delayPar u port) s = .next s ∧ exec (.compFail u) s = .next s := by
  have hcompares := unitCompares_split hu h
  refine ⟨congrArg Host.Outcome.next ((if_neg (by simp [unitActs, hcompares])).trans (if_neg (by simp [hcompares]))),
    congrArg Host.Outcome.next (if_neg (by simp [hcompares])), congrArg Host.Outcome.next (if_neg (by simp [hcompares]))⟩

/-! ### STATE_SIG (13 R401, R405) -/

/-- The units named by a bitmap of one unit, of those that pass. -/
theorem filter_one {p : Nat → Bool} {n : Nat} (hu : u < n) (hp : p u = true) :
    (List.range n).filter (fun v => bitOf (2 ^ u) v && p v) = [u] :=
  filter_range_single hu (by simp [bitOf_two_pow, hp]) fun v hv => by simp [bitOf_two_pow, Ne.symm hv]

theorem filter_none (n : Nat) (p : Nat → Bool) : (List.range n).filter (fun v => bitOf 0 v && p v) = [] :=
  List.filter_eq_nil_iff.mpr fun v _ => by simp [bitOf]

theorem firstActing_one (hu : u < 16) (h : unitActs s u = true) : firstActing (2 ^ u) s = some u := by
  rw [firstActing, ← List.head?_filter, filter_one hu h]
  rfl

theorem firstActing_zero (s : State) : firstActing 0 s = none := by
  rw [firstActing, ← List.head?_filter, filter_none]
  rfl

theorem firstActing_idle (h : unitActs s u = false) : firstActing (2 ^ u) s = none := by
  rw [firstActing, List.find?_eq_none]
  intro v _
  rw [bitOf_two_pow]
  obtain rfl | hne := eq_or_ne u v
  · simp [h]
  · simp [hne]

/-- The units whose difference is recorded only. -/
def recorded13 (m : Nat) (s : State) : List Nat := (List.range 7).filter (fun u => bitOf m u && s.taint && unitCompares s u)

theorem recorded13_clean (m : Nat) (h : s.taint = false) : recorded13 m s = [] :=
  List.filter_eq_nil_iff.mpr fun v _ => by simp [h]

theorem recorded13_zero (s : State) : recorded13 0 s = [] :=
  List.filter_eq_nil_iff.mpr fun v _ => by simp [bitOf]

theorem recorded13_one (hu : u < 7) (h : s.taint = true) (hc : unitCompares s u = true) : recorded13 (2 ^ u) s = [u] := by
  rw [recorded13]
  simp only [Bool.and_assoc]
  exact filter_one hu (by simp [h, hc])

/-- What a comparison of the state signatures does after its instant. -/
def stateSigJudged (differ : Nat) (s : State) : State :=
  let t := (recorded13 differ s).foldl (fun s u => recordOnly (Reg.lckUnitRecStateRecCnt u) s) s
  match firstActing (differ % 128) t with
  | some u => fail 0x04 u 0xFF true (t.raise Ev.lckStateSig)
  | none => t

theorem exec_stateSigCompare_on {d : Nat} {v : State} (hv : v = toPhase 205000 s)
    (h : v.on Reg.lckDiagCtrlStateSigEn = true) : exec (.stateSigCompare d) s = .next (stateSigJudged d v) := by
  subst hv
  exact congrArg Host.Outcome.next (if_neg (by simp [h]))

theorem exec_stateSigCompare_off {d : Nat} (h : s.on Reg.lckDiagCtrlStateSigEn = false) :
    exec (.stateSigCompare d) s = .next (toPhase 205000 s) :=
  congrArg Host.Outcome.next (if_pos (by rw [(toPhase_elapses 205000 s).on, h]; rfl))

theorem two_pow_unit (hu : u < 7) : 2 ^ u % 128 = 2 ^ u :=
  Nat.mod_eq_of_lt (Nat.pow_lt_pow_right (by decide) hu)

theorem leads_stateSigCompare_recorded (hu : u < 7) (htaint : s.taint = true) (hsplit : s.on Reg.sysModeSplit = false)
    (hen : s.on Reg.lckDiagCtrlStateSigEn = true) : leads (.stateSigCompare (2 ^ u)) s (fun t => memKept s t ∧
      t.role = s.role ∧ t.held = s.held ∧ t.on Ev.lckRecord.flag = true ∧ t.get (Reg.lckUnitRecStateRecCnt u) =
        min (2 ^ ((Reg.lckUnitRecStateRecCnt u).hi + 1 - (Reg.lckUnitRecStateRecCnt u).lo) - 1)
          (s.get (Reg.lckUnitRecStateRecCnt u) + 1)) := by
  have hphase := toPhase_elapses 205000 s
  obtain ⟨v, hv⟩ : ∃ v, v = toPhase 205000 s := ⟨_, rfl⟩
  rw [← hv] at hphase
  have hcompares : unitCompares v u = true :=
    (unitActs_congr (hphase.reg 0xC (by decide)) u).2.trans (unitCompares_of_joined hu hsplit)
  have htaint' : v.taint = true := hphase.on.trans htaint
  have hrec : 0x90100 ≤ (Reg.lckUnitRecStateRecCnt u).addr ∧ timeless (Reg.lckUnitRecStateRecCnt u).addr = true := by
    rw [timeless, decide_eq_true_eq]
    simp only [Reg.lckUnitRecStateRecCnt]
    omega
  obtain ⟨hmem, hrole, hheld, hflag, hcnt⟩ := recordOnly_shows (cnt := Reg.lckUnitRecStateRecCnt u) rfl hrec.1 v
  have hidle : unitActs (recordOnly (Reg.lckUnitRecStateRecCnt u) v) u = false := by
    have hmode : (recordOnly (Reg.lckUnitRecStateRecCnt u) v).reg 0xC = v.reg 0xC := reg_recordOnly hrec.1 (by decide) v
    rw [(unitActs_congr hmode u).1, unitActs_tainted hu htaint']
  refine ⟨recordOnly (Reg.lckUnitRecStateRecCnt u) v, ?_, memKept_of_mem (hmem.trans hphase.mem), hrole.trans hphase.get,
    hheld.trans hphase.on, hflag, hcnt.trans ?_⟩
  · rw [exec_stateSigCompare_on hv (hphase.on.trans hen), stateSigJudged, recorded13_one hu htaint' hcompares,
      two_pow_unit hu]
    dsimp only [List.foldl_cons, List.foldl_nil]
    rw [firstActing_idle hidle]
  · rw [hphase.get hrec.2]

theorem exec_stateSigCompare_equal (hen : s.on Reg.lckDiagCtrlStateSigEn = true) :
    exec (.stateSigCompare 0) s = .next (toPhase 205000 s) := by
  have hphase := toPhase_elapses 205000 s
  obtain ⟨v, hv⟩ : ∃ v, v = toPhase 205000 s := ⟨_, rfl⟩
  rw [← hv] at hphase ⊢
  rw [exec_stateSigCompare_on hv (hphase.on.trans hen), stateSigJudged, recorded13_zero]
  dsimp only [List.foldl_nil]
  rw [Nat.zero_mod, firstActing_zero]

theorem leads_stateSigCompare_acts (hu : u < 7) (hen : s.on Reg.lckDiagCtrlStateSigEn = true) (htaint : s.taint = false)
    (hacts : unitActs s u = true) : leads (.stateSigCompare (2 ^ u)) s (fun t => memKept s t ∧ hasFailed 4 u t) := by
  have hphase := toPhase_elapses 205000 s
  obtain ⟨v, hv⟩ : ∃ v, v = toPhase 205000 s := ⟨_, rfl⟩
  rw [← hv] at hphase
  have hacts' : unitActs v u = true := (unitActs_congr (hphase.reg 0xC (by decide)) u).1.trans hacts
  refine ⟨fail 0x04 u 0xFF true (v.raise Ev.lckStateSig), ?_, memKept_of_mem ?_, fail_hasFailed (by decide) (by omega) ..⟩
  · rw [exec_stateSigCompare_on hv (hphase.on.trans hen), stateSigJudged, recorded13_clean _ (hphase.on.trans htaint),
      two_pow_unit hu]
    dsimp only [List.foldl_nil]
    rw [firstActing_one (by omega) hacts']
  · rw [(fail_runKept ..).1, State.raise_mem, hphase.mem]

/-! ### The injected test (13 R398, R399) -/

/-- The units whose injected test fails. -/
def testFailed (failed real : Nat) (s : State) : List Nat :=
  (List.range 16).filter (fun u => unitCompares s u && bitOf failed u && !bitOf real u)

/-- What the injected test shows of the units that failed it. -/
def testShown (m : Nat) (s : State) : State :=
  ((s.wrapUp Reg.lckTestsRunCnt).set Reg.lckTestUnitsFailed m).setBit Reg.lckTestLastOk (m == 0)

theorem exec_injectedComparatorTest_off (f x : Nat) (h : s.on Reg.lckDiagCtrlInjectEn = false) :
    exec (.injectedComparatorTest f x) s = .next (toPhase 224000 s) :=
  congrArg Host.Outcome.next (if_pos (by rw [(toPhase_elapses 224000 s).on, h]; rfl))

theorem testFailed_zero (s : State) : testFailed 0 0 s = [] :=
  List.filter_eq_nil_iff.mpr fun v _ => by simp [bitOf]

theorem testFailed_one (hu : u < 16) (h : unitCompares s u = true) : testFailed (2 ^ u) 0 s = [u] :=
  filter_range_single hu (by simp [h, bitOf]) fun v hv => by simp [bitOf_two_pow, Ne.symm hv]

/-- The reaction to the first unit that failed its test. -/
def testReacted (bad : List Nat) (t : State) : State :=
  match bad with
  | [] => t
  | u :: _ => fail 0x05 u 0xFF true (t.raise Ev.lckCompFail)

/-- The reaction to the first acting unit with a real mismatch. -/
def realReacted (first : Option Nat) (t : State) : State :=
  match first with
  | some u => fail (if u < 8 then 0x01 else 0x02) u 0xFF true (t.raise (mismatchEv u))
  | none => t

/-- What the injected test does after its instant. -/
def testJudged (failed real : Nat) (s : State) : State :=
  let bad := testFailed failed real s
  let t := testReacted bad (testShown (bad.foldl (fun m u => m + 2 ^ u) 0)
    ((recorded13 real s).foldl (fun s u => recordOnly (Reg.lckUnitRecBusRecCnt u) s) s))
  realReacted (firstActing real t) t

theorem testReacted_nil (t : State) : testReacted [] t = t := rfl

theorem testReacted_one (t : State) : testReacted [u] t = fail 0x05 u 0xFF true (t.raise Ev.lckCompFail) := rfl

theorem realReacted_none (t : State) : realReacted none t = t := rfl

theorem exec_injectedComparatorTest_on {f x : Nat} {v : State} (hv : v = toPhase 224000 s)
    (h : v.on Reg.lckDiagCtrlInjectEn = true) : exec (.injectedComparatorTest f x) s = .next (testJudged f x v) := by
  change execInjectedComparatorTest f x s = _
  unfold execInjectedComparatorTest
  rw [← hv]
  simp only [h, Bool.not_true, Bool.false_eq_true, if_false]
  rfl

/-- No real mismatch prevails over the test. -/
theorem testJudged_zero {f : Nat} {bad : List Nat} (h : testFailed f 0 s = bad) :
    testJudged f 0 s = testReacted bad (testShown (bad.foldl (fun m u => m + 2 ^ u) 0) s) := by
  rw [testJudged, recorded13_zero, h, firstActing_zero, realReacted_none, List.foldl_nil]

theorem testShown_shows {m : Nat} (hlt : m < 2 ^ 16) (s : State) :
    (testShown m s).mem = s.mem ∧ (testShown m s).on Reg.lckTestLastOk = (m == 0) ∧
    (testShown m s).get Reg.lckTestUnitsFailed = m ∧ ∀ a, a < 0x90000 → (testShown m s).reg a = s.reg a := by
  refine ⟨?_, State.on_setBit_self _ _ _ (by decide), ?_, fun a ha => ?_⟩
  · rw [testShown, State.setBit_mem, State.set_mem, State.wrapUp, State.set_mem]
  · rw [testShown, State.get_setBit_off _ _ _ _ (by decide), State.get_set_self _ _ _ (by decide)]
    exact Nat.mod_eq_of_lt hlt
  · rw [testShown, State.reg_setBit_other _ _ _ _ (by simp only [Reg.lckTestLastOk]; omega),
      State.reg_set_other _ _ _ _ (by simp only [Reg.lckTestUnitsFailed]; omega), State.wrapUp,
      State.reg_set_other _ _ _ _ (by simp only [Reg.lckTestsRunCnt]; omega)]

theorem leads_injectedComparatorTest_passed (hen : s.on Reg.lckDiagCtrlInjectEn = true) :
    leads (.injectedComparatorTest 0 0) s (fun t => memKept s t ∧ t.on Reg.lckTestLastOk = true ∧
      t.get Reg.lckTestUnitsFailed = 0 ∧ t.role = s.role ∧ t.held = s.held) := by
  have hphase := toPhase_elapses 224000 s
  obtain ⟨v, hv⟩ : ∃ v, v = toPhase 224000 s := ⟨_, rfl⟩
  rw [← hv] at hphase
  obtain ⟨hmem, hok, hunits, hreg⟩ := testShown_shows (m := 0) (by decide) v
  refine ⟨testShown 0 v, ?_, memKept_of_mem (hmem.trans hphase.mem), hok, hunits,
    (State.get_of_reg (hreg _ (by decide))).trans hphase.get,
    (State.on_congr (State.get_of_reg (hreg _ (by decide)))).trans hphase.on⟩
  rw [exec_injectedComparatorTest_on hv (hphase.on.trans hen), testJudged_zero (testFailed_zero v), testReacted_nil, List.foldl_nil]

theorem leads_injectedComparatorTest_failed (hu : u < 16) (hen : s.on Reg.lckDiagCtrlInjectEn = true)
    (h : unitCompares s u = true) : leads (.injectedComparatorTest (2 ^ u) 0) s (fun t => memKept s t ∧
      hasFailed 5 u t ∧ t.on Reg.lckTestLastOk = false ∧ t.get Reg.lckTestUnitsFailed = 2 ^ u) := by
  have hphase := toPhase_elapses 224000 s
  obtain ⟨v, hv⟩ : ∃ v, v = toPhase 224000 s := ⟨_, rfl⟩
  rw [← hv] at hphase
  have hcompares : unitCompares v u = true := (unitActs_congr (hphase.reg 0xC (by decide)) u).2.trans h
  obtain ⟨hmem, hok, hunits, -⟩ := testShown_shows (m := 2 ^ u)
    (Nat.pow_lt_pow_right (by decide) hu) v
  refine ⟨fail 0x05 u 0xFF true ((testShown (2 ^ u) v).raise Ev.lckCompFail), ?_, memKept_of_mem ?_,
    fail_hasFailed (by decide) (by omega) .., ?_, ?_⟩
  · rw [exec_injectedComparatorTest_on hv (hphase.on.trans hen), testJudged_zero (testFailed_one hu hcompares), testReacted_one, List.foldl_cons, List.foldl_nil,
      Nat.zero_add]
  · rw [(fail_runKept ..).1, State.raise_mem, hmem, hphase.mem]
  · rw [State.on_congr (get_fail (by decide) (by decide) ..), State.on_raise_off _ _ _ (by decide), hok]
    have hpos : 2 ^ u ≠ 0 := by positivity
    exact beq_eq_false_iff_ne.mpr hpos
  · rw [get_fail (by decide) (by decide), State.get_raise_off _ _ _ (by decide), hunits]

/-! ### Debug access (13 R405, R406) -/

theorem exec_debugAccess_again (h : s.taint = true) : exec .debugAccess s = .next s :=
  congrArg Host.Outcome.next (setTaint_of_taint s h)

/-- The owner's taint release: OWN is released and the module is STANDBY. -/
theorem tainted_standby (hbench : s.bench = false) (hheld : s.held = true) (hstandby : goodStandby s = true) :
    (tainted s).role = roleStandby ∧ disowned (tainted s) := by
  obtain ⟨w, hw⟩ : ∃ w, w = (s.setBit Reg.sysModeTaint true).raise Ev.lckTaint := ⟨_, rfl⟩
  have hbench' : w.bench = false := by
    rw [hw, State.bench, State.get_raise_off _ _ _ (by decide), State.get_setBit_off _ _ _ _ (by decide)]
    exact hbench
  have hheld' : w.held = true := by
    rw [hw, State.held, State.on_raise_off _ _ _ (by decide), State.on_setBit_off _ _ _ _ (by decide)]
    exact hheld
  have hstandby' : goodStandby w = true := by
    rw [goodStandby, hw, State.raise_pair, State.setBit_pair]
    exact hstandby
  obtain ⟨x, hx⟩ : ∃ x, x = countMove (recordOwn 3 (releaseOwn .hold (toPeers "TAINT_RELEASE"
      [w.get Reg.sysPositionSlotId] w))) := ⟨_, rfl⟩
  have hreleased : disowned x := by
    rw [hx]
    exact releaseOwn_disowned ..
  have hstate : tainted s = enterRole roleStandby (cancelHandover x) := by
    rw [tainted, ← hw, taintRole, hbench', hheld', hstandby', hx]
    rfl
  have hcancelled {f : Fld} (hf : f.addr = 0x80800) : (cancelHandover x).get f = x.get f :=
    State.get_of_reg (reg_cancelHandover (.inr hf) x)
  obtain ⟨hrole, hstatus⟩ := enterRole_shows (r := roleStandby) (by decide) (cancelHandover x)
  rw [hstate]
  exact ⟨hrole, (State.on_congr ((hstatus _ rfl).trans (hcancelled rfl))).trans hreleased.1,
    (State.on_congr ((hstatus _ rfl).trans (hcancelled rfl))).trans hreleased.2⟩

theorem guarantee_refreshLck (h : s.taint = true) : (refreshLck s).on Reg.lckStatusGuarantee = false := by
  unfold refreshLck
  extract_lets _ _ _ t w
  have hw : w.taint = true := by
    have hmode : w.reg 0xC = s.reg 0xC := by
      simp only [w, t]
      rw [State.reg_set_other _ _ _ _ (by decide), State.reg_setBit_other _ _ _ _ (by decide),
        State.reg_setBit_other _ _ _ _ (by decide), State.reg_setBit_other _ _ _ _ (by decide),
        State.reg_setBit_other _ _ _ _ (by decide)]
    exact (State.on_congr (State.get_of_reg (f := Reg.sysModeTaint) hmode)).trans h
  rw [State.on_setBit_self _ _ _ (by decide), hw]
  simp

theorem leads_debugAccess (h : s.taint = false) :
    leads .debugAccess s (fun t => memKept s t ∧ t.taint = true ∧ t.on Ev.lckTaint.flag = true ∧
      t.on Reg.lckStatusGuarantee = false ∧
      (s.bench = false → s.held = true → goodStandby s = true → t.role = roleStandby ∧ t.held = false ∧
        t.on Reg.hhkPairStatusArmed = false)) := by
  have hbeside {f : Fld} (hf : f.addr ≠ 0x90004) : (setTaint s).get f = (tainted s).get f := by
    rw [setTaint_of_clean s h]
    exact State.get_of_reg (reg_refreshLck _ hf)
  refine ⟨_, rfl, memKept_of_mem (setTaint_mem s), setTaint_taint s, ?_, ?_, fun hbench hheld hstandby => ?_⟩
  · rw [State.on_congr (hbeside (by decide)), (tainted_lasts s).on, State.on_raise_flag _ _ (by decide)]
  · rw [setTaint_of_clean s h]
    exact guarantee_refreshLck (tainted_taint s)
  · obtain ⟨hrole, hnot, harmed⟩ := tainted_standby hbench hheld hstandby
    exact ⟨(hbeside (by decide)).trans hrole, (State.on_congr (hbeside (by decide))).trans hnot,
      (State.on_congr (hbeside (by decide))).trans harmed⟩

end Lockstep

/-- Settles O43: each clause by the lemma on its command; the comparisons run after the passage to their instant. -/
theorem lockStepAndItsTests : Obligations.LockStepAndItsTests := by
  intro u port s hu hport
  exact ⟨leads_comparatorMismatch_acts hu hport,
    fun hcompares => ⟨fun hu7 => leads_delayPar hu7 hport hcompares, leads_compFail hu hcompares⟩,
    fun hu7 htaint hsplit => ⟨leads_comparatorMismatch_recorded hu7 htaint hsplit,
      leads_stateSigCompare_recorded hu7 htaint hsplit⟩,
    fun hu4 hsplit => exec_lockstep_split hu4 hsplit,
    fun d hoff => exec_stateSigCompare_off hoff,
    fun hen htaint => ⟨exec_stateSigCompare_equal hen, fun hu7 hacts => leads_stateSigCompare_acts hu7 hen htaint hacts⟩,
    fun f x hoff => exec_injectedComparatorTest_off f x hoff,
    fun hen => ⟨leads_injectedComparatorTest_passed hen, leads_injectedComparatorTest_failed hu hen⟩,
    exec_debugAccess_again, leads_debugAccess⟩

end Sys2Proof.Machine
end

section
/-! SUPPORT. Hollyhock frames (12 R371-R374, R553): what a frame that is used or discarded leaves of the state, and what leaves
the module for its peers. -/

namespace Sys2Proof.Machine

/-! ### A frame arrives (R373, R374, R553) -/

/-- `u` comes from `s` by the acceptance of a frame: the last counter of its sender, what has been seen, and the port that
carries frames. -/
structure State.Accepts (s u : State) : Prop where
  rest : { u with regs := s.regs, hhk := s.hhk } = s
  hhk : { u.hhk with lastCtr := s.hhk.lastCtr, seen := s.hhk.seen } = s.hhk
  get : ∀ f : Fld, Reg.hhkPairStatusHhkUp.apart f = true → u.get f = s.get f

namespace State.Accepts

variable {s u : State}

protected theorem mem (h : s.Accepts u) : u.mem = s.mem := (congrArg State.mem h.rest :)
protected theorem pair (h : s.Accepts u) : u.pair = s.pair := (congrArg State.pair h.rest :)
protected theorem prog (h : s.Accepts u) : u.prog = s.prog := (congrArg State.prog h.rest :)
protected theorem cfg (h : s.Accepts u) : u.cfg = s.cfg := (congrArg State.cfg h.rest :)
protected theorem sec (h : s.Accepts u) : u.sec = s.sec := (congrArg State.sec h.rest :)
protected theorem mono (h : s.Accepts u) : u.mono = s.mono := (congrArg State.mono h.rest :)
protected theorem lsp (h : s.Accepts u) : u.lsp = s.lsp := (congrArg State.lsp h.rest :)
protected theorem mbx (h : s.Accepts u) : u.mbx = s.mbx := (congrArg State.mbx h.rest :)
protected theorem outbox (h : s.Accepts u) : u.outbox = s.outbox := (congrArg State.outbox h.rest :)

protected theorem memKept (h : s.Accepts u) : memKept s u := memKept_of_mem h.mem

protected theorem txCtr (h : s.Accepts u) : u.hhk.txCtr = s.hhk.txCtr := (congrArg HhkSt.txCtr h.hhk :)
protected theorem ctlSeq (h : s.Accepts u) : u.hhk.ctlSeq = s.hhk.ctlSeq := (congrArg HhkSt.ctlSeq h.hhk :)
protected theorem keyMsgs (h : s.Accepts u) : u.hhk.keyMsgs = s.hhk.keyMsgs := (congrArg HhkSt.keyMsgs h.hhk :)
protected theorem oldKeys (h : s.Accepts u) : u.hhk.oldKeys = s.hhk.oldKeys := (congrArg HhkSt.oldKeys h.hhk :)
protected theorem miswired (h : s.Accepts u) : u.hhk.miswired = s.hhk.miswired := (congrArg HhkSt.miswired h.hhk :)
protected theorem exch (h : s.Accepts u) : u.hhk.exch = s.hhk.exch := (congrArg HhkSt.exch h.hhk :)

protected theorem on (h : s.Accepts u) {f : Fld} (hf : Reg.hhkPairStatusHhkUp.apart f = true := by decide) : u.on f = s.on f :=
  State.on_congr (h.get f hf)

protected theorem role (h : s.Accepts u) : u.role = s.role := h.get _ (by decide)
protected theorem held (h : s.Accepts u) : u.held = s.held := h.on
protected theorem triad (h : s.Accepts u) : u.triad = s.triad := by
  rw [State.triad, State.triad, h.get _ (by decide)]

protected theorem facedSlot (h : s.Accepts u) (p : Nat) : Machine.facedSlot u p = Machine.facedSlot s p := by
  simp only [Machine.facedSlot, slotOfRank, pairSlot, h.triad, h.sec, h.get Reg.hhkPairStatusRank (by decide),
    h.get Reg.sysPositionSlotId (by decide)]

protected theorem byPort (h : s.Accepts u) (p dst : Nat) (relayed : Bool) :
    Machine.byPort u p dst relayed = Machine.byPort s p dst relayed := by
  rw [Machine.byPort, Machine.byPort, h.txCtr]

protected theorem bytes (h : s.Accepts u) (a : Nat) : u.byte a = s.byte a := h.memKept a

/-- The frame is noted as seen. -/
protected theorem noted (h : s.Accepts u) (l : List (Nat × Nat × Nat × Nat × Nat)) :
    s.Accepts { u with hhk := { u.hhk with seen := l } } := ⟨h.rest, h.hhk, h.get⟩

end State.Accepts

/-- The state after the acceptance of a frame, before its copies are told apart. -/
def authentic (h : HhkHdr) (s : State) : State :=
  portUp h.port true { s with hhk := { s.hhk with lastCtr := assocSet s.hhk.lastCtr (ctrKey h) (h.counter + 1) } }

theorem State.set_rest (s : State) (f : Fld) (v : Nat) (r : List (Nat × Word)) (k : HhkSt) :
    { s.set f v with regs := r, hhk := k } = { s with regs := r, hhk := k } := rfl

theorem authentic_hhk (h : HhkHdr) (s : State) : (authentic h s).hhk =
    { s.hhk with lastCtr := assocSet s.hhk.lastCtr (ctrKey h) (h.counter + 1) } := State.set_hhk ..

theorem authentic_accepts (h : HhkHdr) (s : State) : s.Accepts (authentic h s) :=
  ⟨State.set_rest .., by rw [authentic_hhk], fun f hf => State.get_set_apart _ Reg.hhkPairStatusHhkUp f _ (by decide) hf⟩

/-- The state after a frame that both ports may carry has been used. -/
def firstCopy (type : Nat) (h : HhkHdr) (s : State) : State :=
  { authentic h s with hhk := { (authentic h s).hhk with
      seen := (type, h.srcSlot, h.frame, h.segment, h.dst) :: (authentic h s).hhk.seen.take 255 } }

theorem firstCopy_accepts (type : Nat) (h : HhkHdr) (s : State) : s.Accepts (firstCopy type h s) :=
  (authentic_accepts h s).noted _

theorem hhkArrive_badTag {type : Nat} {h : HhkHdr} {s : State}
    (ht : (!h.tagOk || (h.underOldKey && !s.hhk.oldKeys.any (fun p => p.1 == h.srcSlot))) = true) :
    hhkArrive type h s = (false, (s.bump (Reg.hhkpErrAuthCnt h.port)).raise Ev.hhkAuthFail) := if_pos ht

theorem hhkArrive_replay {type : Nat} {h : HhkHdr} {s : State}
    (ht : ¬ (!h.tagOk || (h.underOldKey && !s.hhk.oldKeys.any (fun p => p.1 == h.srcSlot))) = true)
    (hc : h.counter < assoc s.hhk.lastCtr (ctrKey h)) :
    hhkArrive type h s = (false, (s.bump (Reg.hhkpErrAuthCnt h.port)).raise Ev.hhkReplay) := (if_neg ht).trans (if_pos hc)

theorem hhkArrive_authentic {type : Nat} {h : HhkHdr} {s : State}
    (ht : ¬ (!h.tagOk || (h.underOldKey && !s.hhk.oldKeys.any (fun p => p.1 == h.srcSlot))) = true)
    (hc : ¬ h.counter < assoc s.hhk.lastCtr (ctrKey h)) :
    hhkArrive type h s =
      (if bitOf (authentic h s).hhk.miswired h.port && type != typeHeartbeat then (false, authentic h s)
      else if type == typeHeartbeat || type == typeDelayReq || type == typeDelayResp then (true, authentic h s)
      else if (authentic h s).hhk.seen.contains (type, h.srcSlot, h.frame, h.segment, h.dst) then (false, authentic h s)
      else (true, firstCopy type h s)) := (if_neg ht).trans (if_neg hc)

/-- A frame that is used has its effect on the state after its acceptance. -/
theorem hhkArrive_used {type : Nat} {h : HhkHdr} {s : State} (hu : frameUsed type h s = true) :
    ∃ u, s.Accepts u ∧ hhkArrive type h s = (true, u) := by
  simp only [frameUsed, Bool.and_eq_true, Bool.or_eq_true, Bool.not_eq_true', decide_eq_true_eq] at hu
  obtain ⟨⟨⟨⟨htag, hkey⟩, hctr⟩, hwired⟩, hfirst⟩ := hu
  have hgood : ¬ (!h.tagOk || (h.underOldKey && !s.hhk.oldKeys.any (fun p => p.1 == h.srcSlot))) = true := by
    rcases hkey with hkey | hkey <;> simp [htag, hkey]
  have hrises : ¬ h.counter < assoc s.hhk.lastCtr (ctrKey h) := by omega
  have hcarries : ¬ (bitOf (authentic h s).hhk.miswired h.port && type != typeHeartbeat) = true := by
    rw [(authentic_accepts h s).miswired]
    rcases hwired with hwired | hwired
    · simp [beq_iff_eq.mp hwired]
    · simp [hwired]
  rw [hhkArrive_authentic hgood hrises, if_neg hcarries]
  by_cases hport : (type == typeHeartbeat || type == typeDelayReq || type == typeDelayResp) = true
  · exact ⟨_, authentic_accepts h s, if_pos hport⟩
  · refine ⟨_, firstCopy_accepts type h s, (if_neg hport).trans (if_neg ?_)⟩
    rw [authentic_hhk]
    have hnew : s.hhk.seen.contains (type, h.srcSlot, h.frame, h.segment, h.dst) = false := by
      rcases hfirst with hper | hnew
      · exact absurd (by simpa [or_assoc] using hper) hport
      · exact hnew
    rw [hnew]
    decide

theorem onFrame_discarded {type : Nat} {h : HhkHdr} {s u : State} (harrive : hhkArrive type h s = (false, u))
    (f : State → State) : onFrame type h f s = u := by
  rw [onFrame, harrive, if_neg (by simp)]

theorem onFrame_used {type : Nat} {h : HhkHdr} {s : State} (hu : frameUsed type h s = true) :
    ∃ u, s.Accepts u ∧ ∀ f, onFrame type h f s = f u := by
  obtain ⟨u, haccepts, harrive⟩ := hhkArrive_used hu
  exact ⟨u, haccepts, fun f => by rw [onFrame, harrive, if_pos rfl]⟩

/-- A discarded frame is counted or not, and leaves memory, the role, the pair, the program and the configuration. -/
structure State.Discards (s u : State) : Prop where
  mem : u.mem = s.mem
  role : u.role = s.role
  pair : u.pair = s.pair
  prog : u.prog = s.prog
  cfg : u.cfg = s.cfg

theorem State.Accepts.discards {s u : State} (h : s.Accepts u) : s.Discards u := ⟨h.mem, h.role, h.pair, h.prog, h.cfg⟩

/-- A frame that fails its tag or its counter is counted. -/
theorem counted_discards (p : Nat) {e : Ev} (he : e = Ev.hhkAuthFail ∨ e = Ev.hhkReplay) (s : State) :
    s.Discards ((s.bump (Reg.hhkpErrAuthCnt p)).raise e) := by
  have hrole : e.apart Reg.sysRoleRole = true := by
    obtain rfl | rfl := he <;> decide
  have hcnt : ((Reg.hhkpErrAuthCnt p).ok && (Reg.hhkpErrAuthCnt p).apart Reg.sysRoleRole) = true := by
    simp only [Fld.ok, Fld.apart, Bool.and_eq_true, Bool.or_eq_true, decide_eq_true_eq]
    simp only [Reg.hhkpErrAuthCnt, Reg.sysRoleRole]
    omega
  refine ⟨(State.raise_mem ..).trans (State.set_mem ..), ?_, (State.raise_pair ..).trans (State.set_pair ..),
    (State.raise_prog ..).trans (State.set_prog ..), (State.raise_cfg ..).trans (State.set_cfg ..)⟩
  exact (State.get_raise_off _ _ _ hrole).trans (State.get_bump_off _ _ _ _ hcnt)

theorem onFrame_unused {type : Nat} {h : HhkHdr} {s : State} (hu : frameUsed type h s = false) :
    ∃ u, s.Discards u ∧ ∀ f, onFrame type h f s = u := by
  suffices harrive : ∃ u, s.Discards u ∧ hhkArrive type h s = (false, u) by
    obtain ⟨u, hdiscards, harrive⟩ := harrive
    exact ⟨u, hdiscards, onFrame_discarded harrive⟩
  by_cases ht : (!h.tagOk || (h.underOldKey && !s.hhk.oldKeys.any (fun p => p.1 == h.srcSlot))) = true
  · exact ⟨_, counted_discards h.port (.inl rfl) s, hhkArrive_badTag ht⟩
  by_cases hc : h.counter < assoc s.hhk.lastCtr (ctrKey h)
  · exact ⟨_, counted_discards h.port (.inr rfl) s, hhkArrive_replay ht hc⟩
  rw [hhkArrive_authentic ht hc]
  by_cases hwired : (bitOf (authentic h s).hhk.miswired h.port && type != typeHeartbeat) = true
  · exact ⟨_, (authentic_accepts h s).discards, if_pos hwired⟩
  rw [if_neg hwired]
  simp only [Bool.or_eq_true, Bool.and_eq_true, Bool.not_eq_true', not_or, not_and, Bool.not_eq_true, Bool.not_eq_false]
    at ht hwired
  obtain ⟨htag, hkey⟩ := ht
  have hcarries : (type == typeHeartbeat || !bitOf s.hhk.miswired h.port) = true := by
    rw [(authentic_accepts h s).miswired] at hwired
    cases hm : bitOf s.hhk.miswired h.port with
    | false => simp
    | true =>
      have hbeat := hwired hm
      simpa using hbeat
  have hkeyed : (!h.underOldKey || s.hhk.oldKeys.any (fun p => p.1 == h.srcSlot)) = true := by
    cases hold : h.underOldKey with
    | false => rfl
    | true => simpa using hkey hold
  simp only [frameUsed, htag, hkeyed, hcarries, decide_eq_true (Nat.le_of_not_lt hc), Bool.true_and, Bool.and_true,
    Bool.or_eq_false_iff, Bool.not_eq_false'] at hu
  obtain ⟨⟨⟨hbeat, hreq⟩, hresp⟩, hseen⟩ := hu
  refine ⟨_, (authentic_accepts h s).discards, (if_neg (by simp [hbeat, hreq, hresp])).trans (if_pos ?_)⟩
  rw [authentic_hhk]
  exact hseen

theorem onFrame_badTag {type : Nat} {h : HhkHdr} {s : State} (f : State → State) (ht : h.tagOk = false) :
    onFrame type h f s = (s.bump (Reg.hhkpErrAuthCnt h.port)).raise Ev.hhkAuthFail := by
  exact onFrame_discarded (hhkArrive_badTag (by simp [ht])) f

theorem onFrame_replay {type : Nat} {h : HhkHdr} {s : State} (f : State → State) (ht : h.tagOk = true)
    (hk : h.underOldKey = false) (hc : h.counter < assoc s.hhk.lastCtr (ctrKey h)) :
    onFrame type h f s = (s.bump (Reg.hhkpErrAuthCnt h.port)).raise Ev.hhkReplay := by
  exact onFrame_discarded (hhkArrive_replay (by simp [ht, hk]) hc) f

end Sys2Proof.Machine
end

section
/-! SUPPORT. What leaves over Hollyhock (12 R371, R372, R553): the frames of a message, and what sending leaves of the state. -/

namespace Sys2Proof.Machine

/-- A message of at most 4096 bytes, or of a kind that is no object, goes in one frame. -/
theorem framesOf_one {kind : String} {data : List Nat} (h : (objectKinds.contains kind && decide (4096 < data.length)) = false)
    (ways : List Route) (seg : Nat) : framesOf ways kind seg data = [.peer ways kind seg true data] := by
  have hone : payloads kind data = [data] := if_neg (by rw [h]; decide)
  have hways : ways.map (fun (w : Route) => { w with counter := w.counter }) = ways := List.map_id _
  rw [framesOf, hone]
  simp only [List.length_cons, List.length_nil, Nat.zero_add, List.range_one, List.map_cons, List.map_nil, Nat.add_zero,
    hways, List.getD_cons_zero, beq_self_eq_true]

theorem payloads_one {kind : String} {data : List Nat} (h : (objectKinds.contains kind && decide (4096 < data.length)) = false) :
    (payloads kind data).length = 1 := by
  rw [payloads, if_neg (by rw [h]; decide)]
  rfl

theorem not_object {kind : String} (hkind : objectKinds.contains kind = false) (data : List Nat) :
    (objectKinds.contains kind && decide (4096 < data.length)) = false := by rw [hkind, Bool.false_and]

/-- `t` comes from `s` by sending messages over Hollyhock. -/
structure State.Sends (s t : State) : Prop where
  rest : { t with outbox := s.outbox, hhk := s.hhk } = s
  heard : t.hhk.heard = s.hhk.heard
  outbox : s.outbox <+: t.outbox

namespace State.Sends

variable {s t u : State}

protected theorem refl (s : State) : s.Sends s := ⟨rfl, rfl, List.prefix_rfl⟩

protected theorem regs (h : s.Sends t) : t.regs = s.regs := (congrArg State.regs h.rest :)
protected theorem mem (h : s.Sends t) : t.mem = s.mem := (congrArg State.mem h.rest :)
protected theorem pair (h : s.Sends t) : t.pair = s.pair := (congrArg State.pair h.rest :)
protected theorem prog (h : s.Sends t) : t.prog = s.prog := (congrArg State.prog h.rest :)
protected theorem cfg (h : s.Sends t) : t.cfg = s.cfg := (congrArg State.cfg h.rest :)
protected theorem sec (h : s.Sends t) : t.sec = s.sec := (congrArg State.sec h.rest :)
protected theorem mono (h : s.Sends t) : t.mono = s.mono := (congrArg State.mono h.rest :)
protected theorem nvs (h : s.Sends t) : t.nvs = s.nvs := (congrArg State.nvs h.rest :)
protected theorem fio (h : s.Sends t) : t.fio = s.fio := (congrArg State.fio h.rest :)

protected theorem memKept (h : s.Sends t) : memKept s t := memKept_of_mem h.mem

protected theorem get (h : s.Sends t) (f : Fld) : t.get f = s.get f := State.get_congr _ _ h.regs f
protected theorem on (h : s.Sends t) (f : Fld) : t.on f = s.on f := State.on_congr (h.get f)
protected theorem role (h : s.Sends t) : t.role = s.role := h.get _
protected theorem held (h : s.Sends t) : t.held = s.held := h.on _

protected theorem trans (h : s.Sends t) (h' : t.Sends u) : s.Sends u := by
  refine ⟨?_, h'.heard.trans h.heard, h.outbox.trans h'.outbox⟩
  have hrest := congrArg (fun (x : State) => ({ x with outbox := s.outbox, hhk := s.hhk } : State)) h'.rest
  exact (hrest :).trans h.rest

protected theorem foldl {α : Type} {f : State → α → State} (hf : ∀ (t : State) x, t.Sends (f t x)) (l : List α) (s : State) :
    s.Sends (l.foldl f s) := by
  induction l generalizing s with
  | nil => exact .refl s
  | cons x r ih => exact (hf s x).trans (ih (f s x))

protected theorem faultKept (h : s.Sends t) : s.FaultKept true t :=
  ⟨h.mem, by rw [h.prog], by rw [h.prog], State.reg_congr _ _ h.regs _,
    fun _ => ⟨h.pair, State.reg_congr _ _ h.regs _, State.reg_congr _ _ h.regs _⟩⟩

end State.Sends

theorem sendBy_sends (ways : List Route) (kind : String) (seg : Nat) (data : List Nat) (s : State) :
    s.Sends (sendBy ways kind seg data s) := ⟨rfl, rfl, List.prefix_append ..⟩

theorem sendNumbered_sends (ways : List Route) (kind : String) (data : List Nat) (s : State) :
    s.Sends (sendNumbered ways kind data s) := by
  unfold sendNumbered
  split
  · exact ⟨rfl, rfl, List.prefix_append ..⟩
  · exact sendBy_sends ..

theorem toPeers_sends (kind : String) (data : List Nat) (s : State) : s.Sends (toPeers kind data s) := sendNumbered_sends ..

theorem toMember_sends (slot : Nat) (kind : String) (data : List Nat) (s : State) : s.Sends (toMember slot kind data s) :=
  sendNumbered_sends ..

theorem toPort_sends (p : Nat) (kind : String) (data : List Nat) (s : State) : s.Sends (toPort p kind data s) := by
  unfold toPort
  split
  · exact .refl s
  · exact sendBy_sends ..

theorem sendJoin_sends (s : State) : s.Sends (sendJoin s) := toPeers_sends ..

theorem askObjects_sends (s : State) : s.Sends (askObjects s) := State.Sends.foldl (fun _ _ => toPeers_sends ..) _ s

theorem refuseJoin_sends (slot : Nat) (s : State) : s.Sends (refuseJoin slot s) :=
  (toMember_sends ..).trans (toPeers_sends ..)

/-- A CONTROL or KEY message leaves in one frame with the next sequence number. -/
theorem sendNumbered_numbered {kind : String} (hnum : numberedKinds.contains kind = true)
    (hobj : objectKinds.contains kind = false) (ways : List Route) (data : List Nat) (s : State) :
    (sendNumbered ways kind data s).outbox = s.outbox ++ [.peer ways kind s.hhk.ctlSeq true data] ∧
    (sendNumbered ways kind data s).hhk.ctlSeq = (s.hhk.ctlSeq + 1) % 65536 := by
  rw [sendNumbered, if_pos hnum]
  exact ⟨congrArg (s.outbox ++ ·) (framesOf_one (not_object hobj data) ..), rfl⟩

/-- A message of another kind leaves in one frame where it is short. -/
theorem sendNumbered_plain {kind : String} (hnum : numberedKinds.contains kind = false) {data : List Nat}
    (hone : (objectKinds.contains kind && decide (4096 < data.length)) = false) (ways : List Route) (s : State) :
    (sendNumbered ways kind data s).outbox = s.outbox ++ [.peer ways kind 0 true data] ∧
    (sendNumbered ways kind data s).hhk.ctlSeq = s.hhk.ctlSeq := by
  rw [sendNumbered, if_neg (by rw [hnum]; decide)]
  exact ⟨congrArg (s.outbox ++ ·) (framesOf_one hone ..), rfl⟩

/-- A port that carries frames sends a short message of its own. -/
theorem toPort_sent {p : Nat} {kind : String} {data : List Nat} {s : State}
    (hone : (objectKinds.contains kind && decide (4096 < data.length)) = false)
    (hwired : kind = "HEARTBEAT" ∨ portWired s p = true) :
    (toPort p kind data s).outbox = s.outbox ++ [.peer [byPort s p (facedSlot s p) false] kind 0 true data] ∧
    (toPort p kind data s).hhk = { s.hhk with txCtr := listSet s.hhk.txCtr p (· + 1) } := by
  have hleaves : ¬ (kind ≠ "HEARTBEAT" && !portWired s p) = true := by
    rcases hwired with rfl | hwired
    · simp
    · simp [hwired]
  rw [toPort, if_neg hleaves]
  refine ⟨congrArg (s.outbox ++ ·) (framesOf_one hone ..), ?_⟩
  unfold sendBy
  rw [payloads_one hone]
  rfl

/-! ### Frames for another member (12 R381) -/

theorem portFacing_lt (s : State) (slot : Nat) : portFacing s slot < 2 := by
  unfold portFacing
  split <;> decide

end Sys2Proof.Machine
end

section
/-! PROOF. Hollyhock lanes (12 R369, R370, R391). -/

namespace Sys2Proof.Machine

section Lanes

variable {p l : Nat} {s : State}

/-- A lane's field lies in the link register of its port. -/
theorem laneFld_cases (l : Nat) (p : Nat) : (laneFld p l).addr = 0x80100 + 16 * p ∧ (laneFld p l).ok = true ∧
    (laneFld p l).hi + 1 - (laneFld p l).lo = 3 ∧ 26 ≤ (laneFld p l).lo := by
  unfold laneFld
  split
  · exact ⟨rfl, rfl, rfl, (by decide : 26 ≤ 29)⟩
  · exact ⟨rfl, rfl, rfl, (by decide : 26 ≤ 26)⟩

/-- A field that is of no lane and shows none. -/
def Fld.offLane (p l : Nat) (f : Fld) : Bool :=
  (laneFld p l).apart f && Reg.hhkStatusLaneUp.apart f && Reg.hhkStatusDegraded.apart f

theorem get_showLanes {f : Fld} (h : (Reg.hhkStatusLaneUp.apart f && Reg.hhkStatusDegraded.apart f) = true) (s : State) :
    (showLanes s).get f = s.get f := by
  rw [Bool.and_eq_true] at h
  obtain ⟨hup, hdeg⟩ := h
  unfold showLanes
  exact (State.get_set_apart _ _ _ _ (by decide) hdeg).trans (State.get_set_apart _ _ _ _ (by decide) hup)

theorem showLanes_mem (s : State) : (showLanes s).mem = s.mem := (State.set_mem ..).trans (State.set_mem ..)

theorem laneUp_showLanes {i : Nat} (hi : i < 4) (s : State) :
    bitOf ((showLanes s).get Reg.hhkStatusLaneUp) i = decide (s.get (laneFld (i / 2) (i % 2)) = laneUp) := by
  have hup : (List.range 4).foldl (fun m i => if s.get (laneFld (i / 2) (i % 2)) = laneUp then m + 2 ^ i else m) 0 =
      bitmap 4 (fun i => decide (s.get (laneFld (i / 2) (i % 2)) = laneUp)) := by
    unfold bitmap
    simp only [decide_eq_true_eq]
  unfold showLanes
  rw [State.get_set_apart _ _ _ _ (by decide) (by decide), State.bitOf_get_set _ _ (by decide) hi, hup, bitOf_bitmap,
    decide_eq_true hi, Bool.true_and]

theorem laneMove_mem (before after : Nat) (s : State) : (laneMove p l before after s).mem = s.mem := by
  unfold laneMove
  split
  · exact (showLanes_mem _).trans (State.set_mem ..)
  · rfl

theorem get_laneMove_off {f : Fld} (h : f.offLane p l = true) (before after : Nat) (s : State) :
    (laneMove p l before after s).get f = s.get f := by
  simp only [Fld.offLane, Bool.and_eq_true] at h
  obtain ⟨⟨hlane, hup⟩, hdeg⟩ := h
  unfold laneMove
  split
  · exact (get_showLanes (by rw [hup, hdeg]; rfl) _).trans (State.get_set_apart _ _ _ _ (laneFld_cases l p).2.1 hlane)
  · rfl

theorem laneFld_shown (l p : Nat) : (Reg.hhkStatusLaneUp.apart (laneFld p l) && Reg.hhkStatusDegraded.apart (laneFld p l)) = true := by
  obtain ⟨haddr, -⟩ := laneFld_cases l p
  simp only [Fld.apart, haddr, Bool.and_eq_true, Bool.or_eq_true, decide_eq_true_eq]
  simp only [Reg.hhkStatusLaneUp, Reg.hhkStatusDegraded]
  omega

theorem get_laneMove {after : Nat} (hafter : after < 8) (before : Nat) (s : State) :
    (laneMove p l before after s).get (laneFld p l) = if s.get (laneFld p l) = before then after else s.get (laneFld p l) := by
  obtain ⟨-, hok, hwidth, -⟩ := laneFld_cases l p
  unfold laneMove
  split
  · rw [get_showLanes (laneFld_shown l p), State.get_set_same _ _ _ hok, hwidth]
    exact Nat.mod_eq_of_lt hafter
  · rfl

/-- The lane that has moved is shown as it stands. -/
theorem laneUp_laneMove (hp : p < 2) (hl : l < 2) {before after : Nat} (hafter : after < 8)
    (h : s.get (laneFld p l) = before) :
    bitOf ((laneMove p l before after s).get Reg.hhkStatusLaneUp) (2 * p + l) = decide (after = laneUp) := by
  obtain ⟨-, hok, hwidth, -⟩ := laneFld_cases l p
  rw [laneMove, if_pos h, laneUp_showLanes (by omega), show (2 * p + l) / 2 = p by omega, show (2 * p + l) % 2 = l by omega,
    State.get_set_same _ _ _ hok, hwidth, Nat.mod_eq_of_lt (show after < 2 ^ 3 from hafter)]

/-- A field below the lanes' bits of a register, or of another register than the lane's and HHK_STATUS. -/
theorem offLane_of_addr {f : Fld} (hlane : f.addr ≠ 0x80100 + 16 * p) (hstatus : f.addr ≠ 0x80004) : f.offLane p l = true := by
  obtain ⟨haddr, -⟩ := laneFld_cases l p
  have hup : Reg.hhkStatusLaneUp.addr ≠ f.addr := Ne.symm hstatus
  have hdeg : Reg.hhkStatusDegraded.addr ≠ f.addr := Ne.symm hstatus
  simp only [Fld.offLane, Fld.apart_of_addr (haddr ▸ Ne.symm hlane), Fld.apart_of_addr hup, Fld.apart_of_addr hdeg, Bool.and_self]

theorem role_laneMove (hp : p < 2) (before after : Nat) (s : State) : (laneMove p l before after s).role = s.role :=
  get_laneMove_off (offLane_of_addr (by change 0x10 ≠ _; omega) (by decide)) ..

theorem leads_laneTrainComplete (hp : p < 2) (cv : Bool) :
    leads (.laneTrainComplete p l cv) s (fun t => memKept s t ∧ t.role = s.role ∧ t.get (laneFld p l) =
      (if s.get (laneFld p l) = laneTrain then (if cv then laneCheck else laneDown) else s.get (laneFld p l))) :=
  ⟨_, rfl, memKept_of_mem (laneMove_mem ..), role_laneMove hp .., get_laneMove (by cases cv <;> decide) ..⟩

theorem leads_laneCheckComplete (hp : p < 2) :
    leads (.laneCheckComplete p l) s (fun t => memKept s t ∧ t.role = s.role ∧ t.get (laneFld p l) =
      (if s.get (laneFld p l) = laneCheck then laneReady else s.get (laneFld p l))) :=
  ⟨_, rfl, memKept_of_mem (laneMove_mem ..), role_laneMove hp .., get_laneMove (by decide) ..⟩

/-- The count of errored blocks and of lost frames stands beside the lanes. -/
theorem get_bump_errors {c f : Fld} (hc : c.addr = 0x80104 + 16 * p ∧ c.ok = true) (hf : f.addr ≠ 0x80104 + 16 * p)
    (n : Nat) (s : State) : (s.bump c n).get f = s.get f :=
  State.get_set_apart _ _ _ _ hc.2 (Fld.apart_of_addr (by rw [hc.1]; exact Ne.symm hf))

theorem leads_laneErroredBlock (hp : p < 2) :
    leads (.laneErroredBlock p l) s (fun t => memKept s t ∧ t.role = s.role ∧ t.get (laneFld p l) =
      (if s.get (laneFld p l) = laneCheck then laneTrain else s.get (laneFld p l)) ∧
      t.get (Reg.hhkpErrBlockErrCnt p) = min 255 (s.get (Reg.hhkpErrBlockErrCnt p) + 1)) := by
  obtain ⟨haddr, -⟩ := laneFld_cases l p
  have hbeside {f : Fld} (hf : f.addr ≠ 0x80104 + 16 * p) : (s.bump (Reg.hhkpErrBlockErrCnt p)).get f = s.get f :=
    get_bump_errors ⟨rfl, rfl⟩ hf 1 s
  refine ⟨laneMove p l laneCheck laneTrain (s.bump (Reg.hhkpErrBlockErrCnt p)), rfl, memKept_of_mem ?_, ?_, ?_, ?_⟩
  · exact (laneMove_mem ..).trans (State.set_mem ..)
  · exact (role_laneMove hp ..).trans (hbeside (by change 0x10 ≠ _; omega))
  · rw [get_laneMove (by decide), hbeside (by omega)]
  · rw [get_laneMove_off (offLane_of_addr (by simp only [Reg.hhkpErrBlockErrCnt]; omega)
      (by simp only [Reg.hhkpErrBlockErrCnt]; omega)), State.get_bump_self _ _ _ rfl]
    rfl

theorem leads_laneRetrain (hp : p < 2) :
    leads (.laneRetrain p l) s (fun t => memKept s t ∧ t.role = s.role ∧ t.get (laneFld p l) =
      (if s.get (laneFld p l) = laneDown ∧ s.hhk.enabled.getD p false = true then laneTrain
        else s.get (laneFld p l))) := by
  by_cases hen : s.hhk.enabled.getD p false = true
  · refine ⟨_, congrArg Host.Outcome.next (if_pos hen), memKept_of_mem (laneMove_mem ..), role_laneMove hp .., ?_⟩
    rw [get_laneMove (by decide)]
    exact if_congr (by rw [hen]; simp) rfl rfl
  · exact ⟨_, congrArg Host.Outcome.next (if_neg hen), fun _ => rfl, rfl, (if_neg (fun h => hen h.2)).symm⟩

theorem exec_laneRebond_idle (h : s.get (laneFld p l) ≠ laneReady) : exec (.laneRebond p l) s = .next s :=
  congrArg Host.Outcome.next (if_neg h)

theorem laneFld_timeless (hp : p < 2) : timeless (laneFld p l).addr = true := by
  rw [timeless, decide_eq_true_eq, (laneFld_cases l p).1]
  omega

theorem get_raise_lane {f : Fld} {e : Ev} (he : e = Ev.hhkLaneBack ∨ e = Ev.hhkLaneLost) (hlo : f.addr ≠ 0x80008)
    (hcnt : f.addr ≠ 0x8000C ∧ f.addr ≠ 0x80010) (s : State) : (s.raise e).get f = s.get f := by
  refine State.get_of_reg (State.reg_raise_other s e _ ?_ ?_)
  · obtain rfl | rfl := he <;> exact hlo
  · obtain rfl | rfl := he <;>
      simp only [Ev.hhkLaneBack, Ev.hhkLaneLost, Option.mem_def, Option.some.injEq, forall_eq']
    · exact hcnt.1
    · exact hcnt.2

theorem leads_laneRebond (hp : p < 2) (hl : l < 2) (h : s.get (laneFld p l) = laneReady) :
    leads (.laneRebond p l) s (fun t => memKept s t ∧ t.role = s.role ∧ t.get (laneFld p l) = laneUp ∧
      t.on Ev.hhkLaneBack.flag = true ∧ bitOf (t.get Reg.hhkStatusLaneUp) (2 * p + l) = true) := by
  obtain ⟨haddr, -⟩ := laneFld_cases l p
  have hphase := toPhase_elapses 100000 s
  obtain ⟨u, hu⟩ : ∃ u, u = toPhase 100000 s := ⟨_, rfl⟩
  rw [← hu] at hphase
  have hready : u.get (laneFld p l) = laneReady := (hphase.get (laneFld_timeless hp)).trans h
  refine ⟨(laneMove p l laneReady laneUp u).raise Ev.hhkLaneBack, ?_, memKept_of_mem ?_, ?_, ?_,
    State.on_raise_flag _ _ (by decide), ?_⟩
  · exact congrArg Host.Outcome.next ((if_pos h).trans (by rw [hu]))
  · rw [State.raise_mem, laneMove_mem, hphase.mem]
  · rw [State.role, get_raise_lane (.inl rfl) (by decide) (by decide)]
    exact (role_laneMove hp ..).trans hphase.get
  · rw [get_raise_lane (.inl rfl) (by omega) (by omega), get_laneMove (by decide), if_pos hready]
  · rw [get_raise_lane (.inl rfl) (by decide) (by decide), laneUp_laneMove hp hl (by decide) hready]
    rfl

theorem exec_laneLost_idle (h : s.get (laneFld p l) ≠ laneUp) (k : Nat) : exec (.laneLost p l k) s = .next s :=
  congrArg Host.Outcome.next (if_pos h)

/-- A lane that was UP is lost: what its port still shows. -/
def laneFallen (p l k : Nat) (s : State) : State :=
  ((laneMove p l laneUp laneDown s).raise Ev.hhkLaneLost).bump (Reg.hhkpErrLostFrameCnt p) k

theorem laneFallen_shows (hp : p < 2) (hl : l < 2) (h : s.get (laneFld p l) = laneUp) (k : Nat) :
    (laneFallen p l k s).mem = s.mem ∧ (laneFallen p l k s).get (laneFld p l) = laneDown ∧
    (laneFallen p l k s).on Ev.hhkLaneLost.flag = true ∧
    bitOf ((laneFallen p l k s).get Reg.hhkStatusLaneUp) (2 * p + l) = false ∧
    (laneFallen p l k s).get (Reg.hhkpErrLostFrameCnt p) = min 255 (s.get (Reg.hhkpErrLostFrameCnt p) + k) ∧
    (laneFallen p l k s).get (laneFld p (1 - l)) = s.get (laneFld p (1 - l)) ∧
    ∀ f : Fld, f.addr < 0x80000 ∨ f.addr = 0x80800 → (laneFallen p l k s).get f = s.get f := by
  obtain ⟨haddr, -⟩ := laneFld_cases l p
  obtain ⟨haddr', -⟩ := laneFld_cases (1 - l) p
  have hcount {f : Fld} (hf : f.addr ≠ 0x80104 + 16 * p) :
      (laneFallen p l k s).get f = ((laneMove p l laneUp laneDown s).raise Ev.hhkLaneLost).get f :=
    get_bump_errors ⟨rfl, rfl⟩ hf k _
  refine ⟨?_, ?_, ?_, ?_, ?_, ?_, fun f hf => ?_⟩
  · rw [laneFallen, State.bump, State.set_mem, State.raise_mem, laneMove_mem]
  · rw [hcount (by omega), get_raise_lane (.inr rfl) (by omega) (by omega), get_laneMove (by decide), if_pos h]
  · rw [State.on_congr (hcount (by change 0x80008 ≠ _; omega)), State.on_raise_flag _ _ (by decide)]
  · rw [hcount (by change 0x80004 ≠ _; omega), get_raise_lane (.inr rfl) (by decide) (by decide),
      laneUp_laneMove hp hl (by decide) h]
    rfl
  · rw [laneFallen, State.get_bump_self _ _ _ rfl, get_raise_lane (.inr rfl) (by simp only [Reg.hhkpErrLostFrameCnt]; omega)
      (by simp only [Reg.hhkpErrLostFrameCnt]; omega), get_laneMove_off (offLane_of_addr
      (by simp only [Reg.hhkpErrLostFrameCnt]; omega) (by simp only [Reg.hhkpErrLostFrameCnt]; omega))]
    rfl
  · rw [hcount (by omega), get_raise_lane (.inr rfl) (by omega) (by omega), get_laneMove_off]
    have hdisjoint : (laneFld p l).apart (laneFld p (1 - l)) = true := by
      obtain rfl | rfl : l = 0 ∨ l = 1 := by omega
      · simp [laneFld, Fld.apart, Reg.hhkpLinkLane0State, Reg.hhkpLinkLane1State]
      · simp [laneFld, Fld.apart, Reg.hhkpLinkLane0State, Reg.hhkpLinkLane1State]
    have hshown := laneFld_shown (1 - l) p
    rw [Bool.and_eq_true] at hshown
    rw [Fld.offLane, hdisjoint, hshown.1, hshown.2]
    rfl
  · rw [hcount (by omega), get_raise_lane (.inr rfl) (by omega) (by omega), get_laneMove_off (offLane_of_addr (by omega) (by omega))]

theorem lanesUp_zero (hl : l < 2) {u : State} (h : u.get (laneFld p l) = laneDown) :
    lanesUp u p = 0 ↔ u.get (laneFld p (1 - l)) ≠ laneUp := by
  obtain rfl | rfl : l = 0 ∨ l = 1 := by omega
  · rw [lanesUp, h, if_neg (by decide), Nat.zero_add, Nat.sub_zero]
    split
    next hup => simp [hup]
    next hup => simp [hup]
  · rw [lanesUp, h, if_neg (c := laneDown = laneUp) (by decide), Nat.add_zero, Nat.sub_self]
    split
    next hup => simp [hup]
    next hup => simp [hup]

/-- The port is lost with its last lane. -/
def portFallen (p : Nat) (u : State) : State :=
  if lanesUp u p = 0 ∧ bitOf (u.get Reg.hhkPairStatusHhkUp) p then (portUp p false u).raise Ev.hhkPairHhkLost else u

theorem portFallen_mem (p : Nat) (u : State) : (portFallen p u).mem = u.mem := by
  unfold portFallen
  split
  · exact (State.raise_mem ..).trans (State.set_mem ..)
  · rfl

theorem get_portFallen {f : Fld} (h : f.addr < 0x80800) (p : Nat) (u : State) : (portFallen p u).get f = u.get f := by
  unfold portFallen
  split
  · refine (State.get_of_reg (State.reg_raise_other _ _ _ (by change f.addr ≠ 0x80804; omega) ?_)).trans
      (State.get_of_reg (State.reg_set_other _ _ _ _ (by change f.addr ≠ 0x80800; omega)))
    simp only [Ev.hhkPairHhkLost, Reg.hhkPairEventCnt1HhkLostCnt, Option.mem_def, Option.some.injEq, forall_eq']
    omega
  · rfl

theorem up_portFallen (hp : p < 2) (u : State) : bitOf ((portFallen p u).get Reg.hhkPairStatusHhkUp) p =
    (bitOf (u.get Reg.hhkPairStatusHhkUp) p && decide (lanesUp u p ≠ 0)) := by
  unfold portFallen
  split
  next h =>
    rw [State.get_raise_off _ _ _ (by decide), portUp, State.bitOf_get_set _ _ (by decide) hp, bitOf_withBit, if_pos rfl]
    simp [h.1]
  next h =>
    by_cases hz : lanesUp u p = 0
    · simp only [hz, true_and, Bool.not_eq_true] at h
      simp [h]
    · simp [hz]

theorem leads_laneLost (hp : p < 2) (hl : l < 2) (h : s.get (laneFld p l) = laneUp) (k : Nat) :
    leads (.laneLost p l k) s (fun t => memKept s t ∧ t.role = s.role ∧ t.get (laneFld p l) = laneDown ∧
      t.on Ev.hhkLaneLost.flag = true ∧ bitOf (t.get Reg.hhkStatusLaneUp) (2 * p + l) = false ∧
      t.get (Reg.hhkpErrLostFrameCnt p) = min 255 (s.get (Reg.hhkpErrLostFrameCnt p) + k) ∧
      bitOf (t.get Reg.hhkPairStatusHhkUp) p =
        (bitOf (s.get Reg.hhkPairStatusHhkUp) p && decide (s.get (laneFld p (1 - l)) = laneUp))) := by
  obtain ⟨haddr, -⟩ := laneFld_cases l p
  obtain ⟨hmem, hlane, hflag, hshown, hcnt, hother, hbeside⟩ := laneFallen_shows hp hl h k
  obtain ⟨u, hu⟩ : ∃ u, u = laneFallen p l k s := ⟨_, rfl⟩
  rw [← hu] at hmem hlane hflag hshown hcnt hother hbeside
  refine ⟨portFallen p u, ?_, memKept_of_mem ((portFallen_mem p u).trans hmem), ?_, ?_, ?_, ?_, ?_, ?_⟩
  · exact congrArg Host.Outcome.next ((if_neg (by simp [h])).trans (by rw [hu]; rfl))
  · exact (get_portFallen (by decide) p u).trans (hbeside _ (.inl (by decide)))
  · rw [get_portFallen (by omega), hlane]
  · rw [State.on_congr (get_portFallen (by decide) p u), hflag]
  · rw [get_portFallen (by decide), hshown]
  · rw [get_portFallen (by simp only [Reg.hhkpErrLostFrameCnt]; omega), hcnt]
  · rw [up_portFallen hp, hbeside _ (.inr rfl), ← hother]
    congr 1
    exact decide_eq_decide.mpr (by rw [Ne, lanesUp_zero hl hlane, not_not])

end Lanes

end Sys2Proof.Machine
end

section
/-! SUPPORT. The review of the time (02 R43, R49, R53, R65) and the servo (02 R57) leave memory, the pair, Hollyhock and the
registers of the other blocks. -/

namespace Sys2Proof.Machine

namespace State.Elapses

variable {s t : State}

protected theorem raiseIf (h : s.Elapses t) {b : Bool} {e : Ev} (hf : timeless e.flag.addr = false)
    (hc : ∀ c ∈ e.cnt, timeless c.addr = false) : s.Elapses (t.raiseIf b e) := .ite (h.raise hf hc) h

protected theorem refreshQuality (h : s.Elapses t) : s.Elapses (refreshQuality t) := by
  unfold Machine.refreshQuality Machine.showPrio
  extract_lets q was s1 s2 time s3
  have h2 : s.Elapses s2 :=
    ((((h.set (by decide)).set (by decide)).setBit (by decide)).setBit (by decide)).setBit (by decide)
  have h3 : s.Elapses s3 := .ite h2 (.set (f := Reg.timHoldTimeSec) h2.upd (by decide))
  exact (h3.set (by decide)).raiseIf (by decide) (by decide)

protected theorem setTaiUtc (h : s.Elapses t) {known : Bool} {offset : Nat} {leap61 leap59 : Bool} :
    s.Elapses (setTaiUtc known offset leap61 leap59 t) := by
  unfold Machine.setTaiUtc
  exact ((((h.setBit (by decide)).set (by decide)).setBit (by decide)).setBit (by decide)).setBit (by decide)

protected theorem refreshTai (h : s.Elapses t) : s.Elapses (refreshTai t) := by
  unfold Machine.refreshTai
  extract_lets src
  refine .ite h ?_
  split
  · exact h.setTaiUtc
  · split
    · exact h.setTaiUtc
    · exact .ite h.setTaiUtc h.setTaiUtc

protected theorem setSource (h : s.Elapses t) {n : Nat} : s.Elapses (setSource n t) := by
  unfold Machine.setSource
  exact .ite h ((h.set (by decide)).raise (by decide) (by decide))

protected theorem setOwnSource (h : s.Elapses t) {n : Nat} : s.Elapses (setOwnSource n t) := by
  unfold Machine.setOwnSource Machine.leaveFollowed Machine.enterHoldover
  have hleft : s.Elapses (if (List.range 6).any (srcLocked t) then t
      else if t.get Reg.timEstErrErr = errUnknown && !t.time.everLocked then t
      else enterHoldover { t with time := { t.time with everLocked := true } }) := .ite h (.ite h h.upd)
  exact (State.Elapses.ite hleft h).setSource

protected theorem refreshSource (h : s.Elapses t) : s.Elapses (refreshSource t) := by
  unfold Machine.refreshSource
  extract_lets n lead time t' own
  have ht' : s.Elapses t' := h.upd
  exact .ite ht'.setSource (.ite ht'.setOwnSource (.ite ht' ht'.setOwnSource))

protected theorem standForTick (h : s.Elapses t) : s.Elapses (standForTick t) := by
  unfold Machine.standForTick Machine.setTickRole
  exact .ite (.ite h ((h.set (by decide)).raise (by decide) (by decide))) h

protected theorem reviewTime (h : s.Elapses t) : s.Elapses (reviewTime t) := by
  unfold Machine.reviewTime
  exact h.standForTick.refreshSource.refreshTai.refreshQuality

protected theorem setInt (h : s.Elapses t) {f : Fld} {v : Int} (hf : timeless f.addr = false) : s.Elapses (t.setInt f v) :=
  h.set hf

protected theorem servo (h : s.Elapses t) {o : Int} : s.Elapses (servo o t) := by
  unfold Machine.servo Machine.stepCounter State.setNow
  refine .ite (.set (.raise (.upd (.set (.set (h.set ?_) ?_) ?_)) ?_ ?_) ?_) (h.setInt ?_) <;> decide

protected theorem role (h : s.Elapses t) : t.role = s.role := h.get
protected theorem held (h : s.Elapses t) : t.held = s.held := h.on
protected theorem memKept (h : s.Elapses t) : memKept s t := memKept_of_mem h.mem

end State.Elapses

theorem reviewTime_elapses (s : State) : s.Elapses (reviewTime s) := (State.Elapses.refl s).reviewTime

end Sys2Proof.Machine
end

section
/-! PROOF. Hollyhock keys (12 R373, 16 R456) and the delay exchange (12 R375). -/

namespace Sys2Proof.Machine

section Keys

variable {s : State}

/-! ### A key that is refused (16 R456) -/

theorem reviewOwner_lasts (s : State) : s.Lasts (reviewOwner s) := (State.Lasts.refl s).reviewOwner

theorem followPeers_kept (s : State) : s.FaultKept true (followPeers s) := by
  unfold followPeers
  exact .ite (followRole_kept s) (.refl s)

/-- The review of the owner leaves the pair and PAIR_STATUS. -/
theorem reviewOwner_shows (s : State) : (reviewOwner s).pair = s.pair ∧
    (∀ f : Fld, f.addr = 0x80800 → (reviewOwner s).get f = s.get f) ∧
    (reviewOwner s).role = if s.role = rolePrimary && !goodStandby s then roleAlone else s.role := by
  unfold reviewOwner
  have hkept (u : State) : u.FaultKept true (followPeers u) := followPeers_kept u
  split
  · obtain ⟨hpair, -, -⟩ := (hkept (setRole roleAlone s)).pair rfl
    exact ⟨hpair.trans (pair_setRole ..), fun f hf => ((hkept _).get_status hf).trans (get_setRole_beside hf ..),
      (hkept _).role.trans (role_setRole (by decide) s)⟩
  · obtain ⟨hpair, -, -⟩ := (hkept s).pair rfl
    exact ⟨hpair, fun f hf => (hkept s).get_status hf, (hkept s).role⟩

theorem peerRole_mem (slot r : Nat) (s : State) : (peerRole slot r s).mem = s.mem := State.set_mem ..

theorem reg_peerRole {a : Nat} (ha : a ≠ 0x80800) (slot r : Nat) (s : State) : (peerRole slot r s).reg a = s.reg a :=
  State.reg_set_other _ Reg.hhkPairStatusPeerRole r a ha

theorem hhk_peerRole (slot r : Nat) (s : State) : (peerRole slot r s).hhk = s.hhk := State.set_hhk ..

theorem joiner_peerRole (slot r : Nat) (s : State) : (peerRole slot r s).pair.joiner = s.pair.joiner := by
  unfold peerRole
  rw [State.set_pair]

theorem dropPeer_elapses (slot : Nat) (s : State) :
    ({ s with pair := { s.pair with peers := s.pair.peers.filter (fun q => q.slot != slot) } } : State).Elapses
      (dropPeer slot s) := reviewTime_elapses _

/-- The state in which a JOIN is refused for a key. -/
def joinDropped (slot : Nat) (s : State) : State :=
  reviewOwner (dropPeer slot (peerRole slot roleNone
    ({ s with pair := { s.pair with joiner := none } }.set Reg.hhkPairResyncPhase 0)))

theorem keyRefused_joiner {slot : Nat} (h : s.pair.joiner = some slot) : keyRefused slot s = refuseJoin slot (joinDropped slot s) :=
  if_pos h

theorem keyRefused_other {slot : Nat} (h : s.pair.joiner ≠ some slot) : keyRefused slot s = joinAnswered false s := if_neg h

theorem joinDropped_shows (slot : Nat) (s : State) :
    (joinDropped slot s).mem = s.mem ∧ (joinDropped slot s).hhk.heard = s.hhk.heard ∧ (joinDropped slot s).pair.joiner = none ∧
    (joinDropped slot s).get Reg.hhkStatusKeyEpoch = s.get Reg.hhkStatusKeyEpoch := by
  obtain ⟨v, hv⟩ : ∃ v : State, v =
    ({ s with pair := { s.pair with joiner := none } } : State).set Reg.hhkPairResyncPhase 0 := ⟨_, rfl⟩
  have hmem : v.mem = s.mem := hv ▸ State.set_mem ..
  have hhhk : v.hhk = s.hhk := hv ▸ State.set_hhk ..
  have hjoin : v.pair.joiner = none := by rw [hv, State.set_pair]
  have hepoch : v.get Reg.hhkStatusKeyEpoch = s.get Reg.hhkStatusKeyEpoch :=
    hv ▸ State.get_of_reg (State.reg_set_other _ _ _ _ (by decide))
  obtain ⟨u, hu⟩ : ∃ u, u = peerRole slot roleNone v := ⟨_, rfl⟩
  have hdrop := dropPeer_elapses slot u
  have hreview := reviewOwner_lasts (dropPeer slot u)
  have hstate : joinDropped slot s = reviewOwner (dropPeer slot u) := by rw [joinDropped, ← hv, ← hu]
  rw [hstate]
  refine ⟨hreview.mem.trans (hdrop.mem.trans ?_), hreview.hhk.trans ?_, ?_, hreview.get.trans (hdrop.get.trans ?_)⟩
  · rw [hu, peerRole_mem, hmem]
  · rw [hdrop.hhk]
    change u.hhk.heard = s.hhk.heard
    rw [hu, hhk_peerRole, hhhk]
  · rw [(reviewOwner_shows _).1, hdrop.pair]
    change u.pair.joiner = none
    rw [hu, joiner_peerRole, hjoin]
  · change u.get Reg.hhkStatusKeyEpoch = s.get Reg.hhkStatusKeyEpoch
    rw [hu, State.get_of_reg (reg_peerRole (by decide) ..), hepoch]

/-- A message that has left stays among what has left. -/
theorem refuseJoin_sent (slot : Nat) (u : State) : ∃ w n, OutMsg.peer w "JOIN_REFUSE" n true [slot] ∈ (refuseJoin slot u).outbox := by
  obtain ⟨hout, -⟩ := sendNumbered_numbered (kind := "JOIN_REFUSE") (by decide) (by decide)
    ((waysOf u "JOIN_REFUSE").filter (fun w => !u.triad || w.dst == slot)) [slot] u
  refine ⟨(waysOf u "JOIN_REFUSE").filter (fun w => !u.triad || w.dst == slot), u.hhk.ctlSeq,
    (toPeers_sends "FORWARD" [23, slot, 0] (toMember slot "JOIN_REFUSE" [slot] u)).outbox.subset ?_⟩
  exact hout ▸ List.mem_append_right _ (List.mem_singleton_self _)

theorem joinAnswered_refused (h : s.role = roleSyncing) : joinAnswered false s =
    enterRole roleNone { s with pair := { s.pair with refused := true, attempts := 0, qFrame := none } } := by
  rw [joinAnswered, if_neg (by simp [h]), if_neg (by decide)]

theorem joinAnswered_other (h : s.role ≠ roleSyncing) (b : Bool) : joinAnswered b s = s := if_pos h

/-- A refused key agrees nothing: the owner refuses the JOIN. -/
theorem keyRefused_joiner_shows {slot : Nat} (hjoin : s.pair.joiner = some slot) :
    memKept s (keyRefused slot s) ∧ keyRefusedAs slot s (keyRefused slot s) := by
  obtain ⟨hmem, hheard, hjoiner, hepoch⟩ := joinDropped_shows slot s
  obtain ⟨u, hu⟩ : ∃ u, u = joinDropped slot s := ⟨_, rfl⟩
  have hsends := refuseJoin_sends slot u
  rw [keyRefused_joiner hjoin, ← hu]
  rw [← hu] at hmem hheard hjoiner hepoch
  refine ⟨memKept_of_mem (hsends.mem.trans hmem), (congrArg HhkSt.keyMsgs (hsends.heard.trans hheard) :), ?_, fun _ => ?_,
    fun hother => absurd hjoin hother⟩
  · rw [hsends.get, hepoch]
  · rw [hsends.pair, hjoiner]
    exact ⟨rfl, refuseJoin_sent slot u⟩

/-- A refused key agrees nothing: the joiner leaves for role none. -/
theorem keyRefused_other_shows {slot : Nat} (hjoin : s.pair.joiner ≠ some slot) :
    memKept s (keyRefused slot s) ∧ keyRefusedAs slot s (keyRefused slot s) := by
  rw [keyRefused_other hjoin]
  by_cases hrole : s.role = roleSyncing
  · obtain ⟨u, hu⟩ : ∃ u : State, u = { s with pair := { s.pair with refused := true, attempts := 0, qFrame := none } } :=
      ⟨_, rfl⟩
    have hlasts : u.Lasts (enterRole roleNone u) := (State.Lasts.refl u).enterRole
    have hheard : (enterRole roleNone u).hhk.heard = s.hhk.heard := hlasts.hhk.trans (by rw [hu])
    rw [joinAnswered_refused hrole, ← hu]
    refine ⟨memKept_of_mem (hlasts.mem.trans (by rw [hu])), (congrArg HhkSt.keyMsgs hheard :), ?_,
      fun hjoin' => absurd hjoin' hjoin, fun _ _ => (enterRole_shows (by decide) u).1⟩
    rw [hlasts.get, State.get_congr u s (by rw [hu])]
  · rw [joinAnswered_other hrole]
    exact ⟨fun _ => rfl, rfl, rfl, fun hjoin' => absurd hjoin' hjoin, fun _ h => absurd h hrole⟩

theorem keyRefused_shows (slot : Nat) (s : State) : memKept s (keyRefused slot s) ∧ keyRefusedAs slot s (keyRefused slot s) := by
  by_cases hjoin : s.pair.joiner = some slot
  · exact keyRefused_joiner_shows hjoin
  · exact keyRefused_other_shows hjoin

end Keys

end Sys2Proof.Machine
end

section
/-! PROOF. New Hollyhock keys (12 R373), the delay exchange (12 R375), and the statement on both with the lanes (12 R369). -/

namespace Sys2Proof.Machine

section KeysAndDelay

variable {s : State}

/-! ### New keys come into use (12 R373) -/

/-- Port p faces one of the members of the given slots. -/
def facesOne (slots : List Nat) (s : State) (p : Nat) : Bool := slots.contains (facedSlot s p)

/-- What Hollyhock keeps once the keys with the members of the given slots are new. -/
def rekeyed (slots : List Nat) (s : State) : HhkSt :=
  { s.hhk with
    oldKeys := s.hhk.oldKeys.filter (fun (p : Nat × Nat) => !slots.contains p.1) ++ slots.map (fun x => (x, s.mono))
    txCtr := (List.range 2).map (fun (p : Nat) => if facesOne slots s p then 0 else s.hhk.txCtr.getD p 0)
    keyMsgs := s.hhk.keyMsgs.filter (fun x => !slots.contains x)
    lastCtr := renewedCtrs slots s.hhk.lastCtr }

/-- KEY_OK with the ports that face the given members. -/
def okPorts (slots : List Nat) (s : State) : Nat :=
  (List.range 2).foldl (fun m p => if facesOne slots s p then withBit m p true else m) (s.get Reg.hhkStatusKeyOk)

theorem newKeys_eq (slots : List Nat) (s : State) : ∃ u : State, u.regs = s.regs ∧ u.mem = s.mem ∧ u.hhk = rekeyed slots s ∧
    u.outbox = s.outbox ∧ newKeys slots s =
      ((u.set Reg.hhkStatusKeyEpoch (u.get Reg.hhkStatusKeyEpoch + 1)).set Reg.hhkStatusKeyOk (okPorts slots s)).raise
        Ev.secKeyRotated := ⟨{ s with hhk := rekeyed slots s }, rfl, rfl, rfl, rfl, rfl⟩

theorem newKeys_mem (slots : List Nat) (s : State) : (newKeys slots s).mem = s.mem := by
  obtain ⟨u, -, hmem, -, -, heq⟩ := newKeys_eq slots s
  rw [heq, State.raise_mem, State.set_mem, State.set_mem, hmem]

theorem newKeys_hhk (slots : List Nat) (s : State) : (newKeys slots s).hhk = rekeyed slots s := by
  obtain ⟨u, -, -, hhhk, -, heq⟩ := newKeys_eq slots s
  rw [heq, State.raise_hhk, State.set_hhk, State.set_hhk, hhhk]

theorem get_newKeys {f : Fld} (h : (Reg.hhkStatusKeyEpoch.apart f && Reg.hhkStatusKeyOk.apart f && Ev.secKeyRotated.apart f) = true)
    (slots : List Nat) (s : State) : (newKeys slots s).get f = s.get f := by
  rw [Bool.and_eq_true, Bool.and_eq_true] at h
  obtain ⟨⟨hepoch, hok⟩, hflag⟩ := h
  obtain ⟨u, hregs, -, -, -, heq⟩ := newKeys_eq slots s
  rw [heq, State.get_raise_off _ _ _ hflag, State.get_set_apart _ _ _ _ (by decide) hok,
    State.get_set_apart _ _ _ _ (by decide) hepoch, State.get_congr u s hregs]

theorem newKeys_role (slots : List Nat) (s : State) : (newKeys slots s).role = s.role := get_newKeys (by decide) slots s

theorem newKeys_epoch (slots : List Nat) (s : State) :
    (newKeys slots s).get Reg.hhkStatusKeyEpoch = (s.get Reg.hhkStatusKeyEpoch + 1) % 65536 := by
  obtain ⟨u, hregs, -, -, -, heq⟩ := newKeys_eq slots s
  rw [heq, State.get_raise_off _ _ _ (by decide), State.get_set_apart _ _ _ _ (by decide) (by decide),
    State.get_set_self _ _ _ (by decide), State.get_congr u s hregs]
  rfl

theorem newKeys_flag (slots : List Nat) (s : State) : (newKeys slots s).on Ev.secKeyRotated.flag = true := by
  obtain ⟨u, -, -, -, -, heq⟩ := newKeys_eq slots s
  rw [heq]
  exact State.on_raise_flag _ _ (by decide)

theorem bitOf_okPorts (slots : List Nat) (s : State) {p : Nat} (hp : p < 2) :
    bitOf (okPorts slots s) p = (facesOne slots s p || bitOf (s.get Reg.hhkStatusKeyOk) p) := by
  have htwo : List.range 2 = [0, 1] := rfl
  have hset (m : Nat) (i : Nat) : bitOf (if facesOne slots s i then withBit m i true else m) p =
      (bitOf m p || (decide (p = i) && facesOne slots s i)) := by
    cases facesOne slots s i
    · simp
    · simp only [if_true, bitOf_withBit, Bool.and_true]
      by_cases hi : p = i <;> simp [hi]
  rw [okPorts, htwo, List.foldl_cons, List.foldl_cons, List.foldl_nil, hset, hset]
  obtain rfl | rfl : p = 0 ∨ p = 1 := by omega
  · simp [Bool.or_comm]
  · simp [Bool.or_comm]

theorem newKeys_ok (slots : List Nat) (s : State) {p : Nat} (hp : p < 2) :
    bitOf ((newKeys slots s).get Reg.hhkStatusKeyOk) p = (facesOne slots s p || bitOf (s.get Reg.hhkStatusKeyOk) p) := by
  obtain ⟨u, -, -, -, -, heq⟩ := newKeys_eq slots s
  rw [heq, State.get_raise_off _ _ _ (by decide), State.bitOf_get_set _ _ (by decide) hp, bitOf_okPorts slots s hp]

theorem newKeys_txCtr (slots : List Nat) (s : State) {p : Nat} (hp : p < 2) :
    (newKeys slots s).hhk.txCtr.getD p 0 = if facesOne slots s p then 0 else s.hhk.txCtr.getD p 0 := by
  rw [newKeys_hhk]
  obtain rfl | rfl : p = 0 ∨ p = 1 := by omega
  · rfl
  · rfl

theorem newKeys_oldKeys {slots : List Nat} {slot : Nat} (hslot : slot ∈ slots) (s : State) :
    (slot, s.mono) ∈ (newKeys slots s).hhk.oldKeys := by
  rw [newKeys_hhk]
  exact List.mem_append_right _ (List.mem_map.mpr ⟨slot, hslot, rfl⟩)

/-- Under its new key a member's last counter starts from 0. -/
theorem assoc_renewedCtrs {slots : List Nat} {k : Nat} (hnew : k < 128) (hslot : slots.contains (ctrSlot k) = true)
    (l : List (Nat × Nat)) : assoc (renewedCtrs slots l) k = 0 := by
  refine kvGet_absent _ _ _ fun q hq => ?_
  obtain ⟨r, -, rfl⟩ := List.mem_map.mp hq
  by_cases hr : slots.contains (ctrSlot r.1) = true
  · rw [if_pos hr]
    change r.1 + 128 ≠ k
    omega
  · rw [if_neg hr]
    rintro rfl
    exact hr hslot

/-! ### A key message (12 R373, 16 R456) -/

theorem exec_key {h : HhkHdr} (hu : frameUsed typeKey h s = true) (ch : List Byte) : ∃ u, s.Accepts u ∧ ∀ final,
    exec (.key h ch final) s = .next (if !peerTrusted h.srcSlot ch u then keyRefused h.srcSlot u
      else
        let v : State := { u with hhk := { u.hhk with keyMsgs := u.hhk.keyMsgs ++ [h.srcSlot] } }
        if final then newKeys [h.srcSlot] v else toMember h.srcSlot "KEY" [v.get Reg.hhkStatusKeyEpoch + 1] v) := by
  obtain ⟨u, haccepts, hframe⟩ := onFrame_used hu
  exact ⟨u, haccepts, fun final => congrArg Host.Outcome.next (hframe _)⟩

theorem peerTrusted_congr {u : State} (h : u.sec = s.sec) (slot : Nat) (ch : List Byte) :
    peerTrusted slot ch u = peerTrusted slot ch s := by rw [peerTrusted, peerTrusted, h]

theorem keyRefusedAs_accepted {u t : State} {slot : Nat} (h : s.Accepts u) (ht : keyRefusedAs slot u t) :
    keyRefusedAs slot s t := by
  rw [keyRefusedAs, h.keyMsgs, h.get _ (by decide), h.pair, h.role] at ht
  exact ht

theorem leads_key_refused {h : HhkHdr} (hu : frameUsed typeKey h s = true) {ch : List Byte}
    (ht : peerTrusted h.srcSlot ch s = false) (final : Bool) :
    leads (.key h ch final) s (fun t => memKept s t ∧ keyRefusedAs h.srcSlot s t) := by
  obtain ⟨u, haccepts, hexec⟩ := exec_key hu ch
  obtain ⟨hmem, hrefused⟩ := keyRefused_shows h.srcSlot u
  refine ⟨keyRefused h.srcSlot u, ?_, fun a => (hmem a).trans (haccepts.memKept a), keyRefusedAs_accepted haccepts hrefused⟩
  rw [hexec final, peerTrusted_congr haccepts.sec, ht]
  rfl

theorem leads_key_opens {h : HhkHdr} (hu : frameUsed typeKey h s = true) {ch : List Byte}
    (ht : peerTrusted h.srcSlot ch s = true) :
    leads (.key h ch false) s (fun t => memKept s t ∧ t.role = s.role ∧ t.hhk.keyMsgs = s.hhk.keyMsgs ++ [h.srcSlot] ∧
      t.get Reg.hhkStatusKeyEpoch = s.get Reg.hhkStatusKeyEpoch ∧
      ∃ w, .peer w "KEY" s.hhk.ctlSeq true [s.get Reg.hhkStatusKeyEpoch + 1] ∈ t.outbox) := by
  obtain ⟨u, haccepts, hexec⟩ := exec_key hu ch
  obtain ⟨v, hv⟩ : ∃ v : State, v = { u with hhk := { u.hhk with keyMsgs := u.hhk.keyMsgs ++ [h.srcSlot] } } := ⟨_, rfl⟩
  have hvmem : v.mem = s.mem := by rw [hv, ← haccepts.mem]
  have hvrole : v.role = s.role := (State.get_congr v u (by rw [hv]) _).trans haccepts.role
  have hvepoch : v.get Reg.hhkStatusKeyEpoch = s.get Reg.hhkStatusKeyEpoch :=
    (State.get_congr v u (by rw [hv]) _).trans (haccepts.get _ (by decide))
  have hvmsgs : v.hhk.keyMsgs = s.hhk.keyMsgs ++ [h.srcSlot] := by rw [hv, ← haccepts.keyMsgs]
  have hvseq : v.hhk.ctlSeq = s.hhk.ctlSeq := by rw [hv, ← haccepts.ctlSeq]
  have hsends := toMember_sends h.srcSlot "KEY" [v.get Reg.hhkStatusKeyEpoch + 1] v
  have hheard : (toMember h.srcSlot "KEY" [v.get Reg.hhkStatusKeyEpoch + 1] v).hhk.keyMsgs = v.hhk.keyMsgs :=
    (congrArg HhkSt.keyMsgs hsends.heard :)
  obtain ⟨hout, -⟩ := sendNumbered_numbered (kind := "KEY") (by decide) (by decide)
    ((waysOf v "KEY").filter (fun w => !v.triad || w.dst == h.srcSlot)) [v.get Reg.hhkStatusKeyEpoch + 1] v
  refine ⟨toMember h.srcSlot "KEY" [v.get Reg.hhkStatusKeyEpoch + 1] v, ?_, memKept_of_mem (hsends.mem.trans hvmem),
    hsends.role.trans hvrole, hheard.trans hvmsgs, (hsends.get _).trans hvepoch,
    (waysOf v "KEY").filter (fun w => !v.triad || w.dst == h.srcSlot), ?_⟩
  · rw [hexec false, peerTrusted_congr haccepts.sec, ht, hv]
    rfl
  · rw [← hvseq, ← hvepoch]
    exact hout ▸ List.mem_append_right _ (List.mem_singleton_self _)

theorem facesOne_congr {u : State} (hregs : ∀ p, facedSlot u p = facedSlot s p) (slots : List Nat) (p : Nat) :
    facesOne slots u p = facesOne slots s p := by rw [facesOne, facesOne, hregs]

theorem leads_key_final {h : HhkHdr} (hu : frameUsed typeKey h s = true) {ch : List Byte}
    (ht : peerTrusted h.srcSlot ch s = true) :
    leads (.key h ch true) s (fun t => memKept s t ∧ t.role = s.role ∧ (h.srcSlot, s.mono) ∈ t.hhk.oldKeys ∧
      t.get Reg.hhkStatusKeyEpoch = (s.get Reg.hhkStatusKeyEpoch + 1) % 65536 ∧ t.on Ev.secKeyRotated.flag = true ∧
      (∀ p, p < 2 → (facedSlot s p = h.srcSlot → t.hhk.txCtr.getD p 0 = 0 ∧ bitOf (t.get Reg.hhkStatusKeyOk) p = true) ∧
        (facedSlot s p ≠ h.srcSlot → t.hhk.txCtr.getD p 0 = s.hhk.txCtr.getD p 0 ∧
          bitOf (t.get Reg.hhkStatusKeyOk) p = bitOf (s.get Reg.hhkStatusKeyOk) p))) := by
  obtain ⟨u, haccepts, hexec⟩ := exec_key hu ch
  obtain ⟨v, hv⟩ : ∃ v : State, v = { u with hhk := { u.hhk with keyMsgs := u.hhk.keyMsgs ++ [h.srcSlot] } } := ⟨_, rfl⟩
  have hvregs : v.regs = u.regs := by rw [hv]
  have hvmem : v.mem = s.mem := by rw [hv, ← haccepts.mem]
  have hvmono : v.mono = s.mono := by rw [hv, ← haccepts.mono]
  have hvget (f : Fld) (hf : Reg.hhkPairStatusHhkUp.apart f = true) : v.get f = s.get f :=
    (State.get_congr v u hvregs f).trans (haccepts.get f hf)
  have hvtx : v.hhk.txCtr = s.hhk.txCtr := by rw [hv, ← haccepts.txCtr]
  have hvfaced (p : Nat) : facedSlot v p = facedSlot s p := (by rw [hv]; rfl : facedSlot v p = facedSlot u p).trans
    (haccepts.facedSlot p)
  have hfaces (p : Nat) : facesOne [h.srcSlot] v p = decide (facedSlot s p = h.srcSlot) := by
    rw [facesOne, hvfaced]
    simp [eq_comm]
  refine ⟨newKeys [h.srcSlot] v, ?_, memKept_of_mem ((newKeys_mem _ v).trans hvmem),
    (newKeys_role _ v).trans (hvget _ (by decide)), ?_, ?_, newKeys_flag _ v, fun p hp => ⟨fun hfaced => ?_, fun hfaced => ?_⟩⟩
  · rw [hexec true, peerTrusted_congr haccepts.sec, ht, hv]
    rfl
  · rw [← hvmono]
    exact newKeys_oldKeys (List.mem_singleton_self _) v
  · rw [newKeys_epoch, hvget _ (by decide)]
  · rw [newKeys_txCtr _ _ hp, newKeys_ok _ _ hp, hfaces, decide_eq_true hfaced]
    exact ⟨rfl, rfl⟩
  · rw [newKeys_txCtr _ _ hp, newKeys_ok _ _ hp, hfaces, decide_eq_false hfaced, hvtx, hvget _ (by decide)]
    exact ⟨rfl, rfl⟩

/-! ### All keys are renewed, and the previous ones expire -/

theorem State.Sends.facedSlot {t : State} (h : s.Sends t) (p : Nat) : Machine.facedSlot t p = Machine.facedSlot s p := by
  have htriad : t.triad = s.triad := by rw [State.triad, State.triad, h.get]
  rw [Machine.facedSlot, Machine.facedSlot, slotOfRank, slotOfRank, pairSlot, pairSlot, htriad, h.sec, h.get, h.get]

theorem mem_otherSlots {p : Nat} (hp : p < 2) (s : State) : facedSlot s p ∈ otherSlots s := by
  unfold otherSlots
  obtain rfl | rfl : p = 0 ∨ p = 1 := by omega
  · split <;> simp
  · split
    next heq => simp [heq]
    next => simp

theorem leads_keyRenewal (s : State) : leads .keyRenewal s (fun t => memKept s t ∧ t.role = s.role ∧ t.hhk.txCtr = [0, 0] ∧
    (∀ p, p < 2 → (facedSlot s p, s.mono) ∈ t.hhk.oldKeys) ∧
    t.get Reg.hhkStatusKeyEpoch = (s.get Reg.hhkStatusKeyEpoch + 1) % 65536 ∧
    ∀ h : HhkHdr, h.underOldKey = false → h.port < 2 → h.srcSlot = facedSlot s h.port → h.srcSlot < 64 →
      assoc t.hhk.lastCtr (ctrKey h) = 0) := by
  obtain ⟨u, hu⟩ : ∃ u, u = toPeers "KEY" [s.get Reg.hhkStatusKeyEpoch + 1] s := ⟨_, rfl⟩
  have hsends : s.Sends u := hu ▸ toPeers_sends ..
  have hfaces {p : Nat} (hp : p < 2) : facesOne (otherSlots s) u p = true := by
    rw [facesOne, hsends.facedSlot, List.contains_iff_mem]
    exact mem_otherSlots hp s
  refine ⟨newKeys (otherSlots s) u, congrArg Host.Outcome.next (hu ▸ rfl), memKept_of_mem ((newKeys_mem _ u).trans hsends.mem),
    (newKeys_role _ u).trans hsends.role, ?_, fun p hp => ?_, ?_, fun h hnew hport hfaced hslot => ?_⟩
  · have htwo : (newKeys (otherSlots s) u).hhk.txCtr =
        [if facesOne (otherSlots s) u 0 then 0 else u.hhk.txCtr.getD 0 0,
          if facesOne (otherSlots s) u 1 then 0 else u.hhk.txCtr.getD 1 0] := by
      rw [newKeys_hhk]
      rfl
    rw [htwo, hfaces (by decide), hfaces (by decide), if_pos rfl, if_pos rfl]
  · rw [← hsends.mono]
    exact newKeys_oldKeys (mem_otherSlots hp s) u
  · rw [newKeys_epoch, hsends.get]
  · rw [newKeys_hhk]
    have hkey : ctrKey h = h.port * 64 + h.srcSlot := by rw [ctrKey, hnew]; rfl
    have hctr : ctrSlot (ctrKey h) = facedSlot s h.port := by
      rw [ctrSlot, hkey, ← hfaced]
      omega
    refine assoc_renewedCtrs (by omega) ?_ u.hhk.lastCtr
    rw [hctr, List.contains_iff_mem]
    exact mem_otherSlots hport s

theorem leads_oldKeyExpiry (s : State) : leads .oldKeyExpiry s (fun t => t.regs = s.regs ∧ memKept s t ∧ t.pair = s.pair ∧
    (∀ k ∈ s.hhk.oldKeys.head?, t.hhk.oldKeys = s.hhk.oldKeys.filter (fun (x : Nat × Nat) => x.2 != k.2)) ∧
    (s.hhk.oldKeys = [] → t = s)) := by
  refine ⟨_, rfl, ?_⟩
  cases hold : s.hhk.oldKeys with
  | nil => exact ⟨rfl, fun _ => rfl, rfl, fun k hk => by simp at hk, fun _ => rfl⟩
  | cons q r =>
    refine ⟨rfl, fun _ => rfl, rfl, fun k hk => ?_, fun hnil => by simp at hnil⟩
    obtain rfl : q = k := by simpa using hk
    rfl

/-! ### The delay exchange (12 R375) -/

theorem exec_delayReq_miswired {p : Nat} (h : portWired s p = false) (a d : Nat) :
    exec (.delayReq p none a d) s = .next s := congrArg Host.Outcome.next (if_neg (by simp [h]))

theorem leads_delayReq_sends {p : Nat} (h : portWired s p = true) (hp : p < s.hhk.reqAt.length) (a d : Nat) :
    leads (.delayReq p none a d) s (fun t => t.regs = s.regs ∧ memKept s t ∧ t.hhk.reqAt.getD p 0 = d ∧
      t.outbox = s.outbox ++ [.peer [byPort s p (facedSlot s p) false] "DELAY_REQ" 0 true []]) := by
  obtain ⟨u, hu⟩ : ∃ u : State, u = { s with hhk := { s.hhk with reqAt := listSet s.hhk.reqAt p (fun _ => d) } } := ⟨_, rfl⟩
  have hwired : portWired u p = true := by rw [hu]; exact h
  have hsends := toPort_sends p "DELAY_REQ" [] u
  obtain ⟨hout, hhhk⟩ := toPort_sent (p := p) (kind := "DELAY_REQ") (data := []) (s := u) (by decide) (.inr hwired)
  have hway : byPort u p (facedSlot u p) false = byPort s p (facedSlot s p) false := by rw [hu]; rfl
  refine ⟨toPort p "DELAY_REQ" [] u, congrArg Host.Outcome.next ((if_pos h).trans (by rw [hu])), hsends.regs.trans (by rw [hu]),
    memKept_of_mem (hsends.mem.trans (by rw [hu])), ?_, ?_⟩
  · rw [hhhk]
    change u.hhk.reqAt.getD p 0 = d
    rw [hu]
    exact getD_listSet_same hp _ 0
  · rw [hout, hway]
    exact congrArg (· ++ _) (by rw [hu])

/-- A frame that is used came by a port that is not miswired. -/
theorem portWired_of_used {type : Nat} {h : HhkHdr} (hu : frameUsed type h s = true) (ht : type ≠ typeHeartbeat) :
    portWired s h.port = true := by
  simp only [frameUsed, Bool.and_eq_true, Bool.or_eq_true] at hu
  obtain ⟨⟨-, hwired⟩, -⟩ := hu
  exact hwired.resolve_left (by simp [ht])

theorem leads_delayReq_answers {h : HhkHdr} (hu : frameUsed typeDelayReq h s = true) (p a d : Nat) :
    leads (.delayReq p (some h) a d) s (fun t => memKept s t ∧ t.role = s.role ∧
      t.outbox = s.outbox ++ [.peer [byPort s h.port (facedSlot s h.port) false] "DELAY_RESP" 0 true [a, d]]) := by
  obtain ⟨u, haccepts, hframe⟩ := onFrame_used hu
  have hwired : portWired u h.port = true := by
    rw [portWired, haccepts.miswired]
    exact portWired_of_used hu (by decide)
  have hsends := toPort_sends h.port "DELAY_RESP" [a, d] u
  obtain ⟨hout, -⟩ := toPort_sent (p := h.port) (kind := "DELAY_RESP") (data := [a, d]) (s := u) rfl (.inr hwired)
  refine ⟨toPort h.port "DELAY_RESP" [a, d] u, congrArg Host.Outcome.next (hframe _),
    memKept_of_mem (hsends.mem.trans haccepts.mem), hsends.role.trans haccepts.role, ?_⟩
  rw [hout, haccepts.outbox, haccepts.byPort, haccepts.facedSlot]

theorem steerBySeven_elapses (p : Nat) (s : State) : s.Elapses (steerBySeven p s) := by
  unfold steerBySeven
  exact .ite (.refl s) (((State.Elapses.refl s).setInt (by decide)).servo.refreshQuality)

/-- What the port keeps of its exchanges with the one of now. -/
theorem takeExchange_shows {p : Nat} (hp : p < 2) (hlen : p < s.hhk.exch.length) {e : Exchange} {old new : List Exchange}
    (hold : old = s.hhk.exch.getD p []) (hnew : new = (e :: old).take 16) :
    (takeExchange p e s).mem = s.mem ∧ (takeExchange p e s).role = s.role ∧ (takeExchange p e s).hhk.exch.getD p [] = new ∧
    (takeExchange p e s).get (Reg.hhkpDelayDelayPs p) = (medianInt (new.map (·.delay))).toNat % 2 ^ 32 ∧
    (old ≠ [] → 1000 < (medianInt (new.map (·.delay)) - medianInt (old.map (·.delay))).natAbs →
      (takeExchange p e s).on Ev.hhkDelayJump.flag = true) := by
  obtain ⟨hold', u, b, jump, hu, hjump, heq⟩ : ∃ (hold' : List Bool) (u : State) (b jump : Bool),
      u = { s with hhk := { s.hhk with exch := listSet s.hhk.exch p (fun _ => new), holdOfs := hold' } } ∧
      jump = (!old.isEmpty && 1000 < (medianInt (new.map (·.delay)) - medianInt (old.map (·.delay))).natAbs) ∧
      takeExchange p e s = if b then (u.raiseIf jump Ev.hhkDelayJump).set (Reg.hhkpDelayDelayPs p)
          (medianInt (new.map (·.delay))).toNat
        else ((u.raiseIf jump Ev.hhkDelayJump).set (Reg.hhkpDelayDelayPs p) (medianInt (new.map (·.delay))).toNat).setInt
          (Reg.hhkpOffsetOffsetPs p) (medianInt (new.map (·.offset))) := by
    rw [hnew, hold]
    exact ⟨_, _, _, _, rfl, rfl, rfl⟩
  obtain ⟨v, hv⟩ : ∃ v, v = u.raiseIf jump Ev.hhkDelayJump := ⟨_, rfl⟩
  have hok : (Reg.hhkpDelayDelayPs p).ok = true := rfl
  have hok' : (Reg.hhkpOffsetOffsetPs p).ok = true := rfl
  have hset (w : Nat) : (v.set (Reg.hhkpDelayDelayPs p) w).get (Reg.hhkpDelayDelayPs p) = w % 2 ^ 32 :=
    State.get_set_self _ _ _ hok
  have hbeside {f : Fld} (hf : f.addr < 0x80100) (w : Nat) : (v.set (Reg.hhkpDelayDelayPs p) w).get f = v.get f :=
    State.get_of_reg (State.reg_set_other _ _ _ _ (by change f.addr ≠ 0x80108 + 16 * p; omega))
  have hofs {f : Fld} (hf : f.addr < 0x80100 ∨ f.addr = 0x80108 + 16 * p) (w : State) (i : Int) :
      (w.setInt (Reg.hhkpOffsetOffsetPs p) i).get f = w.get f :=
    State.get_of_reg (State.reg_set_other _ _ _ _ (by change f.addr ≠ 0x8010C + 16 * p; omega))
  have hvmem : v.mem = s.mem := by rw [hv, State.raiseIf_mem, hu]
  have hvhhk : v.hhk.exch.getD p [] = new := by
    have hhhk : v.hhk = u.hhk := by
      rw [hv, State.raiseIf]
      split
      · exact State.raise_hhk ..
      · rfl
    rw [hhhk, hu]
    exact getD_listSet_same hlen _ []
  have hvrole : v.role = s.role := by
    rw [hv]
    exact (State.get_raiseIf_off _ _ _ _ (by decide)).trans (State.get_congr u s (by rw [hu]) _)
  have hvflag (ho : old ≠ []) (hm : 1000 < (medianInt (new.map (·.delay)) - medianInt (old.map (·.delay))).natAbs) :
      v.on Ev.hhkDelayJump.flag = true := by
    rw [hv]
    exact State.on_raiseIf_self _ _ (by rw [hjump]; simp [ho, hm]) (by decide)
  rw [heq, ← hv]
  cases b
  · rw [if_neg (by decide)]
    exact ⟨hvmem, (hofs (.inl (by decide)) ..).trans ((hbeside (by decide) _).trans hvrole), hvhhk,
      (hofs (.inr rfl) ..).trans (hset _), fun ho hm => (State.on_congr ((hofs (.inl (by decide)) ..).trans
        (hbeside (by decide) _))).trans (hvflag ho hm)⟩
  · rw [if_pos rfl]
    exact ⟨hvmem, (hbeside (by decide) _).trans hvrole, hvhhk, hset _,
      fun ho hm => (State.on_congr (hbeside (by decide) _)).trans (hvflag ho hm)⟩

theorem leads_delayResp {h : HhkHdr} (hu : frameUsed typeDelayResp h s = true) (hp : h.port < 2)
    (hlen : h.port < s.hhk.exch.length) (t1 t2 t3 t4 : Int) {old new : List Exchange} (hold : old = s.hhk.exch.getD h.port [])
    (hnew : new = (⟨((t4 - t1) - (t3 - t2)) / 2, ((t2 - t1) - (t4 - t3)) / 2⟩ :: old).take 16) :
    leads (.delayResp h t1 t2 t3 t4) s (fun t => memKept s t ∧ t.role = s.role ∧ t.hhk.exch.getD h.port [] = new ∧
      t.get (Reg.hhkpDelayDelayPs h.port) = (medianInt (new.map (·.delay))).toNat % 2 ^ 32 ∧
      (old ≠ [] → 1000 < (medianInt (new.map (·.delay)) - medianInt (old.map (·.delay))).natAbs →
        t.on Ev.hhkDelayJump.flag = true)) := by
  obtain ⟨u, haccepts, hframe⟩ := onFrame_used hu
  obtain ⟨v, hv⟩ : ∃ v, v = takeExchange h.port ⟨((t4 - t1) - (t3 - t2)) / 2, ((t2 - t1) - (t4 - t3)) / 2⟩ u := ⟨_, rfl⟩
  obtain ⟨hmem, hrole, hexch, hdelay, hflag⟩ := takeExchange_shows (s := u) hp (by rw [haccepts.exch]; exact hlen)
    (hold.trans (by rw [haccepts.exch])) hnew
  rw [← hv] at hmem hrole hexch hdelay hflag
  have hsteers := steerBySeven_elapses h.port v
  have htimeless : timeless (Reg.hhkpDelayDelayPs h.port).addr = true := by
    rw [timeless, decide_eq_true_eq]
    simp only [Reg.hhkpDelayDelayPs]
    omega
  refine ⟨steerBySeven h.port v, (congrArg Host.Outcome.next (hframe _)).trans (by rw [hv]),
    memKept_of_mem (hsteers.mem.trans (hmem.trans haccepts.mem)), hsteers.role.trans (hrole.trans haccepts.role), ?_, ?_,
    fun ho hm => (hsteers.on (by decide)).trans (hflag ho hm)⟩
  · rw [hsteers.hhk, hexch]
  · rw [hsteers.get htimeless, hdelay]

end KeysAndDelay

/-- Settles O60: the lanes by their moves; a key message by what it agrees, or by what is left where R456 fails; the delay
exchange by what the port keeps, which steering by it leaves alone. -/
theorem hollyhockLanesKeysAndDelay : Obligations.HollyhockLanesKeysAndDelay := by
  unfold Obligations.HollyhockLanesKeysAndDelay
  intro s
  refine ⟨fun p l hp hl => ⟨leads_laneTrainComplete hp, leads_laneCheckComplete hp, leads_laneErroredBlock hp,
    fun h k => exec_laneLost_idle h k, fun h k => leads_laneLost hp hl h k, leads_laneRetrain hp,
    fun h => leads_laneRebond hp hl h, exec_laneRebond_idle⟩, fun h hu ch => ?_, leads_keyRenewal s, leads_oldKeyExpiry s,
    fun p a d => ⟨fun h => exec_delayReq_miswired h a d, fun h hp => leads_delayReq_sends h hp a d⟩,
    fun p h a d hu => leads_delayReq_answers hu p a d,
    fun h t1 t2 t3 t4 old new hu hp hlen hold hnew => leads_delayResp hu hp hlen t1 t2 t3 t4 hold hnew⟩
  cases ht : peerTrusted h.srcSlot ch s with
  | false => exact ⟨leads_key_refused hu ht false, leads_key_refused hu ht true⟩
  | true => exact ⟨leads_key_opens hu ht, leads_key_final hu ht⟩

end Sys2Proof.Machine
end

section
/-! SUPPORT. Settings objects as they are stored (17 R485), the entries of the trust store (16 R472), and the length that an
accepted request has (03 R93). -/

namespace Sys2Proof.Machine

variable {s : State}

/-! ### The length of an accepted request (03 R93) -/

theorem requestOk_length {fam cmd i : Nat} {lenOk : Nat → Bool} {r : Req} (h : requestOk fam cmd lenOk i r s = true) :
    lenOk r.payload.length = true := by
  obtain ⟨row, -, hsrc, -, -, -, -, hcheck, -⟩ := requestOk_elim h
  unfold checkRequest at hcheck
  rw [hsrc] at hcheck
  simp only [ite_eq_iff, reduceCtorEq, and_false, false_or, and_true, Bool.not_eq_true', Bool.not_eq_false] at hcheck
  obtain ⟨-, -, -, -, hlen⟩ := hcheck
  exact hlen

/-! ### Lists of objects -/

theorem objGet_objSet_same (l : List (Nat × List Byte)) (o : Nat) (b : List Byte) : objGet (objSet l o b) o = b :=
  kvGet_kvPut_same _ o b l

theorem objGet_objSet_other (l : List (Nat × List Byte)) {o q : Nat} (h : q ≠ o) (b : List Byte) :
    objGet (objSet l o b) q = objGet l q := kvGet_kvPut_other _ o q b l h

/-! ### A version is written (17 R485, 16 R462) -/

theorem nandConf_eq (o : Nat) (d : List Byte) (s : State) : ∃ n, nandConf o d s = { s with nvs := n } := by
  unfold nandConf
  extract_lets q v l
  obtain ⟨n, hn⟩ := nandPut_eq 2 l v s
  obtain ⟨m, hm⟩ := nandPut_eq 3 l v { s with nvs := n }
  exact ⟨m, by rw [hn, hm]⟩

/-- A write of CONF changes what stands in NAND, the object's current version, and in a trial the list of changes. -/
theorem confWrite_eq (o : Nat) (b : List Byte) (s : State) : ∃ n k,
    confWrite o b s = { s with
      nvs := n, sec := k
      cfg := { s.cfg with stored := objSet s.cfg.stored o b, absent := s.cfg.absent.filter (· != o) } } ∧
    { k with changes := s.sec.changes, excess := s.sec.excess } = s.sec := by
  unfold confWrite
  extract_lets nvs cfg s' t
  obtain ⟨n, hn⟩ := nandConf_eq o b s'
  have ht : t = { s' with nvs := n } := hn
  clear_value t
  subst ht
  split
  · exact ⟨n, _, rfl, rfl⟩
  · exact ⟨n, s.sec, rfl, rfl⟩

/-- An object outside the owner's frames is written and in effect at once. -/
theorem writeOwn_eq (o : Nat) (b : List Byte) (s : State) : ∃ n k,
    writeOwn o b s = { s with
      nvs := n, sec := k
      cfg := { s.cfg with
        stored := objSet s.cfg.stored o b, absent := s.cfg.absent.filter (· != o), applied := objSet s.cfg.applied o b } } ∧
    { k with changes := s.sec.changes, excess := s.sec.excess } = s.sec := by
  obtain ⟨n, k, hwrite, hkept⟩ := confWrite_eq o b s
  exact ⟨n, k, by rw [writeOwn, putConf, hwrite], hkept⟩

/-- What an object's write leaves: registers, memory, and the object as written. -/
theorem writeOwn_shows (o : Nat) {b : List Byte} (hb : b ≠ []) (s : State) :
    (writeOwn o b s).regs = s.regs ∧ (writeOwn o b s).mem = s.mem ∧ storedForm (writeOwn o b s) o = b := by
  obtain ⟨n, k, hwrite, -⟩ := writeOwn_eq o b s
  have hget : objGet (writeOwn o b s).cfg.stored o = b := by
    rw [hwrite]
    exact objGet_objSet_same ..
  refine ⟨by rw [hwrite], by rw [hwrite], ?_⟩
  rw [storedForm, hget]
  exact if_pos (by simp [hb])

/-! ### The trust store (16 R472) -/

/-- An entry that a record with its LEN can hold. -/
def fitsLen (e : List Byte) : Prop := e.length < 2 ^ 32

theorem lenEntries_lenBytes {l : List (List Byte)} (h : ∀ e ∈ l, fitsLen e) : lenEntries l.length (lenBytes l) = some l := by
  induction l with
  | nil => rfl
  | cons e l ih =>
    have he : e.length < 2 ^ 32 := h e (by simp)
    have hrest := ih fun x hx => h x (by simp [hx])
    have hbytes : lenBytes (e :: l) = leBytes 4 e.length ++ (e ++ lenBytes l) := by simp [lenBytes]
    have hk : leAt (leBytes 4 e.length ++ (e ++ lenBytes l)) 0 4 = e.length := by
      rw [leAt_leBytes_append]
      exact Nat.mod_eq_of_lt (by omega)
    have hdrop : (leBytes 4 e.length ++ (e ++ lenBytes l)).drop 4 = e ++ lenBytes l :=
      List.drop_left' (leBytes_length ..)
    have hdrop' : (leBytes 4 e.length ++ (e ++ lenBytes l)).drop (4 + e.length) = lenBytes l := by
      rw [← List.drop_drop, hdrop, List.drop_left]
    have hlen : ¬ (leBytes 4 e.length ++ (e ++ lenBytes l)).length < 4 + e.length := by
      simp only [List.length_append, leBytes_length]
      omega
    rw [hbytes, List.length_cons, lenEntries, hk, if_neg hlen, hdrop', hrest, hdrop, Option.map_some, List.take_left]

theorem fitsLen_of_lenEntries {n : Nat} {b : List Byte} {l : List (List Byte)} (h : lenEntries n b = some l) :
    ∀ e ∈ l, fitsLen e := by
  induction n generalizing b l with
  | zero =>
    rw [lenEntries] at h
    split at h
    · simp only [Option.some.injEq] at h
      simp [← h]
    · simp at h
  | succ n ih =>
    rw [lenEntries] at h
    split at h
    · simp at h
    obtain ⟨rest, hrest, rfl⟩ := Option.map_eq_some_iff.mp h
    intro e he
    rcases List.mem_cons.mp he with rfl | he
    · have hk : leAt b 0 4 < 256 ^ 4 := leAt_lt b 0 4
      have htake := List.length_take_le (leAt b 0 4) (b.drop 4)
      rw [fitsLen]
      omega
    · exact ih hrest e he

theorem fitsLen_heldCrls {c : List Byte} (h : c ∈ heldCrls s) : fitsLen c := by
  rw [heldCrls] at h
  cases hl : lenEntries (leAt (storedForm s objCrl) 0 1) ((storedForm s objCrl).drop 8) with
  | none => simp [hl] at h
  | some l =>
    rw [hl] at h
    exact fitsLen_of_lenEntries hl c h

end Sys2Proof.Machine
end

section
/-! PROOF. The SECURITY family (16 R471, R472), the fuse digests (16 R473) and the certificates returned to members (16
R455). -/

namespace Sys2Proof.Machine

section Security

variable {i : Nat} {r : Req} {s : State}

/-! ### GET_STATE -/

/-- What GET_STATE shows of a root-key slot. -/
def rootShown (s : State) (i : Nat) : Nat :=
  (if bitOf (s.get Reg.secStatusRootPresent) i then 1 else 0) + (if bitOf (s.get Reg.secStatusRootRevoked) i then 2 else 0)

theorem rootShown_lt (s : State) (i : Nat) : rootShown s i < 256 := by
  unfold rootShown
  split <;> split <;> decide

theorem answers_securityGetState (h : requestOk 10 1 noPayload i r s = true) :
    answers (.securityGetState r) 10 1 i r s (fun p u => u = s ∧ leAt p 4 1 = s.get Reg.secStatusCounter ∧
      ∀ n, n < 4 → leAt p n 1 = rootShown s n) := by
  obtain ⟨roots, hroots⟩ : ∃ roots, roots = (List.range 4).flatMap (fun i => leBytes 1 (rootShown s i)) := ⟨_, rfl⟩
  have hlen : roots.length = 4 := by rw [hroots]; rfl
  obtain ⟨rest, hact⟩ : ∃ rest : State → List Byte, exec (.securityGetState r) s = .next (serve 10 1 r noPayload
      (fun s => .ok s ((List.range 4).flatMap (fun i => leBytes 1 (rootShown s i)) ++ (leBytes 1 (s.get Reg.secStatusCounter)
        ++ rest s))) s) := by
    refine ⟨fun s => zeros 3 ++ (Config.sha384 (trustBytes s)).take 48
      ++ (List.range 3).flatMap (fun i => leBytes 1 (s.sec.anchors.getD i []).length)
      ++ leBytes 1 s.sec.keys.length ++ leBytes 2 (s.get Reg.hhkStatusKeyEpoch)
      ++ leBytes 1 (assoc s.sec.enrol (s.get Reg.sysPositionSlotId)) ++ zeros 1
      ++ (if s.sec.oper.isEmpty then zeros 10 else timeBytes (certTai s * nsPerS)) ++ zeros 54, ?_⟩
    change execSecurityGetState r s = _
    unfold execSecurityGetState rootShown
    simp only [List.append_assoc]
  refine answers_of_ok hact h rfl ⟨rfl, ?_, fun n hn => ?_⟩
  · rw [← hroots, leAt_behind _ _ _ _ (by omega), hlen, leAt_leBytes_append]
    exact Nat.mod_eq_of_lt (State.get_lt s Reg.secStatusCounter)
  · have hentry := leAt_flatMap (f := fun i => leBytes 1 (rootShown s i)) (k := 1) (fun _ => leBytes_length ..)
      (List.getElem?_range hn) (off := 0) (n := 1) (by decide)
    rw [Nat.one_mul, Nat.add_zero, ← hroots] at hentry
    rw [← hroots, leAt_append_of_le _ (by omega), hentry, ← List.append_nil (leBytes 1 _), leAt_leBytes_append]
    exact Nat.mod_eq_of_lt (rootShown_lt s n)

/-! ### SET_TRUST_ANCHORS and LOAD_CRL (16 R472) -/

section TrustAnchors
variable {kind : Nat} {l : List (List Byte)} (h : requestOk 10 2 (fun n => decide (4 ≤ n)) i r s = true)
  (hkind : leAt r.payload 0 1 = kind) (hlo : 1 ≤ kind) (hhi : kind ≤ 3) (hcount : leAt r.payload 1 1 ≤ 8)
  (hzero : leAt r.payload 2 2 = 0) (hl : lenEntries (leAt r.payload 1 1) (r.payload.drop 4) = some l)
include h hkind hlo hhi hcount hzero hl

omit h hl in
theorem trustAnchors_good : firstBad (inRange r.payload 0 1 1 4
    ++ inRange r.payload 1 1 0 (if leAt r.payload 0 1 = 4 then 64 else 8) ++ resv r.payload 2 2) = none := by
  refine firstBad_none fun p hp => ?_
  rw [List.mem_append, List.mem_append] at hp
  rcases hp with (hp | hp) | hp
  · rw [inRange, List.mem_singleton] at hp
    simp only [hp, hkind, Bool.and_eq_true, decide_eq_true_eq]
    omega
  · rw [inRange, List.mem_singleton, hkind, if_neg (by omega)] at hp
    simp only [hp, Bool.and_eq_true, decide_eq_true_eq]
    omega
  · exact resv_ok 2 hzero p hp

omit h in
/-- What SET_TRUST_ANCHORS does with entries that stand in its bytes. -/
theorem exec_setTrustAnchors : ∃ act, exec (.securitySetTrustAnchors r) s =
      .next (serve 10 2 r (fun n => decide (4 ≤ n)) act s) ∧
    act s = if l.all (Config.anchorOk kind) then
      .ok (s.updSec (fun k => { k with anchors := listSet k.anchors (kind - 1) (fun _ => l) })) []
      else .err s stVerifyFailed noField := by
  have hgood := trustAnchors_good hkind hlo hhi hcount hzero
  refine ⟨_, rfl, ?_⟩
  dsimp only
  rw [hgood, hl, hkind]
  exact if_neg (by omega)

theorem answers_setTrustAnchors (hthree : s.sec.anchors.length = 3) (hall : l.all (Config.anchorOk kind) = true) :
    answers (.securitySetTrustAnchors r) 10 2 i r s (fun p u => p = [] ∧ u.regs = s.regs ∧ memKept s u ∧
      ∀ k, k < 3 → u.sec.anchors.getD k [] = if k + 1 = kind then l else s.sec.anchors.getD k []) := by
  obtain ⟨act, hexec, hact⟩ := exec_setTrustAnchors (s := s) hkind hlo hhi hcount hzero hl
  refine answers_of_ok hexec h (hact.trans (if_pos hall)) ⟨rfl, rfl, fun _ => rfl, fun k hk => ?_⟩
  change (listSet s.sec.anchors (kind - 1) (fun _ => l)).getD k [] = _
  by_cases hsame : k + 1 = kind
  · rw [if_pos hsame, show kind - 1 = k by omega]
    exact getD_listSet_same (by omega) _ _
  · rw [if_neg hsame]
    exact getD_listSet_other _ (by omega) _ _

theorem answersErr_setTrustAnchors (hsome : l.all (Config.anchorOk kind) ≠ true) :
    answersErr (.securitySetTrustAnchors r) 10 2 i r s stVerifyFailed noField (fun u => u = s) := by
  obtain ⟨act, hexec, hact⟩ := exec_setTrustAnchors (s := s) hkind hlo hhi hcount hzero hl
  exact answersErr_of_err hexec h (hact.trans (if_neg hsome)) (by decide) rfl

end TrustAnchors

/-- The CRLs held once one is loaded for an issuer. -/
def crlsWith (c : Nat) (r : Req) (s : State) : List (List Byte) :=
  (heldCrls s).filter (fun x => Config.crlIssuer (s.sec.anchors.getD 0 []) x != some c) ++ [r.payload]

theorem crlsWith_shows {c : Nat} (hlen : r.payload.length ≤ 1048576) (hheld : (heldCrls s).length < 8) :
    (crlsWith c r s).length ≤ 8 ∧ ∀ e ∈ crlsWith c r s, fitsLen e := by
  have hothers := List.length_filter_le (fun x => Config.crlIssuer (s.sec.anchors.getD 0 []) x != some c) (heldCrls s)
  refine ⟨?_, fun e he => ?_⟩
  · rw [crlsWith, List.length_append, List.length_singleton]
    omega
  · rcases List.mem_append.mp he with he | he
    · exact fitsLen_heldCrls (List.mem_filter.mp he).1
    · rw [List.mem_singleton.mp he, fitsLen]
      omega

theorem heldCrls_write {l : List (List Byte)} (hlen : l.length ≤ 8) (hfits : ∀ e ∈ l, fitsLen e) (s : State) :
    let b := leBytes 1 l.length ++ zeros 7 ++ lenBytes l
    (writeOwn objCrl b s).regs = s.regs ∧ (writeOwn objCrl b s).mem = s.mem ∧ heldCrls (writeOwn objCrl b s) = l := by
  dsimp only
  obtain ⟨hregs, hmem, hform⟩ := writeOwn_shows objCrl (b := leBytes 1 l.length ++ zeros 7 ++ lenBytes l) (by simp [leBytes]) s
  refine ⟨hregs, hmem, ?_⟩
  have hcount : leAt (leBytes 1 l.length ++ zeros 7 ++ lenBytes l) 0 1 = l.length := by
    rw [List.append_assoc, leAt_leBytes_append]
    exact Nat.mod_eq_of_lt (by omega)
  have hdrop : (leBytes 1 l.length ++ zeros 7 ++ lenBytes l).drop 8 = lenBytes l := List.drop_left' rfl
  rw [heldCrls, hform, hcount, hdrop, lenEntries_lenBytes hfits]
  rfl

theorem answersErr_loadCrl (h : requestOk 10 3 (fun n => decide (1 ≤ n) && decide (n ≤ 1048576)) i r s = true)
    (hnone : Config.crlIssuer (s.sec.anchors.getD 0 []) r.payload = none) :
    answersErr (.securityLoadCrl r) 10 3 i r s stVerifyFailed noField (fun u => u = s) := by
  refine answersErr_of_err rfl h ?_ (by decide) rfl
  dsimp only
  rw [hnone]

theorem answers_loadCrl (h : requestOk 10 3 (fun n => decide (1 ≤ n) && decide (n ≤ 1048576)) i r s = true)
    (hheld : (heldCrls s).length < 8) {c : Nat}
    (hsome : Config.crlIssuer (s.sec.anchors.getD 0 []) r.payload = some c) :
    answers (.securityLoadCrl r) 10 3 i r s (fun p u => p = [] ∧ u.regs = s.regs ∧ memKept s u ∧
      heldCrls u = (heldCrls s).filter (fun x => Config.crlIssuer (s.sec.anchors.getD 0 []) x != some c) ++ [r.payload]) := by
  have hlen : r.payload.length ≤ 1048576 := by
    have hlen := requestOk_length h
    simp only [Bool.and_eq_true, decide_eq_true_eq] at hlen
    exact hlen.2
  obtain ⟨hcount, hfits⟩ := crlsWith_shows (c := c) hlen hheld
  obtain ⟨hregs, hmem, hcrls⟩ := heldCrls_write hcount hfits s
  have hothers := List.length_filter_le (fun x => Config.crlIssuer (s.sec.anchors.getD 0 []) x != some c) (heldCrls s)
  refine answers_of_ok (u := writeOwn objCrl (leBytes 1 (crlsWith c r s).length ++ zeros 7 ++ lenBytes (crlsWith c r s)) s)
    rfl h ?_ ⟨rfl, hregs, memKept_of_mem hmem, hcrls⟩
  dsimp only
  rw [hsome]
  exact if_neg (by omega)

theorem assoc_assocSet_same (l : List (Nat × Nat)) (k v : Nat) : assoc (assocSet l k v) k = v := kvGet_kvPut_same _ k v l

theorem enrol_setEnrol (slot phase : Nat) (s : State) : assoc (setEnrol slot phase s).sec.enrol slot = phase :=
  assoc_assocSet_same s.sec.enrol slot phase

/-! ### ENROL (16 R454, R455, R471) -/

section Enrol
variable {a : Nat} (h : requestOk 10 4 (fun n => decide (4 ≤ n)) i r s = true) (hzero : leAt r.payload 1 3 = 0)
  (ha : leAt r.payload 0 1 = a)
include h hzero ha

omit h in
theorem enrol_good (hlt : a < 3) : firstBad (inRange r.payload 0 1 0 3 ++ resv r.payload 1 3
    ++ whenOn (leAt r.payload 0 1 = 3) (estChecks r.payload)) = none := by
  refine firstBad_none fun p hp => ?_
  rw [List.mem_append, List.mem_append] at hp
  rcases hp with (hp | hp) | hp
  · rw [inRange, List.mem_singleton] at hp
    simp only [hp, ha, Bool.and_eq_true, decide_eq_true_eq]
    omega
  · exact resv_ok 3 hzero p hp
  · rw [whenOn, ha, if_neg (by simp; omega)] at hp
    simp at hp

omit h in
/-- What ENROL does for the actions that end a request of its length. -/
theorem exec_enrol (hlt : a < 3) (hlen : (if a = 1 then r.payload.length - 4 != 0 else r.payload.length - 4 == 0) = true) :
    ∃ act, exec (.securityEnrol r) s = .next (serve 10 4 r (fun n => decide (4 ≤ n)) act s) ∧
    act s = if a = 0 then .ok (newRequest s).2 (newRequest s).1
      else if a = 1 then
        match Config.chainNotAfter (r.payload.drop 4) with
        | some t => .ok (installCert (r.payload.drop 4) t s) []
        | none => .err (s.raise Ev.secEnrolFail) stVerifyFailed noField
      else if leAt (storedForm s objSec) 6 1 = 0xFF then conflict s
      else renewNow s := by
  have hgood := enrol_good hzero ha hlt
  refine ⟨_, rfl, ?_⟩
  dsimp only
  rw [hgood, ha]
  obtain rfl | rfl | rfl : a = 0 ∨ a = 1 ∨ a = 2 := by omega
  · rw [if_neg (by simpa using hlen)]
    rfl
  · rw [if_neg (by simpa using hlen)]
    rfl
  · rw [if_neg (by simpa using hlen)]
    rfl

theorem answers_enrol_request (haction : a = 0) (hlen : r.payload.length = 4) :
    answers (.securityEnrol r) 10 4 i r s (fun p u =>
      p = Config.certRequest s.sec.serial (storedForm s objSec) s.freeCtr ∧ u.sec = s.sec ∧ u.regs = s.regs ∧ memKept s u) := by
  obtain ⟨act, hexec, hact⟩ := exec_enrol hzero ha (s := s) (by omega) (by simp [haction, hlen])
  exact answers_of_ok hexec h (hact.trans (if_pos haction)) ⟨rfl, rfl, rfl, fun _ => rfl⟩

theorem answers_enrol_chain (haction : a = 1) (hlen : 5 ≤ r.payload.length) {t : Nat}
    (hchain : Config.chainNotAfter (r.payload.drop 4) = some t) :
    answers (.securityEnrol r) 10 4 i r s (fun p u => p = [] ∧ u.sec.oper = r.payload.drop 4 ∧ u.sec.notAfter = t ∧
      u.regs = s.regs ∧ memKept s u) := by
  obtain ⟨act, hexec, hact⟩ := exec_enrol hzero ha (s := s) (by omega) (by simp [haction]; omega)
  rw [if_neg (by omega), if_pos haction, hchain] at hact
  exact answers_of_ok hexec h hact ⟨rfl, rfl, rfl, rfl, fun _ => rfl⟩

theorem answersErr_enrol_chain (haction : a = 1) (hlen : 5 ≤ r.payload.length)
    (hchain : Config.chainNotAfter (r.payload.drop 4) = none) :
    answersErr (.securityEnrol r) 10 4 i r s stVerifyFailed noField (fun u => u.sec = s.sec ∧
      u.on Ev.secEnrolFail.flag = true ∧ memKept s u) := by
  obtain ⟨act, hexec, hact⟩ := exec_enrol hzero ha (s := s) (by omega) (by simp [haction]; omega)
  rw [if_neg (by omega), if_pos haction, hchain] at hact
  exact answersErr_of_err hexec h hact (by decide)
    ⟨State.raise_sec .., State.on_raise_flag _ _ (by decide), memKept_of_mem (State.raise_mem ..)⟩

theorem answersErr_enrol_noServer (haction : a = 2) (hlen : r.payload.length = 4)
    (hnone : leAt (storedForm s objSec) 6 1 = 0xFF) :
    answersErr (.securityEnrol r) 10 4 i r s stStateConflict noField (fun u => u = s) := by
  obtain ⟨act, hexec, hact⟩ := exec_enrol hzero ha (s := s) (by omega) (by simp [haction, hlen])
  rw [if_neg (by omega), if_neg (by omega), if_pos hnone] at hact
  exact answersErr_of_err hexec h hact (by decide) rfl

theorem holds_enrol (haction : a = 2) (hlen : r.payload.length = 4) (hserver : leAt (storedForm s objSec) 6 1 ≠ 0xFF)
    (hruns : clientRuns s = true) :
    holds (.securityEnrol r) 10 4 i r s (fun u => assoc u.sec.enrol (s.get Reg.sysPositionSlotId) = 1 ∧ u.regs = s.regs ∧
      memKept s u) := by
  obtain ⟨act, hexec, hact⟩ := exec_enrol hzero ha (s := s) (by omega) (by simp [haction, hlen])
  rw [if_neg (by omega), if_neg (by omega), if_neg hserver, renewNow, if_pos hruns] at hact
  exact holds_of_later hexec h hact ⟨enrol_setEnrol .., rfl, fun _ => rfl⟩

end Enrol

/-! ### The role map (16 R472) -/

theorem sleAt_two_ge (b : List Byte) (off : Nat) : -32768 ≤ sleAt b off 2 := by
  have hlt : leAt b off 2 < 256 ^ 2 := leAt_lt b off 2
  unfold sleAt toSigned
  dsimp only
  split <;> omega

theorem answers_setRoleMap (h : requestOk 10 5 (exactly 4) i r s = true) (hneg : sleAt r.payload 0 2 < 0)
    (hzero : leAt r.payload 2 2 = 0) :
    answers (.securitySetRoleMap r) 10 5 i r s (fun p u => p = [] ∧ u.regs = s.regs ∧ memKept s u ∧
      leAt (storedForm u objSec) 4 2 = leAt r.payload 0 2 ∧
      leAt (storedForm u objSec) 0 4 = (leAt (storedForm s objSec) 0 4 + 1) % 2 ^ 32) := by
  obtain ⟨c, hc⟩ : ∃ c, c = storedForm s objSec := ⟨_, rfl⟩
  have hlen : r.payload.length = 4 := by simpa [exactly] using requestOk_length h
  have hgood : firstBad (inBounds r.payload 0 2 (-32768) (-1) ++ resv r.payload 2 2) = none := by
    refine firstBad_none fun p hp => ?_
    rcases List.mem_append.mp hp with hp | hp
    · rw [inBounds, List.mem_singleton] at hp
      have hge := sleAt_two_ge r.payload 0
      simp only [hp, Bool.and_eq_true, decide_eq_true_eq]
      omega
    · exact resv_ok 2 hzero p hp
  have hform : leBytes 4 (leAt c 0 4 + 1) ++ (c.take 4).drop 4 ++ r.payload.take 2 ++ c.drop (4 + (r.payload.take 2).length) =
      leBytes 4 (leAt c 0 4 + 1) ++ (r.payload.take 2 ++ c.drop (4 + (r.payload.take 2).length)) := by
    rw [List.drop_eq_nil_of_le (List.length_take_le ..), List.append_nil, List.append_assoc]
  have hwrite : writeSecConf 4 (r.payload.take 2) s = writeOwn objSec
      (leBytes 4 (leAt c 0 4 + 1) ++ (r.payload.take 2 ++ c.drop (4 + (r.payload.take 2).length))) s := by
    rw [← hform, hc]
    rfl
  obtain ⟨hregs, hmem, hstored⟩ := writeOwn_shows objSec
    (b := leBytes 4 (leAt c 0 4 + 1) ++ (r.payload.take 2 ++ c.drop (4 + (r.payload.take 2).length))) (by simp [leBytes]) s
  refine answers_of_ok rfl h (u := writeSecConf 4 (r.payload.take 2) s) (pay := []) ?_ ?_
  · rw [hgood]
  rw [hwrite, hstored, ← hc, leAt_leBytes_append, leAt_behind_leBytes _ _ _ _ _ (by decide), leAt_append_of_le _ (by simp; omega)]
  refine ⟨rfl, hregs, memKept_of_mem hmem, ?_, rfl⟩
  rw [leAt, leAt, List.drop_zero, List.drop_zero, List.take_take]
  rfl

end Security

end Sys2Proof.Machine
end

section
/-! PROOF. Root-key slots, group keys, fuse digests and returned certificates (16 R444, R455, R456, R471, R473), and the
statement on the SECURITY family. -/

namespace Sys2Proof.Machine

section Keys

variable {i : Nat} {r : Req} {s : State}

/-! ### REVOKE_ROOT_SLOT (16 R444) -/

section Revoke
variable {n : Nat} (h : requestOk 10 6 (exactly 12) i r s = true) (hn : leAt r.payload 0 1 = n) (hlt : n < 4)
  (hzero : leAt r.payload 1 3 = 0) (hkey : (r.payload.drop 4).take 8 = (s.sec.roots.getD n []).take 8)
include h hn hlt hzero hkey

omit h in
theorem revoke_good : firstBad (inRange r.payload 0 1 0 3 ++ resv r.payload 1 3
    ++ [(4, (r.payload.drop 4).take 8 == (s.sec.roots.getD (leAt r.payload 0 1) []).take 8)]) = none := by
  refine firstBad_none fun p hp => ?_
  rw [List.mem_append, List.mem_append] at hp
  rcases hp with (hp | hp) | hp
  · rw [inRange, List.mem_singleton] at hp
    simp only [hp, hn, Bool.and_eq_true, decide_eq_true_eq]
    omega
  · exact resv_ok 3 hzero p hp
  · rw [List.mem_singleton] at hp
    simp [hp, hn, hkey]

omit h in
theorem exec_revoke : ∃ act, exec (.securityRevokeRootSlot r) s = .next (serve 10 6 r (exactly 12) act s) ∧
    act s = if (s.slot (s.get Reg.secStatusSlot)).rootSlot = n || withBit (s.get Reg.secStatusRootRevoked) n true = 15 then
      conflict s
      else .ok (lifetimeAdd 8 (leBytes 1 n) (emptyRevoked n ((s.set Reg.secStatusRootRevoked
        (withBit (s.get Reg.secStatusRootRevoked) n true)).raise Ev.secRootRevoked))) [] := by
  have hgood := revoke_good hn hlt hzero hkey
  refine ⟨_, rfl, ?_⟩
  dsimp only
  rw [hgood, hn]

theorem answersErr_revoke (hown : (s.slot (s.get Reg.secStatusSlot)).rootSlot = n) :
    answersErr (.securityRevokeRootSlot r) 10 6 i r s stStateConflict noField (fun u => u = s) := by
  obtain ⟨act, hexec, hact⟩ := exec_revoke hn hlt hzero hkey
  exact answersErr_of_err hexec h (hact.trans (if_pos (by simp [hown]))) (by decide) rfl

omit h hn hlt hzero hkey in
theorem emptyRevoked_frame (n : Nat) (v : State) : (emptyRevoked n v).mem = v.mem ∧ (emptyRevoked n v).regs = v.regs := by
  unfold emptyRevoked
  dsimp only
  split
  · obtain ⟨m, hm⟩ := writeRecord_eq (slotState (1 - v.get Reg.secStatusSlot) slotEmpty) v
    rw [hm]
    exact ⟨rfl, rfl⟩
  · exact ⟨rfl, rfl⟩

theorem answers_revoke (hother : (s.slot (s.get Reg.secStatusSlot)).rootSlot ≠ n)
    (hleft : withBit (s.get Reg.secStatusRootRevoked) n true ≠ 15) :
    answers (.securityRevokeRootSlot r) 10 6 i r s (fun p u => p = [] ∧ memKept s u ∧
      (∀ m, m < 4 → bitOf (u.get Reg.secStatusRootRevoked) m = (bitOf (s.get Reg.secStatusRootRevoked) m || m == n)) ∧
      u.on Ev.secRootRevoked.flag = true) := by
  obtain ⟨act, hexec, hact⟩ := exec_revoke hn hlt hzero hkey
  obtain ⟨v, hv⟩ : ∃ v, v = (s.set Reg.secStatusRootRevoked (withBit (s.get Reg.secStatusRootRevoked) n true)).raise
    Ev.secRootRevoked := ⟨_, rfl⟩
  rw [if_neg (by simp [hother, hleft]), ← hv] at hact
  have hvmem : v.mem = s.mem := by rw [hv, State.raise_mem, State.set_mem]
  have hvflag : v.on Ev.secRootRevoked.flag = true := hv ▸ State.on_raise_flag _ _ (by decide)
  have hvbit {m : Nat} (hm : m < 4) : bitOf (v.get Reg.secStatusRootRevoked) m =
      (bitOf (s.get Reg.secStatusRootRevoked) m || m == n) := by
    rw [hv, State.get_raise_off _ _ _ (by decide), State.bitOf_get_set _ _ (by decide) hm, bitOf_withBit]
    by_cases hmn : m = n <;> simp [hmn]
  obtain ⟨hmem, hregs⟩ := emptyRevoked_frame n v
  have hlasts : (emptyRevoked n v).Lasts (lifetimeAdd 8 (leBytes 1 n) (emptyRevoked n v)) := (State.Lasts.refl _).lifetimeAdd
  have hget {f : Fld} (hf : lasting f.addr = true) :
      (lifetimeAdd 8 (leBytes 1 n) (emptyRevoked n v)).get f = v.get f := (hlasts.get hf).trans (State.get_congr _ _ hregs f)
  refine answers_of_ok hexec h hact ⟨rfl, memKept_of_mem (hlasts.mem.trans (hmem.trans hvmem)), fun m hm => ?_, ?_⟩
  · rw [hget (by decide), hvbit hm]
  · rw [State.on_congr (hget (by decide)), hvflag]

end Revoke

/-! ### ROTATE_GROUP_KEYS (16 R456) -/

theorem renewKeys_shows (s : State) : memKept s (renewKeys s) ∧
    (renewKeys s).get Reg.hhkStatusKeyEpoch = (s.get Reg.hhkStatusKeyEpoch + 1) % 65536 ∧
    ∀ p, p < 2 → (renewKeys s).hhk.oldKeys.any (fun q => q.1 == facedSlot s p) = true := by
  obtain ⟨t, hexec, hmem, -, -, hold, hepoch, -⟩ := leads_keyRenewal s
  obtain rfl : renewKeys s = t := Host.Outcome.next.inj hexec
  exact ⟨hmem, hepoch, fun p hp => List.any_eq_true.mpr ⟨_, hold p hp, by simp⟩⟩

theorem answers_rotate (h : requestOk 10 7 noPayload i r s = true) (howner : isOwner s = true) :
    answers (.securityRotateGroupKeys r) 10 7 i r s (fun p u => p = leBytes 2 (u.get Reg.hhkStatusKeyEpoch) ++ zeros 6 ∧
      memKept s u ∧ u.get Reg.hhkStatusKeyEpoch = (s.get Reg.hhkStatusKeyEpoch + 1) % 65536 ∧
      ∀ p, p < 2 → u.hhk.oldKeys.any (fun q => q.1 == facedSlot s p) = true) :=
  answers_of_ok rfl h (if_neg (by simp [howner])) ⟨rfl, renewKeys_shows s⟩

theorem answersErr_rotate (h : requestOk 10 7 noPayload i r s = true) (hother : isOwner s = false) :
    answersErr (.securityRotateGroupKeys r) 10 7 i r s stStateConflict noField (fun u => u = s) :=
  answersErr_of_err rfl h (if_pos (by simp [hother])) (by decide) rfl

/-! ### Fuse digests (16 R473) and certificates that return (16 R455) -/

theorem leads_otpDigestCheck (s : State) : leads (.otpDigestCheck false) s (fun t => hasFailed 0x0E 0xFF t ∧ memKept s t) :=
  ⟨fail 0x0E 0xFF 0xFF false s, congrArg Host.Outcome.next (if_neg (by decide)), fail_hasFailed (by decide) (by decide) 0xFF false s,
    fail_memKept 0x0E 0xFF 0xFF false s⟩

theorem exec_enrolRenewal_idle (h : clientRuns s = false) (n : Nat) (x : Option (List Byte × Nat)) :
    exec (.enrolRenewal n x) s = .next s := congrArg Host.Outcome.next (if_pos (by simp [h]))

theorem forwardTo_sends (k : Nat) (data : List Nat) (s : State) : s.Sends (forwardTo k data s) := toPeers_sends ..

theorem forwardTo_outbox (k : Nat) (data : List Nat) (s : State) :
    (forwardTo k data s).outbox = s.outbox ++ framesOf (waysOf s "FORWARD") "FORWARD" 0 (k :: data) := by
  rw [forwardTo, toPeers, sendNumbered, if_neg (by decide)]
  rfl

theorem leads_enrolRenewal_member (h : clientRuns s = true) {n : Nat} (hn : n ≠ s.get Reg.sysPositionSlotId) (c : List Byte)
    (t0 : Nat) : leads (.enrolRenewal n (some (c, t0))) s (fun t =>
      t.outbox = s.outbox ++ framesOf (waysOf s "FORWARD") "FORWARD" 0 (17 :: n :: t0 :: asNats c) ∧ assoc t.sec.enrol n = 0 ∧
        t.regs = s.regs ∧ memKept s t) := by
  obtain ⟨v, hv⟩ : ∃ v, v = setEnrol n 0 s := ⟨_, rfl⟩
  have hsends := forwardTo_sends 17 (n :: t0 :: asNats c) v
  refine ⟨forwardTo 17 (n :: t0 :: asNats c) v, ?_, ?_, ?_, hsends.regs.trans (by rw [hv]; rfl),
    memKept_of_mem (hsends.mem.trans (by rw [hv]; rfl))⟩
  · exact congrArg Host.Outcome.next ((if_neg (by simp [h])).trans ((if_neg hn).trans (by rw [hv])))
  · rw [forwardTo_outbox, hv]
    rfl
  · rw [hsends.sec, hv, enrol_setEnrol]

theorem leads_enrolRenewal_own (h : clientRuns s = true) (c : List Byte) (t0 : Nat) :
    leads (.enrolRenewal (s.get Reg.sysPositionSlotId) (some (c, t0))) s (fun t => t.sec.oper = c ∧ t.sec.notAfter = t0 ∧
      assoc t.sec.enrol (s.get Reg.sysPositionSlotId) = 0 ∧ ((∀ i, i < 16 → ringsIdle i s = true) → memKept s t)) := by
  obtain ⟨v, hv⟩ : ∃ v, v = installCert c t0 (setEnrol (s.get Reg.sysPositionSlotId) 0 s) := ⟨_, rfl⟩
  have hvoff : s.OffRings v := by rw [hv]; exact ⟨rfl, fun _ _ _ => rfl⟩
  have hsec : (finishAll 10 4 stOk [] v).sec = v.sec := (State.ProgKept.refl v).finishAll.sec
  refine ⟨finishAll 10 4 stOk [] v, ?_, ?_, ?_, ?_, fun hidle => ?_⟩
  · exact congrArg Host.Outcome.next ((if_neg (by simp [h])).trans ((if_pos rfl).trans (by rw [hv]; rfl)))
  · rw [hsec, hv]
    rfl
  · rw [hsec, hv]
    rfl
  · rw [hsec, hv]
    exact enrol_setEnrol (s.get Reg.sysPositionSlotId) 0 s
  · exact memKept_of_mem (hvoff.finishAll fun i hi => answersIdle_of_ringsIdle (hidle i hi)).mem

end Keys

/-- Settles O46: each request of the family by what its command does with a payload within its ranges; the keys, the
digests and the certificates by what their events leave. -/
theorem securityCommands : Obligations.SecurityCommands := by
  unfold Obligations.SecurityCommands
  intro i r s
  refine ⟨answers_securityGetState, fun kind l h hkind hlo hhi hcount hzero hthree hl => ?_, fun h hheld => ?_,
    fun h hzero => ⟨answers_enrol_request h hzero rfl, fun haction hlen => ?_, answersErr_enrol_noServer h hzero rfl,
      holds_enrol h hzero rfl⟩, answers_setRoleMap,
    fun n h hn hlt hzero hkey => ⟨answers_revoke h hn hlt hzero hkey, answersErr_revoke h hn hlt hzero hkey⟩,
    fun h => ⟨answers_rotate h, answersErr_rotate h⟩, rfl, leads_otpDigestCheck s, fun h n x => exec_enrolRenewal_idle h n x,
    fun h n c t0 hn => leads_enrolRenewal_member h hn c t0, fun h c t0 => leads_enrolRenewal_own h c t0⟩
  · split
    next hall => exact answers_setTrustAnchors h hkind hlo hhi hcount hzero hl hthree hall
    next hsome => exact answersErr_setTrustAnchors h hkind hlo hhi hcount hzero hl hsome
  · cases hissuer : Config.crlIssuer (s.sec.anchors.getD 0 []) r.payload with
    | none => exact answersErr_loadCrl h hissuer
    | some c => exact answers_loadCrl h hheld hissuer
  · cases hchain : Config.chainNotAfter (r.payload.drop 4) with
    | none => exact answersErr_enrol_chain h hzero rfl haction hlen hchain
    | some t => exact answers_enrol_chain h hzero rfl haction hlen hchain

end Sys2Proof.Machine
end

section
/-! SUPPORT. A settings object takes effect (04 R139): its function's blocks start from it, and memory and the other objects
stay. -/

namespace Sys2Proof.Machine

/-- `t` comes from `s` without a write to memory or to a settings object. -/
structure State.CfgKept (s t : State) : Prop where
  mem : t.mem = s.mem
  cfg : t.cfg = s.cfg

namespace State.CfgKept

variable {s t u : State}

protected theorem refl (s : State) : s.CfgKept s := ⟨rfl, rfl⟩

protected theorem trans (h : s.CfgKept t) (h' : t.CfgKept u) : s.CfgKept u := ⟨h'.mem.trans h.mem, h'.cfg.trans h.cfg⟩

protected theorem ite {c : Prop} [Decidable c] (ht : s.CfgKept t) (hu : s.CfgKept u) : s.CfgKept (if c then t else u) := by
  split <;> assumption

protected theorem foldl {α : Type} {f : State → α → State} {l : List α} (h : s.CfgKept t)
    (hf : ∀ t x, s.CfgKept t → s.CfgKept (f t x)) : s.CfgKept (l.foldl f t) := by
  induction l generalizing t with
  | nil => exact h
  | cons x r ih => exact ih (hf t x h)

protected theorem upd (h : s.CfgKept t) {regs mono freeCtr outbox time mbx pair hhk nvs memi gate fio can ast lsp net prog
    sec pwr bkd pending} :
    s.CfgKept (State.mk regs t.mem mono freeCtr outbox time mbx pair hhk nvs memi gate fio can t.cfg ast lsp net prog sec
      pwr bkd pending) := ⟨h.mem, h.cfg⟩

protected theorem set (h : s.CfgKept t) {f : Fld} {v : Nat} : s.CfgKept (t.set f v) :=
  ⟨(State.set_mem ..).trans h.mem, (State.set_cfg ..).trans h.cfg⟩

protected theorem setBit (h : s.CfgKept t) {f : Fld} {b : Bool} : s.CfgKept (t.setBit f b) := h.set

protected theorem setReg (h : s.CfgKept t) {a : Nat} {w : Word} : s.CfgKept (t.setReg a w) := h.upd

protected theorem raise (h : s.CfgKept t) {e : Ev} : s.CfgKept (t.raise e) :=
  ⟨(State.raise_mem ..).trans h.mem, (State.raise_cfg ..).trans h.cfg⟩

/-! ### Stations, streams and PMU streams (06, 08) -/

protected theorem reviewStation (h : s.CfgKept t) {n r} : s.CfgKept (reviewStation n t r) := by
  unfold Machine.reviewStation
  exact .ite h (.raise (.ite h.set.set.upd h.set.set.upd.upd))

protected theorem reviewStations (h : s.CfgKept t) : s.CfgKept (reviewStations t) := by
  unfold Machine.reviewStations Machine.reviewStationsAt
  split
  exacts [h.foldl fun _ _ h => h.reviewStation, h]

protected theorem showPmus (h : s.CfgKept t) : s.CfgKept (showPmus t) := by
  unfold Machine.showPmus
  exact h.foldl fun _ _ h => h.setBit.setBit.setBit

protected theorem applyStream (h : s.CfgKept t) {old b n} : s.CfgKept (applyStream old b t n) := by
  unfold Machine.applyStream
  exact .ite (.set (.setReg h.upd)) h

protected theorem dropItems (h : s.CfgKept t) {b} : s.CfgKept (dropItems b t) := by
  unfold Machine.dropItems
  exact .set (.foldl h.upd fun _ _ h => .ite h h.setReg.setReg.setReg)

protected theorem streamingDue (h : s.CfgKept t) {k} : s.CfgKept (streamingDue k t) := by
  unfold Machine.streamingDue Machine.setStreaming
  exact .foldl h.upd fun _ _ h => .showPmus (h.foldl fun _ _ h => .ite h.setBit h)

/-! ### Ports (08) -/

protected theorem loseMacsec (h : s.CfgKept t) {n} : s.CfgKept (loseMacsec n t) := by
  unfold Machine.loseMacsec Machine.setMacsec
  exact .ite (.raise (.showPmus (.set (.setBit (.ite h.upd h))))) h

protected theorem showPort (h : s.CfgKept t) {b n} : s.CfgKept (showPort b t n) := by
  unfold Machine.showPort
  exact .ite h.setBit.set.setBit.setBit h.setBit.set.setBit.setBit.loseMacsec

protected theorem showSending (h : s.CfgKept t) : s.CfgKept (showSending t) := by
  unfold Machine.showSending
  exact h.foldl fun _ _ h => h.setBit

/-! ### Larkspur, field I/O and CAN (07, 09, 10) -/

protected theorem reformGroup (h : s.CfgKept t) {g} : s.CfgKept (reformGroup g t) := by
  unfold Machine.reformGroup Machine.setArmed
  exact .set (.setBit h.upd)

protected theorem showCal (h : s.CfgKept t) : s.CfgKept (showCal t) := by
  unfold Machine.showCal
  exact h.foldl fun _ _ h => h.setBit

protected theorem showStages (h : s.CfgKept t) : s.CfgKept (showStages t) := by
  unfold Machine.showStages
  exact .foldl h.setBit.setBit.set fun _ _ h => .ite h.setBit (.set (.upd h.setBit))

protected theorem canFail (h : s.CfgKept t) {c o reason bitPos time esi} :
    s.CfgKept (canFail c o reason bitPos time esi t) := by
  unfold Machine.canFail Machine.canLog
  exact .raise (.set (.upd h.upd))

protected theorem showCan (h : s.CfgKept t) : s.CfgKept (showCan t) := by
  unfold Machine.showCan
  exact .foldl h.setBit.setBit.setBit.setBit fun _ _ h => h.setBit

end State.CfgKept

/-- `t` comes from `s` by an object that takes effect: it alone changes of the settings, and memory stays. -/
structure State.Applies (o : Nat) (b : List Byte) (s t : State) : Prop where
  mem : t.mem = s.mem
  cfg : t.cfg = { s.cfg with applied := objSet s.cfg.applied o b }

variable {s t : State}

/-- An object that is in effect, and what its blocks make of it. -/
theorem State.Applies.of_kept {o : Nat} {b : List Byte} (h : (putConf o b s).CfgKept t) : s.Applies o b t := ⟨h.mem, h.cfg⟩

/-- An object that is put into effect after its blocks have been told of it. -/
theorem State.Applies.putConf {o : Nat} {b : List Byte} (h : s.CfgKept t) : s.Applies o b (Machine.putConf o b t) :=
  ⟨h.mem, by rw [Machine.putConf, h.cfg]⟩

theorem State.Applies.then {u : State} {o : Nat} {b : List Byte} (h : s.Applies o b t) (h' : t.CfgKept u) : s.Applies o b u :=
  ⟨h'.mem.trans h.mem, h'.cfg.trans h.cfg⟩

theorem netApply_applies (b : List Byte) (s : State) : s.Applies objNet b (netApply b s) := by
  unfold netApply
  have h := State.CfgKept.refl (putConf objNet b s)
  exact .of_kept (.reviewStations (.showPmus (.showSending (.raise (.set (.foldl (.foldl (.set (.set (h.foldl
    fun _ _ h => h.showPort))) fun _ _ h => .setBit (.ite h.upd h)) fun _ _ h => .setBit (.ite (.set h.upd) h)))))))

theorem astApply_applies (k : Nat) (b : List Byte) (s : State) : s.Applies objAster b (astApply k b s) := by
  unfold astApply
  have h := State.CfgKept.refl (putConf objAster b s)
  exact .of_kept (.reviewStations (.showPmus (.set (.raise (.setBit (.setBit (.set (.foldl (.upd (.dropItems
    (h.foldl fun _ _ h => h.applyStream))) fun _ _ h => h.setBit))))))))

theorem lspApply_applies (b : List Byte) (s : State) : s.Applies objLsp b (lspApply b s) := by
  unfold lspApply
  have h := State.CfgKept.refl (putConf objLsp b s)
  exact .of_kept (.reviewStations (.setBit (.showCal (.set (.raise (.setBit (.set (.upd (.foldl (.foldl
    (h.foldl fun _ _ h => .ite h h.set) fun _ _ h => .ite h (.ite h.upd h.reformGroup)) fun _ _ h => .ite
    h.setBit h.setBit.setBit)))))))))

theorem fioApply_applies (b : List Byte) (s : State) : s.Applies objFio b (fioApply b s) := by
  unfold fioApply
  have h := State.CfgKept.refl (putConf objFio b s)
  exact .of_kept (.raise (.showStages (.set (.set h.upd))))

theorem canApply_applies (b : List Byte) (s : State) : s.Applies objCan b (canApply b s) := by
  unfold canApply
  have h := State.CfgKept.refl s
  refine .then (.putConf (.foldl (h.foldl fun _ _ h => h.foldl fun _ _ h => .ite ?_ h) fun _ _ h => .ite h h.upd))
    (State.CfgKept.refl _).showCan.set.raise
  exact .ite (.ite (.upd (.ite h.canFail h)) (.ite h.canFail h))
    (.upd (.ite (.upd (.ite h.canFail h)) (.ite h.canFail h)))

/-- An object that takes effect at a named frame leaves memory and what waits. -/
theorem applyObject_kept (k o : Nat) (b : List Byte) (s : State) : (applyObject k o b s).mem = s.mem ∧
    ∃ l, (applyObject k o b s).cfg = { s.cfg with applied := l } := by
  unfold applyObject
  split
  · exact ⟨(netApply_applies b s).mem, _, (netApply_applies b s).cfg⟩
  · exact ⟨(astApply_applies k b s).mem, _, (astApply_applies k b s).cfg⟩
  · exact ⟨(lspApply_applies b s).mem, _, (lspApply_applies b s).cfg⟩
  · exact ⟨(fioApply_applies b s).mem, _, (fioApply_applies b s).cfg⟩
  · exact ⟨(canApply_applies b s).mem, _, (canApply_applies b s).cfg⟩
  · exact ⟨rfl, s.cfg.applied, rfl⟩

/-- The objects that wait for frames. -/
def frameObjects : List Nat := [objNet, objAster, objLsp, objFio, objCan]

theorem applyObject_applies {o : Nat} (ho : o ∈ frameObjects) (k : Nat) (b : List Byte) (s : State) :
    s.Applies o b (applyObject k o b s) := by
  simp only [frameObjects, List.mem_cons, List.not_mem_nil, or_false] at ho
  obtain rfl | rfl | rfl | rfl | rfl := ho
  · exact netApply_applies b s
  · exact astApply_applies k b s
  · exact lspApply_applies b s
  · exact fioApply_applies b s
  · exact canApply_applies b s

theorem State.Applies.conf {o : Nat} {b : List Byte} (h : s.Applies o b t) (hb : b ≠ []) : t.conf o = b := by
  rw [State.conf, h.cfg]
  dsimp only
  rw [objGet_objSet_same]
  exact if_neg (by simp [hb])

/-- The objects whose frame is reached leave memory and what still waits. -/
theorem configDue_kept (k : Nat) (s : State) : (configDue k s).mem = s.mem ∧
    (configDue k s).cfg.next = s.cfg.next.filter (fun p => k < p.2.1) := by
  have hfold : ∀ (l : List (Nat × Nat × List Byte)) (u : State),
      (l.foldl (fun s p => applyObject k p.1 p.2.2 s) u).mem = u.mem ∧
      (l.foldl (fun s p => applyObject k p.1 p.2.2 s) u).cfg.next = u.cfg.next := by
    intro l
    induction l with
    | nil => exact fun u => ⟨rfl, rfl⟩
    | cons p l ih =>
      intro u
      obtain ⟨hmem, a, hcfg⟩ := applyObject_kept k p.1 p.2.2 u
      obtain ⟨hmem', hnext⟩ := ih (applyObject k p.1 p.2.2 u)
      exact ⟨hmem'.trans hmem, hnext.trans (by rw [hcfg])⟩
  unfold configDue
  dsimp only
  obtain ⟨v, hv⟩ : ∃ v, v = (s.cfg.next.filter (fun p => p.2.1 ≤ k)).foldl (fun s p => applyObject k p.1 p.2.2 s)
    { s with cfg := { s.cfg with next := s.cfg.next.filter (fun p => k < p.2.1) } } := ⟨_, rfl⟩
  obtain ⟨hmem, hnext⟩ := hfold (s.cfg.next.filter (fun p => p.2.1 ≤ k))
    { s with cfg := { s.cfg with next := s.cfg.next.filter (fun p => k < p.2.1) } }
  rw [← hv] at hmem hnext ⊢
  have hkept := (State.CfgKept.refl v).streamingDue (k := k)
  exact ⟨hkept.mem.trans hmem, (congrArg CfgSt.next hkept.cfg).trans hnext⟩

/-- The one object that waits for the frame is in effect from it on. -/
theorem conf_configDue {k o f : Nat} {b : List Byte} (ho : o ∈ frameObjects) (hnext : s.cfg.next = [(o, f, b)]) (hf : f ≤ k)
    (hb : b ≠ []) : (configDue k s).conf o = b := by
  unfold configDue
  dsimp only
  rw [hnext]
  have hdue : [(o, f, b)].filter (fun p => decide (p.2.1 ≤ k)) = [(o, f, b)] := by simp [hf]
  rw [hdue, List.foldl_cons, List.foldl_nil]
  refine State.Applies.conf (s := { s with cfg := { s.cfg with next := [(o, f, b)].filter (fun p => k < p.2.1) } }) ?_ hb
  exact (applyObject_applies ho k b _).then (State.CfgKept.refl _).streamingDue

end Sys2Proof.Machine
end

section
/-! PROOF. The CONFIG family (16 R468, R469), and the frame at which settings take effect (04 R139). -/

namespace Sys2Proof.Machine

section Config

variable {i : Nat} {r : Req} {s : State}

/-! ### GET_ACTIVE and READ_SETTINGS -/

theorem activeEntry_length (s : State) (o : Nat) : (activeEntry s o).length = 16 := by
  simp [activeEntry, leBytes_length, zeros]

theorem activeCodes_length (s : State) : (activeCodes s).length < 256 := by
  have hle := List.length_filter_le
    (fun o => (!(objGet s.cfg.stored o).isEmpty || isStaged s o) && !s.cfg.absent.contains o) objCodes
  have hnine : objCodes.length = 9 := rfl
  unfold activeCodes
  omega

theorem answers_configGetActive (h : requestOk 3 1 noPayload i r s = true) :
    answers (.configGetActive r) 3 1 i r s (fun p u => u = s ∧ p.length = 8 + 16 * (activeCodes s).length ∧
      leAt p 0 1 = (activeCodes s).length) := by
  refine answers_of_ok rfl h rfl ⟨rfl, ?_, ?_⟩
  · simp [List.length_flatMap, activeEntry_length, leBytes_length, zeros]
    omega
  · rw [List.append_assoc, leAt_leBytes_append]
    exact Nat.mod_eq_of_lt (activeCodes_length s)

section Read
variable {o : Nat} (h : requestOk 3 2 (exactly 4) i r s = true) (ho : leAt r.payload 0 1 = o) (hzero : leAt r.payload 1 3 = 0)
include h ho hzero

omit h in
theorem exec_readSettings (hlisted : o ∈ objCodes) : ∃ act,
    exec (.configReadSettings r) s = .next (serve 3 2 r (exactly 4) act s) ∧
    act s = if s.cfg.absent.contains o then .err s stStorage noField else .ok s (storedForm s o) := by
  have hgood : firstBad ((0, objCodes.contains (leAt r.payload 0 1)) :: resv r.payload 1 3) = none := by
    refine firstBad_none fun p hp => ?_
    rcases List.mem_cons.mp hp with rfl | hp
    · rw [ho]
      exact List.contains_iff_mem.mpr hlisted
    · exact resv_ok 3 hzero p hp
  refine ⟨_, rfl, ?_⟩
  dsimp only
  rw [hgood, ho]

theorem answers_readSettings (hlisted : o ∈ objCodes) (hpresent : o ∉ s.cfg.absent) :
    answers (.configReadSettings r) 3 2 i r s (fun p u => u = s ∧ p = storedForm s o) := by
  obtain ⟨act, hexec, hact⟩ := exec_readSettings (s := s) ho hzero hlisted
  exact answers_of_ok hexec h (hact.trans (if_neg (by simp [hpresent]))) ⟨rfl, rfl⟩

theorem answersErr_readSettings_absent (hlisted : o ∈ objCodes) (habsent : o ∈ s.cfg.absent) :
    answersErr (.configReadSettings r) 3 2 i r s stStorage noField (fun u => u = s) := by
  obtain ⟨act, hexec, hact⟩ := exec_readSettings (s := s) ho hzero hlisted
  exact answersErr_of_err hexec h (hact.trans (if_pos (by simp [habsent]))) (by decide) rfl

omit hzero in
theorem answersErr_readSettings_other (hother : o ∉ objCodes) :
    answersErr (.configReadSettings r) 3 2 i r s stOutOfRange 0 (fun u => u = s) := by
  refine answersErr_of_err rfl h ?_ (by decide) rfl
  have hbad : firstBad ((0, objCodes.contains (leAt r.payload 0 1)) :: resv r.payload 1 3) = some 0 := by
    simp [firstBad, ho, hother]
  dsimp only
  rw [hbad]

end Read

/-! ### Requests that name a staged object -/

theorem named_net {b : List Byte} (hp : r.payload = [1#8, 0#8, 0#8, 0#8] ++ b) :
    firstBad (stagedChecks r.payload) = none ∧ leAt r.payload 0 1 = objNet ∧ r.payload.drop 4 = b := by
  rw [hp]
  exact ⟨rfl, rfl, rfl⟩

theorem named_boot {b : List Byte} (hp : r.payload = [2#8, 0#8, 0#8, 0#8] ++ b) :
    firstBad (stagedChecks r.payload) = none ∧ leAt r.payload 0 1 = objBoot ∧ r.payload.drop 4 = b := by
  rw [hp]
  exact ⟨rfl, rfl, rfl⟩

/-- What an object's staging leaves, with its copy for the peers. -/
theorem staged_shows (k o : Nat) (b : List Byte) (data : List Nat) (s : State) :
    (forwardTo k data (stageObject o b s)).cfg = { s.cfg with staged := objSet s.cfg.staged o b } ∧
    (forwardTo k data (stageObject o b s)).regs = s.regs ∧ (forwardTo k data (stageObject o b s)).mem = s.mem := by
  have hsends := forwardTo_sends k data (stageObject o b s)
  exact ⟨hsends.cfg, hsends.regs, hsends.mem⟩

section Stage
variable {o : Nat} {b : List Byte} (h : requestOk 3 3 (fun n => decide (4 ≤ n)) i r s = true)
  (hnamed : firstBad (stagedChecks r.payload) = none ∧ leAt r.payload 0 1 = o ∧ r.payload.drop 4 = b)
include h hnamed

omit h in
theorem exec_stageSettings : ∃ act, exec (.configStageSettings r) s = .next (serve 3 3 r (fun n => decide (4 ≤ n)) act s) ∧
    act s = if !stageLength o b.length then .err s stBadLength noField
      else if !settingsOpen s then conflict s
      else if o = objBoot && !bootSigned s b then .err (s.raise Ev.secVerifyFail) stVerifyFailed noField
      else .ok (forwardTo 7 (o :: asNats b) (stageObject o b s)) [] := by
  obtain ⟨hgood, ho, hb⟩ := hnamed
  refine ⟨_, rfl, ?_⟩
  dsimp only
  rw [hgood, ho, hb]

theorem answers_stageSettings (hlen : stageLength o b.length = true) (hopen : settingsOpen s = true)
    (hsigned : o = objBoot → bootSigned s b = true) :
    answers (.configStageSettings r) 3 3 i r s (fun p u => p = [] ∧ objGet u.cfg.staged o = b ∧
      u.cfg.stored = s.cfg.stored ∧ u.cfg.applied = s.cfg.applied ∧ u.regs = s.regs ∧ memKept s u) := by
  obtain ⟨act, hexec, hact⟩ := exec_stageSettings (s := s) hnamed
  obtain ⟨hcfg, hregs, hmem⟩ := staged_shows 7 o b (o :: asNats b) s
  rw [if_neg (by simp [hlen]), if_neg (by simp [hopen]), if_neg (by simpa using hsigned)] at hact
  refine answers_of_ok hexec h hact ⟨rfl, ?_, ?_, ?_, hregs, memKept_of_mem hmem⟩
  · rw [hcfg]
    exact objGet_objSet_same ..
  · rw [hcfg]
  · rw [hcfg]

theorem answersErr_stageSettings_conflict (hlen : stageLength o b.length = true) (hshut : settingsOpen s = false) :
    answersErr (.configStageSettings r) 3 3 i r s stStateConflict noField (fun u => u = s) := by
  obtain ⟨act, hexec, hact⟩ := exec_stageSettings (s := s) hnamed
  rw [if_neg (by simp [hlen]), if_pos (by simp [hshut])] at hact
  exact answersErr_of_err hexec h hact (by decide) rfl

theorem answersErr_stageSettings_length (hlen : stageLength o b.length = false) :
    answersErr (.configStageSettings r) 3 3 i r s stBadLength noField (fun u => u = s) := by
  obtain ⟨act, hexec, hact⟩ := exec_stageSettings (s := s) hnamed
  rw [if_pos (by simp [hlen])] at hact
  exact answersErr_of_err hexec h hact (by decide) rfl

theorem answersErr_stageSettings_signature (hlen : stageLength o b.length = true) (hopen : settingsOpen s = true)
    (ho : o = objBoot) (hsigned : bootSigned s b = false) :
    answersErr (.configStageSettings r) 3 3 i r s stVerifyFailed noField
      (fun u => u.on Ev.secVerifyFail.flag = true ∧ u.cfg = s.cfg ∧ memKept s u) := by
  obtain ⟨act, hexec, hact⟩ := exec_stageSettings (s := s) hnamed
  rw [if_neg (by simp [hlen]), if_neg (by simp [hopen]), if_pos (by simp [ho, hsigned])] at hact
  exact answersErr_of_err hexec h hact (by decide)
    ⟨State.on_raise_flag _ _ (by decide), State.raise_cfg .., memKept_of_mem (State.raise_mem ..)⟩

end Stage

/-! ### ACTIVATE and DISCARD_STAGED -/

section Activate
variable {b : List Byte} (h : requestOk 3 4 (exactly 4) i r s = true) (hp : r.payload = [1#8, 0#8, 0#8, 0#8])
  (hb : b = objGet s.cfg.staged objNet)
include h hp hb

/-- The network configuration is stored, and waits for its frame. -/
def activateNet (b : List Byte) (s : State) : State :=
  pendObject objNet (nameFrame s) b (confWrite objNet b (stageObject objNet [] s))

omit h hp hb in
theorem activateNet_shows (b : List Byte) (s : State) :
    (activateNet b s).cfg = { s.cfg with
      staged := objSet s.cfg.staged objNet [], stored := objSet s.cfg.stored objNet b
      absent := s.cfg.absent.filter (· != objNet), next := s.cfg.next ++ [(objNet, nameFrame s, b)] } ∧
    (activateNet b s).regs = s.regs ∧ (activateNet b s).mem = s.mem := by
  obtain ⟨n, k, hwrite, -⟩ := confWrite_eq objNet b (stageObject objNet [] s)
  unfold activateNet pendObject
  rw [hwrite]
  obtain ⟨v, hv⟩ : ∃ v : State, v = { s with
    nvs := n, sec := k
    cfg := { s.cfg with
      staged := objSet s.cfg.staged objNet [], stored := objSet s.cfg.stored objNet b
      absent := s.cfg.absent.filter (· != objNet), next := s.cfg.next ++ [(objNet, nameFrame s, b)] } } := ⟨_, rfl⟩
  have hsends := toPeers_sends "FORWARD" (0 :: objNet :: nameFrame s :: asNats b) v
  rw [hv] at hsends
  exact ⟨hsends.cfg, hsends.regs, hsends.mem⟩

omit h in
theorem exec_activate : ∃ act, exec (.configActivate r) s = .next (serve 3 4 r (exactly 4) act s) ∧
    (settingsOpen s = false ∨ b = [] → act s = conflict s) ∧
    (settingsOpen s = true → b ≠ [] → (∀ d, firstBad (netChecks s b) = some d → act s = .err s stOutOfRange d) ∧
      (firstBad (netChecks s b) = none → netClash b s = false → snapWith s objNet b ≤ 49152 →
        act s = .ok (activateNet b s) (frameBytes (nameFrame s)))) := by
  obtain ⟨hgood, ho, -⟩ := named_net (r := r) (b := []) hp
  refine ⟨_, rfl, ?_⟩
  dsimp only
  rw [hgood, ho, ← hb]
  dsimp only
  refine ⟨fun hshut => if_pos ?_, fun hopen hsome => ?_⟩
  · rcases hshut with hshut | hshut <;> simp [hshut]
  rw [if_neg (by simp [hopen, hsome]), if_neg (by decide)]
  refine ⟨fun d hbad => by rw [hbad], fun hok hclash hsnap => ?_⟩
  rw [hok]
  exact if_neg (by simp [hclash, hsnap])

theorem answersErr_activate_conflict (hshut : settingsOpen s = false ∨ b = []) :
    answersErr (.configActivate r) 3 4 i r s stStateConflict noField (fun u => u = s) := by
  obtain ⟨act, hexec, hact, -⟩ := exec_activate (s := s) hp hb
  exact answersErr_of_err hexec h (hact hshut) (by decide) rfl

theorem answersErr_activate_field (hopen : settingsOpen s = true) (hsome : b ≠ []) {d : Nat}
    (hbad : firstBad (netChecks s b) = some d) :
    answersErr (.configActivate r) 3 4 i r s stOutOfRange d (fun u => u = s) := by
  obtain ⟨act, hexec, -, hact⟩ := exec_activate (s := s) hp hb
  exact answersErr_of_err hexec h ((hact hopen hsome).1 d hbad) (by decide) rfl

theorem answers_activate (hopen : settingsOpen s = true) (hsome : b ≠ []) (hok : firstBad (netChecks s b) = none)
    (hclash : netClash b s = false) (hsnap : snapWith s objNet b ≤ 49152) :
    answers (.configActivate r) 3 4 i r s (fun p u => p = frameBytes (nameFrame s) ∧
      u.cfg.next = s.cfg.next ++ [(objNet, nameFrame s, b)] ∧ objGet u.cfg.staged objNet = [] ∧
      objGet u.cfg.stored objNet = b ∧ u.cfg.applied = s.cfg.applied ∧ u.regs = s.regs ∧ memKept s u) := by
  obtain ⟨act, hexec, -, hact⟩ := exec_activate (s := s) hp hb
  obtain ⟨hcfg, hregs, hmem⟩ := activateNet_shows b s
  refine answers_of_ok hexec h ((hact hopen hsome).2 hok hclash hsnap) ⟨rfl, ?_⟩
  rw [hcfg]
  exact ⟨rfl, objGet_objSet_same s.cfg.staged objNet [], objGet_objSet_same s.cfg.stored objNet b, rfl, hregs, memKept_of_mem hmem⟩

end Activate

section Discard
variable (h : requestOk 3 5 (exactly 4) i r s = true) (hp : r.payload = [1#8, 0#8, 0#8, 0#8])
include h hp

omit h in
theorem exec_discard : ∃ act, exec (.configDiscardStaged r) s = .next (serve 3 5 r (exactly 4) act s) ∧
    act s = if takesGroup s then .ok (forwardTo 8 [objNet] (stageObject objNet [] s)) [] else conflict s := by
  obtain ⟨hgood, ho, -⟩ := named_net (r := r) (b := []) hp
  refine ⟨_, rfl, ?_⟩
  dsimp only
  rw [hgood, ho]

theorem answers_discard (htakes : takesGroup s = true) : answers (.configDiscardStaged r) 3 5 i r s (fun p u => p = [] ∧
    objGet u.cfg.staged objNet = [] ∧ u.cfg.stored = s.cfg.stored ∧ u.regs = s.regs ∧ memKept s u) := by
  obtain ⟨act, hexec, hact⟩ := exec_discard (s := s) hp
  obtain ⟨hcfg, hregs, hmem⟩ := staged_shows 8 objNet [] [objNet] s
  refine answers_of_ok hexec h (hact.trans (if_pos htakes)) ⟨rfl, ?_, ?_, hregs, memKept_of_mem hmem⟩
  · rw [hcfg]
    exact objGet_objSet_same s.cfg.staged objNet []
  · rw [hcfg]

theorem answersErr_discard (hother : takesGroup s = false) :
    answersErr (.configDiscardStaged r) 3 5 i r s stStateConflict noField (fun u => u = s) := by
  obtain ⟨act, hexec, hact⟩ := exec_discard (s := s) hp
  exact answersErr_of_err hexec h (hact.trans (if_neg (by simp [hother]))) (by decide) rfl

end Discard

end Config

/-- Settles O36: each request of the family by what its command does with the object that it names; the named frame by
what takes effect there. -/
theorem configurationCommands : Obligations.ConfigurationCommands := by
  unfold Obligations.ConfigurationCommands
  intro i r s
  refine ⟨answers_configGetActive, fun o h ho hzero => ⟨answers_readSettings h ho hzero, answersErr_readSettings_absent h ho hzero,
    answersErr_readSettings_other h ho⟩, fun b h hp => ⟨fun hlen hopen => ?_, fun hlen hshut => ?_, fun hlen => ?_⟩,
    fun b h hp hlen hopen => ?_, fun b h hp hb => ⟨fun hopen hsome => ⟨fun d hbad =>
      answersErr_activate_field h hp hb hopen hsome hbad, fun hclash hsnap => ?_⟩, answersErr_activate_conflict h hp hb⟩,
    fun h hp => ⟨answers_discard h hp, answersErr_discard h hp⟩, ?_⟩
  · exact answers_stageSettings h (named_net hp) (by rw [hlen]; rfl) hopen (fun h => absurd h (by decide))
  · exact answersErr_stageSettings_conflict h (named_net hp) (by rw [hlen]; rfl) hshut
  · exact answersErr_stageSettings_length h (named_net hp) (by simpa [stageLength, objSize, objNet] using hlen)
  · have hfits : stageLength objBoot b.length = true := by simpa [stageLength, objBoot, objNet] using hlen
    split
    next hsigned =>
      obtain ⟨p, u, hexec, hp', hstaged, hstored, -, -, hmem⟩ :=
        answers_stageSettings h (named_boot hp) hfits hopen fun _ => hsigned
      exact ⟨p, u, hexec, hp', hstaged, hstored, hmem⟩
    next hsigned => exact answersErr_stageSettings_signature h (named_boot hp) hfits hopen rfl (by simpa using hsigned)
  · cases hbad : firstBad (netChecks s b) with
    | some d => exact answersErr_activate_field h hp hb hopen hsome hbad
    | none => exact answers_activate h hp hb hopen hsome hbad hclash hsnap
  · obtain ⟨hmem, hnext⟩ := configDue_kept (frameIndex s.now + 1) s
    exact ⟨configDue (frameIndex s.now + 1) s, rfl, memKept_of_mem hmem, hnext,
      fun o f b ho hone hf hb => conf_configDue ho hone hf hb⟩

end Sys2Proof.Machine
end

section
/-! SUPPORT. Hollyhock frames by their commands: discarded, relayed, and the heartbeats that the module sends (12 R372, R373,
R381). -/

namespace Sys2Proof.Machine

variable {h : HhkHdr} {s : State}

/-! ### A command whose frame is not used (12 R373, R374, R553) -/

/-- The command is the arrival of a frame of a type. -/
def isFrame (c : Instr) (type : Nat) (h : HhkHdr) (s : State) : Prop := ∃ f, exec c s = .next (onFrame type h f s)

/-- The command is the arrival of a control frame, which a triad's third member relays. -/
def isControl (c : Instr) (h : HhkHdr) (s : State) : Prop := ∃ body f, exec c s = .next (onRouted typeControl body h f s)

section Discarded
variable {c : Instr} {type : Nat} (hc : isFrame c type h s)
include hc

theorem exec_badTag (ht : h.tagOk = false) :
    exec c s = .next ((s.bump (Reg.hhkpErrAuthCnt h.port)).raise Ev.hhkAuthFail) := by
  obtain ⟨f, hexec⟩ := hc
  rw [hexec, onFrame_badTag f ht]

theorem exec_replay (ht : h.tagOk = true) (hk : h.underOldKey = false) (hctr : h.counter < assoc s.hhk.lastCtr (ctrKey h)) :
    exec c s = .next ((s.bump (Reg.hhkpErrAuthCnt h.port)).raise Ev.hhkReplay) := by
  obtain ⟨f, hexec⟩ := hc
  rw [hexec, onFrame_replay f ht hk hctr]

theorem leads_unused (hu : frameUsed type h s = false) : leads c s (fun t => memKept s t ∧ t.role = s.role ∧ t.pair = s.pair ∧
    t.prog = s.prog ∧ t.cfg = s.cfg) := by
  obtain ⟨f, hexec⟩ := hc
  obtain ⟨u, hdiscards, hframe⟩ := onFrame_unused hu
  exact ⟨u, by rw [hexec, hframe], memKept_of_mem hdiscards.mem, hdiscards.role, hdiscards.pair, hdiscards.prog, hdiscards.cfg⟩

end Discarded

/-! ### A control frame (12 R381) -/

theorem State.Accepts.forAnother {u : State} (h' : s.Accepts u) (h : HhkHdr) : Machine.forAnother h u = Machine.forAnother h s := by
  rw [Machine.forAnother, Machine.forAnother, h'.triad, h'.get _ (by decide)]

theorem State.Accepts.portFacing {u : State} (h' : s.Accepts u) (slot : Nat) :
    Machine.portFacing u slot = Machine.portFacing s slot := by
  rw [Machine.portFacing, Machine.portFacing, h'.facedSlot]

/-- A control frame for this member has its effect on the state after its acceptance. -/
theorem onRouted_own (hu : frameUsed typeControl h s = true) (hown : forAnother h s = false) :
    ∃ u, s.Accepts u ∧ ∀ body f, onRouted typeControl body h f s = f u := by
  obtain ⟨u, haccepts, hframe⟩ := onFrame_used hu
  refine ⟨u, haccepts, fun body f => (hframe _).trans (if_neg ?_)⟩
  rw [haccepts.forAnother, hown]
  decide

/-- A control frame for another member is relayed. -/
theorem onRouted_another (hu : frameUsed typeControl h s = true) (hother : forAnother h s = true) :
    ∃ u, s.Accepts u ∧ ∀ body f, onRouted typeControl body h f s = relay typeControl h body u := by
  obtain ⟨u, haccepts, hframe⟩ := onFrame_used hu
  refine ⟨u, haccepts, fun body f => (hframe _).trans (if_pos ?_)⟩
  rw [haccepts.forAnother, hother]

/-- A relayed frame leaves by the port that faces its member, and is counted there. -/
theorem relay_shows {u : State} {p : Nat} (hp : p = portFacing u h.dst) (type : Nat) (body : List Nat) :
    (relay type h body u).mem = u.mem ∧ (relay type h body u).pair = u.pair ∧ (relay type h body u).prog = u.prog ∧
    (relay type h body u).role = u.role ∧
    (∃ d, (relay type h body u).outbox = u.outbox ++ [.peer [byPort u p h.dst true] "RELAY" h.segment true d]) ∧
    (relay type h body u).get (Reg.hhkpErrRelayCnt p) = min 255 (u.get (Reg.hhkpErrRelayCnt p) + 1) := by
  obtain ⟨d, hd⟩ : ∃ d, d = type :: h.srcSlot :: h.frame :: body := ⟨_, rfl⟩
  obtain ⟨v, hv⟩ : ∃ v, v = sendBy [byPort u p h.dst true] "RELAY" h.segment d u := ⟨_, rfl⟩
  have hsends : u.Sends v := hv ▸ sendBy_sends ..
  have hout : v.outbox = u.outbox ++ [.peer [byPort u p h.dst true] "RELAY" h.segment true d] := by
    rw [hv]
    exact congrArg (u.outbox ++ ·) (framesOf_one (not_object (by decide) d) ..)
  have hrelay : relay type h body u = v.bump (Reg.hhkpErrRelayCnt p) := by rw [hv, hd, hp]; rfl
  have hrole : ((Reg.hhkpErrRelayCnt p).ok && (Reg.hhkpErrRelayCnt p).apart Reg.sysRoleRole) = true := by
    simp only [Fld.ok, Fld.apart, Bool.and_eq_true, Bool.or_eq_true, decide_eq_true_eq]
    simp only [Reg.hhkpErrRelayCnt, Reg.sysRoleRole]
    omega
  rw [hrelay]
  refine ⟨hsends.mem, hsends.pair, hsends.prog, (State.get_bump_off _ _ _ _ hrole).trans hsends.role, ⟨d, hout⟩, ?_⟩
  rw [State.get_bump_self _ _ _ rfl, hsends.get]
  rfl

theorem leads_relayed {c : Instr} (hc : isControl c h s) (hu : frameUsed typeControl h s = true)
    (hother : forAnother h s = true) : leads c s (fun t => memKept s t ∧ t.role = s.role ∧ t.pair = s.pair ∧ t.prog = s.prog ∧
      (∃ d, t.outbox = s.outbox ++ [.peer [byPort s (portFacing s h.dst) h.dst true] "RELAY" h.segment true d]) ∧
      (portFacing s h.dst < 2 → t.get (Reg.hhkpErrRelayCnt (portFacing s h.dst)) =
        min 255 (s.get (Reg.hhkpErrRelayCnt (portFacing s h.dst)) + 1))) := by
  obtain ⟨body, f, hexec⟩ := hc
  obtain ⟨u, haccepts, hframe⟩ := onRouted_another hu hother
  obtain ⟨hmem, hpair, hprog, hrole, ⟨d, hout⟩, hcnt⟩ := relay_shows (haccepts.portFacing h.dst).symm typeControl body
  have hbeside : Reg.hhkPairStatusHhkUp.apart (Reg.hhkpErrRelayCnt (portFacing s h.dst)) = true := by
    have hport := portFacing_lt s h.dst
    simp only [Fld.apart, Bool.or_eq_true, decide_eq_true_eq]
    simp only [Reg.hhkpErrRelayCnt, Reg.hhkPairStatusHhkUp]
    omega
  refine ⟨relay typeControl h body u, by rw [hexec, hframe], memKept_of_mem (hmem.trans haccepts.mem),
    hrole.trans haccepts.role, hpair.trans haccepts.pair, hprog.trans haccepts.prog, ⟨d, ?_⟩, fun _ => ?_⟩
  · rw [hout, haccepts.outbox, haccepts.byPort]
  · rw [hcnt, haccepts.get _ hbeside]

/-! ### Heartbeats leave (12 R372) -/

theorem listSet_two {l : List Nat} (hlen : l.length = 2) (f : Nat → Nat) : listSet (listSet l 0 f) 1 f = l.map f := by
  obtain ⟨a, b, rfl⟩ := List.length_eq_two.mp hlen
  rfl

theorem leads_heartbeatTx (hup : s.sec.fwUp = true) (htwo : s.hhk.txCtr.length = 2) :
    leads .heartbeatTx s (fun t => t.regs = s.regs ∧ memKept s t ∧ t.outbox.length = s.outbox.length + 2 ∧
      t.hhk.txCtr = s.hhk.txCtr.map (· + 1)) := by
  obtain ⟨d, hlen, hexec⟩ : ∃ d : List Nat, d.length = 13 ∧
      exec .heartbeatTx s = .next (toPort 1 "HEARTBEAT" d (toPort 0 "HEARTBEAT" d s)) :=
    ⟨_, rfl, congrArg Host.Outcome.next (if_neg (by simp [hup]))⟩
  have hone : (objectKinds.contains "HEARTBEAT" && decide (4096 < d.length)) = false := not_object (by decide) d
  obtain ⟨u, hu⟩ : ∃ u, u = toPort 0 "HEARTBEAT" d s := ⟨_, rfl⟩
  have hsends : s.Sends u := hu ▸ toPort_sends ..
  obtain ⟨hout, hhhk⟩ := toPort_sent (p := 0) (s := s) hone (.inl rfl)
  obtain ⟨hout', hhhk'⟩ := toPort_sent (p := 1) (s := u) hone (.inl rfl)
  rw [← hu] at hexec hout hhhk
  have hsends' := toPort_sends 1 "HEARTBEAT" d u
  refine ⟨_, hexec, hsends'.regs.trans hsends.regs, memKept_of_mem (hsends'.mem.trans hsends.mem), ?_, ?_⟩
  · rw [hout', hout, List.length_append, List.length_append]
    rfl
  · rw [hhhk', hhhk]
    exact listSet_two htwo _

theorem exec_heartbeatTx_down (hdown : s.sec.fwUp = false) : exec .heartbeatTx s = .next s :=
  congrArg Host.Outcome.next (if_pos (by simp [hdown]))

end Sys2Proof.Machine
end

section
/-! SUPPORT. What a module that looks for its place in the group leaves: memory, its peers and joiner, OWN and the ports (11
R336). -/

namespace Sys2Proof.Machine

/-- `t` comes from `s` without a change of memory, of the peers and the joiner, of OWN or of the miswired ports. -/
structure State.Peered (s t : State) : Prop where
  mem : t.mem = s.mem
  peers : t.pair.peers = s.pair.peers
  joiner : t.pair.joiner = s.pair.joiner
  held : t.held = s.held
  miswired : t.hhk.miswired = s.hhk.miswired

namespace State.Peered

variable {s t u : State}

protected theorem refl (s : State) : s.Peered s := ⟨rfl, rfl, rfl, rfl, rfl⟩

protected theorem trans (h : s.Peered t) (h' : t.Peered u) : s.Peered u :=
  ⟨h'.mem.trans h.mem, h'.peers.trans h.peers, h'.joiner.trans h.joiner, h'.held.trans h.held, h'.miswired.trans h.miswired⟩

protected theorem ite {c : Prop} [Decidable c] (ht : s.Peered t) (hu : s.Peered u) : s.Peered (if c then t else u) := by
  split <;> assumption

/-- What else the pair keeps does not matter. -/
protected theorem updPair (h : s.Peered t) {p : PairSt} (hp : p.peers = t.pair.peers := by rfl)
    (hj : p.joiner = t.pair.joiner := by rfl) : s.Peered { t with pair := p } := ⟨h.mem, hp.trans h.peers, hj.trans h.joiner, h.held, h.miswired⟩

protected theorem set (h : s.Peered t) {f : Fld} {v : Nat} (hf : (f.ok && f.apart Reg.hhkPairStatusOwnHeld) = true) :
    s.Peered (t.set f v) := by
  refine ⟨(State.set_mem ..).trans h.mem, ?_, ?_, (State.on_congr (State.get_set_off _ _ _ _ hf)).trans h.held, ?_⟩
  · rw [State.set_pair, h.peers]
  · rw [State.set_pair, h.joiner]
  · rw [State.set_hhk, h.miswired]

protected theorem setBit (h : s.Peered t) {f : Fld} {b : Bool} (hf : (f.ok && f.apart Reg.hhkPairStatusOwnHeld) = true) :
    s.Peered (t.setBit f b) := h.set hf

protected theorem sends (h : s.Peered t) (h' : t.Sends u) : s.Peered u :=
  h.trans ⟨h'.mem, by rw [h'.pair], by rw [h'.pair], h'.held, (congrArg HhkSt.miswired h'.heard :)⟩

protected theorem elapses (h : s.Peered t) (h' : t.Elapses u) : s.Peered u :=
  h.trans ⟨h'.mem, by rw [h'.pair], by rw [h'.pair], h'.held, by rw [h'.hhk]⟩

/-- A frame that keeps the pair and what lasts. -/
protected theorem lasts (h : s.Peered t) (h' : t.Lasts u) (hpair : u.pair = t.pair) (hheld : u.held = t.held) : s.Peered u :=
  h.trans ⟨h'.mem, by rw [hpair], by rw [hpair], hheld, (congrArg HhkSt.miswired h'.hhk :)⟩

protected theorem disarm (h : s.Peered t) : s.Peered (disarm t) := by
  unfold Machine.disarm
  exact .setBit h.updPair (by decide)

protected theorem arm (h : s.Peered t) : s.Peered (arm t) := .ite h (h.setBit (by decide))

protected theorem enterRole (h : s.Peered t) {r : Nat} : s.Peered (enterRole r t) := by
  obtain ⟨v, hv⟩ : ∃ v, v = setRole r t := ⟨_, rfl⟩
  have hlasts : t.Lasts v := hv ▸ (State.Lasts.refl t).setRole
  have hpair : v.pair = t.pair := hv ▸ pair_setRole ..
  have hheld : v.held = t.held := by
    rw [hv]
    exact State.on_congr (get_setRole_beside rfl ..)
  obtain ⟨w, hw⟩ : ∃ w, w = reviewPairOk v := ⟨_, rfl⟩
  have hwv : s.Peered w := hw ▸ (h.lasts hlasts hpair hheld).updPair
  have hkept : w.FaultKept true (followRole w) := followRole_kept w
  obtain ⟨hpair', -, -⟩ := hkept.pair rfl
  have hlast : s.Peered (followRole w) := hwv.lasts ((State.Lasts.refl w).followRole) hpair' (State.on_congr (hkept.get_status rfl))
  rw [hw, hv] at hlast
  exact hlast

protected theorem reviewOwner (h : s.Peered t) : s.Peered (reviewOwner t) := by
  obtain ⟨hpair, hstatus, -⟩ := reviewOwner_shows t
  exact h.lasts (reviewOwner_lasts t) hpair (State.on_congr (hstatus _ rfl))

protected theorem showTriad (h : s.Peered t) : s.Peered (showTriad t) := by
  unfold Machine.showTriad
  exact .ite h ((h.set (by decide)).set (by decide))

protected theorem joinOrClaim (h : s.Peered t) : s.Peered (joinOrClaim t) := by
  unfold Machine.joinOrClaim
  refine .ite h (.ite (.ite h.arm h) (.ite ?_ (.ite h (.ite (.ite h.arm h) h.updPair.disarm))))
  exact (h.updPair.disarm.enterRole).sends ((sendJoin_sends _).trans (askObjects_sends _))

protected theorem dropPending (h : s.Peered t) : s.Peered (dropPending t) := by
  unfold Machine.dropPending
  refine .updPair (p := { (t.pair.ownSigs.foldl (fun s o =>
    recordCmp ⟨o.1, 3, s.on Reg.hhkPairStatusSelfSnap, o.2, []⟩ s) t).pair with ownSigs := [], peerSigs := [] }) ?_ rfl rfl
  generalize t.pair.ownSigs = l
  induction l generalizing t with
  | nil => exact h
  | cons o l ih => exact ih h.updPair

protected theorem goSyncing (h : s.Peered t) : s.Peered (goSyncing t) := by
  unfold Machine.goSyncing
  exact ((h.disarm.dropPending.updPair).enterRole).sends (sendJoin_sends _)

end State.Peered

variable {s : State}

/-! ### The role -/

theorem joinOrClaim_role (h : s.role ≠ roleNone) : joinOrClaim s = s := if_pos (by simp [h])

theorem showTriad_role (s : State) : (showTriad s).role = s.role := by
  unfold showTriad
  split
  · rfl
  · exact (State.get_set_off _ _ _ _ (by decide)).trans (State.get_set_off _ _ _ _ (by decide))

theorem goSyncing_role (s : State) : (goSyncing s).role = roleSyncing := by
  unfold goSyncing
  exact (sendJoin_sends _).role.trans (enterRole_shows (by decide) _).1

end Sys2Proof.Machine
end

section
/-! SUPPORT. What the event log and a cancelled handover leave of the group (11 R348, 17 R489). -/

namespace Sys2Proof.Machine

variable {s t : State}

protected theorem State.Elapses.trans {u : State} (h : s.Elapses t) (h' : t.Elapses u) : s.Elapses u :=
  ⟨h'.mem.trans h.mem, h'.pair.trans h.pair, h'.hhk.trans h.hhk, fun a ha => (h'.reg a ha).trans (h.reg a ha)⟩

protected theorem State.FaultKept.logStore {own : Bool} (h : s.FaultKept own t) {source severity code engine : Nat}
    {data : List Byte} : s.FaultKept own (logStore source severity code engine data t) := by
  unfold Machine.logStore Machine.flushLog
  exact .set (.ite (.ite (.upd h) (.upd (.upd h))) h.upd) (by decide)

protected theorem State.FaultKept.fwLog {own : Bool} (h : s.FaultKept own t) {source : Nat} {data : List Byte} :
    s.FaultKept own (fwLog source data t) := by
  unfold Machine.fwLog Machine.logEvent
  exact .ite (.logStore h.upd) (.ite (.raise (.set (f := Reg.nvsLogSuppressed) h.upd (by decide)) (by decide))
    (.ite (.logStore h.upd) (.logStore (.logStore h.upd))))

theorem fwLog_kept (source : Nat) (data : List Byte) (s : State) : s.FaultKept true (fwLog source data s) :=
  (State.FaultKept.refl s).fwLog

protected theorem State.Peered.fwLog (h : s.Peered t) {source : Nat} {data : List Byte} : s.Peered (fwLog source data t) := by
  have hkept := fwLog_kept source data t
  obtain ⟨hpair, -, -⟩ := hkept.pair rfl
  exact h.lasts (State.Lasts.refl t).fwLog hpair (State.on_congr (hkept.get_status rfl))

theorem fwLog_role (source : Nat) (data : List Byte) (s : State) : (fwLog source data s).role = s.role :=
  (fwLog_kept source data s).role

protected theorem State.Peered.resumeSingletons (h : s.Peered t) : s.Peered (resumeSingletons t) := by
  unfold Machine.resumeSingletons Machine.showPublishing
  dsimp only
  refine .setBit (.updPair ?_) (by decide)
  generalize (if t.held then t.pair.stopped else 0) = n
  have hrunning (i : Nat) : ((Reg.hhkPairCkptRunning i).ok && (Reg.hhkPairCkptRunning i).apart Reg.hhkPairStatusOwnHeld) = true := by
    simp only [Fld.ok, Fld.apart, Bool.and_eq_true, Bool.or_eq_true, decide_eq_true_eq]
    simp only [Reg.hhkPairCkptRunning, Reg.hhkPairStatusOwnHeld]
    omega
  generalize List.range 3 = l
  induction l generalizing t with
  | nil => exact h
  | cons i l ih => exact ih (.ite (h.setBit (hrunning i)) h)

protected theorem State.Peered.cancelUnmoved (h : s.Peered t) : s.Peered (cancelUnmoved t) := by
  unfold Machine.cancelUnmoved Machine.cancelHandover
  exact .ite h (.resumeSingletons h.updPair)

theorem cancelUnmoved_role (s : State) : (cancelUnmoved s).role = s.role := by
  unfold cancelUnmoved
  split
  · rfl
  · exact State.get_of_reg (f := Reg.sysRoleRole) (reg_cancelHandover (.inl rfl) s)

end Sys2Proof.Machine
end

section
/-! PROOF. Heartbeats, JOIN, LEAVE, FAILED, READY, ACK and the taint release (11 R336, R359, R364, 12 R374, 13 R404, R406). -/

namespace Sys2Proof.Machine

section Control

variable {h : HhkHdr} {s : State}

/-! ### A heartbeat of another group (12 R374) -/

theorem leads_heartbeat_other {gi : Nat} (hu : frameUsed typeHeartbeat h s = true) (hgi : gi ≠ s.get Reg.sysPositionGroupId)
    (sl rk ro : Nat) (ta : Bool) (tm : HbTime) : leads (.heartbeat h gi sl rk ro ta tm) s (fun t => memKept s t ∧
      t.role = s.role ∧ t.pair = s.pair ∧ bitOf t.hhk.miswired h.port = true ∧ t.on Ev.hhkMiswire.flag = true) := by
  obtain ⟨u, haccepts, hframe⟩ := onFrame_used hu
  obtain ⟨v, hv⟩ : ∃ v : State, v = { u with hhk := { u.hhk with miswired := withBit u.hhk.miswired h.port true } } := ⟨_, rfl⟩
  have hgroup : gi ≠ u.get Reg.sysPositionGroupId := by rwa [haccepts.get _ (by decide)]
  refine ⟨v.raise Ev.hhkMiswire, ?_, memKept_of_mem ?_, ?_, ?_, ?_, State.on_raise_flag _ _ (by decide)⟩
  · exact congrArg Host.Outcome.next ((hframe _).trans ((if_pos hgroup).trans (by rw [hv])))
  · rw [State.raise_mem, hv]
    exact haccepts.mem
  · refine (State.get_raise_off _ _ _ (by decide)).trans ((State.get_congr v u (by rw [hv]) _).trans haccepts.role)
  · rw [State.raise_pair, hv]
    exact haccepts.pair
  · rw [State.raise_hhk, hv]
    change bitOf (withBit u.hhk.miswired h.port true) h.port = true
    rw [bitOf_withBit, if_pos rfl]

/-! ### A heartbeat of the own group (11 R336, 02 R49) -/

/-- What a heartbeat tells is noted. -/
def notedPeer (p : Peer) (s : State) : State :=
  (putPeer p ((s.set (Reg.hhkpLinkPeerSlot p.port) p.slot).set (Reg.hhkpLinkPeerRank p.port) p.rank)).set
    Reg.hhkPairStatusPeerRole p.role

/-- TAI-UTC as the group time leader tells it. -/
def heardTai (p : Peer) (s : State) : State :=
  if s.get Reg.timStatusSource = 7 && s.time.leaderSlot == some p.slot then
    refreshQuality (setTaiUtc p.time.known p.time.tai p.time.leap61 p.time.leap59 s)
  else s

/-- A module that looks for an owner. -/
def seekOwner (s : State) : State := if s.role = roleAloneStandby then goSyncing s else joinOrClaim s

theorem heardPeer_eq (p : Peer) (s : State) :
    heardPeer p s = showTriad (seekOwner (reviewOwner (heardTai p (reviewTime (notedPeer p s))))) := by
  unfold heardPeer seekOwner heardTai notedPeer
  rfl

theorem heardTai_elapses (p : Peer) (s : State) : s.Elapses (heardTai p s) :=
  .ite ((State.Elapses.refl s).setTaiUtc.refreshQuality) (.refl s)

theorem mem_putPeer (p : Peer) (s : State) : p ∈ (putPeer p s).pair.peers := by
  unfold putPeer
  dsimp only
  split
  next hknown =>
    obtain ⟨q, hq, hslot⟩ := List.any_eq_true.mp hknown
    exact List.mem_map.mpr ⟨q, hq, if_pos (by simpa using hslot)⟩
  next => exact List.mem_append_right _ (List.mem_singleton_self p)

theorem notedPeer_shows (p : Peer) (s : State) : (notedPeer p s).mem = s.mem ∧ (notedPeer p s).hhk = s.hhk ∧
    (notedPeer p s).role = s.role ∧ p ∈ (notedPeer p s).pair.peers := by
  obtain ⟨v, hv⟩ : ∃ v, v = (s.set (Reg.hhkpLinkPeerSlot p.port) p.slot).set (Reg.hhkpLinkPeerRank p.port) p.rank := ⟨_, rfl⟩
  have hlink {n a b : Nat} : Reg.sysRoleRole.addr ≠ (⟨0x80100 + 16 * n, a, b⟩ : Fld).addr := by
    change 0x10 ≠ 0x80100 + 16 * n
    omega
  have hnoted : notedPeer p s = (putPeer p v).set Reg.hhkPairStatusPeerRole p.role := by rw [hv]; rfl
  have hregs : (putPeer p v).regs = v.regs := rfl
  have hrole : v.role = s.role := by
    rw [hv]
    exact (State.get_of_reg (State.reg_set_other _ _ _ _ hlink)).trans (State.get_of_reg (State.reg_set_other _ _ _ _ hlink))
  rw [hnoted]
  refine ⟨(State.set_mem ..).trans ?_, (State.set_hhk ..).trans ?_, ?_, ?_⟩
  · change v.mem = s.mem
    rw [hv, State.set_mem, State.set_mem]
  · change v.hhk = s.hhk
    rw [hv, State.set_hhk, State.set_hhk]
  · exact (State.get_set_off _ _ _ _ (by decide)).trans ((State.get_congr _ _ hregs _).trans hrole)
  · rw [State.set_pair]
    exact mem_putPeer p v

theorem seekOwner_peered (s : State) : s.Peered (seekOwner s) := by
  unfold seekOwner
  exact .ite (State.Peered.refl s).goSyncing (State.Peered.refl s).joinOrClaim

/-- A module that has a part in the group keeps its role; one that is ALONE-standby resyncs. -/
theorem seekOwner_role (s : State) : (s.role = roleAloneStandby → (seekOwner s).role = roleSyncing) ∧
    (s.role ≠ roleAloneStandby → s.role ≠ roleNone → (seekOwner s).role = s.role) := by
  unfold seekOwner
  refine ⟨fun h => ?_, fun h hnone => ?_⟩
  · rw [if_pos h, goSyncing_role]
  · rw [if_neg h, joinOrClaim_role hnone]

theorem heardPeer_shows (p : Peer) (s : State) : (heardPeer p s).mem = s.mem ∧ (heardPeer p s).hhk.miswired = s.hhk.miswired ∧
    p ∈ (heardPeer p s).pair.peers ∧ (s.role = roleAloneStandby → (heardPeer p s).role = roleSyncing) ∧
    (s.role = roleStandby ∨ s.role = roleAlone ∨ s.role = roleFailed → (heardPeer p s).role = s.role) := by
  obtain ⟨v, hv⟩ : ∃ v, v = notedPeer p s := ⟨_, rfl⟩
  obtain ⟨hmem, hhhk, hrole, hknown⟩ := notedPeer_shows p s
  obtain ⟨w, hw⟩ : ∃ w, w = heardTai p (reviewTime v) := ⟨_, rfl⟩
  have helapses : v.Elapses w := hw ▸ (reviewTime_elapses v).trans (heardTai_elapses p _)
  obtain ⟨-, -, hreviewed⟩ := reviewOwner_shows w
  have hpeered : v.Peered (showTriad (seekOwner (reviewOwner w))) :=
    (((State.Peered.refl v).elapses helapses).reviewOwner.trans (seekOwner_peered _)).showTriad
  have hwrole : w.role = s.role := helapses.role.trans (by rw [hv, hrole])
  have hkept (hprim : s.role ≠ rolePrimary) : (reviewOwner w).role = s.role := by
    rw [hreviewed, if_neg (by simp [hwrole, hprim]), hwrole]
  obtain ⟨hresyncs, hstays⟩ := seekOwner_role (reviewOwner w)
  have heq : heardPeer p s = showTriad (seekOwner (reviewOwner w)) := by rw [heardPeer_eq, ← hv, ← hw]
  rw [heq, showTriad_role]
  refine ⟨hpeered.mem.trans (by rw [hv, hmem]), hpeered.miswired.trans (by rw [hv, hhhk]), ?_, fun h => ?_, fun h => ?_⟩
  · rw [hpeered.peers, hv]
    exact hknown
  · exact hresyncs ((hkept (by rw [h]; decide)).trans h)
  · have hprim : s.role ≠ rolePrimary := by rcases h with h | h | h <;> rw [h] <;> decide
    rw [hstays, hkept hprim]
    · rw [hkept hprim]
      rcases h with h | h | h <;> rw [h] <;> decide
    · rw [hkept hprim]
      rcases h with h | h | h <;> rw [h] <;> decide

theorem leads_heartbeat_own {gi : Nat} (hu : frameUsed typeHeartbeat h s = true) (hgi : gi = s.get Reg.sysPositionGroupId)
    (sl rk ro : Nat) (ta : Bool) (tm : HbTime) : leads (.heartbeat h gi sl rk ro ta tm) s (fun t => memKept s t ∧
      bitOf t.hhk.miswired h.port = false ∧ (∃ p ∈ t.pair.peers, p.slot = sl ∧ p.role = ro ∧ p.rank = rk ∧ p.time = tm) ∧
      (s.role = roleAloneStandby → t.role = roleSyncing) ∧
      (s.role = roleStandby ∨ s.role = roleAlone ∨ s.role = roleFailed → t.role = s.role)) := by
  obtain ⟨u, haccepts, hframe⟩ := onFrame_used hu
  obtain ⟨v, hv⟩ : ∃ v : State, v = { u with hhk := { u.hhk with miswired := withBit u.hhk.miswired h.port false } } := ⟨_, rfl⟩
  have hgroup : ¬ gi ≠ u.get Reg.sysPositionGroupId := by rw [haccepts.get _ (by decide), not_not]; exact hgi
  have hvrole : v.role = s.role := (State.get_congr v u (by rw [hv]) _).trans haccepts.role
  obtain ⟨hmem, hwired, hknown, hresyncs, hstays⟩ := heardPeer_shows ⟨sl, rk, ro, ta, h.port, tm⟩ v
  rw [hvrole] at hresyncs hstays
  refine ⟨heardPeer ⟨sl, rk, ro, ta, h.port, tm⟩ v, ?_, memKept_of_mem (hmem.trans (by rw [hv]; exact haccepts.mem)), ?_,
    ⟨_, hknown, rfl, rfl, rfl, rfl⟩, hresyncs, hstays⟩
  · exact congrArg Host.Outcome.next ((hframe _).trans ((if_neg hgroup).trans (by rw [hv])))
  · rw [hwired, hv]
    change bitOf (withBit u.hhk.miswired h.port false) h.port = false
    rw [bitOf_withBit, if_pos rfl]

end Control

end Sys2Proof.Machine
end

section
/-! PROOF. JOIN, LEAVE, FAILED, READY, ACK and the taint release (11 R336, R359, R364, 13 R404, R406, 16 R465). -/

namespace Sys2Proof.Machine

section Join

variable {h : HhkHdr} {s : State}

/-! ### JOIN (11 R359) -/

/-- A command on a control frame for this member is its effect on the state after the frame's acceptance. -/
theorem exec_own {c : Instr} {body : List Nat} {f : State → State} (hu : frameUsed typeControl h s = true)
    (hown : forAnother h s = false) (hexec : exec c s = .next (onRouted typeControl body h f s)) :
    ∃ u, s.Accepts u ∧ exec c s = .next (f u) := by
  obtain ⟨u, haccepts, hframe⟩ := onRouted_own hu hown
  exact ⟨u, haccepts, by rw [hexec, hframe]⟩

/-- What the owner does with a JOIN. -/
def joinTaken (slot : Nat) (sp : Bool) (v a b : Nat) (s : State) : State :=
  if !s.held || !isOwner s then s
  else if sp != s.on Reg.sysModeSplit || !stateTranslates s a b then refuseJoin slot s
  else if s.prog.state = .changing then
    if s.pair.deferred.contains slot then s
    else { s with pair := { s.pair with deferred := s.pair.deferred ++ [slot] } }
  else toPeers "BUNDLE" [slot, v] (acceptJoin slot s)

section Own
variable (hu : frameUsed typeControl h s = true) (hown : forAnother h s = false) (sp : Bool) (v a b : Nat)
include hu hown

theorem exec_join : ∃ u, s.Accepts u ∧ exec (.join h sp v a b) s = .next (joinTaken h.srcSlot sp v a b u) :=
  exec_own hu hown rfl

theorem leads_join_other (hheld : s.held = false) : leads (.join h sp v a b) s (fun t => memKept s t ∧ t.role = s.role ∧
    t.pair = s.pair) := by
  obtain ⟨u, haccepts, hexec⟩ := exec_join hu hown sp v a b
  refine ⟨u, hexec.trans (congrArg Host.Outcome.next (if_pos ?_)), haccepts.memKept, haccepts.role, haccepts.pair⟩
  simp [haccepts.held, hheld]

end Own

theorem State.Accepts.stateTranslates {u : State} (h : s.Accepts u) (a b : Nat) :
    Machine.stateTranslates u a b = Machine.stateTranslates s a b := by
  rw [Machine.stateTranslates, Machine.stateTranslates, State.slot, State.slot, h.sec, h.get _ (by decide)]

theorem State.Accepts.owns {u : State} (h : s.Accepts u) (hheld : s.held = true) (hrole : s.role = rolePrimary ∨ s.role = roleAlone) :
    ¬ (!u.held || !isOwner u) = true := by
  rw [h.held, hheld, isOwner, h.role]
  rcases hrole with hrole | hrole <;> rw [hrole] <;> decide

/-- A refused JOIN is told to the joiner and to the third member. -/
theorem refuseJoin_outbox (slot : Nat) (u : State) : (refuseJoin slot u).hhk.ctlSeq = (u.hhk.ctlSeq + 1) % 65536 ∧
    ∃ w w', (refuseJoin slot u).outbox = u.outbox ++ [.peer w "JOIN_REFUSE" u.hhk.ctlSeq true [slot],
      .peer w' "FORWARD" 0 true [23, slot, 0]] ∧ ∀ x ∈ w, u.triad = true → x.dst = slot := by
  obtain ⟨v, hv⟩ : ∃ v, v = toMember slot "JOIN_REFUSE" [slot] u := ⟨_, rfl⟩
  obtain ⟨hout, hseq⟩ := sendNumbered_numbered (kind := "JOIN_REFUSE") (by decide) (by decide)
    ((waysOf u "JOIN_REFUSE").filter (fun w => !u.triad || w.dst == slot)) [slot] u
  obtain ⟨hout', hseq'⟩ := sendNumbered_plain (kind := "FORWARD") (data := [23, slot, 0]) (by decide) rfl
    (waysOf v "FORWARD") v
  have hsent : sendNumbered ((waysOf u "JOIN_REFUSE").filter (fun w => !u.triad || w.dst == slot)) "JOIN_REFUSE" [slot] u = v :=
    hv.symm
  rw [hsent] at hout hseq
  have hrefuse : refuseJoin slot u = sendNumbered (waysOf v "FORWARD") "FORWARD" [23, slot, 0] v := by rw [hv]; rfl
  rw [hrefuse]
  refine ⟨hseq'.trans hseq, (waysOf u "JOIN_REFUSE").filter (fun w => !u.triad || w.dst == slot), waysOf v "FORWARD", ?_,
    fun x hx htriad => ?_⟩
  · rw [hout', hout, List.append_assoc]
    rfl
  · have hdst := (List.mem_filter.mp hx).2
    simpa [htriad] using hdst

section Owner
variable (hu : frameUsed typeControl h s = true) (hown : forAnother h s = false) (sp : Bool) (v a b : Nat)
  (hheld : s.held = true) (hrole : s.role = rolePrimary ∨ s.role = roleAlone)
include hu hown hheld hrole

theorem leads_join_refused (hbad : sp ≠ s.on Reg.sysModeSplit ∨ stateTranslates s a b = false) :
    leads (.join h sp v a b) s (fun t => memKept s t ∧ t.role = s.role ∧ t.hhk.ctlSeq = (s.hhk.ctlSeq + 1) % 65536 ∧
      t.pair = s.pair ∧ ∃ w w', t.outbox = s.outbox ++ [.peer w "JOIN_REFUSE" s.hhk.ctlSeq true [h.srcSlot],
        .peer w' "FORWARD" 0 true [23, h.srcSlot, 0]] ∧ ∀ x ∈ w, s.triad = true → x.dst = h.srcSlot) := by
  obtain ⟨u, haccepts, hexec⟩ := exec_join hu hown sp v a b
  have hrefused : (sp != u.on Reg.sysModeSplit || !stateTranslates u a b) = true := by
    rw [haccepts.on, haccepts.stateTranslates]
    rcases hbad with hbad | hbad <;> simp [hbad]
  have hsends := refuseJoin_sends h.srcSlot u
  obtain ⟨hseq, hout⟩ := refuseJoin_outbox h.srcSlot u
  rw [haccepts.outbox, haccepts.ctlSeq, haccepts.triad] at hout
  refine ⟨refuseJoin h.srcSlot u, hexec.trans (congrArg Host.Outcome.next ((if_neg (haccepts.owns hheld hrole)).trans
    (if_pos hrefused))), memKept_of_mem (hsends.mem.trans haccepts.mem), hsends.role.trans haccepts.role, ?_,
    hsends.pair.trans haccepts.pair, hout⟩
  rw [hseq, haccepts.ctlSeq]

variable (hsplit : sp = s.on Reg.sysModeSplit) (htrans : stateTranslates s a b = true)
include hsplit htrans

omit hu hown in
theorem joinTaken_good {u : State} (haccepts : s.Accepts u) : joinTaken h.srcSlot sp v a b u =
    if u.prog.state = .changing then
      if u.pair.deferred.contains h.srcSlot then u
      else { u with pair := { u.pair with deferred := u.pair.deferred ++ [h.srcSlot] } }
    else toPeers "BUNDLE" [h.srcSlot, v] (acceptJoin h.srcSlot u) := by
  refine (if_neg (haccepts.owns hheld hrole)).trans (if_neg ?_)
  rw [haccepts.on, haccepts.stateTranslates, hsplit, htrans]
  simp

theorem leads_join_deferred (hchanging : s.prog.state = .changing) : leads (.join h sp v a b) s (fun t => memKept s t ∧
    t.role = s.role ∧ t.pair.joiner = s.pair.joiner ∧ t.pair.deferred = (if s.pair.deferred.contains h.srcSlot then s.pair.deferred
      else s.pair.deferred ++ [h.srcSlot])) := by
  obtain ⟨u, haccepts, hexec⟩ := exec_join hu hown sp v a b
  rw [joinTaken_good sp v a b hheld hrole hsplit htrans haccepts, if_pos (by rw [haccepts.prog, hchanging])] at hexec
  refine ⟨_, hexec, ?_⟩
  rw [← haccepts.pair]
  split
  next hknown => exact ⟨haccepts.memKept, haccepts.role, rfl, rfl⟩
  next hknown => exact ⟨haccepts.memKept, haccepts.role, rfl, rfl⟩

end Owner

/-! ### An accepted JOIN (11 R359, 12 R379, 16 R456) -/

/-- What the owner notes of the joiner. -/
def joinNoted (slot : Nat) (s : State) : State :=
  { s with pair := { s.pair with
    joiner := some slot, acceptedAt := s.mono, killDue := false, qFrame := none
    attempts := if s.pair.joiner = some slot then s.pair.attempts else 0 } }

/-- The state in which the JOIN is answered. -/
def joinEntered (slot : Nat) (s : State) : State :=
  peerRole slot roleSyncing ((joinNoted slot (releaseKill slot s)).set Reg.hhkPairResyncPhase 1)

theorem acceptJoin_eq (slot : Nat) (s : State) : ∃ e, acceptJoin slot s = toPeers "FORWARD" [23, slot, 1]
    (toMember slot "KEY" [e] (toMember slot "JOIN_ACCEPT" [slot] (joinEntered slot s))) := ⟨_, rfl⟩

theorem releaseKill_shows (slot : Nat) (s : State) : (releaseKill slot s).mem = s.mem ∧ (releaseKill slot s).role = s.role ∧
    (releaseKill slot s).mono = s.mono ∧ (s.pair.killed = none ∨ s.pair.killed = some slot →
      (releaseKill slot s).on Reg.hhkPairStatusKillOut = false) := by
  unfold releaseKill
  split
  next h =>
    refine ⟨State.set_mem .., State.get_set_off _ _ _ _ (by decide), State.set_mono .., fun _ => ?_⟩
    rw [State.on_setBit_self _ _ _ (by decide)]
  next h => exact ⟨rfl, rfl, rfl, fun h' => absurd h' h⟩

theorem get_peerRole_off {f : Fld} (hf : Reg.hhkPairStatusPeerRole.apart f = true) (slot r : Nat) (s : State) :
    (peerRole slot r s).get f = s.get f := by
  unfold peerRole
  dsimp only
  rw [State.get_set_apart _ _ _ _ (by decide) hf]
  exact State.get_congr _ _ rfl f

theorem joinEntered_shows (slot : Nat) (s : State) : (joinEntered slot s).mem = s.mem ∧ (joinEntered slot s).role = s.role ∧
    (joinEntered slot s).pair.joiner = some slot ∧ (joinEntered slot s).get Reg.hhkPairResyncPhase = 1 ∧
    (s.pair.killed = none ∨ s.pair.killed = some slot → (joinEntered slot s).on Reg.hhkPairStatusKillOut = false) ∧
    (joinEntered slot s).pair.acceptedAt = s.mono := by
  obtain ⟨u, hu⟩ : ∃ u, u = releaseKill slot s := ⟨_, rfl⟩
  obtain ⟨hmem, hrole, hmono, hkill⟩ := releaseKill_shows slot s
  rw [← hu] at hmem hrole hmono hkill
  obtain ⟨v, hv⟩ : ∃ v, v = joinNoted slot u := ⟨_, rfl⟩
  have hvget (f : Fld) : v.get f = u.get f := State.get_congr v u (by rw [hv]; rfl) f
  have hvjoiner : v.pair.joiner = some slot := by rw [hv]; rfl
  have hvat : v.pair.acceptedAt = u.mono := by rw [hv]; rfl
  have hvmem : v.mem = u.mem := by rw [hv]; rfl
  obtain ⟨w, hw⟩ : ∃ w, w = v.set Reg.hhkPairResyncPhase 1 := ⟨_, rfl⟩
  have hwget {f : Fld} (hf : (Reg.hhkPairResyncPhase.ok && Reg.hhkPairResyncPhase.apart f) = true) : w.get f = u.get f := by
    rw [hw, State.get_set_off _ _ _ _ hf, hvget]
  have hwpair : w.pair = v.pair := hw ▸ State.set_pair ..
  have hstate : joinEntered slot s = peerRole slot roleSyncing w := by rw [joinEntered, ← hu, ← hv, ← hw]
  have hat : (peerRole slot roleSyncing w).pair.acceptedAt = w.pair.acceptedAt := by
    unfold peerRole
    rw [State.set_pair]
  rw [hstate]
  refine ⟨?_, ?_, ?_, ?_, fun hkilled => ?_, ?_⟩
  · rw [peerRole_mem, hw, State.set_mem, hvmem, hmem]
  · exact (get_peerRole_off (by decide) ..).trans ((hwget (by decide)).trans hrole)
  · rw [joiner_peerRole, hwpair, hvjoiner]
  · rw [get_peerRole_off (by decide), hw, State.get_set_self _ _ _ (by decide)]
    rfl
  · rw [State.on_congr (get_peerRole_off (by decide) slot roleSyncing w), State.on_congr (hwget (by decide)), hkill hkilled]
  · rw [hat, hwpair, hvat, hmono]

theorem acceptJoin_shows (slot : Nat) (s : State) : (joinEntered slot s).Sends (acceptJoin slot s) ∧
    ∃ w n d, .peer w "KEY" n true d ∈ (acceptJoin slot s).outbox := by
  obtain ⟨e, heq⟩ := acceptJoin_eq slot s
  obtain ⟨v, hv⟩ : ∃ v, v = toMember slot "JOIN_ACCEPT" [slot] (joinEntered slot s) := ⟨_, rfl⟩
  rw [← hv] at heq
  obtain ⟨hout, -⟩ := sendNumbered_numbered (kind := "KEY") (by decide) (by decide)
    ((waysOf v "KEY").filter (fun w => !v.triad || w.dst == slot)) [e] v
  have hlast := toPeers_sends "FORWARD" [23, slot, 1] (toMember slot "KEY" [e] v)
  rw [heq]
  refine ⟨((hv ▸ toMember_sends ..).trans (toMember_sends ..)).trans hlast,
    (waysOf v "KEY").filter (fun w => !v.triad || w.dst == slot), v.hhk.ctlSeq, [e], hlast.outbox.subset ?_⟩
  exact hout ▸ List.mem_append_right _ (List.mem_singleton_self _)

theorem leads_join_accepted (hu : frameUsed typeControl h s = true) (hown : forAnother h s = false) (sp : Bool) (v a b : Nat)
    (hheld : s.held = true) (hrole : s.role = rolePrimary ∨ s.role = roleAlone) (hsplit : sp = s.on Reg.sysModeSplit)
    (htrans : stateTranslates s a b = true) (hrun : s.prog.state ≠ .changing) :
    leads (.join h sp v a b) s (fun t => memKept s t ∧ t.role = s.role ∧ t.pair.joiner = some h.srcSlot ∧
      t.get Reg.hhkPairResyncPhase = 1 ∧
      (s.pair.killed = none ∨ s.pair.killed = some h.srcSlot → t.on Reg.hhkPairStatusKillOut = false) ∧
      t.pair.acceptedAt = s.mono ∧ ∃ w n d, .peer w "KEY" n true d ∈ t.outbox) := by
  obtain ⟨u, haccepts, hexec⟩ := exec_join hu hown sp v a b
  rw [joinTaken_good sp v a b hheld hrole hsplit htrans haccepts, if_neg (by rw [haccepts.prog]; exact hrun)] at hexec
  obtain ⟨hmem, hrole', hjoiner, hphase, hkill, hat⟩ := joinEntered_shows h.srcSlot u
  obtain ⟨hsends, w, n, d, hkey⟩ := acceptJoin_shows h.srcSlot u
  have hbundle := toPeers_sends "BUNDLE" [h.srcSlot, v] (acceptJoin h.srcSlot u)
  have hall := hsends.trans hbundle
  rw [haccepts.pair] at hkill
  refine ⟨_, hexec, memKept_of_mem (hall.mem.trans (hmem.trans haccepts.mem)), hall.role.trans (hrole'.trans haccepts.role),
    ?_, (hall.get _).trans hphase, fun hkilled => (hall.on _).trans (hkill hkilled), ?_, w, n, d, hbundle.outbox.subset hkey⟩
  · rw [hall.pair, hjoiner]
  · rw [hall.pair, hat, haccepts.mono]

end Join

end Sys2Proof.Machine
end

section
/-! PROOF. LEAVE, FAILED, READY, ACK and the taint release (11 R336, R343, R347, R364, 04 R142, 13 R406). -/

namespace Sys2Proof.Machine

section Leave

variable {h : HhkHdr} {s : State}

/-! ### What is known of a peer -/

/-- A STANDBY without taint beside the member of a slot. -/
def otherStandby (slot : Nat) (s : State) : Bool :=
  s.pair.peers.any (fun p => p.slot != slot && p.role == roleStandby && !p.taint)

theorem peers_peerRole (slot r : Nat) (s : State) : (peerRole slot r s).pair.peers =
    s.pair.peers.map (fun (q : Peer) => if q.slot = slot then { q with role := r } else q) := by
  unfold peerRole
  rw [State.set_pair]

theorem role_peerRole (slot r : Nat) (s : State) : (peerRole slot r s).role = s.role := get_peerRole_off (by decide) ..

theorem held_peerRole (slot r : Nat) (s : State) : (peerRole slot r s).held = s.held :=
  State.on_congr (get_peerRole_off (by decide) ..)

/-- A peer with another role is no STANDBY. -/
theorem goodStandby_peerRole {slot r : Nat} (hr : r ≠ roleStandby) (s : State) :
    goodStandby (peerRole slot r s) = otherStandby slot s := by
  rw [goodStandby, otherStandby, peers_peerRole, List.any_map]
  refine congrArg (fun f => s.pair.peers.any f) (funext fun q => ?_)
  by_cases hq : q.slot = slot
  · simp [hq, hr]
  · have hother : (q.slot != slot) = true := by simpa using hq
    simp [hq, hother]

theorem peers_dropPeer (slot : Nat) (s : State) : (dropPeer slot s).pair.peers = s.pair.peers.filter (fun q => q.slot != slot) := by
  rw [(dropPeer_elapses slot s).pair]

theorem goodStandby_dropPeer (slot r : Nat) (s : State) :
    goodStandby (dropPeer slot (peerRole slot r s)) = otherStandby slot s := by
  rw [goodStandby, peers_dropPeer, List.any_filter, otherStandby, peers_peerRole, List.any_map]
  refine congrArg (fun f => s.pair.peers.any f) (funext fun q => ?_)
  by_cases hq : q.slot = slot
  · simp [hq]
  · have hother : (q.slot != slot) = true := by simpa using hq
    simp [hq, hother]

/-- A JOIN of the member of a slot is no longer in progress. -/
def unjoined (slot : Nat) (s : State) : State :=
  { s with pair := { s.pair with joiner := if s.pair.joiner = some slot then none else s.pair.joiner } }

theorem unjoined_joiner (slot : Nat) (s : State) : (unjoined slot s).pair.joiner ≠ some slot := by
  unfold unjoined
  dsimp only
  split
  · exact nofun
  · assumption

theorem unjoined_role (slot : Nat) (s : State) : (unjoined slot s).role = s.role := State.get_congr (unjoined slot s) s rfl _

theorem unjoined_held (slot : Nat) (s : State) : (unjoined slot s).held = s.held :=
  State.on_congr (State.get_congr (unjoined slot s) s rfl _)

theorem joinOrClaim_peered (s : State) : s.Peered (showTriad (joinOrClaim s)) := (State.Peered.refl s).joinOrClaim.showTriad

/-- An owner looks for no other. -/
theorem ownerSeeks_role {t : State} (ht : t.role = rolePrimary ∨ t.role = roleAlone) :
    (showTriad (joinOrClaim t)).role = t.role := by
  rw [showTriad_role, joinOrClaim_role]
  rcases ht with ht | ht <;> rw [ht] <;> decide

/-- The role of an owner by its peers. -/
theorem reviewOwner_primary {t : State} (ht : t.role = rolePrimary) :
    (reviewOwner t).role = if goodStandby t then rolePrimary else roleAlone := by
  obtain ⟨-, -, hrole⟩ := reviewOwner_shows t
  rw [hrole, ht]
  cases goodStandby t <;> rfl

theorem primary_or_alone (b : Bool) : (if b then rolePrimary else roleAlone) = rolePrimary ∨
    (if b then rolePrimary else roleAlone) = roleAlone := by
  cases b
  · exact .inr rfl
  · exact .inl rfl

/-! ### LEAVE (11 R364) -/

theorem exec_leave (hu : frameUsed typeControl h s = true) (hown : forAnother h s = false) : ∃ u, s.Accepts u ∧
    exec (.leave h) s = .next (showTriad (joinOrClaim (unjoined h.srcSlot (reviewOwner
      (dropPeer h.srcSlot (peerRole h.srcSlot roleNone u)))))) := exec_own hu hown rfl

theorem leads_leave (hu : frameUsed typeControl h s = true) (hown : forAnother h s = false) :
    leads (.leave h) s (fun t => memKept s t ∧ t.held = s.held ∧ (∀ p ∈ t.pair.peers, p.slot ≠ h.srcSlot) ∧
      t.pair.joiner ≠ some h.srcSlot ∧ (s.role = rolePrimary → t.role =
        (if s.pair.peers.any (fun p => p.slot != h.srcSlot && p.role == roleStandby && !p.taint)
          then rolePrimary else roleAlone))) := by
  obtain ⟨u, haccepts, hexec⟩ := exec_leave hu hown
  obtain ⟨v, hv⟩ : ∃ v, v = dropPeer h.srcSlot (peerRole h.srcSlot roleNone u) := ⟨_, rfl⟩
  obtain ⟨w, hw⟩ : ∃ w, w = peerRole h.srcSlot roleNone u := ⟨_, rfl⟩
  have hwmem : w.mem = s.mem := by rw [hw, peerRole_mem, haccepts.mem]
  have hwheld : w.held = s.held := by rw [hw, held_peerRole, haccepts.held]
  have hwrole : w.role = s.role := by rw [hw, role_peerRole, haccepts.role]
  have helapses := dropPeer_elapses h.srcSlot w
  rw [hw, ← hv, ← hw] at helapses
  have hvmem : v.mem = s.mem := helapses.mem.trans hwmem
  have hvheld : v.held = s.held := helapses.held.trans ((State.on_congr (State.get_congr _ _ rfl _)).trans hwheld)
  have hvrole : v.role = s.role := helapses.role.trans ((State.get_congr _ _ rfl _).trans hwrole)
  have hvpeers : ∀ p ∈ v.pair.peers, p.slot ≠ h.srcSlot := by
    rw [hv, peers_dropPeer]
    exact fun p hp => by simpa using (List.mem_filter.mp hp).2
  have hvgood : goodStandby v = otherStandby h.srcSlot s := by
    rw [hv, goodStandby_dropPeer, otherStandby, haccepts.pair, otherStandby]
  have hreviewed : v.Peered (reviewOwner v) := (State.Peered.refl v).reviewOwner
  have hlast := joinOrClaim_peered (unjoined h.srcSlot (reviewOwner v))
  rw [← hv] at hexec
  refine ⟨_, hexec, memKept_of_mem (hlast.mem.trans (hreviewed.mem.trans hvmem)),
    hlast.held.trans ((unjoined_held ..).trans (hreviewed.held.trans hvheld)), ?_, ?_, fun hprim => ?_⟩
  · rw [hlast.peers]
    change ∀ p ∈ (reviewOwner v).pair.peers, p.slot ≠ h.srcSlot
    rw [hreviewed.peers]
    exact hvpeers
  · rw [hlast.joiner]
    exact unjoined_joiner _ _
  · have hrole : (unjoined h.srcSlot (reviewOwner v)).role = if otherStandby h.srcSlot s then rolePrimary else roleAlone := by
      rw [unjoined_role, reviewOwner_primary (hvrole.trans hprim), hvgood]
    rw [ownerSeeks_role (hrole ▸ primary_or_alone _), hrole]
    rfl

/-! ### FAILED (11 R343) -/

/-- A handover to a member that has failed does not take place. -/
def handoverOff (s : State) : State := if s.held && !goodStandby s then cancelUnmoved s else s

/-- The class of a member's failure is logged. -/
def classLogged (cls : Nat) (s : State) : State := if cls = 0 then s else fwLog 5 [BitVec.ofNat 8 cls] s

theorem handoverOff_peered (s : State) : s.Peered (handoverOff s) :=
  .ite (State.Peered.refl s).cancelUnmoved (.refl s)

theorem handoverOff_role (s : State) : (handoverOff s).role = s.role := by
  unfold handoverOff
  split
  · exact cancelUnmoved_role s
  · rfl

theorem classLogged_peered (cls : Nat) (s : State) : s.Peered (classLogged cls s) :=
  .ite (.refl s) (State.Peered.refl s).fwLog

theorem classLogged_role (cls : Nat) (s : State) : (classLogged cls s).role = s.role := by
  unfold classLogged
  split
  · rfl
  · exact fwLog_role ..

theorem exec_failed (hu : frameUsed typeControl h s = true) (hown : forAnother h s = false) (n : Nat) : ∃ u, s.Accepts u ∧
    exec (.failed h n) s = .next (showTriad (joinOrClaim (classLogged n (unjoined h.srcSlot (handoverOff (reviewOwner
      (peerRole h.srcSlot roleFailed u))))))) := exec_own hu hown rfl

theorem leads_failed (hu : frameUsed typeControl h s = true) (hown : forAnother h s = false) (n : Nat) :
    leads (.failed h n) s (fun t => memKept s t ∧ t.held = s.held ∧
      (∀ p ∈ t.pair.peers, p.slot = h.srcSlot → p.role = roleFailed) ∧ t.pair.joiner ≠ some h.srcSlot ∧
      (s.role = rolePrimary → t.role =
        (if s.pair.peers.any (fun p => p.slot != h.srcSlot && p.role == roleStandby && !p.taint)
          then rolePrimary else roleAlone))) := by
  obtain ⟨u, haccepts, hexec⟩ := exec_failed hu hown n
  obtain ⟨v, hv⟩ : ∃ v, v = peerRole h.srcSlot roleFailed u := ⟨_, rfl⟩
  have hvmem : v.mem = s.mem := by rw [hv, peerRole_mem, haccepts.mem]
  have hvheld : v.held = s.held := by rw [hv, held_peerRole, haccepts.held]
  have hvrole : v.role = s.role := by rw [hv, role_peerRole, haccepts.role]
  have hvgood : goodStandby v = otherStandby h.srcSlot s := by
    rw [hv, goodStandby_peerRole (by decide), otherStandby, haccepts.pair, otherStandby]
  have hvpeers : ∀ p ∈ v.pair.peers, p.slot = h.srcSlot → p.role = roleFailed := by
    rw [hv, peers_peerRole]
    intro p hp hslot
    obtain ⟨q, -, rfl⟩ := List.mem_map.mp hp
    by_cases hq : q.slot = h.srcSlot
    · rw [if_pos hq]
    · rw [if_neg hq] at hslot
      exact absurd hslot hq
  obtain ⟨w, hw⟩ : ∃ w, w = handoverOff (reviewOwner v) := ⟨_, rfl⟩
  have hkept : v.Peered w := hw ▸ (State.Peered.refl v).reviewOwner.trans (handoverOff_peered _)
  have hwrole : w.role = (reviewOwner v).role := by rw [hw, handoverOff_role]
  have hlast := (classLogged_peered n (unjoined h.srcSlot w)).trans (joinOrClaim_peered _)
  rw [← hv, ← hw] at hexec
  refine ⟨_, hexec, memKept_of_mem (hlast.mem.trans (hkept.mem.trans hvmem)),
    hlast.held.trans ((unjoined_held ..).trans (hkept.held.trans hvheld)), ?_, ?_, fun hprim => ?_⟩
  · rw [hlast.peers]
    change ∀ p ∈ w.pair.peers, p.slot = h.srcSlot → p.role = roleFailed
    rw [hkept.peers]
    exact hvpeers
  · rw [hlast.joiner]
    exact unjoined_joiner _ _
  · have hrole : (classLogged n (unjoined h.srcSlot w)).role =
        if otherStandby h.srcSlot s then rolePrimary else roleAlone := by
      rw [classLogged_role, unjoined_role, hwrole, reviewOwner_primary (hvrole.trans hprim), hvgood]
    rw [ownerSeeks_role (hrole ▸ primary_or_alone _), hrole]
    rfl

/-- A frame's acceptance leaves the ring blocks. -/
theorem State.Accepts.offRings {u : State} (h : s.Accepts u) : s.OffRings u := by
  refine ⟨h.mem, fun a hlo hhi => ?_⟩
  have hget := h.get ⟨a, 31, 0⟩ (by
    simp only [Fld.apart, Bool.or_eq_true, decide_eq_true_eq]
    simp only [Reg.hhkPairStatusHhkUp]
    omega)
  have hwhole (v : State) : v.get ⟨a, 31, 0⟩ = (v.reg a).toNat := by
    have hlt := (v.reg a).isLt
    simp only [State.get, fieldOf]
    omega
  rw [hwhole, hwhole] at hget
  exact BitVec.eq_of_toNat_eq hget

/-! ### READY, ACK and the taint release (04 R142, 11 R347, 13 R406) -/

/-- What the owner does with a member's READY. -/
def readyTaken (slot : Nat) (ok : Bool) (s : State) : State :=
  match s.prog.change with
  | some c =>
    if !ok then dropChange stStateConflict (toPeers "FORWARD" [6] s)
    else nameSwap (s.updProg (fun g => { g with change := some { c with ready := slot :: c.ready } }))
  | none => s

section Ready
variable (hu : frameUsed typeControl h s = true) (hown : forAnother h s = false)
include hu hown

theorem exec_ready (ok : Bool) : ∃ u, s.Accepts u ∧ exec (.ready h ok) s = .next (readyTaken h.srcSlot ok u) := by
  obtain ⟨u, haccepts, hexec⟩ := exec_own (c := .ready h ok) (f := readyTaken h.srcSlot ok) (body := [3, b2n ok]) hu hown rfl
  exact ⟨u, haccepts, hexec⟩

theorem leads_ready_idle (hnone : s.prog.change = none) (ok : Bool) :
    leads (.ready h ok) s (fun t => memKept s t ∧ t.prog = s.prog) := by
  obtain ⟨u, haccepts, hexec⟩ := exec_ready hu hown ok
  have hsame : readyTaken h.srcSlot ok u = u := by rw [readyTaken, haccepts.prog, hnone]
  exact ⟨u, by rw [hexec, hsame], haccepts.memKept, haccepts.prog⟩

omit hu hown in
theorem nameSwap_shows {v : State} {c : Change} (hc : v.prog.change = some c) : (nameSwap v).mem = v.mem ∧
    (nameSwap v).role = v.role ∧ ∃ c', (nameSwap v).prog.change = some c' ∧ c'.ready = c.ready := by
  rw [nameSwap, hc]
  dsimp only
  split
  · exact ⟨rfl, State.get_congr _ _ rfl _, _, rfl, rfl⟩
  · exact ⟨rfl, rfl, c, hc, rfl⟩

theorem leads_ready {c : Change} (hc : s.prog.change = some c) : leads (.ready h true) s (fun t => memKept s t ∧ t.role = s.role ∧
    ∃ c', t.prog.change = some c' ∧ c'.ready = h.srcSlot :: c.ready) := by
  obtain ⟨u, haccepts, hexec⟩ := exec_ready hu hown true
  obtain ⟨v, hv⟩ : ∃ v, v = u.updProg (fun g => { g with change := some { c with ready := h.srcSlot :: c.ready } }) := ⟨_, rfl⟩
  have hsame : readyTaken h.srcSlot true u = nameSwap v := by
    rw [readyTaken, haccepts.prog, hc, hv]
    rfl
  have hvc : v.prog.change = some { c with ready := h.srcSlot :: c.ready } := by rw [hv]; rfl
  obtain ⟨hmem, hrole, c', hc', hready⟩ := nameSwap_shows hvc
  refine ⟨nameSwap v, by rw [hexec, hsame], memKept_of_mem (hmem.trans ?_), hrole.trans ?_, c', hc', hready⟩
  · rw [hv]
    exact haccepts.mem
  · exact (State.get_congr v u (by rw [hv]; rfl) _).trans haccepts.role

theorem leads_ready_refused {c : Change} (hc : s.prog.change = some c) (hstate : s.prog.state = .changing) :
    leads (.ready h false) s (fun t => ((∀ i, i < 16 → ringsIdle i s = true) → memKept s t) ∧ t.prog.change = none ∧
      t.prog.state = .run ∧ t.prog.staged = none) := by
  obtain ⟨u, haccepts, hexec⟩ := exec_ready hu hown false
  have hsame : readyTaken h.srcSlot false u = dropChange stStateConflict (toPeers "FORWARD" [6] u) := by
    rw [readyTaken, haccepts.prog, hc]
    rfl
  have hchanging : (toPeers "FORWARD" [6] u).prog.state = .changing := by rw [toPeers_prog, haccepts.prog, hstate]
  refine ⟨dropChange stStateConflict (toPeers "FORWARD" [6] u), by rw [hexec, hsame], fun hidle => ?_, ?_⟩
  · exact memKept_of_mem (haccepts.offRings.toPeers.dropChange fun j hj => answersIdle_of_ringsIdle (hidle j hj)).mem
  · rw [dropChange_prog hchanging]
    exact ⟨rfl, rfl, rfl⟩

theorem leads_ack (n : Nat) : leads (.ack h n) s (fun t => memKept s t ∧ t.role = s.role ∧ bitOf t.pair.unacked n = false) := by
  obtain ⟨u, haccepts, hexec⟩ := exec_own (c := .ack h n) hu hown rfl
  refine ⟨_, hexec, haccepts.memKept, (State.get_congr _ u rfl _).trans haccepts.role, ?_⟩
  rw [bitOf_withBit, if_pos rfl]

theorem leads_taintRelease : leads (.taintRelease h) s (fun t => memKept s t ∧ t.role = s.role ∧ t.pair.announced = true) := by
  obtain ⟨u, haccepts, hexec⟩ := exec_own (c := .taintRelease h) hu hown rfl
  exact ⟨_, hexec, haccepts.memKept, (State.get_congr _ u rfl _).trans haccepts.role, rfl⟩

end Ready

end Leave

end Sys2Proof.Machine
end

section
/-! SUPPORT. What a resync copies, and checkpoints (11 R359-R363). -/

namespace Sys2Proof.Machine

variable {s : State}

/-- A fold keeps a part of the state that its step keeps for each element. -/
theorem foldl_keeps_of_mem {α β : Type} {f : State → α → State} (part : State → β) {l : List α}
    (hf : ∀ t, ∀ x ∈ l, part (f t x) = part t) (s : State) : part (l.foldl f s) = part s := by
  induction l generalizing s with
  | nil => rfl
  | cons x r ih => exact (ih (fun t y hy => hf t y (by simp [hy])) (f s x)).trans (hf s x (by simp))

/-! ### Writes of several objects of memory -/

theorem setBytes_lines_other {x : Nat} (ls : List (Nat × List Byte)) (hx : ∀ p ∈ ls, x < p.1 ∨ p.1 + 64 ≤ x) (s : State) :
    (ls.foldl (fun s l => s.setBytes l.1 (l.2.take 64)) s).byte x = s.byte x := by
  induction ls generalizing s with
  | nil => rfl
  | cons p ls ih =>
    have hlen := List.length_take_le 64 p.2
    rw [List.foldl_cons, ih fun q hq => hx q (by simp [hq])]
    refine State.byte_setBytes_other _ _ _ _ ?_
    rcases hx p (by simp) with hx | hx
    · exact .inl hx
    · exact .inr (by omega)

theorem setBytes_lines_frame (ls : List (Nat × List Byte)) (s : State) :
    ∃ m, ls.foldl (fun s l => s.setBytes l.1 (l.2.take 64)) s = { s with mem := m } := by
  induction ls generalizing s with
  | nil => exact ⟨s.mem, rfl⟩
  | cons p ls ih =>
    obtain ⟨m, hm⟩ := ih (s.setBytes p.1 (p.2.take 64))
    exact ⟨m, by rw [List.foldl_cons, hm, State.setBytes_frame]⟩

/-! ### A checkpoint is kept (11 R362) -/

theorem keepCkpt_mem (n : Nat) (c : Ckpt) (s : State) : (keepCkpt n c s).mem = s.mem := (State.set_mem ..).trans (State.set_mem ..)

theorem keepCkpt_mono (n : Nat) (c : Ckpt) (s : State) : (keepCkpt n c s).mono = s.mono := (State.set_mono ..).trans (State.set_mono ..)

theorem keepCkpt_ckpts (n : Nat) (c : Ckpt) (s : State) :
    (keepCkpt n c s).pair.ckpts = listSet s.pair.ckpts n (fun _ => some c) :=
  congrArg PairSt.ckpts ((State.set_pair ..).trans (State.set_pair ..))

/-- A kept checkpoint shows in its own register alone. -/
theorem get_keepCkpt {f : Fld} {n : Nat} (hf : f.addr ≠ 0x80820 + 4 * n) (c : Ckpt) (s : State) :
    (keepCkpt n c s).get f = s.get f :=
  (State.get_of_reg (State.reg_set_other _ _ _ _ hf)).trans ((State.get_of_reg (State.reg_set_other _ _ _ _ hf)).trans
    (State.get_congr _ s rfl f))

theorem keepCkpt_shows (n : Nat) (c : Ckpt) (s : State) : (keepCkpt n c s).on (Reg.hhkPairCkptValid n) = true ∧
    (keepCkpt n c s).get (Reg.hhkPairCkptAgeMs n) = 0 ∧ singletonRuns (keepCkpt n c s) n = singletonRuns s n := by
  obtain ⟨v, hv⟩ : ∃ v : State, v = { s with pair := { s.pair with ckpts := listSet s.pair.ckpts n (fun _ => some c) } } :=
    ⟨_, rfl⟩
  have hkeep : keepCkpt n c s = (v.setBit (Reg.hhkPairCkptValid n) true).set (Reg.hhkPairCkptAgeMs n) 0 := by rw [hv]; rfl
  have hapart {hi lo : Nat} (h : 16 ≤ lo) : (Reg.hhkPairCkptAgeMs n).apart ⟨0x80820 + 4 * n, hi, lo⟩ = true := by
    simp only [Fld.apart, Bool.or_eq_true, decide_eq_true_eq]
    simp only [Reg.hhkPairCkptAgeMs]
    omega
  have hvalid : (Reg.hhkPairCkptValid n).apart (Reg.hhkPairCkptRunning n) = true := by
    simp only [Fld.apart, Bool.or_eq_true, decide_eq_true_eq]
    simp only [Reg.hhkPairCkptValid, Reg.hhkPairCkptRunning]
    omega
  rw [hkeep]
  refine ⟨?_, State.get_set_self _ _ _ rfl, State.on_congr ?_⟩
  · exact (State.on_congr (State.get_set_apart _ _ _ _ rfl (hapart (by decide)))).trans (State.on_setBit_self _ _ _ rfl)
  · exact (State.get_set_apart _ _ _ _ rfl (hapart (by decide))).trans ((State.get_set_apart _ _ _ _ rfl hvalid).trans
      (State.get_congr v s (by rw [hv]) _))

/-! ### What a resync copies beside memory (11 R359) -/

/-- A checkpoint of the owner's arrives with its replica. -/
def replicaCkpt (x : Replica) (s : State) (n : Nat) : State :=
  match x.ckpts.getD n none with
  | some c => keepCkpt n { c with arrived := s.mono } s
  | none => s

/-- The registers of Larkspur's groups as the owner has them. -/
def replicaGroups (x : Replica) (s : State) : State :=
  (List.range 4).foldl (fun s g =>
    (s.setReg (0x40200 + 4 * g) (BitVec.ofNat 32 (x.groups.getD g (0, 0)).1)).setReg (0x40210 + 4 * g)
      (BitVec.ofNat 32 (x.groups.getD g (0, 0)).2)) (s.set Reg.lspStatusArmed x.armed)

/-- The registers and the checkpoints that come with a replica. -/
def replicaRegs (x : Replica) (s : State) : State :=
  ((List.range 3).foldl (replicaCkpt x) (putDropped x.dropped (replicaGroups x s))).set Reg.lspLastSeqSeq x.lastSeq

theorem applyReplica_eq (x : Replica) (s : State) : ∃ lsp net prog, applyReplica x s =
      { replicaRegs x s with ast := x.ast, lsp := lsp, net := net, prog := prog } ∧
    lsp.marks = s.lsp.marks ∧ prog.active = x.unit ∧ prog.outVals = x.outVals := ⟨_, _, _, rfl, rfl, rfl, rfl⟩

theorem replicaCkpt_cases (x : Replica) (s : State) (n : Nat) :
    replicaCkpt x s n = s ∨ ∃ c, replicaCkpt x s n = keepCkpt n c s := by
  unfold replicaCkpt
  split
  · exact .inr ⟨_, rfl⟩
  · exact .inl rfl

/-- A part of the state that no register of a replica shows in. -/
theorem replicaRegs_keeps {β : Type} (part : State → β) (hset : ∀ t f v, f.addr ≠ 0x10 → f.addr ≠ 0x80818 → part (t.set f v) = part t)
    (hreg : ∀ t a w, a ≠ 0x10 → a ≠ 0x80818 → part (t.setReg a w) = part t)
    (hckpt : ∀ t n c, n < 3 → part (keepCkpt n c t) = part t) (x : Replica) (s : State) :
    part (replicaRegs x s) = part s := by
  have hgroups : part (replicaGroups x s) = part s := by
    unfold replicaGroups
    refine (foldl_keeps_of_mem part (fun t g hg => ?_) _).trans (hset _ _ _ (by decide) (by decide))
    have hfour : g < 4 := List.mem_range.mp hg
    exact (hreg _ _ _ (by omega) (by omega)).trans (hreg _ _ _ (by omega) (by omega))
  have hfold (t : State) : part ((List.range 3).foldl (replicaCkpt x) t) = part t :=
    foldl_keeps_of_mem part (fun t n hn => by
      rcases replicaCkpt_cases x t n with h | ⟨c, h⟩
      · rw [h]
      · rw [h, hckpt _ _ _ (List.mem_range.mp hn)]) t
  unfold replicaRegs putDropped
  refine (hset _ _ _ (by decide) (by decide)).trans ((hfold _).trans ?_)
  exact (hset _ _ _ (by decide) (by decide)).trans ((hset _ _ _ (by decide) (by decide)).trans hgroups)

theorem replicaRegs_mem (x : Replica) (s : State) : (replicaRegs x s).mem = s.mem :=
  replicaRegs_keeps State.mem (fun t f v _ _ => State.set_mem t f v) (fun _ _ _ _ _ => rfl) (fun t n c _ => keepCkpt_mem n c t) x s

theorem get_replicaRegs {f : Fld} (hf : f.addr = 0x10 ∨ f.addr = 0x80818) (x : Replica) (s : State) :
    (replicaRegs x s).get f = s.get f := by
  refine replicaRegs_keeps (State.get · f) (fun t g v h1 h2 => State.get_of_reg (State.reg_set_other _ _ _ _ (by omega)))
    (fun t a w h1 h2 => State.get_of_reg (State.reg_setReg_other _ _ _ _ (by omega))) (fun t n c hn => get_keepCkpt (by omega) c t) x s

theorem replicaRegs_ckpts {x : Replica} {n : Nat} {c : Ckpt} (hn : n < 3) (hlen : n < s.pair.ckpts.length)
    (hc : x.ckpts.getD n none = some c) :
    (replicaRegs x s).pair.ckpts.getD n none = some { c with arrived := s.mono } := by
  have hgroups (t : State) : (replicaGroups x t).mono = t.mono ∧ (replicaGroups x t).pair = t.pair := by
    unfold replicaGroups
    refine ⟨(foldl_keeps State.mono (fun u g => ?_) _ _).trans (State.set_mono ..),
      (foldl_keeps State.pair (fun u g => ?_) _ _).trans (State.set_pair ..)⟩
    · rfl
    · rfl
  obtain ⟨v, hv⟩ : ∃ v, v = putDropped x.dropped (replicaGroups x s) := ⟨_, rfl⟩
  have hvmono : v.mono = s.mono := by
    rw [hv]
    exact (State.set_mono ..).trans ((State.set_mono ..).trans (hgroups s).1)
  have hvpair : v.pair = s.pair := by
    rw [hv]
    exact (State.set_pair ..).trans ((State.set_pair ..).trans (hgroups s).2)
  unfold replicaRegs
  rw [State.set_pair, ← hv]
  refine foldl_establishes (l := List.range 3) (x := n) (inv := fun t => t.mono = s.mono ∧ n < t.pair.ckpts.length)
    (p := fun t => t.pair.ckpts.getD n none = some { c with arrived := s.mono }) (List.mem_range.mpr hn)
    ⟨hvmono, by rw [hvpair]; exact hlen⟩ (fun t i _ ht => ?_) (fun t ht => ?_) (fun t i _ hi ht => ?_)
  · obtain ⟨hmono, hlen⟩ := ht
    rcases replicaCkpt_cases x t i with h | ⟨e, h⟩
    · rw [h]
      exact ⟨hmono, hlen⟩
    · rw [h, keepCkpt_mono, keepCkpt_ckpts, listSet_eq_modify, List.length_modify]
      exact ⟨hmono, hlen⟩
  · obtain ⟨hmono, hlen⟩ := ht
    rw [replicaCkpt, hc]
    dsimp only
    rw [keepCkpt_ckpts, getD_listSet_same hlen, hmono]
  · rcases replicaCkpt_cases x t i with h | ⟨e, h⟩
    · rw [h]
      exact ht
    · rw [h, keepCkpt_ckpts, getD_listSet_other _ (Ne.symm hi)]
      exact ht

/-- What a replica leaves. -/
theorem applyReplica_shows (x : Replica) (s : State) : (applyReplica x s).mem = s.mem ∧ (applyReplica x s).role = s.role ∧
    (applyReplica x s).get Reg.hhkPairResyncPhase = s.get Reg.hhkPairResyncPhase ∧ (applyReplica x s).prog.active = x.unit ∧
    (applyReplica x s).prog.outVals = x.outVals ∧ (applyReplica x s).ast = x.ast ∧ (applyReplica x s).lsp.marks = s.lsp.marks ∧
    ∀ n c, n < 3 → n < s.pair.ckpts.length → x.ckpts.getD n none = some c →
      (applyReplica x s).pair.ckpts.getD n none = some { c with arrived := s.mono } := by
  obtain ⟨lsp, net, prog, heq, hmarks, hactive, hvals⟩ := applyReplica_eq x s
  rw [heq]
  exact ⟨replicaRegs_mem x s, (State.get_congr _ (replicaRegs x s) rfl _).trans (get_replicaRegs (.inl rfl) x s),
    (State.get_congr _ (replicaRegs x s) rfl _).trans (get_replicaRegs (.inr rfl) x s), hactive, hvals, rfl, hmarks,
    fun n c hn hlen hc => replicaRegs_ckpts hn hlen hc⟩

/-! ### Checkpoints leave (11 R362) -/

theorem sendCkpt_shows (s : State) (i : Nat) : (sendCkpt s i).regs = s.regs ∧ (sendCkpt s i).mem = s.mem ∧
    (sendCkpt s i).pair.ckptSeq = if singletonRuns s i then listSet s.pair.ckptSeq i (fun _ => s.pair.ckptSeq.getD i 0 + 1)
      else s.pair.ckptSeq := by
  unfold sendCkpt
  cases hruns : singletonRuns s i with
  | false => exact ⟨rfl, rfl, rfl⟩
  | true =>
    dsimp only
    rw [if_neg (by decide), if_pos rfl]
    obtain ⟨v, hv⟩ : ∃ v : State, v =
      { s with pair := { s.pair with ckptSeq := listSet s.pair.ckptSeq i (fun _ => s.pair.ckptSeq.getD i 0 + 1) } } := ⟨_, rfl⟩
    rw [← hv]
    have hsends := toPeers_sends "CHECKPOINT" ([i, s.pair.ckptSeq.getD i 0 + 1, frameIndex v.now] ++ (ckptContent i v).map (·.toNat)) v
    obtain ⟨w, hw⟩ : ∃ w, w = toPeers "CHECKPOINT" ([i, s.pair.ckptSeq.getD i 0 + 1, frameIndex v.now] ++
      (ckptContent i v).map (·.toNat)) v := ⟨_, rfl⟩
    rw [← hw] at hsends ⊢
    have hregs : w.regs = s.regs := hsends.regs.trans (by rw [hv])
    have hmem : w.mem = s.mem := hsends.mem.trans (by rw [hv])
    have hseq : w.pair.ckptSeq = listSet s.pair.ckptSeq i (fun _ => s.pair.ckptSeq.getD i 0 + 1) := by rw [hsends.pair, hv]
    split
    · exact ⟨hregs, hmem, hseq⟩
    · exact ⟨hregs, hmem, hseq⟩

/-- A checkpoint advances its own number by one where its singleton runs. -/
theorem sendCkpt_number (s : State) (i : Nat) {n : Nat} (hn : n < s.pair.ckptSeq.length) :
    n < (sendCkpt s i).pair.ckptSeq.length ∧ (sendCkpt s i).pair.ckptSeq.getD n 0 =
      s.pair.ckptSeq.getD n 0 + (if i = n ∧ singletonRuns s n = true then 1 else 0) := by
  obtain ⟨-, -, hseq⟩ := sendCkpt_shows s i
  rw [hseq]
  split
  next hruns =>
    rw [listSet_eq_modify, List.length_modify, ← listSet_eq_modify]
    refine ⟨hn, ?_⟩
    by_cases hi : i = n
    · subst hi
      rw [getD_listSet_same hn, if_pos ⟨rfl, hruns⟩]
    · rw [getD_listSet_other _ (Ne.symm hi), if_neg (by simp [hi]), Nat.add_zero]
  next hidle =>
    refine ⟨hn, ?_⟩
    rw [if_neg, Nat.add_zero]
    rintro ⟨rfl, hruns⟩
    exact hidle hruns

theorem singletonRuns_congr {s t : State} (h : t.regs = s.regs) (n : Nat) : singletonRuns t n = singletonRuns s n :=
  State.on_congr (State.get_congr t s h _)

theorem sendCkpts_shows (s : State) : ((List.range 3).foldl sendCkpt s).regs = s.regs ∧
    ((List.range 3).foldl sendCkpt s).mem = s.mem ∧
    ∀ n, n < 3 → n < s.pair.ckptSeq.length → ((List.range 3).foldl sendCkpt s).pair.ckptSeq.getD n 0 =
      s.pair.ckptSeq.getD n 0 + (if singletonRuns s n then 1 else 0) := by
  obtain ⟨hregs0, hmem0, -⟩ := sendCkpt_shows s 0
  obtain ⟨hregs1, hmem1, -⟩ := sendCkpt_shows (sendCkpt s 0) 1
  obtain ⟨hregs2, hmem2, -⟩ := sendCkpt_shows (sendCkpt (sendCkpt s 0) 1) 2
  have hthree : (List.range 3).foldl sendCkpt s = sendCkpt (sendCkpt (sendCkpt s 0) 1) 2 := rfl
  rw [hthree]
  refine ⟨hregs2.trans (hregs1.trans hregs0), hmem2.trans (hmem1.trans hmem0), fun n hn hlen => ?_⟩
  obtain ⟨hlen0, hnum0⟩ := sendCkpt_number s 0 hlen
  obtain ⟨hlen1, hnum1⟩ := sendCkpt_number (sendCkpt s 0) 1 hlen0
  obtain ⟨-, hnum2⟩ := sendCkpt_number (sendCkpt (sendCkpt s 0) 1) 2 hlen1
  rw [hnum2, hnum1, hnum0, singletonRuns_congr (hregs1.trans hregs0), singletonRuns_congr hregs0]
  obtain rfl | rfl | rfl : n = 0 ∨ n = 1 ∨ n = 2 := by omega
  all_goals simp

end Sys2Proof.Machine
end

section
/-! PROOF. Forwarded requests, resync and checkpoints (04 R139, 11 R359-R362), and the statement on the frames of
Hollyhock. -/

namespace Sys2Proof.Machine

section Frames

variable {h : HhkHdr} {s : State}

/-! ### FORWARD (04 R139) -/

section Forward
variable (hu : frameUsed typeForward h s = true)
include hu

theorem exec_forward : ∃ u, s.Accepts u ∧ ∀ f, exec (.forward h f) s = .next (forwarded h.srcSlot f u) := by
  obtain ⟨u, haccepts, hframe⟩ := onFrame_used hu
  exact ⟨u, haccepts, fun f => congrArg Host.Outcome.next (hframe _)⟩

theorem leads_forward_stage (o : Nat) (b : List Byte) :
    leads (.forward h (.stage o b)) s (fun t => t.role = s.role ∧ objGet t.cfg.staged o = b) := by
  obtain ⟨u, haccepts, hexec⟩ := exec_forward hu
  exact ⟨stageObject o b u, hexec _, (State.get_congr _ u rfl _).trans haccepts.role, objGet_objSet_same u.cfg.staged o b⟩

theorem leads_forward_discard (o : Nat) :
    leads (.forward h (.discard o)) s (fun t => t.role = s.role ∧ objGet t.cfg.staged o = []) := by
  obtain ⟨u, haccepts, hexec⟩ := exec_forward hu
  exact ⟨stageObject o [] u, hexec _, (State.get_congr _ u rfl _).trans haccepts.role, objGet_objSet_same u.cfg.staged o []⟩

theorem leads_forward_settings {o : Nat} (ho : o ≠ objBoot) (k : Nat) (b : List Byte) :
    leads (.forward h (.settings o k b)) s (fun t => t.role = s.role ∧ objGet t.cfg.stored o = b ∧
      t.cfg.next = s.cfg.next ++ [(o, k, b)]) := by
  obtain ⟨u, haccepts, hexec⟩ := exec_forward hu
  obtain ⟨n, e, hwrite, -⟩ := confWrite_eq o b (stageObject o [] u)
  have hset : forwardedSettings o k b u = { confWrite o b (stageObject o [] u) with
      cfg := { (confWrite o b (stageObject o [] u)).cfg with
        next := (confWrite o b (stageObject o [] u)).cfg.next ++ [(o, k, b)] } } := if_neg ho
  refine ⟨forwardedSettings o k b u, hexec _, ?_⟩
  rw [hset, hwrite]
  refine ⟨(State.get_congr _ u rfl _).trans haccepts.role, objGet_objSet_same u.cfg.stored o b, ?_⟩
  rw [← haccepts.cfg]
  rfl

theorem leads_forward_lockFree : leads (.forward h .lockFree) s (fun t => t.role = s.role ∧ t.sec.lock = none ∧
    t.on Reg.secStatusLock = false) := by
  obtain ⟨u, haccepts, hexec⟩ := exec_forward hu
  obtain ⟨v, hv⟩ : ∃ v, v = u.updSec (fun k => { k with lock := none }) := ⟨_, rfl⟩
  have hfree : lockFreed u = v.setBit Reg.secStatusLock false := by rw [hv]; rfl
  have hrole : v.role = u.role := State.get_congr v u (by rw [hv]; rfl) _
  refine ⟨lockFreed u, hexec _, ?_⟩
  rw [hfree]
  refine ⟨(State.get_setBit_off _ _ _ _ (by decide)).trans (hrole.trans haccepts.role), ?_, State.on_setBit_self _ _ _ (by decide)⟩
  rw [State.setBit_sec, hv]
  rfl

end Forward

/-! ### Pages and lines of a resync (11 R359) -/

section Page
variable (hu : frameUsed typeResyncPage h s = true) (a : Nat) (d : List Byte) (rp : Option Replica)
include hu

theorem leads_resyncPage_other (hrole : s.role ≠ roleSyncing) :
    leads (.resyncPage h a d rp) s (fun t => memKept s t ∧ t.pair = s.pair ∧ t.prog = s.prog) := by
  obtain ⟨u, haccepts, hframe⟩ := onFrame_used hu
  refine ⟨u, congrArg Host.Outcome.next ((hframe _).trans (if_neg ?_)), haccepts.memKept, haccepts.pair, haccepts.prog⟩
  rwa [haccepts.role]

/-- The joiner's state with a page applied. -/
def paged (a : Nat) (d : List Byte) (s : State) : State := (s.setBytes a (d.take 4096)).set Reg.hhkPairResyncPhase 1

/-- What comes with a page is applied as well. -/
def withReplica (rp : Option Replica) (s : State) : State := match rp with | some x => applyReplica x s | none => s

omit hu in
theorem paged_shows (hlen : d.length ≤ 4096) (u : State) : (paged a d u).role = u.role ∧ (paged a d u).mono = u.mono ∧
    (paged a d u).pair = u.pair ∧ (paged a d u).lsp = u.lsp ∧ (paged a d u).bytes a d.length = d ∧
    (∀ x, x < a ∨ a + d.length ≤ x → (paged a d u).byte x = u.byte x) ∧
    (paged a d u).get Reg.hhkPairResyncPhase = 1 := by
  have hwhole : d.take 4096 = d := List.take_of_length_le hlen
  obtain ⟨v, hv⟩ : ∃ v, v = u.setBytes a d := ⟨_, rfl⟩
  have hframe : v = { u with mem := v.mem } := hv ▸ State.setBytes_frame d u a
  have hpaged : paged a d u = v.set Reg.hhkPairResyncPhase 1 := by rw [hv, paged, hwhole]
  have hregs : v.regs = u.regs := by rw [hframe]
  have hpair : v.pair = u.pair := by rw [hframe]
  have hmono : v.mono = u.mono := by rw [hframe]
  have hlsp : v.lsp = u.lsp := by rw [hframe]
  have hbyte (x : Nat) : (paged a d u).byte x = v.byte x := by
    rw [hpaged]
    exact memKept_of_mem (State.set_mem ..) x
  refine ⟨?_, ?_, ?_, ?_, ?_, fun x hx => ?_, ?_⟩
  · rw [hpaged]
    exact (State.get_set_off _ _ _ _ (by decide)).trans (State.get_congr v u hregs _)
  · rw [hpaged, State.set_mono, hmono]
  · rw [hpaged, State.set_pair, hpair]
  · rw [hpaged, State.set_lsp, hlsp]
  · rw [State.bytes_congr fun i _ => hbyte (a + i), hv]
    exact State.bytes_setBytes_same u a rfl
  · rw [hbyte, hv]
    exact State.byte_setBytes_other d u a x hx
  · rw [hpaged, State.get_set_self _ _ _ (by decide)]
    rfl

theorem leads_resyncPage (hrole : s.role = roleSyncing) (hlen : d.length ≤ 4096) :
    leads (.resyncPage h a d rp) s (fun t => t.role = s.role ∧ t.bytes a d.length = d ∧
      (∀ x, x < a ∨ a + d.length ≤ x → t.byte x = s.byte x) ∧ t.get Reg.hhkPairResyncPhase = 1 ∧
      (∀ z, rp = some z → t.prog.active = z.unit ∧ t.prog.outVals = z.outVals ∧ t.ast = z.ast ∧ t.lsp.marks = s.lsp.marks ∧
        ∀ n c, n < 3 → n < s.pair.ckpts.length → z.ckpts.getD n none = some c →
          t.pair.ckpts.getD n none = some { c with arrived := s.mono })) := by
  obtain ⟨u, haccepts, hframe⟩ := onFrame_used hu
  obtain ⟨v, hv⟩ : ∃ v, v = paged a d u := ⟨_, rfl⟩
  obtain ⟨hvrole, hvmono, hvpair, hvlsp, hvbytes, hvother, hvphase⟩ := paged_shows a d hlen u
  rw [← hv] at hvrole hvmono hvpair hvlsp hvbytes hvother hvphase
  have hexec : exec (.resyncPage h a d rp) s = .next (withReplica rp v) := by
    refine congrArg Host.Outcome.next ((hframe _).trans ((if_pos (haccepts.role.trans hrole)).trans ?_))
    rw [hv]
    rfl
  refine ⟨withReplica rp v, hexec, ?_⟩
  cases rp with
  | none => exact ⟨hvrole.trans haccepts.role, hvbytes, fun x hx => (hvother x hx).trans (haccepts.bytes x), hvphase,
      fun z hz => by simp at hz⟩
  | some z =>
    obtain ⟨hmem, hzrole, hphase, hactive, hvals, hast, hmarks, hckpts⟩ := applyReplica_shows z v
    have hbyte (x : Nat) : (applyReplica z v).byte x = v.byte x := memKept_of_mem hmem x
    refine ⟨hzrole.trans (hvrole.trans haccepts.role), ?_, fun x hx => (hbyte x).trans ((hvother x hx).trans (haccepts.bytes x)),
      hphase.trans hvphase, fun y hy => ?_⟩
    · exact (State.bytes_congr fun i _ => hbyte (a + i)).trans hvbytes
    · obtain rfl : z = y := Option.some.inj hy
      refine ⟨hactive, hvals, hast, hmarks.trans (by rw [hvlsp, haccepts.lsp]), fun n c hn hlen' hc => ?_⟩
      rw [← haccepts.mono, ← hvmono]
      exact hckpts n c hn (by rw [hvpair, haccepts.pair]; exact hlen') hc

end Page

/-- Q is named with the last lines, or more of them follow. -/
def linesEnd (q : Option Nat) (s : State) : State :=
  match q with
  | some f => { s with pair := { s.pair with qFrame := some f } }.set Reg.hhkPairResyncPhase 3
  | none => s.set Reg.hhkPairResyncPhase 2

theorem linesEnd_shows (q : Option Nat) (s : State) : (linesEnd q s).mem = s.mem ∧ (linesEnd q s).role = s.role ∧
    (linesEnd q s).get Reg.hhkPairResyncPhase = (if q = none then 2 else 3) ∧
    ∀ f, q = some f → (linesEnd q s).pair.qFrame = some f := by
  cases q with
  | none =>
    refine ⟨State.set_mem .., State.get_set_off _ _ _ _ (by decide), ?_, fun f hf => by simp at hf⟩
    exact State.get_set_self _ _ _ (by decide)
  | some f =>
    obtain ⟨v, hv⟩ : ∃ v : State, v = { s with pair := { s.pair with qFrame := some f } } := ⟨_, rfl⟩
    have hend : linesEnd (some f) s = v.set Reg.hhkPairResyncPhase 3 := by rw [hv]; rfl
    rw [hend]
    refine ⟨(State.set_mem ..).trans (by rw [hv]), (State.get_set_off _ _ _ _ (by decide)).trans
      (State.get_congr v s (by rw [hv]) _), State.get_set_self _ _ _ (by decide), fun g hg => ?_⟩
    rw [State.set_pair, hv]
    exact hg

theorem leads_resyncLines (hu : frameUsed typeResyncLines h s = true) (hrole : s.role = roleSyncing)
    (ls : List (Nat × List Byte)) (q : Option Nat) : leads (.resyncLines h ls q) s (fun t => t.role = s.role ∧
      (∀ x, (∀ p ∈ ls, x < p.1 ∨ p.1 + 64 ≤ x) → t.byte x = s.byte x) ∧
      (∀ a d, ls = [(a, d)] → d.length ≤ 64 → t.bytes a d.length = d) ∧
      t.get Reg.hhkPairResyncPhase = (if q = none then 2 else 3) ∧ (∀ f, q = some f → t.pair.qFrame = some f)) := by
  obtain ⟨u, haccepts, hframe⟩ := onFrame_used hu
  obtain ⟨v, hv⟩ : ∃ v, v = ls.foldl (fun s l => s.setBytes l.1 (l.2.take 64)) u := ⟨_, rfl⟩
  obtain ⟨m, hm⟩ := setBytes_lines_frame ls u
  have hvregs : v.regs = u.regs := by rw [hv, hm]
  obtain ⟨hmem, hvrole, hphase, hq⟩ := linesEnd_shows q v
  have hbyte (x : Nat) : (linesEnd q v).byte x = v.byte x := memKept_of_mem hmem x
  have hexec : exec (.resyncLines h ls q) s = .next (linesEnd q v) := by
    refine congrArg Host.Outcome.next ((hframe _).trans ((if_pos (haccepts.role.trans hrole)).trans ?_))
    rw [hv]
    rfl
  refine ⟨linesEnd q v, hexec, hvrole.trans ((State.get_congr v u hvregs _).trans haccepts.role), fun x hx => ?_,
    fun a d hone hlen => ?_, hphase, hq⟩
  · rw [hbyte, hv, setBytes_lines_other ls hx]
    exact haccepts.bytes x
  · rw [State.bytes_congr fun i _ => hbyte (a + i), hv, hone, List.foldl_cons, List.foldl_nil]
    dsimp only
    rw [List.take_of_length_le hlen]
    exact State.bytes_setBytes_same u a rfl

/-! ### A resync that does not end (11 R360) -/

theorem exec_resyncTimeout_idle (hidle : (s.role ≠ roleSyncing ∧ s.pair.joiner = none) ∨ s.mono < s.pair.acceptedAt + 5000000000) :
    exec .resyncTimeout s = .next s := by
  refine congrArg Host.Outcome.next (if_neg ?_)
  rcases hidle with ⟨hrole, hnone⟩ | hearly
  · simp [hrole, hnone]
  · simp [hearly]

/-- An attempt of the resync has failed. -/
def attemptFailed (s : State) : State :=
  { s with pair := { s.pair with acceptedAt := s.mono, attempts := s.pair.attempts + 1, qFrame := none } }

theorem exec_resyncTimeout (hdue : s.role = roleSyncing ∨ s.pair.joiner.isSome = true)
    (hlate : s.pair.acceptedAt + 5000000000 ≤ s.mono) : exec .resyncTimeout s = .next (
      if (attemptFailed s).role = roleSyncing then
        if 3 ≤ (attemptFailed s).pair.attempts then fail 0x1B 0xFF 0xFF true (attemptFailed s)
        else sendJoin ((attemptFailed s).set Reg.hhkPairResyncPhase 0)
      else if 3 ≤ (attemptFailed s).pair.attempts then
        { ((attemptFailed s).set Reg.hhkPairResyncPhase 0) with
          pair := { (attemptFailed s).pair with joiner := none, attempts := 0 } }
      else (attemptFailed s).set Reg.hhkPairResyncPhase 1) := by
  refine congrArg Host.Outcome.next ((if_pos ?_).trans rfl)
  rcases hdue with hdue | hdue <;> simp [hdue, hlate]

theorem attemptFailed_role (s : State) : (attemptFailed s).role = s.role := State.get_congr (attemptFailed s) s rfl _

theorem attemptFailed_mem (s : State) : (attemptFailed s).mem = s.mem := rfl

theorem attemptFailed_pair (s : State) : (attemptFailed s).pair.attempts = s.pair.attempts + 1 ∧
    (attemptFailed s).pair.joiner = s.pair.joiner := ⟨rfl, rfl⟩

section Timeout
variable (hlate : s.pair.acceptedAt + 5000000000 ≤ s.mono)
include hlate

theorem leads_resyncTimeout_third (hrole : s.role = roleSyncing) (hthird : 2 ≤ s.pair.attempts) :
    leads .resyncTimeout s (fun t => memKept s t ∧ hasFailed 0x1B 0xFF t) := by
  obtain ⟨v, hv⟩ : ∃ v, v = attemptFailed s := ⟨_, rfl⟩
  have hexec := exec_resyncTimeout (.inl hrole) hlate
  have hattempts : v.pair.attempts = s.pair.attempts + 1 := hv ▸ (attemptFailed_pair s).1
  have hvmem : v.mem = s.mem := hv ▸ attemptFailed_mem s
  rw [if_pos ((attemptFailed_role s).trans hrole), ← hv, if_pos (by omega)] at hexec
  exact ⟨_, hexec, fun a => (fail_memKept 0x1B 0xFF 0xFF true v a).trans (memKept_of_mem hvmem a),
    fail_hasFailed (by decide) (by decide) 0xFF true v⟩

theorem leads_resyncTimeout_again (hrole : s.role = roleSyncing) (hmore : s.pair.attempts < 2) :
    leads .resyncTimeout s (fun t => memKept s t ∧ t.role = roleSyncing ∧ t.pair.attempts = s.pair.attempts + 1 ∧
      t.get Reg.hhkPairResyncPhase = 0) := by
  obtain ⟨v, hv⟩ : ∃ v, v = attemptFailed s := ⟨_, rfl⟩
  have hexec := exec_resyncTimeout (.inl hrole) hlate
  have hattempts : v.pair.attempts = s.pair.attempts + 1 := hv ▸ (attemptFailed_pair s).1
  have hvrole : v.role = roleSyncing := hv ▸ (attemptFailed_role s).trans hrole
  have hvmem : v.mem = s.mem := hv ▸ attemptFailed_mem s
  rw [← hv, if_pos hvrole, if_neg (by omega)] at hexec
  have hsends := sendJoin_sends (v.set Reg.hhkPairResyncPhase 0)
  refine ⟨_, hexec, memKept_of_mem (hsends.mem.trans ((State.set_mem ..).trans hvmem)), ?_, ?_, ?_⟩
  · exact hsends.role.trans ((State.get_set_off _ _ _ _ (by decide)).trans hvrole)
  · rw [hsends.pair, State.set_pair, hattempts]
  · rw [hsends.get, State.get_set_self _ _ _ (by decide)]
    rfl

theorem leads_resyncTimeout_owner (hrole : s.role ≠ roleSyncing) {j : Nat} (hj : s.pair.joiner = some j) :
    leads .resyncTimeout s (fun t => memKept s t ∧ t.role = s.role ∧
      t.pair.joiner = (if 2 ≤ s.pair.attempts then none else some j)) := by
  obtain ⟨v, hv⟩ : ∃ v, v = attemptFailed s := ⟨_, rfl⟩
  have hexec := exec_resyncTimeout (.inr (by rw [hj]; rfl)) hlate
  obtain ⟨hattempts, hjoiner⟩ := attemptFailed_pair s
  have hvrole : v.role = s.role := hv ▸ attemptFailed_role s
  have hvmem : v.mem = s.mem := hv ▸ attemptFailed_mem s
  rw [← hv] at hexec hattempts hjoiner
  rw [if_neg (by rwa [hvrole])] at hexec
  have hset (n : Nat) : (v.set Reg.hhkPairResyncPhase n).role = s.role :=
    (State.get_set_off _ _ _ _ (by decide)).trans hvrole
  have hmem (n : Nat) : (v.set Reg.hhkPairResyncPhase n).mem = s.mem := (State.set_mem ..).trans hvmem
  by_cases hthird : 2 ≤ s.pair.attempts
  · obtain ⟨w, hw⟩ : ∃ w, w = v.set Reg.hhkPairResyncPhase 0 := ⟨_, rfl⟩
    have hwmem : w.mem = s.mem := hw ▸ hmem 0
    have hwrole : w.role = s.role := hw ▸ hset 0
    rw [if_pos (by omega), ← hw] at hexec
    refine ⟨_, hexec, memKept_of_mem hwmem, (State.get_congr _ w rfl _).trans hwrole, ?_⟩
    rw [if_pos hthird]
  · rw [if_neg (by omega)] at hexec
    refine ⟨_, hexec, memKept_of_mem (hmem 1), hset 1, ?_⟩
    rw [if_neg hthird, State.set_pair, hjoiner, hj]

end Timeout

/-! ### Checkpoints (11 R362) -/

theorem leads_checkpointSend (hheld : s.held = true) (hany : anyStandby s = true) :
    leads .checkpointSend s (fun t => t.regs = s.regs ∧ memKept s t ∧ ∀ n, n < 3 → n < s.pair.ckptSeq.length →
      t.pair.ckptSeq.getD n 0 = s.pair.ckptSeq.getD n 0 + (if singletonRuns s n then 1 else 0)) := by
  obtain ⟨hregs, hmem, hseq⟩ := sendCkpts_shows s
  exact ⟨_, congrArg Host.Outcome.next (if_pos (by simp [hheld, hany])), hregs, memKept_of_mem hmem, hseq⟩

theorem exec_checkpointSend_idle (hheld : s.held = false) : exec .checkpointSend s = .next s :=
  congrArg Host.Outcome.next (if_neg (by simp [hheld]))

theorem storedElsewhere_shows (n : Nat) (d : List Byte) (s : State) : (storedElsewhere n d s).mem = s.mem ∧
    (storedElsewhere n d s).pair = s.pair ∧
    ∀ f : Fld, f.addr ≠ 0x4001C → (storedElsewhere n d s).get f = s.get f := by
  unfold storedElsewhere
  split
  · exact ⟨rfl, rfl, fun _ _ => rfl⟩
  · dsimp only
    exact ⟨State.set_mem .., State.set_pair .., fun f hf => (State.get_of_reg (State.reg_set_other _ _ _ _ hf)).trans
      (State.get_congr _ s rfl f)⟩

section Checkpoint
variable (hu : frameUsed typeCheckpoint h s = true) (n sq fr : Nat) (d : List Byte)
include hu

theorem leads_checkpoint_owner (hheld : s.held = true) :
    leads (.checkpoint h n sq fr d) s (fun t => memKept s t ∧ t.pair = s.pair) := by
  obtain ⟨u, haccepts, hframe⟩ := onFrame_used hu
  exact ⟨u, congrArg Host.Outcome.next ((hframe _).trans (if_neg (by simp [haccepts.held, hheld]))), haccepts.memKept,
    haccepts.pair⟩

theorem leads_checkpoint (hheld : s.held = false) (hn : n < 3) (hlen : n < s.pair.ckpts.length) (hd : d.length ≤ 1048576) :
    leads (.checkpoint h n sq fr d) s (fun t => memKept s t ∧ t.role = s.role ∧
      t.pair.ckpts.getD n none = some ⟨sq, fr, d, s.mono⟩ ∧ t.on (Reg.hhkPairCkptValid n) = true ∧
      t.get (Reg.hhkPairCkptAgeMs n) = 0 ∧ singletonRuns t n = singletonRuns s n) := by
  obtain ⟨u, haccepts, hframe⟩ := onFrame_used hu
  obtain ⟨v, hv⟩ : ∃ v, v = keepCkpt n ⟨sq, fr, d, u.mono⟩ u := ⟨_, rfl⟩
  obtain ⟨w, hw⟩ : ∃ w, w = storedElsewhere n d v := ⟨_, rfl⟩
  obtain ⟨hvalid, hage, hruns⟩ := keepCkpt_shows n ⟨sq, fr, d, u.mono⟩ u
  obtain ⟨hwmem, hwpair, hwget⟩ := storedElsewhere_shows n d v
  have hsends := toPeers_sends "ACK" [n, sq] w
  have hshown {hi lo : Nat} : (toPeers "ACK" [n, sq] w).get ⟨0x80820 + 4 * n, hi, lo⟩ = v.get ⟨0x80820 + 4 * n, hi, lo⟩ :=
    (hsends.get _).trans (hw ▸ hwget _ (by change 0x80820 + 4 * n ≠ 0x4001C; omega))
  have haddr : Reg.hhkPairStatusHhkUp.apart (Reg.hhkPairCkptRunning n) = true := by
    simp only [Fld.apart, Bool.or_eq_true, decide_eq_true_eq]
    simp only [Reg.hhkPairStatusHhkUp, Reg.hhkPairCkptRunning]
    omega
  refine ⟨toPeers "ACK" [n, sq] w, ?_, memKept_of_mem (hsends.mem.trans ?_), hsends.role.trans ?_, ?_, ?_, ?_, ?_⟩
  · exact congrArg Host.Outcome.next ((hframe _).trans ((if_pos (by simp [haccepts.held, hheld, hn, hd])).trans (by rw [hw, hv])))
  · rw [hw, hwmem, hv, keepCkpt_mem, haccepts.mem]
  · rw [hw]
    refine (hwget _ (by decide)).trans ?_
    rw [hv]
    exact (get_keepCkpt (by change 0x10 ≠ 0x80820 + 4 * n; omega) _ _).trans haccepts.role
  · rw [hsends.pair, hw, hwpair, hv, keepCkpt_ckpts, haccepts.pair, getD_listSet_same hlen, haccepts.mono]
  · exact (State.on_congr hshown).trans (by rw [hv]; exact hvalid)
  · exact hshown.trans (by rw [hv]; exact hage)
  · refine (State.on_congr hshown).trans ?_
    rw [hv]
    exact hruns.trans (haccepts.on haddr)

end Checkpoint

end Frames

/-- Settles O59: every frame by its acceptance, a control frame for another member by its relay, and each frame that is
used by its effect on the state after its acceptance. -/
theorem hollyhockFrames : Obligations.HollyhockFrames := by
  unfold Obligations.HollyhockFrames
  intro h s
  refine ⟨fun n k b x ls q rp f tm v c ty hc => ?_, fun sp ok v a b n c hc hu hother => ?_,
    fun hup htwo => leads_heartbeatTx hup htwo, exec_heartbeatTx_down,
    fun gi sl rk ro ta tm hu => ⟨fun hgi => leads_heartbeat_other hu hgi sl rk ro ta tm,
      fun hgi => leads_heartbeat_own hu hgi sl rk ro ta tm⟩,
    fun sp v a b hu hown => ⟨leads_join_other hu hown sp v a b, fun hheld hrole =>
      ⟨leads_join_refused hu hown sp v a b hheld hrole, leads_join_deferred hu hown sp v a b hheld hrole,
        leads_join_accepted hu hown sp v a b hheld hrole⟩⟩,
    fun hu hown => ⟨leads_leave hu hown, leads_failed hu hown, fun ok hnone => leads_ready_idle hu hown hnone ok,
      fun c hc hstate => ⟨leads_ready hu hown hc, leads_ready_refused hu hown hc hstate⟩, leads_ack hu hown,
      leads_taintRelease hu hown⟩,
    fun hu => ⟨fun f => ?_, leads_forward_discard hu, leads_forward_stage hu,
      fun o k b ho => leads_forward_settings hu ho k b, leads_forward_lockFree hu⟩,
    fun a d rp hu => ⟨leads_resyncPage_other hu a d rp, leads_resyncPage hu a d rp⟩,
    fun ls q hu hrole => leads_resyncLines hu hrole ls q, exec_resyncTimeout_idle,
    fun hrole hlate => ⟨leads_resyncTimeout_third hlate hrole, leads_resyncTimeout_again hlate hrole⟩,
    fun hrole hlate j hj => leads_resyncTimeout_owner hlate hrole hj, leads_checkpointSend, exec_checkpointSend_idle,
    fun n sq fr d hu => ⟨leads_checkpoint_owner hu n sq fr d, leads_checkpoint hu n sq fr d⟩⟩
  · have hframe : isFrame c ty h s := by
      simp only [List.mem_cons, Prod.mk.injEq, List.not_mem_nil, or_false] at hc
      rcases hc with ⟨rfl, rfl⟩ | ⟨rfl, rfl⟩ | ⟨rfl, rfl⟩ | ⟨rfl, rfl⟩ | ⟨rfl, rfl⟩ | ⟨rfl, rfl⟩ | ⟨rfl, rfl⟩ | ⟨rfl, rfl⟩ |
        ⟨rfl, rfl⟩ | ⟨rfl, rfl⟩ | ⟨rfl, rfl⟩ | ⟨rfl, rfl⟩ | ⟨rfl, rfl⟩ | ⟨rfl, rfl⟩
      all_goals exact ⟨_, rfl⟩
    exact ⟨exec_badTag hframe, exec_replay hframe, leads_unused hframe⟩
  · have hcontrol : isControl c h s := by
      simp only [List.mem_cons, List.not_mem_nil, or_false] at hc
      rcases hc with rfl | rfl | rfl | rfl | rfl | rfl
      all_goals exact ⟨_, _, rfl⟩
    exact leads_relayed hcontrol hu hother
  · obtain ⟨u, -, hexec⟩ := exec_forward hu
    exact ⟨_, hexec f, trivial⟩

end Sys2Proof.Machine
end

section
/-! SUPPORT. The flags of HHK_PAIR_EVENT through FAILED, a change of role and a cancelled handover (11 R336, R343, R348).
`State.FlagsKept s t` says so of a state `t` that comes from `s`; one lemma per function of the model gives it, and its proof
follows the function's definition. -/

namespace Sys2Proof.Machine

/-- `t` comes from `s` without a write to HHK_PAIR_EVENT. -/
structure State.FlagsKept (s t : State) : Prop where
  reg : t.reg 0x80804 = s.reg 0x80804

/-- Neither the flag nor its counter lies in HHK_PAIR_EVENT. -/
def Ev.offPairEvent (e : Ev) : Bool := e.flag.addr != 0x80804 && e.cnt.all (fun c => c.addr != 0x80804)

namespace State.FlagsKept

variable {s t u : State}

protected theorem refl (s : State) : s.FlagsKept s := ⟨rfl⟩

protected theorem ite {c : Prop} [Decidable c] (ht : s.FlagsKept t) (hu : s.FlagsKept u) :
    s.FlagsKept (if c then t else u) := by
  split <;> assumption

protected theorem foldl {α : Type} {f : State → α → State} {l : List α} (h : s.FlagsKept t)
    (hf : ∀ t, ∀ x ∈ l, s.FlagsKept t → s.FlagsKept (f t x)) : s.FlagsKept (l.foldl f t) := by
  induction l generalizing t with
  | nil => exact h
  | cons x r ih => exact ih (hf t x (by simp) h) fun t y hy => hf t y (by simp [hy])

protected theorem upd (h : s.FlagsKept t) {mem mono freeCtr outbox time mbx pair hhk nvs memi gate fio can cfg ast lsp net prog
    sec pwr bkd pending} :
    s.FlagsKept (State.mk t.regs mem mono freeCtr outbox time mbx pair hhk nvs memi gate fio can cfg ast lsp net prog sec pwr
      bkd pending) := ⟨h.reg⟩

protected theorem set (h : s.FlagsKept t) {f : Fld} {v : Nat} (hf : f.addr ≠ 0x80804) : s.FlagsKept (t.set f v) :=
  ⟨(State.reg_set_other t f v _ hf.symm).trans h.reg⟩

protected theorem setBit (h : s.FlagsKept t) {f : Fld} {b : Bool} (hf : f.addr ≠ 0x80804) :
    s.FlagsKept (t.setBit f b) := h.set hf

protected theorem raise (h : s.FlagsKept t) {e : Ev} (he : e.offPairEvent = true) : s.FlagsKept (t.raise e) := by
  simp only [Ev.offPairEvent, Bool.and_eq_true, bne_iff_ne, ne_eq] at he
  obtain ⟨hflag, hcnt⟩ := he
  refine ⟨(State.reg_raise_other t e _ (Ne.symm hflag) fun c hc => ?_).trans h.reg⟩
  rw [Option.mem_def.mp hc] at hcnt
  exact (Ne.symm (by simpa using hcnt) :)

protected theorem on (h : s.FlagsKept t) {f : Fld} (hf : f.addr = 0x80804) : t.on f = s.on f :=
  State.on_congr (State.get_of_reg (hf ▸ h.reg))

/-! ### Frames of the module (06, 08, 09, 10, 12) -/

protected theorem toPeers (h : s.FlagsKept t) {kind data} : s.FlagsKept (toPeers kind data t) := by
  unfold Machine.toPeers sendNumbered sendBy
  exact .ite h.upd h.upd

protected theorem showStages (h : s.FlagsKept t) : s.FlagsKept (showStages t) := by
  unfold Machine.showStages
  refine .foldl (((h.setBit (by decide)).setBit (by decide)).set (by decide)) fun _ n hn h => ?_
  have hreg : 0x60050 + 4 * n ≠ 0x80804 ∧ 0x60060 + 4 * n ≠ 0x80804 := by
    have := List.mem_range.mp hn
    omega
  exact .ite (h.setBit hreg.1) (.set (.upd (h.setBit hreg.1)) hreg.2)

protected theorem setDrive (h : s.FlagsKept t) {d} : s.FlagsKept (setDrive d t) := .showStages h.upd

protected theorem canFail (h : s.FlagsKept t) {c o reason bitPos time esi} (hc : c < 2) :
    s.FlagsKept (canFail c o reason bitPos time esi t) := by
  have hlog : (Reg.canCtrlLogLastSeq c).addr ≠ 0x80804 := by
    simp only [Reg.canCtrlLogLastSeq]
    omega
  unfold Machine.canFail canLog
  refine .raise (.set (.upd (.upd h)) hlog) ?_
  unfold evTxFail
  split <;> decide

protected theorem canRestrict (h : s.FlagsKept t) : s.FlagsKept (canRestrict t) := by
  unfold Machine.canRestrict canFailPending
  exact (h.foldl fun _ _ hc h => h.foldl fun _ _ _ h => .ite (h.canFail (List.mem_range.mp hc)) h).setBit
    (by decide) |>.setBit (by decide)

protected theorem clearSending (h : s.FlagsKept t) : s.FlagsKept (clearSending t) := by
  unfold Machine.clearSending
  refine .foldl (h.foldl fun _ j hj h => h.setBit ?_) fun _ n hn h => .ite (h.setBit ?_) h
  · have := List.mem_range.mp hj
    simp only [Reg.netGpubSending]
    omega
  · have := List.mem_range.mp hn
    simp only [Reg.astPmuSending]
    omega

protected theorem netTx (h : s.FlagsKept t) {n kind d} : s.FlagsKept (netTx n kind d t) := by
  unfold Machine.netTx Machine.portTx
  exact .ite (.ite (.upd (.ite h.upd h.upd)) (.ite h.upd h.upd)) (.ite h.upd h)

protected theorem closeClients (h : s.FlagsKept t) : s.FlagsKept (closeClients t) := by
  unfold Machine.closeClients
  refine h.foldl fun _ n hn h => .ite h ?_
  have := List.mem_range.mp hn
  refine .netTx (.setBit (h.set ?_) ?_)
  · simp only [Reg.astPmuClients]
    omega
  · simp only [Reg.astPmuSending]
    omega

protected theorem gatesClose (h : s.FlagsKept t) {d} : s.FlagsKept (gatesClose d t) := by
  unfold Machine.gatesClose
  exact (h.setDrive.setBit (by decide)).canRestrict.clearSending.upd

/-! ### Roles and ownership (11) -/

theorem running_addr (n : Nat) (hn : n < 3) : (Reg.hhkPairCkptRunning n).addr ≠ 0x80804 := by
  simp only [Reg.hhkPairCkptRunning]
  omega

protected theorem showPublishing (h : s.FlagsKept t) : s.FlagsKept (showPublishing t) := h.setBit (by decide)

protected theorem stopSingletons (h : s.FlagsKept t) : s.FlagsKept (stopSingletons t) := by
  unfold Machine.stopSingletons
  exact .showPublishing (h.foldl fun _ n hn h => h.setBit (running_addr n (List.mem_range.mp hn)))

protected theorem resumeSingletons (h : s.FlagsKept t) : s.FlagsKept (resumeSingletons t) := by
  unfold Machine.resumeSingletons
  exact .showPublishing (.upd (h.foldl fun _ n hn h => .ite (h.setBit (running_addr n (List.mem_range.mp hn))) h))

protected theorem cancelUnmoved (h : s.FlagsKept t) : s.FlagsKept (cancelUnmoved t) := by
  unfold Machine.cancelUnmoved cancelHandover
  exact .ite h (.resumeSingletons h.upd)

protected theorem disarm (h : s.FlagsKept t) : s.FlagsKept (disarm t) := .setBit h.upd (by decide)

protected theorem releaseOwn (h : s.FlagsKept t) {d} : s.FlagsKept (releaseOwn d t) := by
  unfold Machine.releaseOwn ownRises
  exact .ite (.stopSingletons (.closeClients (.gatesClose (.setBit (.setBit (.upd (h.disarm.setBit (by decide)))
    (by decide)) (by decide))))) h.disarm

protected theorem setRole (h : s.FlagsKept t) {r} : s.FlagsKept (setRole r t) := .ite h ((h.set (by decide)).raise (by decide))

protected theorem followRole (h : s.FlagsKept t) : s.FlagsKept (followRole t) := .ite h h.setDrive

protected theorem followPeers (h : s.FlagsKept t) : s.FlagsKept (followPeers t) := .ite h.followRole h

protected theorem enterRole (h : s.FlagsKept t) {r} : s.FlagsKept (enterRole r t) := by
  unfold Machine.enterRole reviewPairOk
  exact .followRole h.setRole.upd

protected theorem showTriad (h : s.FlagsKept t) : s.FlagsKept (showTriad t) := by
  unfold Machine.showTriad
  exact .ite h ((h.set (by decide)).set (by decide))

/-! ### FAILED (11 R343, 13 R411) -/

protected theorem releaseTick (h : s.FlagsKept t) : s.FlagsKept (releaseTick t) :=
  .ite (.raise (.set (f := Reg.timStatusTickRole) h.upd (by decide)) (by decide)) h.upd

protected theorem nandPut (h : s.FlagsKept t) {p logical data} : s.FlagsKept (nandPut p logical data t) := .ite h h.upd

protected theorem lifetimeAdd (h : s.FlagsKept t) {kind data} : s.FlagsKept (lifetimeAdd kind data t) := by
  unfold Machine.lifetimeAdd nandEntries
  exact .ite h (.ite h (.set (.foldl h.upd fun _ _ _ h => h.nandPut.nandPut) (by decide)))

protected theorem writeBackup (h : s.FlagsKept t) {off bs} : s.FlagsKept (writeBackup off bs t) := by
  unfold Machine.writeBackup putBackup
  refine .set (h.foldl fun _ n hn h => h.set ?_) (by decide)
  simp only [Reg.bkdBytesWord]
  omega

protected theorem enterFailed (h : s.FlagsKept t) {lastFault cls d restart} :
    s.FlagsKept (enterFailed lastFault cls d restart t) := by
  unfold Machine.enterFailed recordLastFault
  exact .toPeers (.writeBackup (.writeBackup (.enterRole (.releaseTick (.stopSingletons (.setDrive (.upd (.releaseOwn
    (.lifetimeAdd h.upd)))))))))

protected theorem recordFault (h : s.FlagsKept t) {cls unit port} : s.FlagsKept (recordFault cls unit port t) := by
  unfold Machine.recordFault
  exact ((((h.set (by decide)).set (by decide)).set (by decide)).set (by decide)).set (by decide)

protected theorem fail (h : s.FlagsKept t) {cls unit port restart} : s.FlagsKept (fail cls unit port restart t) :=
  h.recordFault.enterFailed

protected theorem failOff (h : s.FlagsKept t) {cls restart} : s.FlagsKept (failOff cls restart t) :=
  h.recordFault.enterFailed

end State.FlagsKept

end Sys2Proof.Machine
end

section
/-! PROOF. The lines of OWN, PEER_KILL and PAIR_OK (11 R339-R342). -/

namespace Sys2Proof.Machine

section Lines

variable {s : State}

/-! ### OWN (R339, R340) -/

theorem leads_ownLineFall : leads .ownLineFall s (fun t => memKept s t ∧ t.role = s.role ∧
    t.on Reg.hhkPairStatusOwnLine = true ∧ t.pair = { s.pair with ownHigh := t.pair.ownHigh } ∧
    t.pair.ownHigh = (if s.on Reg.hhkPairStatusOwnLine = true then s.pair.ownHigh else some s.mono)) := by
  refine ⟨ownFalls s, rfl, memKept_of_mem (State.setBit_mem ..), State.get_setBit_off _ _ _ _ (by decide),
    State.on_setBit_self _ _ _ (by decide), ?_, ?_⟩
  · rw [ownFalls, State.setBit_pair]
  · rw [ownFalls, State.setBit_pair]

/-- OWN found high by a module that does not hold it leaves the rest of PAIR_STATUS. -/
theorem on_ownRises_off {f : Fld} (h : Reg.hhkPairStatusOwnLine.apart f = true) (s : State) : (ownRises s).on f = s.on f :=
  on_ownRises_apart s h

theorem on_disarm_off {f : Fld} (h : Reg.hhkPairStatusArmed.apart f = true) (s : State) : (disarm s).on f = s.on f := by
  rw [disarm, on_setBit_apart _ _ (by decide) h, State.on_mk]

theorem role_ownRises (s : State) : (ownRises s).role = s.role :=
  (State.get_setBit_off _ _ _ _ (by decide)).trans (State.get_mk ..)

theorem role_disarm (s : State) : (disarm s).role = s.role :=
  (State.get_setBit_off _ _ _ _ (by decide)).trans (State.get_mk ..)

theorem disarm_armed (s : State) : (disarm s).on Reg.hhkPairStatusArmed = false := State.on_setBit_self _ _ _ (by decide)

theorem ownRises_line (s : State) : (ownRises s).on Reg.hhkPairStatusOwnLine = false := State.on_setBit_self _ _ _ (by decide)

theorem pair_ownRises (s : State) : (ownRises s).pair = { s.pair with ownHigh := some s.mono } := State.setBit_pair ..

theorem pair_disarm (s : State) : (disarm s).pair = { s.pair with claiming := false, longQuiet := false } := State.setBit_pair ..

/-- What the quiet time of OWN finds: a module that does not hold OWN senses it high. -/
def quietSensed (s : State) : State := if s.held then s else ownRises s

theorem quietSensed_shows (s : State) : (quietSensed s).mem = s.mem ∧ (quietSensed s).role = s.role ∧
    (∀ f : Fld, Reg.hhkPairStatusOwnLine.apart f = true → (quietSensed s).on f = s.on f) ∧
    (quietSensed s).on Reg.hhkPairStatusOwnLine = (s.held && s.on Reg.hhkPairStatusOwnLine) := by
  unfold quietSensed
  split
  next hheld => exact ⟨rfl, rfl, fun _ _ => rfl, by rw [hheld, Bool.true_and]⟩
  next hheld =>
    rw [Bool.not_eq_true] at hheld
    exact ⟨State.setBit_mem .., role_ownRises s, fun f hf => on_ownRises_off hf s, by rw [hheld, Bool.false_and, ownRises_line]⟩

theorem exec_quietTimeExpiry (s : State) : exec .quietTimeExpiry s = .next (
    if (quietSensed s).on Reg.hhkPairStatusKillIn then disarm (quietSensed s)
    else if (quietSensed s).on Reg.hhkPairStatusArmed then
      ({ quietSensed s with pair := { (quietSensed s).pair with claiming := true, claimFrom := (quietSensed s).role } } : State).setBit
        Reg.hhkPairStatusArmed false
    else quietSensed s) := rfl

theorem leads_quietTimeExpiry_killed (h : s.on Reg.hhkPairStatusKillIn = true) :
    leads .quietTimeExpiry s (fun t => memKept s t ∧ t.role = s.role ∧ t.pair.claiming = false ∧
      t.on Reg.hhkPairStatusArmed = false ∧
      t.on Reg.hhkPairStatusOwnLine = (s.held && s.on Reg.hhkPairStatusOwnLine)) := by
  obtain ⟨hmem, hrole, hother, hline⟩ := quietSensed_shows s
  refine ⟨disarm (quietSensed s), (exec_quietTimeExpiry s).trans (congrArg Host.Outcome.next (if_pos ?_)),
    memKept_of_mem ((State.setBit_mem ..).trans hmem), (role_disarm _).trans hrole, ?_, disarm_armed _, ?_⟩
  · rw [hother _ (by decide), h]
  · rw [pair_disarm]
  · rw [on_disarm_off (by decide), hline]

theorem leads_quietTimeExpiry_armed (hkill : s.on Reg.hhkPairStatusKillIn = false) (h : s.on Reg.hhkPairStatusArmed = true) :
    leads .quietTimeExpiry s (fun t => memKept s t ∧ t.role = s.role ∧ t.pair.claiming = true ∧ t.pair.claimFrom = s.role ∧
      t.on Reg.hhkPairStatusArmed = false) := by
  obtain ⟨hmem, hrole, hother, -⟩ := quietSensed_shows s
  refine ⟨_, (exec_quietTimeExpiry s).trans (congrArg Host.Outcome.next ((if_neg ?_).trans (if_pos ?_))),
    memKept_of_mem ((State.setBit_mem ..).trans hmem), ?_, ?_, ?_, State.on_setBit_self _ _ _ (by decide)⟩
  · rw [hother _ (by decide), hkill]
    exact Bool.false_ne_true
  · rw [hother _ (by decide), h]
  · exact ((State.get_setBit_off _ _ _ _ (by decide)).trans (State.get_mk ..)).trans hrole
  · rw [State.setBit_pair]
  · rw [State.setBit_pair]
    exact hrole

theorem exec_quietTimeExpiry_unarmed (hkill : s.on Reg.hhkPairStatusKillIn = false) (h : s.on Reg.hhkPairStatusArmed = false) :
    exec .quietTimeExpiry s = .next (quietSensed s) := by
  obtain ⟨-, -, hother, -⟩ := quietSensed_shows s
  rw [exec_quietTimeExpiry, hother _ (by decide), hother _ (by decide), hkill, h, if_neg Bool.false_ne_true,
    if_neg Bool.false_ne_true]

theorem leads_quietTimeExpiry_unarmed (hkill : s.on Reg.hhkPairStatusKillIn = false)
    (h : s.on Reg.hhkPairStatusArmed = false) (hheld : s.held = false) :
    leads .quietTimeExpiry s (fun t => memKept s t ∧ t.role = s.role ∧ t.on Reg.hhkPairStatusOwnLine = false ∧
      t.pair = { s.pair with ownHigh := some s.mono }) := by
  have hsensed : quietSensed s = ownRises s := if_neg (by rw [hheld]; exact Bool.false_ne_true)
  exact ⟨ownRises s, (exec_quietTimeExpiry_unarmed hkill h).trans (by rw [hsensed]), memKept_of_mem (State.setBit_mem ..),
    role_ownRises s, ownRises_line s, pair_ownRises s⟩

/-! ### A fault of OWN (R339) -/

/-- A fault of OWN is noted before the module fails. -/
theorem fail_ownFault {v : State} (hmem : v.mem = s.mem) (hflag : v.on Ev.hhkPairOwnFault.flag = true) :
    memKept s (fail 0x15 0xFF 0xFF false v) ∧ (fail 0x15 0xFF 0xFF false v).on Ev.hhkPairOwnFault.flag = true ∧
      hasFailed 0x15 0xFF (fail 0x15 0xFF 0xFF false v) := by
  refine ⟨fun a => (fail_memKept 0x15 0xFF 0xFF false v a).trans (memKept_of_mem hmem a), ?_,
    fail_hasFailed (by decide) (by decide) ..⟩
  exact ((State.FlagsKept.refl v).fail.on rfl).trans hflag

theorem recordOwn_mem (cause : Nat) (s : State) : (recordOwn cause s).mem = s.mem := rfl

theorem recordOwn_regs (cause : Nat) (s : State) : (recordOwn cause s).regs = s.regs := rfl

theorem on_recordOwn (cause : Nat) (s : State) (f : Fld) : (recordOwn cause s).on f = s.on f :=
  State.on_congr (State.get_congr _ _ (recordOwn_regs cause s) f)

theorem leads_ownFault (h : s.held = true) : leads .ownFault s (fun t => memKept s t ∧ t.on Ev.hhkPairOwnFault.flag = true ∧
    hasFailed 0x15 0xFF t) :=
  ⟨_, congrArg Host.Outcome.next (if_pos h), fail_ownFault ((recordOwn_mem ..).trans (State.raise_mem ..))
    ((on_recordOwn ..).trans (State.on_raise_flag _ _ (by decide)))⟩

/-! ### PEER_KILL (R342) -/

theorem leads_peerKillOutAssert (h : killOutDue s = true) : leads .peerKillOutAssert s (fun t => memKept s t ∧
    t.role = s.role ∧ t.on Reg.hhkPairStatusKillOut = true ∧ t.pair.killDue = false) := by
  refine ⟨_, congrArg Host.Outcome.next (if_pos h), memKept_of_mem (State.setBit_mem ..), ?_,
    State.on_setBit_self _ _ _ (by decide), ?_⟩
  · exact (State.get_setBit_off _ _ _ _ (by decide)).trans (State.get_mk ..)
  · rw [State.setBit_pair]

theorem leads_peerKillIn (h : s.on Reg.hhkPairStatusKillIn = false) : leads .peerKillIn s (fun t => memKept s t ∧
    t.on Ev.hhkPairKilled.flag = true ∧ t.on Reg.hhkPairStatusKillIn = true ∧ t.fio.drive = .off ∧ hasFailed 0x1A 0xFF t) := by
  obtain ⟨v, hv⟩ : ∃ v, v = recordOwn 6 ((s.setBit Reg.hhkPairStatusKillIn true).raise Ev.hhkPairKilled) := ⟨_, rfl⟩
  have hflag : v.on Ev.hhkPairKilled.flag = true := by
    rw [hv, on_recordOwn, State.on_raise_flag _ _ (by decide)]
  have hkill : v.on Reg.hhkPairStatusKillIn = true := by
    rw [hv, on_recordOwn, State.on_raise_off _ _ _ (by decide), State.on_setBit_self _ _ _ (by decide)]
  have hmem : v.mem = s.mem := by rw [hv, recordOwn_mem, State.raise_mem, State.setBit_mem]
  obtain ⟨hfailed, hdrive⟩ := failOff_hasFailed (cls := 0x1A) (by decide) true v
  refine ⟨failOff 0x1A true v, congrArg Host.Outcome.next ((if_neg (by rw [h]; exact Bool.false_ne_true)).trans (by rw [hv])),
    fun a => (failOff_memKept 0x1A true v a).trans (memKept_of_mem hmem a), ?_, ?_, hdrive, hfailed⟩
  · exact ((State.FlagsKept.refl v).failOff.on rfl).trans hflag
  · exact (State.on_congr (get_failOff (by decide) 0x1A true v)).trans hkill

theorem leads_peerKillInRelease : leads .peerKillInRelease s (fun t => memKept s t ∧ t.role = s.role ∧
    t.on Reg.hhkPairStatusKillIn = false ∧ t.pair.pairOkOut = !(decide (s.role = roleNone ∨ s.role = roleFailed))) := by
  obtain ⟨v, hv⟩ : ∃ v, v = s.setBit Reg.hhkPairStatusKillIn false := ⟨_, rfl⟩
  have hrole : v.role = s.role := hv ▸ State.get_setBit_off _ _ _ _ (by decide)
  have hkill : v.on Reg.hhkPairStatusKillIn = false := hv ▸ State.on_setBit_self _ _ _ (by decide)
  refine ⟨reviewPairOk v, congrArg (fun u => Host.Outcome.next (reviewPairOk u)) hv.symm,
    memKept_of_mem ((congrArg State.mem hv).trans (State.setBit_mem ..)), (State.get_mk ..).trans hrole,
    (State.on_mk ..).trans hkill, ?_⟩
  change (!(v.role == roleNone || v.role == roleFailed || v.on Reg.hhkPairStatusKillIn)) = _
  rw [hrole, hkill, Bool.or_false, Bool.decide_or]
  rfl

/-! ### PAIR_OK (R341) -/

theorem leads_pairOkMissing : leads .pairOkMissing s (fun t => memKept s t ∧ t.role = s.role ∧
    t.on Reg.hhkPairStatusPairOkAlive = false ∧
    (s.on Reg.hhkPairStatusPairOkAlive = true → s.on Reg.hhkPairStatusOwnLine = true →
      (∀ m, s.pair.ownHigh = some m → m + 2000 ≤ s.mono) → t.on Ev.hhkPairPairLine.flag = true)) := by
  obtain ⟨v, hv⟩ : ∃ v, v = s.setBit Reg.hhkPairStatusPairOkAlive false := ⟨_, rfl⟩
  refine ⟨v.raiseIf (s.on Reg.hhkPairStatusPairOkAlive && ownStayed v) Ev.hhkPairPairLine, ?_,
    memKept_of_mem ((State.raiseIf_mem ..).trans (by rw [hv, State.setBit_mem])), ?_, ?_, fun halive hline hheld => ?_⟩
  · rw [hv]
    rfl
  · exact (State.get_raiseIf_off _ _ _ _ (by decide)).trans (hv ▸ State.get_setBit_off _ _ _ _ (by decide))
  · exact (State.on_raiseIf_off _ _ _ _ (by decide)).trans (hv ▸ State.on_setBit_self _ _ _ (by decide))
  · refine State.on_raiseIf_self _ _ ?_ (by decide)
    have hline' : v.on Reg.hhkPairStatusOwnLine = true := (hv ▸ State.on_setBit_off _ _ _ _ (by decide) : _ = _).trans hline
    have hpair : v.pair = s.pair := hv ▸ State.setBit_pair ..
    have hmono : v.mono = s.mono := hv ▸ State.setBit_mono ..
    rw [halive, ownStayed, hline', hpair, hmono, Bool.true_and, Bool.true_and]
    cases hown : s.pair.ownHigh with
    | none => rfl
    | some m => exact decide_eq_true (hheld m hown)

theorem leads_pairOkEdge : leads .pairOkEdge s (fun t => memKept s t ∧ t.role = s.role ∧
    t.on Reg.hhkPairStatusPairOkAlive = true) :=
  ⟨_, rfl, memKept_of_mem (State.setBit_mem ..), State.get_setBit_off _ _ _ _ (by decide), State.on_setBit_self _ _ _ (by decide)⟩

end Lines

end Sys2Proof.Machine
end

section
/-! PROOF. The loss of Hollyhock and of the owner, and the wait for a peer (11 R336, R357). -/

namespace Sys2Proof.Machine

section Losses

variable {s : State}

/-! ### The claim logic is armed (R340) -/

theorem arm_shows (h : s.on Reg.hhkPairStatusKillIn = false) : (arm s).mem = s.mem ∧ (arm s).role = s.role ∧
    (arm s).on Reg.hhkPairStatusArmed = true := by
  have heq : arm s = s.setBit Reg.hhkPairStatusArmed true := if_neg (by rw [h]; exact Bool.false_ne_true)
  rw [heq]
  exact ⟨State.setBit_mem .., State.get_setBit_off _ _ _ _ (by decide), State.on_setBit_self _ _ _ (by decide)⟩

theorem arm_role (s : State) : (arm s).role = s.role := by
  unfold arm
  split
  · rfl
  · exact State.get_setBit_off _ _ _ _ (by decide)

theorem arm_line (s : State) : (arm s).on Reg.hhkPairStatusOwnLine = s.on Reg.hhkPairStatusOwnLine := by
  unfold arm
  split
  · rfl
  · exact State.on_setBit_off _ _ _ _ (by decide)

/-! ### No peer for 10 s (R336) -/

/-- A module in role none that waits for peers and has none. -/
def alone (s : State) : Prop :=
  s.role = roleNone ∧ s.sec.fwUp = true ∧ s.pair.left = false ∧ s.pair.peers = [] ∧ s.get Reg.sysPositionGroupId ≤ 11

theorem exec_peerWaitExpiry_other (h : s.role ≠ roleNone) : exec .peerWaitExpiry s = .next s :=
  congrArg Host.Outcome.next (if_pos (by simp [h]))

theorem exec_peerWaitExpiry (h : alone s) : exec .peerWaitExpiry s = .next (
    if s.on Reg.hhkPairStatusOwnLine then enterRole roleAloneStandby (disarm s)
    else if claimEligible s then arm s
    else s) := by
  obtain ⟨hrole, hfw, hleft, hpeers, hgroup⟩ := h
  refine congrArg Host.Outcome.next (if_neg ?_)
  simp [hrole, hfw, hleft, hpeers, hgroup]

theorem leads_peerWaitExpiry_low (h : alone s) (hline : s.on Reg.hhkPairStatusOwnLine = true) :
    leads .peerWaitExpiry s (fun t => memKept s t ∧ t.role = roleAloneStandby ∧ t.held = s.held ∧
      t.on Reg.hhkPairStatusArmed = false) := by
  have hpeered : s.Peered (enterRole roleAloneStandby (disarm s)) := (State.Peered.refl s).disarm.enterRole
  obtain ⟨hrole, hstatus⟩ := enterRole_shows (r := roleAloneStandby) (by decide) (disarm s)
  exact ⟨_, (exec_peerWaitExpiry h).trans (congrArg Host.Outcome.next (if_pos hline)), memKept_of_mem hpeered.mem, hrole,
    hpeered.held, (State.on_congr (hstatus _ rfl)).trans (disarm_armed s)⟩

theorem leads_peerWaitExpiry_high (h : alone s) (hline : s.on Reg.hhkPairStatusOwnLine = false)
    (hkill : s.on Reg.hhkPairStatusKillIn = false) : leads .peerWaitExpiry s (fun t => memKept s t ∧ t.role = roleNone ∧
      t.on Reg.hhkPairStatusArmed = (s.on Reg.hhkPairStatusArmed || ((!s.taint || s.bench) &&
        (s.on Reg.timStatusValid || s.on Reg.sysModeRunNoTime) && s.cfg.absent.isEmpty))) := by
  have hexec : exec .peerWaitExpiry s = .next (if claimEligible s then arm s else s) :=
    (exec_peerWaitExpiry h).trans (congrArg Host.Outcome.next (if_neg (by rw [hline]; exact Bool.false_ne_true)))
  obtain ⟨hmem, hrole, harmed⟩ := arm_shows hkill
  have hnone : s.role = roleNone := h.1
  have heligible : ((!s.taint || s.bench) && (s.on Reg.timStatusValid || s.on Reg.sysModeRunNoTime) &&
      s.cfg.absent.isEmpty) = claimEligible s := rfl
  rw [heligible]
  cases hc : claimEligible s with
  | true =>
    rw [hc, if_pos rfl] at hexec
    exact ⟨arm s, hexec, memKept_of_mem hmem, hrole.trans hnone, by rw [harmed, Bool.or_true]⟩
  | false =>
    rw [hc, if_neg Bool.false_ne_true] at hexec
    exact ⟨s, hexec, memKept_of_mem rfl, hnone, by rw [Bool.or_false]⟩

/-! ### Hollyhock is lost (R357) -/

/-- The loss of both ports is noted and the time reviewed. -/
def hhkGone (s : State) : State :=
  reviewTime { (s.set Reg.hhkPairStatusHhkUp 0).raise Ev.hhkPairHhkLost with
    pair := { ((s.set Reg.hhkPairStatusHhkUp 0).raise Ev.hhkPairHhkLost).pair with peers := [], sigMissRun := 0 } }

theorem linkLost_eq (s : State) : linkLost s =
    if (hhkGone s).role = rolePrimary then followPeers (setRole roleAlone (cancelUnmoved (hhkGone s)))
    else if (hhkGone s).role = roleStandby ∧ (hhkGone s).on Reg.hhkPairStatusOwnLine then
      (enterRole roleAloneStandby (disarm (hhkGone s))).raiseIf
        (!(enterRole roleAloneStandby (disarm (hhkGone s))).on Reg.hhkPairStatusPairOkAlive) Ev.hhkPairPairLine
    else hhkGone s := by
  unfold linkLost hhkGone
  rfl

/-- What stays of the loss of Hollyhock while the roles react. -/
def lossShown (s t : State) : Prop :=
  t.mem = s.mem ∧ t.get Reg.hhkPairStatusHhkUp = 0 ∧ t.held = s.held ∧ t.on Ev.hhkPairHhkLost.flag = true ∧ t.pair.peers = []

theorem hhkGone_shows (s : State) : lossShown s (hhkGone s) ∧ (hhkGone s).role = s.role ∧
    (hhkGone s).on Reg.hhkPairStatusOwnLine = s.on Reg.hhkPairStatusOwnLine := by
  obtain ⟨u, hu⟩ : ∃ u, u = (s.set Reg.hhkPairStatusHhkUp 0).raise Ev.hhkPairHhkLost := ⟨_, rfl⟩
  obtain ⟨v, hv⟩ : ∃ v : State, v = { u with pair := { u.pair with peers := [], sigMissRun := 0 } } := ⟨_, rfl⟩
  have hregs : v.regs = u.regs := by rw [hv]
  have helapses : v.Elapses (hhkGone s) := by
    have heq : hhkGone s = reviewTime v := by rw [hv, hu]; rfl
    exact heq ▸ reviewTime_elapses v
  have hup : u.get Reg.hhkPairStatusHhkUp = 0 := by
    rw [hu, State.get_raise_off _ _ _ (by decide), State.get_set_self _ _ _ (by decide), Nat.zero_mod]
  have hbit {f : Fld} (hf : (Ev.hhkPairHhkLost.apart f && Reg.hhkPairStatusHhkUp.ok && Reg.hhkPairStatusHhkUp.apart f) = true) :
      u.get f = s.get f := by
    simp only [Bool.and_eq_true] at hf
    rw [hu, State.get_raise_off _ _ _ hf.1.1, State.get_set_apart _ _ _ _ hf.1.2 hf.2]
  have hget {f : Fld} (hf : timeless f.addr = true) : (hhkGone s).get f = u.get f :=
    (helapses.get hf).trans (State.get_congr v u hregs f)
  refine ⟨⟨helapses.mem.trans ?_, (hget (by decide)).trans hup, ?_, ?_, ?_⟩, ?_, ?_⟩
  · rw [hv]
    exact (congrArg State.mem hu).trans ((State.raise_mem ..).trans (State.set_mem ..))
  · exact State.on_congr ((hget (by decide)).trans (hbit (by decide)))
  · exact (State.on_congr (hget (by decide))).trans (hu ▸ State.on_raise_flag _ _ (by decide))
  · rw [helapses.pair, hv]
  · exact (hget (by decide)).trans (hbit (by decide))
  · exact State.on_congr ((hget (by decide)).trans (hbit (by decide)))

/-- A frame that leaves the peers, the flags and what PAIR_STATUS shows of Hollyhock. -/
theorem lossShown.of_kept {t u : State} (h : lossShown s t) (hpeered : t.Peered u) (hflags : t.FlagsKept u)
    (hup : u.get Reg.hhkPairStatusHhkUp = t.get Reg.hhkPairStatusHhkUp) : lossShown s u := by
  obtain ⟨hmem, hlost, hheld, hflag, hpeers⟩ := h
  exact ⟨hpeered.mem.trans hmem, hup.trans hlost, hpeered.held.trans hheld, (hflags.on rfl).trans hflag,
    hpeered.peers.trans hpeers⟩

theorem reg_cancelUnmoved {a : Nat} (h : a = 0x10 ∨ a = 0x80800) (s : State) : (cancelUnmoved s).reg a = s.reg a := by
  unfold cancelUnmoved
  split
  · rfl
  · exact reg_cancelHandover h s

protected theorem State.Peered.setRole {t : State} (h : s.Peered t) {r : Nat} : s.Peered (setRole r t) :=
  h.lasts ((State.Lasts.refl t).setRole) (pair_setRole ..) (State.on_congr (get_setRole_beside rfl ..))

protected theorem State.Peered.followPeers {t : State} (h : s.Peered t) : s.Peered (followPeers t) := by
  have hkept := followPeers_kept t
  obtain ⟨hpair, -, -⟩ := hkept.pair rfl
  have hlasts : t.Lasts (Machine.followPeers t) := .ite ((State.Lasts.refl t).followRole) (.refl t)
  exact h.lasts hlasts hpair (State.on_congr (hkept.get_status rfl))

/-- An owner that has lost its peers. -/
theorem loneOwner_shows {t : State} (h : lossShown s t) : lossShown s (followPeers (setRole roleAlone (cancelUnmoved t))) ∧
    (followPeers (setRole roleAlone (cancelUnmoved t))).role = roleAlone := by
  have hpeered : t.Peered (followPeers (setRole roleAlone (cancelUnmoved t))) := (State.Peered.refl t).cancelUnmoved.setRole.followPeers
  have hflags : t.FlagsKept (followPeers (setRole roleAlone (cancelUnmoved t))) :=
    (State.FlagsKept.refl t).cancelUnmoved.setRole.followPeers
  have hkept := followPeers_kept (setRole roleAlone (cancelUnmoved t))
  refine ⟨h.of_kept hpeered hflags ?_, hkept.role.trans (role_setRole (by decide) _)⟩
  exact (hkept.get_status rfl).trans ((get_setRole_beside rfl ..).trans
    (State.get_of_reg (f := Reg.hhkPairStatusHhkUp) (reg_cancelUnmoved (.inr rfl) t)))

/-- A STANDBY that senses OWN and has lost its peers. -/
theorem loneStandby_shows {t : State} (h : lossShown s t) (b : Bool) :
    lossShown s ((enterRole roleAloneStandby (disarm t)).raiseIf b Ev.hhkPairPairLine) ∧
    ((enterRole roleAloneStandby (disarm t)).raiseIf b Ev.hhkPairPairLine).role = roleAloneStandby ∧
    ((enterRole roleAloneStandby (disarm t)).raiseIf b Ev.hhkPairPairLine).on Reg.hhkPairStatusArmed = false := by
  obtain ⟨v, hv⟩ : ∃ v, v = enterRole roleAloneStandby (disarm t) := ⟨_, rfl⟩
  have hpeered : t.Peered v := hv ▸ (State.Peered.refl t).disarm.enterRole
  have hflags : t.FlagsKept v := hv ▸ (State.FlagsKept.refl t).disarm.enterRole
  obtain ⟨hrole, hstatus⟩ := enterRole_shows (r := roleAloneStandby) (by decide) (disarm t)
  rw [← hv] at hrole hstatus ⊢
  have hup : v.get Reg.hhkPairStatusHhkUp = t.get Reg.hhkPairStatusHhkUp :=
    (hstatus _ rfl).trans ((State.get_setBit_off _ _ _ _ (by decide)).trans (State.get_mk ..))
  obtain ⟨hmem, hlost, hheld, hflag, hpeers⟩ := h.of_kept hpeered hflags hup
  refine ⟨⟨(State.raiseIf_mem ..).trans hmem, ?_, ?_, ?_, ?_⟩, ?_, ?_⟩
  · exact (State.get_raiseIf_off _ _ _ _ (by decide)).trans hlost
  · exact (State.on_raiseIf_off _ _ _ _ (by decide)).trans hheld
  · exact (State.on_raiseIf_off _ _ _ _ (by decide)).trans hflag
  · rw [State.raiseIf_pair, hpeers]
  · exact (State.get_raiseIf_off _ _ _ _ (by decide)).trans hrole
  · exact (State.on_raiseIf_off _ _ _ _ (by decide)).trans ((State.on_congr (hstatus _ rfl)).trans (disarm_armed t))

/-- The role of a module that loses Hollyhock. -/
def roleWithoutPeers (s : State) : Nat :=
  if s.role = rolePrimary then roleAlone
  else if s.role = roleStandby ∧ s.on Reg.hhkPairStatusOwnLine = true then roleAloneStandby else s.role

theorem linkLost_shows (s : State) : lossShown s (linkLost s) ∧ (linkLost s).role = roleWithoutPeers s ∧
    (s.role = roleStandby → s.on Reg.hhkPairStatusOwnLine = true → (linkLost s).on Reg.hhkPairStatusArmed = false) := by
  obtain ⟨hshown, hrole, hline⟩ := hhkGone_shows s
  rw [linkLost_eq, roleWithoutPeers, hrole, hline]
  split
  next hprimary =>
    obtain ⟨hlost, halone⟩ := loneOwner_shows hshown
    exact ⟨hlost, halone, fun h => absurd (hprimary.symm.trans h) (by decide)⟩
  next =>
    split
    next hstandby =>
      obtain ⟨hlost, hrole', harmed⟩ := loneStandby_shows hshown
        (!(enterRole roleAloneStandby (disarm (hhkGone s))).on Reg.hhkPairStatusPairOkAlive)
      exact ⟨hlost, hrole', fun _ _ => harmed⟩
    next hother => exact ⟨hshown, hrole, fun h h' => absurd ⟨h, h'⟩ hother⟩

theorem get_showTriad {f : Fld} (hf : f.addr = 0x80800) (s : State) : (showTriad s).get f = s.get f := by
  unfold showTriad
  extract_lets inStep own m master
  have haddr : Reg.hhkTriadInStep.addr ≠ f.addr ∧ Reg.hhkTriadMasterRank.addr ≠ f.addr := by
    rw [hf]
    decide
  split
  · rfl
  · exact (State.get_set_apart _ _ _ _ rfl (Fld.apart_of_addr haddr.2)).trans
      (State.get_set_apart _ _ _ _ rfl (Fld.apart_of_addr haddr.1))

theorem leads_hollyhockLost : leads .hollyhockLost s (fun t => memKept s t ∧ t.get Reg.hhkPairStatusHhkUp = 0 ∧
    t.held = s.held ∧ t.on Ev.hhkPairHhkLost.flag = true ∧ t.pair.peers = [] ∧ t.role =
      (if s.role = rolePrimary then roleAlone
        else if s.role = roleStandby ∧ s.on Reg.hhkPairStatusOwnLine = true then roleAloneStandby else s.role) ∧
    (s.role = roleStandby → s.on Reg.hhkPairStatusOwnLine = true → t.on Reg.hhkPairStatusArmed = false)) := by
  obtain ⟨hshown, hrole, harmed⟩ := linkLost_shows s
  have hpeered : (linkLost s).Peered (showTriad (linkLost s)) := (State.Peered.refl _).showTriad
  have hflags : (linkLost s).FlagsKept (showTriad (linkLost s)) := (State.FlagsKept.refl _).showTriad
  obtain ⟨hmem, hlost, hheld, hflag, hpeers⟩ := hshown.of_kept hpeered hflags (get_showTriad rfl _)
  exact ⟨_, rfl, memKept_of_mem hmem, hlost, hheld, hflag, hpeers, (showTriad_role _).trans hrole,
    fun h h' => (State.on_congr (get_showTriad rfl _)).trans (harmed h h')⟩

/-! ### A SYNCING module loses its owner (R336) -/

/-- A module that knows no owner keeps its role and its sense of OWN. -/
theorem joinOrClaim_unowned (h : s.pair.peers.any (fun p => p.role == rolePrimary || p.role == roleAlone) = false) :
    (joinOrClaim s).role = s.role ∧ (joinOrClaim s).on Reg.hhkPairStatusOwnLine = s.on Reg.hhkPairStatusOwnLine := by
  have harm (c : Prop) [Decidable c] : (if c then arm s else s).role = s.role ∧
      (if c then arm s else s).on Reg.hhkPairStatusOwnLine = s.on Reg.hhkPairStatusOwnLine := by
    split
    · exact ⟨arm_role s, arm_line s⟩
    · exact ⟨rfl, rfl⟩
  unfold joinOrClaim
  rw [h, if_neg Bool.false_ne_true]
  split
  · exact ⟨rfl, rfl⟩
  · split
    · exact harm _
    · split
      · exact ⟨rfl, rfl⟩
      · split
        · exact harm _
        · obtain ⟨v, hv⟩ : ∃ v : State, v = { s with pair := { s.pair with waiting := true } } := ⟨_, rfl⟩
          have hregs : v.regs = s.regs := by rw [hv]
          rw [← hv]
          exact ⟨(role_disarm v).trans (State.get_congr _ _ hregs _),
            (on_disarm_off (by decide) v).trans (State.on_congr (State.get_congr _ _ hregs _))⟩

/-- The module has left the owner it resynced from. -/
def ownerForgotten (s : State) : State :=
  { s.set Reg.hhkPairResyncPhase 0 with pair := { s.pair with
    peers := s.pair.peers.filter (fun p => p.role != rolePrimary && p.role != roleAlone) } }

theorem exec_ownerLost (s : State) : exec .ownerLost s = .next (
    if (ownRises s).role = roleSyncing then
      joinOrClaim (reviewTime (ownerForgotten (enterRole roleNone
        { ownRises s with pair := { (ownRises s).pair with attempts := 0, qFrame := none } })))
    else ownRises s) := rfl

theorem ownerForgotten_shows (s : State) : (ownerForgotten s).mem = s.mem ∧ (ownerForgotten s).role = s.role ∧
    (ownerForgotten s).on Reg.hhkPairStatusOwnLine = s.on Reg.hhkPairStatusOwnLine ∧
    (ownerForgotten s).pair.peers.any (fun p => p.role == rolePrimary || p.role == roleAlone) = false := by
  obtain ⟨u, hu⟩ : ∃ u, u = s.set Reg.hhkPairResyncPhase 0 := ⟨_, rfl⟩
  have hmem : u.mem = s.mem := by rw [hu, State.set_mem]
  have hget {f : Fld} (hf : (Reg.hhkPairResyncPhase.ok && Reg.hhkPairResyncPhase.apart f) = true) : u.get f = s.get f := by
    rw [hu, State.get_set_off _ _ _ _ hf]
  unfold ownerForgotten
  rw [← hu]
  refine ⟨hmem, (State.get_mk ..).trans (hget (by decide)), (State.on_mk ..).trans (State.on_congr (hget (by decide))), ?_⟩
  change (s.pair.peers.filter (fun p => p.role != rolePrimary && p.role != roleAlone)).any _ = false
  rw [List.any_eq_false]
  intro p hp
  have hrole := (List.mem_filter.mp hp).2
  simp only [Bool.and_eq_true, bne_iff_ne] at hrole
  simp [hrole]

theorem leads_ownerLost : leads .ownerLost s (fun t => memKept s t ∧ t.on Reg.hhkPairStatusOwnLine = false ∧
    t.role = (if s.role = roleSyncing then roleNone else s.role)) := by
  refine ⟨_, exec_ownerLost s, ?_⟩
  obtain ⟨u, hu⟩ : ∃ u, u = ownRises s := ⟨_, rfl⟩
  have hmem : u.mem = s.mem := hu ▸ State.setBit_mem ..
  have hrole : u.role = s.role := hu ▸ role_ownRises s
  have hline : u.on Reg.hhkPairStatusOwnLine = false := hu ▸ ownRises_line s
  rw [← hu, hrole]
  split
  next =>
    obtain ⟨v, hv⟩ : ∃ v : State, v = { u with pair := { u.pair with attempts := 0, qFrame := none } } := ⟨_, rfl⟩
    have hvline : v.on Reg.hhkPairStatusOwnLine = false :=
      (State.on_congr (State.get_congr v u (by rw [hv]) _)).trans hline
    obtain ⟨w, hw⟩ : ∃ w, w = enterRole roleNone v := ⟨_, rfl⟩
    obtain ⟨hnone, hstatus⟩ := enterRole_shows (r := roleNone) (by decide) v
    rw [← hw] at hnone hstatus
    have hwmem : w.mem = v.mem := hw ▸ ((State.Peered.refl v).enterRole).mem
    obtain ⟨x, hx⟩ : ∃ x, x = ownerForgotten w := ⟨_, rfl⟩
    obtain ⟨hxmem, hxrole, hxline, hxpeers⟩ := ownerForgotten_shows w
    rw [← hx] at hxmem hxrole hxline hxpeers
    have helapses := reviewTime_elapses x
    obtain ⟨hrole', hline'⟩ := joinOrClaim_unowned (s := reviewTime x) (by rw [helapses.pair, hxpeers])
    have hjmem := ((State.Peered.refl (reviewTime x)).joinOrClaim).mem
    rw [← hv, ← hw, ← hx]
    refine ⟨memKept_of_mem (hjmem.trans (helapses.mem.trans (hxmem.trans (hwmem.trans (by rw [hv]; exact hmem))))), ?_, ?_⟩
    · exact hline'.trans (helapses.on.trans (hxline.trans ((State.on_congr (hstatus _ rfl)).trans hvline)))
    · exact hrole'.trans (helapses.role.trans (hxrole.trans hnone))
  next => exact ⟨memKept_of_mem hmem, hline, hrole⟩

end Losses

end Sys2Proof.Machine
end

section
/-! SUPPORT. What a module that has taken OWN keeps while it opens its gates, shows what it sends and releases the frame (11 R339,
08 R264): memory, the role, OWN and its interval, the drive of its stages and its peers. `State.Gated own s t` says so of a state
`t` that comes from `s`, and where `own`, of the record of the pair too; one lemma per function of the model gives it, and its
proof follows the function's definition. -/

namespace Sys2Proof.Machine

/-- The registers of MODE, ROLE, PAIR_STATUS and the no-owner interval. -/
def claimRegs : List Nat := [0xC, 0x10, 0x80800, 0x80810]

/-- The field lies in none of those registers and not at the drive of LSP_CLK. -/
def Fld.offClaim (f : Fld) : Bool := f.ok && !claimRegs.contains f.addr && f.apart Reg.lspStatusClkDrive

/-- Neither the flag nor its counter lies there. -/
def Ev.offClaim (e : Ev) : Bool := !claimRegs.contains e.flag.addr && e.cnt.all (fun c => !claimRegs.contains c.addr) &&
  e.apart Reg.lspStatusClkDrive

/-- `t` comes from `s` without a write to memory, to those registers, to the drive of the stages and of LSP_CLK, to the peers and
the count of takeovers, nor, where `own`, to the record of the pair. -/
structure State.Gated (own : Bool) (s t : State) : Prop where
  mem : t.mem = s.mem
  reg : ∀ a ∈ claimRegs, t.reg a = s.reg a
  drive : t.fio.drive = s.fio.drive
  clock : t.on Reg.lspStatusClkDrive = s.on Reg.lspStatusClkDrive
  peers : t.pair.peers = s.pair.peers
  takeovers : t.pair.takeovers = s.pair.takeovers
  pair : own = true → t.pair = s.pair

namespace State.Gated

variable {own : Bool} {s t u : State}

protected theorem refl (s : State) : s.Gated own s := ⟨rfl, fun _ _ => rfl, rfl, rfl, rfl, rfl, fun _ => rfl⟩

protected theorem trans (h : s.Gated own t) (h' : t.Gated own u) : s.Gated own u where
  mem := h'.mem.trans h.mem
  reg a ha := (h'.reg a ha).trans (h.reg a ha)
  drive := h'.drive.trans h.drive
  clock := h'.clock.trans h.clock
  peers := h'.peers.trans h.peers
  takeovers := h'.takeovers.trans h.takeovers
  pair ho := (h'.pair ho).trans (h.pair ho)

protected theorem ite {c : Prop} [Decidable c] (ht : s.Gated own t) (hu : s.Gated own u) : s.Gated own (if c then t else u) := by
  split <;> assumption

protected theorem foldl {α : Type} {f : State → α → State} {l : List α} (h : s.Gated own t)
    (hf : ∀ t, ∀ x ∈ l, s.Gated own t → s.Gated own (f t x)) : s.Gated own (l.foldl f t) := by
  induction l generalizing t with
  | nil => exact h
  | cons x r ih => exact ih (hf t x (by simp) h) fun t y hy => hf t y (by simp [hy])

protected theorem upd (h : s.Gated own t) {mono freeCtr outbox time mbx hhk nvs memi gate can cfg ast lsp net prog sec pwr bkd
    pending} :
    s.Gated own (State.mk t.regs t.mem mono freeCtr outbox time mbx t.pair hhk nvs memi gate t.fio can cfg ast lsp net prog sec
      pwr bkd pending) := ⟨h.mem, h.reg, h.drive, h.clock, h.peers, h.takeovers, h.pair⟩

/-- What else the pair keeps does not matter. -/
protected theorem updPair (h : s.Gated false t) {p : PairSt} (hp : p.peers = t.pair.peers)
    (hk : p.takeovers = t.pair.takeovers) : s.Gated false { t with pair := p } :=
  ⟨h.mem, h.reg, h.drive, h.clock, hp.trans h.peers, hk.trans h.takeovers, fun ho => absurd ho Bool.false_ne_true⟩

protected theorem set (h : s.Gated own t) {f : Fld} {v : Nat} (hf : f.offClaim = true) : s.Gated own (t.set f v) := by
  simp only [Fld.offClaim, Bool.and_eq_true, Bool.not_eq_true', List.contains_eq_mem, decide_eq_false_iff_not] at hf
  obtain ⟨⟨hok, haddr⟩, hclock⟩ := hf
  refine ⟨(State.set_mem ..).trans h.mem, fun a ha => (State.reg_set_other t f v a ?_).trans (h.reg a ha),
    (congrArg FioSt.drive (State.set_fio ..)).trans h.drive,
    (State.on_congr (State.get_set_apart _ _ _ _ hok hclock)).trans h.clock, ?_, ?_, fun ho => (State.set_pair ..).trans (h.pair ho)⟩
  · rintro rfl
    exact haddr ha
  · rw [State.set_pair, h.peers]
  · rw [State.set_pair, h.takeovers]

protected theorem setBit (h : s.Gated own t) {f : Fld} {b : Bool} (hf : f.offClaim = true) :
    s.Gated own (t.setBit f b) := h.set hf

protected theorem bump (h : s.Gated own t) {f : Fld} {n : Nat} (hf : f.offClaim = true) :
    s.Gated own (t.bump f n) := h.set hf

protected theorem raise (h : s.Gated own t) {e : Ev} (he : e.offClaim = true) : s.Gated own (t.raise e) := by
  simp only [Ev.offClaim, Bool.and_eq_true, Bool.not_eq_true', List.contains_eq_mem, decide_eq_false_iff_not] at he
  obtain ⟨⟨hflag, hcnt⟩, hclock⟩ := he
  refine ⟨(State.raise_mem ..).trans h.mem, fun a ha => (State.reg_raise_other t e a ?_ fun c hc => ?_).trans (h.reg a ha),
    (congrArg FioSt.drive (State.raise_fio ..)).trans h.drive, (State.on_congr (State.get_raise_off _ _ _ hclock)).trans h.clock,
    ?_, ?_, fun ho => (State.raise_pair ..).trans (h.pair ho)⟩
  · rintro rfl
    exact hflag ha
  · rintro rfl
    rw [Option.mem_def.mp hc] at hcnt
    exact absurd ha (by simpa using hcnt)
  · rw [State.raise_pair, h.peers]
  · rw [State.raise_pair, h.takeovers]

protected theorem raiseIf (h : s.Gated own t) {b : Bool} {e : Ev} (he : e.offClaim = true) :
    s.Gated own (t.raiseIf b e) := .ite (h.raise he) h

protected theorem get (h : s.Gated own t) {f : Fld} (hf : f.addr ∈ claimRegs) : t.get f = s.get f :=
  State.get_of_reg (h.reg _ hf)

protected theorem on (h : s.Gated own t) {f : Fld} (hf : f.addr ∈ claimRegs) : t.on f = s.on f :=
  State.on_congr (h.get hf)

protected theorem role (h : s.Gated own t) : t.role = s.role := h.get (f := Reg.sysRoleRole) (by decide)

protected theorem held (h : s.Gated own t) : t.held = s.held := h.on (f := Reg.hhkPairStatusOwnHeld) (by decide)

protected theorem triad (h : s.Gated own t) : t.triad = s.triad := by
  rw [State.triad, State.triad, h.get (by decide)]

/-- The drive that the role gives reads the role, OWN, PEER_KILL_IN and the peers. -/
protected theorem roleDrive (h : s.Gated own t) : roleDrive t = roleDrive s := by
  rw [Machine.roleDrive, Machine.roleDrive, h.on (f := Reg.hhkPairStatusKillIn) (by decide), h.held, h.triad, h.role, anyStandby, anyStandby, h.peers]

/-- A register of an indexed block between ROLE and PAIR_STATUS, beside LSP_STATUS. -/
theorem offClaim_block {a hi lo : Nat} (ha : 0x10 < a ∧ a < 0x80800 ∧ a ≠ 0x40004) (hbits : (decide (lo ≤ hi) && decide (hi < 32)) = true) :
    Fld.offClaim ⟨a, hi, lo⟩ = true := by
  have hclock : Fld.apart ⟨a, hi, lo⟩ Reg.lspStatusClkDrive = true := Fld.apart_of_addr ha.2.2
  have hregs : a ∉ claimRegs := by
    simp only [claimRegs, List.mem_cons, List.not_mem_nil, or_false]
    omega
  simp [Fld.offClaim, Fld.ok, hclock, hregs]
  simpa using hbits

/-! ### Frames of the module (06, 08, 12) -/

protected theorem netTx (h : s.Gated own t) {n kind d} : s.Gated own (netTx n kind d t) := by
  unfold Machine.netTx Machine.portTx
  exact .ite (.ite (.upd (.ite h.upd h.upd)) (.ite h.upd h.upd)) (.ite h.upd h)

protected theorem closeClients (h : s.Gated own t) : s.Gated own (closeClients t) := by
  unfold Machine.closeClients
  refine h.foldl fun _ n hn h => .ite h ?_
  have haddr : 0x10 < 0x30300 + 4 * n ∧ 0x30300 + 4 * n < 0x80800 ∧ 0x30300 + 4 * n ≠ 0x40004 := by
    have := List.mem_range.mp hn
    omega
  exact .netTx (.setBit (h.set (offClaim_block haddr rfl)) (offClaim_block haddr rfl))

protected theorem showPmus (h : s.Gated own t) : s.Gated own (showPmus t) := by
  unfold Machine.showPmus
  refine h.foldl fun _ n hn h => ?_
  have haddr : 0x10 < 0x30300 + 4 * n ∧ 0x30300 + 4 * n < 0x80800 ∧ 0x30300 + 4 * n ≠ 0x40004 := by
    have := List.mem_range.mp hn
    omega
  exact .setBit (.setBit (h.setBit (offClaim_block haddr rfl)) (offClaim_block haddr rfl)) (offClaim_block haddr rfl)

theorem gpub_addr {n : Nat} (hn : n < 32) (k : Nat) (hk : k ≤ 0x480) :
    0x10 < 0x50000 + k + 4 * n ∧ 0x50000 + k + 4 * n < 0x80800 ∧ 0x50000 + k + 4 * n ≠ 0x40004 := by omega

protected theorem showSending (h : s.Gated own t) : s.Gated own (showSending t) := by
  unfold Machine.showSending
  exact h.foldl fun _ n hn h => h.setBit (offClaim_block (gpub_addr (List.mem_range.mp hn) 0x400 (by decide)) rfl)

protected theorem showTriad (h : s.Gated own t) : s.Gated own (showTriad t) := by
  unfold Machine.showTriad
  exact .ite h ((h.set (by decide)).set (by decide))

/-! ### Singletons and the event log (11 R348, R361-R363, 17 R489) -/

theorem running_offClaim {n : Nat} : (Reg.hhkPairCkptRunning n).offClaim = true := by
  have hclock : (Reg.hhkPairCkptRunning n).apart Reg.lspStatusClkDrive = true := by
    refine Fld.apart_of_addr ?_
    simp only [Reg.hhkPairCkptRunning, Reg.lspStatusClkDrive]
    omega
  have hregs : (Reg.hhkPairCkptRunning n).addr ∉ claimRegs := by
    simp only [claimRegs, Reg.hhkPairCkptRunning, List.mem_cons, List.not_mem_nil, or_false]
    omega
  simp [Fld.offClaim, hclock, hregs]
  simp [Reg.hhkPairCkptRunning, Fld.ok]

protected theorem showPublishing (h : s.Gated own t) : s.Gated own (showPublishing t) := h.setBit (by decide)

protected theorem resumeSingletons (h : s.Gated false t) : s.Gated false (resumeSingletons t) := by
  unfold Machine.resumeSingletons
  exact .showPublishing (.updPair (h.foldl fun _ _ _ h => .ite (h.setBit running_offClaim) h) (by rfl) (by rfl))

protected theorem cancelHandover (h : s.Gated false t) : s.Gated false (cancelHandover t) := .resumeSingletons (h.updPair (by rfl) (by rfl))

protected theorem restoreCkpt (h : s.Gated own t) {n : Nat} {c : List Byte} : s.Gated own (restoreCkpt n c t) := by
  unfold Machine.restoreCkpt
  split
  · exact h.upd
  · exact h.upd
  · exact h.upd

protected theorem startSingletons (h : s.Gated false t) : s.Gated false (startSingletons t) := by
  unfold Machine.startSingletons
  refine .ite h (.showPublishing (.foldl (h.updPair (by rfl) (by rfl)) fun _ _ _ h => .ite h (.setBit ?_ running_offClaim)))
  split
  · exact h.restoreCkpt
  · exact h

protected theorem logStore (h : s.Gated own t) {source severity code engine data} :
    s.Gated own (logStore source severity code engine data t) := by
  unfold Machine.logStore Machine.flushLog
  exact .set (.ite (.ite h.upd h.upd) h.upd) (by decide)

protected theorem fwLog (h : s.Gated own t) {source data} : s.Gated own (fwLog source data t) := by
  unfold Machine.fwLog Machine.logEvent
  exact .ite (.logStore h.upd) (.ite (.raise (.set (f := Reg.nvsLogSuppressed) h.upd (by decide)) (by decide))
    (.ite (.logStore h.upd) (.logStore (.logStore h.upd))))

/-! ### The release of the frame (02 R61, 08 R261-R268, 06 R209) -/

theorem restorePub_gated (u : LoadUnit) (j : Nat) (vals : List (List Byte)) (s : State) : s.Gated own (restorePub u j vals s) := by
  unfold restorePub
  exact (State.Gated.refl s).foldl fun _ _ _ h => by
    split
    · exact h.upd
    · exact h

protected theorem undoPubs (h : s.Gated own t) {mask : Nat} (hmask : ∀ j, bitOf mask j = true → j < 32) :
    s.Gated own (undoPubs mask t) := by
  unfold Machine.undoPubs
  refine h.foldl fun v p hp h => .set (.upd ?_)
    (offClaim_block (gpub_addr (hmask p.1 (List.mem_filter.mp hp).2) 0x480 (by decide)) rfl)
  split
  · exact .ite (h.trans (restorePub_gated ..)) h
  · exact h

protected theorem sendPub (h : s.Gated own t) {u : LoadUnit} {j tal : Nat} (hj : j < 32) : s.Gated own (sendPub u t j tal) := by
  unfold Machine.sendPub
  have haddr := gpub_addr hj 0x400 (by decide)
  exact .setBit (.bump (h.foldl fun _ _ _ h => h.netTx) (offClaim_block haddr rfl)) (offClaim_block haddr rfl)

protected theorem releasePubs (h : s.Gated own t) {u : LoadUnit} (hd : ∀ j, bitOf t.net.discards j = true → j < 32) :
    s.Gated own (releasePubs u t) := by
  unfold Machine.releasePubs
  refine .undoPubs (h.foldl fun _ j hj h => ?_) hd
  have hj := List.mem_range.mp hj
  split
  · exact .ite (h.setBit (offClaim_block (gpub_addr hj 0x400 (by decide)) rfl)) (h.sendPub hj)
  · exact h

protected theorem sendReport (h : s.Gated own t) {r : WfReport} : s.Gated own (sendReport r t) := by
  unfold Machine.sendReport
  exact h.foldl fun _ _ _ h => h.netTx

protected theorem releaseReports (h : s.Gated own t) : s.Gated own (releaseReports t) := by
  unfold Machine.releaseReports Machine.publishReport
  exact .ite (.foldl h.upd fun _ _ _ h => .sendReport h.upd) h.upd

protected theorem sendReports (h : s.Gated own t) {udp : Bool} : s.Gated own (sendReports udp t) := by
  unfold Machine.sendReports
  refine h.foldl fun _ _ _ h => .ite ?_ h
  split
  · exact h.netTx
  · exact h

protected theorem countDiscards (h : s.Gated own t) {u : LoadUnit} : s.Gated own (countDiscards u t) := by
  unfold Machine.countDiscards
  exact h.foldl fun _ _ _ h => .ite h.upd h

end State.Gated

/-! ### The discards of a frame (04 R132) -/

/-- Every bit of the bitmap is of a publication. -/
def ofPubs (m : Nat) : Prop := ∀ j, bitOf m j = true → j < 32

theorem ofPubs_bitmap (f : Nat → Bool) : ofPubs (bitmap 32 f) := fun j h => by
  rw [bitOf_bitmap, Bool.and_eq_true, decide_eq_true_eq] at h
  exact h.1

theorem ofPubs_foldl {α : Type} {f : Nat → α → Nat} (hf : ∀ m x, ofPubs m → ofPubs (f m x)) :
    ∀ (l : List α) {m : Nat}, ofPubs m → ofPubs (l.foldl f m)
  | [], _, h => h
  | x :: l, _, h => ofPubs_foldl hf l (hf _ x h)

theorem discardsOf_ofPubs (s : State) (u : LoadUnit) : ofPubs (discardsOf s u) := by
  unfold discardsOf
  refine ofPubs_foldl (fun m n hm => ?_) _ (fun j h => ?_)
  · dsimp only
    split
    · exact hm
    · exact ofPubs_foldl (fun _ _ _ => ofPubs_bitmap _) _ hm
  · simp [bitOf] at h

namespace State.Gated

variable {own : Bool} {s t : State}

/-- What the periods of the frame discard is counted, and the publications leave without it. -/
protected theorem discarded (h : s.Gated own t) (u : LoadUnit) :
    s.Gated own (countDiscards u (t.updNet (fun x => { x with discards := discardsOf t u }))) ∧
    (countDiscards u (t.updNet (fun x => { x with discards := discardsOf t u }))).net.discards = discardsOf t u ∧
    (countDiscards u (t.updNet (fun x => { x with discards := discardsOf t u }))).prog.active = t.prog.active := by
  refine ⟨.countDiscards h.upd, ?_, ?_⟩
  · unfold Machine.countDiscards
    rw [foldl_keeps (fun v : State => v.net.discards)]
    · rfl
    · intro v n
      dsimp only
      split <;> rfl
  · unfold Machine.countDiscards
    rw [foldl_keeps (fun v : State => v.prog.active)]
    · rfl
    · intro v n
      dsimp only
      split <;> rfl

protected theorem releaseFrame (h : s.Gated own t) : s.Gated own (releaseFrame t) := by
  unfold Machine.releaseFrame Machine.releaseTraffic
  refine .ite h (.ite (.sendReports (.releaseReports ?_)) h.sendReports)
  cases hactive : t.prog.active with
  | none =>
    dsimp only
    rw [hactive]
    exact h
  | some u =>
    obtain ⟨hgated, hdiscards, hsame⟩ := h.discarded u
    dsimp only
    rw [hsame, hactive]
    exact hgated.releasePubs fun j hj => discardsOf_ofPubs t u j (hdiscards ▸ hj)

end State.Gated

end Sys2Proof.Machine
end

section
/-! PROOF. The confirmation of a claim (11 R339, R342, R344, R348, 08 R264). -/

namespace Sys2Proof.Machine

namespace State.Gated

variable {own : Bool} {s t : State}

protected theorem updFio (h : s.Gated own t) {x : FioSt} (hx : x.drive = t.fio.drive) :
    s.Gated own { t with fio := x } := ⟨h.mem, h.reg, hx.trans h.drive, h.clock, h.peers, h.takeovers, h.pair⟩

protected theorem showStages (h : s.Gated own t) : s.Gated own (showStages t) := by
  unfold Machine.showStages
  refine .foldl (((h.setBit (by decide)).setBit (by decide)).set (by decide)) fun _ n hn h => ?_
  have hreg : (0x10 < 0x60050 + 4 * n ∧ 0x60050 + 4 * n < 0x80800 ∧ 0x60050 + 4 * n ≠ 0x40004) ∧
      0x10 < 0x60060 + 4 * n ∧ 0x60060 + 4 * n < 0x80800 ∧ 0x60060 + 4 * n ≠ 0x40004 := by
    have := List.mem_range.mp hn
    omega
  exact .ite (h.setBit (offClaim_block hreg.1 rfl))
    (.set (.updFio (h.setBit (offClaim_block hreg.1 rfl)) (by rfl)) (offClaim_block hreg.2 rfl))

end State.Gated

/-! ### What a change of role or of the drive leaves of a claim -/

/-- `t` comes from `s` without a change of memory, of PAIR_STATUS, of the no-owner interval or of the drive of LSP_CLK. -/
structure State.OwnKept (s t : State) : Prop where
  mem : t.mem = s.mem
  status : t.reg 0x80800 = s.reg 0x80800
  gap : t.reg 0x80810 = s.reg 0x80810
  clock : t.on Reg.lspStatusClkDrive = s.on Reg.lspStatusClkDrive

theorem State.OwnKept.trans {s t u : State} (h : s.OwnKept t) (h' : t.OwnKept u) : s.OwnKept u :=
  ⟨h'.mem.trans h.mem, h'.status.trans h.status, h'.gap.trans h.gap, h'.clock.trans h.clock⟩

theorem State.Gated.ownKept {own : Bool} {s t : State} (h : s.Gated own t) : s.OwnKept t :=
  ⟨h.mem, h.reg _ (by decide), h.reg _ (by decide), h.clock⟩

theorem State.OwnKept.held {s t : State} (h : s.OwnKept t) : t.held = s.held := State.on_congr (State.get_of_reg h.status)

/-- The stages have the drive of the module's role. -/
def driven (s : State) : Prop := s.fio.drive = roleDrive s

theorem State.Gated.driven {own : Bool} {s t : State} (h : s.Gated own t) (hs : driven s) : driven t :=
  h.drive.trans (hs.trans h.roleDrive.symm)

/-- Stages that are not held take the drive of the role. -/
theorem followRole_driven {s : State} (h : s.fio.drive ≠ .hold) : driven (followRole s) := by
  unfold followRole
  split
  next hsame => exact hsame.resolve_left h
  next =>
    obtain ⟨v, hv⟩ : ∃ v, v = s.updFio (fun f => { f with drive := roleDrive s }) := ⟨_, rfl⟩
    have hgated : v.Gated true (showStages v) := (State.Gated.refl v).showStages
    have hdriven : driven v := by
      rw [hv]
      exact rfl
    have heq : setDrive (roleDrive s) s = showStages v := by rw [hv]; rfl
    rw [heq]
    exact hgated.driven hdriven

theorem setDrive_ownKept (d : Drive) (s : State) : s.OwnKept (setDrive d s) := by
  obtain ⟨v, hv⟩ : ∃ v, v = s.updFio (fun f => { f with drive := d }) := ⟨_, rfl⟩
  have hkept : s.OwnKept v := by
    rw [hv]
    exact ⟨rfl, rfl, rfl, rfl⟩
  have heq : setDrive d s = showStages v := by rw [hv]; rfl
  rw [heq]
  exact hkept.trans ((State.Gated.refl v).showStages (own := true)).ownKept

theorem followRole_ownKept (s : State) : s.OwnKept (followRole s) := by
  unfold followRole
  split
  · exact ⟨rfl, rfl, rfl, rfl⟩
  · exact setDrive_ownKept ..

theorem followPeers_ownKept (s : State) : s.OwnKept (followPeers s) := by
  unfold followPeers
  split
  · exact followRole_ownKept s
  · exact ⟨rfl, rfl, rfl, rfl⟩

theorem setRole_ownKept (r : Nat) (s : State) : s.OwnKept (setRole r s) := by
  unfold setRole
  split
  · exact ⟨rfl, rfl, rfl, rfl⟩
  · have hreg {a : Nat} (ha : a ≠ 0x10 ∧ a ≠ Ev.sysRoleChange.flag.addr ∧ ∀ c ∈ Ev.sysRoleChange.cnt, a ≠ c.addr) :
        ((s.set Reg.sysRoleRole r).raise Ev.sysRoleChange).reg a = s.reg a :=
      (State.reg_raise_other _ _ _ ha.2.1 ha.2.2).trans (State.reg_set_other _ _ _ _ ha.1)
    exact ⟨(State.raise_mem ..).trans (State.set_mem ..), hreg (by decide), hreg (by decide),
      State.on_congr (State.get_of_reg (f := Reg.lspStatusClkDrive) (hreg (by decide)))⟩

/-- A module with driven stages that enters a role. -/
theorem enterRole_claims {r : Nat} (hr : r < 8) {s : State} (h : s.fio.drive ≠ .hold) : s.OwnKept (enterRole r s) ∧
    (enterRole r s).role = r ∧ driven (enterRole r s) ∧ (enterRole r s).pair.takeovers = s.pair.takeovers ∧
    (enterRole r s).pair.killDue = s.pair.killDue := by
  obtain ⟨v, hv⟩ : ∃ v, v = setRole r s := ⟨_, rfl⟩
  obtain ⟨w, hw⟩ : ∃ w, w = reviewPairOk v := ⟨_, rfl⟩
  have hpair : v.pair = s.pair := hv ▸ pair_setRole ..
  have hfio : v.fio = s.fio := hv ▸ setRole_fio ..
  have hwv : v.OwnKept w := by
    rw [hw]
    exact ⟨rfl, rfl, rfl, rfl⟩
  have hwfio : w.fio = s.fio := by rw [hw]; exact hfio
  have heq : enterRole r s = followRole w := by rw [hw, hv]; rfl
  obtain ⟨hwpair, -, -⟩ := (followRole_kept w).pair rfl
  obtain ⟨hrole, -⟩ := enterRole_shows hr s
  refine ⟨?_, hrole, ?_, ?_, ?_⟩
  · rw [heq]
    exact ((hv ▸ setRole_ownKept r s : s.OwnKept v).trans hwv).trans (followRole_ownKept w)
  · rw [heq]
    exact followRole_driven (by rw [hwfio]; exact h)
  · rw [heq, hwpair, hw, ← hpair]
    rfl
  · rw [heq, hwpair, hw, ← hpair]
    rfl

/-- Stages that have the drive of the role keep it. -/
theorem followPeers_of_driven {s : State} (h : driven s) : followPeers s = s := by
  have hsame : followRole s = s := if_pos (.inr h)
  rw [followPeers, hsame, ite_self]

/-- The open gates of a module that holds OWN follow its peers. -/
theorem followPeers_driven {s : State} (hheld : s.held = true) (hkill : s.on Reg.hhkPairStatusKillIn = false)
    (h : s.fio.drive = .owner) : driven (followPeers s) := by
  unfold followPeers
  cases htriad : s.triad with
  | true =>
    rw [hheld, Bool.and_self, if_pos rfl]
    exact followRole_driven (by rw [h]; exact Drive.noConfusion)
  | false =>
    rw [Bool.false_and, if_neg Bool.false_ne_true, driven, h, roleDrive, hkill, hheld, htriad]
    rfl

end Sys2Proof.Machine
end

section
/-! PROOF. The confirmation of a claim (11 R339, R342, R344, R348, 08 R264): the module that holds OWN, by the role it claimed from. -/

namespace Sys2Proof.Machine

section Claim

variable {s : State}

/-! ### OWN is held and the gates open (R338, R339) -/

/-- The module holds OWN, low on the line, the publication master in a triad. -/
def ownTaken (s : State) : State :=
  (({ s with pair := { s.pair with claiming := false } }.setBit Reg.hhkPairStatusOwnHeld true).setBit
    Reg.hhkPairStatusOwnLine true).setBit Reg.sysRolePubMaster
      (({ s with pair := { s.pair with claiming := false } }.setBit Reg.hhkPairStatusOwnHeld true).setBit
        Reg.hhkPairStatusOwnLine true).triad

/-- The claim takes effect by the role it began in. -/
def claimed (s w : State) : State :=
  if s.pair.longQuiet then claimBack w
  else if s.pair.claimFrom = roleStandby then claimFromStandby w
  else claimAtStart w

/-- The state of a module that has opened its gates. -/
def gatesOwned (gap : Nat) (s : State) : State := recordGap gap (gatesOpen (ownTaken s))

theorem takeOwn_eq (gap : Nat) (s : State) :
    takeOwn gap s = showPmus (closeClients (showSending (showTriad (followPeers (claimed s (gatesOwned gap s)))))) := by
  unfold takeOwn claimed gatesOwned ownTaken
  rfl

theorem get_ownTaken {f : Fld} (hf : (Reg.sysRolePubMaster.apart f && Reg.hhkPairStatusOwnLine.apart f &&
    Reg.hhkPairStatusOwnHeld.apart f) = true) (s : State) : (ownTaken s).get f = s.get f := by
  simp only [Bool.and_eq_true] at hf
  unfold ownTaken
  generalize hb : State.triad _ = b
  exact (State.get_set_apart _ _ _ _ rfl hf.1.1).trans ((State.get_set_apart _ _ _ _ rfl hf.1.2).trans
    ((State.get_set_apart _ _ _ _ rfl hf.2).trans (State.get_mk ..)))

theorem ownTaken_shows (s : State) : (ownTaken s).mem = s.mem ∧ (ownTaken s).held = true ∧
    (ownTaken s).on Reg.hhkPairStatusOwnLine = true ∧
    (ownTaken s).pair = { s.pair with claiming := false } := by
  unfold ownTaken
  generalize hb : State.triad _ = b
  refine ⟨(State.setBit_mem ..).trans ((State.setBit_mem ..).trans (State.setBit_mem ..)), ?_, ?_, ?_⟩
  · exact (State.on_setBit_off _ _ _ _ (by decide)).trans ((State.on_setBit_off _ _ _ _ (by decide)).trans
      (State.on_setBit_self _ _ _ (by decide)))
  · exact (State.on_setBit_off _ _ _ _ (by decide)).trans (State.on_setBit_self _ _ _ (by decide))
  · rw [State.setBit_pair, State.setBit_pair, State.setBit_pair]

theorem recordGap_shows (gap : Nat) (s : State) : (recordGap gap s).mem = s.mem ∧ (recordGap gap s).pair = s.pair ∧
    (recordGap gap s).fio = s.fio ∧ (∀ f : Fld, f.addr ≠ 0x80810 → (recordGap gap s).get f = s.get f) ∧
    (recordGap gap s).get Reg.hhkPairGapLastNs = min 65535 gap := by
  unfold recordGap State.maxTo
  have hgap (v : State) : (v.set Reg.hhkPairGapLastNs (satTo 65535 gap)).get Reg.hhkPairGapLastNs = min 65535 gap := by
    rw [State.get_set_self _ _ _ (by decide), satTo]
    simp only [Reg.hhkPairGapLastNs]
    split <;> omega
  have hoff {f : Fld} (hf : f.addr ≠ 0x80810) (v : State) (n : Nat) :
      (v.set Reg.hhkPairGapLastNs n).get f = v.get f := State.get_of_reg (State.reg_set_other _ _ _ _ hf)
  split
  · refine ⟨(State.set_mem ..).trans (State.set_mem ..), (State.set_pair ..).trans (State.set_pair ..),
      (State.set_fio ..).trans (State.set_fio ..), fun f hf => ?_, ?_⟩
    · exact (State.get_of_reg (State.reg_set_other _ Reg.hhkPairGapMaxNs _ _ hf)).trans (hoff hf ..)
    · exact (State.get_set_off _ _ _ _ (by decide)).trans (hgap s)
  · exact ⟨State.set_mem .., State.set_pair .., State.set_fio .., fun f hf => hoff hf .., hgap s⟩

theorem gatesOpen_shows (s : State) : (gatesOpen s).mem = s.mem ∧ (gatesOpen s).pair = s.pair ∧
    (gatesOpen s).fio.drive = .owner ∧ (gatesOpen s).on Reg.lspStatusClkDrive = true ∧ (gatesOpen s).role = s.role ∧
    (∀ f : Fld, f.addr = 0x80800 → (gatesOpen s).get f = s.get f) ∧ (gatesOpen s).now = s.now := by
  obtain ⟨v, hv⟩ : ∃ v, v = setDrive .owner s := ⟨_, rfl⟩
  have hkept : s.FaultKept true v := hv ▸ (State.FaultKept.refl s).setDrive
  have hlasts : s.Lasts (v.setBit Reg.lspStatusClkDrive true) := (hv ▸ (State.Lasts.refl s).setDrive : s.Lasts v).setBit (by decide)
  have hdrive : v.fio.drive = .owner := by
    rw [hv, setDrive, showStages_drive]
    rfl
  obtain ⟨hpair, -, -⟩ := hkept.pair rfl
  unfold gatesOpen
  rw [← hv]
  refine ⟨(State.setBit_mem ..).trans hkept.mem, (State.setBit_pair ..).trans hpair, ?_, State.on_setBit_self _ _ _ (by decide),
    (State.get_setBit_off _ _ _ _ (by decide)).trans hkept.role, fun f hf => ?_, hlasts.now⟩
  · rw [State.setBit_fio, hdrive]
  · exact (State.get_set_apart _ _ _ _ rfl (Fld.apart_of_addr (by rw [hf]; decide))).trans (hkept.get_status hf)

/-- What a module that has taken OWN shows. -/
structure State.Owns (gap : Nat) (s t : State) : Prop where
  mem : t.mem = s.mem
  held : t.held = true
  line : t.on Reg.hhkPairStatusOwnLine = true
  kill : t.on Reg.hhkPairStatusKillIn = s.on Reg.hhkPairStatusKillIn
  clock : t.on Reg.lspStatusClkDrive = true
  gap : t.get Reg.hhkPairGapLastNs = min 65535 gap

theorem State.Owns.kept {gap : Nat} {t u : State} (h : s.Owns gap t) (h' : t.OwnKept u) : s.Owns gap u where
  mem := h'.mem.trans h.mem
  held := h'.held.trans h.held
  line := (State.on_congr (State.get_of_reg h'.status)).trans h.line
  kill := (State.on_congr (State.get_of_reg h'.status)).trans h.kill
  clock := h'.clock.trans h.clock
  gap := (State.get_of_reg h'.gap).trans h.gap

theorem gatesOwned_shows (gap : Nat) (s : State) : s.Owns gap (gatesOwned gap s) ∧ (gatesOwned gap s).role = s.role ∧
    (gatesOwned gap s).fio.drive = .owner ∧ (gatesOwned gap s).pair = { s.pair with claiming := false } ∧
    (gatesOwned gap s).now = s.now := by
  obtain ⟨u, hu⟩ : ∃ u, u = ownTaken s := ⟨_, rfl⟩
  obtain ⟨hmem, hheld, hline, hpair⟩ := ownTaken_shows s
  have hget {f : Fld} (hf : (Reg.sysRolePubMaster.apart f && Reg.hhkPairStatusOwnLine.apart f &&
    Reg.hhkPairStatusOwnHeld.apart f) = true) : u.get f = s.get f := hu ▸ get_ownTaken hf s
  rw [← hu] at hmem hheld hline hpair
  obtain ⟨v, hv⟩ : ∃ v, v = gatesOpen u := ⟨_, rfl⟩
  obtain ⟨hvmem, hvpair, hdrive, hclock, hrole, hstatus, hnow⟩ := gatesOpen_shows u
  rw [← hv] at hvmem hvpair hdrive hclock hrole hstatus hnow
  obtain ⟨hwmem, hwpair, hwfio, hwget, hwgap⟩ := recordGap_shows gap v
  have heq : gatesOwned gap s = recordGap gap v := by rw [hv, hu]; rfl
  rw [heq]
  refine ⟨⟨hwmem.trans (hvmem.trans hmem), ?_, ?_, ?_, ?_, hwgap⟩, ?_, ?_, hwpair.trans (hvpair.trans hpair), ?_⟩
  · exact (State.on_congr ((hwget _ (by decide)).trans (hstatus _ rfl))).trans hheld
  · exact (State.on_congr ((hwget _ (by decide)).trans (hstatus _ rfl))).trans hline
  · exact State.on_congr ((hwget _ (by decide)).trans ((hstatus _ rfl).trans (hget (by decide))))
  · exact (State.on_congr (hwget _ (by decide))).trans hclock
  · exact (hwget _ (by decide)).trans (hrole.trans (hget (by decide)))
  · rw [hwfio, hdrive]
  · have hwnow : (recordGap gap v).now = v.now := by
      rw [State.now, State.now, State.seconds, State.seconds, hwget _ (by decide), hwget _ (by decide), hwget _ (by decide)]
    have hunow : u.now = s.now := by
      rw [State.now, State.now, State.seconds, State.seconds, hget (by decide), hget (by decide), hget (by decide)]
    rw [hwnow, hnow, hunow]

/-! ### The claim by the role it began in -/

theorem claimBack_gated (w : State) : w.Gated false (claimBack w) := by
  unfold claimBack recordOwn
  exact .fwLog (.raise (.updPair (((State.Gated.refl w).updPair (by rfl) (by rfl)).cancelHandover) (by rfl) (by rfl)) (by decide))

theorem adoptNamed_gated (sn : Snapshot) (w : State) : w.Gated false (adoptNamed sn w) := by
  have hbegun : w.Gated false (bumpConf confStop (beginConf (.stop false) w)) := .upd (.upd (.refl w))
  unfold adoptNamed
  extract_lets prog h q swap start s1 s2 p2 s3 p3
  have h1 : w.Gated false s1 := .ite hbegun (.refl w)
  have h3 : w.Gated false s3 := .updPair (.upd h1) (by rfl) (by rfl)
  clear_value q
  cases q with
  | none => exact h3
  | some f => exact .ite (.set (f := Reg.hhkPairResyncPhase) (h3.updPair (by rfl) (by rfl)) (by decide)) h3

theorem dropPending_gated (w : State) : w.Gated false (dropPending w) := by
  unfold dropPending recordCmp
  refine .updPair (t := w.pair.ownSigs.foldl _ w) ?_ (by rfl) (by rfl)
  exact (State.Gated.refl w).foldl fun _ _ _ h => h.updPair (by rfl) (by rfl)

/-- What a snapshot of the owner names stands. -/
def adopted (w : State) : State :=
  match ownerCopy w with
  | some sn => adoptNamed sn w
  | none => w

/-- The move of ownership is counted, and comparisons that a pair has pending are dropped. -/
def moved (w : State) : State := countMove (if (adopted w).triad then adopted w else dropPending (adopted w))

theorem moved_gated (w : State) : w.Gated false (moved w) := by
  have hadopted : w.Gated false (adopted w) := by
    unfold adopted
    split
    · exact adoptNamed_gated ..
    · exact .refl w
  unfold moved countMove
  exact .updPair (.ite hadopted (hadopted.trans (dropPending_gated _))) (by rfl) (by rfl)

/-- The claim was announced: no takeover. -/
def announcedClaim (w : State) : Bool := w.pair.announced || handoverClaim w

/-- The record of a module that claims from STANDBY. -/
def tookOver (ann hand : Bool) (s : State) : State :=
  { s with
    prog := { s.prog with copies := [] }
    pair := { s.pair with
      selfRun := 0, killDue := !ann, announced := false, handing := hand
      takeovers := if ann then s.pair.takeovers else s.pair.takeovers + 1 } }

theorem claimFromStandby_eq (w : State) : claimFromStandby w = enterRole roleAlone
    ((recordOwn (if announcedClaim w then 3 else 2) (tookOver (announcedClaim w) (handoverClaim w) (moved w))).raiseIf
      (!announcedClaim w) Ev.hhkPairTakeover) := by
  unfold claimFromStandby announcedClaim tookOver moved adopted
  rfl

theorem claimFromStandby_claims {w : State} (h : w.fio.drive = .owner) : w.OwnKept (claimFromStandby w) ∧
    (claimFromStandby w).role = roleAlone ∧ driven (claimFromStandby w) ∧
    (claimFromStandby w).pair.takeovers = (if announcedClaim w then w.pair.takeovers else w.pair.takeovers + 1) ∧
    (claimFromStandby w).pair.killDue = !announcedClaim w := by
  obtain ⟨v, hv⟩ : ∃ v, v = moved w := ⟨_, rfl⟩
  have hmoved : w.Gated false v := hv ▸ moved_gated w
  obtain ⟨x, hx⟩ : ∃ x, x = recordOwn (if announcedClaim w then 3 else 2) (tookOver (announcedClaim w) (handoverClaim w) v) := ⟨_, rfl⟩
  have hvx : v.OwnKept x := by
    rw [hx]
    exact ⟨rfl, rfl, rfl, rfl⟩
  obtain ⟨y, hy⟩ : ∃ y, y = x.raiseIf (!announcedClaim w) Ev.hhkPairTakeover := ⟨_, rfl⟩
  have hxy : x.Gated true y := hy ▸ (State.Gated.refl x).raiseIf (by decide)
  have hdrive : y.fio.drive = .owner := by
    rw [hxy.drive, hx]
    exact hmoved.drive.trans h
  have hpair : y.pair = x.pair := hxy.pair rfl
  obtain ⟨hkept, hrole, hdriven, htakeovers, hkill⟩ :=
    enterRole_claims (r := roleAlone) (by decide) (s := y) (by rw [hdrive]; exact Drive.noConfusion)
  rw [claimFromStandby_eq, ← hv, ← hx, ← hy]
  refine ⟨((hmoved.ownKept.trans hvx).trans hxy.ownKept).trans hkept, hrole, hdriven, ?_, ?_⟩
  · rw [htakeovers, hpair, hx, ← hmoved.takeovers]
    rfl
  · rw [hkill, hpair, hx]
    rfl

theorem claimAtStart_claims {w : State} (h : w.fio.drive = .owner) : w.OwnKept (claimAtStart w) ∧
    (claimAtStart w).role = roleAlone ∧ driven (claimAtStart w) := by
  obtain ⟨v, hv⟩ : ∃ v, v = enterRole roleAlone (recordOwn 1 w) := ⟨_, rfl⟩
  obtain ⟨hkept, hrole, hdriven, -, -⟩ := enterRole_claims (r := roleAlone) (by decide) (s := recordOwn 1 w)
    (by rw [show (recordOwn 1 w).fio.drive = w.fio.drive from rfl, h]; exact Drive.noConfusion)
  have hrecorded : w.OwnKept (recordOwn 1 w) := ⟨rfl, rfl, rfl, rfl⟩
  rw [← hv] at hkept hrole hdriven
  have hgated : v.Gated false (claimAtStart w) := by
    unfold claimAtStart
    rw [← hv]
    exact .upd ((State.Gated.refl v).startSingletons)
  exact ⟨(hrecorded.trans hkept).trans hgated.ownKept, hgated.role.trans hrole, hgated.driven hdriven⟩

/-- The stages, the role and the record that a claim leaves. -/
structure Taken (s t : State) : Prop where
  drive : s.on Reg.hhkPairStatusKillIn = false → driven t
  back : s.pair.longQuiet = true → t.role = s.role
  role : s.pair.longQuiet = false → t.role = roleAlone
  standby : s.pair.longQuiet = false → s.pair.claimFrom = roleStandby → t.pair.takeovers =
    (if announcedClaim s then s.pair.takeovers else s.pair.takeovers + 1) ∧ t.pair.killDue = !announcedClaim s

theorem Taken.gated {t u : State} (h : Taken s t) (h' : t.Gated true u) : Taken s u where
  drive hk := h'.driven (h.drive hk)
  back hq := h'.role.trans (h.back hq)
  role hq := h'.role.trans (h.role hq)
  standby hq hf := by
    rw [h'.pair rfl]
    exact h.standby hq hf

theorem announcedClaim_gatesOwned (gap : Nat) (s : State) : announcedClaim (gatesOwned gap s) = announcedClaim s := by
  obtain ⟨-, -, -, hpair, hnow⟩ := gatesOwned_shows gap s
  rw [announcedClaim, announcedClaim, handoverClaim, handoverClaim, State.t0, State.t0, hnow, hpair]

/-- A claim, with the stages of a triad's master after its peers. -/
theorem claimed_shows (gap : Nat) (s : State) : s.Owns gap (followPeers (claimed s (gatesOwned gap s))) ∧
    Taken s (followPeers (claimed s (gatesOwned gap s))) := by
  obtain ⟨w, hw⟩ : ∃ w, w = gatesOwned gap s := ⟨_, rfl⟩
  obtain ⟨howns, hrole, hdrive, hpair, -⟩ := gatesOwned_shows gap s
  have hann := announcedClaim_gatesOwned gap s
  rw [← hw] at howns hrole hdrive hpair hann ⊢
  unfold claimed
  split
  next hback =>
    have hgated := claimBack_gated w
    have hclaimed := howns.kept hgated.ownKept
    refine ⟨hclaimed.kept (followPeers_ownKept _), fun hk => ?_, fun _ => ?_, fun h => absurd (hback.symm.trans h) (by decide),
      fun h => absurd (hback.symm.trans h) (by decide)⟩
    · exact followPeers_driven hclaimed.held (hclaimed.kill.trans hk) (hgated.drive.trans hdrive)
    · exact (followPeers_kept _).role.trans (hgated.role.trans hrole)
  next hback =>
    split
    next hstandby =>
      obtain ⟨hkept, halone, hdriven, htakeovers, hkill⟩ := claimFromStandby_claims hdrive
      rw [followPeers_of_driven hdriven]
      refine ⟨howns.kept hkept, fun _ => hdriven, fun h => absurd h hback, fun _ => halone, fun _ _ => ⟨?_, ?_⟩⟩
      · rw [htakeovers, hann, hpair]
      · rw [hkill, hann]
    next hother =>
      obtain ⟨hkept, halone, hdriven⟩ := claimAtStart_claims hdrive
      rw [followPeers_of_driven hdriven]
      exact ⟨howns.kept hkept, fun _ => hdriven, fun h => absurd h hback, fun _ => halone, fun _ h => absurd h hother⟩

/-! ### CLAIM_CONFIRM (R339, 08 R264) -/

/-- The frame's traffic leaves at once, where the claim is confirmed behind its release. -/
def releasedLate (s : State) : State := if s.time.ticked && decide (215000 ≤ s.now - s.t0) then releaseFrame s else s

theorem exec_claimConfirm (h : s.pair.claiming = true) (low : Bool) (gap : Nat) : exec (.claimConfirm low gap) s = .next (
    if low then releasedLate (takeOwn gap s)
    else fail 0x15 0xFF 0xFF false
      (recordOwn 5 ({ s with pair := { s.pair with claiming := false } }.raise Ev.hhkPairOwnFault))) := by
  refine congrArg Host.Outcome.next (if_neg ?_)
  rw [h]
  exact Bool.false_ne_true

theorem exec_claimConfirm_unclaimed (h : s.pair.claiming = false) (low : Bool) (gap : Nat) :
    exec (.claimConfirm low gap) s = .next s := congrArg Host.Outcome.next (if_pos (by rw [h]; rfl))

theorem leads_claimConfirm_high (h : s.pair.claiming = true) (gap : Nat) : leads (.claimConfirm false gap) s (fun t =>
    memKept s t ∧ t.on Ev.hhkPairOwnFault.flag = true ∧ hasFailed 0x15 0xFF t) := by
  obtain ⟨v, hv⟩ : ∃ v : State, v = { s with pair := { s.pair with claiming := false } } := ⟨_, rfl⟩
  have hmem : v.mem = s.mem := by rw [hv]
  refine ⟨_, (exec_claimConfirm h false gap).trans (congrArg Host.Outcome.next (if_neg Bool.false_ne_true)), ?_⟩
  rw [← hv]
  exact fail_ownFault ((recordOwn_mem ..).trans ((State.raise_mem ..).trans hmem))
    ((on_recordOwn ..).trans (State.on_raise_flag _ _ (by decide)))

theorem leads_claimConfirm_low (h : s.pair.claiming = true) (gap : Nat) : leads (.claimConfirm true gap) s (fun t =>
    memKept s t ∧ t.held = true ∧ t.on Reg.hhkPairStatusOwnLine = true ∧
    (s.on Reg.hhkPairStatusKillIn = false → t.fio.drive = roleDrive t) ∧ t.on Reg.lspStatusClkDrive = true ∧
    t.get Reg.hhkPairGapLastNs = min 65535 gap ∧
    (s.pair.longQuiet = true → t.role = s.role) ∧
    (s.pair.longQuiet = false → t.role = roleAlone) ∧
    (s.pair.longQuiet = false → s.pair.claimFrom = roleStandby → t.pair.takeovers =
      (if s.pair.announced || handoverClaim s then s.pair.takeovers else s.pair.takeovers + 1) ∧
      t.pair.killDue = !(s.pair.announced || handoverClaim s))) := by
  obtain ⟨v, hv⟩ : ∃ v, v = followPeers (claimed s (gatesOwned gap s)) := ⟨_, rfl⟩
  obtain ⟨howns, htaken⟩ := claimed_shows gap s
  rw [← hv] at howns htaken
  have hshown : v.Gated true (takeOwn gap s) := by
    rw [takeOwn_eq, ← hv]
    exact (State.Gated.refl v).showTriad.showSending.closeClients.showPmus
  have hgated : v.Gated true (releasedLate (takeOwn gap s)) := .ite hshown.releaseFrame hshown
  obtain ⟨hmem, hheld, hline, -, hclock, hgap⟩ := howns.kept hgated.ownKept
  obtain ⟨hdrive, hback, hrole, hstandby⟩ := htaken.gated hgated
  exact ⟨_, (exec_claimConfirm h true gap).trans (congrArg Host.Outcome.next (if_pos rfl)), memKept_of_mem hmem, hheld, hline,
    hdrive, hclock, hgap, hback, hrole, hstandby⟩

end Claim

end Sys2Proof.Machine
end

section
/-! SUPPORT. What the start of the firmware leaves of the count of cold starts and of the mark that the firmware is up (11 R336, 16
R458, 17 R493, 18 R502). `State.Started s t` says so of a state `t` that comes from `s`; one lemma per function of the model gives
it, and its proof follows the function's definition. -/

namespace Sys2Proof.Machine

/-- `t` comes from `s` without a change of the count of cold starts and of the mark that the firmware is up. -/
structure State.Started (s t : State) : Prop where
  fwUp : t.sec.fwUp = s.sec.fwUp
  coldStarts : t.nvs.coldStarts = s.nvs.coldStarts

namespace State.Started

variable {s t u : State}

protected theorem refl (s : State) : s.Started s := ⟨rfl, rfl⟩

protected theorem trans (h : s.Started t) (h' : t.Started u) : s.Started u :=
  ⟨h'.fwUp.trans h.fwUp, h'.coldStarts.trans h.coldStarts⟩

protected theorem ite {c : Prop} [Decidable c] (ht : s.Started t) (hu : s.Started u) : s.Started (if c then t else u) := by
  split <;> assumption

protected theorem foldl {α : Type} {f : State → α → State} {l : List α} (h : s.Started t)
    (hf : ∀ t x, s.Started t → s.Started (f t x)) : s.Started (l.foldl f t) := by
  induction l generalizing t with
  | nil => exact h
  | cons x r ih => exact ih (hf t x h)

/-- What else is kept beside the registers does not matter. -/
protected theorem upd (h : s.Started t) {regs mem mono freeCtr outbox time mbx pair hhk memi gate fio can cfg ast lsp net prog
    pwr bkd pending} :
    s.Started (State.mk regs mem mono freeCtr outbox time mbx pair hhk t.nvs memi gate fio can cfg ast lsp net prog t.sec pwr
      bkd pending) := ⟨h.fwUp, h.coldStarts⟩

protected theorem updNvs (h : s.Started t) {n : NvsSt} (hn : n.coldStarts = t.nvs.coldStarts) : s.Started { t with nvs := n } :=
  ⟨h.fwUp, hn.trans h.coldStarts⟩

protected theorem updSec (h : s.Started t) {f : SecSt → SecSt} (hf : ∀ k, (f k).fwUp = k.fwUp) : s.Started (t.updSec f) :=
  ⟨(hf t.sec).trans h.fwUp, h.coldStarts⟩

protected theorem set (h : s.Started t) {f : Fld} {v : Nat} : s.Started (t.set f v) :=
  ⟨(congrArg SecSt.fwUp (State.set_sec ..)).trans h.fwUp, (congrArg NvsSt.coldStarts (State.set_nvs ..)).trans h.coldStarts⟩

protected theorem setBit (h : s.Started t) {f : Fld} {b : Bool} : s.Started (t.setBit f b) := h.set

protected theorem setReg (h : s.Started t) {a : Nat} {w : Word} : s.Started (t.setReg a w) := h.upd

protected theorem raise (h : s.Started t) {e : Ev} : s.Started (t.raise e) :=
  ⟨(congrArg SecSt.fwUp (State.raise_sec ..)).trans h.fwUp, (congrArg NvsSt.coldStarts (State.raise_nvs ..)).trans h.coldStarts⟩

protected theorem raiseIf (h : s.Started t) {b : Bool} {e : Ev} : s.Started (t.raiseIf b e) := .ite h.raise h

protected theorem sends (h : s.Started t) (h' : t.Sends u) : s.Started u :=
  h.trans ⟨by rw [h'.sec], by rw [h'.nvs]⟩

/-! ### The timebase (02 R41-R53, 18 R502) -/

protected theorem setSource (h : s.Started t) {n} : s.Started (setSource n t) := .ite h h.set.raise

protected theorem setTaiUtc (h : s.Started t) {known offset leap61 leap59} :
    s.Started (setTaiUtc known offset leap61 leap59 t) := by
  unfold Machine.setTaiUtc
  exact h.setBit.set.setBit.setBit.setBit

protected theorem refreshTai (h : s.Started t) : s.Started (refreshTai t) := by
  unfold Machine.refreshTai
  extract_lets src
  refine .ite h ?_
  split
  · exact h.setTaiUtc
  · split
    · exact h.setTaiUtc
    · exact .ite h.setTaiUtc h.setTaiUtc

protected theorem setOwnSource (h : s.Started t) {n} : s.Started (setOwnSource n t) := by
  unfold Machine.setOwnSource leaveFollowed enterHoldover
  exact .setSource (.ite (.ite h (.ite h h.upd)) h)

protected theorem refreshSource (h : s.Started t) : s.Started (refreshSource t) := by
  unfold Machine.refreshSource
  extract_lets n lead time t' own
  have ht' : s.Started t' := h.upd
  exact .ite ht'.setSource (.ite ht'.setOwnSource (.ite ht' ht'.setOwnSource))

protected theorem refreshQuality (h : s.Started t) : s.Started (refreshQuality t) := by
  unfold Machine.refreshQuality showPrio
  extract_lets q was s1 s2 time s3
  have h2 : s.Started s2 := h.set.set.setBit.setBit.setBit
  have h3 : s.Started s3 := .ite h2 (.set (f := Reg.timHoldTimeSec) h2.upd)
  exact h3.set.raiseIf

protected theorem reviewTime (h : s.Started t) : s.Started (reviewTime t) := by
  unfold Machine.reviewTime standForTick setTickRole
  exact .refreshQuality (.refreshTai (.refreshSource (.ite (.ite h h.set.raise) h)))

protected theorem unlock (h : s.Started t) {n} : s.Started (unlock n t) := by
  unfold Machine.unlock updSrc enterHoldover
  have hrun : s.Started (updSrc n (fun c => { c with run := 0 })
      ((t.setBit (Reg.timSrcLocked n) false).setBit (Reg.timSrcFine n) false)) := .upd h.setBit.setBit
  have hown {u : State} (hu : s.Started u) : s.Started (if u.time.ownSel = n then
      ({ u with time := { u.time with lockHeld60 := false } } : State) else u) := .ite hu.upd hu
  exact .ite (hown hrun) (.upd (hown hrun))

protected theorem switchTo (h : s.Started t) {n} : s.Started (switchTo n t) := by
  unfold Machine.switchTo updSrc
  exact .ite h (.upd (.ite (.unlock h.upd) h))

protected theorem refreshAgree (h : s.Started t) : s.Started (refreshAgree t) := by
  unfold Machine.refreshAgree setTimeFault
  exact .ite (.upd (.upd (h.foldl fun _ _ h => h.setBit))) (.upd (h.foldl fun _ _ h => h.setBit))

protected theorem applyTimeConfig (h : s.Started t) : s.Started (applyTimeConfig t) := by
  unfold Machine.applyTimeConfig selectSource
  split
  · exact h
  · exact .reviewTime (.refreshAgree (.switchTo (.foldl h.upd fun _ _ h => h.set)))

protected theorem loadTimeConf (h : s.Started t) : s.Started (loadTimeConf t) := .ite h (.applyTimeConfig h.upd)

protected theorem loadTime (h : s.Started t) : s.Started (loadTime t) := by
  unfold Machine.loadTime setTimeFault stepCounter State.setNow
  exact .ite h (.setSource (.raise (.upd (.set (.set (.set (.upd h.upd)))))))

/-! ### The blocks of the settings (06, 07, 08, 09, 10) -/

protected theorem reviewStations (h : s.Started t) : s.Started (reviewStations t) := by
  unfold Machine.reviewStations reviewStationsAt
  split
  · refine h.foldl fun _ _ h => ?_
    unfold reviewStation
    exact .ite h (.raise (.ite h.set.set.upd h.set.set.upd.upd))
  · exact h

protected theorem showPmus (h : s.Started t) : s.Started (showPmus t) := by
  unfold Machine.showPmus
  exact h.foldl fun _ _ h => h.setBit.setBit.setBit

protected theorem dropItems (h : s.Started t) {b} : s.Started (dropItems b t) := by
  unfold Machine.dropItems
  exact .set (.foldl h.upd fun _ _ h => .ite h h.setReg.setReg.setReg)

protected theorem loseMacsec (h : s.Started t) {n} : s.Started (loseMacsec n t) := by
  unfold Machine.loseMacsec setMacsec
  exact .ite (.raise (.showPmus (.set (.setBit (.ite h.upd h))))) h

protected theorem showPort (h : s.Started t) {b n} : s.Started (showPort b t n) := by
  unfold Machine.showPort
  exact .ite h.setBit.set.setBit.setBit h.setBit.set.setBit.setBit.loseMacsec

protected theorem showSending (h : s.Started t) : s.Started (showSending t) := by
  unfold Machine.showSending
  exact h.foldl fun _ _ h => h.setBit

protected theorem showStages (h : s.Started t) : s.Started (showStages t) := by
  unfold Machine.showStages
  exact .foldl h.setBit.setBit.set fun _ _ h => .ite h.setBit (.set (.upd h.setBit))

protected theorem setDrive (h : s.Started t) {d} : s.Started (setDrive d t) := .showStages h.upd

protected theorem canFail (h : s.Started t) {c o reason bitPos time esi} : s.Started (canFail c o reason bitPos time esi t) := by
  unfold Machine.canFail canLog
  exact .raise (.set (.upd h.upd))

protected theorem netApply (h : s.Started t) {b} : s.Started (netApply b t) := by
  unfold Machine.netApply putConf
  exact .reviewStations (.showPmus (.showSending (.raise (.set (.foldl (.foldl (.set (.set (.foldl h.upd
    fun _ _ h => h.showPort))) fun _ _ h => .setBit (.ite h.upd h)) fun _ _ h => .setBit (.ite (.set h.upd) h))))))

protected theorem applyStream (h : s.Started t) {old b n} : s.Started (applyStream old b t n) :=
  .ite (.set (.setReg h.upd)) h

protected theorem astApply (h : s.Started t) {k b} : s.Started (astApply k b t) := by
  unfold Machine.astApply putConf
  exact .reviewStations (.showPmus (.set (.raise (.setBit (.setBit (.set (.foldl (.upd (.dropItems
    (.foldl h.upd fun _ _ h => h.applyStream))) fun _ _ h => h.setBit)))))))

protected theorem lspApply (h : s.Started t) {b} : s.Started (lspApply b t) := by
  unfold Machine.lspApply putConf reformGroup setArmed showCal
  exact .reviewStations (.setBit (.foldl (.set (.raise (.setBit (.set (.upd (.foldl (.foldl
    (.foldl h.upd fun _ _ h => .ite h h.set) fun _ _ h => .ite h (.ite h.upd (.set (.setBit h.upd)))) fun _ _ h =>
    .ite h.setBit h.setBit.setBit)))))) fun _ _ h => h.setBit))

protected theorem fioApply (h : s.Started t) {b} : s.Started (fioApply b t) := by
  unfold Machine.fioApply putConf
  exact .raise (.showStages (.set (.set (.upd h.upd))))

protected theorem canApply (h : s.Started t) {b} : s.Started (canApply b t) := by
  unfold Machine.canApply putConf showCan
  refine .raise (.set (.foldl (.setBit (.setBit (.setBit (.setBit (.upd (.foldl (h.foldl fun _ _ h => h.foldl fun _ _ h =>
    .ite ?_ h) fun _ _ h => .ite h h.upd)))))) fun _ _ h => h.setBit))
  exact .ite (.ite (.upd (.ite h.canFail h)) (.ite h.canFail h))
    (.upd (.ite (.upd (.ite h.canFail h)) (.ite h.canFail h)))

protected theorem applyObject (h : s.Started t) {k o b} : s.Started (applyObject k o b t) := by
  unfold Machine.applyObject
  split
  · exact h.netApply
  · exact h.astApply
  · exact h.lspApply
  · exact h.fioApply
  · exact h.canApply
  · exact h

protected theorem loadConf (h : s.Started t) {absent} : s.Started (loadConf absent t) := by
  unfold Machine.loadConf
  exact .foldl (.foldl h.upd fun _ _ h => h.applyObject) fun _ _ h => .ite h h.upd

/-! ### The unit and the trial (01 R31, 16 R457-R464) -/

protected theorem setBytes (h : s.Started t) {a : Nat} {bs : List Byte} : s.Started (t.setBytes a bs) := by
  induction bs generalizing t a with
  | nil => exact h
  | cons b bs ih => exact ih h.upd

protected theorem loadUnitCode (h : s.Started t) : s.Started (loadUnitCode t) := by
  unfold Machine.loadUnitCode loadCode
  split
  · exact h.foldl fun _ _ h => h.setBytes.setBytes
  · exact h

protected theorem nandPut (h : s.Started t) {p logical data} : s.Started (nandPut p logical data t) := .ite h (h.updNvs rfl)

protected theorem nandBoot (h : s.Started t) {off data} : s.Started (nandBoot off data t) := h.nandPut.nandPut

protected theorem writeRecord (h : s.Started t) {f : SecSt → SecSt} (hf : ∀ k, (f k).fwUp = k.fwUp) :
    s.Started (writeRecord f t) := by
  have hrecord : s.Started (t.updSec (fun k => { f k with recSeq := (k.recSeq + 1) % 2 ^ 32 })) := h.updSec hf
  unfold Machine.writeRecord
  exact hrecord.nandBoot.nandBoot

protected theorem saveRetain (h : s.Started t) : s.Started (saveRetain t) := .ite h (.updNvs (h.updNvs rfl) rfl)

protected theorem fallBack (h : s.Started t) : s.Started (fallBack t) := by
  unfold Machine.fallBack
  extract_lets a s1 s2 s3
  have h1 : s.Started s1 := h.saveRetain.writeRecord fun _ => rfl
  have h2 : s.Started s2 := h1.updSec fun _ => rfl
  have h3 : s.Started s3 := h2.setBit.set
  exact h3.upd

protected theorem startTrial (h : s.Started t) {absent selfTest} : s.Started (startTrial absent selfTest t) := by
  unfold Machine.startTrial endTrial nameHandover
  extract_lets +onlyGivenNames k stale settings c s1 s2 s3
  have h1 : s.Started s1 := h.upd
  have h2 : s.Started s2 := h1.updSec fun _ => rfl
  have h3 : s.Started s3 := h2.set
  have hfallen : s.Started (s3.updSec (fun k => { k with upd := updFallback, fallDue := true })) :=
    h3.updSec fun _ => rfl
  exact .ite h3 (.ite hfallen.upd h3.fallBack)

protected theorem freeLock (h : s.Started t) : s.Started (freeLock t) := .ite h
  (.sends (.setBit (h.updSec (by exact fun _ => rfl))) (toPeers_sends ..))

protected theorem afterFallback (h : s.Started t) : s.Started (afterFallback t) := by
  unfold Machine.afterFallback
  extract_lets +onlyGivenNames c s1 s2
  have h1 : s.Started s1 := by
    unfold s1
    split
    · exact h.upd
    · exact h
  have h2 : s.Started s2 := (h1.updSec (by exact fun _ => rfl)).freeLock.raise
  have hstep : s.Started (s2.updSec (fun k => { k with groupStep := 0 })) := h2.updSec fun _ => rfl
  exact .ite h2 (hstep.sends (toPeers_sends ..))

/-! ### What the start shows, and the role (11 R336, 13 R409, 17 R497) -/

protected theorem refreshLck (h : s.Started t) : s.Started (refreshLck t) := by
  unfold Machine.refreshLck
  exact h.setBit.setBit.setBit.setBit.set.setBit

protected theorem showSpare (h : s.Started t) : s.Started (showSpare t) := by
  unfold Machine.showSpare
  exact h.foldl fun _ _ h => h.set

protected theorem showArch (h : s.Started t) : s.Started (showArch t) := h.set.set

protected theorem arm (h : s.Started t) : s.Started (arm t) := .ite h h.setBit

protected theorem disarm (h : s.Started t) : s.Started (disarm t) := .setBit h.upd

protected theorem enterRole (h : s.Started t) {r} : s.Started (enterRole r t) := by
  unfold Machine.enterRole reviewPairOk setRole
  have hrole : s.Started (reviewPairOk (setRole r t)) := .upd (.ite h h.set.raise)
  exact .ite hrole hrole.setDrive

protected theorem joinOrClaim (h : s.Started t) : s.Started (joinOrClaim t) := by
  unfold Machine.joinOrClaim
  refine .ite h (.ite (.ite h.arm h) (.ite ?_ (.ite h (.ite (.ite h.arm h) (.disarm h.upd)))))
  exact ((State.Started.disarm h.upd).enterRole.sends (sendJoin_sends _)).sends (askObjects_sends _)

end State.Started

end Sys2Proof.Machine
end

section
/-! PROOF. The start of the firmware, and the ownership of a module with its loss (11 R336-R344, R357, 17 R493). -/

namespace Sys2Proof.Machine

/-! ### The start of the firmware (11 R336, 17 R493) -/

protected theorem State.Started.lifetimeAdd {s t : State} (h : s.Started t) {kind data} : s.Started (lifetimeAdd kind data t) := by
  unfold Machine.lifetimeAdd nandEntries
  exact .ite h (.ite h (.set (.foldl (h.updNvs (by rfl)) fun _ _ h => h.nandPut.nandPut)))

/-- The words of a gate entry lie beside the cause of the last reset. -/
theorem entAddr_ne_rstCause (n k : Nat) (hk : k ≤ 12) (hi lo : Nat) :
    (⟨entAddr 0 n + k, hi, lo⟩ : Fld).addr ≠ Reg.pwrRstCauseLastType.addr := by
  simp only [entAddr, Reg.pwrRstCauseLastType]
  omega

theorem secureDram_started (s : State) : s.Started (secureDram s) := by
  unfold secureDram showLocked
  exact (State.Started.refl s).foldl fun _ _ h => .ite h h.set.set.set.set.setBit.setBit.setBit.set

theorem get_secureDram (s : State) : (secureDram s).get Reg.pwrRstCauseLastType = s.get Reg.pwrRstCauseLastType := by
  unfold secureDram showLocked
  refine foldl_keeps (fun v : State => v.get Reg.pwrRstCauseLastType) (fun t p => ?_) _ s
  have hkeep {k hi lo : Nat} (hk : k ≤ 12) (v : State) (n : Nat) :
      (v.set ⟨entAddr 0 p.1 + k, hi, lo⟩ n).get Reg.pwrRstCauseLastType = v.get Reg.pwrRstCauseLastType :=
    State.get_of_reg (State.reg_set_other _ _ _ _ (entAddr_ne_rstCause p.1 k hk hi lo).symm)
  dsimp only
  split
  · rfl
  · refine (State.get_of_reg (State.reg_set_other _ _ _ _ (by decide))).trans ?_
    exact (hkeep (k := 8) (by decide) ..).trans ((hkeep (k := 8) (by decide) ..).trans ((hkeep (k := 8) (by decide) ..).trans
      ((hkeep (k := 8) (by decide) ..).trans ((hkeep (k := 12) (by decide) ..).trans ((hkeep (k := 4) (by decide) ..).trans
        (hkeep (k := 0) (by decide) ..))))))

theorem countStart_shows (s : State) : (countStart s).sec.fwUp = s.sec.fwUp ∧ (countStart s).nvs.coldStarts =
    s.nvs.coldStarts + (if s.get Reg.pwrRstCauseLastType = 0 then 1 else 0) := by
  unfold countStart
  split
  next hwarm => exact ⟨rfl, rfl⟩
  next hcold =>
    obtain ⟨v, hv⟩ : ∃ v, v = s.updNvs (fun k => { k with coldStarts := s.nvs.coldStarts + 1 }) := ⟨_, rfl⟩
    have hkept (data : List Byte) : v.Started (lifetimeAdd 2 data v) := (State.Started.refl v).lifetimeAdd
    dsimp only
    rw [← hv, if_pos (not_not.mp hcold)]
    exact ⟨(hkept _).fwUp.trans (by rw [hv]; rfl), (hkept _).coldStarts.trans (by rw [hv]; rfl)⟩

/-- The first of the start: the firmware is up, the DRAM secured and the start counted. -/
theorem startCounted_shows (s : State) :
    (countStart (secureDram (s.updSec (fun k => { k with fwUp := true })))).sec.fwUp = true ∧
    (countStart (secureDram (s.updSec (fun k => { k with fwUp := true })))).nvs.coldStarts =
      s.nvs.coldStarts + (if s.get Reg.pwrRstCauseLastType = 0 then 1 else 0) := by
  obtain ⟨v, hv⟩ : ∃ v, v = s.updSec (fun k => { k with fwUp := true }) := ⟨_, rfl⟩
  have hup : v.sec.fwUp = true := by rw [hv]; rfl
  have hnvs : v.nvs = s.nvs := by rw [hv]; rfl
  have hregs : v.regs = s.regs := by rw [hv]; rfl
  have hsecured := secureDram_started v
  obtain ⟨hcounted, hcold⟩ := countStart_shows (secureDram v)
  rw [← hv, hcounted, hcold, hsecured.fwUp, hsecured.coldStarts, get_secureDram, hnvs, State.get_congr v s hregs]
  exact ⟨hup, rfl⟩

theorem exec_firmwareUp_idle {s : State} (h : s.sec.fwUp = true ∨ s.sec.dead = true) (absent : List Nat) (selfTest : Bool) :
    exec (.firmwareUp absent selfTest) s = .next s :=
  congrArg Host.Outcome.next (if_pos (by rcases h with h | h <;> simp [h]))

/-- What the firmware does once its start is counted. -/
def firmwareStarted (absent : List Nat) (selfTest : Bool) (s : State) : State :=
  let s := (s.setBit Reg.secStatusLock s.sec.lock.isSome).set Reg.secStatusRootPresent 15
  let s := if s.sec.upd = updFallback then afterFallback s else s
  let s := loadTimeConf (loadTime s)
  let s := refreshLck (s.set Reg.hhkPairStatusRank (if s.bench then 0 else ownRank s))
  let s := loadUnitCode (loadConf absent s)
  let s := if (s.slot s.sec.active).state = slotTrial && s.on Reg.secStatusTrial then startTrial absent selfTest s else s
  refreshQuality (joinOrClaim (reviewPairOk (showArch (showSpare s))))

theorem firmwareStarted_started (absent : List Nat) (selfTest : Bool) (s : State) :
    s.Started (firmwareStarted absent selfTest s) := by
  unfold firmwareStarted reviewPairOk
  extract_lets +onlyGivenNames s2 s3 s4 s5 s6 s7
  have h2 : s.Started s2 := (State.Started.refl s).setBit.set
  have h3 : s.Started s3 := .ite h2.afterFallback h2
  have h5 : s.Started s5 := h3.loadTime.loadTimeConf.set.refreshLck
  have h6 : s.Started s6 := h5.loadConf.loadUnitCode
  have h7 : s.Started s7 := .ite h6.startTrial h6
  exact (State.Started.upd h7.showSpare.showArch).joinOrClaim.refreshQuality

theorem exec_firmwareUp {s : State} (hup : s.sec.fwUp = false) (hdead : s.sec.dead = false) (absent : List Nat)
    (selfTest : Bool) : exec (.firmwareUp absent selfTest) s =
      .next (firmwareStarted absent selfTest (countStart (secureDram (s.updSec (fun k => { k with fwUp := true }))))) :=
  congrArg Host.Outcome.next (if_neg (by simp [hup, hdead]))

theorem leads_firmwareUp {s : State} (hup : s.sec.fwUp = false) (hdead : s.sec.dead = false) (absent : List Nat)
    (selfTest : Bool) : leads (.firmwareUp absent selfTest) s (fun t => t.sec.fwUp = true ∧
      t.nvs.coldStarts = s.nvs.coldStarts + (if s.get Reg.pwrRstCauseLastType = 0 then 1 else 0)) := by
  obtain ⟨hfw, hcold⟩ := startCounted_shows s
  have hstarted := firmwareStarted_started absent selfTest (countStart (secureDram (s.updSec (fun k => { k with fwUp := true }))))
  exact ⟨_, exec_firmwareUp hup hdead absent selfTest, hstarted.fwUp.trans hfw, hstarted.coldStarts.trans hcold⟩

/-! ### The obligation -/

/-- Settles O58: each clause is a lemma about its command; a claim is followed from the open gates through the role it began in. -/
theorem ownershipAndItsLoss : Obligations.OwnershipAndItsLoss := by
  unfold Obligations.OwnershipAndItsLoss
  intro s
  refine ⟨fun a b => ⟨fun h => exec_firmwareUp_idle h a b, fun hup hdead => leads_firmwareUp hup hdead a b⟩,
    exec_peerWaitExpiry_other, fun hrole hfw hleft hpeers hgroup => ?_, leads_ownLineFall, leads_quietTimeExpiry_killed,
    fun hkill => ⟨leads_quietTimeExpiry_armed hkill, fun harmed hheld => ?_, leads_quietTimeExpiry_unarmed hkill⟩,
    fun low gap h => exec_claimConfirm_unclaimed h low gap,
    fun gap h => ⟨leads_claimConfirm_high h gap, leads_claimConfirm_low h gap⟩, leads_ownFault, fun h => ?_, fun h => ?_,
    leads_peerKillOutAssert, fun h => ?_, fun h => ?_, leads_peerKillIn, leads_peerKillInRelease, leads_pairOkMissing,
    leads_pairOkEdge, leads_hollyhockLost, leads_ownerLost⟩
  · have halone : alone s := ⟨hrole, hfw, hleft, hpeers, hgroup⟩
    exact ⟨leads_peerWaitExpiry_low halone, leads_peerWaitExpiry_high halone⟩
  · rw [exec_quietTimeExpiry_unarmed hkill harmed, quietSensed, if_pos hheld]
  · exact congrArg Host.Outcome.next (if_neg (by rw [h]; exact Bool.false_ne_true))
  · rw [killOutDue, h, if_neg Bool.false_ne_true]
  · exact congrArg Host.Outcome.next (if_neg (by rw [h]; exact Bool.false_ne_true))
  · exact congrArg Host.Outcome.next (if_pos h)

end Sys2Proof.Machine
end

section
/-! PROOF. The refutation of the vote of a triad (12 R386, R387): a concrete module that leaves at the vote its LEAVE announced. -/

namespace Sys2Proof.Machine

/-- A triad's PRIMARY that holds OWN, on the vote of which it leaves: two records agree with its own. -/
def leavingVoter : State :=
  let s := State.reset.set Reg.sysModeGroupKind 2
  let s := s.set Reg.sysRoleRole rolePrimary
  let s := s.set Reg.hhkPairStatusOwnHeld 1
  { s with
    time := { s.time with ticked := true }
    pair := { s.pair with
      leaveAt := some 0
      votes := [⟨1, 0, List.replicate 8 0, 0, 0, []⟩, ⟨2, 0, List.replicate 8 0, 0, 0, []⟩] } }

/-- A module that is not FAILED and finds itself in the minority goes SYNCING. -/
theorem leaveAsMinority_role {s : State} (h : s.role ≠ roleFailed) : (leaveAsMinority s).role = roleSyncing := by
  unfold leaveAsMinority
  extract_lets u p v
  have hrole : v.role = s.role := (State.get_mk ..).trans (State.get_raise_off _ _ _ (by decide))
  rw [if_neg (by rw [hrole]; exact h)]
  exact goSyncing_role _

/-- An owner leaves at the vote that its LEAVE announced, whatever the other records are. -/
theorem execVote_leaves {s u : State} (hu : u = toPhase 212000 s) (h : votes s = true)
    (hdue : u.pair.leaveAt = some (frameIndex u.now)) (hheld : u.held = true) (hrole : u.role ≠ roleFailed) :
    ∃ t, execVote s = .next t ∧ t.role = roleSyncing := by
  unfold execVote
  rw [if_neg (by rw [h]; exact Bool.false_ne_true), ← hu]
  extract_lets u k own others r s1 p s2
  have hleaves : (decide (s2.pair.leaveAt = some k) && s2.held) = true := by
    rw [Bool.and_eq_true, decide_eq_true_eq]
    exact ⟨hdue, hheld⟩
  have hsame : s2.role = u.role := State.get_congr s2 u rfl _
  rw [if_pos hleaves]
  exact ⟨_, rfl, leaveAsMinority_role (by rw [hsame]; exact hrole)⟩

/-- Refutes O42: the module in the minority leaves at the vote that its LEAVE announced (12 R386), although at this vote its
signatures are those of the other two. -/
theorem not_signaturesAndVotes : ¬ Obligations.SignaturesAndVotes := by
  unfold Obligations.SignaturesAndVotes
  intro h
  obtain ⟨-, -, -, -, -, -, hvote, -⟩ := h leavingVoter
  have hfirst : (leavingVoter.pair.votes.filter (fun v => v.frame == 0)).take 2 =
      [⟨1, 0, List.replicate 8 0, 0, 0, []⟩, ⟨2, 0, List.replicate 8 0, 0, 0, []⟩] := by decide +kernel
  have hled := hvote 0 _ _ (by decide +kernel) (by decide +kernel) hfirst
  obtain ⟨t, hexec, hsyncing⟩ := execVote_leaves (s := leavingVoter) rfl (by decide +kernel) (by decide +kernel)
    (by decide +kernel) (by decide +kernel)
  obtain ⟨-, -, -, hagree⟩ := leads_next hled hexec
  obtain ⟨hrole, -⟩ := hagree rfl (by decide +kernel)
  exact absurd (hsyncing.symm.trans hrole) (by decide +kernel)

end Sys2Proof.Machine
end
